-- ==== Sys2Proof/Word.lean ====
section
/-! DEFINITION. The plain types the model shares: the names of the units of the E960 (tracks, machines, converters,
domains, engines), the types, accesses and rows of the object dictionary (R411 to R415), sparse tables, and the
plainest arithmetic on counters. -/

namespace Sys2Proof

/-- The bytes of a DOMAIN or STR object, or of a frame, each below 256. -/
abbrev Bytes := List Nat

/-- A sparse table: keys strictly rising, no entry equal to what an unlisted key reads as. -/
abbrev Tab (α : Type) := List (Nat × α)

/-- The two traction machines. -/
inductive Mach where
  | A | B
deriving DecidableEq, Repr

/-- The two bus converters. -/
inductive Conv where
  | dca | dcb
deriving DecidableEq, Repr

/-- The domains of R36, `2010:s` in this order (R427). -/
inductive Domain where
  | sys | tra | trb | grd | dca | dcb | lnk | act | bom
deriving DecidableEq, Repr

/-- The engines of R19. -/
inductive Engine where
  | sup | svc | le (n : Fin 9) | ms (n : Fin 4) | ge | ce0 | ce1
deriving DecidableEq, Repr

/-- The tracks of R47. -/
inductive TrackId where
  | wall | angA | angB | mains | gnd | ax (k : Fin 8) | row (n : Fin 128)
deriving DecidableEq, Repr

/-- The paths of an object access: a CANB or Ethernet source, or the host SPI port (R386 to R396). -/
inductive Path where
  | canb | eth | hsp
deriving DecidableEq, Repr

/-- The value types of R413. -/
inductive ObjTy where
  | bool | u8 | u16 | u32 | u64 | i16 | i32 | i64 | str | domain
deriving DecidableEq, Repr

/-- The access kinds of R415. -/
inductive Access where
  | ro | rw | wo | rws
deriving DecidableEq, Repr

/-- One row of the object dictionary: `base` is index * 256 + subindex of its first object, `n` indices `stride`
apart, `m` consecutive subindices in each. Roles are coded 0 Observer to 4 Vendor, 9 for "not available". `step` 0
is no step; `choices` empty is the whole range from `lo` to `hi`. `mfg` marks a count since manufacture. -/
structure ObjDef where
  base : Nat
  n : Nat
  stride : Nat
  m : Nat
  ty : ObjTy
  acc : Access
  rd : Nat
  wr : Nat
  dflt : Int
  lo : Int
  hi : Int
  step : Nat
  choices : List Int
  mfg : Bool
deriving DecidableEq, Repr

/-- What HN0 or HN1 and the observer's filter deliver at a traction boundary: the bridge DC voltage (0.1 V), the phase
sensors (mA), the observer's residual (0.01 % of I_FS), angle, speed (0.1 rpm) and mean acceleration (rpm/s), its
line back-EMF peak (0.1 V) and the current magnitude of the zero-current hold (mA) (R105, R118, R145, R147). -/
structure TracIn where
  vdc : Nat
  iu : Int
  iv : Int
  iw : Int
  resid : Nat
  obsAngle : Nat
  obsSpeed : Int
  obsAccel : Nat
  emf : Nat
  holdI : Nat
deriving DecidableEq, Repr

/-- What HN5 and the nodes deliver at a ledger period (R189, R192, R205): the link voltage (0.1 V), the currents of the
tractor link and the battery (0.1 A), the resistor energy of the last period (µJ), and the mean power of the five
participants over the last period (W, draw positive). -/
structure LinkIn where
  vdc : Nat
  iTractor : Nat
  iBattery : Nat
  chopEnergy : Nat
  measured : List Int
deriving DecidableEq, Repr

/-- What HN2 and the PLL deliver at a grid boundary (R209, R213 to R215): the positive-sequence line voltage (0.1 V rms),
frequency (mHz), phase angle and phase error (angle units), unbalance (0.1 %), phase sequence, ROCOF (mHz/s), the largest
phase current and the current the load asks for (0.1 A rms), AC power (W, import positive), the DC-side voltage (0.1 V),
the d and q currents (mA) and voltages (mV). -/
structure GridIn where
  vll : Nat
  freq : Nat
  angle : Nat
  phaseErr : Nat
  unbalance : Nat
  sequence : Nat
  rocof : Int
  iRms : Nat
  iWant : Nat
  pAc : Int
  vdc : Nat
  id : Int
  iq : Int
  vd : Int
  vq : Int
deriving DecidableEq, Repr

/-- What HN3 or HN4 and the converters of group C deliver at a converter boundary (R242, R243, R253): the input voltage
(0.1 V), output voltage (0.01 V) and current (0.1 A), link-side power (W) and current (0.1 A), and the mean primary
current (0.1 A). -/
structure DabIn where
  vin : Nat
  vout : Nat
  iout : Int
  pin : Int
  ihv : Nat
  bias : Nat
deriving DecidableEq, Repr

/-- One leg's readings of an off-state test (R281, R282): the mid-point voltage (mV against DC-) with +1 mA and with -1 mA,
and whether every joined leg lay within 0.5 V of it. -/
structure LegReading where
  plus : Int
  minus : Int
  joined : Bool
deriving DecidableEq, Repr

/-- What group k's comparators and converters deliver at its carrier boundary (R287, R297, R310): VLV (0.01 V), the bootstrap
voltages (0.01 V) and the outputs above VLV - 1.0 V and below 1.0 V by half-bridge, the coil currents A and B or I_DC (mA),
the floating phase (0.01 V) with the WALL of its sample, and the line back-EMF (0.01 V). -/
structure LvIn where
  vlv : Nat
  boots : List Nat
  high : List Bool
  low : List Bool
  i : List Int
  float : Option Nat
  at_ : Nat
  emf : Nat
deriving DecidableEq, Repr

/-- One half-bridge's comparators in the three steps of an LV off-state test: OUT_HIGH and OUT_LOW of each (R306). -/
structure HbReading where
  h1 : Bool
  l1 : Bool
  h2 : Bool
  l2 : Bool
  h3 : Bool
  l3 : Bool
deriving DecidableEq, Repr

/-- A fuse word that does not read strongly (R485 to R489): its number, its values at the normal and the tight margin, and the
value corrected at the normal margin, none where it is uncorrectable. -/
structure FuseRead where
  word : Nat
  normal : Nat
  tight : Nat
  value : Option Nat
deriving DecidableEq, Repr

/-- What a start finds (R97, R181, R451, R485, R499, R24): the die sensors (0.1 °C), the fuse words that do not read strongly, the fuse words
that fail to program, the loop engines that fail their self-check, whether the inertial sensor passes, the size (MiB) that the
expansion device's parameter table gives, none where the table is missing or a mode is, and the deviation of the crystal (ppm). -/
structure StartIn where
  die : List Int
  reads : List FuseRead
  bad : List Nat
  failing : List (Fin 9)
  imuOk : Bool
  xp : Option Nat
  ppm : Int
deriving DecidableEq, Repr

/-- A request of a client as a unit (R389, R390): its path and source, its header's fields and bytes, its data and its MAC. -/
structure Req where
  path : Path
  source : Nat
  op : Nat
  session : Nat
  last : Bool
  seq : Nat
  index : Nat
  sub : Nat
  header : Bytes
  data : Bytes
  mac : Bytes
deriving DecidableEq, Repr

/-- What the E960 meets while it serves a unit: its random numbers for N_D (R394), whether a flash block verified (R450), and the fuse
words that fail to program (R479). -/
structure UnitIn where
  nd : Bytes
  ok : Bool
  bad : List Nat
deriving DecidableEq, Repr

/-- Who asks for a write: the session (0 none), its role, and the header of the response it will get. -/
structure Asker where
  session : Nat
  role : Nat
  head : Bytes
deriving DecidableEq, Repr

/-- An unsigned 32-bit count that saturates. -/
def satU32 (n : Int) : Int := min n 0xFFFFFFFF

/-- An unsigned 32-bit count that wraps. -/
def wrapU32 (n : Int) : Int := n % 0x100000000

/-- A value limited to the signed 32-bit range. -/
def satI32 (n : Int) : Int := max (-2147483648) (min 2147483647 n)

/-- `x` limited to `lo` to `hi`. -/
def clampI (lo hi x : Int) : Int := max lo (min hi x)

/-- The residue of `x` modulo `2^w` read as a signed `w`-bit number (R50). -/
def signedMod (w : Nat) (x : Int) : Int :=
  let r := x % (2 ^ w : Nat)
  if r < (2 ^ (w - 1) : Nat) then r else r - (2 ^ w : Nat)

/-- Bit `i` of a non-negative value. -/
def bitOf (x : Int) (i : Nat) : Bool := (x.toNat >>> i) % 2 == 1

/-- `x` with bit `i` set to `b`. -/
def putBit (x : Int) (i : Nat) (b : Bool) : Int :=
  if b then (x.toNat ||| (1 <<< i) : Nat) else x - (if bitOf x i then ((1 <<< i : Nat) : Int) else 0)

/-- Bits `[hi:lo]` of a non-negative value. -/
def bitsOf (x : Int) (hi lo : Nat) : Nat := (x.toNat >>> lo) % 2 ^ (hi - lo + 1)

/-- Truth as the number 1 or 0, as BOOL objects hold it (R413). -/
def b2i (b : Bool) : Int := if b then 1 else 0

/-- Little-endian bytes of a value (R413). -/
def leBytes : Nat → Int → Bytes
  | 0, _ => []
  | n + 1, x => (x % 256).toNat :: leBytes n (x / 256)

/-- The value of little-endian bytes (R413). -/
def ofLe : Bytes → Nat
  | [] => 0
  | b :: bs => b % 256 + 256 * ofLe bs

end Sys2Proof
end

