-- ==== Sys2Proof/Syntax.lean ====
section
/-! DEFINITION. The commands of the E960: one constructor for each row of spec/opcode_table.json, with the operands
that the row's rule names.  What the outside brings (a measured value, a frame, an edge, an access) is an operand;
what the E960 holds is state. -/

namespace Sys2Proof

/-- A command or event of the E960.  Each constructor's docstring gives its row of the table and its rule. -/
inductive Instr where
  /-- HEARTBEAT_MISSING (R21). The supervisor pair finds an engine's heartbeat missing at a second consecutive ledger period start and reacts for that engine. -/
  | heartbeatMissing (e : Engine)
  /-- SVC_LOCKSTEP_MISMATCH (R22). A service-pair lockstep mismatch raises a Safe-state fault, closes every session and resets the service pair. -/
  | svcLockstepMismatch
  /-- SUP_LOCKSTEP_MISMATCH (R23). A supervisor-pair lockstep mismatch makes the safe-state holder place every domain in its safe state within 1 µs, as a Lockout. -/
  | supLockstepMismatch
  /-- CLOCK_COMPARE (R24). Every 10 µs the supervisor pair compares the crystal-derived clock with its RC oscillator. -/
  | clockCompare (ppm : Int)
  /-- SUPERVISOR_HEARTBEAT_TIMEOUT (R25). After 100 µs without a supervisor heartbeat the safe-state holder places every domain in its safe state on its own. -/
  | supervisorHeartbeatTimeout
  /-- HOLDER_SUPERVISOR_RESET (R553). The holder resets the supervisor pair 1 ms after a lockstep mismatch or after acting alone. -/
  | holderSupervisorReset
  /-- SAR_SPARE_COMPARE (R31). A SAR group's spare converts one in-service converter's input for 10 ms and compares the results. -/
  | sarSpareCompare (g : Fin 3) (c : Fin 7) (diff : Int)
  /-- HN_WINDOW_RESULT (R33). A window result frame from an HV sense node reaches its sequencer. -/
  | hnWindowResult (node : Fin 6) (offset : Bool) (phase : Fin 3) (neg : Bool) (y : Int) (theta : Nat)
  /-- HN_MONITOR_FRAME (R34). A monitor-stream frame carrying decimated channel data arrives from an HV sense node. -/
  | hnMonitorFrame (h : Fin 6) (values : List Int)
  /-- HN_BAD_FRAME (R35). A frame with a bad CRC is discarded and counted, and a window result counts as lost. -/
  | hnBadFrame (h : Fin 6) (window : Bool)
  /-- HN_LINK_LOST (R35). Four consecutive bad frames or 2 µs without a symbol mark an HV link lost, stopping its domains or, for HN5, the whole E960. -/
  | hnLinkLost (h : Fin 6)
  /-- TRACK_SOURCE_UPDATE (R52). A track's source delivers an update, which the track takes as a hold, a correction, a reversal or a jump. -/
  | trackSourceUpdate (t : TrackId) (value rate : Int)
  /-- TRACK_EXTRAPOLATION_TICK (R47). The compare hardware advances a track by extrapolation at the last rate by one tick. -/
  | trackExtrapolationTick (t : TrackId)
  /-- TRK_INVALID (R54). No source update within the source timeout makes the track hold its value, set VALID 0 and raise TRK_INVALID. -/
  | trkInvalid (t : TrackId)
  /-- SLOT_CONTROL_ARM (R61). A CONTROL arm write is accepted, or refused with REFUSED set, and takes effect at the next track update. -/
  | slotControlArm (n : Fin 512)
  /-- SLOT_CONTROL_DISARM (R66). A CONTROL disarm write disarms the slot, after any fire at the same update. -/
  | slotControlDisarm (n : Fin 512)
  /-- SLOT_FIELD_WRITE (R60). A write to TRACK, TARGET, QUALIFIER, ACTION, ARG or PERIOD is checked and disarms the slot. -/
  | slotFieldWrite (n : Fin 512) (field : Fin 6) (value : Int)
  /-- OFFSET_LEARN_START (R72). OFFSET_LEARN 1 starts learning ELEC_OFFSET when the domain is stopped and the speed and back-EMF conditions hold. -/
  | offsetLearnStart (m : Mach) (emf : Nat)
  /-- OFFSET_LEARN_ABORT (R69). OFFSET_LEARN 2 aborts a running offset learning. -/
  | offsetLearnAbort (m : Mach)
  /-- LEARN_ZERO_CROSSING (R72). A positive-going U-V back-EMF zero crossing is recorded, and the 64th ends the learning with a result. -/
  | learnZeroCrossing (m : Mach)
  /-- LEARN_CONDITIONS_LOST (R72). A learning condition lapses before the 64th crossing, so LEARN_STATUS reads 5. -/
  | learnConditionsLost (m : Mach)
  /-- SSI_GUARD_TIMER (R79). No request for REQ_MAX_INTERVAL makes the guard timer start an SSI request. -/
  | ssiGuardTimer (e : Fin 2)
  /-- SSI_FRAME_END (R78). The last bit of an SSI frame is sampled and the frame is checked, rejected or delivered to the track. -/
  | ssiFrameEnd (e : Fin 2) (lead word status check delay : Nat) (dataLow : Bool)
  /-- SSI_MONOFLOP_END (R80). MONOFLOP elapses after a frame and a pending request starts. -/
  | ssiMonoflopEnd (e : Fin 2)
  /-- SSI_SOURCE_TIMEOUT (R78). No accepted frame within the source timeout is an SSI sensor fault. -/
  | ssiSourceTimeout (e : Fin 2)
  /-- INC_EDGE (R82). A filtered quadrature edge changes the incremental count forward or backward. -/
  | incEdge (i : Fin 2) (ab : Fin 4)
  /-- INC_QUALIFIED_INDEX (R83). A qualified index latches and resets COUNT as armed and corrects the angle reference. -/
  | incQualifiedIndex (i : Fin 2)
  /-- INC_ARM_RESET (R83). ARM_RESET 1 arms a once-after-arming index reset. -/
  | incArmReset (i : Fin 2)
  /-- INC_OPEN_WIRE (R86). Open-wire detection on an RS-422 incremental input is a sensor fault at once. -/
  | incOpenWire (i : Fin 2)
  /-- HALL_STATE_CHANGE (R88). A Hall state change sets the angle to the boundary between adjacent states. -/
  | hallStateChange (i : Fin 2) (raw : Fin 8)
  /-- HALL_IMPOSSIBLE_TIMEOUT (R89). An impossible Hall state lasting 200 µs is a sensor fault. -/
  | hallImpossibleTimeout (i : Fin 2)
  /-- HALL_ZERO_TIMEOUT (R88). No Hall change within the zero timeout sets the angle to the centre of the present state. -/
  | hallZeroTimeout (i : Fin 2)
  /-- SPEED_WINDOW_UPDATE (R92). Every 10 µs each pulse input's speed window is updated and the reported method chosen. -/
  | speedWindowUpdate
  /-- SPEED_ZERO_TIMEOUT (R92). ZERO_TIMEOUT without an edge makes an input's speed read 0. -/
  | speedZeroTimeout (i : Fin 7)
  /-- PROBE_ARM (R94). Probe CONTROL 1 arms the latch. -/
  | probeArm (p : Fin 4)
  /-- PROBE_ACKNOWLEDGE (R94). Probe CONTROL 2 clears CAPTURED and OVERRUN. -/
  | probeAcknowledge (p : Fin 4)
  /-- PROBE_DISARM (R93). Probe CONTROL 3 disarms the latch. -/
  | probeDisarm (p : Fin 4)
  /-- PROBE_EDGE (R94). A qualified probe edge is captured with WALL and track value and raises the capture event. -/
  | probeEdge (p : Fin 4) (rising : Bool)
  /-- WHEEL_PULSE (R95). A wheel or radar pulse is counted, or counted as a glitch when shorter than FILTER_US. -/
  | wheelPulse (i : Fin 3) (width : Nat)
  /-- IMU_SAMPLE (R96). The inertial sensor delivers yaw, rates and accelerations to GE at 1 kHz. -/
  | imuSample (yaw ax ay az : Int)
  /-- IMU_SAMPLE_TIMEOUT (R97). 5 ms without an inertial sample sets VALID 0 and raises a BOM Degrade. -/
  | imuSampleTimeout
  /-- TRACTION_BOUNDARY (R103). At a traction carrier or angle-locked boundary LE0 computes from reconstructed currents and the grant and MS0 places the next edges. -/
  | tractionBoundary (m : Mach) (i : TracIn)
  /-- TRA_WINDOW_LOST (R116). A window result not received 250 ns after the window end is lost and counted. -/
  | traWindowLost (m : Mach)
  /-- PATTERN_TABLE_WRITE (R127). A pattern table block is checked and stored, and its usability for each domain decided. -/
  | patternTableWrite (n : Fin 8) (b : Bytes)
  /-- CURVE_WRITE (R140). A current-angle curve block is checked and stored. -/
  | curveWrite (m : Mach) (gen : Bool) (b : Bytes)
  /-- ZERO_HOLD_TIMEOUT (R147). 30 ms in zero-current hold without lock raises a Domain-stop and enters ASC or pulses off. -/
  | zeroHoldTimeout (m : Mach)
  /-- TRACTION_RUN (R149). RUN 1 starts the traction domain from pulses off when its conditions hold, or is refused. -/
  | tractionRun (m : Mach)
  /-- TRACTION_STOP (R149). RUN 0 ramps torque to 0 at TQ_RAMP and then turns pulses off. -/
  | tractionStop (m : Mach)
  /-- TRA_ASC_PROBE (R154). Every PROBE_PERIOD in ASC without a valid sensor all switches turn off for 500 µs to measure the back-EMF. -/
  | traAscProbe (m : Mach)
  /-- ASC_PROBE_END (R154). At the end of the 500 µs probe the bridge stays off when the probe passed or resumes ASC. -/
  | ascProbeEnd (m : Mach) (emf freq : Nat) (dcHigh : Bool)
  /-- LOOP_SAMPLE (R167). At its sample boundary a loop slot applies writes and swaps, reads sources, computes, writes its output and checkpoint. -/
  | loopSample (L : Fin 128)
  /-- LOOP_ENABLE (R169). ENABLE 1 presets the slot for a bumpless first sample. -/
  | loopEnable (L : Fin 128)
  /-- LOOP_DISABLE (R169). ENABLE 0 stops sampling and leaves the output at its last value. -/
  | loopDisable (L : Fin 128)
  /-- BANK_CTRL_SWAP (R170). BANK_CTRL 1 sets a swap mark applied at the next sample boundary. -/
  | bankCtrlSwap (L : Fin 128)
  /-- FLAGS_CLEAR (R166). A FLAGS_CLEAR write clears the selected sticky flags. -/
  | flagsClear (L : Fin 128) (mask : Nat)
  /-- LE_SELF_CHECK (R176). Every 10 ms a loop engine runs its golden-vector and TCM CRC self-check. -/
  | leSelfCheck (n : Fin 9) (pass : Bool)
  /-- LE8_LOAD_COMPLETE (R177). LE8 has loaded a moved engine's slots and the move is reported. -/
  | le8LoadComplete
  /-- LEDGER_PERIOD (R186). Every 50 µs the supervisor pair collects requests, computes the grants and distributes them. -/
  | ledgerPeriod (i : LinkIn)
  /-- LNK_SOURCE_LOST (R192). A source's current below 1 A while the link falls more than 10 V in 200 µs marks it lost. -/
  | lnkSourceLost (src : Fin 2) (i fall : Nat)
  /-- LNK_SOURCE_TIMEOUT (R192). A tractor or BMS limit frame missing for its timeout sets that source's capacity to 0. -/
  | lnkSourceTimeout (src : Fin 2)
  /-- TRACTOR_LIMIT_FRAME (R400). A tractor HV link frame with CODE 0xE9 delivers limits, voltage and link state. -/
  | tractorLimitFrame (name limitA limitB volts state : Nat) (regenOk : Bool)
  /-- LINK_STATUS_FRAME_SEND (R400). Every 100 ms the E960 sends its CODE 0xEA frame to the tractor. -/
  | linkStatusFrameSend
  /-- BMS_LIMIT_FRAME (R401). A BMS frame on CANB delivers discharge and charge limits and contactor state. -/
  | bmsLimitFrame (source limitA limitB volts state : Nat)
  /-- SOURCE_CURRENT_RETURN (R402). For a source reporting state 3, current measured again for 200 µs restores its capacity. -/
  | sourceCurrentReturn (src : Fin 2)
  /-- LINK_CTRL_WRITE (R201). A LINK_CTRL write starts a precharge, connects or disconnects a source, or starts a discharge. -/
  | linkCtrlWrite (v : Int)
  /-- PRECHARGE_CONTACTOR_CLOSED (R201). The precharge contactor's feedback confirms closing and the τ check is timed. -/
  | prechargeContactorClosed
  /-- PRECHARGE_TAU_CHECK (R201). At τ after precharge feedback the link must stand at 50 % of the source voltage. -/
  | prechargeTauCheck (vdc : Nat)
  /-- PRECHARGE_RATIO_REACHED (R201). The link reaches PRE_RATIO of the source voltage and the main closes. -/
  | prechargeRatioReached (vdc : Nat)
  /-- PRECHARGE_TIMEOUT (R201). The ratio not reached within 5τ or PRE_TIMEOUT fails the precharge. -/
  | prechargeTimeout
  /-- MAIN_CLOSE_CONFIRMED (R195). A main contactor's feedback confirms closing and the source counts from the next ledger period. -/
  | mainCloseConfirmed (n : Fin 4) (vdc : Nat)
  /-- PRECHARGE_CONTACTOR_OPEN (R201). 20 ms after the main's feedback the precharge contactor opens and the precharge is done. -/
  | prechargeContactorOpen
  /-- SECOND_SOURCE_CONNECT (R201). A newly named source connects through its main once the link lies within 3 % of its voltage. -/
  | secondSourceConnect (src : Fin 2) (vdc : Nat)
  /-- LNK_CTR_MISMATCH (R195). A main's feedback not confirming within T_CLOSE_MAX or T_OPEN_MAX stops LNK. -/
  | lnkCtrMismatch (n : Fin 4)
  /-- LNK_CTR_DRIVER (R196). A coil over-current or open coil is a driver fault and stops LNK. -/
  | lnkCtrDriver (n : Fin 4) (tooHigh : Bool)
  /-- MAIN_OPEN (R197). A main opens once its current is below I_BREAK or 20 ms have passed. -/
  | mainOpen (src : Fin 2) (i : Nat) (timeout : Bool)
  /-- LNK_CTR_WELD (R199). A link held near the source voltage 500 ms after opening, or rising before precharge, reveals a welded main as a Lockout. -/
  | lnkCtrWeld (src : Fin 2) (vdc : Nat)
  /-- LNK_DISCHARGED (R203). The link falls below 60 V during a discharge. -/
  | lnkDischarged (vdc : Nat)
  /-- DISCHARGE_TIMEOUT (R203). The link still above 60 V 2 s after the discharge start raises a Degrade. -/
  | dischargeTimeout (vdc : Nat)
  /-- CHOPPER_ON (R204). The link rises to CHOP_ON × Vdc_max and the chopper starts switching. -/
  | chopperOn (vdc : Nat)
  /-- CHOPPER_OFF (R204). The link falls to CHOP_OFF × Vdc_max and the chopper stops. -/
  | chopperOff (vdc : Nat)
  /-- CHOPPER_CURRENT_CHECK (R204). 20 µs after turn-on a missing chopper current makes the chopper faulty. -/
  | chopperCurrentCheck (i vdc : Nat)
  /-- CHOPPER_TEST_PULSE (R204). After the quiet period MS2 makes a 20 µs test pulse that can end the chopper fault. -/
  | chopperTestPulse (i vdc : Nat)
  /-- LNK_OV_ASC (R207). Tier 3: an HN5 sample at 1.08 × Vdc_max sends TRA and TRB to ASC. -/
  | lnkOvAsc (vdc : Nat)
  /-- OV_TIER4 (R207). Tier 4: the HN5 comparator at 1.12 × Vdc_max makes the holder force ASC, turn converters off and open contactors. -/
  | ovTier4
  /-- OV_TIER4_RELEASE (R207). The HN5 comparator releases below 1.10 × Vdc_max. -/
  | ovTier4Release
  /-- GRD_MODE_WRITE (R210). A GRD_MODE write selects CHARGE, SUPPLY or off, or stops the port. -/
  | grdModeWrite (v : Int)
  /-- GRD_BOUNDARY (R213). At a MAINS-locked carrier boundary HN2 samples, LE3 computes and MS2 places the next edges. -/
  | grdBoundary (i : GridIn)
  /-- PILOT_READING (R218). The control pilot is measured once per period, or once per 1 ms when steady. -/
  | pilotReading (pos neg : Int) (freq duty : Nat) (steady : Bool)
  /-- PROXIMITY_SAMPLE (R220). Every 10 ms the proximity resistance is sampled and the cable current taken after 3 equal samples. -/
  | proximitySample (ohm : Nat)
  /-- S2_CLOSE (R224). With all CHARGE step-1 conditions met the E960 closes S2. -/
  | s2Close
  /-- LINE_VOLTAGE_WAIT_TIMEOUT (R224). No line voltage within 10 s of pilot C opens S2 and returns to step 1. -/
  | lineVoltageWaitTimeout
  /-- GRD_TRIP (R226). A voltage condition lasting its trip time stops GRD. -/
  | grdTrip
  /-- GRID_FREQUENCY_TRIP (R227). Frequency or ROCOF out of limits for their times stops GRD. -/
  | gridFrequencyTrip
  /-- GRD_UNBALANCE (R227). Unbalance above 5 % for 1 s halves I_LIMIT as a Degrade. -/
  | grdUnbalance
  /-- SUPPLY_START (R229). With the SUPPLY conditions met, MAINS starts and the island voltage ramps up. -/
  | supplyStart
  /-- ISLAND_OVERLOAD_TIMEOUT (R231). Current limit lasting OL_TIME stops GRD. -/
  | islandOverloadTimeout
  /-- ISLAND_SHORT_TIMEOUT (R231). The island still short at the end of SC_TIME stops GRD. -/
  | islandShortTimeout
  /-- GRD_FOREIGN_SOURCE (R232). A line voltage deviating by 20 % for 20 ms, or a connector inserted, stops SUPPLY. -/
  | grdForeignSource
  /-- METER_LOG (R237). Every 10 s the energy counters are logged to flash. -/
  | meterLog
  /-- CONVERTER_RUN (R250). RUN 1 starts a DAB converter when its conditions hold. -/
  | converterRun (c : Conv)
  /-- CONVERTER_AUTO_START (R250). AUTO_START starts a converter at the first ledger period with a V_REF. -/
  | converterAutoStart (c : Conv)
  /-- CONVERTER_BOUNDARY (R242). At each primary leg-1 rising edge LE4 computes and MS2 places the next phase shift. -/
  | converterBoundary (c : Conv) (i : DabIn)
  /-- CONVERTER_STOP (R251). RUN 0 ramps I_LIMIT to 0 over SOFT_START. -/
  | converterStop (c : Conv)
  /-- DCA_STOPPED (R251). At the end of the stop ramp all eight channels turn off. -/
  | dcaStopped (c : Conv)
  /-- DCA_OUT_SHORT (R254). V_OUT below half its reference for 20 ms under current limit turns the converter off. -/
  | dcaOutShort (c : Conv)
  /-- REVERSE_LINK_REACHED (R255). The link within 2 % of the source voltage closes the main. -/
  | reverseLinkReached (vdc : Nat)
  /-- REVERSE_PRECHARGE_FAIL (R255). A low battery, overshoot or timeout fails the reverse precharge. -/
  | reversePrechargeFail (vdc vout : Nat) (timeout : Bool)
  /-- ASSIGN_COMMIT (R261). COMMIT checks and commits the pending gate channel assignment. -/
  | assignCommit (v : Int)
  /-- SYS_GATE_UVLO (R264). A rail under voltage for 1 µs latches a running channel off or is reported. -/
  | sysGateUvlo (n : Fin 40) (pos neg : Bool)
  /-- SYS_GATE_WARN (R265). Gate power above 1,450 mW raises a Notice. -/
  | sysGateWarn (n : Fin 40) (mw : Nat)
  /-- SYS_GATE_SC (R270). A short-circuit detection releases GON, engages soft turn-off and latches the channel. -/
  | sysGateSc (n : Fin 40) (di : Bool)
  /-- SOFT_TURNOFF_END (R270). T_SOFT after GSO engagement the gate is clamped through GOFF. -/
  | softTurnoffEnd (n : Fin 40)
  /-- OC_COMPARATOR_TRIP (R272). An HV node over-current comparator trips and the holder turns its bridges off. -/
  | ocComparatorTrip (h : Fin 6) (tooHigh : List Nat)
  /-- OC_HOLD_RELEASE (R272). 5 µs after the comparator releases the bridges follow their reactions. -/
  | ocHoldRelease (h : Fin 6)
  /-- LATCH_REACTION (R274). A channel latch reaching the main die triggers the bridge reaction of its group. -/
  | latchReaction (n : Fin 40)
  /-- TS_CONVERSION (R276). Every 100 µs a channel converts its switch temperature and warns or latches off. -/
  | tsConversion (n : Fin 40) (temp : Int)
  /-- SYS_GATE_LINK (R277). A missing command or status symbol latches the channel off. -/
  | sysGateLink (n : Fin 40)
  /-- DRIVE_EN_LOW (R278). A filtered low DRIVE_EN puts running bridges into ASC or off and raises the DRIVE_EN faults. -/
  | driveEnLow
  /-- DRIVE_EN_RISE (R279). DRIVE_EN raised after 10 µs low clears every latch whose cause has gone. -/
  | driveEnRise (silent : List Nat)
  /-- OFFSTATE_TEST_REQUEST (R281). A write to 6200:01 starts off-state tests of the named groups. -/
  | offstateTestRequest (mask : Int)
  /-- SYS_DIAG_DONE (R282). An off-state test ends and each leg is judged. -/
  | sysDiagDone (g : Fin 10) (legs : List LegReading) (vl : Int)
  /-- LV_BOUNDARY (R285). An LV group's carrier boundary sets duties for the next period. -/
  | lvBoundary (k : Fin 8) (i : LvIn)
  /-- ACT_BOOT_UV (R288). A bootstrap below 7.5 V turns the group off with a Degrade. -/
  | actBootUv (n : Fin 28)
  /-- ACT_HB_OC (R289). A half-bridge over-current latches it and the group off. -/
  | actHbOc (n : Fin 28)
  /-- CYCLE_BY_CYCLE_TRIP (R290). A shunt comparator ends the on-time until the next period. -/
  | cycleByCycleTrip (k : Fin 8) (coil : Fin 2) (before : Bool)
  /-- VLV_BUDGET_EVAL (R291). Every 1 ms MS3 reduces BLDC limits for I_VLV above 80 A. -/
  | vlvBudgetEval (i : Int)
  /-- ACT_VLV_LOW (R292). VLV below 16 V for 100 µs turns all half-bridges off. -/
  | actVlvLow
  /-- VLV_HW_OVERVOLTAGE (R292). The 64 V comparator turns all half-bridges off. -/
  | vlvHwOvervoltage
  /-- BLDC_RUN (R301). RUN 1 starts a BLDC group with the measurement of R303. -/
  | bldcRun (g : Fin 4)
  /-- BLDC_STOP (R304). RUN 0 or a low set-point ramps to MIN_SPEED and applies STANDSTILL. -/
  | bldcStop (g : Fin 4)
  /-- BLDC_ALIGN_END (R301). ALIGN_TIME ends, AX is set as a jump and the open-loop ramp begins. -/
  | bldcAlignEnd (g : Fin 4)
  /-- BLDC_RAMP_STEP (R301). An open-loop ramp step advances AX by one sector. -/
  | bldcRampStep (g : Fin 4)
  /-- BLDC_RAMP_TIMEOUT (R301). RAMP_TIME ends without handover, so the start fails as a loss. -/
  | bldcRampTimeout (g : Fin 4)
  /-- BLDC_COMMUTATION (R300). AX reaches the placed commutation angle and the group changes sector. -/
  | bldcCommutation (g : Fin 4)
  /-- ACT_BL_LOST (R302). A running group loses its rotor, coasts and schedules a re-catch or stops. -/
  | actBlLost (g : Fin 4)
  /-- RECATCH_START (R303). After 50 ms of coasting the re-catch measurement begins. -/
  | recatchStart (g : Fin 4)
  /-- ACT_BL_RECATCH (R303). The 20 ms measurement ends and the group re-catches, brakes or starts. -/
  | actBlRecatch (g : Fin 4) (angle : Nat) (rate : Int) (amp : Nat)
  /-- LOW_SIDE_BRAKE_END (R303). The back-EMF falls below 2 % or 2 s pass during the low-side brake. -/
  | lowSideBrakeEnd (g : Fin 4) (timeout : Bool)
  /-- TRIES_RESET (R302). After 1 s in STATE 3 TRIES returns to 0. -/
  | triesReset (g : Fin 4)
  /-- LV_DIAG_REQUEST (R306). A DIAG_REQUEST bit starts the off-state test of an LV group. -/
  | lvDiagRequest (mask : Int)
  /-- ACT_DIAG_DONE (R307). An LV off-state test ends and each half-bridge is judged. -/
  | actDiagDone (k : Fin 8) (rs : List HbReading)
  /-- SERVO_PERIOD (R315). Every 250 µs MS3 advances each axis profile and sets the phase accumulator increment. -/
  | servoPeriod (la : List Int)
  /-- MOVE_TO_TARGET (R314). MOVE_CTRL 1 starts or retargets a move to TARGET. -/
  | moveToTarget (a : Fin 4)
  /-- MOVE_BY_TARGET (R314). MOVE_CTRL 2 moves by TARGET from the present target. -/
  | moveByTarget (a : Fin 4)
  /-- MOVE_STOP (R322). MOVE_CTRL 3 decelerates the axis to rest. -/
  | moveStop (a : Fin 4)
  /-- MOVE_HOME (R319). MOVE_CTRL 4 homes the axis against its hard stop. -/
  | moveHome (a : Fin 4)
  /-- MOVE_RELEASE (R314). MOVE_CTRL 5 turns the coils off at once. -/
  | moveRelease (a : Fin 4)
  /-- ENERGISE_END (R314). 20 ms of energising at I_HOLD end and the requested move starts. -/
  | energiseEnd (a : Fin 4)
  /-- STALL_HOLD_END (R318). 50 ms of I_RUN hold after a stall end and standstill follows. -/
  | stallHoldEnd (a : Fin 4)
  /-- ACT_HOMED (R319). 50 ms at HOME_I after the stop AX is set to HOME_POS and HOMED becomes 1. -/
  | actHomed (a : Fin 4)
  /-- HOLD_DELAY_END (R320). HOLD_DELAY ends and the axis is released or shorted. -/
  | holdDelayEnd (a : Fin 4)
  /-- GROUP_MOVE_START (R321). Group CTRL 1 starts a coordinated move of the member axes. -/
  | groupMoveStart (w : Fin 2)
  /-- GROUP_MOVE_STOP (R321). Group CTRL 2 brings the group to rest along the leader's path. -/
  | groupMoveStop (w : Fin 2)
  /-- GEAR_SET_WRITE (R324). A GEAR_SET differing from GEAR_NOW starts a shift. -/
  | gearSetWrite (v : Int)
  /-- ACT_SHIFT_REFUSED (R324). No confirmation within SHIFT_WAIT refuses the shift. -/
  | actShiftRefused
  /-- RETRY_DELAY_END (R325). The retry wait ends and engagement is repeated. -/
  | retryDelayEnd
  /-- PARK_SET_WRITE (R326). PARK_SET engages or releases the park lock under the speed and window interlock. -/
  | parkSetWrite (v : Int)
  /-- DIFF_SET_WRITE (R327). DIFF_SET moves the differential lock axis. -/
  | diffSetWrite (v : Int)
  /-- REHOME_WRITE (R329). REHOME 1 runs the homing of the shift and park axes. -/
  | rehomeWrite (v : Int)
  /-- AUTO_HOME_START (R329). At the first ACT start after a reset with AUTO_HOME 1 the axes are homed. -/
  | autoHomeStart
  /-- GE_UPDATE (R338). Every 250 µs GE integrates heading, advances GND and the row tracks and decides rows. -/
  | geUpdate
  /-- GNSS_FIX_FRAME (R335). A PGN 129029 fix is accepted and corrects the position, or is rejected. -/
  | gnssFixFrame (name method : Nat) (lat lon : Int) (time : Option Int)
  /-- POSITION_RAPID_FRAME (R334). A PGN 129025 rapid position update arrives. -/
  | positionRapidFrame (name : Nat) (lat lon : Int)
  /-- COURSE_SPEED_FRAME (R334). A PGN 129026 course and speed update arrives. -/
  | courseSpeedFrame (name cog sog : Nat)
  /-- HEADING_FRAME (R334). A PGN 127250 heading arrives. -/
  | headingFrame (name head : Nat)
  /-- MACHINE_SPEED_FRAME (R334). An ISO 11783-7 machine selected speed with direction arrives. -/
  | machineSpeedFrame (name : Nat) (forward : Bool)
  /-- BOM_GNSS_LOST (R340). No accepted fix for 1 s starts dead reckoning. -/
  | bomGnssLost
  /-- DIST_SOURCE_TIMEOUT (R340). No valid distance source for 200 ms makes GND and the row tracks invalid. -/
  | distSourceTimeout
  /-- GYRO_BIAS_ESTIMATE (R336). After 2 s at standstill GYRO_BIAS is re-estimated over 1 s. -/
  | gyroBiasEstimate (mean : Int)
  /-- MASTER_WRITE (R352). MASTER 0 switches all sections off at the next GE update, or 1 acts on new points. -/
  | masterWrite (v : Int)
  /-- ROW_ENABLE_WRITE (R352). ROW_ENABLE 0 switches the row off at the next GE update. -/
  | rowEnableWrite (n : Fin 128) (v : Bool)
  /-- COVERAGE_MARK_COMMIT (R344). A queued coverage mark is written to the map after COMMIT_DIST of travel. -/
  | coverageMarkCommit
  /-- JOB_OPEN_KEEP (R356). JOB_CTRL 1 opens the job with the map rebuilt from flash. -/
  | jobOpenKeep
  /-- JOB_OPEN_CLEAR (R356). JOB_CTRL 2 opens the job with a cleared map. -/
  | jobOpenClear
  /-- JOB_CLOSE_SAVE (R356). JOB_CTRL 3 saves and closes the job. -/
  | jobCloseSave
  /-- JOB_SAVE_NOW (R356). JOB_CTRL 4 saves the changed map blocks now. -/
  | jobSaveNow
  /-- JOB_SAVE_PERIODIC (R356). Every SAVE_INTERVAL the changed map blocks are saved. -/
  | jobSavePeriodic
  /-- BOM_JOB_SAVED (R356). A save's commit record is written, or the save fails. -/
  | bomJobSaved (ok : Bool)
  /-- BOUNDARIES_WRITE (R346). A boundary block is checked and stored. -/
  | boundariesWrite (b : Bytes)
  /-- RX_GRID_WRITE (R348). A prescription grid block is checked and stored. -/
  | rxGridWrite (b : Bytes)
  /-- CHAIN_BUILD (R365). 20 µs before a chain cycle the engine builds the frame and sends it around the ring. -/
  | chainBuild (c : Fin 4)
  /-- CHAIN_RETURN (R371). The frame's release returns and reports, credits and counts are applied. -/
  | chainReturn (c : Fin 4) (delay : Nat) (frame : Bytes)
  /-- CHAIN_RETURN_TIMEOUT (R375). A release not returned by T_FRAME + 100 µs counts towards a chain down. -/
  | chainReturnTimeout (c : Fin 4)
  /-- CHAIN_START (R367). CHAIN_CTRL 1 starts a chain when its budget fits. -/
  | chainStart (c : Fin 4)
  /-- CHAIN_STOP (R368). CHAIN_CTRL 2 stops a chain. -/
  | chainStop (c : Fin 4)
  /-- CHAIN_LEARN (R378). CHAIN_CTRL 3 assigns positions to every node in ring order. -/
  | chainLearn (c : Fin 4)
  /-- MAILBOX_READ (R380). Mailbox CTRL 1 reads a node parameter. -/
  | mailboxRead
  /-- MAILBOX_WRITE (R380). Mailbox CTRL 2 writes a node parameter. -/
  | mailboxWrite
  /-- BOM_MBX_TIMEOUT (R380). A mailbox request without answer in 8 cycles times out. -/
  | bomMbxTimeout
  /-- CAN_BUS_OFF (R387). A CAN controller enters bus-off and schedules recovery. -/
  | canBusOff (port : Fin 2)
  /-- BUS_OFF_RECOVERY (R387). The bus-off recovery time elapses and the controller rejoins. -/
  | busOffRecovery (port : Fin 2)
  /-- NET_ETH_LINK (R387). The ETH link goes down or comes back. -/
  | netEthLink (up : Bool)
  /-- UNIT_DISCARD (R387). A malformed unit is discarded without response and counted. -/
  | unitDiscard
  /-- READ (R390). A READ request returns an object value from OFFSET with END set at its end. -/
  | read (path : Path) (source session seq index sub off : Nat) (mac : Bytes)
  /-- WRITE (R390). A WRITE request is checked in order and delivered to the owning engine; also covers objects without a row of their own. -/
  | write (path : Path) (source session seq index sub : Nat) (data mac : Bytes) (u : UnitIn)
  /-- WRITE_SEG (R391). A WRITE_SEG segment stages a DOMAIN value, delivering it whole on LAST. -/
  | writeSeg (path : Path) (source session seq index sub off : Nat) (last : Bool) (data mac : Bytes) (u : UnitIn)
  /-- STAGING_TIMEOUT (R391). 2 s without a segment discards the staging. -/
  | stagingTimeout (n : Fin 8)
  /-- CHALLENGE (R394). A CHALLENGE assigns a session and returns N_D, or is refused. -/
  | challenge (path : Path) (source seq role : Nat) (nc nd : Bytes)
  /-- AUTH (R394). An AUTH with the correct TAG opens the session; a wrong TAG frees it. -/
  | auth (path : Path) (source session seq : Nat) (tag : Bytes)
  /-- AUTH_TIMEOUT (R394). No AUTH within 2 s frees the session number. -/
  | authTimeout (n : Fin 8)
  /-- CLOSE (R396). A CLOSE request closes the session. -/
  | close (path : Path) (source session seq : Nat) (mac : Bytes)
  /-- KEEPALIVE (R392). A KEEPALIVE request keeps the session alive. -/
  | keepalive (path : Path) (source session seq : Nat) (mac : Bytes)
  /-- SESSION_IDLE_TIMEOUT (R396). SESSION_TIMEOUT without an accepted unit closes the session. -/
  | sessionIdleTimeout (n : Fin 8)
  /-- SOURCE_BAR_EXPIRY (R395). 60 s after barring a source CHALLENGE is accepted from it again. -/
  | sourceBarExpiry (path : Path) (source : Nat)
  /-- CLOSE_SESSION (R396). A Service write of CLOSE_SESSION closes the named session. -/
  | closeSession (v : Int)
  /-- ADDRESS_CLAIM_START (R398). At its first CANA transmission the E960 claims PREF_ADDR. -/
  | addressClaimStart
  /-- NET_ADDR_CLAIMED (R398). 250 ms after a claim without contention the address is held. -/
  | netAddrClaimed
  /-- ADDRESS_CONTENTION (R398). A competing claim makes the E960 try the next address or send cannot-claim. -/
  | addressContention (name : Nat)
  /-- PEER_ADDRESS_CLAIM (R399). A peer's address claim updates the peer table. -/
  | peerAddressClaim (addr name : Nat)
  /-- TC_STATUS_MESSAGE (R403). A Task Controller status message starts or maintains the client connection. -/
  | tcStatusMessage (name : Nat)
  /-- NET_TC_LOST (R404). No server status for 6 s ends the connection and sets sections off or BASE_RATE. -/
  | netTcLost
  /-- TC_PROCESS_DATA (R403). Setpoint process data from the server sets section states or the rate. -/
  | tcProcessData (name : Nat) (rate : Option Nat) (first : Nat) (states : List Nat)
  /-- TC_DDOP_UPLOAD_DONE (R403). The device description upload completes and the client connects. -/
  | tcDdopUploadDone
  /-- NOTIFY_SCAN (R408). Every 1 ms enabled maps are scanned and those due are sent. -/
  | notifyScan
  /-- NOTIFY_TRANSMIT (R409). A waiting notification leaves its buffer slot on the port. -/
  | notifyTransmit (eth : Bool)
  /-- COURIER_WRITE (R423). A write through a courier alias is checked for every member and made pending. -/
  | courierWrite (al : Fin 64) (g : Fin 32) (data : Bytes)
  /-- COURIER_CANCEL (R424). Group CTRL 1 cancels a pending courier. -/
  | courierCancel (g : Fin 32)
  /-- RESET_CMD (R428). RESET_CMD 1 is accepted while the power domains are stopped and blocks their starts. -/
  | resetCmd
  /-- RESET_CMD_EXECUTE (R428). 10 ms after the response the commanded reset takes place. -/
  | resetCmdExecute
  /-- NFAULT_PULSE_END (R430). PULSE_MS ends and nFAULT follows NFAULT_LEVEL. -/
  | nfaultPulseEnd
  /-- NFAULT_LEVEL_WRITE (R430). An Operator write of NFAULT_LEVEL under policy 0 takes effect at the next period. -/
  | nfaultLevelWrite (v : Bool)
  /-- POSTMARK_ACK (R516). ACK 1 clears and re-arms a postmark. -/
  | postmarkAck (c : Fin 5)
  /-- NOP (R435). HSP NOP polls the status byte. -/
  | nop
  /-- WRITE_UNIT (R436). HSP WRITE_UNIT delivers a unit to the request buffer, or is discarded. -/
  | writeUnit (bytes : Bytes)
  /-- READ_UNIT (R436). HSP READ_UNIT shifts out the oldest response and consumes it when complete. -/
  | readUnit (words : Nat)
  /-- DIRECT_READ (R437). HSP DIRECT_READ discards the buffer and requests one object's values. -/
  | directRead (ref : Nat)
  /-- READ_DATA (R438). HSP READ_DATA shifts out direct-read buffer words from the read pointer. -/
  | readData (words : Nat)
  /-- HSP_BAD_CMD (R435). An unknown CMD is counted and the transaction ignored. -/
  | hspBadCmd (cmd : Nat)
  /-- HSP_ABORT (R440). HSP_NSS released mid-word or mid-unit discards the transaction. -/
  | hspAbort (cmd len bits : Nat)
  /-- HSP_BUFFER_FILLED (R437). The service pair fills the direct-read buffer and sets RD_READY. -/
  | hspBufferFilled
  /-- HSP_UNIT_TAKEN (R436). The service pair takes the unit and REQ_FREE returns to 1. -/
  | hspUnitTaken (u : UnitIn)
  /-- DAISY_FRAME_LATCH (R442). At HSP_NSS rise a daisy-chained frame is latched and executed, or discarded. -/
  | daisyFrameLatch (bits : Nat) (words : Bytes)
  /-- SP_START (R446). A START write starts a sensor-port queue or holds it pending. -/
  | spStart (p : Fin 3) (v : Int)
  /-- SP_DESCRIPTOR_END (R447). A descriptor ends, RX is written and a chained or pending one starts. -/
  | spDescriptorEnd (p : Fin 3) (rx : List Nat)
  /-- SP_QUEUE_WRITE (R445). A port queue block is checked and replaces the old one when idle. -/
  | spQueueWrite (p : Fin 3) (q : Fin 4) (b : Bytes)
  /-- FLASH_LINE_FILL (R449). A cache miss fetches and decrypts one 32-byte flash line. -/
  | flashLineFill (a : Nat) (cipher : Bytes)
  /-- FLASH_COMMAND_END (R450). A flash program or erase completes or reports failure. -/
  | flashCommandEnd (ok : Bool)
  /-- MEM_WRITE_BACK (R454). A corrected word is written back at the next free cycle unless overwritten. -/
  | memWriteBack (i : Fin 11) (w : Nat) (overwritten : Bool) (verify : Fin 3)
  /-- SCRUB_STEP (R458). A scrubber reads the next word and corrects or marks it. -/
  | scrubStep (i : Fin 11) (err : Fin 3)
  /-- BUCKET_LEAK (R459). Every BUCKET_LEAK the leaky bucket level falls by 1. -/
  | bucketLeak (i : Fin 11)
  /-- M_RECORD_STORE (R463). The supervisor pair stores a remap or poison record in region M. -/
  | mRecordStore (bad : List Nat)
  /-- OTP_PROGRAM (R479). OTP_CMD PROGRAM programs and verifies a fuse word, redirecting on failure. -/
  | otpProgram (n : Fin 8) (w : Fin 1024)
  /-- OTP_LOCK (R481). OTP_CMD LOCK locks a region after checking its header and CRC. -/
  | otpLock (n : Fin 8) (bank : Fin 4)
  /-- OTP_REISSUE (R483). OTP_CMD REISSUE points the present bank at fresh spares once. -/
  | otpReissue (n : Fin 8) (bank : Fin 2)
  /-- OTP_COMMAND_END (R477). An OTP command completes and OTP_STATUS reports its result. -/
  | otpCommandEnd (bad : List Nat) (retries : Fin 5)
  /-- KINT_WRITE (R491). A K_INT block is checked and programmed with its franking. -/
  | kintWrite (b : Bytes) (bad : List Nat)
  /-- LC_CTRL (R493). LC_CTRL requests a permitted life-cycle transition. -/
  | lcCtrl (n : Fin 8) (v : Int)
  /-- LC_STEP_PROGRAM (R494). After the answer the step word is programmed and the E960 resets 10 ms later. -/
  | lcStepProgram (bad : List Nat)
  /-- SHADOW_COMPARE (R489). Every 10 minutes the array is read and compared with the shadow. -/
  | shadowCompare (reads : List FuseRead)
  /-- IMAGE_CONFIRM (R499). 10 s of diagnostic service without reset programs CONFIRMED. -/
  | imageConfirm
  /-- IMG_BEGIN (R501). IMG_CTRL 1 erases the slot not running. -/
  | imgBegin (n : Fin 9)
  /-- IMG_ERASE_END (R501). The slot erase completes and blocks are accepted. -/
  | imgEraseEnd
  /-- IMG_BLOCK (R501). An image block is written in order, encrypted and programmed. -/
  | imgBlock (n : Fin 9) (b : Bytes) (ok : Bool)
  /-- IMG_FINISH (R501). IMG_CTRL 2 verifies the image and commits or rejects it. -/
  | imgFinish (n : Fin 9)
  /-- IMG_ABORT (R502). IMG_CTRL 3 ends the update with COMMIT unset. -/
  | imgAbort (n : Fin 9)
  /-- EVENT_DELIVERY (R505). The sorting office delivers an event to its routes. -/
  | eventDelivery
  /-- QUIET_PERIOD_END (R520). A fault's cause absent for QUIET ends it automatically. -/
  | quietPeriodEnd (code : Nat) (acts : Domain)
  /-- RECENT_WINDOW_EXPIRY (R519). An automatic exit older than 600 s leaves RECENT. -/
  | recentWindowExpiry
  /-- LOCKOUT_CLEAR (R523). LOCKOUT_CLEAR 1 ends every Lockout whose cause has gone. -/
  | lockoutClear
  /-- SAFE_IN_ASSERT (R512). SAFE_IN asserted low makes the holder place every domain in its safe state. -/
  | safeInAssert
  /-- SAFE_IN_RELEASE (R512). The release of SAFE_IN ends fault 0x0606. -/
  | safeInRelease
  /-- FAULT_INJECT (R530). Injection CTRL 1 inverts check bits of the selected target. -/
  | faultInject
  /-- INJECTION_TIMEOUT (R529). An injection not detected within 100 ms reads not detected. -/
  | injectionTimeout
  /-- FAULT_LOG_COPY (R515). Every 10 s the fault log is copied to flash. -/
  | faultLogCopy
  /-- DIE_TEMP_SAMPLE (R539). Every 100 µs the die and driver sensors are sampled and the band evaluated. -/
  | dieTempSample (die : Vector Int 16) (drv : Vector Int 40)
  /-- SLOW_TEMP_SAMPLE (R544). Every 1 ms module, external NTC and HN sensors are sampled. -/
  | slowTempSample (hn : Vector Int 6) (module : Vector Int 4) (ntc : Vector Int 8)
  /-- THROTTLE_PAUSE_END (R542). A throttling pause ends and the throttled operation continues. -/
  | throttlePauseEnd (op : Fin 19)
  /-- VSUP_POWER_ON (R550). VSUP rises past the release level and the E960 starts or sleeps. -/
  | vsupPowerOn (v : Nat)
  /-- VSUP_BROWN_OUT (R550). VSUP below the brown-out level for 1 ms resets the E960. -/
  | vsupBrownOut (v : Nat)
  /-- VSUP_LOSS (R550). VSUP below 13 V stops the gate supplies and clears the retention. -/
  | vsupLoss (v : Nat)
  /-- VSUP_LOW_RANGE (R550). VSUP below 18 V raises a Degrade and refuses starts. -/
  | vsupLowRange (v : Nat)
  /-- VSUP_HIGH_RANGE (R550). VSUP above 32 V raises a Notice. -/
  | vsupHighRange (v : Nat)
  /-- VSUP_OVERVOLTAGE (R550). VSUP above 36 V for 100 µs raises a Safe-state. -/
  | vsupOvervoltage (v : Nat)
  /-- KEY_ON_RISE (R552). KEY_ON rising while asleep starts the E960. -/
  | keyOnRise
  /-- KEY_ON_FALL (R560). KEY_ON falling starts the key-off delay of an orderly shutdown. -/
  | keyOnFall
  /-- RESET_RELEASE (R526). At reset assertion the holder freezes the retention and outputs follow their reset rules. -/
  | resetRelease
  /-- START_SEQUENCE (R554). From reset release the E960 reads fuses, wipes, boots and brings up engines and links. -/
  | startSequence (x : StartIn)
  /-- SERVICE_READY (R554). The service pair begins serving object access and restores recipe values. -/
  | serviceReady
  /-- SYS_POWER_READY (R554). The first domain with its full set can start. -/
  | sysPowerReady
  /-- RECIPE_STORE (R557). An accepted stored-object write is appended to the recipe area with a commit record. -/
  | recipeStore (k : Nat)
  /-- KEYOFF_DELAY_END (R560). KEYOFF_DELAY ends, SYS_SHUTDOWN is raised and domains are stopped. -/
  | keyoffDelayEnd
  /-- SHUTDOWN_DISCONNECT (R560). With domains at rest LINK_CTRL 0 opens the mains and discharges the link. -/
  | shutdownDisconnect
  /-- SHUTDOWN_SAVE (R560). Link discharged or 2 s passed, the job, counters and logs are saved. -/
  | shutdownSave
  /-- SLEEP_ENTER (R560). Saves done and no bridge in ASC, sessions close and the E960 sleeps. -/
  | sleepEnter
  /-- SHUTDOWN_FORCED (R561). SHUTDOWN_MAX passing forces Domain-stop and opens the mains. -/
  | shutdownForced
  /-- SUPPLY_OVERLOAD (R584). A sensor supply in current limit for 10 ms turns off. -/
  | supplyOverload (n : Fin 6)
  /-- SUPPLY_RETRY (R584). Every 1 s a tripped sensor supply retries. -/
  | supplyRetry (n : Fin 6)
  /-- STATUS_FRAME (R568). Every 1 ms a status frame is sent on J9. -/
  | statusFrame
  /-- TRACE_FRAME_SEND (R565). A trace frame of buffered records is sent on J9. -/
  | traceFrameSend
  /-- TRACE_ARM (R573). TRACE_CTRL 1 empties the buffer and starts recording. -/
  | traceArm
  /-- TRACE_STOP (R575). TRACE_CTRL 2 stops writing. -/
  | traceStop
  /-- TRACE_CLEAR (R575). TRACE_CTRL 3 empties the buffer. -/
  | traceClear
  /-- TRACE_POST_DONE (R574). After POST_RECORDS records writing stops and the held content is exported. -/
  | tracePostDone
  /-- TRACE_EXPORT_DONE (R574). The held content has been exported and TRACE_STATE reads 3. -/
  | traceExportDone
  /-- TRACE_CHANNEL_SAMPLE (R571). Every CH_PERIOD an object channel is sampled into the trace buffer. -/
  | traceChannelSample (k : Fin 16)
  /-- CONTACTOR_PULL_IN_END (R194). PULL_IN after a contactor driver turns on, the coil drive drops from 100 % to HOLD_DUTY PWM. -/
  | contactorPullInEnd (n : Fin 4)
  /-- CONTACTOR_OPEN_CONFIRMED (R195). A contactor's auxiliary feedback confirms opening, and its STATE moves from opening to open. -/
  | contactorOpenConfirmed (n : Fin 4)
  /-- MAP_REBUILD_DONE (R356). GE finishes rebuilding the coverage map from the base copy and committed saves, and JOB_STATE leaves 3 (rebuilding). -/
  | mapRebuildDone
  /-- ARP_REQUEST (R385). An ARP frame arrives on ETH and the E960 answers it as its supported IPv4 profile requires. -/
  | arpRequest (ip : Nat)
  /-- ICMP_ECHO_REQUEST (R385). An ICMP echo request arrives on ETH and the E960 sends the echo reply. -/
  | icmpEchoRequest (ip : Nat) (payload : Bytes)
  /-- VSUP_RANGE_RETURN (R550). VSUP comes back to 18.0 V or more, or falls below 34.0 V, so the cause of fault 0x0311 or 0x0712 goes and its quiet period starts. -/
  | vsupRangeReturn (v : Nat)
  /-- GATE_UVLO_END (R264). A gate rail returns beyond its threshold plus hysteresis, and 5 µs later a reported under-voltage of a stopped domain ends and STATUS bits 5 and 6 clear. -/
  | gateUvloEnd (n : Fin 40)
deriving DecidableEq, Repr

end Sys2Proof
end

