-- ==== Sys2Proof/Config.lean ====
section
/-! DEFINITION. What the model leaves open: constants without a body, so that no proof can see their values.  The free
values are log entry 2; functions the spec names and does not write out (trigonometry, cryptography) are log entries 3
and 4. -/

namespace Sys2Proof.Config

/-- A value the spec leaves open, fresh for each use of the model's counter (log entry 2). -/
opaque freeValue : Nat → Nat

/-- A signed value the spec leaves open (log entry 2). -/
opaque freeInt : Nat → Int

/-- KP, SH_P, KI and SH_I of a firmware slot's banks, which the E960 derives from the domain's gains `a` and `b` for loop
`n` (0 traction d, 1 traction q, 2 and up the grid loops of R211).  The spec does not state the derivation (log entry 6). -/
opaque loopCoef : (n : Nat) → (a b : Int) → Int × Nat × Int × Nat

/-- The three duties, in ticks on of a period of `T` ticks, in the overmodulation zones of R106, whose shape the spec
gives in words only: the voltage vector (mV), the modulation index and the period (log entry 6). -/
opaque overmodulation : (va vb m T : Int) → List Int

/-- The d and q currents (mA) the field model predicts for a boundary, from the voltages, the last currents and the
counter of free values; the spec names the model and does not write it out (log entry 6). -/
opaque predictCurrent : (vd vq id iq : Int) → Nat → Int × Int

/-- The angle, in 1/65,536 turn, of the vector with these two components; rounding not stated (log entry 3). -/
opaque atan2 : Int → Int → Nat

/-- Natural logarithm of `a / b` times 2^30; rounding not stated (log entry 3). -/
opaque ln30 : Nat → Nat → Int

/-- 2^30 times e to the power `-a / b`; rounding not stated (log entry 3). -/
opaque expNeg30 : Nat → Nat → Int

/-- The object, as index * 256 + subindex, whose value word `w` of memory `i` holds, 0 none: where the firmware lays out its
objects the spec does not say (log entry 31). -/
opaque wordObject : (i w : Nat) → Nat

/-- The cause number of the fault that a lost link of HV node `h` raises: R35 gives its class and its domain only (log entry
2). -/
opaque linkCause : (h : Nat) → Nat

/-- AES-CMAC under a key of the bytes of a message, as the first 8 or 16 bytes (R394; FIPS 197 and SP 800-38B stand
outside the spec, log entry 4). -/
opaque aesCmac : (key msg : Bytes) → Bytes

/-- One 16-byte block of AES-128 under a key (R449; log entry 4). -/
opaque aesBlock : (key block : Bytes) → Bytes

/-- SHA-256 of a message (R496; log entry 4). -/
opaque sha256 : Bytes → Bytes

/-- Whether a signature over a digest verifies under a public key (R496; log entry 4). -/
opaque signatureOk : (pubkey digest sig : Bytes) → Bool

end Sys2Proof.Config
end

