-- ==== Sys2Proof/Machine/Dict.lean ====
section
/-! DEFINITION. The object dictionary of R411 to R413 as data: one row for each object (or run of objects that
repeat per unit) that the tables of the spec give, with its type, access, roles, default and fixed range, and the
names by which the model calls the objects.  The rows are the spec's object tables (R55, R56, R58, R69 and so on
up to R584) and the objects the prose names (R280, R282, R321, R380, R405, R409, R422, R445, R447, R491 to R498,
R512, R542, R602); a range stated in terms of another object is not here but in `Dict.relations`. -/

namespace Sys2Proof.Obj

/-- `3000:01` (R55). -/
abbrev VALUE : Nat := 0x300001
/-- `3000:02` (R55). -/
abbrev RATE : Nat := 0x300002
/-- `3000:03` (R55). -/
abbrev DIRECTION : Nat := 0x300003
/-- `3000:04` (R55). -/
abbrev VALID_3000 : Nat := 0x300004
/-- `3000:05` (R55). -/
abbrev LATE_WINDOW : Nat := 0x300005
/-- `3000:06` (R55). -/
abbrev STEP_LIMIT : Nat := 0x300006
/-- `3000:07` (R55). -/
abbrev MISSED_3000 : Nat := 0x300007
/-- `3000:08` (R55). -/
abbrev LATE : Nat := 0x300008
/-- `3000:09` (R55). -/
abbrev JUMPS : Nat := 0x300009
/-- `3000:0A` (R55). -/
abbrev UTC_OFFSET : Nat := 0x30000A
/-- `3010:01` (R56). -/
abbrev ROW_VALUE : Nat := 0x301001
/-- `3011:01` (R56). -/
abbrev ROW_RATE : Nat := 0x301101
/-- `3012:01` (R56). -/
abbrev ROW_DIRECTION : Nat := 0x301201
/-- `3013:01` (R56). -/
abbrev ROW_LATE_WINDOW : Nat := 0x301301
/-- `3013:02` (R56). -/
abbrev ROW_STEP_LIMIT : Nat := 0x301302
/-- `3013:03` (R56). -/
abbrev ROW_VALID : Nat := 0x301303
/-- `3014:01` (R56). -/
abbrev ROW_MISSED : Nat := 0x301401
/-- `3015:01` (R56). -/
abbrev ROW_LATE : Nat := 0x301501
/-- `3200:01` (R58). -/
abbrev TRACK_3200 : Nat := 0x320001
/-- `3200:02` (R58). -/
abbrev TARGET_3200 : Nat := 0x320002
/-- `3200:03` (R58). -/
abbrev QUALIFIER_3200 : Nat := 0x320003
/-- `3200:04` (R58). -/
abbrev ACTION : Nat := 0x320004
/-- `3200:05` (R58). -/
abbrev ARG : Nat := 0x320005
/-- `3200:06` (R58). -/
abbrev PERIOD_3200 : Nat := 0x320006
/-- `3200:07` (R58). -/
abbrev CONTROL_3200 : Nat := 0x320007
/-- `3200:08` (R58). -/
abbrev STATUS_3200 : Nat := 0x320008
/-- `3200:09` (R58). -/
abbrev FIRES : Nat := 0x320009
/-- `3200:0A` (R58). -/
abbrev SLOT_MISSED : Nat := 0x32000A
/-- `3430:01` (R69). -/
abbrev PRIMARY : Nat := 0x343001
/-- `3430:02` (R69). -/
abbrev SECONDARY : Nat := 0x343002
/-- `3430:03` (R69). -/
abbrev POLE_PAIRS_3430 : Nat := 0x343003
/-- `3430:04` (R69). -/
abbrev ELEC_OFFSET : Nat := 0x343004
/-- `3430:05` (R69). -/
abbrev ACTIVE_SOURCE : Nat := 0x343005
/-- `3430:06` (R69). -/
abbrev OFFSET_LEARN : Nat := 0x343006
/-- `3430:07` (R69). -/
abbrev LEARN_STATUS : Nat := 0x343007
/-- `3430:08` (R69). -/
abbrev SENSOR_REVERSED : Nat := 0x343008
/-- `3400:01` (R75). -/
abbrev CLOCK_DIV : Nat := 0x340001
/-- `3400:02` (R75). -/
abbrev WORD_BITS : Nat := 0x340002
/-- `3400:03` (R75). -/
abbrev TURN_BITS : Nat := 0x340003
/-- `3400:04` (R75). -/
abbrev CODING : Nat := 0x340004
/-- `3400:05` (R75). -/
abbrev LEADING : Nat := 0x340005
/-- `3400:06` (R75). -/
abbrev STATUS_BITS : Nat := 0x340006
/-- `3400:07` (R75). -/
abbrev STATUS_ERROR : Nat := 0x340007
/-- `3400:08` (R75). -/
abbrev CHECK : Nat := 0x340008
/-- `3400:09` (R75). -/
abbrev DELAY_COMP : Nat := 0x340009
/-- `3400:0A` (R75). -/
abbrev MONOFLOP : Nat := 0x34000A
/-- `3400:0B` (R75). -/
abbrev REQ_PER_TURN : Nat := 0x34000B
/-- `3400:0C` (R75). -/
abbrev REQ_MAX_INTERVAL : Nat := 0x34000C
/-- `3400:0D` (R75). -/
abbrev ENC_LATENCY : Nat := 0x34000D
/-- `3400:0E` (R75). -/
abbrev PLAUS_LIMIT : Nat := 0x34000E
/-- `3400:0F` (R75). -/
abbrev RAW_WORD : Nat := 0x34000F
/-- `3400:10` (R75). -/
abbrev MEASURED_DELAY : Nat := 0x340010
/-- `3400:11` (R75). -/
abbrev REJECTS : Nat := 0x340011
/-- `3400:12` (R75). -/
abbrev LAST_REJECT : Nat := 0x340012
/-- `3400:13` (R75). -/
abbrev COLLISIONS : Nat := 0x340013
/-- `3410:01` (R82). -/
abbrev LINES : Nat := 0x341001
/-- `3410:02` (R82). -/
abbrev INPUT_MODE : Nat := 0x341002
/-- `3410:03` (R82). -/
abbrev FILTER : Nat := 0x341003
/-- `3410:04` (R82). -/
abbrev INDEX_RESET : Nat := 0x341004
/-- `3410:05` (R82). -/
abbrev INDEX_STATE : Nat := 0x341005
/-- `3410:06` (R82). -/
abbrev INDEX_VALUE : Nat := 0x341006
/-- `3410:07` (R82). -/
abbrev ARM_RESET : Nat := 0x341007
/-- `3410:08` (R82). -/
abbrev LC_TOLERANCE : Nat := 0x341008
/-- `3410:09` (R82). -/
abbrev COUNT_3410 : Nat := 0x341009
/-- `3410:0A` (R82). -/
abbrev INDEX_LATCH : Nat := 0x34100A
/-- `3410:0B` (R82). -/
abbrev INDEX_LATCH_WALL : Nat := 0x34100B
/-- `3410:0C` (R82). -/
abbrev LC_MISMATCHES : Nat := 0x34100C
/-- `3410:0D` (R82). -/
abbrev QUAD_ERRORS : Nat := 0x34100D
/-- `3420:01` (R87). -/
abbrev STATE_3420 : Nat := 0x342001
/-- `3420:02` (R87). -/
abbrev EDGE_ANGLE : Nat := 0x342002
/-- `3420:03` (R87). -/
abbrev INVERT : Nat := 0x342003
/-- `3420:04` (R87). -/
abbrev FILTER_US_3420 : Nat := 0x342004
/-- `3420:05` (R87). -/
abbrev IMPOSSIBLE : Nat := 0x342005
/-- `3420:06` (R87). -/
abbrev SEQ_ERRORS : Nat := 0x342006
/-- `3439:01` (R91). -/
abbrev WINDOW : Nat := 0x343901
/-- `3439:02` (R91). -/
abbrev PERIOD_EDGES : Nat := 0x343902
/-- `3439:03` (R91). -/
abbrev CO_UP : Nat := 0x343903
/-- `3439:04` (R91). -/
abbrev CO_DOWN : Nat := 0x343904
/-- `3439:05` (R91). -/
abbrev ZERO_TIMEOUT : Nat := 0x343905
/-- `3440:01` (R93). -/
abbrev EDGE : Nat := 0x344001
/-- `3440:02` (R93). -/
abbrev MODE_3440 : Nat := 0x344002
/-- `3440:03` (R93). -/
abbrev TRACK_3440 : Nat := 0x344003
/-- `3440:04` (R93). -/
abbrev FILTER_NS : Nat := 0x344004
/-- `3440:05` (R93). -/
abbrev CONTROL_3440 : Nat := 0x344005
/-- `3440:06` (R93). -/
abbrev CAPT_VALUE : Nat := 0x344006
/-- `3440:07` (R93). -/
abbrev CAPT_WALL : Nat := 0x344007
/-- `3440:08` (R93). -/
abbrev STATUS_3440 : Nat := 0x344008
/-- `3450:01` (R95). -/
abbrev PULSES_PER_100M : Nat := 0x345001
/-- `3450:02` (R95). -/
abbrev FILTER_US_3450 : Nat := 0x345002
/-- `3450:03` (R95). -/
abbrev PULSES_3450 : Nat := 0x345003
/-- `3450:04` (R95). -/
abbrev SPEED_3450 : Nat := 0x345004
/-- `3450:05` (R95). -/
abbrev GLITCHES : Nat := 0x345005
/-- `3460:01` (R96). -/
abbrev ORIENTATION : Nat := 0x346001
/-- `3460:02` (R96). -/
abbrev YAW_RATE_3460 : Nat := 0x346002
/-- `3460:03` (R96). -/
abbrev ACCEL_3460 : Nat := 0x346003
/-- `3460:04` (R96). -/
abbrev GYRO_BIAS : Nat := 0x346004
/-- `3460:05` (R96). -/
abbrev VALID_3460 : Nat := 0x346005
/-- `4000:01` (R101). -/
abbrev F_PWM : Nat := 0x400001
/-- `4000:02` (R101). -/
abbrev UPDATE : Nat := 0x400002
/-- `4000:03` (R101). -/
abbrev SCHEME : Nat := 0x400003
/-- `4000:04` (R101). -/
abbrev MIN_PULSE : Nat := 0x400004
/-- `4000:05` (R101). -/
abbrev M_MAX : Nat := 0x400005
/-- `4000:06` (R101). -/
abbrev DT_COMP : Nat := 0x400006
/-- `4000:07` (R101). -/
abbrev DT_COMP_BAND : Nat := 0x400007
/-- `4000:08` (R101). -/
abbrev F_ACTUAL : Nat := 0x400008
/-- `4000:09` (R101). -/
abbrev M_PRESENT : Nat := 0x400009
/-- `4000:0A` (R101). -/
abbrev OM_ZONE : Nat := 0x40000A
/-- `4010:01` (R109). -/
abbrev SHUNT_VALUE : Nat := 0x401001
/-- `4010:02` (R109). -/
abbrev I_FS : Nat := 0x401002
/-- `4010:03` (R109). -/
abbrev T_SETTLE : Nat := 0x401003
/-- `4010:04` (R109). -/
abbrev WIN_LEN : Nat := 0x401004
/-- `4010:05` (R109). -/
abbrev AGE_MAX : Nat := 0x401005
/-- `4010:06` (R109). -/
abbrev PRED_MAX : Nat := 0x401006
/-- `4010:07` (R109). -/
abbrev OFFSET_LIMIT : Nat := 0x401007
/-- `4010:08` (R109). -/
abbrev OFFSET : Nat := 0x401008
/-- `4010:09` (R109). -/
abbrev PHASE_SENSORS : Nat := 0x401009
/-- `4010:0A` (R109). -/
abbrev PLAUS_TOL : Nat := 0x40100A
/-- `4010:0B` (R109). -/
abbrev PLAUS_COUNT : Nat := 0x40100B
/-- `4010:0C` (R109). -/
abbrev I_U : Nat := 0x40100C
/-- `4010:0D` (R109). -/
abbrev I_V : Nat := 0x40100D
/-- `4010:0E` (R109). -/
abbrev I_W : Nat := 0x40100E
/-- `4010:0F` (R109). -/
abbrev T_MIN : Nat := 0x40100F
/-- `4010:10` (R109). -/
abbrev PERIODS_SHIFTED : Nat := 0x401010
/-- `4010:11` (R109). -/
abbrev WINDOWS_LOST : Nat := 0x401011
/-- `4010:12` (R109). -/
abbrev PREDICTED : Nat := 0x401012
/-- `4030:01` (R120). -/
abbrev SYNC_ENABLE : Nat := 0x403001
/-- `4030:02` (R120). -/
abbrev SYNC_RATIO : Nat := 0x403002
/-- `4030:03` (R120). -/
abbrev SYNC_HYST : Nat := 0x403003
/-- `4030:04` (R120). -/
abbrev PATTERN_MASK : Nat := 0x403004
/-- `4030:05` (R120). -/
abbrev PATTERN_HYST : Nat := 0x403005
/-- `4030:06` (R120). -/
abbrev ACTIVE_PATTERN : Nat := 0x403006
/-- `4030:07` (R120). -/
abbrev TRANSITIONS : Nat := 0x403007
/-- `4100:01` (R125). -/
abbrev PATTERN_1 : Nat := 0x410001
/-- `4101:01` (R125). -/
abbrev TABLE_STATUS : Nat := 0x410101
/-- `4200:01` (R132). -/
abbrev RATED_SPEED : Nat := 0x420001
/-- `4200:02` (R132). -/
abbrev MAX_SPEED_4200 : Nat := 0x420002
/-- `4200:03` (R132). -/
abbrev PSI_PM : Nat := 0x420003
/-- `4200:04` (R132). -/
abbrev LD : Nat := 0x420004
/-- `4200:05` (R132). -/
abbrev LQ : Nat := 0x420005
/-- `4200:06` (R132). -/
abbrev RS : Nat := 0x420006
/-- `4200:07` (R132). -/
abbrev KP_D : Nat := 0x420007
/-- `4200:08` (R132). -/
abbrev KI_D : Nat := 0x420008
/-- `4200:09` (R132). -/
abbrev KP_Q : Nat := 0x420009
/-- `4200:0A` (R132). -/
abbrev KI_Q : Nat := 0x42000A
/-- `4200:0B` (R132). -/
abbrev DECOUPLE : Nat := 0x42000B
/-- `4200:0C` (R132). -/
abbrev I_MAX : Nat := 0x42000C
/-- `4200:0D` (R132). -/
abbrev I_D : Nat := 0x42000D
/-- `4200:0E` (R132). -/
abbrev I_Q : Nat := 0x42000E
/-- `4200:0F` (R132). -/
abbrev V_D : Nat := 0x42000F
/-- `4200:10` (R132). -/
abbrev V_Q : Nat := 0x420010
/-- `4200:11` (R132). -/
abbrev SPEED_4200 : Nat := 0x420011
/-- `4210:01` (R135). -/
abbrev TORQUE_SET : Nat := 0x421001
/-- `4210:02` (R135). -/
abbrev T_MAX_MOT : Nat := 0x421002
/-- `4210:03` (R135). -/
abbrev T_MAX_GEN : Nat := 0x421003
/-- `4210:04` (R135). -/
abbrev ETA : Nat := 0x421004
/-- `4210:05` (R135). -/
abbrev TQ_RAMP : Nat := 0x421005
/-- `4210:06` (R135). -/
abbrev TORQUE_REF : Nat := 0x421006
/-- `4210:07` (R135). -/
abbrev LIMIT_MOT : Nat := 0x421007
/-- `4210:08` (R135). -/
abbrev LIMIT_GEN : Nat := 0x421008
/-- `4210:09` (R135). -/
abbrev TORQUE_CMD : Nat := 0x421009
/-- `4210:0A` (R135). -/
abbrev TORQUE_EST : Nat := 0x42100A
/-- `4210:0B` (R135). -/
abbrev LIMIT_FLAGS : Nat := 0x42100B
/-- `4210:0C` (R135). -/
abbrev P_MOT_GRANT : Nat := 0x42100C
/-- `4210:0D` (R135). -/
abbrev P_GEN_GRANT : Nat := 0x42100D
/-- `4220:01` (R138). -/
abbrev CURVE_MOT : Nat := 0x422001
/-- `4220:02` (R138). -/
abbrev CURVE_GEN : Nat := 0x422002
/-- `4220:03` (R138). -/
abbrev CURVE_STATUS : Nat := 0x422003
/-- `4220:04` (R138). -/
abbrev FW_MARGIN : Nat := 0x422004
/-- `4220:05` (R138). -/
abbrev FW_KI : Nat := 0x422005
/-- `4220:06` (R138). -/
abbrev DBETA_MAX : Nat := 0x422006
/-- `4220:07` (R138). -/
abbrev BETA : Nat := 0x422007
/-- `4220:08` (R138). -/
abbrev DBETA : Nat := 0x422008
/-- `4230:01` (R143). -/
abbrev OBS_ENABLE : Nat := 0x423001
/-- `4230:02` (R143). -/
abbrev OBS_BW : Nat := 0x423002
/-- `4230:03` (R143). -/
abbrev RESID_LIMIT : Nat := 0x423003
/-- `4230:04` (R143). -/
abbrev RESID_COUNT : Nat := 0x423004
/-- `4230:05` (R143). -/
abbrev ACCEL_MAX : Nat := 0x423005
/-- `4230:06` (R143). -/
abbrev XCHECK_LIMIT : Nat := 0x423006
/-- `4230:07` (R143). -/
abbrev LOCKED_4230 : Nat := 0x423007
/-- `4230:08` (R143). -/
abbrev OBS_ANGLE : Nat := 0x423008
/-- `4230:09` (R143). -/
abbrev OBS_SPEED : Nat := 0x423009
/-- `4230:0A` (R143). -/
abbrev LOCK_LOSSES : Nat := 0x42300A
/-- `4230:0B` (R143). -/
abbrev RELOCKS : Nat := 0x42300B
/-- `4240:01` (R148). -/
abbrev RUN_4240 : Nat := 0x424001
/-- `4240:02` (R148). -/
abbrev BRIDGE_STATE : Nat := 0x424002
/-- `4240:03` (R148). -/
abbrev ASC_GROUP : Nat := 0x424003
/-- `4240:04` (R148). -/
abbrev ASC_SPEED : Nat := 0x424004
/-- `4240:05` (R148). -/
abbrev PROBE_PERIOD : Nat := 0x424005
/-- `4240:06` (R148). -/
abbrev ASC_CAUSE : Nat := 0x424006
/-- `4240:07` (R148). -/
abbrev ASC_ENTRIES : Nat := 0x424007
/-- `4240:08` (R148). -/
abbrev EMF_EST : Nat := 0x424008
/-- `4240:09` (R148). -/
abbrev ABOVE_ASC : Nat := 0x424009
/-- `A100:01` (R161). -/
abbrev ENABLE_A100 : Nat := 0xA10001
/-- `A100:02` (R161). -/
abbrev TRIGGER : Nat := 0xA10002
/-- `A100:03` (R161). -/
abbrev PERIOD_A100 : Nat := 0xA10003
/-- `A100:04` (R161). -/
abbrev CHAIN : Nat := 0xA10004
/-- `A100:05` (R161). -/
abbrev DIVISOR : Nat := 0xA10005
/-- `A100:06` (R161). -/
abbrev SP_SOURCE : Nat := 0xA10006
/-- `A100:07` (R161). -/
abbrev SETPOINT : Nat := 0xA10007
/-- `A100:08` (R161). -/
abbrev FB_SOURCE : Nat := 0xA10008
/-- `A100:09` (R161). -/
abbrev OUT_TARGET : Nat := 0xA10009
/-- `A100:0A` (R161). -/
abbrev OUT_MIN : Nat := 0xA1000A
/-- `A100:0B` (R161). -/
abbrev OUT_MAX : Nat := 0xA1000B
/-- `A100:0C` (R161). -/
abbrev D_MODE : Nat := 0xA1000C
/-- `A100:0D` (R161). -/
abbrev FE_LIMIT : Nat := 0xA1000D
/-- `A100:0E` (R161). -/
abbrev FE_TIME : Nat := 0xA1000E
/-- `A100:0F` (R161). -/
abbrev FE_CLASS : Nat := 0xA1000F
/-- `A100:10` (R161). -/
abbrev ACTIVE_BANK : Nat := 0xA10010
/-- `A100:11` (R161). -/
abbrev BANK_CTRL : Nat := 0xA10011
/-- `A100:12` (R161). -/
abbrev FLAGS : Nat := 0xA10012
/-- `A100:13` (R161). -/
abbrev FLAGS_CLEAR : Nat := 0xA10013
/-- `A100:14` (R161). -/
abbrev ERROR : Nat := 0xA10014
/-- `A100:15` (R161). -/
abbrev OUTPUT : Nat := 0xA10015
/-- `A100:16` (R161). -/
abbrev INTEGRATOR : Nat := 0xA10016
/-- `A100:17` (R161). -/
abbrev DERIV : Nat := 0xA10017
/-- `A100:18` (R161). -/
abbrev FE_TIMER : Nat := 0xA10018
/-- `A100:19` (R161). -/
abbrev SAMPLES : Nat := 0xA10019
/-- `A100:1A` (R161). -/
abbrev TRACE_NODES : Nat := 0xA1001A
/-- `A100:1B` (R161). -/
abbrev SWAPS : Nat := 0xA1001B
/-- `A200:01` (R164). -/
abbrev KP : Nat := 0xA20001
/-- `A200:02` (R164). -/
abbrev SH_P : Nat := 0xA20002
/-- `A200:03` (R164). -/
abbrev KI : Nat := 0xA20003
/-- `A200:04` (R164). -/
abbrev SH_I : Nat := 0xA20004
/-- `A200:05` (R164). -/
abbrev KD : Nat := 0xA20005
/-- `A200:06` (R164). -/
abbrev SH_D : Nat := 0xA20006
/-- `A200:07` (R164). -/
abbrev KF : Nat := 0xA20007
/-- `A200:08` (R164). -/
abbrev SH_F : Nat := 0xA20008
/-- `A200:09` (R164). -/
abbrev KFF : Nat := 0xA20009
/-- `A200:0A` (R164). -/
abbrev SH_FF : Nat := 0xA2000A
/-- `A000:01` (R182). -/
abbrev HOST_LE0 : Nat := 0xA00001
/-- `A000:09` (R182). -/
abbrev LE8_HOSTS_A000 : Nat := 0xA00009
/-- `A000:0A` (R182). -/
abbrev MOVES : Nat := 0xA0000A
/-- `A010:01` (R182). -/
abbrev LOAD : Nat := 0xA01001
/-- `A011:01` (R182). -/
abbrev SELFCHECK_FAILS : Nat := 0xA01101
/-- `5800:01` (R184). -/
abbrev VDC_MAX : Nat := 0x580001
/-- `5800:02` (R184). -/
abbrev C_LINK : Nat := 0x580002
/-- `5800:03` (R184). -/
abbrev V_LOW : Nat := 0x580003
/-- `5800:04` (R184). -/
abbrev V_UV : Nat := 0x580004
/-- `5800:05` (R184). -/
abbrev V_DIP : Nat := 0x580005
/-- `5800:06` (R184). -/
abbrev T_RESTORE : Nat := 0x580006
/-- `5800:07` (R184). -/
abbrev STORE_CAP : Nat := 0x580007
/-- `5800:08` (R184). -/
abbrev DCA_FLOOR : Nat := 0x580008
/-- `5800:09` (R184). -/
abbrev DCB_FLOOR : Nat := 0x580009
/-- `5800:0A` (R184). -/
abbrev CHOP_ON : Nat := 0x58000A
/-- `5800:0B` (R184). -/
abbrev CHOP_OFF : Nat := 0x58000B
/-- `5800:0C` (R184). -/
abbrev STEER : Nat := 0x58000C
/-- `5800:0D` (R184). -/
abbrev CHOP_R : Nat := 0x58000D
/-- `5800:0E` (R184). -/
abbrev CHOP_E_MAX : Nat := 0x58000E
/-- `5800:0F` (R184). -/
abbrev CHOP_TAU : Nat := 0x58000F
/-- `5800:10` (R184). -/
abbrev CHOP_P_CONT : Nat := 0x580010
/-- `5800:11` (R184). -/
abbrev BATTERY_FITTED : Nat := 0x580011
/-- `5800:12` (R184). -/
abbrev LV_BATTERY_FITTED : Nat := 0x580012
/-- `5800:13` (R184). -/
abbrev DCA_ABSORB_MAX : Nat := 0x580013
/-- `5800:14` (R184). -/
abbrev TRACTOR_TIMEOUT : Nat := 0x580014
/-- `5800:15` (R184). -/
abbrev BMS_TIMEOUT : Nat := 0x580015
/-- `5800:16` (R184). -/
abbrev VDC : Nat := 0x580016
/-- `5800:17` (R184). -/
abbrev CHOP_STATE : Nat := 0x580017
/-- `5800:18` (R184). -/
abbrev CHOP_ENERGY : Nat := 0x580018
/-- `5800:19` (R184). -/
abbrev OV_TIER : Nat := 0x580019
/-- `2400:01` (R191). -/
abbrev PERIODS : Nat := 0x240001
/-- `2400:02` (R191). -/
abbrev IMP : Nat := 0x240002
/-- `2400:03` (R191). -/
abbrev SINK : Nat := 0x240003
/-- `2400:04` (R191). -/
abbrev CHOP_CAP : Nat := 0x240004
/-- `2400:05` (R191). -/
abbrev L_DN : Nat := 0x240005
/-- `2400:06` (R191). -/
abbrev L_UP : Nat := 0x240006
/-- `2400:07` (R191). -/
abbrev V_REF : Nat := 0x240007
/-- `2400:08` (R191). -/
abbrev SOURCES : Nat := 0x240008
/-- `2410:01` (R191). -/
abbrev REQ_DRAW : Nat := 0x241001
/-- `2411:01` (R191). -/
abbrev REQ_FEED : Nat := 0x241101
/-- `2412:01` (R191). -/
abbrev GRANT_DRAW : Nat := 0x241201
/-- `2413:01` (R191). -/
abbrev GRANT_FEED : Nat := 0x241301
/-- `2414:01` (R191). -/
abbrev MEASURED : Nat := 0x241401
/-- `5810:01` (R194). -/
abbrev ROLE_5810 : Nat := 0x581001
/-- `5810:02` (R194). -/
abbrev FB_MODE : Nat := 0x581002
/-- `5810:03` (R194). -/
abbrev T_CLOSE_MAX : Nat := 0x581003
/-- `5810:04` (R194). -/
abbrev T_OPEN_MAX : Nat := 0x581004
/-- `5810:05` (R194). -/
abbrev PULL_IN : Nat := 0x581005
/-- `5810:06` (R194). -/
abbrev HOLD_DUTY : Nat := 0x581006
/-- `5810:07` (R194). -/
abbrev I_BREAK : Nat := 0x581007
/-- `5810:08` (R194). -/
abbrev STATE_5810 : Nat := 0x581008
/-- `5810:09` (R194). -/
abbrev CYCLES_5810 : Nat := 0x581009
/-- `5810:0A` (R194). -/
abbrev LOAD_BREAKS : Nat := 0x58100A
/-- `5820:01` (R200). -/
abbrev LINK_CTRL : Nat := 0x582001
/-- `5820:02` (R200). -/
abbrev PRE_MODE : Nat := 0x582002
/-- `5820:03` (R200). -/
abbrev R_PRE : Nat := 0x582003
/-- `5820:04` (R200). -/
abbrev PRE_RATIO : Nat := 0x582004
/-- `5820:05` (R200). -/
abbrev PRE_DCA_POWER : Nat := 0x582005
/-- `5820:06` (R200). -/
abbrev PRE_TIMEOUT : Nat := 0x582006
/-- `5820:07` (R200). -/
abbrev PRE_STATE : Nat := 0x582007
/-- `5000:01` (R209). -/
abbrev GRD_MODE : Nat := 0x500001
/-- `5000:02` (R209). -/
abbrev CHARGE_SOURCE : Nat := 0x500002
/-- `5000:03` (R209). -/
abbrev F_NOM : Nat := 0x500003
/-- `5000:04` (R209). -/
abbrev CARRIER_N : Nat := 0x500004
/-- `5000:05` (R209). -/
abbrev L_PHASE : Nat := 0x500005
/-- `5000:06` (R209). -/
abbrev I_MAX_GRID : Nat := 0x500006
/-- `5000:07` (R209). -/
abbrev P_CHARGE_SET : Nat := 0x500007
/-- `5000:08` (R209). -/
abbrev I_RAMP : Nat := 0x500008
/-- `5000:09` (R209). -/
abbrev VDC_SET : Nat := 0x500009
/-- `5000:0A` (R209). -/
abbrev ETA_GRID : Nat := 0x50000A
/-- `5000:0B` (R209). -/
abbrev OC_LEVEL_5000 : Nat := 0x50000B
/-- `5000:0C` (R209). -/
abbrev KP_I_5000 : Nat := 0x50000C
/-- `5000:0D` (R209). -/
abbrev KI_I_5000 : Nat := 0x50000D
/-- `5000:0E` (R209). -/
abbrev KP_V : Nat := 0x50000E
/-- `5000:0F` (R209). -/
abbrev KI_V : Nat := 0x50000F
/-- `5000:10` (R209). -/
abbrev STATE_5000 : Nat := 0x500010
/-- `5000:11` (R209). -/
abbrev P_AC : Nat := 0x500011
/-- `5000:12` (R209). -/
abbrev I_RMS : Nat := 0x500012
/-- `5000:13` (R209). -/
abbrev V_LL : Nat := 0x500013
/-- `5000:14` (R209). -/
abbrev FREQ : Nat := 0x500014
/-- `5000:15` (R209). -/
abbrev I_LIMIT_5000 : Nat := 0x500015
/-- `5000:16` (R209). -/
abbrev LIMIT_SRC_5000 : Nat := 0x500016
/-- `5010:01` (R214). -/
abbrev PLL_BW : Nat := 0x501001
/-- `5010:02` (R214). -/
abbrev LOCKED_5010 : Nat := 0x501002
/-- `5010:03` (R214). -/
abbrev UNBALANCE : Nat := 0x501003
/-- `5010:04` (R214). -/
abbrev ROCOF : Nat := 0x501004
/-- `5010:05` (R214). -/
abbrev SEQUENCE : Nat := 0x501005
/-- `5020:01` (R221). -/
abbrev CP_STATE : Nat := 0x502001
/-- `5020:02` (R221). -/
abbrev CP_DUTY : Nat := 0x502002
/-- `5020:03` (R221). -/
abbrev CP_CURRENT : Nat := 0x502003
/-- `5020:04` (R221). -/
abbrev PP_OHM : Nat := 0x502004
/-- `5020:05` (R221). -/
abbrev CABLE_CURRENT : Nat := 0x502005
/-- `5020:06` (R221). -/
abbrev S2 : Nat := 0x502006
/-- `5040:01` (R228). -/
abbrev V_SUPPLY : Nat := 0x504001
/-- `5040:02` (R228). -/
abbrev I_SUPPLY_MAX : Nat := 0x504002
/-- `5040:03` (R228). -/
abbrev I_SC : Nat := 0x504003
/-- `5040:04` (R228). -/
abbrev SC_TIME : Nat := 0x504004
/-- `5040:05` (R228). -/
abbrev OL_TIME : Nat := 0x504005
/-- `5040:06` (R228). -/
abbrev V_RAMP_TIME : Nat := 0x504006
/-- `5050:01` (R235). -/
abbrev E_IMPORT : Nat := 0x505001
/-- `5050:02` (R235). -/
abbrev E_EXPORT : Nat := 0x505002
/-- `5050:03` (R235). -/
abbrev E_SESSION : Nat := 0x505003
/-- `5050:04` (R235). -/
abbrev LOG_GAPS : Nat := 0x505004
/-- `5050:05` (R235). -/
abbrev E_UNLOGGED_MAX : Nat := 0x505005
/-- `5400:01` (R243). -/
abbrev RUN_5400 : Nat := 0x540001
/-- `5400:02` (R243). -/
abbrev AUTO_START : Nat := 0x540002
/-- `5400:03` (R243). -/
abbrev F_SW : Nat := 0x540003
/-- `5400:04` (R243). -/
abbrev TURNS_N : Nat := 0x540004
/-- `5400:05` (R243). -/
abbrev L_S : Nat := 0x540005
/-- `5400:06` (R243). -/
abbrev V_OUT_SET : Nat := 0x540006
/-- `5400:07` (R243). -/
abbrev I_OUT_MAX : Nat := 0x540007
/-- `5400:08` (R243). -/
abbrev P_OUT_MAX : Nat := 0x540008
/-- `5400:09` (R243). -/
abbrev ETA_DC : Nat := 0x540009
/-- `5400:0A` (R243). -/
abbrev SOFT_START : Nat := 0x54000A
/-- `5400:0B` (R243). -/
abbrev V_OUT_OV : Nat := 0x54000B
/-- `5400:0C` (R243). -/
abbrev BIAS_LIMIT : Nat := 0x54000C
/-- `5400:0D` (R243). -/
abbrev OC_LEVEL_5400 : Nat := 0x54000D
/-- `5400:0E` (R243). -/
abbrev STATE_5400 : Nat := 0x54000E
/-- `5400:0F` (R243). -/
abbrev V_OUT : Nat := 0x54000F
/-- `5400:10` (R243). -/
abbrev I_OUT : Nat := 0x540010
/-- `5400:11` (R243). -/
abbrev P_IN : Nat := 0x540011
/-- `5400:12` (R243). -/
abbrev PHI : Nat := 0x540012
/-- `5400:13` (R243). -/
abbrev I_LIMIT_5400 : Nat := 0x540013
/-- `5400:14` (R243). -/
abbrev LIMIT_SRC_5400 : Nat := 0x540014
/-- `5410:01` (R249). -/
abbrev V_LVB_MIN : Nat := 0x541001
/-- `5410:02` (R249). -/
abbrev V_LVB_CHG_MAX : Nat := 0x541002
/-- `5410:03` (R249). -/
abbrev I_LVB_CHG_MAX : Nat := 0x541003
/-- `5410:04` (R249). -/
abbrev PRE_I_HV_MAX : Nat := 0x541004
/-- `6000:01` (R260). -/
abbrev GROUP_6000 : Nat := 0x600001
/-- `6001:01` (R260). -/
abbrev POSITION : Nat := 0x600101
/-- `6002:01` (R260). -/
abbrev COMMIT : Nat := 0x600201
/-- `6002:02` (R260). -/
abbrev ASSIGN_STATE : Nat := 0x600202
/-- `6010:01` (R260). -/
abbrev V_POS : Nat := 0x601001
/-- `6011:01` (R260). -/
abbrev V_NEG : Nat := 0x601101
/-- `6012:01` (R260). -/
abbrev UVLO_POS : Nat := 0x601201
/-- `6013:01` (R260). -/
abbrev UVLO_NEG : Nat := 0x601301
/-- `6014:01` (R260). -/
abbrev GATE_POWER : Nat := 0x601401
/-- `6020:01` (R260). -/
abbrev STATUS_6020 : Nat := 0x602001
/-- `6021:01` (R260). -/
abbrev TS_TEMP : Nat := 0x602101
/-- `6022:01` (R260). -/
abbrev SC_LATCHES : Nat := 0x602201
/-- `6023:01` (R260). -/
abbrev UVLO_LATCHES : Nat := 0x602301
/-- `6024:01` (R260). -/
abbrev DIAG_RESULT_6024 : Nat := 0x602401
/-- `6025:01` (R260). -/
abbrev MID_PLUS : Nat := 0x602501
/-- `6026:01` (R260). -/
abbrev MID_MINUS : Nat := 0x602601
/-- `6101:01` (R266). -/
abbrev DT_TB0 : Nat := 0x610101
/-- `6101:05` (R266). -/
abbrev BLANK_TB0 : Nat := 0x610105
/-- `6101:09` (R266). -/
abbrev SC_MODE : Nat := 0x610109
/-- `6101:0A` (R266). -/
abbrev SC_THRESH : Nat := 0x61010A
/-- `6101:0B` (R266). -/
abbrev DI_THRESH : Nat := 0x61010B
/-- `6101:0C` (R266). -/
abbrev DI_FILTER : Nat := 0x61010C
/-- `6101:0D` (R266). -/
abbrev T_SOFT : Nat := 0x61010D
/-- `6101:0E` (R266). -/
abbrev TS_TYPE : Nat := 0x61010E
/-- `6101:0F` (R266). -/
abbrev TS_REF : Nat := 0x61010F
/-- `6101:10` (R266). -/
abbrev TS_SLOPE : Nat := 0x610110
/-- `6101:11` (R266). -/
abbrev TS_WARN : Nat := 0x610111
/-- `6101:12` (R266). -/
abbrev TS_TRIP : Nat := 0x610112
/-- `6101:13` (R266). -/
abbrev DT_NOW : Nat := 0x610113
/-- `6101:14` (R266). -/
abbrev BLANK_NOW : Nat := 0x610114
/-- `4250:01` (R271). -/
abbrev TRA_OC_LEVEL : Nat := 0x425001
/-- `4250:02` (R271). -/
abbrev TRA_OC_TRIPS : Nat := 0x425002
/-- `4A50:01` (R271). -/
abbrev TRB_OC_LEVEL : Nat := 0x4A5001
/-- `4A50:02` (R271). -/
abbrev TRB_OC_TRIPS : Nat := 0x4A5002
/-- `5830:01` (R271). -/
abbrev CHOP_OC_LEVEL : Nat := 0x583001
/-- `5830:02` (R271). -/
abbrev CHOP_OC_TRIPS : Nat := 0x583002
/-- `7010:01` (R286). -/
abbrev LV_F_PWM : Nat := 0x701001
/-- `7010:02` (R286). -/
abbrev LV_DEAD : Nat := 0x701002
/-- `7010:03` (R286). -/
abbrev VLV : Nat := 0x701003
/-- `7010:04` (R286). -/
abbrev I_VLV : Nat := 0x701004
/-- `7010:05` (R286). -/
abbrev VLV_OV : Nat := 0x701005
/-- `7010:06` (R286). -/
abbrev DIAG_REQUEST : Nat := 0x701006
/-- `7010:07` (R286). -/
abbrev DIAG_STATE : Nat := 0x701007
/-- `7000:01` (R287). -/
abbrev HB_STATUS : Nat := 0x700001
/-- `7001:01` (R287). -/
abbrev BOOT_V : Nat := 0x700101
/-- `7002:01` (R287). -/
abbrev REFRESHES : Nat := 0x700201
/-- `7003:01` (R287). -/
abbrev OC_LATCHES : Nat := 0x700301
/-- `7004:01` (R287). -/
abbrev DIAG_RESULT_7004 : Nat := 0x700401
/-- `7005:01` (R287). -/
abbrev I_MODEL : Nat := 0x700501
/-- `7100:01` (R295). -/
abbrev RUN_7100 : Nat := 0x710001
/-- `7100:02` (R295). -/
abbrev POLE_PAIRS_7100 : Nat := 0x710002
/-- `7100:03` (R295). -/
abbrev MAX_SPEED_7100 : Nat := 0x710003
/-- `7100:04` (R295). -/
abbrev MIN_SPEED : Nat := 0x710004
/-- `7100:05` (R295). -/
abbrev SPEED_SET : Nat := 0x710005
/-- `7100:06` (R295). -/
abbrev ACCEL_7100 : Nat := 0x710006
/-- `7100:07` (R295). -/
abbrev DECEL_7100 : Nat := 0x710007
/-- `7100:08` (R295). -/
abbrev I_LIMIT_7100 : Nat := 0x710008
/-- `7100:09` (R295). -/
abbrev KP_I_7100 : Nat := 0x710009
/-- `7100:0A` (R295). -/
abbrev KI_I_7100 : Nat := 0x71000A
/-- `7100:0B` (R295). -/
abbrev STANDSTILL_7100 : Nat := 0x71000B
/-- `7100:0C` (R295). -/
abbrev ALIGN_I : Nat := 0x71000C
/-- `7100:0D` (R295). -/
abbrev ALIGN_TIME : Nat := 0x71000D
/-- `7100:0E` (R295). -/
abbrev RAMP_F_START : Nat := 0x71000E
/-- `7100:0F` (R295). -/
abbrev RAMP_F_END : Nat := 0x71000F
/-- `7100:10` (R295). -/
abbrev RAMP_TIME : Nat := 0x710010
/-- `7100:11` (R295). -/
abbrev ZC_DELAY : Nat := 0x710011
/-- `7100:12` (R295). -/
abbrev SH_WIN : Nat := 0x710012
/-- `7100:13` (R295). -/
abbrev ADVANCE : Nat := 0x710013
/-- `7100:14` (R295). -/
abbrev STATE_7100 : Nat := 0x710014
/-- `7100:15` (R295). -/
abbrev SPEED_7100 : Nat := 0x710015
/-- `7100:16` (R295). -/
abbrev I_DC : Nat := 0x710016
/-- `7100:17` (R295). -/
abbrev DUTY : Nat := 0x710017
/-- `7100:18` (R295). -/
abbrev ADVANCE_NOW : Nat := 0x710018
/-- `7100:19` (R295). -/
abbrev TRIES : Nat := 0x710019
/-- `7100:1A` (R295). -/
abbrev LOSSES_7100 : Nat := 0x71001A
/-- `7200:01` (R309). -/
abbrev ROLE_7200 : Nat := 0x720001
/-- `7200:02` (R309). -/
abbrev I_RUN : Nat := 0x720002
/-- `7200:03` (R309). -/
abbrev I_HOLD : Nat := 0x720003
/-- `7200:04` (R309). -/
abbrev COIL_R : Nat := 0x720004
/-- `7200:05` (R309). -/
abbrev COIL_L : Nat := 0x720005
/-- `7200:06` (R309). -/
abbrev KP_COIL : Nat := 0x720006
/-- `7200:07` (R309). -/
abbrev KI_COIL : Nat := 0x720007
/-- `7200:08` (R309). -/
abbrev COIL_WIN : Nat := 0x720008
/-- `7200:09` (R309). -/
abbrev TABLE_SEL : Nat := 0x720009
/-- `7200:0A` (R309). -/
abbrev RES_MODE : Nat := 0x72000A
/-- `7200:0B` (R309). -/
abbrev RES_TH1 : Nat := 0x72000B
/-- `7200:0F` (R309). -/
abbrev V_MAX : Nat := 0x72000F
/-- `7200:10` (R309). -/
abbrev ACCEL_7200 : Nat := 0x720010
/-- `7200:11` (R309). -/
abbrev DECEL_7200 : Nat := 0x720011
/-- `7200:12` (R309). -/
abbrev JERK : Nat := 0x720012
/-- `7200:13` (R309). -/
abbrev POS_MIN : Nat := 0x720013
/-- `7200:14` (R309). -/
abbrev POS_MAX : Nat := 0x720014
/-- `7200:15` (R309). -/
abbrev TARGET_7200 : Nat := 0x720015
/-- `7200:16` (R309). -/
abbrev MOVE_CTRL : Nat := 0x720016
/-- `7200:17` (R309). -/
abbrev STANDSTILL_7200 : Nat := 0x720017
/-- `7200:18` (R309). -/
abbrev HOLD_DELAY : Nat := 0x720018
/-- `7200:19` (R309). -/
abbrev CURRENT_MODE : Nat := 0x720019
/-- `7200:1A` (R309). -/
abbrev LA_SET : Nat := 0x72001A
/-- `7200:1B` (R309). -/
abbrev HOME_DIR : Nat := 0x72001B
/-- `7200:1C` (R309). -/
abbrev HOME_SPEED : Nat := 0x72001C
/-- `7200:1D` (R309). -/
abbrev HOME_I : Nat := 0x72001D
/-- `7200:1E` (R309). -/
abbrev HOME_TRAVEL : Nat := 0x72001E
/-- `7200:1F` (R309). -/
abbrev HOME_POS : Nat := 0x72001F
/-- `7200:20` (R309). -/
abbrev STALL_LA : Nat := 0x720020
/-- `7200:21` (R309). -/
abbrev STALL_COUNT : Nat := 0x720021
/-- `7200:22` (R309). -/
abbrev GROUP_7200 : Nat := 0x720022
/-- `7200:23` (R309). -/
abbrev STATE_7200 : Nat := 0x720023
/-- `7200:24` (R309). -/
abbrev HOMED : Nat := 0x720024
/-- `7200:25` (R309). -/
abbrev LOAD_ANGLE : Nat := 0x720025
/-- `7200:26` (R309). -/
abbrev I_A : Nat := 0x720026
/-- `7200:27` (R309). -/
abbrev I_B : Nat := 0x720027
/-- `7200:28` (R309). -/
abbrev RES_NOW : Nat := 0x720028
/-- `7200:29` (R309). -/
abbrev STALLS : Nat := 0x720029
/-- `7500:01` (R323). -/
abbrev GEAR_SET : Nat := 0x750001
/-- `7500:02` (R323). -/
abbrev GEAR_NOW : Nat := 0x750002
/-- `7500:03` (R323). -/
abbrev GEARS : Nat := 0x750003
/-- `7500:04` (R323). -/
abbrev SHIFT_DOMAINS : Nat := 0x750004
/-- `7500:05` (R323). -/
abbrev SHIFT_TQ : Nat := 0x750005
/-- `7500:06` (R323). -/
abbrev SHIFT_CONFIRM : Nat := 0x750006
/-- `7500:07` (R323). -/
abbrev SHIFT_WAIT : Nat := 0x750007
/-- `7500:08` (R323). -/
abbrev SHIFT_TQ_RAMP : Nat := 0x750008
/-- `7500:09` (R323). -/
abbrev SHIFT_RETRIES : Nat := 0x750009
/-- `7500:0A` (R323). -/
abbrev RETRY_DELAY : Nat := 0x75000A
/-- `7500:0B` (R323). -/
abbrev ENG_NEUTRAL : Nat := 0x75000B
/-- `7500:0C` (R323). -/
abbrev SEL_NEUTRAL : Nat := 0x75000C
/-- `7500:0D` (R323). -/
abbrev CREEP_P : Nat := 0x75000D
/-- `7500:0E` (R323). -/
abbrev SHIFT_STATE : Nat := 0x75000E
/-- `7500:0F` (R323). -/
abbrev PARK_SET : Nat := 0x75000F
/-- `7500:10` (R323). -/
abbrev PARK_NOW : Nat := 0x750010
/-- `7500:11` (R323). -/
abbrev PARK_RELEASED : Nat := 0x750011
/-- `7500:12` (R323). -/
abbrev PARK_ENGAGED : Nat := 0x750012
/-- `7500:13` (R323). -/
abbrev PARK_COMMIT : Nat := 0x750013
/-- `7500:14` (R323). -/
abbrev DIFF_SET : Nat := 0x750014
/-- `7500:15` (R323). -/
abbrev DIFF_RELEASED : Nat := 0x750015
/-- `7500:16` (R323). -/
abbrev DIFF_ENGAGED : Nat := 0x750016
/-- `7500:17` (R323). -/
abbrev AUTO_HOME : Nat := 0x750017
/-- `7500:18` (R323). -/
abbrev REHOME : Nat := 0x750018
/-- `7510:01` (R323). -/
abbrev SEL_POS : Nat := 0x751001
/-- `7511:01` (R323). -/
abbrev ENG_POS : Nat := 0x751101
/-- `8000:01` (R331). -/
abbrev MOUNT : Nat := 0x800001
/-- `8000:02` (R331). -/
abbrev REF_X : Nat := 0x800002
/-- `8000:03` (R331). -/
abbrev REF_Y : Nat := 0x800003
/-- `8000:04` (R331). -/
abbrev TONGUE_L : Nat := 0x800004
/-- `8000:05` (R331). -/
abbrev ROWS : Nat := 0x800005
/-- `8000:06` (R331). -/
abbrev FIELD_LAT : Nat := 0x800006
/-- `8000:07` (R331). -/
abbrev FIELD_LON : Nat := 0x800007
/-- `8000:08` (R331). -/
abbrev POS_E : Nat := 0x800008
/-- `8000:09` (R331). -/
abbrev POS_N : Nat := 0x800009
/-- `8000:0A` (R331). -/
abbrev HEADING : Nat := 0x80000A
/-- `8000:0B` (R331). -/
abbrev YAW_RATE_8000 : Nat := 0x80000B
/-- `8000:0C` (R331). -/
abbrev POS_VALID : Nat := 0x80000C
/-- `8010:01` (R332). -/
abbrev ROW_X : Nat := 0x801001
/-- `8011:01` (R332). -/
abbrev ROW_Y : Nat := 0x801101
/-- `8012:01` (R332). -/
abbrev ROW_WIDTH : Nat := 0x801201
/-- `8013:01` (R332). -/
abbrev ROW_ENABLE : Nat := 0x801301
/-- `8014:01` (R332). -/
abbrev ROW_STATE : Nat := 0x801401
/-- `8015:01` (R332). -/
abbrev RATE_NOW : Nat := 0x801501
/-- `8016:01` (R332). -/
abbrev SPACING : Nat := 0x801601
/-- `8020:01` (R337). -/
abbrev DIST_PRIMARY : Nat := 0x802001
/-- `8020:02` (R337). -/
abbrev DIST_SECONDARY : Nat := 0x802002
/-- `8020:03` (R337). -/
abbrev WHL0_Y : Nat := 0x802003
/-- `8020:04` (R337). -/
abbrev WHL1_Y : Nat := 0x802004
/-- `8020:05` (R337). -/
abbrev RAD0_Y : Nat := 0x802005
/-- `8020:06` (R337). -/
abbrev DIR_SOURCE : Nat := 0x802006
/-- `8020:07` (R337). -/
abbrev DIR_SIGN : Nat := 0x802007
/-- `8020:08` (R337). -/
abbrev MIN_FIX : Nat := 0x802008
/-- `8020:09` (R337). -/
abbrev FIX_LATENCY : Nat := 0x802009
/-- `8020:0A` (R337). -/
abbrev HEAD_TC : Nat := 0x80200A
/-- `8020:0B` (R337). -/
abbrev DR_LIMIT : Nat := 0x80200B
/-- `8020:0C` (R337). -/
abbrev SLIP_LIMIT : Nat := 0x80200C
/-- `8020:0D` (R337). -/
abbrev ACTIVE_DIST : Nat := 0x80200D
/-- `8020:0E` (R337). -/
abbrev GNSS_STATE : Nat := 0x80200E
/-- `8020:0F` (R337). -/
abbrev DR_DISTANCE : Nat := 0x80200F
/-- `8020:10` (R337). -/
abbrev FIXES : Nat := 0x802010
/-- `8020:11` (R337). -/
abbrev FIXES_REJECTED : Nat := 0x802011
/-- `8030:01` (R343). -/
abbrev JOB_CTRL : Nat := 0x803001
/-- `8030:02` (R343). -/
abbrev JOB_STATE : Nat := 0x803002
/-- `8030:03` (R343). -/
abbrev CELL_SIZE : Nat := 0x803003
/-- `8030:04` (R343). -/
abbrev MAP_E0 : Nat := 0x803004
/-- `8030:05` (R343). -/
abbrev MAP_N0 : Nat := 0x803005
/-- `8030:06` (R343). -/
abbrev MAP_W : Nat := 0x803006
/-- `8030:07` (R343). -/
abbrev MAP_H : Nat := 0x803007
/-- `8030:08` (R343). -/
abbrev APPLIED_AREA : Nat := 0x803008
/-- `8030:09` (R343). -/
abbrev OFF_COUNT : Nat := 0x803009
/-- `8030:0A` (R343). -/
abbrev COMMIT_DIST : Nat := 0x80300A
/-- `8030:0B` (R343). -/
abbrev SAVE_INTERVAL : Nat := 0x80300B
/-- `8030:0C` (R343). -/
abbrev LOSS_ACTION : Nat := 0x80300C
/-- `8030:0D` (R343). -/
abbrev POISONED_CELLS : Nat := 0x80300D
/-- `8040:01` (R346). -/
abbrev BOUNDARIES : Nat := 0x804001
/-- `8040:02` (R346). -/
abbrev BOUNDARY_STATUS : Nat := 0x804002
/-- `8040:03` (R346). -/
abbrev HEADLAND_APPLY : Nat := 0x804003
/-- `8040:04` (R346). -/
abbrev BOUNDARY_TEST : Nat := 0x804004
/-- `8050:01` (R348). -/
abbrev RX_GRID : Nat := 0x805001
/-- `8050:02` (R348). -/
abbrev RX_STATUS : Nat := 0x805002
/-- `8050:03` (R348). -/
abbrev RATE_LSB : Nat := 0x805003
/-- `8050:04` (R348). -/
abbrev BASE_RATE : Nat := 0x805004
/-- `8050:05` (R348). -/
abbrev RATE_SOURCE : Nat := 0x805005
/-- `8060:01` (R350). -/
abbrev MASTER : Nat := 0x806001
/-- `8060:02` (R350). -/
abbrev SECTION_SOURCE : Nat := 0x806002
/-- `8060:03` (R350). -/
abbrev LAT_ON : Nat := 0x806003
/-- `8060:04` (R350). -/
abbrev LAT_OFF : Nat := 0x806004
/-- `8060:05` (R350). -/
abbrev DOSE_LAT : Nat := 0x806005
/-- `8060:06` (R350). -/
abbrev ROW_V_MIN : Nat := 0x806006
/-- `8060:07` (R350). -/
abbrev T_LA : Nat := 0x806007
/-- `8060:08` (R350). -/
abbrev LATE_SWITCHES : Nat := 0x806008
/-- `8080:01` (R354). -/
abbrev COMMANDED : Nat := 0x808001
/-- `8081:01` (R354). -/
abbrev CONFIRMED : Nat := 0x808101
/-- `8082:01` (R354). -/
abbrev MISSED_8082 : Nat := 0x808201
/-- `8083:01` (R354). -/
abbrev PENDING : Nat := 0x808301
/-- `8084:01` (R354). -/
abbrev CANCELLED : Nat := 0x808401
/-- `9000:01` (R368). -/
abbrev CHAIN_CTRL : Nat := 0x900001
/-- `9000:02` (R368). -/
abbrev NODES_CFG : Nat := 0x900002
/-- `9000:03` (R368). -/
abbrev T_CYC : Nat := 0x900003
/-- `9000:04` (R368). -/
abbrev STATE_9000 : Nat := 0x900004
/-- `9000:05` (R368). -/
abbrev PRESENT : Nat := 0x900005
/-- `9000:06` (R368). -/
abbrev HOPS : Nat := 0x900006
/-- `9000:07` (R368). -/
abbrev LOSS_CYCLES : Nat := 0x900007
/-- `9000:08` (R368). -/
abbrev JOIN_ENABLE : Nat := 0x900008
/-- `9000:09` (R368). -/
abbrev CYCLES_9000 : Nat := 0x900009
/-- `9000:0A` (R368). -/
abbrev CRC_ERRORS : Nat := 0x90000A
/-- `9000:0B` (R368). -/
abbrev RING_DELAY : Nat := 0x90000B
/-- `9100:01` (R369). -/
abbrev ROW : Nat := 0x910001
/-- `9101:01` (R369). -/
abbrev GROUPS : Nat := 0x910101
/-- `9102:01` (R369). -/
abbrev NODE_STATE : Nat := 0x910201
/-- `9103:01` (R369). -/
abbrev SERIAL_9103 : Nat := 0x910301
/-- `9104:01` (R369). -/
abbrev CREDITS : Nat := 0x910401
/-- `9105:01` (R369). -/
abbrev QUEUED : Nat := 0x910501
/-- `9106:01` (R369). -/
abbrev SLOT_ERRORS : Nat := 0x910601
/-- `9107:01` (R369). -/
abbrev LOSSES_9107 : Nat := 0x910701
/-- `9108:01` (R369). -/
abbrev NODE_FAULT : Nat := 0x910801
/-- `1100:01` (R386). -/
abbrev CANA_TERM : Nat := 0x110001
/-- `1100:02` (R386). -/
abbrev CANA_BUSOFF : Nat := 0x110002
/-- `1110:01` (R386). -/
abbrev CANB_ADDR : Nat := 0x111001
/-- `1110:02` (R386). -/
abbrev CANB_ARB : Nat := 0x111002
/-- `1110:03` (R386). -/
abbrev CANB_DATA : Nat := 0x111003
/-- `1110:04` (R386). -/
abbrev CANB_TERM : Nat := 0x111004
/-- `1110:05` (R386). -/
abbrev BMS_ADDR : Nat := 0x111005
/-- `1110:06` (R386). -/
abbrev CANB_BUSOFF : Nat := 0x111006
/-- `1120:01` (R386). -/
abbrev ETH_ROLE : Nat := 0x112001
/-- `1120:02` (R386). -/
abbrev IP_ADDR : Nat := 0x112002
/-- `1120:03` (R386). -/
abbrev IP_MASK : Nat := 0x112003
/-- `1120:04` (R386). -/
abbrev ETH_LINK : Nat := 0x112004
/-- `1200:01` (R396). -/
abbrev SESSION_STATE : Nat := 0x120001
/-- `1201:01` (R396). -/
abbrev SESSION_ROLE : Nat := 0x120101
/-- `1202:01` (R396). -/
abbrev SESSION_PATH : Nat := 0x120201
/-- `1203:01` (R396). -/
abbrev SESSION_PEER : Nat := 0x120301
/-- `1204:01` (R396). -/
abbrev SESSION_TIMEOUT : Nat := 0x120401
/-- `1204:02` (R396). -/
abbrev CLOSE_SESSION : Nat := 0x120402
/-- `1205:01` (R396). -/
abbrev AUTH_FAILS : Nat := 0x120501
/-- `1205:02` (R396). -/
abbrev UNIT_DISCARDS : Nat := 0x120502
/-- `1300:01` (R399). -/
abbrev OWN_ADDR : Nat := 0x130001
/-- `1300:02` (R399). -/
abbrev NAME : Nat := 0x130002
/-- `1300:03` (R399). -/
abbrev PREF_ADDR : Nat := 0x130003
/-- `1300:04` (R399). -/
abbrev PEERS : Nat := 0x130004
/-- `1301:01` (R399). -/
abbrev PEER_NAME : Nat := 0x130101
/-- `1302:01` (R399). -/
abbrev TRACTOR_NAME : Nat := 0x130201
/-- `1302:02` (R399). -/
abbrev GNSS_NAME : Nat := 0x130202
/-- `1302:03` (R399). -/
abbrev TC_NAME : Nat := 0x130203
/-- `1302:04` (R399). -/
abbrev IGNORED : Nat := 0x130204
/-- `1800:01` (R406). -/
abbrev ENABLE_1800 : Nat := 0x180001
/-- `1800:02` (R406). -/
abbrev PATH : Nat := 0x180002
/-- `1800:03` (R406). -/
abbrev MODE_1800 : Nat := 0x180003
/-- `1800:04` (R406). -/
abbrev PERIOD_1800 : Nat := 0x180004
/-- `1800:05` (R406). -/
abbrev INHIBIT : Nat := 0x180005
/-- `1800:06` (R406). -/
abbrev SESSION : Nat := 0x180006
/-- `1800:07` (R406). -/
abbrev DEST_IP : Nat := 0x180007
/-- `1800:08` (R406). -/
abbrev DEST_PORT : Nat := 0x180008
/-- `1800:09` (R406). -/
abbrev SENT : Nat := 0x180009
/-- `1800:0A` (R406). -/
abbrev DROPPED_1800 : Nat := 0x18000A
/-- `1A00:01` (R406). -/
abbrev ENTRY : Nat := 0x1A0001
/-- `F000:01` (R420). -/
abbrev KIND : Nat := 0xF00001
/-- `F000:02` (R420). -/
abbrev MEMBERS : Nat := 0xF00002
/-- `F000:03` (R420). -/
abbrev TIMING : Nat := 0xF00003
/-- `F000:04` (R420). -/
abbrev TRACK_F000 : Nat := 0xF00004
/-- `F000:05` (R420). -/
abbrev COORD : Nat := 0xF00005
/-- `F000:06` (R420). -/
abbrev QUALIFIER_F000 : Nat := 0xF00006
/-- `F000:07` (R420). -/
abbrev SLOT : Nat := 0xF00007
/-- `F000:08` (R420). -/
abbrev STATE_F000 : Nat := 0xF00008
/-- `F000:09` (R420). -/
abbrev CTRL_F000 : Nat := 0xF00009
/-- `F000:0A` (R420). -/
abbrev APPLIED_AT : Nat := 0xF0000A
/-- `F000:0B` (R420). -/
abbrev REFUSED : Nat := 0xF0000B
/-- `F000:0C` (R420). -/
abbrev FIRST_REFUSED : Nat := 0xF0000C
/-- `F000:0D` (R420). -/
abbrev REFUSE_CODE : Nat := 0xF0000D
/-- `1000:00` (R426). -/
abbrev DEVICE_TYPE : Nat := 0x100000
/-- `1008:00` (R426). -/
abbrev ORDERING_CODE : Nat := 0x100800
/-- `1009:00` (R426). -/
abbrev HW_ISSUE : Nat := 0x100900
/-- `100A:00` (R426). -/
abbrev FW_VERSION : Nat := 0x100A00
/-- `1018:01` (R426). -/
abbrev VENDOR_ID : Nat := 0x101801
/-- `1018:02` (R426). -/
abbrev PRODUCT_CODE : Nat := 0x101802
/-- `1018:03` (R426). -/
abbrev SERIAL_1018 : Nat := 0x101803
/-- `1018:04` (R426). -/
abbrev MFG_DATE : Nat := 0x101804
/-- `1018:05` (R426). -/
abbrev ACTIVE_SLOT : Nat := 0x101805
/-- `1018:06` (R426). -/
abbrev SEC_VERSION : Nat := 0x101806
/-- `2000:01` (R427). -/
abbrev SERVICE_LEVEL : Nat := 0x200001
/-- `2000:02` (R427). -/
abbrev LIFE_CYCLE : Nat := 0x200002
/-- `2000:03` (R427). -/
abbrev FUSE_DEFAULTS : Nat := 0x200003
/-- `2000:04` (R427). -/
abbrev SAFE_STATE : Nat := 0x200004
/-- `2000:05` (R427). -/
abbrev FAULTS_ACTIVE : Nat := 0x200005
/-- `2000:06` (R427). -/
abbrev RESET_CAUSE : Nat := 0x200006
/-- `2000:07` (R427). -/
abbrev RESETS : Nat := 0x200007
/-- `2000:08` (R427). -/
abbrev OP_HOURS : Nat := 0x200008
/-- `2010:01` (R427). -/
abbrev DOMAIN_STATE : Nat := 0x201001
/-- `2020:01` (R427). -/
abbrev RESET_CMD : Nat := 0x202001
/-- `2310:01` (R429). -/
abbrev NFAULT_LEVEL : Nat := 0x231001
/-- `2310:02` (R429). -/
abbrev NFAULT_POLICY : Nat := 0x231002
/-- `2310:03` (R429). -/
abbrev NFAULT_CLASS : Nat := 0x231003
/-- `2310:04` (R429). -/
abbrev PULSE_MS : Nat := 0x231004
/-- `2310:05` (R429). -/
abbrev PIN : Nat := 0x231005
/-- `2310:06` (R429). -/
abbrev PULSES_2310 : Nat := 0x231006
/-- `1140:01` (R433). -/
abbrev HSP_MODE : Nat := 0x114001
/-- `1140:02` (R433). -/
abbrev SPI_MODE : Nat := 0x114002
/-- `1140:03` (R433). -/
abbrev DC_WORDS : Nat := 0x114003
/-- `1140:04` (R433). -/
abbrev DC_FRAME_BITS : Nat := 0x114004
/-- `1140:05` (R433). -/
abbrev ABORTS : Nat := 0x114005
/-- `1140:06` (R433). -/
abbrev OVERRUNS : Nat := 0x114006
/-- `1140:07` (R433). -/
abbrev BAD_CMD : Nat := 0x114007
/-- `1140:08` (R433). -/
abbrev UNITS_IN : Nat := 0x114008
/-- `1140:09` (R433). -/
abbrev UNITS_OUT : Nat := 0x114009
/-- `3480:01` (R443). -/
abbrev CLK_DIV : Nat := 0x348001
/-- `3480:02` (R443). -/
abbrev SEL_MODE : Nat := 0x348002
/-- `3480:03` (R443). -/
abbrev SEL_SETUP : Nat := 0x348003
/-- `3480:04` (R443). -/
abbrev LEAD : Nat := 0x348004
/-- `3480:05` (R443). -/
abbrev TRAIL : Nat := 0x348005
/-- `3480:06` (R443). -/
abbrev GAP : Nat := 0x348006
/-- `3480:07` (R443). -/
abbrev SAMPLE_TB0 : Nat := 0x348007
/-- `3480:0B` (R443). -/
abbrev START : Nat := 0x34800B
/-- `3480:0C` (R443). -/
abbrev STATE_3480 : Nat := 0x34800C
/-- `3480:0D` (R443). -/
abbrev STARTS : Nat := 0x34800D
/-- `3480:0E` (R443). -/
abbrev DROPPED_3480 : Nat := 0x34800E
/-- `3480:0F` (R443). -/
abbrev SKIPPED : Nat := 0x34800F
/-- `1150:01` (R451). -/
abbrev XP_ENABLE : Nat := 0x115001
/-- `1150:02` (R451). -/
abbrev XP_CLK : Nat := 0x115002
/-- `1150:03` (R451). -/
abbrev XP_STATE : Nat := 0x115003
/-- `1150:04` (R451). -/
abbrev XP_SIZE : Nat := 0x115004
/-- `1150:05` (R451). -/
abbrev XP_COPIES : Nat := 0x115005
/-- `B000:01` (R468). -/
abbrev CE_COUNT : Nat := 0xB00001
/-- `B001:01` (R468). -/
abbrev UE_COUNT : Nat := 0xB00101
/-- `B002:01` (R468). -/
abbrev BUCKET_DEPTH : Nat := 0xB00201
/-- `B003:01` (R468). -/
abbrev BUCKET_LEAK : Nat := 0xB00301
/-- `B004:01` (R468). -/
abbrev LEVEL : Nat := 0xB00401
/-- `B005:01` (R468). -/
abbrev OVERFLOWS : Nat := 0xB00501
/-- `B006:01` (R468). -/
abbrev PIGEONHOLES_TOTAL : Nat := 0xB00601
/-- `B007:01` (R468). -/
abbrev PIGEONHOLES_USED_B007 : Nat := 0xB00701
/-- `B008:01` (R468). -/
abbrev PIGEONHOLES_FREE : Nat := 0xB00801
/-- `B009:01` (R468). -/
abbrev PERM_POISONED : Nat := 0xB00901
/-- `B00A:01` (R468). -/
abbrev ROUNDS : Nat := 0xB00A01
/-- `B00B:01` (R468). -/
abbrev ROUND_LAST : Nat := 0xB00B01
/-- `B010:01` (R468). -/
abbrev ROUND_TIME_SRAM : Nat := 0xB01001
/-- `B011:01` (R468). -/
abbrev ROUND_TIME_TCM : Nat := 0xB01101
/-- `B012:01` (R468). -/
abbrev ROUND_TIME_TRACE : Nat := 0xB01201
/-- `B020:01` (R468). -/
abbrev POISON_CONSUMED : Nat := 0xB02001
/-- `B021:01` (R468). -/
abbrev LAST_UE_INSTANCE : Nat := 0xB02101
/-- `B021:02` (R468). -/
abbrev LAST_UE_OFFSET : Nat := 0xB02102
/-- `B030:01` (R468). -/
abbrev M_RECORDS_USED : Nat := 0xB03001
/-- `B030:02` (R468). -/
abbrev M_RECORDS_FREE : Nat := 0xB03002
/-- `B100:01` (R478). -/
abbrev OTP_CMD : Nat := 0xB10001
/-- `B100:02` (R478). -/
abbrev OTP_DATA : Nat := 0xB10002
/-- `B100:03` (R478). -/
abbrev OTP_STATUS : Nat := 0xB10003
/-- `B101:01` (R478). -/
abbrev SPARE_USED : Nat := 0xB10101
/-- `B101:02` (R478). -/
abbrev SPARE_FREE : Nat := 0xB10102
/-- `B101:03` (R478). -/
abbrev SPARE_FAILED : Nat := 0xB10103
/-- `B101:04` (R478). -/
abbrev WEAK_WORDS : Nat := 0xB10104
/-- `B101:05` (R478). -/
abbrev LAST_WEAK : Nat := 0xB10105
/-- `B101:06` (R478). -/
abbrev J_FREE : Nat := 0xB10106
/-- `B102:01` (R478). -/
abbrev REGION_STATE : Nat := 0xB10201
/-- `B103:01` (R478). -/
abbrev BANK : Nat := 0xB10301
/-- `B103:02` (R478). -/
abbrev REISSUED : Nat := 0xB10302
/-- `B110:01` (R478). -/
abbrev BANK_WORD : Nat := 0xB11001
/-- `B120:01` (R478). -/
abbrev SHADOW : Nat := 0xB12001
/-- `B200:01` (R500). -/
abbrev IMG_CTRL : Nat := 0xB20001
/-- `B200:02` (R500). -/
abbrev IMG_BLOCK_NO : Nat := 0xB20002
/-- `B200:03` (R500). -/
abbrev IMG_BLOCK : Nat := 0xB20003
/-- `B200:04` (R500). -/
abbrev IMG_STATE : Nat := 0xB20004
/-- `B200:05` (R500). -/
abbrev IMG_RESULT : Nat := 0xB20005
/-- `B200:06` (R500). -/
abbrev SLOT_A_STATE : Nat := 0xB20006
/-- `B200:07` (R500). -/
abbrev SLOT_B_STATE : Nat := 0xB20007
/-- `B200:08` (R500). -/
abbrev SLOT_A_SEC : Nat := 0xB20008
/-- `B200:09` (R500). -/
abbrev SLOT_B_SEC : Nat := 0xB20009
/-- `2100:01` (R504). -/
abbrev ROUTE : Nat := 0x210001
/-- `2101:01` (R504). -/
abbrev ROUTE_HI : Nat := 0x210101
/-- `2102:01` (R504). -/
abbrev ROUTE_ARG : Nat := 0x210201
/-- `2103:01` (R504). -/
abbrev ROUTE_ARG_HI : Nat := 0x210301
/-- `2200:01` (R514). -/
abbrev ACTIVE : Nat := 0x220001
/-- `2201:00` (R514). -/
abbrev FAULT_LOG : Nat := 0x220100
/-- `2202:01` (R514). -/
abbrev LOG_TOTAL : Nat := 0x220201
/-- `2210:01` (R516). -/
abbrev CODE : Nat := 0x221001
/-- `2210:02` (R516). -/
abbrev ADDRESS : Nat := 0x221002
/-- `2210:03` (R516). -/
abbrev INITIATOR : Nat := 0x221003
/-- `2210:04` (R516). -/
abbrev ACCESS : Nat := 0x221004
/-- `2210:05` (R516). -/
abbrev WALL : Nat := 0x221005
/-- `2210:06` (R516). -/
abbrev TRACK_1 : Nat := 0x221006
/-- `2210:07` (R516). -/
abbrev VALUE_1 : Nat := 0x221007
/-- `2210:08` (R516). -/
abbrev TRACK_2 : Nat := 0x221008
/-- `2210:09` (R516). -/
abbrev VALUE_2 : Nat := 0x221009
/-- `2210:0A` (R516). -/
abbrev SINCE : Nat := 0x22100A
/-- `2210:0B` (R516). -/
abbrev VALID_2210 : Nat := 0x22100B
/-- `2210:0C` (R516). -/
abbrev ACK : Nat := 0x22100C
/-- `2300:01` (R519). -/
abbrev QUIET : Nat := 0x230001
/-- `2301:01` (R519). -/
abbrev RECOVERIES : Nat := 0x230101
/-- `2301:02` (R519). -/
abbrev RECENT : Nat := 0x230102
/-- `2302:01` (R519). -/
abbrev LOCKOUT_CLEAR : Nat := 0x230201
/-- `2320:01` (R529). -/
abbrev TARGET_2320 : Nat := 0x232001
/-- `2320:02` (R529). -/
abbrev SELECT : Nat := 0x232002
/-- `2320:03` (R529). -/
abbrev BITS : Nat := 0x232003
/-- `2320:04` (R529). -/
abbrev COUNT_2320 : Nat := 0x232004
/-- `2320:05` (R529). -/
abbrev CTRL_2320 : Nat := 0x232005
/-- `2320:06` (R529). -/
abbrev STATE_2320 : Nat := 0x232006
/-- `2320:07` (R529). -/
abbrev INJECTIONS : Nat := 0x232007
/-- `2500:01` (R536). -/
abbrev TEMP : Nat := 0x250001
/-- `2501:01` (R536). -/
abbrev SENSOR_STATE : Nat := 0x250101
/-- `2510:01` (R536). -/
abbrev DOMAIN_MAX : Nat := 0x251001
/-- `2511:01` (R536). -/
abbrev DEVICE_MAX : Nat := 0x251101
/-- `2511:02` (R536). -/
abbrev BAND : Nat := 0x251102
/-- `2511:03` (R536). -/
abbrev BAND_CHANGES : Nat := 0x251103
/-- `2511:04` (R536). -/
abbrev THROTTLING : Nat := 0x251104
/-- `2530+n:01` (R536). -/
abbrev NTC_DOMAIN : Nat := 0x253101
/-- `2530+n:02` (R536). -/
abbrev NTC_R25 : Nat := 0x253102
/-- `2530+n:03` (R536). -/
abbrev NTC_BETA : Nat := 0x253103
/-- `2530+n:04` (R536). -/
abbrev NTC_HOT : Nat := 0x253104
/-- `2530+n:05` (R536). -/
abbrev NTC_TRIP : Nat := 0x253105
/-- `2530+n:06` (R536). -/
abbrev DERATE_CAP : Nat := 0x253106
/-- `2540:01` (R546). -/
abbrev LE8_HOSTS_2540 : Nat := 0x254001
/-- `2540:02` (R546). -/
abbrev ENGINE_MOVES : Nat := 0x254002
/-- `2540:03` (R546). -/
abbrev PIGEONHOLES_USED_2540 : Nat := 0x254003
/-- `2540:04` (R546). -/
abbrev WORDS_PERM_POISONED : Nat := 0x254004
/-- `2540:05` (R546). -/
abbrev OTP_SPARES_CONSUMED : Nat := 0x254005
/-- `2540:06` (R546). -/
abbrev SAR_SPARES_USED : Nat := 0x254006
/-- `2540:07` (R546). -/
abbrev SAR_RETIRED : Nat := 0x254007
/-- `2540:08` (R546). -/
abbrev SPARE_CHANNELS_USED : Nat := 0x254008
/-- `2540:09` (R546). -/
abbrev CHANNELS_REPLACED : Nat := 0x254009
/-- `2540:0A` (R546). -/
abbrev CLOCK_FALLBACKS : Nat := 0x25400A
/-- `2541:01` (R546). -/
abbrev BAND_HOURS : Nat := 0x254101
/-- `2541:05` (R546). -/
abbrev THERMAL_CYCLES : Nat := 0x254105
/-- `2600:01` (R559). -/
abbrev KEYOFF_DELAY : Nat := 0x260001
/-- `2600:02` (R559). -/
abbrev CHARGE_HOLD : Nat := 0x260002
/-- `2600:03` (R559). -/
abbrev PARK_AT_OFF : Nat := 0x260003
/-- `2600:04` (R559). -/
abbrev SHUTDOWN_MAX : Nat := 0x260004
/-- `2600:05` (R559). -/
abbrev SHUTDOWN_STATE : Nat := 0x260005
/-- `2600:06` (R559). -/
abbrev KEY_ON : Nat := 0x260006
/-- `2600:07` (R559). -/
abbrev VSUP : Nat := 0x260007
/-- `2600:08` (R559). -/
abbrev START_TIME : Nat := 0x260008
/-- `2600:09` (R559). -/
abbrev SHUTDOWNS_FORCED : Nat := 0x260009
/-- `C000:01` (R570). -/
abbrev TRACE_CTRL : Nat := 0xC00001
/-- `C000:02` (R570). -/
abbrev TRACE_STATE : Nat := 0xC00002
/-- `C000:03` (R570). -/
abbrev MODE_C000 : Nat := 0xC00003
/-- `C000:04` (R570). -/
abbrev POST_RECORDS : Nat := 0xC00004
/-- `C000:05` (R570). -/
abbrev TRIGGER_MASK : Nat := 0xC00005
/-- `C000:06` (R570). -/
abbrev TRIGGER_NO : Nat := 0xC00006
/-- `C000:07` (R570). -/
abbrev TRIGGER_WALL : Nat := 0xC00007
/-- `C001:00` (R570). -/
abbrev EVENT_MASK : Nat := 0xC00100
/-- `C010:01` (R570). -/
abbrev CH_SOURCE : Nat := 0xC01001
/-- `C010:02` (R570). -/
abbrev CH_PERIOD : Nat := 0xC01002
/-- `C100:01` (R576). -/
abbrev RECORDS_WRITTEN : Nat := 0xC10001
/-- `C100:02` (R576). -/
abbrev RECORDS_EXPORTED : Nat := 0xC10002
/-- `C100:03` (R576). -/
abbrev RECORDS_LOST : Nat := 0xC10003
/-- `C100:04` (R576). -/
abbrev FRAMES_SENT : Nat := 0xC10004
/-- `C100:05` (R576). -/
abbrev TRIGGERS : Nat := 0xC10005
/-- `C100:06` (R576). -/
abbrev TRIGGERS_IGNORED : Nat := 0xC10006
/-- `C110:01` (R576). -/
abbrev ENGINE_LOAD : Nat := 0xC11001
/-- `C111:01` (R576). -/
abbrev ENGINE_PEAK : Nat := 0xC11101
/-- `2610:01` (R584). -/
abbrev SUPPLY_STATE : Nat := 0x261001
/-- `2610:02` (R584). -/
abbrev SUPPLY_TRIPS : Nat := 0x261002
/-- `2610:03` (R584). -/
abbrev SUPPLY_ENABLE : Nat := 0x261003
/-- `3100:01` (R602). -/
abbrev SLOTS_IN_USE : Nat := 0x310001
/-- `3100:02` (R602). -/
abbrev USER_SLOTS_IN_USE : Nat := 0x310002
/-- `6200:01` (R282). -/
abbrev OFFTEST_REQUEST : Nat := 0x620001
/-- `6200:02` (R282). -/
abbrev OFFTEST_STATE : Nat := 0x620002
/-- `4900:01` (R125). -/
abbrev PATTERN_TRB : Nat := 0x490001
/-- `6300:01` (R280). -/
abbrev DRIVE_EN : Nat := 0x630001
/-- `6300:02` (R280). -/
abbrev LATCHES_CLEARED : Nat := 0x630002
/-- `7210:01` (R311). -/
abbrev USER_TABLE_1 : Nat := 0x721001
/-- `7210:02` (R311). -/
abbrev USER_TABLE_2 : Nat := 0x721002
/-- `7401:01` (R321). -/
abbrev GROUP_CTRL : Nat := 0x740101
/-- `7401:02` (R321). -/
abbrev GROUP_STATE : Nat := 0x740102
/-- `7401:03` (R321). -/
abbrev GROUP_LEADER : Nat := 0x740103
/-- `9110:01` (R380). -/
abbrev MBX_NODE : Nat := 0x911001
/-- `9110:02` (R380). -/
abbrev MBX_PARAM : Nat := 0x911002
/-- `9110:03` (R380). -/
abbrev MBX_DATA : Nat := 0x911003
/-- `9110:04` (R380). -/
abbrev MBX_CTRL : Nat := 0x911004
/-- `9110:05` (R380). -/
abbrev MBX_STATUS : Nat := 0x911005
/-- `1400:01` (R405). -/
abbrev TC_RATE_KIND : Nat := 0x140001
/-- `1400:02` (R405). -/
abbrev DOSE_VOLUME : Nat := 0x140002
/-- `1400:03` (R405). -/
abbrev TC_STATE : Nat := 0x140003
/-- `1700:01` (R409). -/
abbrev POOL_FREE : Nat := 0x170001
/-- `1700:02` (R409). -/
abbrev POOL_USED : Nat := 0x170002
/-- `F200:01` (R422). -/
abbrev T_IDX : Nat := 0xF20001
/-- `F200:02` (R422). -/
abbrev T_SUB : Nat := 0xF20002
/-- `F100:01` (R422). -/
abbrev COURIER_WRITE : Nat := 0xF10001
/-- `3484:01` (R445). -/
abbrev QUEUE : Nat := 0x348401
/-- `3484:05` (R445). -/
abbrev QUEUE_NEXT : Nat := 0x348405
/-- `3488:01` (R447). -/
abbrev RX : Nat := 0x348801
/-- `348C:01` (R447). -/
abbrev CHAIN_WALL : Nat := 0x348C01
/-- `348C:05` (R447). -/
abbrev CHAIN_TRACK : Nat := 0x348C05
/-- `348C:09` (R447). -/
abbrev CHAINS_DONE : Nat := 0x348C09
/-- `B104:01` (R491). -/
abbrev K_INT : Nat := 0xB10401
/-- `B104:02` (R491). -/
abbrev KEY_STATE : Nat := 0xB10402
/-- `B106:01` (R493). -/
abbrev LC_CTRL : Nat := 0xB10601
/-- `B106:02` (R494). -/
abbrev LC_STEP : Nat := 0xB10602
/-- `B106:04` (R494). -/
abbrev LC_RESULT : Nat := 0xB10604
/-- `B105:01` (R498). -/
abbrev ROLLBACK_COUNT : Nat := 0xB10501
/-- `2330:01` (R512). -/
abbrev SAFE_IN : Nat := 0x233001
/-- `2520:01` (R542). -/
abbrev PAUSE_SCRUB_TB2 : Nat := 0x252001
/-- `2520:02` (R542). -/
abbrev PAUSE_SCRUB_TB3 : Nat := 0x252002
/-- `2520:03` (R542). -/
abbrev PAUSE_TRACE_TB2 : Nat := 0x252003
/-- `2520:04` (R542). -/
abbrev PAUSE_TRACE_TB3 : Nat := 0x252004
/-- `2520:05` (R542). -/
abbrev PAUSE_CHAIN_TB2 : Nat := 0x252005
/-- `2520:06` (R542). -/
abbrev PAUSE_CHAIN_TB3 : Nat := 0x252006
/-- `2520:07` (R542). -/
abbrev PAUSE_FLASH_TB2 : Nat := 0x252007
/-- `2520:08` (R542). -/
abbrev PAUSE_FLASH_TB3 : Nat := 0x252008
/-- `2520:09` (R542). -/
abbrev PAUSE_RETRY_TB2 : Nat := 0x252009
/-- `2520:0A` (R542). -/
abbrev PAUSE_RETRY_TB3 : Nat := 0x25200A

end Sys2Proof.Obj

namespace Sys2Proof.Dict

/-- Objects of the indices 1000 to 10FF. -/
def rows10 : List ObjDef := [
  ⟨0x100000, 1, 0x1, 1, .u32, .ro, 0, 9, 244711425, 0, 4294967295, 0, [], false⟩,
  ⟨0x100800, 1, 0x1, 1, .str, .ro, 0, 9, 0, 0, 0, 0, [], false⟩,
  ⟨0x100900, 1, 0x1, 1, .str, .ro, 0, 9, 0, 0, 0, 0, [], false⟩,
  ⟨0x100A00, 1, 0x1, 1, .str, .ro, 0, 9, 0, 0, 0, 0, [], false⟩,
  ⟨0x101801, 1, 0x1, 1, .u32, .ro, 0, 9, 5196866, 0, 4294967295, 0, [], false⟩,
  ⟨0x101802, 1, 0x1, 1, .u32, .ro, 0, 9, 59744, 0, 4294967295, 0, [], false⟩,
  ⟨0x101803, 1, 0x1, 1, .u32, .ro, 0, 9, 1, 0, 4294967295, 0, [], false⟩,
  ⟨0x101804, 1, 0x1, 1, .u32, .ro, 0, 9, 0, 0, 4294967295, 0, [], false⟩,
  ⟨0x101805, 1, 0x1, 1, .u8, .ro, 0, 9, 1, 0, 255, 0, [], false⟩,
  ⟨0x101806, 1, 0x1, 1, .u32, .ro, 0, 9, 0, 0, 4294967295, 0, [], false⟩]

/-- Objects of the indices 1100 to 11FF, part 1. -/
def rows11a : List ObjDef := [
  ⟨0x110001, 1, 0x1, 1, .bool, .rw, 0, 2, 0, 0, 1, 0, [], false⟩,
  ⟨0x110002, 1, 0x1, 1, .u32, .ro, 0, 9, 0, 0, 4294967295, 0, [], false⟩,
  ⟨0x111001, 1, 0x1, 1, .u8, .rw, 0, 2, 16, 1, 254, 0, [], false⟩,
  ⟨0x111002, 1, 0x1, 1, .u16, .rw, 0, 2, 500, 250, 1000, 0, [250, 500, 1000], false⟩,
  ⟨0x111003, 1, 0x1, 1, .u8, .rw, 0, 2, 5, 1, 5, 0, [1, 2, 4, 5], false⟩,
  ⟨0x111004, 1, 0x1, 1, .bool, .rw, 0, 2, 0, 0, 1, 0, [], false⟩,
  ⟨0x111005, 1, 0x1, 1, .u8, .rw, 0, 2, 32, 1, 254, 0, [], false⟩,
  ⟨0x111006, 1, 0x1, 1, .u32, .ro, 0, 9, 0, 0, 4294967295, 0, [], false⟩,
  ⟨0x112001, 1, 0x1, 1, .u8, .rw, 0, 2, 2, 1, 2, 0, [], false⟩,
  ⟨0x112002, 1, 0x1, 1, .u32, .rw, 0, 2, 3232238140, 0, 4294967295, 0, [], false⟩,
  ⟨0x112003, 1, 0x1, 1, .u32, .rw, 0, 2, 4294967040, 0, 4294967295, 0, [], false⟩,
  ⟨0x112004, 1, 0x1, 1, .bool, .ro, 0, 9, 0, 0, 1, 0, [], false⟩,
  ⟨0x114001, 1, 0x1, 1, .u8, .rw, 0, 2, 0, 0, 1, 0, [], false⟩,
  ⟨0x114002, 1, 0x1, 1, .u8, .rw, 0, 2, 0, 0, 3, 0, [0, 3], false⟩,
  ⟨0x114003, 1, 0x1, 1, .u8, .rw, 0, 2, 16, 1, 64, 0, [], false⟩,
  ⟨0x114004, 1, 0x1, 1, .u16, .rw, 0, 2, 512, 32, 65535, 0, [], false⟩,
  ⟨0x114005, 1, 0x1, 1, .u32, .ro, 0, 9, 0, 0, 4294967295, 0, [], false⟩,
  ⟨0x114006, 1, 0x1, 1, .u32, .ro, 0, 9, 0, 0, 4294967295, 0, [], false⟩,
  ⟨0x114007, 1, 0x1, 1, .u32, .ro, 0, 9, 0, 0, 4294967295, 0, [], false⟩,
  ⟨0x114008, 1, 0x1, 1, .u32, .ro, 0, 9, 0, 0, 4294967295, 0, [], false⟩,
  ⟨0x114009, 1, 0x1, 1, .u32, .ro, 0, 9, 0, 0, 4294967295, 0, [], false⟩,
  ⟨0x115001, 1, 0x1, 1, .bool, .rw, 0, 2, 0, 0, 1, 0, [], false⟩,
  ⟨0x115002, 1, 0x1, 1, .u8, .rw, 0, 2, 100, 25, 133, 0, [], false⟩,
  ⟨0x115003, 1, 0x1, 1, .u8, .ro, 0, 9, 0, 0, 255, 0, [], false⟩]

/-- Objects of the indices 1100 to 11FF, part 2. -/
def rows11b : List ObjDef := [
  ⟨0x115004, 1, 0x1, 1, .u16, .ro, 0, 9, 0, 0, 65535, 0, [], false⟩,
  ⟨0x115005, 1, 0x1, 1, .u32, .ro, 0, 9, 0, 0, 4294967295, 0, [], false⟩]

/-- Objects of the indices 1200 to 12FF. -/
def rows12 : List ObjDef := [
  ⟨0x120001, 1, 0x1, 8, .u8, .ro, 0, 9, 0, 0, 255, 0, [], false⟩,
  ⟨0x120101, 1, 0x1, 8, .u8, .ro, 0, 9, 0, 0, 255, 0, [], false⟩,
  ⟨0x120201, 1, 0x1, 8, .u8, .ro, 0, 9, 0, 0, 255, 0, [], false⟩,
  ⟨0x120301, 1, 0x1, 8, .u32, .ro, 0, 9, 0, 0, 4294967295, 0, [], false⟩,
  ⟨0x120401, 1, 0x1, 1, .u32, .rw, 0, 2, 10000, 1000, 600000, 0, [], false⟩,
  ⟨0x120402, 1, 0x1, 1, .u8, .wo, 9, 3, 0, 1, 8, 0, [], false⟩,
  ⟨0x120501, 1, 0x1, 1, .u32, .ro, 0, 9, 0, 0, 4294967295, 0, [], false⟩,
  ⟨0x120502, 1, 0x1, 1, .u32, .ro, 0, 9, 0, 0, 4294967295, 0, [], false⟩]

/-- Objects of the indices 1300 to 13FF. -/
def rows13 : List ObjDef := [
  ⟨0x130001, 1, 0x1, 1, .u8, .ro, 0, 9, 254, 0, 255, 0, [], false⟩,
  ⟨0x130002, 1, 0x1, 1, .u64, .rws, 0, 2, 0, 0, 18446744073709551615, 0, [], false⟩,
  ⟨0x130003, 1, 0x1, 1, .u8, .rws, 0, 2, 128, 128, 247, 0, [], false⟩,
  ⟨0x130004, 1, 0x1, 1, .u8, .ro, 0, 9, 0, 0, 255, 0, [], false⟩,
  ⟨0x130101, 1, 0x1, 254, .u64, .ro, 0, 9, 0, 0, 18446744073709551615, 0, [], false⟩,
  ⟨0x130201, 1, 0x1, 1, .u64, .rw, 0, 2, 0, 0, 18446744073709551615, 0, [], false⟩,
  ⟨0x130202, 1, 0x1, 1, .u64, .rw, 0, 2, 0, 0, 18446744073709551615, 0, [], false⟩,
  ⟨0x130203, 1, 0x1, 1, .u64, .rw, 0, 2, 0, 0, 18446744073709551615, 0, [], false⟩,
  ⟨0x130204, 1, 0x1, 1, .u32, .ro, 0, 9, 0, 0, 4294967295, 0, [], false⟩]

/-- Objects of the indices 1400 to 14FF. -/
def rows14 : List ObjDef := [
  ⟨0x140001, 1, 0x1, 1, .u8, .rws, 0, 2, 0, 0, 1, 0, [], false⟩,
  ⟨0x140002, 1, 0x1, 1, .u32, .rws, 0, 2, 1000, 1, 10000000, 0, [], false⟩,
  ⟨0x140003, 1, 0x1, 1, .u8, .ro, 0, 9, 0, 0, 255, 0, [], false⟩]

/-- Objects of the indices 1700 to 17FF. -/
def rows17 : List ObjDef := [
  ⟨0x170001, 1, 0x1, 1, .u8, .ro, 0, 9, 128, 0, 255, 0, [], false⟩,
  ⟨0x170002, 1, 0x1, 1, .u8, .ro, 0, 9, 0, 0, 255, 0, [], false⟩]

/-- Objects of the indices 1800 to 18FF. -/
def rows18 : List ObjDef := [
  ⟨0x180001, 64, 0x1, 1, .bool, .rw, 0, 1, 0, 0, 1, 0, [], false⟩,
  ⟨0x180002, 64, 0x1, 1, .u8, .rw, 0, 1, 1, 1, 2, 0, [], false⟩,
  ⟨0x180003, 64, 0x1, 1, .u8, .rw, 0, 1, 1, 1, 3, 0, [], false⟩,
  ⟨0x180004, 64, 0x1, 1, .u16, .rw, 0, 1, 100, 1, 60000, 0, [], false⟩,
  ⟨0x180005, 64, 0x1, 1, .u16, .rw, 0, 1, 10, 0, 60000, 0, [], false⟩,
  ⟨0x180006, 64, 0x1, 1, .u8, .rw, 0, 1, 0, 0, 8, 0, [], false⟩,
  ⟨0x180007, 64, 0x1, 1, .u32, .rw, 0, 1, 4294967295, 0, 4294967295, 0, [], false⟩,
  ⟨0x180008, 64, 0x1, 1, .u16, .rw, 0, 1, 49600, 0, 65535, 0, [], false⟩,
  ⟨0x180009, 64, 0x1, 1, .u32, .ro, 0, 9, 0, 0, 4294967295, 0, [], false⟩,
  ⟨0x18000A, 64, 0x1, 1, .u32, .ro, 0, 9, 0, 0, 4294967295, 0, [], false⟩]

/-- Objects of the indices 1A00 to 1AFF. -/
def rows1A : List ObjDef := [
  ⟨0x1A0001, 64, 0x1, 16, .u32, .rw, 0, 1, 0, 0, 4294967295, 0, [], false⟩]

/-- Objects of the indices 2000 to 20FF. -/
def rows20 : List ObjDef := [
  ⟨0x200001, 1, 0x1, 1, .u8, .ro, 0, 9, 0, 0, 255, 0, [], false⟩,
  ⟨0x200002, 1, 0x1, 1, .u8, .ro, 0, 9, 0, 0, 255, 0, [], false⟩,
  ⟨0x200003, 1, 0x1, 1, .bool, .ro, 0, 9, 0, 0, 1, 0, [], false⟩,
  ⟨0x200004, 1, 0x1, 1, .u8, .ro, 0, 9, 0, 0, 255, 0, [], false⟩,
  ⟨0x200005, 1, 0x1, 1, .u16, .ro, 0, 9, 0, 0, 65535, 0, [], false⟩,
  ⟨0x200006, 1, 0x1, 1, .u8, .ro, 0, 9, 0, 0, 255, 0, [], false⟩,
  ⟨0x200007, 1, 0x1, 1, .u32, .ro, 0, 9, 0, 0, 4294967295, 0, [], true⟩,
  ⟨0x200008, 1, 0x1, 1, .u32, .ro, 0, 9, 0, 0, 4294967295, 0, [], true⟩,
  ⟨0x201001, 1, 0x1, 9, .u8, .ro, 0, 9, 0, 0, 255, 0, [], false⟩,
  ⟨0x202001, 1, 0x1, 1, .u8, .wo, 9, 3, 0, 1, 1, 0, [], false⟩]

/-- Objects of the indices 2100 to 21FF. -/
def rows21 : List ObjDef := [
  ⟨0x210001, 1, 0x1, 128, .u8, .rw, 0, 2, 1, 0, 63, 0, [], false⟩,
  ⟨0x210101, 1, 0x1, 128, .u8, .rw, 0, 2, 1, 0, 63, 0, [], false⟩,
  ⟨0x210201, 1, 0x1, 128, .u32, .rw, 0, 2, 0, 0, 4294967295, 0, [], false⟩,
  ⟨0x210301, 1, 0x1, 128, .u32, .rw, 0, 2, 0, 0, 4294967295, 0, [], false⟩]

/-- Objects of the indices 2200 to 22FF. -/
def rows22 : List ObjDef := [
  ⟨0x220001, 1, 0x1, 64, .u16, .ro, 0, 9, 0, 0, 65535, 0, [], false⟩,
  ⟨0x220100, 1, 0x1, 1, .domain, .ro, 0, 9, 0, 0, 0, 0, [], false⟩,
  ⟨0x220201, 1, 0x1, 1, .u32, .ro, 0, 9, 0, 0, 4294967295, 0, [], true⟩,
  ⟨0x221001, 5, 0x1, 1, .u16, .ro, 0, 9, 0, 0, 65535, 0, [], false⟩,
  ⟨0x221002, 5, 0x1, 1, .u32, .ro, 0, 9, 4294967295, 0, 4294967295, 0, [], false⟩,
  ⟨0x221003, 5, 0x1, 1, .u8, .ro, 0, 9, 0, 0, 255, 0, [], false⟩,
  ⟨0x221004, 5, 0x1, 1, .u8, .ro, 0, 9, 0, 0, 255, 0, [], false⟩,
  ⟨0x221005, 5, 0x1, 1, .u64, .ro, 0, 9, 0, 0, 18446744073709551615, 0, [], false⟩,
  ⟨0x221006, 5, 0x1, 1, .u8, .ro, 0, 9, 0, 0, 255, 0, [], false⟩,
  ⟨0x221007, 5, 0x1, 1, .i64, .ro, 0, 9, 0, (-9223372036854775808), 9223372036854775807, 0, [], false⟩,
  ⟨0x221008, 5, 0x1, 1, .u8, .ro, 0, 9, 0, 0, 255, 0, [], false⟩,
  ⟨0x221009, 5, 0x1, 1, .i64, .ro, 0, 9, 0, (-9223372036854775808), 9223372036854775807, 0, [], false⟩,
  ⟨0x22100A, 5, 0x1, 1, .u32, .ro, 0, 9, 0, 0, 4294967295, 0, [], false⟩,
  ⟨0x22100B, 5, 0x1, 1, .u8, .ro, 0, 9, 0, 0, 255, 0, [], false⟩,
  ⟨0x22100C, 5, 0x1, 1, .u8, .wo, 9, 1, 0, 1, 1, 0, [], false⟩]

/-- Objects of the indices 2300 to 23FF. -/
def rows23 : List ObjDef := [
  ⟨0x231001, 1, 0x1, 1, .bool, .rw, 0, 1, 0, 0, 1, 0, [], false⟩,
  ⟨0x231002, 1, 0x1, 1, .u8, .rw, 0, 2, 1, 0, 1, 0, [], false⟩,
  ⟨0x231003, 1, 0x1, 1, .u8, .rw, 0, 2, 2, 0, 4, 0, [], false⟩,
  ⟨0x231004, 1, 0x1, 1, .u16, .rw, 0, 2, 10, 10, 1000, 0, [], false⟩,
  ⟨0x231005, 1, 0x1, 1, .bool, .ro, 0, 9, 0, 0, 1, 0, [], false⟩,
  ⟨0x231006, 1, 0x1, 1, .u32, .ro, 0, 9, 0, 0, 4294967295, 0, [], false⟩,
  ⟨0x230001, 1, 0x1, 9, .u32, .rw, 0, 2, 1000, 100, 60000, 0, [], false⟩,
  ⟨0x230101, 1, 0x1, 1, .u32, .ro, 0, 9, 0, 0, 4294967295, 0, [], true⟩,
  ⟨0x230102, 1, 0x1, 1, .u8, .ro, 0, 9, 0, 0, 255, 0, [], false⟩,
  ⟨0x230201, 1, 0x1, 1, .u8, .wo, 9, 3, 0, 1, 1, 0, [], false⟩,
  ⟨0x232001, 1, 0x1, 1, .u8, .rw, 0, 3, 0, 1, 6, 0, [], false⟩,
  ⟨0x232002, 1, 0x1, 1, .u16, .rw, 0, 3, 0, 0, 65535, 0, [], false⟩,
  ⟨0x232003, 1, 0x1, 1, .u8, .rw, 0, 3, 1, 1, 2, 0, [], false⟩,
  ⟨0x232004, 1, 0x1, 1, .u8, .rw, 0, 3, 1, 1, 16, 0, [], false⟩,
  ⟨0x232005, 1, 0x1, 1, .u8, .wo, 9, 3, 0, 1, 1, 0, [], false⟩,
  ⟨0x232006, 1, 0x1, 1, .u8, .ro, 0, 9, 0, 0, 255, 0, [], false⟩,
  ⟨0x232007, 1, 0x1, 1, .u32, .ro, 0, 9, 0, 0, 4294967295, 0, [], true⟩,
  ⟨0x233001, 1, 0x1, 1, .bool, .ro, 0, 9, 0, 0, 1, 0, [], false⟩]

/-- Objects of the indices 2400 to 24FF. -/
def rows24 : List ObjDef := [
  ⟨0x240001, 1, 0x1, 1, .u32, .ro, 0, 9, 0, 0, 4294967295, 0, [], false⟩,
  ⟨0x240002, 1, 0x1, 1, .u32, .ro, 0, 9, 0, 0, 4294967295, 0, [], false⟩,
  ⟨0x240003, 1, 0x1, 1, .u32, .ro, 0, 9, 0, 0, 4294967295, 0, [], false⟩,
  ⟨0x240004, 1, 0x1, 1, .u32, .ro, 0, 9, 0, 0, 4294967295, 0, [], false⟩,
  ⟨0x240005, 1, 0x1, 1, .i32, .ro, 0, 9, 0, (-2147483648), 2147483647, 0, [], false⟩,
  ⟨0x240006, 1, 0x1, 1, .i32, .ro, 0, 9, 0, (-2147483648), 2147483647, 0, [], false⟩,
  ⟨0x240007, 1, 0x1, 1, .u16, .ro, 0, 9, 0, 0, 65535, 0, [], false⟩,
  ⟨0x240008, 1, 0x1, 1, .u8, .ro, 0, 9, 0, 0, 255, 0, [], false⟩,
  ⟨0x241001, 1, 0x1, 5, .u32, .ro, 0, 9, 0, 0, 4294967295, 0, [], false⟩,
  ⟨0x241101, 1, 0x1, 5, .u32, .ro, 0, 9, 0, 0, 4294967295, 0, [], false⟩,
  ⟨0x241201, 1, 0x1, 5, .u32, .ro, 0, 9, 0, 0, 4294967295, 0, [], false⟩,
  ⟨0x241301, 1, 0x1, 5, .u32, .ro, 0, 9, 0, 0, 4294967295, 0, [], false⟩,
  ⟨0x241401, 1, 0x1, 5, .i32, .ro, 0, 9, 0, (-2147483648), 2147483647, 0, [], false⟩]

/-- Objects of the indices 2500 to 25FF, part 1. -/
def rows25a : List ObjDef := [
  ⟨0x250001, 1, 0x1, 114, .i16, .ro, 0, 9, (-32768), (-32768), 32767, 0, [], false⟩,
  ⟨0x250101, 1, 0x1, 114, .u8, .ro, 0, 9, 0, 0, 255, 0, [], false⟩,
  ⟨0x251001, 1, 0x1, 9, .i16, .ro, 0, 9, (-32768), (-32768), 32767, 0, [], false⟩,
  ⟨0x251101, 1, 0x1, 1, .i16, .ro, 0, 9, (-32768), (-32768), 32767, 0, [], false⟩,
  ⟨0x251102, 1, 0x1, 1, .u8, .ro, 0, 9, 1, 0, 255, 0, [], false⟩,
  ⟨0x251103, 1, 0x1, 1, .u32, .ro, 0, 9, 0, 0, 4294967295, 0, [], false⟩,
  ⟨0x251104, 1, 0x1, 1, .bool, .ro, 0, 9, 0, 0, 1, 0, [], false⟩,
  ⟨0x253101, 8, 0x1, 1, .u8, .rws, 0, 2, 0, 0, 8, 0, [0, 2, 3, 4, 5, 6, 7, 8], false⟩,
  ⟨0x253102, 8, 0x1, 1, .u32, .rws, 0, 2, 10000, 100, 1000000, 0, [], false⟩,
  ⟨0x253103, 8, 0x1, 1, .u16, .rws, 0, 2, 3435, 1000, 6000, 0, [], false⟩,
  ⟨0x253104, 8, 0x1, 1, .i16, .rw, 0, 2, 1300, (-400), 2000, 0, [], false⟩,
  ⟨0x253105, 8, 0x1, 1, .i16, .rw, 0, 2, 1500, (-350), 2000, 0, [], false⟩,
  ⟨0x253106, 8, 0x1, 1, .u32, .rw, 0, 2, 50000, 0, 500000, 0, [], false⟩,
  ⟨0x254001, 1, 0x1, 1, .u8, .ro, 0, 9, 255, 0, 255, 0, [], false⟩,
  ⟨0x254002, 1, 0x1, 1, .u32, .ro, 0, 9, 0, 0, 4294967295, 0, [], false⟩,
  ⟨0x254003, 1, 0x1, 1, .u8, .ro, 0, 9, 0, 0, 255, 0, [], false⟩,
  ⟨0x254004, 1, 0x1, 1, .u16, .ro, 0, 9, 0, 0, 65535, 0, [], false⟩,
  ⟨0x254005, 1, 0x1, 1, .u16, .ro, 0, 9, 0, 0, 65535, 0, [], false⟩,
  ⟨0x254006, 1, 0x1, 1, .u8, .ro, 0, 9, 0, 0, 255, 0, [], true⟩,
  ⟨0x254007, 1, 0x1, 1, .domain, .ro, 0, 9, 3, 0, 0, 0, [], false⟩,
  ⟨0x254008, 1, 0x1, 1, .u8, .ro, 0, 9, 0, 0, 255, 0, [], false⟩,
  ⟨0x254009, 1, 0x1, 1, .u32, .ro, 0, 9, 0, 0, 4294967295, 0, [], true⟩,
  ⟨0x25400A, 1, 0x1, 1, .u32, .ro, 0, 9, 0, 0, 4294967295, 0, [], true⟩,
  ⟨0x254101, 1, 0x1, 4, .u32, .ro, 0, 9, 0, 0, 4294967295, 0, [], true⟩]

/-- Objects of the indices 2500 to 25FF, part 2. -/
def rows25b : List ObjDef := [
  ⟨0x254105, 1, 0x1, 1, .u32, .ro, 0, 9, 0, 0, 4294967295, 0, [], true⟩,
  ⟨0x252001, 1, 0x1, 1, .u16, .rw, 0, 2, 40, 0, 10000, 0, [], false⟩,
  ⟨0x252002, 1, 0x1, 1, .u16, .rw, 0, 2, 20, 0, 10000, 0, [], false⟩,
  ⟨0x252003, 1, 0x1, 1, .u16, .rw, 0, 2, 20, 0, 10000, 0, [], false⟩,
  ⟨0x252004, 1, 0x1, 1, .u16, .rw, 0, 2, 80, 0, 10000, 0, [], false⟩,
  ⟨0x252005, 1, 0x1, 1, .u16, .rw, 0, 2, 4, 1, 64, 0, [], false⟩,
  ⟨0x252006, 1, 0x1, 1, .u16, .rw, 0, 2, 16, 1, 64, 0, [], false⟩,
  ⟨0x252007, 1, 0x1, 1, .u16, .rw, 0, 2, 500, 0, 50000, 0, [], false⟩,
  ⟨0x252008, 1, 0x1, 1, .u16, .rw, 0, 2, 2000, 0, 50000, 0, [], false⟩,
  ⟨0x252009, 1, 0x1, 1, .u16, .rw, 0, 2, 100, 0, 5000, 0, [], false⟩,
  ⟨0x25200A, 1, 0x1, 1, .u16, .rw, 0, 2, 400, 0, 5000, 0, [], false⟩]

/-- Objects of the indices 2600 to 26FF. -/
def rows26 : List ObjDef := [
  ⟨0x260001, 1, 0x1, 1, .u16, .rw, 0, 2, 1000, 0, 60000, 0, [], false⟩,
  ⟨0x260002, 1, 0x1, 1, .bool, .rw, 0, 2, 1, 0, 1, 0, [], false⟩,
  ⟨0x260003, 1, 0x1, 1, .bool, .rw, 0, 2, 1, 0, 1, 0, [], false⟩,
  ⟨0x260004, 1, 0x1, 1, .u16, .rw, 0, 2, 30, 5, 600, 0, [], false⟩,
  ⟨0x260005, 1, 0x1, 1, .u8, .ro, 0, 9, 0, 0, 255, 0, [], false⟩,
  ⟨0x260006, 1, 0x1, 1, .bool, .ro, 0, 9, 0, 0, 1, 0, [], false⟩,
  ⟨0x260007, 1, 0x1, 1, .u16, .ro, 0, 9, 0, 0, 65535, 0, [], false⟩,
  ⟨0x260008, 1, 0x1, 1, .u32, .ro, 0, 9, 0, 0, 4294967295, 0, [], false⟩,
  ⟨0x260009, 1, 0x1, 1, .u32, .ro, 0, 9, 0, 0, 4294967295, 0, [], true⟩,
  ⟨0x261001, 1, 0x1, 1, .u8, .ro, 0, 9, 0, 0, 255, 0, [], false⟩,
  ⟨0x261002, 1, 0x1, 1, .u32, .ro, 0, 9, 0, 0, 4294967295, 0, [], false⟩,
  ⟨0x261003, 1, 0x1, 1, .u8, .rw, 0, 2, 63, 0, 63, 0, [], false⟩]

/-- Objects of the indices 3000 to 30FF, part 1. -/
def rows30a : List ObjDef := [
  ⟨0x300001, 5, 0x1, 1, .i64, .ro, 0, 9, 0, (-9223372036854775808), 9223372036854775807, 0, [], false⟩,
  ⟨0x300801, 8, 0x1, 1, .i64, .ro, 0, 9, 0, (-9223372036854775808), 9223372036854775807, 0, [], false⟩,
  ⟨0x300002, 5, 0x1, 1, .i32, .ro, 0, 9, 0, (-2147483648), 2147483647, 0, [], false⟩,
  ⟨0x300802, 8, 0x1, 1, .i32, .ro, 0, 9, 0, (-2147483648), 2147483647, 0, [], false⟩,
  ⟨0x300003, 5, 0x1, 1, .u8, .ro, 0, 9, 1, 0, 255, 0, [], false⟩,
  ⟨0x300803, 8, 0x1, 1, .u8, .ro, 0, 9, 1, 0, 255, 0, [], false⟩,
  ⟨0x300004, 5, 0x1, 1, .bool, .ro, 0, 9, 0, 0, 1, 0, [], false⟩,
  ⟨0x300804, 8, 0x1, 1, .bool, .ro, 0, 9, 0, 0, 1, 0, [], false⟩,
  ⟨0x300005, 5, 0x1, 1, .u32, .rw, 0, 2, 0, 0, 65536, 0, [], false⟩,
  ⟨0x300805, 8, 0x1, 1, .u32, .rw, 0, 2, 0, 0, 65536, 0, [], false⟩,
  ⟨0x300006, 5, 0x1, 1, .u32, .rw, 0, 2, 256, 1, 65536, 0, [], false⟩,
  ⟨0x300806, 8, 0x1, 1, .u32, .rw, 0, 2, 256, 1, 65536, 0, [], false⟩,
  ⟨0x300007, 5, 0x1, 1, .u32, .ro, 0, 9, 0, 0, 4294967295, 0, [], false⟩,
  ⟨0x300807, 8, 0x1, 1, .u32, .ro, 0, 9, 0, 0, 4294967295, 0, [], false⟩,
  ⟨0x300008, 5, 0x1, 1, .u32, .ro, 0, 9, 0, 0, 4294967295, 0, [], false⟩,
  ⟨0x300808, 8, 0x1, 1, .u32, .ro, 0, 9, 0, 0, 4294967295, 0, [], false⟩,
  ⟨0x300009, 5, 0x1, 1, .u32, .ro, 0, 9, 0, 0, 4294967295, 0, [], false⟩,
  ⟨0x300809, 8, 0x1, 1, .u32, .ro, 0, 9, 0, 0, 4294967295, 0, [], false⟩,
  ⟨0x30000A, 1, 0x1, 1, .i64, .rw, 0, 1, 0, (-9223372036854775808), 9223372036854775807, 0, [], false⟩,
  ⟨0x301001, 1, 0x1, 128, .i32, .ro, 0, 9, 0, (-2147483648), 2147483647, 0, [], false⟩,
  ⟨0x301101, 1, 0x1, 128, .i32, .ro, 0, 9, 0, (-2147483648), 2147483647, 0, [], false⟩,
  ⟨0x301201, 1, 0x1, 128, .u8, .ro, 0, 9, 1, 0, 255, 0, [], false⟩,
  ⟨0x301301, 1, 0x1, 1, .u32, .rw, 0, 2, 0, 0, 1000, 0, [], false⟩,
  ⟨0x301302, 1, 0x1, 1, .u32, .rw, 0, 2, 50, 1, 1000, 0, [], false⟩]

/-- Objects of the indices 3000 to 30FF, part 2. -/
def rows30b : List ObjDef := [
  ⟨0x301303, 1, 0x1, 1, .bool, .ro, 0, 9, 0, 0, 1, 0, [], false⟩,
  ⟨0x301401, 1, 0x1, 128, .u32, .ro, 0, 9, 0, 0, 4294967295, 0, [], false⟩,
  ⟨0x301501, 1, 0x1, 128, .u32, .ro, 0, 9, 0, 0, 4294967295, 0, [], false⟩]

/-- Objects of the indices 3100 to 31FF. -/
def rows31 : List ObjDef := [
  ⟨0x310001, 1, 0x1, 1, .u16, .ro, 0, 9, 0, 0, 65535, 0, [], false⟩,
  ⟨0x310002, 1, 0x1, 1, .u16, .ro, 0, 9, 0, 0, 65535, 0, [], false⟩]

/-- Objects of the indices 3200 to 32FF. -/
def rows32 : List ObjDef := [
  ⟨0x320001, 512, 0x1, 1, .u8, .rw, 0, 2, 0, 0, 255, 0, [], false⟩,
  ⟨0x320002, 512, 0x1, 1, .i64, .rw, 0, 1, 0, (-9223372036854775808), 9223372036854775807, 0, [], false⟩,
  ⟨0x320003, 512, 0x1, 1, .u8, .rw, 0, 2, 1, 1, 3, 0, [], false⟩,
  ⟨0x320004, 512, 0x1, 1, .u8, .rw, 0, 2, 0, 0, 5, 0, [], false⟩,
  ⟨0x320005, 512, 0x1, 1, .u16, .rw, 0, 2, 0, 0, 65535, 0, [], false⟩,
  ⟨0x320006, 512, 0x1, 1, .u32, .rw, 0, 2, 0, 0, 2147483648, 0, [], false⟩,
  ⟨0x320007, 512, 0x1, 1, .u8, .wo, 9, 1, 0, 1, 2, 0, [], false⟩,
  ⟨0x320008, 512, 0x1, 1, .u8, .ro, 0, 9, 0, 0, 255, 0, [], false⟩,
  ⟨0x320009, 512, 0x1, 1, .u32, .ro, 0, 9, 0, 0, 4294967295, 0, [], false⟩,
  ⟨0x32000A, 512, 0x1, 1, .u32, .ro, 0, 9, 0, 0, 4294967295, 0, [], false⟩]

/-- Objects of the indices 3400 to 34FF, part 1. -/
def rows34a : List ObjDef := [
  ⟨0x343001, 2, 0x1, 1, .u8, .rws, 0, 2, 1, 0, 6, 0, [], false⟩,
  ⟨0x343002, 2, 0x1, 1, .u8, .rws, 0, 2, 0, 0, 6, 0, [], false⟩,
  ⟨0x343003, 2, 0x1, 1, .u8, .rws, 0, 2, 4, 1, 32, 0, [], false⟩,
  ⟨0x343004, 2, 0x1, 1, .u16, .rws, 0, 2, 0, 0, 65535, 0, [], false⟩,
  ⟨0x343005, 2, 0x1, 1, .u8, .ro, 0, 9, 0, 0, 255, 0, [], false⟩,
  ⟨0x343006, 2, 0x1, 1, .u8, .wo, 9, 2, 0, 1, 2, 0, [], false⟩,
  ⟨0x343007, 2, 0x1, 1, .u8, .ro, 0, 9, 0, 0, 255, 0, [], false⟩,
  ⟨0x343008, 2, 0x1, 1, .bool, .rws, 0, 2, 0, 0, 1, 0, [], false⟩,
  ⟨0x340001, 2, 0x1, 1, .u16, .rws, 0, 2, 100, 20, 2000, 0, [], false⟩,
  ⟨0x340002, 2, 0x1, 1, .u8, .rws, 0, 2, 17, 12, 32, 0, [], false⟩,
  ⟨0x340003, 2, 0x1, 1, .u8, .rws, 0, 2, 17, 8, 32, 0, [], false⟩,
  ⟨0x340004, 2, 0x1, 1, .u8, .rws, 0, 2, 0, 0, 1, 0, [], false⟩,
  ⟨0x340005, 2, 0x1, 1, .u8, .rws, 0, 2, 1, 0, 2, 0, [], false⟩,
  ⟨0x340006, 2, 0x1, 1, .u8, .rws, 0, 2, 0, 0, 4, 0, [], false⟩,
  ⟨0x340007, 2, 0x1, 1, .u8, .rws, 0, 2, 0, 0, 255, 0, [], false⟩,
  ⟨0x340008, 2, 0x1, 1, .u8, .rws, 0, 2, 0, 0, 3, 0, [], false⟩,
  ⟨0x340009, 2, 0x1, 1, .u16, .rws, 0, 2, 65535, 0, 65535, 0, [], false⟩,
  ⟨0x34000A, 2, 0x1, 1, .u8, .rws, 0, 2, 25, 1, 100, 0, [], false⟩,
  ⟨0x34000B, 2, 0x1, 1, .u8, .rws, 0, 2, 16, 0, 64, 0, [0, 4, 8, 16, 32, 64], false⟩,
  ⟨0x34000C, 2, 0x1, 1, .u16, .rws, 0, 2, 100, 20, 1000, 0, [], false⟩,
  ⟨0x34000D, 2, 0x1, 1, .u16, .rws, 0, 2, 0, 0, 10000, 0, [], false⟩,
  ⟨0x34000E, 2, 0x1, 1, .u16, .rws, 0, 2, 4096, 256, 32767, 0, [], false⟩,
  ⟨0x34000F, 2, 0x1, 1, .u32, .ro, 0, 9, 0, 0, 4294967295, 0, [], false⟩,
  ⟨0x340010, 2, 0x1, 1, .u16, .ro, 0, 9, 0, 0, 65535, 0, [], false⟩]

/-- Objects of the indices 3400 to 34FF, part 2. -/
def rows34b : List ObjDef := [
  ⟨0x340011, 2, 0x1, 1, .u32, .ro, 0, 9, 0, 0, 4294967295, 0, [], false⟩,
  ⟨0x340012, 2, 0x1, 1, .u8, .ro, 0, 9, 0, 0, 255, 0, [], false⟩,
  ⟨0x340013, 2, 0x1, 1, .u32, .ro, 0, 9, 0, 0, 4294967295, 0, [], false⟩,
  ⟨0x341001, 2, 0x1, 1, .u32, .rws, 0, 2, 2048, 16, 262144, 0, [], false⟩,
  ⟨0x341002, 2, 0x1, 1, .u8, .rws, 0, 2, 0, 0, 1, 0, [], false⟩,
  ⟨0x341003, 2, 0x1, 1, .u8, .rws, 0, 2, 4, 0, 40, 0, [], false⟩,
  ⟨0x341004, 2, 0x1, 1, .u8, .rws, 0, 2, 0, 0, 2, 0, [], false⟩,
  ⟨0x341005, 2, 0x1, 1, .u8, .rws, 0, 2, 4, 0, 4, 0, [], false⟩,
  ⟨0x341006, 2, 0x1, 1, .i32, .rws, 0, 2, 0, (-2147483648), 2147483647, 0, [], false⟩,
  ⟨0x341007, 2, 0x1, 1, .u8, .wo, 9, 1, 0, 1, 1, 0, [], false⟩,
  ⟨0x341008, 2, 0x1, 1, .u16, .rws, 0, 2, 4, 0, 1024, 0, [], false⟩,
  ⟨0x341009, 2, 0x1, 1, .i32, .ro, 0, 9, 0, (-2147483648), 2147483647, 0, [], false⟩,
  ⟨0x34100A, 2, 0x1, 1, .i32, .ro, 0, 9, 0, (-2147483648), 2147483647, 0, [], false⟩,
  ⟨0x34100B, 2, 0x1, 1, .u64, .ro, 0, 9, 0, 0, 18446744073709551615, 0, [], false⟩,
  ⟨0x34100C, 2, 0x1, 1, .u32, .ro, 0, 9, 0, 0, 4294967295, 0, [], false⟩,
  ⟨0x34100D, 2, 0x1, 1, .u32, .ro, 0, 9, 0, 0, 4294967295, 0, [], false⟩,
  ⟨0x342001, 2, 0x1, 1, .u8, .ro, 0, 9, 0, 0, 255, 0, [], false⟩,
  ⟨0x342002, 2, 0x1, 1, .domain, .rws, 0, 2, 0, 0, 0, 0, [], false⟩,
  ⟨0x342003, 2, 0x1, 1, .u8, .rws, 0, 2, 0, 0, 7, 0, [], false⟩,
  ⟨0x342004, 2, 0x1, 1, .u8, .rws, 0, 2, 2, 0, 50, 0, [], false⟩,
  ⟨0x342005, 2, 0x1, 1, .u32, .ro, 0, 9, 0, 0, 4294967295, 0, [], false⟩,
  ⟨0x342006, 2, 0x1, 1, .u32, .ro, 0, 9, 0, 0, 4294967295, 0, [], false⟩,
  ⟨0x343901, 1, 0x1, 1, .u16, .rws, 0, 2, 1000, 50, 10000, 0, [], false⟩,
  ⟨0x343902, 1, 0x1, 1, .u8, .rws, 0, 2, 16, 1, 16, 0, [], false⟩]

/-- Objects of the indices 3400 to 34FF, part 3. -/
def rows34c : List ObjDef := [
  ⟨0x343903, 1, 0x1, 1, .u16, .rws, 0, 2, 400, 2, 65535, 0, [], false⟩,
  ⟨0x343904, 1, 0x1, 1, .u16, .rws, 0, 2, 320, 1, 65534, 0, [], false⟩,
  ⟨0x343905, 1, 0x1, 1, .u16, .rws, 0, 2, 100, 10, 1000, 0, [], false⟩,
  ⟨0x344001, 4, 0x1, 1, .u8, .rws, 0, 2, 1, 1, 3, 0, [], false⟩,
  ⟨0x344002, 4, 0x1, 1, .u8, .rws, 0, 2, 1, 1, 2, 0, [], false⟩,
  ⟨0x344003, 4, 0x1, 1, .u8, .rws, 0, 2, 0, 0, 255, 0, [], false⟩,
  ⟨0x344004, 4, 0x1, 1, .u16, .rws, 0, 2, 100, 0, 10000, 0, [], false⟩,
  ⟨0x344005, 4, 0x1, 1, .u8, .wo, 9, 1, 0, 1, 3, 0, [], false⟩,
  ⟨0x344006, 4, 0x1, 1, .i64, .ro, 0, 9, 0, (-9223372036854775808), 9223372036854775807, 0, [], false⟩,
  ⟨0x344007, 4, 0x1, 1, .u64, .ro, 0, 9, 0, 0, 18446744073709551615, 0, [], false⟩,
  ⟨0x344008, 4, 0x1, 1, .u8, .ro, 0, 9, 0, 0, 255, 0, [], false⟩,
  ⟨0x345001, 3, 0x1, 1, .u32, .rws, 0, 2, 0, 0, 1000000, 0, [], false⟩,
  ⟨0x345002, 3, 0x1, 1, .u8, .rws, 0, 2, 20, 5, 200, 0, [], false⟩,
  ⟨0x345003, 3, 0x1, 1, .u32, .ro, 0, 9, 0, 0, 4294967295, 0, [], false⟩,
  ⟨0x345004, 3, 0x1, 1, .u32, .ro, 0, 9, 0, 0, 4294967295, 0, [], false⟩,
  ⟨0x345005, 3, 0x1, 1, .u32, .ro, 0, 9, 0, 0, 4294967295, 0, [], false⟩,
  ⟨0x346001, 1, 0x1, 1, .u8, .rws, 0, 2, 0, 0, 23, 0, [], false⟩,
  ⟨0x346002, 1, 0x1, 1, .i32, .ro, 0, 9, 0, (-2147483648), 2147483647, 0, [], false⟩,
  ⟨0x346003, 1, 0x1, 1, .domain, .ro, 0, 9, 0, 0, 0, 0, [], false⟩,
  ⟨0x346004, 1, 0x1, 1, .i32, .ro, 0, 9, 0, (-2147483648), 2147483647, 0, [], false⟩,
  ⟨0x346005, 1, 0x1, 1, .bool, .ro, 0, 9, 0, 0, 1, 0, [], false⟩,
  ⟨0x348001, 3, 0x1, 1, .u16, .rw, 0, 2, 20, 8, 2000, 0, [], false⟩,
  ⟨0x348002, 3, 0x1, 1, .u8, .rw, 0, 2, 0, 0, 1, 0, [], false⟩,
  ⟨0x348003, 3, 0x1, 1, .u16, .rw, 0, 2, 20, 10, 1000, 10, [], false⟩]

/-- Objects of the indices 3400 to 34FF, part 4. -/
def rows34d : List ObjDef := [
  ⟨0x348004, 3, 0x1, 1, .u16, .rw, 0, 2, 50, 10, 1000, 10, [], false⟩,
  ⟨0x348005, 3, 0x1, 1, .u16, .rw, 0, 2, 50, 10, 1000, 10, [], false⟩,
  ⟨0x348006, 3, 0x1, 1, .u16, .rw, 0, 2, 100, 20, 10000, 10, [], false⟩,
  ⟨0x348007, 3, 0x1, 4, .u8, .rw, 0, 2, 0, 0, 16, 0, [], false⟩,
  ⟨0x34800B, 3, 0x1, 1, .u8, .wo, 9, 1, 0, 0, 3, 0, [], false⟩,
  ⟨0x34800C, 3, 0x1, 1, .u8, .ro, 0, 9, 0, 0, 255, 0, [], false⟩,
  ⟨0x34800D, 3, 0x1, 1, .u32, .ro, 0, 9, 0, 0, 4294967295, 0, [], false⟩,
  ⟨0x34800E, 3, 0x1, 1, .u32, .ro, 0, 9, 0, 0, 4294967295, 0, [], false⟩,
  ⟨0x34800F, 3, 0x1, 1, .u32, .ro, 0, 9, 0, 0, 4294967295, 0, [], false⟩,
  ⟨0x348401, 3, 0x1, 4, .domain, .rw, 0, 2, 0, 0, 0, 0, [], false⟩,
  ⟨0x348405, 3, 0x1, 4, .u8, .ro, 0, 9, 0, 0, 255, 0, [], false⟩,
  ⟨0x348801, 3, 0x1, 128, .u32, .ro, 0, 9, 0, 0, 4294967295, 0, [], false⟩,
  ⟨0x348C01, 3, 0x1, 4, .u64, .ro, 0, 9, 0, 0, 18446744073709551615, 0, [], false⟩,
  ⟨0x348C05, 3, 0x1, 4, .i64, .ro, 0, 9, 0, (-9223372036854775808), 9223372036854775807, 0, [], false⟩,
  ⟨0x348C09, 3, 0x1, 4, .u32, .ro, 0, 9, 0, 0, 4294967295, 0, [], false⟩]

/-- Objects of the indices 4000 to 40FF, part 1. -/
def rows40a : List ObjDef := [
  ⟨0x400001, 2, 0x800, 1, .u32, .rws, 0, 2, 10000, 4000, 40000, 0, [], false⟩,
  ⟨0x400002, 2, 0x800, 1, .u8, .rws, 0, 2, 1, 1, 2, 0, [], false⟩,
  ⟨0x400003, 2, 0x800, 1, .u8, .rws, 0, 2, 0, 0, 1, 0, [], false⟩,
  ⟨0x400004, 2, 0x800, 1, .u16, .rws, 0, 2, 500, 100, 2000, 0, [], false⟩,
  ⟨0x400005, 2, 0x800, 1, .u16, .rw, 0, 2, 15729, 8192, 16384, 0, [], false⟩,
  ⟨0x400006, 2, 0x800, 1, .bool, .rw, 0, 2, 1, 0, 1, 0, [], false⟩,
  ⟨0x400007, 2, 0x800, 1, .u16, .rw, 0, 2, 20, 1, 500, 0, [], false⟩,
  ⟨0x400008, 2, 0x800, 1, .u32, .ro, 0, 9, 10000000, 0, 4294967295, 0, [], false⟩,
  ⟨0x400009, 2, 0x800, 1, .u16, .ro, 0, 9, 0, 0, 65535, 0, [], false⟩,
  ⟨0x40000A, 2, 0x800, 1, .u8, .ro, 0, 9, 0, 0, 255, 0, [], false⟩,
  ⟨0x401001, 2, 0x800, 1, .u32, .rws, 0, 2, 100, 10, 10000, 0, [], false⟩,
  ⟨0x401002, 2, 0x800, 1, .u32, .ro, 0, 9, 3000, 0, 4294967295, 0, [], false⟩,
  ⟨0x401003, 2, 0x800, 1, .u16, .rws, 0, 2, 400, 100, 2000, 0, [], false⟩,
  ⟨0x401004, 2, 0x800, 1, .u16, .rws, 0, 2, 300, 300, 2000, 0, [], false⟩,
  ⟨0x401005, 2, 0x800, 1, .u8, .rw, 0, 2, 4, 1, 16, 0, [], false⟩,
  ⟨0x401006, 2, 0x800, 1, .u8, .rw, 0, 2, 4, 1, 16, 0, [], false⟩,
  ⟨0x401007, 2, 0x800, 1, .u16, .rw, 0, 2, 100, 10, 500, 0, [], false⟩,
  ⟨0x401008, 2, 0x800, 1, .i16, .ro, 0, 9, 0, (-32768), 32767, 0, [], false⟩,
  ⟨0x401009, 2, 0x800, 1, .bool, .rws, 0, 2, 0, 0, 1, 0, [], false⟩,
  ⟨0x40100A, 2, 0x800, 1, .u16, .rw, 0, 2, 500, 100, 2000, 0, [], false⟩,
  ⟨0x40100B, 2, 0x800, 1, .u8, .rw, 0, 2, 16, 1, 255, 0, [], false⟩,
  ⟨0x40100C, 2, 0x800, 1, .i32, .ro, 0, 9, 0, (-2147483648), 2147483647, 0, [], false⟩,
  ⟨0x40100D, 2, 0x800, 1, .i32, .ro, 0, 9, 0, (-2147483648), 2147483647, 0, [], false⟩,
  ⟨0x40100E, 2, 0x800, 1, .i32, .ro, 0, 9, 0, (-2147483648), 2147483647, 0, [], false⟩]

/-- Objects of the indices 4000 to 40FF, part 2. -/
def rows40b : List ObjDef := [
  ⟨0x40100F, 2, 0x800, 1, .u16, .ro, 0, 9, 1000, 0, 65535, 0, [], false⟩,
  ⟨0x401010, 2, 0x800, 1, .u32, .ro, 0, 9, 0, 0, 4294967295, 0, [], false⟩,
  ⟨0x401011, 2, 0x800, 1, .u32, .ro, 0, 9, 0, 0, 4294967295, 0, [], false⟩,
  ⟨0x401012, 2, 0x800, 1, .u32, .ro, 0, 9, 0, 0, 4294967295, 0, [], false⟩,
  ⟨0x403001, 2, 0x800, 1, .bool, .rws, 0, 2, 0, 0, 1, 0, [], false⟩,
  ⟨0x403002, 2, 0x800, 1, .u8, .rws, 0, 2, 15, 6, 60, 0, [], false⟩,
  ⟨0x403003, 2, 0x800, 1, .u8, .rws, 0, 2, 10, 2, 50, 0, [], false⟩,
  ⟨0x403004, 2, 0x800, 1, .u8, .rws, 0, 2, 255, 0, 255, 0, [], false⟩,
  ⟨0x403005, 2, 0x800, 1, .u16, .rws, 0, 2, 10, 1, 200, 0, [], false⟩,
  ⟨0x403006, 2, 0x800, 1, .u8, .ro, 0, 9, 0, 0, 255, 0, [], false⟩,
  ⟨0x403007, 2, 0x800, 1, .u32, .ro, 0, 9, 0, 0, 4294967295, 0, [], false⟩]

/-- Objects of the indices 4100 to 41FF. -/
def rows41 : List ObjDef := [
  ⟨0x410001, 1, 0x1, 8, .domain, .rws, 0, 2, 0, 0, 0, 0, [], false⟩,
  ⟨0x410101, 2, 0x800, 8, .u8, .ro, 0, 9, 0, 0, 255, 0, [], false⟩]

/-- Objects of the indices 4200 to 42FF, part 1. -/
def rows42a : List ObjDef := [
  ⟨0x420001, 2, 0x800, 1, .u16, .rws, 0, 2, 5000, 100, 30000, 0, [], false⟩,
  ⟨0x420002, 2, 0x800, 1, .u16, .rws, 0, 2, 9000, 100, 30000, 0, [], false⟩,
  ⟨0x420003, 2, 0x800, 1, .u32, .rws, 0, 2, 100000, 1000, 10000000, 0, [], false⟩,
  ⟨0x420004, 2, 0x800, 1, .u32, .rws, 0, 2, 200000, 1000, 100000000, 0, [], false⟩,
  ⟨0x420005, 2, 0x800, 1, .u32, .rws, 0, 2, 400000, 1000, 100000000, 0, [], false⟩,
  ⟨0x420006, 2, 0x800, 1, .u32, .rws, 0, 2, 10000, 100, 1000000, 0, [], false⟩,
  ⟨0x420007, 2, 0x800, 1, .u32, .rw, 0, 2, 1200, 1, 1000000, 0, [], false⟩,
  ⟨0x420008, 2, 0x800, 1, .u32, .rw, 0, 2, 60000, 0, 100000000, 0, [], false⟩,
  ⟨0x420009, 2, 0x800, 1, .u32, .rw, 0, 2, 2400, 1, 1000000, 0, [], false⟩,
  ⟨0x42000A, 2, 0x800, 1, .u32, .rw, 0, 2, 60000, 0, 100000000, 0, [], false⟩,
  ⟨0x42000B, 2, 0x800, 1, .bool, .rw, 0, 2, 1, 0, 1, 0, [], false⟩,
  ⟨0x42000C, 2, 0x800, 1, .u32, .rw, 0, 2, 600, 1, 1000000000, 0, [], false⟩,
  ⟨0x42000D, 2, 0x800, 1, .i32, .ro, 0, 9, 0, (-2147483648), 2147483647, 0, [], false⟩,
  ⟨0x42000E, 2, 0x800, 1, .i32, .ro, 0, 9, 0, (-2147483648), 2147483647, 0, [], false⟩,
  ⟨0x42000F, 2, 0x800, 1, .i32, .ro, 0, 9, 0, (-2147483648), 2147483647, 0, [], false⟩,
  ⟨0x420010, 2, 0x800, 1, .i32, .ro, 0, 9, 0, (-2147483648), 2147483647, 0, [], false⟩,
  ⟨0x420011, 2, 0x800, 1, .i32, .ro, 0, 9, 0, (-2147483648), 2147483647, 0, [], false⟩,
  ⟨0x421001, 2, 0x800, 1, .i32, .rw, 0, 1, 0, (-2000000), 2000000, 0, [], false⟩,
  ⟨0x421002, 2, 0x800, 1, .u32, .rw, 0, 2, 100000, 0, 2000000, 0, [], false⟩,
  ⟨0x421003, 2, 0x800, 1, .u32, .rw, 0, 2, 100000, 0, 2000000, 0, [], false⟩,
  ⟨0x421004, 2, 0x800, 1, .u16, .rw, 0, 2, 31130, 16384, 32767, 0, [], false⟩,
  ⟨0x421005, 2, 0x800, 1, .u32, .rw, 0, 2, 100, 1, 1000000, 0, [], false⟩,
  ⟨0x421006, 2, 0x800, 1, .i32, .ro, 0, 9, 0, (-2147483648), 2147483647, 0, [], false⟩,
  ⟨0x421007, 2, 0x800, 1, .u32, .ro, 0, 9, 0, 0, 4294967295, 0, [], false⟩]

/-- Objects of the indices 4200 to 42FF, part 2. -/
def rows42b : List ObjDef := [
  ⟨0x421008, 2, 0x800, 1, .u32, .ro, 0, 9, 0, 0, 4294967295, 0, [], false⟩,
  ⟨0x421009, 2, 0x800, 1, .i32, .ro, 0, 9, 0, (-2147483648), 2147483647, 0, [], false⟩,
  ⟨0x42100A, 2, 0x800, 1, .i32, .ro, 0, 9, 0, (-2147483648), 2147483647, 0, [], false⟩,
  ⟨0x42100B, 2, 0x800, 1, .u8, .ro, 0, 9, 0, 0, 255, 0, [], false⟩,
  ⟨0x42100C, 2, 0x800, 1, .u32, .ro, 0, 9, 0, 0, 4294967295, 0, [], false⟩,
  ⟨0x42100D, 2, 0x800, 1, .u32, .ro, 0, 9, 0, 0, 4294967295, 0, [], false⟩,
  ⟨0x422001, 2, 0x800, 1, .domain, .rws, 0, 2, 0, 0, 0, 0, [], false⟩,
  ⟨0x422002, 2, 0x800, 1, .domain, .rws, 0, 2, 0, 0, 0, 0, [], false⟩,
  ⟨0x422003, 2, 0x800, 1, .u8, .ro, 0, 9, 0, 0, 255, 0, [], false⟩,
  ⟨0x422004, 2, 0x800, 1, .u16, .rw, 0, 2, 328, 0, 1638, 0, [], false⟩,
  ⟨0x422005, 2, 0x800, 1, .u16, .rw, 0, 2, 4096, 0, 65535, 0, [], false⟩,
  ⟨0x422006, 2, 0x800, 1, .u16, .rw, 0, 2, 2731, 0, 8192, 0, [], false⟩,
  ⟨0x422007, 2, 0x800, 1, .u16, .ro, 0, 9, 0, 0, 65535, 0, [], false⟩,
  ⟨0x422008, 2, 0x800, 1, .u16, .ro, 0, 9, 0, 0, 65535, 0, [], false⟩,
  ⟨0x423001, 2, 0x800, 1, .bool, .rws, 0, 2, 1, 0, 1, 0, [], false⟩,
  ⟨0x423002, 2, 0x800, 1, .u16, .rw, 0, 2, 150, 20, 1000, 0, [], false⟩,
  ⟨0x423003, 2, 0x800, 1, .u16, .rw, 0, 2, 1000, 100, 5000, 0, [], false⟩,
  ⟨0x423004, 2, 0x800, 1, .u8, .rw, 0, 2, 8, 1, 64, 0, [], false⟩,
  ⟨0x423005, 2, 0x800, 1, .u32, .rw, 0, 2, 20000, 100, 1000000, 0, [], false⟩,
  ⟨0x423006, 2, 0x800, 1, .u16, .rw, 0, 2, 2731, 182, 16384, 0, [], false⟩,
  ⟨0x423007, 2, 0x800, 1, .bool, .ro, 0, 9, 0, 0, 1, 0, [], false⟩,
  ⟨0x423008, 2, 0x800, 1, .u16, .ro, 0, 9, 0, 0, 65535, 0, [], false⟩,
  ⟨0x423009, 2, 0x800, 1, .i32, .ro, 0, 9, 0, (-2147483648), 2147483647, 0, [], false⟩,
  ⟨0x42300A, 2, 0x800, 1, .u32, .ro, 0, 9, 0, 0, 4294967295, 0, [], false⟩]

/-- Objects of the indices 4200 to 42FF, part 3. -/
def rows42c : List ObjDef := [
  ⟨0x42300B, 2, 0x800, 1, .u32, .ro, 0, 9, 0, 0, 4294967295, 0, [], false⟩,
  ⟨0x424001, 2, 0x800, 1, .u8, .rw, 0, 1, 0, 0, 1, 0, [], false⟩,
  ⟨0x424002, 2, 0x800, 1, .u8, .ro, 0, 9, 0, 0, 255, 0, [], false⟩,
  ⟨0x424003, 2, 0x800, 1, .u8, .rws, 0, 2, 0, 0, 1, 0, [], false⟩,
  ⟨0x424004, 2, 0x800, 1, .u16, .rws, 0, 2, 1500, 0, 30000, 0, [], false⟩,
  ⟨0x424005, 2, 0x800, 1, .u16, .rws, 0, 2, 1000, 100, 60000, 0, [], false⟩,
  ⟨0x424006, 2, 0x800, 1, .u8, .ro, 0, 9, 0, 0, 255, 0, [], false⟩,
  ⟨0x424007, 2, 0x800, 1, .u32, .ro, 0, 9, 0, 0, 4294967295, 0, [], false⟩,
  ⟨0x424008, 2, 0x800, 1, .u32, .ro, 0, 9, 0, 0, 4294967295, 0, [], false⟩,
  ⟨0x424009, 2, 0x800, 1, .bool, .ro, 0, 9, 0, 0, 1, 0, [], false⟩,
  ⟨0x425001, 1, 0x1, 1, .u16, .rws, 0, 2, 2500, 100, 65535, 0, [], false⟩,
  ⟨0x425002, 1, 0x1, 1, .u32, .ro, 0, 9, 0, 0, 4294967295, 0, [], true⟩]

/-- Objects of the indices 4900 to 49FF. -/
def rows49 : List ObjDef := [
  ⟨0x490001, 1, 0x1, 8, .domain, .ro, 0, 9, 0, 0, 0, 0, [], false⟩]

/-- Objects of the indices 4A00 to 4AFF. -/
def rows4A : List ObjDef := [
  ⟨0x4A5001, 1, 0x1, 1, .u16, .rws, 0, 2, 2500, 100, 65535, 0, [], false⟩,
  ⟨0x4A5002, 1, 0x1, 1, .u32, .ro, 0, 9, 0, 0, 4294967295, 0, [], true⟩]

/-- Objects of the indices 5000 to 50FF, part 1. -/
def rows50a : List ObjDef := [
  ⟨0x500001, 1, 0x1, 1, .u8, .rw, 0, 1, 0, 0, 2, 0, [], false⟩,
  ⟨0x500002, 1, 0x1, 1, .u8, .rws, 0, 2, 0, 0, 1, 0, [], false⟩,
  ⟨0x500003, 1, 0x1, 1, .u8, .rws, 0, 2, 50, 50, 60, 0, [50, 60], false⟩,
  ⟨0x500004, 1, 0x1, 1, .u16, .rws, 0, 2, 400, 80, 1000, 0, [], false⟩,
  ⟨0x500005, 1, 0x1, 1, .u32, .rws, 0, 2, 1000, 50, 20000, 0, [], false⟩,
  ⟨0x500006, 1, 0x1, 1, .u16, .rw, 0, 2, 630, 10, 640, 0, [], false⟩,
  ⟨0x500007, 1, 0x1, 1, .u32, .rw, 0, 1, 44000, 0, 44000, 0, [], false⟩,
  ⟨0x500008, 1, 0x1, 1, .u16, .rw, 0, 2, 100, 1, 1000, 0, [], false⟩,
  ⟨0x500009, 1, 0x1, 1, .u16, .rw, 0, 2, 720, 650, 1096, 0, [], false⟩,
  ⟨0x50000A, 1, 0x1, 1, .u16, .rw, 0, 2, 31785, 16384, 32767, 0, [], false⟩,
  ⟨0x50000B, 1, 0x1, 1, .u16, .rws, 0, 2, 150, 10, 300, 0, [], false⟩,
  ⟨0x50000C, 1, 0x1, 1, .u32, .rw, 0, 2, 5000, 1, 1000000, 0, [], false⟩,
  ⟨0x50000D, 1, 0x1, 1, .u32, .rw, 0, 2, 500000, 0, 100000000, 0, [], false⟩,
  ⟨0x50000E, 1, 0x1, 1, .u32, .rw, 0, 2, 200, 1, 1000000, 0, [], false⟩,
  ⟨0x50000F, 1, 0x1, 1, .u32, .rw, 0, 2, 20000, 0, 100000000, 0, [], false⟩,
  ⟨0x500010, 1, 0x1, 1, .u8, .ro, 0, 9, 0, 0, 255, 0, [], false⟩,
  ⟨0x500011, 1, 0x1, 1, .i32, .ro, 0, 9, 0, (-2147483648), 2147483647, 0, [], false⟩,
  ⟨0x500012, 1, 0x1, 1, .u16, .ro, 0, 9, 0, 0, 65535, 0, [], false⟩,
  ⟨0x500013, 1, 0x1, 1, .u16, .ro, 0, 9, 0, 0, 65535, 0, [], false⟩,
  ⟨0x500014, 1, 0x1, 1, .u32, .ro, 0, 9, 0, 0, 4294967295, 0, [], false⟩,
  ⟨0x500015, 1, 0x1, 1, .u16, .ro, 0, 9, 0, 0, 65535, 0, [], false⟩,
  ⟨0x500016, 1, 0x1, 1, .u8, .ro, 0, 9, 0, 0, 255, 0, [], false⟩,
  ⟨0x501001, 1, 0x1, 1, .u8, .rw, 0, 2, 30, 10, 100, 0, [], false⟩,
  ⟨0x501002, 1, 0x1, 1, .bool, .ro, 0, 9, 0, 0, 1, 0, [], false⟩]

/-- Objects of the indices 5000 to 50FF, part 2. -/
def rows50b : List ObjDef := [
  ⟨0x501003, 1, 0x1, 1, .u16, .ro, 0, 9, 0, 0, 65535, 0, [], false⟩,
  ⟨0x501004, 1, 0x1, 1, .i32, .ro, 0, 9, 0, (-2147483648), 2147483647, 0, [], false⟩,
  ⟨0x501005, 1, 0x1, 1, .u8, .ro, 0, 9, 0, 0, 255, 0, [], false⟩,
  ⟨0x502001, 1, 0x1, 1, .u8, .ro, 0, 9, 0, 0, 255, 0, [], false⟩,
  ⟨0x502002, 1, 0x1, 1, .u16, .ro, 0, 9, 0, 0, 65535, 0, [], false⟩,
  ⟨0x502003, 1, 0x1, 1, .u16, .ro, 0, 9, 0, 0, 65535, 0, [], false⟩,
  ⟨0x502004, 1, 0x1, 1, .u16, .ro, 0, 9, 65535, 0, 65535, 0, [], false⟩,
  ⟨0x502005, 1, 0x1, 1, .u8, .ro, 0, 9, 0, 0, 255, 0, [], false⟩,
  ⟨0x502006, 1, 0x1, 1, .bool, .ro, 0, 9, 0, 0, 1, 0, [], false⟩,
  ⟨0x504001, 1, 0x1, 1, .u16, .rw, 0, 2, 4000, 3600, 4400, 0, [], false⟩,
  ⟨0x504002, 1, 0x1, 1, .u16, .rw, 0, 2, 630, 10, 640, 0, [], false⟩,
  ⟨0x504003, 1, 0x1, 1, .u16, .rw, 0, 2, 1000, 10, 1280, 0, [], false⟩,
  ⟨0x504004, 1, 0x1, 1, .u16, .rw, 0, 2, 100, 10, 500, 0, [], false⟩,
  ⟨0x504005, 1, 0x1, 1, .u16, .rw, 0, 2, 5000, 100, 60000, 0, [], false⟩,
  ⟨0x504006, 1, 0x1, 1, .u16, .rw, 0, 2, 500, 100, 5000, 0, [], false⟩,
  ⟨0x505001, 1, 0x1, 1, .u64, .ro, 0, 9, 0, 0, 18446744073709551615, 0, [], true⟩,
  ⟨0x505002, 1, 0x1, 1, .u64, .ro, 0, 9, 0, 0, 18446744073709551615, 0, [], true⟩,
  ⟨0x505003, 1, 0x1, 1, .u64, .ro, 0, 9, 0, 0, 18446744073709551615, 0, [], false⟩,
  ⟨0x505004, 1, 0x1, 1, .u32, .ro, 0, 9, 0, 0, 4294967295, 0, [], false⟩,
  ⟨0x505005, 1, 0x1, 1, .u64, .ro, 0, 9, 0, 0, 18446744073709551615, 0, [], false⟩]

/-- Objects of the indices 5400 to 54FF. -/
def rows54 : List ObjDef := [
  ⟨0x540001, 2, 0x100, 1, .u8, .rw, 0, 1, 0, 0, 1, 0, [], false⟩,
  ⟨0x540002, 2, 0x100, 1, .bool, .rw, 0, 2, 1, 0, 1, 0, [], false⟩,
  ⟨0x540003, 2, 0x100, 1, .u32, .rws, 0, 2, 100000, 20000, 100000, 0, [], false⟩,
  ⟨0x540004, 2, 0x100, 1, .u16, .rws, 0, 2, 1600, 100, 10000, 0, [], false⟩,
  ⟨0x540005, 2, 0x100, 1, .u32, .rws, 0, 2, 15000, 100, 1000000, 0, [], false⟩,
  ⟨0x540006, 2, 0x100, 1, .u16, .rw, 0, 1, 4800, 0, 65535, 0, [], false⟩,
  ⟨0x540007, 2, 0x100, 1, .u16, .rw, 0, 2, 4200, 0, 65535, 0, [], false⟩,
  ⟨0x540008, 2, 0x100, 1, .u32, .rw, 0, 2, 20000, 0, 4294967295, 0, [], false⟩,
  ⟨0x540009, 2, 0x100, 1, .u16, .rw, 0, 2, 31130, 16384, 32767, 0, [], false⟩,
  ⟨0x54000A, 2, 0x100, 1, .u16, .rw, 0, 2, 50, 5, 1000, 0, [], false⟩,
  ⟨0x54000B, 2, 0x100, 1, .u16, .rw, 0, 2, 6000, 0, 65535, 0, [], false⟩,
  ⟨0x54000C, 2, 0x100, 1, .u16, .rw, 0, 2, 20, 5, 500, 0, [], false⟩,
  ⟨0x54000D, 2, 0x100, 1, .u16, .rws, 0, 2, 150, 10, 300, 0, [], false⟩,
  ⟨0x54000E, 2, 0x100, 1, .u8, .ro, 0, 9, 0, 0, 255, 0, [], false⟩,
  ⟨0x54000F, 2, 0x100, 1, .u16, .ro, 0, 9, 0, 0, 65535, 0, [], false⟩,
  ⟨0x540010, 2, 0x100, 1, .i16, .ro, 0, 9, 0, (-32768), 32767, 0, [], false⟩,
  ⟨0x540011, 2, 0x100, 1, .i32, .ro, 0, 9, 0, (-2147483648), 2147483647, 0, [], false⟩,
  ⟨0x540012, 2, 0x100, 1, .i16, .ro, 0, 9, 0, (-32768), 32767, 0, [], false⟩,
  ⟨0x540013, 2, 0x100, 1, .u16, .ro, 0, 9, 0, 0, 65535, 0, [], false⟩,
  ⟨0x540014, 2, 0x100, 1, .u8, .ro, 0, 9, 0, 0, 255, 0, [], false⟩,
  ⟨0x541001, 1, 0x1, 1, .u16, .rw, 0, 2, 4400, 3600, 5600, 0, [], false⟩,
  ⟨0x541002, 1, 0x1, 1, .u16, .rw, 0, 2, 5400, 4000, 5800, 0, [], false⟩,
  ⟨0x541003, 1, 0x1, 1, .u16, .rw, 0, 2, 2000, 10, 5000, 0, [], false⟩,
  ⟨0x541004, 1, 0x1, 1, .u16, .rw, 0, 2, 100, 10, 500, 0, [], false⟩]

/-- Objects of the indices 5800 to 58FF, part 1. -/
def rows58a : List ObjDef := [
  ⟨0x580001, 1, 0x1, 1, .u16, .rws, 0, 2, 850, 450, 1116, 0, [], false⟩,
  ⟨0x580002, 1, 0x1, 1, .u32, .rws, 0, 2, 1000, 50, 20000, 0, [], false⟩,
  ⟨0x580003, 1, 0x1, 1, .u16, .rw, 0, 2, 500, 360, 1116, 0, [], false⟩,
  ⟨0x580004, 1, 0x1, 1, .u16, .rw, 0, 2, 420, 350, 1066, 0, [], false⟩,
  ⟨0x580005, 1, 0x1, 1, .u16, .rw, 0, 2, 30, 5, 200, 0, [], false⟩,
  ⟨0x580006, 1, 0x1, 1, .u16, .rw, 0, 2, 10, 1, 1000, 0, [], false⟩,
  ⟨0x580007, 1, 0x1, 1, .u32, .rw, 0, 2, 20000, 0, 500000, 0, [], false⟩,
  ⟨0x580008, 1, 0x1, 1, .u32, .rw, 0, 2, 4000, 0, 20000, 0, [], false⟩,
  ⟨0x580009, 1, 0x1, 1, .u32, .rw, 0, 2, 1500, 0, 10000, 0, [], false⟩,
  ⟨0x58000A, 1, 0x1, 1, .u16, .rw, 0, 2, 16712, 16384, 17367, 0, [], false⟩,
  ⟨0x58000B, 1, 0x1, 1, .u16, .rw, 0, 2, 16384, 15565, 17285, 0, [], false⟩,
  ⟨0x58000C, 1, 0x1, 1, .u16, .rw, 0, 2, 17039, 16466, 17531, 0, [], false⟩,
  ⟨0x58000D, 1, 0x1, 1, .u32, .rws, 0, 2, 2000, 100, 100000, 0, [], false⟩,
  ⟨0x58000E, 1, 0x1, 1, .u32, .rw, 0, 2, 500000, 1000, 50000000, 0, [], false⟩,
  ⟨0x58000F, 1, 0x1, 1, .u16, .rw, 0, 2, 120, 1, 3600, 0, [], false⟩,
  ⟨0x580010, 1, 0x1, 1, .u32, .rw, 0, 2, 10000, 0, 1000000, 0, [], false⟩,
  ⟨0x580011, 1, 0x1, 1, .bool, .rws, 0, 2, 0, 0, 1, 0, [], false⟩,
  ⟨0x580012, 1, 0x1, 1, .bool, .rws, 0, 2, 0, 0, 1, 0, [], false⟩,
  ⟨0x580013, 1, 0x1, 1, .u32, .rw, 0, 2, 0, 0, 100000, 0, [], false⟩,
  ⟨0x580014, 1, 0x1, 1, .u16, .rw, 0, 2, 300, 50, 2000, 0, [], false⟩,
  ⟨0x580015, 1, 0x1, 1, .u16, .rw, 0, 2, 100, 20, 1000, 0, [], false⟩,
  ⟨0x580016, 1, 0x1, 1, .u32, .ro, 0, 9, 0, 0, 4294967295, 0, [], false⟩,
  ⟨0x580017, 1, 0x1, 1, .u8, .ro, 0, 9, 0, 0, 255, 0, [], false⟩,
  ⟨0x580018, 1, 0x1, 1, .u32, .ro, 0, 9, 0, 0, 4294967295, 0, [], false⟩]

/-- Objects of the indices 5800 to 58FF, part 2. -/
def rows58b : List ObjDef := [
  ⟨0x580019, 1, 0x1, 1, .u8, .ro, 0, 9, 0, 0, 255, 0, [], false⟩,
  ⟨0x581001, 4, 0x1, 1, .u8, .rws, 0, 2, 1, 0, 4, 0, [], false⟩,
  ⟨0x581002, 4, 0x1, 1, .u8, .rws, 0, 2, 1, 0, 2, 0, [], false⟩,
  ⟨0x581003, 4, 0x1, 1, .u16, .rw, 0, 2, 50, 5, 500, 0, [], false⟩,
  ⟨0x581004, 4, 0x1, 1, .u16, .rw, 0, 2, 30, 5, 500, 0, [], false⟩,
  ⟨0x581005, 4, 0x1, 1, .u16, .rw, 0, 2, 100, 10, 1000, 0, [], false⟩,
  ⟨0x581006, 4, 0x1, 1, .u8, .rw, 0, 2, 40, 10, 100, 0, [], false⟩,
  ⟨0x581007, 4, 0x1, 1, .u16, .rw, 0, 2, 20, 1, 500, 0, [], false⟩,
  ⟨0x581008, 4, 0x1, 1, .u8, .ro, 0, 9, 0, 0, 255, 0, [], false⟩,
  ⟨0x581009, 4, 0x1, 1, .u32, .ro, 0, 9, 0, 0, 4294967295, 0, [], true⟩,
  ⟨0x58100A, 4, 0x1, 1, .u32, .ro, 0, 9, 0, 0, 4294967295, 0, [], true⟩,
  ⟨0x582001, 1, 0x1, 1, .u8, .rw, 0, 1, 0, 0, 3, 0, [], false⟩,
  ⟨0x582002, 1, 0x1, 1, .u8, .rws, 0, 2, 0, 0, 2, 0, [], false⟩,
  ⟨0x582003, 1, 0x1, 1, .u16, .rws, 0, 2, 47, 1, 10000, 0, [], false⟩,
  ⟨0x582004, 1, 0x1, 1, .u16, .rw, 0, 2, 9500, 9000, 9900, 0, [], false⟩,
  ⟨0x582005, 1, 0x1, 1, .u16, .rw, 0, 2, 2000, 100, 10000, 0, [], false⟩,
  ⟨0x582006, 1, 0x1, 1, .u16, .rw, 0, 2, 2000, 100, 30000, 0, [], false⟩,
  ⟨0x582007, 1, 0x1, 1, .u8, .ro, 0, 9, 0, 0, 255, 0, [], false⟩,
  ⟨0x583001, 1, 0x1, 1, .u16, .rws, 0, 2, 600, 10, 2000, 0, [], false⟩,
  ⟨0x583002, 1, 0x1, 1, .u32, .ro, 0, 9, 0, 0, 4294967295, 0, [], true⟩]

/-- Objects of the indices 6000 to 60FF. -/
def rows60 : List ObjDef := [
  ⟨0x600001, 1, 0x1, 40, .u8, .rws, 0, 2, 0, 0, 9, 0, [], false⟩,
  ⟨0x600101, 1, 0x1, 40, .u8, .rws, 0, 2, 0, 1, 6, 0, [], false⟩,
  ⟨0x600201, 1, 0x1, 1, .u8, .wo, 9, 2, 0, 1, 1, 0, [], false⟩,
  ⟨0x600202, 1, 0x1, 1, .u8, .ro, 0, 9, 0, 0, 255, 0, [], false⟩,
  ⟨0x601001, 1, 0x1, 40, .u16, .rws, 0, 2, 180, 150, 200, 5, [], false⟩,
  ⟨0x601101, 1, 0x1, 40, .i16, .rws, 0, 2, (-40), (-50), (-20), 5, [], false⟩,
  ⟨0x601201, 1, 0x1, 40, .u16, .rws, 0, 2, 135, 100, 185, 0, [], false⟩,
  ⟨0x601301, 1, 0x1, 40, .i16, .rws, 0, 2, (-15), (-45), (-10), 0, [], false⟩,
  ⟨0x601401, 1, 0x1, 40, .u16, .ro, 0, 9, 0, 0, 65535, 0, [], false⟩,
  ⟨0x602001, 1, 0x1, 40, .u8, .ro, 0, 9, 0, 0, 255, 0, [], false⟩,
  ⟨0x602101, 1, 0x1, 40, .i16, .ro, 0, 9, 0, (-32768), 32767, 0, [], false⟩,
  ⟨0x602201, 1, 0x1, 40, .u32, .ro, 0, 9, 0, 0, 4294967295, 0, [], true⟩,
  ⟨0x602301, 1, 0x1, 40, .u32, .ro, 0, 9, 0, 0, 4294967295, 0, [], true⟩,
  ⟨0x602401, 1, 0x1, 40, .u8, .ro, 0, 9, 0, 0, 255, 0, [], false⟩,
  ⟨0x602501, 1, 0x1, 40, .i32, .ro, 0, 9, 0, (-2147483648), 2147483647, 0, [], false⟩,
  ⟨0x602601, 1, 0x1, 40, .i32, .ro, 0, 9, 0, (-2147483648), 2147483647, 0, [], false⟩]

/-- Objects of the indices 6100 to 61FF. -/
def rows61 : List ObjDef := [
  ⟨0x610101, 9, 0x1, 4, .u16, .rws, 0, 2, 400, 50, 2000, 10, [], false⟩,
  ⟨0x610105, 9, 0x1, 4, .u16, .rws, 0, 2, 800, 150, 2000, 50, [], false⟩,
  ⟨0x610109, 9, 0x1, 1, .u8, .rws, 0, 2, 1, 1, 3, 0, [], false⟩,
  ⟨0x61010A, 9, 0x1, 1, .u16, .rws, 0, 2, 250, 50, 500, 10, [], false⟩,
  ⟨0x61010B, 9, 0x1, 1, .u16, .rws, 0, 2, 50, 10, 120, 0, [], false⟩,
  ⟨0x61010C, 9, 0x1, 1, .u16, .rws, 0, 2, 100, 20, 500, 10, [], false⟩,
  ⟨0x61010D, 9, 0x1, 1, .u8, .rws, 0, 2, 20, 12, 100, 0, [], false⟩,
  ⟨0x61010E, 9, 0x1, 1, .u8, .rws, 0, 2, 1, 0, 2, 0, [], false⟩,
  ⟨0x61010F, 9, 0x1, 1, .u32, .rws, 0, 2, 5000, 100, 1000000, 0, [], false⟩,
  ⟨0x610110, 9, 0x1, 1, .i32, .rws, 0, 2, 3375, (-3000), 6000, 0, [], false⟩,
  ⟨0x610111, 9, 0x1, 1, .i16, .rw, 0, 2, 1500, (-400), 2000, 0, [], false⟩,
  ⟨0x610112, 9, 0x1, 1, .i16, .rw, 0, 2, 1650, (-350), 2000, 0, [], false⟩,
  ⟨0x610113, 9, 0x1, 1, .u16, .ro, 0, 9, 300, 0, 65535, 0, [], false⟩,
  ⟨0x610114, 9, 0x1, 1, .u16, .ro, 0, 9, 800, 0, 65535, 0, [], false⟩]

/-- Objects of the indices 6200 to 62FF. -/
def rows62 : List ObjDef := [
  ⟨0x620001, 1, 0x1, 1, .u16, .wo, 9, 2, 0, 0, 1023, 0, [], false⟩,
  ⟨0x620002, 1, 0x1, 1, .u8, .ro, 0, 9, 0, 0, 255, 0, [], false⟩]

/-- Objects of the indices 6300 to 63FF. -/
def rows63 : List ObjDef := [
  ⟨0x630001, 1, 0x1, 1, .bool, .ro, 0, 9, 0, 0, 1, 0, [], false⟩,
  ⟨0x630002, 1, 0x1, 1, .u32, .ro, 0, 9, 0, 0, 4294967295, 0, [], false⟩]

/-- Objects of the indices 7000 to 70FF. -/
def rows70 : List ObjDef := [
  ⟨0x701001, 1, 0x1, 1, .u32, .rws, 0, 2, 20000, 10000, 50000, 0, [], false⟩,
  ⟨0x701002, 1, 0x1, 1, .u16, .rws, 0, 2, 200, 50, 1000, 10, [], false⟩,
  ⟨0x701003, 1, 0x1, 1, .u16, .ro, 0, 9, 0, 0, 65535, 0, [], false⟩,
  ⟨0x701004, 1, 0x1, 1, .i16, .ro, 0, 9, 0, (-32768), 32767, 0, [], false⟩,
  ⟨0x701005, 1, 0x1, 1, .u16, .rw, 0, 2, 6200, 5000, 6300, 0, [], false⟩,
  ⟨0x701006, 1, 0x1, 1, .u8, .wo, 9, 2, 0, 0, 255, 0, [], false⟩,
  ⟨0x701007, 1, 0x1, 1, .u8, .ro, 0, 9, 0, 0, 255, 0, [], false⟩,
  ⟨0x700001, 1, 0x1, 28, .u8, .ro, 0, 9, 0, 0, 255, 0, [], false⟩,
  ⟨0x700101, 1, 0x1, 28, .u16, .ro, 0, 9, 0, 0, 65535, 0, [], false⟩,
  ⟨0x700201, 1, 0x1, 28, .u32, .ro, 0, 9, 0, 0, 4294967295, 0, [], false⟩,
  ⟨0x700301, 1, 0x1, 28, .u32, .ro, 0, 9, 0, 0, 4294967295, 0, [], true⟩,
  ⟨0x700401, 1, 0x1, 28, .u8, .ro, 0, 9, 0, 0, 255, 0, [], false⟩,
  ⟨0x700501, 1, 0x1, 28, .u16, .ro, 0, 9, 0, 0, 65535, 0, [], false⟩]

/-- Objects of the indices 7100 to 71FF, part 1. -/
def rows71a : List ObjDef := [
  ⟨0x710001, 4, 0x1, 1, .u8, .rw, 0, 1, 0, 0, 1, 0, [], false⟩,
  ⟨0x710002, 4, 0x1, 1, .u8, .rws, 0, 2, 4, 1, 16, 0, [], false⟩,
  ⟨0x710003, 4, 0x1, 1, .u16, .rws, 0, 2, 6000, 100, 30000, 0, [], false⟩,
  ⟨0x710004, 4, 0x1, 1, .u16, .rws, 0, 2, 300, 50, 7500, 0, [], false⟩,
  ⟨0x710005, 4, 0x1, 1, .i32, .rw, 0, 1, 0, (-30000), 30000, 0, [], false⟩,
  ⟨0x710006, 4, 0x1, 1, .u32, .rw, 0, 2, 2000, 10, 1000000, 0, [], false⟩,
  ⟨0x710007, 4, 0x1, 1, .u32, .rw, 0, 2, 2000, 10, 1000000, 0, [], false⟩,
  ⟨0x710008, 4, 0x1, 1, .u16, .rw, 0, 2, 150, 10, 250, 0, [], false⟩,
  ⟨0x710009, 4, 0x1, 1, .u32, .rw, 0, 2, 200, 1, 100000, 0, [], false⟩,
  ⟨0x71000A, 4, 0x1, 1, .u32, .rw, 0, 2, 20000, 0, 10000000, 0, [], false⟩,
  ⟨0x71000B, 4, 0x1, 1, .u8, .rw, 0, 2, 0, 0, 1, 0, [], false⟩,
  ⟨0x71000C, 4, 0x1, 1, .u16, .rw, 0, 2, 80, 10, 250, 0, [], false⟩,
  ⟨0x71000D, 4, 0x1, 1, .u16, .rw, 0, 2, 200, 10, 2000, 0, [], false⟩,
  ⟨0x71000E, 4, 0x1, 1, .u8, .rw, 0, 2, 2, 1, 100, 0, [], false⟩,
  ⟨0x71000F, 4, 0x1, 1, .u16, .rw, 0, 2, 40, 2, 400, 0, [], false⟩,
  ⟨0x710010, 4, 0x1, 1, .u16, .rw, 0, 2, 500, 50, 10000, 0, [], false⟩,
  ⟨0x710011, 4, 0x1, 1, .u16, .rws, 0, 2, 1000, 300, 5000, 10, [], false⟩,
  ⟨0x710012, 4, 0x1, 1, .u16, .rws, 0, 2, 500, 200, 2000, 10, [], false⟩,
  ⟨0x710013, 4, 0x1, 1, .domain, .rws, 0, 2, 0, 0, 0, 0, [], false⟩,
  ⟨0x710014, 4, 0x1, 1, .u8, .ro, 0, 9, 0, 0, 255, 0, [], false⟩,
  ⟨0x710015, 4, 0x1, 1, .i32, .ro, 0, 9, 0, (-2147483648), 2147483647, 0, [], false⟩,
  ⟨0x710016, 4, 0x1, 1, .i16, .ro, 0, 9, 0, (-32768), 32767, 0, [], false⟩,
  ⟨0x710017, 4, 0x1, 1, .u16, .ro, 0, 9, 0, 0, 65535, 0, [], false⟩,
  ⟨0x710018, 4, 0x1, 1, .u16, .ro, 0, 9, 0, 0, 65535, 0, [], false⟩]

/-- Objects of the indices 7100 to 71FF, part 2. -/
def rows71b : List ObjDef := [
  ⟨0x710019, 4, 0x1, 1, .u8, .ro, 0, 9, 0, 0, 255, 0, [], false⟩,
  ⟨0x71001A, 4, 0x1, 1, .u32, .ro, 0, 9, 0, 0, 4294967295, 0, [], false⟩]

/-- Objects of the indices 7200 to 72FF, part 1. -/
def rows72a : List ObjDef := [
  ⟨0x720001, 4, 0x1, 1, .u8, .rws, 0, 2, 1, 0, 4, 0, [], false⟩,
  ⟨0x720002, 4, 0x1, 1, .u16, .rw, 0, 2, 30, 1, 150, 0, [], false⟩,
  ⟨0x720003, 4, 0x1, 1, .u16, .rw, 0, 2, 15, 0, 150, 0, [], false⟩,
  ⟨0x720004, 4, 0x1, 1, .u32, .rws, 0, 2, 500, 10, 100000, 0, [], false⟩,
  ⟨0x720005, 4, 0x1, 1, .u32, .rws, 0, 2, 2000, 10, 100000, 0, [], false⟩,
  ⟨0x720006, 4, 0x1, 1, .u32, .rw, 0, 2, 2000, 1, 100000, 0, [], false⟩,
  ⟨0x720007, 4, 0x1, 1, .u32, .rw, 0, 2, 500000, 0, 10000000, 0, [], false⟩,
  ⟨0x720008, 4, 0x1, 1, .u16, .rws, 0, 2, 1600, 800, 4000, 10, [], false⟩,
  ⟨0x720009, 4, 0x1, 1, .u8, .rws, 0, 2, 0, 0, 2, 0, [], false⟩,
  ⟨0x72000A, 4, 0x1, 1, .u8, .rws, 0, 2, 0, 0, 1, 0, [], false⟩,
  ⟨0x72000B, 4, 0x1, 4, .u16, .rws, 0, 2, 200, 1, 15000, 0, [], false⟩,
  ⟨0x72000F, 4, 0x1, 1, .u32, .rw, 0, 2, 256000, 256, 3840000, 0, [], false⟩,
  ⟨0x720010, 4, 0x1, 1, .u32, .rw, 0, 2, 12800000, 2560, 1280000000, 0, [], false⟩,
  ⟨0x720011, 4, 0x1, 1, .u32, .rw, 0, 2, 12800000, 2560, 1280000000, 0, [], false⟩,
  ⟨0x720012, 4, 0x1, 1, .u32, .rw, 0, 2, 0, 0, 4294967295, 0, [], false⟩,
  ⟨0x720013, 4, 0x1, 1, .i32, .rw, 0, 2, (-2147483648), (-2147483648), 2147483647, 0, [], false⟩,
  ⟨0x720014, 4, 0x1, 1, .i32, .rw, 0, 2, 2147483647, (-2147483648), 2147483647, 0, [], false⟩,
  ⟨0x720015, 4, 0x1, 1, .i32, .rw, 0, 1, 0, (-2147483648), 2147483647, 0, [], false⟩,
  ⟨0x720016, 4, 0x1, 1, .u8, .wo, 9, 1, 0, 1, 5, 0, [], false⟩,
  ⟨0x720017, 4, 0x1, 1, .u8, .rw, 0, 2, 0, 0, 1, 0, [], false⟩,
  ⟨0x720018, 4, 0x1, 1, .u16, .rw, 0, 2, 500, 0, 65535, 0, [], false⟩,
  ⟨0x720019, 4, 0x1, 1, .u8, .rws, 0, 2, 0, 0, 1, 0, [], false⟩,
  ⟨0x72001A, 4, 0x1, 1, .u16, .rw, 0, 2, 128, 32, 224, 0, [], false⟩,
  ⟨0x72001B, 4, 0x1, 1, .u8, .rws, 0, 2, 2, 1, 2, 0, [], false⟩]

/-- Objects of the indices 7200 to 72FF, part 2. -/
def rows72b : List ObjDef := [
  ⟨0x72001C, 4, 0x1, 1, .u32, .rw, 0, 2, 51200, 25600, 3840000, 0, [], false⟩,
  ⟨0x72001D, 4, 0x1, 1, .u16, .rw, 0, 2, 20, 1, 150, 0, [], false⟩,
  ⟨0x72001E, 4, 0x1, 1, .u32, .rw, 0, 2, 102400, 256, 2147483647, 0, [], false⟩,
  ⟨0x72001F, 4, 0x1, 1, .i32, .rw, 0, 2, 0, (-2147483648), 2147483647, 0, [], false⟩,
  ⟨0x720020, 4, 0x1, 1, .u16, .rw, 0, 2, 230, 64, 250, 0, [], false⟩,
  ⟨0x720021, 4, 0x1, 1, .u8, .rw, 0, 2, 4, 1, 64, 0, [], false⟩,
  ⟨0x720022, 4, 0x1, 1, .u8, .rws, 0, 2, 0, 0, 2, 0, [], false⟩,
  ⟨0x720023, 4, 0x1, 1, .u8, .ro, 0, 9, 0, 0, 255, 0, [], false⟩,
  ⟨0x720024, 4, 0x1, 1, .bool, .ro, 0, 9, 0, 0, 1, 0, [], false⟩,
  ⟨0x720025, 4, 0x1, 1, .i16, .ro, 0, 9, (-32768), (-32768), 32767, 0, [], false⟩,
  ⟨0x720026, 4, 0x1, 1, .i32, .ro, 0, 9, 0, (-2147483648), 2147483647, 0, [], false⟩,
  ⟨0x720027, 4, 0x1, 1, .i32, .ro, 0, 9, 0, (-2147483648), 2147483647, 0, [], false⟩,
  ⟨0x720028, 4, 0x1, 1, .u16, .ro, 0, 9, 256, 0, 65535, 0, [], false⟩,
  ⟨0x720029, 4, 0x1, 1, .u32, .ro, 0, 9, 0, 0, 4294967295, 0, [], true⟩,
  ⟨0x721001, 1, 0x1, 1, .domain, .rws, 0, 2, 0, 0, 0, 0, [], false⟩,
  ⟨0x721002, 1, 0x1, 1, .domain, .rws, 0, 2, 0, 0, 0, 0, [], false⟩]

/-- Objects of the indices 7400 to 74FF. -/
def rows74 : List ObjDef := [
  ⟨0x740101, 2, 0x1, 1, .u8, .wo, 9, 1, 0, 1, 2, 0, [], false⟩,
  ⟨0x740102, 2, 0x1, 1, .u8, .ro, 0, 9, 0, 0, 255, 0, [], false⟩,
  ⟨0x740103, 2, 0x1, 1, .u8, .ro, 0, 9, 255, 0, 255, 0, [], false⟩]

/-- Objects of the indices 7500 to 75FF, part 1. -/
def rows75a : List ObjDef := [
  ⟨0x750001, 1, 0x1, 1, .u8, .rw, 0, 1, 0, 0, 8, 0, [], false⟩,
  ⟨0x750002, 1, 0x1, 1, .u8, .ro, 0, 9, 255, 0, 255, 0, [], false⟩,
  ⟨0x750003, 1, 0x1, 1, .u8, .rws, 0, 2, 2, 1, 8, 0, [], false⟩,
  ⟨0x750004, 1, 0x1, 1, .u8, .rws, 0, 2, 3, 0, 3, 0, [], false⟩,
  ⟨0x750005, 1, 0x1, 1, .u32, .rw, 0, 2, 2000, 0, 100000, 0, [], false⟩,
  ⟨0x750006, 1, 0x1, 1, .u8, .rw, 0, 2, 20, 1, 200, 0, [], false⟩,
  ⟨0x750007, 1, 0x1, 1, .u16, .rw, 0, 2, 500, 10, 5000, 0, [], false⟩,
  ⟨0x750008, 1, 0x1, 1, .u32, .rw, 0, 2, 200, 1, 1000000, 0, [], false⟩,
  ⟨0x750009, 1, 0x1, 1, .u8, .rw, 0, 2, 2, 0, 5, 0, [], false⟩,
  ⟨0x75000A, 1, 0x1, 1, .u16, .rw, 0, 2, 100, 10, 2000, 0, [], false⟩,
  ⟨0x75000B, 1, 0x1, 1, .i32, .rw, 0, 2, 0, (-2147483648), 2147483647, 0, [], false⟩,
  ⟨0x75000C, 1, 0x1, 1, .i32, .rw, 0, 2, 0, (-2147483648), 2147483647, 0, [], false⟩,
  ⟨0x75000D, 1, 0x1, 1, .u32, .rw, 0, 2, 5000, 0, 50000, 0, [], false⟩,
  ⟨0x75000E, 1, 0x1, 1, .u8, .ro, 0, 9, 7, 0, 255, 0, [], false⟩,
  ⟨0x75000F, 1, 0x1, 1, .u8, .rw, 0, 1, 0, 0, 1, 0, [], false⟩,
  ⟨0x750010, 1, 0x1, 1, .u8, .ro, 0, 9, 255, 0, 255, 0, [], false⟩,
  ⟨0x750011, 1, 0x1, 1, .i32, .rw, 0, 2, 0, (-2147483648), 2147483647, 0, [], false⟩,
  ⟨0x750012, 1, 0x1, 1, .i32, .rw, 0, 2, 0, (-2147483648), 2147483647, 0, [], false⟩,
  ⟨0x750013, 1, 0x1, 1, .i32, .rw, 0, 2, 0, (-2147483648), 2147483647, 0, [], false⟩,
  ⟨0x750014, 1, 0x1, 1, .u8, .rw, 0, 1, 0, 0, 1, 0, [], false⟩,
  ⟨0x750015, 1, 0x1, 1, .i32, .rw, 0, 2, 0, (-2147483648), 2147483647, 0, [], false⟩,
  ⟨0x750016, 1, 0x1, 1, .i32, .rw, 0, 2, 0, (-2147483648), 2147483647, 0, [], false⟩,
  ⟨0x750017, 1, 0x1, 1, .bool, .rw, 0, 2, 1, 0, 1, 0, [], false⟩,
  ⟨0x750018, 1, 0x1, 1, .u8, .wo, 9, 2, 0, 1, 1, 0, [], false⟩]

/-- Objects of the indices 7500 to 75FF, part 2. -/
def rows75b : List ObjDef := [
  ⟨0x751001, 1, 0x1, 8, .i32, .rw, 0, 2, 0, (-2147483648), 2147483647, 0, [], false⟩,
  ⟨0x751101, 1, 0x1, 8, .i32, .rw, 0, 2, 0, (-2147483648), 2147483647, 0, [], false⟩]

/-- Objects of the indices 8000 to 80FF, part 1. -/
def rows80a : List ObjDef := [
  ⟨0x800001, 1, 0x1, 1, .u8, .rws, 0, 2, 1, 0, 2, 0, [], false⟩,
  ⟨0x800002, 1, 0x1, 1, .i32, .rws, 0, 2, (-1500), (-20000), 20000, 0, [], false⟩,
  ⟨0x800003, 1, 0x1, 1, .i32, .rws, 0, 2, 0, (-20000), 20000, 0, [], false⟩,
  ⟨0x800004, 1, 0x1, 1, .u32, .rws, 0, 2, 5000, 500, 20000, 0, [], false⟩,
  ⟨0x800005, 1, 0x1, 1, .u8, .rws, 0, 2, 32, 1, 128, 0, [], false⟩,
  ⟨0x800006, 1, 0x1, 1, .i32, .rw, 0, 1, 0, (-900000000), 900000000, 0, [], false⟩,
  ⟨0x800007, 1, 0x1, 1, .i32, .rw, 0, 1, 0, (-1800000000), 1800000000, 0, [], false⟩,
  ⟨0x800008, 1, 0x1, 1, .i32, .ro, 0, 9, 0, (-2147483648), 2147483647, 0, [], false⟩,
  ⟨0x800009, 1, 0x1, 1, .i32, .ro, 0, 9, 0, (-2147483648), 2147483647, 0, [], false⟩,
  ⟨0x80000A, 1, 0x1, 1, .u16, .ro, 0, 9, 0, 0, 65535, 0, [], false⟩,
  ⟨0x80000B, 1, 0x1, 1, .i32, .ro, 0, 9, 0, (-2147483648), 2147483647, 0, [], false⟩,
  ⟨0x80000C, 1, 0x1, 1, .bool, .ro, 0, 9, 0, 0, 1, 0, [], false⟩,
  ⟨0x801001, 1, 0x1, 128, .i32, .rws, 0, 2, 0, (-20000), 20000, 0, [], false⟩,
  ⟨0x801101, 1, 0x1, 128, .i32, .rws, 0, 2, 0, (-20000), 20000, 0, [], false⟩,
  ⟨0x801201, 1, 0x1, 128, .u16, .rws, 0, 2, 500, 50, 6000, 0, [], false⟩,
  ⟨0x801301, 1, 0x1, 128, .bool, .rw, 0, 1, 1, 0, 1, 0, [], false⟩,
  ⟨0x801401, 1, 0x1, 128, .u8, .ro, 0, 9, 0, 0, 255, 0, [], false⟩,
  ⟨0x801501, 1, 0x1, 128, .u16, .ro, 0, 9, 0, 0, 65535, 0, [], false⟩,
  ⟨0x801601, 1, 0x1, 128, .u32, .ro, 0, 9, 0, 0, 4294967295, 0, [], false⟩,
  ⟨0x802001, 1, 0x1, 1, .u8, .rws, 0, 2, 1, 0, 4, 0, [], false⟩,
  ⟨0x802002, 1, 0x1, 1, .u8, .rws, 0, 2, 0, 0, 4, 0, [], false⟩,
  ⟨0x802003, 1, 0x1, 1, .i32, .rws, 0, 2, 0, (-10000), 10000, 0, [], false⟩,
  ⟨0x802004, 1, 0x1, 1, .i32, .rws, 0, 2, 0, (-10000), 10000, 0, [], false⟩,
  ⟨0x802005, 1, 0x1, 1, .i32, .rws, 0, 2, 0, (-10000), 10000, 0, [], false⟩]

/-- Objects of the indices 8000 to 80FF, part 2. -/
def rows80b : List ObjDef := [
  ⟨0x802006, 1, 0x1, 1, .u8, .rws, 0, 2, 0, 0, 3, 0, [], false⟩,
  ⟨0x802007, 1, 0x1, 1, .u8, .rws, 0, 2, 1, 1, 2, 0, [], false⟩,
  ⟨0x802008, 1, 0x1, 1, .u8, .rw, 0, 2, 3, 1, 4, 0, [], false⟩,
  ⟨0x802009, 1, 0x1, 1, .u16, .rw, 0, 2, 50, 0, 500, 0, [], false⟩,
  ⟨0x80200A, 1, 0x1, 1, .u16, .rw, 0, 2, 2000, 200, 20000, 0, [], false⟩,
  ⟨0x80200B, 1, 0x1, 1, .u32, .rw, 0, 2, 20000, 0, 200000, 0, [], false⟩,
  ⟨0x80200C, 1, 0x1, 1, .u8, .rw, 0, 2, 15, 2, 50, 0, [], false⟩,
  ⟨0x80200D, 1, 0x1, 1, .u8, .ro, 0, 9, 255, 0, 255, 0, [], false⟩,
  ⟨0x80200E, 1, 0x1, 1, .u8, .ro, 0, 9, 0, 0, 255, 0, [], false⟩,
  ⟨0x80200F, 1, 0x1, 1, .u32, .ro, 0, 9, 0, 0, 4294967295, 0, [], false⟩,
  ⟨0x802010, 1, 0x1, 1, .u32, .ro, 0, 9, 0, 0, 4294967295, 0, [], false⟩,
  ⟨0x802011, 1, 0x1, 1, .u32, .ro, 0, 9, 0, 0, 4294967295, 0, [], false⟩,
  ⟨0x803001, 1, 0x1, 1, .u8, .wo, 9, 1, 0, 1, 4, 0, [], false⟩,
  ⟨0x803002, 1, 0x1, 1, .u8, .ro, 0, 9, 0, 0, 255, 0, [], false⟩,
  ⟨0x803003, 1, 0x1, 1, .u16, .rws, 0, 2, 500, 500, 1000, 0, [500, 1000], false⟩,
  ⟨0x803004, 1, 0x1, 1, .i32, .rws, 0, 2, (-1448000), (-2147483648), 2147483647, 0, [], false⟩,
  ⟨0x803005, 1, 0x1, 1, .i32, .rws, 0, 2, (-1448000), (-2147483648), 2147483647, 0, [], false⟩,
  ⟨0x803006, 1, 0x1, 1, .u16, .rws, 0, 2, 5792, 32, 65504, 0, [], false⟩,
  ⟨0x803007, 1, 0x1, 1, .u16, .rws, 0, 2, 5792, 32, 65504, 0, [], false⟩,
  ⟨0x803008, 1, 0x1, 1, .u32, .ro, 0, 9, 0, 0, 4294967295, 0, [], false⟩,
  ⟨0x803009, 1, 0x1, 1, .u8, .rw, 0, 2, 3, 2, 5, 0, [], false⟩,
  ⟨0x80300A, 1, 0x1, 1, .u16, .rw, 0, 2, 3000, 500, 20000, 0, [], false⟩,
  ⟨0x80300B, 1, 0x1, 1, .u16, .rw, 0, 2, 60, 10, 600, 0, [], false⟩,
  ⟨0x80300C, 1, 0x1, 1, .u8, .rw, 0, 2, 0, 0, 1, 0, [], false⟩]

/-- Objects of the indices 8000 to 80FF, part 3. -/
def rows80c : List ObjDef := [
  ⟨0x80300D, 1, 0x1, 1, .u32, .ro, 0, 9, 0, 0, 4294967295, 0, [], false⟩,
  ⟨0x804001, 1, 0x1, 1, .domain, .rw, 0, 1, 0, 0, 0, 0, [], false⟩,
  ⟨0x804002, 1, 0x1, 1, .u8, .ro, 0, 9, 0, 0, 255, 0, [], false⟩,
  ⟨0x804003, 1, 0x1, 1, .bool, .rw, 0, 1, 0, 0, 1, 0, [], false⟩,
  ⟨0x804004, 1, 0x1, 1, .u8, .rw, 0, 2, 0, 0, 1, 0, [], false⟩,
  ⟨0x805001, 1, 0x1, 1, .domain, .rw, 0, 1, 0, 0, 0, 0, [], false⟩,
  ⟨0x805002, 1, 0x1, 1, .u8, .ro, 0, 9, 0, 0, 255, 0, [], false⟩,
  ⟨0x805003, 1, 0x1, 1, .u32, .rws, 0, 2, 10, 1, 10000, 0, [], false⟩,
  ⟨0x805004, 1, 0x1, 1, .u16, .rw, 0, 1, 8000, 0, 65534, 0, [], false⟩,
  ⟨0x805005, 1, 0x1, 1, .u8, .rw, 0, 1, 0, 0, 2, 0, [], false⟩,
  ⟨0x806001, 1, 0x1, 1, .u8, .rw, 0, 1, 0, 0, 1, 0, [], false⟩,
  ⟨0x806002, 1, 0x1, 1, .u8, .rw, 0, 1, 0, 0, 2, 0, [], false⟩,
  ⟨0x806003, 1, 0x1, 1, .u16, .rw, 0, 2, 300, 0, 5000, 0, [], false⟩,
  ⟨0x806004, 1, 0x1, 1, .u16, .rw, 0, 2, 200, 0, 5000, 0, [], false⟩,
  ⟨0x806005, 1, 0x1, 1, .u32, .rw, 0, 2, 50000, 0, 500000, 0, [], false⟩,
  ⟨0x806006, 1, 0x1, 1, .u16, .rw, 0, 2, 0, 0, 2000, 0, [], false⟩,
  ⟨0x806007, 1, 0x1, 1, .u32, .ro, 0, 9, 0, 0, 4294967295, 0, [], false⟩,
  ⟨0x806008, 1, 0x1, 1, .u32, .ro, 0, 9, 0, 0, 4294967295, 0, [], false⟩,
  ⟨0x808001, 1, 0x1, 128, .u32, .ro, 0, 9, 0, 0, 4294967295, 0, [], false⟩,
  ⟨0x808101, 1, 0x1, 128, .u32, .ro, 0, 9, 0, 0, 4294967295, 0, [], false⟩,
  ⟨0x808201, 1, 0x1, 128, .u32, .ro, 0, 9, 0, 0, 4294967295, 0, [], false⟩,
  ⟨0x808301, 1, 0x1, 128, .u32, .ro, 0, 9, 0, 0, 4294967295, 0, [], false⟩,
  ⟨0x808401, 1, 0x1, 128, .u32, .ro, 0, 9, 0, 0, 4294967295, 0, [], false⟩]

/-- Objects of the indices 9000 to 90FF. -/
def rows90 : List ObjDef := [
  ⟨0x900001, 4, 0x1, 1, .u8, .wo, 9, 2, 0, 1, 3, 0, [], false⟩,
  ⟨0x900002, 4, 0x1, 1, .u8, .rws, 0, 2, 32, 0, 32, 0, [], false⟩,
  ⟨0x900003, 4, 0x1, 1, .u16, .rws, 0, 2, 500, 250, 1000, 0, [250, 500, 1000], false⟩,
  ⟨0x900004, 4, 0x1, 1, .u8, .ro, 0, 9, 0, 0, 255, 0, [], false⟩,
  ⟨0x900005, 4, 0x1, 1, .u32, .ro, 0, 9, 0, 0, 4294967295, 0, [], false⟩,
  ⟨0x900006, 4, 0x1, 1, .u8, .ro, 0, 9, 0, 0, 255, 0, [], false⟩,
  ⟨0x900007, 4, 0x1, 1, .u8, .rw, 0, 2, 4, 2, 32, 0, [], false⟩,
  ⟨0x900008, 4, 0x1, 1, .bool, .rw, 0, 2, 1, 0, 1, 0, [], false⟩,
  ⟨0x900009, 4, 0x1, 1, .u32, .ro, 0, 9, 0, 0, 4294967295, 0, [], false⟩,
  ⟨0x90000A, 4, 0x1, 1, .u32, .ro, 0, 9, 0, 0, 4294967295, 0, [], false⟩,
  ⟨0x90000B, 4, 0x1, 1, .u32, .ro, 0, 9, 0, 0, 4294967295, 0, [], false⟩]

/-- Objects of the indices 9100 to 91FF. -/
def rows91 : List ObjDef := [
  ⟨0x910001, 1, 0x1, 128, .u8, .rws, 0, 2, 1, 0, 128, 0, [], false⟩,
  ⟨0x910101, 1, 0x1, 128, .u8, .rw, 0, 2, 1, 0, 255, 0, [], false⟩,
  ⟨0x910201, 1, 0x1, 128, .u8, .ro, 0, 9, 0, 0, 255, 0, [], false⟩,
  ⟨0x910301, 1, 0x1, 128, .u32, .ro, 0, 9, 0, 0, 4294967295, 0, [], false⟩,
  ⟨0x910401, 1, 0x1, 128, .u8, .ro, 0, 9, 0, 0, 255, 0, [], false⟩,
  ⟨0x910501, 1, 0x1, 128, .u8, .ro, 0, 9, 0, 0, 255, 0, [], false⟩,
  ⟨0x910601, 1, 0x1, 128, .u32, .ro, 0, 9, 0, 0, 4294967295, 0, [], false⟩,
  ⟨0x910701, 1, 0x1, 128, .u32, .ro, 0, 9, 0, 0, 4294967295, 0, [], true⟩,
  ⟨0x910801, 1, 0x1, 128, .u16, .ro, 0, 9, 0, 0, 65535, 0, [], false⟩,
  ⟨0x911001, 1, 0x1, 1, .u8, .rw, 0, 2, 0, 0, 128, 0, [], false⟩,
  ⟨0x911002, 1, 0x1, 1, .u8, .rw, 0, 2, 0, 0, 63, 0, [], false⟩,
  ⟨0x911003, 1, 0x1, 1, .u16, .rw, 0, 2, 0, 0, 65535, 0, [], false⟩,
  ⟨0x911004, 1, 0x1, 1, .u8, .wo, 9, 2, 0, 1, 2, 0, [], false⟩,
  ⟨0x911005, 1, 0x1, 1, .u8, .ro, 0, 9, 0, 0, 255, 0, [], false⟩]

/-- Objects of the indices A000 to A0FF. -/
def rowsA0 : List ObjDef := [
  ⟨0xA00001, 1, 0x1, 8, .u8, .ro, 0, 9, 0, 0, 255, 0, [], false⟩,
  ⟨0xA00009, 1, 0x1, 1, .u8, .ro, 0, 9, 255, 0, 255, 0, [], false⟩,
  ⟨0xA0000A, 1, 0x1, 1, .u32, .ro, 0, 9, 0, 0, 4294967295, 0, [], true⟩,
  ⟨0xA01001, 1, 0x1, 9, .u8, .ro, 0, 9, 0, 0, 255, 0, [], false⟩,
  ⟨0xA01101, 1, 0x1, 9, .u32, .ro, 0, 9, 0, 0, 4294967295, 0, [], false⟩]

/-- Objects of the indices A100 to A1FF, part 1. -/
def rowsA1a : List ObjDef := [
  ⟨0xA10001, 128, 0x1, 1, .bool, .rw, 0, 1, 0, 0, 1, 0, [], false⟩,
  ⟨0xA10002, 128, 0x1, 1, .u8, .rws, 0, 2, 1, 1, 4, 0, [], false⟩,
  ⟨0xA10003, 128, 0x1, 1, .u32, .rws, 0, 2, 1000, 10, 1000000, 10, [], false⟩,
  ⟨0xA10004, 128, 0x1, 1, .u8, .rws, 0, 2, 255, 0, 255, 0, [], false⟩,
  ⟨0xA10005, 128, 0x1, 1, .u16, .rws, 0, 2, 1, 1, 256, 0, [], false⟩,
  ⟨0xA10006, 128, 0x1, 1, .u32, .rws, 0, 2, 0, 0, 4294967295, 0, [], false⟩,
  ⟨0xA10007, 128, 0x1, 1, .i32, .rw, 0, 1, 0, (-2147483648), 2147483647, 0, [], false⟩,
  ⟨0xA10008, 128, 0x1, 1, .u32, .rws, 0, 2, 0, 0, 4294967295, 0, [], false⟩,
  ⟨0xA10009, 128, 0x1, 1, .u32, .rws, 0, 2, 0, 0, 4294967295, 0, [], false⟩,
  ⟨0xA1000A, 128, 0x1, 1, .i32, .rw, 0, 2, (-2147483648), (-2147483648), 2147483647, 0, [], false⟩,
  ⟨0xA1000B, 128, 0x1, 1, .i32, .rw, 0, 2, 2147483647, (-2147483648), 2147483647, 0, [], false⟩,
  ⟨0xA1000C, 128, 0x1, 1, .u8, .rw, 0, 2, 1, 0, 1, 0, [], false⟩,
  ⟨0xA1000D, 128, 0x1, 1, .u32, .rw, 0, 2, 0, 0, 2147483647, 0, [], false⟩,
  ⟨0xA1000E, 128, 0x1, 1, .u16, .rw, 0, 2, 0, 0, 1, 0, [], false⟩,
  ⟨0xA1000F, 128, 0x1, 1, .u8, .rw, 0, 2, 0, 0, 2, 0, [], false⟩,
  ⟨0xA10010, 128, 0x1, 1, .u8, .ro, 0, 9, 0, 0, 255, 0, [], false⟩,
  ⟨0xA10011, 128, 0x1, 1, .u8, .wo, 9, 1, 0, 1, 1, 0, [], false⟩,
  ⟨0xA10012, 128, 0x1, 1, .u8, .ro, 0, 9, 0, 0, 255, 0, [], false⟩,
  ⟨0xA10013, 128, 0x1, 1, .u8, .wo, 9, 1, 0, 0, 255, 0, [], false⟩,
  ⟨0xA10014, 128, 0x1, 1, .i32, .ro, 0, 9, 0, (-2147483648), 2147483647, 0, [], false⟩,
  ⟨0xA10015, 128, 0x1, 1, .i32, .ro, 0, 9, 0, (-2147483648), 2147483647, 0, [], false⟩,
  ⟨0xA10016, 128, 0x1, 1, .i32, .ro, 0, 9, 0, (-2147483648), 2147483647, 0, [], false⟩,
  ⟨0xA10017, 128, 0x1, 1, .i32, .ro, 0, 9, 0, (-2147483648), 2147483647, 0, [], false⟩,
  ⟨0xA10018, 128, 0x1, 1, .u16, .ro, 0, 9, 0, 0, 65535, 0, [], false⟩]

/-- Objects of the indices A100 to A1FF, part 2. -/
def rowsA1b : List ObjDef := [
  ⟨0xA10019, 128, 0x1, 1, .u32, .ro, 0, 9, 0, 0, 4294967295, 0, [], false⟩,
  ⟨0xA1001A, 128, 0x1, 1, .u8, .rw, 0, 2, 0, 0, 255, 0, [], false⟩,
  ⟨0xA1001B, 128, 0x1, 1, .u32, .ro, 0, 9, 0, 0, 4294967295, 0, [], false⟩]

/-- Objects of the indices A200 to A2FF. -/
def rowsA2 : List ObjDef := [
  ⟨0xA20001, 128, 0x1, 1, .i32, .rw, 0, 2, 0, (-2147483648), 2147483647, 0, [], false⟩,
  ⟨0xA20002, 128, 0x1, 1, .u8, .rw, 0, 2, 0, 0, 31, 0, [], false⟩,
  ⟨0xA20003, 128, 0x1, 1, .i32, .rw, 0, 2, 0, (-2147483648), 2147483647, 0, [], false⟩,
  ⟨0xA20004, 128, 0x1, 1, .u8, .rw, 0, 2, 0, 0, 31, 0, [], false⟩,
  ⟨0xA20005, 128, 0x1, 1, .i32, .rw, 0, 2, 0, (-2147483648), 2147483647, 0, [], false⟩,
  ⟨0xA20006, 128, 0x1, 1, .u8, .rw, 0, 2, 0, 0, 31, 0, [], false⟩,
  ⟨0xA20007, 128, 0x1, 1, .i32, .rw, 0, 2, 0, 0, 2147483647, 0, [], false⟩,
  ⟨0xA20008, 128, 0x1, 1, .u8, .rw, 0, 2, 0, 0, 31, 0, [], false⟩,
  ⟨0xA20009, 128, 0x1, 1, .i32, .rw, 0, 2, 0, (-2147483648), 2147483647, 0, [], false⟩,
  ⟨0xA2000A, 128, 0x1, 1, .u8, .rw, 0, 2, 0, 0, 31, 0, [], false⟩]

/-- Objects of the indices A300 to A3FF. -/
def rowsA3 : List ObjDef := [
  ⟨0xA30001, 128, 0x1, 1, .i32, .rw, 0, 2, 0, (-2147483648), 2147483647, 0, [], false⟩,
  ⟨0xA30002, 128, 0x1, 1, .u8, .rw, 0, 2, 0, 0, 31, 0, [], false⟩,
  ⟨0xA30003, 128, 0x1, 1, .i32, .rw, 0, 2, 0, (-2147483648), 2147483647, 0, [], false⟩,
  ⟨0xA30004, 128, 0x1, 1, .u8, .rw, 0, 2, 0, 0, 31, 0, [], false⟩,
  ⟨0xA30005, 128, 0x1, 1, .i32, .rw, 0, 2, 0, (-2147483648), 2147483647, 0, [], false⟩,
  ⟨0xA30006, 128, 0x1, 1, .u8, .rw, 0, 2, 0, 0, 31, 0, [], false⟩,
  ⟨0xA30007, 128, 0x1, 1, .i32, .rw, 0, 2, 0, (-2147483648), 2147483647, 0, [], false⟩,
  ⟨0xA30008, 128, 0x1, 1, .u8, .rw, 0, 2, 0, 0, 31, 0, [], false⟩,
  ⟨0xA30009, 128, 0x1, 1, .i32, .rw, 0, 2, 0, (-2147483648), 2147483647, 0, [], false⟩,
  ⟨0xA3000A, 128, 0x1, 1, .u8, .rw, 0, 2, 0, 0, 31, 0, [], false⟩]

/-- Objects of the indices B000 to B0FF. -/
def rowsB0 : List ObjDef := [
  ⟨0xB00001, 1, 0x1, 11, .u32, .ro, 0, 9, 0, 0, 4294967295, 0, [], false⟩,
  ⟨0xB00101, 1, 0x1, 11, .u32, .ro, 0, 9, 0, 0, 4294967295, 0, [], false⟩,
  ⟨0xB00201, 1, 0x1, 11, .u16, .rw, 0, 2, 16, 1, 1000, 0, [], false⟩,
  ⟨0xB00301, 1, 0x1, 11, .u16, .rw, 0, 2, 60, 1, 3600, 0, [], false⟩,
  ⟨0xB00401, 1, 0x1, 11, .u16, .ro, 0, 9, 0, 0, 65535, 0, [], false⟩,
  ⟨0xB00501, 1, 0x1, 11, .u32, .ro, 0, 9, 0, 0, 4294967295, 0, [], false⟩,
  ⟨0xB00601, 1, 0x1, 11, .u8, .ro, 0, 9, 2, 0, 255, 0, [], false⟩,
  ⟨0xB00701, 1, 0x1, 11, .u8, .ro, 0, 9, 0, 0, 255, 0, [], false⟩,
  ⟨0xB00801, 1, 0x1, 11, .u8, .ro, 0, 9, 2, 0, 255, 0, [], false⟩,
  ⟨0xB00901, 1, 0x1, 11, .u16, .ro, 0, 9, 0, 0, 65535, 0, [], false⟩,
  ⟨0xB00A01, 1, 0x1, 11, .u32, .ro, 0, 9, 0, 0, 4294967295, 0, [], false⟩,
  ⟨0xB00B01, 1, 0x1, 11, .u32, .ro, 0, 9, 0, 0, 4294967295, 0, [], false⟩,
  ⟨0xB01001, 1, 0x1, 4, .u32, .rw, 0, 2, 600, 10, 86400, 0, [], false⟩,
  ⟨0xB01101, 1, 0x1, 4, .u32, .rw, 0, 2, 60, 10, 86400, 0, [], false⟩,
  ⟨0xB01201, 1, 0x1, 4, .u32, .rw, 0, 2, 600, 10, 86400, 0, [], false⟩,
  ⟨0xB02001, 1, 0x1, 1, .u32, .ro, 0, 9, 0, 0, 4294967295, 0, [], false⟩,
  ⟨0xB02101, 1, 0x1, 1, .u8, .ro, 0, 9, 0, 0, 255, 0, [], false⟩,
  ⟨0xB02102, 1, 0x1, 1, .u32, .ro, 0, 9, 0, 0, 4294967295, 0, [], false⟩,
  ⟨0xB03001, 1, 0x1, 1, .u8, .ro, 0, 9, 0, 0, 255, 0, [], false⟩,
  ⟨0xB03002, 1, 0x1, 1, .u8, .ro, 0, 9, 64, 0, 255, 0, [], false⟩]

/-- Objects of the indices B100 to B1FF. -/
def rowsB1 : List ObjDef := [
  ⟨0xB10001, 1, 0x1, 1, .u32, .wo, 9, 2, 0, 0, 4294967295, 0, [], false⟩,
  ⟨0xB10002, 1, 0x1, 1, .u64, .wo, 9, 2, 0, 0, 18446744073709551615, 0, [], false⟩,
  ⟨0xB10003, 1, 0x1, 1, .u32, .ro, 0, 9, 0, 0, 4294967295, 0, [], false⟩,
  ⟨0xB10101, 1, 0x1, 1, .u16, .ro, 0, 9, 0, 0, 65535, 0, [], false⟩,
  ⟨0xB10102, 1, 0x1, 1, .u16, .ro, 0, 9, 256, 0, 65535, 0, [], false⟩,
  ⟨0xB10103, 1, 0x1, 1, .u16, .ro, 0, 9, 0, 0, 65535, 0, [], false⟩,
  ⟨0xB10104, 1, 0x1, 1, .u16, .ro, 0, 9, 0, 0, 65535, 0, [], false⟩,
  ⟨0xB10105, 1, 0x1, 1, .u16, .ro, 0, 9, 0, 0, 65535, 0, [], false⟩,
  ⟨0xB10106, 1, 0x1, 1, .u8, .ro, 0, 9, 128, 0, 255, 0, [], false⟩,
  ⟨0xB10201, 1, 0x1, 4, .u8, .ro, 0, 9, 0, 0, 255, 0, [], false⟩,
  ⟨0xB10301, 1, 0x1, 1, .u8, .ro, 0, 9, 1, 0, 255, 0, [], false⟩,
  ⟨0xB10302, 1, 0x1, 1, .u8, .ro, 0, 9, 0, 0, 255, 0, [], false⟩,
  ⟨0xB11001, 1, 0x1, 127, .u64, .ro, 0, 9, 0, 0, 18446744073709551615, 0, [], false⟩,
  ⟨0xB12001, 8, 0x1, 128, .u64, .ro, 0, 9, 0, 0, 18446744073709551615, 0, [], false⟩,
  ⟨0xB10401, 1, 0x1, 1, .domain, .wo, 9, 2, 0, 0, 0, 0, [], false⟩,
  ⟨0xB10402, 1, 0x1, 1, .u8, .ro, 0, 9, 0, 0, 255, 0, [], false⟩,
  ⟨0xB10601, 1, 0x1, 1, .u8, .wo, 9, 2, 0, 1, 5, 0, [], false⟩,
  ⟨0xB10602, 1, 0x1, 1, .u8, .ro, 0, 9, 0, 0, 255, 0, [], false⟩,
  ⟨0xB10604, 1, 0x1, 1, .u32, .ro, 0, 9, 0, 0, 4294967295, 0, [], false⟩,
  ⟨0xB10501, 1, 0x1, 1, .u8, .ro, 0, 9, 0, 0, 255, 0, [], false⟩]

/-- Objects of the indices B200 to B2FF. -/
def rowsB2 : List ObjDef := [
  ⟨0xB20001, 1, 0x1, 1, .u8, .wo, 9, 3, 0, 1, 3, 0, [], false⟩,
  ⟨0xB20002, 1, 0x1, 1, .u16, .rw, 0, 3, 0, 0, 767, 0, [], false⟩,
  ⟨0xB20003, 1, 0x1, 1, .domain, .wo, 9, 3, 0, 0, 0, 0, [], false⟩,
  ⟨0xB20004, 1, 0x1, 1, .u8, .ro, 0, 9, 0, 0, 255, 0, [], false⟩,
  ⟨0xB20005, 1, 0x1, 1, .u32, .ro, 0, 9, 0, 0, 4294967295, 0, [], false⟩,
  ⟨0xB20006, 1, 0x1, 1, .u8, .ro, 0, 9, 0, 0, 255, 0, [], false⟩,
  ⟨0xB20007, 1, 0x1, 1, .u8, .ro, 0, 9, 0, 0, 255, 0, [], false⟩,
  ⟨0xB20008, 1, 0x1, 1, .u32, .ro, 0, 9, 0, 0, 4294967295, 0, [], false⟩,
  ⟨0xB20009, 1, 0x1, 1, .u32, .ro, 0, 9, 0, 0, 4294967295, 0, [], false⟩]

/-- Objects of the indices C000 to C0FF. -/
def rowsC0 : List ObjDef := [
  ⟨0xC00001, 1, 0x1, 1, .u8, .wo, 9, 2, 0, 1, 3, 0, [], false⟩,
  ⟨0xC00002, 1, 0x1, 1, .u8, .ro, 0, 9, 0, 0, 255, 0, [], false⟩,
  ⟨0xC00003, 1, 0x1, 1, .u8, .rw, 0, 2, 0, 0, 1, 0, [], false⟩,
  ⟨0xC00004, 1, 0x1, 1, .u16, .rw, 0, 2, 16384, 0, 32767, 0, [], false⟩,
  ⟨0xC00005, 1, 0x1, 1, .u8, .rw, 0, 2, 255, 0, 255, 0, [], false⟩,
  ⟨0xC00006, 1, 0x1, 1, .u8, .ro, 0, 9, 255, 0, 255, 0, [], false⟩,
  ⟨0xC00007, 1, 0x1, 1, .u64, .ro, 0, 9, 0, 0, 18446744073709551615, 0, [], false⟩,
  ⟨0xC00100, 1, 0x1, 1, .domain, .rw, 0, 2, 32, 0, 0, 0, [], false⟩,
  ⟨0xC01001, 16, 0x1, 1, .u32, .rw, 0, 2, 0, 0, 4294967295, 0, [], false⟩,
  ⟨0xC01002, 16, 0x1, 1, .u32, .rw, 0, 2, 1000, 10, 1000000, 10, [], false⟩]

/-- Objects of the indices C100 to C1FF. -/
def rowsC1 : List ObjDef := [
  ⟨0xC10001, 1, 0x1, 1, .u32, .ro, 0, 9, 0, 0, 4294967295, 0, [], false⟩,
  ⟨0xC10002, 1, 0x1, 1, .u32, .ro, 0, 9, 0, 0, 4294967295, 0, [], false⟩,
  ⟨0xC10003, 1, 0x1, 1, .u32, .ro, 0, 9, 0, 0, 4294967295, 0, [], false⟩,
  ⟨0xC10004, 1, 0x1, 1, .u32, .ro, 0, 9, 0, 0, 4294967295, 0, [], false⟩,
  ⟨0xC10005, 1, 0x1, 1, .u32, .ro, 0, 9, 0, 0, 4294967295, 0, [], false⟩,
  ⟨0xC10006, 1, 0x1, 1, .u32, .ro, 0, 9, 0, 0, 4294967295, 0, [], false⟩,
  ⟨0xC11001, 1, 0x1, 18, .u8, .ro, 0, 9, 0, 0, 255, 0, [], false⟩,
  ⟨0xC11101, 1, 0x1, 18, .u8, .ro, 0, 9, 0, 0, 255, 0, [], false⟩]

/-- Objects of the indices F000 to F0FF. -/
def rowsF0 : List ObjDef := [
  ⟨0xF00001, 32, 0x1, 1, .u8, .rw, 0, 2, 0, 0, 8, 0, [], false⟩,
  ⟨0xF00002, 32, 0x1, 1, .domain, .rw, 0, 2, 16, 16, 16, 0, [], false⟩,
  ⟨0xF00003, 32, 0x1, 1, .u8, .rw, 0, 1, 0, 0, 1, 0, [], false⟩,
  ⟨0xF00004, 32, 0x1, 1, .u8, .rw, 0, 1, 4, 0, 255, 0, [], false⟩,
  ⟨0xF00005, 32, 0x1, 1, .i64, .rw, 0, 1, 0, (-9223372036854775808), 9223372036854775807, 0, [], false⟩,
  ⟨0xF00006, 32, 0x1, 1, .u8, .rw, 0, 1, 1, 1, 3, 0, [], false⟩,
  ⟨0xF00007, 32, 0x1, 1, .u16, .rw, 0, 2, 416, 416, 511, 0, [], false⟩,
  ⟨0xF00008, 32, 0x1, 1, .u8, .ro, 0, 9, 0, 0, 255, 0, [], false⟩,
  ⟨0xF00009, 32, 0x1, 1, .u8, .wo, 9, 1, 0, 1, 1, 0, [], false⟩,
  ⟨0xF0000A, 32, 0x1, 1, .u64, .ro, 0, 9, 0, 0, 18446744073709551615, 0, [], false⟩,
  ⟨0xF0000B, 32, 0x1, 1, .u8, .ro, 0, 9, 0, 0, 255, 0, [], false⟩,
  ⟨0xF0000C, 32, 0x1, 1, .u8, .ro, 0, 9, 0, 0, 255, 0, [], false⟩,
  ⟨0xF0000D, 32, 0x1, 1, .u32, .ro, 0, 9, 0, 0, 4294967295, 0, [], false⟩]

/-- Objects of the indices F100 to F1FF. -/
def rowsF1 : List ObjDef := [
  ⟨0xF10001, 64, 0x1, 32, .u64, .wo, 9, 1, 0, 0, 18446744073709551615, 0, [], false⟩]

/-- Objects of the indices F200 to F2FF. -/
def rowsF2 : List ObjDef := [
  ⟨0xF20001, 64, 0x1, 1, .u16, .rw, 0, 2, 0, 0, 65535, 0, [], false⟩,
  ⟨0xF20002, 64, 0x1, 1, .u8, .rw, 0, 2, 0, 0, 255, 0, [], false⟩]

/-- The rows whose index has high byte `h` (a repeating row may start in a lower page: `33xx` in `32xx`, `A3xx` in
`A2xx`, the TRB pages `48xx` to `4Axx` in the TRA pages, DCB `55xx` in `54xx`). -/
def page (h : Nat) : List ObjDef :=
  match h with
  | 0x10 => rows10
  | 0x11 => rows11a ++ rows11b
  | 0x12 => rows12
  | 0x13 => rows13
  | 0x14 => rows14
  | 0x17 => rows17
  | 0x18 => rows18
  | 0x1A => rows1A
  | 0x20 => rows20
  | 0x21 => rows21
  | 0x22 => rows22
  | 0x23 => rows23
  | 0x24 => rows24
  | 0x25 => rows25a ++ rows25b
  | 0x26 => rows26
  | 0x30 => rows30a ++ rows30b
  | 0x31 => rows31
  | 0x32 | 0x33 => rows32
  | 0x34 => rows34a ++ rows34b ++ rows34c ++ rows34d
  | 0x40 | 0x48 => rows40a ++ rows40b
  | 0x41 => rows41
  | 0x42 => rows42a ++ rows42b ++ rows42c
  | 0x49 => rows49 ++ rows41
  | 0x4A => rows4A ++ rows42a ++ rows42b ++ rows42c
  | 0x50 => rows50a ++ rows50b
  | 0x54 | 0x55 => rows54
  | 0x58 => rows58a ++ rows58b
  | 0x60 => rows60
  | 0x61 => rows61
  | 0x62 => rows62
  | 0x63 => rows63
  | 0x70 => rows70
  | 0x71 => rows71a ++ rows71b
  | 0x72 => rows72a ++ rows72b
  | 0x74 => rows74
  | 0x75 => rows75a ++ rows75b
  | 0x80 => rows80a ++ rows80b ++ rows80c
  | 0x90 => rows90
  | 0x91 => rows91
  | 0xA0 => rowsA0
  | 0xA1 => rowsA1a ++ rowsA1b
  | 0xA2 => rowsA2
  | 0xA3 => rowsA3
  | 0xB0 => rowsB0
  | 0xB1 => rowsB1
  | 0xB2 => rowsB2
  | 0xC0 => rowsC0
  | 0xC1 => rowsC1
  | 0xF0 => rowsF0
  | 0xF1 => rowsF1
  | 0xF2 => rowsF2
  | _ => []

/-- Defaults that differ within one row of an object table (R55, R69, R194, R243, R266, R309, R443, R468, R506,
R48 for the rate of WALL), and the life cycle of a shipped part (R9, log entry 13). -/
def defaultExceptions : List (Nat × Int) := [
  (0x610801, 0), (0x610802, 0), (0x610803, 0), (0x610804, 0), (0x610813, 0), (0x610901, 0), (0x610902, 0),
  (0x610903, 0), (0x610904, 0), (0x610913, 0), (0x630001, 1), (0x200002, 2), (0xB10602, 1), (0xB10201, 1), (0xB10202, 1), (0xB10106, 125),
  (0x300002, 1000000000), (0x300006, 0), (0x300306, 1820), (0x300406, 50), (0x300C06, 2048), (0x300D06, 2048),
  (0x300E06, 2048), (0x300F06, 2048), (0x343101, 2), (0x581101, 2), (0x581201, 3), (0x581301, 4),
  (0x550003, 50000), (0x550004, 3200), (0x550005, 40000), (0x550006, 2400), (0x550008, 10000), (0x55000B, 3200),
  (0x610102, 300), (0x610103, 300), (0x610104, 350), (0x610202, 300), (0x610203, 300), (0x610204, 350),
  (0x610302, 300), (0x610303, 300), (0x610304, 350), (0x610402, 300), (0x610403, 300), (0x610404, 350),
  (0x610502, 300), (0x610503, 300), (0x610504, 350), (0x610602, 300), (0x610603, 300), (0x610604, 350),
  (0x610702, 300), (0x610703, 300), (0x610704, 350), 
  (0x720101, 2), (0x720201, 3), (0x720301, 4),
  (0x72000C, 800), (0x72000D, 2000), (0x72000E, 5000), (0x72010C, 800), (0x72010D, 2000), (0x72010E, 5000),
  (0x72020C, 800), (0x72020D, 2000), (0x72020E, 5000), (0x72030C, 800), (0x72030D, 2000), (0x72030E, 5000),
  (0x348009, 2), (0x34800A, 4), (0x348109, 2), (0x34810A, 4), (0x348209, 2), (0x34820A, 4),
  (0xB00601, 8), (0xB0060B, 4), (0xB00801, 8), (0xB0080B, 4), (0xB01003, 300), (0xB01004, 120), (0xB01103, 30), (0xB01104, 15),
  (0xB01203, 300), (0xB01204, 120), (0x210001, 33), (0x210002, 33), (0x210005, 33), (0x210006, 33),
  (0x210011, 33), (0x210105, 33), (0x210179, 0), (0x21017A, 0), (0x21017B, 0), (0x21017C, 0),
  (0x21017D, 0), (0x21017E, 0), (0x21017F, 0), (0x210180, 0)]

end Sys2Proof.Dict
end

