-- ==== Sys2Proof/Machine/State.lean ====
section
/-! DEFINITION. The state of the E960 as plain data: the values of every object of the dictionary (R411), the hidden
state of each unit, the fault collector, the sorting office and the queue of waiting commands.  Every object the spec
lists, settings and readings alike, is an entry of `obj` (or `blk` for a DOMAIN or STR object); a key that is not
listed there reads as its default.  Sparse tables (`Tab`) list no entry equal to what an unlisted key reads as. -/

namespace Sys2Proof.Machine

/-- The reasons for which a step stops with a fault.  There are none: the spec gives every command of the table an
effect, and no command of the E960 stops the machine (safe: nothing is hidden behind a stop). -/
inductive Fault where
deriving DecidableEq, Repr

/-- The reasons for which a step is refused. -/
inductive Refusal where
  /-- Raised by an arm of `exec` whose command has no meaning yet (safe: the run stops there).  No arm raises it now. -/
  | notModelled (mnemonic : String)
deriving DecidableEq, Repr

/-- A write the service pair has accepted and the owner has not applied yet (R41, R601): the object, its value, and
the block for a DOMAIN object. -/
structure PWrite where
  key : Nat
  val : Int
  block : Option Bytes := none
deriving DecidableEq, Repr

/-- A fault in force (R510, R511): its code, the domain it acts on (`2010:s`, R508), the WALL of its raising, whether
its cause is present, the WALL at which the quiet period last started, whether fault injection caused it, and its
position in the log (R511). -/
structure FaultRec where
  code : Nat
  acts : Domain
  since : Nat
  cause : Bool
  quiet : Nat
  injected : Bool
deriving DecidableEq, Repr

/-- A record of the fault log (R515). -/
structure LogRec where
  wall : Nat
  code : Nat
  event : Nat
  kind : Nat
  rep : Nat
  cls : Nat
deriving DecidableEq, Repr

/-- The fault collector: faults in force in the order of their raising, the log and the copy of it in flash (R515),
the WALLs of the automatic exits RECENT counts (R519), the faults frozen by a reset that wait to re-enter (R526), and the
retention of R524. -/
structure Collector where
  active : List FaultRec := []
  log : List LogRec := []
  logCopy : List LogRec := []
  exits : List Nat := []
  held : List FaultRec := []
  retained : List FaultRec := []
deriving DecidableEq, Repr

/-- The phases of the supply and of the start (R550 to R555): no supply, asleep with only the holder powered, held in
reset, starting after reset release, engines running without service, and full service. -/
inductive Phase where
  | off | asleep | inReset | starting | engines | service
deriving DecidableEq, Repr

/-- What a track holds beside its objects (R47 to R54): whether its first valid update since the reset has come, the
WALL of its last update and the remainder of its extrapolation in units * 10^9, the extreme value for the direction
hysteresis, a hold with the source's own value, a limit that extrapolation does not pass (R88). -/
structure Track where
  started : Bool := false
  at_ : Nat := 0
  rem : Int := 0
  extreme : Int := 0
  holding : Bool := false
  src : Int := 0
  limit : Option Int := none
deriving DecidableEq, Repr

/-- What a compare slot holds beside its objects: whether it is armed, and whether it was armed while its track was
invalid, so that the tests of R61 wait (R62). -/
structure Slot where
  armed : Bool := false
  testWaits : Bool := false
deriving DecidableEq, Repr

/-- An SSI encoder input (R75 to R81): a frame in progress, a request held pending, MONOFLOP running, measuring frames,
consecutive rejects, the latch instants and accepted angles, the skip of the plausibility test, and the sensor fault
with its cause. -/
structure SsiIn where
  inFrame : Bool := false
  pending : Bool := false
  mono : Bool := false
  measureNext : Bool := true
  measuring : Bool := false
  rejects : Nat := 0
  latch : Nat := 0
  accepted : Bool := false
  lastLatch : Nat := 0
  angle : Nat := 0
  turn : Int := 0
  total : Int := 0
  rate : Int := 0
  skipPlaus : Bool := true
  asActive : Bool := false
  bad : Bool := false
deriving DecidableEq, Repr

/-- An incremental encoder input (R82 to R86): the A/B state, the raw count, the index reference, the raw count at the
previous qualified index, a reversal since, consecutive mismatches, raw counts at quadrature errors, an armed latch
and reset, and the sensor fault. -/
structure IncIn where
  ab : Nat := 0
  raw : Int := 0
  ref : Option Int := none
  lastIndex : Option Int := none
  lastFwd : Bool := true
  reversed : Bool := false
  mismatches : Nat := 0
  quads : List Int := []
  latchArmed : Bool := false
  resetArmed : Bool := false
  bad : Bool := false
deriving DecidableEq, Repr

/-- A Hall set (R88 to R90): the number of changes seen, the changes at which impossible states and sequence errors
came, the last valid state, the direction of the last change, the angle it gives, and the sensor fault. -/
structure HallIn where
  changes : Nat := 0
  impossible : List Nat := []
  seqErrs : List Nat := []
  last : Nat := 0
  fwd : Bool := true
  angle : Nat := 0
  bad : Bool := false
deriving DecidableEq, Repr

/-- The speed of a pulse input (R91, R92): the WALLs of its edges, newest first, whether the count method reports, and
the reported speed as edges `num` per `den` ns. -/
structure PulseIn where
  edges : List Nat := []
  byCount : Bool := false
  num : Nat := 0
  den : Nat := 1
deriving DecidableEq, Repr

/-- A probe latch (R94): armed, and the earliest WALL of the next edge of a continuous latch. -/
structure Probe where
  armed : Bool := false
  from_ : Nat := 0
deriving DecidableEq, Repr

/-- A traction machine's position source (R69 to R74): the learning of ELEC_OFFSET, the readings of a recovered primary
that agree with the active source, and the last valid speed (0.1 rpm). -/
structure Source where
  learning : Bool := false
  learnDevs : List Int := []
  learnLast : Option Int := none
  agree : Nat := 0
  lastSpeed : Int := 0
deriving DecidableEq, Repr



/-- One window result of R114: the phase it measures (0 U, 1 V, 2 W), the phase current y in mA, the ANG stamp and its
age in boundary intervals. -/
structure Window where
  phase : Nat
  y : Int
  theta : Nat
  age : Nat
deriving DecidableEq, Repr

/-- What a traction domain holds beside its objects (R103 to R157): window results, the offset mean (mA * 64), runs of
predicted and mismatched boundaries, the mode to change to at angle 0, duty remainders of R104 and the edge shifts of
R111, the duties placed, the ramp (0 none, 1 up from zero, 2 down to the stop) with its value in
0.01 Nm * 10^6, the ledger request with its WALL, the bridge DC voltage (0.1 V) of the last boundary, whether that boundary left a
hold waiting, the observer's counts,
the zero-current hold, a stop that waits for the next boundary, the WALL of an ASC that followed a comparator trip (R275), the shift torque window (R324), the probe, and the ANG
angles of the placed pattern edges and SSI requests (R128, R129). -/
structure Trac where
  windows : List Window := []
  offMean : Int := 0
  predRun : Nat := 0
  plausRun : Nat := 0
  nextMode : Nat := 0
  noPattern : Bool := false
  rests : List Int := [0, 0, 0]
  duties : List Int := [0, 0, 0]
  shifts : List Int := [0, 0, 0]
  ramp : Nat := 0
  rampVal : Int := 0
  reqDraw : Nat := 0
  reqFeed : Nat := 0
  vdc : Nat := 0
  holdWas : Bool := false
  obsGood : Nat := 0
  obsBad : Nat := 0
  xcheck : Nat := 0
  fwAtMax : Bool := false
  holdHigh : Nat := 0
  stopWaits : Bool := false
  offWaits : Bool := false
  window : Option Nat := none
  probing : Bool := false
  holdWaits : Bool := false
  obsIn : Bool := false
  limD : Int := 0
  limQ : Int := 0
  reqAt : Nat := 0
  edges : List Nat := []
  reqs : List Nat := []
  ascAt : Option Nat := none
deriving DecidableEq, Repr

/-- A gate channel (R259 to R276): the committed assignment and the one in force, each group * 8 + position + 1 or 0 for
the default, the conversions in a row above TS_TRIP, and whether the temperature stands above TS_WARN. -/
structure Gate where
  committed : Nat := 0
  inForce : Nat := 0
  tsHigh : Nat := 0
  warm : Bool := false
deriving DecidableEq, Repr

/-- What a loop slot holds beside its objects (R167 to R179): x_prev, a pending swap mark, the preset that its first
sample makes, the inner samples a cascade counts, the hold boundary of a move, and the first sample after it. -/
structure Loop where
  xPrev : Int := 0
  swap : Bool := false
  first : Bool := true
  cascade : Nat := 0
  holdNext : Bool := false
  halve : Bool := false
deriving DecidableEq, Repr

/-- A record of the trace buffer (R566). -/
structure TraceRec where
  wall : Nat
  source : Nat
  poison : Bool
  kind : Nat
  tag : Nat
  value : Int
deriving DecidableEq, Repr

/-- A source of the link (R188, R192, R400 to R402; 0 tractor, 1 battery): its announced draw and feed limits (W) and
voltage (0.1 V), the contactor state it reports, whether it permits regeneration, has been heard, has timed out or is
lost, whether it has announced a closed state since, and whether it reported state 3 when it was lost. -/
structure FeedSource where
  draw : Nat := 0
  feed : Nat := 0
  volts : Nat := 0
  state : Nat := 3
  regen : Bool := false
  seen : Bool := false
  timedOut : Bool := false
  lost : Bool := false
  closed : Bool := false
  lost3 : Bool := false
deriving DecidableEq, Repr

/-- A contactor driver (R194 to R196): whether its coil is driven, at which duty in per cent, and whether its feedback
mismatch is present. -/
structure Ctr where
  on : Bool := false
  duty : Nat := 0
  mismatch : Bool := false
deriving DecidableEq, Repr

/-- A precharge in progress (R201, R202): its source, a second source to connect after it, the announced voltage
(0.1 V), PRE_MODE, and its phase (0 precharge contactor closing, or reverse operation about to start, 1 charging, 2 main
closing, 3 main closed). -/
structure Precharge where
  src : Nat
  second : Option Nat
  vs : Nat
  mode : Nat
  phase : Nat := 0
deriving DecidableEq, Repr

/-- What the link holds beside its objects (R184 to R207): the precharge in progress, the WALLs of the counted
precharges, sources whose main waits to open, those that wait for another main, a source that waits to connect beside
another, the discharge (0 none, 1 mains opening, 2 chopper on) and PRE_STATE after it, the energy model (nJ), the
WALL of the chopper's last switching, the chopper's regulation, switching, missing current and thermal state, tier 2, the WALL since which the link is below
Vdc_max in tier 3, the under-voltage and floor-short notices, and V_REF (0.1 V). -/
structure Link where
  job : Option Precharge := none
  starts : List Nat := []
  opening : List Nat := []
  deferred : List Nat := []
  second : Option Nat := none
  discharge : Nat := 0
  after : Nat := 0
  energy : Nat := 0
  changed : Option Nat := none
  reg : Bool := false
  on : Bool := false
  missing : Bool := false
  faultShown : Bool := false
  hot : Bool := false
  tier2 : Bool := false
  below : Option Nat := none
  underVolt : Bool := true
  floorShort : Bool := false
  vref : Nat := 0
deriving DecidableEq, Repr

/-- What the grid port holds beside its objects (R209 to R237): the step of R224 (0 off, 1 to 4, 5 switching), the stop
in progress (0 none, 1 pilot, 2 GRD_MODE 0), MAINS angle 0 seen in step 4, the ramped limit and the current in force (nA), the limit held in a
sag (mA), the ride-through row, STATE before it, an island in operation, the requests, the boundaries with a good phase, the WALLs since which the phase error is
large and the voltage very low, the repeats of pilot, duty and proximity readings, a connector inserted, the elapsed
voltage ramp (ns), a short on the island, the energy of the cycle (W ns) with its remainder, and the meter log. -/
structure Grid where
  step : Nat := 0
  stop : Nat := 0
  zero : Bool := false
  ramp : Nat := 0
  cur : Nat := 0
  held : Nat := 0
  row : Nat := 0
  back : Nat := 3
  island : Bool := false
  reqDraw : Nat := 0
  reqFeed : Nat := 0
  reqAt : Nat := 0
  good : Nat := 0
  errSince : Option Nat := none
  lowSince : Option Nat := none
  pilot : Nat := 0
  pilotRuns : Nat := 0
  duty : Nat := 0
  dutyRuns : Nat := 0
  prox : Nat := 65535
  proxRuns : Nat := 0
  inserted : Bool := false
  vRamp : Nat := 0
  short : Bool := false
  last : Nat := 0
  cycle : Int := 0
  rest : Int := 0
  logImport : Nat := 0
  logExport : Nat := 0
  logWall : Nat := 0
  maxP : Nat := 0
deriving DecidableEq, Repr

/-- What a converter holds beside its objects (R240 to R256): a start asked for, RUN 0 written since the last start, the
V_REF of AUTO_START seen, the elapsed soft start or stop (ns), the output voltage it started from, the WALL of the last
boundary, the request, the periods with too much bias, and whether the coefficient banks hold the derived values. -/
structure Dab where
  want : Bool := false
  runZero : Bool := false
  hadRef : Bool := false
  soft : Nat := 0
  vStart : Nat := 0
  last : Nat := 0
  reqDraw : Nat := 0
  reqAt : Nat := 0
  bias : Nat := 0
  loaded : Bool := false
deriving DecidableEq, Repr

/-- The peer from which an input of R334 or R400 is taken (R399): its NAME, 0 while none is held, and whether an ignored
message has been reported since the last change of peer. -/
structure InputPeer where
  name : Nat := 0
  reported : Bool := false
deriving DecidableEq, Repr



/-- A half-bridge (R287 to R290): its model of the squared current (mA² * 10^6), and a refresh pulse in the last period. -/
structure HalfBridge where
  i2 : Nat := 0
  refreshed : Bool := false
deriving DecidableEq, Repr

/-- A group of half-bridges k = 0 to 7 (R288, R293, R306): tested since the reset, under test, under test after a DRIVE_EN rise,
failed its test, and its bootstrap stop (0 none, 1 present, 2 waiting for the end of the fault). -/
structure LvGroup where
  tested : Bool := false
  testing : Bool := false
  rise : Bool := false
  failed : Bool := false
  uv : Nat := 0
deriving DecidableEq, Repr

/-- What a BLDC group holds beside its objects (R295 to R304): the direction and sector driven, the current integrator (nV), the
current reference (mA) and speed set-point (µrpm), a stop in progress, the low-side brake of R303, the last sample against
VLV / 2 with its WALL, the last valid crossing (WALL, AX value, interval), bad and good crossings in a row, the placed
commutation, the boundaries since the last one, whether the floating phase has left its rail and the sector's crossing has
come, a handover awaited, the VLV budget's reduction (0.1 A), the WALL since which I_DC stands at its limit, a stop after three
tries, a shunt trip before the sample, the line back-EMF (0.01 V), and the WALL at which the ramp began. -/
structure Bldc where
  dir : Int := 1
  sector : Nat := 0
  integ : Int := 0
  ref : Int := 0
  sp : Int := 0
  stopping : Bool := false
  braking : Bool := false
  lastX : Option (Int × Nat) := none
  zcAt : Nat := 0
  zcPos : Int := 0
  zcInt : Nat := 0
  bad : Nat := 0
  good : Nat := 0
  place : Option Int := none
  since : Nat := 0
  left : Bool := false
  crossed : Bool := false
  handover : Bool := false
  reduce : Nat := 0
  limitAt : Option Nat := none
  lost : Bool := false
  tripped : Bool := false
  emf : Nat := 0
  rampAt : Nat := 0
deriving DecidableEq, Repr

/-- What a stepper axis holds beside its objects (R310 to R322): set-point, velocity and acceleration (2^-32 microstep, s), the
accumulator and its increment, what the axis does (0 nothing, 1 a move, 2 to the hard stop, 3 back to a full step, 4 the 50 ms at
the stop, 5 energising, 6 the 50 ms after a stall, 7 in a group), its target, what follows the energising (1 a move, 2 homing)
and whether its 20 ms are over, the stall tests passed in a row, HOME_SPEED reached and the start of homing, the resolution to
take over, the coils' integrators (nV) and duties (0.01 %), the amplitude in force (mA), its start and distance in a group
move, and the WALL of its last servo period.  `doing` 8 is a stop. -/
structure Axis where
  p : Int := 0
  v : Int := 0
  a : Int := 0
  acc : Int := 0
  inc : Int := 0
  doing : Nat := 0
  target : Int := 0
  next : Nat := 0
  ready : Bool := false
  stall : Nat := 0
  atSpeed : Bool := false
  homeFrom : Int := 0
  res : Nat := 256
  integA : Int := 0
  integB : Int := 0
  dutyA : Int := 0
  dutyB : Int := 0
  amp : Nat := 0
  from_ : Int := 0
  dist : Int := 0
  at_ : Nat := 0
deriving DecidableEq, Repr

/-- A coordinated group (R321): its members, whether it is under way, its position, velocity and acceleration on the leader's
path (2^-32 microstep, s), the leader's profile limits (V_MAX, ACCEL, DECEL, JERK), and its start and distance. -/
structure MoveGroup where
  members : List Nat := []
  started : Bool := false
  p : Int := 0
  v : Int := 0
  a : Int := 0
  vMax : Nat := 0
  accel : Nat := 0
  decel : Nat := 0
  jerk : Nat := 0
  from_ : Int := 0
  dist : Int := 0
deriving DecidableEq, Repr

/-- The interlocks (R323 to R329): the operation (0 none, 1 a shift, 2 engaging the park lock, 3 releasing it, 4 re-homing), its
step, a window imposed and confirmed, the ledger periods within and outside it by machine, the gear or value asked for and one
kept for later, the retries, a cancel that ends the operation, a window that widens with its width (0.01 Nm / 20), the park
lock's hold on the window, the unhomed state shown, and whether AUTO_HOME has run since the reset. -/
structure Shift where
  op : Nat := 0
  step : Nat := 0
  imposed : Bool := false
  confirmed : Bool := false
  inA : Nat := 0
  inB : Nat := 0
  outA : Nat := 0
  outB : Nat := 0
  gear : Nat := 0
  kept : Option Nat := none
  retries : Nat := 0
  cancelled : Bool := false
  widening : Bool := false
  width : Nat := 0
  parkHold : Bool := false
  shown : Bool := false
  autoDone : Bool := false
  turnBack : Bool := false
deriving DecidableEq, Repr

/-- A pulse source for GND (R338): PULSES and GLITCHES at the last update, the WALLs of recent glitches, the sums of its speed
and the speed over ground (0.1 mm/s) with their number, disagreement, and the WALL since which it agrees again. -/
structure PulseSrc where
  last : Nat := 0
  glitches : Nat := 0
  glitchAt : List Nat := []
  sumP : Nat := 0
  sumG : Nat := 0
  count : Nat := 0
  bad : Bool := false
  agree : Option Nat := none
deriving DecidableEq, Repr

/-- What GE holds beside its objects (R331 to R349, R356): the heading and the drawbar reference (2^-32 turn counter-clockwise
from east), the rate of the reference (µrad/s), the position (2^-16 mm) with 1 s of history, the direction, remainders of GND
(2^-20 unit) and of DR_DISTANCE, the absolute travel of GND, course, speed over ground (mm/s), heading and machine direction
with their WALLs, the method of the last position message, the last accepted fix, the hitch's last position, speed and course,
the standstill, missing yaw and distance sources, the field origin awaited, first notices of a job, the marks that wait with
their travel, the coverage map, what the last committed save holds and what a save in progress wrote, a
close in progress, and the Task Controller's rows and rate. -/
structure Ge where
  theta : Nat := 1073741824
  thetaK : Nat := 1073741824
  refLast : Option Nat := none
  refRate : Int := 0
  e : Int := 0
  n : Int := 0
  hist : List (Int × Int) := []
  fwd : Bool := true
  rem : Int := 0
  drRem : Nat := 0
  travel : Nat := 0
  cog : Nat := 0
  sog : Nat := 0
  cogAt : Option Nat := none
  head : Nat := 0
  headAt : Option Nat := none
  mdir : Bool := true
  mdirAt : Option Nat := none
  method : Nat := 0
  methodAt : Option Nat := none
  fixAt : Option Nat := none
  hitch : Option (Int × Int) := none
  vH : Nat := 0
  chiH : Nat := 0
  still : Option Nat := none
  noYaw : Bool := false
  originWaits : Bool := false
  outsideShown : Bool := false
  baseShown : Bool := false
  marks : List (Nat × Nat) := []
  map : List Nat := []
  stored : List Nat := []
  saving : List Nat := []
  closing : Bool := false
  tcRows : List Nat := []
  tcRate : Option Nat := none
  pulses : Tab PulseSrc := []
deriving DecidableEq, Repr

/-- A row (R341 to R354): held with its peak, the last decision, the decided horizon and the state decided there, the pending
transitions as command coordinate and state, the last dose (1/256 unit), the remainder (2^-20 unit), the position (mm) and
section state at the last decision, and whether its last report was a miss. -/
structure RowSt where
  held : Bool := false
  peak : Int := 0
  rDec : Option Int := none
  h : Option Int := none
  on : Bool := false
  queue : List (Int × Bool) := []
  dose : Option Int := none
  rem : Int := 0
  last : Option (Int × Int × Bool) := none
  missed : Bool := false
deriving DecidableEq, Repr

/-- A node m = 32 * c + p (R366, R370 to R381): the entries that wait, those sent and not reported as sequence number, frame and
coordinate, the next sequence number, whether its last slot was good, its unwritten slots in a row, the last DONE_COUNT and
MET_COUNT, the cancel to send, the cancels sent by frame, its last HOP, its forward delay (ns), its fault flag, whether a
mismatch has been reported, and the parameters the E960 itself asks for or writes: number, write or read, and the value to
write or 1 more than the value expected, 0 for none. -/
structure NodeSt where
  wait : List Int := []
  out : List (Nat × Nat × Int) := []
  seq : Nat := 0
  good : Bool := false
  silent : Nat := 0
  done : Nat := 0
  met : Nat := 0
  cancel : Option Nat := none
  cancels : List (Nat × Nat) := []
  hop : Nat := 0
  fwd : Nat := 0
  fault : Bool := false
  mism : Bool := false
  ask : List (Nat × Bool × Nat) := []
deriving DecidableEq, Repr

/-- A chain (R359 to R380): its frames since the start, cycles without a return, the WALLs of recent CRC errors, the last
report of them, a position to assign, the broadcast in force (groups, parameter, value, CYCLE), the bytes of the last
frame, whether it cycles, positions to learn with the next frame, and the last frame with housekeeping (R542). -/
structure ChainSt where
  frame : Nat := 0
  noReturn : Nat := 0
  crcAt : List Nat := []
  crcShown : Option Nat := none
  assign : Option (Nat × Nat) := none
  bcast : Option (Nat × Nat × Nat × Option Nat) := none
  bytes : Bytes := []
  up : Bool := false
  learn : Bool := false
  house : Option Nat := none
deriving DecidableEq, Repr

/-- The mailbox (R380): the request that waits for its answer, and its cycles. -/
structure Mailbox where
  node : Nat := 0
  param : Nat := 0
  data : Nat := 0
  write : Bool := false
  busy : Bool := false
deriving DecidableEq, Repr



/-- A session (R391 to R396): the client's and the E960's challenge, the session key, the last accepted SEQ, the content of the
last answered request with its result, data and END, the discards, the staging as object, bytes and WALL of its last segment,
and the WALL of the last accepted unit. -/
structure Session where
  nc : Bytes := []
  nd : Bytes := []
  key : Bytes := []
  seq : Option Nat := none
  asked : Bytes := []
  answer : Nat := 0
  data : Bytes := []
  last : Bool := false
  discards : Nat := 0
  staging : Option (Nat × Bytes × Nat) := none
  at_ : Nat := 0
deriving DecidableEq, Repr

/-- A notification map (R408, R505): to be sent at the next scan whatever its values, the values last sent with their WALL, and
its counter. -/
structure Note where
  force : Bool := false
  sent : Option Bytes := none
  at_ : Option Nat := none
  counter : Nat := 0
deriving DecidableEq, Repr

/-- A notification that waits in a buffer slot (R409): its map, path, counter and bytes, with the MAC of a session map. -/
structure NoteMsg where
  map : Nat
  path : Nat
  counter : Nat
  bytes : Bytes
deriving DecidableEq, Repr

/-- A courier (R420 to R425): pending, its slot under TIMING 1, its answer still owed until the arm takes effect, the session that
asked with the header of its response (empty without a unit), the objects it writes and its value, and for nodes the groups and the
parameter. -/
structure Courier where
  pending : Bool := false
  slot : Option Nat := none
  owed : Bool := false
  session : Nat := 0
  head : Bytes := []
  keys : List Nat := []
  value : Int := 0
  node : Option (Nat × Nat) := none
deriving DecidableEq, Repr

/-- The host SPI port (R434 to R442): the unit in the request buffer, REQ_FREE, the responses that wait, the direct-read buffer as
bytes with its read pointer in words, RD_READY, the reference it is to be filled for, the flags END, POISON and ABORTED, the bytes
of the last transaction on HSP_MISO, and the command latched in the previous daisy-chained frame. -/
structure Hsp where
  req : Option Bytes := none
  free : Bool := true
  resp : List Bytes := []
  buf : Bytes := []
  ptr : Nat := 0
  ready : Bool := false
  want : Option Nat := none
  end_ : Bool := false
  poison : Bool := false
  aborted : Bool := false
  out : Bytes := []
  cmd : Nat := 0
deriving DecidableEq, Repr

/-- A sensor master (R443 to R447): the queue and descriptor that runs, the WALL of the chain's first select and the value of the
starting slot's track, the pending queues with theirs, and the queue contents that wait for their queue to be idle. -/
structure SpPort where
  run : Option (Nat × Nat) := none
  wall : Nat := 0
  track : Int := 0
  pend : List (Nat × Int) := []
  wait : Tab Bytes := []
deriving DecidableEq, Repr

/-- A word of a protected memory that carries a mark (R454 to R464): the dead-letter mark, whether it came from an uncorrectable
error, and whether it is permanent. -/
structure MemWord where
  poison : Bool := false
  ue : Bool := false
  perm : Bool := false
deriving DecidableEq, Repr

/-- A protected memory (R452 to R462): its marked words, the corrected words that wait to be written back, the offsets tracked in
this round with their counts, oldest first, the pigeonholes taken in their order with the word each serves, the scrubber's next
word, and the start of its round with the ROUND_TIME in force there. -/
structure MemInst where
  words : Tab MemWord := []
  back : List Nat := []
  seen : List (Nat × Nat) := []
  holes : List (Option Nat) := []
  next : Nat := 0
  from_ : Nat := 0
  time : Nat := 0
deriving DecidableEq, Repr

/-- An OTP command that runs (R477 to R483): its kind (1 PROGRAM, 2 LOCK, 3 REISSUE), the word it programs with its value, and
the bank of a LOCK or REISSUE. -/
structure OtpJob where
  kind : Nat
  word : Nat
  value : Nat
  bank : Nat := 0
deriving DecidableEq, Repr

/-- The fuses (R470 to R496): the programmed words of the array, the shadow, the C words taken as set by a restrictive reading,
the words that failed and, as 2000 + r, the regions r whose check failed at the
start (0 V, 1 K vendor part, 2 and 3 the banks), the spares used and failed, the command that runs,
OTP_DATA by session, the bank in force at the start with its ENABLES and its ceilings by object, the key of R393, the accepted
life-cycle step, and the injection into the next comparison as word and bits. -/
structure Fuse where
  array : Tab Nat := []
  shadow : Tab Nat := []
  forced : List Nat := []
  failed : List Nat := []
  spares : List Nat := []
  badSpares : List Nat := []
  job : Option OtpJob := none
  data : Tab Nat := []
  inForce : Bool := false
  enables : Nat := 0
  ceilings : List (Nat × Int) := []
  key : Bytes := []
  step : Option Nat := none
  inject : Option (Nat × Nat) := none
deriving DecidableEq, Repr

/-- An image slot (R497 to R499): written at all, its header's bytes 0 to 4,095, its body, the nonce and SEQUENCE, the markers
COMMIT, TRIED, CONFIRMED and REJECTED, and what its content gives when it is verified: its signature, and whether its key is that of
PROD_HASH or of DEV_HASH. -/
structure ImgSlot where
  written : Bool := false
  head : Bytes := []
  body : Bytes := []
  nonce : Nat := 0
  seq : Nat := 0
  commit : Bool := false
  tried : Bool := false
  confirmed : Bool := false
  rejected : Bool := false
  signed : Bool := false
  prod : Bool := false
  dev : Bool := false
deriving DecidableEq, Repr

/-- An update in progress (R501, R502): its session, the next block, and whether a shorter block has ended the file. -/
structure ImgUpdate where
  owner : Nat := 0
  next : Nat := 0
  ended : Bool := false
deriving DecidableEq, Repr

/-- Power, reset and shutdown (R550 to R562) and the holder on its own (R23 to R25): the cause of the last reset, whether the
E960 was awake at a brown-out, a reset held by a low supply, VSUP below 18.0 V, VSUP above the over-voltage level with no
release yet, what follows step 7 of the start (0 nothing, 1 the shutdown from step 2, 2 the whole shutdown), KEY_ON risen from step
4 on, an orderly shutdown's save before the next reset, the bound of the meter gap that the next start reports (mWh), the
power-ready event of this start, the holder acting alone with its reset due, the main clock on the RC oscillator, and the
remainders of OP_HOURS and BAND_HOURS (ns) with the WALL of the last sample. -/
structure Power where
  cause : Nat := 1
  awake : Bool := true
  held : Bool := false
  low : Bool := false
  tooHigh : Bool := false
  after : Nat := 0
  keyAgain : Bool := false
  saved : Bool := false
  gap : Option Nat := none
  ready : Bool := false
  alone : Bool := false
  due : Bool := false
  rc : Bool := false
  opRest : Nat := 0
  bandRest : List Nat := [0, 0, 0, 0]
  sampleAt : Nat := 0
deriving DecidableEq, Repr

/-- What flash keeps beside images and job saves (R495, R556): the recipe area's numbers and blocks, the channel assignment
committed, and the last copy of the counters since manufacture. -/
structure Kept where
  recipe : Tab Int := []
  blocks : Tab Bytes := []
  counts : Tab Int := []
deriving DecidableEq, Repr

/-- A temperature sensor (R537, R544): samples in a row that speak for its exclusion or its return,
the WALL since which it agrees again, readings in a row at NTC_TRIP, and whether its condition of R544 stands. -/
structure Sensor where
  run : Nat := 0
  good : Option Nat := none
  trips : Nat := 0
  hot : Bool := false
  trip : Bool := false
deriving DecidableEq, Repr

/-- The die's thermal cycles (R546): the last turning point, the extreme since, whether it rises, and the shutdown's condition. -/
structure Die where
  turn : Option Int := none
  peak : Int := 0
  up : Bool := true
  shut : Bool := false
deriving DecidableEq, Repr



-- STRUCTURES

/-- Everything the E960 holds but the queue of commands. -/
structure Dev where
  /-- The WALL track, ns since the reset (R47, R51). -/
  wall : Nat := 0
  /-- The model's own counter for free values (log entry 2). -/
  free : Nat := 0
  /-- Every object with a numeric value, key index * 256 + subindex (R163, R411). -/
  obj : Tab Int := []
  /-- Every DOMAIN and STR object. -/
  blk : Tab Bytes := []
  /-- Objects whose value carries the dead-letter mark (R418, R466). -/
  poison : List Nat := []
  /-- Accepted writes not yet applied, in the order of delivery (R42). -/
  writes : List PWrite := []
  /-- Result code of the last access or command write (R419). -/
  result : Nat := 0
  /-- Data of the last response. -/
  data : Bytes := []
  /-- Events the sorting office has accepted and not delivered, as tick * 256 + event, ascending (R507). -/
  evq : List Nat := []
  /-- The fault collector (R504 to R534). -/
  coll : Collector := {}
  /-- The phase of supply and start (R550 to R555). -/
  phase : Phase := .starting
  /-- A RESET_CMD has been accepted and its reset has not followed yet (R428). -/
  resetPending : Bool := false
  /-- Tracks by code (R47). -/
  tracks : Tab Track := []
  /-- Compare slots that are armed or wait (R57 to R67). -/
  slots : Tab Slot := []
  /-- ENC0, ENC1. -/
  ssi : Tab SsiIn := []
  /-- INC0, INC1. -/
  inc : Tab IncIn := []
  /-- HAL0, HAL1. -/
  hall : Tab HallIn := []
  /-- INC0, INC1, HAL0, HAL1, WHL0, WHL1, RAD0, numbered 0 to 6. -/
  pulse : Tab PulseIn := []
  /-- PRB0 to PRB3. -/
  probes : Tab Probe := []
  /-- Position sources of machines A (0) and B (1). -/
  source : Tab Source := []
  /-- The inertial sensor has failed its self-test at this start (R97). -/
  imuFailed : Bool := false
  /-- Traction domains A (0) and B (1). -/
  trac : Tab Trac := []
  /-- Gate channels 1 to 40. -/
  gates : Tab Gate := []
  /-- The link's over-voltage tiers 3 and 4 are in force, and the holder's contactor open request (R197, R207). -/
  tier3 : Bool := false
  tier4 : Bool := false
  openRequest : Bool := false
  /-- The HV node over-current comparators that are tripped or held, HN0 to HN5 (R272). -/
  ocTrips : List Nat := []
  /-- The last window result of HN2 to HN5 (R33). -/
  hnLast : Tab Int := []
  /-- Loop slots L = 16 * e + s (R160). -/
  loops : Tab Loop := []
  /-- Logical engines whose outputs stay blocked after a refused move (R180). -/
  leBlocked : List Nat := []
  /-- The logical engine whose slots LE8 is taking over, and whether LE8 has loaded them (R177). -/
  leMoving : Option Nat := none
  leLoaded : Bool := false
  /-- LE8 has failed since the last reset (R180). -/
  le8Bad : Bool := false
  /-- The trace buffer, oldest first (R572), the records since the trigger, those lost since the last trace frame, and
  whether a trigger marker awaits export. -/
  trace : List TraceRec := []
  tracePost : Nat := 0
  traceLost : Nat := 0
  /-- The tractor (0) and the battery (1) as sources of the link. -/
  feeds : Tab FeedSource := []
  /-- The drivers CTR0 to CTR3. -/
  ctrs : Tab Ctr := []
  /-- The DC link. -/
  link : Link := {}
  /-- The grid port. -/
  grid : Grid := {}
  /-- DCA (0) and DCB (1). -/
  dabs : Tab Dab := []
  /-- The peers of the inputs: 0 tractor limits, 1 to 4 the GNSS inputs of R334, 5 the Task Controller (R399). -/
  peers : Tab InputPeer := []
  /-- HN nodes whose comparator is tripped or whose 5 µs hold has not ended (R272). -/
  ocHold : List Nat := []
  /-- Gate groups under off-state test, those among them tested after a DRIVE_EN rise, and the domains tested since the
  reset, by their number in `2010:s` (R279, R281). -/
  testing : List Nat := []
  riseTests : List Nat := []
  tested : List Nat := []
  /-- WALL at which DRIVE_EN fell (R279). -/
  driveLow : Nat := 0
  /-- Half-bridges 1 to 28. -/
  hbs : Tab HalfBridge := []
  /-- The LV groups ST0 to ST3 (0 to 3) and BL0 to BL3 (4 to 7). -/
  lvs : Tab LvGroup := []
  /-- BL0 to BL3. -/
  bldcs : Tab Bldc := []
  /-- VLV stands above VLV_OV, and a current limit of R290 or R291 binds. -/
  vlvHigh : Bool := false
  lvLimit : Bool := false
  /-- Axes 0 to 3. -/
  axes : Tab Axis := []
  /-- Coordinated groups 1 and 2, numbered 0 and 1. -/
  moves : Tab MoveGroup := []
  /-- The gearbox interlocks. -/
  shift : Shift := {}
  /-- The ground engine. -/
  ge : Ge := {}
  /-- Rows 1 to 128. -/
  rows : Tab RowSt := []
  /-- Nodes 1 to 128. -/
  nodes : Tab NodeSt := []
  /-- Chains 0 to 3. -/
  chains : Tab ChainSt := []
  /-- The mailbox of `9110`. -/
  mbx : Mailbox := {}
  /-- Engines whose heartbeat is missing, by their initiator code (R21, R517). -/
  dead : List Nat := []
  /-- Sessions 1 to 8. -/
  sessions : Tab Session := []
  /-- The wrong TAGs of the last 60 s as path, source and WALL, and the sources barred after them (R395). -/
  wrongTags : List (Nat × Nat × Nat) := []
  barred : List (Nat × Nat) := []
  /-- CAN controllers in bus-off, CANA 0 and CANB 1, the WALLs of their bus-offs within 10 s, and those whose recovery a third
  one has delayed (R387). -/
  busOff : List Nat := []
  busOffAt : List (Nat × Nat) := []
  busSlow : List Nat := []
  /-- The address claim (R398): 0 none, 1 the 250 ms after a claim, 2 held, 3 cannot claim; its address, and whether it is the
  last try. -/
  claim : Nat := 0
  claimAddr : Nat := 254
  claimLast : Bool := false
  /-- The last answer sent on ETH below UDP: 1 ARP or 2 ICMP echo, and its payload (R385). -/
  ethSent : Option (Nat × Bytes) := none
  /-- Notification maps, the notifications that wait, oldest first, and the WALL of the last overflow shown (R408, R409). -/
  notes : Tab Note := []
  pool : List NoteMsg := []
  poolShown : Option Nat := none
  /-- Courier groups 0 to 31. -/
  couriers : Tab Courier := []
  /-- SP0 to SP2. -/
  sps : Tab SpPort := []
  /-- The protected memories 1 to 11, and the region M records that wait to be stored (R462, R463). -/
  mems : Tab MemInst := []
  mRecords : List Nat := []
  /-- The fuse array and what the E960 took from it. -/
  fuse : Fuse := {}
  /-- Image slots A (0) and B (1), and the update in progress; slot A holds a confirmed image (log entry 43). -/
  slotsAB : Tab ImgSlot := [(0, { written := true, seq := 1, commit := true, tried := true, confirmed := true, signed := true, prod := true })]
  update : ImgUpdate := {}
  /-- The last flash line fetched with its address (R449), the nonces of erased 64 KiB sectors, and the flash commands whose end
  matters: 1 the copy of a save to the expansion device (R451), 2 any other. -/
  line : Option (Nat × Bytes) := none
  nonces : Tab Nat := []
  flashJobs : List Nat := []
  /-- Power, reset and shutdown. -/
  power : Power := {}
  /-- What flash keeps. -/
  kept : Kept := {}
  /-- The level of nFAULT that the supervisor pair evaluated or a session wrote, whether it has evaluated since the reset, and a
  pulse in progress (R430). -/
  nfLevel : Bool := true
  nfSeen : Bool := false
  nfPulse : Bool := false
  /-- HV links that are lost, their bad frames in a row, their bad frames since the reset, and the last monitor frame of each
  node (R34, R35). -/
  hnLost : List Nat := []
  hnBad : Tab Nat := []
  hnCount : Tab Nat := []
  monitor : Tab (List Int) := []
  /-- The comparisons in a row in which a spare and a converter differ, group * 8 + converter (R31). -/
  sar : Tab Nat := []
  /-- Temperature sensors 1 to 114, and the die. -/
  sensors : Tab Sensor := []
  die : Die := {}
  /-- Throttled operations that pause (R542): 1 to 11 the scrubbers, 12 trace export, 13 flash commands, 14 the retry of R325, 15
  to 18 the re-catch of BL0 to BL3. -/
  pauses : List Nat := []
  /-- Command slots whose CRC is still to be inverted, as node and number (R530). -/
  crcInject : Option (Nat × Nat) := none
  /-- Sensor supplies in their current limit or off, by bit (R584). -/
  limited : List Nat := []
  /-- The last frame sent on J9, header to CRC (R565). -/
  j9 : Bytes := []
  /-- The last response sent as a unit, empty where the last unit had none (R389, R390). -/
  reply : Bytes := []
  /-- The host SPI port. -/
  hsp : Hsp := {}
deriving DecidableEq, Repr

/-- The state: the queue of waiting commands, first in first out, and the E960. -/
structure State where
  pending : List Instr
  dev : Dev
deriving DecidableEq, Repr

/-- The fuse words of a part as it is shipped: the headers of region V and of the K vendor part with the words they declare at 0,
life-cycle step 1, INTEGRATOR (R9), the locks that step needs (R493), and the three journal records of the manufacture (R474, and
the example under R484).  What the declared words hold the spec does not say (log entry 13). -/
def shippedFuses : Tab Nat :=
  let step (n : Nat) : Nat := 5 * 2 ^ 60 + 2 ^ 56 + n * 2 ^ 48
  let entry (event info : Nat) : Nat := 7 * 2 ^ 60 + 2 ^ 56 + event * 2 ^ 48 + info * 2 ^ 40
  [(0, 4 * 2 ^ 60 + 2 ^ 56 + 1 * 2 ^ 40 + 0x6522DF69), (128, 4 * 2 ^ 60 + 2 ^ 56 + 16 * 2 ^ 40 + 0xC2A8FA9D),
    (512, step 0), (520, step 8), (521, step 9), (640, entry 1 3), (641, entry 1 4), (642, entry 3 1)]

/-- The machine right after reset: no command waits, every object reads as its default and every hidden state has the
value its structure names (R553, R554, R556); the reset counts in RESETS, and nFAULT is asserted after cause 1. -/
def State.reset : State := { pending := [], dev := { obj := [(0x200007, 1), (0x231005, 1)], fuse := { array := shippedFuses, shadow := shippedFuses } } }

end Sys2Proof.Machine
end

