-- ==== Sys2Proof/Machine/Ops.lean ====
section
/-! DEFINITION. The named operations over the state that every family uses: sparse tables, object values and their
defaults, blocks, counters, and the events handed to the sorting office. -/

namespace Sys2Proof

/-- The number `s` of a domain in `2010:s` (R427). -/
def Domain.num : Domain → Nat
  | .sys => 1 | .tra => 2 | .trb => 3 | .grd => 4 | .dca => 5 | .dcb => 6 | .lnk => 7 | .act => 8 | .bom => 9

/-- All domains, in the order of `2010:s`. -/
def Domain.all : List Domain := [.sys, .tra, .trb, .grd, .dca, .dcb, .lnk, .act, .bom]

/-- `x` put before the first element it does not exceed. -/
def insertBy {α : Type} (le : α → α → Bool) (x : α) : List α → List α
  | [] => [x]
  | y :: t => if le x y then x :: y :: t else y :: insertBy le x t

/-- A list sorted by `le`, equal elements in their order. -/
def sortBy {α : Type} (le : α → α → Bool) : List α → List α
  | [] => []
  | x :: t => insertBy le x (sortBy le t)

end Sys2Proof

namespace Sys2Proof.Machine

/-! ### Sparse tables -/

/-- The entry of key `k`, or `d` where none is listed. -/
def Tab.get {α : Type} (d : α) : Tab α → Nat → α
  | [], _ => d
  | (k', v) :: t, k => if k' = k then v else Tab.get d t k

/-- The table without key `k`. -/
def Tab.del {α : Type} : Tab α → Nat → Tab α
  | [], _ => []
  | (k', v) :: t, k => if k' = k then Tab.del t k else (k', v) :: Tab.del t k

/-- The table with `v` at key `k`, in its place. -/
def Tab.put {α : Type} : Tab α → Nat → α → Tab α
  | [], k, v => [(k, v)]
  | (k', v') :: t, k, v =>
    if k' = k then (k, v) :: t else if k < k' then (k, v) :: (k', v') :: t else (k', v') :: Tab.put t k v

/-- The table with `v` at key `k`; the entry goes when `v` is what an unlisted key reads as. -/
def Tab.set {α : Type} [DecidableEq α] (d : α) (t : Tab α) (k : Nat) (v : α) : Tab α :=
  if v = d then Tab.del t k else Tab.put t k v

/-- The table with the entry of `k` changed by `f`. -/
def Tab.upd {α : Type} [DecidableEq α] (d : α) (t : Tab α) (k : Nat) (f : α → α) : Tab α :=
  Tab.set d t k (f (Tab.get d t k))

/-- The keys rise strictly. -/
def Tab.sorted {α : Type} : Tab α → Bool
  | [] => true
  | [_] => true
  | (k, _) :: (k', v') :: t => decide (k < k') && Tab.sorted ((k', v') :: t)

/-- Canonical: keys rise strictly, and no entry equals what an unlisted key reads as. -/
def Tab.wf {α : Type} [DecidableEq α] (dflt : Nat → α) (t : Tab α) : Bool := Tab.sorted t && t.all (fun e => decide (e.2 ≠ dflt e.1))

/-! ### The object dictionary -/

/-- Index of an object key. -/
def keyIdx (k : Nat) : Nat := k / 256

/-- Subindex of an object key. -/
def keySub (k : Nat) : Nat := k % 256

/-- Whether a row of the dictionary holds the object of index `i` and subindex `s`. -/
def defCovers (i s : Nat) (r : ObjDef) : Bool :=
  let bi := r.base / 256
  let bs := r.base % 256
  decide (bi ≤ i) && decide ((i - bi) % r.stride = 0) && decide ((i - bi) / r.stride < r.n) &&
    decide (bs ≤ s) && decide (s < bs + r.m)

/-- The row of an object, by index and subindex (R411, R412). -/
def findDef (k : Nat) : Option ObjDef := (Dict.page (k / 65536)).find? (defCovers (keyIdx k) (keySub k))

/-- The rows of index `i`. -/
def rowsOf (i : Nat) : List ObjDef :=
  (Dict.page (i / 256)).filter (fun r =>
    let b := r.base / 256
    decide (b ≤ i) && decide ((i - b) % r.stride = 0) && decide ((i - b) / r.stride < r.n))

/-- The highest subindex of index `i`. -/
def highestSub (i : Nat) : Nat := (rowsOf i).foldl (fun m r => max m (r.base % 256 + r.m - 1)) 0

/-- Whether key `k` is subindex 0 of a record or array, which reads the highest subindex. -/
def isCountKey (k : Nat) : Bool := keySub k == 0 && (findDef k).isNone && !(rowsOf (keyIdx k)).isEmpty

/-- The default gate-channel group and position of channel `n` (R259), group * 8 + position. -/
def defaultChannel (n : Nat) : Nat :=
  if n ≤ 6 then 8 + n else if n ≤ 12 then 16 + (n - 6) else if n ≤ 18 then 24 + (n - 12)
  else if n ≤ 22 then 32 + (n - 18) else if n ≤ 26 then 40 + (n - 22) else if n ≤ 30 then 48 + (n - 26)
  else if n ≤ 34 then 56 + (n - 30) else if n ≤ 36 then 64 + 1 else 1

/-- The default of an object: its row's, but for the rows whose tables list a default per unit (R58, R182, R259, R369,
R420). -/
def dflt (k : Nat) : Int :=
  match Dict.defaultExceptions.find? (fun e => e.1 = k) with
  | some e => e.2
  | none =>
    if keyIdx k = 0x6000 then ((defaultChannel (keySub k) / 8 : Nat) : Int)
    else if keyIdx k = 0x6001 then ((defaultChannel (keySub k) % 8 : Nat) : Int)
    else if keyIdx k = 0x9100 then ((keySub k : Nat) : Int)
    else if keyIdx k = 0xA000 ∧ keySub k ≤ 8 then ((keySub k - 1 : Nat) : Int)
    else if keyIdx k / 256 = 0xF0 ∧ keySub k = 7 then ((416 + keyIdx k % 256 : Nat) : Int)
    else match findDef k with
      | some r => r.dflt
      | none => 0

/-- The key of the same object `u` indices further on: unit `u` of a record that repeats per unit (R411). -/
def at' (k u : Nat) : Nat := k + 256 * u

/-- The key of element `n` (from 1) of an array (R411). -/
def el (k n : Nat) : Nat := k + n - 1

/-- The number of a traction machine: 0 for A, 1 for B. -/
def mnum : Mach → Nat
  | .A => 0
  | .B => 1

/-- The key of a traction object for machine `m`: TRB's objects lie `0x800` indices above TRA's (R36). -/
def tk (m : Mach) (k : Nat) : Nat := k + 0x80000 * mnum m

/-- The number of a bus converter: 0 DCA, 1 DCB. -/
def cnum : Conv → Nat
  | .dca => 0
  | .dcb => 1

/-- The key of a converter object: DCB's objects lie `0x100` indices above DCA's (R243). -/
def ck (c : Conv) (k : Nat) : Nat := k + 0x10000 * cnum c

/-- The domain of a traction machine. -/
def mdom : Mach → Domain
  | .A => .tra
  | .B => .trb

/-- The domain of a converter. -/
def cdom : Conv → Domain
  | .dca => .dca
  | .dcb => .dcb

/-- The value of object `k` as its owner holds it. -/
def Dev.o (d : Dev) (k : Nat) : Int := Tab.get (dflt k) d.obj k

/-- The same as a natural number; a negative value reads 0. -/
def Dev.n (d : Dev) (k : Nat) : Nat := (d.o k).toNat

/-- The same as a truth value. -/
def Dev.b (d : Dev) (k : Nat) : Bool := d.o k != 0

/-- Object `k` set to `v`. -/
def Dev.setO (d : Dev) (k : Nat) (v : Int) : Dev := { d with obj := Tab.set (dflt k) d.obj k v }

/-- Object `k` set to a truth value. -/
def Dev.setB (d : Dev) (k : Nat) (b : Bool) : Dev := d.setO k (b2i b)

/-- A count of object `k` advanced by `n`, saturating at U32 (R16). -/
def Dev.addSat (d : Dev) (k : Nat) (n : Nat := 1) : Dev := d.setO k (satU32 (d.o k + n))

/-- A count of object `k` advanced by `n`, wrapping at U32. -/
def Dev.addWrap (d : Dev) (k : Nat) (n : Nat := 1) : Dev := d.setO k (wrapU32 (d.o k + n))

/-- A bit of object `k` set or cleared. -/
def Dev.setBit (d : Dev) (k i : Nat) (b : Bool) : Dev := d.setO k (putBit (d.o k) i b)

/-- The blocks that are not empty by default (R87, R420, R546, R570, R96); the strings of region V are the model's choice (log entry
41). -/
def blkDflt (k : Nat) : Bytes :=
  if k = Obj.EDGE_ANGLE ∨ k = Obj.EDGE_ANGLE + 256 then
    [0, 0, 171, 42, 85, 85, 0, 128, 171, 170, 85, 213]
  else if keyIdx k / 256 = 0xF0 ∧ keySub k = 2 then List.replicate 16 0
  else if k = Obj.EVENT_MASK then List.replicate 32 0
  else if k = Obj.SAR_RETIRED then [255, 255, 255]
  else if k = Obj.ACCEL_3460 then List.replicate 12 0
  else if k = Obj.ORDERING_CODE then [83, 72, 69, 57, 54, 48, 45, 88, 49]
  else if k = Obj.HW_ISSUE then [65]
  else []

/-- The bytes of block object `k`. -/
def Dev.block (d : Dev) (k : Nat) : Bytes := Tab.get (blkDflt k) d.blk k

/-- Block object `k` set to `v`. -/
def Dev.setBlk (d : Dev) (k : Nat) (v : Bytes) : Dev := { d with blk := Tab.set (blkDflt k) d.blk k v }

/-- `f` where the condition holds. -/
def Dev.when (c : Bool) (f : Dev → Dev) (d : Dev) : Dev := if c then f d else d

/-- One free value: the value the spec leaves open, fresh at each use (log entry 2). -/
def Dev.tickFree (d : Dev) : Dev := { d with free := d.free + 1 }

/-! ### Marked words (R453 to R456) -/

/-- The protected memory `i` (R452). -/
def Dev.memOf (d : Dev) (i : Nat) : MemInst := Tab.get {} d.mems i

/-- The protected memory `i` changed. -/
def Dev.updMem (d : Dev) (i : Nat) (f : MemInst → MemInst) : Dev := { d with mems := Tab.upd {} d.mems i f }

/-- Whether word `w` of memory `i` carries the dead-letter mark. -/
def Dev.marked (d : Dev) (i w : Nat) : Bool := (Tab.get {} (d.memOf i).words w).poison

/-- The marked words of memory `i` from `lo`, `n` words on. -/
def Dev.markedIn (d : Dev) (i lo n : Nat) : List Nat :=
  (d.memOf i).words.filterMap (fun e => if e.2.poison && decide (lo ≤ e.1) && decide (e.1 < lo + n) then some e.1 else none)

/-- The words from `lo`, `n` words on, are written whole: their marks go, except permanent ones (R456, R464). -/
def Dev.clearMarks (d : Dev) (i lo n : Nat) : Dev :=
  d.updMem i (fun m => { m with words := m.words.filter (fun e => e.2.perm || decide (e.1 < lo) || decide (lo + n ≤ e.1)) })

/-- The first words of the coverage map, the prescription grids and the boundaries in system SRAM (R453). -/
def gridBase : Nat := 0x400000 / 4
def boundaryBase : Nat := 0x500000 / 4

/-- The words of a block of `n` bytes. -/
def wordsOf (n : Nat) : Nat := (n + 3) / 4

/-! ### Throttling and derating (R542, R545) -/

/-- The pause of the band in force, whose TB2 object is `k`; 0 outside TB2 and TB3 (R542). -/
def Dev.pauseLen (d : Dev) (k : Nat) : Nat := if d.n Obj.BAND = 2 then d.n k else if d.n Obj.BAND = 3 then d.n (k + 1) else 0

/-- Throttled operation `op` pauses after its step (R542). -/
def Dev.pauseStart (d : Dev) (op k : Nat) : Dev :=
  if d.pauseLen k = 0 ∨ d.pauses.contains op then d else { d with pauses := op :: d.pauses }

/-- The NTC inputs 1 to 8 that name domain `dom` and satisfy `p` (R536, R544). -/
def Dev.ntcOf (d : Dev) (dom : Nat) (p : Sensor → Bool) : List Nat :=
  [1, 2, 3, 4, 5, 6, 7, 8].filter (fun n => d.n (at' Obj.NTC_DOMAIN (n - 1)) == dom && p (Tab.get {} d.sensors (66 + n)))

/-- Whether a derate of domain `dom` is in force (R545). -/
def Dev.derated (d : Dev) (dom : Domain) : Bool := !(d.ntcOf dom.num (fun s => s.hot)).isEmpty

/-- A request under the lowest DERATE_CAP in force (R545). -/
def Dev.derate (d : Dev) (dom : Domain) (x : Nat) : Nat :=
  (d.ntcOf dom.num (fun s => s.hot)).foldl (fun x n => min x (d.n (at' Obj.DERATE_CAP (n - 1)))) x

/-! ### Events -/

/-- An ascending list with `n` in it once. -/
def insertOnce (n : Nat) : List Nat → List Nat
  | [] => [n]
  | m :: t => if n = m then m :: t else if n < m then n :: m :: t else m :: insertOnce n t

/-- A byte of a block object as a bit list's bit `i`. -/
def Dev.maskBit (d : Dev) (k i : Nat) : Bool := ((d.block k).drop (i / 8)).headD 0 / 2 ^ (i % 8) % 2 == 1

/-- The record positions of the trace buffer: 32,768 less those that hold a permanently poisoned word (R465, R572). -/
def Dev.traceCap (d : Dev) : Nat :=
  32768 - (((d.memOf 11).words.filter (fun e => e.2.perm)).foldl (fun l e => insertOnce (e.1 / 4) l) []).length

/-- A record written into the trace buffer while it runs: the ring overwrites its oldest record, which counts as lost in
MODE 0; after the trigger, POST_RECORDS records are taken (R572 to R574). -/
def Dev.traceAdd (d : Dev) (source kind tag : Nat) (value : Int) (poison : Bool := false) : Dev :=
  let st := d.n Obj.TRACE_STATE
  if !(st == 1 || (st == 2 && decide (d.tracePost < d.n Obj.POST_RECORDS))) then d
  else
    let full := decide (d.traceCap ≤ d.trace.length)
    let live := d.o Obj.MODE_C000 == 0
    let r : TraceRec := { wall := d.wall, source := source, poison := poison, kind := kind, tag := tag, value := value }
    let d1 := { d with
      trace := (if full then d.trace.drop 1 else d.trace) ++ [r]
      tracePost := if st == 2 then d.tracePost + 1 else d.tracePost
      traceLost := if full && live then min 65535 (d.traceLost + 1) else d.traceLost }
    (d1.addWrap Obj.RECORDS_WRITTEN).when (full && live) (fun d => d.addSat Obj.RECORDS_LOST)

/-- The initiator that raises an event, by its block (R44, R517). -/
def eventSource (e : Nat) : Nat :=
  if e < 0x20 then 0x01 else if e < 0x40 then 0x20 else if e < 0x60 then 0x21 else if e < 0x80 then 0x22
  else if e < 0x90 then 0x01 else if e < 0xB0 then 0x23 else if e < 0xD0 then 0x28 else if e < 0xE0 then 0x02
  else if e < 0xF0 then 0x60 else 0x01

/-- An event raised to the sorting office in the present tick: it is delivered after earlier ticks and, within the
tick, in ascending number, once (R507); EVENT_MASK has it recorded (R570). -/
def Dev.event (d : Dev) (e : Nat) : Dev :=
  ({ d with evq := insertOnce (d.wall * 256 + e) d.evq }).when (d.maskBit Obj.EVENT_MASK e)
    (fun d => d.traceAdd (eventSource e) 2 e 0)

/-- `n` marked values consumed (R466). -/
def Dev.consumed (d : Dev) (n : Nat := 1) : Dev := if n = 0 then d else (d.addSat Obj.POISON_CONSUMED n).event 0xE3

end Sys2Proof.Machine
end

