-- ==== Sys2Proof/Machine/Operands.lean ====
section
/-! DEFINITION. Operand forms and the arithmetic that several families share: fixed-point sine, square root,
rounding, the checks CRC-32 and CRC-16, and the fields of byte blocks. -/

namespace Sys2Proof.Machine

/-! ### Arithmetic -/

/-- One step of the bitwise square root: the largest `r` with `r * r ≤ n`, from bit `i` down. -/
def isqrtAux (n : Nat) : Nat → Nat → Nat
  | 0, r => if (r + 1) * (r + 1) ≤ n then r + 1 else r
  | i + 1, r => isqrtAux n i (if (r + 2 ^ (i + 1)) * (r + 2 ^ (i + 1)) ≤ n then r + 2 ^ (i + 1) else r)

/-- The whole part of the square root. -/
def isqrt (n : Nat) : Nat := isqrtAux n (n.log2 / 2 + 1) 0

/-- `a / b` rounded to the nearest whole number, halves away from zero; `b` above 0. -/
def roundDiv (a : Int) (b : Nat) : Int :=
  if 0 ≤ a then (2 * a + b) / (2 * b) else -((2 * (-a) + b) / (2 * b))

/-- `a / b` rounded towards zero. -/
def truncDiv (a b : Int) : Int := Int.tdiv a b

/-- 2^30 times pi, rounded down. -/
def pi30 : Nat := 3373259426

/-- The sine series of an angle `x` (2^30 radians, at most pi / 2), from the innermost term of the first eight out. -/
def sinSeries (x : Int) : Int :=
  let x2 := x * x / 2 ^ 30
  let t (c : Int) (acc : Int) : Int := 2 ^ 30 - x2 * acc / 2 ^ 30 / c
  x * t 6 (t 20 (t 42 (t 72 (t 110 (t 156 (t 210 (2 ^ 30))))))) / 2 ^ 30

/-- 2^30 times the sine of an angle in 1/65,536 turn, rounded down (log entry 3). -/
def sin30 (a : Int) : Int :=
  let a := a % 65536
  let q (y : Int) : Int := sinSeries (y * pi30 / 32768)
  if a ≤ 16384 then q a else if a ≤ 32768 then q (32768 - a) else if a ≤ 49152 then -(q (a - 32768)) else -(q (65536 - a))

/-- 2^30 times the cosine of an angle in 1/65,536 turn. -/
def cos30 (a : Int) : Int := sin30 (a + 16384)

/-! ### Checks -/

/-- One bit of the reflected CRC-32 of R126. -/
def crc32Bit (c : Nat) : Nat := if c % 2 = 1 then Nat.xor (c / 2) 0xEDB88320 else c / 2

/-- The CRC-32 register over bytes (R126). -/
def crc32Reg : Nat → Bytes → Nat
  | c, [] => c
  | c, b :: t =>
    let x := Nat.xor c (b % 256)
    crc32Reg (crc32Bit (crc32Bit (crc32Bit (crc32Bit (crc32Bit (crc32Bit (crc32Bit (crc32Bit x)))))))) t

/-- CRC-32, polynomial 0x04C11DB7 reflected, initial value and final exclusive-or 0xFFFFFFFF (R126). -/
def crc32 (bs : Bytes) : Nat := Nat.xor (crc32Reg 0xFFFFFFFF bs) 0xFFFFFFFF

/-- One bit of a CRC-16 with polynomial 0x1021. -/
def crc16Bit (c : Nat) : Nat := if 32768 ≤ c then Nat.xor (2 * c % 65536) 0x1021 else 2 * c

/-- CRC-16, polynomial 0x1021, from register `c`. -/
def crc16Reg : Nat → Bytes → Nat
  | c, [] => c
  | c, b :: t =>
    let x := Nat.xor c (b % 256 * 256)
    crc16Reg (crc16Bit (crc16Bit (crc16Bit (crc16Bit (crc16Bit (crc16Bit (crc16Bit (crc16Bit x)))))))) t

/-- Whether the last four bytes of a block hold the CRC-32 of the rest. -/
def crcOk (b : Bytes) : Bool :=
  decide (4 ≤ b.length) && decide (ofLe (b.drop (b.length - 4)) = crc32 (b.take (b.length - 4)))

/-! ### Fields of blocks -/

/-- Byte `i` of a block. -/
def byteAt (b : Bytes) (i : Nat) : Nat := (b.drop i).headD 0

/-- The U16 at offset `i`. -/
def u16At (b : Bytes) (i : Nat) : Nat := ofLe ((b.drop i).take 2)

/-- The U32 at offset `i`. -/
def u32At (b : Bytes) (i : Nat) : Nat := ofLe ((b.drop i).take 4)

/-- The I32 at offset `i`. -/
def i32At (b : Bytes) (i : Nat) : Int := signedMod 32 (u32At b i)

/-- `n` U16 values from offset `i`. -/
def u16s (b : Bytes) (i : Nat) : Nat → List Nat
  | 0 => []
  | n + 1 => u16At b i :: u16s b (i + 2) n

/-- Whether a list rises strictly. -/
def rising : List Nat → Bool
  | [] => true
  | [_] => true
  | a :: b :: t => decide (a < b) && rising (b :: t)

/-- Whether every byte of a part of a block is 0 (reserved bytes, R18). -/
def zeros (b : Bytes) (i n : Nat) : Bool := ((b.drop i).take n).all (· == 0)

end Sys2Proof.Machine
end

