-- ==== Sys2Proof/Machine/Safe.lean ====
section
/-! DEFINITION. The safe state of each domain (R513): what a Domain-stop and what a Safe-state or Lockout does to it. -/

namespace Sys2Proof.Machine

/-! ### Traction (R150 to R152) -/

/-- The hidden state of a traction domain. -/
def Dev.tracOf (d : Dev) (m : Mach) : Trac := Tab.get {} d.trac (mnum m)

/-- The hidden state of a traction domain changed. -/
def Dev.updTrac (d : Dev) (m : Mach) (f : Trac → Trac) : Dev := { d with trac := Tab.upd {} d.trac (mnum m) f }

/-- The assignment of channel `n` in force, group * 8 + position (R259, R261). -/
def Dev.assignment (d : Dev) (n : Nat) : Nat :=
  let g : Gate := Tab.get {} d.gates n
  if g.inForce = 0 then defaultChannel n else g.inForce - 1

/-- The channels of a group, in ascending number. -/
def Dev.groupChannels (d : Dev) (g : Nat) : List Nat :=
  ((List.range 40).map (· + 1)).filter (fun n => d.assignment n / 8 == g)

/-- Whether a channel holds a latch: STATUS bits 1 to 4 (R260). -/
def Dev.latched (d : Dev) (n : Nat) : Bool := bitsOf (d.o (el Obj.STATUS_6020 n)) 4 1 != 0

/-- The group of a traction bridge (R259). -/
def tracGroup (m : Mach) : Nat := 1 + mnum m

/-- Whether a switch of the bridge's high (odd positions) or low side is latched off. -/
def Dev.sideLatched (d : Dev) (g : Nat) (high : Bool) : Bool :=
  (d.groupChannels g).any (fun n => d.latched n && decide ((d.assignment n % 8) % 2 = if high then 1 else 0))

/-- BRIDGE_STATE for ASC on the group R152 gives: 3 low side, 4 high side, 5 all off. -/
def Dev.ascState (d : Dev) (m : Mach) : Nat :=
  let lo := d.sideLatched (tracGroup m) false
  let hi := d.sideLatched (tracGroup m) true
  if lo && hi then 5 else if lo then 4 else if hi then 3
  else if d.b (tk m Obj.ASC_GROUP) then 4 else 3

/-- Whether the bridge is in ASC or all off after faults in both groups. -/
def Dev.inAsc (d : Dev) (m : Mach) : Bool := decide (3 ≤ d.n (tk m Obj.BRIDGE_STATE))

/-- What stops with modulation: the torque command, the ramp, the request, the trim and the reconstruction (R117, R142,
R151). -/
def Dev.tracIdle (d : Dev) (m : Mach) : Dev :=
  ((((((((((d.setO (at' Obj.ENABLE_A100 (16 * mnum m)) 0).setO (at' Obj.ENABLE_A100 (16 * mnum m + 1)) 0).setO (tk m Obj.TORQUE_CMD) 0).setO (tk m Obj.DBETA) 0).setO (tk m Obj.M_PRESENT) 0).setO
    (tk m Obj.OM_ZONE) 0).setO (tk m Obj.V_D) 0).setO (tk m Obj.V_Q) 0).setO (tk m Obj.RUN_4240) 0).setO
    (tk m Obj.ACTIVE_PATTERN) 0).updTrac m (fun t => { t with
      windows := [], predRun := 0, plausRun := 0, ramp := 0, rampVal := 0, reqDraw := 0, reqFeed := 0, holdHigh := 0,
      stopWaits := false, offWaits := false, holdWaits := false, limD := 0, limQ := 0, nextMode := 0, fwAtMax := false, probing := false,
      duties := [0, 0, 0], rests := [0, 0, 0], shifts := [0, 0, 0], edges := [], reqs := [] })

/-- Pulses off (R149, R150). -/
def Dev.pulsesOff (d : Dev) (m : Mach) : Dev := (d.tracIdle m).setO (tk m Obj.BRIDGE_STATE) 0

/-- ASC entered, or moved to the group that R152 gives when it is in force already (R151, R152). -/
def Dev.ascEnter (d : Dev) (m : Mach) (cause : Nat) : Dev :=
  let st := d.ascState m
  let d1 := (d.tracIdle m).setO (tk m Obj.BRIDGE_STATE) st
  let d2 := if d.inAsc m then d1
    else (((d1.setO (tk m Obj.ASC_CAUSE) cause).addSat (tk m Obj.ASC_ENTRIES)).event (0x24 + 0x20 * mnum m)).updTrac m
      (fun t => { t with ascAt := if d.ocTrips.contains (mnum m) then some d.wall else none })
  d2.when (decide (st = 5)) (fun d => { d with openRequest := true })

/-- The Domain-stop of a traction domain: RUN reads 0, and at the next boundary the bridge takes ASC or pulses off by
ABOVE_ASC (R150, R151). -/
def Dev.tracStop (d : Dev) (m : Mach) : Dev :=
  (d.setO (tk m Obj.RUN_4240) 0).updTrac m (fun t => { t with stopWaits := true })

/-! ### Contactors and link (R194 to R204) -/

/-- The hidden state of driver `n`. -/
def Dev.ctrOf (d : Dev) (n : Nat) : Ctr := Tab.get {} d.ctrs n

/-- The hidden state of driver `n` changed. -/
def Dev.updCtr (d : Dev) (n : Nat) (f : Ctr → Ctr) : Dev := { d with ctrs := Tab.upd {} d.ctrs n f }

/-- The hidden state of the link changed. -/
def Dev.updLink (d : Dev) (f : Link → Link) : Dev := { d with link := f d.link }

/-- The driver whose ROLE is `role`. -/
def Dev.driver (d : Dev) (role : Nat) : Option Nat := [0, 1, 2, 3].find? (fun n => d.n (at' Obj.ROLE_5810 n) == role)

/-- The driver of a source's main contactor (0 tractor, 1 battery). -/
def Dev.mainOf (d : Dev) (src : Nat) : Option Nat := d.driver (1 + 2 * src)

/-- The driver of a source's precharge contactor. -/
def Dev.preOf (d : Dev) (src : Nat) : Option Nat := d.driver (2 + 2 * src)

/-- Whether a source's main is closed and confirmed (R188). -/
def Dev.mainClosed (d : Dev) (src : Nat) : Bool :=
  match d.mainOf src with
  | some n => d.n (at' Obj.STATE_5810 n) == 2
  | none => false

/-- A driver turns on: full drive, and STATE reads closing (R194). -/
def Dev.coilOn (d : Dev) (n : Nat) : Dev :=
  ((d.updCtr n (fun c => { c with on := true, duty := 100 })).setO (at' Obj.STATE_5810 n) 1).addSat (at' Obj.CYCLES_5810 n)

/-- A driver turns off; STATE reads opening until the feedback confirms it (R194, R195). -/
def Dev.coilOff (d : Dev) (n : Nat) : Dev :=
  if (d.ctrOf n).on then
    (d.updCtr n (fun c => { c with on := false, duty := 0 })).setO (at' Obj.STATE_5810 n) 3
  else d

/-- `coilOff` where there is such a driver. -/
def Dev.coilOff? (d : Dev) (n : Option Nat) : Dev :=
  match n with
  | some n => d.coilOff n
  | none => d

/-- The gate channel assigned as precharge switch (R200, R259). -/
def Dev.preSwitch (d : Dev) : Option Nat := (d.groupChannels 9).head?

/-- The precharge switch commanded on or off: STATUS bit 0 of its channel; a low DRIVE_EN or a latch keeps it off (R200,
R260, R270, R278). -/
def Dev.setPreSwitch (d : Dev) (on : Bool) : Dev :=
  match d.preSwitch with
  | some n => d.setBit (el Obj.STATUS_6020 n) 0 (on && d.b Obj.DRIVE_EN && !(d.latched n))
  | none => d

/-- Whether the chopper is faulty: its current is missing, a channel or its comparator is latched, or an NTC input of LNK stands at
NTC_TRIP (R204, R272, R544). -/
def Dev.chopFaulty (d : Dev) : Bool :=
  d.link.missing || !(d.ntcOf 7 (fun s => s.trip)).isEmpty || d.ocTrips.contains 5 || (d.groupChannels 8).any (fun n => d.latched n)

/-- CHOP_STATE (R184), faulty before hot before switching. -/
def Dev.showChopper (d : Dev) : Dev :=
  d.setO Obj.CHOP_STATE (if d.chopFaulty then 3 else if d.link.hot then 2 else if d.link.on then 1 else 0)

/-- The chopper switches while its regulation or the discharge asks for it and it is not faulty (R203, R204, R206).  Each
on and off time is at least 20 µs; a change that comes earlier waits for the next drive, but a fault turns it off at
once (R204). -/
def Dev.driveChopper (d : Dev) : Dev :=
  let on := (d.link.reg || d.link.discharge == 2) && !d.chopFaulty
  let early := match d.link.changed with
    | some t => decide (d.wall < t + 20000)
    | none => false
  if on == d.link.on || (early && !d.chopFaulty) then d.showChopper
  else
    ((d.groupChannels 8).foldl (fun d n => d.setBit (el Obj.STATUS_6020 n) 0 on) (d.updLink (fun l => { l with
      on := on, changed := some d.wall }))).showChopper

/-- Whether both mains are off with nothing opening (R203 step 1). -/
def Dev.mainsOpen (d : Dev) : Bool :=
  [0, 1].all (fun s => match d.mainOf s with
    | some n => !(d.ctrOf n).on && d.n (at' Obj.STATE_5810 n) != 3
    | none => true)

/-- The end of a discharge: PRE_STATE reads 0, or 5 after a failed precharge (R203). -/
def Dev.dischargeEnd (d : Dev) : Dev :=
  ((d.setO Obj.PRE_STATE d.link.after).updLink (fun l => { l with discharge := 0 })).driveChopper

/-- A discharge goes on with the chopper once the mains are open; a link below 60 V ends it (R203). -/
def Dev.dischargeGo (d : Dev) : Dev :=
  if d.link.discharge = 1 ∧ d.mainsOpen then
    if d.n Obj.VDC < 600 then d.dischargeEnd
    else (d.updLink (fun l => { l with discharge := 2 })).driveChopper
  else d

/-- The discharge of the link starts (R203). -/
def Dev.dischargeStart (d : Dev) : Dev :=
  if d.link.discharge ≠ 0 then d
  else
    (((d.updLink (fun l => { l with discharge := 1, after := if d.n Obj.PRE_STATE = 5 then 5 else 0 })).setO
      Obj.PRE_STATE 6)).dischargeGo

/-- A source's main is to open under R197. -/
def Dev.openSource (d : Dev) (src : Nat) : Dev :=
  match d.mainOf src with
  | some n => d.when (d.ctrOf n).on (fun d => d.updLink (fun l => { l with opening := insertOnce src l.opening }))
  | none => d

/-! ### Converters and grid port (R233, R254) -/

/-- The hidden state of a converter. -/
def Dev.dabOf (d : Dev) (c : Conv) : Dab := Tab.get {} d.dabs (cnum c)

/-- The hidden state of a converter changed. -/
def Dev.updDab (d : Dev) (c : Conv) (f : Dab → Dab) : Dev := { d with dabs := Tab.upd {} d.dabs (cnum c) f }

/-- Whether a converter switches: STATE 2 to 6. -/
def Dev.dabOn (d : Dev) (c : Conv) : Bool := [2, 3, 4, 5, 6].contains (d.n (ck c Obj.STATE_5400))

/-- The loop slots of a converter on LE4 (R245). -/
def dabLoops : Conv → List Nat
  | .dca => [64, 65, 68]
  | .dcb => [66, 67]

/-- Firmware slots enabled for a start, or disabled. -/
def Dev.enableLoops (d : Dev) (Ls : List Nat) (on : Bool) : Dev :=
  Ls.foldl (fun d L => ({ d with loops := Tab.upd {} d.loops L (fun l => if on then { l with first := true } else l) }).setB
    (at' Obj.ENABLE_A100 L) on) d

/-- All eight channels of a converter turn off, and STATE reads `st`. -/
def Dev.dabOff (d : Dev) (c : Conv) (st : Nat) : Dev :=
  (((((d.setO (ck c Obj.STATE_5400) st).setO (ck c Obj.PHI) 0).setO (ck c Obj.I_LIMIT_5400) 0).setO
    (ck c Obj.LIMIT_SRC_5400) 0).enableLoops (dabLoops c) false).updDab c
    (fun a => { a with soft := 0, reqDraw := 0, bias := 0 })

/-- The hidden state of the grid port changed. -/
def Dev.updGrid (d : Dev) (f : Grid → Grid) : Dev := { d with grid := f d.grid }

/-- The loop slots of the grid port on LE3 (R211). -/
def gridLoops : List Nat := [48, 49, 50, 51, 52]

/-- All six switches of the grid port off and S2 open; STATE reads `st` and the port stands at `step` of R224 (R225,
R233). -/
def Dev.gridOff (d : Dev) (st step : Nat) : Dev :=
  (((((d.setO Obj.STATE_5000 st).setO Obj.S2 0).setO Obj.I_LIMIT_5000 0).setO Obj.LIMIT_SRC_5000 0).enableLoops gridLoops
    false).updGrid (fun g => { g with
      step := step, stop := 0, zero := false, ramp := 0, cur := 0, held := 0, row := 0, back := 3, island := false, reqDraw := 0, reqFeed := 0, vRamp := 0, short := false })

/-- A precharge ends without success: both contactors open, and DCA leaves reverse operation (R201, R256). -/
def Dev.abortPrecharge (d : Dev) : Dev :=
  match d.link.job with
  | none => d
  | some j =>
    let d1 := (((d.updLink (fun l => { l with job := none })).coilOff? (d.preOf j.src)).when (decide (j.mode = 2))
      (fun d => d.setPreSwitch false)).when (decide (j.mode = 1) && decide (d.n Obj.STATE_5400 = 5)) (fun d => d.dabOff .dca 1)
    let d2 := if j.phase < 3 then d1.coilOff? (d1.mainOf j.src) else d1
    d2.setO Obj.PRE_STATE 0

/-- The mains open and the link discharges (R198, R203). -/
def Dev.linkShut (d : Dev) : Dev :=
  (((d.abortPrecharge).openSource 0).openSource 1).dischargeStart

/-! ### Domain-stop and safe state (R513) -/

/-- The Domain-stop of ACT: RUN of every BLDC group reads 0; MS3 ramps the groups down and stops the axes at its servo periods
(R294, R322). -/
def Dev.actStop (d : Dev) : Dev := [0, 1, 2, 3].foldl (fun d g => d.setO (at' Obj.RUN_7100 g) 0) d

/-- The Domain-stop of BOM: MASTER reads 0 and every section is off; GE and the chain engines cancel what is outstanding
(R352, R383, R513). -/
def Dev.bomStop (d : Dev) : Dev :=
  ((List.range 128).map (· + 1)).foldl (fun d n => d.setBit (el Obj.ROW_STATE n) 0 false) (d.setO Obj.MASTER 0)

/-- The Domain-stop of a domain. -/
def domainStop (dom : Domain) (d : Dev) : Dev :=
  match dom with
  | .tra => d.tracStop .A
  | .trb => d.tracStop .B
  | .grd => d.gridOff 0 0
  | .dca => (d.updDab .dca (fun a => { a with want := false })).dabOff .dca 7
  | .dcb => (d.updDab .dcb (fun a => { a with want := false })).dabOff .dcb 7
  | .lnk => d.linkShut
  | .act => d.actStop
  | .bom => d.bomStop
  | .sys => d

/-- What the safe-state holder does to every domain in a Safe-state or Lockout (R513). -/
def safeStateAll (d : Dev) : Dev :=
  let d1 := (d.ascEnter .A 1).ascEnter .B 1
  ({ ((((((d1.gridOff 0 0).dabOff .dca 7).dabOff .dcb 7).linkShut).actStop).bomStop) with openRequest := true })

end Sys2Proof.Machine
end

