-- ==== Sys2Proof/Machine/Checks.lean ====
section
/-! DEFINITION. What the service pair checks of a value before it accepts a write (R417 steps 7 and 9, R601), and the
domain that owns an object (R36, R416). -/

namespace Sys2Proof.Machine

/-! ### Owners (R36, R41, R416) -/

/-- The domain of a gate-channel group (R259). -/
def groupDomain : Nat → Option Domain
  | 1 => some .tra | 2 => some .trb | 3 => some .grd | 4 | 5 => some .dca | 6 | 7 => some .dcb | 8 | 9 => some .lnk
  | _ => none

/-- The domain of a track code's owning engine (R36, R47). -/
def trackDomain (code : Nat) : Domain :=
  if code = 0 then .sys else if code = 1 then .tra else if code = 2 then .trb else if code = 3 then .grd
  else if 8 ≤ code ∧ code < 16 then .act else .bom

/-- The machine domain that names one of these position sources in `3430` or `3431` (R416). -/
def Dev.inputDomain (d : Dev) (srcs : List Nat) : List Domain :=
  let named (m : Nat) : Bool := srcs.contains (d.n (at' Obj.PRIMARY m)) || srcs.contains (d.n (at' Obj.SECONDARY m))
  if named 0 then [.tra] else if named 1 then [.trb] else []

/-- The domain that a firmware loop slot belongs to; LE4 serves DCA in its first eight slots and DCB in the others
(R159, R245). -/
def firmwareLoopDomain (L : Nat) : Option Domain :=
  match L / 16 with
  | 0 => some .tra | 1 => some .trb | 2 => some .lnk | 3 => some .grd
  | 4 => some (if L % 16 < 8 then .dca else .dcb)
  | 5 => some .act
  | _ => none

/-- The domains R416 names for an object outside the loop engines. -/
def Dev.plainDomains (d : Dev) (k : Nat) : List Domain :=
  let i := keyIdx k
  let s := keySub k
  if 0x1000 ≤ i ∧ i < 0x2000 then [.tra, .trb, .grd, .dca, .dcb, .lnk, .act, .bom]
  else if 0x2531 ≤ i ∧ i ≤ 0x2538 then Domain.all.filter (fun x => x.num == d.n (i * 256 + 1) && x != .sys)
  else if 0x3000 ≤ i ∧ i < 0x3010 then [trackDomain (i - 0x3000)]
  else if 0x3010 ≤ i ∧ i < 0x3100 then [.bom]
  else if 0x3200 ≤ i ∧ i ≤ 0x33FF then [trackDomain (d.n (at' Obj.TRACK_3200 (i - 0x3200)))]
  else if i = 0x3400 ∨ i = 0x3401 then d.inputDomain [i - 0x3400 + 1]
  else if i = 0x3410 ∨ i = 0x3411 then d.inputDomain [i - 0x3410 + 3]
  else if i = 0x3420 ∨ i = 0x3421 then d.inputDomain [i - 0x3420 + 3, i - 0x3420 + 5]
  else if i = 0x3430 then [.tra] else if i = 0x3431 then [.trb]
  else if i = 0x3439 then [.tra, .trb, .bom]
  else if 0x3440 ≤ i ∧ i ≤ 0x3443 then [.act]
  else if 0x3450 ≤ i ∧ i ≤ 0x3460 then [.bom]
  else if i = 0x4100 then [.tra, .trb]
  else if 0x4000 ≤ i ∧ i < 0x4800 then [.tra]
  else if 0x4800 ≤ i ∧ i < 0x5000 then [.trb]
  else if 0x5000 ≤ i ∧ i < 0x5400 then [.grd]
  else if 0x5500 ≤ i ∧ i < 0x5600 then [.dcb]
  else if 0x5400 ≤ i ∧ i < 0x5800 then [.dca]
  else if 0x5800 ≤ i ∧ i < 0x6000 then [.lnk]
  else if 0x6100 ≤ i ∧ i < 0x6110 then (groupDomain (i - 0x6100)).toList
  else if 0x6000 ≤ i ∧ i < 0x7000 then (groupDomain (d.assignment s / 8)).toList
  else if 0x7000 ≤ i ∧ i < 0x8000 then [.act]
  else if 0x8000 ≤ i ∧ i < 0x9000 then [.bom]
  else []

/-- Whether `target` is the SETPOINT of a loop slot. -/
def isSetpoint (target : Nat) : Bool :=
  decide (0xA100 ≤ keyIdx target) && decide (keyIdx target < 0xA180) && decide (keySub target = 7)

/-- The domain that owns the output of loop slot `L`; a cascade follows the inner slot, at most three levels deep (R163,
R169). -/
def Dev.loopDomainN (d : Dev) : Nat → Nat → Option Domain
  | 0, _ => none
  | n + 1, L =>
    if L < 96 then firmwareLoopDomain L
    else
      let t := d.n (at' Obj.OUT_TARGET L)
      if t = 0 then none
      else if isSetpoint t then d.loopDomainN n (keyIdx t - 0xA100)
      else (d.plainDomains t).head?

/-- The domain that owns the output of a loop slot. -/
def Dev.loopDomain (d : Dev) (L : Nat) : Option Domain := d.loopDomainN 4 L

/-- The domains that must be stopped for an rws write of an object (R416). -/
def Dev.keyDomains (d : Dev) (k : Nat) : List Domain :=
  let i := keyIdx k
  if 0xA100 ≤ i ∧ i < 0xA380 then (d.loopDomain (i % 128)).toList else d.plainDomains k

/-! ### Ranges (R413, R417 step 7) -/

/-- Fixed bounds that differ per unit, or that leave out part of the row's range. -/
def extraRange (k : Nat) (v : Int) : Bool :=
  let b (x : Nat) (lo hi : Int) : Bool := k != x || (decide (lo ≤ v) && decide (v ≤ hi))
  b Obj.V_OUT_SET 4000 5800 && b (ck .dcb Obj.V_OUT_SET) 2000 3000 && b Obj.I_OUT_MAX 10 5000 &&
    b (ck .dcb Obj.I_OUT_MAX) 10 4200 && b Obj.P_OUT_MAX 1000 25000 && b (ck .dcb Obj.P_OUT_MAX) 1000 10000 &&
    b Obj.V_OUT_OV 0 6300 && b (ck .dcb Obj.V_OUT_OV) 0 3300 &&
    (!(keyIdx k == 0x3450 || keyIdx k == 0x3451 || keyIdx k == 0x3452) || keySub k != 1 || v == 0 || decide (100 ≤ v)) &&
    (!(decide (0x7200 ≤ keyIdx k) && decide (keyIdx k ≤ 0x7203)) || keySub k != 0x12 || v == 0 || decide (25600 ≤ v))

/-- A value against the bounds, the step and the choices of its row (R413, R417). -/
def inRow (r : ObjDef) (v : Int) : Bool :=
  decide (r.lo ≤ v) && decide (v ≤ r.hi) && (r.step == 0 || decide ((v - r.lo) % (r.step : Int) = 0) || decide (v % (r.step : Int) = 0)) &&
    (r.choices.isEmpty || r.choices.contains v)

/-- Whether a value lies within the fixed range of its object. -/
def inRange (k : Nat) (v : Int) : Bool :=
  match findDef k with
  | some r => inRow r v && extraRange k v
  | none => false

/-! ### Relations between objects (R417 step 9) -/

/-- I_FS as SHUNT_VALUE gives it (R109). -/
def Dev.fullScale (d : Dev) (m : Mach) : Int :=
  if d.o (tk m Obj.SHUNT_VALUE) ≤ 0 then 0 else 300000 / d.o (tk m Obj.SHUNT_VALUE)

/-- The relations of the traction machine data (R132, R133, R148, R271). -/
def Dev.tracRelations (d : Dev) (m : Mach) : Bool :=
  let o (k : Nat) : Int := d.o (tk m k)
  decide (o Obj.RATED_SPEED ≤ o Obj.MAX_SPEED_4200) && decide (o Obj.ASC_SPEED ≤ o Obj.MAX_SPEED_4200) &&
    decide (o Obj.I_MAX ≤ d.fullScale m) && decide (o Obj.TRA_OC_LEVEL ≤ d.fullScale m) &&
    decide (o Obj.MAX_SPEED_4200 * d.o (at' Obj.POLE_PAIRS_3430 (mnum m)) ≤ 120000)

/-- The inputs a source of R69 uses: 1, 2 encoders, 3, 4 incremental, 5, 6 Hall. -/
def sourceInputs : Nat → List Nat
  | 1 => [1] | 2 => [2] | 3 => [3, 5] | 4 => [4, 6] | 5 => [5] | 6 => [6] | _ => []

/-- The combinations of position sources that R70 accepts. -/
def Dev.sourceRelations (d : Dev) : Bool :=
  let p (m : Nat) := d.n (at' Obj.PRIMARY m)
  let s (m : Nat) := d.n (at' Obj.SECONDARY m)
  let own (m : Nat) : Bool := (p m != s m || p m == 0) && !(p m == 5 && s m == 3) && !(p m == 6 && s m == 4)
  let used (m : Nat) := sourceInputs (p m) ++ sourceInputs (s m)
  own 0 && own 1 && !((used 0).any (fun x => (used 1).contains x))

/-- The relations of the link and what refers to it (R184, R209, R212, R244). -/
def Dev.linkRelations (d : Dev) : Bool :=
  let vmax := d.o Obj.VDC_MAX
  decide (d.o Obj.V_UV + 10 ≤ d.o Obj.V_LOW) && decide (d.o Obj.V_LOW ≤ vmax) && decide (d.o Obj.V_UV + 50 ≤ vmax) &&
    decide (d.o Obj.CHOP_OFF + 82 ≤ d.o Obj.CHOP_ON) && decide (d.o Obj.CHOP_ON + 82 ≤ d.o Obj.STEER) &&
    decide (d.o Obj.VDC_SET + 20 ≤ vmax) && decide (d.o Obj.CARRIER_N * 105 * d.o Obj.F_NOM ≤ 5000000) &&
    decide (d.o Obj.DCA_FLOOR ≤ d.o Obj.P_OUT_MAX) && decide (d.o Obj.DCB_FLOOR ≤ d.o (ck .dcb Obj.P_OUT_MAX)) &&
    decide (d.o Obj.DCA_ABSORB_MAX ≤ d.o Obj.P_OUT_MAX)

/-- The largest power of R242 at 400 V and V_OUT_SET covers P_OUT_MAX (R244), and the relations of a converter. -/
def Dev.dabRelations (d : Dev) (c : Conv) : Bool :=
  let o (k : Nat) : Int := d.o (ck c k)
  decide (o Obj.V_OUT_SET + 200 ≤ o Obj.V_OUT_OV) &&
    decide (8 * o Obj.F_SW * o Obj.L_S * o Obj.P_OUT_MAX ≤ 400 * o Obj.TURNS_N * o Obj.V_OUT_SET * 100000)

/-- The relations of a gate channel (R260). -/
def Dev.channelRelations (d : Dev) (n : Nat) : Bool :=
  decide (d.o (el Obj.UVLO_POS n) + 15 ≤ d.o (el Obj.V_POS n)) && decide (d.o (el Obj.V_NEG n) + 5 ≤ d.o (el Obj.UVLO_NEG n))

/-- The relations of a gate group: the trip above the warning, and reference and slope as the sensor type has them
(R266). -/
def Dev.groupRelations (d : Dev) (g : Nat) : Bool :=
  let o (k : Nat) : Int := d.o (at' k g)
  decide (o Obj.TS_WARN + 50 ≤ o Obj.TS_TRIP) &&
    (match (o Obj.TS_TYPE).toNat with
      | 1 => decide (100 ≤ o Obj.TS_REF) && decide (o Obj.TS_REF ≤ 1000000) && decide (1000 ≤ o Obj.TS_SLOPE) &&
          decide (o Obj.TS_SLOPE ≤ 6000)
      | 2 => decide (300 ≤ o Obj.TS_REF) && decide (o Obj.TS_REF ≤ 900) && decide (-3000 ≤ o Obj.TS_SLOPE) &&
          decide (o Obj.TS_SLOPE ≤ -500)
      | _ => true)

/-- The relations of a BLDC group (R295). -/
def Dev.bldcRelations (d : Dev) (g : Nat) : Bool :=
  let o (k : Nat) : Int := d.o (at' k g)
  decide (4 * o Obj.MIN_SPEED ≤ o Obj.MAX_SPEED_7100) && decide (((o Obj.SPEED_SET).natAbs : Int) ≤ o Obj.MAX_SPEED_7100) &&
    decide (o Obj.ALIGN_I ≤ o Obj.I_LIMIT_7100) && decide (o Obj.RAMP_F_START < o Obj.RAMP_F_END)

/-- The relations of a stepper axis (R309). -/
def Dev.axisRelations (d : Dev) (a : Nat) : Bool :=
  let o (k : Nat) : Int := d.o (at' k a)
  decide (o Obj.I_HOLD ≤ o Obj.I_RUN) && decide (o Obj.HOME_I ≤ o Obj.I_RUN) && decide (o Obj.POS_MIN ≤ o Obj.POS_MAX) &&
    decide (o Obj.HOME_SPEED ≤ o Obj.V_MAX) && decide (o Obj.RES_TH1 < o (Obj.RES_TH1 + 1)) &&
    decide (o (Obj.RES_TH1 + 1) < o (Obj.RES_TH1 + 2)) && decide (o (Obj.RES_TH1 + 2) < o (Obj.RES_TH1 + 3)) &&
    (o Obj.ROLE_7200 == 0 || [0, 1, 2, 3].all (fun b => decide (b = a) || d.o (at' Obj.ROLE_7200 b) != o Obj.ROLE_7200))

/-- The relations of the loop slot and bank of an object (R161, R165). -/
def Dev.slotRelations (d : Dev) (i : Nat) : Bool :=
  if i < 0xA200 then decide (d.o (i * 256 + 0x0A) ≤ d.o (i * 256 + 0x0B))
  else decide (d.o (i * 256 + 7) ≤ min ((2 ^ (d.n (i * 256 + 8)) : Nat) : Int) 2147483647)

/-- Whether every relation that object `k` takes part in holds (R417 step 9). -/
def Dev.relationsHold (d : Dev) (k : Nat) : Bool :=
  let i := keyIdx k
  let s := keySub k
  if i = 0x3400 ∨ i = 0x3401 then
    let e := i - 0x3400
    decide (d.o (at' Obj.TURN_BITS e) ≤ d.o (at' Obj.WORD_BITS e)) &&
      !(d.o (at' Obj.DELAY_COMP e) == 0xFFFF && d.o (at' Obj.LEADING e) == 0)
  else if i = 0x3430 ∨ i = 0x3431 then
    if s = 3 then d.tracRelations (if i = 0x3430 then .A else .B) else d.sourceRelations
  else if i = 0x3439 then decide (d.o Obj.CO_DOWN + 1 ≤ d.o Obj.CO_UP)
  else if 0x4000 ≤ i ∧ i < 0x4800 then d.tracRelations .A
  else if 0x4800 ≤ i ∧ i < 0x5000 then d.tracRelations .B
  else if i = 0x5000 ∨ i = 0x5800 then d.linkRelations
  else if i = 0x5040 then
    decide (d.o Obj.I_SUPPLY_MAX ≤ d.o Obj.I_SC) && decide (d.o Obj.I_SC ≤ 2 * d.o Obj.I_SUPPLY_MAX)
  else if i = 0x5400 then d.dabRelations .dca && d.linkRelations
  else if i = 0x5500 then d.dabRelations .dcb && d.linkRelations
  else if 0x6010 ≤ i ∧ i ≤ 0x6013 then d.channelRelations s
  else if 0x6101 ≤ i ∧ i ≤ 0x6109 then d.groupRelations (i - 0x6101)
  else if 0x7100 ≤ i ∧ i ≤ 0x7103 then d.bldcRelations (i - 0x7100)
  else if 0x7200 ≤ i ∧ i ≤ 0x7203 then d.axisRelations (i - 0x7200)
  else if i = 0x7500 then
    if s = 1 then decide (d.o Obj.GEAR_SET ≤ d.o Obj.GEARS)
    else if s = 0x13 then
      (decide (d.o (k - 2) ≤ d.o k) && decide (d.o k ≤ d.o (k - 1))) || (decide (d.o (k - 1) ≤ d.o k) && decide (d.o k ≤ d.o (k - 2)))
    else true
  else if i = 0x9100 then d.o k == 0 || (List.range 128).all (fun n => decide (n + 1 = s) || d.o (el Obj.ROW (n + 1)) != d.o k)
  else if i = 0x1140 then decide (32 * d.o Obj.DC_WORDS ≤ d.o Obj.DC_FRAME_BITS)
  else if 0x2531 ≤ i ∧ i ≤ 0x2538 then
    decide (d.o (i * 256 + 4) + 50 ≤ d.o (i * 256 + 5)) && (d.o (i * 256 + 1) != 5 || decide (d.o Obj.DCA_FLOOR ≤ d.o (i * 256 + 6))) &&
      (d.o (i * 256 + 1) != 6 || decide (d.o Obj.DCB_FLOOR ≤ d.o (i * 256 + 6)))
  else if 0xA100 ≤ i ∧ i < 0xA380 then d.slotRelations i
  else true

/-- The state the checks of R601 are made against: every accepted write counts as applied. -/
def Dev.ahead (d : Dev) : Dev :=
  d.writes.foldl (fun d w => match w.block with
    | some _ => d
    | none => d.setO w.key w.val) d

/-- A value against the ceiling of a locked bank (R484); V_POS has one for every channel. -/
def Dev.underCeiling (d : Dev) (k : Nat) (v : Int) : Bool :=
  let key := if keyIdx k = keyIdx Obj.V_POS then Obj.V_POS else k
  (d.fuse.ceilings.filter (fun c => c.1 == key)).all (fun c => decide (v ≤ c.2))

/-- Steps 7 and 9 of R417 for a number: RANGE, COMBINATION or success. -/
def Dev.valueCheck (d : Dev) (k : Nat) (v : Int) : Nat :=
  if !(inRange k v) || !(d.underCeiling k v) then 0x30000002
  else if !((d.ahead.setO k v).relationsHold k) then 0x30000004 else 0

end Sys2Proof.Machine
end

