-- ==== Sys2Proof/Machine/Flags.lean ====
section
/-! DEFINITION. Every status and flag computation that faults need (R17, R427, R508 to R523): classes and domains of
fault codes, the states of the domains, the entry of a fault in the collector with its log record, postmark and
reaction, and its end. -/

namespace Sys2Proof.Machine

/-! ### Fault codes (R17) -/

/-- The class of a fault code: 0 Notice, 1 Degrade, 2 Domain-stop, 3 Safe-state, 4 Lockout. -/
def faultClass (code : Nat) : Nat := code / 512 % 8

/-- The domain field of a fault code. -/
def faultDomain (code : Nat) : Nat := code / 4096 % 16

/-- The cause number of a fault code. -/
def faultCause (code : Nat) : Nat := code % 512

/-- The domain a fault code 0x0 to 0x8 names (R508). -/
def codeDomain : Nat → Domain
  | 1 => .tra | 2 => .trb | 3 => .grd | 4 => .dca | 5 => .dcb | 6 => .lnk | 7 => .act | 8 => .bom | _ => .sys

/-! ### States of the domains -/

/-- Whether a fault of class at least `c` is in force; a holder that acts alone holds a Safe-state (R25). -/
def Dev.classInForce (d : Dev) (c : Nat) : Bool :=
  d.coll.active.any (fun f => decide (c ≤ faultClass f.code)) || (d.power.alone && decide (c ≤ 3))

/-- The highest class in force, `0xFF` none (R515). -/
def Dev.classNow (d : Dev) : Nat :=
  if d.classInForce 4 then 4 else if d.classInForce 3 then 3 else if d.classInForce 2 then 2
  else if d.classInForce 1 then 1 else 0xFF

/-- Whether a fault with this code is in force, whatever it acts on. -/
def Dev.faultOn (d : Dev) (code : Nat) : Bool := d.coll.active.any (fun f => f.code == code)

/-- Whether a fault of class `c` acts on domain `dom`; SYS faults below Safe-state act on nothing (R508). -/
def Dev.faultOnDomain (d : Dev) (dom : Domain) (c : Nat) : Bool :=
  dom != .sys && d.coll.active.any (fun f => f.acts == dom && faultClass f.code == c)

/-- Whether a domain reads neither 0 nor a fault state: the second column of R416. -/
def Dev.running (d : Dev) : Domain → Bool
  | .sys => d.phase == .service
  | .tra => d.b Obj.BRIDGE_STATE || d.b Obj.RUN_4240
  | .trb => d.b (tk .B Obj.BRIDGE_STATE) || d.b (tk .B Obj.RUN_4240)
  | .grd => d.b Obj.GRD_MODE || d.b Obj.STATE_5000
  | .dca => !([0, 1, 7].contains (d.n Obj.STATE_5400))
  | .dcb => !([0, 1, 7].contains (d.n (ck .dcb Obj.STATE_5400)))
  | .lnk => d.b Obj.LINK_CTRL || !([0, 5].contains (d.n Obj.PRE_STATE))
  | .act => [0, 1, 2, 3].any (fun g => !([0, 7].contains (d.n (at' Obj.STATE_7100 g)))) ||
      [0, 1, 2, 3].any (fun a => !([0, 5, 6].contains (d.n (at' Obj.STATE_7200 a))))
  | .bom => d.b Obj.MASTER || d.b Obj.JOB_STATE

/-- DOMAIN_STATE, the highest value that applies (R427, R510). -/
def Dev.domainState (d : Dev) (dom : Domain) : Nat :=
  if d.classInForce 4 then 5 else if d.classInForce 3 then 4
  else if d.faultOnDomain dom 2 then 3
  else if d.running dom then (if d.faultOnDomain dom 1 then 2 else 1) else 0

/-- A domain is stopped while `2010` reads 0, 3, 4 or 5 for it (R416). -/
def Dev.stopped (d : Dev) (dom : Domain) : Bool := !([1, 2].contains (d.domainState dom))

/-- SAFE_STATE (`2000:04`, R427, R510). -/
def Dev.safeState (d : Dev) : Nat := if d.classInForce 4 then 2 else if d.classInForce 3 then 1 else 0

/-- Whether the fuses bar every one of these functions of ENABLES: RETIRED and the restrictive defaults bar all, a bank in force
those whose bit is 0 (R484, R487, R496). -/
def Dev.fuseBars (d : Dev) (bits : List Nat) : Bool :=
  d.o Obj.LIFE_CYCLE == 5 || d.b Obj.FUSE_DEFAULTS || (d.fuse.inForce && !bits.isEmpty && bits.all (fun i => d.fuse.enables / 2 ^ i % 2 == 0))

/-- The functions of ENABLES that belong to a domain (R484). -/
def enableBits : Domain → List Nat
  | .tra => [0] | .trb => [1] | .grd => [2, 3] | .dca => [4] | .dcb => [5] | .lnk => [6, 7] | .act => [9] | .bom => [10] | .sys => []

/-- `f` where the fuses permit these functions, else the result LIFECYCLE (R417 step 5, R484, R496). -/
def Dev.allowed (d : Dev) (bits : List Nat) (f : Dev → Dev) : Dev :=
  if d.fuseBars bits then { d with result := 0x20000004 } else f d

/-- Start commands of a domain return STATE while it is in Domain-stop or above (R510), and those of the six power
domains from the acceptance of a RESET_CMD (R428) and of every domain below 18.0 V of VSUP (R550); no domain that the fuses bar starts (R484, R487, R496). -/
def Dev.startBlocked (d : Dev) (dom : Domain) : Bool :=
  decide (3 ≤ d.domainState dom) || d.power.low || d.fuseBars (enableBits dom) || (d.resetPending && [Domain.tra, .trb, .grd, .dca, .dcb, .lnk].contains dom)

/-! ### The log and the postmarks -/

/-- A record added to the log, which keeps the last 256 (R514, R515). -/
def Dev.logAdd (d : Dev) (code event kind : Nat) : Dev :=
  let r : LogRec := { wall := d.wall, code := code, event := event, kind := kind, rep := 0, cls := d.classNow }
  let l := d.coll.log ++ [r]
  ({ d with coll := { d.coll with log := if 256 < l.length then l.drop 1 else l } }).addWrap Obj.LOG_TOTAL

/-- REPEAT of the last record that satisfies `p` advanced, saturating at 65,535. -/
def bumpLast (p : LogRec → Bool) : List LogRec → List LogRec
  | [] => []
  | r :: t => if p r && !(t.any p) then { r with rep := min 65535 (r.rep + 1) } :: t else r :: bumpLast p t

/-- The track object VALUE of a track code (R47, R55, R56). -/
def trackValueKey (code : Nat) : Nat :=
  if 0x80 ≤ code then el Obj.ROW_VALUE (code - 0x7F) else at' Obj.VALUE code

/-- The value a track reads. -/
def Dev.trackValue (d : Dev) (code : Nat) : Int := if code = 0 then (d.wall : Int) else d.o (trackValueKey code)

/-- Whether a track is valid. -/
def Dev.trackValid (d : Dev) (code : Nat) : Bool :=
  if 0x80 ≤ code then d.b Obj.ROW_VALID else d.b (at' Obj.VALID_3000 code)

/-- The AX track of the axis or group whose object OUT_TARGET of loop `L` names; those of LE5 drive fixed ones (R182, R518). -/
def Dev.loopTrack (d : Dev) (L : Nat) : Option Nat :=
  let i := keyIdx (d.n (at' Obj.OUT_TARGET L))
  if 80 ≤ L ∧ L ≤ 83 then some (0x08 + (L - 80))
  else if 92 ≤ L ∧ L ≤ 95 then some (0x0C + (L - 92))
  else if L < 96 ∨ 128 ≤ L then none
  else if 0x7100 ≤ i ∧ i ≤ 0x7103 then some (0x0C + (i - 0x7100))
  else if 0x7200 ≤ i ∧ i ≤ 0x7203 then some (0x08 + (i - 0x7200))
  else none

/-- The AX track of the lane an ACT fault names (R518): by its cause a half-bridge, a loop or an axis. -/
def Dev.actTrack (d : Dev) (cause addr : Nat) : Option Nat :=
  if [0x0C0, 0x0C1, 0x0C2, 0x0C5, 0x0C6].contains cause then
    if 1 ≤ addr ∧ addr ≤ 16 then some (0x08 + (addr - 1) / 4)
    else if 17 ≤ addr ∧ addr ≤ 28 then some (0x0C + (addr - 17) / 3) else none
  else if 0x0C7 ≤ cause ∧ cause ≤ 0x0CC then (if addr < 4 then some (0x08 + addr) else none)
  else if 0x060 ≤ cause ∧ cause ≤ 0x063 then d.loopTrack addr
  else none

/-- The two tracks of a postmark, by the fault's domain code (R518); `none` is a fallback track whose VALID bit reads 0. -/
def postTracks (d : Dev) (code addr : Nat) (acts : Domain) : (Nat × Bool) × (Nat × Bool) :=
  let rowOf (n : Nat) : Nat × Bool := if 1 ≤ n ∧ n ≤ 128 then (0x7F + n, true) else (0x80, false)
  let bySys : (Nat × Bool) × (Nat × Bool) := ((0x00, true), (0x04, true))
  let byDomain : Domain → (Nat × Bool) × (Nat × Bool)
    | .tra => ((0x01, true), (0x00, true))
    | .trb => ((0x02, true), (0x00, true))
    | .grd => ((0x03, true), (0x00, true))
    | .dca | .dcb | .lnk => ((0x01, true), (0x02, true))
    | .act => (match d.actTrack (faultCause code) addr with
        | some t => (t, true)
        | none => (0x08, false), (0x04, true))
    | .bom =>
      let r := if 0x40 ≤ faultCause code ∧ faultCause code ≤ 0x46 then d.n (el Obj.ROW addr) else addr
      ((0x04, true), rowOf r)
    | .sys => bySys
  let dc := faultDomain code
  if dc = 0 then bySys
  else if dc ≤ 8 then byDomain (codeDomain dc)
  else if dc = 0xA then byDomain acts
  else if dc = 0xC then
    ((if addr < 512 then (d.n (at' Obj.TRACK_3200 addr), true) else (0x00, true)), (0x00, true))
  else bySys

/-- Where a fault comes from: ADDRESS, INITIATOR and ACCESS of its postmark (R517, R518). -/
structure FaultSrc where
  addr : Nat := 0xFFFFFFFF
  ini : Nat := 0x01
  acc : Nat := 0
deriving DecidableEq, Repr

/-- The postmark of the fault's class: the first fault is captured, later ones count (R516). -/
def Dev.postmark (d : Dev) (code : Nat) (acts : Domain) (src : FaultSrc) (injected : Bool) : Dev :=
  let p (k : Nat) : Nat := at' k (faultClass code)
  if bitOf (d.o (p Obj.VALID_2210)) 0 then d.addSat (p Obj.SINCE)
  else
    let (t1, t2) := postTracks d code src.addr acts
    let v1 := t1.2 && d.trackValid t1.1
    let v2 := t2.2 && d.trackValid t2.1
    ((((((((((d.setO (p Obj.CODE) code).setO (p Obj.ADDRESS) src.addr).setO (p Obj.INITIATOR)
      (if injected then 0x70 else src.ini)).setO (p Obj.ACCESS) src.acc).setO (p Obj.WALL) d.wall).setO
      (p Obj.TRACK_1) t1.1).setO (p Obj.VALUE_1) (d.trackValue t1.1)).setO (p Obj.TRACK_2) t2.1).setO
      (p Obj.VALUE_2) (d.trackValue t2.1)).setO (p Obj.VALID_2210) (1 + 2 * b2i v1 + 4 * b2i v2)).event 0x0A

/-! ### Raising and ending -/

/-- The retention's list of faults: at most 16 of class Domain-stop or higher, those of highest class first, the
earliest among equals (R524). -/
def retain (active : List FaultRec) : List FaultRec :=
  let pick (c : Nat) := active.filter (fun f => faultClass f.code == c)
  (pick 4 ++ pick 3 ++ pick 2).take 16

/-- The retention follows the faults in force, and those a reset froze until they re-enter (R524 to R526). -/
def Dev.retainNow (d : Dev) : Dev := { d with coll := { d.coll with retained := retain (d.coll.active ++ d.coll.held) } }

/-- A fault that a reset froze, or that the holder enters in the retention on its own while no collector runs (R525, R526). -/
def Dev.hold (d : Dev) (code : Nat) (acts : Domain) : Dev :=
  if d.coll.held.any (fun f => f.code == code && f.acts == acts) then d
  else
    let f : FaultRec := { code := code, acts := acts, since := d.wall, cause := true, quiet := d.wall, injected := false }
    ({ d with coll := { d.coll with held := d.coll.held ++ [f] } }).retainNow

/-- Whether a Lockout came from a fault of this code by R522: same domain, same cause. -/
def lockoutOf (f : FaultRec) (code : Nat) : Bool :=
  faultClass f.code == 4 && faultDomain f.code == faultDomain code && faultCause f.code == faultCause code

/-- The class reaction of a fault entered in the collector (R510, R511, R513). -/
def Dev.react (d : Dev) (code : Nat) (acts : Domain) (firstSafe : Bool) : Dev :=
  let c := faultClass code
  if c = 2 then domainStop acts d
  else if 3 ≤ c then (safeStateAll d).when firstSafe (fun d => d.event 0x06)
  else d

/-- A fault entered in the collector (R510, R511, R516, R525).  `lasting` says whether its cause is a condition that
is present now, rather than a single occurrence (R520). -/
def Dev.raiseWith (d : Dev) (code : Nat) (acts : Domain) (src : FaultSrc) (lasting injected : Bool) : Dev :=
  if faultClass code = 0 then (d.logAdd code 0 2).postmark code acts src injected
  else if d.coll.active.any (fun f => f.code == code && f.acts == acts) then
    { d with coll := { d.coll with
        active := d.coll.active.map (fun f =>
          if f.code == code && f.acts == acts then { f with cause := lasting, quiet := d.wall } else f)
        log := bumpLast (fun r => r.kind == 2 && r.code == code) d.coll.log } }
  else
    let firstSafe := decide (d.safeState = 0)
    let f : FaultRec :=
      { code := code, acts := acts, since := d.wall, cause := lasting, quiet := d.wall, injected := injected }
    let active := d.coll.active.map (fun g => if lockoutOf g code then { g with cause := lasting } else g) ++ [f]
    let d1 := { d with coll := { d.coll with active := active } }.retainNow
    ((d1.logAdd code 0 2).postmark code acts src injected).react code acts firstSafe

/-- A fault whose code names the domain it acts on (R508). -/
def Dev.raise (d : Dev) (code : Nat) (lasting : Bool) (src : FaultSrc := {}) : Dev :=
  d.raiseWith code (codeDomain (faultDomain code)) src lasting false

/-- A NET, MEM, OTP, TRK, THM or SEC fault, which acts on the consuming domain (R37). -/
def Dev.raiseOn (d : Dev) (code : Nat) (acts : Domain) (lasting : Bool) (src : FaultSrc := {}) : Dev :=
  d.raiseWith code acts src lasting false

/-- The cause of a fault is gone: its quiet period starts (R520). -/
def Dev.causeGone (d : Dev) (code : Nat) : Dev :=
  { d with coll := { d.coll with active := d.coll.active.map (fun f =>
      if (f.code == code || lockoutOf f code) && f.cause then { f with cause := false, quiet := d.wall } else f) } }

/-- The same for the fault of one domain. -/
def Dev.causeGoneOn (d : Dev) (code : Nat) (acts : Domain) : Dev :=
  { d with coll := { d.coll with active := d.coll.active.map (fun f =>
      if (f.code == code || lockoutOf f code) && f.acts == acts && f.cause then { f with cause := false, quiet := d.wall } else f) } }

/-- The event of leaving Safe-state and Lockout, after the last such fault has ended (R534, event 0x07). -/
def Dev.exitEvent (d : Dev) (before : Nat) : Dev :=
  d.when (decide (before ≠ 0) && decide (d.safeState = 0)) (fun d => d.event 0x07)

/-- The faults that satisfy `p` end with a log record of this kind each (R515, R520, R523). -/
def Dev.endFaults (d : Dev) (p : FaultRec → Bool) (kind : Nat) : Dev :=
  let gone := d.coll.active.filter p
  let active := d.coll.active.filter (fun f => !(p f))
  let d1 := { d with coll := { d.coll with active := active } }.retainNow
  (gone.foldl (fun d f => d.logAdd f.code 0 kind) d1).exitEvent d.safeState

/-- The fault of this code ends by clearing or by the release of an input (KIND 4). -/
def Dev.clearFault (d : Dev) (code : Nat) : Dev :=
  if d.faultOn code then d.endFaults (fun f => f.code == code) 4 else d

end Sys2Proof.Machine
end

