-- ==== Sys2Proof/Machine/Actions.lean ====
section
/-! DEFINITION. What a compare slot, a route or a track starts in another unit (R59, R505): an SSI request, a port
queue, a bank swap mark, a section switch, an armed latch, a courier, the mains cycle and the angle zero. -/

namespace Sys2Proof.Machine

/-! ### SSI requests (R79, R80) -/

/-- The hidden state of encoder input `e`. -/
def Dev.ssiOf (d : Dev) (e : Nat) : SsiIn := Tab.get {} d.ssi e

/-- The hidden state of encoder input `e` changed. -/
def Dev.updSsi (d : Dev) (e : Nat) (f : SsiIn → SsiIn) : Dev := { d with ssi := Tab.upd {} d.ssi e f }

/-- Whether an encoder works under automatic delay compensation (R76). -/
def Dev.autoDelay (d : Dev) (e : Nat) : Bool := d.o (at' Obj.DELAY_COMP e) == 0xFFFF

/-- The machine whose PRIMARY or SECONDARY is one of these sources (R69). -/
def Dev.machOf (d : Dev) (srcs : List Nat) : Option Mach :=
  let named (m : Nat) : Bool := srcs.contains (d.n (at' Obj.PRIMARY m)) || srcs.contains (d.n (at' Obj.SECONDARY m))
  if named 0 then some .A else if named 1 then some .B else none

/-- A fault of a traction machine: TRB's codes begin with 0x2 in place of 0x1 (R98). -/
def mcode (m : Mach) (code : Nat) : Nat := code + 0x1000 * mnum m

/-- An event of a traction machine: TRB's events lie 0x20 higher (R98). -/
def mev (m : Mach) (e : Nat) : Nat := e + 0x20 * mnum m

/-- Whether the sensor fault of an encoder input is over while the input still remembers it (R76). -/
def Dev.ssiRecovered (d : Dev) (e : Nat) : Bool :=
  (d.ssiOf e).bad && match d.machOf [e + 1] with
    | some m => !(d.faultOn (mcode m 0x1210))
    | none => true

/-- The first falling edge of CLOCK: a frame starts at the latch instant (R76, R79). -/
def Dev.ssiStart (d : Dev) (e : Nat) : Dev :=
  let again := d.ssiRecovered e
  d.updSsi e (fun s => { s with
    inFrame := true, pending := false, latch := d.wall, bad := s.bad && !again,
    measuring := (s.measureNext || again) && d.autoDelay e, measureNext := false })

/-- A request starts a frame, is held pending, or is dropped and counted in COLLISIONS (R80). -/
def Dev.ssiRequest (d : Dev) (e : Nat) : Dev :=
  let s := d.ssiOf e
  if s.inFrame || s.mono then
    if s.pending then d.addSat (at' Obj.COLLISIONS e) else d.updSsi e (fun s => { s with pending := true })
  else d.ssiStart e

/-! ### Latches (R83, R94) -/

/-- A probe latch or an index latch is armed (R59 action 5, R83, R94). -/
def Dev.armLatch (d : Dev) (n : Nat) : Dev :=
  if n ≤ 3 then
    ({ d with probes := Tab.upd {} d.probes n (fun p => { p with armed := true, from_ := d.wall }) }).setBit
      (at' Obj.STATUS_3440 n) 0 true
  else if n ≤ 5 then { d with inc := Tab.upd {} d.inc (n - 4) (fun i => { i with latchArmed := true }) }
  else d

/-! ### Gate groups at a start (R259, R261, R264, R281) -/

/-- The groups of a domain (R259). -/
def groupsOf : Domain → List Nat
  | .tra => [1] | .trb => [2] | .grd => [3] | .dca => [4, 5] | .dcb => [6, 7] | .lnk => [8, 9] | _ => []

/-- The committed assignment of channel `n`, group * 8 + position (R261). -/
def Dev.committedOf (d : Dev) (n : Nat) : Nat :=
  let g : Gate := Tab.get {} d.gates n
  if g.committed = 0 then defaultChannel n else g.committed - 1

/-- A start of domain `dom` puts the committed assignment of its channels in force; a channel that moves to another
domain is free until that domain starts (R261). -/
def Dev.takeAssign (d : Dev) (dom : Domain) : Dev :=
  ((List.range 40).map (· + 1)).foldl (fun d n =>
    let c := d.committedOf n
    let a := d.assignment n
    let mine (x : Nat) : Bool := (groupsOf dom).contains (x / 8)
    if c = a then d
    else if mine c || (mine a && decide (c / 8 = 0)) then
      { d with gates := Tab.upd {} d.gates n (fun g => { g with inForce := g.committed }) }
    else if mine a then { d with gates := Tab.upd {} d.gates n (fun g => { g with inForce := a % 8 + 1 }) }
    else d) d

/-- Whether the channels of a domain allow its start: DRIVE_EN is high, and no channel is latched or has an
under-voltage (R264, R270, R278). -/
def Dev.gatesFree (d : Dev) (dom : Domain) : Bool :=
  d.b Obj.DRIVE_EN && (groupsOf dom).all (fun g => (d.groupChannels g).all (fun n => bitsOf (d.o (el Obj.STATUS_6020 n)) 6 1 == 0))

/-- DIAG_RESULT of every channel of a group. -/
def Dev.groupDiag (d : Dev) (g : Nat) (v : Int) : Dev := (d.groupChannels g).foldl (fun d n => d.setO (el Obj.DIAG_RESULT_6024 n) v) d

/-- OFFTEST_STATE: running while a group is under test (R281). -/
def Dev.showTests (d : Dev) : Dev := d.setO Obj.OFFTEST_STATE (if d.testing.isEmpty then 2 else 1)

/-- An off-state test of group `g` starts, where its bridge is off and its node sees less than 5 V (`ok`); otherwise it is
skipped, and secondary bridges are not tested (R281, R282). -/
def Dev.startTest (d : Dev) (g : Nat) (ok rise : Bool) : Dev :=
  if g = 5 ∨ g = 7 then d.groupDiag g 6
  else if !ok || (d.groupChannels g).isEmpty then d.groupDiag g 0
  else ({ d with testing := insertOnce g d.testing, riseTests := if rise then insertOnce g d.riseTests else d.riseTests }).showTests

/-- Whether the node of group `g` sees a back-EMF or line voltage below 5 V (R281). -/
def Dev.nodeQuiet (d : Dev) (g : Nat) : Bool :=
  if g = 1 then decide (d.o Obj.EMF_EST < 50) else if g = 2 then decide (d.o (tk .B Obj.EMF_EST) < 50)
  else if g = 3 then decide (d.o Obj.V_LL < 50) else true

/-- The first start of a domain after a reset runs the off-state test before its first switching; the Bool says whether
the start may go on (R261, R281). -/
def Dev.startReady (d : Dev) (dom : Domain) : Dev × Bool :=
  if (groupsOf dom).any (fun g => d.testing.contains g) then (d, false)
  else
    let d0 := d.takeAssign dom
    if d0.tested.contains dom.num then (d0, true)
    else
      let d1 := (groupsOf dom).foldl (fun d g => d.startTest g (d.nodeQuiet g) false) { d0 with tested := insertOnce dom.num d0.tested }
      (d1, !((groupsOf dom).any (fun g => d1.testing.contains g)))

/-! ### Applied writes (R41) -/

/-- What a write that has been applied changes beside its own object: the full scale of the shunt (R109), the realised
carrier (R102), a pending assignment (R260), a new device description (R403) and the next SSI frame as a measuring frame (R76). -/
def Dev.derived (d : Dev) (k : Nat) : Dev :=
  let i := keyIdx k
  if k = Obj.SHUNT_VALUE ∨ k = tk .B Obj.SHUNT_VALUE then
    d.setO (k + 1) (if d.n k = 0 then 0 else ((300000 / d.n k : Nat) : Int))
  else if k = Obj.F_PWM ∨ k = tk .B Obj.F_PWM then
    let half := (200000000 + d.n k / 2) / (max 1 (d.n k))
    d.setO (k + 7) (((200000000000 + half / 2) / (max 1 half) : Nat) : Int)
  else if i = 0x6000 ∨ i = 0x6001 then d.setO Obj.ASSIGN_STATE 1
  else if k = Obj.ROWS ∨ k = Obj.RATE_LSB ∨ k = Obj.TC_RATE_KIND ∨ i = 0x8010 ∨ i = 0x8011 ∨ i = 0x8012 then
    d.when (d.o Obj.TC_STATE != 0) (fun d => d.setO Obj.TC_STATE 1)
  else if i = 0x3400 ∨ i = 0x3401 then d.updSsi (i - 0x3400) (fun s => { s with measureNext := true })
  else d

/-- A delivered write applied by its owner; the word is written whole, which clears its mark (R456). -/
def Dev.applyWrite (d : Dev) (w : PWrite) : Dev :=
  let d1 := match w.block with
    | some b => d.setBlk w.key b
    | none => d.setO w.key w.val
  ({ d1 with poison := d1.poison.filter (· != w.key) }).derived w.key

/-- Every delivered write whose object satisfies `own` applied, in the order of delivery (R41, R42). -/
def Dev.applyWrites (d : Dev) (own : Nat → Bool) : Dev :=
  (d.writes.filter (fun w => own w.key)).foldl (fun d w => d.applyWrite w)
    { d with writes := d.writes.filter (fun w => !(own w.key)) }

/-- The objects a traction boundary applies: the domain's range and the channels of its group (R41). -/
def Dev.tracOwns (d : Dev) (m : Mach) (k : Nat) : Bool :=
  let i := keyIdx k
  (decide (0x4000 + 0x800 * mnum m ≤ i) && decide (i < 0x4800 + 0x800 * mnum m)) ||
    (decide (i / 256 = 0x60) && decide (keySub k ≠ 0) && decide (d.assignment (keySub k) / 8 = tracGroup m)) ||
    decide (i = 0x6100 + tracGroup m)

/-- The dead time and blanking in force for a group follow the temperature band at its boundary (R268). -/
def Dev.gateSet (d : Dev) (g : Nat) : Dev :=
  let band := d.n Obj.BAND
  let k (o : Nat) : Nat := at' o (g - 1)
  let dt := if g ≤ 7 then d.o (k Obj.DT_TB0 + band) else 0
  (d.setO (k Obj.DT_NOW) dt).setO (k Obj.BLANK_NOW) (d.o (k Obj.BLANK_TB0 + band))

/-! ### Sensor ports (R443 to R446) -/

/-- The hidden state of sensor port `p`. -/
def Dev.spOf (d : Dev) (p : Nat) : SpPort := Tab.get {} d.sps p

/-- The hidden state of sensor port `p` changed. -/
def Dev.updSp (d : Dev) (p : Nat) (f : SpPort → SpPort) : Dev := { d with sps := Tab.upd {} d.sps p f }

/-- The content of queue `q` of port `p` (R445). -/
def Dev.spQueue (d : Dev) (p q : Nat) : Bytes := d.block (at' Obj.QUEUE p + q)

/-- A new content of an idle queue takes the place of the old one (R445). -/
def Dev.spRenew (d : Dev) (p q : Nat) : Dev :=
  match (d.spOf p).wait.find? (fun e => e.1 == q) with
  | some e => ((d.updSp p (fun s => { s with wait := Tab.del s.wait q })).setBlk (at' Obj.QUEUE p + q) e.2).setO
      (at' Obj.QUEUE_NEXT p + q) 0
  | none => d

/-- The descriptor after `i` of a queue block (R446). -/
def spNext (b : Bytes) (i : Nat) : Nat := if byteAt b 1 ≤ i + 1 then 0 else i + 1

/-- Whether descriptor `i` of a queue block has CHAIN 1 (R445). -/
def spChains (b : Bytes) (i : Nat) : Bool := byteAt b (5 + 20 * i) / 8 % 2 == 1

/-- Descriptor `i` of queue `q` begins; one with SEL above 2 in direct mode is skipped (R445).  `n` bounds the skips. -/
def Dev.spBegin (d : Dev) (p q : Nat) : Nat → Nat → Dev
  | 0, _ => (d.updSp p (fun s => { s with run := none })).setO (at' Obj.STATE_3480 p) 0
  | n + 1, i =>
    let b := d.spQueue p q
    if d.o (at' Obj.SEL_MODE p) = 1 ∧ 2 < byteAt b (4 + 20 * i) then
      let d1 := (d.addSat (at' Obj.SKIPPED p)).setO (at' Obj.QUEUE_NEXT p + q) (spNext b i : Nat)
      if spChains b i then d1.spBegin p q n (spNext b i)
      else (d1.updSp p (fun s => { s with run := none })).setO (at' Obj.STATE_3480 p) 0
    else (d.updSp p (fun s => { s with run := some (q, i) })).setO (at' Obj.STATE_3480 p) (q + 1 : Nat)

/-- A start of queue `q` of an idle port: the port's settings written since take effect (R443), and the queue's next descriptor
begins. -/
def Dev.spRun (d : Dev) (p q : Nat) (track : Int) : Dev :=
  let d1 := d.applyWrites (fun k => keyIdx k == 0x3480 + p)
  let d2 := d1.updSp p (fun s => { s with wall := d.wall + 50 + d1.n (at' Obj.SEL_SETUP p), track := track })
  d2.spBegin p q 8 (d2.n (at' Obj.QUEUE_NEXT p + q))

/-- A start of queue `queue` of sensor port `port`, with the value of the starting slot's track (R446). -/
def Dev.spStart (d : Dev) (port queue : Nat) (slotTrack : Option Int) : Dev :=
  let s := d.spOf port
  if d.spQueue port queue = [] then d
  else if s.run.isNone then (d.addWrap (at' Obj.STARTS port)).spRun port queue (slotTrack.getD 0)
  else if s.pend.any (fun e => e.1 == queue) then (d.addSat (at' Obj.DROPPED_3480 port)).event 0x19
  else (d.addWrap (at' Obj.STARTS port)).updSp port (fun s => { s with
    pend := insertBy (fun a b => decide (a.1 ≤ b.1)) (queue, slotTrack.getD 0) s.pend })
/-- A swap mark of loop slot L (R59 action 3, R170). -/
def Dev.markSwap (d : Dev) (loop : Nat) : Dev :=
  { d with loops := Tab.upd {} d.loops loop (fun l => { l with swap := true }) }

/-- The hidden state of row `n`. -/
def Dev.rowOf (d : Dev) (n : Nat) : RowSt := Tab.get {} d.rows n

/-- The hidden state of row `n` changed. -/
def Dev.updRow (d : Dev) (n : Nat) (f : RowSt → RowSt) : Dev := { d with rows := Tab.upd {} d.rows n f }

/-- The section map's bit of a row: ROW_STATE bit 0 (R332). -/
def Dev.setSection (d : Dev) (n : Nat) (on : Bool) : Dev := d.setBit (el Obj.ROW_STATE n) 0 on

/-- The list without its first element that satisfies `p`. -/
def dropFirst {α : Type} (p : α → Bool) : List α → List α
  | [] => []
  | x :: t => if p x then t else x :: dropFirst p t

/-- Action 4 (R59, R352): the row's section takes the state of its earliest pending transition of that kind; one that GE
has withdrawn is not written. -/
def Dev.switchSection (d : Dev) (row : Nat) (on : Bool) : Dev :=
  if (d.rowOf row).queue.any (fun p => p.2 == on) then
    (d.updRow row (fun r => { r with queue := dropFirst (fun p => p.2 == on) r.queue })).setSection row on
  else d

/-! ### Couriers (R423 to R425) -/

/-- The groups whose courier is armed on slot `n`. -/
def Dev.couriersOn (d : Dev) (n : Nat) : List Nat :=
  (d.couriers.filter (fun e => e.2.slot == some n)).map (fun e => e.1)

/-- Whether a courier is pending on slot `n` (R424). -/
def Dev.courierPending (d : Dev) (n : Nat) : Bool := d.couriers.any (fun e => e.2.pending && e.2.slot == some n)

/-- The answer of a courier write that waited for its arm (R424): the result, and the response unit where a unit asked. -/
def Dev.courierAnswer (d : Dev) (g code : Nat) : Dev :=
  let c : Courier := Tab.get {} d.couriers g
  if !c.owed then d
  else
    let s : Session := Tab.get {} d.sessions c.session
    let data := leBytes 4 (code : Int)
    let unit := if c.head.isEmpty then [] else c.head ++ data ++ (Config.aesCmac s.key ([1] ++ c.head ++ data)).take 8
    let hsp := !unit.isEmpty && d.n (el Obj.SESSION_PATH c.session) == 3
    { d with
      couriers := Tab.upd {} d.couriers g (fun c => { c with owed := false }), result := code, data := [], reply := unit
      sessions := if unit.isEmpty || s.seq != some (ofLe ((c.head.drop 4).take 4)) then d.sessions
        else Tab.upd {} d.sessions c.session (fun s => { s with answer := code, data := [], last := false })
      hsp := if hsp then { d.hsp with resp := d.hsp.resp ++ [unit] } else d.hsp }

/-- The courier of group `g` is over. -/
def Dev.courierDone (d : Dev) (g : Nat) (state : Nat) : Dev :=
  { d with couriers := Tab.set {} d.couriers g {} }.setO (at' Obj.STATE_F000 g) (state : Int)

/-- The take-effect instant of a courier (R425): the value is delivered for every member at once, and for nodes the broadcast of the
chains starts. -/
def Dev.courierApply (d : Dev) (g : Nat) : Dev :=
  let c : Courier := Tab.get {} d.couriers g
  let d1 := { d with writes := d.writes ++ c.keys.map (fun (k : Nat) => ({ key := k, val := c.value } : PWrite)) }
  let d2 := match c.node with
    | some (mask, param) => { d1 with chains := (List.range 4).foldl (fun t n =>
        Tab.upd {} t n (fun (x : ChainSt) => { x with bcast := some (mask, param, c.value.toNat, none) })) d1.chains }
    | none => d1
  let k (o : Nat) : Nat := at' o g
  ((((((d2.courierAnswer g 0).courierDone g 2).setO (k Obj.APPLIED_AT) (d.wall : Int)).setO (k Obj.REFUSED) 0).setO
    (k Obj.FIRST_REFUSED) 0).setO (k Obj.REFUSE_CODE) 0).event 0x1E

/-- The slot of pending couriers fires: their take-effect instant (R424). -/
def Dev.courierFire (d : Dev) (slot : Nat) : Dev :=
  (d.couriersOn slot).foldl (fun d g => d.when (Tab.get {} d.couriers g).pending (fun d => d.courierApply g)) d

/-- The slot of pending couriers misses its target (R424). -/
def Dev.courierMissed (d : Dev) (slot : Nat) : Dev :=
  (d.couriersOn slot).foldl (fun d g =>
    d.when (Tab.get {} d.couriers g).pending (fun d => ((d.courierAnswer g 0x80000001).courierDone g 3).event 0x1F)) d

/-- The arm of a courier's slot has taken effect without a fire or a miss: the answer goes out (R424). -/
def Dev.courierArmed (d : Dev) (slot : Nat) : Dev :=
  (d.couriersOn slot).foldl (fun d g =>
    let d1 := d.courierAnswer g 0
    if (Tab.get {} d1.couriers g).pending then d1 else { d1 with couriers := Tab.set {} d1.couriers g {} }) d

/-- ANG crosses angle 0: a mode that MS0 has decided on takes over (R122). -/
def Dev.angleZero (d : Dev) (m : Mach) : Dev :=
  let was := d.n (tk m Obj.ACTIVE_PATTERN)
  let next := (d.tracOf m).nextMode
  if next = was ∨ d.o (tk m Obj.BRIDGE_STATE) ≠ 1 then d
  else
    (((d.setO (tk m Obj.ACTIVE_PATTERN) next).addSat (tk m Obj.TRANSITIONS)).when (decide (next = 0))
      (fun d => d.updTrac m (fun t => { t with edges := [], reqs := [] }))).event
      (mev m (if was = 0 then 0x38 else if next = 0 then 0x39 else 0x3A))

/-- One mWh as W ns. -/
def mWh : Nat := 3600000000

/-- The end of a mains cycle (R224 step 4, R236): the net energy of the cycle goes to one counter, and the remainder below
1 mWh to the next cycle. -/
def Dev.mainsCycle (d : Dev) : Dev :=
  let total := d.grid.cycle + d.grid.rest
  let d1 := { d with grid := { d.grid with zero := true, cycle := 0, rest := Int.tmod total mWh } }
  if 0 ≤ total then
    (d1.setO Obj.E_IMPORT (d1.o Obj.E_IMPORT + total / mWh)).when (d.o Obj.GRD_MODE == 1)
      (fun d => d.setO Obj.E_SESSION (d.o Obj.E_SESSION + total / mWh))
  else d1.setO Obj.E_EXPORT (d1.o Obj.E_EXPORT + (-total) / mWh)

end Sys2Proof.Machine
end

