-- ==== Sys2Proof/Machine/Status.lean ====
section
/-! DEFINITION. The status objects that the E960 computes from what it holds (R409, R427, R430, R514, R527, R528, R546, R602):
service level, domain states, faults in force, the nFAULT pin, the notification pool, the wear mirrors and the counts of slots in use. -/

namespace Sys2Proof.Machine

/-! ### Service levels (R527, R528) -/

/-- Whether the HV link `h`, the master sequencer `ms` and the logical engine `le` serve. -/
def Dev.served (d : Dev) (h ms le : Nat) : Bool :=
  !(d.hnLost.contains h) && !(d.dead.contains (0x20 + ms)) && !(d.leBlocked.contains le)

/-- Whether no channel of these groups is latched. -/
def Dev.unlatched (d : Dev) (gs : List Nat) : Bool := gs.all (fun g => (d.groupChannels g).all (fun n => !(d.latched n)))

/-- The full set of a domain (R528); the fuses must permit its start (R484, R487, R496). -/
def Dev.fullSet (d : Dev) (dom : Domain) : Bool :=
  let link := !(d.hnLost.contains 5) && decide (d.domainState .lnk < 3)
  let trac (m : Mach) : Bool :=
    let a := d.n (at' Obj.ACTIVE_SOURCE (mnum m))
    d.served (mnum m) (mnum m) (mnum m) && d.unlatched [tracGroup m] && a != 0 && a != 7 && link
  !(d.fuseBars (enableBits dom)) && match dom with
    | .tra => trac .A
    | .trb => trac .B
    | .grd => d.served 2 2 3 && d.unlatched [3] && !d.power.rc && link
    | .dca => d.served 3 2 4 && d.unlatched [4, 5] && link
    | .dcb => d.served 4 2 4 && d.unlatched [6, 7] && link
    | .lnk => d.served 5 2 2 && [0, 1, 2, 3].all (fun n => d.o (at' Obj.ROLE_5810 n) == 0 || d.o (at' Obj.STATE_5810 n) != 4)
    | .act => !(d.dead.contains 0x23) && !(d.leBlocked.contains 5) && decide (1800 ≤ d.n Obj.VLV)
    | .bom => !(d.dead.contains 0x28) && d.trackValid 4 &&
        [0, 1, 2, 3].all (fun c => d.o (at' Obj.NODES_CFG c) == 0 || !(d.dead.contains (0x29 + c / 2)))
    | .sys => false

/-- SERVICE_LEVEL (R427, R527): 2 while at least one domain has its full set. -/
def Dev.serviceLevel (d : Dev) : Nat :=
  if d.phase != .service then 0 else if Domain.all.any (fun dom => d.fullSet dom) then 2 else 1

/-! ### Faults in force (R514) -/

/-- The faults in force, highest class first, then by time of raising (R514). -/
def Dev.inOrder (d : Dev) : List Nat :=
  [4, 3, 2, 1].flatMap (fun c => (d.coll.active.filter (fun f => faultClass f.code == c)).map (fun f => f.code))

/-- A list of values written to an array object from its first element on, `n` elements, the rest 0. -/
def Dev.setList (d : Dev) (k : Nat) : Nat → List Nat → Dev
  | 0, _ => d
  | n + 1, l => (d.setO k ((l.headD 0 : Nat) : Int)).setList (k + 1) n l.tail

/-! ### nFAULT (R430) -/

/-- Whether nFAULT is asserted outside pulses whatever the policy: a Lockout in force or FUSE_DEFAULTS. -/
def Dev.nfForced (d : Dev) : Bool := d.safeState == 2 || d.b Obj.FUSE_DEFAULTS

/-! ### Slots in use (R602) -/

/-- The slots that are armed or whose ACTION is not 0. -/
def Dev.slotsInUse (d : Dev) : List Nat :=
  let armed := (d.slots.filter (fun e => e.2.armed)).map (fun e => e.1)
  let acts := (d.obj.filter (fun e => decide (0x3200 ≤ keyIdx e.1) && decide (keyIdx e.1 < 0x3400) && keySub e.1 == 4 && e.2 != 0)).map
    (fun e => keyIdx e.1 - 0x3200)
  acts.foldl (fun l n => insertOnce n l) armed

/-! ### All of them -/

/-- The states of the domains and the device (R427, R510). -/
def Dev.settleStates (d : Dev) : Dev :=
  (((d.setList Obj.DOMAIN_STATE 9 (Domain.all.map (fun dom => d.domainState dom))).setO Obj.SAFE_STATE (d.safeState : Int)).setO
    Obj.FAULTS_ACTIVE (d.inOrder.length : Int)).setO Obj.SERVICE_LEVEL (d.serviceLevel : Int)

/-- ACTIVE (R514). -/
def Dev.settleActive (d : Dev) : Dev := d.setList Obj.ACTIVE 64 (d.inOrder.take 64)

/-- The nFAULT objects, once the supervisor pair serves them (R430). -/
def Dev.settlePin (d : Dev) : Dev :=
  if d.phase != .engines && d.phase != .service then d
  else
    let level := d.nfLevel || d.nfForced
    (d.setB Obj.NFAULT_LEVEL level).setB Obj.PIN (level || d.nfPulse)

/-- The mirrors of R546 and the counts of R602. -/
def Dev.settleCounts (d : Dev) : Dev :=
  let sum (k : Nat) : Int := (List.range 11).foldl (fun s i => s + d.o (k + i)) 0
  let used := d.slotsInUse
  let spares := [37, 38, 39, 40].foldl (fun (s : Nat) n => if d.assignment n / 8 = 0 then s else s + 2 ^ (n - 37)) 0
  (((((((d.setO Obj.LE8_HOSTS_2540 (d.o Obj.LE8_HOSTS_A000)).setO Obj.ENGINE_MOVES (d.o Obj.MOVES)).setO Obj.PIGEONHOLES_USED_2540
    (sum Obj.PIGEONHOLES_USED_B007)).setO Obj.WORDS_PERM_POISONED (sum Obj.PERM_POISONED)).setO Obj.OTP_SPARES_CONSUMED
    (d.o Obj.SPARE_USED + d.o Obj.SPARE_FAILED)).setO Obj.SPARE_CHANNELS_USED (spares : Int)).setO Obj.SLOTS_IN_USE
    (used.length : Int)).setO Obj.USER_SLOTS_IN_USE ((used.filter (fun n => decide (416 ≤ n))).length : Int)

/-- FREE and USED of the notification pool (R409). -/
def Dev.settlePool (d : Dev) : Dev :=
  let used := min 128 d.pool.length
  (d.setO Obj.POOL_USED (used : Int)).setO Obj.POOL_FREE ((128 - used : Nat) : Int)

/-- Every status object computed anew. -/
def Dev.settle (d : Dev) : Dev := d.settlePool.settleCounts.settlePin.settleActive.settleStates

end Sys2Proof.Machine
end

