-- ==== Sys2Proof/Machine/Tracks.lean ====
section
/-! DEFINITION. Tracks and compare slots (R46 to R68, R602): the values, holds, corrections, reversals and jumps of a
track, the direction hysteresis, the arming and firing of slots, and the commands of the chapter. -/

namespace Sys2Proof

/-! ### Track codes and objects (R47, R55, R56) -/

/-- The code of a track (R47). -/
def TrackId.code : TrackId → Nat
  | .wall => 0 | .angA => 1 | .angB => 2 | .mains => 3 | .gnd => 4 | .ax k => 8 + k | .row n => 0x80 + n

/-- Whether a track is a row track. -/
def TrackId.isRow : TrackId → Bool
  | .row _ => true
  | _ => false

/-- The width of a track in bits (R47); WALL never wraps, so its width exceeds its range. -/
def TrackId.width : TrackId → Nat
  | .wall => 80
  | .gnd | .row _ => 32
  | .ax k => if k.val < 4 then 32 else 48
  | _ => 48

/-- The direction hysteresis of R48, in track units; `none` where only forward is possible. -/
def TrackId.hysteresis : TrackId → Option Nat
  | .wall | .mains => none
  | .gnd | .row _ => some 10
  | .ax k => if k.val < 4 then some 16 else some 128
  | _ => some 128

/-- The domain of the engine that owns a track (R36, R41). -/
def TrackId.domain : TrackId → Domain
  | .wall => .sys | .angA => .tra | .angB => .trb | .mains => .grd | .gnd | .row _ => .bom | .ax _ => .act

/-- The track of a track code, if the code names one (R47). -/
def trackOf (code : Nat) : Option TrackId :=
  if code = 0 then some .wall else if code = 1 then some .angA else if code = 2 then some .angB
  else if code = 3 then some .mains else if code = 4 then some .gnd
  else if h : 8 ≤ code ∧ code < 16 then some (.ax ⟨code - 8, by omega⟩)
  else if h : 0x80 ≤ code ∧ code ≤ 0xFF then some (.row ⟨code - 0x80, by omega⟩)
  else none

/-- The ANG track of a traction machine. -/
def angOf : Mach → TrackId
  | .A => .angA
  | .B => .angB

/-- VALUE of a track. -/
def TrackId.valueKey : TrackId → Nat
  | .row n => Machine.el Obj.ROW_VALUE (n + 1)
  | t => Machine.at' Obj.VALUE t.code

/-- RATE of a track. -/
def TrackId.rateKey : TrackId → Nat
  | .row n => Machine.el Obj.ROW_RATE (n + 1)
  | t => Machine.at' Obj.RATE t.code

/-- DIRECTION of a track. -/
def TrackId.dirKey : TrackId → Nat
  | .row n => Machine.el Obj.ROW_DIRECTION (n + 1)
  | t => Machine.at' Obj.DIRECTION t.code

/-- VALID of a track; the rows share one. -/
def TrackId.validKey : TrackId → Nat
  | .row _ => Obj.ROW_VALID
  | t => Machine.at' Obj.VALID_3000 t.code

/-- LATE_WINDOW of a track; the rows share one. -/
def TrackId.lateKey : TrackId → Nat
  | .row _ => Obj.ROW_LATE_WINDOW
  | t => Machine.at' Obj.LATE_WINDOW t.code

/-- STEP_LIMIT of a track; the rows share one. -/
def TrackId.stepKey : TrackId → Nat
  | .row _ => Obj.ROW_STEP_LIMIT
  | t => Machine.at' Obj.STEP_LIMIT t.code

/-- MISSED of a track. -/
def TrackId.missedKey : TrackId → Nat
  | .row n => Machine.el Obj.ROW_MISSED (n + 1)
  | t => Machine.at' Obj.MISSED_3000 t.code

/-- LATE of a track. -/
def TrackId.lateCountKey : TrackId → Nat
  | .row n => Machine.el Obj.ROW_LATE (n + 1)
  | t => Machine.at' Obj.LATE t.code

/-- A value brought into the width of its track (R50). -/
def TrackId.wrap (t : TrackId) (x : Int) : Int :=
  match t with
  | .wall => x
  | t => signedMod t.width x

/-- The signed distance from one coordinate to another (R50): WALL is compared unsigned and never wraps. -/
def TrackId.diff (t : TrackId) (present target : Int) : Int := t.wrap (target - present)

end Sys2Proof

namespace Sys2Proof.Machine

/-- The hidden state of a track. -/
def Dev.trk (d : Dev) (t : TrackId) : Track := Tab.get {} d.tracks t.code

/-- The hidden state of a track changed. -/
def Dev.updTrack (d : Dev) (t : TrackId) (f : Track → Track) : Dev := { d with tracks := Tab.upd {} d.tracks t.code f }

/-- The present value of a track. -/
def Dev.value (d : Dev) (t : TrackId) : Int :=
  match t with
  | .wall => (d.wall : Int)
  | t => d.o t.valueKey

/-- A new present value. -/
def Dev.setValue (d : Dev) (t : TrackId) (x : Int) : Dev :=
  match t with
  | .wall => ({ d with wall := x.toNat }).setO Obj.VALUE x
  | t => d.setO t.valueKey (t.wrap x)

/-! ### Slots (R57 to R67) -/

/-- The hidden state of slot `n`. -/
def Dev.slotOf (d : Dev) (n : Nat) : Slot := Tab.get {} d.slots n

/-- A field of slot `n`. -/
def slotKey (k n : Nat) : Nat := at' k n

/-- The domain that owns a slot of the firmware ranges (R57); user slots belong to nobody's domain. -/
def slotDomain (n : Nat) : Option Domain :=
  if n < 48 then some .tra else if n < 96 then some .trb else if n < 128 then some .grd
  else if n < 160 then some .act else if n < 416 then some .bom else none

/-- A slot armed or disarmed, in its hidden state and in STATUS bit 0. -/
def Dev.slotArmed (d : Dev) (n : Nat) (armed testWaits : Bool) : Dev :=
  ({ d with slots := Tab.set {} d.slots n { armed := armed, testWaits := testWaits } }).setBit
    (slotKey Obj.STATUS_3200 n) 0 armed

/-- Bits 1 to 5 of a slot's STATUS: FIRED, LATE, JUMP, MISSED and REFUSED cleared (R61). -/
def Dev.slotClear (d : Dev) (n : Nat) : Dev :=
  d.setO (slotKey Obj.STATUS_3200 n) (b2i (bitOf (d.o (slotKey Obj.STATUS_3200 n)) 0))

/-- The fault of a firmware slot that misses or fires late, on the domain that owns it (R67). -/
def Dev.slotFault (d : Dev) (n : Nat) : Dev :=
  match slotDomain n with
  | some dom => d.raiseOn 0xC201 dom false { addr := n, ini := 0x01 }
  | none => d

/-- `n` missed occurrences of slot `s` on track `t` (R61, R64). -/
def Dev.slotMiss (d : Dev) (t : TrackId) (s n : Nat) : Dev :=
  (d.addSat (slotKey Obj.SLOT_MISSED s) n).addSat t.missedKey n

/-- What the fire of a slot starts (R59, R424). -/
def Dev.slotAction (d : Dev) (n : Nat) : Dev :=
  let arg := d.n (slotKey Obj.ARG n)
  let t := d.n (slotKey Obj.TRACK_3200 n)
  let d1 : Dev :=
    match d.n (slotKey Obj.ACTION n) with
    | 1 => d.event (arg % 256)
    | 2 => if arg % 16 = 4 then d.ssiRequest 0 else if arg % 16 = 5 then d.ssiRequest 1
           else d.spStart (arg % 16) (arg / 16 % 4) (some (d.trackValue t))
    | 3 => d.markSwap (16 * (arg / 16 % 8) + arg % 16)
    | 4 => d.switchSection (arg % 128 + 1) (arg / 128 % 2 == 1)
    | 5 => d.armLatch (arg % 16)
    | _ => d
  d1.courierFire n

/-- The number of further occurrences of a periodic target that lie at or behind the present value when the target has
moved by one period from `target` in direction `fwd` (R64). -/
def skipped (t : TrackId) (present target : Int) (period : Nat) (fwd : Bool) : Nat :=
  let gap := if fwd then t.diff target present else t.diff present target
  if gap < period then 0 else (gap / period).toNat

/-- A fire of slot `n` at a track now at its present value: FIRED and FIRES, the next target of a periodic slot with its
skips, the disarm of a one-shot slot, and the action (R63 to R65). -/
def Dev.slotFire (d : Dev) (t : TrackId) (n : Nat) (fwd late jump : Bool) : Dev :=
  let st := slotKey Obj.STATUS_3200 n
  let period := d.n (slotKey Obj.PERIOD_3200 n)
  let d1 := ((((d.setBit st 1 true).when late (fun d => d.setBit st 2 true)).when jump (fun d => d.setBit st 3 true)).addSat
    (slotKey Obj.FIRES n)).when late (fun d => ((d.event 0xF1).addSat t.lateCountKey).slotFault n)
  let d2 : Dev :=
    if period = 0 then d1.slotArmed n false false
    else
      let target := d1.o (slotKey Obj.TARGET_3200 n)
      let sk := skipped t (d1.value t) target period fwd
      let move : Int := (period : Int) * (sk + 1)
      let d2 := (d1.slotArmed n true false).setO (slotKey Obj.TARGET_3200 n)
        (t.wrap (if fwd then target + move else target - move))
      if sk = 0 then d2
      else ((d2.slotMiss t n sk).when (!jump) (fun d => d.event 0xF0)).slotFault n
  d2.slotAction n

/-- The tests of R61 when an arm takes effect. -/
def Dev.slotTest (d : Dev) (t : TrackId) (n : Nat) (jump : Bool) : Dev :=
  let d := d.slotClear n
  let q := d.n (slotKey Obj.QUALIFIER_3200 n)
  let x := t.diff (d.value t) (d.o (slotKey Obj.TARGET_3200 n))
  let fwd := q = 1 ∨ (q = 3 ∧ d.o t.dirKey = 1)
  if x = 0 then d.slotFire t n (decide fwd) false jump
  else if (q = 1 ∧ 0 < x) ∨ (q = 2 ∧ x < 0) ∨ q = 3 then d.slotArmed n true false
  else if (x.natAbs : Int) ≤ d.o t.lateKey then d.slotFire t n (decide (q = 1)) true jump
  else (((((d.slotArmed n false false).setBit (slotKey Obj.STATUS_3200 n) 4 true).slotMiss t n 1).event 0xF0).slotFault
    n).courierMissed n

/-- The slots of a track that the motion from `a` to `b` takes past their targets in a sense their qualifier permits,
in the order of their targets and then of their numbers (R63, R65). -/
def Dev.crossed (d : Dev) (t : TrackId) (a b : Int) : List Nat :=
  let m := t.diff a b
  let hits := d.slots.filterMap (fun e =>
    let n := e.1
    if e.2.armed && !e.2.testWaits && decide (d.n (slotKey Obj.TRACK_3200 n) = t.code) then
      let q := d.n (slotKey Obj.QUALIFIER_3200 n)
      let x := t.diff a (d.o (slotKey Obj.TARGET_3200 n))
      if (0 < x ∧ x ≤ m ∧ q ≠ 2) ∨ (x < 0 ∧ m ≤ x ∧ q ≠ 1) then some (x.natAbs, n) else none
    else none)
  (sortBy (fun p q => decide (p.1 < q.1) || (decide (p.1 = q.1) && decide (p.2 ≤ q.2))) hits).map Prod.snd

/-- The slots armed while their track was invalid, in ascending number (R62). -/
def Dev.waiting (d : Dev) (t : TrackId) : List Nat :=
  d.slots.filterMap (fun e =>
    if e.2.testWaits && decide (d.n (slotKey Obj.TRACK_3200 e.1) = t.code) then some e.1 else none)

/-- Whether a write is one to a field or to CONTROL of a slot on track `t` (R61). -/
def Dev.slotWrite (d : Dev) (t : TrackId) (w : PWrite) : Bool :=
  decide (0x3200 ≤ keyIdx w.key) && decide (keyIdx w.key ≤ 0x33FF) &&
    decide (d.n (slotKey Obj.TRACK_3200 (keyIdx w.key - 0x3200)) = t.code)

/-- A delivered write to a slot's field or CONTROL takes effect: a field write disarms the slot, an arm runs the tests
of R61, or waits for them while the track is invalid (R61, R62, R66). -/
def Dev.slotApply (d : Dev) (w : PWrite) : Dev :=
  let n := keyIdx w.key - 0x3200
  if keySub w.key = 7 then
    if w.val = 1 then
      match trackOf (d.n (slotKey Obj.TRACK_3200 n)) with
      | some t => (if d.b t.validKey then d.slotTest t n false else (d.slotClear n).slotArmed n true true).courierArmed n
      | none => d
    else d.slotArmed n false false
  else ((d.setO w.key w.val).slotArmed n false false).setBit (slotKey Obj.STATUS_3200 n) 5 false

/-- The track whose update applies the feedback settings of index `i` (R41): the machine's for its position inputs, the probe's own,
and GND for the ground inputs; none for what serves no single track. -/
def Dev.feedbackTrack (d : Dev) (i : Nat) : Option TrackId :=
  let of (srcs : List Nat) : Option TrackId := (d.machOf srcs).map (fun m => match m with
    | .A => .angA
    | .B => .angB)
  if i = 0x3400 ∨ i = 0x3401 then of [i - 0x3400 + 1]
  else if i = 0x3410 ∨ i = 0x3411 then of [i - 0x3410 + 3, i - 0x3410 + 5]
  else if i = 0x3420 ∨ i = 0x3421 then of [i - 0x3420 + 3, i - 0x3420 + 5]
  else if i = 0x3430 then some .angA else if i = 0x3431 then some .angB
  else if 0x3440 ≤ i ∧ i ≤ 0x3443 then trackOf (d.n (at' Obj.TRACK_3440 (i - 0x3440)))
  else if i = 0x3450 ∨ i = 0x3451 ∨ i = 0x3452 ∨ i = 0x3460 then some .gnd
  else none

/-- Every delivered write that track `t` applies at its update instant, in the order of delivery (R41, R42, R66). -/
def Dev.trackWrites (d : Dev) (t : TrackId) : Dev :=
  let own (w : PWrite) : Bool := d.slotWrite t w || d.feedbackTrack (keyIdx w.key) == some t ||
    (decide (keyIdx w.key / 256 = 0x30) && (if t.isRow then decide (keyIdx w.key = 0x3013) else decide (keyIdx w.key = 0x3000 + t.code)))
  let mine := d.writes.filter own
  let d1 := { d with writes := d.writes.filter (fun w => !(own w)) }
  mine.foldl (fun d w => if 0x3200 ≤ keyIdx w.key ∧ keyIdx w.key < 0x3400 then d.slotApply w else d.applyWrite w) d1

/-! ### Motion of a track -/

/-- The reported direction after a move to the present value, with the hysteresis measured from the last extreme
(R49). -/
def Dev.direction (d : Dev) (t : TrackId) : Dev :=
  match t.hysteresis with
  | none => d
  | some h =>
    let v := d.value t
    let e := (d.trk t).extreme
    let fwd := d.o t.dirKey != 2
    let ahead := if fwd then t.diff e v else t.diff v e
    if 0 ≤ ahead then d.updTrack t (fun k => { k with extreme := v })
    else if (h : Int) ≤ -ahead then
      (((d.setO t.dirKey (if fwd then 2 else 1)).updTrack t (fun k => { k with extreme := v })).event 0xF3)
    else d

/-- The number of multiples of `p` in the half-open interval from `a` (excluded) to `b` (included), in the sense of the
motion. -/
def multiples (a b : Int) (p : Nat) : Nat :=
  if p = 0 then 0 else if a ≤ b then (b / p - a / p).toNat else (((a - 1) / (p : Int)) - ((b - 1) / (p : Int))).toNat

/-- What the firmware does at angles a track passes: the encoder requests of R79 and R129, the transition of R122 at angle 0 and
the end of a mains cycle (R236). -/
def Dev.passHooks (d : Dev) (t : TrackId) (a b : Int) : Dev :=
  let ang (m : Mach) (d : Dev) : Dev :=
    let zero := decide (0 < multiples a b 65536)
    let enc (e : Nat) (d : Dev) : Dev :=
      let req := d.n (at' Obj.REQ_PER_TURN e)
      let named := (d.o (at' Obj.PRIMARY (mnum m)) == (e + 1 : Nat)) || (d.o (at' Obj.SECONDARY (mnum m)) == (e + 1 : Nat))
      let locked := d.b (tk m Obj.ACTIVE_PATTERN)
      let passed := if locked then (d.tracOf m).reqs.any (fun r => decide (0 < multiples (a - r) (b - r) 65536))
        else decide (req ≠ 0) && decide (0 < multiples a b (65536 / req))
      d.when (named && passed) (fun d => d.ssiRequest e)
    (enc 1 (enc 0 d)).when zero (fun d => d.angleZero m)
  match t with
  | .angA => ang .A d
  | .angB => ang .B d
  | .mains => d.when (decide (0 < multiples a b 65536)) (fun d => d.mainsCycle)
  | _ => d

/-- The track moves to `b`: slots it passes fire, the direction follows, and the firmware acts on what was passed
(R49, R63 to R65). -/
def Dev.moveTo (d : Dev) (t : TrackId) (b : Int) (jump : Bool) : Dev :=
  let a := d.value t
  let m := t.diff a b
  let d1 := d.setValue t b
  let fired := d.crossed t a b
  let d2 := fired.foldl (fun d n => d.slotFire t n (decide (0 < m)) false jump) d1
  (d2.direction t).passHooks t a (a + m)

/-- The value extrapolated at the last rate to the present WALL, with its remainder, within the limit that holds (R47,
R88). -/
def Dev.extrapolated (d : Dev) (t : TrackId) (from_ : Int) : Int × Int :=
  let k := d.trk t
  let x := d.o t.rateKey * ((d.wall : Int) - k.at_) + k.rem
  let v := from_ + x / 1000000000
  match k.limit with
  | some l => if (0 ≤ d.o t.rateKey ∧ l < v) ∨ (d.o t.rateKey < 0 ∧ v < l) then (l, 0) else (v, x % 1000000000)
  | none => (v, x % 1000000000)

/-- The track extrapolated to the present WALL: it moves on, or stays held until the source's own value passes it
(R47, R52). -/
def Dev.extrapolate (d : Dev) (t : TrackId) : Dev :=
  match t with
  | .wall => d
  | t =>
    let k := d.trk t
    if !(d.b t.validKey) then d.updTrack t (fun k => { k with at_ := d.wall })
    else if k.holding then
      let (v, r) := d.extrapolated t k.src
      let d1 := d.updTrack t (fun k => { k with src := t.wrap v, at_ := d.wall, rem := r })
      let ahead := t.diff (d.value t) v
      if (d.o t.dirKey != 2 && decide (0 < ahead)) || (d.o t.dirKey == 2 && decide (ahead < 0)) then
        (d1.updTrack t (fun k => { k with holding := false })).moveTo t v false
      else d1
    else
      let (v, r) := d.extrapolated t (d.value t)
      (d.updTrack t (fun k => { k with at_ := d.wall, rem := r })).moveTo t v false

/-- A jump: the track takes the new value at once (R53). -/
def Dev.jumpTo (d : Dev) (t : TrackId) (v : Int) : Dev :=
  let d1 := (d.event 0xF2).when (!t.isRow) (fun d => d.addSat (at' Obj.JUMPS t.code))
  (d1.updTrack t (fun k => { k with holding := false, rem := 0 })).moveTo t v true

/-- The slots armed while the track was invalid run their tests against the new value (R62). -/
def Dev.runWaiting (d : Dev) (t : TrackId) : Dev := (d.waiting t).foldl (fun d n => d.slotTest t n false) d

/-- A source update of a track with the computed value and rate (R51 to R54).  `jump` is set where a chapter itself
names the update a jump.  Delivered writes take effect after the fires (R66). -/
def Dev.sourceUpdate (d : Dev) (t : TrackId) (v rate : Int) (jump : Bool) : Dev :=
  let k := d.trk t
  let stamp (d : Dev) : Dev := (d.setO t.rateKey rate).updTrack t (fun k => { k with at_ := d.wall, limit := none })
  let d1 : Dev :=
    match t with
    | .wall =>
      if d.b t.validKey then
        (d.moveTo .wall (max v d.wall) false)
      else (((d.setB t.validKey true).event 0xF5).moveTo .wall (max v d.wall) false).runWaiting .wall
    | t =>
      if !(d.b t.validKey) || !k.started then
        if k.started && !(d.b t.validKey) then
          ((((stamp d).setB t.validKey true).event 0xF5).jumpTo t v).runWaiting t
        else
          let d1 := (((stamp d).setB t.validKey true).event 0xF5).updTrack t
            (fun k => { k with started := true, holding := false, rem := 0, extreme := t.wrap v })
          if jump then (d1.jumpTo t v).runWaiting t else (d1.setValue t v).runWaiting t
      else
        let dx := d.extrapolate t
        let x := t.diff (dx.value t) v
        let fwd := dx.o t.dirKey != 2
        let behind := if fwd then decide (x < 0) else decide (0 < x)
        let sameWay := decide (rate = 0) || (fwd && decide (0 < rate)) || (!fwd && decide (rate < 0))
        if jump || decide (dx.o t.stepKey < (x.natAbs : Int)) then ((stamp dx).jumpTo t v)
        else if behind && sameWay then
          (stamp dx).updTrack t (fun k => { k with holding := true, src := t.wrap v, rem := 0 })
        else ((stamp dx).updTrack t (fun k => { k with holding := false, rem := 0 })).moveTo t v false
  d1.trackWrites t

/-- The loss of a track's source: the value holds, VALID and RATE read 0 (R54).  The rows lose theirs together. -/
def Dev.loseTrack (d : Dev) (t : TrackId) : Dev :=
  if !(d.b t.validKey) then d
  else
    let rates : List Nat := if t.isRow then (List.range 128).map (fun n => el Obj.ROW_RATE (n + 1)) else [t.rateKey]
    (rates.foldl (fun d k => d.setO k 0) ((d.setB t.validKey false).event 0xF4))

/-! ### Commands of the chapter -/

/-- The state with `f` applied to the E960 and its status objects computed anew; the queue of waiting commands is left
alone. -/
def State.run (s : State) (f : Dev → Dev) : Host.Outcome State Fault Refusal := .next { s with dev := (f s.dev).settle }

/-- Engines run from step 5 of the start on (R554). -/
def Dev.alive (d : Dev) : Bool := d.phase == .engines || d.phase == .service

/-- `f` while the engines run; without them nothing happens (R554, R555). -/
def State.live (s : State) (f : Dev → Dev) : Host.Outcome State Fault Refusal := s.run (Dev.when s.dev.alive f)

/-- `f` while the service pair serves object access (R527, R554). -/
def State.serve (s : State) (f : Dev → Dev) : Host.Outcome State Fault Refusal :=
  s.run (Dev.when (s.dev.phase == .service) f)

/-- TRACK_SOURCE_UPDATE (R52, R53): the track's source delivers a value and a rate. -/
def execTrackSourceUpdate (t : TrackId) (value rate : Int) (s : State) : Host.Outcome State Fault Refusal :=
  s.live (fun d => d.sourceUpdate t value (if t = .wall then d.o Obj.RATE else rate) false)

/-- TRACK_EXTRAPOLATION_TICK (R47): WALL advances by its tick of 10 ns; any other track is extrapolated to the present
WALL. -/
def execTrackExtrapolationTick (t : TrackId) (s : State) : Host.Outcome State Fault Refusal :=
  s.live (fun d => (if t = .wall then d.moveTo .wall (d.wall + 10) false else d.extrapolate t).trackWrites t)

/-- Whether the loss of a source can befall a track: WALL has none (R54), and MAINS none while the island runs (R216). -/
def Dev.canLose (d : Dev) (t : TrackId) : Bool := t != .wall && !(t == .mains && d.grid.island)

/-- TRK_INVALID (R54): no source update within the source timeout. -/
def execTrkInvalid (t : TrackId) (s : State) : Host.Outcome State Fault Refusal :=
  s.live (fun d => d.when (d.canLose t) (fun d => d.loseTrack t))

/-- Whether the fields of a slot form a combination R60 refuses. -/
def Dev.slotRefused (d : Dev) (n : Nat) : Bool :=
  let act := d.n (slotKey Obj.ACTION n)
  let arg := d.n (slotKey Obj.ARG n)
  let tr := d.n (slotKey Obj.TRACK_3200 n)
  (trackOf tr).isNone || decide (5 < act) || (act == 1 && decide (arg % 256 < 0xF8)) ||
    (act == 2 && !([0, 1, 2, 4, 5].contains (arg % 16))) || act == 4 || (act == 5 && decide (5 < arg % 16)) ||
    ((tr == 0 || tr == 3) && d.n (slotKey Obj.QUALIFIER_3200 n) == 2)

/-- Result codes of R419 that slots use. -/
def resReadOnly : Nat := 0x20000001
def resRole : Nat := 0x20000003
def resRange : Nat := 0x30000002
def resCombination : Nat := 0x30000004
def resState : Nat := 0x40000002
def resBusy : Nat := 0x50000001

/-- The result of an access or of a command write (R419). -/
def Dev.res (d : Dev) (code : Nat) : Dev := { d with result := code }

/-- A write accepted and handed to its owner (R41, R601). -/
def Dev.deliver (d : Dev) (key : Nat) (val : Int) (block : Option Bytes := none) : Dev :=
  { d with writes := d.writes ++ [{ key := key, val := val, block := block }] }

/-- A write to a slot on an invalid track, and one on a track that has no update, takes effect at once (R62). -/
def Dev.slotNow (d : Dev) (n : Nat) : Dev :=
  match trackOf (d.n (slotKey Obj.TRACK_3200 n)) with
  | some t => if d.b t.validKey then d else d.trackWrites t
  | none => d

/-- The fields of slot `n` as they will read once the accepted writes have taken effect (R601). -/
def Dev.slotAhead (d : Dev) (n : Nat) : Dev :=
  (d.writes.filter (fun w => keyIdx w.key == 0x3200 + n && keySub w.key != 7)).foldl (fun d w => d.setO w.key w.val) d

/-- A CONTROL arm of slot `n` (R57, R60, R61): a refused combination sets REFUSED and leaves the slot disarmed. -/
def Dev.armSlot (d : Dev) (n : Nat) : Dev :=
  if n < 416 then d.res resRole
  else if (d.slotAhead n).slotRefused n then
    ((d.slotArmed n false false).setBit (slotKey Obj.STATUS_3200 n) 5 true).res resCombination
  else if d.courierPending n then d.res resBusy
  else ((d.deliver (slotKey Obj.CONTROL_3200 n) 1).slotNow n).res 0

/-- SLOT_CONTROL_ARM (R60, R61, R62). -/
def execSlotControlArm (n : Fin 512) (s : State) : Host.Outcome State Fault Refusal := s.live (fun d => d.armSlot n)

/-- A CONTROL disarm of slot `n` (R57, R66). -/
def Dev.disarmSlot (d : Dev) (n : Nat) : Dev :=
  if n < 416 then d.res resRole
  else if d.courierPending n then d.res resBusy
  else ((d.deliver (slotKey Obj.CONTROL_3200 n) 2).slotNow n).res 0

/-- SLOT_CONTROL_DISARM (R66). -/
def execSlotControlDisarm (n : Fin 512) (s : State) : Host.Outcome State Fault Refusal :=
  s.live (fun d => d.disarmSlot n)

/-- The check of a value against the ranges of R58 and R59: the result code, 0 for accepted.  Reserved bits of ARG are
ignored (R18). -/
def Dev.slotFieldCheck (d : Dev) (n sub : Nat) (v : Int) : Nat :=
  let act := d.n (slotKey Obj.ACTION n)
  let tr := d.n (slotKey Obj.TRACK_3200 n)
  let c := if n < 416 then resReadOnly else match sub with
    | 1 => if v < 0 ∨ (trackOf v.toNat).isNone then resRange else 0
    | 2 => if v < -(2 ^ 63) ∨ 2 ^ 63 ≤ v then resRange else 0
    | 3 => if v < 1 ∨ 3 < v then resRange else if v = 2 ∧ (tr = 0 ∨ tr = 3) then resCombination else 0
    | 4 => if v < 0 ∨ 5 < v ∨ v = 4 then resRange else 0
    | 5 => if v < 0 ∨ 65535 < v then resRange
           else if act = 1 ∧ v % 256 < 0xF8 then resRange
           else if act = 2 ∧ !([0, 1, 2, 4, 5].contains (v % 16)) then resRange
           else if act = 5 ∧ 5 < v % 16 then resRange else 0
    | _ => if v < 0 ∨ 2 ^ 31 < v then resRange else 0
  if c ≠ 0 then c else if d.courierPending n then resBusy else 0

/-- The value a slot field takes: reserved bits of ARG read 0 (R18, R59). -/
def Dev.slotFieldValue (d : Dev) (n sub : Nat) (v : Int) : Int :=
  if sub = 5 then
    match d.n (slotKey Obj.ACTION n) with
    | 1 => v % 256
    | 2 => v % 64
    | 3 => v % 128
    | 5 => v % 16
    | _ => v
  else v

/-- A write to TRACK, TARGET, QUALIFIER, ACTION, ARG or PERIOD of a slot (R57, R60, R61). -/
def Dev.writeSlotField (d : Dev) (n sub : Nat) (v : Int) : Dev :=
  let da := d.slotAhead n
  let c := da.slotFieldCheck n sub v
  if c = 0 then ((d.deliver (slotKey Obj.TRACK_3200 n + (sub - 1)) (da.slotFieldValue n sub v)).slotNow n).res 0
  else d.res c

/-- SLOT_FIELD_WRITE (R60): `field` 0 to 5 is TRACK, TARGET, QUALIFIER, ACTION, ARG, PERIOD. -/
def execSlotFieldWrite (n : Fin 512) (field : Fin 6) (value : Int) (s : State) : Host.Outcome State Fault Refusal :=
  s.live (fun d => d.writeSlotField n (field + 1) value)

end Sys2Proof.Machine
end

