-- ==== Sys2Proof/Machine/Feedback.lean ====
section
/-! DEFINITION. Position and speed feedback (R69 to R98, R603): position sources and the learning of ELEC_OFFSET, SSI
encoders, incremental encoders, Hall sets, speeds, probes, wheel and radar pulses and the inertial sensor. -/

namespace Sys2Proof.Machine

/-! ### Position sources (R69 to R74) -/

/-- The difference of two angles as a signed 16-bit number (R81). -/
def ang16 (x : Int) : Int := signedMod 16 x

/-- The hidden state of a machine's position source. -/
def Dev.sourceOf (d : Dev) (m : Mach) : Source := Tab.get {} d.source (mnum m)

/-- The hidden state of a machine's position source changed. -/
def Dev.updSource (d : Dev) (m : Mach) (f : Source → Source) : Dev :=
  { d with source := Tab.upd {} d.source (mnum m) f }

/-- An object of `3430` or `3431` for machine `m`. -/
def srcKey (m : Mach) (k : Nat) : Nat := at' k (mnum m)

/-- Whether a source of R69 is valid: it has delivered, and no sensor fault of it is in force. -/
def Dev.sourceValid (d : Dev) (m : Mach) (src : Nat) : Bool :=
  match src with
  | 1 | 2 => let s := d.ssiOf (src - 1); s.accepted && !(s.bad && d.faultOn (mcode m 0x1210))
  | 3 | 4 => let i : IncIn := Tab.get {} d.inc (src - 3); !(i.bad && d.faultOn (mcode m 0x1211))
  | 5 | 6 =>
    let h : HallIn := Tab.get {} d.hall (src - 5)
    decide (h.last ≠ 0) && !(h.bad && d.faultOn (mcode m 0x1212))
  | 7 => d.b (tk m Obj.LOCKED_4230)
  | _ => false

/-- The electrical angle of a single-turn fraction `num / den`: pole pairs, direction and ELEC_OFFSET applied (R71,
R81, R85). -/
def Dev.elecAngle (d : Dev) (m : Mach) (num : Int) (den : Nat) : Nat :=
  let pp := d.o (srcKey m Obj.POLE_PAIRS_3430)
  let a := (num * pp) % den * 65536 / den
  let a := if d.b (srcKey m Obj.SENSOR_REVERSED) then -a else a
  ((a + d.o (srcKey m Obj.ELEC_OFFSET)) % 65536).toNat

/-- An electrical angle given directly, with direction and ELEC_OFFSET applied (R71, R88). -/
def Dev.elecOf (d : Dev) (m : Mach) (a : Int) : Nat :=
  let a := if d.b (srcKey m Obj.SENSOR_REVERSED) then -a else a
  ((a + d.o (srcKey m Obj.ELEC_OFFSET)) % 65536).toNat

/-- The turn count that places an angle nearest a track value (R81). -/
def nearestTurn (value : Int) (ang : Nat) : Int := (value - ang + 32768) / 65536

/-- A source with no active source before it becomes the active one at its first valid reading (R51, R69). -/
def Dev.adopt (d : Dev) (m : Mach) (src : Nat) : Dev :=
  d.when (d.o (srcKey m Obj.ACTIVE_SOURCE) == 0 &&
      (d.o (srcKey m Obj.PRIMARY) == (src : Int) ||
        (d.o (srcKey m Obj.SECONDARY) == (src : Int) && !(d.sourceValid m (d.n (srcKey m Obj.PRIMARY))))) &&
      d.sourceValid m src)
    (fun d => (d.setO (srcKey m Obj.ACTIVE_SOURCE) src).event (mev m 0x35))

/-- The readings of the recovered primary that agree with the active source, in a row (R74). -/
def Dev.countAgree (d : Dev) (m : Mach) (src ang : Nat) : Dev :=
  if d.o (srcKey m Obj.PRIMARY) == (src : Int) && d.o (srcKey m Obj.ACTIVE_SOURCE) != (src : Int) then
    let ok := d.sourceValid m src && decide ((ang16 (ang - d.value (angOf m))).natAbs ≤ 2048)
    d.updSource m (fun s => { s with agree := if ok then min 64 (s.agree + 1) else 0 })
  else d

/-- An angle and rate delivered to ANGA or ANGB when its source is the active one and has no sensor fault (R73). -/
def Dev.deliverAngle (d : Dev) (m : Mach) (src : Nat) (total rate : Int) (jump : Bool) : Dev :=
  if d.o (srcKey m Obj.ACTIVE_SOURCE) == (src : Int) && d.sourceValid m src then
    d.sourceUpdate (angOf m) total rate jump
  else d

/-- The rate of a track in electrical turns: whether its frequency lies between 5 Hz and 500 Hz (R72). -/
def Dev.learnFrequency (d : Dev) (m : Mach) : Bool :=
  let r := (d.o (angOf m).rateKey).natAbs
  decide (5 * 65536 ≤ r) && decide (r ≤ 500 * 65536)

/-- The conditions of R72, with the back-EMF peak the HV node measures (0.1 V). -/
def Dev.learnConditions (d : Dev) (m : Mach) (emf : Nat) : Bool :=
  d.stopped (mdom m) && d.sourceValid m (d.n (srcKey m Obj.PRIMARY)) && d.learnFrequency m && decide (200 ≤ emf) &&
    (d.o Obj.VDC == 0 || decide ((10 * emf : Int) < 9 * d.o Obj.VDC))

/-- OFFSET_LEARN 1 (R72): learning starts when its conditions hold. -/
def Dev.learnStart (d : Dev) (m : Mach) (emf : Nat) : Dev :=
  if d.learnConditions m emf && !((d.sourceOf m).learning) then
    ((d.setO (srcKey m Obj.LEARN_STATUS) 1).updSource m
      (fun s => { s with learning := true, learnDevs := [], learnLast := none })).res 0
  else d.res resState

/-- OFFSET_LEARN_START (R72). -/
def execOffsetLearnStart (m : Mach) (emf : Nat) (s : State) : Host.Outcome State Fault Refusal :=
  s.serve (fun d => d.learnStart m emf)

/-- The learning ends with this LEARN_STATUS (R69, R72). -/
def Dev.learnEnd (d : Dev) (m : Mach) (status : Nat) : Dev :=
  (d.setO (srcKey m Obj.LEARN_STATUS) status).updSource m
    (fun s => { s with learning := false, learnDevs := [], learnLast := none })

/-- OFFSET_LEARN_ABORT (R69): a running learning ends idle. -/
def execOffsetLearnAbort (m : Mach) (s : State) : Host.Outcome State Fault Refusal :=
  s.serve (fun d => ((d.when (d.sourceOf m).learning (fun d => d.learnEnd m 0)).res 0))

/-- LEARN_ZERO_CROSSING (R72): the source angle at a positive-going U-V crossing is recorded; the 64th ends it. -/
def execLearnZeroCrossing (m : Mach) (s : State) : Host.Outcome State Fault Refusal :=
  s.live (fun d =>
    let st := d.sourceOf m
    if !st.learning then d
    else
      let dx := d.extrapolate (angOf m)
      let v := dx.value (angOf m)
      let devs := st.learnDevs ++ [ang16 (v - 27307)]
      let falls := match st.learnLast with
        | some l => decide ((angOf m).diff l v < 0)
        | none => false
      if falls then dx.learnEnd m 4
      else if devs.length < 64 then dx.updSource m (fun s => { s with learnDevs := devs, learnLast := some v })
      else
        let sum : Int := devs.foldl (· + ·) 0
        if devs.any (fun x => decide (182 * 64 < (64 * x - sum).natAbs)) then dx.learnEnd m 3
        else (dx.setO (srcKey m Obj.ELEC_OFFSET) ((dx.o (srcKey m Obj.ELEC_OFFSET) - sum / 64) % 65536)).learnEnd m 2)

/-- LEARN_CONDITIONS_LOST (R72): LEARN_STATUS reads 5. -/
def execLearnConditionsLost (m : Mach) (s : State) : Host.Outcome State Fault Refusal :=
  s.live (fun d => d.when (d.sourceOf m).learning (fun d => d.learnEnd m 5))

/-! ### SSI encoders (R75 to R81) -/

/-- Gray to binary over `n` bits (R77). -/
def grayToBinary : Nat → Nat → Nat
  | 0, _ => 0
  | n + 1, g =>
    let hi := grayToBinary n (g / 2)
    2 * hi + (hi % 2 + g % 2) % 2

/-- The parity of the low `n` bits. -/
def parity : Nat → Nat → Nat
  | 0, _ => 0
  | n + 1, x => (x % 2 + parity n (x / 2)) % 2

/-- The CRC-6 of R75, polynomial x^6 + x + 1, initial value 0, over the low `n` bits of `x`, most significant first. -/
def crc6 : Nat → Nat → Nat
  | 0, _ => 0
  | n + 1, x =>
    let c := crc6 n (x / 2)
    let top := c / 32 % 2
    let sh := (2 * c) % 64
    if (top + x % 2) % 2 = 1 then Nat.xor sh 3 else sh

/-- Why a frame is rejected, in the order of R78: 1 leading bit, 2 check, 3 status error, 4 DATA not released, 5
plausibility; 0 accepted. -/
def Dev.ssiReject (d : Dev) (e lead word status check : Nat) (dataLow : Bool) (ang : Option Nat) : Nat :=
  let o (k : Nat) : Nat := d.n (at' k e)
  let bits := o Obj.WORD_BITS + o Obj.STATUS_BITS
  let x := word * 2 ^ o Obj.STATUS_BITS + status
  let checkBad := match o Obj.CHECK with
    | 1 => decide ((parity bits x + check) % 2 ≠ 0)
    | 2 => decide (crc6 bits x ≠ check)
    | 3 => decide (63 - crc6 bits x ≠ check)
    | _ => false
  let mask := o Obj.STATUS_ERROR
  let statusBad := (List.range (o Obj.STATUS_BITS)).any (fun i =>
    decide (mask / 2 ^ i % 2 = 1) && decide (status / 2 ^ i % 2 = mask / 2 ^ (4 + i) % 2))
  if decide (o Obj.LEADING ≠ 0) && decide (lead ≠ 0) then 1
  else if checkBad then 2
  else if statusBad then 3
  else if dataLow then 4
  else match ang, d.machOf [e + 1] with
    | some a, some m =>
      let t := angOf m
      if !(d.ssiOf e).skipPlaus && d.b t.validKey &&
          decide (o Obj.PLAUS_LIMIT < (ang16 (a - (d.extrapolate t).value t)).natAbs) then 5 else 0
    | _, _ => 0

/-- The sensor fault of an SSI encoder (R78, R98). -/
def Dev.ssiFault (d : Dev) (e : Nat) : Dev :=
  match d.machOf [e + 1] with
  | some m => (d.updSsi e (fun s => { s with bad := true })).raise (mcode m 0x1210) true { ini := 0x20 + mnum m, acc := 5 }
  | none => d

/-- An accepted frame: turn count, rate, agreement with the active source and delivery to the track (R81). -/
def Dev.ssiAccept (d : Dev) (e : Nat) (m : Mach) (ang : Nat) : Dev :=
  let d := d.updSsi e (fun s => { s with accepted := s.accepted || d.ssiRecovered e || !s.bad })
  let d := d.adopt m (e + 1)
  let s := d.ssiOf e
  let active := d.o (srcKey m Obj.ACTIVE_SOURCE) == (e + 1 : Nat)
  let t := angOf m
  let step := ang16 (ang - s.angle)
  let turn :=
    if active && !s.asActive && (d.trk t).started then nearestTurn ((d.extrapolate t).value t) ang
    else if s.latch ≤ s.lastLatch ∨ s.lastLatch = 0 then s.turn
    else if 0 < step ∧ ang < s.angle then s.turn + 1
    else if step < 0 ∧ s.angle < ang then s.turn - 1 else s.turn
  let rate := if s.lastLatch ≠ 0 ∧ s.lastLatch < s.latch then step * 1000000000 / ((s.latch : Int) - s.lastLatch) else 0
  let total := turn * 65536 + ang
  let carried := total + rate * ((d.wall : Int) - s.latch - d.o (at' Obj.ENC_LATENCY e)) / 1000000000
  let d1 := d.updSsi e (fun s => { s with
    rejects := 0, lastLatch := s.latch, angle := ang, turn := turn, total := total, rate := rate, skipPlaus := false,
    asActive := active })
  let others := [0, 1].any (fun k => decide (k ≠ e) && (d1.ssiOf k).bad && d1.machOf [k + 1] == some m)
  ((d1.when (!others) (fun d => d.causeGone (mcode m 0x1210))).countAgree m (e + 1) ang).deliverAngle m (e + 1)
    carried rate false

/-- The last bit of a frame has been sampled (R76 to R81): leading bits, position word, status bits and check field as
received, the measured delay, and whether DATA was still low when the frame's request started. -/
def Dev.ssiFrameEnd (d : Dev) (e lead word status check delay : Nat) (dataLow : Bool) : Dev :=
  let s := d.ssiOf e
  if !s.inFrame then d
  else
    let d1 := (d.updSsi e (fun s => { s with inFrame := false, mono := true, measuring := false,
                                             pending := s.pending || s.measuring })).when (d.autoDelay e)
      (fun d => d.setO (at' Obj.MEASURED_DELAY e) delay)
    if s.measuring then d1
    else
      let w := if d.o (at' Obj.CODING e) = 1 then grayToBinary (d.n (at' Obj.WORD_BITS e)) word else word
      let r := d.n (at' Obj.TURN_BITS e)
      let m? := d.machOf [e + 1]
      let ang := m?.map (fun m => d.elecAngle m ((w % 2 ^ r : Nat) : Int) (2 ^ r))
      let why := d.ssiReject e lead word status check dataLow ang
      if why ≠ 0 then
        let d2 := ((d1.addSat (at' Obj.REJECTS e)).setO (at' Obj.LAST_REJECT e) why).updSsi e
          (fun s => { s with rejects := s.rejects + 1 })
        match m? with
        | some m => (d2.event (mev m 0x30)).when (decide (3 ≤ s.rejects + 1)) (fun d => d.ssiFault e)
        | none => d2
      else
        let d2 := d1.setO (at' Obj.RAW_WORD e) w
        match m?, ang with
        | some m, some a => d2.ssiAccept e m a
        | _, _ => d2

/-- SSI_FRAME_END (R78). -/
def execSsiFrameEnd (e : Fin 2) (lead word status check delay : Nat) (dataLow : Bool) (s : State) :
    Host.Outcome State Fault Refusal :=
  s.live (fun d => d.ssiFrameEnd e lead word status check delay dataLow)

/-- SSI_GUARD_TIMER (R79): on an input a machine names, the guard starts a request. -/
def execSsiGuardTimer (e : Fin 2) (s : State) : Host.Outcome State Fault Refusal :=
  s.live (fun d => d.when (d.machOf [e.val + 1]).isSome (fun d => d.ssiRequest e))

/-- SSI_MONOFLOP_END (R80): the encoder is ready and a request held pending starts. -/
def execSsiMonoflopEnd (e : Fin 2) (s : State) : Host.Outcome State Fault Refusal :=
  s.live (fun d =>
    let st := d.ssiOf e
    if st.mono && !st.inFrame then
      (d.updSsi e (fun s => { s with mono := false })).when st.pending (fun d => d.ssiStart e)
    else d)

/-- SSI_SOURCE_TIMEOUT (R78): no accepted frame within the source timeout. -/
def execSsiSourceTimeout (e : Fin 2) (s : State) : Host.Outcome State Fault Refusal := s.live (fun d => d.ssiFault e)

/-! ### Pulses and speeds (R91, R92) -/

/-- The hidden speed state of pulse input `i` (0 INC0, 1 INC1, 2 HAL0, 3 HAL1, 4 WHL0, 5 WHL1, 6 RAD0). -/
def Dev.pulseOf (d : Dev) (i : Nat) : PulseIn := Tab.get {} d.pulse i

/-- The hidden speed state of a pulse input changed. -/
def Dev.updPulse (d : Dev) (i : Nat) (f : PulseIn → PulseIn) : Dev := { d with pulse := Tab.upd {} d.pulse i f }

/-- An edge of pulse input `i` at the present WALL. -/
def Dev.pulseEdge (d : Dev) (i : Nat) : Dev := d.updPulse i (fun p => { p with edges := d.wall :: p.edges })

/-- The speed of a pulse input by the two methods and the method reported (R92), at WALL `now`, as edges per ns; the reported speed
is at most one edge in the time since the last one once that time exceeds the last interval. -/
def pulseSpeed (p : PulseIn) (now window periodEdges coUp coDown : Nat) : PulseIn :=
  let n := (p.edges.filter (fun e => decide (now < e + window))).length
  let byCount := if p.byCount then decide (coDown < n) else decide (coUp ≤ n)
  let kept := p.edges.take (max n (periodEdges + 1))
  let byPeriod : Nat × Nat :=
    match kept with
    | e0 :: e1 :: t =>
      let k := min periodEdges (t.length + 1)
      (k, max 1 (e0 - ((e0 :: e1 :: t).drop k).headD e0))
    | _ => (0, 1)
  let s := if byCount then (n, max 1 window) else byPeriod
  let r : Nat × Nat :=
    match kept with
    | e0 :: e1 :: _ => if e0 - e1 < now - e0 ∧ s.2 ≤ s.1 * (now - e0) then (1, now - e0) else s
    | _ => s
  { edges := kept, byCount := byCount, num := r.1, den := r.2 }

/-- A wheel or radar speed in 0.1 mm/s from edges per ns (R95). -/
def Dev.wheelSpeed (d : Dev) (i : Nat) : Dev :=
  let p := d.pulseOf (4 + i)
  let ppm := d.n (at' Obj.PULSES_PER_100M i)
  d.setO (at' Obj.SPEED_3450 i) (if ppm = 0 then 0 else satU32 ((p.num * 1000000000 * 1000000 / (p.den * ppm) : Nat) : Int))

/-- SPEED_WINDOW_UPDATE (R92): every input's window is updated and its method chosen. -/
def execSpeedWindowUpdate (s : State) : Host.Outcome State Fault Refusal :=
  s.live (fun d =>
    let d1 := [0, 1, 2, 3, 4, 5, 6].foldl (fun d i => d.updPulse i (fun p =>
      pulseSpeed p d.wall (d.n Obj.WINDOW * 1000) (d.n Obj.PERIOD_EDGES) (d.n Obj.CO_UP) (d.n Obj.CO_DOWN))) d
    [0, 1, 2].foldl (fun d i => d.wheelSpeed i) d1)

/-- SPEED_ZERO_TIMEOUT (R92): after ZERO_TIMEOUT without an edge the speed reads 0. -/
def execSpeedZeroTimeout (i : Fin 7) (s : State) : Host.Outcome State Fault Refusal :=
  s.live (fun d =>
    (d.updPulse i (fun p => { p with edges := [], byCount := false, num := 0, den := 1 })).when (decide (4 ≤ i.val))
      (fun d => d.setO (at' Obj.SPEED_3450 (i.val - 4)) 0))

/-- WHEEL_PULSE (R95): a pulse of this width, ns, is counted, or counted as a glitch. -/
def execWheelPulse (i : Fin 3) (width : Nat) (s : State) : Host.Outcome State Fault Refusal :=
  s.live (fun d =>
    if width < d.n (at' Obj.FILTER_US_3450 i) * 1000 then (d.addSat (at' Obj.GLITCHES i)).event 0xC8
    else (d.addWrap (at' Obj.PULSES_3450 i)).pulseEdge (4 + i))

/-! ### Incremental encoders (R82 to R86) -/

/-- The hidden state of INC `i`. -/
def Dev.incOf (d : Dev) (i : Nat) : IncIn := Tab.get {} d.inc i

/-- The hidden state of INC `i` changed. -/
def Dev.updInc (d : Dev) (i : Nat) (f : IncIn → IncIn) : Dev := { d with inc := Tab.upd {} d.inc i f }

/-- The hidden state of HAL `i`. -/
def Dev.hallOf (d : Dev) (i : Nat) : HallIn := Tab.get {} d.hall i

/-- The hidden state of HAL `i` changed. -/
def Dev.updHall (d : Dev) (i : Nat) (f : HallIn → HallIn) : Dev := { d with hall := Tab.upd {} d.hall i f }

/-- The sensor fault of an incremental encoder (R84, R86, R98): the end of its validity. -/
def Dev.incFault (d : Dev) (i : Nat) : Dev :=
  match d.machOf [3 + i] with
  | some m => (d.updInc i (fun s => { s with bad := true })).raise (mcode m 0x1211) false { ini := 0x20 + mnum m, acc := 5 }
  | none => d

/-- The signed speed of a source in angle units per second: `num / den` edges per ns, `perTurn` edges per electrical
turn. -/
def edgeRate (p : PulseIn) (fwd : Bool) (num den : Int) : Int :=
  let r := (p.num : Int) * 1000000000 * num / (max 1 ((p.den : Int) * den))
  if fwd then r else -r

/-- The angle of INC `i` delivered to its machine (R85). -/
def Dev.incDeliver (d : Dev) (i : Nat) : Dev :=
  match d.machOf [3 + i] with
  | none => d
  | some m =>
    let s := d.incOf i
    let perTurn := 4 * d.n (at' Obj.LINES i)
    let rev := d.b (srcKey m Obj.SENSOR_REVERSED)
    let ang := match s.ref with
      | some r => d.elecAngle m (s.raw - r) perTurn
      | none => d.elecOf m (d.hallOf i).angle
    let rate := edgeRate (d.pulseOf i) (s.lastFwd != rev) (65536 * d.o (srcKey m Obj.POLE_PAIRS_3430)) perTurn
    let d := (d.adopt m (3 + i)).countAgree m (3 + i) ang
    let t := angOf m
    let near := if (d.trk t).started then nearestTurn ((d.extrapolate t).value t) ang else 0
    d.deliverAngle m (3 + i) (near * 65536 + ang) rate false

/-- The A/B states in forward order, A leading B, coded B * 2 + A (R82). -/
def quadPhase (ab : Nat) : Nat := if ab = 0 then 0 else if ab = 1 then 1 else if ab = 3 then 2 else 3

/-- A filtered change of A and B to a new state, coded B * 2 + A (R82, R86). -/
def Dev.incEdge (d : Dev) (i ab : Nat) : Dev :=
  let s := d.incOf i
  let step := (quadPhase ab + 4 - quadPhase s.ab) % 4
  if step = 0 then d
  else if step = 2 then
    let perTurn := 4 * d.o (at' Obj.LINES i)
    let quads := s.raw :: s.quads.filter (fun r => decide (((s.raw - r).natAbs : Int) < perTurn))
    let d1 := (d.addSat (at' Obj.QUAD_ERRORS i)).updInc i (fun s => { s with ab := ab, quads := quads })
    match d.machOf [3 + i] with
    | some m => (d1.event (mev m 0x32)).when (decide (3 ≤ quads.length)) (fun d => d.incFault i)
    | none => d1
  else
    let fwd := step = 1
    let inc : Int := if fwd then 1 else -1
    let d1 := (d.updInc i (fun s => { s with
      ab := ab, raw := s.raw + inc, lastFwd := fwd, reversed := s.reversed || (s.lastFwd != decide fwd) })).setO
      (at' Obj.COUNT_3410 i) (signedMod 32 (d.o (at' Obj.COUNT_3410 i) + inc))
    (d1.pulseEdge i).incDeliver i

/-- INC_EDGE (R82). -/
def execIncEdge (i : Fin 2) (ab : Fin 4) (s : State) : Host.Outcome State Fault Refusal :=
  s.live (fun d => d.incEdge i ab)

/-- A Z pulse; it is a qualified index while A and B are in INDEX_STATE (R83 to R85). -/
def Dev.incIndex (d : Dev) (i : Nat) : Dev :=
  let s := d.incOf i
  let q := d.n (at' Obj.INDEX_STATE i)
  if q ≠ 4 ∧ q ≠ s.ab then d
  else
    let count := d.o (at' Obj.COUNT_3410 i)
    let d1 := d.when s.latchArmed (fun d =>
      ((d.setO (at' Obj.INDEX_LATCH i) count).setO (at' Obj.INDEX_LATCH_WALL i) d.wall).updInc i
        (fun s => { s with latchArmed := false }))
    let mode := d.n (at' Obj.INDEX_RESET i)
    let d2 := d1.when (decide (mode = 1) || (decide (mode = 2) && s.resetArmed)) (fun d =>
      (d.setO (at' Obj.COUNT_3410 i) (d.o (at' Obj.INDEX_VALUE i))).updInc i (fun s => { s with resetArmed := false }))
    let wrong := match s.lastIndex with
      | some l => !s.reversed &&
          decide (d.o (at' Obj.LC_TOLERANCE i) < ((((s.raw - l).natAbs : Int) - 4 * d.o (at' Obj.LINES i)).natAbs : Int))
      | none => false
    let checked := s.lastIndex.isSome && !s.reversed
    let mism := if wrong then s.mismatches + 1 else if checked then 0 else s.mismatches
    let d3 := d2.updInc i (fun s => { s with
      lastIndex := some s.raw, reversed := false, mismatches := mism, ref := if wrong then s.ref else some s.raw })
    let d4 := d3.when wrong (fun d =>
      let d := d.addSat (at' Obj.LC_MISMATCHES i)
      match d.machOf [3 + i] with
      | some m => (d.event (mev m 0x31)).when (decide (3 ≤ mism)) (fun d => d.incFault i)
      | none => d)
    d4.incDeliver i

/-- INC_QUALIFIED_INDEX (R83, R84, R85). -/
def execIncQualifiedIndex (i : Fin 2) (s : State) : Host.Outcome State Fault Refusal := s.live (fun d => d.incIndex i)

/-- INC_ARM_RESET (R82, R83): ARM_RESET 1 arms a once-after-arming reset. -/
def execIncArmReset (i : Fin 2) (s : State) : Host.Outcome State Fault Refusal :=
  s.live (fun d => (d.updInc i (fun s => { s with resetArmed := true })).res 0)

/-- INC_OPEN_WIRE (R86): open-wire detection under INPUT_MODE 0. -/
def execIncOpenWire (i : Fin 2) (s : State) : Host.Outcome State Fault Refusal :=
  s.live (fun d => d.when (d.o (at' Obj.INPUT_MODE i.val) == 0) (fun d => d.incFault i))

/-! ### Hall sets (R87 to R90) -/

/-- The place of a valid Hall state in forward order 1, 3, 2, 6, 4, 5 (R87). -/
def hallPlace : Nat → Nat
  | 1 => 0 | 3 => 1 | 2 => 2 | 6 => 3 | 4 => 4 | _ => 5

/-- EDGE_ANGLE for entry into the state at a place (R87). -/
def Dev.edgeAngle (d : Dev) (i place : Nat) : Nat :=
  ofLe (((d.block (at' Obj.EDGE_ANGLE i)).drop (2 * (place % 6))).take 2)

/-- The angle of the centre of the state at a place (R88). -/
def Dev.hallCentre (d : Dev) (i place : Nat) : Nat :=
  let a := d.edgeAngle i place
  (a + ((d.edgeAngle i (place + 1) + 65536 - a) % 65536) / 2) % 65536

/-- The sensor fault of a Hall set (R89, R90, R98). -/
def Dev.hallFault (d : Dev) (i : Nat) (lasting : Bool) : Dev :=
  match d.machOf [5 + i, 3 + i] with
  | some m => (d.updHall i (fun s => { s with bad := true })).raise (mcode m 0x1212) lasting { ini := 0x20 + mnum m, acc := 5 }
  | none => d

/-- The angle of HAL `i` delivered to its machine, directly or for an incremental source without its reference. -/
def Dev.hallDeliver (d : Dev) (i : Nat) (far : Option Nat) (jump : Bool) : Dev :=
  match d.machOf [5 + i] with
  | none => d
  | some m =>
    let h := d.hallOf i
    let ang := d.elecOf m h.angle
    let rev := d.b (srcKey m Obj.SENSOR_REVERSED)
    let fwd := h.fwd != rev
    let rate := if far.isSome then edgeRate (d.pulseOf (2 + i)) fwd 65536 6 else 0
    let d := (d.adopt m (5 + i)).countAgree m (5 + i) ang
    let t := angOf m
    let near := if (d.trk t).started then nearestTurn ((d.extrapolate t).value t) ang else 0
    let total := near * 65536 + ang
    let d1 := d.deliverAngle m (5 + i) total rate jump
    match far with
    | some f =>
      let toFar := if fwd then (((d.elecOf m f : Nat) : Int) - ang) % 65536 - 1
        else -((((ang : Nat) : Int) - d.elecOf m f) % 65536 - 1)
      d1.updTrack t (fun k => { k with limit := some (total + toFar) })
    | none => d1

/-- A Hall state, as read at the three inputs (R87 to R90). -/
def Dev.hallChange (d : Dev) (i raw : Nat) : Dev :=
  let st := Nat.xor raw (d.n (at' Obj.INVERT i)) % 8
  let old := d.n (at' Obj.STATE_3420 i)
  if st = old then d
  else
    let h := d.hallOf i
    let mev? (e : Nat) (d : Dev) : Dev := match d.machOf [5 + i, 3 + i] with
      | some m => d.event (mev m e)
      | none => d
    let d1 := (d.setO (at' Obj.STATE_3420 i) st)
    if st = 0 ∨ st = 7 then
      let imp := h.changes :: h.impossible.filter (fun c => decide (h.changes < c + 6))
      ((mev? 0x33 (d1.addSat (at' Obj.IMPOSSIBLE i))).updHall i (fun h => { h with impossible := imp })).when
        (decide (3 ≤ imp.length)) (fun d => d.hallFault i true)
    else
      let d2 := (d1.pulseEdge (2 + i)).when (old == 0 || old == 7) (fun d =>
        match d.machOf [5 + i, 3 + i] with
        | some m => d.causeGone (mcode m 0x1212)
        | none => d)
      let pNew := hallPlace st
      let pOld := hallPlace h.last
      let step := (pNew + 6 - pOld) % 6
      let changes := h.changes + 1
      if h.last = 0 then
        (d2.updHall i (fun h => { h with last := st, changes := changes, angle := d.hallCentre i pNew })).hallDeliver i
          none false
      else if step = 0 then (d2.updHall i (fun h => { h with changes := changes })).hallDeliver i none false
      else if step = 1 then
        (d2.updHall i (fun h => { h with last := st, changes := changes, fwd := true, angle := d.edgeAngle i pNew })).hallDeliver
          i (some (d.edgeAngle i (pNew + 1))) false
      else if step = 5 then
        (d2.updHall i (fun h => { h with last := st, changes := changes, fwd := false, angle := d.edgeAngle i pOld })).hallDeliver
          i (some (d.edgeAngle i pNew)) false
      else
        let errs := changes :: h.seqErrs.filter (fun c => decide (changes < c + 64))
        let d3 := (mev? 0x34 (d2.addSat (at' Obj.SEQ_ERRORS i))).updHall i
          (fun h => { h with last := st, changes := changes, seqErrs := errs, angle := d.hallCentre i pNew })
        (d3.hallDeliver i none true).when (decide (3 ≤ errs.length)) (fun d => d.hallFault i false)

/-- HALL_STATE_CHANGE (R88, R89, R90): `raw` is the state at the inputs, A at bit 0, before INVERT. -/
def execHallStateChange (i : Fin 2) (raw : Fin 8) (s : State) : Host.Outcome State Fault Refusal :=
  s.live (fun d => d.hallChange i raw)

/-- HALL_IMPOSSIBLE_TIMEOUT (R89): the impossible state has lasted 200 µs. -/
def execHallImpossibleTimeout (i : Fin 2) (s : State) : Host.Outcome State Fault Refusal :=
  s.live (fun d => d.when (d.o (at' Obj.STATE_3420 i.val) == 0 || d.o (at' Obj.STATE_3420 i.val) == 7)
    (fun d => d.hallFault i true))

/-- HALL_ZERO_TIMEOUT (R88): the angle is the centre of the present state. -/
def execHallZeroTimeout (i : Fin 2) (s : State) : Host.Outcome State Fault Refusal :=
  s.live (fun d =>
    let st := d.n (at' Obj.STATE_3420 i)
    if st = 0 ∨ st = 7 then d
    else (d.updHall i (fun h => { h with angle := d.hallCentre i (hallPlace st) })).hallDeliver i none false)

/-! ### Probes (R93, R94) -/

/-- PROBE_ARM (R94): the latch captures the next qualified edge. -/
def execProbeArm (p : Fin 4) (s : State) : Host.Outcome State Fault Refusal :=
  s.live (fun d => (d.armLatch p).res 0)

/-- PROBE_ACKNOWLEDGE (R94): CAPTURED and OVERRUN clear. -/
def execProbeAcknowledge (p : Fin 4) (s : State) : Host.Outcome State Fault Refusal :=
  s.live (fun d => ((d.setBit (at' Obj.STATUS_3440 p) 1 false).setBit (at' Obj.STATUS_3440 p) 2 false).res 0)

/-- PROBE_DISARM (R93). -/
def execProbeDisarm (p : Fin 4) (s : State) : Host.Outcome State Fault Refusal :=
  s.live (fun d => (({ d with probes := Tab.upd {} d.probes p (fun q => { q with armed := false }) }).setBit
    (at' Obj.STATUS_3440 p) 0 false).res 0)

/-- An edge of a probe, after its filter (R94). -/
def Dev.probeEdge (d : Dev) (p : Nat) (rising : Bool) : Dev :=
  let pr : Probe := Tab.get {} d.probes p
  let edge := d.n (at' Obj.EDGE p)
  let ok := decide (edge = 3) || decide (edge = if rising then 1 else 2)
  if !(pr.armed && ok && decide (pr.from_ ≤ d.wall)) then d
  else
    let code := d.n (at' Obj.TRACK_3440 p)
    let dx := match trackOf code with
      | some t => d.extrapolate t
      | none => d
    let oneShot := d.o (at' Obj.MODE_3440 p) == 1
    let again := bitOf (d.o (at' Obj.STATUS_3440 p)) 1
    let st := at' Obj.STATUS_3440 p
    let d1 := ((((dx.setO (at' Obj.CAPT_VALUE p) (dx.trackValue code)).setO (at' Obj.CAPT_WALL p) d.wall).setBit st 1
      true).setBit st 3 (!(dx.trackValid code))).event (0xA8 + p)
    let d2 := d1.when again (fun d => (d.setBit st 2 true).event 0xAC)
    ({ d2 with probes := Tab.upd {} d2.probes p (fun q => { q with armed := !oneShot, from_ := d.wall + 100 }) }).setBit
      st 0 (!oneShot)

/-- PROBE_EDGE (R94). -/
def execProbeEdge (p : Fin 4) (rising : Bool) (s : State) : Host.Outcome State Fault Refusal :=
  s.live (fun d => d.probeEdge p rising)

/-! ### Inertial sensor (R96, R97) -/

/-- IMU_SAMPLE (R96): yaw rate (µrad/s) and accelerations (mm/s²) in implement axes. -/
def execImuSample (yaw ax ay az : Int) (s : State) : Host.Outcome State Fault Refusal :=
  s.live (fun d =>
    if d.imuFailed then d
    else (((d.setO Obj.YAW_RATE_3460 (satI32 yaw)).setBlk Obj.ACCEL_3460
      (leBytes 4 ax ++ leBytes 4 ay ++ leBytes 4 az)).setO Obj.VALID_3460 1).causeGone 0x8220)

/-- The loss of the inertial sensor (R97). -/
def Dev.imuLost (d : Dev) : Dev := (d.setO Obj.VALID_3460 0).raise 0x8220 true { ini := 0x28, acc := 5 }

/-- IMU_SAMPLE_TIMEOUT (R97). -/
def execImuSampleTimeout (s : State) : Host.Outcome State Fault Refusal := s.live (fun d => d.imuLost)

end Sys2Proof.Machine
end

