-- ==== Sys2Proof/Machine/Modulation.lean ====
section
/-! DEFINITION. Modulation and single-shunt current (R99 to R130): carrier, duties and edges, measurement windows,
reconstruction, plausibility, angle-locked modulation and pattern tables. -/

namespace Sys2Proof.Machine

/-! ### Carrier and edges (R100 to R107) -/

/-- The carrier period in ticks of 2.5 ns (R102). -/
def Dev.carrierTicks (d : Dev) (m : Mach) : Nat :=
  let f := d.n (tk m Obj.F_PWM)
  2 * ((200000000 + f / 2) / max 1 f)

/-- The dead time of the bridge in force, ns (R105, R110). -/
def Dev.deadTime (d : Dev) (m : Mach) : Nat := d.n (at' Obj.DT_NOW (tracGroup m - 1))

/-- The three phase voltages of a stationary-frame vector, mV. -/
def phaseVoltages (va vb : Int) : List Int :=
  let h := vb * 929887697 / 2 ^ 30
  [va, h - va / 2, -h - va / 2]

/-- The largest of a list. -/
def maxOf : List Int → Int
  | [] => 0
  | [x] => x
  | x :: t => max x (maxOf t)

/-- The smallest of a list. -/
def minOf : List Int → Int
  | [] => 0
  | [x] => x
  | x :: t => min x (minOf t)

/-- The common-mode voltage added: centred space vector, or the clamp of the phase with the largest magnitude to the
rail of its sign (R101, R107). -/
def commonMode (scheme : Nat) (v : List Int) (vdc : Int) : Int :=
  if scheme = 0 then -(maxOf v + minOf v) / 2
  else if maxOf v + minOf v ≥ 0 then vdc / 2 - maxOf v else -(vdc / 2) - minOf v

/-- A high or low time below MIN_PULSE is rounded to 0 or to MIN_PULSE, whichever is nearer (R104). -/
def minPulse (on T mp : Int) : Int :=
  let r (x : Int) : Int := if x ≤ 0 then 0 else if x < mp then (if 2 * x < mp then 0 else mp) else x
  let on := r on
  if T - on < mp then T - r (T - on) else on

/-- The dead-time correction of one phase in ticks, linear below DT_COMP_BAND (R105). -/
def deadComp (i deadTicks bandMa : Int) : Int :=
  if bandMa ≤ (i.natAbs : Int) then (if 0 < i then deadTicks else if i < 0 then -deadTicks else 0)
  else i * deadTicks / max 1 bandMa

/-- The edge shifts of R111 in ticks for the phases in order of their duties, with T_MIN in ticks: the shift of the
phase with the largest duty (earlier) and of the one with the smallest (later), 0 where a shift would leave the
period. -/
def edgeShifts (onA onB onC T tMin : Int) : Int × Int :=
  let s1 := (onA - onB) / 2
  let s2 := (onB - onC) / 2
  let d1 := if s1 < tMin ∧ tMin - s1 ≤ (T - onA) / 2 then tMin - s1 else 0
  let d2 := if s2 < tMin ∧ (T + onC) / 2 + (tMin - s2) ≤ T then tMin - s2 else 0
  (d1, d2)

/-- The shifts of the three phases U, V, W. -/
def phaseShifts (on : List Int) (T tMin : Int) : List Int :=
  let idx := sortBy (fun a b => decide (b.1 ≤ a.1)) (on.zipIdx)
  match idx with
  | [a, b, c] =>
    let (d1, d2) := edgeShifts a.1 b.1 c.1 T tMin
    [0, 1, 2].map (fun p => if p = a.2 then -d1 else if p = c.2 then d2 else 0)
  | _ => [0, 0, 0]

/-- OM_ZONE of a modulation index (R106). -/
def omZone (M : Int) : Int := if M ≤ 14860 then 0 else if M ≤ 15598 then 1 else if M < 16384 then 2 else 3

/-- The duties in ticks of a stationary-frame voltage at modulation index `M` (R106, R107). -/
def dutiesOf (va vb M T vdcMv : Int) (scheme : Nat) : List Int :=
  let v := phaseVoltages va vb
  if vdcMv ≤ 0 then [T / 2, T / 2, T / 2]
  else if omZone M = 0 then
    let cm := commonMode scheme v vdcMv
    v.map (fun x => clampI 0 T (T / 2 + (x + cm) * T / vdcMv))
  else if omZone M = 3 then v.map (fun x => if 0 ≤ x then T else 0)
  else Config.overmodulation va vb M T

/-- MS0 places the edges of the next interval: duties, dead-time correction, minimum pulses with their remainders and
the edge shifts (R103 to R105, R111). -/
def Dev.placeEdges (d : Dev) (m : Mach) (va vb M : Int) : Dev :=
  let t := d.tracOf m
  let T : Int := d.carrierTicks m
  let mp := d.o (tk m Obj.MIN_PULSE) * 2 / 5
  let dead := (d.deadTime m : Int) * 2 / 5
  let is := [d.o (tk m Obj.I_U), d.o (tk m Obj.I_V), d.o (tk m Obj.I_W)]
  let base := dutiesOf va vb M T ((t.vdc : Int) * 100) (d.n (tk m Obj.SCHEME))
  let comp := if d.b (tk m Obj.DT_COMP) then is.map (fun i => deadComp i dead (d.o (tk m Obj.DT_COMP_BAND) * 1000))
    else [0, 0, 0]
  let want := (base.zip (comp.zip t.rests)).map (fun p => clampI 0 T (p.1 + p.2.1 + p.2.2))
  let on := want.map (fun x => minPulse x T mp)
  let rests := (want.zip on).map (fun p => p.1 - p.2)
  let tMin := d.o (tk m Obj.T_MIN) * 2 / 5
  let sh := phaseShifts on T tMin
  (d.updTrac m (fun t => { t with duties := on, rests := rests, shifts := sh })).when (sh.any (· != 0))
    (fun d => d.addSat (tk m Obj.PERIODS_SHIFTED))

/-! ### Measurement windows and reconstruction (R108 to R118) -/

/-- One hundredth of a per cent of I_FS in mA (R109). -/
def Dev.ifsUnit (d : Dev) (m : Mach) : Int := d.o (tk m Obj.I_FS) / 10

/-- An offset window result: the running mean over 64 windows, kept within OFFSET_LIMIT (R113). -/
def Dev.offsetWindow (d : Dev) (m : Mach) (y : Int) : Dev :=
  let t := d.tracOf m
  let mean := t.offMean + (y - t.offMean / 64)
  let unit := max 1 (d.ifsUnit m)
  if d.o (tk m Obj.OFFSET_LIMIT) * unit < ((mean / 64).natAbs : Int) then
    (d.event (mev m 0x3E)).raise (mcode m 0x1240) true { ini := 0x20 + mnum m, acc := 5 }
  else
    ((d.updTrac m (fun t => { t with offMean := mean })).setO (tk m Obj.OFFSET) (mean / 64 / unit)).causeGone
      (mcode m 0x1240)

/-- A usable window result: offset-corrected, sign-corrected by the state table, most recent first (R108, R113,
R114). -/
def Dev.currentWindow (d : Dev) (m : Mach) (phase : Nat) (neg : Bool) (y : Int) (theta : Nat) : Dev :=
  d.updTrac m (fun t =>
    let y0 := y - t.offMean / 64
    { t with windows := { phase := phase, y := if neg then -y0 else y0, theta := theta, age := 0 } :: t.windows })

/-- The fault of a lost link of node `h` (R35): a Domain-stop of the domain it serves, for HN5 a Safe-state. -/
def hnFault (h : Nat) : Nat := (h + 1) * 4096 + (if h = 5 then 3 else 2) * 512 + Config.linkCause h % 512

/-- A good frame of node `h`: the bad ones are no longer consecutive, and a lost link is back. -/
def Dev.hnGood (d : Dev) (h : Nat) : Dev :=
  ({ d with hnBad := Tab.del d.hnBad h, hnLost := d.hnLost.filter (· != h) }).when (d.hnLost.contains h) (fun d => d.causeGone (hnFault h))

/-- HN_WINDOW_RESULT (R33, R108, R113): the mean of a window in mA, for the offset or for a phase, with the sign of the
bridge state and the ANG stamp.  HN0 and HN1 serve the traction bridges; the results of the other nodes enter with the
boundaries they serve. -/
def execHnWindowResult (node : Fin 6) (offset : Bool) (phase : Fin 3) (neg : Bool) (y : Int) (theta : Nat) (s : State) :
    Host.Outcome State Fault Refusal :=
  s.live (fun d0 =>
    let d := d0.hnGood node
    let go (m : Mach) : Dev :=
      if offset then d.offsetWindow m y
      else if [1, 2].contains (d.n (tk m Obj.BRIDGE_STATE)) then d.currentWindow m phase neg y (theta % 65536) else d
    if node = 0 then go .A else if node = 1 then go .B
    else { d with hnLast := Tab.set 0 d.hnLast node.val y })

/-- The angle of a phase axis (R114). -/
def phaseAxis : Nat → Int
  | 0 => 0 | 1 => 21845 | _ => 43691

/-- The d and q currents of the first qualifying pair with the most recent window (R114). -/
def reconstructWith (w1 : Window) : List Window → Option (Int × Int)
  | [] => none
  | w2 :: t =>
    let a1 := (w1.theta : Int) - phaseAxis w1.phase
    let a2 := (w2.theta : Int) - phaseAxis w2.phase
    let det := sin30 (a1 - a2)
    if 2 ^ 29 ≤ det.natAbs then
      some ((sin30 a1 * w2.y - sin30 a2 * w1.y) / det, (cos30 a1 * w2.y - cos30 a2 * w1.y) / det)
    else reconstructWith w1 t

/-- The reconstruction of R114 over the candidates no older than AGE_MAX. -/
def reconstruct (ageMax : Nat) (ws : List Window) : Option (Int × Int) :=
  match ws.filter (fun w => decide (w.age ≤ ageMax)) with
  | [] => none
  | w1 :: rest => reconstructWith w1 rest

/-- The phase current of d and q currents at ANG angle `theta` (R114). -/
def phaseCurrent (id iq theta : Int) (p : Nat) : Int :=
  (id * cos30 (theta - phaseAxis p) - iq * sin30 (theta - phaseAxis p)) / 2 ^ 30

/-- The currents of a boundary in force: measured, or predicted with its count, event and stop (R114, R115). -/
def Dev.measureCurrents (d : Dev) (m : Mach) : Dev :=
  let t := d.tracOf m
  let theta := d.value (angOf m) % 65536
  let set (d : Dev) (id iq : Int) : Dev :=
    ((((d.setO (tk m Obj.I_D) (satI32 id)).setO (tk m Obj.I_Q) (satI32 iq)).setO (tk m Obj.I_U)
      (satI32 (phaseCurrent id iq theta 0))).setO (tk m Obj.I_V) (satI32 (phaseCurrent id iq theta 1))).setO
      (tk m Obj.I_W) (satI32 (phaseCurrent id iq theta 2))
  match reconstruct (d.n (tk m Obj.AGE_MAX)) t.windows with
  | some (id, iq) => (set d id iq).updTrac m (fun t => { t with predRun := 0 })
  | none =>
    let (id, iq) := Config.predictCurrent (d.o (tk m Obj.V_D)) (d.o (tk m Obj.V_Q)) (d.o (tk m Obj.I_D))
      (d.o (tk m Obj.I_Q)) d.free
    let run := t.predRun + 1
    ((((set d id iq).tickFree.addSat (tk m Obj.PREDICTED)).updTrac m (fun t => { t with predRun := run })).when
      (decide (run = 1)) (fun d => d.event (mev m 0x3D))).when (decide (d.n (tk m Obj.PRED_MAX) ≤ run))
      (fun d => d.raise (mcode m 0x1441) false { ini := 0x20 + mnum m, acc := 5 })

/-- The plausibility test against the phase sensors (R118). -/
def Dev.plausibility (d : Dev) (m : Mach) (iu iv iw : Int) : Dev :=
  if !(d.b (tk m Obj.PHASE_SENSORS)) then d
  else
    let du := iu - d.o (tk m Obj.I_U)
    let dv := iv - d.o (tk m Obj.I_V)
    let dw := iw - d.o (tk m Obj.I_W)
    let tol := d.o (tk m Obj.PLAUS_TOL) * d.ifsUnit m
    let run := if 3 * tol * tol < 3 * du * du + (dv - dw) * (dv - dw) then (d.tracOf m).plausRun + 1 else 0
    (((d.updTrac m (fun t => { t with plausRun := run })).when (decide (run = 1)) (fun d => d.event (mev m 0x3F))).when
      (decide (run = 0)) (fun d => d.causeGone (mcode m 0x1442))).when
      (decide (run ≠ 0) && decide (d.n (tk m Obj.PLAUS_COUNT) ≤ run))
      (fun d => d.raise (mcode m 0x1442) true { ini := 0x20 + mnum m, acc := 5 })

/-- The phase objects while no reconstruction runs: the phase sensors, or "not measured" (R117, R156). -/
def Dev.phaseSensors (d : Dev) (m : Mach) (iu iv iw : Int) : Dev :=
  let v (x : Int) : Int := if d.b (tk m Obj.PHASE_SENSORS) then satI32 x else -2147483648
  ((d.setO (tk m Obj.I_U) (v iu)).setO (tk m Obj.I_V) (v iv)).setO (tk m Obj.I_W) (v iw)

/-- A window result lost (R116). -/
def Dev.windowLost (d : Dev) (m : Mach) : Dev := (d.event (mev m 0x3C)).addSat (tk m Obj.WINDOWS_LOST)

/-- TRA_WINDOW_LOST (R116). -/
def execTraWindowLost (m : Mach) (s : State) : Host.Outcome State Fault Refusal := s.live (fun d => d.windowLost m)

/-! ### Angle-locked modulation and pattern tables (R120 to R129) -/

/-- Whether pattern table `n` (1 to 8) is enabled and usable and covers a rate, in angle units per second, with a margin
in Hz (R121). -/
def Dev.tableCovers (d : Dev) (m : Mach) (rate margin n : Nat) : Bool :=
  let b := d.block (el Obj.PATTERN_1 n)
  let lo := u16At b 4
  let hi := u16At b 6
  bitOf (d.o (tk m Obj.PATTERN_MASK)) (n - 1) && d.o (el (tk m Obj.TABLE_STATUS) n) == 1 &&
    decide ((lo - margin) * 65536 ≤ rate) && decide (rate ≤ (hi + margin) * 65536)

/-- The mode MS0 decides on: 0 asynchronous, 1 to 8 a table, and whether a table is called for and missing (R121,
R123). -/
def Dev.modeDecision (d : Dev) (m : Mach) : Nat × Bool :=
  let rate := (d.o (angOf m).rateKey).natAbs
  let fc := d.n (tk m Obj.F_ACTUAL) * 65536
  let ratio := d.n (tk m Obj.SYNC_RATIO)
  let now := d.n (tk m Obj.ACTIVE_PATTERN)
  let first := [1, 2, 3, 4, 5, 6, 7, 8].find? (fun n => d.tableCovers m rate 0 n)
  let calls := d.b (tk m Obj.SYNC_ENABLE) && decide (fc ≤ ratio * 1000 * rate)
  if now = 0 then
    if calls then
      match first with
      | some n => (n, false)
      | none => (0, true)
    else (0, false)
  else if !(d.b (tk m Obj.SYNC_ENABLE)) || decide (ratio * (100 + d.n (tk m Obj.SYNC_HYST)) * 1000 * rate ≤ fc * 100) then
    (0, false)
  else if d.tableCovers m rate (d.n (tk m Obj.PATTERN_HYST)) now then (now, false)
  else match first with
    | some n => (n, false)
    | none => (0, calls)

/-- The decision of a boundary: the change waits for angle 0; a missing table limits M (R121 to R123). -/
def Dev.decideMode (d : Dev) (m : Mach) : Dev :=
  let (n, missing) := d.modeDecision m
  let was := (d.tracOf m).noPattern
  ((d.updTrac m (fun t => { t with nextMode := n, noPattern := missing })).when (missing && !was)
    (fun d => (d.event (mev m 0x3B)).raise (mcode m 0x1243) true { ini := 0x20 + mnum m })).when (was && !missing)
    (fun d => d.causeGone (mcode m 0x1243))

/-- The length a pattern table's fields give (R126, R127). -/
def patternLength (b : Bytes) : Nat := 16 + 2 * byteAt b 2 + 4 * byteAt b 1 * byteAt b 2 + 2 * byteAt b 3 + 4

/-- The edge angles of point `j` (R126). -/
def patternEdges (b : Bytes) (j : Nat) : List Nat :=
  let n := byteAt b 1
  u16s b (16 + 2 * byteAt b 2 + 4 * n * j) (2 * n)

/-- Whether every field of a pattern table lies inside R126. -/
def patternFields (b : Bytes) : Bool :=
  let k := byteAt b 2
  byteAt b 0 == 1 && [9, 15, 21].contains (byteAt b 1) && decide (2 ≤ k) && decide (k ≤ 32) &&
    decide (1 ≤ byteAt b 3) && decide (byteAt b 3 ≤ 16) && decide (1 ≤ u16At b 4) && decide (u16At b 4 ≤ 1999) &&
    decide (u16At b 4 < u16At b 6) && decide (u16At b 6 ≤ 2000) && decide (byteAt b 8 ≤ 1) && zeros b 9 7 &&
    rising (u16s b 16 k) && (u16s b 16 k).all (fun x => decide (x ≤ 16384)) &&
    (List.range k).all (fun j => rising (patternEdges b j))

/-- The check of a pattern table block (R127): its result code. -/
def patternCheck (b : Bytes) : Nat :=
  if b = [] then 0
  else if b.length < 20 ∨ b.length ≠ patternLength b ∨ !(patternFields b) ∨ !(crcOk b) then 0x30000003 else 0

/-- The smallest distance of consecutive edges, wrap included. -/
def minGap : List Nat → Nat → Nat
  | [], _ => 65536
  | [x], first => first + 65536 - x
  | x :: y :: t, first => min (y - x) (minGap (y :: t) first)

/-- TABLE_STATUS of a table for a domain (R125, R127): edges closer than MIN_PULSE plus the largest dead time at
F_HIGH make it unusable. -/
def Dev.tableStatus (d : Dev) (m : Mach) (b : Bytes) : Nat :=
  if b = [] then 0
  else
    let g := tracGroup m - 1
    let dead := maxOf [d.o (at' Obj.DT_TB0 g), d.o (at' Obj.DT_TB0 g + 1), d.o (at' Obj.DT_TB0 g + 2), d.o (at' Obj.DT_TB0 g + 3)]
    let need := (d.o (tk m Obj.MIN_PULSE) + dead) * u16At b 6 * 65536
    let close := (List.range (byteAt b 2)).any (fun j =>
      let e := patternEdges b j
      decide ((minGap e (e.headD 0) : Int) * 1000000000 < need))
    if close then 2 else 1

/-- TABLE_STATUS of all eight tables evaluated again, as at a start of the domain (R127). -/
def Dev.evalTables (d : Dev) (m : Mach) : Dev :=
  [1, 2, 3, 4, 5, 6, 7, 8].foldl (fun d n =>
    d.setO (el (tk m Obj.TABLE_STATUS) n) (d.tableStatus m (d.block (el Obj.PATTERN_1 n)))) d

/-- A pattern table block checked and stored for both domains (R125 to R127). -/
def Dev.writePattern (d : Dev) (n : Nat) (b : Bytes) : Dev :=
  let c := patternCheck b
  if c ≠ 0 then d.res c
  else if !(d.stopped .tra) || !(d.stopped .trb) then d.res 0x40000001
  else
    let d1 := (d.setBlk (el Obj.PATTERN_1 n) b).setBlk (el Obj.PATTERN_TRB n) b
    ((d1.setO (el Obj.TABLE_STATUS n) (d1.tableStatus .A b)).setO (el (tk .B Obj.TABLE_STATUS) n)
      (d1.tableStatus .B b)).res 0

/-- PATTERN_TABLE_WRITE (R125, R127): table `n` + 1. -/
def execPatternTableWrite (n : Fin 8) (b : Bytes) (s : State) : Host.Outcome State Fault Refusal :=
  s.serve (fun d => d.writePattern (n + 1) b)

end Sys2Proof.Machine
end

