-- ==== Sys2Proof/Machine/Loops.lean ====
section
/-! DEFINITION. The loop engines (R159 to R183): the arithmetic of a slot, its sample boundary, cascades, swaps, the
following-error and poison reactions, the load of an engine, the self-check and the move to LE8. -/

namespace Sys2Proof.Machine

/-! ### Arithmetic (R166) -/

/-- The arithmetic shift with rounding of R166, halves towards plus infinity. -/
def rsh (x : Int) (n : Nat) : Int := if n = 0 then x else (x + 2 ^ (n - 1)) / 2 ^ n

/-- The coefficients of a bank (R164). -/
structure Coef where
  kp : Int
  shP : Nat
  ki : Int
  shI : Nat
  kd : Int
  shD : Nat
  kf : Int
  shF : Nat
  kff : Int
  shFf : Nat
deriving DecidableEq, Repr

/-- What one execution of a slot starts from (R166): the coefficients, D_MODE, the output limits, the integrator, the
derivative and x_prev, and whether dx is halved after a move. -/
structure PidIn where
  c : Coef
  dMode : Int
  outMin : Int
  outMax : Int
  iAcc : Int
  d : Int
  xPrev : Int
  halve : Bool
deriving DecidableEq, Repr

/-- What one execution of a slot gives (R166): e, p, the integrator, x, the derivative, ff, the increment, the output
and the flags SAT_P to SAT_OUT as bits 0 to 4. -/
structure PidOut where
  e : Int
  p : Int
  iAcc : Int
  x : Int
  d : Int
  ff : Int
  inc : Int
  out : Int
  flags : Nat
deriving DecidableEq, Repr

/-- One execution of a slot, exactly as the pseudocode of R166. -/
def pidStep (q : PidIn) (sp fb : Int) : PidOut :=
  let e := satI32 (sp - fb)
  let p0 := rsh (q.c.kp * e) q.c.shP
  let p := satI32 p0
  let inc0 := rsh (q.c.ki * e) q.c.shI
  let inc := satI32 inc0
  let iNew := satI32 (q.iAcc + inc)
  let x := if q.dMode = 0 then e else satI32 (-fb)
  let dx0 := satI32 (x - q.xPrev)
  let dx := if q.halve then rsh dx0 1 else dx0
  let dRaw0 := rsh (q.c.kd * dx) q.c.shD
  let dRaw := satI32 dRaw0
  let d0 := q.d + rsh (q.c.kf * (dRaw - q.d)) q.c.shF
  let d := satI32 d0
  let ff0 := rsh (q.c.kff * sp) q.c.shFf
  let ff := satI32 ff0
  let sum0 := p + iNew + d + ff
  let sum := satI32 sum0
  let out := min (max sum q.outMin) q.outMax
  let b (c : Bool) (v : Nat) : Nat := if c then v else 0
  { e := e, p := p, x := x, d := d, ff := ff, inc := inc, out := out
    iAcc := if (q.outMax < sum ∧ 0 < inc) ∨ (sum < q.outMin ∧ inc < 0) then q.iAcc else iNew
    flags := b (e != sp - fb || p != p0) 1 + b (inc != inc0 || iNew != q.iAcc + inc) 2 +
      b (dx0 != x - q.xPrev || dRaw != dRaw0 || d != d0) 4 + b (ff != ff0 || sum != sum0) 8 + b (out != sum) 16 }

/-! ### A slot's state and objects (R160, R161) -/

/-- The hidden state of loop slot `L`. -/
def Dev.loopOf (d : Dev) (L : Nat) : Loop := Tab.get {} d.loops L

/-- The hidden state of loop slot `L` changed. -/
def Dev.updLoop (d : Dev) (L : Nat) (f : Loop → Loop) : Dev := { d with loops := Tab.upd {} d.loops L f }

/-- An object of loop slot `L` (R160). -/
def lk (k L : Nat) : Nat := at' k L

/-- The active bank of a slot. -/
def Dev.coef (d : Dev) (L : Nat) : Coef :=
  let b (k : Nat) : Nat := lk k L + 0x10000 * d.n (lk Obj.ACTIVE_BANK L)
  { kp := d.o (b Obj.KP), shP := d.n (b Obj.SH_P), ki := d.o (b Obj.KI), shI := d.n (b Obj.SH_I), kd := d.o (b Obj.KD)
    shD := d.n (b Obj.SH_D), kf := d.o (b Obj.KF), shF := d.n (b Obj.SH_F), kff := d.o (b Obj.KFF), shFf := d.n (b Obj.SH_FF) }

/-- The physical engine that runs a logical engine (R43, R182). -/
def Dev.hostOf (d : Dev) (e : Nat) : Nat := d.n (el Obj.HOST_LE0 (e + 1))

/-- Whether the domain that owns a slot's output is stopped, so that the slot is frozen (R169). -/
def Dev.loopFrozen (d : Dev) (L : Nat) : Bool :=
  match d.loopDomain L with
  | some dom => d.stopped dom
  | none => false

/-- The words whose dead-letter mark poisons a slot: its sources and its own state (R172). -/
def Dev.loopWords (d : Dev) (L : Nat) : List Nat :=
  let sp := d.n (lk Obj.SP_SOURCE L)
  let fb := d.n (lk Obj.FB_SOURCE L)
  (if sp = 0 then [lk Obj.SETPOINT L] else [sp]) ++ (if fb = 0 then [] else [fb]) ++
    [lk Obj.ERROR L, lk Obj.OUTPUT L, lk Obj.INTEGRATOR L, lk Obj.DERIV L, lk Obj.FE_TIMER L]

/-- Whether a slot would consume a poisoned word. -/
def Dev.loopPoisoned (d : Dev) (L : Nat) : Bool := (d.loopWords L).any (fun k => d.poison.contains k)

/-- The fault code of a slot's cause in the domain that owns its output; none where no domain owns it (R183). -/
def Dev.loopCode (d : Dev) (L cause : Nat) : Option (Nat × Domain) :=
  (d.loopDomain L).map (fun dom => ((dom.num - 1) * 4096 + cause, dom))

/-! ### Writes to a slot (R41, R166, R169, R170) -/

/-- Whether a write is one to slot `L` or its banks. -/
def loopWrite (L : Nat) (w : PWrite) : Bool :=
  let i := keyIdx w.key
  decide (0xA100 ≤ i) && decide (i < 0xA380) && decide (i % 128 = L) && decide (i % 256 < 128)

/-- ENABLE, BANK_CTRL and FLAGS_CLEAR act; every other object of the slot takes its value. -/
def Dev.loopApply (d : Dev) (L : Nat) (w : PWrite) : Dev :=
  if w.key = lk Obj.ENABLE_A100 L then
    if w.val != 0 && !(d.b w.key) then
      ((d.setO w.key 1).setO (lk Obj.FLAGS L) (d.n (lk Obj.FLAGS L) % 128 / 32 * 32 : Nat)).updLoop L
        (fun l => { l with first := true, cascade := 0 })
    else d.setO w.key w.val
  else if w.key = lk Obj.BANK_CTRL L then d.updLoop L (fun l => { l with swap := true })
  else if w.key = lk Obj.FLAGS_CLEAR L then
    let keep := Nat.lor (255 - w.val.toNat % 256) 0x60
    d.setO (lk Obj.FLAGS L) (Nat.land (d.n (lk Obj.FLAGS L)) keep : Nat)
  else d.setO w.key w.val

/-- Every delivered write of slot `L` applied, in the order of delivery (R167 step 1). -/
def Dev.loopWrites (d : Dev) (L : Nat) : Dev :=
  (d.writes.filter (loopWrite L)).foldl (fun d w => d.loopApply L w)
    { d with writes := d.writes.filter (fun w => !(loopWrite L w)) }

/-- A write accepted for slot `L`: applied on delivery while the slot is disabled or frozen, else at its next sample
boundary (R41). -/
def Dev.loopDeliver (d : Dev) (L key : Nat) (val : Int) : Dev :=
  let d1 := d.deliver key val
  d1.when (!(d.b (lk Obj.ENABLE_A100 L)) || d.loopFrozen L) (fun d => d.loopWrites L)

/-! ### Load (R173) -/

/-- The highest boundary rate of a domain in mHz (R173). -/
def Dev.domainRate (d : Dev) : Domain → Nat
  | .tra | .sys => max (d.n Obj.F_PWM * d.n Obj.UPDATE * 1000)
      (if d.b Obj.SYNC_ENABLE then d.n Obj.MAX_SPEED_4200 * d.n Obj.POLE_PAIRS_3430 * 100 else 0)
  | .trb => max (d.n (tk .B Obj.F_PWM) * d.n (tk .B Obj.UPDATE) * 1000)
      (if d.b (tk .B Obj.SYNC_ENABLE) then d.n (tk .B Obj.MAX_SPEED_4200) * d.n (at' Obj.POLE_PAIRS_3430 1) * 100 else 0)
  | .grd => d.n Obj.CARRIER_N * d.n Obj.F_NOM * 1050
  | .dca => d.n Obj.F_SW * 1000
  | .dcb => d.n (ck .dcb Obj.F_SW) * 1000
  | .lnk => 20000000
  | .act | .bom => 4000000

/-- The sample rate of a slot in mHz; firmware slots run at their domain's boundaries (R168, R173). -/
def Dev.loopRate (d : Dev) : Nat → Nat → Nat
  | 0, _ => 0
  | n + 1, L =>
    let byDomain := match d.loopDomain L with
      | some dom => d.domainRate dom
      | none => 0
    if L < 96 then byDomain
    else match d.n (lk Obj.TRIGGER L) with
      | 1 => 1000000000 / max 10 (d.n (lk Obj.PERIOD_A100 L))
      | 2 => 20000000
      | 3 => d.loopRate n (L / 16 * 16 + d.n (lk Obj.CHAIN L) % 16) / max 1 (d.n (lk Obj.DIVISOR L))
      | _ => byDomain

/-- The number of bits set in a byte. -/
def popcount8 (x : Nat) : Nat := ((List.range 8).filter (fun i => x / 2 ^ i % 2 = 1)).length

/-- The load of logical engine `e` in 10^-11 (R173). -/
def Dev.loadOf (d : Dev) (e : Nat) : Nat :=
  ((List.range 16).map (fun s =>
    let L := 16 * e + s
    if d.b (lk Obj.ENABLE_A100 L) then (40 + 2 * popcount8 (d.n (lk Obj.TRACE_NODES L))) * d.loopRate 4 L else 0)).foldl (· + ·) 0

/-- LOAD of physical engine `n`, in per cent: that of the logical engine it runs (R173, R182). -/
def Dev.loadShown (d : Dev) (n : Nat) : Nat :=
  let e := if n = 8 then d.n Obj.LE8_HOSTS_A000 else n
  if 8 ≤ e ∨ d.hostOf e ≠ n then 0 else d.loadOf e / 1000000000

/-- The value of object `k` as a read shows it: subindex 0 of a record or an array reads its highest subindex (R411), LOAD
is the load of the slots enabled now (R173), and every other object reads as its owner holds it. -/
def Dev.shown (d : Dev) (k : Nat) : Int :=
  if isCountKey k then (highestSub (keyIdx k) : Int)
  else if Obj.LOAD ≤ k ∧ k < Obj.LOAD + 9 then (d.loadShown (k - Obj.LOAD) : Int)
  else d.o k

/-- The value a reference reads at a sample boundary: 0 for no reference, U32 values limited to the I32 range (R161,
R163). -/
def Dev.refValue (d : Dev) (ref : Nat) : Int := if ref = 0 then 0 else satI32 (d.shown ref)

/-! ### Checks of a slot (R162, R163, R168, R173) -/

/-- The loop number of an inner slot's SETPOINT that the CHAIN of slot `L` names (R163). -/
def Dev.innerSetpoint (d : Dev) (L : Nat) : Nat :=
  let c := d.n (lk Obj.CHAIN L)
  if c < 16 then lk Obj.SETPOINT (L / 16 * 16 + c) else 0

/-- The levels of the cascade that starts at slot `L`; it stops counting at `n`. -/
def Dev.chainDepth (d : Dev) : Nat → Nat → Nat
  | 0, _ => 0
  | n + 1, L => if d.n (lk Obj.CHAIN L) < 16 then 1 + d.chainDepth n (L / 16 * 16 + d.n (lk Obj.CHAIN L)) else 1

/-- Whether a source reference is one R163 accepts. -/
def sourceRefOk (ref : Nat) : Bool :=
  ref == 0 || match findDef ref with
    | some r => r.acc != .wo && !([ObjTy.domain, .str, .u64, .i64].contains r.ty)
    | none => false

/-- Whether a target reference of slot `L` is one R163 accepts. -/
def Dev.targetRefOk (d : Dev) (L ref : Nat) : Bool :=
  let i := keyIdx ref
  ref == 0 || (match findDef ref with
    | some r => r.acc == .rw && decide (r.wr ≤ 2)
    | none => false) &&
    (!((decide (0x1000 ≤ i) && decide (i < 0x3000)) || (decide (0xA000 ≤ i) && decide (i < 0xD000)) || decide (0xF000 ≤ i)) ||
      ref == d.innerSetpoint L) &&
    (List.range 128).all (fun M => M == L || !(d.b (lk Obj.ENABLE_A100 M)) || d.n (lk Obj.OUT_TARGET M) != ref)

/-- Whether the cascade settings of slot `L` are ones R163 accepts. -/
def Dev.cascadeOk (d : Dev) (L : Nat) : Bool :=
  decide (d.chainDepth 5 L ≤ 3) &&
    (d.o (lk Obj.TRIGGER L) != 3 || (d.innerSetpoint L != 0 && d.n (lk Obj.OUT_TARGET L) == d.innerSetpoint L))

/-- What R163, R168 and R173 add to the checks of a write to `sub` of slot `L`; `d` already holds the new value. -/
def Dev.loopCheck (d : Dev) (L sub : Nat) : Nat :=
  let on := d.b (lk Obj.ENABLE_A100 L)
  let refs := if sub = 6 then sourceRefOk (d.n (lk Obj.SP_SOURCE L)) else if sub = 8 then sourceRefOk (d.n (lk Obj.FB_SOURCE L))
    else if sub = 9 then d.targetRefOk L (d.n (lk Obj.OUT_TARGET L)) else true
  let casc := !([2, 4, 9].contains sub) || d.cascadeOk L
  let trig := !(sub == 2 || sub == 1) || d.o (lk Obj.TRIGGER L) != 4 || (d.loopDomain L).isSome
  let dup := sub != 1 || (d.targetRefOk L (d.n (lk Obj.OUT_TARGET L)) && d.cascadeOk L)
  if !(refs && casc && trig && dup) then 0x30000004
  else if on && [1, 2, 3, 5, 0x1A].contains sub && decide (80000000000 < d.loadOf (L / 16)) then 0x50000002
  else 0

/-! ### The sample boundary (R167 to R172) -/

/-- The reaction to a poisoned word (R172). -/
def Dev.loopPoison (d : Dev) (L : Nat) : Dev :=
  let d1 := ((d.setBit (lk Obj.FLAGS L) 7 true).setBit (lk Obj.FLAGS L) 6 true).consumed.event 0x1D
  match d1.loopCode L 0x463 with
  | some (c, dom) => d1.raiseOn c dom true { addr := L, ini := 0x10 + d.hostOf (L / 16), acc := 1 }
  | none => d1

/-- The following-error timer (R171). -/
def Dev.followError (d : Dev) (L : Nat) (e : Int) : Dev :=
  let ft := d.n (lk Obj.FE_TIME L)
  let t := d.n (lk Obj.FE_TIMER L)
  let t' := if ft = 0 then 0 else if d.o (lk Obj.FE_LIMIT L) < (e.natAbs : Int) then min (t + 1) ft else t - 1
  let fe := bitOf (d.o (lk Obj.FLAGS L)) 5
  let d1 := d.setO (lk Obj.FE_TIMER L) (t' : Nat)
  let code := d1.loopCode L (d.n (lk Obj.FE_CLASS L) * 512 + 0x062)
  if ft ≠ 0 ∧ t' = ft ∧ !fe then
    let d2 := (d1.setBit (lk Obj.FLAGS L) 5 true).event 0x18
    match code with
    | some (c, dom) => d2.raiseOn c dom true { addr := L, ini := 0x10 + d.hostOf (L / 16), acc := 1 }
    | none => d2
  else if t' = 0 ∧ fe then
    let d2 := d1.setBit (lk Obj.FLAGS L) 5 false
    match code with
    | some (c, _) =>
      d2.when ((List.range 128).all (fun M => !(bitOf (d2.o (lk Obj.FLAGS M)) 5) ||
          d2.loopCode M (d2.n (lk Obj.FE_CLASS M) * 512 + 0x062) != code)) (fun d => d.causeGone c)
    | none => d2
  else d1

/-- The trace records of a sample, in the order of the nodes (R174). -/
def Dev.loopTrace (d : Dev) (L : Nat) (nodes : List Int) : Dev :=
  (nodes.zipIdx).foldl (fun d p =>
    d.when (bitOf (d.o (lk Obj.TRACE_NODES L)) p.2) (fun d => d.traceAdd (0x10 + d.hostOf (L / 16)) 1 (L + 256 * p.2) p.1)) d

/-- The move of logical engine `e` to LE8 is complete and shows (R177, R182). -/
def Dev.moveDone (d : Dev) (e : Nat) : Dev :=
  ((((({ d with leMoving := none, leLoaded := false }).setO (el Obj.HOST_LE0 (e + 1)) 8).setO Obj.LE8_HOSTS_A000 e).addSat
    Obj.MOVES).event 0x1B).raise 0x0061 false { ini := 0x01, acc := 7 }

/-- The start of a sample boundary: a blocked engine, the hold boundary of a move, the writes and the swap (R167 steps
1 and 2, R177, R179).  The Bool says whether the slot goes on to compute. -/
def Dev.loopOpen (d : Dev) (L : Nat) : Dev × Bool :=
  let e := L / 16
  let l := d.loopOf L
  if d.leBlocked.contains e then (d, false)
  else if d.b (lk Obj.ENABLE_A100 L) && (l.holdNext || (d.leMoving == some e && !d.leLoaded)) then
    let d1 := (d.updLoop L (fun l => { l with holdNext := false, halve := true })).setBit (lk Obj.FLAGS L) 6 true
    (d1.when (d1.loopPoisoned L) (fun d => d.loopPoison L), false)
  else
    let d1 := d.loopWrites L
    if !(d1.b (lk Obj.ENABLE_A100 L)) then (d1, false)
    else if d1.loopFrozen L then (d1.updLoop L (fun l => { l with first := true }), false)
    else
      let d2 := d1.when (d1.loopOf L).swap (fun d =>
        (((d.updLoop L (fun l => { l with swap := false })).setO (lk Obj.ACTIVE_BANK L) (1 - d.o (lk Obj.ACTIVE_BANK L))).addSat
          (lk Obj.SWAPS L)))
      (d2, true)

/-- The preset of a slot's first sample (R169). -/
def Dev.loopPreset (d : Dev) (L : Nat) (sp fb target : Int) : Dev :=
  let c := d.coef L
  let e := satI32 (sp - fb)
  let p := satI32 (rsh (c.kp * e) c.shP)
  let ff := satI32 (rsh (c.kff * sp) c.shFf)
  let x := if d.o (lk Obj.D_MODE L) = 0 then e else satI32 (-fb)
  ((d.setO (lk Obj.DERIV L) 0).setO (lk Obj.INTEGRATOR L) (satI32 (target - p - ff))).updLoop L
    (fun l => { l with first := false, xPrev := x })

/-- Step 4 of R167 for given sources: the execution, the objects, the following error, the trace records, and the end of
a move.  `holdUp` and `holdDown` hold the integrator in that direction (R134). -/
def Dev.loopCompute (d : Dev) (L : Nat) (sp fb target : Int) (holdUp holdDown : Bool) : Dev :=
  let d0 := d.when (d.loopOf L).first (fun d => d.loopPreset L sp fb target)
  let l := d0.loopOf L
  let was := d0.o (lk Obj.INTEGRATOR L)
  let r := pidStep { c := d0.coef L, dMode := d0.o (lk Obj.D_MODE L), outMin := d0.o (lk Obj.OUT_MIN L),
                     outMax := d0.o (lk Obj.OUT_MAX L), iAcc := was, d := d0.o (lk Obj.DERIV L), xPrev := l.xPrev,
                     halve := l.halve } sp fb
  let held := (holdUp && decide (was < r.iAcc)) || (holdDown && decide (r.iAcc < was))
  let iAcc := if held then was else r.iAcc
  let flags := Nat.lor (d0.n (lk Obj.FLAGS L)) r.flags
  let d1 := ((((((d0.setO (lk Obj.ERROR L) r.e).setO (lk Obj.OUTPUT L) r.out).setO (lk Obj.INTEGRATOR L) iAcc).setO
    (lk Obj.DERIV L) r.d).setO (lk Obj.FLAGS L) flags).setBit (lk Obj.FLAGS L) 6 false).addWrap (lk Obj.SAMPLES L)
  let d2 := d1.updLoop L (fun l => { l with xPrev := r.x, halve := false, cascade := l.cascade + 1 })
  let d3 := (d2.followError L r.e).loopTrace L [sp, fb, r.e, r.p, iAcc, r.d, r.ff, r.out]
  d3.when (l.halve && d3.leMoving == some (L / 16)) (fun d => d.moveDone (L / 16))

/-- A sample of a firmware slot at its domain's boundary, with the sources its chapter gives it; the output is what
OUTPUT then reads (R162). -/
def Dev.firmwareSample (d : Dev) (L : Nat) (sp fb target : Int) (holdUp holdDown : Bool) : Dev :=
  let (d1, go) := d.loopOpen L
  if !go then d1 else if d1.loopPoisoned L then d1.loopPoison L else d1.loopCompute L sp fb target holdUp holdDown

/-- The outer slots of slot `L` in a cascade, in ascending number (R168). -/
def Dev.outers (d : Dev) (L : Nat) : List Nat :=
  ((List.range 16).map (fun s => L / 16 * 16 + s)).filter (fun M =>
    M != L && d.b (lk Obj.ENABLE_A100 M) && d.o (lk Obj.TRIGGER M) == 3 && d.n (lk Obj.CHAIN M) == L % 16)

/-- A sample boundary of a free slot and of the outer slots that sample at it, outer first (R167, R168). -/
def Dev.loopSampleN (d : Dev) : Nat → Nat → Dev
  | 0, _ => d
  | n + 1, L =>
    let (d1, go) := d.loopOpen L
    if !go then (d1.outers L).foldl (fun d M => d.when (d.loopOf M).holdNext (fun d => (d.loopOpen M).1)) d1
    else
      let c := (d1.loopOf L).cascade + 1
      let d2 := (d1.outers L).foldl (fun d M =>
        if c % max 1 (d.n (lk Obj.DIVISOR M)) = 0 then d.loopSampleN n M else d) d1
      let d3 := d2.loopWrites L
      if d3.loopPoisoned L then d3.loopPoison L
      else
        let spRef := d3.n (lk Obj.SP_SOURCE L)
        let sp := if spRef = 0 then d3.o (lk Obj.SETPOINT L) else d3.refValue spRef
        let t := d3.n (lk Obj.OUT_TARGET L)
        let d4 := d3.loopCompute L sp (d3.refValue (d3.n (lk Obj.FB_SOURCE L))) (d3.refValue t) false false
        let out := d4.o (lk Obj.OUTPUT L)
        if t = 0 ∨ d4.valueCheck t out ≠ 0 then d4
        else if isSetpoint t then d4.loopDeliver (keyIdx t - 0xA100) t out
        else d4.deliver t out

/-! ### Enable, disable, swaps and flags (R166, R169, R170) -/

/-- ENABLE as a write (R163, R168, R169, R173). -/
def Dev.writeEnable (d : Dev) (L : Nat) (on : Bool) : Dev :=
  if L < 96 then d.res resReadOnly
  else
    let code := if on && !(d.b (lk Obj.ENABLE_A100 L)) then (d.ahead.setO (lk Obj.ENABLE_A100 L) 1).loopCheck L 1 else 0
    if code ≠ 0 then d.res code
    else (d.loopDeliver L (lk Obj.ENABLE_A100 L) (b2i on)).res 0

/-- LOOP_ENABLE (R169). -/
def execLoopEnable (L : Fin 128) (s : State) : Host.Outcome State Fault Refusal := s.serve (fun d => d.writeEnable L true)

/-- LOOP_DISABLE (R169). -/
def execLoopDisable (L : Fin 128) (s : State) : Host.Outcome State Fault Refusal := s.serve (fun d => d.writeEnable L false)

/-- BANK_CTRL_SWAP (R170): one swap mark. -/
def execBankCtrlSwap (L : Fin 128) (s : State) : Host.Outcome State Fault Refusal :=
  s.serve (fun d => (d.loopDeliver L (lk Obj.BANK_CTRL L) 1).res 0)

/-- FLAGS_CLEAR (R161, R166): each 1 bit clears that sticky flag. -/
def execFlagsClear (L : Fin 128) (mask : Nat) (s : State) : Host.Outcome State Fault Refusal :=
  s.serve (fun d => (d.loopDeliver L (lk Obj.FLAGS_CLEAR L) (mask % 256 : Nat)).res 0)

/-! ### Self-check and move (R176 to R181) -/

/-- The domains that logical engine `e` serves (R19, R180). -/
def Dev.servedBy (d : Dev) (e : Nat) : List Domain :=
  match e with
  | 0 => [.tra] | 1 => [.trb] | 2 => [.lnk] | 3 => [.grd] | 4 => [.dca, .dcb] | 5 => [.act]
  | _ => Domain.all.filter (fun dom => (List.range 16).any (fun s =>
      d.b (lk Obj.ENABLE_A100 (16 * e + s)) && d.loopDomain (16 * e + s) == some dom))

/-- A refused move: the outputs stay blocked and each served domain takes a Domain-stop (R180). -/
def Dev.refuseMove (d : Dev) (e : Nat) : Dev :=
  let doms := (d.servedBy e).filter (· != .sys)
  doms.foldl (fun d dom => d.raiseOn ((dom.num - 1) * 4096 + 0x460) dom false { ini := 0x01, acc := 7 })
    (({ d with leBlocked := insertOnce e d.leBlocked, leMoving := if d.leMoving = some e then none else d.leMoving }).event 0x1C)

/-- The enabled slots of logical engine `e`. -/
def Dev.enabledSlots (d : Dev) (e : Nat) : List Nat :=
  ((List.range 16).map (fun s => 16 * e + s)).filter (fun L => d.b (lk Obj.ENABLE_A100 L))

/-- A failing or silent engine `e` moves to LE8, or its move is refused (R177, R178, R180).  Where its heartbeat is
missing, HOLD is set from the reaction on. -/
def Dev.moveEngine (d : Dev) (e : Nat) (silent : Bool) : Dev :=
  if d.leMoving.isSome || d.o Obj.LE8_HOSTS_A000 != 0xFF || d.le8Bad then d.refuseMove e
  else
    (d.enabledSlots e).foldl (fun d L =>
      (d.updLoop L (fun l => { l with holdNext := true })).when silent (fun d => d.setBit (lk Obj.FLAGS L) 6 true))
      { d with leMoving := some e, leLoaded := false }

/-- LE8 fails: while it hosts, or takes over, the hosted engine's domains stop; while idle it is not used until the next
reset (R180). -/
def Dev.le8Fails (d : Dev) : Dev :=
  match d.leMoving with
  | some e => { d.refuseMove e with le8Bad := true }
  | none =>
    if d.o Obj.LE8_HOSTS_A000 != 0xFF then { d.refuseMove (d.n Obj.LE8_HOSTS_A000) with le8Bad := true }
    else if d.le8Bad then d
    else ({ d with le8Bad := true }).raise 0x0062 false { ini := 0x18, acc := 7 }

/-- The self-check of physical engine `n` (R176, R177, R180). -/
def Dev.selfCheck (d : Dev) (n : Nat) (pass : Bool) : Dev :=
  if pass then d
  else
    let d1 := (d.event 0x1A).addSat (el Obj.SELFCHECK_FAILS (n + 1))
    if n = 8 then d1.le8Fails
    else if d1.hostOf n = n && !(d1.leBlocked.contains n) && d1.leMoving != some n then d1.moveEngine n false else d1

/-- LE_SELF_CHECK (R176): the self-check of LE0 to LE8 and its result. -/
def execLeSelfCheck (n : Fin 9) (pass : Bool) (s : State) : Host.Outcome State Fault Refusal :=
  s.live (fun d => d.selfCheck n pass)

/-- LE8_LOAD_COMPLETE (R177): LE8 holds the slots; without an enabled slot the move is complete and reported. -/
def execLe8LoadComplete (s : State) : Host.Outcome State Fault Refusal :=
  s.live (fun d =>
    match d.leMoving with
    | some e => if d.enabledSlots e = [] then d.moveDone e else { d with leLoaded := true }
    | none => d)

/-- The cause of a poisoned-input fault is gone once no enabled slot of the domain holds a marked word (R172). -/
def Dev.loopPoisonGone (d : Dev) : Dev :=
  Domain.all.foldl (fun d dom =>
    let code := (dom.num - 1) * 4096 + 0x463
    d.when (d.faultOn code && (List.range 128).all (fun L =>
      !(d.b (lk Obj.ENABLE_A100 L)) || d.loopDomain L != some dom || !(d.loopPoisoned L))) (fun d => d.causeGone code)) d

end Sys2Proof.Machine
end

