-- ==== Sys2Proof/Machine/Field.lean ====
section
/-! DEFINITION. Field control, observer and active short circuit of the traction bridges (R131 to R158): the
computation of a boundary, the change of position source, the run and stop of a domain, and ASC with its probes. -/

namespace Sys2Proof.Machine

/-! ### Curves (R138 to R141) -/

/-- Whether every field of a current-angle curve lies inside R139. -/
def curveFields (b : Bytes) : Bool :=
  let S := byteAt b 1
  let V := byteAt b 2
  let speeds := u16s b 4 S
  let vdcs := u16s b (4 + 2 * S) V
  byteAt b 0 == 1 && decide (2 ≤ S) && decide (S ≤ 16) && decide (2 ≤ V) && decide (V ≤ 8) && byteAt b 3 == 0 &&
    rising speeds && speeds.all (fun x => decide (x ≤ 30000)) && rising vdcs && vdcs.all (fun x => decide (x ≤ 1500)) &&
    (List.range (S * V)).all (fun j =>
      let e := 4 + 2 * S + 2 * V + 6 * j
      decide (u16At b e ≤ 16384) && decide (1 ≤ u16At b (e + 2)) && decide (1 ≤ u16At b (e + 4)))

/-- The check of a current-angle curve (R140): its result code. -/
def curveCheck (b : Bytes) : Nat :=
  let S := byteAt b 1
  let V := byteAt b 2
  if b = [] then 0
  else if b.length < 40 ∨ b.length ≠ 8 + 2 * S + 2 * V + 6 * S * V ∨ !(curveFields b) ∨ !(crcOk b) then 0x30000003 else 0

/-- A curve block checked and stored (R138, R140). -/
def Dev.writeCurve (d : Dev) (m : Mach) (gen : Bool) (b : Bytes) : Dev :=
  let c := curveCheck b
  if c ≠ 0 then d.res c
  else if !(d.stopped (mdom m)) then d.res 0x40000001
  else
    ((d.setBlk (tk m (if gen then Obj.CURVE_GEN else Obj.CURVE_MOT)) b).setBit (tk m Obj.CURVE_STATUS)
      (if gen then 1 else 0) (b != [])).res 0

/-- CURVE_WRITE (R140). -/
def execCurveWrite (m : Mach) (gen : Bool) (b : Bytes) (s : State) : Host.Outcome State Fault Refusal :=
  s.serve (fun d => d.writeCurve m gen b)

/-- The segment of an axis that holds `x`: its lower point, the offset of `x` in it and its length; a coordinate outside
takes the end point (R141). -/
def segment (x : Nat) : Nat → List Nat → Nat × Nat × Nat
  | i, a :: b :: t => if x ≤ a then (i, 0, 1) else if x < b then (i, x - a, b - a) else segment x (i + 1) (b :: t)
  | i, _ => (i, 0, 1)

/-- One field of a curve's entries (0 BETA, 1 KT, 2 IMAX) interpolated at a speed (0.1 rpm) and a voltage (0.1 V), rounded
to the nearest unit, halves away from zero (R141). -/
def curveAt (b : Bytes) (field speed vdc : Nat) : Nat :=
  let S := byteAt b 1
  let V := byteAt b 2
  let (i, nx, dx) := segment speed 0 ((u16s b 4 S).map (· * 10))
  let (j, ny, dy) := segment vdc 0 ((u16s b (4 + 2 * S) V).map (· * 10))
  let e (i j : Nat) : Nat := u16At b (4 + 2 * S + 2 * V + 6 * (min j (V - 1) * S + min i (S - 1)) + 2 * field)
  let sum := e i j * (dx - nx) * (dy - ny) + e (i + 1) j * nx * (dy - ny) + e i (j + 1) * (dx - nx) * ny +
    e (i + 1) (j + 1) * nx * ny
  (2 * sum + dx * dy) / (2 * (dx * dy))

/-! ### Position source (R73, R74, R144 to R147) -/

/-- The electrical rate of a speed in 0.1 rpm, in angle units per second. -/
def Dev.rateOf (d : Dev) (m : Mach) (speed : Int) : Int := speed * 65536 * d.o (srcKey m Obj.POLE_PAIRS_3430) / 600

/-- The machine's position source becomes `src` (R73, R74). -/
def Dev.changeSource (d : Dev) (m : Mach) (src : Nat) : Dev :=
  let d1 := ((d.setO (srcKey m Obj.ACTIVE_SOURCE) src).event (mev m 0x35)).updSource m (fun s => { s with agree := 0 })
  let d2 := d1.when (decide (src = 1 ∨ src = 2)) (fun d =>
    d.updSsi (src - 1) (fun s => { s with skipPlaus := true, asActive := false }))
  d2.when (decide (src = 0)) (fun d => (d.loseTrack (angOf m)).raise (mcode m 0x1413) true { ini := 0x20 + mnum m, acc := 5 })

/-- The source that replaces an active source with a sensor fault (R73). -/
def Dev.replacement (d : Dev) (m : Mach) : Nat :=
  let sec := d.n (srcKey m Obj.SECONDARY)
  if d.o (srcKey m Obj.ACTIVE_SOURCE) == d.o (srcKey m Obj.PRIMARY) && decide (sec ≠ 0) && d.sourceValid m sec then sec
  else if d.b (tk m Obj.OBS_ENABLE) &&
      decide (8 * d.o (tk m Obj.RATED_SPEED) ≤ 10 * ((d.sourceOf m).lastSpeed.natAbs : Int)) then 7
  else 0

/-- The change of source at a control period (R73, R74). -/
def Dev.selectSource (d : Dev) (m : Mach) : Dev :=
  let act := d.n (srcKey m Obj.ACTIVE_SOURCE)
  let prim := d.n (srcKey m Obj.PRIMARY)
  if act = 0 then d
  else if act ≠ 7 ∧ !(d.sourceValid m act) then d.changeSource m (d.replacement m)
  else if act ≠ prim ∧ prim ≠ 0 ∧ 64 ≤ (d.sourceOf m).agree ∧ d.sourceValid m prim then d.changeSource m prim
  else d

/-- The observer's operating range with its hysteresis (R144). -/
def Dev.obsRange (d : Dev) (m : Mach) (speed : Int) : Bool :=
  let x : Int := 10 * speed.natAbs
  let rated := d.o (tk m Obj.RATED_SPEED)
  if (d.tracOf m).obsIn then decide (6 * rated ≤ x) else decide (8 * rated ≤ x)

/-- The observer's lock after one boundary (R145). -/
def Dev.observe (d : Dev) (m : Mach) (i : TracIn) : Dev :=
  let range := d.obsRange m i.obsSpeed
  let fast := decide (25 * d.o (tk m Obj.MAX_SPEED_4200) < 2 * (i.obsSpeed.natAbs : Int))
  let wild := decide (d.n (tk m Obj.ACCEL_MAX) < i.obsAccel)
  let t := d.tracOf m
  let good := if decide (2 * i.resid < d.n (tk m Obj.RESID_LIMIT)) && range && !fast && !wild then t.obsGood + 1 else 0
  let bad := if d.n (tk m Obj.RESID_LIMIT) < i.resid then t.obsBad + 1 else 0
  let locked := d.b (tk m Obj.LOCKED_4230)
  let gain := !locked && decide (32 ≤ good)
  let loss := locked && (decide (d.n (tk m Obj.RESID_COUNT) ≤ bad) || fast || wild)
  let d1 := (((d.setO (tk m Obj.OBS_ANGLE) (i.obsAngle % 65536)).setO (tk m Obj.OBS_SPEED) (satI32 i.obsSpeed)).updTrac m
    (fun t => { t with obsIn := range, obsGood := if loss then 0 else min good 32, obsBad := min bad 64 }))
  (d1.when gain (fun d => ((d.setO (tk m Obj.LOCKED_4230) 1).addSat (tk m Obj.RELOCKS)).event (mev m 0x21))).when loss
    (fun d => ((d.setO (tk m Obj.LOCKED_4230) 0).addSat (tk m Obj.LOCK_LOSSES)).event (mev m 0x20))

/-- The observer as the active source drives the track while it is locked (R73). -/
def Dev.observerTrack (d : Dev) (m : Mach) : Dev :=
  if d.o (srcKey m Obj.ACTIVE_SOURCE) == 7 && d.b (tk m Obj.LOCKED_4230) then
    let ang := d.n (tk m Obj.OBS_ANGLE)
    d.sourceUpdate (angOf m) (nearestTurn (d.value (angOf m)) ang * 65536 + ang) (d.rateOf m (d.o (tk m Obj.OBS_SPEED))) false
  else d

/-- The cross-check of the locked observer against the active sensor (R146). -/
def Dev.crossCheck (d : Dev) (m : Mach) : Dev :=
  let act := d.n (srcKey m Obj.ACTIVE_SOURCE)
  let off := decide (1 ≤ act) && decide (act ≤ 6) && d.b (tk m Obj.LOCKED_4230) &&
    decide (d.n (tk m Obj.XCHECK_LIMIT) < (ang16 (d.o (tk m Obj.OBS_ANGLE) - d.value (angOf m))).natAbs)
  let run := if off then (d.tracOf m).xcheck + 1 else 0
  (d.updTrac m (fun t => { t with xcheck := min run 65 })).when (decide (run = 64))
    (fun d => (d.event (mev m 0x22)).raise (mcode m 0x1050) false { ini := 0x20 + mnum m, acc := 5 })

/-- SPEED, EMF_EST and ABOVE_ASC (R132, R148, R150), and the overspeed of R157. -/
def Dev.speedFlags (d : Dev) (m : Mach) (i : TracIn) : Dev :=
  let pp := max 1 (d.o (srcKey m Obj.POLE_PAIRS_3430))
  let speed := truncDiv (d.o (angOf m).rateKey * 600) (65536 * pp)
  let x : Int := speed.natAbs
  let asc := d.o (tk m Obj.ASC_SPEED)
  let emfHigh := decide (9 * i.vdc < 10 * i.emf)
  let above :=
    if decide (10 * asc ≤ x) || emfHigh then true
    else if decide (2 * x < 19 * asc) then false else d.b (tk m Obj.ABOVE_ASC)
  let tooHigh := decide (11 * d.o (tk m Obj.MAX_SPEED_4200) < x)
  let code := mcode m 0x1455
  let d1 := (((d.setO (tk m Obj.SPEED_4200) (satI32 speed)).setO (tk m Obj.EMF_EST) i.emf).setB (tk m Obj.ABOVE_ASC)
    above).when (d.trackValid (angOf m).code) (fun d => d.updSource m (fun s => { s with lastSpeed := speed }))
  if tooHigh then
    (d1.when (!(d1.faultOn code)) (fun d => d.event (mev m 0x26))).raise code true { ini := 0x20 + mnum m, acc := 5 }
  else d1.causeGone code

/-! ### Torque (R135 to R137) -/

/-- The boundary interval in ns: the carrier interval, or a sixth of an electrical turn in angle-locked modulation
(R103, R124). -/
def Dev.interval (d : Dev) (m : Mach) : Nat :=
  if d.b (tk m Obj.ACTIVE_PATTERN) then 65536 * 1000000000 / (6 * max 1 (d.o (angOf m).rateKey).natAbs)
  else d.carrierTicks m * 5 / 2 / (if d.o (tk m Obj.UPDATE) = 2 then 2 else 1)

/-- The torque limits and the grants in force (R136). -/
def Dev.torqueLimits (d : Dev) (m : Mach) : Dev :=
  let w2 : Nat := max (2 * (d.o (tk m Obj.SPEED_4200)).natAbs) (max 1 (d.n (tk m Obj.RATED_SPEED)))
  let eta := max 1 (d.n (tk m Obj.ETA))
  let pm := d.n (el Obj.GRANT_DRAW (mnum m + 1))
  let pg := d.n (el Obj.GRANT_FEED (mnum m + 1))
  let mot := eta * pm * 60000 * 2 ^ 30 / (32768 * pi30 * w2)
  let gen := pg * 32768 * 60000 * 2 ^ 30 / (eta * pi30 * w2)
  (((d.setO (tk m Obj.P_MOT_GRANT) pm).setO (tk m Obj.P_GEN_GRANT) pg).setO (tk m Obj.LIMIT_MOT)
    ((min (d.n (tk m Obj.T_MAX_MOT)) mot : Nat) : Int)).setO (tk m Obj.LIMIT_GEN)
    ((min (d.n (tk m Obj.T_MAX_GEN)) gen : Nat) : Int)

/-- Whether a torque is motoring (R136). -/
def Dev.motoring (d : Dev) (m : Mach) (tq : Int) : Bool :=
  let w := d.o (tk m Obj.SPEED_4200)
  decide (2 * (w.natAbs : Int) < d.o (tk m Obj.RATED_SPEED)) || (decide (0 ≤ tq) && decide (0 < w)) ||
    (decide (tq ≤ 0) && decide (w < 0))

/-- TORQUE_REF, the ledger request, TORQUE_CMD and the flags of its limits (R137). -/
def Dev.torqueCommand (d : Dev) (m : Mach) : Dev :=
  let ref := d.o (tk m Obj.TORQUE_SET)
  let t := d.tracOf m
  let mot := d.motoring m ref
  let eta := max 1 (d.n (tk m Obj.ETA))
  let watts := ref.natAbs * (d.o (tk m Obj.SPEED_4200)).natAbs * pi30 / (30000 * 2 ^ 30)
  let lim := d.o (tk m (if mot then Obj.LIMIT_MOT else Obj.LIMIT_GEN))
  let tmax := d.o (tk m (if mot then Obj.T_MAX_MOT else Obj.T_MAX_GEN))
  let t1 := clampI (-lim) lim ref
  let t2 := match t.window with
    | some w => clampI (-(w : Int)) w t1
    | none => t1
  let stepv := d.o (tk m Obj.TQ_RAMP) * d.interval m
  let rv := if t.ramp = 1 then t.rampVal + stepv else if t.ramp = 2 then max 0 (t.rampVal - stepv) else 0
  let cap := rv / 1000000
  let t3 := if t.ramp = 0 then t2 else clampI (-cap) cap t2
  let ramp := if t.ramp = 1 ∧ (t2.natAbs : Int) ≤ cap then 0 else t.ramp
  let flags := b2i (t1 != ref && decide (lim = tmax)) + 2 * b2i (t1 != ref && decide (lim ≠ tmax) && mot) +
    4 * b2i (t1 != ref && decide (lim ≠ tmax) && !mot) + 8 * b2i (t2 != t1) + 64 * b2i (t3 != t2)
  (((d.setO (tk m Obj.TORQUE_REF) ref).setO (tk m Obj.TORQUE_CMD) t3).setO (tk m Obj.LIMIT_FLAGS) flags).updTrac m
    (fun t => { t with
      ramp := ramp, rampVal := if ramp = 0 then 0 else rv, reqAt := d.wall,
      reqDraw := if mot then watts * 32768 / eta else 0, reqFeed := if mot then 0 else watts * eta / 32768 })

/-! ### Current control (R134, R141, R142) -/

/-- The current references of a boundary, mA: i_d and i_q (R141). -/
def Dev.currentRefs (d : Dev) (m : Mach) : Dev × Int × Int :=
  let tq := d.o (tk m Obj.TORQUE_CMD)
  let gen := d.block (tk m Obj.CURVE_GEN)
  let b := if !(d.motoring m tq) && gen != [] then gen else d.block (tk m Obj.CURVE_MOT)
  let sp := (d.o (tk m Obj.SPEED_4200)).natAbs
  let vdc := (d.tracOf m).vdc
  let kt := max 1 (curveAt b 1 sp vdc)
  let want := tq.natAbs * 10000 / kt
  let mag := min want (min (curveAt b 2 sp vdc * 1000) (d.n (tk m Obj.I_MAX) * 1000))
  let beta := min (curveAt b 0 sp vdc + d.n (tk m Obj.DBETA)) 16384
  let iq := (mag : Int) * cos30 beta / 2 ^ 30
  ((d.setO (tk m Obj.BETA) (beta : Nat)).setBit (tk m Obj.LIMIT_FLAGS) 4 (decide (mag < want)),
    -((mag : Int) * sin30 beta / 2 ^ 30), if 0 ≤ tq then iq else -iq)

/-- The edges of the active pattern table at modulation index `M`, in pattern angles, and its request angles (R126,
R128, R129). -/
def Dev.patternNow (d : Dev) (m : Mach) (M : Nat) : List Nat × List Nat :=
  let b := d.block (el Obj.PATTERN_1 (d.n (tk m Obj.ACTIVE_PATTERN)))
  let k := byteAt b 2
  let (j, nx, dx) := segment M 0 (u16s b 16 k)
  let e1 := patternEdges b j
  let e2 := patternEdges b (min (j + 1) (k - 1))
  ((e1.zip e2).map (fun p => ((roundDiv ((p.1 : Int) * (dx - nx) + (p.2 : Int) * nx) dx) % 65536).toNat),
    u16s b (16 + 2 * k + 4 * byteAt b 1 * k) (byteAt b 3))

/-- MS0 places the pattern edges and requests at ANG angles `e` less the angle of the voltage vector ahead of the
d axis (R128, R129). -/
def Dev.placePattern (d : Dev) (m : Mach) (M : Nat) (vd vq : Int) : Dev :=
  let delta := Config.atan2 vq vd
  let (es, rs) := d.patternNow m M
  let at_ (e : Nat) : Nat := (((e : Int) - delta) % 65536).toNat
  d.updTrac m (fun t => { t with edges := es.map at_, reqs := rs.map at_ })

/-- The coefficients the E960 derives for a firmware slot, in both banks (R134, R162). -/
def Dev.firmwareCoef (d : Dev) (L : Nat) (c : Int × Nat × Int × Nat) : Dev :=
  [0, 0x10000].foldl (fun d b =>
    (((d.setO (lk Obj.KP L + b) c.1).setO (lk Obj.SH_P L + b) c.2.1).setO (lk Obj.KI L + b) c.2.2.1).setO
      (lk Obj.SH_I L + b) c.2.2.2) d

/-- The current loops, the voltage limit, the trim and the edges of a modulating bridge (R134, R142). -/
def Dev.controlCurrents (d : Dev) (m : Mach) : Dev :=
  let (d, idRef, iqRef) := d.currentRefs m
  let o (k : Nat) : Int := d.o (tk m k)
  let t := d.tracOf m
  let id := o Obj.I_D
  let iq := o Obj.I_Q
  let rate := d.o (angOf m).rateKey
  let w (x : Int) : Int := rate * pi30 * x / (32768 * 2 ^ 30 * 1000000000)
  let L := 16 * mnum m
  let d := (((d.firmwareCoef L (Config.loopCoef 0 (o Obj.KP_D) (o Obj.KI_D))).firmwareCoef (L + 1)
    (Config.loopCoef 1 (o Obj.KP_Q) (o Obj.KI_Q))).firmwareSample L idRef id 0 (decide (0 < t.limD)) (decide (t.limD < 0))).firmwareSample
    (L + 1) iqRef iq 0 (decide (0 < t.limQ)) (decide (t.limQ < 0))
  let pd := d.o (lk Obj.OUTPUT L)
  let pq := d.o (lk Obj.OUTPUT (L + 1))
  let ff := d.b (tk m Obj.DECOUPLE)
  let vd := pd - (if ff then w (o Obj.LQ * iq) else 0)
  let vq := pq + (if ff then w (o Obj.LD * id + o Obj.PSI_PM * 1000000) else 0)
  let vdcMv : Int := (t.vdc : Int) * 100
  let mmax := if t.noPattern then min (o Obj.M_MAX) 14860 else o Obj.M_MAX
  let vmax := mmax * 2 * vdcMv * 2 ^ 30 / (16384 * pi30)
  let vd' := clampI (-vmax) vmax vd
  let rem : Int := isqrt (vmax * vmax - vd' * vd').toNat
  let vq' := clampI (-rem) rem vq
  let limited := vd' != vd || vq' != vq
  let index (a b : Int) : Int :=
    if vdcMv ≤ 0 then 0 else (isqrt (a * a + b * b).toNat : Int) * 16384 * pi30 / (2 * vdcMv * 2 ^ 30)
  let mreq := index vd vq
  let M := min mmax (index vd' vq')
  let dbMax := o Obj.DBETA_MAX
  let db := clampI 0 dbMax (o Obj.DBETA + truncDiv (o Obj.FW_KI * (mreq - (o Obj.M_MAX - o Obj.FW_MARGIN))) 16384)
  let theta := d.value (angOf m) + rate * 3 * d.interval m / 2000000000
  let va := (vd' * cos30 theta - vq' * sin30 theta) / 2 ^ 30
  let vb := (vd' * sin30 theta + vq' * cos30 theta) / 2 ^ 30
  let est := 150 * d.o (srcKey m Obj.POLE_PAIRS_3430) * (o Obj.PSI_PM * iq * 1000000 + (o Obj.LD - o Obj.LQ) * id * iq) /
    1000000000000000
  let sgn (x : Int) : Int := if limited then (if 0 < x then 1 else if x < 0 then -1 else 0) else 0
  let d1 := ((((((d.setO (tk m Obj.V_D) (satI32 vd')).setO (tk m Obj.V_Q) (satI32 vq')).setO (tk m Obj.M_PRESENT) M).setBit
    (tk m Obj.LIMIT_FLAGS) 5 limited).setO (tk m Obj.TORQUE_EST) (satI32 est)).setO (tk m Obj.DBETA) db).updTrac m
    (fun t => { t with limD := sgn vd, limQ := sgn vq })
  let d2 := d1.when (decide (db = dbMax) && decide (o Obj.DBETA ≠ dbMax)) (fun d => d.event (mev m 0x23))
  if d.b (tk m Obj.ACTIVE_PATTERN) then (d2.setO (tk m Obj.OM_ZONE) 4).placePattern m M.toNat vd' vq'
  else (d2.setO (tk m Obj.OM_ZONE) (omZone M)).placeEdges m va vb M

/-! ### Zero-current hold (R144, R147) -/

/-- The decision of R147 step 4: ASC above 0.9 of the bridge DC voltage, else pulses off. -/
def Dev.holdDecision (d : Dev) (m : Mach) (vdc : Nat) : Dev :=
  let d1 := d.raise (mcode m 0x1452) false { ini := 0x20 + mnum m, acc := 5 }
  if 9 * vdc < 10 * d1.n (tk m Obj.EMF_EST) then d1.ascEnter m 5 else d1.pulsesOff m

/-- Step 1 of R147: the torque command goes to 0 and the hold follows at the next boundary. -/
def Dev.holdStart (d : Dev) (m : Mach) : Dev :=
  ((d.setO (tk m Obj.TORQUE_CMD) 0).updTrac m (fun t => { t with holdWaits := true, ramp := 0, rampVal := 0, reqDraw := 0, reqFeed := 0 })).raise
    (mcode m 0x1251) true { ini := 0x20 + mnum m, acc := 5 }

/-- The hold's edges come into force (R147). -/
def Dev.holdEnter (d : Dev) (m : Mach) : Dev :=
  ((d.setO (tk m Obj.BRIDGE_STATE) 2).updTrac m (fun t => { t with holdWaits := false, holdHigh := 0 })).event (mev m 0x28)

/-- One boundary of the hold: return to the d/q frame after a lock, or the decision after three boundaries with too
much current (R147). -/
def Dev.holdBoundary (d : Dev) (m : Mach) (lockedBefore : Bool) (i : TracIn) : Dev :=
  if lockedBefore then
    (((d.setO (tk m Obj.BRIDGE_STATE) 1).updTrac m (fun t => { t with ramp := 1, rampVal := 0, holdHigh := 0 })).causeGone
      (mcode m 0x1251)).measureCurrents m
  else
    let high := if d.o (tk m Obj.I_FS) * 1000 < 5 * (i.holdI : Int) then (d.tracOf m).holdHigh + 1 else 0
    let d1 := (d.updTrac m (fun t => { t with holdHigh := high })).setO (tk m Obj.TORQUE_CMD) 0
    if 3 ≤ high then d1.holdDecision m i.vdc else d1

/-- ZERO_HOLD_TIMEOUT (R147): 30 ms in the hold without lock. -/
def execZeroHoldTimeout (m : Mach) (s : State) : Host.Outcome State Fault Refusal :=
  s.live (fun d => d.when ((d.o (tk m Obj.BRIDGE_STATE) == 2 || (d.tracOf m).holdWaits) && !(d.b (tk m Obj.LOCKED_4230)))
    (fun d => d.holdDecision m (d.tracOf m).vdc))

/-! ### Run and stop (R149) -/

/-- Whether a valid position sensor is the active source (R69). -/
def Dev.sensorActive (d : Dev) (m : Mach) : Bool :=
  let a := d.n (srcKey m Obj.ACTIVE_SOURCE)
  decide (1 ≤ a) && decide (a ≤ 6) && d.sourceValid m a

/-- The conditions of R149 for a start, with those of the gate channels (R264, R278). -/
def Dev.runConditions (d : Dev) (m : Mach) : Bool :=
  bitOf (d.o (tk m Obj.CURVE_STATUS)) 0 && decide (4000 ≤ (d.tracOf m).vdc) && d.gatesFree (mdom m) &&
    (d.sensorActive m || (d.b (tk m Obj.OBS_ENABLE) && (d.tracOf m).obsIn &&
      (d.o (srcKey m Obj.ACTIVE_SOURCE) == 7 || d.o (srcKey m Obj.ACTIVE_SOURCE) == 0)))

/-- RUN 1 as a write (R149): refused where a condition fails. -/
def Dev.runWrite (d : Dev) (m : Mach) : Dev :=
  if d.startBlocked (mdom m) then d.res resState
  else if d.o (tk m Obj.BRIDGE_STATE) == 0 && !(d.runConditions m) then d.res resState
  else (d.deliver (tk m Obj.RUN_4240) 1).res 0

/-- TRACTION_RUN (R149). -/
def execTractionRun (m : Mach) (s : State) : Host.Outcome State Fault Refusal := s.serve (fun d => d.allowed (enableBits (mdom m)) (fun d => d.runWrite m))

/-- TRACTION_STOP (R149): RUN 0 is accepted at any time. -/
def execTractionStop (m : Mach) (s : State) : Host.Outcome State Fault Refusal :=
  s.serve (fun d => (d.deliver (tk m Obj.RUN_4240) 0).res 0)

/-- A start from pulses off takes effect at a boundary (R149). -/
def Dev.runStart (d : Dev) (m : Mach) : Dev :=
  let on (d : Dev) (L : Nat) : Dev := (d.setO (lk Obj.ENABLE_A100 L) 1).updLoop L (fun l => { l with first := true })
  let d1 := ((on (on (d.evalTables m) (16 * mnum m)) (16 * mnum m + 1)).setO (tk m Obj.BRIDGE_STATE) 1).updTrac m (fun t => { t with
    limD := 0, limQ := 0, ramp := 1, rampVal := 0, predRun := 0, plausRun := 0, windows := [] })
  let d2 := d1.when (d1.o (srcKey m Obj.ACTIVE_SOURCE) == 0) (fun d => d.changeSource m 7)
  d2.when (d2.o (srcKey m Obj.ACTIVE_SOURCE) == 7) (fun d => d.holdStart m)

/-- RUN as applied at a boundary: a start, a ramp to 0 and its end, or nothing on a bridge in ASC (R149). -/
def Dev.runStop (d : Dev) (m : Mach) : Dev :=
  let run := d.b (tk m Obj.RUN_4240)
  let bs := d.n (tk m Obj.BRIDGE_STATE)
  let t := d.tracOf m
  if 3 ≤ bs then d.setO (tk m Obj.RUN_4240) 0
  else if bs = 0 then
    if run then
      if d.startBlocked (mdom m) || !(d.runConditions m) then d.setO (tk m Obj.RUN_4240) 0
      else
        let (d1, ready) := d.startReady (mdom m)
        d1.when ready (fun d => d.runStart m)
    else d
  else if run then d.when (decide (t.ramp = 2)) (fun d => d.updTrac m (fun t => { t with ramp := 1 }))
  else if bs = 2 ∨ t.holdWaits ∨ (t.ramp = 2 ∧ t.rampVal = 0) then d.pulsesOff m
  else d.when (decide (t.ramp ≠ 2)) (fun d =>
    d.updTrac m (fun t => { t with ramp := 2, rampVal := (d.o (tk m Obj.TORQUE_CMD)).natAbs * 1000000 }))

/-! ### Leaving ASC (R153, R154) -/

/-- Everything R153 asks for but the speed condition: the causes have gone and no fault state stands. -/
def Dev.ascCauseGone (d : Dev) (m : Mach) : Bool :=
  decide (d.safeState = 0) && !(d.faultOnDomain (mdom m) 2) && !d.tier3 && !d.tier4 && decide (d.o Obj.SAFE_IN = 0) &&
    !(d.ocTrips.contains (mnum m)) && (d.groupChannels (tracGroup m)).all (fun n => !(d.latched n))

/-- ASC ends in pulses off (R153). -/
def Dev.ascExit (d : Dev) (m : Mach) : Dev := ((d.pulsesOff m).setO (tk m Obj.ASC_CAUSE) 0).event (mev m 0x25)

/-- TRA_ASC_PROBE (R154): a probe starts while ASC is in force without a valid position sensor and no cause 3 or 4. -/
def execTraAscProbe (m : Mach) (s : State) : Host.Outcome State Fault Refusal :=
  s.live (fun d =>
    let bs := d.n (tk m Obj.BRIDGE_STATE)
    d.when ((bs == 3 || bs == 4) && !(d.sensorActive m) && !d.tier3 && !d.tier4 && !((d.tracOf m).probing))
      (fun d => (d.updTrac m (fun t => { t with probing := true })).event (mev m 0x27)))

/-- The end of a probe with the back-EMF peak (0.1 V) and frequency (mHz) HN0 measured, or its early end by the DC-link
current (R154). -/
def Dev.probeEnd (d : Dev) (m : Mach) (emf freq : Nat) (dcHigh : Bool) : Dev :=
  if !((d.tracOf m).probing) then d
  else
    let d1 := (d.updTrac m (fun t => { t with probing := false })).setO (tk m Obj.EMF_EST) emf
    let pp := d.n (srcKey m Obj.POLE_PAIRS_3430)
    let pass := !dcHigh && decide (10 * emf ≤ 9 * (d.tracOf m).vdc) &&
      decide (freq * 6000 < 95 * d.n (tk m Obj.ASC_SPEED) * 1000 * pp)
    if pass && d1.ascCauseGone m then d1.ascExit m else d1

/-- ASC_PROBE_END (R154). -/
def execAscProbeEnd (m : Mach) (emf freq : Nat) (dcHigh : Bool) (s : State) : Host.Outcome State Fault Refusal :=
  s.live (fun d => d.probeEnd m emf freq dcHigh)

/-! ### The boundary (R103) -/

/-- A waiting stop takes effect: ASC when ABOVE_ASC is 1, else pulses off; after a loss of range pulses off and no
source (R144, R150). -/
def Dev.takeStops (d : Dev) (m : Mach) : Dev :=
  let t := d.tracOf m
  let bs := d.n (tk m Obj.BRIDGE_STATE)
  if t.offWaits then
    (((d.pulsesOff m).changeSource m 0).updTrac m (fun t => { t with offWaits := false, stopWaits := false }))
  else if t.stopWaits ∧ !(d.ocHold.contains (mnum m)) then
    if bs = 1 ∨ bs = 2 then (if d.b (tk m Obj.ABOVE_ASC) then d.ascEnter m 2 else d.pulsesOff m)
    else d.updTrac m (fun t => { t with stopWaits := false })
  else d

/-- The observer as active source leaves its range, or loses lock while the bridge modulates (R144, R147). -/
def Dev.observerStops (d : Dev) (m : Mach) : Dev :=
  let bs := d.n (tk m Obj.BRIDGE_STATE)
  let t := d.tracOf m
  if d.o (srcKey m Obj.ACTIVE_SOURCE) != 7 then d
  else if !t.obsIn then
    (d.setO (tk m Obj.TORQUE_CMD) 0).updTrac m (fun t => { t with offWaits := true, reqDraw := 0, reqFeed := 0 })
  else if bs = 1 ∧ !(d.b (tk m Obj.LOCKED_4230)) ∧ !t.holdWaits then d.holdStart m
  else d

/-- One boundary of a bridge in its present state. -/
def Dev.bridgeBoundary (d : Dev) (m : Mach) (lockedBefore : Bool) (i : TracIn) : Dev :=
  let t := d.tracOf m
  match d.n (tk m Obj.BRIDGE_STATE) with
  | 0 => d.phaseSensors m i.iu i.iv i.iw
  | 1 =>
    if t.holdWaits && !(d.b (tk m Obj.TORQUE_CMD)) && t.holdWas then d.holdEnter m
    else
      let d1 := ((d.measureCurrents m).plausibility m i.iu i.iv i.iw).decideMode m
      if t.holdWaits || t.offWaits then d1 else (d1.torqueCommand m).controlCurrents m
  | 2 => if t.offWaits then d else d.holdBoundary m lockedBefore i
  | _ =>
    let d1 := d.phaseSensors m i.iu i.iv i.iw
    d1.when (!t.probing && d1.ascCauseGone m && d1.sensorActive m && !(d1.b (tk m Obj.ABOVE_ASC))) (fun d => d.ascExit m)

/-- A traction boundary (R103, R124): the writes of the domain, the source, the observer, the limits, the bridge, and
the inputs the next boundary uses. -/
def Dev.tracBoundary (d : Dev) (m : Mach) (i : TracIn) : Dev :=
  let lockedBefore := d.b (tk m Obj.LOCKED_4230)
  let waited := (d.tracOf m).holdWaits
  let d1 := (((d.applyWrites (d.tracOwns m)).gateSet (tracGroup m)).extrapolate (angOf m)).updTrac m
    (fun t => { t with holdWas := waited })
  let tmin := d1.o (at' Obj.DT_NOW (tracGroup m - 1)) + d1.o (tk m Obj.T_SETTLE) + d1.o (tk m Obj.WIN_LEN)
  let d2 := (((d1.setO (tk m Obj.T_MIN) tmin).observe m i).selectSource m).observerTrack m
  let d3 := ((d2.crossCheck m).speedFlags m i).torqueLimits m
  let d4 := (((d3.takeStops m).runStop m).observerStops m).bridgeBoundary m lockedBefore i
  d4.updTrac m (fun t => { t with
    vdc := i.vdc, windows := (t.windows.map (fun w => { w with age := w.age + 1 })).filter (fun w => decide (w.age ≤ 64)) })

/-- TRACTION_BOUNDARY (R103). -/
def execTractionBoundary (m : Mach) (i : TracIn) (s : State) : Host.Outcome State Fault Refusal :=
  s.live (fun d => d.when (!(d.dead.contains (0x20 + mnum m))) (fun d => d.tracBoundary m i))

end Sys2Proof.Machine
end

