-- ==== Sys2Proof/Machine/Ledger.lean ====
section
/-! DEFINITION. The DC link and the power ledger (R184 to R208) with the limit frames of its sources (R399 to R402): the
grants, the sources, contactors and precharge, the discharge, the chopper and the over-voltage tiers. -/

namespace Sys2Proof.Machine

/-! ### The books (R189) -/

/-- What one ledger period computes its grants from (R189): the link voltage, V_UV and V_LOW (0.1 V); IMP, SINK and the
allowances (W); CHOP as a fraction; the credits; the floors; the requests of TRA, TRB, GRD, DCA and DCB; and whether
traction feed is barred. -/
structure Books where
  v : Int
  uv : Int
  low : Int
  imp : Int
  sink : Int
  chopNum : Int
  chopDen : Int
  lDn : Int
  lUp : Int
  credFd : Int
  credDr : Int
  floorA : Int
  floorB : Int
  dTra : Int
  dTrb : Int
  dGrd : Int
  dDca : Int
  dDcb : Int
  fTra : Int
  fTrb : Int
  fGrd : Int
  noFeed : Bool
deriving DecidableEq, Repr

/-- The grants of one period, W, and whether the floors are carried by the link (R189). -/
structure Grants where
  tra : Int := 0
  trb : Int := 0
  grd : Int := 0
  dca : Int := 0
  dcb : Int := 0
  fTra : Int := 0
  fTrb : Int := 0
  fGrd : Int := 0
  short : Bool := false
deriving DecidableEq, Repr

/-- The share of R189: `num / den` divided in proportion to two requests, none larger than its request, each rounded down
to a whole watt. -/
def share (num den r1 r2 : Int) : Int × Int :=
  if (r1 + r2) * den ≤ num then (r1, r2)
  else if r1 + r2 ≤ 0 ∨ num ≤ 0 then (0, 0)
  else (num * r1 / (den * (r1 + r2)), num * r2 / (den * (r1 + r2)))

/-- The draw grants of DCB and DCA, what remains of the draw budget for them, GRD and traction, and whether the floors
overdraw it (R189): DCB's floor, DCA's floor, the budget left, the notice. -/
def floors (b : Books) : Int × Int × Int × Bool :=
  let above := decide (b.uv < b.v)
  let gB := if above then min b.dDcb b.floorB else max 0 (min (min b.dDcb b.floorB) (b.imp + b.credFd))
  let gA := if above then min b.dDca b.floorA else max 0 (min (min b.dDca b.floorA) (b.imp + b.credFd - gB))
  let D := b.imp + b.lDn + b.credFd - gB - gA
  (gB, gA, max 0 D, decide (D < 0) && above)

/-- The fading factor k of traction draw, as a fraction (R185, R189). -/
def fading (b : Books) : Int × Int :=
  if b.low ≤ b.v then (1, 1) else if b.uv < b.v then (b.v - b.uv, b.low - b.uv) else (0, 1)

/-- The procedure of R189. -/
def grants (b : Books) : Grants :=
  let (fB, fA, D, short) := floors b
  let gG := min b.dGrd D
  let addA := min (b.dDca - fA) (D - gG)
  let addB := min (b.dDcb - fB) (D - gG - addA)
  let rest := D - gG - addA - addB
  let (kn, kd) := fading b
  let (gTa, gTb) := share (kn * rest) kd b.dTra b.dTrb
  let F := b.sink + b.lUp + b.credDr
  let amount := max 0 (F * b.chopDen + b.chopNum)
  let (fTa, fTb) := if b.noFeed then (0, 0) else share amount b.chopDen b.fTra b.fTrb
  let left :=
    if b.noFeed then F
    else if (b.fTra + b.fTrb) * b.chopDen ≤ amount then F - b.fTra - b.fTrb else 0
  { tra := gTa, trb := gTb, grd := gG, dca := fA + addA, dcb := fB + addB, fTra := fTa, fTrb := fTb,
    fGrd := min b.fGrd (max 0 left), short := short }

/-! ### Requests (R186, R187) -/

/-- The domain of participant `n`: 1 TRA, 2 TRB, 3 GRD, 4 DCA, 5 DCB (R191). -/
def participant : Nat → Domain
  | 1 => .tra | 2 => .trb | 3 => .grd | 4 => .dca | _ => .dcb

/-- The request participant `n` last posted, draw and feed, with the WALL of its posting (R187). -/
def Dev.posted (d : Dev) (n : Nat) : Nat × Nat × Nat :=
  match n with
  | 1 => let t := d.tracOf .A; (t.reqDraw, t.reqFeed, t.reqAt)
  | 2 => let t := d.tracOf .B; (t.reqDraw, t.reqFeed, t.reqAt)
  | 3 => (d.grid.reqDraw, d.grid.reqFeed, d.grid.reqAt)
  | 4 => let a := d.dabOf .dca; (a.reqDraw, 0, a.reqAt)
  | _ => let a := d.dabOf .dcb; (a.reqDraw, 0, a.reqAt)

/-- A request counts unless it is older than 200 µs or its domain is stopped, in pulses off or in ASC; a derate caps it (R186,
R545). -/
def Dev.request (d : Dev) (n : Nat) : Nat × Nat :=
  let (dr, fd, t) := d.posted n
  let idle := (n == 1 && d.n Obj.BRIDGE_STATE != 1 && d.n Obj.BRIDGE_STATE != 2) ||
    (n == 2 && d.n (tk .B Obj.BRIDGE_STATE) != 1 && d.n (tk .B Obj.BRIDGE_STATE) != 2)
  if t + 200000 < d.wall ∨ d.stopped (participant n) ∨ idle then (0, 0) else (d.derate (participant n) dr, d.derate (participant n) fd)

/-! ### Sources (R188, R192, R399 to R402) -/

/-- The hidden state of a source. -/
def Dev.feedOf (d : Dev) (src : Nat) : FeedSource := Tab.get {} d.feeds src

/-- The hidden state of a source changed. -/
def Dev.updFeed (d : Dev) (src : Nat) (f : FeedSource → FeedSource) : Dev :=
  { d with feeds := Tab.upd {} d.feeds src f }

/-- Whether a source is fitted: the battery only with BATTERY_FITTED 1 (R188). -/
def Dev.fitted (d : Dev) (src : Nat) : Bool := src == 0 || d.b Obj.BATTERY_FITTED

/-- Whether a source's capacity counts (R188, R192, R400 to R402). -/
def Dev.sourceCounts (d : Dev) (src : Nat) : Bool :=
  let f := d.feedOf src
  d.fitted src && d.mainClosed src && f.seen && !f.timedOut && !f.lost && (f.state == 1 || f.state == 3)

/-- Whether GRD holds the link: CHARGE switches and no source main is closed (R223). -/
def Dev.grdHolds (d : Dev) : Bool :=
  d.o Obj.GRD_MODE == 1 && d.grid.step == 5 && !(d.mainClosed 0) && !(d.mainClosed 1)

/-- V_REF in 0.1 V, where there is one (R188). -/
def Dev.vRef (d : Dev) : Option Nat :=
  let known (s : Nat) : Bool := d.fitted s && d.mainClosed s && (d.feedOf s).seen
  let v (s : Nat) := (d.feedOf s).volts
  if known 0 && known 1 then some (min (v 0) (v 1)) else if known 0 then some (v 0) else if known 1 then some (v 1)
  else if d.grdHolds then some (10 * d.n Obj.VDC_SET) else none

/-- Fault 0x6275 has no cause left once no source is timed out or lost (R192, R520). -/
def Dev.sourcesRestored (d : Dev) : Dev :=
  d.when ([0, 1].all (fun s => !(d.feedOf s).timedOut && !(d.feedOf s).lost)) (fun d => d.causeGone 0x6275)

/-- LNK_SOURCE_LOST (R192, third case): the current of a source (0.1 A) stayed below 1 A for 200 µs while the link fell
by `fall` (0.1 V) in the same time. -/
def Dev.sourceLost (d : Dev) (src i fall : Nat) : Dev :=
  if !(d.sourceCounts src) || decide (10 ≤ i) || decide (fall ≤ 100) then d
  else
    let three := (d.feedOf src).state == 3
    ((d.updFeed src (fun f => { f with lost := true, lost3 := three, closed := three })).event 0x85).raise 0x6275 true
      { ini := 0x35, acc := 5 }

/-- LNK_SOURCE_LOST (R192). -/
def execLnkSourceLost (src : Fin 2) (i fall : Nat) (s : State) : Host.Outcome State Fault Refusal :=
  s.live (fun d => d.sourceLost src i fall)

/-- LNK_SOURCE_TIMEOUT (R188, R192): no limit frame within the source's timeout; its peer is released (R399). -/
def execLnkSourceTimeout (src : Fin 2) (s : State) : Host.Outcome State Fault Refusal :=
  s.live (fun d =>
    if !(d.fitted src) || !(d.feedOf src).seen || (d.feedOf src).timedOut then d
    else
      let d1 := d.when (decide (src.val = 0)) (fun d => { d with peers := Tab.set {} d.peers 0 {} })
      ((d1.updFeed src (fun f => { f with timedOut := true })).event 0x86).raise 0x6275 true { ini := 0x01, acc := 6 })

/-- An input of one peer only (R399): whether a message from NAME `name` is taken, and the state after counting one that
is ignored. -/
def Dev.peerTakes (d : Dev) (input filterKey name : Nat) : Dev × Bool :=
  let filter := d.n filterKey
  let p : InputPeer := Tab.get {} d.peers input
  let held := if filter ≠ 0 then filter else if p.name = 0 then name else p.name
  if name = held then
    (if p.name = held then d else { d with peers := Tab.set {} d.peers input { name := held, reported := false } }, true)
  else
    let d1 := d.addSat Obj.IGNORED
    (if p.reported && p.name == held then d1
     else
      ({ d1 with peers := Tab.set {} d1.peers input { name := held, reported := true } }.event 0xDD).raiseOn 0x90D3 .sys false
        { addr := filterKey, ini := 0x5F, acc := 6 }, false)

/-- A limit frame taken: limits in 100 W units, voltage in 0.1 V, contactor state 0 open, 1 closed, 2 error, 3 not
available (R400, R401). -/
def Dev.limitFrame (d : Dev) (src a b volts state : Nat) (regen : Bool) : Dev :=
  let st := state % 4
  (d.updFeed src (fun f => { f with
    draw := a % 65536 * 100, feed := b % 65536 * 100, volts := volts % 65536, state := st, regen := regen,
    seen := true, timedOut := false,
    closed := f.lost && (if f.lost3 then st == 1 || st == 3 else f.closed || st == 1 || st == 3) })).sourcesRestored

/-- TRACTOR_LIMIT_FRAME (R399, R400): CODE 0xE9 from the peer of NAME `name`. -/
def execTractorLimitFrame (name limitA limitB volts state : Nat) (regenOk : Bool) (s : State) :
    Host.Outcome State Fault Refusal :=
  s.serve (fun d =>
    let (d1, taken) := d.peerTakes 0 Obj.TRACTOR_NAME name
    d1.when taken (fun d => d.limitFrame 0 limitA limitB volts state regenOk))

/-- BMS_LIMIT_FRAME (R401): taken while BATTERY_FITTED reads 1 and SOURCE is BMS_ADDR. -/
def execBmsLimitFrame (source limitA limitB volts state : Nat) (s : State) : Host.Outcome State Fault Refusal :=
  s.serve (fun d => d.when (d.b Obj.BATTERY_FITTED && d.n Obj.BMS_ADDR == source) (fun d =>
    d.limitFrame 1 limitA limitB volts state true))

/-- The sum of five elements of an array object. -/
def Dev.sum5 (d : Dev) (k : Nat) : Nat := d.n k + d.n (k + 1) + d.n (k + 2) + d.n (k + 3) + d.n (k + 4)

/-- LINK_STATE of the tractor main in the frame of R400. -/
def Dev.tractorMainState (d : Dev) : Nat :=
  match d.mainOf 0 with
  | some n => match d.n (at' Obj.STATE_5810 n) with
    | 2 => 1
    | 4 => 2
    | _ => 0
  | none => 3

/-- The frame of CODE 0xEA as the bytes of its 64-bit layout (R400). -/
def Dev.linkStatusFrame (d : Dev) : Bytes :=
  leBytes 1 0xEA ++ leBytes 1 (d.tractorMainState : Nat) ++ leBytes 2 ((min 65535 (d.n Obj.VDC) : Nat) : Int) ++
    leBytes 2 ((min 65535 (d.sum5 Obj.REQ_DRAW / 100) : Nat) : Int) ++
    leBytes 2 ((min 65535 (d.sum5 Obj.REQ_FEED / 100) : Nat) : Int)

/-- LINK_STATUS_FRAME_SEND (R400); only with a claimed address (R398). -/
def execLinkStatusFrameSend (s : State) : Host.Outcome State Fault Refusal :=
  s.serve (fun d => d.when (d.claim == 2) (fun d => { d with data := d.linkStatusFrame }))

/-- SOURCE_CURRENT_RETURN (R402): the current of a lost source that reported state 3 has been 1 A or more for 200 µs. -/
def execSourceCurrentReturn (src : Fin 2) (s : State) : Host.Outcome State Fault Refusal :=
  s.live (fun d =>
    let f := d.feedOf src
    d.when (f.lost && f.lost3 && f.closed && (f.state == 1 || f.state == 3))
      (fun d => (d.updFeed src (fun f => { f with lost := false, lost3 := false, closed := false })).sourcesRestored))

/-- A lost source whose closed state has been announced returns with its current (R192). -/
def Dev.sourceReturns (d : Dev) (src i : Nat) : Dev :=
  let f := d.feedOf src
  d.when (f.lost && f.closed && !f.lost3 && decide (10 ≤ i))
    (fun d => (d.updFeed src (fun f => { f with lost := false, closed := false })).sourcesRestored)

/-! ### Failure and completion of a precharge (R199, R201, R202, R255) -/

/-- The contactors of a precharge in progress open, PRE_STATE reads 5, and the failure is raised (R201). -/
def Dev.preFail (d : Dev) : Dev :=
  match d.link.job with
  | none => d
  | some j =>
    let d1 := (d.abortPrecharge).coilOff? (d.mainOf j.src)
    ((d1.setO Obj.PRE_STATE 5).event 0x89).raise 0x6477 false { ini := 0x01, acc := 5 }

/-- A main found welded (R199). -/
def Dev.welded (d : Dev) (src : Nat) : Dev :=
  (d.event 0x8B).raise 0x6879 false { addr := (d.mainOf src).getD 0xFFFFFFFF, ini := 0x01, acc := 5 }

/-- A precharge is complete: PRE_STATE reads 4, and a second source is up next (R201, R255). -/
def Dev.preDone (d : Dev) : Dev :=
  match d.link.job with
  | none => d
  | some j => ((d.updLink (fun l => { l with job := none, second := j.second })).setO Obj.PRE_STATE 4).event 0x88

/-- Whether a contactor is open with its coil off. -/
def Dev.isOpen (d : Dev) (n : Option Nat) : Bool :=
  match n with
  | some n => !(d.ctrOf n).on && d.o (at' Obj.STATE_5810 n) == 0
  | none => true

/-- A precharge of source `src` starts, and counts from its start (R199, R201, R255). -/
def Dev.preStart (d : Dev) (src : Nat) (second : Option Nat) : Dev :=
  let d := (d.startReady .lnk).1
  let mode := d.n Obj.PRE_MODE
  let vs := (d.feedOf src).volts
  let j : Precharge := { src := src, second := second, vs := vs, mode := mode }
  let d1 := (d.updLink (fun l => { l with
    job := some j, starts := (l.starts.filter (fun t => decide (d.wall < t + 60000000000))) ++ [d.wall] })).when
      (decide (mode ≠ 1)) (fun d => d.setO Obj.PRE_STATE 1)
  if !(d1.isOpen (d1.mainOf src)) || !(d1.isOpen (d1.preOf src)) then d1.preFail
  else if vs < 2 * d1.n Obj.VDC then (d1.welded src).preFail
  else if mode = 0 then (match d1.preOf src with
    | some n => d1.coilOn n
    | none => d1.preFail)
  else if mode = 2 ∧ !(d1.b Obj.DRIVE_EN) then d1.preFail
  else if mode = 2 then (d1.setPreSwitch true).updLink (fun l => { l with job := some { j with phase := 1 } })
  else if d1.o Obj.V_OUT < d1.o Obj.V_LVB_MIN then d1.preFail
  else d1

/-! ### LINK_CTRL (R195, R201, R203) -/

/-- The sources a LINK_CTRL value names (R200). -/
def linkSources (v : Nat) : List Nat := if v = 1 then [0] else if v = 2 then [1] else if v = 3 then [0, 1] else []

/-- Whether the set of roles is one R195 accepts. -/
def Dev.rolesOk (d : Dev) : Bool :=
  let count (r : Nat) : Nat := ([0, 1, 2, 3].filter (fun n => d.n (at' Obj.ROLE_5810 n) == r)).length
  [1, 2, 3, 4].all (fun r => decide (count r ≤ 1)) && (count 2 == 0 || count 1 == 1) && (count 4 == 0 || count 3 == 1)

/-- The checks of a LINK_CTRL write (R195, R198, R201, R202, R417). -/
def Dev.linkCtrlCheck (d : Dev) (v : Int) : Nat :=
  if v < 0 ∨ 3 < v then resRange
  else if v = 0 then 0
  else
    let a := d.ahead
    let names := linkSources v.toNat
    let first := names.headD 0
    let mode := a.o Obj.PRE_MODE
    if !a.rolesOk then resCombination
    else if d.startBlocked .lnk || names.any (fun s => (a.mainOf s).isNone) then resState
    else if d.mainClosed 0 || d.mainClosed 1 then 0
    else if !((d.feedOf first).seen) || decide ((d.feedOf first).volts < 4000) || !(a.fitted first) ||
        (mode == 0 && (a.preOf first).isNone) || (mode == 2 && d.preSwitch.isNone) ||
        (mode == 1 && !(a.b Obj.LV_BATTERY_FITTED)) then resState
    else if 3 ≤ (d.link.starts.filter (fun t => decide (d.wall < t + 60000000000))).length then 0x40000004
    else 0

/-- A LINK_CTRL write (R201). -/
def Dev.linkCtrlWrite (d : Dev) (v : Int) : Dev :=
  let c := d.linkCtrlCheck v
  if c ≠ 0 then d.res c else (d.deliver Obj.LINK_CTRL v).res 0

/-- A LINK_CTRL write under the fuses: each source it names is a function of its own (R484). -/
def Dev.linkCtrlPermitted (d : Dev) (v : Int) : Dev :=
  if (v = 1 ∨ v = 3) ∧ d.fuseBars [6] then d.allowed [6] (fun d => d.linkCtrlWrite v)
  else if v = 2 ∨ v = 3 then d.allowed [7] (fun d => d.linkCtrlWrite v)
  else if v = 1 then d.allowed [6] (fun d => d.linkCtrlWrite v) else d.linkCtrlWrite v

/-- LINK_CTRL_WRITE (R201). -/
def execLinkCtrlWrite (v : Int) (s : State) : Host.Outcome State Fault Refusal := s.serve (fun d => d.linkCtrlPermitted v)

/-- LINK_CTRL as applied at a ledger period: what it no longer names opens, what it newly names connects directly or by a
precharge, and 0 discharges (R201, R203). -/
def Dev.linkApply (d : Dev) (v : Nat) : Dev :=
  let names := linkSources v
  let d1 := match d.link.job with
    | some j => if names.contains j.src then
        d.updLink (fun l => { l with job := some { j with second := names.find? (· != j.src) } }) else d.abortPrecharge
    | none => d
  let todo := if d1.link.job.isSome then [] else names.filter (fun s => match d1.mainOf s with
    | some n => !(d1.ctrOf n).on
    | none => false)
  let direct := !todo.isEmpty && (d1.mainClosed 0 || d1.mainClosed 1)
  let d2 := [0, 1].foldl (fun d s =>
    if names.contains s then d.updLink (fun l => { l with opening := l.opening.filter (· != s) })
    else if direct && d.mainClosed s then d.updLink (fun l => { l with deferred := insertOnce s l.deferred })
    else d.openSource s) (d1.updLink (fun l => { l with deferred := [], second := none }))
  if names.isEmpty then ((d2.setO Obj.PRE_STATE (if d2.link.discharge = 0 then 0 else 6)).updLink (fun l => { l with
    after := 0 })).dischargeStart
  else if d2.startBlocked .lnk then d2
  else
    let d3 := d2.when (decide (d2.link.discharge ≠ 0)) (fun d =>
      ((d.updLink (fun l => { l with discharge := 0 })).setO Obj.PRE_STATE 0).driveChopper)
    if d3.link.job.isSome then d3
    else if direct then d3.updLink (fun l => { l with second := todo.head? })
    else match todo with
      | [] => d3
      | s :: t => d3.preStart s t.head?

/-- SECOND_SOURCE_CONNECT (R201): the source that waits connects through its own main within 3 % of its announced
voltage, and is refused otherwise; the link reads `vdc` (0.1 V). -/
def Dev.secondSource (d : Dev) (src vdc : Nat) : Dev :=
  if d.link.second != some src then d
  else
    let d1 := (d.setO Obj.VDC vdc).updLink (fun l => { l with second := none })
    let vs := (d1.feedOf src).volts
    if d1.startBlocked .lnk then d1.updLink (fun l => { l with deferred := [] })
    else if !((d1.feedOf src).seen) || decide (3 * vs < 100 * ((vdc : Int) - vs).natAbs) then
      (d1.updLink (fun l => { l with deferred := [] })).raise 0x6275 false { ini := 0x35, acc := 5 }
    else match d1.mainOf src with
      | some n => d1.coilOn n
      | none => d1

/-- SECOND_SOURCE_CONNECT (R201). -/
def execSecondSourceConnect (src : Fin 2) (vdc : Nat) (s : State) : Host.Outcome State Fault Refusal :=
  s.live (fun d => d.secondSource src vdc)

/-! ### The steps of a precharge (R201) -/

/-- The phase of the precharge in progress set. -/
def Dev.prePhase (d : Dev) (p : Nat) : Dev :=
  d.updLink (fun l => { l with job := l.job.map (fun j => { j with phase := p }) })

/-- The precharge in progress, if it stands in phase `p`. -/
def Dev.preIn (d : Dev) (p : Nat) : Option Precharge :=
  match d.link.job with
  | some j => if j.phase = p then some j else none
  | none => none

/-- PRECHARGE_CONTACTOR_CLOSED (R195, R201 step 1): its feedback, or with FB_MODE 0 the end of T_CLOSE_MAX. -/
def execPrechargeContactorClosed (s : State) : Host.Outcome State Fault Refusal :=
  s.live (fun d => match d.preIn 0 with
    | some j => (match d.preOf j.src with
      | some n => d.when (decide (j.mode = 0) && (d.ctrOf n).on) (fun d => (d.setO (at' Obj.STATE_5810 n) 2).prePhase 1)
      | none => d)
    | none => d)

/-- The link as read at a step of a resistor precharge: above 1.05 times V_S the precharge fails (R201 step 3). -/
def Dev.preVoltage (d : Dev) (vdc : Nat) (f : Precharge → Dev → Dev) : Dev :=
  match d.preIn 1 with
  | some j =>
    let d1 := d.setO Obj.VDC vdc
    if j.mode = 1 then d else if 105 * j.vs < 100 * vdc then d1.preFail else f j d1
  | none => d

/-- PRECHARGE_TAU_CHECK (R201 step 2): at one τ the link must stand at 50 % of V_S. -/
def execPrechargeTauCheck (vdc : Nat) (s : State) : Host.Outcome State Fault Refusal :=
  s.live (fun d => d.preVoltage vdc (fun j d => d.when (decide (2 * vdc < j.vs)) (fun d => d.preFail)))

/-- The main of the precharged source closes (R201 step 4, R255 step 4). -/
def Dev.preMain (d : Dev) (src : Nat) : Dev :=
  match d.mainOf src with
  | some n => ((d.prePhase 2).setO Obj.PRE_STATE 3).coilOn n
  | none => d.preFail

/-- PRECHARGE_RATIO_REACHED (R201 steps 3 and 4). -/
def execPrechargeRatioReached (vdc : Nat) (s : State) : Host.Outcome State Fault Refusal :=
  s.live (fun d => d.preVoltage vdc (fun j d =>
    d.when (decide (d.n Obj.PRE_RATIO * j.vs ≤ 10000 * vdc)) (fun d => d.preMain j.src)))

/-- PRECHARGE_TIMEOUT (R201 step 3, R202): the lesser of 5 τ and PRE_TIMEOUT has passed without the ratio. -/
def execPrechargeTimeout (s : State) : Host.Outcome State Fault Refusal :=
  s.live (fun d => d.when (d.preIn 1).isSome (fun d => d.preFail))

/-- PRECHARGE_CONTACTOR_OPEN (R201 step 4): 20 ms after the main's feedback the precharge contactor or switch opens and
the precharge is done. -/
def execPrechargeContactorOpen (s : State) : Host.Outcome State Fault Refusal :=
  s.live (fun d => match d.preIn 3 with
    | some j => d.when (decide (j.mode ≠ 1)) (fun d =>
        ((d.coilOff? (d.preOf j.src)).when (decide (j.mode = 2)) (fun d => d.setPreSwitch false)).preDone)
    | none => d)

/-! ### Contactors (R194 to R199) -/

/-- The source whose main driver `n` is. -/
def Dev.mainSource (d : Dev) (n : Nat) : Option Nat := [0, 1].find? (fun s => d.mainOf s == some n)

/-- A feedback mismatch of driver `n`: STATE reads 4, and LNK stops; a precharge in progress that waits for it fails
(R195, R201). -/
def Dev.ctrMismatch (d : Dev) (n : Nat) : Dev :=
  let st := d.n (at' Obj.STATE_5810 n)
  let mine := match d.link.job with
    | some j => (j.phase == 2 && d.mainOf j.src == some n) || (j.phase == 0 && d.preOf j.src == some n)
    | none => false
  if st ≠ 1 ∧ st ≠ 3 then d
  else
    let d1 := d.setO (at' Obj.STATE_5810 n) 4
    let d2 := d1.when mine (fun d => d.preFail)
    if (d.mainSource n).isSome then
      ((d2.updCtr n (fun c => { c with mismatch := true })).event 0x8A).raise 0x6478 true { addr := n, ini := 0x01, acc := 5 }
    else d2

/-- LNK_CTR_MISMATCH (R195). -/
def execLnkCtrMismatch (n : Fin 4) (s : State) : Host.Outcome State Fault Refusal := s.live (fun d => d.ctrMismatch n)

/-- Feedback confirms a driver's contactor: its mismatch is over (R195, R520). -/
def Dev.ctrConfirm (d : Dev) (n st : Nat) : Dev :=
  let d1 := (d.setO (at' Obj.STATE_5810 n) st).updCtr n (fun c => { c with mismatch := false })
  d1.when ((d.ctrOf n).mismatch && [0, 1, 2, 3].all (fun m => !(d1.ctrOf m).mismatch)) (fun d => d.causeGone 0x6478)

/-- A main's closing is confirmed with the link at `vdc` (0.1 V): the deferred mains open, and a precharge goes on.  With
FB_MODE 0 the link must lie within 2 % of the announced voltage (R188, R195, R201, R255). -/
def Dev.mainConfirmed (d : Dev) (n vdc : Nat) : Dev :=
  match d.mainSource n with
  | none => d
  | some src =>
    if d.n (at' Obj.STATE_5810 n) ≠ 1 ∨ !(d.ctrOf n).on then d
    else
      let vs := (d.feedOf src).volts
      let d0 := d.setO Obj.VDC vdc
      if d.o (at' Obj.FB_MODE n) = 0 ∧ 2 * vs < 100 * ((vdc : Int) - vs).natAbs then d0.ctrMismatch n
      else
        let d1 := d0.ctrConfirm n 2
        let d2 := (d1.link.deferred.foldl (fun d s => d.openSource s) d1).updLink (fun l => { l with deferred := [] })
        match d2.preIn 2 with
        | some j => d2.when (decide (j.src = src)) (fun d => d.prePhase 3)
        | none => d2

/-- MAIN_CLOSE_CONFIRMED (R195). -/
def execMainCloseConfirmed (n : Fin 4) (vdc : Nat) (s : State) : Host.Outcome State Fault Refusal :=
  s.live (fun d => d.mainConfirmed n vdc)

/-- CONTACTOR_OPEN_CONFIRMED (R195): by the feedback, or with FB_MODE 0 by T_OPEN_MAX. -/
def execContactorOpenConfirmed (n : Fin 4) (s : State) : Host.Outcome State Fault Refusal :=
  s.live (fun d => d.when (!(d.ctrOf n).on && (d.o (at' Obj.STATE_5810 n) == 3 || d.o (at' Obj.STATE_5810 n) == 4))
    (fun d => (d.ctrConfirm n 0).dischargeGo))

/-- CONTACTOR_PULL_IN_END (R194): PULL_IN after the turn-on the drive drops to HOLD_DUTY. -/
def execContactorPullInEnd (n : Fin 4) (s : State) : Host.Outcome State Fault Refusal :=
  s.live (fun d => d.when (d.ctrOf n).on (fun d => d.updCtr n (fun c => { c with duty := d.n (at' Obj.HOLD_DUTY n) })))

/-- LNK_CTR_DRIVER (R196): a coil over-current (`over`), which turns the driver off, or an open coil. -/
def Dev.ctrDriver (d : Dev) (n : Nat) (tooHigh : Bool) : Dev :=
  if !(d.ctrOf n).on then d
  else
    let mine := match d.link.job with
      | some j => d.mainOf j.src == some n || d.preOf j.src == some n
      | none => false
    let d1 := d.when tooHigh (fun d => d.updCtr n (fun c => { c with on := false, duty := 0 }))
    let d2 := (d1.setO (at' Obj.STATE_5810 n) 4).when mine (fun d => d.preFail)
    (d2.event 0x8C).raise 0x647A false { addr := n, ini := 0x01, acc := 5 }

/-- LNK_CTR_DRIVER (R196). -/
def execLnkCtrDriver (n : Fin 4) (tooHigh : Bool) (s : State) : Host.Outcome State Fault Refusal :=
  s.live (fun d => d.ctrDriver n tooHigh)

/-- Whether every grant reads 0. -/
def Dev.noGrants (d : Dev) : Bool := d.sum5 Obj.GRANT_DRAW == 0 && d.sum5 Obj.GRANT_FEED == 0

/-- A main opens with its source's current at `i` (0.1 A), once the grants are 0 and the current is below I_BREAK or 20 ms
have passed (R197). -/
def Dev.mainOpen (d : Dev) (src i : Nat) (timeout : Bool) : Dev :=
  match d.mainOf src with
  | none => d
  | some n =>
    let limit := 10 * d.n (at' Obj.I_BREAK n)
    if !(d.link.opening.contains src || d.openRequest) || !(d.ctrOf n).on ||
        !(timeout || (d.noGrants && decide (i < limit))) then d
    else
      (((d.when (decide (limit < i)) (fun d => d.addSat (at' Obj.LOAD_BREAKS n))).updLink
        (fun l => { l with opening := l.opening.filter (· != src) })).coilOff n).dischargeGo

/-- MAIN_OPEN (R197). -/
def execMainOpen (src : Fin 2) (i : Nat) (timeout : Bool) (s : State) : Host.Outcome State Fault Refusal :=
  s.live (fun d => d.mainOpen src i timeout)

/-- LNK_CTR_WELD (R199): after 500 ms of discharge the link, at `vdc` (0.1 V), is still within 5 % of the announced
voltage with the mains open; or it rises above 50 % of it before the precharge contactor has closed. -/
def Dev.weldTest (d : Dev) (src vdc : Nat) : Dev :=
  let vs := (d.feedOf src).volts
  let d1 := d.setO Obj.VDC vdc
  if d.link.discharge ≠ 0 ∧ d.mainsOpen ∧ (d.mainOf src).isSome ∧ 100 * ((vdc : Int) - vs).natAbs ≤ 5 * vs then d1.welded src
  else match d.preIn 0 with
    | some j => if j.src = src ∧ j.vs < 2 * vdc then (d1.welded src).preFail else d
    | none => d

/-- LNK_CTR_WELD (R199). -/
def execLnkCtrWeld (src : Fin 2) (vdc : Nat) (s : State) : Host.Outcome State Fault Refusal :=
  s.live (fun d => d.weldTest src vdc)

/-! ### Discharge (R203) -/

/-- LNK_DISCHARGED (R203): the link, at `vdc` (0.1 V), falls below 60 V. -/
def execLnkDischarged (vdc : Nat) (s : State) : Host.Outcome State Fault Refusal :=
  s.live (fun d => d.when (decide (d.link.discharge = 2) && decide (vdc < 600)) (fun d =>
    (((d.setO Obj.VDC vdc).event 0x8D).causeGone 0x6278).dischargeEnd))

/-- DISCHARGE_TIMEOUT (R203): 2 s have passed and the link still reads above 60 V. -/
def execDischargeTimeout (vdc : Nat) (s : State) : Host.Outcome State Fault Refusal :=
  s.live (fun d => d.when (decide (d.link.discharge ≠ 0) && decide (600 < vdc)) (fun d =>
    (d.setO Obj.VDC vdc).raise 0x6278 true { ini := 0x35, acc := 5 }))

/-! ### Chopper (R204, R205) -/

/-- OV_TIER: the highest tier in force (R207). -/
def Dev.showTier (d : Dev) : Dev :=
  d.setO Obj.OV_TIER (if d.tier4 then 4 else if d.tier3 then 3 else if d.link.tier2 then 2 else b2i d.chopFaulty)

/-- A chopper that has become faulty is reported and stops; one no longer faulty has no cause left (R204). -/
def Dev.chopRefresh (d : Dev) : Dev :=
  let bad := d.chopFaulty
  let d1 := d.updLink (fun l => { l with faultShown := bad })
  let d2 := if bad && !d.link.faultShown then (d1.event 0x80).raise 0x6270 true { ini := 0x35, acc := 5 }
    else if !bad && d.link.faultShown then d1.causeGone 0x6270 else d1
  (d2.driveChopper).showTier

/-- CHOPPER_ON (R204): the link, at `vdc` (0.1 V), has risen to CHOP_ON times Vdc_max. -/
def execChopperOn (vdc : Nat) (s : State) : Host.Outcome State Fault Refusal :=
  s.live (fun d =>
    let d1 := d.setO Obj.VDC vdc
    if d.n Obj.CHOP_ON * d.n Obj.VDC_MAX * 10 ≤ 16384 * vdc then (d1.updLink (fun l => { l with reg := true })).driveChopper
    else d1)

/-- CHOPPER_OFF (R204): the link has fallen to CHOP_OFF times Vdc_max. -/
def execChopperOff (vdc : Nat) (s : State) : Host.Outcome State Fault Refusal :=
  s.live (fun d =>
    let d1 := d.setO Obj.VDC vdc
    if 16384 * vdc ≤ d.n Obj.CHOP_OFF * d.n Obj.VDC_MAX * 10 then (d1.updLink (fun l => { l with reg := false })).driveChopper
    else d1)

/-- Whether a chopper current (0.1 A) is at least 25 % of V / CHOP_R at a link voltage (0.1 V) (R204). -/
def Dev.chopCurrentOk (d : Dev) (i vdc : Nat) : Bool := decide (250 * vdc ≤ i * d.n Obj.CHOP_R)

/-- CHOPPER_CURRENT_CHECK (R204): 20 µs after a turn-on. -/
def execChopperCurrentCheck (i vdc : Nat) (s : State) : Host.Outcome State Fault Refusal :=
  s.live (fun d =>
    let d1 := d.setO Obj.VDC vdc
    d1.when (d1.link.on && !(d1.chopCurrentOk i vdc)) (fun d => (d.updLink (fun l => { l with missing := true })).chopRefresh))

/-- CHOPPER_TEST_PULSE (R204): at the end of the quiet period, with the link at 400 V or more, a pulse of 20 µs. -/
def execChopperTestPulse (i vdc : Nat) (s : State) : Host.Outcome State Fault Refusal :=
  s.live (fun d =>
    let d1 := d.setO Obj.VDC vdc
    let latched := d1.ocTrips.contains 5 || (d1.groupChannels 8).any (fun n => d1.latched n)
    d1.when (d1.link.missing && !latched && decide (4000 ≤ vdc) && d1.chopCurrentOk i vdc)
      (fun d => (d.updLink (fun l => { l with missing := false })).chopRefresh))

/-- The thermal model over one period, nJ (R205). -/
def Dev.chopHeat (d : Dev) (uj : Nat) : Dev :=
  let e0 := d.link.energy
  let e := e0 + 1000 * uj - e0 * 50 / (max 1 (d.n Obj.CHOP_TAU) * 1000000)
  let emax := d.n Obj.CHOP_E_MAX * 1000000000
  let hot := if 9 * emax < 10 * e then true else if 10 * e < 7 * emax then false else d.link.hot
  let d1 := (d.updLink (fun l => { l with energy := e, hot := hot })).setO Obj.CHOP_ENERGY (satU32 ((e / 1000000000 : Nat) : Int))
  (d1.when (hot && !d.link.hot) (fun d => (d.event 0x81).raise 0x6071 false { ini := 0x35, acc := 5 })).showChopper

/-! ### Over-voltage tiers (R207) -/

/-- The cause of a fault in force is present again: its quiet period waits (R520). -/
def Dev.causeBack (d : Dev) (code : Nat) : Dev :=
  if d.coll.active.any (fun f => f.code == code && !f.cause) then d.raise code true { ini := 0x01, acc := 5 } else d

/-- Tier 2 at a ledger period (R207). -/
def Dev.tierTwo (d : Dev) (v : Nat) : Dev :=
  let steer := decide (d.n Obj.STEER * d.n Obj.VDC_MAX * 10 ≤ 16384 * v)
  if steer && !d.link.tier2 then
    ((d.updLink (fun l => { l with tier2 := true })).event 0x82).raise 0x6272 true { ini := 0x35, acc := 5 }
  else if d.link.tier2 ∧ v < 10 * d.n Obj.VDC_MAX then
    (d.updLink (fun l => { l with tier2 := false })).causeGone 0x6272
  else d

/-- The end of tier 3: the link below Vdc_max for 10 ms (R207). -/
def Dev.tierThreeEnds (d : Dev) (v : Nat) : Dev :=
  if !d.tier3 then d.updLink (fun l => { l with below := none })
  else if 10 * d.n Obj.VDC_MAX ≤ v then d.updLink (fun l => { l with below := none })
  else match d.link.below with
    | none => d.updLink (fun l => { l with below := some d.wall })
    | some t =>
      if d.wall < t + 10000000 then d
      else (({ d with tier3 := false }.updLink (fun l => { l with below := none })).causeGone 0x1456).causeGone 0x2456

/-- LNK_OV_ASC (R151, R207 tier 3): an HN5 sample at 1.08 times Vdc_max. -/
def execLnkOvAsc (vdc : Nat) (s : State) : Host.Outcome State Fault Refusal :=
  s.live (fun d =>
    let d1 := d.setO Obj.VDC vdc
    if d1.tier3 || decide (100 * vdc < 1080 * d1.n Obj.VDC_MAX) then d1
    else
      let src : FaultSrc := { ini := 0x35, acc := 5 }
      ((((({ d1 with tier3 := true }.ascEnter .A 3).ascEnter .B 3).event 0x83).raise 0x1456 true src).raise 0x2456 true
        src).showTier)

/-- OV_TIER4 (R207 tier 4): the HN5 comparator trips at 1.12 times Vdc_max and the safe-state holder acts. -/
def execOvTier4 (s : State) : Host.Outcome State Fault Refusal :=
  s.live (fun d =>
    if d.tier4 then d
    else
      let d1 := { ((({ d with tier4 := true }.ascEnter .A 4).ascEnter .B 4).gridOff 0 0) with openRequest := true }
      ((((d1.dabOff .dca 7).dabOff .dcb 7).event 0x84).raise 0x6674 true { ini := 0x35, acc := 5 }).showTier)

/-- OV_TIER4_RELEASE (R207): the comparator releases below 1.10 times Vdc_max. -/
def execOvTier4Release (s : State) : Host.Outcome State Fault Refusal :=
  s.live (fun d => ({ d with tier4 := false }.causeGone 0x6674).showTier)

/-! ### Under-voltage (R193) -/

/-- The link falls to V_UV, or stands above V_LOW again (R193). -/
def Dev.underVoltage (d : Dev) (v : Nat) : Dev :=
  let low := 10 * d.n Obj.V_LOW
  if v ≤ 10 * d.n Obj.V_UV ∧ !d.link.underVolt then
    ((d.updLink (fun l => { l with underVolt := true })).event 0x87).raise 0x6276 true { ini := 0x35, acc := 5 }
  else if low < v then (d.updLink (fun l => { l with underVolt := false })).causeGone 0x6276
  else d.causeBack 0x6276

/-! ### The ledger period (R186 to R191) -/

/-- The allowance of R189 for a distance (0.1 V) from its target, W, rounded to nearest (log entry 5). -/
def Dev.allowance (d : Dev) (v : Nat) (dv : Int) : Int :=
  let cap := d.o Obj.STORE_CAP
  clampI (-cap) cap (roundDiv (d.o Obj.C_LINK * v * dv) (100000 * max 1 (d.n Obj.T_RESTORE)))

/-- The draw and feed limits of the sources that count: IMP, SINK and the bits of SOURCES (R188, R189, R191). -/
def Dev.capacity (d : Dev) : Nat × Nat × Nat :=
  let tr := d.feedOf 0
  let ba := d.feedOf 1
  let ct := d.sourceCounts 0
  let cb := d.sourceCounts 1
  let w (c : Bool) (x : Nat) : Nat := if c then x else 0
  (w ct tr.draw + w cb ba.draw,
   w (ct && tr.regen) tr.feed + w cb ba.feed +
     w (d.link.tier2 && d.b Obj.LV_BATTERY_FITTED) (d.n Obj.DCA_ABSORB_MAX),
   w ct 1 + w (ct && tr.regen) 2 + w cb 4 + w (d.o Obj.GRD_MODE == 1 && d.grid.step == 5) 8)

/-- The credit of R189: the smaller of the grant and of the measured power of the last period, over the participants. -/
def Dev.credit (d : Dev) (key : Nat) (meas : List Int) (sign : Int) : Int :=
  (meas.zipIdx).foldl (fun a p => a + min (d.o (key + p.2)) (max 0 (sign * p.1))) 0

/-- The books of a period at link voltage `v` (0.1 V). -/
def Dev.books (d : Dev) (v : Nat) (meas : List Int) : Books :=
  let (imp, sink, _) := d.capacity
  let (lDn, lUp) : Int × Int := match d.vRef with
    | some r => (d.allowance v ((v : Int) - (r - 10 * d.o Obj.V_DIP)), d.allowance v ((r + 10 * d.o Obj.V_DIP) - v))
    | none => (0, 0)
  let r (n : Nat) := d.request n
  { v := v, uv := 10 * d.o Obj.V_UV, low := 10 * d.o Obj.V_LOW, imp := imp, sink := sink,
    chopNum := if d.chopFaulty then 0 else if d.link.hot || d.derated .lnk then d.o Obj.CHOP_P_CONT * max 1 (d.o Obj.CHOP_R) else 10 * v * v,
    chopDen := max 1 (d.o Obj.CHOP_R), lDn := lDn, lUp := lUp,
    credFd := d.credit Obj.GRANT_FEED meas (-1), credDr := d.credit Obj.GRANT_DRAW meas 1,
    floorA := d.o Obj.DCA_FLOOR, floorB := d.o Obj.DCB_FLOOR,
    dTra := (r 1).1, dTrb := (r 2).1, dGrd := (r 3).1, dDca := (r 4).1, dDcb := (r 5).1,
    fTra := (r 1).2, fTrb := (r 2).2, fGrd := (r 3).2,
    noFeed := d.chopFaulty || d.link.tier2 || d.tier3 || d.tier4 }

/-- Five values written to an array object. -/
def Dev.set5 (d : Dev) (k : Nat) (a b c e f : Int) : Dev :=
  ((((d.setO k a).setO (k + 1) b).setO (k + 2) c).setO (k + 3) e).setO (k + 4) f

/-- Whether all grants are 0: LNK is stopped or a main waits to open (R197, R198). -/
def Dev.grantsBarred (d : Dev) : Bool := decide (3 ≤ d.domainState .lnk) || !d.link.opening.isEmpty || d.openRequest

/-- The grants of a period distributed and reported (R189, R191, R208). -/
def Dev.ledgerBooks (d : Dev) (v : Nat) (meas : List Int) : Dev :=
  let b := d.books v meas
  let g := if d.grantsBarred then { short := (grants b).short } else grants b
  let d1 := (((((((d.setO Obj.IMP b.imp).setO Obj.SINK b.sink).setO Obj.CHOP_CAP (satU32 (b.chopNum / b.chopDen))).setO Obj.L_DN
    b.lDn).setO Obj.L_UP b.lUp).setO Obj.V_REF (((d.vRef.getD 0) / 10 : Nat) : Int)).setO Obj.SOURCES
    ((d.capacity.2.2 : Nat) : Int)).updLink (fun l => { l with floorShort := g.short, vref := d.vRef.getD 0 })
  let d2 := ((((d1.set5 Obj.REQ_DRAW b.dTra b.dTrb b.dGrd b.dDca b.dDcb).set5 Obj.REQ_FEED b.fTra b.fTrb b.fGrd 0 0).set5
    Obj.GRANT_DRAW g.tra g.trb g.grd g.dca g.dcb).set5 Obj.GRANT_FEED g.fTra g.fTrb g.fGrd 0 0).set5 Obj.MEASURED
    (meas.getD 0 0) (meas.getD 1 0) (meas.getD 2 0) (meas.getD 3 0) (meas.getD 4 0)
  d2.when (g.short && !d.link.floorShort) (fun d => (d.event 0x8E).raise 0x607B false { ini := 0x01, acc := 5 })

/-- The objects a ledger period applies: the supervisor pair's range, LNK, and the gate channels of the link's groups and
of no group (R41). -/
def Dev.ledgerOwns (d : Dev) (k : Nat) : Bool :=
  let i := keyIdx k
  (decide (0x2000 ≤ i) && decide (i < 0x3000)) || (decide (0x5800 ≤ i) && decide (i < 0x6000)) ||
    (decide (i / 256 = 0x60) && decide (keySub k ≠ 0) && !([1, 2, 3, 4, 5, 6, 7].contains (d.assignment (keySub k) / 8))) ||
    i == 0x6108 || i == 0x6109

/-- The delivered writes of a ledger period, in their order; LINK_CTRL acts once all are applied (R41, R601). -/
def Dev.ledgerWrites (d : Dev) : Dev :=
  let ctrl := d.writes.filter (fun w => w.key == Obj.LINK_CTRL)
  let d1 := d.applyWrites d.ledgerOwns
  match ctrl.getLast? with
  | some w => d1.linkApply w.val.toNat
  | none => d1

/-- The contactor open request of the safe-state holder: every main is to open; the request ends with its cause (R197,
R513). -/
def Dev.serveOpenRequest (d : Dev) : Dev :=
  if !d.openRequest then d
  else if d.safeState = 0 ∧ !d.tier4 ∧ d.n Obj.BRIDGE_STATE ≠ 5 ∧ d.n (tk .B Obj.BRIDGE_STATE) ≠ 5 then
    { d with openRequest := false }
  else (d.openSource 0).openSource 1

/-- The link's part of a ledger period (R186). -/
def Dev.ledgerLink (d : Dev) (i : LinkIn) : Dev :=
  let d1 := ((d.ledgerWrites.setO Obj.VDC i.vdc).addWrap Obj.PERIODS).serveOpenRequest
  let d2 := ((((((d1.gateSet 8).gateSet 9).chopHeat i.chopEnergy).chopRefresh).sourceReturns 0 i.iTractor).sourceReturns 1
    i.iBattery).tierTwo i.vdc
  let d3 := ((d2.tierThreeEnds i.vdc).underVoltage i.vdc).preVoltage i.vdc (fun _ d => d)
  ((d3.ledgerBooks i.vdc i.measured).showTier).loopPoisonGone

end Sys2Proof.Machine
end

