-- ==== Sys2Proof/Machine/Grid.lean ====
section
/-! DEFINITION. The grid port (R209 to R239): its mode and start sequence, the PLL and the MAINS track, control pilot and
proximity, CHARGE with its limits and ride-through, SUPPLY with its island, and the energy meter. -/

namespace Sys2Proof.Machine

/-! ### Arithmetic -/

/-- 2^30 times the square root of 3, rounded down. -/
def sqrt3 : Nat := 1859775393

/-- 2^30 times the square root of 2, rounded down. -/
def sqrt2 : Nat := 1518500249

/-- The current (mA) that a power (W) takes at a line voltage (0.1 V), three-phase (R222); without voltage, no limit. -/
def lineCurrent (p vll : Nat) : Nat := if vll = 0 then 1000000000 else p * 10000 * 2 ^ 30 / (sqrt3 * vll)

/-- The power (W) of a current (mA) at a line voltage (0.1 V), three-phase. -/
def linePower (i vll : Nat) : Nat := sqrt3 * vll * i / (10000 * 2 ^ 30)

/-- STATE of the port; an entry to 3 in CHARGE starts a new session of the meter, an entry to 4 raises GRD_RUNNING (R224,
R229, R235). -/
def Dev.gridState (d : Dev) (st : Nat) : Dev :=
  let was := d.n Obj.STATE_5000
  let d1 := (d.setO Obj.STATE_5000 st).when (st == 3 && was != 3 && !d.grid.island) (fun d => d.setO Obj.E_SESSION 0)
  d1.when (st == 4 && was == 3) (fun d => d.event 0x69)

/-! ### GRD_MODE (R210) -/

/-- The checks of a GRD_MODE write (R210, R510). -/
def Dev.grdModeCheck (d : Dev) (v : Int) : Nat :=
  if v < 0 ∨ 2 < v then resRange
  else if v = 0 then 0
  else
    let a := d.ahead
    if a.o Obj.GRD_MODE ≠ 0 ∨ a.o Obj.VDC_MAX < 700 ∨ d.startBlocked .grd then resState else 0

/-- A GRD_MODE write (R210). -/
def Dev.grdModeWrite (d : Dev) (v : Int) : Dev :=
  let c := d.grdModeCheck v
  if c ≠ 0 then d.res c else (d.deliver Obj.GRD_MODE v).res 0

/-- A GRD_MODE write under the fuses: CHARGE and SUPPLY are functions of their own (R484). -/
def Dev.grdModePermitted (d : Dev) (v : Int) : Dev :=
  if v = 1 then d.allowed [2] (fun d => d.grdModeWrite v) else if v = 2 then d.allowed [3] (fun d => d.grdModeWrite v)
  else d.grdModeWrite v

/-- GRD_MODE_WRITE (R210). -/
def execGrdModeWrite (v : Int) (s : State) : Host.Outcome State Fault Refusal := s.serve (fun d => d.grdModePermitted v)

/-- The port stops switching, or gives up its start, and stands at `step` with STATE `st`; a stop of CHARGE raises
GRD_STOPPED (R225). -/
def Dev.gridStop (d : Dev) (st step : Nat) : Dev :=
  let charge := !d.grid.island && decide (2 ≤ d.grid.step)
  (d.gridOff st step).when charge (fun d => d.event 0x6A)

/-- GRD_MODE 0 as applied: a switching port ramps down, a waiting one is off (R225, R232). -/
def Dev.gridModeOff (d : Dev) : Dev :=
  if d.grid.step = 5 then (d.updGrid (fun g => { g with stop := 2 })).gridState 7
  else (((d.gridStop 0 0).setO Obj.LOCKED_5010 0).updGrid (fun g => { g with good := 0 }))

/-- A mode waits for its start conditions: STATE reads 1; with a site supply CHARGE waits for the line voltage (R210,
R224). -/
def Dev.gridWaits (d : Dev) : Dev :=
  let d1 := d.setO Obj.STATE_5000 1
  if d.o Obj.GRD_MODE == 1 && d.b Obj.CHARGE_SOURCE then
    let (d2, ready) := d1.startReady .grd
    d2.updGrid (fun g => { g with step := if ready then 2 else 0 })
  else d1.updGrid (fun g => { g with step := 1 })

/-- The objects a grid boundary applies (R41). -/
def Dev.gridOwns (d : Dev) (k : Nat) : Bool :=
  let i := keyIdx k
  (decide (0x5000 ≤ i) && decide (i < 0x5400)) ||
    (decide (i / 256 = 0x60) && decide (keySub k ≠ 0) && d.assignment (keySub k) / 8 == 3) || i == 0x6103

/-- The delivered writes of a grid boundary, in their order (R41, R42). -/
def Dev.gridWrites (d : Dev) : Dev :=
  let ctrl := d.writes.filter (fun w => w.key == Obj.GRD_MODE)
  ctrl.foldl (fun d w => if w.val = 0 then d.gridModeOff else d) (d.applyWrites d.gridOwns)

/-! ### Control pilot and proximity (R218 to R221) -/

/-- The pilot state of a level (0.1 V), as CP_STATE codes it. -/
def pilotLevel (v : Int) : Nat :=
  if 110 ≤ v ∧ v ≤ 130 then 1 else if 80 ≤ v ∧ v ≤ 100 then 2 else if 50 ≤ v ∧ v ≤ 70 then 3
  else if 20 ≤ v ∧ v ≤ 40 then 4 else if -10 ≤ v ∧ v ≤ 10 then 5 else 7

/-- The pilot state of a reading: levels in 0.1 V, frequency in Hz (R218). -/
def pilotState (pos neg : Int) (freq : Nat) (steady : Bool) : Nat :=
  if steady then (if -130 ≤ pos ∧ pos ≤ -110 then 6 else pilotLevel pos)
  else if neg < -130 ∨ -110 < neg ∨ freq < 980 ∨ 1020 < freq then 7 else pilotLevel pos

/-- The pilot current (0.1 A) of a duty cycle (0.1 %) (R219). -/
def pilotCurrent (duty : Nat) : Nat :=
  if duty < 80 then 0 else if duty < 100 then 60 else if duty ≤ 850 then duty * 6 / 10
  else if duty ≤ 960 then (duty - 640) * 5 / 2 else if duty ≤ 970 then 800 else 0

/-- The pilot or the connector ends a charge: a Domain-stop (R225). -/
def Dev.chargeFault (d : Dev) : Dev :=
  if d.grid.island ∨ d.b Obj.CHARGE_SOURCE ∨ d.grid.step < 2 then d
  else (d.gridStop 0 0).raise 0x3483 true { ini := 0x22, acc := 5 }

/-- What a new pilot state or pilot current does to a charge at a station (R225). -/
def Dev.pilotActs (d : Dev) : Dev :=
  let st := d.n Obj.CP_STATE
  if 4 ≤ st then d.chargeFault
  else
    let d1 := d.causeGone 0x3483
    if d1.grid.island ∨ d1.b Obj.CHARGE_SOURCE ∨ d1.grid.step < 2 then d1
    else if st = 3 ∧ d1.o Obj.CP_CURRENT ≠ 0 then d1
    else if st = 2 ∧ d1.grid.step = 2 ∧ d1.o Obj.CP_CURRENT ≠ 0 then d1
    else if d1.grid.step = 5 then d1.updGrid (fun g => { g with stop := if g.stop = 2 then 2 else 1 })
    else d1.gridStop 1 1

/-- A new pilot state taken (R218). -/
def Dev.setPilot (d : Dev) (st : Nat) : Dev :=
  if d.n Obj.CP_STATE = st then d else ((d.setO Obj.CP_STATE st).event 0x62).pilotActs

/-- PILOT_READING (R218, R219): levels in 0.1 V, frequency in Hz, duty in 0.1 %. -/
def Dev.pilotReading (d : Dev) (pos neg : Int) (freq duty : Nat) (steady : Bool) : Dev :=
  let st := pilotState pos neg freq steady
  let duty := if steady then (if 0 < pos then 1000 else 0) else min duty 1000
  let g := d.grid
  let runs := if st = g.pilot then min 3 (g.pilotRuns + 1) else 1
  let near := decide (duty ≤ g.duty + 5) && decide (g.duty ≤ duty + 5)
  let dutyRuns := if near then min 4 (g.dutyRuns + 1) else 1
  let i := pilotCurrent duty
  let d1 := (d.setO Obj.CP_DUTY duty).updGrid (fun g => { g with
    pilot := st, pilotRuns := runs, duty := if near then g.duty else duty, dutyRuns := dutyRuns })
  let d2 := if dutyRuns = 3 ∧ d1.n Obj.CP_CURRENT ≠ i then ((d1.setO Obj.CP_CURRENT i).event 0x63).pilotActs else d1
  let d3 := d2.when (dutyRuns == 3 && decide (30 ≤ duty) && decide (duty < 70))
    (fun d => d.raise 0x308D false { ini := 0x22, acc := 5 })
  if runs = 3 ∧ d3.grid.inserted then d3.setPilot st else d3

/-- PILOT_READING (R218). -/
def execPilotReading (pos neg : Int) (freq duty : Nat) (steady : Bool) (s : State) : Host.Outcome State Fault Refusal :=
  s.live (fun d => d.pilotReading pos neg freq duty steady)

/-- The cable current of a proximity resistance, 0 for none or invalid (R220). -/
def cableCurrent (ohm : Nat) : Nat :=
  if 1100 ≤ ohm ∧ ohm ≤ 2460 then 13 else if 400 ≤ ohm ∧ ohm ≤ 936 then 20 else if 164 ≤ ohm ∧ ohm ≤ 308 then 32
  else if 80 ≤ ohm ∧ ohm ≤ 140 then 63 else 0

/-- The value a proximity sample stands for: 256 for no connector, else the cable current (R220). -/
def proximityClass (ohm : Nat) : Nat := if 4000 < ohm then 256 else cableCurrent ohm

/-- A connector on the terminals of a running island (R232). -/
def Dev.foreignSource (d : Dev) : Dev :=
  if d.grid.island then ((d.gridOff 0 0).event 0x68).raise 0x3486 true { ini := 0x32, acc := 5 } else d

/-- PROXIMITY_SAMPLE (R220): a new value after 3 equal samples. -/
def Dev.proximitySample (d : Dev) (ohm : Nat) : Dev :=
  let c := proximityClass ohm
  let g := d.grid
  let runs := if c = proximityClass g.prox then min 3 (g.proxRuns + 1) else 1
  let d1 := (d.setO Obj.PP_OHM (min ohm 65535 : Nat)).updGrid (fun g => { g with prox := min ohm 65535, proxRuns := runs })
  if runs < 3 then d1
  else
    let ins := c != 256
    let d2 := (d1.setO Obj.CABLE_CURRENT (if ins then c else 0)).updGrid (fun g => { g with inserted := ins })
    let d3 := if !ins ∧ g.inserted then (d2.chargeFault).setPilot 0 else d2
    d3.when (ins && !g.inserted) (fun d => d.foreignSource)

/-- PROXIMITY_SAMPLE (R220). -/
def execProximitySample (ohm : Nat) (s : State) : Host.Outcome State Fault Refusal := s.live (fun d => d.proximitySample ohm)

/-! ### The start of CHARGE (R224) -/

/-- Whether a source's main is closed. -/
def Dev.anyMain (d : Dev) : Bool := d.mainClosed 0 || d.mainClosed 1

/-- S2_CLOSE (R224 step 1). -/
def execS2Close (s : State) : Host.Outcome State Fault Refusal :=
  s.live (fun d => d.when (d.o Obj.GRD_MODE == 1 && !(d.b Obj.CHARGE_SOURCE) && d.grid.step == 1 && d.grid.inserted &&
      d.o Obj.CABLE_CURRENT != 0 && d.o Obj.CP_STATE == 2 && decide (60 ≤ d.o Obj.CP_CURRENT) && d.anyMain &&
      decide (6500 ≤ d.o Obj.VDC) && !(d.startBlocked .grd) && d.gatesFree .grd)
    (fun d =>
      let (d1, ready) := d.startReady .grd
      d1.when ready (fun d => (d.setO Obj.S2 1).updGrid (fun g => { g with step := 2 }))))

/-- LINE_VOLTAGE_WAIT_TIMEOUT (R224 step 2): 10 s after pilot C. -/
def execLineVoltageWaitTimeout (s : State) : Host.Outcome State Fault Refusal :=
  s.live (fun d => d.when (d.grid.step == 2 && !(d.b Obj.CHARGE_SOURCE) && d.o Obj.CP_STATE == 3 && d.o Obj.GRD_MODE == 1)
    (fun d => d.gridOff 1 1))

/-! ### PLL (R215, R216) -/

/-- Whether FREQ (mHz) lies within `lo` to `hi` per cent of F_NOM. -/
def Dev.freqWithin (d : Dev) (freq lo hi : Nat) : Bool :=
  decide (lo * d.n Obj.F_NOM * 1000 ≤ 100 * freq) && decide (100 * freq ≤ hi * d.n Obj.F_NOM * 1000)

/-- The PLL loses lock; while STATE is 3 to 6 that is a Domain-stop (R215, R227). -/
def Dev.pllLost (d : Dev) : Dev :=
  let d1 := ((d.setO Obj.LOCKED_5010 0).updGrid (fun g => { g with good := 0, errSince := none, lowSince := none })).event 0x61
  if d1.grid.step = 5 ∧ 3 ≤ d1.n Obj.STATE_5000 ∧ d1.n Obj.STATE_5000 ≤ 6 then
    d1.raise 0x3482 false { ini := 0x22, acc := 5 }
  else d1.when (d1.grid.step == 4) (fun d => (d.setO Obj.STATE_5000 2).updGrid (fun g => { g with step := 3 }))

/-- The MAINS update of a locked PLL: the angle of the grid, or the last rate while it coasts (R215, R216). -/
def Dev.pllUpdate (d : Dev) (i : GridIn) : Dev :=
  if i.vll < 2000 then (d.extrapolate .mains).trackWrites .mains
  else d.sourceUpdate .mains (nearestTurn (d.extrapolated .mains (d.value .mains)).1 i.angle * 65536 + i.angle)
    ((i.freq : Int) * 65536 / 1000) false

/-- The PLL at one boundary of CHARGE (R215). -/
def Dev.pll (d : Dev) (i : GridIn) : Dev :=
  let d0 := d.when (i.sequence == 2 && d.o Obj.SEQUENCE != 2) (fun d => d.raise 0x308C false { ini := 0x32, acc := 5 })
  let g := d0.grid
  if !(d0.b Obj.LOCKED_5010) then
    let ok := decide (i.phaseErr < 364) && d0.freqWithin i.freq 95 103 && i.sequence == 1
    let good := if ok then g.good + 1 else 0
    if 5 * d0.n Obj.CARRIER_N ≤ good then
      ((((d0.setO Obj.LOCKED_5010 1).updGrid (fun g => { g with good := 0, errSince := none, lowSince := none })).event
        0x60).pllUpdate i)
    else d0.updGrid (fun g => { g with good := good })
  else
    let coast := decide (i.vll < 2000)
    let since (c : Bool) (t : Option Nat) : Option Nat := if c then (match t with
      | some x => some x
      | none => some d0.wall) else none
    let err := since (!coast && decide (1820 < i.phaseErr)) g.errSince
    let low := since (decide (i.vll < 800)) g.lowSince
    let past (t : Option Nat) (n : Nat) : Bool := match t with
      | some x => decide (x + n ≤ d0.wall)
      | none => false
    let d1 := d0.updGrid (fun g => { g with errSince := err, lowSince := low })
    if past err 20000000 || past low 150000000 || (!coast && !(d1.freqWithin i.freq 90 110)) then d1.pllLost
    else d1.pllUpdate i

/-! ### CHARGE (R222 to R227) -/

/-- The terms of R222 without the grant, mA, with their LIMIT_SRC bits; pilot and cable count at a station only. -/
def Dev.chargeTerms (d : Dev) (vll : Nat) : List (Nat × Nat) :=
  (if d.b Obj.CHARGE_SOURCE then [] else [(d.n Obj.CP_CURRENT * 100, 1), (d.n Obj.CABLE_CURRENT * 1000, 2)]) ++
    [(d.n Obj.I_MAX_GRID * 100, 4), (lineCurrent (d.n Obj.P_CHARGE_SET) vll, 8)]

/-- The grant term of R222, mA. -/
def Dev.chargeGrant (d : Dev) (vll : Nat) : Nat :=
  lineCurrent (d.n (el Obj.GRANT_FEED 3) * 32768 / max 1 (d.n Obj.ETA_GRID)) vll

/-- The smallest of a list of terms. -/
def least (ts : List (Nat × Nat)) : Nat := ts.foldl (fun a t => min a t.1) 1000000000

/-- The bits of the terms that equal the smallest. -/
def binding (ts : List (Nat × Nat)) : Nat := (ts.filter (fun t => t.1 == least ts)).foldl (fun a t => a + t.2) 0

/-- The ride-through row of a voltage (0.1 V), 0 for normal (R226): 1 above 1.15, 2 above 1.10, 3 below 0.85, 4 below
0.50. -/
def gridRow (v : Nat) : Nat := if 4600 < v then 1 else if 4400 < v then 2 else if 3400 ≤ v then 0 else if 2000 ≤ v then 3 else 4

/-- Entry into a row of R226, and the return to normal. -/
def Dev.rideThrough (d : Dev) (v : Nat) : Dev :=
  let r := gridRow v
  let was := d.grid.row
  if r = was then d
  else
    let st := d.n Obj.STATE_5000
    let sag := decide (3 ≤ r)
    let sagWas := decide (3 ≤ was)
    let d1 := (d.updGrid (fun g => { g with
      row := r
      back := if sag && !sagWas then st else if r = 4 then 3 else g.back
      ramp := if r = 4 then 0 else g.ramp
      cur := if r = 4 then 0 else g.cur })).when (decide (r ≠ 0)) (fun d => d.event 0x64)
    let d2 := d1.when (decide (r = 0)) (fun d => d.causeGone 0x3480)
    if d2.grid.stop = 2 then d2
    else if sag then d2.gridState 6
    else d2.when sagWas (fun d => d.gridState d.grid.back)

/-- The current loops of the port on slots 0 and 1 of LE3, references in mA peak (R211). -/
def Dev.gridCurrents (d : Dev) (i : GridIn) (idRef iqRef : Int) : Dev :=
  ((((d.firmwareCoef 48 (Config.loopCoef 2 (d.o Obj.KP_I_5000) (d.o Obj.KI_I_5000))).firmwareCoef 49
    (Config.loopCoef 3 (d.o Obj.KP_I_5000) (d.o Obj.KI_I_5000))).firmwareSample 48 idRef i.id 0 false false).firmwareSample 49
    iqRef i.iq 0 false false)

/-- The peak of a rms current (mA). -/
def peak (x : Nat) : Int := ((x * sqrt2 / 2 ^ 30 : Nat) : Int)

/-- Slot 2 of LE3 regulates the link while GRD holds it; its output is the feed request (R223). -/
def Dev.holdLink (d : Dev) (vdc : Nat) : Dev :=
  if d.grdHolds then
    let d0 := d.when (!(d.b (lk Obj.ENABLE_A100 50))) (fun d => d.enableLoops [50] true)
    let d1 := (d0.firmwareCoef 50 (Config.loopCoef 4 (d0.o Obj.KP_V) (d0.o Obj.KI_V))).firmwareSample 50
      (10 * d0.o Obj.VDC_SET) vdc 0 false false
    d1.updGrid (fun g => { g with reqFeed := d1.n (lk Obj.OUTPUT 50) })
  else d.when (d.b (lk Obj.ENABLE_A100 50)) (fun d => d.enableLoops [50] false)

/-- One boundary of a switching CHARGE: limits, ramp, request and loops (R222, R223, R225, R226); `dt` in ns. -/
def Dev.chargeBoundary (d : Dev) (i : GridIn) (dt : Nat) : Dev :=
  let g := d.grid
  let halves := d.faultOn 0x3288
  let h (x : Nat) : Nat := if halves then x / 2 else x
  let own := d.chargeTerms i.vll
  let all := own ++ [(d.chargeGrant i.vll, 16)]
  let sag := g.row = 3
  let top := if sag then min (h (least own)) g.held else h (least own)
  let limit := if sag then min (h (least all)) g.held else h (least all)
  let stepv := d.n Obj.I_RAMP * dt
  let off := g.row = 4 ∨ g.stop = 1
  let ramp := if off then 0 else if g.stop = 2 then g.ramp - stepv else min (g.ramp + stepv) (top * 1000000)
  let cur := if off then 0 else if g.stop = 2 then min (g.cur - stepv) (limit * 1000000)
    else min (min (g.cur + stepv) (limit * 1000000)) ramp
  let rampBinds := decide (cur < limit * 1000000) && g.row != 4
  let src := (if rampBinds then 32 else if sag && decide (g.held ≤ h (least all)) then 64 else binding all) +
    (if halves then 128 else 0)
  let iNow := if off then 0 else min limit (cur / 1000000)
  let d1 := (((d.setO Obj.I_LIMIT_5000 (roundDiv ((min limit 6553500 : Nat) : Int) 100)).setO Obj.LIMIT_SRC_5000 (src : Nat)).updGrid (fun g => { g with
      ramp := ramp, cur := cur, reqDraw := 0, reqAt := d.wall, held := if 3 ≤ g.row then g.held else limit
      reqFeed := linePower (ramp / 1000000) i.vll * d.n Obj.ETA_GRID / 32768 }))
  let d2 := d1.when (decide (d1.n Obj.STATE_5000 = 3) && decide (g.stop = 0) && decide (ramp = top * 1000000) && !sag)
    (fun d => d.gridState 4)
  let d3 := d2.holdLink i.vdc
  if g.stop ≠ 0 ∧ cur = 0 then (if g.stop = 1 then d3.gridStop 1 1 else
    ((d3.gridStop 0 0).setO Obj.LOCKED_5010 0).updGrid (fun g => { g with good := 0 }))
  else if g.row = 4 then d3
  else d3.gridCurrents i (peak iNow) 0

/-- Whether the link stands below 1.05 times the line peak (R227). -/
def linkLow (vdc vll : Nat) : Bool := decide (100 * 2 ^ 30 * vdc < 105 * sqrt2 * vll)

/-- The steps of R224 that a boundary takes, the checks of R226 and R227, and a switching CHARGE. -/
def Dev.charge (d : Dev) (i : GridIn) (dt : Nat) : Dev :=
  let band := decide (3400 ≤ i.vll) && decide (i.vll ≤ 4400)
  let d0 := d.when (d.startBlocked .grd == false && d.grid.step == 0 && d.o Obj.GRD_MODE == 1) (fun d => d.gridWaits)
  match d0.grid.step with
  | 2 => d0.when (band && ((d0.b Obj.CHARGE_SOURCE && d0.gatesFree .grd) || d0.o Obj.CP_STATE == 3))
      (fun d => (d.setO Obj.STATE_5000 2).updGrid (fun g => { g with step := 3 }))
  | 3 => d0.when (d0.b Obj.LOCKED_5010) (fun d => d.updGrid (fun g => { g with step := 4, zero := false }))
  | 4 => d0.when d0.grid.zero (fun d =>
      (((d.enableLoops [48, 49] true).updGrid (fun g => { g with step := 5, ramp := 0, cur := 0, row := 0 })).gridState
        3).chargeBoundary i 0)
  | 5 =>
    if linkLow i.vdc i.vll then (d0.gridStop 0 0).raise 0x3489 true { ini := 0x32, acc := 5 }
    else (d0.rideThrough i.vll).chargeBoundary i dt
  | _ => d0

/-- GRD_TRIP (R226): a voltage condition has lasted its trip time. -/
def execGrdTrip (s : State) : Host.Outcome State Fault Refusal :=
  s.live (fun d => d.when (d.grid.step == 5 && !d.grid.island && d.grid.row != 0)
    (fun d => ((d.event 0x65).gridStop 0 0).raise 0x3480 true { ini := 0x32, acc := 5 }))

/-- Whether frequency or ROCOF lies outside the limits of R227. -/
def Dev.freqOutside (d : Dev) : Bool := !(d.freqWithin (d.n Obj.FREQ) 95 103) || decide (2000 < (d.o Obj.ROCOF).natAbs)

/-- GRID_FREQUENCY_TRIP (R227): frequency or ROCOF has been outside its limits for its time. -/
def execGridFrequencyTrip (s : State) : Host.Outcome State Fault Refusal :=
  s.live (fun d => d.when (d.grid.step == 5 && !d.grid.island && d.freqOutside)
    (fun d => ((d.event 0x65).gridStop 0 0).raise 0x3481 true { ini := 0x32, acc := 5 }))

/-- GRD_UNBALANCE (R227): UNBALANCE has been above 5.0 % for 1 s. -/
def execGrdUnbalance (s : State) : Host.Outcome State Fault Refusal :=
  s.live (fun d => d.when (d.grid.step == 5 && !d.grid.island && decide (50 < d.o Obj.UNBALANCE))
    (fun d => (d.event 0x6D).raise 0x3288 true { ini := 0x32, acc := 5 }))

/-! ### SUPPLY (R229 to R232) -/

/-- SUPPLY_START (R229): the conditions hold, MAINS starts and the voltage ramps up. -/
def execSupplyStart (s : State) : Host.Outcome State Fault Refusal :=
  s.live (fun d => d.when (d.o Obj.GRD_MODE == 2 && d.grid.step == 1 && decide (4000 < d.o Obj.PP_OHM) && !d.grid.inserted &&
      decide (d.o Obj.V_LL < 500) && d.anyMain && decide (6500 ≤ d.o Obj.VDC) && !(d.startBlocked .grd) && d.gatesFree .grd)
    (fun d =>
      let (d0, ready) := d.startReady .grd
      let d := d0
      if !ready then d else
      let d1 := ((d.enableLoops [48, 49, 51, 52] true).updGrid (fun g => { g with
        step := 5, island := true, vRamp := 0, short := false, last := d.wall })).gridState 3
      d1.sourceUpdate .mains (d1.value .mains) (d1.o Obj.F_NOM * 65536) false))

/-- The phase current limit of R231, mA, with the grant term's LIMIT_SRC bit. -/
def Dev.islandLimit (d : Dev) (vll : Nat) : Nat × Nat :=
  let g := lineCurrent (d.n (el Obj.GRANT_DRAW 3) * d.n Obj.ETA_GRID / 32768) vll
  let m := d.n Obj.I_SUPPLY_MAX * 100
  (min m g, if g < m then 16 else 0)

/-- STATE of a running island by its voltage and current (R231). -/
def Dev.islandState (d : Dev) (i : GridIn) (limit : Nat) : Dev :=
  let vs := d.n Obj.V_SUPPLY
  let st := d.n Obj.STATE_5000
  if st ≠ 4 ∧ st ≠ 5 then d
  else if 9 * vs < 10 * i.vll ∧ i.iWant * 100 ≤ limit then (d.gridState 4).updGrid (fun g => { g with short := false })
  else
    let d1 := d.when (st == 4 && decide (limit < i.iWant * 100)) (fun d => (d.gridState 5).event 0x66)
    d1.when (decide (2 * i.vll < vs) && !d1.grid.short) (fun d =>
      ((d.updGrid (fun g => { g with short := true })).gridState 5).event 0x67)

/-- The voltage loops of the island on slots 3 and 4 of LE3, whose outputs are the current references (R211, R231). -/
def Dev.islandLoops (d : Dev) (i : GridIn) (vRms limit : Nat) : Dev :=
  let top := peak (if d.grid.short then d.n Obj.I_SC * 100 else limit)
  let bound (L : Nat) (d : Dev) : Dev := (d.setO (lk Obj.OUT_MIN L) (-top)).setO (lk Obj.OUT_MAX L) top
  let vPeak : Int := ((vRms * 100 * sqrt2 / sqrt3 : Nat) : Int)
  let c (n : Nat) := Config.loopCoef n (d.o Obj.KP_V) (d.o Obj.KI_V)
  let d1 := (bound 52 (bound 51 ((d.firmwareCoef 51 (c 5)).firmwareCoef 52 (c 6)))).firmwareSample 51 vPeak i.vd 0 false false
  let d2 := d1.firmwareSample 52 0 i.vq 0 false false
  d2.gridCurrents i (d2.o (lk Obj.OUTPUT 51)) (d2.o (lk Obj.OUTPUT 52))

/-- One boundary of a running island (R216, R229 to R232); `dt` in ns. -/
def Dev.islandBoundary (d : Dev) (i : GridIn) (dt : Nat) : Dev :=
  let total := d.n Obj.V_RAMP_TIME * 1000000
  let g := d.grid
  let v := if g.stop = 2 then min g.vRamp total - dt else min total (g.vRamp + dt)
  let (limit, bit) := d.islandLimit i.vll
  let d1 := (((d.extrapolate .mains).trackWrites .mains).updGrid (fun g => { g with
    vRamp := v, reqAt := d.wall, reqFeed := 0, reqDraw := (-i.pAc).toNat * 32768 / max 1 (d.n Obj.ETA_GRID) }))
  let d2 := (d1.setO Obj.I_LIMIT_5000 (roundDiv (limit : Int) 100)).setO Obj.LIMIT_SRC_5000 (bit : Nat)
  if g.stop = 2 ∧ v = 0 then d2.gridOff 0 0
  else
    let d3 := d2.when (d2.o Obj.STATE_5000 == 3 && decide (v = total)) (fun d => d.gridState 4)
    (d3.islandState i limit).islandLoops i (d3.n Obj.V_SUPPLY * v / max 1 total) limit

/-- ISLAND_OVERLOAD_TIMEOUT (R231): the current limit has lasted OL_TIME. -/
def execIslandOverloadTimeout (s : State) : Host.Outcome State Fault Refusal :=
  s.live (fun d => d.when (d.grid.island && d.o Obj.STATE_5000 == 5 && !d.grid.short)
    (fun d => (d.gridOff 0 0).raise 0x3484 false { ini := 0x32, acc := 5 }))

/-- ISLAND_SHORT_TIMEOUT (R231): the voltage is still below 0.5 of V_SUPPLY at the end of SC_TIME. -/
def execIslandShortTimeout (s : State) : Host.Outcome State Fault Refusal :=
  s.live (fun d => d.when (d.grid.island && d.grid.short && decide (2 * d.o Obj.V_LL < d.o Obj.V_SUPPLY))
    (fun d => (d.gridOff 0 0).raise 0x3485 false { ini := 0x32, acc := 5 }))

/-- GRD_FOREIGN_SOURCE (R232): a line voltage has deviated by more than 20 % for 20 ms. -/
def execGrdForeignSource (s : State) : Host.Outcome State Fault Refusal := s.live (fun d => d.foreignSource)

/-! ### The boundary (R213) -/

/-- The causes of grid faults that HN2's readings show to have gone (R226, R227, R232, R520). -/
def Dev.gridCauses (d : Dev) (i : GridIn) : Dev :=
  (((((d.when (gridRow i.vll == 0) (fun d => d.causeGone 0x3480)).when (!(d.freqOutside)) (fun d => d.causeGone 0x3481)).when
    (decide (i.unbalance ≤ 50)) (fun d => d.causeGone 0x3288)).when (!(linkLow i.vdc i.vll)) (fun d => d.causeGone
    0x3489)).when (!d.grid.inserted && decide (i.vll < 500)) (fun d => d.causeGone 0x3486))

/-- What HN2 measured at the boundary (R209, R214), and the energy since the last one (R236). -/
def Dev.gridMeasure (d : Dev) (i : GridIn) (dt : Nat) : Dev :=
  (((((((d.setO Obj.P_AC i.pAc).setO Obj.I_RMS (min i.iRms 65535 : Nat)).setO Obj.V_LL (min i.vll 65535 : Nat)).setO Obj.FREQ
    (i.freq : Nat)).setO Obj.UNBALANCE (min i.unbalance 65535 : Nat)).setO Obj.ROCOF (satI32 i.rocof)).setO Obj.SEQUENCE
    (i.sequence % 3 : Nat)).updGrid (fun g => { g with
      last := d.wall, cycle := g.cycle + i.pAc * dt, maxP := max g.maxP i.pAc.natAbs })

/-- GRD_BOUNDARY (R103, R213): the writes, the readings, the PLL in CHARGE, and the port in its mode. -/
def Dev.gridBoundary (d : Dev) (i : GridIn) : Dev :=
  let d0 := d.gridWrites.gateSet 3
  let dt := d0.wall - d0.grid.last
  let charging := !d0.grid.island && (d0.o Obj.GRD_MODE == 1 || d0.grid.step == 5)
  let d1 := (((d0.when charging (fun d => d.pll i)).gridMeasure i dt).gridCauses i)
  if d1.grid.island then d1.islandBoundary i dt
  else if charging then d1.charge i dt
  else d1.when (d1.o Obj.GRD_MODE == 2 && d1.grid.step == 0 && !(d1.startBlocked .grd)) (fun d => d.gridWaits)

/-- GRD_BOUNDARY (R213). -/
def execGrdBoundary (i : GridIn) (s : State) : Host.Outcome State Fault Refusal := s.live (fun d => d.when (!(d.dead.contains 0x22)) (fun d => d.gridBoundary i))

/-! ### Metering (R237) -/

/-- Both counters logged to flash (R237). -/
def Dev.meterLog (d : Dev) : Dev :=
  d.updGrid (fun g => { g with
    logImport := d.n Obj.E_IMPORT, logExport := d.n Obj.E_EXPORT, logWall := d.wall, maxP := (d.o Obj.P_AC).natAbs })

/-- METER_LOG (R237). -/
def execMeterLog (s : State) : Host.Outcome State Fault Refusal := s.serve (fun d => d.meterLog)

end Sys2Proof.Machine
end

