-- ==== Sys2Proof/Machine/Converters.lean ====
section
/-! DEFINITION. The bus converters DCA and DCB (R240 to R257): start, stop, limits, loops and protection, and the reverse
precharge of the link by DCA. -/

namespace Sys2Proof.Machine

/-- An event of a converter: DCB's lie 8 above DCA's (R240). -/
def cev (c : Conv) (e : Nat) : Nat := e + 8 * cnum c

/-- A fault of a converter: DCB's codes begin with 0x5 (R240). -/
def ccode (c : Conv) (code : Nat) : Nat := code + 0x1000 * cnum c

/-- The postmark's source of a converter: HN3 or HN4, a measurement (R517). -/
def csrc (c : Conv) : FaultSrc := { ini := 0x33 + cnum c, acc := 5 }

/-- The voltage and the current slot of a converter on LE4 (R245). -/
def vSlot (c : Conv) : Nat := 64 + 2 * cnum c
def iSlot (c : Conv) : Nat := 65 + 2 * cnum c

/-! ### Start and stop (R250, R251) -/

/-- RUN as a write: 1 is refused in Domain-stop or above (R250, R510); during reverse operation of DCA it waits (R256). -/
def Dev.dabRunWrite (d : Dev) (c : Conv) (v : Int) : Dev :=
  if v < 0 ∨ 1 < v then d.res resRange
  else if v = 1 ∧ d.startBlocked (cdom c) then d.res resState
  else (d.deliver (ck c Obj.RUN_5400) v).res 0

/-- CONVERTER_RUN (R250). -/
def execConverterRun (c : Conv) (s : State) : Host.Outcome State Fault Refusal := s.serve (fun d => d.allowed (enableBits (cdom c)) (fun d => d.dabRunWrite c 1))

/-- CONVERTER_STOP (R251). -/
def execConverterStop (c : Conv) (s : State) : Host.Outcome State Fault Refusal := s.serve (fun d => d.dabRunWrite c 0)

/-- CONVERTER_AUTO_START (R250): with AUTO_START 1, the first ledger period with a V_REF asks for a start; a RUN 0 since
the last start forbids it (R251), and so does an accepted RESET_CMD (R428). -/
def Dev.autoStart (d : Dev) (c : Conv) : Dev :=
  let has := decide (d.link.vref ≠ 0)
  d.updDab c (fun a => { a with
    hadRef := has, want := a.want || (has && !a.hadRef && d.b (ck c Obj.AUTO_START) && !a.runZero && !d.resetPending) })

/-- CONVERTER_AUTO_START (R250). -/
def execConverterAutoStart (c : Conv) (s : State) : Host.Outcome State Fault Refusal := s.live (fun d => d.autoStart c)

/-- The objects a converter boundary applies: its range and the channels of its two groups (R41). -/
def Dev.dabOwns (d : Dev) (c : Conv) (k : Nat) : Bool :=
  let i := keyIdx k
  let g := 4 + 2 * cnum c
  (if c = .dca then decide (0x5400 ≤ i) && decide (i < 0x5800) && i / 256 != 0x55 else decide (i / 256 = 0x55)) ||
    (decide (i / 256 = 0x60) && decide (keySub k ≠ 0) &&
      (d.assignment (keySub k) / 8 == g || d.assignment (keySub k) / 8 == g + 1)) || i == 0x6100 + g || i == 0x6101 + g

/-- The delivered writes of a boundary: RUN 1 asks for a start, RUN 0 takes it back and bars AUTO_START until the next start; new
transformer data reload the banks (R245, R250, R251). -/
def Dev.dabWrites (d : Dev) (c : Conv) : Dev :=
  let mine := d.writes.filter (fun w => d.dabOwns c w.key)
  let run (d : Dev) (w : PWrite) : Dev :=
    if w.key = ck c Obj.RUN_5400 then
      d.updDab c (fun a => if w.val = 1 then { a with want := true } else { a with want := false, runZero := true })
    else if w.key = ck c Obj.F_SW ∨ w.key = ck c Obj.TURNS_N ∨ w.key = ck c Obj.L_S then
      d.updDab c (fun a => { a with loaded := false })
    else d
  mine.foldl run (d.applyWrites (d.dabOwns c))

/-- The banks of the converter's slots loaded with the derived values (R162, R245). -/
def Dev.dabCoefs (d : Dev) (c : Conv) : Dev :=
  if (d.dabOf c).loaded then d
  else
    let o (k : Nat) : Int := d.o (ck c k)
    (dabLoops c).foldl (fun d L => d.firmwareCoef L (Config.loopCoef L (o Obj.F_SW) (o Obj.TURNS_N * 2 ^ 32 + o Obj.L_S)))
      (d.updDab c (fun a => { a with loaded := true }))

/-! ### Limits (R246 to R248) -/

/-- Whether tier 2 feeds DCA with DCA_ABSORB_MAX (R247, R248). -/
def Dev.absorbs (d : Dev) (c : Conv) : Bool := c == .dca && d.link.tier2 && d.b Obj.LV_BATTERY_FITTED

/-- Whether a converter draws outside the ledger: the discharge of R203 with the chopper faulty (R252). -/
def Dev.drawsDown (d : Dev) : Bool := d.link.discharge == 2 && d.chopFaulty

/-- The terms of I_LIMIT (0.1 A) with their LIMIT_SRC bits, at an output voltage (0.01 V) and a soft-start ramp over
`soft` of `total` ns (R246, R248, R249). -/
def Dev.dabTerms (d : Dev) (c : Conv) (vout soft total : Nat) : List (Nat × Nat) :=
  let v := max 1 vout
  let imax := d.n (ck c Obj.I_OUT_MAX)
  let g := d.n (el Obj.GRANT_DRAW (4 + cnum c))
  [(imax, 1), (d.n (ck c Obj.P_OUT_MAX) * 1000 / v, 2)] ++
    (if d.drawsDown then [] else [(g * d.n (ck c Obj.ETA_DC) * 1000 / (32768 * v), 4)]) ++
    (if soft < total then [(imax * soft / max 1 total, 8)] else []) ++
    (if d.absorbs c then [(d.n Obj.I_LVB_CHG_MAX, 16)] else [])

/-- The set-point of the output voltage, 0.01 V (R248). -/
def Dev.dabSet (d : Dev) (c : Conv) : Nat := if d.absorbs c then d.n Obj.V_LVB_CHG_MAX else d.n (ck c Obj.V_OUT_SET)

/-- The voltage reference: from the output at the start to the set-point over SOFT_START; the set-point at once where the
output stands above it (R250). -/
def Dev.dabRef (d : Dev) (c : Conv) (soft total : Nat) : Nat :=
  let set := d.dabSet c
  let v0 := (d.dabOf c).vStart
  if total ≤ soft ∨ set ≤ v0 then set else v0 + (set - v0) * soft / max 1 total

/-- The draw request of R247. -/
def Dev.dabRequest (d : Dev) (c : Conv) (vout : Nat) (iout : Int) : Dev :=
  let own := 110 * vout * iout.toNat * 32768 / (100000 * max 1 (d.n (ck c Obj.ETA_DC)))
  let req := if d.absorbs c then max own (d.n Obj.DCA_ABSORB_MAX) else own
  d.updDab c (fun a => { a with reqDraw := req, reqAt := d.wall })

/-! ### The boundary (R242, R246, R249 to R256) -/

/-- φ from the current slot, rounded to the tick of 2.5 ns and within a quarter period (R242). -/
def Dev.placePhi (d : Dev) (c : Conv) (x : Int) : Dev :=
  d.setO (ck c Obj.PHI) (clampI (-16384) 16384 x)

/-- Voltage and current loops of forward operation, outer first (R245, R246). -/
def Dev.dabLoop (d : Dev) (c : Conv) (ref limit : Nat) (i : DabIn) : Dev :=
  let d1 := ((d.setO (lk Obj.OUT_MAX (vSlot c)) limit).setO (lk Obj.OUT_MIN (vSlot c)) 0).firmwareSample (vSlot c) ref i.vout 0
    false false
  let d2 := ((d1.setO (lk Obj.OUT_MAX (iSlot c)) 16384).setO (lk Obj.OUT_MIN (iSlot c)) (-16384)).firmwareSample (iSlot c)
    (d1.o (lk Obj.OUTPUT (vSlot c))) i.iout 0 false false
  d2.placePhi c (d2.o (lk Obj.OUTPUT (iSlot c)))

/-- A start at a boundary: both bridges switch with φ = 0 (R250). -/
def Dev.dabStart (d : Dev) (c : Conv) (i : DabIn) : Dev :=
  ((((d.setO (ck c Obj.STATE_5400) 2).setO (ck c Obj.PHI) 0).enableLoops [vSlot c, iSlot c] true).updDab c (fun a => { a with
    want := false, runZero := false, soft := 0, vStart := i.vout, bias := 0 }))

/-- Whether the conditions of R250 hold, with those of the gate channels (R264, R278). -/
def Dev.dabMayStart (d : Dev) (c : Conv) (vin : Nat) : Bool :=
  decide (3500 ≤ vin) && !(d.startBlocked (cdom c)) && d.gatesFree (cdom c) && !(c == .dca && d.link.job.any (fun j => j.mode == 1))

/-- The converter stops below 300 V and waits to start again (R252). -/
def Dev.vinLow (d : Dev) (c : Conv) : Dev :=
  (((d.dabOff c 1).updDab c (fun a => { a with want := true })).event (cev c 0x72)).raise (ccode c 0x4090) false (csrc c)

/-- Off with event DCA_OUT_FAULT and a Domain-stop (R254). -/
def Dev.outFault (d : Dev) (c : Conv) (code : Nat) (lasting : Bool) : Dev :=
  (d.event (cev c 0x74)).raise (ccode c code) lasting (csrc c)

/-- A converter waits for its start conditions when a start is asked for (R250). -/
def Dev.dabWaiting (d : Dev) (c : Conv) (i : DabIn) : Dev :=
  let a := d.dabOf c
  let st := d.n (ck c Obj.STATE_5400)
  if !a.want then d.when (st == 1) (fun d => d.setO (ck c Obj.STATE_5400) 0)
  else if d.startBlocked (cdom c) then d
  else if d.dabMayStart c i.vin then
    let (d1, ready) := d.startReady (cdom c)
    if ready then d1.dabStart c i else d1.setO (ck c Obj.STATE_5400) 1
  else d.setO (ck c Obj.STATE_5400) 1

/-- One boundary of forward operation or of a stop (R246 to R251); `dt` in ns. -/
def Dev.dabForward (d : Dev) (c : Conv) (i : DabIn) (dt : Nat) : Dev :=
  let total := d.n (ck c Obj.SOFT_START) * 1000000
  let st := d.n (ck c Obj.STATE_5400)
  let a := d.dabOf c
  let d0 := d.when (decide (st ≠ 6) && !(d.b (ck c Obj.RUN_5400)) && a.runZero) (fun d =>
    (d.setO (ck c Obj.STATE_5400) 6).updDab c (fun a => { a with soft := total }))
  let stopping := d0.n (ck c Obj.STATE_5400) == 6
  let soft := if stopping then (d0.dabOf c).soft - dt else min total (a.soft + dt)
  let terms := d0.dabTerms c i.vout soft total
  let limit := least terms
  let bits := binding terms
  let ref := if stopping then d0.dabSet c else d0.dabRef c soft total
  let d1 := ((d0.updDab c (fun a => { a with soft := soft })).setO (ck c Obj.I_LIMIT_5400) limit).dabLoop c ref limit i
  let atLimit := d1.o (lk Obj.OUTPUT (vSlot c)) == (limit : Int)
  let d2 := (d1.setO (ck c Obj.LIMIT_SRC_5400) (if atLimit then bits else 0 : Nat)).dabRequest c i.vout i.iout
  if stopping ∨ st = 2 ∧ soft < total then d2
  else
    let d3 := d2.when (decide (st = 2)) (fun d => d.event (cev c 0x70))
    d3.setO (ck c Obj.STATE_5400) (if atLimit ∧ bits % 8 ≠ 0 then 4 else 3)

/-- DC bias: 16 consecutive periods above BIAS_LIMIT stop the converter (R253). -/
def Dev.dabBias (d : Dev) (c : Conv) (bias : Nat) : Dev :=
  let run := if d.n (ck c Obj.BIAS_LIMIT) < bias then min 16 ((d.dabOf c).bias + 1) else 0
  let d1 := d.updDab c (fun a => { a with bias := run })
  if run = 16 then (d1.event (cev c 0x75)).raise (ccode c 0x4491) false (csrc c) else d1

/-- The end of reverse operation: DCA stops, and the precharge is done (R255 step 5). -/
def Dev.reverseEnd (d : Dev) : Dev := ((d.dabOff .dca 1).event 0x77).preDone

/-- One boundary of DCA in a reverse precharge (R255, R256). -/
def Dev.reverseBoundary (d : Dev) (j : Precharge) (i : DabIn) (dt : Nat) : Dev :=
  if j.phase = 0 then
    if d.startBlocked .dca ∨ i.vout < d.n Obj.V_LVB_MIN ∨ !d.gatesFree .dca then d.preFail
    else
      ((((d.dabOff .dca 5).setO Obj.PRE_STATE 2).enableLoops [65, 68] true).event 0x76).prePhase 1
  else if (i.vout < d.n Obj.V_LVB_MIN ∧ j.phase < 3) ∨ d.n Obj.STATE_5400 ≠ 5 then d.preFail
  else if j.phase = 3 then
    let soft := (d.dabOf .dca).soft + dt
    if 1000000 ≤ soft then d.reverseEnd else (d.updDab .dca (fun a => { a with soft := soft })).placePhi .dca
      (d.o Obj.PHI * (1000000 - soft) / 1000000)
  else
    let top := min (d.n Obj.PRE_I_HV_MAX) (d.n Obj.PRE_DCA_POWER * 100 / max 1 i.vin)
    let d1 := ((d.setO (lk Obj.OUT_MAX 68) top).setO (lk Obj.OUT_MIN 68) 0).firmwareSample 68 (98 * j.vs / 100 : Nat) i.vin 0
      false false
    let d2 := d1.firmwareSample 65 (-(d1.o (lk Obj.OUTPUT 68))) (-(i.ihv : Int)) 0 false false
    d2.placePhi .dca (min 0 (d2.o (lk Obj.OUTPUT 65)))

/-- What the node and group C measured at the boundary (R243). -/
def Dev.dabMeasure (d : Dev) (c : Conv) (i : DabIn) : Dev :=
  (((d.setO (ck c Obj.V_OUT) (min i.vout 65535 : Nat)).setO (ck c Obj.I_OUT) (clampI (-32768) 32767 i.iout)).setO
    (ck c Obj.P_IN) (satI32 i.pin)).updDab c (fun a => { a with last := d.wall })

/-- A converter boundary (R242): the writes, the readings, the protection, and the converter in its state. -/
def Dev.dabBoundary (d : Dev) (c : Conv) (i : DabIn) : Dev :=
  let g := 4 + 2 * cnum c
  let dt := d.wall - (d.dabOf c).last
  let d1 := (((((d.dabWrites c).gateSet g).gateSet (g + 1)).dabCoefs c).dabMeasure c i).when
    (decide (i.vout ≤ d.n (ck c Obj.V_OUT_OV))) (fun d => d.causeGone (ccode c 0x4493))
  let st := d1.n (ck c Obj.STATE_5400)
  let rev := if c = .dca then d1.link.job.filter (fun j => j.mode == 1) else none
  let d2 := d1.when (decide (st = 7) && !(d1.startBlocked (cdom c))) (fun d =>
    (d.setO (ck c Obj.STATE_5400) (if d.b (ck c Obj.RUN_5400) then 1 else 0)).updDab c (fun a => { a with
      want := a.want || d.b (ck c Obj.RUN_5400) }))
  if d2.dabOn c ∧ d2.n (ck c Obj.V_OUT_OV) < i.vout then d2.outFault c 0x4493 true
  else match rev with
    | some j => d2.reverseBoundary j i dt
    | none =>
      if !(d2.dabOn c) then d2.dabWaiting c i
      else if i.vin < 3000 then d2.vinLow c
      else (d2.dabForward c i dt).dabBias c i.bias

/-- CONVERTER_BOUNDARY (R242). -/
def execConverterBoundary (c : Conv) (i : DabIn) (s : State) : Host.Outcome State Fault Refusal :=
  s.live (fun d => d.when (!(d.dead.contains 0x22)) (fun d => d.dabBoundary c i))

/-- DCA_STOPPED (R251): at the end of the stop ramp all eight channels turn off. -/
def execDcaStopped (c : Conv) (s : State) : Host.Outcome State Fault Refusal :=
  s.live (fun d => d.when (d.n (ck c Obj.STATE_5400) == 6 && decide ((d.dabOf c).soft = 0))
    (fun d => ((d.dabOff c 0).event (cev c 0x71))))

/-- DCA_OUT_SHORT (R254): the output has been below half its reference for 20 ms while I_LIMIT binds. -/
def execDcaOutShort (c : Conv) (s : State) : Host.Outcome State Fault Refusal :=
  s.live (fun d => d.when ((d.n (ck c Obj.STATE_5400) == 2 || d.n (ck c Obj.STATE_5400) == 3 ||
      d.n (ck c Obj.STATE_5400) == 4) && decide (2 * d.n (ck c Obj.V_OUT) < d.dabRef c (d.dabOf c).soft
        (d.n (ck c Obj.SOFT_START) * 1000000)) && d.b (ck c Obj.LIMIT_SRC_5400))
    (fun d => d.outFault c 0x4494 false))

/-! ### Reverse precharge (R255) -/

/-- REVERSE_LINK_REACHED (R255 step 4): the link, at `vdc` (0.1 V), lies within 2 % of V_S and the main closes. -/
def execReverseLinkReached (vdc : Nat) (s : State) : Host.Outcome State Fault Refusal :=
  s.live (fun d => match d.preIn 1 with
    | some j => d.when (decide (j.mode = 1) && decide (100 * ((vdc : Int) - j.vs).natAbs ≤ 2 * j.vs))
        (fun d => (d.setO Obj.VDC vdc).preMain j.src)
    | none => d)

/-- REVERSE_PRECHARGE_FAIL (R255): a low battery at `vout` (0.01 V), the link at `vdc` (0.1 V) above 1.05 times V_S, or
PRE_TIMEOUT before step 4. -/
def execReversePrechargeFail (vdc vout : Nat) (timeout : Bool) (s : State) : Host.Outcome State Fault Refusal :=
  s.live (fun d => match d.link.job with
    | some j => d.when (decide (j.mode = 1) && decide (j.phase ≤ 2) &&
        (decide (vout < d.n Obj.V_LVB_MIN) || decide (105 * j.vs < 100 * vdc) || (timeout && decide (j.phase < 2))))
        (fun d => (d.setO Obj.VDC vdc).preFail)
    | none => d)

end Sys2Proof.Machine
end

