-- ==== Sys2Proof/Machine/Gate.lean ====
section
/-! DEFINITION. Gate channels (R258 to R283): the commit of an assignment, latches and the reactions of bridges to them,
the node comparators, switch temperatures, DRIVE_EN and the clearing of latches, and the off-state tests. -/

namespace Sys2Proof.Machine

/-! ### Assignment (R260, R261) -/

/-- The assignment that awaits a commit for channel `n`: GROUP and POSITION as accepted. -/
def Dev.pendingAssign (d : Dev) (n : Nat) : Nat × Nat := (d.n (el Obj.GROUP_6000 n), d.n (el Obj.POSITION n))

/-- Channels 1 to 40. -/
def allChannels : List Nat := (List.range 40).map (· + 1)

/-- How many channels the pending assignment gives group `g` and position `p`. -/
def Dev.pendingCount (d : Dev) (g p : Nat) : Nat := (allChannels.filter (fun n => d.pendingAssign n == (g, p))).length

/-- The number of positions of a group (R259). -/
def positions (g : Nat) : Nat := if 1 ≤ g ∧ g ≤ 3 then 6 else if 4 ≤ g ∧ g ≤ 7 then 4 else if g = 8 ∨ g = 9 then 1 else 0

/-- The first three conditions of R261. -/
def Dev.assignOk (d : Dev) : Bool :=
  let c (g p : Nat) : Nat := d.pendingCount g p
  allChannels.all (fun n => let (g, p) := d.pendingAssign n; g == 0 || decide (p ≤ positions g)) &&
    [1, 2, 3].all (fun g => [1, 2, 3, 4, 5, 6].all (fun p => c g p == 1)) &&
    [4, 5, 6, 7].all (fun g =>
      (c g 1 == 1 && c g 2 == 1 && c g 3 == 1 && c g 4 == 1) || (c g 1 == 2 && c g 2 == 2 && c g 3 == 1 && c g 4 == 1) ||
        (c g 1 == 1 && c g 2 == 1 && c g 3 == 2 && c g 4 == 2)) &&
    decide (1 ≤ c 8 1) && decide (c 8 1 ≤ 4) && decide (c 9 1 ≤ 1) && (d.o Obj.PRE_MODE != 2 || c 9 1 == 1)

/-- The domain of a group and position code, none for group 0. -/
def assignDomain (a : Nat) : List Domain := (groupDomain (a / 8)).toList

/-- COMMIT 1 (R260, R261): the whole pending assignment is checked and committed, or refused and kept. -/
def Dev.assignCommit (d : Dev) (v : Int) : Dev :=
  let a := d.ahead
  let code (n : Nat) : Nat := let (g, p) := a.pendingAssign n; g * 8 + p
  if d.o Obj.LIFE_CYCLE ≠ 2 then d.res 0x20000004
  else if v ≠ 1 then d.res resRange
  else if !a.assignOk then (d.setO Obj.ASSIGN_STATE 2).res resCombination
  else if allChannels.any (fun n => code n != d.committedOf n &&
      (assignDomain (code n) ++ assignDomain (d.committedOf n)).any (fun dom => !(d.stopped dom))) then
    (d.setO Obj.ASSIGN_STATE 2).res resState
  else
    let moved := allChannels.filter (fun n => decide (n ≤ 36) && d.committedOf n == defaultChannel n && code n != defaultChannel n &&
      allChannels.any (fun m => code m == defaultChannel n && d.committedOf m != defaultChannel n))
    let all (f : Nat → Nat) : Bool := [37, 38, 39, 40].all (fun n => decide (0 < f n / 8))
    let d1 := allChannels.foldl (fun d n => { d with gates := Tab.upd {} d.gates n (fun g => { g with
      committed := if code n = defaultChannel n then 0 else code n + 1 }) }) (d.addSat Obj.CHANNELS_REPLACED moved.length)
    ((d1.when (all code && !(all d.committedOf)) (fun d =>
      (d.event 0x0D).raiseOn 0xD106 .sys false { ini := 0x01, acc := 5 })).setO Obj.ASSIGN_STATE 0).res 0

/-- ASSIGN_COMMIT (R261). -/
def execAssignCommit (v : Int) (s : State) : Host.Outcome State Fault Refusal := s.serve (fun d => d.assignCommit v)

/-! ### Latches (R264, R270, R276, R277) -/

/-- The group of channel `n` in the assignment in force. -/
def Dev.groupOf (d : Dev) (n : Nat) : Nat := d.assignment n / 8

/-- Whether the switches of group `g` are driven: modulation, hold or ASC, a switching port or converter, the chopper or
the precharge switch on (R264). -/
def Dev.driven (d : Dev) (g : Nat) : Bool :=
  match g with
  | 1 => [1, 2, 3, 4].contains (d.n Obj.BRIDGE_STATE)
  | 2 => [1, 2, 3, 4].contains (d.n (tk .B Obj.BRIDGE_STATE))
  | 3 => d.grid.step == 5
  | 4 | 5 => d.dabOn .dca
  | 6 | 7 => d.dabOn .dcb
  | 8 => d.link.on
  | 9 => match d.preSwitch with
    | some n => bitOf (d.o (el Obj.STATUS_6020 n)) 0
    | none => false
  | _ => false

/-- The fault of a gate channel's cause in group `g`: a Degrade in group 8, else a Domain-stop of the group's domain
(R283). -/
def gateFault (g cause : Nat) : Option Nat :=
  if g = 8 then some (0x6200 + cause) else (groupDomain g).map (fun dom => (dom.num - 1) * 4096 + 0x400 + cause)

/-- A latch set on channel `n`: the switch goes off softly, the event is raised and the fault of its group (R264, R270,
R276, R277). -/
def Dev.latchOff (d : Dev) (n bit event cause : Nat) : Dev :=
  let k := el Obj.STATUS_6020 n
  let d1 := (((d.setBit k bit true).setBit k 0 false).setBit k 7 true).event event
  let d2 := match gateFault (d.groupOf n) cause with
    | some c => d1.raise c true { addr := n, ini := 0x39, acc := 5 }
    | none => d1
  d2.when (d2.groupOf n == 8) (fun d => d.chopRefresh)

/-- A short-circuit detection on channel `n` (R270). -/
def Dev.gateShort (d : Dev) (n : Nat) : Dev := (d.addSat (el Obj.SC_LATCHES n)).latchOff n 1 0x10 0x0A0

/-- SYS_GATE_SC (R269, R270): a detection by the di/dt input (`di`) or the sense cell, as SC_MODE has it, of a channel
that is driven and not latched. -/
def execSysGateSc (n : Fin 40) (di : Bool) (s : State) : Host.Outcome State Fault Refusal :=
  s.live (fun d =>
    let ch := n.val + 1
    let g := d.groupOf ch
    let mode := d.n (at' Obj.SC_MODE (g - 1))
    let seen := if di then decide (2 ≤ mode) else decide (mode ≠ 2)
    d.when (decide (1 ≤ g) && d.driven g && seen && !(d.latched ch)) (fun d => d.gateShort ch))

/-- SYS_GATE_UVLO (R264): a rail under voltage for 1 µs; reported in a stopped domain, a latch in a running one. -/
def execSysGateUvlo (n : Fin 40) (pos neg : Bool) (s : State) : Host.Outcome State Fault Refusal :=
  s.live (fun d =>
    let ch := n.val + 1
    let k := el Obj.STATUS_6020 ch
    let d1 := (d.when pos (fun d => d.setBit k 5 true)).when neg (fun d => d.setBit k 6 true)
    d1.when ((pos || neg) && d1.driven (d1.groupOf ch) && !(d1.latched ch)) (fun d =>
      (d.addSat (el Obj.UVLO_LATCHES ch)).latchOff ch 2 0x11 0x0A1))

/-- GATE_UVLO_END (R264): both rails have been beyond threshold plus hysteresis for 5 µs. -/
def execGateUvloEnd (n : Fin 40) (s : State) : Host.Outcome State Fault Refusal :=
  s.live (fun d => (d.setBit (el Obj.STATUS_6020 (n.val + 1)) 5 false).setBit (el Obj.STATUS_6020 (n.val + 1)) 6 false)

/-- SYS_GATE_WARN (R265): the gate power of a channel, mW; a rise above 1,450 mW is reported. -/
def execSysGateWarn (n : Fin 40) (mw : Nat) (s : State) : Host.Outcome State Fault Refusal :=
  s.live (fun d =>
    let ch := n.val + 1
    let was := d.n (el Obj.GATE_POWER ch)
    let d1 := d.setO (el Obj.GATE_POWER ch) (min mw 65535 : Nat)
    if mw ≤ 1450 ∨ 1450 < was then d1
    else
      match groupDomain (d1.groupOf ch) with
      | some dom => (d1.event 0x13).raise ((dom.num - 1) * 4096 + 0x0A7) false { addr := ch, ini := 0x39, acc := 5 }
      | none => d1.event 0x13)

/-- TS_CONVERSION (R276): one conversion of the switch temperature, 0.1 °C. -/
def Dev.tsConvert (d : Dev) (ch : Nat) (temp : Int) : Dev :=
  let g := d.groupOf ch
  if g = 0 ∨ d.o (at' Obj.TS_TYPE (g - 1)) = 0 then d.setO (el Obj.TS_TEMP ch) (-32768)
  else
    let t := clampI (-32767) 32767 temp
    let x : Gate := Tab.get {} d.gates ch
    let warm := decide (d.o (at' Obj.TS_WARN (g - 1)) < t)
    let high := if d.o (at' Obj.TS_TRIP (g - 1)) < t then min 3 (x.tsHigh + 1) else 0
    let d1 := { (d.setO (el Obj.TS_TEMP ch) t) with gates := Tab.set {} d.gates ch { x with tsHigh := high, warm := warm } }
    let d2 := if warm && !x.warm then
      (match groupDomain g with
        | some dom => (d1.event 0x13).raise ((dom.num - 1) * 4096 + 0x0A6) false { addr := ch, ini := 0x39, acc := 5 }
        | none => d1) else d1
    d2.when (decide (high = 3) && decide (x.tsHigh < 3) && !(bitOf (d2.o (el Obj.STATUS_6020 ch)) 3))
      (fun d => d.latchOff ch 3 0x12 0x0A2)

/-- TS_CONVERSION (R276). -/
def execTsConversion (n : Fin 40) (temp : Int) (s : State) : Host.Outcome State Fault Refusal :=
  s.live (fun d => d.tsConvert (n.val + 1) temp)

/-- SYS_GATE_LINK (R277): a command or status symbol of the channel is missing. -/
def execSysGateLink (n : Fin 40) (s : State) : Host.Outcome State Fault Refusal :=
  s.live (fun d => d.when (!(bitOf (d.o (el Obj.STATUS_6020 (n.val + 1))) 4)) (fun d => d.latchOff (n.val + 1) 4 0x14 0x0A5))

/-! ### Reactions (R270, R274, R275) -/

/-- The machine of a traction group. -/
def groupMach : Nat → Option Mach
  | 1 => some .A
  | 2 => some .B
  | _ => none

/-- A latch of channel `n` reaches the main die (R274). -/
def Dev.latchReact (d : Dev) (n : Nat) : Dev :=
  let g := d.groupOf n
  if !(d.latched n) then d
  else match groupMach g with
    | some m => if bitOf (d.o (el Obj.STATUS_6020 n)) 7 then d.tracIdle m else d.ascEnter m 7
    | none =>
      if g = 3 then d.when (decide (d.grid.step ≠ 0)) (fun d => d.gridOff 0 0)
      else if g = 4 ∨ g = 5 then d.when (d.dabOn .dca) (fun d => d.dabOff .dca 7)
      else if g = 6 ∨ g = 7 then d.when (d.dabOn .dcb) (fun d => d.dabOff .dcb 7)
      else if g = 8 then d.chopRefresh
      else if g = 9 then (d.setPreSwitch false).when (d.link.job.any (fun j => j.mode == 2)) (fun d => d.preFail)
      else d

/-- LATCH_REACTION (R274). -/
def execLatchReaction (n : Fin 40) (s : State) : Host.Outcome State Fault Refusal :=
  s.live (fun d => d.latchReact (n.val + 1))

/-- SOFT_TURNOFF_END (R270 step 3, R274): GOFF clamps the gate; MS0 or MS1 then commands ASC on the group of R152. -/
def execSoftTurnoffEnd (n : Fin 40) (s : State) : Host.Outcome State Fault Refusal :=
  s.live (fun d =>
    let ch := n.val + 1
    let d1 := d.setBit (el Obj.STATUS_6020 ch) 7 false
    if !(bitOf (d.o (el Obj.STATUS_6020 ch)) 7) then d
    else match groupMach (d1.groupOf ch) with
      | some m => d1.when (d1.latched ch) (fun d => d.ascEnter m 7)
      | none => d1)

/-! ### Node comparators (R272, R275) -/

/-- The groups a node serves (R32, R272). -/
def nodeGroups : Nat → List Nat
  | 0 => [1] | 1 => [2] | 2 => [3] | 3 => [4, 5] | 4 => [6, 7] | _ => [8]

/-- The fault of a node's comparator (R234, R254, R283). -/
def nodeFault : Nat → Nat
  | 0 => 0x14A4 | 1 => 0x24A4 | 2 => 0x3487 | 3 => 0x4492 | 4 => 0x5492 | _ => 0x62A4

/-- A second trip within 10 µs of the ASC that followed the first (R275). -/
def Dev.secondTrip (d : Dev) (m : Mach) : Bool :=
  match (d.tracOf m).ascAt with
  | some t => d.inAsc m && decide (d.wall ≤ t + 10000)
  | none => false

/-- OC_COMPARATOR_TRIP (R272): node `h` trips; `over` lists the channels commanded on with their sense-cell voltage above
SC_THRESH. -/
def Dev.ocTrip (d : Dev) (h : Nat) (tooHigh : List Nat) : Dev :=
  let mine := (tooHigh.filter (fun n => decide (1 ≤ n) && decide (n ≤ 40) && (nodeGroups h).contains (d.groupOf n) && !(d.latched n)))
  let second := match h with
    | 0 => d.secondTrip .A
    | 1 => d.secondTrip .B
    | _ => false
  let d0 := { d with ocTrips := insertOnce h d.ocTrips, ocHold := insertOnce h d.ocHold }
  let src : FaultSrc := { ini := 0x30 + h, acc := 5 }
  let d1 : Dev := match h with
    | 0 => ((d0.addSat Obj.TRA_OC_TRIPS).event 0x36)
    | 1 => ((d0.addSat Obj.TRB_OC_TRIPS).event 0x56)
    | 2 => (d0.event 0x6B)
    | 3 => (d0.event 0x73)
    | 4 => (d0.event 0x7B)
    | _ => (d0.addSat Obj.CHOP_OC_TRIPS)
  let d2 := mine.foldl (fun d n => d.gateShort n) (d1.raise (nodeFault h) true src)
  match h with
  | 0 | 1 =>
    let m : Mach := if h = 0 then .A else .B
    if second then { ((d2.tracIdle m).setO (tk m Obj.BRIDGE_STATE) 5) with openRequest := true }
    else if d2.inAsc m then d2 else d2.tracIdle m |>.updTrac m (fun t => { t with stopWaits := true })
  | 5 => d2.chopRefresh
  | _ => d2

/-- OC_COMPARATOR_TRIP (R272). -/
def execOcComparatorTrip (h : Fin 6) (tooHigh : List Nat) (s : State) : Host.Outcome State Fault Refusal :=
  s.live (fun d => d.ocTrip h tooHigh)

/-- OC_HOLD_RELEASE (R272 steps 3 and 4): 5 µs after the release the bridges follow their reactions. -/
def execOcHoldRelease (h : Fin 6) (s : State) : Host.Outcome State Fault Refusal :=
  s.live (fun d =>
    if !(d.ocHold.contains h.val) then d
    else
      let d1 := { d with ocHold := d.ocHold.filter (· != h.val) }
      match groupMach ((nodeGroups h.val).headD 0) with
      | some m => d1.when (h.val ≤ 1 && (d1.groupChannels (tracGroup m)).any (fun n => d1.latched n &&
          !(bitOf (d1.o (el Obj.STATUS_6020 n)) 7))) (fun d => d.ascEnter m 7)
      | none => d1)

/-! ### DRIVE_EN (R278, R279) -/

/-- The DRIVE_EN fault of a domain (R278, R283). -/
def driveFaults : List (Domain × Nat) := [(.tra, 0x14A8), (.trb, 0x24A8), (.grd, 0x34A8), (.dca, 0x44A8), (.dcb, 0x54A8)]

/-- DRIVE_EN low, filtered (R278). -/
def Dev.driveLowActs (d : Dev) : Dev :=
  let run := driveFaults.filter (fun p => !(d.stopped p.1))
  let trac (m : Mach) (d : Dev) : Dev :=
    if d.o (tk m Obj.BRIDGE_STATE) = 0 ∨ d.inAsc m then d.tracStop m
    else if d.b (tk m Obj.ABOVE_ASC) then d.ascEnter m 2 else d.pulsesOff m
  let d1 := ({ (d.setO Obj.DRIVE_EN 0) with driveLow := d.wall }).event 0x15
  let d2 := ((((trac .B (trac .A d1)).when (decide (d.grid.step ≠ 0)) (fun d => d.gridOff 0 0)).when (d.dabOn .dca)
    (fun d => d.dabOff .dca 7)).when (d.dabOn .dcb) (fun d => d.dabOff .dcb 7)).setPreSwitch false
  run.foldl (fun d p => d.raise p.2 true { ini := 0x38, acc := 5 }) d2

/-- DRIVE_EN_LOW (R278); while no engine runs there is nothing to stop, and only the pin reads low. -/
def execDriveEnLow (s : State) : Host.Outcome State Fault Refusal :=
  s.run (fun d => d.when (d.b Obj.DRIVE_EN) (fun d =>
    if d.alive then d.driveLowActs else { (d.setO Obj.DRIVE_EN 0) with driveLow := d.wall }))

/-- A latch of channel `n` clears: it is counted, and its fault ends once no channel of the group holds one (R279). -/
def Dev.latchClear (d : Dev) (n bit cause : Nat) : Dev :=
  let d1 := ((d.setBit (el Obj.STATUS_6020 n) bit false).addSat Obj.LATCHES_CLEARED).event 0x16
  let d2 := match gateFault (d1.groupOf n) cause with
    | some c => d1.when (allChannels.all (fun m => !(bitOf (d1.o (el Obj.STATUS_6020 m)) bit) ||
        gateFault (d1.groupOf m) cause != some c)) (fun d => d.clearFault c)
    | none => d1
  d2.when (d2.groupOf n == 8) (fun d => d.chopRefresh)

/-- The latches whose cause the rise itself judges: UVLO, temperature and link; `silent` lists channels without symbols
throughout the last 10 µs (R279). -/
def Dev.clearLatches (d : Dev) (silent : List Nat) : Dev :=
  allChannels.foldl (fun d n =>
    let k := el Obj.STATUS_6020 n
    let g := d.groupOf n
    let d1 := d.when (bitOf (d.o k) 2 && !(bitOf (d.o k) 5) && !(bitOf (d.o k) 6)) (fun d => d.latchClear n 2 0x0A1)
    let d2 := d1.when (bitOf (d1.o k) 3 && (decide (g = 0) || decide (d1.o (el Obj.TS_TEMP n) < d1.o (at' Obj.TS_WARN (g - 1)))))
      (fun d => d.latchClear n 3 0x0A2)
    d2.when (bitOf (d2.o k) 4 && !(silent.contains n)) (fun d => d.latchClear n 4 0x0A5)) d

/-- Whether a machine's bridge may be switched off for a test: pulses off, or ASC with ABOVE_ASC 0 from a valid sensor
(R281). -/
def Dev.testOff (d : Dev) (g : Nat) : Bool :=
  let trac (m : Mach) : Bool := d.o (tk m Obj.BRIDGE_STATE) == 0 || d.o (tk m Obj.BRIDGE_STATE) == 5 ||
    (d.inAsc m && !(d.b (tk m Obj.ABOVE_ASC)) && d.sensorActive m)
  d.nodeQuiet g && (match g with
    | 1 => trac .A
    | 2 => trac .B
    | _ => !(d.driven g))

/-- The groups whose short-circuit latches, comparator faults or failed tests wait for an off-state test (R279, R282). -/
def Dev.awaitingTest (d : Dev) : List Nat :=
  [1, 2, 3, 4, 5, 6, 7, 8, 9].filter (fun g =>
    (d.groupChannels g).any (fun n => bitOf (d.o (el Obj.STATUS_6020 n)) 1) ||
      d.ocTrips.any (fun h => (nodeGroups h).headD 0 == g && d.faultOn (nodeFault h)) ||
      (match gateFault g 0x0A3 with
        | some c => d.faultOn c && (d.groupChannels g).any (fun n => decide (2 ≤ d.n (el Obj.DIAG_RESULT_6024 n)) &&
            d.n (el Obj.DIAG_RESULT_6024 n) != 6)
        | none => false))

/-- The off-state test of group `g` has passed: its waiting latches and comparator faults clear (R279). -/
def Dev.testPassed (d : Dev) (g : Nat) : Dev :=
  let d1 := (d.groupChannels g).foldl (fun d n => d.when (bitOf (d.o (el Obj.STATUS_6020 n)) 1) (fun d => d.latchClear n 1 0x0A0)) d
  let d2 := (d1.ocTrips.filter (fun h => (nodeGroups h).headD 0 == g)).foldl (fun d h =>
    ((({ d with ocTrips := d.ocTrips.filter (· != h) }).addSat Obj.LATCHES_CLEARED).event 0x16).clearFault (nodeFault h)) d1
  let d3 := match gateFault g 0x0A3 with
    | some c => d2.clearFault c
    | none => d2
  d3.when (g == 8) (fun d => d.chopRefresh)

/-- DRIVE_EN_RISE (R278, R279): the DRIVE_EN faults end; after at least 10 µs low, latches whose cause has gone clear, and
the others wait for an off-state test.  Secondary bridges have no test, and theirs counts as passed. -/
def Dev.driveRise (d : Dev) (silent : List Nat) : Dev :=
  let d1 := driveFaults.foldl (fun d p => d.clearFault p.2) (d.setO Obj.DRIVE_EN 1)
  if d.wall < d.driveLow + 10000 then d1
  else
    let d2 := d1.clearLatches silent
    d2.awaitingTest.foldl (fun d g =>
      let d' := d.startTest g (d.testOff g) true
      if g = 5 ∨ g = 7 then d'.testPassed g else d') d2

/-! ### Off-state tests (R281, R282) -/

/-- OFFSTATE_TEST_REQUEST (R281): a bitmask of groups, accepted while each named domain is stopped. -/
def Dev.offTestRequest (d : Dev) (mask : Int) : Dev :=
  let gs := [1, 2, 3, 4, 5, 6, 7, 8, 9].filter (fun g => bitOf mask g)
  if mask < 0 ∨ 65535 < mask then d.res resRange
  else if gs.any (fun g => (groupDomain g).toList.any (fun dom => !(d.stopped dom))) then d.res resState
  else (gs.foldl (fun d g => d.startTest g (d.testOff g) false) d).res 0

/-- OFFSTATE_TEST_REQUEST (R281). -/
def execOffstateTestRequest (mask : Int) (s : State) : Host.Outcome State Fault Refusal :=
  s.serve (fun d => d.offTestRequest mask)

/-- Whether `x` lies in `lo` to `hi`. -/
def within (lo hi x : Int) : Bool := decide (lo ≤ x) && decide (x ≤ hi)

/-- What one leg's readings show at link voltage `vl` (mV): 0 healthy, 1 high side shorted, 2 low side shorted, 3 short with
the side unknown, 4 open connection, 5 indeterminate (R282). -/
def judgeLeg (vl : Int) (r : LegReading) : Nat :=
  let both (lo hi : Int) : Bool := within lo hi r.plus && within lo hi r.minus
  let healthy := within (vl + 200) (vl + 4000) r.plus && within (-4000) (-200) r.minus
  if healthy then (if r.joined then 0 else 4)
  else if both (-200) 200 then (if 1000 ≤ vl then 2 else 3)
  else if both (vl - 200) (vl + 200) ∧ 1000 ≤ vl then 1
  else 5

/-- The same for the chopper, whose resistor joins its mid-point to DC+ (R282). -/
def judgeChopper (vl : Int) (r : LegReading) : Nat :=
  let both (lo hi : Int) : Bool := within lo hi r.plus && within lo hi r.minus
  if both (vl - 200) (vl + 200) then 0
  else if within (vl + 200) (vl + 4000) r.plus ∧ within (-4000) (-200) r.minus then 4
  else if both (-200) 200 then (if 1000 ≤ vl then 2 else 3)
  else 5

/-- DIAG_RESULT of a channel of a leg, on the high side or not, in a joined group or not, where `anyHigh` and `anyLow` say
that some leg of the group shows a shorted side (R282). -/
def diagResult (joined anyHigh anyLow high : Bool) (finding : Nat) : Nat :=
  if joined && anyHigh then (if high then 3 else 1)
  else if joined && anyLow then (if high then 1 else 3)
  else match finding with
    | 0 => 1
    | 1 => if high then 2 else 1
    | 2 => if high then 1 else 2
    | 3 => 4
    | 4 => 5
    | _ => 7

/-- The leg (from 0) and side of channel `n` in its group: odd positions are the high side; the chopper's switches are the low
side of one leg (R259, R282). -/
def Dev.legOf (d : Dev) (n : Nat) : Nat × Bool :=
  let g := d.groupOf n
  let p := d.assignment n % 8
  if g = 8 then (0, false) else ((p - 1) / 2, p % 2 == 1)

/-- The end of an off-state test of group `g` with its legs' readings at `vl` (mV): every channel is judged, a failed test is
reported, and a passed one after a DRIVE_EN rise clears the latches that waited (R279, R281, R282). -/
def Dev.diagDone (d : Dev) (g : Nat) (legs : List LegReading) (vl : Int) : Dev :=
  if !(d.testing.contains g) then d
  else
    let rise := d.riseTests.contains g
    let d0 := ({ d with testing := d.testing.filter (· != g), riseTests := d.riseTests.filter (· != g) }).showTests
    if legs.isEmpty then (d0.groupDiag g 0).event 0x17
    else
      let joined := g == 1 || g == 2 || g == 4 || g == 6
      let find (r : LegReading) : Nat := if g = 8 then judgeChopper vl r else judgeLeg vl r
      let fs := legs.map find
      let d1 := (d0.groupChannels g).foldl (fun d n =>
        let (leg, high) := d.legOf n
        let r := legs.getD leg { plus := 0, minus := 0, joined := true }
        ((d.setO (el Obj.DIAG_RESULT_6024 n) (diagResult joined (fs.contains 1) (fs.contains 2) high (fs.getD leg 5) : Nat)).setO
          (el Obj.MID_PLUS n) (satI32 r.plus)).setO (el Obj.MID_MINUS n) (satI32 r.minus)) d0
      let bad := (d1.groupChannels g).find? (fun n => d1.o (el Obj.DIAG_RESULT_6024 n) != 1)
      let d2 := d1.event 0x17
      match bad with
      | some n => (match gateFault g 0x0A3 with
        | some c => d2.raise c true { addr := n, ini := 0x39, acc := 7 }
        | none => d2)
      | none => d2.when rise (fun d => d.testPassed g)

/-- SYS_DIAG_DONE (R281, R282): no readings stand for a test ended early by the DC current. -/
def execSysDiagDone (g : Fin 10) (legs : List LegReading) (vl : Int) (s : State) : Host.Outcome State Fault Refusal :=
  s.live (fun d => d.diagDone g legs vl)

end Sys2Proof.Machine
end

