-- ==== Sys2Proof/Machine/LowVoltage.lean ====
section
/-! DEFINITION. The low-voltage half-bridges and BLDC groups (R284 to R308): carrier boundaries with bootstrap, current control
and zero crossings, protection and VLV, the start, loss and re-catch of a BLDC group, and the off-state tests. -/

namespace Sys2Proof.Machine

/-! ### Groups and half-bridges (R285, R287) -/

/-- The half-bridges of group k, ST0 to ST3 as 0 to 3 and BL0 to BL3 as 4 to 7 (R285). -/
def hbsOf (k : Nat) : List Nat :=
  if k < 4 then [4 * k + 1, 4 * k + 2, 4 * k + 3, 4 * k + 4] else [17 + 3 * (k - 4), 18 + 3 * (k - 4), 19 + 3 * (k - 4)]

/-- The group of half-bridge `n` (R285). -/
def hbGroup (n : Nat) : Nat := if n ≤ 16 then (n - 1) / 4 else 4 + (n - 17) / 3

/-- The electrical track of BLDC group `g`, or the position track of axis `g - 4` (R47, R296). -/
def axTrack (n : Nat) : TrackId := .ax (Fin.ofNat 8 n)

/-- The hidden state of group `k`. -/
def Dev.lvOf (d : Dev) (k : Nat) : LvGroup := Tab.get {} d.lvs k

/-- The hidden state of group `k` changed. -/
def Dev.updLv (d : Dev) (k : Nat) (f : LvGroup → LvGroup) : Dev := { d with lvs := Tab.upd {} d.lvs k f }

/-- The hidden state of half-bridge `n` changed. -/
def Dev.updHb (d : Dev) (n : Nat) (f : HalfBridge → HalfBridge) : Dev := { d with hbs := Tab.upd {} d.hbs n f }

/-- The hidden state of BLDC group `g`. -/
def Dev.bldcOf (d : Dev) (g : Nat) : Bldc := Tab.get {} d.bldcs g

/-- The hidden state of BLDC group `g` changed. -/
def Dev.updBldc (d : Dev) (g : Nat) (f : Bldc → Bldc) : Dev := { d with bldcs := Tab.upd {} d.bldcs g f }

/-- The hidden state of axis `a`. -/
def Dev.axisOf (d : Dev) (a : Nat) : Axis := Tab.get {} d.axes a

/-- The hidden state of axis `a` changed. -/
def Dev.updAxis (d : Dev) (a : Nat) (f : Axis → Axis) : Dev := { d with axes := Tab.upd {} d.axes a f }

/-- The switches of half-bridge `n`: HS_ON and LS_ON (R287). -/
def Dev.setHb (d : Dev) (n : Nat) (hs ls : Bool) : Dev := (d.setBit (el Obj.HB_STATUS n) 0 hs).setBit (el Obj.HB_STATUS n) 1 ls

/-- Every switch of group `k` off. -/
def Dev.hbsOff (d : Dev) (k : Nat) : Dev := (hbsOf k).foldl (fun d n => d.setHb n false false) d

/-- Whether a half-bridge of group `k` holds OC_LATCH (R289). -/
def Dev.ocLatched (d : Dev) (k : Nat) : Bool := (hbsOf k).any (fun n => bitOf (d.o (el Obj.HB_STATUS n)) 2)

/-- The firmware slot of BLDC group `g`'s speed loop (R298). -/
def bldcLoop (g : Nat) : Nat := 92 + g

/-- STATE of BLDC group `g`. -/
def Dev.bldcState (d : Dev) (g : Nat) : Nat := d.n (at' Obj.STATE_7100 g)

/-- BLDC group `g` with every switch off; its track loses its source, its loop is disabled, and STATE reads `st` (R302,
R304). -/
def Dev.bldcOff (d : Dev) (g st : Nat) : Dev :=
  let d1 := ((((d.hbsOff (4 + g)).setO (at' Obj.DUTY g) 0).setO (at' Obj.STATE_7100 g) st).loseTrack (axTrack (4 + g))).enableLoops
    [bldcLoop g] false
  (((d1.setO (at' Obj.SPEED_7100 g) 0).setO (at' Obj.I_DC g) 0).setO (at' Obj.ADVANCE_NOW g) 0).updBldc g (fun b => { b with
    integ := 0, ref := 0, sp := 0, stopping := false, braking := false, lastX := none, zcInt := 0, bad := 0, good := 0,
    place := none, since := 0, left := false, crossed := false, handover := false, limitAt := none, tripped := false })

/-- All three low sides of BLDC group `g` on (R303, R304). -/
def Dev.lowSides (d : Dev) (g : Nat) : Dev :=
  ((hbsOf (4 + g)).foldl (fun d n => d.setHb n false true) d).setO (at' Obj.STATE_7100 g) 6

/-- BLDC group `g` turns off and applies STANDSTILL (R304). -/
def Dev.bldcRest (d : Dev) (g : Nat) : Dev :=
  (d.bldcOff g 0).when (d.b (at' Obj.STANDSTILL_7100 g)) (fun d => d.lowSides g)

/-- Axis `a` off at once after a fault: its rotor coasts and its position is lost (R322). -/
def Dev.axisFail (d : Dev) (a : Nat) : Dev :=
  ((((d.hbsOff a).setO (at' Obj.STATE_7200 a) 6).setB (at' Obj.HOMED a) false).loseTrack (axTrack a)).updAxis a (fun x => { x with
    p := x.acc, v := 0, a := 0, inc := 0, doing := 0, next := 0, ready := false, stall := 0, atSpeed := false, amp := 0, integA := 0,
    integB := 0, dutyA := 0, dutyB := 0 })

/-- Group `k` off at once by a fault (R288, R289, R292). -/
def Dev.lvFail (d : Dev) (k : Nat) : Dev := if k < 4 then d.axisFail k else d.bldcOff (k - 4) 7

/-- Every group off at once (R292). -/
def Dev.lvAllFail (d : Dev) : Dev := (List.range 8).foldl (fun d k => d.lvFail k) d

/-! ### Sectors (R296, R299, R300) -/

/-- PWM phase, low phase and floating phase of a sector: 0 U, 1 V, 2 W (R296). -/
def sectorPhases : Nat → Nat × Nat × Nat
  | 0 => (0, 1, 2) | 1 => (0, 2, 1) | 2 => (1, 2, 0) | 3 => (1, 0, 2) | 4 => (2, 0, 1) | _ => (2, 1, 0)

/-- The first angle of a sector (R296). -/
def sectorStart (s : Nat) : Int := [0, 10923, 21845, 32768, 43691, 54613].getD s 0

/-- The zero-crossing angle of a sector (R296). -/
def sectorZc (s : Nat) : Int := [5461, 16384, 27307, 38229, 49152, 60075].getD s 0

/-- The sector of an angle (R296). -/
def sectorOf (angle : Int) : Nat :=
  let x := angle % 65536
  if x < 10923 then 0 else if x < 21845 then 1 else if x < 32768 then 2 else if x < 43691 then 3 else if x < 54613 then 4 else 5

/-- The next sector in direction `dir` (R296). -/
def nextSector (s : Nat) (dir : Int) : Nat := if 0 ≤ dir then (s + 1) % 6 else (s + 5) % 6

/-- The angle at which the next sector begins in direction `dir` (R296, R300). -/
def sectorEnd (s : Nat) (dir : Int) : Int := if 0 ≤ dir then sectorStart ((s + 1) % 6) else sectorStart s

/-- The coordinate of electrical angle `x` that lies nearest to coordinate `v`. -/
def nearAngle (v x : Int) : Int := v + signedMod 16 (x - v)

/-- Group `g` drives sector `s` (R296). -/
def Dev.driveSector (d : Dev) (g s : Nat) : Dev :=
  let (p, l, f) := sectorPhases s
  let n := 17 + 3 * g
  (((d.setHb (n + p) true false).setHb (n + l) false true).setHb (n + f) false false).updBldc g (fun b => { b with
    sector := s, since := 0, left := false, crossed := false, lastX := none, place := none })

/-- ADVANCE_NOW at a speed (rpm), by the points of the table (R300). -/
def advanceAt (b : Bytes) (speed : Nat) : Nat :=
  let pts := (List.range (byteAt b 1)).map (fun i => (u16At b (4 + 4 * i), u16At b (6 + 4 * i)))
  let rec go : List (Nat × Nat) → Nat
    | [] => 0
    | [p] => p.2
    | p :: q :: t =>
      if speed ≤ p.1 then p.2
      else if speed < q.1 then
        ((p.2 : Int) + roundDiv (((q.2 : Int) - p.2) * ((speed : Int) - p.1)) (q.1 - p.1)).toNat
      else go (q :: t)
  go pts

/-- Whether bytes are an ADVANCE table that R300 accepts: empty, or the layout with its CHECK. -/
def advanceOk (maxSpeed : Nat) (b : Bytes) : Bool :=
  let n := byteAt b 1
  let speeds := (List.range n).map (fun i => u16At b (4 + 4 * i))
  b.isEmpty || (decide (b.length = 8 + 4 * n) && byteAt b 0 == 1 && decide (2 ≤ n) && decide (n ≤ 16) && zeros b 2 2 &&
    rising speeds && speeds.all (fun s => decide (s ≤ maxSpeed)) &&
    (List.range n).all (fun i => decide (u16At b (6 + 4 * i) ≤ 5461)) && crcOk b)

/-! ### Limits (R290, R291) -/

/-- Whether the thermal model of a half-bridge of group `k` exceeds 15.0 A (R290). -/
def Dev.lvHot (d : Dev) (k : Nat) : Bool := (hbsOf k).any (fun n => decide (150 < d.n (el Obj.I_MODEL n)))

/-- The current limit of BLDC group `g` in force, mA: I_LIMIT, halved by a derate of ACT, less the VLV budget's reduction, and 15.0 A while
the thermal model binds (R290, R291, R298, R545). -/
def Dev.bldcLimit (d : Dev) (g : Nat) : Nat :=
  let l := d.n (at' Obj.I_LIMIT_7100 g) / (if d.derated .act then 2 else 1) - (d.bldcOf g).reduce
  100 * (if d.lvHot (4 + g) then min 150 l else l)

/-- Whether a limit of R290 or R291 binds. -/
def Dev.lvBinds (d : Dev) : Bool := (List.range 8).any (fun k => d.lvHot k) || [0, 1, 2, 3].any (fun g => (d.bldcOf g).reduce != 0)

/-- The report of a limit that begins to bind (R291). -/
def Dev.showLimit (d : Dev) : Dev :=
  let on := d.lvBinds
  ({ d with lvLimit := on }).when (on && !d.lvLimit) (fun d =>
    let n := ((List.range 28).map (· + 1)).find? (fun n => d.lvHot (hbGroup n) || (decide (17 ≤ n) && (d.bldcOf ((n - 17) / 3)).reduce != 0))
    (d.event 0x9A).raise 0x70C6 false { addr := n.getD 1, ini := 0x3A, acc := 5 })

/-- The thermal model of half-bridge `n` after a period with current `i` (mA): a first-order model of the square, 2 s
(R290). -/
def Dev.heatHb (d : Dev) (n : Nat) (i : Int) : Dev :=
  let h : HalfBridge := Tab.get {} d.hbs n
  let f := max 1 (d.n Obj.LV_F_PWM)
  let x : Int := (h.i2 : Int) + (i * i * 1000000 - h.i2) / (2 * f : Nat)
  ({ d with hbs := Tab.set {} d.hbs n { h with i2 := x.toNat } }).setO (el Obj.I_MODEL n)
    ((min 65535 (isqrt (x.toNat / 1000000) / 100) : Nat) : Int)

/-- VLV_BUDGET_EVAL (R291): the mean current of VLV over 1 ms, 0.1 A; the excess above 80.0 A is taken from BL3 first, then
from BL2, BL1 and BL0. -/
def Dev.vlvBudget (d : Dev) (i : Int) : Dev :=
  let take (acc : Dev × Nat) (g : Nat) : Dev × Nat :=
    let r := min acc.2 (acc.1.n (at' Obj.I_LIMIT_7100 g))
    (acc.1.updBldc g (fun b => { b with reduce := r }), acc.2 - r)
  ([3, 2, 1, 0].foldl take (d.setO Obj.I_VLV (clampI (-32768) 32767 i), (i - 800).toNat)).1.showLimit

/-- VLV_BUDGET_EVAL (R291). -/
def execVlvBudgetEval (i : Int) (s : State) : Host.Outcome State Fault Refusal := s.live (fun d => d.vlvBudget i)

/-! ### Current control (R297, R298, R310) -/

/-- A PI law in mV per A and mV per A s on an error in mA at `f` periods per second, within `lo` and `hi` (nV): the voltage and
the integrator. -/
def lvPi (kp ki e : Int) (f : Nat) (integ lo hi : Int) : Int × Int :=
  let i := clampI lo hi (integ + ki * e * 1000 / (max 1 f : Nat))
  (clampI lo hi (kp * e * 1000 + i), i)

/-- A voltage (nV) as a duty of VLV, 0.01 %. -/
def Dev.dutyOf (d : Dev) (v : Int) : Int := if d.n Obj.VLV = 0 then 0 else v / (d.n Obj.VLV * 1000 : Nat)

/-- A non-zero duty (0.01 %) whose on-time is rounded up to `tMin` ns (R297, R310). -/
def Dev.minOn (d : Dev) (duty : Int) (tMin : Nat) : Int :=
  let t := 1000000000 / max 1 (d.n Obj.LV_F_PWM)
  if 0 < duty ∧ duty * t < (tMin : Int) * 10000 then min 10000 (((tMin * 10000 + t - 1) / t : Nat) : Int) else duty

/-- The current reference of BLDC group `g` at a boundary, mA: ALIGN_I in a start, else the speed loop's output, within the
limits, and only motoring while VLV exceeds VLV_OV (R292, R298, R301). -/
def Dev.bldcRef (d : Dev) (g : Nat) : Int :=
  let lim : Int := d.bldcLimit g
  if d.bldcState g = 3 then clampI (if d.vlvHigh then 0 else -lim) lim (d.bldcOf g).ref
  else min lim (100 * d.o (at' Obj.ALIGN_I g))

/-- The current control of a driven BLDC group with I_DC at `i` mA (R298). -/
def Dev.bldcCurrent (d : Dev) (g : Nat) (i : Int) : Dev :=
  let b := d.bldcOf g
  let hi : Int := (d.n Obj.VLV * 10000000 : Nat)
  let (v, integ) := lvPi (d.o (at' Obj.KP_I_7100 g)) (d.o (at' Obj.KI_I_7100 g)) (d.bldcRef g - i) (d.n Obj.LV_F_PWM) b.integ 0 hi
  let tMin := d.n Obj.LV_DEAD + d.n (at' Obj.ZC_DELAY g) + d.n (at' Obj.SH_WIN g)
  ((d.setO (at' Obj.DUTY g) (d.minOn (min 10000 (d.dutyOf v)) tMin)).setO (at' Obj.I_DC g) (clampI (-32768) 32767 (i / 100))).updBldc g
    (fun b => { b with integ := integ })

/-! ### Losses and zero crossings (R299 to R302) -/

/-- A rotor lost: the group coasts, and after three tries it stops (R302). -/
def Dev.bldcLost (d : Dev) (g : Nat) : Dev :=
  let d1 := ((d.bldcOff g 4).addSat (at' Obj.LOSSES_7100 g)).event 0x94
  if d1.n (at' Obj.TRIES g) = 3 then
    (((d1.setO (at' Obj.STATE_7100 g) 7).updBldc g (fun b => { b with lost := true })).event 0x96).raise 0x72C2 false
      { addr := 17 + 3 * g, ini := 0x23, acc := 5 }
  else (d1.setO (at' Obj.TRIES g) (d1.o (at' Obj.TRIES g) + 1)).pauseStart (15 + g) Obj.PAUSE_RETRY_TB2

/-- The group changes to the next sector (R300). -/
def Dev.commutate (d : Dev) (g : Nat) : Dev :=
  let b := d.bldcOf g
  d.driveSector g (nextSector b.sector b.dir)

/-- SPEED of a group from the rate of its track (R295). -/
def Dev.bldcSpeed (d : Dev) (g : Nat) (rate : Int) : Int := rate * 60 / (65536 * max 1 (d.o (at' Obj.POLE_PAIRS_7100 g)))

/-- The commutation at the start of the next sector less ADVANCE_NOW is placed, or takes place now (R300). -/
def Dev.placeCommutation (d : Dev) (g : Nat) : Dev :=
  let b := d.bldcOf g
  let adv := advanceAt (d.block (at' Obj.ADVANCE g)) (d.o (at' Obj.SPEED_7100 g)).natAbs
  let v := d.value (axTrack (4 + g))
  let x := nearAngle v (sectorEnd b.sector b.dir) - b.dir * adv
  let d1 := d.setO (at' Obj.ADVANCE_NOW g) (adv : Nat)
  if (x - v) * b.dir ≤ 0 then d1.commutate g else d1.updBldc g (fun b => { b with place := some x })

/-- The slot and the set-point of a group at its entry to STATE 3 (R298). -/
def Dev.bldcRunning (d : Dev) (g : Nat) : Dev :=
  let d1 := (d.setO (at' Obj.STATE_7100 g) 3).enableLoops [bldcLoop g] true
  d1.updBldc g (fun b => { b with sp := d1.o (at' Obj.SPEED_7100 g) * 1000000, stopping := false, limitAt := none })

/-- A valid crossing at WALL `t` in running operation, confirmed now: the track, SPEED and the next commutation (R299, R300),
or a loss (R302). -/
def Dev.runCrossing (d : Dev) (g t : Nat) : Dev :=
  let b := d.bldcOf g
  let iv := t - b.zcAt
  let ax := axTrack (4 + g)
  let z := sectorZc b.sector
  let rate : Int := b.dir * 10923 * 1000000000 / (max 1 iv : Nat)
  let wild := b.zcInt ≠ 0 ∧ (2 * iv < b.zcInt ∨ 3 * b.zcInt < 2 * iv)
  let value := nearAngle (d.value ax) (z + rate * ((d.wall : Int) - t) / 1000000000)
  let d1 := (d.sourceUpdate ax value rate false).setO (at' Obj.SPEED_7100 g) (d.bldcSpeed g rate)
  let d2 := d1.updBldc g (fun b => { b with
    zcAt := t, zcPos := nearAngle (d1.value ax) z, zcInt := iv, bad := if wild then b.bad + 1 else 0, crossed := true })
  if 2 ≤ (d2.bldcOf g).bad ∨ 2 * (d2.o (at' Obj.SPEED_7100 g)).natAbs < d2.n (at' Obj.MIN_SPEED g) then d2.bldcLost g
  else d2.placeCommutation g

/-- A valid crossing during the ramp: six in a row between 15° and 45° into their sectors, and commutation follows the next
(R301). -/
def Dev.rampCrossing (d : Dev) (g t : Nat) : Dev :=
  let b := d.bldcOf g
  if b.handover then
    (((d.updBldc g (fun b => { b with zcInt := 0 })).bldcRunning g).event 0x93).runCrossing g t
  else
    let ax := axTrack (4 + g)
    let at_ := d.value ax - d.o ax.rateKey * ((d.wall : Int) - t) / 1000000000
    let into := if 0 ≤ b.dir then (at_ - sectorStart b.sector) % 65536 else (sectorStart ((b.sector + 1) % 6) - at_) % 65536
    let good := if 2731 ≤ into ∧ into ≤ 8191 then b.good + 1 else 0
    d.updBldc g (fun b => { b with
      zcInt := t - b.zcAt, zcAt := t, zcPos := nearAngle (d.value ax) (sectorZc b.sector), crossed := true, good := good, handover := decide (6 ≤ good) })

/-- A sample of the floating phase (0.01 V) taken at WALL `t`: the blank, the crossing between two samples and its instant
(R297, R299). -/
def Dev.zcSample (d : Dev) (g v t : Nat) : Dev :=
  let b := d.bldcOf g
  let vlv := d.n Obj.VLV
  let left := b.left || (decide (100 < v) && decide (v + 100 < vlv))
  let open_ := left && decide (2 ≤ b.since)
  let x : Int := 2 * (v : Int) - vlv
  let up := (b.sector % 2 == 1) == decide (0 ≤ b.dir)
  let d1 := d.updBldc g (fun b => { b with left := left, lastX := if open_ then some (x, t) else none })
  match b.lastX with
  | some (x0, t0) =>
    let hit := open_ && !b.crossed && (if up then decide (x0 < 0) && decide (0 ≤ x) else decide (0 < x0) && decide (x ≤ 0))
    if !hit then d1
    else
      let tc := t0 + (t - t0) * x0.natAbs / max 1 (x0.natAbs + x.natAbs)
      if d1.bldcState g = 3 then d1.runCrossing g tc else d1.rampCrossing g tc
  | none => d1

/-- What R302 finds at a boundary without a crossing: AX more than 90° past the last one, or I_DC at its limit for 500 ms at
low speed. -/
def Dev.lossCheck (d : Dev) (g : Nat) (i : Int) : Dev :=
  let b := d.bldcOf g
  let v := d.value (axTrack (4 + g))
  let low := decide ((d.o (at' Obj.SPEED_7100 g)).natAbs < d.n (at' Obj.MIN_SPEED g)) && decide (d.bldcLimit g ≤ i.natAbs)
  let since := if low then some (b.limitAt.getD d.wall) else none
  let d1 := d.updBldc g (fun b => { b with limitAt := since })
  if d.bldcState g ≠ 3 then d
  else if 16384 < (v - b.zcPos) * b.dir ∨ (match since with
      | some t => decide (t + 500000000 ≤ d.wall)
      | none => false) = true then d1.bldcLost g
  else d1

/-! ### The carrier boundary (R285 to R288, R292, R297, R310) -/

/-- The readings of group `k`: VLV with its watch, the bootstraps and the comparators (R287, R288, R292). -/
def Dev.lvReadings (d : Dev) (k : Nat) (i : LvIn) : Dev :=
  let high := decide (d.n Obj.VLV_OV < i.vlv)
  let d1 := ({ d.setO Obj.VLV (min 65535 i.vlv : Nat) with vlvHigh := high }).when (high && !d.vlvHigh) (fun d => d.event 0x98)
  let d2 := (d1.when (decide (1800 ≤ i.vlv)) (fun d => d.causeGone 0x74C3)).when (decide (i.vlv ≤ 6400)) (fun d => d.causeGone 0x74C4)
  ((hbsOf k).zipIdx).foldl (fun d p =>
    let boot := i.boots.getD p.2 0
    let key := el Obj.HB_STATUS p.1
    ((((d.setO (el Obj.BOOT_V p.1) (min 65535 boot : Nat)).setBit key 3 (decide (boot < 900))).setBit key 4 (decide (boot < 750))).setBit
      key 5 (i.high.getD p.2 false)).setBit key 6 (i.low.getD p.2 false)) d2

/-- A refresh pulse for half-bridge `n`, whose high side is driven and whose low side gets `low` ns in the coming period
(R288). -/
def Dev.refresh (d : Dev) (n : Nat) (driven : Bool) (low : Int) : Dev :=
  let was := (Tab.get {} d.hbs n : HalfBridge).refreshed
  let pulse := driven && bitOf (d.o (el Obj.HB_STATUS n)) 3 && decide (low < 300)
  ((d.updHb n (fun h => { h with refreshed := pulse })).when pulse (fun d => d.addSat (el Obj.REFRESHES n))).when (pulse && !was)
    (fun d => d.event 0x90)

/-- The conduction of a low side, ns, when its high side takes `duty` (0.01 %) of the coming period. -/
def Dev.lowTime (d : Dev) (duty : Int) : Int :=
  let t : Int := 1000000000 / max 1 (d.o Obj.LV_F_PWM)
  t - duty * t / 10000 - 2 * d.o Obj.LV_DEAD

/-- The end of a bootstrap stop: every bootstrap of the group at 10.0 V, then the end of the fault (R288). -/
def Dev.bootBack (d : Dev) (k : Nat) : Dev :=
  let ok := (hbsOf k).all (fun n => decide (1000 ≤ d.n (el Obj.BOOT_V n)))
  match (d.lvOf k).uv with
  | 0 => d
  | 1 =>
    if !ok then d
    else
      let d1 := d.updLv k (fun l => { l with uv := 2 })
      d1.when ((List.range 8).all (fun k => (d1.lvOf k).uv != 1)) (fun d => d.causeGone 0x72C0)
  | _ => d.when (ok && !(d.faultOn 0x72C0)) (fun d => d.updLv k (fun l => { l with uv := 0 }))

/-- The boundary of BLDC group `g` (R288, R297 to R302). -/
def Dev.bldcBoundary (d : Dev) (g : Nat) (i : LvIn) : Dev :=
  let st := d.bldcState g
  let idc := i.i.getD 0 0
  let n := 17 + 3 * g
  let b := d.bldcOf g
  let d0 := d.updBldc g (fun b => { b with emf := i.emf, tripped := false, since := b.since + 1 })
  if st = 1 ∨ st = 2 ∨ st = 3 then
    let (p, l, f) := sectorPhases b.sector
    let d1 := if b.tripped then d0 else d0.bldcCurrent g idc
    let d2 := ((d1.heatHb (n + p) idc).heatHb (n + l) idc).heatHb (n + f) 0
    let d3 := (d2.extrapolate (axTrack (4 + g)))
    let d4 := match i.float with
      | some v => d3.when (!b.tripped && decide (2 ≤ st)) (fun d => d.zcSample g v i.at_)
      | none => d3
    let d5 := d4.lossCheck g (if b.tripped then 0 else idc)
    if [1, 2, 3].contains (d5.bldcState g) then
      let (p', l', f') := sectorPhases (d5.bldcOf g).sector
      let duty := d5.o (at' Obj.DUTY g)
      (((d5.setBit (el Obj.HB_STATUS (n + p')) 0 (decide (0 < duty))).refresh (n + p') true (d5.lowTime duty)).refresh (n + l') false
        0).refresh (n + f') false 0
    else d5
  else [n, n + 1, n + 2].foldl (fun d h => (d.heatHb h 0).refresh h false 0) d0

/-- The built-in microstep table, and T[256] of every table (R311). -/
def builtIn (k : Nat) : Int := if 256 ≤ k then 32767 else roundDiv (32767 * sin30 (64 * k)) (2 ^ 30)

/-- Entry `k` of the table an axis has selected (R311). -/
def Dev.stepTable (d : Dev) (a k : Nat) : Int :=
  if 256 ≤ k then 32767
  else match d.n (at' Obj.TABLE_SEL a) with
    | 1 => (u16At (d.block Obj.USER_TABLE_1) (4 + 2 * k) : Int)
    | 2 => (u16At (d.block Obj.USER_TABLE_2) (4 + 2 * k) : Int)
    | _ => builtIn k

/-- The accumulator of axis `a` at the present WALL, in whole microsteps (R316). -/
def Dev.axisNow (d : Dev) (a : Nat) : Int :=
  let x := d.axisOf a
  (x.acc + x.inc * ((d.wall - x.at_) / 20 : Nat)) / 2 ^ 32

/-- The coil references of axis `a`, mA, at its present AX value and amplitude (R312, R313). -/
def Dev.coilRefs (d : Dev) (a : Nat) : Int × Int :=
  let q0 := (d.axisNow a) % 1024
  let g : Int := 256 / max 1 (d.o (at' Obj.RES_NOW a))
  let q := (if g ≤ 1 then q0 else q0 - q0 % g + g / 2).toNat
  let amp0 := (d.axisOf a).amp
  let amp : Int := if d.lvHot a then min 15000 amp0 else amp0
  let t (k : Nat) : Int := amp * d.stepTable a k / 32767
  let k := q % 256
  match q / 256 with
  | 0 => (t k, t (256 - k))
  | 1 => (t (256 - k), -(t k))
  | 2 => (-(t k), -(t (256 - k)))
  | _ => (-(t (256 - k)), t k)

/-- The four switches of a coil pair for a duty with its sign (R310). -/
def Dev.coilSwitches (d : Dev) (n : Nat) (duty : Int) : Dev :=
  if 0 ≤ duty then (d.setHb n (decide (duty ≠ 0)) false).setHb (n + 1) false true
  else (d.setHb n false true).setHb (n + 1) true false

/-- The boundary of stepper group `a`: both coil currents are regulated (R310). -/
def Dev.stepperBoundary (d : Dev) (a : Nat) (i : LvIn) : Dev :=
  let ia := i.i.getD 0 0
  let ib := i.i.getD 1 0
  let n := 4 * a + 1
  let d1 := (d.setO (at' Obj.I_A a) (satI32 ia)).setO (at' Obj.I_B a) (satI32 ib)
  let on := [1, 2, 3, 4].contains (d.n (at' Obj.STATE_7200 a))
  let heat (d : Dev) : Dev := (((d.heatHb n ia).heatHb (n + 1) ia).heatHb (n + 2) ib).heatHb (n + 3) ib
  if !on then [n, n + 1, n + 2, n + 3].foldl (fun d h => d.refresh h false 0) (heat d1)
  else
    let d2 := (heat d1).extrapolate (axTrack a)
    let (ra, rb) := d2.coilRefs a
    let x := d2.axisOf a
    let hi : Int := (d2.n Obj.VLV * 10000000 : Nat)
    let pi (e integ : Int) := lvPi (d2.o (at' Obj.KP_COIL a)) (d2.o (at' Obj.KI_COIL a)) e (d2.n Obj.LV_F_PWM) integ (-hi) hi
    let (va, ja) := pi (ra - ia) x.integA
    let (vb, jb) := pi (rb - ib) x.integB
    let tMin := d2.n (at' Obj.COIL_WIN a) + 2 * (d2.n Obj.LV_DEAD + 300)
    let duty (v : Int) : Int :=
      let m := d2.minOn (min 10000 (d2.dutyOf (v.natAbs : Int))) tMin
      if v < 0 then -m else m
    let d3 := d2.updAxis a (fun x => { x with integA := ja, integB := jb, dutyA := duty va, dutyB := duty vb })
    let d4 := (d3.coilSwitches n (duty va)).coilSwitches (n + 2) (duty vb)
    let low (v : Int) := d4.lowTime ((duty v).natAbs : Int)
    let pos (v : Int) := decide (0 < duty v)
    let neg (v : Int) := decide (duty v < 0)
    (((d4.refresh n (pos va) (low va)).refresh (n + 1) (neg va) (low va)).refresh (n + 2) (pos vb) (low vb)).refresh (n + 3)
      (neg vb) (low vb)

/-- LV_BOUNDARY (R285): the carrier boundary of group `k`. -/
def Dev.lvBoundary (d : Dev) (k : Nat) (i : LvIn) : Dev :=
  let d1 := (d.lvReadings k i).bootBack k
  (if k < 4 then d1.stepperBoundary k i else d1.bldcBoundary (k - 4) i).showLimit

/-- LV_BOUNDARY (R285). -/
def execLvBoundary (k : Fin 8) (i : LvIn) (s : State) : Host.Outcome State Fault Refusal := s.live (fun d => d.lvBoundary k i)

/-- The speed loop of BLDC group `g` (R298): sampled in STATE 3; its output, 0.1 A in the direction of rotation, is the current
reference. -/
def Dev.bldcSpeedSample (d : Dev) (g : Nat) : Dev :=
  let b := d.bldcOf g
  if d.bldcState g ≠ 3 then d
  else
    let lim := d.o (at' Obj.I_LIMIT_7100 g) / (if d.derated .act then 2 else 1)
    let d1 := d.firmwareSample (bldcLoop g) (b.sp / 1000000) (d.o (at' Obj.SPEED_7100 g)) (b.dir * b.ref / 100) false false
    d1.updBldc g (fun b => { b with ref := 100 * clampI (-lim) lim (b.dir * d1.o (lk Obj.OUTPUT (bldcLoop g))) })

/-- The load-angle loop of axis `a` (R317): while LOAD_ANGLE is valid and the axis moves with CURRENT_MODE 1, the slot's output,
0.1 A, is the amplitude between I_HOLD and I_RUN. -/
def Dev.loadAngleSample (d : Dev) (a : Nat) : Dev :=
  let la := d.o (at' Obj.LOAD_ANGLE a)
  if d.o (at' Obj.CURRENT_MODE a) ≠ 1 ∨ la = -32768 ∨ d.n (at' Obj.STATE_7200 a) ≠ 2 then d
  else
    let d1 := d.firmwareSample (80 + a) (d.o (at' Obj.LA_SET a)) la ((d.axisOf a).amp / 100 : Nat) false false
    d1.updAxis a (fun x => { x with
      amp := (100 * clampI (d1.o (at' Obj.I_HOLD a)) (d1.o (at' Obj.I_RUN a)) (d1.o (lk Obj.OUTPUT (80 + a)))).toNat })

/-- LOOP_SAMPLE (R167, R298, R317): a sample boundary of free slot `L` by its own trigger, or of an LE5 firmware slot with a
period of its own.  A cascaded slot samples with its inner slot, any other firmware slot at the boundaries of its domain. -/
def execLoopSample (L : Fin 128) (s : State) : Host.Outcome State Fault Refusal :=
  s.live (fun d =>
    let n := L.val
    if 92 ≤ n ∧ n < 96 then d.bldcSpeedSample (n - 92)
    else if 80 ≤ n ∧ n < 84 then d.loadAngleSample (n - 80)
    else d.when (decide (96 ≤ n) && d.o (lk Obj.TRIGGER n) != 3) (fun d => d.loopSampleN 4 n))

/-! ### Protection (R288 to R292) -/

/-- ACT_BOOT_UV (R288): a bootstrap of half-bridge `n` below 7.5 V. -/
def Dev.bootUv (d : Dev) (n : Nat) : Dev :=
  let k := hbGroup n
  ((((d.setBit (el Obj.HB_STATUS n) 4 true).lvFail k).updLv k (fun l => { l with uv := 1 })).event 0x91).raise 0x72C0 true
    { addr := n, ini := 0x3A, acc := 5 }

/-- ACT_BOOT_UV (R288). -/
def execActBootUv (n : Fin 28) (s : State) : Host.Outcome State Fault Refusal := s.live (fun d => d.bootUv (n.val + 1))

/-- ACT_HB_OC (R289): both switches of half-bridge `n` and then its group are off; RUN of a BLDC group reads 0. -/
def Dev.hbOc (d : Dev) (n : Nat) : Dev :=
  let k := hbGroup n
  let d1 := (((d.setBit (el Obj.HB_STATUS n) 2 true).lvFail k).addSat (el Obj.OC_LATCHES n)).event 0x92
  (d1.when (decide (4 ≤ k)) (fun d => d.setO (at' Obj.RUN_7100 (k - 4)) 0)).raise 0x72C1 true { addr := n, ini := 0x3A, acc := 5 }

/-- ACT_HB_OC (R289). -/
def execActHbOc (n : Fin 28) (s : State) : Host.Outcome State Fault Refusal := s.live (fun d => d.hbOc (n.val + 1))

/-- CYCLE_BY_CYCLE_TRIP (R290, R305): the shunt comparator of a BLDC group, or of coil A or B of a stepper group, ends the
on-time; `before` says that it came before the period's sample. -/
def Dev.cycleTrip (d : Dev) (k coil : Nat) (before : Bool) : Dev :=
  let mine := if k < 4 then [4 * k + 2 * coil + 1, 4 * k + 2 * coil + 2] else hbsOf k
  let d1 := mine.foldl (fun d n => d.setBit (el Obj.HB_STATUS n) 0 false) d
  d1.when (decide (4 ≤ k) && before) (fun d => d.updBldc (k - 4) (fun b => { b with tripped := true }))

/-- CYCLE_BY_CYCLE_TRIP (R290). -/
def execCycleByCycleTrip (k : Fin 8) (coil : Fin 2) (before : Bool) (s : State) : Host.Outcome State Fault Refusal :=
  s.live (fun d => d.cycleTrip k coil before)

/-- ACT_VLV_LOW (R292): VLV below 16.0 V for 100 µs. -/
def execActVlvLow (s : State) : Host.Outcome State Fault Refusal :=
  s.live (fun d => ((d.lvAllFail).event 0x97).raise 0x74C3 true { ini := 0x3A, acc := 5 })

/-- VLV_HW_OVERVOLTAGE (R292): the 64.0 V comparator. -/
def execVlvHwOvervoltage (s : State) : Host.Outcome State Fault Refusal :=
  s.live (fun d => ((d.lvAllFail).event 0x98).raise 0x74C4 true { ini := 0x3A, acc := 5 })

/-! ### Off-state tests (R293, R306, R307) -/

/-- DIAG_RESULT of every half-bridge of group `k`. -/
def Dev.lvDiag (d : Dev) (k : Nat) (v : Int) : Dev := (hbsOf k).foldl (fun d n => d.setO (el Obj.DIAG_RESULT_7004 n) v) d

/-- Whether the off-state test of group `k` may run: the group is off, VLV is at least 18.0 V and a BLDC group's line
back-EMF is below 1.0 V (R306). -/
def Dev.lvTestOk (d : Dev) (k : Nat) : Bool :=
  decide (1800 ≤ d.n Obj.VLV) && (if k < 4 then [0, 6].contains (d.n (at' Obj.STATE_7200 k))
    else [0, 7].contains (d.bldcState (k - 4)) && decide ((d.bldcOf (k - 4)).emf < 100))

/-- The off-state test of group `k` starts or is skipped (R306). -/
def Dev.lvTest (d : Dev) (k : Nat) (rise : Bool) : Dev :=
  if (d.lvOf k).testing then d
  else if !(d.lvTestOk k) then (d.updLv k (fun l => { l with tested := true })).lvDiag k 0
  else ((d.updLv k (fun l => { l with tested := true, testing := true, rise := rise })).setO Obj.DIAG_STATE 1).when (decide (4 ≤ k))
    (fun d => d.setO (at' Obj.STATE_7100 (k - 4)) 8)

/-- LV_DIAG_REQUEST (R306): bit k of the mask requests the test of group k, at the next servo period (R41). -/
def Dev.lvDiagRequest (d : Dev) (mask : Int) : Dev :=
  if mask < 0 ∨ 255 < mask then d.res resRange else (d.deliver Obj.DIAG_REQUEST mask).res 0

/-- LV_DIAG_REQUEST (R306). -/
def execLvDiagRequest (mask : Int) (s : State) : Host.Outcome State Fault Refusal := s.serve (fun d => d.lvDiagRequest mask)

/-- The finding of one half-bridge, with step 3 run or not (R307). -/
def judgeHb (ran : Bool) (r : HbReading) : Nat :=
  let up (h l : Bool) : Bool := h && !l
  let down (h l : Bool) : Bool := l && !h
  if up r.h1 r.l1 && down r.h2 r.l2 && ran && down r.h3 r.l3 then 1
  else if up r.h1 r.l1 && up r.h2 r.l2 then 2
  else if down r.h1 r.l1 && down r.h2 r.l2 then 3
  else if up r.h1 r.l1 && down r.h2 r.l2 && ran && up r.h3 r.l3 then 4
  else 5

/-- A passed test after a DRIVE_EN rise: the latches of the group clear, and with the last of them fault 0x72C1, and a failed
test is forgotten (R293, R307). -/
def Dev.lvPassed (d : Dev) (k : Nat) : Dev :=
  let held := (hbsOf k).filter (fun n => bitOf (d.o (el Obj.HB_STATUS n)) 2)
  let d1 := held.foldl (fun d n => ((d.setBit (el Obj.HB_STATUS n) 2 false).addSat Obj.LATCHES_CLEARED).event 0x16)
    (d.updLv k (fun l => { l with failed := false }))
  let d2 := d1.when (decide (held ≠ []) && (List.range 8).all (fun k => !(d1.ocLatched k))) (fun d => d.clearFault 0x72C1)
  d2.when ((d.lvOf k).failed && (List.range 8).all (fun k => !((d2.lvOf k).failed))) (fun d => d.clearFault 0x72C5)

/-- ACT_DIAG_DONE (R306, R307): the test of group `k` ends with its comparators' readings. -/
def Dev.lvDiagDone (d : Dev) (k : Nat) (rs : List HbReading) : Dev :=
  if !((d.lvOf k).testing) then d
  else
    let rise := (d.lvOf k).rise
    let none_ : HbReading := { h1 := false, l1 := false, h2 := false, l2 := false, h3 := false, l3 := false }
    let rs := (hbsOf k).zipIdx.map (fun p => (p.1, rs.getD p.2 none_))
    let ran := rs.all (fun p => p.2.h1 && !p.2.l1 && p.2.l2 && !p.2.h2)
    let d1 := rs.foldl (fun d p => d.setO (el Obj.DIAG_RESULT_7004 p.1) (judgeHb ran p.2 : Nat)) d
    let d2 := (d1.updLv k (fun l => { l with testing := false, rise := false })).when (decide (4 ≤ k))
      (fun d => d.setO (at' Obj.STATE_7100 (k - 4)) 0)
    let d3 := (d2.setO Obj.DIAG_STATE (if (List.range 8).any (fun k => (d2.lvOf k).testing) then 1 else 2)).event 0x99
    match rs.find? (fun p => judgeHb ran p.2 != 1) with
    | some p =>
      (((d3.updLv k (fun l => { l with failed := true }))).when (decide (4 ≤ k))
        (fun d => d.setO (at' Obj.RUN_7100 (k - 4)) 0)).raise 0x72C5 true { addr := p.1, ini := 0x3A, acc := 7 }
    | none => d3.when rise (fun d => d.lvPassed k)

/-- ACT_DIAG_DONE (R307). -/
def execActDiagDone (k : Fin 8) (rs : List HbReading) (s : State) : Host.Outcome State Fault Refusal :=
  s.live (fun d => d.lvDiagDone k rs)

/-- DRIVE_EN_RISE (R279, R293): the gate channels' latches, and after at least 10 µs low the LV groups with a latch or a failed
test are tested. -/
def Dev.driveRiseAll (d : Dev) (silent : List Nat) : Dev :=
  let long := decide (d.driveLow + 10000 ≤ d.wall)
  let d1 := d.driveRise silent
  d1.when long (fun d => (List.range 8).foldl (fun d k =>
    d.when (d.ocLatched k || (d.lvOf k).failed) (fun d => if d.lvTestOk k then d.lvTest k true else d)) d)

/-- DRIVE_EN_RISE (R279, R293); while no engine runs only the pin reads high. -/
def execDriveEnRise (silent : List Nat) (s : State) : Host.Outcome State Fault Refusal :=
  s.run (fun d => d.when (!(d.b Obj.DRIVE_EN)) (fun d => if d.alive then d.driveRiseAll silent else d.setO Obj.DRIVE_EN 1))

/-! ### Start, stop and re-catch of a BLDC group (R301 to R305) -/

/-- Whether group `g` may start: no latch, no failed test, no bootstrap stop, no stop after three tries, and ACT is not stopped
(R288, R293, R302, R307, R510). -/
def Dev.bldcFree (d : Dev) (g : Nat) : Bool :=
  !(d.startBlocked .act) && !(d.ocLatched (4 + g)) && !((d.lvOf (4 + g)).failed) && (d.lvOf (4 + g)).uv == 0 && !((d.bldcOf g).lost)

/-- BLDC_RUN as a write of RUN 1: STATE while the group may not start (R301, R302, R510). -/
def Dev.bldcRunWrite (d : Dev) (g : Nat) (v : Int) : Dev :=
  if v < 0 ∨ 1 < v then d.res resRange
  else if v = 1 ∧ !(d.bldcFree g) then d.res resState
  else (d.deliver (at' Obj.RUN_7100 g) v).res 0

/-- BLDC_RUN (R301). -/
def execBldcRun (g : Fin 4) (s : State) : Host.Outcome State Fault Refusal := s.serve (fun d => d.allowed [9] (fun d => d.bldcRunWrite g 1))

/-- BLDC_STOP (R304). -/
def execBldcStop (g : Fin 4) (s : State) : Host.Outcome State Fault Refusal := s.serve (fun d => d.bldcRunWrite g 0)

/-- The align of a start: the pair of sector 0 at ALIGN_I (R301). -/
def Dev.bldcAlign (d : Dev) (g : Nat) : Dev :=
  ((d.driveSector g 0).setO (at' Obj.STATE_7100 g) 1).updBldc g (fun b => { b with braking := false, good := 0, handover := false })

/-- BLDC_ALIGN_END (R301): AX is set to 21,845 as a jump, and the ramp begins with sector 2. -/
def Dev.alignEnd (d : Dev) (g : Nat) : Dev :=
  if d.bldcState g ≠ 1 then d
  else
    let ax := axTrack (4 + g)
    let d1 := (((d.sourceUpdate ax (nearAngle (d.value ax) 21845) 0 true).driveSector g 2).setO (at' Obj.STATE_7100 g) 2)
    d1.updBldc g (fun b => { b with rampAt := d1.wall, zcAt := d1.wall, good := 0, handover := false })

/-- BLDC_ALIGN_END (R301). -/
def execBldcAlignEnd (g : Fin 4) (s : State) : Host.Outcome State Fault Refusal := s.live (fun d => d.alignEnd g)

/-- BLDC_RAMP_STEP (R301): the next sector in open loop; AX moves on to its start at the ramp's rate. -/
def Dev.rampStep (d : Dev) (g : Nat) : Dev :=
  if d.bldcState g ≠ 2 then d
  else
    let b := d.bldcOf g
    let f0 := d.o (at' Obj.RAMP_F_START g)
    let t := min ((d.wall - b.rampAt : Nat) : Int) (d.o (at' Obj.RAMP_TIME g) * 1000000)
    let rate := b.dir * (f0 * 65536 + (d.o (at' Obj.RAMP_F_END g) - f0) * 65536 * t / max 1 (d.o (at' Obj.RAMP_TIME g) * 1000000))
    let ax := axTrack (4 + g)
    let s := nextSector b.sector b.dir
    let x := nearAngle (d.value ax) (sectorEnd b.sector b.dir)
    ((d.sourceUpdate ax x rate false).driveSector g s).setO (at' Obj.SPEED_7100 g) (d.bldcSpeed g rate)

/-- BLDC_RAMP_STEP (R301). -/
def execBldcRampStep (g : Fin 4) (s : State) : Host.Outcome State Fault Refusal := s.live (fun d => d.rampStep g)

/-- BLDC_RAMP_TIMEOUT (R301): RAMP_TIME ends without handover. -/
def execBldcRampTimeout (g : Fin 4) (s : State) : Host.Outcome State Fault Refusal :=
  s.live (fun d => d.when (d.bldcState g == 2) (fun d => d.bldcLost g))

/-- BLDC_COMMUTATION (R300): AX reaches the placed angle. -/
def execBldcCommutation (g : Fin 4) (s : State) : Host.Outcome State Fault Refusal :=
  s.live (fun d => d.when (d.bldcState g == 3 && (d.bldcOf g).place.isSome) (fun d => d.commutate g))

/-- ACT_BL_LOST (R302): a running group loses its rotor. -/
def execActBlLost (g : Fin 4) (s : State) : Host.Outcome State Fault Refusal :=
  s.live (fun d => d.when (d.bldcState g == 3) (fun d => d.bldcLost g))

/-- The measurement of R303 begins: all switches off, STATE 5. -/
def Dev.recatchStart (d : Dev) (g : Nat) : Dev := d.bldcOff g 5

/-- RECATCH_START (R302, R303): 50 ms of coasting are over, with their throttling pause (R542). -/
def execRecatchStart (g : Fin 4) (s : State) : Host.Outcome State Fault Refusal :=
  s.live (fun d => d.when (d.bldcState g == 4 && !(d.pauses.contains (15 + g))) (fun d => d.recatchStart g))

/-- ACT_BL_RECATCH (R303): the measurement ends with the electrical angle, its rate (angle units/s) and the line back-EMF
(0.01 V). -/
def Dev.recatchEnd (d : Dev) (g angle : Nat) (rate : Int) (amp : Nat) : Dev :=
  if d.bldcState g ≠ 5 then d
  else
    let b := d.bldcOf g
    let turning := decide (2 * d.n Obj.VLV ≤ 100 * amp)
    let speed := d.bldcSpeed g rate
    let fast := decide (11 * d.n (at' Obj.MAX_SPEED_7100 g) < 10 * speed.natAbs)
    let d0 := d.updBldc g (fun b => { b with emf := amp })
    if !turning then d0.bldcAlign g
    else if 0 < rate * b.dir ∧ !fast then
      let ax := axTrack (4 + g)
      let d1 := d0.sourceUpdate ax (nearAngle (d0.value ax) angle) rate true
      let d2 := ((d1.driveSector g (sectorOf angle)).setO (at' Obj.SPEED_7100 g) speed).bldcRunning g
      let v : Int := (amp * 10000000 : Nat)
      ((d2.setO (at' Obj.DUTY g) (min 10000 (d2.dutyOf v))).updBldc g (fun b => { b with
        integ := v, zcAt := d2.wall, zcPos := d2.value ax, zcInt := 0, bad := 0 })).event 0x95
    else (d0.lowSides g).updBldc g (fun b => { b with braking := true })

/-- ACT_BL_RECATCH (R303). -/
def execActBlRecatch (g : Fin 4) (angle : Nat) (rate : Int) (amp : Nat) (s : State) : Host.Outcome State Fault Refusal :=
  s.live (fun d => d.recatchEnd g angle rate amp)

/-- LOW_SIDE_BRAKE_END (R303): the back-EMF is below 2 % and the start follows, or 2 s have passed and the rotor is lost. -/
def execLowSideBrakeEnd (g : Fin 4) (timeout : Bool) (s : State) : Host.Outcome State Fault Refusal :=
  s.live (fun d => d.when (d.bldcState g == 6 && (d.bldcOf g).braking) (fun d => if timeout then d.bldcLost g else d.bldcAlign g))

/-- TRIES_RESET (R302): 1 s in STATE 3. -/
def execTriesReset (g : Fin 4) (s : State) : Host.Outcome State Fault Refusal :=
  s.live (fun d => d.when (d.bldcState g == 3) (fun d => d.setO (at' Obj.TRIES g) 0))

/-- A delivered write of RUN: RUN 0 sets TRIES to 0, and releases a group stopped after three tries once its fault has ended
(R302). -/
def Dev.bldcRunApplied (d : Dev) (g : Nat) : Dev :=
  if d.b (at' Obj.RUN_7100 g) then d
  else (d.setO (at' Obj.TRIES g) 0).when (!(d.faultOn 0x72C2)) (fun d => d.updBldc g (fun b => { b with lost := false }))

/-- The speed set-point moves on by one servo period towards its goal (µrpm), at ACCEL while it grows and at DECEL while it
falls (R298, R304). -/
def Dev.rampSetpoint (d : Dev) (g : Nat) : Dev :=
  let b := d.bldcOf g
  let goal := if b.stopping then b.dir * d.o (at' Obj.MIN_SPEED g) * 1000000 else d.o (at' Obj.SPEED_SET g) * 1000000
  let step := (if b.sp.natAbs < goal.natAbs then d.o (at' Obj.ACCEL_7100 g) else d.o (at' Obj.DECEL_7100 g)) * 250
  d.updBldc g (fun b => { b with sp := if b.sp ≤ goal then min goal (b.sp + step) else max goal (b.sp - step) })

/-- What MS3 decides for BLDC group `g` at a servo period: starts, stops and the set-point (R301, R303 to R305). -/
def Dev.bldcServo (d : Dev) (g : Nat) : Dev :=
  let set := d.o (at' Obj.SPEED_SET g)
  let want := d.b (at' Obj.RUN_7100 g) && decide (d.o (at' Obj.MIN_SPEED g) ≤ (set.natAbs : Int)) && decide (d.domainState .act < 3)
  let b := d.bldcOf g
  let sameDir := decide (0 < set * b.dir)
  match d.bldcState g with
  | 3 =>
    let d1 := (d.updBldc g (fun b => { b with stopping := !(want && sameDir) })).rampSetpoint g
    let b1 := d1.bldcOf g
    d1.when (b1.stopping && decide (b1.sp = b1.dir * d1.o (at' Obj.MIN_SPEED g) * 1000000)) (fun d => d.bldcRest g)
  | 1 | 2 | 4 | 5 => d.when (!(want && sameDir)) (fun d => d.bldcRest g)
  | 8 => d
  | st =>
    if st = 6 ∧ b.braking then d.when (!(want && sameDir)) (fun d => d.bldcRest g)
    else if !(d.bldcFree g) then d
    else
      let d1 := d.when (decide (st = 7)) (fun d => d.setO (at' Obj.STATE_7100 g) 0)
      if !want then d1
      else
        let d2 := d1.when (!((d1.lvOf (4 + g)).tested)) (fun d => d.lvTest (4 + g) false)
        d2.when (d2.bldcState g != 8) (fun d => (d.updBldc g (fun b => { b with dir := if 0 < set then 1 else -1 })).recatchStart g)

end Sys2Proof.Machine
end

