-- ==== Sys2Proof/Machine/Actuators.lean ====
section
/-! DEFINITION. The gearbox actuators (R309 to R330): profiles, accumulators, stall and homing of the stepper axes, coordinated
groups, stops, and the shift, park-lock and differential-lock interlocks. -/

namespace Sys2Proof.Machine

/-! ### Profiles (R315, R316) -/

/-- One microstep in the unit of the accumulator (R316). -/
def ustep : Int := 4294967296

/-- The limits of a profile, microsteps and seconds. -/
structure Limits where
  vMax : Int
  accel : Int
  decel : Int
  jerk : Int
deriving DecidableEq, Repr

/-- Position, velocity and acceleration of a profile, 2^-32 microstep and seconds. -/
structure Motion where
  p : Int
  v : Int
  a : Int
deriving DecidableEq, Repr

/-- v_stop of R315 for a distance, both scaled by 2^32. -/
def vStop (l : Limits) (dist : Nat) : Int :=
  let dec := l.decel.toNat
  if l.jerk = 0 then (isqrt (2 * dec * dist * 4294967296) : Nat)
  else
    let q := dec * dec * 4294967296 / l.jerk.toNat
    (((isqrt (q * q + 8 * dec * dist * 4294967296) : Nat) : Int) - q) / 2

/-- The velocity and acceleration of the next period for a goal velocity (R315). -/
def towards (l : Limits) (m : Motion) (vGoal lim : Int) : Motion :=
  let aGoal := clampI (-(lim * ustep)) (lim * ustep) ((vGoal - m.v) * 4000)
  let a := if l.jerk = 0 then aGoal else m.a + clampI (-(l.jerk * ustep / 4000)) (l.jerk * ustep / 4000) (aGoal - m.a)
  let v := m.v + a / 4000
  { p := m.p + (m.v + v) / 8000, v := v, a := a }

/-- One period of a move to `target` microsteps, exactly as the procedure of R315; the Bool says that the move ends. -/
def profile (l : Limits) (m : Motion) (target : Int) : Motion × Bool :=
  let dist := target * ustep - m.p
  let s := Int.sign dist
  let vGoal := s * min (l.vMax * ustep) (vStop l dist.natAbs)
  let lim := if m.v.natAbs < vGoal.natAbs ∧ Int.sign vGoal = Int.sign m.v then l.accel else l.decel
  let n := towards l m vGoal lim
  if (s = 1 ∧ target * ustep ≤ n.p) ∨ (s = -1 ∧ n.p ≤ target * ustep) ∨ (s = 0 ∧ n.p = m.p) then
    ({ p := target * ustep, v := 0, a := 0 }, true)
  else (n, false)

/-- One period of a stop at DECEL, with JERK; the Bool says that the axis is at rest (R322). -/
def stopProfile (l : Limits) (m : Motion) : Motion × Bool :=
  let n := towards l m 0 l.decel
  if m.v = 0 ∨ n.v = 0 ∨ Int.sign n.v ≠ Int.sign m.v then
    ({ p := if m.v = 0 then m.p else m.p + m.v / 8000, v := 0, a := 0 }, true)
  else (n, false)

/-- The limits of axis `a` (R309). -/
def Dev.axisLimits (d : Dev) (a : Nat) : Limits :=
  { vMax := d.o (at' Obj.V_MAX a), accel := d.o (at' Obj.ACCEL_7200 a), decel := d.o (at' Obj.DECEL_7200 a), jerk := d.o (at' Obj.JERK a) }

/-- STATE of axis `a`. -/
def Dev.axisState (d : Dev) (a : Nat) : Nat := d.n (at' Obj.STATE_7200 a)

/-- Whether axis `a` is homed. -/
def Dev.homed (d : Dev) (a : Nat) : Bool := d.b (at' Obj.HOMED a)

/-- The amplitude of I_RUN, I_HOLD or HOME_I (0.1 A) in force, mA (R310). -/
def Dev.setAmp (d : Dev) (a k : Nat) : Dev := d.updAxis a (fun x => { x with amp := 100 * d.n (at' k a) })

/-- Axis `a` holds: STATE 1 with I_HOLD (R320). -/
def Dev.axisHold (d : Dev) (a : Nat) : Dev :=
  ((d.setO (at' Obj.STATE_7200 a) 1).setAmp a Obj.I_HOLD).updAxis a (fun x => { x with
    doing := 0, next := 0, ready := false, v := 0, a := 0, stall := 0, atSpeed := false })

/-! ### Starts and stops (R314, R319, R320, R322) -/

/-- A move of axis `a` starts, or its target is replaced (R314). -/
def Dev.moveStart (d : Dev) (a : Nat) (target : Int) : Dev :=
  let d1 := ((d.setO (at' Obj.STATE_7200 a) 2).setAmp a Obj.I_RUN).updAxis a (fun x => { x with
    doing := 1, next := 0, ready := false, target := target, stall := 0 })
  d1.enableLoops [80 + a] (d1.o (at' Obj.CURRENT_MODE a) == 1)

/-- Homing of axis `a` starts (R319). -/
def Dev.homeStart (d : Dev) (a : Nat) : Dev :=
  ((((d.setO (at' Obj.STATE_7200 a) 4).setAmp a Obj.HOME_I).setB (at' Obj.HOMED a) false).loseTrack (axTrack a)).updAxis a
    (fun x => { x with doing := 2, next := 0, ready := false, stall := 0, atSpeed := false, homeFrom := x.p })

/-- Axis `a` is energised first, after the off-state test of its group at its first start (R306, R314); `next` follows. -/
def Dev.energise (d : Dev) (a next : Nat) (target : Int) : Dev :=
  let d1 := d.when (!((d.lvOf a).tested)) (fun d => d.lvTest a false)
  let d2 := d1.updAxis a (fun x => { x with doing := 5, next := next, ready := false, target := target })
  if (d2.lvOf a).testing then d2 else (d2.setO (at' Obj.STATE_7200 a) 1).setAmp a Obj.I_HOLD

/-- A move (`next` 1) or homing (2) of axis `a` begins, energising it first where it is released or shorted (R314). -/
def Dev.axisGo (d : Dev) (a next : Nat) (target : Int) : Dev :=
  if d.axisState a = 0 ∨ d.axisState a = 5 then d.energise a next target
  else if next = 1 then d.moveStart a target else d.homeStart a

/-- Axis `a` decelerates to rest (R322). -/
def Dev.axisStop (d : Dev) (a : Nat) : Dev :=
  let x := d.axisOf a
  if x.doing = 5 then (d.updAxis a (fun x => { x with doing := 0, next := 0, ready := false }))
  else if [1, 2, 3, 4, 7].contains x.doing then
    ((d.setO (at' Obj.STATE_7200 a) 3).setAmp a Obj.I_RUN).updAxis a (fun x => { x with doing := 8 })
  else d

/-- MOVE_CTRL 5: the coils of axis `a` are off at once (R314). -/
def Dev.axisRelease (d : Dev) (a : Nat) : Dev :=
  ((d.hbsOff a).when (decide (d.axisState a ≠ 6)) (fun d => d.setO (at' Obj.STATE_7200 a) 0)).updAxis a (fun x => { x with
    p := x.acc, v := 0, a := 0, inc := 0, doing := 0, next := 0, ready := false, stall := 0, amp := 0, integA := 0, integB := 0,
    dutyA := 0, dutyB := 0 })

/-- The end of HOLD_DELAY: STANDSILL 0 turns the half-bridges off, STANDSTILL 1 turns the low sides on (R320). -/
def Dev.holdEnd (d : Dev) (a : Nat) : Dev :=
  if d.axisState a ≠ 1 ∨ (d.axisOf a).doing ≠ 0 ∨ d.n (at' Obj.HOLD_DELAY a) = 65535 then d
  else if d.b (at' Obj.STANDSTILL_7200 a) then
    ((hbsOf a).foldl (fun d n => d.setHb n false true) (d.axisRelease a)).setO (at' Obj.STATE_7200 a) 5
  else d.axisRelease a

/-- HOLD_DELAY_END (R320). -/
def execHoldDelayEnd (a : Fin 4) (s : State) : Host.Outcome State Fault Refusal := s.live (fun d => d.holdEnd a)

/-- ENERGISE_END (R314): 20 ms at I_HOLD are over; the move or homing starts at the next servo period. -/
def execEnergiseEnd (a : Fin 4) (s : State) : Host.Outcome State Fault Refusal :=
  s.live (fun d => d.when ((d.axisOf a).doing == 5 && d.axisState a == 1) (fun d => d.updAxis a (fun x => { x with ready := true })))

/-- STALL_HOLD_END (R318): 50 ms at I_RUN are over. -/
def execStallHoldEnd (a : Fin 4) (s : State) : Host.Outcome State Fault Refusal :=
  s.live (fun d => d.when ((d.axisOf a).doing == 6) (fun d => d.axisHold a))

/-- ACT_HOMED (R319 step 3): AX is set to HOME_POS as a jump. -/
def Dev.axisHomed (d : Dev) (a : Nat) : Dev :=
  if (d.axisOf a).doing ≠ 4 then d
  else
    let h := d.o (at' Obj.HOME_POS a)
    let d1 := (d.setB (at' Obj.HOMED a) true).updAxis a (fun x => { x with
      p := h * ustep, acc := h * ustep, inc := 0, target := h, at_ := d.wall })
    ((d1.sourceUpdate (axTrack a) h 0 true).axisHold a).event 0x9C

/-- ACT_HOMED (R319). -/
def execActHomed (a : Fin 4) (s : State) : Host.Outcome State Fault Refusal := s.live (fun d => d.axisHomed a)

/-! ### Commands of an axis (R314) -/

/-- Whether a domain of the interlocks' list moves no axis now: ACT in Domain-stop or above. -/
def Dev.actStopped (d : Dev) : Bool := decide (3 ≤ d.domainState .act)

/-- The check of MOVE_CTRL 1, 2 and 4 (R314), against the accepted writes. -/
def Dev.moveCheck (d : Dev) (a : Nat) (v : Int) : Nat :=
  let h := d.ahead
  let t := h.o (at' Obj.TARGET_7200 a)
  let target := if v = 2 then (d.axisOf a).target + t else t
  if v < 1 ∨ 5 < v then resRange
  else if v = 3 ∨ v = 5 then 0
  else if h.o (at' Obj.ROLE_7200 a) ≠ 0 ∨ (v ≠ 4 ∧ (h.o (at' Obj.GROUP_7200 a) ≠ 0 ∨ !(d.homed a))) ∨ d.axisState a = 3 ∨
    d.axisState a = 6 ∨ d.actStopped then resState
  else if v ≠ 4 ∧ (target < h.o (at' Obj.POS_MIN a) ∨ h.o (at' Obj.POS_MAX a) < target) then resCombination
  else 0

/-- A write of MOVE_CTRL (R314). -/
def Dev.moveCtrl (d : Dev) (a : Nat) (v : Int) : Dev :=
  let c := d.moveCheck a v
  if c = 0 then (d.deliver (at' Obj.MOVE_CTRL a) v).res 0 else d.res c

/-- MOVE_TO_TARGET (R314). -/
def execMoveToTarget (a : Fin 4) (s : State) : Host.Outcome State Fault Refusal := s.serve (fun d => d.allowed [9] (fun d => d.moveCtrl a 1))

/-- MOVE_BY_TARGET (R314). -/
def execMoveByTarget (a : Fin 4) (s : State) : Host.Outcome State Fault Refusal := s.serve (fun d => d.allowed [9] (fun d => d.moveCtrl a 2))

/-- MOVE_STOP (R322). -/
def execMoveStop (a : Fin 4) (s : State) : Host.Outcome State Fault Refusal := s.serve (fun d => d.moveCtrl a 3)

/-- MOVE_HOME (R319). -/
def execMoveHome (a : Fin 4) (s : State) : Host.Outcome State Fault Refusal := s.serve (fun d => d.allowed [9] (fun d => d.moveCtrl a 4))

/-- MOVE_RELEASE (R314). -/
def execMoveRelease (a : Fin 4) (s : State) : Host.Outcome State Fault Refusal := s.serve (fun d => d.moveCtrl a 5)

/-! ### Coordinated groups (R321) -/

/-- The hidden state of group `w` (0 and 1 for groups 1 and 2). -/
def Dev.groupMove (d : Dev) (w : Nat) : MoveGroup := Tab.get {} d.moves w

/-- The hidden state of group `w` changed. -/
def Dev.updMove (d : Dev) (w : Nat) (f : MoveGroup → MoveGroup) : Dev := { d with moves := Tab.upd {} d.moves w f }

/-- The axes whose GROUP names group `w`. -/
def Dev.membersOf (d : Dev) (w : Nat) : List Nat := [0, 1, 2, 3].filter (fun a => d.n (at' Obj.GROUP_7200 a) == w + 1)

/-- The check of CTRL (R321 step 1). -/
def Dev.groupCheck (d : Dev) (w : Nat) (v : Int) : Nat :=
  let h := d.ahead
  let ms := h.membersOf w
  if v < 1 ∨ 2 < v then resRange
  else if v = 2 then 0
  else if d.startBlocked .act ∨ ms.any (fun a => h.o (at' Obj.ROLE_7200 a) != 0 || !(d.homed a) || [2, 3, 4, 6].contains (d.axisState a) ||
      (d.axisOf a).doing == 5) then resState
  else if ms.any (fun a => decide (h.o (at' Obj.TARGET_7200 a) < h.o (at' Obj.POS_MIN a)) ||
      decide (h.o (at' Obj.POS_MAX a) < h.o (at' Obj.TARGET_7200 a))) then resCombination
  else 0

/-- A write of CTRL (R321). -/
def Dev.groupCtrl (d : Dev) (w : Nat) (v : Int) : Dev :=
  let c := d.groupCheck w v
  if c = 0 then (d.deliver (at' Obj.GROUP_CTRL w) v).res 0 else d.res c

/-- GROUP_MOVE_START (R321). -/
def execGroupMoveStart (w : Fin 2) (s : State) : Host.Outcome State Fault Refusal := s.serve (fun d => d.allowed [9] (fun d => d.groupCtrl w 1))

/-- GROUP_MOVE_STOP (R321). -/
def execGroupMoveStop (w : Fin 2) (s : State) : Host.Outcome State Fault Refusal := s.serve (fun d => d.groupCtrl w 2)

/-- A limit of the leader's profile: the minimum over the members that have one of limit / s_i (R321 step 2). -/
def leaderLimit (dL : Nat) (xs : List (Nat × Nat)) : Nat :=
  let ys := (xs.filter (fun x => x.1 != 0 && x.2 != 0)).map (fun x => x.2 * dL / x.1)
  match ys with
  | [] => 0
  | y :: t => t.foldl min y

/-- CTRL 1 applied: each member's target is taken, and members that are released are energised first (R314, R321). -/
def Dev.groupStart (d : Dev) (w : Nat) : Dev :=
  let ms := d.membersOf w
  let d1 := ms.foldl (fun d a =>
    let t := d.o (at' Obj.TARGET_7200 a)
    let d1 := if d.axisState a = 0 ∨ d.axisState a = 5 then d.energise a 3 t else d.updAxis a (fun x => { x with target := t, doing := 5, next := 3, ready := true })
    d1.updAxis a (fun x => { x with from_ := x.p, dist := t * ustep - x.p })) d
  let dist (a : Nat) : Nat := (d1.axisOf a).dist.natAbs
  let lead := ms.foldl (fun (b : Option Nat) a => match b with
    | none => some a
    | some l => if dist l < dist a then some a else some l) none
  match lead with
  | none => d1
  | some l =>
    let lim (k : Nat) : Nat := leaderLimit (dist l) (ms.map (fun a => (dist a, d1.n (at' k a))))
    ((d1.updMove w (fun _ => { members := ms, vMax := lim Obj.V_MAX, accel := lim Obj.ACCEL_7200, decel := lim Obj.DECEL_7200,
                               jerk := lim Obj.JERK, from_ := (d1.axisOf l).p, p := (d1.axisOf l).p, dist := (d1.axisOf l).dist })).setO
      (at' Obj.GROUP_STATE w) 1).setO (at' Obj.GROUP_LEADER w) (l : Nat)

/-- The end of a group move: the members hold (R315, R321). -/
def Dev.groupEnd (d : Dev) (w : Nat) (reached : Bool) : Dev :=
  let d1 := (d.groupMove w).members.foldl (fun d a =>
    if (d.axisOf a).doing = 7 ∨ ((d.axisOf a).doing = 5 ∧ (d.axisOf a).next = 3) then
      ((d.updAxis a (fun x => { x with p := if reached then x.target * ustep else x.p, target := if reached then x.target else x.p / ustep })).axisHold
        a).when reached (fun d => d.event 0x9B)
    else d) d
  ((d1.updMove w (fun _ => {})).setO (at' Obj.GROUP_STATE w) 0).setO (at' Obj.GROUP_LEADER w) 0xFF

/-- One servo period of group `w`: the leader's profile, and each member on its path (R321 step 3, R322). -/
def Dev.groupServo (d : Dev) (w : Nat) : Dev :=
  let g := d.groupMove w
  let st := d.n (at' Obj.GROUP_STATE w)
  if st = 0 then d
  else if !g.started then
    if st = 2 then d.groupEnd w false
    else if g.members.any (fun a => (d.axisOf a).doing != 5) then d.groupEnd w false
    else if g.members.all (fun a => (d.axisOf a).ready) then
      g.members.foldl (fun d a => ((d.setO (at' Obj.STATE_7200 a) 2).setAmp a Obj.I_RUN).updAxis a (fun x => { x with doing := 7, ready := false }))
        (d.updMove w (fun g => { g with started := true }))
    else d
  else
    let l : Limits := { vMax := g.vMax, accel := g.accel, decel := g.decel, jerk := g.jerk }
    let m : Motion := { p := g.p, v := g.v, a := g.a }
    let (n, done) := if st = 2 then stopProfile l m else profile l m ((g.from_ + g.dist) / ustep)
    let d1 := (d.updMove w (fun g => { g with p := n.p, v := n.v, a := n.a }))
    let d2 := g.members.foldl (fun d a => d.when ((d.axisOf a).doing == 7) (fun d => (d.updAxis a (fun x => { x with
      p := if g.dist = 0 then x.from_ else x.from_ + x.dist * (n.p - g.from_) / g.dist })).setO (at' Obj.STATE_7200 a)
        (if st = 2 then 3 else 2))) d1
    if done then d2.groupEnd w (decide (st ≠ 2)) else d2

/-- The group in which axis `a` moves comes to rest (R321). -/
def Dev.stopGroupOf (d : Dev) (a : Nat) : Dev :=
  [0, 1].foldl (fun d w => d.when ((d.groupMove w).members.contains a && d.o (at' Obj.GROUP_STATE w) == 1)
    (fun d => d.setO (at' Obj.GROUP_STATE w) 2)) d

/-- A stop of axis `a`: its group's, where it moves in one (R321, R322). -/
def Dev.stopAxis (d : Dev) (a : Nat) : Dev := if (d.axisOf a).doing = 7 then d.stopGroupOf a else d.axisStop a

/-! ### Roles and the interlocks' window (R323 to R329) -/

/-- The hidden state of the interlocks changed. -/
def Dev.updShift (d : Dev) (f : Shift → Shift) : Dev := { d with shift := f d.shift }

/-- The axis with role `r`. -/
def Dev.roleAxis (d : Dev) (r : Nat) : Option Nat := [0, 1, 2, 3].find? (fun a => d.n (at' Obj.ROLE_7200 a) == r)

/-- Whether the axis of role `r`, where there is one, is homed. -/
def Dev.roleHomed (d : Dev) (r : Nat) : Bool := (d.roleAxis r).all (fun a => d.homed a)

/-- A move or homing of the axis of role `r`. -/
def Dev.roleGo (d : Dev) (r next : Nat) (target : Int) : Dev :=
  match d.roleAxis r with
  | some a => d.axisGo a next target
  | none => d

/-- Whether the axis of role `r` stands still. -/
def Dev.roleRests (d : Dev) (r : Nat) : Bool := (d.roleAxis r).all (fun a => (d.axisOf a).doing == 0)

/-- Whether the axis of role `r` stands at `x`. -/
def Dev.roleAt (d : Dev) (r : Nat) (x : Int) : Bool :=
  (d.roleAxis r).all (fun a => (d.axisOf a).doing == 0 && (d.axisOf a).p == x * ustep)

/-- Whether machine `m` is in SHIFT_DOMAINS. -/
def Dev.shiftsDomain (d : Dev) (m : Mach) : Bool := bitOf (d.o Obj.SHIFT_DOMAINS) (mnum m)

/-- Whether a re-homing is required (R329). -/
def Dev.rehomeNeeded (d : Dev) : Bool := !(d.roleHomed 1) || !(d.roleHomed 2) || d.o Obj.GEAR_NOW == 0xFF

/-- Whether the window is imposed: by an operation, by the park lock between the start of an engagement and the end of a release,
or while the park-lock axis is not homed (R324, R326, R329). -/
def Dev.windowOn (d : Dev) : Bool := d.shift.imposed || d.shift.parkHold || !(d.roleHomed 3)

/-- The window of a machine set; outside SHIFT_DOMAINS there is none. -/
def Dev.setWindow (d : Dev) (w : Option Nat) : Dev :=
  [Mach.A, .B].foldl (fun d m => d.updTrac m (fun t => { t with window := if d.shiftsDomain m then w else none })) d

/-- Whether the window binds in some domain (R137, LIMIT_FLAGS bit 3). -/
def Dev.windowBinds (d : Dev) : Bool := [Mach.A, .B].any (fun m => d.shiftsDomain m && bitOf (d.o (tk m Obj.LIMIT_FLAGS)) 3)

/-- An operation that waits for the window begins (R324, R326, R329). -/
def Dev.opStart (d : Dev) (op : Nat) : Dev :=
  d.updShift (fun s => { s with
    op := op, step := 1, imposed := true, confirmed := false, inA := 0, inB := 0, outA := 0, outB := 0, retries := 0,
    cancelled := false, widening := false, turnBack := false })

/-- The window is to be confirmed again. -/
def Dev.reconfirm (d : Dev) : Dev := d.updShift (fun s => { s with confirmed := false, inA := 0, inB := 0, outA := 0, outB := 0 })

/-- SHIFT_STATE (R323): 7 while a re-homing is required and none runs. -/
def Dev.showShift (d : Dev) : Dev :=
  let s := d.shift
  d.setO Obj.SHIFT_STATE (if s.op = 4 then 8
    else if s.op = 1 then (if s.step = 7 then 5 else if s.step = 9 then d.o Obj.SHIFT_STATE else (s.step : Int))
    else if s.widening then 6
    else if d.rehomeNeeded then 7 else 0)

/-- The operation has ended and its window is lifted. -/
def Dev.opEnd (d : Dev) : Dev := d.updShift (fun s => { s with op := 0, step := 0, imposed := false, confirmed := false, cancelled := false })

/-- Step 6 of R324: the window widens from SHIFT_TQ. -/
def Dev.widen (d : Dev) : Dev :=
  d.opEnd.updShift (fun s => { s with widening := true, width := 20 * d.n Obj.SHIFT_TQ })

/-- A shift to `gear` starts (R324). -/
def Dev.shiftStart (d : Dev) (gear : Nat) : Dev :=
  ((d.opStart 1).updShift (fun s => { s with gear := gear })).event 0x9F

/-- |TORQUE_EST| of machine `m` within SHIFT_TQ; pulses off counts as within (R324). -/
def Dev.withinTq (d : Dev) (m : Mach) : Bool :=
  !(d.shiftsDomain m) || d.o (tk m Obj.BRIDGE_STATE) == 0 || decide (((d.o (tk m Obj.TORQUE_EST)).natAbs : Int) ≤ d.o Obj.SHIFT_TQ)

/-- Whether machine `m` leaves the window by entering ASC (R328). -/
def Dev.ascOut (d : Dev) (m : Mach) : Bool := d.shiftsDomain m && d.inAsc m

/-- Whether AX of the park-lock axis has passed PARK_COMMIT towards the engaged position (R326). -/
def Dev.parkCommitted (d : Dev) : Bool :=
  (d.roleAxis 3).any (fun a =>
    if d.o Obj.PARK_RELEASED ≤ d.o Obj.PARK_ENGAGED then decide (d.o Obj.PARK_COMMIT < (d.axisOf a).acc / ustep)
    else decide ((d.axisOf a).acc / ustep < d.o Obj.PARK_COMMIT))

/-- Whether a movement is under way that a cancel stops (R328). -/
def Dev.cancellable (d : Dev) : Bool :=
  let s := d.shift
  match s.op with
  | 1 => [2, 3, 4, 5, 7].contains s.step && !(d.roleRests 1 && d.roleRests 2)
  | 2 | 3 => s.step == 2 && !(d.roleRests 3) && !(d.parkCommitted)
  | 4 => decide (2 ≤ s.step) && decide (s.step ≤ 7) && !(d.roleRests 1 && d.roleRests 2 && d.roleRests 3)
  | _ => false

/-- The interlocks' part of a ledger period: the window is imposed, confirmed, watched, and widened (R324, R328). -/
def Dev.shiftLedger (d : Dev) : Dev :=
  let s := d.shift
  let n := d.n Obj.SHIFT_CONFIRM
  if s.imposed then
    let wA := d.withinTq .A
    let wB := d.withinTq .B
    let had := (d.tracOf .A).window.isSome || (d.tracOf .B).window.isSome || d.o Obj.SHIFT_DOMAINS == 0
    let inA := if wA && had then s.inA + 1 else 0
    let inB := if wB && had then s.inB + 1 else 0
    let outA := if wA then 0 else s.outA + 1
    let outB := if wB then 0 else s.outB + 1
    let out := s.confirmed && (decide (n ≤ outA) || decide (n ≤ outB) || d.ascOut .A || d.ascOut .B)
    (d.updShift (fun s => { s with
      inA := inA, inB := inB, outA := outA, outB := outB, confirmed := s.confirmed || (decide (n ≤ inA) && decide (n ≤ inB)),
      cancelled := s.cancelled || (out && d.cancellable) })).setWindow (some (d.n Obj.SHIFT_TQ))
  else if d.windowOn then (d.updShift (fun s => { s with widening := false })).setWindow (some (d.n Obj.SHIFT_TQ)) |>.showShift
  else if s.widening then
    let w := s.width + d.n Obj.SHIFT_TQ_RAMP
    if s.width = 20 * d.n Obj.SHIFT_TQ ∨ d.windowBinds then (d.updShift (fun s => { s with width := w })).setWindow (some (w / 20))
    else ((d.updShift (fun s => { s with widening := false, width := 0 })).setWindow none).showShift
  else d.setWindow none

/-- The cap of R329 on the grants of each domain in SHIFT_DOMAINS. -/
def Dev.creepCap (d : Dev) : Dev :=
  if !(d.rehomeNeeded) then d
  else [Mach.A, .B].foldl (fun d m =>
    let cap (k : Nat) (d : Dev) : Dev := d.setO (el k (mnum m + 1)) (min (d.o (el k (mnum m + 1))) (d.o Obj.CREEP_P))
    d.when (d.shiftsDomain m) (fun d => cap Obj.GRANT_FEED (cap Obj.GRANT_DRAW d))) d

/-! ### Commands of the interlocks (R324 to R329) -/

/-- A write of GEAR_SET (R324): during a shift the value is kept for later and the shift is refused; it is refused during a
homing, with GEAR_NOW unknown, and with a domain of SHIFT_DOMAINS in ASC. -/
def Dev.gearSet (d : Dev) (v : Int) : Dev :=
  let c := d.valueCheck Obj.GEAR_SET v
  if c ≠ 0 then d.res c
  else if d.shift.op = 1 then (d.deliver Obj.GEAR_SET v).res resState
  else if d.shift.op ≠ 0 ∨ d.o Obj.GEAR_NOW = 0xFF ∨ d.ascOut .A ∨ d.ascOut .B ∨ d.startBlocked .act then d.res resState
  else (d.deliver Obj.GEAR_SET v).res 0

/-- GEAR_SET_WRITE (R324). -/
def execGearSetWrite (v : Int) (s : State) : Host.Outcome State Fault Refusal := s.serve (fun d => d.gearSet v)

/-- Whether the machine is slow enough for the park lock: GND valid and its rate below 1,389 (R326). -/
def Dev.parkSlow (d : Dev) : Bool := d.b (TrackId.gnd.validKey) && decide ((d.o TrackId.gnd.rateKey).natAbs < 1389)

/-- The report of a refused or withdrawn park lock (R326). -/
def Dev.parkRefused (d : Dev) : Dev := (d.event 0xA2).raise 0x70C9 false { addr := (d.roleAxis 3).getD 0, ini := 0x23, acc := 7 }

/-- A write of PARK_SET (R326). -/
def Dev.parkSet (d : Dev) (v : Int) : Dev :=
  let c := d.valueCheck Obj.PARK_SET v
  if c ≠ 0 then d.res c
  else if v = 1 ∧ !(d.parkSlow) then d.parkRefused.res resState
  else if d.shift.op ≠ 0 ∨ (d.roleAxis 3).isNone ∨ !(d.roleHomed 3) ∨ d.startBlocked .act then d.res resState
  else (d.deliver Obj.PARK_SET v).res 0

/-- PARK_SET_WRITE (R326). -/
def execParkSetWrite (v : Int) (s : State) : Host.Outcome State Fault Refusal := s.serve (fun d => d.parkSet v)

/-- A write of DIFF_SET (R327). -/
def Dev.diffSet (d : Dev) (v : Int) : Dev :=
  let c := d.valueCheck Obj.DIFF_SET v
  if c ≠ 0 then d.res c
  else if (d.roleAxis 4).isNone ∨ !(d.roleHomed 4) ∨ d.startBlocked .act then d.res resState
  else (d.deliver Obj.DIFF_SET v).res 0

/-- DIFF_SET_WRITE (R327). -/
def execDiffSetWrite (v : Int) (s : State) : Host.Outcome State Fault Refusal := s.serve (fun d => d.diffSet v)

/-- A write of REHOME (R329). -/
def Dev.rehome (d : Dev) (v : Int) : Dev :=
  if v ≠ 1 then d.res resRange
  else if d.shift.op ≠ 0 ∨ d.startBlocked .act then d.res resState
  else (d.deliver Obj.REHOME v).res 0

/-- REHOME_WRITE (R329). -/
def execRehomeWrite (v : Int) (s : State) : Host.Outcome State Fault Refusal := s.serve (fun d => d.rehome v)

/-- AUTO_HOME_START (R329): the first start of ACT after a reset, with AUTO_HOME 1. -/
def execAutoHomeStart (s : State) : Host.Outcome State Fault Refusal :=
  s.live (fun d => d.when (!d.shift.autoDone && d.b Obj.AUTO_HOME && d.shift.op == 0 && !(d.startBlocked .act))
    (fun d => ((d.opStart 4).updShift (fun s => { s with autoDone := true })).showShift))

/-- ACT_SHIFT_REFUSED (R324): no confirmation within SHIFT_WAIT. -/
def Dev.shiftRefused (d : Dev) : Dev :=
  if d.shift.op = 0 ∨ d.shift.step ≠ 1 ∨ d.shift.confirmed then d
  else if d.shift.op = 2 then (d.opEnd.updShift (fun s => { s with parkHold := false })).parkRefused.showShift
  else ((d.opEnd.event 0xA1).raise 0x70C9 false { addr := (d.roleAxis 2).getD 0, ini := 0x23, acc := 7 }).showShift

/-- ACT_SHIFT_REFUSED (R324). -/
def execActShiftRefused (s : State) : Host.Outcome State Fault Refusal := s.live (fun d => d.shiftRefused)

/-- RETRY_DELAY_END (R325): the retry wait is over, its throttling pause included (R542). -/
def execRetryDelayEnd (s : State) : Host.Outcome State Fault Refusal :=
  s.live (fun d => d.when (d.shift.op == 1 && d.shift.step == 5 && !(d.pauses.contains 14)) (fun d => d.updShift (fun s => { s with step := 7 })))

/-! ### The interlocks at a servo period (R324 to R329) -/

/-- A blocked engagement: the engage axis returns to neutral, and after the last retry the shift ends there (R325). -/
def Dev.engageBlocked (d : Dev) : Dev :=
  let d1 := (d.event 0xA4).roleGo 2 1 (d.o Obj.ENG_NEUTRAL)
  if d1.shift.retries < d1.n Obj.SHIFT_RETRIES then
    ((d1.updShift (fun s => { s with step := 5, retries := s.retries + 1 })).showShift).pauseStart 14 Obj.PAUSE_RETRY_TB2
  else ((d1.setO Obj.GEAR_NOW 0).widen.raise 0x72CA false { addr := (d.roleAxis 2).getD 0, ini := 0x23, acc := 7 }).showShift

/-- The shift at a servo period (R324, R325). -/
def Dev.shiftServo (d : Dev) : Dev :=
  let s := d.shift
  let g := s.gear
  if decide (2 ≤ s.step) && (!(d.roleHomed 1) || !(d.roleHomed 2) ||
      ([2, 3].contains s.step && [1, 2].any (fun r => (d.roleAxis r).any (fun a => (d.axisOf a).doing == 6)))) then
    ((d.setO Obj.GEAR_NOW 0xFF).opEnd).showShift
  else match s.step with
    | 1 => d.when s.confirmed (fun d => ((d.roleGo 2 1 (d.o Obj.ENG_NEUTRAL)).updShift (fun s => { s with step := 2 })).showShift)
    | 2 => d.when (d.roleAt 2 (d.o Obj.ENG_NEUTRAL)) (fun d =>
        (((d.setO Obj.GEAR_NOW 0).roleGo 1 1 (if g = 0 then d.o Obj.SEL_NEUTRAL else d.o (el Obj.SEL_POS g))).updShift
          (fun s => { s with step := 3 })).showShift)
    | 3 => d.when (d.roleAt 1 (if g = 0 then d.o Obj.SEL_NEUTRAL else d.o (el Obj.SEL_POS g))) (fun d =>
        if g = 0 then (d.widen.event 0xA0).showShift
        else ((d.roleGo 2 1 (d.o (el Obj.ENG_POS g))).updShift (fun s => { s with step := 4 })).showShift)
    | 4 => d.when (d.roleAt 2 (d.o (el Obj.ENG_POS g))) (fun d => ((d.setO Obj.GEAR_NOW g).widen.event 0xA0).showShift)
    | 7 => d.when (d.roleAt 2 (d.o Obj.ENG_NEUTRAL)) (fun d =>
        ((d.roleGo 2 1 (d.o (el Obj.ENG_POS g))).updShift (fun s => { s with step := 4 })).showShift)
    | _ => d

/-- The park lock at a servo period (R326). -/
def Dev.parkServo (d : Dev) : Dev :=
  let s := d.shift
  let goal := if s.op = 2 ∧ !s.turnBack then d.o Obj.PARK_ENGAGED else d.o Obj.PARK_RELEASED
  match s.step with
  | 1 => d.when s.confirmed (fun d => ((d.roleGo 3 1 goal).setO Obj.PARK_NOW 2).updShift (fun s => { s with step := 2 }))
  | 2 =>
    if s.op = 2 ∧ !s.turnBack ∧ !(d.parkCommitted) ∧ !(d.parkSlow) then
      ((d.roleGo 3 1 (d.o Obj.PARK_RELEASED)).updShift (fun s => { s with turnBack := true })).parkRefused
    else if d.roleAt 3 goal then
      let engaged := s.op == 2 && !s.turnBack
      ((d.setB Obj.PARK_NOW engaged).opEnd).updShift (fun s => { s with parkHold := engaged, turnBack := false })
    else d.when (!(d.roleHomed 3)) (fun d => (d.setO Obj.PARK_NOW 0xFF).opEnd)
  | _ => d

/-- The re-homing at a servo period (R329). -/
def Dev.rehomeServo (d : Dev) : Dev :=
  let s := d.shift
  let toStep (n : Nat) (d : Dev) : Dev := d.updShift (fun s => { s with step := n })
  let home (r n : Nat) (d : Dev) : Dev := toStep n (d.roleGo r 2 0)
  let failed (r : Nat) : Bool := (d.roleAxis r).any (fun a => !(d.homed a) && (d.axisOf a).doing == 0)
  let stand (r n : Nat) (x : Int) : Dev :=
    if failed r then d.opEnd.showShift else d.when (d.roleRests r) (fun d => toStep n (d.roleGo r 1 x))
  match s.step with
  | 1 => d.when s.confirmed (home 2 2)
  | 2 => stand 2 3 (d.o Obj.ENG_NEUTRAL)
  | 3 => if failed 2 then d.opEnd.showShift else d.when (d.roleAt 2 (d.o Obj.ENG_NEUTRAL)) (home 1 4)
  | 4 => stand 1 5 (d.o Obj.SEL_NEUTRAL)
  | 5 => if failed 1 then d.opEnd.showShift
         else d.when (d.roleAt 1 (d.o Obj.SEL_NEUTRAL)) (fun d => (home 3 6 (d.setO Obj.GEAR_NOW 0)).clearFault 0x72CB)
  | 6 => stand 3 7 (d.o Obj.PARK_ENGAGED)
  | 7 => if failed 3 then d.opEnd.showShift
         else d.when (d.roleAt 3 (d.o Obj.PARK_ENGAGED)) (fun d => ((d.setO Obj.PARK_NOW 1).widen).showShift)
  | _ => d

/-- An interlock cancel: the moving roled axes decelerate, and the operation ends once they rest (R328). -/
def Dev.cancelServo (d : Dev) : Dev :=
  let moving := [1, 2, 3].filterMap (fun r => (d.roleAxis r).filter (fun a => (d.axisOf a).doing != 0))
  let d1 := (moving.foldl (fun d a => d.stopAxis a) d).event 0xA5
  (d1.updShift (fun s => { s with cancelled := false, step := 9 })).raise 0x72CC false { addr := moving.headD 0, ini := 0x23, acc := 7 }

/-- The end of an operation that was cancelled or stopped, once its axes rest (R328). -/
def Dev.cancelEnd (d : Dev) : Dev :=
  if !(d.roleRests 1 && d.roleRests 2 && d.roleRests 3) then d
  else match d.shift.op with
    | 1 => ((d.setO Obj.GEAR_NOW (if d.roleAt 2 (d.o Obj.ENG_NEUTRAL) then 0 else 0xFF)).opEnd).showShift
    | 2 | 3 => (d.updShift (fun s => { s with op := 3, step := 1 })).reconfirm
    | _ => d.opEnd.showShift

/-- The interlocks at a servo period: a cancel, the operation in progress, the re-homing notice, and a gear kept for later
(R324 to R329). -/
def Dev.interlockServo (d : Dev) : Dev :=
  let d1 :=
    if d.shift.cancelled then d.cancelServo
    else if d.shift.op ≠ 0 ∧ d.actStopped ∧ d.shift.step ≠ 9 then d.updShift (fun s => { s with step := 9 })
    else if d.shift.step = 9 then d.cancelEnd
    else match d.shift.op with
      | 1 => d.shiftServo
      | 2 | 3 => d.parkServo
      | 4 => d.rehomeServo
      | _ => d
  let need := d1.rehomeNeeded
  let d2 := if need && !d1.shift.shown && d1.shift.op != 4 then
      (((d1.updShift (fun s => { s with shown := true })).event 0xA3).raise 0x72CB true
        { addr := (d1.roleAxis 2).getD 0, ini := 0x23, acc := 7 }).showShift
    else if !need && d1.shift.shown then (d1.updShift (fun s => { s with shown := false })).clearFault 0x72CB else d1
  match d2.shift.kept with
  | some g =>
    if d2.shift.op = 0 ∧ !d2.shift.widening then
      let d3 := d2.updShift (fun s => { s with kept := none })
      d3.when (decide (d3.n Obj.GEAR_NOW ≠ g) && !need && !(d3.ascOut .A) && !(d3.ascOut .B)) (fun d => (d.shiftStart g).showShift)
    else d2
  | none => d2

/-! ### Stall and homing (R317 to R319) -/

/-- The rate of the accumulator, microsteps/s (R316). -/
def Dev.axisRate (d : Dev) (a : Nat) : Int := (d.axisOf a).inc * 50000000 / ustep

/-- A stall of axis `a` in a move: the accumulator stops; a load angle of 256 or more loses steps (R318); the engage axis while
engaging is blocked (R325). -/
def Dev.axisStall (d : Dev) (a : Nat) (la : Int) : Dev :=
  let x := d.axisOf a
  let lost := decide (256 ≤ la)
  let engaging := d.shift.op == 1 && d.shift.step == 4 && d.roleAxis 2 == some a
  let d0 := d.when (x.doing == 7) (fun d => d.stopGroupOf a)
  let d1 := (((d0.addSat (at' Obj.STALLS a)).setO (at' Obj.STATE_7200 a) 1).setAmp a Obj.I_RUN).updAxis a (fun x => { x with
    p := x.acc, v := 0, a := 0, inc := 0, doing := 6, stall := 0, target := x.acc / ustep })
  let d2 := d1.when (!engaging || lost) (fun d => d.event 0x9D)
  let d3 := if lost then (((d2.setB (at' Obj.HOMED a) false).loseTrack (axTrack a)).raise 0x72C8 false { addr := a, ini := 0x23, acc := 5 })
    else d2
  d3.when (engaging && !lost) (fun d => d.engageBlocked)

/-- Homing fails (R319). -/
def Dev.homeFail (d : Dev) (a : Nat) : Dev := ((d.axisStop a).event 0x9E).raise 0x72C7 false { addr := a, ini := 0x23, acc := 5 }

/-- The stall that ends the approach to the stop: the phase goes back to a full step clear of it (R319 step 2). -/
def Dev.homeStall (d : Dev) (a : Nat) (la : Int) : Dev :=
  d.updAxis a (fun x =>
    let p := x.acc / ustep
    let set := if d.o (at' Obj.HOME_DIR a) = 1 then 256 * ((p - la) / 256) else -(256 * ((-(p + la)) / 256))
    { x with p := x.acc, v := 0, a := 0, doing := 3, target := set, stall := 0 })

/-- LOAD_ANGLE and the stall tests of axis `a` (R317 to R319). -/
def Dev.loadAngle (d : Dev) (a : Nat) (la : Int) : Dev :=
  let valid := decide (25600 ≤ (d.axisRate a).natAbs)
  let la' := if valid then clampI (-32767) 32767 la else -32768
  let d1 := d.setO (at' Obj.LOAD_ANGLE a) la'
  let x := d1.axisOf a
  let tests := x.doing == 1 || x.doing == 7 || (x.doing == 2 && x.atSpeed)
  let tooHigh := valid && decide (d1.o (at' Obj.STALL_LA a) ≤ la')
  let n := if tests && tooHigh then x.stall + 1 else 0
  let d2 := (d1.updAxis a (fun x => { x with stall := n })).when (!valid && x.doing == 1 && d1.o (at' Obj.CURRENT_MODE a) == 1)
    (fun d => d.setAmp a Obj.I_RUN)
  if tests && valid && (decide (256 ≤ la') || decide (d2.n (at' Obj.STALL_COUNT a) ≤ n)) then
    if x.doing ≠ 2 then d2.axisStall a la'
    else if 256 ≤ la' then d2.homeFail a else d2.homeStall a la'
  else if x.doing = 2 ∧ 256 ≤ la' then d2.homeFail a
  else d2

/-! ### The servo period (R313 to R322) -/

/-- The microsteps per full step for a rate and its thresholds in one unit, stepping back to the finer value at 0.9 times a threshold (R313). -/
def resolution (now : Nat) (rate th1 th2 th3 th4 : Nat) : Nat :=
  let lim (th : Nat) (on : Bool) : Bool := if on then decide (9 * th < 10 * rate) else decide (th ≤ rate)
  if lim th4 (decide (now ≤ 1)) then 1 else if lim th3 (decide (now ≤ 4)) then 4
  else if lim th2 (decide (now ≤ 16)) then 16 else if lim th1 (decide (now ≤ 64)) then 64 else 256

/-- RES_NOW of axis `a` after its accumulator has moved from `before` to `after` microsteps (R313). -/
def Dev.resNow (d : Dev) (a : Nat) (before after : Int) : Dev :=
  let o (i : Nat) : Nat := d.n (at' Obj.RES_TH1 a + i) * 256 * 4294967296
  let want := if d.o (at' Obj.RES_MODE a) = 0 then 256
    else resolution (d.n (at' Obj.RES_NOW a)) ((d.axisOf a).inc.natAbs * 50000000) (o 0) (o 1) (o 2) (o 3)
  let d1 := d.when (decide (before / 256 ≠ after / 256) && (d.axisOf a).res != d.n (at' Obj.RES_NOW a))
    (fun d => d.setO (at' Obj.RES_NOW a) ((d.axisOf a).res : Nat))
  d1.updAxis a (fun x => { x with res := want })

/-- The set-point of axis `a` for the coming period (R315, R319, R322). -/
def Dev.axisProfile (d : Dev) (a : Nat) : Dev :=
  let x := d.axisOf a
  let l := d.axisLimits a
  let m : Motion := { p := x.p, v := x.v, a := x.a }
  let put (d : Dev) (n : Motion) : Dev := d.updAxis a (fun x => { x with p := n.p, v := n.v, a := n.a })
  match x.doing with
  | 1 =>
    let (n, done) := profile l m x.target
    (put d n).when done (fun d => (d.axisHold a).event 0x9B)
  | 2 =>
    let dir : Int := if d.o (at' Obj.HOME_DIR a) = 1 then 1 else -1
    let goal := dir * d.o (at' Obj.HOME_SPEED a) * ustep
    let n := towards { l with jerk := 0 } m goal l.accel
    let d1 := (put d n).updAxis a (fun x => { x with atSpeed := decide (n.v = goal) })
    d1.when (decide (d.o (at' Obj.HOME_TRAVEL a) * ustep < ((n.p - x.homeFrom).natAbs : Int))) (fun d => d.homeFail a)
  | 3 =>
    let left := x.target * ustep - x.p
    let step := d.o (at' Obj.HOME_SPEED a) * ustep / 4000
    if (left.natAbs : Int) ≤ step then d.updAxis a (fun x => { x with p := x.target * ustep, v := 0, a := 0, doing := 4 })
    else d.updAxis a (fun x => { x with p := if 0 ≤ left then x.p + step else x.p - step })
  | 5 =>
    if (d.lvOf a).testing then d
    else if d.axisState a ≠ 1 then
      if (d.lvOf a).failed then d.updAxis a (fun x => { x with doing := 0, next := 0 })
      else (d.setO (at' Obj.STATE_7200 a) 1).setAmp a Obj.I_HOLD
    else if x.ready ∧ x.next = 1 then
      let d1 := d.moveStart a x.target
      let (n, done) := profile l m x.target
      (put d1 n).when done (fun d => (d.axisHold a).event 0x9B)
    else if x.ready ∧ x.next = 2 then d.homeStart a
    else d
  | 8 =>
    let (n, done) := stopProfile l m
    (put d n).when done (fun d => (d.axisHold a).updAxis a (fun x => { x with target := x.p / ustep }))
  | _ => d

/-- The accumulator of axis `a` takes the last set-point, and its increment leads to the new one; AX follows (R316). -/
def Dev.axisAccumulate (d : Dev) (a : Nat) (old : Int) : Dev :=
  let x := d.axisOf a
  let before := x.acc / ustep
  let inc := truncDiv (x.p - old) 12500
  let d1 := d.updAxis a (fun x => { x with acc := old, inc := inc, at_ := d.wall })
  let d2 := if d1.homed a then d1.sourceUpdate (axTrack a) (old / ustep) (inc * 50000000 / ustep) false
    else d1.setO (axTrack a).valueKey ((axTrack a).wrap (old / ustep))
  d2.resNow a before (old / ustep)

/-- Whether the fault that stopped axis `a` has ended (R322). -/
def Dev.axisFree (d : Dev) (a : Nat) : Bool :=
  !(d.ocLatched a) && (d.lvOf a).uv == 0 && !(d.faultOn 0x74C3) && !(d.faultOn 0x74C4)

/-- The servo period of axis `a`, with its measured load angle (R313 to R322). -/
def Dev.axisServo (d : Dev) (a : Nat) (la : Int) : Dev :=
  let d0 := if d.axisState a = 6 then d.when (d.axisFree a) (fun d => d.setO (at' Obj.STATE_7200 a) 0) else d
  let old := (d0.axisOf a).p
  let d1 := ((d0.updAxis a (fun x => { x with acc := old })).loadAngle a la).axisProfile a
  d1.axisAccumulate a old

/-- The objects MS3 applies at a servo period (R41). -/
def actOwns (k : Nat) : Bool := decide (0x70 ≤ keyIdx k / 256) && decide (keyIdx k / 256 < 0x80)

/-- What a delivered write of ACT starts, once all of the period are applied (R41, R601). -/
def Dev.actWrite (d : Dev) (w : PWrite) : Dev :=
  let i := keyIdx w.key
  let s := keySub w.key
  if 0x7100 ≤ i ∧ i ≤ 0x7103 ∧ s = 1 then d.bldcRunApplied (i - 0x7100)
  else if w.key = Obj.DIAG_REQUEST then
    (List.range 8).foldl (fun d k => d.when (bitOf w.val k) (fun d => d.lvTest k false)) (d.setO w.key 0)
  else if 0x7200 ≤ i ∧ i ≤ 0x7203 ∧ s = 0x16 then
    let a := i - 0x7200
    let d1 := d.setO w.key 0
    let t := d1.o (at' Obj.TARGET_7200 a)
    match w.val with
    | 1 => d1.axisGo a 1 t
    | 2 => d1.axisGo a 1 ((d1.axisOf a).target + t)
    | 3 => d1.stopAxis a
    | 4 => d1.axisGo a 2 0
    | _ => (d1.stopGroupOf a).axisRelease a
  else if (i = 0x7401 ∨ i = 0x7402) ∧ s = 1 then
    let d1 := d.setO w.key 0
    if w.val = 1 then d1.groupStart (i - 0x7401) else d1.when (d1.o (at' Obj.GROUP_STATE (i - 0x7401)) == 1) (fun d => d.setO (at' Obj.GROUP_STATE (i - 0x7401)) 2)
  else if w.key = Obj.GEAR_SET then
    if d.shift.op = 1 then d.updShift (fun s => { s with kept := some w.val.toNat })
    else if d.shift.op = 0 ∧ d.o Obj.GEAR_NOW ≠ w.val ∧ d.o Obj.GEAR_NOW ≠ 0xFF then (d.shiftStart w.val.toNat).showShift else d
  else if w.key = Obj.PARK_SET then
    if d.shift.op ≠ 0 then d
    else if w.val = 1 then (d.opStart 2).updShift (fun s => { s with parkHold := true }) else d.opStart 3
  else if w.key = Obj.DIFF_SET then d.roleGo 4 1 (if w.val = 1 then d.o Obj.DIFF_ENGAGED else d.o Obj.DIFF_RELEASED)
  else if w.key = Obj.REHOME then (d.setO w.key 0).when (d.shift.op == 0) (fun d => (d.opStart 4).showShift)
  else d

/-- The delivered writes of a servo period: values first, then what they start, in order (R41, R42, R601). -/
def Dev.actWrites (d : Dev) : Dev :=
  let mine := d.writes.filter (fun w => actOwns w.key)
  mine.foldl (fun d w => d.actWrite w) (d.applyWrites actOwns)

/-- SERVO_PERIOD (R315): 250 µs of MS3, with the measured load angles of the four axes. -/
def Dev.servo (d : Dev) (la : List Int) : Dev :=
  let d1 := d.actWrites
  let d2 := [0, 1, 2, 3].foldl (fun d g => d.bldcServo g) d1
  let d3 := if d2.actStopped then [0, 1, 2, 3].foldl (fun d a => d.stopAxis a) d2 else d2
  let d4 := d3.interlockServo
  let p0 := [0, 1, 2, 3].map (fun a => (d4.axisOf a).p)
  let d5 := [0, 1].foldl (fun d w => d.groupServo w) d4
  [0, 1, 2, 3].foldl (fun d a =>
    let x := d.axisOf a
    if x.doing = 7 ∨ (d4.axisOf a).doing = 7 then
      ((d.updAxis a (fun x => { x with acc := p0.getD a 0 })).loadAngle a (la.getD a 0)).axisAccumulate a (p0.getD a 0)
    else d.axisServo a (la.getD a 0)) d5

/-- SERVO_PERIOD (R315). -/
def execServoPeriod (la : List Int) (s : State) : Host.Outcome State Fault Refusal := s.live (fun d => d.servo la)

/-- Whether bytes are a microstep table that R311 accepts. -/
def stepTableOk (b : Bytes) : Bool :=
  let t := (List.range 256).map (fun i => u16At b (4 + 2 * i))
  let rec up : List Nat → Bool
    | [] => true
    | [_] => true
    | x :: y :: r => decide (x ≤ y) && up (y :: r)
  b.isEmpty || (decide (b.length = 520) && byteAt b 0 == 1 && zeros b 1 3 && t.all (fun x => decide (x ≤ 32767)) && up t && crcOk b)

end Sys2Proof.Machine
end

