-- ==== Sys2Proof/Machine/Geometry.lean ====
section
/-! DEFINITION. The pure computations of the ground engine (R333 to R353): the projection, positions, polygons, the
prescription grid, coverage cells and the checks of the boundary and grid blocks. -/

namespace Sys2Proof.Machine

/-! ### Angles and the projection (R333) -/

/-- 2^30 times the sine of an angle in 2^-32 turn (log entry 3). -/
def sinTurn (a : Int) : Int :=
  let a := a % 4294967296
  let q (y : Int) : Int := sinSeries (y * pi30 / 2147483648)
  if a ≤ 1073741824 then q a else if a ≤ 2147483648 then q (2147483648 - a)
  else if a ≤ 3221225472 then -(q (a - 2147483648)) else -(q (4294967296 - a))

/-- 2^30 times the cosine of an angle in 2^-32 turn. -/
def cosTurn (a : Int) : Int := sinTurn (a + 1073741824)

/-- The angle of a vector in 1/65,536 turn; exact on the axes, else `Config.atan2`. -/
def angleOf (y x : Int) : Nat :=
  if y = 0 then (if x < 0 then 32768 else 0)
  else if x = 0 then (if y < 0 then 49152 else 16384)
  else Config.atan2 y x % 65536

/-- An angle clockwise from north as one counter-clockwise from east, both in 1/65,536 turn (R333). -/
def compass (a : Nat) : Int := 16384 - a

/-- 2^60 times 1 - e² sin² of a latitude, of the WGS-84 ellipsoid (log entry 30). -/
def ellipse (lat : Int) : Int :=
  let s := sinTurn (lat * 4294967296 / 3600000000)
  2 ^ 60 - s * s * 669437999 / 100000000000

/-- 1000 times the meridian radius in mm at a latitude (10^-7 degree) (R333). -/
def radiusM (lat : Int) : Int :=
  let w := ellipse lat
  let r := (isqrt w.toNat : Int)
  6378137000000 * (100000000000 - 669437999) / 100000000000 * 2 ^ 60 / max 1 w * 2 ^ 30 / max 1 r

/-- 1000 times the prime-vertical radius in mm (R333). -/
def radiusN (lat : Int) : Int := 6378137000000 * 2 ^ 30 / max 1 ((isqrt (ellipse lat).toNat : Int))

/-- A difference of latitude or longitude (10^-7 degree) on a radius (µm), as a length in 2^-16 mm. -/
def arc (diff radius : Int) : Int := diff * (pi30 : Int) * radius / (1800000000 * 2 ^ 30) * 65536 / 1000

/-- East and north of a position (2^-16 mm) from a field origin (R333). -/
def project (lat0 lon0 lat lon : Int) : Int × Int :=
  let c := cosTurn (lat0 * 4294967296 / 3600000000)
  (arc (lon - lon0) (radiusN lat0) * c / 2 ^ 30, arc (lat - lat0) (radiusM lat0))

/-- rot(θ)(x, y) in the unit of `x` and `y`, θ in 2^-32 turn (R333). -/
def rot (th x y : Int) : Int × Int :=
  ((x * cosTurn th - y * sinTurn th) / 2 ^ 30, (x * sinTurn th + y * cosTurn th) / 2 ^ 30)

/-! ### Boundaries (R346, R347) -/

/-- A polygon of the boundary block: its KIND and its vertices, mm. -/
structure Polygon where
  kind : Nat
  pts : List (Int × Int)
deriving DecidableEq, Repr

/-- `n` vertices from offset `i`. -/
def vertices (b : Bytes) (i : Nat) : Nat → List (Int × Int)
  | 0 => []
  | n + 1 => (i32At b i, i32At b (i + 4)) :: vertices b (i + 8) n

/-- The polygons of a block from polygon `k` on, whose vertices start at offset `i`. -/
def polygonsFrom (b : Bytes) : (count k i : Nat) → List Polygon
  | 0, _, _ => []
  | n + 1, k, i =>
    let c := u16At b (6 + 4 * k)
    { kind := byteAt b (4 + 4 * k), pts := vertices b i c } :: polygonsFrom b n (k + 1) (i + 8 * c)

/-- The polygons of a boundary block (R346). -/
def polygons (b : Bytes) : List Polygon :=
  if b.isEmpty then [] else polygonsFrom b (byteAt b 1) 0 (4 + 4 * byteAt b 1)

/-- Whether bytes are a boundary block that R346 accepts. -/
def boundariesOk (b : Bytes) : Bool :=
  let p := byteAt b 1
  let v := u16At b 2
  let counts := (List.range p).map (fun k => u16At b (6 + 4 * k))
  b.isEmpty || (byteAt b 0 == 1 && decide (1 ≤ p) && decide (p ≤ 64) && decide (3 * p ≤ v) && decide (v ≤ 4096) &&
    decide (b.length = 8 + 4 * p + 8 * v) && counts.all (fun c => decide (3 ≤ c)) && counts.foldl (· + ·) 0 == v &&
    (List.range p).all (fun k => [1, 2, 3].contains (byteAt b (4 + 4 * k)) && byteAt b (5 + 4 * k) == 0) && crcOk b)

/-- The edges of a closed polygon. -/
def edgesOf (pts : List (Int × Int)) : List ((Int × Int) × (Int × Int)) :=
  match pts with
  | [] => []
  | p :: t => pts.zip (t ++ [p])

/-- Twice the signed area of the triangle of an edge and a point. -/
def cross (a b q : Int × Int) : Int := (b.1 - a.1) * (q.2 - a.2) - (b.2 - a.2) * (q.1 - a.1)

/-- Whether a point lies on an edge of a polygon. -/
def onEdge (pts : List (Int × Int)) (q : Int × Int) : Bool :=
  (edgesOf pts).any (fun e => decide (cross e.1 e.2 q = 0) && decide (min e.1.1 e.2.1 ≤ q.1) && decide (q.1 ≤ max e.1.1 e.2.1) &&
    decide (min e.1.2 e.2.2 ≤ q.2) && decide (q.2 ≤ max e.1.2 e.2.2))

/-- The even-odd rule (R347). -/
def evenOdd (pts : List (Int × Int)) (q : Int × Int) : Bool :=
  ((edgesOf pts).filter (fun e =>
    (decide (e.1.2 ≤ q.2) != decide (e.2.2 ≤ q.2)) &&
      (if e.1.2 ≤ q.2 then decide (0 < cross e.1 e.2 q) else decide (cross e.1 e.2 q < 0)))).length % 2 == 1

/-- Whether a sample is permitted by the polygons (R347). -/
def permitted (ps : List Polygon) (headland : Bool) (q : Int × Int) : Bool :=
  let outer := ps.filter (fun p => p.kind == 1)
  let touches (p : Polygon) : Bool := onEdge p.pts q || evenOdd p.pts q
  (outer.isEmpty || outer.any (fun p => evenOdd p.pts q && !(onEdge p.pts q))) &&
    ps.all (fun p => !(p.kind == 2 && touches p)) && (headland || ps.all (fun p => !(p.kind == 3 && touches p)))

/-! ### Prescription grid (R348, R349) -/

/-- Whether bytes are a grid block that R348 accepts. -/
def gridOk (b : Bytes) : Bool :=
  let w := u16At b 2
  let h := u16At b 4
  b.isEmpty || (byteAt b 0 == 1 && decide (1 ≤ byteAt b 1) && decide (byteAt b 1 ≤ 20) && decide (1 ≤ w) && decide (1 ≤ h) &&
    decide (w * h ≤ 524000) && zeros b 6 2 && decide (b.length = 20 + 2 * w * h) && crcOk b)

/-- The byte offset of the grid's cell at a point (mm), none outside it (R348, R349). -/
def gridCell (b : Bytes) (q : Int × Int) : Option Nat :=
  if b.isEmpty then none
  else
    let cell : Int := 1000 * byteAt b 1
    let x := (q.1 - i32At b 8) / max 1 cell
    let y := (q.2 - i32At b 12) / max 1 cell
    let w := u16At b 2
    if x < 0 ∨ y < 0 ∨ (w : Int) ≤ x ∨ (u16At b 4 : Int) ≤ y then none
    else some (16 + 2 * (y.toNat * w + x.toNat))

/-- The grid's rate in the cell at byte `i`, none without data (R349). -/
def gridRate (b : Bytes) (i : Nat) : Option Nat := if u16At b i = 0xFFFF then none else some (u16At b i)

/-! ### Coverage (R343 to R345) -/

/-- The map's geometry: cell size and edges (mm), width and height (cells). -/
structure MapGeo where
  cell : Int
  e0 : Int
  n0 : Int
  w : Int
  h : Int
deriving DecidableEq, Repr

/-- The cell of a point (mm), none outside the map. -/
def cellOf (g : MapGeo) (q : Int × Int) : Option Nat :=
  let x := (q.1 - g.e0) / max 1 g.cell
  let y := (q.2 - g.n0) / max 1 g.cell
  if x < 0 ∨ y < 0 ∨ g.w ≤ x ∨ g.h ≤ y then none else some (y * g.w + x).toNat

/-- Whether the centre of a cell lies within `half` mm of the segment from `a` to `b`, in 1/2 mm. -/
def nearSegment (a b : Int × Int) (half2 : Int) (c : Int × Int) : Bool :=
  let dx := 2 * (b.1 - a.1)
  let dy := 2 * (b.2 - a.2)
  let px := c.1 - 2 * a.1
  let py := c.2 - 2 * a.2
  let len2 := dx * dx + dy * dy
  let t := px * dx + py * dy
  if len2 = 0 ∨ t ≤ 0 then decide (px * px + py * py ≤ half2 * half2)
  else if len2 ≤ t then
    let qx := px - dx
    let qy := py - dy
    decide (qx * qx + qy * qy ≤ half2 * half2)
  else
    let k := px * dy - py * dx
    decide (k * k ≤ half2 * half2 * len2)

/-- The cells whose centre lies within `width` / 2 of the segment (R344). -/
def sweptCells (g : MapGeo) (a b : Int × Int) (width : Int) : List Nat :=
  let m := width / 2 + g.cell
  let lo (x y o : Int) : Int := (min x y - m - o) / max 1 g.cell
  let hi (x y o : Int) : Int := (max x y + m - o) / max 1 g.cell
  let xs := (List.range (hi a.1 b.1 g.e0 - lo a.1 b.1 g.e0 + 1).toNat).map (fun (i : Nat) => lo a.1 b.1 g.e0 + (i : Int))
  let ys := (List.range (hi a.2 b.2 g.n0 - lo a.2 b.2 g.n0 + 1).toNat).map (fun (i : Nat) => lo a.2 b.2 g.n0 + (i : Int))
  ys.flatMap (fun y => xs.filterMap (fun x =>
    if x < 0 ∨ y < 0 ∨ g.w ≤ x ∨ g.h ≤ y then none
    else if nearSegment a b width (2 * g.e0 + (2 * x + 1) * g.cell, 2 * g.n0 + (2 * y + 1) * g.cell) then some (y * g.w + x).toNat
    else none))

/-- The five samples of a point with its direction u (2^-32 turn), mm (R345). -/
def samples (q : Int × Int) (u width : Int) : List (Int × Int) :=
  [-2, -1, 0, 1, 2].map (fun k => let p := rot u 0 (k * width * 65536 / 5); (q.1 + p.1 / 65536, q.2 + p.2 / 65536))

/-- The dose spacing of R353 in 1/256 unit, at least 200 units. -/
def doseSpacing (counts lsb width : Nat) : Nat := max 51200 (25600000000000 / max 1 (counts * lsb * width))

end Sys2Proof.Machine
end

