-- ==== Sys2Proof/Machine/Ground.lean ====
section
/-! DEFINITION. The ground engine GE (R331 to R357): inputs and fusion, GND and the row tracks, the row decisions with sections
and doses, the coverage map and the job.  The doses handed over wait in the chain engines (chapter 14). -/

namespace Sys2Proof.Machine

/-- The hidden state of the ground engine changed. -/
def Dev.updGe (d : Dev) (f : Ge → Ge) : Dev := { d with ge := f d.ge }

/-- Whether an input last seen at `t` is fresh within `ns`. -/
def Dev.fresh (d : Dev) (t : Option Nat) (ns : Nat) : Bool := t.any (fun t => decide (d.wall < t + ns))

/-! ### The dose ledger (R354) -/

/-- Node `m`'s hidden state. -/
def Dev.nodeOf (d : Dev) (m : Nat) : NodeSt := Tab.get {} d.nodes m

/-- Node `m`'s hidden state changed. -/
def Dev.updNode (d : Dev) (m : Nat) (f : NodeSt → NodeSt) : Dev := { d with nodes := Tab.upd {} d.nodes m f }

/-- The node within its chain's NODES_CFG that serves row `n` (R369). -/
def Dev.rowNode (d : Dev) (n : Nat) : Option Nat :=
  let serves (m : Nat) : Bool := d.n (el Obj.ROW m) == n && decide ((m - 1) % 32 < d.n (at' Obj.NODES_CFG ((m - 1) / 32)))
  if serves n then some n else ((List.range 128).map (· + 1)).find? serves

/-- `k` doses of row `n` missed, `c` of them cancelled; the first miss after a confirmed dose is reported (R354).  `open_` of
them had counted as pending. -/
def Dev.doseMiss (d : Dev) (n k c open_ : Nat) : Dev :=
  if k = 0 ∨ n = 0 then d
  else
    let d1 := ((d.addWrap (el Obj.MISSED_8082 n) k).addWrap (el Obj.CANCELLED n) c).setO (el Obj.PENDING n)
      (wrapU32 (d.o (el Obj.PENDING n) - open_))
    if (d1.rowOf n).missed then d1
    else ((d1.updRow n (fun r => { r with missed := true })).event 0xB6).raise 0x8038 false { addr := n, ini := 0x28, acc := 0 }

/-- `k` doses of row `n` reported metered (R354, R371). -/
def Dev.doseMetered (d : Dev) (n k : Nat) : Dev :=
  if k = 0 ∨ n = 0 then d
  else ((d.addWrap (el Obj.CONFIRMED n) k).setO (el Obj.PENDING n) (wrapU32 (d.o (el Obj.PENDING n) - k))).updRow n
    (fun r => { r with missed := false })

/-- A dose with command coordinate `c` handed to the chain engine (R353, R374). -/
def Dev.handOver (d : Dev) (n : Nat) (c : Int) : Dev :=
  let t : TrackId := .row (Fin.ofNat 128 (n - 1))
  let d1 := d.addWrap (el Obj.COMMANDED n)
  let late := decide (t.diff (d.value t) c ≤ 0)
  match d1.rowNode n with
  | some m =>
    if late || d1.o (el Obj.NODE_STATE m) == 4 then d1.doseMiss n 1 0 0
    else (d1.addWrap (el Obj.PENDING n)).updNode m (fun x => { x with wait := insertBy (fun a b => decide (a ≤ b)) c x.wait })
  | none => d1.doseMiss n 1 0 0

/-- GE cancels the doses of row `n` (R354, R372): those that wait go at once, those sent through CANCEL_SEQ of the oldest whose
coordinate has not been reached. -/
def Dev.cancelDoses (d : Dev) (n : Nat) : Dev :=
  match d.rowNode n with
  | none => d
  | some m =>
    let x := d.nodeOf m
    let k := x.wait.length
    let t : TrackId := .row (Fin.ofNat 128 (n - 1))
    let oldest := (x.out.find? (fun e => decide (0 < t.diff (d.value t) e.2.2))).map (fun e => e.1)
    (d.updNode m (fun x => { x with wait := [], cancel := if oldest.isSome then oldest else x.cancel })).doseMiss n k k k

/-- Waiting doses whose coordinate the row has reached are missed (R372). -/
def Dev.dosesReached (d : Dev) (m : Nat) : Dev :=
  let n := d.n (el Obj.ROW m)
  let x := d.nodeOf m
  if n = 0 ∨ x.wait = [] ∨ !(d.b Obj.ROW_VALID) then d
  else
    let t : TrackId := .row (Fin.ofNat 128 (n - 1))
    let keep := x.wait.filter (fun c => decide (0 < t.diff (d.value t) c))
    let k := x.wait.length - keep.length
    if k = 0 then d else ((d.updNode m (fun x => { x with wait := keep })).doseMiss n k 0 k).event 0xC7

/-! ### Sections (R342, R350, R352) -/

/-- The firmware slot of row `n`'s switch-on or switch-off (R352). -/
def sectionSlot (n : Nat) (on : Bool) : Nat := 160 + 2 * (n - 1) + if on then 0 else 1

/-- The slots of row `n` carry its earliest pending transition of each kind, or are disarmed (R352). -/
def Dev.armRow (d : Dev) (n : Nat) : Dev :=
  [true, false].foldl (fun d on =>
    let s := sectionSlot n on
    match (d.rowOf n).queue.find? (fun p => p.2 == on) with
    | some p =>
      if (d.slotOf s).armed && d.o (slotKey Obj.TARGET_3200 s) == p.1 then d
      else
        ((((((d.setO (slotKey Obj.TRACK_3200 s) (0x7F + n : Nat)).setO (slotKey Obj.TARGET_3200 s) p.1).setO
          (slotKey Obj.QUALIFIER_3200 s) 1).setO (slotKey Obj.ACTION s) 4).setO (slotKey Obj.ARG s)
          ((n - 1 : Nat) + 128 * b2i on)).slotClear s).slotArmed s true false
    | none => d.when ((d.slotOf s).armed) (fun d => d.slotArmed s false false)) d

/-- After an update of row `n`: the transitions whose target the value has reached fire in ascending order, and the slots carry
the next ones (R352). -/
def Dev.fireRow (d : Dev) (n : Nat) : Nat → Dev
  | 0 => d.armRow n
  | k + 1 =>
    let t : TrackId := .row (Fin.ofNat 128 (n - 1))
    match (d.rowOf n).queue with
    | [] => d.armRow n
    | (c, on) :: _ =>
      if 0 < t.diff (d.value t) c then d.armRow n
      else ((d.armRow n).slotFire t (sectionSlot n on) true false false).fireRow n k

/-- The row's section off by direct write, its slots disarmed, its queue emptied and its doses cancelled (R342, R352). -/
def Dev.killRow (d : Dev) (n : Nat) : Dev :=
  let r := d.rowOf n
  let idle := !(bitOf (d.o (el Obj.ROW_STATE n)) 0) && r.queue.isEmpty && !r.on && r.dose.isNone &&
    (d.rowNode n).all (fun m => (d.nodeOf m).wait.isEmpty && (d.nodeOf m).out.isEmpty)
  if idle then d
  else (((d.setSection n false).updRow n (fun r => { r with queue := [], on := false, dose := none })).armRow n).cancelDoses n

/-- T_CYC of the chain that carries row `n`, µs; 0 without a node. -/
def Dev.rowCycle (d : Dev) (n : Nat) : Nat :=
  match d.rowNode n with
  | some m => d.n (at' Obj.T_CYC ((m - 1) / 32))
  | none => 0

/-- T_LA with a chain cycle, µs (R350). -/
def Dev.lookAhead (d : Dev) (cyc : Nat) : Nat :=
  max (max (d.n Obj.LAT_ON) (d.n Obj.LAT_OFF) * 1000 + cyc) (d.n Obj.DOSE_LAT + 2 * cyc) + 1000

/-- A transition of row `n` at `g` to `on`, with rate `v` (R352); the answer is the state the strip then has. -/
def Dev.transition (d : Dev) (n : Nat) (g v : Int) (on : Bool) : Dev × Bool :=
  let t : TrackId := .row (Fin.ofNat 128 (n - 1))
  let lat := (if on then d.n Obj.LAT_ON else d.n Obj.LAT_OFF) * 2000 + d.rowCycle n
  let c := t.wrap (g - roundDiv (v * lat) 2000000)
  let q := (d.rowOf n).queue
  if t.diff (d.value t) c < 1 then (((d.setSection n on).addSat Obj.LATE_SWITCHES).event 0xB5, on)
  else match q.getLast? with
    | some l =>
      if t.diff l.1 c ≤ 0 then ((d.updRow n (fun r => { r with queue := r.queue.dropLast })).armRow n, on)
      else if 8 ≤ q.length then ((d.event 0xBD).raise 0x8039 false { addr := n, ini := 0x28, acc := 0 }, l.2)
      else ((d.updRow n (fun r => { r with queue := r.queue ++ [(c, on)] })).armRow n, on)
    | none => ((d.updRow n (fun r => { r with queue := [(c, on)] })).armRow n, on)

/-! ### Decisions (R344 to R351, R353) -/

/-- The map's geometry (R343). -/
def Dev.mapGeo (d : Dev) : MapGeo :=
  { cell := d.o Obj.CELL_SIZE, e0 := d.o Obj.MAP_E0, n0 := d.o Obj.MAP_N0, w := d.o Obj.MAP_W, h := d.o Obj.MAP_H }

/-- P_n in 2^-16 mm (R333). -/
def Dev.rowPos (d : Dev) (n : Nat) : Int × Int :=
  let p := rot d.ge.theta (d.o (el Obj.ROW_X n) * 65536) (d.o (el Obj.ROW_Y n) * 65536)
  (d.ge.e + p.1, d.ge.n + p.2)

/-- u_n in 2^-32 turn: the direction of motion of row `n` (R333); speeds in µm/s. -/
def Dev.rowDir (d : Dev) (n : Nat) : Int :=
  let om := d.o Obj.YAW_RATE_8000
  let v := d.o TrackId.gnd.rateKey * 100
  d.ge.theta + 65536 * (angleOf (om * d.o (el Obj.ROW_X n) / 1000) (v - om * d.o (el Obj.ROW_Y n) / 1000) : Nat)

/-- The rate of a point (R349, R351): counts, and whether a marked cell gave BASE_RATE. -/
def Dev.rateAt (d : Dev) (q : Int × Int) : Nat × Bool :=
  let base := d.n Obj.BASE_RATE
  match d.n Obj.RATE_SOURCE with
  | 0 => match gridCell (d.block Obj.RX_GRID) q with
    | some i => if d.marked 1 (gridBase + i / 4) then (base, true) else ((gridRate (d.block Obj.RX_GRID) i).getD base, false)
    | none => (base, false)
  | 1 => (d.ge.tcRate.getD base, false)
  | _ => (base, false)

/-- The notices that an overlap test raises: a sample outside the map, and cells that read applied by their mark (R345). -/
def Dev.overlapNotices (d : Dev) (outside : Bool) (poisoned : Nat) : Dev :=
  ((d.addSat Obj.POISONED_CELLS poisoned).consumed poisoned).when (outside && !d.ge.outsideShown) (fun d =>
    ((d.updGe (fun g => { g with outsideShown := true })).event 0xBB).raise 0x8034 false { ini := 0x28, acc := 1 })

/-- The state of a point at `g` of row `n` (R351 want): on or off, the rate, and bits 2 to 6 of ROW_STATE. -/
def Dev.want (d : Dev) (n : Nat) (g r : Int) : Dev × Bool × Nat × Nat :=
  let u := d.rowDir n
  let p := d.rowPos n
  let s := rot u ((g - r) * 65536 / 10) 0
  let q : Int × Int := ((p.1 + s.1) / 65536, (p.2 + s.2) / 65536)
  let (rate, marked) := d.rateAt q
  let d0 := (d.when marked (fun d => d.consumed)).when (marked && !d.ge.baseShown) (fun d =>
    ((d.updGe (fun g => { g with baseShown := true })).event 0xB7).raise 0x8035 false { ini := 0x28, acc := 1 })
  let bits := (if rate = 0 then 16 else 0) + (if marked then 32 else 0)
  if !(d0.b Obj.MASTER) || !(d0.b (el Obj.ROW_ENABLE n)) || rate == 0 then (d0, false, rate, bits)
  else if d0.o Obj.SECTION_SOURCE = 2 then (d0, true, rate, bits)
  else if d0.o Obj.SECTION_SOURCE = 1 then (d0, d0.ge.tcRows.contains n, rate, bits)
  else if !(d0.b Obj.POS_VALID) then (d0, d0.b Obj.LOSS_ACTION, rate, bits + 64)
  else
    let width := d0.o (el Obj.ROW_WIDTH n)
    let five := samples (p.1 + s.1, p.2 + s.2) u width |>.map (fun x => (x.1 + q.1 - (p.1 + s.1), x.2 + q.2 - (p.2 + s.2)))
    let bp := !(d0.markedIn 1 boundaryBase (wordsOf (d0.block Obj.BOUNDARIES).length)).isEmpty
    let d1 := (d0.when bp (fun d => d.consumed)).when (bp && d0.o Obj.BOUNDARY_STATUS != 2) (fun d =>
      ((d.setO Obj.BOUNDARY_STATUS 2).event 0xBA).raise 0x8236 true { ini := 0x28, acc := 1 })
    let ps := polygons (d1.block Obj.BOUNDARIES)
    let inField := if bp then false
      else (if d1.b Obj.BOUNDARY_TEST then five else (five.drop 2).take 1).all (permitted ps (d1.b Obj.HEADLAND_APPLY))
    if !inField then (d1, false, rate, bits + 4)
    else
      let cells := five.map (cellOf d1.mapGeo)
      let marks := cells.filterMap (fun c => c.filter (fun c => d1.marked 1 (c / 32)))
      let c := (cells.filter (fun c => c.any (fun c => d1.marked 1 (c / 32) || d1.ge.map.contains c))).length
      let d2 := d1.overlapNotices (cells.contains none) marks.length
      let off := d2.n Obj.OFF_COUNT
      if off ≤ c ∨ (!(d2.rowOf n).on ∧ off < c + 2) then (d2, false, rate, bits + 8) else (d2, true, rate, bits)

/-- The dose of a point [g, g + 100) that is on at `rate` (R353); the spacing of at least 200 units allows at most one. -/
def Dev.placeDose (d : Dev) (n : Nat) (g v : Int) (rate : Nat) (switchedOn : Bool) : Dev :=
  let s : Int := (doseSpacing rate (d.n Obj.RATE_LSB) (d.n (el Obj.ROW_WIDTH n)) : Nat)
  let d1 := d.setO (el Obj.SPACING n) ((s + 128) / 256)
  let at_ := match (d1.rowOf n).dose with
    | some p => if switchedOn then g * 256 else max (g * 256) (p + s)
    | none => g * 256
  if at_ < (g + 100) * 256 then
    (d1.handOver n (TrackId.wrap (.row (Fin.ofNat 128 (n - 1))) (roundDiv (at_ * 1000000 - 256 * v * d1.o Obj.DOSE_LAT) 256000000))).updRow n
      (fun r => { r with dose := some at_ })
  else d1

/-- The points of row `n` decided up to the horizon (R351); `k` bounds their number. -/
def Dev.decidePoints (d : Dev) (n : Nat) (r v : Int) : Nat → Int → Dev
  | 0, g => d.updRow n (fun x => { x with h := some g })
  | k + 1, g =>
    let (d1, on0, rate, bits) := d.want n g r
    let was := (d1.rowOf n).on
    let (d2, on) := if on0 != was then d1.transition n g v on0 else (d1, was)
    let d3 := (d2.updRow n (fun x => { x with on := on })).setO (el Obj.RATE_NOW n) (rate : Nat)
    let d4 := d3.setO (el Obj.ROW_STATE n) ((bitsOf (d3.o (el Obj.ROW_STATE n)) 1 0 + bits : Nat) : Int)
    let d5 := if on && rate != 0 then d4.placeDose n g v rate (!was)
      else (d4.setO (el Obj.SPACING n) 0).updRow n (fun x => { x with dose := none })
    d5.decidePoints n r v k (TrackId.wrap (.row (Fin.ofNat 128 (n - 1))) (g + 100))

/-- The stretch since the last decision is marked where the section was on at both ends (R344). -/
def Dev.markStretch (d : Dev) (n : Nat) : Dev :=
  let p := d.rowPos n
  let here : Int × Int := (p.1 / 65536, p.2 / 65536)
  let on := bitOf (d.o (el Obj.ROW_STATE n)) 0
  let d1 := d.updRow n (fun r => { r with last := some (here.1, here.2, on) })
  match (d.rowOf n).last with
  | some (e, nn, true) =>
    if !on || d.o Obj.JOB_STATE == 0 then d1
    else
      let cells := sweptCells d.mapGeo (e, nn) here (d.o (el Obj.ROW_WIDTH n))
      d1.updGe (fun g => { g with marks := g.marks ++ cells.map (fun c => (c, g.travel)) })
  | _ => d1

/-- Whether a key is per-row data of row `n` (R41). -/
def perRow (n k : Nat) : Bool := decide (0x8010 ≤ keyIdx k) && decide (keyIdx k ≤ 0x8013) && keySub k == n

/-- The decision of row `n` every 50 mm of its travel (R351). -/
def Dev.decideRow (d : Dev) (n : Nat) : Dev :=
  let t : TrackId := .row (Fin.ofNat 128 (n - 1))
  let r := d.value t
  let v := d.o t.rateKey
  let row := d.rowOf n
  let due := match row.rDec with
    | some x => decide (500 ≤ t.diff x r)
    | none => true
  if !due then d
  else
    let dist := v * d.lookAhead (d.rowCycle n) / 1000000
    let d1 := ((d.applyWrites (perRow n)).markStretch n).updRow n (fun x => { x with rDec := some r })
    let h := row.h.getD (t.wrap (r + dist))
    let todo := t.diff h (r + dist + 500)
    d1.decidePoints n r v ((max 0 (todo + 99) / 100).toNat) h

/-! ### Motion (R336 to R342) -/

/-- A signed difference of angles in 2^-32 turn. -/
def turnDiff (a b : Int) : Int := signedMod 32 (a - b)

/-- Whether a fix is in use, and the speed over ground is at least 1 km/h and fresh (R336, R338). -/
def Dev.sogUsed (d : Dev) : Bool := d.o Obj.GNSS_STATE == 2 && d.fresh d.ge.cogAt 200000000 && decide (278 ≤ d.ge.sog)

/-- The course over ground as an angle in 2^-32 turn from east, turned round while the direction is backward (R336). -/
def Dev.course (d : Dev) : Option Int :=
  if d.fresh d.ge.cogAt 200000000 ∧ 278 ≤ d.ge.sog then
    some ((compass d.ge.cog + if d.ge.fwd then 0 else 32768) * 65536)
  else none

/-- θ_t: the heading while it is fresh, else the course (R336). -/
def Dev.tractorHeading (d : Dev) : Option Int :=
  if d.fresh d.ge.headAt 200000000 then some (compass d.ge.head * 65536) else d.course

/-- θ_ref by MOUNT (R336). -/
def Dev.headingRef (d : Dev) : Option Int :=
  match d.n Obj.MOUNT with
  | 0 => d.tractorHeading
  | 1 => if d.ge.hitch.isSome then some d.ge.thetaK else none
  | _ => d.course.map (fun c =>
      let om := d.o Obj.YAW_RATE_8000
      let v := d.o TrackId.gnd.rateKey * 100
      c - 65536 * (angleOf (om * d.o Obj.REF_X / 1000) (v - om * d.o Obj.REF_Y / 1000) : Nat))

/-- The hidden state of pulse source `i` (0 WHL0, 1 WHL1, 2 RAD0). -/
def Dev.pulseSrc (d : Dev) (i : Nat) : PulseSrc := Tab.get {} d.ge.pulses i

/-- Whether pulse source `i` is valid (R338). -/
def Dev.pulseValid (d : Dev) (i : Nat) : Bool :=
  d.b (at' Obj.PULSES_PER_100M i) && decide ((d.pulseSrc i).glitchAt.length < 10) && !(d.pulseSrc i).bad

/-- ω in µrad/s and whether a source gives it (R336). -/
def Dev.yaw (d : Dev) : Option Int :=
  let y0 := d.o Obj.WHL0_Y
  let y1 := d.o Obj.WHL1_Y
  let sg : Int := if d.ge.fwd then 1 else -1
  if d.b Obj.VALID_3460 then some (d.o Obj.YAW_RATE_3460 - d.o Obj.GYRO_BIAS)
  else if d.pulseValid 0 && d.pulseValid 1 && decide (500 ≤ (y0 - y1).natAbs) then
    some (sg * (d.o (at' Obj.SPEED_3450 1) - d.o Obj.SPEED_3450) * 100000 / (y0 - y1))
  else if d.sogUsed && d.headingRef.isSome then some d.ge.refRate
  else none

/-- An angle rate in µrad/s over 250 µs, in 2^-32 turn. -/
def turnOf (omega : Int) : Int := omega * 2 ^ 32 * 2 ^ 30 / (8000 * 1000000 * (pi30 : Int))

/-- The heading integrates ω and follows its reference (R336). -/
def Dev.headingUpdate (d : Dev) : Dev :=
  let tc := d.o Obj.HEAD_TC * 1000
  let ref := d.headingRef
  let rate : Int := match ref, d.ge.refLast with
    | some x, some y => turnDiff x y * (8000 * 1000000 * (pi30 : Int)) / (2 ^ 62)
    | _, _ => 0
  let rr := d.ge.refRate + (rate - d.ge.refRate) * 250 / tc
  let d0 := d.updGe (fun g => { g with refLast := ref.map (fun x => (x % 4294967296).toNat), refRate := rr })
  let om := d0.yaw
  let d1 := match om with
    | some _ => (d0.updGe (fun g => { g with noYaw := false })).when d0.ge.noYaw (fun d => d.causeGone 0x8233)
    | none => if d0.ge.noYaw then d0
        else ((d0.updGe (fun g => { g with noYaw := true })).event 0xBC).raise 0x8233 true { ini := 0x28, acc := 5 }
  let w := om.getD 0
  let corr := match ref with
    | some x => turnDiff x d1.ge.theta * 250 / tc
    | none => 0
  let hk : Int := 65536 * d1.ge.chiH - d1.ge.thetaK
  let dk := turnOf ((d1.ge.vH : Int) * sinTurn hk * 1000000 / (2 ^ 30 * max 1 (d1.o Obj.TONGUE_L)))
  let th := (d1.ge.theta + turnOf w + corr) % 4294967296
  ((d1.setO Obj.YAW_RATE_8000 w).updGe (fun g => { g with
    theta := th.toNat, thetaK := ((g.thetaK + dk) % 4294967296).toNat })).setO Obj.HEADING (((1073741824 - th) % 4294967296) / 65536)

/-- The direction of motion (R339). -/
def Dev.directionUpdate (d : Dev) : Dev :=
  let machine : Option Bool := if d.fresh d.ge.mdirAt 300000000 then some d.ge.mdir else none
  let track (t : TrackId) : Option Bool :=
    if d.b t.validKey then some ((d.o t.dirKey == 1) == (d.o Obj.DIR_SIGN == 1)) else none
  let way := match d.n Obj.DIR_SOURCE with
    | 0 =>
      if d.fresh d.ge.cogAt 200000000 ∧ 278 ≤ d.ge.sog then
        some (decide ((turnDiff (compass d.ge.cog * 65536) d.ge.theta).natAbs ≤ 1073741824))
      else machine
    | 1 => machine
    | 2 => track .angA
    | _ => track .angB
  d.updGe (fun g => { g with fwd := way.getD g.fwd })

/-- Pulse source `i` at an update: its pulses since the last one, its glitches of the last second, and its agreement with the
speed over ground (R338). -/
def Dev.pulseUpdate (d : Dev) (i : Nat) : Dev × Nat :=
  let p := d.pulseSrc i
  let now := d.n (at' Obj.PULSES_3450 i)
  let delta := (now + 4294967296 - p.last) % 4294967296
  let gl := d.n (at' Obj.GLITCHES i)
  let at_ := (List.replicate (min 10 (gl - p.glitches)) d.wall ++ p.glitchAt).filter (fun t => decide (d.wall < t + 1000000000))
  let used := d.sogUsed && d.b (at' Obj.PULSES_PER_100M i)
  let sp := d.n (at' Obj.SPEED_3450 i)
  let g10 := 10 * d.ge.sog
  let lim := d.n Obj.SLIP_LIMIT
  let off (a b : Nat) : Bool := decide (lim * b < 100 * ((a : Int) - b).natAbs)
  let sumP := p.sumP + sp
  let sumG := p.sumG + g10
  let full := decide (8000 ≤ p.count + 1)
  let slips := used && full && off sumP sumG
  let agree := if used && !(off sp g10) then some (p.agree.getD d.wall) else none
  let back := agree.any (fun t => decide (t + 5000000000 ≤ d.wall))
  let bad := (p.bad && !back) || slips
  let p' : PulseSrc := {
    last := now, glitches := gl, glitchAt := at_, sumP := if used && !full then sumP else 0, sumG := if used && !full then sumG else 0,
    count := if used && !full then p.count + 1 else 0, bad := bad, agree := agree }
  let d1 := d.updGe (fun g => { g with pulses := Tab.set {} g.pulses i p' })
  (d1.when (slips && !p.bad) (fun d => (d.event 0xB4).raise 0x8031 false { addr := i, ini := 0x28, acc := 5 }), delta)

/-- Whether a code of DIST_PRIMARY names a valid source (R338). -/
def Dev.distValid (d : Dev) (code : Nat) : Bool :=
  match code with
  | 0 => d.o Obj.GNSS_STATE == 2 && d.fresh d.ge.cogAt 200000000
  | 4 => d.pulseValid 0 && d.pulseValid 1
  | c => d.pulseValid (c - 1)

/-- The active distance source (R338). -/
def Dev.distSource (d : Dev) : Nat :=
  if d.distValid (d.n Obj.DIST_PRIMARY) then d.n Obj.DIST_PRIMARY
  else if d.distValid (d.n Obj.DIST_SECONDARY) then d.n Obj.DIST_SECONDARY
  else if d.distValid 0 then 0 else 0xFF

/-- The lateral offset of a source, mm (R338). -/
def Dev.distOffset (d : Dev) (code : Nat) : Int :=
  match code with
  | 1 => d.o Obj.WHL0_Y
  | 2 => d.o Obj.WHL1_Y
  | 3 => d.o Obj.RAD0_Y
  | 4 => (d.o Obj.WHL0_Y + d.o Obj.WHL1_Y) / 2
  | _ => 0

/-- The distance of an update in 2^-20 track units and the speed in units per second, both with the direction's sign, from the
pulses of the three sources (R338). -/
def Dev.distance (d : Dev) (code : Nat) (pulses : List Nat) : Int × Int :=
  let sg : Int := if d.ge.fwd then 1 else -1
  let om := d.o Obj.YAW_RATE_8000
  let one (i : Nat) : Int := (pulses.getD i 0 * 1000000 * 1048576 / max 1 (d.n (at' Obj.PULSES_PER_100M i)) : Nat)
  let sp (i : Nat) : Int := d.o (at' Obj.SPEED_3450 i)
  let y := d.distOffset code
  let yawDist := om * y * 1048576 / 400000000
  let yawRate := om * y * 10 / 1000000
  match code with
  | 0 => (sg * d.ge.sog * 10 * 1048576 / 4000, sg * d.ge.sog * 10)
  | 4 => (sg * ((one 0 + one 1) / 2) + yawDist, sg * ((sp 0 + sp 1) / 2) + yawRate)
  | c => (sg * one (c - 1) + yawDist, sg * sp (c - 1) + yawRate)

/-- A row is held while it runs backward or too slowly, until it runs forward past its peak (R342). -/
def Dev.holdRow (d : Dev) (n : Nat) : Dev :=
  let t : TrackId := .row (Fin.ofNat 128 (n - 1))
  let r := d.rowOf n
  let v := d.value t
  let slow := d.o t.dirKey == 2 || decide (d.o t.rateKey < 10 * d.o Obj.ROW_V_MIN)
  if r.held then
    if !slow && decide (0 ≤ t.diff r.peak v) then
      (d.updRow n (fun r => { r with held := false, h := none })).setBit (el Obj.ROW_STATE n) 1 false
    else d
  else if slow then
    ((d.killRow n).updRow n (fun r => { r with held := true, last := none })).setBit (el Obj.ROW_STATE n) 1 true
  else d.updRow n (fun r => { r with peak := if 0 < t.diff r.peak v ∨ r.peak = 0 then v else r.peak })

/-- Row `n` advances with GND (R341). -/
def Dev.advanceRow (d : Dev) (n : Nat) (delta v : Int) (jump : Bool) : Dev :=
  let t : TrackId := .row (Fin.ofNat 128 (n - 1))
  let om := d.o Obj.YAW_RATE_8000
  let y := d.o (el Obj.ROW_Y n)
  let x := (d.rowOf n).rem + delta * 1048576 - om * y * 1048576 / 400000000
  let step := (x + 524288) / 1048576
  let d1 := d.updRow n (fun r => { r with rem := x - step * 1048576 })
  (d1.sourceUpdate t (d1.value t + step) (v - om * y * 10 / 1000000) jump).fireRow n 8

/-- The position moves on by dead reckoning, its history is kept, and it becomes invalid beyond DR_LIMIT (R335, R340). -/
def Dev.positionUpdate (d : Dev) (delta : Int) : Dev :=
  let g := d.ge
  let e := g.e + delta * 65536 / 10 * cosTurn g.theta / 2 ^ 30
  let n := g.n + delta * 65536 / 10 * sinTurn g.theta / 2 ^ 30
  let dr := g.drRem + delta.natAbs
  let d1 := ((((d.updGe (fun g => { g with
    e := e, n := n, hist := ((e, n) :: g.hist).take 4000, drRem := dr % 10, travel := g.travel + delta.natAbs })).setO Obj.POS_E
      (satI32 (e / 65536))).setO Obj.POS_N (satI32 (n / 65536))).setO Obj.DR_DISTANCE (satU32 (d.o Obj.DR_DISTANCE + (dr / 10 : Nat))))
  d1.when (d1.b Obj.POS_VALID && d1.o Obj.GNSS_STATE != 2 && decide (d1.o Obj.DR_LIMIT < d1.o Obj.DR_DISTANCE)) (fun d =>
    ((d.setB Obj.POS_VALID false).event 0xB2).raise 0x8230 true { ini := 0x28, acc := 5 })

/-- The writes of the ground range that act at an update: all but per-row data, and ROW_ENABLE 0 (R41, R352). -/
def geOwns (w : PWrite) : Bool :=
  keyIdx w.key / 4096 == 8 &&
    (!(decide (0x8010 ≤ keyIdx w.key) && decide (keyIdx w.key ≤ 0x8013)) || (keyIdx w.key == 0x8013 && w.val == 0))

/-- The delivered writes of an update. -/
def Dev.geWrites (d : Dev) : Dev :=
  (d.writes.filter geOwns).foldl (fun d w => d.applyWrite w) { d with writes := d.writes.filter (fun w => !(geOwns w)) }

/-- GE_UPDATE (R336 to R342, R351): 250 µs of the ground engine. -/
def Dev.geUpdate (d : Dev) : Dev :=
  let d1 := d.geWrites
  let rows := d1.n Obj.ROWS
  let all := (List.range 128).map (· + 1)
  let d2 := all.foldl (fun d n => d.when (!(d.b Obj.MASTER) || !(d.b (el Obj.ROW_ENABLE n)) || decide (rows < n)) (fun d => d.killRow n)) d1
  let d3 := d2.directionUpdate.headingUpdate
  let (d4, ps) := [0, 1, 2].foldl (fun (acc : Dev × List Nat) i => let (d, k) := acc.1.pulseUpdate i; (d, acc.2 ++ [k])) (d3, [])
  let src := d4.distSource
  let d5 := (d4.setO Obj.ACTIVE_DIST (src : Nat)).when (decide (src ≠ d4.n Obj.ACTIVE_DIST)) (fun d => d.event 0xB3)
  let d6 :=
    if src = 0xFF then d5
    else
      let (dist, v) := d5.distance src ps
      let x := d5.ge.rem + dist
      let delta := x / 1048576
      let jumps := d5.o (at' Obj.JUMPS 4)
      let d6 := (d5.updGe (fun g => { g with rem := x % 1048576 })).sourceUpdate .gnd (d5.value .gnd + delta) v false
      let jump := d6.o (at' Obj.JUMPS 4) != jumps
      let d7 := (all.foldl (fun d n => d.advanceRow n delta v jump) d6).positionUpdate delta
      d7.causeGone 0x8232
  let d7 := all.foldl (fun d m => d.dosesReached m) d6
  let d8 := if !(d7.b Obj.ROW_VALID) then all.foldl (fun d n => d.updRow n (fun r => { r with h := none, rDec := none, last := none })) d7
    else all.foldl (fun d n =>
      if rows < n then d
      else
        let d := d.holdRow n
        if (d.rowOf n).held then d else d.decideRow n) d7
  let la := [0, 1, 2, 3].foldl (fun m c => if d8.n (at' Obj.NODES_CFG c) = 0 then m else max m (d8.lookAhead (d8.n (at' Obj.T_CYC c)))) 0
  let still := !(d8.b (TrackId.gnd.rateKey)) && [0, 1, 2].all (fun i => d8.o (at' Obj.SPEED_3450 i) == 0)
  (d8.setO Obj.T_LA (la : Nat)).updGe (fun g => { g with still := if still then some (g.still.getD d8.wall) else none })

/-- GE_UPDATE (R338). -/
def execGeUpdate (s : State) : Host.Outcome State Fault Refusal := s.live (fun d => d.when (!(d.dead.contains 0x28)) (fun d => d.geUpdate))

/-- DIST_SOURCE_TIMEOUT (R340): no valid distance source for 200 ms. -/
def Dev.distTimeout (d : Dev) : Dev :=
  if d.distSource ≠ 0xFF then d
  else
    let d1 := (((d.setO Obj.ACTIVE_DIST 0xFF).loseTrack .gnd).loseTrack (.row 0)).raise 0x8232 true { ini := 0x28, acc := 5 }
    ((List.range 128).map (· + 1)).foldl (fun d n => d.killRow n) d1

/-- DIST_SOURCE_TIMEOUT (R340). -/
def execDistSourceTimeout (s : State) : Host.Outcome State Fault Refusal := s.live (fun d => d.distTimeout)

/-- GYRO_BIAS_ESTIMATE (R336): the mean yaw rate over 1 s, after 2 s at standstill. -/
def execGyroBiasEstimate (mean : Int) (s : State) : Host.Outcome State Fault Refusal :=
  s.live (fun d => d.when (d.ge.still.any (fun t => decide (t + 2000000000 ≤ d.wall))) (fun d => d.setO Obj.GYRO_BIAS (satI32 mean)))

/-! ### Inputs from the tractor network (R334, R335, R340) -/

/-- The antenna position of a fix as the position of the IRP, 2^-16 mm (R333). -/
def Dev.irpOf (d : Dev) (a : Int × Int) : Int × Int :=
  let x := d.o Obj.REF_X * 65536
  let y := d.o Obj.REF_Y * 65536
  match d.n Obj.MOUNT with
  | 0 =>
    let p := rot (d.tractorHeading.getD d.ge.theta) x y
    (a.1 + p.1, a.2 + p.2)
  | 1 =>
    let p := rot (d.tractorHeading.getD d.ge.theta) x y
    let t := rot d.ge.theta (d.o Obj.TONGUE_L * 65536) 0
    (a.1 + p.1 - t.1, a.2 + p.2 - t.2)
  | _ =>
    let p := rot d.ge.theta x y
    (a.1 - p.1, a.2 - p.2)

/-- The hitch point's speed and course between consecutive accepted fixes (R336). -/
def Dev.hitchUpdate (d : Dev) (a : Int × Int) : Dev :=
  if d.n Obj.MOUNT ≠ 1 then d
  else
    let p := rot (d.tractorHeading.getD d.ge.theta) (d.o Obj.REF_X * 65536) (d.o Obj.REF_Y * 65536)
    let h : Int × Int := (a.1 + p.1, a.2 + p.2)
    match d.ge.hitch, d.ge.fixAt with
    | some h0, some t0 =>
      let dt := max 1 (d.wall - t0)
      let dx := h.1 - h0.1
      let dy := h.2 - h0.2
      let len := isqrt (dx * dx + dy * dy).toNat
      d.updGe (fun g => { g with hitch := some h, vH := len * 1000000000 / (65536 * dt), chiH := angleOf dy dx })
    | _, _ => d.updGe (fun g => { g with hitch := some h, thetaK := g.theta })

/-- A fix accepted with its epoch (R335, R340). -/
def Dev.fixAccept (d : Dev) (method : Nat) (lat lon : Int) (time : Option Int) : Dev :=
  let d0 := if d.ge.originWaits ∧ d.o Obj.FIELD_LAT = 0 ∧ d.o Obj.FIELD_LON = 0 then
      ((d.setO Obj.FIELD_LAT lat).setO Obj.FIELD_LON lon).updGe (fun g => { g with originWaits := false }) else d
  let off := d0.o Obj.UTC_OFFSET
  let age := match time with
    | some t => (d0.wall : Int) - (t - off)
    | none => d0.o Obj.FIX_LATENCY * 1000000
  let d1 := match time with
    | some t => d0.when (decide (1000000 < (t - (d0.wall + off)).natAbs)) (fun d => d.setO Obj.UTC_OFFSET (t - d.wall))
    | none => d0
  let a := project (d1.o Obj.FIELD_LAT) (d1.o Obj.FIELD_LON) lat lon
  let p := d1.irpOf a
  let idx := min (d1.ge.hist.length - 1) (max 0 age / 250000).toNat
  let est := d1.ge.hist.getD idx (d1.ge.e, d1.ge.n)
  let part (x : Int) : Int := if method = 4 then x else x / 5
  let de := part (p.1 - est.1)
  let dn := part (p.2 - est.2)
  let d2 := (d1.hitchUpdate a).updGe (fun g => { g with
    e := g.e + de, n := g.n + dn, hist := g.hist.map (fun x => (x.1 + de, x.2 + dn)), fixAt := some d.wall, drRem := 0 })
  let d3 := (((d2.setO Obj.POS_E (satI32 (d2.ge.e / 65536))).setO Obj.POS_N (satI32 (d2.ge.n / 65536))).setO Obj.DR_DISTANCE 0).addSat Obj.FIXES
  let again := d3.o Obj.GNSS_STATE != 2 || !(d3.b Obj.POS_VALID)
  (((d3.setO Obj.GNSS_STATE 2).setB Obj.POS_VALID true).when again (fun d => d.event 0xB0)).causeGone 0x8230

/-- A position with its method: accepted at MIN_FIX and 40 ms after the last, else counted as rejected (R335). -/
def Dev.fix (d : Dev) (method : Nat) (lat lon : Int) (time : Option Int) : Dev :=
  if d.n Obj.MIN_FIX ≤ method ∧ d.ge.fixAt.all (fun t => decide (t + 40000000 ≤ d.wall)) = true then d.fixAccept method lat lon time
  else (d.addSat Obj.FIXES_REJECTED).when (d.o Obj.GNSS_STATE == 0) (fun d => d.setO Obj.GNSS_STATE 1)

/-- GNSS_FIX_FRAME (R334, R335): PGN 129029 from the peer of NAME `name`, positions in 10^-7 degree, UTC in ns. -/
def execGnssFixFrame (name method : Nat) (lat lon : Int) (time : Option Int) (s : State) : Host.Outcome State Fault Refusal :=
  s.serve (fun d =>
    let (d1, taken) := d.peerTakes 1 Obj.GNSS_NAME name
    d1.when taken (fun d => (d.updGe (fun g => { g with method := method, methodAt := some d.wall })).fix method lat lon time))

/-- POSITION_RAPID_FRAME (R334): PGN 129025, with the method of the last PGN 129029 received within 1 s. -/
def execPositionRapidFrame (name : Nat) (lat lon : Int) (s : State) : Host.Outcome State Fault Refusal :=
  s.serve (fun d =>
    let (d1, taken) := d.peerTakes 1 Obj.GNSS_NAME name
    d1.when taken (fun d => d.fix (if d.fresh d.ge.methodAt 1000000000 then d.ge.method else 0) lat lon none))

/-- COURSE_SPEED_FRAME (R334): PGN 129026, the course in angle units clockwise from north, the speed in mm/s. -/
def execCourseSpeedFrame (name cog sog : Nat) (s : State) : Host.Outcome State Fault Refusal :=
  s.serve (fun d =>
    let (d1, taken) := d.peerTakes 2 Obj.GNSS_NAME name
    d1.when taken (fun d => d.updGe (fun g => { g with cog := cog % 65536, sog := sog, cogAt := some d.wall })))

/-- HEADING_FRAME (R334): PGN 127250, angle units clockwise from north. -/
def execHeadingFrame (name head : Nat) (s : State) : Host.Outcome State Fault Refusal :=
  s.serve (fun d =>
    let (d1, taken) := d.peerTakes 3 Obj.GNSS_NAME name
    d1.when taken (fun d => d.updGe (fun g => { g with head := head % 65536, headAt := some d.wall })))

/-- MACHINE_SPEED_FRAME (R334): the ISO 11783-7 machine selected speed's direction. -/
def execMachineSpeedFrame (name : Nat) (forward : Bool) (s : State) : Host.Outcome State Fault Refusal :=
  s.serve (fun d =>
    let (d1, taken) := d.peerTakes 4 Obj.GNSS_NAME name
    d1.when taken (fun d => d.updGe (fun g => { g with mdir := forward, mdirAt := some d.wall })))

/-- BOM_GNSS_LOST (R340): no accepted fix for 1 s. -/
def execBomGnssLost (s : State) : Host.Outcome State Fault Refusal :=
  s.live (fun d => d.when (d.o Obj.GNSS_STATE == 2) (fun d => (d.setO Obj.GNSS_STATE 0).event 0xB1))

/-! ### Coverage map and job (R343, R344, R356) -/

/-- COVERAGE_MARK_COMMIT (R344): marks whose COMMIT_DIST of travel is over are written; a poisoned word takes none. -/
def Dev.commitMarks (d : Dev) : Dev :=
  let due (m : Nat × Nat) : Bool := decide (m.2 + 10 * d.n Obj.COMMIT_DIST ≤ d.ge.travel)
  let map := (d.ge.marks.filter (fun m => due m && !(d.marked 1 (m.1 / 32)))).foldl (fun l m => insertOnce m.1 l) d.ge.map
  (d.updGe (fun g => { g with map := map, marks := g.marks.filter (fun m => !(due m)) })).setO Obj.APPLIED_AREA
    (satU32 ((map.length : Int) * d.o Obj.CELL_SIZE * d.o Obj.CELL_SIZE / 1000000))

/-- COVERAGE_MARK_COMMIT (R344). -/
def execCoverageMarkCommit (s : State) : Host.Outcome State Fault Refusal := s.live (fun d => d.commitMarks)

/-- The start of a job: its first notices are shown again, and the field origin is awaited (R331, R345, R349). -/
def Dev.jobOpen (d : Dev) : Dev :=
  d.updGe (fun g => { g with
    outsideShown := false, baseShown := false, closing := false, originWaits := d.o Obj.FIELD_LAT == 0 && d.o Obj.FIELD_LON == 0 })

/-- A save starts: what changed since the last one goes to the log; a poisoned word is saved as all applied (R356). -/
def Dev.jobSave (d : Dev) (closing : Bool) : Dev :=
  let words := (d.markedIn 1 0 gridBase).flatMap (fun w => (List.range 32).map (fun i => 32 * w + i))
  (d.updGe (fun g => { g with saving := words.foldl (fun l c => insertOnce c l) g.map, closing := closing })).setO Obj.JOB_STATE 2

/-- A write of JOB_CTRL (R343, R356). -/
def Dev.jobCtrl (d : Dev) (v : Int) : Dev :=
  let st := d.n Obj.JOB_STATE
  match v with
  | 1 => if st ≠ 0 ∨ d.startBlocked .bom then d.res resState else (d.jobOpen.setO Obj.JOB_STATE 3).res 0
  | 2 =>
    if st ≠ 0 ∨ d.startBlocked .bom then d.res resState
    else ((((d.jobOpen.updGe (fun g => { g with map := [], marks := [] })).clearMarks 1 0 gridBase).setO Obj.APPLIED_AREA 0).setO Obj.JOB_STATE 1).res 0
  | 3 => if st ≠ 1 then d.res resState else (d.jobSave true).res 0
  | 4 => if st ≠ 1 then d.res resState else (d.jobSave false).res 0
  | _ => d.res resRange

/-- JOB_OPEN_KEEP (R356). -/
def execJobOpenKeep (s : State) : Host.Outcome State Fault Refusal := s.serve (fun d => d.jobCtrl 1)

/-- JOB_OPEN_CLEAR (R356). -/
def execJobOpenClear (s : State) : Host.Outcome State Fault Refusal := s.serve (fun d => d.jobCtrl 2)

/-- JOB_CLOSE_SAVE (R356). -/
def execJobCloseSave (s : State) : Host.Outcome State Fault Refusal := s.serve (fun d => d.jobCtrl 3)

/-- JOB_SAVE_NOW (R356). -/
def execJobSaveNow (s : State) : Host.Outcome State Fault Refusal := s.serve (fun d => d.jobCtrl 4)

/-- JOB_SAVE_PERIODIC (R356): SAVE_INTERVAL has passed with the job open. -/
def execJobSavePeriodic (s : State) : Host.Outcome State Fault Refusal :=
  s.serve (fun d => d.when (d.o Obj.JOB_STATE == 1) (fun d => d.jobSave false))

/-- BOM_JOB_SAVED (R356): a save ends with its commit record, or fails; a close then takes effect.  A committed save is copied to a
ready expansion device (R451). -/
def Dev.jobSaved (d : Dev) (ok : Bool) : Dev :=
  if d.o Obj.JOB_STATE ≠ 2 then d
  else if ok then
    (((d.updGe (fun g => { g with stored := g.saving, saving := [], closing := false })).setO Obj.JOB_STATE (if d.ge.closing then 0 else 1)).event 0xB8).when
      (d.b Obj.XP_ENABLE && [1, 3].contains (d.n Obj.XP_STATE)) (fun d => { d with flashJobs := d.flashJobs ++ [1] })
  else (((d.updGe (fun g => { g with saving := [], closing := false })).setO Obj.JOB_STATE 1).event 0xB9).raise 0x8037 false { ini := 0x02, acc := 2 }

/-- BOM_JOB_SAVED (R356). -/
def execBomJobSaved (ok : Bool) (s : State) : Host.Outcome State Fault Refusal := s.live (fun d => d.jobSaved ok)

/-- MAP_REBUILD_DONE (R356): the map is the base copy with every committed save. -/
def execMapRebuildDone (s : State) : Host.Outcome State Fault Refusal :=
  s.live (fun d => d.when (d.o Obj.JOB_STATE == 3) (fun d =>
    ((d.updGe (fun g => { g with map := g.stored })).setO Obj.JOB_STATE 1).setO Obj.APPLIED_AREA
      (satU32 ((d.ge.stored.length : Int) * d.o Obj.CELL_SIZE * d.o Obj.CELL_SIZE / 1000000))))

/-- A boundary block checked and stored; a rewrite ends the mark (R346, R347). -/
def Dev.boundariesWrite (d : Dev) (b : Bytes) : Dev :=
  if !(boundariesOk b) then d.res (if b.length = 8 + 4 * byteAt b 1 + 8 * u16At b 2 then 0x30000003 else 0x30000001)
  else ((((d.setBlk Obj.BOUNDARIES b).clearMarks 1 boundaryBase (wordsOf b.length)).setO Obj.BOUNDARY_STATUS
    (if b.isEmpty then 0 else 1)).causeGone 0x8236).res 0

/-- BOUNDARIES_WRITE (R346). -/
def execBoundariesWrite (b : Bytes) (s : State) : Host.Outcome State Fault Refusal := s.serve (fun d => d.boundariesWrite b)

/-- A grid block checked and stored (R348). -/
def Dev.gridWrite (d : Dev) (b : Bytes) : Dev :=
  if !(gridOk b) then d.res (if b.length = 20 + 2 * u16At b 2 * u16At b 4 then 0x30000003 else 0x30000001)
  else (((d.setBlk Obj.RX_GRID b).clearMarks 1 gridBase (wordsOf b.length)).setO Obj.RX_STATUS (if b.isEmpty then 0 else 1)).res 0

/-- RX_GRID_WRITE (R348). -/
def execRxGridWrite (b : Bytes) (s : State) : Host.Outcome State Fault Refusal := s.serve (fun d => d.gridWrite b)

/-- A write of MASTER (R352, R510). -/
def Dev.masterWrite (d : Dev) (v : Int) : Dev :=
  if v < 0 ∨ 1 < v then d.res resRange
  else if v = 1 ∧ d.startBlocked .bom then d.res resState
  else (d.deliver Obj.MASTER v).res 0

/-- MASTER_WRITE (R352). -/
def execMasterWrite (v : Int) (s : State) : Host.Outcome State Fault Refusal := s.serve (fun d => if v = 1 then d.allowed [] (fun d => d.masterWrite v) else d.masterWrite v)

/-- ROW_ENABLE_WRITE (R352). -/
def execRowEnableWrite (n : Fin 128) (v : Bool) (s : State) : Host.Outcome State Fault Refusal :=
  s.serve (fun d => (d.deliver (el Obj.ROW_ENABLE (n.val + 1)) (b2i v)).res 0)

end Sys2Proof.Machine
end

