-- ==== Sys2Proof/Machine/Chains.lean ====
section
/-! DEFINITION. The boom chains (R358 to R384): the frame as bytes, its build and its return, credits, losses, resync, joins,
and the mailbox.  Chain `c` has index `9000` + c, and its position `p` is node m = 32 * c + p (R369). -/

namespace Sys2Proof.Machine

/-! ### Frames as bytes (R359 to R363) -/

/-- The low `n` bytes of a value, most significant first (R359). -/
def beBytes (n : Nat) (x : Int) : Bytes := (leBytes n x).reverse

/-- The value of bytes, most significant first (R359). -/
def ofBe (b : Bytes) : Nat := ofLe b.reverse

/-- A slot or block with its CRC-16 behind it (R359). -/
def withCrc (b : Bytes) : Bytes := b ++ beBytes 2 (crc16Reg 0xFFFF b : Nat)

/-- Whether a slot or block of `n` bytes passes its CRC-16 (R359, R364). -/
def crc16Ok (n : Nat) (b : Bytes) : Bool :=
  b.length == n && ofBe (b.drop (n - 2)) == crc16Reg 0xFFFF (b.take (n - 2))

/-- `n` bytes of a frame from offset `i`. -/
def part (b : Bytes) (i n : Nat) : Bytes := (b.drop i).take n

/-- T_FRAME of a chain with `n` nodes, ns (R359). -/
def frameTime (n : Nat) : Nat := (30 + 36 * n) * 100

/-- The header (R360). -/
def headerBytes (cycle nodes : Nat) (join : Bool) (bc : Option (Nat × Nat × Nat × Nat)) : Bytes :=
  let j : Nat := if join then 128 else 0
  match bc with
  | some (groups, param, value, at_) =>
    withCrc ([1, cycle % 256, nodes, j + 64, groups, 64 + param % 64] ++ beBytes 2 value ++ [at_ % 256, 0])
  | none => withCrc [1, cycle % 256, nodes, j, 0, 0, 0, 0, 0, 0]

/-- A command slot (R361): value, rate, validity, resync, at most two entries, a cancel and a mailbox operation. -/
def slotBytes (value rate : Int) (valid resync : Bool) (es : List (Nat × Int)) (cancel : Option Nat) (mbx : Nat × Nat × Nat) : Bytes :=
  let e (i : Nat) : Bytes := match es.drop i with
    | (s, c) :: _ => s :: beBytes 4 c
    | [] => [0, 0, 0, 0, 0]
  let flags := (if valid then 128 else 0) + (if resync then 64 else 0) + 16 * min 2 es.length + (if cancel.isSome then 8 else 0)
  withCrc (beBytes 4 value ++ beBytes 3 rate ++ [flags] ++ e 0 ++ e 1 ++ [cancel.getD 0, 64 * mbx.1 + mbx.2.1 % 64] ++ beBytes 2 mbx.2.2)

/-- The join slot as the E960 sends it (R363). -/
def joinBytes (assign : Option (Nat × Nat)) : Bytes :=
  match assign with
  | some (serial, pos) => withCrc (beBytes 4 serial ++ [pos, 64])
  | none => withCrc [0, 0, 0, 0, 0, 0]

/-! ### Nodes and chains -/

/-- The hidden state of chain `c`. -/
def Dev.chainOf (d : Dev) (c : Nat) : ChainSt := Tab.get {} d.chains c

/-- The hidden state of chain `c` changed. -/
def Dev.updChain (d : Dev) (c : Nat) (f : ChainSt → ChainSt) : Dev := { d with chains := Tab.upd {} d.chains c f }

/-- The positions of chain `c` in use, 1 to NODES_CFG. -/
def Dev.positions (d : Dev) (c : Nat) : List Nat := (List.range (d.n (at' Obj.NODES_CFG c))).map (· + 1)

/-- NODE_STATE of node `m`. -/
def Dev.nodeState (d : Dev) (m : Nat) : Nat := d.n (el Obj.NODE_STATE m)

/-- Whether a position is absent: never there, or lost (R374, R377). -/
def Dev.nodeAway (d : Dev) (m : Nat) : Bool := d.nodeState m == 0 || d.nodeState m == 4

/-- Every entry sent to node `m` and not reported is written off: it counts in MISSED and leaves PENDING (R374). -/
def Dev.writeOff (d : Dev) (m : Nat) : Dev :=
  let k := (d.nodeOf m).out.length
  (d.updNode m (fun x => { x with out := [], cancel := none, cancels := [] })).doseMiss (d.n (el Obj.ROW m)) k 0 k

/-- Node `m` enters a resync (R376). -/
def Dev.resyncNode (d : Dev) (m : Nat) : Dev := ((d.writeOff m).setO (el Obj.NODE_STATE m) 2).setO (el Obj.CREDITS m) 0

/-- Node `m` is lost (R374). -/
def Dev.loseNode (d : Dev) (m : Nat) : Dev :=
  (((((d.writeOff m).setO (el Obj.CREDITS m) 0).setO (el Obj.NODE_STATE m) 4).addSat (el Obj.LOSSES_9107 m)).event 0xC3).raise
    0x8240 true { addr := m, ini := 0x29 + (m - 1) / 64, acc := 6 }

/-- The cause of fault 0x8240 is gone when no node is lost (R376). -/
def Dev.lossOver (d : Dev) : Dev :=
  d.when (((List.range 128).map (· + 1)).all (fun m => d.nodeState m != 4)) (fun d => d.causeGone 0x8240)

/-- Node `m` runs after its resync (R376); the E960 then reads its serial number and forwarding delay. -/
def Dev.joinNode (d : Dev) (m : Nat) : Dev :=
  (((((d.setO (el Obj.CREDITS m) 8).setO (el Obj.NODE_STATE m) 3).updNode m (fun x => { x with
    done := 0, met := 0, ask := [(2, false, 0), (3, false, 0), (6, false, 0)] ++ x.ask })).event 0xC2)).lossOver

/-- PRESENT, and STATE 2 or 3 of a chain whose frames return (R368). -/
def Dev.showChain (d : Dev) (c : Nat) : Dev :=
  let bits : Nat := (d.positions c).foldl (fun b p => if d.nodeState (32 * c + p) = 3 then b + 2 ^ (p - 1) else b) 0
  let d1 := d.setO (at' Obj.PRESENT c) (bits : Int)
  if [2, 3].contains (d1.n (at' Obj.STATE_9000 c)) then
    d1.setO (at' Obj.STATE_9000 c) (if (d.positions c).any (fun p => d.nodeAway (32 * c + p) || d.nodeState (32 * c + p) == 1) then 3 else 2)
  else d1

/-- The cause of fault 0x8241 is gone when no chain is down (R375). -/
def Dev.chainsUp (d : Dev) : Dev :=
  d.when ([0, 1, 2, 3].all (fun c => d.n (at' Obj.STATE_9000 c) != 4)) (fun d => d.causeGone 0x8241)

/-- A chain goes down (R367, R375). -/
def Dev.chainDown (d : Dev) (c : Nat) : Dev :=
  ((d.setO (at' Obj.STATE_9000 c) 4).event 0xC1).raise 0x8241 true { ini := 0x29 + c / 2, acc := 6 }

/-- A CRC error on chain `c`; more than 10 within 1 s are reported (R364). -/
def Dev.chainCrc (d : Dev) (c : Nat) : Dev :=
  let at_ := (d.wall :: (d.chainOf c).crcAt).filter (fun t => decide (d.wall < t + 1000000000))
  let many := decide (10 < at_.length) && (d.chainOf c).crcShown.all (fun t => decide (t + 1000000000 ≤ d.wall))
  (((d.addSat (at' Obj.CRC_ERRORS c)).updChain c (fun x => { x with
    crcAt := at_, crcShown := if many then some d.wall else x.crcShown })).when many (fun d =>
      (d.event 0xC4).raise 0x8042 false { ini := 0x29 + c / 2, acc := 6 }))

/-! ### The build of a frame (R365, R366, R370, R372) -/

/-- The objects that a frame build of chain `c` applies (R41). -/
def chainOwns (c k : Nat) : Bool :=
  keyIdx k == 0x9000 + c || (decide (0x9100 ≤ keyIdx k) && decide (keyIdx k ≤ 0x9108) && (keySub k - 1) / 32 == c)

/-- Whether BOM keeps every section off and sends nothing: a Domain-stop of BOM, a Safe-state or a Lockout (R383). -/
def Dev.bomStopped (d : Dev) : Bool := decide (3 ≤ d.domainState .bom)

/-- d_p of position `p` on chain `c`, ns (R366). -/
def Dev.nodeDelay (d : Dev) (c p : Nat) : Nat :=
  let sum (n : Nat) : Nat := (List.range n).foldl (fun s i => s + (d.nodeOf (32 * c + i + 1)).fwd) 0
  let n := d.n (at' Obj.NODES_CFG c)
  sum (p - 1) + p * (d.n (at' Obj.RING_DELAY c) - sum n) / (n + 1)

/-- ROW_VALUE for an instant `dt` ns from now, and ROW_RATE within I24 (R361, R366). -/
def Dev.slotValue (d : Dev) (row dt : Nat) : Int × Int :=
  if row = 0 then (0, 0)
  else
    let t : TrackId := .row (Fin.ofNat 128 (row - 1))
    let k := d.trk t
    let rate := d.o t.rateKey
    let since : Int := if k.holding then 0 else (d.wall : Int) - k.at_
    (t.wrap (d.value t + (rate * (since + dt) + k.rem) / 1000000000), clampI (-8388608) 8388607 rate)

/-- Whether housekeeping must wait: in TB2 and TB3 at most one frame of so many cycles carries any (R542). -/
def Dev.houseHeld (d : Dev) (c : Nat) : Bool :=
  let n := d.pauseLen Obj.PAUSE_CHAIN_TB2
  n != 0 && (d.chainOf c).house.any (fun f => f != (d.chainOf c).frame && decide ((d.chainOf c).frame < f + n))

/-- The mailbox operation that the slot of node `m` carries (R378 to R380). -/
def Dev.slotMbx (d : Dev) (c m : Nat) : Nat × Nat × Nat :=
  if (d.chainOf c).learn then (2, 4, (d.nodeOf m).hop + 1)
  else if d.houseHeld c then (0, 0, 0)
  else if d.mbx.busy && d.mbx.node == m then (if d.mbx.write then 2 else 1, d.mbx.param, if d.mbx.write then d.mbx.data else 0)
  else match (d.nodeOf m).ask with
    | (p, w, v) :: _ => (if w then 2 else 1, p, if w then v else 0)
    | [] => (0, 0, 0)

/-- The command slot of position `p`: its entries leave the waiting list and cost a credit each; an injection
inverts its CRC (R361, R370, R372, R383, R530). -/
def Dev.buildSlot (d : Dev) (c p : Nat) : Dev × Bytes :=
  let m := 32 * c + p
  let row := d.n (el Obj.ROW m)
  let x := d.nodeOf m
  let f := (d.chainOf c).frame
  let stop := d.bomStopped
  let sends := d.nodeState m == 3 && x.good && d.n (at' Obj.STATE_9000 c) != 4 && !stop
  let es := if sends then x.wait.take (min 2 (d.n (el Obj.CREDITS m))) else []
  let new := (List.range es.length).map (fun i => ((x.seq + i) % 256, f, es.getD i 0))
  let cancel := if d.nodeState m ≠ 3 then none else if stop then x.out.head?.map (fun e => e.1) else x.cancel
  let (v, r) := d.slotValue row (20000 + frameTime (d.n (at' Obj.NODES_CFG c)) + d.nodeDelay c p)
  let b0 := slotBytes v r (d.b Obj.ROW_VALID) (d.nodeState m == 2) (new.map (fun e => (e.1, e.2.2))) cancel (d.slotMbx c m)
  let bad := d.crcInject.any (fun e => e.1 == m)
  let b := if bad then b0.take (b0.length - 2) ++ (b0.drop (b0.length - 2)).map (fun x => 255 - x) else b0
  let keep := x.cancels.filter (fun e => decide (f ≤ e.1 + 1))
  let d1 := d.updNode m (fun x => { x with
    wait := x.wait.drop es.length, out := x.out ++ new, seq := (x.seq + es.length) % 256, cancel := none,
    cancels := match cancel with
      | some s => (f, s) :: keep
      | none => keep })
  let d2 := d1.when bad (fun d => { d with crcInject := d.crcInject.bind (fun e => if e.2 ≤ 1 then none else some (e.1, e.2 - 1)) })
  (d2.setO (el Obj.CREDITS m) (d2.o (el Obj.CREDITS m) - es.length), b)

/-- The section block (R363, R375, R383). -/
def Dev.sectionBytes (d : Dev) (c : Nat) : Bytes :=
  let off := d.bomStopped || d.n (at' Obj.STATE_9000 c) == 4
  let on (p : Nat) : Bool := let row := d.n (el Obj.ROW (32 * c + p)); !off && row != 0 && bitOf (d.o (el Obj.ROW_STATE row)) 0
  let bits : Nat := (d.positions c).foldl (fun (b : Nat) p => if on p then b + 2 ^ (p - 1) else b) 0
  withCrc (beBytes 4 (bits : Int))

/-- The broadcast of a frame with this CYCLE: it stays in force until its BCAST_AT, and then every running member is asked for
the value (R379). -/
def Dev.buildBcast (d : Dev) (c cycle : Nat) : Dev × Option (Nat × Nat × Nat × Nat) :=
  match (d.chainOf c).bcast with
  | none => (d, none)
  | some (g, p, v, at_) =>
    let a := at_.getD ((cycle + 2) % 256)
    let last := a == cycle % 256
    let d1 := d.updChain c (fun x => { x with bcast := if last then none else some (g, p, v, some a) })
    let d2 := if !last then d1 else (d1.positions c).foldl (fun d q =>
      let m := 32 * c + q
      d.when (d.nodeState m == 3 && Nat.land (d.n (el Obj.GROUPS m)) g != 0) (fun d =>
        d.updNode m (fun x => { x with ask := x.ask ++ [(p, false, v + 1)] }))) d1
    (d2, some (g, p, v, a))

/-- The frame of chain `c` is built and sent (R365 steps 1 to 4). -/
def Dev.buildFrame (d : Dev) (c : Nat) : Dev :=
  let d0 := (d.applyWrites (chainOwns c))
  if !((d0.chainOf c).up) || d0.dead.contains (0x29 + c / 2) then d0
  else
    let d1 := ((d0.positions c).foldl (fun d p => d.dosesReached (32 * c + p)) d0).updChain c (fun x => { x with frame := x.frame + 1 })
    let d2 := d1.addWrap (at' Obj.CYCLES_9000 c)
    let cycle := d2.n (at' Obj.CYCLES_9000 c) % 256
    let n := d2.n (at' Obj.NODES_CFG c)
    let join := d2.b (at' Obj.JOIN_ENABLE c) && (d2.positions c).any (fun p => d2.nodeAway (32 * c + p))
    let (d3, bc) := d2.buildBcast c cycle
    let (d4, slots) := (d3.positions c).foldl (fun (acc : Dev × Bytes) p =>
      let (d, b) := acc.1.buildSlot c p; (d, acc.2 ++ b)) (d3, [])
    let returns := ((d4.positions c).map (fun _ => withCrc (List.replicate 10 0))).flatten
    let held := d4.houseHeld c
    let house := !held && ((d4.chainOf c).assign.isSome || (d2.positions c).any (fun p => (d2.slotMbx c (32 * c + p)).1 != 0))
    d4.updChain c (fun x => { x with
      assign := if held then x.assign else none, learn := false, house := if house then some x.frame else x.house
      bytes := headerBytes cycle n join bc ++ slots ++ returns ++ joinBytes (if held then none else x.assign) ++ d4.sectionBytes c })

/-- CHAIN_BUILD (R365). -/
def execChainBuild (c : Fin 4) (s : State) : Host.Outcome State Fault Refusal := s.live (fun d => d.buildFrame c)

/-! ### The return of a frame (R364, R371 to R378) -/

/-- The answer of node `m` to a mailbox operation: the user's request ends, or the E960's own (R379 to R381). -/
def Dev.mbxAnswer (d : Dev) (m status param data : Nat) : Dev :=
  if status = 0 ∨ status = 3 then d
  else
    let d1 :=
      if status ≠ 1 then d
      else match param with
        | 2 => d.setO (el Obj.SERIAL_9103 m) ((d.n (el Obj.SERIAL_9103 m) / 65536 * 65536 + data : Nat) : Int)
        | 3 => d.setO (el Obj.SERIAL_9103 m) ((d.n (el Obj.SERIAL_9103 m) % 65536 + 65536 * data : Nat) : Int)
        | 5 => d.setO (el Obj.NODE_FAULT m) (data : Int)
        | 6 => d.updNode m (fun x => { x with fwd := data })
        | _ => d
    if d1.mbx.busy && d1.mbx.node == m && d1.mbx.param == param then
      (({ d1 with mbx := {} }).setO Obj.MBX_STATUS (if status = 1 then 2 else 3)).when (status == 1) (fun d => d.setO Obj.MBX_DATA (data : Int))
    else match (d1.nodeOf m).ask with
      | (p, w, v) :: t =>
        if p ≠ param then d1
        else d1.updNode m (fun x => { x with ask := if !w && v != 0 && status == 1 && data + 1 != v then (p, true, v - 1) :: t else t })
      | [] => d1

/-- The reports of a running node (R371), then its queue count (R373).  `f` is the frame that returns. -/
def Dev.reports (d : Dev) (m f done met rxErr queued cancelled : Nat) : Dev :=
  let row := d.n (el Obj.ROW m)
  let x := d.nodeOf m
  let rise := (done + 256 - x.done) % 256
  let up := (met + 256 - x.met) % 256
  let rest := rise - up
  let d1 := ((d.setO (el Obj.CREDITS m) (min 8 (d.n (el Obj.CREDITS m) + rise) : Nat)).updNode m (fun x => { x with
    done := done, met := met, out := x.out.drop rise })).doseMetered row up
  let d2 := d1.doseMiss row rest (min rest cancelled) rest
  let d3 :=
    if rxErr = 0 then d2
    else
      let k := ((d2.nodeOf m).out.filter (fun e => e.2.1 + 1 == f)).length
      let again := ((d2.nodeOf m).cancels.find? (fun e => e.1 + 1 == f)).map (fun e => e.2)
      ((d2.setO (el Obj.CREDITS m) (min 8 (d2.n (el Obj.CREDITS m) + k) : Nat)).updNode m (fun x => { x with
        out := x.out.filter (fun e => e.2.1 + 1 != f), cancel := if again.isSome then again else x.cancel })).doseMiss row k 0 k
  if queued = ((d3.nodeOf m).out.filter (fun e => decide (e.2.1 < f))).length then d3
  else ((d3.resyncNode m).event 0xC7).raise 0x8046 false { addr := m, ini := 0x29 + (m - 1) / 64, acc := 6 }

/-- A good return slot of node `m` at position `p` of chain `c` (R362, R371, R376, R378, R381). -/
def Dev.goodSlot (d : Dev) (c p : Nat) (b : Bytes) : Dev :=
  let m := 32 * c + p
  let ini := 0x29 + c / 2
  let fl := byteAt b 2
  let bit (i : Nat) : Bool := fl / 2 ^ i % 2 == 1
  let hop := byteAt b 3
  let done := byteAt b 0
  let met := byteAt b 1
  let queued := byteAt b 6 % 16
  let res := [byteAt b 6 / 64, byteAt b 6 / 16 % 4]
  let st := d.nodeState m
  let d1 := ((d.updNode m (fun x => { x with good := true, silent := 0, hop := hop })).setO (el Obj.QUEUED m) (queued : Int)).when (bit 4)
    (fun d => (d.addSat (el Obj.SLOT_ERRORS m)).when (d.o Obj.STATE_2320 == 1 && d.o Obj.TARGET_2320 == 3 && d.n Obj.SELECT == m) (fun d =>
      d.setO Obj.STATE_2320 2))
  let d2 :=
    if st = 3 then d1.reports m (d1.chainOf c).frame done met (if bit 4 then 1 else 0) queued (res.filter (· == 3)).length
    else if st = 2 then d1.when (bit 3 && queued == 0 && done == 0) (fun d => d.joinNode m)
    else d1.resyncNode m
  let was := (d2.nodeOf m).fault
  let now := bit 5
  let d3 := d2.updNode m (fun x => { x with fault := now })
  let d4 :=
    if now && !was then ((d3.updNode m (fun x => { x with ask := (5, false, 0) :: x.ask })).event 0xC9).raise 0x8245 true { addr := m, ini := ini, acc := 6 }
    else if was && !now then (d3.setO (el Obj.NODE_FAULT m) 0).when (((List.range 128).map (· + 1)).all (fun q => !(d3.nodeOf q).fault))
      (fun d => d.causeGone 0x8245)
    else d3
  let away := ((d4.positions c).filter (fun q => decide (q < p) && d4.nodeAway (32 * c + q))).length
  let mism := bit 2 && hop + 1 + away != p
  let d5 := (d4.when (mism && !(d4.nodeOf m).mism) (fun d => (d.event 0xC6).raise 0x8044 false { addr := m, ini := ini, acc := 6 })).updNode m
    (fun x => { x with mism := mism })
  d5.mbxAnswer m (byteAt b 7 / 64) (byteAt b 7 % 64) (256 * byteAt b 8 + byteAt b 9)

/-- An unwritten return slot of node `m` (R374). -/
def Dev.emptySlot (d : Dev) (c p : Nat) : Dev :=
  let m := 32 * c + p
  let d1 := d.updNode m (fun x => { x with good := false, silent := x.silent + 1 })
  d1.when (!(d1.nodeAway m) && decide (d1.n (at' Obj.LOSS_CYCLES c) ≤ (d1.nodeOf m).silent)) (fun d => d.loseNode m)

/-- The return slot of position `p` in a frame with a good header (R364, R374). -/
def Dev.returnSlot (d : Dev) (c p : Nat) (b : Bytes) : Dev :=
  if !(crc16Ok 12 b) then ((d.chainCrc c).addSat (el Obj.SLOT_ERRORS (32 * c + p))).emptySlot c p
  else if byteAt b 2 / 128 = 1 then d.goodSlot c p b
  else d.emptySlot c p

/-- A join request: exactly one absent position must lie between the requester's present neighbours (R377). -/
def Dev.joinRequest (d : Dev) (c serial hop : Nat) : Dev :=
  let n := d.n (at' Obj.NODES_CFG c)
  let there := (d.positions c).filter (fun p => (d.nodeOf (32 * c + p)).good)
  let hopOf (p : Nat) : Nat := (d.nodeOf (32 * c + p)).hop
  let before := (there.filter (fun p => decide (hopOf p < hop))).foldl (fun (a : Option Nat) p =>
    if a.any (fun q => decide (hopOf p < hopOf q)) then a else some p) none
  let after := (there.filter (fun p => decide (hop < hopOf p))).foldl (fun (a : Option Nat) p =>
    if a.any (fun q => decide (hopOf q < hopOf p)) then a else some p) none
  match (d.positions c).filter (fun p => decide (before.getD 0 < p) && decide (p < after.getD (n + 1)) && d.nodeAway (32 * c + p)) with
  | [p] => ((d.updChain c (fun x => { x with assign := some (serial, p) })).setO (el Obj.NODE_STATE (32 * c + p)) 1).setO
      (el Obj.SERIAL_9103 (32 * c + p)) (serial : Int)
  | _ => (d.event 0xC5).raise 0x8043 false { ini := 0x29 + c / 2, acc := 6 }

/-- A frame returns with the delay of its release (R365 steps 6 and 7, R371). -/
def Dev.frameReturn (d : Dev) (c delay : Nat) (b : Bytes) : Dev :=
  if !((d.chainOf c).up) || (d.chainOf c).bytes.isEmpty then d
  else
    let n := d.n (at' Obj.NODES_CFG c)
    let d0 := (d.setO (at' Obj.RING_DELAY c) (delay : Int)).updChain c (fun x => { x with noReturn := 0 })
    if !(crc16Ok 12 (part b 0 12)) then ((d0.positions c).foldl (fun d p => d.emptySlot c p) (d0.chainCrc c)).showChain c
    else
      let st := d0.n (at' Obj.STATE_9000 c)
      let d1 := d0.setO (at' Obj.HOPS c) (byteAt b 9 : Nat)
      if st = 1 ∧ 1000 * d.n (at' Obj.T_CYC c) < frameTime n + delay + 30000 then
        (d1.chainDown c).updChain c (fun x => { x with up := false })
      else
        let d2 := d1.when (st == 1 || st == 4) (fun d => ((d.setO (at' Obj.STATE_9000 c) 3).event 0xC0).chainsUp)
        let d3 := (d2.positions c).foldl (fun d p => d.returnSlot c p (part b (12 + 24 * n + 12 * (p - 1)) 12)) d2
        let j := part b (12 + 36 * n) 8
        let d4 := if !(crc16Ok 8 j) then d3.chainCrc c
          else d3.when (byteAt j 5 / 128 == 1) (fun d => d.joinRequest c (ofBe (j.take 4)) (byteAt j 4))
        let d5 := d4.when (!(crc16Ok 6 (part b (20 + 36 * n) 6))) (fun d => d.chainCrc c)
        d5.showChain c

/-- CHAIN_RETURN (R371): the frame as it comes back, and the delay of its release (ns). -/
def execChainReturn (c : Fin 4) (delay : Nat) (frame : Bytes) (s : State) : Host.Outcome State Fault Refusal :=
  s.live (fun d => d.frameReturn c delay frame)

/-- A release has not returned by T_FRAME + 100 µs (R375). -/
def Dev.returnMissing (d : Dev) (c : Nat) : Dev :=
  if !((d.chainOf c).up) then d
  else
    let d1 := ((d.positions c).foldl (fun d p => d.updNode (32 * c + p) (fun x => { x with good := false })) d).updChain c
      (fun x => { x with noReturn := x.noReturn + 1 })
    if (d1.chainOf c).noReturn < d1.n (at' Obj.LOSS_CYCLES c) ∨ d1.n (at' Obj.STATE_9000 c) = 4 then d1
    else (((d1.positions c).foldl (fun d p => d.when (!(d.nodeAway (32 * c + p))) (fun d => d.loseNode (32 * c + p))) d1).chainDown c).showChain c

/-- CHAIN_RETURN_TIMEOUT (R375). -/
def execChainReturnTimeout (c : Fin 4) (s : State) : Host.Outcome State Fault Refusal := s.live (fun d => d.returnMissing c)

/-! ### CHAIN_CTRL (R367, R368, R378) -/

/-- Every node of a chain stands absent, with what it was sent written off. -/
def Dev.chainClear (d : Dev) (c : Nat) : Dev :=
  ((d.positions c).foldl (fun d p =>
    let m := 32 * c + p
    (((d.writeOff m).setO (el Obj.NODE_STATE m) 0).setO (el Obj.CREDITS m) 0).updNode m (fun x =>
      { wait := x.wait, fwd := x.fwd, seq := x.seq })) d).setO (at' Obj.PRESENT c) 0

/-- A write of CHAIN_CTRL of chain `c` (R367, R368, R378). -/
def Dev.chainCtrl (d : Dev) (c : Nat) (v : Int) : Dev :=
  let st := d.n (at' Obj.STATE_9000 c)
  match v with
  | 1 =>
    let d0 := d.applyWrites (chainOwns c)
    let n := d0.n (at' Obj.NODES_CFG c)
    if (st ≠ 0 ∧ st ≠ 4) ∨ n = 0 ∨ d.startBlocked .bom then d.res resState
    else
      let d1 := (d0.chainClear c).updChain c (fun x => { crcAt := x.crcAt, crcShown := x.crcShown, bcast := x.bcast })
      if 1000 * d0.n (at' Obj.T_CYC c) < frameTime n + d0.n (at' Obj.RING_DELAY c) + 30000 then (d1.chainDown c).res 0
      else ((d1.setO (at' Obj.STATE_9000 c) 1).updChain c (fun x => { x with up := true })).chainsUp.lossOver.res 0
  | 2 => (((d.chainClear c).updChain c (fun x => { x with up := false, bytes := [], assign := none, learn := false })).setO
      (at' Obj.STATE_9000 c) 0).chainsUp.lossOver.res 0
  | 3 =>
    if d.b Obj.MASTER ∨ (st ≠ 2 ∧ st ≠ 3) then d.res resState
    else if d.n (at' Obj.HOPS c) ≠ d.n (at' Obj.NODES_CFG c) then
      ((d.event 0xC5).raise 0x8043 false { ini := 0x29 + c / 2, acc := 6 }).res 0
    else (((d.positions c).foldl (fun d p => d.resyncNode (32 * c + p)) d).updChain c (fun x => { x with learn := true })).lossOver.res 0
  | _ => d.res resRange

/-- CHAIN_START (R367). -/
def execChainStart (c : Fin 4) (s : State) : Host.Outcome State Fault Refusal := s.serve (fun d => d.allowed [10] (fun d => d.chainCtrl c 1))

/-- CHAIN_STOP (R368). -/
def execChainStop (c : Fin 4) (s : State) : Host.Outcome State Fault Refusal := s.serve (fun d => d.chainCtrl c 2)

/-- CHAIN_LEARN (R378). -/
def execChainLearn (c : Fin 4) (s : State) : Host.Outcome State Fault Refusal := s.serve (fun d => d.chainCtrl c 3)

/-! ### The mailbox (R380) -/

/-- A write of the mailbox's CTRL (R380). -/
def Dev.mbxCtrl (d : Dev) (v : Int) : Dev :=
  if v < 1 ∨ 2 < v then d.res resRange
  else if d.mbx.busy then d.res resBusy
  else if v = 2 ∧ d.n Obj.MBX_PARAM = 4 then d.res resCombination
  else (({ d with mbx := { node := d.n Obj.MBX_NODE, param := d.n Obj.MBX_PARAM, data := d.n Obj.MBX_DATA, write := v == 2, busy := true } }).setO
    Obj.MBX_STATUS 1).res 0

/-- MAILBOX_READ (R380). -/
def execMailboxRead (s : State) : Host.Outcome State Fault Refusal := s.serve (fun d => d.mbxCtrl 1)

/-- MAILBOX_WRITE (R380). -/
def execMailboxWrite (s : State) : Host.Outcome State Fault Refusal := s.serve (fun d => d.mbxCtrl 2)

/-- BOM_MBX_TIMEOUT (R380): 8 cycles without an answer. -/
def execBomMbxTimeout (s : State) : Host.Outcome State Fault Refusal :=
  s.live (fun d => d.when d.mbx.busy (fun d => (({ d with mbx := {} }).setO Obj.MBX_STATUS 4).event 0xCA))

end Sys2Proof.Machine
end

