-- ==== Sys2Proof/Machine/Network.lean ====
section
/-! DEFINITION. The network ports, the closing of sessions, the ISO 11783 roles and the notification maps (R385 to R410); the
opening of sessions and the object accesses stand in Access.lean. -/

namespace Sys2Proof.Machine

/-! ### Ports (R385 to R387) -/

/-- Whether the port a unit came over is off under the ENABLES of the bank in force (R484): bit 11 ETH, bit 12 HSP. -/
def Dev.portOff (d : Dev) (p : Path) : Bool :=
  d.fuse.inForce && match p with
    | .canb => false
    | .eth => !(bitOf (d.fuse.enables : Int) 11)
    | .hsp => !(bitOf (d.fuse.enables : Int) 12)

/-- CAN_BUS_OFF (R387): controller `port`, 0 CANA, 1 CANB. -/
def execCanBusOff (port : Fin 2) (s : State) : Host.Outcome State Fault Refusal :=
  s.serve (fun d =>
    let at_ := (port.val, d.wall) :: d.busOffAt.filter (fun e => decide (d.wall < e.2 + 10000000000))
    let third := decide (3 ≤ (at_.filter (fun e => e.1 == port.val)).length)
    ((({ d with
      busOff := insertOnce port.val d.busOff, busOffAt := at_
      busSlow := if third then insertOnce port.val d.busSlow else d.busSlow }).addSat
        (if port.val = 0 then Obj.CANA_BUSOFF else Obj.CANB_BUSOFF)).event 0xDB).raiseOn 0x90D1 .sys false { ini := 0x02, acc := 6 })

/-- BUS_OFF_RECOVERY (R387): the controller rejoins. -/
def execBusOffRecovery (port : Fin 2) (s : State) : Host.Outcome State Fault Refusal :=
  s.serve (fun d => { d with busOff := d.busOff.filter (· != port.val) })

/-- NET_ETH_LINK (R387). -/
def execNetEthLink (up : Bool) (s : State) : Host.Outcome State Fault Refusal :=
  s.serve (fun d =>
    if d.b Obj.ETH_LINK = up then d
    else ((d.setB Obj.ETH_LINK up).event 0xDC).when (!up) (fun d => d.raiseOn 0x90D5 .sys false { ini := 0x02, acc := 6 }))

/-- UNIT_DISCARD (R387). -/
def execUnitDiscard (s : State) : Host.Outcome State Fault Refusal := s.serve (fun d => d.addSat Obj.UNIT_DISCARDS)

/-- ARP_REQUEST (R385): a request for the E960's own address is answered. -/
def execArpRequest (ip : Nat) (s : State) : Host.Outcome State Fault Refusal :=
  s.serve (fun d => d.when (d.b Obj.ETH_LINK && !(d.portOff .eth) && ip == d.n Obj.IP_ADDR) (fun d => { d with ethSent := some (1, leBytes 4 (ip : Int)) }))

/-- ICMP_ECHO_REQUEST (R385): the reply carries the request's payload. -/
def execIcmpEchoRequest (ip : Nat) (payload : Bytes) (s : State) : Host.Outcome State Fault Refusal :=
  s.serve (fun d => d.when (d.b Obj.ETH_LINK && !(d.portOff .eth) && ip == d.n Obj.IP_ADDR) (fun d => { d with ethSent := some (2, payload) }))

/-! ### Units (R388, R389) -/

/-- The number of a path in SESSION_PATH (R396). -/
def pathNum : Path → Nat
  | .canb => 1 | .eth => 2 | .hsp => 3

/-- The 12-byte header of a unit (R389); `flags` is 2 for LAST and 1 for END. -/
def unitHeader (op session len flags seq index sub : Nat) : Bytes :=
  [op, session, len % 256, 64 * flags] ++ leBytes 4 (seq : Int) ++ leBytes 2 (index : Int) ++ [sub, 0]

/-- The MAC of a unit under a session key, `dir` 0 towards the E960 and 1 from it (R395). -/
def unitMac (key : Bytes) (dir : Nat) (header data : Bytes) : Bytes := (Config.aesCmac key ([dir] ++ header ++ data)).take 8

/-! ### The end of a session (R394 to R396) -/

/-- The hidden state of session `s`. -/
def Dev.sess (d : Dev) (s : Nat) : Session := Tab.get {} d.sessions s

/-- The hidden state of session `s` changed. -/
def Dev.updSess (d : Dev) (s : Nat) (f : Session → Session) : Dev := { d with sessions := Tab.upd {} d.sessions s f }

/-- SESSION_STATE of session `s`. -/
def Dev.sessState (d : Dev) (s : Nat) : Nat := d.n (el Obj.SESSION_STATE s)

/-- The maps of session `s` disabled (R396). -/
def Dev.disableMaps (d : Dev) (s : Nat) : Dev :=
  (List.range 64).foldl (fun d k => d.when (d.n (at' Obj.SESSION k) == s) (fun d => d.setO (at' Obj.ENABLE_1800 k) 0)) d

/-- An image update ends with its session, COMMIT unset (R502). -/
def Dev.endUpdate (d : Dev) (s : Nat) : Dev :=
  d.when (d.update.owner == s && [1, 2, 3].contains (d.n Obj.IMG_STATE)) (fun d => { d with update := {} }.setO Obj.IMG_STATE 0)

/-- A courier of a session that is over has nobody to answer. -/
def Courier.orphan (s : Nat) (c : Courier) : Courier := if c.session = s then { c with head := [] } else c

/-- The number of session `s` free, its keys and staging gone. -/
def Dev.freeSession (d : Dev) (s : Nat) : Dev :=
  ((((({ d with sessions := Tab.del d.sessions s, couriers := d.couriers.map (fun (e : Nat × Courier) => (e.1, e.2.orphan s)) }).setO (el Obj.SESSION_STATE s) 0).setO (el Obj.SESSION_ROLE s) 0).setO
    (el Obj.SESSION_PATH s) 0).setO (el Obj.SESSION_PEER s) 0).endUpdate s

/-- An open session closes (R396). -/
def Dev.closeSession (d : Dev) (s : Nat) : Dev :=
  if d.sessState s = 2 then ((d.freeSession s).disableMaps s).event 0xD7 else d.freeSession s

/-- Every session closes by a reset or a life-cycle change, which raises no event (R396). -/
def Dev.closeAllSessions (d : Dev) : Dev :=
  [1, 2, 3, 4, 5, 6, 7, 8].foldl (fun d s => (d.freeSession s).disableMaps s) d

/-- STAGING_TIMEOUT (R391). -/
def execStagingTimeout (n : Fin 8) (s : State) : Host.Outcome State Fault Refusal :=
  s.serve (fun d => d.updSess (n.val + 1) (fun x => { x with staging := none }))

/-- AUTH_TIMEOUT (R394): no AUTH within 2 s. -/
def execAuthTimeout (n : Fin 8) (s : State) : Host.Outcome State Fault Refusal :=
  s.serve (fun d => d.when (d.sessState (n.val + 1) == 1) (fun d => d.freeSession (n.val + 1)))

/-- SESSION_IDLE_TIMEOUT (R396). -/
def execSessionIdleTimeout (n : Fin 8) (s : State) : Host.Outcome State Fault Refusal :=
  s.serve (fun d => d.when (d.sessState (n.val + 1) == 2) (fun d => d.closeSession (n.val + 1)))

/-- SOURCE_BAR_EXPIRY (R395). -/
def execSourceBarExpiry (path : Path) (source : Nat) (s : State) : Host.Outcome State Fault Refusal :=
  s.serve (fun d => { d with barred := d.barred.filter (· != (pathNum path, source)) })

/-- A write of CLOSE_SESSION (R396). -/
def Dev.closeBy (d : Dev) (v : Int) : Dev :=
  if v < 1 ∨ 8 < v then d.res resRange
  else (d.when (d.sessState v.toNat == 2) (fun d => d.closeSession v.toNat)).res 0

/-- CLOSE_SESSION (R396). -/
def execCloseSession (v : Int) (s : State) : Host.Outcome State Fault Refusal := s.serve (fun d => d.closeBy v)

/-! ### Address claim and peers (R398, R399) -/

/-- The Task Controller connection starts anew: the description is uploaded again (R403). -/
def Dev.tcRestart (d : Dev) : Dev := d.when (d.o Obj.TC_STATE != 0) (fun d => d.setO Obj.TC_STATE 1)

/-- A claim of address `a` is sent; nothing else is sent for 250 ms (R398). -/
def Dev.claimNow (d : Dev) (a : Nat) (last : Bool) : Dev :=
  ({ d with claim := 1, claimAddr := a, claimLast := last }).setO Obj.OWN_ADDR 254

/-- ADDRESS_CLAIM_START (R398): at the first CANA transmission. -/
def execAddressClaimStart (s : State) : Host.Outcome State Fault Refusal :=
  s.serve (fun d => d.when (d.claim == 0) (fun d => d.claimNow (d.n Obj.PREF_ADDR) false))

/-- NET_ADDR_CLAIMED (R398): 250 ms without contention. -/
def execNetAddrClaimed (s : State) : Host.Outcome State Fault Refusal :=
  s.serve (fun d => d.when (d.claim == 1) (fun d =>
    ((({ d with claim := 2 }).setO Obj.OWN_ADDR (d.claimAddr : Nat)).event 0xD0).tcRestart.causeGone 0x92D0))

/-- A contention lost: the next address up to 247, then from 128 upwards, and PREF_ADDR last (R398). -/
def Dev.claimNext (d : Dev) : Dev :=
  if d.claimLast then
    (((({ d with claim := 3, claimAddr := 254 }).setO Obj.OWN_ADDR 254).event 0xD1).raiseOn 0x92D0 .sys true { ini := 0x02, acc := 6 })
  else
    let a := if 247 ≤ d.claimAddr then 128 else d.claimAddr + 1
    d.claimNow a (a == d.n Obj.PREF_ADDR)

/-- ADDRESS_CONTENTION (R398): another claim of the same address; the lower NAME wins under ISO 11783-5. -/
def execAddressContention (name : Nat) (s : State) : Host.Outcome State Fault Refusal :=
  s.serve (fun d => d.when ((d.claim == 1 || d.claim == 2) && decide (name < d.n Obj.NAME)) (fun d => d.claimNext))

/-- PEERS counts the addresses with a NAME. -/
def Dev.countPeers (d : Dev) : Dev :=
  d.setO Obj.PEERS ((((List.range 254).filter (fun i => d.b (el Obj.PEER_NAME (i + 1)))).length : Nat) : Int)

/-- PEER_ADDRESS_CLAIM (R399): an address claim, or a cannot-claim with address 254. -/
def execPeerAddressClaim (addr name : Nat) (s : State) : Host.Outcome State Fault Refusal :=
  s.serve (fun d =>
    let old := (List.range 254).filter (fun i => d.n (el Obj.PEER_NAME (i + 1)) == name && name != 0)
    let d1 := old.foldl (fun d i => d.when (decide (i ≠ addr)) (fun d => d.setO (el Obj.PEER_NAME (i + 1)) 0)) d
    let d2 :=
      if 254 ≤ addr then d1.when (!old.isEmpty) (fun d => d.event 0xD3)
      else
        let there := d1.n (el Obj.PEER_NAME (addr + 1))
        ((d1.when (decide (there ≠ 0) && decide (there ≠ name)) (fun d => d.event 0xD3)).setO (el Obj.PEER_NAME (addr + 1))
          (name : Int)).when (old.isEmpty && decide (name ≠ 0)) (fun d => d.event 0xD2)
    d2.countPeers)

/-! ### Task Controller (R403, R404) -/

/-- TC_STATUS_MESSAGE (R403): the server's status starts a connection. -/
def execTcStatusMessage (name : Nat) (s : State) : Host.Outcome State Fault Refusal :=
  s.serve (fun d =>
    let (d1, taken) := d.peerTakes 5 Obj.TC_NAME name
    d1.when (taken && d1.o Obj.TC_STATE == 0 && d1.claim == 2) (fun d => d.setO Obj.TC_STATE 1))

/-- TC_DDOP_UPLOAD_DONE (R403). -/
def execTcDdopUploadDone (s : State) : Host.Outcome State Fault Refusal :=
  s.serve (fun d => d.when (d.o Obj.TC_STATE == 1) (fun d => ((d.setO Obj.TC_STATE 2).event 0xD4).causeGone 0x92D2))

/-- Whether GE uses the Task Controller's sections or rate. -/
def Dev.tcUsed (d : Dev) : Bool := d.o Obj.SECTION_SOURCE == 1 || d.o Obj.RATE_SOURCE == 1

/-- NET_TC_LOST (R404): no status for 6 s; the input's peer is free again (R399). -/
def execNetTcLost (s : State) : Host.Outcome State Fault Refusal :=
  s.serve (fun d =>
    if d.o Obj.TC_STATE = 0 then d
    else ((({ (d.updGe (fun g => { g with tcRows := [], tcRate := none })) with peers := Tab.set {} d.peers 5 {} }).setO Obj.TC_STATE 0).event
      0xD5).when d.tcUsed (fun d => d.raiseOn 0x92D2 .sys true { ini := 0x02, acc := 6 }))

/-- The Task Controller's rate in counts of RATE_LSB: a rate in 1/m², or in mm³/m² under TC_RATE_KIND 1 (R403). -/
def Dev.tcCounts (d : Dev) (rate : Nat) : Nat :=
  let per := d.n Obj.RATE_LSB * (if d.n Obj.TC_RATE_KIND = 1 then d.n Obj.DOSE_VOLUME else 1)
  (min 65534 (roundDiv ((rate * 10000 : Nat) : Int) (max 1 per))).toNat

/-- The state of one section from the server: 1 on, 0 off, others leave it (R403). -/
def tcSection (rows : List Nat) (n st : Nat) : List Nat :=
  if st = 1 then insertOnce n rows else if st = 0 then rows.filter (· != n) else rows

/-- TC_PROCESS_DATA (R403): a setpoint rate, or the setpoint states of the sections from `first`. -/
def execTcProcessData (name : Nat) (rate : Option Nat) (first : Nat) (states : List Nat) (s : State) : Host.Outcome State Fault Refusal :=
  s.serve (fun d =>
    let (d1, taken) := d.peerTakes 5 Obj.TC_NAME name
    d1.when (taken && d1.o Obj.TC_STATE == 2) (fun d =>
      let rows := (List.range states.length).foldl (fun l i =>
        if 1 ≤ first + i ∧ first + i ≤ 128 then tcSection l (first + i) (states.getD i 3) else l) d.ge.tcRows
      d.updGe (fun g => { g with tcRows := rows, tcRate := if rate.isSome then rate.map d.tcCounts else g.tcRate })))

/-! ### Notification maps (R406 to R409) -/

/-- The width of a value in bytes (R413); STR and DOMAIN have none. -/
def typeWidth : ObjTy → Nat
  | .bool | .u8 => 1 | .u16 | .i16 => 2 | .u32 | .i32 => 4 | .u64 | .i64 => 8 | .str | .domain => 0

/-- The type of an object; subindex 0 of a record or an array is U8 (R411). -/
def objType (k : Nat) : Option ObjTy :=
  match findDef k with
  | some r => some r.ty
  | none => if keySub k = 0 then some .u8 else none

/-- The bytes of a value at its type width. -/
def Dev.valueBytes (d : Dev) (k : Nat) : Bytes :=
  match objType k with
  | some ty => leBytes (typeWidth ty) (d.shown k)
  | none => []

/-- The entries of map `k`, up to the first 0 (R406). -/
def Dev.noteEntries (d : Dev) (k : Nat) : List Nat :=
  ((List.range 16).map (fun i => d.n (at' Obj.ENTRY k + i))).takeWhile (· != 0)

/-- Whether map `k` is due with these values (R408), or a route has asked for it (R505). -/
def Dev.noteDue (d : Dev) (k : Nat) (v : Bytes) : Bool :=
  let x : Note := Tab.get {} d.notes k
  let mode := d.n (at' Obj.MODE_1800 k)
  let after (ms : Nat) : Bool := x.at_.all (fun t => decide (t + ms * 1000000 ≤ d.wall))
  after (d.n (at' Obj.INHIBIT k)) &&
    (x.force || (mode != 2 && x.sent != some v) || (mode != 1 && after (d.n (at' Obj.PERIOD_1800 k))))

/-- The bytes of a notification on its path (R408). -/
def Dev.noteBytes (d : Dev) (k : Nat) (v : Bytes) (counter : Nat) : Bytes :=
  let s := d.n (at' Obj.SESSION k)
  let mac (h b : Bytes) : Bytes := if s = 0 then [] else unitMac (d.sess s).key 1 h b
  if d.n (at' Obj.PATH k) = 2 then
    let h := unitHeader 0x20 s v.length 0 counter (0x1800 + k) 0
    h ++ v ++ mac h v
  else
    let b := v ++ (if s = 0 then [] else leBytes 4 (counter : Int))
    b ++ mac [] b

/-- A notification dropped or replaced (R409). -/
def Dev.noteDrop (d : Dev) (k : Nat) : Dev :=
  let first := d.poolShown.all (fun t => decide (t + 1000000000 ≤ d.wall))
  ((d.addSat (at' Obj.DROPPED_1800 k)).when first (fun d =>
    (({ d with poolShown := some d.wall }).event 0xDA).raiseOn 0x90D4 .sys false { ini := 0x02, acc := 6 }))

/-- A due map takes a buffer slot, or replaces its own oldest notification, or is dropped (R409). -/
def Dev.noteSend (d : Dev) (k : Nat) (v : Bytes) : Dev :=
  let x : Note := Tab.get {} d.notes k
  let m : NoteMsg := { map := k, path := d.n (at' Obj.PATH k), counter := x.counter, bytes := d.noteBytes k v x.counter }
  let sent (d : Dev) : Dev :=
    ({ d with notes := Tab.set {} d.notes k { sent := some v, at_ := some d.wall, counter := (x.counter + 1) % 4294967296 } }).addWrap
      (at' Obj.SENT k)
  if d.pool.length < 128 then sent { d with pool := d.pool ++ [m] }
  else if d.pool.any (fun q => q.map == k) then
    (sent { d with pool := (dropFirst (fun q => q.map == k) d.pool) ++ [m] }).noteDrop k
  else d.noteDrop k

/-- One map at a scan (R408); a marked entry keeps it from being sent (R466). -/
def Dev.noteScan (d : Dev) (k : Nat) : Dev :=
  if !(d.b (at' Obj.ENABLE_1800 k)) then { d with notes := Tab.upd {} d.notes k (fun x => { x with force := false }) }
  else
    let es := d.noteEntries k
    let v := es.flatMap d.valueBytes
    if !(d.noteDue k v) then d
    else if es.any (fun e => d.poison.contains e) then
      d.consumed.addSat (at' Obj.DROPPED_1800 k)
    else d.noteSend k v

/-- NOTIFY_SCAN (R408): every 1 ms. -/
def execNotifyScan (s : State) : Host.Outcome State Fault Refusal :=
  s.serve (fun d => (List.range 64).foldl (fun d k => d.noteScan k) d)

/-- NOTIFY_TRANSMIT (R409): the oldest notification that waits for the port leaves. -/
def execNotifyTransmit (eth : Bool) (s : State) : Host.Outcome State Fault Refusal :=
  s.serve (fun d => { d with pool := dropFirst (fun m => m.path == (if eth then 2 else 1)) d.pool })

end Sys2Proof.Machine
end

