-- ==== Sys2Proof/Machine/Ports.lean ====
section
/-! DEFINITION. The sensor masters SP0 to SP2 (R443 to R447); a start stands in Actions.lean, the host SPI port in Hsp.lean, the
memory port with the images. -/

namespace Sys2Proof.Machine

/-- The descriptors of a queue block from `i` lie within the layout of R445. -/
def spFields (b : Bytes) : Nat → Nat → Bool
  | 0, _ => true
  | n + 1, i =>
    decide (byteAt b (4 + 20 * i) ≤ 7) && decide (byteAt b (5 + 20 * i) < 16) && decide (4 ≤ byteAt b (6 + 20 * i)) &&
      decide (byteAt b (6 + 20 * i) ≤ 32) && decide (1 ≤ byteAt b (7 + 20 * i)) && decide (byteAt b (7 + 20 * i) ≤ 4) && spFields b n (i + 1)

/-- Whether a queue block is accepted (R445). -/
def spBlockOk (b : Bytes) : Bool :=
  b.isEmpty || (byteAt b 0 == 1 && decide (1 ≤ byteAt b 1) && decide (byteAt b 1 ≤ 8) && b.length == 8 + 20 * byteAt b 1 &&
    zeros b 2 2 && spFields b (byteAt b 1) 0 && crcOk b)

/-- A queue block written: it takes the place of the old one when the queue is idle (R445). -/
def Dev.spQueueWrite (d : Dev) (p q : Nat) (b : Bytes) : Dev :=
  if !(spBlockOk b) then d.res 0x30000003
  else
    let d1 := d.updSp p (fun s => { s with wait := Tab.put s.wait q b })
    ((d1.when ((d1.spOf p).run.all (fun r => r.1 != q)) (fun d => d.spRenew p q))).res 0

/-- SP_QUEUE_WRITE (R445). -/
def execSpQueueWrite (p : Fin 3) (q : Fin 4) (b : Bytes) (s : State) : Host.Outcome State Fault Refusal :=
  s.serve (fun d => d.spQueueWrite p q b)

/-- A write of START (R446). -/
def Dev.spStartWrite (d : Dev) (p : Nat) (v : Int) : Dev :=
  if v < 0 ∨ 3 < v then d.res resRange else (d.spStart p v.toNat none).res 0

/-- SP_START (R446). -/
def execSpStart (p : Fin 3) (v : Int) (s : State) : Host.Outcome State Fault Refusal := s.serve (fun d => d.spStartWrite p v)

/-- A chain of queue `q` ends (R447), a waiting content of the queue takes over, and the lowest pending queue starts (R446). -/
def Dev.spChainEnd (d : Dev) (p q : Nat) : Dev :=
  let s := d.spOf p
  let d1 := (((d.setO (at' Obj.CHAIN_WALL p + q) (s.wall : Int)).setO (at' Obj.CHAIN_TRACK p + q) s.track).addWrap
    (at' Obj.CHAINS_DONE p + q)).updSp p (fun s => { s with run := none })
  let d2 := (d1.setO (at' Obj.STATE_3480 p) 0).spRenew p q
  match (d2.spOf p).pend with
  | (r, t) :: rest =>
    let d3 := d2.updSp p (fun s => { s with pend := rest })
    if d3.spQueue p r = [] then d3 else d3.spRun p r t
  | [] => d2

/-- The end of a descriptor with the units received (R447). -/
def Dev.spEnd (d : Dev) (p : Nat) (rx : List Nat) : Dev :=
  match (d.spOf p).run with
  | none => d
  | some (q, i) =>
    let b := d.spQueue p q
    let units := byteAt b (7 + 20 * i)
    let d1 := (List.range units).foldl (fun d u =>
      d.setO (at' Obj.RX p + 32 * q + 4 * i + u) ((rx.getD u 0 % 2 ^ byteAt b (6 + 20 * i) : Nat) : Int)) d
    let d2 := d1.setO (at' Obj.QUEUE_NEXT p + q) (spNext b i : Nat)
    if spChains b i then
      let d3 := (d2.applyWrites (fun k => keyIdx k == 0x3480 + p)).spBegin p q 8 (spNext b i)
      if (d3.spOf p).run.isNone then d3.spChainEnd p q else d3
    else d2.spChainEnd p q

/-- SP_DESCRIPTOR_END (R447). -/
def execSpDescriptorEnd (p : Fin 3) (rx : List Nat) (s : State) : Host.Outcome State Fault Refusal := s.live (fun d => d.spEnd p rx)

end Sys2Proof.Machine
end

