-- ==== Sys2Proof/Machine/Memory.lean ====
section
/-! DEFINITION. Memory integrity (R452 to R469): correctable and uncorrectable errors, leaky buckets, the remap test,
pigeonholes, permanent poisoning and the scrubber.  Instances are numbered 1 to 11 (R452). -/

namespace Sys2Proof.Machine

/-- The words of an instance (R452). -/
def memWords (i : Nat) : Nat := if i = 1 then 2097152 else if i = 11 then 131072 else 16384

/-- The pigeonholes of an instance (R452). -/
def memHoles (i : Nat) : Nat := if i = 1 then 8 else if i = 11 then 4 else 2

/-- The source of a memory fault: instance and byte offset (R518). -/
def memSrc (i w : Nat) : FaultSrc := { addr := i * 16777216 + 4 * w, ini := 0x60, acc := 1 }

/-- A Notice of the memories. -/
def Dev.memNotice (d : Dev) (code i w : Nat) : Dev := d.raiseOn code .sys false (memSrc i w)

/-- Word `w` of memory `i` changed. -/
def Dev.updWord (d : Dev) (i w : Nat) (f : MemWord → MemWord) : Dev :=
  d.updMem i (fun m => { m with words := Tab.upd {} m.words w f })

/-- An object whose word is marked carries the mark. -/
def Dev.markObject (d : Dev) (i w : Nat) : Dev :=
  if Config.wordObject i w = 0 then d else { d with poison := insertOnce (Config.wordObject i w) d.poison }

/-- PIGEONHOLES_USED and FREE; their sum is TOTAL (R462). -/
def Dev.showHoles (d : Dev) (i : Nat) : Dev :=
  let k := (d.memOf i).holes.length
  (d.setO (el Obj.PIGEONHOLES_USED_B007 i) (k : Int)).setO (el Obj.PIGEONHOLES_FREE i) ((memHoles i - k : Nat) : Int)

/-- A region M record (R463). -/
def mRecord (kind i hole w : Nat) : Nat := kind * 2 ^ 60 + 2 ^ 56 + (i - 1) * 2 ^ 52 + hole * 2 ^ 48 + w * 2 ^ 24

/-- The effect of a permanently poisoned word by its location (R465): TCM counts as a failing self-check. -/
def Dev.permEffect (d : Dev) (i : Nat) : Dev := d.when (decide (2 ≤ i) && decide (i ≤ 10)) (fun d => d.selfCheck (i - 2) false)

/-- A word is poisoned permanently (R464). -/
def Dev.permPoison (d : Dev) (i w : Nat) : Dev :=
  if (Tab.get {} (d.memOf i).words w).perm then d
  else
    ((((({ (d.updWord i w (fun _ => { poison := true, ue := true, perm := true })) with
      mRecords := d.mRecords ++ [mRecord 2 i 0 w] }).markObject i w).addSat (el Obj.PERM_POISONED i)).event 0xE4).memNotice 0xA0E3 i w).permEffect i

/-- A word moves to the lowest free pigeonhole, or is poisoned permanently (R462, R464). -/
def Dev.remap (d : Dev) (i w : Nat) : Dev :=
  let m := d.memOf i
  if memHoles i ≤ m.holes.length then d.permPoison i w
  else
    let n := m.holes.length
    (((({ (d.updMem i (fun m => { m with
        holes := m.holes.map (fun h => if h = some w then none else h) ++ [some w], seen := m.seen.filter (fun e => e.1 != w) })) with
      mRecords := d.mRecords ++ [mRecord 1 i n w] }).showHoles i).event 0xE2).memNotice 0xA0E2 i w)

/-- One more error of an offset in the tracking table (R460). -/
def trackError (seen : List (Nat × Nat)) (w : Nat) : List (Nat × Nat) :=
  if seen.any (fun e => e.1 == w) then seen.map (fun e => if e.1 = w then (w, e.2 + 1) else e)
  else if seen.length < 16 then seen ++ [(w, 1)]
  else if seen.any (fun e => e.2 == 1) then dropFirst (fun e => e.2 == 1) seen ++ [(w, 1)] else seen

/-- The leaky bucket takes an error (R459). -/
def Dev.bucket (d : Dev) (i w : Nat) : Dev :=
  let k := el Obj.LEVEL i
  if d.n k < d.n (el Obj.BUCKET_DEPTH i) then d.setO k (d.o k + 1)
  else (((d.addSat (el Obj.OVERFLOWS i)).setO k (d.o (el Obj.BUCKET_DEPTH i) / 2)).event 0xE1).memNotice 0xA0E1 i w

/-- A correctable error at a read (R454, R459 to R461). -/
def Dev.correctable (d : Dev) (i w : Nat) : Dev :=
  let d1 := ((d.addSat (el Obj.CE_COUNT i)).bucket i w).updMem i (fun m => { m with
    seen := trackError m.seen w, back := insertOnce w m.back })
  if (d1.memOf i).seen.any (fun e => e.1 == w && decide (3 ≤ e.2)) then d1.remap i w else d1

/-- An uncorrectable error at a read (R454). -/
def Dev.uncorrectable (d : Dev) (i w : Nat) : Dev :=
  (((((((d.updWord i w (fun x => { x with poison := true, ue := true })).markObject i w).addSat (el Obj.UE_COUNT i)).setO
    Obj.LAST_UE_INSTANCE (i : Int)).setO Obj.LAST_UE_OFFSET (4 * w : Nat)).event 0xE0).memNotice 0xA0E0 i w)

/-- MEM_WRITE_BACK (R454, R456): the corrected word `w` is written back, or a full-word write that reached it first clears its
mark and is verified (`verify` 0 good, 1 a correctable, 2 an uncorrectable error).  A word that does not wait has just been
found in error by an engine or port. -/
def Dev.writeBack (d : Dev) (i w : Nat) (overwritten : Bool) (verify : Nat) : Dev :=
  if memWords i ≤ w then d
  else
    let x := Tab.get {} (d.memOf i).words w
    let d0 := if (d.memOf i).back.contains w || x.poison then d else d.correctable i w
    let d1 := d0.updMem i (fun m => { m with back := m.back.filter (· != w) })
    if !overwritten || x.perm then d1
    else
      let d2 := d1.updMem i (fun m => { m with words := Tab.del m.words w })
      if !x.ue || verify = 0 then d2
      else if verify = 1 then d2.correctable i w
      else
        let d3 := ((d2.uncorrectable i w).updMem i (fun m => { m with words := Tab.del m.words w })).remap i w
        d3

/-- MEM_WRITE_BACK (R454, R456). -/
def execMemWriteBack (i : Fin 11) (w : Nat) (overwritten : Bool) (verify : Fin 3) (s : State) : Host.Outcome State Fault Refusal :=
  s.live (fun d => d.writeBack (i.val + 1) w overwritten verify)

/-- ROUND_TIME of an instance in the band in force, s (R458). -/
def Dev.roundTime (d : Dev) (i : Nat) : Nat :=
  d.n ((if i = 1 then Obj.ROUND_TIME_SRAM else if i = 11 then Obj.ROUND_TIME_TRACE else Obj.ROUND_TIME_TCM) + d.n Obj.BAND)

/-- A delivery round ends (R458, R460). -/
def Dev.roundEnd (d : Dev) (i : Nat) : Dev :=
  let m := d.memOf i
  let t := d.wall - m.from_
  let d1 := ((d.addWrap (el Obj.ROUNDS i)).setO (el Obj.ROUND_LAST i) ((t / 1000000000 : Nat) : Int)).updMem i (fun m => { m with
    next := 0, seen := [], from_ := d.wall, time := d.roundTime i })
  let lim := if m.time = 0 then d.roundTime i else m.time
  d1.when (decide (2000000000 * lim < t)) (fun d => (d.event 0xE5).memNotice 0xA0E5 i 0)

/-- The scrubber's next step: the word it reads shows `err` 0 none, 1 a correctable, 2 an uncorrectable error (R454, R458). -/
def Dev.scrubStep (d : Dev) (i err : Nat) : Dev :=
  let m := d.memOf i
  let at_ : Option Nat := if m.next < memWords i then some m.next else (m.holes.getD (m.next - memWords i) none)
  let d1 := match at_ with
    | some w => if err = 1 then d.correctable i w else if err = 2 then d.uncorrectable i w else d
    | none => d
  if memWords i + memHoles i ≤ m.next + 1 then d1.roundEnd i else d1.updMem i (fun m => { m with next := m.next + 1 })

/-- SCRUB_STEP (R458), with its throttling pause (R542). -/
def execScrubStep (i : Fin 11) (err : Fin 3) (s : State) : Host.Outcome State Fault Refusal :=
  s.live (fun d => d.when (!(d.pauses.contains (i.val + 1))) (fun d =>
    (d.scrubStep (i.val + 1) err).pauseStart (i.val + 1) Obj.PAUSE_SCRUB_TB2))

/-- BUCKET_LEAK (R459). -/
def execBucketLeak (i : Fin 11) (s : State) : Host.Outcome State Fault Refusal :=
  s.live (fun d =>
    let k := el Obj.LEVEL (i.val + 1)
    d.when (decide (0 < d.n k)) (fun d => d.setO k (d.o k - 1)))

end Sys2Proof.Machine
end

