-- ==== Sys2Proof/Machine/Fuses.lean ====
section
/-! DEFINITION. The fuse array, its records, programming, locking and re-issue, the start-up read, the shadow comparison, the
integrator key and the life cycle (R470 to R496).  A word is a number of 64 bits. -/

namespace Sys2Proof.Machine

/-! ### Words and records (R471 to R475) -/

/-- The fuses changed. -/
def Dev.updFuse (d : Dev) (f : Fuse → Fuse) : Dev := { d with fuse := f d.fuse }

/-- KIND of a record's header word (R473). -/
def recKind (v : Nat) : Nat := v / 2 ^ 60

/-- A single-word record: KIND, WORDS 1, CONTENT and CHECK (R473, R474). -/
def record1 (kind content check : Nat) : Nat := kind * 2 ^ 60 + 2 ^ 56 + content * 2 ^ 32 + check

/-- Words as bytes, least significant byte first (R473). -/
def wordBytes (ws : List Nat) : Bytes := ws.flatMap (fun (w : Nat) => leBytes 8 (w : Int))

/-- Bits are programmed into word `w`, in the array and in the shadow (R471, R488). -/
def Dev.burn (d : Dev) (w v : Nat) : Dev :=
  d.updFuse (fun f => { f with array := Tab.upd 0 f.array w (Nat.lor v), shadow := Tab.upd 0 f.shadow w (Nat.lor v) })

/-- Word `w` of the shadow. -/
def Dev.fuseRaw (d : Dev) (w : Nat) : Nat := Tab.get 0 d.fuse.shadow w

/-- The one-word redirects of region J, FROM and TO, in the order of their records (R474). -/
def Dev.redirects (d : Dev) : List (Nat × Nat) :=
  d.fuse.shadow.filterMap (fun e =>
    if 640 ≤ e.1 ∧ e.1 < 768 ∧ recKind e.2 = 3 ∧ e.2 / 2 ^ 32 % 16 = 0 then some (e.2 / 2 ^ 46 % 1024, e.2 / 2 ^ 36 % 1024) else none)

/-- The word that serves word `w`: the last redirect of it, or itself. -/
def Dev.fuseAddr (d : Dev) (w : Nat) : Nat :=
  match (d.redirects.filter (fun e => e.1 == w)).getLast? with
  | some e => e.2
  | none => w

/-- Word `w` through its redirect. -/
def Dev.fuseWord (d : Dev) (w : Nat) : Nat := d.fuseRaw (d.fuseAddr w)

/-- Whether a C word is set: in every case but 0 in all its bits (R472). -/
def Dev.cSet (d : Dev) (w : Nat) : Bool := d.fuse.forced.contains w || d.fuseWord w != 0

/-- The number of the highest set word of C among `n` from `base`, counted from 1; 0 none. -/
def Dev.cHighest (d : Dev) (base n : Nat) : Nat :=
  (List.range n).foldl (fun m i => if d.cSet (base + i) then i + 1 else m) 0

/-- s of R492. -/
def Dev.lcStep (d : Dev) : Nat := d.cHighest 512 8

/-- The life-cycle state of a step (R492). -/
def lcState (s : Nat) : Nat := match s with
  | 0 => 1 | 1 => 2 | 2 => 3 | 3 => 4 | 4 => 2 | 5 => 3 | 6 => 4 | _ => 5

/-- The bank of the present cycle, 0 I.A, 1 I.B (R470, R492). -/
def Dev.bankNow (d : Dev) : Nat := d.n Obj.BANK - 1

/-- Whether bank `b` has been re-issued (R483). -/
def Dev.reissued (d : Dev) (b : Nat) : Bool := d.cSet (523 + 3 * b)

/-- The array word that bank word `n` reaches (R483). -/
def Dev.bankAddr (d : Dev) (b n : Nat) : Nat :=
  if d.reissued b then d.fuseWord (523 + 3 * b) / 2 ^ 36 % 1024 + n else 256 + 128 * b + n

/-- The lock word of bank `b` (R472). -/
def Dev.bankLock (d : Dev) (b : Nat) : Nat := if d.reissued b then 524 + 3 * b else 522 + 3 * b

/-- The first word, through the shadow, of region `r`: 0 V, 1 K vendor part, 2 and 3 the banks; and its lock word. -/
def Dev.regionWord (d : Dev) (r n : Nat) : Nat :=
  if r = 0 then d.fuseWord n else if r = 1 then d.fuseWord (128 + n) else d.fuseWord (d.bankAddr (r - 2) n)

def Dev.regionLock (d : Dev) (r : Nat) : Nat := if r ≤ 1 then 520 + r else d.bankLock (r - 2)

/-- LENGTH of a region header (R474). -/
def headerLength (h : Nat) : Nat := h / 2 ^ 40 % 256

/-- Whether a region's header decodes and its CRC matches the declared words (R481, R487). -/
def Dev.regionOk (d : Dev) (r : Nat) : Bool :=
  let h := d.regionWord r 0
  let n := headerLength h
  recKind h == 4 && h / 2 ^ 56 % 16 == 1 && decide (1 ≤ n) && decide (n ≤ 127) &&
    h % 2 ^ 32 == crc32 (wordBytes ((List.range n).map (fun i => d.regionWord r (i + 1))))

/-! ### Programming (R479) -/

/-- The next word of a region that is read from its first word upwards: after the last programmed one (R475). -/
def Dev.nextWord (d : Dev) (base n : Nat) : Nat :=
  d.fuse.array.foldl (fun m e => if base ≤ e.1 ∧ e.1 < base + n ∧ m ≤ e.1 then e.1 + 1 else m) base

/-- The spare pool's and region J's counts (R478); at 16 spares the maintenance Notice (R479). -/
def Dev.showSpares (d : Dev) : Dev :=
  let used := d.fuse.spares.length
  let bad := d.fuse.badSpares.length
  let free := 256 - used - bad
  let was := d.n Obj.SPARE_FREE
  ((((d.setO Obj.SPARE_USED (used : Int)).setO Obj.SPARE_FREE (free : Int)).setO Obj.SPARE_FAILED (bad : Int)).setO Obj.J_FREE
    (768 - d.nextWord 640 128 : Nat)).when (decide (free ≤ 16) && decide (16 < was)) (fun d =>
      (d.event 0xEA).raiseOn 0xB0EA .sys false { ini := 0x61 })

/-- A record appended in region J or M; words in `bad` fail and stay as they read (R475, R479 step 5). -/
def Dev.append (d : Dev) (base n v : Nat) (bad : List Nat) : Dev × Bool :=
  let from_ := d.nextWord base n
  match ((List.range (base + n - from_)).map (· + from_)).find? (fun w => !(bad.contains w)) with
  | some w => (d.burn w v, true)
  | none => (d, false)

/-- A journal record (R474). -/
def Dev.journal (d : Dev) (ev info : Nat) (bad : List Nat) : Dev :=
  let (d1, ok) := d.append 640 128 (record1 7 (ev * 2 ^ 16 + info * 2 ^ 8) (d.n Obj.OP_HOURS % 2 ^ 32)) bad
  if ok then d1.showSpares else d1.raiseOn 0xB0EB .sys false { ini := 0x61, acc := 2 }

/-- The free spares, in ascending number. -/
def Dev.freeSpares (d : Dev) : List Nat :=
  ((List.range 256).map (· + 768)).filter (fun w => !(d.fuse.spares.contains w) && !(d.fuse.badSpares.contains w))

/-- A word of V, K, I or C that fails goes to a redirect (R479 steps 4 and 6); the answer is RESULT and the spare. -/
def Dev.redirect (d : Dev) (w v : Nat) (bad : List Nat) : Dev × Nat × Nat :=
  let free := d.freeSpares
  let broken := free.takeWhile (fun x => bad.contains x)
  let d1 := d.updFuse (fun f => { f with badSpares := broken.foldl (fun l x => insertOnce x l) f.badSpares })
  let fail (d : Dev) : Dev × Nat × Nat := (d.showSpares.raiseOn 0xB0EB .sys false { addr := w, ini := 0x61, acc := 2 }, 3, 0)
  match free.find? (fun x => !(bad.contains x)) with
  | none => fail d1
  | some t =>
    let d2 := (d1.burn t v).updFuse (fun f => { f with spares := insertOnce t f.spares })
    let (d3, ok) := d2.append 640 128 (record1 3 (w * 2 ^ 14 + t * 2 ^ 4) 0) bad
    if ok then ((d3.showSpares.event 0xE9).raiseOn 0xB0E9 .sys false { addr := w, ini := 0x61, acc := 2 }, 2, t) else fail d3

/-- One word programmed and verified; the words in `bad` fail every attempt (R479). -/
def Dev.programWord (d : Dev) (w v : Nat) (bad : List Nat) : Dev × Nat × Nat :=
  let now := d.fuseWord w
  if now = v then (d, 1, 0)
  else if now ≠ 0 ∨ bad.contains (d.fuseAddr w) then d.redirect w v bad
  else (d.burn (d.fuseAddr w) v, 1, 0)

/-- OTP_STATUS (R477). -/
def otpStatus (busy : Bool) (result retries word spare : Nat) : Int :=
  ((if busy then 2 ^ 31 else 0) + result * 2 ^ 28 + retries * 2 ^ 25 + word * 2 ^ 14 + spare * 2 ^ 4 : Nat)

/-- A command accepted: it runs until its end (R479). -/
def Dev.otpStart (d : Dev) (j : OtpJob) : Dev :=
  ((d.updFuse (fun f => { f with job := some j })).setO Obj.OTP_STATUS (otpStatus true 0 0 j.word 0)).res 0

/-- SESSION_ROLE of session `s`. -/
def Dev.roleOf (d : Dev) (s : Nat) : Nat := d.n (el Obj.SESSION_ROLE s)

/-- PROGRAM by session `s` (R480). -/
def Dev.otpProgram (d : Dev) (s w : Nat) : Dev :=
  let role := d.roleOf s
  let b := d.bankNow
  let mine := decide (256 + 128 * b ≤ w) && decide (w < 384 + 128 * b)
  let vendor := (decide (w < 128) && !(d.cSet 520)) || (decide (128 ≤ w) && decide (w < 192) && !(d.cSet 521))
  if !(if 4 ≤ role then vendor else decide (2 ≤ role) && mine && d.o Obj.LIFE_CYCLE == 2) then d.res resRange
  else if role < 4 ∧ d.cSet (d.bankLock b) then d.res resState
  else if d.fuse.job.isSome then d.res resBusy
  else d.otpStart { kind := 1, word := if role < 4 then d.bankAddr b (w - 256 - 128 * b) else w, value := Tab.get 0 d.fuse.data s }

/-- OTP_PROGRAM (R479). -/
def execOtpProgram (n : Fin 8) (w : Fin 1024) (s : State) : Host.Outcome State Fault Refusal :=
  s.serve (fun d => d.otpProgram (n.val + 1) w)

/-- The region of BANK 1 to 4: the banks, V and K (R476). -/
def bankRegion (bank : Nat) : Nat := if bank = 1 then 2 else if bank = 2 then 3 else bank - 3

/-- LOCK of BANK `bank` by session `s` (R481). -/
def Dev.otpLock (d : Dev) (s bank : Nat) : Dev :=
  let r := bankRegion bank
  let n := headerLength (d.regionWord r 0)
  if 3 ≤ bank ∧ d.roleOf s < 4 then d.res resRole
  else if d.cSet (d.regionLock r) then d.res resState
  else if !(d.regionOk r) || (List.range (n + 1)).any (fun i => r < 2 && d.fuse.failed.contains (d.fuseAddr (128 * r + i))) ||
      (List.range (n + 1)).any (fun i => decide (2 ≤ r) && d.fuse.failed.contains (d.fuseAddr (d.bankAddr (r - 2) i))) then d.res resCombination
  else if d.fuse.job.isSome then d.res resBusy
  else d.otpStart { kind := 2, word := d.regionLock r, value := record1 5 ((d.regionLock r - 512) * 2 ^ 16) 0, bank := bank }

/-- OTP_LOCK (R481). -/
def execOtpLock (n : Fin 8) (bank : Fin 4) (s : State) : Host.Outcome State Fault Refusal :=
  s.serve (fun d => d.otpLock (n.val + 1) (bank.val + 1))

/-- The first of `n` contiguous free spares. -/
def Dev.spareRun (d : Dev) (n : Nat) : Option Nat :=
  let free := d.freeSpares
  free.find? (fun w => (List.range n).all (fun i => free.contains (w + i)))

/-- REISSUE of a bank by session `s` (R483). -/
def Dev.otpReissue (d : Dev) (s bank : Nat) : Dev :=
  let n := Tab.get 0 d.fuse.data s % 128
  if d.o Obj.LIFE_CYCLE ≠ 2 then d.res 0x20000004
  else if bank ≠ d.bankNow + 1 ∨ n = 0 then d.res resRange
  else if d.reissued (bank - 1) then d.res 0x40000004
  else match d.spareRun (n + 1) with
    | none => d.res 0x50000002
    | some t =>
      if d.fuse.job.isSome then d.res resBusy
      else (d.updFuse (fun f => { f with spares := (List.range (n + 1)).foldl (fun l i => insertOnce (t + i) l) f.spares })).otpStart
        { kind := 3, word := 523 + 3 * (bank - 1), value := record1 3 ((128 + 128 * bank) * 2 ^ 14 + t * 2 ^ 4 + 1) 0, bank := bank }

/-- OTP_REISSUE (R483). -/
def execOtpReissue (n : Fin 8) (bank : Fin 2) (s : State) : Host.Outcome State Fault Refusal :=
  s.serve (fun d => d.otpReissue (n.val + 1) (bank.val + 1))

/-- A write of OTP_CMD by session `s` (R476): OP, GUARD and the fields. -/
def Dev.otpCmd (d : Dev) (s : Nat) (v : Int) : Dev :=
  let x := v.toNat
  let bank := x % 256
  if x / 256 % 256 ≠ 0x5A then d.res resRange
  else match x / 2 ^ 28 with
    | 1 => d.otpProgram s (x / 2 ^ 16 % 1024)
    | 3 => if bank < 1 ∨ 4 < bank then d.res resRange else d.otpLock s bank
    | 4 => if bank < 1 ∨ 2 < bank then d.res resRange else d.otpReissue s bank
    | _ => d.res resRange

/-- REGION_STATE (R478): open, locked, locked by restrictive reading, or integrity failed. -/
def Dev.showRegions (d : Dev) : Dev :=
  [0, 1, 2, 3].foldl (fun d r =>
    let w := d.regionLock r
    let st : Nat := if d.fuse.failed.contains (2000 + r) then 3 else if d.fuse.forced.contains w then 2 else if d.cSet w then 1 else 0
    d.setO (el Obj.REGION_STATE (r + 1)) (st : Int)) d

/-- An OTP command ends (R477, R479, R481, R483); the words in `bad` fail, `retries` were spent on the final word. -/
def Dev.otpEnd (d : Dev) (bad : List Nat) (retries : Nat) : Dev :=
  match d.fuse.job with
  | none => d
  | some j =>
    let (d1, result, spare) := (d.updFuse (fun f => { f with job := none })).programWord j.word j.value bad
    let d2 :=
      if result = 3 then d1
      else if j.kind = 2 then ((d1.journal 1 j.bank bad).event 0xEB).showRegions
      else if j.kind = 3 then ((d1.setBit Obj.REISSUED (j.bank - 1) true).journal 2 j.bank bad).showRegions.showSpares
      else d1
    d2.setO Obj.OTP_STATUS (otpStatus false result retries j.word spare)

/-- OTP_COMMAND_END (R477). -/
def execOtpCommandEnd (bad : List Nat) (retries : Fin 5) (s : State) : Host.Outcome State Fault Refusal :=
  s.live (fun d => d.otpEnd bad retries)

/-! ### Region M (R462 to R464) -/

/-- M_RECORDS_USED and FREE (R468). -/
def Dev.showM (d : Dev) : Dev :=
  let used := d.nextWord 576 64 - 576
  (d.setO Obj.M_RECORDS_USED (used : Int)).setO Obj.M_RECORDS_FREE (64 - used : Nat)

/-- M_RECORD_STORE (R463, R464): the oldest waiting record is programmed, or region M is full. -/
def Dev.storeM (d : Dev) (bad : List Nat) : Dev :=
  match d.mRecords with
  | [] => d
  | r :: t =>
    let (d1, ok) := ({ d with mRecords := t }).append 576 64 r bad
    if ok then d1.showM
    else (d1.event 0xE6).memNotice 0xA0E4 (r / 2 ^ 52 % 16 + 1) (r / 2 ^ 24 % 2 ^ 24)

/-- M_RECORD_STORE (R463). -/
def execMRecordStore (bad : List Nat) (s : State) : Host.Outcome State Fault Refusal := s.live (fun d => d.storeM bad)

/-! ### Keys (R490, R491) -/

/-- The K_INT area of cycle `b` (0, 1). -/
def kintBase (b : Nat) : Nat := 192 + 32 * b

/-- The franked key record of cycle `b`: the word of its header (R475, R491). -/
def Dev.keyRecord (d : Dev) (b : Nat) : Option Nat :=
  ((List.range 30).map (· + kintBase b + 2)).find? (fun w =>
    recKind (d.fuseWord w) == 6 && d.fuseWord w % 2 ^ 32 == crc32 (wordBytes [d.fuseWord (w - 2), d.fuseWord (w - 1)]))

/-- A K_INT block (R491); the words in `bad` fail and go to redirects. -/
def Dev.kintWrite (d : Dev) (b : Bytes) (bad : List Nat) : Dev :=
  let c := d.bankNow
  let from_ := d.nextWord (kintBase c) 32
  let w1 := ofLe (b.take 8)
  let w2 := ofLe ((b.drop 8).take 8)
  if d.o Obj.LIFE_CYCLE ≠ 2 then d.res 0x20000004
  else if b.length ≠ 20 then d.res 0x30000001
  else if !(crcOk b) then d.res 0x30000003
  else if (d.keyRecord c).isSome then d.res resState
  else if kintBase c + 32 < from_ + 3 then d.res 0x50000002
  else
    let (d1, _) := d.programWord from_ w1 bad
    let (d2, _) := d1.programWord (from_ + 1) w2 bad
    let (d3, r, _) := d2.programWord (from_ + 2) (6 * 2 ^ 60 + 3 * 2 ^ 56 + 2 ^ 48 + crc32 (wordBytes [w1, w2])) bad
    if r = 3 then d3.res 0x70000002 else ((d3.journal 4 c bad).setO Obj.KEY_STATE 1).res 0

/-- KINT_WRITE (R491). -/
def execKintWrite (b : Bytes) (bad : List Nat) (s : State) : Host.Outcome State Fault Refusal := s.serve (fun d => d.kintWrite b bad)

/-- Whether the E960 is an SHE960-D1 (R10, R426). -/
def Dev.isD1 (d : Dev) : Bool := d.block Obj.ORDERING_CODE == [83, 72, 69, 57, 54, 48, 45, 68, 49]

/-- The role key of R393: the integrator key's derivation, or the Vendor key. -/
def Dev.roleKey (d : Dev) (role : Nat) : Bytes :=
  if role = 4 then wordBytes [d.fuseWord 137, d.fuseWord 138] else Config.aesCmac d.fuse.key [82, 79, 76, 69, role]

/-! ### Life cycle (R492 to R495) -/

/-- Whether the six power domains read 0 in `2010` (R428, R493). -/
def Dev.powerStopped (d : Dev) : Bool := [Domain.tra, .trb, .grd, .dca, .dcb, .lnk].all (fun x => d.domainState x == 0)

/-- The step a transition sets, the lowest role and the ordering code (R493). -/
def lcTransition (s target : Nat) (d1 : Bool) : Option (Nat × Nat) :=
  if target = 5 then (if s = 7 ∨ s = 8 then none else some (8, if s = 0 ∨ s = 3 ∨ s = 6 then 4 else 3))
  else match s, target with
    | 0, 2 => some (1, 4)
    | 1, 3 => if d1 then none else some (2, 2)
    | 2, 4 => if d1 then none else some (3, 3)
    | 3, 2 => if d1 then none else some (4, 4)
    | 4, 3 => if d1 then none else some (5, 2)
    | 5, 4 => if d1 then none else some (6, 3)
    | _, _ => none

/-- The further conditions of a transition from `s` (R493). -/
def Dev.lcConditions (d : Dev) (s target : Nat) : Bool :=
  if target = 5 then true
  else match s with
    | 0 => d.cSet 520 && d.cSet 521
    | 1 | 4 => (d.keyRecord d.bankNow).isSome && d.cSet (d.bankLock d.bankNow)
    | 3 => d.fuse.shadow.any (fun e => decide (640 ≤ e.1) && decide (e.1 < 768) && recKind e.2 == 7 && e.2 / 2 ^ 48 % 256 == 7)
    | _ => true

/-- An LC_CTRL write by session `n` (R493). -/
def Dev.lcCtrl (d : Dev) (n : Nat) (v : Int) : Dev :=
  let s := d.n Obj.LC_STEP
  if v < 1 ∨ 5 < v then d.res resRange
  else match lcTransition s v.toNat d.isD1 with
    | none => d.res 0x20000004
    | some (step, role) =>
      if d.roleOf n < role then d.res resRole
      else if !(d.lcConditions s v.toNat) || !d.powerStopped || d.fuse.job.isSome || d.fuse.step.isSome || [1, 2, 3].contains (d.n Obj.IMG_STATE) then
        d.res resState
      else (d.updFuse (fun f => { f with step := some step })).res 0

/-- LC_CTRL (R493). -/
def execLcCtrl (n : Fin 8) (v : Int) (s : State) : Host.Outcome State Fault Refusal := s.serve (fun d => d.lcCtrl (n.val + 1) v)

/-- The step word and its journal record programmed; the Bool says whether the reset follows (R494). -/
def Dev.lcProgram (d : Dev) (bad : List Nat) : Dev × Bool :=
  match d.fuse.step with
  | none => (d, false)
  | some step =>
    let (d1, r, _) := d.programWord (511 + step) (record1 5 ((step - 1) * 2 ^ 16) 0) bad
    if r = 3 then ((d1.updFuse (fun f => { f with step := none })).setO Obj.LC_RESULT 0x70000002, false)
    else (d1.journal 3 step bad, true)

/-! ### The start-up read (R485 to R487) -/

/-- The addresses of the present bank's security words: header, ENABLES and CEILINGS. -/
def Dev.bankSecurity (d : Dev) : List Nat := (List.range 4).map (fun i => d.bankAddr d.bankNow i)

/-- The lowest of three values in each 16-bit field (R486). -/
def minFields (a b c : Nat) : Nat :=
  (List.range 4).foldl (fun s i => s + min (a / 2 ^ (16 * i) % 65536) (min (b / 2 ^ (16 * i) % 65536) (c / 2 ^ (16 * i) % 65536)) * 2 ^ (16 * i)) 0

/-- The value a weak or failed word takes in the shadow (R486). -/
def Dev.weakValue (d : Dev) (r : FuseRead) : Nat :=
  let v := r.value.getD 0
  let b := d.bankNow
  if r.word = d.bankAddr b 0 then v - headerLength v * 2 ^ 40
  else if r.word = d.bankAddr b 1 then Nat.land v (Nat.land r.normal r.tight)
  else if r.word = d.bankAddr b 2 ∨ r.word = d.bankAddr b 3 then minFields v r.normal r.tight
  else v

/-- A weak word is counted and reported (R486). -/
def Dev.weakNotice (d : Dev) (w : Nat) (injected : Bool) : Dev :=
  (((d.setO Obj.WEAK_WORDS (min 65535 (d.o Obj.WEAK_WORDS + 1))).setO Obj.LAST_WEAK (w : Int)).event 0xE8).raiseWith 0xB0E8 .sys
    { addr := w, ini := 0x61, acc := 1 } false injected

/-- The shadow taken from the array at the start, with the words that do not read strongly (R485, R486, R488). -/
def Dev.readArray (d : Dev) (reads : List FuseRead) : Dev :=
  let d0 := d.updFuse (fun f => { f with shadow := f.array, forced := [], failed := [], job := none, step := none, data := [] })
  let s := d0.lcStep
  let d1 := (d0.setO Obj.BANK (if 4 ≤ s then 2 else 1))
  reads.foldl (fun d r =>
    let c := decide (512 ≤ r.word) && decide (r.word < 576)
    let d1 := d.updFuse (fun f => { f with
      shadow := Tab.set 0 f.shadow r.word (d.weakValue r), forced := if c then insertOnce r.word f.forced else f.forced,
      failed := if r.value.isNone then insertOnce r.word f.failed else f.failed })
    d1.weakNotice r.word false) d1

/-- Whether a locked region passes its integrity check (R487). -/
def Dev.regionPasses (d : Dev) (r : Nat) (reads : List FuseRead) : Bool :=
  let n := headerLength (d.regionWord r 0)
  let addr (i : Nat) : Nat := if r ≤ 1 then d.fuseAddr (128 * r + i) else d.fuseAddr (d.bankAddr (r - 2) i)
  !(d.cSet (d.regionLock r)) ||
    (d.regionOk r && (List.range (n + 1)).all (fun i => !(d.fuse.failed.contains (addr i))) && !(reads.any (fun x => x.word == addr 0)))

/-- The ceilings of a locked bank by object, in the object's unit (R484). -/
def ceilingList (a b : Nat) : List (Nat × Int) :=
  let f (x i : Nat) : Int := ((x / 2 ^ (16 * i) % 65536 : Nat) : Int)
  [(Obj.VDC_MAX, f a 0), (Obj.I_MAX_GRID, f a 1), (Obj.MAX_SPEED_4200, f a 2), (tk .B Obj.MAX_SPEED_4200, f a 3),
    (Obj.V_POS, f b 0), (Obj.T_MAX_MOT, 100 * f b 1), (Obj.T_MAX_GEN, 100 * f b 1), (tk .B Obj.T_MAX_MOT, 100 * f b 1),
    (tk .B Obj.T_MAX_GEN, 100 * f b 1), (Obj.P_OUT_MAX, f b 2), (ck .dcb Obj.P_OUT_MAX, f b 2)]

/-- The functions that a ceiling below its object's lowest permitted value disables (R484). -/
def ceilingBits (c : Nat × Int) : List Nat :=
  match findDef c.1 with
  | none => []
  | some r =>
    if r.lo ≤ c.2 then []
    else if c.1 = Obj.VDC_MAX then [6, 7, 8] else if c.1 = Obj.I_MAX_GRID then [2, 3]
    else if c.1 = Obj.V_POS then [0, 1, 2, 3, 4, 5, 6, 7, 8]
    else if c.1 = Obj.P_OUT_MAX then [4] else if c.1 = ck .dcb Obj.P_OUT_MAX then [5]
    else if 0x480000 ≤ c.1 then [1] else [0]

/-- The bank, the key and the life cycle as the E960 uses them from this start on (R484, R488, R491, R492). -/
def Dev.takeFuses (d : Dev) : Dev :=
  let b := d.bankNow
  let s := d.lcStep
  let locked := d.cSet (d.bankLock b)
  let word (n : Nat) : Nat := if locked ∧ headerLength (d.regionWord (2 + b) 0) < n then 0 else d.fuseWord (d.bankAddr b n)
  let ceil := if locked then ceilingList (word 2) (word 3) else []
  let off := ceil.flatMap ceilingBits
  let enables := (List.range 13).foldl (fun m i => if word 1 / 2 ^ i % 2 = 1 ∧ !(off.contains i) then m + 2 ^ i else m) 0
  let transport := wordBytes [d.fuseWord (141 + 2 * b), d.fuseWord (142 + 2 * b)]
  let revoked := d.cSet (528 + b)
  let (key, ks) : Bytes × Nat := if revoked then ([], 3) else match d.keyRecord b with
    | some w => (wordBytes [d.fuseWord (w - 2), d.fuseWord (w - 1)], 2)
    | none => (transport, 0)
  let d1 := d.updFuse (fun f => { f with inForce := locked, enables := enables, ceilings := ceil, key := key })
  let d2 := (((((d1.setO Obj.LIFE_CYCLE (lcState s : Nat)).setO Obj.LC_STEP (s : Int)).setO Obj.KEY_STATE (ks : Int)).setO
    Obj.ROLLBACK_COUNT (d.cHighest 532 44 : Nat)).setBit Obj.REISSUED 0 (d.reissued 0)).setBit Obj.REISSUED 1 (d.reissued 1)
  let d3 := (List.range 127).foldl (fun d i => d.setO (el Obj.BANK_WORD (i + 1)) (word (i + 1) : Nat)) d2
  ceil.foldl (fun d c =>
    if c.1 = Obj.V_POS then (List.range 40).foldl (fun d i => d.setO (el Obj.V_POS (i + 1)) (min (d.o (el Obj.V_POS (i + 1))) c.2)) d
    else d.setO c.1 (min (d.o c.1) c.2)) d3

/-- The fuses at a start (R485 to R488). -/
def Dev.fuseStart (d : Dev) (reads : List FuseRead) : Dev :=
  let d1 := d.readArray reads
  let b := d1.bankNow
  let bad := [0, 1, 2 + b].filter (fun r => !(d1.regionPasses r reads))
  let d2 := d1.updFuse (fun f => { f with failed := f.failed ++ bad.map (· + 2000) })
  let d3 := ((d2.takeFuses.setB Obj.FUSE_DEFAULTS (bad.any (· != 1))).showRegions.showSpares.showM)
  d3.when (!bad.isEmpty) (fun d => (d.event 0xED).raiseOn 0xB8EE .sys true { ini := 0x61, acc := 1 })

/-- Whether the K vendor part has failed its check: only safe-hold service remains (R487). -/
def Dev.vendorFailed (d : Dev) : Bool := d.fuse.failed.contains 2001

/-! ### The shadow comparison (R489, R530) -/

/-- A key word or security word (R486, R489). -/
def Dev.secretOrSecurity (d : Dev) (w : Nat) : Bool :=
  (decide (128 ≤ w) && decide (w < 256)) || (decide (512 ≤ w) && decide (w < 576)) || w == 0 || d.bankSecurity.contains w

/-- One word of the comparison that does not read strongly (R489). -/
def Dev.compareWord (d : Dev) (r : FuseRead) (injected : Bool) : Dev :=
  if r.value = some (d.fuseRaw r.word) then d.weakNotice r.word injected
  else
    let src : FaultSrc := { addr := r.word, ini := 0x61, acc := 1 }
    (d.event 0xEC).raiseWith (if d.secretOrSecurity r.word then 0xB8ED else 0xB0EC) .sys src false injected

/-- SHADOW_COMPARE (R489), with an injection that waits (R530). -/
def Dev.shadowCompare (d : Dev) (reads : List FuseRead) : Dev :=
  let d1 := reads.foldl (fun d r => d.compareWord r false) d
  match d1.fuse.inject with
  | none => d1
  | some (w, bits) =>
    let v := d1.fuseRaw w
    ((d1.updFuse (fun f => { f with inject := none })).compareWord
      { word := w, normal := v, tight := v, value := if bits = 1 then some v else none } true).setO Obj.STATE_2320 2

/-- SHADOW_COMPARE (R489). -/
def execShadowCompare (reads : List FuseRead) (s : State) : Host.Outcome State Fault Refusal := s.live (fun d => d.shadowCompare reads)

end Sys2Proof.Machine
end

