-- ==== Sys2Proof/Machine/Images.lean ====
section
/-! DEFINITION. Image slots, update and boot selection, and the memory port's flash (R448 to R451, R497 to R502). -/

namespace Sys2Proof.Machine

/-- Image slot `i`, 0 A, 1 B. -/
def Dev.img (d : Dev) (i : Nat) : ImgSlot := Tab.get {} d.slotsAB i

/-- Image slot `i` changed. -/
def Dev.updImg (d : Dev) (i : Nat) (f : ImgSlot → ImgSlot) : Dev := { d with slotsAB := Tab.upd {} d.slotsAB i f }

/-- The slot that runs (R426). -/
def Dev.activeImg (d : Dev) : Nat := d.n Obj.ACTIVE_SLOT - 1

/-- The fields of an image header (R497). -/
def ImgSlot.sec (x : ImgSlot) : Nat := u32At x.head 8
def ImgSlot.len (x : ImgSlot) : Nat := u32At x.head 12
def ImgSlot.pubkey (x : ImgSlot) : Bytes := part x.head 32 64

/-- SLOT_x_STATE (R500). -/
def ImgSlot.shown (x : ImgSlot) : Nat :=
  if !x.written then 0 else if x.rejected then 5 else if !x.commit then 1 else if x.confirmed then 4 else if x.tried then 3 else 2

/-- SLOT_A_STATE to SLOT_B_SEC (R500). -/
def Dev.showImages (d : Dev) : Dev :=
  (((d.setO Obj.SLOT_A_STATE ((d.img 0).shown : Nat)).setO Obj.SLOT_B_STATE ((d.img 1).shown : Nat)).setO Obj.SLOT_A_SEC
    ((d.img 0).sec : Nat)).setO Obj.SLOT_B_SEC ((d.img 1).sec : Nat)

/-- A slot's content verified: its signature over bytes 0 to 95 and the body (R497), and its key against PROD_HASH and DEV_HASH
(R498).  The content of a slot does not change once its image is received, nor do the hashes, so that every later verification gives
the same. -/
def Dev.verifyImg (d : Dev) (x : ImgSlot) : ImgSlot :=
  let h := Config.sha256 x.pubkey
  let at_ (w : Nat) : Bytes := wordBytes ((List.range 4).map (fun i => d.fuseWord (w + i)))
  { x with
    signed := Config.signatureOk x.pubkey (Config.sha256 (x.head.take 96 ++ x.body)) (part x.head 96 64)
    prod := h == at_ 129
    dev := h == at_ 133 }

/-- Whether a verified slot's key is accepted (R498). -/
def Dev.keyAccepted (d : Dev) (x : ImgSlot) : Bool := x.prod || (x.dev && d.isD1 && !(d.fuse.failed.contains 2000))

/-! ### Update (R500 to R502) -/

/-- Whether an access of session `s` to the update objects stands: its own update, or none (R502). -/
def Dev.updateRefused (d : Dev) (s : Nat) : Nat :=
  if d.o Obj.LIFE_CYCLE = 5 then 0x20000004
  else if d.fuse.step.isSome then resState
  else if [1, 2, 3].contains (d.n Obj.IMG_STATE) ∧ d.update.owner ≠ s then resBusy else 0

/-- IMG_CTRL 1 (R501): the slot not running is erased, with a fresh nonce to come. -/
def Dev.imgBegin (d : Dev) (s : Nat) : Dev :=
  let c := d.updateRefused s
  if c ≠ 0 then d.res c
  else if [1, 3].contains (d.n Obj.IMG_STATE) then d.res resState
  else
    let i := 1 - d.activeImg
    (((({ (d.updImg i (fun _ => { nonce := Config.freeValue d.free })) with update := { owner := s } }).tickFree.setO Obj.IMG_STATE 1).setO
      Obj.IMG_RESULT 0).showImages).res 0

/-- IMG_BEGIN (R501). -/
def execImgBegin (n : Fin 9) (s : State) : Host.Outcome State Fault Refusal := s.serve (fun d => d.imgBegin n)

/-- IMG_ERASE_END (R501). -/
def execImgEraseEnd (s : State) : Host.Outcome State Fault Refusal :=
  s.serve (fun d => d.when (d.o Obj.IMG_STATE == 1) (fun d => d.setO Obj.IMG_STATE 2))

/-- An image block under IMG_BLOCK_NO (R501); `ok` says whether its programming verified (R450). -/
def Dev.imgBlock (d : Dev) (s : Nat) (b : Bytes) (ok : Bool) : Dev :=
  let c := d.updateRefused s
  if c ≠ 0 then d.res c
  else if b.isEmpty ∨ 32768 < b.length then d.res 0x30000001
  else if d.o Obj.IMG_STATE ≠ 2 then d.res resState
  else if d.n Obj.IMG_BLOCK_NO ≠ d.update.next ∨ d.update.ended then d.res 0x40000003
  else if !ok then d.res 0x70000002
  else
    let head := if d.update.next = 0 then b.take 4096 else []
    let body := if d.update.next = 0 then b.drop 4096 else b
    ((({ (d.updImg (1 - d.activeImg) (fun x => { x with written := true, head := x.head ++ head, body := x.body ++ body })) with
      update := { d.update with next := d.update.next + 1, ended := decide (b.length < 32768) } }).showImages).res 0)

/-- IMG_BLOCK (R501). -/
def execImgBlock (n : Fin 9) (b : Bytes) (ok : Bool) (s : State) : Host.Outcome State Fault Refusal := s.serve (fun d => d.imgBlock n b ok)

/-- The verdict on a received image: LENGTH, RANGE, SIGNATURE or ROLLBACK, in that order, 0 for a pass (R501); on the restrictive
defaults only PROD_HASH is accepted (R500). -/
def Dev.imgVerdict (d : Dev) (x : ImgSlot) : Nat :=
  if x.head.length ≠ 4096 ∨ x.body.length ≠ x.len then 0x30000001
  else if x.head.take 4 ≠ [69, 57, 54, 48] ∨ byteAt x.head 4 ≠ 1 ∨ !(zeros x.head 5 3) ∨ 44 < x.sec ∨ x.len = 0 ∨ 25161728 < x.len ∨
      byteAt x.head 19 ≠ 0 ∨ !(zeros x.head 20 12) ∨ !(zeros x.head 160 96) then resRange
  else if !(d.keyAccepted x) || (d.b Obj.FUSE_DEFAULTS && !x.prod) || !x.signed then 0x60000004
  else if x.sec < d.n Obj.ROLLBACK_COUNT then 0x60000005 else 0

/-- IMG_CTRL 2 (R501). -/
def Dev.imgFinish (d : Dev) (s : Nat) : Dev :=
  let c := d.updateRefused s
  if c ≠ 0 then d.res c
  else if d.o Obj.IMG_STATE ≠ 2 then d.res resState
  else
    let i := 1 - d.activeImg
    let x := d.verifyImg (d.img i)
    let r := d.imgVerdict x
    let d1 := { ((d.updImg i (fun _ => x)).setO Obj.IMG_RESULT (r : Int)) with update := {} }
    if r = 0 then (((d1.updImg i (fun x => { x with seq := (d.img (1 - i)).seq + 1, commit := true })).setO Obj.IMG_STATE 4).showImages).res 0
    else (((d1.updImg i (fun x => { x with rejected := true })).setO Obj.IMG_STATE 5).showImages).res r

/-- IMG_FINISH (R501). -/
def execImgFinish (n : Fin 9) (s : State) : Host.Outcome State Fault Refusal := s.serve (fun d => d.imgFinish n)

/-- IMG_CTRL 3 (R502). -/
def Dev.imgAbort (d : Dev) (s : Nat) : Dev :=
  let c := d.updateRefused s
  if c ≠ 0 then d.res c else (d.endUpdate s).res 0

/-- IMG_ABORT (R502). -/
def execImgAbort (n : Fin 9) (s : State) : Host.Outcome State Fault Refusal := s.serve (fun d => d.imgAbort n)

/-- A write of IMG_CTRL by session `s` (R500). -/
def Dev.imgCtrl (d : Dev) (s : Nat) (v : Int) : Dev :=
  if v = 1 then d.imgBegin s else if v = 2 then d.imgFinish s else if v = 3 then d.imgAbort s else d.res resRange

/-- IMAGE_CONFIRM (R499): 10 s of diagnostic service. -/
def execImageConfirm (s : State) : Host.Outcome State Fault Refusal :=
  s.serve (fun d => (d.updImg d.activeImg (fun x => { x with confirmed := true })).showImages)

/-! ### Boot selection (R499) -/

/-- Whether slot `i` is a candidate. -/
def Dev.candidate (d : Dev) (i : Nat) : Bool :=
  let x := d.img i
  x.commit && !x.rejected && decide (d.n Obj.ROLLBACK_COUNT ≤ x.sec) && d.keyAccepted x

/-- A slot rejected at the start. -/
def Dev.rejectImg (d : Dev) (i : Nat) : Dev :=
  ((d.updImg i (fun x => { x with rejected := true })).event 0xEF).raiseOn 0xE0F1 .sys false { addr := i, ini := 0x01, acc := 7 }

/-- The slots tried in the order of their SEQUENCE; the answer is the slot that boots, none for safe-hold service. -/
def Dev.bootFrom (d : Dev) : List Nat → Dev × Option Nat
  | [] => ((d.event 0xEF).raiseOn 0xE8F2 .sys true { ini := 0x01, acc := 7 }, none)
  | i :: t =>
    let x := d.img i
    if !(d.candidate i) then d.bootFrom t
    else if (!x.confirmed && x.tried) || !x.signed then (d.rejectImg i).bootFrom t
    else (if x.confirmed then d else d.updImg i (fun x => { x with tried := true }), some i)

/-- The slot to boot is selected (R499), and the anti-rollback steps of a confirmed slot are programmed; words in `bad` fail. -/
def Dev.bootSelect (d : Dev) (bad : List Nat) : Dev × Bool :=
  let order := if (d.img 0).seq < (d.img 1).seq then [1, 0] else [0, 1]
  let (d1, slot) := d.bootFrom order
  match slot with
  | none => (d1.showImages, false)
  | some i =>
    let x := d1.img i
    let count := d1.n Obj.ROLLBACK_COUNT
    let steps := if x.confirmed then (List.range (x.sec - count)).map (· + count) else []
    let d2 := steps.foldl (fun d k =>
      let (d1, r, _) := d.programWord (532 + k) (record1 5 ((20 + k) * 2 ^ 16) 0) bad
      if r = 3 then d1 else (d1.journal 6 (k + 1) bad).setO Obj.ROLLBACK_COUNT (k + 1 : Nat)) d1
    let fw := part x.head 16 3
    (((d2.setO Obj.ACTIVE_SLOT (i + 1 : Nat)).setO Obj.SEC_VERSION (x.sec : Nat)).showImages.setBlk Obj.FW_VERSION
      ([byteAt fw 0, byteAt fw 1, byteAt fw 2].foldl (fun s v =>
        s ++ (if s.isEmpty then [] else [46]) ++ (if v < 10 then [48 + v] else if v < 100 then [48 + v / 10, 48 + v % 10]
          else [48 + v / 100, 48 + v / 10 % 10, 48 + v % 10])) []), true)

/-! ### Flash (R449 to R451) -/

/-- The nonce of the area that holds byte address `a` (R449): slots A and B of 24 MiB each, then 64 KiB sectors. -/
def Dev.nonceAt (d : Dev) (a : Nat) : Nat :=
  if a < 0x1800000 then (d.img 0).nonce else if a < 0x3000000 then (d.img 1).nonce
  else Tab.get (Config.freeValue (a / 65536)) d.nonces (a / 65536)

/-- A line decrypted: ciphertext XOR AES-128 of the counter blocks of its two halves (R449). -/
def decryptLine (key : Bytes) (nonce a : Nat) (cipher : Bytes) : Bytes :=
  let block (b : Nat) : Bytes := Config.aesBlock key (beBytes 8 (nonce : Int) ++ [0, 0, 0, 0] ++ beBytes 4 ((a / 32 * 32 + 16 * b : Nat) : Int))
  List.zipWith Nat.xor cipher (block 0 ++ block 1)

/-- FLASH_LINE_FILL (R449): the line of 32 bytes at `a`, with K_FLASH. -/
def execFlashLineFill (a : Nat) (cipher : Bytes) (s : State) : Host.Outcome State Fault Refusal :=
  s.serve (fun d => { d with
    line := some (a / 32 * 32, decryptLine (wordBytes [d.fuseWord 139, d.fuseWord 140]) (d.nonceAt a) a cipher) })

/-- FLASH_COMMAND_END (R450, R451): a copy to the expansion device ends; any other failure is the result of the access that caused
it.  In TB2 and TB3 a pause follows (R542). -/
def execFlashCommandEnd (ok : Bool) (s : State) : Host.Outcome State Fault Refusal :=
  s.serve (fun d => d.when (!(d.pauses.contains 13)) (fun d =>
    let d' := match d.flashJobs with
      | 1 :: t =>
        let d1 := { d with flashJobs := t }
        if ok then (d1.addWrap Obj.XP_COPIES).setO Obj.XP_STATE 1 else d1.setO Obj.XP_STATE 3
      | l => { d with flashJobs := l.drop 1 }.when (!ok) (fun d => d.res 0x70000002)
    d'.pauseStart 13 Obj.PAUSE_FLASH_TB2))

end Sys2Proof.Machine
end

