-- ==== Sys2Proof/Machine/Trace.lean ====
section
/-! DEFINITION. Observation (R564 to R576): the trace buffer, its triggers, the frames on J9 and the object channels. -/

namespace Sys2Proof.Machine

/-! ### Frames on J9 (R565 to R569) -/

/-- A record of 16 bytes, least significant byte first (R566). -/
def recordBytes (r : TraceRec) : Bytes :=
  leBytes 4 r.value ++ leBytes 2 (r.tag : Int) ++ [r.kind % 128 + (if r.poison then 128 else 0), r.source % 256] ++ leBytes 8 (r.wall : Int)

/-- A frame from its header to its CRC-16 (R565): FRAME_SEQ, COUNT, the flags and LOST_COUNT, then the records. -/
def frameBytes (seq lost : Nat) (hold status : Bool) (rs : List TraceRec) : Bytes :=
  let bit (b : Bool) (i : Nat) : Nat := if b then 2 ^ i else 0
  let head : Nat := seq % 4294967296 * 2 ^ 32 + rs.length * 2 ^ 24 + bit hold 23 + bit (decide (0 < lost)) 22 +
    bit (rs.any (fun r => r.kind == 4)) 21 + bit status 20 + lost % 65536
  let b := leBytes 8 (head : Int) ++ rs.flatMap recordBytes
  b ++ leBytes 2 (crc16Reg 0xFFFF b : Nat)

/-- A frame leaves on J9 (R565, R576). -/
def Dev.sendFrame (d : Dev) (lost : Nat) (status : Bool) (rs : List TraceRec) : Dev :=
  ({ d with j9 := frameBytes (d.n Obj.FRAMES_SENT) lost (d.o Obj.SERVICE_LEVEL == 0) status rs }).addWrap Obj.FRAMES_SENT

/-- The status record (R567). -/
def Dev.statusRecord (d : Dev) : TraceRec :=
  let v : Nat := d.n Obj.SERVICE_LEVEL + d.n Obj.SAFE_STATE * 2 ^ 8 + d.n Obj.LIFE_CYCLE * 2 ^ 16 + d.n Obj.PIN * 2 ^ 24 +
    d.n Obj.FUSE_DEFAULTS * 2 ^ 25 + d.n Obj.SAFE_IN * 2 ^ 26 + d.n Obj.DRIVE_EN * 2 ^ 27 + d.n Obj.BAND * 2 ^ 28
  { wall := d.wall, source := 0x01, poison := false, kind := 5, tag := d.n Obj.ACTIVE, value := (v : Int) }

/-- STATUS_FRAME (R568): sent at every service level. -/
def execStatusFrame (s : State) : Host.Outcome State Fault Refusal :=
  s.run (fun d => d.when (d.phase == .starting || d.alive) (fun d => d.sendFrame 0 true [d.statusRecord]))

/-- The buffer position of the oldest record, by the count of records written. -/
def Dev.traceHead (d : Dev) : Nat := (d.n Obj.RECORDS_WRITTEN + 32768 - d.trace.length) % 32768

/-- TRACE_FRAME_SEND (R569, R572, R573): up to 64 records, oldest first, live in MODE 0 or of held content; a marked word
exports its record with POISON, and in TB2 and TB3 a pause follows each full frame. -/
def Dev.traceFrame (d : Dev) : Dev :=
  let st := d.n Obj.TRACE_STATE
  let rs := (d.trace.take 64).zipIdx.map (fun p =>
    { p.1 with poison := p.1.poison || !((d.markedIn 11 (4 * ((d.traceHead + p.2) % 32768)) 4).isEmpty) })
  if !(st == 4 || (st == 1 && d.o Obj.MODE_C000 == 0)) || rs.isEmpty || d.pauses.contains 12 then d
  else
    let d1 := ({ d with trace := d.trace.drop 64, traceLost := 0 }).sendFrame d.traceLost false rs
    (d1.addWrap Obj.RECORDS_EXPORTED rs.length).when (rs.length == 64) (fun d => d.pauseStart 12 Obj.PAUSE_TRACE_TB2)

/-- TRACE_FRAME_SEND (R565, R573). -/
def execTraceFrameSend (s : State) : Host.Outcome State Fault Refusal := s.live (fun d => d.traceFrame)

/-! ### Capture (R573 to R575) -/

/-- A trigger from route bit 2 (R574, R575): the first one in TRIGGER_MASK ends the pre-trigger phase of MODE 1; others are
ignored and counted. -/
def Dev.traceTrigger (d : Dev) (t e : Nat) : Dev :=
  let st := d.n Obj.TRACE_STATE
  let inMask := bitOf (d.o Obj.TRIGGER_MASK) t
  if st = 1 ∧ d.o Obj.MODE_C000 = 1 ∧ inMask then
    let d1 := d.traceAdd 0x01 4 t (e : Int)
    ((({ d1 with tracePost := 0 }.setO Obj.TRIGGER_NO (t : Int)).setO Obj.TRIGGER_WALL (d.wall : Int)).setO Obj.TRACE_STATE 2).addSat
      Obj.TRIGGERS
  else if 2 ≤ st ∨ !inMask then d.addSat Obj.TRIGGERS_IGNORED
  else d

/-- The buffer emptied. -/
def Dev.traceEmpty (d : Dev) : Dev := { d with trace := [], tracePost := 0, traceLost := 0 }

/-- A write of TRACE_CTRL (R573, R575): 1 arm, 2 stop, 3 clear. -/
def Dev.traceCtrl (d : Dev) (v : Int) : Dev :=
  let st := d.n Obj.TRACE_STATE
  if v = 1 then
    if st = 0 ∨ st = 3 then
      ((((d.traceEmpty.setO Obj.TRACE_STATE 1).setO Obj.TRIGGER_NO 0xFF).setO Obj.TRIGGER_WALL 0).res 0)
    else d.res resState
  else if v = 2 then
    (d.when (st == 1 || st == 2) (fun d => d.setO Obj.TRACE_STATE (if d.o Obj.MODE_C000 = 1 then 4 else 0))).res 0
  else if v = 3 then if st = 0 ∨ st = 3 then (d.traceEmpty.setO Obj.TRACE_STATE 0).res 0 else d.res resState
  else d.res resRange

/-- TRACE_ARM (R573). -/
def execTraceArm (s : State) : Host.Outcome State Fault Refusal := s.serve (fun d => d.traceCtrl 1)

/-- TRACE_STOP (R575). -/
def execTraceStop (s : State) : Host.Outcome State Fault Refusal := s.serve (fun d => d.traceCtrl 2)

/-- TRACE_CLEAR (R575). -/
def execTraceClear (s : State) : Host.Outcome State Fault Refusal := s.serve (fun d => d.traceCtrl 3)

/-- TRACE_POST_DONE (R574): after POST_RECORDS records writing stops and the export begins. -/
def execTracePostDone (s : State) : Host.Outcome State Fault Refusal :=
  s.live (fun d => d.when (d.o Obj.TRACE_STATE == 2 && decide (d.n Obj.POST_RECORDS ≤ d.tracePost)) (fun d => d.setO Obj.TRACE_STATE 4))

/-- TRACE_EXPORT_DONE (R574). -/
def execTraceExportDone (s : State) : Host.Outcome State Fault Refusal :=
  s.live (fun d => d.when (d.o Obj.TRACE_STATE == 4 && d.trace.isEmpty) (fun d => d.setO Obj.TRACE_STATE 3))

/-! ### Object channels (R570, R571) -/

/-- The value of channel `k`: 32 bits, the less significant word of a wider value; 0 with POISON for a marked one (R571). -/
def Dev.channelValue (d : Dev) (ref : Nat) : Int × Bool :=
  if d.poison.contains ref then (0, true) else (signedMod 32 (d.shown ref), false)

/-- TRACE_CHANNEL_SAMPLE (R571). -/
def execTraceChannelSample (k : Fin 16) (s : State) : Host.Outcome State Fault Refusal :=
  s.live (fun d =>
    let ref := d.n (at' Obj.CH_SOURCE k)
    if ref = 0 then d
    else let (v, p) := d.channelValue ref; d.traceAdd 0x02 3 k v p)

end Sys2Proof.Machine
end

