-- ==== Sys2Proof/Machine/Arch.lean ====
section
/-! DEFINITION. What the supervisor pair and the safe-state holder watch over (R19 to R35): heartbeats, lockstep, the
clocks, the SAR spares and the links of the HV sense nodes. -/

namespace Sys2Proof.Machine

/-! ### Heartbeats and lockstep (R21 to R25) -/

/-- The initiator code of an engine (R517). -/
def engineCode : Engine → Nat
  | .sup => 0x01 | .svc => 0x02 | .le n => 0x10 + n | .ms n => 0x20 + n | .ge => 0x28 | .ce0 => 0x29 | .ce1 => 0x2A

/-- The Domain-stop of a machine whose sequencer is silent: the holder acts at once, by ABOVE_ASC (R513). -/
def Dev.holderStop (d : Dev) (m : Mach) : Dev :=
  if d.inAsc m ∨ d.o (tk m Obj.BRIDGE_STATE) = 0 then d
  else if d.b (tk m Obj.ABOVE_ASC) then d.ascEnter m 1 else d.pulsesOff m

/-- The tracks that an engine updates, and that its silence takes invalid (R41, R54); the rows share one loss. -/
def engineTracks : Engine → List TrackId
  | .ms n => if n.val = 0 then [.angA] else if n.val = 1 then [.angB] else if n.val = 2 then [.mains]
      else [.ax 0, .ax 1, .ax 2, .ax 3, .ax 4, .ax 5, .ax 6, .ax 7]
  | .ge => [.gnd, .row 0]
  | _ => []

/-- The reaction to a second missing heartbeat (R21, R54, R512). -/
def Dev.heartbeatMissing (d : Dev) (e : Engine) : Dev :=
  let c := engineCode e
  if d.dead.contains c then d
  else
    let d1 := { d with dead := insertOnce c d.dead }
    let f (code : Nat) : Dev := (d1.event 0x03).raise code true { ini := c }
    match e with
    | .le n => if n.val = 8 then d1.le8Fails else d1.when
        (d1.hostOf n.val == n.val && !(d1.leBlocked.contains n.val) && d1.leMoving != some n.val) (fun d => d.moveEngine n true)
    | .ms n => (engineTracks e).foldl (fun d t => d.loseTrack t) (if n.val = 0 then (f 0x1404).holderStop .A
        else if n.val = 1 then (f 0x2404).holderStop .B else if n.val = 2 then f 0x0604 else f 0x7404)
    | .ge | .ce0 | .ce1 => (engineTracks e).foldl (fun d t => d.loseTrack t) (f 0x8404)
    | .svc => { f 0x0604 with phase := .engines }
    | .sup => d

/-- HEARTBEAT_MISSING (R21); that of the supervisor pair is the holder's to find (R25). -/
def execHeartbeatMissing (e : Engine) (s : State) : Host.Outcome State Fault Refusal :=
  s.live (fun d => d.heartbeatMissing e)

/-- A lockstep mismatch of the service pair: every session closes and the pair is reset (R22). -/
def Dev.svcLockstep (d : Dev) (injected : Bool) : Dev :=
  let d1 := [1, 2, 3, 4, 5, 6, 7, 8].foldl (fun d s => d.closeSession s) (d.event 0x01)
  d1.raiseWith 0x0602 .sys { ini := 0x02, acc := 7 } false injected

/-- SVC_LOCKSTEP_MISMATCH (R22). -/
def execSvcLockstepMismatch (s : State) : Host.Outcome State Fault Refusal := s.live (fun d => d.svcLockstep false)

/-- A lockstep mismatch of the supervisor pair: a Lockout, and the holder resets the pair 1 ms later (R23, R553). -/
def Dev.supLockstep (d : Dev) (injected : Bool) : Dev :=
  let d1 := { d with power := { d.power with due := true } }
  (d1.event 0x00).raiseWith 0x0801 .sys { ini := 0x01, acc := 7 } false injected

/-- SUP_LOCKSTEP_MISMATCH (R23). -/
def execSupLockstepMismatch (s : State) : Host.Outcome State Fault Refusal := s.live (fun d => d.supLockstep false)

/-- CLOCK_COMPARE (R24, R217): the crystal-derived clock against the RC oscillator, in ppm; beyond 2 % the main clock tree
moves to the oscillator until the next reset. -/
def Dev.clockCompare (d : Dev) (ppm : Int) : Dev :=
  if ppm.natAbs ≤ 20000 ∨ d.power.rc then d
  else
    let src : FaultSrc := { ini := 0x01, acc := 7 }
    (((({ d with power := { d.power with rc := true } }).addSat Obj.CLOCK_FALLBACKS).event 0x02).raise 0x0203 true src).raise 0x348B true src

/-- CLOCK_COMPARE (R24). -/
def execClockCompare (ppm : Int) (s : State) : Host.Outcome State Fault Refusal := s.live (fun d => d.clockCompare ppm)

/-- SUPERVISOR_HEARTBEAT_TIMEOUT (R25, R525): the holder acts alone, and enters fault 0x0605 in the retention for the next
start. -/
def execSupervisorHeartbeatTimeout (s : State) : Host.Outcome State Fault Refusal :=
  s.live (fun d =>
    if d.power.alone then d
    else
      let first := decide (d.safeState = 0)
      let d1 := ((safeStateAll d).hold 0x0605 .sys).event 0x04
      { d1.when first (fun d => d.event 0x06) with power := { d.power with alone := true, due := true } })

/-! ### SAR spares (R30, R31, R546 to R548) -/

/-- The spare of group `g` takes over from converter `c`, which is retired for good (R31, R547, R548). -/
def Dev.sarRetire (d : Dev) (g c : Nat) : Dev :=
  let b := (d.block Obj.SAR_RETIRED).set g c
  let d1 := ((d.setBit Obj.SAR_SPARES_USED g true).setBlk Obj.SAR_RETIRED b).event 0x0D
  ({ d1 with kept := { d1.kept with blocks := Tab.put d1.kept.blocks Obj.SAR_RETIRED b } }).raiseOn 0xD106 .sys false { ini := 0x01, acc := 5 }

/-- A comparison of the spare of group `g` with converter `c`, whose results differ by `diff` (0.001 % of full scale); three
in a row beyond 0.05 % retire the converter, once per group. -/
def Dev.sarCompare (d : Dev) (g c : Nat) (diff : Int) : Dev :=
  let k := 8 * g + c
  if bitOf (d.o Obj.SAR_SPARES_USED) g then d
  else if diff.natAbs ≤ 50 then { d with sar := Tab.del d.sar k }
  else if Tab.get 0 d.sar k < 2 then { d with sar := Tab.upd 0 d.sar k (· + 1) }
  else ({ d with sar := Tab.del d.sar k }).sarRetire g c

/-- SAR_SPARE_COMPARE (R31). -/
def execSarSpareCompare (g : Fin 3) (c : Fin 7) (diff : Int) (s : State) : Host.Outcome State Fault Refusal :=
  s.live (fun d => d.sarCompare g c diff)

/-! ### HV links (R33 to R35) -/

/-- The link of node `h` is lost: the Domain-stop of its domain, or a Safe-state for HN5 (R35). -/
def Dev.linkLost (d : Dev) (h : Nat) (injected : Bool) : Dev :=
  if d.hnLost.contains h then d
  else ({ d with hnLost := insertOnce h d.hnLost }).raiseWith (hnFault h) (codeDomain (h + 1)) { ini := 0x30 + h, acc := 6 } true injected

/-- A frame of node `h` with a bad CRC: discarded and counted; four in a row lose the link (R35). -/
def Dev.badFrame (d : Dev) (h : Nat) (injected : Bool) : Dev :=
  let d1 := { d with hnBad := Tab.upd 0 d.hnBad h (· + 1), hnCount := Tab.upd 0 d.hnCount h (· + 1) }
  d1.when (decide (4 ≤ Tab.get 0 d1.hnBad h)) (fun d => d.linkLost h injected)

/-- HN_BAD_FRAME (R35, R116): with `window` the frame was a window result, which counts as lost. -/
def execHnBadFrame (h : Fin 6) (window : Bool) (s : State) : Host.Outcome State Fault Refusal :=
  s.live (fun d => (d.badFrame h false).when (window && decide (h.val ≤ 1)) (fun d => d.windowLost (if h.val = 0 then .A else .B)))

/-- HN_LINK_LOST (R35): no symbol for 2 µs. -/
def execHnLinkLost (h : Fin 6) (s : State) : Host.Outcome State Fault Refusal := s.live (fun d => d.linkLost h false)

/-- HN_MONITOR_FRAME (R34): a good frame with the decimated values of the node's configured channels. -/
def execHnMonitorFrame (h : Fin 6) (values : List Int) (s : State) : Host.Outcome State Fault Refusal :=
  s.live (fun d => { d.hnGood h with monitor := Tab.put d.monitor h values })

end Sys2Proof.Machine
end

