-- ==== Sys2Proof/Machine/Faults.lean ====
section
/-! DEFINITION. The sorting office, recovery and lockout, SAFE_IN, postmarks and fault injection (R504 to R530). -/

namespace Sys2Proof.Machine

/-! ### The sorting office (R504 to R507) -/

/-- REPEAT of the last log record of event `e` advanced where it is less than 1 ms old, else a new entry (R505 bit 0). -/
def Dev.logEvent (d : Dev) (e : Nat) : Dev :=
  let mine (r : LogRec) : Bool := r.kind == 1 && r.event == e
  match (d.coll.log.filter mine).getLast? with
  | some r =>
    if d.wall < r.wall + 1000000 then { d with coll := { d.coll with log := bumpLast mine d.coll.log } } else d.logAdd 0 e 1
  | none => d.logAdd 0 e 1

/-- The nFAULT pulse of a routed event (R430). -/
def Dev.nfaultPulse (d : Dev) : Dev := ({ d with nfPulse := true }).addSat Obj.PULSES_2310

/-- One event at its routes (R505). -/
def Dev.routeEvent (d : Dev) (e : Nat) : Dev :=
  let r := d.o (if e < 128 then el Obj.ROUTE (e + 1) else el Obj.ROUTE_HI (e - 127))
  let a := d.n (if e < 128 then el Obj.ROUTE_ARG (e + 1) else el Obj.ROUTE_ARG_HI (e - 127))
  let f (lo n : Nat) : Nat := a / 2 ^ lo % 2 ^ n
  (((((d.when (bitOf r 0) (fun d => d.logEvent e)).when (bitOf r 1) (fun d =>
    { d with notes := Tab.upd {} d.notes (f 0 6) (fun x => { x with force := true }) })).when (bitOf r 2) (fun d =>
    d.traceTrigger (f 20 3) e)).when (bitOf r 3) (fun d => { d.armSlot (416 + f 8 7) with result := d.result })).when (bitOf r 4) (fun d =>
    d.spStart (f 16 2) (f 18 2) none)).when (bitOf r 5) (fun d => d.nfaultPulse)

/-- EVENT_DELIVERY (R505, R507): the earliest event, of the lowest number in its tick, reaches its routes. -/
def execEventDelivery (s : State) : Host.Outcome State Fault Refusal :=
  s.live (fun d =>
    match d.evq with
    | [] => d
    | x :: t => ({ d with evq := t }).routeEvent (x % 256))

/-! ### Recovery and lockout (R519 to R523) -/

/-- The faults that never end automatically: those DRIVE_EN, SAFE_IN or a reset ends, and every Lockout (R520). -/
def neverEnds (code : Nat) : Bool :=
  faultClass code == 4 || (decide (0x0A0 ≤ faultCause code) && decide (faultCause code ≤ 0x0A5)) ||
    [0x3487, 0x4492, 0x72C1, 0x72C5, 0x348B, 0x14A8, 0x24A8, 0x34A8, 0x44A8, 0x54A8, 0x0606].contains code

/-- The code of a fault re-issued as a Lockout: same domain, same cause (R522). -/
def asLockout (code : Nat) : Nat := faultDomain code * 4096 + 4 * 512 + faultCause code

/-- RECENT shows the exits that count (R519). -/
def Dev.showRecent (d : Dev) : Dev := d.setO Obj.RECENT (min 8 d.coll.exits.length : Nat)

/-- A fault that would be the ninth exit becomes a Lockout, in the place of one of the same code (R522, R516). -/
def Dev.toLockout (d : Dev) (f : FaultRec) : Dev :=
  let code := asLockout f.code
  let first := decide (d.safeState = 0)
  let g : FaultRec := { code := code, acts := f.acts, since := d.wall, cause := false, quiet := d.wall, injected := f.injected }
  let d1 := { d with coll := { d.coll with active := d.coll.active.filter (fun (x : FaultRec) => !((x.code == f.code || x.code == code) && x.acts == f.acts)) ++ [g] } }.retainNow
  (((d1.logAdd code 0 5).postmark code f.acts {} f.injected).event 0x08).react code f.acts first

/-- An automatic exit that counts (R521). -/
def Dev.countExit (d : Dev) : Dev :=
  (({ d with coll := { d.coll with exits := d.coll.exits ++ [d.wall] } }.addSat Obj.RECOVERIES).event 0x09).showRecent

/-- The quiet period of a fault has passed with its cause absent (R520 to R522). -/
def Dev.quietEnd (d : Dev) (code : Nat) (acts : Domain) : Dev :=
  match d.coll.active.find? (fun f => f.code == code && f.acts == acts) with
  | none => d
  | some f =>
    if f.cause || neverEnds code then d
    else
      let counted := decide (2 ≤ faultClass code) && !f.injected
      if counted && decide (8 ≤ d.coll.exits.length) then d.toLockout f
      else (d.endFaults (fun x => x.code == code && x.acts == acts) 3).when counted (fun d => d.countExit)

/-- QUIET_PERIOD_END (R520). -/
def execQuietPeriodEnd (code : Nat) (acts : Domain) (s : State) : Host.Outcome State Fault Refusal :=
  s.live (fun d => d.quietEnd code acts)

/-- RECENT_WINDOW_EXPIRY (R519): the oldest exit is more than 600 s old. -/
def execRecentWindowExpiry (s : State) : Host.Outcome State Fault Refusal :=
  s.live (fun d => ({ d with coll := { d.coll with exits := d.coll.exits.drop 1 } }).showRecent)

/-- Whether LOCKOUT_CLEAR may end this fault: a Lockout whose cause has gone, a weld's from its detection; three end only at a
reset (R523). -/
def clearable (f : FaultRec) : Bool :=
  faultClass f.code == 4 && (!f.cause || f.code == 0x6879) && !([0xB8ED, 0xB8EE, 0xE8F2].contains f.code)

/-- A LOCKOUT_CLEAR write (R523); it takes effect at the next ledger period (R41). -/
def Dev.lockoutClear (d : Dev) : Dev :=
  if d.coll.active.any clearable then (d.deliver Obj.LOCKOUT_CLEAR 1).res 0 else d.res resState

/-- LOCKOUT_CLEAR (R523). -/
def execLockoutClear (s : State) : Host.Outcome State Fault Refusal := s.serve (fun d => d.lockoutClear)

/-- The Lockouts whose cause has gone end, and RECENT starts anew (R523). -/
def Dev.lockoutsEnd (d : Dev) : Dev :=
  ({ d.endFaults clearable 4 with coll := { (d.endFaults clearable 4).coll with exits := [] } }).showRecent

/-! ### SAFE_IN (R512, R525, R526) -/

/-- SAFE_IN_ASSERT (R512): the pin reads low for 2 µs; while no engine runs the holder enters the fault in the retention. -/
def execSafeInAssert (s : State) : Host.Outcome State Fault Refusal :=
  s.run (fun d =>
    if d.b Obj.SAFE_IN then d
    else
      let d1 := d.setO Obj.SAFE_IN 1
      if d.alive then (d1.event 0x05).raise 0x0606 true { ini := 0x38, acc := 5 }
      else d1.when (d.phase == .inReset || d.phase == .starting) (fun d => d.hold 0x0606 .sys))

/-- SAFE_IN_RELEASE (R512). -/
def execSafeInRelease (s : State) : Host.Outcome State Fault Refusal :=
  s.run (fun d => (d.setO Obj.SAFE_IN 0).clearFault 0x0606)

/-! ### Postmarks (R516) -/

/-- POSTMARK_ACK (R516) of class `c`; it takes effect at the next ledger period (R41). -/
def execPostmarkAck (c : Fin 5) (s : State) : Host.Outcome State Fault Refusal :=
  s.serve (fun d => (d.deliver (at' Obj.ACK c) 1).res 0)

/-- A postmark cleared and armed again (R516). -/
def Dev.postmarkClear (d : Dev) (c : Nat) : Dev :=
  (List.range 11).foldl (fun d i => d.setO (at' 0x221001 c + i) (dflt (at' 0x221001 c + i))) d

/-! ### The fault log (R515) -/

/-- The counters since manufacture as they now stand, energy counters apart (R237, R546, R556). -/
def Dev.manufactureCounts (d : Dev) : Tab Int :=
  d.obj.filter (fun e => match findDef e.1 with
    | some r => r.mfg && keyIdx e.1 != 0x5050
    | none => false)

/-- The log and the counters copied to the map and log area (R515, R546). -/
def Dev.logCopyNow (d : Dev) : Dev :=
  { d with coll := { d.coll with logCopy := d.coll.log }, kept := { d.kept with counts := d.manufactureCounts } }

/-- FAULT_LOG_COPY (R515). -/
def execFaultLogCopy (s : State) : Host.Outcome State Fault Refusal := s.serve (fun d => d.logCopyNow)

/-! ### Fault injection (R529, R530) -/

/-- Whether SELECT names something that TARGET has (R529). -/
def Dev.injectSelects (d : Dev) : Bool :=
  let n := d.ahead.n Obj.SELECT
  match d.ahead.n Obj.TARGET_2320 with
  | 1 => decide (1 ≤ n) && decide (n ≤ 11)
  | 2 => decide (n < 1024)
  | 3 => decide (1 ≤ n) && decide (n ≤ 128)
  | 4 | 5 => true
  | 6 => decide (n < 6)
  | _ => false

/-- CTRL 1 of fault injection: its conditions (R529); it takes effect at the next ledger period (R41). -/
def Dev.faultInject (d : Dev) : Dev :=
  let t := d.ahead.n Obj.TARGET_2320
  if !([2, 3, 4].contains (d.n Obj.LIFE_CYCLE)) || (decide (4 ≤ t) && !d.powerStopped) || (t == 3 && d.b Obj.MASTER) then d.res resState
  else if !d.injectSelects then d.res resCombination
  else (d.deliver Obj.CTRL_2320 1).res 0

/-- FAULT_INJECT (R529, R530). -/
def execFaultInject (s : State) : Host.Outcome State Fault Refusal := s.serve (fun d => d.faultInject)

/-- An error in the test word of instance `i`, its last word: counted and reported, outside the bucket and the remap
tracking, and rewritten whole (R530). -/
def Dev.injectMemory (d : Dev) (i bits : Nat) : Dev :=
  let w := memWords i - 1
  if bits = 1 then d.addSat (el Obj.CE_COUNT i)
  else ((((d.addSat (el Obj.UE_COUNT i)).setO Obj.LAST_UE_INSTANCE (i : Int)).setO Obj.LAST_UE_OFFSET (4 * w : Nat)).event 0xE0).raiseWith
    0xA0E0 .sys (memSrc i w) false true

/-- The injection applied (R529, R530). -/
def Dev.injectApply (d : Dev) : Dev :=
  let n := d.n Obj.SELECT
  let d1 := ((d.addSat Obj.INJECTIONS).event 0x0B).setO Obj.STATE_2320 1
  match d.n Obj.TARGET_2320 with
  | 1 => (d1.injectMemory n (d.n Obj.BITS)).setO Obj.STATE_2320 2
  | 2 => d1.updFuse (fun f => { f with inject := some (n, d.n Obj.BITS) })
  | 3 => { d1 with crcInject := some (n, d.n Obj.COUNT_2320) }
  | 4 => (d1.supLockstep true).setO Obj.STATE_2320 2
  | 5 => (d1.svcLockstep true).setO Obj.STATE_2320 2
  | 6 => ((List.range (d.n Obj.COUNT_2320)).foldl (fun d _ => d.badFrame n true) d1).setO Obj.STATE_2320 2
  | _ => d1

/-- INJECTION_TIMEOUT (R529): not detected within 100 ms. -/
def execInjectionTimeout (s : State) : Host.Outcome State Fault Refusal :=
  s.live (fun d => d.when (d.o Obj.STATE_2320 == 1) (fun d => d.setO Obj.STATE_2320 3))

end Sys2Proof.Machine
end

