-- ==== Sys2Proof/Machine/Thermal.lean ====
section
/-! DEFINITION. Temperature (R535 to R549): the sensors and their exclusion, the band, the throttling pauses, the reactions of
R544 and the wear counters of R546. -/

namespace Sys2Proof.Machine

/-! ### Sensors (R535 to R537) -/

/-- Where a THM fault of sensor `n` comes from (R518). -/
def thmSrc (n : Nat) : FaultSrc := { addr := n, ini := 0x01, acc := 5 }

/-- The hidden state of sensor `n`. -/
def Dev.sensorOf (d : Dev) (n : Nat) : Sensor := Tab.get {} d.sensors n

/-- The hidden state of sensor `n` changed. -/
def Dev.updSensor (d : Dev) (n : Nat) (f : Sensor → Sensor) : Dev := { d with sensors := Tab.upd {} d.sensors n f }

/-- Whether sensor `n` is valid and has a reading. -/
def Dev.sensorValid (d : Dev) (n : Nat) : Bool := d.o (el Obj.SENSOR_STATE n) == 0 && d.o (el Obj.TEMP n) != -32768

/-- Sensor `n` reports `t`, or -32,768 while it is not valid (R537); a sensor that becomes excluded raises fault 0xD100. -/
def Dev.sensorShow (d : Dev) (n : Nat) (state : Nat) (t : Int) : Dev :=
  let was := d.n (el Obj.SENSOR_STATE n)
  ((d.setO (el Obj.SENSOR_STATE n) (state : Int)).setO (el Obj.TEMP n) (if state = 0 then t else -32768)).when
    (state == 1 && was != 1) (fun d => d.raiseOn 0xD100 .sys false (thmSrc n))

/-- The element `i` of a sorted list. -/
def nth (l : List Int) (i : Nat) : Int := (l.drop i).headD 0

/-- Twice the median of readings; for an even number the sum of the two in the middle (log entry 40). -/
def median2 (l : List Int) : Int :=
  let s := sortBy (fun a b => decide (a ≤ b)) l
  nth s ((l.length - 1) / 2) + nth s (l.length / 2)

/-- The main-die sensors that are not excluded. -/
def Dev.dieIn (d : Dev) : List Nat := ((List.range 16).map (· + 1)).filter (fun n => d.o (el Obj.SENSOR_STATE n) == 0)

/-- A reading `t` of main-die sensor `n` against twice the median: excluded at the tenth sample in a row more than 15 K away, and
back after 1 s within 5 K (R537). -/
def Dev.dieSensor (d : Dev) (med : Int) (n : Nat) (t : Int) : Dev :=
  let dev := (2 * t - med).natAbs
  if d.o (el Obj.SENSOR_STATE n) = 0 then
    let run := if 300 < dev then (d.sensorOf n).run + 1 else 0
    (d.updSensor n (fun x => { x with run := if 10 ≤ run then 0 else run, good := none })).sensorShow n (if 10 ≤ run then 1 else 0) t
  else
    let good := if dev ≤ 100 then some ((d.sensorOf n).good.getD d.wall) else none
    let back := match good with
      | some w => decide (w + 1000000000 ≤ d.wall)
      | none => false
    (d.updSensor n (fun x => { x with run := 0, good := if back then none else good })).sensorShow n (if back then 0 else 1) t

/-- A reading of an NTC or TS input: excluded at once outside -50 to +200 °C, back after 10 samples in a row inside (R537). -/
def Dev.ntcSensor (d : Dev) (n : Nat) (t : Int) : Dev :=
  let inside := decide (-500 ≤ t) && decide (t ≤ 2000)
  let out := d.o (el Obj.SENSOR_STATE n) == 1
  let run := if inside && out then (d.sensorOf n).run + 1 else 0
  let st := if !inside || (out && decide (run < 10)) then 1 else 0
  (d.updSensor n (fun x => { x with run := if st = 1 then run else 0 })).sensorShow n st t

/-- A reading of a driver or HN die, excluded while its link is lost (R537). -/
def Dev.linkSensor (d : Dev) (n : Nat) (lost : Bool) (t : Int) : Dev :=
  d.sensorShow n (if lost then 1 else 0) t

/-! ### Maxima (R536, R538) -/

/-- The highest valid reading of some sensors; -32,768 where none is valid. -/
def Dev.maxTemp (d : Dev) (l : List Nat) : Int :=
  (l.filter (fun n => d.sensorValid n)).foldl (fun m n => max m (d.o (el Obj.TEMP n))) (-32768)

/-- The sensors of a domain (R538). -/
def Dev.domainSensors (d : Dev) (dom : Domain) : List Nat :=
  let ntc := ([1, 2, 3, 4, 5, 6, 7, 8].filter (fun n => d.n (at' Obj.NTC_DOMAIN (n - 1)) == dom.num)).map (· + 66)
  match dom with
  | .sys => (List.range 16).map (· + 1) ++ [63, 64, 65, 66]
  | .bom => (List.range 12).map (· + 1)
  | .act => [13, 14, 15, 16] ++ ntc
  | _ =>
    let chs := allChannels.filter (fun n => groupDomain (d.groupOf n) == some dom)
    chs.map (· + 16) ++ chs.map (· + 74) ++ [55 + dom.num] ++ ntc

/-- DOMAIN_MAX and DEVICE_MAX. -/
def Dev.showMaxima (d : Dev) : Dev :=
  (Domain.all.foldl (fun d dom => d.setO (el Obj.DOMAIN_MAX dom.num) (d.maxTemp (d.domainSensors dom))) d).setO Obj.DEVICE_MAX
    (d.maxTemp ((List.range 66).map (· + 1)))

/-! ### The band (R539, R541) -/

/-- The band of die maximum `t` (0.1 °C) from band `b`; several thresholds are crossed at once (R539). -/
def bandFrom (b : Nat) (t : Int) : Nat :=
  let up := if 1180 ≤ t then 3 else if 950 ≤ t then 2 else if -150 ≤ t then 1 else 0
  let down := if t < -190 then 0 else if t < 910 then 1 else if t < 1140 then 2 else 3
  if b < up then up else if down < b then down else b

/-- The band without hysteresis (R485). -/
def bandFresh (t : Int) : Nat := if 1180 ≤ t then 3 else if 950 ≤ t then 2 else if -150 ≤ t then 1 else 0

/-- The band changes: one count and one event (R539). -/
def Dev.bandTo (d : Dev) (b : Nat) : Dev :=
  if d.n Obj.BAND = b then d
  else (((d.setO Obj.BAND (b : Int)).setB Obj.THROTTLING (decide (2 ≤ b))).addSat Obj.BAND_CHANGES).event 0x0C

/-- The valid main-die sensors. -/
def Dev.dieValid (d : Dev) : Nat := (((List.range 16).map (· + 1)).filter (fun n => d.sensorValid n)).length

/-- The die maximum; `none` while no main-die sensor is valid. -/
def Dev.dieMax (d : Dev) : Option Int := if d.dieValid = 0 then none else some (d.maxTemp ((List.range 16).map (· + 1)))

/-- The evaluation of the band: with fewer than 8 valid main-die sensors it is TB3, and fault 0xD304 stands (R539, R541). -/
def Dev.bandEval (d : Dev) : Dev :=
  if d.dieValid < 8 then (d.bandTo 3).when (!(d.faultOn 0xD304)) (fun d => d.raiseOn 0xD304 .sys true { ini := 0x01, acc := 5 })
  else
    (match d.dieMax with
      | some t => d.bandTo (bandFrom (d.n Obj.BAND) t)
      | none => d).causeGone 0xD304

/-- The shutdown: at 135.0 °C, or with fewer than 4 valid main-die sensors, until the maximum is below 125.0 °C (R541, R544). -/
def Dev.shutEval (d : Dev) : Dev :=
  let few := decide (d.dieValid < 4)
  let t := d.dieMax
  let high := match t with
    | some t => decide (1350 ≤ t)
    | none => false
  let low := match t with
    | some t => decide (t < 1250)
    | none => false
  let hot := (((List.range 16).map (· + 1)).filter (fun n => d.sensorValid n && t == some (d.o (el Obj.TEMP n)))).head?
  if few || high then
    ({ d with die := { d.die with shut := true } }).when (!d.die.shut || !(d.faultOn 0xD703)) (fun d => d.raiseOn 0xD703 .sys true
      { addr := if high then hot.getD 0xFFFFFFFF else 0xFFFFFFFF, ini := 0x01, acc := 5 })
  else if low then ({ d with die := { d.die with shut := false } }).causeGone 0xD703
  else d

/-! ### Over-temperature (R544) -/

/-- A sensor whose condition sets at `hi` and releases below `lo`; the Bool says that it has just set. -/
def Dev.hotSensor (d : Dev) (n : Nat) (hi lo : Int) : Dev × Bool :=
  let x := d.sensorOf n
  let t := d.o (el Obj.TEMP n)
  let hot := if !(d.sensorValid n) then x.hot else decide (hi ≤ t) || (x.hot && decide (lo ≤ t))
  (d.updSensor n (fun x => { x with hot := hot }), hot && !x.hot)

/-- The domain that a driver sensor (17 to 56) or an HN sensor (57 to 62) serves. -/
def Dev.servesDomain (d : Dev) (n : Nat) : Option Domain :=
  if n ≤ 56 then groupDomain (d.groupOf (n - 16)) else some (codeDomain (n - 56))

/-- A driver or HN die at 140.0 °C stops its domain until it is below 130.0 °C (R544). -/
def Dev.driverHot (d : Dev) (n : Nat) : Dev :=
  match d.servesDomain n with
  | none => d.updSensor n (fun x => { x with hot := false })
  | some dom =>
    let (d1, set) := d.hotSensor n 1400 1300
    d1.when set (fun d => d.raiseOn 0xD507 dom true (thmSrc n))

/-- The causes of fault 0xD507 that have gone: no driver or HN die of the domain stands hot. -/
def Dev.driversCool (d : Dev) : Dev :=
  let hot := ((List.range 46).map (· + 17)).filter (fun n => (d.sensorOf n).hot)
  [Domain.tra, .trb, .grd, .dca, .dcb, .lnk].foldl (fun d dom =>
    if hot.any (fun n => d.servesDomain n == some dom) then d else d.causeGoneOn 0xD507 dom) d

/-- A module NTC above 105.0 °C until below 100.0 °C (R544). -/
def Dev.moduleHot (d : Dev) (n : Nat) : Dev :=
  let (d1, set) := d.hotSensor n 1051 1000
  d1.when set (fun d => d.raiseOn 0xD105 .sys false (thmSrc n))

/-- The domain of a number `s` of `2010:s`. -/
def numDomain (s : Nat) : Domain := (Domain.all.drop (s - 1)).headD .sys

/-- The reactions to NTC input `i` (1 to 8): derate at NTC_HOT or excluded, Domain-stop or faulty chopper at the third sample at
NTC_TRIP (R544, R545). -/
def Dev.ntcReact (d : Dev) (i : Nat) : Dev :=
  let n := 66 + i
  let dom := d.n (at' Obj.NTC_DOMAIN (i - 1))
  if dom = 0 then d.updSensor n (fun x => { x with hot := false, trip := false, trips := 0 })
  else
    let x := d.sensorOf n
    let t := d.o (el Obj.TEMP n)
    let ok := d.sensorValid n
    let lim := d.o (at' Obj.NTC_HOT (i - 1))
    let hot := if ok then decide (lim ≤ t) || (x.hot && decide (lim - 50 ≤ t)) else true
    let trips := if ok && decide (d.o (at' Obj.NTC_TRIP (i - 1)) ≤ t) then min 3 (x.trips + 1) else 0
    let trip := trips == 3 || (x.trip && !(ok && decide (t < lim)))
    let d1 := d.updSensor n (fun x => { x with hot := hot, trips := trips, trip := trip })
    (d1.when (hot && !x.hot) (fun d => d.raiseOn 0xD301 (numDomain dom) true (thmSrc n))).when (trip && !x.trip && dom != 7)
      (fun d => d.raiseOn 0xD502 (numDomain dom) true (thmSrc n))

/-- The causes of faults 0xD301 and 0xD502 that have gone, by domain. -/
def Dev.ntcsCool (d : Dev) : Dev :=
  [Domain.tra, .trb, .grd, .dca, .dcb, .lnk, .act].foldl (fun d dom =>
    (d.when ((d.ntcOf dom.num (fun s => s.hot)).isEmpty) (fun d => d.causeGoneOn 0xD301 dom)).when
      ((d.ntcOf dom.num (fun s => s.trip)).isEmpty) (fun d => d.causeGoneOn 0xD502 dom)) d

/-! ### Hours and cycles (R427, R546) -/

/-- A tenth of an hour, ns. -/
def tenthHour : Nat := 360000000000

/-- OP_HOURS and BAND_HOURS advance by the time since the last sample. -/
def Dev.hours (d : Dev) : Dev :=
  let dt := d.wall - d.power.sampleAt
  let b := d.n Obj.BAND
  let op := d.power.opRest + (if d.power.low || d.power.tooHigh then 0 else dt)
  let r := d.power.bandRest.getD b 0 + dt
  (({ d with power := { d.power with sampleAt := d.wall, opRest := op % tenthHour, bandRest := d.power.bandRest.set b (r % tenthHour) } }.addSat
    Obj.OP_HOURS (op / tenthHour)).addSat (Obj.BAND_HOURS + b) (r / tenthHour))

/-- THERMAL_CYCLES: a swing of 40 K or more ends at the turning point where the die maximum reverses (R546). -/
def Dev.cycles (d : Dev) : Dev :=
  match d.dieMax, d.die.turn with
  | none, _ => d
  | some t, none => { d with die := { d.die with turn := some t, peak := t, up := true } }
  | some t, some a =>
    if t = d.die.peak ∨ (decide (d.die.peak < t)) = d.die.up then { d with die := { d.die with peak := t } }
    else
      ({ d with die := { d.die with turn := some d.die.peak, peak := t, up := !d.die.up } }).when
        (decide (400 ≤ (d.die.peak - a).natAbs)) (fun d => d.addSat Obj.THERMAL_CYCLES)

/-! ### The samples (R535) -/

/-- DIE_TEMP_SAMPLE: sensors 1 to 16 and 17 to 56 read as given, the TS inputs as TS_TEMP (R535, R537, R539, R541, R544).  While
every main-die sensor is excluded there is no median, and none returns (log entry 40). -/
def Dev.dieSample (d : Dev) (die : Vector Int 16) (drv : Vector Int 40) : Dev :=
  let ins := d.dieIn
  let med := if ins.isEmpty then 1000000 else median2 (ins.map (fun n => die.toList.getD (n - 1) 0))
  let d1 := ((List.range 16).map (· + 1)).foldl (fun d n => d.dieSensor med n (die.toList.getD (n - 1) 0)) d.hours
  let d2 := allChannels.foldl (fun d n => d.linkSensor (16 + n) (bitOf (d.o (el Obj.STATUS_6020 n)) 4) (drv.toList.getD (n - 1) 0)) d1
  let d3 := allChannels.foldl (fun d n =>
    if d.groupOf n = 0 ∨ d.o (at' Obj.TS_TYPE (d.groupOf n - 1)) = 0 then d.sensorShow (74 + n) 2 0
    else d.ntcSensor (74 + n) (d.o (el Obj.TS_TEMP n))) d2
  let d4 := (allChannels.foldl (fun d n => d.driverHot (16 + n)) d3).driversCool
  d4.bandEval.shutEval.cycles.showMaxima

/-- DIE_TEMP_SAMPLE (R539). -/
def execDieTempSample (die : Vector Int 16) (drv : Vector Int 40) (s : State) : Host.Outcome State Fault Refusal :=
  s.live (fun d => d.dieSample die drv)

/-- SLOW_TEMP_SAMPLE: HN dies, module NTCs and the external NTC inputs (R535, R537, R544, R545). -/
def Dev.slowSample (d : Dev) (hn : Vector Int 6) (module : Vector Int 4) (ntc : Vector Int 8) : Dev :=
  let d1 := (List.range 6).foldl (fun d h => d.linkSensor (57 + h) (d.hnLost.contains h) (hn.toList.getD h 0)) d
  let d2 := (List.range 4).foldl (fun d i => d.ntcSensor (63 + i) (module.toList.getD i 0)) d1
  let d3 := (List.range 8).foldl (fun d i =>
    if d.n (at' Obj.NTC_DOMAIN i) = 0 then d.sensorShow (67 + i) 2 0 else d.ntcSensor (67 + i) (ntc.toList.getD i 0)) d2
  let d4 := ((List.range 6).foldl (fun d h => d.driverHot (57 + h)) d3).driversCool
  let d5 := (List.range 4).foldl (fun d i => d.moduleHot (63 + i)) d4
  (((List.range 8).foldl (fun d i => d.ntcReact (i + 1)) d5).ntcsCool.driveChopper).showMaxima

/-- SLOW_TEMP_SAMPLE (R544). -/
def execSlowTempSample (hn : Vector Int 6) (module : Vector Int 4) (ntc : Vector Int 8) (s : State) : Host.Outcome State Fault Refusal :=
  s.live (fun d => d.slowSample hn module ntc)

/-- THROTTLE_PAUSE_END (R542): the pause of throttled operation `op` is over. -/
def execThrottlePauseEnd (op : Fin 19) (s : State) : Host.Outcome State Fault Refusal :=
  s.live (fun d => { d with pauses := d.pauses.filter (· != op.val) })

end Sys2Proof.Machine
end

