-- ==== Sys2Proof/Machine/Power.lean ====
section
/-! DEFINITION. Power-up, reset, start and shutdown (R550 to R563), the resets that other chapters command (R428, R494, R553), what a
reset keeps (R155, R526, R556 to R558) and the sensor supplies (R584). -/

namespace Sys2Proof.Machine

/-! ### What flash keeps (R556) -/

/-- Whether an object is stored in the recipe area (R556). -/
def storedKey (k : Nat) : Bool :=
  let i := keyIdx k
  match findDef k with
  | none => false
  | some r =>
    let rw := r.acc == .rw || r.acc == .rws
    if 0x3200 ≤ i ∧ i < 0x3400 then decide (0x33A0 ≤ i) && [1, 3, 4, 5, 6].contains (keySub k)
    else if 0xC000 ≤ i ∧ i < 0xC020 then false
    else rw && (decide (2 ≤ r.wr) || (decide (0x8000 ≤ i) && decide (i < 0x9000)) || (decide (0xF000 ≤ i) && decide (i < 0xF300)) ||
      (decide (0x1800 ≤ i) && decide (i < 0x1840)) || (decide (0x1A00 ≤ i) && decide (i < 0x1A40)))

/-- The map of an object of the notification maps. -/
def mapOf (k : Nat) : Nat := keyIdx k % 64

/-- Whether the object belongs to the map of a session, which is not kept (R556). -/
def Dev.sessionMap (d : Dev) (k : Nat) : Bool :=
  let i := keyIdx k
  ((decide (0x1800 ≤ i) && decide (i < 0x1840)) || (decide (0x1A00 ≤ i) && decide (i < 0x1A40))) &&
    d.ahead.o (at' Obj.SESSION (mapOf k)) != 0

/-- RECIPE_STORE (R557): the value an accepted write gave object `k` is appended with a commit record. -/
def Dev.recipeStore (d : Dev) (k : Nat) : Dev :=
  if !(storedKey k) || d.sessionMap k then d
  else match findDef k with
    | some r =>
      if r.ty == .domain then
        let b := match (d.writes.filter (fun w => w.key == k)).getLast? with
          | some w => w.block.getD (d.block k)
          | none => d.block k
        { d with kept := { d.kept with blocks := Tab.set (blkDflt k) d.kept.blocks k b } }
      else { d with kept := { d.kept with recipe := Tab.set (dflt k) d.kept.recipe k (d.ahead.o k) } }
    | none => d

/-- RECIPE_STORE (R557). -/
def execRecipeStore (k : Nat) (s : State) : Host.Outcome State Fault Refusal := s.serve (fun d => d.recipeStore k)

/-! ### Reset assertion (R155, R526, R553, R558) -/

/-- The bridge through a reset: the state it takes, with the ASC that the holder keeps or enters (R155). -/
def Dev.bridgeAfter (d : Dev) (m : Mach) : Nat :=
  let st := d.n (tk m Obj.BRIDGE_STATE)
  if st = 5 then 5
  else if !(d.b (tk m Obj.ABOVE_ASC)) ∨ st = 0 then 0
  else if st = 3 ∨ st = 4 then st else d.ascState m

/-- The objects of a reset's pins, postmarks, meters and latches, which it does not lower. -/
def Dev.keptObjects (d : Dev) (lost : Bool) : Tab Int :=
  d.obj.filterMap (fun e =>
    let i := keyIdx e.1
    if [Obj.KEY_ON, Obj.DRIVE_EN, Obj.SAFE_IN, Obj.VSUP, Obj.RESETS, Obj.LOG_GAPS, Obj.E_UNLOGGED_MAX].contains e.1 then some e
    else if lost then none
    else if e.1 = Obj.PIN ∨ (0x2210 ≤ i ∧ i ≤ 0x2214) then some e
    else if i = keyIdx Obj.STATUS_6020 then some (e.1, bitsOf e.2 4 1 * 2)
    else if i = keyIdx Obj.HB_STATUS then some (e.1, if bitOf e.2 2 then 4 else 0)
    else none)

/-- The log after a reset: the copy, then the records of retained faults made since (R515, R524). -/
def Dev.logAfter (d : Dev) (held : List FaultRec) : List LogRec :=
  let own := held.filterMap (fun f =>
    (d.coll.log.filter (fun r => r.code == f.code && (r.kind == 2 || r.kind == 5))).getLast?)
  let l := d.coll.logCopy ++ own.filter (fun r => !(d.coll.logCopy.contains r))
  l.drop (l.length - 256)

/-- The faults that enter the retention at a reset, but for those that a reset ends (R520, R523, R524). -/
def Dev.frozen (d : Dev) : List FaultRec :=
  (retain (d.coll.active ++ d.coll.held)).filter (fun f => !([0x348B, 0xB8ED, 0xB8EE, 0xE8F2].contains f.code))

/-- A traction bridge as the reset leaves it. -/
def Dev.bridgeReset (d old : Dev) (m : Mach) : Dev :=
  let st := old.bridgeAfter m
  let k (x : Nat) : Nat := tk m x
  (((d.setO (k Obj.BRIDGE_STATE) (st : Nat)).setO (k Obj.ABOVE_ASC) (old.o (k Obj.ABOVE_ASC))).setO (k Obj.ASC_CAUSE)
    (if st = 3 ∨ st = 4 then 6 else 0)).when ((st == 3 || st == 4) && !(old.inAsc m)) (fun d => d.addSat (k Obj.ASC_ENTRIES))

/-- The drivers of the confirmed mains that stay closed (R526, R558). -/
def Dev.mainsAfter (d : Dev) : List Nat :=
  if d.openRequest then [] else [0, 1].filter (fun s => d.mainClosed s && match d.mainOf s with
    | some n => (d.ctrOf n).on
    | none => false)

/-- The link as the reset leaves it: a confirmed main stays closed, LINK_CTRL names its source and PRE_STATE reads 4. -/
def Dev.linkReset (d old : Dev) (mains : List Nat) : Dev :=
  let d1 := mains.foldl (fun (d : Dev) s => match old.mainOf s with
    | some n => ((d.updCtr n (fun _ => { on := true, duty := (old.ctrOf n).duty })).setO (at' Obj.STATE_5810 n) 2).setO (at' Obj.ROLE_5810 n)
        (old.o (at' Obj.ROLE_5810 n))
    | none => d) d
  if mains = [] then d1
  else (d1.setO Obj.LINK_CTRL ((if mains.contains 0 then 1 else 0) + (if mains.contains 1 then 2 else 0) : Nat)).setO Obj.PRE_STATE 4

/-- The bound of the energy not logged, mWh: the largest power since the last entry times the time from it (R237). -/
def Dev.meterBound (d : Dev) : Nat := d.grid.maxP * (d.wall - d.grid.logWall) / mWh

/-- A reset of the given cause, in phase `ph` (R51, R155, R467, R526, R553, R556, R558): the wipe of memories and sessions, every object
at its default but for what the pins, the retention and flash keep, and RESETS counted where the reset is a new one. -/
def Dev.resetTo (d : Dev) (cause : Nat) (ph : Phase) (count : Bool) : Dev :=
  let lost := cause == 1
  let gap := d.alive && !d.power.saved
  let held := if lost then [] else d.frozen
  let resets : Nat := min 4294967295 (d.n Obj.RESETS + (if count then 1 else 0))
  let shut := d.b Obj.SHUTDOWN_STATE
  let base : Dev := {
    free := d.free
    coll := { log := d.logAfter held, logCopy := d.coll.logCopy, held := held, retained := held }
    phase := ph
    gates := d.gates.filterMap (fun e =>
      if e.2.committed = 0 then none else some (e.1, ({ committed := e.2.committed, inForce := e.2.committed } : Gate)))
    openRequest := !lost && d.openRequest
    ocTrips := if lost then [] else d.ocTrips
    grid := { logImport := d.grid.logImport, logExport := d.grid.logExport }
    ge := { stored := d.ge.stored }
    fuse := { d.fuse with job := none, data := [], step := none, inject := none }
    slotsAB := d.slotsAB
    nonces := d.nonces
    power := {
      cause := cause
      awake := d.phase != .asleep
      held := cause == 2
      low := d.power.low
      tooHigh := d.power.tooHigh
      after := if cause == 6 || d.power.keyAgain then 0 else if shut then 1 else d.power.after
      gap := if gap then some d.meterBound else d.power.gap }
    kept := { d.kept with counts := Tab.put d.kept.counts Obj.RESETS resets }
    nfLevel := lost || d.b Obj.PIN }
  let d1 := (d.keptObjects lost ++ d.kept.counts).foldl (fun d e => d.setO e.1 e.2) base
  let d2 := ((((d1.setO Obj.RESETS (resets : Int)).setO Obj.RESET_CAUSE (cause : Int)).setO Obj.PIN (if lost then 1 else d.o Obj.PIN)).setO
    Obj.E_IMPORT (d.grid.logImport : Int)).setO Obj.E_EXPORT (d.grid.logExport : Int)
  let d3 := d2.when gap (fun x => (x.addSat Obj.LOG_GAPS).setO Obj.E_UNLOGGED_MAX (d.o Obj.E_UNLOGGED_MAX + d.meterBound))
  let d4 := if lost then d3 else ((d3.bridgeReset d .A).bridgeReset d .B).linkReset d d.mainsAfter
  let sar := Tab.get (blkDflt Obj.SAR_RETIRED) d.kept.blocks Obj.SAR_RETIRED
  let spares : Nat := [0, 1, 2].foldl (fun (s : Nat) g => if sar.getD g 255 = 255 then s else s + 2 ^ g) 0
  ((d4.setBlk Obj.SAR_RETIRED sar).setO Obj.SAR_SPARES_USED (spares : Int)).when (d.b Obj.JOB_STATE) (fun d => d.setO Obj.JOB_STATE 3)

/-- A reset that asserts: cause 2 is held until VSUP passes the power-on release (R550, R553). -/
def Dev.resetNow (d : Dev) (cause : Nat) : Dev := d.resetTo cause .inReset true

/-! ### VSUP and KEY_ON (R550 to R552, R555, R562) -/

/-- VSUP_POWER_ON (R550): VSUP passes the release level, at `v` (0.01 V); with KEY_ON high, or after a brown-out that came while awake,
the start follows, else sleep, after cause 1 with nFAULT released (R552). -/
def Dev.powerOn (d : Dev) : Dev :=
  if d.phase == .off then
    if d.b Obj.KEY_ON then { d with phase := .starting }
    else ({ d with phase := .asleep, nfLevel := false }).setO Obj.PIN 0
  else if d.phase == .inReset && d.power.held then
    let d1 := { d with power := { d.power with held := false } }
    if d.b Obj.KEY_ON then { d1 with phase := .starting }
    else if d.power.awake then { d1 with phase := .starting, power := { d1.power with after := 1 } }
    else { d1 with phase := .asleep }
  else d

/-- VSUP_POWER_ON (R550). -/
def execVsupPowerOn (v : Nat) (s : State) : Host.Outcome State Fault Refusal := s.run (fun d => (d.powerOn).setO Obj.VSUP (v : Int))

/-- VSUP_BROWN_OUT (R550): below the brown-out level for 1 ms. -/
def execVsupBrownOut (v : Nat) (s : State) : Host.Outcome State Fault Refusal :=
  s.run (fun d => ((if d.phase == .off || (d.phase == .inReset && d.power.held) then d else d.resetNow 2)).setO Obj.VSUP (v : Int))

/-- VSUP_LOSS (R550): every switch turns off and the retention is cleared; a reset already asserted counts once (log entry 42). -/
def execVsupLoss (v : Nat) (s : State) : Host.Outcome State Fault Refusal :=
  s.run (fun d => ((if d.phase == .off then d else d.resetTo 1 .off (d.phase != .inReset || !d.power.held))).setO Obj.VSUP (v : Int))

/-- VSUP_LOW_RANGE (R550): below 18.0 V; starts are refused and fault 0x0311 stands. -/
def execVsupLowRange (v : Nat) (s : State) : Host.Outcome State Fault Refusal :=
  s.run (fun d =>
    let d1 := d.setO Obj.VSUP (v : Int)
    if 1800 ≤ v then d1
    else ({ d1 with power := { d1.power with low := true } }).when d1.alive (fun d => d.raise 0x0311 true { ini := 0x01, acc := 5 }))

/-- VSUP_HIGH_RANGE (R550): above 32.0 V, a Notice. -/
def execVsupHighRange (v : Nat) (s : State) : Host.Outcome State Fault Refusal :=
  s.run (fun d => (d.setO Obj.VSUP (v : Int)).when (d.alive && decide (3200 < v)) (fun d => d.raise 0x0110 false { ini := 0x01, acc := 5 }))

/-- VSUP_OVERVOLTAGE (R550): above the over-voltage level for 100 µs; before the engines run, the start raises the fault. -/
def execVsupOvervoltage (v : Nat) (s : State) : Host.Outcome State Fault Refusal :=
  s.run (fun d => ({ (d.setO Obj.VSUP (v : Int)) with power := { d.power with tooHigh := true } }).when d.alive
    (fun d => d.raise 0x0712 true { ini := 0x01, acc := 5 }))

/-- VSUP_RANGE_RETURN (R550): at 18.0 V or more the cause of fault 0x0311 goes, and below 34.0 V that of fault 0x0712. -/
def execVsupRangeReturn (v : Nat) (s : State) : Host.Outcome State Fault Refusal :=
  s.run (fun d =>
    let d1 := (d.setO Obj.VSUP (v : Int)).when (decide (1800 ≤ v)) (fun d => ({ d with power := { d.power with low := false } }).causeGone 0x0311)
    d1.when (decide (v < 3400)) (fun d => ({ d with power := { d.power with tooHigh := false } }).causeGone 0x0712))

/-- KEY_ON_RISE (R551, R555, R562): asleep it starts the E960; before step 4 it ends a shutdown, from step 4 on the shutdown completes
first; in a start it ends what would follow step 7. -/
def Dev.keyRise (d : Dev) : Dev :=
  let d1 := d.setO Obj.KEY_ON 1
  let st := d.n Obj.SHUTDOWN_STATE
  if d.phase == .asleep then d1.resetTo 6 .starting true
  else if 1 ≤ st ∧ st ≤ 3 then d1.setO Obj.SHUTDOWN_STATE 0
  else if st = 4 then { d1 with power := { d1.power with keyAgain := true } }
  else { d1 with power := { d1.power with after := 0 } }

/-- KEY_ON_RISE (R552). -/
def execKeyOnRise (s : State) : Host.Outcome State Fault Refusal := s.run (fun d => d.keyRise)

/-- KEY_ON_FALL (R555, R560): the key-off delay begins; in a start the whole shutdown follows step 7. -/
def Dev.keyFall (d : Dev) : Dev :=
  let d1 := ({ d with power := { d.power with keyAgain := false } }).setO Obj.KEY_ON 0
  if d.phase == .service || (d.phase == .engines && d.dead.contains 0x02) then
    if d.b Obj.SHUTDOWN_STATE then d1 else d1.setO Obj.SHUTDOWN_STATE 1
  else if d.phase == .off || d.phase == .asleep then d1
  else { d1 with power := { d1.power with after := if d.power.after = 1 then 1 else 2 } }

/-- KEY_ON_FALL (R560). -/
def execKeyOnFall (s : State) : Host.Outcome State Fault Refusal := s.run (fun d => d.keyFall)

/-! ### The start (R554) -/

/-- RESET_RELEASE (R526): the supervisor pair starts, unless VSUP holds the reset. -/
def Dev.release (d : Dev) : Dev := if d.phase == .inReset && !d.power.held then { d with phase := .starting } else d

/-- RESET_RELEASE (R526). -/
def execResetRelease (s : State) : Host.Outcome State Fault Refusal := s.run (fun d => d.release)

/-- Region M's records applied in a wipe (R462 to R464, R467). -/
def Dev.wipe (d : Dev) : Dev :=
  let recs := (d.fuse.shadow.filter (fun e => decide (576 ≤ e.1) && decide (e.1 < 640))).map (fun e => e.2)
  let one (d : Dev) (v : Nat) : Dev :=
    let i := v / 2 ^ 52 % 16 + 1
    let w := v / 2 ^ 24 % 2 ^ 24
    if recKind v = 1 then
      d.updMem i (fun m => { m with holes := m.holes.map (fun h => if h = some w then none else h) ++ [some w] })
    else if recKind v = 2 then
      ((d.updWord i w (fun _ => { poison := true, ue := true, perm := true })).markObject i w).addSat (el Obj.PERM_POISONED i)
    else d
  let d1 := recs.foldl one { d with mems := [], mRecords := [], poison := [] }
  ((List.range 11).map (· + 1)).foldl (fun d i => d.showHoles i) d1

/-- The erasure of a start in RETURNED, until its journal record stands (R495). -/
def Dev.returnedErase (d : Dev) (bad : List Nat) : Dev :=
  let b := d.bankNow
  let s := d.n Obj.LC_STEP
  let done := d.fuse.shadow.any (fun e => decide (640 ≤ e.1) && decide (e.1 < 768) && recKind e.2 == 7 && e.2 / 2 ^ 48 % 256 == 7 &&
    e.2 / 2 ^ 40 % 256 == s)
  if d.o Obj.LIFE_CYCLE ≠ 4 ∨ done then d
  else
    let (d1, r, _) := d.programWord (528 + b) (record1 5 ((16 + b) * 2 ^ 16) 0) bad
    if r = 3 then d1
    else
      let d2 := ({ (d1.updFuse (fun f => { f with key := [] })) with
        kept := { recipe := [], blocks := [], counts := [] }, ge := { d1.ge with stored := [] },
        grid := { d1.grid with logImport := 0, logExport := 0 }, coll := { d1.coll with log := [], logCopy := [] } }).setO Obj.KEY_STATE 3
      d2.journal 7 s bad

/-- A retained fault re-enters ACTIVE, its quiet period from now, with the reaction of its class on every domain but traction, whose
bridges R155 has placed (R526). -/
def Dev.reenter (d : Dev) (f : FaultRec) : Dev :=
  let g : FaultRec := { f with cause := false, since := d.wall, quiet := d.wall }
  let d1 := { d with coll := { d.coll with active := d.coll.active ++ [g], held := d.coll.held.filter (fun (x : FaultRec) => !(x.code == f.code && x.acts == f.acts)) } }
  let c := faultClass f.code
  if c = 2 then (if f.acts == .tra || f.acts == .trb then d1 else domainStop f.acts d1)
  else { ((((((d1.gridOff 0 0).dabOff .dca 7).dabOff .dcb 7).linkShut).actStop).bomStop) with openRequest := true }

/-- Retained faults re-enter, the ports' pins speak, and a KIND 6 record is logged (R512, R515, R526, R278). -/
def Dev.reenterAll (d : Dev) : Dev :=
  let d1 := ((d.coll.held.foldl (fun d f => d.reenter f) d).retainNow).logAdd d.power.cause 0 6
  let d2 := if d1.b Obj.SAFE_IN then
      (if d1.faultOn 0x0606 then { d1 with coll := { d1.coll with active := d1.coll.active.map (fun f => if f.code = 0x0606 then { f with cause := true } else f) } }
        else d1.raise 0x0606 true { ini := 0x38, acc := 5 })
    else d1.clearFault 0x0606
  d2.when (d2.b Obj.DRIVE_EN) (fun d => driveFaults.foldl (fun d p => d.clearFault p.2) d)

/-- The causes that the start itself finds (R237, R494, R550, R553). -/
def Dev.startFaults (d : Dev) : Dev :=
  let src : FaultSrc := { ini := 0x01, acc := 5 }
  let d1 := d.when (d.power.cause == 2) (fun d => d.raise 0x0113 false src)
  let d2 := d1.when (d.power.cause == 4) (fun d => d.event 0xEE)
  let d3 := d2.when d.power.gap.isSome (fun d => ({ d with power := { d.power with gap := none } }.event 0x6C).raise 0x308A false { ini := 0x02, acc := 2 })
  let d4 := d3.when d.power.low (fun d => d.raise 0x0311 true src)
  d4.when d.power.tooHigh (fun d => d.raise 0x0712 true src)

/-- The objects of the ports, whose writes take effect at a reset (R386, R444, R451). -/
def Dev.portObjects (d : Dev) : Dev :=
  (d.kept.recipe.filter (fun e => decide (0x1100 ≤ keyIdx e.1) && decide (keyIdx e.1 < 0x1200))).foldl (fun d e => d.setO e.1 e.2) d

/-- The expansion device (R451). -/
def Dev.xpStart (d : Dev) (xp : Option Nat) : Dev :=
  if !(d.b Obj.XP_ENABLE) then d
  else match xp with
    | some n => (d.setO Obj.XP_STATE 1).setO Obj.XP_SIZE (min 65535 n : Nat)
    | none => d.setO Obj.XP_STATE 2

/-- Every engine but the supervisor pair, by its initiator code (R517). -/
def allEngines : List Nat := [0x02, 0x10, 0x11, 0x12, 0x13, 0x14, 0x15, 0x16, 0x17, 0x18, 0x20, 0x21, 0x22, 0x23, 0x28, 0x29, 0x2A]

/-- In RETIRED every output is held off (R496). -/
def Dev.retiredOff (d : Dev) : Dev :=
  d.when (d.o Obj.LIFE_CYCLE == 5) (fun d =>
    [0, 1, 2, 3].foldl (fun d n => (d.updCtr n (fun _ => {})).setO (at' Obj.STATE_5810 n) 0)
      (((d.setO Obj.BRIDGE_STATE 0).setO (tk .B Obj.BRIDGE_STATE) 0).setO Obj.LINK_CTRL 0 |>.setO Obj.PRE_STATE 0))

/-- START_SEQUENCE, steps 2 to 6 of R554: the band without hysteresis, the fuses, the wipe, the erasure in RETURNED, the boot slot, the
code of the engines (R20), the self-checks, the retained faults and the causes found.  Without a slot or with a failed vendor part only
the supervisor pair runs (R487, R499). -/
def Dev.start (d : Dev) (x : StartIn) : Dev :=
  let t := x.die.foldl max (x.die.headD 250)
  let d1 := ((d.setO Obj.BAND (bandFresh t : Nat)).setB Obj.THROTTLING (decide (2 ≤ bandFresh t))).fuseStart x.reads
  let (d2, boots) := ((d1.wipe).returnedErase x.bad).bootSelect x.bad
  let d3 := { d2.portObjects.xpStart x.xp with phase := .engines, dead := if boots && !d2.vendorFailed then [] else allEngines }
  let d4 := d3.reenterAll.startFaults
  let bad := (if x.failing.contains 8 then [8] else []) ++ (x.failing.filter (· != 8)).map (fun n => n.val)
  let d5 := d4.when d4.dead.isEmpty (fun d => bad.foldl (fun d n => d.selfCheck n false) d)
  let d6 := (((List.range 9).filter (fun e => d5.mems.any (fun m => m.1 == e + 2 && m.2.words.any (fun w => w.2.perm)))).foldl
    (fun d e => d.when d.dead.isEmpty (fun d => d.selfCheck e false)) d5)
  let d7 := d6.when (!x.imuOk && d6.dead.isEmpty) (fun d => { d with imuFailed := true }.imuLost)
  (d7.clockCompare x.ppm).retiredOff

/-- START_SEQUENCE (R554). -/
def execStartSequence (x : StartIn) (s : State) : Host.Outcome State Fault Refusal :=
  s.run (fun d => d.release.when (d.release.phase == .starting) (fun d => d.start x))

/-- The channel assignment as committed, and ASSIGN_STATE where the pending one differs (R260, R261). -/
def Dev.assignShown (d : Dev) : Dev :=
  d.setO Obj.ASSIGN_STATE (if allChannels.any (fun n => let (g, p) := d.pendingAssign n; g * 8 + p != d.committedOf n) then 1 else 0)

/-- A restored value under the ceilings of the bank in force (R484). -/
def Dev.underCeil (d : Dev) (k : Nat) (v : Int) : Int :=
  let key := if keyIdx k = keyIdx Obj.V_POS then Obj.V_POS else k
  (d.fuse.ceilings.filter (fun c => c.1 == key)).foldl (fun v c => min v c.2) v

/-- The recipe values of R556 come into force. -/
def Dev.restore (d : Dev) : Dev :=
  let d0 := allChannels.foldl (fun d n => (d.setO (el Obj.GROUP_6000 n) (d.committedOf n / 8 : Nat)).setO (el Obj.POSITION n)
    (d.committedOf n % 8 : Nat)) d
  let d1 := d0.kept.recipe.foldl (fun d e =>
    let d1 := d.setO e.1 (d.underCeil e.1 e.2)
    if keyIdx e.1 = 0x6000 ∨ keyIdx e.1 = 0x6001 then d1 else d1.derived e.1) d0
  let d2 := d1.kept.blocks.foldl (fun (d : Dev) e =>
    let d1 := d.setBlk e.1 e.2
    if keyIdx e.1 = 0x4100 then d1.setBlk (e.1 + 0x80000) e.2 else d1) d1
  let loaded (k : Nat) : Bool := d2.block k != []
  let d3 := [Mach.A, Mach.B].foldl (fun d m => ((d.setBit (tk m Obj.CURVE_STATUS) 0 (loaded (tk m Obj.CURVE_MOT))).setBit
    (tk m Obj.CURVE_STATUS) 1 (loaded (tk m Obj.CURVE_GEN))).evalTables m) d2
  ((d3.setB Obj.BOUNDARY_STATUS (loaded Obj.BOUNDARIES)).setB Obj.RX_STATUS (loaded Obj.RX_GRID)).assignShown

/-- Step 2 of R560: SYS_SHUTDOWN, and every domain stops, but for a port that CHARGE_HOLD keeps charging. -/
def Dev.shutdownStop (d : Dev) : Dev :=
  let charging := d.b Obj.CHARGE_HOLD && d.o Obj.GRD_MODE == 1 && decide (1 ≤ d.n Obj.STATE_5000) && decide (d.n Obj.STATE_5000 ≤ 6)
  let d1 := ((d.setO Obj.SHUTDOWN_STATE 2).event 0x0F).deliver Obj.MASTER 0
  let d2 := (d1.deliver Obj.RUN_4240 0).deliver (tk .B Obj.RUN_4240) 0
  let d3 := [0, 1, 2, 3].foldl (fun (d : Dev) g => d.deliver (at' Obj.RUN_7100 g) 0) d2
  let d4 := d3.when (d.b Obj.PARK_AT_OFF && d.parkSlow) (fun x => { x.parkSet 1 with result := d.result })
  d4.when (!charging) (fun d => d.deliver Obj.GRD_MODE 0)

/-- SERVICE_READY, step 7 of R554: object access begins with the recipe values in force, and a shutdown that waits for it follows (R555,
R562). -/
def Dev.serviceReady (d : Dev) : Dev :=
  if d.phase != .engines || d.dead.contains 0x02 then d
  else
    let d1 := { d.restore with phase := .service }
    let d2 := { d1 with power := { d1.power with after := 0 } }
    if d.power.after = 2 then d2.setO Obj.SHUTDOWN_STATE 1
    else d2.when (d.power.after == 1) (fun d => d.shutdownStop)

/-- SERVICE_READY (R554). -/
def execServiceReady (s : State) : Host.Outcome State Fault Refusal := s.run (fun d => d.serviceReady)

/-- SYS_POWER_READY, step 8 of R554: the first domain with its full set can start, once after each start. -/
def Dev.powerReady (d : Dev) : Dev :=
  if d.phase != .service || d.power.ready || d.power.low || d.serviceLevel != 2 then d
  else ({ d with power := { d.power with ready := true } }.setO Obj.START_TIME (d.wall / 1000 % 4294967296 : Nat)).event 0x0E

/-- SYS_POWER_READY (R554). -/
def execSysPowerReady (s : State) : Host.Outcome State Fault Refusal := s.run (fun d => d.powerReady)

/-! ### Orderly shutdown (R559 to R562) -/

/-- KEYOFF_DELAY_END (R560). -/
def execKeyoffDelayEnd (s : State) : Host.Outcome State Fault Refusal :=
  s.live (fun d => d.when (d.o Obj.SHUTDOWN_STATE == 1) (fun d => d.shutdownStop))

/-- Whether step 3 may begin: both bridges in pulses off or ASC, the grid port off, and the axes at rest (R560). -/
def Dev.atRest (d : Dev) : Bool :=
  [Mach.A, Mach.B].all (fun m => !([1, 2].contains (d.n (tk m Obj.BRIDGE_STATE)))) && d.o Obj.STATE_5000 == 0 && d.grid.step == 0 &&
    [0, 1, 2, 3].all (fun a => (d.axisOf a).doing == 0)

/-- SHUTDOWN_DISCONNECT, step 3 of R560: LINK_CTRL 0. -/
def Dev.disconnect (d : Dev) : Dev :=
  if d.o Obj.SHUTDOWN_STATE ≠ 2 ∨ !(d.atRest) then d else (d.deliver Obj.LINK_CTRL 0).setO Obj.SHUTDOWN_STATE 3

/-- SHUTDOWN_DISCONNECT (R560). -/
def execShutdownDisconnect (s : State) : Host.Outcome State Fault Refusal := s.live (fun d => d.disconnect)

/-- SHUTDOWN_SAVE, step 4 of R560: an open job is saved and stays open; the energy counters, the log and the wear counters are written. -/
def Dev.saveAll (d : Dev) : Dev :=
  if d.o Obj.SHUTDOWN_STATE ≠ 3 then d
  else
    let d1 := (d.setO Obj.SHUTDOWN_STATE 4).when (d.b Obj.JOB_STATE && d.o Obj.JOB_STATE != 3) (fun d => (d.jobSave false).jobSaved true)
    { d1.meterLog.logCopyNow with power := { d1.power with saved := true } }

/-- SHUTDOWN_SAVE (R560). -/
def execShutdownSave (s : State) : Host.Outcome State Fault Refusal := s.live (fun d => d.saveAll)

/-- SLEEP_ENTER, step 5 of R560: the E960 sleeps once no bridge is in ASC; with KEY_ON high again it starts at once with cause 6. -/
def Dev.sleep (d : Dev) : Dev :=
  if d.o Obj.SHUTDOWN_STATE ≠ 4 ∨ d.inAsc .A && d.o Obj.BRIDGE_STATE != 5 ∨ d.inAsc .B && d.o (tk .B Obj.BRIDGE_STATE) != 5 then d
  else
    let d1 := [1, 2, 3, 4, 5, 6, 7, 8].foldl (fun d s => d.when (d.o (el Obj.SESSION_STATE s) != 0) (fun d => d.closeSession s)) d
    let d2 := [0, 1, 2, 3].foldl (fun d n => (d.updCtr n (fun _ => {})).setO (at' Obj.STATE_5810 n) 0) d1
    if d.power.keyAgain then d2.resetTo 6 .starting true else { d2 with phase := .asleep }

/-- SLEEP_ENTER (R560). -/
def execSleepEnter (s : State) : Host.Outcome State Fault Refusal := s.live (fun d => d.sleep)

/-- SHUTDOWN_FORCED (R561): every domain but one holding ASC takes its Domain-stop safe state, and every main opens. -/
def Dev.forceShutdown (d : Dev) : Dev :=
  let st := d.n Obj.SHUTDOWN_STATE
  if st < 2 then d
  else
    let d1 := [Domain.tra, .trb, .grd, .dca, .dcb, .lnk, .act, .bom].foldl (fun d dom =>
      if (dom == .tra && d.inAsc .A) || (dom == .trb && d.inAsc .B) then d else domainStop dom d) d
    ((d1.setO Obj.SHUTDOWN_STATE (max st 3 : Nat)).addSat Obj.SHUTDOWNS_FORCED).raise 0x0114 false { ini := 0x01, acc := 5 }

/-- SHUTDOWN_FORCED (R561). -/
def execShutdownForced (s : State) : Host.Outcome State Fault Refusal := s.live (fun d => d.forceShutdown)

/-! ### Commanded resets (R23, R25, R428, R494, R553) -/

/-- RESET_CMD (R428): accepted while the six power domains read 0; their starts are refused from then on. -/
def Dev.resetCmd (d : Dev) (v : Int) : Dev :=
  if v ≠ 1 then d.res resRange
  else if !(d.powerStopped) then d.res resState
  else ({ d with resetPending := true }).res 0

/-- RESET_CMD (R428). -/
def execResetCmd (s : State) : Host.Outcome State Fault Refusal := s.serve (fun d => d.resetCmd 1)

/-- RESET_CMD_EXECUTE (R428): 10 ms after the response. -/
def execResetCmdExecute (s : State) : Host.Outcome State Fault Refusal :=
  s.live (fun d => d.when d.resetPending (fun d => d.resetNow 3))

/-- LC_STEP_PROGRAM (R494): the step word and its journal record are programmed, and the reset follows; the words in `bad` fail,
which fault 0xB0EB reports. -/
def Dev.lcStepProgram (d : Dev) (bad : List Nat) : Dev :=
  let (d1, ok) := d.lcProgram bad
  if ok then d1.resetNow 4 else d1

/-- LC_STEP_PROGRAM (R494). -/
def execLcStepProgram (bad : List Nat) (s : State) : Host.Outcome State Fault Refusal := s.live (fun d => d.lcStepProgram bad)

/-- HOLDER_SUPERVISOR_RESET (R23, R25, R553): the holder resets the supervisor pair. -/
def execHolderSupervisorReset (s : State) : Host.Outcome State Fault Refusal :=
  s.live (fun d => d.when d.power.due (fun d => d.resetNow 5))

/-! ### Sensor supplies (R584) -/

/-- Whether supply output `n` is enabled. -/
def Dev.supplyOn (d : Dev) (n : Nat) : Bool := bitOf (d.o Obj.SUPPLY_ENABLE) n

/-- SUPPLY_STATE: 1 while an output is limited or off. -/
def Dev.showSupplies (d : Dev) : Dev :=
  (List.range 6).foldl (fun d n => d.setBit Obj.SUPPLY_STATE n (d.limited.contains n || !(d.supplyOn n))) d

/-- SUPPLY_OVERLOAD (R584): after 10 ms in limit the output turns off. -/
def execSupplyOverload (n : Fin 6) (s : State) : Host.Outcome State Fault Refusal :=
  s.live (fun d =>
    if !(d.supplyOn n) || d.limited.contains n.val then d
    else ({ d with limited := insertOnce n.val d.limited }.addSat Obj.SUPPLY_TRIPS).showSupplies)

/-- SUPPLY_RETRY (R584): an output that tripped turns on again. -/
def execSupplyRetry (n : Fin 6) (s : State) : Host.Outcome State Fault Refusal :=
  s.live (fun d => ({ d with limited := d.limited.filter (· != n.val) }).showSupplies)

end Sys2Proof.Machine
end

