-- ==== Sys2Proof/Machine/Period.lean ====
section
/-! DEFINITION. The ledger period of the supervisor pair (R41, R186): couriers that wait for it, the command writes of its range, the
link's part, the interlocks, and nFAULT (R430). -/

namespace Sys2Proof.Machine

/-! ### Couriers and commands of a period (R41, R424) -/

/-- The couriers under TIMING 0 take effect (R424). -/
def Dev.courierPeriod (d : Dev) : Dev :=
  (d.couriers.filter (fun e => e.2.pending && e.2.slot.isNone)).foldl (fun d e => d.courierApply e.1) d

/-- Whether a write of the supervisor pair's range is a command, or a level that its own rule applies. -/
def periodCommand (k : Nat) : Bool :=
  k == Obj.LOCKOUT_CLEAR || k == Obj.CTRL_2320 || k == Obj.NFAULT_LEVEL || (decide (0x2210 ≤ keyIdx k) && decide (keyIdx k ≤ 0x2214))

/-- A command of the period (R430, R516, R523, R529). -/
def Dev.periodWrite (d : Dev) (w : PWrite) : Dev :=
  if w.key = Obj.LOCKOUT_CLEAR then d.lockoutsEnd
  else if w.key = Obj.CTRL_2320 then d.injectApply
  else if w.key = Obj.NFAULT_LEVEL then { d with nfLevel := w.val != 0 }
  else d.postmarkClear (keyIdx w.key - 0x2210)

/-- Every command of the period, in its order, after the values it goes with. -/
def Dev.periodCommands (d : Dev) : Dev :=
  let mine := d.writes.filter (fun w => periodCommand w.key)
  let rest := { d with writes := d.writes.filter (fun w => !(periodCommand w.key)) }
  let vals := rest.applyWrites (fun k => keyIdx k == 0x2320 || keyIdx k == 0x2310)
  mine.foldl (fun d w => d.periodWrite w) vals

/-! ### nFAULT (R430) -/

/-- Whether the supervisor pair evaluates nFAULT: once the recipe values are in force, or no service will bring them. -/
def Dev.nfServes (d : Dev) : Bool := d.phase == .service || d.dead.contains 0x02

/-- NFAULT_LEVEL under policy 1, from the faults in force; under policy 0 the first evaluation after a reset ends the level that the
holder kept (R430). -/
def Dev.nfEvaluate (d : Dev) : Dev :=
  if !d.nfServes then d
  else if d.o Obj.NFAULT_POLICY = 1 then { d with nfSeen := true, nfLevel := d.classInForce (d.n Obj.NFAULT_CLASS) }
  else if d.nfSeen then d
  else { d with nfSeen := true, nfLevel := false }

/-- NFAULT_PULSE_END (R430): the pin follows NFAULT_LEVEL again. -/
def execNfaultPulseEnd (s : State) : Host.Outcome State Fault Refusal := s.run (fun d => { d with nfPulse := false })

/-- A write of NFAULT_LEVEL (R430). -/
def Dev.nfaultLevelWrite (d : Dev) (v : Int) : Dev :=
  if v < 0 ∨ 1 < v then d.res resRange
  else if d.ahead.o Obj.NFAULT_POLICY = 1 ∨ d.nfForced then d.res resState
  else (d.deliver Obj.NFAULT_LEVEL v).res 0

/-- NFAULT_LEVEL_WRITE (R430). -/
def execNfaultLevelWrite (v : Bool) (s : State) : Host.Outcome State Fault Refusal := s.serve (fun d => d.nfaultLevelWrite (b2i v))

/-! ### The period (R186) -/

/-- Dead times of bridges that do not switch follow the band and their settings at once (R268). -/
def Dev.idleGates (d : Dev) : Dev :=
  let set (on : Bool) (g : Nat) (d : Dev) : Dev := d.when (!on) (fun d => d.gateSet g)
  (set (d.dabOn .dcb) 7 (set (d.dabOn .dcb) 6 (set (d.dabOn .dca) 5 (set (d.dabOn .dca) 4 (set (d.grid.step == 5) 3 d)))))

/-- A link without V_REF lets AUTO_START see the next one (R250). -/
def Dev.refGone (d : Dev) : Dev :=
  d.when (d.link.vref == 0) (fun d => (d.updDab .dca (fun a => { a with hadRef := false })).updDab .dcb (fun a => { a with hadRef := false }))

/-- A ledger period (R186). -/
def Dev.ledgerPeriod (d : Dev) (i : LinkIn) : Dev :=
  (((((d.courierPeriod.periodCommands.ledgerLink i).shiftLedger).creepCap).showSupplies.idleGates).refGone).nfEvaluate

/-- LEDGER_PERIOD (R186): every 50 µs. -/
def execLedgerPeriod (i : LinkIn) (s : State) : Host.Outcome State Fault Refusal := s.live (fun d => d.ledgerPeriod i)

end Sys2Proof.Machine
end

