-- ==== Sys2Proof/Machine/Access.lean ====
section
/-! DEFINITION. Object access (R411 to R425): the checks of R417, reads, writes and what each object's own chapter adds to them, staged
blocks (R391) and couriers (R420 to R425).  The units that carry accesses stand in Units.lean. -/

namespace Sys2Proof.Machine

/-! ### Result codes (R419) -/

def resNoObject : Nat := 0x10000001
def resNoSub : Nat := 0x10000002
def resOffset : Nat := 0x10000003
def resWriteOnly : Nat := 0x20000002
def resLifecycle : Nat := 0x20000004
def resLength : Nat := 0x30000001
def resCheck : Nat := 0x30000003
def resRunning : Nat := 0x40000001
def resSequence : Nat := 0x40000003
def resNoResource : Nat := 0x50000002
def resAuth : Nat := 0x60000001
def resNoRole : Nat := 0x60000002
def resBarred : Nat := 0x60000003
def resPoisoned : Nat := 0x70000001

/-! ### Reads (R411, R414, R418) -/

/-- Whether a word of the array is secret: the keys of the vendor part, and every word of K_INT but the header of a franked record
(R480, R490). -/
def Dev.secretWord (d : Dev) (w : Nat) : Bool :=
  (decide (137 ≤ w) && decide (w ≤ 144)) || (decide (192 ≤ w) && decide (w < 256) && d.keyRecord ((w - 192) / 32) != some w)

/-- The shadow of word `w` as it reads: 0 for a secret word and for a spare that serves one (R478, R480). -/
def Dev.shadowRead (d : Dev) (w : Nat) : Nat :=
  if d.secretWord w || d.redirects.any (fun e => e.2 == w && d.secretWord e.1) then 0 else d.fuseRaw w

/-- The value of object `k` as its owner holds it. -/
def Dev.readValue (d : Dev) (k : Nat) : Int :=
  if isCountKey k then d.shown k
  else if 0xB120 ≤ keyIdx k ∧ keyIdx k ≤ 0xB127 then (d.shadowRead (128 * (keyIdx k - 0xB120) + (keySub k - 1)) : Int)
  else d.shown k

/-- The bytes of a log record (R515). -/
def logBytes (r : LogRec) : Bytes :=
  leBytes 8 (r.wall : Int) ++ leBytes 2 (r.code : Int) ++ [r.event % 256, r.kind % 256] ++ leBytes 2 (r.rep : Int) ++ [r.cls % 256, 0]

/-- The bytes of a DOMAIN or STR object. -/
def Dev.readBlock (d : Dev) (k : Nat) : Bytes := if k = Obj.FAULT_LOG then d.coll.log.flatMap logBytes else d.block k

/-- Checks 1 to 4 of a read (R417): 0 where all pass. -/
def readCheck (role k : Nat) : Nat :=
  if (rowsOf (keyIdx k)).isEmpty then resNoObject
  else match findDef k with
    | none => if keySub k = 0 then 0 else resNoSub
    | some r => if r.acc = .wo then resWriteOnly else if role < r.rd then resRole else 0

/-- Whether `n` bytes from `off` of a block object carry the dead-letter mark (R418). -/
def Dev.blockMarked (d : Dev) (k off n : Nat) : Bool :=
  let seg (base : Nat) : Bool := !(d.markedIn 1 (base + off / 4) ((off + n + 3) / 4 - off / 4)).isEmpty
  if k = Obj.BOUNDARIES then seg boundaryBase else if k = Obj.RX_GRID then seg gridBase else d.poison.contains k

/-- A read by a role from an offset, at most `limit` bytes (R390, R414, R417, R418): the result, the data and END. -/
def Dev.readObj (d : Dev) (role k off limit : Nat) : Nat × Bytes × Bool :=
  let c := readCheck role k
  let part (b : Bytes) (marked : Bool) : Nat × Bytes × Bool :=
    if b.isEmpty && off == 0 then (0, [], true)
    else if b.length ≤ off then (resOffset, [], false)
    else if marked then (resPoisoned, [], false)
    else let x := (b.drop off).take limit; (0, x, decide (b.length ≤ off + x.length))
  if c ≠ 0 then (c, [], false)
  else match objType k with
    | some .domain => part (d.readBlock k) (d.blockMarked k off (min limit ((d.readBlock k).length - off)))
    | some .str => part (d.readBlock k) (d.poison.contains k)
    | some ty => part (leBytes (typeWidth ty) (d.readValue k)) (d.poison.contains k)
    | none => (resNoSub, [], false)

/-! ### Checks 1 to 5 of a write (R415, R417) -/

/-- Objects their tables give as writable that this unit holds read-only: the settings of firmware slots and of firmware loops, the banks
the E960 derives (R57, R162), and the dead times of groups 8 and 9 (R268). -/
def fixedKey (k : Nat) : Bool :=
  let i := keyIdx k
  let s := keySub k
  (decide (0x3200 ≤ i) && decide (i < 0x33A0) && decide (s ≤ 6)) ||
    (decide (0xA100 ≤ i) && decide (i < 0xA160) && decide (s ≤ 9)) ||
    (decide (0xA200 ≤ i) && decide (i < 0xA380) && decide (i % 256 < 128) && [0, 1, 16, 17, 48, 49, 50, 51, 52].contains (i % 128)) ||
    ((i == 0x6108 || i == 0x6109) && decide (s ≤ 4))

/-- The object a courier alias names at its target: the row of the dictionary for its first member (R421, R422). -/
def Dev.aliasRow (d : Dev) (a : Nat) : Option ObjDef :=
  let ti := d.n (at' Obj.T_IDX a)
  (rowsOf ti).find? (fun r => decide (r.base % 256 ≤ max 1 (d.n (at' Obj.T_SUB a))) &&
    decide (max 1 (d.n (at' Obj.T_SUB a)) < r.base % 256 + r.m))

/-- The write role of an object; that of a courier is its target's (R422). -/
def Dev.writeRole (d : Dev) (k : Nat) (r : ObjDef) : Nat :=
  if 0xF100 ≤ keyIdx k ∧ keyIdx k < 0xF140 then
    (if d.n (at' Obj.T_IDX (keyIdx k - 0xF100)) = 0x9110 then 2 else match d.aliasRow (keyIdx k - 0xF100) with
      | some t => if t.wr ≤ 4 then t.wr else r.wr
      | none => r.wr)
  else r.wr

/-- The type of a write to an object; that of a courier is its target's, a node parameter's is U16 (R422). -/
def Dev.writeType (d : Dev) (k : Nat) (r : ObjDef) : ObjTy :=
  if 0xF100 ≤ keyIdx k ∧ keyIdx k < 0xF140 then
    (if d.n (at' Obj.T_IDX (keyIdx k - 0xF100)) = 0x9110 then .u16 else match d.aliasRow (keyIdx k - 0xF100) with
      | some t => t.ty
      | none => r.ty)
  else r.ty

/-- Checks 1 to 5 of a write (R417), 5 where it does not depend on the value: assignment objects outside INTEGRATOR (R260); the only
writes of SESSION 0 are those of the update objects on the restrictive defaults (R500). -/
def Dev.writeCheck (d : Dev) (a : Asker) (k : Nat) : Nat :=
  if (rowsOf (keyIdx k)).isEmpty then resNoObject
  else match findDef k with
    | none => if keySub k = 0 then resReadOnly else resNoSub
    | some r =>
      if r.acc = .ro ∨ fixedKey k then resReadOnly
      else if 0x3200 ≤ keyIdx k ∧ keyIdx k < 0x33A0 then resRole
      else if a.role < d.writeRole k r ∧ !(keyIdx k = 0xB200 ∧ a.session = 0 ∧ d.b Obj.FUSE_DEFAULTS) then resRole
      else if (keyIdx k = 0x6000 ∨ keyIdx k = 0x6001 ∨ keyIdx k = 0x6002) ∧ d.o Obj.LIFE_CYCLE ≠ 2 then resLifecycle
      else 0

/-! ### Checks 7 to 10 and acceptance (R416, R417, R601, R41) -/

/-- Whether a domain, or for the chains the chain's own state, bars an rws write (R416). -/
def Dev.rwsBlocked (d : Dev) (k : Nat) : Bool :=
  let i := keyIdx k
  (match findDef k with
    | some r => r.acc == .rws
    | none => false) &&
    if 0x9000 ≤ i ∧ i < 0xA000 then
      !([0, 4].contains (d.n (at' Obj.STATE_9000 (if i < 0x9100 then i - 0x9000 else (keySub k - 1) / 32))))
    else (d.keyDomains k).any (fun x => !(d.stopped x))

/-- A value whose reserved bits, which are ignored, read 0 (R18, R504). -/
def unreserved (k : Nat) (v : Int) : Int :=
  let i := keyIdx k
  if i = 0x2100 ∨ i = 0x2101 then v % 64
  else if i = 0x2102 ∨ i = 0x2103 then ((Nat.land v.toNat 0x7F7F3F : Nat) : Int)
  else v

/-- Fixed bounds the tables do not state as a range: a track code of R47, and multiples of 32 cells (R343). -/
def codeOk (k : Nat) (v : Int) : Bool :=
  let i := keyIdx k
  if (decide (0x3440 ≤ i) && decide (i ≤ 0x3443) && keySub k == 3) || (decide (0xF000 ≤ i) && decide (i < 0xF020) && keySub k == 4) then
    (trackOf v.toNat).isSome
  else if k = Obj.MAP_W ∨ k = Obj.MAP_H then decide (v % 32 = 0)
  else true

/-- Checks 7 to 9 of a number (R416, R417), as far as every object shares them. -/
def Dev.plainCheck (d : Dev) (k : Nat) (v : Int) : Nat :=
  if !(inRange k v) || !(d.underCeiling k v) || !(codeOk k v) then resRange
  else if d.rwsBlocked k then resRunning
  else if !((d.ahead.setO k v).relationsHold k) then resCombination else 0

/-- Whether the writes of index `i` take effect on acceptance (R41): the service pair's but the port objects, memory and fuses, trace and
couriers; the mailbox, which no single chain owns, and inputs that no valid track serves do as well. -/
def Dev.atOnce (d : Dev) (i : Nat) : Bool :=
  (decide (0x1000 ≤ i) && decide (i < 0x2000) && i / 256 != 0x11) || decide (0xB000 ≤ i) || i == 0x9110 ||
    (decide (0x3400 ≤ i) && decide (i < 0x3480) && match d.feedbackTrack i with
      | some t => !(d.b t.validKey)
      | none => true)

/-- An accepted write: applied where it takes effect on acceptance, else delivered to its owner (R41). -/
def Dev.takeWrite (d : Dev) (k : Nat) (v : Int) (b : Option Bytes := none) : Dev :=
  if d.atOnce (keyIdx k) then d.applyWrite { key := k, val := v, block := b } else d.deliver k v b

/-- A number written under the shared checks and a further one of its object. -/
def Dev.plainWrite (d : Dev) (k : Nat) (v0 : Int) (extra : Nat := 0) : Dev :=
  let v := unreserved k v0
  let c := d.plainCheck k v
  if c ≠ 0 then d.res c else if extra ≠ 0 then d.res extra else (d.takeWrite k v).res 0

/-- `f` for the value 1, RANGE for any other. -/
def Dev.onOne (d : Dev) (v : Int) (f : Dev → Dev) : Dev := if v = 1 then f d else d.res resRange

/-! ### Notification maps (R406, R407) -/

/-- The read role of an entry, 9 where it is none that a map may carry. -/
def entryRole (e : Nat) : Nat :=
  match findDef e with
  | some r => if r.ty == .domain || r.ty == .str || r.acc == .wo then 9 else r.rd
  | none => if isCountKey e then 0 else 9

/-- The width of an entry in bytes. -/
def entryWidth (e : Nat) : Nat :=
  match objType e with
  | some ty => typeWidth ty
  | none => 0

/-- Whether the entries of map `m` are ones R407 accepts. -/
def Dev.entriesOk (d : Dev) (m : Nat) : Bool :=
  let s := d.n (at' Obj.SESSION m)
  let es := d.noteEntries m
  let role := if s = 0 then 0 else d.roleOf s
  es.all (fun e => decide (entryRole e ≤ role)) &&
    decide ((es.map entryWidth).foldl (· + ·) 0 ≤ if s = 0 then 64 else 52) && (s == 0 || d.sessState s == 2)

/-- What R406 and R407 add to the checks of a write to map `m`. -/
def Dev.mapCheck (d : Dev) (s m k : Nat) (v : Int) : Nat :=
  let owner := d.n (at' Obj.SESSION m)
  let enable := at' Obj.ENABLE_1800 m
  if owner ≠ 0 ∧ owner ≠ s then resState
  else if k ≠ enable ∧ d.b enable then resState
  else if k = at' Obj.SESSION m ∧ v ≠ 0 ∧ v ≠ (s : Int) then resCombination
  else if ((k = enable ∧ v = 1) ∨ 0x1A00 ≤ keyIdx k) ∧ !((d.setO k v).entriesOk m) then resCombination
  else 0

/-! ### Writes by range -/

/-- A write to the service pair's objects (R386, R396, R406). -/
def Dev.writeService (d : Dev) (a : Asker) (k : Nat) (v : Int) : Dev :=
  let i := keyIdx k
  if k = Obj.CLOSE_SESSION then d.closeBy v
  else if (0x1800 ≤ i ∧ i < 0x1840) ∨ (0x1A00 ≤ i ∧ i < 0x1A40) then d.plainWrite k v (d.mapCheck a.session (mapOf k) k v)
  else d.plainWrite k v

/-- A write to the supervisor pair's objects (R428, R430, R504, R516, R523, R529). -/
def Dev.writeSupervisor (d : Dev) (k : Nat) (v : Int) : Dev :=
  let i := keyIdx k
  if k = Obj.RESET_CMD then d.resetCmd v
  else if k = Obj.LOCKOUT_CLEAR then d.onOne v (fun d => d.lockoutClear)
  else if k = Obj.CTRL_2320 then d.onOne v (fun d => d.faultInject)
  else if k = Obj.NFAULT_LEVEL then d.nfaultLevelWrite v
  else if 0x2210 ≤ i ∧ i ≤ 0x2214 then d.onOne v (fun d => (d.deliver k v).res 0)
  else if i = 0x2102 ∨ i = 0x2103 then
    if 95 < v.toNat / 256 % 128 ∨ v.toNat / 65536 % 4 = 3 then d.res resRange else d.plainWrite k v
  else d.plainWrite k v

/-- Half a clock period of sensor port `p` in steps of 2.5 ns is CLK_DIV; whether every SAMPLE_TBk stays below it (R443). -/
def Dev.samplesOk (d : Dev) (p : Nat) : Bool :=
  [0, 1, 2, 3].all (fun b => decide (d.o (at' Obj.SAMPLE_TB0 p + b) < d.o (at' Obj.CLK_DIV p)))

/-- Whether the four queues of port `p` are empty (R443). -/
def Dev.queuesEmpty (d : Dev) (p : Nat) : Bool :=
  [0, 1, 2, 3].all (fun q => (d.spQueue p q).isEmpty) && ((d.spOf p).wait.all (fun e => e.2.isEmpty))

/-- A write to tracks, slots, feedback and sensor ports (R57, R69, R82, R93, R443). -/
def Dev.writeTracks (d : Dev) (k : Nat) (v : Int) : Dev :=
  let i := keyIdx k
  let s := keySub k
  if 0x3200 ≤ i ∧ i < 0x3400 then
    (if s = 7 then (if v = 1 then d.armSlot (i - 0x3200) else if v = 2 then d.disarmSlot (i - 0x3200) else d.res resRange)
    else d.writeSlotField (i - 0x3200) s v)
  else if (i = 0x3430 ∨ i = 0x3431) ∧ s = 6 then
    let m : Mach := if i = 0x3430 then .A else .B
    (if v = 1 then d.learnStart m (d.n (tk m Obj.EMF_EST)) else if v = 2 then (d.when (d.sourceOf m).learning (fun d => d.learnEnd m 0)).res 0
    else d.res resRange)
  else if (i = 0x3410 ∨ i = 0x3411) ∧ s = 7 then
    d.onOne v (fun d => (d.updInc (i - 0x3410) (fun s => { s with resetArmed := true })).res 0)
  else if 0x3440 ≤ i ∧ i ≤ 0x3443 ∧ s = 5 then
    let p := i - 0x3440
    let st := at' Obj.STATUS_3440 p
    (if v = 1 then (d.armLatch p).res 0
    else if v = 2 then ((d.setBit st 1 false).setBit st 2 false).res 0
    else if v = 3 then ({ d with probes := Tab.upd {} d.probes p (fun q => { q with armed := false }) }.setBit st 0 false).res 0
    else d.res resRange)
  else if 0x3480 ≤ i ∧ i ≤ 0x3482 then
    let p := i - 0x3480
    if s = 0x0B then d.spStartWrite p v
    else if (s = 1 ∨ (7 ≤ s ∧ s ≤ 10)) ∧ !((d.ahead.setO k v).samplesOk p) then d.res resRange
    else d.plainWrite k v (if s = 2 ∧ !(d.queuesEmpty p) then resState else 0)
  else if (0x3000 ≤ i ∧ i < 0x3100) ∨ (0x3400 ≤ i ∧ i < 0x3480) then d.plainWrite k v
  else d.plainWrite k v

/-- A write of one of the two machines' RUN objects, or to the grid port, the converters and the link (R149, R201, R210, R250). -/
def Dev.writePower (d : Dev) (k : Nat) (v : Int) : Dev :=
  let run (m : Mach) (d : Dev) : Dev :=
    if v = 1 then d.allowed (enableBits (mdom m)) (fun d => d.runWrite m)
    else if v = 0 then (d.deliver (tk m Obj.RUN_4240) 0).res 0 else d.res resRange
  let dab (c : Conv) (d : Dev) : Dev :=
    if v = 1 then d.allowed (enableBits (cdom c)) (fun d => d.dabRunWrite c 1) else d.dabRunWrite c v
  if k = Obj.RUN_4240 then run .A d
  else if k = tk .B Obj.RUN_4240 then run .B d
  else if k = Obj.GRD_MODE then d.grdModePermitted v
  else if k = Obj.RUN_5400 then dab .dca d
  else if k = ck .dcb Obj.RUN_5400 then dab .dcb d
  else if k = Obj.LINK_CTRL then d.linkCtrlPermitted v
  else if k = Obj.PRE_MODE ∧ v = 1 then d.allowed [8] (fun d => d.plainWrite k v)
  else d.plainWrite k v

/-- A write to gate channels and actuators (R260, R281, R293, R306, R314, R321 to R329). -/
def Dev.writeActs (d : Dev) (k : Nat) (v : Int) : Dev :=
  let i := keyIdx k
  let s := keySub k
  if k = Obj.COMMIT then d.assignCommit v
  else if k = Obj.OFFTEST_REQUEST then d.offTestRequest v
  else if k = Obj.DIAG_REQUEST then d.lvDiagRequest v
  else if 0x7100 ≤ i ∧ i ≤ 0x7103 ∧ s = 1 then
    (if v = 1 then d.allowed [9] (fun d => d.bldcRunWrite (i - 0x7100) 1) else d.bldcRunWrite (i - 0x7100) v)
  else if 0x7200 ≤ i ∧ i ≤ 0x7203 ∧ s = 0x16 then
    (if v = 1 ∨ v = 2 ∨ v = 4 then d.allowed [9] (fun d => d.moveCtrl (i - 0x7200) v) else d.moveCtrl (i - 0x7200) v)
  else if (i = 0x7401 ∨ i = 0x7402) ∧ s = 1 then
    (if v = 1 then d.allowed [9] (fun d => d.groupCtrl (i - 0x7401) v) else d.groupCtrl (i - 0x7401) v)
  else if k = Obj.GEAR_SET then d.gearSet v
  else if k = Obj.PARK_SET then d.parkSet v
  else if k = Obj.DIFF_SET then d.diffSet v
  else if k = Obj.REHOME then d.rehome v
  else d.plainWrite k v

/-- A write to the ground engine and the chains (R331, R343, R352, R356, R367, R380). -/
def Dev.writeBoom (d : Dev) (k : Nat) (v : Int) : Dev :=
  let i := keyIdx k
  if k = Obj.JOB_CTRL then d.jobCtrl v
  else if k = Obj.MASTER then (if v = 1 then d.allowed [] (fun d => d.masterWrite v) else d.masterWrite v)
  else if k = Obj.FIELD_LAT ∨ k = Obj.FIELD_LON then d.plainWrite k v (if d.b Obj.JOB_STATE then resState else 0)
  else if k = Obj.MAP_W ∨ k = Obj.MAP_H then
    let h := d.ahead.setO k v
    d.plainWrite k v (if d.b Obj.JOB_STATE then resState else if 33554432 < h.o Obj.MAP_W * h.o Obj.MAP_H then resCombination else 0)
  else if k = Obj.CELL_SIZE ∨ k = Obj.MAP_E0 ∨ k = Obj.MAP_N0 then d.plainWrite k v (if d.b Obj.JOB_STATE then resState else 0)
  else if 0x9000 ≤ i ∧ i ≤ 0x9003 ∧ keySub k = 1 then
    (if v = 1 then d.allowed [10] (fun d => d.chainCtrl (i - 0x9000) v) else d.chainCtrl (i - 0x9000) v)
  else if k = Obj.MBX_CTRL then d.mbxCtrl v
  else d.plainWrite k v

/-- A write to a loop slot or its banks (R161 to R173). -/
def Dev.writeLoop (d : Dev) (k : Nat) (v : Int) : Dev :=
  let i := keyIdx k
  let s := keySub k
  let L := i % 128
  if i < 0xA100 then d.plainWrite k v
  else if i < 0xA200 ∧ s = 1 then (if v = 0 ∨ v = 1 then d.writeEnable L (v == 1) else d.res resRange)
  else if i < 0xA200 ∧ s = 0x11 then d.onOne v (fun d => (d.loopDeliver L k v).res 0)
  else if i < 0xA200 ∧ s = 0x13 then (d.loopDeliver L k v).res 0
  else
    let c := d.plainCheck k v
    let c2 := if 0xA200 ≤ i then 0
      else if s = 9 ∧ d.b (lk Obj.ENABLE_A100 L) then resState else (d.ahead.setO k v).loopCheck L s
    if c ≠ 0 then d.res c else if c2 ≠ 0 then d.res c2
    else (d.loopDeliver L k v).res 0

/-! ### Couriers (R420 to R425) -/

/-- Whether an index lies in a range no alias may name (R422). -/
def aliasBarred (i : Nat) : Bool :=
  (decide (0x1000 ≤ i) && decide (i < 0x3000)) || (decide (0xB000 ≤ i) && decide (i < 0xD000)) || decide (0xF000 ≤ i)

/-- Whether a row is one an alias may write (R422). -/
def aliasType (r : ObjDef) : Bool := r.acc == .rw && r.ty != .domain && r.ty != .str

/-- What R422 adds to the checks of an alias definition: an index with no object that an alias may write, or a subindex of one that it
may not. -/
def Dev.aliasCheck (d : Dev) (a : Nat) (k : Nat) (v : Int) : Nat :=
  let ti := d.n (at' Obj.T_IDX a)
  if k = at' Obj.T_IDX a then
    (if v = 0 ∨ v = 0x9110 then 0
    else if aliasBarred v.toNat || !((rowsOf v.toNat).any aliasType) then resCombination else 0)
  else if v = 0 ∨ ti = 0 ∨ ti = 0x9110 then 0
  else match findDef (ti * 256 + v.toNat) with
    | some r => if aliasType r then 0 else resCombination
    | none => 0

/-- Whether the target of an alias has the shape of a member of this KIND (R421, R422). -/
def courierShape (kind ti ts : Nat) : Bool :=
  let arr (m : Nat) : Bool := (rowsOf ti).any (fun r => r.base == ti * 256 + 1 && r.n == 1 && r.m == m && aliasType r) && !(aliasBarred ti)
  let unit (bases : List Nat) : Bool := bases.contains ti && match findDef (ti * 256 + ts) with
    | some r => aliasType r
    | none => false
  match kind with
  | 1 => arr 40 && ti / 4096 == 6
  | 2 => arr 128 && ti / 4096 == 8
  | 3 => arr 28 && ti / 4096 == 7
  | 4 => ti == 0x9110 && decide (8 ≤ ts) && decide (ts ≤ 63)
  | 5 => unit [0xA100, 0xA200, 0xA300]
  | 6 => unit [0x7200]
  | 7 => unit [0x7100]
  | 8 => unit [0x9000]
  | _ => false

/-- The members of group `g`: their bit numbers, and from 1 for lanes (R420, R421). -/
def Dev.courierMembers (d : Dev) (g : Nat) : List Nat :=
  let k := at' Obj.MEMBERS g
  let bits := (List.range 128).filter (fun i => d.maskBit k i)
  if d.n (at' Obj.KIND g) ≤ 3 then bits.map (· + 1) else bits

/-- The object of member `l` (R421). -/
def courierKey (kind ti ts l : Nat) : Nat := if kind ≤ 3 then ti * 256 + l else (ti + l) * 256 + ts

/-- A write that no courier carries, by range. -/
def Dev.writeLane (d : Dev) (a : Asker) (k : Nat) (v : Int) : Dev :=
  let i := keyIdx k
  if i < 0x2000 then d.writeService a k v
  else if i < 0x3000 then d.writeSupervisor k v
  else if i < 0x4000 then d.writeTracks k v
  else if i < 0x6000 then d.writePower k v
  else if i < 0x8000 then d.writeActs k v
  else if i < 0xA000 then d.writeBoom k v
  else d.writeLoop k v

/-- The single-lane check of a member (R423): its result. -/
def Dev.laneCheck (d : Dev) (a : Asker) (k : Nat) (v : Int) : Nat :=
  let c := d.writeCheck a k
  if c ≠ 0 then c else (d.writeLane a k v).result

/-- The result of the lowest member that would refuse, 0 where all accept (R423). -/
def Dev.membersCheck (d : Dev) (a : Asker) (v : Int) : List Nat → Nat
  | [] => 0
  | k :: t => let c := d.laneCheck a k v; if c ≠ 0 then c else d.membersCheck a v t

/-- The slot of a courier armed with its coordinate (R424): what was written to the slot before is over. -/
def Dev.courierSlot (d : Dev) (g n : Nat) : Dev :=
  let f (k : Nat) : Nat := slotKey k n
  let d1 := { d with writes := d.writes.filter (fun w => keyIdx w.key != 0x3200 + n) }
  (((((d1.setO (f Obj.TRACK_3200) (d.o (at' Obj.TRACK_F000 g))).setO (f Obj.TARGET_3200) (d.o (at' Obj.COORD g))).setO
    (f Obj.QUALIFIER_3200) (d.o (at' Obj.QUALIFIER_F000 g))).setO (f Obj.PERIOD_3200) 0).setO (f Obj.ACTION) 0).slotArmed n false false

/-- A write through alias `al` to group `g` (R422 to R424). -/
def Dev.courierWrite (d : Dev) (a : Asker) (al g : Nat) (v : Int) : Dev :=
  let kind := d.n (at' Obj.KIND g)
  let ti := d.n (at' Obj.T_IDX al)
  let ts := d.n (at' Obj.T_SUB al)
  let keys := if kind = 4 then [] else (d.courierMembers g).map (courierKey kind ti ts)
  let node := if kind = 4 then some (byteAt (d.block (at' Obj.MEMBERS g)) 0, ts) else none
  let c := d.membersCheck a v keys
  let n := d.n (at' Obj.SLOT g)
  let start (slot : Option Nat) (d : Dev) : Dev :=
    ({ d with couriers := Tab.set {} d.couriers g { pending := true, slot := slot, session := a.session, head := a.head, keys := keys, value := v, node := node } }).setO
      (at' Obj.STATE_F000 g) 1
  if !(courierShape kind ti ts) then d.res resCombination
  else if c ≠ 0 then d.res c
  else if d.o (at' Obj.STATE_F000 g) = 1 then d.res resBusy
  else if d.o (at' Obj.TIMING g) = 0 then (start none d).res 0
  else
    let d1 := d.courierSlot g n
    let owed := match trackOf (d1.n (slotKey Obj.TRACK_3200 n)) with
      | some t => d1.b t.validKey
      | none => false
    if d1.slotRefused n then d.res resCombination
    else if d.courierPending n then d.res resBusy
    else
      let d2 := start (some n) d1
      let d3 := { d2 with couriers := Tab.upd {} d2.couriers g (fun (c : Courier) => { c with owed := owed }) }
      ((d3.deliver (slotKey Obj.CONTROL_3200 n) 1).slotNow n).res 0

/-- CTRL 1 of group `g` (R424): a pending courier is cancelled, and its slot disarmed. -/
def Dev.courierCancel (d : Dev) (g : Nat) (v : Int) : Dev :=
  let c : Courier := Tab.get {} d.couriers g
  if v ≠ 1 then d.res resRange
  else if !c.pending then d.res resState
  else
    let d1 := { d with couriers := Tab.set {} d.couriers g (if c.owed then { c with pending := false } else {}) }.setO (at' Obj.STATE_F000 g) 5
    (match c.slot with
      | some n => (d1.deliver (slotKey Obj.CONTROL_3200 n) 2).slotNow n
      | none => d1).res 0

/-! ### Stores, trace and courier definitions -/

/-- What R570 and R571 add to the checks of the trace set-up. -/
def Dev.traceCheck (d : Dev) (k : Nat) (v : Int) : Nat :=
  let src (ref : Nat) : Bool := ref == 0 || entryRole ref == 0
  if d.o Obj.TRACE_STATE = 1 ∨ d.o Obj.TRACE_STATE = 2 then resState
  else if 0xC010 ≤ keyIdx k ∧ keySub k = 1 ∧ !(src v.toNat) then resCombination else 0

/-- A write to memory integrity, fuses, images, trace and couriers (R420, R476, R493, R500, R570). -/
def Dev.writeStore (d : Dev) (a : Asker) (k : Nat) (v : Int) : Dev :=
  let i := keyIdx k
  let s := keySub k
  if k = Obj.OTP_CMD then d.otpCmd a.session v
  else if k = Obj.OTP_DATA then (d.updFuse (fun f => { f with data := Tab.put f.data a.session v.toNat })).res 0
  else if k = Obj.LC_CTRL then d.lcCtrl a.session v
  else if k = Obj.IMG_CTRL then d.imgCtrl a.session v
  else if k = Obj.IMG_BLOCK_NO then d.plainWrite k v (d.updateRefused a.session)
  else if k = Obj.TRACE_CTRL then d.traceCtrl v
  else if 0xC000 ≤ i ∧ i < 0xD000 then d.plainWrite k v (d.traceCheck k v)
  else if 0xF000 ≤ i ∧ i < 0xF020 then
    (if s = 9 then d.courierCancel (i - 0xF000) v
    else d.plainWrite k v (if s ≤ 6 ∧ d.o (at' Obj.STATE_F000 (i - 0xF000)) = 1 then resBusy else 0))
  else if 0xF100 ≤ i ∧ i < 0xF140 then d.courierWrite a (i - 0xF100) (s - 1) v
  else if 0xF200 ≤ i then d.plainWrite k v (d.aliasCheck (i - 0xF200) k v)
  else d.plainWrite k v

/-- A number written to object `k`: checks 7 to 10 of R417 and what its chapter says. -/
def Dev.writeNumber (d : Dev) (a : Asker) (k : Nat) (v : Int) : Dev :=
  if keyIdx k < 0xB000 then d.writeLane a k v else d.writeStore a k v

/-- The number that bytes of a type hold (R413). -/
def numberOf (ty : ObjTy) (b : Bytes) : Int :=
  match ty with
  | .i16 | .i32 | .i64 => signedMod (8 * typeWidth ty) (ofLe b)
  | _ => (ofLe b : Int)

/-- A WRITE of object `k` (R413, R414, R417). -/
def Dev.writeObj (d : Dev) (a : Asker) (k : Nat) (b : Bytes) : Dev :=
  let c := d.writeCheck a k
  if c ≠ 0 then d.res c
  else match findDef k with
    | none => d.res resNoSub
    | some r =>
      let ty := d.writeType k r
      if ty = .domain ∨ ty = .str ∨ b.length ≠ typeWidth ty then d.res resLength
      else if ty = .bool ∧ 1 < ofLe b then d.res resRange
      else d.writeNumber a k (numberOf ty b)

/-! ### Blocks (R391, R417) -/

/-- A block under a check of its layout, its domain and its own state; then it is taken. -/
def Dev.takeBlock (d : Dev) (k : Nat) (b : Bytes) (layout extra : Nat) : Dev :=
  if layout ≠ 0 then d.res layout else if d.rwsBlocked k then d.res resRunning else if extra ≠ 0 then d.res extra
  else (d.takeWrite k 0 (some b)).res 0

/-- A whole block delivered to its owner (R391). -/
def Dev.writeBlock (d : Dev) (a : Asker) (k : Nat) (b : Bytes) (u : UnitIn) : Dev :=
  let i := keyIdx k
  let s := keySub k
  let len (n : Nat) : Nat := if b.length = n then 0 else resLength
  if 0x3484 ≤ i ∧ i ≤ 0x3486 then d.spQueueWrite (i - 0x3484) (s - 1) b
  else if i = 0x3420 ∨ i = 0x3421 then d.takeBlock k b (len 12) 0
  else if i = 0x4100 then d.writePattern s b
  else if i = 0x4220 then d.writeCurve .A (s == 2) b
  else if i = 0x4A20 then d.writeCurve .B (s == 2) b
  else if 0x7100 ≤ i ∧ i ≤ 0x7103 then
    d.takeBlock k b (if advanceOk (d.ahead.n (at' Obj.MAX_SPEED_7100 (i - 0x7100))) b then 0 else resCheck) 0
  else if i = 0x7210 then d.takeBlock k b (if stepTableOk b then 0 else resCheck) 0
  else if k = Obj.BOUNDARIES then d.boundariesWrite b
  else if k = Obj.RX_GRID then d.gridWrite b
  else if k = Obj.K_INT then d.kintWrite b u.bad
  else if k = Obj.IMG_BLOCK then d.imgBlock a.session b u.ok
  else if k = Obj.EVENT_MASK then d.takeBlock k b (len 32) (d.traceCheck k 0)
  else d.takeBlock k b (len 16) (if d.o (at' Obj.STATE_F000 (i - 0xF000)) = 1 then resBusy else 0)

/-- How many other sessions than `s` stage a block. -/
def Dev.stagingOthers (d : Dev) (s : Nat) : Nat :=
  (d.sessions.filter (fun e => decide (e.1 ≠ s) && e.2.staging.isSome)).length

/-- A WRITE_SEG segment (R391). -/
def Dev.writeSeg (d : Dev) (a : Asker) (k off : Nat) (last : Bool) (b : Bytes) (u : UnitIn) : Dev :=
  let s := a.session
  let c := d.writeCheck a k
  let end_ (d : Dev) : Dev := d.updSess s (fun x => { x with staging := none })
  let isBlock := match findDef k with
    | some r => r.ty == .domain
    | none => false
  let prior := match (d.sess s).staging with
    | some (k', bs, _) => if k' = k then some bs else none
    | none => none
  if c ≠ 0 then d.res c
  else if !isBlock then d.res resLength
  else if off = 0 ∧ 2 ≤ d.stagingOthers s then (end_ d).res resBusy
  else match (if off = 0 then some [] else prior) with
    | none => (end_ d).res resSequence
    | some bs =>
      if bs.length ≠ off then (end_ d).res resSequence
      else if 1048576 < bs.length + b.length then (end_ d).res resLength
      else if last then (end_ d).writeBlock a k (bs ++ b) u
      else (d.updSess s (fun x => { x with staging := some (k, bs ++ b, d.wall) })).res 0

/-! ### Courier commands (R423, R424) -/

/-- The asker of a command that carries no session: it is taken as authorised. -/
def authorised : Asker := { session := 0, role := 4, head := [] }

/-- COURIER_WRITE (R423): the value as bytes, through alias `al`, to group `g`. -/
def execCourierWrite (al : Fin 64) (g : Fin 32) (data : Bytes) (s : State) : Host.Outcome State Fault Refusal :=
  s.serve (fun d => d.writeObj authorised (el (at' Obj.COURIER_WRITE al) (g.val + 1)) data)

/-- COURIER_CANCEL (R424). -/
def execCourierCancel (g : Fin 32) (s : State) : Host.Outcome State Fault Refusal := s.serve (fun d => d.courierCancel g 1)

end Sys2Proof.Machine
end

