-- ==== Sys2Proof/Machine/Units.lean ====
section
/-! DEFINITION. Object-access units (R387 to R396): what a request as a unit does, on CANB, ETH and HSP alike, and the sessions it
opens, uses and closes. -/

namespace Sys2Proof.Machine

/-! ### Responses (R389, R390, R395) -/

/-- A response: OP plus 0x80, the result code, the data, END, and the MAC under the session's key where there is one. -/
def Dev.respond (d : Dev) (r : Req) (session : Nat) (key : Option Bytes) (data : Bytes) (end_ : Bool) : Dev :=
  let body := leBytes 4 (d.result : Int) ++ data
  let h := unitHeader (r.op + 128) session body.length (if end_ then 1 else 0) r.seq r.index r.sub
  let mac := match key with
    | some k => unitMac k 1 h body
    | none => []
  { d with data := data, reply := h ++ body ++ mac }

/-- A unit without response (R387): counted. -/
def Dev.drop (d : Dev) : Dev := { d.addSat Obj.UNIT_DISCARDS with reply := [] }

/-- A unit discarded under R394 or R395: it counts, and towards the discards of the open session it names; the sixteenth closes that
session. -/
def Dev.discard (d : Dev) (r : Req) : Dev :=
  let s := r.session
  let d1 := d.drop.event 0xD9
  if 1 ≤ s ∧ s ≤ 8 ∧ d1.sessState s = 2 then
    let d2 := d1.updSess s (fun x => { x with discards := x.discards + 1 })
    d2.when (decide (16 ≤ (d2.sess s).discards)) (fun d =>
      (d.closeSession s).raiseOn 0xE0D7 .sys false { addr := r.source, ini := 0x50 + s, acc := 6 })
  else d1

/-! ### Opening (R394, R395, R397) -/

/-- Whether a session of this role may open in the present life-cycle state (R397). -/
def Dev.roleAvailable (d : Dev) (role : Nat) : Bool :=
  !(d.b Obj.FUSE_DEFAULTS) && match d.n Obj.LIFE_CYCLE with
    | 1 => role == 4
    | 2 => decide (1 ≤ role) && decide (role ≤ 4)
    | 3 => decide (1 ≤ role) && decide (role ≤ 3)
    | 4 => role == 4
    | _ => false

/-- The lowest free session. -/
def Dev.freeSlot (d : Dev) : Option Nat := [1, 2, 3, 4, 5, 6, 7, 8].find? (fun s => d.sessState s == 0)

/-- A CHALLENGE (R394). -/
def Dev.challenge (d : Dev) (r : Req) (u : UnitIn) : Dev :=
  let role := byteAt r.data 0
  let refuse (code : Nat) : Dev := (d.res code).respond r 0 none [] false
  if r.session ≠ 0 then d.discard r
  else if r.data.length ≠ 9 then refuse resLength
  else if role = 0 ∨ 4 < role then refuse resRange
  else if d.barred.contains (pathNum r.path, r.source) then refuse resBarred
  else if !(d.roleAvailable role) then refuse resNoRole
  else match d.freeSlot with
    | none => refuse resNoResource
    | some s =>
      let d1 := { d with sessions := Tab.put d.sessions s { nc := r.data.drop 1, nd := u.nd, at_ := d.wall } }
      let d2 := (((d1.setO (el Obj.SESSION_STATE s) 1).setO (el Obj.SESSION_ROLE s) (role : Int)).setO (el Obj.SESSION_PATH s)
        ((pathNum r.path : Nat) : Int)).setO (el Obj.SESSION_PEER s) (r.source : Int)
      (d2.res 0).respond r s none u.nd false

/-- Whether a unit comes over the path and from the source that opened its session (R394, R395). -/
def Dev.samePeer (d : Dev) (r : Req) : Bool :=
  d.n (el Obj.SESSION_PATH r.session) == pathNum r.path && d.n (el Obj.SESSION_PEER r.session) == r.source

/-- A wrong TAG (R394, R395): the number is free again, and the fifth from one source within 60 s bars it. -/
def Dev.wrongTag (d : Dev) (r : Req) : Dev :=
  let p := pathNum r.path
  let tags := (p, r.source, d.wall) :: d.wrongTags.filter (fun e => decide (d.wall < e.2.2 + 60000000000))
  let many := decide (5 ≤ (tags.filter (fun e => e.1 == p && e.2.1 == r.source)).length)
  let d1 := ({ d.freeSession r.session with wrongTags := tags }.addSat Obj.AUTH_FAILS).event 0xD8
  let d2 := d1.when (many && !(d1.barred.contains (p, r.source))) (fun d =>
    { d with barred := d.barred ++ [(p, r.source)] }.raiseOn 0xE0D6 .sys false { addr := r.source, ini := 0x5F, acc := 6 })
  (d2.res resAuth).respond r r.session none [] false

/-- The bytes under a TAG (R394) and under a session key: "AUTH" with the role, "SKEY" without. -/
def tagMessage (role s : Nat) (x : Session) : Bytes := [65, 85, 84, 72, role, s] ++ x.nc ++ x.nd
def keyMessage (s : Nat) (x : Session) : Bytes := [83, 75, 69, 89, s] ++ x.nc ++ x.nd

/-- An AUTH (R394). -/
def Dev.auth (d : Dev) (r : Req) : Dev :=
  let s := r.session
  let x := d.sess s
  let role := d.roleOf s
  if !(decide (1 ≤ s) && decide (s ≤ 8) && d.sessState s == 1 && d.samePeer r) then d.discard r
  else if r.data ≠ Config.aesCmac (d.roleKey role) (tagMessage role s x) then d.wrongTag r
  else
    let key := Config.aesCmac (d.roleKey role) (keyMessage s x)
    let d1 := ((d.updSess s (fun x => { x with key := key, at_ := d.wall })).setO (el Obj.SESSION_STATE s) 2).event 0xD6
    (d1.res 0).respond r s (some key) [] false

/-! ### Accesses (R390 to R392) -/

/-- The data bytes a response's value may have on its path (R389, R390). -/
def readLimit (r : Req) : Nat := (if r.path = .canb then (if r.session = 0 then 52 else 44) else 1028) - 4

/-- READ, WRITE, WRITE_SEG, CLOSE or KEEPALIVE performed by its role: the E960 with the result, and the data and END of a READ.  A
marked value that is read is consumed (R466). -/
def Dev.perform (d : Dev) (r : Req) (role : Nat) (u : UnitIn) : Dev × Bytes × Bool :=
  let k := r.index * 256 + r.sub
  let a : Asker := { session := r.session, role := role, head := unitHeader (r.op + 128) r.session 4 0 r.seq r.index r.sub }
  if r.op = 1 then
    (if r.data.length ≠ 4 then (d.res resLength, [], false)
    else
      let x := d.readObj role k (ofLe r.data) (readLimit r)
      ((d.when (x.1 == resPoisoned) (fun d => d.consumed)).res x.1, x.2.1, x.2.2))
  else if r.op = 2 then (d.writeObj a k r.data, [], false)
  else if r.op = 3 then
    (if r.data.length < 4 then (d.res resLength, [], false)
    else (d.writeSeg a k (ofLe (r.data.take 4)) r.last (r.data.drop 4) u, [], false))
  else (d.res 0, [], false)

/-- Whether session `s` has a request outstanding: a courier write whose answer waits (R392, R424). -/
def Dev.outstanding (d : Dev) (s : Nat) : Bool := d.couriers.any (fun e => e.2.owed && e.2.session == s && !e.2.head.isEmpty)

/-- Whether a unit in a session is accepted (R395). -/
def Dev.unitOk (d : Dev) (r : Req) : Bool :=
  let x := d.sess r.session
  decide (1 ≤ r.session) && decide (r.session ≤ 8) && d.sessState r.session == 2 && d.samePeer r &&
    r.mac == unitMac x.key 0 r.header r.data &&
    match x.seq with
    | none => true
    | some n => decide (n < r.seq) || (n == r.seq && x.asked == r.header ++ r.data)

/-- An accepted unit answered: the response goes out and is kept for a repetition (R392). -/
def Dev.answer (d : Dev) (r : Req) (key data : Bytes) (end_ : Bool) : Dev :=
  let d1 := d.updSess r.session (fun x => { x with answer := d.result, data := data, last := end_ })
  d1.respond r r.session (some key) data end_

/-- A unit of SESSION 1 to 8 (R392, R395, R396). -/
def Dev.acceptIn (d : Dev) (r : Req) (u : UnitIn) : Dev :=
  let s := r.session
  let x := d.sess s
  if !(d.unitOk r) then d.discard r
  else
    let busy := d.outstanding s
    let d1 := d.updSess s (fun x => { x with seq := some r.seq, asked := r.header ++ r.data, at_ := d.wall })
    let done :=
      if busy then (d1.res resBusy).answer r x.key [] false
      else if x.seq = some r.seq then (d1.res x.answer).answer r x.key x.data x.last
      else
        let (d2, data, e) := d1.perform r (d1.roleOf s) u
        if d2.outstanding s then { d2 with reply := [] } else d2.answer r x.key data e
    done.when ((r.op == 0x12 && !busy) || r.seq == 0xFFFFFFFF) (fun d => d.closeSession s)

/-- A request as a unit (R387, R390). -/
def Dev.accept (d : Dev) (r : Req) (u : UnitIn) : Dev :=
  if d.portOff r.path then { d with reply := [] }
  else if r.op = 0x10 then d.challenge r u
  else if r.op = 0x11 then d.auth r
  else if !([1, 2, 3, 0x12, 0x13].contains r.op) || (r.session == 0 && decide (0x12 ≤ r.op)) then d.drop
  else if r.session = 0 then
    let (d1, data, e) := d.perform r 0 u
    d1.respond r 0 none data e
  else d.acceptIn r u

/-! ### The requests -/

/-- The request of a row: its header is written from its fields. -/
def request (path : Path) (source op session : Nat) (last : Bool) (seq index sub : Nat) (data mac : Bytes) : Req :=
  { path := path, source := source, op := op, session := session, last := last, seq := seq, index := index, sub := sub,
    header := unitHeader op session data.length (if last then 2 else 0) seq index sub, data := data, mac := mac }

/-- No random number, verification or failing word comes with a request that needs none. -/
def noInput : UnitIn := { nd := [], ok := true, bad := [] }

/-- READ (R390). -/
def execRead (path : Path) (source session seq index sub off : Nat) (mac : Bytes) (s : State) : Host.Outcome State Fault Refusal :=
  s.serve (fun d => d.accept (request path source 1 session false seq index sub (leBytes 4 (off : Int)) mac) noInput)

/-- WRITE (R390). -/
def execWrite (path : Path) (source session seq index sub : Nat) (data mac : Bytes) (u : UnitIn) (s : State) :
    Host.Outcome State Fault Refusal :=
  s.serve (fun d => d.accept (request path source 2 session false seq index sub data mac) u)

/-- WRITE_SEG (R391). -/
def execWriteSeg (path : Path) (source session seq index sub off : Nat) (last : Bool) (data mac : Bytes) (u : UnitIn) (s : State) :
    Host.Outcome State Fault Refusal :=
  s.serve (fun d => d.accept (request path source 3 session last seq index sub (leBytes 4 (off : Int) ++ data) mac) u)

/-- CHALLENGE (R394): `nd` is the E960's random number. -/
def execChallenge (path : Path) (source seq role : Nat) (nc nd : Bytes) (s : State) : Host.Outcome State Fault Refusal :=
  s.serve (fun d => d.accept (request path source 0x10 0 false seq 0 0 (role :: nc) []) { nd := nd, ok := true, bad := [] })

/-- AUTH (R394). -/
def execAuth (path : Path) (source session seq : Nat) (tag : Bytes) (s : State) : Host.Outcome State Fault Refusal :=
  s.serve (fun d => d.accept (request path source 0x11 session false seq 0 0 tag []) noInput)

/-- CLOSE (R396). -/
def execClose (path : Path) (source session seq : Nat) (mac : Bytes) (s : State) : Host.Outcome State Fault Refusal :=
  s.serve (fun d => d.accept (request path source 0x12 session false seq 0 0 [] mac) noInput)

/-- KEEPALIVE (R392). -/
def execKeepalive (path : Path) (source session seq : Nat) (mac : Bytes) (s : State) : Host.Outcome State Fault Refusal :=
  s.serve (fun d => d.accept (request path source 0x13 session false seq 0 0 [] mac) noInput)

end Sys2Proof.Machine
end

