-- ==== Sys2Proof/Machine/Hsp.lean ====
section
/-! DEFINITION. The host SPI port (R432 to R442): the first word, units, direct reads, aborted transactions and the daisy chain.  `out`
holds the bytes the last transaction or frame put on HSP_MISO. -/

namespace Sys2Proof.Machine

/-- The port changed. -/
def Dev.updHsp (d : Dev) (f : Hsp → Hsp) : Dev := { d with hsp := f d.hsp }

/-! ### The first word (R434) -/

/-- The number of bits of a byte that are 1. -/
def onesOf (x : Nat) : Nat := [0, 1, 2, 3, 4, 5, 6, 7].foldl (fun n i => n + x / 2 ^ i % 2) 0

/-- The status byte, of odd parity. -/
def Dev.hspStatus (d : Dev) : Nat :=
  let h := d.hsp
  let bit (n : Nat) (b : Bool) : Nat := if b then 2 ^ n else 0
  let x := bit 7 (!h.resp.isEmpty) + bit 6 h.free + bit 5 h.ready + bit 4 h.end_ + bit 3 h.poison + bit 2 h.aborted +
    bit 1 (d.o Obj.SAFE_STATE == 1 || d.o Obj.SAFE_STATE == 2)
  if onesOf x % 2 = 0 then x + 1 else x

/-- The length of the oldest response that waits, 0 none. -/
def Dev.respLen (d : Dev) : Nat := (d.hsp.resp.headD []).length

/-- The E960's first word: the status byte, then bits [23:0] least significant byte first, with RESP_LEN in [23:11]. -/
def Dev.hspWord (d : Dev) : Bytes := d.hspStatus :: leBytes 3 ((d.respLen % 8192 * 2048 : Nat) : Int)

/-- The status byte has been shifted out in full: END, POISON and ABORTED clear. -/
def Dev.hspShifted (d : Dev) : Dev := d.updHsp (fun h => { h with end_ := false, poison := false, aborted := false })

/-- A transaction: the first word and `body` leave on HSP_MISO. -/
def Dev.hspOut (d : Dev) (body : Bytes) : Dev := d.hspShifted.updHsp (fun h => { h with out := d.hspWord ++ body })

/-- `n` words of zeros. -/
def zeroWords (n : Nat) : Bytes := List.replicate (4 * n) 0

/-- The first `n` words of `b`, padded with zeros. -/
def padWords (n : Nat) (b : Bytes) : Bytes := b.take (4 * n) ++ List.replicate (4 * n - b.length) 0

/-- ABORTED set and ABORTS advanced (R440 to R442). -/
def Dev.hspAborted (d : Dev) : Dev := (d.updHsp (fun h => { h with aborted := true })).addSat Obj.ABORTS

/-- `f` of the port while the service pair runs and the port is enabled; else HSP_MISO is held low for the words of the transaction
(R434, R484). -/
def State.hspRun (s : State) (words : Nat) (f : Dev → Dev) : Host.Outcome State Fault Refusal :=
  s.run (fun d => if d.phase == .service && !(d.portOff .hsp) then f d else d.updHsp (fun h => { h with out := zeroWords words }))

/-- The same for the commands of single-slave mode, which have no effect in a daisy chain (R433, R441). -/
def State.hspSingle (s : State) (words : Nat) (f : Dev → Dev) : Host.Outcome State Fault Refusal :=
  s.hspRun words (Dev.when (s.dev.o Obj.HSP_MODE == 0) f)

/-! ### Units (R436) -/

/-- A complete WRITE_UNIT: taken into the request buffer, or discarded whole with REQ_FREE 0. -/
def Dev.hspWriteUnit (d : Dev) (b : Bytes) : Dev :=
  if d.hsp.free then d.updHsp (fun h => { h with req := some b, free := false })
  else (d.updHsp (fun h => { h with aborted := true })).addSat Obj.OVERRUNS

/-- The oldest response is consumed, and REQ_FREE returns where a full pair of slots had held it back. -/
def Dev.hspConsume (d : Dev) : Dev :=
  if d.hsp.resp.isEmpty then d
  else (d.updHsp (fun h => { h with resp := h.resp.drop 1, free := h.req.isNone && decide (h.resp.length ≤ 2) })).addWrap Obj.UNITS_OUT

/-- READ_UNIT over `n` words: consumed where all the response's words are shifted out. -/
def Dev.hspReadUnit (d : Dev) (n : Nat) : Dev :=
  (d.hspOut (padWords n (d.hsp.resp.headD []))).when (decide (wordsOf d.respLen ≤ n)) (fun d => d.hspConsume)

/-- The data bytes of a unit of `n` bytes after its header and MAC: LEN gives them modulo 256 (log entry 44). -/
def unitDataLen (n len : Nat) : Option Nat :=
  if n < len then none else
    let k := len + (n - len) / 256 * 256
    if 1028 < k then none else some k

/-- The request that a unit over HSP spells, none where it is shorter than its header and LEN require (R387, R389, R394). -/
def hspRequest (b : Bytes) : Option Req :=
  let op := byteAt b 0
  let s := byteAt b 1
  let m := if s = 0 ∨ op = 0x11 then 0 else 8
  if b.length < 12 + m then none
  else match unitDataLen (b.length - 12 - m) (byteAt b 2) with
    | none => none
    | some n => some {
        path := .hsp, source := 0, op := op, session := s, last := decide (128 ≤ byteAt b 3), seq := ofLe ((b.drop 4).take 4),
        index := ofLe ((b.drop 8).take 2), sub := byteAt b 10, header := b.take 12, data := (b.drop 12).take n,
        mac := (b.drop (12 + n)).take m }

/-- A response too long for the E960's segment of a daisy chain is replaced by one of the same OP and SEQ that carries LENGTH (R441). -/
def Dev.hspFit (d : Dev) (key : Bytes) (reply : Bytes) : Bytes :=
  if d.o Obj.HSP_MODE = 1 ∧ (d.n Obj.DC_WORDS - 1) * 4 < reply.length then
    let h := [byteAt reply 0, byteAt reply 1, 4, 0] ++ (reply.drop 4).take 8
    let body := leBytes 4 (resLength : Int)
    h ++ body ++ (if byteAt reply 1 = 0 ∨ key.isEmpty then [] else unitMac key 1 h body)
  else reply

/-- The service pair takes the unit and serves it; its response takes a slot (R392, R436). -/
def Dev.hspTake (d : Dev) (u : UnitIn) : Dev :=
  match d.hsp.req with
  | none => d
  | some b =>
    let d1 := (d.updHsp (fun h => { h with req := none })).addWrap Obj.UNITS_IN
    let key := (d1.sess (byteAt b 1)).key
    let d2 := match hspRequest b with
      | none => d1.drop
      | some r => d1.accept r u
    let reply := d2.hspFit key d2.reply
    let d3 := if d2.reply.isEmpty then d2
      else { d2 with reply := reply, hsp := { d2.hsp with resp := d2.hsp.resp ++ [reply], poison := d2.hsp.poison || d2.result == resPoisoned } }
    d3.updHsp (fun h => { h with free := decide (h.resp.length < 2) })

/-! ### Direct reads (R437 to R439) -/

/-- DIRECT_READ discards the buffer; the service pair then fills it. -/
def Dev.hspDirect (d : Dev) (ref : Nat) : Dev := d.updHsp (fun h => { h with buf := [], ptr := 0, ready := false, want := some (ref % 16777216) })

/-- The words of a value in the buffer, `zero` for one refused or marked. -/
def Dev.directWords (d : Dev) (k : Nat) (zero : Bool) : Bytes :=
  match objType k with
  | some .u64 | some .i64 => if zero then zeroWords 2 else leBytes 8 (d.readValue k)
  | some .str => if zero then zeroWords 8 else padWords 8 (d.readBlock k)
  | some .domain => if zero then zeroWords 1 else leBytes 4 ((d.readBlock k).length : Int)
  | _ => if zero then zeroWords 1 else leBytes 4 (d.readValue k)

/-- Whether the value a direct read takes of `k` carries the mark; of a DOMAIN it takes the length only. -/
def Dev.directMarked (d : Dev) (k : Nat) : Bool := readCheck 0 k == 0 && objType k != some .domain && d.poison.contains k

/-- The buffer filled for object `k`: the result code, then the values of its subindex and of each higher one. -/
def Dev.hspFill (d : Dev) (k : Nat) : Dev :=
  let c := readCheck 0 k
  let code := if c ≠ 0 then c else if d.directMarked k then resPoisoned else 0
  let keys := if code = 0 then (List.range (highestSub (keyIdx k) + 1 - keySub k)).map (fun i => k + i) else []
  let marked := if code = resPoisoned then 1 else (keys.filter d.directMarked).length
  let words := leBytes 4 (code : Int) ++ keys.flatMap (fun i => d.directWords i (readCheck 0 i != 0 || d.directMarked i))
  (d.consumed marked).updHsp (fun h =>
    { h with buf := words.take 2048, ptr := 0, ready := true, want := none, poison := h.poison || decide (0 < marked) })

/-- The words of a READ_DATA of `n` words. -/
def Dev.readDataWords (d : Dev) (n : Nat) : Bytes := if d.hsp.ready then padWords n (d.hsp.buf.drop (4 * d.hsp.ptr)) else zeroWords n

/-- What a READ_DATA of `n` words leaves: the pointer, and END at the first word past the last value. -/
def Dev.readDataDone (d : Dev) (n : Nat) : Dev :=
  d.updHsp (fun h =>
    if !h.ready then { h with end_ := true }
    else
      let left := wordsOf h.buf.length - h.ptr
      if left < n then { h with ptr := h.ptr + left, ready := false, end_ := true } else { h with ptr := h.ptr + n })

/-- READ_DATA over `n` words. -/
def Dev.hspReadData (d : Dev) (n : Nat) : Dev := (d.hspOut (d.readDataWords n)).readDataDone n

/-! ### Aborted transactions (R440) -/

/-- A transaction of `bits` bits that ends there, its command word with this CMD and this length L. -/
def Dev.hspEnd (d : Dev) (cmd len bits : Nat) : Dev :=
  let words := bits / 32 - 1
  let body := if cmd = 2 then padWords (words + 1) (d.hsp.resp.headD []) else if cmd = 4 then d.readDataWords (words + 1) else zeroWords (words + 1)
  let cut (d' : Dev) : Dev := (d'.when (decide (8 ≤ bits)) (fun d => d.hspShifted)).updHsp (fun h => { h with out := (d.hspWord ++ body).take (bits / 8) })
  if bits = 0 then d
  else if bits < 32 then (cut d).hspAborted
  else if cmd = 2 then (if bits % 32 = 0 then d.hspReadUnit words else cut d)
  else if cmd = 4 then (if bits % 32 = 0 then d.hspReadData words else if words = 0 then cut d else (cut d).readDataDone words)
  else if bits % 32 ≠ 0 ∨ (cmd = 1 ∧ words < wordsOf len) then (cut d).hspAborted
  else cut d

/-! ### Daisy chain (R441, R442) -/

/-- The words after the first word that answer the command latched in the previous frame. -/
def Dev.daisyBody (d : Dev) (n : Nat) : Bytes :=
  if d.hsp.cmd = 2 then padWords n (d.hsp.resp.headD []) else if d.hsp.cmd = 4 then d.readDataWords n else zeroWords n

/-- The command of an incoming segment executed at the latch. -/
def Dev.daisyRun (d : Dev) (n : Nat) (seg : Bytes) : Dev :=
  let cmd := byteAt seg 0
  let arg := ofLe ((seg.drop 1).take 3)
  let d1 := d.updHsp (fun h => { h with cmd := cmd })
  if cmd = 1 then (if n * 4 < arg % 8192 then d1.hspAborted else d1.hspWriteUnit ((padWords n (seg.drop 4)).take (arg % 8192)))
  else if cmd = 3 then d1.hspDirect arg
  else if cmd ≤ 4 then d1
  else (d1.updHsp (fun h => { h with aborted := true })).addSat Obj.BAD_CMD

/-- A frame of `bits` bits at the HSP_NSS rise, with the incoming segment. -/
def Dev.daisyLatch (d : Dev) (bits : Nat) (seg : Bytes) : Dev :=
  let n := d.n Obj.DC_WORDS - 1
  let body := d.daisyBody n
  if bits ≠ d.n Obj.DC_FRAME_BITS then (d.updHsp (fun h => { h with out := d.hspWord ++ body })).hspAborted
  else
    let d1 := d.hspOut body
    let d2 := if d1.hsp.cmd = 2 then d1.hspConsume else if d1.hsp.cmd = 4 then d1.readDataDone n else d1
    d2.daisyRun n seg

/-! ### The commands -/

/-- NOP (R435): a status poll. -/
def execNop (s : State) : Host.Outcome State Fault Refusal := s.hspSingle 1 (fun d => d.hspOut [])

/-- WRITE_UNIT (R435, R436). -/
def execWriteUnit (bytes : Bytes) (s : State) : Host.Outcome State Fault Refusal :=
  s.hspSingle (1 + wordsOf bytes.length) (fun d => (d.hspOut (zeroWords (wordsOf bytes.length))).hspWriteUnit bytes)

/-- READ_UNIT (R435, R436): `words` words after the first word. -/
def execReadUnit (words : Nat) (s : State) : Host.Outcome State Fault Refusal := s.hspSingle (1 + words) (fun d => d.hspReadUnit words)

/-- DIRECT_READ (R437): `ref` is index * 256 + subindex. -/
def execDirectRead (ref : Nat) (s : State) : Host.Outcome State Fault Refusal := s.hspSingle 1 (fun d => (d.hspOut []).hspDirect ref)

/-- READ_DATA (R438). -/
def execReadData (words : Nat) (s : State) : Host.Outcome State Fault Refusal := s.hspSingle (1 + words) (fun d => d.hspReadData words)

/-- HSP_BAD_CMD (R435). -/
def execHspBadCmd (cmd : Nat) (s : State) : Host.Outcome State Fault Refusal :=
  s.hspSingle 1 (fun d => (d.hspOut []).when (decide (4 < cmd)) (fun d => (d.updHsp (fun h => { h with aborted := true })).addSat Obj.BAD_CMD))

/-- HSP_ABORT (R440). -/
def execHspAbort (cmd len bits : Nat) (s : State) : Host.Outcome State Fault Refusal :=
  s.hspSingle (bits / 32) (fun d => d.hspEnd cmd len bits)

/-- HSP_BUFFER_FILLED (R437). -/
def execHspBufferFilled (s : State) : Host.Outcome State Fault Refusal :=
  s.serve (fun d => match d.hsp.want with
    | some k => d.hspFill k
    | none => d)

/-- HSP_UNIT_TAKEN (R436). -/
def execHspUnitTaken (u : UnitIn) (s : State) : Host.Outcome State Fault Refusal := s.serve (fun d => d.hspTake u)

/-- DAISY_FRAME_LATCH (R441, R442): a frame of `bits` bits whose segment at the E960 is `words`. -/
def execDaisyFrameLatch (bits : Nat) (words : Bytes) (s : State) : Host.Outcome State Fault Refusal :=
  s.hspRun (s.dev.n Obj.DC_WORDS) (Dev.when (s.dev.o Obj.HSP_MODE == 1) (fun d => d.daisyLatch bits words))

end Sys2Proof.Machine
end

