-- ==== Sys2Proof/Machine/Dispatch.lean ====
section
/-! DEFINITION. exec: one arm for each command of Sys2Proof.Instr, each one direct call of that command's meaning. -/

namespace Sys2Proof.Machine

def exec (i : Instr) (s : State) : Host.Outcome State Fault Refusal :=
  match i with
  | .heartbeatMissing e => Sys2Proof.Machine.execHeartbeatMissing e s
  | .svcLockstepMismatch => Sys2Proof.Machine.execSvcLockstepMismatch s
  | .supLockstepMismatch => Sys2Proof.Machine.execSupLockstepMismatch s
  | .clockCompare ppm => Sys2Proof.Machine.execClockCompare ppm s
  | .supervisorHeartbeatTimeout => Sys2Proof.Machine.execSupervisorHeartbeatTimeout s
  | .holderSupervisorReset => Sys2Proof.Machine.execHolderSupervisorReset s
  | .sarSpareCompare g c diff => Sys2Proof.Machine.execSarSpareCompare g c diff s
  | .hnWindowResult node offset phase neg y theta => Sys2Proof.Machine.execHnWindowResult node offset phase neg y theta s
  | .hnMonitorFrame h values => Sys2Proof.Machine.execHnMonitorFrame h values s
  | .hnBadFrame h window => Sys2Proof.Machine.execHnBadFrame h window s
  | .hnLinkLost h => Sys2Proof.Machine.execHnLinkLost h s
  | .trackSourceUpdate t value rate => Sys2Proof.Machine.execTrackSourceUpdate t value rate s
  | .trackExtrapolationTick t => Sys2Proof.Machine.execTrackExtrapolationTick t s
  | .trkInvalid t => Sys2Proof.Machine.execTrkInvalid t s
  | .slotControlArm n => Sys2Proof.Machine.execSlotControlArm n s
  | .slotControlDisarm n => Sys2Proof.Machine.execSlotControlDisarm n s
  | .slotFieldWrite n field value => Sys2Proof.Machine.execSlotFieldWrite n field value s
  | .offsetLearnStart m emf => Sys2Proof.Machine.execOffsetLearnStart m emf s
  | .offsetLearnAbort m => Sys2Proof.Machine.execOffsetLearnAbort m s
  | .learnZeroCrossing m => Sys2Proof.Machine.execLearnZeroCrossing m s
  | .learnConditionsLost m => Sys2Proof.Machine.execLearnConditionsLost m s
  | .ssiGuardTimer e => Sys2Proof.Machine.execSsiGuardTimer e s
  | .ssiFrameEnd e lead word status check delay dataLow => Sys2Proof.Machine.execSsiFrameEnd e lead word status check delay dataLow s
  | .ssiMonoflopEnd e => Sys2Proof.Machine.execSsiMonoflopEnd e s
  | .ssiSourceTimeout e => Sys2Proof.Machine.execSsiSourceTimeout e s
  | .incEdge n ab => Sys2Proof.Machine.execIncEdge n ab s
  | .incQualifiedIndex idx => Sys2Proof.Machine.execIncQualifiedIndex idx s
  | .incArmReset idx => Sys2Proof.Machine.execIncArmReset idx s
  | .incOpenWire idx => Sys2Proof.Machine.execIncOpenWire idx s
  | .hallStateChange idx raw => Sys2Proof.Machine.execHallStateChange idx raw s
  | .hallImpossibleTimeout idx => Sys2Proof.Machine.execHallImpossibleTimeout idx s
  | .hallZeroTimeout idx => Sys2Proof.Machine.execHallZeroTimeout idx s
  | .speedWindowUpdate => Sys2Proof.Machine.execSpeedWindowUpdate s
  | .speedZeroTimeout idx => Sys2Proof.Machine.execSpeedZeroTimeout idx s
  | .probeArm p => Sys2Proof.Machine.execProbeArm p s
  | .probeAcknowledge p => Sys2Proof.Machine.execProbeAcknowledge p s
  | .probeDisarm p => Sys2Proof.Machine.execProbeDisarm p s
  | .probeEdge p rising => Sys2Proof.Machine.execProbeEdge p rising s
  | .wheelPulse idx width => Sys2Proof.Machine.execWheelPulse idx width s
  | .imuSample yaw ax ay az => Sys2Proof.Machine.execImuSample yaw ax ay az s
  | .imuSampleTimeout => Sys2Proof.Machine.execImuSampleTimeout s
  | .tractionBoundary m idx => Sys2Proof.Machine.execTractionBoundary m idx s
  | .traWindowLost m => Sys2Proof.Machine.execTraWindowLost m s
  | .patternTableWrite n b => Sys2Proof.Machine.execPatternTableWrite n b s
  | .curveWrite m gen b => Sys2Proof.Machine.execCurveWrite m gen b s
  | .zeroHoldTimeout m => Sys2Proof.Machine.execZeroHoldTimeout m s
  | .tractionRun m => Sys2Proof.Machine.execTractionRun m s
  | .tractionStop m => Sys2Proof.Machine.execTractionStop m s
  | .traAscProbe m => Sys2Proof.Machine.execTraAscProbe m s
  | .ascProbeEnd m emf freq dcHigh => Sys2Proof.Machine.execAscProbeEnd m emf freq dcHigh s
  | .loopSample L => Sys2Proof.Machine.execLoopSample L s
  | .loopEnable L => Sys2Proof.Machine.execLoopEnable L s
  | .loopDisable L => Sys2Proof.Machine.execLoopDisable L s
  | .bankCtrlSwap L => Sys2Proof.Machine.execBankCtrlSwap L s
  | .flagsClear L mask => Sys2Proof.Machine.execFlagsClear L mask s
  | .leSelfCheck n pass => Sys2Proof.Machine.execLeSelfCheck n pass s
  | .le8LoadComplete => Sys2Proof.Machine.execLe8LoadComplete s
  | .ledgerPeriod idx => Sys2Proof.Machine.execLedgerPeriod idx s
  | .lnkSourceLost src idx fall => Sys2Proof.Machine.execLnkSourceLost src idx fall s
  | .lnkSourceTimeout src => Sys2Proof.Machine.execLnkSourceTimeout src s
  | .tractorLimitFrame name limitA limitB volts state regenOk => Sys2Proof.Machine.execTractorLimitFrame name limitA limitB volts state regenOk s
  | .linkStatusFrameSend => Sys2Proof.Machine.execLinkStatusFrameSend s
  | .bmsLimitFrame source limitA limitB volts state => Sys2Proof.Machine.execBmsLimitFrame source limitA limitB volts state s
  | .sourceCurrentReturn src => Sys2Proof.Machine.execSourceCurrentReturn src s
  | .linkCtrlWrite v => Sys2Proof.Machine.execLinkCtrlWrite v s
  | .prechargeContactorClosed => Sys2Proof.Machine.execPrechargeContactorClosed s
  | .prechargeTauCheck vdc => Sys2Proof.Machine.execPrechargeTauCheck vdc s
  | .prechargeRatioReached vdc => Sys2Proof.Machine.execPrechargeRatioReached vdc s
  | .prechargeTimeout => Sys2Proof.Machine.execPrechargeTimeout s
  | .mainCloseConfirmed n vdc => Sys2Proof.Machine.execMainCloseConfirmed n vdc s
  | .prechargeContactorOpen => Sys2Proof.Machine.execPrechargeContactorOpen s
  | .secondSourceConnect src vdc => Sys2Proof.Machine.execSecondSourceConnect src vdc s
  | .lnkCtrMismatch n => Sys2Proof.Machine.execLnkCtrMismatch n s
  | .lnkCtrDriver n tooHigh => Sys2Proof.Machine.execLnkCtrDriver n tooHigh s
  | .mainOpen src idx timeout => Sys2Proof.Machine.execMainOpen src idx timeout s
  | .lnkCtrWeld src vdc => Sys2Proof.Machine.execLnkCtrWeld src vdc s
  | .lnkDischarged vdc => Sys2Proof.Machine.execLnkDischarged vdc s
  | .dischargeTimeout vdc => Sys2Proof.Machine.execDischargeTimeout vdc s
  | .chopperOn vdc => Sys2Proof.Machine.execChopperOn vdc s
  | .chopperOff vdc => Sys2Proof.Machine.execChopperOff vdc s
  | .chopperCurrentCheck idx vdc => Sys2Proof.Machine.execChopperCurrentCheck idx vdc s
  | .chopperTestPulse idx vdc => Sys2Proof.Machine.execChopperTestPulse idx vdc s
  | .lnkOvAsc vdc => Sys2Proof.Machine.execLnkOvAsc vdc s
  | .ovTier4 => Sys2Proof.Machine.execOvTier4 s
  | .ovTier4Release => Sys2Proof.Machine.execOvTier4Release s
  | .grdModeWrite v => Sys2Proof.Machine.execGrdModeWrite v s
  | .grdBoundary idx => Sys2Proof.Machine.execGrdBoundary idx s
  | .pilotReading pos neg freq duty steady => Sys2Proof.Machine.execPilotReading pos neg freq duty steady s
  | .proximitySample ohm => Sys2Proof.Machine.execProximitySample ohm s
  | .s2Close => Sys2Proof.Machine.execS2Close s
  | .lineVoltageWaitTimeout => Sys2Proof.Machine.execLineVoltageWaitTimeout s
  | .grdTrip => Sys2Proof.Machine.execGrdTrip s
  | .gridFrequencyTrip => Sys2Proof.Machine.execGridFrequencyTrip s
  | .grdUnbalance => Sys2Proof.Machine.execGrdUnbalance s
  | .supplyStart => Sys2Proof.Machine.execSupplyStart s
  | .islandOverloadTimeout => Sys2Proof.Machine.execIslandOverloadTimeout s
  | .islandShortTimeout => Sys2Proof.Machine.execIslandShortTimeout s
  | .grdForeignSource => Sys2Proof.Machine.execGrdForeignSource s
  | .meterLog => Sys2Proof.Machine.execMeterLog s
  | .converterRun c => Sys2Proof.Machine.execConverterRun c s
  | .converterAutoStart c => Sys2Proof.Machine.execConverterAutoStart c s
  | .converterBoundary c idx => Sys2Proof.Machine.execConverterBoundary c idx s
  | .converterStop c => Sys2Proof.Machine.execConverterStop c s
  | .dcaStopped c => Sys2Proof.Machine.execDcaStopped c s
  | .dcaOutShort c => Sys2Proof.Machine.execDcaOutShort c s
  | .reverseLinkReached vdc => Sys2Proof.Machine.execReverseLinkReached vdc s
  | .reversePrechargeFail vdc vout timeout => Sys2Proof.Machine.execReversePrechargeFail vdc vout timeout s
  | .assignCommit v => Sys2Proof.Machine.execAssignCommit v s
  | .sysGateUvlo n pos neg => Sys2Proof.Machine.execSysGateUvlo n pos neg s
  | .sysGateWarn n mw => Sys2Proof.Machine.execSysGateWarn n mw s
  | .sysGateSc n di => Sys2Proof.Machine.execSysGateSc n di s
  | .softTurnoffEnd n => Sys2Proof.Machine.execSoftTurnoffEnd n s
  | .ocComparatorTrip h tooHigh => Sys2Proof.Machine.execOcComparatorTrip h tooHigh s
  | .ocHoldRelease h => Sys2Proof.Machine.execOcHoldRelease h s
  | .latchReaction n => Sys2Proof.Machine.execLatchReaction n s
  | .tsConversion n temp => Sys2Proof.Machine.execTsConversion n temp s
  | .sysGateLink n => Sys2Proof.Machine.execSysGateLink n s
  | .driveEnLow => Sys2Proof.Machine.execDriveEnLow s
  | .driveEnRise silent => Sys2Proof.Machine.execDriveEnRise silent s
  | .offstateTestRequest mask => Sys2Proof.Machine.execOffstateTestRequest mask s
  | .sysDiagDone g legs vl => Sys2Proof.Machine.execSysDiagDone g legs vl s
  | .lvBoundary k idx => Sys2Proof.Machine.execLvBoundary k idx s
  | .actBootUv n => Sys2Proof.Machine.execActBootUv n s
  | .actHbOc n => Sys2Proof.Machine.execActHbOc n s
  | .cycleByCycleTrip k coil before => Sys2Proof.Machine.execCycleByCycleTrip k coil before s
  | .vlvBudgetEval idx => Sys2Proof.Machine.execVlvBudgetEval idx s
  | .actVlvLow => Sys2Proof.Machine.execActVlvLow s
  | .vlvHwOvervoltage => Sys2Proof.Machine.execVlvHwOvervoltage s
  | .bldcRun g => Sys2Proof.Machine.execBldcRun g s
  | .bldcStop g => Sys2Proof.Machine.execBldcStop g s
  | .bldcAlignEnd g => Sys2Proof.Machine.execBldcAlignEnd g s
  | .bldcRampStep g => Sys2Proof.Machine.execBldcRampStep g s
  | .bldcRampTimeout g => Sys2Proof.Machine.execBldcRampTimeout g s
  | .bldcCommutation g => Sys2Proof.Machine.execBldcCommutation g s
  | .actBlLost g => Sys2Proof.Machine.execActBlLost g s
  | .recatchStart g => Sys2Proof.Machine.execRecatchStart g s
  | .actBlRecatch g angle rate amp => Sys2Proof.Machine.execActBlRecatch g angle rate amp s
  | .lowSideBrakeEnd g timeout => Sys2Proof.Machine.execLowSideBrakeEnd g timeout s
  | .triesReset g => Sys2Proof.Machine.execTriesReset g s
  | .lvDiagRequest mask => Sys2Proof.Machine.execLvDiagRequest mask s
  | .actDiagDone k rs => Sys2Proof.Machine.execActDiagDone k rs s
  | .servoPeriod la => Sys2Proof.Machine.execServoPeriod la s
  | .moveToTarget a => Sys2Proof.Machine.execMoveToTarget a s
  | .moveByTarget a => Sys2Proof.Machine.execMoveByTarget a s
  | .moveStop a => Sys2Proof.Machine.execMoveStop a s
  | .moveHome a => Sys2Proof.Machine.execMoveHome a s
  | .moveRelease a => Sys2Proof.Machine.execMoveRelease a s
  | .energiseEnd a => Sys2Proof.Machine.execEnergiseEnd a s
  | .stallHoldEnd a => Sys2Proof.Machine.execStallHoldEnd a s
  | .actHomed a => Sys2Proof.Machine.execActHomed a s
  | .holdDelayEnd a => Sys2Proof.Machine.execHoldDelayEnd a s
  | .groupMoveStart w => Sys2Proof.Machine.execGroupMoveStart w s
  | .groupMoveStop w => Sys2Proof.Machine.execGroupMoveStop w s
  | .gearSetWrite v => Sys2Proof.Machine.execGearSetWrite v s
  | .actShiftRefused => Sys2Proof.Machine.execActShiftRefused s
  | .retryDelayEnd => Sys2Proof.Machine.execRetryDelayEnd s
  | .parkSetWrite v => Sys2Proof.Machine.execParkSetWrite v s
  | .diffSetWrite v => Sys2Proof.Machine.execDiffSetWrite v s
  | .rehomeWrite v => Sys2Proof.Machine.execRehomeWrite v s
  | .autoHomeStart => Sys2Proof.Machine.execAutoHomeStart s
  | .geUpdate => Sys2Proof.Machine.execGeUpdate s
  | .gnssFixFrame name method lat lon time => Sys2Proof.Machine.execGnssFixFrame name method lat lon time s
  | .positionRapidFrame name lat lon => Sys2Proof.Machine.execPositionRapidFrame name lat lon s
  | .courseSpeedFrame name cog sog => Sys2Proof.Machine.execCourseSpeedFrame name cog sog s
  | .headingFrame name head => Sys2Proof.Machine.execHeadingFrame name head s
  | .machineSpeedFrame name forward => Sys2Proof.Machine.execMachineSpeedFrame name forward s
  | .bomGnssLost => Sys2Proof.Machine.execBomGnssLost s
  | .distSourceTimeout => Sys2Proof.Machine.execDistSourceTimeout s
  | .gyroBiasEstimate mean => Sys2Proof.Machine.execGyroBiasEstimate mean s
  | .masterWrite v => Sys2Proof.Machine.execMasterWrite v s
  | .rowEnableWrite n v => Sys2Proof.Machine.execRowEnableWrite n v s
  | .coverageMarkCommit => Sys2Proof.Machine.execCoverageMarkCommit s
  | .jobOpenKeep => Sys2Proof.Machine.execJobOpenKeep s
  | .jobOpenClear => Sys2Proof.Machine.execJobOpenClear s
  | .jobCloseSave => Sys2Proof.Machine.execJobCloseSave s
  | .jobSaveNow => Sys2Proof.Machine.execJobSaveNow s
  | .jobSavePeriodic => Sys2Proof.Machine.execJobSavePeriodic s
  | .bomJobSaved ok => Sys2Proof.Machine.execBomJobSaved ok s
  | .boundariesWrite b => Sys2Proof.Machine.execBoundariesWrite b s
  | .rxGridWrite b => Sys2Proof.Machine.execRxGridWrite b s
  | .chainBuild c => Sys2Proof.Machine.execChainBuild c s
  | .chainReturn c delay frame => Sys2Proof.Machine.execChainReturn c delay frame s
  | .chainReturnTimeout c => Sys2Proof.Machine.execChainReturnTimeout c s
  | .chainStart c => Sys2Proof.Machine.execChainStart c s
  | .chainStop c => Sys2Proof.Machine.execChainStop c s
  | .chainLearn c => Sys2Proof.Machine.execChainLearn c s
  | .mailboxRead => Sys2Proof.Machine.execMailboxRead s
  | .mailboxWrite => Sys2Proof.Machine.execMailboxWrite s
  | .bomMbxTimeout => Sys2Proof.Machine.execBomMbxTimeout s
  | .canBusOff port => Sys2Proof.Machine.execCanBusOff port s
  | .busOffRecovery port => Sys2Proof.Machine.execBusOffRecovery port s
  | .netEthLink up => Sys2Proof.Machine.execNetEthLink up s
  | .unitDiscard => Sys2Proof.Machine.execUnitDiscard s
  | .read path source session seq index sub off mac => Sys2Proof.Machine.execRead path source session seq index sub off mac s
  | .write path source session seq index sub data mac u => Sys2Proof.Machine.execWrite path source session seq index sub data mac u s
  | .writeSeg path source session seq index sub off last data mac u => Sys2Proof.Machine.execWriteSeg path source session seq index sub off last data mac u s
  | .stagingTimeout n => Sys2Proof.Machine.execStagingTimeout n s
  | .challenge path source seq role nc nd => Sys2Proof.Machine.execChallenge path source seq role nc nd s
  | .auth path source session seq tag => Sys2Proof.Machine.execAuth path source session seq tag s
  | .authTimeout n => Sys2Proof.Machine.execAuthTimeout n s
  | .close path source session seq mac => Sys2Proof.Machine.execClose path source session seq mac s
  | .keepalive path source session seq mac => Sys2Proof.Machine.execKeepalive path source session seq mac s
  | .sessionIdleTimeout n => Sys2Proof.Machine.execSessionIdleTimeout n s
  | .sourceBarExpiry path source => Sys2Proof.Machine.execSourceBarExpiry path source s
  | .closeSession v => Sys2Proof.Machine.execCloseSession v s
  | .addressClaimStart => Sys2Proof.Machine.execAddressClaimStart s
  | .netAddrClaimed => Sys2Proof.Machine.execNetAddrClaimed s
  | .addressContention name => Sys2Proof.Machine.execAddressContention name s
  | .peerAddressClaim addr name => Sys2Proof.Machine.execPeerAddressClaim addr name s
  | .tcStatusMessage name => Sys2Proof.Machine.execTcStatusMessage name s
  | .netTcLost => Sys2Proof.Machine.execNetTcLost s
  | .tcProcessData name rate first states => Sys2Proof.Machine.execTcProcessData name rate first states s
  | .tcDdopUploadDone => Sys2Proof.Machine.execTcDdopUploadDone s
  | .notifyScan => Sys2Proof.Machine.execNotifyScan s
  | .notifyTransmit eth => Sys2Proof.Machine.execNotifyTransmit eth s
  | .courierWrite al g data => Sys2Proof.Machine.execCourierWrite al g data s
  | .courierCancel g => Sys2Proof.Machine.execCourierCancel g s
  | .resetCmd => Sys2Proof.Machine.execResetCmd s
  | .resetCmdExecute => Sys2Proof.Machine.execResetCmdExecute s
  | .nfaultPulseEnd => Sys2Proof.Machine.execNfaultPulseEnd s
  | .nfaultLevelWrite v => Sys2Proof.Machine.execNfaultLevelWrite v s
  | .postmarkAck c => Sys2Proof.Machine.execPostmarkAck c s
  | .nop => Sys2Proof.Machine.execNop s
  | .writeUnit bytes => Sys2Proof.Machine.execWriteUnit bytes s
  | .readUnit words => Sys2Proof.Machine.execReadUnit words s
  | .directRead ref => Sys2Proof.Machine.execDirectRead ref s
  | .readData words => Sys2Proof.Machine.execReadData words s
  | .hspBadCmd cmd => Sys2Proof.Machine.execHspBadCmd cmd s
  | .hspAbort cmd len bits => Sys2Proof.Machine.execHspAbort cmd len bits s
  | .hspBufferFilled => Sys2Proof.Machine.execHspBufferFilled s
  | .hspUnitTaken u => Sys2Proof.Machine.execHspUnitTaken u s
  | .daisyFrameLatch bits words => Sys2Proof.Machine.execDaisyFrameLatch bits words s
  | .spStart p v => Sys2Proof.Machine.execSpStart p v s
  | .spDescriptorEnd p rx => Sys2Proof.Machine.execSpDescriptorEnd p rx s
  | .spQueueWrite p q b => Sys2Proof.Machine.execSpQueueWrite p q b s
  | .flashLineFill a cipher => Sys2Proof.Machine.execFlashLineFill a cipher s
  | .flashCommandEnd ok => Sys2Proof.Machine.execFlashCommandEnd ok s
  | .memWriteBack idx w overwritten verify => Sys2Proof.Machine.execMemWriteBack idx w overwritten verify s
  | .scrubStep idx err => Sys2Proof.Machine.execScrubStep idx err s
  | .bucketLeak idx => Sys2Proof.Machine.execBucketLeak idx s
  | .mRecordStore bad => Sys2Proof.Machine.execMRecordStore bad s
  | .otpProgram n w => Sys2Proof.Machine.execOtpProgram n w s
  | .otpLock n bank => Sys2Proof.Machine.execOtpLock n bank s
  | .otpReissue n bank => Sys2Proof.Machine.execOtpReissue n bank s
  | .otpCommandEnd bad retries => Sys2Proof.Machine.execOtpCommandEnd bad retries s
  | .kintWrite b bad => Sys2Proof.Machine.execKintWrite b bad s
  | .lcCtrl n v => Sys2Proof.Machine.execLcCtrl n v s
  | .lcStepProgram bad => Sys2Proof.Machine.execLcStepProgram bad s
  | .shadowCompare reads => Sys2Proof.Machine.execShadowCompare reads s
  | .imageConfirm => Sys2Proof.Machine.execImageConfirm s
  | .imgBegin n => Sys2Proof.Machine.execImgBegin n s
  | .imgEraseEnd => Sys2Proof.Machine.execImgEraseEnd s
  | .imgBlock n b ok => Sys2Proof.Machine.execImgBlock n b ok s
  | .imgFinish n => Sys2Proof.Machine.execImgFinish n s
  | .imgAbort n => Sys2Proof.Machine.execImgAbort n s
  | .eventDelivery => Sys2Proof.Machine.execEventDelivery s
  | .quietPeriodEnd code acts => Sys2Proof.Machine.execQuietPeriodEnd code acts s
  | .recentWindowExpiry => Sys2Proof.Machine.execRecentWindowExpiry s
  | .lockoutClear => Sys2Proof.Machine.execLockoutClear s
  | .safeInAssert => Sys2Proof.Machine.execSafeInAssert s
  | .safeInRelease => Sys2Proof.Machine.execSafeInRelease s
  | .faultInject => Sys2Proof.Machine.execFaultInject s
  | .injectionTimeout => Sys2Proof.Machine.execInjectionTimeout s
  | .faultLogCopy => Sys2Proof.Machine.execFaultLogCopy s
  | .dieTempSample die drv => Sys2Proof.Machine.execDieTempSample die drv s
  | .slowTempSample hn module ntc => Sys2Proof.Machine.execSlowTempSample hn module ntc s
  | .throttlePauseEnd op => Sys2Proof.Machine.execThrottlePauseEnd op s
  | .vsupPowerOn v => Sys2Proof.Machine.execVsupPowerOn v s
  | .vsupBrownOut v => Sys2Proof.Machine.execVsupBrownOut v s
  | .vsupLoss v => Sys2Proof.Machine.execVsupLoss v s
  | .vsupLowRange v => Sys2Proof.Machine.execVsupLowRange v s
  | .vsupHighRange v => Sys2Proof.Machine.execVsupHighRange v s
  | .vsupOvervoltage v => Sys2Proof.Machine.execVsupOvervoltage v s
  | .keyOnRise => Sys2Proof.Machine.execKeyOnRise s
  | .keyOnFall => Sys2Proof.Machine.execKeyOnFall s
  | .resetRelease => Sys2Proof.Machine.execResetRelease s
  | .startSequence x => Sys2Proof.Machine.execStartSequence x s
  | .serviceReady => Sys2Proof.Machine.execServiceReady s
  | .sysPowerReady => Sys2Proof.Machine.execSysPowerReady s
  | .recipeStore k => Sys2Proof.Machine.execRecipeStore k s
  | .keyoffDelayEnd => Sys2Proof.Machine.execKeyoffDelayEnd s
  | .shutdownDisconnect => Sys2Proof.Machine.execShutdownDisconnect s
  | .shutdownSave => Sys2Proof.Machine.execShutdownSave s
  | .sleepEnter => Sys2Proof.Machine.execSleepEnter s
  | .shutdownForced => Sys2Proof.Machine.execShutdownForced s
  | .supplyOverload n => Sys2Proof.Machine.execSupplyOverload n s
  | .supplyRetry n => Sys2Proof.Machine.execSupplyRetry n s
  | .statusFrame => Sys2Proof.Machine.execStatusFrame s
  | .traceFrameSend => Sys2Proof.Machine.execTraceFrameSend s
  | .traceArm => Sys2Proof.Machine.execTraceArm s
  | .traceStop => Sys2Proof.Machine.execTraceStop s
  | .traceClear => Sys2Proof.Machine.execTraceClear s
  | .tracePostDone => Sys2Proof.Machine.execTracePostDone s
  | .traceExportDone => Sys2Proof.Machine.execTraceExportDone s
  | .traceChannelSample k => Sys2Proof.Machine.execTraceChannelSample k s
  | .contactorPullInEnd n => Sys2Proof.Machine.execContactorPullInEnd n s
  | .contactorOpenConfirmed n => Sys2Proof.Machine.execContactorOpenConfirmed n s
  | .mapRebuildDone => Sys2Proof.Machine.execMapRebuildDone s
  | .arpRequest ip => Sys2Proof.Machine.execArpRequest ip s
  | .icmpEchoRequest ip payload => Sys2Proof.Machine.execIcmpEchoRequest ip payload s
  | .vsupRangeReturn v => Sys2Proof.Machine.execVsupRangeReturn v s
  | .gateUvloEnd n => Sys2Proof.Machine.execGateUvloEnd n s

end Sys2Proof.Machine
end

