-- ==== Sys2Proof/WellFormed.lean ====
section
/-! DEFINITION. Which terms of Instr are commands that can reach the E960: byte strings hold bytes, the fields of a unit and of the host's
words fit their widths (R389, R394, R395, R434, R435), and what a frame carries fits its field (R334, R398, R400, R401). -/

namespace Sys2Proof

/-- `x` fits `n` bits. -/
def fits (n x : Nat) : Bool := decide (x < 2 ^ n)

/-- Every element is a byte. -/
def bytesOk (b : Bytes) : Bool := b.all (fun x => decide (x < 256))

/-- `n` bytes. -/
def blockOk (n : Nat) (b : Bytes) : Bool := bytesOk b && decide (b.length = n)

/-- A unit carries a MAC of 8 bytes in a session and none outside (R389). -/
def macOk (session : Nat) (mac : Bytes) : Bool := blockOk (if session = 0 then 0 else 8) mac

/-- The fields of the header of an object access (R389). -/
def objectOk (session seq index sub : Nat) : Bool := fits 8 session && fits 32 seq && fits 16 index && fits 8 sub

/-- Whether a term is a command that can reach the E960. -/
def Instr.wellFormed : Instr → Bool
  | .heartbeatMissing _ => true
  | .svcLockstepMismatch => true
  | .supLockstepMismatch => true
  | .clockCompare _ => true
  | .supervisorHeartbeatTimeout => true
  | .holderSupervisorReset => true
  | .sarSpareCompare _ _ _ => true
  | .hnWindowResult _ _ _ _ _ _ => true
  | .hnMonitorFrame _ values => decide (values.length = 4)
  | .hnBadFrame _ _ => true
  | .hnLinkLost _ => true
  | .trackSourceUpdate _ _ _ => true
  | .trackExtrapolationTick _ => true
  | .trkInvalid _ => true
  | .slotControlArm _ => true
  | .slotControlDisarm _ => true
  | .slotFieldWrite _ _ _ => true
  | .offsetLearnStart _ _ => true
  | .offsetLearnAbort _ => true
  | .learnZeroCrossing _ => true
  | .learnConditionsLost _ => true
  | .ssiGuardTimer _ => true
  | .ssiFrameEnd _ _ _ _ _ _ _ => true
  | .ssiMonoflopEnd _ => true
  | .ssiSourceTimeout _ => true
  | .incEdge _ _ => true
  | .incQualifiedIndex _ => true
  | .incArmReset _ => true
  | .incOpenWire _ => true
  | .hallStateChange _ _ => true
  | .hallImpossibleTimeout _ => true
  | .hallZeroTimeout _ => true
  | .speedWindowUpdate => true
  | .speedZeroTimeout _ => true
  | .probeArm _ => true
  | .probeAcknowledge _ => true
  | .probeDisarm _ => true
  | .probeEdge _ _ => true
  | .wheelPulse _ _ => true
  | .imuSample _ _ _ _ => true
  | .imuSampleTimeout => true
  | .tractionBoundary _ _ => true
  | .traWindowLost _ => true
  | .patternTableWrite _ b => bytesOk b
  | .curveWrite _ _ b => bytesOk b
  | .zeroHoldTimeout _ => true
  | .tractionRun _ => true
  | .tractionStop _ => true
  | .traAscProbe _ => true
  | .ascProbeEnd _ _ _ _ => true
  | .loopSample _ => true
  | .loopEnable _ => true
  | .loopDisable _ => true
  | .bankCtrlSwap _ => true
  | .flagsClear _ _ => true
  | .leSelfCheck _ _ => true
  | .le8LoadComplete => true
  | .ledgerPeriod _ => true
  | .lnkSourceLost _ _ _ => true
  | .lnkSourceTimeout _ => true
  | .tractorLimitFrame name limitA limitB volts state _ => fits 64 name && fits 16 limitA && fits 16 limitB && fits 16 volts && fits 2 state
  | .linkStatusFrameSend => true
  | .bmsLimitFrame source limitA limitB volts state => fits 8 source && fits 16 limitA && fits 16 limitB && fits 16 volts && fits 2 state
  | .sourceCurrentReturn _ => true
  | .linkCtrlWrite _ => true
  | .prechargeContactorClosed => true
  | .prechargeTauCheck _ => true
  | .prechargeRatioReached _ => true
  | .prechargeTimeout => true
  | .mainCloseConfirmed _ _ => true
  | .prechargeContactorOpen => true
  | .secondSourceConnect _ _ => true
  | .lnkCtrMismatch _ => true
  | .lnkCtrDriver _ _ => true
  | .mainOpen _ _ _ => true
  | .lnkCtrWeld _ _ => true
  | .lnkDischarged _ => true
  | .dischargeTimeout _ => true
  | .chopperOn _ => true
  | .chopperOff _ => true
  | .chopperCurrentCheck _ _ => true
  | .chopperTestPulse _ _ => true
  | .lnkOvAsc _ => true
  | .ovTier4 => true
  | .ovTier4Release => true
  | .grdModeWrite _ => true
  | .grdBoundary _ => true
  | .pilotReading _ _ _ _ _ => true
  | .proximitySample _ => true
  | .s2Close => true
  | .lineVoltageWaitTimeout => true
  | .grdTrip => true
  | .gridFrequencyTrip => true
  | .grdUnbalance => true
  | .supplyStart => true
  | .islandOverloadTimeout => true
  | .islandShortTimeout => true
  | .grdForeignSource => true
  | .meterLog => true
  | .converterRun _ => true
  | .converterAutoStart _ => true
  | .converterBoundary _ _ => true
  | .converterStop _ => true
  | .dcaStopped _ => true
  | .dcaOutShort _ => true
  | .reverseLinkReached _ => true
  | .reversePrechargeFail _ _ _ => true
  | .assignCommit _ => true
  | .sysGateUvlo _ _ _ => true
  | .sysGateWarn _ _ => true
  | .sysGateSc _ _ => true
  | .softTurnoffEnd _ => true
  | .ocComparatorTrip _ _ => true
  | .ocHoldRelease _ => true
  | .latchReaction _ => true
  | .tsConversion _ _ => true
  | .sysGateLink _ => true
  | .driveEnLow => true
  | .driveEnRise _ => true
  | .offstateTestRequest _ => true
  | .sysDiagDone _ legs _ => decide (0 < legs.length)
  | .lvBoundary _ _ => true
  | .actBootUv _ => true
  | .actHbOc _ => true
  | .cycleByCycleTrip _ _ _ => true
  | .vlvBudgetEval _ => true
  | .actVlvLow => true
  | .vlvHwOvervoltage => true
  | .bldcRun _ => true
  | .bldcStop _ => true
  | .bldcAlignEnd _ => true
  | .bldcRampStep _ => true
  | .bldcRampTimeout _ => true
  | .bldcCommutation _ => true
  | .actBlLost _ => true
  | .recatchStart _ => true
  | .actBlRecatch _ _ _ _ => true
  | .lowSideBrakeEnd _ _ => true
  | .triesReset _ => true
  | .lvDiagRequest _ => true
  | .actDiagDone _ _ => true
  | .servoPeriod la => decide (la.length = 4)
  | .moveToTarget _ => true
  | .moveByTarget _ => true
  | .moveStop _ => true
  | .moveHome _ => true
  | .moveRelease _ => true
  | .energiseEnd _ => true
  | .stallHoldEnd _ => true
  | .actHomed _ => true
  | .holdDelayEnd _ => true
  | .groupMoveStart _ => true
  | .groupMoveStop _ => true
  | .gearSetWrite _ => true
  | .actShiftRefused => true
  | .retryDelayEnd => true
  | .parkSetWrite _ => true
  | .diffSetWrite _ => true
  | .rehomeWrite _ => true
  | .autoHomeStart => true
  | .geUpdate => true
  | .gnssFixFrame name method _ _ _ => fits 64 name && fits 4 method
  | .positionRapidFrame name _ _ => fits 64 name
  | .courseSpeedFrame name cog sog => fits 64 name && fits 16 cog && fits 16 sog
  | .headingFrame name head => fits 64 name && fits 16 head
  | .machineSpeedFrame name _ => fits 64 name
  | .bomGnssLost => true
  | .distSourceTimeout => true
  | .gyroBiasEstimate _ => true
  | .masterWrite _ => true
  | .rowEnableWrite _ _ => true
  | .coverageMarkCommit => true
  | .jobOpenKeep => true
  | .jobOpenClear => true
  | .jobCloseSave => true
  | .jobSaveNow => true
  | .jobSavePeriodic => true
  | .bomJobSaved _ => true
  | .boundariesWrite b => bytesOk b
  | .rxGridWrite b => bytesOk b
  | .chainBuild _ => true
  | .chainReturn _ _ frame => bytesOk frame
  | .chainReturnTimeout _ => true
  | .chainStart _ => true
  | .chainStop _ => true
  | .chainLearn _ => true
  | .mailboxRead => true
  | .mailboxWrite => true
  | .bomMbxTimeout => true
  | .canBusOff _ => true
  | .busOffRecovery _ => true
  | .netEthLink _ => true
  | .unitDiscard => true
  | .read _ _ session seq index sub off mac => objectOk session seq index sub && fits 32 off && macOk session mac
  | .write _ _ session seq index sub data mac _ => objectOk session seq index sub && bytesOk data && macOk session mac
  | .writeSeg _ _ session seq index sub off _ data mac _ => objectOk session seq index sub && fits 32 off && bytesOk data && macOk session mac
  | .stagingTimeout _ => true
  | .challenge _ _ seq role nc nd => fits 32 seq && fits 8 role && blockOk 8 nc && blockOk 8 nd
  | .auth _ _ session seq tag => fits 8 session && fits 32 seq && blockOk 16 tag
  | .authTimeout _ => true
  | .close _ _ session seq mac => fits 8 session && fits 32 seq && macOk session mac
  | .keepalive _ _ session seq mac => fits 8 session && fits 32 seq && macOk session mac
  | .sessionIdleTimeout _ => true
  | .sourceBarExpiry _ _ => true
  | .closeSession _ => true
  | .addressClaimStart => true
  | .netAddrClaimed => true
  | .addressContention name => fits 64 name
  | .peerAddressClaim addr name => fits 8 addr && fits 64 name
  | .tcStatusMessage name => fits 64 name
  | .netTcLost => true
  | .tcProcessData name _ _ _ => fits 64 name
  | .tcDdopUploadDone => true
  | .notifyScan => true
  | .notifyTransmit _ => true
  | .courierWrite _ _ data => bytesOk data
  | .courierCancel _ => true
  | .resetCmd => true
  | .resetCmdExecute => true
  | .nfaultPulseEnd => true
  | .nfaultLevelWrite _ => true
  | .postmarkAck _ => true
  | .nop => true
  | .writeUnit bytes => bytesOk bytes && decide (12 ≤ bytes.length) && decide (bytes.length ≤ 1048)
  | .readUnit _ => true
  | .directRead ref => fits 24 ref
  | .readData _ => true
  | .hspBadCmd cmd => fits 8 cmd && decide (4 < cmd)
  | .hspAbort cmd len _ => fits 8 cmd && fits 13 len
  | .hspBufferFilled => true
  | .hspUnitTaken _ => true
  | .daisyFrameLatch bits words => fits 16 bits && bytesOk words
  | .spStart _ _ => true
  | .spDescriptorEnd _ _ => true
  | .spQueueWrite _ _ b => bytesOk b
  | .flashLineFill _ cipher => bytesOk cipher
  | .flashCommandEnd _ => true
  | .memWriteBack _ _ _ _ => true
  | .scrubStep _ _ => true
  | .bucketLeak _ => true
  | .mRecordStore _ => true
  | .otpProgram _ _ => true
  | .otpLock _ _ => true
  | .otpReissue _ _ => true
  | .otpCommandEnd _ _ => true
  | .kintWrite b _ => bytesOk b
  | .lcCtrl _ _ => true
  | .lcStepProgram _ => true
  | .shadowCompare _ => true
  | .imageConfirm => true
  | .imgBegin _ => true
  | .imgEraseEnd => true
  | .imgBlock _ b _ => bytesOk b
  | .imgFinish _ => true
  | .imgAbort _ => true
  | .eventDelivery => true
  | .quietPeriodEnd code _ => fits 16 code
  | .recentWindowExpiry => true
  | .lockoutClear => true
  | .safeInAssert => true
  | .safeInRelease => true
  | .faultInject => true
  | .injectionTimeout => true
  | .faultLogCopy => true
  | .dieTempSample _ _ => true
  | .slowTempSample _ _ _ => true
  | .throttlePauseEnd _ => true
  | .vsupPowerOn _ => true
  | .vsupBrownOut _ => true
  | .vsupLoss _ => true
  | .vsupLowRange _ => true
  | .vsupHighRange _ => true
  | .vsupOvervoltage _ => true
  | .keyOnRise => true
  | .keyOnFall => true
  | .resetRelease => true
  | .startSequence _ => true
  | .serviceReady => true
  | .sysPowerReady => true
  | .recipeStore _ => true
  | .keyoffDelayEnd => true
  | .shutdownDisconnect => true
  | .shutdownSave => true
  | .sleepEnter => true
  | .shutdownForced => true
  | .supplyOverload _ => true
  | .supplyRetry _ => true
  | .statusFrame => true
  | .traceFrameSend => true
  | .traceArm => true
  | .traceStop => true
  | .traceClear => true
  | .tracePostDone => true
  | .traceExportDone => true
  | .traceChannelSample _ => true
  | .contactorPullInEnd _ => true
  | .contactorOpenConfirmed _ => true
  | .mapRebuildDone => true
  | .arpRequest ip => fits 32 ip
  | .icmpEchoRequest ip payload => fits 32 ip && bytesOk payload
  | .vsupRangeReturn _ => true
  | .gateUvloEnd _ => true

end Sys2Proof
end

