-- ==== Sys2Proof/Safety.lean ====
section
/-! DEFINITION. What statements about the E960 are written in: the status objects that are computed at every step and what it means that
they agree with what the E960 holds, an event raised, a fault in force, and a command that completes. -/

namespace Sys2Proof.Machine

/-- The status objects that are computed anew at every step: service level, domain states, Safe-state, the faults in force and their number,
nFAULT, the notification pool, the mirrors of R546 and the counts of R602. -/
def isStatus (k : Nat) : Bool :=
  k == Obj.SERVICE_LEVEL || k == Obj.SAFE_STATE || k == Obj.FAULTS_ACTIVE || (decide (Obj.DOMAIN_STATE ≤ k) && decide (k < Obj.DOMAIN_STATE + 9)) ||
    k == Obj.NFAULT_LEVEL || k == Obj.PIN || (decide (Obj.ACTIVE ≤ k) && decide (k < Obj.ACTIVE + 64)) || k == Obj.POOL_USED || k == Obj.POOL_FREE ||
    k == Obj.LE8_HOSTS_2540 || k == Obj.ENGINE_MOVES || k == Obj.PIGEONHOLES_USED_2540 || k == Obj.WORDS_PERM_POISONED ||
    k == Obj.OTP_SPARES_CONSUMED || k == Obj.SPARE_CHANNELS_USED || k == Obj.SLOTS_IN_USE || k == Obj.USER_SLOTS_IN_USE

/-- The counts that a traced event advances (R570, R572). -/
def isTraceCount (k : Nat) : Bool := k == Obj.RECORDS_WRITTEN || k == Obj.RECORDS_LOST

/-- The status objects agree with what the E960 holds (R409, R427, R510, R514). -/
structure Dev.Settled (d : Dev) : Prop where
  safe : d.o Obj.SAFE_STATE = d.safeState
  count : d.o Obj.FAULTS_ACTIVE = d.inOrder.length
  service : d.o Obj.SERVICE_LEVEL = d.serviceLevel
  domains : ∀ dom : Domain, d.o (el Obj.DOMAIN_STATE dom.num) = d.domainState dom
  active : ∀ i < 64, d.o (Obj.ACTIVE + i) = ((d.inOrder.getD i 0 : Nat) : Int)
  pool : d.o Obj.POOL_FREE + d.o Obj.POOL_USED = 128

/-- Event `e` has been raised in the present tick and waits for the sorting office (R507). -/
def Dev.raised (d : Dev) (e : Nat) : Prop := d.wall * 256 + e ∈ d.evq

/-- A fault of this code acts on this domain (R508, R510). -/
def Dev.inForce (d : Dev) (code : Nat) (dom : Domain) : Prop := ∃ f ∈ d.coll.active, f.code = code ∧ f.acts = dom

/-- The command `c` completes on `s`, the queue stays, and the E960 is then as `p` says. -/
def Completes (c : Instr) (s : State) (p : Dev → Prop) : Prop :=
  ∃ t, exec c s = .next t ∧ t.pending = s.pending ∧ p t.dev

/-- Every object but those of `ks` and the status objects reads in `e` as in `d`. -/
structure OnlyObjects (ks : Nat → Bool) (d e : Dev) : Prop where
  same : ∀ k, ks k = false → isStatus k = false → e.o k = d.o k

/-- The objects that the stop of a traction machine, a bus converter or the grid port writes (R150 to R152, R225, R513). -/
def stopKeys : List Nat :=
  [Obj.TORQUE_CMD, Obj.DBETA, Obj.M_PRESENT, Obj.OM_ZONE, Obj.V_D, Obj.V_Q, Obj.RUN_4240, Obj.ACTIVE_PATTERN, Obj.BRIDGE_STATE, Obj.ASC_CAUSE,
    Obj.ASC_ENTRIES].flatMap (fun k => [tk .A k, tk .B k]) ++
  [Obj.STATE_5400, Obj.PHI, Obj.I_LIMIT_5400, Obj.LIMIT_SRC_5400].flatMap (fun k => [ck .dca k, ck .dcb k]) ++
  [0, 1, 16, 17, 48, 49, 50, 51, 52, 64, 65, 66, 67, 68].map (at' Obj.ENABLE_A100) ++
  [Obj.STATE_5000, Obj.S2, Obj.I_LIMIT_5000, Obj.LIMIT_SRC_5000, Obj.PRE_STATE, Obj.CHOP_STATE, Obj.MASTER]

/-- The objects that the reaction to a fault writes beside the status objects: postmark, LOG_TOTAL, the trace counts and what its stops
show (R511, R513, R516). -/
def isReaction (k : Nat) : Bool :=
  isTraceCount k || k == Obj.LOG_TOTAL || (0x2210 ≤ keyIdx k && keyIdx k ≤ 0x2217) || stopKeys.contains k ||
    (0x5810 ≤ keyIdx k && keyIdx k ≤ 0x5813 && (keySub k == 8 || keySub k == 9)) || (0x7100 ≤ keyIdx k && keyIdx k ≤ 0x7103 && keySub k == 1) ||
    keyIdx k == 0x6020 || keyIdx k == 0x8014

/-- The objects that the end of a session writes (R391, R396, R502): its own, the enable of its maps and IMG_STATE. -/
def isSession (k : Nat) : Bool :=
  keyIdx k == keyIdx Obj.SESSION_STATE || keyIdx k == keyIdx Obj.SESSION_ROLE || keyIdx k == keyIdx Obj.SESSION_PATH ||
    keyIdx k == keyIdx Obj.SESSION_PEER || k == Obj.IMG_STATE ||
    (0x1800 ≤ keyIdx k && keyIdx k < 0x1840 && keySub k == keySub Obj.ENABLE_1800)

/-- The objects of the loop slots (R163). -/
def loopKey (k : Nat) : Bool := decide (0xA100 ≤ keyIdx k) && decide (keyIdx k < 0xA500)

/-- Dead time and blanking in force of gate group `g + 1` (R268). -/
def timesKey (g k : Nat) : Bool := k == at' Obj.DT_NOW g || k == at' Obj.BLANK_NOW g

/-- The objects of traction machine `m`: its chapters, its angle track and its sources, its group's times and the loop slots (R36, R55, R69). -/
def tracKey (m : Mach) (k : Nat) : Bool :=
  keyIdx k / 0x800 == 8 + mnum m || keyIdx k == keyIdx (angOf m).valueKey || keyIdx k == 0x3430 + mnum m || loopKey k || timesKey (mnum m) k

/-- The objects of the grid port: its chapter, MAINS, its group's times and the loop slots. -/
def gridKey (k : Nat) : Bool := keyIdx k / 256 == 0x50 || keyIdx k == keyIdx Obj.VALUE + 3 || loopKey k || timesKey 2 k

/-- The objects of converter `c`: its chapter, its groups' times and the loop slots. -/
def dabKey (c : Conv) (k : Nat) : Bool :=
  keyIdx k / 256 == 0x54 + cnum c || loopKey k || timesKey (3 + 2 * cnum c) k || timesKey (4 + 2 * cnum c) k

/-- The objects of the actuators' chapters and the tracks AX0 to AX7. -/
def actKey (k : Nat) : Bool := keyIdx k / 0x800 == 14 || (decide (0x3008 ≤ keyIdx k) && decide (keyIdx k ≤ 0x300F))

/-- The objects of ground, boom and chains, the tracks GND and ROW, and the compare slots, some of which switch sections. -/
def bomKey (k : Nat) : Bool :=
  keyIdx k / 0x1000 == 8 || keyIdx k / 0x1000 == 9 || keyIdx k == keyIdx TrackId.gnd.valueKey || (decide (0x3010 ≤ keyIdx k) && decide (keyIdx k ≤ 0x3013)) ||
    (decide (0x3200 ≤ keyIdx k) && decide (keyIdx k < 0x3400))

/-! ### What a command can change -/

/-- What an event and a written object change: objects, events and the trace. -/
structure Shown where
  obj : Tab Int
  evq : List Nat
  trace : List TraceRec
  tracePost : Nat
  traceLost : Nat

/-- `e` is `d` but for objects, events and the trace, and no event that waited is lost. -/
def Dev.ShowsOnly (d e : Dev) : Prop :=
  (∃ p : Shown, e = { d with obj := p.obj, evq := p.evq, trace := p.trace, tracePost := p.tracePost, traceLost := p.traceLost }) ∧
    ∀ x ∈ d.evq, x ∈ e.evq

/-- What the reaction to a fault changes: objects, events, the trace, and what it stops. -/
structure Stopped where
  obj : Tab Int
  evq : List Nat
  trace : List TraceRec
  tracePost : Nat
  traceLost : Nat
  trac : Tab Trac
  openRequest : Bool
  link : Link
  ctrs : Tab Ctr
  dabs : Tab Dab
  grid : Grid
  loops : Tab Loop

/-- `e` is `d` but for what the reaction to a fault changes, and no event that waited is lost. -/
def Dev.StopsOnly (d e : Dev) : Prop :=
  (∃ p : Stopped, e = { d with
    obj := p.obj,
    evq := p.evq,
    trace := p.trace,
    tracePost := p.tracePost,
    traceLost := p.traceLost,
    trac := p.trac,
    openRequest := p.openRequest,
    link := p.link,
    ctrs := p.ctrs,
    dabs := p.dabs,
    grid := p.grid,
    loops := p.loops }) ∧ ∀ x ∈ d.evq, x ∈ e.evq

/-- `e` is `d` but for the collector and what the reaction to a fault changes. -/
def Dev.RaisesOnly (d e : Dev) : Prop := ∃ c : Collector, Dev.StopsOnly { d with coll := c } e

/-- What the end of sessions changes (R396, R502). -/
def Dev.SessEnd (d e : Dev) : Prop := ({ d with sessions := e.sessions, couriers := e.couriers, update := e.update } : Dev).ShowsOnly e

/-- The addressed stores are canonical: the object dictionary, its blocks and the fuse array list their keys strictly rising and no entry that
equals what an unlisted key reads as. -/
def Memory.wf (d : Dev) : Bool := Tab.wf dflt d.obj && Tab.wf blkDflt d.blk && Tab.wf (fun _ => 0) d.fuse.array

end Sys2Proof.Machine
end

