-- ==== Sys2Proof/Certificates/Slice0/Obligations.lean ====
section
/-! DEFINITION. The statements for the provers, and the small definitions that they are written in. -/

namespace Sys2Proof.Machine

/-- What a missing heartbeat of these engines raises (R21). -/
def heartbeatFault : Engine → Option (Nat × Domain)
  | .ms n => some (if n.val = 0 then (0x1404, .tra) else if n.val = 1 then (0x2404, .trb) else if n.val = 2 then (0x0604, .sys) else (0x7404, .act))
  | .ge | .ce0 | .ce1 => some (0x8404, .bom)
  | .svc => some (0x0604, .sys)
  | .sup | .le _ => none

/-- One execution of slot `L` with its own sources (R166, R167). -/
def slotSample (d : Dev) (L : Nat) : PidOut :=
  pidStep { c := d.coef L, dMode := d.o (lk Obj.D_MODE L), outMin := d.o (lk Obj.OUT_MIN L), outMax := d.o (lk Obj.OUT_MAX L),
            iAcc := d.o (lk Obj.INTEGRATOR L), d := d.o (lk Obj.DERIV L), xPrev := (d.loopOf L).xPrev, halve := (d.loopOf L).halve }
    (d.o (lk Obj.SETPOINT L)) (d.refValue (d.n (lk Obj.FB_SOURCE L)))

/-- The duty of BLDC group `g` during the align of a start with I_DC at `i` mA and VLV at `v` (R297, R298, R301). -/
def alignDuty (d : Dev) (g v : Nat) (i : Int) : Int :=
  let w := d.setO Obj.VLV (min 65535 v : Nat)
  let u := (lvPi (d.o (at' Obj.KP_I_7100 g)) (d.o (at' Obj.KI_I_7100 g)) (min (d.bldcLimit g : Int) (100 * d.o (at' Obj.ALIGN_I g)) - i)
    (d.n Obj.LV_F_PWM) (d.bldcOf g).integ 0 (w.n Obj.VLV * 10000000 : Nat)).1
  w.minOn (min 10000 (w.dutyOf u)) (d.n Obj.LV_DEAD + d.n (at' Obj.ZC_DELAY g) + d.n (at' Obj.SH_WIN g))

/-- The electrical rate of the open-loop ramp of BLDC group `g` at the present WALL (R301). -/
def rampRate (d : Dev) (g : Nat) : Int :=
  let t := min ((d.wall - (d.bldcOf g).rampAt : Nat) : Int) (d.o (at' Obj.RAMP_TIME g) * 1000000)
  (d.bldcOf g).dir * (d.o (at' Obj.RAMP_F_START g) * 65536 +
    (d.o (at' Obj.RAMP_F_END g) - d.o (at' Obj.RAMP_F_START g)) * 65536 * t / max 1 (d.o (at' Obj.RAMP_TIME g) * 1000000))

/-- The three half-bridges of BLDC group `g` drive sector `x`: its PWM phase high, its low phase low, the third off (R296). -/
def drives (e : Dev) (g x : Nat) : Prop :=
  bitOf (e.o (el Obj.HB_STATUS (17 + 3 * g + (sectorPhases x).1))) 0 = true ∧ bitOf (e.o (el Obj.HB_STATUS (17 + 3 * g + (sectorPhases x).1))) 1 = false ∧
  bitOf (e.o (el Obj.HB_STATUS (17 + 3 * g + (sectorPhases x).2.1))) 0 = false ∧ bitOf (e.o (el Obj.HB_STATUS (17 + 3 * g + (sectorPhases x).2.1))) 1 = true ∧
  bitOf (e.o (el Obj.HB_STATUS (17 + 3 * g + (sectorPhases x).2.2))) 0 = false ∧ bitOf (e.o (el Obj.HB_STATUS (17 + 3 * g + (sectorPhases x).2.2))) 1 = false ∧
  (e.bldcOf g).sector = x

/-- Every switch of BLDC group `g` is off, and DUTY and SPEED read 0 (R302, R304). -/
def coasts (e : Dev) (g : Nat) : Prop :=
  (∀ n ∈ hbsOf (4 + g), bitOf (e.o (el Obj.HB_STATUS n)) 0 = false ∧ bitOf (e.o (el Obj.HB_STATUS n)) 1 = false) ∧ e.o (at' Obj.DUTY g) = 0 ∧
  e.o (at' Obj.SPEED_7100 g) = 0 ∧ e.b (lk Obj.ENABLE_A100 (bldcLoop g)) = false ∧ e.b (axTrack (4 + g)).validKey = false

/-- The objects of BLDC group `g` and its track and loop that its stops, starts and sectors write. -/
def bldcKey (g k : Nat) : Bool :=
  keyIdx k == 0x7000 || keyIdx k == 0x7100 + g || k == (axTrack (4 + g)).validKey || k == (axTrack (4 + g)).rateKey || k == (axTrack (4 + g)).valueKey ||
    k == (axTrack (4 + g)).dirKey || k == lk Obj.ENABLE_A100 (bldcLoop g) || isTraceCount k

/-- The bytes of a response (R389, R390): the header with OP plus 0x80, the result code and the data. -/
def replyBytes (op session seq index sub result : Nat) (data : Bytes) (end_ : Bool) : Bytes :=
  unitHeader (op + 128) session (4 + data.length) (if end_ then 1 else 0) seq index sub ++ leBytes 4 (result : Int) ++ data

/-- A response with its MAC under the session's key (R395). -/
def replyMac (key : Bytes) (op session seq index sub result : Nat) (data : Bytes) (end_ : Bool) : Bytes :=
  replyBytes op session seq index sub result data end_ ++
    unitMac key 1 (unitHeader (op + 128) session (4 + data.length) (if end_ then 1 else 0) seq index sub) (leBytes 4 (result : Int) ++ data)

/-- Session `n` is open, of this path and source, has answered no unit of this SEQ or a later one, and waits for no courier (R392, R395). -/
def openFor (d : Dev) (path : Path) (source n seq : Nat) : Bool :=
  decide (1 ≤ n) && decide (n ≤ 8) && d.sessState n == 2 && d.n (el Obj.SESSION_PATH n) == pathNum path && d.n (el Obj.SESSION_PEER n) == source &&
    (d.sess n).seq.all (fun q => decide (q < seq)) && !(d.outstanding n) && decide (seq < 4294967295) && !(d.portOff path)

/-- The MAC of a request of session `n` (R395). -/
def macOf (d : Dev) (op n : Nat) (last : Bool) (seq index sub : Nat) (data : Bytes) : Bytes :=
  unitMac (d.sess n).key 0 (unitHeader op n data.length (if last then 2 else 0) seq index sub) data

/-- The port answers and runs in this mode (R433, R434). -/
def hspOn (d : Dev) (mode : Int) : Bool := d.phase == .service && !(d.portOff .hsp) && d.o Obj.HSP_MODE == mode

/-- The status byte: RESP_READY, REQ_FREE, RD_READY, END, POISON, ABORTED and SAFE in bits 7 to 1 (R434). -/
def statusBits (d : Dev) : Nat :=
  (if d.hsp.resp = [] then 0 else 128) + (if d.hsp.free = true then 64 else 0) + (if d.hsp.ready = true then 32 else 0) + (if d.hsp.end_ = true then 16 else 0) +
    (if d.hsp.poison = true then 8 else 0) + (if d.hsp.aborted = true then 4 else 0) + (if d.o Obj.SAFE_STATE = 1 ∨ d.o Obj.SAFE_STATE = 2 then 2 else 0)

/-- The port after a status byte has been shifted out in full, with `out` on HSP_MISO (R434). -/
def hspAfter (d : Dev) (out : Bytes) : Hsp := { d.hsp with end_ := false, poison := false, aborted := false, out := out }

/-- The route word of event `e` (R506). -/
def routeOf (d : Dev) (e : Nat) : Int := if e < 128 then d.o (el Obj.ROUTE (e + 1)) else d.o (el Obj.ROUTE_HI (e - 127))

/-- The argument of the routes of event `e` (R506). -/
def routeArg (d : Dev) (e : Nat) : Nat := if e < 128 then d.n (el Obj.ROUTE_ARG (e + 1)) else d.n (el Obj.ROUTE_ARG_HI (e - 127))

/-- What a quiet ledger period meets: no write, courier, fault, discharge, precharge or tier, and a chopper at rest and cold, and no domain of SHIFT_DOMAINS (R186). -/
def linkQuiet (d : Dev) (i : LinkIn) : Bool :=
  d.writes.isEmpty && d.couriers.isEmpty && d.coll.active.isEmpty && !d.tier3 && !d.tier4 && !d.openRequest && d.link.job.isNone && d.link.discharge == 0 &&
    !d.link.tier2 && d.link.energy == 0 && i.chopEnergy == 0 && !d.link.hot && !d.link.on && !d.link.reg && !d.chopFaulty && !d.link.faultShown &&
    decide (16384 * i.vdc < d.n Obj.STEER * d.n Obj.VDC_MAX * 10) && !(d.feedOf 0).lost && !(d.feedOf 1).lost && d.o Obj.SHIFT_DOMAINS == 0 &&
    (decide (10 * d.n Obj.V_UV < i.vdc) || d.link.underVolt)

/-- The objects that a quiet ledger period shows (R191, R184, R205, R268, R584). -/
def ledgerShows (k : Nat) : Bool :=
  k == Obj.VDC || k == Obj.PERIODS || k == Obj.IMP || k == Obj.SINK || k == Obj.CHOP_CAP || k == Obj.L_DN || k == Obj.L_UP || k == Obj.V_REF || k == Obj.SOURCES ||
    (0x2410 ≤ keyIdx k && keyIdx k ≤ 0x2414) || k == Obj.CHOP_ENERGY || k == Obj.CHOP_STATE || k == Obj.OV_TIER || k == Obj.SUPPLY_STATE || k == Obj.SHIFT_STATE ||
    (keyIdx Obj.DT_NOW ≤ keyIdx k && keyIdx k < keyIdx Obj.DT_NOW + 9 && (keySub k == keySub Obj.DT_NOW || keySub k == keySub Obj.BLANK_NOW))

/-- No gate channel has a TS input in use (R536). -/
def noTs (d : Dev) : Bool := (List.range 40).all (fun n => d.groupOf (n + 1) == 0 || d.o (at' Obj.TS_TYPE (d.groupOf (n + 1) - 1)) == 0)

/-- The objects that a reset does not return to their defaults: pins, postmarks and latches, counters since manufacture and meters, the traction
bridges and their ASC, the confirmed mains, an open job and what the reset itself shows (R155, R516, R526, R553, R556, R558). -/
def resetKeeps (k : Nat) : Bool :=
  [Obj.KEY_ON, Obj.DRIVE_EN, Obj.SAFE_IN, Obj.VSUP, Obj.RESETS, Obj.RESET_CAUSE, Obj.LOG_GAPS, Obj.E_UNLOGGED_MAX, Obj.PIN, Obj.E_IMPORT, Obj.E_EXPORT,
    Obj.SAR_SPARES_USED, Obj.JOB_STATE, Obj.LINK_CTRL, Obj.PRE_STATE].contains k ||
    [Obj.BRIDGE_STATE, Obj.ABOVE_ASC, Obj.ASC_CAUSE, Obj.ASC_ENTRIES].any (fun x => k == tk .A x || k == tk .B x) ||
    (0x2210 ≤ keyIdx k && keyIdx k ≤ 0x2214) || keyIdx k == keyIdx Obj.STATUS_6020 || keyIdx k == keyIdx Obj.HB_STATUS ||
    (0x5810 ≤ keyIdx k && keyIdx k ≤ 0x5813 && (keySub k == keySub Obj.STATE_5810 || keySub k == keySub Obj.ROLE_5810)) || (findDef k).any (fun r => r.mfg)

/-- A reset of this cause into this phase: sessions, couriers, delivered writes, slots, tracks, marks, trace and faults are gone; fuses, image
slots and the recipe stay (R51, R424, R467, R526, R553, R556). -/
abbrev ResetDone (d : Dev) (cause : Nat) (ph : Phase) (e : Dev) : Prop :=
  e.phase = ph ∧ e.o Obj.RESET_CAUSE = cause ∧ e.wall = 0 ∧ e.writes = [] ∧ e.sessions = [] ∧ e.couriers = [] ∧ e.slots = [] ∧ e.tracks = [] ∧ e.poison = [] ∧ e.mems = [] ∧
    e.trace = [] ∧ e.evq = [] ∧ e.notes = [] ∧ e.pool = [] ∧ e.resetPending = false ∧ e.coll.active = [] ∧ e.fuse.array = d.fuse.array ∧ e.slotsAB = d.slotsAB ∧
    e.kept.recipe = d.kept.recipe ∧ e.kept.blocks = d.kept.blocks

/-- Every other object is at its default. -/
def ResetObjects (e : Dev) : Prop := ∀ k, resetKeeps k = false → isStatus k = false → e.o k = dflt k

/-- The copied counters are counters since manufacture. -/
def countsOk (d : Dev) : Bool := d.kept.counts.all (fun x => (findDef x.1).any (fun r => r.mfg))

/-- The bytes of the ordering code SHE960-D1 (R9). -/
def codeD1 : Bytes := [83, 72, 69, 57, 54, 48, 45, 68, 49]

end Sys2Proof.Machine

open Sys2Proof Sys2Proof.Machine

/-- The queue of commands: a step gives the first waiting command its effect on the state whose queue holds the rest. That an empty queue idles is log
entry 1, the model's choice. -/
def Obligations.StepRunsFrontCommand : Prop :=
  (∀ (s : State) (c : Instr) (rest : List Instr), s.pending = c :: rest → Sys2Proof.Machine.step s = exec c { s with pending := rest }) ∧
    ∀ s : State, s.pending = [] → Sys2Proof.Machine.step s = .next s

/-- No command ends in a fault or a refusal, and none touches the queue. -/
def Obligations.EveryCommandAnswers : Prop :=
  ∀ (c : Instr) (s : State), ∃ t, exec c s = .next t ∧ t.pending = s.pending

/-- The status objects of R409, R427, R510 and R514 agree with the faults, domains and notifications that the E960 holds. That they do so after every
command and not at an owner's later update is log entry 10, the model's choice. -/
def Obligations.EveryStepSettles : Prop :=
  ∀ s t : State, s.dev.Settled → Sys2Proof.Machine.step s = .next t → t.dev.Settled

/-- R506: the default routes. The rest is log entries 11 and 12: the status objects agree, and every object but RESETS and PIN stands at its default. -/
def Obligations.ResetSettled : Prop :=
  (∀ e < 256, routeOf State.reset.dev e = if 0xF8 ≤ e then 0 else if e ∈ [0x00, 0x01, 0x04, 0x05, 0x10, 0x84] then 0x21 else 0x01) ∧
  State.reset.dev.Settled ∧ State.reset.pending = [] ∧ State.reset.dev.wall = 0 ∧ State.reset.dev.sessions = [] ∧ State.reset.dev.slots = [] ∧ State.reset.dev.coll.active = [] ∧
    State.reset.dev.hsp.free = true ∧ State.reset.dev.o Obj.RESETS = 1 ∧ State.reset.dev.o Obj.PIN = 1 ∧
    ∀ k, k ≠ Obj.RESETS → k ≠ Obj.PIN → State.reset.dev.o k = dflt k

/-- The reactions of the supervisor pair and of the holder (R21 to R26). That the phase leaves service when the service pair is dead is log entry 14. -/
def Obligations.SupervisorReactions : Prop :=
  (∀ (s : State) (e : Engine) (code : Nat) (dom : Domain), s.dev.alive = true → engineCode e ∉ s.dev.dead →
    heartbeatFault e = some (code, dom) →
    Completes (.heartbeatMissing e) s (fun d => engineCode e ∈ d.dead ∧ d.raised 0x03 ∧ d.inForce code dom ∧
      ({ s.dev with dead := d.dead, phase := d.phase } : Dev).RaisesOnly d ∧ (d.phase = if e = .svc then .engines else s.dev.phase))) ∧
  (∀ s : State, s.dev.alive = true →
    Completes .svcLockstepMismatch s (fun e => e.raised 0x01 ∧ e.inForce 0x0602 .sys ∧
      (∀ n, 1 ≤ n → n ≤ 8 → e.sess n = {} ∧ e.o (el Obj.SESSION_STATE n) = 0) ∧
      ({ s.dev with sessions := e.sessions, couriers := e.couriers, update := e.update } : Dev).RaisesOnly e ∧
      OnlyObjects (fun k => isReaction k || isSession k) s.dev e)) ∧
  (∀ s : State, s.dev.alive = true →
    Completes .supLockstepMismatch s (fun e => e.raised 0x00 ∧ e.inForce 0x0801 .sys ∧
      ({ s.dev with power := { s.dev.power with due := true } } : Dev).RaisesOnly e ∧ OnlyObjects isReaction s.dev e)) ∧
  (∀ (s : State) (ppm : Int), s.dev.alive = true → s.dev.power.rc = false → 20000 < ppm.natAbs →
    Completes (.clockCompare ppm) s (fun e => e.o Obj.CLOCK_FALLBACKS = satU32 (s.dev.o Obj.CLOCK_FALLBACKS + 1) ∧ e.raised 0x02 ∧ e.inForce 0x0203 .sys ∧
      e.inForce 0x348B .grd ∧ ({ s.dev with power := { s.dev.power with rc := true } } : Dev).RaisesOnly e ∧
      OnlyObjects (fun k => k == Obj.CLOCK_FALLBACKS || isReaction k) s.dev e)) ∧
  (∀ s : State, s.dev.alive = true → s.dev.power.alone = false →
    Completes .supervisorHeartbeatTimeout s (fun e => e.raised 0x04 ∧ (∃ f ∈ e.coll.held, f.code = 0x0605) ∧ e.o Obj.SAFE_STATE ≠ 0 ∧
      ({ s.dev with power := { s.dev.power with alone := true, due := true } } : Dev).RaisesOnly e ∧ OnlyObjects isReaction s.dev e)) ∧
  (∀ s : State, s.dev.alive = true → s.dev.power.due = true →
    Completes .holderSupervisorReset s (fun e => e.phase = .inReset ∧ e.o Obj.RESET_CAUSE = 5 ∧ e.wall = 0 ∧ e.sessions = [] ∧ e.writes = [] ∧
      e.poison = [] ∧ e.coll.active = [] ∧ e.fuse.array = s.dev.fuse.array ∧ e.slotsAB = s.dev.slotsAB ∧ e.kept.recipe = s.dev.kept.recipe))

/-- Spares of the converters and the links of the HV sense nodes. That a good frame ends a loss and that the fault's cause number is a free value are
log entries 110 and 2. -/
def Obligations.SparesAndLinks : Prop :=
  (∀ (s : State) (g : Fin 3) (c : Fin 7) (diff : Int), s.dev.alive = true → bitOf (s.dev.o Obj.SAR_SPARES_USED) g = false →
    (diff.natAbs ≤ 50 → Completes (.sarSpareCompare g c diff) s (fun e => Tab.get 0 e.sar (8 * g + c) = 0 ∧
      ({ s.dev with sar := e.sar } : Dev).ShowsOnly e ∧ OnlyObjects (fun _ => false) s.dev e)) ∧
    (50 < diff.natAbs → Tab.get 0 s.dev.sar (8 * g + c) < 2 → Completes (.sarSpareCompare g c diff) s (fun e =>
      Tab.get 0 e.sar (8 * g + c) = Tab.get 0 s.dev.sar (8 * g + c) + 1 ∧
      ({ s.dev with sar := e.sar } : Dev).ShowsOnly e ∧ OnlyObjects (fun _ => false) s.dev e)) ∧
    (50 < diff.natAbs → 2 ≤ Tab.get 0 s.dev.sar (8 * g + c) → Completes (.sarSpareCompare g c diff) s (fun e =>
      e.o Obj.SAR_SPARES_USED = putBit (s.dev.o Obj.SAR_SPARES_USED) g true ∧ e.block Obj.SAR_RETIRED = (s.dev.block Obj.SAR_RETIRED).set g c ∧
      e.raised 0x0D ∧ ({ s.dev with sar := e.sar, blk := e.blk, kept := e.kept } : Dev).RaisesOnly e ∧
      OnlyObjects (fun k => k == Obj.SAR_SPARES_USED || isReaction k) s.dev e))) ∧
  (∀ (s : State) (h : Fin 6) (values : List Int), s.dev.alive = true →
    Completes (.hnMonitorFrame h values) s (fun e => Tab.get [] e.monitor h = values ∧ Tab.get 0 e.hnBad h = 0 ∧ h.val ∉ e.hnLost ∧
      ({ s.dev with monitor := e.monitor, hnBad := e.hnBad, hnLost := e.hnLost } : Dev).RaisesOnly e ∧ OnlyObjects (fun _ => false) s.dev e)) ∧
  (∀ (s : State) (h : Fin 6), s.dev.alive = true → Tab.get 0 s.dev.hnBad h < 3 →
    Completes (.hnBadFrame h false) s (fun e => Tab.get 0 e.hnBad h = Tab.get 0 s.dev.hnBad h + 1 ∧ Tab.get 0 e.hnCount h = Tab.get 0 s.dev.hnCount h + 1 ∧
      ({ s.dev with hnBad := e.hnBad, hnCount := e.hnCount } : Dev).ShowsOnly e ∧ OnlyObjects (fun _ => false) s.dev e)) ∧
  (∀ (s : State) (h : Fin 6) (w : Bool), s.dev.alive = true → 3 ≤ Tab.get 0 s.dev.hnBad h → h.val ∉ s.dev.hnLost →
    Completes (.hnBadFrame h w) s (fun e => h.val ∈ e.hnLost ∧ (∃ code, e.inForce code (codeDomain (h.val + 1)) ∧ faultDomain code = h.val + 1 ∧
      faultClass code = if h.val = 5 then 3 else 2))) ∧
  (∀ (s : State) (m : Mach), s.dev.alive = true → Tab.get 0 s.dev.hnBad (mnum m) < 3 →
    Completes (.hnBadFrame (if m = .A then 0 else 1) true) s (fun e => e.raised (0x3C + if m = .A then 0 else 0x20) ∧
      e.o (tk m Obj.WINDOWS_LOST) = satU32 (s.dev.o (tk m Obj.WINDOWS_LOST) + 1))) ∧
  (∀ (s : State) (h : Fin 6), s.dev.alive = true → h.val ∉ s.dev.hnLost →
    Completes (.hnLinkLost h) s (fun e => h.val ∈ e.hnLost ∧ (∃ code, e.inForce code (codeDomain (h.val + 1)) ∧ faultDomain code = h.val + 1 ∧
      faultClass code = if h.val = 5 then 3 else 2) ∧ ({ s.dev with hnLost := e.hnLost } : Dev).RaisesOnly e ∧ OnlyObjects isReaction s.dev e)) ∧
  (∀ (s : State) (m : Mach) (p : Fin 3) (neg : Bool) (y : Int) (theta : Nat), s.dev.alive = true → s.dev.n (tk m Obj.BRIDGE_STATE) = 1 →
    Completes (.hnWindowResult (if m = .A then 0 else 1) false p neg y theta) s (fun e =>
      (e.tracOf m).windows.head? = some { phase := p, y := (if neg then -1 else 1) * (y - (s.dev.tracOf m).offMean / 64), theta := theta % 65536, age := 0 } ∧
      (e.tracOf m).windows.tail = (s.dev.tracOf m).windows ∧
      ({ s.dev with trac := e.trac, hnBad := e.hnBad, hnLost := e.hnLost } : Dev).RaisesOnly e ∧ OnlyObjects (fun _ => false) s.dev e)) ∧
  (∀ (s : State) (h : Fin 6) (off : Bool) (p : Fin 3) (neg : Bool) (y : Int) (theta : Nat), s.dev.alive = true → 2 ≤ h.val →
    Completes (.hnWindowResult h off p neg y theta) s (fun e => Tab.get 0 e.hnLast h = y ∧
      ({ s.dev with hnLast := e.hnLast, hnBad := e.hnBad, hnLost := e.hnLost } : Dev).RaisesOnly e ∧ OnlyObjects (fun _ => false) s.dev e))

/-- Updates of a track while no slot is armed and no accepted write waits. Each clause says what it takes from R47, R51, R52, R53, R54. Where the spec
leaves a point of these clauses open, the model's choice is log entry 18. -/
def Obligations.TrackUpdates : Prop :=
  (∀ (s : State) (t : TrackId) (v rate : Int), s.dev.alive = true → s.dev.slots = [] → s.dev.writes = [] → t ≠ .wall → (s.dev.trk t).started = false → 
    Completes (.trackSourceUpdate t v rate) s (fun e => e.o t.valueKey = t.wrap v ∧ e.o t.rateKey = rate ∧ e.o t.validKey = 1 ∧ e.raised 0xF5 ∧ ({ s.dev with tracks := e.tracks } : Dev).ShowsOnly e ∧
      OnlyObjects (fun k => k == t.valueKey || k == t.rateKey || k == t.validKey || isTraceCount k) s.dev e)) ∧
  (∀ (s : State) (t : TrackId) (v rate : Int), s.dev.alive = true → s.dev.slots = [] → s.dev.writes = [] → (t = .gnd ∨ (∃ k, t = .ax k) ∨ (∃ n, t = .row n)) → s.dev.b t.validKey = true → (s.dev.trk t).started = true → (s.dev.extrapolate t).o t.stepKey < (t.diff ((s.dev.extrapolate t).value t) v).natAbs → 
    Completes (.trackSourceUpdate t v rate) s (fun e => e.o t.valueKey = t.wrap v ∧ e.o t.rateKey = rate ∧ e.raised 0xF2 ∧ e.b t.validKey = true ∧ (e.trk t).holding = false ∧ ({ s.dev with tracks := e.tracks } : Dev).ShowsOnly e ∧
      OnlyObjects (fun k => k == t.valueKey || k == t.rateKey || k == t.dirKey || !t.isRow && k == at' Obj.JUMPS t.code || isTraceCount k) s.dev e)) ∧
  (∀ (s : State), s.dev.alive = true → s.dev.slots = [] → s.dev.writes = [] → 
    Completes (.trackExtrapolationTick .wall) s (fun e => e.wall = s.dev.wall + 10 ∧ e.o Obj.VALUE = s.dev.wall + 10 ∧ ({ s.dev with wall := e.wall } : Dev).ShowsOnly e ∧ OnlyObjects (fun k => k == Obj.VALUE) s.dev e)) ∧
  (∀ (s : State) (t : TrackId), s.dev.alive = true → s.dev.canLose t = true → t.isRow = false → s.dev.b t.validKey = true → 
    Completes (.trkInvalid t) s (fun e => e.o t.validKey = 0 ∧ e.o t.rateKey = 0 ∧ e.raised 0xF4 ∧ s.dev.ShowsOnly e ∧ OnlyObjects (fun k => k == t.validKey || k == t.rateKey || isTraceCount k) s.dev e)) ∧
  (∀ (s : State) (n : Fin 128), s.dev.alive = true → s.dev.b Obj.ROW_VALID = true → 
    Completes (.trkInvalid (.row n)) s (fun e => e.o Obj.ROW_VALID = 0 ∧ (∀ i < 128, e.o (el Obj.ROW_RATE (i + 1)) = 0) ∧ e.raised 0xF4 ∧ s.dev.ShowsOnly e ∧
      OnlyObjects (fun k => k == Obj.ROW_VALID || keyIdx k == keyIdx Obj.ROW_RATE || isTraceCount k) s.dev e)) ∧
  (∀ (s : State) (t : TrackId), s.dev.alive = true → (s.dev.canLose t = false ∨ s.dev.b t.validKey = false) → 
    Completes (.trkInvalid t) s (fun e => s.dev.ShowsOnly e ∧ OnlyObjects (fun _ => false) s.dev e)) ∧
  (∀ (s : State) (t : TrackId), s.dev.alive = true → s.dev.writes = [] → t ≠ .wall → s.dev.b t.validKey = false → 
    Completes (.trackExtrapolationTick t) s (fun e => ({ s.dev with tracks := e.tracks } : Dev).ShowsOnly e ∧ OnlyObjects (fun _ => false) s.dev e)) ∧
  (∀ (s : State) (t : TrackId), s.dev.alive = true → s.dev.slots = [] → s.dev.writes = [] → (t = .gnd ∨ (∃ k, t = .ax k) ∨ (∃ n, t = .row n)) → s.dev.b t.validKey = true → (s.dev.trk t).holding = false → (s.dev.trk t).limit = none → 
    Completes (.trackExtrapolationTick t) s (fun e => e.o t.valueKey = t.wrap (s.dev.o t.valueKey + (s.dev.o t.rateKey * ((s.dev.wall : Int) - (s.dev.trk t).at_) + (s.dev.trk t).rem) / 1000000000) ∧
      ({ s.dev with tracks := e.tracks } : Dev).ShowsOnly e ∧ OnlyObjects (fun k => k == t.valueKey || k == t.dirKey || isTraceCount k) s.dev e))

/-- Writes to a compare slot. What an accepted write does at the track's update has a statement of its own. Each clause says what it takes from R57,
R60, R61, R62, R66, R423. Where the spec leaves a point of these clauses open, the model's choice is log entry 46. -/
def Obligations.SlotCommands : Prop :=
  (∀ (s : State) (n : Fin 512), s.dev.alive = true → n.val < 416 → 
    Completes (.slotControlArm n) s (fun e => e.result = 0x20000003 ∧ ({ s.dev with result := e.result } : Dev).ShowsOnly e ∧ OnlyObjects (fun _ => false) s.dev e)) ∧
  (∀ (s : State) (n : Fin 512), s.dev.alive = true → 416 ≤ n.val → (s.dev.slotAhead n).slotRefused n = true → 
    Completes (.slotControlArm n) s (fun e => e.result = 0x30000004 ∧ bitOf (e.o (slotKey Obj.STATUS_3200 n)) 5 = true ∧ bitOf (e.o (slotKey Obj.STATUS_3200 n)) 0 = false ∧
      (e.slotOf n).armed = false ∧ ({ s.dev with slots := e.slots, result := e.result } : Dev).ShowsOnly e ∧ OnlyObjects (fun k => k == slotKey Obj.STATUS_3200 n) s.dev e)) ∧
  (∀ (s : State) (n : Fin 512), s.dev.alive = true → 416 ≤ n.val → (s.dev.slotAhead n).slotRefused n = false → s.dev.courierPending n = true → 
    Completes (.slotControlArm n) s (fun e => e.result = 0x50000001 ∧ ({ s.dev with result := e.result } : Dev).ShowsOnly e ∧ OnlyObjects (fun _ => false) s.dev e)) ∧
  (∀ (s : State) (n : Fin 512) (t : TrackId), s.dev.alive = true → 416 ≤ n.val → (s.dev.slotAhead n).slotRefused n = false → s.dev.courierPending n = false → trackOf (s.dev.n (slotKey Obj.TRACK_3200 n)) = some t → s.dev.b t.validKey = true → 
    Completes (.slotControlArm n) s (fun e => e.result = 0 ∧ e.writes = s.dev.writes ++ [{ key := slotKey Obj.CONTROL_3200 n, val := 1 }] ∧ ({ s.dev with writes := e.writes, result := e.result } : Dev).ShowsOnly e ∧ OnlyObjects (fun _ => false) s.dev e)) ∧
  (∀ (s : State) (n : Fin 512), s.dev.alive = true → n.val < 416 → 
    Completes (.slotControlDisarm n) s (fun e => e.result = 0x20000003 ∧ ({ s.dev with result := e.result } : Dev).ShowsOnly e ∧ OnlyObjects (fun _ => false) s.dev e)) ∧
  (∀ (s : State) (n : Fin 512), s.dev.alive = true → 416 ≤ n.val → s.dev.courierPending n = true → 
    Completes (.slotControlDisarm n) s (fun e => e.result = 0x50000001 ∧ ({ s.dev with result := e.result } : Dev).ShowsOnly e ∧ OnlyObjects (fun _ => false) s.dev e)) ∧
  (∀ (s : State) (n : Fin 512) (t : TrackId), s.dev.alive = true → 416 ≤ n.val → s.dev.courierPending n = false → trackOf (s.dev.n (slotKey Obj.TRACK_3200 n)) = some t → s.dev.b t.validKey = true → 
    Completes (.slotControlDisarm n) s (fun e => e.result = 0 ∧ e.writes = s.dev.writes ++ [{ key := slotKey Obj.CONTROL_3200 n, val := 2 }] ∧ ({ s.dev with writes := e.writes, result := e.result } : Dev).ShowsOnly e ∧ OnlyObjects (fun _ => false) s.dev e)) ∧
  (∀ (s : State) (n : Fin 512) (f : Fin 6) (v : Int), s.dev.alive = true → (s.dev.slotAhead n).slotFieldCheck n (f + 1) v ≠ 0 → 
    Completes (.slotFieldWrite n f v) s (fun e => e.result = (s.dev.slotAhead n).slotFieldCheck n (f + 1) v ∧ (n.val < 416 → e.result = 0x20000001) ∧ ({ s.dev with result := e.result } : Dev).ShowsOnly e ∧ OnlyObjects (fun _ => false) s.dev e)) ∧
  (∀ (s : State) (n : Fin 512) (f : Fin 6) (v : Int) (t : TrackId), s.dev.alive = true → (s.dev.slotAhead n).slotFieldCheck n (f + 1) v = 0 → trackOf (s.dev.n (slotKey Obj.TRACK_3200 n)) = some t → s.dev.b t.validKey = true → 
    Completes (.slotFieldWrite n f v) s (fun e => e.result = 0 ∧ e.writes = s.dev.writes ++ [{ key := slotKey Obj.TRACK_3200 n + f, val := (s.dev.slotAhead n).slotFieldValue n (f + 1) v }] ∧
      ({ s.dev with writes := e.writes, result := e.result } : Dev).ShowsOnly e ∧ OnlyObjects (fun _ => false) s.dev e))

/-- What an accepted arm and the fire it may bring do, for a slot of the user range on a track whose update has come. Each clause says what it takes
from R61, R63, R64, R66. Where the spec leaves a point of these clauses open, the model's choice is log entry 18. -/
def Obligations.SlotTests : Prop :=
  ∀ (d : Dev) (t : TrackId) (n : Nat), 416 ≤ n → n < 512 → d.n (slotKey Obj.QUALIFIER_3200 n) = 1 → d.n (slotKey Obj.ACTION n) = 0 →
    d.n (slotKey Obj.PERIOD_3200 n) = 0 → d.couriers = [] →
    let x := t.diff (d.value t) (d.o (slotKey Obj.TARGET_3200 n))
    let e := d.slotTest t n false
    (0 < x → (e.slotOf n).armed = true ∧ e.o (slotKey Obj.STATUS_3200 n) = 1 ∧ e.o (slotKey Obj.FIRES n) = d.o (slotKey Obj.FIRES n)) ∧
    (x = 0 → (e.slotOf n).armed = false ∧ e.o (slotKey Obj.STATUS_3200 n) = 2 ∧ e.o (slotKey Obj.FIRES n) = satU32 (d.o (slotKey Obj.FIRES n) + 1)) ∧
    (x < 0 → (x.natAbs : Int) ≤ d.o t.lateKey → (e.slotOf n).armed = false ∧ e.o (slotKey Obj.STATUS_3200 n) = 6 ∧
      e.o (slotKey Obj.FIRES n) = satU32 (d.o (slotKey Obj.FIRES n) + 1) ∧ e.raised 0xF1 ∧ e.o t.lateCountKey = satU32 (d.o t.lateCountKey + 1)) ∧
    (x < 0 → d.o t.lateKey < x.natAbs → (e.slotOf n).armed = false ∧ e.o (slotKey Obj.STATUS_3200 n) = 16 ∧
      e.o (slotKey Obj.FIRES n) = d.o (slotKey Obj.FIRES n) ∧ e.raised 0xF0 ∧ e.o (slotKey Obj.SLOT_MISSED n) = satU32 (d.o (slotKey Obj.SLOT_MISSED n) + 1) ∧
      e.o t.missedKey = satU32 (d.o t.missedKey + 1))

/-- SSI encoders. Each clause says what it takes from R75 to R80, R98. Where the spec leaves a point of these clauses open, the model's choice is log
entry 20. -/
def Obligations.EncoderFrames : Prop :=
  (∀ (s : State) (i : Fin 2) (lead word status check delay : Nat) (low : Bool) (m : Mach), s.dev.alive = true → (s.dev.ssiOf i).inFrame = true → (s.dev.ssiOf i).measuring = false → s.dev.n (at' Obj.LEADING i) ≠ 0 → lead ≠ 0 → s.dev.machOf [i + 1] = some m → (s.dev.ssiOf i).rejects < 2 → 
    Completes (.ssiFrameEnd i lead word status check delay low) s (fun e => e.raised (mev m 0x30) ∧ e.o (at' Obj.REJECTS i) = satU32 (s.dev.o (at' Obj.REJECTS i) + 1) ∧ e.o (at' Obj.LAST_REJECT i) = 1 ∧
      (e.ssiOf i).inFrame = false ∧ (e.ssiOf i).mono = true ∧ ({ s.dev with ssi := e.ssi } : Dev).ShowsOnly e ∧
      OnlyObjects (fun k => k == at' Obj.REJECTS i || k == at' Obj.LAST_REJECT i || k == at' Obj.MEASURED_DELAY i || isTraceCount k) s.dev e)) ∧
  (∀ (s : State) (i : Fin 2) (lead word status check delay : Nat) (low : Bool) (m : Mach), s.dev.alive = true → (s.dev.ssiOf i).inFrame = true → (s.dev.ssiOf i).measuring = false → s.dev.n (at' Obj.LEADING i) ≠ 0 → lead ≠ 0 → s.dev.machOf [i + 1] = some m → 2 ≤ (s.dev.ssiOf i).rejects → 
    Completes (.ssiFrameEnd i lead word status check delay low) s (fun e => e.inForce (mcode m 0x1210) (mdom m) ∧ e.raised (mev m 0x30) ∧ (e.ssiOf i).bad = true ∧ ({ s.dev with ssi := e.ssi } : Dev).RaisesOnly e ∧
      OnlyObjects (fun k => k == at' Obj.REJECTS i || k == at' Obj.LAST_REJECT i || k == at' Obj.MEASURED_DELAY i || isReaction k) s.dev e)) ∧
  (∀ (s : State) (i : Fin 2) (lead word status check delay : Nat), s.dev.alive = true → (s.dev.ssiOf i).inFrame = true → (s.dev.ssiOf i).measuring = false → s.dev.n (at' Obj.LEADING i) = 0 → s.dev.n (at' Obj.CHECK i) = 0 → s.dev.n (at' Obj.STATUS_BITS i) = 0 → s.dev.o (at' Obj.CODING i) = 1 → s.dev.machOf [i + 1] = none → 
    Completes (.ssiFrameEnd i lead word status check delay false) s (fun e => e.o (at' Obj.RAW_WORD i) = grayToBinary (s.dev.n (at' Obj.WORD_BITS i)) word ∧ ({ s.dev with ssi := e.ssi } : Dev).ShowsOnly e ∧ OnlyObjects (fun k => k == at' Obj.RAW_WORD i || k == at' Obj.MEASURED_DELAY i) s.dev e)) ∧
  (∀ (s : State) (i : Fin 2), s.dev.alive = true → (s.dev.machOf [i.val + 1]).isSome = true → (s.dev.ssiOf i).inFrame = false → (s.dev.ssiOf i).mono = false → 
    Completes (.ssiGuardTimer i) s (fun e => (e.ssiOf i).inFrame = true ∧ (e.ssiOf i).latch = s.dev.wall ∧ (e.ssiOf i).pending = false ∧ ({ s.dev with ssi := e.ssi } : Dev).ShowsOnly e ∧ OnlyObjects (fun _ => false) s.dev e)) ∧
  (∀ (s : State) (i : Fin 2), s.dev.alive = true → (s.dev.machOf [i.val + 1]).isSome = true → ((s.dev.ssiOf i).inFrame = true ∨ (s.dev.ssiOf i).mono = true) → 
    Completes (.ssiGuardTimer i) s (fun e => (if (s.dev.ssiOf i).pending then e.o (at' Obj.COLLISIONS i) = satU32 (s.dev.o (at' Obj.COLLISIONS i) + 1) ∧ OnlyObjects (fun k => k == at' Obj.COLLISIONS i) s.dev e
      else (e.ssiOf i).pending = true ∧ OnlyObjects (fun _ => false) s.dev e) ∧ ({ s.dev with ssi := e.ssi } : Dev).ShowsOnly e)) ∧
  (∀ (s : State) (i : Fin 2), s.dev.alive = true → (s.dev.ssiOf i).mono = true → (s.dev.ssiOf i).inFrame = false → 
    Completes (.ssiMonoflopEnd i) s (fun e => (e.ssiOf i).mono = false ∧ (e.ssiOf i).inFrame = (s.dev.ssiOf i).pending ∧ ({ s.dev with ssi := e.ssi } : Dev).ShowsOnly e ∧ OnlyObjects (fun _ => false) s.dev e)) ∧
  (∀ (s : State) (i : Fin 2) (m : Mach), s.dev.alive = true → s.dev.machOf [i.val + 1] = some m → 
    Completes (.ssiSourceTimeout i) s (fun e => e.inForce (mcode m 0x1210) (mdom m) ∧ (e.ssiOf i).bad = true ∧ ({ s.dev with ssi := e.ssi } : Dev).RaisesOnly e ∧ OnlyObjects (fun k => isReaction k) s.dev e))

/-- Pulse inputs and incremental encoders. Each clause says what it takes from R82 to R86, R92, R95. Where the spec leaves a point of these clauses
open, the model's choice is log entry 5. -/
def Obligations.SpeedsAndPulses : Prop :=
  (∀ (s : State), s.dev.alive = true → 
    Completes (.speedWindowUpdate) s (fun e => (∀ i < 7, e.pulseOf i = pulseSpeed (s.dev.pulseOf i) s.dev.wall (s.dev.n Obj.WINDOW * 1000) (s.dev.n Obj.PERIOD_EDGES) (s.dev.n Obj.CO_UP) (s.dev.n Obj.CO_DOWN)) ∧
      (∀ i < 3, s.dev.o (at' Obj.PULSES_PER_100M i) = 0 → e.o (at' Obj.SPEED_3450 i) = 0) ∧
      ({ s.dev with pulse := e.pulse } : Dev).ShowsOnly e ∧ OnlyObjects (fun k => k == at' Obj.SPEED_3450 0 || k == at' Obj.SPEED_3450 1 || k == at' Obj.SPEED_3450 2) s.dev e)) ∧
  (∀ (s : State) (i : Fin 7), s.dev.alive = true → 
    Completes (.speedZeroTimeout i) s (fun e => (e.pulseOf i).num = 0 ∧ (e.pulseOf i).edges = [] ∧ (4 ≤ i.val → e.o (at' Obj.SPEED_3450 (i.val - 4)) = 0) ∧ ({ s.dev with pulse := e.pulse } : Dev).ShowsOnly e ∧
      OnlyObjects (fun k => decide (4 ≤ i.val) && k == at' Obj.SPEED_3450 (i.val - 4)) s.dev e)) ∧
  (∀ (s : State) (i : Fin 3) (width : Nat), s.dev.alive = true → width < s.dev.n (at' Obj.FILTER_US_3450 i) * 1000 → 
    Completes (.wheelPulse i width) s (fun e => e.o (at' Obj.GLITCHES i) = satU32 (s.dev.o (at' Obj.GLITCHES i) + 1) ∧ e.raised 0xC8 ∧ s.dev.ShowsOnly e ∧ OnlyObjects (fun k => k == at' Obj.GLITCHES i || isTraceCount k) s.dev e)) ∧
  (∀ (s : State) (i : Fin 3) (width : Nat), s.dev.alive = true → s.dev.n (at' Obj.FILTER_US_3450 i) * 1000 ≤ width → 
    Completes (.wheelPulse i width) s (fun e => e.o (at' Obj.PULSES_3450 i) = (s.dev.o (at' Obj.PULSES_3450 i) + 1) % 4294967296 ∧
      (e.pulseOf (4 + i)).edges = s.dev.wall :: (s.dev.pulseOf (4 + i)).edges ∧ ({ s.dev with pulse := e.pulse } : Dev).ShowsOnly e ∧ OnlyObjects (fun k => k == at' Obj.PULSES_3450 i) s.dev e)) ∧
  (∀ (s : State) (i : Fin 2) (ab : Fin 4), s.dev.alive = true → (quadPhase ab + 4 - quadPhase (s.dev.incOf i).ab) % 4 = 1 → s.dev.machOf [3 + i] = none → 
    Completes (.incEdge i ab) s (fun e => e.o (at' Obj.COUNT_3410 i) = signedMod 32 (s.dev.o (at' Obj.COUNT_3410 i) + 1) ∧ (e.incOf i).ab = ab ∧
      (e.pulseOf i).edges = s.dev.wall :: (s.dev.pulseOf i).edges ∧ ({ s.dev with inc := e.inc, pulse := e.pulse } : Dev).ShowsOnly e ∧ OnlyObjects (fun k => k == at' Obj.COUNT_3410 i) s.dev e)) ∧
  (∀ (s : State) (i : Fin 2) (ab : Fin 4), s.dev.alive = true → (quadPhase ab + 4 - quadPhase (s.dev.incOf i).ab) % 4 = 3 → s.dev.machOf [3 + i] = none → 
    Completes (.incEdge i ab) s (fun e => e.o (at' Obj.COUNT_3410 i) = signedMod 32 (s.dev.o (at' Obj.COUNT_3410 i) - 1) ∧ (e.incOf i).ab = ab ∧
      (e.pulseOf i).edges = s.dev.wall :: (s.dev.pulseOf i).edges ∧ ({ s.dev with inc := e.inc, pulse := e.pulse } : Dev).ShowsOnly e ∧ OnlyObjects (fun k => k == at' Obj.COUNT_3410 i) s.dev e)) ∧
  (∀ (s : State) (i : Fin 2) (ab : Fin 4), s.dev.alive = true → (quadPhase ab + 4 - quadPhase (s.dev.incOf i).ab) % 4 = 2 → s.dev.machOf [3 + i] = none → 
    Completes (.incEdge i ab) s (fun e => e.o (at' Obj.QUAD_ERRORS i) = satU32 (s.dev.o (at' Obj.QUAD_ERRORS i) + 1) ∧ (e.incOf i).ab = ab ∧ ({ s.dev with inc := e.inc } : Dev).ShowsOnly e ∧ OnlyObjects (fun k => k == at' Obj.QUAD_ERRORS i) s.dev e)) ∧
  (∀ (s : State) (i : Fin 2), s.dev.alive = true → (s.dev.n (at' Obj.INDEX_STATE i) = 4 ∨ s.dev.n (at' Obj.INDEX_STATE i) = (s.dev.incOf i).ab) → s.dev.machOf [3 + i] = none → (s.dev.incOf i).latchArmed = true → s.dev.n (at' Obj.INDEX_RESET i) = 1 → (s.dev.incOf i).lastIndex = none → 
    Completes (.incQualifiedIndex i) s (fun e => e.o (at' Obj.INDEX_LATCH i) = s.dev.o (at' Obj.COUNT_3410 i) ∧ e.o (at' Obj.INDEX_LATCH_WALL i) = s.dev.wall ∧
      e.o (at' Obj.COUNT_3410 i) = s.dev.o (at' Obj.INDEX_VALUE i) ∧ (e.incOf i).latchArmed = false ∧ (e.incOf i).ref = some (s.dev.incOf i).raw ∧
      ({ s.dev with inc := e.inc } : Dev).ShowsOnly e ∧ OnlyObjects (fun k => k == at' Obj.INDEX_LATCH i || k == at' Obj.INDEX_LATCH_WALL i || k == at' Obj.COUNT_3410 i) s.dev e)) ∧
  (∀ (s : State) (i : Fin 2), s.dev.alive = true → 
    Completes (.incArmReset i) s (fun e => e.result = 0 ∧ (e.incOf i).resetArmed = true ∧ ({ s.dev with inc := e.inc, result := e.result } : Dev).ShowsOnly e ∧ OnlyObjects (fun _ => false) s.dev e)) ∧
  (∀ (s : State) (i : Fin 2) (m : Mach), s.dev.alive = true → s.dev.o (at' Obj.INPUT_MODE i.val) = 0 → s.dev.machOf [3 + i.val] = some m → 
    Completes (.incOpenWire i) s (fun e => e.inForce (mcode m 0x1211) (mdom m) ∧ (e.incOf i).bad = true ∧ ({ s.dev with inc := e.inc } : Dev).RaisesOnly e ∧ OnlyObjects (fun k => isReaction k) s.dev e))

/-- Hall sets. Each clause says what it takes from R87 to R90. Where the spec leaves a point of these clauses open, the model's choice is log entry 5. -/
def Obligations.HallSets : Prop :=
  (∀ (s : State) (i : Fin 2) (raw : Fin 8) (st : Nat), s.dev.alive = true → Nat.xor raw (s.dev.n (at' Obj.INVERT i)) % 8 = st → s.dev.machOf [5 + i] = none → s.dev.machOf [5 + i, 3 + i] = none → (s.dev.hallOf i).last ≠ 0 → st ≠ 0 → st ≠ 7 → s.dev.n (at' Obj.STATE_3420 i) = (s.dev.hallOf i).last → (hallPlace st + 6 - hallPlace (s.dev.hallOf i).last) % 6 = 1 → (s.dev.hallOf i).last ≠ 7 → 
    Completes (.hallStateChange i raw) s (fun e => e.o (at' Obj.STATE_3420 i) = st ∧ (e.hallOf i).fwd = true ∧ (e.hallOf i).last = st ∧ (e.hallOf i).angle = s.dev.edgeAngle i (hallPlace st) ∧
      ({ s.dev with hall := e.hall, pulse := e.pulse } : Dev).ShowsOnly e ∧ OnlyObjects (fun k => k == at' Obj.STATE_3420 i) s.dev e)) ∧
  (∀ (s : State) (i : Fin 2) (raw : Fin 8) (st : Nat), s.dev.alive = true → Nat.xor raw (s.dev.n (at' Obj.INVERT i)) % 8 = st → s.dev.machOf [5 + i] = none → s.dev.machOf [5 + i, 3 + i] = none → (s.dev.hallOf i).last ≠ 0 → st ≠ 0 → st ≠ 7 → s.dev.n (at' Obj.STATE_3420 i) = (s.dev.hallOf i).last → (hallPlace st + 6 - hallPlace (s.dev.hallOf i).last) % 6 = 5 → (s.dev.hallOf i).last ≠ 7 → 
    Completes (.hallStateChange i raw) s (fun e => e.o (at' Obj.STATE_3420 i) = st ∧ (e.hallOf i).fwd = false ∧ (e.hallOf i).last = st ∧ (e.hallOf i).angle = s.dev.edgeAngle i (hallPlace (s.dev.hallOf i).last) ∧
      ({ s.dev with hall := e.hall, pulse := e.pulse } : Dev).ShowsOnly e ∧ OnlyObjects (fun k => k == at' Obj.STATE_3420 i) s.dev e)) ∧
  (∀ (s : State) (i : Fin 2) (raw : Fin 8) (st : Nat), s.dev.alive = true → Nat.xor raw (s.dev.n (at' Obj.INVERT i)) % 8 = st → s.dev.machOf [5 + i] = none → s.dev.machOf [5 + i, 3 + i] = none → (st = 0 ∨ st = 7) → s.dev.n (at' Obj.STATE_3420 i) ≠ st → 
    Completes (.hallStateChange i raw) s (fun e => e.o (at' Obj.STATE_3420 i) = st ∧ e.o (at' Obj.IMPOSSIBLE i) = satU32 (s.dev.o (at' Obj.IMPOSSIBLE i) + 1) ∧ (e.hallOf i).last = (s.dev.hallOf i).last ∧
      ({ s.dev with hall := e.hall } : Dev).ShowsOnly e ∧ OnlyObjects (fun k => k == at' Obj.STATE_3420 i || k == at' Obj.IMPOSSIBLE i) s.dev e)) ∧
  (∀ (s : State) (i : Fin 2) (m : Mach), s.dev.alive = true → (s.dev.o (at' Obj.STATE_3420 i.val) = 0 ∨ s.dev.o (at' Obj.STATE_3420 i.val) = 7) → s.dev.machOf [5 + i.val, 3 + i.val] = some m → 
    Completes (.hallImpossibleTimeout i) s (fun e => e.inForce (mcode m 0x1212) (mdom m) ∧ (e.hallOf i).bad = true ∧ ({ s.dev with hall := e.hall } : Dev).RaisesOnly e ∧ OnlyObjects (fun k => isReaction k) s.dev e)) ∧
  (∀ (s : State) (i : Fin 2), s.dev.alive = true → s.dev.n (at' Obj.STATE_3420 i) ≠ 0 → s.dev.n (at' Obj.STATE_3420 i) ≠ 7 → s.dev.machOf [5 + i] = none → 
    Completes (.hallZeroTimeout i) s (fun e => (e.hallOf i).angle = s.dev.hallCentre i (hallPlace (s.dev.n (at' Obj.STATE_3420 i))) ∧ ({ s.dev with hall := e.hall } : Dev).ShowsOnly e ∧ OnlyObjects (fun _ => false) s.dev e))

/-- Probes and the inertial sensor. Each clause says what it takes from R93, R94, R96, R97. Where the spec leaves a point of these clauses open, the
model's choice is log entries 7 and 29. -/
def Obligations.ProbesAndInertialSensor : Prop :=
  (∀ (s : State) (p : Fin 4), s.dev.alive = true → 
    Completes (.probeArm p) s (fun e => e.result = 0 ∧ bitOf (e.o (at' Obj.STATUS_3440 p)) 0 = true ∧ (∀ j, j ≠ 0 → bitOf (e.o (at' Obj.STATUS_3440 p)) j = bitOf (s.dev.o (at' Obj.STATUS_3440 p)) j) ∧
      (Tab.get {} e.probes p : Probe).armed = true ∧ ({ s.dev with probes := e.probes, result := e.result } : Dev).ShowsOnly e ∧ OnlyObjects (fun k => k == at' Obj.STATUS_3440 p) s.dev e)) ∧
  (∀ (s : State) (p : Fin 4), s.dev.alive = true → 
    Completes (.probeAcknowledge p) s (fun e => e.result = 0 ∧ bitOf (e.o (at' Obj.STATUS_3440 p)) 1 = false ∧ bitOf (e.o (at' Obj.STATUS_3440 p)) 2 = false ∧
      (∀ j, j ≠ 1 → j ≠ 2 → bitOf (e.o (at' Obj.STATUS_3440 p)) j = bitOf (s.dev.o (at' Obj.STATUS_3440 p)) j) ∧ ({ s.dev with result := e.result } : Dev).ShowsOnly e ∧ OnlyObjects (fun k => k == at' Obj.STATUS_3440 p) s.dev e)) ∧
  (∀ (s : State) (p : Fin 4), s.dev.alive = true → 
    Completes (.probeDisarm p) s (fun e => e.result = 0 ∧ bitOf (e.o (at' Obj.STATUS_3440 p)) 0 = false ∧ (∀ j, j ≠ 0 → bitOf (e.o (at' Obj.STATUS_3440 p)) j = bitOf (s.dev.o (at' Obj.STATUS_3440 p)) j) ∧
      (Tab.get {} e.probes p : Probe).armed = false ∧ ({ s.dev with probes := e.probes, result := e.result } : Dev).ShowsOnly e ∧ OnlyObjects (fun k => k == at' Obj.STATUS_3440 p) s.dev e)) ∧
  (∀ (s : State) (p : Fin 4) (rising : Bool), s.dev.alive = true → (Tab.get {} s.dev.probes p : Probe).armed = true → (Tab.get {} s.dev.probes p : Probe).from_ ≤ s.dev.wall → (s.dev.n (at' Obj.EDGE p) = 3 ∨ s.dev.n (at' Obj.EDGE p) = if rising then 1 else 2) → s.dev.n (at' Obj.TRACK_3440 p) = 0 → s.dev.o (at' Obj.MODE_3440 p) = 1 → 
    Completes (.probeEdge p rising) s (fun e => e.o (at' Obj.CAPT_VALUE p) = s.dev.wall ∧ e.o (at' Obj.CAPT_WALL p) = s.dev.wall ∧ bitOf (e.o (at' Obj.STATUS_3440 p)) 1 = true ∧
      bitOf (e.o (at' Obj.STATUS_3440 p)) 0 = false ∧ (Tab.get {} e.probes p : Probe).armed = false ∧ e.raised (0xA8 + p) ∧
      (bitOf (s.dev.o (at' Obj.STATUS_3440 p)) 1 = true → bitOf (e.o (at' Obj.STATUS_3440 p)) 2 = true ∧ e.raised 0xAC) ∧
      ({ s.dev with probes := e.probes } : Dev).ShowsOnly e ∧ OnlyObjects (fun k => k == at' Obj.CAPT_VALUE p || k == at' Obj.CAPT_WALL p || k == at' Obj.STATUS_3440 p || isTraceCount k) s.dev e)) ∧
  (∀ (s : State) (yaw ax ay az : Int), s.dev.alive = true → s.dev.imuFailed = false → 
    Completes (.imuSample yaw ax ay az) s (fun e => e.o Obj.YAW_RATE_3460 = satI32 yaw ∧ e.o Obj.VALID_3460 = 1 ∧ e.block Obj.ACCEL_3460 = leBytes 4 ax ++ leBytes 4 ay ++ leBytes 4 az ∧
      (∀ f ∈ e.coll.active, f.code = 0x8220 → f.cause = false) ∧ e.coll.active.length = s.dev.coll.active.length ∧ e.coll = { s.dev.coll with active := e.coll.active } ∧
      ({ s.dev with blk := e.blk, coll := e.coll } : Dev).ShowsOnly e ∧ OnlyObjects (fun k => k == Obj.YAW_RATE_3460 || k == Obj.VALID_3460) s.dev e)) ∧
  (∀ (s : State), s.dev.alive = true → 
    Completes (.imuSampleTimeout) s (fun e => e.o Obj.VALID_3460 = 0 ∧ e.inForce 0x8220 .bom ∧ s.dev.RaisesOnly e ∧ OnlyObjects (fun k => k == Obj.VALID_3460 || isReaction k) s.dev e))

/-- The learning of ELEC_OFFSET. Each clause says what it takes from R69, R72. Where the spec leaves a point of these clauses open, the model's choice
is log entries 8, 28 and 49. -/
def Obligations.LearningOfTheOffset : Prop :=
  (∀ (s : State) (m : Mach) (emf : Nat), s.dev.phase = .service → s.dev.stopped (mdom m) = true → s.dev.sourceValid m (s.dev.n (srcKey m Obj.PRIMARY)) = true → s.dev.learnFrequency m = true → 200 ≤ emf → (s.dev.o Obj.VDC = 0 ∨ (10 * emf : Int) < 9 * s.dev.o Obj.VDC) → (s.dev.sourceOf m).learning = false → 
    Completes (.offsetLearnStart m emf) s (fun e => e.result = 0 ∧ e.o (srcKey m Obj.LEARN_STATUS) = 1 ∧
      e.sourceOf m = { s.dev.sourceOf m with learning := true, learnDevs := [], learnLast := none } ∧
      ({ s.dev with source := e.source, result := e.result } : Dev).ShowsOnly e ∧ OnlyObjects (fun k => k == srcKey m Obj.LEARN_STATUS) s.dev e)) ∧
  (∀ (s : State) (m : Mach) (emf : Nat), s.dev.phase = .service → (emf < 200 ∨ (s.dev.sourceOf m).learning = true ∨ s.dev.stopped (mdom m) = false) → 
    Completes (.offsetLearnStart m emf) s (fun e => e.result = 0x40000002 ∧ ({ s.dev with result := e.result } : Dev).ShowsOnly e ∧ OnlyObjects (fun _ => false) s.dev e)) ∧
  (∀ (s : State) (m : Mach), s.dev.phase = .service → (s.dev.sourceOf m).learning = true → 
    Completes (.offsetLearnAbort m) s (fun e => e.result = 0 ∧ e.o (srcKey m Obj.LEARN_STATUS) = 0 ∧ (e.sourceOf m).learning = false ∧
      ({ s.dev with source := e.source, result := e.result } : Dev).ShowsOnly e ∧ OnlyObjects (fun k => k == srcKey m Obj.LEARN_STATUS) s.dev e)) ∧
  (∀ (s : State) (m : Mach) (x : Dev), s.dev.alive = true → (s.dev.sourceOf m).learning = true → (s.dev.sourceOf m).learnDevs.length < 63 → (s.dev.sourceOf m).learnLast = none → s.dev.extrapolate (angOf m) = x → x.sourceOf m = s.dev.sourceOf m → 
    Completes (.learnZeroCrossing m) s (fun e => e.sourceOf m = { s.dev.sourceOf m with
        learnDevs := (s.dev.sourceOf m).learnDevs ++ [ang16 (x.value (angOf m) - 27307)],
        learnLast := some (x.value (angOf m)) } ∧
      ({ x with source := e.source } : Dev).ShowsOnly e ∧ OnlyObjects (fun _ => false) x e)) ∧
  (∀ (s : State) (m : Mach) (x : Dev) (v : Int), s.dev.alive = true → (s.dev.sourceOf m).learning = true → s.dev.extrapolate (angOf m) = x → x.value (angOf m) = v → (s.dev.sourceOf m).learnDevs = List.replicate 63 (ang16 (v - 27307)) → (s.dev.sourceOf m).learnLast = none → 
    Completes (.learnZeroCrossing m) s (fun e => e.o (srcKey m Obj.LEARN_STATUS) = 2 ∧ (e.sourceOf m).learning = false ∧
      e.o (srcKey m Obj.ELEC_OFFSET) = (x.o (srcKey m Obj.ELEC_OFFSET) - ang16 (v - 27307)) % 65536 ∧
      ({ x with source := e.source } : Dev).ShowsOnly e ∧ OnlyObjects (fun k => k == srcKey m Obj.LEARN_STATUS || k == srcKey m Obj.ELEC_OFFSET) x e)) ∧
  (∀ (s : State) (m : Mach), s.dev.alive = true → (s.dev.sourceOf m).learning = true → 
    Completes (.learnConditionsLost m) s (fun e => e.o (srcKey m Obj.LEARN_STATUS) = 5 ∧ (e.sourceOf m).learning = false ∧ ({ s.dev with source := e.source } : Dev).ShowsOnly e ∧ OnlyObjects (fun k => k == srcKey m Obj.LEARN_STATUS) s.dev e))

/-- What the commands of a traction domain beside its boundary do. Each clause says what it takes from R116, R125, R127, R138, R140, R147, R149, R154.
Where the spec leaves a point of these clauses open, the model's choice is log entries 21, 22 and 23. -/
def Obligations.TractionCommands : Prop :=
  (∀ (s : State) (m : Mach), s.dev.alive = true → 
    Completes (.traWindowLost m) s (fun e => e.raised (mev m 0x3C) ∧ e.o (tk m Obj.WINDOWS_LOST) = satU32 (s.dev.o (tk m Obj.WINDOWS_LOST) + 1) ∧
      s.dev.ShowsOnly e ∧ OnlyObjects (fun k => k == tk m Obj.WINDOWS_LOST || isTraceCount k) s.dev e)) ∧
  (∀ (s : State) (n : Fin 8) (b : Bytes), s.dev.phase = .service → patternCheck b ≠ 0 → 
    Completes (.patternTableWrite n b) s (fun e => e.result = patternCheck b ∧ ({ s.dev with result := e.result } : Dev).ShowsOnly e ∧ OnlyObjects (fun _ => false) s.dev e)) ∧
  (∀ (s : State) (n : Fin 8) (b : Bytes), s.dev.phase = .service → patternCheck b = 0 → (s.dev.stopped .tra = false ∨ s.dev.stopped .trb = false) → 
    Completes (.patternTableWrite n b) s (fun e => e.result = 0x40000001 ∧ ({ s.dev with result := e.result } : Dev).ShowsOnly e ∧ OnlyObjects (fun _ => false) s.dev e)) ∧
  (∀ (s : State) (n : Fin 8) (b : Bytes), s.dev.phase = .service → patternCheck b = 0 → s.dev.stopped .tra = true → s.dev.stopped .trb = true → 
    Completes (.patternTableWrite n b) s (fun e => e.result = 0 ∧ e.block (el Obj.PATTERN_1 (n + 1)) = b ∧ e.block (el Obj.PATTERN_TRB (n + 1)) = b ∧
      e.o (el Obj.TABLE_STATUS (n + 1)) = s.dev.tableStatus .A b ∧ e.o (el (tk .B Obj.TABLE_STATUS) (n + 1)) = s.dev.tableStatus .B b ∧
      ({ s.dev with blk := e.blk, result := e.result } : Dev).ShowsOnly e ∧ OnlyObjects (fun k => k == el Obj.TABLE_STATUS (n + 1) || k == el (tk .B Obj.TABLE_STATUS) (n + 1)) s.dev e)) ∧
  (∀ (s : State) (m : Mach) (gen : Bool) (b : Bytes), s.dev.phase = .service → curveCheck b ≠ 0 → 
    Completes (.curveWrite m gen b) s (fun e => e.result = curveCheck b ∧ ({ s.dev with result := e.result } : Dev).ShowsOnly e ∧ OnlyObjects (fun _ => false) s.dev e)) ∧
  (∀ (s : State) (m : Mach) (gen : Bool) (b : Bytes), s.dev.phase = .service → curveCheck b = 0 → s.dev.stopped (mdom m) = true → 
    Completes (.curveWrite m gen b) s (fun e => e.result = 0 ∧ e.block (tk m (if gen then Obj.CURVE_GEN else Obj.CURVE_MOT)) = b ∧
      e.o (tk m Obj.CURVE_STATUS) = putBit (s.dev.o (tk m Obj.CURVE_STATUS)) (if gen then 1 else 0) (b != []) ∧
      ({ s.dev with blk := e.blk, result := e.result } : Dev).ShowsOnly e ∧ OnlyObjects (fun k => k == tk m Obj.CURVE_STATUS) s.dev e)) ∧
  (∀ (s : State) (m : Mach) (gen : Bool) (b : Bytes), s.dev.phase = .service → curveCheck b = 0 → s.dev.stopped (mdom m) = false → 
    Completes (.curveWrite m gen b) s (fun e => e.result = 0x40000001 ∧ ({ s.dev with result := e.result } : Dev).ShowsOnly e ∧ OnlyObjects (fun _ => false) s.dev e)) ∧
  (∀ (s : State) (m : Mach), s.dev.phase = .service → 
    Completes (.tractionStop m) s (fun e => e.result = 0 ∧ e.writes = s.dev.writes ++ [{ key := tk m Obj.RUN_4240, val := 0 }] ∧ ({ s.dev with writes := e.writes, result := e.result } : Dev).ShowsOnly e ∧ OnlyObjects (fun _ => false) s.dev e)) ∧
  (∀ (s : State) (m : Mach), s.dev.phase = .service → s.dev.fuseBars (enableBits (mdom m)) = false → (s.dev.startBlocked (mdom m) = true ∨ (s.dev.o (tk m Obj.BRIDGE_STATE) = 0 ∧ s.dev.runConditions m = false)) → 
    Completes (.tractionRun m) s (fun e => e.result = resState ∧ ({ s.dev with result := e.result } : Dev).ShowsOnly e ∧ OnlyObjects (fun _ => false) s.dev e)) ∧
  (∀ (s : State) (m : Mach), s.dev.phase = .service → s.dev.fuseBars (enableBits (mdom m)) = false → s.dev.startBlocked (mdom m) = false → (s.dev.o (tk m Obj.BRIDGE_STATE) ≠ 0 ∨ s.dev.runConditions m = true) → 
    Completes (.tractionRun m) s (fun e => e.result = 0 ∧ e.writes = s.dev.writes ++ [{ key := tk m Obj.RUN_4240, val := 1 }] ∧ ({ s.dev with writes := e.writes, result := e.result } : Dev).ShowsOnly e ∧ OnlyObjects (fun _ => false) s.dev e)) ∧
  (∀ (s : State) (m : Mach), s.dev.alive = true → s.dev.o (tk m Obj.BRIDGE_STATE) = 2 → s.dev.b (tk m Obj.LOCKED_4230) = false → 
    Completes (.zeroHoldTimeout m) s (fun e => e.inForce (mcode m 0x1452) (mdom m) ∧ (9 * (s.dev.tracOf m).vdc < 10 * s.dev.n (tk m Obj.EMF_EST) → 3 ≤ e.o (tk m Obj.BRIDGE_STATE)) ∧
      (10 * s.dev.n (tk m Obj.EMF_EST) ≤ 9 * (s.dev.tracOf m).vdc → e.o (tk m Obj.BRIDGE_STATE) = 0) ∧ s.dev.RaisesOnly e ∧ OnlyObjects (fun k => isReaction k) s.dev e)) ∧
  (∀ (s : State) (m : Mach), s.dev.alive = true → (s.dev.o (tk m Obj.BRIDGE_STATE) = 3 ∨ s.dev.o (tk m Obj.BRIDGE_STATE) = 4) → s.dev.sensorActive m = false → s.dev.tier3 = false → s.dev.tier4 = false → (s.dev.tracOf m).probing = false → 
    Completes (.traAscProbe m) s (fun e => e.raised (mev m 0x27) ∧ (e.tracOf m).probing = true ∧ ({ s.dev with trac := e.trac } : Dev).ShowsOnly e ∧ OnlyObjects (fun k => isTraceCount k) s.dev e)) ∧
  (∀ (s : State) (m : Mach) (emf freq : Nat) (dcHigh : Bool), s.dev.alive = true → (s.dev.tracOf m).probing = true → (dcHigh = true ∨ 9 * (s.dev.tracOf m).vdc < 10 * emf ∨ 95 * s.dev.n (tk m Obj.ASC_SPEED) * 1000 * s.dev.n (srcKey m Obj.POLE_PAIRS_3430) ≤ freq * 6000) → 
    Completes (.ascProbeEnd m emf freq dcHigh) s (fun e => (e.tracOf m).probing = false ∧ e.o (tk m Obj.EMF_EST) = emf ∧ ({ s.dev with trac := e.trac } : Dev).ShowsOnly e ∧ OnlyObjects (fun k => k == tk m Obj.EMF_EST) s.dev e)) ∧
  (∀ (s : State) (m : Mach) (emf freq : Nat), s.dev.alive = true → (s.dev.tracOf m).probing = true → 10 * emf ≤ 9 * (s.dev.tracOf m).vdc → freq * 6000 < 95 * s.dev.n (tk m Obj.ASC_SPEED) * 1000 * s.dev.n (srcKey m Obj.POLE_PAIRS_3430) → s.dev.ascCauseGone m = true → 
    Completes (.ascProbeEnd m emf freq false) s (fun e => e.o (tk m Obj.BRIDGE_STATE) = 0 ∧ e.o (tk m Obj.ASC_CAUSE) = 0 ∧ e.raised (mev m 0x25) ∧ e.o (tk m Obj.EMF_EST) = emf ∧
      s.dev.RaisesOnly e ∧ OnlyObjects (fun k => k == tk m Obj.EMF_EST || isReaction k) s.dev e))

/-- The boundary of a traction domain. Each clause says what it takes from R103, R132, R136, R145, R150. Where the spec leaves a point of these clauses
open, the model's choice is log entries 7, 21 and 22. -/
def Obligations.TractionBoundaries : Prop :=
  (∀ (s : State) (m : Mach) (i : TracIn), s.dev.alive = true → s.dev.dead.contains (0x20 + mnum m) = false → s.dev.writes = [] → s.dev.slots = [] → s.dev.o (srcKey m Obj.ACTIVE_SOURCE) = 0 → s.dev.n (tk m Obj.BRIDGE_STATE) = 0 → s.dev.b (tk m Obj.RUN_4240) = false → (s.dev.tracOf m).stopWaits = false → (s.dev.tracOf m).offWaits = false → 
    Completes (.tractionBoundary m i) s (fun e => e.o (tk m Obj.OBS_ANGLE) = (i.obsAngle : Int) % 65536 ∧ e.o (tk m Obj.OBS_SPEED) = satI32 i.obsSpeed ∧ e.o (tk m Obj.EMF_EST) = i.emf ∧ (e.tracOf m).vdc = i.vdc ∧
      e.o (tk m Obj.P_MOT_GRANT) = s.dev.n (el Obj.GRANT_DRAW (mnum m + 1)) ∧ e.o (tk m Obj.P_GEN_GRANT) = s.dev.n (el Obj.GRANT_FEED (mnum m + 1)) ∧
      e.o (tk m Obj.BRIDGE_STATE) = 0 ∧ ({ s.dev with tracks := e.tracks, source := e.source } : Dev).RaisesOnly e ∧ OnlyObjects (fun k => tracKey m k || isReaction k) s.dev e)) ∧
  (∀ (s : State) (m : Mach) (i : TracIn), s.dev.alive = true → s.dev.dead.contains (0x20 + mnum m) = false → s.dev.writes = [] → s.dev.slots = [] → s.dev.o (srcKey m Obj.ACTIVE_SOURCE) = 0 → s.dev.n (tk m Obj.BRIDGE_STATE) = 1 → (s.dev.tracOf m).stopWaits = true → (s.dev.tracOf m).offWaits = false → s.dev.ocHold.contains (mnum m) = false → 9 * i.vdc < 10 * i.emf → 
    Completes (.tractionBoundary m i) s (fun e => 3 ≤ e.o (tk m Obj.BRIDGE_STATE) ∧ e.o (tk m Obj.RUN_4240) = 0 ∧ e.o (tk m Obj.ABOVE_ASC) = 1 ∧ e.o (tk m Obj.ASC_CAUSE) = 2 ∧ ({ s.dev with tracks := e.tracks, source := e.source } : Dev).RaisesOnly e ∧ OnlyObjects (fun k => tracKey m k || isReaction k) s.dev e)) ∧
  (∀ (s : State) (m : Mach) (i : TracIn), s.dev.alive = true → s.dev.dead.contains (0x20 + mnum m) = false → s.dev.writes = [] → s.dev.slots = [] → s.dev.o (srcKey m Obj.ACTIVE_SOURCE) = 0 → s.dev.n (tk m Obj.BRIDGE_STATE) = 1 → (s.dev.tracOf m).stopWaits = true → (s.dev.tracOf m).offWaits = false → s.dev.ocHold.contains (mnum m) = false → 10 * i.emf ≤ 9 * i.vdc → s.dev.o (angOf m).rateKey = 0 → 0 < s.dev.o (tk m Obj.ASC_SPEED) → 
    Completes (.tractionBoundary m i) s (fun e => e.o (tk m Obj.BRIDGE_STATE) = 0 ∧ e.o (tk m Obj.RUN_4240) = 0 ∧ e.o (tk m Obj.ABOVE_ASC) = 0 ∧ e.o (tk m Obj.TORQUE_CMD) = 0 ∧ ({ s.dev with tracks := e.tracks, source := e.source } : Dev).RaisesOnly e ∧ OnlyObjects (fun k => tracKey m k || isReaction k) s.dev e))

/-- The sources of the link. Each clause says what it takes from R188, R192, R201, R399 to R402. Where the spec leaves a point of these clauses open,
the model's choice is log entries 60 and 64. -/
def Obligations.LinkSources : Prop :=
  (∀ (s : State) (name a b volts st : Nat) (regen : Bool), s.dev.phase = .service → s.dev.n Obj.TRACTOR_NAME = name → name ≠ 0 → (Tab.get {} s.dev.peers 0 : InputPeer).name = name → (s.dev.feedOf 0).lost = false → 
    Completes (.tractorLimitFrame name a b volts st regen) s (fun e => (e.feedOf 0).draw = a % 65536 * 100 ∧ (e.feedOf 0).feed = b % 65536 * 100 ∧ (e.feedOf 0).volts = volts % 65536 ∧ (e.feedOf 0).state = st % 4 ∧
      (e.feedOf 0).regen = regen ∧ (e.feedOf 0).seen = true ∧ (e.feedOf 0).timedOut = false ∧ e.feedOf 1 = s.dev.feedOf 1 ∧
      e.coll = { s.dev.coll with active := e.coll.active } ∧ ({ s.dev with feeds := e.feeds, coll := e.coll } : Dev).ShowsOnly e ∧ OnlyObjects (fun _ => false) s.dev e)) ∧
  (∀ (s : State) (name a b volts st : Nat) (regen : Bool), s.dev.phase = .service → s.dev.n Obj.TRACTOR_NAME ≠ 0 → s.dev.n Obj.TRACTOR_NAME ≠ name → (Tab.get {} s.dev.peers 0 : InputPeer).reported = false → 
    Completes (.tractorLimitFrame name a b volts st regen) s (fun e => e.o Obj.IGNORED = satU32 (s.dev.o Obj.IGNORED + 1) ∧ e.raised 0xDD ∧ ({ s.dev with peers := e.peers } : Dev).RaisesOnly e ∧ OnlyObjects (fun k => k == Obj.IGNORED || isReaction k) s.dev e)) ∧
  (∀ (s : State) (source a b volts st : Nat), s.dev.phase = .service → s.dev.b Obj.BATTERY_FITTED = true → s.dev.n Obj.BMS_ADDR = source → (s.dev.feedOf 1).lost = false → 
    Completes (.bmsLimitFrame source a b volts st) s (fun e => (e.feedOf 1).draw = a % 65536 * 100 ∧ (e.feedOf 1).feed = b % 65536 * 100 ∧ (e.feedOf 1).volts = volts % 65536 ∧ (e.feedOf 1).state = st % 4 ∧
      (e.feedOf 1).seen = true ∧ e.feedOf 0 = s.dev.feedOf 0 ∧ e.coll = { s.dev.coll with active := e.coll.active } ∧ ({ s.dev with feeds := e.feeds, coll := e.coll } : Dev).ShowsOnly e ∧ OnlyObjects (fun _ => false) s.dev e)) ∧
  (∀ (s : State) (src : Fin 2) (i fall : Nat), s.dev.alive = true → s.dev.sourceCounts src = true → i < 10 → 100 < fall → 
    Completes (.lnkSourceLost src i fall) s (fun e => (e.feedOf src).lost = true ∧ e.raised 0x85 ∧ e.inForce 0x6275 .lnk ∧ ({ s.dev with feeds := e.feeds } : Dev).RaisesOnly e ∧ OnlyObjects (fun k => isReaction k) s.dev e)) ∧
  (∀ (s : State) (src : Fin 2), s.dev.alive = true → s.dev.fitted src = true → (s.dev.feedOf src).seen = true → (s.dev.feedOf src).timedOut = false → 
    Completes (.lnkSourceTimeout src) s (fun e => (e.feedOf src).timedOut = true ∧ e.raised 0x86 ∧ e.inForce 0x6275 .lnk ∧ (src = 0 → (Tab.get {} e.peers 0 : InputPeer).name = 0) ∧ ({ s.dev with feeds := e.feeds, peers := e.peers } : Dev).RaisesOnly e ∧ OnlyObjects (fun k => isReaction k) s.dev e)) ∧
  (∀ (s : State) (src : Fin 2), s.dev.alive = true → (s.dev.feedOf src).lost = true → (s.dev.feedOf src).lost3 = true → (s.dev.feedOf src).closed = true → (s.dev.feedOf src).state = 3 → 
    Completes (.sourceCurrentReturn src) s (fun e => (e.feedOf src).lost = false ∧ (e.feedOf src).closed = false ∧ e.coll = { s.dev.coll with active := e.coll.active } ∧ ({ s.dev with feeds := e.feeds, coll := e.coll } : Dev).ShowsOnly e ∧ OnlyObjects (fun _ => false) s.dev e)) ∧
  (∀ (s : State) (v : Int), s.dev.phase = .service → (v < 0 ∨ 3 < v) → 
    Completes (.linkCtrlWrite v) s (fun e => e.result = 0x30000002 ∧ ({ s.dev with result := e.result } : Dev).ShowsOnly e ∧ OnlyObjects (fun _ => false) s.dev e)) ∧
  (∀ (s : State), s.dev.phase = .service → 
    Completes (.linkCtrlWrite 0) s (fun e => e.result = 0 ∧ e.writes = s.dev.writes ++ [{ key := Obj.LINK_CTRL, val := 0 }] ∧ ({ s.dev with writes := e.writes, result := e.result } : Dev).ShowsOnly e ∧ OnlyObjects (fun _ => false) s.dev e)) ∧
  (∀ (s : State), s.dev.phase = .service → 
    Completes (.linkStatusFrameSend) s (fun e => (if s.dev.claim = 2 then e.data = s.dev.linkStatusFrame ∧ e.data.length = 8 ∧ e.data.headD 0 = 0xEA else e.data = s.dev.data) ∧ ({ s.dev with data := e.data } : Dev).ShowsOnly e ∧ OnlyObjects (fun _ => false) s.dev e))

/-- What is written to loop slots. Each clause says what it takes from R41, R161, R163, R166, R169, R170. Where the spec leaves a point of these clauses
open, the model's choice is log entries 9 and 51. -/
def Obligations.LoopCommands : Prop :=
  (∀ (s : State) (L : Fin 128), s.dev.phase = .service → L.val < 96 → 
    Completes (.loopEnable L) s (fun e => e.result = 0x20000001 ∧ ({ s.dev with result := e.result } : Dev).ShowsOnly e ∧ OnlyObjects (fun _ => false) s.dev e)) ∧
  (∀ (s : State) (L : Fin 128), s.dev.phase = .service → L.val < 96 → 
    Completes (.loopDisable L) s (fun e => e.result = 0x20000001 ∧ ({ s.dev with result := e.result } : Dev).ShowsOnly e ∧ OnlyObjects (fun _ => false) s.dev e)) ∧
  (∀ (s : State) (L : Fin 128), s.dev.phase = .service → 96 ≤ L.val → s.dev.writes = [] → s.dev.b (lk Obj.ENABLE_A100 L) = false → (s.dev.setO (lk Obj.ENABLE_A100 L) 1).loopCheck L 1 = 0 → 
    Completes (.loopEnable L) s (fun e => e.result = 0 ∧ e.o (lk Obj.ENABLE_A100 L) = 1 ∧ e.o (lk Obj.FLAGS L) = (s.dev.n (lk Obj.FLAGS L) % 128 / 32 * 32 : Nat) ∧
      e.loopOf L = { s.dev.loopOf L with first := true, cascade := 0 } ∧ ({ s.dev with loops := e.loops, result := e.result } : Dev).ShowsOnly e ∧
      OnlyObjects (fun k => k == lk Obj.ENABLE_A100 L || k == lk Obj.FLAGS L) s.dev e)) ∧
  (∀ (s : State) (L : Fin 128), s.dev.phase = .service → 96 ≤ L.val → s.dev.b (lk Obj.ENABLE_A100 L) = true → s.dev.loopFrozen L = false → 
    Completes (.loopDisable L) s (fun e => e.result = 0 ∧ e.writes = s.dev.writes ++ [{ key := lk Obj.ENABLE_A100 L, val := 0 }] ∧ e.o (lk Obj.ENABLE_A100 L) = s.dev.o (lk Obj.ENABLE_A100 L) ∧
      ({ s.dev with writes := e.writes, result := e.result } : Dev).ShowsOnly e ∧ OnlyObjects (fun _ => false) s.dev e)) ∧
  (∀ (s : State) (L : Fin 128), s.dev.phase = .service → 96 ≤ L.val → s.dev.writes = [] → s.dev.b (lk Obj.ENABLE_A100 L) = true → s.dev.loopFrozen L = true → 
    Completes (.loopDisable L) s (fun e => e.result = 0 ∧ e.o (lk Obj.ENABLE_A100 L) = 0 ∧ ({ s.dev with result := e.result } : Dev).ShowsOnly e ∧ OnlyObjects (fun k => k == lk Obj.ENABLE_A100 L) s.dev e)) ∧
  (∀ (s : State) (L : Fin 128), s.dev.phase = .service → s.dev.writes = [] → s.dev.b (lk Obj.ENABLE_A100 L) = false → 
    Completes (.bankCtrlSwap L) s (fun e => e.result = 0 ∧ e.loopOf L = { s.dev.loopOf L with swap := true } ∧ ({ s.dev with loops := e.loops, result := e.result } : Dev).ShowsOnly e ∧ OnlyObjects (fun _ => false) s.dev e)) ∧
  (∀ (s : State) (L : Fin 128), s.dev.phase = .service → s.dev.b (lk Obj.ENABLE_A100 L) = true → s.dev.loopFrozen L = false → 
    Completes (.bankCtrlSwap L) s (fun e => e.result = 0 ∧ e.writes = s.dev.writes ++ [{ key := lk Obj.BANK_CTRL L, val := 1 }] ∧ ({ s.dev with writes := e.writes, result := e.result } : Dev).ShowsOnly e ∧ OnlyObjects (fun _ => false) s.dev e)) ∧
  (∀ (s : State) (L : Fin 128) (mask : Nat), s.dev.phase = .service → s.dev.writes = [] → s.dev.b (lk Obj.ENABLE_A100 L) = false → 
    Completes (.flagsClear L mask) s (fun e => e.result = 0 ∧ e.o (lk Obj.FLAGS L) = (Nat.land (s.dev.n (lk Obj.FLAGS L)) (Nat.lor (255 - mask % 256) 0x60) : Nat) ∧ ({ s.dev with result := e.result } : Dev).ShowsOnly e ∧ OnlyObjects (fun k => k == lk Obj.FLAGS L) s.dev e))

/-- Self-checks and moves. Each clause says what it takes from R176, R177, R180. Where the spec leaves a point of these clauses open, the model's choice
is log entry 25. -/
def Obligations.LoopEngines : Prop :=
  (∀ (s : State) (n : Fin 9), s.dev.alive = true → 
    Completes (.leSelfCheck n true) s (fun e => s.dev.ShowsOnly e ∧ OnlyObjects (fun _ => false) s.dev e)) ∧
  (∀ (s : State) (n : Fin 9), s.dev.alive = true → n.val < 8 → s.dev.hostOf n = n → s.dev.leBlocked.contains n.val = false → s.dev.leMoving = none → s.dev.o Obj.LE8_HOSTS_A000 = 0xFF → s.dev.le8Bad = false → 
    Completes (.leSelfCheck n false) s (fun e => e.raised 0x1A ∧ e.o (el Obj.SELFCHECK_FAILS (n + 1)) = satU32 (s.dev.o (el Obj.SELFCHECK_FAILS (n + 1)) + 1) ∧ e.leMoving = some n.val ∧ e.leLoaded = false ∧
      (∀ L ∈ s.dev.enabledSlots n, (e.loopOf L).holdNext = true) ∧ ({ s.dev with leMoving := e.leMoving, leLoaded := e.leLoaded, loops := e.loops } : Dev).ShowsOnly e ∧ OnlyObjects (fun k => k == el Obj.SELFCHECK_FAILS (n + 1) || isTraceCount k) s.dev e)) ∧
  (∀ (s : State) (n : Fin 9), s.dev.alive = true → n.val < 6 → s.dev.hostOf n = n → s.dev.leBlocked.contains n.val = false → s.dev.leMoving = none → (s.dev.o Obj.LE8_HOSTS_A000 ≠ 0xFF ∨ s.dev.le8Bad = true) → 
    Completes (.leSelfCheck n false) s (fun e => e.raised 0x1A ∧ e.raised 0x1C ∧ e.leBlocked.contains n.val = true ∧ (∀ dom ∈ s.dev.servedBy n, e.inForce ((dom.num - 1) * 4096 + 0x460) dom) ∧
      ({ s.dev with leBlocked := e.leBlocked, leMoving := e.leMoving } : Dev).RaisesOnly e ∧ OnlyObjects (fun k => k == el Obj.SELFCHECK_FAILS (n + 1) || isReaction k) s.dev e)) ∧
  (∀ (s : State), s.dev.alive = true → s.dev.leMoving = none → s.dev.o Obj.LE8_HOSTS_A000 = 0xFF → s.dev.le8Bad = false → 
    Completes (.leSelfCheck 8 false) s (fun e => e.raised 0x1A ∧ e.le8Bad = true ∧ e.coll.log.getLast?.map LogRec.code = some 0x0062 ∧ ({ s.dev with le8Bad := e.le8Bad } : Dev).RaisesOnly e ∧ OnlyObjects (fun k => k == el Obj.SELFCHECK_FAILS 9 || isReaction k) s.dev e)) ∧
  (∀ (s : State) (n : Nat), s.dev.alive = true → s.dev.leMoving = some n → s.dev.enabledSlots n = [] → n < 8 → 
    Completes (.le8LoadComplete) s (fun e => e.o (el Obj.HOST_LE0 (n + 1)) = 8 ∧ e.o Obj.LE8_HOSTS_A000 = n ∧ e.o Obj.MOVES = satU32 (s.dev.o Obj.MOVES + 1) ∧ e.leMoving = none ∧
      e.raised 0x1B ∧ e.coll.log.getLast?.map LogRec.code = some 0x0061 ∧ ({ s.dev with leMoving := e.leMoving, leLoaded := e.leLoaded } : Dev).RaisesOnly e ∧ OnlyObjects (fun k => k == el Obj.HOST_LE0 (n + 1) || k == Obj.LE8_HOSTS_A000 || k == Obj.MOVES || isReaction k) s.dev e)) ∧
  (∀ (s : State) (n : Nat), s.dev.alive = true → s.dev.leMoving = some n → s.dev.enabledSlots n ≠ [] → 
    Completes (.le8LoadComplete) s (fun e => e.leLoaded = true ∧ e.leMoving = some n ∧ ({ s.dev with leLoaded := e.leLoaded } : Dev).ShowsOnly e ∧ OnlyObjects (fun _ => false) s.dev e))

/-- A precharge. Each clause says what it takes from R195, R199, R201, R202. Where the spec leaves a point of these clauses open, the model's choice is
log entry 66. -/
def Obligations.PrechargeSteps : Prop :=
  (∀ (s : State) (j : Precharge) (n : Nat), s.dev.alive = true → s.dev.preIn 0 = some j → j.mode = 0 → s.dev.preOf j.src = some n → (s.dev.ctrOf n).on = true → 
    Completes (.prechargeContactorClosed) s (fun e => e.o (at' Obj.STATE_5810 n) = 2 ∧ e.preIn 1 = some { j with phase := 1 } ∧ ({ s.dev with link := e.link } : Dev).ShowsOnly e ∧ OnlyObjects (fun k => k == at' Obj.STATE_5810 n) s.dev e)) ∧
  (∀ (s : State) (j : Precharge) (vdc : Nat), s.dev.alive = true → s.dev.preIn 1 = some j → j.mode ≠ 1 → j.vs ≤ 2 * vdc → 100 * vdc ≤ 105 * j.vs → 
    Completes (.prechargeTauCheck vdc) s (fun e => e.o Obj.VDC = vdc ∧ s.dev.ShowsOnly e ∧ OnlyObjects (fun k => k == Obj.VDC) s.dev e)) ∧
  (∀ (s : State) (j : Precharge) (vdc : Nat), s.dev.alive = true → s.dev.preIn 1 = some j → j.mode = 0 → 2 * vdc < j.vs → 
    Completes (.prechargeTauCheck vdc) s (fun e => (e.o Obj.PRE_STATE = 5 ∨ (e.o Obj.PRE_STATE = 6 ∧ e.link.after = 5)) ∧ e.raised 0x89 ∧ e.inForce 0x6477 .lnk ∧ e.link.job = none ∧ (∀ n, s.dev.mainOf j.src = some n → (e.ctrOf n).on = false) ∧
      (∀ n, s.dev.preOf j.src = some n → (e.ctrOf n).on = false) ∧ s.dev.RaisesOnly e ∧ OnlyObjects (fun k => k == Obj.VDC || isReaction k) s.dev e)) ∧
  (∀ (s : State) (j : Precharge) (vdc n : Nat), s.dev.alive = true → s.dev.preIn 1 = some j → j.mode = 0 → 100 * vdc ≤ 105 * j.vs → s.dev.n Obj.PRE_RATIO * j.vs ≤ 10000 * vdc → s.dev.mainOf j.src = some n → 
    Completes (.prechargeRatioReached vdc) s (fun e => e.o Obj.PRE_STATE = 3 ∧ e.o Obj.VDC = vdc ∧ (e.ctrOf n).on = true ∧ (e.ctrOf n).duty = 100 ∧ e.o (at' Obj.STATE_5810 n) = 1 ∧
      e.o (at' Obj.CYCLES_5810 n) = satU32 (s.dev.o (at' Obj.CYCLES_5810 n) + 1) ∧ e.preIn 2 = some { j with phase := 2 } ∧
      ({ s.dev with link := e.link, ctrs := e.ctrs } : Dev).ShowsOnly e ∧ OnlyObjects (fun k => k == Obj.PRE_STATE || k == Obj.VDC || k == at' Obj.STATE_5810 n || k == at' Obj.CYCLES_5810 n) s.dev e)) ∧
  (∀ (s : State) (j : Precharge), s.dev.alive = true → s.dev.preIn 1 = some j → 
    Completes (.prechargeTimeout) s (fun e => (e.o Obj.PRE_STATE = 5 ∨ (e.o Obj.PRE_STATE = 6 ∧ e.link.after = 5)) ∧ e.raised 0x89 ∧ e.inForce 0x6477 .lnk ∧ e.link.job = none ∧ s.dev.RaisesOnly e ∧ OnlyObjects (fun k => isReaction k) s.dev e)) ∧
  (∀ (s : State) (j : Precharge) (n : Nat), s.dev.alive = true → s.dev.preIn 3 = some j → j.mode = 0 → s.dev.preOf j.src = some n → 
    Completes (.prechargeContactorOpen) s (fun e => e.o Obj.PRE_STATE = 4 ∧ e.raised 0x88 ∧ e.link.job = none ∧ e.link.second = j.second ∧ (e.ctrOf n).on = false ∧ ({ s.dev with link := e.link, ctrs := e.ctrs } : Dev).ShowsOnly e ∧
      OnlyObjects (fun k => k == Obj.PRE_STATE || k == at' Obj.STATE_5810 n || isTraceCount k) s.dev e)) ∧
  (∀ (s : State) (src : Fin 2) (vdc n : Nat), s.dev.alive = true → s.dev.link.second = some src.val → s.dev.startBlocked .lnk = false → (s.dev.feedOf src).seen = true → 100 * ((vdc : Int) - (s.dev.feedOf src).volts).natAbs ≤ 3 * (s.dev.feedOf src).volts → s.dev.mainOf src = some n → 
    Completes (.secondSourceConnect src vdc) s (fun e => (e.ctrOf n).on = true ∧ e.o (at' Obj.STATE_5810 n) = 1 ∧ e.o Obj.VDC = vdc ∧ e.link.second = none ∧
      ({ s.dev with link := e.link, ctrs := e.ctrs } : Dev).ShowsOnly e ∧ OnlyObjects (fun k => k == Obj.VDC || k == at' Obj.STATE_5810 n || k == at' Obj.CYCLES_5810 n) s.dev e)) ∧
  (∀ (s : State) (src : Fin 2) (vdc : Nat), s.dev.alive = true → s.dev.link.second = some src.val → s.dev.startBlocked .lnk = false → (s.dev.feedOf src).seen = true → 3 * (s.dev.feedOf src).volts < 100 * ((vdc : Int) - (s.dev.feedOf src).volts).natAbs → 
    Completes (.secondSourceConnect src vdc) s (fun e => e.inForce 0x6275 .lnk ∧ e.link.second = none ∧ e.ctrs = s.dev.ctrs ∧ s.dev.RaisesOnly e ∧ OnlyObjects (fun k => k == Obj.VDC || isReaction k) s.dev e))

/-- Contactors and the discharge. Each clause says what it takes from R194 to R199, R203. Where the spec leaves a point of these clauses open, the
model's choice is log entry 64. -/
def Obligations.ContactorCommands : Prop :=
  (∀ (s : State) (n : Fin 4), s.dev.alive = true → (s.dev.o (at' Obj.STATE_5810 n) = 1 ∨ s.dev.o (at' Obj.STATE_5810 n) = 3) → (s.dev.mainSource n).isSome = true → s.dev.link.job = none → 
    Completes (.lnkCtrMismatch n) s (fun e => e.o (at' Obj.STATE_5810 n) = 4 ∧ e.raised 0x8A ∧ e.inForce 0x6478 .lnk ∧ s.dev.RaisesOnly e ∧ OnlyObjects (fun k => isReaction k) s.dev e)) ∧
  (∀ (s : State) (n : Fin 4) (vdc src : Nat), s.dev.alive = true → s.dev.mainSource n = some src → s.dev.n (at' Obj.STATE_5810 n) = 1 → (s.dev.ctrOf n).on = true → (s.dev.ctrOf n).mismatch = false → s.dev.o (at' Obj.FB_MODE n) ≠ 0 → s.dev.link.deferred = [] → s.dev.link.job = none → 
    Completes (.mainCloseConfirmed n vdc) s (fun e => e.o (at' Obj.STATE_5810 n) = 2 ∧ e.o Obj.VDC = vdc ∧ (e.ctrOf n) = s.dev.ctrOf n ∧ ({ s.dev with ctrs := e.ctrs } : Dev).ShowsOnly e ∧ OnlyObjects (fun k => k == Obj.VDC || k == at' Obj.STATE_5810 n) s.dev e)) ∧
  (∀ (s : State) (n : Fin 4), s.dev.alive = true → (s.dev.ctrOf n).on = false → (s.dev.ctrOf n).mismatch = false → (s.dev.o (at' Obj.STATE_5810 n) = 3 ∨ s.dev.o (at' Obj.STATE_5810 n) = 4) → s.dev.link.discharge = 0 → 
    Completes (.contactorOpenConfirmed n) s (fun e => e.o (at' Obj.STATE_5810 n) = 0 ∧ e.ctrOf n = s.dev.ctrOf n ∧ ({ s.dev with ctrs := e.ctrs } : Dev).ShowsOnly e ∧ OnlyObjects (fun k => k == at' Obj.STATE_5810 n) s.dev e)) ∧
  (∀ (s : State) (n : Fin 4), s.dev.alive = true → (s.dev.ctrOf n).on = true → 
    Completes (.contactorPullInEnd n) s (fun e => (e.ctrOf n).duty = s.dev.n (at' Obj.HOLD_DUTY n) ∧ (e.ctrOf n).on = true ∧ (∀ m : Fin 4, m ≠ n → e.ctrOf m = s.dev.ctrOf m) ∧ ({ s.dev with ctrs := e.ctrs } : Dev).ShowsOnly e ∧ OnlyObjects (fun _ => false) s.dev e)) ∧
  (∀ (s : State) (n : Fin 4) (tooHigh : Bool), s.dev.alive = true → (s.dev.ctrOf n).on = true → s.dev.link.job = none → 
    Completes (.lnkCtrDriver n tooHigh) s (fun e => e.o (at' Obj.STATE_5810 n) = 4 ∧ (tooHigh = true → (e.ctrOf n).on = false ∧ (e.ctrOf n).duty = 0) ∧ e.raised 0x8C ∧ e.inForce 0x647A .lnk ∧ s.dev.RaisesOnly e ∧ OnlyObjects (fun k => isReaction k) s.dev e)) ∧
  (∀ (s : State) (src : Fin 2) (i : Nat) (timeout : Bool) (n : Nat), s.dev.alive = true → s.dev.mainOf src = some n → s.dev.link.opening.contains src.val = true → (s.dev.ctrOf n).on = true → (timeout = true ∨ (s.dev.noGrants = true ∧ i < 10 * s.dev.n (at' Obj.I_BREAK n))) → s.dev.link.discharge = 0 → 
    Completes (.mainOpen src i timeout) s (fun e => (e.ctrOf n).on = false ∧ e.o (at' Obj.STATE_5810 n) = 3 ∧ e.link.opening = s.dev.link.opening.filter (· != src.val) ∧
      e.o (at' Obj.LOAD_BREAKS n) = (if 10 * s.dev.n (at' Obj.I_BREAK n) < i then satU32 (s.dev.o (at' Obj.LOAD_BREAKS n) + 1) else s.dev.o (at' Obj.LOAD_BREAKS n)) ∧
      ({ s.dev with ctrs := e.ctrs, link := e.link } : Dev).ShowsOnly e ∧ OnlyObjects (fun k => k == at' Obj.STATE_5810 n || k == at' Obj.LOAD_BREAKS n) s.dev e)) ∧
  (∀ (s : State) (src : Fin 2) (vdc : Nat), s.dev.alive = true → s.dev.link.discharge ≠ 0 → s.dev.mainsOpen = true → (s.dev.mainOf src).isSome = true → 100 * ((vdc : Int) - (s.dev.feedOf src).volts).natAbs ≤ 5 * (s.dev.feedOf src).volts → 
    Completes (.lnkCtrWeld src vdc) s (fun e => e.raised 0x8B ∧ e.inForce 0x6879 .lnk ∧ s.dev.RaisesOnly e ∧ OnlyObjects (fun k => k == Obj.VDC || isReaction k) s.dev e)) ∧
  (∀ (s : State) (vdc : Nat), s.dev.alive = true → s.dev.link.discharge = 2 → vdc < 600 → 
    Completes (.lnkDischarged vdc) s (fun e => e.o Obj.VDC = vdc ∧ e.raised 0x8D ∧ e.link.discharge = 0 ∧ e.o Obj.PRE_STATE = s.dev.link.after ∧ e.coll = { s.dev.coll with active := e.coll.active } ∧ ({ s.dev with link := e.link, coll := e.coll } : Dev).ShowsOnly e ∧ OnlyObjects (fun k => k == Obj.VDC || k == Obj.PRE_STATE || k == Obj.CHOP_STATE || keyIdx k == 0x6020 || isTraceCount k) s.dev e)) ∧
  (∀ (s : State) (vdc : Nat), s.dev.alive = true → s.dev.link.discharge ≠ 0 → 600 < vdc → 
    Completes (.dischargeTimeout vdc) s (fun e => e.o Obj.VDC = vdc ∧ e.inForce 0x6278 .lnk ∧ s.dev.RaisesOnly e ∧ OnlyObjects (fun k => k == Obj.VDC || isReaction k) s.dev e))

/-- Chopper and over-voltage. Each clause says what it takes from R151, R204, R207. Where the spec leaves a point of these clauses open, the model's
choice is log entry 61. -/
def Obligations.ChopperAndOverVoltage : Prop :=
  (∀ (s : State) (vdc : Nat), s.dev.alive = true → s.dev.n Obj.CHOP_ON * s.dev.n Obj.VDC_MAX * 10 ≤ 16384 * vdc → s.dev.chopFaulty = false → s.dev.link.changed = none → 
    Completes (.chopperOn vdc) s (fun e => e.link.reg = true ∧ e.link.on = true ∧ e.o Obj.VDC = vdc ∧ e.o Obj.CHOP_STATE = (if s.dev.link.hot then 2 else 1) ∧
      (∀ n ∈ s.dev.groupChannels 8, bitOf (e.o (el Obj.STATUS_6020 n)) 0 = true ∨ s.dev.link.on = true) ∧ ({ s.dev with link := e.link } : Dev).ShowsOnly e ∧ OnlyObjects (fun k => k == Obj.VDC || k == Obj.CHOP_STATE || keyIdx k == 0x6020) s.dev e)) ∧
  (∀ (s : State) (vdc : Nat), s.dev.alive = true → 16384 * vdc ≤ s.dev.n Obj.CHOP_OFF * s.dev.n Obj.VDC_MAX * 10 → s.dev.link.discharge = 0 → s.dev.link.changed = none → 
    Completes (.chopperOff vdc) s (fun e => e.link.reg = false ∧ e.link.on = false ∧ e.o Obj.VDC = vdc ∧ ({ s.dev with link := e.link } : Dev).ShowsOnly e ∧ OnlyObjects (fun k => k == Obj.VDC || k == Obj.CHOP_STATE || keyIdx k == 0x6020) s.dev e)) ∧
  (∀ (s : State) (i vdc : Nat), s.dev.alive = true → s.dev.link.on = true → s.dev.link.faultShown = false → s.dev.chopFaulty = false → i * s.dev.n Obj.CHOP_R < 250 * vdc → 
    Completes (.chopperCurrentCheck i vdc) s (fun e => e.link.missing = true ∧ e.link.on = false ∧ e.o Obj.CHOP_STATE = 3 ∧ e.raised 0x80 ∧ e.inForce 0x6270 .lnk ∧ e.o Obj.VDC = vdc ∧ s.dev.RaisesOnly e ∧ OnlyObjects (fun k => k == Obj.VDC || k == Obj.OV_TIER || k == Obj.CHOP_STATE || isReaction k) s.dev e)) ∧
  (∀ (s : State) (i vdc : Nat), s.dev.alive = true → s.dev.link.missing = true → s.dev.ocTrips.contains 5 = false → ((s.dev.groupChannels 8).any (fun n => s.dev.latched n) = false) → 4000 ≤ vdc → 250 * vdc ≤ i * s.dev.n Obj.CHOP_R → 
    Completes (.chopperTestPulse i vdc) s (fun e => e.link.missing = false ∧ e.o Obj.VDC = vdc ∧ s.dev.RaisesOnly e ∧ OnlyObjects (fun k => k == Obj.VDC || k == Obj.OV_TIER || k == Obj.CHOP_STATE || isReaction k) s.dev e)) ∧
  (∀ (s : State) (vdc : Nat), s.dev.alive = true → s.dev.tier3 = false → s.dev.tier4 = false → 1080 * s.dev.n Obj.VDC_MAX ≤ 100 * vdc → 
    Completes (.lnkOvAsc vdc) s (fun e => e.tier3 = true ∧ e.raised 0x83 ∧ e.inForce 0x1456 .tra ∧ e.inForce 0x2456 .trb ∧ 3 ≤ e.o Obj.BRIDGE_STATE ∧ 3 ≤ e.o (tk .B Obj.BRIDGE_STATE) ∧
      e.o Obj.OV_TIER = 3 ∧ e.o Obj.VDC = vdc ∧ ({ s.dev with tier3 := e.tier3 } : Dev).RaisesOnly e ∧ OnlyObjects (fun k => k == Obj.VDC || k == Obj.OV_TIER || isReaction k) s.dev e)) ∧
  (∀ (s : State), s.dev.alive = true → s.dev.tier4 = false → 
    Completes (.ovTier4) s (fun e => e.tier4 = true ∧ e.openRequest = true ∧ e.raised 0x84 ∧ e.inForce 0x6674 .lnk ∧ 3 ≤ e.o Obj.BRIDGE_STATE ∧ 3 ≤ e.o (tk .B Obj.BRIDGE_STATE) ∧
      e.o Obj.OV_TIER = 4 ∧ ({ s.dev with tier4 := e.tier4 } : Dev).RaisesOnly e ∧ OnlyObjects (fun k => k == Obj.OV_TIER || isReaction k) s.dev e)) ∧
  (∀ (s : State), s.dev.alive = true → 
    Completes (.ovTier4Release) s (fun e => e.tier4 = false ∧ (∀ f ∈ e.coll.active, f.code = 0x6674 → f.cause = false) ∧ ({ s.dev with tier4 := e.tier4, coll := e.coll } : Dev).ShowsOnly e ∧ OnlyObjects (fun k => k == Obj.OV_TIER) s.dev e))

/-- What the grid port takes in. Each clause says what it takes from R210, R214, R218 to R220, R224, R237. Where the spec leaves a point of these
clauses open, the model's choice is log entries 70 and 72. -/
def Obligations.GridInputs : Prop :=
  (∀ (s : State) (v : Int), s.dev.phase = .service → (v < 0 ∨ 2 < v) → 
    Completes (.grdModeWrite v) s (fun e => e.result = 0x30000002 ∧ ({ s.dev with result := e.result } : Dev).ShowsOnly e ∧ OnlyObjects (fun _ => false) s.dev e)) ∧
  (∀ (s : State), s.dev.phase = .service → 
    Completes (.grdModeWrite 0) s (fun e => e.result = 0 ∧ e.writes = s.dev.writes ++ [{ key := Obj.GRD_MODE, val := 0 }] ∧ ({ s.dev with writes := e.writes, result := e.result } : Dev).ShowsOnly e ∧ OnlyObjects (fun _ => false) s.dev e)) ∧
  (∀ (s : State) (v : Int), s.dev.phase = .service → (v = 1 ∨ v = 2) → s.dev.writes = [] → s.dev.o Obj.GRD_MODE ≠ 0 → s.dev.fuseBars [2] = false → s.dev.fuseBars [3] = false → 
    Completes (.grdModeWrite v) s (fun e => e.result = 0x40000002 ∧ ({ s.dev with result := e.result } : Dev).ShowsOnly e ∧ OnlyObjects (fun _ => false) s.dev e)) ∧
  (∀ (s : State) (pos neg : Int) (freq duty st : Nat), s.dev.alive = true → pilotState pos neg freq false = st → s.dev.grid.pilot = st → 2 ≤ s.dev.grid.pilotRuns → s.dev.n Obj.CP_STATE ≠ st → s.dev.grid.inserted = true → s.dev.grid.step = 0 → s.dev.grid.duty + 5 < min duty 1000 → 
    Completes (.pilotReading pos neg freq duty false) s (fun e => e.o Obj.CP_STATE = st ∧ e.o Obj.CP_DUTY = min duty 1000 ∧ e.raised 0x62 ∧ e.coll = { s.dev.coll with active := e.coll.active } ∧ ({ s.dev with grid := e.grid, coll := e.coll } : Dev).ShowsOnly e ∧ OnlyObjects (fun k => k == Obj.CP_STATE || k == Obj.CP_DUTY || isTraceCount k) s.dev e)) ∧
  (∀ (s : State) (pos neg : Int) (freq duty : Nat), s.dev.alive = true → s.dev.grid.pilot ≠ pilotState pos neg freq false → s.dev.grid.dutyRuns = 2 → s.dev.grid.duty = duty → 80 ≤ duty → duty ≤ 1000 → s.dev.n Obj.CP_CURRENT ≠ pilotCurrent duty → s.dev.n Obj.CP_STATE < 4 → s.dev.grid.step = 0 → 
    Completes (.pilotReading pos neg freq duty false) s (fun e => e.o Obj.CP_CURRENT = pilotCurrent duty ∧ e.o Obj.CP_DUTY = duty ∧ e.raised 0x63 ∧ e.coll = { s.dev.coll with active := e.coll.active } ∧ ({ s.dev with grid := e.grid, coll := e.coll } : Dev).ShowsOnly e ∧ OnlyObjects (fun k => k == Obj.CP_CURRENT || k == Obj.CP_DUTY || isTraceCount k) s.dev e)) ∧
  (∀ (s : State) (ohm c : Nat), s.dev.alive = true → proximityClass ohm = c → proximityClass s.dev.grid.prox = c → c ≠ 256 → 2 ≤ s.dev.grid.proxRuns → s.dev.grid.island = false → 
    Completes (.proximitySample ohm) s (fun e => e.o Obj.PP_OHM = (min ohm 65535 : Nat) ∧ e.o Obj.CABLE_CURRENT = c ∧ e.grid.inserted = true ∧ ({ s.dev with grid := e.grid } : Dev).ShowsOnly e ∧ OnlyObjects (fun k => k == Obj.PP_OHM || k == Obj.CABLE_CURRENT) s.dev e)) ∧
  (∀ (s : State), s.dev.alive = true → s.dev.o Obj.GRD_MODE = 1 → s.dev.b Obj.CHARGE_SOURCE = false → s.dev.grid.step = 1 → s.dev.grid.inserted = true → s.dev.o Obj.CABLE_CURRENT ≠ 0 → s.dev.o Obj.CP_STATE = 2 → 60 ≤ s.dev.o Obj.CP_CURRENT → s.dev.anyMain = true → 6500 ≤ s.dev.o Obj.VDC → s.dev.startBlocked .grd = false → s.dev.gatesFree .grd = true → s.dev.testing = [] → s.dev.tested.contains Domain.grd.num = true → 
    Completes (.s2Close) s (fun e => e.o Obj.S2 = 1 ∧ e.grid.step = 2 ∧ ({ s.dev with grid := e.grid, gates := e.gates } : Dev).ShowsOnly e ∧ OnlyObjects (fun k => k == Obj.S2) s.dev e)) ∧
  (∀ (s : State), s.dev.alive = true → s.dev.grid.step = 2 → s.dev.b Obj.CHARGE_SOURCE = false → s.dev.o Obj.CP_STATE = 3 → s.dev.o Obj.GRD_MODE = 1 → 
    Completes (.lineVoltageWaitTimeout) s (fun e => e.o Obj.STATE_5000 = 1 ∧ e.o Obj.S2 = 0 ∧ e.grid.step = 1 ∧ ({ s.dev with grid := e.grid, loops := e.loops } : Dev).ShowsOnly e ∧ OnlyObjects (fun k => isReaction k) s.dev e)) ∧
  (∀ (s : State) (i : GridIn), s.dev.alive = true → s.dev.dead.contains 0x22 = false → s.dev.writes = [] → s.dev.o Obj.GRD_MODE = 0 → s.dev.grid.step = 0 → s.dev.grid.island = false → 
    Completes (.grdBoundary i) s (fun e => e.o Obj.P_AC = i.pAc ∧ e.o Obj.V_LL = (min i.vll 65535 : Nat) ∧ e.o Obj.FREQ = i.freq ∧ e.o Obj.I_RMS = (min i.iRms 65535 : Nat) ∧ e.o Obj.UNBALANCE = (min i.unbalance 65535 : Nat) ∧
      e.o Obj.ROCOF = satI32 i.rocof ∧ e.grid.cycle = s.dev.grid.cycle + i.pAc * (s.dev.wall - s.dev.grid.last : Nat) ∧ e.coll = { s.dev.coll with active := e.coll.active } ∧
      ({ s.dev with grid := e.grid, coll := e.coll } : Dev).ShowsOnly e ∧ OnlyObjects (fun k => k == Obj.P_AC || k == Obj.I_RMS || k == Obj.V_LL || k == Obj.FREQ || k == Obj.UNBALANCE || k == Obj.ROCOF || k == Obj.SEQUENCE || k == at' Obj.DT_NOW 2 || k == at' Obj.BLANK_NOW 2) s.dev e)) ∧
  (∀ (s : State), s.dev.phase = .service → 
    Completes (.meterLog) s (fun e => e.grid = { s.dev.grid with logImport := s.dev.n Obj.E_IMPORT, logExport := s.dev.n Obj.E_EXPORT, logWall := s.dev.wall, maxP := (s.dev.o Obj.P_AC).natAbs } ∧ ({ s.dev with grid := e.grid } : Dev).ShowsOnly e ∧ OnlyObjects (fun _ => false) s.dev e))

/-- Trips and the island. Each clause says what it takes from R226, R227, R229, R231, R232. Where the spec leaves a point of these clauses open, the
model's choice is log entry 73. -/
def Obligations.GridTripsAndIsland : Prop :=
  (∀ (s : State), s.dev.alive = true → s.dev.grid.step = 5 → s.dev.grid.island = false → s.dev.grid.row ≠ 0 → 
    Completes (.grdTrip) s (fun e => e.o Obj.STATE_5000 = 0 ∧ e.o Obj.S2 = 0 ∧ e.grid.step = 0 ∧ e.raised 0x65 ∧ e.raised 0x6A ∧ e.inForce 0x3480 .grd ∧ s.dev.RaisesOnly e ∧ OnlyObjects (fun k => isReaction k) s.dev e)) ∧
  (∀ (s : State), s.dev.alive = true → s.dev.grid.step = 5 → s.dev.grid.island = false → (2000 < (s.dev.o Obj.ROCOF).natAbs ∨ s.dev.freqWithin (s.dev.n Obj.FREQ) 95 103 = false) → 
    Completes (.gridFrequencyTrip) s (fun e => e.o Obj.STATE_5000 = 0 ∧ e.o Obj.S2 = 0 ∧ e.grid.step = 0 ∧ e.raised 0x65 ∧ e.inForce 0x3481 .grd ∧ s.dev.RaisesOnly e ∧ OnlyObjects (fun k => isReaction k) s.dev e)) ∧
  (∀ (s : State), s.dev.alive = true → s.dev.grid.step = 5 → s.dev.grid.island = false → 50 < s.dev.o Obj.UNBALANCE → 
    Completes (.grdUnbalance) s (fun e => e.o Obj.STATE_5000 = s.dev.o Obj.STATE_5000 ∧ e.raised 0x6D ∧ e.inForce 0x3288 .grd ∧ s.dev.RaisesOnly e ∧ OnlyObjects (fun k => isReaction k) s.dev e)) ∧
  (∀ (s : State) (i : GridIn), s.dev.alive = true → s.dev.dead.contains 0x22 = false → s.dev.writes = [] → s.dev.o Obj.GRD_MODE = 1 → s.dev.grid.step = 5 → s.dev.grid.island = false → s.dev.b Obj.LOCKED_5010 = false → 0 < s.dev.n Obj.CARRIER_N → 364 ≤ i.phaseErr → i.sequence = 1 → linkLow i.vdc i.vll = true → 
    Completes (.grdBoundary i) s (fun e => e.o Obj.STATE_5000 = 0 ∧ e.grid.step = 0 ∧ e.inForce 0x3489 .grd ∧ s.dev.RaisesOnly e ∧ OnlyObjects (fun k => gridKey k || isReaction k) s.dev e)) ∧
  (∀ (s : State), s.dev.alive = true → s.dev.o Obj.GRD_MODE = 2 → s.dev.grid.step = 1 → 4000 < s.dev.o Obj.PP_OHM → s.dev.grid.inserted = false → s.dev.o Obj.V_LL < 500 → s.dev.anyMain = true → 6500 ≤ s.dev.o Obj.VDC → s.dev.startBlocked .grd = false → s.dev.gatesFree .grd = true → s.dev.testing = [] → s.dev.tested.contains Domain.grd.num = true → s.dev.slots = [] → s.dev.writes = [] → 
    Completes (.supplyStart) s (fun e => e.o Obj.STATE_5000 = 3 ∧ e.grid.island = true ∧ e.grid.step = 5 ∧ e.o (TrackId.mains).rateKey = s.dev.o Obj.F_NOM * 65536 ∧ e.b (TrackId.mains).validKey = true ∧
      ({ s.dev with grid := e.grid, gates := e.gates, loops := e.loops, tracks := e.tracks } : Dev).ShowsOnly e ∧ OnlyObjects (fun k => gridKey k || isTraceCount k) s.dev e)) ∧
  (∀ (s : State), s.dev.alive = true → s.dev.grid.island = true → s.dev.o Obj.STATE_5000 = 5 → s.dev.grid.short = false → 
    Completes (.islandOverloadTimeout) s (fun e => e.o Obj.STATE_5000 = 0 ∧ e.grid.step = 0 ∧ e.grid.island = false ∧ e.inForce 0x3484 .grd ∧ s.dev.RaisesOnly e ∧ OnlyObjects (fun k => isReaction k) s.dev e)) ∧
  (∀ (s : State), s.dev.alive = true → s.dev.grid.island = true → s.dev.grid.short = true → 2 * s.dev.o Obj.V_LL < s.dev.o Obj.V_SUPPLY → 
    Completes (.islandShortTimeout) s (fun e => e.o Obj.STATE_5000 = 0 ∧ e.grid.step = 0 ∧ e.grid.island = false ∧ e.inForce 0x3485 .grd ∧ s.dev.RaisesOnly e ∧ OnlyObjects (fun k => isReaction k) s.dev e)) ∧
  (∀ (s : State), s.dev.alive = true → s.dev.grid.island = true → 
    Completes (.grdForeignSource) s (fun e => e.o Obj.STATE_5000 = 0 ∧ e.grid.island = false ∧ e.raised 0x68 ∧ e.inForce 0x3486 .grd ∧ s.dev.RaisesOnly e ∧ OnlyObjects (fun k => isReaction k) s.dev e))

/-- Commands of the bus converters; DCB's events lie 8 higher and its faults begin with 0x5. Each clause says what it takes from R242, R243, R250 to
R252, R254. Where the spec leaves a point of these clauses open, the model's choice is log entries 21 and 74. -/
def Obligations.ConverterCommands : Prop :=
  (∀ (s : State) (c : Conv), s.dev.phase = .service → s.dev.fuseBars (enableBits (cdom c)) = false → s.dev.startBlocked (cdom c) = false → 
    Completes (.converterRun c) s (fun e => e.result = 0 ∧ e.writes = s.dev.writes ++ [{ key := ck c Obj.RUN_5400, val := 1 }] ∧ ({ s.dev with writes := e.writes, result := e.result } : Dev).ShowsOnly e ∧ OnlyObjects (fun _ => false) s.dev e)) ∧
  (∀ (s : State) (c : Conv), s.dev.phase = .service → s.dev.fuseBars (enableBits (cdom c)) = false → s.dev.startBlocked (cdom c) = true → 
    Completes (.converterRun c) s (fun e => e.result = 0x40000002 ∧ ({ s.dev with result := e.result } : Dev).ShowsOnly e ∧ OnlyObjects (fun _ => false) s.dev e)) ∧
  (∀ (s : State) (c : Conv), s.dev.phase = .service → 
    Completes (.converterStop c) s (fun e => e.result = 0 ∧ e.writes = s.dev.writes ++ [{ key := ck c Obj.RUN_5400, val := 0 }] ∧ ({ s.dev with writes := e.writes, result := e.result } : Dev).ShowsOnly e ∧ OnlyObjects (fun _ => false) s.dev e)) ∧
  (∀ (s : State) (c : Conv), s.dev.alive = true → s.dev.link.vref ≠ 0 → s.dev.resetPending = false → 
    Completes (.converterAutoStart c) s (fun e => (e.dabOf c).hadRef = true ∧ ((e.dabOf c).want = true ↔ ((s.dev.dabOf c).want = true ∨ ((s.dev.dabOf c).hadRef = false ∧ s.dev.b (ck c Obj.AUTO_START) = true ∧ (s.dev.dabOf c).runZero = false))) ∧
      ({ s.dev with dabs := e.dabs } : Dev).ShowsOnly e ∧ OnlyObjects (fun _ => false) s.dev e)) ∧
  (∀ (s : State) (c : Conv) (i : DabIn), s.dev.alive = true → s.dev.dead.contains 0x22 = false → s.dev.writes = [] → s.dev.n (ck c Obj.STATE_5400) = 0 → (s.dev.dabOf c).want = false → (s.dev.dabOf c).loaded = true → s.dev.link.job = none → 
    Completes (.converterBoundary c i) s (fun e => e.o (ck c Obj.V_OUT) = (min i.vout 65535 : Nat) ∧ e.o (ck c Obj.I_OUT) = clampI (-32768) 32767 i.iout ∧ e.o (ck c Obj.P_IN) = satI32 i.pin ∧
      e.o (ck c Obj.STATE_5400) = 0 ∧ (e.dabOf c) = { s.dev.dabOf c with last := s.dev.wall } ∧ e.coll = { s.dev.coll with active := e.coll.active } ∧
      ({ s.dev with dabs := e.dabs, coll := e.coll } : Dev).ShowsOnly e ∧ OnlyObjects (fun k => k == ck c Obj.V_OUT || k == ck c Obj.I_OUT || k == ck c Obj.P_IN || k == at' Obj.DT_NOW (3 + 2 * cnum c) || k == at' Obj.BLANK_NOW (3 + 2 * cnum c) || k == at' Obj.DT_NOW (4 + 2 * cnum c) || k == at' Obj.BLANK_NOW (4 + 2 * cnum c)) s.dev e)) ∧
  (∀ (s : State) (c : Conv) (i : DabIn), s.dev.alive = true → s.dev.dead.contains 0x22 = false → s.dev.writes = [] → s.dev.n (ck c Obj.STATE_5400) = 3 → s.dev.n (ck c Obj.V_OUT_OV) < i.vout → s.dev.faultOn (ccode c 0x4493) = false → 
    Completes (.converterBoundary c i) s (fun e => e.o (ck c Obj.STATE_5400) = 7 ∧ e.o (ck c Obj.PHI) = 0 ∧ e.raised (cev c 0x74) ∧ e.inForce (ccode c 0x4493) (cdom c) ∧ s.dev.RaisesOnly e ∧ OnlyObjects (fun k => dabKey c k || isReaction k) s.dev e)) ∧
  (∀ (s : State) (c : Conv) (i : DabIn), s.dev.alive = true → s.dev.dead.contains 0x22 = false → s.dev.writes = [] → s.dev.n (ck c Obj.STATE_5400) = 3 → i.vout ≤ s.dev.n (ck c Obj.V_OUT_OV) → i.vin < 3000 → s.dev.link.job = none → 
    Completes (.converterBoundary c i) s (fun e => e.o (ck c Obj.STATE_5400) = 1 ∧ (e.dabOf c).want = true ∧ e.o (ck c Obj.PHI) = 0 ∧ e.raised (cev c 0x72) ∧ e.coll.log.getLast?.map LogRec.code = some (ccode c 0x4090) ∧ s.dev.RaisesOnly e ∧ OnlyObjects (fun k => dabKey c k || isReaction k) s.dev e)) ∧
  (∀ (s : State) (c : Conv), s.dev.alive = true → s.dev.n (ck c Obj.STATE_5400) = 6 → (s.dev.dabOf c).soft = 0 → 
    Completes (.dcaStopped c) s (fun e => e.o (ck c Obj.STATE_5400) = 0 ∧ e.o (ck c Obj.PHI) = 0 ∧ e.o (ck c Obj.I_LIMIT_5400) = 0 ∧ e.raised (cev c 0x71) ∧ ({ s.dev with dabs := e.dabs, loops := e.loops } : Dev).ShowsOnly e ∧ OnlyObjects (fun k => isReaction k) s.dev e)) ∧
  (∀ (s : State) (c : Conv), s.dev.alive = true → s.dev.n (ck c Obj.STATE_5400) = 3 → 2 * s.dev.n (ck c Obj.V_OUT) < s.dev.dabRef c (s.dev.dabOf c).soft (s.dev.n (ck c Obj.SOFT_START) * 1000000) → s.dev.b (ck c Obj.LIMIT_SRC_5400) = true → 
    Completes (.dcaOutShort c) s (fun e => e.raised (cev c 0x74) ∧ e.inForce (ccode c 0x4494) (cdom c) ∧ s.dev.RaisesOnly e ∧ OnlyObjects (fun k => isReaction k) s.dev e))

/-- The reverse precharge. Each clause says what it takes from R255, R256. Where the spec leaves a point of these clauses open, the model's choice is
log entry 74. -/
def Obligations.ReversePrecharge : Prop :=
  (∀ (s : State) (i : DabIn) (j : Precharge), s.dev.alive = true → s.dev.dead.contains 0x22 = false → s.dev.writes = [] → s.dev.n (ck .dca Obj.STATE_5400) = 0 → s.dev.link.job = some j → j.mode = 1 → j.phase = 0 → s.dev.startBlocked .dca = false → s.dev.gatesFree .dca = true → s.dev.n Obj.V_LVB_MIN ≤ i.vout → 
    Completes (.converterBoundary .dca i) s (fun e => e.o Obj.STATE_5400 = 5 ∧ e.o Obj.PRE_STATE = 2 ∧ e.raised 0x76 ∧ e.link.job = some { j with phase := 1 } ∧ s.dev.RaisesOnly e ∧ OnlyObjects (fun k => dabKey .dca k || isReaction k) s.dev e)) ∧
  (∀ (s : State) (vdc : Nat) (j : Precharge) (n : Nat), s.dev.alive = true → s.dev.preIn 1 = some j → j.mode = 1 → 100 * ((vdc : Int) - j.vs).natAbs ≤ 2 * j.vs → s.dev.mainOf j.src = some n → 
    Completes (.reverseLinkReached vdc) s (fun e => e.o Obj.PRE_STATE = 3 ∧ e.o Obj.VDC = vdc ∧ (e.ctrOf n).on = true ∧ e.o (at' Obj.STATE_5810 n) = 1 ∧ e.preIn 2 = some { j with phase := 2 } ∧
      ({ s.dev with link := e.link, ctrs := e.ctrs } : Dev).ShowsOnly e ∧ OnlyObjects (fun k => k == Obj.PRE_STATE || k == Obj.VDC || k == at' Obj.STATE_5810 n || k == at' Obj.CYCLES_5810 n) s.dev e)) ∧
  (∀ (s : State) (vdc vout : Nat) (timeout : Bool) (j : Precharge), s.dev.alive = true → s.dev.link.job = some j → j.mode = 1 → j.phase ≤ 2 → (vout < s.dev.n Obj.V_LVB_MIN ∨ 105 * j.vs < 100 * vdc ∨ (timeout = true ∧ j.phase < 2)) → 
    Completes (.reversePrechargeFail vdc vout timeout) s (fun e => (e.o Obj.PRE_STATE = 5 ∨ (e.o Obj.PRE_STATE = 6 ∧ e.link.after = 5)) ∧ e.raised 0x89 ∧ e.inForce 0x6477 .lnk ∧ e.link.job = none ∧ s.dev.RaisesOnly e ∧ OnlyObjects (fun k => k == Obj.VDC || isReaction k) s.dev e))

/-- Gate channels and their latches. Each clause says what it takes from R264, R265, R269, R270, R274, R276, R277. Where the spec leaves a point of
these clauses open, the model's choice is log entry 76. -/
def Obligations.GateLatches : Prop :=
  (∀ (s : State) (n : Fin 40) (di : Bool), s.dev.alive = true → 1 ≤ s.dev.groupOf (n.val + 1) → s.dev.driven (s.dev.groupOf (n.val + 1)) = true → (if di then 2 ≤ s.dev.n (at' Obj.SC_MODE (s.dev.groupOf (n.val + 1) - 1)) else s.dev.n (at' Obj.SC_MODE (s.dev.groupOf (n.val + 1) - 1)) ≠ 2) → s.dev.latched (n.val + 1) = false → 
    Completes (.sysGateSc n di) s (fun e => bitOf (e.o (el Obj.STATUS_6020 (n.val + 1))) 1 = true ∧ bitOf (e.o (el Obj.STATUS_6020 (n.val + 1))) 0 = false ∧ bitOf (e.o (el Obj.STATUS_6020 (n.val + 1))) 7 = true ∧
      e.o (el Obj.SC_LATCHES (n.val + 1)) = satU32 (s.dev.o (el Obj.SC_LATCHES (n.val + 1)) + 1) ∧ e.raised 0x10 ∧ s.dev.RaisesOnly e ∧ OnlyObjects (fun k => k == el Obj.SC_LATCHES (n.val + 1) || isReaction k) s.dev e)) ∧
  (∀ (s : State) (n : Fin 40) (pos neg : Bool), s.dev.alive = true → s.dev.driven (s.dev.groupOf (n.val + 1)) = false → 
    Completes (.sysGateUvlo n pos neg) s (fun e => (pos = true → bitOf (e.o (el Obj.STATUS_6020 (n.val + 1))) 5 = true) ∧ (neg = true → bitOf (e.o (el Obj.STATUS_6020 (n.val + 1))) 6 = true) ∧ s.dev.ShowsOnly e ∧ OnlyObjects (fun k => k == el Obj.STATUS_6020 (n.val + 1)) s.dev e)) ∧
  (∀ (s : State) (n : Fin 40) (pos neg : Bool), s.dev.alive = true → (pos = true ∨ neg = true) → s.dev.driven (s.dev.groupOf (n.val + 1)) = true → s.dev.groupOf (n.val + 1) ≠ 9 → s.dev.latched (n.val + 1) = false → 
    Completes (.sysGateUvlo n pos neg) s (fun e => bitOf (e.o (el Obj.STATUS_6020 (n.val + 1))) 2 = true ∧ bitOf (e.o (el Obj.STATUS_6020 (n.val + 1))) 0 = false ∧ e.o (el Obj.UVLO_LATCHES (n.val + 1)) = satU32 (s.dev.o (el Obj.UVLO_LATCHES (n.val + 1)) + 1) ∧ e.raised 0x11 ∧ s.dev.RaisesOnly e ∧ OnlyObjects (fun k => k == el Obj.UVLO_LATCHES (n.val + 1) || isReaction k) s.dev e)) ∧
  (∀ (s : State) (n : Fin 40), s.dev.alive = true → 
    Completes (.gateUvloEnd n) s (fun e => bitOf (e.o (el Obj.STATUS_6020 (n.val + 1))) 5 = false ∧ bitOf (e.o (el Obj.STATUS_6020 (n.val + 1))) 6 = false ∧
      (∀ j, j ≠ 5 → j ≠ 6 → bitOf (e.o (el Obj.STATUS_6020 (n.val + 1))) j = bitOf (s.dev.o (el Obj.STATUS_6020 (n.val + 1))) j) ∧ s.dev.ShowsOnly e ∧ OnlyObjects (fun k => k == el Obj.STATUS_6020 (n.val + 1)) s.dev e)) ∧
  (∀ (s : State) (n : Fin 40) (mw : Nat), s.dev.alive = true → 1450 < mw → s.dev.n (el Obj.GATE_POWER (n.val + 1)) ≤ 1450 → 
    Completes (.sysGateWarn n mw) s (fun e => e.o (el Obj.GATE_POWER (n.val + 1)) = (min mw 65535 : Nat) ∧ e.raised 0x13 ∧ s.dev.RaisesOnly e ∧ OnlyObjects (fun k => k == el Obj.GATE_POWER (n.val + 1) || isReaction k) s.dev e)) ∧
  (∀ (s : State) (n : Fin 40) (mw : Nat), s.dev.alive = true → mw ≤ 1450 → 
    Completes (.sysGateWarn n mw) s (fun e => e.o (el Obj.GATE_POWER (n.val + 1)) = mw ∧ s.dev.ShowsOnly e ∧ OnlyObjects (fun k => k == el Obj.GATE_POWER (n.val + 1)) s.dev e)) ∧
  (∀ (s : State) (n : Fin 40) (temp : Int) (g : Nat), s.dev.alive = true → s.dev.groupOf (n.val + 1) = g → g ≠ 0 → s.dev.o (at' Obj.TS_TYPE (g - 1)) ≠ 0 → s.dev.o (at' Obj.TS_TRIP (g - 1)) < clampI (-32767) 32767 temp → (Tab.get {} s.dev.gates (n.val + 1) : Gate).tsHigh = 2 → bitOf (s.dev.o (el Obj.STATUS_6020 (n.val + 1))) 3 = false → 
    Completes (.tsConversion n temp) s (fun e => e.o (el Obj.TS_TEMP (n.val + 1)) = clampI (-32767) 32767 temp ∧ bitOf (e.o (el Obj.STATUS_6020 (n.val + 1))) 3 = true ∧ e.raised 0x12 ∧ ({ s.dev with gates := e.gates } : Dev).RaisesOnly e ∧ OnlyObjects (fun k => k == el Obj.TS_TEMP (n.val + 1) || isReaction k) s.dev e)) ∧
  (∀ (s : State) (n : Fin 40) (temp : Int) (g : Nat), s.dev.alive = true → s.dev.groupOf (n.val + 1) = g → g ≠ 0 → s.dev.o (at' Obj.TS_TYPE (g - 1)) ≠ 0 → clampI (-32767) 32767 temp ≤ s.dev.o (at' Obj.TS_WARN (g - 1)) → s.dev.o (at' Obj.TS_WARN (g - 1)) ≤ s.dev.o (at' Obj.TS_TRIP (g - 1)) → 
    Completes (.tsConversion n temp) s (fun e => e.o (el Obj.TS_TEMP (n.val + 1)) = clampI (-32767) 32767 temp ∧ (Tab.get {} e.gates (n.val + 1) : Gate).tsHigh = 0 ∧ ({ s.dev with gates := e.gates } : Dev).ShowsOnly e ∧ OnlyObjects (fun k => k == el Obj.TS_TEMP (n.val + 1)) s.dev e)) ∧
  (∀ (s : State) (n : Fin 40), s.dev.alive = true → bitOf (s.dev.o (el Obj.STATUS_6020 (n.val + 1))) 4 = false → 
    Completes (.sysGateLink n) s (fun e => bitOf (e.o (el Obj.STATUS_6020 (n.val + 1))) 4 = true ∧ bitOf (e.o (el Obj.STATUS_6020 (n.val + 1))) 0 = false ∧ e.raised 0x14 ∧ s.dev.RaisesOnly e ∧ OnlyObjects (fun k => isReaction k) s.dev e)) ∧
  (∀ (s : State) (n : Fin 40), s.dev.alive = true → s.dev.latched (n.val + 1) = true → s.dev.groupOf (n.val + 1) = 3 → s.dev.grid.step ≠ 0 → 
    Completes (.latchReaction n) s (fun e => e.o Obj.STATE_5000 = 0 ∧ e.o Obj.S2 = 0 ∧ e.grid.step = 0 ∧ s.dev.RaisesOnly e ∧ OnlyObjects (fun k => isReaction k) s.dev e)) ∧
  (∀ (s : State) (n : Fin 40) (m : Mach), s.dev.alive = true → bitOf (s.dev.o (el Obj.STATUS_6020 (n.val + 1))) 7 = true → s.dev.latched (n.val + 1) = true → groupMach (s.dev.groupOf (n.val + 1)) = some m → s.dev.o (tk m Obj.BRIDGE_STATE) = 0 → 
    Completes (.softTurnoffEnd n) s (fun e => bitOf (e.o (el Obj.STATUS_6020 (n.val + 1))) 7 = false ∧ 3 ≤ e.o (tk m Obj.BRIDGE_STATE) ∧ e.o (tk m Obj.ASC_CAUSE) = 7 ∧ s.dev.RaisesOnly e ∧ OnlyObjects (fun k => isReaction k) s.dev e))

/-- Comparators, DRIVE_EN and tests. Each clause says what it takes from R261, R272, R278, R279, R281, R282. Where the spec leaves a point of these
clauses open, the model's choice is log entries 76, 77 and 78. -/
def Obligations.ComparatorsAndDriveEn : Prop :=
  (∀ (s : State) (h : Fin 6), s.dev.alive = true → 
    Completes (.ocComparatorTrip h []) s (fun e => e.ocTrips.contains h.val = true ∧ e.ocHold.contains h.val = true ∧ (∃ dom, e.inForce (nodeFault h) dom) ∧ ({ s.dev with ocTrips := e.ocTrips, ocHold := e.ocHold } : Dev).RaisesOnly e ∧ OnlyObjects (fun k => k == Obj.OV_TIER || k == Obj.CHOP_OC_TRIPS || isReaction k) s.dev e)) ∧
  (∀ (s : State), s.dev.alive = true → s.dev.faultOn 0x3487 = false → 
    Completes (.ocComparatorTrip 2 []) s (fun e => e.raised 0x6B ∧ e.inForce 0x3487 .grd ∧ e.o Obj.STATE_5000 = 0 ∧ ({ s.dev with ocTrips := e.ocTrips, ocHold := e.ocHold } : Dev).RaisesOnly e ∧ OnlyObjects (fun k => isReaction k) s.dev e)) ∧
  (∀ (s : State) (h : Fin 6), s.dev.alive = true → s.dev.ocHold.contains h.val = true → 2 ≤ h.val → 
    Completes (.ocHoldRelease h) s (fun e => e.ocHold = s.dev.ocHold.filter (· != h.val) ∧ ({ s.dev with ocHold := e.ocHold } : Dev).ShowsOnly e ∧ OnlyObjects (fun _ => false) s.dev e)) ∧
  (∀ (s : State), s.dev.alive = true → s.dev.b Obj.DRIVE_EN = true → s.dev.o Obj.BRIDGE_STATE = 1 → s.dev.o Obj.ABOVE_ASC = 0 → s.dev.grid.step = 5 → 
    Completes (.driveEnLow) s (fun e => e.o Obj.DRIVE_EN = 0 ∧ e.driveLow = s.dev.wall ∧ e.raised 0x15 ∧ e.o Obj.BRIDGE_STATE = 0 ∧ e.o Obj.STATE_5000 = 0 ∧ ({ s.dev with driveLow := e.driveLow } : Dev).RaisesOnly e ∧ OnlyObjects (fun k => k == Obj.DRIVE_EN || isReaction k) s.dev e)) ∧
  (∀ (s : State) (mask : Int), s.dev.phase = .service → (mask < 0 ∨ 65535 < mask) → 
    Completes (.offstateTestRequest mask) s (fun e => e.result = 0x30000002 ∧ ({ s.dev with result := e.result } : Dev).ShowsOnly e ∧ OnlyObjects (fun _ => false) s.dev e)) ∧
  (∀ (s : State), s.dev.phase = .service → s.dev.stopped .tra = false → 
    Completes (.offstateTestRequest 2) s (fun e => e.result = 0x40000002 ∧ ({ s.dev with result := e.result } : Dev).ShowsOnly e ∧ OnlyObjects (fun _ => false) s.dev e)) ∧
  (∀ (s : State), s.dev.phase = .service → s.dev.stopped .grd = true → s.dev.testOff 3 = true → s.dev.groupChannels 3 ≠ [] → 
    Completes (.offstateTestRequest 8) s (fun e => e.result = 0 ∧ e.testing.contains 3 = true ∧ e.o Obj.OFFTEST_STATE = 1 ∧ ({ s.dev with testing := e.testing, result := e.result } : Dev).ShowsOnly e ∧ OnlyObjects (fun k => k == Obj.OFFTEST_STATE) s.dev e)) ∧
  (∀ (s : State) (g : Fin 10) (vl : Int), s.dev.alive = true → s.dev.testing.contains g.val = true → 
    Completes (.sysDiagDone g [] vl) s (fun e => e.testing = s.dev.testing.filter (· != g.val) ∧ e.riseTests = s.dev.riseTests.filter (· != g.val) ∧ e.raised 0x17 ∧ (∀ n ∈ s.dev.groupChannels g, e.o (el Obj.DIAG_RESULT_6024 n) = 0) ∧
      ({ s.dev with testing := e.testing, riseTests := e.riseTests } : Dev).ShowsOnly e ∧ OnlyObjects (fun k => k == Obj.OFFTEST_STATE || (0x6020 ≤ keyIdx k && keyIdx k ≤ 0x6027) || isTraceCount k) s.dev e)) ∧
  (∀ (s : State) (r : LegReading) (vl : Int), s.dev.alive = true → s.dev.testing.contains 3 = true → s.dev.riseTests.contains 3 = false → judgeLeg vl r = 0 → ((s.dev.groupChannels 3).all (fun n => decide ((s.dev.legOf n).1 < 3)) = true) → 
    Completes (.sysDiagDone 3 [r, r, r] vl) s (fun e => e.raised 0x17 ∧ (∀ n ∈ s.dev.groupChannels 3, e.o (el Obj.DIAG_RESULT_6024 n) = 1 ∧ e.o (el Obj.MID_PLUS n) = satI32 r.plus ∧ e.o (el Obj.MID_MINUS n) = satI32 r.minus) ∧
      ({ s.dev with testing := e.testing, riseTests := e.riseTests } : Dev).ShowsOnly e ∧ OnlyObjects (fun k => k == Obj.OFFTEST_STATE || (0x6020 ≤ keyIdx k && keyIdx k ≤ 0x6027) || isTraceCount k) s.dev e)) ∧
  (∀ (s : State) (v : Int), s.dev.phase = .service → s.dev.o Obj.LIFE_CYCLE ≠ 2 → 
    Completes (.assignCommit v) s (fun e => e.result = 0x20000004 ∧ ({ s.dev with result := e.result } : Dev).ShowsOnly e ∧ OnlyObjects (fun _ => false) s.dev e)) ∧
  (∀ (s : State) (v : Int), s.dev.phase = .service → s.dev.o Obj.LIFE_CYCLE = 2 → v ≠ 1 → 
    Completes (.assignCommit v) s (fun e => e.result = 0x30000002 ∧ ({ s.dev with result := e.result } : Dev).ShowsOnly e ∧ OnlyObjects (fun _ => false) s.dev e)) ∧
  (∀ (s : State), s.dev.phase = .service → s.dev.o Obj.LIFE_CYCLE = 2 → s.dev.ahead.assignOk = false → 
    Completes (.assignCommit 1) s (fun e => e.result = 0x30000004 ∧ e.o Obj.ASSIGN_STATE = 2 ∧ ({ s.dev with result := e.result } : Dev).ShowsOnly e ∧ OnlyObjects (fun k => k == Obj.ASSIGN_STATE) s.dev e)) ∧
  (∀ (s : State), s.dev.phase = .service → s.dev.o Obj.LIFE_CYCLE = 2 → s.dev.writes = [] → s.dev.assignOk = true → ([Domain.tra, .trb, .grd, .dca, .dcb, .lnk].all (fun dom => s.dev.stopped dom) = true) → s.dev.o (el Obj.GROUP_6000 37) = 0 → s.dev.n (el Obj.POSITION 37) < 8 → 
    Completes (.assignCommit 1) s (fun e => e.result = 0 ∧ e.o Obj.ASSIGN_STATE = 0 ∧ (∀ n ∈ allChannels, e.committedOf n = (s.dev.pendingAssign n).1 * 8 + (s.dev.pendingAssign n).2) ∧ ({ s.dev with gates := e.gates, result := e.result } : Dev).ShowsOnly e ∧ OnlyObjects (fun k => k == Obj.ASSIGN_STATE || k == Obj.CHANNELS_REPLACED) s.dev e))

/-- The periods of the low-voltage side. Each clause says what it takes from R166, R167, R287, R290, R291, R297, R298, R310. Where the spec leaves a
point of these clauses open, the model's choice is log entries 5 and 82. -/
def Obligations.LvBoundaries : Prop :=
  (∀ (s : State) (j : Fin 8) (i : LvIn), s.dev.alive = true → j.val < 4 → [1, 2, 3, 4].contains (s.dev.n (at' Obj.STATE_7200 j)) = false → (s.dev.lvOf j).uv = 0 → 
    Completes (.lvBoundary j i) s (fun e => e.o Obj.VLV = (min 65535 i.vlv : Nat) ∧ e.o (at' Obj.I_A j) = satI32 (i.i.getD 0 0) ∧ e.o (at' Obj.I_B j) = satI32 (i.i.getD 1 0) ∧ e.vlvHigh = decide (s.dev.n Obj.VLV_OV < i.vlv) ∧
      (∀ m : Fin 4, e.o (el Obj.BOOT_V (4 * j + 1 + m)) = (min 65535 (i.boots.getD m 0) : Nat) ∧
      bitOf (e.o (el Obj.HB_STATUS (4 * j + 1 + m))) 3 = decide (i.boots.getD m 0 < 900) ∧ bitOf (e.o (el Obj.HB_STATUS (4 * j + 1 + m))) 4 = decide (i.boots.getD m 0 < 750) ∧
      bitOf (e.o (el Obj.HB_STATUS (4 * j + 1 + m))) 5 = i.high.getD m false ∧ bitOf (e.o (el Obj.HB_STATUS (4 * j + 1 + m))) 6 = i.low.getD m false ∧
      (∀ b : Fin 3, bitOf (e.o (el Obj.HB_STATUS (4 * j + 1 + m))) b = bitOf (s.dev.o (el Obj.HB_STATUS (4 * j + 1 + m))) b)) ∧
      ({ s.dev with hbs := e.hbs, vlvHigh := e.vlvHigh, lvLimit := e.lvLimit } : Dev).RaisesOnly e ∧ OnlyObjects (fun k => k == Obj.VLV || k == at' Obj.I_A j || k == at' Obj.I_B j || keyIdx k == 0x7000 || keyIdx k == 0x7001 || keyIdx k == 0x7005 || isReaction k) s.dev e)) ∧
  (∀ (s : State) (j : Fin 8) (i : LvIn), s.dev.alive = true → 4 ≤ j.val → s.dev.bldcState (j - 4) = 1 → (s.dev.bldcOf (j - 4)).sector = 0 → (s.dev.bldcOf (j - 4)).tripped = false → s.dev.b (axTrack j).validKey = false → (s.dev.lvOf j).uv = 0 → 
    Completes (.lvBoundary j i) s (fun e => e.o Obj.VLV = (min 65535 i.vlv : Nat) ∧ e.o (at' Obj.DUTY (j - 4)) = alignDuty s.dev (j - 4) i.vlv (i.i.getD 0 0) ∧ e.o (at' Obj.I_DC (j - 4)) = clampI (-32768) 32767 (i.i.getD 0 0 / 100) ∧
      bitOf (e.o (el Obj.HB_STATUS (17 + 3 * (j - 4)))) 0 = decide (0 < alignDuty s.dev (j - 4) i.vlv (i.i.getD 0 0)) ∧
      bitOf (e.o (el Obj.HB_STATUS (18 + 3 * (j - 4)))) 1 = bitOf (s.dev.o (el Obj.HB_STATUS (18 + 3 * (j - 4)))) 1 ∧
      (∀ m : Fin 3, e.o (el Obj.BOOT_V (17 + 3 * (j - 4) + m)) = (min 65535 (i.boots.getD m 0) : Nat)) ∧
      ({ s.dev with hbs := e.hbs, bldcs := e.bldcs, tracks := e.tracks, vlvHigh := e.vlvHigh, lvLimit := e.lvLimit } : Dev).RaisesOnly e ∧ OnlyObjects (fun k => k == Obj.VLV || k == at' Obj.DUTY (j.val - 4) || k == at' Obj.I_DC (j.val - 4) || keyIdx k == 0x7000 || keyIdx k == 0x7001 || keyIdx k == 0x7002 || keyIdx k == 0x7005 || isReaction k) s.dev e)) ∧
  (∀ (s : State) (i : Int), s.dev.alive = true → i ≤ 800 → ((List.range 8).any (fun k => s.dev.lvHot k) = false) → 
    Completes (.vlvBudgetEval i) s (fun e => e.o Obj.I_VLV = clampI (-32768) 32767 i ∧ (∀ g : Fin 4, e.bldcOf g = { s.dev.bldcOf g with reduce := 0 }) ∧ e.lvLimit = false ∧ ({ s.dev with bldcs := e.bldcs, lvLimit := e.lvLimit } : Dev).ShowsOnly e ∧ OnlyObjects (fun k => k == Obj.I_VLV) s.dev e)) ∧
  (∀ (s : State) (i : Int), s.dev.alive = true → 800 < i → s.dev.lvLimit = false → 0 < s.dev.n (at' Obj.I_LIMIT_7100 3) → 
    Completes (.vlvBudgetEval i) s (fun e => e.o Obj.I_VLV = clampI (-32768) 32767 i ∧ (e.bldcOf 3).reduce = min (i - 800).toNat (s.dev.n (at' Obj.I_LIMIT_7100 3)) ∧
      (e.bldcOf 2).reduce = min ((i - 800).toNat - s.dev.n (at' Obj.I_LIMIT_7100 3)) (s.dev.n (at' Obj.I_LIMIT_7100 2)) ∧
      e.raised 0x9A ∧ e.coll.log.getLast?.map LogRec.code = some 0x70C6 ∧ e.lvLimit = true ∧ ({ s.dev with bldcs := e.bldcs, lvLimit := e.lvLimit } : Dev).RaisesOnly e ∧ OnlyObjects (fun k => k == Obj.I_VLV || isReaction k) s.dev e)) ∧
  (∀ (s : State) (j : Fin 8) (coil : Fin 2) (before : Bool), s.dev.alive = true → 4 ≤ j.val → 
    Completes (.cycleByCycleTrip j coil before) s (fun e => (∀ n ∈ hbsOf j, bitOf (e.o (el Obj.HB_STATUS n)) 0 = false ∧ ∀ b : Fin 7, 0 < b.val → bitOf (e.o (el Obj.HB_STATUS n)) b = bitOf (s.dev.o (el Obj.HB_STATUS n)) b) ∧
      (e.bldcOf (j - 4)).tripped = (before || (s.dev.bldcOf (j - 4)).tripped) ∧ ({ s.dev with bldcs := e.bldcs } : Dev).ShowsOnly e ∧ OnlyObjects (fun k => (hbsOf j).any (fun n => k == el Obj.HB_STATUS n)) s.dev e)) ∧
  (∀ (s : State) (j : Fin 8) (coil : Fin 2) (before : Bool), s.dev.alive = true → j.val < 4 → 
    Completes (.cycleByCycleTrip j coil before) s (fun e => bitOf (e.o (el Obj.HB_STATUS (4 * j + 2 * coil + 1))) 0 = false ∧ bitOf (e.o (el Obj.HB_STATUS (4 * j + 2 * coil + 2))) 0 = false ∧ s.dev.ShowsOnly e ∧
      OnlyObjects (fun k => k == el Obj.HB_STATUS (4 * j + 2 * coil + 1) || k == el Obj.HB_STATUS (4 * j + 2 * coil + 2)) s.dev e)) ∧
  (∀ (s : State) (L : Fin 128), s.dev.alive = true → 96 ≤ L.val → s.dev.o (lk Obj.TRIGGER L) ≠ 3 → s.dev.writes = [] → s.dev.leBlocked.contains (L.val / 16) = false → s.dev.leMoving = none → s.dev.b (lk Obj.ENABLE_A100 L) = true → s.dev.o (lk Obj.SP_SOURCE L) = 0 → s.dev.o (lk Obj.OUT_TARGET L) = 0 → s.dev.loopFrozen L = false → (s.dev.loopOf L).holdNext = false → (s.dev.loopOf L).halve = false → (s.dev.loopOf L).first = false → (s.dev.loopOf L).swap = false → s.dev.outers L = [] → s.dev.loopPoisoned L = false → s.dev.o (lk Obj.FE_TIME L) = 0 → bitOf (s.dev.o (lk Obj.FLAGS L)) 5 = false → s.dev.o (lk Obj.TRACE_NODES L) = 0 → 
    Completes (.loopSample L) s (fun e => e.o (lk Obj.ERROR L) = (slotSample s.dev L).e ∧ e.o (lk Obj.OUTPUT L) = (slotSample s.dev L).out ∧ e.o (lk Obj.INTEGRATOR L) = (slotSample s.dev L).iAcc ∧
      e.o (lk Obj.DERIV L) = (slotSample s.dev L).d ∧ e.o (lk Obj.FLAGS L) = putBit (Nat.lor (s.dev.n (lk Obj.FLAGS L)) (slotSample s.dev L).flags : Nat) 6 false ∧
      e.o (lk Obj.SAMPLES L) = wrapU32 (s.dev.o (lk Obj.SAMPLES L) + 1) ∧ e.loopOf L = { s.dev.loopOf L with xPrev := (slotSample s.dev L).x, cascade := (s.dev.loopOf L).cascade + 1 } ∧
      ({ s.dev with loops := e.loops } : Dev).ShowsOnly e ∧ OnlyObjects (fun k => k == lk Obj.ERROR L || k == lk Obj.OUTPUT L || k == lk Obj.INTEGRATOR L || k == lk Obj.DERIV L || k == lk Obj.FLAGS L || k == lk Obj.SAMPLES L || k == lk Obj.FE_TIMER L) s.dev e))

/-- Protection of the low-voltage half-bridges. Each clause says what it takes from R279, R288, R289, R292, R293, R306, R307. Where the spec leaves a
point of these clauses open, the model's choice is log entries 21 and 83. -/
def Obligations.LvProtection : Prop :=
  (∀ (s : State) (n : Fin 28), s.dev.alive = true → 16 ≤ n.val → 
    Completes (.actBootUv n) s (fun e => e.o (at' Obj.STATE_7100 (hbGroup (n + 1) - 4)) = 7 ∧ bitOf (e.o (el Obj.HB_STATUS (n + 1))) 4 = true ∧ (∀ m ∈ hbsOf (hbGroup (n + 1)), bitOf (e.o (el Obj.HB_STATUS m)) 0 = false ∧ bitOf (e.o (el Obj.HB_STATUS m)) 1 = false) ∧
      (e.lvOf (hbGroup (n + 1))).uv = 1 ∧ e.raised 0x91 ∧ e.inForce 0x72C0 .act ∧ ({ s.dev with lvs := e.lvs, bldcs := e.bldcs } : Dev).RaisesOnly e ∧
      OnlyObjects (fun k => keyIdx k == 0x7000 || keyIdx k == 0x7100 + (hbGroup (n + 1) - 4) || k == (axTrack (hbGroup (n + 1))).validKey || k == (axTrack (hbGroup (n + 1))).rateKey || isReaction k || k == lk Obj.ENABLE_A100 (bldcLoop (hbGroup (n + 1) - 4))) s.dev e)) ∧
  (∀ (s : State) (n : Fin 28), s.dev.alive = true → n.val < 16 → 
    Completes (.actBootUv n) s (fun e => e.o (at' Obj.STATE_7200 (hbGroup (n + 1))) = 6 ∧ e.o (at' Obj.HOMED (hbGroup (n + 1))) = 0 ∧ bitOf (e.o (el Obj.HB_STATUS (n + 1))) 4 = true ∧ (∀ m ∈ hbsOf (hbGroup (n + 1)), bitOf (e.o (el Obj.HB_STATUS m)) 0 = false ∧ bitOf (e.o (el Obj.HB_STATUS m)) 1 = false) ∧
      (e.lvOf (hbGroup (n + 1))).uv = 1 ∧ (e.axisOf (hbGroup (n + 1))).doing = 0 ∧ e.raised 0x91 ∧ e.inForce 0x72C0 .act ∧ ({ s.dev with lvs := e.lvs, axes := e.axes } : Dev).RaisesOnly e ∧
      OnlyObjects (fun k => keyIdx k == 0x7000 || k == at' Obj.STATE_7200 (hbGroup (n + 1)) || k == at' Obj.HOMED (hbGroup (n + 1)) || k == (axTrack (hbGroup (n + 1))).validKey || k == (axTrack (hbGroup (n + 1))).rateKey || isReaction k) s.dev e)) ∧
  (∀ (s : State) (n : Fin 28), s.dev.alive = true → 16 ≤ n.val → 
    Completes (.actHbOc n) s (fun e => e.o (at' Obj.STATE_7100 (hbGroup (n + 1) - 4)) = 7 ∧ e.o (at' Obj.RUN_7100 (hbGroup (n + 1) - 4)) = 0 ∧ bitOf (e.o (el Obj.HB_STATUS (n + 1))) 2 = true ∧
      (∀ m ∈ hbsOf (hbGroup (n + 1)), bitOf (e.o (el Obj.HB_STATUS m)) 0 = false ∧ bitOf (e.o (el Obj.HB_STATUS m)) 1 = false) ∧
      e.o (el Obj.OC_LATCHES (n + 1)) = satU32 (s.dev.o (el Obj.OC_LATCHES (n + 1)) + 1) ∧ e.raised 0x92 ∧ e.inForce 0x72C1 .act ∧ ({ s.dev with bldcs := e.bldcs } : Dev).RaisesOnly e ∧
      OnlyObjects (fun k => keyIdx k == 0x7000 || k == el Obj.OC_LATCHES (n + 1) || keyIdx k == 0x7100 + (hbGroup (n + 1) - 4) || k == (axTrack (hbGroup (n + 1))).validKey || k == (axTrack (hbGroup (n + 1))).rateKey || isReaction k || k == lk Obj.ENABLE_A100 (bldcLoop (hbGroup (n + 1) - 4))) s.dev e)) ∧
  (∀ (s : State) (n : Fin 28), s.dev.alive = true → n.val < 16 → 
    Completes (.actHbOc n) s (fun e => e.o (at' Obj.STATE_7200 (hbGroup (n + 1))) = 6 ∧ e.o (at' Obj.HOMED (hbGroup (n + 1))) = 0 ∧ bitOf (e.o (el Obj.HB_STATUS (n + 1))) 2 = true ∧
      e.o (el Obj.OC_LATCHES (n + 1)) = satU32 (s.dev.o (el Obj.OC_LATCHES (n + 1)) + 1) ∧ e.raised 0x92 ∧ e.inForce 0x72C1 .act ∧ ({ s.dev with axes := e.axes } : Dev).RaisesOnly e ∧
      OnlyObjects (fun k => keyIdx k == 0x7000 || k == el Obj.OC_LATCHES (n + 1) || k == at' Obj.STATE_7200 (hbGroup (n + 1)) || k == at' Obj.HOMED (hbGroup (n + 1)) || k == (axTrack (hbGroup (n + 1))).validKey || k == (axTrack (hbGroup (n + 1))).rateKey || isReaction k) s.dev e)) ∧
  (∀ (s : State), s.dev.alive = true → 
    Completes (.actVlvLow) s (fun e => (∀ g : Fin 4, e.o (at' Obj.STATE_7100 g) = 7 ∧ e.o (at' Obj.STATE_7200 g) = 6 ∧ e.o (at' Obj.HOMED g) = 0) ∧ (∀ n : Fin 28, bitOf (e.o (Obj.HB_STATUS + n)) 0 = false ∧ bitOf (e.o (Obj.HB_STATUS + n)) 1 = false) ∧
      e.raised 0x97 ∧ e.inForce 0x74C3 .act ∧ ({ s.dev with axes := e.axes, bldcs := e.bldcs } : Dev).RaisesOnly e ∧ OnlyObjects (fun k => actKey k || isReaction k) s.dev e)) ∧
  (∀ (s : State), s.dev.alive = true → 
    Completes (.vlvHwOvervoltage) s (fun e => (∀ g : Fin 4, e.o (at' Obj.STATE_7100 g) = 7 ∧ e.o (at' Obj.STATE_7200 g) = 6 ∧ e.o (at' Obj.HOMED g) = 0) ∧ (∀ n : Fin 28, bitOf (e.o (Obj.HB_STATUS + n)) 0 = false ∧ bitOf (e.o (Obj.HB_STATUS + n)) 1 = false) ∧
      e.raised 0x98 ∧ e.inForce 0x74C4 .act ∧ ({ s.dev with axes := e.axes, bldcs := e.bldcs } : Dev).RaisesOnly e ∧ OnlyObjects (fun k => actKey k || isReaction k) s.dev e)) ∧
  (∀ (s : State) (mask : Int), s.dev.phase = .service → 0 ≤ mask → mask ≤ 255 → 
    Completes (.lvDiagRequest mask) s (fun e => e.result = 0 ∧ e.writes = s.dev.writes ++ [{ key := Obj.DIAG_REQUEST, val := mask }] ∧ ({ s.dev with writes := e.writes, result := e.result } : Dev).ShowsOnly e ∧ OnlyObjects (fun _ => false) s.dev e)) ∧
  (∀ (s : State) (j : Fin 8) (rs : List HbReading), s.dev.alive = true → (s.dev.lvOf j).testing = true → (s.dev.lvOf j).rise = false → rs.length = (hbsOf j).length → (rs.all (fun r => judgeHb true r == 1) = true) → 
    Completes (.actDiagDone j rs) s (fun e => (∀ n ∈ hbsOf j, e.o (el Obj.DIAG_RESULT_7004 n) = 1) ∧ (4 ≤ j.val → e.o (at' Obj.STATE_7100 (j - 4)) = 0) ∧ e.lvOf j = { s.dev.lvOf j with testing := false, rise := false } ∧
      e.raised 0x99 ∧ ({ s.dev with lvs := e.lvs } : Dev).ShowsOnly e ∧ OnlyObjects (fun k => (hbsOf j).any (fun n => k == el Obj.DIAG_RESULT_7004 n) || k == at' Obj.STATE_7100 (j.val - 4) || k == Obj.DIAG_STATE || isTraceCount k) s.dev e)) ∧
  (∀ (s : State) (j : Fin 8) (rs : List HbReading), s.dev.alive = true → (s.dev.lvOf j).testing = true → 4 ≤ j.val → rs.length = 3 → (rs.all (fun r => judgeHb true r == 1) = false) → 
    Completes (.actDiagDone j rs) s (fun e => e.o (at' Obj.STATE_7100 (j - 4)) = 0 ∧ e.o (at' Obj.RUN_7100 (j - 4)) = 0 ∧ e.lvOf j = { s.dev.lvOf j with testing := false, rise := false, failed := true } ∧
      (∀ n : Fin 3, e.o (el Obj.DIAG_RESULT_7004 (17 + 3 * (j - 4) + n)) = (rs[n]?.map (judgeHb (rs.all (fun r => r.h1 && !r.l1 && r.l2 && !r.h2)))).getD 0) ∧ e.raised 0x99 ∧ e.inForce 0x72C5 .act ∧
      ({ s.dev with lvs := e.lvs } : Dev).RaisesOnly e ∧ OnlyObjects (fun k => (hbsOf j).any (fun n => k == el Obj.DIAG_RESULT_7004 n) || k == at' Obj.STATE_7100 (j.val - 4) || k == at' Obj.RUN_7100 (j.val - 4) || k == Obj.DIAG_STATE || isReaction k) s.dev e)) ∧
  (∀ (s : State) (silent : List Nat), s.dev.alive = true → s.dev.o Obj.DRIVE_EN = 0 → s.dev.wall < s.dev.driveLow + 10000 → 
    Completes (.driveEnRise silent) s (fun e => e.o Obj.DRIVE_EN = 1 ∧ driveFaults.all (fun p => !(e.faultOn p.2)) = true ∧ s.dev.RaisesOnly e ∧ OnlyObjects (fun k => k == Obj.DRIVE_EN || isReaction k) s.dev e))

/-- The start of a BLDC group. Each clause says what it takes from R296, R300, R301, R304. Where the spec leaves a point of these clauses open, the
model's choice is log entries 80 and 81. -/
def Obligations.BldcStart : Prop :=
  (∀ (s : State) (g : Fin 4), s.dev.phase = .service → s.dev.fuseBars [9] = false → s.dev.bldcFree g = true → 
    Completes (.bldcRun g) s (fun e => e.result = 0 ∧ e.writes = s.dev.writes ++ [{ key := at' Obj.RUN_7100 g, val := 1 }] ∧ ({ s.dev with writes := e.writes, result := e.result } : Dev).ShowsOnly e ∧ OnlyObjects (fun _ => false) s.dev e)) ∧
  (∀ (s : State) (g : Fin 4), s.dev.phase = .service → s.dev.fuseBars [9] = false → s.dev.bldcFree g = false → 
    Completes (.bldcRun g) s (fun e => e.result = resState ∧ ({ s.dev with result := e.result } : Dev).ShowsOnly e ∧ OnlyObjects (fun _ => false) s.dev e)) ∧
  (∀ (s : State) (g : Fin 4), s.dev.phase = .service → 
    Completes (.bldcStop g) s (fun e => e.result = 0 ∧ e.writes = s.dev.writes ++ [{ key := at' Obj.RUN_7100 g, val := 0 }] ∧ ({ s.dev with writes := e.writes, result := e.result } : Dev).ShowsOnly e ∧ OnlyObjects (fun _ => false) s.dev e)) ∧
  (∀ (s : State) (g : Fin 4), s.dev.alive = true → s.dev.bldcState g = 1 → s.dev.slots = [] → s.dev.writes = [] → 
    Completes (.bldcAlignEnd g) s (fun e => e.o (at' Obj.STATE_7100 g) = 2 ∧ e.value (axTrack (4 + g)) = (axTrack (4 + g)).wrap (nearAngle (s.dev.value (axTrack (4 + g))) 21845) ∧ e.o (axTrack (4 + g)).rateKey = 0 ∧
      e.b (axTrack (4 + g)).validKey = true ∧ drives e g 2 ∧ (e.bldcOf g).rampAt = s.dev.wall ∧ (e.bldcOf g).zcAt = s.dev.wall ∧ e.raised 0xF2 ∧ ({ s.dev with bldcs := e.bldcs, tracks := e.tracks } : Dev).ShowsOnly e ∧ OnlyObjects (fun k => bldcKey g k || k == at' Obj.JUMPS (axTrack (4 + g)).code) s.dev e)) ∧
  (∀ (s : State) (g : Fin 4), s.dev.alive = true → s.dev.bldcState g = 2 → s.dev.slots = [] → s.dev.writes = [] → 
    Completes (.bldcRampStep g) s (fun e => drives e g (nextSector (s.dev.bldcOf g).sector (s.dev.bldcOf g).dir) ∧ e.o (axTrack (4 + g)).rateKey = rampRate s.dev g ∧ e.o (at' Obj.SPEED_7100 g) = s.dev.bldcSpeed g (rampRate s.dev g) ∧
      e.bldcState g = 2 ∧ ({ s.dev with bldcs := e.bldcs, tracks := e.tracks } : Dev).ShowsOnly e ∧ OnlyObjects (fun k => bldcKey g k || k == at' Obj.JUMPS (axTrack (4 + g)).code) s.dev e)) ∧
  (∀ (s : State) (g : Fin 4), s.dev.alive = true → s.dev.bldcState g = 2 → s.dev.n (at' Obj.TRIES g) ≠ 3 → 
    Completes (.bldcRampTimeout g) s (fun e => e.o (at' Obj.STATE_7100 g) = 4 ∧ coasts e g ∧ e.o (at' Obj.TRIES g) = s.dev.o (at' Obj.TRIES g) + 1 ∧ e.o (at' Obj.LOSSES_7100 g) = satU32 (s.dev.o (at' Obj.LOSSES_7100 g) + 1) ∧
      e.o (at' Obj.RUN_7100 g) = s.dev.o (at' Obj.RUN_7100 g) ∧ e.raised 0x94 ∧ ({ s.dev with bldcs := e.bldcs, loops := e.loops, pauses := e.pauses } : Dev).ShowsOnly e ∧ OnlyObjects (fun k => bldcKey g k) s.dev e)) ∧
  (∀ (s : State) (g : Fin 4), s.dev.alive = true → s.dev.bldcState g = 3 → (s.dev.bldcOf g).place.isSome = true → 
    Completes (.bldcCommutation g) s (fun e => drives e g (nextSector (s.dev.bldcOf g).sector (s.dev.bldcOf g).dir) ∧ (e.bldcOf g).place = none ∧ (e.bldcOf g).since = 0 ∧ (e.bldcOf g).crossed = false ∧ ({ s.dev with bldcs := e.bldcs } : Dev).ShowsOnly e ∧ OnlyObjects (fun k => keyIdx k == 0x7000) s.dev e))

/-- Loss and re-catch. Each clause says what it takes from R302, R303. Where the spec leaves a point of these clauses open, the model's choice is log
entry 81. -/
def Obligations.BldcLossAndRecatch : Prop :=
  (∀ (s : State) (g : Fin 4), s.dev.alive = true → s.dev.bldcState g = 3 → s.dev.n (at' Obj.TRIES g) ≠ 3 → 
    Completes (.actBlLost g) s (fun e => e.o (at' Obj.STATE_7100 g) = 4 ∧ coasts e g ∧ e.o (at' Obj.TRIES g) = s.dev.o (at' Obj.TRIES g) + 1 ∧ e.o (at' Obj.LOSSES_7100 g) = satU32 (s.dev.o (at' Obj.LOSSES_7100 g) + 1) ∧
      e.raised 0x94 ∧ ({ s.dev with bldcs := e.bldcs, loops := e.loops, pauses := e.pauses } : Dev).ShowsOnly e ∧ OnlyObjects (fun k => bldcKey g k) s.dev e)) ∧
  (∀ (s : State) (g : Fin 4), s.dev.alive = true → s.dev.bldcState g = 3 → s.dev.n (at' Obj.TRIES g) = 3 → 
    Completes (.actBlLost g) s (fun e => e.o (at' Obj.STATE_7100 g) = 7 ∧ coasts e g ∧ e.n (at' Obj.TRIES g) = 3 ∧ (e.bldcOf g).lost = true ∧ e.raised 0x94 ∧ e.raised 0x96 ∧ e.inForce 0x72C2 .act ∧ ({ s.dev with bldcs := e.bldcs } : Dev).RaisesOnly e ∧ OnlyObjects (fun k => bldcKey g k || isReaction k) s.dev e)) ∧
  (∀ (s : State) (g : Fin 4), s.dev.alive = true → s.dev.bldcState g = 4 → s.dev.pauses.contains (15 + g.val) = false → 
    Completes (.recatchStart g) s (fun e => e.o (at' Obj.STATE_7100 g) = 5 ∧ coasts e g ∧ ({ s.dev with bldcs := e.bldcs, loops := e.loops } : Dev).ShowsOnly e ∧ OnlyObjects (fun k => bldcKey g k) s.dev e)) ∧
  (∀ (s : State) (g : Fin 4) (angle : Nat) (rate : Int) (amp : Nat), s.dev.alive = true → s.dev.bldcState g = 5 → 100 * amp < 2 * s.dev.n Obj.VLV → 
    Completes (.actBlRecatch g angle rate amp) s (fun e => e.o (at' Obj.STATE_7100 g) = 1 ∧ drives e g 0 ∧ (e.bldcOf g).emf = amp ∧ ({ s.dev with bldcs := e.bldcs } : Dev).ShowsOnly e ∧ OnlyObjects (fun k => bldcKey g k) s.dev e)) ∧
  (∀ (s : State) (g : Fin 4) (angle : Nat) (rate : Int) (amp : Nat), s.dev.alive = true → s.dev.bldcState g = 5 → s.dev.slots = [] → s.dev.writes = [] → 2 * s.dev.n Obj.VLV ≤ 100 * amp → 0 < rate * (s.dev.bldcOf g).dir → 10 * (s.dev.bldcSpeed g rate).natAbs ≤ 11 * s.dev.n (at' Obj.MAX_SPEED_7100 g) → 
    Completes (.actBlRecatch g angle rate amp) s (fun e => e.o (at' Obj.STATE_7100 g) = 3 ∧ drives e g (sectorOf angle) ∧ e.o (at' Obj.SPEED_7100 g) = s.dev.bldcSpeed g rate ∧ e.o (axTrack (4 + g)).rateKey = rate ∧
      e.b (lk Obj.ENABLE_A100 (bldcLoop g)) = true ∧ (e.loopOf (bldcLoop g)).first = true ∧ (e.bldcOf g).integ = (amp * 10000000 : Nat) ∧ e.raised 0x95 ∧ ({ s.dev with bldcs := e.bldcs, tracks := e.tracks, loops := e.loops } : Dev).ShowsOnly e ∧
      OnlyObjects (fun k => bldcKey g k || k == at' Obj.JUMPS (axTrack (4 + g)).code) s.dev e)) ∧
  (∀ (s : State) (g : Fin 4) (angle : Nat) (rate : Int) (amp : Nat), s.dev.alive = true → s.dev.bldcState g = 5 → 2 * s.dev.n Obj.VLV ≤ 100 * amp → rate * (s.dev.bldcOf g).dir ≤ 0 → 
    Completes (.actBlRecatch g angle rate amp) s (fun e => e.o (at' Obj.STATE_7100 g) = 6 ∧ (∀ n ∈ hbsOf (4 + g), bitOf (e.o (el Obj.HB_STATUS n)) 0 = false ∧ bitOf (e.o (el Obj.HB_STATUS n)) 1 = true) ∧ (e.bldcOf g).braking = true ∧ ({ s.dev with bldcs := e.bldcs } : Dev).ShowsOnly e ∧ OnlyObjects (fun k => bldcKey g k) s.dev e)) ∧
  (∀ (s : State) (g : Fin 4), s.dev.alive = true → s.dev.bldcState g = 6 → (s.dev.bldcOf g).braking = true → 
    Completes (.lowSideBrakeEnd g false) s (fun e => e.o (at' Obj.STATE_7100 g) = 1 ∧ drives e g 0 ∧ (e.bldcOf g).braking = false ∧ ({ s.dev with bldcs := e.bldcs } : Dev).ShowsOnly e ∧ OnlyObjects (fun k => bldcKey g k) s.dev e)) ∧
  (∀ (s : State) (g : Fin 4), s.dev.alive = true → s.dev.bldcState g = 6 → (s.dev.bldcOf g).braking = true → s.dev.n (at' Obj.TRIES g) ≠ 3 → 
    Completes (.lowSideBrakeEnd g true) s (fun e => e.o (at' Obj.STATE_7100 g) = 4 ∧ coasts e g ∧ e.o (at' Obj.TRIES g) = s.dev.o (at' Obj.TRIES g) + 1 ∧ e.raised 0x94 ∧ ({ s.dev with bldcs := e.bldcs, loops := e.loops, pauses := e.pauses } : Dev).ShowsOnly e ∧ OnlyObjects (fun k => bldcKey g k) s.dev e)) ∧
  (∀ (s : State) (g : Fin 4), s.dev.alive = true → s.dev.bldcState g = 3 → 
    Completes (.triesReset g) s (fun e => e.o (at' Obj.TRIES g) = 0 ∧ s.dev.ShowsOnly e ∧ OnlyObjects (fun k => k == at' Obj.TRIES g) s.dev e))

/-- The commands of an axis. Each clause says what it takes from R314, R318 to R322. Where the spec leaves a point of these clauses open, the model's
choice is log entry 85. -/
def Obligations.StepperCommands : Prop :=
  (∀ (s : State) (a : Fin 4), s.dev.phase = .service → s.dev.fuseBars [9] = false → s.dev.writes = [] → s.dev.o (at' Obj.ROLE_7200 a) = 0 → s.dev.o (at' Obj.GROUP_7200 a) = 0 → s.dev.homed a = true → s.dev.axisState a ≠ 3 → s.dev.axisState a ≠ 6 → s.dev.actStopped = false → s.dev.o (at' Obj.POS_MIN a) ≤ s.dev.o (at' Obj.TARGET_7200 a) → s.dev.o (at' Obj.TARGET_7200 a) ≤ s.dev.o (at' Obj.POS_MAX a) → 
    Completes (.moveToTarget a) s (fun e => e.result = 0 ∧ e.writes = [{ key := at' Obj.MOVE_CTRL a, val := 1 }] ∧ ({ s.dev with writes := e.writes, result := e.result } : Dev).ShowsOnly e ∧ OnlyObjects (fun _ => false) s.dev e)) ∧
  (∀ (s : State) (a : Fin 4), s.dev.phase = .service → s.dev.fuseBars [9] = false → s.dev.homed a = false → 
    Completes (.moveToTarget a) s (fun e => e.result = resState ∧ ({ s.dev with result := e.result } : Dev).ShowsOnly e ∧ OnlyObjects (fun _ => false) s.dev e)) ∧
  (∀ (s : State) (a : Fin 4), s.dev.phase = .service → s.dev.fuseBars [9] = false → s.dev.writes = [] → s.dev.o (at' Obj.ROLE_7200 a) = 0 → s.dev.o (at' Obj.GROUP_7200 a) = 0 → s.dev.homed a = true → s.dev.axisState a ≠ 3 → s.dev.axisState a ≠ 6 → s.dev.actStopped = false → s.dev.o (at' Obj.POS_MIN a) ≤ (s.dev.axisOf a).target + s.dev.o (at' Obj.TARGET_7200 a) → (s.dev.axisOf a).target + s.dev.o (at' Obj.TARGET_7200 a) ≤ s.dev.o (at' Obj.POS_MAX a) → 
    Completes (.moveByTarget a) s (fun e => e.result = 0 ∧ e.writes = [{ key := at' Obj.MOVE_CTRL a, val := 2 }] ∧ ({ s.dev with writes := e.writes, result := e.result } : Dev).ShowsOnly e ∧ OnlyObjects (fun _ => false) s.dev e)) ∧
  (∀ (s : State) (a : Fin 4), s.dev.phase = .service → s.dev.fuseBars [9] = false → s.dev.writes = [] → s.dev.o (at' Obj.ROLE_7200 a) = 0 → s.dev.o (at' Obj.GROUP_7200 a) = 0 → s.dev.homed a = true → s.dev.axisState a ≠ 3 → s.dev.axisState a ≠ 6 → s.dev.actStopped = false → s.dev.o (at' Obj.POS_MAX a) < (s.dev.axisOf a).target + s.dev.o (at' Obj.TARGET_7200 a) → 
    Completes (.moveByTarget a) s (fun e => e.result = resCombination ∧ ({ s.dev with result := e.result } : Dev).ShowsOnly e ∧ OnlyObjects (fun _ => false) s.dev e)) ∧
  (∀ (s : State) (a : Fin 4), s.dev.phase = .service → 
    Completes (.moveStop a) s (fun e => e.result = 0 ∧ e.writes = s.dev.writes ++ [{ key := at' Obj.MOVE_CTRL a, val := 3 }] ∧ ({ s.dev with writes := e.writes, result := e.result } : Dev).ShowsOnly e ∧ OnlyObjects (fun _ => false) s.dev e)) ∧
  (∀ (s : State) (a : Fin 4), s.dev.phase = .service → s.dev.fuseBars [9] = false → s.dev.writes = [] → s.dev.o (at' Obj.ROLE_7200 a) = 0 → s.dev.axisState a ≠ 3 → s.dev.axisState a ≠ 6 → s.dev.actStopped = false → 
    Completes (.moveHome a) s (fun e => e.result = 0 ∧ e.writes = [{ key := at' Obj.MOVE_CTRL a, val := 4 }] ∧ ({ s.dev with writes := e.writes, result := e.result } : Dev).ShowsOnly e ∧ OnlyObjects (fun _ => false) s.dev e)) ∧
  (∀ (s : State) (a : Fin 4), s.dev.phase = .service → 
    Completes (.moveRelease a) s (fun e => e.result = 0 ∧ e.writes = s.dev.writes ++ [{ key := at' Obj.MOVE_CTRL a, val := 5 }] ∧ ({ s.dev with writes := e.writes, result := e.result } : Dev).ShowsOnly e ∧ OnlyObjects (fun _ => false) s.dev e)) ∧
  (∀ (s : State) (w : Fin 2), s.dev.phase = .service → s.dev.fuseBars [9] = false → s.dev.groupCheck w 1 = 0 → 
    Completes (.groupMoveStart w) s (fun e => e.result = 0 ∧ e.writes = s.dev.writes ++ [{ key := at' Obj.GROUP_CTRL w, val := 1 }] ∧ ({ s.dev with writes := e.writes, result := e.result } : Dev).ShowsOnly e ∧ OnlyObjects (fun _ => false) s.dev e)) ∧
  (∀ (s : State) (w : Fin 2), s.dev.phase = .service → s.dev.fuseBars [9] = false → s.dev.writes = [] → ([0, 1, 2, 3].any (fun a => s.dev.n (at' Obj.GROUP_7200 a) == w + 1 && !(s.dev.homed a)) = true) → 
    Completes (.groupMoveStart w) s (fun e => e.result = resState ∧ ({ s.dev with result := e.result } : Dev).ShowsOnly e ∧ OnlyObjects (fun _ => false) s.dev e)) ∧
  (∀ (s : State) (w : Fin 2), s.dev.phase = .service → 
    Completes (.groupMoveStop w) s (fun e => e.result = 0 ∧ e.writes = s.dev.writes ++ [{ key := at' Obj.GROUP_CTRL w, val := 2 }] ∧ ({ s.dev with writes := e.writes, result := e.result } : Dev).ShowsOnly e ∧ OnlyObjects (fun _ => false) s.dev e)) ∧
  (∀ (s : State) (a : Fin 4), s.dev.alive = true → s.dev.axisState a = 1 → (s.dev.axisOf a).doing = 0 → s.dev.n (at' Obj.HOLD_DELAY a) ≠ 65535 → s.dev.b (at' Obj.STANDSTILL_7200 a) = false → 
    Completes (.holdDelayEnd a) s (fun e => e.o (at' Obj.STATE_7200 a) = 0 ∧ (∀ n ∈ hbsOf a, bitOf (e.o (el Obj.HB_STATUS n)) 0 = false ∧ bitOf (e.o (el Obj.HB_STATUS n)) 1 = false) ∧ (e.axisOf a).amp = 0 ∧ (e.axisOf a).p = (s.dev.axisOf a).acc ∧ ({ s.dev with axes := e.axes } : Dev).ShowsOnly e ∧
      OnlyObjects (fun k => k == at' Obj.STATE_7200 a || (hbsOf a).any (fun n => k == el Obj.HB_STATUS n)) s.dev e)) ∧
  (∀ (s : State) (a : Fin 4), s.dev.alive = true → s.dev.axisState a = 1 → (s.dev.axisOf a).doing = 0 → s.dev.n (at' Obj.HOLD_DELAY a) ≠ 65535 → s.dev.b (at' Obj.STANDSTILL_7200 a) = true → 
    Completes (.holdDelayEnd a) s (fun e => e.o (at' Obj.STATE_7200 a) = 5 ∧ (∀ n ∈ hbsOf a, bitOf (e.o (el Obj.HB_STATUS n)) 0 = false ∧ bitOf (e.o (el Obj.HB_STATUS n)) 1 = true) ∧ (e.axisOf a).amp = 0 ∧ ({ s.dev with axes := e.axes } : Dev).ShowsOnly e ∧
      OnlyObjects (fun k => k == at' Obj.STATE_7200 a || (hbsOf a).any (fun n => k == el Obj.HB_STATUS n)) s.dev e)) ∧
  (∀ (s : State) (a : Fin 4), s.dev.alive = true → (s.dev.axisOf a).doing = 5 → s.dev.axisState a = 1 → 
    Completes (.energiseEnd a) s (fun e => e.axisOf a = { s.dev.axisOf a with ready := true } ∧ ({ s.dev with axes := e.axes } : Dev).ShowsOnly e ∧ OnlyObjects (fun _ => false) s.dev e)) ∧
  (∀ (s : State) (a : Fin 4), s.dev.alive = true → (s.dev.axisOf a).doing = 6 → 
    Completes (.stallHoldEnd a) s (fun e => e.o (at' Obj.STATE_7200 a) = 1 ∧ (e.axisOf a).doing = 0 ∧ (e.axisOf a).amp = 100 * s.dev.n (at' Obj.I_HOLD a) ∧ (e.axisOf a).p = (s.dev.axisOf a).p ∧ ({ s.dev with axes := e.axes } : Dev).ShowsOnly e ∧ OnlyObjects (fun k => k == at' Obj.STATE_7200 a) s.dev e)) ∧
  (∀ (s : State) (a : Fin 4), s.dev.alive = true → (s.dev.axisOf a).doing = 4 → s.dev.slots = [] → s.dev.writes = [] → 
    Completes (.actHomed a) s (fun e => e.o (at' Obj.HOMED a) = 1 ∧ e.o (at' Obj.STATE_7200 a) = 1 ∧ e.value (axTrack a) = (axTrack a).wrap (s.dev.o (at' Obj.HOME_POS a)) ∧ e.b (axTrack a).validKey = true ∧ e.o (axTrack a).rateKey = 0 ∧
      (e.axisOf a).p = s.dev.o (at' Obj.HOME_POS a) * ustep ∧ (e.axisOf a).acc = s.dev.o (at' Obj.HOME_POS a) * ustep ∧ (e.axisOf a).inc = 0 ∧ (e.axisOf a).doing = 0 ∧ e.raised 0x9C ∧ e.raised 0xF2 ∧
      ({ s.dev with axes := e.axes, tracks := e.tracks } : Dev).ShowsOnly e ∧ OnlyObjects (fun k => k == at' Obj.HOMED a || k == at' Obj.STATE_7200 a || k == (axTrack a).validKey || k == (axTrack a).rateKey || k == (axTrack a).valueKey || k == (axTrack a).dirKey || k == at' Obj.JUMPS (axTrack a).code || isTraceCount k) s.dev e))

/-- Interlocks and servo periods. Each clause says what it takes from R315, R316, R324 to R327, R329. Where the spec leaves a point of these clauses
open, the model's choice is log entries 85 and 86. -/
def Obligations.InterlocksAndServo : Prop :=
  (∀ (s : State) (v : Int), s.dev.phase = .service → s.dev.valueCheck Obj.GEAR_SET v = 0 → s.dev.shift.op = 0 → s.dev.o Obj.GEAR_NOW ≠ 0xFF → s.dev.ascOut .A = false → s.dev.ascOut .B = false → s.dev.startBlocked .act = false → 
    Completes (.gearSetWrite v) s (fun e => e.result = 0 ∧ e.writes = s.dev.writes ++ [{ key := Obj.GEAR_SET, val := v }] ∧ ({ s.dev with writes := e.writes, result := e.result } : Dev).ShowsOnly e ∧ OnlyObjects (fun _ => false) s.dev e)) ∧
  (∀ (s : State) (v : Int), s.dev.phase = .service → s.dev.valueCheck Obj.GEAR_SET v = 0 → s.dev.shift.op = 0 → s.dev.o Obj.GEAR_NOW = 0xFF → 
    Completes (.gearSetWrite v) s (fun e => e.result = resState ∧ ({ s.dev with result := e.result } : Dev).ShowsOnly e ∧ OnlyObjects (fun _ => false) s.dev e)) ∧
  (∀ (s : State) (v : Int), s.dev.phase = .service → s.dev.valueCheck Obj.PARK_SET v = 0 → (v = 1 → s.dev.parkSlow = true) → s.dev.shift.op = 0 → (s.dev.roleAxis 3).isSome = true → s.dev.roleHomed 3 = true → s.dev.startBlocked .act = false → 
    Completes (.parkSetWrite v) s (fun e => e.result = 0 ∧ e.writes = s.dev.writes ++ [{ key := Obj.PARK_SET, val := v }] ∧ ({ s.dev with writes := e.writes, result := e.result } : Dev).ShowsOnly e ∧ OnlyObjects (fun _ => false) s.dev e)) ∧
  (∀ (s : State), s.dev.phase = .service → s.dev.parkSlow = false → 
    Completes (.parkSetWrite 1) s (fun e => e.result = resState ∧ e.raised 0xA2 ∧ e.coll.log.getLast?.map LogRec.code = some 0x70C9 ∧ ({ s.dev with result := e.result } : Dev).RaisesOnly e ∧ OnlyObjects (fun k => isReaction k) s.dev e)) ∧
  (∀ (s : State) (v : Int), s.dev.phase = .service → s.dev.valueCheck Obj.DIFF_SET v = 0 → (s.dev.roleAxis 4).isSome = true → s.dev.roleHomed 4 = true → s.dev.startBlocked .act = false → 
    Completes (.diffSetWrite v) s (fun e => e.result = 0 ∧ e.writes = s.dev.writes ++ [{ key := Obj.DIFF_SET, val := v }] ∧ ({ s.dev with writes := e.writes, result := e.result } : Dev).ShowsOnly e ∧ OnlyObjects (fun _ => false) s.dev e)) ∧
  (∀ (s : State), s.dev.phase = .service → s.dev.shift.op = 0 → s.dev.startBlocked .act = false → 
    Completes (.rehomeWrite 1) s (fun e => e.result = 0 ∧ e.writes = s.dev.writes ++ [{ key := Obj.REHOME, val := 1 }] ∧ ({ s.dev with writes := e.writes, result := e.result } : Dev).ShowsOnly e ∧ OnlyObjects (fun _ => false) s.dev e)) ∧
  (∀ (s : State), s.dev.alive = true → s.dev.shift.autoDone = false → s.dev.b Obj.AUTO_HOME = true → s.dev.shift.op = 0 → s.dev.startBlocked .act = false → 
    Completes (.autoHomeStart) s (fun e => e.shift.op = 4 ∧ e.shift.step = 1 ∧ e.shift.imposed = true ∧ e.shift.confirmed = false ∧ e.shift.autoDone = true ∧ e.o Obj.SHIFT_STATE = 8 ∧ ({ s.dev with shift := e.shift } : Dev).ShowsOnly e ∧ OnlyObjects (fun k => k == Obj.SHIFT_STATE) s.dev e)) ∧
  (∀ (s : State), s.dev.alive = true → s.dev.shift.op = 1 → s.dev.shift.step = 1 → s.dev.shift.confirmed = false → 
    Completes (.actShiftRefused) s (fun e => e.shift.op = 0 ∧ e.shift.imposed = false ∧ e.raised 0xA1 ∧ e.coll.log.getLast?.map LogRec.code = some 0x70C9 ∧ ({ s.dev with shift := e.shift } : Dev).RaisesOnly e ∧ OnlyObjects (fun k => k == Obj.SHIFT_STATE || isReaction k) s.dev e)) ∧
  (∀ (s : State), s.dev.alive = true → s.dev.shift.op = 2 → s.dev.shift.step = 1 → s.dev.shift.confirmed = false → 
    Completes (.actShiftRefused) s (fun e => e.shift.op = 0 ∧ e.shift.imposed = false ∧ e.shift.parkHold = false ∧ e.raised 0xA2 ∧ e.coll.log.getLast?.map LogRec.code = some 0x70C9 ∧ ({ s.dev with shift := e.shift } : Dev).RaisesOnly e ∧ OnlyObjects (fun k => k == Obj.SHIFT_STATE || isReaction k) s.dev e)) ∧
  (∀ (s : State), s.dev.alive = true → s.dev.shift.op = 1 → s.dev.shift.step = 5 → s.dev.pauses.contains 14 = false → 
    Completes (.retryDelayEnd) s (fun e => e.shift = { s.dev.shift with step := 7 } ∧ ({ s.dev with shift := e.shift } : Dev).ShowsOnly e ∧ OnlyObjects (fun _ => false) s.dev e)) ∧
  (∀ (s : State) (la : List Int) (a : Fin 4), s.dev.alive = true → s.dev.writes = [] → s.dev.slots = [] → s.dev.actStopped = false → s.dev.shift = {} → s.dev.rehomeNeeded = false → (s.dev.o Obj.GROUP_STATE = 0 ∧ s.dev.o (at' Obj.GROUP_STATE 1) = 0) → s.dev.axisState a = 2 → (s.dev.axisOf a).doing = 1 → (s.dev.axisRate a).natAbs < 25600 → (profile (s.dev.axisLimits a) { p := (s.dev.axisOf a).p, v := (s.dev.axisOf a).v, a := (s.dev.axisOf a).a } (s.dev.axisOf a).target).2 = false → 
    Completes (.servoPeriod la) s (fun e => (e.axisOf a).doing = 1 ∧ e.axisState a = 2 ∧ e.o (at' Obj.LOAD_ANGLE a) = -32768 ∧ (e.axisOf a).acc = (s.dev.axisOf a).p ∧ (e.axisOf a).at_ = s.dev.wall ∧
      ({ p := (e.axisOf a).p, v := (e.axisOf a).v, a := (e.axisOf a).a } : Motion) =
      (profile (s.dev.axisLimits a) { p := (s.dev.axisOf a).p, v := (s.dev.axisOf a).v, a := (s.dev.axisOf a).a } (s.dev.axisOf a).target).1 ∧
      (e.axisOf a).inc = truncDiv ((e.axisOf a).p - (s.dev.axisOf a).p) 12500 ∧ OnlyObjects (fun k => actKey k || isTraceCount k) s.dev e ∧ ({ s.dev with axes := e.axes, tracks := e.tracks } : Dev).RaisesOnly e)) ∧
  (∀ (s : State) (la : List Int) (a : Fin 4), s.dev.alive = true → s.dev.writes = [{ key := at' Obj.MOVE_CTRL a, val := 1 }] → s.dev.slots = [] → s.dev.actStopped = false → s.dev.shift = {} → s.dev.rehomeNeeded = false → (s.dev.o Obj.GROUP_STATE = 0 ∧ s.dev.o (at' Obj.GROUP_STATE 1) = 0) → s.dev.axisState a = 1 → s.dev.o (at' Obj.CURRENT_MODE a) = 0 → (s.dev.axisOf a).doing = 0 → (s.dev.axisRate a).natAbs < 25600 → (profile (s.dev.axisLimits a) { p := (s.dev.axisOf a).p, v := (s.dev.axisOf a).v, a := (s.dev.axisOf a).a } (s.dev.o (at' Obj.TARGET_7200 a))).2 = false → 
    Completes (.servoPeriod la) s (fun e => (e.axisOf a).doing = 1 ∧ e.axisState a = 2 ∧ (e.axisOf a).target = s.dev.o (at' Obj.TARGET_7200 a) ∧ (e.axisOf a).amp = 100 * s.dev.n (at' Obj.I_RUN a) ∧ e.writes = [] ∧ e.o (at' Obj.MOVE_CTRL a) = 0 ∧
      ({ p := (e.axisOf a).p, v := (e.axisOf a).v, a := (e.axisOf a).a } : Motion) =
      (profile (s.dev.axisLimits a) { p := (s.dev.axisOf a).p, v := (s.dev.axisOf a).v, a := (s.dev.axisOf a).a } (s.dev.o (at' Obj.TARGET_7200 a))).1 ∧ OnlyObjects (fun k => actKey k || isTraceCount k) s.dev e ∧ ({ s.dev with writes := e.writes, axes := e.axes, tracks := e.tracks } : Dev).RaisesOnly e)) ∧
  (∀ (s : State) (la : List Int), s.dev.alive = true → s.dev.writes = [] → s.dev.actStopped = false → s.dev.shift = {} → s.dev.rehomeNeeded = false → (s.dev.o Obj.GROUP_STATE = 0 ∧ s.dev.o (at' Obj.GROUP_STATE 1) = 0) → ([0, 1, 2, 3].all (fun g => s.dev.bldcState g == 0 && !(s.dev.b (at' Obj.RUN_7100 g))) = true) → ([0, 1, 2, 3].all (fun a => !(s.dev.homed a) && (s.dev.axisOf a).doing == 0 && (s.dev.axisOf a).inc == 0 && s.dev.axisState a != 6) = true) → 
    Completes (.servoPeriod la) s (fun e => (∀ a : Fin 4, (e.axisOf a).acc = (s.dev.axisOf a).p ∧ (e.axisOf a).p = (s.dev.axisOf a).p ∧ (e.axisOf a).inc = 0 ∧ e.o (at' Obj.LOAD_ANGLE a) = -32768 ∧ e.value (axTrack a) = (axTrack a).wrap ((s.dev.axisOf a).p / ustep)) ∧
      ({ s.dev with axes := e.axes } : Dev).ShowsOnly e ∧ OnlyObjects (fun k => (List.range 4).any (fun a => k == at' Obj.LOAD_ANGLE a || k == at' Obj.RES_NOW a || k == (axTrack a).valueKey)) s.dev e))

/-- The ground engine's motion. Each clause says what it takes from R335, R336, R338, R340, R352. Where the spec leaves a point of these clauses open,
the model's choice is log entries 5 and 90. -/
def Obligations.GroundUpdates : Prop :=
  (∀ (s : State), s.dev.alive = true → s.dev.dead.contains 0x28 = false → s.dev.writes = [] → s.dev.rows = [] → s.dev.nodes = [] → ((List.range 128).all (fun n => !(bitOf (s.dev.o (Obj.ROW_STATE + n)) 0)) = true) → s.dev.b Obj.ROW_VALID = false → s.dev.o Obj.GNSS_STATE ≠ 2 → ([0, 1, 2].all (fun i => s.dev.o (at' Obj.PULSES_PER_100M i) == 0) = true) → s.dev.n Obj.DIST_PRIMARY ≤ 4 → s.dev.n Obj.DIST_SECONDARY ≤ 4 → s.dev.o Obj.VALID_3460 = 1 → s.dev.o Obj.MOUNT = 0 → s.dev.o Obj.DIR_SOURCE = 0 → s.dev.ge.headAt = none → s.dev.ge.cogAt = none → s.dev.ge.mdirAt = none → s.dev.ge.noYaw = false → 
    Completes (.geUpdate) s (fun e => e.o Obj.YAW_RATE_8000 = s.dev.o Obj.YAW_RATE_3460 - s.dev.o Obj.GYRO_BIAS ∧
      e.ge.theta = (((s.dev.ge.theta : Int) + turnOf (s.dev.o Obj.YAW_RATE_3460 - s.dev.o Obj.GYRO_BIAS)) % 4294967296).toNat ∧
      e.o Obj.HEADING = (1073741824 - (e.ge.theta : Int)) % 4294967296 / 65536 ∧ e.o Obj.ACTIVE_DIST = 0xFF ∧ (e.ge.e, e.ge.n) = (s.dev.ge.e, s.dev.ge.n) ∧ ({ s.dev with ge := e.ge } : Dev).ShowsOnly e ∧
      OnlyObjects (fun k => k == Obj.YAW_RATE_8000 || k == Obj.HEADING || k == Obj.ACTIVE_DIST || k == Obj.T_LA || isTraceCount k) s.dev e)) ∧
  (∀ (s : State) (k : Nat), s.dev.alive = true → s.dev.dead.contains 0x28 = false → s.dev.writes = [] → s.dev.slots = [] → s.dev.o Obj.GNSS_STATE ≠ 2 → s.dev.o Obj.DIST_PRIMARY = 1 → s.dev.o Obj.DIR_SOURCE = 0 → s.dev.ge.cogAt = none → s.dev.ge.mdirAt = none → s.dev.o Obj.WHL0_Y = 0 → 0 < s.dev.n Obj.PULSES_PER_100M → (s.dev.pulseSrc 0).bad = false → (s.dev.pulseSrc 0).glitchAt = [] → s.dev.n Obj.GLITCHES = (s.dev.pulseSrc 0).glitches → s.dev.n Obj.PULSES_3450 = (s.dev.pulseSrc 0).last + k → k < 4294967296 → 
    Completes (.geUpdate) s (fun e => e.o Obj.ACTIVE_DIST = 1 ∧ e.o TrackId.gnd.rateKey = (if s.dev.ge.fwd then 1 else -1) * s.dev.o Obj.SPEED_3450 ∧
      e.ge.rem = (s.dev.ge.rem + (if s.dev.ge.fwd then 1 else -1) * ((k * 1000000 * 1048576 / s.dev.n Obj.PULSES_PER_100M : Nat) : Int)) % 1048576 ∧
      e.ge.e = s.dev.ge.e + (s.dev.ge.rem + (if s.dev.ge.fwd then 1 else -1) * ((k * 1000000 * 1048576 / s.dev.n Obj.PULSES_PER_100M : Nat) : Int)) / 1048576 * 65536 / 10 * cosTurn e.ge.theta / 2 ^ 30 ∧
      e.o Obj.POS_E = satI32 (e.ge.e / 65536) ∧ e.b TrackId.gnd.validKey = true ∧ OnlyObjects (fun k => bomKey k || isReaction k) s.dev e ∧ ({ s.dev with tracks := e.tracks, slots := e.slots, ge := e.ge, rows := e.rows, nodes := e.nodes } : Dev).RaisesOnly e)) ∧
  (∀ (s : State), s.dev.alive = true → s.dev.dead.contains 0x28 = false → s.dev.writes = [] → s.dev.slots = [] → s.dev.b Obj.MASTER = false → 
    Completes (.geUpdate) s (fun e => (∀ n : Fin 128, bitOf (e.o (Obj.ROW_STATE + n)) 0 = false ∧ (e.rowOf (n + 1)).queue = [] ∧ (e.rowOf (n + 1)).on = false) ∧ OnlyObjects (fun k => bomKey k || isReaction k) s.dev e ∧ ({ s.dev with tracks := e.tracks, slots := e.slots, ge := e.ge, rows := e.rows, nodes := e.nodes } : Dev).RaisesOnly e)) ∧
  (∀ (s : State), s.dev.alive = true → s.dev.distSource = 0xFF → 
    Completes (.distSourceTimeout) s (fun e => e.o Obj.ACTIVE_DIST = 0xFF ∧ e.b TrackId.gnd.validKey = false ∧ e.b Obj.ROW_VALID = false ∧ e.inForce 0x8232 .bom ∧ (∀ n : Fin 128, bitOf (e.o (Obj.ROW_STATE + n)) 0 = false ∧ (e.rowOf (n + 1)).queue = []) ∧
      ({ s.dev with rows := e.rows, nodes := e.nodes, slots := e.slots } : Dev).RaisesOnly e ∧ OnlyObjects (fun k => bomKey k || isReaction k) s.dev e)) ∧
  (∀ (s : State) (mean : Int) (t : Nat), s.dev.alive = true → s.dev.ge.still = some t → t + 2000000000 ≤ s.dev.wall → 
    Completes (.gyroBiasEstimate mean) s (fun e => e.o Obj.GYRO_BIAS = satI32 mean ∧ s.dev.ShowsOnly e ∧ OnlyObjects (fun k => k == Obj.GYRO_BIAS) s.dev e)) ∧
  (∀ (s : State) (name : Nat) (lat lon : Int), s.dev.phase = .service → name ≠ 0 → s.dev.n Obj.GNSS_NAME = name → s.dev.n Obj.MIN_FIX ≤ 4 → s.dev.ge.fixAt = none → s.dev.ge.originWaits = false → s.dev.ge.hist = [] → 
    Completes (.gnssFixFrame name 4 lat lon none) s (fun e => e.o Obj.GNSS_STATE = 2 ∧ e.o Obj.POS_VALID = 1 ∧ e.o Obj.DR_DISTANCE = 0 ∧ e.o Obj.FIXES = satU32 (s.dev.o Obj.FIXES + 1) ∧ e.ge.fixAt = some s.dev.wall ∧
      (e.ge.e, e.ge.n) = s.dev.irpOf (project (s.dev.o Obj.FIELD_LAT) (s.dev.o Obj.FIELD_LON) lat lon) ∧ e.o Obj.POS_E = satI32 (e.ge.e / 65536) ∧ e.o Obj.POS_N = satI32 (e.ge.n / 65536) ∧
      e.ge.method = 4 ∧ e.ge.methodAt = some s.dev.wall ∧ ({ s.dev with ge := e.ge, peers := e.peers } : Dev).RaisesOnly e ∧ OnlyObjects (fun k => k == Obj.POS_E || k == Obj.POS_N || k == Obj.DR_DISTANCE || k == Obj.FIXES || k == Obj.GNSS_STATE || k == Obj.POS_VALID || isTraceCount k) s.dev e)) ∧
  (∀ (s : State) (name method : Nat) (lat lon : Int) (time : Option Int), s.dev.phase = .service → name ≠ 0 → s.dev.n Obj.GNSS_NAME = name → method < s.dev.n Obj.MIN_FIX → 
    Completes (.gnssFixFrame name method lat lon time) s (fun e => e.o Obj.FIXES_REJECTED = satU32 (s.dev.o Obj.FIXES_REJECTED + 1) ∧ e.o Obj.GNSS_STATE = (if s.dev.o Obj.GNSS_STATE = 0 then 1 else s.dev.o Obj.GNSS_STATE) ∧
      e.ge = { s.dev.ge with method := method, methodAt := some s.dev.wall } ∧ ({ s.dev with ge := e.ge, peers := e.peers } : Dev).ShowsOnly e ∧ OnlyObjects (fun k => k == Obj.FIXES_REJECTED || k == Obj.GNSS_STATE) s.dev e)) ∧
  (∀ (s : State) (name : Nat) (lat lon : Int), s.dev.phase = .service → name ≠ 0 → s.dev.n Obj.GNSS_NAME = name → s.dev.fresh s.dev.ge.methodAt 1000000000 = true → s.dev.ge.method = 4 → s.dev.n Obj.MIN_FIX ≤ 4 → s.dev.ge.fixAt = none → s.dev.ge.originWaits = false → s.dev.ge.hist = [] → 
    Completes (.positionRapidFrame name lat lon) s (fun e => e.o Obj.GNSS_STATE = 2 ∧ e.o Obj.POS_VALID = 1 ∧ e.o Obj.DR_DISTANCE = 0 ∧ e.o Obj.FIXES = satU32 (s.dev.o Obj.FIXES + 1) ∧ e.ge.fixAt = some s.dev.wall ∧
      (e.ge.e, e.ge.n) = s.dev.irpOf (project (s.dev.o Obj.FIELD_LAT) (s.dev.o Obj.FIELD_LON) lat lon) ∧ ({ s.dev with ge := e.ge, peers := e.peers } : Dev).RaisesOnly e ∧ OnlyObjects (fun k => k == Obj.POS_E || k == Obj.POS_N || k == Obj.DR_DISTANCE || k == Obj.FIXES || k == Obj.GNSS_STATE || k == Obj.POS_VALID || isTraceCount k) s.dev e)) ∧
  (∀ (s : State) (name cog sog : Nat), s.dev.phase = .service → name ≠ 0 → s.dev.n Obj.GNSS_NAME = name → 
    Completes (.courseSpeedFrame name cog sog) s (fun e => e.ge = { s.dev.ge with cog := cog % 65536, sog := sog, cogAt := some s.dev.wall } ∧ ({ s.dev with ge := e.ge, peers := e.peers } : Dev).ShowsOnly e ∧ OnlyObjects (fun _ => false) s.dev e)) ∧
  (∀ (s : State) (name head : Nat), s.dev.phase = .service → name ≠ 0 → s.dev.n Obj.GNSS_NAME = name → 
    Completes (.headingFrame name head) s (fun e => e.ge = { s.dev.ge with head := head % 65536, headAt := some s.dev.wall } ∧ ({ s.dev with ge := e.ge, peers := e.peers } : Dev).ShowsOnly e ∧ OnlyObjects (fun _ => false) s.dev e)) ∧
  (∀ (s : State) (name : Nat) (forward : Bool), s.dev.phase = .service → name ≠ 0 → s.dev.n Obj.GNSS_NAME = name → 
    Completes (.machineSpeedFrame name forward) s (fun e => e.ge = { s.dev.ge with mdir := forward, mdirAt := some s.dev.wall } ∧ ({ s.dev with ge := e.ge, peers := e.peers } : Dev).ShowsOnly e ∧ OnlyObjects (fun _ => false) s.dev e)) ∧
  (∀ (s : State), s.dev.alive = true → s.dev.o Obj.GNSS_STATE = 2 → 
    Completes (.bomGnssLost) s (fun e => e.o Obj.GNSS_STATE = 0 ∧ e.raised 0xB1 ∧ s.dev.ShowsOnly e ∧ OnlyObjects (fun k => k == Obj.GNSS_STATE || isTraceCount k) s.dev e))

/-- Map, job and rows. Each clause says what it takes from R343, R344, R346, R348, R352, R356. Where the spec leaves a point of these clauses open, the
model's choice is log entry 91. -/
def Obligations.JobsAndRows : Prop :=
  (∀ (s : State), s.dev.alive = true → 
    Completes (.coverageMarkCommit) s (fun e => (∀ c ∈ s.dev.ge.map, c ∈ e.ge.map) ∧ (∀ m ∈ s.dev.ge.marks, m.2 + 10 * s.dev.n Obj.COMMIT_DIST ≤ s.dev.ge.travel → s.dev.marked 1 (m.1 / 32) = false → m.1 ∈ e.ge.map) ∧
      e.ge.marks = s.dev.ge.marks.filter (fun m => decide (s.dev.ge.travel < m.2 + 10 * s.dev.n Obj.COMMIT_DIST)) ∧
      e.o Obj.APPLIED_AREA = satU32 ((e.ge.map.length : Int) * s.dev.o Obj.CELL_SIZE * s.dev.o Obj.CELL_SIZE / 1000000) ∧ ({ s.dev with ge := e.ge } : Dev).ShowsOnly e ∧ OnlyObjects (fun k => k == Obj.APPLIED_AREA) s.dev e)) ∧
  (∀ (s : State), s.dev.phase = .service → s.dev.o Obj.JOB_STATE = 0 → s.dev.startBlocked .bom = false → 
    Completes (.jobOpenKeep) s (fun e => e.result = 0 ∧ e.o Obj.JOB_STATE = 3 ∧ e.ge.map = s.dev.ge.map ∧ e.ge.closing = false ∧ ({ s.dev with ge := e.ge, result := e.result } : Dev).ShowsOnly e ∧ OnlyObjects (fun k => k == Obj.JOB_STATE) s.dev e)) ∧
  (∀ (s : State), s.dev.phase = .service → s.dev.o Obj.JOB_STATE = 0 → s.dev.startBlocked .bom = false → 
    Completes (.jobOpenClear) s (fun e => e.result = 0 ∧ e.o Obj.JOB_STATE = 1 ∧ e.ge.map = [] ∧ e.ge.marks = [] ∧ e.o Obj.APPLIED_AREA = 0 ∧ ({ s.dev with ge := e.ge, mems := e.mems, result := e.result } : Dev).ShowsOnly e ∧ OnlyObjects (fun k => k == Obj.JOB_STATE || k == Obj.APPLIED_AREA) s.dev e)) ∧
  (∀ (s : State), s.dev.phase = .service → 0 < s.dev.n Obj.JOB_STATE → 
    Completes (.jobOpenClear) s (fun e => e.result = resState ∧ ({ s.dev with result := e.result } : Dev).ShowsOnly e ∧ OnlyObjects (fun _ => false) s.dev e)) ∧
  (∀ (s : State), s.dev.phase = .service → s.dev.o Obj.JOB_STATE = 1 → 
    Completes (.jobCloseSave) s (fun e => e.result = 0 ∧ e.o Obj.JOB_STATE = 2 ∧ (∀ c ∈ s.dev.ge.map, c ∈ e.ge.saving) ∧ e.ge.closing = true ∧ ({ s.dev with ge := e.ge, result := e.result } : Dev).ShowsOnly e ∧ OnlyObjects (fun k => k == Obj.JOB_STATE) s.dev e)) ∧
  (∀ (s : State), s.dev.phase = .service → s.dev.o Obj.JOB_STATE = 1 → 
    Completes (.jobSaveNow) s (fun e => e.result = 0 ∧ e.o Obj.JOB_STATE = 2 ∧ (∀ c ∈ s.dev.ge.map, c ∈ e.ge.saving) ∧ e.ge.closing = false ∧ ({ s.dev with ge := e.ge, result := e.result } : Dev).ShowsOnly e ∧ OnlyObjects (fun k => k == Obj.JOB_STATE) s.dev e)) ∧
  (∀ (s : State), s.dev.phase = .service → s.dev.o Obj.JOB_STATE = 1 → 
    Completes (.jobSavePeriodic) s (fun e => e.o Obj.JOB_STATE = 2 ∧ (∀ c ∈ s.dev.ge.map, c ∈ e.ge.saving) ∧ e.ge.closing = false ∧ ({ s.dev with ge := e.ge } : Dev).ShowsOnly e ∧ OnlyObjects (fun k => k == Obj.JOB_STATE) s.dev e)) ∧
  (∀ (s : State), s.dev.alive = true → s.dev.o Obj.JOB_STATE = 2 → 
    Completes (.bomJobSaved true) s (fun e => e.o Obj.JOB_STATE = (if s.dev.ge.closing then 0 else 1) ∧ e.ge = { s.dev.ge with stored := s.dev.ge.saving, saving := [], closing := false } ∧ e.raised 0xB8 ∧ ({ s.dev with ge := e.ge, flashJobs := e.flashJobs } : Dev).ShowsOnly e ∧ OnlyObjects (fun k => k == Obj.JOB_STATE || isTraceCount k) s.dev e)) ∧
  (∀ (s : State), s.dev.alive = true → s.dev.o Obj.JOB_STATE = 2 → 
    Completes (.bomJobSaved false) s (fun e => e.o Obj.JOB_STATE = 1 ∧ e.ge = { s.dev.ge with saving := [], closing := false } ∧ e.raised 0xB9 ∧ e.coll.log.getLast?.map LogRec.code = some 0x8037 ∧ ({ s.dev with ge := e.ge } : Dev).RaisesOnly e ∧ OnlyObjects (fun k => k == Obj.JOB_STATE || isReaction k) s.dev e)) ∧
  (∀ (s : State), s.dev.alive = true → s.dev.o Obj.JOB_STATE = 3 → 
    Completes (.mapRebuildDone) s (fun e => e.o Obj.JOB_STATE = 1 ∧ e.ge = { s.dev.ge with map := s.dev.ge.stored } ∧ e.o Obj.APPLIED_AREA = satU32 ((s.dev.ge.stored.length : Int) * s.dev.o Obj.CELL_SIZE * s.dev.o Obj.CELL_SIZE / 1000000) ∧
      ({ s.dev with ge := e.ge } : Dev).ShowsOnly e ∧ OnlyObjects (fun k => k == Obj.JOB_STATE || k == Obj.APPLIED_AREA) s.dev e)) ∧
  (∀ (s : State) (b : Bytes), s.dev.phase = .service → boundariesOk b = true → 
    Completes (.boundariesWrite b) s (fun e => e.result = 0 ∧ e.block Obj.BOUNDARIES = b ∧ e.o Obj.BOUNDARY_STATUS = (if b.isEmpty then 0 else 1) ∧ ({ s.dev with blk := e.blk, mems := e.mems, result := e.result } : Dev).RaisesOnly e ∧ OnlyObjects (fun k => k == Obj.BOUNDARY_STATUS) s.dev e)) ∧
  (∀ (s : State) (b : Bytes), s.dev.phase = .service → boundariesOk b = false → 
    Completes (.boundariesWrite b) s (fun e => (e.result = 0x30000003 ∨ e.result = 0x30000001) ∧ ({ s.dev with result := e.result } : Dev).ShowsOnly e ∧ OnlyObjects (fun _ => false) s.dev e)) ∧
  (∀ (s : State) (b : Bytes), s.dev.phase = .service → gridOk b = true → 
    Completes (.rxGridWrite b) s (fun e => e.result = 0 ∧ e.block Obj.RX_GRID = b ∧ e.o Obj.RX_STATUS = (if b.isEmpty then 0 else 1) ∧ ({ s.dev with blk := e.blk, mems := e.mems, result := e.result } : Dev).ShowsOnly e ∧ OnlyObjects (fun k => k == Obj.RX_STATUS) s.dev e)) ∧
  (∀ (s : State) (b : Bytes), s.dev.phase = .service → gridOk b = false → 
    Completes (.rxGridWrite b) s (fun e => (e.result = 0x30000003 ∨ e.result = 0x30000001) ∧ ({ s.dev with result := e.result } : Dev).ShowsOnly e ∧ OnlyObjects (fun _ => false) s.dev e)) ∧
  (∀ (s : State) (v : Int), s.dev.phase = .service → (v = 0 ∨ (v = 1 ∧ s.dev.fuseBars [] = false ∧ s.dev.startBlocked .bom = false)) → 
    Completes (.masterWrite v) s (fun e => e.result = 0 ∧ e.writes = s.dev.writes ++ [{ key := Obj.MASTER, val := v }] ∧ ({ s.dev with writes := e.writes, result := e.result } : Dev).ShowsOnly e ∧ OnlyObjects (fun _ => false) s.dev e)) ∧
  (∀ (s : State) (n : Fin 128) (v : Bool), s.dev.phase = .service → 
    Completes (.rowEnableWrite n v) s (fun e => e.result = 0 ∧ e.writes = s.dev.writes ++ [{ key := el Obj.ROW_ENABLE (n.val + 1), val := b2i v }] ∧ ({ s.dev with writes := e.writes, result := e.result } : Dev).ShowsOnly e ∧ OnlyObjects (fun _ => false) s.dev e))

/-- The boom chains. Each clause says what it takes from R360, R365, R367, R368, R371, R375, R378, R380. Where the spec leaves a point of these clauses
open, the model's choice is log entries 92 and 93. -/
def Obligations.BoomChains : Prop :=
  (∀ (s : State) (c : Fin 4), s.dev.alive = true → s.dev.writes = [] → (s.dev.chainOf c).up = true → s.dev.dead.contains (0x29 + c.val / 2) = false → s.dev.n (at' Obj.NODES_CFG c) ≤ 32 → (s.dev.chainOf c).bcast = none → ((List.range 128).all (fun m => (s.dev.nodeOf (m + 1)).wait.isEmpty) = true) → 
    Completes (.chainBuild c) s (fun e => e.o (at' Obj.CYCLES_9000 c) = wrapU32 (s.dev.o (at' Obj.CYCLES_9000 c) + 1) ∧ (e.chainOf c).frame = (s.dev.chainOf c).frame + 1 ∧
      (e.chainOf c).bytes.length = 26 + 36 * s.dev.n (at' Obj.NODES_CFG c) ∧
      part (e.chainOf c).bytes 0 12 = headerBytes (e.n (at' Obj.CYCLES_9000 c) % 256) (s.dev.n (at' Obj.NODES_CFG c))
      (s.dev.b (at' Obj.JOIN_ENABLE c) && (s.dev.positions c).any (fun p => s.dev.nodeAway (32 * c + p))) none ∧
      (e.chainOf c).bytes.drop (20 + 36 * s.dev.n (at' Obj.NODES_CFG c)) = s.dev.sectionBytes c ∧ ({ s.dev with chains := e.chains, nodes := e.nodes, crcInject := e.crcInject } : Dev).ShowsOnly e ∧ OnlyObjects (fun k => k == at' Obj.CYCLES_9000 c) s.dev e)) ∧
  (∀ (s : State) (c : Fin 4) (delay : Nat) (b : Bytes), s.dev.alive = true → (s.dev.chainOf c).up = true → (s.dev.chainOf c).bytes ≠ [] → crc16Ok 12 (part b 0 12) = false → s.dev.n (at' Obj.NODES_CFG c) = 0 → 
    Completes (.chainReturn c delay b) s (fun e => e.o (at' Obj.CRC_ERRORS c) = satU32 (s.dev.o (at' Obj.CRC_ERRORS c) + 1) ∧ e.o (at' Obj.HOPS c) = s.dev.o (at' Obj.HOPS c) ∧ (e.chainOf c).noReturn = 0 ∧ ({ s.dev with chains := e.chains } : Dev).RaisesOnly e ∧
      OnlyObjects (fun k => k == at' Obj.CRC_ERRORS c || k == at' Obj.RING_DELAY c || k == at' Obj.PRESENT c || k == at' Obj.STATE_9000 c || isReaction k) s.dev e)) ∧
  (∀ (s : State) (c : Fin 4) (delay : Nat) (b : Bytes), s.dev.alive = true → (s.dev.chainOf c).up = true → (s.dev.chainOf c).bytes ≠ [] → crc16Ok 12 (part b 0 12) = true → s.dev.o (at' Obj.STATE_9000 c) = 2 → s.dev.n (at' Obj.NODES_CFG c) = 1 → s.dev.nodeState (32 * c + 1) = 3 → (1 ≤ s.dev.n (el Obj.ROW (32 * c + 1)) ∧ s.dev.n (el Obj.ROW (32 * c + 1)) ≤ 128) → (s.dev.nodeOf (32 * c + 1)).out.length = 1 → (s.dev.nodeOf (32 * c + 1)).fault = false → crc16Ok 12 (part b 36 12) = true → byteAt (part b 36 12) 0 = ((s.dev.nodeOf (32 * c + 1)).done + 1) % 256 → byteAt (part b 36 12) 1 = ((s.dev.nodeOf (32 * c + 1)).met + 1) % 256 → (s.dev.nodeOf (32 * c + 1)).done < 256 → (s.dev.nodeOf (32 * c + 1)).met < 256 → byteAt (part b 36 12) 2 = 128 → byteAt (part b 36 12) 6 = 0 → byteAt (part b 36 12) 7 = 0 → crc16Ok 8 (part b 48 8) = true → byteAt (part b 48 8) 5 < 128 → crc16Ok 6 (part b 56 6) = true → 
    Completes (.chainReturn c delay b) s (fun e => e.o (at' Obj.RING_DELAY c) = delay ∧ e.o (at' Obj.HOPS c) = byteAt b 9 ∧ e.o (el Obj.CREDITS (32 * c + 1)) = (min 8 (s.dev.n (el Obj.CREDITS (32 * c + 1)) + 1) : Nat) ∧
      e.o (el Obj.CONFIRMED (s.dev.n (el Obj.ROW (32 * c + 1)))) = wrapU32 (s.dev.o (el Obj.CONFIRMED (s.dev.n (el Obj.ROW (32 * c + 1)))) + 1) ∧
      e.o (el Obj.PENDING (s.dev.n (el Obj.ROW (32 * c + 1)))) = wrapU32 (s.dev.o (el Obj.PENDING (s.dev.n (el Obj.ROW (32 * c + 1)))) - 1) ∧
      (e.nodeOf (32 * c + 1)).out = [] ∧ e.o (at' Obj.PRESENT c) = 1 ∧ e.o (at' Obj.STATE_9000 c) = 2 ∧ ({ s.dev with chains := e.chains, nodes := e.nodes, rows := e.rows } : Dev).ShowsOnly e ∧
      OnlyObjects (fun k => k == at' Obj.RING_DELAY c || k == at' Obj.HOPS c || k == at' Obj.PRESENT c || k == at' Obj.STATE_9000 c || k == el Obj.QUEUED (32 * c + 1) || k == el Obj.CREDITS (32 * c + 1) || keyIdx k == keyIdx Obj.CONFIRMED || keyIdx k == keyIdx Obj.PENDING) s.dev e)) ∧
  (∀ (s : State) (c : Fin 4), s.dev.alive = true → (s.dev.chainOf c).up = true → (s.dev.chainOf c).noReturn + 1 < s.dev.n (at' Obj.LOSS_CYCLES c) → 
    Completes (.chainReturnTimeout c) s (fun e => (e.chainOf c).noReturn = (s.dev.chainOf c).noReturn + 1 ∧ (∀ p ∈ s.dev.positions c, (e.nodeOf (32 * c + p)).good = false) ∧ ({ s.dev with chains := e.chains, nodes := e.nodes } : Dev).ShowsOnly e ∧ OnlyObjects (fun _ => false) s.dev e)) ∧
  (∀ (s : State) (c : Fin 4), s.dev.alive = true → (s.dev.chainOf c).up = true → s.dev.n (at' Obj.LOSS_CYCLES c) ≤ (s.dev.chainOf c).noReturn + 1 → s.dev.n (at' Obj.STATE_9000 c) ≠ 4 → s.dev.n (at' Obj.NODES_CFG c) ≤ 32 → 
    Completes (.chainReturnTimeout c) s (fun e => e.o (at' Obj.STATE_9000 c) = 4 ∧ e.raised 0xC1 ∧ e.inForce 0x8241 .bom ∧ (∀ p ∈ s.dev.positions c, e.nodeAway (32 * c + p) = true) ∧ ({ s.dev with chains := e.chains, nodes := e.nodes, rows := e.rows } : Dev).RaisesOnly e ∧ OnlyObjects (fun k => bomKey k || isReaction k) s.dev e)) ∧
  (∀ (s : State) (c : Fin 4), s.dev.phase = .service → s.dev.fuseBars [10] = false → s.dev.writes = [] → s.dev.o (at' Obj.STATE_9000 c) = 0 → (1 ≤ s.dev.n (at' Obj.NODES_CFG c) ∧ s.dev.n (at' Obj.NODES_CFG c) ≤ 32) → s.dev.startBlocked .bom = false → ((s.dev.positions c).all (fun p => (s.dev.nodeOf (32 * c + p)).out.isEmpty) = true) → frameTime (s.dev.n (at' Obj.NODES_CFG c)) + s.dev.n (at' Obj.RING_DELAY c) + 30000 ≤ 1000 * s.dev.n (at' Obj.T_CYC c) → 
    Completes (.chainStart c) s (fun e => e.result = 0 ∧ e.o (at' Obj.STATE_9000 c) = 1 ∧ (e.chainOf c).up = true ∧ (e.chainOf c).noReturn = 0 ∧ e.o (at' Obj.PRESENT c) = 0 ∧ (∀ p ∈ s.dev.positions c, e.o (el Obj.NODE_STATE (32 * c + p)) = 0 ∧ e.o (el Obj.CREDITS (32 * c + p)) = 0) ∧
      ({ s.dev with chains := e.chains, nodes := e.nodes, result := e.result } : Dev).RaisesOnly e ∧ OnlyObjects (fun k => k == at' Obj.STATE_9000 c || k == at' Obj.PRESENT c || keyIdx k == keyIdx Obj.NODE_STATE || keyIdx k == keyIdx Obj.CREDITS) s.dev e)) ∧
  (∀ (s : State) (c : Fin 4), s.dev.phase = .service → s.dev.fuseBars [10] = false → [1, 2, 3].contains (s.dev.n (at' Obj.STATE_9000 c)) = true → 
    Completes (.chainStart c) s (fun e => e.result = resState ∧ ({ s.dev with result := e.result } : Dev).ShowsOnly e ∧ OnlyObjects (fun _ => false) s.dev e)) ∧
  (∀ (s : State) (c : Fin 4), s.dev.phase = .service → s.dev.n (at' Obj.NODES_CFG c) ≤ 32 → ((s.dev.positions c).all (fun p => (s.dev.nodeOf (32 * c + p)).out.isEmpty) = true) → 
    Completes (.chainStop c) s (fun e => e.result = 0 ∧ e.o (at' Obj.STATE_9000 c) = 0 ∧ (e.chainOf c).up = false ∧ (e.chainOf c).bytes = [] ∧ e.o (at' Obj.PRESENT c) = 0 ∧ (∀ p ∈ s.dev.positions c, e.o (el Obj.NODE_STATE (32 * c + p)) = 0) ∧
      ({ s.dev with chains := e.chains, nodes := e.nodes, result := e.result } : Dev).RaisesOnly e ∧ OnlyObjects (fun k => k == at' Obj.STATE_9000 c || k == at' Obj.PRESENT c || keyIdx k == keyIdx Obj.NODE_STATE || keyIdx k == keyIdx Obj.CREDITS) s.dev e)) ∧
  (∀ (s : State) (c : Fin 4), s.dev.phase = .service → s.dev.b Obj.MASTER = false → s.dev.o (at' Obj.STATE_9000 c) = 2 → s.dev.n (at' Obj.NODES_CFG c) ≤ 32 → s.dev.n (at' Obj.HOPS c) = s.dev.n (at' Obj.NODES_CFG c) → ((s.dev.positions c).all (fun p => (s.dev.nodeOf (32 * c + p)).out.isEmpty) = true) → 
    Completes (.chainLearn c) s (fun e => e.result = 0 ∧ (e.chainOf c).learn = true ∧ (∀ p ∈ s.dev.positions c, e.o (el Obj.NODE_STATE (32 * c + p)) = 2 ∧ e.o (el Obj.CREDITS (32 * c + p)) = 0) ∧ e.o (at' Obj.STATE_9000 c) = 2 ∧
      ({ s.dev with chains := e.chains, nodes := e.nodes, result := e.result } : Dev).RaisesOnly e ∧ OnlyObjects (fun k => keyIdx k == keyIdx Obj.NODE_STATE || keyIdx k == keyIdx Obj.CREDITS) s.dev e)) ∧
  (∀ (s : State) (c : Fin 4), s.dev.phase = .service → s.dev.b Obj.MASTER = false → s.dev.o (at' Obj.STATE_9000 c) = 2 → s.dev.n (at' Obj.HOPS c) ≠ s.dev.n (at' Obj.NODES_CFG c) → 
    Completes (.chainLearn c) s (fun e => e.result = 0 ∧ e.raised 0xC5 ∧ e.coll.log.getLast?.map LogRec.code = some 0x8043 ∧ (e.chainOf c).learn = (s.dev.chainOf c).learn ∧ ({ s.dev with result := e.result } : Dev).RaisesOnly e ∧ OnlyObjects (fun k => isReaction k) s.dev e)) ∧
  (∀ (s : State), s.dev.phase = .service → s.dev.mbx.busy = false → 
    Completes (.mailboxRead) s (fun e => e.result = 0 ∧ e.o Obj.MBX_STATUS = 1 ∧ e.mbx = { node := s.dev.n Obj.MBX_NODE, param := s.dev.n Obj.MBX_PARAM, data := s.dev.n Obj.MBX_DATA, write := false, busy := true } ∧ ({ s.dev with mbx := e.mbx, result := e.result } : Dev).ShowsOnly e ∧ OnlyObjects (fun k => k == Obj.MBX_STATUS) s.dev e)) ∧
  (∀ (s : State), s.dev.phase = .service → s.dev.mbx.busy = true → 
    Completes (.mailboxRead) s (fun e => e.result = resBusy ∧ ({ s.dev with result := e.result } : Dev).ShowsOnly e ∧ OnlyObjects (fun _ => false) s.dev e)) ∧
  (∀ (s : State), s.dev.phase = .service → s.dev.mbx.busy = false → s.dev.n Obj.MBX_PARAM ≠ 4 → 
    Completes (.mailboxWrite) s (fun e => e.result = 0 ∧ e.o Obj.MBX_STATUS = 1 ∧ e.mbx = { node := s.dev.n Obj.MBX_NODE, param := s.dev.n Obj.MBX_PARAM, data := s.dev.n Obj.MBX_DATA, write := true, busy := true } ∧ ({ s.dev with mbx := e.mbx, result := e.result } : Dev).ShowsOnly e ∧ OnlyObjects (fun k => k == Obj.MBX_STATUS) s.dev e)) ∧
  (∀ (s : State), s.dev.alive = true → s.dev.mbx.busy = true → 
    Completes (.bomMbxTimeout) s (fun e => e.o Obj.MBX_STATUS = 4 ∧ e.mbx.busy = false ∧ e.raised 0xCA ∧ ({ s.dev with mbx := e.mbx } : Dev).ShowsOnly e ∧ OnlyObjects (fun k => k == Obj.MBX_STATUS || isTraceCount k) s.dev e))

/-- Conditions of the ports and what they answer. That a barred port does not answer is log entry 37. -/
def Obligations.PortConditions : Prop :=
  (∀ (s : State) (port : Fin 2), s.dev.phase = .service →
    Completes (.canBusOff port) s (fun e => port.val ∈ e.busOff ∧ e.raised 0xDB ∧
      ({ s.dev with busOff := e.busOff, busOffAt := e.busOffAt, busSlow := e.busSlow } : Dev).RaisesOnly e)) ∧
  (∀ (s : State) (port : Fin 2), s.dev.phase = .service →
    Completes (.busOffRecovery port) s (fun e => port.val ∉ e.busOff ∧
      ({ s.dev with busOff := e.busOff } : Dev).ShowsOnly e ∧ OnlyObjects (fun _ => false) s.dev e)) ∧
  (∀ s : State, s.dev.phase = .service → s.dev.b Obj.ETH_LINK = false →
    Completes (.netEthLink true) s (fun e => e.o Obj.ETH_LINK = 1 ∧ e.raised 0xDC ∧ s.dev.ShowsOnly e ∧
      OnlyObjects (fun k => k == Obj.ETH_LINK || isTraceCount k) s.dev e)) ∧
  (∀ s : State, s.dev.phase = .service → s.dev.b Obj.ETH_LINK = true →
    Completes (.netEthLink false) s (fun e => e.raised 0xDC ∧ s.dev.RaisesOnly e)) ∧
  (∀ s : State, s.dev.phase = .service →
    Completes .unitDiscard s (fun e => e.o Obj.UNIT_DISCARDS = satU32 (s.dev.o Obj.UNIT_DISCARDS + 1) ∧ s.dev.ShowsOnly e ∧
      OnlyObjects (fun k => k == Obj.UNIT_DISCARDS) s.dev e)) ∧
  (∀ (s : State) (ip : Nat), s.dev.phase = .service → s.dev.b Obj.ETH_LINK = true → s.dev.portOff .eth = false → ip = s.dev.n Obj.IP_ADDR →
    Completes (.arpRequest ip) s (fun e => e.ethSent = some (1, leBytes 4 ip) ∧ ({ s.dev with ethSent := e.ethSent } : Dev).ShowsOnly e ∧
      OnlyObjects (fun _ => false) s.dev e) ∧
    ∀ payload, Completes (.icmpEchoRequest ip payload) s (fun e => e.ethSent = some (2, payload) ∧
      ({ s.dev with ethSent := e.ethSent } : Dev).ShowsOnly e ∧ OnlyObjects (fun _ => false) s.dev e))

/-- Sessions and notifications. Each clause says what it takes from R391, R394 to R396, R408, R409. Where the spec leaves a point of these clauses open,
the model's choice is log entry 48. -/
def Obligations.SessionsAndNotifications : Prop :=
  (∀ (s : State) (n : Fin 8), s.dev.phase = .service → 
    Completes (.stagingTimeout n) s (fun e => e.sess (n + 1) = { s.dev.sess (n + 1) with staging := none } ∧ ({ s.dev with sessions := e.sessions } : Dev).ShowsOnly e ∧ OnlyObjects (fun _ => false) s.dev e)) ∧
  (∀ (s : State) (n : Fin 8), s.dev.phase = .service → s.dev.sessState (n + 1) = 1 → 
    Completes (.authTimeout n) s (fun e => e.o (el Obj.SESSION_STATE (n + 1)) = 0 ∧ e.o (el Obj.SESSION_ROLE (n + 1)) = 0 ∧ e.sess (n + 1) = {} ∧ (∀ x ∈ e.evq, x ∈ s.dev.evq) ∧ s.dev.SessEnd e ∧ OnlyObjects (fun k => isSession k || isTraceCount k) s.dev e)) ∧
  (∀ (s : State) (n : Fin 8), s.dev.phase = .service → s.dev.sessState (n + 1) = 2 → 
    Completes (.sessionIdleTimeout n) s (fun e => e.o (el Obj.SESSION_STATE (n + 1)) = 0 ∧ e.sess (n + 1) = {} ∧ (∀ k : Fin 64, s.dev.n (at' Obj.SESSION k) = n + 1 → e.o (at' Obj.ENABLE_1800 k) = 0) ∧ e.raised 0xD7 ∧ s.dev.SessEnd e ∧ OnlyObjects (fun k => isSession k || isTraceCount k) s.dev e)) ∧
  (∀ (s : State) (path : Path) (source : Nat), s.dev.phase = .service → 
    Completes (.sourceBarExpiry path source) s (fun e => e.barred.contains (pathNum path, source) = false ∧ (∀ x ∈ s.dev.barred, x ≠ (pathNum path, source) → x ∈ e.barred) ∧ ({ s.dev with barred := e.barred } : Dev).ShowsOnly e ∧ OnlyObjects (fun _ => false) s.dev e)) ∧
  (∀ (s : State) (v : Nat), s.dev.phase = .service → (1 ≤ v ∧ v ≤ 8) → s.dev.sessState v = 2 → 
    Completes (.closeSession v) s (fun e => e.result = 0 ∧ e.o (el Obj.SESSION_STATE v) = 0 ∧ e.sess v = {} ∧ e.raised 0xD7 ∧ ({ s.dev with result := 0 } : Dev).SessEnd e ∧ OnlyObjects (fun k => isSession k || isTraceCount k) s.dev e)) ∧
  (∀ (s : State) (v : Int), s.dev.phase = .service → (v < 1 ∨ 8 < v) → 
    Completes (.closeSession v) s (fun e => e.result = resRange ∧ ({ s.dev with result := e.result } : Dev).ShowsOnly e ∧ OnlyObjects (fun _ => false) s.dev e)) ∧
  (∀ (s : State) (m : Fin 64), s.dev.phase = .service → s.dev.notes = [] → ((List.range 64).all (fun j => s.dev.b (at' Obj.ENABLE_1800 j) == (j == m.val)) = true) → s.dev.n (at' Obj.MODE_1800 m) ≠ 2 → ((s.dev.noteEntries m).any (fun x => s.dev.poison.contains x) = false) → s.dev.pool.length < 128 → 
    Completes (.notifyScan) s (fun e => e.pool = s.dev.pool ++ [{ map := m, path := s.dev.n (at' Obj.PATH m), counter := 0, bytes := s.dev.noteBytes m ((s.dev.noteEntries m).flatMap s.dev.valueBytes) 0 }] ∧
      e.notes = [(m.val, { sent := some ((s.dev.noteEntries m).flatMap s.dev.valueBytes), at_ := some s.dev.wall, counter := 1 })] ∧ e.o (at' Obj.SENT m) = wrapU32 (s.dev.o (at' Obj.SENT m) + 1) ∧ ({ s.dev with pool := e.pool, notes := e.notes } : Dev).ShowsOnly e ∧ OnlyObjects (fun k => k == at' Obj.SENT m) s.dev e)) ∧
  (∀ (s : State) (eth : Bool) (m : NoteMsg) (r : List NoteMsg), s.dev.phase = .service → s.dev.pool = m :: r → (m.path = (if eth then 2 else 1)) → 
    Completes (.notifyTransmit eth) s (fun e => e.pool = r ∧ ({ s.dev with pool := e.pool } : Dev).ShowsOnly e ∧ OnlyObjects (fun _ => false) s.dev e))

/-- Roles on CANA. Each clause says what it takes from R398, R399, R403, R404. Where the spec leaves a point of these clauses open, the model's choice
is log entry 1. -/
def Obligations.AddressesAndTaskController : Prop :=
  (∀ (s : State), s.dev.phase = .service → s.dev.claim = 0 → 
    Completes (.addressClaimStart) s (fun e => e.claim = 1 ∧ e.claimAddr = s.dev.n Obj.PREF_ADDR ∧ e.claimLast = false ∧ e.o Obj.OWN_ADDR = 254 ∧ ({ s.dev with claim := e.claim, claimAddr := e.claimAddr, claimLast := e.claimLast } : Dev).ShowsOnly e ∧ OnlyObjects (fun k => k == Obj.OWN_ADDR) s.dev e)) ∧
  (∀ (s : State), s.dev.phase = .service → s.dev.claim = 1 → 
    Completes (.netAddrClaimed) s (fun e => e.claim = 2 ∧ e.o Obj.OWN_ADDR = s.dev.claimAddr ∧ e.raised 0xD0 ∧ ({ s.dev with claim := e.claim } : Dev).RaisesOnly e ∧ OnlyObjects (fun k => k == Obj.OWN_ADDR || k == Obj.TC_STATE || isTraceCount k) s.dev e)) ∧
  (∀ (s : State) (name : Nat), s.dev.phase = .service → (s.dev.claim = 1 ∨ s.dev.claim = 2) → name < s.dev.n Obj.NAME → s.dev.claimLast = false → 
    Completes (.addressContention name) s (fun e => e.claim = 1 ∧ e.claimAddr = (if 247 ≤ s.dev.claimAddr then 128 else s.dev.claimAddr + 1) ∧ e.claimLast = (e.claimAddr == s.dev.n Obj.PREF_ADDR) ∧ e.o Obj.OWN_ADDR = 254 ∧
      ({ s.dev with claim := e.claim, claimAddr := e.claimAddr, claimLast := e.claimLast } : Dev).ShowsOnly e ∧ OnlyObjects (fun k => k == Obj.OWN_ADDR) s.dev e)) ∧
  (∀ (s : State) (name : Nat), s.dev.phase = .service → (s.dev.claim = 1 ∨ s.dev.claim = 2) → name < s.dev.n Obj.NAME → s.dev.claimLast = true → 
    Completes (.addressContention name) s (fun e => e.claim = 3 ∧ e.o Obj.OWN_ADDR = 254 ∧ e.raised 0xD1 ∧ e.inForce 0x92D0 .sys ∧ ({ s.dev with claim := e.claim, claimAddr := e.claimAddr } : Dev).RaisesOnly e ∧ OnlyObjects (fun k => k == Obj.OWN_ADDR || isReaction k) s.dev e)) ∧
  (∀ (s : State) (name : Nat), s.dev.phase = .service → s.dev.n Obj.NAME ≤ name → 
    Completes (.addressContention name) s (fun e => s.dev.ShowsOnly e ∧ OnlyObjects (fun _ => false) s.dev e)) ∧
  (∀ (s : State) (addr name : Nat), s.dev.phase = .service → addr < 254 → name ≠ 0 → ((List.range 254).all (fun i => s.dev.n (el Obj.PEER_NAME (i + 1)) != name) = true) → s.dev.o (el Obj.PEER_NAME (addr + 1)) = 0 → 
    Completes (.peerAddressClaim addr name) s (fun e => e.o (el Obj.PEER_NAME (addr + 1)) = name ∧ e.raised 0xD2 ∧ e.o Obj.PEERS = (((List.range 254).filter (fun i => e.b (el Obj.PEER_NAME (i + 1)))).length : Nat) ∧ s.dev.ShowsOnly e ∧ OnlyObjects (fun k => k == el Obj.PEER_NAME (addr + 1) || k == Obj.PEERS || isTraceCount k) s.dev e)) ∧
  (∀ (s : State) (i : Fin 254) (name : Nat), s.dev.phase = .service → name ≠ 0 → s.dev.n (el Obj.PEER_NAME (i + 1)) = name → 
    Completes (.peerAddressClaim 254 name) s (fun e => e.o (el Obj.PEER_NAME (i + 1)) = 0 ∧ e.raised 0xD3 ∧ s.dev.ShowsOnly e ∧ OnlyObjects (fun k => keyIdx k == keyIdx Obj.PEER_NAME || k == Obj.PEERS || isTraceCount k) s.dev e)) ∧
  (∀ (s : State) (name : Nat), s.dev.phase = .service → name ≠ 0 → s.dev.n Obj.TC_NAME = name → s.dev.o Obj.TC_STATE = 0 → s.dev.claim = 2 → 
    Completes (.tcStatusMessage name) s (fun e => e.o Obj.TC_STATE = 1 ∧ ({ s.dev with peers := e.peers } : Dev).ShowsOnly e ∧ OnlyObjects (fun k => k == Obj.TC_STATE) s.dev e)) ∧
  (∀ (s : State), s.dev.phase = .service → s.dev.o Obj.TC_STATE = 1 → 
    Completes (.tcDdopUploadDone) s (fun e => e.o Obj.TC_STATE = 2 ∧ e.raised 0xD4 ∧ s.dev.RaisesOnly e ∧ OnlyObjects (fun k => k == Obj.TC_STATE || isTraceCount k) s.dev e)) ∧
  (∀ (s : State), s.dev.phase = .service → s.dev.o Obj.TC_STATE ≠ 0 → 
    Completes (.netTcLost) s (fun e => e.o Obj.TC_STATE = 0 ∧ e.raised 0xD5 ∧ e.ge = { s.dev.ge with tcRows := [], tcRate := none } ∧ (s.dev.tcUsed = true → e.inForce 0x92D2 .sys) ∧ ({ s.dev with ge := e.ge, peers := e.peers } : Dev).RaisesOnly e ∧ OnlyObjects (fun k => k == Obj.TC_STATE || isReaction k) s.dev e)) ∧
  (∀ (s : State) (name rate : Nat), s.dev.phase = .service → name ≠ 0 → s.dev.n Obj.TC_NAME = name → s.dev.o Obj.TC_STATE = 2 → 
    Completes (.tcProcessData name (some rate) 0 []) s (fun e => e.ge = { s.dev.ge with tcRate := some (s.dev.tcCounts rate) } ∧ ({ s.dev with ge := e.ge, peers := e.peers } : Dev).ShowsOnly e ∧ OnlyObjects (fun _ => false) s.dev e)) ∧
  (∀ (s : State) (name : Nat) (first : Fin 127), s.dev.phase = .service → name ≠ 0 → s.dev.n Obj.TC_NAME = name → s.dev.o Obj.TC_STATE = 2 → 1 ≤ first.val → 
    Completes (.tcProcessData name none first [1, 0]) s (fun e => first.val ∈ e.ge.tcRows ∧ first.val + 1 ∉ e.ge.tcRows ∧ (∀ n ∈ s.dev.ge.tcRows, n ≠ first.val + 1 → n ∈ e.ge.tcRows) ∧ e.ge.tcRate = s.dev.ge.tcRate ∧ ({ s.dev with ge := e.ge, peers := e.peers } : Dev).ShowsOnly e ∧ OnlyObjects (fun _ => false) s.dev e))

/-- Ports and memories. Each clause says what it takes from R445 to R447, R454, R456, R458, R459. Where the spec leaves a point of these clauses open,
the model's choice is log entries 100 and 103. -/
def Obligations.PortsAndMemories : Prop :=
  (∀ (s : State) (p : Fin 3) (q : Fin 4) (b : Bytes), s.dev.phase = .service → spBlockOk b = true → (s.dev.spOf p).run = none → 
    Completes (.spQueueWrite p q b) s (fun e => e.result = 0 ∧ e.spQueue p q = b ∧ e.o (at' Obj.QUEUE_NEXT p + q) = 0 ∧ ({ s.dev with sps := e.sps, blk := e.blk, result := e.result } : Dev).ShowsOnly e ∧ OnlyObjects (fun k => k == at' Obj.QUEUE_NEXT p + q) s.dev e)) ∧
  (∀ (s : State) (p : Fin 3) (q : Fin 4) (b : Bytes), s.dev.phase = .service → spBlockOk b = false → 
    Completes (.spQueueWrite p q b) s (fun e => e.result = 0x30000003 ∧ ({ s.dev with result := e.result } : Dev).ShowsOnly e ∧ OnlyObjects (fun _ => false) s.dev e)) ∧
  (∀ (s : State) (p : Fin 3) (q : Fin 4), s.dev.phase = .service → s.dev.writes = [] → s.dev.spQueue p q ≠ [] → (s.dev.spOf p).run = none → s.dev.o (at' Obj.SEL_MODE p) = 0 → 
    Completes (.spStart p q) s (fun e => e.result = 0 ∧ e.o (at' Obj.STARTS p) = wrapU32 (s.dev.o (at' Obj.STARTS p) + 1) ∧ e.o (at' Obj.STATE_3480 p) = (q.val + 1 : Nat) ∧ (e.spOf p).run = some (q.val, s.dev.n (at' Obj.QUEUE_NEXT p + q)) ∧
      (e.spOf p).wall = s.dev.wall + 50 + s.dev.n (at' Obj.SEL_SETUP p) ∧ ({ s.dev with sps := e.sps, result := e.result } : Dev).ShowsOnly e ∧ OnlyObjects (fun k => k == at' Obj.STARTS p || k == at' Obj.STATE_3480 p) s.dev e)) ∧
  (∀ (s : State) (p : Fin 3) (q : Fin 4), s.dev.phase = .service → s.dev.spQueue p q = [] → 
    Completes (.spStart p q) s (fun e => e.result = 0 ∧ ({ s.dev with result := e.result } : Dev).ShowsOnly e ∧ OnlyObjects (fun _ => false) s.dev e)) ∧
  (∀ (s : State) (p : Fin 3) (q : Fin 4), s.dev.phase = .service → s.dev.spQueue p q ≠ [] → (s.dev.spOf p).run.isSome = true → ((s.dev.spOf p).pend.any (fun x => x.1 == q.val) = true) → 
    Completes (.spStart p q) s (fun e => e.result = 0 ∧ e.o (at' Obj.DROPPED_3480 p) = satU32 (s.dev.o (at' Obj.DROPPED_3480 p) + 1) ∧ e.raised 0x19 ∧ ({ s.dev with result := e.result } : Dev).ShowsOnly e ∧ OnlyObjects (fun k => k == at' Obj.DROPPED_3480 p || isTraceCount k) s.dev e)) ∧
  (∀ (s : State) (p : Fin 3) (rx : List Nat) (q : Fin 4) (i : Fin 8), s.dev.alive = true → (s.dev.spOf p).run = some (q.val, i.val) → spChains (s.dev.spQueue p q) i = false → byteAt (s.dev.spQueue p q) (7 + 20 * i) ≤ 4 → (s.dev.spOf p).pend = [] → (s.dev.spOf p).wait = [] → 
    Completes (.spDescriptorEnd p rx) s (fun e => (∀ u : Fin 4, u.val < byteAt (s.dev.spQueue p q) (7 + 20 * i) → e.o (at' Obj.RX p + 32 * q + 4 * i + u) = (rx.getD u 0 % 2 ^ byteAt (s.dev.spQueue p q) (6 + 20 * i) : Nat)) ∧
      e.o (at' Obj.CHAIN_WALL p + q) = (s.dev.spOf p).wall ∧ e.o (at' Obj.CHAIN_TRACK p + q) = (s.dev.spOf p).track ∧ e.o (at' Obj.CHAINS_DONE p + q) = wrapU32 (s.dev.o (at' Obj.CHAINS_DONE p + q) + 1) ∧
      e.o (at' Obj.QUEUE_NEXT p + q) = spNext (s.dev.spQueue p q) i ∧ e.o (at' Obj.STATE_3480 p) = 0 ∧ (e.spOf p).run = none ∧ ({ s.dev with sps := e.sps } : Dev).ShowsOnly e ∧
      OnlyObjects (fun k => keyIdx k == keyIdx Obj.RX + p || k == at' Obj.CHAIN_WALL p + q || k == at' Obj.CHAIN_TRACK p + q || k == at' Obj.CHAINS_DONE p + q || k == at' Obj.QUEUE_NEXT p + q || k == at' Obj.STATE_3480 p) s.dev e)) ∧
  (∀ (s : State) (i : Fin 11), s.dev.alive = true → s.dev.pauses.contains (i.val + 1) = false → (s.dev.memOf (i + 1)).next + 1 < memWords (i + 1) + memHoles (i + 1) → 
    Completes (.scrubStep i 0) s (fun e => e.memOf (i + 1) = { s.dev.memOf (i + 1) with next := (s.dev.memOf (i + 1)).next + 1 } ∧ ({ s.dev with mems := e.mems, pauses := e.pauses } : Dev).ShowsOnly e ∧ OnlyObjects (fun _ => false) s.dev e)) ∧
  (∀ (s : State) (i : Fin 11), s.dev.alive = true → s.dev.pauses.contains (i.val + 1) = false → (s.dev.memOf (i + 1)).next < memWords (i + 1) → (s.dev.memOf (i + 1)).seen = [] → s.dev.n (el Obj.LEVEL (i + 1)) < s.dev.n (el Obj.BUCKET_DEPTH (i + 1)) → 
    Completes (.scrubStep i 1) s (fun e => e.o (el Obj.CE_COUNT (i + 1)) = satU32 (s.dev.o (el Obj.CE_COUNT (i + 1)) + 1) ∧ e.o (el Obj.LEVEL (i + 1)) = s.dev.o (el Obj.LEVEL (i + 1)) + 1 ∧
      (s.dev.memOf (i + 1)).next ∈ (e.memOf (i + 1)).back ∧ (e.memOf (i + 1)).seen = [((s.dev.memOf (i + 1)).next, 1)] ∧ (e.memOf (i + 1)).next = (s.dev.memOf (i + 1)).next + 1 ∧ ({ s.dev with mems := e.mems, pauses := e.pauses } : Dev).ShowsOnly e ∧
      OnlyObjects (fun k => k == el Obj.CE_COUNT (i + 1) || k == el Obj.LEVEL (i + 1)) s.dev e)) ∧
  (∀ (s : State) (i : Fin 11), s.dev.alive = true → s.dev.pauses.contains (i.val + 1) = false → (s.dev.memOf (i + 1)).next < memWords (i + 1) → 
    Completes (.scrubStep i 2) s (fun e => e.marked (i + 1) (s.dev.memOf (i + 1)).next = true ∧ e.o (el Obj.UE_COUNT (i + 1)) = satU32 (s.dev.o (el Obj.UE_COUNT (i + 1)) + 1) ∧ e.o Obj.LAST_UE_INSTANCE = (i.val + 1 : Nat) ∧
      e.o Obj.LAST_UE_OFFSET = (4 * (s.dev.memOf (i + 1)).next : Nat) ∧ e.raised 0xE0 ∧ e.coll.log.getLast?.map LogRec.code = some 0xA0E0 ∧ ({ s.dev with mems := e.mems, poison := e.poison, pauses := e.pauses } : Dev).RaisesOnly e ∧
      OnlyObjects (fun k => k == el Obj.UE_COUNT (i + 1) || k == Obj.LAST_UE_INSTANCE || k == Obj.LAST_UE_OFFSET || isReaction k) s.dev e)) ∧
  (∀ (s : State) (i : Fin 11) (w : Nat), s.dev.alive = true → w < memWords (i + 1) → (s.dev.memOf (i + 1)).back.contains w = true → 
    Completes (.memWriteBack i w false 0) s (fun e => e.memOf (i + 1) = { s.dev.memOf (i + 1) with back := (s.dev.memOf (i + 1)).back.filter (· != w) } ∧ ({ s.dev with mems := e.mems } : Dev).ShowsOnly e ∧ OnlyObjects (fun _ => false) s.dev e)) ∧
  (∀ (s : State) (i : Fin 11) (w : Nat), s.dev.alive = true → w < memWords (i + 1) → s.dev.marked (i + 1) w = true → (Tab.get {} (s.dev.memOf (i + 1)).words w).perm = false → 
    Completes (.memWriteBack i w true 0) s (fun e => e.marked (i + 1) w = false ∧ ({ s.dev with mems := e.mems } : Dev).ShowsOnly e ∧ OnlyObjects (fun _ => false) s.dev e)) ∧
  (∀ (s : State) (i : Fin 11), s.dev.alive = true → 0 < s.dev.n (el Obj.LEVEL (i + 1)) → 
    Completes (.bucketLeak i) s (fun e => e.o (el Obj.LEVEL (i + 1)) = s.dev.o (el Obj.LEVEL (i + 1)) - 1 ∧ s.dev.ShowsOnly e ∧ OnlyObjects (fun k => k == el Obj.LEVEL (i + 1)) s.dev e))

/-- How a session opens, lives and closes. Each clause says what it takes from R389, R390, R394 to R396. Where the spec leaves a point of these clauses
open, the model's choice is log entries 33, 34 and 35. -/
def Obligations.SessionsByUnit : Prop :=
  (∀ (s : State) (path : Path) (source seq role : Nat) (nc nd : Bytes) (n : Nat), s.dev.phase = .service → s.dev.portOff path = false → nc.length = 8 → (1 ≤ role ∧ role ≤ 4) → s.dev.barred.contains (pathNum path, source) = false → s.dev.roleAvailable role = true → s.dev.freeSlot = some n → 
    Completes (.challenge path source seq role nc nd) s (fun e => e.result = 0 ∧ e.sessState n = 1 ∧ e.o (el Obj.SESSION_ROLE n) = role ∧ e.o (el Obj.SESSION_PATH n) = pathNum path ∧ e.o (el Obj.SESSION_PEER n) = source ∧
      (e.sess n).nc = nc ∧ (e.sess n).nd = nd ∧ e.reply = replyBytes 0x10 n seq 0 0 0 nd false ∧ ({ s.dev with sessions := e.sessions, result := e.result, data := e.data, reply := e.reply } : Dev).ShowsOnly e ∧
      OnlyObjects (fun k => k == el Obj.SESSION_STATE n || k == el Obj.SESSION_ROLE n || k == el Obj.SESSION_PATH n || k == el Obj.SESSION_PEER n) s.dev e)) ∧
  (∀ (s : State) (path : Path) (source seq role : Nat) (nc nd : Bytes), s.dev.phase = .service → s.dev.portOff path = false → nc.length = 8 → (role = 0 ∨ 4 < role ∨ s.dev.barred.contains (pathNum path, source) = true ∨ s.dev.roleAvailable role = false) → 
    Completes (.challenge path source seq role nc nd) s (fun e => e.result = (if role = 0 ∨ 4 < role then resRange else if s.dev.barred.contains (pathNum path, source) = true then 0x60000003 else 0x60000002) ∧
      e.reply = replyBytes 0x10 0 seq 0 0 e.result [] false ∧ ({ s.dev with result := e.result, data := e.data, reply := e.reply } : Dev).ShowsOnly e ∧ OnlyObjects (fun _ => false) s.dev e)) ∧
  (∀ (s : State) (path : Path) (source n seq : Nat), s.dev.phase = .service → s.dev.portOff path = false → (1 ≤ n ∧ n ≤ 8) → s.dev.sessState n = 1 → s.dev.n (el Obj.SESSION_PATH n) = pathNum path → s.dev.n (el Obj.SESSION_PEER n) = source → 
    Completes (.auth path source n seq (Config.aesCmac (s.dev.roleKey (s.dev.roleOf n)) (tagMessage (s.dev.roleOf n) n (s.dev.sess n)))) s (fun e => e.result = 0 ∧ e.sessState n = 2 ∧ e.raised 0xD6 ∧ (e.sess n).key = Config.aesCmac (s.dev.roleKey (s.dev.roleOf n)) (keyMessage n (s.dev.sess n)) ∧
      e.reply = replyMac (e.sess n).key 0x11 n seq 0 0 0 [] false ∧ ({ s.dev with sessions := e.sessions, result := e.result, data := e.data, reply := e.reply } : Dev).ShowsOnly e ∧ OnlyObjects (fun k => k == el Obj.SESSION_STATE n || isTraceCount k) s.dev e)) ∧
  (∀ (s : State) (path : Path) (source n seq : Nat) (tag : Bytes), s.dev.phase = .service → s.dev.portOff path = false → (1 ≤ n ∧ n ≤ 8) → s.dev.sessState n = 1 → s.dev.n (el Obj.SESSION_PATH n) = pathNum path → s.dev.n (el Obj.SESSION_PEER n) = source → tag ≠ Config.aesCmac (s.dev.roleKey (s.dev.roleOf n)) (tagMessage (s.dev.roleOf n) n (s.dev.sess n)) → s.dev.wrongTags = [] → 
    Completes (.auth path source n seq tag) s (fun e => e.result = 0x60000001 ∧ e.sessState n = 0 ∧ e.raised 0xD8 ∧ e.o Obj.AUTH_FAILS = satU32 (s.dev.o Obj.AUTH_FAILS + 1) ∧ e.wrongTags = [(pathNum path, source, s.dev.wall)] ∧
      e.reply = replyBytes 0x11 n seq 0 0 0x60000001 [] false ∧ ({ s.dev with sessions := e.sessions, couriers := e.couriers, update := e.update, wrongTags := e.wrongTags, result := e.result, data := e.data, reply := e.reply } : Dev).ShowsOnly e ∧ OnlyObjects (fun k => k == Obj.AUTH_FAILS || isSession k || isTraceCount k) s.dev e)) ∧
  (∀ (s : State) (path : Path) (source n seq : Nat) (tag : Bytes), s.dev.phase = .service → s.dev.portOff path = false → (n = 0 ∨ 8 < n ∨ s.dev.sessState n = 0) → 
    Completes (.auth path source n seq tag) s (fun e => e.reply = [] ∧ e.raised 0xD9 ∧ e.o Obj.UNIT_DISCARDS = satU32 (s.dev.o Obj.UNIT_DISCARDS + 1) ∧ e.sessions = s.dev.sessions ∧ ({ s.dev with reply := e.reply } : Dev).ShowsOnly e ∧ OnlyObjects (fun k => k == Obj.UNIT_DISCARDS || isTraceCount k) s.dev e)) ∧
  (∀ (s : State) (path : Path) (source n seq : Nat), s.dev.phase = .service → openFor s.dev path source n seq = true → 
    Completes (.close path source n seq (macOf s.dev 0x12 n false seq 0 0 [])) s (fun e => e.result = 0 ∧ e.sessState n = 0 ∧ e.raised 0xD7 ∧ Tab.get {} e.sessions n = {} ∧ e.reply = replyMac (s.dev.sess n).key 0x12 n seq 0 0 0 [] false ∧
      ({ s.dev with sessions := e.sessions, couriers := e.couriers, update := e.update, result := e.result, data := e.data, reply := e.reply } : Dev).ShowsOnly e ∧ OnlyObjects (fun k => isSession k || isTraceCount k) s.dev e)) ∧
  (∀ (s : State) (path : Path) (source n seq : Nat), s.dev.phase = .service → openFor s.dev path source n seq = true → 
    Completes (.keepalive path source n seq (macOf s.dev 0x13 n false seq 0 0 [])) s (fun e => e.result = 0 ∧ (e.sess n).seq = some seq ∧ (e.sess n).at_ = s.dev.wall ∧ e.reply = replyMac (s.dev.sess n).key 0x13 n seq 0 0 0 [] false ∧
      ({ s.dev with sessions := e.sessions, result := e.result, data := e.data, reply := e.reply } : Dev).ShowsOnly e ∧ OnlyObjects (fun _ => false) s.dev e))

/-- Object access by units. Each clause says what it takes from R390 to R392, R395, R413, R414, R417, R418. Where the spec leaves a point of these
clauses open, the model's choice is log entries 34 and 36. -/
def Obligations.ReadsAndWrites : Prop :=
  (∀ (s : State) (path : Path) (source seq index sub : Nat) (mac : Bytes) (ty : ObjTy), s.dev.phase = .service → s.dev.portOff path = false → readCheck 0 (index * 256 + sub) = 0 → objType (index * 256 + sub) = some ty → (ty ≠ .domain ∧ ty ≠ .str) → s.dev.poison.contains (index * 256 + sub) = false → 
    Completes (.read path source 0 seq index sub 0 mac) s (fun e => e.result = 0 ∧ e.data = leBytes (typeWidth ty) (s.dev.readValue (index * 256 + sub)) ∧
      e.reply = replyBytes 1 0 seq index sub 0 (leBytes (typeWidth ty) (s.dev.readValue (index * 256 + sub))) true ∧ ({ s.dev with result := e.result, data := e.data, reply := e.reply } : Dev).ShowsOnly e ∧ OnlyObjects (fun _ => false) s.dev e)) ∧
  (∀ (s : State) (path : Path) (source seq index sub : Nat) (mac : Bytes) (ty : ObjTy), s.dev.phase = .service → s.dev.portOff path = false → readCheck 0 (index * 256 + sub) = 0 → objType (index * 256 + sub) = some ty → (ty ≠ .domain ∧ ty ≠ .str) → s.dev.poison.contains (index * 256 + sub) = true → 
    Completes (.read path source 0 seq index sub 0 mac) s (fun e => e.result = 0x70000001 ∧ e.data = [] ∧ e.raised 0xE3 ∧ e.o Obj.POISON_CONSUMED = satU32 (s.dev.o Obj.POISON_CONSUMED + 1) ∧ e.poison = s.dev.poison ∧
      e.reply = replyBytes 1 0 seq index sub 0x70000001 [] false ∧ ({ s.dev with result := e.result, data := e.data, reply := e.reply } : Dev).ShowsOnly e ∧ OnlyObjects (fun k => k == Obj.POISON_CONSUMED || isTraceCount k) s.dev e)) ∧
  (∀ (s : State) (path : Path) (source seq index sub off : Nat) (mac : Bytes), s.dev.phase = .service → s.dev.portOff path = false → readCheck 0 (index * 256 + sub) ≠ 0 → 
    Completes (.read path source 0 seq index sub off mac) s (fun e => e.result = readCheck 0 (index * 256 + sub) ∧ e.data = [] ∧ e.reply = replyBytes 1 0 seq index sub (readCheck 0 (index * 256 + sub)) [] false ∧ ({ s.dev with result := e.result, data := e.data, reply := e.reply } : Dev).ShowsOnly e ∧ OnlyObjects (fun _ => false) s.dev e)) ∧
  (∀ (s : State) (path : Path) (source n seq sub v : Nat) (u : UnitIn), s.dev.phase = .service → openFor s.dev path source n seq = true → (1 ≤ sub ∧ sub ≤ 9) → (100 ≤ v ∧ v ≤ 60000) → 2 ≤ s.dev.roleOf n → s.dev.fuse.ceilings = [] → 
    Completes (.write path source n seq 0x2300 sub (leBytes 4 (v : Int)) (macOf s.dev 2 n false seq 0x2300 sub (leBytes 4 (v : Int))) u) s (fun e => e.result = 0 ∧ e.writes = s.dev.writes ++ [{ key := 0x230000 + sub, val := v, block := none }] ∧ (e.sess n).seq = some seq ∧
      e.reply = replyMac (s.dev.sess n).key 2 n seq 0x2300 sub 0 [] false ∧ ({ s.dev with sessions := e.sessions, result := e.result, data := e.data, reply := e.reply, writes := e.writes } : Dev).ShowsOnly e ∧ OnlyObjects (fun _ => false) s.dev e)) ∧
  (∀ (s : State) (path : Path) (source n seq sub : Nat) (b : Bytes) (u : UnitIn), s.dev.phase = .service → openFor s.dev path source n seq = true → (1 ≤ sub ∧ sub ≤ 9) → (s.dev.roleOf n < 2 ∨ b.length ≠ 4 ∨ ofLe b < 100 ∨ 60000 < ofLe b) → 
    Completes (.write path source n seq 0x2300 sub b (macOf s.dev 2 n false seq 0x2300 sub b) u) s (fun e => e.result = (if s.dev.roleOf n < 2 then resRole else if b.length ≠ 4 then 0x30000001 else resRange) ∧ e.writes = s.dev.writes ∧ ({ s.dev with sessions := e.sessions, result := e.result, data := e.data, reply := e.reply } : Dev).ShowsOnly e ∧ OnlyObjects (fun _ => false) s.dev e)) ∧
  (∀ (s : State) (path : Path) (source n seq index sub : Nat) (b mac : Bytes) (u : UnitIn), s.dev.phase = .service → s.dev.portOff path = false → (8 < n ∨ (1 ≤ n ∧ s.dev.sessState n ≠ 2)) → 
    Completes (.write path source n seq index sub b mac u) s (fun e => e.reply = [] ∧ e.raised 0xD9 ∧ e.o Obj.UNIT_DISCARDS = satU32 (s.dev.o Obj.UNIT_DISCARDS + 1) ∧ e.writes = s.dev.writes ∧ ({ s.dev with reply := e.reply } : Dev).ShowsOnly e ∧ OnlyObjects (fun k => k == Obj.UNIT_DISCARDS || isTraceCount k) s.dev e)) ∧
  (∀ (s : State) (path : Path) (source n seq index sub : Nat) (b : Bytes) (u : UnitIn), s.dev.phase = .service → s.dev.portOff path = false → (1 ≤ n ∧ n ≤ 8) → s.dev.sessState n = 2 → s.dev.n (el Obj.SESSION_PATH n) = pathNum path → s.dev.n (el Obj.SESSION_PEER n) = source → s.dev.outstanding n = false → seq < 4294967295 → (s.dev.sess n).seq = some seq → (s.dev.sess n).asked = unitHeader 2 n b.length 0 seq index sub ++ b → 
    Completes (.write path source n seq index sub b (macOf s.dev 2 n false seq index sub b) u) s (fun e => e.result = (s.dev.sess n).answer ∧ e.writes = s.dev.writes ∧
      e.reply = replyMac (s.dev.sess n).key 2 n seq index sub (s.dev.sess n).answer (s.dev.sess n).data (s.dev.sess n).last ∧ ({ s.dev with sessions := e.sessions, result := e.result, data := e.data, reply := e.reply } : Dev).ShowsOnly e ∧ OnlyObjects (fun _ => false) s.dev e)) ∧
  (∀ (s : State) (path : Path) (source n seq : Nat) (b : Bytes) (u : UnitIn), s.dev.phase = .service → openFor s.dev path source n seq = true → b.length = 32 → 2 ≤ s.dev.roleOf n → s.dev.o Obj.TRACE_STATE = 0 → s.dev.stagingOthers n < 2 → 
    Completes (.writeSeg path source n seq 0xC001 0 0 true b (macOf s.dev 3 n true seq 0xC001 0 ([0, 0, 0, 0] ++ b)) u) s (fun e => e.result = 0 ∧ e.block Obj.EVENT_MASK = b ∧ (e.sess n).staging = none ∧ e.writes = s.dev.writes ∧ ({ s.dev with sessions := e.sessions, result := e.result, data := e.data, reply := e.reply, blk := e.blk, poison := e.poison } : Dev).ShowsOnly e ∧ OnlyObjects (fun _ => false) s.dev e)) ∧
  (∀ (s : State) (path : Path) (source n seq off : Nat) (last : Bool) (b : Bytes) (u : UnitIn), s.dev.phase = .service → openFor s.dev path source n seq = true → 2 ≤ s.dev.roleOf n → (0 < off ∧ off < 4294967296) → (s.dev.sess n).staging = none → 
    Completes (.writeSeg path source n seq 0xC001 0 off last b (macOf s.dev 3 n last seq 0xC001 0 (leBytes 4 (off : Int) ++ b)) u) s (fun e => e.result = 0x40000003 ∧ (e.sess n).staging = none ∧ ({ s.dev with sessions := e.sessions, result := e.result, data := e.data, reply := e.reply } : Dev).ShowsOnly e ∧ OnlyObjects (fun _ => false) s.dev e)) ∧
  (∀ (s : State) (path : Path) (source n seq : Nat) (b : Bytes) (u : UnitIn), s.dev.phase = .service → openFor s.dev path source n seq = true → 2 ≤ s.dev.roleOf n → s.dev.stagingOthers n < 2 → b.length ≤ 1024 → 
    Completes (.writeSeg path source n seq 0xC001 0 0 false b (macOf s.dev 3 n false seq 0xC001 0 ([0, 0, 0, 0] ++ b)) u) s (fun e => e.result = 0 ∧ (e.sess n).staging = some (Obj.EVENT_MASK, b, s.dev.wall) ∧ ({ s.dev with sessions := e.sessions, result := e.result, data := e.data, reply := e.reply } : Dev).ShowsOnly e ∧ OnlyObjects (fun _ => false) s.dev e))

/-- Couriers. Each clause says what it takes from R420 to R424. Where the spec leaves a point of these clauses open, the model's choice is log entries
45 and 46. -/
def Obligations.Couriers : Prop :=
  (∀ (s : State) (al : Fin 64) (g : Fin 32) (v : Fin 2), s.dev.phase = .service → s.dev.o (at' Obj.T_IDX al) = 0x8013 → s.dev.o (at' Obj.T_SUB al) = 0 → s.dev.o (at' Obj.KIND g) = 2 → s.dev.o (at' Obj.TIMING g) = 0 → s.dev.o (at' Obj.STATE_F000 g) = 0 → s.dev.block (at' Obj.MEMBERS g) = [3, 0, 0, 0, 0, 0, 0, 0, 0, 0, 0, 0, 0, 0, 0, 0] → s.dev.laneCheck authorised 0x801301 v = 0 → s.dev.laneCheck authorised 0x801302 v = 0 → 
    Completes (.courierWrite al g [v.val]) s (fun e => e.result = 0 ∧ e.o (at' Obj.STATE_F000 g) = 1 ∧ Tab.get {} e.couriers g = { pending := true, slot := none, session := 0, head := [], keys := [0x801301, 0x801302], value := v, node := none } ∧
      e.writes = s.dev.writes ∧ ({ s.dev with couriers := e.couriers, result := e.result } : Dev).ShowsOnly e ∧ OnlyObjects (fun k => k == at' Obj.STATE_F000 g) s.dev e)) ∧
  (∀ (s : State) (al : Fin 64) (g : Fin 32) (v : Fin 2), s.dev.phase = .service → s.dev.o (at' Obj.T_IDX al) = 0x8013 → s.dev.o (at' Obj.T_SUB al) = 0 → ((s.dev.o (at' Obj.KIND g) = 2 ∧ s.dev.o (at' Obj.STATE_F000 g) = 1 ∧ s.dev.block (at' Obj.MEMBERS g) = []) ∨ s.dev.o (at' Obj.KIND g) = 3) → 
    Completes (.courierWrite al g [v.val]) s (fun e => e.result = (if s.dev.o (at' Obj.KIND g) = 3 then resCombination else resBusy) ∧ e.couriers = s.dev.couriers ∧ ({ s.dev with result := e.result } : Dev).ShowsOnly e ∧ OnlyObjects (fun _ => false) s.dev e)) ∧
  (∀ (s : State) (g : Fin 32), s.dev.phase = .service → (Tab.get {} s.dev.couriers g).pending = true → (Tab.get {} s.dev.couriers g).slot = none → (Tab.get {} s.dev.couriers g).owed = false → 
    Completes (.courierCancel g) s (fun e => e.result = 0 ∧ e.o (at' Obj.STATE_F000 g) = 5 ∧ Tab.get {} e.couriers g = {} ∧ e.writes = s.dev.writes ∧ ({ s.dev with couriers := e.couriers, result := e.result } : Dev).ShowsOnly e ∧ OnlyObjects (fun k => k == at' Obj.STATE_F000 g) s.dev e)) ∧
  (∀ (s : State) (g : Fin 32), s.dev.phase = .service → (Tab.get {} s.dev.couriers g).pending = false → 
    Completes (.courierCancel g) s (fun e => e.result = resState ∧ e.couriers = s.dev.couriers ∧ ({ s.dev with result := e.result } : Dev).ShowsOnly e ∧ OnlyObjects (fun _ => false) s.dev e)) ∧
  (∀ (s : State) (i : LinkIn) (g : Fin 32) (keys : List Nat) (v : Int), s.dev.alive = true → s.dev.couriers = [(g.val, { pending := true, slot := none, owed := false, session := 0, head := [], keys := keys, value := v, node := none })] → s.dev.writes = [] → (keys.all (fun k => decide (0x7000 ≤ keyIdx k) && decide (keyIdx k < 0xB000)) = true) → 
    Completes (.ledgerPeriod i) s (fun e => e.couriers = [] ∧ e.o (at' Obj.STATE_F000 g) = 2 ∧ e.o (at' Obj.APPLIED_AT g) = s.dev.wall ∧ e.raised 0x1E ∧ e.writes = keys.map (fun k => ({ key := k, val := v } : PWrite)) ∧ ({ s.dev with writes := e.writes, couriers := e.couriers, nfLevel := e.nfLevel, nfSeen := e.nfSeen, shift := e.shift } : Dev).RaisesOnly e ∧ OnlyObjects (fun k => keyIdx k / 256 == 0x24 || keyIdx k / 256 == 0x58 || keyIdx k / 256 == 0x61 || k == Obj.SUPPLY_STATE || k == Obj.SHIFT_STATE || keyIdx k == 0xF000 + g.val || isReaction k) s.dev e))

/-- The host SPI port in single-slave mode. Each clause says what it takes from R434 to R438. Where the spec leaves a point of these clauses open, the
model's choice is log entries 32, 38 and 39. -/
def Obligations.HostPortWord : Prop :=
  (∀ (s : State), hspOn s.dev 0 = true → 
    Completes (.nop) s (fun e => e.hsp = hspAfter s.dev e.hsp.out ∧ byteAt e.hsp.out 0 / 2 * 2 = statusBits s.dev ∧ onesOf (byteAt e.hsp.out 0) % 2 = 1 ∧
      ofLe (e.hsp.out.drop 1) = (s.dev.hsp.resp.headD []).length % 8192 * 2048 ∧ e.hsp.out.length = 4 ∧ ({ s.dev with hsp := e.hsp } : Dev).ShowsOnly e ∧ OnlyObjects (fun _ => false) s.dev e)) ∧
  (∀ (s : State) (b : Bytes), hspOn s.dev 0 = true → s.dev.hsp.free = true → 
    Completes (.writeUnit b) s (fun e => e.hsp = { hspAfter s.dev e.hsp.out with req := some b, free := false } ∧ e.hsp.out.drop 4 = zeroWords (wordsOf b.length) ∧ ({ s.dev with hsp := e.hsp } : Dev).ShowsOnly e ∧ OnlyObjects (fun _ => false) s.dev e)) ∧
  (∀ (s : State) (b : Bytes), hspOn s.dev 0 = true → s.dev.hsp.free = false → 
    Completes (.writeUnit b) s (fun e => e.hsp = { hspAfter s.dev e.hsp.out with aborted := true } ∧ e.o Obj.OVERRUNS = satU32 (s.dev.o Obj.OVERRUNS + 1) ∧ ({ s.dev with hsp := e.hsp } : Dev).ShowsOnly e ∧ OnlyObjects (fun k => k == Obj.OVERRUNS) s.dev e)) ∧
  (∀ (s : State) (n : Nat) (r : Bytes) (t : List Bytes), hspOn s.dev 0 = true → s.dev.hsp.resp = r :: t → (r.length + 3) / 4 ≤ n → t.length ≤ 1 → 
    Completes (.readUnit n) s (fun e => e.hsp = { hspAfter s.dev e.hsp.out with resp := t, free := s.dev.hsp.req.isNone } ∧ e.hsp.out.drop 4 = r ++ List.replicate (4 * n - r.length) 0 ∧
      e.o Obj.UNITS_OUT = wrapU32 (s.dev.o Obj.UNITS_OUT + 1) ∧ ({ s.dev with hsp := e.hsp } : Dev).ShowsOnly e ∧ OnlyObjects (fun k => k == Obj.UNITS_OUT) s.dev e)) ∧
  (∀ (s : State) (n : Nat) (r : Bytes) (t : List Bytes), hspOn s.dev 0 = true → s.dev.hsp.resp = r :: t → n < (r.length + 3) / 4 → 
    Completes (.readUnit n) s (fun e => e.hsp = hspAfter s.dev e.hsp.out ∧ e.hsp.out.drop 4 = r.take (4 * n) ∧ ({ s.dev with hsp := e.hsp } : Dev).ShowsOnly e ∧ OnlyObjects (fun _ => false) s.dev e)) ∧
  (∀ (s : State) (ref : Nat), hspOn s.dev 0 = true → 
    Completes (.directRead ref) s (fun e => e.hsp = { hspAfter s.dev e.hsp.out with buf := [], ptr := 0, ready := false, want := some (ref % 16777216) } ∧ ({ s.dev with hsp := e.hsp } : Dev).ShowsOnly e ∧ OnlyObjects (fun _ => false) s.dev e)) ∧
  (∀ (s : State) (r : Nat), s.dev.phase = .service → s.dev.hsp.want = some r → readCheck 0 r = 0 → highestSub (keyIdx r) = keySub r → (objType r = some .u16 ∨ objType r = some .u8 ∨ objType r = some .u32) → s.dev.poison.contains r = false → 
    Completes (.hspBufferFilled) s (fun e => e.hsp = { s.dev.hsp with buf := [0, 0, 0, 0] ++ leBytes 4 (s.dev.readValue r), ptr := 0, ready := true, want := none } ∧ ({ s.dev with hsp := e.hsp } : Dev).ShowsOnly e ∧ OnlyObjects (fun _ => false) s.dev e)) ∧
  (∀ (s : State) (r : Nat), s.dev.phase = .service → s.dev.hsp.want = some r → readCheck 0 r ≠ 0 → 
    Completes (.hspBufferFilled) s (fun e => e.hsp = { s.dev.hsp with buf := leBytes 4 (readCheck 0 r : Int), ptr := 0, ready := true, want := none } ∧ ({ s.dev with hsp := e.hsp } : Dev).ShowsOnly e ∧ OnlyObjects (fun _ => false) s.dev e)) ∧
  (∀ (s : State) (r : Nat), s.dev.phase = .service → s.dev.hsp.want = some r → readCheck 0 r = 0 → objType r ≠ some .domain → s.dev.poison.contains r = true → 
    Completes (.hspBufferFilled) s (fun e => e.hsp = { s.dev.hsp with buf := leBytes 4 (0x70000001 : Int), ptr := 0, ready := true, want := none, poison := true } ∧ e.raised 0xE3 ∧
      e.o Obj.POISON_CONSUMED = satU32 (s.dev.o Obj.POISON_CONSUMED + 1) ∧ ({ s.dev with hsp := e.hsp } : Dev).ShowsOnly e ∧ OnlyObjects (fun k => k == Obj.POISON_CONSUMED || isTraceCount k) s.dev e)) ∧
  (∀ (s : State) (n : Nat), hspOn s.dev 0 = true → s.dev.hsp.ready = true → 
    Completes (.readData n) s (fun e => e.hsp.out.drop 4 = (s.dev.hsp.buf.drop (4 * s.dev.hsp.ptr)).take (4 * n) ++ List.replicate (4 * n - (s.dev.hsp.buf.drop (4 * s.dev.hsp.ptr)).length) 0 ∧
      e.hsp = (if (s.dev.hsp.buf.length + 3) / 4 - s.dev.hsp.ptr < n
      then { hspAfter s.dev e.hsp.out with ptr := s.dev.hsp.ptr + ((s.dev.hsp.buf.length + 3) / 4 - s.dev.hsp.ptr), ready := false, end_ := true }
      else { hspAfter s.dev e.hsp.out with ptr := s.dev.hsp.ptr + n }) ∧ ({ s.dev with hsp := e.hsp } : Dev).ShowsOnly e ∧ OnlyObjects (fun _ => false) s.dev e)) ∧
  (∀ (s : State) (n : Nat), hspOn s.dev 0 = true → s.dev.hsp.ready = false → 
    Completes (.readData n) s (fun e => e.hsp = { hspAfter s.dev e.hsp.out with end_ := true } ∧ e.hsp.out.drop 4 = List.replicate (4 * n) 0 ∧ ({ s.dev with hsp := e.hsp } : Dev).ShowsOnly e ∧ OnlyObjects (fun _ => false) s.dev e)) ∧
  (∀ (s : State) (cmd : Nat), hspOn s.dev 0 = true → 4 < cmd → 
    Completes (.hspBadCmd cmd) s (fun e => e.hsp = { hspAfter s.dev e.hsp.out with aborted := true } ∧ e.o Obj.BAD_CMD = satU32 (s.dev.o Obj.BAD_CMD + 1) ∧ ({ s.dev with hsp := e.hsp } : Dev).ShowsOnly e ∧ OnlyObjects (fun k => k == Obj.BAD_CMD) s.dev e)) ∧
  (∀ (s : State) (u : UnitIn) (b : Bytes), s.dev.phase = .service → s.dev.portOff .hsp = false → s.dev.o Obj.HSP_MODE = 0 → s.dev.hsp.req = some b → b = [1, 0, 4, 0, 7, 0, 0, 0, 0, 0x26, 7, 0, 0, 0, 0, 0] → s.dev.poison.contains Obj.VSUP = false → s.dev.hsp.resp = [] → 
    Completes (.hspUnitTaken u) s (fun e => e.hsp = { s.dev.hsp with req := none, resp := [[0x81, 0, 6, 64, 7, 0, 0, 0, 0, 0x26, 7, 0, 0, 0, 0, 0] ++ leBytes 2 (s.dev.o Obj.VSUP)], free := true } ∧
      e.result = 0 ∧ e.o Obj.UNITS_IN = wrapU32 (s.dev.o Obj.UNITS_IN + 1) ∧ ({ s.dev with hsp := e.hsp, result := e.result, data := e.data, reply := e.reply } : Dev).ShowsOnly e ∧ OnlyObjects (fun k => k == Obj.UNITS_IN) s.dev e)) ∧
  (∀ (s : State) (u : UnitIn) (b : Bytes), s.dev.phase = .service → s.dev.hsp.req = some b → b.length < 12 → 
    Completes (.hspUnitTaken u) s (fun e => e.hsp = { s.dev.hsp with req := none, free := decide (s.dev.hsp.resp.length < 2) } ∧ e.reply = [] ∧ e.o Obj.UNITS_IN = wrapU32 (s.dev.o Obj.UNITS_IN + 1) ∧
      e.o Obj.UNIT_DISCARDS = satU32 (s.dev.o Obj.UNIT_DISCARDS + 1) ∧ ({ s.dev with hsp := e.hsp, reply := e.reply } : Dev).ShowsOnly e ∧ OnlyObjects (fun k => k == Obj.UNITS_IN || k == Obj.UNIT_DISCARDS) s.dev e))

/-- Aborted transactions and the daisy chain. Each clause says what it takes from R434, R440 to R442. Where the spec leaves a point of these clauses
open, the model's choice is log entry 38. -/
def Obligations.HostPortAbortsAndDaisy : Prop :=
  (∀ (s : State) (cmd len : Nat), hspOn s.dev 0 = true → 
    Completes (.hspAbort cmd len 0) s (fun e => e.hsp = s.dev.hsp ∧ s.dev.ShowsOnly e ∧ OnlyObjects (fun _ => false) s.dev e)) ∧
  (∀ (s : State) (cmd len bits : Nat), hspOn s.dev 0 = true → ((1 ≤ bits ∧ bits < 32) ∨ (cmd = 1 ∧ 32 ≤ bits ∧ bits / 32 - 1 < (len + 3) / 4)) → 
    Completes (.hspAbort cmd len bits) s (fun e => e.hsp.aborted = true ∧ e.hsp.req = s.dev.hsp.req ∧ e.hsp.free = s.dev.hsp.free ∧ e.hsp.resp = s.dev.hsp.resp ∧ e.hsp.ptr = s.dev.hsp.ptr ∧ e.hsp.buf = s.dev.hsp.buf ∧
      e.hsp.ready = s.dev.hsp.ready ∧ e.hsp.out.length ≤ bits / 8 ∧ e.o Obj.ABORTS = satU32 (s.dev.o Obj.ABORTS + 1) ∧ ({ s.dev with hsp := e.hsp } : Dev).ShowsOnly e ∧ OnlyObjects (fun k => k == Obj.ABORTS) s.dev e)) ∧
  (∀ (s : State) (len bits : Nat), hspOn s.dev 0 = true → (32 < bits ∧ bits % 32 ≠ 0) → 
    Completes (.hspAbort 2 len bits) s (fun e => e.hsp.resp = s.dev.hsp.resp ∧ e.hsp.aborted = false ∧ e.hsp.req = s.dev.hsp.req ∧ e.hsp.free = s.dev.hsp.free ∧ e.hsp.ptr = s.dev.hsp.ptr ∧ ({ s.dev with hsp := e.hsp } : Dev).ShowsOnly e ∧ OnlyObjects (fun _ => false) s.dev e)) ∧
  (∀ (s : State) (bits : Nat) (seg : Bytes), hspOn s.dev 1 = true → s.dev.o Obj.DC_FRAME_BITS = bits → byteAt seg 0 = 0 → s.dev.hsp.cmd = 0 → 
    Completes (.daisyFrameLatch bits seg) s (fun e => e.hsp = { hspAfter s.dev e.hsp.out with cmd := 0 } ∧ byteAt e.hsp.out 0 / 2 * 2 = statusBits s.dev ∧ e.hsp.out.drop 4 = zeroWords (s.dev.n Obj.DC_WORDS - 1) ∧ ({ s.dev with hsp := e.hsp } : Dev).ShowsOnly e ∧ OnlyObjects (fun _ => false) s.dev e)) ∧
  (∀ (s : State) (bits : Nat) (seg : Bytes) (r : Bytes) (t : List Bytes), hspOn s.dev 1 = true → s.dev.o Obj.DC_FRAME_BITS = bits → byteAt seg 0 = 2 → s.dev.hsp.cmd = 2 → s.dev.hsp.resp = r :: t → t.length ≤ 1 → 
    Completes (.daisyFrameLatch bits seg) s (fun e => e.hsp = { hspAfter s.dev e.hsp.out with cmd := 2, resp := t, free := s.dev.hsp.req.isNone } ∧ e.hsp.out.drop 4 = padWords (s.dev.n Obj.DC_WORDS - 1) r ∧
      e.o Obj.UNITS_OUT = wrapU32 (s.dev.o Obj.UNITS_OUT + 1) ∧ ({ s.dev with hsp := e.hsp } : Dev).ShowsOnly e ∧ OnlyObjects (fun k => k == Obj.UNITS_OUT) s.dev e)) ∧
  (∀ (s : State) (bits : Nat) (seg : Bytes), hspOn s.dev 1 = true → s.dev.o Obj.DC_FRAME_BITS ≠ bits → 
    Completes (.daisyFrameLatch bits seg) s (fun e => e.hsp = { s.dev.hsp with aborted := true, out := e.hsp.out } ∧ e.o Obj.ABORTS = satU32 (s.dev.o Obj.ABORTS + 1) ∧ ({ s.dev with hsp := e.hsp } : Dev).ShowsOnly e ∧ OnlyObjects (fun k => k == Obj.ABORTS) s.dev e)) ∧
  (∀ (s : State) (b : Bytes), (s.dev.phase ≠ .service ∨ s.dev.portOff .hsp = true) → 
    Completes (.writeUnit b) s (fun e => e.hsp = { s.dev.hsp with out := zeroWords (1 + wordsOf b.length) } ∧ ({ s.dev with hsp := e.hsp } : Dev).ShowsOnly e ∧ OnlyObjects (fun _ => false) s.dev e))

/-- The fuse array. Each clause says what it takes from R463, R477, R479 to R483, R489, R491, R493. Where the spec leaves a point of these clauses open,
the model's choice is log entry 102. -/
def Obligations.FuseCommands : Prop :=
  (∀ (s : State) (n : Fin 8) (w : Fin 1024), s.dev.phase = .service → (s.dev.roleOf (n + 1) = 2 ∨ s.dev.roleOf (n + 1) = 3) → s.dev.o Obj.LIFE_CYCLE = 2 → (256 + 128 * s.dev.bankNow ≤ w.val ∧ w.val < 384 + 128 * s.dev.bankNow) → s.dev.cSet (s.dev.bankLock s.dev.bankNow) = false → s.dev.fuse.job = none → 
    Completes (.otpProgram n w) s (fun e => e.result = 0 ∧ e.o Obj.OTP_STATUS = otpStatus true 0 0 (s.dev.bankAddr s.dev.bankNow (w - 256 - 128 * s.dev.bankNow)) 0 ∧
      e.fuse = { s.dev.fuse with job := some { kind := 1, word := s.dev.bankAddr s.dev.bankNow (w - 256 - 128 * s.dev.bankNow), value := Tab.get 0 s.dev.fuse.data (n + 1) } } ∧ ({ s.dev with fuse := e.fuse, result := e.result } : Dev).ShowsOnly e ∧ OnlyObjects (fun k => k == Obj.OTP_STATUS) s.dev e)) ∧
  (∀ (s : State) (n : Fin 8) (w : Fin 1024), s.dev.phase = .service → s.dev.roleOf (n + 1) < 4 → (w.val < 256 + 128 * s.dev.bankNow ∨ 384 + 128 * s.dev.bankNow ≤ w.val) → 
    Completes (.otpProgram n w) s (fun e => e.result = resRange ∧ ({ s.dev with result := e.result } : Dev).ShowsOnly e ∧ OnlyObjects (fun _ => false) s.dev e)) ∧
  (∀ (s : State) (n : Fin 8), s.dev.phase = .service → s.dev.cSet (s.dev.bankLock 0) = false → s.dev.regionOk 2 = true → s.dev.fuse.failed = [] → s.dev.fuse.job = none → 
    Completes (.otpLock n 0) s (fun e => e.result = 0 ∧ e.o Obj.OTP_STATUS = otpStatus true 0 0 (s.dev.bankLock 0) 0 ∧
      e.fuse = { s.dev.fuse with job := some { kind := 2, word := s.dev.bankLock 0, value := record1 5 ((s.dev.bankLock 0 - 512) * 2 ^ 16) 0, bank := 1 } } ∧ ({ s.dev with fuse := e.fuse, result := e.result } : Dev).ShowsOnly e ∧ OnlyObjects (fun k => k == Obj.OTP_STATUS) s.dev e)) ∧
  (∀ (s : State) (n : Fin 8), s.dev.phase = .service → s.dev.cSet (s.dev.bankLock 0) = false → s.dev.regionOk 2 = false → 
    Completes (.otpLock n 0) s (fun e => e.result = resCombination ∧ ({ s.dev with result := e.result } : Dev).ShowsOnly e ∧ OnlyObjects (fun _ => false) s.dev e)) ∧
  (∀ (s : State) (n : Fin 8) (bank : Fin 2) (t : Nat), s.dev.phase = .service → s.dev.o Obj.LIFE_CYCLE = 2 → bank.val = s.dev.bankNow → Tab.get 0 s.dev.fuse.data (n + 1) % 128 ≠ 0 → s.dev.reissued bank = false → s.dev.spareRun (Tab.get 0 s.dev.fuse.data (n + 1) % 128 + 1) = some t → s.dev.fuse.job = none → 
    Completes (.otpReissue n bank) s (fun e => e.result = 0 ∧ e.o Obj.OTP_STATUS = otpStatus true 0 0 (523 + 3 * bank) 0 ∧
      e.fuse.job = some { kind := 3, word := 523 + 3 * bank, value := record1 3 ((256 + 128 * bank) * 2 ^ 14 + t * 2 ^ 4 + 1) 0, bank := bank + 1 } ∧
      (∀ i ∈ List.range (Tab.get 0 s.dev.fuse.data (n + 1) % 128 + 1), t + i ∈ e.fuse.spares) ∧ ({ s.dev with fuse := e.fuse, result := e.result } : Dev).ShowsOnly e ∧ OnlyObjects (fun k => k == Obj.OTP_STATUS) s.dev e)) ∧
  (∀ (s : State) (n : Fin 8) (bank : Fin 2), s.dev.phase = .service → s.dev.o Obj.LIFE_CYCLE ≠ 2 → 
    Completes (.otpReissue n bank) s (fun e => e.result = 0x20000004 ∧ ({ s.dev with result := e.result } : Dev).ShowsOnly e ∧ OnlyObjects (fun _ => false) s.dev e)) ∧
  (∀ (s : State) (retries : Fin 5) (j : OtpJob), s.dev.alive = true → s.dev.fuse.job = some j → j.kind = 1 → s.dev.fuseWord j.word = 0 → j.value ≠ 0 → 
    Completes (.otpCommandEnd [] retries) s (fun e => e.o Obj.OTP_STATUS = otpStatus false 1 retries j.word 0 ∧ e.fuseRaw (s.dev.fuseAddr j.word) = j.value ∧ e.fuse.job = none ∧
      Tab.get 0 e.fuse.array (s.dev.fuseAddr j.word) = Nat.lor j.value (Tab.get 0 s.dev.fuse.array (s.dev.fuseAddr j.word)) ∧ ({ s.dev with fuse := e.fuse } : Dev).ShowsOnly e ∧ OnlyObjects (fun k => k == Obj.OTP_STATUS) s.dev e)) ∧
  (∀ (s : State) (retries : Fin 5) (j : OtpJob) (t : Nat), s.dev.alive = true → s.dev.fuse.job = some j → j.kind = 1 → s.dev.fuseWord j.word = 0 → j.value ≠ 0 → s.dev.fuseAddr j.word < 640 → s.dev.freeSpares.head? = some t → s.dev.nextWord 640 128 < 768 → 
    Completes (.otpCommandEnd [s.dev.fuseAddr j.word] retries) s (fun e => e.o Obj.OTP_STATUS = otpStatus false 2 retries j.word t ∧ t ∈ e.fuse.spares ∧ e.fuse.job = none ∧ e.raised 0xE9 ∧ e.coll.log.getLast?.map LogRec.code = some 0xB0E9 ∧ ({ s.dev with fuse := e.fuse } : Dev).RaisesOnly e ∧
      OnlyObjects (fun k => k == Obj.OTP_STATUS || k == Obj.SPARE_USED || k == Obj.SPARE_FREE || k == Obj.SPARE_FAILED || k == Obj.J_FREE || isReaction k) s.dev e)) ∧
  (∀ (s : State) (r : Nat) (t : List Nat), s.dev.alive = true → s.dev.mRecords = r :: t → s.dev.nextWord 576 64 < 640 → 
    Completes (.mRecordStore []) s (fun e => e.mRecords = t ∧ Tab.get 0 e.fuse.array (s.dev.nextWord 576 64) = r ∧ ({ s.dev with mRecords := e.mRecords, fuse := e.fuse } : Dev).ShowsOnly e ∧ OnlyObjects (fun k => k == Obj.M_RECORDS_USED || k == Obj.M_RECORDS_FREE) s.dev e)) ∧
  (∀ (s : State) (r : Nat) (t : List Nat), s.dev.alive = true → s.dev.mRecords = r :: t → 640 ≤ s.dev.nextWord 576 64 → 
    Completes (.mRecordStore []) s (fun e => e.mRecords = t ∧ e.fuse = s.dev.fuse ∧ e.raised 0xE6 ∧ e.coll.log.getLast?.map LogRec.code = some 0xA0E4 ∧ ({ s.dev with mRecords := e.mRecords } : Dev).RaisesOnly e ∧ OnlyObjects (fun k => isReaction k) s.dev e)) ∧
  (∀ (s : State) (b : Bytes) (m : Nat), s.dev.phase = .service → s.dev.o Obj.LIFE_CYCLE = 2 → b.length = 20 → crcOk b = true → s.dev.keyRecord s.dev.bankNow = none → s.dev.redirects = [] → s.dev.nextWord (kintBase s.dev.bankNow) 32 = m → m + 3 ≤ kintBase s.dev.bankNow + 32 → s.dev.bankNow ≤ 1 → (s.dev.fuseRaw m = 0 ∧ s.dev.fuseRaw (m + 1) = 0 ∧ s.dev.fuseRaw (m + 2) = 0) → 
    Completes (.kintWrite b []) s (fun e => e.result = 0 ∧ e.o Obj.KEY_STATE = 1 ∧ e.fuseRaw m = ofLe (b.take 8) ∧ e.fuseRaw (m + 1) = ofLe ((b.drop 8).take 8) ∧ ({ s.dev with fuse := e.fuse, result := e.result } : Dev).RaisesOnly e ∧ OnlyObjects (fun k => k == Obj.KEY_STATE || k == Obj.SPARE_USED || k == Obj.SPARE_FREE || k == Obj.SPARE_FAILED || k == Obj.J_FREE || isReaction k) s.dev e)) ∧
  (∀ (s : State) (b : Bytes) (bad : List Nat), s.dev.phase = .service → s.dev.o Obj.LIFE_CYCLE = 2 → b.length ≠ 20 → 
    Completes (.kintWrite b bad) s (fun e => e.result = 0x30000001 ∧ ({ s.dev with result := e.result } : Dev).ShowsOnly e ∧ OnlyObjects (fun _ => false) s.dev e)) ∧
  (∀ (s : State) (n : Fin 8) (v step role : Nat), s.dev.phase = .service → (1 ≤ v ∧ v ≤ 5) → lcTransition (s.dev.n Obj.LC_STEP) v s.dev.isD1 = some (step, role) → role ≤ s.dev.roleOf (n + 1) → s.dev.lcConditions (s.dev.n Obj.LC_STEP) v = true → s.dev.powerStopped = true → s.dev.fuse.job = none → s.dev.fuse.step = none → [1, 2, 3].contains (s.dev.n Obj.IMG_STATE) = false → 
    Completes (.lcCtrl n v) s (fun e => e.result = 0 ∧ e.fuse = { s.dev.fuse with step := some step } ∧ ({ s.dev with fuse := e.fuse, result := e.result } : Dev).ShowsOnly e ∧ OnlyObjects (fun _ => false) s.dev e)) ∧
  (∀ (s : State) (n : Fin 8) (v step role : Nat), s.dev.phase = .service → (1 ≤ v ∧ v ≤ 5) → lcTransition (s.dev.n Obj.LC_STEP) v s.dev.isD1 = some (step, role) → s.dev.roleOf (n + 1) < role → 
    Completes (.lcCtrl n v) s (fun e => e.result = resRole ∧ ({ s.dev with result := e.result } : Dev).ShowsOnly e ∧ OnlyObjects (fun _ => false) s.dev e)) ∧
  (∀ (s : State) (r : FuseRead), s.dev.alive = true → s.dev.fuse.inject = none → r.value = some (s.dev.fuseRaw r.word) → 
    Completes (.shadowCompare [r]) s (fun e => e.o Obj.WEAK_WORDS = min 65535 (s.dev.o Obj.WEAK_WORDS + 1) ∧ e.o Obj.LAST_WEAK = r.word ∧ e.raised 0xE8 ∧ e.coll.log.getLast?.map LogRec.code = some 0xB0E8 ∧ s.dev.RaisesOnly e ∧ OnlyObjects (fun k => k == Obj.WEAK_WORDS || k == Obj.LAST_WEAK || isReaction k) s.dev e)) ∧
  (∀ (s : State) (r : FuseRead), s.dev.alive = true → s.dev.fuse.inject = none → r.value ≠ some (s.dev.fuseRaw r.word) → s.dev.secretOrSecurity r.word = true → 
    Completes (.shadowCompare [r]) s (fun e => e.raised 0xEC ∧ e.inForce 0xB8ED .sys ∧ e.o Obj.SAFE_STATE = 2 ∧ s.dev.RaisesOnly e ∧ OnlyObjects (fun k => isReaction k) s.dev e))

/-- Images and flash. The nonce and the verdict are free values of log entries 2 and 4. Each clause says what it takes from R449 to R451, R499, R501,
R502. Where the spec leaves a point of these clauses open, the model's choice is log entries 2 and 4. -/
def Obligations.ImageCommands : Prop :=
  (∀ (s : State) (n : Fin 9), s.dev.phase = .service → s.dev.o Obj.LIFE_CYCLE ≠ 5 → s.dev.fuse.step = none → s.dev.o Obj.IMG_STATE = 0 → 
    Completes (.imgBegin n) s (fun e => e.result = 0 ∧ e.o Obj.IMG_STATE = 1 ∧ e.o Obj.IMG_RESULT = 0 ∧ e.img (1 - s.dev.activeImg) = { nonce := Config.freeValue s.dev.free } ∧ e.update = { owner := n } ∧ ({ s.dev with slotsAB := e.slotsAB, update := e.update, free := e.free, result := e.result } : Dev).ShowsOnly e ∧
      OnlyObjects (fun k => k == Obj.IMG_STATE || k == Obj.IMG_RESULT || k == Obj.SLOT_A_STATE || k == Obj.SLOT_B_STATE || k == Obj.SLOT_A_SEC || k == Obj.SLOT_B_SEC) s.dev e)) ∧
  (∀ (s : State) (n : Fin 9), s.dev.phase = .service → s.dev.o Obj.LIFE_CYCLE = 5 → 
    Completes (.imgBegin n) s (fun e => e.result = 0x20000004 ∧ ({ s.dev with result := e.result } : Dev).ShowsOnly e ∧ OnlyObjects (fun _ => false) s.dev e)) ∧
  (∀ (s : State), s.dev.phase = .service → s.dev.o Obj.IMG_STATE = 1 → 
    Completes (.imgEraseEnd) s (fun e => e.o Obj.IMG_STATE = 2 ∧ s.dev.ShowsOnly e ∧ OnlyObjects (fun k => k == Obj.IMG_STATE) s.dev e)) ∧
  (∀ (s : State) (n : Fin 9) (b : Bytes), s.dev.phase = .service → s.dev.o Obj.LIFE_CYCLE ≠ 5 → s.dev.fuse.step = none → s.dev.o Obj.IMG_STATE = 2 → s.dev.update.owner = n.val → (b ≠ [] ∧ b.length ≤ 32768) → s.dev.n Obj.IMG_BLOCK_NO = s.dev.update.next → s.dev.update.ended = false → s.dev.update.next ≠ 0 → 
    Completes (.imgBlock n b true) s (fun e => e.result = 0 ∧ (e.img (1 - s.dev.activeImg)).body = (s.dev.img (1 - s.dev.activeImg)).body ++ b ∧ (e.img (1 - s.dev.activeImg)).head = (s.dev.img (1 - s.dev.activeImg)).head ∧
      e.update = { s.dev.update with next := s.dev.update.next + 1, ended := decide (b.length < 32768) } ∧ ({ s.dev with slotsAB := e.slotsAB, update := e.update, result := e.result } : Dev).ShowsOnly e ∧ OnlyObjects (fun k => k == Obj.SLOT_A_STATE || k == Obj.SLOT_B_STATE || k == Obj.SLOT_A_SEC || k == Obj.SLOT_B_SEC) s.dev e)) ∧
  (∀ (s : State) (n : Fin 9) (b : Bytes) (ok : Bool), s.dev.phase = .service → s.dev.o Obj.LIFE_CYCLE ≠ 5 → s.dev.fuse.step = none → s.dev.o Obj.IMG_STATE = 2 → s.dev.update.owner = n.val → (b ≠ [] ∧ b.length ≤ 32768) → s.dev.n Obj.IMG_BLOCK_NO ≠ s.dev.update.next → 
    Completes (.imgBlock n b ok) s (fun e => e.result = 0x40000003 ∧ ({ s.dev with result := e.result } : Dev).ShowsOnly e ∧ OnlyObjects (fun _ => false) s.dev e)) ∧
  (∀ (s : State) (n : Fin 9), s.dev.phase = .service → s.dev.o Obj.LIFE_CYCLE ≠ 5 → s.dev.fuse.step = none → s.dev.o Obj.IMG_STATE = 2 → s.dev.update.owner = n.val → 
    Completes (.imgFinish n) s (fun e => e.result = s.dev.imgVerdict (s.dev.verifyImg (s.dev.img (1 - s.dev.activeImg))) ∧ e.o Obj.IMG_RESULT = s.dev.imgVerdict (s.dev.verifyImg (s.dev.img (1 - s.dev.activeImg))) ∧
      (e.result = 0 → e.o Obj.IMG_STATE = 4 ∧ (e.img (1 - s.dev.activeImg)).commit = true ∧ (e.img (1 - s.dev.activeImg)).seq = (s.dev.img (1 - (1 - s.dev.activeImg))).seq + 1) ∧
      (e.result ≠ 0 → e.o Obj.IMG_STATE = 5 ∧ (e.img (1 - s.dev.activeImg)).rejected = true) ∧ e.update = {} ∧ ({ s.dev with slotsAB := e.slotsAB, update := e.update, result := e.result } : Dev).ShowsOnly e ∧
      OnlyObjects (fun k => k == Obj.IMG_STATE || k == Obj.IMG_RESULT || k == Obj.SLOT_A_STATE || k == Obj.SLOT_B_STATE || k == Obj.SLOT_A_SEC || k == Obj.SLOT_B_SEC) s.dev e)) ∧
  (∀ (s : State) (n : Fin 9), s.dev.phase = .service → s.dev.o Obj.LIFE_CYCLE ≠ 5 → s.dev.fuse.step = none → [1, 2, 3].contains (s.dev.n Obj.IMG_STATE) = true → s.dev.update.owner = n.val → 
    Completes (.imgAbort n) s (fun e => e.result = 0 ∧ e.o Obj.IMG_STATE = 0 ∧ e.update = {} ∧ ({ s.dev with update := e.update, result := e.result } : Dev).ShowsOnly e ∧ OnlyObjects (fun k => k == Obj.IMG_STATE) s.dev e)) ∧
  (∀ (s : State), s.dev.phase = .service → 
    Completes (.imageConfirm) s (fun e => e.img s.dev.activeImg = { s.dev.img s.dev.activeImg with confirmed := true } ∧ ({ s.dev with slotsAB := e.slotsAB } : Dev).ShowsOnly e ∧ OnlyObjects (fun k => k == Obj.SLOT_A_STATE || k == Obj.SLOT_B_STATE || k == Obj.SLOT_A_SEC || k == Obj.SLOT_B_SEC) s.dev e)) ∧
  (∀ (s : State) (a : Nat) (cipher : Bytes), s.dev.phase = .service → 
    Completes (.flashLineFill a cipher) s (fun e => e.line = some (a / 32 * 32, decryptLine (wordBytes [s.dev.fuseWord 139, s.dev.fuseWord 140]) (s.dev.nonceAt a) a cipher) ∧ ({ s.dev with line := e.line } : Dev).ShowsOnly e ∧ OnlyObjects (fun _ => false) s.dev e)) ∧
  (∀ (s : State) (t : List Nat), s.dev.phase = .service → s.dev.pauses.contains 13 = false → s.dev.flashJobs = 1 :: t → 
    Completes (.flashCommandEnd true) s (fun e => e.flashJobs = t ∧ e.o Obj.XP_COPIES = wrapU32 (s.dev.o Obj.XP_COPIES + 1) ∧ e.o Obj.XP_STATE = 1 ∧ ({ s.dev with flashJobs := e.flashJobs, pauses := e.pauses } : Dev).ShowsOnly e ∧ OnlyObjects (fun k => k == Obj.XP_COPIES || k == Obj.XP_STATE) s.dev e)) ∧
  (∀ (s : State) (t : List Nat), s.dev.phase = .service → s.dev.pauses.contains 13 = false → s.dev.flashJobs = 1 :: t → 
    Completes (.flashCommandEnd false) s (fun e => e.flashJobs = t ∧ e.o Obj.XP_STATE = 3 ∧ ({ s.dev with flashJobs := e.flashJobs, pauses := e.pauses } : Dev).ShowsOnly e ∧ OnlyObjects (fun k => k == Obj.XP_STATE) s.dev e)) ∧
  (∀ (s : State), s.dev.phase = .service → s.dev.pauses.contains 13 = false → s.dev.flashJobs.head? ≠ some 1 → 
    Completes (.flashCommandEnd false) s (fun e => e.flashJobs = s.dev.flashJobs.drop 1 ∧ e.result = 0x70000002 ∧ ({ s.dev with flashJobs := e.flashJobs, pauses := e.pauses, result := e.result } : Dev).ShowsOnly e ∧ OnlyObjects (fun _ => false) s.dev e))

/-- The trace buffer and the frames on J9. Each clause says what it takes from R565 to R569, R571 and R573 to R575. Where the spec leaves a point of
these clauses open, the model's choice is log entry 114. -/
def Obligations.TraceAndFrames : Prop :=
  (∀ (s : State), (s.dev.phase = .starting ∨ s.dev.phase = .engines ∨ s.dev.phase = .service) → 
    Completes (.statusFrame) s (fun e => e.j9 = frameBytes (s.dev.n Obj.FRAMES_SENT) 0 (s.dev.o Obj.SERVICE_LEVEL == 0) true
      [{ wall := s.dev.wall, source := 1, poison := false, kind := 5, tag := s.dev.n Obj.ACTIVE, value := ((s.dev.n Obj.SERVICE_LEVEL + s.dev.n Obj.SAFE_STATE * 2 ^ 8 + s.dev.n Obj.LIFE_CYCLE * 2 ^ 16 + s.dev.n Obj.PIN * 2 ^ 24 + s.dev.n Obj.FUSE_DEFAULTS * 2 ^ 25 + s.dev.n Obj.SAFE_IN * 2 ^ 26 + s.dev.n Obj.DRIVE_EN * 2 ^ 27 + s.dev.n Obj.BAND * 2 ^ 28 : Nat) : Int) }] ∧
      e.j9.length = 26 ∧ e.o Obj.FRAMES_SENT = wrapU32 (s.dev.o Obj.FRAMES_SENT + 1) ∧ e.trace = s.dev.trace ∧ ({ s.dev with j9 := e.j9 } : Dev).ShowsOnly e ∧ OnlyObjects (fun k => k == Obj.FRAMES_SENT) s.dev e)) ∧
  (∀ (s : State), s.dev.alive = true → (s.dev.o Obj.TRACE_STATE = 4 ∨ (s.dev.o Obj.TRACE_STATE = 1 ∧ s.dev.o Obj.MODE_C000 = 0)) → s.dev.trace ≠ [] → (s.dev.trace.length < 64 ∨ s.dev.n Obj.BAND ≤ 1) → s.dev.pauses.contains 12 = false → (s.dev.memOf 11).words = [] → 
    Completes (.traceFrameSend) s (fun e => e.j9 = frameBytes (s.dev.n Obj.FRAMES_SENT) s.dev.traceLost (s.dev.o Obj.SERVICE_LEVEL == 0) false (s.dev.trace.take 64) ∧
      e.trace = s.dev.trace.drop 64 ∧ e.traceLost = 0 ∧ e.o Obj.FRAMES_SENT = wrapU32 (s.dev.o Obj.FRAMES_SENT + 1) ∧
      e.o Obj.RECORDS_EXPORTED = wrapU32 (s.dev.o Obj.RECORDS_EXPORTED + (min 64 s.dev.trace.length : Nat)) ∧ ({ s.dev with j9 := e.j9 } : Dev).ShowsOnly e ∧ OnlyObjects (fun k => k == Obj.FRAMES_SENT || k == Obj.RECORDS_EXPORTED) s.dev e)) ∧
  (∀ (s : State), s.dev.alive = true → s.dev.o Obj.TRACE_STATE = 4 → 64 ≤ s.dev.trace.length → s.dev.o Obj.BAND = 2 → s.dev.o Obj.PAUSE_TRACE_TB2 = 100 → s.dev.pauses.contains 12 = false → (s.dev.memOf 11).words = [] → 
    Completes (.traceFrameSend) s (fun e => e.trace = s.dev.trace.drop 64 ∧ e.pauses = 12 :: s.dev.pauses ∧ ({ s.dev with j9 := e.j9, pauses := e.pauses } : Dev).ShowsOnly e ∧ OnlyObjects (fun k => k == Obj.FRAMES_SENT || k == Obj.RECORDS_EXPORTED) s.dev e)) ∧
  (∀ (s : State), s.dev.alive = true → ((s.dev.o Obj.TRACE_STATE = 1 ∧ s.dev.o Obj.MODE_C000 = 1) ∨ s.dev.o Obj.TRACE_STATE = 2 ∨ s.dev.trace = [] ∨ s.dev.pauses.contains 12 = true) → 
    Completes (.traceFrameSend) s (fun e => e.trace = s.dev.trace ∧ e.j9 = s.dev.j9 ∧ e.traceLost = s.dev.traceLost ∧ s.dev.ShowsOnly e ∧ OnlyObjects (fun _ => false) s.dev e)) ∧
  (∀ (s : State), s.dev.phase = .service → (s.dev.o Obj.TRACE_STATE = 0 ∨ s.dev.o Obj.TRACE_STATE = 3) → 
    Completes (.traceArm) s (fun e => e.result = 0 ∧ e.o Obj.TRACE_STATE = 1 ∧ e.o Obj.TRIGGER_NO = 255 ∧ e.o Obj.TRIGGER_WALL = 0 ∧ e.trace = [] ∧ e.tracePost = 0 ∧ e.traceLost = 0 ∧ ({ s.dev with result := e.result } : Dev).ShowsOnly e ∧
      OnlyObjects (fun k => k == Obj.TRACE_STATE || k == Obj.TRIGGER_NO || k == Obj.TRIGGER_WALL) s.dev e)) ∧
  (∀ (s : State), s.dev.phase = .service → (s.dev.o Obj.TRACE_STATE = 1 ∨ s.dev.o Obj.TRACE_STATE = 2 ∨ s.dev.o Obj.TRACE_STATE = 4) → 
    Completes (.traceArm) s (fun e => e.result = resState ∧ e.trace = s.dev.trace ∧ e.tracePost = s.dev.tracePost ∧ e.traceLost = s.dev.traceLost ∧ ({ s.dev with result := e.result } : Dev).ShowsOnly e ∧ OnlyObjects (fun _ => false) s.dev e)) ∧
  (∀ (s : State), s.dev.phase = .service → (s.dev.o Obj.TRACE_STATE = 1 ∨ s.dev.o Obj.TRACE_STATE = 2) → 
    Completes (.traceStop) s (fun e => e.result = 0 ∧ e.o Obj.TRACE_STATE = (if s.dev.o Obj.MODE_C000 = 1 then 4 else 0) ∧ e.trace = s.dev.trace ∧ ({ s.dev with result := e.result } : Dev).ShowsOnly e ∧ OnlyObjects (fun k => k == Obj.TRACE_STATE) s.dev e)) ∧
  (∀ (s : State), s.dev.phase = .service → (s.dev.o Obj.TRACE_STATE = 0 ∨ s.dev.o Obj.TRACE_STATE = 3 ∨ s.dev.o Obj.TRACE_STATE = 4) → 
    Completes (.traceStop) s (fun e => e.result = 0 ∧ e.trace = s.dev.trace ∧ ({ s.dev with result := e.result } : Dev).ShowsOnly e ∧ OnlyObjects (fun _ => false) s.dev e)) ∧
  (∀ (s : State), s.dev.phase = .service → (s.dev.o Obj.TRACE_STATE = 0 ∨ s.dev.o Obj.TRACE_STATE = 3) → 
    Completes (.traceClear) s (fun e => e.result = 0 ∧ e.o Obj.TRACE_STATE = 0 ∧ e.trace = [] ∧ e.traceLost = 0 ∧ ({ s.dev with result := e.result } : Dev).ShowsOnly e ∧ OnlyObjects (fun k => k == Obj.TRACE_STATE) s.dev e)) ∧
  (∀ (s : State), s.dev.phase = .service → (s.dev.o Obj.TRACE_STATE = 1 ∨ s.dev.o Obj.TRACE_STATE = 2) → 
    Completes (.traceClear) s (fun e => e.result = resState ∧ e.trace = s.dev.trace ∧ ({ s.dev with result := e.result } : Dev).ShowsOnly e ∧ OnlyObjects (fun _ => false) s.dev e)) ∧
  (∀ (s : State), s.dev.alive = true → s.dev.o Obj.TRACE_STATE = 2 → 
    Completes (.tracePostDone) s (fun e => e.o Obj.TRACE_STATE = (if s.dev.n Obj.POST_RECORDS ≤ s.dev.tracePost then 4 else 2) ∧ e.trace = s.dev.trace ∧ s.dev.ShowsOnly e ∧ OnlyObjects (fun k => k == Obj.TRACE_STATE) s.dev e)) ∧
  (∀ (s : State), s.dev.alive = true → s.dev.o Obj.TRACE_STATE = 4 → 
    Completes (.traceExportDone) s (fun e => e.o Obj.TRACE_STATE = (if s.dev.trace = [] then 3 else 4) ∧ e.trace = s.dev.trace ∧ s.dev.ShowsOnly e ∧ OnlyObjects (fun k => k == Obj.TRACE_STATE) s.dev e)) ∧
  (∀ (s : State) (j : Fin 16) (r : Nat), s.dev.alive = true → s.dev.o (at' Obj.CH_SOURCE j) = r → r ≠ 0 → s.dev.o Obj.TRACE_STATE = 1 → s.dev.trace.length < s.dev.traceCap → 
    Completes (.traceChannelSample j) s (fun e => e.trace = s.dev.trace ++ [{ wall := s.dev.wall, source := 2, poison := s.dev.poison.contains r, kind := 3, tag := j, value := (if s.dev.poison.contains r = true then 0 else signedMod 32 (s.dev.shown r)) }] ∧
      e.o Obj.RECORDS_WRITTEN = wrapU32 (s.dev.o Obj.RECORDS_WRITTEN + 1) ∧ s.dev.ShowsOnly e ∧ OnlyObjects (fun k => k == Obj.RECORDS_WRITTEN) s.dev e)) ∧
  (∀ (s : State) (j : Fin 16), s.dev.alive = true → (s.dev.o (at' Obj.CH_SOURCE j) = 0 ∨ s.dev.o Obj.TRACE_STATE = 4) → 
    Completes (.traceChannelSample j) s (fun e => e.trace = s.dev.trace ∧ s.dev.ShowsOnly e ∧ OnlyObjects (fun _ => false) s.dev e))

/-- The sorting office. Routes never alter a fault. Each clause says what it takes from R505, R507. Where the spec leaves a point of these clauses open,
the model's choice is log entries 17 and 114. -/
def Obligations.EventRoutes : Prop :=
  (∀ (s : State) (x : Nat) (t : List Nat), s.dev.alive = true → s.dev.evq = x :: t → routeOf s.dev (x % 256) = 0 → 
    Completes (.eventDelivery) s (fun e => e.evq = t ∧ e.trace = s.dev.trace ∧ e.coll = s.dev.coll ∧ ({ s.dev with evq := t } : Dev).ShowsOnly e ∧ OnlyObjects (fun _ => false) s.dev e)) ∧
  (∀ (s : State), s.dev.alive = true → s.dev.evq = [] → 
    Completes (.eventDelivery) s (fun e => e.evq = [] ∧ e.trace = s.dev.trace ∧ s.dev.ShowsOnly e ∧ OnlyObjects (fun _ => false) s.dev e)) ∧
  (∀ (s : State) (x : Nat) (t : List Nat), s.dev.alive = true → s.dev.evq = x :: t → routeOf s.dev (x % 256) = 1 → (s.dev.coll.log.any (fun r => r.kind == 1 && r.event == x % 256) = false) → 
    Completes (.eventDelivery) s (fun e => e.evq = t ∧ e.coll.log.getLast? = some { wall := s.dev.wall, code := 0, event := x % 256, kind := 1, rep := 0, cls := s.dev.classNow } ∧
      e.coll.active = s.dev.coll.active ∧ e.o Obj.LOG_TOTAL = wrapU32 (s.dev.o Obj.LOG_TOTAL + 1) ∧ e.trace = s.dev.trace ∧
      ({ s.dev with evq := t, coll := { s.dev.coll with log := e.coll.log } } : Dev).ShowsOnly e ∧ OnlyObjects (fun k => k == Obj.LOG_TOTAL) s.dev e)) ∧
  (∀ (s : State) (x : Nat) (t : List Nat) (r : LogRec) (l : List LogRec), s.dev.alive = true → s.dev.evq = x :: t → routeOf s.dev (x % 256) = 1 → s.dev.coll.log = l ++ [r] → r.kind = 1 → r.event = x % 256 → s.dev.wall < r.wall + 1000000 → 
    Completes (.eventDelivery) s (fun e => e.evq = t ∧ e.coll.log = l ++ [{ r with rep := min 65535 (r.rep + 1) }] ∧ e.trace = s.dev.trace ∧
      ({ s.dev with evq := t, coll := { s.dev.coll with log := e.coll.log } } : Dev).ShowsOnly e ∧ OnlyObjects (fun _ => false) s.dev e)) ∧
  (∀ (s : State) (x : Nat) (t : List Nat), s.dev.alive = true → s.dev.evq = x :: t → routeOf s.dev (x % 256) = 2 → 
    Completes (.eventDelivery) s (fun e => e.evq = t ∧ (Tab.get {} e.notes (routeArg s.dev (x % 256) % 64)).force = true ∧ e.trace = s.dev.trace ∧
      ({ s.dev with evq := t, notes := e.notes } : Dev).ShowsOnly e ∧ OnlyObjects (fun _ => false) s.dev e)) ∧
  (∀ (s : State) (x : Nat) (t : List Nat), s.dev.alive = true → s.dev.evq = x :: t → routeOf s.dev (x % 256) = 4 → s.dev.o Obj.TRACE_STATE = 1 → s.dev.o Obj.MODE_C000 = 1 → bitOf (s.dev.o Obj.TRIGGER_MASK) (routeArg s.dev (x % 256) / 2 ^ 20 % 8) = true → 
    Completes (.eventDelivery) s (fun e => e.evq = t ∧ e.o Obj.TRACE_STATE = 2 ∧ e.o Obj.TRIGGER_NO = (routeArg s.dev (x % 256) / 2 ^ 20 % 8 : Nat) ∧ e.o Obj.TRIGGER_WALL = s.dev.wall ∧
      e.o Obj.TRIGGERS = satU32 (s.dev.o Obj.TRIGGERS + 1) ∧ e.tracePost = 0 ∧
      e.trace.getLast? = some { wall := s.dev.wall, source := 1, poison := false, kind := 4, tag := routeArg s.dev (x % 256) / 2 ^ 20 % 8, value := (x % 256 : Nat) } ∧
      ({ s.dev with evq := t } : Dev).ShowsOnly e ∧ OnlyObjects (fun k => k == Obj.TRACE_STATE || k == Obj.TRIGGER_NO || k == Obj.TRIGGER_WALL || k == Obj.TRIGGERS || k == Obj.RECORDS_WRITTEN) s.dev e)) ∧
  (∀ (s : State) (x : Nat) (t : List Nat), s.dev.alive = true → s.dev.evq = x :: t → routeOf s.dev (x % 256) = 16 → s.dev.spQueue (routeArg s.dev (x % 256) / 2 ^ 16 % 4) (routeArg s.dev (x % 256) / 2 ^ 18 % 4) = [] → 
    Completes (.eventDelivery) s (fun e => e.evq = t ∧ e.sps = s.dev.sps ∧ ({ s.dev with evq := t } : Dev).ShowsOnly e ∧ OnlyObjects (fun _ => false) s.dev e)) ∧
  (∀ (s : State) (x : Nat) (t : List Nat), s.dev.alive = true → s.dev.evq = x :: t → routeOf s.dev (x % 256) = 32 → 
    Completes (.eventDelivery) s (fun e => e.evq = t ∧ e.nfPulse = true ∧ e.o Obj.PIN = 1 ∧ e.o Obj.PULSES_2310 = satU32 (s.dev.o Obj.PULSES_2310 + 1) ∧ e.trace = s.dev.trace ∧
      ({ s.dev with evq := t, nfPulse := true } : Dev).ShowsOnly e ∧ OnlyObjects (fun k => k == Obj.PULSES_2310) s.dev e))

/-- The collector's exits, SAFE_IN, the log copy, the postmarks and fault injection. Each clause says what it takes from R512, R515, R516, R519 to R523,
R529. Where the spec leaves a point of these clauses open, the model's choice is log entries 16, 112 and 113. -/
def Obligations.RecoveryAndLockout : Prop :=
  (∀ (s : State) (code : Nat) (acts : Domain), s.dev.alive = true → code / 512 % 8 = 1 → (s.dev.coll.active.any (fun f => f.code == code && f.acts == acts && f.cause) = false) → (s.dev.coll.active.any (fun f => f.code == code && f.acts == acts) = true) → neverEnds code = false → 
    Completes (.quietPeriodEnd code acts) s (fun e => e.coll.active = s.dev.coll.active.filter (fun f => !(f.code == code && f.acts == acts)) ∧ e.coll.exits = s.dev.coll.exits ∧
      e.coll.log.getLast?.map (fun r => (r.code, r.kind)) = some (code, 3) ∧ s.dev.RaisesOnly e ∧ OnlyObjects (fun k => k == Obj.LOG_TOTAL || isTraceCount k) s.dev e)) ∧
  (∀ (s : State) (code : Nat) (acts : Domain), s.dev.alive = true → (code / 512 % 8 = 2 ∨ code / 512 % 8 = 3) → neverEnds code = false → (s.dev.coll.active.any (fun f => f.code == code && f.acts == acts && (f.cause || f.injected)) = false) → (s.dev.coll.active.any (fun f => f.code == code && f.acts == acts) = true) → s.dev.coll.exits.length < 8 → 
    Completes (.quietPeriodEnd code acts) s (fun e => e.coll.active = s.dev.coll.active.filter (fun f => !(f.code == code && f.acts == acts)) ∧ e.coll.exits = s.dev.coll.exits ++ [s.dev.wall] ∧
      e.coll.log.getLast?.map (fun r => (r.code, r.kind)) = some (code, 3) ∧ e.o Obj.RECOVERIES = satU32 (s.dev.o Obj.RECOVERIES + 1) ∧ e.o Obj.RECENT = (s.dev.coll.exits.length + 1 : Nat) ∧
      e.raised 9 ∧ s.dev.RaisesOnly e ∧ OnlyObjects (fun k => k == Obj.LOG_TOTAL || k == Obj.RECOVERIES || k == Obj.RECENT || isTraceCount k) s.dev e)) ∧
  (∀ (s : State) (code : Nat) (acts : Domain), s.dev.alive = true → (code / 512 % 8 = 2 ∨ code / 512 % 8 = 3) → neverEnds code = false → code < 65536 → (s.dev.coll.active.any (fun f => f.code == code && f.acts == acts && (f.cause || f.injected)) = false) → (s.dev.coll.active.any (fun f => f.code == code && f.acts == acts) = true) → 8 ≤ s.dev.coll.exits.length → 
    Completes (.quietPeriodEnd code acts) s (fun e => e.inForce (code / 4096 * 4096 + 2048 + code % 512) acts ∧ (e.coll.active.any (fun f => f.code == code && f.acts == acts)) = false ∧
      e.coll.exits = s.dev.coll.exits ∧ e.o Obj.SAFE_STATE = 2 ∧ e.raised 8 ∧ e.coll.log.getLast?.map (fun r => (r.code, r.kind)) = some (code / 4096 * 4096 + 2048 + code % 512, 5) ∧ s.dev.RaisesOnly e ∧ OnlyObjects (fun k => isReaction k) s.dev e)) ∧
  (∀ (s : State) (code : Nat) (acts : Domain), s.dev.alive = true → (neverEnds code = true ∨ s.dev.coll.active.all (fun f => !(f.code == code && f.acts == acts) || f.cause) = true) → 
    Completes (.quietPeriodEnd code acts) s (fun e => e.coll = s.dev.coll ∧ s.dev.ShowsOnly e ∧ OnlyObjects (fun _ => false) s.dev e)) ∧
  (∀ (s : State), s.dev.alive = true → 
    Completes (.recentWindowExpiry) s (fun e => e.coll = { s.dev.coll with exits := s.dev.coll.exits.drop 1 } ∧ e.o Obj.RECENT = (min 8 (s.dev.coll.exits.length - 1) : Nat) ∧
      ({ s.dev with coll := e.coll } : Dev).ShowsOnly e ∧ OnlyObjects (fun k => k == Obj.RECENT) s.dev e)) ∧
  (∀ (s : State), s.dev.phase = .service → (s.dev.coll.active.any (fun f => f.code / 512 % 8 == 4 && (!f.cause || f.code == 0x6879) && f.code != 0xB8ED && f.code != 0xB8EE && f.code != 0xE8F2) = true) → 
    Completes (.lockoutClear) s (fun e => e.result = 0 ∧ e.writes = s.dev.writes ++ [{ key := Obj.LOCKOUT_CLEAR, val := 1, block := none }] ∧ ({ s.dev with result := e.result, writes := e.writes } : Dev).ShowsOnly e ∧ OnlyObjects (fun _ => false) s.dev e)) ∧
  (∀ (s : State), s.dev.phase = .service → (s.dev.coll.active.all (fun f => f.code / 512 % 8 != 4 || (f.cause && f.code != 0x6879)) = true) → 
    Completes (.lockoutClear) s (fun e => e.result = resState ∧ ({ s.dev with result := e.result } : Dev).ShowsOnly e ∧ OnlyObjects (fun _ => false) s.dev e)) ∧
  (∀ (s : State), s.dev.alive = true → s.dev.o Obj.SAFE_IN = 0 → 
    Completes (.safeInAssert) s (fun e => e.o Obj.SAFE_IN = 1 ∧ e.raised 5 ∧ e.inForce 0x0606 .sys ∧ 1 ≤ e.o Obj.SAFE_STATE ∧ s.dev.RaisesOnly e ∧ OnlyObjects (fun k => k == Obj.SAFE_IN || isReaction k) s.dev e)) ∧
  (∀ (s : State), (s.dev.phase = .inReset ∨ s.dev.phase = .starting) → s.dev.o Obj.SAFE_IN = 0 → 
    Completes (.safeInAssert) s (fun e => e.o Obj.SAFE_IN = 1 ∧ (e.coll.held.any (fun f => f.code == 0x0606 && f.acts == .sys)) = true ∧ e.coll.active = s.dev.coll.active ∧ s.dev.RaisesOnly e ∧ OnlyObjects (fun k => k == Obj.SAFE_IN) s.dev e)) ∧
  (∀ (s : State), (s.dev.coll.active.any (fun f => f.code == 0x0606) = true) → 
    Completes (.safeInRelease) s (fun e => e.o Obj.SAFE_IN = 0 ∧ e.coll.active = s.dev.coll.active.filter (fun f => !(f.code == 0x0606)) ∧ e.coll.exits = s.dev.coll.exits ∧
      e.coll.log.getLast?.map (fun r => (r.code, r.kind)) = some (0x0606, 4) ∧ s.dev.RaisesOnly e ∧ OnlyObjects (fun k => k == Obj.SAFE_IN || k == Obj.LOG_TOTAL || isTraceCount k) s.dev e)) ∧
  (∀ (s : State) (c : Fin 5), s.dev.phase = .service → 
    Completes (.postmarkAck c) s (fun e => e.result = 0 ∧ e.writes = s.dev.writes ++ [{ key := at' Obj.ACK c, val := 1, block := none }] ∧ ({ s.dev with result := e.result, writes := e.writes } : Dev).ShowsOnly e ∧ OnlyObjects (fun _ => false) s.dev e)) ∧
  (∀ (s : State), s.dev.phase = .service → 
    Completes (.faultLogCopy) s (fun e => e.coll = { s.dev.coll with logCopy := s.dev.coll.log } ∧ e.kept = { s.dev.kept with counts := e.kept.counts } ∧
      (e.kept.counts.all (fun x => s.dev.obj.any (fun y => y.1 == x.1 && y.2 == x.2))) = true ∧ ({ s.dev with coll := e.coll, kept := e.kept } : Dev).ShowsOnly e ∧ OnlyObjects (fun _ => false) s.dev e)) ∧
  (∀ (s : State), s.dev.phase = .service → s.dev.writes = [] → (s.dev.o Obj.LIFE_CYCLE = 2 ∨ s.dev.o Obj.LIFE_CYCLE = 3 ∨ s.dev.o Obj.LIFE_CYCLE = 4) → s.dev.o Obj.TARGET_2320 = 1 → (1 ≤ s.dev.o Obj.SELECT ∧ s.dev.o Obj.SELECT ≤ 11) → 
    Completes (.faultInject) s (fun e => e.result = 0 ∧ e.writes = [{ key := Obj.CTRL_2320, val := 1, block := none }] ∧ ({ s.dev with result := e.result, writes := e.writes } : Dev).ShowsOnly e ∧ OnlyObjects (fun _ => false) s.dev e)) ∧
  (∀ (s : State), s.dev.phase = .service → s.dev.writes = [] → (s.dev.o Obj.LIFE_CYCLE = 1 ∨ (s.dev.o Obj.TARGET_2320 = 3 ∧ s.dev.o Obj.MASTER = 1) ∨ (s.dev.o Obj.TARGET_2320 = 5 ∧ s.dev.domainState .lnk ≠ 0)) → 
    Completes (.faultInject) s (fun e => e.result = resState ∧ ({ s.dev with result := e.result } : Dev).ShowsOnly e ∧ OnlyObjects (fun _ => false) s.dev e)) ∧
  (∀ (s : State), s.dev.alive = true → 
    Completes (.injectionTimeout) s (fun e => e.o Obj.STATE_2320 = (if s.dev.o Obj.STATE_2320 = 1 then 3 else s.dev.o Obj.STATE_2320) ∧ s.dev.ShowsOnly e ∧ OnlyObjects (fun k => k == Obj.STATE_2320) s.dev e))

/-- The ledger period and nFAULT. Each clause says what it takes from R186 to R191, R197, R430, R523. Where the spec leaves a point of these clauses
open, the model's choice is log entries 52, 63 and 67. -/
def Obligations.LedgerPeriods : Prop :=
  (∀ (s : State) (i : LinkIn), s.dev.alive = true → linkQuiet s.dev i = true → s.dev.link.opening ≠ [] → 
    Completes (.ledgerPeriod i) s (fun e => e.o Obj.VDC = i.vdc ∧ e.o Obj.PERIODS = wrapU32 (s.dev.o Obj.PERIODS + 1) ∧
      (∀ n ∈ List.range 5, e.o (Obj.GRANT_DRAW + n) = 0 ∧ e.o (Obj.GRANT_FEED + n) = 0 ∧ e.o (Obj.MEASURED + n) = i.measured.getD n 0) ∧
      e.coll.active = [] ∧ ({ s.dev with nfLevel := e.nfLevel, nfSeen := e.nfSeen, shift := e.shift } : Dev).RaisesOnly e ∧ OnlyObjects (fun k => ledgerShows k || isReaction k) s.dev e)) ∧
  (∀ (s : State) (i : LinkIn), s.dev.alive = true → linkQuiet s.dev i = true → s.dev.link.opening = [] → s.dev.domainState .lnk < 3 → i.measured.length ≤ 5 → s.dev.n Obj.V_LOW * 10 < i.vdc → ((s.dev.request 2).1 = 0 ∧ (s.dev.request 3).1 = 0 ∧ (s.dev.request 4).1 = 0 ∧ (s.dev.request 5).1 = 0) → (0 ≤ s.dev.o Obj.DCA_FLOOR ∧ 0 ≤ s.dev.o Obj.DCB_FLOOR) → (s.dev.vRef.any (fun r => decide (r ≤ i.vdc)) = true) → (0 ≤ s.dev.o Obj.V_DIP ∧ 0 ≤ s.dev.o Obj.STORE_CAP ∧ 0 ≤ s.dev.o Obj.C_LINK) → ((List.range 5).all (fun n => decide (0 ≤ s.dev.o (Obj.GRANT_FEED + n))) = true) → (s.dev.request 1).1 ≤ s.dev.capacity.1 → 
    Completes (.ledgerPeriod i) s (fun e => e.o (Obj.GRANT_DRAW) = ((s.dev.request 1).1 : Nat) ∧ (∀ n ∈ List.range 4, e.o (Obj.GRANT_DRAW + n + 1) = 0) ∧ e.o Obj.IMP = (s.dev.capacity.1 : Nat) ∧
      e.o Obj.VDC = i.vdc ∧ e.o Obj.PERIODS = wrapU32 (s.dev.o Obj.PERIODS + 1) ∧ ({ s.dev with nfLevel := e.nfLevel, nfSeen := e.nfSeen, shift := e.shift } : Dev).RaisesOnly e ∧ OnlyObjects (fun k => ledgerShows k || isReaction k) s.dev e)) ∧
  (∀ (s : State) (i : LinkIn), s.dev.phase = .service → s.dev.writes = [] → 
    Completes (.ledgerPeriod i) s (fun e => e.o Obj.NFAULT_POLICY = 1 → e.nfLevel = e.classInForce (e.n Obj.NFAULT_CLASS))) ∧
  (∀ (s : State) (i : LinkIn), s.dev.alive = true → s.dev.couriers = [] → s.dev.writes = [{ key := Obj.LOCKOUT_CLEAR, val := 1, block := none }] → 
    Completes (.ledgerPeriod i) s (fun e => e.o Obj.RECENT = 0 ∧ e.coll.exits = [] ∧ e.writes = [])) ∧
  (∀ (s : State) (v : Bool), s.dev.phase = .service → s.dev.writes = [] → s.dev.o Obj.NFAULT_POLICY = 0 → s.dev.safeState ≠ 2 → s.dev.o Obj.FUSE_DEFAULTS = 0 → 
    Completes (.nfaultLevelWrite v) s (fun e => e.result = 0 ∧ e.writes = [{ key := Obj.NFAULT_LEVEL, val := b2i v, block := none }] ∧ ({ s.dev with result := e.result, writes := e.writes } : Dev).ShowsOnly e ∧ OnlyObjects (fun _ => false) s.dev e)) ∧
  (∀ (s : State) (v : Bool), s.dev.phase = .service → s.dev.writes = [] → (s.dev.o Obj.NFAULT_POLICY = 1 ∨ s.dev.safeState = 2) → 
    Completes (.nfaultLevelWrite v) s (fun e => e.result = resState ∧ ({ s.dev with result := e.result } : Dev).ShowsOnly e ∧ OnlyObjects (fun _ => false) s.dev e)) ∧
  (∀ (s : State), s.dev.alive = true → 
    Completes (.nfaultPulseEnd) s (fun e => e.nfPulse = false ∧ e.o Obj.PIN = e.o Obj.NFAULT_LEVEL ∧ e.trace = s.dev.trace ∧ ({ s.dev with nfPulse := e.nfPulse } : Dev).ShowsOnly e ∧ OnlyObjects (fun _ => false) s.dev e))

/-- Temperature. Each clause says what it takes from R535 to R539, R541, R542, R544. Where the spec leaves a point of these clauses open, the model's
choice is log entries 40, 120 and 121. -/
def Obligations.Temperatures : Prop :=
  (∀ (s : State) (t u : Int), s.dev.alive = true → ((List.range 16).all (fun n => s.dev.o (Obj.SENSOR_STATE + n) == 0) = true) → ((List.range 40).all (fun n => !(bitOf (s.dev.o (Obj.STATUS_6020 + n)) 4)) = true) → noTs s.dev = true → (-190 ≤ t ∧ t < 910) → s.dev.o Obj.BAND = 1 → (-1000 ≤ u ∧ u < 1300) → 
    Completes (.dieTempSample (Vector.replicate 16 t) (Vector.replicate 40 u)) s (fun e => (∀ n ∈ List.range 16, e.o (Obj.TEMP + n) = t ∧ e.o (Obj.SENSOR_STATE + n) = 0) ∧ (∀ n ∈ List.range 40, e.o (Obj.TEMP + 16 + n) = u) ∧
      e.o (el Obj.DOMAIN_MAX 9) = t ∧ e.o Obj.BAND = 1 ∧ e.die.shut = false ∧ ({ s.dev with sensors := e.sensors, die := e.die, power := e.power } : Dev).RaisesOnly e ∧
      OnlyObjects (fun k => keyIdx k == keyIdx Obj.TEMP || keyIdx k == keyIdx Obj.SENSOR_STATE || keyIdx k == keyIdx Obj.DOMAIN_MAX || k == Obj.DEVICE_MAX || k == Obj.OP_HOURS || k == Obj.BAND_HOURS + 1 || k == Obj.THERMAL_CYCLES) s.dev e)) ∧
  (∀ (s : State) (t u : Int), s.dev.alive = true → ((List.range 16).all (fun n => s.dev.o (Obj.SENSOR_STATE + n) == 0) = true) → ((List.range 40).all (fun n => !(bitOf (s.dev.o (Obj.STATUS_6020 + n)) 4)) = true) → noTs s.dev = true → 1350 ≤ t → s.dev.die.shut = false → s.dev.o Obj.BAND = 1 → (-1000 ≤ u ∧ u < 1300) → 
    Completes (.dieTempSample (Vector.replicate 16 t) (Vector.replicate 40 u)) s (fun e => e.o Obj.BAND = 3 ∧ e.o Obj.THROTTLING = 1 ∧ e.o Obj.BAND_CHANGES = satU32 (s.dev.o Obj.BAND_CHANGES + 1) ∧ e.raised 0x0C ∧ e.inForce 0xD703 .sys ∧ 1 ≤ e.o Obj.SAFE_STATE ∧ e.die.shut = true ∧
      ({ s.dev with sensors := e.sensors, die := e.die, power := e.power } : Dev).RaisesOnly e ∧ OnlyObjects (fun k => keyIdx k == keyIdx Obj.TEMP || keyIdx k == keyIdx Obj.SENSOR_STATE || keyIdx k == keyIdx Obj.DOMAIN_MAX || k == Obj.DEVICE_MAX || k == Obj.OP_HOURS || k == Obj.BAND_HOURS + 1 || k == Obj.THERMAL_CYCLES || k == Obj.BAND || k == Obj.THROTTLING || k == Obj.BAND_CHANGES || isReaction k) s.dev e)) ∧
  (∀ (s : State) (t : Int) (drv : Vector Int 40) (n : Fin 40) (dom : Domain), s.dev.alive = true → ((List.range 16).all (fun n => s.dev.o (Obj.SENSOR_STATE + n) == 0) = true) → noTs s.dev = true → s.dev.die.shut = false → bitOf (s.dev.o (Obj.STATUS_6020 + n)) 4 = false → (-190 ≤ t ∧ t < 910) → s.dev.o Obj.BAND = 1 → 1400 ≤ drv[n] → s.dev.servesDomain (17 + n) = some dom → (s.dev.sensorOf (17 + n)).hot = false → 
    Completes (.dieTempSample (Vector.replicate 16 t) drv) s (fun e => e.o (Obj.TEMP + 16 + n) = drv[n] ∧ e.inForce 0xD507 dom ∧ 3 ≤ e.o (el Obj.DOMAIN_STATE dom.num) ∧
      ({ s.dev with sensors := e.sensors, die := e.die, power := e.power } : Dev).RaisesOnly e ∧ OnlyObjects (fun k => keyIdx k == keyIdx Obj.TEMP || keyIdx k == keyIdx Obj.SENSOR_STATE || keyIdx k == keyIdx Obj.DOMAIN_MAX || k == Obj.DEVICE_MAX || k == Obj.OP_HOURS || k == Obj.BAND_HOURS + 1 || k == Obj.THERMAL_CYCLES || isReaction k) s.dev e)) ∧
  (∀ (s : State) (t u v : Int), s.dev.alive = true → s.dev.hnLost = [] → ((List.range 8).all (fun i => s.dev.o (at' Obj.NTC_DOMAIN i) == 0) = true) → ((List.range 4).all (fun n => s.dev.o (Obj.SENSOR_STATE + 62 + n) == 0) = true) → (-1000 ≤ t ∧ t < 1300) → (-500 ≤ u ∧ u < 1000) → s.dev.link.changed = none → 
    Completes (.slowTempSample (Vector.replicate 6 t) (Vector.replicate 4 u) (Vector.replicate 8 v)) s (fun e => (∀ n ∈ List.range 6, e.o (Obj.TEMP + 56 + n) = t) ∧ (∀ n ∈ List.range 4, e.o (Obj.TEMP + 62 + n) = u) ∧
      (∀ n ∈ List.range 8, e.o (Obj.SENSOR_STATE + 66 + n) = 2 ∧ e.o (Obj.TEMP + 66 + n) = -32768) ∧
      ({ s.dev with sensors := e.sensors } : Dev).RaisesOnly e ∧ OnlyObjects (fun k => keyIdx k == keyIdx Obj.TEMP || keyIdx k == keyIdx Obj.SENSOR_STATE || keyIdx k == keyIdx Obj.DOMAIN_MAX || k == Obj.DEVICE_MAX || k == Obj.CHOP_STATE || keyIdx k == keyIdx Obj.STATUS_6020) s.dev e)) ∧
  (∀ (s : State) (t u : Int) (ntc : Vector Int 8) (i : Fin 8) (dom : Domain), s.dev.alive = true → s.dev.hnLost = [] → ((List.range 8).all (fun j => s.dev.o (at' Obj.NTC_DOMAIN j) == if j = i.val then dom.num else 0) = true) → ((List.range 4).all (fun n => s.dev.o (Obj.SENSOR_STATE + 62 + n) == 0) = true) → s.dev.o (Obj.SENSOR_STATE + 66 + i) = 0 → (dom = .tra ∨ dom = .grd ∨ dom = .act) → (-1000 ≤ t ∧ t < 1300) → (-500 ≤ u ∧ u < 1000) → (s.dev.o (at' Obj.NTC_HOT i) ≤ ntc[i] ∧ ntc[i] ≤ 2000 ∧ -500 ≤ ntc[i]) → ntc[i] < s.dev.o (at' Obj.NTC_TRIP i) → (s.dev.sensorOf (67 + i)).hot = false → (s.dev.sensorOf (67 + i)).trip = false → s.dev.link.changed = none → 
    Completes (.slowTempSample (Vector.replicate 6 t) (Vector.replicate 4 u) ntc) s (fun e => e.o (Obj.TEMP + 66 + i) = ntc[i] ∧ e.inForce 0xD301 dom ∧ e.derated dom = true ∧
      ({ s.dev with sensors := e.sensors } : Dev).RaisesOnly e ∧ OnlyObjects (fun k => keyIdx k == keyIdx Obj.TEMP || keyIdx k == keyIdx Obj.SENSOR_STATE || keyIdx k == keyIdx Obj.DOMAIN_MAX || k == Obj.DEVICE_MAX || k == Obj.CHOP_STATE || keyIdx k == keyIdx Obj.STATUS_6020 || isReaction k) s.dev e)) ∧
  (∀ (s : State) (op : Fin 19), s.dev.alive = true → 
    Completes (.throttlePauseEnd op) s (fun e => e.pauses = s.dev.pauses.filter (fun x => x != op.val) ∧ e.trace = s.dev.trace ∧ ({ s.dev with pauses := e.pauses } : Dev).ShowsOnly e ∧ OnlyObjects (fun _ => false) s.dev e))

/-- VSUP and KEY_ON. Each clause says what it takes from R550 to R556, R560, R562. Where the spec leaves a point of these clauses open, the model's
choice is log entries 42, 130 and 131. -/
def Obligations.SupplyAndKey : Prop :=
  (∀ (s : State) (v : Nat), s.dev.phase = .off → 
    Completes (.vsupPowerOn v) s (fun e => e.phase = (if s.dev.b Obj.KEY_ON = true then .starting else .asleep) ∧ e.nfLevel = (s.dev.nfLevel && s.dev.b Obj.KEY_ON) ∧ e.o Obj.VSUP = v ∧ e.trace = s.dev.trace ∧ ({ s.dev with phase := e.phase, nfLevel := e.nfLevel } : Dev).ShowsOnly e ∧ OnlyObjects (fun k => k == Obj.VSUP) s.dev e)) ∧
  (∀ (s : State) (v : Nat), s.dev.phase = .inReset → s.dev.power.held = true → s.dev.o Obj.KEY_ON = 0 → s.dev.power.awake = true → 
    Completes (.vsupPowerOn v) s (fun e => e.phase = .starting ∧ e.power = { s.dev.power with held := false, after := 1 } ∧ e.o Obj.VSUP = v ∧ ({ s.dev with phase := e.phase, power := e.power } : Dev).ShowsOnly e ∧ OnlyObjects (fun k => k == Obj.VSUP) s.dev e)) ∧
  (∀ (s : State) (v : Nat), s.dev.phase ≠ .off → s.dev.phase ≠ .inReset → countsOk s.dev = true → 
    Completes (.vsupBrownOut v) s (fun e => ResetDone s.dev 2 .inReset e ∧ ResetObjects e ∧ e.power.held = true ∧ e.coll.held = s.dev.frozen ∧ e.o Obj.VSUP = v ∧ e.o Obj.RESETS = min 4294967295 (s.dev.n Obj.RESETS + 1 : Nat))) ∧
  (∀ (s : State) (v : Nat), s.dev.phase ≠ .off → countsOk s.dev = true → 
    Completes (.vsupLoss v) s (fun e => ResetDone s.dev 1 .off e ∧ ResetObjects e ∧ e.coll.held = [] ∧ e.openRequest = false ∧ e.o Obj.BRIDGE_STATE = 0 ∧ e.o (tk .B Obj.BRIDGE_STATE) = 0 ∧ e.nfLevel = true ∧ e.o Obj.VSUP = v)) ∧
  (∀ (s : State) (v : Nat), s.dev.alive = true → v < 1800 → 
    Completes (.vsupLowRange v) s (fun e => e.o Obj.VSUP = v ∧ e.inForce 0x0311 .sys ∧ (∀ dom ∈ Domain.all, e.startBlocked dom = true) ∧ ({ s.dev with power := e.power } : Dev).RaisesOnly e ∧ OnlyObjects (fun k => k == Obj.VSUP || isReaction k) s.dev e)) ∧
  (∀ (s : State) (v : Nat), s.dev.alive = true → 3200 < v → 
    Completes (.vsupHighRange v) s (fun e => e.o Obj.VSUP = v ∧ e.coll.log.getLast?.map (fun r => (r.code, r.kind)) = some (0x0110, 2) ∧ e.coll.active = s.dev.coll.active ∧ s.dev.RaisesOnly e ∧ OnlyObjects (fun k => k == Obj.VSUP || isReaction k) s.dev e)) ∧
  (∀ (s : State) (v : Nat), s.dev.alive = true → 
    Completes (.vsupOvervoltage v) s (fun e => e.o Obj.VSUP = v ∧ e.inForce 0x0712 .sys ∧ 1 ≤ e.o Obj.SAFE_STATE ∧ ({ s.dev with power := e.power } : Dev).RaisesOnly e ∧ OnlyObjects (fun k => k == Obj.VSUP || isReaction k) s.dev e)) ∧
  (∀ (s : State) (v : Nat), (1800 ≤ v ∧ v < 3400) → 
    Completes (.vsupRangeReturn v) s (fun e => e.o Obj.VSUP = v ∧ e.power = { s.dev.power with low := false, tooHigh := false } ∧ e.coll.active.any (fun f => (f.code == 0x0311 || f.code == 0x0712) && f.cause) = false ∧
      e.coll = { s.dev.coll with active := e.coll.active } ∧ e.coll.active.map (fun f => (f.code, f.acts)) = s.dev.coll.active.map (fun f => (f.code, f.acts)) ∧ ({ s.dev with power := e.power } : Dev).RaisesOnly e ∧ OnlyObjects (fun k => k == Obj.VSUP) s.dev e)) ∧
  (∀ (s : State), s.dev.phase = .asleep → countsOk s.dev = true → 
    Completes (.keyOnRise) s (fun e => ResetDone s.dev 6 .starting e ∧ ResetObjects e ∧ e.o Obj.KEY_ON = 1 ∧ e.o Obj.RESETS = min 4294967295 (s.dev.n Obj.RESETS + 1 : Nat))) ∧
  (∀ (s : State), s.dev.phase ≠ .asleep → (1 ≤ s.dev.o Obj.SHUTDOWN_STATE ∧ s.dev.o Obj.SHUTDOWN_STATE ≤ 3) → 
    Completes (.keyOnRise) s (fun e => e.o Obj.KEY_ON = 1 ∧ e.o Obj.SHUTDOWN_STATE = 0 ∧ e.trace = s.dev.trace ∧ s.dev.ShowsOnly e ∧ OnlyObjects (fun k => k == Obj.KEY_ON || k == Obj.SHUTDOWN_STATE) s.dev e)) ∧
  (∀ (s : State), s.dev.phase = .service → s.dev.o Obj.SHUTDOWN_STATE = 0 → 
    Completes (.keyOnFall) s (fun e => e.o Obj.KEY_ON = 0 ∧ e.o Obj.SHUTDOWN_STATE = 1 ∧ e.power = { s.dev.power with keyAgain := false } ∧ ({ s.dev with power := e.power } : Dev).ShowsOnly e ∧ OnlyObjects (fun k => k == Obj.KEY_ON || k == Obj.SHUTDOWN_STATE) s.dev e)) ∧
  (∀ (s : State), s.dev.phase = .starting → s.dev.power.after = 0 → 
    Completes (.keyOnFall) s (fun e => e.o Obj.KEY_ON = 0 ∧ e.power = { s.dev.power with keyAgain := false, after := 2 } ∧ ({ s.dev with power := e.power } : Dev).ShowsOnly e ∧ OnlyObjects (fun k => k == Obj.KEY_ON) s.dev e)) ∧
  (∀ (s : State), s.dev.phase = .inReset → s.dev.power.held = false → 
    Completes (.resetRelease) s (fun e => e.phase = .starting ∧ e.trace = s.dev.trace ∧ ({ s.dev with phase := e.phase } : Dev).ShowsOnly e ∧ OnlyObjects (fun _ => false) s.dev e))

/-- The start and what it restores. Each clause says what it takes from R554, R556, R557, R515, R584. Where the spec leaves a point of these clauses
open, the model's choice is log entries 12, 13, 43 and 133. -/
def Obligations.StartAndService : Prop :=
  (∀ (s : State) (x : StartIn), s.dev.phase = .starting → s.dev.coll.active = [] → s.dev.coll.held = [] → s.dev.o Obj.SAFE_IN = 0 → (s.dev.power.cause = 3 ∨ s.dev.power.cause = 6) → s.dev.power.gap = none → s.dev.power.low = false → s.dev.power.tooHigh = false → s.dev.fuse = {} → s.dev.slotsAB = State.reset.dev.slotsAB → x.bad = [] → s.dev.kept.recipe = [] → x.reads = [] → x.failing = [] → x.imuOk = true → x.ppm = 100 → 
    Completes (.startSequence x) s (fun e => e.phase = .engines ∧ e.dead = [] ∧ e.o Obj.BAND = bandFresh (x.die.foldl max (x.die.headD 250)) ∧ e.o Obj.ACTIVE_SLOT = 1 ∧ e.o Obj.FUSE_DEFAULTS = 0 ∧ e.coll.active = [] ∧
      e.coll.log.getLast?.map (fun r => (r.code, r.kind)) = some (s.dev.power.cause, 6) ∧ e.mems = [] ∧ e.poison = [] ∧
      ({ s.dev with phase := e.phase, dead := e.dead, fuse := e.fuse, mems := e.mems, mRecords := e.mRecords, poison := e.poison, blk := e.blk } : Dev).RaisesOnly e ∧
      OnlyObjects (fun k => k == Obj.BAND || k == Obj.THROTTLING || k == Obj.LIFE_CYCLE || k == Obj.FUSE_DEFAULTS || k == Obj.ACTIVE_SLOT || k == Obj.SEC_VERSION || k == Obj.XP_STATE || k == Obj.XP_SIZE || k == Obj.LOG_TOTAL || 0xB0 ≤ keyIdx k / 256 && keyIdx k / 256 ≤ 0xB2 || isTraceCount k) s.dev e)) ∧
  (∀ (s : State) (v : Int), s.dev.phase = .engines → s.dev.dead.contains 2 = false → s.dev.power.after = 0 → s.dev.kept.recipe = [(Obj.KEYOFF_DELAY, v)] → s.dev.kept.blocks = [] → s.dev.fuse.ceilings = [] → 
    Completes (.serviceReady) s (fun e => e.phase = .service ∧ e.o Obj.KEYOFF_DELAY = v ∧ 1 ≤ e.o Obj.SERVICE_LEVEL ∧ ({ s.dev with phase := e.phase, power := e.power } : Dev).ShowsOnly e ∧
      OnlyObjects (fun k => k == Obj.KEYOFF_DELAY || keyIdx k == 0x6000 || keyIdx k == 0x6001 || k == Obj.ASSIGN_STATE || k == Obj.CURVE_STATUS || k == tk .B Obj.CURVE_STATUS || keyIdx k == keyIdx Obj.TABLE_STATUS || keyIdx k == keyIdx (tk .B Obj.TABLE_STATUS) || k == Obj.BOUNDARY_STATUS || k == Obj.RX_STATUS) s.dev e)) ∧
  (∀ (s : State), s.dev.phase = .service → s.dev.power.ready = false → s.dev.power.low = false → s.dev.serviceLevel = 2 → 
    Completes (.sysPowerReady) s (fun e => e.raised 0x0E ∧ e.o Obj.START_TIME = (s.dev.wall / 1000 % 4294967296 : Nat) ∧ e.power = { s.dev.power with ready := true } ∧ ({ s.dev with power := e.power } : Dev).ShowsOnly e ∧ OnlyObjects (fun k => k == Obj.START_TIME || isTraceCount k) s.dev e)) ∧
  (∀ (s : State) (j : Nat), s.dev.phase = .service → s.dev.writes = [] → storedKey j = true → s.dev.sessionMap j = false → ((findDef j).any (fun r => r.ty != .domain) = true) → 
    Completes (.recipeStore j) s (fun e => Tab.get (dflt j) e.kept.recipe j = s.dev.o j ∧ e.kept = { s.dev.kept with recipe := e.kept.recipe } ∧ e.trace = s.dev.trace ∧ ({ s.dev with kept := e.kept } : Dev).ShowsOnly e ∧ OnlyObjects (fun _ => false) s.dev e)) ∧
  (∀ (s : State) (j : Nat), s.dev.phase = .service → storedKey j = false → 
    Completes (.recipeStore j) s (fun e => e.kept = s.dev.kept ∧ s.dev.ShowsOnly e ∧ OnlyObjects (fun _ => false) s.dev e)) ∧
  (∀ (s : State) (n : Fin 6), s.dev.alive = true → bitOf (s.dev.o Obj.SUPPLY_ENABLE) n = true → s.dev.limited.contains n.val = false → 
    Completes (.supplyOverload n) s (fun e => e.limited.contains n.val = true ∧ bitOf (e.o Obj.SUPPLY_STATE) n = true ∧ e.o Obj.SUPPLY_TRIPS = satU32 (s.dev.o Obj.SUPPLY_TRIPS + 1) ∧ ({ s.dev with limited := e.limited } : Dev).ShowsOnly e ∧ OnlyObjects (fun k => k == Obj.SUPPLY_TRIPS || k == Obj.SUPPLY_STATE) s.dev e)) ∧
  (∀ (s : State) (n : Fin 6), s.dev.alive = true → bitOf (s.dev.o Obj.SUPPLY_ENABLE) n = true → 
    Completes (.supplyRetry n) s (fun e => e.limited = s.dev.limited.filter (fun x => x != n.val) ∧ bitOf (e.o Obj.SUPPLY_STATE) n = false ∧ ({ s.dev with limited := e.limited } : Dev).ShowsOnly e ∧ OnlyObjects (fun k => k == Obj.SUPPLY_STATE) s.dev e))

/-- Shutdown and commanded resets. Each clause says what it takes from R428, R494, R553, R560 to R562. Where the spec leaves a point of these clauses
open, the model's choice is log entry 130. -/
def Obligations.ShutdownAndResets : Prop :=
  (∀ (s : State), s.dev.alive = true → s.dev.o Obj.SHUTDOWN_STATE = 1 → s.dev.o Obj.PARK_AT_OFF = 0 → s.dev.o Obj.CHARGE_HOLD = 0 → 
    Completes (.keyoffDelayEnd) s (fun e => e.o Obj.SHUTDOWN_STATE = 2 ∧ e.raised 0x0F ∧
      e.writes = s.dev.writes ++ ([Obj.MASTER, Obj.RUN_4240, tk .B Obj.RUN_4240, at' Obj.RUN_7100 0, at' Obj.RUN_7100 1, at' Obj.RUN_7100 2, at' Obj.RUN_7100 3, Obj.GRD_MODE].map (fun k => ({ key := k, val := 0 } : PWrite))) ∧
      ({ s.dev with writes := e.writes } : Dev).ShowsOnly e ∧ OnlyObjects (fun k => k == Obj.SHUTDOWN_STATE || isTraceCount k) s.dev e)) ∧
  (∀ (s : State), s.dev.alive = true → s.dev.o Obj.SHUTDOWN_STATE ≠ 1 → 
    Completes (.keyoffDelayEnd) s (fun e => e.writes = s.dev.writes ∧ e.trace = s.dev.trace ∧ s.dev.ShowsOnly e ∧ OnlyObjects (fun _ => false) s.dev e)) ∧
  (∀ (s : State), s.dev.alive = true → s.dev.o Obj.SHUTDOWN_STATE = 2 → s.dev.atRest = true → 
    Completes (.shutdownDisconnect) s (fun e => e.o Obj.SHUTDOWN_STATE = 3 ∧ e.writes = s.dev.writes ++ [{ key := Obj.LINK_CTRL, val := 0, block := none }] ∧ ({ s.dev with writes := e.writes } : Dev).ShowsOnly e ∧ OnlyObjects (fun k => k == Obj.SHUTDOWN_STATE) s.dev e)) ∧
  (∀ (s : State), s.dev.alive = true → s.dev.o Obj.SHUTDOWN_STATE = 3 → s.dev.o Obj.JOB_STATE = 0 → 
    Completes (.shutdownSave) s (fun e => e.o Obj.SHUTDOWN_STATE = 4 ∧ e.coll = { s.dev.coll with logCopy := s.dev.coll.log } ∧ e.power = { s.dev.power with saved := true } ∧ e.grid.logImport = s.dev.n Obj.E_IMPORT ∧ e.grid.logExport = s.dev.n Obj.E_EXPORT ∧
      ({ s.dev with coll := e.coll, kept := { s.dev.kept with counts := e.kept.counts }, power := e.power, grid := e.grid } : Dev).ShowsOnly e ∧ OnlyObjects (fun k => k == Obj.SHUTDOWN_STATE) s.dev e)) ∧
  (∀ (s : State), s.dev.alive = true → s.dev.o Obj.SHUTDOWN_STATE = 4 → s.dev.o Obj.BRIDGE_STATE = 0 → s.dev.o (tk .B Obj.BRIDGE_STATE) = 0 → ((List.range 8).all (fun n => s.dev.o (Obj.SESSION_STATE + n) == 0) = true) → s.dev.power.keyAgain = false → 
    Completes (.sleepEnter) s (fun e => e.phase = .asleep ∧ (∀ n ∈ List.range 4, e.o (at' Obj.STATE_5810 n) = 0 ∧ (e.ctrOf n).on = false) ∧ ({ s.dev with phase := e.phase, ctrs := e.ctrs } : Dev).ShowsOnly e ∧ OnlyObjects (fun k => (List.range 4).any (fun n => k == at' Obj.STATE_5810 n)) s.dev e)) ∧
  (∀ (s : State), s.dev.alive = true → s.dev.o Obj.SHUTDOWN_STATE = 4 → s.dev.o Obj.BRIDGE_STATE = 0 → s.dev.o (tk .B Obj.BRIDGE_STATE) = 0 → s.dev.power.keyAgain = true → s.dev.kept.counts = [] → 
    Completes (.sleepEnter) s (fun e => e.phase = .starting ∧ e.o Obj.RESET_CAUSE = 6 ∧ e.wall = 0 ∧ e.sessions = [] ∧ e.coll.active = [] ∧ ResetObjects e)) ∧
  (∀ (s : State), s.dev.alive = true → (s.dev.o Obj.SHUTDOWN_STATE ≠ 4 ∨ s.dev.o Obj.BRIDGE_STATE = 3 ∨ s.dev.o Obj.BRIDGE_STATE = 4) → 
    Completes (.sleepEnter) s (fun e => e.phase = s.dev.phase ∧ e.trace = s.dev.trace ∧ s.dev.ShowsOnly e ∧ OnlyObjects (fun _ => false) s.dev e)) ∧
  (∀ (s : State), s.dev.alive = true → 2 ≤ s.dev.o Obj.SHUTDOWN_STATE → 
    Completes (.shutdownForced) s (fun e => e.o Obj.SHUTDOWN_STATE = max (s.dev.o Obj.SHUTDOWN_STATE) 3 ∧ e.o Obj.SHUTDOWNS_FORCED = satU32 (s.dev.o Obj.SHUTDOWNS_FORCED + 1) ∧
      e.coll.log.getLast?.map (fun r => (r.code, r.kind)) = some (0x0114, 2) ∧ e.o Obj.MASTER = 0 ∧ e.o Obj.STATE_5000 = 0 ∧ s.dev.RaisesOnly e ∧ OnlyObjects (fun k => k == Obj.SHUTDOWN_STATE || k == Obj.SHUTDOWNS_FORCED || isReaction k) s.dev e)) ∧
  (∀ (s : State), s.dev.phase = .service → s.dev.powerStopped = true → 
    Completes (.resetCmd) s (fun e => e.result = 0 ∧ e.resetPending = true ∧ ([Domain.tra, .trb, .grd, .dca, .dcb, .lnk].all (fun dom => e.startBlocked dom)) = true ∧ ({ s.dev with result := e.result, resetPending := e.resetPending } : Dev).ShowsOnly e ∧ OnlyObjects (fun _ => false) s.dev e)) ∧
  (∀ (s : State), s.dev.phase = .service → s.dev.powerStopped = false → 
    Completes (.resetCmd) s (fun e => e.result = resState ∧ e.resetPending = s.dev.resetPending ∧ ({ s.dev with result := e.result } : Dev).ShowsOnly e ∧ OnlyObjects (fun _ => false) s.dev e)) ∧
  (∀ (s : State), s.dev.alive = true → s.dev.resetPending = true → countsOk s.dev = true → 
    Completes (.resetCmdExecute) s (fun e => ResetDone s.dev 3 .inReset e ∧ ResetObjects e ∧ e.coll.held = s.dev.frozen ∧ e.o Obj.RESETS = min 4294967295 (s.dev.n Obj.RESETS + 1 : Nat))) ∧
  (∀ (s : State), s.dev.resetPending = false → 
    Completes (.resetCmdExecute) s (fun e => e.phase = s.dev.phase ∧ s.dev.ShowsOnly e ∧ OnlyObjects (fun _ => false) s.dev e)) ∧
  (∀ (s : State) (step : Nat), s.dev.alive = true → s.dev.fuse.step = some step → (1 ≤ step ∧ step ≤ 8) → s.dev.fuseAddr (511 + step) = 511 + step → s.dev.fuseWord (511 + step) = 0 → countsOk s.dev = true → 
    Completes (.lcStepProgram []) s (fun e => e.phase = .inReset ∧ e.o Obj.RESET_CAUSE = 4 ∧ e.wall = 0 ∧ e.sessions = [] ∧ e.coll.active = [] ∧ ResetObjects e ∧
      Tab.get 0 e.fuse.array (s.dev.fuseAddr (511 + step)) = Nat.lor (record1 5 ((step - 1) * 2 ^ 16) 0) (Tab.get 0 s.dev.fuse.array (s.dev.fuseAddr (511 + step))) ∧ e.fuse.step = none)) ∧
  (∀ (s : State) (bad : List Nat), s.dev.alive = true → s.dev.fuse.step = none → 
    Completes (.lcStepProgram bad) s (fun e => e.phase = s.dev.phase ∧ s.dev.ShowsOnly e ∧ OnlyObjects (fun _ => false) s.dev e))

/-- R438, R439: the direct-read buffer has a pointer that carries over, and is apart from the unit buffers. -/
def Obligations.HostReadsApart : Prop :=
  (∀ (s : State) (n : Nat), s.dev.phase = .service → s.dev.portOff .hsp = false → s.dev.o Obj.HSP_MODE = 0 → s.dev.hsp.ready = true → s.dev.hsp.ptr ≤ (s.dev.hsp.buf.length + 3) / 4 → 
    Completes (.readData n) s (fun e => (∀ i ∈ List.range (4 * n), (e.hsp.out.drop 4).getD i 0 = s.dev.hsp.buf.getD (4 * s.dev.hsp.ptr + i) 0) ∧ e.hsp.out.length = 4 + 4 * n ∧
      e.hsp.ptr = min (s.dev.hsp.ptr + n) ((s.dev.hsp.buf.length + 3) / 4) ∧ e.hsp.buf = s.dev.hsp.buf ∧
      (e.hsp.end_ = true ↔ (s.dev.hsp.buf.length + 3) / 4 < s.dev.hsp.ptr + n) ∧ (e.hsp.ready = true ↔ s.dev.hsp.ptr + n ≤ (s.dev.hsp.buf.length + 3) / 4) ∧ ({ s.dev with hsp := e.hsp } : Dev).ShowsOnly e ∧ OnlyObjects (fun _ => false) s.dev e)) ∧
  (∀ (s : State) (n : Nat), s.dev.phase = .service → s.dev.portOff .hsp = false → s.dev.o Obj.HSP_MODE = 0 → s.dev.hsp.ready = false → 
    Completes (.readData n) s (fun e => e.hsp.out.drop 4 = List.replicate (4 * n) 0 ∧ e.hsp.end_ = true ∧ e.hsp.ready = false ∧ e.hsp.ptr = s.dev.hsp.ptr ∧ e.hsp.buf = s.dev.hsp.buf ∧ ({ s.dev with hsp := e.hsp } : Dev).ShowsOnly e ∧ OnlyObjects (fun _ => false) s.dev e)) ∧
  (∀ (s : State) (n : Nat), s.dev.phase = .service → 
    Completes (.readData n) s (fun e => e.hsp.req = s.dev.hsp.req ∧ e.hsp.free = s.dev.hsp.free ∧ e.hsp.resp = s.dev.hsp.resp)) ∧
  (∀ (s : State) (ref : Nat), s.dev.phase = .service → 
    Completes (.directRead ref) s (fun e => e.hsp.req = s.dev.hsp.req ∧ e.hsp.free = s.dev.hsp.free ∧ e.hsp.resp = s.dev.hsp.resp)) ∧
  (∀ (s : State) (b : Bytes), s.dev.phase = .service → 
    Completes (.writeUnit b) s (fun e => e.hsp.buf = s.dev.hsp.buf ∧ e.hsp.ptr = s.dev.hsp.ptr ∧ e.hsp.ready = s.dev.hsp.ready ∧ e.hsp.want = s.dev.hsp.want)) ∧
  (∀ (s : State) (n : Nat), s.dev.phase = .service → 
    Completes (.readUnit n) s (fun e => e.hsp.buf = s.dev.hsp.buf ∧ e.hsp.ptr = s.dev.hsp.ptr ∧ e.hsp.ready = s.dev.hsp.ready ∧ e.hsp.want = s.dev.hsp.want)) ∧
  (∀ (s : State) (c : Instr) (rest : List Instr), s.pending = c :: rest → Sys2Proof.Machine.step s = exec c { pending := rest, dev := s.dev })

/-- R10: no fuse is programmed, and the life-cycle state stays INTEGRATOR. -/
def Obligations.FieldRefusedOnD1 : Prop :=
  ∀ (s : State) (n : Fin 8), s.dev.phase = .service → s.dev.block Obj.ORDERING_CODE = codeD1 → 
    Completes (.lcCtrl n 3) s (fun e => e.result ≠ 0 ∧ e.fuse = s.dev.fuse ∧ e.o Obj.LIFE_CYCLE = s.dev.o Obj.LIFE_CYCLE ∧ e.o Obj.LC_STEP = s.dev.o Obj.LC_STEP ∧ ({ s.dev with result := e.result } : Dev).ShowsOnly e ∧ OnlyObjects (fun _ => false) s.dev e)

/-- SESSION 0 has the Observer role and never writes; the update objects on the restrictive defaults (R500) are the one exception. Each clause says what
it takes from R393, R417. -/
def Obligations.UnauthenticatedNeverWrites : Prop :=
  (∀ (s : State) (path : Path) (source seq index sub : Nat) (data mac : Bytes) (u : UnitIn), s.dev.phase = .service → s.dev.portOff path = false → s.dev.o Obj.FUSE_DEFAULTS = 0 → 
    Completes (.write path source 0 seq index sub data mac u) s (fun e => e.result ≠ 0 ∧ e.trace = s.dev.trace ∧ e.evq = s.dev.evq ∧ ({ s.dev with result := e.result, data := e.data, reply := e.reply } : Dev).ShowsOnly e ∧ OnlyObjects (fun _ => false) s.dev e)) ∧
  (∀ (s : State) (path : Path) (source seq index sub off : Nat) (last : Bool) (data mac : Bytes) (u : UnitIn), s.dev.phase = .service → s.dev.portOff path = false → s.dev.o Obj.FUSE_DEFAULTS = 0 → 
    Completes (.writeSeg path source 0 seq index sub off last data mac u) s (fun e => e.result ≠ 0 ∧ e.trace = s.dev.trace ∧ e.evq = s.dev.evq ∧ ({ s.dev with result := e.result, data := e.data, reply := e.reply } : Dev).ShowsOnly e ∧ OnlyObjects (fun _ => false) s.dev e))

/-- The safe-state holder acts on every domain. Each clause says what it takes from R510, R512, R513. Where the spec leaves a point of these clauses
open, the model's choice is log entry 112. -/
def Obligations.SafeStateStopsEveryDomain : Prop :=
  ∀ (s : State), s.dev.alive = true → s.dev.o Obj.SAFE_IN = 0 → (s.dev.coll.active.any (fun f => f.code == 0x0606 && f.acts == .sys) = false) → 
    Completes (.safeInAssert) s (fun e => e.o Obj.SAFE_STATE ≠ 0 ∧ e.o Obj.BRIDGE_STATE = (s.dev.ascState .A : Nat) ∧ e.o (tk .B Obj.BRIDGE_STATE) = (s.dev.ascState .B : Nat) ∧ e.o Obj.TORQUE_CMD = 0 ∧ e.o (tk .B Obj.TORQUE_CMD) = 0 ∧
      e.o Obj.STATE_5000 = 0 ∧ e.o Obj.S2 = 0 ∧ e.o Obj.STATE_5400 = 7 ∧ e.o (ck .dcb Obj.STATE_5400) = 7 ∧ (∀ g ∈ List.range 4, e.o (at' Obj.RUN_7100 g) = 0) ∧ e.o Obj.MASTER = 0 ∧
      (∀ n ∈ List.range 128, bitOf (e.o (el Obj.ROW_STATE (n + 1))) 0 = false) ∧ e.openRequest = true ∧ (∀ dom ∈ Domain.all, dom ≠ .sys → 3 ≤ e.o (el Obj.DOMAIN_STATE dom.num)) ∧ OnlyObjects (fun k => k == Obj.SAFE_IN || isReaction k) s.dev e ∧ s.dev.RaisesOnly e)
end

