-- ==== Sys2Proof/Laws/State.lean ====
section
/-! SUPPORT. The small laws of the state: sparse tables, one lemma per field for each update of the state that the meanings share, the value
of an object after an update, and what the computation of the status objects leaves. -/

namespace Sys2Proof.Machine

/-! ### Sparse tables -/

@[simp] theorem Tab.get_del_same {α : Type} (d : α) (t : Tab α) (k : Nat) : Tab.get d (Tab.del t k) k = d := by
  induction t with
  | nil => rfl
  | cons e t ih => obtain ⟨k', v⟩ := e; by_cases h : k' = k <;> simp [Tab.del, Tab.get, h, ih]

theorem Tab.get_del_other {α : Type} (d : α) (t : Tab α) {k j : Nat} (h : j ≠ k) : Tab.get d (Tab.del t k) j = Tab.get d t j := by
  induction t with
  | nil => rfl
  | cons e t ih =>
    obtain ⟨k', v⟩ := e
    by_cases h1 : k' = k
    · have h2 : ¬ k' = j := by omega
      simp only [Tab.del, Tab.get, if_pos h1, if_neg h2, ih]
    · simp only [Tab.del, Tab.get, if_neg h1, ih]

@[simp] theorem Tab.get_put_same {α : Type} (d : α) (t : Tab α) (k : Nat) (v : α) : Tab.get d (Tab.put t k v) k = v := by
  induction t with
  | nil => simp [Tab.put, Tab.get]
  | cons e t ih =>
    obtain ⟨k', v'⟩ := e
    by_cases h1 : k' = k
    · simp [Tab.put, Tab.get, h1]
    · by_cases h2 : k < k' <;> simp [Tab.put, Tab.get, h1, h2, ih]

theorem Tab.get_put_other {α : Type} (d : α) (t : Tab α) {k j : Nat} (v : α) (h : j ≠ k) : Tab.get d (Tab.put t k v) j = Tab.get d t j := by
  have hk : ¬ k = j := fun e => h e.symm
  induction t with
  | nil => simp [Tab.put, Tab.get, hk]
  | cons e t ih =>
    obtain ⟨k', v'⟩ := e
    by_cases h1 : k' = k
    · subst h1; simp [Tab.put, Tab.get, hk]
    · by_cases h2 : k < k'
      · simp [Tab.put, Tab.get, h1, h2, hk]
      · simp [Tab.put, Tab.get, h1, h2, ih]

/-- A table reads at key `k` what was set there. -/
@[simp] theorem Tab.get_set_same {α : Type} [DecidableEq α] (d : α) (t : Tab α) (k : Nat) (v : α) : Tab.get d (Tab.set d t k v) k = v := by
  by_cases h : v = d <;> simp [Tab.set, h]

/-- A table reads at every other key what it read before. -/
theorem Tab.get_set_other {α : Type} [DecidableEq α] (d d' : α) (t : Tab α) {k j : Nat} (v : α) (h : j ≠ k) :
    Tab.get d' (Tab.set d t k v) j = Tab.get d' t j := by
  by_cases hv : v = d
  · simp [Tab.set, hv, Tab.get_del_other d' t h]
  · simp [Tab.set, hv, Tab.get_put_other d' t v h]

@[simp] theorem Tab.get_upd_same {α : Type} [DecidableEq α] (d : α) (t : Tab α) (k : Nat) (f : α → α) :
    Tab.get d (Tab.upd d t k f) k = f (Tab.get d t k) := Tab.get_set_same ..

theorem Tab.get_upd_other {α : Type} [DecidableEq α] (d : α) (t : Tab α) {k j : Nat} (f : α → α) (h : j ≠ k) :
    Tab.get d (Tab.upd d t k f) j = Tab.get d t j := Tab.get_set_other _ _ _ _ h

/-! ### One lemma per field per update -/

@[simp] theorem Dev.setO_wall (d : Dev) (k : Nat) (v : Int) : (d.setO k v).wall = d.wall := rfl
@[simp] theorem Dev.setO_free (d : Dev) (k : Nat) (v : Int) : (d.setO k v).free = d.free := rfl
@[simp] theorem Dev.setO_blk (d : Dev) (k : Nat) (v : Int) : (d.setO k v).blk = d.blk := rfl
@[simp] theorem Dev.setO_poison (d : Dev) (k : Nat) (v : Int) : (d.setO k v).poison = d.poison := rfl
@[simp] theorem Dev.setO_writes (d : Dev) (k : Nat) (v : Int) : (d.setO k v).writes = d.writes := rfl
@[simp] theorem Dev.setO_result (d : Dev) (k : Nat) (v : Int) : (d.setO k v).result = d.result := rfl
@[simp] theorem Dev.setO_data (d : Dev) (k : Nat) (v : Int) : (d.setO k v).data = d.data := rfl
@[simp] theorem Dev.setO_evq (d : Dev) (k : Nat) (v : Int) : (d.setO k v).evq = d.evq := rfl
@[simp] theorem Dev.setO_coll (d : Dev) (k : Nat) (v : Int) : (d.setO k v).coll = d.coll := rfl
@[simp] theorem Dev.setO_phase (d : Dev) (k : Nat) (v : Int) : (d.setO k v).phase = d.phase := rfl
@[simp] theorem Dev.setO_resetPending (d : Dev) (k : Nat) (v : Int) : (d.setO k v).resetPending = d.resetPending := rfl
@[simp] theorem Dev.setO_tracks (d : Dev) (k : Nat) (v : Int) : (d.setO k v).tracks = d.tracks := rfl
@[simp] theorem Dev.setO_slots (d : Dev) (k : Nat) (v : Int) : (d.setO k v).slots = d.slots := rfl
@[simp] theorem Dev.setO_ssi (d : Dev) (k : Nat) (v : Int) : (d.setO k v).ssi = d.ssi := rfl
@[simp] theorem Dev.setO_inc (d : Dev) (k : Nat) (v : Int) : (d.setO k v).inc = d.inc := rfl
@[simp] theorem Dev.setO_hall (d : Dev) (k : Nat) (v : Int) : (d.setO k v).hall = d.hall := rfl
@[simp] theorem Dev.setO_pulse (d : Dev) (k : Nat) (v : Int) : (d.setO k v).pulse = d.pulse := rfl
@[simp] theorem Dev.setO_probes (d : Dev) (k : Nat) (v : Int) : (d.setO k v).probes = d.probes := rfl
@[simp] theorem Dev.setO_source (d : Dev) (k : Nat) (v : Int) : (d.setO k v).source = d.source := rfl
@[simp] theorem Dev.setO_imuFailed (d : Dev) (k : Nat) (v : Int) : (d.setO k v).imuFailed = d.imuFailed := rfl
@[simp] theorem Dev.setO_trac (d : Dev) (k : Nat) (v : Int) : (d.setO k v).trac = d.trac := rfl
@[simp] theorem Dev.setO_gates (d : Dev) (k : Nat) (v : Int) : (d.setO k v).gates = d.gates := rfl
@[simp] theorem Dev.setO_tier3 (d : Dev) (k : Nat) (v : Int) : (d.setO k v).tier3 = d.tier3 := rfl
@[simp] theorem Dev.setO_tier4 (d : Dev) (k : Nat) (v : Int) : (d.setO k v).tier4 = d.tier4 := rfl
@[simp] theorem Dev.setO_openRequest (d : Dev) (k : Nat) (v : Int) : (d.setO k v).openRequest = d.openRequest := rfl
@[simp] theorem Dev.setO_ocTrips (d : Dev) (k : Nat) (v : Int) : (d.setO k v).ocTrips = d.ocTrips := rfl
@[simp] theorem Dev.setO_hnLast (d : Dev) (k : Nat) (v : Int) : (d.setO k v).hnLast = d.hnLast := rfl
@[simp] theorem Dev.setO_loops (d : Dev) (k : Nat) (v : Int) : (d.setO k v).loops = d.loops := rfl
@[simp] theorem Dev.setO_leBlocked (d : Dev) (k : Nat) (v : Int) : (d.setO k v).leBlocked = d.leBlocked := rfl
@[simp] theorem Dev.setO_leMoving (d : Dev) (k : Nat) (v : Int) : (d.setO k v).leMoving = d.leMoving := rfl
@[simp] theorem Dev.setO_leLoaded (d : Dev) (k : Nat) (v : Int) : (d.setO k v).leLoaded = d.leLoaded := rfl
@[simp] theorem Dev.setO_le8Bad (d : Dev) (k : Nat) (v : Int) : (d.setO k v).le8Bad = d.le8Bad := rfl
@[simp] theorem Dev.setO_trace (d : Dev) (k : Nat) (v : Int) : (d.setO k v).trace = d.trace := rfl
@[simp] theorem Dev.setO_tracePost (d : Dev) (k : Nat) (v : Int) : (d.setO k v).tracePost = d.tracePost := rfl
@[simp] theorem Dev.setO_traceLost (d : Dev) (k : Nat) (v : Int) : (d.setO k v).traceLost = d.traceLost := rfl
@[simp] theorem Dev.setO_feeds (d : Dev) (k : Nat) (v : Int) : (d.setO k v).feeds = d.feeds := rfl
@[simp] theorem Dev.setO_ctrs (d : Dev) (k : Nat) (v : Int) : (d.setO k v).ctrs = d.ctrs := rfl
@[simp] theorem Dev.setO_link (d : Dev) (k : Nat) (v : Int) : (d.setO k v).link = d.link := rfl
@[simp] theorem Dev.setO_grid (d : Dev) (k : Nat) (v : Int) : (d.setO k v).grid = d.grid := rfl
@[simp] theorem Dev.setO_dabs (d : Dev) (k : Nat) (v : Int) : (d.setO k v).dabs = d.dabs := rfl
@[simp] theorem Dev.setO_peers (d : Dev) (k : Nat) (v : Int) : (d.setO k v).peers = d.peers := rfl
@[simp] theorem Dev.setO_ocHold (d : Dev) (k : Nat) (v : Int) : (d.setO k v).ocHold = d.ocHold := rfl
@[simp] theorem Dev.setO_testing (d : Dev) (k : Nat) (v : Int) : (d.setO k v).testing = d.testing := rfl
@[simp] theorem Dev.setO_riseTests (d : Dev) (k : Nat) (v : Int) : (d.setO k v).riseTests = d.riseTests := rfl
@[simp] theorem Dev.setO_tested (d : Dev) (k : Nat) (v : Int) : (d.setO k v).tested = d.tested := rfl
@[simp] theorem Dev.setO_driveLow (d : Dev) (k : Nat) (v : Int) : (d.setO k v).driveLow = d.driveLow := rfl
@[simp] theorem Dev.setO_hbs (d : Dev) (k : Nat) (v : Int) : (d.setO k v).hbs = d.hbs := rfl
@[simp] theorem Dev.setO_lvs (d : Dev) (k : Nat) (v : Int) : (d.setO k v).lvs = d.lvs := rfl
@[simp] theorem Dev.setO_bldcs (d : Dev) (k : Nat) (v : Int) : (d.setO k v).bldcs = d.bldcs := rfl
@[simp] theorem Dev.setO_vlvHigh (d : Dev) (k : Nat) (v : Int) : (d.setO k v).vlvHigh = d.vlvHigh := rfl
@[simp] theorem Dev.setO_lvLimit (d : Dev) (k : Nat) (v : Int) : (d.setO k v).lvLimit = d.lvLimit := rfl
@[simp] theorem Dev.setO_axes (d : Dev) (k : Nat) (v : Int) : (d.setO k v).axes = d.axes := rfl
@[simp] theorem Dev.setO_moves (d : Dev) (k : Nat) (v : Int) : (d.setO k v).moves = d.moves := rfl
@[simp] theorem Dev.setO_shift (d : Dev) (k : Nat) (v : Int) : (d.setO k v).shift = d.shift := rfl
@[simp] theorem Dev.setO_ge (d : Dev) (k : Nat) (v : Int) : (d.setO k v).ge = d.ge := rfl
@[simp] theorem Dev.setO_rows (d : Dev) (k : Nat) (v : Int) : (d.setO k v).rows = d.rows := rfl
@[simp] theorem Dev.setO_nodes (d : Dev) (k : Nat) (v : Int) : (d.setO k v).nodes = d.nodes := rfl
@[simp] theorem Dev.setO_chains (d : Dev) (k : Nat) (v : Int) : (d.setO k v).chains = d.chains := rfl
@[simp] theorem Dev.setO_mbx (d : Dev) (k : Nat) (v : Int) : (d.setO k v).mbx = d.mbx := rfl
@[simp] theorem Dev.setO_dead (d : Dev) (k : Nat) (v : Int) : (d.setO k v).dead = d.dead := rfl
@[simp] theorem Dev.setO_sessions (d : Dev) (k : Nat) (v : Int) : (d.setO k v).sessions = d.sessions := rfl
@[simp] theorem Dev.setO_wrongTags (d : Dev) (k : Nat) (v : Int) : (d.setO k v).wrongTags = d.wrongTags := rfl
@[simp] theorem Dev.setO_barred (d : Dev) (k : Nat) (v : Int) : (d.setO k v).barred = d.barred := rfl
@[simp] theorem Dev.setO_busOff (d : Dev) (k : Nat) (v : Int) : (d.setO k v).busOff = d.busOff := rfl
@[simp] theorem Dev.setO_busOffAt (d : Dev) (k : Nat) (v : Int) : (d.setO k v).busOffAt = d.busOffAt := rfl
@[simp] theorem Dev.setO_busSlow (d : Dev) (k : Nat) (v : Int) : (d.setO k v).busSlow = d.busSlow := rfl
@[simp] theorem Dev.setO_claim (d : Dev) (k : Nat) (v : Int) : (d.setO k v).claim = d.claim := rfl
@[simp] theorem Dev.setO_claimAddr (d : Dev) (k : Nat) (v : Int) : (d.setO k v).claimAddr = d.claimAddr := rfl
@[simp] theorem Dev.setO_claimLast (d : Dev) (k : Nat) (v : Int) : (d.setO k v).claimLast = d.claimLast := rfl
@[simp] theorem Dev.setO_ethSent (d : Dev) (k : Nat) (v : Int) : (d.setO k v).ethSent = d.ethSent := rfl
@[simp] theorem Dev.setO_notes (d : Dev) (k : Nat) (v : Int) : (d.setO k v).notes = d.notes := rfl
@[simp] theorem Dev.setO_pool (d : Dev) (k : Nat) (v : Int) : (d.setO k v).pool = d.pool := rfl
@[simp] theorem Dev.setO_poolShown (d : Dev) (k : Nat) (v : Int) : (d.setO k v).poolShown = d.poolShown := rfl
@[simp] theorem Dev.setO_couriers (d : Dev) (k : Nat) (v : Int) : (d.setO k v).couriers = d.couriers := rfl
@[simp] theorem Dev.setO_sps (d : Dev) (k : Nat) (v : Int) : (d.setO k v).sps = d.sps := rfl
@[simp] theorem Dev.setO_mems (d : Dev) (k : Nat) (v : Int) : (d.setO k v).mems = d.mems := rfl
@[simp] theorem Dev.setO_mRecords (d : Dev) (k : Nat) (v : Int) : (d.setO k v).mRecords = d.mRecords := rfl
@[simp] theorem Dev.setO_fuse (d : Dev) (k : Nat) (v : Int) : (d.setO k v).fuse = d.fuse := rfl
@[simp] theorem Dev.setO_slotsAB (d : Dev) (k : Nat) (v : Int) : (d.setO k v).slotsAB = d.slotsAB := rfl
@[simp] theorem Dev.setO_update (d : Dev) (k : Nat) (v : Int) : (d.setO k v).update = d.update := rfl
@[simp] theorem Dev.setO_line (d : Dev) (k : Nat) (v : Int) : (d.setO k v).line = d.line := rfl
@[simp] theorem Dev.setO_nonces (d : Dev) (k : Nat) (v : Int) : (d.setO k v).nonces = d.nonces := rfl
@[simp] theorem Dev.setO_flashJobs (d : Dev) (k : Nat) (v : Int) : (d.setO k v).flashJobs = d.flashJobs := rfl
@[simp] theorem Dev.setO_power (d : Dev) (k : Nat) (v : Int) : (d.setO k v).power = d.power := rfl
@[simp] theorem Dev.setO_kept (d : Dev) (k : Nat) (v : Int) : (d.setO k v).kept = d.kept := rfl
@[simp] theorem Dev.setO_nfLevel (d : Dev) (k : Nat) (v : Int) : (d.setO k v).nfLevel = d.nfLevel := rfl
@[simp] theorem Dev.setO_nfSeen (d : Dev) (k : Nat) (v : Int) : (d.setO k v).nfSeen = d.nfSeen := rfl
@[simp] theorem Dev.setO_nfPulse (d : Dev) (k : Nat) (v : Int) : (d.setO k v).nfPulse = d.nfPulse := rfl
@[simp] theorem Dev.setO_hnLost (d : Dev) (k : Nat) (v : Int) : (d.setO k v).hnLost = d.hnLost := rfl
@[simp] theorem Dev.setO_hnBad (d : Dev) (k : Nat) (v : Int) : (d.setO k v).hnBad = d.hnBad := rfl
@[simp] theorem Dev.setO_hnCount (d : Dev) (k : Nat) (v : Int) : (d.setO k v).hnCount = d.hnCount := rfl
@[simp] theorem Dev.setO_monitor (d : Dev) (k : Nat) (v : Int) : (d.setO k v).monitor = d.monitor := rfl
@[simp] theorem Dev.setO_sar (d : Dev) (k : Nat) (v : Int) : (d.setO k v).sar = d.sar := rfl
@[simp] theorem Dev.setO_sensors (d : Dev) (k : Nat) (v : Int) : (d.setO k v).sensors = d.sensors := rfl
@[simp] theorem Dev.setO_die (d : Dev) (k : Nat) (v : Int) : (d.setO k v).die = d.die := rfl
@[simp] theorem Dev.setO_pauses (d : Dev) (k : Nat) (v : Int) : (d.setO k v).pauses = d.pauses := rfl
@[simp] theorem Dev.setO_crcInject (d : Dev) (k : Nat) (v : Int) : (d.setO k v).crcInject = d.crcInject := rfl
@[simp] theorem Dev.setO_limited (d : Dev) (k : Nat) (v : Int) : (d.setO k v).limited = d.limited := rfl
@[simp] theorem Dev.setO_j9 (d : Dev) (k : Nat) (v : Int) : (d.setO k v).j9 = d.j9 := rfl
@[simp] theorem Dev.setO_reply (d : Dev) (k : Nat) (v : Int) : (d.setO k v).reply = d.reply := rfl
@[simp] theorem Dev.setO_hsp (d : Dev) (k : Nat) (v : Int) : (d.setO k v).hsp = d.hsp := rfl
@[simp] theorem Dev.setO_obj (d : Dev) (k : Nat) (v : Int) : (d.setO k v).obj = Tab.set (dflt k) d.obj k v := rfl

@[simp] theorem Dev.setBlk_wall (d : Dev) (k : Nat) (v : Bytes) : (d.setBlk k v).wall = d.wall := rfl
@[simp] theorem Dev.setBlk_free (d : Dev) (k : Nat) (v : Bytes) : (d.setBlk k v).free = d.free := rfl
@[simp] theorem Dev.setBlk_obj (d : Dev) (k : Nat) (v : Bytes) : (d.setBlk k v).obj = d.obj := rfl
@[simp] theorem Dev.setBlk_poison (d : Dev) (k : Nat) (v : Bytes) : (d.setBlk k v).poison = d.poison := rfl
@[simp] theorem Dev.setBlk_writes (d : Dev) (k : Nat) (v : Bytes) : (d.setBlk k v).writes = d.writes := rfl
@[simp] theorem Dev.setBlk_result (d : Dev) (k : Nat) (v : Bytes) : (d.setBlk k v).result = d.result := rfl
@[simp] theorem Dev.setBlk_data (d : Dev) (k : Nat) (v : Bytes) : (d.setBlk k v).data = d.data := rfl
@[simp] theorem Dev.setBlk_evq (d : Dev) (k : Nat) (v : Bytes) : (d.setBlk k v).evq = d.evq := rfl
@[simp] theorem Dev.setBlk_coll (d : Dev) (k : Nat) (v : Bytes) : (d.setBlk k v).coll = d.coll := rfl
@[simp] theorem Dev.setBlk_phase (d : Dev) (k : Nat) (v : Bytes) : (d.setBlk k v).phase = d.phase := rfl
@[simp] theorem Dev.setBlk_resetPending (d : Dev) (k : Nat) (v : Bytes) : (d.setBlk k v).resetPending = d.resetPending := rfl
@[simp] theorem Dev.setBlk_tracks (d : Dev) (k : Nat) (v : Bytes) : (d.setBlk k v).tracks = d.tracks := rfl
@[simp] theorem Dev.setBlk_slots (d : Dev) (k : Nat) (v : Bytes) : (d.setBlk k v).slots = d.slots := rfl
@[simp] theorem Dev.setBlk_ssi (d : Dev) (k : Nat) (v : Bytes) : (d.setBlk k v).ssi = d.ssi := rfl
@[simp] theorem Dev.setBlk_inc (d : Dev) (k : Nat) (v : Bytes) : (d.setBlk k v).inc = d.inc := rfl
@[simp] theorem Dev.setBlk_hall (d : Dev) (k : Nat) (v : Bytes) : (d.setBlk k v).hall = d.hall := rfl
@[simp] theorem Dev.setBlk_pulse (d : Dev) (k : Nat) (v : Bytes) : (d.setBlk k v).pulse = d.pulse := rfl
@[simp] theorem Dev.setBlk_probes (d : Dev) (k : Nat) (v : Bytes) : (d.setBlk k v).probes = d.probes := rfl
@[simp] theorem Dev.setBlk_source (d : Dev) (k : Nat) (v : Bytes) : (d.setBlk k v).source = d.source := rfl
@[simp] theorem Dev.setBlk_imuFailed (d : Dev) (k : Nat) (v : Bytes) : (d.setBlk k v).imuFailed = d.imuFailed := rfl
@[simp] theorem Dev.setBlk_trac (d : Dev) (k : Nat) (v : Bytes) : (d.setBlk k v).trac = d.trac := rfl
@[simp] theorem Dev.setBlk_gates (d : Dev) (k : Nat) (v : Bytes) : (d.setBlk k v).gates = d.gates := rfl
@[simp] theorem Dev.setBlk_tier3 (d : Dev) (k : Nat) (v : Bytes) : (d.setBlk k v).tier3 = d.tier3 := rfl
@[simp] theorem Dev.setBlk_tier4 (d : Dev) (k : Nat) (v : Bytes) : (d.setBlk k v).tier4 = d.tier4 := rfl
@[simp] theorem Dev.setBlk_openRequest (d : Dev) (k : Nat) (v : Bytes) : (d.setBlk k v).openRequest = d.openRequest := rfl
@[simp] theorem Dev.setBlk_ocTrips (d : Dev) (k : Nat) (v : Bytes) : (d.setBlk k v).ocTrips = d.ocTrips := rfl
@[simp] theorem Dev.setBlk_hnLast (d : Dev) (k : Nat) (v : Bytes) : (d.setBlk k v).hnLast = d.hnLast := rfl
@[simp] theorem Dev.setBlk_loops (d : Dev) (k : Nat) (v : Bytes) : (d.setBlk k v).loops = d.loops := rfl
@[simp] theorem Dev.setBlk_leBlocked (d : Dev) (k : Nat) (v : Bytes) : (d.setBlk k v).leBlocked = d.leBlocked := rfl
@[simp] theorem Dev.setBlk_leMoving (d : Dev) (k : Nat) (v : Bytes) : (d.setBlk k v).leMoving = d.leMoving := rfl
@[simp] theorem Dev.setBlk_leLoaded (d : Dev) (k : Nat) (v : Bytes) : (d.setBlk k v).leLoaded = d.leLoaded := rfl
@[simp] theorem Dev.setBlk_le8Bad (d : Dev) (k : Nat) (v : Bytes) : (d.setBlk k v).le8Bad = d.le8Bad := rfl
@[simp] theorem Dev.setBlk_trace (d : Dev) (k : Nat) (v : Bytes) : (d.setBlk k v).trace = d.trace := rfl
@[simp] theorem Dev.setBlk_tracePost (d : Dev) (k : Nat) (v : Bytes) : (d.setBlk k v).tracePost = d.tracePost := rfl
@[simp] theorem Dev.setBlk_traceLost (d : Dev) (k : Nat) (v : Bytes) : (d.setBlk k v).traceLost = d.traceLost := rfl
@[simp] theorem Dev.setBlk_feeds (d : Dev) (k : Nat) (v : Bytes) : (d.setBlk k v).feeds = d.feeds := rfl
@[simp] theorem Dev.setBlk_ctrs (d : Dev) (k : Nat) (v : Bytes) : (d.setBlk k v).ctrs = d.ctrs := rfl
@[simp] theorem Dev.setBlk_link (d : Dev) (k : Nat) (v : Bytes) : (d.setBlk k v).link = d.link := rfl
@[simp] theorem Dev.setBlk_grid (d : Dev) (k : Nat) (v : Bytes) : (d.setBlk k v).grid = d.grid := rfl
@[simp] theorem Dev.setBlk_dabs (d : Dev) (k : Nat) (v : Bytes) : (d.setBlk k v).dabs = d.dabs := rfl
@[simp] theorem Dev.setBlk_peers (d : Dev) (k : Nat) (v : Bytes) : (d.setBlk k v).peers = d.peers := rfl
@[simp] theorem Dev.setBlk_ocHold (d : Dev) (k : Nat) (v : Bytes) : (d.setBlk k v).ocHold = d.ocHold := rfl
@[simp] theorem Dev.setBlk_testing (d : Dev) (k : Nat) (v : Bytes) : (d.setBlk k v).testing = d.testing := rfl
@[simp] theorem Dev.setBlk_riseTests (d : Dev) (k : Nat) (v : Bytes) : (d.setBlk k v).riseTests = d.riseTests := rfl
@[simp] theorem Dev.setBlk_tested (d : Dev) (k : Nat) (v : Bytes) : (d.setBlk k v).tested = d.tested := rfl
@[simp] theorem Dev.setBlk_driveLow (d : Dev) (k : Nat) (v : Bytes) : (d.setBlk k v).driveLow = d.driveLow := rfl
@[simp] theorem Dev.setBlk_hbs (d : Dev) (k : Nat) (v : Bytes) : (d.setBlk k v).hbs = d.hbs := rfl
@[simp] theorem Dev.setBlk_lvs (d : Dev) (k : Nat) (v : Bytes) : (d.setBlk k v).lvs = d.lvs := rfl
@[simp] theorem Dev.setBlk_bldcs (d : Dev) (k : Nat) (v : Bytes) : (d.setBlk k v).bldcs = d.bldcs := rfl
@[simp] theorem Dev.setBlk_vlvHigh (d : Dev) (k : Nat) (v : Bytes) : (d.setBlk k v).vlvHigh = d.vlvHigh := rfl
@[simp] theorem Dev.setBlk_lvLimit (d : Dev) (k : Nat) (v : Bytes) : (d.setBlk k v).lvLimit = d.lvLimit := rfl
@[simp] theorem Dev.setBlk_axes (d : Dev) (k : Nat) (v : Bytes) : (d.setBlk k v).axes = d.axes := rfl
@[simp] theorem Dev.setBlk_moves (d : Dev) (k : Nat) (v : Bytes) : (d.setBlk k v).moves = d.moves := rfl
@[simp] theorem Dev.setBlk_shift (d : Dev) (k : Nat) (v : Bytes) : (d.setBlk k v).shift = d.shift := rfl
@[simp] theorem Dev.setBlk_ge (d : Dev) (k : Nat) (v : Bytes) : (d.setBlk k v).ge = d.ge := rfl
@[simp] theorem Dev.setBlk_rows (d : Dev) (k : Nat) (v : Bytes) : (d.setBlk k v).rows = d.rows := rfl
@[simp] theorem Dev.setBlk_nodes (d : Dev) (k : Nat) (v : Bytes) : (d.setBlk k v).nodes = d.nodes := rfl
@[simp] theorem Dev.setBlk_chains (d : Dev) (k : Nat) (v : Bytes) : (d.setBlk k v).chains = d.chains := rfl
@[simp] theorem Dev.setBlk_mbx (d : Dev) (k : Nat) (v : Bytes) : (d.setBlk k v).mbx = d.mbx := rfl
@[simp] theorem Dev.setBlk_dead (d : Dev) (k : Nat) (v : Bytes) : (d.setBlk k v).dead = d.dead := rfl
@[simp] theorem Dev.setBlk_sessions (d : Dev) (k : Nat) (v : Bytes) : (d.setBlk k v).sessions = d.sessions := rfl
@[simp] theorem Dev.setBlk_wrongTags (d : Dev) (k : Nat) (v : Bytes) : (d.setBlk k v).wrongTags = d.wrongTags := rfl
@[simp] theorem Dev.setBlk_barred (d : Dev) (k : Nat) (v : Bytes) : (d.setBlk k v).barred = d.barred := rfl
@[simp] theorem Dev.setBlk_busOff (d : Dev) (k : Nat) (v : Bytes) : (d.setBlk k v).busOff = d.busOff := rfl
@[simp] theorem Dev.setBlk_busOffAt (d : Dev) (k : Nat) (v : Bytes) : (d.setBlk k v).busOffAt = d.busOffAt := rfl
@[simp] theorem Dev.setBlk_busSlow (d : Dev) (k : Nat) (v : Bytes) : (d.setBlk k v).busSlow = d.busSlow := rfl
@[simp] theorem Dev.setBlk_claim (d : Dev) (k : Nat) (v : Bytes) : (d.setBlk k v).claim = d.claim := rfl
@[simp] theorem Dev.setBlk_claimAddr (d : Dev) (k : Nat) (v : Bytes) : (d.setBlk k v).claimAddr = d.claimAddr := rfl
@[simp] theorem Dev.setBlk_claimLast (d : Dev) (k : Nat) (v : Bytes) : (d.setBlk k v).claimLast = d.claimLast := rfl
@[simp] theorem Dev.setBlk_ethSent (d : Dev) (k : Nat) (v : Bytes) : (d.setBlk k v).ethSent = d.ethSent := rfl
@[simp] theorem Dev.setBlk_notes (d : Dev) (k : Nat) (v : Bytes) : (d.setBlk k v).notes = d.notes := rfl
@[simp] theorem Dev.setBlk_pool (d : Dev) (k : Nat) (v : Bytes) : (d.setBlk k v).pool = d.pool := rfl
@[simp] theorem Dev.setBlk_poolShown (d : Dev) (k : Nat) (v : Bytes) : (d.setBlk k v).poolShown = d.poolShown := rfl
@[simp] theorem Dev.setBlk_couriers (d : Dev) (k : Nat) (v : Bytes) : (d.setBlk k v).couriers = d.couriers := rfl
@[simp] theorem Dev.setBlk_sps (d : Dev) (k : Nat) (v : Bytes) : (d.setBlk k v).sps = d.sps := rfl
@[simp] theorem Dev.setBlk_mems (d : Dev) (k : Nat) (v : Bytes) : (d.setBlk k v).mems = d.mems := rfl
@[simp] theorem Dev.setBlk_mRecords (d : Dev) (k : Nat) (v : Bytes) : (d.setBlk k v).mRecords = d.mRecords := rfl
@[simp] theorem Dev.setBlk_fuse (d : Dev) (k : Nat) (v : Bytes) : (d.setBlk k v).fuse = d.fuse := rfl
@[simp] theorem Dev.setBlk_slotsAB (d : Dev) (k : Nat) (v : Bytes) : (d.setBlk k v).slotsAB = d.slotsAB := rfl
@[simp] theorem Dev.setBlk_update (d : Dev) (k : Nat) (v : Bytes) : (d.setBlk k v).update = d.update := rfl
@[simp] theorem Dev.setBlk_line (d : Dev) (k : Nat) (v : Bytes) : (d.setBlk k v).line = d.line := rfl
@[simp] theorem Dev.setBlk_nonces (d : Dev) (k : Nat) (v : Bytes) : (d.setBlk k v).nonces = d.nonces := rfl
@[simp] theorem Dev.setBlk_flashJobs (d : Dev) (k : Nat) (v : Bytes) : (d.setBlk k v).flashJobs = d.flashJobs := rfl
@[simp] theorem Dev.setBlk_power (d : Dev) (k : Nat) (v : Bytes) : (d.setBlk k v).power = d.power := rfl
@[simp] theorem Dev.setBlk_kept (d : Dev) (k : Nat) (v : Bytes) : (d.setBlk k v).kept = d.kept := rfl
@[simp] theorem Dev.setBlk_nfLevel (d : Dev) (k : Nat) (v : Bytes) : (d.setBlk k v).nfLevel = d.nfLevel := rfl
@[simp] theorem Dev.setBlk_nfSeen (d : Dev) (k : Nat) (v : Bytes) : (d.setBlk k v).nfSeen = d.nfSeen := rfl
@[simp] theorem Dev.setBlk_nfPulse (d : Dev) (k : Nat) (v : Bytes) : (d.setBlk k v).nfPulse = d.nfPulse := rfl
@[simp] theorem Dev.setBlk_hnLost (d : Dev) (k : Nat) (v : Bytes) : (d.setBlk k v).hnLost = d.hnLost := rfl
@[simp] theorem Dev.setBlk_hnBad (d : Dev) (k : Nat) (v : Bytes) : (d.setBlk k v).hnBad = d.hnBad := rfl
@[simp] theorem Dev.setBlk_hnCount (d : Dev) (k : Nat) (v : Bytes) : (d.setBlk k v).hnCount = d.hnCount := rfl
@[simp] theorem Dev.setBlk_monitor (d : Dev) (k : Nat) (v : Bytes) : (d.setBlk k v).monitor = d.monitor := rfl
@[simp] theorem Dev.setBlk_sar (d : Dev) (k : Nat) (v : Bytes) : (d.setBlk k v).sar = d.sar := rfl
@[simp] theorem Dev.setBlk_sensors (d : Dev) (k : Nat) (v : Bytes) : (d.setBlk k v).sensors = d.sensors := rfl
@[simp] theorem Dev.setBlk_die (d : Dev) (k : Nat) (v : Bytes) : (d.setBlk k v).die = d.die := rfl
@[simp] theorem Dev.setBlk_pauses (d : Dev) (k : Nat) (v : Bytes) : (d.setBlk k v).pauses = d.pauses := rfl
@[simp] theorem Dev.setBlk_crcInject (d : Dev) (k : Nat) (v : Bytes) : (d.setBlk k v).crcInject = d.crcInject := rfl
@[simp] theorem Dev.setBlk_limited (d : Dev) (k : Nat) (v : Bytes) : (d.setBlk k v).limited = d.limited := rfl
@[simp] theorem Dev.setBlk_j9 (d : Dev) (k : Nat) (v : Bytes) : (d.setBlk k v).j9 = d.j9 := rfl
@[simp] theorem Dev.setBlk_reply (d : Dev) (k : Nat) (v : Bytes) : (d.setBlk k v).reply = d.reply := rfl
@[simp] theorem Dev.setBlk_hsp (d : Dev) (k : Nat) (v : Bytes) : (d.setBlk k v).hsp = d.hsp := rfl
@[simp] theorem Dev.setBlk_blk (d : Dev) (k : Nat) (v : Bytes) : (d.setBlk k v).blk = Tab.set (blkDflt k) d.blk k v := rfl

@[simp] theorem Dev.res_wall (d : Dev) (c : Nat) : (d.res c).wall = d.wall := rfl
@[simp] theorem Dev.res_free (d : Dev) (c : Nat) : (d.res c).free = d.free := rfl
@[simp] theorem Dev.res_obj (d : Dev) (c : Nat) : (d.res c).obj = d.obj := rfl
@[simp] theorem Dev.res_blk (d : Dev) (c : Nat) : (d.res c).blk = d.blk := rfl
@[simp] theorem Dev.res_poison (d : Dev) (c : Nat) : (d.res c).poison = d.poison := rfl
@[simp] theorem Dev.res_writes (d : Dev) (c : Nat) : (d.res c).writes = d.writes := rfl
@[simp] theorem Dev.res_data (d : Dev) (c : Nat) : (d.res c).data = d.data := rfl
@[simp] theorem Dev.res_evq (d : Dev) (c : Nat) : (d.res c).evq = d.evq := rfl
@[simp] theorem Dev.res_coll (d : Dev) (c : Nat) : (d.res c).coll = d.coll := rfl
@[simp] theorem Dev.res_phase (d : Dev) (c : Nat) : (d.res c).phase = d.phase := rfl
@[simp] theorem Dev.res_resetPending (d : Dev) (c : Nat) : (d.res c).resetPending = d.resetPending := rfl
@[simp] theorem Dev.res_tracks (d : Dev) (c : Nat) : (d.res c).tracks = d.tracks := rfl
@[simp] theorem Dev.res_slots (d : Dev) (c : Nat) : (d.res c).slots = d.slots := rfl
@[simp] theorem Dev.res_ssi (d : Dev) (c : Nat) : (d.res c).ssi = d.ssi := rfl
@[simp] theorem Dev.res_inc (d : Dev) (c : Nat) : (d.res c).inc = d.inc := rfl
@[simp] theorem Dev.res_hall (d : Dev) (c : Nat) : (d.res c).hall = d.hall := rfl
@[simp] theorem Dev.res_pulse (d : Dev) (c : Nat) : (d.res c).pulse = d.pulse := rfl
@[simp] theorem Dev.res_probes (d : Dev) (c : Nat) : (d.res c).probes = d.probes := rfl
@[simp] theorem Dev.res_source (d : Dev) (c : Nat) : (d.res c).source = d.source := rfl
@[simp] theorem Dev.res_imuFailed (d : Dev) (c : Nat) : (d.res c).imuFailed = d.imuFailed := rfl
@[simp] theorem Dev.res_trac (d : Dev) (c : Nat) : (d.res c).trac = d.trac := rfl
@[simp] theorem Dev.res_gates (d : Dev) (c : Nat) : (d.res c).gates = d.gates := rfl
@[simp] theorem Dev.res_tier3 (d : Dev) (c : Nat) : (d.res c).tier3 = d.tier3 := rfl
@[simp] theorem Dev.res_tier4 (d : Dev) (c : Nat) : (d.res c).tier4 = d.tier4 := rfl
@[simp] theorem Dev.res_openRequest (d : Dev) (c : Nat) : (d.res c).openRequest = d.openRequest := rfl
@[simp] theorem Dev.res_ocTrips (d : Dev) (c : Nat) : (d.res c).ocTrips = d.ocTrips := rfl
@[simp] theorem Dev.res_hnLast (d : Dev) (c : Nat) : (d.res c).hnLast = d.hnLast := rfl
@[simp] theorem Dev.res_loops (d : Dev) (c : Nat) : (d.res c).loops = d.loops := rfl
@[simp] theorem Dev.res_leBlocked (d : Dev) (c : Nat) : (d.res c).leBlocked = d.leBlocked := rfl
@[simp] theorem Dev.res_leMoving (d : Dev) (c : Nat) : (d.res c).leMoving = d.leMoving := rfl
@[simp] theorem Dev.res_leLoaded (d : Dev) (c : Nat) : (d.res c).leLoaded = d.leLoaded := rfl
@[simp] theorem Dev.res_le8Bad (d : Dev) (c : Nat) : (d.res c).le8Bad = d.le8Bad := rfl
@[simp] theorem Dev.res_trace (d : Dev) (c : Nat) : (d.res c).trace = d.trace := rfl
@[simp] theorem Dev.res_tracePost (d : Dev) (c : Nat) : (d.res c).tracePost = d.tracePost := rfl
@[simp] theorem Dev.res_traceLost (d : Dev) (c : Nat) : (d.res c).traceLost = d.traceLost := rfl
@[simp] theorem Dev.res_feeds (d : Dev) (c : Nat) : (d.res c).feeds = d.feeds := rfl
@[simp] theorem Dev.res_ctrs (d : Dev) (c : Nat) : (d.res c).ctrs = d.ctrs := rfl
@[simp] theorem Dev.res_link (d : Dev) (c : Nat) : (d.res c).link = d.link := rfl
@[simp] theorem Dev.res_grid (d : Dev) (c : Nat) : (d.res c).grid = d.grid := rfl
@[simp] theorem Dev.res_dabs (d : Dev) (c : Nat) : (d.res c).dabs = d.dabs := rfl
@[simp] theorem Dev.res_peers (d : Dev) (c : Nat) : (d.res c).peers = d.peers := rfl
@[simp] theorem Dev.res_ocHold (d : Dev) (c : Nat) : (d.res c).ocHold = d.ocHold := rfl
@[simp] theorem Dev.res_testing (d : Dev) (c : Nat) : (d.res c).testing = d.testing := rfl
@[simp] theorem Dev.res_riseTests (d : Dev) (c : Nat) : (d.res c).riseTests = d.riseTests := rfl
@[simp] theorem Dev.res_tested (d : Dev) (c : Nat) : (d.res c).tested = d.tested := rfl
@[simp] theorem Dev.res_driveLow (d : Dev) (c : Nat) : (d.res c).driveLow = d.driveLow := rfl
@[simp] theorem Dev.res_hbs (d : Dev) (c : Nat) : (d.res c).hbs = d.hbs := rfl
@[simp] theorem Dev.res_lvs (d : Dev) (c : Nat) : (d.res c).lvs = d.lvs := rfl
@[simp] theorem Dev.res_bldcs (d : Dev) (c : Nat) : (d.res c).bldcs = d.bldcs := rfl
@[simp] theorem Dev.res_vlvHigh (d : Dev) (c : Nat) : (d.res c).vlvHigh = d.vlvHigh := rfl
@[simp] theorem Dev.res_lvLimit (d : Dev) (c : Nat) : (d.res c).lvLimit = d.lvLimit := rfl
@[simp] theorem Dev.res_axes (d : Dev) (c : Nat) : (d.res c).axes = d.axes := rfl
@[simp] theorem Dev.res_moves (d : Dev) (c : Nat) : (d.res c).moves = d.moves := rfl
@[simp] theorem Dev.res_shift (d : Dev) (c : Nat) : (d.res c).shift = d.shift := rfl
@[simp] theorem Dev.res_ge (d : Dev) (c : Nat) : (d.res c).ge = d.ge := rfl
@[simp] theorem Dev.res_rows (d : Dev) (c : Nat) : (d.res c).rows = d.rows := rfl
@[simp] theorem Dev.res_nodes (d : Dev) (c : Nat) : (d.res c).nodes = d.nodes := rfl
@[simp] theorem Dev.res_chains (d : Dev) (c : Nat) : (d.res c).chains = d.chains := rfl
@[simp] theorem Dev.res_mbx (d : Dev) (c : Nat) : (d.res c).mbx = d.mbx := rfl
@[simp] theorem Dev.res_dead (d : Dev) (c : Nat) : (d.res c).dead = d.dead := rfl
@[simp] theorem Dev.res_sessions (d : Dev) (c : Nat) : (d.res c).sessions = d.sessions := rfl
@[simp] theorem Dev.res_wrongTags (d : Dev) (c : Nat) : (d.res c).wrongTags = d.wrongTags := rfl
@[simp] theorem Dev.res_barred (d : Dev) (c : Nat) : (d.res c).barred = d.barred := rfl
@[simp] theorem Dev.res_busOff (d : Dev) (c : Nat) : (d.res c).busOff = d.busOff := rfl
@[simp] theorem Dev.res_busOffAt (d : Dev) (c : Nat) : (d.res c).busOffAt = d.busOffAt := rfl
@[simp] theorem Dev.res_busSlow (d : Dev) (c : Nat) : (d.res c).busSlow = d.busSlow := rfl
@[simp] theorem Dev.res_claim (d : Dev) (c : Nat) : (d.res c).claim = d.claim := rfl
@[simp] theorem Dev.res_claimAddr (d : Dev) (c : Nat) : (d.res c).claimAddr = d.claimAddr := rfl
@[simp] theorem Dev.res_claimLast (d : Dev) (c : Nat) : (d.res c).claimLast = d.claimLast := rfl
@[simp] theorem Dev.res_ethSent (d : Dev) (c : Nat) : (d.res c).ethSent = d.ethSent := rfl
@[simp] theorem Dev.res_notes (d : Dev) (c : Nat) : (d.res c).notes = d.notes := rfl
@[simp] theorem Dev.res_pool (d : Dev) (c : Nat) : (d.res c).pool = d.pool := rfl
@[simp] theorem Dev.res_poolShown (d : Dev) (c : Nat) : (d.res c).poolShown = d.poolShown := rfl
@[simp] theorem Dev.res_couriers (d : Dev) (c : Nat) : (d.res c).couriers = d.couriers := rfl
@[simp] theorem Dev.res_sps (d : Dev) (c : Nat) : (d.res c).sps = d.sps := rfl
@[simp] theorem Dev.res_mems (d : Dev) (c : Nat) : (d.res c).mems = d.mems := rfl
@[simp] theorem Dev.res_mRecords (d : Dev) (c : Nat) : (d.res c).mRecords = d.mRecords := rfl
@[simp] theorem Dev.res_fuse (d : Dev) (c : Nat) : (d.res c).fuse = d.fuse := rfl
@[simp] theorem Dev.res_slotsAB (d : Dev) (c : Nat) : (d.res c).slotsAB = d.slotsAB := rfl
@[simp] theorem Dev.res_update (d : Dev) (c : Nat) : (d.res c).update = d.update := rfl
@[simp] theorem Dev.res_line (d : Dev) (c : Nat) : (d.res c).line = d.line := rfl
@[simp] theorem Dev.res_nonces (d : Dev) (c : Nat) : (d.res c).nonces = d.nonces := rfl
@[simp] theorem Dev.res_flashJobs (d : Dev) (c : Nat) : (d.res c).flashJobs = d.flashJobs := rfl
@[simp] theorem Dev.res_power (d : Dev) (c : Nat) : (d.res c).power = d.power := rfl
@[simp] theorem Dev.res_kept (d : Dev) (c : Nat) : (d.res c).kept = d.kept := rfl
@[simp] theorem Dev.res_nfLevel (d : Dev) (c : Nat) : (d.res c).nfLevel = d.nfLevel := rfl
@[simp] theorem Dev.res_nfSeen (d : Dev) (c : Nat) : (d.res c).nfSeen = d.nfSeen := rfl
@[simp] theorem Dev.res_nfPulse (d : Dev) (c : Nat) : (d.res c).nfPulse = d.nfPulse := rfl
@[simp] theorem Dev.res_hnLost (d : Dev) (c : Nat) : (d.res c).hnLost = d.hnLost := rfl
@[simp] theorem Dev.res_hnBad (d : Dev) (c : Nat) : (d.res c).hnBad = d.hnBad := rfl
@[simp] theorem Dev.res_hnCount (d : Dev) (c : Nat) : (d.res c).hnCount = d.hnCount := rfl
@[simp] theorem Dev.res_monitor (d : Dev) (c : Nat) : (d.res c).monitor = d.monitor := rfl
@[simp] theorem Dev.res_sar (d : Dev) (c : Nat) : (d.res c).sar = d.sar := rfl
@[simp] theorem Dev.res_sensors (d : Dev) (c : Nat) : (d.res c).sensors = d.sensors := rfl
@[simp] theorem Dev.res_die (d : Dev) (c : Nat) : (d.res c).die = d.die := rfl
@[simp] theorem Dev.res_pauses (d : Dev) (c : Nat) : (d.res c).pauses = d.pauses := rfl
@[simp] theorem Dev.res_crcInject (d : Dev) (c : Nat) : (d.res c).crcInject = d.crcInject := rfl
@[simp] theorem Dev.res_limited (d : Dev) (c : Nat) : (d.res c).limited = d.limited := rfl
@[simp] theorem Dev.res_j9 (d : Dev) (c : Nat) : (d.res c).j9 = d.j9 := rfl
@[simp] theorem Dev.res_reply (d : Dev) (c : Nat) : (d.res c).reply = d.reply := rfl
@[simp] theorem Dev.res_hsp (d : Dev) (c : Nat) : (d.res c).hsp = d.hsp := rfl
@[simp] theorem Dev.res_result (d : Dev) (c : Nat) : (d.res c).result = c := rfl

@[simp] theorem Dev.deliver_wall (d : Dev) (k : Nat) (v : Int) (b : Option Bytes) : (d.deliver k v b).wall = d.wall := rfl
@[simp] theorem Dev.deliver_free (d : Dev) (k : Nat) (v : Int) (b : Option Bytes) : (d.deliver k v b).free = d.free := rfl
@[simp] theorem Dev.deliver_obj (d : Dev) (k : Nat) (v : Int) (b : Option Bytes) : (d.deliver k v b).obj = d.obj := rfl
@[simp] theorem Dev.deliver_blk (d : Dev) (k : Nat) (v : Int) (b : Option Bytes) : (d.deliver k v b).blk = d.blk := rfl
@[simp] theorem Dev.deliver_poison (d : Dev) (k : Nat) (v : Int) (b : Option Bytes) : (d.deliver k v b).poison = d.poison := rfl
@[simp] theorem Dev.deliver_result (d : Dev) (k : Nat) (v : Int) (b : Option Bytes) : (d.deliver k v b).result = d.result := rfl
@[simp] theorem Dev.deliver_data (d : Dev) (k : Nat) (v : Int) (b : Option Bytes) : (d.deliver k v b).data = d.data := rfl
@[simp] theorem Dev.deliver_evq (d : Dev) (k : Nat) (v : Int) (b : Option Bytes) : (d.deliver k v b).evq = d.evq := rfl
@[simp] theorem Dev.deliver_coll (d : Dev) (k : Nat) (v : Int) (b : Option Bytes) : (d.deliver k v b).coll = d.coll := rfl
@[simp] theorem Dev.deliver_phase (d : Dev) (k : Nat) (v : Int) (b : Option Bytes) : (d.deliver k v b).phase = d.phase := rfl
@[simp] theorem Dev.deliver_resetPending (d : Dev) (k : Nat) (v : Int) (b : Option Bytes) : (d.deliver k v b).resetPending = d.resetPending := rfl
@[simp] theorem Dev.deliver_tracks (d : Dev) (k : Nat) (v : Int) (b : Option Bytes) : (d.deliver k v b).tracks = d.tracks := rfl
@[simp] theorem Dev.deliver_slots (d : Dev) (k : Nat) (v : Int) (b : Option Bytes) : (d.deliver k v b).slots = d.slots := rfl
@[simp] theorem Dev.deliver_ssi (d : Dev) (k : Nat) (v : Int) (b : Option Bytes) : (d.deliver k v b).ssi = d.ssi := rfl
@[simp] theorem Dev.deliver_inc (d : Dev) (k : Nat) (v : Int) (b : Option Bytes) : (d.deliver k v b).inc = d.inc := rfl
@[simp] theorem Dev.deliver_hall (d : Dev) (k : Nat) (v : Int) (b : Option Bytes) : (d.deliver k v b).hall = d.hall := rfl
@[simp] theorem Dev.deliver_pulse (d : Dev) (k : Nat) (v : Int) (b : Option Bytes) : (d.deliver k v b).pulse = d.pulse := rfl
@[simp] theorem Dev.deliver_probes (d : Dev) (k : Nat) (v : Int) (b : Option Bytes) : (d.deliver k v b).probes = d.probes := rfl
@[simp] theorem Dev.deliver_source (d : Dev) (k : Nat) (v : Int) (b : Option Bytes) : (d.deliver k v b).source = d.source := rfl
@[simp] theorem Dev.deliver_imuFailed (d : Dev) (k : Nat) (v : Int) (b : Option Bytes) : (d.deliver k v b).imuFailed = d.imuFailed := rfl
@[simp] theorem Dev.deliver_trac (d : Dev) (k : Nat) (v : Int) (b : Option Bytes) : (d.deliver k v b).trac = d.trac := rfl
@[simp] theorem Dev.deliver_gates (d : Dev) (k : Nat) (v : Int) (b : Option Bytes) : (d.deliver k v b).gates = d.gates := rfl
@[simp] theorem Dev.deliver_tier3 (d : Dev) (k : Nat) (v : Int) (b : Option Bytes) : (d.deliver k v b).tier3 = d.tier3 := rfl
@[simp] theorem Dev.deliver_tier4 (d : Dev) (k : Nat) (v : Int) (b : Option Bytes) : (d.deliver k v b).tier4 = d.tier4 := rfl
@[simp] theorem Dev.deliver_openRequest (d : Dev) (k : Nat) (v : Int) (b : Option Bytes) : (d.deliver k v b).openRequest = d.openRequest := rfl
@[simp] theorem Dev.deliver_ocTrips (d : Dev) (k : Nat) (v : Int) (b : Option Bytes) : (d.deliver k v b).ocTrips = d.ocTrips := rfl
@[simp] theorem Dev.deliver_hnLast (d : Dev) (k : Nat) (v : Int) (b : Option Bytes) : (d.deliver k v b).hnLast = d.hnLast := rfl
@[simp] theorem Dev.deliver_loops (d : Dev) (k : Nat) (v : Int) (b : Option Bytes) : (d.deliver k v b).loops = d.loops := rfl
@[simp] theorem Dev.deliver_leBlocked (d : Dev) (k : Nat) (v : Int) (b : Option Bytes) : (d.deliver k v b).leBlocked = d.leBlocked := rfl
@[simp] theorem Dev.deliver_leMoving (d : Dev) (k : Nat) (v : Int) (b : Option Bytes) : (d.deliver k v b).leMoving = d.leMoving := rfl
@[simp] theorem Dev.deliver_leLoaded (d : Dev) (k : Nat) (v : Int) (b : Option Bytes) : (d.deliver k v b).leLoaded = d.leLoaded := rfl
@[simp] theorem Dev.deliver_le8Bad (d : Dev) (k : Nat) (v : Int) (b : Option Bytes) : (d.deliver k v b).le8Bad = d.le8Bad := rfl
@[simp] theorem Dev.deliver_trace (d : Dev) (k : Nat) (v : Int) (b : Option Bytes) : (d.deliver k v b).trace = d.trace := rfl
@[simp] theorem Dev.deliver_tracePost (d : Dev) (k : Nat) (v : Int) (b : Option Bytes) : (d.deliver k v b).tracePost = d.tracePost := rfl
@[simp] theorem Dev.deliver_traceLost (d : Dev) (k : Nat) (v : Int) (b : Option Bytes) : (d.deliver k v b).traceLost = d.traceLost := rfl
@[simp] theorem Dev.deliver_feeds (d : Dev) (k : Nat) (v : Int) (b : Option Bytes) : (d.deliver k v b).feeds = d.feeds := rfl
@[simp] theorem Dev.deliver_ctrs (d : Dev) (k : Nat) (v : Int) (b : Option Bytes) : (d.deliver k v b).ctrs = d.ctrs := rfl
@[simp] theorem Dev.deliver_link (d : Dev) (k : Nat) (v : Int) (b : Option Bytes) : (d.deliver k v b).link = d.link := rfl
@[simp] theorem Dev.deliver_grid (d : Dev) (k : Nat) (v : Int) (b : Option Bytes) : (d.deliver k v b).grid = d.grid := rfl
@[simp] theorem Dev.deliver_dabs (d : Dev) (k : Nat) (v : Int) (b : Option Bytes) : (d.deliver k v b).dabs = d.dabs := rfl
@[simp] theorem Dev.deliver_peers (d : Dev) (k : Nat) (v : Int) (b : Option Bytes) : (d.deliver k v b).peers = d.peers := rfl
@[simp] theorem Dev.deliver_ocHold (d : Dev) (k : Nat) (v : Int) (b : Option Bytes) : (d.deliver k v b).ocHold = d.ocHold := rfl
@[simp] theorem Dev.deliver_testing (d : Dev) (k : Nat) (v : Int) (b : Option Bytes) : (d.deliver k v b).testing = d.testing := rfl
@[simp] theorem Dev.deliver_riseTests (d : Dev) (k : Nat) (v : Int) (b : Option Bytes) : (d.deliver k v b).riseTests = d.riseTests := rfl
@[simp] theorem Dev.deliver_tested (d : Dev) (k : Nat) (v : Int) (b : Option Bytes) : (d.deliver k v b).tested = d.tested := rfl
@[simp] theorem Dev.deliver_driveLow (d : Dev) (k : Nat) (v : Int) (b : Option Bytes) : (d.deliver k v b).driveLow = d.driveLow := rfl
@[simp] theorem Dev.deliver_hbs (d : Dev) (k : Nat) (v : Int) (b : Option Bytes) : (d.deliver k v b).hbs = d.hbs := rfl
@[simp] theorem Dev.deliver_lvs (d : Dev) (k : Nat) (v : Int) (b : Option Bytes) : (d.deliver k v b).lvs = d.lvs := rfl
@[simp] theorem Dev.deliver_bldcs (d : Dev) (k : Nat) (v : Int) (b : Option Bytes) : (d.deliver k v b).bldcs = d.bldcs := rfl
@[simp] theorem Dev.deliver_vlvHigh (d : Dev) (k : Nat) (v : Int) (b : Option Bytes) : (d.deliver k v b).vlvHigh = d.vlvHigh := rfl
@[simp] theorem Dev.deliver_lvLimit (d : Dev) (k : Nat) (v : Int) (b : Option Bytes) : (d.deliver k v b).lvLimit = d.lvLimit := rfl
@[simp] theorem Dev.deliver_axes (d : Dev) (k : Nat) (v : Int) (b : Option Bytes) : (d.deliver k v b).axes = d.axes := rfl
@[simp] theorem Dev.deliver_moves (d : Dev) (k : Nat) (v : Int) (b : Option Bytes) : (d.deliver k v b).moves = d.moves := rfl
@[simp] theorem Dev.deliver_shift (d : Dev) (k : Nat) (v : Int) (b : Option Bytes) : (d.deliver k v b).shift = d.shift := rfl
@[simp] theorem Dev.deliver_ge (d : Dev) (k : Nat) (v : Int) (b : Option Bytes) : (d.deliver k v b).ge = d.ge := rfl
@[simp] theorem Dev.deliver_rows (d : Dev) (k : Nat) (v : Int) (b : Option Bytes) : (d.deliver k v b).rows = d.rows := rfl
@[simp] theorem Dev.deliver_nodes (d : Dev) (k : Nat) (v : Int) (b : Option Bytes) : (d.deliver k v b).nodes = d.nodes := rfl
@[simp] theorem Dev.deliver_chains (d : Dev) (k : Nat) (v : Int) (b : Option Bytes) : (d.deliver k v b).chains = d.chains := rfl
@[simp] theorem Dev.deliver_mbx (d : Dev) (k : Nat) (v : Int) (b : Option Bytes) : (d.deliver k v b).mbx = d.mbx := rfl
@[simp] theorem Dev.deliver_dead (d : Dev) (k : Nat) (v : Int) (b : Option Bytes) : (d.deliver k v b).dead = d.dead := rfl
@[simp] theorem Dev.deliver_sessions (d : Dev) (k : Nat) (v : Int) (b : Option Bytes) : (d.deliver k v b).sessions = d.sessions := rfl
@[simp] theorem Dev.deliver_wrongTags (d : Dev) (k : Nat) (v : Int) (b : Option Bytes) : (d.deliver k v b).wrongTags = d.wrongTags := rfl
@[simp] theorem Dev.deliver_barred (d : Dev) (k : Nat) (v : Int) (b : Option Bytes) : (d.deliver k v b).barred = d.barred := rfl
@[simp] theorem Dev.deliver_busOff (d : Dev) (k : Nat) (v : Int) (b : Option Bytes) : (d.deliver k v b).busOff = d.busOff := rfl
@[simp] theorem Dev.deliver_busOffAt (d : Dev) (k : Nat) (v : Int) (b : Option Bytes) : (d.deliver k v b).busOffAt = d.busOffAt := rfl
@[simp] theorem Dev.deliver_busSlow (d : Dev) (k : Nat) (v : Int) (b : Option Bytes) : (d.deliver k v b).busSlow = d.busSlow := rfl
@[simp] theorem Dev.deliver_claim (d : Dev) (k : Nat) (v : Int) (b : Option Bytes) : (d.deliver k v b).claim = d.claim := rfl
@[simp] theorem Dev.deliver_claimAddr (d : Dev) (k : Nat) (v : Int) (b : Option Bytes) : (d.deliver k v b).claimAddr = d.claimAddr := rfl
@[simp] theorem Dev.deliver_claimLast (d : Dev) (k : Nat) (v : Int) (b : Option Bytes) : (d.deliver k v b).claimLast = d.claimLast := rfl
@[simp] theorem Dev.deliver_ethSent (d : Dev) (k : Nat) (v : Int) (b : Option Bytes) : (d.deliver k v b).ethSent = d.ethSent := rfl
@[simp] theorem Dev.deliver_notes (d : Dev) (k : Nat) (v : Int) (b : Option Bytes) : (d.deliver k v b).notes = d.notes := rfl
@[simp] theorem Dev.deliver_pool (d : Dev) (k : Nat) (v : Int) (b : Option Bytes) : (d.deliver k v b).pool = d.pool := rfl
@[simp] theorem Dev.deliver_poolShown (d : Dev) (k : Nat) (v : Int) (b : Option Bytes) : (d.deliver k v b).poolShown = d.poolShown := rfl
@[simp] theorem Dev.deliver_couriers (d : Dev) (k : Nat) (v : Int) (b : Option Bytes) : (d.deliver k v b).couriers = d.couriers := rfl
@[simp] theorem Dev.deliver_sps (d : Dev) (k : Nat) (v : Int) (b : Option Bytes) : (d.deliver k v b).sps = d.sps := rfl
@[simp] theorem Dev.deliver_mems (d : Dev) (k : Nat) (v : Int) (b : Option Bytes) : (d.deliver k v b).mems = d.mems := rfl
@[simp] theorem Dev.deliver_mRecords (d : Dev) (k : Nat) (v : Int) (b : Option Bytes) : (d.deliver k v b).mRecords = d.mRecords := rfl
@[simp] theorem Dev.deliver_fuse (d : Dev) (k : Nat) (v : Int) (b : Option Bytes) : (d.deliver k v b).fuse = d.fuse := rfl
@[simp] theorem Dev.deliver_slotsAB (d : Dev) (k : Nat) (v : Int) (b : Option Bytes) : (d.deliver k v b).slotsAB = d.slotsAB := rfl
@[simp] theorem Dev.deliver_update (d : Dev) (k : Nat) (v : Int) (b : Option Bytes) : (d.deliver k v b).update = d.update := rfl
@[simp] theorem Dev.deliver_line (d : Dev) (k : Nat) (v : Int) (b : Option Bytes) : (d.deliver k v b).line = d.line := rfl
@[simp] theorem Dev.deliver_nonces (d : Dev) (k : Nat) (v : Int) (b : Option Bytes) : (d.deliver k v b).nonces = d.nonces := rfl
@[simp] theorem Dev.deliver_flashJobs (d : Dev) (k : Nat) (v : Int) (b : Option Bytes) : (d.deliver k v b).flashJobs = d.flashJobs := rfl
@[simp] theorem Dev.deliver_power (d : Dev) (k : Nat) (v : Int) (b : Option Bytes) : (d.deliver k v b).power = d.power := rfl
@[simp] theorem Dev.deliver_kept (d : Dev) (k : Nat) (v : Int) (b : Option Bytes) : (d.deliver k v b).kept = d.kept := rfl
@[simp] theorem Dev.deliver_nfLevel (d : Dev) (k : Nat) (v : Int) (b : Option Bytes) : (d.deliver k v b).nfLevel = d.nfLevel := rfl
@[simp] theorem Dev.deliver_nfSeen (d : Dev) (k : Nat) (v : Int) (b : Option Bytes) : (d.deliver k v b).nfSeen = d.nfSeen := rfl
@[simp] theorem Dev.deliver_nfPulse (d : Dev) (k : Nat) (v : Int) (b : Option Bytes) : (d.deliver k v b).nfPulse = d.nfPulse := rfl
@[simp] theorem Dev.deliver_hnLost (d : Dev) (k : Nat) (v : Int) (b : Option Bytes) : (d.deliver k v b).hnLost = d.hnLost := rfl
@[simp] theorem Dev.deliver_hnBad (d : Dev) (k : Nat) (v : Int) (b : Option Bytes) : (d.deliver k v b).hnBad = d.hnBad := rfl
@[simp] theorem Dev.deliver_hnCount (d : Dev) (k : Nat) (v : Int) (b : Option Bytes) : (d.deliver k v b).hnCount = d.hnCount := rfl
@[simp] theorem Dev.deliver_monitor (d : Dev) (k : Nat) (v : Int) (b : Option Bytes) : (d.deliver k v b).monitor = d.monitor := rfl
@[simp] theorem Dev.deliver_sar (d : Dev) (k : Nat) (v : Int) (b : Option Bytes) : (d.deliver k v b).sar = d.sar := rfl
@[simp] theorem Dev.deliver_sensors (d : Dev) (k : Nat) (v : Int) (b : Option Bytes) : (d.deliver k v b).sensors = d.sensors := rfl
@[simp] theorem Dev.deliver_die (d : Dev) (k : Nat) (v : Int) (b : Option Bytes) : (d.deliver k v b).die = d.die := rfl
@[simp] theorem Dev.deliver_pauses (d : Dev) (k : Nat) (v : Int) (b : Option Bytes) : (d.deliver k v b).pauses = d.pauses := rfl
@[simp] theorem Dev.deliver_crcInject (d : Dev) (k : Nat) (v : Int) (b : Option Bytes) : (d.deliver k v b).crcInject = d.crcInject := rfl
@[simp] theorem Dev.deliver_limited (d : Dev) (k : Nat) (v : Int) (b : Option Bytes) : (d.deliver k v b).limited = d.limited := rfl
@[simp] theorem Dev.deliver_j9 (d : Dev) (k : Nat) (v : Int) (b : Option Bytes) : (d.deliver k v b).j9 = d.j9 := rfl
@[simp] theorem Dev.deliver_reply (d : Dev) (k : Nat) (v : Int) (b : Option Bytes) : (d.deliver k v b).reply = d.reply := rfl
@[simp] theorem Dev.deliver_hsp (d : Dev) (k : Nat) (v : Int) (b : Option Bytes) : (d.deliver k v b).hsp = d.hsp := rfl
@[simp] theorem Dev.deliver_writes (d : Dev) (k : Nat) (v : Int) (b : Option Bytes) :
    (d.deliver k v b).writes = d.writes ++ [{ key := k, val := v, block := b }] := rfl

/-! ### Objects -/

/-- An object reads what was set; every other one reads as before. -/
@[simp] theorem Dev.o_setO_same (d : Dev) (k : Nat) (v : Int) : (d.setO k v).o k = v := by simp [Dev.o]

theorem Dev.o_setO_other (d : Dev) {k j : Nat} (v : Int) (h : j ≠ k) : (d.setO k v).o j = d.o j := by
  simp [Dev.o, Tab.get_set_other _ _ _ _ h]

theorem Dev.o_setO (d : Dev) (k j : Nat) (v : Int) : (d.setO k v).o j = if j = k then v else d.o j := by
  by_cases h : j = k
  · subst h; simp
  · simp [h, Dev.o_setO_other d v h]

/-- The objects depend on nothing but their table. -/
theorem Dev.o_of_obj {d e : Dev} (h : d.obj = e.obj) (k : Nat) : d.o k = e.o k := by simp [Dev.o, h]

@[simp] theorem Dev.o_setBlk (d : Dev) (k : Nat) (v : Bytes) (j : Nat) : (d.setBlk k v).o j = d.o j := rfl
@[simp] theorem Dev.o_res (d : Dev) (c j : Nat) : (d.res c).o j = d.o j := rfl
@[simp] theorem Dev.o_deliver (d : Dev) (k : Nat) (v : Int) (b : Option Bytes) (j : Nat) : (d.deliver k v b).o j = d.o j := rfl
@[simp] theorem Dev.o_tickFree (d : Dev) (j : Nat) : d.tickFree.o j = d.o j := rfl
@[simp] theorem Dev.when_true (f : Dev → Dev) (d : Dev) : Dev.when true f d = f d := rfl
@[simp] theorem Dev.when_false (f : Dev → Dev) (d : Dev) : Dev.when false f d = d := rfl

/-- A saturating count after it advanced. -/
theorem Dev.o_addSat (d : Dev) (k n j : Nat) : (d.addSat k n).o j = if j = k then satU32 (d.o k + n) else d.o j := Dev.o_setO ..

/-- A wrapping count after it advanced. -/
theorem Dev.o_addWrap (d : Dev) (k n j : Nat) : (d.addWrap k n).o j = if j = k then wrapU32 (d.o k + n) else d.o j := Dev.o_setO ..

/-- A bit set in one object leaves the others. -/
theorem Dev.o_setBit (d : Dev) (k i : Nat) (b : Bool) (j : Nat) : (d.setBit k i b).o j = if j = k then putBit (d.o k) i b else d.o j := Dev.o_setO ..

theorem Dev.o_setB (d : Dev) (k : Nat) (b : Bool) (j : Nat) : (d.setB k b).o j = if j = k then b2i b else d.o j := Dev.o_setO ..

/-! ### The status objects -/

theorem Dev.setList_rest (d : Dev) (k n : Nat) (l : List Nat) : d.setList k n l = { d with obj := (d.setList k n l).obj } := by
  induction n generalizing d k l with
  | zero => rfl
  | succ n ih => rw [Dev.setList, ih]; rfl

theorem Dev.o_setList (d : Dev) (k n : Nat) (l : List Nat) (j : Nat) :
    (d.setList k n l).o j = if k ≤ j ∧ j < k + n then ((l.getD (j - k) 0 : Nat) : Int) else d.o j := by
  induction n generalizing d k l with
  | zero =>
    have h : ¬ (k ≤ j ∧ j < k + 0) := by omega
    rw [if_neg h]; rfl
  | succ n ih =>
    rw [Dev.setList, ih, Dev.o_setO]
    by_cases h : j = k
    · have h1 : ¬ (k + 1 ≤ j ∧ j < k + 1 + n) := by omega
      have h2 : k ≤ j ∧ j < k + (n + 1) := by omega
      rw [if_neg h1, if_pos h, if_pos h2, h, Nat.sub_self]; cases l <;> rfl
    · by_cases h2 : k + 1 ≤ j ∧ j < k + 1 + n
      · have h3 : k ≤ j ∧ j < k + (n + 1) := by omega
        have h4 : j - k = (j - (k + 1)) + 1 := by omega
        rw [if_pos h2, if_pos h3, h4]; cases l <;> simp
      · have h3 : ¬ (k ≤ j ∧ j < k + (n + 1)) := by omega
        rw [if_neg h2, if_neg h, if_neg h3]

theorem Dev.settlePin_rest (d : Dev) : d.settlePin = { d with obj := d.settlePin.obj } := by
  unfold Dev.settlePin; split <;> rfl

/-- Two updates of objects in a row are one. -/
theorem Dev.rest_trans {a b c : Dev} (h1 : b = { a with obj := b.obj }) (h2 : c = { b with obj := c.obj }) : c = { a with obj := c.obj } :=
  calc c = { b with obj := c.obj } := h2
    _ = { ({ a with obj := b.obj } : Dev) with obj := c.obj } := congrArg (fun (x : Dev) => { x with obj := c.obj }) h1
    _ = { a with obj := c.obj } := rfl

theorem Dev.setO_rest (d : Dev) (k : Nat) (v : Int) : d.setO k v = { d with obj := (d.setO k v).obj } := rfl

theorem Dev.settlePool_rest (d : Dev) : d.settlePool = { d with obj := d.settlePool.obj } :=
  Dev.rest_trans (Dev.setO_rest ..) (Dev.setO_rest ..)

theorem Dev.settleCounts_rest (d : Dev) : d.settleCounts = { d with obj := d.settleCounts.obj } := by
  unfold Dev.settleCounts
  iterate 7 refine Dev.rest_trans ?_ (Dev.setO_rest ..)
  exact Dev.setO_rest ..

theorem Dev.settleStates_rest (d : Dev) : d.settleStates = { d with obj := d.settleStates.obj } :=
  Dev.rest_trans (Dev.rest_trans (Dev.rest_trans (Dev.setList_rest ..) (Dev.setO_rest ..)) (Dev.setO_rest ..)) (Dev.setO_rest ..)

/-- The status objects are objects: nothing else changes. -/
theorem Dev.settle_rest (d : Dev) : d.settle = { d with obj := d.settle.obj } :=
  Dev.rest_trans (Dev.rest_trans (Dev.rest_trans (Dev.rest_trans (Dev.settlePool_rest d) (Dev.settleCounts_rest _)) (Dev.settlePin_rest _))
    (Dev.setList_rest ..)) (Dev.settleStates_rest _)

@[simp] theorem Dev.settle_wall (d : Dev) : d.settle.wall = d.wall := by rw [Dev.settle_rest]
@[simp] theorem Dev.settle_free (d : Dev) : d.settle.free = d.free := by rw [Dev.settle_rest]
@[simp] theorem Dev.settle_blk (d : Dev) : d.settle.blk = d.blk := by rw [Dev.settle_rest]
@[simp] theorem Dev.settle_poison (d : Dev) : d.settle.poison = d.poison := by rw [Dev.settle_rest]
@[simp] theorem Dev.settle_writes (d : Dev) : d.settle.writes = d.writes := by rw [Dev.settle_rest]
@[simp] theorem Dev.settle_result (d : Dev) : d.settle.result = d.result := by rw [Dev.settle_rest]
@[simp] theorem Dev.settle_data (d : Dev) : d.settle.data = d.data := by rw [Dev.settle_rest]
@[simp] theorem Dev.settle_evq (d : Dev) : d.settle.evq = d.evq := by rw [Dev.settle_rest]
@[simp] theorem Dev.settle_coll (d : Dev) : d.settle.coll = d.coll := by rw [Dev.settle_rest]
@[simp] theorem Dev.settle_phase (d : Dev) : d.settle.phase = d.phase := by rw [Dev.settle_rest]
@[simp] theorem Dev.settle_resetPending (d : Dev) : d.settle.resetPending = d.resetPending := by rw [Dev.settle_rest]
@[simp] theorem Dev.settle_tracks (d : Dev) : d.settle.tracks = d.tracks := by rw [Dev.settle_rest]
@[simp] theorem Dev.settle_slots (d : Dev) : d.settle.slots = d.slots := by rw [Dev.settle_rest]
@[simp] theorem Dev.settle_ssi (d : Dev) : d.settle.ssi = d.ssi := by rw [Dev.settle_rest]
@[simp] theorem Dev.settle_inc (d : Dev) : d.settle.inc = d.inc := by rw [Dev.settle_rest]
@[simp] theorem Dev.settle_hall (d : Dev) : d.settle.hall = d.hall := by rw [Dev.settle_rest]
@[simp] theorem Dev.settle_pulse (d : Dev) : d.settle.pulse = d.pulse := by rw [Dev.settle_rest]
@[simp] theorem Dev.settle_probes (d : Dev) : d.settle.probes = d.probes := by rw [Dev.settle_rest]
@[simp] theorem Dev.settle_source (d : Dev) : d.settle.source = d.source := by rw [Dev.settle_rest]
@[simp] theorem Dev.settle_imuFailed (d : Dev) : d.settle.imuFailed = d.imuFailed := by rw [Dev.settle_rest]
@[simp] theorem Dev.settle_trac (d : Dev) : d.settle.trac = d.trac := by rw [Dev.settle_rest]
@[simp] theorem Dev.settle_gates (d : Dev) : d.settle.gates = d.gates := by rw [Dev.settle_rest]
@[simp] theorem Dev.settle_tier3 (d : Dev) : d.settle.tier3 = d.tier3 := by rw [Dev.settle_rest]
@[simp] theorem Dev.settle_tier4 (d : Dev) : d.settle.tier4 = d.tier4 := by rw [Dev.settle_rest]
@[simp] theorem Dev.settle_openRequest (d : Dev) : d.settle.openRequest = d.openRequest := by rw [Dev.settle_rest]
@[simp] theorem Dev.settle_ocTrips (d : Dev) : d.settle.ocTrips = d.ocTrips := by rw [Dev.settle_rest]
@[simp] theorem Dev.settle_hnLast (d : Dev) : d.settle.hnLast = d.hnLast := by rw [Dev.settle_rest]
@[simp] theorem Dev.settle_loops (d : Dev) : d.settle.loops = d.loops := by rw [Dev.settle_rest]
@[simp] theorem Dev.settle_leBlocked (d : Dev) : d.settle.leBlocked = d.leBlocked := by rw [Dev.settle_rest]
@[simp] theorem Dev.settle_leMoving (d : Dev) : d.settle.leMoving = d.leMoving := by rw [Dev.settle_rest]
@[simp] theorem Dev.settle_leLoaded (d : Dev) : d.settle.leLoaded = d.leLoaded := by rw [Dev.settle_rest]
@[simp] theorem Dev.settle_le8Bad (d : Dev) : d.settle.le8Bad = d.le8Bad := by rw [Dev.settle_rest]
@[simp] theorem Dev.settle_trace (d : Dev) : d.settle.trace = d.trace := by rw [Dev.settle_rest]
@[simp] theorem Dev.settle_tracePost (d : Dev) : d.settle.tracePost = d.tracePost := by rw [Dev.settle_rest]
@[simp] theorem Dev.settle_traceLost (d : Dev) : d.settle.traceLost = d.traceLost := by rw [Dev.settle_rest]
@[simp] theorem Dev.settle_feeds (d : Dev) : d.settle.feeds = d.feeds := by rw [Dev.settle_rest]
@[simp] theorem Dev.settle_ctrs (d : Dev) : d.settle.ctrs = d.ctrs := by rw [Dev.settle_rest]
@[simp] theorem Dev.settle_link (d : Dev) : d.settle.link = d.link := by rw [Dev.settle_rest]
@[simp] theorem Dev.settle_grid (d : Dev) : d.settle.grid = d.grid := by rw [Dev.settle_rest]
@[simp] theorem Dev.settle_dabs (d : Dev) : d.settle.dabs = d.dabs := by rw [Dev.settle_rest]
@[simp] theorem Dev.settle_peers (d : Dev) : d.settle.peers = d.peers := by rw [Dev.settle_rest]
@[simp] theorem Dev.settle_ocHold (d : Dev) : d.settle.ocHold = d.ocHold := by rw [Dev.settle_rest]
@[simp] theorem Dev.settle_testing (d : Dev) : d.settle.testing = d.testing := by rw [Dev.settle_rest]
@[simp] theorem Dev.settle_riseTests (d : Dev) : d.settle.riseTests = d.riseTests := by rw [Dev.settle_rest]
@[simp] theorem Dev.settle_tested (d : Dev) : d.settle.tested = d.tested := by rw [Dev.settle_rest]
@[simp] theorem Dev.settle_driveLow (d : Dev) : d.settle.driveLow = d.driveLow := by rw [Dev.settle_rest]
@[simp] theorem Dev.settle_hbs (d : Dev) : d.settle.hbs = d.hbs := by rw [Dev.settle_rest]
@[simp] theorem Dev.settle_lvs (d : Dev) : d.settle.lvs = d.lvs := by rw [Dev.settle_rest]
@[simp] theorem Dev.settle_bldcs (d : Dev) : d.settle.bldcs = d.bldcs := by rw [Dev.settle_rest]
@[simp] theorem Dev.settle_vlvHigh (d : Dev) : d.settle.vlvHigh = d.vlvHigh := by rw [Dev.settle_rest]
@[simp] theorem Dev.settle_lvLimit (d : Dev) : d.settle.lvLimit = d.lvLimit := by rw [Dev.settle_rest]
@[simp] theorem Dev.settle_axes (d : Dev) : d.settle.axes = d.axes := by rw [Dev.settle_rest]
@[simp] theorem Dev.settle_moves (d : Dev) : d.settle.moves = d.moves := by rw [Dev.settle_rest]
@[simp] theorem Dev.settle_shift (d : Dev) : d.settle.shift = d.shift := by rw [Dev.settle_rest]
@[simp] theorem Dev.settle_ge (d : Dev) : d.settle.ge = d.ge := by rw [Dev.settle_rest]
@[simp] theorem Dev.settle_rows (d : Dev) : d.settle.rows = d.rows := by rw [Dev.settle_rest]
@[simp] theorem Dev.settle_nodes (d : Dev) : d.settle.nodes = d.nodes := by rw [Dev.settle_rest]
@[simp] theorem Dev.settle_chains (d : Dev) : d.settle.chains = d.chains := by rw [Dev.settle_rest]
@[simp] theorem Dev.settle_mbx (d : Dev) : d.settle.mbx = d.mbx := by rw [Dev.settle_rest]
@[simp] theorem Dev.settle_dead (d : Dev) : d.settle.dead = d.dead := by rw [Dev.settle_rest]
@[simp] theorem Dev.settle_sessions (d : Dev) : d.settle.sessions = d.sessions := by rw [Dev.settle_rest]
@[simp] theorem Dev.settle_wrongTags (d : Dev) : d.settle.wrongTags = d.wrongTags := by rw [Dev.settle_rest]
@[simp] theorem Dev.settle_barred (d : Dev) : d.settle.barred = d.barred := by rw [Dev.settle_rest]
@[simp] theorem Dev.settle_busOff (d : Dev) : d.settle.busOff = d.busOff := by rw [Dev.settle_rest]
@[simp] theorem Dev.settle_busOffAt (d : Dev) : d.settle.busOffAt = d.busOffAt := by rw [Dev.settle_rest]
@[simp] theorem Dev.settle_busSlow (d : Dev) : d.settle.busSlow = d.busSlow := by rw [Dev.settle_rest]
@[simp] theorem Dev.settle_claim (d : Dev) : d.settle.claim = d.claim := by rw [Dev.settle_rest]
@[simp] theorem Dev.settle_claimAddr (d : Dev) : d.settle.claimAddr = d.claimAddr := by rw [Dev.settle_rest]
@[simp] theorem Dev.settle_claimLast (d : Dev) : d.settle.claimLast = d.claimLast := by rw [Dev.settle_rest]
@[simp] theorem Dev.settle_ethSent (d : Dev) : d.settle.ethSent = d.ethSent := by rw [Dev.settle_rest]
@[simp] theorem Dev.settle_notes (d : Dev) : d.settle.notes = d.notes := by rw [Dev.settle_rest]
@[simp] theorem Dev.settle_pool (d : Dev) : d.settle.pool = d.pool := by rw [Dev.settle_rest]
@[simp] theorem Dev.settle_poolShown (d : Dev) : d.settle.poolShown = d.poolShown := by rw [Dev.settle_rest]
@[simp] theorem Dev.settle_couriers (d : Dev) : d.settle.couriers = d.couriers := by rw [Dev.settle_rest]
@[simp] theorem Dev.settle_sps (d : Dev) : d.settle.sps = d.sps := by rw [Dev.settle_rest]
@[simp] theorem Dev.settle_mems (d : Dev) : d.settle.mems = d.mems := by rw [Dev.settle_rest]
@[simp] theorem Dev.settle_mRecords (d : Dev) : d.settle.mRecords = d.mRecords := by rw [Dev.settle_rest]
@[simp] theorem Dev.settle_fuse (d : Dev) : d.settle.fuse = d.fuse := by rw [Dev.settle_rest]
@[simp] theorem Dev.settle_slotsAB (d : Dev) : d.settle.slotsAB = d.slotsAB := by rw [Dev.settle_rest]
@[simp] theorem Dev.settle_update (d : Dev) : d.settle.update = d.update := by rw [Dev.settle_rest]
@[simp] theorem Dev.settle_line (d : Dev) : d.settle.line = d.line := by rw [Dev.settle_rest]
@[simp] theorem Dev.settle_nonces (d : Dev) : d.settle.nonces = d.nonces := by rw [Dev.settle_rest]
@[simp] theorem Dev.settle_flashJobs (d : Dev) : d.settle.flashJobs = d.flashJobs := by rw [Dev.settle_rest]
@[simp] theorem Dev.settle_power (d : Dev) : d.settle.power = d.power := by rw [Dev.settle_rest]
@[simp] theorem Dev.settle_kept (d : Dev) : d.settle.kept = d.kept := by rw [Dev.settle_rest]
@[simp] theorem Dev.settle_nfLevel (d : Dev) : d.settle.nfLevel = d.nfLevel := by rw [Dev.settle_rest]
@[simp] theorem Dev.settle_nfSeen (d : Dev) : d.settle.nfSeen = d.nfSeen := by rw [Dev.settle_rest]
@[simp] theorem Dev.settle_nfPulse (d : Dev) : d.settle.nfPulse = d.nfPulse := by rw [Dev.settle_rest]
@[simp] theorem Dev.settle_hnLost (d : Dev) : d.settle.hnLost = d.hnLost := by rw [Dev.settle_rest]
@[simp] theorem Dev.settle_hnBad (d : Dev) : d.settle.hnBad = d.hnBad := by rw [Dev.settle_rest]
@[simp] theorem Dev.settle_hnCount (d : Dev) : d.settle.hnCount = d.hnCount := by rw [Dev.settle_rest]
@[simp] theorem Dev.settle_monitor (d : Dev) : d.settle.monitor = d.monitor := by rw [Dev.settle_rest]
@[simp] theorem Dev.settle_sar (d : Dev) : d.settle.sar = d.sar := by rw [Dev.settle_rest]
@[simp] theorem Dev.settle_sensors (d : Dev) : d.settle.sensors = d.sensors := by rw [Dev.settle_rest]
@[simp] theorem Dev.settle_die (d : Dev) : d.settle.die = d.die := by rw [Dev.settle_rest]
@[simp] theorem Dev.settle_pauses (d : Dev) : d.settle.pauses = d.pauses := by rw [Dev.settle_rest]
@[simp] theorem Dev.settle_crcInject (d : Dev) : d.settle.crcInject = d.crcInject := by rw [Dev.settle_rest]
@[simp] theorem Dev.settle_limited (d : Dev) : d.settle.limited = d.limited := by rw [Dev.settle_rest]
@[simp] theorem Dev.settle_j9 (d : Dev) : d.settle.j9 = d.j9 := by rw [Dev.settle_rest]
@[simp] theorem Dev.settle_reply (d : Dev) : d.settle.reply = d.reply := by rw [Dev.settle_rest]
@[simp] theorem Dev.settle_hsp (d : Dev) : d.settle.hsp = d.hsp := by rw [Dev.settle_rest]

/-- The status objects lie in the seven indices 1700, 2000, 2010, 2200, 2310, 2540 and 3100. -/
theorem isStatus_false {k : Nat} (h : ∀ i ∈ [0x1700, 0x2000, 0x2010, 0x2200, 0x2310, 0x2540, 0x3100], k / 256 ≠ i) : isStatus k = false := by
  simp only [List.mem_cons, List.not_mem_nil, or_false, forall_eq_or_imp, forall_eq] at h
  simp only [isStatus, Obj.SERVICE_LEVEL, Obj.SAFE_STATE, Obj.FAULTS_ACTIVE, Obj.DOMAIN_STATE, Obj.NFAULT_LEVEL, Obj.PIN, Obj.ACTIVE, Obj.POOL_USED,
    Obj.POOL_FREE, Obj.LE8_HOSTS_2540, Obj.ENGINE_MOVES, Obj.PIGEONHOLES_USED_2540, Obj.WORDS_PERM_POISONED, Obj.OTP_SPARES_CONSUMED,
    Obj.SPARE_CHANNELS_USED, Obj.SLOTS_IN_USE, Obj.USER_SLOTS_IN_USE, Bool.or_eq_false_iff, beq_eq_false_iff_ne, Bool.and_eq_false_iff,
    decide_eq_false_iff_not]
  omega

/-- The two trace counts lie in index C100. -/
theorem isTraceCount_false {k : Nat} (h : k / 256 ≠ 0xC100) : isTraceCount k = false := by
  simp only [isTraceCount, Obj.RECORDS_WRITTEN, Obj.RECORDS_LOST, Bool.or_eq_false_iff, beq_eq_false_iff_ne]
  omega

/-- No other object changes. -/
theorem Dev.o_settle (d : Dev) {k : Nat} (h : isStatus k = false) : d.settle.o k = d.o k := by
  simp only [isStatus, Bool.or_eq_false_iff, beq_eq_false_iff_ne, Bool.and_eq_false_iff, decide_eq_false_iff_not] at h
  obtain ⟨⟨⟨⟨⟨⟨⟨⟨⟨⟨⟨⟨⟨⟨⟨⟨h1, h2⟩, h3⟩, h4⟩, h5⟩, h6⟩, h7⟩, h8⟩, h9⟩, h10⟩, h11⟩, h12⟩, h13⟩, h14⟩, h15⟩, h16⟩, h17⟩ := h
  have pin (e : Dev) : e.settlePin.o k = e.o k := by
    unfold Dev.settlePin; split
    · rfl
    · simp only [Dev.setB]; rw [Dev.o_setO_other _ _ h6, Dev.o_setO_other _ _ h5]
  have dom : ¬ (Obj.DOMAIN_STATE ≤ k ∧ k < Obj.DOMAIN_STATE + 9) := by omega
  have act : ¬ (Obj.ACTIVE ≤ k ∧ k < Obj.ACTIVE + 64) := by omega
  unfold Dev.settle Dev.settleStates Dev.settleActive Dev.settleCounts Dev.settlePool
  rw [Dev.o_setO_other _ _ h1, Dev.o_setO_other _ _ h3, Dev.o_setO_other _ _ h2, Dev.o_setList, if_neg dom, Dev.o_setList, if_neg act, pin,
    Dev.o_setO_other _ _ h17, Dev.o_setO_other _ _ h16, Dev.o_setO_other _ _ h15, Dev.o_setO_other _ _ h14, Dev.o_setO_other _ _ h13,
    Dev.o_setO_other _ _ h12, Dev.o_setO_other _ _ h11, Dev.o_setO_other _ _ h10, Dev.o_setO_other _ _ h9, Dev.o_setO_other _ _ h8]

/-! ### Bits of an object -/

/-- A bit as the core library's test. -/
theorem bitOf_eq (x : Int) (i : Nat) : bitOf x i = x.toNat.testBit i := by
  simp only [bitOf, Nat.testBit, Nat.and_comm 1, Nat.and_one_is_mod]
  cases Nat.mod_two_eq_zero_or_one (x.toNat >>> i) with
  | inl h => simp [h]
  | inr h => simp [h]

/-- Taking away a set bit clears it and no other. -/
theorem testBit_clear {n i : Nat} (h : n.testBit i = true) (j : Nat) : (n - 2 ^ i).testBit j = (n.testBit j && decide (j ≠ i)) := by
  have hd := Nat.div_add_mod n (2 ^ i)
  have hr := Nat.mod_lt n (Nat.two_pow_pos i)
  generalize n / 2 ^ i = q at *
  generalize n % 2 ^ i = r at *
  subst hd
  rw [Nat.testBit_two_pow_mul_add q hr i, if_neg (Nat.lt_irrefl i), Nat.sub_self, Nat.testBit_zero, decide_eq_true_eq] at h
  have hq : 1 ≤ q := by omega
  have e : 2 ^ i * q + r - 2 ^ i = 2 ^ i * (q - 1) + r := by
    obtain ⟨p, rfl⟩ : ∃ p, q = p + 1 := ⟨q - 1, by omega⟩
    rw [Nat.mul_add]; simp; omega
  rw [e, Nat.testBit_two_pow_mul_add _ hr, Nat.testBit_two_pow_mul_add _ hr]
  by_cases h1 : j < i
  · have : j ≠ i := by omega
    simp [h1, this]
  · by_cases h2 : j = i
    · subst h2; simp; omega
    · obtain ⟨k, hk⟩ : ∃ k, j - i = k + 1 := ⟨j - i - 1, by omega⟩
      rw [if_neg h1, if_neg h1, hk, Nat.testBit_succ, Nat.testBit_succ]
      have : (q - 1) / 2 = q / 2 := by omega
      simp [this, h2]

/-- A bit set or cleared reads so. -/
theorem bitOf_putBit_same (x : Int) (i : Nat) (b : Bool) : bitOf (putBit x i b) i = b := by
  cases b
  · cases h : bitOf x i
    · simp [putBit, h]
    · have h' := h
      rw [bitOf_eq] at h'
      have e : (x - ((1 <<< i : Nat) : Int)).toNat = x.toNat - 2 ^ i := by
        rw [Nat.one_shiftLeft]
        generalize 2 ^ i = p
        omega
      simp only [putBit, h, if_true, Bool.false_eq_true, if_false]
      rw [bitOf_eq, e, testBit_clear h']; simp
  · simp only [putBit, if_true]
    rw [bitOf_eq, Int.toNat_natCast, Nat.testBit_or, Nat.one_shiftLeft, Nat.testBit_two_pow_self]; simp

/-- Every other bit reads as before. -/
theorem bitOf_putBit_other (x : Int) {i j : Nat} (b : Bool) (h : j ≠ i) : bitOf (putBit x i b) j = bitOf x j := by
  cases b
  · cases h1 : bitOf x i
    · simp [putBit, h1]
    · have h' := h1
      rw [bitOf_eq] at h'
      have e : (x - ((1 <<< i : Nat) : Int)).toNat = x.toNat - 2 ^ i := by
        rw [Nat.one_shiftLeft]
        generalize 2 ^ i = p
        omega
      simp only [putBit, h1, if_true, Bool.false_eq_true, if_false]
      rw [bitOf_eq, e, testBit_clear h', bitOf_eq]; simp [h]
  · simp only [putBit, if_true]
    rw [bitOf_eq, Int.toNat_natCast, Nat.testBit_or, Nat.one_shiftLeft, bitOf_eq, Nat.testBit_two_pow_of_ne (Ne.symm h)]; simp

end Sys2Proof.Machine
end

