-- ==== Sys2Proof/Laws/Events.lean ====
section
/-! SUPPORT. What an event and what a raised fault can change, once: an event the queue of the sorting office and the trace, a fault also the
collector and what its Domain-stop or Safe-state stops. -/

namespace Sys2Proof.Machine

/-! ### Events (R507) -/

theorem mem_insertOnce {x n : Nat} {l : List Nat} : x ∈ insertOnce n l ↔ x = n ∨ x ∈ l := by
  induction l with
  | nil => simp [insertOnce]
  | cons m t ih =>
    unfold insertOnce
    split
    · rename_i h; subst h; simp
    · split
      · simp
      · simp only [List.mem_cons, ih, or_left_comm]


theorem Dev.ShowsOnly.refl (d : Dev) : d.ShowsOnly d := ⟨⟨⟨d.obj, d.evq, d.trace, d.tracePost, d.traceLost⟩, rfl⟩, fun _ h => h⟩

theorem Dev.ShowsOnly.trans {a b c : Dev} (h1 : a.ShowsOnly b) (h2 : b.ShowsOnly c) : a.ShowsOnly c := by
  obtain ⟨⟨p, rfl⟩, m1⟩ := h1
  obtain ⟨⟨q, rfl⟩, m2⟩ := h2
  exact ⟨⟨q, rfl⟩, fun x h => m2 x (m1 x h)⟩

theorem Dev.showsOnly_setO (d : Dev) (k : Nat) (v : Int) : d.ShowsOnly (d.setO k v) := ⟨⟨⟨_, d.evq, d.trace, d.tracePost, d.traceLost⟩, rfl⟩, fun _ h => h⟩

theorem Dev.showsOnly_when (c : Bool) {f : Dev → Dev} (d : Dev) (h : ∀ d : Dev, d.ShowsOnly (f d)) : d.ShowsOnly (d.when c f) := by
  cases c
  · exact .refl d
  · exact h d

theorem Dev.showsOnly_traceAdd (d : Dev) (a b c : Nat) (v : Int) (p : Bool) : d.ShowsOnly (d.traceAdd a b c v p) := by
  unfold Dev.traceAdd
  simp only []
  split
  · exact .refl d
  · refine Dev.ShowsOnly.trans ?_ (Dev.showsOnly_when _ _ (fun d => Dev.showsOnly_setO d ..))
    exact ⟨⟨⟨_, d.evq, _, _, _⟩, rfl⟩, fun _ h => h⟩

theorem Dev.showsOnly_event (d : Dev) (e : Nat) : d.ShowsOnly (d.event e) := by
  unfold Dev.event Dev.when
  have h : d.ShowsOnly { d with evq := insertOnce (d.wall * 256 + e) d.evq } :=
    ⟨⟨⟨d.obj, _, d.trace, d.tracePost, d.traceLost⟩, rfl⟩, fun x hx => mem_insertOnce.2 (.inr hx)⟩
  split
  · exact h.trans (Dev.showsOnly_traceAdd ..)
  · exact h

/-- A raised event waits for the sorting office. -/
theorem Dev.raised_event (d : Dev) (e : Nat) : (d.event e).raised e := by
  have h0 : d.wall * 256 + e ∈ insertOnce (d.wall * 256 + e) d.evq := mem_insertOnce.2 (.inl rfl)
  unfold Dev.raised Dev.event Dev.when
  split
  · obtain ⟨⟨p, hp⟩, m⟩ := Dev.showsOnly_traceAdd { d with evq := insertOnce (d.wall * 256 + e) d.evq } (eventSource e) 2 e 0 false
    have hw := congrArg Dev.wall hp
    rw [hw]; exact m _ h0
  · exact h0

/-- Objects but the two trace counts read as before an event. -/
theorem Dev.o_traceAdd (d : Dev) (a b c : Nat) (v : Int) (p : Bool) {k : Nat} (h : isTraceCount k = false) : (d.traceAdd a b c v p).o k = d.o k := by
  simp only [isTraceCount, Bool.or_eq_false_iff, beq_eq_false_iff_ne] at h
  unfold Dev.traceAdd
  simp only []
  split
  · rfl
  · unfold Dev.when; split
    · simp only [Dev.addSat, Dev.addWrap]; rw [Dev.o_setO_other _ _ h.2, Dev.o_setO_other _ _ h.1]; rfl
    · simp only [Dev.addWrap]; rw [Dev.o_setO_other _ _ h.1]; rfl

theorem Dev.o_event (d : Dev) (e : Nat) {k : Nat} (h : isTraceCount k = false) : (d.event e).o k = d.o k := by
  unfold Dev.event Dev.when
  split
  · rw [Dev.o_traceAdd _ _ _ _ _ _ h]; rfl
  · rfl

theorem Dev.ShowsOnly.wall {d e : Dev} (h : d.ShowsOnly e) : e.wall = d.wall := by obtain ⟨⟨p, rfl⟩, -⟩ := h; rfl
theorem Dev.ShowsOnly.free {d e : Dev} (h : d.ShowsOnly e) : e.free = d.free := by obtain ⟨⟨p, rfl⟩, -⟩ := h; rfl
theorem Dev.ShowsOnly.blk {d e : Dev} (h : d.ShowsOnly e) : e.blk = d.blk := by obtain ⟨⟨p, rfl⟩, -⟩ := h; rfl
theorem Dev.ShowsOnly.poison {d e : Dev} (h : d.ShowsOnly e) : e.poison = d.poison := by obtain ⟨⟨p, rfl⟩, -⟩ := h; rfl
theorem Dev.ShowsOnly.writes {d e : Dev} (h : d.ShowsOnly e) : e.writes = d.writes := by obtain ⟨⟨p, rfl⟩, -⟩ := h; rfl
theorem Dev.ShowsOnly.result {d e : Dev} (h : d.ShowsOnly e) : e.result = d.result := by obtain ⟨⟨p, rfl⟩, -⟩ := h; rfl
theorem Dev.ShowsOnly.data {d e : Dev} (h : d.ShowsOnly e) : e.data = d.data := by obtain ⟨⟨p, rfl⟩, -⟩ := h; rfl
theorem Dev.ShowsOnly.coll {d e : Dev} (h : d.ShowsOnly e) : e.coll = d.coll := by obtain ⟨⟨p, rfl⟩, -⟩ := h; rfl
theorem Dev.ShowsOnly.phase {d e : Dev} (h : d.ShowsOnly e) : e.phase = d.phase := by obtain ⟨⟨p, rfl⟩, -⟩ := h; rfl
theorem Dev.ShowsOnly.resetPending {d e : Dev} (h : d.ShowsOnly e) : e.resetPending = d.resetPending := by obtain ⟨⟨p, rfl⟩, -⟩ := h; rfl
theorem Dev.ShowsOnly.tracks {d e : Dev} (h : d.ShowsOnly e) : e.tracks = d.tracks := by obtain ⟨⟨p, rfl⟩, -⟩ := h; rfl
theorem Dev.ShowsOnly.slots {d e : Dev} (h : d.ShowsOnly e) : e.slots = d.slots := by obtain ⟨⟨p, rfl⟩, -⟩ := h; rfl
theorem Dev.ShowsOnly.ssi {d e : Dev} (h : d.ShowsOnly e) : e.ssi = d.ssi := by obtain ⟨⟨p, rfl⟩, -⟩ := h; rfl
theorem Dev.ShowsOnly.inc {d e : Dev} (h : d.ShowsOnly e) : e.inc = d.inc := by obtain ⟨⟨p, rfl⟩, -⟩ := h; rfl
theorem Dev.ShowsOnly.hall {d e : Dev} (h : d.ShowsOnly e) : e.hall = d.hall := by obtain ⟨⟨p, rfl⟩, -⟩ := h; rfl
theorem Dev.ShowsOnly.pulse {d e : Dev} (h : d.ShowsOnly e) : e.pulse = d.pulse := by obtain ⟨⟨p, rfl⟩, -⟩ := h; rfl
theorem Dev.ShowsOnly.probes {d e : Dev} (h : d.ShowsOnly e) : e.probes = d.probes := by obtain ⟨⟨p, rfl⟩, -⟩ := h; rfl
theorem Dev.ShowsOnly.source {d e : Dev} (h : d.ShowsOnly e) : e.source = d.source := by obtain ⟨⟨p, rfl⟩, -⟩ := h; rfl
theorem Dev.ShowsOnly.imuFailed {d e : Dev} (h : d.ShowsOnly e) : e.imuFailed = d.imuFailed := by obtain ⟨⟨p, rfl⟩, -⟩ := h; rfl
theorem Dev.ShowsOnly.trac {d e : Dev} (h : d.ShowsOnly e) : e.trac = d.trac := by obtain ⟨⟨p, rfl⟩, -⟩ := h; rfl
theorem Dev.ShowsOnly.gates {d e : Dev} (h : d.ShowsOnly e) : e.gates = d.gates := by obtain ⟨⟨p, rfl⟩, -⟩ := h; rfl
theorem Dev.ShowsOnly.tier3 {d e : Dev} (h : d.ShowsOnly e) : e.tier3 = d.tier3 := by obtain ⟨⟨p, rfl⟩, -⟩ := h; rfl
theorem Dev.ShowsOnly.tier4 {d e : Dev} (h : d.ShowsOnly e) : e.tier4 = d.tier4 := by obtain ⟨⟨p, rfl⟩, -⟩ := h; rfl
theorem Dev.ShowsOnly.openRequest {d e : Dev} (h : d.ShowsOnly e) : e.openRequest = d.openRequest := by obtain ⟨⟨p, rfl⟩, -⟩ := h; rfl
theorem Dev.ShowsOnly.ocTrips {d e : Dev} (h : d.ShowsOnly e) : e.ocTrips = d.ocTrips := by obtain ⟨⟨p, rfl⟩, -⟩ := h; rfl
theorem Dev.ShowsOnly.hnLast {d e : Dev} (h : d.ShowsOnly e) : e.hnLast = d.hnLast := by obtain ⟨⟨p, rfl⟩, -⟩ := h; rfl
theorem Dev.ShowsOnly.loops {d e : Dev} (h : d.ShowsOnly e) : e.loops = d.loops := by obtain ⟨⟨p, rfl⟩, -⟩ := h; rfl
theorem Dev.ShowsOnly.leBlocked {d e : Dev} (h : d.ShowsOnly e) : e.leBlocked = d.leBlocked := by obtain ⟨⟨p, rfl⟩, -⟩ := h; rfl
theorem Dev.ShowsOnly.leMoving {d e : Dev} (h : d.ShowsOnly e) : e.leMoving = d.leMoving := by obtain ⟨⟨p, rfl⟩, -⟩ := h; rfl
theorem Dev.ShowsOnly.leLoaded {d e : Dev} (h : d.ShowsOnly e) : e.leLoaded = d.leLoaded := by obtain ⟨⟨p, rfl⟩, -⟩ := h; rfl
theorem Dev.ShowsOnly.le8Bad {d e : Dev} (h : d.ShowsOnly e) : e.le8Bad = d.le8Bad := by obtain ⟨⟨p, rfl⟩, -⟩ := h; rfl
theorem Dev.ShowsOnly.feeds {d e : Dev} (h : d.ShowsOnly e) : e.feeds = d.feeds := by obtain ⟨⟨p, rfl⟩, -⟩ := h; rfl
theorem Dev.ShowsOnly.ctrs {d e : Dev} (h : d.ShowsOnly e) : e.ctrs = d.ctrs := by obtain ⟨⟨p, rfl⟩, -⟩ := h; rfl
theorem Dev.ShowsOnly.link {d e : Dev} (h : d.ShowsOnly e) : e.link = d.link := by obtain ⟨⟨p, rfl⟩, -⟩ := h; rfl
theorem Dev.ShowsOnly.grid {d e : Dev} (h : d.ShowsOnly e) : e.grid = d.grid := by obtain ⟨⟨p, rfl⟩, -⟩ := h; rfl
theorem Dev.ShowsOnly.dabs {d e : Dev} (h : d.ShowsOnly e) : e.dabs = d.dabs := by obtain ⟨⟨p, rfl⟩, -⟩ := h; rfl
theorem Dev.ShowsOnly.peers {d e : Dev} (h : d.ShowsOnly e) : e.peers = d.peers := by obtain ⟨⟨p, rfl⟩, -⟩ := h; rfl
theorem Dev.ShowsOnly.ocHold {d e : Dev} (h : d.ShowsOnly e) : e.ocHold = d.ocHold := by obtain ⟨⟨p, rfl⟩, -⟩ := h; rfl
theorem Dev.ShowsOnly.testing {d e : Dev} (h : d.ShowsOnly e) : e.testing = d.testing := by obtain ⟨⟨p, rfl⟩, -⟩ := h; rfl
theorem Dev.ShowsOnly.riseTests {d e : Dev} (h : d.ShowsOnly e) : e.riseTests = d.riseTests := by obtain ⟨⟨p, rfl⟩, -⟩ := h; rfl
theorem Dev.ShowsOnly.tested {d e : Dev} (h : d.ShowsOnly e) : e.tested = d.tested := by obtain ⟨⟨p, rfl⟩, -⟩ := h; rfl
theorem Dev.ShowsOnly.driveLow {d e : Dev} (h : d.ShowsOnly e) : e.driveLow = d.driveLow := by obtain ⟨⟨p, rfl⟩, -⟩ := h; rfl
theorem Dev.ShowsOnly.hbs {d e : Dev} (h : d.ShowsOnly e) : e.hbs = d.hbs := by obtain ⟨⟨p, rfl⟩, -⟩ := h; rfl
theorem Dev.ShowsOnly.lvs {d e : Dev} (h : d.ShowsOnly e) : e.lvs = d.lvs := by obtain ⟨⟨p, rfl⟩, -⟩ := h; rfl
theorem Dev.ShowsOnly.bldcs {d e : Dev} (h : d.ShowsOnly e) : e.bldcs = d.bldcs := by obtain ⟨⟨p, rfl⟩, -⟩ := h; rfl
theorem Dev.ShowsOnly.vlvHigh {d e : Dev} (h : d.ShowsOnly e) : e.vlvHigh = d.vlvHigh := by obtain ⟨⟨p, rfl⟩, -⟩ := h; rfl
theorem Dev.ShowsOnly.lvLimit {d e : Dev} (h : d.ShowsOnly e) : e.lvLimit = d.lvLimit := by obtain ⟨⟨p, rfl⟩, -⟩ := h; rfl
theorem Dev.ShowsOnly.axes {d e : Dev} (h : d.ShowsOnly e) : e.axes = d.axes := by obtain ⟨⟨p, rfl⟩, -⟩ := h; rfl
theorem Dev.ShowsOnly.moves {d e : Dev} (h : d.ShowsOnly e) : e.moves = d.moves := by obtain ⟨⟨p, rfl⟩, -⟩ := h; rfl
theorem Dev.ShowsOnly.shift {d e : Dev} (h : d.ShowsOnly e) : e.shift = d.shift := by obtain ⟨⟨p, rfl⟩, -⟩ := h; rfl
theorem Dev.ShowsOnly.ge {d e : Dev} (h : d.ShowsOnly e) : e.ge = d.ge := by obtain ⟨⟨p, rfl⟩, -⟩ := h; rfl
theorem Dev.ShowsOnly.rows {d e : Dev} (h : d.ShowsOnly e) : e.rows = d.rows := by obtain ⟨⟨p, rfl⟩, -⟩ := h; rfl
theorem Dev.ShowsOnly.nodes {d e : Dev} (h : d.ShowsOnly e) : e.nodes = d.nodes := by obtain ⟨⟨p, rfl⟩, -⟩ := h; rfl
theorem Dev.ShowsOnly.chains {d e : Dev} (h : d.ShowsOnly e) : e.chains = d.chains := by obtain ⟨⟨p, rfl⟩, -⟩ := h; rfl
theorem Dev.ShowsOnly.mbx {d e : Dev} (h : d.ShowsOnly e) : e.mbx = d.mbx := by obtain ⟨⟨p, rfl⟩, -⟩ := h; rfl
theorem Dev.ShowsOnly.dead {d e : Dev} (h : d.ShowsOnly e) : e.dead = d.dead := by obtain ⟨⟨p, rfl⟩, -⟩ := h; rfl
theorem Dev.ShowsOnly.sessions {d e : Dev} (h : d.ShowsOnly e) : e.sessions = d.sessions := by obtain ⟨⟨p, rfl⟩, -⟩ := h; rfl
theorem Dev.ShowsOnly.wrongTags {d e : Dev} (h : d.ShowsOnly e) : e.wrongTags = d.wrongTags := by obtain ⟨⟨p, rfl⟩, -⟩ := h; rfl
theorem Dev.ShowsOnly.barred {d e : Dev} (h : d.ShowsOnly e) : e.barred = d.barred := by obtain ⟨⟨p, rfl⟩, -⟩ := h; rfl
theorem Dev.ShowsOnly.busOff {d e : Dev} (h : d.ShowsOnly e) : e.busOff = d.busOff := by obtain ⟨⟨p, rfl⟩, -⟩ := h; rfl
theorem Dev.ShowsOnly.busOffAt {d e : Dev} (h : d.ShowsOnly e) : e.busOffAt = d.busOffAt := by obtain ⟨⟨p, rfl⟩, -⟩ := h; rfl
theorem Dev.ShowsOnly.busSlow {d e : Dev} (h : d.ShowsOnly e) : e.busSlow = d.busSlow := by obtain ⟨⟨p, rfl⟩, -⟩ := h; rfl
theorem Dev.ShowsOnly.claim {d e : Dev} (h : d.ShowsOnly e) : e.claim = d.claim := by obtain ⟨⟨p, rfl⟩, -⟩ := h; rfl
theorem Dev.ShowsOnly.claimAddr {d e : Dev} (h : d.ShowsOnly e) : e.claimAddr = d.claimAddr := by obtain ⟨⟨p, rfl⟩, -⟩ := h; rfl
theorem Dev.ShowsOnly.claimLast {d e : Dev} (h : d.ShowsOnly e) : e.claimLast = d.claimLast := by obtain ⟨⟨p, rfl⟩, -⟩ := h; rfl
theorem Dev.ShowsOnly.ethSent {d e : Dev} (h : d.ShowsOnly e) : e.ethSent = d.ethSent := by obtain ⟨⟨p, rfl⟩, -⟩ := h; rfl
theorem Dev.ShowsOnly.notes {d e : Dev} (h : d.ShowsOnly e) : e.notes = d.notes := by obtain ⟨⟨p, rfl⟩, -⟩ := h; rfl
theorem Dev.ShowsOnly.pool {d e : Dev} (h : d.ShowsOnly e) : e.pool = d.pool := by obtain ⟨⟨p, rfl⟩, -⟩ := h; rfl
theorem Dev.ShowsOnly.poolShown {d e : Dev} (h : d.ShowsOnly e) : e.poolShown = d.poolShown := by obtain ⟨⟨p, rfl⟩, -⟩ := h; rfl
theorem Dev.ShowsOnly.couriers {d e : Dev} (h : d.ShowsOnly e) : e.couriers = d.couriers := by obtain ⟨⟨p, rfl⟩, -⟩ := h; rfl
theorem Dev.ShowsOnly.sps {d e : Dev} (h : d.ShowsOnly e) : e.sps = d.sps := by obtain ⟨⟨p, rfl⟩, -⟩ := h; rfl
theorem Dev.ShowsOnly.mems {d e : Dev} (h : d.ShowsOnly e) : e.mems = d.mems := by obtain ⟨⟨p, rfl⟩, -⟩ := h; rfl
theorem Dev.ShowsOnly.mRecords {d e : Dev} (h : d.ShowsOnly e) : e.mRecords = d.mRecords := by obtain ⟨⟨p, rfl⟩, -⟩ := h; rfl
theorem Dev.ShowsOnly.fuse {d e : Dev} (h : d.ShowsOnly e) : e.fuse = d.fuse := by obtain ⟨⟨p, rfl⟩, -⟩ := h; rfl
theorem Dev.ShowsOnly.slotsAB {d e : Dev} (h : d.ShowsOnly e) : e.slotsAB = d.slotsAB := by obtain ⟨⟨p, rfl⟩, -⟩ := h; rfl
theorem Dev.ShowsOnly.update {d e : Dev} (h : d.ShowsOnly e) : e.update = d.update := by obtain ⟨⟨p, rfl⟩, -⟩ := h; rfl
theorem Dev.ShowsOnly.line {d e : Dev} (h : d.ShowsOnly e) : e.line = d.line := by obtain ⟨⟨p, rfl⟩, -⟩ := h; rfl
theorem Dev.ShowsOnly.nonces {d e : Dev} (h : d.ShowsOnly e) : e.nonces = d.nonces := by obtain ⟨⟨p, rfl⟩, -⟩ := h; rfl
theorem Dev.ShowsOnly.flashJobs {d e : Dev} (h : d.ShowsOnly e) : e.flashJobs = d.flashJobs := by obtain ⟨⟨p, rfl⟩, -⟩ := h; rfl
theorem Dev.ShowsOnly.power {d e : Dev} (h : d.ShowsOnly e) : e.power = d.power := by obtain ⟨⟨p, rfl⟩, -⟩ := h; rfl
theorem Dev.ShowsOnly.kept {d e : Dev} (h : d.ShowsOnly e) : e.kept = d.kept := by obtain ⟨⟨p, rfl⟩, -⟩ := h; rfl
theorem Dev.ShowsOnly.nfLevel {d e : Dev} (h : d.ShowsOnly e) : e.nfLevel = d.nfLevel := by obtain ⟨⟨p, rfl⟩, -⟩ := h; rfl
theorem Dev.ShowsOnly.nfSeen {d e : Dev} (h : d.ShowsOnly e) : e.nfSeen = d.nfSeen := by obtain ⟨⟨p, rfl⟩, -⟩ := h; rfl
theorem Dev.ShowsOnly.nfPulse {d e : Dev} (h : d.ShowsOnly e) : e.nfPulse = d.nfPulse := by obtain ⟨⟨p, rfl⟩, -⟩ := h; rfl
theorem Dev.ShowsOnly.hnLost {d e : Dev} (h : d.ShowsOnly e) : e.hnLost = d.hnLost := by obtain ⟨⟨p, rfl⟩, -⟩ := h; rfl
theorem Dev.ShowsOnly.hnBad {d e : Dev} (h : d.ShowsOnly e) : e.hnBad = d.hnBad := by obtain ⟨⟨p, rfl⟩, -⟩ := h; rfl
theorem Dev.ShowsOnly.hnCount {d e : Dev} (h : d.ShowsOnly e) : e.hnCount = d.hnCount := by obtain ⟨⟨p, rfl⟩, -⟩ := h; rfl
theorem Dev.ShowsOnly.monitor {d e : Dev} (h : d.ShowsOnly e) : e.monitor = d.monitor := by obtain ⟨⟨p, rfl⟩, -⟩ := h; rfl
theorem Dev.ShowsOnly.sar {d e : Dev} (h : d.ShowsOnly e) : e.sar = d.sar := by obtain ⟨⟨p, rfl⟩, -⟩ := h; rfl
theorem Dev.ShowsOnly.sensors {d e : Dev} (h : d.ShowsOnly e) : e.sensors = d.sensors := by obtain ⟨⟨p, rfl⟩, -⟩ := h; rfl
theorem Dev.ShowsOnly.die {d e : Dev} (h : d.ShowsOnly e) : e.die = d.die := by obtain ⟨⟨p, rfl⟩, -⟩ := h; rfl
theorem Dev.ShowsOnly.pauses {d e : Dev} (h : d.ShowsOnly e) : e.pauses = d.pauses := by obtain ⟨⟨p, rfl⟩, -⟩ := h; rfl
theorem Dev.ShowsOnly.crcInject {d e : Dev} (h : d.ShowsOnly e) : e.crcInject = d.crcInject := by obtain ⟨⟨p, rfl⟩, -⟩ := h; rfl
theorem Dev.ShowsOnly.limited {d e : Dev} (h : d.ShowsOnly e) : e.limited = d.limited := by obtain ⟨⟨p, rfl⟩, -⟩ := h; rfl
theorem Dev.ShowsOnly.j9 {d e : Dev} (h : d.ShowsOnly e) : e.j9 = d.j9 := by obtain ⟨⟨p, rfl⟩, -⟩ := h; rfl
theorem Dev.ShowsOnly.reply {d e : Dev} (h : d.ShowsOnly e) : e.reply = d.reply := by obtain ⟨⟨p, rfl⟩, -⟩ := h; rfl
theorem Dev.ShowsOnly.hsp {d e : Dev} (h : d.ShowsOnly e) : e.hsp = d.hsp := by obtain ⟨⟨p, rfl⟩, -⟩ := h; rfl

@[simp] theorem Dev.event_wall (d : Dev) (x : Nat) : (d.event x).wall = d.wall := (d.showsOnly_event x).wall
@[simp] theorem Dev.event_free (d : Dev) (x : Nat) : (d.event x).free = d.free := (d.showsOnly_event x).free
@[simp] theorem Dev.event_blk (d : Dev) (x : Nat) : (d.event x).blk = d.blk := (d.showsOnly_event x).blk
@[simp] theorem Dev.event_poison (d : Dev) (x : Nat) : (d.event x).poison = d.poison := (d.showsOnly_event x).poison
@[simp] theorem Dev.event_writes (d : Dev) (x : Nat) : (d.event x).writes = d.writes := (d.showsOnly_event x).writes
@[simp] theorem Dev.event_result (d : Dev) (x : Nat) : (d.event x).result = d.result := (d.showsOnly_event x).result
@[simp] theorem Dev.event_data (d : Dev) (x : Nat) : (d.event x).data = d.data := (d.showsOnly_event x).data
@[simp] theorem Dev.event_coll (d : Dev) (x : Nat) : (d.event x).coll = d.coll := (d.showsOnly_event x).coll
@[simp] theorem Dev.event_phase (d : Dev) (x : Nat) : (d.event x).phase = d.phase := (d.showsOnly_event x).phase
@[simp] theorem Dev.event_resetPending (d : Dev) (x : Nat) : (d.event x).resetPending = d.resetPending := (d.showsOnly_event x).resetPending
@[simp] theorem Dev.event_tracks (d : Dev) (x : Nat) : (d.event x).tracks = d.tracks := (d.showsOnly_event x).tracks
@[simp] theorem Dev.event_slots (d : Dev) (x : Nat) : (d.event x).slots = d.slots := (d.showsOnly_event x).slots
@[simp] theorem Dev.event_ssi (d : Dev) (x : Nat) : (d.event x).ssi = d.ssi := (d.showsOnly_event x).ssi
@[simp] theorem Dev.event_inc (d : Dev) (x : Nat) : (d.event x).inc = d.inc := (d.showsOnly_event x).inc
@[simp] theorem Dev.event_hall (d : Dev) (x : Nat) : (d.event x).hall = d.hall := (d.showsOnly_event x).hall
@[simp] theorem Dev.event_pulse (d : Dev) (x : Nat) : (d.event x).pulse = d.pulse := (d.showsOnly_event x).pulse
@[simp] theorem Dev.event_probes (d : Dev) (x : Nat) : (d.event x).probes = d.probes := (d.showsOnly_event x).probes
@[simp] theorem Dev.event_source (d : Dev) (x : Nat) : (d.event x).source = d.source := (d.showsOnly_event x).source
@[simp] theorem Dev.event_imuFailed (d : Dev) (x : Nat) : (d.event x).imuFailed = d.imuFailed := (d.showsOnly_event x).imuFailed
@[simp] theorem Dev.event_trac (d : Dev) (x : Nat) : (d.event x).trac = d.trac := (d.showsOnly_event x).trac
@[simp] theorem Dev.event_gates (d : Dev) (x : Nat) : (d.event x).gates = d.gates := (d.showsOnly_event x).gates
@[simp] theorem Dev.event_tier3 (d : Dev) (x : Nat) : (d.event x).tier3 = d.tier3 := (d.showsOnly_event x).tier3
@[simp] theorem Dev.event_tier4 (d : Dev) (x : Nat) : (d.event x).tier4 = d.tier4 := (d.showsOnly_event x).tier4
@[simp] theorem Dev.event_openRequest (d : Dev) (x : Nat) : (d.event x).openRequest = d.openRequest := (d.showsOnly_event x).openRequest
@[simp] theorem Dev.event_ocTrips (d : Dev) (x : Nat) : (d.event x).ocTrips = d.ocTrips := (d.showsOnly_event x).ocTrips
@[simp] theorem Dev.event_hnLast (d : Dev) (x : Nat) : (d.event x).hnLast = d.hnLast := (d.showsOnly_event x).hnLast
@[simp] theorem Dev.event_loops (d : Dev) (x : Nat) : (d.event x).loops = d.loops := (d.showsOnly_event x).loops
@[simp] theorem Dev.event_leBlocked (d : Dev) (x : Nat) : (d.event x).leBlocked = d.leBlocked := (d.showsOnly_event x).leBlocked
@[simp] theorem Dev.event_leMoving (d : Dev) (x : Nat) : (d.event x).leMoving = d.leMoving := (d.showsOnly_event x).leMoving
@[simp] theorem Dev.event_leLoaded (d : Dev) (x : Nat) : (d.event x).leLoaded = d.leLoaded := (d.showsOnly_event x).leLoaded
@[simp] theorem Dev.event_le8Bad (d : Dev) (x : Nat) : (d.event x).le8Bad = d.le8Bad := (d.showsOnly_event x).le8Bad
@[simp] theorem Dev.event_feeds (d : Dev) (x : Nat) : (d.event x).feeds = d.feeds := (d.showsOnly_event x).feeds
@[simp] theorem Dev.event_ctrs (d : Dev) (x : Nat) : (d.event x).ctrs = d.ctrs := (d.showsOnly_event x).ctrs
@[simp] theorem Dev.event_link (d : Dev) (x : Nat) : (d.event x).link = d.link := (d.showsOnly_event x).link
@[simp] theorem Dev.event_grid (d : Dev) (x : Nat) : (d.event x).grid = d.grid := (d.showsOnly_event x).grid
@[simp] theorem Dev.event_dabs (d : Dev) (x : Nat) : (d.event x).dabs = d.dabs := (d.showsOnly_event x).dabs
@[simp] theorem Dev.event_peers (d : Dev) (x : Nat) : (d.event x).peers = d.peers := (d.showsOnly_event x).peers
@[simp] theorem Dev.event_ocHold (d : Dev) (x : Nat) : (d.event x).ocHold = d.ocHold := (d.showsOnly_event x).ocHold
@[simp] theorem Dev.event_testing (d : Dev) (x : Nat) : (d.event x).testing = d.testing := (d.showsOnly_event x).testing
@[simp] theorem Dev.event_riseTests (d : Dev) (x : Nat) : (d.event x).riseTests = d.riseTests := (d.showsOnly_event x).riseTests
@[simp] theorem Dev.event_tested (d : Dev) (x : Nat) : (d.event x).tested = d.tested := (d.showsOnly_event x).tested
@[simp] theorem Dev.event_driveLow (d : Dev) (x : Nat) : (d.event x).driveLow = d.driveLow := (d.showsOnly_event x).driveLow
@[simp] theorem Dev.event_hbs (d : Dev) (x : Nat) : (d.event x).hbs = d.hbs := (d.showsOnly_event x).hbs
@[simp] theorem Dev.event_lvs (d : Dev) (x : Nat) : (d.event x).lvs = d.lvs := (d.showsOnly_event x).lvs
@[simp] theorem Dev.event_bldcs (d : Dev) (x : Nat) : (d.event x).bldcs = d.bldcs := (d.showsOnly_event x).bldcs
@[simp] theorem Dev.event_vlvHigh (d : Dev) (x : Nat) : (d.event x).vlvHigh = d.vlvHigh := (d.showsOnly_event x).vlvHigh
@[simp] theorem Dev.event_lvLimit (d : Dev) (x : Nat) : (d.event x).lvLimit = d.lvLimit := (d.showsOnly_event x).lvLimit
@[simp] theorem Dev.event_axes (d : Dev) (x : Nat) : (d.event x).axes = d.axes := (d.showsOnly_event x).axes
@[simp] theorem Dev.event_moves (d : Dev) (x : Nat) : (d.event x).moves = d.moves := (d.showsOnly_event x).moves
@[simp] theorem Dev.event_shift (d : Dev) (x : Nat) : (d.event x).shift = d.shift := (d.showsOnly_event x).shift
@[simp] theorem Dev.event_ge (d : Dev) (x : Nat) : (d.event x).ge = d.ge := (d.showsOnly_event x).ge
@[simp] theorem Dev.event_rows (d : Dev) (x : Nat) : (d.event x).rows = d.rows := (d.showsOnly_event x).rows
@[simp] theorem Dev.event_nodes (d : Dev) (x : Nat) : (d.event x).nodes = d.nodes := (d.showsOnly_event x).nodes
@[simp] theorem Dev.event_chains (d : Dev) (x : Nat) : (d.event x).chains = d.chains := (d.showsOnly_event x).chains
@[simp] theorem Dev.event_mbx (d : Dev) (x : Nat) : (d.event x).mbx = d.mbx := (d.showsOnly_event x).mbx
@[simp] theorem Dev.event_dead (d : Dev) (x : Nat) : (d.event x).dead = d.dead := (d.showsOnly_event x).dead
@[simp] theorem Dev.event_sessions (d : Dev) (x : Nat) : (d.event x).sessions = d.sessions := (d.showsOnly_event x).sessions
@[simp] theorem Dev.event_wrongTags (d : Dev) (x : Nat) : (d.event x).wrongTags = d.wrongTags := (d.showsOnly_event x).wrongTags
@[simp] theorem Dev.event_barred (d : Dev) (x : Nat) : (d.event x).barred = d.barred := (d.showsOnly_event x).barred
@[simp] theorem Dev.event_busOff (d : Dev) (x : Nat) : (d.event x).busOff = d.busOff := (d.showsOnly_event x).busOff
@[simp] theorem Dev.event_busOffAt (d : Dev) (x : Nat) : (d.event x).busOffAt = d.busOffAt := (d.showsOnly_event x).busOffAt
@[simp] theorem Dev.event_busSlow (d : Dev) (x : Nat) : (d.event x).busSlow = d.busSlow := (d.showsOnly_event x).busSlow
@[simp] theorem Dev.event_claim (d : Dev) (x : Nat) : (d.event x).claim = d.claim := (d.showsOnly_event x).claim
@[simp] theorem Dev.event_claimAddr (d : Dev) (x : Nat) : (d.event x).claimAddr = d.claimAddr := (d.showsOnly_event x).claimAddr
@[simp] theorem Dev.event_claimLast (d : Dev) (x : Nat) : (d.event x).claimLast = d.claimLast := (d.showsOnly_event x).claimLast
@[simp] theorem Dev.event_ethSent (d : Dev) (x : Nat) : (d.event x).ethSent = d.ethSent := (d.showsOnly_event x).ethSent
@[simp] theorem Dev.event_notes (d : Dev) (x : Nat) : (d.event x).notes = d.notes := (d.showsOnly_event x).notes
@[simp] theorem Dev.event_pool (d : Dev) (x : Nat) : (d.event x).pool = d.pool := (d.showsOnly_event x).pool
@[simp] theorem Dev.event_poolShown (d : Dev) (x : Nat) : (d.event x).poolShown = d.poolShown := (d.showsOnly_event x).poolShown
@[simp] theorem Dev.event_couriers (d : Dev) (x : Nat) : (d.event x).couriers = d.couriers := (d.showsOnly_event x).couriers
@[simp] theorem Dev.event_sps (d : Dev) (x : Nat) : (d.event x).sps = d.sps := (d.showsOnly_event x).sps
@[simp] theorem Dev.event_mems (d : Dev) (x : Nat) : (d.event x).mems = d.mems := (d.showsOnly_event x).mems
@[simp] theorem Dev.event_mRecords (d : Dev) (x : Nat) : (d.event x).mRecords = d.mRecords := (d.showsOnly_event x).mRecords
@[simp] theorem Dev.event_fuse (d : Dev) (x : Nat) : (d.event x).fuse = d.fuse := (d.showsOnly_event x).fuse
@[simp] theorem Dev.event_slotsAB (d : Dev) (x : Nat) : (d.event x).slotsAB = d.slotsAB := (d.showsOnly_event x).slotsAB
@[simp] theorem Dev.event_update (d : Dev) (x : Nat) : (d.event x).update = d.update := (d.showsOnly_event x).update
@[simp] theorem Dev.event_line (d : Dev) (x : Nat) : (d.event x).line = d.line := (d.showsOnly_event x).line
@[simp] theorem Dev.event_nonces (d : Dev) (x : Nat) : (d.event x).nonces = d.nonces := (d.showsOnly_event x).nonces
@[simp] theorem Dev.event_flashJobs (d : Dev) (x : Nat) : (d.event x).flashJobs = d.flashJobs := (d.showsOnly_event x).flashJobs
@[simp] theorem Dev.event_power (d : Dev) (x : Nat) : (d.event x).power = d.power := (d.showsOnly_event x).power
@[simp] theorem Dev.event_kept (d : Dev) (x : Nat) : (d.event x).kept = d.kept := (d.showsOnly_event x).kept
@[simp] theorem Dev.event_nfLevel (d : Dev) (x : Nat) : (d.event x).nfLevel = d.nfLevel := (d.showsOnly_event x).nfLevel
@[simp] theorem Dev.event_nfSeen (d : Dev) (x : Nat) : (d.event x).nfSeen = d.nfSeen := (d.showsOnly_event x).nfSeen
@[simp] theorem Dev.event_nfPulse (d : Dev) (x : Nat) : (d.event x).nfPulse = d.nfPulse := (d.showsOnly_event x).nfPulse
@[simp] theorem Dev.event_hnLost (d : Dev) (x : Nat) : (d.event x).hnLost = d.hnLost := (d.showsOnly_event x).hnLost
@[simp] theorem Dev.event_hnBad (d : Dev) (x : Nat) : (d.event x).hnBad = d.hnBad := (d.showsOnly_event x).hnBad
@[simp] theorem Dev.event_hnCount (d : Dev) (x : Nat) : (d.event x).hnCount = d.hnCount := (d.showsOnly_event x).hnCount
@[simp] theorem Dev.event_monitor (d : Dev) (x : Nat) : (d.event x).monitor = d.monitor := (d.showsOnly_event x).monitor
@[simp] theorem Dev.event_sar (d : Dev) (x : Nat) : (d.event x).sar = d.sar := (d.showsOnly_event x).sar
@[simp] theorem Dev.event_sensors (d : Dev) (x : Nat) : (d.event x).sensors = d.sensors := (d.showsOnly_event x).sensors
@[simp] theorem Dev.event_die (d : Dev) (x : Nat) : (d.event x).die = d.die := (d.showsOnly_event x).die
@[simp] theorem Dev.event_pauses (d : Dev) (x : Nat) : (d.event x).pauses = d.pauses := (d.showsOnly_event x).pauses
@[simp] theorem Dev.event_crcInject (d : Dev) (x : Nat) : (d.event x).crcInject = d.crcInject := (d.showsOnly_event x).crcInject
@[simp] theorem Dev.event_limited (d : Dev) (x : Nat) : (d.event x).limited = d.limited := (d.showsOnly_event x).limited
@[simp] theorem Dev.event_j9 (d : Dev) (x : Nat) : (d.event x).j9 = d.j9 := (d.showsOnly_event x).j9
@[simp] theorem Dev.event_reply (d : Dev) (x : Nat) : (d.event x).reply = d.reply := (d.showsOnly_event x).reply
@[simp] theorem Dev.event_hsp (d : Dev) (x : Nat) : (d.event x).hsp = d.hsp := (d.showsOnly_event x).hsp

/-- An event raised before is still raised. -/
theorem Dev.ShowsOnly.raised {d e : Dev} (h : d.ShowsOnly e) {x : Nat} (r : d.raised x) : e.raised x := by
  unfold Dev.raised; rw [h.wall]; exact h.2 _ r

theorem Dev.raised_settle {d : Dev} {x : Nat} (r : d.raised x) : d.settle.raised x := by
  unfold Dev.raised; rw [Dev.settle_wall, Dev.settle_evq]; exact r


theorem Dev.StopsOnly.refl (d : Dev) : d.StopsOnly d := ⟨⟨⟨d.obj, d.evq, d.trace, d.tracePost, d.traceLost, d.trac, d.openRequest, d.link, d.ctrs, d.dabs, d.grid, d.loops⟩, rfl⟩, fun _ h => h⟩

theorem Dev.StopsOnly.trans {a b c : Dev} (h1 : a.StopsOnly b) (h2 : b.StopsOnly c) : a.StopsOnly c := by
  obtain ⟨⟨p, rfl⟩, m1⟩ := h1
  obtain ⟨⟨q, rfl⟩, m2⟩ := h2
  exact ⟨⟨q, rfl⟩, fun x h => m2 x (m1 x h)⟩

theorem Dev.ShowsOnly.stops {d e : Dev} (h : d.ShowsOnly e) : d.StopsOnly e := by
  obtain ⟨⟨p, rfl⟩, m⟩ := h
  exact ⟨⟨⟨p.obj, p.evq, p.trace, p.tracePost, p.traceLost, d.trac, d.openRequest, d.link, d.ctrs, d.dabs, d.grid, d.loops⟩, rfl⟩, m⟩

theorem Dev.StopsOnly.wall {d e : Dev} (h : d.StopsOnly e) : e.wall = d.wall := by obtain ⟨⟨p, rfl⟩, -⟩ := h; rfl
theorem Dev.StopsOnly.free {d e : Dev} (h : d.StopsOnly e) : e.free = d.free := by obtain ⟨⟨p, rfl⟩, -⟩ := h; rfl
theorem Dev.StopsOnly.blk {d e : Dev} (h : d.StopsOnly e) : e.blk = d.blk := by obtain ⟨⟨p, rfl⟩, -⟩ := h; rfl
theorem Dev.StopsOnly.poison {d e : Dev} (h : d.StopsOnly e) : e.poison = d.poison := by obtain ⟨⟨p, rfl⟩, -⟩ := h; rfl
theorem Dev.StopsOnly.writes {d e : Dev} (h : d.StopsOnly e) : e.writes = d.writes := by obtain ⟨⟨p, rfl⟩, -⟩ := h; rfl
theorem Dev.StopsOnly.result {d e : Dev} (h : d.StopsOnly e) : e.result = d.result := by obtain ⟨⟨p, rfl⟩, -⟩ := h; rfl
theorem Dev.StopsOnly.data {d e : Dev} (h : d.StopsOnly e) : e.data = d.data := by obtain ⟨⟨p, rfl⟩, -⟩ := h; rfl
theorem Dev.StopsOnly.coll {d e : Dev} (h : d.StopsOnly e) : e.coll = d.coll := by obtain ⟨⟨p, rfl⟩, -⟩ := h; rfl
theorem Dev.StopsOnly.phase {d e : Dev} (h : d.StopsOnly e) : e.phase = d.phase := by obtain ⟨⟨p, rfl⟩, -⟩ := h; rfl
theorem Dev.StopsOnly.resetPending {d e : Dev} (h : d.StopsOnly e) : e.resetPending = d.resetPending := by obtain ⟨⟨p, rfl⟩, -⟩ := h; rfl
theorem Dev.StopsOnly.tracks {d e : Dev} (h : d.StopsOnly e) : e.tracks = d.tracks := by obtain ⟨⟨p, rfl⟩, -⟩ := h; rfl
theorem Dev.StopsOnly.slots {d e : Dev} (h : d.StopsOnly e) : e.slots = d.slots := by obtain ⟨⟨p, rfl⟩, -⟩ := h; rfl
theorem Dev.StopsOnly.ssi {d e : Dev} (h : d.StopsOnly e) : e.ssi = d.ssi := by obtain ⟨⟨p, rfl⟩, -⟩ := h; rfl
theorem Dev.StopsOnly.inc {d e : Dev} (h : d.StopsOnly e) : e.inc = d.inc := by obtain ⟨⟨p, rfl⟩, -⟩ := h; rfl
theorem Dev.StopsOnly.hall {d e : Dev} (h : d.StopsOnly e) : e.hall = d.hall := by obtain ⟨⟨p, rfl⟩, -⟩ := h; rfl
theorem Dev.StopsOnly.pulse {d e : Dev} (h : d.StopsOnly e) : e.pulse = d.pulse := by obtain ⟨⟨p, rfl⟩, -⟩ := h; rfl
theorem Dev.StopsOnly.probes {d e : Dev} (h : d.StopsOnly e) : e.probes = d.probes := by obtain ⟨⟨p, rfl⟩, -⟩ := h; rfl
theorem Dev.StopsOnly.source {d e : Dev} (h : d.StopsOnly e) : e.source = d.source := by obtain ⟨⟨p, rfl⟩, -⟩ := h; rfl
theorem Dev.StopsOnly.imuFailed {d e : Dev} (h : d.StopsOnly e) : e.imuFailed = d.imuFailed := by obtain ⟨⟨p, rfl⟩, -⟩ := h; rfl
theorem Dev.StopsOnly.gates {d e : Dev} (h : d.StopsOnly e) : e.gates = d.gates := by obtain ⟨⟨p, rfl⟩, -⟩ := h; rfl
theorem Dev.StopsOnly.tier3 {d e : Dev} (h : d.StopsOnly e) : e.tier3 = d.tier3 := by obtain ⟨⟨p, rfl⟩, -⟩ := h; rfl
theorem Dev.StopsOnly.tier4 {d e : Dev} (h : d.StopsOnly e) : e.tier4 = d.tier4 := by obtain ⟨⟨p, rfl⟩, -⟩ := h; rfl
theorem Dev.StopsOnly.ocTrips {d e : Dev} (h : d.StopsOnly e) : e.ocTrips = d.ocTrips := by obtain ⟨⟨p, rfl⟩, -⟩ := h; rfl
theorem Dev.StopsOnly.hnLast {d e : Dev} (h : d.StopsOnly e) : e.hnLast = d.hnLast := by obtain ⟨⟨p, rfl⟩, -⟩ := h; rfl
theorem Dev.StopsOnly.leBlocked {d e : Dev} (h : d.StopsOnly e) : e.leBlocked = d.leBlocked := by obtain ⟨⟨p, rfl⟩, -⟩ := h; rfl
theorem Dev.StopsOnly.leMoving {d e : Dev} (h : d.StopsOnly e) : e.leMoving = d.leMoving := by obtain ⟨⟨p, rfl⟩, -⟩ := h; rfl
theorem Dev.StopsOnly.leLoaded {d e : Dev} (h : d.StopsOnly e) : e.leLoaded = d.leLoaded := by obtain ⟨⟨p, rfl⟩, -⟩ := h; rfl
theorem Dev.StopsOnly.le8Bad {d e : Dev} (h : d.StopsOnly e) : e.le8Bad = d.le8Bad := by obtain ⟨⟨p, rfl⟩, -⟩ := h; rfl
theorem Dev.StopsOnly.feeds {d e : Dev} (h : d.StopsOnly e) : e.feeds = d.feeds := by obtain ⟨⟨p, rfl⟩, -⟩ := h; rfl
theorem Dev.StopsOnly.peers {d e : Dev} (h : d.StopsOnly e) : e.peers = d.peers := by obtain ⟨⟨p, rfl⟩, -⟩ := h; rfl
theorem Dev.StopsOnly.ocHold {d e : Dev} (h : d.StopsOnly e) : e.ocHold = d.ocHold := by obtain ⟨⟨p, rfl⟩, -⟩ := h; rfl
theorem Dev.StopsOnly.testing {d e : Dev} (h : d.StopsOnly e) : e.testing = d.testing := by obtain ⟨⟨p, rfl⟩, -⟩ := h; rfl
theorem Dev.StopsOnly.riseTests {d e : Dev} (h : d.StopsOnly e) : e.riseTests = d.riseTests := by obtain ⟨⟨p, rfl⟩, -⟩ := h; rfl
theorem Dev.StopsOnly.tested {d e : Dev} (h : d.StopsOnly e) : e.tested = d.tested := by obtain ⟨⟨p, rfl⟩, -⟩ := h; rfl
theorem Dev.StopsOnly.driveLow {d e : Dev} (h : d.StopsOnly e) : e.driveLow = d.driveLow := by obtain ⟨⟨p, rfl⟩, -⟩ := h; rfl
theorem Dev.StopsOnly.hbs {d e : Dev} (h : d.StopsOnly e) : e.hbs = d.hbs := by obtain ⟨⟨p, rfl⟩, -⟩ := h; rfl
theorem Dev.StopsOnly.lvs {d e : Dev} (h : d.StopsOnly e) : e.lvs = d.lvs := by obtain ⟨⟨p, rfl⟩, -⟩ := h; rfl
theorem Dev.StopsOnly.bldcs {d e : Dev} (h : d.StopsOnly e) : e.bldcs = d.bldcs := by obtain ⟨⟨p, rfl⟩, -⟩ := h; rfl
theorem Dev.StopsOnly.vlvHigh {d e : Dev} (h : d.StopsOnly e) : e.vlvHigh = d.vlvHigh := by obtain ⟨⟨p, rfl⟩, -⟩ := h; rfl
theorem Dev.StopsOnly.lvLimit {d e : Dev} (h : d.StopsOnly e) : e.lvLimit = d.lvLimit := by obtain ⟨⟨p, rfl⟩, -⟩ := h; rfl
theorem Dev.StopsOnly.axes {d e : Dev} (h : d.StopsOnly e) : e.axes = d.axes := by obtain ⟨⟨p, rfl⟩, -⟩ := h; rfl
theorem Dev.StopsOnly.moves {d e : Dev} (h : d.StopsOnly e) : e.moves = d.moves := by obtain ⟨⟨p, rfl⟩, -⟩ := h; rfl
theorem Dev.StopsOnly.shift {d e : Dev} (h : d.StopsOnly e) : e.shift = d.shift := by obtain ⟨⟨p, rfl⟩, -⟩ := h; rfl
theorem Dev.StopsOnly.ge {d e : Dev} (h : d.StopsOnly e) : e.ge = d.ge := by obtain ⟨⟨p, rfl⟩, -⟩ := h; rfl
theorem Dev.StopsOnly.rows {d e : Dev} (h : d.StopsOnly e) : e.rows = d.rows := by obtain ⟨⟨p, rfl⟩, -⟩ := h; rfl
theorem Dev.StopsOnly.nodes {d e : Dev} (h : d.StopsOnly e) : e.nodes = d.nodes := by obtain ⟨⟨p, rfl⟩, -⟩ := h; rfl
theorem Dev.StopsOnly.chains {d e : Dev} (h : d.StopsOnly e) : e.chains = d.chains := by obtain ⟨⟨p, rfl⟩, -⟩ := h; rfl
theorem Dev.StopsOnly.mbx {d e : Dev} (h : d.StopsOnly e) : e.mbx = d.mbx := by obtain ⟨⟨p, rfl⟩, -⟩ := h; rfl
theorem Dev.StopsOnly.dead {d e : Dev} (h : d.StopsOnly e) : e.dead = d.dead := by obtain ⟨⟨p, rfl⟩, -⟩ := h; rfl
theorem Dev.StopsOnly.sessions {d e : Dev} (h : d.StopsOnly e) : e.sessions = d.sessions := by obtain ⟨⟨p, rfl⟩, -⟩ := h; rfl
theorem Dev.StopsOnly.wrongTags {d e : Dev} (h : d.StopsOnly e) : e.wrongTags = d.wrongTags := by obtain ⟨⟨p, rfl⟩, -⟩ := h; rfl
theorem Dev.StopsOnly.barred {d e : Dev} (h : d.StopsOnly e) : e.barred = d.barred := by obtain ⟨⟨p, rfl⟩, -⟩ := h; rfl
theorem Dev.StopsOnly.busOff {d e : Dev} (h : d.StopsOnly e) : e.busOff = d.busOff := by obtain ⟨⟨p, rfl⟩, -⟩ := h; rfl
theorem Dev.StopsOnly.busOffAt {d e : Dev} (h : d.StopsOnly e) : e.busOffAt = d.busOffAt := by obtain ⟨⟨p, rfl⟩, -⟩ := h; rfl
theorem Dev.StopsOnly.busSlow {d e : Dev} (h : d.StopsOnly e) : e.busSlow = d.busSlow := by obtain ⟨⟨p, rfl⟩, -⟩ := h; rfl
theorem Dev.StopsOnly.claim {d e : Dev} (h : d.StopsOnly e) : e.claim = d.claim := by obtain ⟨⟨p, rfl⟩, -⟩ := h; rfl
theorem Dev.StopsOnly.claimAddr {d e : Dev} (h : d.StopsOnly e) : e.claimAddr = d.claimAddr := by obtain ⟨⟨p, rfl⟩, -⟩ := h; rfl
theorem Dev.StopsOnly.claimLast {d e : Dev} (h : d.StopsOnly e) : e.claimLast = d.claimLast := by obtain ⟨⟨p, rfl⟩, -⟩ := h; rfl
theorem Dev.StopsOnly.ethSent {d e : Dev} (h : d.StopsOnly e) : e.ethSent = d.ethSent := by obtain ⟨⟨p, rfl⟩, -⟩ := h; rfl
theorem Dev.StopsOnly.notes {d e : Dev} (h : d.StopsOnly e) : e.notes = d.notes := by obtain ⟨⟨p, rfl⟩, -⟩ := h; rfl
theorem Dev.StopsOnly.pool {d e : Dev} (h : d.StopsOnly e) : e.pool = d.pool := by obtain ⟨⟨p, rfl⟩, -⟩ := h; rfl
theorem Dev.StopsOnly.poolShown {d e : Dev} (h : d.StopsOnly e) : e.poolShown = d.poolShown := by obtain ⟨⟨p, rfl⟩, -⟩ := h; rfl
theorem Dev.StopsOnly.couriers {d e : Dev} (h : d.StopsOnly e) : e.couriers = d.couriers := by obtain ⟨⟨p, rfl⟩, -⟩ := h; rfl
theorem Dev.StopsOnly.sps {d e : Dev} (h : d.StopsOnly e) : e.sps = d.sps := by obtain ⟨⟨p, rfl⟩, -⟩ := h; rfl
theorem Dev.StopsOnly.mems {d e : Dev} (h : d.StopsOnly e) : e.mems = d.mems := by obtain ⟨⟨p, rfl⟩, -⟩ := h; rfl
theorem Dev.StopsOnly.mRecords {d e : Dev} (h : d.StopsOnly e) : e.mRecords = d.mRecords := by obtain ⟨⟨p, rfl⟩, -⟩ := h; rfl
theorem Dev.StopsOnly.fuse {d e : Dev} (h : d.StopsOnly e) : e.fuse = d.fuse := by obtain ⟨⟨p, rfl⟩, -⟩ := h; rfl
theorem Dev.StopsOnly.slotsAB {d e : Dev} (h : d.StopsOnly e) : e.slotsAB = d.slotsAB := by obtain ⟨⟨p, rfl⟩, -⟩ := h; rfl
theorem Dev.StopsOnly.update {d e : Dev} (h : d.StopsOnly e) : e.update = d.update := by obtain ⟨⟨p, rfl⟩, -⟩ := h; rfl
theorem Dev.StopsOnly.line {d e : Dev} (h : d.StopsOnly e) : e.line = d.line := by obtain ⟨⟨p, rfl⟩, -⟩ := h; rfl
theorem Dev.StopsOnly.nonces {d e : Dev} (h : d.StopsOnly e) : e.nonces = d.nonces := by obtain ⟨⟨p, rfl⟩, -⟩ := h; rfl
theorem Dev.StopsOnly.flashJobs {d e : Dev} (h : d.StopsOnly e) : e.flashJobs = d.flashJobs := by obtain ⟨⟨p, rfl⟩, -⟩ := h; rfl
theorem Dev.StopsOnly.power {d e : Dev} (h : d.StopsOnly e) : e.power = d.power := by obtain ⟨⟨p, rfl⟩, -⟩ := h; rfl
theorem Dev.StopsOnly.kept {d e : Dev} (h : d.StopsOnly e) : e.kept = d.kept := by obtain ⟨⟨p, rfl⟩, -⟩ := h; rfl
theorem Dev.StopsOnly.nfLevel {d e : Dev} (h : d.StopsOnly e) : e.nfLevel = d.nfLevel := by obtain ⟨⟨p, rfl⟩, -⟩ := h; rfl
theorem Dev.StopsOnly.nfSeen {d e : Dev} (h : d.StopsOnly e) : e.nfSeen = d.nfSeen := by obtain ⟨⟨p, rfl⟩, -⟩ := h; rfl
theorem Dev.StopsOnly.nfPulse {d e : Dev} (h : d.StopsOnly e) : e.nfPulse = d.nfPulse := by obtain ⟨⟨p, rfl⟩, -⟩ := h; rfl
theorem Dev.StopsOnly.hnLost {d e : Dev} (h : d.StopsOnly e) : e.hnLost = d.hnLost := by obtain ⟨⟨p, rfl⟩, -⟩ := h; rfl
theorem Dev.StopsOnly.hnBad {d e : Dev} (h : d.StopsOnly e) : e.hnBad = d.hnBad := by obtain ⟨⟨p, rfl⟩, -⟩ := h; rfl
theorem Dev.StopsOnly.hnCount {d e : Dev} (h : d.StopsOnly e) : e.hnCount = d.hnCount := by obtain ⟨⟨p, rfl⟩, -⟩ := h; rfl
theorem Dev.StopsOnly.monitor {d e : Dev} (h : d.StopsOnly e) : e.monitor = d.monitor := by obtain ⟨⟨p, rfl⟩, -⟩ := h; rfl
theorem Dev.StopsOnly.sar {d e : Dev} (h : d.StopsOnly e) : e.sar = d.sar := by obtain ⟨⟨p, rfl⟩, -⟩ := h; rfl
theorem Dev.StopsOnly.sensors {d e : Dev} (h : d.StopsOnly e) : e.sensors = d.sensors := by obtain ⟨⟨p, rfl⟩, -⟩ := h; rfl
theorem Dev.StopsOnly.die {d e : Dev} (h : d.StopsOnly e) : e.die = d.die := by obtain ⟨⟨p, rfl⟩, -⟩ := h; rfl
theorem Dev.StopsOnly.pauses {d e : Dev} (h : d.StopsOnly e) : e.pauses = d.pauses := by obtain ⟨⟨p, rfl⟩, -⟩ := h; rfl
theorem Dev.StopsOnly.crcInject {d e : Dev} (h : d.StopsOnly e) : e.crcInject = d.crcInject := by obtain ⟨⟨p, rfl⟩, -⟩ := h; rfl
theorem Dev.StopsOnly.limited {d e : Dev} (h : d.StopsOnly e) : e.limited = d.limited := by obtain ⟨⟨p, rfl⟩, -⟩ := h; rfl
theorem Dev.StopsOnly.j9 {d e : Dev} (h : d.StopsOnly e) : e.j9 = d.j9 := by obtain ⟨⟨p, rfl⟩, -⟩ := h; rfl
theorem Dev.StopsOnly.reply {d e : Dev} (h : d.StopsOnly e) : e.reply = d.reply := by obtain ⟨⟨p, rfl⟩, -⟩ := h; rfl
theorem Dev.StopsOnly.hsp {d e : Dev} (h : d.StopsOnly e) : e.hsp = d.hsp := by obtain ⟨⟨p, rfl⟩, -⟩ := h; rfl

theorem Dev.StopsOnly.raised {d e : Dev} (h : d.StopsOnly e) {x : Nat} (r : d.raised x) : e.raised x := by
  unfold Dev.raised; rw [h.wall]; exact h.2 _ r

end Sys2Proof.Machine
end

