-- ==== Sys2Proof/Laws/Faults.lean ====
section
/-! SUPPORT. What raising a fault does (R510, R511, R513, R516): it is in force afterwards, and only what `StopsOnly` names changes beside the
collector. -/

namespace Sys2Proof.Machine

/-! ### What the reaction changes -/

theorem Dev.stops_setO (d : Dev) (k : Nat) (v : Int) : d.StopsOnly (d.setO k v) := (d.showsOnly_setO k v).stops

theorem Dev.stops_event (d : Dev) (e : Nat) : d.StopsOnly (d.event e) := (d.showsOnly_event e).stops

theorem Dev.stops_when (d : Dev) (c : Bool) {f : Dev → Dev} (h : ∀ d : Dev, d.StopsOnly (f d)) : d.StopsOnly (d.when c f) := by
  cases c
  · exact .refl d
  · exact h d

theorem Dev.stops_foldl {α : Type} {f : Dev → α → Dev} (h : ∀ d x, Dev.StopsOnly d (f d x)) (l : List α) (d : Dev) :
    d.StopsOnly (l.foldl f d) := by
  induction l generalizing d with
  | nil => exact .refl d
  | cons x t ih => exact (h d x).trans (ih _)

theorem Dev.stops_updTrac (d : Dev) (m : Mach) (f : Trac → Trac) : d.StopsOnly (d.updTrac m f) :=
  ⟨⟨⟨d.obj, d.evq, d.trace, d.tracePost, d.traceLost, _, d.openRequest, d.link, d.ctrs, d.dabs, d.grid, d.loops⟩, rfl⟩, fun _ h => h⟩

theorem Dev.stops_updLink (d : Dev) (f : Link → Link) : d.StopsOnly (d.updLink f) :=
  ⟨⟨⟨d.obj, d.evq, d.trace, d.tracePost, d.traceLost, d.trac, d.openRequest, _, d.ctrs, d.dabs, d.grid, d.loops⟩, rfl⟩, fun _ h => h⟩

theorem Dev.stops_updCtr (d : Dev) (n : Nat) (f : Ctr → Ctr) : d.StopsOnly (d.updCtr n f) :=
  ⟨⟨⟨d.obj, d.evq, d.trace, d.tracePost, d.traceLost, d.trac, d.openRequest, d.link, _, d.dabs, d.grid, d.loops⟩, rfl⟩, fun _ h => h⟩

theorem Dev.stops_updDab (d : Dev) (c : Conv) (f : Dab → Dab) : d.StopsOnly (d.updDab c f) :=
  ⟨⟨⟨d.obj, d.evq, d.trace, d.tracePost, d.traceLost, d.trac, d.openRequest, d.link, d.ctrs, _, d.grid, d.loops⟩, rfl⟩, fun _ h => h⟩

theorem Dev.stops_updGrid (d : Dev) (f : Grid → Grid) : d.StopsOnly (d.updGrid f) :=
  ⟨⟨⟨d.obj, d.evq, d.trace, d.tracePost, d.traceLost, d.trac, d.openRequest, d.link, d.ctrs, d.dabs, _, d.loops⟩, rfl⟩, fun _ h => h⟩

theorem Dev.stops_openRequest (d : Dev) (b : Bool) : d.StopsOnly { d with openRequest := b } :=
  ⟨⟨⟨d.obj, d.evq, d.trace, d.tracePost, d.traceLost, d.trac, _, d.link, d.ctrs, d.dabs, d.grid, d.loops⟩, rfl⟩, fun _ h => h⟩

theorem Dev.stops_enableLoops (d : Dev) (Ls : List Nat) (on : Bool) : d.StopsOnly (d.enableLoops Ls on) := by
  unfold Dev.enableLoops
  refine Dev.stops_foldl (fun d L => ?_) Ls d
  refine Dev.StopsOnly.trans ?_ (Dev.stops_setO _ _ _)
  exact ⟨⟨⟨d.obj, d.evq, d.trace, d.tracePost, d.traceLost, d.trac, d.openRequest, d.link, d.ctrs, d.dabs, d.grid, _⟩, rfl⟩, fun _ h => h⟩

theorem Dev.stops_tracIdle (d : Dev) (m : Mach) : d.StopsOnly (d.tracIdle m) := by
  unfold Dev.tracIdle
  refine .trans ?_ (Dev.stops_updTrac _ _ _)
  iterate 9 refine .trans ?_ (Dev.stops_setO _ _ _)
  exact Dev.stops_setO ..

theorem Dev.stops_ascEnter (d : Dev) (m : Mach) (c : Nat) : d.StopsOnly (d.ascEnter m c) := by
  unfold Dev.ascEnter
  refine .trans ?_ (Dev.stops_when _ _ (fun d => d.stops_openRequest true))
  split
  · exact (d.stops_tracIdle m).trans (Dev.stops_setO _ _ _)
  · refine .trans ?_ (Dev.stops_updTrac _ _ _)
    refine .trans ?_ (Dev.stops_event _ _)
    refine .trans ?_ (Dev.stops_setO _ _ _)
    refine .trans ?_ (Dev.stops_setO _ _ _)
    exact (d.stops_tracIdle m).trans (Dev.stops_setO _ _ _)

theorem Dev.stops_pulsesOff (d : Dev) (m : Mach) : d.StopsOnly (d.pulsesOff m) := (d.stops_tracIdle m).trans (Dev.stops_setO _ _ _)

theorem Dev.stops_holderStop (d : Dev) (m : Mach) : d.StopsOnly (d.holderStop m) := by
  unfold Dev.holderStop
  split
  · exact .refl d
  · split
    · exact d.stops_ascEnter m 1
    · exact d.stops_pulsesOff m

theorem Dev.stops_dabOff (d : Dev) (c : Conv) (st : Nat) : d.StopsOnly (d.dabOff c st) := by
  unfold Dev.dabOff
  refine .trans ?_ (Dev.stops_updDab _ _ _)
  refine .trans ?_ (Dev.stops_enableLoops _ _ _)
  iterate 3 refine .trans ?_ (Dev.stops_setO _ _ _)
  exact Dev.stops_setO ..

theorem Dev.stops_gridOff (d : Dev) (st step : Nat) : d.StopsOnly (d.gridOff st step) := by
  unfold Dev.gridOff
  refine .trans ?_ (Dev.stops_updGrid _ _)
  refine .trans ?_ (Dev.stops_enableLoops _ _ _)
  iterate 3 refine .trans ?_ (Dev.stops_setO _ _ _)
  exact Dev.stops_setO ..

theorem Dev.stops_coilOff (d : Dev) (n : Nat) : d.StopsOnly (d.coilOff n) := by
  unfold Dev.coilOff; split
  · exact (d.stops_updCtr n _).trans (Dev.stops_setO _ _ _)
  · exact .refl d

theorem Dev.stops_coilOff? (d : Dev) (n : Option Nat) : d.StopsOnly (d.coilOff? n) := by
  unfold Dev.coilOff?; split
  · exact d.stops_coilOff _
  · exact .refl d

theorem Dev.stops_setPreSwitch (d : Dev) (on : Bool) : d.StopsOnly (d.setPreSwitch on) := by
  unfold Dev.setPreSwitch; split
  · exact Dev.stops_setO ..
  · exact .refl d

theorem Dev.stops_showChopper (d : Dev) : d.StopsOnly d.showChopper := Dev.stops_setO ..

theorem Dev.stops_driveChopper (d : Dev) : d.StopsOnly d.driveChopper := by
  have body : ∀ (on c : Bool) (f : Link → Link), d.StopsOnly (if c = true then d.showChopper else
      ((d.groupChannels 8).foldl (fun d n => d.setBit (el Obj.STATUS_6020 n) 0 on) (d.updLink f)).showChopper) := by
    intro on c f
    split
    · exact d.stops_showChopper
    · refine .trans ?_ (Dev.stops_showChopper _)
      exact (d.stops_updLink _).trans (Dev.stops_foldl (fun d n => Dev.stops_setO ..) _ _)
  unfold Dev.driveChopper
  simp only []
  split <;> exact body _ _ _

theorem Dev.stops_dischargeEnd (d : Dev) : d.StopsOnly d.dischargeEnd :=
  ((d.stops_setO _ _).trans (Dev.stops_updLink _ _)).trans (Dev.stops_driveChopper _)

theorem Dev.stops_dischargeGo (d : Dev) : d.StopsOnly d.dischargeGo := by
  unfold Dev.dischargeGo; split
  · split
    · exact d.stops_dischargeEnd
    · exact (d.stops_updLink _).trans (Dev.stops_driveChopper _)
  · exact .refl d

theorem Dev.stops_dischargeStart (d : Dev) : d.StopsOnly d.dischargeStart := by
  unfold Dev.dischargeStart; split
  · exact .refl d
  · exact ((d.stops_updLink _).trans (Dev.stops_setO _ _ _)).trans (Dev.stops_dischargeGo _)

theorem Dev.stops_openSource (d : Dev) (src : Nat) : d.StopsOnly (d.openSource src) := by
  unfold Dev.openSource; split
  · exact Dev.stops_when _ _ (fun d => d.stops_updLink _)
  · exact .refl d

theorem Dev.stops_abortPrecharge (d : Dev) : d.StopsOnly d.abortPrecharge := by
  unfold Dev.abortPrecharge; split
  · exact .refl d
  · simp only []
    refine .trans ?_ (Dev.stops_setO _ _ _)
    have h : ∀ j : Precharge, d.StopsOnly ((((d.updLink (fun l => { l with job := none })).coilOff? (d.preOf j.src)).when (decide (j.mode = 2))
        (fun d => d.setPreSwitch false)).when (decide (j.mode = 1) && decide (d.n Obj.STATE_5400 = 5)) (fun d => d.dabOff .dca 1)) := fun j =>
      (((d.stops_updLink _).trans (Dev.stops_coilOff? _ _)).trans (Dev.stops_when _ _ (fun d => d.stops_setPreSwitch _))).trans
        (Dev.stops_when _ _ (fun d => d.stops_dabOff _ _))
    split
    · exact (h _).trans (Dev.stops_coilOff? _ _)
    · exact h _

theorem Dev.stops_linkShut (d : Dev) : d.StopsOnly d.linkShut :=
  ((d.stops_abortPrecharge.trans (Dev.stops_openSource _ _)).trans (Dev.stops_openSource _ _)).trans (Dev.stops_dischargeStart _)

theorem Dev.stops_actStop (d : Dev) : d.StopsOnly d.actStop := Dev.stops_foldl (fun d _ => d.stops_setO _ _) _ _

theorem Dev.stops_bomStop (d : Dev) : d.StopsOnly d.bomStop :=
  (d.stops_setO _ _).trans (Dev.stops_foldl (fun d _ => d.stops_setO _ _) _ _)

/-- What a Domain-stop can change (R513). -/
theorem Dev.stops_domainStop (d : Dev) (dom : Domain) : d.StopsOnly (domainStop dom d) := by
  cases dom
  · exact .refl d
  · exact (d.stops_setO _ _).trans (Dev.stops_updTrac _ _ _)
  · exact (d.stops_setO _ _).trans (Dev.stops_updTrac _ _ _)
  · exact d.stops_gridOff 0 0
  · exact (d.stops_updDab _ _).trans (Dev.stops_dabOff _ _ _)
  · exact (d.stops_updDab _ _).trans (Dev.stops_dabOff _ _ _)
  · exact d.stops_linkShut
  · exact d.stops_actStop
  · exact d.stops_bomStop

/-- What a Safe-state or Lockout can change (R513). -/
theorem Dev.stops_safeStateAll (d : Dev) : d.StopsOnly (safeStateAll d) := by
  unfold safeStateAll
  refine .trans ?_ (Dev.stops_openRequest _ true)
  exact (((((((d.stops_ascEnter _ _).trans (Dev.stops_ascEnter _ _ _)).trans (Dev.stops_gridOff _ _ _)).trans (Dev.stops_dabOff _ _ _)).trans
    (Dev.stops_dabOff _ _ _)).trans (Dev.stops_linkShut _)).trans (Dev.stops_actStop _)).trans (Dev.stops_bomStop _)

theorem Dev.stops_react (d : Dev) (code : Nat) (dom : Domain) (first : Bool) : d.StopsOnly (d.react code dom first) := by
  unfold Dev.react
  simp only []
  split
  · exact d.stops_domainStop dom
  · split
    · exact (d.stops_safeStateAll).trans (Dev.stops_when _ _ (fun d => d.stops_event 6))
    · exact .refl d

theorem Dev.stops_postmark (d : Dev) (code : Nat) (dom : Domain) (src : FaultSrc) (inj : Bool) : d.StopsOnly (d.postmark code dom src inj) := by
  unfold Dev.postmark
  simp only []
  split
  · exact Dev.stops_setO ..
  · refine .trans ?_ (Dev.stops_event _ _)
    iterate 9 refine .trans ?_ (Dev.stops_setO _ _ _)
    exact Dev.stops_setO ..

/-! ### Raising -/

theorem Dev.raises_logAdd (d : Dev) (code ev kind : Nat) : ∃ l : List LogRec, Dev.StopsOnly { d with coll := { d.coll with log := l } } (d.logAdd code ev kind) :=
  ⟨_, Dev.stops_setO ..⟩

/-- What raising a fault changes (R510, R511). -/
theorem Dev.raises_raiseWith (d : Dev) (code : Nat) (dom : Domain) (src : FaultSrc) (lasting inj : Bool) :
    d.RaisesOnly (d.raiseWith code dom src lasting inj) := by
  unfold Dev.raiseWith
  split
  · obtain ⟨l, h⟩ := d.raises_logAdd code 0 2
    exact ⟨_, h.trans (Dev.stops_postmark ..)⟩
  · split
    · exact ⟨_, .refl _⟩
    · simp only []
      refine ⟨_, .trans (.trans (Dev.stops_setO _ _ _) (Dev.stops_postmark ..)) (Dev.stops_react ..)⟩

theorem Dev.raises_raiseOn (d : Dev) (code : Nat) (dom : Domain) (lasting : Bool) (src : FaultSrc) : d.RaisesOnly (d.raiseOn code dom lasting src) :=
  Dev.raises_raiseWith ..

theorem Dev.raises_raise (d : Dev) (code : Nat) (lasting : Bool) (src : FaultSrc) : d.RaisesOnly (d.raise code lasting src) := Dev.raises_raiseWith ..

/-- A fault above a Notice is in force once it is raised (R510). -/
theorem Dev.inForce_raiseWith (d : Dev) {code : Nat} (dom : Domain) (src : FaultSrc) (lasting inj : Bool) (h : faultClass code ≠ 0) :
    (d.raiseWith code dom src lasting inj).inForce code dom := by
  unfold Dev.raiseWith Dev.inForce
  rw [if_neg h]
  split
  · rename_i hf
    obtain ⟨f, hf, hc⟩ := List.any_eq_true.1 hf
    refine ⟨if f.code == code && f.acts == dom then { f with cause := lasting, quiet := d.wall } else f, List.mem_map_of_mem hf, ?_⟩
    rw [if_pos hc]
    simpa using hc
  · simp only []
    rw [(Dev.stops_react ..).coll, (Dev.stops_postmark ..).coll]
    exact ⟨_, List.mem_append_right _ (List.mem_singleton.2 rfl), rfl, rfl⟩

theorem Dev.inForce_raiseOn (d : Dev) {code : Nat} (dom : Domain) (lasting : Bool) (src : FaultSrc) (h : faultClass code ≠ 0) :
    (d.raiseOn code dom lasting src).inForce code dom := d.inForce_raiseWith dom src lasting false h

theorem Dev.inForce_raise (d : Dev) {code : Nat} (lasting : Bool) (src : FaultSrc) (h : faultClass code ≠ 0) :
    (d.raise code lasting src).inForce code (codeDomain (faultDomain code)) := d.inForce_raiseWith _ src lasting false h

theorem Dev.inForce_settle {d : Dev} {code : Nat} {dom : Domain} (h : d.inForce code dom) : d.settle.inForce code dom := by
  unfold Dev.inForce; rw [Dev.settle_coll]; exact h

/-- A fault in force stays in force while the collector does not change. -/
theorem Dev.StopsOnly.inForce {d e : Dev} (h : d.StopsOnly e) {code : Nat} {dom : Domain} (r : d.inForce code dom) : e.inForce code dom := by
  unfold Dev.inForce; rw [h.coll]; exact r

theorem Dev.StopsOnly.raises {d e : Dev} (h : d.StopsOnly e) : d.RaisesOnly e := ⟨d.coll, h⟩

theorem Dev.ShowsOnly.raises {d e : Dev} (h : d.ShowsOnly e) : d.RaisesOnly e := h.stops.raises

theorem Dev.RaisesOnly.trans {a b c : Dev} (h1 : a.RaisesOnly b) (h2 : b.RaisesOnly c) : a.RaisesOnly c := by
  obtain ⟨k1, ⟨p, rfl⟩, m1⟩ := h1
  obtain ⟨k2, ⟨q, rfl⟩, m2⟩ := h2
  exact ⟨k2, ⟨q, rfl⟩, fun x h => m2 x (m1 x h)⟩

theorem Dev.shows_settle (d : Dev) : d.ShowsOnly d.settle :=
  ⟨⟨⟨d.settle.obj, d.evq, d.trace, d.tracePost, d.traceLost⟩, d.settle_rest⟩, fun x h => by rw [Dev.settle_evq]; exact h⟩

theorem Dev.RaisesOnly.raised {d e : Dev} (h : d.RaisesOnly e) {x : Nat} (r : d.raised x) : e.raised x := by
  obtain ⟨c, h⟩ := h; exact h.raised (d := { d with coll := c }) r

end Sys2Proof.Machine
end

