-- ==== Sys2Proof/Laws/Reactions.lean ====
section
/-! SUPPORT. One lemma per field for the shared reactions: what a raised fault, a Domain-stop and a Safe-state leave unchanged. -/

namespace Sys2Proof.Machine

@[simp] theorem Dev.raiseWith_wall (d : Dev) (c : Nat) (m : Domain) (x : FaultSrc) (a b : Bool) : (d.raiseWith c m x a b).wall = d.wall := by
  obtain ⟨k, h⟩ := d.raises_raiseWith c m x a b; exact h.wall
@[simp] theorem Dev.raise_wall (d : Dev) (c : Nat) (a : Bool) (x : FaultSrc) : (d.raise c a x).wall = d.wall := Dev.raiseWith_wall ..
@[simp] theorem Dev.raiseOn_wall (d : Dev) (c : Nat) (m : Domain) (a : Bool) (x : FaultSrc) : (d.raiseOn c m a x).wall = d.wall := Dev.raiseWith_wall ..
@[simp] theorem Dev.raiseWith_free (d : Dev) (c : Nat) (m : Domain) (x : FaultSrc) (a b : Bool) : (d.raiseWith c m x a b).free = d.free := by
  obtain ⟨k, h⟩ := d.raises_raiseWith c m x a b; exact h.free
@[simp] theorem Dev.raise_free (d : Dev) (c : Nat) (a : Bool) (x : FaultSrc) : (d.raise c a x).free = d.free := Dev.raiseWith_free ..
@[simp] theorem Dev.raiseOn_free (d : Dev) (c : Nat) (m : Domain) (a : Bool) (x : FaultSrc) : (d.raiseOn c m a x).free = d.free := Dev.raiseWith_free ..
@[simp] theorem Dev.raiseWith_blk (d : Dev) (c : Nat) (m : Domain) (x : FaultSrc) (a b : Bool) : (d.raiseWith c m x a b).blk = d.blk := by
  obtain ⟨k, h⟩ := d.raises_raiseWith c m x a b; exact h.blk
@[simp] theorem Dev.raise_blk (d : Dev) (c : Nat) (a : Bool) (x : FaultSrc) : (d.raise c a x).blk = d.blk := Dev.raiseWith_blk ..
@[simp] theorem Dev.raiseOn_blk (d : Dev) (c : Nat) (m : Domain) (a : Bool) (x : FaultSrc) : (d.raiseOn c m a x).blk = d.blk := Dev.raiseWith_blk ..
@[simp] theorem Dev.raiseWith_poison (d : Dev) (c : Nat) (m : Domain) (x : FaultSrc) (a b : Bool) : (d.raiseWith c m x a b).poison = d.poison := by
  obtain ⟨k, h⟩ := d.raises_raiseWith c m x a b; exact h.poison
@[simp] theorem Dev.raise_poison (d : Dev) (c : Nat) (a : Bool) (x : FaultSrc) : (d.raise c a x).poison = d.poison := Dev.raiseWith_poison ..
@[simp] theorem Dev.raiseOn_poison (d : Dev) (c : Nat) (m : Domain) (a : Bool) (x : FaultSrc) : (d.raiseOn c m a x).poison = d.poison := Dev.raiseWith_poison ..
@[simp] theorem Dev.raiseWith_writes (d : Dev) (c : Nat) (m : Domain) (x : FaultSrc) (a b : Bool) : (d.raiseWith c m x a b).writes = d.writes := by
  obtain ⟨k, h⟩ := d.raises_raiseWith c m x a b; exact h.writes
@[simp] theorem Dev.raise_writes (d : Dev) (c : Nat) (a : Bool) (x : FaultSrc) : (d.raise c a x).writes = d.writes := Dev.raiseWith_writes ..
@[simp] theorem Dev.raiseOn_writes (d : Dev) (c : Nat) (m : Domain) (a : Bool) (x : FaultSrc) : (d.raiseOn c m a x).writes = d.writes := Dev.raiseWith_writes ..
@[simp] theorem Dev.raiseWith_result (d : Dev) (c : Nat) (m : Domain) (x : FaultSrc) (a b : Bool) : (d.raiseWith c m x a b).result = d.result := by
  obtain ⟨k, h⟩ := d.raises_raiseWith c m x a b; exact h.result
@[simp] theorem Dev.raise_result (d : Dev) (c : Nat) (a : Bool) (x : FaultSrc) : (d.raise c a x).result = d.result := Dev.raiseWith_result ..
@[simp] theorem Dev.raiseOn_result (d : Dev) (c : Nat) (m : Domain) (a : Bool) (x : FaultSrc) : (d.raiseOn c m a x).result = d.result := Dev.raiseWith_result ..
@[simp] theorem Dev.raiseWith_data (d : Dev) (c : Nat) (m : Domain) (x : FaultSrc) (a b : Bool) : (d.raiseWith c m x a b).data = d.data := by
  obtain ⟨k, h⟩ := d.raises_raiseWith c m x a b; exact h.data
@[simp] theorem Dev.raise_data (d : Dev) (c : Nat) (a : Bool) (x : FaultSrc) : (d.raise c a x).data = d.data := Dev.raiseWith_data ..
@[simp] theorem Dev.raiseOn_data (d : Dev) (c : Nat) (m : Domain) (a : Bool) (x : FaultSrc) : (d.raiseOn c m a x).data = d.data := Dev.raiseWith_data ..
@[simp] theorem Dev.raiseWith_phase (d : Dev) (c : Nat) (m : Domain) (x : FaultSrc) (a b : Bool) : (d.raiseWith c m x a b).phase = d.phase := by
  obtain ⟨k, h⟩ := d.raises_raiseWith c m x a b; exact h.phase
@[simp] theorem Dev.raise_phase (d : Dev) (c : Nat) (a : Bool) (x : FaultSrc) : (d.raise c a x).phase = d.phase := Dev.raiseWith_phase ..
@[simp] theorem Dev.raiseOn_phase (d : Dev) (c : Nat) (m : Domain) (a : Bool) (x : FaultSrc) : (d.raiseOn c m a x).phase = d.phase := Dev.raiseWith_phase ..
@[simp] theorem Dev.raiseWith_resetPending (d : Dev) (c : Nat) (m : Domain) (x : FaultSrc) (a b : Bool) : (d.raiseWith c m x a b).resetPending = d.resetPending := by
  obtain ⟨k, h⟩ := d.raises_raiseWith c m x a b; exact h.resetPending
@[simp] theorem Dev.raise_resetPending (d : Dev) (c : Nat) (a : Bool) (x : FaultSrc) : (d.raise c a x).resetPending = d.resetPending := Dev.raiseWith_resetPending ..
@[simp] theorem Dev.raiseOn_resetPending (d : Dev) (c : Nat) (m : Domain) (a : Bool) (x : FaultSrc) : (d.raiseOn c m a x).resetPending = d.resetPending := Dev.raiseWith_resetPending ..
@[simp] theorem Dev.raiseWith_tracks (d : Dev) (c : Nat) (m : Domain) (x : FaultSrc) (a b : Bool) : (d.raiseWith c m x a b).tracks = d.tracks := by
  obtain ⟨k, h⟩ := d.raises_raiseWith c m x a b; exact h.tracks
@[simp] theorem Dev.raise_tracks (d : Dev) (c : Nat) (a : Bool) (x : FaultSrc) : (d.raise c a x).tracks = d.tracks := Dev.raiseWith_tracks ..
@[simp] theorem Dev.raiseOn_tracks (d : Dev) (c : Nat) (m : Domain) (a : Bool) (x : FaultSrc) : (d.raiseOn c m a x).tracks = d.tracks := Dev.raiseWith_tracks ..
@[simp] theorem Dev.raiseWith_slots (d : Dev) (c : Nat) (m : Domain) (x : FaultSrc) (a b : Bool) : (d.raiseWith c m x a b).slots = d.slots := by
  obtain ⟨k, h⟩ := d.raises_raiseWith c m x a b; exact h.slots
@[simp] theorem Dev.raise_slots (d : Dev) (c : Nat) (a : Bool) (x : FaultSrc) : (d.raise c a x).slots = d.slots := Dev.raiseWith_slots ..
@[simp] theorem Dev.raiseOn_slots (d : Dev) (c : Nat) (m : Domain) (a : Bool) (x : FaultSrc) : (d.raiseOn c m a x).slots = d.slots := Dev.raiseWith_slots ..
@[simp] theorem Dev.raiseWith_ssi (d : Dev) (c : Nat) (m : Domain) (x : FaultSrc) (a b : Bool) : (d.raiseWith c m x a b).ssi = d.ssi := by
  obtain ⟨k, h⟩ := d.raises_raiseWith c m x a b; exact h.ssi
@[simp] theorem Dev.raise_ssi (d : Dev) (c : Nat) (a : Bool) (x : FaultSrc) : (d.raise c a x).ssi = d.ssi := Dev.raiseWith_ssi ..
@[simp] theorem Dev.raiseOn_ssi (d : Dev) (c : Nat) (m : Domain) (a : Bool) (x : FaultSrc) : (d.raiseOn c m a x).ssi = d.ssi := Dev.raiseWith_ssi ..
@[simp] theorem Dev.raiseWith_inc (d : Dev) (c : Nat) (m : Domain) (x : FaultSrc) (a b : Bool) : (d.raiseWith c m x a b).inc = d.inc := by
  obtain ⟨k, h⟩ := d.raises_raiseWith c m x a b; exact h.inc
@[simp] theorem Dev.raise_inc (d : Dev) (c : Nat) (a : Bool) (x : FaultSrc) : (d.raise c a x).inc = d.inc := Dev.raiseWith_inc ..
@[simp] theorem Dev.raiseOn_inc (d : Dev) (c : Nat) (m : Domain) (a : Bool) (x : FaultSrc) : (d.raiseOn c m a x).inc = d.inc := Dev.raiseWith_inc ..
@[simp] theorem Dev.raiseWith_hall (d : Dev) (c : Nat) (m : Domain) (x : FaultSrc) (a b : Bool) : (d.raiseWith c m x a b).hall = d.hall := by
  obtain ⟨k, h⟩ := d.raises_raiseWith c m x a b; exact h.hall
@[simp] theorem Dev.raise_hall (d : Dev) (c : Nat) (a : Bool) (x : FaultSrc) : (d.raise c a x).hall = d.hall := Dev.raiseWith_hall ..
@[simp] theorem Dev.raiseOn_hall (d : Dev) (c : Nat) (m : Domain) (a : Bool) (x : FaultSrc) : (d.raiseOn c m a x).hall = d.hall := Dev.raiseWith_hall ..
@[simp] theorem Dev.raiseWith_pulse (d : Dev) (c : Nat) (m : Domain) (x : FaultSrc) (a b : Bool) : (d.raiseWith c m x a b).pulse = d.pulse := by
  obtain ⟨k, h⟩ := d.raises_raiseWith c m x a b; exact h.pulse
@[simp] theorem Dev.raise_pulse (d : Dev) (c : Nat) (a : Bool) (x : FaultSrc) : (d.raise c a x).pulse = d.pulse := Dev.raiseWith_pulse ..
@[simp] theorem Dev.raiseOn_pulse (d : Dev) (c : Nat) (m : Domain) (a : Bool) (x : FaultSrc) : (d.raiseOn c m a x).pulse = d.pulse := Dev.raiseWith_pulse ..
@[simp] theorem Dev.raiseWith_probes (d : Dev) (c : Nat) (m : Domain) (x : FaultSrc) (a b : Bool) : (d.raiseWith c m x a b).probes = d.probes := by
  obtain ⟨k, h⟩ := d.raises_raiseWith c m x a b; exact h.probes
@[simp] theorem Dev.raise_probes (d : Dev) (c : Nat) (a : Bool) (x : FaultSrc) : (d.raise c a x).probes = d.probes := Dev.raiseWith_probes ..
@[simp] theorem Dev.raiseOn_probes (d : Dev) (c : Nat) (m : Domain) (a : Bool) (x : FaultSrc) : (d.raiseOn c m a x).probes = d.probes := Dev.raiseWith_probes ..
@[simp] theorem Dev.raiseWith_source (d : Dev) (c : Nat) (m : Domain) (x : FaultSrc) (a b : Bool) : (d.raiseWith c m x a b).source = d.source := by
  obtain ⟨k, h⟩ := d.raises_raiseWith c m x a b; exact h.source
@[simp] theorem Dev.raise_source (d : Dev) (c : Nat) (a : Bool) (x : FaultSrc) : (d.raise c a x).source = d.source := Dev.raiseWith_source ..
@[simp] theorem Dev.raiseOn_source (d : Dev) (c : Nat) (m : Domain) (a : Bool) (x : FaultSrc) : (d.raiseOn c m a x).source = d.source := Dev.raiseWith_source ..
@[simp] theorem Dev.raiseWith_imuFailed (d : Dev) (c : Nat) (m : Domain) (x : FaultSrc) (a b : Bool) : (d.raiseWith c m x a b).imuFailed = d.imuFailed := by
  obtain ⟨k, h⟩ := d.raises_raiseWith c m x a b; exact h.imuFailed
@[simp] theorem Dev.raise_imuFailed (d : Dev) (c : Nat) (a : Bool) (x : FaultSrc) : (d.raise c a x).imuFailed = d.imuFailed := Dev.raiseWith_imuFailed ..
@[simp] theorem Dev.raiseOn_imuFailed (d : Dev) (c : Nat) (m : Domain) (a : Bool) (x : FaultSrc) : (d.raiseOn c m a x).imuFailed = d.imuFailed := Dev.raiseWith_imuFailed ..
@[simp] theorem Dev.raiseWith_gates (d : Dev) (c : Nat) (m : Domain) (x : FaultSrc) (a b : Bool) : (d.raiseWith c m x a b).gates = d.gates := by
  obtain ⟨k, h⟩ := d.raises_raiseWith c m x a b; exact h.gates
@[simp] theorem Dev.raise_gates (d : Dev) (c : Nat) (a : Bool) (x : FaultSrc) : (d.raise c a x).gates = d.gates := Dev.raiseWith_gates ..
@[simp] theorem Dev.raiseOn_gates (d : Dev) (c : Nat) (m : Domain) (a : Bool) (x : FaultSrc) : (d.raiseOn c m a x).gates = d.gates := Dev.raiseWith_gates ..
@[simp] theorem Dev.raiseWith_tier3 (d : Dev) (c : Nat) (m : Domain) (x : FaultSrc) (a b : Bool) : (d.raiseWith c m x a b).tier3 = d.tier3 := by
  obtain ⟨k, h⟩ := d.raises_raiseWith c m x a b; exact h.tier3
@[simp] theorem Dev.raise_tier3 (d : Dev) (c : Nat) (a : Bool) (x : FaultSrc) : (d.raise c a x).tier3 = d.tier3 := Dev.raiseWith_tier3 ..
@[simp] theorem Dev.raiseOn_tier3 (d : Dev) (c : Nat) (m : Domain) (a : Bool) (x : FaultSrc) : (d.raiseOn c m a x).tier3 = d.tier3 := Dev.raiseWith_tier3 ..
@[simp] theorem Dev.raiseWith_tier4 (d : Dev) (c : Nat) (m : Domain) (x : FaultSrc) (a b : Bool) : (d.raiseWith c m x a b).tier4 = d.tier4 := by
  obtain ⟨k, h⟩ := d.raises_raiseWith c m x a b; exact h.tier4
@[simp] theorem Dev.raise_tier4 (d : Dev) (c : Nat) (a : Bool) (x : FaultSrc) : (d.raise c a x).tier4 = d.tier4 := Dev.raiseWith_tier4 ..
@[simp] theorem Dev.raiseOn_tier4 (d : Dev) (c : Nat) (m : Domain) (a : Bool) (x : FaultSrc) : (d.raiseOn c m a x).tier4 = d.tier4 := Dev.raiseWith_tier4 ..
@[simp] theorem Dev.raiseWith_ocTrips (d : Dev) (c : Nat) (m : Domain) (x : FaultSrc) (a b : Bool) : (d.raiseWith c m x a b).ocTrips = d.ocTrips := by
  obtain ⟨k, h⟩ := d.raises_raiseWith c m x a b; exact h.ocTrips
@[simp] theorem Dev.raise_ocTrips (d : Dev) (c : Nat) (a : Bool) (x : FaultSrc) : (d.raise c a x).ocTrips = d.ocTrips := Dev.raiseWith_ocTrips ..
@[simp] theorem Dev.raiseOn_ocTrips (d : Dev) (c : Nat) (m : Domain) (a : Bool) (x : FaultSrc) : (d.raiseOn c m a x).ocTrips = d.ocTrips := Dev.raiseWith_ocTrips ..
@[simp] theorem Dev.raiseWith_hnLast (d : Dev) (c : Nat) (m : Domain) (x : FaultSrc) (a b : Bool) : (d.raiseWith c m x a b).hnLast = d.hnLast := by
  obtain ⟨k, h⟩ := d.raises_raiseWith c m x a b; exact h.hnLast
@[simp] theorem Dev.raise_hnLast (d : Dev) (c : Nat) (a : Bool) (x : FaultSrc) : (d.raise c a x).hnLast = d.hnLast := Dev.raiseWith_hnLast ..
@[simp] theorem Dev.raiseOn_hnLast (d : Dev) (c : Nat) (m : Domain) (a : Bool) (x : FaultSrc) : (d.raiseOn c m a x).hnLast = d.hnLast := Dev.raiseWith_hnLast ..
@[simp] theorem Dev.raiseWith_leBlocked (d : Dev) (c : Nat) (m : Domain) (x : FaultSrc) (a b : Bool) : (d.raiseWith c m x a b).leBlocked = d.leBlocked := by
  obtain ⟨k, h⟩ := d.raises_raiseWith c m x a b; exact h.leBlocked
@[simp] theorem Dev.raise_leBlocked (d : Dev) (c : Nat) (a : Bool) (x : FaultSrc) : (d.raise c a x).leBlocked = d.leBlocked := Dev.raiseWith_leBlocked ..
@[simp] theorem Dev.raiseOn_leBlocked (d : Dev) (c : Nat) (m : Domain) (a : Bool) (x : FaultSrc) : (d.raiseOn c m a x).leBlocked = d.leBlocked := Dev.raiseWith_leBlocked ..
@[simp] theorem Dev.raiseWith_leMoving (d : Dev) (c : Nat) (m : Domain) (x : FaultSrc) (a b : Bool) : (d.raiseWith c m x a b).leMoving = d.leMoving := by
  obtain ⟨k, h⟩ := d.raises_raiseWith c m x a b; exact h.leMoving
@[simp] theorem Dev.raise_leMoving (d : Dev) (c : Nat) (a : Bool) (x : FaultSrc) : (d.raise c a x).leMoving = d.leMoving := Dev.raiseWith_leMoving ..
@[simp] theorem Dev.raiseOn_leMoving (d : Dev) (c : Nat) (m : Domain) (a : Bool) (x : FaultSrc) : (d.raiseOn c m a x).leMoving = d.leMoving := Dev.raiseWith_leMoving ..
@[simp] theorem Dev.raiseWith_leLoaded (d : Dev) (c : Nat) (m : Domain) (x : FaultSrc) (a b : Bool) : (d.raiseWith c m x a b).leLoaded = d.leLoaded := by
  obtain ⟨k, h⟩ := d.raises_raiseWith c m x a b; exact h.leLoaded
@[simp] theorem Dev.raise_leLoaded (d : Dev) (c : Nat) (a : Bool) (x : FaultSrc) : (d.raise c a x).leLoaded = d.leLoaded := Dev.raiseWith_leLoaded ..
@[simp] theorem Dev.raiseOn_leLoaded (d : Dev) (c : Nat) (m : Domain) (a : Bool) (x : FaultSrc) : (d.raiseOn c m a x).leLoaded = d.leLoaded := Dev.raiseWith_leLoaded ..
@[simp] theorem Dev.raiseWith_le8Bad (d : Dev) (c : Nat) (m : Domain) (x : FaultSrc) (a b : Bool) : (d.raiseWith c m x a b).le8Bad = d.le8Bad := by
  obtain ⟨k, h⟩ := d.raises_raiseWith c m x a b; exact h.le8Bad
@[simp] theorem Dev.raise_le8Bad (d : Dev) (c : Nat) (a : Bool) (x : FaultSrc) : (d.raise c a x).le8Bad = d.le8Bad := Dev.raiseWith_le8Bad ..
@[simp] theorem Dev.raiseOn_le8Bad (d : Dev) (c : Nat) (m : Domain) (a : Bool) (x : FaultSrc) : (d.raiseOn c m a x).le8Bad = d.le8Bad := Dev.raiseWith_le8Bad ..
@[simp] theorem Dev.raiseWith_feeds (d : Dev) (c : Nat) (m : Domain) (x : FaultSrc) (a b : Bool) : (d.raiseWith c m x a b).feeds = d.feeds := by
  obtain ⟨k, h⟩ := d.raises_raiseWith c m x a b; exact h.feeds
@[simp] theorem Dev.raise_feeds (d : Dev) (c : Nat) (a : Bool) (x : FaultSrc) : (d.raise c a x).feeds = d.feeds := Dev.raiseWith_feeds ..
@[simp] theorem Dev.raiseOn_feeds (d : Dev) (c : Nat) (m : Domain) (a : Bool) (x : FaultSrc) : (d.raiseOn c m a x).feeds = d.feeds := Dev.raiseWith_feeds ..
@[simp] theorem Dev.raiseWith_peers (d : Dev) (c : Nat) (m : Domain) (x : FaultSrc) (a b : Bool) : (d.raiseWith c m x a b).peers = d.peers := by
  obtain ⟨k, h⟩ := d.raises_raiseWith c m x a b; exact h.peers
@[simp] theorem Dev.raise_peers (d : Dev) (c : Nat) (a : Bool) (x : FaultSrc) : (d.raise c a x).peers = d.peers := Dev.raiseWith_peers ..
@[simp] theorem Dev.raiseOn_peers (d : Dev) (c : Nat) (m : Domain) (a : Bool) (x : FaultSrc) : (d.raiseOn c m a x).peers = d.peers := Dev.raiseWith_peers ..
@[simp] theorem Dev.raiseWith_ocHold (d : Dev) (c : Nat) (m : Domain) (x : FaultSrc) (a b : Bool) : (d.raiseWith c m x a b).ocHold = d.ocHold := by
  obtain ⟨k, h⟩ := d.raises_raiseWith c m x a b; exact h.ocHold
@[simp] theorem Dev.raise_ocHold (d : Dev) (c : Nat) (a : Bool) (x : FaultSrc) : (d.raise c a x).ocHold = d.ocHold := Dev.raiseWith_ocHold ..
@[simp] theorem Dev.raiseOn_ocHold (d : Dev) (c : Nat) (m : Domain) (a : Bool) (x : FaultSrc) : (d.raiseOn c m a x).ocHold = d.ocHold := Dev.raiseWith_ocHold ..
@[simp] theorem Dev.raiseWith_testing (d : Dev) (c : Nat) (m : Domain) (x : FaultSrc) (a b : Bool) : (d.raiseWith c m x a b).testing = d.testing := by
  obtain ⟨k, h⟩ := d.raises_raiseWith c m x a b; exact h.testing
@[simp] theorem Dev.raise_testing (d : Dev) (c : Nat) (a : Bool) (x : FaultSrc) : (d.raise c a x).testing = d.testing := Dev.raiseWith_testing ..
@[simp] theorem Dev.raiseOn_testing (d : Dev) (c : Nat) (m : Domain) (a : Bool) (x : FaultSrc) : (d.raiseOn c m a x).testing = d.testing := Dev.raiseWith_testing ..
@[simp] theorem Dev.raiseWith_riseTests (d : Dev) (c : Nat) (m : Domain) (x : FaultSrc) (a b : Bool) : (d.raiseWith c m x a b).riseTests = d.riseTests := by
  obtain ⟨k, h⟩ := d.raises_raiseWith c m x a b; exact h.riseTests
@[simp] theorem Dev.raise_riseTests (d : Dev) (c : Nat) (a : Bool) (x : FaultSrc) : (d.raise c a x).riseTests = d.riseTests := Dev.raiseWith_riseTests ..
@[simp] theorem Dev.raiseOn_riseTests (d : Dev) (c : Nat) (m : Domain) (a : Bool) (x : FaultSrc) : (d.raiseOn c m a x).riseTests = d.riseTests := Dev.raiseWith_riseTests ..
@[simp] theorem Dev.raiseWith_tested (d : Dev) (c : Nat) (m : Domain) (x : FaultSrc) (a b : Bool) : (d.raiseWith c m x a b).tested = d.tested := by
  obtain ⟨k, h⟩ := d.raises_raiseWith c m x a b; exact h.tested
@[simp] theorem Dev.raise_tested (d : Dev) (c : Nat) (a : Bool) (x : FaultSrc) : (d.raise c a x).tested = d.tested := Dev.raiseWith_tested ..
@[simp] theorem Dev.raiseOn_tested (d : Dev) (c : Nat) (m : Domain) (a : Bool) (x : FaultSrc) : (d.raiseOn c m a x).tested = d.tested := Dev.raiseWith_tested ..
@[simp] theorem Dev.raiseWith_driveLow (d : Dev) (c : Nat) (m : Domain) (x : FaultSrc) (a b : Bool) : (d.raiseWith c m x a b).driveLow = d.driveLow := by
  obtain ⟨k, h⟩ := d.raises_raiseWith c m x a b; exact h.driveLow
@[simp] theorem Dev.raise_driveLow (d : Dev) (c : Nat) (a : Bool) (x : FaultSrc) : (d.raise c a x).driveLow = d.driveLow := Dev.raiseWith_driveLow ..
@[simp] theorem Dev.raiseOn_driveLow (d : Dev) (c : Nat) (m : Domain) (a : Bool) (x : FaultSrc) : (d.raiseOn c m a x).driveLow = d.driveLow := Dev.raiseWith_driveLow ..
@[simp] theorem Dev.raiseWith_hbs (d : Dev) (c : Nat) (m : Domain) (x : FaultSrc) (a b : Bool) : (d.raiseWith c m x a b).hbs = d.hbs := by
  obtain ⟨k, h⟩ := d.raises_raiseWith c m x a b; exact h.hbs
@[simp] theorem Dev.raise_hbs (d : Dev) (c : Nat) (a : Bool) (x : FaultSrc) : (d.raise c a x).hbs = d.hbs := Dev.raiseWith_hbs ..
@[simp] theorem Dev.raiseOn_hbs (d : Dev) (c : Nat) (m : Domain) (a : Bool) (x : FaultSrc) : (d.raiseOn c m a x).hbs = d.hbs := Dev.raiseWith_hbs ..
@[simp] theorem Dev.raiseWith_lvs (d : Dev) (c : Nat) (m : Domain) (x : FaultSrc) (a b : Bool) : (d.raiseWith c m x a b).lvs = d.lvs := by
  obtain ⟨k, h⟩ := d.raises_raiseWith c m x a b; exact h.lvs
@[simp] theorem Dev.raise_lvs (d : Dev) (c : Nat) (a : Bool) (x : FaultSrc) : (d.raise c a x).lvs = d.lvs := Dev.raiseWith_lvs ..
@[simp] theorem Dev.raiseOn_lvs (d : Dev) (c : Nat) (m : Domain) (a : Bool) (x : FaultSrc) : (d.raiseOn c m a x).lvs = d.lvs := Dev.raiseWith_lvs ..
@[simp] theorem Dev.raiseWith_bldcs (d : Dev) (c : Nat) (m : Domain) (x : FaultSrc) (a b : Bool) : (d.raiseWith c m x a b).bldcs = d.bldcs := by
  obtain ⟨k, h⟩ := d.raises_raiseWith c m x a b; exact h.bldcs
@[simp] theorem Dev.raise_bldcs (d : Dev) (c : Nat) (a : Bool) (x : FaultSrc) : (d.raise c a x).bldcs = d.bldcs := Dev.raiseWith_bldcs ..
@[simp] theorem Dev.raiseOn_bldcs (d : Dev) (c : Nat) (m : Domain) (a : Bool) (x : FaultSrc) : (d.raiseOn c m a x).bldcs = d.bldcs := Dev.raiseWith_bldcs ..
@[simp] theorem Dev.raiseWith_vlvHigh (d : Dev) (c : Nat) (m : Domain) (x : FaultSrc) (a b : Bool) : (d.raiseWith c m x a b).vlvHigh = d.vlvHigh := by
  obtain ⟨k, h⟩ := d.raises_raiseWith c m x a b; exact h.vlvHigh
@[simp] theorem Dev.raise_vlvHigh (d : Dev) (c : Nat) (a : Bool) (x : FaultSrc) : (d.raise c a x).vlvHigh = d.vlvHigh := Dev.raiseWith_vlvHigh ..
@[simp] theorem Dev.raiseOn_vlvHigh (d : Dev) (c : Nat) (m : Domain) (a : Bool) (x : FaultSrc) : (d.raiseOn c m a x).vlvHigh = d.vlvHigh := Dev.raiseWith_vlvHigh ..
@[simp] theorem Dev.raiseWith_lvLimit (d : Dev) (c : Nat) (m : Domain) (x : FaultSrc) (a b : Bool) : (d.raiseWith c m x a b).lvLimit = d.lvLimit := by
  obtain ⟨k, h⟩ := d.raises_raiseWith c m x a b; exact h.lvLimit
@[simp] theorem Dev.raise_lvLimit (d : Dev) (c : Nat) (a : Bool) (x : FaultSrc) : (d.raise c a x).lvLimit = d.lvLimit := Dev.raiseWith_lvLimit ..
@[simp] theorem Dev.raiseOn_lvLimit (d : Dev) (c : Nat) (m : Domain) (a : Bool) (x : FaultSrc) : (d.raiseOn c m a x).lvLimit = d.lvLimit := Dev.raiseWith_lvLimit ..
@[simp] theorem Dev.raiseWith_axes (d : Dev) (c : Nat) (m : Domain) (x : FaultSrc) (a b : Bool) : (d.raiseWith c m x a b).axes = d.axes := by
  obtain ⟨k, h⟩ := d.raises_raiseWith c m x a b; exact h.axes
@[simp] theorem Dev.raise_axes (d : Dev) (c : Nat) (a : Bool) (x : FaultSrc) : (d.raise c a x).axes = d.axes := Dev.raiseWith_axes ..
@[simp] theorem Dev.raiseOn_axes (d : Dev) (c : Nat) (m : Domain) (a : Bool) (x : FaultSrc) : (d.raiseOn c m a x).axes = d.axes := Dev.raiseWith_axes ..
@[simp] theorem Dev.raiseWith_moves (d : Dev) (c : Nat) (m : Domain) (x : FaultSrc) (a b : Bool) : (d.raiseWith c m x a b).moves = d.moves := by
  obtain ⟨k, h⟩ := d.raises_raiseWith c m x a b; exact h.moves
@[simp] theorem Dev.raise_moves (d : Dev) (c : Nat) (a : Bool) (x : FaultSrc) : (d.raise c a x).moves = d.moves := Dev.raiseWith_moves ..
@[simp] theorem Dev.raiseOn_moves (d : Dev) (c : Nat) (m : Domain) (a : Bool) (x : FaultSrc) : (d.raiseOn c m a x).moves = d.moves := Dev.raiseWith_moves ..
@[simp] theorem Dev.raiseWith_shift (d : Dev) (c : Nat) (m : Domain) (x : FaultSrc) (a b : Bool) : (d.raiseWith c m x a b).shift = d.shift := by
  obtain ⟨k, h⟩ := d.raises_raiseWith c m x a b; exact h.shift
@[simp] theorem Dev.raise_shift (d : Dev) (c : Nat) (a : Bool) (x : FaultSrc) : (d.raise c a x).shift = d.shift := Dev.raiseWith_shift ..
@[simp] theorem Dev.raiseOn_shift (d : Dev) (c : Nat) (m : Domain) (a : Bool) (x : FaultSrc) : (d.raiseOn c m a x).shift = d.shift := Dev.raiseWith_shift ..
@[simp] theorem Dev.raiseWith_ge (d : Dev) (c : Nat) (m : Domain) (x : FaultSrc) (a b : Bool) : (d.raiseWith c m x a b).ge = d.ge := by
  obtain ⟨k, h⟩ := d.raises_raiseWith c m x a b; exact h.ge
@[simp] theorem Dev.raise_ge (d : Dev) (c : Nat) (a : Bool) (x : FaultSrc) : (d.raise c a x).ge = d.ge := Dev.raiseWith_ge ..
@[simp] theorem Dev.raiseOn_ge (d : Dev) (c : Nat) (m : Domain) (a : Bool) (x : FaultSrc) : (d.raiseOn c m a x).ge = d.ge := Dev.raiseWith_ge ..
@[simp] theorem Dev.raiseWith_rows (d : Dev) (c : Nat) (m : Domain) (x : FaultSrc) (a b : Bool) : (d.raiseWith c m x a b).rows = d.rows := by
  obtain ⟨k, h⟩ := d.raises_raiseWith c m x a b; exact h.rows
@[simp] theorem Dev.raise_rows (d : Dev) (c : Nat) (a : Bool) (x : FaultSrc) : (d.raise c a x).rows = d.rows := Dev.raiseWith_rows ..
@[simp] theorem Dev.raiseOn_rows (d : Dev) (c : Nat) (m : Domain) (a : Bool) (x : FaultSrc) : (d.raiseOn c m a x).rows = d.rows := Dev.raiseWith_rows ..
@[simp] theorem Dev.raiseWith_nodes (d : Dev) (c : Nat) (m : Domain) (x : FaultSrc) (a b : Bool) : (d.raiseWith c m x a b).nodes = d.nodes := by
  obtain ⟨k, h⟩ := d.raises_raiseWith c m x a b; exact h.nodes
@[simp] theorem Dev.raise_nodes (d : Dev) (c : Nat) (a : Bool) (x : FaultSrc) : (d.raise c a x).nodes = d.nodes := Dev.raiseWith_nodes ..
@[simp] theorem Dev.raiseOn_nodes (d : Dev) (c : Nat) (m : Domain) (a : Bool) (x : FaultSrc) : (d.raiseOn c m a x).nodes = d.nodes := Dev.raiseWith_nodes ..
@[simp] theorem Dev.raiseWith_chains (d : Dev) (c : Nat) (m : Domain) (x : FaultSrc) (a b : Bool) : (d.raiseWith c m x a b).chains = d.chains := by
  obtain ⟨k, h⟩ := d.raises_raiseWith c m x a b; exact h.chains
@[simp] theorem Dev.raise_chains (d : Dev) (c : Nat) (a : Bool) (x : FaultSrc) : (d.raise c a x).chains = d.chains := Dev.raiseWith_chains ..
@[simp] theorem Dev.raiseOn_chains (d : Dev) (c : Nat) (m : Domain) (a : Bool) (x : FaultSrc) : (d.raiseOn c m a x).chains = d.chains := Dev.raiseWith_chains ..
@[simp] theorem Dev.raiseWith_mbx (d : Dev) (c : Nat) (m : Domain) (x : FaultSrc) (a b : Bool) : (d.raiseWith c m x a b).mbx = d.mbx := by
  obtain ⟨k, h⟩ := d.raises_raiseWith c m x a b; exact h.mbx
@[simp] theorem Dev.raise_mbx (d : Dev) (c : Nat) (a : Bool) (x : FaultSrc) : (d.raise c a x).mbx = d.mbx := Dev.raiseWith_mbx ..
@[simp] theorem Dev.raiseOn_mbx (d : Dev) (c : Nat) (m : Domain) (a : Bool) (x : FaultSrc) : (d.raiseOn c m a x).mbx = d.mbx := Dev.raiseWith_mbx ..
@[simp] theorem Dev.raiseWith_dead (d : Dev) (c : Nat) (m : Domain) (x : FaultSrc) (a b : Bool) : (d.raiseWith c m x a b).dead = d.dead := by
  obtain ⟨k, h⟩ := d.raises_raiseWith c m x a b; exact h.dead
@[simp] theorem Dev.raise_dead (d : Dev) (c : Nat) (a : Bool) (x : FaultSrc) : (d.raise c a x).dead = d.dead := Dev.raiseWith_dead ..
@[simp] theorem Dev.raiseOn_dead (d : Dev) (c : Nat) (m : Domain) (a : Bool) (x : FaultSrc) : (d.raiseOn c m a x).dead = d.dead := Dev.raiseWith_dead ..
@[simp] theorem Dev.raiseWith_sessions (d : Dev) (c : Nat) (m : Domain) (x : FaultSrc) (a b : Bool) : (d.raiseWith c m x a b).sessions = d.sessions := by
  obtain ⟨k, h⟩ := d.raises_raiseWith c m x a b; exact h.sessions
@[simp] theorem Dev.raise_sessions (d : Dev) (c : Nat) (a : Bool) (x : FaultSrc) : (d.raise c a x).sessions = d.sessions := Dev.raiseWith_sessions ..
@[simp] theorem Dev.raiseOn_sessions (d : Dev) (c : Nat) (m : Domain) (a : Bool) (x : FaultSrc) : (d.raiseOn c m a x).sessions = d.sessions := Dev.raiseWith_sessions ..
@[simp] theorem Dev.raiseWith_wrongTags (d : Dev) (c : Nat) (m : Domain) (x : FaultSrc) (a b : Bool) : (d.raiseWith c m x a b).wrongTags = d.wrongTags := by
  obtain ⟨k, h⟩ := d.raises_raiseWith c m x a b; exact h.wrongTags
@[simp] theorem Dev.raise_wrongTags (d : Dev) (c : Nat) (a : Bool) (x : FaultSrc) : (d.raise c a x).wrongTags = d.wrongTags := Dev.raiseWith_wrongTags ..
@[simp] theorem Dev.raiseOn_wrongTags (d : Dev) (c : Nat) (m : Domain) (a : Bool) (x : FaultSrc) : (d.raiseOn c m a x).wrongTags = d.wrongTags := Dev.raiseWith_wrongTags ..
@[simp] theorem Dev.raiseWith_barred (d : Dev) (c : Nat) (m : Domain) (x : FaultSrc) (a b : Bool) : (d.raiseWith c m x a b).barred = d.barred := by
  obtain ⟨k, h⟩ := d.raises_raiseWith c m x a b; exact h.barred
@[simp] theorem Dev.raise_barred (d : Dev) (c : Nat) (a : Bool) (x : FaultSrc) : (d.raise c a x).barred = d.barred := Dev.raiseWith_barred ..
@[simp] theorem Dev.raiseOn_barred (d : Dev) (c : Nat) (m : Domain) (a : Bool) (x : FaultSrc) : (d.raiseOn c m a x).barred = d.barred := Dev.raiseWith_barred ..
@[simp] theorem Dev.raiseWith_busOff (d : Dev) (c : Nat) (m : Domain) (x : FaultSrc) (a b : Bool) : (d.raiseWith c m x a b).busOff = d.busOff := by
  obtain ⟨k, h⟩ := d.raises_raiseWith c m x a b; exact h.busOff
@[simp] theorem Dev.raise_busOff (d : Dev) (c : Nat) (a : Bool) (x : FaultSrc) : (d.raise c a x).busOff = d.busOff := Dev.raiseWith_busOff ..
@[simp] theorem Dev.raiseOn_busOff (d : Dev) (c : Nat) (m : Domain) (a : Bool) (x : FaultSrc) : (d.raiseOn c m a x).busOff = d.busOff := Dev.raiseWith_busOff ..
@[simp] theorem Dev.raiseWith_busOffAt (d : Dev) (c : Nat) (m : Domain) (x : FaultSrc) (a b : Bool) : (d.raiseWith c m x a b).busOffAt = d.busOffAt := by
  obtain ⟨k, h⟩ := d.raises_raiseWith c m x a b; exact h.busOffAt
@[simp] theorem Dev.raise_busOffAt (d : Dev) (c : Nat) (a : Bool) (x : FaultSrc) : (d.raise c a x).busOffAt = d.busOffAt := Dev.raiseWith_busOffAt ..
@[simp] theorem Dev.raiseOn_busOffAt (d : Dev) (c : Nat) (m : Domain) (a : Bool) (x : FaultSrc) : (d.raiseOn c m a x).busOffAt = d.busOffAt := Dev.raiseWith_busOffAt ..
@[simp] theorem Dev.raiseWith_busSlow (d : Dev) (c : Nat) (m : Domain) (x : FaultSrc) (a b : Bool) : (d.raiseWith c m x a b).busSlow = d.busSlow := by
  obtain ⟨k, h⟩ := d.raises_raiseWith c m x a b; exact h.busSlow
@[simp] theorem Dev.raise_busSlow (d : Dev) (c : Nat) (a : Bool) (x : FaultSrc) : (d.raise c a x).busSlow = d.busSlow := Dev.raiseWith_busSlow ..
@[simp] theorem Dev.raiseOn_busSlow (d : Dev) (c : Nat) (m : Domain) (a : Bool) (x : FaultSrc) : (d.raiseOn c m a x).busSlow = d.busSlow := Dev.raiseWith_busSlow ..
@[simp] theorem Dev.raiseWith_claim (d : Dev) (c : Nat) (m : Domain) (x : FaultSrc) (a b : Bool) : (d.raiseWith c m x a b).claim = d.claim := by
  obtain ⟨k, h⟩ := d.raises_raiseWith c m x a b; exact h.claim
@[simp] theorem Dev.raise_claim (d : Dev) (c : Nat) (a : Bool) (x : FaultSrc) : (d.raise c a x).claim = d.claim := Dev.raiseWith_claim ..
@[simp] theorem Dev.raiseOn_claim (d : Dev) (c : Nat) (m : Domain) (a : Bool) (x : FaultSrc) : (d.raiseOn c m a x).claim = d.claim := Dev.raiseWith_claim ..
@[simp] theorem Dev.raiseWith_claimAddr (d : Dev) (c : Nat) (m : Domain) (x : FaultSrc) (a b : Bool) : (d.raiseWith c m x a b).claimAddr = d.claimAddr := by
  obtain ⟨k, h⟩ := d.raises_raiseWith c m x a b; exact h.claimAddr
@[simp] theorem Dev.raise_claimAddr (d : Dev) (c : Nat) (a : Bool) (x : FaultSrc) : (d.raise c a x).claimAddr = d.claimAddr := Dev.raiseWith_claimAddr ..
@[simp] theorem Dev.raiseOn_claimAddr (d : Dev) (c : Nat) (m : Domain) (a : Bool) (x : FaultSrc) : (d.raiseOn c m a x).claimAddr = d.claimAddr := Dev.raiseWith_claimAddr ..
@[simp] theorem Dev.raiseWith_claimLast (d : Dev) (c : Nat) (m : Domain) (x : FaultSrc) (a b : Bool) : (d.raiseWith c m x a b).claimLast = d.claimLast := by
  obtain ⟨k, h⟩ := d.raises_raiseWith c m x a b; exact h.claimLast
@[simp] theorem Dev.raise_claimLast (d : Dev) (c : Nat) (a : Bool) (x : FaultSrc) : (d.raise c a x).claimLast = d.claimLast := Dev.raiseWith_claimLast ..
@[simp] theorem Dev.raiseOn_claimLast (d : Dev) (c : Nat) (m : Domain) (a : Bool) (x : FaultSrc) : (d.raiseOn c m a x).claimLast = d.claimLast := Dev.raiseWith_claimLast ..
@[simp] theorem Dev.raiseWith_ethSent (d : Dev) (c : Nat) (m : Domain) (x : FaultSrc) (a b : Bool) : (d.raiseWith c m x a b).ethSent = d.ethSent := by
  obtain ⟨k, h⟩ := d.raises_raiseWith c m x a b; exact h.ethSent
@[simp] theorem Dev.raise_ethSent (d : Dev) (c : Nat) (a : Bool) (x : FaultSrc) : (d.raise c a x).ethSent = d.ethSent := Dev.raiseWith_ethSent ..
@[simp] theorem Dev.raiseOn_ethSent (d : Dev) (c : Nat) (m : Domain) (a : Bool) (x : FaultSrc) : (d.raiseOn c m a x).ethSent = d.ethSent := Dev.raiseWith_ethSent ..
@[simp] theorem Dev.raiseWith_notes (d : Dev) (c : Nat) (m : Domain) (x : FaultSrc) (a b : Bool) : (d.raiseWith c m x a b).notes = d.notes := by
  obtain ⟨k, h⟩ := d.raises_raiseWith c m x a b; exact h.notes
@[simp] theorem Dev.raise_notes (d : Dev) (c : Nat) (a : Bool) (x : FaultSrc) : (d.raise c a x).notes = d.notes := Dev.raiseWith_notes ..
@[simp] theorem Dev.raiseOn_notes (d : Dev) (c : Nat) (m : Domain) (a : Bool) (x : FaultSrc) : (d.raiseOn c m a x).notes = d.notes := Dev.raiseWith_notes ..
@[simp] theorem Dev.raiseWith_pool (d : Dev) (c : Nat) (m : Domain) (x : FaultSrc) (a b : Bool) : (d.raiseWith c m x a b).pool = d.pool := by
  obtain ⟨k, h⟩ := d.raises_raiseWith c m x a b; exact h.pool
@[simp] theorem Dev.raise_pool (d : Dev) (c : Nat) (a : Bool) (x : FaultSrc) : (d.raise c a x).pool = d.pool := Dev.raiseWith_pool ..
@[simp] theorem Dev.raiseOn_pool (d : Dev) (c : Nat) (m : Domain) (a : Bool) (x : FaultSrc) : (d.raiseOn c m a x).pool = d.pool := Dev.raiseWith_pool ..
@[simp] theorem Dev.raiseWith_poolShown (d : Dev) (c : Nat) (m : Domain) (x : FaultSrc) (a b : Bool) : (d.raiseWith c m x a b).poolShown = d.poolShown := by
  obtain ⟨k, h⟩ := d.raises_raiseWith c m x a b; exact h.poolShown
@[simp] theorem Dev.raise_poolShown (d : Dev) (c : Nat) (a : Bool) (x : FaultSrc) : (d.raise c a x).poolShown = d.poolShown := Dev.raiseWith_poolShown ..
@[simp] theorem Dev.raiseOn_poolShown (d : Dev) (c : Nat) (m : Domain) (a : Bool) (x : FaultSrc) : (d.raiseOn c m a x).poolShown = d.poolShown := Dev.raiseWith_poolShown ..
@[simp] theorem Dev.raiseWith_couriers (d : Dev) (c : Nat) (m : Domain) (x : FaultSrc) (a b : Bool) : (d.raiseWith c m x a b).couriers = d.couriers := by
  obtain ⟨k, h⟩ := d.raises_raiseWith c m x a b; exact h.couriers
@[simp] theorem Dev.raise_couriers (d : Dev) (c : Nat) (a : Bool) (x : FaultSrc) : (d.raise c a x).couriers = d.couriers := Dev.raiseWith_couriers ..
@[simp] theorem Dev.raiseOn_couriers (d : Dev) (c : Nat) (m : Domain) (a : Bool) (x : FaultSrc) : (d.raiseOn c m a x).couriers = d.couriers := Dev.raiseWith_couriers ..
@[simp] theorem Dev.raiseWith_sps (d : Dev) (c : Nat) (m : Domain) (x : FaultSrc) (a b : Bool) : (d.raiseWith c m x a b).sps = d.sps := by
  obtain ⟨k, h⟩ := d.raises_raiseWith c m x a b; exact h.sps
@[simp] theorem Dev.raise_sps (d : Dev) (c : Nat) (a : Bool) (x : FaultSrc) : (d.raise c a x).sps = d.sps := Dev.raiseWith_sps ..
@[simp] theorem Dev.raiseOn_sps (d : Dev) (c : Nat) (m : Domain) (a : Bool) (x : FaultSrc) : (d.raiseOn c m a x).sps = d.sps := Dev.raiseWith_sps ..
@[simp] theorem Dev.raiseWith_mems (d : Dev) (c : Nat) (m : Domain) (x : FaultSrc) (a b : Bool) : (d.raiseWith c m x a b).mems = d.mems := by
  obtain ⟨k, h⟩ := d.raises_raiseWith c m x a b; exact h.mems
@[simp] theorem Dev.raise_mems (d : Dev) (c : Nat) (a : Bool) (x : FaultSrc) : (d.raise c a x).mems = d.mems := Dev.raiseWith_mems ..
@[simp] theorem Dev.raiseOn_mems (d : Dev) (c : Nat) (m : Domain) (a : Bool) (x : FaultSrc) : (d.raiseOn c m a x).mems = d.mems := Dev.raiseWith_mems ..
@[simp] theorem Dev.raiseWith_mRecords (d : Dev) (c : Nat) (m : Domain) (x : FaultSrc) (a b : Bool) : (d.raiseWith c m x a b).mRecords = d.mRecords := by
  obtain ⟨k, h⟩ := d.raises_raiseWith c m x a b; exact h.mRecords
@[simp] theorem Dev.raise_mRecords (d : Dev) (c : Nat) (a : Bool) (x : FaultSrc) : (d.raise c a x).mRecords = d.mRecords := Dev.raiseWith_mRecords ..
@[simp] theorem Dev.raiseOn_mRecords (d : Dev) (c : Nat) (m : Domain) (a : Bool) (x : FaultSrc) : (d.raiseOn c m a x).mRecords = d.mRecords := Dev.raiseWith_mRecords ..
@[simp] theorem Dev.raiseWith_fuse (d : Dev) (c : Nat) (m : Domain) (x : FaultSrc) (a b : Bool) : (d.raiseWith c m x a b).fuse = d.fuse := by
  obtain ⟨k, h⟩ := d.raises_raiseWith c m x a b; exact h.fuse
@[simp] theorem Dev.raise_fuse (d : Dev) (c : Nat) (a : Bool) (x : FaultSrc) : (d.raise c a x).fuse = d.fuse := Dev.raiseWith_fuse ..
@[simp] theorem Dev.raiseOn_fuse (d : Dev) (c : Nat) (m : Domain) (a : Bool) (x : FaultSrc) : (d.raiseOn c m a x).fuse = d.fuse := Dev.raiseWith_fuse ..
@[simp] theorem Dev.raiseWith_slotsAB (d : Dev) (c : Nat) (m : Domain) (x : FaultSrc) (a b : Bool) : (d.raiseWith c m x a b).slotsAB = d.slotsAB := by
  obtain ⟨k, h⟩ := d.raises_raiseWith c m x a b; exact h.slotsAB
@[simp] theorem Dev.raise_slotsAB (d : Dev) (c : Nat) (a : Bool) (x : FaultSrc) : (d.raise c a x).slotsAB = d.slotsAB := Dev.raiseWith_slotsAB ..
@[simp] theorem Dev.raiseOn_slotsAB (d : Dev) (c : Nat) (m : Domain) (a : Bool) (x : FaultSrc) : (d.raiseOn c m a x).slotsAB = d.slotsAB := Dev.raiseWith_slotsAB ..
@[simp] theorem Dev.raiseWith_update (d : Dev) (c : Nat) (m : Domain) (x : FaultSrc) (a b : Bool) : (d.raiseWith c m x a b).update = d.update := by
  obtain ⟨k, h⟩ := d.raises_raiseWith c m x a b; exact h.update
@[simp] theorem Dev.raise_update (d : Dev) (c : Nat) (a : Bool) (x : FaultSrc) : (d.raise c a x).update = d.update := Dev.raiseWith_update ..
@[simp] theorem Dev.raiseOn_update (d : Dev) (c : Nat) (m : Domain) (a : Bool) (x : FaultSrc) : (d.raiseOn c m a x).update = d.update := Dev.raiseWith_update ..
@[simp] theorem Dev.raiseWith_line (d : Dev) (c : Nat) (m : Domain) (x : FaultSrc) (a b : Bool) : (d.raiseWith c m x a b).line = d.line := by
  obtain ⟨k, h⟩ := d.raises_raiseWith c m x a b; exact h.line
@[simp] theorem Dev.raise_line (d : Dev) (c : Nat) (a : Bool) (x : FaultSrc) : (d.raise c a x).line = d.line := Dev.raiseWith_line ..
@[simp] theorem Dev.raiseOn_line (d : Dev) (c : Nat) (m : Domain) (a : Bool) (x : FaultSrc) : (d.raiseOn c m a x).line = d.line := Dev.raiseWith_line ..
@[simp] theorem Dev.raiseWith_nonces (d : Dev) (c : Nat) (m : Domain) (x : FaultSrc) (a b : Bool) : (d.raiseWith c m x a b).nonces = d.nonces := by
  obtain ⟨k, h⟩ := d.raises_raiseWith c m x a b; exact h.nonces
@[simp] theorem Dev.raise_nonces (d : Dev) (c : Nat) (a : Bool) (x : FaultSrc) : (d.raise c a x).nonces = d.nonces := Dev.raiseWith_nonces ..
@[simp] theorem Dev.raiseOn_nonces (d : Dev) (c : Nat) (m : Domain) (a : Bool) (x : FaultSrc) : (d.raiseOn c m a x).nonces = d.nonces := Dev.raiseWith_nonces ..
@[simp] theorem Dev.raiseWith_flashJobs (d : Dev) (c : Nat) (m : Domain) (x : FaultSrc) (a b : Bool) : (d.raiseWith c m x a b).flashJobs = d.flashJobs := by
  obtain ⟨k, h⟩ := d.raises_raiseWith c m x a b; exact h.flashJobs
@[simp] theorem Dev.raise_flashJobs (d : Dev) (c : Nat) (a : Bool) (x : FaultSrc) : (d.raise c a x).flashJobs = d.flashJobs := Dev.raiseWith_flashJobs ..
@[simp] theorem Dev.raiseOn_flashJobs (d : Dev) (c : Nat) (m : Domain) (a : Bool) (x : FaultSrc) : (d.raiseOn c m a x).flashJobs = d.flashJobs := Dev.raiseWith_flashJobs ..
@[simp] theorem Dev.raiseWith_power (d : Dev) (c : Nat) (m : Domain) (x : FaultSrc) (a b : Bool) : (d.raiseWith c m x a b).power = d.power := by
  obtain ⟨k, h⟩ := d.raises_raiseWith c m x a b; exact h.power
@[simp] theorem Dev.raise_power (d : Dev) (c : Nat) (a : Bool) (x : FaultSrc) : (d.raise c a x).power = d.power := Dev.raiseWith_power ..
@[simp] theorem Dev.raiseOn_power (d : Dev) (c : Nat) (m : Domain) (a : Bool) (x : FaultSrc) : (d.raiseOn c m a x).power = d.power := Dev.raiseWith_power ..
@[simp] theorem Dev.raiseWith_kept (d : Dev) (c : Nat) (m : Domain) (x : FaultSrc) (a b : Bool) : (d.raiseWith c m x a b).kept = d.kept := by
  obtain ⟨k, h⟩ := d.raises_raiseWith c m x a b; exact h.kept
@[simp] theorem Dev.raise_kept (d : Dev) (c : Nat) (a : Bool) (x : FaultSrc) : (d.raise c a x).kept = d.kept := Dev.raiseWith_kept ..
@[simp] theorem Dev.raiseOn_kept (d : Dev) (c : Nat) (m : Domain) (a : Bool) (x : FaultSrc) : (d.raiseOn c m a x).kept = d.kept := Dev.raiseWith_kept ..
@[simp] theorem Dev.raiseWith_nfLevel (d : Dev) (c : Nat) (m : Domain) (x : FaultSrc) (a b : Bool) : (d.raiseWith c m x a b).nfLevel = d.nfLevel := by
  obtain ⟨k, h⟩ := d.raises_raiseWith c m x a b; exact h.nfLevel
@[simp] theorem Dev.raise_nfLevel (d : Dev) (c : Nat) (a : Bool) (x : FaultSrc) : (d.raise c a x).nfLevel = d.nfLevel := Dev.raiseWith_nfLevel ..
@[simp] theorem Dev.raiseOn_nfLevel (d : Dev) (c : Nat) (m : Domain) (a : Bool) (x : FaultSrc) : (d.raiseOn c m a x).nfLevel = d.nfLevel := Dev.raiseWith_nfLevel ..
@[simp] theorem Dev.raiseWith_nfSeen (d : Dev) (c : Nat) (m : Domain) (x : FaultSrc) (a b : Bool) : (d.raiseWith c m x a b).nfSeen = d.nfSeen := by
  obtain ⟨k, h⟩ := d.raises_raiseWith c m x a b; exact h.nfSeen
@[simp] theorem Dev.raise_nfSeen (d : Dev) (c : Nat) (a : Bool) (x : FaultSrc) : (d.raise c a x).nfSeen = d.nfSeen := Dev.raiseWith_nfSeen ..
@[simp] theorem Dev.raiseOn_nfSeen (d : Dev) (c : Nat) (m : Domain) (a : Bool) (x : FaultSrc) : (d.raiseOn c m a x).nfSeen = d.nfSeen := Dev.raiseWith_nfSeen ..
@[simp] theorem Dev.raiseWith_nfPulse (d : Dev) (c : Nat) (m : Domain) (x : FaultSrc) (a b : Bool) : (d.raiseWith c m x a b).nfPulse = d.nfPulse := by
  obtain ⟨k, h⟩ := d.raises_raiseWith c m x a b; exact h.nfPulse
@[simp] theorem Dev.raise_nfPulse (d : Dev) (c : Nat) (a : Bool) (x : FaultSrc) : (d.raise c a x).nfPulse = d.nfPulse := Dev.raiseWith_nfPulse ..
@[simp] theorem Dev.raiseOn_nfPulse (d : Dev) (c : Nat) (m : Domain) (a : Bool) (x : FaultSrc) : (d.raiseOn c m a x).nfPulse = d.nfPulse := Dev.raiseWith_nfPulse ..
@[simp] theorem Dev.raiseWith_hnLost (d : Dev) (c : Nat) (m : Domain) (x : FaultSrc) (a b : Bool) : (d.raiseWith c m x a b).hnLost = d.hnLost := by
  obtain ⟨k, h⟩ := d.raises_raiseWith c m x a b; exact h.hnLost
@[simp] theorem Dev.raise_hnLost (d : Dev) (c : Nat) (a : Bool) (x : FaultSrc) : (d.raise c a x).hnLost = d.hnLost := Dev.raiseWith_hnLost ..
@[simp] theorem Dev.raiseOn_hnLost (d : Dev) (c : Nat) (m : Domain) (a : Bool) (x : FaultSrc) : (d.raiseOn c m a x).hnLost = d.hnLost := Dev.raiseWith_hnLost ..
@[simp] theorem Dev.raiseWith_hnBad (d : Dev) (c : Nat) (m : Domain) (x : FaultSrc) (a b : Bool) : (d.raiseWith c m x a b).hnBad = d.hnBad := by
  obtain ⟨k, h⟩ := d.raises_raiseWith c m x a b; exact h.hnBad
@[simp] theorem Dev.raise_hnBad (d : Dev) (c : Nat) (a : Bool) (x : FaultSrc) : (d.raise c a x).hnBad = d.hnBad := Dev.raiseWith_hnBad ..
@[simp] theorem Dev.raiseOn_hnBad (d : Dev) (c : Nat) (m : Domain) (a : Bool) (x : FaultSrc) : (d.raiseOn c m a x).hnBad = d.hnBad := Dev.raiseWith_hnBad ..
@[simp] theorem Dev.raiseWith_hnCount (d : Dev) (c : Nat) (m : Domain) (x : FaultSrc) (a b : Bool) : (d.raiseWith c m x a b).hnCount = d.hnCount := by
  obtain ⟨k, h⟩ := d.raises_raiseWith c m x a b; exact h.hnCount
@[simp] theorem Dev.raise_hnCount (d : Dev) (c : Nat) (a : Bool) (x : FaultSrc) : (d.raise c a x).hnCount = d.hnCount := Dev.raiseWith_hnCount ..
@[simp] theorem Dev.raiseOn_hnCount (d : Dev) (c : Nat) (m : Domain) (a : Bool) (x : FaultSrc) : (d.raiseOn c m a x).hnCount = d.hnCount := Dev.raiseWith_hnCount ..
@[simp] theorem Dev.raiseWith_monitor (d : Dev) (c : Nat) (m : Domain) (x : FaultSrc) (a b : Bool) : (d.raiseWith c m x a b).monitor = d.monitor := by
  obtain ⟨k, h⟩ := d.raises_raiseWith c m x a b; exact h.monitor
@[simp] theorem Dev.raise_monitor (d : Dev) (c : Nat) (a : Bool) (x : FaultSrc) : (d.raise c a x).monitor = d.monitor := Dev.raiseWith_monitor ..
@[simp] theorem Dev.raiseOn_monitor (d : Dev) (c : Nat) (m : Domain) (a : Bool) (x : FaultSrc) : (d.raiseOn c m a x).monitor = d.monitor := Dev.raiseWith_monitor ..
@[simp] theorem Dev.raiseWith_sar (d : Dev) (c : Nat) (m : Domain) (x : FaultSrc) (a b : Bool) : (d.raiseWith c m x a b).sar = d.sar := by
  obtain ⟨k, h⟩ := d.raises_raiseWith c m x a b; exact h.sar
@[simp] theorem Dev.raise_sar (d : Dev) (c : Nat) (a : Bool) (x : FaultSrc) : (d.raise c a x).sar = d.sar := Dev.raiseWith_sar ..
@[simp] theorem Dev.raiseOn_sar (d : Dev) (c : Nat) (m : Domain) (a : Bool) (x : FaultSrc) : (d.raiseOn c m a x).sar = d.sar := Dev.raiseWith_sar ..
@[simp] theorem Dev.raiseWith_sensors (d : Dev) (c : Nat) (m : Domain) (x : FaultSrc) (a b : Bool) : (d.raiseWith c m x a b).sensors = d.sensors := by
  obtain ⟨k, h⟩ := d.raises_raiseWith c m x a b; exact h.sensors
@[simp] theorem Dev.raise_sensors (d : Dev) (c : Nat) (a : Bool) (x : FaultSrc) : (d.raise c a x).sensors = d.sensors := Dev.raiseWith_sensors ..
@[simp] theorem Dev.raiseOn_sensors (d : Dev) (c : Nat) (m : Domain) (a : Bool) (x : FaultSrc) : (d.raiseOn c m a x).sensors = d.sensors := Dev.raiseWith_sensors ..
@[simp] theorem Dev.raiseWith_die (d : Dev) (c : Nat) (m : Domain) (x : FaultSrc) (a b : Bool) : (d.raiseWith c m x a b).die = d.die := by
  obtain ⟨k, h⟩ := d.raises_raiseWith c m x a b; exact h.die
@[simp] theorem Dev.raise_die (d : Dev) (c : Nat) (a : Bool) (x : FaultSrc) : (d.raise c a x).die = d.die := Dev.raiseWith_die ..
@[simp] theorem Dev.raiseOn_die (d : Dev) (c : Nat) (m : Domain) (a : Bool) (x : FaultSrc) : (d.raiseOn c m a x).die = d.die := Dev.raiseWith_die ..
@[simp] theorem Dev.raiseWith_pauses (d : Dev) (c : Nat) (m : Domain) (x : FaultSrc) (a b : Bool) : (d.raiseWith c m x a b).pauses = d.pauses := by
  obtain ⟨k, h⟩ := d.raises_raiseWith c m x a b; exact h.pauses
@[simp] theorem Dev.raise_pauses (d : Dev) (c : Nat) (a : Bool) (x : FaultSrc) : (d.raise c a x).pauses = d.pauses := Dev.raiseWith_pauses ..
@[simp] theorem Dev.raiseOn_pauses (d : Dev) (c : Nat) (m : Domain) (a : Bool) (x : FaultSrc) : (d.raiseOn c m a x).pauses = d.pauses := Dev.raiseWith_pauses ..
@[simp] theorem Dev.raiseWith_crcInject (d : Dev) (c : Nat) (m : Domain) (x : FaultSrc) (a b : Bool) : (d.raiseWith c m x a b).crcInject = d.crcInject := by
  obtain ⟨k, h⟩ := d.raises_raiseWith c m x a b; exact h.crcInject
@[simp] theorem Dev.raise_crcInject (d : Dev) (c : Nat) (a : Bool) (x : FaultSrc) : (d.raise c a x).crcInject = d.crcInject := Dev.raiseWith_crcInject ..
@[simp] theorem Dev.raiseOn_crcInject (d : Dev) (c : Nat) (m : Domain) (a : Bool) (x : FaultSrc) : (d.raiseOn c m a x).crcInject = d.crcInject := Dev.raiseWith_crcInject ..
@[simp] theorem Dev.raiseWith_limited (d : Dev) (c : Nat) (m : Domain) (x : FaultSrc) (a b : Bool) : (d.raiseWith c m x a b).limited = d.limited := by
  obtain ⟨k, h⟩ := d.raises_raiseWith c m x a b; exact h.limited
@[simp] theorem Dev.raise_limited (d : Dev) (c : Nat) (a : Bool) (x : FaultSrc) : (d.raise c a x).limited = d.limited := Dev.raiseWith_limited ..
@[simp] theorem Dev.raiseOn_limited (d : Dev) (c : Nat) (m : Domain) (a : Bool) (x : FaultSrc) : (d.raiseOn c m a x).limited = d.limited := Dev.raiseWith_limited ..
@[simp] theorem Dev.raiseWith_j9 (d : Dev) (c : Nat) (m : Domain) (x : FaultSrc) (a b : Bool) : (d.raiseWith c m x a b).j9 = d.j9 := by
  obtain ⟨k, h⟩ := d.raises_raiseWith c m x a b; exact h.j9
@[simp] theorem Dev.raise_j9 (d : Dev) (c : Nat) (a : Bool) (x : FaultSrc) : (d.raise c a x).j9 = d.j9 := Dev.raiseWith_j9 ..
@[simp] theorem Dev.raiseOn_j9 (d : Dev) (c : Nat) (m : Domain) (a : Bool) (x : FaultSrc) : (d.raiseOn c m a x).j9 = d.j9 := Dev.raiseWith_j9 ..
@[simp] theorem Dev.raiseWith_reply (d : Dev) (c : Nat) (m : Domain) (x : FaultSrc) (a b : Bool) : (d.raiseWith c m x a b).reply = d.reply := by
  obtain ⟨k, h⟩ := d.raises_raiseWith c m x a b; exact h.reply
@[simp] theorem Dev.raise_reply (d : Dev) (c : Nat) (a : Bool) (x : FaultSrc) : (d.raise c a x).reply = d.reply := Dev.raiseWith_reply ..
@[simp] theorem Dev.raiseOn_reply (d : Dev) (c : Nat) (m : Domain) (a : Bool) (x : FaultSrc) : (d.raiseOn c m a x).reply = d.reply := Dev.raiseWith_reply ..
@[simp] theorem Dev.raiseWith_hsp (d : Dev) (c : Nat) (m : Domain) (x : FaultSrc) (a b : Bool) : (d.raiseWith c m x a b).hsp = d.hsp := by
  obtain ⟨k, h⟩ := d.raises_raiseWith c m x a b; exact h.hsp
@[simp] theorem Dev.raise_hsp (d : Dev) (c : Nat) (a : Bool) (x : FaultSrc) : (d.raise c a x).hsp = d.hsp := Dev.raiseWith_hsp ..
@[simp] theorem Dev.raiseOn_hsp (d : Dev) (c : Nat) (m : Domain) (a : Bool) (x : FaultSrc) : (d.raiseOn c m a x).hsp = d.hsp := Dev.raiseWith_hsp ..
@[simp] theorem domainStop_wall (d : Dev) (m : Domain) : (domainStop m d).wall = d.wall := (d.stops_domainStop m).wall
@[simp] theorem safeStateAll_wall (d : Dev) : (safeStateAll d).wall = d.wall := d.stops_safeStateAll.wall
@[simp] theorem domainStop_free (d : Dev) (m : Domain) : (domainStop m d).free = d.free := (d.stops_domainStop m).free
@[simp] theorem safeStateAll_free (d : Dev) : (safeStateAll d).free = d.free := d.stops_safeStateAll.free
@[simp] theorem domainStop_blk (d : Dev) (m : Domain) : (domainStop m d).blk = d.blk := (d.stops_domainStop m).blk
@[simp] theorem safeStateAll_blk (d : Dev) : (safeStateAll d).blk = d.blk := d.stops_safeStateAll.blk
@[simp] theorem domainStop_poison (d : Dev) (m : Domain) : (domainStop m d).poison = d.poison := (d.stops_domainStop m).poison
@[simp] theorem safeStateAll_poison (d : Dev) : (safeStateAll d).poison = d.poison := d.stops_safeStateAll.poison
@[simp] theorem domainStop_writes (d : Dev) (m : Domain) : (domainStop m d).writes = d.writes := (d.stops_domainStop m).writes
@[simp] theorem safeStateAll_writes (d : Dev) : (safeStateAll d).writes = d.writes := d.stops_safeStateAll.writes
@[simp] theorem domainStop_result (d : Dev) (m : Domain) : (domainStop m d).result = d.result := (d.stops_domainStop m).result
@[simp] theorem safeStateAll_result (d : Dev) : (safeStateAll d).result = d.result := d.stops_safeStateAll.result
@[simp] theorem domainStop_data (d : Dev) (m : Domain) : (domainStop m d).data = d.data := (d.stops_domainStop m).data
@[simp] theorem safeStateAll_data (d : Dev) : (safeStateAll d).data = d.data := d.stops_safeStateAll.data
@[simp] theorem domainStop_coll (d : Dev) (m : Domain) : (domainStop m d).coll = d.coll := (d.stops_domainStop m).coll
@[simp] theorem safeStateAll_coll (d : Dev) : (safeStateAll d).coll = d.coll := d.stops_safeStateAll.coll
@[simp] theorem domainStop_phase (d : Dev) (m : Domain) : (domainStop m d).phase = d.phase := (d.stops_domainStop m).phase
@[simp] theorem safeStateAll_phase (d : Dev) : (safeStateAll d).phase = d.phase := d.stops_safeStateAll.phase
@[simp] theorem domainStop_resetPending (d : Dev) (m : Domain) : (domainStop m d).resetPending = d.resetPending := (d.stops_domainStop m).resetPending
@[simp] theorem safeStateAll_resetPending (d : Dev) : (safeStateAll d).resetPending = d.resetPending := d.stops_safeStateAll.resetPending
@[simp] theorem domainStop_tracks (d : Dev) (m : Domain) : (domainStop m d).tracks = d.tracks := (d.stops_domainStop m).tracks
@[simp] theorem safeStateAll_tracks (d : Dev) : (safeStateAll d).tracks = d.tracks := d.stops_safeStateAll.tracks
@[simp] theorem domainStop_slots (d : Dev) (m : Domain) : (domainStop m d).slots = d.slots := (d.stops_domainStop m).slots
@[simp] theorem safeStateAll_slots (d : Dev) : (safeStateAll d).slots = d.slots := d.stops_safeStateAll.slots
@[simp] theorem domainStop_ssi (d : Dev) (m : Domain) : (domainStop m d).ssi = d.ssi := (d.stops_domainStop m).ssi
@[simp] theorem safeStateAll_ssi (d : Dev) : (safeStateAll d).ssi = d.ssi := d.stops_safeStateAll.ssi
@[simp] theorem domainStop_inc (d : Dev) (m : Domain) : (domainStop m d).inc = d.inc := (d.stops_domainStop m).inc
@[simp] theorem safeStateAll_inc (d : Dev) : (safeStateAll d).inc = d.inc := d.stops_safeStateAll.inc
@[simp] theorem domainStop_hall (d : Dev) (m : Domain) : (domainStop m d).hall = d.hall := (d.stops_domainStop m).hall
@[simp] theorem safeStateAll_hall (d : Dev) : (safeStateAll d).hall = d.hall := d.stops_safeStateAll.hall
@[simp] theorem domainStop_pulse (d : Dev) (m : Domain) : (domainStop m d).pulse = d.pulse := (d.stops_domainStop m).pulse
@[simp] theorem safeStateAll_pulse (d : Dev) : (safeStateAll d).pulse = d.pulse := d.stops_safeStateAll.pulse
@[simp] theorem domainStop_probes (d : Dev) (m : Domain) : (domainStop m d).probes = d.probes := (d.stops_domainStop m).probes
@[simp] theorem safeStateAll_probes (d : Dev) : (safeStateAll d).probes = d.probes := d.stops_safeStateAll.probes
@[simp] theorem domainStop_source (d : Dev) (m : Domain) : (domainStop m d).source = d.source := (d.stops_domainStop m).source
@[simp] theorem safeStateAll_source (d : Dev) : (safeStateAll d).source = d.source := d.stops_safeStateAll.source
@[simp] theorem domainStop_imuFailed (d : Dev) (m : Domain) : (domainStop m d).imuFailed = d.imuFailed := (d.stops_domainStop m).imuFailed
@[simp] theorem safeStateAll_imuFailed (d : Dev) : (safeStateAll d).imuFailed = d.imuFailed := d.stops_safeStateAll.imuFailed
@[simp] theorem domainStop_gates (d : Dev) (m : Domain) : (domainStop m d).gates = d.gates := (d.stops_domainStop m).gates
@[simp] theorem safeStateAll_gates (d : Dev) : (safeStateAll d).gates = d.gates := d.stops_safeStateAll.gates
@[simp] theorem domainStop_tier3 (d : Dev) (m : Domain) : (domainStop m d).tier3 = d.tier3 := (d.stops_domainStop m).tier3
@[simp] theorem safeStateAll_tier3 (d : Dev) : (safeStateAll d).tier3 = d.tier3 := d.stops_safeStateAll.tier3
@[simp] theorem domainStop_tier4 (d : Dev) (m : Domain) : (domainStop m d).tier4 = d.tier4 := (d.stops_domainStop m).tier4
@[simp] theorem safeStateAll_tier4 (d : Dev) : (safeStateAll d).tier4 = d.tier4 := d.stops_safeStateAll.tier4
@[simp] theorem domainStop_ocTrips (d : Dev) (m : Domain) : (domainStop m d).ocTrips = d.ocTrips := (d.stops_domainStop m).ocTrips
@[simp] theorem safeStateAll_ocTrips (d : Dev) : (safeStateAll d).ocTrips = d.ocTrips := d.stops_safeStateAll.ocTrips
@[simp] theorem domainStop_hnLast (d : Dev) (m : Domain) : (domainStop m d).hnLast = d.hnLast := (d.stops_domainStop m).hnLast
@[simp] theorem safeStateAll_hnLast (d : Dev) : (safeStateAll d).hnLast = d.hnLast := d.stops_safeStateAll.hnLast
@[simp] theorem domainStop_leBlocked (d : Dev) (m : Domain) : (domainStop m d).leBlocked = d.leBlocked := (d.stops_domainStop m).leBlocked
@[simp] theorem safeStateAll_leBlocked (d : Dev) : (safeStateAll d).leBlocked = d.leBlocked := d.stops_safeStateAll.leBlocked
@[simp] theorem domainStop_leMoving (d : Dev) (m : Domain) : (domainStop m d).leMoving = d.leMoving := (d.stops_domainStop m).leMoving
@[simp] theorem safeStateAll_leMoving (d : Dev) : (safeStateAll d).leMoving = d.leMoving := d.stops_safeStateAll.leMoving
@[simp] theorem domainStop_leLoaded (d : Dev) (m : Domain) : (domainStop m d).leLoaded = d.leLoaded := (d.stops_domainStop m).leLoaded
@[simp] theorem safeStateAll_leLoaded (d : Dev) : (safeStateAll d).leLoaded = d.leLoaded := d.stops_safeStateAll.leLoaded
@[simp] theorem domainStop_le8Bad (d : Dev) (m : Domain) : (domainStop m d).le8Bad = d.le8Bad := (d.stops_domainStop m).le8Bad
@[simp] theorem safeStateAll_le8Bad (d : Dev) : (safeStateAll d).le8Bad = d.le8Bad := d.stops_safeStateAll.le8Bad
@[simp] theorem domainStop_feeds (d : Dev) (m : Domain) : (domainStop m d).feeds = d.feeds := (d.stops_domainStop m).feeds
@[simp] theorem safeStateAll_feeds (d : Dev) : (safeStateAll d).feeds = d.feeds := d.stops_safeStateAll.feeds
@[simp] theorem domainStop_peers (d : Dev) (m : Domain) : (domainStop m d).peers = d.peers := (d.stops_domainStop m).peers
@[simp] theorem safeStateAll_peers (d : Dev) : (safeStateAll d).peers = d.peers := d.stops_safeStateAll.peers
@[simp] theorem domainStop_ocHold (d : Dev) (m : Domain) : (domainStop m d).ocHold = d.ocHold := (d.stops_domainStop m).ocHold
@[simp] theorem safeStateAll_ocHold (d : Dev) : (safeStateAll d).ocHold = d.ocHold := d.stops_safeStateAll.ocHold
@[simp] theorem domainStop_testing (d : Dev) (m : Domain) : (domainStop m d).testing = d.testing := (d.stops_domainStop m).testing
@[simp] theorem safeStateAll_testing (d : Dev) : (safeStateAll d).testing = d.testing := d.stops_safeStateAll.testing
@[simp] theorem domainStop_riseTests (d : Dev) (m : Domain) : (domainStop m d).riseTests = d.riseTests := (d.stops_domainStop m).riseTests
@[simp] theorem safeStateAll_riseTests (d : Dev) : (safeStateAll d).riseTests = d.riseTests := d.stops_safeStateAll.riseTests
@[simp] theorem domainStop_tested (d : Dev) (m : Domain) : (domainStop m d).tested = d.tested := (d.stops_domainStop m).tested
@[simp] theorem safeStateAll_tested (d : Dev) : (safeStateAll d).tested = d.tested := d.stops_safeStateAll.tested
@[simp] theorem domainStop_driveLow (d : Dev) (m : Domain) : (domainStop m d).driveLow = d.driveLow := (d.stops_domainStop m).driveLow
@[simp] theorem safeStateAll_driveLow (d : Dev) : (safeStateAll d).driveLow = d.driveLow := d.stops_safeStateAll.driveLow
@[simp] theorem domainStop_hbs (d : Dev) (m : Domain) : (domainStop m d).hbs = d.hbs := (d.stops_domainStop m).hbs
@[simp] theorem safeStateAll_hbs (d : Dev) : (safeStateAll d).hbs = d.hbs := d.stops_safeStateAll.hbs
@[simp] theorem domainStop_lvs (d : Dev) (m : Domain) : (domainStop m d).lvs = d.lvs := (d.stops_domainStop m).lvs
@[simp] theorem safeStateAll_lvs (d : Dev) : (safeStateAll d).lvs = d.lvs := d.stops_safeStateAll.lvs
@[simp] theorem domainStop_bldcs (d : Dev) (m : Domain) : (domainStop m d).bldcs = d.bldcs := (d.stops_domainStop m).bldcs
@[simp] theorem safeStateAll_bldcs (d : Dev) : (safeStateAll d).bldcs = d.bldcs := d.stops_safeStateAll.bldcs
@[simp] theorem domainStop_vlvHigh (d : Dev) (m : Domain) : (domainStop m d).vlvHigh = d.vlvHigh := (d.stops_domainStop m).vlvHigh
@[simp] theorem safeStateAll_vlvHigh (d : Dev) : (safeStateAll d).vlvHigh = d.vlvHigh := d.stops_safeStateAll.vlvHigh
@[simp] theorem domainStop_lvLimit (d : Dev) (m : Domain) : (domainStop m d).lvLimit = d.lvLimit := (d.stops_domainStop m).lvLimit
@[simp] theorem safeStateAll_lvLimit (d : Dev) : (safeStateAll d).lvLimit = d.lvLimit := d.stops_safeStateAll.lvLimit
@[simp] theorem domainStop_axes (d : Dev) (m : Domain) : (domainStop m d).axes = d.axes := (d.stops_domainStop m).axes
@[simp] theorem safeStateAll_axes (d : Dev) : (safeStateAll d).axes = d.axes := d.stops_safeStateAll.axes
@[simp] theorem domainStop_moves (d : Dev) (m : Domain) : (domainStop m d).moves = d.moves := (d.stops_domainStop m).moves
@[simp] theorem safeStateAll_moves (d : Dev) : (safeStateAll d).moves = d.moves := d.stops_safeStateAll.moves
@[simp] theorem domainStop_shift (d : Dev) (m : Domain) : (domainStop m d).shift = d.shift := (d.stops_domainStop m).shift
@[simp] theorem safeStateAll_shift (d : Dev) : (safeStateAll d).shift = d.shift := d.stops_safeStateAll.shift
@[simp] theorem domainStop_ge (d : Dev) (m : Domain) : (domainStop m d).ge = d.ge := (d.stops_domainStop m).ge
@[simp] theorem safeStateAll_ge (d : Dev) : (safeStateAll d).ge = d.ge := d.stops_safeStateAll.ge
@[simp] theorem domainStop_rows (d : Dev) (m : Domain) : (domainStop m d).rows = d.rows := (d.stops_domainStop m).rows
@[simp] theorem safeStateAll_rows (d : Dev) : (safeStateAll d).rows = d.rows := d.stops_safeStateAll.rows
@[simp] theorem domainStop_nodes (d : Dev) (m : Domain) : (domainStop m d).nodes = d.nodes := (d.stops_domainStop m).nodes
@[simp] theorem safeStateAll_nodes (d : Dev) : (safeStateAll d).nodes = d.nodes := d.stops_safeStateAll.nodes
@[simp] theorem domainStop_chains (d : Dev) (m : Domain) : (domainStop m d).chains = d.chains := (d.stops_domainStop m).chains
@[simp] theorem safeStateAll_chains (d : Dev) : (safeStateAll d).chains = d.chains := d.stops_safeStateAll.chains
@[simp] theorem domainStop_mbx (d : Dev) (m : Domain) : (domainStop m d).mbx = d.mbx := (d.stops_domainStop m).mbx
@[simp] theorem safeStateAll_mbx (d : Dev) : (safeStateAll d).mbx = d.mbx := d.stops_safeStateAll.mbx
@[simp] theorem domainStop_dead (d : Dev) (m : Domain) : (domainStop m d).dead = d.dead := (d.stops_domainStop m).dead
@[simp] theorem safeStateAll_dead (d : Dev) : (safeStateAll d).dead = d.dead := d.stops_safeStateAll.dead
@[simp] theorem domainStop_sessions (d : Dev) (m : Domain) : (domainStop m d).sessions = d.sessions := (d.stops_domainStop m).sessions
@[simp] theorem safeStateAll_sessions (d : Dev) : (safeStateAll d).sessions = d.sessions := d.stops_safeStateAll.sessions
@[simp] theorem domainStop_wrongTags (d : Dev) (m : Domain) : (domainStop m d).wrongTags = d.wrongTags := (d.stops_domainStop m).wrongTags
@[simp] theorem safeStateAll_wrongTags (d : Dev) : (safeStateAll d).wrongTags = d.wrongTags := d.stops_safeStateAll.wrongTags
@[simp] theorem domainStop_barred (d : Dev) (m : Domain) : (domainStop m d).barred = d.barred := (d.stops_domainStop m).barred
@[simp] theorem safeStateAll_barred (d : Dev) : (safeStateAll d).barred = d.barred := d.stops_safeStateAll.barred
@[simp] theorem domainStop_busOff (d : Dev) (m : Domain) : (domainStop m d).busOff = d.busOff := (d.stops_domainStop m).busOff
@[simp] theorem safeStateAll_busOff (d : Dev) : (safeStateAll d).busOff = d.busOff := d.stops_safeStateAll.busOff
@[simp] theorem domainStop_busOffAt (d : Dev) (m : Domain) : (domainStop m d).busOffAt = d.busOffAt := (d.stops_domainStop m).busOffAt
@[simp] theorem safeStateAll_busOffAt (d : Dev) : (safeStateAll d).busOffAt = d.busOffAt := d.stops_safeStateAll.busOffAt
@[simp] theorem domainStop_busSlow (d : Dev) (m : Domain) : (domainStop m d).busSlow = d.busSlow := (d.stops_domainStop m).busSlow
@[simp] theorem safeStateAll_busSlow (d : Dev) : (safeStateAll d).busSlow = d.busSlow := d.stops_safeStateAll.busSlow
@[simp] theorem domainStop_claim (d : Dev) (m : Domain) : (domainStop m d).claim = d.claim := (d.stops_domainStop m).claim
@[simp] theorem safeStateAll_claim (d : Dev) : (safeStateAll d).claim = d.claim := d.stops_safeStateAll.claim
@[simp] theorem domainStop_claimAddr (d : Dev) (m : Domain) : (domainStop m d).claimAddr = d.claimAddr := (d.stops_domainStop m).claimAddr
@[simp] theorem safeStateAll_claimAddr (d : Dev) : (safeStateAll d).claimAddr = d.claimAddr := d.stops_safeStateAll.claimAddr
@[simp] theorem domainStop_claimLast (d : Dev) (m : Domain) : (domainStop m d).claimLast = d.claimLast := (d.stops_domainStop m).claimLast
@[simp] theorem safeStateAll_claimLast (d : Dev) : (safeStateAll d).claimLast = d.claimLast := d.stops_safeStateAll.claimLast
@[simp] theorem domainStop_ethSent (d : Dev) (m : Domain) : (domainStop m d).ethSent = d.ethSent := (d.stops_domainStop m).ethSent
@[simp] theorem safeStateAll_ethSent (d : Dev) : (safeStateAll d).ethSent = d.ethSent := d.stops_safeStateAll.ethSent
@[simp] theorem domainStop_notes (d : Dev) (m : Domain) : (domainStop m d).notes = d.notes := (d.stops_domainStop m).notes
@[simp] theorem safeStateAll_notes (d : Dev) : (safeStateAll d).notes = d.notes := d.stops_safeStateAll.notes
@[simp] theorem domainStop_pool (d : Dev) (m : Domain) : (domainStop m d).pool = d.pool := (d.stops_domainStop m).pool
@[simp] theorem safeStateAll_pool (d : Dev) : (safeStateAll d).pool = d.pool := d.stops_safeStateAll.pool
@[simp] theorem domainStop_poolShown (d : Dev) (m : Domain) : (domainStop m d).poolShown = d.poolShown := (d.stops_domainStop m).poolShown
@[simp] theorem safeStateAll_poolShown (d : Dev) : (safeStateAll d).poolShown = d.poolShown := d.stops_safeStateAll.poolShown
@[simp] theorem domainStop_couriers (d : Dev) (m : Domain) : (domainStop m d).couriers = d.couriers := (d.stops_domainStop m).couriers
@[simp] theorem safeStateAll_couriers (d : Dev) : (safeStateAll d).couriers = d.couriers := d.stops_safeStateAll.couriers
@[simp] theorem domainStop_sps (d : Dev) (m : Domain) : (domainStop m d).sps = d.sps := (d.stops_domainStop m).sps
@[simp] theorem safeStateAll_sps (d : Dev) : (safeStateAll d).sps = d.sps := d.stops_safeStateAll.sps
@[simp] theorem domainStop_mems (d : Dev) (m : Domain) : (domainStop m d).mems = d.mems := (d.stops_domainStop m).mems
@[simp] theorem safeStateAll_mems (d : Dev) : (safeStateAll d).mems = d.mems := d.stops_safeStateAll.mems
@[simp] theorem domainStop_mRecords (d : Dev) (m : Domain) : (domainStop m d).mRecords = d.mRecords := (d.stops_domainStop m).mRecords
@[simp] theorem safeStateAll_mRecords (d : Dev) : (safeStateAll d).mRecords = d.mRecords := d.stops_safeStateAll.mRecords
@[simp] theorem domainStop_fuse (d : Dev) (m : Domain) : (domainStop m d).fuse = d.fuse := (d.stops_domainStop m).fuse
@[simp] theorem safeStateAll_fuse (d : Dev) : (safeStateAll d).fuse = d.fuse := d.stops_safeStateAll.fuse
@[simp] theorem domainStop_slotsAB (d : Dev) (m : Domain) : (domainStop m d).slotsAB = d.slotsAB := (d.stops_domainStop m).slotsAB
@[simp] theorem safeStateAll_slotsAB (d : Dev) : (safeStateAll d).slotsAB = d.slotsAB := d.stops_safeStateAll.slotsAB
@[simp] theorem domainStop_update (d : Dev) (m : Domain) : (domainStop m d).update = d.update := (d.stops_domainStop m).update
@[simp] theorem safeStateAll_update (d : Dev) : (safeStateAll d).update = d.update := d.stops_safeStateAll.update
@[simp] theorem domainStop_line (d : Dev) (m : Domain) : (domainStop m d).line = d.line := (d.stops_domainStop m).line
@[simp] theorem safeStateAll_line (d : Dev) : (safeStateAll d).line = d.line := d.stops_safeStateAll.line
@[simp] theorem domainStop_nonces (d : Dev) (m : Domain) : (domainStop m d).nonces = d.nonces := (d.stops_domainStop m).nonces
@[simp] theorem safeStateAll_nonces (d : Dev) : (safeStateAll d).nonces = d.nonces := d.stops_safeStateAll.nonces
@[simp] theorem domainStop_flashJobs (d : Dev) (m : Domain) : (domainStop m d).flashJobs = d.flashJobs := (d.stops_domainStop m).flashJobs
@[simp] theorem safeStateAll_flashJobs (d : Dev) : (safeStateAll d).flashJobs = d.flashJobs := d.stops_safeStateAll.flashJobs
@[simp] theorem domainStop_power (d : Dev) (m : Domain) : (domainStop m d).power = d.power := (d.stops_domainStop m).power
@[simp] theorem safeStateAll_power (d : Dev) : (safeStateAll d).power = d.power := d.stops_safeStateAll.power
@[simp] theorem domainStop_kept (d : Dev) (m : Domain) : (domainStop m d).kept = d.kept := (d.stops_domainStop m).kept
@[simp] theorem safeStateAll_kept (d : Dev) : (safeStateAll d).kept = d.kept := d.stops_safeStateAll.kept
@[simp] theorem domainStop_nfLevel (d : Dev) (m : Domain) : (domainStop m d).nfLevel = d.nfLevel := (d.stops_domainStop m).nfLevel
@[simp] theorem safeStateAll_nfLevel (d : Dev) : (safeStateAll d).nfLevel = d.nfLevel := d.stops_safeStateAll.nfLevel
@[simp] theorem domainStop_nfSeen (d : Dev) (m : Domain) : (domainStop m d).nfSeen = d.nfSeen := (d.stops_domainStop m).nfSeen
@[simp] theorem safeStateAll_nfSeen (d : Dev) : (safeStateAll d).nfSeen = d.nfSeen := d.stops_safeStateAll.nfSeen
@[simp] theorem domainStop_nfPulse (d : Dev) (m : Domain) : (domainStop m d).nfPulse = d.nfPulse := (d.stops_domainStop m).nfPulse
@[simp] theorem safeStateAll_nfPulse (d : Dev) : (safeStateAll d).nfPulse = d.nfPulse := d.stops_safeStateAll.nfPulse
@[simp] theorem domainStop_hnLost (d : Dev) (m : Domain) : (domainStop m d).hnLost = d.hnLost := (d.stops_domainStop m).hnLost
@[simp] theorem safeStateAll_hnLost (d : Dev) : (safeStateAll d).hnLost = d.hnLost := d.stops_safeStateAll.hnLost
@[simp] theorem domainStop_hnBad (d : Dev) (m : Domain) : (domainStop m d).hnBad = d.hnBad := (d.stops_domainStop m).hnBad
@[simp] theorem safeStateAll_hnBad (d : Dev) : (safeStateAll d).hnBad = d.hnBad := d.stops_safeStateAll.hnBad
@[simp] theorem domainStop_hnCount (d : Dev) (m : Domain) : (domainStop m d).hnCount = d.hnCount := (d.stops_domainStop m).hnCount
@[simp] theorem safeStateAll_hnCount (d : Dev) : (safeStateAll d).hnCount = d.hnCount := d.stops_safeStateAll.hnCount
@[simp] theorem domainStop_monitor (d : Dev) (m : Domain) : (domainStop m d).monitor = d.monitor := (d.stops_domainStop m).monitor
@[simp] theorem safeStateAll_monitor (d : Dev) : (safeStateAll d).monitor = d.monitor := d.stops_safeStateAll.monitor
@[simp] theorem domainStop_sar (d : Dev) (m : Domain) : (domainStop m d).sar = d.sar := (d.stops_domainStop m).sar
@[simp] theorem safeStateAll_sar (d : Dev) : (safeStateAll d).sar = d.sar := d.stops_safeStateAll.sar
@[simp] theorem domainStop_sensors (d : Dev) (m : Domain) : (domainStop m d).sensors = d.sensors := (d.stops_domainStop m).sensors
@[simp] theorem safeStateAll_sensors (d : Dev) : (safeStateAll d).sensors = d.sensors := d.stops_safeStateAll.sensors
@[simp] theorem domainStop_die (d : Dev) (m : Domain) : (domainStop m d).die = d.die := (d.stops_domainStop m).die
@[simp] theorem safeStateAll_die (d : Dev) : (safeStateAll d).die = d.die := d.stops_safeStateAll.die
@[simp] theorem domainStop_pauses (d : Dev) (m : Domain) : (domainStop m d).pauses = d.pauses := (d.stops_domainStop m).pauses
@[simp] theorem safeStateAll_pauses (d : Dev) : (safeStateAll d).pauses = d.pauses := d.stops_safeStateAll.pauses
@[simp] theorem domainStop_crcInject (d : Dev) (m : Domain) : (domainStop m d).crcInject = d.crcInject := (d.stops_domainStop m).crcInject
@[simp] theorem safeStateAll_crcInject (d : Dev) : (safeStateAll d).crcInject = d.crcInject := d.stops_safeStateAll.crcInject
@[simp] theorem domainStop_limited (d : Dev) (m : Domain) : (domainStop m d).limited = d.limited := (d.stops_domainStop m).limited
@[simp] theorem safeStateAll_limited (d : Dev) : (safeStateAll d).limited = d.limited := d.stops_safeStateAll.limited
@[simp] theorem domainStop_j9 (d : Dev) (m : Domain) : (domainStop m d).j9 = d.j9 := (d.stops_domainStop m).j9
@[simp] theorem safeStateAll_j9 (d : Dev) : (safeStateAll d).j9 = d.j9 := d.stops_safeStateAll.j9
@[simp] theorem domainStop_reply (d : Dev) (m : Domain) : (domainStop m d).reply = d.reply := (d.stops_domainStop m).reply
@[simp] theorem safeStateAll_reply (d : Dev) : (safeStateAll d).reply = d.reply := d.stops_safeStateAll.reply
@[simp] theorem domainStop_hsp (d : Dev) (m : Domain) : (domainStop m d).hsp = d.hsp := (d.stops_domainStop m).hsp
@[simp] theorem safeStateAll_hsp (d : Dev) : (safeStateAll d).hsp = d.hsp := d.stops_safeStateAll.hsp

/-! ### What was raised or in force stays so -/

theorem Dev.raised_setO {d : Dev} {x k : Nat} {v : Int} (h : d.raised x) : (d.setO k v).raised x := h
theorem Dev.raised_of_event {d : Dev} {x e : Nat} (h : d.raised x) : (d.event e).raised x := (d.showsOnly_event e).raised h
theorem Dev.raised_raiseWith {d : Dev} {y : Nat} (h : d.raised y) (c : Nat) (m : Domain) (x : FaultSrc) (a b : Bool) :
    (d.raiseWith c m x a b).raised y := (d.raises_raiseWith c m x a b).raised h
theorem Dev.raised_raise {d : Dev} {y : Nat} (h : d.raised y) (c : Nat) (a : Bool) (x : FaultSrc) : (d.raise c a x).raised y :=
  (d.raises_raise c a x).raised h
theorem Dev.raised_raiseOn {d : Dev} {y : Nat} (h : d.raised y) (c : Nat) (m : Domain) (a : Bool) (x : FaultSrc) :
    (d.raiseOn c m a x).raised y := (d.raises_raiseOn c m a x).raised h
theorem Dev.raised_domainStop {d : Dev} {y : Nat} (h : d.raised y) (m : Domain) : (domainStop m d).raised y := (d.stops_domainStop m).raised h
theorem Dev.raised_safeStateAll {d : Dev} {y : Nat} (h : d.raised y) : (safeStateAll d).raised y := d.stops_safeStateAll.raised h
theorem Dev.inForce_event {d : Dev} {c e : Nat} {m : Domain} (h : d.inForce c m) : (d.event e).inForce c m := by
  unfold Dev.inForce; rw [Dev.event_coll]; exact h

/-- A fault that is in force stays in force when another is raised; a Lockout by R522 keeps its place (R510). -/
theorem Dev.inForce_keeps {d : Dev} {c : Nat} {m : Domain} (h : d.inForce c m) (c' : Nat) (m' : Domain) (x : FaultSrc) (a b : Bool) :
    (d.raiseWith c' m' x a b).inForce c m := by
  obtain ⟨f, hf, hc, hm⟩ := h
  unfold Dev.raiseWith Dev.inForce
  split
  · rw [(Dev.stops_postmark ..).coll]; exact ⟨f, hf, hc, hm⟩
  · split
    · refine ⟨_, List.mem_map_of_mem hf, ?_⟩
      split <;> exact ⟨hc, hm⟩
    · simp only []
      rw [(Dev.stops_react ..).coll, (Dev.stops_postmark ..).coll]
      refine ⟨_, List.mem_append_left _ (List.mem_map_of_mem hf), ?_⟩
      split <;> exact ⟨hc, hm⟩

theorem Dev.inForce_keeps_raise {d : Dev} {c : Nat} {m : Domain} (h : d.inForce c m) (c' : Nat) (a : Bool) (x : FaultSrc) :
    (d.raise c' a x).inForce c m := Dev.inForce_keeps h ..

theorem Dev.inForce_keeps_raiseOn {d : Dev} {c : Nat} {m : Domain} (h : d.inForce c m) (c' : Nat) (m' : Domain) (a : Bool) (x : FaultSrc) :
    (d.raiseOn c' m' a x).inForce c m := Dev.inForce_keeps h ..

/-! ### Chains of updates -/

theorem Dev.RaisesOnly.refl (d : Dev) : d.RaisesOnly d := (Dev.StopsOnly.refl d).raises
theorem Dev.raises_settle (d : Dev) : d.RaisesOnly d.settle := d.shows_settle.raises
theorem Dev.raises_setO (d : Dev) (k : Nat) (v : Int) : d.RaisesOnly (d.setO k v) := (d.showsOnly_setO k v).raises
theorem Dev.raises_event (d : Dev) (e : Nat) : d.RaisesOnly (d.event e) := (d.showsOnly_event e).raises
theorem Dev.raises_domainStop (d : Dev) (m : Domain) : d.RaisesOnly (domainStop m d) := (d.stops_domainStop m).raises
theorem Dev.raises_safeStateAll (d : Dev) : d.RaisesOnly (safeStateAll d) := d.stops_safeStateAll.raises
theorem Dev.raises_holderStop (d : Dev) (m : Mach) : d.RaisesOnly (d.holderStop m) := (d.stops_holderStop m).raises
theorem Dev.raises_when (d : Dev) (c : Bool) {f : Dev → Dev} (h : ∀ d : Dev, d.RaisesOnly (f d)) : d.RaisesOnly (d.when c f) := by
  cases c
  · exact .refl d
  · exact h d
theorem Dev.shows_foldl {α : Type} {f : Dev → α → Dev} (h : ∀ d x, Dev.ShowsOnly d (f d x)) (l : List α) (d : Dev) :
    d.ShowsOnly (l.foldl f d) := by
  induction l generalizing d with
  | nil => exact .refl d
  | cons x t ih => exact (h d x).trans (ih _)
theorem Dev.raises_foldl {α : Type} {f : Dev → α → Dev} (h : ∀ d x, Dev.RaisesOnly d (f d x)) (l : List α) (d : Dev) :
    d.RaisesOnly (l.foldl f d) := by
  induction l generalizing d with
  | nil => exact .refl d
  | cons x t ih => exact (h d x).trans (ih _)

end Sys2Proof.Machine
end

