-- ==== Sys2Proof/Laws/Frames.lean ====
section
/-! SUPPORT. Frames: relations between a state and a later one that hold of every step of a meaning hold of the whole, and the objects that
operations and the reaction to a fault leave. -/

namespace Sys2Proof.Machine

/-- A frame: what it says of two steps it says of both together, and it allows objects, events and the trace to change. -/
structure Frame (R : Dev → Dev → Prop) : Prop where
  refl : ∀ d, R d d
  trans : ∀ {a b c}, R a b → R b c → R a c
  shows : ∀ {d e : Dev}, d.ShowsOnly e → R d e

/-- A frame that allows a fault to be raised. -/
structure FrameR (R : Dev → Dev → Prop) : Prop extends Frame R where
  raises : ∀ {d e : Dev}, d.RaisesOnly e → R d e

namespace Frame
variable {R : Dev → Dev → Prop} (H : Frame R) {a d : Dev}
include H
theorem settle (h : R a d) : R a d.settle := H.trans h (H.shows (Dev.shows_settle _))
theorem event (h : R a d) (e : Nat) : R a (d.event e) := H.trans h (H.shows (Dev.showsOnly_event _ _))
theorem setO (h : R a d) (k : Nat) (v : Int) : R a (d.setO k v) := H.trans h (H.shows (Dev.showsOnly_setO _ _ _))
theorem addSat (h : R a d) (k n : Nat) : R a (d.addSat k n) := H.setO h _ _
theorem addWrap (h : R a d) (k n : Nat) : R a (d.addWrap k n) := H.setO h _ _
theorem setB (h : R a d) (k : Nat) (b : Bool) : R a (d.setB k b) := H.setO h _ _
theorem setBit (h : R a d) (k i : Nat) (b : Bool) : R a (d.setBit k i b) := H.setO h _ _
theorem traceAdd (h : R a d) (x b c : Nat) (v : Int) (p : Bool) : R a (d.traceAdd x b c v p) := H.trans h (H.shows (Dev.showsOnly_traceAdd _ _ _ _ _ _))
theorem when (h : R a d) (c : Bool) {f : Dev → Dev} (hf : ∀ d, R d (f d)) : R a (d.when c f) := by
  cases c
  · exact h
  · exact H.trans h (hf d)
theorem foldl {α : Type} (h : R a d) (l : List α) {f : Dev → α → Dev} (hf : ∀ d x, R d (f d x)) : R a (l.foldl f d) := by
  induction l generalizing d with
  | nil => exact h
  | cons x t ih => exact ih (H.trans h (hf d x))
end Frame
namespace FrameR
variable {R : Dev → Dev → Prop} (H : FrameR R) {a d : Dev}
include H
theorem stops {d e : Dev} (h : d.StopsOnly e) : R d e := H.raises h.raises
theorem raiseWith (h : R a d) (code : Nat) (dom : Domain) (src : FaultSrc) (l i : Bool) : R a (d.raiseWith code dom src l i) := H.trans h (H.raises (Dev.raises_raiseWith ..))
theorem raiseOn (h : R a d) (code : Nat) (dom : Domain) (l : Bool) (src : FaultSrc) : R a (d.raiseOn code dom l src) := H.raiseWith h ..
theorem raise (h : R a d) (code : Nat) (l : Bool) (src : FaultSrc) : R a (d.raise code l src) := H.raiseWith h ..
theorem domainStop (h : R a d) (m : Domain) : R a (domainStop m d) := H.trans h (H.stops (Dev.stops_domainStop ..))
end FrameR

theorem frame_shows : Frame Dev.ShowsOnly := ⟨.refl, .trans, id⟩
theorem frame_raises : FrameR Dev.RaisesOnly := ⟨⟨.refl, .trans, Dev.ShowsOnly.raises⟩, id⟩

/-! ### Objects -/

theorem OnlyObjects.refl {ks} (d : Dev) : OnlyObjects ks d d := ⟨fun _ _ _ => rfl⟩
theorem OnlyObjects.trans {ks} {a b c : Dev} (h : OnlyObjects ks a b) (g : OnlyObjects ks b c) : OnlyObjects ks a c := ⟨fun k x y => (g.same k x y).trans (h.same k x y)⟩
section
variable {ks : Nat → Bool} {a d : Dev} (h : OnlyObjects ks a d)
include h
theorem OnlyObjects.settle : OnlyObjects ks a d.settle := ⟨fun k x y => (Dev.o_settle _ y).trans (h.same k x y)⟩
theorem OnlyObjects.event (e : Nat) (ht : ∀ k, isTraceCount k = true → ks k = true) : OnlyObjects ks a (d.event e) :=
  ⟨fun k x y => (Dev.o_event _ _ (by cases q : isTraceCount k; rfl; simp [ht k q] at x)).trans (h.same k x y)⟩
theorem OnlyObjects.traceAdd (p q r : Nat) (v : Int) (b : Bool) (ht : ∀ k, isTraceCount k = true → ks k = true) : OnlyObjects ks a (d.traceAdd p q r v b) :=
  ⟨fun k x y => (Dev.o_traceAdd _ _ _ _ _ _ (by cases q : isTraceCount k; rfl; simp [ht k q] at x)).trans (h.same k x y)⟩
theorem OnlyObjects.setO (j : Nat) (v : Int) (hj : (ks j || isStatus j) = true) : OnlyObjects ks a (d.setO j v) :=
  ⟨fun k x y => (Dev.o_setO_other _ _ (by rintro rfl; simp [x, y] at hj)).trans (h.same k x y)⟩
theorem OnlyObjects.addSat (j n : Nat) (hj : (ks j || isStatus j) = true) : OnlyObjects ks a (d.addSat j n) := OnlyObjects.setO h _ _ hj
theorem OnlyObjects.addWrap (j n : Nat) (hj : (ks j || isStatus j) = true) : OnlyObjects ks a (d.addWrap j n) := OnlyObjects.setO h _ _ hj
theorem OnlyObjects.setB (j : Nat) (b : Bool) (hj : (ks j || isStatus j) = true) : OnlyObjects ks a (d.setB j b) := OnlyObjects.setO h _ _ hj
theorem OnlyObjects.setBit (j i : Nat) (b : Bool) (hj : (ks j || isStatus j) = true) : OnlyObjects ks a (d.setBit j i b) := OnlyObjects.setO h _ _ hj
theorem OnlyObjects.when (c : Bool) {f : Dev → Dev} (hf : c = true → ∀ d, OnlyObjects ks d (f d)) : OnlyObjects ks a (d.when c f) := by
  cases c
  · exact h
  · exact OnlyObjects.trans h (hf rfl d)
theorem OnlyObjects.foldl {α : Type} (l : List α) {f : Dev → α → Dev} (hf : ∀ d, ∀ x ∈ l, OnlyObjects ks d (f d x)) : OnlyObjects ks a (l.foldl f d) := by
  induction l generalizing d with
  | nil => exact h
  | cons x t ih => exact ih (OnlyObjects.trans h (hf d x (by simp))) (fun d y hy => hf d y (by simp [hy]))
theorem OnlyObjects.of_obj {e : Dev} (he : e.obj = d.obj) : OnlyObjects ks a e := ⟨fun k x y => by
  have := h.same k x y; simpa [Dev.o, he] using this⟩
end


/-- A fault whose code names its domain is in force there once it is raised (R508, R510). -/
theorem Dev.inForce_raise_on (d : Dev) {code : Nat} {dom : Domain} (lasting : Bool) (src : FaultSrc) (h : faultClass code ≠ 0)
    (hd : codeDomain (faultDomain code) = dom) : (d.raise code lasting src).inForce code dom := hd ▸ d.inForce_raise lasting src h

/-! ### The objects of a reaction -/

theorem isReaction_trace {k : Nat} (h : isTraceCount k = true) : isReaction k = true := by simp [isReaction, h]

/-- `e` shows in other objects than those of a reaction what `d` shows. -/
abbrev Dev.Quiet (d e : Dev) : Prop := OnlyObjects isReaction d e

theorem quiet_setO (d : Dev) {k : Nat} (v : Int) (h : isReaction k = true) : d.Quiet (d.setO k v) := (OnlyObjects.refl d).setO _ _ (by simp [h])

theorem quiet_event (d : Dev) (e : Nat) : d.Quiet (d.event e) := (OnlyObjects.refl d).event _ (fun _ => isReaction_trace)

theorem quiet_of_obj {d e : Dev} (h : e.obj = d.obj) : d.Quiet e := (OnlyObjects.refl d).of_obj h

theorem quiet_updTrac (d : Dev) (m : Mach) (f : Trac → Trac) : d.Quiet (d.updTrac m f) := quiet_of_obj rfl
theorem quiet_updDab (d : Dev) (c : Conv) (f : Dab → Dab) : d.Quiet (d.updDab c f) := quiet_of_obj rfl
theorem quiet_updGrid (d : Dev) (f : Grid → Grid) : d.Quiet (d.updGrid f) := quiet_of_obj rfl
theorem quiet_updLink (d : Dev) (f : Link → Link) : d.Quiet (d.updLink f) := quiet_of_obj rfl

theorem quiet_loops (d : Dev) (Ls : List Nat) (on : Bool) (h : ∀ L ∈ Ls, isReaction (at' Obj.ENABLE_A100 L) = true) : d.Quiet (d.enableLoops Ls on) :=
  OnlyObjects.foldl (.refl d) _ fun d L hL => by
    refine OnlyObjects.setB ?_ _ _ (by simp [h L hL])
    exact quiet_of_obj rfl

theorem quiet_tracIdle (d : Dev) (m : Mach) : d.Quiet (d.tracIdle m) := by
  unfold Dev.tracIdle
  refine .trans ?_ (quiet_updTrac _ _ _)
  iterate 9 refine OnlyObjects.trans ?_ (quiet_setO _ _ (by cases m <;> decide))
  exact quiet_setO _ _ (by cases m <;> decide)

theorem quiet_ascEnter (d : Dev) (m : Mach) (c : Nat) : d.Quiet (d.ascEnter m c) := by
  have h : ∀ st : Int, d.Quiet ((d.tracIdle m).setO (tk m Obj.BRIDGE_STATE) st) := fun st =>
    (quiet_tracIdle d m).trans (quiet_setO _ _ (by cases m <;> decide))
  unfold Dev.ascEnter
  refine OnlyObjects.when ?_ _ (fun _ d => quiet_of_obj rfl)
  split
  · exact h _
  · refine .trans ?_ (quiet_updTrac _ _ _)
    refine .trans ?_ (quiet_event _ _)
    refine .trans ?_ (quiet_setO _ _ (by cases m <;> decide))
    exact (h _).trans (quiet_setO _ _ (by cases m <;> decide))

theorem quiet_dabOff (d : Dev) (c : Conv) (st : Nat) : d.Quiet (d.dabOff c st) := by
  unfold Dev.dabOff
  refine .trans ?_ (quiet_updDab _ _ _)
  refine .trans ?_ (quiet_loops _ _ _ (by cases c <;> decide))
  iterate 3 refine OnlyObjects.trans ?_ (quiet_setO _ _ (by cases c <;> decide))
  exact quiet_setO _ _ (by cases c <;> decide)

theorem quiet_gridOff (d : Dev) (st step : Nat) : d.Quiet (d.gridOff st step) := by
  unfold Dev.gridOff
  refine .trans ?_ (quiet_updGrid _ _)
  refine .trans ?_ (quiet_loops _ _ _ (by decide))
  iterate 3 refine OnlyObjects.trans ?_ (quiet_setO _ _ (by decide))
  exact quiet_setO _ _ (by decide)

theorem mem_of_driver {d : Dev} {r n : Nat} (h : d.driver r = some n) : n < 4 := by
  have := List.mem_of_find?_eq_some h
  simp at this; omega

theorem quiet_coilOff (d : Dev) {n : Nat} (hn : n < 4) : d.Quiet (d.coilOff n) := by
  unfold Dev.coilOff; split
  · refine .trans (quiet_of_obj (e := d.updCtr n _) rfl) (quiet_setO _ _ ?_)
    have : n = 0 ∨ n = 1 ∨ n = 2 ∨ n = 3 := by omega
    rcases this with rfl | rfl | rfl | rfl <;> decide
  · exact .refl d

theorem quiet_coilOff? (d : Dev) (r : Nat) : d.Quiet (d.coilOff? (d.driver r)) := by
  unfold Dev.coilOff?; split
  · exact quiet_coilOff d (mem_of_driver ‹_›)
  · exact .refl d


theorem mem_group {d : Dev} {g n : Nat} (h : n ∈ d.groupChannels g) : 1 ≤ n ∧ n ≤ 40 := by
  simp only [Dev.groupChannels, List.mem_filter, List.mem_map, List.mem_range] at h
  obtain ⟨⟨a, h, rfl⟩, -⟩ := h; omega

theorem isReaction_status {n : Nat} (h : 1 ≤ n ∧ n ≤ 40) : isReaction (el Obj.STATUS_6020 n) = true := by
  have : keyIdx (el Obj.STATUS_6020 n) = 0x6020 := by show (0x602001 + n - 1) / 256 = _; omega
  simp [isReaction, this]

theorem quiet_setBit (d : Dev) {k : Nat} (i : Nat) (b : Bool) (h : isReaction k = true) : d.Quiet (d.setBit k i b) := quiet_setO _ _ h

theorem quiet_setPreSwitch (d : Dev) (on : Bool) : d.Quiet (d.setPreSwitch on) := by
  unfold Dev.setPreSwitch; split
  · exact quiet_setBit _ _ _ (isReaction_status (mem_group (List.mem_of_mem_head? ‹_›)))
  · exact .refl d

theorem quiet_showChopper (d : Dev) : d.Quiet d.showChopper := quiet_setO _ _ (by decide)

theorem quiet_driveChopper (d : Dev) : d.Quiet d.driveChopper := by
  have body : ∀ (on c : Bool) (f : Link → Link), d.Quiet (if c = true then d.showChopper else
      ((d.groupChannels 8).foldl (fun d n => d.setBit (el Obj.STATUS_6020 n) 0 on) (d.updLink f)).showChopper) := by
    intro on c f
    split
    · exact quiet_showChopper d
    · refine .trans ?_ (quiet_showChopper _)
      exact OnlyObjects.foldl (quiet_updLink d f) (d.groupChannels 8) (fun x n hn => quiet_setBit x 0 on (isReaction_status (mem_group hn)))
  unfold Dev.driveChopper
  simp only []
  split <;> exact body _ _ _

theorem quiet_dischargeEnd (d : Dev) : d.Quiet d.dischargeEnd :=
  OnlyObjects.trans (OnlyObjects.trans (quiet_setO d _ (by decide)) (quiet_updLink _ _)) (quiet_driveChopper _)

theorem quiet_dischargeGo (d : Dev) : d.Quiet d.dischargeGo := by
  unfold Dev.dischargeGo; split
  · split
    · exact quiet_dischargeEnd d
    · exact OnlyObjects.trans (quiet_updLink d _) (quiet_driveChopper _)
  · exact .refl d

theorem quiet_dischargeStart (d : Dev) : d.Quiet d.dischargeStart := by
  unfold Dev.dischargeStart; split
  · exact .refl d
  · exact OnlyObjects.trans (OnlyObjects.trans (quiet_updLink d _) (quiet_setO _ _ (by decide))) (quiet_dischargeGo _)

theorem quiet_openSource (d : Dev) (src : Nat) : d.Quiet (d.openSource src) := by
  unfold Dev.openSource; split
  · exact OnlyObjects.when (.refl d) _ (fun _ d => quiet_updLink d _)
  · exact .refl d

theorem quiet_abortPrecharge (d : Dev) : d.Quiet d.abortPrecharge := by
  unfold Dev.abortPrecharge; split
  · exact .refl d
  · rename_i j _
    simp only []
    refine OnlyObjects.trans ?_ (quiet_setO _ _ (by decide))
    have h : d.Quiet ((((d.updLink (fun l => { l with job := none })).coilOff? (d.preOf j.src)).when (decide (j.mode = 2))
        (fun d => d.setPreSwitch false)).when (decide (j.mode = 1) && decide (d.n Obj.STATE_5400 = 5)) (fun d => d.dabOff .dca 1)) :=
      OnlyObjects.when (OnlyObjects.when (OnlyObjects.trans (quiet_updLink d _) (quiet_coilOff? _ _)) _ (fun _ d => quiet_setPreSwitch d _)) _
        (fun _ d => quiet_dabOff d _ _)
    split
    · exact OnlyObjects.trans h (quiet_coilOff? _ _)
    · exact h

theorem quiet_linkShut (d : Dev) : d.Quiet d.linkShut :=
  OnlyObjects.trans (OnlyObjects.trans (OnlyObjects.trans (quiet_abortPrecharge d) (quiet_openSource _ _)) (quiet_openSource _ _)) (quiet_dischargeStart _)

theorem quiet_actStop (d : Dev) : d.Quiet d.actStop := OnlyObjects.foldl (.refl d) _ (fun d g hg => quiet_setO _ _ (by
  simp only [List.mem_cons, List.not_mem_nil, or_false] at hg; rcases hg with rfl | rfl | rfl | rfl <;> decide))

theorem quiet_openReq (d : Dev) (b : Bool) : d.Quiet { d with openRequest := b } := quiet_of_obj rfl

theorem quiet_bomStop (d : Dev) : d.Quiet d.bomStop := OnlyObjects.foldl (quiet_setO d _ (by decide)) _ (fun d n hn => quiet_setBit _ _ _ (by
  simp only [List.mem_map, List.mem_range] at hn
  obtain ⟨a, h, rfl⟩ := hn
  have : keyIdx (el Obj.ROW_STATE (a + 1)) = 0x8014 := by show (0x801401 + (a + 1) - 1) / 256 = _; omega
  simp [isReaction, this]))

theorem quiet_domainStop (d : Dev) (dom : Domain) : d.Quiet (domainStop dom d) := by
  cases dom
  · exact .refl d
  · exact OnlyObjects.trans (quiet_setO d (k := tk .A Obj.RUN_4240) 0 (by decide)) (quiet_of_obj (e := Dev.tracStop _ _) rfl)
  · exact OnlyObjects.trans (quiet_setO d (k := tk .B Obj.RUN_4240) 0 (by decide)) (quiet_of_obj (e := Dev.tracStop _ _) rfl)
  · exact quiet_gridOff d 0 0
  · exact OnlyObjects.trans (quiet_updDab _ _ _) (quiet_dabOff _ _ _)
  · exact OnlyObjects.trans (quiet_updDab _ _ _) (quiet_dabOff _ _ _)
  · exact quiet_linkShut d
  · exact quiet_actStop d
  · exact quiet_bomStop d

theorem quiet_safeStateAll (d : Dev) : d.Quiet (safeStateAll d) := by
  unfold safeStateAll
  refine OnlyObjects.trans ?_ (quiet_openReq _ _)
  exact OnlyObjects.trans (OnlyObjects.trans (OnlyObjects.trans (OnlyObjects.trans (OnlyObjects.trans (OnlyObjects.trans (OnlyObjects.trans (quiet_ascEnter d _ _)
    (quiet_ascEnter _ _ _)) (quiet_gridOff _ _ _)) (quiet_dabOff _ _ _)) (quiet_dabOff _ _ _)) (quiet_linkShut _)) (quiet_actStop _)) (quiet_bomStop _)

theorem quiet_react (d : Dev) (code : Nat) (dom : Domain) (first : Bool) : d.Quiet (d.react code dom first) := by
  unfold Dev.react
  simp only []
  split
  · exact quiet_domainStop d dom
  · split
    · exact OnlyObjects.when (quiet_safeStateAll d) _ (fun _ d => quiet_event d _)
    · exact .refl d

theorem quiet_postmark (d : Dev) (code : Nat) (dom : Domain) (src : FaultSrc) (inj : Bool) : d.Quiet (d.postmark code dom src inj) := by
  have key : ∀ k, 0x221000 ≤ k → k < 0x221100 → isReaction (at' k (faultClass code)) = true := by
    intro k h1 h2
    have h : faultClass code < 8 := Nat.mod_lt _ (by decide)
    have : 0x2210 ≤ keyIdx (at' k (faultClass code)) ∧ keyIdx (at' k (faultClass code)) ≤ 0x2217 := by simp only [keyIdx, at']; omega
    simp [isReaction, this.1, this.2]
  unfold Dev.postmark
  simp only []
  split
  · exact quiet_setO _ _ (key _ (by decide) (by decide))
  · refine OnlyObjects.trans ?_ (quiet_event _ _)
    iterate 9 refine OnlyObjects.trans ?_ (quiet_setO _ _ ?_)
    · exact quiet_setO _ _ (key Obj.CODE (by decide) (by decide))
    · exact key Obj.ADDRESS (by decide) (by decide)
    · exact key Obj.INITIATOR (by decide) (by decide)
    · exact key Obj.ACCESS (by decide) (by decide)
    · exact key Obj.WALL (by decide) (by decide)
    · exact key Obj.TRACK_1 (by decide) (by decide)
    · exact key Obj.VALUE_1 (by decide) (by decide)
    · exact key Obj.TRACK_2 (by decide) (by decide)
    · exact key Obj.VALUE_2 (by decide) (by decide)
    · exact key Obj.VALID_2210 (by decide) (by decide)

theorem quiet_logAdd (d : Dev) (code ev kind : Nat) : d.Quiet (d.logAdd code ev kind) :=
  by
  unfold Dev.logAdd
  simp only []
  refine OnlyObjects.addWrap ?_ _ _ (by decide)
  exact quiet_of_obj rfl

theorem quiet_raiseWith (d : Dev) (code : Nat) (dom : Domain) (src : FaultSrc) (lasting inj : Bool) : d.Quiet (d.raiseWith code dom src lasting inj) := by
  unfold Dev.raiseWith
  split
  · exact OnlyObjects.trans (quiet_logAdd d _ _ _) (quiet_postmark _ _ _ _ _)
  · split
    · exact quiet_of_obj rfl
    · simp only []
      refine OnlyObjects.trans (OnlyObjects.trans (OnlyObjects.trans ?_ (quiet_logAdd _ _ _ _)) (quiet_postmark _ _ _ _ _)) (quiet_react _ _ _ _)
      exact quiet_of_obj rfl

theorem OnlyObjects.mono {ks ls : Nat → Bool} {d e : Dev} (h : OnlyObjects ks d e) (m : ∀ k, ks k = true → ls k = true) : OnlyObjects ls d e :=
  ⟨fun k x y => h.same k (by cases q : ks k; rfl; simp [m k q] at x) y⟩

section
variable {ks : Nat → Bool} {a d : Dev} (h : OnlyObjects ks a d)
include h
theorem OnlyObjects.raiseWith (code : Nat) (dom : Domain) (src : FaultSrc) (l i : Bool) (m : ∀ k, isReaction k = true → ks k = true) :
    OnlyObjects ks a (d.raiseWith code dom src l i) := OnlyObjects.trans h ((quiet_raiseWith ..).mono m)
theorem OnlyObjects.raiseOn (code : Nat) (dom : Domain) (l : Bool) (src : FaultSrc) (m : ∀ k, isReaction k = true → ks k = true) :
    OnlyObjects ks a (d.raiseOn code dom l src) := OnlyObjects.raiseWith h _ _ _ _ _ m
theorem OnlyObjects.raise (code : Nat) (l : Bool) (src : FaultSrc) (m : ∀ k, isReaction k = true → ks k = true) :
    OnlyObjects ks a (d.raise code l src) := OnlyObjects.raiseWith h _ _ _ _ _ m
theorem OnlyObjects.domainStop (dom : Domain) (m : ∀ k, isReaction k = true → ks k = true) : OnlyObjects ks a (domainStop dom d) :=
  OnlyObjects.trans h ((quiet_domainStop ..).mono m)
theorem OnlyObjects.safeStateAll (m : ∀ k, isReaction k = true → ks k = true) : OnlyObjects ks a (safeStateAll d) :=
  OnlyObjects.trans h ((quiet_safeStateAll ..).mono m)
end

end Sys2Proof.Machine
end

