-- ==== Sys2Proof/Laws/Status.lean ====
section
/-! SUPPORT. The status that the E960 computes depends on no status object: on two states that agree but for those it is the same. -/

namespace Sys2Proof.Machine

/-- `e` is `d` but for the status objects. -/
structure Dev.Agrees (d e : Dev) : Prop where
  rest : e = { d with obj := e.obj }
  objects : ∀ k, isStatus k = false → e.o k = d.o k

theorem Dev.agrees_settle (d : Dev) : d.Agrees d.settle := ⟨d.settle_rest, fun _ h => d.o_settle h⟩

namespace Dev.Agrees

variable {d e : Dev}

theorem b (h : d.Agrees e) {k : Nat} (hk : isStatus k = false) : e.b k = d.b k := by simp [Dev.b, h.objects k hk]

theorem n (h : d.Agrees e) {k : Nat} (hk : isStatus k = false) : e.n k = d.n k := by simp [Dev.n, h.objects k hk]

theorem coll (h : d.Agrees e) : e.coll = d.coll := (congrArg Dev.coll h.rest).trans rfl
theorem power (h : d.Agrees e) : e.power = d.power := (congrArg Dev.power h.rest).trans rfl
theorem phase (h : d.Agrees e) : e.phase = d.phase := (congrArg Dev.phase h.rest).trans rfl
theorem fuse (h : d.Agrees e) : e.fuse = d.fuse := (congrArg Dev.fuse h.rest).trans rfl
theorem gates (h : d.Agrees e) : e.gates = d.gates := (congrArg Dev.gates h.rest).trans rfl
theorem hnLost (h : d.Agrees e) : e.hnLost = d.hnLost := (congrArg Dev.hnLost h.rest).trans rfl
theorem dead (h : d.Agrees e) : e.dead = d.dead := (congrArg Dev.dead h.rest).trans rfl
theorem leBlocked (h : d.Agrees e) : e.leBlocked = d.leBlocked := (congrArg Dev.leBlocked h.rest).trans rfl

theorem classInForce (h : d.Agrees e) (c : Nat) : e.classInForce c = d.classInForce c := by simp [Dev.classInForce, h.coll, h.power]

/-- SAFE_STATE (R427, R510). -/
theorem safeState (h : d.Agrees e) : e.safeState = d.safeState := by simp [Dev.safeState, h.classInForce]

/-- The faults in force (R514). -/
theorem inOrder (h : d.Agrees e) : e.inOrder = d.inOrder := by simp [Dev.inOrder, h.coll]

theorem running (h : d.Agrees e) (dom : Domain) : e.running dom = d.running dom := by
  cases dom <;> simp only [Dev.running, h.phase, List.any_cons, List.any_nil] <;>
    (repeat first | rw [h.b (by decide)] | rw [h.n (by decide)])

/-- The state of a domain (R427, R510). -/
theorem domainState (h : d.Agrees e) (dom : Domain) : e.domainState dom = d.domainState dom := by
  simp [Dev.domainState, h.classInForce, h.running, Dev.faultOnDomain, h.coll]

theorem latched (h : d.Agrees e) {n : Nat} (hn : n < 256) : e.latched n = d.latched n := by
  unfold Dev.latched
  rw [h.objects]
  apply isStatus_false
  simp only [List.mem_cons, List.not_mem_nil, or_false, forall_eq_or_imp, forall_eq, el, Obj.STATUS_6020]
  omega

theorem unlatched (h : d.Agrees e) (gs : List Nat) : e.unlatched gs = d.unlatched gs := by
  have hg (g : Nat) : e.groupChannels g = d.groupChannels g := by simp [Dev.groupChannels, Dev.assignment, h.gates]
  have one (g : Nat) : ∀ n ∈ d.groupChannels g, e.latched n = d.latched n := by
    intro n hn
    simp only [Dev.groupChannels, List.mem_filter, List.mem_map, List.mem_range] at hn
    obtain ⟨⟨i, hi, rfl⟩, -⟩ := hn
    exact h.latched (by omega)
  have all (l : List Nat) (hl : ∀ n ∈ l, e.latched n = d.latched n) : l.all (fun n => !e.latched n) = l.all (fun n => !d.latched n) := by
    induction l with
    | nil => rfl
    | cons a t ih => simp only [List.all_cons, hl a (by simp), ih (fun n hn => hl n (List.mem_cons_of_mem _ hn))]
  unfold Dev.unlatched
  congr 1; funext g
  rw [hg]; exact all _ (one g)

theorem fuseBars (h : d.Agrees e) (l : List Nat) : e.fuseBars l = d.fuseBars l := by
  simp only [Dev.fuseBars, h.fuse]; rw [h.b (by decide), h.objects _ (by decide)]

theorem served (h : d.Agrees e) (a b c : Nat) : e.served a b c = d.served a b c := by simp [Dev.served, h.hnLost, h.dead, h.leBlocked]

theorem fullSet (h : d.Agrees e) (dom : Domain) : e.fullSet dom = d.fullSet dom := by
  cases dom <;> simp only [Dev.fullSet, h.fuseBars, h.served, h.unlatched, h.hnLost, h.domainState, h.power, h.dead, h.leBlocked, mnum,
    List.all_cons, List.all_nil, Dev.trackValid] <;>
    (repeat first | rw [h.b (by decide)] | rw [h.n (by decide)] | rw [h.objects _ (by decide)])

/-- SERVICE_LEVEL (R427, R527). -/
theorem serviceLevel (h : d.Agrees e) : e.serviceLevel = d.serviceLevel := by simp [Dev.serviceLevel, h.phase, h.fullSet]

end Dev.Agrees

end Sys2Proof.Machine
end

