-- ==== Sys2Proof/Laws/Run.lean ====
section
/-! SUPPORT. What a command's answer is, by the operation that its meaning is one call of: `State.run` always, `State.live` while the engines
run, `State.serve` while object access is served, and the host SPI port's two. -/

namespace Sys2Proof.Machine

theorem completes_run {c : Instr} {s : State} {f : Dev → Dev} {p : Dev → Prop} (h : exec c s = s.run f) (hp : p (f s.dev).settle) :
    Completes c s p := ⟨_, h, rfl, hp⟩

theorem completes_live {c : Instr} {s : State} {f : Dev → Dev} {p : Dev → Prop} (h : exec c s = s.live f) (ha : s.dev.alive = true)
    (hp : p (f s.dev).settle) : Completes c s p :=
  completes_run (f := Dev.when s.dev.alive f) h (by rw [ha]; exact hp)

theorem completes_serve {c : Instr} {s : State} {f : Dev → Dev} {p : Dev → Prop} (h : exec c s = s.serve f) (ha : s.dev.phase = .service)
    (hp : p (f s.dev).settle) : Completes c s p :=
  completes_run (f := Dev.when (s.dev.phase == .service) f) h (by rw [ha]; exact hp)

theorem completes_hspRun {c : Instr} {s : State} {n : Nat} {f : Dev → Dev} {p : Dev → Prop} (h : exec c s = s.hspRun n f)
    (ha : s.dev.phase = .service) (hb : s.dev.portOff .hsp = false) (hp : p (f s.dev).settle) : Completes c s p :=
  completes_run h (by rw [ha, hb]; exact hp)

theorem completes_hspSingle {c : Instr} {s : State} {n : Nat} {f : Dev → Dev} {p : Dev → Prop} (h : exec c s = s.hspSingle n f)
    (ha : s.dev.phase = .service) (hb : s.dev.portOff .hsp = false) (hm : s.dev.o Obj.HSP_MODE = 0) (hp : p (f s.dev).settle) :
    Completes c s p :=
  completes_hspRun (f := Dev.when (s.dev.o Obj.HSP_MODE == 0) f) h ha hb (by rw [hm]; exact hp)

end Sys2Proof.Machine
end

