-- ==== Sys2Proof/Laws/Tables.lean ====
section
/-! SUPPORT. The canonical form of the sparse tables that hold the E960's addressed stores: the object dictionary, its blocks and the fuse
array. Keys rise strictly, no entry equals what an unlisted key reads as, and every write keeps both. -/

namespace Sys2Proof.Machine

theorem Tab.sorted_cons {α : Type} (k : Nat) (v : α) (t : Tab α) :
    Tab.sorted ((k, v) :: t) = true ↔ (∀ e ∈ t, k < e.1) ∧ Tab.sorted t = true := by
  induction t generalizing k v with
  | nil => simp [Tab.sorted]
  | cons e t ih =>
    obtain ⟨k', v'⟩ := e
    simp only [Tab.sorted, Bool.and_eq_true, decide_eq_true_eq, List.mem_cons, forall_eq_or_imp]
    refine ⟨fun ⟨h, hs⟩ => ⟨⟨h, fun e he => Nat.lt_trans h (((ih k' v').mp hs).1 e he)⟩, hs⟩, fun ⟨⟨h, _⟩, hs⟩ => ⟨h, hs⟩⟩

theorem Tab.mem_del {α : Type} {t : Tab α} {k : Nat} {e : Nat × α} (h : e ∈ Tab.del t k) : e ∈ t ∧ e.1 ≠ k := by
  induction t with
  | nil => simp [Tab.del] at h
  | cons x t ih =>
    obtain ⟨k', v⟩ := x
    by_cases hk : k' = k
    · simp only [Tab.del, if_pos hk] at h
      exact ⟨List.mem_cons_of_mem _ (ih h).1, (ih h).2⟩
    · simp only [Tab.del, if_neg hk, List.mem_cons] at h
      rcases h with rfl | h
      · exact ⟨List.mem_cons_self .., hk⟩
      · exact ⟨List.mem_cons_of_mem _ (ih h).1, (ih h).2⟩

theorem Tab.mem_put {α : Type} {t : Tab α} {k : Nat} {v : α} {e : Nat × α} (h : e ∈ Tab.put t k v) : e = (k, v) ∨ e ∈ t := by
  induction t with
  | nil => simpa [Tab.put] using h
  | cons x t ih =>
    obtain ⟨k', v'⟩ := x
    simp only [Tab.put] at h
    split at h
    · simp only [List.mem_cons] at h ⊢
      rcases h with h | h
      · exact .inl h
      · exact .inr (.inr h)
    · split at h
      · simp only [List.mem_cons] at h ⊢
        exact h
      · simp only [List.mem_cons] at h ⊢
        rcases h with h | h
        · exact .inr (.inl h)
        · rcases ih h with h | h
          · exact .inl h
          · exact .inr (.inr h)

theorem Tab.sorted_del {α : Type} {t : Tab α} (k : Nat) (h : Tab.sorted t = true) : Tab.sorted (Tab.del t k) = true := by
  induction t with
  | nil => rfl
  | cons x t ih =>
    obtain ⟨k', v⟩ := x
    have h' := (Tab.sorted_cons k' v t).mp h
    simp only [Tab.del]
    split
    · exact ih h'.2
    · exact (Tab.sorted_cons _ _ _).mpr ⟨fun e he => h'.1 e (Tab.mem_del he).1, ih h'.2⟩

theorem Tab.sorted_put {α : Type} {t : Tab α} (k : Nat) (v : α) (h : Tab.sorted t = true) : Tab.sorted (Tab.put t k v) = true := by
  induction t with
  | nil => rfl
  | cons x t ih =>
    obtain ⟨k', v'⟩ := x
    have h' := (Tab.sorted_cons k' v' t).mp h
    simp only [Tab.put]
    split
    · rename_i hk
      subst hk
      exact (Tab.sorted_cons _ _ _).mpr h'
    · split
      · rename_i hlt
        refine (Tab.sorted_cons _ _ _).mpr ⟨fun e he => ?_, h⟩
        simp only [List.mem_cons] at he
        rcases he with rfl | he
        · exact hlt
        · exact Nat.lt_trans hlt (h'.1 e he)
      · rename_i hne hlt
        refine (Tab.sorted_cons _ _ _).mpr ⟨fun e he => ?_, ih h'.2⟩
        rcases Tab.mem_put he with rfl | he
        · show k' < k
          omega
        · exact h'.1 e he

theorem Tab.wf_set {α : Type} [DecidableEq α] (dflt : Nat → α) {t : Tab α} (k : Nat) (v : α) (h : Tab.wf dflt t = true) :
    Tab.wf dflt (Tab.set (dflt k) t k v) = true := by
  simp only [Tab.wf, Bool.and_eq_true, List.all_eq_true, decide_eq_true_eq] at h ⊢
  unfold Tab.set
  split
  · exact ⟨Tab.sorted_del k h.1, fun e he => h.2 e (Tab.mem_del he).1⟩
  · rename_i hv
    refine ⟨Tab.sorted_put k v h.1, fun e he => ?_⟩
    rcases Tab.mem_put he with rfl | he
    · exact hv
    · exact h.2 e he

/-- A written object keeps the object dictionary canonical. -/
theorem Dev.wf_setO {d : Dev} (k : Nat) (v : Int) (h : Tab.wf dflt d.obj = true) : Tab.wf dflt (d.setO k v).obj = true := Tab.wf_set dflt k v h

/-- A written block keeps the blocks canonical. -/
theorem Dev.wf_setBlk {d : Dev} (k : Nat) (v : Bytes) (h : Tab.wf blkDflt d.blk = true) : Tab.wf blkDflt (d.setBlk k v).blk = true :=
  Tab.wf_set blkDflt k v h

theorem Memory.wf_setO {d : Dev} (k : Nat) (v : Int) (h : Memory.wf d = true) : Memory.wf (d.setO k v) = true := by
  simp only [Memory.wf, Bool.and_eq_true] at h ⊢
  exact ⟨⟨Dev.wf_setO k v h.1.1, h.1.2⟩, h.2⟩

theorem Memory.wf_setBlk {d : Dev} (k : Nat) (v : Bytes) (h : Memory.wf d = true) : Memory.wf (d.setBlk k v) = true := by
  simp only [Memory.wf, Bool.and_eq_true] at h ⊢
  exact ⟨⟨h.1.1, Dev.wf_setBlk k v h.1.2⟩, h.2⟩

/-- The stores after reset are canonical. -/
theorem Memory.wf_reset : Memory.wf State.reset.dev = true := by decide

end Sys2Proof.Machine
end

