-- ==== Sys2Proof/Tests/Slice0.lean ====
section
/-! SUPPORT. Tests: ill-formed terms that WellFormed refuses, worked examples of the spec, and for every statement with hypotheses a state and
operands that meet the hypotheses of each of its clauses. -/

namespace Sys2Proof.Machine

/-- `s` with a change of what the E960 holds beside its objects. -/
def State.having (s : State) (f : Dev → Dev) : State := { pending := s.pending, dev := f s.dev }

end Sys2Proof.Machine

namespace Sys2Proof.Tests

open Sys2Proof Sys2Proof.Machine

/-- The E960 in service with these objects, all else as after reset. -/
def svc (l : List (Nat × Int) := []) : State :=
  { pending := [], dev := l.foldl (fun d e => d.setO e.1 e.2) { State.reset.dev with phase := .service } }

/-! ### WellFormed refuses each ill-formed operand -/

theorem test_ill_formed_frames :
    [Instr.hnMonitorFrame 0 [1, 2, 3], .patternTableWrite 0 [256], .curveWrite .A false [256], .tractorLimitFrame (2 ^ 64) 0 0 0 0 true,
      .tractorLimitFrame 0 65536 0 0 0 true, .tractorLimitFrame 0 0 65536 0 0 true, .tractorLimitFrame 0 0 0 65536 0 true,
      .tractorLimitFrame 0 0 0 0 4 true, .bmsLimitFrame 256 0 0 0 0, .bmsLimitFrame 0 65536 0 0 0, .bmsLimitFrame 0 0 65536 0 0,
      .bmsLimitFrame 0 0 0 65536 0, .bmsLimitFrame 0 0 0 0 4, .sysDiagDone 0 [] 0, .servoPeriod [0, 0, 0], .gnssFixFrame (2 ^ 64) 0 0 0 none,
      .gnssFixFrame 0 16 0 0 none, .positionRapidFrame (2 ^ 64) 0 0, .courseSpeedFrame (2 ^ 64) 0 0, .courseSpeedFrame 0 65536 0,
      .courseSpeedFrame 0 0 65536, .headingFrame (2 ^ 64) 0, .headingFrame 0 65536, .machineSpeedFrame (2 ^ 64) true, .boundariesWrite [256],
      .rxGridWrite [256], .chainReturn 0 0 [256]].all (fun i => !i.wellFormed) = true := by decide

set_option maxRecDepth 4000 in
theorem test_ill_formed_units :
    [Instr.read .eth 0 256 0 0 0 0 [], .read .eth 0 0 (2 ^ 32) 0 0 0 [], .read .eth 0 0 0 65536 0 0 [], .read .eth 0 0 0 0 256 0 [],
      .read .eth 0 0 0 0 0 (2 ^ 32) [], .read .eth 0 0 0 0 0 0 [1], .read .eth 0 1 0 0 0 0 [], .write .eth 0 256 0 0 0 [] [] noInput,
      .write .eth 0 0 0 0 0 [256] [] noInput, .write .eth 0 1 0 0 0 [] [1, 2] noInput, .writeSeg .eth 0 256 0 0 0 0 true [] [] noInput,
      .writeSeg .eth 0 0 0 0 0 (2 ^ 32) true [] [] noInput, .writeSeg .eth 0 0 0 0 0 0 true [256] [] noInput,
      .writeSeg .eth 0 1 0 0 0 0 true [] [] noInput, .challenge .eth 0 (2 ^ 32) 1 [0, 0, 0, 0, 0, 0, 0, 0] [0, 0, 0, 0, 0, 0, 0, 0],
      .challenge .eth 0 0 256 [0, 0, 0, 0, 0, 0, 0, 0] [0, 0, 0, 0, 0, 0, 0, 0], .challenge .eth 0 0 1 [0] [0, 0, 0, 0, 0, 0, 0, 0],
      .challenge .eth 0 0 1 [0, 0, 0, 0, 0, 0, 0, 0] [0], .auth .eth 0 256 0 (List.replicate 16 0), .auth .eth 0 0 (2 ^ 32) (List.replicate 16 0),
      .auth .eth 0 0 0 [0], .close .eth 0 256 0 [], .close .eth 0 0 (2 ^ 32) [], .close .eth 0 0 0 [1], .keepalive .eth 0 256 0 [],
      .keepalive .eth 0 0 (2 ^ 32) [], .keepalive .eth 0 1 0 []].all (fun i => !i.wellFormed) = true := by decide

set_option maxRecDepth 8000 in
theorem test_ill_formed_others :
    [Instr.addressContention (2 ^ 64), .peerAddressClaim 256 0, .peerAddressClaim 0 (2 ^ 64), .tcStatusMessage (2 ^ 64),
      .tcProcessData (2 ^ 64) none 0 [], .courierWrite 0 0 [256], .writeUnit [256, 0, 0, 0, 0, 0, 0, 0, 0, 0, 0, 0], .writeUnit [0],
      .writeUnit (List.replicate 1049 0), .directRead (2 ^ 24), .hspBadCmd 256, .hspBadCmd 4, .hspAbort 256 0 0, .hspAbort 0 8192 0,
      .daisyFrameLatch 65536 [], .daisyFrameLatch 0 [256], .spQueueWrite 0 0 [256], .flashLineFill 0 [256], .kintWrite [256] [],
      .imgBlock 0 [256] true, .quietPeriodEnd 65536 .sys, .arpRequest (2 ^ 32), .icmpEchoRequest (2 ^ 32) [],
      .icmpEchoRequest 0 [256]].all (fun i => !i.wellFormed) = true := by decide

theorem test_well_formed :
    [Instr.hnMonitorFrame 0 [1, 2, 3, 4], .tractorLimitFrame 0 65535 65535 65535 3 true, .read .eth 0 0 0 0 0 0 [],
      .write .eth 0 1 0 0x4210 1 [0x90, 0x5F, 1, 0] [0, 0, 0, 0, 0, 0, 0, 0] noInput, .directRead 0x300107, .hspBadCmd 5,
      .quietPeriodEnd 0x143A .tra].all Instr.wellFormed = true := by decide

/-! ### Worked examples of the spec -/

/-- The example under R17: fault 0x143A is a Domain-stop of TRA with cause 0x03A. -/
theorem test_fault_code : faultDomain 0x143A = 1 ∧ faultClass 0x143A = 2 ∧ faultCause 0x143A = 0x3A := by decide

/-- The free loop of the loop engines' chapter: p 240, inc 96, d -23, the sum above OUT_MAX, the integrator kept, SAT_OUT. -/
theorem test_loop_example :
    (let r := pidStep { c := { kp := 2048, shP := 10, ki := 3277, shI := 12, kd := 4096, shD := 10, kf := 8192, shF := 15, kff := 0, shFf := 0 },
                        dMode := 1, outMin := 0, outMax := 4000, iAcc := 3700, d := -20, xPrev := -1372, halve := false } 1500 1380
     (r.e, r.p, r.inc, r.d, r.out, r.iAcc, r.flags) = (120, 240, 96, -23, 4000, 3700, 16)) := by decide

/-- The curve of the field chapter's example at 3,500 rpm and 700 V: BETA 6,500, KT 1,438, IMAX 688. -/
theorem test_curve_example :
    (let b := [1, 2, 2, 0, 184, 11, 160, 15, 88, 2, 32, 3] ++
        [112, 23, 220, 5, 188, 2, 16, 39, 176, 4, 140, 2, 184, 11, 114, 6, 188, 2, 88, 27, 122, 5, 188, 2]
     (curveAt b 0 35000 7000, curveAt b 1 35000 7000, curveAt b 2 35000 7000) = (6500, 1438, 688)) := by decide

/-- The status bytes of the host port's example: 0x40 with nothing waiting, 0x61 with the buffer filled, 0x51 after the read past the end. -/
theorem test_status_bytes :
    (svc).dev.hspStatus = 0x40 ∧ ((svc).having (fun d => { d with hsp := { d.hsp with ready := true } })).dev.hspStatus = 0x61 ∧
      ((svc).having (fun d => { d with hsp := { d.hsp with end_ := true } })).dev.hspStatus = 0x51 := by decide

/-- R8 and R411: a reference of TORQUE_SET is 0x421001, and its default entry is an I32 of the traction chapter. -/
theorem test_reference : keyIdx 0x421001 = 0x4210 ∧ keySub 0x421001 = 1 ∧ Obj.TORQUE_SET = 0x421001 := by decide

/-- The ledger's example: at 757.9 V the downward allowance is -1,100 W. -/
theorem test_allowance : ((svc [(Obj.C_LINK, 1200), (Obj.T_RESTORE, 10), (Obj.STORE_CAP, 20000)]).dev.allowance 7579 (7579 - (8000 - 300))) = -1100 := by
  decide

/-- R102: 10,000 Hz is 20,000 ticks to the half period, and 7,000 Hz 28,571. -/
theorem test_half_period :
    (svc).dev.carrierTicks .A = 2 * 20000 ∧ (svc [(Obj.F_PWM, 7000)]).dev.carrierTicks .A = 2 * 28571 := by decide

/-- A step takes the front command, and what it does from reset is its own effect: VSUP in range is read, the rest of the queue waits. -/
theorem test_first_step :
    (match Sys2Proof.Machine.step { State.reset with pending := [.vsupPowerOn 1350, .vsupLoss 0] } with
     | .next t => t.pending.length
     | _ => 9) = 1 := by decide


set_option maxRecDepth 8000 in
/-- R9, R487: the fuses of a shipped part put it in INTEGRATOR, and its locked regions pass their check. -/
theorem test_shipped_fuses :
    lcState State.reset.dev.lcStep = 2 ∧ State.reset.dev.o Obj.LIFE_CYCLE = 2 ∧ State.reset.dev.regionPasses 0 [] = true ∧
      State.reset.dev.nextWord 640 128 = 643 := by decide
/-! ### The hypotheses of every statement are met -/

theorem witness_StepRunsFrontCommand :
    (∃ (s : State) (c : Instr) (rest : List Instr), s.pending = c :: rest) ∧ ∃ s : State, s.pending = [] :=
  ⟨⟨{ State.reset with pending := [.eventDelivery] }, .eventDelivery, [], rfl⟩, State.reset, rfl⟩

theorem witness_EveryStepSettles : ∃ s t : State, s.dev.Settled ∧ Sys2Proof.Machine.step s = .next t :=
  ⟨State.reset, State.reset, ⟨by decide, by decide, by decide, fun dom => by cases dom <;> decide, by decide, by decide⟩, rfl⟩

theorem witness_SupervisorReactions :
    (∃ (s : State) (e : Engine) (code : Nat) (dom : Domain), s.dev.alive = true ∧ engineCode e ∉ s.dev.dead ∧ heartbeatFault e = some (code, dom)) ∧
    (∃ s : State, s.dev.alive = true ∧ s.dev.power.due = true) ∧
    (∃ (s : State) (ppm : Int), s.dev.alive = true ∧ s.dev.power.rc = false ∧ 20000 < ppm.natAbs) ∧
    (∃ s : State, s.dev.alive = true ∧ s.dev.power.alone = false) :=
  ⟨⟨svc, .ms 0, 0x1404, .tra, by decide⟩, ⟨(svc).having (fun d => { d with power := { d.power with due := true } }), by decide⟩,
   ⟨svc, -20001, by decide⟩, svc, by decide⟩

theorem witness_SparesAndLinks :
    (∃ (s : State) (g : Fin 3) (c : Fin 7) (diff : Int), s.dev.alive = true ∧ bitOf (s.dev.o Obj.SAR_SPARES_USED) g = false ∧ diff.natAbs ≤ 50) ∧
    (∃ (s : State) (g : Fin 3) (c : Fin 7) (diff : Int), s.dev.alive = true ∧ bitOf (s.dev.o Obj.SAR_SPARES_USED) g = false ∧ 50 < diff.natAbs ∧
      Tab.get 0 s.dev.sar (8 * g + c) < 2) ∧
    (∃ (s : State) (g : Fin 3) (c : Fin 7) (diff : Int), s.dev.alive = true ∧ bitOf (s.dev.o Obj.SAR_SPARES_USED) g = false ∧ 50 < diff.natAbs ∧
      2 ≤ Tab.get 0 s.dev.sar (8 * g + c)) ∧
    (∃ (s : State) (h : Fin 6), s.dev.alive = true ∧ Tab.get 0 s.dev.hnBad h < 3 ∧ h.val ∉ s.dev.hnLost) ∧
    (∃ (s : State) (h : Fin 6), s.dev.alive = true ∧ 3 ≤ Tab.get 0 s.dev.hnBad h ∧ h.val ∉ s.dev.hnLost) ∧
    (∃ (s : State) (m : Mach), s.dev.alive = true ∧ Tab.get 0 s.dev.hnBad (mnum m) < 3) ∧
    (∃ (s : State) (m : Mach), s.dev.alive = true ∧ s.dev.n (tk m Obj.BRIDGE_STATE) = 1) ∧
    (∃ (s : State) (h : Fin 6), s.dev.alive = true ∧ 2 ≤ h.val) :=
  ⟨⟨svc, 0, 6, 50, by decide⟩, ⟨svc, 2, 0, -51, by decide⟩, ⟨(svc).having (fun d => { d with sar := [(0, 2)] }), 0, 0, 51, by decide⟩,
   ⟨(svc).having (fun d => { d with hnBad := [(5, 2)] }), 5, by decide⟩, ⟨(svc).having (fun d => { d with hnBad := [(5, 3)] }), 5, by decide⟩,
   ⟨svc, .B, by decide⟩, ⟨svc [(tk .B Obj.BRIDGE_STATE, 1)], .B, by decide⟩, svc, 2, by decide⟩

theorem witness_PortConditions :
    (∃ s : State, s.dev.phase = .service ∧ s.dev.b Obj.ETH_LINK = false) ∧
    (∃ (s : State) (ip : Nat), s.dev.phase = .service ∧ s.dev.b Obj.ETH_LINK = true ∧ s.dev.portOff .eth = false ∧ ip = s.dev.n Obj.IP_ADDR) :=
  ⟨⟨svc, by decide⟩, svc [(Obj.ETH_LINK, 1)], (svc).dev.n Obj.IP_ADDR, by decide⟩


theorem witness_SlotTests :
    let p : Dev → TrackId → Nat → Prop := fun d t n => 416 ≤ n ∧ n < 512 ∧ d.n (slotKey Obj.QUALIFIER_3200 n) = 1 ∧
      d.n (slotKey Obj.ACTION n) = 0 ∧ d.n (slotKey Obj.PERIOD_3200 n) = 0 ∧ d.couriers = []
    let x : Dev → TrackId → Nat → Int := fun d t n => t.diff (d.value t) (d.o (slotKey Obj.TARGET_3200 n))
    (∃ d t n, p d t n ∧ 0 < x d t n) ∧ (∃ d t n, p d t n ∧ x d t n = 0) ∧
      (∃ d t n, p d t n ∧ x d t n < 0 ∧ ((x d t n).natAbs : Int) ≤ d.o t.lateKey) ∧ ∃ d t n, p d t n ∧ x d t n < 0 ∧ d.o t.lateKey < (x d t n).natAbs := by
  refine ⟨⟨(svc [(slotKey Obj.QUALIFIER_3200 416, 1), (slotKey Obj.TARGET_3200 416, 1)]).dev, .gnd, 416, by decide⟩,
    ⟨(svc [(slotKey Obj.QUALIFIER_3200 511, 1)]).dev, .gnd, 511, by decide⟩,
    ⟨(svc [(slotKey Obj.QUALIFIER_3200 416, 1), (slotKey Obj.TARGET_3200 416, -5), (TrackId.gnd.lateKey, 5)]).dev, .gnd, 416, by decide⟩,
    ⟨(svc [(slotKey Obj.QUALIFIER_3200 416, 1), (slotKey Obj.TARGET_3200 416, -6), (TrackId.gnd.lateKey, 5)]).dev, .gnd, 416, by decide⟩⟩

set_option maxRecDepth 8000 in
theorem witness_TrackUpdates :
    (∃ (s : State) (t : TrackId) (_ _ : Int), (s.dev.alive = true) ∧ (s.dev.slots = []) ∧ (s.dev.writes = []) ∧ (t ≠ .wall) ∧ ((s.dev.trk t).started = false)) ∧
    (∃ (s : State) (t : TrackId) (v _ : Int), (s.dev.alive = true) ∧ (s.dev.slots = []) ∧ (s.dev.writes = []) ∧ (t = .gnd ∨ (∃ k, t = .ax k) ∨ (∃ n, t = .row n)) ∧ (s.dev.b t.validKey = true) ∧ ((s.dev.trk t).started = true) ∧ ((s.dev.extrapolate t).o t.stepKey < (t.diff ((s.dev.extrapolate t).value t) v).natAbs)) ∧
    (∃ (s : State), (s.dev.alive = true) ∧ (s.dev.slots = []) ∧ (s.dev.writes = [])) ∧
    (∃ (s : State) (t : TrackId), (s.dev.alive = true) ∧ (s.dev.canLose t = true) ∧ (t.isRow = false) ∧ (s.dev.b t.validKey = true)) ∧
    (∃ (s : State) (_ : Fin 128), (s.dev.alive = true) ∧ (s.dev.b Obj.ROW_VALID = true)) ∧
    (∃ (s : State) (t : TrackId), (s.dev.alive = true) ∧ (s.dev.canLose t = false ∨ s.dev.b t.validKey = false)) ∧
    (∃ (s : State) (t : TrackId), (s.dev.alive = true) ∧ (s.dev.writes = []) ∧ (t ≠ .wall) ∧ (s.dev.b t.validKey = false)) ∧
    (∃ (s : State) (t : TrackId), (s.dev.alive = true) ∧ (s.dev.slots = []) ∧ (s.dev.writes = []) ∧ (t = .gnd ∨ (∃ k, t = .ax k) ∨ (∃ n, t = .row n)) ∧ (s.dev.b t.validKey = true) ∧ ((s.dev.trk t).holding = false) ∧ ((s.dev.trk t).limit = none)) :=
  ⟨⟨svc, .gnd, 5, 1, by decide⟩,
   ⟨{ svc [(TrackId.gnd.validKey, 1), (TrackId.gnd.stepKey, 5)] with dev := { (svc [(TrackId.gnd.validKey, 1), (TrackId.gnd.stepKey, 5)]).dev with tracks := [(4, { started := true })] } }, .gnd, 100, 0, by decide⟩,
   ⟨svc, by decide⟩,
   ⟨svc [(TrackId.gnd.validKey, 1)], .gnd, by decide⟩,
   ⟨svc [(Obj.ROW_VALID, 1)], 0, by decide⟩,
   ⟨svc, .wall, by decide⟩,
   ⟨svc, .angB, by decide⟩,
   ⟨svc [(TrackId.gnd.validKey, 1)], .gnd, by decide⟩⟩

set_option maxRecDepth 8000 in
theorem witness_SlotCommands :
    (∃ (s : State) (n : Fin 512), (s.dev.alive = true) ∧ (n.val < 416)) ∧
    (∃ (s : State) (n : Fin 512), (s.dev.alive = true) ∧ (416 ≤ n.val) ∧ ((s.dev.slotAhead n).slotRefused n = true)) ∧
    (∃ (s : State) (n : Fin 512), (s.dev.alive = true) ∧ (416 ≤ n.val) ∧ ((s.dev.slotAhead n).slotRefused n = false) ∧ (s.dev.courierPending n = true)) ∧
    (∃ (s : State) (n : Fin 512) (t : TrackId), (s.dev.alive = true) ∧ (416 ≤ n.val) ∧ ((s.dev.slotAhead n).slotRefused n = false) ∧ (s.dev.courierPending n = false) ∧ (trackOf (s.dev.n (slotKey Obj.TRACK_3200 n)) = some t) ∧ (s.dev.b t.validKey = true)) ∧
    (∃ (s : State) (n : Fin 512), (s.dev.alive = true) ∧ (n.val < 416)) ∧
    (∃ (s : State) (n : Fin 512), (s.dev.alive = true) ∧ (416 ≤ n.val) ∧ (s.dev.courierPending n = true)) ∧
    (∃ (s : State) (n : Fin 512) (t : TrackId), (s.dev.alive = true) ∧ (416 ≤ n.val) ∧ (s.dev.courierPending n = false) ∧ (trackOf (s.dev.n (slotKey Obj.TRACK_3200 n)) = some t) ∧ (s.dev.b t.validKey = true)) ∧
    (∃ (s : State) (n : Fin 512) (f : Fin 6) (v : Int), (s.dev.alive = true) ∧ ((s.dev.slotAhead n).slotFieldCheck n (f + 1) v ≠ 0)) ∧
    (∃ (s : State) (n : Fin 512) (f : Fin 6) (v : Int) (t : TrackId), (s.dev.alive = true) ∧ ((s.dev.slotAhead n).slotFieldCheck n (f + 1) v = 0) ∧ (trackOf (s.dev.n (slotKey Obj.TRACK_3200 n)) = some t) ∧ (s.dev.b t.validKey = true)) :=
  ⟨⟨svc, 3, by decide⟩,
   ⟨svc [(slotKey Obj.ACTION 416, 4)], 416, by decide⟩,
   ⟨{ svc with dev := { (svc).dev with couriers := [(1, { pending := true, slot := some 416 })] } }, 416, by decide⟩,
   ⟨svc [(TrackId.wall.validKey, 1)], 416, .wall, by decide⟩,
   ⟨svc, 415, by decide⟩,
   ⟨{ svc with dev := { (svc).dev with couriers := [(1, { pending := true, slot := some 511 })] } }, 511, by decide⟩,
   ⟨svc [(TrackId.wall.validKey, 1)], 416, .wall, by decide⟩,
   ⟨svc, 0, 0, 0, by decide⟩,
   ⟨svc [(TrackId.wall.validKey, 1)], 500, 1, -7, .wall, by decide⟩⟩

set_option maxRecDepth 8000 in
theorem witness_EncoderFrames :
    (∃ (s : State) (i : Fin 2) (lead _ _ _ _ : Nat) (_ : Bool) (m : Mach), (s.dev.alive = true) ∧ ((s.dev.ssiOf i).inFrame = true) ∧ ((s.dev.ssiOf i).measuring = false) ∧ (s.dev.n (at' Obj.LEADING i) ≠ 0) ∧ (lead ≠ 0) ∧ (s.dev.machOf [i + 1] = some m) ∧ ((s.dev.ssiOf i).rejects < 2)) ∧
    (∃ (s : State) (i : Fin 2) (lead _ _ _ _ : Nat) (_ : Bool) (m : Mach), (s.dev.alive = true) ∧ ((s.dev.ssiOf i).inFrame = true) ∧ ((s.dev.ssiOf i).measuring = false) ∧ (s.dev.n (at' Obj.LEADING i) ≠ 0) ∧ (lead ≠ 0) ∧ (s.dev.machOf [i + 1] = some m) ∧ (2 ≤ (s.dev.ssiOf i).rejects)) ∧
    (∃ (s : State) (i : Fin 2) (_ _ _ _ _ : Nat), (s.dev.alive = true) ∧ ((s.dev.ssiOf i).inFrame = true) ∧ ((s.dev.ssiOf i).measuring = false) ∧ (s.dev.n (at' Obj.LEADING i) = 0) ∧ (s.dev.n (at' Obj.CHECK i) = 0) ∧ (s.dev.n (at' Obj.STATUS_BITS i) = 0) ∧ (s.dev.o (at' Obj.CODING i) = 1) ∧ (s.dev.machOf [i + 1] = none)) ∧
    (∃ (s : State) (i : Fin 2), (s.dev.alive = true) ∧ ((s.dev.machOf [i.val + 1]).isSome = true) ∧ ((s.dev.ssiOf i).inFrame = false) ∧ ((s.dev.ssiOf i).mono = false)) ∧
    (∃ (s : State) (i : Fin 2), (s.dev.alive = true) ∧ ((s.dev.machOf [i.val + 1]).isSome = true) ∧ ((s.dev.ssiOf i).inFrame = true ∨ (s.dev.ssiOf i).mono = true)) ∧
    (∃ (s : State) (i : Fin 2), (s.dev.alive = true) ∧ ((s.dev.ssiOf i).mono = true) ∧ ((s.dev.ssiOf i).inFrame = false)) ∧
    (∃ (s : State) (i : Fin 2) (m : Mach), (s.dev.alive = true) ∧ (s.dev.machOf [i.val + 1] = some m)) :=
  ⟨⟨(svc [(Obj.PRIMARY, 1), (Obj.LEADING, 1)]).having (fun d => { d with ssi := [(0, { inFrame := true })] }), 0, 1, 0, 0, 0, 0, false, .A, by decide⟩,
   ⟨(svc [(Obj.PRIMARY, 1), (Obj.LEADING, 1)]).having (fun d => { d with ssi := [(0, { inFrame := true, rejects := 2 })] }), 0, 1, 0, 0, 0, 0, false, .A, by decide⟩,
   ⟨(svc [(Obj.LEADING, 0), (Obj.CHECK, 0), (Obj.STATUS_BITS, 0), (Obj.CODING, 1), (Obj.PRIMARY, 7), (Obj.SECONDARY, 7), (at' Obj.PRIMARY 1, 7)]).having (fun d => { d with ssi := [(0, { inFrame := true })] }), 0, 0, 5, 0, 0, 0, by decide⟩,
   ⟨svc [(Obj.PRIMARY, 1)], 0, by decide⟩,
   ⟨(svc [(Obj.PRIMARY, 1)]).having (fun d => { d with ssi := [(0, { inFrame := true })] }), 0, by decide⟩,
   ⟨svc.having (fun d => { d with ssi := [(1, { mono := true, pending := true })] }), 1, by decide⟩,
   ⟨svc [(Obj.PRIMARY, 1)], 0, .A, by decide⟩⟩

set_option maxRecDepth 8000 in
theorem witness_SpeedsAndPulses :
    (∃ (s : State), (s.dev.alive = true)) ∧
    (∃ (s : State) (_ : Fin 7), (s.dev.alive = true)) ∧
    (∃ (s : State) (i : Fin 3) (width : Nat), (s.dev.alive = true) ∧ (width < s.dev.n (at' Obj.FILTER_US_3450 i) * 1000)) ∧
    (∃ (s : State) (i : Fin 3) (width : Nat), (s.dev.alive = true) ∧ (s.dev.n (at' Obj.FILTER_US_3450 i) * 1000 ≤ width)) ∧
    (∃ (s : State) (i : Fin 2) (ab : Fin 4), (s.dev.alive = true) ∧ ((quadPhase ab + 4 - quadPhase (s.dev.incOf i).ab) % 4 = 1) ∧ (s.dev.machOf [3 + i] = none)) ∧
    (∃ (s : State) (i : Fin 2) (ab : Fin 4), (s.dev.alive = true) ∧ ((quadPhase ab + 4 - quadPhase (s.dev.incOf i).ab) % 4 = 3) ∧ (s.dev.machOf [3 + i] = none)) ∧
    (∃ (s : State) (i : Fin 2) (ab : Fin 4), (s.dev.alive = true) ∧ ((quadPhase ab + 4 - quadPhase (s.dev.incOf i).ab) % 4 = 2) ∧ (s.dev.machOf [3 + i] = none)) ∧
    (∃ (s : State) (i : Fin 2), (s.dev.alive = true) ∧ (s.dev.n (at' Obj.INDEX_STATE i) = 4 ∨ s.dev.n (at' Obj.INDEX_STATE i) = (s.dev.incOf i).ab) ∧ (s.dev.machOf [3 + i] = none) ∧ ((s.dev.incOf i).latchArmed = true) ∧ (s.dev.n (at' Obj.INDEX_RESET i) = 1) ∧ ((s.dev.incOf i).lastIndex = none)) ∧
    (∃ (s : State) (_ : Fin 2), (s.dev.alive = true)) ∧
    (∃ (s : State) (i : Fin 2) (m : Mach), (s.dev.alive = true) ∧ (s.dev.o (at' Obj.INPUT_MODE i.val) = 0) ∧ (s.dev.machOf [3 + i.val] = some m)) :=
  ⟨⟨svc, by decide⟩,
   ⟨svc, 5, by decide⟩,
   ⟨svc [(Obj.FILTER_US_3450, 10)], 0, 0, by decide⟩,
   ⟨svc, 0, 20000000, by decide⟩,
   ⟨svc [(Obj.PRIMARY, 7), (Obj.SECONDARY, 7), (at' Obj.PRIMARY 1, 7), (at' Obj.SECONDARY 1, 7)], 0, 1, by decide⟩,
   ⟨svc [(Obj.PRIMARY, 7), (Obj.SECONDARY, 7), (at' Obj.PRIMARY 1, 7), (at' Obj.SECONDARY 1, 7)], 0, 2, by decide⟩,
   ⟨svc [(Obj.PRIMARY, 7), (Obj.SECONDARY, 7), (at' Obj.PRIMARY 1, 7), (at' Obj.SECONDARY 1, 7)], 0, 3, by decide⟩,
   ⟨(svc [(Obj.PRIMARY, 7), (Obj.SECONDARY, 7), (at' Obj.PRIMARY 1, 7), (at' Obj.SECONDARY 1, 7), (Obj.INDEX_STATE, 4), (Obj.INDEX_RESET, 1)]).having (fun d => { d with inc := [(0, { latchArmed := true })] }), 0, by decide⟩,
   ⟨svc, 1, by decide⟩,
   ⟨svc [(Obj.PRIMARY, 3)], 0, .A, by decide⟩⟩

set_option maxRecDepth 8000 in
theorem witness_HallSets :
    (∃ (s : State) (i : Fin 2) (raw : Fin 8) (st : Nat), (s.dev.alive = true) ∧ (Nat.xor raw (s.dev.n (at' Obj.INVERT i)) % 8 = st) ∧ (s.dev.machOf [5 + i] = none) ∧ (s.dev.machOf [5 + i, 3 + i] = none) ∧ ((s.dev.hallOf i).last ≠ 0) ∧ (st ≠ 0) ∧ (st ≠ 7) ∧ (s.dev.n (at' Obj.STATE_3420 i) = (s.dev.hallOf i).last) ∧ ((hallPlace st + 6 - hallPlace (s.dev.hallOf i).last) % 6 = 1) ∧ ((s.dev.hallOf i).last ≠ 7)) ∧
    (∃ (s : State) (i : Fin 2) (raw : Fin 8) (st : Nat), (s.dev.alive = true) ∧ (Nat.xor raw (s.dev.n (at' Obj.INVERT i)) % 8 = st) ∧ (s.dev.machOf [5 + i] = none) ∧ (s.dev.machOf [5 + i, 3 + i] = none) ∧ ((s.dev.hallOf i).last ≠ 0) ∧ (st ≠ 0) ∧ (st ≠ 7) ∧ (s.dev.n (at' Obj.STATE_3420 i) = (s.dev.hallOf i).last) ∧ ((hallPlace st + 6 - hallPlace (s.dev.hallOf i).last) % 6 = 5) ∧ ((s.dev.hallOf i).last ≠ 7)) ∧
    (∃ (s : State) (i : Fin 2) (raw : Fin 8) (st : Nat), (s.dev.alive = true) ∧ (Nat.xor raw (s.dev.n (at' Obj.INVERT i)) % 8 = st) ∧ (s.dev.machOf [5 + i] = none) ∧ (s.dev.machOf [5 + i, 3 + i] = none) ∧ (st = 0 ∨ st = 7) ∧ (s.dev.n (at' Obj.STATE_3420 i) ≠ st)) ∧
    (∃ (s : State) (i : Fin 2) (m : Mach), (s.dev.alive = true) ∧ (s.dev.o (at' Obj.STATE_3420 i.val) = 0 ∨ s.dev.o (at' Obj.STATE_3420 i.val) = 7) ∧ (s.dev.machOf [5 + i.val, 3 + i.val] = some m)) ∧
    (∃ (s : State) (i : Fin 2), (s.dev.alive = true) ∧ (s.dev.n (at' Obj.STATE_3420 i) ≠ 0) ∧ (s.dev.n (at' Obj.STATE_3420 i) ≠ 7) ∧ (s.dev.machOf [5 + i] = none)) :=
  ⟨⟨(svc [(Obj.PRIMARY, 7), (Obj.SECONDARY, 7), (at' Obj.PRIMARY 1, 7), (at' Obj.SECONDARY 1, 7), (Obj.STATE_3420, 1)]).having (fun d => { d with hall := [(0, { last := 1 })] }), 0, 3, 3, by decide⟩,
   ⟨(svc [(Obj.PRIMARY, 7), (Obj.SECONDARY, 7), (at' Obj.PRIMARY 1, 7), (at' Obj.SECONDARY 1, 7), (Obj.STATE_3420, 1)]).having (fun d => { d with hall := [(0, { last := 1 })] }), 0, 5, 5, by decide⟩,
   ⟨svc [(Obj.PRIMARY, 7), (Obj.SECONDARY, 7), (at' Obj.PRIMARY 1, 7), (at' Obj.SECONDARY 1, 7)], 0, 7, 7, by decide⟩,
   ⟨svc [(Obj.PRIMARY, 5)], 0, .A, by decide⟩,
   ⟨svc [(Obj.PRIMARY, 7), (Obj.SECONDARY, 7), (at' Obj.PRIMARY 1, 7), (at' Obj.SECONDARY 1, 7), (Obj.STATE_3420, 2)], 0, by decide⟩⟩

set_option maxRecDepth 8000 in
theorem witness_ProbesAndInertialSensor :
    (∃ (s : State) (_ : Fin 4), (s.dev.alive = true)) ∧
    (∃ (s : State) (_ : Fin 4), (s.dev.alive = true)) ∧
    (∃ (s : State) (_ : Fin 4), (s.dev.alive = true)) ∧
    (∃ (s : State) (p : Fin 4) (rising : Bool), (s.dev.alive = true) ∧ ((Tab.get {} s.dev.probes p : Probe).armed = true) ∧ ((Tab.get {} s.dev.probes p : Probe).from_ ≤ s.dev.wall) ∧ (s.dev.n (at' Obj.EDGE p) = 3 ∨ s.dev.n (at' Obj.EDGE p) = if rising then 1 else 2) ∧ (s.dev.n (at' Obj.TRACK_3440 p) = 0) ∧ (s.dev.o (at' Obj.MODE_3440 p) = 1)) ∧
    (∃ (s : State) (_ _ _ _ : Int), (s.dev.alive = true) ∧ (s.dev.imuFailed = false)) ∧
    (∃ (s : State), (s.dev.alive = true)) :=
  ⟨⟨svc, 2, by decide⟩,
   ⟨svc, 2, by decide⟩,
   ⟨svc, 2, by decide⟩,
   ⟨(svc [(Obj.EDGE, 1), (Obj.TRACK_3440, 0), (Obj.MODE_3440, 1)]).having (fun d => { d with probes := [(0, { armed := true })] }), 0, true, by decide⟩,
   ⟨svc, 1, 2, 3, -4, by decide⟩,
   ⟨svc, by decide⟩⟩

set_option maxRecDepth 8000 in
theorem witness_LearningOfTheOffset :
    (∃ (s : State) (m : Mach) (emf : Nat), (s.dev.phase = .service) ∧ (s.dev.stopped (mdom m) = true) ∧ (s.dev.sourceValid m (s.dev.n (srcKey m Obj.PRIMARY)) = true) ∧ (s.dev.learnFrequency m = true) ∧ (200 ≤ emf) ∧ (s.dev.o Obj.VDC = 0 ∨ (10 * emf : Int) < 9 * s.dev.o Obj.VDC) ∧ ((s.dev.sourceOf m).learning = false)) ∧
    (∃ (s : State) (m : Mach) (emf : Nat), (s.dev.phase = .service) ∧ (emf < 200 ∨ (s.dev.sourceOf m).learning = true ∨ s.dev.stopped (mdom m) = false)) ∧
    (∃ (s : State) (m : Mach), (s.dev.phase = .service) ∧ ((s.dev.sourceOf m).learning = true)) ∧
    (∃ (s : State) (m : Mach) (x : Dev), (s.dev.alive = true) ∧ ((s.dev.sourceOf m).learning = true) ∧ ((s.dev.sourceOf m).learnDevs.length < 63) ∧ ((s.dev.sourceOf m).learnLast = none) ∧ (s.dev.extrapolate (angOf m) = x) ∧ (x.sourceOf m = s.dev.sourceOf m)) ∧
    (∃ (s : State) (m : Mach) (x : Dev) (v : Int), (s.dev.alive = true) ∧ ((s.dev.sourceOf m).learning = true) ∧ (s.dev.extrapolate (angOf m) = x) ∧ (x.value (angOf m) = v) ∧ ((s.dev.sourceOf m).learnDevs = List.replicate 63 (ang16 (v - 27307))) ∧ ((s.dev.sourceOf m).learnLast = none)) ∧
    (∃ (s : State) (m : Mach), (s.dev.alive = true) ∧ ((s.dev.sourceOf m).learning = true)) :=
  ⟨⟨svc [(Obj.PRIMARY, 7), (tk .A Obj.LOCKED_4230, 1), ((angOf .A).rateKey, 655360)], .A, 200, by decide⟩,
   ⟨svc, .B, 199, by decide⟩,
   ⟨svc.having (fun d => { d with source := [(0, { learning := true })] }), .A, by decide⟩,
   ⟨svc.having (fun d => { d with source := [(1, { learning := true })] }), .B, (svc.having (fun d => { d with source := [(1, { learning := true })] })).dev.extrapolate .angB, by decide⟩,
   ⟨svc.having (fun d => { d with source := [(1, { learning := true, learnDevs := List.replicate 63 (-27307) })] }), .B, (svc.having (fun d => { d with source := [(1, { learning := true, learnDevs := List.replicate 63 (-27307) })] })).dev.extrapolate .angB, 0, by decide⟩,
   ⟨svc.having (fun d => { d with source := [(1, { learning := true })] }), .B, by decide⟩⟩

set_option maxRecDepth 8000 in
theorem witness_TractionCommands :
    (∃ (s : State) (_ : Mach), (s.dev.alive = true)) ∧
    (∃ (s : State) (_ : Fin 8) (b : Bytes), (s.dev.phase = .service) ∧ (patternCheck b ≠ 0)) ∧
    (∃ (s : State) (_ : Fin 8) (b : Bytes), (s.dev.phase = .service) ∧ (patternCheck b = 0) ∧ (s.dev.stopped .tra = false ∨ s.dev.stopped .trb = false)) ∧
    (∃ (s : State) (_ : Fin 8) (b : Bytes), (s.dev.phase = .service) ∧ (patternCheck b = 0) ∧ (s.dev.stopped .tra = true) ∧ (s.dev.stopped .trb = true)) ∧
    (∃ (s : State) (_ : Mach) (_ : Bool) (b : Bytes), (s.dev.phase = .service) ∧ (curveCheck b ≠ 0)) ∧
    (∃ (s : State) (m : Mach) (_ : Bool) (b : Bytes), (s.dev.phase = .service) ∧ (curveCheck b = 0) ∧ (s.dev.stopped (mdom m) = true)) ∧
    (∃ (s : State) (m : Mach) (_ : Bool) (b : Bytes), (s.dev.phase = .service) ∧ (curveCheck b = 0) ∧ (s.dev.stopped (mdom m) = false)) ∧
    (∃ (s : State) (_ : Mach), (s.dev.phase = .service)) ∧
    (∃ (s : State) (m : Mach), (s.dev.phase = .service) ∧ (s.dev.fuseBars (enableBits (mdom m)) = false) ∧ (s.dev.startBlocked (mdom m) = true ∨ (s.dev.o (tk m Obj.BRIDGE_STATE) = 0 ∧ s.dev.runConditions m = false))) ∧
    (∃ (s : State) (m : Mach), (s.dev.phase = .service) ∧ (s.dev.fuseBars (enableBits (mdom m)) = false) ∧ (s.dev.startBlocked (mdom m) = false) ∧ (s.dev.o (tk m Obj.BRIDGE_STATE) ≠ 0 ∨ s.dev.runConditions m = true)) ∧
    (∃ (s : State) (m : Mach), (s.dev.alive = true) ∧ (s.dev.o (tk m Obj.BRIDGE_STATE) = 2) ∧ (s.dev.b (tk m Obj.LOCKED_4230) = false)) ∧
    (∃ (s : State) (m : Mach), (s.dev.alive = true) ∧ (s.dev.o (tk m Obj.BRIDGE_STATE) = 3 ∨ s.dev.o (tk m Obj.BRIDGE_STATE) = 4) ∧ (s.dev.sensorActive m = false) ∧ (s.dev.tier3 = false) ∧ (s.dev.tier4 = false) ∧ ((s.dev.tracOf m).probing = false)) ∧
    (∃ (s : State) (m : Mach) (emf freq : Nat) (dcHigh : Bool), (s.dev.alive = true) ∧ ((s.dev.tracOf m).probing = true) ∧ (dcHigh = true ∨ 9 * (s.dev.tracOf m).vdc < 10 * emf ∨ 95 * s.dev.n (tk m Obj.ASC_SPEED) * 1000 * s.dev.n (srcKey m Obj.POLE_PAIRS_3430) ≤ freq * 6000)) ∧
    (∃ (s : State) (m : Mach) (emf freq : Nat), (s.dev.alive = true) ∧ ((s.dev.tracOf m).probing = true) ∧ (10 * emf ≤ 9 * (s.dev.tracOf m).vdc) ∧ (freq * 6000 < 95 * s.dev.n (tk m Obj.ASC_SPEED) * 1000 * s.dev.n (srcKey m Obj.POLE_PAIRS_3430)) ∧ (s.dev.ascCauseGone m = true)) :=
  ⟨⟨svc, .B, by decide⟩,
   ⟨svc, 0, [1], by decide⟩,
   ⟨svc [(Obj.RUN_4240, 1)], 0, [], by decide⟩,
   ⟨svc, 0, [], by decide⟩,
   ⟨svc, .A, true, [1], by decide⟩,
   ⟨svc, .B, false, [], by decide⟩,
   ⟨svc [(Obj.RUN_4240, 1)], .A, false, [], by decide⟩,
   ⟨svc, .B, by decide⟩,
   ⟨svc, .B, by decide⟩,
   ⟨svc [(Obj.BRIDGE_STATE, 1)], .A, by decide⟩,
   ⟨svc [(tk .A Obj.BRIDGE_STATE, 2)], .A, by decide⟩,
   ⟨svc [(tk .A Obj.BRIDGE_STATE, 3)], .A, by decide⟩,
   ⟨{ svc with dev := { (svc).dev with trac := [(0, { probing := true })] } }, .A, 5, 0, true, by decide⟩,
   ⟨{ svc with dev := { (svc).dev with trac := [(0, { probing := true })] } }, .A, 0, 0, by decide⟩⟩

set_option maxRecDepth 8000 in
theorem witness_TractionBoundaries :
    (∃ (s : State) (m : Mach) (_ : TracIn), (s.dev.alive = true) ∧ (s.dev.dead.contains (0x20 + mnum m) = false) ∧ (s.dev.writes = []) ∧ (s.dev.slots = []) ∧ (s.dev.o (srcKey m Obj.ACTIVE_SOURCE) = 0) ∧ (s.dev.n (tk m Obj.BRIDGE_STATE) = 0) ∧ (s.dev.b (tk m Obj.RUN_4240) = false) ∧ ((s.dev.tracOf m).stopWaits = false) ∧ ((s.dev.tracOf m).offWaits = false)) ∧
    (∃ (s : State) (m : Mach) (i : TracIn), (s.dev.alive = true) ∧ (s.dev.dead.contains (0x20 + mnum m) = false) ∧ (s.dev.writes = []) ∧ (s.dev.slots = []) ∧ (s.dev.o (srcKey m Obj.ACTIVE_SOURCE) = 0) ∧ (s.dev.n (tk m Obj.BRIDGE_STATE) = 1) ∧ ((s.dev.tracOf m).stopWaits = true) ∧ ((s.dev.tracOf m).offWaits = false) ∧ (s.dev.ocHold.contains (mnum m) = false) ∧ (9 * i.vdc < 10 * i.emf)) ∧
    (∃ (s : State) (m : Mach) (i : TracIn), (s.dev.alive = true) ∧ (s.dev.dead.contains (0x20 + mnum m) = false) ∧ (s.dev.writes = []) ∧ (s.dev.slots = []) ∧ (s.dev.o (srcKey m Obj.ACTIVE_SOURCE) = 0) ∧ (s.dev.n (tk m Obj.BRIDGE_STATE) = 1) ∧ ((s.dev.tracOf m).stopWaits = true) ∧ ((s.dev.tracOf m).offWaits = false) ∧ (s.dev.ocHold.contains (mnum m) = false) ∧ (10 * i.emf ≤ 9 * i.vdc) ∧ (s.dev.o (angOf m).rateKey = 0) ∧ (0 < s.dev.o (tk m Obj.ASC_SPEED))) :=
  ⟨⟨svc, .A, ⟨5000, 1, 2, 3, 4, 70000, 6, 7, 8, 9⟩, by decide⟩,
   ⟨(svc [(tk .B Obj.BRIDGE_STATE, 1), (tk .B Obj.RUN_4240, 1)]).having (fun d => d.updTrac .B (fun t => { t with stopWaits := true })), .B, ⟨5000, 1, 2, 3, 4, 70000, 6, 7, 4501, 9⟩, by decide⟩,
   ⟨(svc [(tk .B Obj.BRIDGE_STATE, 1), (tk .B Obj.RUN_4240, 1), (tk .B Obj.TORQUE_CMD, 5), (tk .B Obj.ASC_SPEED, 1000)]).having (fun d => d.updTrac .B (fun t => { t with stopWaits := true })), .B, ⟨5000, 1, 2, 3, 4, 70000, 6, 7, 8, 9⟩, by decide⟩⟩

set_option maxRecDepth 8000 in
theorem witness_LinkSources :
    (∃ (s : State) (name _ _ _ _ : Nat) (_ : Bool), (s.dev.phase = .service) ∧ (s.dev.n Obj.TRACTOR_NAME = name) ∧ (name ≠ 0) ∧ ((Tab.get {} s.dev.peers 0 : InputPeer).name = name) ∧ ((s.dev.feedOf 0).lost = false)) ∧
    (∃ (s : State) (name _ _ _ _ : Nat) (_ : Bool), (s.dev.phase = .service) ∧ (s.dev.n Obj.TRACTOR_NAME ≠ 0) ∧ (s.dev.n Obj.TRACTOR_NAME ≠ name) ∧ ((Tab.get {} s.dev.peers 0 : InputPeer).reported = false)) ∧
    (∃ (s : State) (source _ b _ _ : Nat), (s.dev.phase = .service) ∧ (s.dev.b Obj.BATTERY_FITTED = true) ∧ (s.dev.n Obj.BMS_ADDR = source) ∧ ((s.dev.feedOf 1).lost = false)) ∧
    (∃ (s : State) (src : Fin 2) (i fall : Nat), (s.dev.alive = true) ∧ (s.dev.sourceCounts src = true) ∧ (i < 10) ∧ (100 < fall)) ∧
    (∃ (s : State) (src : Fin 2), (s.dev.alive = true) ∧ (s.dev.fitted src = true) ∧ ((s.dev.feedOf src).seen = true) ∧ ((s.dev.feedOf src).timedOut = false)) ∧
    (∃ (s : State) (src : Fin 2), (s.dev.alive = true) ∧ ((s.dev.feedOf src).lost = true) ∧ ((s.dev.feedOf src).lost3 = true) ∧ ((s.dev.feedOf src).closed = true) ∧ ((s.dev.feedOf src).state = 3)) ∧
    (∃ (s : State) (v : Int), (s.dev.phase = .service) ∧ (v < 0 ∨ 3 < v)) ∧
    (∃ (s : State), (s.dev.phase = .service)) ∧
    (∃ (s : State), (s.dev.phase = .service)) :=
  ⟨⟨(svc [(Obj.TRACTOR_NAME, 77)]).having (fun d => { d with peers := [(0, { name := 77 })] }), 77, 10, 20, 7000, 1, true, by decide⟩,
   ⟨svc [(Obj.TRACTOR_NAME, 77)], 78, 10, 20, 7000, 1, true, by decide⟩,
   ⟨svc [(Obj.BATTERY_FITTED, 1), (Obj.BMS_ADDR, 9)], 9, 10, 20, 7000, 1, by decide⟩,
   ⟨(svc [(Obj.ROLE_5810, 1), (Obj.STATE_5810, 2)]).having (fun d => { d with feeds := [(0, { seen := true, state := 1 })] }), 0, 0, 101, by decide⟩,
   ⟨svc.having (fun d => { d with feeds := [(0, { seen := true, state := 1 })], peers := [(0, { name := 7 })] }), 0, by decide⟩,
   ⟨svc.having (fun d => { d with feeds := [(0, { seen := true, state := 3, lost := true, lost3 := true, closed := true })] }), 0, by decide⟩,
   ⟨svc, 4, by decide⟩,
   ⟨svc, by decide⟩,
   ⟨svc.having (fun d => { d with claim := 2 }), by decide⟩⟩

set_option maxRecDepth 8000 in
theorem witness_LoopCommands :
    (∃ (s : State) (L : Fin 128), (s.dev.phase = .service) ∧ (L.val < 96)) ∧
    (∃ (s : State) (L : Fin 128), (s.dev.phase = .service) ∧ (L.val < 96)) ∧
    (∃ (s : State) (L : Fin 128), (s.dev.phase = .service) ∧ (96 ≤ L.val) ∧ (s.dev.writes = []) ∧ (s.dev.b (lk Obj.ENABLE_A100 L) = false) ∧ ((s.dev.setO (lk Obj.ENABLE_A100 L) 1).loopCheck L 1 = 0)) ∧
    (∃ (s : State) (L : Fin 128), (s.dev.phase = .service) ∧ (96 ≤ L.val) ∧ (s.dev.b (lk Obj.ENABLE_A100 L) = true) ∧ (s.dev.loopFrozen L = false)) ∧
    (∃ (s : State) (L : Fin 128), (s.dev.phase = .service) ∧ (96 ≤ L.val) ∧ (s.dev.writes = []) ∧ (s.dev.b (lk Obj.ENABLE_A100 L) = true) ∧ (s.dev.loopFrozen L = true)) ∧
    (∃ (s : State) (L : Fin 128), (s.dev.phase = .service) ∧ (s.dev.writes = []) ∧ (s.dev.b (lk Obj.ENABLE_A100 L) = false)) ∧
    (∃ (s : State) (L : Fin 128), (s.dev.phase = .service) ∧ (s.dev.b (lk Obj.ENABLE_A100 L) = true) ∧ (s.dev.loopFrozen L = false)) ∧
    (∃ (s : State) (L : Fin 128) (_ : Nat), (s.dev.phase = .service) ∧ (s.dev.writes = []) ∧ (s.dev.b (lk Obj.ENABLE_A100 L) = false)) :=
  ⟨⟨svc, 5, by decide⟩,
   ⟨svc, 5, by decide⟩,
   ⟨svc, 100, by decide⟩,
   ⟨svc [(lk Obj.ENABLE_A100 100, 1)], 100, by decide⟩,
   ⟨svc [(lk Obj.ENABLE_A100 100, 1), (lk Obj.OUT_TARGET 100, Obj.TORQUE_CMD)], 100, by decide⟩,
   ⟨svc, 100, by decide⟩,
   ⟨svc [(lk Obj.ENABLE_A100 100, 1)], 100, by decide⟩,
   ⟨svc [(lk Obj.FLAGS 100, 0x7F)], 100, 0x13, by decide⟩⟩

set_option maxRecDepth 8000 in
theorem witness_LoopEngines :
    (∃ (s : State) (_ : Fin 9), (s.dev.alive = true)) ∧
    (∃ (s : State) (n : Fin 9), (s.dev.alive = true) ∧ (n.val < 8) ∧ (s.dev.hostOf n = n) ∧ (s.dev.leBlocked.contains n.val = false) ∧ (s.dev.leMoving = none) ∧ (s.dev.o Obj.LE8_HOSTS_A000 = 0xFF) ∧ (s.dev.le8Bad = false)) ∧
    (∃ (s : State) (n : Fin 9), (s.dev.alive = true) ∧ (n.val < 6) ∧ (s.dev.hostOf n = n) ∧ (s.dev.leBlocked.contains n.val = false) ∧ (s.dev.leMoving = none) ∧ (s.dev.o Obj.LE8_HOSTS_A000 ≠ 0xFF ∨ s.dev.le8Bad = true)) ∧
    (∃ (s : State), (s.dev.alive = true) ∧ (s.dev.leMoving = none) ∧ (s.dev.o Obj.LE8_HOSTS_A000 = 0xFF) ∧ (s.dev.le8Bad = false)) ∧
    (∃ (s : State) (n : Nat), (s.dev.alive = true) ∧ (s.dev.leMoving = some n) ∧ (s.dev.enabledSlots n = []) ∧ (n < 8)) ∧
    (∃ (s : State) (n : Nat), (s.dev.alive = true) ∧ (s.dev.leMoving = some n) ∧ (s.dev.enabledSlots n ≠ [])) :=
  ⟨⟨svc, 3, by decide⟩,
   ⟨svc [(lk Obj.ENABLE_A100 100, 1)], 6, by decide⟩,
   ⟨svc [(Obj.LE8_HOSTS_A000, 2)], 4, by decide⟩,
   ⟨svc, by decide⟩,
   ⟨svc.having (fun d => { d with leMoving := some 2 }), 2, by decide⟩,
   ⟨(svc [(lk Obj.ENABLE_A100 100, 1)]).having (fun d => { d with leMoving := some 6 }), 6, by decide⟩⟩

set_option maxRecDepth 8000 in
theorem witness_PrechargeSteps :
    (∃ (s : State) (j : Precharge) (n : Nat), (s.dev.alive = true) ∧ (s.dev.preIn 0 = some j) ∧ (j.mode = 0) ∧ (s.dev.preOf j.src = some n) ∧ ((s.dev.ctrOf n).on = true)) ∧
    (∃ (s : State) (j : Precharge) (vdc : Nat), (s.dev.alive = true) ∧ (s.dev.preIn 1 = some j) ∧ (j.mode ≠ 1) ∧ (j.vs ≤ 2 * vdc) ∧ (100 * vdc ≤ 105 * j.vs)) ∧
    (∃ (s : State) (j : Precharge) (vdc : Nat), (s.dev.alive = true) ∧ (s.dev.preIn 1 = some j) ∧ (j.mode = 0) ∧ (2 * vdc < j.vs)) ∧
    (∃ (s : State) (j : Precharge) (vdc n : Nat), (s.dev.alive = true) ∧ (s.dev.preIn 1 = some j) ∧ (j.mode = 0) ∧ (100 * vdc ≤ 105 * j.vs) ∧ (s.dev.n Obj.PRE_RATIO * j.vs ≤ 10000 * vdc) ∧ (s.dev.mainOf j.src = some n)) ∧
    (∃ (s : State) (j : Precharge), (s.dev.alive = true) ∧ (s.dev.preIn 1 = some j)) ∧
    (∃ (s : State) (j : Precharge) (n : Nat), (s.dev.alive = true) ∧ (s.dev.preIn 3 = some j) ∧ (j.mode = 0) ∧ (s.dev.preOf j.src = some n)) ∧
    (∃ (s : State) (src : Fin 2) (vdc n : Nat), (s.dev.alive = true) ∧ (s.dev.link.second = some src.val) ∧ (s.dev.startBlocked .lnk = false) ∧ ((s.dev.feedOf src).seen = true) ∧ (100 * ((vdc : Int) - (s.dev.feedOf src).volts).natAbs ≤ 3 * (s.dev.feedOf src).volts) ∧ (s.dev.mainOf src = some n)) ∧
    (∃ (s : State) (src : Fin 2) (vdc : Nat), (s.dev.alive = true) ∧ (s.dev.link.second = some src.val) ∧ (s.dev.startBlocked .lnk = false) ∧ ((s.dev.feedOf src).seen = true) ∧ (3 * (s.dev.feedOf src).volts < 100 * ((vdc : Int) - (s.dev.feedOf src).volts).natAbs)) :=
  ⟨⟨(svc [(at' Obj.ROLE_5810 0, 2)]).having (fun d => { d with ctrs := [(0, { on := true })], link := { d.link with job := some { src := 0, second := none, mode := 0, vs := 7000 } } }), { src := 0, second := none, mode := 0, vs := 7000 }, 0, by decide⟩,
   ⟨svc.having (fun d => { d with link := { d.link with job := some { src := 0, second := none, mode := 0, vs := 7000, phase := 1 } } }), { src := 0, second := none, mode := 0, vs := 7000, phase := 1 }, 3500, by decide⟩,
   ⟨(svc [(at' Obj.ROLE_5810 0, 1), (at' Obj.ROLE_5810 1, 2)]).having (fun d => { d with ctrs := [(1, { on := true })], link := { d.link with job := some { src := 0, second := none, mode := 0, vs := 7000, phase := 1 } } }), { src := 0, second := none, mode := 0, vs := 7000, phase := 1 }, 3499, by decide⟩,
   ⟨(svc [(at' Obj.ROLE_5810 0, 1), (Obj.PRE_RATIO, 9500)]).having (fun d => { d with link := { d.link with job := some { src := 0, second := none, mode := 0, vs := 7000, phase := 1 } } }), { src := 0, second := none, mode := 0, vs := 7000, phase := 1 }, 6651, 0, by decide⟩,
   ⟨svc.having (fun d => { d with link := { d.link with job := some { src := 0, second := none, mode := 0, vs := 7000, phase := 1 } } }), { src := 0, second := none, mode := 0, vs := 7000, phase := 1 }, by decide⟩,
   ⟨(svc [(at' Obj.ROLE_5810 0, 2)]).having (fun d => { d with ctrs := [(0, { on := true })], link := { d.link with job := some { src := 0, second := none, mode := 0, vs := 7000, phase := 3 } } }), { src := 0, second := none, mode := 0, vs := 7000, phase := 3 }, 0, by decide⟩,
   ⟨(svc [(at' Obj.ROLE_5810 2, 3)]).having (fun d => { d with feeds := [(1, { seen := true, volts := 7000 })], link := { d.link with second := some 1 } }), 1, 6790, 2, by decide⟩,
   ⟨(svc [(at' Obj.ROLE_5810 2, 3)]).having (fun d => { d with feeds := [(1, { seen := true, volts := 7000 })], link := { d.link with second := some 1 } }), 1, 6789, by decide⟩⟩

set_option maxRecDepth 8000 in
theorem witness_ContactorCommands :
    (∃ (s : State) (n : Fin 4), (s.dev.alive = true) ∧ (s.dev.o (at' Obj.STATE_5810 n) = 1 ∨ s.dev.o (at' Obj.STATE_5810 n) = 3) ∧ ((s.dev.mainSource n).isSome = true) ∧ (s.dev.link.job = none)) ∧
    (∃ (s : State) (n : Fin 4) (_ src : Nat), (s.dev.alive = true) ∧ (s.dev.mainSource n = some src) ∧ (s.dev.n (at' Obj.STATE_5810 n) = 1) ∧ ((s.dev.ctrOf n).on = true) ∧ ((s.dev.ctrOf n).mismatch = false) ∧ (s.dev.o (at' Obj.FB_MODE n) ≠ 0) ∧ (s.dev.link.deferred = []) ∧ (s.dev.link.job = none)) ∧
    (∃ (s : State) (n : Fin 4), (s.dev.alive = true) ∧ ((s.dev.ctrOf n).on = false) ∧ ((s.dev.ctrOf n).mismatch = false) ∧ (s.dev.o (at' Obj.STATE_5810 n) = 3 ∨ s.dev.o (at' Obj.STATE_5810 n) = 4) ∧ (s.dev.link.discharge = 0)) ∧
    (∃ (s : State) (n : Fin 4), (s.dev.alive = true) ∧ ((s.dev.ctrOf n).on = true)) ∧
    (∃ (s : State) (n : Fin 4) (_ : Bool), (s.dev.alive = true) ∧ ((s.dev.ctrOf n).on = true) ∧ (s.dev.link.job = none)) ∧
    (∃ (s : State) (src : Fin 2) (i : Nat) (timeout : Bool) (n : Nat), (s.dev.alive = true) ∧ (s.dev.mainOf src = some n) ∧ (s.dev.link.opening.contains src.val = true) ∧ ((s.dev.ctrOf n).on = true) ∧ (timeout = true ∨ (s.dev.noGrants = true ∧ i < 10 * s.dev.n (at' Obj.I_BREAK n))) ∧ (s.dev.link.discharge = 0)) ∧
    (∃ (s : State) (src : Fin 2) (vdc : Nat), (s.dev.alive = true) ∧ (s.dev.link.discharge ≠ 0) ∧ (s.dev.mainsOpen = true) ∧ ((s.dev.mainOf src).isSome = true) ∧ (100 * ((vdc : Int) - (s.dev.feedOf src).volts).natAbs ≤ 5 * (s.dev.feedOf src).volts)) ∧
    (∃ (s : State) (vdc : Nat), (s.dev.alive = true) ∧ (s.dev.link.discharge = 2) ∧ (vdc < 600)) ∧
    (∃ (s : State) (vdc : Nat), (s.dev.alive = true) ∧ (s.dev.link.discharge ≠ 0) ∧ (600 < vdc)) :=
  ⟨⟨svc [(at' Obj.ROLE_5810 2, 3), (at' Obj.STATE_5810 2, 1)], 2, by decide⟩,
   ⟨(svc [(at' Obj.ROLE_5810 2, 3), (at' Obj.STATE_5810 2, 1), (at' Obj.FB_MODE 2, 1)]).having (fun d => { d with ctrs := [(2, { on := true })] }), 2, 7000, 1, by decide⟩,
   ⟨svc [(at' Obj.STATE_5810 2, 3)], 2, by decide⟩,
   ⟨(svc [(at' Obj.HOLD_DUTY 2, 30)]).having (fun d => { d with ctrs := [(2, { on := true })] }), 2, by decide⟩,
   ⟨svc.having (fun d => { d with ctrs := [(2, { on := true })] }), 2, true, by decide⟩,
   ⟨(svc [(at' Obj.ROLE_5810 2, 3), (at' Obj.STATE_5810 2, 2)]).having (fun d => { d with ctrs := [(2, { on := true })], link := { d.link with opening := [1] } }), 1, 100, true, 2, by decide⟩,
   ⟨(svc [(at' Obj.ROLE_5810 2, 3)]).having (fun d => { d with link := { d.link with discharge := 1 }, feeds := [(1, { volts := 7000 })] }), 1, 6650, by decide⟩,
   ⟨svc.having (fun d => { d with link := { d.link with discharge := 2, after := 5 } }), 599, by decide⟩,
   ⟨svc.having (fun d => { d with link := { d.link with discharge := 2 } }), 601, by decide⟩⟩

set_option maxRecDepth 8000 in
theorem witness_ChopperAndOverVoltage :
    (∃ (s : State) (vdc : Nat), (s.dev.alive = true) ∧ (s.dev.n Obj.CHOP_ON * s.dev.n Obj.VDC_MAX * 10 ≤ 16384 * vdc) ∧ (s.dev.chopFaulty = false) ∧ (s.dev.link.changed = none)) ∧
    (∃ (s : State) (vdc : Nat), (s.dev.alive = true) ∧ (16384 * vdc ≤ s.dev.n Obj.CHOP_OFF * s.dev.n Obj.VDC_MAX * 10) ∧ (s.dev.link.discharge = 0) ∧ (s.dev.link.changed = none)) ∧
    (∃ (s : State) (i vdc : Nat), (s.dev.alive = true) ∧ (s.dev.link.on = true) ∧ (s.dev.link.faultShown = false) ∧ (s.dev.chopFaulty = false) ∧ (i * s.dev.n Obj.CHOP_R < 250 * vdc)) ∧
    (∃ (s : State) (i vdc : Nat), (s.dev.alive = true) ∧ (s.dev.link.missing = true) ∧ (s.dev.ocTrips.contains 5 = false) ∧ ((s.dev.groupChannels 8).any (fun n => s.dev.latched n) = false) ∧ (4000 ≤ vdc) ∧ (250 * vdc ≤ i * s.dev.n Obj.CHOP_R)) ∧
    (∃ (s : State) (vdc : Nat), (s.dev.alive = true) ∧ (s.dev.tier3 = false) ∧ (s.dev.tier4 = false) ∧ (1080 * s.dev.n Obj.VDC_MAX ≤ 100 * vdc)) ∧
    (∃ (s : State), (s.dev.alive = true) ∧ (s.dev.tier4 = false)) ∧
    (∃ (s : State), (s.dev.alive = true)) :=
  ⟨⟨svc [(Obj.VDC_MAX, 800), (Obj.CHOP_ON, 17200)], 8399, by decide⟩,
   ⟨(svc [(Obj.VDC_MAX, 800), (Obj.CHOP_OFF, 16384)]).having (fun d => { d with link := { d.link with reg := true, on := true } }), 7999, by decide⟩,
   ⟨svc.having (fun d => { d with link := { d.link with reg := true, on := true } }), 0, 7999, by decide⟩,
   ⟨(svc [(Obj.CHOP_R, 1000)]).having (fun d => { d with link := { d.link with missing := true, faultShown := true } }), 1000, 4000, by decide⟩,
   ⟨svc [(Obj.VDC_MAX, 800)], 8640, by decide⟩,
   ⟨svc, by decide⟩,
   ⟨svc.having (fun d => { d with tier4 := true }), by decide⟩⟩

set_option maxRecDepth 8000 in
theorem witness_GridInputs :
    (∃ (s : State) (v : Int), (s.dev.phase = .service) ∧ (v < 0 ∨ 2 < v)) ∧
    (∃ (s : State), (s.dev.phase = .service)) ∧
    (∃ (s : State) (v : Int), (s.dev.phase = .service) ∧ (v = 1 ∨ v = 2) ∧ (s.dev.writes = []) ∧ (s.dev.o Obj.GRD_MODE ≠ 0) ∧ (s.dev.fuseBars [2] = false) ∧ (s.dev.fuseBars [3] = false)) ∧
    (∃ (s : State) (pos neg : Int) (freq duty st : Nat), (s.dev.alive = true) ∧ (pilotState pos neg freq false = st) ∧ (s.dev.grid.pilot = st) ∧ (2 ≤ s.dev.grid.pilotRuns) ∧ (s.dev.n Obj.CP_STATE ≠ st) ∧ (s.dev.grid.inserted = true) ∧ (s.dev.grid.step = 0) ∧ (s.dev.grid.duty + 5 < min duty 1000)) ∧
    (∃ (s : State) (pos neg : Int) (freq duty : Nat), (s.dev.alive = true) ∧ (s.dev.grid.pilot ≠ pilotState pos neg freq false) ∧ (s.dev.grid.dutyRuns = 2) ∧ (s.dev.grid.duty = duty) ∧ (80 ≤ duty) ∧ (duty ≤ 1000) ∧ (s.dev.n Obj.CP_CURRENT ≠ pilotCurrent duty) ∧ (s.dev.n Obj.CP_STATE < 4) ∧ (s.dev.grid.step = 0)) ∧
    (∃ (s : State) (ohm c : Nat), (s.dev.alive = true) ∧ (proximityClass ohm = c) ∧ (proximityClass s.dev.grid.prox = c) ∧ (c ≠ 256) ∧ (2 ≤ s.dev.grid.proxRuns) ∧ (s.dev.grid.island = false)) ∧
    (∃ (s : State), (s.dev.alive = true) ∧ (s.dev.o Obj.GRD_MODE = 1) ∧ (s.dev.b Obj.CHARGE_SOURCE = false) ∧ (s.dev.grid.step = 1) ∧ (s.dev.grid.inserted = true) ∧ (s.dev.o Obj.CABLE_CURRENT ≠ 0) ∧ (s.dev.o Obj.CP_STATE = 2) ∧ (60 ≤ s.dev.o Obj.CP_CURRENT) ∧ (s.dev.anyMain = true) ∧ (6500 ≤ s.dev.o Obj.VDC) ∧ (s.dev.startBlocked .grd = false) ∧ (s.dev.gatesFree .grd = true) ∧ (s.dev.testing = []) ∧ (s.dev.tested.contains Domain.grd.num = true)) ∧
    (∃ (s : State), (s.dev.alive = true) ∧ (s.dev.grid.step = 2) ∧ (s.dev.b Obj.CHARGE_SOURCE = false) ∧ (s.dev.o Obj.CP_STATE = 3) ∧ (s.dev.o Obj.GRD_MODE = 1)) ∧
    (∃ (s : State) (_ : GridIn), (s.dev.alive = true) ∧ (s.dev.dead.contains 0x22 = false) ∧ (s.dev.writes = []) ∧ (s.dev.o Obj.GRD_MODE = 0) ∧ (s.dev.grid.step = 0) ∧ (s.dev.grid.island = false)) ∧
    (∃ (s : State), (s.dev.phase = .service)) :=
  ⟨⟨svc, 3, by decide⟩,
   ⟨svc, by decide⟩,
   ⟨svc [(Obj.GRD_MODE, 1), (Obj.VDC_MAX, 800)], 2, by decide⟩,
   ⟨svc.having (fun d => { d with grid := { d.grid with pilot := 2, pilotRuns := 2, inserted := true } }), 90, -120, 1000, 500, 2, by decide⟩,
   ⟨svc.having (fun d => { d with grid := { d.grid with pilot := 2, duty := 530, dutyRuns := 2 } }), 60, -120, 1000, 530, by decide⟩,
   ⟨svc.having (fun d => { d with grid := { d.grid with prox := 220, proxRuns := 2 } }), 300, 32, by decide⟩,
   ⟨(svc [(Obj.GRD_MODE, 1), (Obj.CHARGE_SOURCE, 0), (Obj.CABLE_CURRENT, 32), (Obj.CP_STATE, 2), (Obj.CP_CURRENT, 160), (Obj.VDC, 7000), (Obj.ROLE_5810, 1), (Obj.STATE_5810, 2), (Obj.DRIVE_EN, 1)]).having (fun d => { d with grid := { d.grid with step := 1, inserted := true }, tested := [4] }), by decide⟩,
   ⟨(svc [(Obj.GRD_MODE, 1), (Obj.CHARGE_SOURCE, 0), (Obj.CP_STATE, 3), (Obj.S2, 1)]).having (fun d => { d with grid := { d.grid with step := 2 } }), by decide⟩,
   ⟨svc, { vll := 4000, freq := 50000, angle := 0, phaseErr := 0, unbalance := 3, sequence := 1, rocof := 5, iWant := 0, pAc := -7, iRms := 70000, vdc := 7000, id := 0, iq := 0, vd := 0, vq := 0 }, by decide⟩,
   ⟨svc [(Obj.E_IMPORT, 5), (Obj.P_AC, -8)], by decide⟩⟩

set_option maxRecDepth 8000 in
theorem witness_GridTripsAndIsland :
    (∃ (s : State), (s.dev.alive = true) ∧ (s.dev.grid.step = 5) ∧ (s.dev.grid.island = false) ∧ (s.dev.grid.row ≠ 0)) ∧
    (∃ (s : State), (s.dev.alive = true) ∧ (s.dev.grid.step = 5) ∧ (s.dev.grid.island = false) ∧ (2000 < (s.dev.o Obj.ROCOF).natAbs ∨ s.dev.freqWithin (s.dev.n Obj.FREQ) 95 103 = false)) ∧
    (∃ (s : State), (s.dev.alive = true) ∧ (s.dev.grid.step = 5) ∧ (s.dev.grid.island = false) ∧ (50 < s.dev.o Obj.UNBALANCE)) ∧
    (∃ (s : State) (i : GridIn), (s.dev.alive = true) ∧ (s.dev.dead.contains 0x22 = false) ∧ (s.dev.writes = []) ∧ (s.dev.o Obj.GRD_MODE = 1) ∧ (s.dev.grid.step = 5) ∧ (s.dev.grid.island = false) ∧ (s.dev.b Obj.LOCKED_5010 = false) ∧ (0 < s.dev.n Obj.CARRIER_N) ∧ (364 ≤ i.phaseErr) ∧ (i.sequence = 1) ∧ (linkLow i.vdc i.vll = true)) ∧
    (∃ (s : State), (s.dev.alive = true) ∧ (s.dev.o Obj.GRD_MODE = 2) ∧ (s.dev.grid.step = 1) ∧ (4000 < s.dev.o Obj.PP_OHM) ∧ (s.dev.grid.inserted = false) ∧ (s.dev.o Obj.V_LL < 500) ∧ (s.dev.anyMain = true) ∧ (6500 ≤ s.dev.o Obj.VDC) ∧ (s.dev.startBlocked .grd = false) ∧ (s.dev.gatesFree .grd = true) ∧ (s.dev.testing = []) ∧ (s.dev.tested.contains Domain.grd.num = true) ∧ (s.dev.slots = []) ∧ (s.dev.writes = [])) ∧
    (∃ (s : State), (s.dev.alive = true) ∧ (s.dev.grid.island = true) ∧ (s.dev.o Obj.STATE_5000 = 5) ∧ (s.dev.grid.short = false)) ∧
    (∃ (s : State), (s.dev.alive = true) ∧ (s.dev.grid.island = true) ∧ (s.dev.grid.short = true) ∧ (2 * s.dev.o Obj.V_LL < s.dev.o Obj.V_SUPPLY)) ∧
    (∃ (s : State), (s.dev.alive = true) ∧ (s.dev.grid.island = true)) :=
  ⟨⟨(svc [(Obj.STATE_5000, 4), (Obj.S2, 1)]).having (fun d => { d with grid := { d.grid with step := 5, row := 4 } }), by decide⟩,
   ⟨(svc [(Obj.STATE_5000, 4), (Obj.ROCOF, -2001)]).having (fun d => { d with grid := { d.grid with step := 5 } }), by decide⟩,
   ⟨(svc [(Obj.STATE_5000, 4), (Obj.UNBALANCE, 51)]).having (fun d => { d with grid := { d.grid with step := 5 } }), by decide⟩,
   ⟨(svc [(Obj.GRD_MODE, 1), (Obj.STATE_5000, 4), (Obj.CARRIER_N, 200)]).having (fun d => { d with grid := { d.grid with step := 5 } }), { vll := 4000, freq := 50000, angle := 0, phaseErr := 400, unbalance := 3, sequence := 1, rocof := 5, iWant := 0, pAc := -7, iRms := 70000, vdc := 5000, id := 0, iq := 0, vd := 0, vq := 0 }, by decide⟩,
   ⟨(svc [(Obj.GRD_MODE, 2), (Obj.PP_OHM, 65535), (Obj.V_LL, 0), (Obj.VDC, 7000), (Obj.ROLE_5810, 1), (Obj.STATE_5810, 2), (Obj.DRIVE_EN, 1)]).having (fun d => { d with grid := { d.grid with step := 1 }, tested := [4] }), by decide⟩,
   ⟨(svc [(Obj.STATE_5000, 5)]).having (fun d => { d with grid := { d.grid with step := 5, island := true } }), by decide⟩,
   ⟨(svc [(Obj.STATE_5000, 5), (Obj.V_SUPPLY, 4000)]).having (fun d => { d with grid := { d.grid with step := 5, island := true, short := true } }), by decide⟩,
   ⟨(svc [(Obj.STATE_5000, 5)]).having (fun d => { d with grid := { d.grid with step := 5, island := true } }), by decide⟩⟩

set_option maxRecDepth 8000 in
theorem witness_ConverterCommands :
    (∃ (s : State) (c : Conv), (s.dev.phase = .service) ∧ (s.dev.fuseBars (enableBits (cdom c)) = false) ∧ (s.dev.startBlocked (cdom c) = false)) ∧
    (∃ (s : State) (c : Conv), (s.dev.phase = .service) ∧ (s.dev.fuseBars (enableBits (cdom c)) = false) ∧ (s.dev.startBlocked (cdom c) = true)) ∧
    (∃ (s : State) (_ : Conv), (s.dev.phase = .service)) ∧
    (∃ (s : State) (_ : Conv), (s.dev.alive = true) ∧ (s.dev.link.vref ≠ 0) ∧ (s.dev.resetPending = false)) ∧
    (∃ (s : State) (c : Conv) (_ : DabIn), (s.dev.alive = true) ∧ (s.dev.dead.contains 0x22 = false) ∧ (s.dev.writes = []) ∧ (s.dev.n (ck c Obj.STATE_5400) = 0) ∧ ((s.dev.dabOf c).want = false) ∧ ((s.dev.dabOf c).loaded = true) ∧ (s.dev.link.job = none)) ∧
    (∃ (s : State) (c : Conv) (i : DabIn), (s.dev.alive = true) ∧ (s.dev.dead.contains 0x22 = false) ∧ (s.dev.writes = []) ∧ (s.dev.n (ck c Obj.STATE_5400) = 3) ∧ (s.dev.n (ck c Obj.V_OUT_OV) < i.vout) ∧ (s.dev.faultOn (ccode c 0x4493) = false)) ∧
    (∃ (s : State) (c : Conv) (i : DabIn), (s.dev.alive = true) ∧ (s.dev.dead.contains 0x22 = false) ∧ (s.dev.writes = []) ∧ (s.dev.n (ck c Obj.STATE_5400) = 3) ∧ (i.vout ≤ s.dev.n (ck c Obj.V_OUT_OV)) ∧ (i.vin < 3000) ∧ (s.dev.link.job = none)) ∧
    (∃ (s : State) (c : Conv), (s.dev.alive = true) ∧ (s.dev.n (ck c Obj.STATE_5400) = 6) ∧ ((s.dev.dabOf c).soft = 0)) ∧
    (∃ (s : State) (c : Conv), (s.dev.alive = true) ∧ (s.dev.n (ck c Obj.STATE_5400) = 3) ∧ (2 * s.dev.n (ck c Obj.V_OUT) < s.dev.dabRef c (s.dev.dabOf c).soft (s.dev.n (ck c Obj.SOFT_START) * 1000000)) ∧ (s.dev.b (ck c Obj.LIMIT_SRC_5400) = true)) :=
  ⟨⟨svc, .dcb, by decide⟩,
   ⟨svc.having (fun d => d.raise 0x4494 true), .dca, by decide⟩,
   ⟨svc, .dcb, by decide⟩,
   ⟨(svc [(Obj.AUTO_START, 1)]).having (fun d => { d with link := { d.link with vref := 700 } }), .dca, by decide⟩,
   ⟨svc.having (fun d => { d with dabs := [(1, { loaded := true })] }), .dcb, ⟨7000, 70000, -40000, -9, 3, 4⟩, by decide⟩,
   ⟨(svc [(ck .dcb Obj.STATE_5400, 3), (ck .dcb Obj.V_OUT_OV, 1500)]).having (fun d => { d with dabs := [(1, { loaded := true })] }), .dcb, ⟨7000, 1501, -40000, -9, 3, 4⟩, by decide⟩,
   ⟨(svc [(ck .dcb Obj.STATE_5400, 3), (ck .dcb Obj.V_OUT_OV, 1500)]).having (fun d => { d with dabs := [(1, { loaded := true })] }), .dcb, ⟨2999, 1500, -40000, -9, 3, 4⟩, by decide⟩,
   ⟨svc [(ck .dcb Obj.STATE_5400, 6), (ck .dcb Obj.PHI, 77)], .dcb, by decide⟩,
   ⟨svc [(ck .dcb Obj.STATE_5400, 3), (ck .dcb Obj.V_OUT_SET, 1400), (ck .dcb Obj.SOFT_START, 0), (ck .dcb Obj.LIMIT_SRC_5400, 1), (ck .dcb Obj.V_OUT, 699)], .dcb, by decide⟩⟩

set_option maxRecDepth 8000 in
theorem witness_ReversePrecharge :
    (∃ (s : State) (i : DabIn) (j : Precharge), (s.dev.alive = true) ∧ (s.dev.dead.contains 0x22 = false) ∧ (s.dev.writes = []) ∧ (s.dev.n (ck .dca Obj.STATE_5400) = 0) ∧ (s.dev.link.job = some j) ∧ (j.mode = 1) ∧ (j.phase = 0) ∧ (s.dev.startBlocked .dca = false) ∧ (s.dev.gatesFree .dca = true) ∧ (s.dev.n Obj.V_LVB_MIN ≤ i.vout)) ∧
    (∃ (s : State) (vdc : Nat) (j : Precharge) (n : Nat), (s.dev.alive = true) ∧ (s.dev.preIn 1 = some j) ∧ (j.mode = 1) ∧ (100 * ((vdc : Int) - j.vs).natAbs ≤ 2 * j.vs) ∧ (s.dev.mainOf j.src = some n)) ∧
    (∃ (s : State) (vdc vout : Nat) (timeout : Bool) (j : Precharge), (s.dev.alive = true) ∧ (s.dev.link.job = some j) ∧ (j.mode = 1) ∧ (j.phase ≤ 2) ∧ (vout < s.dev.n Obj.V_LVB_MIN ∨ 105 * j.vs < 100 * vdc ∨ (timeout = true ∧ j.phase < 2))) :=
  ⟨⟨(svc [(Obj.V_LVB_MIN, 1100), (Obj.DRIVE_EN, 1)]).having (fun d => { d with link := { d.link with job := some { src := 0, second := none, mode := 1, vs := 7000 } } }), ⟨0, 1100, 0, 0, 0, 0⟩, { src := 0, second := none, mode := 1, vs := 7000 }, by decide⟩,
   ⟨(svc [(at' Obj.ROLE_5810 0, 1)]).having (fun d => { d with link := { d.link with job := some { src := 0, second := none, mode := 1, vs := 7000, phase := 1 } } }), 6860, { src := 0, second := none, mode := 1, vs := 7000, phase := 1 }, 0, by decide⟩,
   ⟨(svc [(at' Obj.ROLE_5810 0, 1)]).having (fun d => { d with link := { d.link with job := some { src := 0, second := none, mode := 1, vs := 7000, phase := 1 } } }), 7351, 1200, false, { src := 0, second := none, mode := 1, vs := 7000, phase := 1 }, by decide⟩⟩

set_option maxRecDepth 8000 in
theorem witness_GateLatches :
    (∃ (s : State) (n : Fin 40) (di : Bool), (s.dev.alive = true) ∧ (1 ≤ s.dev.groupOf (n.val + 1)) ∧ (s.dev.driven (s.dev.groupOf (n.val + 1)) = true) ∧ (if di then 2 ≤ s.dev.n (at' Obj.SC_MODE (s.dev.groupOf (n.val + 1) - 1)) else s.dev.n (at' Obj.SC_MODE (s.dev.groupOf (n.val + 1) - 1)) ≠ 2) ∧ (s.dev.latched (n.val + 1) = false)) ∧
    (∃ (s : State) (n : Fin 40) (_ _ : Bool), (s.dev.alive = true) ∧ (s.dev.driven (s.dev.groupOf (n.val + 1)) = false)) ∧
    (∃ (s : State) (n : Fin 40) (pos neg : Bool), (s.dev.alive = true) ∧ (pos = true ∨ neg = true) ∧ (s.dev.driven (s.dev.groupOf (n.val + 1)) = true) ∧ (s.dev.groupOf (n.val + 1) ≠ 9) ∧ (s.dev.latched (n.val + 1) = false)) ∧
    (∃ (s : State) (_ : Fin 40), (s.dev.alive = true)) ∧
    (∃ (s : State) (n : Fin 40) (mw : Nat), (s.dev.alive = true) ∧ (1450 < mw) ∧ (s.dev.n (el Obj.GATE_POWER (n.val + 1)) ≤ 1450)) ∧
    (∃ (s : State) (_ : Fin 40) (mw : Nat), (s.dev.alive = true) ∧ (mw ≤ 1450)) ∧
    (∃ (s : State) (n : Fin 40) (temp : Int) (g : Nat), (s.dev.alive = true) ∧ (s.dev.groupOf (n.val + 1) = g) ∧ (g ≠ 0) ∧ (s.dev.o (at' Obj.TS_TYPE (g - 1)) ≠ 0) ∧ (s.dev.o (at' Obj.TS_TRIP (g - 1)) < clampI (-32767) 32767 temp) ∧ ((Tab.get {} s.dev.gates (n.val + 1) : Gate).tsHigh = 2) ∧ (bitOf (s.dev.o (el Obj.STATUS_6020 (n.val + 1))) 3 = false)) ∧
    (∃ (s : State) (n : Fin 40) (temp : Int) (g : Nat), (s.dev.alive = true) ∧ (s.dev.groupOf (n.val + 1) = g) ∧ (g ≠ 0) ∧ (s.dev.o (at' Obj.TS_TYPE (g - 1)) ≠ 0) ∧ (clampI (-32767) 32767 temp ≤ s.dev.o (at' Obj.TS_WARN (g - 1))) ∧ (s.dev.o (at' Obj.TS_WARN (g - 1)) ≤ s.dev.o (at' Obj.TS_TRIP (g - 1)))) ∧
    (∃ (s : State) (n : Fin 40), (s.dev.alive = true) ∧ (bitOf (s.dev.o (el Obj.STATUS_6020 (n.val + 1))) 4 = false)) ∧
    (∃ (s : State) (n : Fin 40), (s.dev.alive = true) ∧ (s.dev.latched (n.val + 1) = true) ∧ (s.dev.groupOf (n.val + 1) = 3) ∧ (s.dev.grid.step ≠ 0)) ∧
    (∃ (s : State) (n : Fin 40) (m : Mach), (s.dev.alive = true) ∧ (bitOf (s.dev.o (el Obj.STATUS_6020 (n.val + 1))) 7 = true) ∧ (s.dev.latched (n.val + 1) = true) ∧ (groupMach (s.dev.groupOf (n.val + 1)) = some m) ∧ (s.dev.o (tk m Obj.BRIDGE_STATE) = 0)) :=
  ⟨⟨svc [(Obj.BRIDGE_STATE, 1)], 0, false, by decide⟩,
   ⟨svc, 7, true, true, by decide⟩,
   ⟨svc [(Obj.BRIDGE_STATE, 1)], 0, true, false, by decide⟩,
   ⟨svc [(el Obj.STATUS_6020 1, 0x60)], 0, by decide⟩,
   ⟨svc, 0, 1451, by decide⟩,
   ⟨svc, 0, 1450, by decide⟩,
   ⟨(svc [(Obj.TS_TYPE, 1), (Obj.TS_TRIP, 1500)]).having (fun d => { d with gates := [(1, { tsHigh := 2 })] }), 0, 1501, 1, by decide⟩,
   ⟨svc [(Obj.TS_TYPE, 1), (Obj.TS_TRIP, 1500), (Obj.TS_WARN, 1300)], 0, 1300, 1, by decide⟩,
   ⟨svc, 0, by decide⟩,
   ⟨(svc [(el Obj.STATUS_6020 13, 2), (Obj.STATE_5000, 4)]).having (fun d => { d with grid := { d.grid with step := 5 } }), 12, by decide⟩,
   ⟨svc [(el Obj.STATUS_6020 7, 0x82)], 6, .B, by decide⟩⟩

set_option maxRecDepth 8000 in
theorem witness_ComparatorsAndDriveEn :
    (∃ (s : State) (_ : Fin 6), (s.dev.alive = true)) ∧
    (∃ (s : State), (s.dev.alive = true) ∧ (s.dev.faultOn 0x3487 = false)) ∧
    (∃ (s : State) (h : Fin 6), (s.dev.alive = true) ∧ (s.dev.ocHold.contains h.val = true) ∧ (2 ≤ h.val)) ∧
    (∃ (s : State), (s.dev.alive = true) ∧ (s.dev.b Obj.DRIVE_EN = true) ∧ (s.dev.o Obj.BRIDGE_STATE = 1) ∧ (s.dev.o Obj.ABOVE_ASC = 0) ∧ (s.dev.grid.step = 5)) ∧
    (∃ (s : State) (mask : Int), (s.dev.phase = .service) ∧ (mask < 0 ∨ 65535 < mask)) ∧
    (∃ (s : State), (s.dev.phase = .service) ∧ (s.dev.stopped .tra = false)) ∧
    (∃ (s : State), (s.dev.phase = .service) ∧ (s.dev.stopped .grd = true) ∧ (s.dev.testOff 3 = true) ∧ (s.dev.groupChannels 3 ≠ [])) ∧
    (∃ (s : State) (g : Fin 10) (_ : Int), (s.dev.alive = true) ∧ (s.dev.testing.contains g.val = true)) ∧
    (∃ (s : State) (r : LegReading) (vl : Int), (s.dev.alive = true) ∧ (s.dev.testing.contains 3 = true) ∧ (s.dev.riseTests.contains 3 = false) ∧ (judgeLeg vl r = 0) ∧ ((s.dev.groupChannels 3).all (fun n => decide ((s.dev.legOf n).1 < 3)) = true)) ∧
    (∃ (s : State) (_ : Int), (s.dev.phase = .service) ∧ (s.dev.o Obj.LIFE_CYCLE ≠ 2)) ∧
    (∃ (s : State) (v : Int), (s.dev.phase = .service) ∧ (s.dev.o Obj.LIFE_CYCLE = 2) ∧ (v ≠ 1)) ∧
    (∃ (s : State), (s.dev.phase = .service) ∧ (s.dev.o Obj.LIFE_CYCLE = 2) ∧ (s.dev.ahead.assignOk = false)) ∧
    (∃ (s : State), (s.dev.phase = .service) ∧ (s.dev.o Obj.LIFE_CYCLE = 2) ∧ (s.dev.writes = []) ∧ (s.dev.assignOk = true) ∧ ([Domain.tra, .trb, .grd, .dca, .dcb, .lnk].all (fun dom => s.dev.stopped dom) = true) ∧ (s.dev.o (el Obj.GROUP_6000 37) = 0) ∧ (s.dev.n (el Obj.POSITION 37) < 8)) :=
  ⟨⟨svc, 5, by decide⟩,
   ⟨(svc [(Obj.STATE_5000, 4)]).having (fun d => { d with grid := { d.grid with step := 5 } }), by decide⟩,
   ⟨svc.having (fun d => { d with ocHold := [3, 5] }), 5, by decide⟩,
   ⟨(svc [(Obj.DRIVE_EN, 1), (Obj.BRIDGE_STATE, 1), (Obj.STATE_5000, 4)]).having (fun d => { d with grid := { d.grid with step := 5 } }), by decide⟩,
   ⟨svc, -1, by decide⟩,
   ⟨svc [(Obj.RUN_4240, 1)], by decide⟩,
   ⟨svc, by decide⟩,
   ⟨svc.having (fun d => { d with testing := [3] }), 3, 7000, by decide⟩,
   ⟨svc.having (fun d => { d with testing := [3] }), ⟨7300, -300, true⟩, 7000, by decide⟩,
   ⟨svc [(Obj.LIFE_CYCLE, 3)], 1, by decide⟩,
   ⟨svc [(Obj.LIFE_CYCLE, 2)], 2, by decide⟩,
   ⟨svc [(Obj.LIFE_CYCLE, 2), (el Obj.GROUP_6000 1, 2)], by decide⟩,
   ⟨svc [(Obj.LIFE_CYCLE, 2)], by decide⟩⟩

set_option maxRecDepth 8000 in
theorem witness_LvBoundaries :
    (∃ (s : State) (j : Fin 8) (_ : LvIn), (s.dev.alive = true) ∧ (j.val < 4) ∧ ([1, 2, 3, 4].contains (s.dev.n (at' Obj.STATE_7200 j)) = false) ∧ ((s.dev.lvOf j).uv = 0)) ∧
    (∃ (s : State) (j : Fin 8) (_ : LvIn), (s.dev.alive = true) ∧ (4 ≤ j.val) ∧ (s.dev.bldcState (j - 4) = 1) ∧ ((s.dev.bldcOf (j - 4)).sector = 0) ∧ ((s.dev.bldcOf (j - 4)).tripped = false) ∧ (s.dev.b (axTrack j).validKey = false) ∧ ((s.dev.lvOf j).uv = 0)) ∧
    (∃ (s : State) (i : Int), (s.dev.alive = true) ∧ (i ≤ 800) ∧ ((List.range 8).any (fun k => s.dev.lvHot k) = false)) ∧
    (∃ (s : State) (i : Int), (s.dev.alive = true) ∧ (800 < i) ∧ (s.dev.lvLimit = false) ∧ (0 < s.dev.n (at' Obj.I_LIMIT_7100 3))) ∧
    (∃ (s : State) (j : Fin 8) (_ : Fin 2) (_ : Bool), (s.dev.alive = true) ∧ (4 ≤ j.val)) ∧
    (∃ (s : State) (j : Fin 8) (_ : Fin 2) (_ : Bool), (s.dev.alive = true) ∧ (j.val < 4)) ∧
    (∃ (s : State) (L : Fin 128), (s.dev.alive = true) ∧ (96 ≤ L.val) ∧ (s.dev.o (lk Obj.TRIGGER L) ≠ 3) ∧ (s.dev.writes = []) ∧ (s.dev.leBlocked.contains (L.val / 16) = false) ∧ (s.dev.leMoving = none) ∧ (s.dev.b (lk Obj.ENABLE_A100 L) = true) ∧ (s.dev.o (lk Obj.SP_SOURCE L) = 0) ∧ (s.dev.o (lk Obj.OUT_TARGET L) = 0) ∧ (s.dev.loopFrozen L = false) ∧ ((s.dev.loopOf L).holdNext = false) ∧ ((s.dev.loopOf L).halve = false) ∧ ((s.dev.loopOf L).first = false) ∧ ((s.dev.loopOf L).swap = false) ∧ (s.dev.outers L = []) ∧ (s.dev.loopPoisoned L = false) ∧ (s.dev.o (lk Obj.FE_TIME L) = 0) ∧ (bitOf (s.dev.o (lk Obj.FLAGS L)) 5 = false) ∧ (s.dev.o (lk Obj.TRACE_NODES L) = 0)) :=
  ⟨⟨svc [(el Obj.HB_STATUS 6, 5)], 1, { vlv := 4800, boots := [1200, 899, 900, 749], high := [true, false, true, false], low := [false, true], i := [120, -7], float := none, at_ := 0, emf := 0 }, by decide⟩,
   ⟨svc [(Obj.STATE_7100 + 512, 1), (Obj.HB_STATUS + 22, 1), (Obj.HB_STATUS + 23, 2)], 6, { vlv := 4800, boots := [1200, 899, 900], high := [true], low := [false, true], i := [1200], float := none, at_ := 0, emf := 0 }, by decide⟩,
   ⟨svc.having (fun d => { d with bldcs := [(2, { reduce := 40 })] }), 800, by decide⟩,
   ⟨svc [(Obj.I_LIMIT_7100 + 768, 200), (Obj.I_LIMIT_7100 + 512, 200)], 1050, by decide⟩,
   ⟨svc [(Obj.HB_STATUS + 19, 1), (Obj.HB_STATUS + 20, 2)], 5, 1, true, by decide⟩,
   ⟨svc [(Obj.HB_STATUS + 6, 1), (Obj.HB_STATUS + 7, 2)], 1, 1, true, by decide⟩,
   ⟨(svc [(lk Obj.ENABLE_A100 100, 1), (lk Obj.SETPOINT 100, 500), (lk Obj.FB_SOURCE 100, (Obj.VDC : Int)), (Obj.VDC, 700), (lk Obj.OUT_MAX 100, 1000), (lk Obj.OUT_MIN 100, -1000)]).having (fun d => { d with loops := [(100, { first := false })] }), 100, by decide⟩⟩

set_option maxRecDepth 8000 in
theorem witness_LvProtection :
    (∃ (s : State) (n : Fin 28), (s.dev.alive = true) ∧ (16 ≤ n.val)) ∧
    (∃ (s : State) (n : Fin 28), (s.dev.alive = true) ∧ (n.val < 16)) ∧
    (∃ (s : State) (n : Fin 28), (s.dev.alive = true) ∧ (16 ≤ n.val)) ∧
    (∃ (s : State) (n : Fin 28), (s.dev.alive = true) ∧ (n.val < 16)) ∧
    (∃ (s : State), (s.dev.alive = true)) ∧
    (∃ (s : State), (s.dev.alive = true)) ∧
    (∃ (s : State) (mask : Int), (s.dev.phase = .service) ∧ (0 ≤ mask) ∧ (mask ≤ 255)) ∧
    (∃ (s : State) (j : Fin 8) (rs : List HbReading), (s.dev.alive = true) ∧ ((s.dev.lvOf j).testing = true) ∧ ((s.dev.lvOf j).rise = false) ∧ (rs.length = (hbsOf j).length) ∧ (rs.all (fun r => judgeHb true r == 1) = true)) ∧
    (∃ (s : State) (j : Fin 8) (rs : List HbReading), (s.dev.alive = true) ∧ ((s.dev.lvOf j).testing = true) ∧ (4 ≤ j.val) ∧ (rs.length = 3) ∧ (rs.all (fun r => judgeHb true r == 1) = false)) ∧
    (∃ (s : State) (_ : List Nat), (s.dev.alive = true) ∧ (s.dev.o Obj.DRIVE_EN = 0) ∧ (s.dev.wall < s.dev.driveLow + 10000)) :=
  ⟨⟨svc [(Obj.HB_STATUS + 20, 1), (Obj.STATE_7100 + 256, 3), ((axTrack 5).validKey, 1), ((axTrack 5).rateKey, 77), (lk Obj.ENABLE_A100 93, 1)], 21, by decide⟩,
   ⟨svc [(Obj.HB_STATUS + 4, 1), (Obj.STATE_7200 + 256, 3), (Obj.HOMED + 256, 1)], 6, by decide⟩,
   ⟨svc [(Obj.HB_STATUS + 20, 1), (Obj.STATE_7100 + 256, 3), (Obj.RUN_7100 + 256, 1)], 21, by decide⟩,
   ⟨svc [(Obj.HB_STATUS + 4, 1), (Obj.STATE_7200 + 256, 3), (Obj.HOMED + 256, 1)], 6, by decide⟩,
   ⟨svc [(Obj.HB_STATUS + 4, 1), (Obj.STATE_7200 + 256, 3), (Obj.HOMED + 256, 1), (Obj.STATE_7100, 3)], by decide⟩,
   ⟨svc [(Obj.HB_STATUS + 4, 1), (Obj.STATE_7200 + 256, 3), (Obj.HOMED + 256, 1), (Obj.STATE_7100, 3)], by decide⟩,
   ⟨svc, 0x81, by decide⟩,
   ⟨(svc [(Obj.STATE_7100 + 256, 8)]).having (fun d => { d with lvs := [(5, { testing := true })] }), 5, List.replicate 3 ⟨true, false, false, true, false, true⟩, by decide⟩,
   ⟨(svc [(Obj.STATE_7100 + 256, 8)]).having (fun d => { d with lvs := [(5, { testing := true })] }), 5, [⟨true, false, false, true, false, true⟩, ⟨true, false, true, false, false, true⟩, ⟨true, false, false, true, false, true⟩], by decide⟩,
   ⟨svc [(Obj.DRIVE_EN, 0)], [], by decide⟩⟩

set_option maxRecDepth 8000 in
theorem witness_BldcStart :
    (∃ (s : State) (g : Fin 4), (s.dev.phase = .service) ∧ (s.dev.fuseBars [9] = false) ∧ (s.dev.bldcFree g = true)) ∧
    (∃ (s : State) (g : Fin 4), (s.dev.phase = .service) ∧ (s.dev.fuseBars [9] = false) ∧ (s.dev.bldcFree g = false)) ∧
    (∃ (s : State) (_ : Fin 4), (s.dev.phase = .service)) ∧
    (∃ (s : State) (g : Fin 4), (s.dev.alive = true) ∧ (s.dev.bldcState g = 1) ∧ (s.dev.slots = []) ∧ (s.dev.writes = [])) ∧
    (∃ (s : State) (g : Fin 4), (s.dev.alive = true) ∧ (s.dev.bldcState g = 2) ∧ (s.dev.slots = []) ∧ (s.dev.writes = [])) ∧
    (∃ (s : State) (g : Fin 4), (s.dev.alive = true) ∧ (s.dev.bldcState g = 2) ∧ (s.dev.n (at' Obj.TRIES g) ≠ 3)) ∧
    (∃ (s : State) (g : Fin 4), (s.dev.alive = true) ∧ (s.dev.bldcState g = 3) ∧ ((s.dev.bldcOf g).place.isSome = true)) :=
  ⟨⟨svc, 2, by decide⟩,
   ⟨svc.having (fun d => { d with lvs := [(6, { failed := true })] }), 2, by decide⟩,
   ⟨svc, 2, by decide⟩,
   ⟨svc [(Obj.STATE_7100 + 256, 1)], 1, by decide⟩,
   ⟨(svc [(Obj.STATE_7100 + 256, 2), (Obj.RAMP_F_START + 256, 5), (Obj.RAMP_F_END + 256, 50), (Obj.RAMP_TIME + 256, 100), ((axTrack 5).validKey, 1)]).having (fun d => { d with wall := 50000000, bldcs := [(1, { sector := 2 })] }), 1, by decide⟩,
   ⟨svc [(Obj.STATE_7100 + 256, 2), (Obj.TRIES + 256, 1), (Obj.HB_STATUS + 20, 1), (lk Obj.ENABLE_A100 93, 1), ((axTrack 5).validKey, 1)], 1, by decide⟩,
   ⟨(svc [(Obj.STATE_7100 + 256, 3), (Obj.HB_STATUS + 20, 1), (Obj.HB_STATUS + 22, 2)]).having (fun d => { d with bldcs := [(1, { sector := 1, dir := -1, place := some 100 })] }), 1, by decide⟩⟩

set_option maxRecDepth 8000 in
theorem witness_BldcLossAndRecatch :
    (∃ (s : State) (g : Fin 4), (s.dev.alive = true) ∧ (s.dev.bldcState g = 3) ∧ (s.dev.n (at' Obj.TRIES g) ≠ 3)) ∧
    (∃ (s : State) (g : Fin 4), (s.dev.alive = true) ∧ (s.dev.bldcState g = 3) ∧ (s.dev.n (at' Obj.TRIES g) = 3)) ∧
    (∃ (s : State) (g : Fin 4), (s.dev.alive = true) ∧ (s.dev.bldcState g = 4) ∧ (s.dev.pauses.contains (15 + g.val) = false)) ∧
    (∃ (s : State) (g : Fin 4) (_ : Nat) (_ : Int) (amp : Nat), (s.dev.alive = true) ∧ (s.dev.bldcState g = 5) ∧ (100 * amp < 2 * s.dev.n Obj.VLV)) ∧
    (∃ (s : State) (g : Fin 4) (_ : Nat) (rate : Int) (amp : Nat), (s.dev.alive = true) ∧ (s.dev.bldcState g = 5) ∧ (s.dev.slots = []) ∧ (s.dev.writes = []) ∧ (2 * s.dev.n Obj.VLV ≤ 100 * amp) ∧ (0 < rate * (s.dev.bldcOf g).dir) ∧ (10 * (s.dev.bldcSpeed g rate).natAbs ≤ 11 * s.dev.n (at' Obj.MAX_SPEED_7100 g))) ∧
    (∃ (s : State) (g : Fin 4) (_ : Nat) (rate : Int) (amp : Nat), (s.dev.alive = true) ∧ (s.dev.bldcState g = 5) ∧ (2 * s.dev.n Obj.VLV ≤ 100 * amp) ∧ (rate * (s.dev.bldcOf g).dir ≤ 0)) ∧
    (∃ (s : State) (g : Fin 4), (s.dev.alive = true) ∧ (s.dev.bldcState g = 6) ∧ ((s.dev.bldcOf g).braking = true)) ∧
    (∃ (s : State) (g : Fin 4), (s.dev.alive = true) ∧ (s.dev.bldcState g = 6) ∧ ((s.dev.bldcOf g).braking = true) ∧ (s.dev.n (at' Obj.TRIES g) ≠ 3)) ∧
    (∃ (s : State) (g : Fin 4), (s.dev.alive = true) ∧ (s.dev.bldcState g = 3)) :=
  ⟨⟨svc [(Obj.STATE_7100 + 256, 3), (Obj.TRIES + 256, 1), (Obj.HB_STATUS + 20, 1), (lk Obj.ENABLE_A100 93, 1), ((axTrack 5).validKey, 1)], 1, by decide⟩,
   ⟨svc [(Obj.STATE_7100 + 256, 3), (Obj.TRIES + 256, 3), (Obj.HB_STATUS + 20, 1), (lk Obj.ENABLE_A100 93, 1), ((axTrack 5).validKey, 1)], 1, by decide⟩,
   ⟨svc [(Obj.STATE_7100 + 256, 4), (Obj.HB_STATUS + 20, 1)], 1, by decide⟩,
   ⟨svc [(Obj.STATE_7100 + 256, 5), (Obj.VLV, 4800)], 1, 3000, 100, 95, by decide⟩,
   ⟨svc [(Obj.STATE_7100 + 256, 5), (Obj.VLV, 4800), (Obj.MAX_SPEED_7100 + 256, 3000)], 1, 30000, 65536, 96, by decide⟩,
   ⟨svc [(Obj.STATE_7100 + 256, 5), (Obj.VLV, 4800)], 1, 30000, -65536, 96, by decide⟩,
   ⟨(svc [(Obj.STATE_7100 + 256, 6)]).having (fun d => { d with bldcs := [(1, { braking := true })] }), 1, by decide⟩,
   ⟨(svc [(Obj.STATE_7100 + 256, 6), (Obj.HB_STATUS + 20, 2)]).having (fun d => { d with bldcs := [(1, { braking := true })] }), 1, by decide⟩,
   ⟨svc [(Obj.STATE_7100 + 256, 3), (Obj.TRIES + 256, 2)], 1, by decide⟩⟩

set_option maxRecDepth 8000 in
theorem witness_StepperCommands :
    (∃ (s : State) (a : Fin 4), (s.dev.phase = .service) ∧ (s.dev.fuseBars [9] = false) ∧ (s.dev.writes = []) ∧ (s.dev.o (at' Obj.ROLE_7200 a) = 0) ∧ (s.dev.o (at' Obj.GROUP_7200 a) = 0) ∧ (s.dev.homed a = true) ∧ (s.dev.axisState a ≠ 3) ∧ (s.dev.axisState a ≠ 6) ∧ (s.dev.actStopped = false) ∧ (s.dev.o (at' Obj.POS_MIN a) ≤ s.dev.o (at' Obj.TARGET_7200 a)) ∧ (s.dev.o (at' Obj.TARGET_7200 a) ≤ s.dev.o (at' Obj.POS_MAX a))) ∧
    (∃ (s : State) (a : Fin 4), (s.dev.phase = .service) ∧ (s.dev.fuseBars [9] = false) ∧ (s.dev.homed a = false)) ∧
    (∃ (s : State) (a : Fin 4), (s.dev.phase = .service) ∧ (s.dev.fuseBars [9] = false) ∧ (s.dev.writes = []) ∧ (s.dev.o (at' Obj.ROLE_7200 a) = 0) ∧ (s.dev.o (at' Obj.GROUP_7200 a) = 0) ∧ (s.dev.homed a = true) ∧ (s.dev.axisState a ≠ 3) ∧ (s.dev.axisState a ≠ 6) ∧ (s.dev.actStopped = false) ∧ (s.dev.o (at' Obj.POS_MIN a) ≤ (s.dev.axisOf a).target + s.dev.o (at' Obj.TARGET_7200 a)) ∧ ((s.dev.axisOf a).target + s.dev.o (at' Obj.TARGET_7200 a) ≤ s.dev.o (at' Obj.POS_MAX a))) ∧
    (∃ (s : State) (a : Fin 4), (s.dev.phase = .service) ∧ (s.dev.fuseBars [9] = false) ∧ (s.dev.writes = []) ∧ (s.dev.o (at' Obj.ROLE_7200 a) = 0) ∧ (s.dev.o (at' Obj.GROUP_7200 a) = 0) ∧ (s.dev.homed a = true) ∧ (s.dev.axisState a ≠ 3) ∧ (s.dev.axisState a ≠ 6) ∧ (s.dev.actStopped = false) ∧ (s.dev.o (at' Obj.POS_MAX a) < (s.dev.axisOf a).target + s.dev.o (at' Obj.TARGET_7200 a))) ∧
    (∃ (s : State) (_ : Fin 4), (s.dev.phase = .service)) ∧
    (∃ (s : State) (a : Fin 4), (s.dev.phase = .service) ∧ (s.dev.fuseBars [9] = false) ∧ (s.dev.writes = []) ∧ (s.dev.o (at' Obj.ROLE_7200 a) = 0) ∧ (s.dev.axisState a ≠ 3) ∧ (s.dev.axisState a ≠ 6) ∧ (s.dev.actStopped = false)) ∧
    (∃ (s : State) (_ : Fin 4), (s.dev.phase = .service)) ∧
    (∃ (s : State) (w : Fin 2), (s.dev.phase = .service) ∧ (s.dev.fuseBars [9] = false) ∧ (s.dev.groupCheck w 1 = 0)) ∧
    (∃ (s : State) (w : Fin 2), (s.dev.phase = .service) ∧ (s.dev.fuseBars [9] = false) ∧ (s.dev.writes = []) ∧ ([0, 1, 2, 3].any (fun a => s.dev.n (at' Obj.GROUP_7200 a) == w + 1 && !(s.dev.homed a)) = true)) ∧
    (∃ (s : State) (_ : Fin 2), (s.dev.phase = .service)) ∧
    (∃ (s : State) (a : Fin 4), (s.dev.alive = true) ∧ (s.dev.axisState a = 1) ∧ ((s.dev.axisOf a).doing = 0) ∧ (s.dev.n (at' Obj.HOLD_DELAY a) ≠ 65535) ∧ (s.dev.b (at' Obj.STANDSTILL_7200 a) = false)) ∧
    (∃ (s : State) (a : Fin 4), (s.dev.alive = true) ∧ (s.dev.axisState a = 1) ∧ ((s.dev.axisOf a).doing = 0) ∧ (s.dev.n (at' Obj.HOLD_DELAY a) ≠ 65535) ∧ (s.dev.b (at' Obj.STANDSTILL_7200 a) = true)) ∧
    (∃ (s : State) (a : Fin 4), (s.dev.alive = true) ∧ ((s.dev.axisOf a).doing = 5) ∧ (s.dev.axisState a = 1)) ∧
    (∃ (s : State) (a : Fin 4), (s.dev.alive = true) ∧ ((s.dev.axisOf a).doing = 6)) ∧
    (∃ (s : State) (a : Fin 4), (s.dev.alive = true) ∧ ((s.dev.axisOf a).doing = 4) ∧ (s.dev.slots = []) ∧ (s.dev.writes = [])) :=
  ⟨⟨svc [(Obj.ROLE_7200 + 256, 0), (Obj.HOMED + 256, 1), (Obj.TARGET_7200 + 256, 500), (Obj.POS_MAX + 256, 500), (Obj.STATE_7200 + 256, 1)], 1, by decide⟩,
   ⟨svc, 1, by decide⟩,
   ⟨(svc [(Obj.ROLE_7200 + 256, 0), (Obj.HOMED + 256, 1), (Obj.TARGET_7200 + 256, 500), (Obj.POS_MAX + 256, 600)]).having (fun d => { d with axes := [(1, { target := 100 })] }), 1, by decide⟩,
   ⟨(svc [(Obj.ROLE_7200 + 256, 0), (Obj.HOMED + 256, 1), (Obj.TARGET_7200 + 256, 501), (Obj.POS_MAX + 256, 600)]).having (fun d => { d with axes := [(1, { target := 100 })] }), 1, by decide⟩,
   ⟨svc, 1, by decide⟩,
   ⟨svc [(Obj.ROLE_7200 + 256, 0)], 1, by decide⟩,
   ⟨svc, 1, by decide⟩,
   ⟨svc [(Obj.ROLE_7200, 0), (Obj.GROUP_7200, 2), (Obj.HOMED, 1)], 1, by decide⟩,
   ⟨svc [(Obj.GROUP_7200, 2)], 1, by decide⟩,
   ⟨svc, 1, by decide⟩,
   ⟨(svc [(Obj.STATE_7200 + 256, 1), (Obj.HB_STATUS + 4, 1), (Obj.HB_STATUS + 5, 2), (Obj.HOLD_DELAY + 256, 100)]).having (fun d => { d with axes := [(1, { acc := 77, p := 77, amp := 300 })] }), 1, by decide⟩,
   ⟨svc [(Obj.STATE_7200 + 256, 1), (Obj.HB_STATUS + 4, 1), (Obj.HOLD_DELAY + 256, 100), (Obj.STANDSTILL_7200 + 256, 1)], 1, by decide⟩,
   ⟨(svc [(Obj.STATE_7200 + 256, 1)]).having (fun d => { d with axes := [(1, { doing := 5, next := 1 })] }), 1, by decide⟩,
   ⟨(svc [(Obj.STATE_7200 + 256, 2), (Obj.I_HOLD + 256, 12)]).having (fun d => { d with axes := [(1, { doing := 6, p := 40 })] }), 1, by decide⟩,
   ⟨(svc [(Obj.STATE_7200 + 256, 4), (Obj.HOME_POS + 256, -1200)]).having (fun d => { d with axes := [(1, { doing := 4, p := 40 })] }), 1, by decide⟩⟩

set_option maxRecDepth 8000 in
theorem witness_InterlocksAndServo :
    (∃ (s : State) (v : Int), (s.dev.phase = .service) ∧ (s.dev.valueCheck Obj.GEAR_SET v = 0) ∧ (s.dev.shift.op = 0) ∧ (s.dev.o Obj.GEAR_NOW ≠ 0xFF) ∧ (s.dev.ascOut .A = false) ∧ (s.dev.ascOut .B = false) ∧ (s.dev.startBlocked .act = false)) ∧
    (∃ (s : State) (v : Int), (s.dev.phase = .service) ∧ (s.dev.valueCheck Obj.GEAR_SET v = 0) ∧ (s.dev.shift.op = 0) ∧ (s.dev.o Obj.GEAR_NOW = 0xFF)) ∧
    (∃ (s : State) (v : Int), (s.dev.phase = .service) ∧ (s.dev.valueCheck Obj.PARK_SET v = 0) ∧ (v = 1 → s.dev.parkSlow = true) ∧ (s.dev.shift.op = 0) ∧ ((s.dev.roleAxis 3).isSome = true) ∧ (s.dev.roleHomed 3 = true) ∧ (s.dev.startBlocked .act = false)) ∧
    (∃ (s : State), (s.dev.phase = .service) ∧ (s.dev.parkSlow = false)) ∧
    (∃ (s : State) (v : Int), (s.dev.phase = .service) ∧ (s.dev.valueCheck Obj.DIFF_SET v = 0) ∧ ((s.dev.roleAxis 4).isSome = true) ∧ (s.dev.roleHomed 4 = true) ∧ (s.dev.startBlocked .act = false)) ∧
    (∃ (s : State), (s.dev.phase = .service) ∧ (s.dev.shift.op = 0) ∧ (s.dev.startBlocked .act = false)) ∧
    (∃ (s : State), (s.dev.alive = true) ∧ (s.dev.shift.autoDone = false) ∧ (s.dev.b Obj.AUTO_HOME = true) ∧ (s.dev.shift.op = 0) ∧ (s.dev.startBlocked .act = false)) ∧
    (∃ (s : State), (s.dev.alive = true) ∧ (s.dev.shift.op = 1) ∧ (s.dev.shift.step = 1) ∧ (s.dev.shift.confirmed = false)) ∧
    (∃ (s : State), (s.dev.alive = true) ∧ (s.dev.shift.op = 2) ∧ (s.dev.shift.step = 1) ∧ (s.dev.shift.confirmed = false)) ∧
    (∃ (s : State), (s.dev.alive = true) ∧ (s.dev.shift.op = 1) ∧ (s.dev.shift.step = 5) ∧ (s.dev.pauses.contains 14 = false)) ∧
    (∃ (s : State) (_ : List Int) (a : Fin 4), (s.dev.alive = true) ∧ (s.dev.writes = []) ∧ (s.dev.slots = []) ∧ (s.dev.actStopped = false) ∧ (s.dev.shift = {}) ∧ (s.dev.rehomeNeeded = false) ∧ (s.dev.o Obj.GROUP_STATE = 0 ∧ s.dev.o (at' Obj.GROUP_STATE 1) = 0) ∧ (s.dev.axisState a = 2) ∧ ((s.dev.axisOf a).doing = 1) ∧ ((s.dev.axisRate a).natAbs < 25600) ∧ ((profile (s.dev.axisLimits a) { p := (s.dev.axisOf a).p, v := (s.dev.axisOf a).v, a := (s.dev.axisOf a).a } (s.dev.axisOf a).target).2 = false)) ∧
    (∃ (s : State) (_ : List Int) (a : Fin 4), (s.dev.alive = true) ∧ (s.dev.writes = [{ key := at' Obj.MOVE_CTRL a, val := 1 }]) ∧ (s.dev.slots = []) ∧ (s.dev.actStopped = false) ∧ (s.dev.shift = {}) ∧ (s.dev.rehomeNeeded = false) ∧ (s.dev.o Obj.GROUP_STATE = 0 ∧ s.dev.o (at' Obj.GROUP_STATE 1) = 0) ∧ (s.dev.axisState a = 1) ∧ (s.dev.o (at' Obj.CURRENT_MODE a) = 0) ∧ ((s.dev.axisOf a).doing = 0) ∧ ((s.dev.axisRate a).natAbs < 25600) ∧ ((profile (s.dev.axisLimits a) { p := (s.dev.axisOf a).p, v := (s.dev.axisOf a).v, a := (s.dev.axisOf a).a } (s.dev.o (at' Obj.TARGET_7200 a))).2 = false)) ∧
    (∃ (s : State) (_ : List Int), (s.dev.alive = true) ∧ (s.dev.writes = []) ∧ (s.dev.actStopped = false) ∧ (s.dev.shift = {}) ∧ (s.dev.rehomeNeeded = false) ∧ (s.dev.o Obj.GROUP_STATE = 0 ∧ s.dev.o (at' Obj.GROUP_STATE 1) = 0) ∧ ([0, 1, 2, 3].all (fun g => s.dev.bldcState g == 0 && !(s.dev.b (at' Obj.RUN_7100 g))) = true) ∧ ([0, 1, 2, 3].all (fun a => !(s.dev.homed a) && (s.dev.axisOf a).doing == 0 && (s.dev.axisOf a).inc == 0 && s.dev.axisState a != 6) = true)) :=
  ⟨⟨svc [(Obj.GEAR_NOW, 0), (Obj.ROLE_7200, 0), (Obj.ROLE_7200 + 256, 0)], 1, by decide⟩,
   ⟨svc [(Obj.GEAR_NOW, 0xFF)], 1, by decide⟩,
   ⟨svc [(Obj.ROLE_7200 + 256, 3), (Obj.HOMED + 256, 1)], 0, by decide⟩,
   ⟨svc, by decide⟩,
   ⟨svc [(Obj.ROLE_7200 + 256, 4), (Obj.HOMED + 256, 1)], 1, by decide⟩,
   ⟨svc, by decide⟩,
   ⟨svc [(Obj.AUTO_HOME, 1)], by decide⟩,
   ⟨svc.having (fun d => { d with shift := { d.shift with op := 1, step := 1, imposed := true } }), by decide⟩,
   ⟨svc.having (fun d => { d with shift := { d.shift with op := 2, step := 1, imposed := true, parkHold := true } }), by decide⟩,
   ⟨svc.having (fun d => { d with shift := { d.shift with op := 1, step := 5, imposed := true } }), by decide⟩,
   ⟨(svc [(Obj.STATE_7200 + 256, 2), (Obj.V_MAX + 256, 10000), (Obj.ACCEL_7200 + 256, 100000), (Obj.DECEL_7200 + 256, 100000), (Obj.GEAR_NOW, 0), (Obj.ROLE_7200, 0), (Obj.ROLE_7200 + 256, 0)]).having (fun d => { d with axes := [(1, { doing := 1, target := 5000 })] }), [0, 0, 0, 0], 1, by decide⟩,
   ⟨(svc [(Obj.STATE_7200 + 256, 1), (Obj.V_MAX + 256, 10000), (Obj.ACCEL_7200 + 256, 100000), (Obj.DECEL_7200 + 256, 100000), (Obj.GEAR_NOW, 0), (Obj.ROLE_7200, 0), (Obj.ROLE_7200 + 256, 0), (Obj.TARGET_7200 + 256, 700), (Obj.I_RUN + 256, 20)]).having (fun d => { d with writes := [{ key := Obj.MOVE_CTRL + 256, val := 1 }] }), [0, 0, 0, 0], 1, by decide⟩,
   ⟨(svc [(Obj.STATE_7200 + 256, 1), (Obj.GEAR_NOW, 0), (Obj.ROLE_7200, 0), (Obj.ROLE_7200 + 256, 0)]).having (fun d => { d with axes := [(1, { p := 85899345920 })] }), [0, 0, 0, 0], by decide⟩⟩

set_option maxRecDepth 8000 in
theorem witness_GroundUpdates :
    (∃ (s : State), (s.dev.alive = true) ∧ (s.dev.dead.contains 0x28 = false) ∧ (s.dev.writes = []) ∧ (s.dev.rows = []) ∧ (s.dev.nodes = []) ∧ ((List.range 128).all (fun n => !(bitOf (s.dev.o (Obj.ROW_STATE + n)) 0)) = true) ∧ (s.dev.b Obj.ROW_VALID = false) ∧ (s.dev.o Obj.GNSS_STATE ≠ 2) ∧ ([0, 1, 2].all (fun i => s.dev.o (at' Obj.PULSES_PER_100M i) == 0) = true) ∧ (s.dev.n Obj.DIST_PRIMARY ≤ 4) ∧ (s.dev.n Obj.DIST_SECONDARY ≤ 4) ∧ (s.dev.o Obj.VALID_3460 = 1) ∧ (s.dev.o Obj.MOUNT = 0) ∧ (s.dev.o Obj.DIR_SOURCE = 0) ∧ (s.dev.ge.headAt = none) ∧ (s.dev.ge.cogAt = none) ∧ (s.dev.ge.mdirAt = none) ∧ (s.dev.ge.noYaw = false)) ∧
    (∃ (s : State) (k : Nat), (s.dev.alive = true) ∧ (s.dev.dead.contains 0x28 = false) ∧ (s.dev.writes = []) ∧ (s.dev.slots = []) ∧ (s.dev.o Obj.GNSS_STATE ≠ 2) ∧ (s.dev.o Obj.DIST_PRIMARY = 1) ∧ (s.dev.o Obj.DIR_SOURCE = 0) ∧ (s.dev.ge.cogAt = none) ∧ (s.dev.ge.mdirAt = none) ∧ (s.dev.o Obj.WHL0_Y = 0) ∧ (0 < s.dev.n Obj.PULSES_PER_100M) ∧ ((s.dev.pulseSrc 0).bad = false) ∧ ((s.dev.pulseSrc 0).glitchAt = []) ∧ (s.dev.n Obj.GLITCHES = (s.dev.pulseSrc 0).glitches) ∧ (s.dev.n Obj.PULSES_3450 = (s.dev.pulseSrc 0).last + k) ∧ (k < 4294967296)) ∧
    (∃ (s : State), (s.dev.alive = true) ∧ (s.dev.dead.contains 0x28 = false) ∧ (s.dev.writes = []) ∧ (s.dev.slots = []) ∧ (s.dev.b Obj.MASTER = false)) ∧
    (∃ (s : State), (s.dev.alive = true) ∧ (s.dev.distSource = 0xFF)) ∧
    (∃ (s : State) (_ : Int) (t : Nat), (s.dev.alive = true) ∧ (s.dev.ge.still = some t) ∧ (t + 2000000000 ≤ s.dev.wall)) ∧
    (∃ (s : State) (name : Nat) (_ _ : Int), (s.dev.phase = .service) ∧ (name ≠ 0) ∧ (s.dev.n Obj.GNSS_NAME = name) ∧ (s.dev.n Obj.MIN_FIX ≤ 4) ∧ (s.dev.ge.fixAt = none) ∧ (s.dev.ge.originWaits = false) ∧ (s.dev.ge.hist = [])) ∧
    (∃ (s : State) (name method : Nat) (_ _ : Int) (_ : Option Int), (s.dev.phase = .service) ∧ (name ≠ 0) ∧ (s.dev.n Obj.GNSS_NAME = name) ∧ (method < s.dev.n Obj.MIN_FIX)) ∧
    (∃ (s : State) (name : Nat) (_ _ : Int), (s.dev.phase = .service) ∧ (name ≠ 0) ∧ (s.dev.n Obj.GNSS_NAME = name) ∧ (s.dev.fresh s.dev.ge.methodAt 1000000000 = true) ∧ (s.dev.ge.method = 4) ∧ (s.dev.n Obj.MIN_FIX ≤ 4) ∧ (s.dev.ge.fixAt = none) ∧ (s.dev.ge.originWaits = false) ∧ (s.dev.ge.hist = [])) ∧
    (∃ (s : State) (name _ _ : Nat), (s.dev.phase = .service) ∧ (name ≠ 0) ∧ (s.dev.n Obj.GNSS_NAME = name)) ∧
    (∃ (s : State) (name _ : Nat), (s.dev.phase = .service) ∧ (name ≠ 0) ∧ (s.dev.n Obj.GNSS_NAME = name)) ∧
    (∃ (s : State) (name : Nat) (_ : Bool), (s.dev.phase = .service) ∧ (name ≠ 0) ∧ (s.dev.n Obj.GNSS_NAME = name)) ∧
    (∃ (s : State), (s.dev.alive = true) ∧ (s.dev.o Obj.GNSS_STATE = 2)) :=
  ⟨⟨svc [(Obj.VALID_3460, 1), (Obj.MOUNT, 0), (Obj.YAW_RATE_3460, 250000), (Obj.GYRO_BIAS, -50), (Obj.ROWS, 4), (Obj.MASTER, 1), (Obj.PULSES_PER_100M, 0), (Obj.PULSES_PER_100M + 256, 0), (Obj.PULSES_PER_100M + 512, 0)], by decide⟩,
   ⟨svc [(Obj.DIST_PRIMARY, 1), (Obj.WHL0_Y, 0), (Obj.PULSES_PER_100M, 13000), (Obj.SPEED_3450, 27000), (Obj.PULSES_3450, 7)], 7, by decide⟩,
   ⟨svc [(Obj.MASTER, 0), (Obj.ROW_STATE + 4, 1), (Obj.ROWS, 8)], by decide⟩,
   ⟨svc [(Obj.ROW_STATE + 4, 1), (TrackId.gnd.validKey, 1), (Obj.ROW_VALID, 1)], by decide⟩,
   ⟨svc.having (fun d => { d with wall := 3000000000, ge := { d.ge with still := some 1000000000 } }), -321, 1000000000, by decide⟩,
   ⟨svc [(Obj.GNSS_NAME, 77), (Obj.FIELD_LAT, 500000000), (Obj.FIELD_LON, 80000000)], 77, 500001000, 80001000, by decide⟩,
   ⟨svc [(Obj.GNSS_NAME, 77), (Obj.MIN_FIX, 4)], 77, 3, 500001000, 80001000, none, by decide⟩,
   ⟨(svc [(Obj.GNSS_NAME, 77), (Obj.FIELD_LAT, 500000000), (Obj.FIELD_LON, 80000000)]).having (fun d => { d with ge := { d.ge with method := 4, methodAt := some 0 } }), 77, 500001000, 80001000, by decide⟩,
   ⟨svc [(Obj.GNSS_NAME, 77)], 77, 16384, 2500, by decide⟩,
   ⟨svc [(Obj.GNSS_NAME, 77)], 77, 65536, by decide⟩,
   ⟨svc [(Obj.GNSS_NAME, 77)], 77, false, by decide⟩,
   ⟨svc [(Obj.GNSS_STATE, 2)], by decide⟩⟩

set_option maxRecDepth 8000 in
theorem witness_JobsAndRows :
    (∃ (s : State), (s.dev.alive = true)) ∧
    (∃ (s : State), (s.dev.phase = .service) ∧ (s.dev.o Obj.JOB_STATE = 0) ∧ (s.dev.startBlocked .bom = false)) ∧
    (∃ (s : State), (s.dev.phase = .service) ∧ (s.dev.o Obj.JOB_STATE = 0) ∧ (s.dev.startBlocked .bom = false)) ∧
    (∃ (s : State), (s.dev.phase = .service) ∧ (0 < s.dev.n Obj.JOB_STATE)) ∧
    (∃ (s : State), (s.dev.phase = .service) ∧ (s.dev.o Obj.JOB_STATE = 1)) ∧
    (∃ (s : State), (s.dev.phase = .service) ∧ (s.dev.o Obj.JOB_STATE = 1)) ∧
    (∃ (s : State), (s.dev.phase = .service) ∧ (s.dev.o Obj.JOB_STATE = 1)) ∧
    (∃ (s : State), (s.dev.alive = true) ∧ (s.dev.o Obj.JOB_STATE = 2)) ∧
    (∃ (s : State), (s.dev.alive = true) ∧ (s.dev.o Obj.JOB_STATE = 2)) ∧
    (∃ (s : State), (s.dev.alive = true) ∧ (s.dev.o Obj.JOB_STATE = 3)) ∧
    (∃ (s : State) (b : Bytes), (s.dev.phase = .service) ∧ (boundariesOk b = true)) ∧
    (∃ (s : State) (b : Bytes), (s.dev.phase = .service) ∧ (boundariesOk b = false)) ∧
    (∃ (s : State) (b : Bytes), (s.dev.phase = .service) ∧ (gridOk b = true)) ∧
    (∃ (s : State) (b : Bytes), (s.dev.phase = .service) ∧ (gridOk b = false)) ∧
    (∃ (s : State) (v : Int), (s.dev.phase = .service) ∧ (v = 0 ∨ (v = 1 ∧ s.dev.fuseBars [] = false ∧ s.dev.startBlocked .bom = false))) ∧
    (∃ (s : State) (_ : Fin 128) (_ : Bool), (s.dev.phase = .service)) :=
  ⟨⟨(svc [(Obj.COMMIT_DIST, 100)]).having (fun d => { d with ge := { d.ge with marks := [(7, 0), (9, 500), (7, 1000)], travel := 1500, map := [3] } }), by decide⟩,
   ⟨svc, by decide⟩,
   ⟨(svc [(Obj.APPLIED_AREA, 20)]).having (fun d => { d with ge := { d.ge with map := [3] } }), by decide⟩,
   ⟨svc [(Obj.JOB_STATE, 2)], by decide⟩,
   ⟨(svc [(Obj.JOB_STATE, 1)]).having (fun d => { d with ge := { d.ge with map := [3] } }), by decide⟩,
   ⟨(svc [(Obj.JOB_STATE, 1)]).having (fun d => { d with ge := { d.ge with map := [3] } }), by decide⟩,
   ⟨(svc [(Obj.JOB_STATE, 1)]).having (fun d => { d with ge := { d.ge with map := [3] } }), by decide⟩,
   ⟨(svc [(Obj.JOB_STATE, 2)]).having (fun d => { d with ge := { d.ge with saving := [3], closing := true } }), by decide⟩,
   ⟨(svc [(Obj.JOB_STATE, 2)]).having (fun d => { d with ge := { d.ge with saving := [3], closing := true } }), by decide⟩,
   ⟨(svc [(Obj.JOB_STATE, 3)]).having (fun d => { d with ge := { d.ge with stored := [3] } }), by decide⟩,
   ⟨svc [(Obj.BOUNDARY_STATUS, 1)], [], by decide⟩,
   ⟨svc, [1, 2, 3], by decide⟩,
   ⟨svc [(Obj.RX_STATUS, 1)], [], by decide⟩,
   ⟨svc, [1, 2, 3], by decide⟩,
   ⟨svc, 1, by decide⟩,
   ⟨svc, 3, false, by decide⟩⟩

set_option maxRecDepth 8000 in
theorem witness_BoomChains :
    (∃ (s : State) (c : Fin 4), (s.dev.alive = true) ∧ (s.dev.writes = []) ∧ ((s.dev.chainOf c).up = true) ∧ (s.dev.dead.contains (0x29 + c.val / 2) = false) ∧ (s.dev.n (at' Obj.NODES_CFG c) ≤ 32) ∧ ((s.dev.chainOf c).bcast = none) ∧ ((List.range 128).all (fun m => (s.dev.nodeOf (m + 1)).wait.isEmpty) = true)) ∧
    (∃ (s : State) (c : Fin 4) (_ : Nat) (b : Bytes), (s.dev.alive = true) ∧ ((s.dev.chainOf c).up = true) ∧ ((s.dev.chainOf c).bytes ≠ []) ∧ (crc16Ok 12 (part b 0 12) = false) ∧ (s.dev.n (at' Obj.NODES_CFG c) = 0)) ∧
    (∃ (s : State) (c : Fin 4) (_ : Nat) (b : Bytes), (s.dev.alive = true) ∧ ((s.dev.chainOf c).up = true) ∧ ((s.dev.chainOf c).bytes ≠ []) ∧ (crc16Ok 12 (part b 0 12) = true) ∧ (s.dev.o (at' Obj.STATE_9000 c) = 2) ∧ (s.dev.n (at' Obj.NODES_CFG c) = 1) ∧ (s.dev.nodeState (32 * c + 1) = 3) ∧ (1 ≤ s.dev.n (el Obj.ROW (32 * c + 1)) ∧ s.dev.n (el Obj.ROW (32 * c + 1)) ≤ 128) ∧ ((s.dev.nodeOf (32 * c + 1)).out.length = 1) ∧ ((s.dev.nodeOf (32 * c + 1)).fault = false) ∧ (crc16Ok 12 (part b 36 12) = true) ∧ (byteAt (part b 36 12) 0 = ((s.dev.nodeOf (32 * c + 1)).done + 1) % 256) ∧ (byteAt (part b 36 12) 1 = ((s.dev.nodeOf (32 * c + 1)).met + 1) % 256) ∧ ((s.dev.nodeOf (32 * c + 1)).done < 256) ∧ ((s.dev.nodeOf (32 * c + 1)).met < 256) ∧ (byteAt (part b 36 12) 2 = 128) ∧ (byteAt (part b 36 12) 6 = 0) ∧ (byteAt (part b 36 12) 7 = 0) ∧ (crc16Ok 8 (part b 48 8) = true) ∧ (byteAt (part b 48 8) 5 < 128) ∧ (crc16Ok 6 (part b 56 6) = true)) ∧
    (∃ (s : State) (c : Fin 4), (s.dev.alive = true) ∧ ((s.dev.chainOf c).up = true) ∧ ((s.dev.chainOf c).noReturn + 1 < s.dev.n (at' Obj.LOSS_CYCLES c))) ∧
    (∃ (s : State) (c : Fin 4), (s.dev.alive = true) ∧ ((s.dev.chainOf c).up = true) ∧ (s.dev.n (at' Obj.LOSS_CYCLES c) ≤ (s.dev.chainOf c).noReturn + 1) ∧ (s.dev.n (at' Obj.STATE_9000 c) ≠ 4) ∧ (s.dev.n (at' Obj.NODES_CFG c) ≤ 32)) ∧
    (∃ (s : State) (c : Fin 4), (s.dev.phase = .service) ∧ (s.dev.fuseBars [10] = false) ∧ (s.dev.writes = []) ∧ (s.dev.o (at' Obj.STATE_9000 c) = 0) ∧ (1 ≤ s.dev.n (at' Obj.NODES_CFG c) ∧ s.dev.n (at' Obj.NODES_CFG c) ≤ 32) ∧ (s.dev.startBlocked .bom = false) ∧ ((s.dev.positions c).all (fun p => (s.dev.nodeOf (32 * c + p)).out.isEmpty) = true) ∧ (frameTime (s.dev.n (at' Obj.NODES_CFG c)) + s.dev.n (at' Obj.RING_DELAY c) + 30000 ≤ 1000 * s.dev.n (at' Obj.T_CYC c))) ∧
    (∃ (s : State) (c : Fin 4), (s.dev.phase = .service) ∧ (s.dev.fuseBars [10] = false) ∧ ([1, 2, 3].contains (s.dev.n (at' Obj.STATE_9000 c)) = true)) ∧
    (∃ (s : State) (c : Fin 4), (s.dev.phase = .service) ∧ (s.dev.n (at' Obj.NODES_CFG c) ≤ 32) ∧ ((s.dev.positions c).all (fun p => (s.dev.nodeOf (32 * c + p)).out.isEmpty) = true)) ∧
    (∃ (s : State) (c : Fin 4), (s.dev.phase = .service) ∧ (s.dev.b Obj.MASTER = false) ∧ (s.dev.o (at' Obj.STATE_9000 c) = 2) ∧ (s.dev.n (at' Obj.NODES_CFG c) ≤ 32) ∧ (s.dev.n (at' Obj.HOPS c) = s.dev.n (at' Obj.NODES_CFG c)) ∧ ((s.dev.positions c).all (fun p => (s.dev.nodeOf (32 * c + p)).out.isEmpty) = true)) ∧
    (∃ (s : State) (c : Fin 4), (s.dev.phase = .service) ∧ (s.dev.b Obj.MASTER = false) ∧ (s.dev.o (at' Obj.STATE_9000 c) = 2) ∧ (s.dev.n (at' Obj.HOPS c) ≠ s.dev.n (at' Obj.NODES_CFG c))) ∧
    (∃ (s : State), (s.dev.phase = .service) ∧ (s.dev.mbx.busy = false)) ∧
    (∃ (s : State), (s.dev.phase = .service) ∧ (s.dev.mbx.busy = true)) ∧
    (∃ (s : State), (s.dev.phase = .service) ∧ (s.dev.mbx.busy = false) ∧ (s.dev.n Obj.MBX_PARAM ≠ 4)) ∧
    (∃ (s : State), (s.dev.alive = true) ∧ (s.dev.mbx.busy = true)) :=
  ⟨⟨(svc [(Obj.NODES_CFG + 256, 2), (Obj.STATE_9000 + 256, 2), (Obj.ROW_STATE + 32, 1), (Obj.ROW + 32, 33)]).having (fun d => { d with chains := [(1, { up := true })] }), 1, by decide⟩,
   ⟨(svc [(Obj.NODES_CFG + 256, 0), (Obj.STATE_9000 + 256, 2)]).having (fun d => { d with chains := [(1, { up := true, bytes := [1], noReturn := 1 })] }), 1, 500, [0], by decide⟩,
   ⟨(svc [(Obj.NODES_CFG + 256, 1), (Obj.STATE_9000 + 256, 2), (Obj.NODE_STATE + 32, 3), (Obj.ROW + 32, 33), (Obj.CREDITS + 32, 7), (Obj.PENDING + 32, 1)]).having (fun d => { d with chains := [(1, { up := true, bytes := [1], noReturn := 1 })], nodes := [(33, { out := [(0, 0, 500)], seq := 1, good := true })] }), 1, 500, withCrc [1, 5, 1, 0, 0, 0, 0, 0, 0, 1] ++ List.replicate 24 0 ++ withCrc [1, 1, 128, 0, 0, 0, 0, 0, 0, 0] ++ withCrc [0, 0, 0, 0, 0, 0] ++ withCrc [0, 0, 0, 0], by decide⟩,
   ⟨(svc [(Obj.NODES_CFG + 256, 1), (Obj.LOSS_CYCLES + 256, 3)]).having (fun d => { d with chains := [(1, { up := true, noReturn := 1 })], nodes := [(33, { good := true })] }), 1, by decide⟩,
   ⟨(svc [(Obj.NODES_CFG + 256, 1), (Obj.LOSS_CYCLES + 256, 2), (Obj.STATE_9000 + 256, 2), (Obj.NODE_STATE + 32, 3)]).having (fun d => { d with chains := [(1, { up := true, noReturn := 1 })], nodes := [(33, { good := true })] }), 1, by decide⟩,
   ⟨svc [(Obj.NODES_CFG + 256, 1), (Obj.T_CYC + 256, 1000), (Obj.NODE_STATE + 32, 4), (Obj.CREDITS + 32, 5)], 1, by decide⟩,
   ⟨svc [(Obj.STATE_9000 + 256, 2)], 1, by decide⟩,
   ⟨(svc [(Obj.NODES_CFG + 256, 1), (Obj.STATE_9000 + 256, 2), (Obj.NODE_STATE + 32, 3), (Obj.CREDITS + 32, 5)]).having (fun d => { d with chains := [(1, { up := true, bytes := [1] })] }), 1, by decide⟩,
   ⟨svc [(Obj.NODES_CFG + 256, 1), (Obj.HOPS + 256, 1), (Obj.STATE_9000 + 256, 2), (Obj.NODE_STATE + 32, 3), (Obj.CREDITS + 32, 5), (Obj.MASTER, 0)], 1, by decide⟩,
   ⟨svc [(Obj.NODES_CFG + 256, 2), (Obj.HOPS + 256, 1), (Obj.STATE_9000 + 256, 2), (Obj.MASTER, 0)], 1, by decide⟩,
   ⟨svc [(Obj.MBX_NODE, 33), (Obj.MBX_PARAM, 2)], by decide⟩,
   ⟨svc.having (fun d => { d with mbx := { d.mbx with busy := true } }), by decide⟩,
   ⟨svc [(Obj.MBX_NODE, 33), (Obj.MBX_PARAM, 9), (Obj.MBX_DATA, 1234)], by decide⟩,
   ⟨svc.having (fun d => { d with mbx := { d.mbx with busy := true, node := 33 } }), by decide⟩⟩

set_option maxRecDepth 8000 in
theorem witness_SessionsAndNotifications :
    (∃ (s : State) (_ : Fin 8), (s.dev.phase = .service)) ∧
    (∃ (s : State) (n : Fin 8), (s.dev.phase = .service) ∧ (s.dev.sessState (n + 1) = 1)) ∧
    (∃ (s : State) (n : Fin 8), (s.dev.phase = .service) ∧ (s.dev.sessState (n + 1) = 2)) ∧
    (∃ (s : State) (_ : Path) (_ : Nat), (s.dev.phase = .service)) ∧
    (∃ (s : State) (v : Nat), (s.dev.phase = .service) ∧ (1 ≤ v ∧ v ≤ 8) ∧ (s.dev.sessState v = 2)) ∧
    (∃ (s : State) (v : Int), (s.dev.phase = .service) ∧ (v < 1 ∨ 8 < v)) ∧
    (∃ (s : State) (m : Fin 64), (s.dev.phase = .service) ∧ (s.dev.notes = []) ∧ ((List.range 64).all (fun j => s.dev.b (at' Obj.ENABLE_1800 j) == (j == m.val)) = true) ∧ (s.dev.n (at' Obj.MODE_1800 m) ≠ 2) ∧ ((s.dev.noteEntries m).any (fun x => s.dev.poison.contains x) = false) ∧ (s.dev.pool.length < 128)) ∧
    (∃ (s : State) (eth : Bool) (m : NoteMsg) (r : List NoteMsg), (s.dev.phase = .service) ∧ (s.dev.pool = m :: r) ∧ (m.path = (if eth then 2 else 1))) :=
  ⟨⟨svc.having (fun d => { d with sessions := [(3, { key := [1], staging := some (5, [1, 2], 0) })] }), 2, by decide⟩,
   ⟨(svc [(el Obj.SESSION_STATE 3, 1), (el Obj.SESSION_ROLE 3, 2)]).having (fun d => { d with sessions := [(3, { nc := [1] })] }), 2, by decide⟩,
   ⟨(svc [(el Obj.SESSION_STATE 3, 2), (at' Obj.SESSION 5, 3), (at' Obj.ENABLE_1800 5, 1)]).having (fun d => { d with sessions := [(3, { key := [1] })] }), 2, by decide⟩,
   ⟨svc.having (fun d => { d with barred := [(1, 40), (2, 40)] }), .canb, 40, by decide⟩,
   ⟨(svc [(el Obj.SESSION_STATE 3, 2)]).having (fun d => { d with sessions := [(3, { key := [1] })] }), 3, by decide⟩,
   ⟨svc, 9, by decide⟩,
   ⟨svc [(at' Obj.ENABLE_1800 5, 1), (at' Obj.ENTRY 5, (Obj.VDC : Int)), (Obj.VDC, 7000), (at' Obj.PATH 5, 1)], 5, by decide⟩,
   ⟨svc.having (fun d => { d with pool := [{ map := 5, path := 1, counter := 0, bytes := [1] }, { map := 6, path := 1, counter := 0, bytes := [1] }] }), false, { map := 5, path := 1, counter := 0, bytes := [1] }, [{ map := 6, path := 1, counter := 0, bytes := [1] }], by decide⟩⟩

set_option maxRecDepth 8000 in
theorem witness_AddressesAndTaskController :
    (∃ (s : State), (s.dev.phase = .service) ∧ (s.dev.claim = 0)) ∧
    (∃ (s : State), (s.dev.phase = .service) ∧ (s.dev.claim = 1)) ∧
    (∃ (s : State) (name : Nat), (s.dev.phase = .service) ∧ (s.dev.claim = 1 ∨ s.dev.claim = 2) ∧ (name < s.dev.n Obj.NAME) ∧ (s.dev.claimLast = false)) ∧
    (∃ (s : State) (name : Nat), (s.dev.phase = .service) ∧ (s.dev.claim = 1 ∨ s.dev.claim = 2) ∧ (name < s.dev.n Obj.NAME) ∧ (s.dev.claimLast = true)) ∧
    (∃ (s : State) (name : Nat), (s.dev.phase = .service) ∧ (s.dev.n Obj.NAME ≤ name)) ∧
    (∃ (s : State) (addr name : Nat), (s.dev.phase = .service) ∧ (addr < 254) ∧ (name ≠ 0) ∧ ((List.range 254).all (fun i => s.dev.n (el Obj.PEER_NAME (i + 1)) != name) = true) ∧ (s.dev.o (el Obj.PEER_NAME (addr + 1)) = 0)) ∧
    (∃ (s : State) (i : Fin 254) (name : Nat), (s.dev.phase = .service) ∧ (name ≠ 0) ∧ (s.dev.n (el Obj.PEER_NAME (i + 1)) = name)) ∧
    (∃ (s : State) (name : Nat), (s.dev.phase = .service) ∧ (name ≠ 0) ∧ (s.dev.n Obj.TC_NAME = name) ∧ (s.dev.o Obj.TC_STATE = 0) ∧ (s.dev.claim = 2)) ∧
    (∃ (s : State), (s.dev.phase = .service) ∧ (s.dev.o Obj.TC_STATE = 1)) ∧
    (∃ (s : State), (s.dev.phase = .service) ∧ (s.dev.o Obj.TC_STATE ≠ 0)) ∧
    (∃ (s : State) (name _ : Nat), (s.dev.phase = .service) ∧ (name ≠ 0) ∧ (s.dev.n Obj.TC_NAME = name) ∧ (s.dev.o Obj.TC_STATE = 2)) ∧
    (∃ (s : State) (name : Nat) (first : Fin 127), (s.dev.phase = .service) ∧ (name ≠ 0) ∧ (s.dev.n Obj.TC_NAME = name) ∧ (s.dev.o Obj.TC_STATE = 2) ∧ (1 ≤ first.val)) :=
  ⟨⟨svc [(Obj.PREF_ADDR, 140)], by decide⟩,
   ⟨svc.having (fun d => { d with claim := 1, claimAddr := 141 }), by decide⟩,
   ⟨(svc [(Obj.NAME, 500), (Obj.PREF_ADDR, 128)]).having (fun d => { d with claim := 2, claimAddr := 247 }), 499, by decide⟩,
   ⟨(svc [(Obj.NAME, 500), (Obj.PREF_ADDR, 128)]).having (fun d => { d with claim := 1, claimAddr := 128, claimLast := true }), 499, by decide⟩,
   ⟨(svc [(Obj.NAME, 500)]).having (fun d => { d with claim := 2, claimAddr := 247 }), 500, by decide⟩,
   ⟨svc [(el Obj.PEER_NAME 9, 5)], 30, 77, by decide⟩,
   ⟨svc [(el Obj.PEER_NAME 9, 5)], 8, 5, by decide⟩,
   ⟨(svc [(Obj.TC_NAME, 9)]).having (fun d => { d with claim := 2 }), 9, by decide⟩,
   ⟨svc [(Obj.TC_STATE, 1)], by decide⟩,
   ⟨(svc [(Obj.TC_STATE, 2), (Obj.SECTION_SOURCE, 1)]).having (fun d => { d with ge := { d.ge with tcRows := [3] } }), by decide⟩,
   ⟨svc [(Obj.TC_NAME, 9), (Obj.TC_STATE, 2), (Obj.RATE_LSB, 100)], 9, 75, by decide⟩,
   ⟨(svc [(Obj.TC_NAME, 9), (Obj.TC_STATE, 2)]).having (fun d => { d with ge := { d.ge with tcRows := [4, 9] } }), 9, 3, by decide⟩⟩

set_option maxRecDepth 8000 in
theorem witness_PortsAndMemories :
    (∃ (s : State) (p : Fin 3) (_ : Fin 4) (b : Bytes), (s.dev.phase = .service) ∧ (spBlockOk b = true) ∧ ((s.dev.spOf p).run = none)) ∧
    (∃ (s : State) (_ : Fin 3) (_ : Fin 4) (b : Bytes), (s.dev.phase = .service) ∧ (spBlockOk b = false)) ∧
    (∃ (s : State) (p : Fin 3) (q : Fin 4), (s.dev.phase = .service) ∧ (s.dev.writes = []) ∧ (s.dev.spQueue p q ≠ []) ∧ ((s.dev.spOf p).run = none) ∧ (s.dev.o (at' Obj.SEL_MODE p) = 0)) ∧
    (∃ (s : State) (p : Fin 3) (q : Fin 4), (s.dev.phase = .service) ∧ (s.dev.spQueue p q = [])) ∧
    (∃ (s : State) (p : Fin 3) (q : Fin 4), (s.dev.phase = .service) ∧ (s.dev.spQueue p q ≠ []) ∧ ((s.dev.spOf p).run.isSome = true) ∧ ((s.dev.spOf p).pend.any (fun x => x.1 == q.val) = true)) ∧
    (∃ (s : State) (p : Fin 3) (_ : List Nat) (q : Fin 4) (i : Fin 8), (s.dev.alive = true) ∧ ((s.dev.spOf p).run = some (q.val, i.val)) ∧ (spChains (s.dev.spQueue p q) i = false) ∧ (byteAt (s.dev.spQueue p q) (7 + 20 * i) ≤ 4) ∧ ((s.dev.spOf p).pend = []) ∧ ((s.dev.spOf p).wait = [])) ∧
    (∃ (s : State) (i : Fin 11), (s.dev.alive = true) ∧ (s.dev.pauses.contains (i.val + 1) = false) ∧ ((s.dev.memOf (i + 1)).next + 1 < memWords (i + 1) + memHoles (i + 1))) ∧
    (∃ (s : State) (i : Fin 11), (s.dev.alive = true) ∧ (s.dev.pauses.contains (i.val + 1) = false) ∧ ((s.dev.memOf (i + 1)).next < memWords (i + 1)) ∧ ((s.dev.memOf (i + 1)).seen = []) ∧ (s.dev.n (el Obj.LEVEL (i + 1)) < s.dev.n (el Obj.BUCKET_DEPTH (i + 1)))) ∧
    (∃ (s : State) (i : Fin 11), (s.dev.alive = true) ∧ (s.dev.pauses.contains (i.val + 1) = false) ∧ ((s.dev.memOf (i + 1)).next < memWords (i + 1))) ∧
    (∃ (s : State) (i : Fin 11) (w : Nat), (s.dev.alive = true) ∧ (w < memWords (i + 1)) ∧ ((s.dev.memOf (i + 1)).back.contains w = true)) ∧
    (∃ (s : State) (i : Fin 11) (w : Nat), (s.dev.alive = true) ∧ (w < memWords (i + 1)) ∧ (s.dev.marked (i + 1) w = true) ∧ ((Tab.get {} (s.dev.memOf (i + 1)).words w).perm = false)) ∧
    (∃ (s : State) (i : Fin 11), (s.dev.alive = true) ∧ (0 < s.dev.n (el Obj.LEVEL (i + 1)))) :=
  ⟨⟨svc [(Obj.QUEUE_NEXT + 257, 3)], 1, 1, [], by decide⟩,
   ⟨svc, 1, 1, [1, 9], by decide⟩,
   ⟨(svc [(Obj.QUEUE_NEXT + 257, 3), (Obj.SEL_MODE + 256, 0)]).having (fun d => { d with blk := [(Obj.QUEUE + 257, [1])] }), 1, 1, by decide⟩,
   ⟨svc, 1, 1, by decide⟩,
   ⟨svc.having (fun d => { d with blk := [(Obj.QUEUE + 257, [1])], sps := [(1, { run := some (0, 0), pend := [(1, 0)] })] }), 1, 1, by decide⟩,
   ⟨svc.having (fun d => { d with blk := [(Obj.QUEUE + 257, [1, 1, 0, 0, 0, 0, 12, 2])], sps := [(1, { run := some (1, 0), wall := 900, track := -5 })] }), 1, [5000, 17], 1, 0, by decide⟩,
   ⟨svc.having (fun d => { d with mems := [(3, { next := 16000 })] }), 2, by decide⟩,
   ⟨(svc [(el Obj.BUCKET_DEPTH 3, 4)]).having (fun d => { d with mems := [(3, { next := 100 })] }), 2, by decide⟩,
   ⟨svc.having (fun d => { d with mems := [(11, { next := 100 })] }), 10, by decide⟩,
   ⟨svc.having (fun d => { d with mems := [(3, { back := [7, 9] })] }), 2, 7, by decide⟩,
   ⟨svc.having (fun d => { d with mems := [(3, { words := [(7, { poison := true, ue := true })] })] }), 2, 7, by decide⟩,
   ⟨svc [(el Obj.LEVEL 3, 2)], 2, by decide⟩⟩

set_option maxRecDepth 8000 in
theorem witness_SessionsByUnit :
    (∃ (s : State) (path : Path) (source _ role : Nat) (nc _ : Bytes) (n : Nat), (s.dev.phase = .service) ∧ (s.dev.portOff path = false) ∧ (nc.length = 8) ∧ (1 ≤ role ∧ role ≤ 4) ∧ (s.dev.barred.contains (pathNum path, source) = false) ∧ (s.dev.roleAvailable role = true) ∧ (s.dev.freeSlot = some n)) ∧
    (∃ (s : State) (path : Path) (source _ role : Nat) (nc _ : Bytes), (s.dev.phase = .service) ∧ (s.dev.portOff path = false) ∧ (nc.length = 8) ∧ (role = 0 ∨ 4 < role ∨ s.dev.barred.contains (pathNum path, source) = true ∨ s.dev.roleAvailable role = false)) ∧
    (∃ (s : State) (path : Path) (source n _ : Nat), (s.dev.phase = .service) ∧ (s.dev.portOff path = false) ∧ (1 ≤ n ∧ n ≤ 8) ∧ (s.dev.sessState n = 1) ∧ (s.dev.n (el Obj.SESSION_PATH n) = pathNum path) ∧ (s.dev.n (el Obj.SESSION_PEER n) = source)) ∧
    (∃ (s : State) (path : Path) (source n _ : Nat) (tag : Bytes), (s.dev.phase = .service) ∧ (s.dev.portOff path = false) ∧ (1 ≤ n ∧ n ≤ 8) ∧ (s.dev.sessState n = 1) ∧ (s.dev.n (el Obj.SESSION_PATH n) = pathNum path) ∧ (s.dev.n (el Obj.SESSION_PEER n) = source) ∧ (tag ≠ Config.aesCmac (s.dev.roleKey (s.dev.roleOf n)) (tagMessage (s.dev.roleOf n) n (s.dev.sess n))) ∧ (s.dev.wrongTags = [])) ∧
    (∃ (s : State) (path : Path) (_ n _ : Nat) (_ : Bytes), (s.dev.phase = .service) ∧ (s.dev.portOff path = false) ∧ (n = 0 ∨ 8 < n ∨ s.dev.sessState n = 0)) ∧
    (∃ (s : State) (path : Path) (source n seq : Nat), (s.dev.phase = .service) ∧ (openFor s.dev path source n seq = true)) ∧
    (∃ (s : State) (path : Path) (source n seq : Nat), (s.dev.phase = .service) ∧ (openFor s.dev path source n seq = true)) :=
  ⟨⟨svc [(Obj.LIFE_CYCLE, 3), (Obj.SESSION_STATE, 2)], .canb, 33, 0, 1, [1, 2, 3, 4, 5, 6, 7, 8], [9, 9, 9, 9, 9, 9, 9, 9], 2, by decide⟩,
   ⟨svc [(Obj.LIFE_CYCLE, 3)], .canb, 33, 0, 4, [1, 2, 3, 4, 5, 6, 7, 8], [], by decide⟩,
   ⟨svc [(Obj.SESSION_STATE + 2, 1), (Obj.SESSION_PATH + 2, 1), (Obj.SESSION_PEER + 2, 33), (Obj.SESSION_ROLE + 2, 1)], .canb, 33, 3, 1, by decide⟩,
   ⟨svc [(Obj.SESSION_STATE + 2, 1), (Obj.SESSION_PATH + 2, 1), (Obj.SESSION_PEER + 2, 33), (Obj.SESSION_ROLE + 2, 1)], .canb, 33, 3, 1, 0 :: Config.aesCmac ((svc [(Obj.SESSION_STATE + 2, 1), (Obj.SESSION_PATH + 2, 1), (Obj.SESSION_PEER + 2, 33), (Obj.SESSION_ROLE + 2, 1)]).dev.roleKey 1) (tagMessage 1 3 {}), by decide, by decide, by decide, by decide, by decide, by decide, fun h => absurd (congrArg List.length h) (Nat.succ_ne_self _), by decide⟩,
   ⟨svc, .hsp, 0, 3, 1, [1], by decide⟩,
   ⟨svc [(Obj.SESSION_STATE + 2, 2), (Obj.SESSION_PATH + 2, 1), (Obj.SESSION_PEER + 2, 33), (Obj.SESSION_ROLE + 2, 1)], .canb, 33, 3, 1, by decide⟩,
   ⟨svc [(Obj.SESSION_STATE + 2, 2), (Obj.SESSION_PATH + 2, 1), (Obj.SESSION_PEER + 2, 33), (Obj.SESSION_ROLE + 2, 1)], .canb, 33, 3, 1, by decide⟩⟩

set_option maxRecDepth 8000 in
theorem witness_ReadsAndWrites :
    (∃ (s : State) (path : Path) (_ _ index sub : Nat) (_ : Bytes) (ty : ObjTy), (s.dev.phase = .service) ∧ (s.dev.portOff path = false) ∧ (readCheck 0 (index * 256 + sub) = 0) ∧ (objType (index * 256 + sub) = some ty) ∧ (ty ≠ .domain ∧ ty ≠ .str) ∧ (s.dev.poison.contains (index * 256 + sub) = false)) ∧
    (∃ (s : State) (path : Path) (_ _ index sub : Nat) (_ : Bytes) (ty : ObjTy), (s.dev.phase = .service) ∧ (s.dev.portOff path = false) ∧ (readCheck 0 (index * 256 + sub) = 0) ∧ (objType (index * 256 + sub) = some ty) ∧ (ty ≠ .domain ∧ ty ≠ .str) ∧ (s.dev.poison.contains (index * 256 + sub) = true)) ∧
    (∃ (s : State) (path : Path) (_ _ index sub _ : Nat) (_ : Bytes), (s.dev.phase = .service) ∧ (s.dev.portOff path = false) ∧ (readCheck 0 (index * 256 + sub) ≠ 0)) ∧
    (∃ (s : State) (path : Path) (source n seq sub v : Nat) (_ : UnitIn), (s.dev.phase = .service) ∧ (openFor s.dev path source n seq = true) ∧ (1 ≤ sub ∧ sub ≤ 9) ∧ (100 ≤ v ∧ v ≤ 60000) ∧ (2 ≤ s.dev.roleOf n) ∧ (s.dev.fuse.ceilings = [])) ∧
    (∃ (s : State) (path : Path) (source n seq sub : Nat) (b : Bytes) (_ : UnitIn), (s.dev.phase = .service) ∧ (openFor s.dev path source n seq = true) ∧ (1 ≤ sub ∧ sub ≤ 9) ∧ (s.dev.roleOf n < 2 ∨ b.length ≠ 4 ∨ ofLe b < 100 ∨ 60000 < ofLe b)) ∧
    (∃ (s : State) (path : Path) (_ n _ _ _ : Nat) (_ _ : Bytes) (_ : UnitIn), (s.dev.phase = .service) ∧ (s.dev.portOff path = false) ∧ (8 < n ∨ (1 ≤ n ∧ s.dev.sessState n ≠ 2))) ∧
    (∃ (s : State) (path : Path) (source n seq index sub : Nat) (b : Bytes) (_ : UnitIn), (s.dev.phase = .service) ∧ (s.dev.portOff path = false) ∧ (1 ≤ n ∧ n ≤ 8) ∧ (s.dev.sessState n = 2) ∧ (s.dev.n (el Obj.SESSION_PATH n) = pathNum path) ∧ (s.dev.n (el Obj.SESSION_PEER n) = source) ∧ (s.dev.outstanding n = false) ∧ (seq < 4294967295) ∧ ((s.dev.sess n).seq = some seq) ∧ ((s.dev.sess n).asked = unitHeader 2 n b.length 0 seq index sub ++ b)) ∧
    (∃ (s : State) (path : Path) (source n seq : Nat) (b : Bytes) (_ : UnitIn), (s.dev.phase = .service) ∧ (openFor s.dev path source n seq = true) ∧ (b.length = 32) ∧ (2 ≤ s.dev.roleOf n) ∧ (s.dev.o Obj.TRACE_STATE = 0) ∧ (s.dev.stagingOthers n < 2)) ∧
    (∃ (s : State) (path : Path) (source n seq off : Nat) (_ : Bool) (_ : Bytes) (_ : UnitIn), (s.dev.phase = .service) ∧ (openFor s.dev path source n seq = true) ∧ (2 ≤ s.dev.roleOf n) ∧ (0 < off ∧ off < 4294967296) ∧ ((s.dev.sess n).staging = none)) ∧
    (∃ (s : State) (path : Path) (source n seq : Nat) (b : Bytes) (_ : UnitIn), (s.dev.phase = .service) ∧ (openFor s.dev path source n seq = true) ∧ (2 ≤ s.dev.roleOf n) ∧ (s.dev.stagingOthers n < 2) ∧ (b.length ≤ 1024)) :=
  ⟨⟨svc [(Obj.VSUP, 2410)], .eth, 7, 1, 0x2600, 7, [], .u16, by decide⟩,
   ⟨(svc [(Obj.VSUP, 2410)]).having (fun d => { d with poison := [Obj.VSUP] }), .eth, 7, 1, 0x2600, 7, [], .u16, by decide⟩,
   ⟨svc, .eth, 7, 1, 0x2302, 1, 0, [], by decide⟩,
   ⟨svc [(Obj.SESSION_STATE + 2, 2), (Obj.SESSION_PATH + 2, 1), (Obj.SESSION_PEER + 2, 33), (Obj.SESSION_ROLE + 2, 2)], .canb, 33, 3, 1, 4, 5000, noInput, by decide⟩,
   ⟨svc [(Obj.SESSION_STATE + 2, 2), (Obj.SESSION_PATH + 2, 1), (Obj.SESSION_PEER + 2, 33), (Obj.SESSION_ROLE + 2, 2)], .canb, 33, 3, 1, 4, [99, 0, 0, 0], noInput, by decide⟩,
   ⟨svc, .eth, 7, 3, 1, 0x2302, 1, [1], [], noInput, by decide⟩,
   ⟨(svc [(Obj.SESSION_STATE + 2, 2), (Obj.SESSION_PATH + 2, 1), (Obj.SESSION_PEER + 2, 33), (Obj.SESSION_ROLE + 2, 2)]).having (fun d => { d with sessions := [(3, { seq := some 7, asked := unitHeader 2 3 1 0 7 0x2302 1 ++ [1], answer := 0 })] }), .canb, 33, 3, 7, 0x2302, 1, [1], noInput, by decide⟩,
   ⟨svc [(Obj.SESSION_STATE + 2, 2), (Obj.SESSION_PATH + 2, 1), (Obj.SESSION_PEER + 2, 33), (Obj.SESSION_ROLE + 2, 2)], .canb, 33, 3, 1, List.replicate 32 7, noInput, by decide⟩,
   ⟨svc [(Obj.SESSION_STATE + 2, 2), (Obj.SESSION_PATH + 2, 1), (Obj.SESSION_PEER + 2, 33), (Obj.SESSION_ROLE + 2, 2)], .canb, 33, 3, 1, 8, false, [1], noInput, by decide⟩,
   ⟨svc [(Obj.SESSION_STATE + 2, 2), (Obj.SESSION_PATH + 2, 1), (Obj.SESSION_PEER + 2, 33), (Obj.SESSION_ROLE + 2, 2)], .canb, 33, 3, 1, [1, 2, 3, 4], noInput, by decide⟩⟩

set_option maxRecDepth 8000 in
theorem witness_Couriers :
    (∃ (s : State) (al : Fin 64) (g : Fin 32) (v : Fin 2), (s.dev.phase = .service) ∧ (s.dev.o (at' Obj.T_IDX al) = 0x8013) ∧ (s.dev.o (at' Obj.T_SUB al) = 0) ∧ (s.dev.o (at' Obj.KIND g) = 2) ∧ (s.dev.o (at' Obj.TIMING g) = 0) ∧ (s.dev.o (at' Obj.STATE_F000 g) = 0) ∧ (s.dev.block (at' Obj.MEMBERS g) = [3, 0, 0, 0, 0, 0, 0, 0, 0, 0, 0, 0, 0, 0, 0, 0]) ∧ (s.dev.laneCheck authorised 0x801301 v = 0) ∧ (s.dev.laneCheck authorised 0x801302 v = 0)) ∧
    (∃ (s : State) (al : Fin 64) (g : Fin 32) (_ : Fin 2), (s.dev.phase = .service) ∧ (s.dev.o (at' Obj.T_IDX al) = 0x8013) ∧ (s.dev.o (at' Obj.T_SUB al) = 0) ∧ ((s.dev.o (at' Obj.KIND g) = 2 ∧ s.dev.o (at' Obj.STATE_F000 g) = 1 ∧ s.dev.block (at' Obj.MEMBERS g) = []) ∨ s.dev.o (at' Obj.KIND g) = 3)) ∧
    (∃ (s : State) (g : Fin 32), (s.dev.phase = .service) ∧ ((Tab.get {} s.dev.couriers g).pending = true) ∧ ((Tab.get {} s.dev.couriers g).slot = none) ∧ ((Tab.get {} s.dev.couriers g).owed = false)) ∧
    (∃ (s : State) (g : Fin 32), (s.dev.phase = .service) ∧ ((Tab.get {} s.dev.couriers g).pending = false)) ∧
    (∃ (s : State) (_ : LinkIn) (g : Fin 32) (keys : List Nat) (v : Int), (s.dev.alive = true) ∧ (s.dev.couriers = [(g.val, { pending := true, slot := none, owed := false, session := 0, head := [], keys := keys, value := v, node := none })]) ∧ (s.dev.writes = []) ∧ (keys.all (fun k => decide (0x7000 ≤ keyIdx k) && decide (keyIdx k < 0xB000)) = true)) :=
  ⟨⟨(svc [(Obj.T_IDX, 0x8013), (Obj.KIND, 2)]).having (fun d => { d with blk := [(Obj.MEMBERS, [3, 0, 0, 0, 0, 0, 0, 0, 0, 0, 0, 0, 0, 0, 0, 0])] }), 0, 0, 1, by decide⟩,
   ⟨(svc [(Obj.T_IDX, 0x8013), (Obj.KIND, 2), (Obj.STATE_F000, 1)]).having (fun d => { d with blk := [(Obj.MEMBERS, [])] }), 0, 0, 1, by decide⟩,
   ⟨(svc [(Obj.STATE_F000, 1)]).having (fun d => { d with couriers := [(0, { pending := true, keys := [0x801301] })] }), 0, by decide⟩,
   ⟨svc, 3, by decide⟩,
   ⟨(svc [(Obj.STATE_F000, 1)]).having (fun d => { d with couriers := [(0, { pending := true, keys := [0x801301], value := 1 })] }), { vdc := 7000, iTractor := 5, iBattery := 0, chopEnergy := 0, measured := [] }, 0, [0x801301], 1, by decide⟩⟩

set_option maxRecDepth 8000 in
theorem witness_HostPortWord :
    (∃ (s : State), (hspOn s.dev 0 = true)) ∧
    (∃ (s : State) (_ : Bytes), (hspOn s.dev 0 = true) ∧ (s.dev.hsp.free = true)) ∧
    (∃ (s : State) (_ : Bytes), (hspOn s.dev 0 = true) ∧ (s.dev.hsp.free = false)) ∧
    (∃ (s : State) (n : Nat) (r : Bytes) (t : List Bytes), (hspOn s.dev 0 = true) ∧ (s.dev.hsp.resp = r :: t) ∧ ((r.length + 3) / 4 ≤ n) ∧ (t.length ≤ 1)) ∧
    (∃ (s : State) (n : Nat) (r : Bytes) (t : List Bytes), (hspOn s.dev 0 = true) ∧ (s.dev.hsp.resp = r :: t) ∧ (n < (r.length + 3) / 4)) ∧
    (∃ (s : State) (_ : Nat), (hspOn s.dev 0 = true)) ∧
    (∃ (s : State) (r : Nat), (s.dev.phase = .service) ∧ (s.dev.hsp.want = some r) ∧ (readCheck 0 r = 0) ∧ (highestSub (keyIdx r) = keySub r) ∧ (objType r = some .u16 ∨ objType r = some .u8 ∨ objType r = some .u32) ∧ (s.dev.poison.contains r = false)) ∧
    (∃ (s : State) (r : Nat), (s.dev.phase = .service) ∧ (s.dev.hsp.want = some r) ∧ (readCheck 0 r ≠ 0)) ∧
    (∃ (s : State) (r : Nat), (s.dev.phase = .service) ∧ (s.dev.hsp.want = some r) ∧ (readCheck 0 r = 0) ∧ (objType r ≠ some .domain) ∧ (s.dev.poison.contains r = true)) ∧
    (∃ (s : State) (_ : Nat), (hspOn s.dev 0 = true) ∧ (s.dev.hsp.ready = true)) ∧
    (∃ (s : State) (_ : Nat), (hspOn s.dev 0 = true) ∧ (s.dev.hsp.ready = false)) ∧
    (∃ (s : State) (cmd : Nat), (hspOn s.dev 0 = true) ∧ (4 < cmd)) ∧
    (∃ (s : State) (_ : UnitIn) (b : Bytes), (s.dev.phase = .service) ∧ (s.dev.portOff .hsp = false) ∧ (s.dev.o Obj.HSP_MODE = 0) ∧ (s.dev.hsp.req = some b) ∧ (b = [1, 0, 4, 0, 7, 0, 0, 0, 0, 0x26, 7, 0, 0, 0, 0, 0]) ∧ (s.dev.poison.contains Obj.VSUP = false) ∧ (s.dev.hsp.resp = [])) ∧
    (∃ (s : State) (_ : UnitIn) (b : Bytes), (s.dev.phase = .service) ∧ (s.dev.hsp.req = some b) ∧ (b.length < 12)) :=
  ⟨⟨svc.having (fun d => { d with hsp := { d.hsp with resp := [[1, 2, 3]], aborted := true } }), by decide⟩,
   ⟨svc, [1, 0, 0, 0, 0, 0, 0, 0, 0, 0x20, 1, 0, 0, 0, 0, 0], by decide⟩,
   ⟨svc.having (fun d => { d with hsp := { d.hsp with free := false, req := some [1] } }), [1, 0, 0, 0, 0, 0, 0, 0, 0, 0x20, 1, 0, 0, 0, 0, 0], by decide⟩,
   ⟨svc.having (fun d => { d with hsp := { d.hsp with resp := [[1, 2, 3]] } }), 2, [1, 2, 3], [], by decide⟩,
   ⟨svc.having (fun d => { d with hsp := { d.hsp with resp := [[1, 2, 3, 4, 5]] } }), 1, [1, 2, 3, 4, 5], [], by decide⟩,
   ⟨svc, 0x300107, by decide⟩,
   ⟨(svc [(Obj.SHUTDOWNS_FORCED, 300)]).having (fun d => { d with hsp := { d.hsp with want := some Obj.SHUTDOWNS_FORCED } }), Obj.SHUTDOWNS_FORCED, by decide⟩,
   ⟨svc.having (fun d => { d with hsp := { d.hsp with want := some 0x230201 } }), 0x230201, by decide⟩,
   ⟨svc.having (fun d => { d with poison := [Obj.VSUP], hsp := { d.hsp with want := some Obj.VSUP } }), Obj.VSUP, by decide⟩,
   ⟨svc.having (fun d => { d with hsp := { d.hsp with ready := true, buf := [0, 0, 0, 0, 1, 2, 3, 4], ptr := 1 } }), 3, by decide⟩,
   ⟨svc, 2, by decide⟩,
   ⟨svc, 9, by decide⟩,
   ⟨(svc [(Obj.VSUP, 2410)]).having (fun d => { d with hsp := { d.hsp with free := false, req := some [1, 0, 4, 0, 7, 0, 0, 0, 0, 0x26, 7, 0, 0, 0, 0, 0] } }), noInput, [1, 0, 4, 0, 7, 0, 0, 0, 0, 0x26, 7, 0, 0, 0, 0, 0], by decide⟩,
   ⟨svc.having (fun d => { d with hsp := { d.hsp with free := false, req := some [1, 0, 4] } }), noInput, [1, 0, 4], by decide⟩⟩

set_option maxRecDepth 8000 in
theorem witness_HostPortAbortsAndDaisy :
    (∃ (s : State) (_ _ : Nat), (hspOn s.dev 0 = true)) ∧
    (∃ (s : State) (cmd len bits : Nat), (hspOn s.dev 0 = true) ∧ ((1 ≤ bits ∧ bits < 32) ∨ (cmd = 1 ∧ 32 ≤ bits ∧ bits / 32 - 1 < (len + 3) / 4))) ∧
    (∃ (s : State) (_ bits : Nat), (hspOn s.dev 0 = true) ∧ (32 < bits ∧ bits % 32 ≠ 0)) ∧
    (∃ (s : State) (bits : Nat) (seg : Bytes), (hspOn s.dev 1 = true) ∧ (s.dev.o Obj.DC_FRAME_BITS = bits) ∧ (byteAt seg 0 = 0) ∧ (s.dev.hsp.cmd = 0)) ∧
    (∃ (s : State) (bits : Nat) (seg : Bytes) (r : Bytes) (t : List Bytes), (hspOn s.dev 1 = true) ∧ (s.dev.o Obj.DC_FRAME_BITS = bits) ∧ (byteAt seg 0 = 2) ∧ (s.dev.hsp.cmd = 2) ∧ (s.dev.hsp.resp = r :: t) ∧ (t.length ≤ 1)) ∧
    (∃ (s : State) (bits : Nat) (_ : Bytes), (hspOn s.dev 1 = true) ∧ (s.dev.o Obj.DC_FRAME_BITS ≠ bits)) ∧
    (∃ (s : State) (_ : Bytes), (s.dev.phase ≠ .service ∨ s.dev.portOff .hsp = true)) :=
  ⟨⟨svc, 1, 16, by decide⟩,
   ⟨svc, 1, 16, 65, by decide⟩,
   ⟨svc.having (fun d => { d with hsp := { d.hsp with resp := [[1, 2, 3]] } }), 0, 70, by decide⟩,
   ⟨svc [(Obj.HSP_MODE, 1), (Obj.DC_FRAME_BITS, 512)], 512, [0, 0, 0, 0], by decide⟩,
   ⟨(svc [(Obj.HSP_MODE, 1), (Obj.DC_FRAME_BITS, 512)]).having (fun d => { d with hsp := { d.hsp with cmd := 2, resp := [[1, 2, 3]] } }), 512, [2, 0, 0, 0], [1, 2, 3], [], by decide⟩,
   ⟨svc [(Obj.HSP_MODE, 1), (Obj.DC_FRAME_BITS, 512)], 500, [1, 0, 0, 0], by decide⟩,
   ⟨svc.having (fun d => { d with phase := .engines }), [1, 2], by decide⟩⟩

set_option maxRecDepth 8000 in
theorem witness_FuseCommands :
    (∃ (s : State) (n : Fin 8) (w : Fin 1024), (s.dev.phase = .service) ∧ (s.dev.roleOf (n + 1) = 2 ∨ s.dev.roleOf (n + 1) = 3) ∧ (s.dev.o Obj.LIFE_CYCLE = 2) ∧ (256 + 128 * s.dev.bankNow ≤ w.val ∧ w.val < 384 + 128 * s.dev.bankNow) ∧ (s.dev.cSet (s.dev.bankLock s.dev.bankNow) = false) ∧ (s.dev.fuse.job = none)) ∧
    (∃ (s : State) (n : Fin 8) (w : Fin 1024), (s.dev.phase = .service) ∧ (s.dev.roleOf (n + 1) < 4) ∧ (w.val < 256 + 128 * s.dev.bankNow ∨ 384 + 128 * s.dev.bankNow ≤ w.val)) ∧
    (∃ (s : State) (_ : Fin 8), (s.dev.phase = .service) ∧ (s.dev.cSet (s.dev.bankLock 0) = false) ∧ (s.dev.regionOk 2 = true) ∧ (s.dev.fuse.failed = []) ∧ (s.dev.fuse.job = none)) ∧
    (∃ (s : State) (_ : Fin 8), (s.dev.phase = .service) ∧ (s.dev.cSet (s.dev.bankLock 0) = false) ∧ (s.dev.regionOk 2 = false)) ∧
    (∃ (s : State) (n : Fin 8) (bank : Fin 2) (t : Nat), (s.dev.phase = .service) ∧ (s.dev.o Obj.LIFE_CYCLE = 2) ∧ (bank.val = s.dev.bankNow) ∧ (Tab.get 0 s.dev.fuse.data (n + 1) % 128 ≠ 0) ∧ (s.dev.reissued bank = false) ∧ (s.dev.spareRun (Tab.get 0 s.dev.fuse.data (n + 1) % 128 + 1) = some t) ∧ (s.dev.fuse.job = none)) ∧
    (∃ (s : State) (_ : Fin 8) (_ : Fin 2), (s.dev.phase = .service) ∧ (s.dev.o Obj.LIFE_CYCLE ≠ 2)) ∧
    (∃ (s : State) (_ : Fin 5) (j : OtpJob), (s.dev.alive = true) ∧ (s.dev.fuse.job = some j) ∧ (j.kind = 1) ∧ (s.dev.fuseWord j.word = 0) ∧ (j.value ≠ 0)) ∧
    (∃ (s : State) (_ : Fin 5) (j : OtpJob) (t : Nat), (s.dev.alive = true) ∧ (s.dev.fuse.job = some j) ∧ (j.kind = 1) ∧ (s.dev.fuseWord j.word = 0) ∧ (j.value ≠ 0) ∧ (s.dev.fuseAddr j.word < 640) ∧ (s.dev.freeSpares.head? = some t) ∧ (s.dev.nextWord 640 128 < 768)) ∧
    (∃ (s : State) (r : Nat) (t : List Nat), (s.dev.alive = true) ∧ (s.dev.mRecords = r :: t) ∧ (s.dev.nextWord 576 64 < 640)) ∧
    (∃ (s : State) (r : Nat) (t : List Nat), (s.dev.alive = true) ∧ (s.dev.mRecords = r :: t) ∧ (640 ≤ s.dev.nextWord 576 64)) ∧
    (∃ (s : State) (b : Bytes) (m : Nat), (s.dev.phase = .service) ∧ (s.dev.o Obj.LIFE_CYCLE = 2) ∧ (b.length = 20) ∧ (crcOk b = true) ∧ (s.dev.keyRecord s.dev.bankNow = none) ∧ (s.dev.redirects = []) ∧ (s.dev.nextWord (kintBase s.dev.bankNow) 32 = m) ∧ (m + 3 ≤ kintBase s.dev.bankNow + 32) ∧ (s.dev.bankNow ≤ 1) ∧ (s.dev.fuseRaw m = 0 ∧ s.dev.fuseRaw (m + 1) = 0 ∧ s.dev.fuseRaw (m + 2) = 0)) ∧
    (∃ (s : State) (b : Bytes) (_ : List Nat), (s.dev.phase = .service) ∧ (s.dev.o Obj.LIFE_CYCLE = 2) ∧ (b.length ≠ 20)) ∧
    (∃ (s : State) (n : Fin 8) (v step role : Nat), (s.dev.phase = .service) ∧ (1 ≤ v ∧ v ≤ 5) ∧ (lcTransition (s.dev.n Obj.LC_STEP) v s.dev.isD1 = some (step, role)) ∧ (role ≤ s.dev.roleOf (n + 1)) ∧ (s.dev.lcConditions (s.dev.n Obj.LC_STEP) v = true) ∧ (s.dev.powerStopped = true) ∧ (s.dev.fuse.job = none) ∧ (s.dev.fuse.step = none) ∧ ([1, 2, 3].contains (s.dev.n Obj.IMG_STATE) = false)) ∧
    (∃ (s : State) (n : Fin 8) (v step role : Nat), (s.dev.phase = .service) ∧ (1 ≤ v ∧ v ≤ 5) ∧ (lcTransition (s.dev.n Obj.LC_STEP) v s.dev.isD1 = some (step, role)) ∧ (s.dev.roleOf (n + 1) < role)) ∧
    (∃ (s : State) (r : FuseRead), (s.dev.alive = true) ∧ (s.dev.fuse.inject = none) ∧ (r.value = some (s.dev.fuseRaw r.word))) ∧
    (∃ (s : State) (r : FuseRead), (s.dev.alive = true) ∧ (s.dev.fuse.inject = none) ∧ (r.value ≠ some (s.dev.fuseRaw r.word)) ∧ (s.dev.secretOrSecurity r.word = true)) :=
  ⟨⟨(svc [(el Obj.SESSION_ROLE 3, 2), (Obj.LIFE_CYCLE, 2), (Obj.BANK, 1)]).having (fun d => { d with fuse := { d.fuse with data := [(3, 77)] } }), 2, 260, by decide⟩,
   ⟨svc [(el Obj.SESSION_ROLE 3, 3), (Obj.LIFE_CYCLE, 2), (Obj.BANK, 1)], 2, 384, by decide⟩,
   ⟨svc.having (fun d => { d with fuse := { d.fuse with shadow := [(256, 4 * 2 ^ 60 + 2 ^ 56 + 2 ^ 40 + crc32 [5, 0, 0, 0, 0, 0, 0, 0]), (257, 5)] } }), 2, by decide⟩,
   ⟨svc, 2, by decide⟩,
   ⟨(svc [(Obj.LIFE_CYCLE, 2), (Obj.BANK, 1)]).having (fun d => { d with fuse := { d.fuse with data := [(3, 4)] } }), 2, 0, 768, by decide⟩,
   ⟨svc [(Obj.LIFE_CYCLE, 3)], 2, 0, by decide⟩,
   ⟨svc.having (fun d => { d with fuse := { d.fuse with job := some { kind := 1, word := 260, value := 9 } } }), 3, { kind := 1, word := 260, value := 9 }, by decide⟩,
   ⟨svc.having (fun d => { d with fuse := { d.fuse with job := some { kind := 1, word := 260, value := 9 } } }), 3, { kind := 1, word := 260, value := 9 }, 768, by decide⟩,
   ⟨svc.having (fun d => { d with mRecords := [mRecord 1 3 0 7], fuse := { d.fuse with array := [(576, 5)] } }), mRecord 1 3 0 7, [], by decide⟩,
   ⟨svc.having (fun d => { d with mRecords := [mRecord 1 3 0 7], fuse := { d.fuse with array := [(639, 5)] } }), mRecord 1 3 0 7, [], by decide⟩,
   ⟨svc [(Obj.LIFE_CYCLE, 2), (Obj.BANK, 1)], ([1, 2, 3, 4, 5, 6, 7, 8, 9, 10, 11, 12, 13, 14, 15, 16] ++ leBytes 4 (crc32 [1, 2, 3, 4, 5, 6, 7, 8, 9, 10, 11, 12, 13, 14, 15, 16] : Nat)), 192, by decide⟩,
   ⟨svc [(Obj.LIFE_CYCLE, 2)], [1], [], by decide⟩,
   ⟨svc [(Obj.LC_STEP, 2), (el Obj.SESSION_ROLE 3, 3)], 2, 4, 3, 3, by decide⟩,
   ⟨svc [(Obj.LC_STEP, 2), (el Obj.SESSION_ROLE 3, 2)], 2, 4, 3, 3, by decide⟩,
   ⟨svc, ⟨300, 0, 1, some 0⟩, by decide⟩,
   ⟨svc, ⟨130, 0, 1, none⟩, by decide⟩⟩

set_option maxRecDepth 8000 in
theorem witness_ImageCommands :
    (∃ (s : State) (_ : Fin 9), (s.dev.phase = .service) ∧ (s.dev.o Obj.LIFE_CYCLE ≠ 5) ∧ (s.dev.fuse.step = none) ∧ (s.dev.o Obj.IMG_STATE = 0)) ∧
    (∃ (s : State) (_ : Fin 9), (s.dev.phase = .service) ∧ (s.dev.o Obj.LIFE_CYCLE = 5)) ∧
    (∃ (s : State), (s.dev.phase = .service) ∧ (s.dev.o Obj.IMG_STATE = 1)) ∧
    (∃ (s : State) (n : Fin 9) (b : Bytes), (s.dev.phase = .service) ∧ (s.dev.o Obj.LIFE_CYCLE ≠ 5) ∧ (s.dev.fuse.step = none) ∧ (s.dev.o Obj.IMG_STATE = 2) ∧ (s.dev.update.owner = n.val) ∧ (b ≠ [] ∧ b.length ≤ 32768) ∧ (s.dev.n Obj.IMG_BLOCK_NO = s.dev.update.next) ∧ (s.dev.update.ended = false) ∧ (s.dev.update.next ≠ 0)) ∧
    (∃ (s : State) (n : Fin 9) (b : Bytes) (_ : Bool), (s.dev.phase = .service) ∧ (s.dev.o Obj.LIFE_CYCLE ≠ 5) ∧ (s.dev.fuse.step = none) ∧ (s.dev.o Obj.IMG_STATE = 2) ∧ (s.dev.update.owner = n.val) ∧ (b ≠ [] ∧ b.length ≤ 32768) ∧ (s.dev.n Obj.IMG_BLOCK_NO ≠ s.dev.update.next)) ∧
    (∃ (s : State) (n : Fin 9), (s.dev.phase = .service) ∧ (s.dev.o Obj.LIFE_CYCLE ≠ 5) ∧ (s.dev.fuse.step = none) ∧ (s.dev.o Obj.IMG_STATE = 2) ∧ (s.dev.update.owner = n.val)) ∧
    (∃ (s : State) (n : Fin 9), (s.dev.phase = .service) ∧ (s.dev.o Obj.LIFE_CYCLE ≠ 5) ∧ (s.dev.fuse.step = none) ∧ ([1, 2, 3].contains (s.dev.n Obj.IMG_STATE) = true) ∧ (s.dev.update.owner = n.val)) ∧
    (∃ (s : State), (s.dev.phase = .service)) ∧
    (∃ (s : State) (_ : Nat) (_ : Bytes), (s.dev.phase = .service)) ∧
    (∃ (s : State) (t : List Nat), (s.dev.phase = .service) ∧ (s.dev.pauses.contains 13 = false) ∧ (s.dev.flashJobs = 1 :: t)) ∧
    (∃ (s : State) (t : List Nat), (s.dev.phase = .service) ∧ (s.dev.pauses.contains 13 = false) ∧ (s.dev.flashJobs = 1 :: t)) ∧
    (∃ (s : State), (s.dev.phase = .service) ∧ (s.dev.pauses.contains 13 = false) ∧ (s.dev.flashJobs.head? ≠ some 1)) :=
  ⟨⟨svc [(Obj.ACTIVE_SLOT, 1)], 3, by decide⟩,
   ⟨svc [(Obj.LIFE_CYCLE, 5)], 3, by decide⟩,
   ⟨svc [(Obj.IMG_STATE, 1)], by decide⟩,
   ⟨(svc [(Obj.ACTIVE_SLOT, 1), (Obj.IMG_STATE, 2), (Obj.IMG_BLOCK_NO, 1)]).having (fun d => { d with update := { owner := 3, next := 1, ended := false }, slotsAB := d.slotsAB }), 3, [1, 2, 3], by decide⟩,
   ⟨(svc [(Obj.IMG_STATE, 2), (Obj.IMG_BLOCK_NO, 3)]).having (fun d => { d with update := { owner := 3, next := 1, ended := false } }), 3, [1, 2, 3], true, by decide⟩,
   ⟨(svc [(Obj.ACTIVE_SLOT, 1), (Obj.IMG_STATE, 2)]).having (fun d => { d with update := { owner := 3, next := 1, ended := true } }), 3, by decide⟩,
   ⟨(svc [(Obj.IMG_STATE, 2)]).having (fun d => { d with update := { owner := 3, next := 1, ended := false } }), 3, by decide⟩,
   ⟨svc [(Obj.ACTIVE_SLOT, 2)], by decide⟩,
   ⟨svc, 100, List.replicate 32 0, by decide⟩,
   ⟨svc.having (fun d => { d with flashJobs := [1, 2] }), [2], by decide⟩,
   ⟨svc.having (fun d => { d with flashJobs := [1, 2] }), [2], by decide⟩,
   ⟨svc.having (fun d => { d with flashJobs := [2] }), by decide⟩⟩

set_option maxRecDepth 8000 in
theorem witness_TraceAndFrames :
    (∃ (s : State), (s.dev.phase = .starting ∨ s.dev.phase = .engines ∨ s.dev.phase = .service)) ∧
    (∃ (s : State), (s.dev.alive = true) ∧ (s.dev.o Obj.TRACE_STATE = 4 ∨ (s.dev.o Obj.TRACE_STATE = 1 ∧ s.dev.o Obj.MODE_C000 = 0)) ∧ (s.dev.trace ≠ []) ∧ (s.dev.trace.length < 64 ∨ s.dev.n Obj.BAND ≤ 1) ∧ (s.dev.pauses.contains 12 = false) ∧ ((s.dev.memOf 11).words = [])) ∧
    (∃ (s : State), (s.dev.alive = true) ∧ (s.dev.o Obj.TRACE_STATE = 4) ∧ (64 ≤ s.dev.trace.length) ∧ (s.dev.o Obj.BAND = 2) ∧ (s.dev.o Obj.PAUSE_TRACE_TB2 = 100) ∧ (s.dev.pauses.contains 12 = false) ∧ ((s.dev.memOf 11).words = [])) ∧
    (∃ (s : State), (s.dev.alive = true) ∧ ((s.dev.o Obj.TRACE_STATE = 1 ∧ s.dev.o Obj.MODE_C000 = 1) ∨ s.dev.o Obj.TRACE_STATE = 2 ∨ s.dev.trace = [] ∨ s.dev.pauses.contains 12 = true)) ∧
    (∃ (s : State), (s.dev.phase = .service) ∧ (s.dev.o Obj.TRACE_STATE = 0 ∨ s.dev.o Obj.TRACE_STATE = 3)) ∧
    (∃ (s : State), (s.dev.phase = .service) ∧ (s.dev.o Obj.TRACE_STATE = 1 ∨ s.dev.o Obj.TRACE_STATE = 2 ∨ s.dev.o Obj.TRACE_STATE = 4)) ∧
    (∃ (s : State), (s.dev.phase = .service) ∧ (s.dev.o Obj.TRACE_STATE = 1 ∨ s.dev.o Obj.TRACE_STATE = 2)) ∧
    (∃ (s : State), (s.dev.phase = .service) ∧ (s.dev.o Obj.TRACE_STATE = 0 ∨ s.dev.o Obj.TRACE_STATE = 3 ∨ s.dev.o Obj.TRACE_STATE = 4)) ∧
    (∃ (s : State), (s.dev.phase = .service) ∧ (s.dev.o Obj.TRACE_STATE = 0 ∨ s.dev.o Obj.TRACE_STATE = 3)) ∧
    (∃ (s : State), (s.dev.phase = .service) ∧ (s.dev.o Obj.TRACE_STATE = 1 ∨ s.dev.o Obj.TRACE_STATE = 2)) ∧
    (∃ (s : State), (s.dev.alive = true) ∧ (s.dev.o Obj.TRACE_STATE = 2)) ∧
    (∃ (s : State), (s.dev.alive = true) ∧ (s.dev.o Obj.TRACE_STATE = 4)) ∧
    (∃ (s : State) (j : Fin 16) (r : Nat), (s.dev.alive = true) ∧ (s.dev.o (at' Obj.CH_SOURCE j) = r) ∧ (r ≠ 0) ∧ (s.dev.o Obj.TRACE_STATE = 1) ∧ (s.dev.trace.length < s.dev.traceCap)) ∧
    (∃ (s : State) (j : Fin 16), (s.dev.alive = true) ∧ (s.dev.o (at' Obj.CH_SOURCE j) = 0 ∨ s.dev.o Obj.TRACE_STATE = 4)) :=
  ⟨⟨svc [(Obj.LIFE_CYCLE, 2), (Obj.BAND, 1), (Obj.FRAMES_SENT, 4294967295)], by decide⟩,
   ⟨(svc [(Obj.TRACE_STATE, 4)]).having (fun d => { d with traceLost := 3, trace := [{ wall := 1, source := 2, poison := false, kind := 3, tag := 4, value := -5 }, { wall := 2, source := 2, poison := false, kind := 3, tag := 4, value := 6 }] }), by decide⟩,
   ⟨(svc [(Obj.TRACE_STATE, 4), (Obj.BAND, 2), (Obj.PAUSE_TRACE_TB2, 100)]).having (fun d => { d with trace := List.replicate 65 { wall := 1, source := 2, poison := false, kind := 3, tag := 4, value := -5 } }), by decide⟩,
   ⟨(svc [(Obj.TRACE_STATE, 2)]).having (fun d => { d with trace := [{ wall := 1, source := 2, poison := false, kind := 3, tag := 4, value := -5 }] }), by decide⟩,
   ⟨(svc [(Obj.TRACE_STATE, 3), (Obj.TRIGGER_NO, 3)]).having (fun d => { d with result := 5, tracePost := 7, trace := [{ wall := 1, source := 2, poison := false, kind := 3, tag := 4, value := -5 }] }), by decide⟩,
   ⟨svc [(Obj.TRACE_STATE, 4)], by decide⟩,
   ⟨svc [(Obj.TRACE_STATE, 2), (Obj.MODE_C000, 1)], by decide⟩,
   ⟨svc [(Obj.TRACE_STATE, 3)], by decide⟩,
   ⟨(svc [(Obj.TRACE_STATE, 3)]).having (fun d => { d with trace := [{ wall := 1, source := 2, poison := false, kind := 3, tag := 4, value := -5 }] }), by decide⟩,
   ⟨svc [(Obj.TRACE_STATE, 1)], by decide⟩,
   ⟨(svc [(Obj.TRACE_STATE, 2), (Obj.POST_RECORDS, 5)]).having (fun d => { d with tracePost := 5 }), by decide⟩,
   ⟨svc [(Obj.TRACE_STATE, 4)], by decide⟩,
   ⟨svc [(Obj.CH_SOURCE + 512, (Obj.VLV : Int)), (Obj.TRACE_STATE, 1), (Obj.VLV, 2400)], 2, Obj.VLV, by decide⟩,
   ⟨svc [(Obj.TRACE_STATE, 1)], 2, by decide⟩⟩

set_option maxRecDepth 8000 in
theorem witness_EventRoutes :
    (∃ (s : State) (x : Nat) (t : List Nat), (s.dev.alive = true) ∧ (s.dev.evq = x :: t) ∧ (routeOf s.dev (x % 256) = 0)) ∧
    (∃ (s : State), (s.dev.alive = true) ∧ (s.dev.evq = [])) ∧
    (∃ (s : State) (x : Nat) (t : List Nat), (s.dev.alive = true) ∧ (s.dev.evq = x :: t) ∧ (routeOf s.dev (x % 256) = 1) ∧ (s.dev.coll.log.any (fun r => r.kind == 1 && r.event == x % 256) = false)) ∧
    (∃ (s : State) (x : Nat) (t : List Nat) (r : LogRec) (l : List LogRec), (s.dev.alive = true) ∧ (s.dev.evq = x :: t) ∧ (routeOf s.dev (x % 256) = 1) ∧ (s.dev.coll.log = l ++ [r]) ∧ (r.kind = 1) ∧ (r.event = x % 256) ∧ (s.dev.wall < r.wall + 1000000)) ∧
    (∃ (s : State) (x : Nat) (t : List Nat), (s.dev.alive = true) ∧ (s.dev.evq = x :: t) ∧ (routeOf s.dev (x % 256) = 2)) ∧
    (∃ (s : State) (x : Nat) (t : List Nat), (s.dev.alive = true) ∧ (s.dev.evq = x :: t) ∧ (routeOf s.dev (x % 256) = 4) ∧ (s.dev.o Obj.TRACE_STATE = 1) ∧ (s.dev.o Obj.MODE_C000 = 1) ∧ (bitOf (s.dev.o Obj.TRIGGER_MASK) (routeArg s.dev (x % 256) / 2 ^ 20 % 8) = true)) ∧
    (∃ (s : State) (x : Nat) (t : List Nat), (s.dev.alive = true) ∧ (s.dev.evq = x :: t) ∧ (routeOf s.dev (x % 256) = 16) ∧ (s.dev.spQueue (routeArg s.dev (x % 256) / 2 ^ 16 % 4) (routeArg s.dev (x % 256) / 2 ^ 18 % 4) = [])) ∧
    (∃ (s : State) (x : Nat) (t : List Nat), (s.dev.alive = true) ∧ (s.dev.evq = x :: t) ∧ (routeOf s.dev (x % 256) = 32)) :=
  ⟨⟨(svc [(el Obj.ROUTE_HI 73, 0)]).having (fun d => { d with evq := [5 * 256 + 200, 6 * 256 + 9] }), 5 * 256 + 200, [6 * 256 + 9], by decide⟩,
   ⟨svc, by decide⟩,
   ⟨(svc [(el Obj.ROUTE_HI 73, 1)]).having (fun d => { d with evq := [5 * 256 + 200] }), 5 * 256 + 200, [], by decide⟩,
   ⟨(svc [(el Obj.ROUTE_HI 73, 1)]).having (fun d => { d with wall := 2000000, evq := [5 * 256 + 200], coll := { d.coll with log := [{ wall := 1000001, code := 0, event := 200, kind := 1, rep := 3, cls := 255 }] } }), 5 * 256 + 200, [], { wall := 1000001, code := 0, event := 200, kind := 1, rep := 3, cls := 255 }, [], by decide⟩,
   ⟨(svc [(el Obj.ROUTE 10, 2), (el Obj.ROUTE_ARG 10, 7)]).having (fun d => { d with evq := [5 * 256 + 9] }), 5 * 256 + 9, [], by decide⟩,
   ⟨(svc [(el Obj.ROUTE 10, 4), (el Obj.ROUTE_ARG 10, 5 * 2 ^ 20), (Obj.TRACE_STATE, 1), (Obj.MODE_C000, 1), (Obj.TRIGGER_MASK, 32)]).having (fun d => { d with evq := [5 * 256 + 9] }), 5 * 256 + 9, [], by decide⟩,
   ⟨(svc [(el Obj.ROUTE 10, 16), (el Obj.ROUTE_ARG 10, 0)]).having (fun d => { d with evq := [5 * 256 + 9] }), 5 * 256 + 9, [], by decide⟩,
   ⟨(svc [(el Obj.ROUTE 10, 32)]).having (fun d => { d with evq := [5 * 256 + 9] }), 5 * 256 + 9, [], by decide⟩⟩

set_option maxRecDepth 8000 in
theorem witness_RecoveryAndLockout :
    (∃ (s : State) (code : Nat) (acts : Domain), (s.dev.alive = true) ∧ (code / 512 % 8 = 1) ∧ (s.dev.coll.active.any (fun f => f.code == code && f.acts == acts && f.cause) = false) ∧ (s.dev.coll.active.any (fun f => f.code == code && f.acts == acts) = true) ∧ (neverEnds code = false)) ∧
    (∃ (s : State) (code : Nat) (acts : Domain), (s.dev.alive = true) ∧ (code / 512 % 8 = 2 ∨ code / 512 % 8 = 3) ∧ (neverEnds code = false) ∧ (s.dev.coll.active.any (fun f => f.code == code && f.acts == acts && (f.cause || f.injected)) = false) ∧ (s.dev.coll.active.any (fun f => f.code == code && f.acts == acts) = true) ∧ (s.dev.coll.exits.length < 8)) ∧
    (∃ (s : State) (code : Nat) (acts : Domain), (s.dev.alive = true) ∧ (code / 512 % 8 = 2 ∨ code / 512 % 8 = 3) ∧ (neverEnds code = false) ∧ (code < 65536) ∧ (s.dev.coll.active.any (fun f => f.code == code && f.acts == acts && (f.cause || f.injected)) = false) ∧ (s.dev.coll.active.any (fun f => f.code == code && f.acts == acts) = true) ∧ (8 ≤ s.dev.coll.exits.length)) ∧
    (∃ (s : State) (code : Nat) (acts : Domain), (s.dev.alive = true) ∧ (neverEnds code = true ∨ s.dev.coll.active.all (fun f => !(f.code == code && f.acts == acts) || f.cause) = true)) ∧
    (∃ (s : State), (s.dev.alive = true)) ∧
    (∃ (s : State), (s.dev.phase = .service) ∧ (s.dev.coll.active.any (fun f => f.code / 512 % 8 == 4 && (!f.cause || f.code == 0x6879) && f.code != 0xB8ED && f.code != 0xB8EE && f.code != 0xE8F2) = true)) ∧
    (∃ (s : State), (s.dev.phase = .service) ∧ (s.dev.coll.active.all (fun f => f.code / 512 % 8 != 4 || (f.cause && f.code != 0x6879)) = true)) ∧
    (∃ (s : State), (s.dev.alive = true) ∧ (s.dev.o Obj.SAFE_IN = 0)) ∧
    (∃ (s : State), (s.dev.phase = .inReset ∨ s.dev.phase = .starting) ∧ (s.dev.o Obj.SAFE_IN = 0)) ∧
    (∃ (s : State), (s.dev.coll.active.any (fun f => f.code == 0x0606) = true)) ∧
    (∃ (s : State) (_ : Fin 5), (s.dev.phase = .service)) ∧
    (∃ (s : State), (s.dev.phase = .service)) ∧
    (∃ (s : State), (s.dev.phase = .service) ∧ (s.dev.writes = []) ∧ (s.dev.o Obj.LIFE_CYCLE = 2 ∨ s.dev.o Obj.LIFE_CYCLE = 3 ∨ s.dev.o Obj.LIFE_CYCLE = 4) ∧ (s.dev.o Obj.TARGET_2320 = 1) ∧ (1 ≤ s.dev.o Obj.SELECT ∧ s.dev.o Obj.SELECT ≤ 11)) ∧
    (∃ (s : State), (s.dev.phase = .service) ∧ (s.dev.writes = []) ∧ (s.dev.o Obj.LIFE_CYCLE = 1 ∨ (s.dev.o Obj.TARGET_2320 = 3 ∧ s.dev.o Obj.MASTER = 1) ∨ (s.dev.o Obj.TARGET_2320 = 5 ∧ s.dev.domainState .lnk ≠ 0))) ∧
    (∃ (s : State), (s.dev.alive = true)) :=
  ⟨⟨svc.having (fun d => { d with coll := { d.coll with active := [{ code := 0x2210, acts := .trb, since := 5, cause := false, quiet := 6, injected := false }] } }), 0x2210, .trb, by decide⟩,
   ⟨svc.having (fun d => { d with coll := { d.coll with exits := [1, 2], active := [{ code := 0x3481, acts := .grd, since := 5, cause := false, quiet := 6, injected := false }] } }), 0x3481, .grd, by decide⟩,
   ⟨svc.having (fun d => { d with coll := { d.coll with exits := [1, 2, 3, 4, 5, 6, 7, 8], active := [{ code := 0x3481, acts := .grd, since := 5, cause := false, quiet := 6, injected := false }] } }), 0x3481, .grd, by decide⟩,
   ⟨svc.having (fun d => { d with coll := { d.coll with active := [{ code := 0x3481, acts := .grd, since := 5, cause := true, quiet := 6, injected := false }] } }), 0x3481, .grd, by decide⟩,
   ⟨svc.having (fun d => { d with coll := { d.coll with exits := [1, 2] } }), by decide⟩,
   ⟨svc.having (fun d => { d with coll := { d.coll with active := [{ code := 0x6879, acts := .lnk, since := 5, cause := true, quiet := 6, injected := false }] } }), by decide⟩,
   ⟨svc.having (fun d => { d with coll := { d.coll with active := [{ code := 0x3881, acts := .grd, since := 5, cause := true, quiet := 6, injected := false }] } }), by decide⟩,
   ⟨svc, by decide⟩,
   ⟨svc.having (fun d => { d with phase := .inReset }), by decide⟩,
   ⟨(svc [(Obj.SAFE_IN, 1)]).having (fun d => { d with coll := { d.coll with active := [{ code := 0x0606, acts := .sys, since := 5, cause := true, quiet := 6, injected := false }] } }), by decide⟩,
   ⟨svc, 3, by decide⟩,
   ⟨(svc [(Obj.RECOVERIES, 4)]).having (fun d => { d with coll := { d.coll with log := [{ wall := 1000001, code := 0, event := 200, kind := 1, rep := 3, cls := 255 }] } }), by decide⟩,
   ⟨svc [(Obj.LIFE_CYCLE, 3), (Obj.TARGET_2320, 1), (Obj.SELECT, 11)], by decide⟩,
   ⟨svc [(Obj.LIFE_CYCLE, 3), (Obj.TARGET_2320, 3), (Obj.MASTER, 1)], by decide⟩,
   ⟨svc [(Obj.STATE_2320, 1)], by decide⟩⟩

set_option maxRecDepth 8000 in
theorem witness_LedgerPeriods :
    (∃ (s : State) (i : LinkIn), (s.dev.alive = true) ∧ (linkQuiet s.dev i = true) ∧ (s.dev.link.opening ≠ [])) ∧
    (∃ (s : State) (i : LinkIn), (s.dev.alive = true) ∧ (linkQuiet s.dev i = true) ∧ (s.dev.link.opening = []) ∧ (s.dev.domainState .lnk < 3) ∧ (i.measured.length ≤ 5) ∧ (s.dev.n Obj.V_LOW * 10 < i.vdc) ∧ ((s.dev.request 2).1 = 0 ∧ (s.dev.request 3).1 = 0 ∧ (s.dev.request 4).1 = 0 ∧ (s.dev.request 5).1 = 0) ∧ (0 ≤ s.dev.o Obj.DCA_FLOOR ∧ 0 ≤ s.dev.o Obj.DCB_FLOOR) ∧ (s.dev.vRef.any (fun r => decide (r ≤ i.vdc)) = true) ∧ (0 ≤ s.dev.o Obj.V_DIP ∧ 0 ≤ s.dev.o Obj.STORE_CAP ∧ 0 ≤ s.dev.o Obj.C_LINK) ∧ ((List.range 5).all (fun n => decide (0 ≤ s.dev.o (Obj.GRANT_FEED + n))) = true) ∧ ((s.dev.request 1).1 ≤ s.dev.capacity.1)) ∧
    (∃ (s : State) (_ : LinkIn), (s.dev.phase = .service) ∧ (s.dev.writes = [])) ∧
    (∃ (s : State) (_ : LinkIn), (s.dev.alive = true) ∧ (s.dev.couriers = []) ∧ (s.dev.writes = [{ key := Obj.LOCKOUT_CLEAR, val := 1, block := none }])) ∧
    (∃ (s : State) (_ : Bool), (s.dev.phase = .service) ∧ (s.dev.writes = []) ∧ (s.dev.o Obj.NFAULT_POLICY = 0) ∧ (s.dev.safeState ≠ 2) ∧ (s.dev.o Obj.FUSE_DEFAULTS = 0)) ∧
    (∃ (s : State) (_ : Bool), (s.dev.phase = .service) ∧ (s.dev.writes = []) ∧ (s.dev.o Obj.NFAULT_POLICY = 1 ∨ s.dev.safeState = 2)) ∧
    (∃ (s : State), (s.dev.alive = true)) :=
  ⟨⟨(svc [(Obj.SHIFT_DOMAINS, 0)]).having (fun d => { d with link := { d.link with opening := [0] } }), { vdc := 7000, iTractor := 5, iBattery := 0, chopEnergy := 0, measured := [1, -2, 3] }, by decide⟩,
   ⟨(svc [(Obj.SHIFT_DOMAINS, 0), (Obj.ROLE_5810, 1), (Obj.STATE_5810, 2), (Obj.BRIDGE_STATE, 1)]).having (fun d => { d with feeds := [(0, { seen := true, state := 1, draw := 20000, volts := 6900 })], trac := [(0, { reqDraw := 12000 })] }), { vdc := 7000, iTractor := 5, iBattery := 0, chopEnergy := 0, measured := [11000, 0, 3] }, by decide⟩,
   ⟨svc [(Obj.NFAULT_POLICY, 1)], { vdc := 7000, iTractor := 5, iBattery := 0, chopEnergy := 0, measured := [] }, by decide⟩,
   ⟨(svc [(Obj.RECENT, 3)]).having (fun d => { d with writes := [{ key := Obj.LOCKOUT_CLEAR, val := 1, block := none }], coll := { d.coll with exits := [1, 2, 3], active := [{ code := 0x3881, acts := .grd, since := 5, cause := false, quiet := 6, injected := false }] } }), { vdc := 7000, iTractor := 5, iBattery := 0, chopEnergy := 0, measured := [] }, by decide⟩,
   ⟨svc [(Obj.NFAULT_POLICY, 0)], true, by decide⟩,
   ⟨svc [(Obj.NFAULT_POLICY, 1)], true, by decide⟩,
   ⟨svc.having (fun d => { d with nfPulse := true }), by decide⟩⟩

set_option maxRecDepth 8000 in
theorem witness_Temperatures :
    (∃ (s : State) (t u : Int), (s.dev.alive = true) ∧ ((List.range 16).all (fun n => s.dev.o (Obj.SENSOR_STATE + n) == 0) = true) ∧ ((List.range 40).all (fun n => !(bitOf (s.dev.o (Obj.STATUS_6020 + n)) 4)) = true) ∧ (noTs s.dev = true) ∧ (-190 ≤ t ∧ t < 910) ∧ (s.dev.o Obj.BAND = 1) ∧ (-1000 ≤ u ∧ u < 1300)) ∧
    (∃ (s : State) (t u : Int), (s.dev.alive = true) ∧ ((List.range 16).all (fun n => s.dev.o (Obj.SENSOR_STATE + n) == 0) = true) ∧ ((List.range 40).all (fun n => !(bitOf (s.dev.o (Obj.STATUS_6020 + n)) 4)) = true) ∧ (noTs s.dev = true) ∧ (1350 ≤ t) ∧ (s.dev.die.shut = false) ∧ (s.dev.o Obj.BAND = 1) ∧ (-1000 ≤ u ∧ u < 1300)) ∧
    (∃ (s : State) (t : Int) (drv : Vector Int 40) (n : Fin 40) (dom : Domain), (s.dev.alive = true) ∧ ((List.range 16).all (fun n => s.dev.o (Obj.SENSOR_STATE + n) == 0) = true) ∧ (noTs s.dev = true) ∧ (s.dev.die.shut = false) ∧ (bitOf (s.dev.o (Obj.STATUS_6020 + n)) 4 = false) ∧ (-190 ≤ t ∧ t < 910) ∧ (s.dev.o Obj.BAND = 1) ∧ (1400 ≤ drv[n]) ∧ (s.dev.servesDomain (17 + n) = some dom) ∧ ((s.dev.sensorOf (17 + n)).hot = false)) ∧
    (∃ (s : State) (t u _ : Int), (s.dev.alive = true) ∧ (s.dev.hnLost = []) ∧ ((List.range 8).all (fun i => s.dev.o (at' Obj.NTC_DOMAIN i) == 0) = true) ∧ ((List.range 4).all (fun n => s.dev.o (Obj.SENSOR_STATE + 62 + n) == 0) = true) ∧ (-1000 ≤ t ∧ t < 1300) ∧ (-500 ≤ u ∧ u < 1000) ∧ (s.dev.link.changed = none)) ∧
    (∃ (s : State) (t u : Int) (ntc : Vector Int 8) (i : Fin 8) (dom : Domain), (s.dev.alive = true) ∧ (s.dev.hnLost = []) ∧ ((List.range 8).all (fun j => s.dev.o (at' Obj.NTC_DOMAIN j) == if j = i.val then dom.num else 0) = true) ∧ ((List.range 4).all (fun n => s.dev.o (Obj.SENSOR_STATE + 62 + n) == 0) = true) ∧ (s.dev.o (Obj.SENSOR_STATE + 66 + i) = 0) ∧ (dom = .tra ∨ dom = .grd ∨ dom = .act) ∧ (-1000 ≤ t ∧ t < 1300) ∧ (-500 ≤ u ∧ u < 1000) ∧ (s.dev.o (at' Obj.NTC_HOT i) ≤ ntc[i] ∧ ntc[i] ≤ 2000 ∧ -500 ≤ ntc[i]) ∧ (ntc[i] < s.dev.o (at' Obj.NTC_TRIP i)) ∧ ((s.dev.sensorOf (67 + i)).hot = false) ∧ ((s.dev.sensorOf (67 + i)).trip = false) ∧ (s.dev.link.changed = none)) ∧
    (∃ (s : State) (_ : Fin 19), (s.dev.alive = true)) :=
  ⟨⟨svc ((Obj.BAND, 1) :: (List.range 9).map (fun g => (at' Obj.TS_TYPE g, 0))), 400, 600, by decide⟩,
   ⟨svc ((Obj.BAND, 1) :: (List.range 9).map (fun g => (at' Obj.TS_TYPE g, 0))), 1360, 600, by decide⟩,
   ⟨svc ((Obj.BAND, 1) :: (List.range 9).map (fun g => (at' Obj.TS_TYPE g, 0))), 400, (Vector.replicate 40 600).set 8 1420, 8, .trb, by decide⟩,
   ⟨svc, 400, 600, 500, by decide⟩,
   ⟨svc [(at' Obj.NTC_DOMAIN 3, 4), (at' Obj.NTC_HOT 3, 900), (at' Obj.NTC_TRIP 3, 1100)], 400, 600, (Vector.replicate 8 500).set 3 950, 3, .grd, by decide⟩,
   ⟨svc.having (fun d => { d with pauses := [12, 3] }), 12, by decide⟩⟩

set_option maxRecDepth 8000 in
theorem witness_SupplyAndKey :
    (∃ (s : State) (_ : Nat), (s.dev.phase = .off)) ∧
    (∃ (s : State) (_ : Nat), (s.dev.phase = .inReset) ∧ (s.dev.power.held = true) ∧ (s.dev.o Obj.KEY_ON = 0) ∧ (s.dev.power.awake = true)) ∧
    (∃ (s : State) (_ : Nat), (s.dev.phase ≠ .off) ∧ (s.dev.phase ≠ .inReset) ∧ (countsOk s.dev = true)) ∧
    (∃ (s : State) (_ : Nat), (s.dev.phase ≠ .off) ∧ (countsOk s.dev = true)) ∧
    (∃ (s : State) (v : Nat), (s.dev.alive = true) ∧ (v < 1800)) ∧
    (∃ (s : State) (v : Nat), (s.dev.alive = true) ∧ (3200 < v)) ∧
    (∃ (s : State) (_ : Nat), (s.dev.alive = true)) ∧
    (∃ (_ : State) (v : Nat), (1800 ≤ v ∧ v < 3400)) ∧
    (∃ (s : State), (s.dev.phase = .asleep) ∧ (countsOk s.dev = true)) ∧
    (∃ (s : State), (s.dev.phase ≠ .asleep) ∧ (1 ≤ s.dev.o Obj.SHUTDOWN_STATE ∧ s.dev.o Obj.SHUTDOWN_STATE ≤ 3)) ∧
    (∃ (s : State), (s.dev.phase = .service) ∧ (s.dev.o Obj.SHUTDOWN_STATE = 0)) ∧
    (∃ (s : State), (s.dev.phase = .starting) ∧ (s.dev.power.after = 0)) ∧
    (∃ (s : State), (s.dev.phase = .inReset) ∧ (s.dev.power.held = false)) :=
  ⟨⟨svc.having (fun d => { d with phase := .off, nfLevel := true }), 1710, by decide⟩,
   ⟨svc.having (fun d => { d with phase := .inReset, power := { d.power with held := true } }), 1710, by decide⟩,
   ⟨(svc [(Obj.KEYOFF_DELAY, 5)]).having (fun d => { d with wall := 77, poison := [5], coll := { d.coll with active := [{ code := 0x3481, acts := .grd, since := 5, cause := true, quiet := 6, injected := false }] } }), 1630, by decide⟩,
   ⟨(svc [(Obj.BRIDGE_STATE, 3)]).having (fun d => { d with coll := { d.coll with active := [{ code := 0x3481, acts := .grd, since := 5, cause := true, quiet := 6, injected := false }] } }), 1200, by decide⟩,
   ⟨svc, 1790, by decide⟩,
   ⟨svc, 3300, by decide⟩,
   ⟨svc, 3610, by decide⟩,
   ⟨svc.having (fun d => { d with coll := { d.coll with active := [{ code := 0x0712, acts := .sys, since := 5, cause := true, quiet := 6, injected := false }] } }), 2400, by decide⟩,
   ⟨svc.having (fun d => { d with phase := .asleep }), by decide⟩,
   ⟨svc [(Obj.SHUTDOWN_STATE, 2)], by decide⟩,
   ⟨svc [(Obj.KEY_ON, 1)], by decide⟩,
   ⟨(svc [(Obj.KEY_ON, 1)]).having (fun d => { d with phase := .starting }), by decide⟩,
   ⟨svc.having (fun d => { d with phase := .inReset }), by decide⟩⟩

set_option maxRecDepth 8000 in
theorem witness_StartAndService :
    (∃ (s : State) (x : StartIn), (s.dev.phase = .starting) ∧ (s.dev.coll.active = []) ∧ (s.dev.coll.held = []) ∧ (s.dev.o Obj.SAFE_IN = 0) ∧ (s.dev.power.cause = 3 ∨ s.dev.power.cause = 6) ∧ (s.dev.power.gap = none) ∧ (s.dev.power.low = false) ∧ (s.dev.power.tooHigh = false) ∧ (s.dev.fuse = {}) ∧ (s.dev.slotsAB = State.reset.dev.slotsAB) ∧ (x.bad = []) ∧ (s.dev.kept.recipe = []) ∧ (x.reads = []) ∧ (x.failing = []) ∧ (x.imuOk = true) ∧ (x.ppm = 100)) ∧
    (∃ (s : State) (v : Int), (s.dev.phase = .engines) ∧ (s.dev.dead.contains 2 = false) ∧ (s.dev.power.after = 0) ∧ (s.dev.kept.recipe = [(Obj.KEYOFF_DELAY, v)]) ∧ (s.dev.kept.blocks = []) ∧ (s.dev.fuse.ceilings = [])) ∧
    (∃ (s : State), (s.dev.phase = .service) ∧ (s.dev.power.ready = false) ∧ (s.dev.power.low = false) ∧ (s.dev.serviceLevel = 2)) ∧
    (∃ (s : State) (j : Nat), (s.dev.phase = .service) ∧ (s.dev.writes = []) ∧ (storedKey j = true) ∧ (s.dev.sessionMap j = false) ∧ ((findDef j).any (fun r => r.ty != .domain) = true)) ∧
    (∃ (s : State) (j : Nat), (s.dev.phase = .service) ∧ (storedKey j = false)) ∧
    (∃ (s : State) (n : Fin 6), (s.dev.alive = true) ∧ (bitOf (s.dev.o Obj.SUPPLY_ENABLE) n = true) ∧ (s.dev.limited.contains n.val = false)) ∧
    (∃ (s : State) (n : Fin 6), (s.dev.alive = true) ∧ (bitOf (s.dev.o Obj.SUPPLY_ENABLE) n = true)) :=
  ⟨⟨svc.having (fun d => { d with phase := .starting, fuse := {}, power := { d.power with cause := 3 } }), { die := [300, 310], reads := [], bad := [], failing := [], imuOk := true, xp := none, ppm := 100 }, by decide⟩,
   ⟨svc.having (fun d => { d with phase := .engines, kept := { d.kept with recipe := [(Obj.KEYOFF_DELAY, 2000)] } }), 2000, by decide⟩,
   ⟨(svc [(Obj.VLV, 2400)]).having (fun d => { d with wall := 105000000 }), by decide⟩,
   ⟨svc [(Obj.KEYOFF_DELAY, 2000)], Obj.KEYOFF_DELAY, by decide⟩,
   ⟨svc, Obj.SHUTDOWN_STATE, by decide⟩,
   ⟨svc [(Obj.SUPPLY_ENABLE, 63)], 2, by decide⟩,
   ⟨(svc [(Obj.SUPPLY_ENABLE, 63), (Obj.SUPPLY_STATE, 4)]).having (fun d => { d with limited := [2] }), 2, by decide⟩⟩

set_option maxRecDepth 8000 in
theorem witness_ShutdownAndResets :
    (∃ (s : State), (s.dev.alive = true) ∧ (s.dev.o Obj.SHUTDOWN_STATE = 1) ∧ (s.dev.o Obj.PARK_AT_OFF = 0) ∧ (s.dev.o Obj.CHARGE_HOLD = 0)) ∧
    (∃ (s : State), (s.dev.alive = true) ∧ (s.dev.o Obj.SHUTDOWN_STATE ≠ 1)) ∧
    (∃ (s : State), (s.dev.alive = true) ∧ (s.dev.o Obj.SHUTDOWN_STATE = 2) ∧ (s.dev.atRest = true)) ∧
    (∃ (s : State), (s.dev.alive = true) ∧ (s.dev.o Obj.SHUTDOWN_STATE = 3) ∧ (s.dev.o Obj.JOB_STATE = 0)) ∧
    (∃ (s : State), (s.dev.alive = true) ∧ (s.dev.o Obj.SHUTDOWN_STATE = 4) ∧ (s.dev.o Obj.BRIDGE_STATE = 0) ∧ (s.dev.o (tk .B Obj.BRIDGE_STATE) = 0) ∧ ((List.range 8).all (fun n => s.dev.o (Obj.SESSION_STATE + n) == 0) = true) ∧ (s.dev.power.keyAgain = false)) ∧
    (∃ (s : State), (s.dev.alive = true) ∧ (s.dev.o Obj.SHUTDOWN_STATE = 4) ∧ (s.dev.o Obj.BRIDGE_STATE = 0) ∧ (s.dev.o (tk .B Obj.BRIDGE_STATE) = 0) ∧ (s.dev.power.keyAgain = true) ∧ (s.dev.kept.counts = [])) ∧
    (∃ (s : State), (s.dev.alive = true) ∧ (s.dev.o Obj.SHUTDOWN_STATE ≠ 4 ∨ s.dev.o Obj.BRIDGE_STATE = 3 ∨ s.dev.o Obj.BRIDGE_STATE = 4)) ∧
    (∃ (s : State), (s.dev.alive = true) ∧ (2 ≤ s.dev.o Obj.SHUTDOWN_STATE)) ∧
    (∃ (s : State), (s.dev.phase = .service) ∧ (s.dev.powerStopped = true)) ∧
    (∃ (s : State), (s.dev.phase = .service) ∧ (s.dev.powerStopped = false)) ∧
    (∃ (s : State), (s.dev.alive = true) ∧ (s.dev.resetPending = true) ∧ (countsOk s.dev = true)) ∧
    (∃ (s : State), (s.dev.resetPending = false)) ∧
    (∃ (s : State) (step : Nat), (s.dev.alive = true) ∧ (s.dev.fuse.step = some step) ∧ (1 ≤ step ∧ step ≤ 8) ∧ (s.dev.fuseAddr (511 + step) = 511 + step) ∧ (s.dev.fuseWord (511 + step) = 0) ∧ (countsOk s.dev = true)) ∧
    (∃ (s : State) (_ : List Nat), (s.dev.alive = true) ∧ (s.dev.fuse.step = none)) :=
  ⟨⟨svc [(Obj.SHUTDOWN_STATE, 1), (Obj.PARK_AT_OFF, 0), (Obj.CHARGE_HOLD, 0)], by decide⟩,
   ⟨svc, by decide⟩,
   ⟨svc [(Obj.SHUTDOWN_STATE, 2)], by decide⟩,
   ⟨(svc [(Obj.SHUTDOWN_STATE, 3), (Obj.E_IMPORT, 77)]).having (fun d => { d with coll := { d.coll with log := [{ wall := 1000001, code := 0, event := 200, kind := 1, rep := 3, cls := 255 }] } }), by decide⟩,
   ⟨svc [(Obj.SHUTDOWN_STATE, 4), (Obj.STATE_5810, 2)], by decide⟩,
   ⟨(svc [(Obj.SHUTDOWN_STATE, 4)]).having (fun d => { d with power := { d.power with keyAgain := true } }), by decide⟩,
   ⟨svc [(Obj.SHUTDOWN_STATE, 4), (Obj.BRIDGE_STATE, 3)], by decide⟩,
   ⟨svc [(Obj.SHUTDOWN_STATE, 2), (Obj.MASTER, 1)], by decide⟩,
   ⟨svc, by decide⟩,
   ⟨svc.having (fun d => { d with coll := { d.coll with active := [{ code := 0x3481, acts := .grd, since := 5, cause := true, quiet := 6, injected := false }] } }), by decide⟩,
   ⟨svc.having (fun d => { d with resetPending := true }), by decide⟩,
   ⟨svc, by decide⟩,
   ⟨svc.having (fun d => { d with fuse := { d.fuse with step := some 3 } }), 3, by decide⟩,
   ⟨svc, [], by decide⟩⟩

set_option maxRecDepth 8000 in
theorem witness_HostReadsApart :
    (∃ (s : State) (_ : Nat), (s.dev.phase = .service) ∧ (s.dev.portOff .hsp = false) ∧ (s.dev.o Obj.HSP_MODE = 0) ∧ (s.dev.hsp.ready = true) ∧ (s.dev.hsp.ptr ≤ (s.dev.hsp.buf.length + 3) / 4)) ∧
    (∃ (s : State) (_ : Nat), (s.dev.phase = .service) ∧ (s.dev.portOff .hsp = false) ∧ (s.dev.o Obj.HSP_MODE = 0) ∧ (s.dev.hsp.ready = false)) ∧
    (∃ (s : State) (_ : Nat), (s.dev.phase = .service)) ∧
    (∃ (s : State) (_ : Nat), (s.dev.phase = .service)) ∧
    (∃ (s : State) (_ : Bytes), (s.dev.phase = .service)) ∧
    (∃ (s : State) (_ : Nat), (s.dev.phase = .service)) :=
  ⟨⟨svc.having (fun d => { d with hsp := { d.hsp with ready := true, buf := [0, 0, 0, 0, 1, 2, 3, 4], ptr := 1 } }), 3, by decide⟩,
   ⟨svc, 2, by decide⟩,
   ⟨svc, 2, by decide⟩,
   ⟨svc, 2, by decide⟩,
   ⟨svc, [1, 2], by decide⟩,
   ⟨svc, 2, by decide⟩⟩

set_option maxRecDepth 8000 in
theorem witness_FieldRefusedOnD1 :
    ∃ (s : State) (_ : Fin 8), (s.dev.phase = .service) ∧ (s.dev.block Obj.ORDERING_CODE = codeD1) :=
  ⟨(svc [(Obj.LC_STEP, 1), (Obj.LIFE_CYCLE, 2), (el Obj.SESSION_ROLE 3, 3)]).having (fun d => { d with blk := [(Obj.ORDERING_CODE, codeD1)] }), 2, by decide⟩

set_option maxRecDepth 8000 in
theorem witness_UnauthenticatedNeverWrites :
    (∃ (s : State) (path : Path) (_ _ _ _ : Nat) (_ _ : Bytes) (_ : UnitIn), (s.dev.phase = .service) ∧ (s.dev.portOff path = false) ∧ (s.dev.o Obj.FUSE_DEFAULTS = 0)) ∧
    (∃ (s : State) (path : Path) (_ _ _ _ _ : Nat) (_ : Bool) (_ _ : Bytes) (_ : UnitIn), (s.dev.phase = .service) ∧ (s.dev.portOff path = false) ∧ (s.dev.o Obj.FUSE_DEFAULTS = 0)) :=
  ⟨⟨svc, .eth, 7, 1, 0x4210, 1, [0x90, 0x5F, 1, 0], [], noInput, by decide⟩,
   ⟨svc, .eth, 7, 1, 0xC001, 0, 0, true, [1], [], noInput, by decide⟩⟩

set_option maxRecDepth 8000 in
theorem witness_SafeStateStopsEveryDomain :
    ∃ (s : State), (s.dev.alive = true) ∧ (s.dev.o Obj.SAFE_IN = 0) ∧ (s.dev.coll.active.any (fun f => f.code == 0x0606 && f.acts == .sys) = false) :=
  ⟨svc [(Obj.MASTER, 1), (Obj.BRIDGE_STATE, 1), (Obj.ROW_STATE, 1), (Obj.RUN_7100, 1)], by decide⟩

end Sys2Proof.Tests
end

section
/-! The refusal of FIELD on an SHE960-D1 (R10). -/

namespace Sys2Proof.Machine

/-- What a command that only answers a result code leaves: nothing but the result and the status objects changes. -/
theorem Dev.settle_res_frame (d : Dev) (code : Nat) :
    ({ d with result := (d.res code).settle.result } : Dev).ShowsOnly (d.res code).settle ∧
      OnlyObjects (fun _ => false) d (d.res code).settle := by
  have hr : (d.res code).settle.result = code := by simp
  constructor
  · rw [hr]
    exact Dev.shows_settle (d.res code)
  · exact ((OnlyObjects.refl d).of_obj (d.res_obj code)).settle

/-- The ordering code decides whether the E960 is an SHE960-D1. -/
theorem Dev.isD1_iff (d : Dev) : d.isD1 = true ↔ d.block Obj.ORDERING_CODE = codeD1 := beq_iff_eq

/-- From no step does an SHE960-D1 have a transition to FIELD. -/
theorem lcTransition_field_of_d1 (step : Nat) : lcTransition step 3 true = none :=
  match step with
  | 0 | 1 | 2 | 3 | 4 | 5 | _ + 6 => rfl

/-- A target that the present step has no transition to is answered LIFECYCLE (R493). -/
theorem Dev.lcCtrl_of_no_transition {d : Dev} {v : Int} (n : Nat) (hv : 1 ≤ v ∧ v ≤ 5)
    (ht : lcTransition (d.n Obj.LC_STEP) v.toNat d.isD1 = none) : d.lcCtrl n v = d.res 0x20000004 := by
  unfold Dev.lcCtrl
  simp only [ht]
  exact if_neg (by omega)

/-- On an SHE960-D1 a request to enter FIELD is answered LIFECYCLE. -/
theorem Dev.lcCtrl_field_of_d1 {d : Dev} (n : Nat) (hd : d.isD1 = true) : d.lcCtrl n 3 = d.res 0x20000004 :=
  Dev.lcCtrl_of_no_transition n (by decide) (by rw [hd]; exact lcTransition_field_of_d1 _)

/-- Settles O58: an SHE960-D1 has no transition to FIELD, so the request is answered LIFECYCLE and nothing else happens (R10, R493). -/
theorem fieldRefusedOnD1 : Obligations.FieldRefusedOnD1 := by
  intro s n hphase hcode
  have hrefused : s.dev.lcCtrl (n.val + 1) 3 = s.dev.res 0x20000004 := Dev.lcCtrl_field_of_d1 _ (s.dev.isD1_iff.mpr hcode)
  refine completes_serve (f := fun d => d.lcCtrl (n.val + 1) 3) rfl hphase ?_
  simp only [hrefused]
  exact ⟨by simp, by simp, Dev.o_settle _ (by decide), Dev.o_settle _ (by decide), s.dev.settle_res_frame _⟩

end Sys2Proof.Machine
end

section
/-! The direct-read buffer of the host SPI port and its unit buffers (R438, R439). -/

namespace Sys2Proof.Machine

/-! ### Words on HSP_MISO -/

@[simp] theorem leBytes_length (n : Nat) (x : Int) : (leBytes n x).length = n := by
  induction n generalizing x with
  | zero => rfl
  | succ n ih => simp [leBytes, ih]

@[simp] theorem Dev.hspWord_length (d : Dev) : d.hspWord.length = 4 := by simp [Dev.hspWord]

@[simp] theorem padWords_length (n : Nat) (b : Bytes) : (padWords n b).length = 4 * n := by
  simp only [padWords, List.length_append, List.length_take, List.length_replicate]
  omega

/-- Padded words read byte for byte as the bytes they are taken from, and as zeros past their end. -/
theorem padWords_getD (b : Bytes) {n i : Nat} (hi : i < 4 * n) : (padWords n b).getD i 0 = b.getD i 0 := by
  by_cases hb : i < b.length
  · have htake : i < (b.take (4 * n)).length := by rw [List.length_take]; omega
    rw [padWords, List.getD_append _ _ _ _ htake]
    simp [List.getD_eq_getElem?_getD, hi]
  · have htake : (b.take (4 * n)).length ≤ i := by rw [List.length_take]; omega
    rw [padWords, List.getD_append_right _ _ _ _ htake, List.getD_eq_default b 0 (by omega)]
    exact List.getElem?_getD_replicate_default_eq ..

/-! ### The two pairs of buffers -/

/-- Port `h` holds the request, the REQ_FREE and the responses of port `g`. -/
def Hsp.SameUnits (g h : Hsp) : Prop := h.req = g.req ∧ h.free = g.free ∧ h.resp = g.resp

/-- Port `h` holds the direct-read buffer of port `g`, with its pointer, RD_READY and the reference that waits. -/
def Hsp.SameRead (g h : Hsp) : Prop := h.buf = g.buf ∧ h.ptr = g.ptr ∧ h.ready = g.ready ∧ h.want = g.want

theorem Dev.readDataDone_sameUnits (d : Dev) (n : Nat) : d.hsp.SameUnits (d.readDataDone n).hsp := by
  simp only [Hsp.SameUnits, Dev.readDataDone, Dev.updHsp]
  split
  · exact ⟨rfl, rfl, rfl⟩
  · split <;> exact ⟨rfl, rfl, rfl⟩

theorem Dev.hspWriteUnit_sameRead (d : Dev) (b : Bytes) : d.hsp.SameRead (d.hspWriteUnit b).hsp := by
  unfold Dev.hspWriteUnit
  split <;> exact ⟨rfl, rfl, rfl, rfl⟩

theorem Dev.hspConsume_sameRead (d : Dev) : d.hsp.SameRead d.hspConsume.hsp := by
  unfold Dev.hspConsume
  split <;> exact ⟨rfl, rfl, rfl, rfl⟩

theorem Dev.hspReadUnit_sameRead (d : Dev) (n : Nat) : d.hsp.SameRead (d.hspReadUnit n).hsp := by
  unfold Dev.hspReadUnit Dev.when
  split
  · exact Dev.hspConsume_sameRead (d.hspOut (padWords n (d.hsp.resp.headD [])))
  · exact ⟨rfl, rfl, rfl, rfl⟩

/-! ### READ_DATA -/

/-- With RD_READY 1 the pointer advances as far as the last value; a read past it sets END and clears RD_READY (R438). -/
theorem Dev.readDataDone_hsp_of_ready {d : Dev} (n : Nat) (hr : d.hsp.ready = true) (hp : d.hsp.ptr ≤ wordsOf d.hsp.buf.length) :
    (d.readDataDone n).hsp = { d.hsp with
      ptr := min (d.hsp.ptr + n) (wordsOf d.hsp.buf.length)
      ready := decide (d.hsp.ptr + n ≤ wordsOf d.hsp.buf.length)
      end_ := d.hsp.end_ || decide (wordsOf d.hsp.buf.length < d.hsp.ptr + n) } := by
  simp only [Dev.readDataDone, Dev.updHsp, hr, Bool.not_true, Bool.false_eq_true, if_false]
  by_cases hpast : wordsOf d.hsp.buf.length < d.hsp.ptr + n
  · have hleft : wordsOf d.hsp.buf.length - d.hsp.ptr < n := by omega
    have hptr : d.hsp.ptr + (wordsOf d.hsp.buf.length - d.hsp.ptr) = wordsOf d.hsp.buf.length := by omega
    simp [hleft, hptr, hpast, Nat.min_eq_right (Nat.le_of_lt hpast)]
  · have hwithin : d.hsp.ptr + n ≤ wordsOf d.hsp.buf.length := by omega
    have hleft : ¬ wordsOf d.hsp.buf.length - d.hsp.ptr < n := by omega
    simp [hleft, hpast, hwithin]

/-- With RD_READY 0 a READ_DATA sets END and nothing else (R438). -/
theorem Dev.readDataDone_hsp_of_not_ready {d : Dev} (n : Nat) (hr : d.hsp.ready = false) :
    (d.readDataDone n).hsp = { d.hsp with end_ := true } := by
  simp [Dev.readDataDone, Dev.updHsp, hr]

/-- The port after a READ_DATA with RD_READY 1: the next `n` words of the buffer are out. -/
theorem Dev.hspReadData_hsp_of_ready {d : Dev} (n : Nat) (hr : d.hsp.ready = true) (hp : d.hsp.ptr ≤ wordsOf d.hsp.buf.length) :
    (d.hspReadData n).hsp = { d.hsp with
      ptr := min (d.hsp.ptr + n) (wordsOf d.hsp.buf.length)
      ready := decide (d.hsp.ptr + n ≤ wordsOf d.hsp.buf.length)
      end_ := decide (wordsOf d.hsp.buf.length < d.hsp.ptr + n)
      poison := false
      aborted := false
      out := d.hspWord ++ padWords n (d.hsp.buf.drop (4 * d.hsp.ptr)) } := by
  have hwords : d.readDataWords n = padWords n (d.hsp.buf.drop (4 * d.hsp.ptr)) := if_pos hr
  rw [← hwords]
  exact Dev.readDataDone_hsp_of_ready (d := d.hspOut (d.readDataWords n)) n hr hp

/-- The port after a READ_DATA with RD_READY 0: zeros are out. -/
theorem Dev.hspReadData_hsp_of_not_ready {d : Dev} (n : Nat) (hr : d.hsp.ready = false) :
    (d.hspReadData n).hsp = { d.hsp with end_ := true, poison := false, aborted := false, out := d.hspWord ++ zeroWords n } := by
  have hwords : d.readDataWords n = zeroWords n := if_neg (by simp [hr])
  rw [← hwords]
  exact Dev.readDataDone_hsp_of_not_ready (d := d.hspOut (d.readDataWords n)) n hr

/-! ### What the commands of the port leave of the E960 -/

/-- Where an operation changed the port alone, nothing but the port and the status objects changes. -/
theorem Dev.settle_hsp_frame (d : Dev) (h : Hsp) :
    ({ d with hsp := ({ d with hsp := h } : Dev).settle.hsp } : Dev).ShowsOnly ({ d with hsp := h } : Dev).settle ∧
      OnlyObjects (fun _ => false) d ({ d with hsp := h } : Dev).settle := by
  constructor
  · rw [Dev.settle_hsp]
    exact Dev.shows_settle _
  · exact ((OnlyObjects.refl d).of_obj (e := { d with hsp := h }) rfl).settle

/-- A READ_DATA changes the port alone. -/
theorem Dev.hspReadData_frame (d : Dev) (n : Nat) :
    ({ d with hsp := (d.hspReadData n).settle.hsp } : Dev).ShowsOnly (d.hspReadData n).settle ∧
      OnlyObjects (fun _ => false) d (d.hspReadData n).settle :=
  d.settle_hsp_frame (d.hspReadData n).hsp

/-- A command of single-slave mode has its effect, or changes nothing of the port but the bytes on HSP_MISO (R433, R434, R484). -/
theorem completes_hspSingle_keeps {c : Instr} {s : State} {n : Nat} {f : Dev → Dev} {p : Hsp → Prop} (h : exec c s = s.hspSingle n f)
    (heffect : p (f s.dev).hsp) (hout : ∀ b, p { s.dev.hsp with out := b }) : Completes c s (fun e => p e.hsp) := by
  have hrun : exec c s = s.run (fun d => if d.phase == .service && !(d.portOff .hsp) then d.when (s.dev.o Obj.HSP_MODE == 0) f
      else d.updHsp (fun h => { h with out := zeroWords n })) := h
  refine completes_run hrun ?_
  rw [Dev.settle_hsp]
  split
  · cases s.dev.o Obj.HSP_MODE == 0
    case false => exact hout s.dev.hsp.out
    case true => exact heffect
  · exact hout (zeroWords n)

/-- Settles O57: a READ_DATA puts out the buffer from the pointer on, padded with zeros, and each operation of the port changes the
buffers of its own pair alone (R438, R439). -/
theorem hostReadsApart : Obligations.HostReadsApart := by
  refine ⟨?ready, ?notReady, ?readData, ?directRead, ?writeUnit, ?readUnit, ?inOrder⟩
  case ready =>
    intro s n hphase hport hmode hr hp
    refine completes_hspSingle (f := fun d => d.hspReadData n) rfl hphase hport hmode ?_
    have hsp := Dev.hspReadData_hsp_of_ready n hr hp
    have hbytes (i : Nat) (hi : i ∈ List.range (4 * n)) :
        ((s.dev.hspReadData n).hsp.out.drop 4).getD i 0 = s.dev.hsp.buf.getD (4 * s.dev.hsp.ptr + i) 0 := by
      rw [hsp, List.drop_left' s.dev.hspWord_length, padWords_getD _ (List.mem_range.mp hi)]
      simp [List.getD_eq_getElem?_getD]
    obtain ⟨hshows, hobjects⟩ := s.dev.hspReadData_frame n
    refine ⟨by simpa using hbytes, by simp [hsp], by simp [hsp, wordsOf], by simp [hsp], ?_, ?_, hshows, hobjects⟩
    all_goals
      simp only [Dev.settle_hsp, hsp]
      exact decide_eq_true_iff
  case notReady =>
    intro s n hphase hport hmode hr
    refine completes_hspSingle (f := fun d => d.hspReadData n) rfl hphase hport hmode ?_
    have hsp := Dev.hspReadData_hsp_of_not_ready n hr
    have hzeros : (s.dev.hspReadData n).hsp.out.drop 4 = List.replicate (4 * n) 0 := by
      rw [hsp]
      exact List.drop_left' s.dev.hspWord_length
    obtain ⟨hshows, hobjects⟩ := s.dev.hspReadData_frame n
    refine ⟨by simpa using hzeros, ?_, ?_, ?_, ?_, hshows, hobjects⟩
    all_goals simp [hsp, hr]
  case readData =>
    intro s n _
    exact completes_hspSingle_keeps (p := s.dev.hsp.SameUnits) (f := fun d => d.hspReadData n) rfl
      ((s.dev.hspOut (s.dev.readDataWords n)).readDataDone_sameUnits n) (fun _ => ⟨rfl, rfl, rfl⟩)
  case directRead =>
    intro s ref _
    exact completes_hspSingle_keeps (p := s.dev.hsp.SameUnits) (f := fun d => (d.hspOut []).hspDirect ref) rfl
      ⟨rfl, rfl, rfl⟩ (fun _ => ⟨rfl, rfl, rfl⟩)
  case writeUnit =>
    intro s b _
    exact completes_hspSingle_keeps (p := s.dev.hsp.SameRead)
      (f := fun d => (d.hspOut (zeroWords (wordsOf b.length))).hspWriteUnit b) rfl
      ((s.dev.hspOut (zeroWords (wordsOf b.length))).hspWriteUnit_sameRead b) (fun _ => ⟨rfl, rfl, rfl, rfl⟩)
  case readUnit =>
    intro s n _
    exact completes_hspSingle_keeps (p := s.dev.hsp.SameRead) (f := fun d => d.hspReadUnit n) rfl
      (s.dev.hspReadUnit_sameRead n) (fun _ => ⟨rfl, rfl, rfl, rfl⟩)
  case inOrder =>
    intro s c rest hpending
    simp only [step, hpending]

end Sys2Proof.Machine
end

section
/-! The state right after reset: the defaults of the dictionary that it reads, the routes of the events (R506), and the status objects while
no fault is in force. -/

namespace Sys2Proof.Machine

/-! ### Objects after reset -/

/-- Right after reset every object but RESETS and PIN reads as its default (log entry 12). -/
theorem State.reset_o {k : Nat} (hresets : k ≠ Obj.RESETS) (hpin : k ≠ Obj.PIN) : State.reset.dev.o k = dflt k :=
  (if_neg hresets.symm).trans (if_neg hpin.symm)

/-- Below index 6000 an object that the list of exceptions does not hold has the default of its row. -/
theorem dflt_of_findDef {k : Nat} {r : ObjDef} (hlist : ∀ x ∈ Dict.defaultExceptions, x.1 ≠ k) (hk : keyIdx k < 0x6000)
    (hrow : findDef k = some r) : dflt k = r.dflt := by
  have hnone : Dict.defaultExceptions.find? (fun x => x.1 = k) = none := by simpa using hlist
  have h6000 : keyIdx k ≠ 0x6000 := by omega
  have h6001 : keyIdx k ≠ 0x6001 := by omega
  have h9100 : keyIdx k ≠ 0x9100 := by omega
  have hA000 : keyIdx k ≠ 0xA000 := by omega
  have hF0 : keyIdx k / 256 ≠ 0xF0 := by omega
  simp [dflt, hnone, hrow, h6000, h6001, h9100, hA000, hF0]

/-! ### The routes of the events -/

/-- The object that holds the route of event `e`. -/
def routeKey (e : Nat) : Nat := if e < 128 then el Obj.ROUTE (e + 1) else el Obj.ROUTE_HI (e - 127)

theorem routeOf_eq_o_routeKey (d : Dev) (e : Nat) : routeOf d e = d.o (routeKey e) := (apply_ite d.o _ _ _).symm

/-- The routes fill the subindices 1 to 128 of the indices 2100 and 2101. -/
theorem routeKey_eq {e : Nat} (he : e < 256) : routeKey e = 256 * (0x2100 + e / 128) + (e % 128 + 1) := by
  unfold routeKey el
  split <;> simp only [Obj.ROUTE, Obj.ROUTE_HI] <;> omega

theorem keyIdx_routeKey {e : Nat} (he : e < 256) : keyIdx (routeKey e) = 0x2100 + e / 128 := by
  rw [routeKey_eq he, keyIdx]
  omega

theorem keySub_routeKey {e : Nat} (he : e < 256) : keySub (routeKey e) = e % 128 + 1 := by
  rw [routeKey_eq he, keySub]
  omega

theorem routeKey_inj {e e' : Nat} (he : e < 256) (he' : e' < 256) (h : routeKey e = routeKey e') : e = e' := by
  rw [routeKey_eq he, routeKey_eq he'] at h
  omega

/-- The row of a route has the default 1: bit 0, the fault log. -/
theorem findDef_routeKey {e : Nat} (he : e < 256) : ∃ r, findDef (routeKey e) = some r ∧ r.dflt = 1 := by
  have hpage : routeKey e / 65536 = 0x21 := by rw [routeKey_eq he]; omega
  have hsub : e % 128 + 1 < 129 := by omega
  rw [findDef, hpage, keyIdx_routeKey he, keySub_routeKey he]
  obtain hlo | hhi : e / 128 = 0 ∨ e / 128 = 1 := by omega
  · rw [hlo]
    exact ⟨_, List.find?_cons_of_pos (by simp [defCovers, hsub]), rfl⟩
  · rw [hhi]
    exact ⟨_, (List.find?_cons_of_neg (by simp [defCovers])).trans (List.find?_cons_of_pos (by simp [defCovers, hsub])), rfl⟩

/-- The default route of event `e` (R506). -/
def defaultRoute (e : Nat) : Int := if 0xF8 ≤ e then 0 else if e ∈ [0x00, 0x01, 0x04, 0x05, 0x10, 0x84] then 0x21 else 0x01

/-- The events whose default is not the row's: six that also pulse nFAULT, and 0xF8 to 0xFF, which are routed nowhere (R506). -/
def routeExceptions : List Nat := [0x00, 0x01, 0x04, 0x05, 0x10, 0x84, 0xF8, 0xF9, 0xFA, 0xFB, 0xFC, 0xFD, 0xFE, 0xFF]

theorem routeExceptions_lt : ∀ e ∈ routeExceptions, e < 256 := by decide

/-- Of the indices 2100 and 2101 the list of exceptions holds the routes of these events and no other object. -/
theorem routes_of_defaultExceptions :
    ∀ x ∈ Dict.defaultExceptions, keyIdx x.1 = 0x2100 ∨ keyIdx x.1 = 0x2101 → ∃ e ∈ routeExceptions, x.1 = routeKey e := by decide

theorem dflt_routeKey_of_exception : ∀ e ∈ routeExceptions, dflt (routeKey e) = defaultRoute e := by decide

/-- Every other event has the default of its row. -/
theorem dflt_routeKey_of_not_exception {e : Nat} (he : e < 256) (hx : e ∉ routeExceptions) : dflt (routeKey e) = 1 := by
  obtain ⟨r, hrow, hr⟩ := findDef_routeKey he
  have hidx := keyIdx_routeKey he
  have hlist (x : Nat × Int) (hmem : x ∈ Dict.defaultExceptions) : x.1 ≠ routeKey e := by
    intro hkey
    obtain ⟨e', hmem', he'⟩ := routes_of_defaultExceptions x hmem (by rw [hkey, hidx]; omega)
    have hlt : e' < 256 := routeExceptions_lt e' hmem'
    exact hx (routeKey_inj he hlt (hkey.symm.trans he') ▸ hmem')
  rw [dflt_of_findDef hlist (by omega) hrow, hr]

theorem defaultRoute_of_not_exception {e : Nat} (he : e < 256) (hx : e ∉ routeExceptions) : defaultRoute e = 1 := by
  simp only [routeExceptions, defaultRoute, List.mem_cons, List.not_mem_nil, or_false] at hx ⊢
  rw [if_neg (by omega), if_neg (by omega)]

/-- The dictionary's defaults are those of R506. -/
theorem dflt_routeKey {e : Nat} (he : e < 256) : dflt (routeKey e) = defaultRoute e := by
  by_cases hx : e ∈ routeExceptions
  · exact dflt_routeKey_of_exception e hx
  · rw [dflt_routeKey_of_not_exception he hx, defaultRoute_of_not_exception he hx]

/-- The routes are not among the two objects that reset sets. -/
theorem State.reset_routeOf {e : Nat} (he : e < 256) : routeOf State.reset.dev e = dflt (routeKey e) := by
  have hkey := routeKey_eq he
  rw [routeOf_eq_o_routeKey]
  exact State.reset_o (by simp only [Obj.RESETS]; omega) (by simp only [Obj.PIN]; omega)

/-! ### The status objects while no fault is in force -/

section NoFault

variable {d : Dev} (hnone : d.coll.active = [])
include hnone

theorem Dev.inOrder_of_no_fault : d.inOrder = [] := by simp [Dev.inOrder, hnone]

theorem Dev.classInForce_of_no_fault (halone : d.power.alone = false) (c : Nat) : d.classInForce c = false := by
  simp [Dev.classInForce, hnone, halone]

theorem Dev.safeState_of_no_fault (halone : d.power.alone = false) : d.safeState = 0 := by
  simp [Dev.safeState, Dev.classInForce_of_no_fault hnone halone]

/-- A domain reads as running or as at rest (R416). -/
theorem Dev.domainState_of_no_fault (halone : d.power.alone = false) (dom : Domain) :
    d.domainState dom = if d.running dom then 1 else 0 := by
  simp [Dev.domainState, Dev.faultOnDomain, Dev.classInForce_of_no_fault hnone halone, hnone]

end NoFault

/-- Before the end of the start no set is complete (R427, R527). -/
theorem Dev.serviceLevel_of_not_service {d : Dev} (h : d.phase ≠ .service) : d.serviceLevel = 0 := by
  simp [Dev.serviceLevel, h]

/-- Nothing runs right after reset. -/
theorem State.reset_running (dom : Domain) : State.reset.dev.running dom = false := by
  cases dom <;> decide

/-- The 64 entries of ACTIVE default to 0. -/
theorem dflt_active {i : Nat} (hi : i < 64) : dflt (Obj.ACTIVE + i) = 0 := by
  have hidx : keyIdx (Obj.ACTIVE + i) = 0x2200 := by simp only [keyIdx, Obj.ACTIVE]; omega
  have hsub : keySub (Obj.ACTIVE + i) = i + 1 := by simp only [keySub, Obj.ACTIVE]; omega
  have hpage : (Obj.ACTIVE + i) / 65536 = 0x22 := by simp only [Obj.ACTIVE]; omega
  have hlist (x : Nat × Int) (hmem : x ∈ Dict.defaultExceptions) : x.1 ≠ Obj.ACTIVE + i := fun hkey =>
    (show ∀ y ∈ Dict.defaultExceptions, keyIdx y.1 ≠ 0x2200 by decide) x hmem (hkey ▸ hidx)
  have hrow : findDef (Obj.ACTIVE + i) = Dict.rows22[0]? := by
    have hlt : i + 1 < 65 := by omega
    rw [findDef, hpage, hidx, hsub]
    exact List.find?_cons_of_pos (by simp [defCovers, hlt])
  exact dflt_of_findDef hlist (by omega) hrow

/-- Right after reset no fault is in force and nothing runs, so the status objects agree at their defaults. -/
theorem State.reset_settled : State.reset.dev.Settled where
  safe := by rw [Dev.safeState_of_no_fault rfl rfl]; decide
  count := by rw [Dev.inOrder_of_no_fault rfl]; decide
  service := by rw [Dev.serviceLevel_of_not_service (by decide)]; decide
  domains dom := by
    rw [Dev.domainState_of_no_fault rfl rfl, State.reset_running]
    cases dom <;> decide
  active i hi := by
    rw [Dev.inOrder_of_no_fault rfl, State.reset_o (by simp only [Obj.ACTIVE, Obj.RESETS]; omega) (by simp only [Obj.ACTIVE, Obj.PIN]; omega),
      dflt_active hi]
    rfl
  pool := by decide

/-- Settles O4: reset lists RESETS and PIN alone, so every route has its default, and without a fault the status objects agree (R506). -/
theorem resetSettled : Obligations.ResetSettled :=
  ⟨fun _ he => (State.reset_routeOf he).trans (dflt_routeKey he), State.reset_settled, rfl, rfl, rfl, rfl, rfl, rfl, rfl, rfl,
    fun _ hresets hpin => State.reset_o hresets hpin⟩

end Sys2Proof.Machine
end

section
/-! What every command answers: the state with the E960 changed and its status objects computed anew, so that they agree with what it holds
after every step (O1, O2, O3). -/

namespace Sys2Proof.Machine

/-- Every command answers the state with the E960 changed and the status objects computed anew. -/
theorem exec_next (c : Instr) (s : State) : ∃ d : Dev, exec c s = .next { s with dev := d.settle } := by
  cases c <;> exact Exists.intro _ (by unfold exec; rfl)

/-- Settles O1: a step is the effect of the front command, by the two branches of `step`. -/
theorem stepRunsFrontCommand : Obligations.StepRunsFrontCommand := by
  constructor
  · intro s c rest hpending
    simp only [step, hpending]
  · intro s hpending
    simp only [step, hpending]

/-- Settles O2: every command answers a next state, whose queue is that of the state. -/
theorem everyCommandAnswers : Obligations.EveryCommandAnswers := by
  intro c s
  obtain ⟨d, hd⟩ := exec_next c s
  exact ⟨_, hd, rfl⟩

/-! ### The status objects are computed from what no status object changes -/

namespace Dev.Agrees

variable {d e : Dev}

theorem refl (d : Dev) : d.Agrees d := ⟨rfl, fun _ _ => rfl⟩

theorem setO (h : d.Agrees e) {k : Nat} (v : Int) (hk : isStatus k = true) : d.Agrees (e.setO k v) where
  rest := Dev.rest_trans h.rest (e.setO_rest k v)
  objects j hj := (Dev.o_setO_other e v (by rintro rfl; simp [hk] at hj)).trans (h.objects j hj)

theorem setList (h : d.Agrees e) {k n : Nat} (l : List Nat) (hk : ∀ i < n, isStatus (k + i) = true) : d.Agrees (e.setList k n l) := by
  induction n generalizing e k l with
  | zero => exact h
  | succ n ih =>
    refine ih (h.setO _ (hk 0 (by omega))) _ (fun i hi => ?_)
    rw [Nat.add_right_comm]
    exact hk (i + 1) (by omega)

theorem settlePool (h : d.Agrees e) : d.Agrees e.settlePool := (h.setO _ (by decide)).setO _ (by decide)

theorem settleCounts (h : d.Agrees e) : d.Agrees e.settleCounts := by
  unfold Dev.settleCounts
  iterate 7 refine setO ?_ _ (by decide)
  exact h.setO _ (by decide)

theorem settlePin (h : d.Agrees e) : d.Agrees e.settlePin := by
  unfold Dev.settlePin
  split
  · exact h
  · exact (h.setO _ (by decide)).setO _ (by decide)

theorem settleActive (h : d.Agrees e) : d.Agrees e.settleActive :=
  h.setList _ (by decide)

end Dev.Agrees

/-- What SAFE_STATE, FAULTS_ACTIVE, SERVICE_LEVEL and the domain states are computed from. -/
def Dev.beforeStates (d : Dev) : Dev := d.settlePool.settleCounts.settlePin.settleActive

theorem Dev.agrees_beforeStates (d : Dev) : d.Agrees d.beforeStates := (Dev.Agrees.refl d).settlePool.settleCounts.settlePin.settleActive

theorem domain_num_bounds (dom : Domain) : 1 ≤ dom.num ∧ dom.num ≤ 9 := by cases dom <;> decide

/-- DOMAIN_STATE of each domain is the domain's state (R427, R510). -/
theorem Dev.o_settle_domain (d : Dev) (dom : Domain) : d.settle.o (el Obj.DOMAIN_STATE dom.num) = d.domainState dom := by
  have hb := domain_num_bounds dom
  have hrange : Obj.DOMAIN_STATE ≤ el Obj.DOMAIN_STATE dom.num ∧ el Obj.DOMAIN_STATE dom.num < Obj.DOMAIN_STATE + 9 := by
    simp only [el]
    omega
  have hlist : (Domain.all.map (fun m => d.beforeStates.domainState m)).getD (el Obj.DOMAIN_STATE dom.num - Obj.DOMAIN_STATE) 0 =
      d.beforeStates.domainState dom := by
    cases dom <;> rfl
  rw [← d.agrees_beforeStates.domainState dom, ← hlist]
  unfold Dev.settle Dev.settleStates
  rw [Dev.o_setO_other _ _ (by cases dom <;> decide), Dev.o_setO_other _ _ (by cases dom <;> decide), Dev.o_setO_other _ _ (by cases dom <;> decide),
    Dev.o_setList, if_pos hrange]
  rfl

/-- SAFE_STATE is the Safe-state or Lockout in force (R510). -/
theorem Dev.o_settle_safeState (d : Dev) : d.settle.o Obj.SAFE_STATE = d.safeState := by
  rw [← d.agrees_beforeStates.safeState]
  unfold Dev.settle Dev.settleStates
  rw [Dev.o_setO_other _ _ (by decide), Dev.o_setO_other _ _ (by decide), Dev.o_setO_same]
  rfl

/-- FAULTS_ACTIVE is the number of faults in force (R514). -/
theorem Dev.o_settle_faultsActive (d : Dev) : d.settle.o Obj.FAULTS_ACTIVE = d.inOrder.length := by
  rw [← d.agrees_beforeStates.inOrder]
  unfold Dev.settle Dev.settleStates
  rw [Dev.o_setO_other _ _ (by decide), Dev.o_setO_same]
  rfl

/-- SERVICE_LEVEL is the service level (R427, R527). -/
theorem Dev.o_settle_serviceLevel (d : Dev) : d.settle.o Obj.SERVICE_LEVEL = d.serviceLevel := by
  rw [← d.agrees_beforeStates.serviceLevel]
  exact Dev.o_setO_same _ _ _

/-- Outside its own objects the computation of the states leaves what was computed before. -/
theorem Dev.o_settle_beforeStates (d : Dev) {k : Nat} (hstates : ¬ (Obj.DOMAIN_STATE ≤ k ∧ k < Obj.DOMAIN_STATE + 9))
    (hk : k ≠ Obj.SAFE_STATE ∧ k ≠ Obj.FAULTS_ACTIVE ∧ k ≠ Obj.SERVICE_LEVEL) : d.settle.o k = d.beforeStates.o k := by
  obtain ⟨hsafe, hfaults, hservice⟩ := hk
  unfold Dev.settle Dev.settleStates
  rw [Dev.o_setO_other _ _ hservice, Dev.o_setO_other _ _ hfaults, Dev.o_setO_other _ _ hsafe, Dev.o_setList, if_neg hstates]
  rfl

/-- ACTIVE lists the first 64 faults in force (R514). -/
theorem Dev.o_settle_active (d : Dev) {i : Nat} (hi : i < 64) : d.settle.o (Obj.ACTIVE + i) = ((d.inOrder.getD i 0 : Nat) : Int) := by
  have hfaults : d.settlePool.settleCounts.settlePin.inOrder = d.inOrder := (Dev.Agrees.refl d).settlePool.settleCounts.settlePin.inOrder
  rw [d.o_settle_beforeStates (by simp only [Obj.ACTIVE, Obj.DOMAIN_STATE]; omega)
    (by simp only [Obj.ACTIVE, Obj.SAFE_STATE, Obj.FAULTS_ACTIVE, Obj.SERVICE_LEVEL]; omega)]
  unfold Dev.beforeStates Dev.settleActive
  rw [Dev.o_setList, if_pos (by omega), hfaults, Nat.add_sub_cancel_left]
  simp [List.getD_eq_getElem?_getD, hi]

/-- Of the objects that `settleActive`, `settlePin` and `settleCounts` write, none is POOL_USED or POOL_FREE. -/
theorem Dev.o_settle_pool (d : Dev) {k : Nat} (hk : k = Obj.POOL_FREE ∨ k = Obj.POOL_USED) : d.settle.o k = d.settlePool.o k := by
  have hpin (e : Dev) : e.settlePin.o k = e.o k := by
    unfold Dev.settlePin Dev.setB
    split
    · rfl
    · rw [Dev.o_setO_other _ _ (by rcases hk with rfl | rfl <;> decide), Dev.o_setO_other _ _ (by rcases hk with rfl | rfl <;> decide)]
  rw [d.o_settle_beforeStates (by rcases hk with rfl | rfl <;> decide) (by rcases hk with rfl | rfl <;> decide)]
  unfold Dev.beforeStates Dev.settleActive
  rw [Dev.o_setList, if_neg (by rcases hk with rfl | rfl <;> decide), hpin]
  unfold Dev.settleCounts
  iterate 8 rw [Dev.o_setO_other _ _ (by rcases hk with rfl | rfl <;> decide)]

/-- FREE and USED of the notification pool add up to its 128 slots (R409). -/
theorem Dev.o_settle_pool_sum (d : Dev) : d.settle.o Obj.POOL_FREE + d.settle.o Obj.POOL_USED = 128 := by
  rw [d.o_settle_pool (.inl rfl), d.o_settle_pool (.inr rfl)]
  unfold Dev.settlePool
  rw [Dev.o_setO_same, Dev.o_setO_other _ _ (by decide), Dev.o_setO_same]
  omega

/-- Status objects computed anew agree with what the E960 holds. -/
theorem Dev.settled_settle (d : Dev) : d.settle.Settled where
  safe := by rw [d.agrees_settle.safeState, d.o_settle_safeState]
  count := by rw [d.agrees_settle.inOrder, d.o_settle_faultsActive]
  service := by rw [d.agrees_settle.serviceLevel, d.o_settle_serviceLevel]
  domains dom := by rw [d.agrees_settle.domainState, d.o_settle_domain]
  active i hi := by rw [d.agrees_settle.inOrder, d.o_settle_active hi]
  pool := d.o_settle_pool_sum

/-- Settles O3: an empty queue leaves the state, and every command computes the status objects anew. -/
theorem everyStepSettles : Obligations.EveryStepSettles := by
  intro s t hs hstep
  cases hpending : s.pending with
  | nil =>
    rw [stepRunsFrontCommand.2 s hpending] at hstep
    cases hstep
    exact hs
  | cons c rest =>
    rw [stepRunsFrontCommand.1 s c rest hpending] at hstep
    obtain ⟨d, hd⟩ := exec_next c { s with pending := rest }
    rw [hd] at hstep
    cases hstep
    exact d.settled_settle

end Sys2Proof.Machine
end

section
/-! The refusal of every write of SESSION 0 (R393, R417, O59). -/

namespace Sys2Proof.Machine

/-- No row of the dictionary is writable by Observer (R412). -/
theorem page_writeRole (h : Nat) : (Dict.page h).all (fun r => decide (1 ≤ r.wr)) = true := by
  unfold Dict.page
  split <;> decide

theorem findDef_writeRole {k : Nat} {r : ObjDef} (h : findDef k = some r) : 1 ≤ r.wr :=
  of_decide_eq_true (List.all_eq_true.mp (page_writeRole _) r (List.mem_of_find?_eq_some h))

theorem Dev.aliasRow_writeRole {d : Dev} {a : Nat} {r : ObjDef} (h : d.aliasRow a = some r) : 1 ≤ r.wr :=
  of_decide_eq_true (List.all_eq_true.mp (page_writeRole _) r (List.mem_of_mem_filter (List.mem_of_find?_eq_some h)))

/-- Every object, couriers included, needs a role above Observer to be written (R393, R422). -/
theorem Dev.one_le_writeRole (d : Dev) {k : Nat} {r : ObjDef} (h : findDef k = some r) : 1 ≤ d.writeRole k r := by
  have hr := findDef_writeRole h
  unfold Dev.writeRole
  split
  · split
    · decide
    · split
      · rename_i hrow
        have ht := d.aliasRow_writeRole hrow
        split <;> assumption
      · exact hr
  · exact hr

/-- The checks of R417 refuse every write of SESSION 0 outside the restrictive defaults (R393). -/
theorem Dev.writeCheck_ne_zero_of_observer {d : Dev} (hf : d.o Obj.FUSE_DEFAULTS = 0) {a : Asker} (ha : a.role = 0) (k : Nat) :
    d.writeCheck a k ≠ 0 := by
  have hb : d.b Obj.FUSE_DEFAULTS = false := by simp [Dev.b, hf]
  unfold Dev.writeCheck
  split
  · decide
  · split
    · split <;> decide
    · rename_i r hrow
      have hrole : a.role < d.writeRole k r := by have := d.one_le_writeRole hrow; omega
      rw [if_pos (show a.role < d.writeRole k r ∧ _ from ⟨hrole, by simp [hb]⟩)]
      split
      · decide
      · split <;> decide

/-- A READ, WRITE or WRITE_SEG without session is performed by Observer and answered without MAC (R390, R393). -/
theorem Dev.accept_of_no_session {d : Dev} {r : Req} {u : UnitIn} {d1 : Dev} {data : Bytes} {e : Bool} (hport : d.portOff r.path = false)
    (hsession : r.session = 0) (hop : r.op = 1 ∨ r.op = 2 ∨ r.op = 3) (h : d.perform r 0 u = (d1, data, e)) :
    d.accept r u = d1.respond r 0 none data e := by
  unfold Dev.accept
  rcases hop with hop | hop | hop <;> simp [hport, hsession, hop, h]

/-- What a refused access leaves: nothing but its answer changes. -/
abbrev Dev.OnlyRefused (d e : Dev) : Prop :=
  e.result ≠ 0 ∧ e.trace = d.trace ∧ e.evq = d.evq ∧ ({ d with result := e.result, data := e.data, reply := e.reply } : Dev).ShowsOnly e ∧
    OnlyObjects (fun _ => false) d e

/-- A response changes only the data and the bytes of the reply. -/
theorem Dev.res_respond_frame (d : Dev) (r : Req) (s code : Nat) (key : Option Bytes) (data : Bytes) (last : Bool) (hc : code ≠ 0) :
    d.OnlyRefused ((d.res code).respond r s key data last).settle := by
  have hresult : ((d.res code).respond r s key data last).result = code := rfl
  refine ⟨?_, ?_, ?_, ?_, ?_⟩
  · rwa [Dev.settle_result, hresult]
  · rw [Dev.settle_trace]; rfl
  · rw [Dev.settle_evq]; rfl
  · rw [Dev.settle_result, Dev.settle_data, Dev.settle_reply]
    exact Dev.shows_settle ((d.res code).respond r s key data last)
  · exact ((OnlyObjects.refl d).of_obj (e := (d.res code).respond r s key data last) rfl).settle

/-- Settles O59: the checks of R417 refuse every write of SESSION 0, so a WRITE and a WRITE_SEG are answered by their code alone. -/
theorem unauthenticatedNeverWrites : Obligations.UnauthenticatedNeverWrites := by
  constructor
  · intro s path source seq index sub data mac u hphase hport hfuse
    have hcheck := Dev.writeCheck_ne_zero_of_observer hfuse (a := ⟨0, 0, unitHeader (2 + 128) 0 4 0 seq index sub⟩) rfl (index * 256 + sub)
    have hperform : s.dev.perform (request path source 2 0 false seq index sub data mac) 0 u =
        (s.dev.res (s.dev.writeCheck ⟨0, 0, unitHeader (2 + 128) 0 4 0 seq index sub⟩ (index * 256 + sub)), [], false) := by
      simp [Dev.perform, request, Dev.writeObj, hcheck]
    refine completes_serve (f := fun d => d.accept (request path source 2 0 false seq index sub data mac) u) rfl hphase ?_
    rw [Dev.accept_of_no_session hport rfl (.inr (.inl rfl)) hperform]
    exact s.dev.res_respond_frame _ _ _ _ _ _ hcheck
  · intro s path source seq index sub off last data mac u hphase hport hfuse
    have hcheck := Dev.writeCheck_ne_zero_of_observer hfuse (a := ⟨0, 0, unitHeader (3 + 128) 0 4 0 seq index sub⟩) rfl (index * 256 + sub)
    have hperform : s.dev.perform (request path source 3 0 last seq index sub (leBytes 4 (off : Int) ++ data) mac) 0 u =
        (s.dev.res (s.dev.writeCheck ⟨0, 0, unitHeader (3 + 128) 0 4 0 seq index sub⟩ (index * 256 + sub)), [], false) := by
      simp [Dev.perform, request, Dev.writeSeg, hcheck]
    refine completes_serve (f := fun d => d.accept (request path source 3 0 last seq index sub (leBytes 4 (off : Int) ++ data) mac) u) rfl hphase ?_
    rw [Dev.accept_of_no_session hport rfl (.inr (.inr rfl)) hperform]
    exact s.dev.res_respond_frame _ _ _ _ _ _ hcheck

end Sys2Proof.Machine
end

section
/-! Frames as equations: what `ShowsOnly`, `StopsOnly` and `RaisesOnly` let change is blanked out on both sides, and the rest is compared. -/

namespace Sys2Proof.Machine

/-! ### What a frame hides -/

/-- The E960 without what an event and a written object change. -/
def Dev.unshown (d : Dev) : Dev := { d with obj := [], evq := [], trace := [], tracePost := 0, traceLost := 0 }

/-- The E960 without what the reaction to a fault changes. -/
def Dev.unstopped (d : Dev) : Dev := { d with
  obj := [], evq := [], trace := [], tracePost := 0, traceLost := 0, trac := [], openRequest := false, link := {}, ctrs := [], dabs := [], grid := {},
  loops := [] }

/-- The E960 without what raising a fault changes. -/
def Dev.unraised (d : Dev) : Dev := { d.unstopped with coll := {} }

/-- `d` with what an event and a written object change as in `e`. -/
def Dev.reshown (e d : Dev) : Dev := { d with obj := e.obj, evq := e.evq, trace := e.trace, tracePost := e.tracePost, traceLost := e.traceLost }

/-- `d` with what the reaction to a fault changes as in `e`. -/
def Dev.restopped (e d : Dev) : Dev := { e.reshown d with
  trac := e.trac, openRequest := e.openRequest, link := e.link, ctrs := e.ctrs, dabs := e.dabs, grid := e.grid, loops := e.loops }

theorem Dev.showsOnly_iff {d e : Dev} : d.ShowsOnly e ↔ e.unshown = d.unshown ∧ ∀ x ∈ d.evq, x ∈ e.evq := by
  refine and_congr_left fun _ => ⟨?_, fun h => ?_⟩
  · rintro ⟨p, rfl⟩
    rfl
  · have heq : e.reshown e.unshown = e.reshown d.unshown := congrArg _ h
    exact ⟨⟨e.obj, e.evq, e.trace, e.tracePost, e.traceLost⟩, heq⟩

theorem Dev.stopsOnly_iff {d e : Dev} : d.StopsOnly e ↔ e.unstopped = d.unstopped ∧ ∀ x ∈ d.evq, x ∈ e.evq := by
  refine and_congr_left fun _ => ⟨?_, fun h => ?_⟩
  · rintro ⟨p, rfl⟩
    rfl
  · have heq : e.restopped e.unstopped = e.restopped d.unstopped := congrArg _ h
    exact ⟨⟨e.obj, e.evq, e.trace, e.tracePost, e.traceLost, e.trac, e.openRequest, e.link, e.ctrs, e.dabs, e.grid, e.loops⟩, heq⟩

theorem Dev.raisesOnly_iff {d e : Dev} : d.RaisesOnly e ↔ e.unraised = d.unraised ∧ ∀ x ∈ d.evq, x ∈ e.evq := by
  constructor
  · rintro ⟨c, h⟩
    obtain ⟨hrest, hevq⟩ := Dev.stopsOnly_iff.mp h
    exact ⟨congrArg (fun x : Dev => { x with coll := {} }) hrest, hevq⟩
  · rintro ⟨h, hevq⟩
    exact ⟨e.coll, Dev.stopsOnly_iff.mpr ⟨congrArg (fun x : Dev => { x with coll := e.coll }) h, hevq⟩⟩

/-! ### What operations leave of the rest -/

theorem Dev.ShowsOnly.unshown {d e : Dev} (h : d.ShowsOnly e) : e.unshown = d.unshown := (Dev.showsOnly_iff.mp h).1
theorem Dev.StopsOnly.unstopped {d e : Dev} (h : d.StopsOnly e) : e.unstopped = d.unstopped := (Dev.stopsOnly_iff.mp h).1
theorem Dev.RaisesOnly.unraised {d e : Dev} (h : d.RaisesOnly e) : e.unraised = d.unraised := (Dev.raisesOnly_iff.mp h).1
theorem Dev.ShowsOnly.evq {d e : Dev} (h : d.ShowsOnly e) {x : Nat} (hx : x ∈ d.evq) : x ∈ e.evq := h.2 x hx
theorem Dev.StopsOnly.evq {d e : Dev} (h : d.StopsOnly e) {x : Nat} (hx : x ∈ d.evq) : x ∈ e.evq := h.2 x hx
theorem Dev.RaisesOnly.evq {d e : Dev} (h : d.RaisesOnly e) {x : Nat} (hx : x ∈ d.evq) : x ∈ e.evq := (Dev.raisesOnly_iff.mp h).2 x hx

@[simp] theorem Dev.unshown_setO (d : Dev) (k : Nat) (v : Int) : (d.setO k v).unshown = d.unshown := rfl
@[simp] theorem Dev.unshown_setB (d : Dev) (k : Nat) (b : Bool) : (d.setB k b).unshown = d.unshown := rfl
@[simp] theorem Dev.unshown_setBit (d : Dev) (k i : Nat) (b : Bool) : (d.setBit k i b).unshown = d.unshown := rfl
@[simp] theorem Dev.unshown_addSat (d : Dev) (k n : Nat) : (d.addSat k n).unshown = d.unshown := rfl
@[simp] theorem Dev.unshown_addWrap (d : Dev) (k n : Nat) : (d.addWrap k n).unshown = d.unshown := rfl
@[simp] theorem Dev.unshown_event (d : Dev) (e : Nat) : (d.event e).unshown = d.unshown := (d.showsOnly_event e).unshown
@[simp] theorem Dev.unshown_settle (d : Dev) : d.settle.unshown = d.unshown := d.shows_settle.unshown

@[simp] theorem Dev.unraised_setO (d : Dev) (k : Nat) (v : Int) : (d.setO k v).unraised = d.unraised := rfl
@[simp] theorem Dev.unraised_setB (d : Dev) (k : Nat) (b : Bool) : (d.setB k b).unraised = d.unraised := rfl
@[simp] theorem Dev.unraised_setBit (d : Dev) (k i : Nat) (b : Bool) : (d.setBit k i b).unraised = d.unraised := rfl
@[simp] theorem Dev.unraised_addSat (d : Dev) (k n : Nat) : (d.addSat k n).unraised = d.unraised := rfl
@[simp] theorem Dev.unraised_addWrap (d : Dev) (k n : Nat) : (d.addWrap k n).unraised = d.unraised := rfl
@[simp] theorem Dev.unraised_event (d : Dev) (e : Nat) : (d.event e).unraised = d.unraised := (d.raises_event e).unraised
@[simp] theorem Dev.unraised_settle (d : Dev) : d.settle.unraised = d.unraised := d.raises_settle.unraised
@[simp] theorem Dev.unraised_raiseWith (d : Dev) (c : Nat) (m : Domain) (x : FaultSrc) (a b : Bool) : (d.raiseWith c m x a b).unraised = d.unraised :=
  (d.raises_raiseWith c m x a b).unraised
@[simp] theorem Dev.unraised_raise (d : Dev) (c : Nat) (a : Bool) (x : FaultSrc) : (d.raise c a x).unraised = d.unraised := Dev.unraised_raiseWith ..
@[simp] theorem Dev.unraised_raiseOn (d : Dev) (c : Nat) (m : Domain) (a : Bool) (x : FaultSrc) : (d.raiseOn c m a x).unraised = d.unraised :=
  Dev.unraised_raiseWith ..
@[simp] theorem Dev.unraised_domainStop (d : Dev) (m : Domain) : (domainStop m d).unraised = d.unraised := (d.raises_domainStop m).unraised
@[simp] theorem Dev.unraised_safeStateAll (d : Dev) : (safeStateAll d).unraised = d.unraised := d.raises_safeStateAll.unraised

/-! ### Waiting events -/

@[simp] theorem Dev.setB_evq (d : Dev) (k : Nat) (b : Bool) : (d.setB k b).evq = d.evq := rfl
@[simp] theorem Dev.setBit_evq (d : Dev) (k i : Nat) (b : Bool) : (d.setBit k i b).evq = d.evq := rfl
@[simp] theorem Dev.addSat_evq (d : Dev) (k n : Nat) : (d.addSat k n).evq = d.evq := rfl
@[simp] theorem Dev.addWrap_evq (d : Dev) (k n : Nat) : (d.addWrap k n).evq = d.evq := rfl

@[simp] theorem Dev.event_evq (d : Dev) (e : Nat) : (d.event e).evq = insertOnce (d.wall * 256 + e) d.evq := by
  have htrace (a : Dev) (p q r : Nat) (v : Int) (b : Bool) : (a.traceAdd p q r v b).evq = a.evq := by
    unfold Dev.traceAdd Dev.when
    simp only []
    split
    · rfl
    · split <;> rfl
  unfold Dev.event Dev.when
  split
  · exact htrace ..
  · rfl

@[simp] theorem mem_evq_raiseWith {d : Dev} {y : Nat} (h : y ∈ d.evq) (c : Nat) (m : Domain) (x : FaultSrc) (a b : Bool) :
    y ∈ (d.raiseWith c m x a b).evq := (d.raises_raiseWith c m x a b).evq h
@[simp] theorem mem_evq_raise {d : Dev} {y : Nat} (h : y ∈ d.evq) (c : Nat) (a : Bool) (x : FaultSrc) : y ∈ (d.raise c a x).evq :=
  (d.raises_raise c a x).evq h
@[simp] theorem mem_evq_raiseOn {d : Dev} {y : Nat} (h : y ∈ d.evq) (c : Nat) (m : Domain) (a : Bool) (x : FaultSrc) : y ∈ (d.raiseOn c m a x).evq :=
  (d.raises_raiseOn c m a x).evq h
@[simp] theorem mem_evq_domainStop {d : Dev} {y : Nat} (h : y ∈ d.evq) (m : Domain) : y ∈ (domainStop m d).evq := (d.stops_domainStop m).evq h
@[simp] theorem mem_evq_safeStateAll {d : Dev} {y : Nat} (h : y ∈ d.evq) : y ∈ (safeStateAll d).evq := d.stops_safeStateAll.evq h

/-! ### Events and faults -/

@[simp] theorem Dev.raised_event_iff (d : Dev) (e x : Nat) : (d.event e).raised x ↔ x = e ∨ d.raised x := by
  simp [Dev.raised, mem_insertOnce]

@[simp] theorem Dev.raised_settle_iff (d : Dev) (x : Nat) : d.settle.raised x ↔ d.raised x := by simp [Dev.raised]
@[simp] theorem Dev.raised_setO_iff (d : Dev) (k : Nat) (v : Int) (x : Nat) : (d.setO k v).raised x ↔ d.raised x := Iff.rfl
@[simp] theorem Dev.raised_setB_iff (d : Dev) (k : Nat) (b : Bool) (x : Nat) : (d.setB k b).raised x ↔ d.raised x := Iff.rfl
@[simp] theorem Dev.raised_setBit_iff (d : Dev) (k i : Nat) (b : Bool) (x : Nat) : (d.setBit k i b).raised x ↔ d.raised x := Iff.rfl
@[simp] theorem Dev.raised_addSat_iff (d : Dev) (k n x : Nat) : (d.addSat k n).raised x ↔ d.raised x := Iff.rfl
@[simp] theorem Dev.raised_addWrap_iff (d : Dev) (k n x : Nat) : (d.addWrap k n).raised x ↔ d.raised x := Iff.rfl
@[simp] theorem Dev.inForce_settle_iff (d : Dev) (c : Nat) (m : Domain) : d.settle.inForce c m ↔ d.inForce c m := by simp [Dev.inForce]
@[simp] theorem Dev.inForce_event_iff (d : Dev) (e c : Nat) (m : Domain) : (d.event e).inForce c m ↔ d.inForce c m := by simp [Dev.inForce]

/-! ### Objects -/

@[simp] theorem Dev.o_upd_evq (d : Dev) (q : List Nat) (k : Nat) : ({ d with evq := q } : Dev).o k = d.o k := rfl
theorem Dev.n_eq {d e : Dev} {k : Nat} (h : e.o k = d.o k) : e.n k = d.n k := by simp [Dev.n, h]
theorem Dev.b_eq {d e : Dev} {k : Nat} (h : e.o k = d.o k) : e.b k = d.b k := by simp [Dev.b, h]

/-- The value that a table of objects gives object `k`. -/
def oAt (t : Tab Int) (k : Nat) : Int := Tab.get (dflt k) t k

theorem Dev.o_eq (d : Dev) (k : Nat) : d.o k = oAt d.obj k := rfl

@[simp] theorem oAt_set (t : Tab Int) (k : Nat) (v : Int) (j : Nat) : oAt (Tab.set (dflt k) t k v) j = if j = k then v else oAt t j := by
  by_cases h : j = k
  · subst h
    simp [oAt]
  · simp [oAt, h, Tab.get_set_other]

@[simp] theorem oAt_event (d : Dev) (e : Nat) {k : Nat} (h : isTraceCount k = false) : oAt (d.event e).obj k = oAt d.obj k := d.o_event e h
@[simp] theorem oAt_settle (d : Dev) {k : Nat} (h : isStatus k = false) : oAt d.settle.obj k = oAt d.obj k := d.o_settle h
@[simp] theorem oAt_raiseWith (d : Dev) (c : Nat) (m : Domain) (x : FaultSrc) (a b : Bool) {k : Nat} (h : isReaction k = false) (hs : isStatus k = false) :
    oAt (d.raiseWith c m x a b).obj k = oAt d.obj k := (quiet_raiseWith d c m x a b).same k h hs
@[simp] theorem oAt_raise (d : Dev) (c : Nat) (x : FaultSrc) (a : Bool) {k : Nat} (h : isReaction k = false) (hs : isStatus k = false) :
    oAt (d.raise c a x).obj k = oAt d.obj k := oAt_raiseWith _ _ _ _ _ _ h hs
@[simp] theorem oAt_raiseOn (d : Dev) (c : Nat) (m : Domain) (x : FaultSrc) (a : Bool) {k : Nat} (h : isReaction k = false) (hs : isStatus k = false) :
    oAt (d.raiseOn c m a x).obj k = oAt d.obj k := oAt_raiseWith _ _ _ _ _ _ h hs
@[simp] theorem Dev.o_raiseWith (d : Dev) (c : Nat) (m : Domain) (x : FaultSrc) (a b : Bool) {k : Nat} (h : isReaction k = false) (hs : isStatus k = false) :
    (d.raiseWith c m x a b).o k = d.o k := oAt_raiseWith _ _ _ _ _ _ h hs
@[simp] theorem Dev.o_raise (d : Dev) (c : Nat) (x : FaultSrc) (a : Bool) {k : Nat} (h : isReaction k = false) (hs : isStatus k = false) :
    (d.raise c a x).o k = d.o k := oAt_raiseWith _ _ _ _ _ _ h hs
@[simp] theorem Dev.o_raiseOn (d : Dev) (c : Nat) (m : Domain) (x : FaultSrc) (a : Bool) {k : Nat} (h : isReaction k = false) (hs : isStatus k = false) :
    (d.raiseOn c m a x).o k = d.o k := oAt_raiseWith _ _ _ _ _ _ h hs

@[simp] theorem Dev.setB_obj (d : Dev) (k : Nat) (b : Bool) : (d.setB k b).obj = Tab.set (dflt k) d.obj k (b2i b) := rfl
@[simp] theorem Dev.setBit_obj (d : Dev) (k i : Nat) (b : Bool) : (d.setBit k i b).obj = Tab.set (dflt k) d.obj k (putBit (d.o k) i b) := rfl
@[simp] theorem Dev.addSat_obj (d : Dev) (k n : Nat) : (d.addSat k n).obj = Tab.set (dflt k) d.obj k (satU32 (d.o k + n)) := rfl
@[simp] theorem Dev.addWrap_obj (d : Dev) (k n : Nat) : (d.addWrap k n).obj = Tab.set (dflt k) d.obj k (wrapU32 (d.o k + n)) := rfl

/-- Every object but those of `ks` and the status objects reads in table `t` as `d` shows it. -/
def OnlyTable (ks : Nat → Bool) (d : Dev) (t : Tab Int) : Prop := ∀ k, ks k = false → isStatus k = false → oAt t k = d.o k

theorem onlyObjects_iff {ks : Nat → Bool} {d e : Dev} : OnlyObjects ks d e ↔ OnlyTable ks d e.obj := ⟨fun h => h.same, fun h => ⟨h⟩⟩

section
variable {ks : Nat → Bool} {d : Dev}

@[simp] theorem onlyTable_refl : OnlyTable ks d d.obj := fun _ _ _ => rfl

/-- Tables that give every object outside `ks` and the status objects the same value. -/
theorem onlyTable_congr {t u : Tab Int} (h : ∀ k, ks k = false → isStatus k = false → oAt t k = oAt u k) : OnlyTable ks d t ↔ OnlyTable ks d u :=
  ⟨fun g k x y => (h k x y).symm.trans (g k x y), fun g k x y => (h k x y).trans (g k x y)⟩

theorem OnlyObjects.table_iff {a e : Dev} (h : OnlyObjects ks a e) : OnlyTable ks d e.obj ↔ OnlyTable ks d a.obj := onlyTable_congr h.same

@[simp] theorem onlyTable_set (t : Tab Int) (k : Nat) (v : Int) (hk : (ks k || isStatus k) = true) :
    OnlyTable ks d (Tab.set (dflt k) t k v) ↔ OnlyTable ks d t :=
  onlyTable_congr fun j x y => by rw [oAt_set, if_neg (by rintro rfl; simp [x, y] at hk)]

@[simp] theorem onlyTable_settle (e : Dev) : OnlyTable ks d e.settle.obj ↔ OnlyTable ks d e.obj := (OnlyObjects.refl e).settle.table_iff

@[simp] theorem onlyTable_event (e : Dev) (x : Nat) (ht : ∀ k, isTraceCount k = true → ks k = true) :
    OnlyTable ks d (e.event x).obj ↔ OnlyTable ks d e.obj := ((OnlyObjects.refl e).event x ht).table_iff

@[simp] theorem onlyTable_raiseWith (e : Dev) (c : Nat) (m : Domain) (x : FaultSrc) (a b : Bool) (hr : ∀ k, isReaction k = true → ks k = true) :
    OnlyTable ks d (e.raiseWith c m x a b).obj ↔ OnlyTable ks d e.obj := ((OnlyObjects.refl e).raiseWith c m x a b hr).table_iff
@[simp] theorem onlyTable_raise (e : Dev) (c : Nat) (x : FaultSrc) (a : Bool) (hr : ∀ k, isReaction k = true → ks k = true) :
    OnlyTable ks d (e.raise c a x).obj ↔ OnlyTable ks d e.obj := onlyTable_raiseWith _ _ _ _ _ _ hr
@[simp] theorem onlyTable_raiseOn (e : Dev) (c : Nat) (m : Domain) (x : FaultSrc) (a : Bool) (hr : ∀ k, isReaction k = true → ks k = true) :
    OnlyTable ks d (e.raiseOn c m a x).obj ↔ OnlyTable ks d e.obj := onlyTable_raiseWith _ _ _ _ _ _ hr
@[simp] theorem onlyTable_domainStop (e : Dev) (m : Domain) (hr : ∀ k, isReaction k = true → ks k = true) :
    OnlyTable ks d (domainStop m e).obj ↔ OnlyTable ks d e.obj := ((OnlyObjects.refl e).domainStop m hr).table_iff
@[simp] theorem onlyTable_safeStateAll (e : Dev) (hr : ∀ k, isReaction k = true → ks k = true) :
    OnlyTable ks d (safeStateAll e).obj ↔ OnlyTable ks d e.obj := ((OnlyObjects.refl e).safeStateAll hr).table_iff

end

@[simp] theorem trace_reaction {k : Nat} (h : isTraceCount k = true) : isReaction k = true := isReaction_trace h

/-- The reaction's objects are among those named. -/
@[simp] theorem reaction_of_or {p : Nat → Bool} (k : Nat) (h : isReaction k = true) : (p k || isReaction k) = true := by simp [h]

/-- The trace counts are among a reaction's objects. -/
theorem trace_of_or_reaction {p : Nat → Bool} (k : Nat) (h : isTraceCount k = true) : (p k || isReaction k) = true := by
  simp [isReaction_trace h]

/-- The trace counts are among the objects named. -/
theorem trace_of_or {p : Nat → Bool} (k : Nat) (h : isTraceCount k = true) : (p k || isTraceCount k) = true := by simp [h]

end Sys2Proof.Machine
end

section
/-! The end of sessions (R391 to R396): what it empties and what it leaves. -/
namespace Sys2Proof.Machine

/-! ### One session freed -/

/-- Session `n` is free: no hidden state, SESSION_STATE 0. -/
def Dev.Closed (d : Dev) (n : Nat) : Prop := d.sess n = {} ∧ d.o (el Obj.SESSION_STATE n) = 0

/-- The SESSION_* objects of session `n`. -/
def sessKeys (n : Nat) : List Nat := [el Obj.SESSION_STATE n, el Obj.SESSION_ROLE n, el Obj.SESSION_PATH n, el Obj.SESSION_PEER n]

theorem Dev.endUpdate_sessions (d : Dev) (n : Nat) : (d.endUpdate n).sessions = d.sessions := by
  unfold Dev.endUpdate Dev.when
  split <;> rfl

theorem Dev.endUpdate_evq (d : Dev) (n : Nat) : (d.endUpdate n).evq = d.evq := by
  unfold Dev.endUpdate Dev.when
  split <;> rfl

theorem Dev.o_endUpdate (d : Dev) (n : Nat) {k : Nat} (h : k ≠ Obj.IMG_STATE) : (d.endUpdate n).o k = d.o k := by
  unfold Dev.endUpdate Dev.when
  split
  · exact Dev.o_setO_other _ _ h
  · rfl

theorem Dev.o_freeSession_other (d : Dev) (n : Nat) {k : Nat} (h : k ∉ sessKeys n) (hi : k ≠ Obj.IMG_STATE) : (d.freeSession n).o k = d.o k := by
  simp only [sessKeys, List.mem_cons, List.not_mem_nil, or_false, not_or] at h
  obtain ⟨hstate, hrole, hpath, hpeer⟩ := h
  unfold Dev.freeSession
  rw [Dev.o_endUpdate _ _ hi, Dev.o_setO_other _ _ hpeer, Dev.o_setO_other _ _ hpath, Dev.o_setO_other _ _ hrole, Dev.o_setO_other _ _ hstate]
  rfl

theorem Dev.o_freeSession_of_mem (d : Dev) {n k : Nat} (h : k ∈ sessKeys n) (hi : k ≠ Obj.IMG_STATE) : (d.freeSession n).o k = 0 := by
  unfold Dev.freeSession
  rw [Dev.o_endUpdate _ _ hi]
  simp only [sessKeys, List.mem_cons, List.not_mem_nil, or_false] at h
  simp only [Dev.o_eq, Dev.setO, oAt_set]
  rcases h with h | h | h | h <;> simp [h]

theorem Dev.freeSession_sess (d : Dev) (n m : Nat) : (d.freeSession n).sess m = if m = n then {} else d.sess m := by
  have h : (d.freeSession n).sessions = Tab.del d.sessions n := Dev.endUpdate_sessions ..
  unfold Dev.sess
  rw [h]
  split
  · subst m; exact Tab.get_del_same ..
  · exact Tab.get_del_other _ _ ‹_›

@[simp] theorem Dev.freeSession_evq (d : Dev) (n : Nat) : (d.freeSession n).evq = d.evq := Dev.endUpdate_evq ..

theorem Dev.showsOnly_disableMaps (d : Dev) (n : Nat) : d.ShowsOnly (d.disableMaps n) :=
  Dev.shows_foldl (fun d _ => frame_shows.when (.refl d) _ fun d => d.showsOnly_setO _ _) _ _

@[simp] theorem Dev.disableMaps_sessions (d : Dev) (n : Nat) : (d.disableMaps n).sessions = d.sessions := by
  obtain ⟨⟨p, h⟩, -⟩ := d.showsOnly_disableMaps n
  rw [h]

/-- The end of a session's maps writes their ENABLE and no more. -/
theorem Dev.o_disableMaps (d : Dev) (n : Nat) {k : Nat} (h : ∀ i < 64, k ≠ at' Obj.ENABLE_1800 i) : (d.disableMaps n).o k = d.o k := by
  have key (l : List Nat) (hl : ∀ i ∈ l, i < 64) (d : Dev) :
      (l.foldl (fun d i => d.when (d.n (at' Obj.SESSION i) == n) (fun d => d.setO (at' Obj.ENABLE_1800 i) 0)) d).o k = d.o k := by
    induction l generalizing d with
    | nil => rfl
    | cons i l ih =>
      rw [List.foldl_cons, ih (fun j hj => hl j (by simp [hj]))]
      unfold Dev.when
      split
      · exact Dev.o_setO_other _ _ (h i (hl i (by simp)))
      · rfl
  exact key _ (fun i hi => List.mem_range.mp hi) d

theorem sessKeys_index {n k : Nat} (h1 : 1 ≤ n) (h8 : n ≤ 8) (h : k ∈ sessKeys n) :
    keyIdx k = keyIdx Obj.SESSION_STATE ∨ keyIdx k = keyIdx Obj.SESSION_ROLE ∨ keyIdx k = keyIdx Obj.SESSION_PATH ∨ keyIdx k = keyIdx Obj.SESSION_PEER := by
  simp only [sessKeys, List.mem_cons, List.not_mem_nil, or_false] at h
  simp only [el, keyIdx, Obj.SESSION_STATE, Obj.SESSION_ROLE, Obj.SESSION_PATH, Obj.SESSION_PEER] at *
  omega

theorem sessState_notMem {n m : Nat} (hn : 1 ≤ n ∧ n ≤ 8) (hm : 1 ≤ m ∧ m ≤ 8) (h : m ≠ n) : el Obj.SESSION_STATE m ∉ sessKeys n := by
  simp only [sessKeys, List.mem_cons, List.not_mem_nil, or_false, el, Obj.SESSION_STATE, Obj.SESSION_ROLE, Obj.SESSION_PATH, Obj.SESSION_PEER]
  omega

theorem sessState_ne_img {n : Nat} (h : n ≤ 8) : el Obj.SESSION_STATE n ≠ Obj.IMG_STATE := by
  simp only [el, Obj.SESSION_STATE, Obj.IMG_STATE]
  omega

theorem sessState_ne_enable {n : Nat} (h : n ≤ 8) : ∀ i < 64, el Obj.SESSION_STATE n ≠ at' Obj.ENABLE_1800 i := by
  simp only [el, at', Obj.SESSION_STATE, Obj.ENABLE_1800]
  omega

/-! ### Closed sessions stay closed -/

theorem Dev.closed_freeSession (d : Dev) {n : Nat} (h : n ≤ 8) : (d.freeSession n).Closed n :=
  ⟨by rw [Dev.freeSession_sess, if_pos rfl], d.o_freeSession_of_mem (by simp [sessKeys]) (sessState_ne_img h)⟩

theorem Dev.Closed.freeSession {d : Dev} {n m : Nat} (h : d.Closed m) (hn : 1 ≤ n ∧ n ≤ 8) (hm : 1 ≤ m ∧ m ≤ 8) : (d.freeSession n).Closed m := by
  by_cases e : m = n
  · subst e; exact d.closed_freeSession hm.2
  · exact ⟨by rw [Dev.freeSession_sess, if_neg e, h.1], by rw [d.o_freeSession_other n (sessState_notMem hn hm e) (sessState_ne_img hm.2), h.2]⟩

theorem Dev.Closed.disableMaps {d : Dev} {m : Nat} (h : d.Closed m) (hm : m ≤ 8) (n : Nat) : (d.disableMaps n).Closed m := by
  refine ⟨?_, by rw [Dev.o_disableMaps _ _ (sessState_ne_enable hm), h.2]⟩
  have := h.1
  simpa [Dev.sess] using this

theorem Dev.Closed.event {d : Dev} {m : Nat} (h : d.Closed m) (hm : m ≤ 8) (x : Nat) : (d.event x).Closed m := by
  refine ⟨?_, by rw [Dev.o_event _ _ (isTraceCount_false (by simp [el]; omega)), h.2]⟩
  have := h.1
  simpa [Dev.sess] using this

theorem Dev.Closed.closeSession {d : Dev} {n m : Nat} (h : d.Closed m) (hn : 1 ≤ n ∧ n ≤ 8) (hm : 1 ≤ m ∧ m ≤ 8) : (d.closeSession n).Closed m := by
  unfold Dev.closeSession
  split
  · exact ((h.freeSession hn hm).disableMaps hm.2 n).event hm.2 _
  · exact h.freeSession hn hm

theorem Dev.closed_closeSession (d : Dev) {n : Nat} (hn : n ≤ 8) : (d.closeSession n).Closed n := by
  unfold Dev.closeSession
  split
  · exact ((d.closed_freeSession hn).disableMaps hn n).event hn _
  · exact d.closed_freeSession hn

/-! ### What the end of a session leaves -/

theorem Dev.sessEnd_iff {d e : Dev} : d.SessEnd e ↔
    ({ e.unshown with sessions := [], couriers := [], update := {} } : Dev) = { d.unshown with sessions := [], couriers := [], update := {} } ∧
      ∀ x ∈ d.evq, x ∈ e.evq := by
  unfold Dev.SessEnd
  rw [Dev.showsOnly_iff]
  refine and_congr_left fun _ => ⟨fun h => ?_, fun h => ?_⟩
  · exact congrArg (fun x : Dev => { x with sessions := [], couriers := [], update := {} }) h
  · exact congrArg (fun x : Dev => { x with sessions := e.sessions, couriers := e.couriers, update := e.update }) h

theorem frame_sessEnd : Frame Dev.SessEnd where
  refl d := Dev.sessEnd_iff.mpr ⟨rfl, fun _ h => h⟩
  trans h g := by
    obtain ⟨h1, h2⟩ := Dev.sessEnd_iff.mp h
    obtain ⟨g1, g2⟩ := Dev.sessEnd_iff.mp g
    exact Dev.sessEnd_iff.mpr ⟨g1.trans h1, fun x hx => g2 x (h2 x hx)⟩
  shows h := Dev.sessEnd_iff.mpr ⟨congrArg (fun x : Dev => { x with sessions := [], couriers := [], update := {} }) h.unshown, h.2⟩

theorem Dev.sessEnd_endUpdate (d : Dev) (n : Nat) : d.SessEnd (d.endUpdate n) := by
  unfold Dev.endUpdate
  exact frame_sessEnd.when (frame_sessEnd.refl d) _ fun d => Dev.sessEnd_iff.mpr ⟨rfl, fun _ h => h⟩

theorem Dev.sessEnd_freeSession (d : Dev) (n : Nat) : d.SessEnd (d.freeSession n) := by
  unfold Dev.freeSession
  refine frame_sessEnd.trans ?_ (Dev.sessEnd_endUpdate _ n)
  iterate 4 refine frame_sessEnd.setO ?_ _ _
  exact Dev.sessEnd_iff.mpr ⟨rfl, fun _ h => h⟩

theorem Dev.sessEnd_closeSession (d : Dev) (n : Nat) : d.SessEnd (d.closeSession n) := by
  unfold Dev.closeSession
  split
  · exact frame_sessEnd.event (frame_sessEnd.trans (d.sessEnd_freeSession n) (frame_sessEnd.shows (Dev.showsOnly_disableMaps _ _))) _
  · exact d.sessEnd_freeSession n

section
variable {ks : Nat → Bool} (hs : ∀ k, isSession k = true → ks k = true)
include hs

theorem Dev.onlyObjects_freeSession (d : Dev) {n : Nat} (h1 : 1 ≤ n) (h8 : n ≤ 8) : OnlyObjects ks d (d.freeSession n) := by
  refine ⟨fun k hk _ => d.o_freeSession_other n (fun h => ?_) (fun h => ?_)⟩
  · have := hs k (by rcases sessKeys_index h1 h8 h with h | h | h | h <;> simp [isSession, h])
    simp [this] at hk
  · have := hs k (by simp [isSession, h])
    simp [this] at hk

theorem Dev.onlyObjects_disableMaps (d : Dev) (n : Nat) : OnlyObjects ks d (d.disableMaps n) := by
  refine ⟨fun k hk _ => d.o_disableMaps n fun i hi h => ?_⟩
  have := hs k (by
    subst h
    have hidx : 0x1800 ≤ keyIdx (at' Obj.ENABLE_1800 i) ∧ keyIdx (at' Obj.ENABLE_1800 i) < 0x1840 ∧
        keySub (at' Obj.ENABLE_1800 i) = keySub Obj.ENABLE_1800 := by
      simp only [keyIdx, keySub, at', Obj.ENABLE_1800]
      omega
    simp [isSession, hidx.1, hidx.2.1, hidx.2.2])
  simp [this] at hk

theorem Dev.onlyObjects_closeSession (ht : ∀ k, isTraceCount k = true → ks k = true) (d : Dev) {n : Nat} (h1 : 1 ≤ n) (h8 : n ≤ 8) :
    OnlyObjects ks d (d.closeSession n) := by
  unfold Dev.closeSession
  split
  · exact ((d.onlyObjects_freeSession hs h1 h8).trans (Dev.onlyObjects_disableMaps hs _ n)).event _ ht
  · exact d.onlyObjects_freeSession hs h1 h8

end

/-! ### Every session closed -/

theorem Dev.closed_foldl_closeSession (l : List Nat) (hl : ∀ n ∈ l, 1 ≤ n ∧ n ≤ 8) (d : Dev) {m : Nat} (hm : 1 ≤ m ∧ m ≤ 8) (h : m ∈ l ∨ d.Closed m) :
    (l.foldl (fun d n => d.closeSession n) d).Closed m := by
  induction l generalizing d with
  | nil => exact h.resolve_left (by simp)
  | cons n l ih =>
    refine ih (fun i hi => hl i (by simp [hi])) _ ?_
    have hn := hl n (by simp)
    rcases h with h | h
    · rcases List.mem_cons.mp h with rfl | h
      · exact .inr (d.closed_closeSession hm.2)
      · exact .inl h
    · exact .inr (h.closeSession hn hm)

end Sys2Proof.Machine
end

section
/-! What a reset leaves: the fresh E960 it starts from, and the objects it writes on it (R155, R526, R553, R556, R558). -/
namespace Sys2Proof.Machine

/-- The E960 that a reset starts from: its fresh RAM, with what fuses, flash, retention and pins keep. -/
def Dev.resetBase (d : Dev) (cause : Nat) (ph : Phase) (count : Bool) : Dev :=
  { free := d.free
    coll := { log := d.logAfter (if cause == 1 then [] else d.frozen), logCopy := d.coll.logCopy, held := if cause == 1 then [] else d.frozen, retained := if cause == 1 then [] else d.frozen }
    phase := ph
    gates := d.gates.filterMap (fun e =>
      if e.2.committed = 0 then none else some (e.1, ({ committed := e.2.committed, inForce := e.2.committed } : Gate)))
    openRequest := !(cause == 1) && d.openRequest
    ocTrips := if cause == 1 then [] else d.ocTrips
    grid := { logImport := d.grid.logImport, logExport := d.grid.logExport }
    ge := { stored := d.ge.stored }
    fuse := { d.fuse with job := none, data := [], step := none, inject := none }
    slotsAB := d.slotsAB
    nonces := d.nonces
    power := {
      cause := cause
      awake := d.phase != .asleep
      held := cause == 2
      low := d.power.low
      tooHigh := d.power.tooHigh
      after := if cause == 6 || d.power.keyAgain then 0 else if d.b Obj.SHUTDOWN_STATE then 1 else d.power.after
      gap := if d.alive && !d.power.saved then some d.meterBound else d.power.gap }
    kept := { d.kept with counts := Tab.put d.kept.counts Obj.RESETS ((min 4294967295 (d.n Obj.RESETS + (if count then 1 else 0)) : Nat) : Int) }
    nfLevel := (cause == 1) || d.b Obj.PIN }

/-- `e` is `d` but for objects, blocks and the contactors' drivers. -/
def Dev.WritesOnly (d e : Dev) : Prop := e = { d with obj := e.obj, blk := e.blk, ctrs := e.ctrs }

theorem Dev.WritesOnly.refl (d : Dev) : d.WritesOnly d := rfl

theorem Dev.WritesOnly.trans {a b c : Dev} (h : a.WritesOnly b) (g : b.WritesOnly c) : a.WritesOnly c := by
  unfold Dev.WritesOnly at h g
  rw [h] at g
  exact g

theorem Dev.WritesOnly.setO {a d : Dev} (h : a.WritesOnly d) (k : Nat) (v : Int) : a.WritesOnly (d.setO k v) := h.trans rfl
theorem Dev.WritesOnly.setBlk {a d : Dev} (h : a.WritesOnly d) (k : Nat) (v : Bytes) : a.WritesOnly (d.setBlk k v) := h.trans rfl
theorem Dev.WritesOnly.updCtr {a d : Dev} (h : a.WritesOnly d) (n : Nat) (f : Ctr → Ctr) : a.WritesOnly (d.updCtr n f) := h.trans rfl

theorem Dev.WritesOnly.when {a d : Dev} (h : a.WritesOnly d) (c : Bool) {f : Dev → Dev} (hf : ∀ d : Dev, d.WritesOnly (f d)) : a.WritesOnly (d.when c f) := by
  cases c
  · exact h
  · exact h.trans (hf d)

theorem Dev.WritesOnly.foldl {α : Type} {a d : Dev} (h : a.WritesOnly d) (l : List α) {f : Dev → α → Dev} (hf : ∀ (d : Dev) x, d.WritesOnly (f d x)) :
    a.WritesOnly (l.foldl f d) := by
  induction l generalizing d with
  | nil => exact h
  | cons x l ih => exact ih (h.trans (hf d x))

theorem Dev.writesOnly_bridgeReset (d old : Dev) (m : Mach) : d.WritesOnly (d.bridgeReset old m) := by
  unfold Dev.bridgeReset
  refine Dev.WritesOnly.when ?_ _ fun d => .setO (.refl d) _ _
  iterate 3 refine Dev.WritesOnly.setO ?_ _ _
  exact .refl d

theorem Dev.writesOnly_linkReset (d old : Dev) (mains : List Nat) : d.WritesOnly (d.linkReset old mains) := by
  have hfold : d.WritesOnly (mains.foldl (fun (d : Dev) s => match old.mainOf s with
      | some n => ((d.updCtr n (fun _ => { on := true, duty := (old.ctrOf n).duty })).setO (at' Obj.STATE_5810 n) 2).setO (at' Obj.ROLE_5810 n)
          (old.o (at' Obj.ROLE_5810 n))
      | none => d) d) := by
    refine Dev.WritesOnly.foldl (.refl d) _ fun d s => ?_
    split
    · exact ((Dev.WritesOnly.updCtr (.refl d) _ _).setO _ _).setO _ _
    · exact .refl d
  unfold Dev.linkReset
  simp only []
  split
  · exact hfold
  · exact (hfold.setO _ _).setO _ _

/-- The objects that a reset writes after it has shown its cause. -/
def resetWrites (k : Nat) : Bool :=
  [Obj.PIN, Obj.E_IMPORT, Obj.E_EXPORT, Obj.LOG_GAPS, Obj.E_UNLOGGED_MAX, Obj.SAR_SPARES_USED, Obj.JOB_STATE, Obj.LINK_CTRL, Obj.PRE_STATE].contains k ||
    [Obj.BRIDGE_STATE, Obj.ABOVE_ASC, Obj.ASC_CAUSE, Obj.ASC_ENTRIES].any (fun x => k == tk .A x || k == tk .B x) ||
    (0x5810 ≤ keyIdx k && keyIdx k ≤ 0x5813 && (keySub k == keySub Obj.STATE_5810 || keySub k == keySub Obj.ROLE_5810))

theorem mem_of_mainOf {d : Dev} {src n : Nat} (h : d.mainOf src = some n) : n < 4 := mem_of_driver h

theorem onlyObjects_bridgeReset (d old : Dev) (m : Mach) : OnlyObjects resetWrites d (d.bridgeReset old m) := by
  have hkey : ∀ x ∈ [Obj.BRIDGE_STATE, Obj.ABOVE_ASC, Obj.ASC_CAUSE, Obj.ASC_ENTRIES], (resetWrites (tk m x) || isStatus (tk m x)) = true := by
    cases m <;> decide
  unfold Dev.bridgeReset
  refine OnlyObjects.when ?_ _ fun _ d => .addSat (.refl d) _ _ (hkey _ (by decide))
  iterate 3 refine OnlyObjects.setO ?_ _ _ (hkey _ (by decide))
  exact .refl d

theorem onlyObjects_linkReset (d old : Dev) (mains : List Nat) : OnlyObjects resetWrites d (d.linkReset old mains) := by
  have hkey : ∀ n < 4, resetWrites (at' Obj.STATE_5810 n) = true ∧ resetWrites (at' Obj.ROLE_5810 n) = true := by decide
  have hfold : OnlyObjects resetWrites d (mains.foldl (fun (d : Dev) s => match old.mainOf s with
      | some n => ((d.updCtr n (fun _ => { on := true, duty := (old.ctrOf n).duty })).setO (at' Obj.STATE_5810 n) 2).setO (at' Obj.ROLE_5810 n)
          (old.o (at' Obj.ROLE_5810 n))
      | none => d) d) := by
    refine OnlyObjects.foldl (.refl d) _ fun d s _ => ?_
    split
    case h_1 n hn =>
      obtain ⟨hstate, hrole⟩ := hkey n (mem_of_mainOf hn)
      exact ((OnlyObjects.of_obj (.refl d) (e := d.updCtr n _) rfl).setO _ _ (by simp [hstate])).setO _ _ (by simp [hrole])
    case h_2 => exact .refl d
  unfold Dev.linkReset
  simp only []
  split
  · exact hfold
  · exact (hfold.setO _ _ (by decide)).setO _ _ (by decide)

/-- The fresh E960 with the objects that pins, retention and counters keep. -/
def Dev.resetShown (d : Dev) (cause : Nat) (ph : Phase) (count : Bool) : Dev :=
  (d.keptObjects (cause == 1) ++ d.kept.counts).foldl (fun d e => d.setO e.1 e.2) (d.resetBase cause ph count)

/-- The fresh E960 with the count and the cause of the reset. -/
def Dev.resetCaused (d : Dev) (cause : Nat) (ph : Phase) (count : Bool) : Dev :=
  ((d.resetShown cause ph count).setO Obj.RESETS ((min 4294967295 (d.n Obj.RESETS + (if count then 1 else 0)) : Nat) : Int)).setO Obj.RESET_CAUSE (cause : Int)

/-- What a reset writes on its fresh E960. -/
theorem Dev.resetTo_onlyObjects (d : Dev) (cause : Nat) (ph : Phase) (count : Bool) :
    OnlyObjects resetWrites (d.resetCaused cause ph count) (d.resetTo cause ph count) := by
  unfold Dev.resetTo
  simp only []
  refine OnlyObjects.when ?_ _ fun _ d => .setO (.refl d) _ _ (by decide)
  refine OnlyObjects.setO ?_ _ _ (by decide)
  refine OnlyObjects.of_obj ?_ (Dev.setBlk_obj _ _ _)
  have hgap (a : Dev) (c : Bool) (h : OnlyObjects resetWrites (d.resetCaused cause ph count) a) : OnlyObjects resetWrites (d.resetCaused cause ph count)
      (a.when c (fun x => (x.addSat Obj.LOG_GAPS).setO Obj.E_UNLOGGED_MAX (d.o Obj.E_UNLOGGED_MAX + d.meterBound))) :=
    h.when _ fun _ x => .setO (.addSat (.refl x) _ _ (by decide)) _ _ (by decide)
  refine iteInduction (motive := fun x => OnlyObjects resetWrites (d.resetCaused cause ph count) x) (fun _ => ?_) fun _ => ?_
  · refine hgap _ _ ?_
    iterate 3 refine OnlyObjects.setO ?_ _ _ (by decide)
    exact OnlyObjects.refl (d.resetCaused cause ph count)
  · refine .trans ?_ (onlyObjects_linkReset _ _ _)
    iterate 2 refine .trans ?_ (onlyObjects_bridgeReset _ _ _)
    refine hgap _ _ ?_
    iterate 3 refine OnlyObjects.setO ?_ _ _ (by decide)
    exact OnlyObjects.refl (d.resetCaused cause ph count)

theorem Dev.writesOnly_resetCaused (d : Dev) (cause : Nat) (ph : Phase) (count : Bool) :
    (d.resetBase cause ph count).WritesOnly (d.resetCaused cause ph count) :=
  ((Dev.WritesOnly.foldl (.refl _) _ fun d _ => .setO (.refl d) _ _).setO _ _).setO _ _

theorem Dev.resetTo_writesOnly (d : Dev) (cause : Nat) (ph : Phase) (count : Bool) :
    (d.resetBase cause ph count).WritesOnly (d.resetTo cause ph count) := by
  have hgap (a : Dev) (c : Bool) (h : (d.resetBase cause ph count).WritesOnly a) : (d.resetBase cause ph count).WritesOnly
      (a.when c (fun x => (x.addSat Obj.LOG_GAPS).setO Obj.E_UNLOGGED_MAX (d.o Obj.E_UNLOGGED_MAX + d.meterBound))) :=
    h.when _ fun x => .setO (.setO (.refl x) _ _) _ _
  unfold Dev.resetTo
  simp only []
  refine Dev.WritesOnly.when ?_ _ fun d => .setO (.refl d) _ _
  refine .setO (.setBlk ?_ _ _) _ _
  refine iteInduction (motive := fun x => (d.resetBase cause ph count).WritesOnly x) (fun _ => ?_) fun _ => ?_
  · refine hgap _ _ ?_
    iterate 3 refine Dev.WritesOnly.setO ?_ _ _
    exact d.writesOnly_resetCaused cause ph count
  · refine .trans ?_ (Dev.writesOnly_linkReset _ _ _)
    iterate 2 refine .trans ?_ (Dev.writesOnly_bridgeReset _ _ _)
    refine hgap _ _ ?_
    iterate 3 refine Dev.WritesOnly.setO ?_ _ _
    exact d.writesOnly_resetCaused cause ph count

/-- An object that a reset writes last with its cause. -/
theorem Dev.o_resetTo_cause (d : Dev) (cause : Nat) (ph : Phase) (count : Bool) : (d.resetTo cause ph count).o Obj.RESET_CAUSE = cause := by
  rw [(d.resetTo_onlyObjects cause ph count).same _ (by decide) (by decide)]
  simp [Dev.resetCaused]

end Sys2Proof.Machine
end

section
/-! The reactions of the supervisor pair and of the holder (R21 to R26, O5). -/

namespace Sys2Proof.Machine

/-! ### A track without source -/

theorem Dev.showsOnly_loseTrack (d : Dev) (t : TrackId) : d.ShowsOnly (d.loseTrack t) := by
  unfold Dev.loseTrack
  split
  · exact .refl d
  · exact .trans (.trans (d.showsOnly_setO _ _) (Dev.showsOnly_event _ _)) (Dev.shows_foldl (fun d k => d.showsOnly_setO k 0) _ _)

/-! ### Missing heartbeats -/

theorem stops_loseTracks (l : List TrackId) (d : Dev) : d.StopsOnly (l.foldl (fun d t => d.loseTrack t) d) :=
  (Dev.shows_foldl Dev.showsOnly_loseTrack l d).stops

/-- A second missing heartbeat of an engine with a fault of its own: the engine is dead, event 0x03 and the fault are raised, and what its
silence stops stops (R21, R54, R512). -/
theorem Dev.heartbeatMissing_stops {d : Dev} {e : Engine} {code : Nat} {dom : Domain} (hdead : engineCode e ∉ d.dead)
    (hfault : heartbeatFault e = some (code, dom)) :
    ∃ x : Dev, Dev.StopsOnly (Dev.raise (Dev.event { d with dead := insertOnce (engineCode e) d.dead } 0x03) code true { ini := engineCode e }) x ∧
      d.heartbeatMissing e = if e = .svc then { x with phase := .engines } else x := by
  have hd : ¬ (d.dead.contains (engineCode e) = true) := by simpa using hdead
  unfold Dev.heartbeatMissing
  simp only [if_neg hd]
  cases e with
  | sup => simp [heartbeatFault] at hfault
  | le n => simp [heartbeatFault] at hfault
  | svc =>
    obtain ⟨rfl, rfl⟩ : 0x0604 = code ∧ Domain.sys = dom := by simpa [heartbeatFault] using hfault
    exact ⟨_, .refl _, (if_pos rfl).symm⟩
  | ge | ce0 | ce1 =>
    obtain ⟨rfl, rfl⟩ : 0x8404 = code ∧ Domain.bom = dom := by simpa [heartbeatFault] using hfault
    exact ⟨_, stops_loseTracks _ _, (if_neg (by decide)).symm⟩
  | ms n =>
    simp only [heartbeatFault, Option.some.injEq] at hfault
    refine ⟨_, .trans ?_ (stops_loseTracks _ _), (if_neg (by simp)).symm⟩
    split at hfault
    case isTrue h =>
      obtain ⟨rfl, -⟩ := Prod.mk.inj hfault
      rw [if_pos h]
      exact Dev.stops_holderStop _ _
    case isFalse h =>
      rw [if_neg h]
      split at hfault
      case isTrue h1 =>
        obtain ⟨rfl, -⟩ := Prod.mk.inj hfault
        rw [if_pos h1]
        exact Dev.stops_holderStop _ _
      case isFalse h1 =>
        rw [if_neg h1]
        split at hfault <;> rename_i h2
        · obtain ⟨rfl, -⟩ := Prod.mk.inj hfault
          rw [if_pos h2]
          exact .refl _
        · obtain ⟨rfl, -⟩ := Prod.mk.inj hfault
          rw [if_neg h2]
          exact .refl _

/-! ### Lockstep, the clock and the holder -/

/-- Sessions 1 to 8 closed one after another. -/
def Dev.closeEach (d : Dev) : Dev := [1, 2, 3, 4, 5, 6, 7, 8].foldl (fun d n => d.closeSession n) d

theorem Dev.sessEnd_closeEach (d : Dev) : d.SessEnd d.closeEach := frame_sessEnd.foldl (frame_sessEnd.refl d) _ fun d n => d.sessEnd_closeSession n

theorem Dev.closed_closeEach (d : Dev) {n : Nat} (hn : 1 ≤ n ∧ n ≤ 8) : d.closeEach.Closed n := by
  refine Dev.closed_foldl_closeSession _ (by decide) d hn (.inl ?_)
  simp only [List.mem_cons, List.not_mem_nil, or_false]
  omega

theorem Dev.onlyObjects_closeEach {ks : Nat → Bool} (hs : ∀ k, isSession k = true → ks k = true) (ht : ∀ k, isTraceCount k = true → ks k = true)
    (d : Dev) : OnlyObjects ks d d.closeEach := by
  have hmem : ∀ n ∈ [1, 2, 3, 4, 5, 6, 7, 8], 1 ≤ n ∧ n ≤ 8 := by decide
  exact OnlyObjects.foldl (.refl d) _ fun d n hn => Dev.onlyObjects_closeSession hs ht d (hmem n hn).1 (hmem n hn).2

theorem sessState_quiet {n : Nat} (h1 : 1 ≤ n) (h8 : n ≤ 8) : isReaction (el Obj.SESSION_STATE n) = false ∧ isStatus (el Obj.SESSION_STATE n) = false := by
  have key : ∀ i : Fin 8, isReaction (el Obj.SESSION_STATE (i.val + 1)) = false ∧ isStatus (el Obj.SESSION_STATE (i.val + 1)) = false := by decide
  obtain ⟨m, rfl⟩ : ∃ m, n = m + 1 := ⟨n - 1, by omega⟩
  exact key ⟨m, by omega⟩

/-- R22: a mismatch of the service pair. -/
theorem svcLockstep_completes (s : State) (halive : s.dev.alive = true) :
    Completes .svcLockstepMismatch s (fun e => e.raised 0x01 ∧ e.inForce 0x0602 .sys ∧
      (∀ n, 1 ≤ n → n ≤ 8 → e.sess n = {} ∧ e.o (el Obj.SESSION_STATE n) = 0) ∧
      ({ s.dev with sessions := e.sessions, couriers := e.couriers, update := e.update } : Dev).RaisesOnly e ∧
      OnlyObjects (fun k => isReaction k || isSession k) s.dev e) := by
  refine completes_live (f := fun d => d.svcLockstep false) rfl halive ?_
  have hend : s.dev.SessEnd (s.dev.event 0x01).closeEach := frame_sessEnd.trans (frame_sessEnd.event (frame_sessEnd.refl _) _) (Dev.sessEnd_closeEach _)
  have hraised : (s.dev.event 0x01).closeEach.raised 0x01 := by
    obtain ⟨hrest, hevq⟩ := (s.dev.event 0x01).sessEnd_closeEach
    have hwall : (s.dev.event 0x01).closeEach.wall = s.dev.wall := by
      obtain ⟨p, hp⟩ := hrest
      rw [hp]
      simp
    unfold Dev.raised
    rw [hwall]
    exact hevq _ (by simp [mem_insertOnce])
  have hobj : OnlyObjects (fun k => isReaction k || isSession k) s.dev (s.dev.event 0x01).closeEach :=
    .trans (.event (.refl _) _ (by simp +contextual)) (Dev.onlyObjects_closeEach (by simp +contextual) (by simp +contextual) _)
  have hclosed : ∀ n, 1 ≤ n ∧ n ≤ 8 → (s.dev.event 0x01).closeEach.Closed n := fun n hn => Dev.closed_closeEach _ hn
  show _ ∧ _
  unfold Dev.svcLockstep
  rw [show [1, 2, 3, 4, 5, 6, 7, 8].foldl (fun d n => d.closeSession n) (s.dev.event 0x01) = (s.dev.event 0x01).closeEach from rfl]
  generalize (s.dev.event 0x01).closeEach = c at *
  refine ⟨?_, ?_, fun n h1 h8 => ?_, ?_, ?_⟩
  · simp [Dev.raised_raiseWith, hraised]
  · simp [Dev.inForce_raiseWith _ _ _ _ _ (show faultClass 0x0602 ≠ 0 by decide)]
  · obtain ⟨hsess, hstate⟩ := hclosed n ⟨h1, h8⟩
    obtain ⟨hr, hst⟩ := sessState_quiet h1 h8
    exact ⟨by simpa [Dev.sess] using hsess, by rw [Dev.o_settle _ hst, Dev.o_raiseWith _ _ _ _ _ _ hr hst, hstate]⟩
  · simpa using frame_raises.settle (frame_raises.raiseWith hend.raises _ _ _ _ _)
  · exact (hobj.raiseWith _ _ _ _ _ (by simp +contextual)).settle

/-- R23: a mismatch of the supervisor pair. -/
theorem supLockstep_completes (s : State) (halive : s.dev.alive = true) :
    Completes .supLockstepMismatch s (fun e => e.raised 0x00 ∧ e.inForce 0x0801 .sys ∧
      ({ s.dev with power := { s.dev.power with due := true } } : Dev).RaisesOnly e ∧ OnlyObjects isReaction s.dev e) := by
  refine completes_live (f := fun d => d.supLockstep false) rfl halive ?_
  unfold Dev.supLockstep
  refine ⟨?_, ?_, ?_, ?_⟩
  · simp [Dev.raised_raiseWith]
  · simp [Dev.inForce_raiseWith _ _ _ _ _ (show faultClass 0x0801 ≠ 0 by decide)]
  · simp +contextual [Dev.raisesOnly_iff, mem_insertOnce]
  · simp +decide +contextual [onlyObjects_iff]

/-- R24: the crystal's clock more than 2 % off. -/
theorem clockCompare_completes (s : State) (ppm : Int) (halive : s.dev.alive = true) (hrc : s.dev.power.rc = false) (hppm : 20000 < ppm.natAbs) :
    Completes (.clockCompare ppm) s (fun e => e.o Obj.CLOCK_FALLBACKS = satU32 (s.dev.o Obj.CLOCK_FALLBACKS + 1) ∧ e.raised 0x02 ∧ e.inForce 0x0203 .sys ∧
      e.inForce 0x348B .grd ∧ ({ s.dev with power := { s.dev.power with rc := true } } : Dev).RaisesOnly e ∧
      OnlyObjects (fun k => k == Obj.CLOCK_FALLBACKS || isReaction k) s.dev e) := by
  refine completes_live (f := fun d => d.clockCompare ppm) rfl halive ?_
  have hfar : ¬ ppm.natAbs ≤ 20000 := by omega
  simp only [Dev.clockCompare, hrc, hfar]
  refine ⟨?_, ?_, ?_, ?_, ?_, ?_⟩
  · simp +decide [Dev.o_eq]
  · simp [Dev.raised_raise]
  · simp +decide [Dev.inForce_keeps_raise, Dev.inForce_raise_on]
  · simp +decide [Dev.inForce_raise_on]
  · simp +contextual [Dev.raisesOnly_iff, mem_insertOnce]
  · simp +decide +contextual [onlyObjects_iff]

theorem Dev.hold_held (d : Dev) (code : Nat) (dom : Domain) : ∃ f ∈ (d.hold code dom).coll.held, f.code = code := by
  unfold Dev.hold
  split
  case isTrue h =>
    obtain ⟨f, hf, hcode⟩ := List.any_eq_true.mp h
    exact ⟨f, hf, by simp at hcode; exact hcode.1⟩
  case isFalse => exact ⟨_, List.mem_append_right _ (List.mem_singleton.mpr rfl), rfl⟩

theorem Dev.hold_eq (d : Dev) (code : Nat) (dom : Domain) : d.hold code dom = { d with coll := (d.hold code dom).coll } := by
  unfold Dev.hold
  split <;> rfl

theorem Dev.raises_hold (d : Dev) (code : Nat) (dom : Domain) : d.RaisesOnly (d.hold code dom) := by
  rw [Dev.hold_eq]
  exact Dev.raisesOnly_iff.mpr ⟨rfl, fun _ h => h⟩

theorem Dev.hold_obj (d : Dev) (code : Nat) (dom : Domain) : (d.hold code dom).obj = d.obj := by rw [Dev.hold_eq]

theorem Dev.RaisesOnly.withPower {d e : Dev} (h : d.RaisesOnly e) (p : Power) : ({ d with power := p } : Dev).RaisesOnly { e with power := p } := by
  obtain ⟨hrest, hevq⟩ := Dev.raisesOnly_iff.mp h
  exact Dev.raisesOnly_iff.mpr ⟨congrArg (fun x : Dev => { x with power := p }) hrest, hevq⟩

theorem Dev.RaisesOnly.withPhase {d e : Dev} (h : d.RaisesOnly e) (p : Phase) : ({ d with phase := p } : Dev).RaisesOnly { e with phase := p } := by
  obtain ⟨hrest, hevq⟩ := Dev.raisesOnly_iff.mp h
  exact Dev.raisesOnly_iff.mpr ⟨congrArg (fun x : Dev => { x with phase := p }) hrest, hevq⟩

theorem OnlyObjects.withPower {ks : Nat → Bool} {d e : Dev} (h : OnlyObjects ks d e) (p : Power) : OnlyObjects ks d { e with power := p } := ⟨h.same⟩

/-- R25: the holder misses the supervisor pair's heartbeat. -/
theorem supervisorHeartbeatTimeout_completes (s : State) (halive : s.dev.alive = true) (halone : s.dev.power.alone = false) :
    Completes .supervisorHeartbeatTimeout s (fun e => e.raised 0x04 ∧ (∃ f ∈ e.coll.held, f.code = 0x0605) ∧ e.o Obj.SAFE_STATE ≠ 0 ∧
      ({ s.dev with power := { s.dev.power with alone := true, due := true } } : Dev).RaisesOnly e ∧ OnlyObjects isReaction s.dev e) := by
  refine completes_live rfl halive ?_
  simp only [halone, if_false, Bool.false_eq_true, Dev.when]
  obtain ⟨f, hf, hcode⟩ := (safeStateAll s.dev).hold_held 0x0605 .sys
  have hobj : OnlyObjects isReaction s.dev ((safeStateAll s.dev).hold 0x0605 .sys) :=
    .of_obj (.safeStateAll (.refl s.dev) fun _ h => h) (Dev.hold_obj ..)
  have hrest : s.dev.RaisesOnly ((safeStateAll s.dev).hold 0x0605 .sys) := frame_raises.trans s.dev.raises_safeStateAll (Dev.raises_hold ..)
  have hpower : ((safeStateAll s.dev).hold 0x0605 .sys).power = s.dev.power := by
    rw [Dev.hold_eq]
    simp
  generalize (safeStateAll s.dev).hold 0x0605 .sys = c at *
  have hlast : ∃ x : Dev, c.ShowsOnly x ∧ x.raised 0x04 ∧ OnlyObjects isReaction c x ∧
      (if decide (s.dev.safeState = 0) = true then (c.event 4).event 6 else c.event 4) = x := by
    refine ⟨_, ?_, ?_, ?_, rfl⟩
    · split
      · exact frame_shows.event (c.showsOnly_event 4) 6
      · exact c.showsOnly_event 4
    · split <;> simp
    · split
      · exact .event (.event (.refl c) _ fun _ => isReaction_trace) _ fun _ => isReaction_trace
      · exact .event (.refl c) _ fun _ => isReaction_trace
  obtain ⟨x, hshow, hraised, hxobj, hx⟩ := hlast
  rw [hx]
  refine ⟨?_, ⟨f, ?_, hcode⟩, ?_, ?_, ?_⟩
  · exact (Dev.raised_settle_iff _ _).mpr hraised
  · obtain ⟨⟨p, rfl⟩, -⟩ := hshow
    simpa using hf
  · rw [Dev.o_settle_safeState]
    simp [Dev.safeState, Dev.classInForce]
    split <;> simp
  · exact frame_raises.settle (Dev.RaisesOnly.withPower (frame_raises.trans hrest hshow.raises) _)
  · exact (OnlyObjects.withPower (hobj.trans hxobj) _).settle

/-- R553: the reset of the supervisor pair that the holder owes. -/
theorem holderSupervisorReset_completes (s : State) (halive : s.dev.alive = true) (hdue : s.dev.power.due = true) :
    Completes .holderSupervisorReset s (fun e => e.phase = .inReset ∧ e.o Obj.RESET_CAUSE = 5 ∧ e.wall = 0 ∧ e.sessions = [] ∧ e.writes = [] ∧
      e.poison = [] ∧ e.coll.active = [] ∧ e.fuse.array = s.dev.fuse.array ∧ e.slotsAB = s.dev.slotsAB ∧ e.kept.recipe = s.dev.kept.recipe) := by
  refine completes_live rfl halive ?_
  simp only [hdue, Dev.when, if_true, Dev.resetNow]
  have hcause := s.dev.o_resetTo_cause 5 .inReset true
  have hrest := s.dev.resetTo_writesOnly 5 .inReset true
  generalize s.dev.resetTo 5 .inReset true = e at *
  unfold Dev.WritesOnly at hrest
  refine ⟨?_, by rw [Dev.o_settle _ (by decide), hcause]; rfl, ?_⟩
  · rw [hrest]
    simp [Dev.resetBase]
  · rw [hrest]
    simp [Dev.resetBase]

/-- The faults of missing heartbeats act on the domain that their code names. -/
theorem heartbeatFault_domain {e : Engine} {code : Nat} {dom : Domain} (h : heartbeatFault e = some (code, dom)) :
    faultClass code ≠ 0 ∧ codeDomain (faultDomain code) = dom := by
  have key : ∀ p ∈ [(0x1404, Domain.tra), (0x2404, .trb), (0x0604, .sys), (0x7404, .act), (0x8404, .bom)],
      faultClass p.1 ≠ 0 ∧ codeDomain (faultDomain p.1) = p.2 := by decide
  refine key (code, dom) ?_
  cases e with
  | sup | le => cases h
  | svc | ge | ce0 | ce1 => cases h; decide
  | ms n =>
    simp only [heartbeatFault, Option.some.injEq] at h
    rw [← h]
    split
    · decide
    · split
      · decide
      · split <;> decide

/-- R21: a second missing heartbeat. -/
theorem heartbeatMissing_completes (s : State) (e : Engine) (code : Nat) (dom : Domain) (halive : s.dev.alive = true)
    (hdead : engineCode e ∉ s.dev.dead) (hfault : heartbeatFault e = some (code, dom)) :
    Completes (.heartbeatMissing e) s (fun d => engineCode e ∈ d.dead ∧ d.raised 0x03 ∧ d.inForce code dom ∧
      ({ s.dev with dead := d.dead, phase := d.phase } : Dev).RaisesOnly d ∧ (d.phase = if e = .svc then .engines else s.dev.phase)) := by
  obtain ⟨hclass, hdom⟩ := heartbeatFault_domain hfault
  obtain ⟨x, hstops, hx⟩ := Dev.heartbeatMissing_stops hdead hfault
  refine completes_live (f := fun d => d.heartbeatMissing e) rfl halive ?_
  let d1 : Dev := Dev.event { s.dev with dead := insertOnce (engineCode e) s.dev.dead } 0x03
  have hin : (d1.raise code true { ini := engineCode e }).inForce code dom := Dev.inForce_raise_on _ _ _ hclass hdom
  have hraised : (d1.raise code true { ini := engineCode e }).raised 0x03 := Dev.raised_raise (by simp [d1]) ..
  have hrest : ({ s.dev with dead := insertOnce (engineCode e) s.dev.dead } : Dev).RaisesOnly x :=
    frame_raises.trans (frame_raises.raise (frame_raises.event (frame_raises.refl _) _) _ _ _) hstops.raises
  have hdeadx : x.dead = insertOnce (engineCode e) s.dev.dead := hstops.dead.trans (by simp)
  have hphase : x.phase = s.dev.phase := hstops.phase.trans (by simp)
  simp only [hx]
  split
  · refine ⟨?_, ?_, ?_, ?_, by simp⟩
    · simp [hdeadx, mem_insertOnce]
    · simpa [Dev.raised] using hstops.raised hraised
    · simpa [Dev.inForce] using hstops.inForce hin
    · have hd : ({ x with phase := .engines } : Dev).settle.dead = insertOnce (engineCode e) s.dev.dead := (Dev.settle_dead _).trans hdeadx
      rw [hd, Dev.settle_phase]
      exact frame_raises.settle (hrest.withPhase .engines)
  · refine ⟨?_, ?_, ?_, ?_, by simp [hphase]⟩
    · simp [hdeadx, mem_insertOnce]
    · exact (Dev.raised_settle_iff _ _).mpr (hstops.raised hraised)
    · exact (Dev.inForce_settle_iff _ _ _).mpr (hstops.inForce hin)
    · simpa [hdeadx, hphase] using frame_raises.settle hrest

/-- Settles O5, clause by clause. -/
theorem supervisorReactions : Obligations.SupervisorReactions :=
  ⟨heartbeatMissing_completes, svcLockstep_completes, supLockstep_completes, clockCompare_completes,
    supervisorHeartbeatTimeout_completes, holderSupervisorReset_completes⟩

end Sys2Proof.Machine
end

section
/-! Spares of the converters and the links of the HV sense nodes (R31, R33 to R35, O6). -/

namespace Sys2Proof.Machine

/-! ### A command's answer, by what its operation gives -/

theorem completes_live_eq {c : Instr} {s : State} {f : Dev → Dev} {p : Dev → Prop} (d : Dev) (h : exec c s = s.live f) (ha : s.dev.alive = true)
    (hf : f s.dev = d) (hp : p d.settle) : Completes c s p := completes_live h ha (hf ▸ hp)

theorem completes_serve_eq {c : Instr} {s : State} {f : Dev → Dev} {p : Dev → Prop} (d : Dev) (h : exec c s = s.serve f) (ha : s.dev.phase = .service)
    (hf : f s.dev = d) (hp : p d.settle) : Completes c s p := completes_serve h ha (hf ▸ hp)

theorem completes_run_eq {c : Instr} {s : State} {f : Dev → Dev} {p : Dev → Prop} (d : Dev) (h : exec c s = s.run f) (hf : f s.dev = d)
    (hp : p d.settle) : Completes c s p := completes_run h (hf ▸ hp)

/-! ### The end of a cause -/

@[simp] theorem Dev.causeGone_obj (d : Dev) (code : Nat) : (d.causeGone code).obj = d.obj := rfl
@[simp] theorem Dev.causeGone_evq (d : Dev) (code : Nat) : (d.causeGone code).evq = d.evq := rfl
@[simp] theorem Dev.unraised_causeGone (d : Dev) (code : Nat) : (d.causeGone code).unraised = d.unraised := rfl

/-! ### Spares -/

section
variable (s : State) (g : Fin 3) (c : Fin 7) (diff : Int) (halive : s.dev.alive = true) (hfree : bitOf (s.dev.o Obj.SAR_SPARES_USED) g = false)
include halive hfree

theorem sarCompare_near (hdiff : diff.natAbs ≤ 50) : Completes (.sarSpareCompare g c diff) s (fun e => Tab.get 0 e.sar (8 * g + c) = 0 ∧
    ({ s.dev with sar := e.sar } : Dev).ShowsOnly e ∧ OnlyObjects (fun _ => false) s.dev e) := by
  refine completes_live (f := fun d => d.sarCompare g c diff) rfl halive ?_
  simp only [Dev.sarCompare, hfree, if_pos hdiff]
  refine ⟨?_, ?_, ?_⟩
  · simp
  · simp +contextual [Dev.showsOnly_iff]
  · simp [onlyObjects_iff]

theorem sarCompare_count (hdiff : 50 < diff.natAbs) (hcount : Tab.get 0 s.dev.sar (8 * g + c) < 2) :
    Completes (.sarSpareCompare g c diff) s (fun e => Tab.get 0 e.sar (8 * g + c) = Tab.get 0 s.dev.sar (8 * g + c) + 1 ∧
      ({ s.dev with sar := e.sar } : Dev).ShowsOnly e ∧ OnlyObjects (fun _ => false) s.dev e) := by
  refine completes_live (f := fun d => d.sarCompare g c diff) rfl halive ?_
  simp only [Dev.sarCompare, hfree, if_neg (show ¬ diff.natAbs ≤ 50 by omega), if_pos hcount]
  refine ⟨?_, ?_, ?_⟩
  · simp
  · simp +contextual [Dev.showsOnly_iff]
  · simp [onlyObjects_iff]

theorem sarCompare_retire (hdiff : 50 < diff.natAbs) (hcount : 2 ≤ Tab.get 0 s.dev.sar (8 * g + c)) :
    Completes (.sarSpareCompare g c diff) s (fun e =>
      e.o Obj.SAR_SPARES_USED = putBit (s.dev.o Obj.SAR_SPARES_USED) g true ∧ e.block Obj.SAR_RETIRED = (s.dev.block Obj.SAR_RETIRED).set g c ∧
      e.raised 0x0D ∧ ({ s.dev with sar := e.sar, blk := e.blk, kept := e.kept } : Dev).RaisesOnly e ∧
      OnlyObjects (fun k => k == Obj.SAR_SPARES_USED || isReaction k) s.dev e) := by
  refine completes_live (f := fun d => d.sarCompare g c diff) rfl halive ?_
  simp only [Dev.sarCompare, hfree, if_neg (show ¬ diff.natAbs ≤ 50 by omega), if_neg (show ¬ Tab.get 0 s.dev.sar (8 * g + c) < 2 by omega), Dev.sarRetire]
  refine ⟨?_, ?_, ?_, ?_, ?_⟩
  · simp +decide [Dev.o_eq]
  · simp [Dev.block]
  · refine (Dev.raised_settle_iff _ _).mpr (Dev.raised_raiseOn ?_ _ _ _ _)
    simp [Dev.raised, Dev.setBit, mem_insertOnce]
  · simp +contextual [Dev.raisesOnly_iff, mem_insertOnce, Dev.unraised, Dev.unstopped, Dev.setBit]
  · simp +decide +contextual [onlyObjects_iff]

end

/-! ### Links -/

/-- A good frame changes what is remembered of the link and the collector. -/
theorem Dev.hnGood_eq (d : Dev) (h : Nat) :
    ∃ c : Collector, d.hnGood h = { d with hnBad := Tab.del d.hnBad h, hnLost := d.hnLost.filter (· != h), coll := c } := by
  unfold Dev.hnGood Dev.when
  split <;> exact ⟨_, rfl⟩

theorem monitorFrame_completes (s : State) (h : Fin 6) (values : List Int) (halive : s.dev.alive = true) :
    Completes (.hnMonitorFrame h values) s (fun e => Tab.get [] e.monitor h = values ∧ Tab.get 0 e.hnBad h = 0 ∧ h.val ∉ e.hnLost ∧
      ({ s.dev with monitor := e.monitor, hnBad := e.hnBad, hnLost := e.hnLost } : Dev).RaisesOnly e ∧ OnlyObjects (fun _ => false) s.dev e) := by
  refine completes_live rfl halive ?_
  obtain ⟨c, hc⟩ := s.dev.hnGood_eq h
  simp only [hc]
  refine ⟨by simp, by simp, by simp, ?_, by simp [onlyObjects_iff]⟩
  simp +contextual [Dev.raisesOnly_iff, Dev.unraised, Dev.unstopped]

/-- A window result of HN0 or HN1 taken in a bridge that modulates (R108, R113). -/
theorem windowResult_traction (s : State) (m : Mach) (p : Fin 3) (neg : Bool) (y : Int) (theta : Nat) (halive : s.dev.alive = true)
    (hstate : s.dev.n (tk m Obj.BRIDGE_STATE) = 1) :
    Completes (.hnWindowResult (if m = .A then 0 else 1) false p neg y theta) s (fun e =>
      (e.tracOf m).windows.head? = some { phase := p, y := (if neg then -1 else 1) * (y - (s.dev.tracOf m).offMean / 64), theta := theta % 65536, age := 0 } ∧
      (e.tracOf m).windows.tail = (s.dev.tracOf m).windows ∧
      ({ s.dev with trac := e.trac, hnBad := e.hnBad, hnLost := e.hnLost } : Dev).RaisesOnly e ∧ OnlyObjects (fun _ => false) s.dev e) := by
  obtain ⟨c, hc⟩ := s.dev.hnGood_eq (mnum m)
  refine completes_live_eq ((s.dev.hnGood (mnum m)).currentWindow m p neg y (theta % 65536)) rfl halive ?_ ?_
  · have hmod : [1, 2].contains ((s.dev.hnGood (mnum m)).n (tk m Obj.BRIDGE_STATE)) = true := by
      rw [hc]
      exact (congrArg (List.contains [1, 2]) hstate : [1, 2].contains (s.dev.n (tk m Obj.BRIDGE_STATE)) = true)
    cases m <;> simp only [Bool.false_eq_true, if_false, if_true, reduceCtorEq, Fin.isValue] <;> exact if_pos hmod
  · rw [hc]
    refine ⟨?_, ?_, ?_, ?_⟩
    · simp [Dev.currentWindow, Dev.updTrac, Dev.tracOf]
    · simp [Dev.currentWindow, Dev.updTrac, Dev.tracOf]
    · simp +contextual [Dev.currentWindow, Dev.updTrac, Dev.raisesOnly_iff, Dev.unraised, Dev.unstopped]
    · simp [Dev.currentWindow, Dev.updTrac, onlyObjects_iff]

theorem windowResult_other (s : State) (h : Fin 6) (off : Bool) (p : Fin 3) (neg : Bool) (y : Int) (theta : Nat) (halive : s.dev.alive = true)
    (hh : 2 ≤ h.val) : Completes (.hnWindowResult h off p neg y theta) s (fun e => Tab.get 0 e.hnLast h = y ∧
      ({ s.dev with hnLast := e.hnLast, hnBad := e.hnBad, hnLost := e.hnLost } : Dev).RaisesOnly e ∧ OnlyObjects (fun _ => false) s.dev e) := by
  refine completes_live rfl halive ?_
  obtain ⟨c, hc⟩ := s.dev.hnGood_eq h
  have h0 : h ≠ 0 := by rintro rfl; simp at hh
  have h1 : h ≠ 1 := by rintro rfl; simp at hh
  simp only [hc, if_neg h0, if_neg h1]
  refine ⟨by simp, ?_, by simp [onlyObjects_iff]⟩
  simp +contextual [Dev.raisesOnly_iff, Dev.unraised, Dev.unstopped]

/-! ### Lost links -/

theorem hnFault_fields (h : Fin 6) : faultDomain (hnFault h) = h.val + 1 ∧ faultClass (hnFault h) = if h.val = 5 then 3 else 2 := by
  have := h.isLt
  unfold hnFault faultDomain faultClass
  split <;> omega

theorem Dev.linkLost_raises (d : Dev) (h : Nat) (i : Bool) (hl : h ∉ d.hnLost) :
    d.linkLost h i = Dev.raiseWith { d with hnLost := insertOnce h d.hnLost } (hnFault h) (codeDomain (h + 1)) { ini := 0x30 + h, acc := 6 } true i := by
  unfold Dev.linkLost
  rw [if_neg (by simpa using hl)]

theorem Dev.linkLost_inForce (d : Dev) (h : Fin 6) (i : Bool) (hl : h.val ∉ d.hnLost) :
    h.val ∈ (d.linkLost h i).hnLost ∧ ∃ code, (d.linkLost h i).inForce code (codeDomain (h.val + 1)) ∧ faultDomain code = h.val + 1 ∧
      faultClass code = if h.val = 5 then 3 else 2 := by
  obtain ⟨hdom, hclass⟩ := hnFault_fields h
  rw [d.linkLost_raises _ _ hl]
  refine ⟨by simp [mem_insertOnce], _, Dev.inForce_raiseWith _ _ _ _ _ ?_, hdom, hclass⟩
  rw [hclass]
  split <;> decide

theorem linkLost_completes (s : State) (h : Fin 6) (halive : s.dev.alive = true) (hl : h.val ∉ s.dev.hnLost) :
    Completes (.hnLinkLost h) s (fun e => h.val ∈ e.hnLost ∧ (∃ code, e.inForce code (codeDomain (h.val + 1)) ∧ faultDomain code = h.val + 1 ∧
      faultClass code = if h.val = 5 then 3 else 2) ∧ ({ s.dev with hnLost := e.hnLost } : Dev).RaisesOnly e ∧ OnlyObjects isReaction s.dev e) := by
  refine completes_live (f := fun d => d.linkLost h false) rfl halive ?_
  obtain ⟨hlost, code, hin, hcode⟩ := s.dev.linkLost_inForce h false hl
  refine ⟨by simpa using hlost, ⟨code, by simpa using hin, hcode⟩, ?_, ?_⟩
  · simp +contextual [s.dev.linkLost_raises _ _ hl, Dev.raisesOnly_iff]
  · simp [s.dev.linkLost_raises _ _ hl, onlyObjects_iff]

/-! ### Bad frames -/

/-- `d` with a bad frame of node `h` counted. -/
def Dev.badCounted (d : Dev) (h : Nat) : Dev := { d with hnBad := Tab.upd 0 d.hnBad h (· + 1), hnCount := Tab.upd 0 d.hnCount h (· + 1) }

theorem Dev.badFrame_eq (d : Dev) (h : Nat) (i : Bool) :
    d.badFrame h i = if 3 ≤ Tab.get 0 d.hnBad h then (d.badCounted h).linkLost h i else d.badCounted h := by
  unfold Dev.badFrame Dev.when
  simp [Dev.badCounted]

theorem badFrame_counts (s : State) (h : Fin 6) (halive : s.dev.alive = true) (hbad : Tab.get 0 s.dev.hnBad h < 3) :
    Completes (.hnBadFrame h false) s (fun e => Tab.get 0 e.hnBad h = Tab.get 0 s.dev.hnBad h + 1 ∧ Tab.get 0 e.hnCount h = Tab.get 0 s.dev.hnCount h + 1 ∧
      ({ s.dev with hnBad := e.hnBad, hnCount := e.hnCount } : Dev).ShowsOnly e ∧ OnlyObjects (fun _ => false) s.dev e) := by
  refine completes_live rfl halive ?_
  simp only [Dev.badFrame_eq, if_neg (show ¬ 3 ≤ Tab.get 0 s.dev.hnBad h by omega), Bool.false_and, Dev.when, Bool.false_eq_true, if_false, Dev.badCounted]
  refine ⟨by simp, by simp, ?_, by simp [onlyObjects_iff]⟩
  simp +contextual [Dev.showsOnly_iff]

theorem badFrame_loses (s : State) (h : Fin 6) (w : Bool) (halive : s.dev.alive = true) (hbad : 3 ≤ Tab.get 0 s.dev.hnBad h) (hl : h.val ∉ s.dev.hnLost) :
    Completes (.hnBadFrame h w) s (fun e => h.val ∈ e.hnLost ∧ (∃ code, e.inForce code (codeDomain (h.val + 1)) ∧ faultDomain code = h.val + 1 ∧
      faultClass code = if h.val = 5 then 3 else 2)) := by
  refine completes_live rfl halive ?_
  obtain ⟨hlost, code, hin, hcode⟩ := (s.dev.badCounted h).linkLost_inForce h false hl
  simp only [Dev.badFrame_eq, if_pos hbad, Dev.when, Dev.windowLost]
  split
  · exact ⟨by simpa [Dev.addSat] using hlost, code, by simpa [Dev.inForce, Dev.addSat] using hin, hcode⟩
  · exact ⟨by simpa using hlost, code, by simpa using hin, hcode⟩

theorem badFrame_window (s : State) (m : Mach) (halive : s.dev.alive = true) (hbad : Tab.get 0 s.dev.hnBad (mnum m) < 3) :
    Completes (.hnBadFrame (if m = .A then 0 else 1) true) s (fun e => e.raised (0x3C + if m = .A then 0 else 0x20) ∧
      e.o (tk m Obj.WINDOWS_LOST) = satU32 (s.dev.o (tk m Obj.WINDOWS_LOST) + 1)) := by
  refine completes_live_eq ((s.dev.badCounted (mnum m)).windowLost m) rfl halive ?_ ?_
  · have hfew : s.dev.badFrame (mnum m) false = s.dev.badCounted (mnum m) := by rw [Dev.badFrame_eq, if_neg (by omega)]
    cases m <;> exact congrArg (fun d : Dev => d.windowLost _) hfew
  · cases m <;> refine ⟨by simp [Dev.windowLost, mev, mnum], ?_⟩ <;> simp +decide [Dev.windowLost, Dev.o_eq, Dev.badCounted]

/-- Settles O6, clause by clause. -/
theorem sparesAndLinks : Obligations.SparesAndLinks :=
  ⟨fun s g c diff ha hf => ⟨sarCompare_near s g c diff ha hf, sarCompare_count s g c diff ha hf, sarCompare_retire s g c diff ha hf⟩,
    monitorFrame_completes, badFrame_counts, badFrame_loses, badFrame_window, linkLost_completes, windowResult_traction, windowResult_other⟩

end Sys2Proof.Machine
end

section
/-! Tracks: their objects, their motion while no slot is armed, and O7 (R47 to R54). -/

namespace Sys2Proof.Machine

/-! ### The objects of a track -/

/-- The objects of a track that its motion writes. -/
def motionKeys (t : TrackId) : List Nat := [t.valueKey, t.rateKey, t.dirKey, t.validKey]

theorem motionKeys_nodup (t : TrackId) : (motionKeys t).Nodup := by
  cases t with
  | wall | angA | angB | mains | gnd => decide
  | ax k =>
    simp only [motionKeys, TrackId.valueKey, TrackId.rateKey, TrackId.dirKey, TrackId.validKey, TrackId.code, at', Obj.VALUE, Obj.RATE, Obj.DIRECTION,
      Obj.VALID_3000, List.nodup_cons, List.mem_cons, List.not_mem_nil, or_false, not_or, List.nodup_nil, not_false_eq_true, and_true]
    omega
  | row n =>
    simp only [motionKeys, TrackId.valueKey, TrackId.rateKey, TrackId.dirKey, TrackId.validKey, el, Obj.ROW_VALUE, Obj.ROW_RATE, Obj.ROW_DIRECTION,
      Obj.ROW_VALID, List.nodup_cons, List.mem_cons, List.not_mem_nil, or_false, not_or, List.nodup_nil, not_false_eq_true, and_true]
    omega

theorem motionKeys_index (t : TrackId) : ∀ k ∈ motionKeys t, 0x3000 ≤ k / 256 ∧ k / 256 ≤ 0x3013 := by
  cases t with
  | wall | angA | angB | mains | gnd => decide
  | ax k =>
    simp only [motionKeys, TrackId.valueKey, TrackId.rateKey, TrackId.dirKey, TrackId.validKey, TrackId.code, at', Obj.VALUE, Obj.RATE, Obj.DIRECTION,
      Obj.VALID_3000, List.forall_mem_cons, List.not_mem_nil, false_imp_iff, implies_true, and_true]
    omega
  | row n =>
    simp only [motionKeys, TrackId.valueKey, TrackId.rateKey, TrackId.dirKey, TrackId.validKey, el, Obj.ROW_VALUE, Obj.ROW_RATE, Obj.ROW_DIRECTION,
      Obj.ROW_VALID, List.forall_mem_cons, List.not_mem_nil, false_imp_iff, implies_true, and_true]
    omega

theorem motionKey_status {t : TrackId} {k : Nat} (h : k ∈ motionKeys t) : isStatus k = false ∧ isTraceCount k = false := by
  have := motionKeys_index t k h
  refine ⟨isStatus_false ?_, isTraceCount_false ?_⟩
  · simp only [List.forall_mem_cons, List.not_mem_nil, false_imp_iff, implies_true, and_true]
    omega
  · omega

section
variable (t : TrackId)
@[simp] theorem isStatus_valueKey : isStatus t.valueKey = false := (motionKey_status (t := t) (by simp [motionKeys])).1
@[simp] theorem isStatus_rateKey : isStatus t.rateKey = false := (motionKey_status (t := t) (by simp [motionKeys])).1
@[simp] theorem isStatus_dirKey : isStatus t.dirKey = false := (motionKey_status (t := t) (by simp [motionKeys])).1
@[simp] theorem isStatus_validKey : isStatus t.validKey = false := (motionKey_status (t := t) (by simp [motionKeys])).1
@[simp] theorem isTraceCount_valueKey : isTraceCount t.valueKey = false := (motionKey_status (t := t) (by simp [motionKeys])).2
@[simp] theorem isTraceCount_rateKey : isTraceCount t.rateKey = false := (motionKey_status (t := t) (by simp [motionKeys])).2
@[simp] theorem isTraceCount_dirKey : isTraceCount t.dirKey = false := (motionKey_status (t := t) (by simp [motionKeys])).2
@[simp] theorem isTraceCount_validKey : isTraceCount t.validKey = false := (motionKey_status (t := t) (by simp [motionKeys])).2

theorem motionKeys_distinct : (t.valueKey ≠ t.rateKey ∧ t.valueKey ≠ t.dirKey ∧ t.valueKey ≠ t.validKey) ∧
    (t.rateKey ≠ t.dirKey ∧ t.rateKey ≠ t.validKey) ∧ t.dirKey ≠ t.validKey := by
  simpa [motionKeys] using motionKeys_nodup t
@[simp] theorem valueKey_ne_rateKey : t.valueKey ≠ t.rateKey := (motionKeys_distinct t).1.1
@[simp] theorem valueKey_ne_dirKey : t.valueKey ≠ t.dirKey := (motionKeys_distinct t).1.2.1
@[simp] theorem valueKey_ne_validKey : t.valueKey ≠ t.validKey := (motionKeys_distinct t).1.2.2
@[simp] theorem rateKey_ne_dirKey : t.rateKey ≠ t.dirKey := (motionKeys_distinct t).2.1.1
@[simp] theorem rateKey_ne_validKey : t.rateKey ≠ t.validKey := (motionKeys_distinct t).2.1.2
@[simp] theorem validKey_ne_dirKey : t.validKey ≠ t.dirKey := (motionKeys_distinct t).2.2.symm
@[simp] theorem validKey_ne_rateKey : t.validKey ≠ t.rateKey := (motionKeys_distinct t).2.1.2.symm
@[simp] theorem rateKey_ne_valueKey : t.rateKey ≠ t.valueKey := (motionKeys_distinct t).1.1.symm
@[simp] theorem validKey_ne_valueKey : t.validKey ≠ t.valueKey := (motionKeys_distinct t).1.2.2.symm
end

/-! ### Track motion while no slot is armed -/

theorem Dev.crossed_nil {d : Dev} (h : d.slots = []) (t : TrackId) (a b : Int) : d.crossed t a b = [] := by
  unfold Dev.crossed
  rw [h]
  rfl

theorem Dev.runWaiting_nil {d : Dev} (h : d.slots = []) (t : TrackId) : d.runWaiting t = d := by
  unfold Dev.runWaiting Dev.waiting
  rw [h]
  rfl

theorem Dev.trackWrites_nil {d : Dev} (h : d.writes = []) (t : TrackId) : d.trackWrites t = d := by
  unfold Dev.trackWrites
  simp only [h, List.filter_nil, List.foldl_nil]
  rw [← h]

theorem Dev.moveTo_noSlots {d : Dev} (h : d.slots = []) (t : TrackId) (b : Int) (j : Bool) :
    d.moveTo t b j = ((d.setValue t b).direction t).passHooks t (d.value t) (d.value t + t.diff (d.value t) b) := by
  unfold Dev.moveTo
  simp [Dev.crossed_nil h]

/-- The tracks whose motion starts nothing of the firmware (R79, R122, R236). -/
def plainTrack (t : TrackId) : Prop := t = .gnd ∨ (∃ k, t = .ax k) ∨ ∃ n, t = .row n

theorem plainTrack.ne_wall {t : TrackId} (h : plainTrack t) : t ≠ .wall := by
  rcases h with rfl | ⟨_, rfl⟩ | ⟨_, rfl⟩ <;> exact TrackId.noConfusion

theorem Dev.passHooks_plain {t : TrackId} (h : plainTrack t) (d : Dev) (a b : Int) : d.passHooks t a b = d := by
  rcases h with rfl | ⟨_, rfl⟩ | ⟨_, rfl⟩ <;> rfl

theorem Dev.setValue_of_ne_wall {t : TrackId} (h : t ≠ .wall) (d : Dev) (x : Int) : d.setValue t x = d.setO t.valueKey (t.wrap x) := by
  cases t with
  | wall => exact absurd rfl h
  | angA | angB | mains | gnd | ax | row => rfl

theorem Dev.value_of_ne_wall {t : TrackId} (h : t ≠ .wall) (d : Dev) : d.value t = d.o t.valueKey := by
  cases t with
  | wall => exact absurd rfl h
  | angA | angB | mains | gnd | ax | row => rfl

/-- `e` is `d` but for the tracks' hidden state, objects, events and the trace. -/
def Dev.TracksOnly (d e : Dev) : Prop := ({ d with tracks := e.tracks } : Dev).ShowsOnly e

theorem Dev.tracksOnly_iff {d e : Dev} : d.TracksOnly e ↔
    ({ e.unshown with tracks := [] } : Dev) = { d.unshown with tracks := [] } ∧ ∀ x ∈ d.evq, x ∈ e.evq := by
  unfold Dev.TracksOnly
  rw [Dev.showsOnly_iff]
  exact and_congr_left fun _ => ⟨congrArg fun x : Dev => { x with tracks := [] }, congrArg fun x : Dev => { x with tracks := e.tracks }⟩

theorem frame_tracks : Frame Dev.TracksOnly where
  refl d := Dev.tracksOnly_iff.mpr ⟨rfl, fun _ h => h⟩
  trans h g := by
    obtain ⟨h1, h2⟩ := Dev.tracksOnly_iff.mp h
    obtain ⟨g1, g2⟩ := Dev.tracksOnly_iff.mp g
    exact Dev.tracksOnly_iff.mpr ⟨g1.trans h1, fun x hx => g2 x (h2 x hx)⟩
  shows h := Dev.tracksOnly_iff.mpr ⟨congrArg (fun x : Dev => { x with tracks := [] }) h.unshown, h.2⟩

theorem Dev.tracksOnly_updTrack (d : Dev) (t : TrackId) (f : Track → Track) : d.TracksOnly (d.updTrack t f) :=
  Dev.tracksOnly_iff.mpr ⟨rfl, fun _ h => h⟩

@[simp] theorem Dev.updTrack_obj (d : Dev) (t : TrackId) (f : Track → Track) : (d.updTrack t f).obj = d.obj := rfl
@[simp] theorem Dev.updTrack_evq (d : Dev) (t : TrackId) (f : Track → Track) : (d.updTrack t f).evq = d.evq := rfl
@[simp] theorem Dev.updTrack_wall (d : Dev) (t : TrackId) (f : Track → Track) : (d.updTrack t f).wall = d.wall := rfl
@[simp] theorem Dev.raised_updTrack_iff (d : Dev) (t : TrackId) (f : Track → Track) (x : Nat) : (d.updTrack t f).raised x ↔ d.raised x := Iff.rfl
@[simp] theorem Dev.trk_updTrack (d : Dev) (t : TrackId) (f : Track → Track) : (d.updTrack t f).trk t = f (d.trk t) := by simp [Dev.updTrack, Dev.trk]

/-! ### The direction of a track -/

/-- The three things a move can do to the direction: nothing, a new extreme, or a reversal with its event (R49). -/
theorem Dev.direction_cases (d : Dev) (t : TrackId) :
    let extreme (k : Track) : Track := { k with extreme := d.value t }
    d.direction t = d ∨ d.direction t = d.updTrack t extreme ∨ ∃ x : Int, d.direction t = ((d.setO t.dirKey x).updTrack t extreme).event 0xF3 := by
  unfold Dev.direction
  cases t.hysteresis with
  | none => exact .inl rfl
  | some h =>
    simp only []
    generalize (if (d.o t.dirKey != 2) = true then t.diff (d.trk t).extreme (d.value t) else t.diff (d.value t) (d.trk t).extreme) = ahead
    by_cases h0 : 0 ≤ ahead
    · rw [if_pos h0]
      exact .inr (.inl rfl)
    · rw [if_neg h0]
      by_cases h1 : (h : Int) ≤ -ahead
      · rw [if_pos h1]
        exact .inr (.inr ⟨_, rfl⟩)
      · rw [if_neg h1]
        exact .inl rfl

theorem Dev.tracksOnly_direction (d : Dev) (t : TrackId) : d.TracksOnly (d.direction t) := by
  rcases d.direction_cases t with h | h | ⟨x, h⟩ <;> rw [h]
  · exact frame_tracks.refl d
  · exact d.tracksOnly_updTrack _ _
  · exact frame_tracks.event (frame_tracks.trans (frame_tracks.setO (frame_tracks.refl d) _ _) (Dev.tracksOnly_updTrack _ _ _)) _

/-- What a change of direction writes of the dictionary: DIRECTION and the trace counts. -/
theorem Dev.onlyObjects_direction {ks : Nat → Bool} (d : Dev) (t : TrackId) (hdir : ks t.dirKey = true) (ht : ∀ k, isTraceCount k = true → ks k = true) :
    OnlyObjects ks d (d.direction t) := by
  rcases d.direction_cases t with h | h | ⟨x, h⟩ <;> rw [h]
  · exact .refl d
  · exact .of_obj (.refl d) rfl
  · exact .event (.of_obj (.setO (.refl d) _ _ (by simp [hdir])) (Dev.updTrack_obj _ _ _)) _ ht

theorem Dev.holding_direction (d : Dev) (t : TrackId) : ((d.direction t).trk t).holding = (d.trk t).holding := by
  rcases d.direction_cases t with h | h | ⟨x, h⟩ <;> rw [h]
  · simp
  · simp [Dev.trk, Dev.updTrack]

/-! ### Motion and extrapolation -/

section
variable {ks : Nat → Bool} {t : TrackId} (hp : plainTrack t) {d : Dev} (hs : d.slots = [])
include hp hs

theorem Dev.moveTo_plain (b : Int) (j : Bool) : d.moveTo t b j = (d.setO t.valueKey (t.wrap b)).direction t := by
  rw [Dev.moveTo_noSlots hs, Dev.passHooks_plain hp, Dev.setValue_of_ne_wall hp.ne_wall]

theorem Dev.tracksOnly_moveTo (b : Int) (j : Bool) : d.TracksOnly (d.moveTo t b j) := by
  rw [Dev.moveTo_plain hp hs]
  exact frame_tracks.trans (frame_tracks.setO (frame_tracks.refl d) _ _) (Dev.tracksOnly_direction _ t)

theorem Dev.onlyObjects_moveTo (hval : ks t.valueKey = true) (hdir : ks t.dirKey = true) (ht : ∀ k, isTraceCount k = true → ks k = true) (b : Int)
    (j : Bool) : OnlyObjects ks d (d.moveTo t b j) := by
  rw [Dev.moveTo_plain hp hs]
  exact .trans (.setO (.refl d) _ _ (by simp [hval])) (Dev.onlyObjects_direction _ t hdir ht)

/-- An object of the track that motion leaves reads as before. -/
theorem Dev.o_moveTo {k : Nat} (h : k ≠ t.valueKey ∧ k ≠ t.dirKey) (htrace : isTraceCount k = false) (hst : isStatus k = false) (b : Int) (j : Bool) :
    (d.moveTo t b j).o k = d.o k := by
  have hobj := Dev.onlyObjects_moveTo (ks := fun i => i == t.valueKey || i == t.dirKey || isTraceCount i) hp hs (by simp) (by simp)
    (by simp +contextual) b j
  exact hobj.same k (by simp [h, htrace]) hst

theorem Dev.o_moveTo_value (b : Int) (j : Bool) : (d.moveTo t b j).o t.valueKey = t.wrap b := by
  rw [Dev.moveTo_plain hp hs]
  rw [(Dev.onlyObjects_direction (ks := fun i => i == t.dirKey || isTraceCount i) _ t (by simp) (by simp +contextual)).same _ (by simp) (by simp)]
  simp

theorem Dev.slots_moveTo (b : Int) (j : Bool) : (d.moveTo t b j).slots = [] := (Dev.tracksOnly_moveTo hp hs b j).slots.trans hs

end

/-- Extrapolation changes a track's hidden state, with or without a motion (R47, R52). -/
theorem Dev.extrapolate_cases {t : TrackId} (hp : plainTrack t) (d : Dev) :
    ∃ ts : Tab Track, d.extrapolate t = { d with tracks := ts } ∨ ∃ v, d.extrapolate t = Dev.moveTo { d with tracks := ts } t v false := by
  rcases hp with rfl | ⟨k, rfl⟩ | ⟨n, rfl⟩
  all_goals
    unfold Dev.extrapolate
    simp only []
    split
    · exact ⟨_, .inl rfl⟩
    · split
      · split
        · exact ⟨_, .inr ⟨_, rfl⟩⟩
        · exact ⟨_, .inl rfl⟩
      · exact ⟨_, .inr ⟨_, rfl⟩⟩

section
variable {ks : Nat → Bool} {t : TrackId} (hp : plainTrack t) {d : Dev} (hs : d.slots = [])
include hp hs

theorem Dev.tracksOnly_extrapolate : d.TracksOnly (d.extrapolate t) := by
  obtain ⟨ts, h | ⟨v, h⟩⟩ := d.extrapolate_cases hp <;> rw [h]
  · exact Dev.tracksOnly_iff.mpr ⟨rfl, fun _ h => h⟩
  · exact frame_tracks.trans (b := { d with tracks := ts }) (Dev.tracksOnly_iff.mpr ⟨rfl, fun _ h => h⟩)
      (Dev.tracksOnly_moveTo hp (d := { d with tracks := ts }) hs v false)

theorem Dev.onlyObjects_extrapolate (hval : ks t.valueKey = true) (hdir : ks t.dirKey = true) (ht : ∀ k, isTraceCount k = true → ks k = true) :
    OnlyObjects ks d (d.extrapolate t) := by
  obtain ⟨ts, h | ⟨v, h⟩⟩ := d.extrapolate_cases hp <;> rw [h]
  · exact ⟨fun _ _ _ => rfl⟩
  · exact ⟨(Dev.onlyObjects_moveTo hp (d := { d with tracks := ts }) hs hval hdir ht v false).same⟩

end

/-- A valid track that does not hold and has no limit extrapolates by its rate, with its remainder (R47). -/
theorem Dev.extrapolate_free {t : TrackId} (hp : plainTrack t) (d : Dev) (hvalid : d.b t.validKey = true) (hhold : (d.trk t).holding = false)
    (hlimit : (d.trk t).limit = none) : ∃ f, d.extrapolate t =
      (d.updTrack t f).moveTo t (d.o t.valueKey + (d.o t.rateKey * ((d.wall : Int) - (d.trk t).at_) + (d.trk t).rem) / 1000000000) false := by
  have hx : d.extrapolated t (d.value t) =
      (d.o t.valueKey + (d.o t.rateKey * ((d.wall : Int) - (d.trk t).at_) + (d.trk t).rem) / 1000000000,
        (d.o t.rateKey * ((d.wall : Int) - (d.trk t).at_) + (d.trk t).rem) % 1000000000) := by
    unfold Dev.extrapolated
    simp only [hlimit, Dev.value_of_ne_wall hp.ne_wall]
  rcases hp with rfl | ⟨k, rfl⟩ | ⟨n, rfl⟩
  all_goals
    unfold Dev.extrapolate
    simp only [hvalid, hhold, Bool.not_true, Bool.false_eq_true, if_false, hx]
    exact ⟨_, rfl⟩

/-! ### Source updates -/

/-- The update's rate and instant on record, the limit gone (R47, R52). -/
def Dev.stamped (d : Dev) (t : TrackId) (rate : Int) : Dev := (d.setO t.rateKey rate).updTrack t (fun k => { k with at_ := d.wall, limit := none })

/-- The first update: value, rate and VALID, and event 0xF5 (R51). -/
theorem Dev.sourceUpdate_first {t : TrackId} (hwall : t ≠ .wall) {d : Dev} (hslots : d.slots = []) (hwrites : d.writes = [])
    (hstart : (d.trk t).started = false) (v rate : Int) : d.sourceUpdate t v rate false =
      (((((d.stamped t rate).setB t.validKey true).event 0xF5).updTrack t
        (fun k => { k with started := true, holding := false, rem := 0, extreme := t.wrap v })).setO t.valueKey (t.wrap v)) := by
  unfold Dev.sourceUpdate
  cases t with
  | wall => exact absurd rfl hwall
  | angA | angB | mains | gnd | ax | row =>
    simp only [hstart, Bool.not_false, Bool.or_true, if_true, Bool.false_and, Bool.false_eq_true, if_false, Dev.setValue_of_ne_wall hwall]
    rw [Dev.runWaiting_nil, Dev.trackWrites_nil]
    · rfl
    · simpa [Dev.updTrack, Dev.setB] using hwrites
    · simpa [Dev.updTrack, Dev.setB] using hslots

section
variable {ks : Nat → Bool} {t : TrackId} (hp : plainTrack t) {d : Dev} (hs : d.slots = [])

/-- A jump up to its motion: event 0xF2 and, but for the rows, the count (R53). -/
def Dev.jumped (d : Dev) (t : TrackId) : Dev :=
  ((d.event 0xF2).when (!t.isRow) (fun d => d.addSat (at' Obj.JUMPS t.code))).updTrack t (fun k => { k with holding := false, rem := 0 })

theorem Dev.jumpTo_eq (d : Dev) (t : TrackId) (v : Int) : d.jumpTo t v = (d.jumped t).moveTo t v true := rfl

theorem Dev.tracksOnly_jumped (d : Dev) (t : TrackId) : d.TracksOnly (d.jumped t) :=
  frame_tracks.trans (frame_tracks.when (frame_tracks.event (frame_tracks.refl d) _) _ fun d => frame_tracks.addSat (frame_tracks.refl d) _ _)
    (Dev.tracksOnly_updTrack _ _ _)

theorem jumpsKey_notMem (h : t.isRow = false) : at' Obj.JUMPS t.code ∉ motionKeys t := by
  cases t with
  | wall | angA | angB | mains | gnd => decide
  | ax k => revert k; decide
  | row n => exact absurd h (by simp [TrackId.isRow])

/-- A jump counts in JUMPS and leaves the motion's objects to the motion. -/
theorem Dev.o_jumped (d : Dev) {k : Nat} (h : k ∈ motionKeys t) : (d.jumped t).o k = d.o k := by
  unfold Dev.jumped Dev.when
  split
  · rename_i hr
    have hne : k ≠ at' Obj.JUMPS t.code := by rintro rfl; exact jumpsKey_notMem (by simpa using hr) h
    simp [Dev.o_eq, hne, (motionKey_status h).2]
  · simp [Dev.o_eq, (motionKey_status h).2]

theorem Dev.raised_jumped (d : Dev) : (d.jumped t).raised 0xF2 := by
  unfold Dev.jumped Dev.when
  split <;> simp

theorem Dev.onlyObjects_jumped (hj : t.isRow = false → ks (at' Obj.JUMPS t.code) = true) (ht : ∀ k, isTraceCount k = true → ks k = true) (d : Dev) :
    OnlyObjects ks d (d.jumped t) := by
  unfold Dev.jumped Dev.when
  refine .of_obj ?_ (Dev.updTrack_obj _ _ _)
  split
  · rename_i hr
    exact .addSat (.event (.refl d) _ ht) _ _ (by simp [hj (by simpa using hr)])
  · exact .event (.refl d) _ ht

include hp hs

theorem Dev.tracksOnly_jumpTo (v : Int) : d.TracksOnly (d.jumpTo t v) :=
  frame_tracks.trans (d.tracksOnly_jumped t) (Dev.tracksOnly_moveTo hp ((d.tracksOnly_jumped t).slots.trans hs) v true)

end

/-- A jump beyond STEP_LIMIT of a valid track (R53). -/
theorem Dev.sourceUpdate_jump {t : TrackId} (hp : plainTrack t) {d : Dev} (hslots : d.slots = []) (hwrites : d.writes = [])
    (hvalid : d.b t.validKey = true) (hstart : (d.trk t).started = true) (v rate : Int)
    (hfar : (d.extrapolate t).o t.stepKey < (t.diff ((d.extrapolate t).value t) v).natAbs) :
    d.sourceUpdate t v rate false = ((d.extrapolate t).stamped t rate).jumpTo t v := by
  have hwall := hp.ne_wall
  have hx := Dev.tracksOnly_extrapolate hp hslots
  have hw : (((d.extrapolate t).stamped t rate).jumpTo t v).writes = [] := (Dev.tracksOnly_jumpTo hp (d := (d.extrapolate t).stamped t rate)
    (by simpa [Dev.stamped, Dev.updTrack] using hx.slots.trans hslots) v).writes.trans
      (by simpa [Dev.stamped, Dev.updTrack] using hx.writes.trans hwrites)
  unfold Dev.sourceUpdate
  cases t with
  | wall => exact absurd rfl hwall
  | angA | angB | mains | gnd | ax | row =>
    simp only [hstart, hvalid, Bool.not_true, Bool.or_false, Bool.false_eq_true, if_false, Bool.false_or, hfar, decide_true, if_true]
    exact Dev.trackWrites_nil hw _

/-! ### Updates of a track (O7) -/

section
variable (s : State) (t : TrackId) (v rate : Int) (halive : s.dev.alive = true) (hslots : s.dev.slots = []) (hwrites : s.dev.writes = [])
include halive hslots hwrites

theorem trackSourceUpdate_first (hwall : t ≠ .wall) (hstart : (s.dev.trk t).started = false) :
    Completes (.trackSourceUpdate t v rate) s (fun e => e.o t.valueKey = t.wrap v ∧ e.o t.rateKey = rate ∧ e.o t.validKey = 1 ∧ e.raised 0xF5 ∧
      ({ s.dev with tracks := e.tracks } : Dev).ShowsOnly e ∧
      OnlyObjects (fun k => k == t.valueKey || k == t.rateKey || k == t.validKey || isTraceCount k) s.dev e) := by
  refine completes_live_eq (s.dev.sourceUpdate t v rate false) rfl halive (by simp [hwall]) ?_
  rw [Dev.sourceUpdate_first hwall hslots hwrites hstart]
  refine ⟨?_, ?_, ?_, ?_, ?_, ?_⟩
  · simp [Dev.o_eq]
  · simp [Dev.o_eq, Dev.stamped]
  · simp [Dev.o_eq, Dev.stamped]
    rfl
  · simp
  · refine frame_tracks.settle (frame_tracks.setO (frame_tracks.trans (frame_tracks.event (frame_tracks.setB ?_ _ _) _) (Dev.tracksOnly_updTrack _ _ _)) _ _)
    exact frame_tracks.trans (frame_tracks.setO (frame_tracks.refl _) _ _) (Dev.tracksOnly_updTrack _ _ _)
  · simp +decide +contextual [onlyObjects_iff, Dev.stamped]

theorem trackSourceUpdate_jump (hp : plainTrack t) (hvalid : s.dev.b t.validKey = true) (hstart : (s.dev.trk t).started = true)
    (hfar : (s.dev.extrapolate t).o t.stepKey < (t.diff ((s.dev.extrapolate t).value t) v).natAbs) :
    Completes (.trackSourceUpdate t v rate) s (fun e => e.o t.valueKey = t.wrap v ∧ e.o t.rateKey = rate ∧ e.raised 0xF2 ∧ e.b t.validKey = true ∧
      (e.trk t).holding = false ∧ ({ s.dev with tracks := e.tracks } : Dev).ShowsOnly e ∧
      OnlyObjects (fun k => k == t.valueKey || k == t.rateKey || k == t.dirKey || !t.isRow && k == at' Obj.JUMPS t.code || isTraceCount k) s.dev e) := by
  refine completes_live_eq (s.dev.sourceUpdate t v rate false) rfl halive (by simp [hp.ne_wall]) ?_
  rw [Dev.sourceUpdate_jump hp hslots hwrites hvalid hstart v rate hfar]
  have hx := Dev.tracksOnly_extrapolate hp hslots
  have hxobj := Dev.onlyObjects_extrapolate (ks := fun k => k == t.valueKey || k == t.dirKey || isTraceCount k) hp hslots (by simp) (by simp)
    (by simp +contextual)
  have hxs : ((s.dev.extrapolate t).stamped t rate).slots = [] := by simpa [Dev.stamped, Dev.updTrack] using hx.slots.trans hslots
  have hxt : s.dev.TracksOnly ((s.dev.extrapolate t).stamped t rate) :=
    frame_tracks.trans hx (frame_tracks.trans (frame_tracks.setO (frame_tracks.refl _) _ _) (Dev.tracksOnly_updTrack _ _ _))
  have hrate : ((s.dev.extrapolate t).stamped t rate).o t.rateKey = rate := by simp [Dev.stamped, Dev.o_eq]
  have hstamp : OnlyObjects (fun k => k == t.valueKey || k == t.rateKey || k == t.dirKey || isTraceCount k) s.dev
      ((s.dev.extrapolate t).stamped t rate) :=
    .of_obj (.setO (hxobj.mono fun k h => by grind) t.rateKey rate (by simp)) rfl
  rw [Dev.jumpTo_eq]
  generalize (s.dev.extrapolate t).stamped t rate = x at *
  have hjs : (x.jumped t).slots = [] := (x.tracksOnly_jumped t).slots.trans hxs
  have hmove := Dev.tracksOnly_moveTo hp hjs v true
  have hkeep {k : Nat} (h : k = t.rateKey ∨ k = t.validKey) : ((x.jumped t).moveTo t v true).settle.o k = x.o k := by
    rcases h with rfl | rfl <;>
      rw [Dev.o_settle _ (by simp), Dev.o_moveTo hp hjs (by simp) (by simp) (by simp), Dev.o_jumped _ (by simp [motionKeys])]
  refine ⟨?_, (hkeep (.inl rfl)).trans hrate, ?_, ?_, ?_, ?_, ?_⟩
  · rw [Dev.o_settle _ (by simp), Dev.o_moveTo_value hp hjs]
  · exact (Dev.raised_settle_iff _ _).mpr (hmove.raised (d := { x.jumped t with tracks := _ }) x.raised_jumped)
  · exact (Dev.b_eq ((hkeep (.inr rfl)).trans (hstamp.same _ (by simp) (by simp)))).trans hvalid
  · rw [Dev.moveTo_plain hp hjs]
    simp only [Dev.trk, Dev.settle_tracks]
    exact (Dev.holding_direction _ t).trans (by simp [Dev.trk, Dev.jumped, Dev.updTrack])
  · exact frame_tracks.settle (frame_tracks.trans hxt (frame_tracks.trans (x.tracksOnly_jumped t) hmove))
  · refine .settle (.trans (hstamp.mono ?_) (.trans (Dev.onlyObjects_jumped ?_ ?_ x) (Dev.onlyObjects_moveTo hp hjs ?_ ?_ ?_ v true)))
    · intro k h
      grind
    all_goals simp +contextual

theorem trackExtrapolation_free (hp : plainTrack t) (hvalid : s.dev.b t.validKey = true) (hhold : (s.dev.trk t).holding = false)
    (hlimit : (s.dev.trk t).limit = none) :
    Completes (.trackExtrapolationTick t) s (fun e =>
      e.o t.valueKey = t.wrap (s.dev.o t.valueKey + (s.dev.o t.rateKey * ((s.dev.wall : Int) - (s.dev.trk t).at_) + (s.dev.trk t).rem) / 1000000000) ∧
      ({ s.dev with tracks := e.tracks } : Dev).ShowsOnly e ∧ OnlyObjects (fun k => k == t.valueKey || k == t.dirKey || isTraceCount k) s.dev e) := by
  have hx := Dev.tracksOnly_extrapolate hp hslots
  have hxobj := Dev.onlyObjects_extrapolate (ks := fun k => k == t.valueKey || k == t.dirKey || isTraceCount k) hp hslots (by simp) (by simp)
    (by simp +contextual)
  obtain ⟨f, hf⟩ := s.dev.extrapolate_free hp hvalid hhold hlimit
  refine completes_live_eq (s.dev.extrapolate t) rfl halive ?_ ?_
  · simp [hp.ne_wall, Dev.trackWrites_nil (hx.writes.trans hwrites)]
  · refine ⟨?_, frame_tracks.settle hx, hxobj.settle⟩
    rw [Dev.o_settle _ (by simp), hf, Dev.o_moveTo_value hp (d := s.dev.updTrack t f) hslots]

end

/-- A track without a source holds, its tick included (R52, R54). -/
theorem trackExtrapolation_invalid (s : State) (t : TrackId) (halive : s.dev.alive = true) (hwrites : s.dev.writes = []) (hwall : t ≠ .wall)
    (hvalid : s.dev.b t.validKey = false) :
    Completes (.trackExtrapolationTick t) s (fun e => ({ s.dev with tracks := e.tracks } : Dev).ShowsOnly e ∧ OnlyObjects (fun _ => false) s.dev e) := by
  refine completes_live_eq (s.dev.updTrack t (fun k => { k with at_ := s.dev.wall })) rfl halive ?_ ?_
  · have hx : s.dev.extrapolate t = s.dev.updTrack t (fun k => { k with at_ := s.dev.wall }) := by
      unfold Dev.extrapolate
      cases t with
      | wall => exact absurd rfl hwall
      | angA | angB | mains | gnd | ax | row => simp only [hvalid, Bool.not_false, if_true]
    simp only [if_neg hwall, hx]
    exact Dev.trackWrites_nil (d := s.dev.updTrack t _) hwrites _
  · exact ⟨frame_tracks.settle (Dev.tracksOnly_updTrack _ _ _), by simp [onlyObjects_iff]⟩

theorem trackExtrapolation_wall (s : State) (halive : s.dev.alive = true) (hslots : s.dev.slots = []) (hwrites : s.dev.writes = []) :
    Completes (.trackExtrapolationTick .wall) s (fun e => e.wall = s.dev.wall + 10 ∧ e.o Obj.VALUE = s.dev.wall + 10 ∧
      ({ s.dev with wall := e.wall } : Dev).ShowsOnly e ∧ OnlyObjects (fun k => k == Obj.VALUE) s.dev e) := by
  refine completes_live_eq (Dev.setO { s.dev with wall := s.dev.wall + 10 } Obj.VALUE (s.dev.wall + 10)) rfl halive ?_ ?_
  · simp only [if_true, Dev.moveTo_noSlots hslots]
    exact Dev.trackWrites_nil (d := Dev.setO { s.dev with wall := s.dev.wall + 10 } Obj.VALUE (s.dev.wall + 10)) hwrites _
  · refine ⟨by simp, by simp +decide [Dev.o_eq], ?_, by simp +decide [onlyObjects_iff]⟩
    simp +contextual [Dev.showsOnly_iff]

/-! ### The loss of a source -/

theorem trkInvalid_track (s : State) (t : TrackId) (halive : s.dev.alive = true) (hlose : s.dev.canLose t = true) (hrow : t.isRow = false)
    (hvalid : s.dev.b t.validKey = true) :
    Completes (.trkInvalid t) s (fun e => e.o t.validKey = 0 ∧ e.o t.rateKey = 0 ∧ e.raised 0xF4 ∧ s.dev.ShowsOnly e ∧
      OnlyObjects (fun k => k == t.validKey || k == t.rateKey || isTraceCount k) s.dev e) := by
  refine completes_live_eq (((s.dev.setB t.validKey false).event 0xF4).setO t.rateKey 0) rfl halive ?_ ?_
  · simp [hlose, Dev.when, Dev.loseTrack, hvalid, hrow]
  · refine ⟨?_, by simp [Dev.o_eq], by simp, ?_, by simp +contextual [onlyObjects_iff]⟩
    · simp [Dev.o_eq]
      rfl
    · simp +contextual [Dev.showsOnly_iff, mem_insertOnce]

/-- The RATE objects of the rows. -/
def rowRates : List Nat := (List.range 128).map fun i => el Obj.ROW_RATE (i + 1)

theorem rowRates_index : ∀ k ∈ rowRates, keyIdx k = keyIdx Obj.ROW_RATE := by
  simp only [rowRates, List.forall_mem_map, List.mem_range, el, keyIdx, Obj.ROW_RATE]
  omega

theorem Dev.o_foldl_setO_other {l : List Nat} {k : Nat} {v : Int} {d : Dev} (h : k ∉ l) : (l.foldl (fun d k => d.setO k v) d).o k = d.o k := by
  induction l generalizing d with
  | nil => rfl
  | cons j l ih =>
    rw [List.mem_cons, not_or] at h
    rw [List.foldl_cons, ih h.2, Dev.o_setO_other _ _ h.1]

theorem Dev.o_foldl_setO_mem {l : List Nat} {k : Nat} {v : Int} {d : Dev} (h : k ∈ l) : (l.foldl (fun d k => d.setO k v) d).o k = v := by
  induction l generalizing d with
  | nil => exact absurd h (by simp)
  | cons j l ih =>
    rw [List.foldl_cons]
    by_cases hk : k ∈ l
    · exact ih hk
    · rw [Dev.o_foldl_setO_other hk, (List.mem_cons.mp h).resolve_right hk, Dev.o_setO_same]

theorem trkInvalid_rows (s : State) (n : Fin 128) (halive : s.dev.alive = true) (hvalid : s.dev.b Obj.ROW_VALID = true) :
    Completes (.trkInvalid (.row n)) s (fun e => e.o Obj.ROW_VALID = 0 ∧ (∀ i < 128, e.o (el Obj.ROW_RATE (i + 1)) = 0) ∧ e.raised 0xF4 ∧ s.dev.ShowsOnly e ∧
      OnlyObjects (fun k => k == Obj.ROW_VALID || keyIdx k == keyIdx Obj.ROW_RATE || isTraceCount k) s.dev e) := by
  refine completes_live_eq ((rowRates.foldl (fun d k => d.setO k 0) ((s.dev.setB Obj.ROW_VALID false).event 0xF4))) rfl halive ?_ ?_
  · have hlose : s.dev.canLose (.row n) = true := rfl
    simp only [hlose, Dev.when, if_true, Dev.loseTrack]
    rw [if_neg (by simpa [TrackId.validKey] using hvalid)]
    rfl
  · have hne : Obj.ROW_VALID ∉ rowRates := by decide
    refine ⟨?_, fun i hi => ?_, ?_, ?_, ?_⟩
    · rw [Dev.o_settle _ (by decide), Dev.o_foldl_setO_other hne]
      simp +decide [Dev.o_eq]
    · have hmem : el Obj.ROW_RATE (i + 1) ∈ rowRates := List.mem_map.mpr ⟨i, List.mem_range.mpr hi, rfl⟩
      rw [Dev.o_settle _ (motionKey_status (t := .row ⟨i, hi⟩) (by simp [motionKeys, TrackId.rateKey])).1, Dev.o_foldl_setO_mem hmem]
    · exact (Dev.raised_settle_iff _ _).mpr ((Dev.shows_foldl (fun d k => d.showsOnly_setO k 0) _ _).raised (by simp))
    · exact frame_shows.settle (frame_shows.foldl (frame_shows.event (frame_shows.setB (frame_shows.refl _) _ _) _) _ fun d k => d.showsOnly_setO k 0)
    · refine .settle (.foldl (.event (.setB (.refl _) _ _ (by simp)) _ (by simp +contextual)) _ fun d k hk => .setO (.refl d) _ _ ?_)
      simp [rowRates_index k hk]

theorem trkInvalid_none (s : State) (t : TrackId) (halive : s.dev.alive = true) (h : s.dev.canLose t = false ∨ s.dev.b t.validKey = false) :
    Completes (.trkInvalid t) s (fun e => s.dev.ShowsOnly e ∧ OnlyObjects (fun _ => false) s.dev e) := by
  refine completes_live_eq s.dev rfl halive ?_ ⟨frame_shows.settle (frame_shows.refl _), .settle (.refl _)⟩
  rcases h with h | h
  · simp [h, Dev.when]
  · simp [Dev.when, Dev.loseTrack, h]

/-- Settles O7, clause by clause. -/
theorem trackUpdates : Obligations.TrackUpdates :=
  ⟨trackSourceUpdate_first, fun s t v rate ha hs hw hp => trackSourceUpdate_jump s t v rate ha hs hw hp, trackExtrapolation_wall, trkInvalid_track,
    trkInvalid_rows, trkInvalid_none, trackExtrapolation_invalid, fun s t ha hs hw hp => trackExtrapolation_free s t ha hs hw hp⟩

end Sys2Proof.Machine
end

section
/-! Compare slots: the commands of the user's slots (O8), and the tests of an arm and the fire of a slot (O9) (R57 to R67). -/

namespace Sys2Proof.Machine

/-! ### The objects of a slot -/

theorem slotKey_quiet {k n : Nat} (hk : k / 256 = 0x3200) (hn : n < 512) : isStatus (slotKey k n) = false ∧ isTraceCount (slotKey k n) = false := by
  unfold slotKey at'
  refine ⟨isStatus_false ?_, isTraceCount_false ?_⟩
  · simp only [List.forall_mem_cons, List.not_mem_nil, false_imp_iff, implies_true, and_true]
    omega
  · omega

/-! ### The user's commands (O8) -/

/-- The answer of a command that only answers. -/
theorem completes_result {c : Instr} {s : State} {f : Dev → Dev} (code : Nat) {p : Dev → Prop} (h : exec c s = s.live f) (ha : s.dev.alive = true)
    (hf : f s.dev = s.dev.res code)
    (hp : ∀ e : Dev, e.result = code → ({ s.dev with result := e.result } : Dev).ShowsOnly e → OnlyObjects (fun _ => false) s.dev e → p e) :
    Completes c s p := by
  refine completes_live_eq _ h ha hf (hp _ (by simp) ?_ ?_)
  · simp +contextual [Dev.showsOnly_iff, Dev.res]
  · simp [onlyObjects_iff]

/-- The answer of a command that hands one write to its owner and waits for its update. -/
theorem completes_delivered {c : Instr} {s : State} {f : Dev → Dev} (key : Nat) (val : Int) {p : Dev → Prop} (h : exec c s = s.live f)
    (ha : s.dev.alive = true) (hf : f s.dev = (s.dev.deliver key val).res 0)
    (hp : ∀ e : Dev, e.result = 0 → e.writes = s.dev.writes ++ [{ key := key, val := val }] →
      ({ s.dev with writes := e.writes, result := e.result } : Dev).ShowsOnly e → OnlyObjects (fun _ => false) s.dev e → p e) :
    Completes c s p := by
  refine completes_live_eq _ h ha hf (hp _ (by simp) (by simp [Dev.deliver]) ?_ ?_)
  · simp +contextual [Dev.showsOnly_iff, Dev.res, Dev.deliver]
  · simp [onlyObjects_iff, Dev.deliver]

theorem Dev.slotNow_valid {d : Dev} {n : Nat} {t : TrackId} (ht : trackOf (d.n (slotKey Obj.TRACK_3200 n)) = some t) (hv : d.b t.validKey = true) :
    d.slotNow n = d := by
  unfold Dev.slotNow
  simp only [ht, hv, if_true]

theorem Dev.slotNow_delivered {d : Dev} {n : Nat} {t : TrackId} (ht : trackOf (d.n (slotKey Obj.TRACK_3200 n)) = some t) (hv : d.b t.validKey = true)
    (key : Nat) (val : Int) : (d.deliver key val).slotNow n = d.deliver key val := Dev.slotNow_valid (d := d.deliver key val) ht hv

section
variable (s : State) (n : Fin 512) (halive : s.dev.alive = true)
include halive

theorem armSlot_firmware (hn : n.val < 416) : Completes (.slotControlArm n) s (fun e => e.result = 0x20000003 ∧
    ({ s.dev with result := e.result } : Dev).ShowsOnly e ∧ OnlyObjects (fun _ => false) s.dev e) :=
  completes_result resRole rfl halive (if_pos hn) fun _ h g o => ⟨h, g, o⟩

theorem armSlot_refused (hn : 416 ≤ n.val) (href : (s.dev.slotAhead n).slotRefused n = true) :
    Completes (.slotControlArm n) s (fun e => e.result = 0x30000004 ∧ bitOf (e.o (slotKey Obj.STATUS_3200 n)) 5 = true ∧
      bitOf (e.o (slotKey Obj.STATUS_3200 n)) 0 = false ∧ (e.slotOf n).armed = false ∧ ({ s.dev with slots := e.slots, result := e.result } : Dev).ShowsOnly e ∧
      OnlyObjects (fun k => k == slotKey Obj.STATUS_3200 n) s.dev e) := by
  refine completes_live_eq _ rfl halive ((if_neg (by omega)).trans (if_pos href)) ?_
  obtain ⟨hst, htr⟩ := slotKey_quiet (k := Obj.STATUS_3200) (by decide) n.isLt
  refine ⟨by simp [resCombination], ?_, ?_, ?_, ?_, ?_⟩
  · simp [Dev.o_eq, hst, Dev.slotArmed, bitOf_putBit_same]
  · simp [Dev.o_eq, hst, Dev.slotArmed, bitOf_putBit_same, bitOf_putBit_other]
  · simp [Dev.slotOf, Dev.slotArmed, Dev.setBit]
  · simp +contextual [Dev.showsOnly_iff, Dev.unshown, Dev.res, Dev.slotArmed, Dev.setBit]
  · simp [onlyObjects_iff, Dev.slotArmed]

theorem armSlot_busy (hn : 416 ≤ n.val) (href : (s.dev.slotAhead n).slotRefused n = false) (hbusy : s.dev.courierPending n = true) :
    Completes (.slotControlArm n) s (fun e => e.result = 0x50000001 ∧ ({ s.dev with result := e.result } : Dev).ShowsOnly e ∧
      OnlyObjects (fun _ => false) s.dev e) :=
  completes_result resBusy rfl halive ((if_neg (by omega)).trans ((if_neg (by simp [href])).trans (if_pos hbusy))) fun _ h g o => ⟨h, g, o⟩

theorem armSlot_accepted (t : TrackId) (hn : 416 ≤ n.val) (href : (s.dev.slotAhead n).slotRefused n = false) (hbusy : s.dev.courierPending n = false)
    (ht : trackOf (s.dev.n (slotKey Obj.TRACK_3200 n)) = some t) (hv : s.dev.b t.validKey = true) :
    Completes (.slotControlArm n) s (fun e => e.result = 0 ∧ e.writes = s.dev.writes ++ [{ key := slotKey Obj.CONTROL_3200 n, val := 1 }] ∧
      ({ s.dev with writes := e.writes, result := e.result } : Dev).ShowsOnly e ∧ OnlyObjects (fun _ => false) s.dev e) := by
  refine completes_delivered _ _ rfl halive ?_ fun _ h w g o => ⟨h, w, g, o⟩
  unfold Dev.armSlot
  rw [if_neg (by omega), if_neg (by simp [href]), if_neg (by simp [hbusy]), Dev.slotNow_delivered ht hv]

theorem disarmSlot_firmware (hn : n.val < 416) : Completes (.slotControlDisarm n) s (fun e => e.result = 0x20000003 ∧
    ({ s.dev with result := e.result } : Dev).ShowsOnly e ∧ OnlyObjects (fun _ => false) s.dev e) :=
  completes_result resRole rfl halive (if_pos hn) fun _ h g o => ⟨h, g, o⟩

theorem disarmSlot_busy (hn : 416 ≤ n.val) (hbusy : s.dev.courierPending n = true) :
    Completes (.slotControlDisarm n) s (fun e => e.result = 0x50000001 ∧ ({ s.dev with result := e.result } : Dev).ShowsOnly e ∧
      OnlyObjects (fun _ => false) s.dev e) :=
  completes_result resBusy rfl halive ((if_neg (by omega)).trans (if_pos hbusy)) fun _ h g o => ⟨h, g, o⟩

theorem disarmSlot_accepted (t : TrackId) (hn : 416 ≤ n.val) (hbusy : s.dev.courierPending n = false)
    (ht : trackOf (s.dev.n (slotKey Obj.TRACK_3200 n)) = some t) (hv : s.dev.b t.validKey = true) :
    Completes (.slotControlDisarm n) s (fun e => e.result = 0 ∧ e.writes = s.dev.writes ++ [{ key := slotKey Obj.CONTROL_3200 n, val := 2 }] ∧
      ({ s.dev with writes := e.writes, result := e.result } : Dev).ShowsOnly e ∧ OnlyObjects (fun _ => false) s.dev e) := by
  refine completes_delivered _ _ rfl halive ?_ fun _ h w g o => ⟨h, w, g, o⟩
  unfold Dev.disarmSlot
  rw [if_neg (by omega), if_neg (by simp [hbusy]), Dev.slotNow_delivered ht hv]

theorem slotFieldWrite_refused (f : Fin 6) (v : Int) (hcheck : (s.dev.slotAhead n).slotFieldCheck n (f + 1) v ≠ 0) :
    Completes (.slotFieldWrite n f v) s (fun e => e.result = (s.dev.slotAhead n).slotFieldCheck n (f + 1) v ∧ (n.val < 416 → e.result = 0x20000001) ∧
      ({ s.dev with result := e.result } : Dev).ShowsOnly e ∧ OnlyObjects (fun _ => false) s.dev e) := by
  refine completes_result _ rfl halive (if_neg hcheck) fun e h g o => ⟨h, fun hn => ?_, g, o⟩
  rw [h]
  unfold Dev.slotFieldCheck
  simp [if_pos hn, resReadOnly]

theorem slotFieldWrite_accepted (f : Fin 6) (v : Int) (t : TrackId) (hcheck : (s.dev.slotAhead n).slotFieldCheck n (f + 1) v = 0)
    (ht : trackOf (s.dev.n (slotKey Obj.TRACK_3200 n)) = some t) (hv : s.dev.b t.validKey = true) :
    Completes (.slotFieldWrite n f v) s (fun e => e.result = 0 ∧
      e.writes = s.dev.writes ++ [{ key := slotKey Obj.TRACK_3200 n + f, val := (s.dev.slotAhead n).slotFieldValue n (f + 1) v }] ∧
      ({ s.dev with writes := e.writes, result := e.result } : Dev).ShowsOnly e ∧ OnlyObjects (fun _ => false) s.dev e) := by
  refine completes_delivered _ _ rfl halive ((if_pos hcheck).trans ?_) fun _ h w g o => ⟨h, w, g, o⟩
  rw [Dev.slotNow_delivered ht hv]
  rfl

end

/-- Settles O8, clause by clause. -/
theorem slotCommands : Obligations.SlotCommands :=
  ⟨armSlot_firmware, armSlot_refused, armSlot_busy, fun s n t ha => armSlot_accepted s n ha t, disarmSlot_firmware, disarmSlot_busy,
    fun s n t ha => disarmSlot_accepted s n ha t, fun s n f v ha => slotFieldWrite_refused s n ha f v,
    fun s n f v t ha => slotFieldWrite_accepted s n ha f v t⟩

end Sys2Proof.Machine
end

section
/-! The tests of an arm and the fire of a slot (R61, R63, R64, O9). -/

namespace Sys2Proof.Machine

/-! ### Slot and track objects -/

theorem slotKey_inj {j k n : Nat} : slotKey j n = slotKey k n ↔ j = k := by
  unfold slotKey at'
  omega

/-- No object of a track is one of a slot. -/
theorem trackKey_lt (t : TrackId) : t.valueKey < 0x320000 ∧ t.lateKey < 0x320000 ∧ t.lateCountKey < 0x320000 ∧ t.missedKey < 0x320000 := by
  cases t with
  | wall | angA | angB | mains | gnd => decide
  | ax k => revert k; decide
  | row n => revert n; decide

theorem slotKey_ge {k n : Nat} (h : 0x320000 ≤ k) : 0x320000 ≤ slotKey k n := Nat.le_add_right_of_le h

theorem Dev.value_congr {d e : Dev} {t : TrackId} (hw : e.wall = d.wall) (ho : e.o t.valueKey = d.o t.valueKey) : e.value t = d.value t := by
  cases t with
  | wall => exact congrArg Nat.cast hw
  | angA | angB | mains | gnd | ax | row => exact ho

/-! ### Without couriers -/

theorem Dev.courierFire_nil {d : Dev} (h : d.couriers = []) (n : Nat) : d.courierFire n = d := by
  unfold Dev.courierFire Dev.couriersOn
  rw [h]
  rfl

theorem Dev.courierMissed_nil {d : Dev} (h : d.couriers = []) (n : Nat) : d.courierMissed n = d := by
  unfold Dev.courierMissed Dev.couriersOn
  rw [h]
  rfl

theorem Dev.slotFault_user {n : Nat} (h : 416 ≤ n) (d : Dev) : d.slotFault n = d := by
  unfold Dev.slotFault slotDomain
  rw [if_neg (by omega), if_neg (by omega), if_neg (by omega), if_neg (by omega), if_neg (by omega)]

theorem Dev.slotAction_none {d : Dev} {n : Nat} (hact : d.n (slotKey Obj.ACTION n) = 0) (hc : d.couriers = []) : d.slotAction n = d := by
  unfold Dev.slotAction
  simp only [hact]
  exact Dev.courierFire_nil hc n

/-! ### A fire, and the tests -/

/-- A user slot's fire without period, action or courier: FIRED and FIRES, LATE with its count and event, and the disarm (R63). -/
theorem Dev.slotFire_oneShot {d : Dev} {n : Nat} (hn : 416 ≤ n) (hsmall : n < 512) (hper : d.n (slotKey Obj.PERIOD_3200 n) = 0) (hact : d.n (slotKey Obj.ACTION n) = 0)
    (hc : d.couriers = []) (t : TrackId) (fwd late : Bool) : d.slotFire t n fwd late false =
      ((((d.setBit (slotKey Obj.STATUS_3200 n) 1 true).when late (fun d => d.setBit (slotKey Obj.STATUS_3200 n) 2 true)).addSat
        (slotKey Obj.FIRES n)).when late (fun d => (d.event 0xF1).addSat t.lateCountKey)).slotArmed n false false := by
  unfold Dev.slotFire
  simp only [hper, if_true, Dev.slotFault_user hn]
  have hne : slotKey Obj.ACTION n ≠ t.lateCountKey := (Nat.ne_of_lt (Nat.lt_of_lt_of_le (trackKey_lt t).2.2.1 (slotKey_ge (by decide)))).symm
  have htrace := (slotKey_quiet (k := Obj.ACTION) (by decide) hsmall).2
  refine Dev.slotAction_none ?_ ?_
  · rw [← hact]
    refine Dev.n_eq ?_
    cases late <;> simp +decide [Dev.o_eq, Dev.when, Dev.slotArmed, slotKey_inj, htrace, hne]
  · cases late <;> simpa [Dev.when, Dev.slotArmed, Dev.addSat, Dev.setBit] using hc

/-- What the tests of an arm meet: a user slot that waits for a target ahead, without period, action or courier. -/
structure PlainSlot (d : Dev) (n : Nat) : Prop where
  user : 416 ≤ n
  small : n < 512
  ahead : d.n (slotKey Obj.QUALIFIER_3200 n) = 1
  action : d.n (slotKey Obj.ACTION n) = 0
  period : d.n (slotKey Obj.PERIOD_3200 n) = 0
  couriers : d.couriers = []

theorem Dev.o_slotClear {d : Dev} {n k : Nat} (h : k ≠ slotKey Obj.STATUS_3200 n) : (d.slotClear n).o k = d.o k := Dev.o_setO_other _ _ h

theorem PlainSlot.clear {d : Dev} {n : Nat} (h : PlainSlot d n) : PlainSlot (d.slotClear n) n :=
  ⟨h.user, h.small, (Dev.n_eq (Dev.o_slotClear (by simp +decide [slotKey_inj]))).trans h.ahead,
    (Dev.n_eq (Dev.o_slotClear (by simp +decide [slotKey_inj]))).trans h.action,
    (Dev.n_eq (Dev.o_slotClear (by simp +decide [slotKey_inj]))).trans h.period, h.couriers⟩

/-- The tests of R61 by where the target lies. -/
theorem Dev.slotTest_plain {d : Dev} {n : Nat} (h : PlainSlot d n) (t : TrackId) :
    let x := t.diff (d.value t) (d.o (slotKey Obj.TARGET_3200 n))
    d.slotTest t n false =
      if x = 0 then (d.slotClear n).slotFire t n true false false
      else if 0 < x then (d.slotClear n).slotArmed n true false
      else if (x.natAbs : Int) ≤ d.o t.lateKey then (d.slotClear n).slotFire t n true true false
      else (((d.slotClear n).slotArmed n false false).setBit (slotKey Obj.STATUS_3200 n) 4 true |>.slotMiss t n 1).event 0xF0 := by
  have hlt := trackKey_lt t
  have hne {k : Nat} (hk : k < 0x320000) : k ≠ slotKey Obj.STATUS_3200 n := Nat.ne_of_lt (Nat.lt_of_lt_of_le hk (slotKey_ge (by decide)))
  have hval : (d.slotClear n).value t = d.value t := Dev.value_congr rfl (Dev.o_slotClear (hne hlt.1))
  have htar : (d.slotClear n).o (slotKey Obj.TARGET_3200 n) = d.o (slotKey Obj.TARGET_3200 n) := Dev.o_slotClear (by simp +decide [slotKey_inj])
  have hlate : (d.slotClear n).o t.lateKey = d.o t.lateKey := Dev.o_slotClear (hne hlt.2.1)
  have hcm : (((((d.slotClear n).slotArmed n false false).setBit (slotKey Obj.STATUS_3200 n) 4 true).slotMiss t n 1).event 0xF0).couriers = [] := by
    simpa [Dev.slotMiss, Dev.setBit, Dev.addSat, Dev.slotArmed, Dev.slotClear] using h.couriers
  unfold Dev.slotTest
  simp only [hval, htar, hlate, h.clear.ahead, Dev.slotFault_user h.user, Dev.courierMissed_nil hcm]
  simp

/-- Settles O9: an accepted arm by where its target lies. -/
theorem slotTests : Obligations.SlotTests := by
  intro d t n hn hsmall hq hact hper hc x e
  have hplain : PlainSlot d n := ⟨hn, hsmall, hq, hact, hper, hc⟩
  have he : e = _ := d.slotTest_plain hplain t
  have hclear := hplain.clear
  have hfire (late : Bool) := (d.slotClear n).slotFire_oneShot hn hsmall hclear.period hclear.action hclear.couriers t true late
  have hstatus : (d.slotClear n).o (slotKey Obj.STATUS_3200 n) = b2i (bitOf (d.o (slotKey Obj.STATUS_3200 n)) 0) := Dev.o_setO_same ..
  have hstrace := (slotKey_quiet (k := Obj.STATUS_3200) (by decide) hsmall).2
  have hftrace := (slotKey_quiet (k := Obj.FIRES) (by decide) hsmall).2
  have hmtrace := (slotKey_quiet (k := Obj.SLOT_MISSED) (by decide) hsmall).2
  have hne {j k : Nat} (hj : j < 0x320000) (hk : 0x320000 ≤ k) : j ≠ slotKey k n ∧ slotKey k n ≠ j := by
    have := slotKey_ge (n := n) hk
    omega
  obtain ⟨-, -, hlc, hmiss⟩ := trackKey_lt t
  have hltrace : isTraceCount t.lateCountKey = false := isTraceCount_false (by omega)
  have hmitrace : isTraceCount t.missedKey = false := isTraceCount_false (by omega)
  have hlate := fun k => hne (k := k) hlc
  have hmissed := fun k => hne (k := k) hmiss
  have hbit : ∀ b, putBit (putBit (b2i b) 1 true) 0 false = 2 ∧ putBit (putBit (putBit (b2i b) 1 true) 2 true) 0 false = 6 ∧
      putBit (putBit (b2i b) 0 false) 4 true = 16 ∧ putBit (b2i b) 0 true = 1 := by decide
  refine ⟨fun hx => ?_, fun hx => ?_, fun hx hin => ?_, fun hx hout => ?_⟩
  · rw [he, if_neg (by omega), if_pos hx]
    refine ⟨by simp [Dev.slotOf, Dev.slotArmed, Dev.setBit], ?_, ?_⟩
    · simp [Dev.slotArmed, Dev.o_eq, Dev.slotClear, hbit]
    · simp +decide [Dev.slotArmed, Dev.o_eq, Dev.slotClear, slotKey_inj]
  · rw [he, if_pos hx, hfire]
    refine ⟨by simp [Dev.slotOf, Dev.slotArmed, Dev.setBit], ?_, ?_⟩
    · simp +decide [Dev.slotArmed, Dev.o_eq, Dev.slotClear, slotKey_inj, Dev.when, hbit]
    · simp +decide [Dev.slotArmed, Dev.o_eq, Dev.slotClear, slotKey_inj, Dev.when]
  · rw [he, if_neg (by omega), if_neg (by omega), if_pos hin, hfire]
    refine ⟨by simp [Dev.slotOf, Dev.slotArmed, Dev.setBit], ?_, ?_, ?_, ?_⟩
    · simp +decide [Dev.slotArmed, Dev.o_eq, Dev.slotClear, slotKey_inj, Dev.when, hbit, hstrace, hlate]
    · simp +decide [Dev.slotArmed, Dev.o_eq, Dev.slotClear, slotKey_inj, Dev.when, hftrace, hlate]
    · simp [Dev.raised, Dev.slotArmed, Dev.when, Dev.setBit, Dev.addSat, Dev.slotClear, mem_insertOnce]
    · simp +decide [Dev.slotArmed, Dev.o_eq, Dev.slotClear, slotKey_inj, Dev.when, hltrace, hlate]
  · rw [he, if_neg (by omega), if_neg (by omega), if_neg (by omega)]
    refine ⟨by simp [Dev.slotOf, Dev.slotArmed, Dev.setBit, Dev.slotMiss, Dev.addSat], ?_, ?_, ?_, ?_, ?_⟩
    · simp +decide [Dev.slotArmed, Dev.o_eq, Dev.slotClear, Dev.slotMiss, slotKey_inj, hbit, hstrace, hmissed]
    · simp +decide [Dev.slotArmed, Dev.o_eq, Dev.slotClear, Dev.slotMiss, slotKey_inj, hftrace, hmissed]
    · simp
    · simp +decide [Dev.slotArmed, Dev.o_eq, Dev.slotClear, Dev.slotMiss, slotKey_inj, hmtrace, hmissed]
    · simp +decide [Dev.slotArmed, Dev.o_eq, Dev.slotClear, Dev.slotMiss, slotKey_inj, hmitrace, hmissed]

end Sys2Proof.Machine
end

section
/-! SSI encoders: frames, requests and the sensor fault (R75 to R80, R98, O10). -/

namespace Sys2Proof.Machine

/-! ### Hidden state of an input, and what its commands leave -/

@[simp] theorem Dev.updSsi_obj (d : Dev) (e : Nat) (f : SsiIn → SsiIn) : (d.updSsi e f).obj = d.obj := rfl
@[simp] theorem Dev.updSsi_evq (d : Dev) (e : Nat) (f : SsiIn → SsiIn) : (d.updSsi e f).evq = d.evq := rfl
@[simp] theorem Dev.updSsi_wall (d : Dev) (e : Nat) (f : SsiIn → SsiIn) : (d.updSsi e f).wall = d.wall := rfl
@[simp] theorem Dev.ssiOf_updSsi (d : Dev) (e : Nat) (f : SsiIn → SsiIn) : (d.updSsi e f).ssiOf e = f (d.ssiOf e) := by simp [Dev.updSsi, Dev.ssiOf]
@[simp] theorem Dev.ssiOf_setO (d : Dev) (k : Nat) (v : Int) (e : Nat) : (d.setO k v).ssiOf e = d.ssiOf e := rfl
@[simp] theorem Dev.ssiOf_addSat (d : Dev) (k n e : Nat) : (d.addSat k n).ssiOf e = d.ssiOf e := rfl
@[simp] theorem Dev.ssiOf_event (d : Dev) (x e : Nat) : (d.event x).ssiOf e = d.ssiOf e := by simp [Dev.ssiOf]
@[simp] theorem Dev.ssiOf_settle (d : Dev) (e : Nat) : d.settle.ssiOf e = d.ssiOf e := by simp [Dev.ssiOf]
@[simp] theorem Dev.ssiOf_raise (d : Dev) (c : Nat) (l : Bool) (x : FaultSrc) (e : Nat) : (d.raise c l x).ssiOf e = d.ssiOf e := by simp [Dev.ssiOf]

/-- `e` is `d` but for the encoder inputs' hidden state, objects, events and the trace. -/
def Dev.SsiOnly (d e : Dev) : Prop := ({ d with ssi := e.ssi } : Dev).ShowsOnly e

theorem Dev.ssiOnly_iff {d e : Dev} : d.SsiOnly e ↔
    ({ e.unshown with ssi := [] } : Dev) = { d.unshown with ssi := [] } ∧ ∀ x ∈ d.evq, x ∈ e.evq := by
  unfold Dev.SsiOnly
  rw [Dev.showsOnly_iff]
  exact and_congr_left fun _ => ⟨congrArg fun x : Dev => { x with ssi := [] }, congrArg fun x : Dev => { x with ssi := e.ssi }⟩

theorem frame_ssi : Frame Dev.SsiOnly where
  refl d := Dev.ssiOnly_iff.mpr ⟨rfl, fun _ h => h⟩
  trans h g := by
    obtain ⟨h1, h2⟩ := Dev.ssiOnly_iff.mp h
    obtain ⟨g1, g2⟩ := Dev.ssiOnly_iff.mp g
    exact Dev.ssiOnly_iff.mpr ⟨g1.trans h1, fun x hx => g2 x (h2 x hx)⟩
  shows h := Dev.ssiOnly_iff.mpr ⟨congrArg (fun x : Dev => { x with ssi := [] }) h.unshown, h.2⟩

theorem Dev.ssiOnly_updSsi (d : Dev) (e : Nat) (f : SsiIn → SsiIn) : d.SsiOnly (d.updSsi e f) := Dev.ssiOnly_iff.mpr ⟨rfl, fun _ h => h⟩

theorem Dev.SsiOnly.raises {d x e : Dev} (h : d.SsiOnly x) (g : ({ x with ssi := e.ssi } : Dev).RaisesOnly e) :
    ({ d with ssi := e.ssi } : Dev).RaisesOnly e := by
  obtain ⟨hx, hxe⟩ := Dev.ssiOnly_iff.mp h
  obtain ⟨hg, hge⟩ := Dev.raisesOnly_iff.mp g
  exact Dev.raisesOnly_iff.mpr ⟨hg.trans (congrArg (fun y : Dev => { y.unraised with ssi := e.ssi }) hx), fun y hy => hge y (hxe y hy)⟩

/-! ### Frames -/

/-- The frame's end in the input's hidden state, and its delay where it is measured (R76, R80). -/
def Dev.frameDone (d : Dev) (e delay : Nat) : Dev :=
  (d.updSsi e (fun s => { s with inFrame := false, mono := true, measuring := false, pending := s.pending || s.measuring })).when (d.autoDelay e)
    (fun d => d.setO (at' Obj.MEASURED_DELAY e) delay)

/-- A rejected frame, up to its event and fault (R78). -/
def Dev.frameRejected (d : Dev) (e delay why : Nat) : Dev :=
  (((d.frameDone e delay).addSat (at' Obj.REJECTS e)).setO (at' Obj.LAST_REJECT e) why).updSsi e (fun s => { s with rejects := s.rejects + 1 })

theorem Dev.ssiFrameEnd_leading {d : Dev} {e lead : Nat} {m : Mach} (hin : (d.ssiOf e).inFrame = true) (hmeas : (d.ssiOf e).measuring = false)
    (hlead : d.n (at' Obj.LEADING e) ≠ 0) (hbit : lead ≠ 0) (hm : d.machOf [e + 1] = some m) (word status check delay : Nat) (low : Bool) :
    d.ssiFrameEnd e lead word status check delay low =
      ((d.frameRejected e delay 1).event (mev m 0x30)).when (decide (2 ≤ (d.ssiOf e).rejects)) (fun d => d.ssiFault e) := by
  have hwhy (ang : Option Nat) : d.ssiReject e lead word status check low ang = 1 := by
    unfold Dev.ssiReject
    simp [hlead, hbit]
  unfold Dev.ssiFrameEnd
  simp only [hin, hmeas, hwhy, hm]
  simp [Dev.frameRejected, Dev.frameDone]

theorem Dev.ssiOnly_frameDone (d : Dev) (e delay : Nat) : d.SsiOnly (d.frameDone e delay) :=
  frame_ssi.when (d.ssiOnly_updSsi _ _) _ fun d => frame_ssi.setO (frame_ssi.refl d) _ _

theorem Dev.ssiOnly_frameRejected (d : Dev) (e delay why : Nat) : d.SsiOnly (d.frameRejected e delay why) :=
  frame_ssi.trans (frame_ssi.setO (frame_ssi.addSat (d.ssiOnly_frameDone e delay) _ _) _ _) (Dev.ssiOnly_updSsi _ _ _)

theorem Dev.ssiOf_frameDone (d : Dev) (e delay : Nat) : (d.frameDone e delay).ssiOf e =
    { d.ssiOf e with inFrame := false, mono := true, measuring := false, pending := (d.ssiOf e).pending || (d.ssiOf e).measuring } := by
  unfold Dev.frameDone Dev.when
  split <;> simp

theorem Dev.o_frameDone (d : Dev) (e delay : Nat) {k : Nat} (h : k ≠ at' Obj.MEASURED_DELAY e) : (d.frameDone e delay).o k = d.o k := by
  unfold Dev.frameDone Dev.when
  split
  · exact Dev.o_setO_other _ _ h
  · rfl

/-- The objects of an encoder input's frame counts. -/
theorem ssiKeys_distinct (e : Nat) : at' Obj.REJECTS e ≠ at' Obj.MEASURED_DELAY e ∧ at' Obj.REJECTS e ≠ at' Obj.LAST_REJECT e ∧
    at' Obj.RAW_WORD e ≠ at' Obj.MEASURED_DELAY e := by
  simp only [at', Obj.REJECTS, Obj.MEASURED_DELAY, Obj.LAST_REJECT, Obj.RAW_WORD]
  omega

theorem ssiKey_quiet (e : Fin 2) : ∀ k ∈ [Obj.REJECTS, Obj.LAST_REJECT, Obj.MEASURED_DELAY, Obj.RAW_WORD, Obj.COLLISIONS],
    isStatus (at' k e) = false ∧ isReaction (at' k e) = false ∧ isTraceCount (at' k e) = false := by
  revert e
  decide

theorem Dev.onlyObjects_frameRejected {ks : Nat → Bool} (d : Dev) (e delay why : Nat) (hr : ks (at' Obj.REJECTS e) = true)
    (hl : ks (at' Obj.LAST_REJECT e) = true) (hm : ks (at' Obj.MEASURED_DELAY e) = true) : OnlyObjects ks d (d.frameRejected e delay why) := by
  refine .of_obj (.setO (.addSat ?_ _ _ (by simp [hr])) _ _ (by simp [hl])) (Dev.updSsi_obj _ _ _)
  exact .when (.of_obj (.refl d) (Dev.updSsi_obj _ _ _)) _ fun _ d => .setO (.refl d) _ _ (by simp [hm])

theorem Dev.o_frameRejected (d : Dev) (e delay why : Nat) : (d.frameRejected e delay why).o (at' Obj.REJECTS e) = satU32 (d.o (at' Obj.REJECTS e) + 1) ∧
    (d.frameRejected e delay why).o (at' Obj.LAST_REJECT e) = why := by
  obtain ⟨hd, hl, -⟩ := ssiKeys_distinct e
  have ho := d.o_frameDone e delay hd
  rw [Dev.o_eq, Dev.o_eq] at ho
  constructor <;> simp [Dev.frameRejected, Dev.o_eq, hl, ho]

theorem Dev.ssiOf_frameRejected (d : Dev) (e delay why : Nat) :
    (d.frameRejected e delay why).ssiOf e = { (d.frameDone e delay).ssiOf e with rejects := (d.ssiOf e).rejects + 1 } := by
  simp [Dev.frameRejected, Dev.ssiOf_frameDone]

theorem Dev.machOf_congr {d e : Dev} (h : ∀ m < 2, e.o (at' Obj.PRIMARY m) = d.o (at' Obj.PRIMARY m) ∧ e.o (at' Obj.SECONDARY m) = d.o (at' Obj.SECONDARY m))
    (l : List Nat) : e.machOf l = d.machOf l := by
  unfold Dev.machOf
  simp only [Dev.n, (h 0 (by decide)).1, (h 0 (by decide)).2, (h 1 (by decide)).1, (h 1 (by decide)).2]
  rfl

theorem ssiFrameEnd_reject (s : State) (i : Fin 2) (lead word status check delay : Nat) (low : Bool) (m : Mach) (halive : s.dev.alive = true)
    (hin : (s.dev.ssiOf i).inFrame = true) (hmeas : (s.dev.ssiOf i).measuring = false) (hlead : s.dev.n (at' Obj.LEADING i) ≠ 0) (hbit : lead ≠ 0)
    (hm : s.dev.machOf [i + 1] = some m) (hfew : (s.dev.ssiOf i).rejects < 2) :
    Completes (.ssiFrameEnd i lead word status check delay low) s (fun e => e.raised (mev m 0x30) ∧ e.o (at' Obj.REJECTS i) = satU32 (s.dev.o (at' Obj.REJECTS i) + 1) ∧ e.o (at' Obj.LAST_REJECT i) = 1 ∧
      (e.ssiOf i).inFrame = false ∧ (e.ssiOf i).mono = true ∧ ({ s.dev with ssi := e.ssi } : Dev).ShowsOnly e ∧
      OnlyObjects (fun k => k == at' Obj.REJECTS i || k == at' Obj.LAST_REJECT i || k == at' Obj.MEASURED_DELAY i || isTraceCount k) s.dev e) := by
  refine completes_live_eq ((s.dev.frameRejected i delay 1).event (mev m 0x30)) rfl halive ?_ ?_
  · simp only [Dev.ssiFrameEnd_leading hin hmeas hlead hbit hm, Dev.when]
    rw [if_neg (by simpa using hfew)]
  · have hq := ssiKey_quiet i
    obtain ⟨hcount, hlast⟩ := s.dev.o_frameRejected i delay 1
    refine ⟨by simp, ?_, ?_, ?_, ?_, ?_, ?_⟩
    · rw [Dev.o_settle _ (hq _ (by simp)).1, Dev.o_event _ _ (hq _ (by simp)).2.2, hcount]
    · rw [Dev.o_settle _ (hq _ (by simp)).1, Dev.o_event _ _ (hq _ (by simp)).2.2, hlast]
      rfl
    · simp [Dev.ssiOf_frameRejected, Dev.ssiOf_frameDone]
    · simp [Dev.ssiOf_frameRejected, Dev.ssiOf_frameDone]
    · exact frame_ssi.settle (frame_ssi.event (s.dev.ssiOnly_frameRejected i delay 1) _)
    · exact .settle (.event (s.dev.onlyObjects_frameRejected _ _ _ (by simp) (by simp) (by simp)) _ (by simp +contextual))

/-- The sensor fault of an encoder that a machine names (R78, R98). -/
theorem Dev.ssiFault_eq {d : Dev} {e : Nat} {m : Mach} (hm : d.machOf [e + 1] = some m) :
    d.ssiFault e = (d.updSsi e (fun s => { s with bad := true })).raise (mcode m 0x1210) true { ini := 0x20 + mnum m, acc := 5 } := by
  unfold Dev.ssiFault
  simp only [hm]

theorem Dev.ssiFault_inForce {d : Dev} {e : Nat} {m : Mach} (hm : d.machOf [e + 1] = some m) :
    (d.ssiFault e).inForce (mcode m 0x1210) (mdom m) ∧ ((d.ssiFault e).ssiOf e).bad = true := by
  rw [Dev.ssiFault_eq hm]
  refine ⟨Dev.inForce_raise_on _ _ _ ?_ ?_, by simp⟩ <;> cases m <;> decide

theorem Dev.ssiFault_raises {d : Dev} {e : Nat} {m : Mach} (hm : d.machOf [e + 1] = some m) :
    ({ d with ssi := (d.ssiFault e).ssi } : Dev).RaisesOnly (d.ssiFault e) := by
  rw [Dev.ssiFault_eq hm, Dev.raise_ssi]
  exact frame_raises.raise (frame_raises.refl _) _ _ _

theorem Dev.onlyObjects_ssiFault {ks : Nat → Bool} (hr : ∀ k, isReaction k = true → ks k = true) {d : Dev} {e : Nat} {m : Mach}
    (hm : d.machOf [e + 1] = some m) : OnlyObjects ks d (d.ssiFault e) := by
  rw [Dev.ssiFault_eq hm]
  exact .raise (.of_obj (.refl d) (Dev.updSsi_obj _ _ _)) _ _ _ hr

theorem ssiSourceTimeout_completes (s : State) (i : Fin 2) (m : Mach) (halive : s.dev.alive = true) (hm : s.dev.machOf [i.val + 1] = some m) :
    Completes (.ssiSourceTimeout i) s (fun e => e.inForce (mcode m 0x1210) (mdom m) ∧ (e.ssiOf i).bad = true ∧ ({ s.dev with ssi := e.ssi } : Dev).RaisesOnly e ∧
      OnlyObjects (fun k => isReaction k) s.dev e) := by
  refine completes_live (f := fun d => d.ssiFault i) rfl halive ?_
  obtain ⟨hin, hbad⟩ := Dev.ssiFault_inForce hm
  refine ⟨by simpa using hin, by simpa using hbad, ?_, (Dev.onlyObjects_ssiFault (fun _ h => h) hm).settle⟩
  rw [Dev.settle_ssi]
  exact frame_raises.settle (Dev.ssiFault_raises hm)

theorem ssiFrameEnd_fault (s : State) (i : Fin 2) (lead word status check delay : Nat) (low : Bool) (m : Mach) (halive : s.dev.alive = true)
    (hin : (s.dev.ssiOf i).inFrame = true) (hmeas : (s.dev.ssiOf i).measuring = false) (hlead : s.dev.n (at' Obj.LEADING i) ≠ 0) (hbit : lead ≠ 0)
    (hm : s.dev.machOf [i + 1] = some m) (hmany : 2 ≤ (s.dev.ssiOf i).rejects) :
    Completes (.ssiFrameEnd i lead word status check delay low) s (fun e => e.inForce (mcode m 0x1210) (mdom m) ∧ e.raised (mev m 0x30) ∧ (e.ssiOf i).bad = true ∧ ({ s.dev with ssi := e.ssi } : Dev).RaisesOnly e ∧
      OnlyObjects (fun k => k == at' Obj.REJECTS i || k == at' Obj.LAST_REJECT i || k == at' Obj.MEASURED_DELAY i || isReaction k) s.dev e) := by
  refine completes_live_eq (((s.dev.frameRejected i delay 1).event (mev m 0x30)).ssiFault i) rfl halive ?_ ?_
  · simp only [Dev.ssiFrameEnd_leading hin hmeas hlead hbit hm, Dev.when]
    rw [if_pos (by simpa using hmany)]
  · have hobj : OnlyObjects (fun k => k == at' Obj.REJECTS i || k == at' Obj.LAST_REJECT i || k == at' Obj.MEASURED_DELAY i || isTraceCount k) s.dev
        ((s.dev.frameRejected i delay 1).event (mev m 0x30)) :=
      .event (s.dev.onlyObjects_frameRejected _ _ _ (by simp) (by simp) (by simp)) _ (by simp +contextual)
    have hrest := frame_ssi.event (s.dev.ssiOnly_frameRejected i delay 1) (mev m 0x30)
    have hraised : ((s.dev.frameRejected i delay 1).event (mev m 0x30)).raised (mev m 0x30) := by simp
    generalize (s.dev.frameRejected i delay 1).event (mev m 0x30) = x at *
    have hx : x.machOf [i + 1] = some m := (Dev.machOf_congr (fun j hj => by
      have hkey : ∀ j < 2, ∀ i : Fin 2, ∀ k ∈ [at' Obj.PRIMARY j, at' Obj.SECONDARY j], (k == at' Obj.REJECTS i || k == at' Obj.LAST_REJECT i || k == at' Obj.MEASURED_DELAY i || isTraceCount k) = false ∧ isStatus k = false := by decide
      obtain ⟨hp, hpst⟩ := hkey j hj i _ (List.mem_cons_self ..)
      obtain ⟨hsec, hsst⟩ := hkey j hj i (at' Obj.SECONDARY j) (by simp)
      exact ⟨hobj.same _ hp hpst, hobj.same _ hsec hsst⟩) _).trans hm
    obtain ⟨hforce, hbad⟩ := Dev.ssiFault_inForce hx
    refine ⟨by simpa using hforce, ?_, by simpa using hbad, ?_, ?_⟩
    · rw [Dev.raised_settle_iff, Dev.ssiFault_eq hx]
      exact Dev.raised_raise (d := x.updSsi i _) hraised _ _ _
    · rw [Dev.settle_ssi]
      exact frame_raises.settle (hrest.raises (Dev.ssiFault_raises hx))
    · refine OnlyObjects.settle (OnlyObjects.trans (hobj.mono fun k h => ?_) (Dev.onlyObjects_ssiFault (by simp +contextual) hx))
      grind [isReaction_trace]

theorem ssiFrameEnd_accept (s : State) (i : Fin 2) (lead word status check delay : Nat) (halive : s.dev.alive = true)
    (hin : (s.dev.ssiOf i).inFrame = true) (hmeas : (s.dev.ssiOf i).measuring = false) (hlead : s.dev.n (at' Obj.LEADING i) = 0)
    (hcheck : s.dev.n (at' Obj.CHECK i) = 0) (hbits : s.dev.n (at' Obj.STATUS_BITS i) = 0) (hcode : s.dev.o (at' Obj.CODING i) = 1)
    (hm : s.dev.machOf [i + 1] = none) :
    Completes (.ssiFrameEnd i lead word status check delay false) s (fun e => e.o (at' Obj.RAW_WORD i) = grayToBinary (s.dev.n (at' Obj.WORD_BITS i)) word ∧
      ({ s.dev with ssi := e.ssi } : Dev).ShowsOnly e ∧ OnlyObjects (fun k => k == at' Obj.RAW_WORD i || k == at' Obj.MEASURED_DELAY i) s.dev e) := by
  have hwhy : s.dev.ssiReject i lead word status check false none = 0 := by
    unfold Dev.ssiReject
    simp [hlead, hcheck, hbits]
  refine completes_live_eq ((s.dev.frameDone i delay).setO (at' Obj.RAW_WORD i) (grayToBinary (s.dev.n (at' Obj.WORD_BITS i)) word : Nat)) rfl halive ?_ ?_
  · simp only [Dev.ssiFrameEnd, hin, hmeas, hm, Option.map_none, hwhy, hcode]
    simp [Dev.frameDone]
  · refine ⟨?_, frame_ssi.settle (frame_ssi.setO (s.dev.ssiOnly_frameDone i delay) _ _), ?_⟩
    · rw [Dev.o_settle _ (ssiKey_quiet i _ (by simp)).1, Dev.o_setO_same]
    · refine .settle (.setO (.when (.of_obj (.refl _) (Dev.updSsi_obj _ _ _)) _ fun _ d => .setO (.refl d) _ _ ?_) _ _ ?_) <;> simp

/-! ### Requests -/

theorem ssiGuardTimer_starts (s : State) (i : Fin 2) (halive : s.dev.alive = true) (hm : (s.dev.machOf [i.val + 1]).isSome = true)
    (hin : (s.dev.ssiOf i).inFrame = false) (hmono : (s.dev.ssiOf i).mono = false) :
    Completes (.ssiGuardTimer i) s (fun e => (e.ssiOf i).inFrame = true ∧ (e.ssiOf i).latch = s.dev.wall ∧ (e.ssiOf i).pending = false ∧
      ({ s.dev with ssi := e.ssi } : Dev).ShowsOnly e ∧ OnlyObjects (fun _ => false) s.dev e) := by
  refine completes_live_eq (s.dev.ssiStart i) rfl halive (by simp [Dev.when, hm, Dev.ssiRequest, hin, hmono]) ?_
  refine ⟨by simp [Dev.ssiStart], by simp [Dev.ssiStart], by simp [Dev.ssiStart], frame_ssi.settle (Dev.ssiOnly_updSsi _ _ _), ?_⟩
  exact .settle (.of_obj (.refl _) (Dev.updSsi_obj _ _ _))

theorem ssiGuardTimer_busy (s : State) (i : Fin 2) (halive : s.dev.alive = true) (hm : (s.dev.machOf [i.val + 1]).isSome = true)
    (hbusy : (s.dev.ssiOf i).inFrame = true ∨ (s.dev.ssiOf i).mono = true) :
    Completes (.ssiGuardTimer i) s (fun e => (if (s.dev.ssiOf i).pending then e.o (at' Obj.COLLISIONS i) = satU32 (s.dev.o (at' Obj.COLLISIONS i) + 1) ∧ OnlyObjects (fun k => k == at' Obj.COLLISIONS i) s.dev e
      else (e.ssiOf i).pending = true ∧ OnlyObjects (fun _ => false) s.dev e) ∧ ({ s.dev with ssi := e.ssi } : Dev).ShowsOnly e) := by
  have hbusy : ((s.dev.ssiOf i).inFrame || (s.dev.ssiOf i).mono) = true := by simpa using hbusy
  cases hpend : (s.dev.ssiOf i).pending with
  | true =>
    refine completes_live_eq (s.dev.addSat (at' Obj.COLLISIONS i) 1) rfl halive (by simp only [Dev.when, hm, Dev.ssiRequest, hbusy, hpend, if_true]) ?_
    refine ⟨⟨?_, by simp [onlyObjects_iff]⟩, frame_ssi.settle (frame_ssi.addSat (frame_ssi.refl _) _ _)⟩
    rw [Dev.o_settle _ (ssiKey_quiet i _ (by simp)).1]
    simp [Dev.o_eq]
  | false =>
    refine completes_live_eq (s.dev.updSsi i (fun x => { x with pending := true })) rfl halive ?_ ?_
    · simp [Dev.when, hm, Dev.ssiRequest, hbusy, hpend]
    · exact ⟨⟨by simp, .settle (.of_obj (.refl _) (Dev.updSsi_obj _ _ _))⟩, frame_ssi.settle (Dev.ssiOnly_updSsi _ _ _)⟩

theorem ssiMonoflopEnd_completes (s : State) (i : Fin 2) (halive : s.dev.alive = true) (hmono : (s.dev.ssiOf i).mono = true)
    (hin : (s.dev.ssiOf i).inFrame = false) :
    Completes (.ssiMonoflopEnd i) s (fun e => (e.ssiOf i).mono = false ∧ (e.ssiOf i).inFrame = (s.dev.ssiOf i).pending ∧ ({ s.dev with ssi := e.ssi } : Dev).ShowsOnly e ∧ OnlyObjects (fun _ => false) s.dev e) := by
  let x := s.dev.updSsi i (fun s => { s with mono := false })
  cases hpend : (s.dev.ssiOf i).pending with
  | true =>
    refine completes_live_eq (x.ssiStart i) rfl halive (by simp [x, Dev.when, hmono, hin, hpend]) ?_
    refine ⟨by simp [x, Dev.ssiStart], by simp [x, Dev.ssiStart], ?_, ?_⟩
    · exact frame_ssi.settle (frame_ssi.trans (Dev.ssiOnly_updSsi _ _ _) (Dev.ssiOnly_updSsi _ _ _))
    · exact .settle (.of_obj (.of_obj (.refl _) (Dev.updSsi_obj _ _ _)) (Dev.updSsi_obj _ _ _))
  | false =>
    refine completes_live_eq x rfl halive (by simp [x, Dev.when, hmono, hin, hpend]) ?_
    exact ⟨by simp [x], by simp [x, hin], frame_ssi.settle (Dev.ssiOnly_updSsi _ _ _), .settle (.of_obj (.refl _) (Dev.updSsi_obj _ _ _))⟩

/-- Settles O10, clause by clause. -/
theorem encoderFrames : Obligations.EncoderFrames :=
  ⟨ssiFrameEnd_reject, ssiFrameEnd_fault, ssiFrameEnd_accept, ssiGuardTimer_starts, ssiGuardTimer_busy, ssiMonoflopEnd_completes,
    ssiSourceTimeout_completes⟩

end Sys2Proof.Machine
end

section
/-! Probes and the inertial sensor (R93, R94, R96, R97, O13). -/

namespace Sys2Proof.Machine

theorem probeKey_quiet (p : Fin 4) : ∀ k ∈ [Obj.STATUS_3440, Obj.CAPT_VALUE, Obj.CAPT_WALL],
    isStatus (at' k p) = false ∧ isTraceCount (at' k p) = false := by
  revert p
  decide

theorem probeKeys_distinct (p : Nat) : at' Obj.CAPT_VALUE p ≠ at' Obj.CAPT_WALL p ∧ at' Obj.CAPT_VALUE p ≠ at' Obj.STATUS_3440 p ∧
    at' Obj.CAPT_WALL p ≠ at' Obj.STATUS_3440 p := by
  simp only [at', Obj.CAPT_VALUE, Obj.CAPT_WALL, Obj.STATUS_3440]
  omega

section
variable (s : State) (p : Fin 4) (halive : s.dev.alive = true)
include halive

theorem probeArm_completes : Completes (.probeArm p) s (fun e => e.result = 0 ∧ bitOf (e.o (at' Obj.STATUS_3440 p)) 0 = true ∧
    (∀ j, j ≠ 0 → bitOf (e.o (at' Obj.STATUS_3440 p)) j = bitOf (s.dev.o (at' Obj.STATUS_3440 p)) j) ∧
    (Tab.get {} e.probes p : Probe).armed = true ∧ ({ s.dev with probes := e.probes, result := e.result } : Dev).ShowsOnly e ∧
    OnlyObjects (fun k => k == at' Obj.STATUS_3440 p) s.dev e) := by
  refine completes_live_eq _ rfl halive (congrArg (fun d => Dev.res d 0) (if_pos (by omega))) ?_
  have hst := (probeKey_quiet p _ (List.mem_cons_self ..)).1
  refine ⟨by simp, ?_, fun j hj => ?_, ?_, ?_, ?_⟩
  · simp [Dev.o_eq, hst, bitOf_putBit_same]
  · simp [Dev.o_eq, hst, bitOf_putBit_other _ _ hj]
  · simp [Dev.setBit]
  · simp +contextual [Dev.showsOnly_iff, Dev.unshown, Dev.res, Dev.setBit]
  · simp [onlyObjects_iff]

theorem probeAcknowledge_completes : Completes (.probeAcknowledge p) s (fun e => e.result = 0 ∧ bitOf (e.o (at' Obj.STATUS_3440 p)) 1 = false ∧
    bitOf (e.o (at' Obj.STATUS_3440 p)) 2 = false ∧
    (∀ j, j ≠ 1 → j ≠ 2 → bitOf (e.o (at' Obj.STATUS_3440 p)) j = bitOf (s.dev.o (at' Obj.STATUS_3440 p)) j) ∧
    ({ s.dev with result := e.result } : Dev).ShowsOnly e ∧ OnlyObjects (fun k => k == at' Obj.STATUS_3440 p) s.dev e) := by
  refine completes_live rfl halive ?_
  have hst := (probeKey_quiet p _ (List.mem_cons_self ..)).1
  refine ⟨by simp, ?_, ?_, fun j h1 h2 => ?_, ?_, ?_⟩
  · simp [Dev.o_eq, hst, bitOf_putBit_same, bitOf_putBit_other]
  · simp [Dev.o_eq, hst, bitOf_putBit_same]
  · simp [Dev.o_eq, hst, bitOf_putBit_other _ _ h1, bitOf_putBit_other _ _ h2]
  · simp +contextual [Dev.showsOnly_iff, Dev.unshown, Dev.res, Dev.setBit]
  · simp [onlyObjects_iff]

theorem probeDisarm_completes : Completes (.probeDisarm p) s (fun e => e.result = 0 ∧ bitOf (e.o (at' Obj.STATUS_3440 p)) 0 = false ∧
    (∀ j, j ≠ 0 → bitOf (e.o (at' Obj.STATUS_3440 p)) j = bitOf (s.dev.o (at' Obj.STATUS_3440 p)) j) ∧
    (Tab.get {} e.probes p : Probe).armed = false ∧ ({ s.dev with probes := e.probes, result := e.result } : Dev).ShowsOnly e ∧
    OnlyObjects (fun k => k == at' Obj.STATUS_3440 p) s.dev e) := by
  refine completes_live rfl halive ?_
  have hst := (probeKey_quiet p _ (List.mem_cons_self ..)).1
  refine ⟨by simp, ?_, fun j hj => ?_, ?_, ?_, ?_⟩
  · simp [Dev.o_eq, hst, bitOf_putBit_same]
  · simp [Dev.o_eq, hst, bitOf_putBit_other _ _ hj]
  · simp [Dev.setBit]
  · simp +contextual [Dev.showsOnly_iff, Dev.unshown, Dev.res, Dev.setBit]
  · simp [onlyObjects_iff]

end

/-- What a qualified edge of a one-shot probe on WALL captures, up to a second capture's overrun (R94). -/
def Dev.captured (d : Dev) (p : Nat) : Dev :=
  ((((d.setO (at' Obj.CAPT_VALUE p) d.wall).setO (at' Obj.CAPT_WALL p) d.wall).setBit (at' Obj.STATUS_3440 p) 1 true).setBit (at' Obj.STATUS_3440 p) 3
    (!(d.trackValid 0))).event (0xA8 + p)

/-- The overrun of a probe whose capture nobody has acknowledged (R94). -/
def Dev.overrun (d : Dev) (p : Nat) : Dev := (d.setBit (at' Obj.STATUS_3440 p) 2 true).event 0xAC

/-- The latch of a one-shot probe disarmed. -/
def Dev.probeDone (d : Dev) (p wall : Nat) : Dev :=
  Dev.setBit { d with probes := Tab.upd {} d.probes p (fun q => { q with armed := false, from_ := wall + 100 }) } (at' Obj.STATUS_3440 p) 0 false

theorem Dev.probeEdge_wall {d : Dev} {p : Nat} {rising : Bool} (harmed : (Tab.get {} d.probes p : Probe).armed = true)
    (hfrom : (Tab.get {} d.probes p : Probe).from_ ≤ d.wall) (hedge : d.n (at' Obj.EDGE p) = 3 ∨ d.n (at' Obj.EDGE p) = if rising then 1 else 2)
    (htrack : d.n (at' Obj.TRACK_3440 p) = 0) (hmode : d.o (at' Obj.MODE_3440 p) = 1) :
    d.probeEdge p rising = ((d.captured p).when (bitOf (d.o (at' Obj.STATUS_3440 p)) 1) (fun d => d.overrun p)).probeDone p d.wall := by
  have hok : (decide (d.n (at' Obj.EDGE p) = 3) || decide (d.n (at' Obj.EDGE p) = if rising then 1 else 2)) = true := by simpa using hedge
  have hwall : trackOf 0 = some .wall := rfl
  unfold Dev.probeEdge
  simp only [harmed, hfrom, hok, htrack, hwall, hmode]
  simp [Dev.probeDone, Dev.captured, Dev.overrun, Dev.extrapolate, Dev.trackValue]

theorem probeEdge_completes (s : State) (p : Fin 4) (rising : Bool) (halive : s.dev.alive = true) (harmed : (Tab.get {} s.dev.probes p : Probe).armed = true)
    (hfrom : (Tab.get {} s.dev.probes p : Probe).from_ ≤ s.dev.wall)
    (hedge : s.dev.n (at' Obj.EDGE p) = 3 ∨ s.dev.n (at' Obj.EDGE p) = if rising then 1 else 2) (htrack : s.dev.n (at' Obj.TRACK_3440 p) = 0)
    (hmode : s.dev.o (at' Obj.MODE_3440 p) = 1) :
    Completes (.probeEdge p rising) s (fun e => e.o (at' Obj.CAPT_VALUE p) = s.dev.wall ∧ e.o (at' Obj.CAPT_WALL p) = s.dev.wall ∧ bitOf (e.o (at' Obj.STATUS_3440 p)) 1 = true ∧
      bitOf (e.o (at' Obj.STATUS_3440 p)) 0 = false ∧ (Tab.get {} e.probes p : Probe).armed = false ∧ e.raised (0xA8 + p) ∧
      (bitOf (s.dev.o (at' Obj.STATUS_3440 p)) 1 = true → bitOf (e.o (at' Obj.STATUS_3440 p)) 2 = true ∧ e.raised 0xAC) ∧
      ({ s.dev with probes := e.probes } : Dev).ShowsOnly e ∧ OnlyObjects (fun k => k == at' Obj.CAPT_VALUE p || k == at' Obj.CAPT_WALL p || k == at' Obj.STATUS_3440 p || isTraceCount k) s.dev e) := by
  refine completes_live_eq _ rfl halive (Dev.probeEdge_wall harmed hfrom hedge htrack hmode) ?_
  obtain ⟨hst, hstt⟩ := probeKey_quiet p _ (List.mem_cons_self ..)
  obtain ⟨hval, hvalt⟩ := probeKey_quiet p Obj.CAPT_VALUE (by simp)
  obtain ⟨hwal, hwalt⟩ := probeKey_quiet p Obj.CAPT_WALL (by simp)
  obtain ⟨hvw, hvs, hws⟩ := probeKeys_distinct p
  have hread : (s.dev.captured p).o (at' Obj.CAPT_VALUE p) = s.dev.wall ∧ (s.dev.captured p).o (at' Obj.CAPT_WALL p) = s.dev.wall ∧
      bitOf ((s.dev.captured p).o (at' Obj.STATUS_3440 p)) 1 = true := by
    refine ⟨?_, ?_, ?_⟩
    · simp [Dev.captured, Dev.o_eq, hvalt, hvw, hvs]
    · simp [Dev.captured, Dev.o_eq, hwalt, hws]
    · simp [Dev.captured, Dev.o_eq, hstt, bitOf_putBit_same, bitOf_putBit_other]
  have hraised : (s.dev.captured p).raised (0xA8 + p) := by simp [Dev.captured]
  have hshow : s.dev.ShowsOnly (s.dev.captured p) := by
    simp +contextual [Dev.showsOnly_iff, Dev.captured, mem_insertOnce]
  have hobj : OnlyObjects (fun k => k == at' Obj.CAPT_VALUE p || k == at' Obj.CAPT_WALL p || k == at' Obj.STATUS_3440 p || isTraceCount k) s.dev
      (s.dev.captured p) := by
    simp +contextual [onlyObjects_iff, Dev.captured]
  generalize s.dev.captured p = x at *
  obtain ⟨hxv, hxw, hxs⟩ := hread
  rw [Dev.o_eq] at hxv hxw hxs
  have hdone (y : Dev) (hy : s.dev.ShowsOnly y) :
      ({ s.dev with probes := (y.probeDone p s.dev.wall).settle.probes } : Dev).ShowsOnly (y.probeDone p s.dev.wall).settle := by
    obtain ⟨hrest, hevq⟩ := Dev.showsOnly_iff.mp hy
    have hpr := hy.probes
    refine frame_shows.settle (Dev.showsOnly_iff.mpr ⟨?_, hevq⟩)
    rw [Dev.settle_probes]
    exact congrArg (fun z : Dev => { z with probes := (y.probeDone p s.dev.wall).probes }) hrest
  have hlast (y : Dev) (hy : OnlyObjects (fun k => k == at' Obj.CAPT_VALUE p || k == at' Obj.CAPT_WALL p || k == at' Obj.STATUS_3440 p || isTraceCount k)
      s.dev y) : OnlyObjects (fun k => k == at' Obj.CAPT_VALUE p || k == at' Obj.CAPT_WALL p || k == at' Obj.STATUS_3440 p || isTraceCount k) s.dev
        (y.probeDone p s.dev.wall) := by
    unfold Dev.probeDone
    refine OnlyObjects.setBit ?_ _ _ _ (by simp)
    exact ⟨hy.same⟩
  have hover : (x.overrun p).raised 0xAC := by simp [Dev.overrun]
  have hstep : x.ShowsOnly (x.overrun p) := frame_shows.event (frame_shows.setBit (frame_shows.refl x) _ _ _) _
  cases hagain : bitOf (s.dev.o (at' Obj.STATUS_3440 p)) 1 with
  | true =>
    refine ⟨?_, ?_, ?_, ?_, ?_, ?_, fun _ => ⟨?_, ?_⟩, ?_, ?_⟩
    · simp [Dev.when, Dev.probeDone, Dev.overrun, Dev.o_eq, hval, hvalt, hvs, hxv]
    · simp [Dev.when, Dev.probeDone, Dev.overrun, Dev.o_eq, hwal, hwalt, hws, hxw]
    · simp [Dev.when, Dev.probeDone, Dev.overrun, Dev.o_eq, hst, hstt, bitOf_putBit_other, hxs]
    · simp [Dev.when, Dev.probeDone, Dev.o_eq, hst, bitOf_putBit_same]
    · simp [Dev.when, Dev.probeDone, Dev.setBit]
    · exact (Dev.raised_settle_iff _ _).mpr (hstep.raised hraised)
    · simp [Dev.when, Dev.probeDone, Dev.overrun, Dev.o_eq, hst, hstt, bitOf_putBit_same, bitOf_putBit_other]
    · exact (Dev.raised_settle_iff _ _).mpr hover
    · exact hdone _ (frame_shows.trans hshow hstep)
    · exact (hlast _ (hobj.trans (.event (.setBit (.refl x) _ _ _ (by simp)) _ (by simp +contextual)))).settle
  | false =>
    refine ⟨?_, ?_, ?_, ?_, ?_, ?_, fun h => absurd h (by simp), ?_, ?_⟩
    · simp [Dev.when, Dev.probeDone, Dev.o_eq, hval, hvs, hxv]
    · simp [Dev.when, Dev.probeDone, Dev.o_eq, hwal, hws, hxw]
    · simp [Dev.when, Dev.probeDone, Dev.o_eq, hst, bitOf_putBit_other, hxs]
    · simp [Dev.when, Dev.probeDone, Dev.o_eq, hst, bitOf_putBit_same]
    · simp [Dev.when, Dev.probeDone, Dev.setBit]
    · exact (Dev.raised_settle_iff _ _).mpr hraised
    · exact hdone _ hshow
    · exact (hlast _ hobj).settle

/-- Once its cause is gone, no fault of the code has one (R519). -/
theorem Dev.causeGone_cause (d : Dev) (code : Nat) : ∀ f ∈ (d.causeGone code).coll.active, f.code = code → f.cause = false := by
  intro f hf hcode
  obtain ⟨g, -, rfl⟩ := List.mem_map.mp hf
  by_cases h : ((g.code == code || lockoutOf g code) && g.cause) = true
  · rw [if_pos h]
  · rw [if_neg h] at hcode ⊢
    simpa [hcode] using h

theorem imuSample_completes (s : State) (yaw ax ay az : Int) (halive : s.dev.alive = true) (himu : s.dev.imuFailed = false) :
    Completes (.imuSample yaw ax ay az) s (fun e => e.o Obj.YAW_RATE_3460 = satI32 yaw ∧ e.o Obj.VALID_3460 = 1 ∧ e.block Obj.ACCEL_3460 = leBytes 4 ax ++ leBytes 4 ay ++ leBytes 4 az ∧
      (∀ f ∈ e.coll.active, f.code = 0x8220 → f.cause = false) ∧ e.coll.active.length = s.dev.coll.active.length ∧ e.coll = { s.dev.coll with active := e.coll.active } ∧
      ({ s.dev with blk := e.blk, coll := e.coll } : Dev).ShowsOnly e ∧ OnlyObjects (fun k => k == Obj.YAW_RATE_3460 || k == Obj.VALID_3460) s.dev e) := by
  refine completes_live_eq _ rfl halive (if_neg (by simp [himu])) ?_
  refine ⟨by simp +decide [Dev.o_eq], by simp +decide [Dev.o_eq], by simp [Dev.block, Dev.causeGone], ?_, by simp [Dev.causeGone], by simp [Dev.causeGone], ?_,
    by simp +decide [onlyObjects_iff]⟩
  · simpa using Dev.causeGone_cause _ 0x8220
  · simp +contextual [Dev.showsOnly_iff, Dev.unshown, Dev.causeGone]

theorem imuSampleTimeout_completes (s : State) (halive : s.dev.alive = true) :
    Completes (.imuSampleTimeout) s (fun e => e.o Obj.VALID_3460 = 0 ∧ e.inForce 0x8220 .bom ∧ s.dev.RaisesOnly e ∧ OnlyObjects (fun k => k == Obj.VALID_3460 || isReaction k) s.dev e) := by
  refine completes_live (f := fun d => d.imuLost) rfl halive ?_
  unfold Dev.imuLost
  refine ⟨by simp +decide [Dev.o_eq], by simp +decide [Dev.inForce_raise_on], ?_, by simp +decide +contextual [onlyObjects_iff]⟩
  exact frame_raises.settle (frame_raises.raise (frame_raises.setO (frame_raises.refl _) _ _) _ _ _)

/-- Settles O13, clause by clause. -/
theorem probesAndInertialSensor : Obligations.ProbesAndInertialSensor :=
  ⟨probeArm_completes, probeAcknowledge_completes, probeDisarm_completes, probeEdge_completes, imuSample_completes, imuSampleTimeout_completes⟩

end Sys2Proof.Machine
end

section
/-! Commands of the traction domains (R116, R125, R138, R147, R149, R154, O15), and what the traction bridges' stops show. -/

namespace Sys2Proof.Machine

/-! ### Commands that answer, and commands that hand a write on, while object access is served -/

theorem completes_serve_result {c : Instr} {s : State} {f : Dev → Dev} (code : Nat) {p : Dev → Prop} (h : exec c s = s.serve f)
    (ha : s.dev.phase = .service) (hf : f s.dev = s.dev.res code)
    (hp : ∀ e : Dev, e.result = code → ({ s.dev with result := e.result } : Dev).ShowsOnly e → OnlyObjects (fun _ => false) s.dev e → p e) :
    Completes c s p := by
  refine completes_serve_eq _ h ha hf (hp _ (by simp) ?_ ?_)
  · simp +contextual [Dev.showsOnly_iff, Dev.res]
  · simp [onlyObjects_iff]

theorem completes_serve_delivered {c : Instr} {s : State} {f : Dev → Dev} (key : Nat) (val : Int) {p : Dev → Prop} (h : exec c s = s.serve f)
    (ha : s.dev.phase = .service) (hf : f s.dev = (s.dev.deliver key val).res 0)
    (hp : ∀ e : Dev, e.result = 0 → e.writes = s.dev.writes ++ [{ key := key, val := val }] →
      ({ s.dev with writes := e.writes, result := e.result } : Dev).ShowsOnly e → OnlyObjects (fun _ => false) s.dev e → p e) :
    Completes c s p := by
  refine completes_serve_eq _ h ha hf (hp _ (by simp) (by simp [Dev.deliver]) ?_ ?_)
  · simp +contextual [Dev.showsOnly_iff, Dev.res, Dev.deliver]
  · simp [onlyObjects_iff, Dev.deliver]

/-! ### Windows, tables and curves -/

theorem windowLost_completes (s : State) (m : Mach) (halive : s.dev.alive = true) :
    Completes (.traWindowLost m) s (fun e => e.raised (mev m 0x3C) ∧ e.o (tk m Obj.WINDOWS_LOST) = satU32 (s.dev.o (tk m Obj.WINDOWS_LOST) + 1) ∧
      s.dev.ShowsOnly e ∧ OnlyObjects (fun k => k == tk m Obj.WINDOWS_LOST || isTraceCount k) s.dev e) := by
  refine completes_live (f := fun d => d.windowLost m) rfl halive ?_
  unfold Dev.windowLost
  refine ⟨by simp, ?_, ?_, ?_⟩
  · cases m <;> simp +decide [Dev.o_eq]
  · simp +contextual [Dev.showsOnly_iff, mem_insertOnce]
  · simp +contextual [onlyObjects_iff]

theorem tableKeys (n : Fin 8) : el Obj.PATTERN_1 (n + 1) ≠ el Obj.PATTERN_TRB (n + 1) ∧ el Obj.TABLE_STATUS (n + 1) ≠ el (tk .B Obj.TABLE_STATUS) (n + 1) ∧
    isStatus (el Obj.TABLE_STATUS (n + 1)) = false ∧ isStatus (el (tk .B Obj.TABLE_STATUS) (n + 1)) = false := by
  revert n
  decide

section
variable (s : State) (n : Fin 8) (b : Bytes) (hserve : s.dev.phase = .service)
include hserve

theorem patternWrite_bad (hcheck : patternCheck b ≠ 0) :
    Completes (.patternTableWrite n b) s (fun e => e.result = patternCheck b ∧ ({ s.dev with result := e.result } : Dev).ShowsOnly e ∧
      OnlyObjects (fun _ => false) s.dev e) :=
  completes_serve_result _ rfl hserve (if_pos hcheck) fun _ h g o => ⟨h, g, o⟩

theorem patternWrite_running (hcheck : patternCheck b = 0) (hrun : s.dev.stopped .tra = false ∨ s.dev.stopped .trb = false) :
    Completes (.patternTableWrite n b) s (fun e => e.result = 0x40000001 ∧ ({ s.dev with result := e.result } : Dev).ShowsOnly e ∧
      OnlyObjects (fun _ => false) s.dev e) :=
  completes_serve_result 0x40000001 rfl hserve ((if_neg (by simp [hcheck])).trans (if_pos (by simpa using hrun))) fun _ h g o => ⟨h, g, o⟩

theorem patternWrite_stored (hcheck : patternCheck b = 0) (ha : s.dev.stopped .tra = true) (hb : s.dev.stopped .trb = true) :
    Completes (.patternTableWrite n b) s (fun e => e.result = 0 ∧ e.block (el Obj.PATTERN_1 (n + 1)) = b ∧ e.block (el Obj.PATTERN_TRB (n + 1)) = b ∧
      e.o (el Obj.TABLE_STATUS (n + 1)) = s.dev.tableStatus .A b ∧ e.o (el (tk .B Obj.TABLE_STATUS) (n + 1)) = s.dev.tableStatus .B b ∧
      ({ s.dev with blk := e.blk, result := e.result } : Dev).ShowsOnly e ∧ OnlyObjects (fun k => k == el Obj.TABLE_STATUS (n + 1) || k == el (tk .B Obj.TABLE_STATUS) (n + 1)) s.dev e) := by
  refine completes_serve_eq _ rfl hserve ((if_neg (by simp [hcheck])).trans (if_neg (by simp [ha, hb]))) ?_
  obtain ⟨hblk, hkey, hst, hstB⟩ := tableKeys n
  refine ⟨by simp, ?_, by simp [Dev.block], ?_, ?_, ?_, ?_⟩
  · simp [Dev.block, Tab.get_set_other _ _ _ _ hblk]
  · simp [Dev.o_eq, hst, hkey]
    rfl
  · simp [Dev.o_eq, hstB]
    rfl
  · simp +contextual [Dev.showsOnly_iff, Dev.unshown, Dev.res]
  · simp [onlyObjects_iff]

end

section
variable (s : State) (m : Mach) (gen : Bool) (b : Bytes) (hserve : s.dev.phase = .service)
include hserve

theorem curveWrite_bad (hcheck : curveCheck b ≠ 0) :
    Completes (.curveWrite m gen b) s (fun e => e.result = curveCheck b ∧ ({ s.dev with result := e.result } : Dev).ShowsOnly e ∧
      OnlyObjects (fun _ => false) s.dev e) :=
  completes_serve_result _ rfl hserve (if_pos hcheck) fun _ h g o => ⟨h, g, o⟩

theorem curveWrite_stored (hcheck : curveCheck b = 0) (hstop : s.dev.stopped (mdom m) = true) :
    Completes (.curveWrite m gen b) s (fun e => e.result = 0 ∧ e.block (tk m (if gen then Obj.CURVE_GEN else Obj.CURVE_MOT)) = b ∧
      e.o (tk m Obj.CURVE_STATUS) = putBit (s.dev.o (tk m Obj.CURVE_STATUS)) (if gen then 1 else 0) (b != []) ∧
      ({ s.dev with blk := e.blk, result := e.result } : Dev).ShowsOnly e ∧ OnlyObjects (fun k => k == tk m Obj.CURVE_STATUS) s.dev e) := by
  refine completes_serve_eq _ rfl hserve ((if_neg (by simp [hcheck])).trans (if_neg (by simp [hstop]))) ?_
  have hst : isStatus (tk m Obj.CURVE_STATUS) = false := by cases m <;> decide
  refine ⟨by simp, by simp [Dev.block, Dev.setBit], ?_, ?_, ?_⟩
  · simp [Dev.o_eq, hst]
  · simp +contextual [Dev.showsOnly_iff, Dev.unshown, Dev.res, Dev.setBit]
  · simp [onlyObjects_iff]

theorem curveWrite_running (hcheck : curveCheck b = 0) (hstop : s.dev.stopped (mdom m) = false) :
    Completes (.curveWrite m gen b) s (fun e => e.result = 0x40000001 ∧ ({ s.dev with result := e.result } : Dev).ShowsOnly e ∧
      OnlyObjects (fun _ => false) s.dev e) :=
  completes_serve_result 0x40000001 rfl hserve ((if_neg (by simp [hcheck])).trans (if_pos (by simp [hstop]))) fun _ h g o => ⟨h, g, o⟩

end

/-! ### RUN -/

theorem Dev.allowed_eq {d : Dev} {bits : List Nat} (h : d.fuseBars bits = false) (f : Dev → Dev) : d.allowed bits f = f d := by
  unfold Dev.allowed
  rw [if_neg (by simp [h])]

section
variable (s : State) (m : Mach) (hserve : s.dev.phase = .service)
include hserve

theorem tractionStop_completes : Completes (.tractionStop m) s (fun e => e.result = 0 ∧ e.writes = s.dev.writes ++ [{ key := tk m Obj.RUN_4240, val := 0 }] ∧
    ({ s.dev with writes := e.writes, result := e.result } : Dev).ShowsOnly e ∧ OnlyObjects (fun _ => false) s.dev e) :=
  completes_serve_delivered _ _ rfl hserve rfl fun _ h w g o => ⟨h, w, g, o⟩

theorem tractionRun_refused (hfuse : s.dev.fuseBars (enableBits (mdom m)) = false)
    (hno : s.dev.startBlocked (mdom m) = true ∨ (s.dev.o (tk m Obj.BRIDGE_STATE) = 0 ∧ s.dev.runConditions m = false)) :
    Completes (.tractionRun m) s (fun e => e.result = resState ∧ ({ s.dev with result := e.result } : Dev).ShowsOnly e ∧ OnlyObjects (fun _ => false) s.dev e) := by
  refine completes_serve_result resState rfl hserve ((Dev.allowed_eq hfuse _).trans ?_) fun _ h g o => ⟨h, g, o⟩
  unfold Dev.runWrite
  rcases hno with h | ⟨hstate, hcond⟩
  · rw [if_pos h]
  · simp [hstate, hcond]

theorem tractionRun_accepted (hfuse : s.dev.fuseBars (enableBits (mdom m)) = false) (hstart : s.dev.startBlocked (mdom m) = false)
    (hok : s.dev.o (tk m Obj.BRIDGE_STATE) ≠ 0 ∨ s.dev.runConditions m = true) :
    Completes (.tractionRun m) s (fun e => e.result = 0 ∧ e.writes = s.dev.writes ++ [{ key := tk m Obj.RUN_4240, val := 1 }] ∧
      ({ s.dev with writes := e.writes, result := e.result } : Dev).ShowsOnly e ∧ OnlyObjects (fun _ => false) s.dev e) := by
  refine completes_serve_delivered _ _ rfl hserve ((Dev.allowed_eq hfuse _).trans ?_) fun _ h w g o => ⟨h, w, g, o⟩
  unfold Dev.runWrite
  rw [if_neg (by simp [hstart]), if_neg (by simpa [or_iff_not_imp_left] using hok)]

end

/-! ### What the stops of a traction bridge show -/

theorem Dev.ascState_ge (d : Dev) (m : Mach) : 3 ≤ d.ascState m := by
  unfold Dev.ascState
  simp only []
  split
  · decide
  · split
    · decide
    · split
      · decide
      · split <;> decide

/-- A bridge that enters ASC shows the state that R152 gives. -/
theorem Dev.o_ascEnter_state (d : Dev) (m : Mach) (c : Nat) : (d.ascEnter m c).o (tk m Obj.BRIDGE_STATE) = d.ascState m := by
  have hwhen (x : Dev) (b : Bool) (k : Nat) : (x.when b (fun d => { d with openRequest := true })).o k = x.o k := by cases b <;> rfl
  unfold Dev.ascEnter
  simp only [hwhen]
  split
  · simp
  · cases m <;> simp +decide [Dev.updTrac, Dev.o_eq]

@[simp] theorem Dev.o_pulsesOff_state (d : Dev) (m : Mach) : (d.pulsesOff m).o (tk m Obj.BRIDGE_STATE) = 0 := Dev.o_setO_same ..

theorem quiet_pulsesOff (d : Dev) (m : Mach) : d.Quiet (d.pulsesOff m) := (quiet_tracIdle d m).trans (quiet_setO _ _ (by cases m <;> decide))

/-! ### The end of the hold, and probes -/

theorem zeroHoldTimeout_completes (s : State) (m : Mach) (halive : s.dev.alive = true) (hstate : s.dev.o (tk m Obj.BRIDGE_STATE) = 2)
    (hlock : s.dev.b (tk m Obj.LOCKED_4230) = false) :
    Completes (.zeroHoldTimeout m) s (fun e => e.inForce (mcode m 0x1452) (mdom m) ∧ (9 * (s.dev.tracOf m).vdc < 10 * s.dev.n (tk m Obj.EMF_EST) → 3 ≤ e.o (tk m Obj.BRIDGE_STATE)) ∧
      (10 * s.dev.n (tk m Obj.EMF_EST) ≤ 9 * (s.dev.tracOf m).vdc → e.o (tk m Obj.BRIDGE_STATE) = 0) ∧ s.dev.RaisesOnly e ∧ OnlyObjects (fun k => isReaction k) s.dev e) := by
  refine completes_live_eq (s.dev.holdDecision m (s.dev.tracOf m).vdc) rfl halive (by simp [Dev.when, hstate, hlock]) ?_
  unfold Dev.holdDecision
  have hemf : (s.dev.raise (mcode m 0x1452) false { ini := 0x20 + mnum m, acc := 5 }).n (tk m Obj.EMF_EST) = s.dev.n (tk m Obj.EMF_EST) :=
    Dev.n_eq (Dev.o_raise _ _ _ _ (by cases m <;> decide) (by cases m <;> decide))
  have hin : (s.dev.raise (mcode m 0x1452) false { ini := 0x20 + mnum m, acc := 5 }).inForce (mcode m 0x1452) (mdom m) :=
    Dev.inForce_raise_on _ _ _ (by cases m <;> decide) (by cases m <;> decide)
  have hrest : s.dev.RaisesOnly (s.dev.raise (mcode m 0x1452) false { ini := 0x20 + mnum m, acc := 5 }) := frame_raises.raise (frame_raises.refl _) _ _ _
  have hobj : OnlyObjects isReaction s.dev (s.dev.raise (mcode m 0x1452) false { ini := 0x20 + mnum m, acc := 5 }) :=
    .raise (.refl _) _ _ _ fun _ h => h
  have hst : isStatus (tk m Obj.BRIDGE_STATE) = false := by cases m <;> decide
  simp only [hemf]
  generalize s.dev.raise (mcode m 0x1452) false { ini := 0x20 + mnum m, acc := 5 } = x at *
  split
  · refine ⟨?_, fun _ => ?_, fun h => absurd h (by omega), ?_, ?_⟩
    · simpa using (Dev.stops_ascEnter x m 5).inForce hin
    · rw [Dev.o_settle _ hst, Dev.o_ascEnter_state]
      exact_mod_cast x.ascState_ge m
    · exact frame_raises.settle (frame_raises.trans hrest (x.stops_ascEnter m 5).raises)
    · exact (hobj.trans (quiet_ascEnter x m 5)).settle
  · refine ⟨?_, fun h => absurd h (by omega), fun _ => ?_, ?_, ?_⟩
    · simpa using (Dev.stops_pulsesOff x m).inForce hin
    · rw [Dev.o_settle _ hst, Dev.o_pulsesOff_state]
    · exact frame_raises.settle (frame_raises.trans hrest (x.stops_pulsesOff m).raises)
    · exact (hobj.trans (quiet_pulsesOff x m)).settle

theorem ascProbe_completes (s : State) (m : Mach) (halive : s.dev.alive = true)
    (hasc : s.dev.o (tk m Obj.BRIDGE_STATE) = 3 ∨ s.dev.o (tk m Obj.BRIDGE_STATE) = 4) (hsensor : s.dev.sensorActive m = false)
    (h3 : s.dev.tier3 = false) (h4 : s.dev.tier4 = false) (hprobe : (s.dev.tracOf m).probing = false) :
    Completes (.traAscProbe m) s (fun e => e.raised (mev m 0x27) ∧ (e.tracOf m).probing = true ∧ ({ s.dev with trac := e.trac } : Dev).ShowsOnly e ∧
      OnlyObjects (fun k => isTraceCount k) s.dev e) := by
  have hbs : (s.dev.n (tk m Obj.BRIDGE_STATE) == 3 || s.dev.n (tk m Obj.BRIDGE_STATE) == 4) = true := by
    rcases hasc with h | h <;> simp [Dev.n, h]
  refine completes_live_eq ((s.dev.updTrac m (fun t => { t with probing := true })).event (mev m 0x27)) rfl halive ?_ ?_
  · simp only [Dev.when, hbs, hsensor, h3, h4, hprobe]
    rfl
  · refine ⟨by simp, by simp [Dev.tracOf, Dev.updTrac], ?_, ?_⟩
    · simp +contextual [Dev.showsOnly_iff, Dev.unshown, Dev.updTrac, mem_insertOnce]
    · simp [onlyObjects_iff, Dev.updTrac]

/-- The end of a probe, up to what it decides (R154). -/
def Dev.probed (d : Dev) (m : Mach) (emf : Nat) : Dev := (d.updTrac m (fun t => { t with probing := false })).setO (tk m Obj.EMF_EST) emf

theorem latched_setO {d : Dev} {k : Nat} (hk : k < 0x602000) (v : Int) (n : Nat) : (d.setO k v).latched n = d.latched n := by
  have hne : el Obj.STATUS_6020 n ≠ k := by
    simp only [el, Obj.STATUS_6020]
    omega
  simp [Dev.latched, Dev.o_setO_other _ _ hne]

theorem Dev.ascCauseGone_probed (d : Dev) (m : Mach) (emf : Nat) : (d.probed m emf).ascCauseGone m = d.ascCauseGone m := by
  have hkey : tk m Obj.EMF_EST < 0x602000 := by cases m <;> decide
  have hlat (n : Nat) : (d.probed m emf).latched n = d.latched n := latched_setO hkey _ _
  have hsafe : (d.probed m emf).o Obj.SAFE_IN = d.o Obj.SAFE_IN := Dev.o_setO_other _ _ (by cases m <;> decide)
  unfold Dev.ascCauseGone
  simp only [hlat, hsafe]
  rfl

theorem ascProbeEnd_holds (s : State) (m : Mach) (emf freq : Nat) (dcHigh : Bool) (halive : s.dev.alive = true)
    (hprobe : (s.dev.tracOf m).probing = true) (hno : dcHigh = true ∨ 9 * (s.dev.tracOf m).vdc < 10 * emf ∨
      95 * s.dev.n (tk m Obj.ASC_SPEED) * 1000 * s.dev.n (srcKey m Obj.POLE_PAIRS_3430) ≤ freq * 6000) :
    Completes (.ascProbeEnd m emf freq dcHigh) s (fun e => (e.tracOf m).probing = false ∧ e.o (tk m Obj.EMF_EST) = emf ∧
      ({ s.dev with trac := e.trac } : Dev).ShowsOnly e ∧ OnlyObjects (fun k => k == tk m Obj.EMF_EST) s.dev e) := by
  refine completes_live_eq (s.dev.probed m emf) rfl halive ?_ ?_
  · have hpass : (!dcHigh && decide (10 * emf ≤ 9 * (s.dev.tracOf m).vdc) &&
        decide (freq * 6000 < 95 * s.dev.n (tk m Obj.ASC_SPEED) * 1000 * s.dev.n (srcKey m Obj.POLE_PAIRS_3430))) = false := by
      rcases hno with h | h | h
      · simp [h]
      · simp [Nat.not_le.mpr h]
      · simp [Nat.not_lt.mpr h]
    unfold Dev.probeEnd
    simp only [hprobe, hpass, Bool.false_and, Bool.not_true, Bool.false_eq_true, if_false]
    rfl
  · have hst : isStatus (tk m Obj.EMF_EST) = false := by cases m <;> decide
    refine ⟨by simp [Dev.tracOf, Dev.probed, Dev.updTrac], by simp [Dev.o_eq, Dev.probed, hst], ?_, by simp [onlyObjects_iff, Dev.probed, Dev.updTrac]⟩
    simp +contextual [Dev.showsOnly_iff, Dev.unshown, Dev.probed, Dev.updTrac]

theorem ascProbeEnd_leaves (s : State) (m : Mach) (emf freq : Nat) (halive : s.dev.alive = true) (hprobe : (s.dev.tracOf m).probing = true)
    (hemf : 10 * emf ≤ 9 * (s.dev.tracOf m).vdc)
    (hslow : freq * 6000 < 95 * s.dev.n (tk m Obj.ASC_SPEED) * 1000 * s.dev.n (srcKey m Obj.POLE_PAIRS_3430)) (hgone : s.dev.ascCauseGone m = true) :
    Completes (.ascProbeEnd m emf freq false) s (fun e => e.o (tk m Obj.BRIDGE_STATE) = 0 ∧ e.o (tk m Obj.ASC_CAUSE) = 0 ∧ e.raised (mev m 0x25) ∧ e.o (tk m Obj.EMF_EST) = emf ∧
      s.dev.RaisesOnly e ∧ OnlyObjects (fun k => k == tk m Obj.EMF_EST || isReaction k) s.dev e) := by
  refine completes_live_eq ((s.dev.probed m emf).ascExit m) rfl halive ?_ ?_
  · unfold Dev.probeEnd
    simp only [hprobe, hemf, hslow, Bool.not_true, Bool.false_eq_true, if_false, decide_true, Bool.not_false, Bool.true_and]
    exact if_pos ((Dev.ascCauseGone_probed ..).trans hgone)
  · have hquiet := quiet_pulsesOff (s.dev.probed m emf) m
    have hemf : ((s.dev.probed m emf).pulsesOff m).o (tk m Obj.EMF_EST) = emf :=
      (hquiet.same _ (by cases m <;> decide) (by cases m <;> decide)).trans (Dev.o_setO_same ..)
    have hoff : ((s.dev.probed m emf).pulsesOff m).o (tk m Obj.BRIDGE_STATE) = 0 := Dev.o_pulsesOff_state ..
    have hrest : s.dev.RaisesOnly ((s.dev.probed m emf).pulsesOff m) :=
      frame_raises.trans (b := s.dev.probed m emf) (frame_raises.setO (Dev.stops_updTrac _ _ _).raises _ _) (Dev.stops_pulsesOff _ _).raises
    have hobj : OnlyObjects (fun k => k == tk m Obj.EMF_EST || isReaction k) s.dev ((s.dev.probed m emf).pulsesOff m) := by
      refine OnlyObjects.trans ?_ (hquiet.mono (by simp +contextual))
      simp [onlyObjects_iff, Dev.probed, Dev.updTrac]
    unfold Dev.ascExit
    generalize (s.dev.probed m emf).pulsesOff m = x at *
    rw [Dev.o_eq] at hemf hoff
    refine ⟨?_, ?_, by simp, ?_, ?_, ?_⟩
    · cases m <;> simp +decide [Dev.o_eq, hoff]
    · cases m <;> simp +decide [Dev.o_eq]
    · cases m <;> simp +decide [Dev.o_eq, hemf]
    · exact frame_raises.settle (frame_raises.event (frame_raises.setO hrest _ _) _)
    · exact (OnlyObjects.event (hobj.setO _ _ (by cases m <;> decide)) _ (by simp +contextual)).settle

/-- Settles O15, clause by clause. -/
theorem tractionCommands : Obligations.TractionCommands :=
  ⟨windowLost_completes, patternWrite_bad, patternWrite_running, patternWrite_stored, curveWrite_bad, curveWrite_stored, curveWrite_running,
    tractionStop_completes, tractionRun_refused, tractionRun_accepted, zeroHoldTimeout_completes, ascProbe_completes, ascProbeEnd_holds,
    ascProbeEnd_leaves⟩

end Sys2Proof.Machine
end

section
/-! The sources of the link (R188, R192, R200, R399 to R402, O17). -/

namespace Sys2Proof.Machine

/-- A frame that allows the peers to change names them by what they end at. -/
theorem raisesOnly_withPeers {d e : Dev} {p : Tab InputPeer} (h : ({ d with peers := p } : Dev).RaisesOnly e) :
    ({ d with peers := e.peers } : Dev).RaisesOnly e := by
  have hp : e.peers = p := by
    obtain ⟨c, hstops⟩ := h
    exact hstops.peers
  rwa [hp]

/-- The return of the sources ends causes and no more (R192). -/
theorem Dev.sourcesRestored_eq (d : Dev) : ∃ a : List FaultRec, d.sourcesRestored = { d with coll := { d.coll with active := a } } := by
  unfold Dev.sourcesRestored Dev.when
  split
  · exact ⟨_, rfl⟩
  · exact ⟨d.coll.active, rfl⟩

/-- A limit frame replaces what the source announced (R400, R401). -/
theorem Dev.limitFrame_eq (d : Dev) (src a b volts st : Nat) (regen : Bool) : ∃ (act : List FaultRec) (f : FeedSource),
    d.limitFrame src a b volts st regen = { d.updFeed src (fun _ => f) with coll := { d.coll with active := act } } ∧
      f.draw = a % 65536 * 100 ∧ f.feed = b % 65536 * 100 ∧ f.volts = volts % 65536 ∧ f.state = st % 4 ∧ f.regen = regen ∧ f.seen = true ∧
      f.timedOut = false := by
  obtain ⟨act, h⟩ := Dev.sourcesRestored_eq (d.updFeed src (fun f => { f with
    draw := a % 65536 * 100, feed := b % 65536 * 100, volts := volts % 65536, state := st % 4, regen := regen, seen := true, timedOut := false,
    closed := f.lost && (if f.lost3 then st % 4 == 1 || st % 4 == 3 else f.closed || st % 4 == 1 || st % 4 == 3) }))
  exact ⟨act, _, h, rfl, rfl, rfl, rfl, rfl, rfl, rfl⟩

@[simp] theorem Dev.updFeed_obj (d : Dev) (src : Nat) (f : FeedSource → FeedSource) : (d.updFeed src f).obj = d.obj := rfl
@[simp] theorem Dev.updFeed_coll (d : Dev) (src : Nat) (f : FeedSource → FeedSource) : (d.updFeed src f).coll = d.coll := rfl
@[simp] theorem Dev.updFeed_wall (d : Dev) (src : Nat) (f : FeedSource → FeedSource) : (d.updFeed src f).wall = d.wall := rfl

/-- What an update of one source and of the causes leaves. -/
theorem feed_frames (d : Dev) (src : Nat) (f : FeedSource → FeedSource) (act : List FaultRec) :
    let e : Dev := Dev.settle { d.updFeed src f with coll := { d.coll with active := act } }
    (e.feedOf src = f (d.feedOf src) ∧ ∀ k, k ≠ src → e.feedOf k = d.feedOf k) ∧ e.coll = { d.coll with active := e.coll.active } ∧
      ({ d with feeds := e.feeds, coll := e.coll } : Dev).ShowsOnly e ∧ OnlyObjects (fun _ => false) d e := by
  refine ⟨⟨by simp [Dev.feedOf, Dev.updFeed], fun k hk => ?_⟩, by simp, ?_, by simp [onlyObjects_iff]⟩
  · simp [Dev.feedOf, Dev.updFeed, Tab.get_upd_other _ _ _ hk]
  · simp +contextual [Dev.showsOnly_iff, Dev.unshown, Dev.updFeed]

/-! ### Limit frames -/

section
variable (s : State) (name a b volts st : Nat) (regen : Bool) (hserve : s.dev.phase = .service)
include hserve

theorem tractorLimitFrame_taken (hname : s.dev.n Obj.TRACTOR_NAME = name) (h0 : name ≠ 0) (hpeer : (Tab.get {} s.dev.peers 0 : InputPeer).name = name) :
    Completes (.tractorLimitFrame name a b volts st regen) s (fun e => (e.feedOf 0).draw = a % 65536 * 100 ∧ (e.feedOf 0).feed = b % 65536 * 100 ∧ (e.feedOf 0).volts = volts % 65536 ∧ (e.feedOf 0).state = st % 4 ∧
      (e.feedOf 0).regen = regen ∧ (e.feedOf 0).seen = true ∧ (e.feedOf 0).timedOut = false ∧ e.feedOf 1 = s.dev.feedOf 1 ∧
      e.coll = { s.dev.coll with active := e.coll.active } ∧ ({ s.dev with feeds := e.feeds, coll := e.coll } : Dev).ShowsOnly e ∧ OnlyObjects (fun _ => false) s.dev e) := by
  obtain ⟨act, f, hf, hdraw, hfeed, hvolts, hstate, hregen, hseen, htimed⟩ := s.dev.limitFrame_eq 0 a b volts st regen
  obtain ⟨⟨hsame, hother⟩, hcoll, hshow, hobj⟩ := feed_frames s.dev 0 (fun _ => f) act
  refine completes_serve_eq _ rfl hserve (Eq.trans ?_ hf) ?_
  · simp [Dev.peerTakes, hname, h0, hpeer, Dev.when]
  · rw [hsame]
    exact ⟨hdraw, hfeed, hvolts, hstate, hregen, hseen, htimed, hother 1 (by decide), hcoll, hshow, hobj⟩

theorem tractorLimitFrame_ignored (h0 : s.dev.n Obj.TRACTOR_NAME ≠ 0) (hname : s.dev.n Obj.TRACTOR_NAME ≠ name)
    (hrep : (Tab.get {} s.dev.peers 0 : InputPeer).reported = false) :
    Completes (.tractorLimitFrame name a b volts st regen) s (fun e => e.o Obj.IGNORED = satU32 (s.dev.o Obj.IGNORED + 1) ∧ e.raised 0xDD ∧ ({ s.dev with peers := e.peers } : Dev).RaisesOnly e ∧ OnlyObjects (fun k => k == Obj.IGNORED || isReaction k) s.dev e) := by
  let peers := Tab.set {} s.dev.peers 0 { name := s.dev.n Obj.TRACTOR_NAME, reported := true }
  refine completes_serve_eq (((Dev.addSat { s.dev with peers := peers } Obj.IGNORED 1).event 0xDD).raiseOn 0x90D3 .sys false { addr := Obj.TRACTOR_NAME, ini := 0x5F, acc := 6 })
    rfl hserve ?_ ?_
  · simp only [Dev.peerTakes, ne_eq, h0, not_false_eq_true, if_true, hname.symm, if_false, hrep, Bool.false_and, Bool.false_eq_true, Dev.when]
    rfl
  · refine ⟨by simp +decide [Dev.o_eq], by simp [Dev.raised_raiseOn], ?_, by simp +decide +contextual [onlyObjects_iff]⟩
    refine raisesOnly_withPeers (p := peers) ?_
    generalize ({ s.dev with peers := peers } : Dev) = d
    exact frame_raises.settle (frame_raises.raiseOn (frame_raises.event (frame_raises.setO (frame_raises.refl _) _ _) _) _ _ _ _)

end

theorem bmsLimitFrame_completes (s : State) (source a b volts st : Nat) (hserve : s.dev.phase = .service) (hfit : s.dev.b Obj.BATTERY_FITTED = true)
    (haddr : s.dev.n Obj.BMS_ADDR = source) :
    Completes (.bmsLimitFrame source a b volts st) s (fun e => (e.feedOf 1).draw = a % 65536 * 100 ∧ (e.feedOf 1).feed = b % 65536 * 100 ∧ (e.feedOf 1).volts = volts % 65536 ∧ (e.feedOf 1).state = st % 4 ∧
      (e.feedOf 1).seen = true ∧ e.feedOf 0 = s.dev.feedOf 0 ∧ e.coll = { s.dev.coll with active := e.coll.active } ∧ ({ s.dev with feeds := e.feeds, coll := e.coll } : Dev).ShowsOnly e ∧ OnlyObjects (fun _ => false) s.dev e) := by
  obtain ⟨act, f, hf, hdraw, hfeed, hvolts, hstate, -, hseen, -⟩ := s.dev.limitFrame_eq 1 a b volts st true
  obtain ⟨⟨hsame, hother⟩, hcoll, hshow, hobj⟩ := feed_frames s.dev 1 (fun _ => f) act
  refine completes_serve_eq _ rfl hserve (Eq.trans ?_ hf) ?_
  · simp [hfit, haddr, Dev.when]
  · rw [hsame]
    exact ⟨hdraw, hfeed, hvolts, hstate, hseen, hother 0 (by decide), hcoll, hshow, hobj⟩

/-! ### Lost and returning sources -/

theorem sourceLost_completes (s : State) (src : Fin 2) (i fall : Nat) (halive : s.dev.alive = true) (hcounts : s.dev.sourceCounts src = true)
    (hi : i < 10) (hfall : 100 < fall) :
    Completes (.lnkSourceLost src i fall) s (fun e => (e.feedOf src).lost = true ∧ e.raised 0x85 ∧ e.inForce 0x6275 .lnk ∧ ({ s.dev with feeds := e.feeds } : Dev).RaisesOnly e ∧ OnlyObjects (fun k => isReaction k) s.dev e) := by
  refine completes_live_eq _ rfl halive (if_neg (by simp [hcounts, hi, hfall])) ?_
  refine ⟨by simp [Dev.feedOf, Dev.updFeed], by simp [Dev.raised_raise], by simp +decide [Dev.inForce_raise_on], ?_, by simp +contextual [onlyObjects_iff]⟩
  simp +contextual [Dev.raisesOnly_iff, Dev.updFeed, mem_insertOnce]

theorem sourceTimeout_completes (s : State) (src : Fin 2) (halive : s.dev.alive = true) (hfit : s.dev.fitted src = true)
    (hseen : (s.dev.feedOf src).seen = true) (htimed : (s.dev.feedOf src).timedOut = false) :
    Completes (.lnkSourceTimeout src) s (fun e => (e.feedOf src).timedOut = true ∧ e.raised 0x86 ∧ e.inForce 0x6275 .lnk ∧ (src = 0 → (Tab.get {} e.peers 0 : InputPeer).name = 0) ∧ ({ s.dev with feeds := e.feeds, peers := e.peers } : Dev).RaisesOnly e ∧ OnlyObjects (fun k => isReaction k) s.dev e) := by
  refine completes_live_eq _ rfl halive (if_neg (by simp [hfit, hseen, htimed])) ?_
  by_cases h0 : src.val = 0
  · simp only [h0, decide_true, Dev.when, if_true]
    refine ⟨by simp [Dev.feedOf, Dev.updFeed], by simp [Dev.raised_raise], by simp +decide [Dev.inForce_raise_on], fun _ => by simp [Dev.updFeed], ?_,
      by simp +contextual [onlyObjects_iff]⟩
    simp +contextual [Dev.raisesOnly_iff, Dev.updFeed, mem_insertOnce]
  · simp only [h0, decide_false, Dev.when, Bool.false_eq_true, if_false]
    refine ⟨by simp [Dev.feedOf, Dev.updFeed], by simp [Dev.raised_raise], by simp +decide [Dev.inForce_raise_on], fun h => absurd (congrArg Fin.val h) h0, ?_,
      by simp +contextual [onlyObjects_iff]⟩
    simp +contextual [Dev.raisesOnly_iff, Dev.updFeed, mem_insertOnce]

theorem sourceReturn_completes (s : State) (src : Fin 2) (halive : s.dev.alive = true) (hlost : (s.dev.feedOf src).lost = true)
    (h3 : (s.dev.feedOf src).lost3 = true) (hclosed : (s.dev.feedOf src).closed = true) (hstate : (s.dev.feedOf src).state = 3) :
    Completes (.sourceCurrentReturn src) s (fun e => (e.feedOf src).lost = false ∧ (e.feedOf src).closed = false ∧ e.coll = { s.dev.coll with active := e.coll.active } ∧ ({ s.dev with feeds := e.feeds, coll := e.coll } : Dev).ShowsOnly e ∧ OnlyObjects (fun _ => false) s.dev e) := by
  let f : FeedSource → FeedSource := fun f => { f with lost := false, lost3 := false, closed := false }
  obtain ⟨act, hact⟩ := Dev.sourcesRestored_eq (s.dev.updFeed src f)
  obtain ⟨⟨hsame, -⟩, hcoll, hshow, hobj⟩ := feed_frames s.dev src f act
  refine completes_live_eq _ rfl halive (Eq.trans ?_ hact) ?_
  · simp [hlost, h3, hclosed, hstate, Dev.when, f]
  · refine ⟨?_, ?_, hcoll, hshow, hobj⟩
    · exact congrArg FeedSource.lost hsame
    · exact congrArg FeedSource.closed hsame

/-! ### LINK_CTRL and the status frame -/

theorem linkCtrl_range (s : State) (v : Int) (hserve : s.dev.phase = .service) (hv : v < 0 ∨ 3 < v) :
    Completes (.linkCtrlWrite v) s (fun e => e.result = 0x30000002 ∧ ({ s.dev with result := e.result } : Dev).ShowsOnly e ∧ OnlyObjects (fun _ => false) s.dev e) := by
  refine completes_serve_result resRange rfl hserve ?_ fun _ h g o => ⟨h, g, o⟩
  have hcheck : s.dev.linkCtrlCheck v = resRange := if_pos hv
  unfold Dev.linkCtrlPermitted Dev.linkCtrlWrite
  rw [if_neg (by omega), if_neg (by omega), if_neg (by omega)]
  simp [hcheck, resRange]

theorem linkCtrl_zero (s : State) (hserve : s.dev.phase = .service) :
    Completes (.linkCtrlWrite 0) s (fun e => e.result = 0 ∧ e.writes = s.dev.writes ++ [{ key := Obj.LINK_CTRL, val := 0 }] ∧ ({ s.dev with writes := e.writes, result := e.result } : Dev).ShowsOnly e ∧ OnlyObjects (fun _ => false) s.dev e) :=
  completes_serve_delivered _ _ rfl hserve rfl fun _ h w g o => ⟨h, w, g, o⟩

theorem linkStatusFrame_completes (s : State) (hserve : s.dev.phase = .service) :
    Completes (.linkStatusFrameSend) s (fun e => (if s.dev.claim = 2 then e.data = s.dev.linkStatusFrame ∧ e.data.length = 8 ∧ e.data.headD 0 = 0xEA else e.data = s.dev.data) ∧ ({ s.dev with data := e.data } : Dev).ShowsOnly e ∧ OnlyObjects (fun _ => false) s.dev e) := by
  by_cases hclaim : s.dev.claim = 2
  · refine completes_serve_eq { s.dev with data := s.dev.linkStatusFrame } rfl hserve (by simp [hclaim, Dev.when]) ?_
    rw [if_pos hclaim]
    refine ⟨⟨by simp, by simp [Dev.linkStatusFrame], ?_⟩, ?_, by simp [onlyObjects_iff]⟩
    · simp [Dev.linkStatusFrame, leBytes]
    · simp +contextual [Dev.showsOnly_iff]
  · refine completes_serve_eq s.dev rfl hserve (by simp [hclaim, Dev.when]) ?_
    rw [if_neg hclaim]
    refine ⟨by simp, ?_, by simp [onlyObjects_iff]⟩
    simp +contextual [Dev.showsOnly_iff]

/-- Settles O17, clause by clause. -/
theorem linkSources_settled : Obligations.LinkSources :=
  ⟨fun s name a b volts st regen hs hn h0 hp _ => tractorLimitFrame_taken s name a b volts st regen hs hn h0 hp, tractorLimitFrame_ignored,
    fun s source a b volts st hs hf ha _ => bmsLimitFrame_completes s source a b volts st hs hf ha, sourceLost_completes, sourceTimeout_completes,
    sourceReturn_completes, linkCtrl_range, linkCtrl_zero, linkStatusFrame_completes⟩

end Sys2Proof.Machine
end

section
/-! What is written to loop slots (R41, R161, R163, R166, R169, R170, O18). -/

namespace Sys2Proof.Machine

/-- The objects of a loop slot lie in the parameter area, apart from the status objects and the trace counts. -/
theorem lk_quiet {k L : Nat} (hk : keyIdx k = 0xA100) (hL : L < 128) : isStatus (lk k L) = false ∧ isTraceCount (lk k L) = false := by
  have hidx : lk k L / 256 = 0xA100 + L := by
    simp only [lk, at', keyIdx] at hk ⊢
    omega
  exact ⟨isStatus_false (by simp [hidx]; omega), isTraceCount_false (by omega)⟩

theorem lk_inj {k j L : Nat} : lk k L = lk j L ↔ k = j := by
  simp only [lk, at']
  omega

theorem loopWrite_lk {k L : Nat} (hk : keyIdx k = 0xA100) (hL : L < 128) (v : Int) : loopWrite L { key := lk k L, val := v } = true := by
  have hidx : keyIdx (lk k L) = 0xA100 + L := by
    simp only [lk, at', keyIdx] at hk ⊢
    omega
  simp only [loopWrite, hidx, Bool.and_eq_true, decide_eq_true_eq]
  omega

/-- A write delivered alone to a slot that takes its writes at once is applied, and no write waits. -/
theorem Dev.loopDeliver_now {d : Dev} {k L : Nat} (v : Int) (hk : keyIdx k = 0xA100) (hL : L < 128) (hw : d.writes = [])
    (hnow : (!(d.b (lk Obj.ENABLE_A100 L)) || d.loopFrozen L) = true) :
    d.loopDeliver L (lk k L) v = d.loopApply L { key := lk k L, val := v } := by
  have h : d.loopDeliver L (lk k L) v = (d.deliver (lk k L) v).loopWrites L := if_pos hnow
  rw [h, Dev.loopWrites, Dev.deliver, hw]
  have hself : ({ d with writes := [] } : Dev) = d := by rw [← hw]
  simp [loopWrite_lk hk hL, hself]

/-- A write to an enabled slot whose domain runs waits for the sample boundary (R41). -/
theorem Dev.loopDeliver_later {d : Dev} {L : Nat} (key : Nat) (v : Int) (hon : d.b (lk Obj.ENABLE_A100 L) = true)
    (hruns : d.loopFrozen L = false) : d.loopDeliver L key v = d.deliver key v := by
  refine if_neg ?_
  show ¬ (!(d.b (lk Obj.ENABLE_A100 L)) || d.loopFrozen L) = true
  simp [hon, hruns]

theorem Dev.writeEnable_off {d : Dev} {L : Nat} (hL : 96 ≤ L) :
    d.writeEnable L false = (d.loopDeliver L (lk Obj.ENABLE_A100 L) 0).res 0 := by
  simp [Dev.writeEnable, Nat.not_lt.mpr hL, b2i]

section
variable (s : State) (L : Fin 128) (hserve : s.dev.phase = .service)
include hserve

theorem loopEnable_firmware (hL : L.val < 96) : Completes (.loopEnable L) s (fun e => e.result = 0x20000001 ∧
    ({ s.dev with result := e.result } : Dev).ShowsOnly e ∧ OnlyObjects (fun _ => false) s.dev e) :=
  completes_serve_result 0x20000001 rfl hserve (if_pos hL) fun _ hres hshow hobj => ⟨hres, hshow, hobj⟩

theorem loopDisable_firmware (hL : L.val < 96) : Completes (.loopDisable L) s (fun e => e.result = 0x20000001 ∧
    ({ s.dev with result := e.result } : Dev).ShowsOnly e ∧ OnlyObjects (fun _ => false) s.dev e) :=
  completes_serve_result 0x20000001 rfl hserve (if_pos hL) fun _ hres hshow hobj => ⟨hres, hshow, hobj⟩

theorem loopEnable_accepted (hL : 96 ≤ L.val) (hw : s.dev.writes = []) (hoff : s.dev.b (lk Obj.ENABLE_A100 L) = false)
    (hcheck : (s.dev.setO (lk Obj.ENABLE_A100 L) 1).loopCheck L 1 = 0) :
    Completes (.loopEnable L) s (fun e => e.result = 0 ∧ e.o (lk Obj.ENABLE_A100 L) = 1 ∧ e.o (lk Obj.FLAGS L) = (s.dev.n (lk Obj.FLAGS L) % 128 / 32 * 32 : Nat) ∧
      e.loopOf L = { s.dev.loopOf L with first := true, cascade := 0 } ∧ ({ s.dev with loops := e.loops, result := e.result } : Dev).ShowsOnly e ∧
      OnlyObjects (fun k => k == lk Obj.ENABLE_A100 L || k == lk Obj.FLAGS L) s.dev e) := by
  have hen := lk_quiet (k := Obj.ENABLE_A100) (by decide) L.isLt
  have hfl := lk_quiet (k := Obj.FLAGS) (by decide) L.isLt
  have hahead : s.dev.ahead = s.dev := by simp [Dev.ahead, hw]
  refine completes_serve_eq ((((s.dev.setO (lk Obj.ENABLE_A100 L) 1).setO (lk Obj.FLAGS L) (s.dev.n (lk Obj.FLAGS L) % 128 / 32 * 32 : Nat)).updLoop L
      (fun l => { l with first := true, cascade := 0 })).res 0) rfl hserve ?_ ?_
  · have hnow := Dev.loopDeliver_now (d := s.dev) (k := Obj.ENABLE_A100) (L := L) 1 (by decide) L.isLt hw (by simp [hoff])
    simp [Dev.writeEnable, Nat.not_lt.mpr hL, hoff, hahead, hcheck, b2i, hnow, Dev.loopApply]
  · refine ⟨by simp, by simp [Dev.o_eq, Dev.updLoop, Dev.res, hen, lk_inj], by simp [Dev.o_eq, Dev.updLoop, Dev.res, hfl],
      by simp [Dev.loopOf, Dev.updLoop, Dev.res], ?_, ?_⟩
    · simp +contextual [Dev.showsOnly_iff, Dev.unshown, Dev.setO, Dev.updLoop, Dev.res]
    · simp +contextual [onlyObjects_iff, Dev.updLoop, Dev.res]

theorem loopDisable_running (hL : 96 ≤ L.val) (hon : s.dev.b (lk Obj.ENABLE_A100 L) = true) (hruns : s.dev.loopFrozen L = false) :
    Completes (.loopDisable L) s (fun e => e.result = 0 ∧ e.writes = s.dev.writes ++ [{ key := lk Obj.ENABLE_A100 L, val := 0 }] ∧ e.o (lk Obj.ENABLE_A100 L) = s.dev.o (lk Obj.ENABLE_A100 L) ∧
      ({ s.dev with writes := e.writes, result := e.result } : Dev).ShowsOnly e ∧ OnlyObjects (fun _ => false) s.dev e) := by
  refine completes_serve_delivered _ _ rfl hserve ((Dev.writeEnable_off hL).trans (by rw [Dev.loopDeliver_later _ _ hon hruns])) ?_
  intro e hres hwr hshow hobj
  have hen := lk_quiet (k := Obj.ENABLE_A100) (by decide) L.isLt
  exact ⟨hres, hwr, hobj.same _ rfl hen.1, hshow, hobj⟩

theorem loopDisable_frozen (hL : 96 ≤ L.val) (hw : s.dev.writes = []) (_hon : s.dev.b (lk Obj.ENABLE_A100 L) = true) (hfrozen : s.dev.loopFrozen L = true) :
    Completes (.loopDisable L) s (fun e => e.result = 0 ∧ e.o (lk Obj.ENABLE_A100 L) = 0 ∧ ({ s.dev with result := e.result } : Dev).ShowsOnly e ∧
      OnlyObjects (fun k => k == lk Obj.ENABLE_A100 L) s.dev e) := by
  have hen := lk_quiet (k := Obj.ENABLE_A100) (by decide) L.isLt
  refine completes_serve_eq ((s.dev.setO (lk Obj.ENABLE_A100 L) 0).res 0) rfl hserve ?_ ?_
  · have hnow := Dev.loopDeliver_now (d := s.dev) (k := Obj.ENABLE_A100) (L := L) 0 (by decide) L.isLt hw (by simp [hfrozen])
    simp [Dev.writeEnable_off hL, hnow, Dev.loopApply]
  · refine ⟨by simp, by simp [Dev.o_eq, Dev.res, hen], ?_, ?_⟩
    · simp +contextual [Dev.showsOnly_iff, Dev.unshown, Dev.setO, Dev.res]
    · simp +contextual [onlyObjects_iff, Dev.res]

theorem bankCtrlSwap_disabled (hw : s.dev.writes = []) (hoff : s.dev.b (lk Obj.ENABLE_A100 L) = false) :
    Completes (.bankCtrlSwap L) s (fun e => e.result = 0 ∧ e.loopOf L = { s.dev.loopOf L with swap := true } ∧
      ({ s.dev with loops := e.loops, result := e.result } : Dev).ShowsOnly e ∧ OnlyObjects (fun _ => false) s.dev e) := by
  refine completes_serve_eq ((s.dev.updLoop L (fun l => { l with swap := true })).res 0) rfl hserve ?_ ?_
  · have hnow := Dev.loopDeliver_now (d := s.dev) (k := Obj.BANK_CTRL) (L := L) 1 (by decide) L.isLt hw (by simp [hoff])
    simp [hnow, Dev.loopApply, lk_inj]
  · refine ⟨by simp, by simp [Dev.loopOf, Dev.updLoop, Dev.res], ?_, ?_⟩
    · simp +contextual [Dev.showsOnly_iff, Dev.unshown, Dev.updLoop, Dev.res]
    · simp +contextual [onlyObjects_iff, Dev.updLoop, Dev.res]

theorem bankCtrlSwap_running (hon : s.dev.b (lk Obj.ENABLE_A100 L) = true) (hruns : s.dev.loopFrozen L = false) :
    Completes (.bankCtrlSwap L) s (fun e => e.result = 0 ∧ e.writes = s.dev.writes ++ [{ key := lk Obj.BANK_CTRL L, val := 1 }] ∧
      ({ s.dev with writes := e.writes, result := e.result } : Dev).ShowsOnly e ∧ OnlyObjects (fun _ => false) s.dev e) :=
  completes_serve_delivered _ _ rfl hserve (congrArg (fun d : Dev => d.res 0) (Dev.loopDeliver_later _ _ hon hruns))
    fun _ hres hwr hshow hobj => ⟨hres, hwr, hshow, hobj⟩

theorem flagsClear_disabled (mask : Nat) (hw : s.dev.writes = []) (hoff : s.dev.b (lk Obj.ENABLE_A100 L) = false) :
    Completes (.flagsClear L mask) s (fun e => e.result = 0 ∧ e.o (lk Obj.FLAGS L) = (Nat.land (s.dev.n (lk Obj.FLAGS L)) (Nat.lor (255 - mask % 256) 0x60) : Nat) ∧
      ({ s.dev with result := e.result } : Dev).ShowsOnly e ∧ OnlyObjects (fun k => k == lk Obj.FLAGS L) s.dev e) := by
  have hfl := lk_quiet (k := Obj.FLAGS) (by decide) L.isLt
  refine completes_serve_eq ((s.dev.setO (lk Obj.FLAGS L) (Nat.land (s.dev.n (lk Obj.FLAGS L)) (Nat.lor (255 - mask % 256) 0x60) : Nat)).res 0) rfl hserve ?_ ?_
  · have hnow := Dev.loopDeliver_now (d := s.dev) (k := Obj.FLAGS_CLEAR) (L := L) (mask % 256 : Nat) (by decide) L.isLt hw (by simp [hoff])
    have hmask : ((mask : Int) % 256).toNat % 256 = mask % 256 := by omega
    refine congrArg (fun d : Dev => d.res 0) (hnow.trans ?_)
    simp [Dev.loopApply, lk_inj, hmask]
  · refine ⟨by simp, by simp [Dev.o_eq, Dev.res, hfl], ?_, ?_⟩
    · simp +contextual [Dev.showsOnly_iff, Dev.unshown, Dev.setO, Dev.res]
    · simp +contextual [onlyObjects_iff, Dev.res]

end

/-- Settles O18: a write to a slot alone is applied at once while the slot is disabled or frozen, and waits otherwise. -/
theorem loopCommands : Obligations.LoopCommands :=
  ⟨loopEnable_firmware, loopDisable_firmware, loopEnable_accepted, loopDisable_running, loopDisable_frozen, bankCtrlSwap_disabled,
    bankCtrlSwap_running, fun s L mask hserve => flagsClear_disabled s L hserve mask⟩

end Sys2Proof.Machine
end

section
/-! Self-checks of the loop engines and the move to LE8 (R176, R177, R180, O19). -/

namespace Sys2Proof.Machine

/-! ### The last record of the log -/

@[simp] theorem Dev.logAdd_last (d : Dev) (code event kind : Nat) : (d.logAdd code event kind).coll.log.getLast? =
    some { wall := d.wall, code := code, event := event, kind := kind, rep := 0, cls := d.classNow } := by
  simp only [Dev.logAdd, Dev.addWrap, Dev.setO_coll]
  split
  · next h => rw [List.getLast?_drop, if_neg (by omega), List.getLast?_concat]
  · rw [List.getLast?_concat]

/-- A report without a class, R508, is the last record of the log. -/
theorem Dev.lastCode_raise (d : Dev) {code : Nat} (lasting : Bool) (src : FaultSrc) (h : faultClass code = 0) :
    (d.raise code lasting src).coll.log.getLast?.map LogRec.code = some code := by
  rw [Dev.raise, Dev.raiseWith, if_pos h, (Dev.stops_postmark _ _ _ _ _).coll, Dev.logAdd_last, Option.map_some]

/-- Faults raised one after the other, each on its own domain, are all in force. -/
theorem inForce_foldl_raiseOn {code : Domain → Nat} (hcode : ∀ dom, faultClass (code dom) ≠ 0) (lasting : Bool) (src : FaultSrc) (l : List Domain) (d : Dev) :
    ∀ dom ∈ l, (l.foldl (fun d dom => d.raiseOn (code dom) dom lasting src) d).inForce (code dom) dom := by
  have hkeep (c : Nat) (m : Domain) (l : List Domain) (d : Dev) (h : d.inForce c m) :
      (l.foldl (fun d dom => d.raiseOn (code dom) dom lasting src) d).inForce c m := by
    induction l generalizing d with
    | nil => exact h
    | cons x t ih => exact ih _ (Dev.inForce_keeps_raiseOn h ..)
  induction l generalizing d with
  | nil => simp
  | cons x t ih =>
    intro dom hdom
    obtain rfl | hmem := List.mem_cons.mp hdom
    · exact hkeep _ _ t _ (Dev.inForce_raiseOn d dom lasting src (hcode dom))
    · exact ih _ dom hmem

/-! ### The self-check -/

/-- The objects of the engines are no status objects, and no reaction writes them. -/
theorem el_engine_quiet {k : Nat} (hk : k = Obj.SELFCHECK_FAILS ∨ k = Obj.HOST_LE0) (n : Fin 9) :
    isStatus (el k (n + 1)) = false ∧ isReaction (el k (n + 1)) = false := by
  obtain rfl | rfl := hk <;> revert n <;> decide

/-- A failed self-check is counted with its event (R176). -/
def Dev.failCounted (d : Dev) (n : Nat) : Dev := (d.event 0x1A).addSat (el Obj.SELFCHECK_FAILS (n + 1))

theorem Dev.o_failCounted (d : Dev) {n : Fin 9} {k : Nat} (hk : k ≠ el Obj.SELFCHECK_FAILS (n + 1)) (ht : isTraceCount k = false) :
    (d.failCounted n).o k = d.o k := by
  simp [Dev.o_eq, Dev.failCounted, hk, ht]

theorem Dev.shows_failCounted (d : Dev) (n : Nat) : d.ShowsOnly (d.failCounted n) :=
  frame_shows.addSat (frame_shows.event (frame_shows.refl _) _) _ _

theorem el_ne_selfcheck (n : Fin 9) : Obj.LE8_HOSTS_A000 ≠ el Obj.SELFCHECK_FAILS (n + 1) ∧ (∀ e : Fin 9, el Obj.HOST_LE0 (e + 1) ≠ el Obj.SELFCHECK_FAILS (n + 1)) := by
  revert n
  decide

/-- A failed self-check of an engine that hosts its own slots starts its move (R177). -/
theorem Dev.selfCheck_moves {d : Dev} {n : Fin 9} (hn : n.val < 8) (hhost : d.hostOf n = n) (hfree : d.leBlocked.contains n.val = false)
    (hmove : d.leMoving = none) : d.selfCheck n false = (d.failCounted n).moveEngine n false := by
  have hshow := d.shows_failCounted n
  have htrace : isTraceCount (el Obj.HOST_LE0 (n + 1)) = false := isTraceCount_false (by simp only [el, Obj.HOST_LE0]; omega)
  have hhost' : (d.failCounted n).hostOf n = n := (Dev.n_eq (d.o_failCounted ((el_ne_selfcheck n).2 n) htrace)).trans hhost
  have hcond : ((d.failCounted n).hostOf n = n && !((d.failCounted n).leBlocked.contains n.val) && (d.failCounted n).leMoving != some n.val) = true := by
    simp [hhost', hshow.leBlocked, hshow.leMoving, hmove]
    simpa using hfree
  simp only [Dev.selfCheck, Bool.false_eq_true, if_false]
  rw [if_neg (by omega)]
  exact if_pos hcond

/-- A change of loop slots' hidden state one after the other leaves the rest, and each of them ends changed. -/
theorem foldl_updLoop (f : Loop → Loop) (P : Loop → Prop) (hP : ∀ l, P (f l)) (Ls : List Nat) (d : Dev) :
    ∃ t, Ls.foldl (fun d L => d.updLoop L f) d = { d with loops := t } ∧ ∀ L, (L ∈ Ls ∨ P (d.loopOf L)) → P (Tab.get {} t L) := by
  induction Ls generalizing d with
  | nil => exact ⟨d.loops, rfl, fun L h => h.resolve_left (by simp)⟩
  | cons x xs ih =>
    obtain ⟨t, hfold, hhold⟩ := ih (d.updLoop x f)
    refine ⟨t, hfold, fun L h => hhold L ?_⟩
    by_cases hx : L = x
    · subst hx
      exact .inr (by simpa [Dev.loopOf, Dev.updLoop] using hP _)
    · refine h.imp (fun hm => (List.mem_cons.mp hm).resolve_left hx) fun hd => ?_
      rwa [Dev.loopOf, Dev.updLoop, Tab.get_upd_other _ _ _ hx]

/-- The outputs of an engine stay blocked, with event 0x1C (R180). -/
def Dev.blockEngine (d : Dev) (e : Nat) : Dev :=
  ({ d with leBlocked := insertOnce e d.leBlocked, leMoving := if d.leMoving = some e then none else d.leMoving } : Dev).event 0x1C

/-- The fault code of a served domain (R180). -/
def moveCode (dom : Domain) : Nat := (dom.num - 1) * 4096 + 0x460

/-- The Domain-stop of every served domain (R180). -/
def Dev.stopServed (d : Dev) (l : List Domain) : Dev := l.foldl (fun d dom => d.raiseOn (moveCode dom) dom false { ini := 0x01, acc := 7 }) d

theorem Dev.refuseMove_eq (d : Dev) (e : Nat) : d.refuseMove e = (d.blockEngine e).stopServed ((d.servedBy e).filter (· != .sys)) := rfl

theorem Dev.raises_stopServed (d : Dev) (l : List Domain) : d.RaisesOnly (d.stopServed l) := Dev.raises_foldl (fun d _ => d.raises_raiseOn ..) l d

theorem Dev.inForce_stopServed (d : Dev) (l : List Domain) : ∀ dom ∈ l, (d.stopServed l).inForce (moveCode dom) dom :=
  inForce_foldl_raiseOn (code := moveCode) (by intro dom; cases dom <;> decide) _ _ l d

theorem OnlyObjects.stopServed {ks : Nat → Bool} {a d : Dev} (h : OnlyObjects ks a d) (l : List Domain) (hr : ∀ k, isReaction k = true → ks k = true) :
    OnlyObjects ks a (d.stopServed l) := h.foldl l fun d _ _ => (OnlyObjects.refl d).raiseOn _ _ _ _ hr

theorem Dev.enabledSlots_failCounted (d : Dev) (n : Fin 9) (e : Nat) (he : e < 8) : (d.failCounted n).enabledSlots e = d.enabledSlots e := by
  refine List.filter_congr fun L hL => Dev.b_eq (d.o_failCounted ?_ (isTraceCount_false ?_))
  all_goals
    obtain ⟨i, hi, rfl⟩ := List.mem_map.mp hL
    have := List.mem_range.mp hi
    simp only [lk, at', el, Obj.SELFCHECK_FAILS, Obj.ENABLE_A100]
    omega

theorem Dev.moveEngine_free {d : Dev} {e : Nat} (hmove : d.leMoving = none) (hidle : d.o Obj.LE8_HOSTS_A000 = 0xFF) (hbad : d.le8Bad = false) :
    d.moveEngine e false =
      (d.enabledSlots e).foldl (fun d L => d.updLoop L (fun l => { l with holdNext := true })) { d with leMoving := some e, leLoaded := false } :=
  if_neg (by simp [hmove, hidle, hbad])

section
variable (s : State) (n : Fin 9) (halive : s.dev.alive = true)
include halive

theorem selfCheck_passed : Completes (.leSelfCheck n true) s (fun e => s.dev.ShowsOnly e ∧ OnlyObjects (fun _ => false) s.dev e) :=
  completes_live_eq s.dev rfl halive rfl ⟨Dev.shows_settle _, (OnlyObjects.refl _).settle⟩

theorem selfCheck_toLe8 (hn : n.val < 8) (hhost : s.dev.hostOf n = n) (hfree : s.dev.leBlocked.contains n.val = false) (hmove : s.dev.leMoving = none)
    (hidle : s.dev.o Obj.LE8_HOSTS_A000 = 0xFF) (hbad : s.dev.le8Bad = false) :
    Completes (.leSelfCheck n false) s (fun e => e.raised 0x1A ∧ e.o (el Obj.SELFCHECK_FAILS (n + 1)) = satU32 (s.dev.o (el Obj.SELFCHECK_FAILS (n + 1)) + 1) ∧ e.leMoving = some n.val ∧ e.leLoaded = false ∧
      (∀ L ∈ s.dev.enabledSlots n, (e.loopOf L).holdNext = true) ∧ ({ s.dev with leMoving := e.leMoving, leLoaded := e.leLoaded, loops := e.loops } : Dev).ShowsOnly e ∧ OnlyObjects (fun k => k == el Obj.SELFCHECK_FAILS (n + 1) || isTraceCount k) s.dev e) := by
  obtain ⟨hstatus, hreact⟩ := el_engine_quiet (.inl rfl) n
  have hcount : isTraceCount (el Obj.SELFCHECK_FAILS (n + 1)) = false := isTraceCount_false (by simp only [el, Obj.SELFCHECK_FAILS]; omega)
  have hshow := s.dev.shows_failCounted n
  have hidle' := (s.dev.o_failCounted (n := n) (el_ne_selfcheck n).1 (by decide)).trans hidle
  have hmoves := Dev.moveEngine_free (e := n) (hshow.leMoving.trans hmove) hidle' (hshow.le8Bad.trans hbad)
  rw [s.dev.enabledSlots_failCounted n n hn] at hmoves
  obtain ⟨t, hfold, hhold⟩ := foldl_updLoop (fun l => { l with holdNext := true }) (fun l => l.holdNext = true) (fun _ => rfl) (s.dev.enabledSlots n)
    { s.dev.failCounted n with leMoving := some n.val, leLoaded := false }
  refine completes_live_eq _ rfl halive ((Dev.selfCheck_moves hn hhost hfree hmove).trans (hmoves.trans hfold)) ?_
  refine ⟨by simp [Dev.raised, Dev.failCounted, Dev.addSat, mem_insertOnce], by simp [Dev.o_eq, Dev.failCounted, hstatus, hcount], by simp, by simp, fun L hL => by
    simpa [Dev.loopOf] using hhold L (.inl hL), ?_, ?_⟩
  · simp +contextual [Dev.showsOnly_iff, Dev.failCounted, Dev.unshown, Dev.addSat, mem_insertOnce]
  · simp +contextual [onlyObjects_iff, Dev.failCounted]

theorem selfCheck_refused (hn : n.val < 6) (hhost : s.dev.hostOf n = n) (hfree : s.dev.leBlocked.contains n.val = false) (hmove : s.dev.leMoving = none)
    (hbusy : s.dev.o Obj.LE8_HOSTS_A000 ≠ 0xFF ∨ s.dev.le8Bad = true) :
    Completes (.leSelfCheck n false) s (fun e => e.raised 0x1A ∧ e.raised 0x1C ∧ e.leBlocked.contains n.val = true ∧ (∀ dom ∈ s.dev.servedBy n, e.inForce ((dom.num - 1) * 4096 + 0x460) dom) ∧
      ({ s.dev with leBlocked := e.leBlocked, leMoving := e.leMoving } : Dev).RaisesOnly e ∧ OnlyObjects (fun k => k == el Obj.SELFCHECK_FAILS (n + 1) || isReaction k) s.dev e) := by
  have hshow := s.dev.shows_failCounted n
  have hidle := s.dev.o_failCounted (n := n) (el_ne_selfcheck n).1 (by decide)
  have hrefuse : (s.dev.failCounted n).moveEngine n false = (s.dev.failCounted n).refuseMove n :=
    if_pos (by simpa [hidle, hshow.le8Bad, hshow.leMoving, hmove] using hbusy)
  have hserved : ((s.dev.failCounted n).servedBy n).filter (· != .sys) = s.dev.servedBy n := by
    obtain ⟨n, hlt⟩ := n
    interval_cases n <;> rfl
  have hevents : ((s.dev.failCounted n).blockEngine n).raised 0x1A ∧ ((s.dev.failCounted n).blockEngine n).raised 0x1C := by
    simp [Dev.raised, Dev.failCounted, Dev.blockEngine, Dev.addSat, mem_insertOnce]
  have hblocked : ((s.dev.failCounted n).blockEngine n).leBlocked = insertOnce n.val s.dev.leBlocked := by simp [Dev.blockEngine, hshow.leBlocked]
  have hrest : ({ s.dev with leBlocked := ((s.dev.failCounted n).blockEngine n).leBlocked, leMoving := ((s.dev.failCounted n).blockEngine n).leMoving } : Dev).ShowsOnly
      ((s.dev.failCounted n).blockEngine n) := by
    simp +contextual [Dev.showsOnly_iff, Dev.failCounted, Dev.blockEngine, Dev.unshown, Dev.addSat, mem_insertOnce]
  have hobj : OnlyObjects (fun k => k == el Obj.SELFCHECK_FAILS (n + 1) || isReaction k) s.dev ((s.dev.failCounted n).blockEngine n) := by
    simp +contextual [onlyObjects_iff, Dev.failCounted, Dev.blockEngine]
  refine completes_live_eq (((s.dev.failCounted n).blockEngine n).stopServed (s.dev.servedBy n)) rfl halive ?_ ?_
  · rw [Dev.selfCheck_moves (by omega) hhost hfree hmove, hrefuse, Dev.refuseMove_eq, hserved]
  · generalize (s.dev.failCounted n).blockEngine n = b at *
    have hraises := b.raises_stopServed (s.dev.servedBy n)
    have hfields : (b.stopServed (s.dev.servedBy n)).leBlocked = b.leBlocked ∧ (b.stopServed (s.dev.servedBy n)).leMoving = b.leMoving := by
      obtain ⟨c, hstop⟩ := hraises
      exact ⟨hstop.leBlocked, hstop.leMoving⟩
    refine ⟨by simpa using hraises.raised hevents.1, by simpa using hraises.raised hevents.2, ?_, fun dom hdom => ?_, ?_, ?_⟩
    · simp [hfields, hblocked, mem_insertOnce]
    · exact Dev.inForce_settle (Dev.inForce_stopServed _ _ dom hdom)
    · simp only [Dev.settle_leBlocked, Dev.settle_leMoving, hfields]
      exact frame_raises.settle (frame_raises.trans hrest.raises hraises)
    · exact (hobj.stopServed _ (by simp +contextual)).settle

end

theorem le8SelfCheck_failed (s : State) (halive : s.dev.alive = true) (hmove : s.dev.leMoving = none) (hidle : s.dev.o Obj.LE8_HOSTS_A000 = 0xFF)
    (hbad : s.dev.le8Bad = false) :
    Completes (.leSelfCheck 8 false) s (fun e => e.raised 0x1A ∧ e.le8Bad = true ∧ e.coll.log.getLast?.map LogRec.code = some 0x0062 ∧ ({ s.dev with le8Bad := e.le8Bad } : Dev).RaisesOnly e ∧ OnlyObjects (fun k => k == el Obj.SELFCHECK_FAILS 9 || isReaction k) s.dev e) := by
  have hshow := s.dev.shows_failCounted 8
  have hidle' := (s.dev.o_failCounted (n := 8) (el_ne_selfcheck 8).1 (by decide)).trans hidle
  refine completes_live_eq (({ s.dev.failCounted 8 with le8Bad := true } : Dev).raise 0x0062 false { ini := 0x18, acc := 7 }) rfl halive ?_ ?_
  · change (s.dev.failCounted 8).le8Fails = _
    simp only [Dev.le8Fails, hshow.leMoving.trans hmove]
    rw [if_neg (by simpa using hidle'), if_neg (by simp [hshow.le8Bad, hbad])]
  · refine ⟨by simpa using Dev.raised_raise (by simp [Dev.raised, Dev.failCounted, Dev.addSat, mem_insertOnce]) _ _ _, by simp, ?_, ?_, ?_⟩
    · simpa using Dev.lastCode_raise _ _ _ (by decide)
    · simp +contextual [Dev.raisesOnly_iff, Dev.failCounted, Dev.unraised, Dev.unstopped, Dev.addSat, mem_insertOnce]
    · simp +contextual [onlyObjects_iff, Dev.failCounted]

/-! ### The end of the load -/

theorem le8Load_noSlots (s : State) (n : Nat) (halive : s.dev.alive = true) (hmove : s.dev.leMoving = some n) (hnone : s.dev.enabledSlots n = []) (hn : n < 8) :
    Completes (.le8LoadComplete) s (fun e => e.o (el Obj.HOST_LE0 (n + 1)) = 8 ∧ e.o Obj.LE8_HOSTS_A000 = n ∧ e.o Obj.MOVES = satU32 (s.dev.o Obj.MOVES + 1) ∧ e.leMoving = none ∧
      e.raised 0x1B ∧ e.coll.log.getLast?.map LogRec.code = some 0x0061 ∧ ({ s.dev with leMoving := e.leMoving, leLoaded := e.leLoaded } : Dev).RaisesOnly e ∧ OnlyObjects (fun k => k == el Obj.HOST_LE0 (n + 1) || k == Obj.LE8_HOSTS_A000 || k == Obj.MOVES || isReaction k) s.dev e) := by
  have hhost : isStatus (el Obj.HOST_LE0 (n + 1)) = false ∧ isReaction (el Obj.HOST_LE0 (n + 1)) = false ∧ isTraceCount (el Obj.HOST_LE0 (n + 1)) = false ∧
      el Obj.HOST_LE0 (n + 1) ≠ Obj.LE8_HOSTS_A000 ∧ el Obj.HOST_LE0 (n + 1) ≠ Obj.MOVES := by
    interval_cases n <;> decide
  obtain ⟨hstatus, hreact, htrace, hne, hne'⟩ := hhost
  refine completes_live_eq (s.dev.moveDone n) rfl halive ?_ ?_
  · simp [hmove, hnone]
  · refine ⟨by simp [Dev.o_eq, Dev.moveDone, hstatus, hreact, htrace, hne, hne'], by simp +decide [Dev.o_eq, Dev.moveDone],
      by simp +decide [Dev.o_eq, Dev.moveDone, hne'.symm], by simp [Dev.moveDone, Dev.addSat], by simp [Dev.moveDone, Dev.raised_raise], ?_, ?_, ?_⟩
    · simpa [Dev.moveDone] using Dev.lastCode_raise _ _ _ (by decide)
    · simp +contextual [Dev.raisesOnly_iff, Dev.moveDone, Dev.unraised, Dev.unstopped, Dev.addSat, mem_insertOnce]
    · simp +contextual [onlyObjects_iff, Dev.moveDone]

theorem le8Load_slotsGoOn (s : State) (n : Nat) (halive : s.dev.alive = true) (hmove : s.dev.leMoving = some n) (hsome : s.dev.enabledSlots n ≠ []) :
    Completes (.le8LoadComplete) s (fun e => e.leLoaded = true ∧ e.leMoving = some n ∧ ({ s.dev with leLoaded := e.leLoaded } : Dev).ShowsOnly e ∧ OnlyObjects (fun _ => false) s.dev e) := by
  refine completes_live_eq { s.dev with leLoaded := true } rfl halive (by simp [hmove, hsome]) ⟨by simp, by simp [hmove], ?_, ?_⟩
  · simp [Dev.showsOnly_iff, Dev.unshown]
  · simp [onlyObjects_iff]

/-- Settles O19: a failed self-check is counted, then moves the engine, refuses the move, or marks LE8 bad; a load's end completes or waits. -/
theorem loopEngines : Obligations.LoopEngines :=
  ⟨selfCheck_passed, selfCheck_toLe8, selfCheck_refused, le8SelfCheck_failed, le8Load_noSlots, le8Load_slotsGoOn⟩

end Sys2Proof.Machine
end

section
/-! Layer: frames that blank more than an event does, what raising a fault writes before the reaction, and the discharge and the chopper of the link,
which touch no contactor. -/

namespace Sys2Proof.Machine

/-! ### A frame that hides what `z` blanks -/

/-- `e` is `d` but for what `z` blanks, objects, events and the trace. -/
def Dev.Outside (z : Dev → Dev) (d e : Dev) : Prop := z e.unshown = z d.unshown ∧ ∀ x ∈ d.evq, x ∈ e.evq

theorem frame_outside (z : Dev → Dev) : Frame (Dev.Outside z) where
  refl _ := ⟨rfl, fun _ h => h⟩
  trans h g := ⟨g.1.trans h.1, fun x hx => g.2 x (h.2 x hx)⟩
  shows h := ⟨congrArg z h.unshown, h.2⟩

/-- What a change blanked by `z` leaves. -/
theorem Dev.outside_of_eq {z : Dev → Dev} {d e : Dev} (h : z e.unshown = z d.unshown) (hq : e.evq = d.evq) : d.Outside z e :=
  ⟨h, fun _ hx => hq ▸ hx⟩

/-! ### Raising a fault, before the reaction -/

/-- The objects that the entry of a fault writes before its reaction: the trace counts, LOG_TOTAL and the postmarks (R515 to R518). -/
def isReport (k : Nat) : Bool := isTraceCount k || k == Obj.LOG_TOTAL || (decide (0x2210 ≤ keyIdx k) && decide (keyIdx k ≤ 0x2217))

/-- `b` is `d` with a fault entered in the collector, the log and the postmarks. -/
structure Dev.Reported (d b : Dev) : Prop where
  rest : ({ d with coll := b.coll } : Dev).ShowsOnly b
  obj : OnlyObjects isReport d b

theorem isReport_reaction {k : Nat} (h : isReport k = true) : isReaction k = true := by
  simp only [isReport, Bool.or_eq_true, Bool.and_eq_true, decide_eq_true_eq] at h
  simp only [isReaction, Bool.or_eq_true, Bool.and_eq_true, decide_eq_true_eq]
  tauto

theorem Dev.shows_postmark (d : Dev) (code : Nat) (dom : Domain) (src : FaultSrc) (inj : Bool) : d.ShowsOnly (d.postmark code dom src inj) := by
  unfold Dev.postmark
  simp only []
  split
  · exact frame_shows.addSat (frame_shows.refl d) _ _
  · simp +contextual [Dev.showsOnly_iff, mem_insertOnce]

theorem onlyObjects_postmark (d : Dev) (code : Nat) (dom : Domain) (src : FaultSrc) (inj : Bool) : OnlyObjects isReport d (d.postmark code dom src inj) := by
  have key (k : Nat) (h1 : 0x221000 ≤ k) (h2 : k < 0x221100) : (isReport (at' k (faultClass code)) || isStatus (at' k (faultClass code))) = true := by
    have h : faultClass code < 8 := Nat.mod_lt _ (by decide)
    have hidx : 0x2210 ≤ keyIdx (at' k (faultClass code)) ∧ keyIdx (at' k (faultClass code)) ≤ 0x2217 := by simp only [keyIdx, at']; omega
    simp [isReport, hidx]
  unfold Dev.postmark
  simp only []
  split
  · exact (OnlyObjects.refl d).addSat _ _ (key Obj.SINCE (by decide) (by decide))
  · refine OnlyObjects.event ?_ _ (fun k h => by simp [isReport, h])
    iterate 10 refine OnlyObjects.setO ?_ _ _ ?_
    · exact .refl d
    · exact key Obj.CODE (by decide) (by decide)
    · exact key Obj.ADDRESS (by decide) (by decide)
    · exact key Obj.INITIATOR (by decide) (by decide)
    · exact key Obj.ACCESS (by decide) (by decide)
    · exact key Obj.WALL (by decide) (by decide)
    · exact key Obj.TRACK_1 (by decide) (by decide)
    · exact key Obj.VALUE_1 (by decide) (by decide)
    · exact key Obj.TRACK_2 (by decide) (by decide)
    · exact key Obj.VALUE_2 (by decide) (by decide)
    · exact key Obj.VALID_2210 (by decide) (by decide)

theorem Dev.reported_entry (d : Dev) (code : Nat) (dom : Domain) (src : FaultSrc) (inj : Bool) (c : Collector) :
    d.Reported ((({ d with coll := c } : Dev).logAdd code 0 2).postmark code dom src inj) := by
  have hshow := Dev.shows_postmark (({ d with coll := c } : Dev).logAdd code 0 2) code dom src inj
  refine ⟨?_, ?_⟩
  · rw [hshow.coll]
    refine .trans ?_ hshow
    simp [Dev.showsOnly_iff, Dev.logAdd, Dev.unshown, Dev.addWrap]
  · refine .trans ?_ (onlyObjects_postmark _ _ _ _ _)
    simp +decide [onlyObjects_iff, Dev.logAdd]

/-- A fault with a class is in force already, or it is entered and its class reacts (R508, R510). -/
theorem Dev.raiseWith_cases (d : Dev) {code : Nat} (dom : Domain) (src : FaultSrc) (lasting inj : Bool) (h : faultClass code ≠ 0) :
    ∃ b, d.Reported b ∧ (d.raiseWith code dom src lasting inj = b ∨ ∃ first, d.raiseWith code dom src lasting inj = b.react code dom first) := by
  unfold Dev.raiseWith
  rw [if_neg h]
  split
  · refine ⟨_, ?_, .inl rfl⟩
    exact ⟨.refl _, ⟨fun _ _ _ => rfl⟩⟩
  · exact ⟨_, d.reported_entry code dom src inj _, .inr ⟨_, rfl⟩⟩

/-- A fault of class Domain-stop, once entered, stops its domain or finds it in force already. -/
theorem Dev.raiseWith_stop (d : Dev) {code : Nat} (dom : Domain) (src : FaultSrc) (lasting inj : Bool) (h : faultClass code = 2) :
    ∃ b, d.Reported b ∧ (d.raiseWith code dom src lasting inj = b ∨ d.raiseWith code dom src lasting inj = domainStop dom b) := by
  obtain ⟨b, hb, heq | ⟨first, heq⟩⟩ := d.raiseWith_cases dom src lasting inj (by rw [h]; decide)
  · exact ⟨b, hb, .inl heq⟩
  · exact ⟨b, hb, .inr (heq.trans (if_pos h))⟩

/-! ### The link without a precharge (R203, R204) -/

/-- The objects that the discharge and the chopper write. -/
def isLinkKey (k : Nat) : Bool := k == Obj.PRE_STATE || k == Obj.CHOP_STATE || keyIdx k == 0x6020

/-- `e` is `d` but for the link's hidden state, objects, events and the trace. -/
abbrev Dev.LinkOnly (d e : Dev) : Prop := d.Outside (fun x => { x with link := {} }) e

theorem frame_link : Frame Dev.LinkOnly := frame_outside _

theorem Dev.linkOnly_iff {d e : Dev} : d.LinkOnly e ↔ ({ d with link := e.link } : Dev).ShowsOnly e := by
  rw [Dev.showsOnly_iff]
  exact and_congr_left fun _ => ⟨congrArg fun x : Dev => { x with link := e.link }, congrArg fun x : Dev => { x with link := {} }⟩

theorem Dev.linkOnly_updLink (d : Dev) (f : Link → Link) : d.LinkOnly (d.updLink f) := Dev.outside_of_eq rfl rfl

theorem Dev.LinkOnly.raised {d e : Dev} (h : d.LinkOnly e) {x : Nat} (hx : d.raised x) : e.raised x :=
  (Dev.linkOnly_iff.mp h).raised (d := { d with link := e.link }) hx

theorem Dev.LinkOnly.ctrs {d e : Dev} (h : d.LinkOnly e) : e.ctrs = d.ctrs := (Dev.linkOnly_iff.mp h).ctrs

/-- A step of the link that touches no contactor and only the link's objects. -/
structure Dev.LinkStep (d e : Dev) : Prop where
  rest : d.LinkOnly e
  obj : OnlyObjects isLinkKey d e

theorem Dev.LinkStep.refl (d : Dev) : d.LinkStep d := ⟨frame_link.refl d, .refl d⟩
theorem Dev.LinkStep.trans {a b c : Dev} (h : a.LinkStep b) (g : b.LinkStep c) : a.LinkStep c := ⟨frame_link.trans h.rest g.rest, h.obj.trans g.obj⟩

theorem Dev.linkStep_updLink (d : Dev) (f : Link → Link) : d.LinkStep (d.updLink f) := ⟨d.linkOnly_updLink f, ⟨fun _ _ _ => rfl⟩⟩

theorem Dev.linkStep_setO (d : Dev) {k : Nat} (v : Int) (hk : isLinkKey k = true) : d.LinkStep (d.setO k v) :=
  ⟨frame_link.setO (frame_link.refl d) k v, (OnlyObjects.refl d).setO k v (by simp [hk])⟩

/-- The objects that the chopper writes. -/
def isChopKey (k : Nat) : Bool := k == Obj.CHOP_STATE || keyIdx k == 0x6020

/-- The chopper's switches and the link take the state `on` (R203, R204). -/
def Dev.chopTo (d : Dev) (on : Bool) : Dev :=
  ((d.groupChannels 8).foldl (fun d n => d.setBit (el Obj.STATUS_6020 n) 0 on) (d.updLink (fun l => { l with on := on, changed := some d.wall }))).showChopper

/-- The chopper's drive shows CHOP_STATE, and where it switches it takes the new state into the link first. -/
theorem Dev.driveChopper_cases (d : Dev) : d.driveChopper = d.showChopper ∨ ∃ on, d.driveChopper = d.chopTo on := by
  unfold Dev.driveChopper
  simp only []
  split <;> split
  exacts [.inl rfl, .inr ⟨_, rfl⟩, .inl rfl, .inr ⟨_, rfl⟩]

theorem Dev.driveChopper_frame (d : Dev) :
    d.LinkOnly d.driveChopper ∧ d.driveChopper.link.discharge = d.link.discharge ∧ OnlyObjects isChopKey d d.driveChopper := by
  have hshow (d : Dev) : OnlyObjects isChopKey d d.showChopper := (OnlyObjects.refl d).setO _ _ (by decide)
  obtain h | ⟨on, h⟩ := d.driveChopper_cases <;> rw [h]
  · exact ⟨frame_link.setO (frame_link.refl d) _ _, rfl, hshow d⟩
  · have hfold := Dev.shows_foldl (f := fun d n => d.setBit (el Obj.STATUS_6020 n) 0 on) (fun d n => d.showsOnly_setO _ _) (d.groupChannels 8)
      (d.updLink (fun l => { l with on := on, changed := some d.wall }))
    refine ⟨frame_link.setO (frame_link.trans (d.linkOnly_updLink _) (frame_link.shows hfold)) _ _, ?_, .trans ?_ (hshow _)⟩
    · exact (congrArg Link.discharge hfold.link :)
    have hupd : OnlyObjects isChopKey d (d.updLink (fun l => { l with on := on, changed := some d.wall })) := ⟨fun _ _ _ => rfl⟩
    refine OnlyObjects.foldl hupd _ fun d n hn => (OnlyObjects.refl d).setBit (el Obj.STATUS_6020 n) 0 on ?_
    have hidx : keyIdx (el Obj.STATUS_6020 n) = 0x6020 := by
      have := mem_group hn
      simp only [keyIdx, el, Obj.STATUS_6020]
      omega
    simp [isChopKey, hidx]

theorem Dev.linkStep_driveChopper (d : Dev) : d.LinkStep d.driveChopper :=
  ⟨d.driveChopper_frame.1, d.driveChopper_frame.2.2.mono fun k h => by
    simp only [isChopKey, Bool.or_eq_true] at h
    simp only [isLinkKey, Bool.or_eq_true]
    tauto⟩

theorem Dev.linkStep_dischargeEnd (d : Dev) : d.LinkStep d.dischargeEnd :=
  ((d.linkStep_setO _ (by decide)).trans (Dev.linkStep_updLink _ _)).trans (Dev.linkStep_driveChopper _)

theorem Dev.linkStep_dischargeGo (d : Dev) : d.LinkStep d.dischargeGo := by
  unfold Dev.dischargeGo
  split
  · split
    · exact d.linkStep_dischargeEnd
    · exact (d.linkStep_updLink _).trans (Dev.linkStep_driveChopper _)
  · exact .refl d

theorem Dev.linkStep_dischargeStart (d : Dev) : d.LinkStep d.dischargeStart := by
  unfold Dev.dischargeStart
  split
  · exact .refl d
  · exact ((d.linkStep_updLink _).trans (Dev.linkStep_setO _ _ (by decide))).trans (Dev.linkStep_dischargeGo _)

theorem Dev.linkStep_openSource (d : Dev) (src : Nat) : d.LinkStep (d.openSource src) := by
  unfold Dev.openSource Dev.when
  split
  · split
    · exact d.linkStep_updLink _
    · exact .refl d
  · exact .refl d

/-- Without a precharge in progress the Domain-stop of LNK touches no contactor: the mains open later (R197, R198). -/
theorem Dev.linkStep_linkShut {d : Dev} (hjob : d.link.job = none) : d.LinkStep d.linkShut := by
  have habort : d.abortPrecharge = d := by simp [Dev.abortPrecharge, hjob]
  rw [Dev.linkShut, habort]
  exact ((d.linkStep_openSource 0).trans (Dev.linkStep_openSource _ 1)).trans (Dev.linkStep_dischargeStart _)

/-- A Domain-stop fault of LNK without a precharge in progress keeps the contactors and what they read. -/
theorem Dev.raise_link_keeps (d : Dev) {code : Nat} (lasting : Bool) (src : FaultSrc) (hclass : faultClass code = 2)
    (hdom : codeDomain (faultDomain code) = .lnk) (hjob : d.link.job = none) :
    (d.raise code lasting src).ctrs = d.ctrs ∧ OnlyObjects (fun k => isReport k || isLinkKey k) d (d.raise code lasting src) := by
  obtain ⟨b, ⟨hrest, hobj⟩, hcases⟩ := d.raiseWith_stop .lnk src lasting false hclass
  have hobj' : OnlyObjects (fun k => isReport k || isLinkKey k) d b := hobj.mono fun k h => by simp [h]
  rw [Dev.raise, hdom]
  obtain h | h := hcases <;> rw [h]
  · exact ⟨hrest.ctrs, hobj'⟩
  · have hshut : b.LinkStep b.linkShut := Dev.linkStep_linkShut (by rw [hrest.link]; exact hjob)
    exact ⟨hshut.rest.ctrs.trans hrest.ctrs, hobj'.trans (hshut.obj.mono fun k h => by simp [h])⟩

end Sys2Proof.Machine
end

section
/-! Contactors and the discharge of the link (R194 to R199, R203, O21). -/

namespace Sys2Proof.Machine

/-! ### The objects and the hidden state of a driver -/

@[simp] theorem Dev.ctrOf_updCtr (d : Dev) (n : Nat) (f : Ctr → Ctr) : (d.updCtr n f).ctrOf n = f (d.ctrOf n) := by simp [Dev.ctrOf, Dev.updCtr]

theorem Dev.ctrOf_updCtr_other (d : Dev) {n m : Nat} (f : Ctr → Ctr) (h : m ≠ n) : (d.updCtr n f).ctrOf m = d.ctrOf m := by
  simp only [Dev.ctrOf, Dev.updCtr]
  exact Tab.get_upd_other _ _ _ h

@[simp] theorem Dev.updCtr_obj (d : Dev) (n : Nat) (f : Ctr → Ctr) : (d.updCtr n f).obj = d.obj := rfl
@[simp] theorem Dev.updCtr_evq (d : Dev) (n : Nat) (f : Ctr → Ctr) : (d.updCtr n f).evq = d.evq := rfl
@[simp] theorem Dev.ctrOf_setO (d : Dev) (k : Nat) (v : Int) (n : Nat) : (d.setO k v).ctrOf n = d.ctrOf n := rfl
@[simp] theorem Dev.ctrOf_settle (d : Dev) (n : Nat) : d.settle.ctrOf n = d.ctrOf n := by simp [Dev.ctrOf]
@[simp] theorem Dev.ctrOf_event (d : Dev) (e n : Nat) : (d.event e).ctrOf n = d.ctrOf n := by simp [Dev.ctrOf]
@[simp] theorem Dev.unraised_updCtr (d : Dev) (n : Nat) (f : Ctr → Ctr) : (d.updCtr n f).unraised = d.unraised := rfl

/-- STATE of a driver is neither a status object nor written by the entry of a fault, nor by the discharge. -/
theorem ctrState_quiet (n : Fin 4) : isStatus (at' Obj.STATE_5810 n) = false ∧ isReport (at' Obj.STATE_5810 n) = false ∧
    isLinkKey (at' Obj.STATE_5810 n) = false ∧ isTraceCount (at' Obj.STATE_5810 n) = false ∧ isReaction (at' Obj.STATE_5810 n) = true ∧
    at' Obj.STATE_5810 n ≠ Obj.VDC := by
  revert n
  decide

/-- A source's main is one of the four drivers. -/
theorem Dev.mainOf_lt {d : Dev} {src n : Nat} (h : d.mainOf src = some n) : n < 4 := by
  have hmem := List.mem_of_find?_eq_some h
  simp only [List.mem_cons, List.not_mem_nil, or_false] at hmem
  omega

/-- After the report of a contactor fault, R195 and R196, the driver reads as it was set and the coils stay. -/
theorem Dev.contactorFault (d : Dev) (n : Fin 4) {code ev : Nat} (lasting : Bool) (src : FaultSrc) (hclass : faultClass code = 2)
    (hdom : codeDomain (faultDomain code) = .lnk) (hjob : d.link.job = none) :
    ((d.event ev).raise code lasting src).settle.o (at' Obj.STATE_5810 n) = d.o (at' Obj.STATE_5810 n) ∧
      ((d.event ev).raise code lasting src).settle.ctrs = d.ctrs ∧
      ((d.event ev).raise code lasting src).settle.raised ev ∧ ((d.event ev).raise code lasting src).settle.inForce code .lnk ∧
      d.RaisesOnly ((d.event ev).raise code lasting src).settle ∧
      OnlyObjects isReaction d ((d.event ev).raise code lasting src).settle := by
  obtain ⟨hstatus, hreport, hlink, htrace, -, -⟩ := ctrState_quiet n
  obtain ⟨hctrs, hobj⟩ := (d.event ev).raise_link_keeps lasting src hclass hdom (by simpa using hjob)
  refine ⟨?_, by simpa using hctrs, by simpa using Dev.raised_raise (by simp) code lasting src, ?_, ?_, ?_⟩
  · rw [Dev.o_settle _ hstatus, hobj.same _ (by simp [hreport, hlink]) hstatus, Dev.o_event _ _ htrace]
  · exact Dev.inForce_settle (Dev.inForce_raise_on _ lasting src (by rw [hclass]; decide) hdom)
  · exact frame_raises.settle (frame_raises.raise (frame_raises.event (frame_raises.refl d) _) _ _ _)
  · exact (((OnlyObjects.refl d).event ev (fun _ h => isReaction_trace h)).raise _ _ _ fun _ h => h).settle

section
variable (s : State) (n : Fin 4) (halive : s.dev.alive = true)
include halive

theorem ctrMismatch_completes (hstate : s.dev.o (at' Obj.STATE_5810 n) = 1 ∨ s.dev.o (at' Obj.STATE_5810 n) = 3)
    (hmain : (s.dev.mainSource n).isSome = true) (hjob : s.dev.link.job = none) :
    Completes (.lnkCtrMismatch n) s (fun e => e.o (at' Obj.STATE_5810 n) = 4 ∧ e.raised 0x8A ∧ e.inForce 0x6478 .lnk ∧ s.dev.RaisesOnly e ∧ OnlyObjects (fun k => isReaction k) s.dev e) := by
  obtain ⟨hstatus, -, -, -, hreact, -⟩ := ctrState_quiet n
  let d1 := (s.dev.setO (at' Obj.STATE_5810 n) 4).updCtr n (fun c => { c with mismatch := true })
  have hmine : s.dev.ctrMismatch n = (d1.event 0x8A).raise 0x6478 true { addr := n, ini := 0x01, acc := 5 } := by
    have hn : ¬ (s.dev.n (at' Obj.STATE_5810 n) ≠ 1 ∧ s.dev.n (at' Obj.STATE_5810 n) ≠ 3) := by
      obtain h | h := hstate <;> simp [Dev.n, h]
    rw [Dev.ctrMismatch]
    simp only [hjob, if_neg hn, Dev.when, Bool.false_eq_true, if_false, hmain, if_true]
    rfl
  obtain ⟨ho, -, hraised, hforce, hrest, hobj⟩ := d1.contactorFault n (code := 0x6478) (ev := 0x8A) true { addr := n, ini := 0x01, acc := 5 } (by decide) (by decide) hjob
  refine completes_live_eq _ rfl halive hmine ⟨?_, hraised, hforce, ?_, ?_⟩
  · rw [ho]
    simp [d1, Dev.o_eq]
  · refine frame_raises.trans ?_ hrest
    simp [d1, Dev.raisesOnly_iff]
  · refine OnlyObjects.trans ?_ hobj
    simp [d1, onlyObjects_iff, hreact]

theorem mainClose_confirmed (vdc src : Nat) (hmain : s.dev.mainSource n = some src) (hstate : s.dev.n (at' Obj.STATE_5810 n) = 1) (hon : (s.dev.ctrOf n).on = true)
    (hmis : (s.dev.ctrOf n).mismatch = false) (hfb : s.dev.o (at' Obj.FB_MODE n) ≠ 0) (hdef : s.dev.link.deferred = []) (hjob : s.dev.link.job = none) :
    Completes (.mainCloseConfirmed n vdc) s (fun e => e.o (at' Obj.STATE_5810 n) = 2 ∧ e.o Obj.VDC = vdc ∧ (e.ctrOf n) = s.dev.ctrOf n ∧ ({ s.dev with ctrs := e.ctrs } : Dev).ShowsOnly e ∧ OnlyObjects (fun k => k == Obj.VDC || k == at' Obj.STATE_5810 n) s.dev e) := by
  obtain ⟨hstatus, -, -, -, hreact, hvdc⟩ := ctrState_quiet n
  refine completes_live_eq (((s.dev.setO Obj.VDC vdc).setO (at' Obj.STATE_5810 n) 2).updCtr n (fun c => { c with mismatch := false })) rfl halive ?_ ?_
  · have hconfirm : (s.dev.setO Obj.VDC vdc).ctrConfirm n 2 = ((s.dev.setO Obj.VDC vdc).setO (at' Obj.STATE_5810 n) 2).updCtr n (fun c => { c with mismatch := false }) := by
      simp [Dev.ctrConfirm, hmis, Dev.when]
    simp only [Dev.mainConfirmed, hmain]
    rw [if_neg (by simp [hstate, hon]), if_neg (by simp [hfb]), hconfirm]
    generalize hd : ((s.dev.setO Obj.VDC vdc).setO (at' Obj.STATE_5810 n) 2).updCtr n (fun c => { c with mismatch := false }) = d1
    have hlink : d1.link = s.dev.link := by subst hd; rfl
    have hnone : (d1.link.deferred.foldl (fun d s => d.openSource s) d1).updLink (fun l => { l with deferred := [] }) = d1 := by
      rw [hlink, hdef, List.foldl_nil, Dev.updLink, hlink, ← hdef, ← hlink]
    rw [hnone]
    simp [Dev.preIn, hlink, hjob]
  · refine ⟨by simp [Dev.o_eq, hstatus], by simp +decide [Dev.o_eq, hvdc.symm], ?_, ?_, ?_⟩
    · simp [← hmis]
    · simp +contextual [Dev.showsOnly_iff, Dev.updCtr, Dev.unshown, Dev.setO]
    · simp +contextual [onlyObjects_iff]

theorem contactorOpen_confirmed (hoff : (s.dev.ctrOf n).on = false) (hmis : (s.dev.ctrOf n).mismatch = false)
    (hstate : s.dev.o (at' Obj.STATE_5810 n) = 3 ∨ s.dev.o (at' Obj.STATE_5810 n) = 4) (hdis : s.dev.link.discharge = 0) :
    Completes (.contactorOpenConfirmed n) s (fun e => e.o (at' Obj.STATE_5810 n) = 0 ∧ e.ctrOf n = s.dev.ctrOf n ∧ ({ s.dev with ctrs := e.ctrs } : Dev).ShowsOnly e ∧ OnlyObjects (fun k => k == at' Obj.STATE_5810 n) s.dev e) := by
  obtain ⟨hstatus, -⟩ := ctrState_quiet n
  refine completes_live_eq ((s.dev.setO (at' Obj.STATE_5810 n) 0).updCtr n (fun c => { c with mismatch := false })) rfl halive ?_ ?_
  · simp [Dev.when, hoff, hstate, Dev.ctrConfirm, hmis, Dev.dischargeGo, Dev.updCtr, hdis]
  · refine ⟨by simp [Dev.o_eq, hstatus], ?_, ?_, ?_⟩
    · simp [← hmis]
    · simp +contextual [Dev.showsOnly_iff, Dev.updCtr, Dev.unshown, Dev.setO]
    · simp +contextual [onlyObjects_iff]

theorem contactorPullIn_ends (hon : (s.dev.ctrOf n).on = true) :
    Completes (.contactorPullInEnd n) s (fun e => (e.ctrOf n).duty = s.dev.n (at' Obj.HOLD_DUTY n) ∧ (e.ctrOf n).on = true ∧ (∀ m : Fin 4, m ≠ n → e.ctrOf m = s.dev.ctrOf m) ∧ ({ s.dev with ctrs := e.ctrs } : Dev).ShowsOnly e ∧ OnlyObjects (fun _ => false) s.dev e) := by
  refine completes_live_eq (s.dev.updCtr n (fun c => { c with duty := s.dev.n (at' Obj.HOLD_DUTY n) })) rfl halive (if_pos hon) ?_
  refine ⟨by simp, by simp [hon], fun m hm => ?_, ?_, ?_⟩
  · rw [Dev.ctrOf_settle, Dev.ctrOf_updCtr_other _ _ (fun h => hm (Fin.ext h))]
  · simp +contextual [Dev.showsOnly_iff, Dev.updCtr, Dev.unshown]
  · simp [onlyObjects_iff]

theorem ctrDriver_completes (tooHigh : Bool) (hon : (s.dev.ctrOf n).on = true) (hjob : s.dev.link.job = none) :
    Completes (.lnkCtrDriver n tooHigh) s (fun e => e.o (at' Obj.STATE_5810 n) = 4 ∧ (tooHigh = true → (e.ctrOf n).on = false ∧ (e.ctrOf n).duty = 0) ∧ e.raised 0x8C ∧ e.inForce 0x647A .lnk ∧ s.dev.RaisesOnly e ∧ OnlyObjects (fun k => isReaction k) s.dev e) := by
  obtain ⟨hstatus, -, -, -, hreact, -⟩ := ctrState_quiet n
  let d1 := (s.dev.when tooHigh (fun d => d.updCtr n (fun c => { c with on := false, duty := 0 }))).setO (at' Obj.STATE_5810 n) 4
  have hlink : d1.link.job = none := by cases tooHigh <;> exact hjob
  obtain ⟨ho, hctrs, hraised, hforce, hrest, hobj⟩ := d1.contactorFault n (code := 0x647A) (ev := 0x8C) false { addr := n, ini := 0x01, acc := 5 } (by decide) (by decide) hlink
  refine completes_live_eq ((d1.event 0x8C).raise 0x647A false { addr := n, ini := 0x01, acc := 5 }) rfl halive ?_ ⟨?_, fun hhigh => ?_, hraised, hforce, ?_, ?_⟩
  · simp [Dev.ctrDriver, hon, hjob, d1, Dev.when]
  · rw [ho]
    simp [d1, Dev.o_eq]
  · subst hhigh
    simp only [Dev.ctrOf, hctrs]
    exact ⟨by simp [d1, Dev.when, Dev.updCtr], by simp [d1, Dev.when, Dev.updCtr]⟩
  · refine frame_raises.trans ?_ hrest
    cases tooHigh <;> simp [d1, Dev.raisesOnly_iff, Dev.when]
  · refine OnlyObjects.trans ?_ hobj
    cases tooHigh <;> simp [d1, onlyObjects_iff, hreact, Dev.when]

end

theorem mainOpen_completes (s : State) (src : Fin 2) (i : Nat) (timeout : Bool) (n : Nat) (halive : s.dev.alive = true) (hmain : s.dev.mainOf src = some n)
    (hopen : s.dev.link.opening.contains src.val = true) (hon : (s.dev.ctrOf n).on = true)
    (hmay : timeout = true ∨ (s.dev.noGrants = true ∧ i < 10 * s.dev.n (at' Obj.I_BREAK n))) (hdis : s.dev.link.discharge = 0) :
    Completes (.mainOpen src i timeout) s (fun e => (e.ctrOf n).on = false ∧ e.o (at' Obj.STATE_5810 n) = 3 ∧ e.link.opening = s.dev.link.opening.filter (· != src.val) ∧
      e.o (at' Obj.LOAD_BREAKS n) = (if 10 * s.dev.n (at' Obj.I_BREAK n) < i then satU32 (s.dev.o (at' Obj.LOAD_BREAKS n) + 1) else s.dev.o (at' Obj.LOAD_BREAKS n)) ∧
      ({ s.dev with ctrs := e.ctrs, link := e.link } : Dev).ShowsOnly e ∧ OnlyObjects (fun k => k == at' Obj.STATE_5810 n || k == at' Obj.LOAD_BREAKS n) s.dev e) := by
  have hn := Dev.mainOf_lt hmain
  have hstatus := (ctrState_quiet ⟨n, hn⟩).1
  have hbreaks : isStatus (at' Obj.LOAD_BREAKS n) = false ∧ at' Obj.LOAD_BREAKS n ≠ at' Obj.STATE_5810 n := by
    interval_cases n <;> decide
  let d1 := s.dev.when (decide (10 * s.dev.n (at' Obj.I_BREAK n) < i)) (fun d => d.addSat (at' Obj.LOAD_BREAKS n))
  refine completes_live_eq (((d1.updLink (fun l => { l with opening := l.opening.filter (· != src.val) })).updCtr n (fun c => { c with on := false, duty := 0 })).setO
    (at' Obj.STATE_5810 n) 3) rfl halive ?_ ?_
  · simp only [Dev.mainOpen, hmain]
    rw [if_neg]
    · have hon' : ((d1.updLink (fun l => { l with opening := l.opening.filter (· != src.val) })).ctrOf n).on = true := by
        unfold d1 Dev.when
        split <;> exact hon
      have hdis' : d1.link.discharge = 0 := by
        unfold d1 Dev.when
        split <;> exact hdis
      rw [Dev.coilOff, if_pos hon', Dev.dischargeGo]
      exact if_neg fun h => absurd (h.1 : d1.link.discharge = 1) (by simp [hdis'])
    · have hopen' : src.val ∈ s.dev.link.opening := by simpa using hopen
      obtain h | ⟨h1, h2⟩ := hmay
      · simp [hopen', hon, h]
      · simp [hopen', hon, h1, h2]
  · unfold d1 Dev.when
    by_cases hlt : 10 * s.dev.n (at' Obj.I_BREAK n) < i
    · simp only [hlt, decide_true, if_true]
      refine ⟨by simp, by simp [Dev.o_eq, hstatus], by simp [Dev.updLink, Dev.updCtr, Dev.addSat], by simp [Dev.o_eq, hbreaks, Dev.updLink], ?_, ?_⟩
      · simp +contextual [Dev.showsOnly_iff, Dev.updCtr, Dev.unshown, Dev.updLink, Dev.addSat]
      · simp +contextual [onlyObjects_iff, Dev.updLink]
    · simp only [hlt, decide_false, if_false, Bool.false_eq_true]
      refine ⟨by simp, by simp [Dev.o_eq, hstatus], by simp [Dev.updLink, Dev.updCtr], by simp [Dev.o_eq, hbreaks, Dev.updLink], ?_, ?_⟩
      · simp +contextual [Dev.showsOnly_iff, Dev.updCtr, Dev.unshown, Dev.updLink]
      · simp +contextual [onlyObjects_iff, Dev.updLink]

theorem weld_completes (s : State) (src : Fin 2) (vdc : Nat) (halive : s.dev.alive = true) (hdis : s.dev.link.discharge ≠ 0) (hopen : s.dev.mainsOpen = true)
    (hmain : (s.dev.mainOf src).isSome = true) (hvdc : 100 * ((vdc : Int) - (s.dev.feedOf src).volts).natAbs ≤ 5 * (s.dev.feedOf src).volts) :
    Completes (.lnkCtrWeld src vdc) s (fun e => e.raised 0x8B ∧ e.inForce 0x6879 .lnk ∧ s.dev.RaisesOnly e ∧ OnlyObjects (fun k => k == Obj.VDC || isReaction k) s.dev e) := by
  refine completes_live_eq ((s.dev.setO Obj.VDC vdc).welded src) rfl halive (if_pos ⟨hdis, hopen, hmain, hvdc⟩) ?_
  refine ⟨by simp [Dev.welded, Dev.raised_raise], by simp +decide [Dev.welded, Dev.inForce_raise_on], ?_, by simp +contextual [Dev.welded, onlyObjects_iff]⟩
  simp +contextual [Dev.welded, Dev.raisesOnly_iff, mem_insertOnce]

theorem linkDischarged_completes (s : State) (vdc : Nat) (halive : s.dev.alive = true) (hdis : s.dev.link.discharge = 2) (hvdc : vdc < 600) :
    Completes (.lnkDischarged vdc) s (fun e => e.o Obj.VDC = vdc ∧ e.raised 0x8D ∧ e.link.discharge = 0 ∧ e.o Obj.PRE_STATE = s.dev.link.after ∧ e.coll = { s.dev.coll with active := e.coll.active } ∧ ({ s.dev with link := e.link, coll := e.coll } : Dev).ShowsOnly e ∧ OnlyObjects (fun k => k == Obj.VDC || k == Obj.PRE_STATE || k == Obj.CHOP_STATE || keyIdx k == 0x6020 || isTraceCount k) s.dev e) := by
  let d1 := ((s.dev.setO Obj.VDC vdc).event 0x8D).causeGone 0x6278
  have hend := d1.linkStep_dischargeEnd
  let d2 := (d1.setO Obj.PRE_STATE d1.link.after).updLink (fun l => { l with discharge := 0 })
  have hlink : d1.link = s.dev.link := by simp [d1, Dev.causeGone]
  have hcoll : d1.dischargeEnd.settle.coll = d1.coll := by rw [Dev.settle_coll, (Dev.linkOnly_iff.mp hend.rest).coll]
  obtain ⟨-, hdischarge, hchop⟩ := d2.driveChopper_frame
  refine completes_live_eq d1.dischargeEnd rfl halive (if_pos (by simp [hdis, hvdc])) ⟨?_, ?_, ?_, ?_, ?_, ?_, ?_⟩
  · rw [Dev.o_settle _ (by decide), hend.obj.same _ (by decide) (by decide)]
    simp +decide [d1, Dev.o_eq, Dev.causeGone]
  · simpa using Dev.LinkOnly.raised hend.rest (x := 0x8D) (by simp [d1, Dev.raised, Dev.causeGone, mem_insertOnce])
  · exact (congrArg Link.discharge (Dev.settle_link _)).trans hdischarge
  · rw [Dev.o_settle _ (by decide)]
    refine (hchop.same _ (by decide) (by decide)).trans ?_
    simp [d2, Dev.o_eq, hlink, Dev.updLink]
  · rw [hcoll]
    simp [d1, Dev.causeGone]
  · rw [hcoll]
    refine .trans ?_ (Dev.linkOnly_iff.mp (frame_link.settle hend.rest))
    simp +contextual [d1, Dev.showsOnly_iff, Dev.causeGone, Dev.unshown, mem_insertOnce]
  · refine (OnlyObjects.trans ?_ (hend.obj.mono fun k h => ?_)).settle
    · simp +contextual [d1, onlyObjects_iff, Dev.causeGone]
    · simp only [isLinkKey, Bool.or_eq_true] at h ⊢
      tauto

theorem dischargeTimeout_completes (s : State) (vdc : Nat) (halive : s.dev.alive = true) (hdis : s.dev.link.discharge ≠ 0) (hvdc : 600 < vdc) :
    Completes (.dischargeTimeout vdc) s (fun e => e.o Obj.VDC = vdc ∧ e.inForce 0x6278 .lnk ∧ s.dev.RaisesOnly e ∧ OnlyObjects (fun k => k == Obj.VDC || isReaction k) s.dev e) := by
  refine completes_live_eq ((s.dev.setO Obj.VDC vdc).raise 0x6278 true { ini := 0x35, acc := 5 }) rfl halive (if_pos (by simp [hdis, hvdc])) ?_
  refine ⟨by simp +decide [Dev.o_eq], by simp +decide [Dev.inForce_raise_on], ?_, by simp +contextual [onlyObjects_iff]⟩
  exact frame_raises.settle (frame_raises.raise (frame_raises.setO (frame_raises.refl _) _ _) _ _ _)

/-- Settles O21: a contactor fault is reported and stops LNK, which touches no coil while no precharge runs; confirmations, the pull-in, an opening
and the discharge show in the driver's objects. -/
theorem contactorCommands : Obligations.ContactorCommands :=
  ⟨ctrMismatch_completes, fun s n vdc src halive => mainClose_confirmed s n halive vdc src, contactorOpen_confirmed, contactorPullIn_ends,
    fun s n tooHigh halive => ctrDriver_completes s n halive tooHigh, mainOpen_completes, weld_completes, linkDischarged_completes,
    dischargeTimeout_completes⟩

end Sys2Proof.Machine
end

section
/-! Layer: what each part of a safe state writes, and what it reads afterwards (R513). -/

namespace Sys2Proof.Machine

/-! ### The objects of each part -/

/-- The objects that ASC, pulses off and the Domain-stop of a traction domain write. -/
def tracKeys (m : Mach) : List Nat :=
  [at' Obj.ENABLE_A100 (16 * mnum m), at' Obj.ENABLE_A100 (16 * mnum m + 1), tk m Obj.TORQUE_CMD, tk m Obj.DBETA, tk m Obj.M_PRESENT, tk m Obj.OM_ZONE,
    tk m Obj.V_D, tk m Obj.V_Q, tk m Obj.RUN_4240, tk m Obj.ACTIVE_PATTERN, tk m Obj.BRIDGE_STATE, tk m Obj.ASC_CAUSE, tk m Obj.ASC_ENTRIES]

/-- The objects that turning the grid port off writes. -/
def gridKeys : List Nat := [Obj.STATE_5000, Obj.S2, Obj.I_LIMIT_5000, Obj.LIMIT_SRC_5000] ++ gridLoops.map (at' Obj.ENABLE_A100)

/-- The objects that turning a converter off writes. -/
def dabKeys (c : Conv) : List Nat :=
  [ck c Obj.STATE_5400, ck c Obj.PHI, ck c Obj.I_LIMIT_5400, ck c Obj.LIMIT_SRC_5400] ++ (dabLoops c).map (at' Obj.ENABLE_A100)

/-- The STATE of a contactor driver. -/
def ctrKeys : List Nat := [0, 1, 2, 3].map (at' Obj.STATE_5810)

/-- RUN of the BLDC groups. -/
def actKeys : List Nat := [0, 1, 2, 3].map (at' Obj.RUN_7100)

/-- MASTER and the section bits. -/
def isBomKey (k : Nat) : Bool := k == Obj.MASTER || keyIdx k == 0x8014

theorem onlyObjects_mem {l : List Nat} {a d : Dev} (h : OnlyObjects l.contains a d) {k : Nat} (v : Int) (hk : k ∈ l) :
    OnlyObjects l.contains a (d.setO k v) := h.setO k v (by simp [hk])

theorem onlyObjects_updTrac {ks : Nat → Bool} {a d : Dev} (h : OnlyObjects ks a d) (m : Mach) (f : Trac → Trac) : OnlyObjects ks a (d.updTrac m f) := h.of_obj rfl
theorem onlyObjects_updDab {ks : Nat → Bool} {a d : Dev} (h : OnlyObjects ks a d) (c : Conv) (f : Dab → Dab) : OnlyObjects ks a (d.updDab c f) := h.of_obj rfl
theorem onlyObjects_updGrid {ks : Nat → Bool} {a d : Dev} (h : OnlyObjects ks a d) (f : Grid → Grid) : OnlyObjects ks a (d.updGrid f) := h.of_obj rfl
theorem onlyObjects_updLink {ks : Nat → Bool} {a d : Dev} (h : OnlyObjects ks a d) (f : Link → Link) : OnlyObjects ks a (d.updLink f) := h.of_obj rfl
theorem onlyObjects_updCtr {ks : Nat → Bool} {a d : Dev} (h : OnlyObjects ks a d) (n : Nat) (f : Ctr → Ctr) : OnlyObjects ks a (d.updCtr n f) := h.of_obj rfl

theorem onlyObjects_enableLoops {ks : Nat → Bool} {a d : Dev} (h : OnlyObjects ks a d) (Ls : List Nat) (on : Bool)
    (hks : ∀ L ∈ Ls, ks (at' Obj.ENABLE_A100 L) = true) : OnlyObjects ks a (d.enableLoops Ls on) :=
  h.foldl Ls fun d L hL => by
    refine OnlyObjects.setB (d := { d with loops := _ }) ?_ _ _ (by simp [hks L hL])
    exact .of_obj (.refl d) rfl

theorem onlyObjects_tracIdle (d : Dev) (m : Mach) : OnlyObjects (tracKeys m).contains d (d.tracIdle m) := by
  unfold Dev.tracIdle
  refine onlyObjects_updTrac ?_ _ _
  iterate 10 refine onlyObjects_mem ?_ _ (by simp [tracKeys])
  exact .refl d

theorem onlyObjects_ascEnter (d : Dev) (m : Mach) (cause : Nat) :
    OnlyObjects (fun k => (tracKeys m).contains k || isTraceCount k) d (d.ascEnter m cause) := by
  have hidle (st : Int) : OnlyObjects (fun k => (tracKeys m).contains k || isTraceCount k) d ((d.tracIdle m).setO (tk m Obj.BRIDGE_STATE) st) :=
    (onlyObjects_mem (onlyObjects_tracIdle d m) st (by simp [tracKeys])).mono fun k h => by rw [h, Bool.true_or]
  unfold Dev.ascEnter
  refine OnlyObjects.when ?_ _ (fun _ d => .of_obj (.refl d) rfl)
  split
  · exact hidle _
  · refine onlyObjects_updTrac (OnlyObjects.event ?_ _ (fun k h => by rw [h, Bool.or_true])) _ _
    refine OnlyObjects.addSat (OnlyObjects.setO (hidle _) _ _ ?_) _ _ ?_ <;> simp [tracKeys]

theorem onlyObjects_gridOff (d : Dev) (st step : Nat) : OnlyObjects gridKeys.contains d (d.gridOff st step) := by
  unfold Dev.gridOff
  refine onlyObjects_updGrid (onlyObjects_enableLoops ?_ _ _ (by decide)) _
  iterate 4 refine onlyObjects_mem ?_ _ (by simp [gridKeys])
  exact .refl d

theorem onlyObjects_dabOff (d : Dev) (c : Conv) (st : Nat) : OnlyObjects (dabKeys c).contains d (d.dabOff c st) := by
  unfold Dev.dabOff
  refine onlyObjects_updDab (onlyObjects_enableLoops ?_ _ _ (by cases c <;> decide)) _ _
  iterate 4 refine onlyObjects_mem ?_ _ (by simp [dabKeys])
  exact .refl d

theorem onlyObjects_coilOff? (d : Dev) (role : Nat) : OnlyObjects ctrKeys.contains d (d.coilOff? (d.driver role)) := by
  unfold Dev.coilOff?
  split
  · next n hn =>
    have hlt := mem_of_driver hn
    unfold Dev.coilOff
    split
    · have hmem : at' Obj.STATE_5810 n ∈ ctrKeys := List.mem_map_of_mem (by simp; omega)
      exact onlyObjects_mem (onlyObjects_updCtr (.refl d) _ _) _ hmem
    · exact .refl d
  · exact .refl d

theorem onlyObjects_actStop (d : Dev) : OnlyObjects actKeys.contains d d.actStop :=
  OnlyObjects.foldl (.refl d) _ fun d _ hg => onlyObjects_mem (.refl d) 0 (List.mem_map_of_mem hg)

theorem onlyObjects_bomStop (d : Dev) : OnlyObjects isBomKey d d.bomStop :=
  OnlyObjects.foldl ((OnlyObjects.refl d).setO _ _ (by decide)) _ fun d n hn => (OnlyObjects.refl d).setBit _ _ _ (by
    obtain ⟨i, hi, rfl⟩ := List.mem_map.mp hn
    have := List.mem_range.mp hi
    have hidx : keyIdx (el Obj.ROW_STATE (i + 1)) = 0x8014 := by
      simp only [keyIdx, el, Obj.ROW_STATE]
      omega
    simp [isBomKey, hidx])

/-! ### The link, with a precharge in progress -/

/-- The objects that the shut-down of the link writes beside those of DCA. -/
def isShutKey (k : Nat) : Bool := isLinkKey k || ctrKeys.contains k

theorem Dev.LinkStep.shut {d e : Dev} (h : d.LinkStep e) : OnlyObjects isShutKey d e := h.obj.mono fun k hk => by rw [isShutKey, hk, Bool.true_or]

theorem onlyObjects_setPreSwitch (d : Dev) (on : Bool) : OnlyObjects isShutKey d (d.setPreSwitch on) := by
  unfold Dev.setPreSwitch
  split
  · next n hn =>
    refine (OnlyObjects.refl d).setBit _ _ _ ?_
    have hmem := mem_group (List.mem_of_mem_head? hn)
    have hidx : keyIdx (el Obj.STATUS_6020 n) = 0x6020 := by
      simp only [keyIdx, el, Obj.STATUS_6020]
      omega
    simp [isShutKey, isLinkKey, hidx]
  · exact .refl d

/-- While DCA is not in reverse operation the end of a precharge writes the contactors and the link only (R201). -/
theorem onlyObjects_abortPrecharge {d : Dev} (hrev : d.o Obj.STATE_5400 ≠ 5) : OnlyObjects isShutKey d d.abortPrecharge := by
  have hcoil (d : Dev) (role : Nat) : OnlyObjects isShutKey d (d.coilOff? (d.driver role)) :=
    (onlyObjects_coilOff? d role).mono fun k hk => by rw [isShutKey, hk, Bool.or_true]
  unfold Dev.abortPrecharge
  split
  · exact .refl d
  · next j _ =>
    have hswitch : OnlyObjects isShutKey d (((d.updLink (fun l => { l with job := none })).coilOff? (d.preOf j.src)).when (decide (j.mode = 2))
        (fun d => d.setPreSwitch false)) :=
      OnlyObjects.when ((onlyObjects_updLink (.refl d) _).trans (hcoil _ _)) _ fun _ d => onlyObjects_setPreSwitch d false
    have hn : d.n Obj.STATE_5400 ≠ 5 := by
      simp only [Dev.n]
      omega
    simp only [hn, decide_false, Bool.and_false, Dev.when, Bool.false_eq_true, if_false]
    refine OnlyObjects.setO ?_ _ _ (by decide)
    split
    · exact hswitch.trans (hcoil _ _)
    · exact hswitch

theorem onlyObjects_linkShut {d : Dev} (hrev : d.o Obj.STATE_5400 ≠ 5) : OnlyObjects isShutKey d d.linkShut :=
  (((onlyObjects_abortPrecharge hrev).trans (Dev.linkStep_openSource _ 0).shut).trans (Dev.linkStep_openSource _ 1).shut).trans
    (Dev.linkStep_dischargeStart _).shut

/-! ### What the parts read -/

theorem Dev.o_enableLoops (d : Dev) (Ls : List Nat) (on : Bool) {k : Nat} (h : k < 0xA10000) (hs : isStatus k = false) : (d.enableLoops Ls on).o k = d.o k := by
  refine (onlyObjects_enableLoops (ks := fun k => decide (0xA10000 ≤ k)) (.refl d) Ls on fun L _ => ?_).same k (by simpa using h) hs
  exact decide_eq_true (by simp only [at', Obj.ENABLE_A100]; omega)

theorem Dev.o_updGrid (d : Dev) (f : Grid → Grid) (k : Nat) : (d.updGrid f).o k = d.o k := rfl
theorem Dev.o_updDab (d : Dev) (c : Conv) (f : Dab → Dab) (k : Nat) : (d.updDab c f).o k = d.o k := rfl

theorem Dev.o_gridOff (d : Dev) (st step : Nat) : (d.gridOff st step).o Obj.STATE_5000 = st ∧ (d.gridOff st step).o Obj.S2 = 0 := by
  rw [Dev.gridOff, Dev.o_updGrid, Dev.o_updGrid, Dev.o_enableLoops _ _ _ (by decide) (by decide), Dev.o_enableLoops _ _ _ (by decide) (by decide)]
  simp [Dev.o_eq]

theorem Dev.o_dabOff (d : Dev) (c : Conv) (st : Nat) : (d.dabOff c st).o (ck c Obj.STATE_5400) = st := by
  rw [Dev.dabOff, Dev.o_updDab, Dev.o_enableLoops _ _ _ (by cases c <;> decide) (by cases c <;> decide)]
  cases c <;> simp +decide [Dev.o_eq]

theorem Dev.o_actStop (d : Dev) {g : Nat} (hg : g < 4) : d.actStop.o (at' Obj.RUN_7100 g) = 0 := by
  interval_cases g <;> simp +decide [Dev.actStop, Dev.o_eq]

/-- A bit that is written for each entry of a list reads so for all of them. -/
theorem bit_foldl_setBit (key : Nat → Nat) (i : Nat) (b : Bool) (l : List Nat) (d : Dev) (x : Nat) (hx : x ∈ l ∨ bitOf (d.o (key x)) i = b) :
    bitOf ((l.foldl (fun d n => d.setBit (key n) i b) d).o (key x)) i = b := by
  induction l generalizing d with
  | nil => exact hx.resolve_left (by simp)
  | cons y ys ih =>
    refine ih _ ?_
    by_cases hkey : key x = key y
    · exact .inr (by simp [hkey, Dev.setBit, bitOf_putBit_same])
    · refine hx.imp (fun hm => (List.mem_cons.mp hm).resolve_left fun h => hkey (by rw [h])) fun hd => ?_
      exact (congrArg (fun v => bitOf v i) (Dev.o_setO_other d _ hkey)).trans hd

theorem Dev.bomStop_rows (d : Dev) {n : Nat} (hn : n < 128) : bitOf (d.bomStop.o (el Obj.ROW_STATE (n + 1))) 0 = false :=
  bit_foldl_setBit (el Obj.ROW_STATE) 0 false _ _ (n + 1) (.inl (List.mem_map_of_mem (List.mem_range.mpr hn)))

theorem Dev.bomStop_master (d : Dev) : d.bomStop.o Obj.MASTER = 0 := by
  refine (OnlyObjects.foldl (ks := fun k => keyIdx k == 0x8014) (.refl (d.setO Obj.MASTER 0)) _ fun d n hn => (OnlyObjects.refl d).setBit _ _ _ ?_).same
    Obj.MASTER (by decide) (by decide) |>.trans (by simp [Dev.o_eq])
  obtain ⟨i, hi, rfl⟩ := List.mem_map.mp hn
  have := List.mem_range.mp hi
  have hidx : keyIdx (el Obj.ROW_STATE (i + 1)) = 0x8014 := by
    simp only [keyIdx, el, Obj.ROW_STATE]
    omega
  simp [hidx]

/-! ### The safe state of every domain -/

/-- The ASC group depends on the gates, the channels' latches and ASC_GROUP alone (R152). -/
theorem Dev.ascState_congr {d e : Dev} (m : Mach) (hg : e.gates = d.gates)
    (hlat : ∀ n, 1 ≤ n → n ≤ 40 → e.o (el Obj.STATUS_6020 n) = d.o (el Obj.STATUS_6020 n))
    (hgroup : e.o (tk m Obj.ASC_GROUP) = d.o (tk m Obj.ASC_GROUP)) : e.ascState m = d.ascState m := by
  have hassign (n : Nat) : e.assignment n = d.assignment n := by simp only [Dev.assignment, hg]
  have hchannels (g : Nat) : e.groupChannels g = d.groupChannels g := by simp only [Dev.groupChannels, hassign]
  have hside (g : Nat) (high : Bool) : e.sideLatched g high = d.sideLatched g high := by
    rw [Bool.eq_iff_iff, Dev.sideLatched, Dev.sideLatched, hchannels, List.any_eq_true, List.any_eq_true]
    refine exists_congr fun n => and_congr_right fun hn => ?_
    rw [Dev.latched, Dev.latched, hlat n (mem_group hn).1 (mem_group hn).2, hassign]
  simp only [Dev.ascState, hside, Dev.b_eq hgroup]

/-- Both bridges in ASC, the grid port and the converters off. -/
def Dev.safeConverters (d : Dev) : Dev := ((((d.ascEnter .A 1).ascEnter .B 1).gridOff 0 0).dabOff .dca 7).dabOff .dcb 7

/-- What the safe state writes after the bridges. -/
def isSafeTail (k : Nat) : Bool := isShutKey k || actKeys.contains k || isBomKey k

theorem safeStateAll_eq (d : Dev) : safeStateAll d = { d.safeConverters.linkShut.actStop.bomStop with openRequest := true } := rfl

theorem Dev.o_upd_openRequest (d : Dev) (b : Bool) (k : Nat) : ({ d with openRequest := b } : Dev).o k = d.o k := rfl

/-- What the safe state writes between the bridges and the link. -/
def isSafeConverter (k : Nat) : Bool := gridKeys.contains k || (dabKeys .dca).contains k || (dabKeys .dcb).contains k

theorem onlyObjects_safeConverters (d : Dev) : OnlyObjects isSafeConverter ((d.ascEnter .A 1).ascEnter .B 1) d.safeConverters := by
  unfold Dev.safeConverters
  generalize (d.ascEnter .A 1).ascEnter .B 1 = x
  have hgrid : OnlyObjects isSafeConverter x (x.gridOff 0 0) := (onlyObjects_gridOff x 0 0).mono fun k h => by rw [isSafeConverter, h, Bool.true_or, Bool.true_or]
  refine (hgrid.trans ((onlyObjects_dabOff _ .dca 7).mono fun k h => ?_)).trans ((onlyObjects_dabOff _ .dcb 7).mono fun k h => ?_)
  · rw [isSafeConverter, h, Bool.or_true, Bool.true_or]
  · rw [isSafeConverter, h, Bool.or_true]

theorem Dev.safeConverters_state (d : Dev) (c : Conv) : d.safeConverters.o (ck c Obj.STATE_5400) = 7 := by
  unfold Dev.safeConverters
  generalize ((d.ascEnter .A 1).ascEnter .B 1).gridOff 0 0 = x
  cases c
  · exact ((onlyObjects_dabOff _ .dcb 7).same _ (by decide) (by decide)).trans (x.o_dabOff .dca 7)
  · exact Dev.o_dabOff _ .dcb 7

theorem Dev.safeConverters_grid (d : Dev) : d.safeConverters.o Obj.STATE_5000 = 0 ∧ d.safeConverters.o Obj.S2 = 0 := by
  unfold Dev.safeConverters
  generalize (d.ascEnter .A 1).ascEnter .B 1 = x
  have hoff := (onlyObjects_dabOff (x.gridOff 0 0) .dca 7)
  have hoff' := (onlyObjects_dabOff ((x.gridOff 0 0).dabOff .dca 7) .dcb 7)
  obtain ⟨hstate, hs2⟩ := x.o_gridOff 0 0
  exact ⟨(hoff'.same _ (by decide) (by decide)).trans ((hoff.same _ (by decide) (by decide)).trans hstate),
    (hoff'.same _ (by decide) (by decide)).trans ((hoff.same _ (by decide) (by decide)).trans hs2)⟩

/-- The safe state shuts the link, stops ACT and BOM once the converters are off. -/
theorem onlyObjects_safeTail (d : Dev) : OnlyObjects isSafeTail d.safeConverters (safeStateAll d) := by
  have hrev : d.safeConverters.o Obj.STATE_5400 ≠ 5 := by
    rw [show Obj.STATE_5400 = ck .dca Obj.STATE_5400 from rfl, d.safeConverters_state]
    decide
  rw [safeStateAll_eq]
  generalize d.safeConverters = x at *
  have hlink := (onlyObjects_linkShut hrev).mono (ls := isSafeTail) fun k h => by rw [isSafeTail, h, Bool.true_or, Bool.true_or]
  have hact := (onlyObjects_actStop x.linkShut).mono (ls := isSafeTail) fun k h => by rw [isSafeTail, h, Bool.or_true, Bool.true_or]
  have hbom := (onlyObjects_bomStop x.linkShut.actStop).mono (ls := isSafeTail) fun k h => by rw [isSafeTail, h, Bool.or_true]
  have hall := (hlink.trans hact).trans hbom
  generalize x.linkShut.actStop.bomStop = y at hall
  exact hall.of_obj rfl

/-- ASC clears the torque command (R151). -/
theorem Dev.o_ascEnter_torque (d : Dev) (m : Mach) (cause : Nat) : (d.ascEnter m cause).o (tk m Obj.TORQUE_CMD) = 0 := by
  have hwhen (x : Dev) (b : Bool) (k : Nat) : (x.when b (fun d => { d with openRequest := true })).o k = x.o k := by cases b <;> rfl
  have hidle : (d.tracIdle m).o (tk m Obj.TORQUE_CMD) = 0 := by cases m <;> simp +decide [Dev.tracIdle, Dev.updTrac, Dev.o_eq]
  unfold Dev.ascEnter
  simp only [hwhen]
  generalize d.tracIdle m = x at hidle
  cases m <;> split <;> simp_all +decide [Dev.updTrac, Dev.o_eq]

/-- Entering ASC on one machine leaves the group that R152 gives the other. -/
theorem Dev.ascState_ascEnter (d : Dev) (m m' : Mach) (cause : Nat) : (d.ascEnter m cause).ascState m' = d.ascState m' := by
  have hobj := onlyObjects_ascEnter d m cause
  refine Dev.ascState_congr m' (d.stops_ascEnter m cause).gates (fun n h1 h2 => ?_) (hobj.same _ (by cases m <;> cases m' <;> decide) (by cases m' <;> decide))
  refine hobj.same _ ?_ ?_ <;> interval_cases n <;> cases m <;> decide

/-- `e` stands in the safe state of every domain, the bridges in the ASC that R152 gives in `d` (R513). -/
structure Dev.Safe (d e : Dev) : Prop where
  bridge : ∀ m, e.o (tk m Obj.BRIDGE_STATE) = d.ascState m
  torque : ∀ m, e.o (tk m Obj.TORQUE_CMD) = 0
  grid : e.o Obj.STATE_5000 = 0
  s2 : e.o Obj.S2 = 0
  conv : ∀ c, e.o (ck c Obj.STATE_5400) = 7
  bldc : ∀ g < 4, e.o (at' Obj.RUN_7100 g) = 0
  master : e.o Obj.MASTER = 0
  rows : ∀ n < 128, bitOf (e.o (el Obj.ROW_STATE (n + 1))) 0 = false
  opens : e.openRequest = true

theorem safeStateAll_safe (d : Dev) : d.Safe (safeStateAll d) := by
  have htail := onlyObjects_safeTail d
  have hconv := onlyObjects_safeConverters d
  have hbridge (m : Mach) (cause : Nat) : (d.ascEnter m cause).o (tk m Obj.BRIDGE_STATE) = d.ascState m := d.o_ascEnter_state m cause
  constructor
  case bridge =>
    intro m
    refine ((htail.same _ (by cases m <;> decide) (by cases m <;> decide)).trans (hconv.same _ (by cases m <;> decide) (by cases m <;> decide))).trans ?_
    cases m
    · exact ((onlyObjects_ascEnter (d.ascEnter .A 1) .B 1).same _ (by decide) (by decide)).trans (d.o_ascEnter_state .A 1)
    · exact ((d.ascEnter .A 1).o_ascEnter_state .B 1).trans (by rw [d.ascState_ascEnter])
  case torque =>
    intro m
    refine ((htail.same _ (by cases m <;> decide) (by cases m <;> decide)).trans (hconv.same _ (by cases m <;> decide) (by cases m <;> decide))).trans ?_
    cases m
    · exact ((onlyObjects_ascEnter (d.ascEnter .A 1) .B 1).same _ (by decide) (by decide)).trans (d.o_ascEnter_torque .A 1)
    · exact (d.ascEnter .A 1).o_ascEnter_torque .B 1
  case grid => exact (htail.same _ (by decide) (by decide)).trans d.safeConverters_grid.1
  case s2 => exact (htail.same _ (by decide) (by decide)).trans d.safeConverters_grid.2
  case conv => exact fun c => (htail.same _ (by cases c <;> decide) (by cases c <;> decide)).trans (d.safeConverters_state c)
  case bldc =>
    intro g hg
    rw [safeStateAll_eq, Dev.o_upd_openRequest, (onlyObjects_bomStop _).same _ (by interval_cases g <;> decide) (by interval_cases g <;> decide), Dev.o_actStop _ hg]
  case master => rw [safeStateAll_eq, Dev.o_upd_openRequest, Dev.bomStop_master]
  case rows =>
    intro n hn
    rw [safeStateAll_eq, Dev.o_upd_openRequest, Dev.bomStop_rows _ hn]
  case opens => rfl

end Sys2Proof.Machine
end

section
/-! The safe state of every domain on SAFE_IN (R510, R512, R513, O60). -/

namespace Sys2Proof.Machine

/-- A fault not yet in force is entered, and its class reacts (R510). -/
theorem Dev.raiseWith_new (d : Dev) {code : Nat} {dom : Domain} (src : FaultSrc) (lasting inj : Bool) (h : faultClass code ≠ 0)
    (hnew : d.coll.active.any (fun f => f.code == code && f.acts == dom) = false) :
    ∃ b first, d.Reported b ∧ d.raiseWith code dom src lasting inj = b.react code dom first := by
  unfold Dev.raiseWith
  rw [if_neg h, if_neg (by simp only [hnew]; decide)]
  exact ⟨_, _, d.reported_entry code dom src inj _, rfl⟩

/-- The reaction of a Safe-state or Lockout (R510, R513). -/
theorem Dev.react_safe (d : Dev) {code : Nat} (dom : Domain) (first : Bool) (h : 3 ≤ faultClass code) :
    d.react code dom first = (safeStateAll d).when first (fun d => d.event 0x06) := by
  unfold Dev.react
  simp only []
  rw [if_neg (by omega), if_pos h]

theorem Dev.Safe.of_event {d e : Dev} (h : d.Safe e) (x : Nat) : d.Safe (e.event x) := by
  have hrow (n : Nat) (hn : n < 128) : isTraceCount (el Obj.ROW_STATE (n + 1)) = false := isTraceCount_false (by simp only [el, Obj.ROW_STATE]; omega)
  constructor
  case bridge => exact fun m => (e.o_event x (by cases m <;> decide)).trans (h.bridge m)
  case torque => exact fun m => (e.o_event x (by cases m <;> decide)).trans (h.torque m)
  case grid => exact (e.o_event x (by decide)).trans h.grid
  case s2 => exact (e.o_event x (by decide)).trans h.s2
  case conv => exact fun c => (e.o_event x (by cases c <;> decide)).trans (h.conv c)
  case bldc => exact fun g hg => (e.o_event x (by interval_cases g <;> decide)).trans (h.bldc g hg)
  case master => exact (e.o_event x (by decide)).trans h.master
  case rows => exact fun n hn => by rw [e.o_event x (hrow n hn), h.rows n hn]
  case opens => exact (e.event_openRequest x).trans h.opens

theorem Dev.Safe.of_ascState {b d e : Dev} (h : b.Safe e) (hasc : ∀ m, b.ascState m = d.ascState m) : d.Safe e :=
  ⟨fun m => by rw [h.bridge, hasc], h.torque, h.grid, h.s2, h.conv, h.bldc, h.master, h.rows, h.opens⟩

theorem Dev.Safe.settle {d e : Dev} (h : d.Safe e) : d.Safe e.settle := by
  have hrow (n : Nat) (hn : n < 128) : isStatus (el Obj.ROW_STATE (n + 1)) = false := isStatus_false (by
    simp only [el, Obj.ROW_STATE, List.mem_cons, List.not_mem_nil, or_false, forall_eq_or_imp, forall_eq]
    omega)
  constructor
  case bridge => exact fun m => (e.o_settle (by cases m <;> decide)).trans (h.bridge m)
  case torque => exact fun m => (e.o_settle (by cases m <;> decide)).trans (h.torque m)
  case grid => exact (e.o_settle (by decide)).trans h.grid
  case s2 => exact (e.o_settle (by decide)).trans h.s2
  case conv => exact fun c => (e.o_settle (by cases c <;> decide)).trans (h.conv c)
  case bldc => exact fun g hg => (e.o_settle (by interval_cases g <;> decide)).trans (h.bldc g hg)
  case master => exact (e.o_settle (by decide)).trans h.master
  case rows => exact fun n hn => (congrArg (fun v => bitOf v 0) (e.o_settle (hrow n hn))).trans (h.rows n hn)
  case opens => exact e.settle_openRequest.trans h.opens

/-- A bridge's ASC group is the same after the entry of a fault. -/
theorem Dev.Reported.ascState {d b : Dev} (h : d.Reported b) (m : Mach) : b.ascState m = d.ascState m := by
  refine Dev.ascState_congr m h.rest.gates (fun n h1 h2 => ?_) (h.obj.same _ (by cases m <;> decide) (by cases m <;> decide))
  refine h.obj.same _ ?_ ?_ <;> interval_cases n <;> decide

/-- A new fault of class Safe-state or Lockout brings every domain into its safe state. -/
theorem Dev.raise_safe (d : Dev) {code : Nat} {dom : Domain} (lasting : Bool) (src : FaultSrc) (h : 3 ≤ faultClass code)
    (hnew : d.coll.active.any (fun f => f.code == code && f.acts == dom) = false) : d.Safe (d.raiseWith code dom src lasting false) := by
  have hne : faultClass code ≠ 0 := Nat.ne_of_gt (Nat.lt_of_lt_of_le (by decide) h)
  obtain ⟨b, first, hb, heq⟩ := d.raiseWith_new src lasting false hne hnew
  rw [heq, Dev.react_safe _ _ _ h]
  have hsafe := (safeStateAll_safe b).of_ascState fun m => hb.ascState m
  generalize safeStateAll b = e at hsafe ⊢
  unfold Dev.when
  split
  · exact hsafe.of_event 0x06
  · exact hsafe

/-- A Safe-state in force shows in every domain (R427, R510). -/
theorem Dev.domainState_safe {d : Dev} {code : Nat} {dom : Domain} (h : d.inForce code dom) (hclass : 3 ≤ faultClass code) :
    d.safeState ≠ 0 ∧ ∀ m : Domain, 3 ≤ d.domainState m := by
  have hin : d.classInForce 3 = true := by
    obtain ⟨f, hf, rfl, -⟩ := h
    simp only [Dev.classInForce, Bool.or_eq_true, List.any_eq_true]
    exact .inl ⟨f, hf, decide_eq_true hclass⟩
  refine ⟨?_, fun m => ?_⟩
  · rw [Dev.safeState, hin]
    split <;> decide
  · rw [Dev.domainState, hin, if_pos rfl]
    split <;> decide

/-- The pin reads low, with its event (R512). -/
def Dev.safeInLow (d : Dev) : Dev := (d.setO Obj.SAFE_IN 1).event 0x05

/-- The fault of SAFE_IN (R512). -/
def Dev.safeInFault (d : Dev) : Dev := d.safeInLow.raise 0x0606 true { ini := 0x38, acc := 5 }

theorem safeInAssert_eq (s : State) (halive : s.dev.alive = true) (hpin : s.dev.o Obj.SAFE_IN = 0) : execSafeInAssert s = s.run (fun _ => s.dev.safeInFault) := by
  have hoff : s.dev.b Obj.SAFE_IN = false := by simp [Dev.b, hpin]
  unfold execSafeInAssert State.run
  simp only [hoff, halive, Bool.false_eq_true, if_false, if_true]
  rfl

theorem Dev.ascState_safeInLow (d : Dev) (m : Mach) : d.safeInLow.ascState m = d.ascState m := by
  refine Dev.ascState_congr m (by simp [Dev.safeInLow]) (fun n h1 h2 => ?_) ?_
  · interval_cases n <;> simp +decide [Dev.safeInLow, Dev.o_eq]
  · cases m <;> simp +decide [Dev.safeInLow, Dev.o_eq]

theorem Dev.safe_safeInFault {d : Dev} (hnew : d.coll.active.any (fun f => f.code == 0x0606 && f.acts == .sys) = false) : d.Safe d.safeInFault.settle := by
  have hnew' : d.safeInLow.coll.active.any (fun f => f.code == 0x0606 && f.acts == .sys) = false := by simpa [Dev.safeInLow] using hnew
  exact ((d.safeInLow.raise_safe true { ini := 0x38, acc := 5 } (by decide) hnew').settle).of_ascState d.ascState_safeInLow

theorem Dev.inForce_safeInFault (d : Dev) : d.safeInFault.inForce 0x0606 .sys := Dev.inForce_raise_on _ _ _ (by decide) (by decide)

theorem Dev.raises_safeInFault (d : Dev) : d.RaisesOnly d.safeInFault.settle :=
  frame_raises.settle (frame_raises.raise (frame_raises.event (frame_raises.setO (frame_raises.refl _) _ _) _) _ _ _)

theorem onlyObjects_safeInFault (d : Dev) : OnlyObjects (fun k => k == Obj.SAFE_IN || isReaction k) d d.safeInFault.settle := by
  simp +contextual [Dev.safeInFault, Dev.safeInLow, onlyObjects_iff]

/-- Settles O60: SAFE_IN raises a new Safe-state, whose reaction is the safe state of every domain. -/
theorem safeStateStopsEveryDomain : Obligations.SafeStateStopsEveryDomain := by
  intro s halive hpin hnew
  have hsafe := Dev.safe_safeInFault hnew
  have hstop := Dev.domainState_safe s.dev.inForce_safeInFault (by decide)
  have hstatus := Dev.o_settle_safeState s.dev.safeInFault
  have hdomains := Dev.o_settle_domain s.dev.safeInFault
  have hrest := s.dev.raises_safeInFault
  have hobj := onlyObjects_safeInFault s.dev
  refine completes_run (safeInAssert_eq s halive hpin) ?_
  generalize s.dev.safeInFault = e at *
  refine ⟨?_, hsafe.bridge .A, hsafe.bridge .B, hsafe.torque .A, hsafe.torque .B, hsafe.grid, hsafe.s2, hsafe.conv .dca, hsafe.conv .dcb,
    fun g hg => hsafe.bldc g (List.mem_range.mp hg), hsafe.master, fun n hn => hsafe.rows n (List.mem_range.mp hn), hsafe.opens, fun m _ _ => ?_, hobj, hrest⟩
  · rw [hstatus]
    exact_mod_cast hstop.1
  · rw [hdomains]
    exact_mod_cast hstop.2 m

end Sys2Proof.Machine
end

section
/-! The chopper and the over-voltage tiers (R151, R204, R207, O22). -/

namespace Sys2Proof.Machine

/-! ### The drive of the chopper -/

theorem bitsOf_putBit_zero (x : Int) (b : Bool) : bitsOf (putBit x 0 b) 4 1 = bitsOf x 4 1 := by
  unfold bitsOf putBit
  cases b
  · simp only [Bool.false_eq_true, if_false]
    split
    · next h =>
      simp only [bitOf, Nat.shiftRight_zero, beq_iff_eq] at h
      simp only [Nat.shiftRight_eq_div_pow, Nat.shiftLeft_zero]
      omega
    · simp
  · simp [Nat.shiftRight_or_distrib]

/-- Whether the chopper is asked to switch (R203, R204). -/
def Dev.chopAsked (d : Dev) : Bool := (d.link.reg || d.link.discharge == 2) && !d.chopFaulty

/-- What CHOP_STATE reads while the chopper switches as `on` says (R184). -/
def Dev.chopShown (d : Dev) (on : Bool) : Int := if d.chopFaulty then 3 else if d.link.hot then 2 else if on then 1 else 0

/-- No change of the chopper waits for its least time: none was made, or a fault does not wait (R204). -/
theorem Dev.driveChopper_eq {d : Dev} (h : d.link.changed = none ∨ d.chopFaulty = true) :
    d.driveChopper = if d.chopAsked = d.link.on then d.showChopper else d.chopTo d.chopAsked := by
  unfold Dev.driveChopper
  refine if_congr ?_ rfl rfl
  obtain h | h := h <;> simp [h, Dev.chopAsked]

/-- A fault of the chopper is read from the link, the sensors, the comparators, the gates, NTC_DOMAIN and the latches of its channels (R204). -/
theorem Dev.chopFaulty_congr {d e : Dev} (hmiss : e.link.missing = d.link.missing) (hsens : e.sensors = d.sensors) (htrips : e.ocTrips = d.ocTrips)
    (hg : e.gates = d.gates) (hntc : ∀ n, n < 8 → e.o (at' Obj.NTC_DOMAIN n) = d.o (at' Obj.NTC_DOMAIN n))
    (hlat : ∀ n ∈ d.groupChannels 8, e.latched n = d.latched n) : e.chopFaulty = d.chopFaulty := by
  have hchannels : e.groupChannels 8 = d.groupChannels 8 := by simp only [Dev.groupChannels, Dev.assignment, hg]
  have hinputs : e.ntcOf 7 (fun s => s.trip) = d.ntcOf 7 (fun s => s.trip) := by
    simp only [Dev.ntcOf, hsens]
    refine List.filter_congr fun n hn => ?_
    rw [Dev.n_eq (hntc (n - 1) ?_)]
    simp only [List.mem_cons, List.not_mem_nil, or_false] at hn
    omega
  have hany : (e.groupChannels 8).any (fun n => e.latched n) = (d.groupChannels 8).any (fun n => d.latched n) := by
    rw [Bool.eq_iff_iff, hchannels, List.any_eq_true, List.any_eq_true]
    exact exists_congr fun n => and_congr_right fun hn => by rw [hlat n hn]
  simp only [Dev.chopFaulty, hmiss, htrips, hinputs, hany]

/-- The chopper's channels with bit 0 of STATUS written. -/
def Dev.chopSwitched (d : Dev) (on : Bool) : Dev :=
  (d.groupChannels 8).foldl (fun d n => d.setBit (el Obj.STATUS_6020 n) 0 on) (d.updLink (fun l => { l with on := on, changed := some d.wall }))

theorem latched_foldl_setBit (on : Bool) (l : List Nat) (d : Dev) (n : Nat) :
    (l.foldl (fun d n => d.setBit (el Obj.STATUS_6020 n) 0 on) d).latched n = d.latched n := by
  induction l generalizing d with
  | nil => rfl
  | cons y ys ih =>
    refine (ih _).trans ?_
    by_cases hkey : el Obj.STATUS_6020 n = el Obj.STATUS_6020 y
    · simp [Dev.latched, hkey, Dev.setBit, bitsOf_putBit_zero]
    · simp [Dev.latched, Dev.setBit, Dev.o_setO_other _ _ hkey]

theorem Dev.chopSwitched_frame (d : Dev) (on : Bool) : (d.updLink (fun l => { l with on := on, changed := some d.wall })).ShowsOnly (d.chopSwitched on) :=
  Dev.shows_foldl (fun d _ => d.showsOnly_setO _ _) _ _

theorem onlyObjects_chopSwitched (d : Dev) (on : Bool) : OnlyObjects (fun k => keyIdx k == 0x6020) d (d.chopSwitched on) := by
  refine OnlyObjects.foldl (onlyObjects_updLink (.refl d) _) _ fun d n hn => (OnlyObjects.refl d).setBit _ _ _ ?_
  have hmem := mem_group hn
  have hidx : keyIdx (el Obj.STATUS_6020 n) = 0x6020 := by
    simp only [keyIdx, el, Obj.STATUS_6020]
    omega
  simp [hidx]

theorem Dev.chopFaulty_chopSwitched (d : Dev) (on : Bool) : (d.chopSwitched on).chopFaulty = d.chopFaulty := by
  have hshow := d.chopSwitched_frame on
  have hmiss : (d.chopSwitched on).link.missing = d.link.missing := by rw [hshow.link]; rfl
  refine Dev.chopFaulty_congr hmiss hshow.sensors hshow.ocTrips hshow.gates (fun n hn => ?_) fun n _ => latched_foldl_setBit _ _ _ n
  exact (onlyObjects_chopSwitched d on).same _ (by interval_cases n <;> decide) (by interval_cases n <;> decide)

/-- After its drive the chopper reads as asked, with its channels (R204). -/
theorem Dev.driveChopper_reads {d : Dev} (h : d.link.changed = none ∨ d.chopFaulty = true) :
    d.driveChopper.link.on = d.chopAsked ∧ d.driveChopper.o Obj.CHOP_STATE = d.chopShown d.chopAsked ∧
      d.driveChopper.link = { d.link with on := d.driveChopper.link.on, changed := d.driveChopper.link.changed } ∧
      (d.link.on ≠ d.chopAsked → ∀ n ∈ d.groupChannels 8, bitOf (d.driveChopper.o (el Obj.STATUS_6020 n)) 0 = d.chopAsked) := by
  rw [Dev.driveChopper_eq h]
  split
  · next heq =>
    refine ⟨heq.symm, ?_, rfl, fun hne => absurd heq.symm hne⟩
    simp [Dev.showChopper, Dev.chopShown, heq]
  · next hne =>
    have hlink : (d.chopTo d.chopAsked).link = { d.link with on := d.chopAsked, changed := some d.wall } := (d.chopSwitched_frame d.chopAsked).link
    have hshown : d.chopTo d.chopAsked = (d.chopSwitched d.chopAsked).setO Obj.CHOP_STATE (d.chopShown d.chopAsked) := by
      have hhot : (d.chopSwitched d.chopAsked).link.hot = d.link.hot := by rw [(d.chopSwitched_frame _).link]; rfl
      have hon : (d.chopSwitched d.chopAsked).link.on = d.chopAsked := by rw [(d.chopSwitched_frame _).link]; rfl
      change (d.chopSwitched d.chopAsked).showChopper = _
      rw [Dev.showChopper, d.chopFaulty_chopSwitched, hhot, hon, Dev.chopShown]
    refine ⟨by rw [hlink], by rw [hshown, Dev.o_setO_same], by rw [hlink], fun _ n hn => ?_⟩
    have hkey : el Obj.STATUS_6020 n ≠ Obj.CHOP_STATE := by
      have := mem_group hn
      simp only [el, Obj.STATUS_6020, Obj.CHOP_STATE]
      omega
    rw [hshown, Dev.o_setO_other _ _ hkey]
    exact bit_foldl_setBit (el Obj.STATUS_6020) 0 d.chopAsked _ _ n (.inl hn)

/-- The drive of the chopper writes the link's state of its switch alone. -/
theorem Dev.driveChopper_link (d : Dev) :
    d.driveChopper.link = { d.link with on := d.driveChopper.link.on, changed := d.driveChopper.link.changed } := by
  obtain h | ⟨on, h⟩ := d.driveChopper_cases <;> rw [h]
  · rfl
  · have hlink : (d.chopTo on).link = { d.link with on := on, changed := some d.wall } := (d.chopSwitched_frame on).link
    rw [hlink]

/-- A new reading of the link, and a change of its state that leaves `missing`, change nothing of the chopper's faults. -/
theorem Dev.chopFaulty_measured (d : Dev) (vdc : Nat) {f : Link → Link} (hf : (f d.link).missing = d.link.missing) :
    ((d.setO Obj.VDC vdc).updLink f).chopFaulty = d.chopFaulty := by
  refine Dev.chopFaulty_congr hf rfl rfl rfl (fun n hn => ?_) fun n _ => latched_setO (by decide) _ n
  exact Dev.o_setO_other _ _ (by interval_cases n <;> decide)

/-- A fault of class Degrade is entered and nothing stops (R510). -/
theorem Dev.raise_degrade (d : Dev) {code : Nat} (lasting : Bool) (src : FaultSrc) (h : faultClass code = 1) : d.Reported (d.raise code lasting src) := by
  have hne : faultClass code ≠ 0 := by rw [h]; decide
  obtain ⟨b, hb, heq | ⟨first, heq⟩⟩ := d.raiseWith_cases (codeDomain (faultDomain code)) src lasting false hne
  · rwa [Dev.raise, heq]
  · have hreact : b.react code (codeDomain (faultDomain code)) first = b := by
      unfold Dev.react
      simp only [h]
      rfl
    rwa [Dev.raise, heq, hreact]

/-! ### Regulation -/

/-- The objects that the regulation writes. -/
theorem onlyObjects_driveChopper (d : Dev) : OnlyObjects isChopKey d d.driveChopper := d.driveChopper_frame.2.2

theorem isChopKey_mono {p : Nat → Bool} (k : Nat) (h : isChopKey k = true) : (p k || k == Obj.CHOP_STATE || keyIdx k == 0x6020) = true := by
  rw [Bool.or_assoc]
  exact Bool.or_eq_true _ _ ▸ .inr h

section
variable (s : State) (vdc : Nat) (halive : s.dev.alive = true)
include halive

theorem chopperOn_completes (hrise : s.dev.n Obj.CHOP_ON * s.dev.n Obj.VDC_MAX * 10 ≤ 16384 * vdc) (hgood : s.dev.chopFaulty = false) (hfree : s.dev.link.changed = none) :
    Completes (.chopperOn vdc) s (fun e => e.link.reg = true ∧ e.link.on = true ∧ e.o Obj.VDC = vdc ∧ e.o Obj.CHOP_STATE = (if s.dev.link.hot then 2 else 1) ∧
      (∀ n ∈ s.dev.groupChannels 8, bitOf (e.o (el Obj.STATUS_6020 n)) 0 = true ∨ s.dev.link.on = true) ∧ ({ s.dev with link := e.link } : Dev).ShowsOnly e ∧ OnlyObjects (fun k => k == Obj.VDC || k == Obj.CHOP_STATE || keyIdx k == 0x6020) s.dev e) := by
  let d1 := (s.dev.setO Obj.VDC vdc).updLink (fun l => { l with reg := true })
  have hgood' : d1.chopFaulty = false := (s.dev.chopFaulty_measured vdc (f := fun l => { l with reg := true }) rfl).trans hgood
  have hasked : d1.chopAsked = true := by
    rw [Dev.chopAsked, hgood']
    rfl
  obtain ⟨hon, hstate, -, hchannels⟩ := Dev.driveChopper_reads (d := d1) (.inl hfree)
  have hlink := d1.driveChopper_link
  have hrest : s.dev.LinkOnly d1.driveChopper := frame_link.trans (frame_link.trans (frame_link.setO (frame_link.refl _) _ _) (Dev.linkOnly_updLink _ _)) d1.driveChopper_frame.1
  have hobj := onlyObjects_driveChopper d1
  rw [hasked] at hon hstate hchannels
  refine completes_live_eq d1.driveChopper rfl halive (if_pos hrise) ⟨?_, ?_, ?_, ?_, fun n hn => ?_, Dev.linkOnly_iff.mp (frame_link.settle hrest), ?_⟩
  · rw [Dev.settle_link, hlink]
    rfl
  · rw [Dev.settle_link, hon]
  · rw [Dev.o_settle _ (by decide), hobj.same _ (by decide) (by decide)]
    exact Dev.o_setO_same ..
  · rw [Dev.o_settle _ (by decide), hstate, Dev.chopShown, hgood']
    rfl
  · refine (Bool.eq_false_or_eq_true s.dev.link.on).symm.imp (fun hoff => ?_) id
    have hstatus : isStatus (el Obj.STATUS_6020 n) = false := by
      obtain ⟨h1, h2⟩ := mem_group hn
      interval_cases n <;> decide
    rw [Dev.o_settle _ hstatus]
    exact hchannels (by rw [show d1.link.on = s.dev.link.on from rfl, hoff]; decide) n hn
  · have hobj' := hobj.mono (ls := fun k => k == Obj.VDC || k == Obj.CHOP_STATE || keyIdx k == 0x6020) isChopKey_mono
    exact (OnlyObjects.trans (by simp [d1, onlyObjects_iff, Dev.updLink]) hobj').settle

theorem chopperOff_completes (hfall : 16384 * vdc ≤ s.dev.n Obj.CHOP_OFF * s.dev.n Obj.VDC_MAX * 10) (hdis : s.dev.link.discharge = 0) (hfree : s.dev.link.changed = none) :
    Completes (.chopperOff vdc) s (fun e => e.link.reg = false ∧ e.link.on = false ∧ e.o Obj.VDC = vdc ∧ ({ s.dev with link := e.link } : Dev).ShowsOnly e ∧ OnlyObjects (fun k => k == Obj.VDC || k == Obj.CHOP_STATE || keyIdx k == 0x6020) s.dev e) := by
  let d1 := (s.dev.setO Obj.VDC vdc).updLink (fun l => { l with reg := false })
  have hasked : d1.chopAsked = false := by
    rw [Dev.chopAsked, show d1.link.discharge = 0 from hdis]
    rfl
  obtain ⟨hon, -, -, -⟩ := Dev.driveChopper_reads (d := d1) (.inl hfree)
  have hlink := d1.driveChopper_link
  have hrest : s.dev.LinkOnly d1.driveChopper := frame_link.trans (frame_link.trans (frame_link.setO (frame_link.refl _) _ _) (Dev.linkOnly_updLink _ _)) d1.driveChopper_frame.1
  have hobj := onlyObjects_driveChopper d1
  refine completes_live_eq d1.driveChopper rfl halive (if_pos hfall) ⟨?_, ?_, ?_, Dev.linkOnly_iff.mp (frame_link.settle hrest), ?_⟩
  · rw [Dev.settle_link, hlink]
    rfl
  · rw [Dev.settle_link, hon, hasked]
  · rw [Dev.o_settle _ (by decide), hobj.same _ (by decide) (by decide)]
    exact Dev.o_setO_same ..
  · have hobj' := hobj.mono (ls := fun k => k == Obj.VDC || k == Obj.CHOP_STATE || keyIdx k == 0x6020) isChopKey_mono
    exact (OnlyObjects.trans (by simp [d1, onlyObjects_iff, Dev.updLink]) hobj').settle

end

/-! ### The chopper's current -/

/-- The report of a chopper that has become faulty or good again (R204). -/
def Dev.chopReported (d : Dev) : Dev :=
  if d.chopFaulty && !d.link.faultShown then ((d.updLink (fun l => { l with faultShown := d.chopFaulty })).event 0x80).raise 0x6270 true { ini := 0x35, acc := 5 }
  else if !d.chopFaulty && d.link.faultShown then (d.updLink (fun l => { l with faultShown := d.chopFaulty })).causeGone 0x6270
  else d.updLink (fun l => { l with faultShown := d.chopFaulty })

theorem Dev.chopRefresh_eq (d : Dev) : d.chopRefresh = d.chopReported.driveChopper.showTier := rfl

theorem raises_updLink (d : Dev) (f : Link → Link) : d.RaisesOnly (d.updLink f) := (d.stops_updLink f).raises

/-- The report keeps the link but for what it has shown. -/
theorem Dev.chopReported_frame (d : Dev) : d.RaisesOnly d.chopReported ∧ d.chopReported.link = { d.link with faultShown := d.chopFaulty } ∧
    OnlyObjects (fun k => isReaction k) d d.chopReported := by
  unfold Dev.chopReported
  generalize hupd : d.updLink (fun l => { l with faultShown := d.chopFaulty }) = u
  have hraises : d.RaisesOnly u := by rw [← hupd]; exact raises_updLink _ _
  have hlink : u.link = { d.link with faultShown := d.chopFaulty } := by rw [← hupd]; rfl
  have hobj : OnlyObjects isReaction d u := by rw [← hupd]; exact onlyObjects_updLink (.refl d) _
  split
  · have hrep := (u.event 0x80).raise_degrade true { ini := 0x35, acc := 5 } (code := 0x6270) (by decide)
    refine ⟨frame_raises.raise (frame_raises.event hraises _) _ _ _, ?_, (hobj.event _ fun _ h => isReaction_trace h).raise _ _ _ fun _ h => h⟩
    rw [hrep.rest.link]
    simpa using hlink
  · split
    · refine ⟨frame_raises.trans hraises ?_, by simpa [Dev.causeGone] using hlink, hobj.of_obj rfl⟩
      simp [Dev.raisesOnly_iff, Dev.causeGone, Dev.unraised, Dev.unstopped]
    · exact ⟨hraises, hlink, hobj⟩

theorem Dev.chopRefresh_frame (d : Dev) : d.RaisesOnly d.chopRefresh ∧ d.chopRefresh.link.missing = d.link.missing ∧
    OnlyObjects (fun k => k == Obj.OV_TIER || k == Obj.CHOP_STATE || isReaction k) d d.chopRefresh := by
  obtain ⟨hraises, hlink, hobj⟩ := d.chopReported_frame
  rw [Dev.chopRefresh_eq]
  refine ⟨?_, ?_, ?_⟩
  · exact frame_raises.setO (frame_raises.trans hraises ((Dev.stops_driveChopper _).raises)) _ _
  · change d.chopReported.driveChopper.link.missing = _
    rw [Dev.driveChopper_link, hlink]
  · refine OnlyObjects.setO (.trans (hobj.mono fun k h => by rw [h, Bool.or_true]) ((quiet_driveChopper _).mono fun k h => by rw [h, Bool.or_true])) _ _ (by decide)

section
variable (s : State) (i vdc : Nat) (halive : s.dev.alive = true)
include halive

theorem chopperCurrent_missing (hon : s.dev.link.on = true) (hshown : s.dev.link.faultShown = false) (_hgood : s.dev.chopFaulty = false)
    (hlow : i * s.dev.n Obj.CHOP_R < 250 * vdc) :
    Completes (.chopperCurrentCheck i vdc) s (fun e => e.link.missing = true ∧ e.link.on = false ∧ e.o Obj.CHOP_STATE = 3 ∧ e.raised 0x80 ∧ e.inForce 0x6270 .lnk ∧ e.o Obj.VDC = vdc ∧ s.dev.RaisesOnly e ∧ OnlyObjects (fun k => k == Obj.VDC || k == Obj.OV_TIER || k == Obj.CHOP_STATE || isReaction k) s.dev e) := by
  let d1 := (s.dev.setO Obj.VDC vdc).updLink (fun l => { l with missing := true })
  have hbad (d : Dev) (h : d.link.missing = true) : d.chopFaulty = true := by simp [Dev.chopFaulty, h]
  have hreport : d1.chopReported = ((d1.updLink (fun l => { l with faultShown := d1.chopFaulty })).event 0x80).raise 0x6270 true { ini := 0x35, acc := 5 } :=
    if_pos (by rw [hbad d1 rfl, show d1.link.faultShown = false from hshown]; rfl)
  obtain ⟨-, hlink, -⟩ := d1.chopReported_frame
  have hmiss : d1.chopReported.link.missing = true := by rw [hlink]; rfl
  have hfaulty := hbad _ hmiss
  have hasked : d1.chopReported.chopAsked = false := by rw [Dev.chopAsked, hfaulty, Bool.not_true, Bool.and_false]
  obtain ⟨hoff, hstate, -, -⟩ := Dev.driveChopper_reads (d := d1.chopReported) (.inr hfaulty)
  obtain ⟨hraises, hkeeps, hobj⟩ := d1.chopRefresh_frame
  have hdrive := d1.chopReported.driveChopper_frame.1
  refine completes_live_eq d1.chopRefresh rfl halive ?_ ⟨?_, ?_, ?_, ?_, ?_, ?_, ?_, ?_⟩
  · refine if_pos ?_
    have hr : (s.dev.setO Obj.VDC vdc).n Obj.CHOP_R = s.dev.n Obj.CHOP_R := Dev.n_eq (Dev.o_setO_other _ _ (by decide))
    simp [Dev.chopCurrentOk, hr, hon, hlow]
  · rw [Dev.settle_link, hkeeps]
    rfl
  · rw [Dev.settle_link, Dev.chopRefresh_eq]
    exact hoff.trans hasked
  · rw [Dev.o_settle _ (by decide), Dev.chopRefresh_eq, Dev.showTier, Dev.o_setO_other _ _ (by decide), hstate, Dev.chopShown, hfaulty]
    rfl
  · have hraised : d1.chopReported.raised 0x80 := by rw [hreport]; exact Dev.raised_raise (by simp) _ _ _
    rw [Dev.raised_settle_iff, Dev.chopRefresh_eq]
    exact hdrive.raised hraised
  · have hforce : d1.chopReported.inForce 0x6270 .lnk := by rw [hreport]; exact Dev.inForce_raise_on _ _ _ (by decide) (by decide)
    rw [Dev.inForce_settle_iff, Dev.chopRefresh_eq]
    exact (Dev.stops_driveChopper d1.chopReported).inForce hforce
  · rw [Dev.o_settle _ (by decide), hobj.same _ (by decide) (by decide)]
    exact Dev.o_setO_same ..
  · exact frame_raises.settle (frame_raises.trans (frame_raises.trans (frame_raises.setO (frame_raises.refl _) _ _) (raises_updLink _ _)) hraises)
  · refine (OnlyObjects.trans (b := d1) ?_ (hobj.mono fun k h => ?_)).settle
    · simp [d1, onlyObjects_iff, Dev.updLink]
    · simp only [Bool.or_eq_true] at h ⊢
      tauto

theorem chopperTestPulse_completes (hmiss : s.dev.link.missing = true) (htrip : s.dev.ocTrips.contains 5 = false)
    (hlat : ((s.dev.groupChannels 8).any (fun n => s.dev.latched n) = false)) (hlow : 4000 ≤ vdc) (hcur : 250 * vdc ≤ i * s.dev.n Obj.CHOP_R) :
    Completes (.chopperTestPulse i vdc) s (fun e => e.link.missing = false ∧ e.o Obj.VDC = vdc ∧ s.dev.RaisesOnly e ∧ OnlyObjects (fun k => k == Obj.VDC || k == Obj.OV_TIER || k == Obj.CHOP_STATE || isReaction k) s.dev e) := by
  let d1 := (s.dev.setO Obj.VDC vdc).updLink (fun l => { l with missing := false })
  obtain ⟨hraises, hkeeps, hobj⟩ := d1.chopRefresh_frame
  refine completes_live_eq d1.chopRefresh rfl halive ?_ ⟨?_, ?_, ?_, ?_⟩
  · refine if_pos ?_
    have hr : (s.dev.setO Obj.VDC vdc).n Obj.CHOP_R = s.dev.n Obj.CHOP_R := Dev.n_eq (Dev.o_setO_other _ _ (by decide))
    have hlat' : ((s.dev.setO Obj.VDC vdc).groupChannels 8).any (fun n => (s.dev.setO Obj.VDC vdc).latched n) = false := by
      simp only [latched_setO (d := s.dev) (k := Obj.VDC) (by decide)]
      exact hlat
    rw [hlat']
    simp only [Dev.chopCurrentOk, hr, Dev.setO_link, Dev.setO_ocTrips, hmiss, htrip, hlow, hcur]
    decide
  · rw [Dev.settle_link, hkeeps]
    rfl
  · rw [Dev.o_settle _ (by decide), hobj.same _ (by decide) (by decide)]
    exact Dev.o_setO_same ..
  · exact frame_raises.settle (frame_raises.trans (frame_raises.trans (frame_raises.setO (frame_raises.refl _) _ _) (raises_updLink _ _)) hraises)
  · refine (OnlyObjects.trans (b := d1) ?_ (hobj.mono fun k h => ?_)).settle
    · simp [d1, onlyObjects_iff, Dev.updLink]
    · simp only [Bool.or_eq_true] at h ⊢
      tauto

end

/-! ### The tiers -/

/-- A Domain-stop fault of a traction domain writes RUN beside the report (R151, R513). -/
theorem onlyObjects_raise_trac (d : Dev) (m : Mach) {code : Nat} (lasting : Bool) (src : FaultSrc) (hclass : faultClass code = 2)
    (hdom : codeDomain (faultDomain code) = mdom m) : OnlyObjects (fun k => isReport k || k == tk m Obj.RUN_4240) d (d.raise code lasting src) := by
  obtain ⟨b, ⟨-, hobj⟩, hcases⟩ := d.raiseWith_stop (mdom m) src lasting false hclass
  have hobj' : OnlyObjects (fun k => isReport k || k == tk m Obj.RUN_4240) d b := hobj.mono fun k h => by rw [h, Bool.true_or]
  rw [Dev.raise, hdom]
  obtain h | h := hcases <;> rw [h]
  · exact hobj'
  · cases m <;> exact onlyObjects_updTrac (hobj'.setO _ _ (by decide)) _ _

/-- The state of tier 3 up to its faults: both bridges in ASC, with the event (R207). -/
def Dev.tier3Asc (d : Dev) (vdc : Nat) : Dev := ((({ d.setO Obj.VDC vdc with tier3 := true } : Dev).ascEnter .A 3).ascEnter .B 3).event 0x83

/-- The faults of tier 3. -/
def Dev.tier3Faults (d : Dev) : Dev := (d.raise 0x1456 true { ini := 0x35, acc := 5 }).raise 0x2456 true { ini := 0x35, acc := 5 }

theorem Dev.tier3Asc_bridge (d : Dev) (vdc : Nat) (m : Mach) : 3 ≤ (d.tier3Asc vdc).o (tk m Obj.BRIDGE_STATE) := by
  unfold Dev.tier3Asc
  generalize ({ d.setO Obj.VDC vdc with tier3 := true } : Dev) = x
  rw [Dev.o_event _ _ (by cases m <;> decide)]
  cases m
  · rw [(onlyObjects_ascEnter _ .B 3).same _ (by decide) (by decide), Dev.o_ascEnter_state]
    exact_mod_cast x.ascState_ge .A
  · rw [Dev.o_ascEnter_state]
    exact_mod_cast Dev.ascState_ge _ .B

theorem Dev.tier3Asc_frame (d : Dev) (vdc : Nat) : ({ d with tier3 := true } : Dev).StopsOnly (d.tier3Asc vdc) ∧ (d.tier3Asc vdc).raised 0x83 ∧
    (d.tier3Asc vdc).o Obj.VDC = vdc ∧ OnlyObjects (fun k => k == Obj.VDC || isReaction k) d (d.tier3Asc vdc) := by
  unfold Dev.tier3Asc
  have hstart : ({ d with tier3 := true } : Dev).StopsOnly { d.setO Obj.VDC vdc with tier3 := true } := by simp [Dev.stopsOnly_iff, Dev.unstopped]
  have hvdc : ({ d.setO Obj.VDC vdc with tier3 := true } : Dev).o Obj.VDC = vdc := Dev.o_setO_same ..
  have hobj : OnlyObjects (fun k => k == Obj.VDC || isReaction k) d { d.setO Obj.VDC vdc with tier3 := true } := by simp [onlyObjects_iff]
  generalize ({ d.setO Obj.VDC vdc with tier3 := true } : Dev) = x at *
  refine ⟨((hstart.trans (x.stops_ascEnter .A 3)).trans (Dev.stops_ascEnter _ .B 3)).trans (Dev.stops_event _ _), by simp, ?_, ?_⟩
  · rw [Dev.o_event _ _ (by decide), (onlyObjects_ascEnter _ .B 3).same _ (by decide) (by decide), (onlyObjects_ascEnter _ .A 3).same _ (by decide) (by decide), hvdc]
  · have hmono (m : Mach) (y : Dev) : OnlyObjects (fun k => k == Obj.VDC || isReaction k) y (y.ascEnter m 3) := (quiet_ascEnter y m 3).mono fun k h => by rw [h, Bool.or_true]
    exact ((hobj.trans (hmono .A _)).trans (hmono .B _)).event _ fun k h => by rw [isReaction_trace h, Bool.or_true]

theorem Dev.tier3Faults_frame (d : Dev) : d.RaisesOnly d.tier3Faults ∧ d.tier3Faults.inForce 0x1456 .tra ∧ d.tier3Faults.inForce 0x2456 .trb ∧
    OnlyObjects (fun k => isReport k || k == tk .A Obj.RUN_4240 || k == tk .B Obj.RUN_4240) d d.tier3Faults := by
  refine ⟨frame_raises.raise (frame_raises.raise (frame_raises.refl d) _ _ _) _ _ _, ?_, Dev.inForce_raise_on _ _ _ (by decide) (by decide), ?_⟩
  · exact Dev.inForce_keeps_raise (Dev.inForce_raise_on _ _ _ (by decide) (by decide)) _ _ _
  · refine ((onlyObjects_raise_trac d .A _ _ (by decide) (by decide)).mono fun k h => ?_).trans
      ((onlyObjects_raise_trac _ .B _ _ (by decide) (by decide)).mono fun k h => ?_)
    all_goals
      simp only [Bool.or_eq_true] at h ⊢
      tauto

theorem overVoltage_asc (s : State) (vdc : Nat) (halive : s.dev.alive = true) (h3 : s.dev.tier3 = false) (h4 : s.dev.tier4 = false)
    (hhigh : 1080 * s.dev.n Obj.VDC_MAX ≤ 100 * vdc) :
    Completes (.lnkOvAsc vdc) s (fun e => e.tier3 = true ∧ e.raised 0x83 ∧ e.inForce 0x1456 .tra ∧ e.inForce 0x2456 .trb ∧ 3 ≤ e.o Obj.BRIDGE_STATE ∧ 3 ≤ e.o (tk .B Obj.BRIDGE_STATE) ∧
      e.o Obj.OV_TIER = 3 ∧ e.o Obj.VDC = vdc ∧ ({ s.dev with tier3 := e.tier3 } : Dev).RaisesOnly e ∧ OnlyObjects (fun k => k == Obj.VDC || k == Obj.OV_TIER || isReaction k) s.dev e) := by
  obtain ⟨hstops, hraised, hvdc, hobj⟩ := s.dev.tier3Asc_frame vdc
  have hbridge := s.dev.tier3Asc_bridge vdc
  have hmax : (s.dev.setO Obj.VDC vdc).n Obj.VDC_MAX = s.dev.n Obj.VDC_MAX := Dev.n_eq (Dev.o_setO_other _ _ (by decide))
  refine completes_live_eq ((s.dev.tier3Asc vdc).tier3Faults.showTier) rfl halive ?_ ?_
  · refine if_neg ?_
    simp [hmax, h3, hhigh]
  · generalize s.dev.tier3Asc vdc = x at *
    obtain ⟨hraises, htra, htrb, hfaults⟩ := x.tier3Faults_frame
    have ht : x.tier3Faults.tier3 = true ∧ x.tier3Faults.tier4 = false := by
      obtain ⟨c, hstop⟩ := hraises
      exact ⟨hstop.tier3.trans hstops.tier3, hstop.tier4.trans (hstops.tier4.trans h4)⟩
    generalize x.tier3Faults = y at *
    have htier : y.showTier = y.setO Obj.OV_TIER 3 := by simp [Dev.showTier, ht]
    rw [htier]
    refine ⟨by simp [ht], by simpa using hraises.raised hraised, by simpa [Dev.inForce] using htra, by simpa [Dev.inForce] using htrb, ?_, ?_, by simp +decide [Dev.o_eq], ?_, ?_, ?_⟩
    · rw [Dev.o_settle _ (by decide), Dev.o_setO_other _ _ (by decide), hfaults.same _ (by decide) (by decide)]
      exact hbridge .A
    · rw [Dev.o_settle _ (by decide), Dev.o_setO_other _ _ (by decide), hfaults.same _ (by decide) (by decide)]
      exact hbridge .B
    · rw [Dev.o_settle _ (by decide), Dev.o_setO_other _ _ (by decide), hfaults.same _ (by decide) (by decide), hvdc]
    · simp only [Dev.settle_tier3, Dev.setO_tier3, ht]
      exact frame_raises.settle (frame_raises.setO (frame_raises.trans hstops.raises hraises) _ _)
    · refine ((OnlyObjects.trans (hobj.mono fun k h => ?_) (hfaults.mono fun k h => ?_)).setO _ _ (by decide)).settle
      · simp only [Bool.or_eq_true] at h ⊢
        tauto
      · simp only [Bool.or_eq_true, beq_iff_eq] at h ⊢
        obtain (h | rfl) | rfl := h
        · exact .inr (isReport_reaction h)
        · exact .inr (by decide)
        · exact .inr (by decide)

/-- The state of tier 4 up to its fault: both bridges in ASC, grid port and converters off, the contactors asked to open (R207). -/
def Dev.tier4Asc (d : Dev) : Dev :=
  ((({ ((({ d with tier4 := true } : Dev).ascEnter .A 4).ascEnter .B 4).gridOff 0 0 with openRequest := true } : Dev).dabOff .dca 7).dabOff .dcb 7).event 0x84

theorem Dev.tier4Asc_bridge (d : Dev) (m : Mach) : 3 ≤ d.tier4Asc.o (tk m Obj.BRIDGE_STATE) := by
  unfold Dev.tier4Asc
  generalize ({ d with tier4 := true } : Dev) = x
  rw [Dev.o_event _ _ (by cases m <;> decide), (onlyObjects_dabOff _ .dcb 7).same _ (by cases m <;> decide) (by cases m <;> decide),
    (onlyObjects_dabOff _ .dca 7).same _ (by cases m <;> decide) (by cases m <;> decide), Dev.o_upd_openRequest,
    (onlyObjects_gridOff _ 0 0).same _ (by cases m <;> decide) (by cases m <;> decide)]
  cases m
  · rw [(onlyObjects_ascEnter _ .B 4).same _ (by decide) (by decide), Dev.o_ascEnter_state]
    exact_mod_cast x.ascState_ge .A
  · rw [Dev.o_ascEnter_state]
    exact_mod_cast Dev.ascState_ge _ .B

/-- Turning a converter off asks for no contactor. -/
theorem Dev.dabOff_openRequest (d : Dev) (c : Conv) (st : Nat) : (d.dabOff c st).openRequest = d.openRequest := by
  have frame := frame_outside fun x => { x with loops := [], dabs := [] }
  have hloops (d : Dev) : Dev.Outside (fun x => { x with loops := [], dabs := [] }) d (d.enableLoops (dabLoops c) false) :=
    frame.foldl (frame.refl d) _ fun d L => frame.setB (d := { d with loops := _ }) (Dev.outside_of_eq rfl rfl) _ _
  have hsets := frame.setO (frame.setO (frame.setO (frame.setO (frame.refl d) (ck c Obj.STATE_5400) st) (ck c Obj.PHI) 0) (ck c Obj.I_LIMIT_5400) 0) (ck c Obj.LIMIT_SRC_5400) 0
  exact (congrArg Dev.openRequest (frame.trans hsets (hloops _)).1 :)

theorem Dev.tier4Asc_frame (d : Dev) : ({ d with tier4 := true } : Dev).StopsOnly d.tier4Asc ∧ d.tier4Asc.raised 0x84 ∧ d.tier4Asc.openRequest = true ∧
    OnlyObjects (fun k => isReaction k) d d.tier4Asc := by
  unfold Dev.tier4Asc
  have hobj : OnlyObjects isReaction d { d with tier4 := true } := (OnlyObjects.refl d).of_obj rfl
  generalize ({ d with tier4 := true } : Dev) = x at *
  have hasc := ((x.stops_ascEnter .A 4).trans (Dev.stops_ascEnter _ .B 4)).trans (Dev.stops_gridOff _ 0 0)
  have hascobj := ((hobj.trans (quiet_ascEnter x .A 4)).trans (quiet_ascEnter _ .B 4)).trans (quiet_gridOff _ 0 0)
  generalize ((x.ascEnter .A 4).ascEnter .B 4).gridOff 0 0 = y at *
  have hopen : y.StopsOnly { y with openRequest := true } := by simp [Dev.stopsOnly_iff, Dev.unstopped]
  have hopen' : ({ y with openRequest := true } : Dev).openRequest = true := rfl
  have hopenobj : OnlyObjects isReaction y { y with openRequest := true } := (OnlyObjects.refl y).of_obj rfl
  generalize ({ y with openRequest := true } : Dev) = z at *
  have hkeeps : ((z.dabOff .dca 7).dabOff .dcb 7).openRequest = true := by rw [Dev.dabOff_openRequest, Dev.dabOff_openRequest, hopen']
  refine ⟨(((hasc.trans hopen).trans (z.stops_dabOff .dca 7)).trans (Dev.stops_dabOff _ .dcb 7)).trans (Dev.stops_event _ _), by simp, ?_, ?_⟩
  · rw [Dev.event_openRequest, hkeeps]
  · exact ((((hascobj.trans hopenobj).trans (quiet_dabOff z .dca 7)).trans (quiet_dabOff _ .dcb 7))).event _ fun k h => isReaction_trace h

/-- The fault of tier 4 leaves both bridges in ASC and the contactors asked to open, whether it is new or in force already. -/
theorem Dev.tier4Fault (d : Dev) (hbridge : ∀ m, 3 ≤ d.o (tk m Obj.BRIDGE_STATE)) (hopen : d.openRequest = true) :
    (∀ m, 3 ≤ (d.raise 0x6674 true { ini := 0x35, acc := 5 }).o (tk m Obj.BRIDGE_STATE)) ∧ (d.raise 0x6674 true { ini := 0x35, acc := 5 }).openRequest = true := by
  obtain ⟨b, hb, heq | ⟨first, heq⟩⟩ := d.raiseWith_cases .lnk { ini := 0x35, acc := 5 } true false (code := 0x6674) (by decide)
  · rw [Dev.raise, show codeDomain (faultDomain 0x6674) = .lnk from by decide, heq]
    exact ⟨fun m => by rw [hb.obj.same _ (by cases m <;> decide) (by cases m <;> decide)]; exact hbridge m, hb.rest.openRequest.trans hopen⟩
  · rw [Dev.raise, show codeDomain (faultDomain 0x6674) = .lnk from by decide, heq, Dev.react_safe _ _ _ (by decide)]
    have hsafe := safeStateAll_safe b
    generalize safeStateAll b = e at hsafe ⊢
    have hasc (e : Dev) (h : b.Safe e) (m : Mach) : 3 ≤ e.o (tk m Obj.BRIDGE_STATE) := by
      rw [h.bridge]
      exact_mod_cast b.ascState_ge m
    unfold Dev.when
    split
    · exact ⟨hasc _ (hsafe.of_event 0x06), (hsafe.of_event 0x06).opens⟩
    · exact ⟨hasc e hsafe, hsafe.opens⟩

theorem tier4_completes (s : State) (halive : s.dev.alive = true) (h4 : s.dev.tier4 = false) :
    Completes (.ovTier4) s (fun e => e.tier4 = true ∧ e.openRequest = true ∧ e.raised 0x84 ∧ e.inForce 0x6674 .lnk ∧ 3 ≤ e.o Obj.BRIDGE_STATE ∧ 3 ≤ e.o (tk .B Obj.BRIDGE_STATE) ∧
      e.o Obj.OV_TIER = 4 ∧ ({ s.dev with tier4 := e.tier4 } : Dev).RaisesOnly e ∧ OnlyObjects (fun k => k == Obj.OV_TIER || isReaction k) s.dev e) := by
  obtain ⟨hstops, hraised, hopen, hobj⟩ := s.dev.tier4Asc_frame
  have hbridge := s.dev.tier4Asc_bridge
  refine completes_live_eq (s.dev.tier4Asc.raise 0x6674 true { ini := 0x35, acc := 5 }).showTier rfl halive (if_neg (by simp [h4])) ?_
  generalize s.dev.tier4Asc = x at *
  have hraises := x.raises_raise 0x6674 true { ini := 0x35, acc := 5 }
  have hforce : (x.raise 0x6674 true { ini := 0x35, acc := 5 }).inForce 0x6674 .lnk := Dev.inForce_raise_on _ _ _ (by decide) (by decide)
  have hobj' : OnlyObjects (fun k => isReaction k) s.dev (x.raise 0x6674 true { ini := 0x35, acc := 5 }) := hobj.raise _ _ _ fun _ h => h
  obtain ⟨hasc, hopen'⟩ := x.tier4Fault hbridge hopen
  generalize x.raise 0x6674 true { ini := 0x35, acc := 5 } = y at *
  have ht : y.tier4 = true := by
    obtain ⟨c, hstop⟩ := hraises
    exact hstop.tier4.trans hstops.tier4
  have htier : y.showTier = y.setO Obj.OV_TIER 4 := by simp [Dev.showTier, ht]
  rw [htier]
  refine ⟨by simp [ht], by simp [hopen'], by simpa using hraises.raised hraised, by simpa [Dev.inForce] using hforce, ?_, ?_, by simp +decide [Dev.o_eq], ?_, ?_⟩
  · rw [Dev.o_settle _ (by decide), Dev.o_setO_other _ _ (by decide)]
    exact hasc .A
  · rw [Dev.o_settle _ (by decide), Dev.o_setO_other _ _ (by decide)]
    exact hasc .B
  · simp only [Dev.settle_tier4, Dev.setO_tier4, ht]
    exact frame_raises.settle (frame_raises.setO (frame_raises.trans hstops.raises hraises) _ _)
  · exact ((hobj'.mono fun k h => by rw [h, Bool.or_true]).setO _ _ (by decide)).settle

theorem tier4Release_completes (s : State) (halive : s.dev.alive = true) :
    Completes (.ovTier4Release) s (fun e => e.tier4 = false ∧ (∀ f ∈ e.coll.active, f.code = 0x6674 → f.cause = false) ∧ ({ s.dev with tier4 := e.tier4, coll := e.coll } : Dev).ShowsOnly e ∧ OnlyObjects (fun k => k == Obj.OV_TIER) s.dev e) := by
  refine completes_live_eq (({ s.dev with tier4 := false } : Dev).causeGone 0x6674).showTier rfl halive rfl ⟨?_, ?_, ?_, ?_⟩
  · simp [Dev.showTier, Dev.causeGone]
  · intro f hf hcode
    exact Dev.causeGone_cause { s.dev with tier4 := false } 0x6674 f (by simpa [Dev.showTier] using hf) hcode
  · simp +contextual [Dev.showsOnly_iff, Dev.showTier, Dev.causeGone, Dev.unshown]
  · simp [onlyObjects_iff, Dev.showTier]

/-- Settles O22: the chopper's drive follows what asks for it, its current decides whether it is faulty, and the tiers put both bridges in ASC. -/
theorem chopperAndOverVoltage : Obligations.ChopperAndOverVoltage :=
  ⟨chopperOn_completes, chopperOff_completes, chopperCurrent_missing, chopperTestPulse_completes, overVoltage_asc, tier4_completes, tier4Release_completes⟩

end Sys2Proof.Machine
end

section
/-! Layer: causes that end, a start without an assignment or test to wait for, and the boundary of the grid port at rest. What the grid port takes in
(R210, R214, R218 to R220, R224, R237, O23). -/

namespace Sys2Proof.Machine

/-! ### Causes that end -/

/-- `e` is `d` but for causes that have ended (R520). -/
def Dev.EndsOnly (d e : Dev) : Prop := ∃ a : List FaultRec, e = { d with coll := { d.coll with active := a } }

theorem Dev.EndsOnly.refl (d : Dev) : d.EndsOnly d := ⟨d.coll.active, rfl⟩
theorem Dev.EndsOnly.trans {a b c : Dev} (h : a.EndsOnly b) (g : b.EndsOnly c) : a.EndsOnly c := by
  obtain ⟨x, rfl⟩ := h
  obtain ⟨y, rfl⟩ := g
  exact ⟨y, rfl⟩

theorem Dev.ends_causeGone (d : Dev) (code : Nat) : d.EndsOnly (d.causeGone code) := ⟨_, rfl⟩

theorem Dev.EndsOnly.whenGone {a d : Dev} (h : a.EndsOnly d) (c : Bool) (code : Nat) : a.EndsOnly (d.when c fun d => d.causeGone code) := by
  cases c
  · exact h
  · exact h.trans (d.ends_causeGone code)

/-! ### A start that waits for nothing (R261, R281) -/

theorem Dev.takeAssign_eq (d : Dev) (dom : Domain) : ∃ g : Tab Gate, d.takeAssign dom = { d with gates := g } := by
  unfold Dev.takeAssign
  generalize (List.range 40).map (· + 1) = l
  induction l generalizing d with
  | nil => exact ⟨d.gates, rfl⟩
  | cons n ns ih =>
    rw [List.foldl_cons]
    simp only []
    split
    · exact ih d
    · split
      · obtain ⟨g, hg⟩ := ih { d with gates := Tab.upd {} d.gates n (fun g => { g with inForce := g.committed }) }
        exact ⟨g, hg⟩
      · split
        · obtain ⟨g, hg⟩ := ih { d with gates := Tab.upd {} d.gates n (fun g => { g with inForce := d.assignment n % 8 + 1 }) }
          exact ⟨g, hg⟩
        · exact ih d

/-- With its tests behind it a domain starts at once. -/
theorem Dev.startReady_tested {d : Dev} {dom : Domain} (htest : d.testing = []) (hdone : d.tested.contains dom.num = true) :
    d.startReady dom = (d.takeAssign dom, true) := by
  obtain ⟨g, hg⟩ := d.takeAssign_eq dom
  unfold Dev.startReady
  rw [if_neg (by simp [htest]), hg]
  exact if_pos hdone

/-! ### GRD_MODE -/

section
variable (s : State) (hserve : s.dev.phase = .service)
include hserve

theorem grdMode_range (v : Int) (hv : v < 0 ∨ 2 < v) : Completes (.grdModeWrite v) s (fun e => e.result = 0x30000002 ∧ ({ s.dev with result := e.result } : Dev).ShowsOnly e ∧ OnlyObjects (fun _ => false) s.dev e) := by
  refine completes_serve_result 0x30000002 rfl hserve ?_ fun _ hres hshow hobj => ⟨hres, hshow, hobj⟩
  have hcheck : s.dev.grdModeCheck v = 0x30000002 := if_pos hv
  rw [Dev.grdModePermitted, if_neg (by omega), if_neg (by omega), Dev.grdModeWrite, hcheck]
  rfl

theorem grdMode_off : Completes (.grdModeWrite 0) s (fun e => e.result = 0 ∧ e.writes = s.dev.writes ++ [{ key := Obj.GRD_MODE, val := 0 }] ∧ ({ s.dev with writes := e.writes, result := e.result } : Dev).ShowsOnly e ∧ OnlyObjects (fun _ => false) s.dev e) :=
  completes_serve_delivered Obj.GRD_MODE 0 rfl hserve rfl fun _ hres hwr hshow hobj => ⟨hres, hwr, hshow, hobj⟩

theorem grdMode_taken (v : Int) (hv : v = 1 ∨ v = 2) (hw : s.dev.writes = []) (hmode : s.dev.o Obj.GRD_MODE ≠ 0) (hcharge : s.dev.fuseBars [2] = false)
    (hsupply : s.dev.fuseBars [3] = false) :
    Completes (.grdModeWrite v) s (fun e => e.result = 0x40000002 ∧ ({ s.dev with result := e.result } : Dev).ShowsOnly e ∧ OnlyObjects (fun _ => false) s.dev e) := by
  have hahead : s.dev.ahead = s.dev := by simp [Dev.ahead, hw]
  have hcheck : s.dev.grdModeCheck v = 0x40000002 := by
    rw [Dev.grdModeCheck, if_neg (by omega), if_neg (by omega)]
    exact if_pos (.inl (by rw [hahead]; exact hmode))
  refine completes_serve_result 0x40000002 rfl hserve ?_ fun _ hres hshow hobj => ⟨hres, hshow, hobj⟩
  have hwrite : s.dev.grdModeWrite v = s.dev.res 0x40000002 := by
    rw [Dev.grdModeWrite, hcheck]
    rfl
  obtain rfl | rfl := hv
  · exact (Dev.allowed_eq hcharge (fun d => d.grdModeWrite 1)).trans hwrite
  · exact (Dev.allowed_eq hsupply (fun d => d.grdModeWrite 2)).trans hwrite

theorem meterLog_completes : Completes (.meterLog) s (fun e => e.grid = { s.dev.grid with logImport := s.dev.n Obj.E_IMPORT, logExport := s.dev.n Obj.E_EXPORT, logWall := s.dev.wall, maxP := (s.dev.o Obj.P_AC).natAbs } ∧ ({ s.dev with grid := e.grid } : Dev).ShowsOnly e ∧ OnlyObjects (fun _ => false) s.dev e) := by
  refine completes_serve_eq s.dev.meterLog rfl hserve rfl ⟨by simp [Dev.meterLog, Dev.updGrid], ?_, by simp [onlyObjects_iff, Dev.meterLog, Dev.updGrid]⟩
  simp +contextual [Dev.showsOnly_iff, Dev.meterLog, Dev.updGrid, Dev.unshown]

end

/-! ### The port turns off -/

/-- Turning the grid port off writes its hidden state, the loops and its objects. -/
theorem Dev.gridOff_frame (d : Dev) (st step : Nat) : ({ d with grid := (d.gridOff st step).grid, loops := (d.gridOff st step).loops } : Dev).ShowsOnly (d.gridOff st step) ∧
    (d.gridOff st step).grid.step = step ∧ (d.gridOff st step).grid.island = false := by
  have frame := frame_outside fun x => { x with loops := [], grid := {} }
  have hloops (d : Dev) : Dev.Outside (fun x => { x with loops := [], grid := {} }) d (d.enableLoops gridLoops false) :=
    frame.foldl (frame.refl d) _ fun d L => frame.setB (d := { d with loops := _ }) (Dev.outside_of_eq rfl rfl) _ _
  have hsets := frame.setO (frame.setO (frame.setO (frame.setO (frame.refl d) Obj.STATE_5000 st) Obj.S2 0) Obj.I_LIMIT_5000 0) Obj.LIMIT_SRC_5000 0
  obtain ⟨heq, hevq⟩ := frame.trans hsets (hloops _)
  refine ⟨Dev.showsOnly_iff.mpr ⟨?_, hevq⟩, rfl, rfl⟩
  exact congrArg (fun x : Dev => { x with grid := (d.gridOff st step).grid, loops := (d.gridOff st step).loops }) heq

/-! ### Pilot and proximity -/

theorem pilotState_le (pos neg : Int) (freq : Nat) : pilotState pos neg freq false ≤ 7 := by
  unfold pilotState pilotLevel
  simp only [Bool.false_eq_true, if_false]
  repeat' split
  all_goals omega

/-- A pilot that finds no charge ends causes at most (R225). -/
theorem Dev.pilotActs_idle {d : Dev} (hstep : d.grid.step = 0) : d.EndsOnly d.pilotActs := by
  unfold Dev.pilotActs
  simp only []
  split
  · rw [Dev.chargeFault, if_pos (.inr (.inr (by omega)))]
    exact .refl d
  · have hidle : (d.causeGone 0x3483).grid.island = true ∨ (d.causeGone 0x3483).b Obj.CHARGE_SOURCE = true ∨ (d.causeGone 0x3483).grid.step < 2 :=
      .inr (.inr (by simp [Dev.causeGone, hstep]))
    rw [if_pos hidle]
    exact d.ends_causeGone _

theorem Dev.gridWrites_nil {d : Dev} (hw : d.writes = []) : d.gridWrites = d := by
  have happly : d.applyWrites d.gridOwns = d := by
    rw [Dev.applyWrites, hw]
    exact congrArg (fun w => ({ d with writes := w } : Dev)) hw.symm
  simp [Dev.gridWrites, hw, happly]

/-- Whether CHARGE runs or is to run at a boundary. -/
def Dev.charging (d : Dev) : Bool := !d.grid.island && (d.o Obj.GRD_MODE == 1 || d.grid.step == 5)

/-- What the port does at a boundary with the readings taken (R213). -/
def Dev.portActs (d : Dev) (i : GridIn) (dt : Nat) (charging : Bool) : Dev :=
  if d.grid.island then d.islandBoundary i dt
  else if charging then d.charge i dt
  else d.when (d.o Obj.GRD_MODE == 2 && d.grid.step == 0 && !(d.startBlocked .grd)) (fun d => d.gridWaits)

/-- A boundary without waiting writes: the gates' times, the PLL, the readings, the causes and the port in its mode (R213). -/
theorem Dev.gridBoundary_eq {d : Dev} (hw : d.writes = []) (i : GridIn) : d.gridBoundary i =
    ((((d.gateSet 3).when (d.gateSet 3).charging fun d => d.pll i).gridMeasure i (d.wall - d.grid.last)).gridCauses i).portActs i (d.wall - d.grid.last)
      (d.gateSet 3).charging := by
  unfold Dev.gridBoundary
  rw [Dev.gridWrites_nil hw]
  rfl

theorem Dev.gridCauses_ends (d : Dev) (i : GridIn) : d.EndsOnly (d.gridCauses i) :=
  Dev.EndsOnly.whenGone (.whenGone (.whenGone (.whenGone (.whenGone (.refl d) _ _) _ _) _ _) _ _) _ _

section
variable (s : State) (halive : s.dev.alive = true)
include halive

theorem pilotState_taken (pos neg : Int) (freq duty st : Nat) (hst : pilotState pos neg freq false = st) (hpilot : s.dev.grid.pilot = st)
    (hruns : 2 ≤ s.dev.grid.pilotRuns) (hnew : s.dev.n Obj.CP_STATE ≠ st) (hins : s.dev.grid.inserted = true) (hstep : s.dev.grid.step = 0)
    (hduty : s.dev.grid.duty + 5 < min duty 1000) :
    Completes (.pilotReading pos neg freq duty false) s (fun e => e.o Obj.CP_STATE = st ∧ e.o Obj.CP_DUTY = min duty 1000 ∧ e.raised 0x62 ∧ e.coll = { s.dev.coll with active := e.coll.active } ∧ ({ s.dev with grid := e.grid, coll := e.coll } : Dev).ShowsOnly e ∧ OnlyObjects (fun k => k == Obj.CP_STATE || k == Obj.CP_DUTY || isTraceCount k) s.dev e) := by
  have hnear : (decide (min duty 1000 ≤ s.dev.grid.duty + 5) && decide (s.dev.grid.duty ≤ min duty 1000 + 5)) = false := by
    rw [decide_eq_false (by omega), Bool.false_and]
  let d1 := (s.dev.setO Obj.CP_DUTY (min duty 1000 : Nat)).updGrid (fun g => { g with pilot := st, pilotRuns := 3, duty := min duty 1000, dutyRuns := 1 })
  have hstate : d1.n Obj.CP_STATE ≠ st := by rwa [Dev.n_eq (show d1.o Obj.CP_STATE = s.dev.o Obj.CP_STATE from Dev.o_setO_other _ _ (by decide))]
  have hread : s.dev.pilotReading pos neg freq duty false = ((d1.setO Obj.CP_STATE st).event 0x62).pilotActs := by
    have hruns' : min 3 (s.dev.grid.pilotRuns + 1) = 3 := by omega
    have hset : d1.setPilot st = ((d1.setO Obj.CP_STATE st).event 0x62).pilotActs := if_neg hstate
    rw [← hset]
    unfold Dev.pilotReading
    simp only [hst, hpilot, Bool.false_eq_true, if_false, hnear, if_true, hruns']
    exact if_pos ⟨trivial, hins⟩
  obtain ⟨a, ha⟩ := Dev.pilotActs_idle (d := (d1.setO Obj.CP_STATE st).event 0x62) (by simpa [d1, Dev.updGrid] using hstep)
  refine completes_live_eq _ rfl halive (hread.trans ha) ⟨?_, ?_, ?_, ?_, ?_, ?_⟩
  · simp +decide [Dev.o_eq]
  · simp +decide [Dev.o_eq, d1, Dev.updGrid]
  · simp [Dev.raised, d1, Dev.updGrid, mem_insertOnce]
  · simp [d1, Dev.updGrid]
  · simp +contextual [Dev.showsOnly_iff, Dev.unshown, d1, Dev.updGrid, mem_insertOnce]
  · simp +contextual [onlyObjects_iff, d1, Dev.updGrid]

theorem pilotCurrent_taken (pos neg : Int) (freq duty : Nat) (hpilot : s.dev.grid.pilot ≠ pilotState pos neg freq false) (hruns : s.dev.grid.dutyRuns = 2)
    (hduty : s.dev.grid.duty = duty) (hlow : 80 ≤ duty) (hhigh : duty ≤ 1000) (hnew : s.dev.n Obj.CP_CURRENT ≠ pilotCurrent duty)
    (_hstate : s.dev.n Obj.CP_STATE < 4) (hstep : s.dev.grid.step = 0) :
    Completes (.pilotReading pos neg freq duty false) s (fun e => e.o Obj.CP_CURRENT = pilotCurrent duty ∧ e.o Obj.CP_DUTY = duty ∧ e.raised 0x63 ∧ e.coll = { s.dev.coll with active := e.coll.active } ∧ ({ s.dev with grid := e.grid, coll := e.coll } : Dev).ShowsOnly e ∧ OnlyObjects (fun k => k == Obj.CP_CURRENT || k == Obj.CP_DUTY || isTraceCount k) s.dev e) := by
  have hmin : min duty 1000 = duty := by omega
  have hnear : (decide (duty ≤ s.dev.grid.duty + 5) && decide (s.dev.grid.duty ≤ duty + 5)) = true := by simp [hduty]
  let d1 := (s.dev.setO Obj.CP_DUTY duty).updGrid (fun g => { g with pilot := pilotState pos neg freq false, pilotRuns := 1, duty := g.duty, dutyRuns := 3 })
  have hcurrent : d1.n Obj.CP_CURRENT ≠ pilotCurrent duty := by rwa [Dev.n_eq (show d1.o Obj.CP_CURRENT = s.dev.o Obj.CP_CURRENT from Dev.o_setO_other _ _ (by decide))]
  have hread : s.dev.pilotReading pos neg freq duty false = ((d1.setO Obj.CP_CURRENT (pilotCurrent duty)).event 0x63).pilotActs := by
    unfold Dev.pilotReading
    simp only [if_neg (Ne.symm hpilot), Bool.false_eq_true, if_false, hmin, hnear, if_true, hruns]
    rw [if_neg fun h => absurd h.1 (by decide)]
    have hcond : (min 4 (2 + 1) = 3 ∧ d1.n Obj.CP_CURRENT ≠ pilotCurrent duty) := ⟨rfl, hcurrent⟩
    have hnot : (min 4 (2 + 1) == 3 && decide (30 ≤ duty) && decide (duty < 70)) = false := by
      rw [decide_eq_false (show ¬ duty < 70 by omega), Bool.and_false]
    rw [hnot]
    exact if_pos hcond
  obtain ⟨a, ha⟩ := Dev.pilotActs_idle (d := (d1.setO Obj.CP_CURRENT (pilotCurrent duty)).event 0x63) (by simpa [d1, Dev.updGrid] using hstep)
  refine completes_live_eq _ rfl halive (hread.trans ha) ⟨?_, ?_, ?_, ?_, ?_, ?_⟩
  · simp +decide [Dev.o_eq]
  · simp +decide [Dev.o_eq, d1, Dev.updGrid]
  · simp [Dev.raised, d1, Dev.updGrid, mem_insertOnce]
  · simp [d1, Dev.updGrid]
  · simp +contextual [Dev.showsOnly_iff, Dev.unshown, d1, Dev.updGrid, mem_insertOnce]
  · simp +contextual [onlyObjects_iff, d1, Dev.updGrid]

theorem proximity_taken (ohm c : Nat) (hc : proximityClass ohm = c) (hlast : proximityClass s.dev.grid.prox = c) (hsome : c ≠ 256)
    (hruns : 2 ≤ s.dev.grid.proxRuns) (hisl : s.dev.grid.island = false) :
    Completes (.proximitySample ohm) s (fun e => e.o Obj.PP_OHM = (min ohm 65535 : Nat) ∧ e.o Obj.CABLE_CURRENT = c ∧ e.grid.inserted = true ∧ ({ s.dev with grid := e.grid } : Dev).ShowsOnly e ∧ OnlyObjects (fun k => k == Obj.PP_OHM || k == Obj.CABLE_CURRENT) s.dev e) := by
  have hruns' : min 3 (s.dev.grid.proxRuns + 1) = 3 := by omega
  have hins : (c != 256) = true := by simpa using hsome
  let d1 := ((s.dev.setO Obj.PP_OHM (min ohm 65535 : Nat)).updGrid (fun g => { g with prox := min ohm 65535, proxRuns := 3 }))
  let d2 := (d1.setO Obj.CABLE_CURRENT c).updGrid (fun g => { g with inserted := true })
  have hforeign : d2.foreignSource = d2 := if_neg (by simp [d1, d2, Dev.updGrid, hisl])
  have hsample : s.dev.proximitySample ohm = d2 := by
    unfold Dev.proximitySample
    simp only [hc, hlast, if_true, hruns', hins]
    rw [if_neg (by decide), if_neg fun h => absurd h.1 (by decide)]
    exact ite_eq_right_iff.mpr fun _ => hforeign
  refine completes_live_eq d2 rfl halive hsample ⟨?_, ?_, ?_, ?_, ?_⟩
  · simp +decide [Dev.o_eq, d1, d2, Dev.updGrid]
  · simp +decide [Dev.o_eq, d1, d2, Dev.updGrid]
  · simp [d2, Dev.updGrid]
  · simp +contextual [Dev.showsOnly_iff, Dev.unshown, d1, d2, Dev.updGrid, Dev.setO]
  · simp +contextual [onlyObjects_iff, d1, d2, Dev.updGrid]

/-! ### The start at a station -/

theorem s2Close_completes (hmode : s.dev.o Obj.GRD_MODE = 1) (hsite : s.dev.b Obj.CHARGE_SOURCE = false) (hstep : s.dev.grid.step = 1)
    (hins : s.dev.grid.inserted = true) (hcable : s.dev.o Obj.CABLE_CURRENT ≠ 0) (hcp : s.dev.o Obj.CP_STATE = 2) (hcur : 60 ≤ s.dev.o Obj.CP_CURRENT)
    (hmain : s.dev.anyMain = true) (hvdc : 6500 ≤ s.dev.o Obj.VDC) (hstart : s.dev.startBlocked .grd = false) (hgates : s.dev.gatesFree .grd = true)
    (htest : s.dev.testing = []) (hdone : s.dev.tested.contains Domain.grd.num = true) :
    Completes (.s2Close) s (fun e => e.o Obj.S2 = 1 ∧ e.grid.step = 2 ∧ ({ s.dev with grid := e.grid, gates := e.gates } : Dev).ShowsOnly e ∧ OnlyObjects (fun k => k == Obj.S2) s.dev e) := by
  obtain ⟨g, hg⟩ := s.dev.takeAssign_eq .grd
  refine completes_live_eq ((({ s.dev with gates := g } : Dev).setO Obj.S2 1).updGrid (fun g => { g with step := 2 })) rfl halive ?_ ⟨?_, ?_, ?_, ?_⟩
  · refine (if_pos (by simp [hmode, hsite, hstep, hins, hcable, hcp, hcur, hmain, hvdc, hstart, hgates])).trans ?_
    simp only [Dev.startReady_tested htest hdone, hg]
    rfl
  · simp +decide [Dev.o_eq, Dev.updGrid]
  · simp [Dev.updGrid]
  · simp +contextual [Dev.showsOnly_iff, Dev.unshown, Dev.updGrid, Dev.setO]
  · simp +contextual [onlyObjects_iff, Dev.updGrid]

theorem lineVoltage_timeout (hstep : s.dev.grid.step = 2) (hsite : s.dev.b Obj.CHARGE_SOURCE = false) (hcp : s.dev.o Obj.CP_STATE = 3) (hmode : s.dev.o Obj.GRD_MODE = 1) :
    Completes (.lineVoltageWaitTimeout) s (fun e => e.o Obj.STATE_5000 = 1 ∧ e.o Obj.S2 = 0 ∧ e.grid.step = 1 ∧ ({ s.dev with grid := e.grid, loops := e.loops } : Dev).ShowsOnly e ∧ OnlyObjects (fun k => isReaction k) s.dev e) := by
  obtain ⟨hframe, hto, -⟩ := s.dev.gridOff_frame 1 1
  obtain ⟨hstate, hs2⟩ := s.dev.o_gridOff 1 1
  have hobj := quiet_gridOff s.dev 1 1
  refine completes_live_eq (s.dev.gridOff 1 1) rfl halive (if_pos (by simp [hstep, hsite, hcp, hmode])) ⟨?_, ?_, ?_, ?_, hobj.settle⟩
  · rw [Dev.o_settle _ (by decide), hstate]
    rfl
  · rw [Dev.o_settle _ (by decide), hs2]
  · rw [Dev.settle_grid, hto]
  · rw [Dev.settle_grid, Dev.settle_loops]
    exact frame_shows.settle hframe

/-! ### A boundary at rest -/

theorem gridBoundary_idle (i : GridIn) (hlive : s.dev.dead.contains 0x22 = false) (hw : s.dev.writes = []) (hmode : s.dev.o Obj.GRD_MODE = 0)
    (hstep : s.dev.grid.step = 0) (hisl : s.dev.grid.island = false) :
    Completes (.grdBoundary i) s (fun e => e.o Obj.P_AC = i.pAc ∧ e.o Obj.V_LL = (min i.vll 65535 : Nat) ∧ e.o Obj.FREQ = i.freq ∧ e.o Obj.I_RMS = (min i.iRms 65535 : Nat) ∧ e.o Obj.UNBALANCE = (min i.unbalance 65535 : Nat) ∧
      e.o Obj.ROCOF = satI32 i.rocof ∧ e.grid.cycle = s.dev.grid.cycle + i.pAc * (s.dev.wall - s.dev.grid.last : Nat) ∧ e.coll = { s.dev.coll with active := e.coll.active } ∧
      ({ s.dev with grid := e.grid, coll := e.coll } : Dev).ShowsOnly e ∧ OnlyObjects (fun k => k == Obj.P_AC || k == Obj.I_RMS || k == Obj.V_LL || k == Obj.FREQ || k == Obj.UNBALANCE || k == Obj.ROCOF || k == Obj.SEQUENCE || k == at' Obj.DT_NOW 2 || k == at' Obj.BLANK_NOW 2) s.dev e) := by
  let x := s.dev.gateSet 3
  obtain ⟨a, ha⟩ := (x.gridMeasure i (s.dev.wall - s.dev.grid.last)).gridCauses_ends i
  let y : Dev := { x.gridMeasure i (s.dev.wall - s.dev.grid.last) with coll := { (x.gridMeasure i (s.dev.wall - s.dev.grid.last)).coll with active := a } }
  have hxmode : x.o Obj.GRD_MODE = 0 := by simp +decide [x, Dev.gateSet, Dev.o_eq] at hmode ⊢; exact hmode
  have hymode : y.o Obj.GRD_MODE = 0 := by simp +decide [y, x, Dev.gridMeasure, Dev.updGrid, Dev.gateSet, Dev.o_eq] at hmode ⊢; exact hmode
  have hcharging : x.charging = false := by simp [Dev.charging, hxmode, show x.grid.step = 0 from hstep]
  have heq : s.dev.gridBoundary i = y := by
    have hyisl : y.grid.island = false := hisl
    have hacts : y.portActs i (s.dev.wall - s.dev.grid.last) false = y := by simp [Dev.portActs, hyisl, hymode, Dev.when]
    rw [Dev.gridBoundary_eq hw, hcharging]
    exact (congrArg (fun d : Dev => d.portActs i _ false) ha).trans hacts
  refine completes_live_eq y rfl halive ((if_pos (by simpa using hlive)).trans heq) ⟨?_, ?_, ?_, ?_, ?_, ?_, ?_, ?_, ?_, ?_⟩
  · simp +decide [y, Dev.gridMeasure, Dev.updGrid, Dev.o_eq]
  · simp +decide [y, Dev.gridMeasure, Dev.updGrid, Dev.o_eq]
  · simp +decide [y, Dev.gridMeasure, Dev.updGrid, Dev.o_eq]
  · simp +decide [y, Dev.gridMeasure, Dev.updGrid, Dev.o_eq]
  · simp +decide [y, Dev.gridMeasure, Dev.updGrid, Dev.o_eq]
  · simp +decide [y, Dev.gridMeasure, Dev.updGrid, Dev.o_eq]
  · simp [y, Dev.gridMeasure, Dev.updGrid, x, Dev.gateSet]
  · simp [y, Dev.gridMeasure, Dev.updGrid, x, Dev.gateSet]
  · simp +contextual [y, Dev.gridMeasure, Dev.updGrid, x, Dev.gateSet, Dev.showsOnly_iff, Dev.unshown, Dev.setO]
  · simp +contextual [y, Dev.gridMeasure, Dev.updGrid, x, Dev.gateSet, onlyObjects_iff]

end

/-- Settles O23: the port's inputs are taken on their third equal reading, its mode and its start by their conditions, and a boundary at rest takes the
readings. -/
theorem gridInputs : Obligations.GridInputs :=
  ⟨fun s v hserve => grdMode_range s hserve v, grdMode_off, fun s v hserve => grdMode_taken s hserve v,
    fun s pos neg freq duty st halive => pilotState_taken s halive pos neg freq duty st,
    fun s pos neg freq duty halive => pilotCurrent_taken s halive pos neg freq duty, fun s ohm c halive => proximity_taken s halive ohm c,
    s2Close_completes, lineVoltage_timeout, fun s i halive => gridBoundary_idle s halive i, meterLog_completes⟩

end Sys2Proof.Machine
end

section
/-! Trips of the grid port, the start of SUPPLY and the stops of the island (R226, R227, R229, R231, R232, O24). -/

namespace Sys2Proof.Machine

/-! ### The port off -/

/-- The grid port is off (R225). -/
structure Dev.PortOff (d : Dev) : Prop where
  state : d.o Obj.STATE_5000 = 0
  s2 : d.o Obj.S2 = 0
  step : d.grid.step = 0
  island : d.grid.island = false

theorem Dev.portOff_gridOff (d : Dev) : (d.gridOff 0 0).PortOff :=
  ⟨(d.o_gridOff 0 0).1, (d.o_gridOff 0 0).2, (d.gridOff_frame 0 0).2.1, (d.gridOff_frame 0 0).2.2⟩

theorem Dev.PortOff.of_obj {d e : Dev} (h : d.PortOff) {ks : Nat → Bool} (hobj : OnlyObjects ks d e) (hstate : ks Obj.STATE_5000 = false) (hs2 : ks Obj.S2 = false)
    (hgrid : e.grid = d.grid) : e.PortOff :=
  ⟨(hobj.same _ hstate (by decide)).trans h.state, (hobj.same _ hs2 (by decide)).trans h.s2, by rw [hgrid, h.step], by rw [hgrid, h.island]⟩

theorem Dev.PortOff.settle {d : Dev} (h : d.PortOff) : d.settle.PortOff :=
  h.of_obj (ks := fun _ => false) (OnlyObjects.settle (.refl d)) rfl rfl d.settle_grid

theorem Dev.PortOff.event {d : Dev} (h : d.PortOff) (x : Nat) : (d.event x).PortOff :=
  h.of_obj (ks := isTraceCount) ((OnlyObjects.refl d).event x fun _ h => h) (by decide) (by decide) (d.event_grid x)

/-- A Domain-stop fault of GRD finds or leaves the port off (R225). -/
theorem Dev.PortOff.raise {d : Dev} (h : d.PortOff) {code : Nat} (lasting : Bool) (src : FaultSrc) (hclass : faultClass code = 2)
    (hdom : codeDomain (faultDomain code) = .grd) : (d.raise code lasting src).PortOff := by
  obtain ⟨b, ⟨hrest, hobj⟩, hcases⟩ := d.raiseWith_stop .grd src lasting false hclass
  rw [Dev.raise, hdom]
  obtain hb | hb := hcases <;> rw [hb]
  · exact h.of_obj hobj (by decide) (by decide) hrest.grid
  · exact b.portOff_gridOff

theorem Dev.portOff_gridStop (d : Dev) : (d.gridStop 0 0).PortOff := by
  have hoff := d.portOff_gridOff
  have hwhen (x : Dev) (hx : x.PortOff) (c : Bool) : (x.when c fun d => d.event 0x6A).PortOff := by
    unfold Dev.when
    split
    · exact hx.event _
    · exact hx
  exact hwhen _ hoff _

theorem Dev.stops_gridStop (d : Dev) (st step : Nat) : d.StopsOnly (d.gridStop st step) :=
  (d.stops_gridOff st step).trans (Dev.stops_when _ _ fun d => d.stops_event _)

theorem quiet_gridStop (d : Dev) (st step : Nat) : d.Quiet (d.gridStop st step) :=
  OnlyObjects.when (quiet_gridOff d st step) _ fun _ d => quiet_event d _

/-- A stop of CHARGE raises GRD_STOPPED (R225). -/
theorem Dev.raised_gridStop {d : Dev} (st step : Nat) (hisl : d.grid.island = false) (hstep : 2 ≤ d.grid.step) : (d.gridStop st step).raised 0x6A := by
  have hcharge : (!d.grid.island && decide (2 ≤ d.grid.step)) = true := by simp [hisl, hstep]
  unfold Dev.gridStop
  simp only [hcharge, Dev.when, if_true]
  simp

section
variable {d : Dev} {code : Nat} (lasting : Bool) (src : FaultSrc) (hclass : faultClass code = 2) (hdom : codeDomain (faultDomain code) = .grd)
include hclass hdom

/-- What every trip of the grid port shows. -/
theorem Dev.portTrip {x : Dev} (hx : x.PortOff) (hstop : d.RaisesOnly x) (hobj : OnlyObjects isReaction d x) :
    (x.raise code lasting src).settle.PortOff ∧ (x.raise code lasting src).settle.inForce code .grd ∧ d.RaisesOnly (x.raise code lasting src).settle ∧
      OnlyObjects isReaction d (x.raise code lasting src).settle :=
  have hne : faultClass code ≠ 0 := by rw [hclass]; decide
  ⟨(hx.raise lasting src hclass hdom).settle, Dev.inForce_settle (Dev.inForce_raise_on _ _ _ hne hdom),
    frame_raises.settle (frame_raises.raise hstop _ _ _), (hobj.raise _ _ _ fun _ h => h).settle⟩

end

/-! ### Trips of CHARGE -/

theorem gridVoltage_trip (s : State) (halive : s.dev.alive = true) (hstep : s.dev.grid.step = 5) (hisl : s.dev.grid.island = false) (hrow : s.dev.grid.row ≠ 0) :
    Completes (.grdTrip) s (fun e => e.o Obj.STATE_5000 = 0 ∧ e.o Obj.S2 = 0 ∧ e.grid.step = 0 ∧ e.raised 0x65 ∧ e.raised 0x6A ∧ e.inForce 0x3480 .grd ∧ s.dev.RaisesOnly e ∧ OnlyObjects (fun k => isReaction k) s.dev e) := by
  have hstops := (s.dev.raises_event 0x65).trans (Dev.stops_gridStop (s.dev.event 0x65) 0 0).raises
  have hraised : ((s.dev.event 0x65).gridStop 0 0).raised 0x65 := (Dev.stops_gridStop (s.dev.event 0x65) 0 0).raised (by simp)
  have hraised' : ((s.dev.event 0x65).gridStop 0 0).raised 0x6A := Dev.raised_gridStop 0 0 (by simp [hisl]) (by simp [hstep])
  have hoff := (s.dev.event 0x65).portOff_gridStop
  have hobj := (quiet_event s.dev 0x65).trans (quiet_gridStop (s.dev.event 0x65) 0 0)
  refine completes_live_eq (((s.dev.event 0x65).gridStop 0 0).raise 0x3480 true { ini := 0x32, acc := 5 }) rfl halive (if_pos (by simp [hstep, hisl, hrow])) ?_
  generalize (s.dev.event 0x65).gridStop 0 0 = x at *
  obtain ⟨hport, hforce, hrest, hall⟩ := Dev.portTrip (code := 0x3480) true { ini := 0x32, acc := 5 } (by decide) (by decide) hoff hstops hobj
  exact ⟨hport.state, hport.s2, hport.step, by simpa using Dev.raised_raise hraised _ _ _, by simpa using Dev.raised_raise hraised' _ _ _, hforce, hrest, hall⟩

theorem gridFrequency_trip (s : State) (halive : s.dev.alive = true) (hstep : s.dev.grid.step = 5) (hisl : s.dev.grid.island = false)
    (hout : 2000 < (s.dev.o Obj.ROCOF).natAbs ∨ s.dev.freqWithin (s.dev.n Obj.FREQ) 95 103 = false) :
    Completes (.gridFrequencyTrip) s (fun e => e.o Obj.STATE_5000 = 0 ∧ e.o Obj.S2 = 0 ∧ e.grid.step = 0 ∧ e.raised 0x65 ∧ e.inForce 0x3481 .grd ∧ s.dev.RaisesOnly e ∧ OnlyObjects (fun k => isReaction k) s.dev e) := by
  have hout' : s.dev.freqOutside = true := by
    obtain h | h := hout <;> simp [Dev.freqOutside, h]
  have hstops := (s.dev.raises_event 0x65).trans (Dev.stops_gridStop (s.dev.event 0x65) 0 0).raises
  have hraised : ((s.dev.event 0x65).gridStop 0 0).raised 0x65 := (Dev.stops_gridStop (s.dev.event 0x65) 0 0).raised (by simp)
  have hoff := (s.dev.event 0x65).portOff_gridStop
  have hobj := (quiet_event s.dev 0x65).trans (quiet_gridStop (s.dev.event 0x65) 0 0)
  refine completes_live_eq (((s.dev.event 0x65).gridStop 0 0).raise 0x3481 true { ini := 0x32, acc := 5 }) rfl halive (if_pos (by simp [hstep, hisl, hout'])) ?_
  generalize (s.dev.event 0x65).gridStop 0 0 = x at *
  obtain ⟨hport, hforce, hrest, hall⟩ := Dev.portTrip (code := 0x3481) true { ini := 0x32, acc := 5 } (by decide) (by decide) hoff hstops hobj
  exact ⟨hport.state, hport.s2, hport.step, by simpa using Dev.raised_raise hraised _ _ _, hforce, hrest, hall⟩

theorem gridUnbalance_completes (s : State) (halive : s.dev.alive = true) (hstep : s.dev.grid.step = 5) (hisl : s.dev.grid.island = false)
    (hhigh : 50 < s.dev.o Obj.UNBALANCE) :
    Completes (.grdUnbalance) s (fun e => e.o Obj.STATE_5000 = s.dev.o Obj.STATE_5000 ∧ e.raised 0x6D ∧ e.inForce 0x3288 .grd ∧ s.dev.RaisesOnly e ∧ OnlyObjects (fun k => isReaction k) s.dev e) := by
  have hobj := (s.dev.event 0x6D).raise_degrade true { ini := 0x32, acc := 5 } (code := 0x3288) (by decide) |>.obj
  refine completes_live_eq ((s.dev.event 0x6D).raise 0x3288 true { ini := 0x32, acc := 5 }) rfl halive (if_pos (by simp [hstep, hisl, hhigh])) ⟨?_, ?_, ?_, ?_, ?_⟩
  · rw [Dev.o_settle _ (by decide), hobj.same _ (by decide) (by decide), Dev.o_event _ _ (by decide)]
  · simp [Dev.raised_raise]
  · simp +decide [Dev.inForce_raise_on]
  · exact frame_raises.settle (frame_raises.raise (frame_raises.event (frame_raises.refl _) _) _ _ _)
  · simp +contextual [onlyObjects_iff]

/-! ### Stops of the island -/

theorem islandOverload_completes (s : State) (halive : s.dev.alive = true) (hisl : s.dev.grid.island = true) (hstate : s.dev.o Obj.STATE_5000 = 5) (hshort : s.dev.grid.short = false) :
    Completes (.islandOverloadTimeout) s (fun e => e.o Obj.STATE_5000 = 0 ∧ e.grid.step = 0 ∧ e.grid.island = false ∧ e.inForce 0x3484 .grd ∧ s.dev.RaisesOnly e ∧ OnlyObjects (fun k => isReaction k) s.dev e) := by
  refine completes_live_eq ((s.dev.gridOff 0 0).raise 0x3484 false { ini := 0x32, acc := 5 }) rfl halive (if_pos (by simp [hisl, hstate, hshort])) ?_
  obtain ⟨hport, hforce, hrest, hall⟩ := Dev.portTrip (code := 0x3484) false { ini := 0x32, acc := 5 } (by decide) (by decide) s.dev.portOff_gridOff
    (s.dev.stops_gridOff 0 0).raises (quiet_gridOff s.dev 0 0)
  exact ⟨hport.state, hport.step, hport.island, hforce, hrest, hall⟩

theorem islandShort_completes (s : State) (halive : s.dev.alive = true) (hisl : s.dev.grid.island = true) (hshort : s.dev.grid.short = true)
    (hlow : 2 * s.dev.o Obj.V_LL < s.dev.o Obj.V_SUPPLY) :
    Completes (.islandShortTimeout) s (fun e => e.o Obj.STATE_5000 = 0 ∧ e.grid.step = 0 ∧ e.grid.island = false ∧ e.inForce 0x3485 .grd ∧ s.dev.RaisesOnly e ∧ OnlyObjects (fun k => isReaction k) s.dev e) := by
  refine completes_live_eq ((s.dev.gridOff 0 0).raise 0x3485 false { ini := 0x32, acc := 5 }) rfl halive (if_pos (by simp [hisl, hshort, hlow])) ?_
  obtain ⟨hport, hforce, hrest, hall⟩ := Dev.portTrip (code := 0x3485) false { ini := 0x32, acc := 5 } (by decide) (by decide) s.dev.portOff_gridOff
    (s.dev.stops_gridOff 0 0).raises (quiet_gridOff s.dev 0 0)
  exact ⟨hport.state, hport.step, hport.island, hforce, hrest, hall⟩

theorem foreignSource_completes (s : State) (halive : s.dev.alive = true) (hisl : s.dev.grid.island = true) :
    Completes (.grdForeignSource) s (fun e => e.o Obj.STATE_5000 = 0 ∧ e.grid.island = false ∧ e.raised 0x68 ∧ e.inForce 0x3486 .grd ∧ s.dev.RaisesOnly e ∧ OnlyObjects (fun k => isReaction k) s.dev e) := by
  refine completes_live_eq (((s.dev.gridOff 0 0).event 0x68).raise 0x3486 true { ini := 0x32, acc := 5 }) rfl halive (if_pos hisl) ?_
  have hoff := s.dev.portOff_gridOff
  have hstops := (s.dev.stops_gridOff 0 0).raises
  have hobj := quiet_gridOff s.dev 0 0
  generalize s.dev.gridOff 0 0 = x at *
  obtain ⟨hport, hforce, hrest, hall⟩ := Dev.portTrip (code := 0x3486) true { ini := 0x32, acc := 5 } (by decide) (by decide) (hoff.event 0x68)
    (frame_raises.event hstops 0x68) (hobj.trans (quiet_event x 0x68))
  exact ⟨hport.state, hport.island, by simpa using Dev.raised_raise (by simp) _ _ _, hforce, hrest, hall⟩

/-! ### A boundary with the link too low -/

/-- What a boundary writes before the port acts: the gates' times and the readings of HN2 (R209, R214, R268). -/
theorem onlyObjects_gridReadings (d : Dev) (i : GridIn) (dt : Nat) : OnlyObjects (fun k => gridKey k || isReaction k) d (d.gridMeasure i dt) := by
  simp +decide [onlyObjects_iff, Dev.gridMeasure, Dev.updGrid]

/-- Without lock and without agreement the PLL counts nothing (R215). -/
theorem Dev.pll_unlocked {d : Dev} {i : GridIn} (hlock : d.b Obj.LOCKED_5010 = false) (hcarrier : 0 < d.n Obj.CARRIER_N) (herr : 364 ≤ i.phaseErr)
    (hseq : i.sequence = 1) : d.pll i = d.updGrid (fun g => { g with good := 0 }) := by
  have hnot : ¬ 5 * d.n Obj.CARRIER_N ≤ 0 := by omega
  have herr' : decide (i.phaseErr < 364) = false := decide_eq_false (by omega)
  unfold Dev.pll
  simp [hseq, Dev.when, hlock, herr', hnot]

theorem gridBoundary_linkLow (s : State) (i : GridIn) (halive : s.dev.alive = true) (hlive : s.dev.dead.contains 0x22 = false) (hw : s.dev.writes = [])
    (_hmode : s.dev.o Obj.GRD_MODE = 1) (hstep : s.dev.grid.step = 5) (hisl : s.dev.grid.island = false) (hlock : s.dev.b Obj.LOCKED_5010 = false)
    (hcarrier : 0 < s.dev.n Obj.CARRIER_N) (herr : 364 ≤ i.phaseErr) (hseq : i.sequence = 1) (hlow : linkLow i.vdc i.vll = true) :
    Completes (.grdBoundary i) s (fun e => e.o Obj.STATE_5000 = 0 ∧ e.grid.step = 0 ∧ e.inForce 0x3489 .grd ∧ s.dev.RaisesOnly e ∧ OnlyObjects (fun k => gridKey k || isReaction k) s.dev e) := by
  let x := s.dev.gateSet 3
  have hx (k : Nat) (hk : k ≠ at' Obj.DT_NOW 2 ∧ k ≠ at' Obj.BLANK_NOW 2) : x.o k = s.dev.o k := by
    rw [show x = (s.dev.setO (at' Obj.DT_NOW 2) _).setO (at' Obj.BLANK_NOW 2) _ from rfl, Dev.o_setO_other _ _ hk.2, Dev.o_setO_other _ _ hk.1]
  let y := (x.updGrid (fun g => { g with good := 0 })).gridMeasure i (s.dev.wall - s.dev.grid.last)
  obtain ⟨a, ha⟩ := y.gridCauses_ends i
  let z : Dev := { y with coll := { y.coll with active := a } }
  have hzstep : z.grid.step = 5 := hstep
  have hzisl : z.grid.island = false := hisl
  have hrest : s.dev.RaisesOnly z := by
    simp +contextual [z, y, x, Dev.gridMeasure, Dev.updGrid, Dev.gateSet, Dev.raisesOnly_iff, Dev.unraised, Dev.unstopped, Dev.setO]
  have hobj : OnlyObjects (fun k => gridKey k || isReaction k) s.dev z := by
    simp +decide [z, y, x, Dev.gridMeasure, Dev.updGrid, Dev.gateSet, onlyObjects_iff]
  have heq : s.dev.gridBoundary i = (z.gridStop 0 0).raise 0x3489 true { ini := 0x32, acc := 5 } := by
    have hcharging : x.charging = true := by simp [Dev.charging, show x.grid.island = false from hisl, show x.grid.step = 5 from hstep]
    have hpll : x.pll i = x.updGrid (fun g => { g with good := 0 }) :=
      Dev.pll_unlocked ((Dev.b_eq (hx _ (by decide))).trans hlock) (by rwa [Dev.n_eq (hx Obj.CARRIER_N (by decide))]) herr hseq
    have hacts : z.portActs i (s.dev.wall - s.dev.grid.last) true = (z.gridStop 0 0).raise 0x3489 true { ini := 0x32, acc := 5 } := by
      rw [Dev.portActs, hzisl, Dev.charge]
      simp [hzstep, Dev.when, hlow]
    have hwhen : (x.when true fun d => d.pll i) = x.updGrid (fun g => { g with good := 0 }) := hpll
    rw [Dev.gridBoundary_eq hw]
    refine .trans ?_ hacts
    change (((x.when x.charging fun d => d.pll i).gridMeasure i (s.dev.wall - s.dev.grid.last)).gridCauses i).portActs i _ x.charging = _
    rw [hcharging, hwhen]
    exact congrArg (fun d : Dev => d.portActs i _ true) ha
  refine completes_live_eq _ rfl halive ((if_pos (by simpa using hlive)).trans heq) ?_
  generalize z = w at *
  have hstops := frame_raises.trans hrest (w.stops_gridStop 0 0).raises
  have hoff := w.portOff_gridStop
  have hobj' := hobj.trans ((quiet_gridStop w 0 0).mono (ls := fun k => gridKey k || isReaction k) fun k h => by rw [h, Bool.or_true])
  generalize w.gridStop 0 0 = v at *
  refine ⟨(hoff.raise _ _ (by decide) (by decide)).settle.state, (hoff.raise _ _ (by decide) (by decide)).settle.step,
    Dev.inForce_settle (Dev.inForce_raise_on _ _ _ (by decide) (by decide)), frame_raises.settle (frame_raises.raise hstops _ _ _), ?_⟩
  exact (hobj'.raise _ _ _ fun k h => by rw [h, Bool.or_true]).settle

/-! ### The start of SUPPLY -/

/-- The objects that a motion of MAINS writes: its value, and the counters at the end of a cycle (R47, R53, R236). -/
def isMainsMove (k : Nat) : Bool :=
  [TrackId.mains.valueKey, at' Obj.JUMPS TrackId.mains.code, Obj.E_IMPORT, Obj.E_EXPORT, Obj.E_SESSION].contains k || isTraceCount k

/-- `e` is `d` with MAINS moved on: the tracks, the meter and the objects of `ks`, while the port stands where it stood. -/
structure Dev.MainsStep (ks : Nat → Bool) (d e : Dev) : Prop where
  rest : d.Outside (fun x => { x with tracks := [], grid := {} }) e
  obj : OnlyObjects ks d e
  port : e.grid.step = d.grid.step ∧ e.grid.island = d.grid.island

theorem frame_mains : Frame (Dev.Outside fun x => { x with tracks := [], grid := {} }) := frame_outside _

section
variable {ks : Nat → Bool} {a d : Dev}

theorem Dev.MainsStep.refl : d.MainsStep ks d := ⟨frame_mains.refl d, .refl d, rfl, rfl⟩

theorem Dev.MainsStep.trans {e : Dev} (h : a.MainsStep ks d) (g : d.MainsStep ks e) : a.MainsStep ks e :=
  ⟨frame_mains.trans h.rest g.rest, h.obj.trans g.obj, g.port.1.trans h.port.1, g.port.2.trans h.port.2⟩

theorem Dev.MainsStep.mono {ls : Nat → Bool} (h : a.MainsStep ks d) (hks : ∀ k, ks k = true → ls k = true) : a.MainsStep ls d := ⟨h.rest, h.obj.mono hks, h.port⟩

theorem Dev.MainsStep.setO (h : a.MainsStep ks d) (k : Nat) (v : Int) (hk : ks k = true) : a.MainsStep ks (d.setO k v) :=
  ⟨frame_mains.setO h.rest k v, h.obj.setO k v (by rw [hk, Bool.true_or]), h.port⟩

theorem Dev.MainsStep.event (h : a.MainsStep ks d) (x : Nat) (ht : ∀ k, isTraceCount k = true → ks k = true) : a.MainsStep ks (d.event x) :=
  ⟨frame_mains.event h.rest x, h.obj.event x ht, by simpa using h.port⟩

theorem Dev.MainsStep.updTrack (h : a.MainsStep ks d) (t : TrackId) (f : Track → Track) : a.MainsStep ks (d.updTrack t f) :=
  ⟨frame_mains.trans h.rest (Dev.outside_of_eq rfl rfl), h.obj.of_obj rfl, h.port⟩

theorem Dev.MainsStep.slots (h : a.MainsStep ks d) : d.slots = a.slots := (congrArg Dev.slots h.rest.1 :)
theorem Dev.MainsStep.writes (h : a.MainsStep ks d) : d.writes = a.writes := (congrArg Dev.writes h.rest.1 :)

end

theorem Dev.mainsStep_cycle (d : Dev) : d.MainsStep isMainsMove d.mainsCycle := by
  have hcycle : d.MainsStep isMainsMove { d with grid := { d.grid with zero := true, cycle := 0, rest := Int.tmod (d.grid.cycle + d.grid.rest) mWh } } :=
    ⟨Dev.outside_of_eq rfl rfl, (OnlyObjects.refl d).of_obj rfl, rfl, rfl⟩
  unfold Dev.mainsCycle
  simp only []
  split
  · unfold Dev.when
    split
    · exact (hcycle.setO Obj.E_IMPORT _ (by decide)).setO Obj.E_SESSION _ (by decide)
    · exact hcycle.setO Obj.E_IMPORT _ (by decide)
  · exact hcycle.setO Obj.E_EXPORT _ (by decide)

theorem Dev.MainsStep.moveTo {a d : Dev} (h : a.MainsStep isMainsMove d) (hs : d.slots = []) (b : Int) (jump : Bool) :
    a.MainsStep isMainsMove (d.moveTo .mains b jump) := by
  have hwhen (x : Dev) (c : Bool) (g : a.MainsStep isMainsMove x) : a.MainsStep isMainsMove (x.when c fun d => d.mainsCycle) := by
    unfold Dev.when
    split
    · exact g.trans x.mainsStep_cycle
    · exact g
  rw [Dev.moveTo_noSlots hs, Dev.setValue_of_ne_wall (by decide)]
  exact hwhen _ _ (h.setO _ _ (by decide))

/-- Extrapolation of MAINS: its hidden state, and a motion or none (R47, R52). -/
theorem Dev.extrapolate_mains (d : Dev) : ∃ ts : Tab Track, d.extrapolate .mains = { d with tracks := ts } ∨
    ∃ v, d.extrapolate .mains = Dev.moveTo { d with tracks := ts } .mains v false := by
  unfold Dev.extrapolate
  simp only []
  split
  · exact ⟨_, .inl rfl⟩
  · split
    · split
      · exact ⟨_, .inr ⟨_, rfl⟩⟩
      · exact ⟨_, .inl rfl⟩
    · exact ⟨_, .inr ⟨_, rfl⟩⟩

theorem Dev.mainsStep_extrapolate {d : Dev} (hs : d.slots = []) : d.MainsStep isMainsMove (d.extrapolate .mains) := by
  have htracks (ts : Tab Track) : d.MainsStep isMainsMove { d with tracks := ts } := ⟨Dev.outside_of_eq rfl rfl, (OnlyObjects.refl d).of_obj rfl, rfl, rfl⟩
  obtain ⟨ts, h | ⟨v, h⟩⟩ := d.extrapolate_mains <;> rw [h]
  · exact htracks ts
  · exact (htracks ts).moveTo (d := { d with tracks := ts }) hs v false

theorem Dev.mainsStep_jumpTo {d : Dev} (hs : d.slots = []) (v : Int) : d.MainsStep isMainsMove (d.jumpTo .mains v) := by
  have hjumped : d.MainsStep isMainsMove (d.jumped .mains) :=
    ((Dev.MainsStep.refl.event 0xF2 (by simp +contextual [isMainsMove])).setO (at' Obj.JUMPS TrackId.mains.code) _ (by decide)).updTrack _ _
  exact hjumped.moveTo (hjumped.slots.trans hs) v true

/-- The objects that a source update of MAINS writes. -/
def isMainsUpdate (k : Nat) : Bool := [(TrackId.mains).rateKey, (TrackId.mains).validKey].contains k || isMainsMove k

theorem isMainsUpdate_of_move (k : Nat) (h : isMainsMove k = true) : isMainsUpdate k = true := by
  rw [isMainsUpdate, h, Bool.or_true]

theorem isMainsUpdate_of_trace (k : Nat) (h : isTraceCount k = true) : isMainsUpdate k = true := by
  rw [isMainsUpdate, isMainsMove, h, Bool.or_true, Bool.or_true]

theorem grid_of_mainsUpdate (k : Nat) (h : isMainsUpdate k = true) : (gridKey k || isTraceCount k) = true := by
  unfold isMainsUpdate isMainsMove at h
  rw [← Bool.or_assoc, Bool.or_eq_true, Bool.or_eq_true] at h
  rw [Bool.or_eq_true]
  refine h.imp_left fun h => ?_
  simp only [List.contains_iff_mem, List.mem_cons, List.not_mem_nil, or_false] at h
  rcases h with (rfl | rfl) | rfl | rfl | rfl | rfl | rfl <;> decide

/-- `e` is `d` with MAINS running at `rate`. -/
structure Dev.MainsRuns (rate : Int) (d e : Dev) : Prop where
  step : d.MainsStep isMainsUpdate e
  rate : e.o (TrackId.mains).rateKey = rate
  valid : e.b (TrackId.mains).validKey = true

theorem Dev.MainsRuns.trans {rate : Int} {a d e : Dev} (h : a.MainsRuns rate d) (g : d.MainsStep isMainsMove e) : a.MainsRuns rate e :=
  ⟨h.step.trans (g.mono isMainsUpdate_of_move), (g.obj.same _ (by decide) (by decide)).trans h.rate,
    (Dev.b_eq (g.obj.same (TrackId.mains).validKey (by decide) (by decide))).trans h.valid⟩

theorem Dev.MainsStep.stamped {a d : Dev} (h : a.MainsStep isMainsUpdate d) (rate : Int) : a.MainsStep isMainsUpdate (d.stamped .mains rate) :=
  (h.setO _ _ (by decide)).updTrack _ _

/-- The stamp of a valid MAINS. -/
theorem Dev.mainsRuns_stamped {a d : Dev} (h : a.MainsStep isMainsUpdate d) (hvalid : d.b (TrackId.mains).validKey = true) (rate : Int) :
    a.MainsRuns rate (d.stamped .mains rate) := by
  refine ⟨h.stamped rate, by simp [Dev.stamped, Dev.o_eq], (Dev.b_eq ?_).trans hvalid⟩
  simp +decide [Dev.stamped, Dev.o_eq]

/-- The stamp of an update that makes MAINS valid. -/
theorem Dev.mainsRuns_first (d : Dev) (rate : Int) : d.MainsRuns rate (((d.stamped .mains rate).setB (TrackId.mains).validKey true).event 0xF5) := by
  refine ⟨((Dev.MainsStep.refl.stamped rate).setO _ _ (by decide)).event 0xF5 isMainsUpdate_of_trace, ?_, ?_⟩
  · simp +decide [Dev.stamped, Dev.o_eq]
  · simp +decide [Dev.stamped, Dev.b, Dev.o_eq]

/-- Without slots and waiting writes a source update leaves MAINS valid at its rate, however it takes the value (R51 to R53). -/
theorem Dev.sourceUpdate_mains {d : Dev} (hs : d.slots = []) (hw : d.writes = []) (v rate : Int) : d.MainsRuns rate (d.sourceUpdate .mains v rate false) := by
  have hdone {x : Dev} (h : d.MainsRuns rate x) : d.MainsRuns rate (x.trackWrites .mains) := by
    rw [Dev.trackWrites_nil (h.step.writes.trans hw)]
    exact h
  have hwait {x : Dev} (h : d.MainsRuns rate x) : d.MainsRuns rate (x.runWaiting .mains) := by
    rw [Dev.runWaiting_nil (h.step.slots.trans hs)]
    exact h
  have hjump {x : Dev} (h : d.MainsRuns rate x) : d.MainsRuns rate (x.jumpTo .mains v) := h.trans (Dev.mainsStep_jumpTo (h.step.slots.trans hs) v)
  have hfirst := d.mainsRuns_first rate
  refine hdone ?_
  simp only []
  split
  · split
    · exact hwait (hjump hfirst)
    · exact hwait ((hfirst.trans (Dev.MainsStep.refl.updTrack _ _)).trans (Dev.MainsStep.refl.setO _ _ (by decide)))
  · next hvalid =>
    have hx := Dev.mainsStep_extrapolate hs
    have hstamp := Dev.mainsRuns_stamped (hx.mono isMainsUpdate_of_move) (rate := rate) ((Dev.b_eq (hx.obj.same (TrackId.mains).validKey (by decide) (by decide))).trans (by simp_all))
    have hheld (f : Track → Track) : d.MainsRuns rate (((d.extrapolate .mains).stamped .mains rate).updTrack .mains f) :=
      hstamp.trans (Dev.MainsStep.refl.updTrack _ _)
    have hmoved (f : Track → Track) := (hheld f).trans (Dev.MainsStep.refl.moveTo ((hheld f).step.slots.trans hs) v false)
    split
    · exact hjump hstamp
    · split <;> split
      · exact hheld _
      · exact hmoved _
      · exact hheld _
      · exact hmoved _

/-- SUPPLY begins (R229): the loops of the island enabled, the port at step 5 as an island, STATE 3. -/
def Dev.supplies (d : Dev) : Dev :=
  ((d.enableLoops [48, 49, 51, 52] true).updGrid (fun g => { g with step := 5, island := true, vRamp := 0, short := false, last := d.wall })).gridState 3

theorem Dev.supplies_eq (d : Dev) : d.supplies =
    ((d.enableLoops [48, 49, 51, 52] true).updGrid (fun g => { g with step := 5, island := true, vRamp := 0, short := false, last := d.wall })).setO Obj.STATE_5000 3 := by
  unfold Dev.supplies Dev.gridState Dev.updGrid
  exact (if_neg (by simp)).trans (if_neg (by simp))

/-- What the start of SUPPLY changes beside objects: the port, its gate assignment, the loops and the track. -/
def Dev.SupplyOnly : Dev → Dev → Prop := Dev.Outside fun x => { x with grid := {}, gates := [], loops := [], tracks := [] }

theorem frame_supply : Frame Dev.SupplyOnly := frame_outside _

theorem Dev.SupplyOnly.shows {d e : Dev} (h : d.SupplyOnly e) : ({ d with grid := e.grid, gates := e.gates, loops := e.loops, tracks := e.tracks } : Dev).ShowsOnly e :=
  Dev.showsOnly_iff.mpr ⟨(congrArg (fun x : Dev => { x with grid := e.grid, gates := e.gates, loops := e.loops, tracks := e.tracks }) h.1 :), h.2⟩

theorem Dev.MainsStep.supply {ks : Nat → Bool} {d e : Dev} (h : d.MainsStep ks e) : d.SupplyOnly e :=
  ⟨congrArg (fun x : Dev => { x with grid := {}, gates := [], loops := [], tracks := [] }) h.rest.1, h.rest.2⟩

theorem Dev.supply_supplies (d : Dev) : d.SupplyOnly d.supplies := by
  rw [Dev.supplies_eq]
  refine frame_supply.setO (frame_supply.trans (b := d.enableLoops [48, 49, 51, 52] true) ?_ (Dev.outside_of_eq rfl rfl)) Obj.STATE_5000 3
  exact frame_supply.foldl (frame_supply.refl d) _ fun d L => frame_supply.setB (d := { d with loops := _ }) (Dev.outside_of_eq rfl rfl) _ _

theorem Dev.supplies_obj (d : Dev) : OnlyObjects (fun k => gridKey k || isTraceCount k) d d.supplies := by
  rw [Dev.supplies_eq]
  exact (onlyObjects_updGrid (onlyObjects_enableLoops (.refl d) _ _ (by decide)) _).setO _ _ (by decide)

theorem supplyStart_completes (s : State) (halive : s.dev.alive = true) (hmode : s.dev.o Obj.GRD_MODE = 2) (hstep : s.dev.grid.step = 1)
    (hpp : 4000 < s.dev.o Obj.PP_OHM) (hins : s.dev.grid.inserted = false) (hvll : s.dev.o Obj.V_LL < 500) (hmain : s.dev.anyMain = true)
    (hvdc : 6500 ≤ s.dev.o Obj.VDC) (hblocked : s.dev.startBlocked .grd = false) (hgates : s.dev.gatesFree .grd = true) (htest : s.dev.testing = [])
    (hdone : s.dev.tested.contains Domain.grd.num = true) (hs : s.dev.slots = []) (hw : s.dev.writes = []) :
    Completes (.supplyStart) s (fun e => e.o Obj.STATE_5000 = 3 ∧ e.grid.island = true ∧ e.grid.step = 5 ∧ e.o (TrackId.mains).rateKey = s.dev.o Obj.F_NOM * 65536 ∧ e.b (TrackId.mains).validKey = true ∧
      ({ s.dev with grid := e.grid, gates := e.gates, loops := e.loops, tracks := e.tracks } : Dev).ShowsOnly e ∧ OnlyObjects (fun k => gridKey k || isTraceCount k) s.dev e) := by
  obtain ⟨g, hg⟩ := s.dev.takeAssign_eq .grd
  have heq : s.dev.when (s.dev.o Obj.GRD_MODE == 2 && s.dev.grid.step == 1 && decide (4000 < s.dev.o Obj.PP_OHM) && !s.dev.grid.inserted &&
      decide (s.dev.o Obj.V_LL < 500) && s.dev.anyMain && decide (6500 ≤ s.dev.o Obj.VDC) && !(s.dev.startBlocked .grd) && s.dev.gatesFree .grd) (fun d =>
        let (d0, ready) := d.startReady .grd
        let d := d0
        if !ready then d else d.supplies.sourceUpdate .mains (d.supplies.value .mains) (d.supplies.o Obj.F_NOM * 65536) false) =
      Dev.sourceUpdate (Dev.supplies { s.dev with gates := g }) .mains (Dev.value (Dev.supplies { s.dev with gates := g }) .mains)
        (Dev.o (Dev.supplies { s.dev with gates := g }) Obj.F_NOM * 65536) false := by
    refine (if_pos (by simp [hmode, hstep, hpp, hins, hvll, hmain, hvdc, hblocked, hgates])).trans ?_
    simp only [Dev.startReady_tested htest hdone, hg]
    rfl
  have hgate : s.dev.SupplyOnly { s.dev with gates := g } := Dev.outside_of_eq rfl rfl
  have hsupply := frame_supply.trans hgate (Dev.supply_supplies _)
  have hobj : OnlyObjects (fun k => gridKey k || isTraceCount k) s.dev (Dev.supplies { s.dev with gates := g }) := ⟨(Dev.supplies_obj _).same⟩
  have hstate : (Dev.supplies { s.dev with gates := g }).o Obj.STATE_5000 = 3 := by simp +decide [Dev.supplies_eq, Dev.o_eq]
  have hport : (Dev.supplies { s.dev with gates := g }).grid.island = true ∧ (Dev.supplies { s.dev with gates := g }).grid.step = 5 := by
    simp [Dev.supplies_eq, Dev.updGrid]
  have hnom : (Dev.supplies { s.dev with gates := g }).o Obj.F_NOM = s.dev.o Obj.F_NOM := by
    rw [Dev.supplies_eq]
    exact (Dev.o_setO_other _ _ (by decide)).trans (Dev.o_enableLoops _ _ _ (by decide) (by decide))
  refine completes_live_eq _ rfl halive heq ?_
  generalize Dev.supplies { s.dev with gates := g } = d at *
  have hslots : d.slots = [] := (congrArg Dev.slots hsupply.1 :).trans hs
  have hwrites : d.writes = [] := (congrArg Dev.writes hsupply.1 :).trans hw
  obtain ⟨hmains, hrate, hvalid⟩ := Dev.sourceUpdate_mains hslots hwrites
    (d.value .mains) (d.o Obj.F_NOM * 65536)
  generalize d.sourceUpdate .mains (d.value .mains) (d.o Obj.F_NOM * 65536) false = e at *
  have hall := frame_supply.settle (frame_supply.trans hsupply hmains.supply)
  refine ⟨?_, ?_, ?_, ?_, ?_, hall.shows, (hobj.trans (hmains.obj.mono grid_of_mainsUpdate)).settle⟩
  · rw [Dev.o_settle _ (by decide), hmains.obj.same _ (by decide) (by decide), hstate]
  · rw [Dev.settle_grid, hmains.port.2, hport.1]
  · rw [Dev.settle_grid, hmains.port.1, hport.2]
  · rw [Dev.o_settle _ (by decide), hrate, hnom]
  · rw [Dev.b_eq (Dev.o_settle _ (by decide)), hvalid]

/-- Settles O24: the clauses above, in the order of the statement. -/
theorem gridTripsAndIsland : Obligations.GridTripsAndIsland := by
  unfold Obligations.GridTripsAndIsland
  exact ⟨gridVoltage_trip, gridFrequency_trip, gridUnbalance_completes, gridBoundary_linkLow, supplyStart_completes, islandOverload_completes, islandShort_completes, foreignSource_completes⟩

end Sys2Proof.Machine
end

section
/-! The boundary of a converter whose STATE is below every state it has (R242, O25). -/

namespace Sys2Proof.Machine

/-- The readings of a converter at rest. -/
def restIn : DabIn := { vin := 0, vout := 0, iout := 0, pin := 0, ihv := 0, bias := 0 }

/-- The E960 in service with its banks loaded for DCA, whose STATE is -1, a value no operation writes. -/
def strayConverter : State :=
  { pending := [], dev := { State.reset.dev with phase := .service, obj := [(Obj.STATE_5400, -1)], dabs := [(0, { loaded := true })] } }

theorem strayConverter_boundary : (strayConverter.dev.dabBoundary .dca restIn).o Obj.STATE_5400 = -1 := by
  decide

/-- Refutes O25: a boundary reads STATE as a natural number and writes nothing to it at rest, so a STATE of -1 reads 0 before and -1 after. -/
theorem not_converterCommands : ¬ Obligations.ConverterCommands := by
  unfold Obligations.ConverterCommands
  intro h
  obtain ⟨-, -, -, -, hidle, -⟩ := h
  obtain ⟨t, hexec, -, -, -, -, hstate, -⟩ := hidle strayConverter .dca restIn (by decide) (by decide) rfl (by decide) rfl rfl rfl
  have hrun : exec (.converterBoundary .dca restIn) strayConverter = .next { strayConverter with dev := (strayConverter.dev.dabBoundary .dca restIn).settle } := rfl
  rw [hrun] at hexec
  cases hexec
  have hsettle := (Dev.o_settle (strayConverter.dev.dabBoundary .dca restIn) (k := Obj.STATE_5400) (by decide)).trans strayConverter_boundary
  exact absurd (hstate.symm.trans hsettle) (by decide)

end Sys2Proof.Machine
end

section
/-! The reverse precharge of the link by DCA (R255, R256, O26). -/

namespace Sys2Proof.Machine

/-! ### The boundary of a converter (R242) -/

theorem Dev.dabWrites_nil {d : Dev} (hw : d.writes = []) (c : Conv) : d.dabWrites c = d := by
  have happly : d.applyWrites (d.dabOwns c) = d := by
    rw [Dev.applyWrites, hw]
    exact congrArg (fun w => ({ d with writes := w } : Dev)) hw.symm
  simp [Dev.dabWrites, hw, happly]

/-- What a boundary takes in: the times of the two groups, the banks and the readings. -/
def Dev.dabReadings (d : Dev) (c : Conv) (i : DabIn) : Dev :=
  (((d.gateSet (4 + 2 * cnum c)).gateSet (4 + 2 * cnum c + 1)).dabCoefs c).dabMeasure c i

/-- What the converter does with its readings. -/
def Dev.dabActs (d : Dev) (c : Conv) (i : DabIn) (dt : Nat) : Dev :=
  let d2 := d.when (decide (d.n (ck c Obj.STATE_5400) = 7) && !(d.startBlocked (cdom c))) (fun d =>
    (d.setO (ck c Obj.STATE_5400) (if d.b (ck c Obj.RUN_5400) then 1 else 0)).updDab c (fun a => { a with
      want := a.want || d.b (ck c Obj.RUN_5400) }))
  if d2.dabOn c ∧ d2.n (ck c Obj.V_OUT_OV) < i.vout then d2.outFault c 0x4493 true
  else match if c = .dca then d.link.job.filter (fun j => j.mode == 1) else none with
    | some j => d2.reverseBoundary j i dt
    | none =>
      if !(d2.dabOn c) then d2.dabWaiting c i
      else if i.vin < 3000 then d2.vinLow c
      else (d2.dabForward c i dt).dabBias c i.bias

theorem Dev.dabBoundary_eq {d : Dev} (hw : d.writes = []) (c : Conv) (i : DabIn) : d.dabBoundary c i =
    ((d.dabReadings c i).when (decide (i.vout ≤ d.n (ck c Obj.V_OUT_OV))) fun d => d.causeGone (ccode c 0x4493)).dabActs c i
      (d.wall - (d.dabOf c).last) := by
  unfold Dev.dabBoundary
  rw [Dev.dabWrites_nil hw]
  rfl

/-- A converter not in STATE 7 goes on from where it stands. -/
theorem Dev.dabActs_eq {d : Dev} {c : Conv} (h : d.n (ck c Obj.STATE_5400) ≠ 7) (i : DabIn) (dt : Nat) : d.dabActs c i dt =
    if d.dabOn c ∧ d.n (ck c Obj.V_OUT_OV) < i.vout then d.outFault c 0x4493 true
    else match if c = .dca then d.link.job.filter (fun j => j.mode == 1) else none with
      | some j => d.reverseBoundary j i dt
      | none =>
        if !(d.dabOn c) then d.dabWaiting c i
        else if i.vin < 3000 then d.vinLow c
        else (d.dabForward c i dt).dabBias c i.bias := by
  have hwhen : (d.when (decide (d.n (ck c Obj.STATE_5400) = 7) && !(d.startBlocked (cdom c))) fun d =>
      (d.setO (ck c Obj.STATE_5400) (if d.b (ck c Obj.RUN_5400) then 1 else 0)).updDab c (fun a => { a with
        want := a.want || d.b (ck c Obj.RUN_5400) })) = d := if_neg (by simp [h])
  unfold Dev.dabActs
  simp only [hwhen]

/-- The objects of the readings. -/
def isDabReading (c : Conv) (k : Nat) : Bool :=
  [ck c Obj.V_OUT, ck c Obj.I_OUT, ck c Obj.P_IN, at' Obj.DT_NOW (3 + 2 * cnum c), at' Obj.BLANK_NOW (3 + 2 * cnum c), at' Obj.DT_NOW (4 + 2 * cnum c),
    at' Obj.BLANK_NOW (4 + 2 * cnum c)].contains k

theorem onlyObjects_firmwareCoef (d : Dev) {L : Nat} (x : Int × Nat × Int × Nat)
    (h : ∀ k ∈ [Obj.KP, Obj.SH_P, Obj.KI, Obj.SH_I], ∀ b ∈ [0, 0x10000], loopKey (lk k L + b) = true) : OnlyObjects loopKey d (d.firmwareCoef L x) := by
  refine (OnlyObjects.refl d).foldl _ fun d b hb => ?_
  have hset (d : Dev) (k : Nat) (v : Int) (hk : k ∈ [Obj.KP, Obj.SH_P, Obj.KI, Obj.SH_I]) : OnlyObjects loopKey d (d.setO (lk k L + b) v) :=
    (OnlyObjects.refl d).setO _ _ (by rw [h k hk b hb, Bool.true_or])
  exact (((hset _ _ _ (by simp)).trans (hset _ _ _ (by simp))).trans (hset _ _ _ (by simp))).trans (hset _ _ _ (by simp))

/-- The readings change objects, the loops and the converter's own state. -/
theorem Dev.onlyObjects_dabReadings (d : Dev) (c : Conv) (i : DabIn) : OnlyObjects (fun k => isDabReading c k || loopKey k) d (d.dabReadings c i) := by
  have hset (d : Dev) (k : Nat) (v : Int) (hk : isDabReading c k = true) : OnlyObjects (fun k => isDabReading c k || loopKey k) d (d.setO k v) :=
    (OnlyObjects.refl d).setO _ _ (by rw [hk, Bool.true_or, Bool.true_or])
  have hgate (d : Dev) (g : Nat) (hdt : isDabReading c (at' Obj.DT_NOW (g - 1)) = true) (hblank : isDabReading c (at' Obj.BLANK_NOW (g - 1)) = true) :
      OnlyObjects (fun k => isDabReading c k || loopKey k) d (d.gateSet g) := (hset d _ _ hdt).trans (hset _ _ _ hblank)
  have hcoefs (d : Dev) : OnlyObjects (fun k => isDabReading c k || loopKey k) d (d.dabCoefs c) := by
    unfold Dev.dabCoefs
    split
    · exact .refl d
    · refine OnlyObjects.mono (ks := loopKey) ?_ fun k h => by rw [h, Bool.or_true]
      simp only []
      refine (OnlyObjects.of_obj (.refl d) (e := d.updDab c fun a => { a with loaded := true }) rfl).foldl _ fun d L hL => onlyObjects_firmwareCoef d _ ?_
      cases c <;> revert L <;> decide
  have hmeasure (d : Dev) : OnlyObjects (fun k => isDabReading c k || loopKey k) d (d.dabMeasure c i) :=
    OnlyObjects.of_obj (((hset d _ _ (by cases c <;> decide)).trans (hset _ _ _ (by cases c <;> decide))).trans (hset _ _ _ (by cases c <;> decide))) rfl
  exact (((hgate d _ (by cases c <;> decide) (by cases c <;> decide)).trans (hgate _ _ (by cases c <;> decide) (by cases c <;> decide))).trans
    (hcoefs _)).trans (hmeasure _)

/-- What a boundary's readings change beside objects. -/
def Dev.DabOnly : Dev → Dev → Prop := Dev.Outside fun x => { x with dabs := [] }

theorem frame_dab : Frame Dev.DabOnly := frame_outside _

theorem Dev.dabOnly_readings (d : Dev) (c : Conv) (i : DabIn) : d.DabOnly (d.dabReadings c i) := by
  have hupd (d : Dev) (f : Dab → Dab) : d.DabOnly (d.updDab c f) := Dev.outside_of_eq rfl rfl
  have hgate (d : Dev) (g : Nat) : d.DabOnly (d.gateSet g) := frame_dab.setO (frame_dab.setO (frame_dab.refl d) _ _) _ _
  have hcoef (d : Dev) (L : Nat) (x : Int × Nat × Int × Nat) : d.DabOnly (d.firmwareCoef L x) :=
    frame_dab.foldl (frame_dab.refl d) _ fun d b => frame_dab.setO (frame_dab.setO (frame_dab.setO (frame_dab.setO (frame_dab.refl d) _ _) _ _) _ _) _ _
  have hcoefs (d : Dev) : d.DabOnly (d.dabCoefs c) := by
    unfold Dev.dabCoefs
    split
    · exact frame_dab.refl d
    · exact frame_dab.foldl (hupd d _) _ fun d L => hcoef d L _
  have hmeasure (d : Dev) : d.DabOnly (d.dabMeasure c i) :=
    frame_dab.trans (frame_dab.setO (frame_dab.setO (frame_dab.setO (frame_dab.refl d) _ _) _ _) _ _) (hupd _ _)
  exact frame_dab.trans (frame_dab.trans (frame_dab.trans (hgate d _) (hgate _ _)) (hcoefs _)) (hmeasure _)

theorem Dev.DabOnly.raises {d e : Dev} (h : d.DabOnly e) : d.RaisesOnly e :=
  Dev.raisesOnly_iff.mpr ⟨(congrArg (fun x : Dev => ({ x.unraised with } : Dev)) h.1 :), h.2⟩

/-- The readings leave the converter's state and its limits as they are. -/
theorem Dev.o_dabReadings (d : Dev) (c : Conv) (i : DabIn) {k : Nat} (hk : isDabReading c k = false ∧ loopKey k = false) (hs : isStatus k = false) :
    (d.dabReadings c i).o k = d.o k :=
  (d.onlyObjects_dabReadings c i).same k (by simp [hk]) hs

/-! ### The start conditions at a boundary (R250, R264, R510) -/

theorem Dev.three_le_domainState (d : Dev) (dom : Domain) :
    decide (3 ≤ d.domainState dom) = (d.classInForce 4 || d.classInForce 3 || d.faultOnDomain dom 2) := by
  unfold Dev.domainState
  split
  · simp_all
  · split
    · simp_all
    · split
      · simp_all
      · split
        · split <;> simp_all
        · simp_all

/-- A start is blocked by the faults in force, the supply, the fuses and a reset to come. -/
theorem Dev.startBlocked_congr {d e : Dev} (dom : Domain) (hclass : ∀ c, e.classInForce c = d.classInForce c) (hfault : e.faultOnDomain dom 2 = d.faultOnDomain dom 2)
    (hpower : e.power = d.power) (hfuse : e.fuse = d.fuse) (hreset : e.resetPending = d.resetPending) (hlife : e.o Obj.LIFE_CYCLE = d.o Obj.LIFE_CYCLE)
    (hdef : e.o Obj.FUSE_DEFAULTS = d.o Obj.FUSE_DEFAULTS) : e.startBlocked dom = d.startBlocked dom := by
  simp only [Dev.startBlocked, Dev.three_le_domainState, Dev.fuseBars, hclass, hfault, hpower, hfuse, hreset, hlife, Dev.b_eq hdef]

theorem Dev.startBlocked_causeGone (d : Dev) (code : Nat) (dom : Domain) : (d.causeGone code).startBlocked dom = d.startBlocked dom := by
  have hany (p : FaultRec → Bool) (hp : ∀ f c q, p { f with cause := c, quiet := q } = p f) : (d.causeGone code).coll.active.any p = d.coll.active.any p := by
    simp only [Dev.causeGone, List.any_map]
    congr 1
    funext f
    simp only [Function.comp]
    split
    · exact hp f _ _
    · rfl
  refine Dev.startBlocked_congr dom (fun c => ?_) ?_ rfl rfl rfl rfl rfl
  · unfold Dev.classInForce
    rw [hany _ fun _ _ _ => rfl]
    rfl
  · unfold Dev.faultOnDomain
    rw [hany _ fun _ _ _ => rfl]

theorem Dev.gatesFree_congr {d e : Dev} (dom : Domain) (hgates : e.gates = d.gates) (hdrive : e.o Obj.DRIVE_EN = d.o Obj.DRIVE_EN)
    (hlat : ∀ n, 1 ≤ n → n ≤ 40 → e.o (el Obj.STATUS_6020 n) = d.o (el Obj.STATUS_6020 n)) : e.gatesFree dom = d.gatesFree dom := by
  have hassign (n : Nat) : e.assignment n = d.assignment n := by simp only [Dev.assignment, hgates]
  have hchannels (g : Nat) : e.groupChannels g = d.groupChannels g := by simp only [Dev.groupChannels, hassign]
  simp only [Dev.gatesFree, Dev.b_eq hdrive, hchannels]
  congr 1
  rw [Bool.eq_iff_iff, List.all_eq_true, List.all_eq_true]
  refine forall_congr' fun g => imp_congr_right fun _ => ?_
  rw [List.all_eq_true, List.all_eq_true]
  exact forall_congr' fun n => imp_congr_right fun hn => by rw [hlat n (mem_group hn).1 (mem_group hn).2]

/-! ### The start of the reverse precharge (R255 step 2) -/

/-- What a converter's turn-off and the loops change beside objects. -/
def Dev.LoopsOnly : Dev → Dev → Prop := Dev.Outside fun x => { x with loops := [], dabs := [] }

theorem frame_loops : Frame Dev.LoopsOnly := frame_outside _

theorem Dev.loopsOnly_enableLoops (d : Dev) (Ls : List Nat) (on : Bool) : d.LoopsOnly (d.enableLoops Ls on) :=
  frame_loops.foldl (frame_loops.refl d) _ fun d _ => frame_loops.setB (d := { d with loops := _ }) (Dev.outside_of_eq rfl rfl) _ _

theorem Dev.loopsOnly_dabOff (d : Dev) (c : Conv) (st : Nat) : d.LoopsOnly (d.dabOff c st) := by
  have hsets := frame_loops.setO (frame_loops.setO (frame_loops.setO (frame_loops.setO (frame_loops.refl d) (ck c Obj.STATE_5400) st) (ck c Obj.PHI) 0)
    (ck c Obj.I_LIMIT_5400) 0) (ck c Obj.LIMIT_SRC_5400) 0
  exact frame_loops.trans (frame_loops.trans hsets (Dev.loopsOnly_enableLoops _ _ _)) (Dev.outside_of_eq rfl rfl)

theorem Dev.LoopsOnly.link {d e : Dev} (h : d.LoopsOnly e) : e.link = d.link := (congrArg Dev.link h.1 :)

theorem Dev.LoopsOnly.stops {d e : Dev} (h : d.LoopsOnly e) : d.StopsOnly e :=
  Dev.stopsOnly_iff.mpr ⟨(congrArg (fun x : Dev => x.unstopped) h.1 :), h.2⟩

/-- DCA enters reverse operation (R255 step 2). -/
def Dev.reverseOn (d : Dev) : Dev := (((d.dabOff .dca 5).setO Obj.PRE_STATE 2).enableLoops [65, 68] true).event 0x76

theorem Dev.reverseOn_values (d : Dev) : d.reverseOn.o Obj.STATE_5400 = 5 ∧ d.reverseOn.o Obj.PRE_STATE = 2 := by
  have hoff := d.o_dabOff .dca 5
  unfold Dev.reverseOn
  generalize d.dabOff .dca 5 = x at *
  rw [Dev.o_event _ _ (by decide), Dev.o_event _ _ (by decide), Dev.o_enableLoops _ _ _ (by decide) (by decide), Dev.o_enableLoops _ _ _ (by decide) (by decide)]
  exact ⟨(Dev.o_setO_other _ _ (by decide)).trans hoff, Dev.o_setO_same _ _ _⟩

theorem Dev.loopsOnly_reverseOn (d : Dev) : d.LoopsOnly d.reverseOn :=
  frame_loops.event (frame_loops.trans (frame_loops.setO (d.loopsOnly_dabOff .dca 5) Obj.PRE_STATE 2) (Dev.loopsOnly_enableLoops _ _ _)) 0x76

theorem onlyObjects_reverseOn (d : Dev) : OnlyObjects (fun k => dabKey .dca k || isReaction k) d d.reverseOn := by
  have hoff : OnlyObjects (fun k => dabKey .dca k || isReaction k) d (d.dabOff .dca 5) := (quiet_dabOff d .dca 5).mono fun k h => by rw [h, Bool.or_true]
  exact (onlyObjects_enableLoops (hoff.setO Obj.PRE_STATE 2 (by decide)) [65, 68] true (by decide)).event _ fun k h => by rw [isReaction_trace h, Bool.or_true]

theorem Dev.dabActs_reverse {d : Dev} {i : DabIn} {j : Precharge} (hstate : d.n (ck .dca Obj.STATE_5400) = 0) (hjob : d.link.job = some j) (hmode : j.mode = 1)
    (hphase : j.phase = 0) (hblocked : d.startBlocked .dca = false) (hgates : d.gatesFree .dca = true) (hvout : d.n Obj.V_LVB_MIN ≤ i.vout) (dt : Nat) :
    d.dabActs .dca i dt = d.reverseOn.prePhase 1 := by
  have hoff : d.dabOn .dca = false := by
    rw [Dev.dabOn, hstate]
    rfl
  have hfilter : d.link.job.filter (fun j => j.mode == 1) = some j := by simp [hjob, hmode]
  rw [Dev.dabActs_eq (by rw [hstate]; decide), if_neg (by simp [hoff]), if_pos rfl, hfilter]
  refine (if_pos hphase).trans (if_neg ?_)
  simp [hblocked, hgates, hvout]

/-- The end of a cause keeps the start conditions, the objects and the link. -/
theorem Dev.whenGone_keeps {x y : Dev} {c : Bool} {code : Nat} (h : y = x.when c fun d => d.causeGone code) :
    y.startBlocked .dca = x.startBlocked .dca ∧ y.gatesFree .dca = x.gatesFree .dca ∧ y.obj = x.obj ∧ y.link = x.link ∧ x.RaisesOnly y := by
  subst h
  unfold Dev.when
  split
  · exact ⟨Dev.startBlocked_causeGone _ _ _, Dev.gatesFree_congr _ rfl rfl fun _ _ _ => rfl, rfl, rfl, by simp [Dev.raisesOnly_iff]⟩
  · exact ⟨rfl, rfl, rfl, rfl, frame_raises.refl x⟩

theorem dabKey_of_reading (k : Nat) (h : (isDabReading .dca k || loopKey k) = true) : (dabKey .dca k || isReaction k) = true := by
  rw [Bool.or_eq_true] at h
  rcases h with h | h
  · simp only [isDabReading, List.contains_iff_mem, List.mem_cons, List.not_mem_nil, or_false] at h
    rcases h with rfl | rfl | rfl | rfl | rfl | rfl | rfl <;> decide
  · simp [dabKey, h]

theorem reverseBoundary_starts (s : State) (i : DabIn) (j : Precharge) (halive : s.dev.alive = true) (hlive : s.dev.dead.contains 0x22 = false) (hw : s.dev.writes = [])
    (hstate : s.dev.n (ck .dca Obj.STATE_5400) = 0) (hjob : s.dev.link.job = some j) (hmode : j.mode = 1) (hphase : j.phase = 0) (hblocked : s.dev.startBlocked .dca = false)
    (hgates : s.dev.gatesFree .dca = true) (hvout : s.dev.n Obj.V_LVB_MIN ≤ i.vout) :
    Completes (.converterBoundary .dca i) s (fun e => e.o Obj.STATE_5400 = 5 ∧ e.o Obj.PRE_STATE = 2 ∧ e.raised 0x76 ∧ e.link.job = some { j with phase := 1 } ∧ s.dev.RaisesOnly e ∧ OnlyObjects (fun k => dabKey .dca k || isReaction k) s.dev e) := by
  have hobj := s.dev.onlyObjects_dabReadings .dca i
  have hframe := s.dev.dabOnly_readings .dca i
  have hbound := Dev.dabBoundary_eq hw .dca i
  generalize s.dev.dabReadings .dca i = x at *
  have hcoll : x.coll = s.dev.coll := (congrArg Dev.coll hframe.1 :)
  have hread (k : Nat) (hk : isDabReading .dca k = false ∧ loopKey k = false) (hs : isStatus k = false) : x.o k = s.dev.o k := hobj.same k (by simp [hk]) hs
  have hxblocked : x.startBlocked .dca = false := by
    rw [← hblocked]
    refine Dev.startBlocked_congr _ (fun c => ?_) ?_ (congrArg Dev.power hframe.1 :) (congrArg Dev.fuse hframe.1 :) (congrArg Dev.resetPending hframe.1 :)
      (hread _ (by decide) (by decide)) (hread _ (by decide) (by decide))
    · have hpower : x.power = s.dev.power := (congrArg Dev.power hframe.1 :)
      simp only [Dev.classInForce, hcoll, hpower]
    · simp only [Dev.faultOnDomain, hcoll]
  have hxgates : x.gatesFree .dca = true := by
    rw [← hgates]
    refine Dev.gatesFree_congr _ (congrArg Dev.gates hframe.1 :) (hread _ (by decide) (by decide)) fun n h1 h2 => ?_
    exact hread _ (by interval_cases n <;> decide) (by interval_cases n <;> decide)
  have hxjob : x.link.job = some j := (congrArg (fun d : Dev => d.link.job) hframe.1 :).trans hjob
  obtain ⟨y, hy⟩ : ∃ y, y = x.when (decide (i.vout ≤ s.dev.n (ck .dca Obj.V_OUT_OV))) fun d => d.causeGone (ccode .dca 0x4493) := ⟨_, rfl⟩
  rw [← hy] at hbound
  obtain ⟨hyblocked, hygates, hyobj, hyjob, hyraises⟩ := Dev.whenGone_keeps hy
  have hyo : OnlyObjects (fun k => isDabReading .dca k || loopKey k) s.dev y := hobj.of_obj hyobj
  have hystate : y.n (ck .dca Obj.STATE_5400) = 0 := (Dev.n_eq (hyo.same _ (by decide) (by decide))).trans hstate
  have hylow : y.n Obj.V_LVB_MIN ≤ i.vout := by rwa [Dev.n_eq (hyo.same Obj.V_LVB_MIN (by decide) (by decide))]
  rw [Dev.dabActs_reverse hystate (by rw [hyjob, hxjob]) hmode hphase (hyblocked.trans hxblocked) (hygates.trans hxgates) hylow] at hbound
  refine completes_live_eq _ rfl halive ((if_pos (by simpa using hlive)).trans hbound) ?_
  obtain ⟨hstate5, hpre⟩ := y.reverseOn_values
  have hlink := y.loopsOnly_reverseOn.link
  have hraised : y.reverseOn.raised 0x76 := by simp [Dev.reverseOn]
  have hrest := hframe.raises.trans (hyraises.trans y.loopsOnly_reverseOn.stops.raises)
  have hall := (hyo.mono fun k h => dabKey_of_reading k h).trans (onlyObjects_reverseOn y)
  generalize y.reverseOn = z at *
  refine ⟨?_, ?_, ?_, ?_, ?_, (onlyObjects_updLink hall _).settle⟩
  · rw [Dev.o_settle _ (by decide), ← hstate5]
    rfl
  · rw [Dev.o_settle _ (by decide), ← hpre]
    rfl
  · exact (Dev.raised_settle_iff _ _).mpr hraised
  · rw [Dev.settle_link, Dev.prePhase, Dev.updLink, hlink, hyjob, hxjob]
    rfl
  · exact frame_raises.settle (frame_raises.trans hrest (raises_updLink _ _))


/-! ### The link reaches its voltage (R255 step 4) -/

/-- The roles of the drivers name the contactors (R194). -/
theorem Dev.driver_congr {d e : Dev} (h : ∀ n < 4, e.o (at' Obj.ROLE_5810 n) = d.o (at' Obj.ROLE_5810 n)) (role : Nat) : e.driver role = d.driver role := by
  simp only [Dev.driver, List.find?, Dev.n_eq (h 0 (by decide)), Dev.n_eq (h 1 (by decide)), Dev.n_eq (h 2 (by decide)), Dev.n_eq (h 3 (by decide))]

theorem reverseLink_reached (s : State) (vdc : Nat) (j : Precharge) (n : Nat) (halive : s.dev.alive = true) (hjob : s.dev.preIn 1 = some j) (hmode : j.mode = 1)
    (hnear : 100 * ((vdc : Int) - j.vs).natAbs ≤ 2 * j.vs) (hmain : s.dev.mainOf j.src = some n) :
    Completes (.reverseLinkReached vdc) s (fun e => e.o Obj.PRE_STATE = 3 ∧ e.o Obj.VDC = vdc ∧ (e.ctrOf n).on = true ∧ e.o (at' Obj.STATE_5810 n) = 1 ∧ e.preIn 2 = some { j with phase := 2 } ∧
      ({ s.dev with link := e.link, ctrs := e.ctrs } : Dev).ShowsOnly e ∧ OnlyObjects (fun k => k == Obj.PRE_STATE || k == Obj.VDC || k == at' Obj.STATE_5810 n || k == at' Obj.CYCLES_5810 n) s.dev e) := by
  have hlink : s.dev.link.job = some j := by
    unfold Dev.preIn at hjob
    split at hjob
    · split at hjob
      · simp_all
      · cases hjob
    · cases hjob
  have hn := Dev.mainOf_lt hmain
  have hmain' : (s.dev.setO Obj.VDC vdc).mainOf j.src = some n := by
    rw [← hmain]
    exact Dev.driver_congr (fun m hm => Dev.o_setO_other _ _ (by interval_cases m <;> decide)) _
  have heq : (match s.dev.preIn 1 with
      | some j => s.dev.when (decide (j.mode = 1) && decide (100 * ((vdc : Int) - j.vs).natAbs ≤ 2 * j.vs)) (fun d => (d.setO Obj.VDC vdc).preMain j.src)
      | none => s.dev) = (((s.dev.setO Obj.VDC vdc).prePhase 2).setO Obj.PRE_STATE 3).coilOn n := by
    simp [hjob, hmode, hnear, Dev.when, Dev.preMain, hmain']
  refine completes_live_eq _ rfl halive heq ⟨?_, ?_, ?_, ?_, ?_, ?_, ?_⟩
  · interval_cases n <;> simp +decide [Dev.coilOn, Dev.o_eq]
  · interval_cases n <;> simp +decide [Dev.coilOn, Dev.o_eq, Dev.prePhase, Dev.updLink]
  · simp [Dev.coilOn, Dev.ctrOf, Dev.updCtr, Dev.addSat]
  · interval_cases n <;> simp +decide [Dev.coilOn, Dev.o_eq]
  · simp [Dev.preIn, Dev.coilOn, Dev.updCtr, Dev.addSat, Dev.prePhase, Dev.updLink, hlink]
  · simp +contextual [Dev.showsOnly_iff, Dev.unshown, Dev.coilOn, Dev.updCtr, Dev.addSat, Dev.setO, Dev.prePhase, Dev.updLink]
  · simp [onlyObjects_iff, Dev.coilOn, Dev.prePhase, Dev.updLink]

/-! ### The failure (R255, R256) -/

/-- A precharge has failed: PRE_STATE reads 5, at once or at the end of the discharge. -/
structure Dev.PreFailed (d : Dev) : Prop where
  state : d.o Obj.PRE_STATE = 5 ∨ d.o Obj.PRE_STATE = 6 ∧ d.link.after = 5
  job : d.link.job = none

theorem Dev.PreFailed.of_obj {d e : Dev} (h : d.PreFailed) {ks : Nat → Bool} (hobj : OnlyObjects ks d e) (hk : ks Obj.PRE_STATE = false) (hlink : e.link = d.link) :
    e.PreFailed := by
  have ho := hobj.same _ hk (by decide)
  exact ⟨by rw [ho, hlink]; exact h.state, by rw [hlink]; exact h.job⟩

/-- The chopper's drive keeps the failure. -/
theorem Dev.preFailed_driveChopper {d : Dev} (h : d.PreFailed) : d.driveChopper.PreFailed := by
  have ho := d.driveChopper_frame.2.2.same Obj.PRE_STATE (by decide) (by decide)
  have hlink := d.driveChopper_link
  refine ⟨?_, ?_⟩
  · rw [ho, hlink]
    exact h.state
  · rw [hlink]
    exact h.job

theorem Dev.preFailed_dischargeGo {d : Dev} (h : d.PreFailed) (hafter : d.link.after = 5) : d.dischargeGo.PreFailed := by
  unfold Dev.dischargeGo
  split
  · split
    · exact Dev.preFailed_driveChopper ⟨.inl (by simp [Dev.o_eq, hafter, Dev.updLink]), h.job⟩
    · exact Dev.preFailed_driveChopper ⟨h.state, h.job⟩
  · exact h

/-- A failed precharge discharges the link and reads 5 at its end (R203). -/
theorem Dev.preFailed_dischargeStart {d : Dev} (hstate : d.o Obj.PRE_STATE = 5) (hjob : d.link.job = none) : d.dischargeStart.PreFailed := by
  have hn : d.n Obj.PRE_STATE = 5 := by simp [Dev.n, hstate]
  unfold Dev.dischargeStart
  split
  · exact ⟨.inl hstate, hjob⟩
  · exact Dev.preFailed_dischargeGo ⟨.inr ⟨Dev.o_setO_same _ _ _, rfl⟩, hjob⟩ rfl

theorem Dev.preFailed_linkShut {d : Dev} (hstate : d.o Obj.PRE_STATE = 5) (hjob : d.link.job = none) : d.linkShut.PreFailed := by
  have hopen {d : Dev} (src : Nat) (h : d.o Obj.PRE_STATE = 5 ∧ d.link.job = none) : (d.openSource src).o Obj.PRE_STATE = 5 ∧ (d.openSource src).link.job = none := by
    unfold Dev.openSource Dev.when
    split
    · split
      · exact h
      · exact h
    · exact h
  have habort : d.abortPrecharge = d := by simp [Dev.abortPrecharge, hjob]
  rw [Dev.linkShut, habort]
  obtain ⟨h1, h2⟩ := hopen 1 (hopen 0 ⟨hstate, hjob⟩)
  exact Dev.preFailed_dischargeStart h1 h2

theorem Dev.preFailed_raise {d : Dev} (hstate : d.o Obj.PRE_STATE = 5) (hjob : d.link.job = none) {code : Nat} (lasting : Bool) (src : FaultSrc)
    (hclass : faultClass code = 2) (hdom : codeDomain (faultDomain code) = .lnk) : (d.raise code lasting src).PreFailed := by
  obtain ⟨b, ⟨hrest, hobj⟩, hcases⟩ := d.raiseWith_stop .lnk src lasting false hclass
  have hb : b.o Obj.PRE_STATE = 5 := (hobj.same _ (by decide) (by decide)).trans hstate
  have hbjob : b.link.job = none := by rw [hrest.link]; exact hjob
  rw [Dev.raise, hdom]
  obtain h | h := hcases <;> rw [h]
  · exact ⟨.inl hb, hbjob⟩
  · exact Dev.preFailed_linkShut hb hbjob

theorem Dev.coilOff?_link (d : Dev) (n : Option Nat) : (d.coilOff? n).link = d.link := by
  unfold Dev.coilOff? Dev.coilOff
  split
  · split <;> rfl
  · rfl

/-- After its abort no precharge is in progress. -/
theorem Dev.abortPrecharge_job (d : Dev) : d.abortPrecharge.link.job = none := by
  have hwhen (d : Dev) (c : Bool) (f : Dev → Dev) (hf : (f d).link = d.link) : (d.when c f).link = d.link := by
    unfold Dev.when
    split
    · exact hf
    · rfl
  have hswitch (d : Dev) : (d.setPreSwitch false).link = d.link := by
    unfold Dev.setPreSwitch
    split <;> rfl
  unfold Dev.abortPrecharge
  split
  · assumption
  · next j _ =>
    have hcoil (x : Dev) (h : x.link.job = none) (n : Option Nat) : (x.coilOff? n).link.job = none := by rw [Dev.coilOff?_link, h]
    have hpre := hcoil (d.updLink fun l => { l with job := none }) rfl (d.preOf j.src)
    generalize (d.updLink fun l => { l with job := none }).coilOff? (d.preOf j.src) = x at hpre ⊢
    have hsw : (x.when (decide (j.mode = 2)) fun d => d.setPreSwitch false).link.job = none := by rw [hwhen _ _ _ (hswitch x), hpre]
    generalize (x.when (decide (j.mode = 2)) fun d => d.setPreSwitch false) = y at hsw ⊢
    have hoff : (y.when (decide (j.mode = 1) && decide (d.n Obj.STATE_5400 = 5)) fun d => d.dabOff .dca 1).link.job = none := by
      rw [hwhen _ _ _ (y.loopsOnly_dabOff .dca 1).link, hsw]
    generalize (y.when (decide (j.mode = 1) && decide (d.n Obj.STATE_5400 = 5)) fun d => d.dabOff .dca 1) = z at hoff ⊢
    simp only []
    split
    · exact hcoil z hoff _
    · exact hoff

theorem reversePrecharge_fails (s : State) (vdc vout : Nat) (timeout : Bool) (j : Precharge) (halive : s.dev.alive = true) (hjob : s.dev.link.job = some j) (hmode : j.mode = 1)
    (hphase : j.phase ≤ 2) (hfail : vout < s.dev.n Obj.V_LVB_MIN ∨ 105 * j.vs < 100 * vdc ∨ (timeout = true ∧ j.phase < 2)) :
    Completes (.reversePrechargeFail vdc vout timeout) s (fun e => (e.o Obj.PRE_STATE = 5 ∨ (e.o Obj.PRE_STATE = 6 ∧ e.link.after = 5)) ∧ e.raised 0x89 ∧ e.inForce 0x6477 .lnk ∧ e.link.job = none ∧ s.dev.RaisesOnly e ∧ OnlyObjects (fun k => k == Obj.VDC || isReaction k) s.dev e) := by
  let d0 := s.dev.setO Obj.VDC vdc
  let x := d0.abortPrecharge.coilOff? (d0.mainOf j.src)
  have hxjob : x.link.job = none := by rw [Dev.coilOff?_link, Dev.abortPrecharge_job]
  have hx : d0.StopsOnly x := (Dev.stops_abortPrecharge d0).trans (Dev.stops_coilOff? _ _)
  have hxobj : OnlyObjects isReaction d0 x := (quiet_abortPrecharge d0).trans (by
    unfold x
    cases hmain : d0.mainOf j.src with
    | none => exact .refl _
    | some n => exact quiet_coilOff _ (Dev.mainOf_lt hmain))
  have heq : d0.preFail = ((x.setO Obj.PRE_STATE 5).event 0x89).raise 0x6477 false { ini := 0x01, acc := 5 } := by
    unfold Dev.preFail
    rw [show d0.link.job = some j from hjob]
  have hcond : (decide (j.mode = 1) && decide (j.phase ≤ 2) &&
      (decide (vout < s.dev.n Obj.V_LVB_MIN) || decide (105 * j.vs < 100 * vdc) || (timeout && decide (j.phase < 2)))) = true := by
    simp only [hmode, hphase, decide_true, Bool.true_and, Bool.or_eq_true, Bool.and_eq_true, decide_eq_true_eq]
    tauto
  have hrun : (match s.dev.link.job with
      | some j => s.dev.when (decide (j.mode = 1) && decide (j.phase ≤ 2) &&
          (decide (vout < s.dev.n Obj.V_LVB_MIN) || decide (105 * j.vs < 100 * vdc) || (timeout && decide (j.phase < 2)))) (fun d => (d.setO Obj.VDC vdc).preFail)
      | none => s.dev) = d0.preFail := by
    rw [hjob]
    exact if_pos hcond
  refine completes_live_eq _ rfl halive (hrun.trans heq) ?_
  have hobj0 : OnlyObjects (fun k => k == Obj.VDC || isReaction k) s.dev d0 := (OnlyObjects.refl s.dev).setO _ _ (by decide)
  have hobj := (hobj0.trans (hxobj.mono fun k h => by rw [h, Bool.or_true])).setO Obj.PRE_STATE 5 (by decide)
  have hrest : s.dev.RaisesOnly (x.setO Obj.PRE_STATE 5) := frame_raises.setO (frame_raises.trans (frame_raises.setO (frame_raises.refl _) _ _) hx.raises) _ _
  have hstate : (x.setO Obj.PRE_STATE 5).o Obj.PRE_STATE = 5 := Dev.o_setO_same _ _ _
  have hjob' : (x.setO Obj.PRE_STATE 5).link.job = none := hxjob
  generalize x.setO Obj.PRE_STATE 5 = y at *
  have hfailed := Dev.preFailed_raise (d := y.event 0x89) (by rw [Dev.o_event _ _ (by decide), hstate]) (by rw [Dev.event_link, hjob']) (code := 0x6477) false
    { ini := 0x01, acc := 5 } (by decide) (by decide)
  refine ⟨?_, ?_, ?_, ?_, ?_, ?_⟩
  · rw [Dev.o_settle _ (by decide), Dev.settle_link]
    exact hfailed.state
  · simpa using Dev.raised_raise (by simp) _ _ _
  · exact Dev.inForce_settle (Dev.inForce_raise_on _ _ _ (by decide) (by decide))
  · rw [Dev.settle_link]
    exact hfailed.job
  · exact frame_raises.settle (frame_raises.raise (frame_raises.event hrest _) _ _ _)
  · exact ((hobj.event _ fun k h => by rw [isReaction_trace h, Bool.or_true]).raise _ _ _ fun k h => by rw [h, Bool.or_true]).settle

/-- Settles O26: DCA enters reverse operation at its boundary, the main closes at the link's voltage, and a failure opens what closed. -/
theorem reversePrecharge : Obligations.ReversePrecharge :=
  ⟨reverseBoundary_starts, reverseLink_reached, reversePrecharge_fails⟩

end Sys2Proof.Machine
end

section
/-! A latch of the chopper's channel shows in OV_TIER (R207, R277, O27). -/

namespace Sys2Proof.Machine

/-- The E960 in service, all else as after reset. -/
def freshService : State := { pending := [], dev := { State.reset.dev with phase := .service } }

/-- The link latch of channel 35, a switch of the chopper, makes the chopper faulty, and OV_TIER reads 1 (R204, R207). -/
theorem chopperLatch_tier : (freshService.dev.latchOff 35 4 0x14 0x0A5).o Obj.OV_TIER = 1 := by
  decide

/-- Refutes O27: the clause on a missing link lists no OV_TIER among the objects that change, and a latch of a chopper switch raises it from 0 to 1. -/
theorem not_gateLatches : ¬ Obligations.GateLatches := by
  unfold Obligations.GateLatches
  intro h
  obtain ⟨-, -, -, -, -, -, -, -, hlink, -⟩ := h
  obtain ⟨t, hexec, -, -, -, -, -, hobj⟩ := hlink freshService 34 rfl (by decide)
  have hrun : exec (.sysGateLink 34) freshService = .next { freshService with dev := (freshService.dev.latchOff 35 4 0x14 0x0A5).settle } := rfl
  rw [hrun] at hexec
  cases hexec
  have hsettle := (Dev.o_settle (freshService.dev.latchOff 35 4 0x14 0x0A5) (k := Obj.OV_TIER) (by decide)).trans chopperLatch_tier
  exact absurd (hsettle.symm.trans (hobj.same Obj.OV_TIER (by decide) (by decide))) (by decide)

end Sys2Proof.Machine
end

section
/-! The boundaries of the low-voltage half-bridges, their budget, a shunt's trip and a loop sample (R166, R167, R287, R290, R291, R297, R298, R310, O29). -/

namespace Sys2Proof.Machine

/-! ### The trip of a shunt (R290) -/

/-- A bit that is written in a list of half-bridges leaves the other bits. -/
theorem bit_foldl_setBit_other (key : Nat → Nat) {i j : Nat} (hij : j ≠ i) (b : Bool) (l : List Nat) (d : Dev) (k : Nat) :
    bitOf ((l.foldl (fun d n => d.setBit (key n) i b) d).o k) j = bitOf (d.o k) j := by
  induction l generalizing d with
  | nil => rfl
  | cons n ns ih =>
    refine (ih _).trans ?_
    rw [Dev.o_setBit]
    split
    · next h => rw [bitOf_putBit_other _ _ hij, h]
    · rfl

theorem hbStatus_quiet {n : Nat} (h1 : 1 ≤ n) (h28 : n ≤ 28) : isStatus (el Obj.HB_STATUS n) = false ∧ isTraceCount (el Obj.HB_STATUS n) = false ∧
    isReaction (el Obj.HB_STATUS n) = false := by
  interval_cases n <;> decide

theorem mem_hbsOf {k n : Nat} (hk : k < 8) (h : n ∈ hbsOf k) : 1 ≤ n ∧ n ≤ 28 := by
  unfold hbsOf at h
  split at h <;> simp only [List.mem_cons, List.not_mem_nil, or_false] at h <;> omega

@[simp] theorem Dev.bldcOf_updBldc (d : Dev) (g : Nat) (f : Bldc → Bldc) : (d.updBldc g f).bldcOf g = f (d.bldcOf g) := by
  simp [Dev.bldcOf, Dev.updBldc]

theorem Dev.bldcOf_updBldc_other (d : Dev) {g h : Nat} (f : Bldc → Bldc) (hne : h ≠ g) : (d.updBldc g f).bldcOf h = d.bldcOf h :=
  Tab.get_upd_other _ _ _ hne

theorem cycleTrip_bldc (s : State) (j : Fin 8) (coil : Fin 2) (before : Bool) (halive : s.dev.alive = true) (hj : 4 ≤ j.val) :
    Completes (.cycleByCycleTrip j coil before) s (fun e => (∀ n ∈ hbsOf j, bitOf (e.o (el Obj.HB_STATUS n)) 0 = false ∧ ∀ b : Fin 7, 0 < b.val → bitOf (e.o (el Obj.HB_STATUS n)) b = bitOf (s.dev.o (el Obj.HB_STATUS n)) b) ∧
      (e.bldcOf (j - 4)).tripped = (before || (s.dev.bldcOf (j - 4)).tripped) ∧ ({ s.dev with bldcs := e.bldcs } : Dev).ShowsOnly e ∧ OnlyObjects (fun k => (hbsOf j).any (fun n => k == el Obj.HB_STATUS n)) s.dev e) := by
  let d1 := (hbsOf j).foldl (fun d n => d.setBit (el Obj.HB_STATUS n) 0 false) s.dev
  have hshow : s.dev.ShowsOnly d1 := Dev.shows_foldl (fun d n => d.showsOnly_setO _ _) _ _
  have hobj : OnlyObjects (fun k => (hbsOf j).any (fun n => k == el Obj.HB_STATUS n)) s.dev d1 :=
    (OnlyObjects.refl s.dev).foldl _ fun d n hn => (OnlyObjects.refl d).setBit _ _ _ (by
      rw [Bool.or_eq_true, List.any_eq_true]
      exact .inl ⟨n, hn, by simp⟩)
  have hbits (n : Nat) (hn : n ∈ hbsOf j) : bitOf (d1.o (el Obj.HB_STATUS n)) 0 = false ∧
      ∀ b : Fin 7, 0 < b.val → bitOf (d1.o (el Obj.HB_STATUS n)) b = bitOf (s.dev.o (el Obj.HB_STATUS n)) b :=
    ⟨bit_foldl_setBit (el Obj.HB_STATUS) 0 false _ _ n (.inl hn), fun b hb => bit_foldl_setBit_other _ (by omega) _ _ _ _⟩
  have heq : s.dev.cycleTrip j coil before = d1.when before (fun d => d.updBldc (j - 4) (fun b => { b with tripped := true })) := by
    simp only [Dev.cycleTrip, if_neg (Nat.not_lt.mpr hj), decide_eq_true hj, Bool.true_and]
    rfl
  have hy : (d1.when before (fun d => d.updBldc (j - 4) (fun b => { b with tripped := true }))).obj = d1.obj ∧
      ((d1.when before (fun d => d.updBldc (j - 4) (fun b => { b with tripped := true }))).bldcOf (j - 4)).tripped = (before || (s.dev.bldcOf (j - 4)).tripped) ∧
      (s.dev.Outside (fun x => { x with bldcs := [] }) (d1.when before (fun d => d.updBldc (j - 4) (fun b => { b with tripped := true })))) := by
    have hframe : s.dev.Outside (fun x => { x with bldcs := [] }) d1 := (frame_outside _).shows hshow
    cases before with
    | false => exact ⟨rfl, congrArg (fun t : Tab Bldc => (Tab.get {} t (j - 4) : Bldc).tripped) hshow.bldcs, hframe⟩
    | true => exact ⟨rfl, by simp [Dev.when], (frame_outside _).trans hframe (Dev.outside_of_eq rfl rfl)⟩
  generalize d1.when before (fun d => d.updBldc (j - 4) (fun b => { b with tripped := true })) = y at *
  obtain ⟨hyobj, htrip, hframe⟩ := hy
  refine completes_live_eq _ rfl halive heq ⟨fun n hn => ?_, ?_, ?_, (hobj.of_obj hyobj).settle⟩
  · obtain ⟨h1, h28⟩ := mem_hbsOf j.isLt hn
    rw [Dev.o_settle _ (hbStatus_quiet h1 h28).1, Dev.o_eq, hyobj, ← Dev.o_eq]
    exact hbits n hn
  · simpa [Dev.bldcOf] using htrip
  · rw [Dev.settle_bldcs]
    refine frame_shows.settle (Dev.showsOnly_iff.mpr ⟨?_, hframe.2⟩)
    exact congrArg (fun x : Dev => { x with bldcs := y.bldcs }) hframe.1

theorem cycleTrip_stepper (s : State) (j : Fin 8) (coil : Fin 2) (before : Bool) (halive : s.dev.alive = true) (hj : j.val < 4) :
    Completes (.cycleByCycleTrip j coil before) s (fun e => bitOf (e.o (el Obj.HB_STATUS (4 * j + 2 * coil + 1))) 0 = false ∧ bitOf (e.o (el Obj.HB_STATUS (4 * j + 2 * coil + 2))) 0 = false ∧ s.dev.ShowsOnly e ∧
      OnlyObjects (fun k => k == el Obj.HB_STATUS (4 * j + 2 * coil + 1) || k == el Obj.HB_STATUS (4 * j + 2 * coil + 2)) s.dev e) := by
  let l := [4 * j.val + 2 * coil.val + 1, 4 * j.val + 2 * coil.val + 2]
  let d1 := l.foldl (fun d n => d.setBit (el Obj.HB_STATUS n) 0 false) s.dev
  have heq : s.dev.cycleTrip j coil before = d1 := by
    simp only [Dev.cycleTrip, if_pos hj, decide_eq_false (Nat.not_le.mpr hj), Bool.false_and]
    rfl
  have hbit (n : Nat) (hn : n ∈ l) (h28 : n ≤ 28) (h1 : 1 ≤ n) : bitOf (d1.settle.o (el Obj.HB_STATUS n)) 0 = false := by
    rw [Dev.o_settle _ (hbStatus_quiet h1 h28).1]
    exact bit_foldl_setBit (el Obj.HB_STATUS) 0 false _ _ n (.inl hn)
  refine completes_live_eq d1 rfl halive heq ⟨hbit _ (by simp [l]) (by omega) (by omega), hbit _ (by simp [l]) (by omega) (by omega), ?_, ?_⟩
  · exact frame_shows.settle (Dev.shows_foldl (fun d n => d.showsOnly_setO _ _) _ _)
  · refine OnlyObjects.settle ((OnlyObjects.refl s.dev).foldl _ fun d n hn => (OnlyObjects.refl d).setBit _ _ _ ?_)
    simp only [l, List.mem_cons, List.not_mem_nil, or_false] at hn
    rcases hn with rfl | rfl <;> simp

/-! ### The budget of VLV (R291) -/

/-- The budget taken from the BLDC groups, with I_VLV as measured. -/
def Dev.budgetTaken (d : Dev) (i : Int) (r3 r2 r1 r0 : Nat) : Dev :=
  ((((d.setO Obj.I_VLV (clampI (-32768) 32767 i)).updBldc 3 (fun b => { b with reduce := r3 })).updBldc 2 (fun b => { b with reduce := r2 })).updBldc 1
    (fun b => { b with reduce := r1 })).updBldc 0 (fun b => { b with reduce := r0 })

/-- BL3 gives first, then BL2, BL1 and BL0. -/
theorem Dev.vlvBudget_eq (d : Dev) (i : Int) : d.vlvBudget i =
    (d.budgetTaken i (min (i - 800).toNat (d.n (at' Obj.I_LIMIT_7100 3)))
      (min ((i - 800).toNat - d.n (at' Obj.I_LIMIT_7100 3)) (d.n (at' Obj.I_LIMIT_7100 2)))
      (min ((i - 800).toNat - d.n (at' Obj.I_LIMIT_7100 3) - d.n (at' Obj.I_LIMIT_7100 2)) (d.n (at' Obj.I_LIMIT_7100 1)))
      (min ((i - 800).toNat - d.n (at' Obj.I_LIMIT_7100 3) - d.n (at' Obj.I_LIMIT_7100 2) - d.n (at' Obj.I_LIMIT_7100 1)) (d.n (at' Obj.I_LIMIT_7100 0)))).showLimit := by
  have hset (g : Nat) (hg : g < 4) : (d.setO Obj.I_VLV (clampI (-32768) 32767 i)).n (at' Obj.I_LIMIT_7100 g) = d.n (at' Obj.I_LIMIT_7100 g) :=
    Dev.n_eq (Dev.o_setO_other _ _ (by interval_cases g <;> decide))
  have hupd (d : Dev) (g : Nat) (f : Bldc → Bldc) (k : Nat) : (d.updBldc g f).n k = d.n k := rfl
  have hsub (a b : Nat) : a - min a b = a - b := by omega
  unfold Dev.vlvBudget Dev.budgetTaken
  simp only [List.foldl_cons, List.foldl_nil, hupd, hset 3 (by decide), hset 2 (by decide), hset 1 (by decide), hset 0 (by decide), hsub]

theorem Dev.lvHot_congr {d e : Dev} (h : ∀ n, 1 ≤ n → n ≤ 28 → e.o (el Obj.I_MODEL n) = d.o (el Obj.I_MODEL n)) {k : Nat} (hk : k < 8) : e.lvHot k = d.lvHot k := by
  unfold Dev.lvHot
  rw [Bool.eq_iff_iff, List.any_eq_true, List.any_eq_true]
  refine exists_congr fun n => and_congr_right fun hn => ?_
  rw [Dev.n_eq (h n (mem_hbsOf hk hn).1 (mem_hbsOf hk hn).2)]

theorem Dev.bldcOf_budgetTaken (d : Dev) (i : Int) (r3 r2 r1 r0 : Nat) (g : Nat) (hg : g < 4) :
    (d.budgetTaken i r3 r2 r1 r0).bldcOf g = { d.bldcOf g with reduce := [r0, r1, r2, r3].getD g 0 } := by
  unfold Dev.budgetTaken
  interval_cases g
  · rw [Dev.bldcOf_updBldc, Dev.bldcOf_updBldc_other _ _ (by decide), Dev.bldcOf_updBldc_other _ _ (by decide), Dev.bldcOf_updBldc_other _ _ (by decide)]
    rfl
  · rw [Dev.bldcOf_updBldc_other _ _ (by decide), Dev.bldcOf_updBldc, Dev.bldcOf_updBldc_other _ _ (by decide), Dev.bldcOf_updBldc_other _ _ (by decide)]
    rfl
  · rw [Dev.bldcOf_updBldc_other _ _ (by decide), Dev.bldcOf_updBldc_other _ _ (by decide), Dev.bldcOf_updBldc, Dev.bldcOf_updBldc_other _ _ (by decide)]
    rfl
  · rw [Dev.bldcOf_updBldc_other _ _ (by decide), Dev.bldcOf_updBldc_other _ _ (by decide), Dev.bldcOf_updBldc_other _ _ (by decide), Dev.bldcOf_updBldc]
    rfl

theorem Dev.o_budgetTaken (d : Dev) (i : Int) (r3 r2 r1 r0 : Nat) (k : Nat) :
    (d.budgetTaken i r3 r2 r1 r0).o k = (d.setO Obj.I_VLV (clampI (-32768) 32767 i)).o k := rfl

/-- What the budget changes beside I_VLV. -/
def Dev.BudgetOnly : Dev → Dev → Prop := Dev.Outside fun x => { x with bldcs := [], lvLimit := false }

theorem frame_budget : Frame Dev.BudgetOnly := frame_outside _

theorem Dev.budgetOnly_taken (d : Dev) (i : Int) (r3 r2 r1 r0 : Nat) : d.BudgetOnly (d.budgetTaken i r3 r2 r1 r0) :=
  have hupd (d : Dev) (g : Nat) (f : Bldc → Bldc) : d.BudgetOnly (d.updBldc g f) := Dev.outside_of_eq rfl rfl
  frame_budget.trans (frame_budget.trans (frame_budget.trans (frame_budget.trans (frame_budget.setO (frame_budget.refl d) Obj.I_VLV (clampI (-32768) 32767 i))
    (hupd _ _ _)) (hupd _ _ _)) (hupd _ _ _)) (hupd _ _ _)

/-- No limit binds, and none is reported (R290, R291). -/
theorem Dev.showLimit_free {d : Dev} (h : d.lvBinds = false) : d.showLimit = { d with lvLimit := false } := by
  unfold Dev.showLimit
  rw [h]
  rfl

/-- The half-bridge that a limit's report names: the first one that binds. -/
def Dev.bindingHb (d : Dev) : Nat :=
  (((List.range 28).map (· + 1)).find? (fun n => d.lvHot (hbGroup n) || (decide (17 ≤ n) && (d.bldcOf ((n - 17) / 3)).reduce != 0))).getD 1

/-- A limit that begins to bind is reported (R291). -/
theorem Dev.showLimit_new {d : Dev} (h : d.lvBinds = true) (hlim : d.lvLimit = false) : d.showLimit =
    (({ d with lvLimit := true } : Dev).event 0x9A).raise 0x70C6 false { addr := Dev.bindingHb { d with lvLimit := true }, ini := 0x3A, acc := 5 } := by
  unfold Dev.showLimit
  rw [h, hlim]
  rfl

theorem vlvBudget_within (s : State) (i : Int) (halive : s.dev.alive = true) (hi : i ≤ 800) (hcool : ((List.range 8).any (fun k => s.dev.lvHot k) = false)) :
    Completes (.vlvBudgetEval i) s (fun e => e.o Obj.I_VLV = clampI (-32768) 32767 i ∧ (∀ g : Fin 4, e.bldcOf g = { s.dev.bldcOf g with reduce := 0 }) ∧ e.lvLimit = false ∧ ({ s.dev with bldcs := e.bldcs, lvLimit := e.lvLimit } : Dev).ShowsOnly e ∧ OnlyObjects (fun k => k == Obj.I_VLV) s.dev e) := by
  have heq := s.dev.vlvBudget_eq i
  have h0 : (i - 800).toNat = 0 := by omega
  simp only [h0, Nat.zero_sub, Nat.zero_min] at heq
  have hframe := s.dev.budgetOnly_taken i 0 0 0 0
  have ho := s.dev.o_budgetTaken i 0 0 0 0
  have hreduce (g : Fin 4) : (s.dev.budgetTaken i 0 0 0 0).bldcOf g = { s.dev.bldcOf g with reduce := 0 } := by
    rw [Dev.bldcOf_budgetTaken _ _ _ _ _ _ _ g.isLt]
    fin_cases g <;> rfl
  generalize s.dev.budgetTaken i 0 0 0 0 = d1 at *
  have hhot (k : Nat) (hk : k < 8) : d1.lvHot k = s.dev.lvHot k :=
    Dev.lvHot_congr (fun n h1 h28 => (ho _).trans (Dev.o_setO_other _ _ (by interval_cases n <;> decide))) hk
  have hbinds : d1.lvBinds = false := by
    have hany : (List.range 8).any (fun k => d1.lvHot k) = false := by
      rw [List.any_eq_false] at hcool ⊢
      exact fun k hk => by rw [hhot k (List.mem_range.mp hk)]; exact hcool k hk
    simp only [Dev.lvBinds, hany, List.any_cons, List.any_nil]
    simp [show d1.bldcOf 0 = _ from hreduce 0, show d1.bldcOf 1 = _ from hreduce 1, show d1.bldcOf 2 = _ from hreduce 2, show d1.bldcOf 3 = _ from hreduce 3]
  refine completes_live_eq _ rfl halive (heq.trans (Dev.showLimit_free hbinds)) ⟨?_, ?_, ?_, ?_, ?_⟩
  · rw [Dev.o_settle _ (by decide)]
    exact (ho _).trans (Dev.o_setO_same _ _ _)
  · intro g
    rw [← hreduce g]
    simp [Dev.bldcOf]
  · simp
  · rw [Dev.settle_bldcs, Dev.settle_lvLimit]
    refine frame_shows.settle (Dev.showsOnly_iff.mpr ⟨?_, hframe.2⟩)
    exact (congrArg (fun x : Dev => { x with bldcs := d1.bldcs, lvLimit := false }) hframe.1 :)
  · refine OnlyObjects.settle ⟨fun k hk _ => ?_⟩
    exact (ho k).trans (Dev.o_setO_other _ _ (by simpa using hk))

theorem vlvBudget_beyond (s : State) (i : Int) (halive : s.dev.alive = true) (hi : 800 < i) (hlim : s.dev.lvLimit = false) (hpos : 0 < s.dev.n (at' Obj.I_LIMIT_7100 3)) :
    Completes (.vlvBudgetEval i) s (fun e => e.o Obj.I_VLV = clampI (-32768) 32767 i ∧ (e.bldcOf 3).reduce = min (i - 800).toNat (s.dev.n (at' Obj.I_LIMIT_7100 3)) ∧
      (e.bldcOf 2).reduce = min ((i - 800).toNat - s.dev.n (at' Obj.I_LIMIT_7100 3)) (s.dev.n (at' Obj.I_LIMIT_7100 2)) ∧
      e.raised 0x9A ∧ e.coll.log.getLast?.map LogRec.code = some 0x70C6 ∧ e.lvLimit = true ∧ ({ s.dev with bldcs := e.bldcs, lvLimit := e.lvLimit } : Dev).RaisesOnly e ∧ OnlyObjects (fun k => k == Obj.I_VLV || isReaction k) s.dev e) := by
  have heq := s.dev.vlvBudget_eq i
  have hr3 : min (i - 800).toNat (s.dev.n (at' Obj.I_LIMIT_7100 3)) ≠ 0 := by omega
  generalize min (i - 800).toNat (s.dev.n (at' Obj.I_LIMIT_7100 3)) = r3 at *
  generalize min ((i - 800).toNat - s.dev.n (at' Obj.I_LIMIT_7100 3)) (s.dev.n (at' Obj.I_LIMIT_7100 2)) = r2 at *
  generalize min _ (s.dev.n (at' Obj.I_LIMIT_7100 1)) = r1 at heq
  generalize min _ (s.dev.n (at' Obj.I_LIMIT_7100 0)) = r0 at heq
  have hframe := s.dev.budgetOnly_taken i r3 r2 r1 r0
  have ho := s.dev.o_budgetTaken i r3 r2 r1 r0
  have hb3 := s.dev.bldcOf_budgetTaken i r3 r2 r1 r0 3 (by decide)
  have hb2 := s.dev.bldcOf_budgetTaken i r3 r2 r1 r0 2 (by decide)
  have hlim' : (s.dev.budgetTaken i r3 r2 r1 r0).lvLimit = false := hlim
  generalize s.dev.budgetTaken i r3 r2 r1 r0 = d1 at *
  have hbinds : d1.lvBinds = true := by
    simp [Dev.lvBinds, hb3, hr3]
  have hobj : OnlyObjects (fun k => k == Obj.I_VLV || isReaction k) s.dev d1 := ⟨fun k hk _ => (ho k).trans (Dev.o_setO_other _ _ (by
    rintro rfl
    simp at hk))⟩
  have hshown := heq.trans (Dev.showLimit_new hbinds hlim')
  generalize hx : ({ d1 with lvLimit := true } : Dev) = x at hshown
  have hxo : OnlyObjects (fun k => k == Obj.I_VLV || isReaction k) s.dev x := hobj.of_obj (by rw [← hx])
  have hlast := Dev.lastCode_raise (x.event 0x9A) (code := 0x70C6) false { addr := x.bindingHb, ini := 0x3A, acc := 5 } (by decide)
  have hrest : x.RaisesOnly (((x.event 0x9A).raise 0x70C6 false { addr := x.bindingHb, ini := 0x3A, acc := 5 }).settle) :=
    frame_raises.settle (frame_raises.raise (frame_raises.event (frame_raises.refl x) _) _ _ _)
  have hvlv : (((x.event 0x9A).raise 0x70C6 false { addr := x.bindingHb, ini := 0x3A, acc := 5 }).settle).o Obj.I_VLV = x.o Obj.I_VLV := by
    rw [Dev.o_settle _ (by decide)]
    exact (((OnlyObjects.refl x).event 0x9A fun _ h => isReaction_trace h).raise _ _ _ fun _ h => h).same _ (by decide) (by decide)
  have hall := (((hxo.event 0x9A fun k h => by rw [isReaction_trace h, Bool.or_true]).raise 0x70C6 false { addr := x.bindingHb, ini := 0x3A, acc := 5 }
    fun k h => by rw [h, Bool.or_true])).settle
  have hraised : (((x.event 0x9A).raise 0x70C6 false { addr := x.bindingHb, ini := 0x3A, acc := 5 }).settle).raised 0x9A := by
    simpa using Dev.raised_raise (by simp) _ _ _
  refine completes_live_eq _ rfl halive hshown ?_
  rw [← Dev.settle_coll] at hlast
  generalize ((x.event 0x9A).raise 0x70C6 false { addr := x.bindingHb, ini := 0x3A, acc := 5 }).settle = e at *
  obtain ⟨hun, hevq⟩ := Dev.raisesOnly_iff.mp hrest
  have hbldcs : e.bldcs = d1.bldcs := (congrArg Dev.bldcs hun :).trans (by rw [← hx]; rfl)
  have hlimit : e.lvLimit = true := (congrArg Dev.lvLimit hun :).trans (by rw [← hx]; rfl)
  refine ⟨?_, ?_, ?_, hraised, hlast, hlimit, ?_, hall⟩
  · rw [hvlv, ← hx]
    exact (ho _).trans (Dev.o_setO_same _ _ _)
  · rw [Dev.bldcOf, hbldcs]
    exact (congrArg Bldc.reduce hb3 :)
  · rw [Dev.bldcOf, hbldcs]
    exact (congrArg Bldc.reduce hb2 :)
  · rw [hbldcs, hlimit]
    refine frame_raises.trans (b := x) ?_ hrest
    rw [← hx]
    refine Dev.raisesOnly_iff.mpr ⟨?_, hframe.2⟩
    exact (congrArg (fun y : Dev => ({ y.unraised with bldcs := d1.bldcs, lvLimit := true } : Dev)) hframe.1 :)

end Sys2Proof.Machine
end

section
/-! The sample of a free loop slot at its own trigger (R166, R167, O29). -/

namespace Sys2Proof.Machine

section
variable {d : Dev} {L : Nat}

theorem Dev.loopWrites_nil (hw : d.writes = []) : d.loopWrites L = d := by
  unfold Dev.loopWrites
  rw [hw]
  exact congrArg (fun w => ({ d with writes := w } : Dev)) hw.symm

/-- Nothing delays the sample of an enabled slot that is neither blocked, frozen nor being moved (R167 steps 1 and 2). -/
theorem Dev.loopOpen_ready (hw : d.writes = []) (hblocked : d.leBlocked.contains (L / 16) = false) (hmove : d.leMoving = none)
    (hon : d.b (lk Obj.ENABLE_A100 L) = true) (hfrozen : d.loopFrozen L = false) (hhold : (d.loopOf L).holdNext = false) (hswap : (d.loopOf L).swap = false) :
    d.loopOpen L = (d, true) := by
  unfold Dev.loopOpen
  rw [if_neg (by rw [hblocked]; decide), if_neg (by simp [hhold, hmove]), Dev.loopWrites_nil hw, if_neg (by simp [hon]), if_neg (by simp [hfrozen])]
  simp [hswap, Dev.when]

/-- What an execution shows before its following error (R166). -/
def Dev.slotState (d : Dev) (L : Nat) (r : PidOut) : Dev :=
  (((((((d.setO (lk Obj.ERROR L) r.e).setO (lk Obj.OUTPUT L) r.out).setO (lk Obj.INTEGRATOR L) r.iAcc).setO
    (lk Obj.DERIV L) r.d).setO (lk Obj.FLAGS L) (Nat.lor (d.n (lk Obj.FLAGS L)) r.flags : Nat)).setBit (lk Obj.FLAGS L) 6 false).addWrap (lk Obj.SAMPLES L)).updLoop L
    (fun l => { l with xPrev := r.x, halve := false, cascade := l.cascade + 1 })

/-- Without FE_TIME and without a following error its timer reads 0 (R171). -/
theorem Dev.followError_off (htime : d.o (lk Obj.FE_TIME L) = 0) (hfe : bitOf (d.o (lk Obj.FLAGS L)) 5 = false) (e : Int) :
    d.followError L e = d.setO (lk Obj.FE_TIMER L) (0 : Nat) := by
  have hn : d.n (lk Obj.FE_TIME L) = 0 := by simp [Dev.n, htime]
  unfold Dev.followError
  simp [hn, hfe]

/-- Without trace nodes a sample records nothing (R174). -/
theorem Dev.loopTrace_off (h : d.o (lk Obj.TRACE_NODES L) = 0) (nodes : List Int) : d.loopTrace L nodes = d := by
  have hbit (i : Nat) : bitOf (d.o (lk Obj.TRACE_NODES L)) i = false := by simp [h, bitOf]
  unfold Dev.loopTrace
  induction nodes.zipIdx with
  | nil => rfl
  | cons p ps ih => simpa [Dev.when, hbit] using ih

theorem pidStep_flags (q : PidIn) (sp fb : Int) : (pidStep q sp fb).flags < 32 := by
  unfold pidStep
  simp only []
  repeat' split
  all_goals omega

/-- Sticky flags of an execution leave FE as it is. -/
theorem bitOf_lor_five {x : Int} (hx : bitOf x 5 = false) {f : Nat} (hf : f < 32) : bitOf ((Nat.lor x.toNat f : Nat) : Int) 5 = false := by
  have h5 : f.testBit 5 = false := Nat.testBit_lt_two_pow (by omega)
  have hx5 : x.toNat.testBit 5 = false := by
    simpa [bitOf, Nat.testBit, Nat.and_one_is_mod] using hx
  have : (Nat.lor x.toNat f).testBit 5 = false := by
    rw [show Nat.lor x.toNat f = x.toNat ||| f from rfl, Nat.testBit_or, h5, hx5]
    rfl
  simpa [bitOf, Nat.testBit, Nat.and_one_is_mod] using this

/-- What an execution of slot `L` starts from (R166). -/
def Dev.pidIn (d : Dev) (L : Nat) : PidIn :=
  { c := d.coef L, dMode := d.o (lk Obj.D_MODE L), outMin := d.o (lk Obj.OUT_MIN L), outMax := d.o (lk Obj.OUT_MAX L),
    iAcc := d.o (lk Obj.INTEGRATOR L), d := d.o (lk Obj.DERIV L), xPrev := (d.loopOf L).xPrev, halve := (d.loopOf L).halve }

/-- The step of a slot without preset, following error, trace node or move (R166, R167 step 4). -/
theorem Dev.loopCompute_plain (hfirst : (d.loopOf L).first = false) (hhalve : (d.loopOf L).halve = false) (htime : d.o (lk Obj.FE_TIME L) = 0)
    (hfe : bitOf (d.o (lk Obj.FLAGS L)) 5 = false) (htrace : d.o (lk Obj.TRACE_NODES L) = 0) (sp fb target : Int) :
    d.loopCompute L sp fb target false false = (d.slotState L (pidStep (d.pidIn L) sp fb)).setO (lk Obj.FE_TIMER L) (0 : Nat) := by
  have hpre : d.when (d.loopOf L).first (fun d => d.loopPreset L sp fb target) = d := if_neg (by simp [hfirst])
  have hflags := pidStep_flags (d.pidIn L) sp fb
  unfold Dev.loopCompute
  simp only [hpre, Bool.false_and, Bool.or_false, Bool.false_eq_true, if_false]
  generalize hr : pidStep _ sp fb = r
  rw [show pidStep (d.pidIn L) sp fb = r from hr] at hflags ⊢
  have htime' : (d.slotState L r).o (lk Obj.FE_TIME L) = 0 := by
    simp +decide [Dev.slotState, Dev.updLoop, Dev.o_eq, lk_inj] at htime ⊢
    exact htime
  have hfe' : bitOf ((d.slotState L r).o (lk Obj.FLAGS L)) 5 = false := by
    have ho : (d.slotState L r).o (lk Obj.FLAGS L) = putBit (Nat.lor (d.n (lk Obj.FLAGS L)) r.flags : Nat) 6 false := by
      simp +decide [Dev.slotState, Dev.updLoop, Dev.o_eq, lk_inj]
    rw [ho, bitOf_putBit_other _ _ (by decide)]
    exact bitOf_lor_five hfe hflags
  have htrace' : ((d.slotState L r).setO (lk Obj.FE_TIMER L) (0 : Nat)).o (lk Obj.TRACE_NODES L) = 0 := by
    simp +decide [Dev.slotState, Dev.updLoop, Dev.o_eq, lk_inj] at htrace ⊢
    exact htrace
  change (((d.slotState L r).followError L r.e).loopTrace L _).when _ _ = _
  rw [Dev.followError_off htime' hfe', Dev.loopTrace_off htrace']
  exact if_neg (by simp [hhalve])

end

theorem Dev.slotState_frame (d : Dev) (L : Nat) (r : PidOut) : Dev.Outside (fun x => { x with loops := [] }) d (d.slotState L r) := by
  have frame := frame_outside fun x => { x with loops := [] }
  have hupd (d : Dev) (f : Loop → Loop) : Dev.Outside (fun x => { x with loops := [] }) d (d.updLoop L f) := Dev.outside_of_eq rfl rfl
  have hsets := frame.setO (frame.setO (frame.setO (frame.setO (frame.setO (frame.refl d) (lk Obj.ERROR L) r.e) (lk Obj.OUTPUT L) r.out) (lk Obj.INTEGRATOR L) r.iAcc)
    (lk Obj.DERIV L) r.d) (lk Obj.FLAGS L) (Nat.lor (d.n (lk Obj.FLAGS L)) r.flags : Nat)
  exact frame.trans (frame.addWrap (frame.setBit hsets (lk Obj.FLAGS L) 6 false) (lk Obj.SAMPLES L) 1) (hupd _ _)

theorem loopSample_computes (s : State) (L : Fin 128) (halive : s.dev.alive = true) (hL : 96 ≤ L.val) (htrig : s.dev.o (lk Obj.TRIGGER L) ≠ 3) (hw : s.dev.writes = [])
    (hblocked : s.dev.leBlocked.contains (L.val / 16) = false) (hmove : s.dev.leMoving = none) (hon : s.dev.b (lk Obj.ENABLE_A100 L) = true)
    (hsp : s.dev.o (lk Obj.SP_SOURCE L) = 0) (htarget : s.dev.o (lk Obj.OUT_TARGET L) = 0) (hfrozen : s.dev.loopFrozen L = false) (hhold : (s.dev.loopOf L).holdNext = false)
    (hhalve : (s.dev.loopOf L).halve = false) (hfirst : (s.dev.loopOf L).first = false) (hswap : (s.dev.loopOf L).swap = false) (houter : s.dev.outers L = [])
    (hpoison : s.dev.loopPoisoned L = false) (htime : s.dev.o (lk Obj.FE_TIME L) = 0) (hfe : bitOf (s.dev.o (lk Obj.FLAGS L)) 5 = false)
    (htrace : s.dev.o (lk Obj.TRACE_NODES L) = 0) :
    Completes (.loopSample L) s (fun e => e.o (lk Obj.ERROR L) = (slotSample s.dev L).e ∧ e.o (lk Obj.OUTPUT L) = (slotSample s.dev L).out ∧ e.o (lk Obj.INTEGRATOR L) = (slotSample s.dev L).iAcc ∧
      e.o (lk Obj.DERIV L) = (slotSample s.dev L).d ∧ e.o (lk Obj.FLAGS L) = putBit (Nat.lor (s.dev.n (lk Obj.FLAGS L)) (slotSample s.dev L).flags : Nat) 6 false ∧
      e.o (lk Obj.SAMPLES L) = wrapU32 (s.dev.o (lk Obj.SAMPLES L) + 1) ∧ e.loopOf L = { s.dev.loopOf L with xPrev := (slotSample s.dev L).x, cascade := (s.dev.loopOf L).cascade + 1 } ∧
      ({ s.dev with loops := e.loops } : Dev).ShowsOnly e ∧ OnlyObjects (fun k => k == lk Obj.ERROR L || k == lk Obj.OUTPUT L || k == lk Obj.INTEGRATOR L || k == lk Obj.DERIV L || k == lk Obj.FLAGS L || k == lk Obj.SAMPLES L || k == lk Obj.FE_TIMER L) s.dev e) := by
  have hspn : s.dev.n (lk Obj.SP_SOURCE L) = 0 := by simp [Dev.n, hsp]
  have htargetn : s.dev.n (lk Obj.OUT_TARGET L) = 0 := by simp [Dev.n, htarget]
  have hsample : s.dev.loopSampleN 4 L = (s.dev.slotState L (slotSample s.dev L)).setO (lk Obj.FE_TIMER L) (0 : Nat) := by
    unfold Dev.loopSampleN
    simp only [Dev.loopOpen_ready hw hblocked hmove hon hfrozen hhold hswap, houter, List.foldl_nil, Dev.loopWrites_nil hw, hpoison, hspn, htargetn, if_true,
      Bool.not_true, Bool.false_eq_true, if_false, true_or]
    exact Dev.loopCompute_plain hfirst hhalve htime hfe htrace _ _ _
  have hrun : (if 92 ≤ L.val ∧ L.val < 96 then s.dev.bldcSpeedSample (L.val - 92) else if 80 ≤ L.val ∧ L.val < 84 then s.dev.loadAngleSample (L.val - 80)
      else s.dev.when (decide (96 ≤ L.val) && s.dev.o (lk Obj.TRIGGER L.val) != 3) (fun d => d.loopSampleN 4 L.val)) = _ :=
    ((if_neg (by omega)).trans ((if_neg (by omega)).trans (if_pos (by simp [hL, htrig])))).trans hsample
  have hq (k : Nat) (hk : keyIdx k = 0xA100) := (lk_quiet (k := k) hk L.isLt).1
  generalize hr : slotSample s.dev L = r at *
  refine completes_live_eq _ rfl halive hrun ⟨?_, ?_, ?_, ?_, ?_, ?_, ?_, ?_, ?_⟩
  · rw [Dev.o_settle _ (hq Obj.ERROR (by decide))]
    simp +decide [Dev.slotState, Dev.updLoop, Dev.o_eq, lk_inj]
  · rw [Dev.o_settle _ (hq Obj.OUTPUT (by decide))]
    simp +decide [Dev.slotState, Dev.updLoop, Dev.o_eq, lk_inj]
  · rw [Dev.o_settle _ (hq Obj.INTEGRATOR (by decide))]
    simp +decide [Dev.slotState, Dev.updLoop, Dev.o_eq, lk_inj]
  · rw [Dev.o_settle _ (hq Obj.DERIV (by decide))]
    simp +decide [Dev.slotState, Dev.updLoop, Dev.o_eq, lk_inj]
  · rw [Dev.o_settle _ (hq Obj.FLAGS (by decide))]
    simp +decide [Dev.slotState, Dev.updLoop, Dev.o_eq, lk_inj]
  · rw [Dev.o_settle _ (hq Obj.SAMPLES (by decide))]
    simp +decide [Dev.slotState, Dev.updLoop, Dev.o_eq, lk_inj]
  · have hloop : ((s.dev.slotState L r).setO (lk Obj.FE_TIMER L) (0 : Nat)).settle.loopOf L =
        { s.dev.loopOf L with xPrev := r.x, halve := false, cascade := (s.dev.loopOf L).cascade + 1 } := by
      simp [Dev.slotState, Dev.loopOf, Dev.updLoop, Dev.addWrap, Dev.setBit]
    rw [hloop, ← hhalve]
  · have hframe := s.dev.slotState_frame L r
    generalize s.dev.slotState L r = y at hframe ⊢
    rw [Dev.settle_loops]
    have hshow : ({ s.dev with loops := y.loops } : Dev).ShowsOnly y := Dev.showsOnly_iff.mpr ⟨congrArg (fun x : Dev => { x with loops := y.loops }) hframe.1, hframe.2⟩
    exact frame_shows.settle (frame_shows.setO hshow (lk Obj.FE_TIMER L) (0 : Nat))
  · simp +contextual [onlyObjects_iff, Dev.slotState, Dev.updLoop]

end Sys2Proof.Machine
end

section
/-! The carrier boundaries of the low-voltage half-bridges (R287, R288, R290, R297, R298, R310, O29). -/

namespace Sys2Proof.Machine

/-! ### The readings of a half-bridge (R287, R288) -/

/-- A half-bridge's bootstrap with its two limits, and its comparators. -/
def Dev.hbRead (d : Dev) (n boot : Nat) (high low : Bool) : Dev :=
  ((((d.setO (el Obj.BOOT_V n) (min 65535 boot : Nat)).setBit (el Obj.HB_STATUS n) 3 (decide (boot < 900))).setBit (el Obj.HB_STATUS n) 4 (decide (boot < 750))).setBit
    (el Obj.HB_STATUS n) 5 high).setBit (el Obj.HB_STATUS n) 6 low

/-- `e` shows half-bridge `n` as read, its switches and its latch as in `d`. -/
structure HbShown (d e : Dev) (n boot : Nat) (high low : Bool) : Prop where
  volts : e.o (el Obj.BOOT_V n) = (min 65535 boot : Nat)
  low9 : bitOf (e.o (el Obj.HB_STATUS n)) 3 = decide (boot < 900)
  low7 : bitOf (e.o (el Obj.HB_STATUS n)) 4 = decide (boot < 750)
  highCmp : bitOf (e.o (el Obj.HB_STATUS n)) 5 = high
  lowCmp : bitOf (e.o (el Obj.HB_STATUS n)) 6 = low
  keep : ∀ b : Fin 3, bitOf (e.o (el Obj.HB_STATUS n)) b = bitOf (d.o (el Obj.HB_STATUS n)) b

theorem HbShown.congr {d e d' e' : Dev} {n boot : Nat} {high low : Bool} (h : HbShown d e n boot high low) (hd : d'.o (el Obj.HB_STATUS n) = d.o (el Obj.HB_STATUS n))
    (hb : e'.o (el Obj.BOOT_V n) = e.o (el Obj.BOOT_V n)) (he : e'.o (el Obj.HB_STATUS n) = e.o (el Obj.HB_STATUS n)) : HbShown d' e' n boot high low :=
  ⟨hb.trans h.volts, by rw [he, h.low9], by rw [he, h.low7], by rw [he, h.highCmp], by rw [he, h.lowCmp], fun b => by rw [he, hd, h.keep]⟩

theorem hbKeys_ne {n m : Nat} (hn : 1 ≤ n ∧ n ≤ 28) (hm : 1 ≤ m ∧ m ≤ 28) : el Obj.BOOT_V n ≠ el Obj.HB_STATUS m := by
  simp only [el, Obj.BOOT_V, Obj.HB_STATUS]
  omega

theorem hbKey_inj {k n m : Nat} (hk : 1 ≤ k) : el k n = el k m ↔ n = m := by
  simp only [el]
  omega

theorem Dev.hbRead_shown (d : Dev) {n : Nat} (hn : 1 ≤ n ∧ n ≤ 28) (boot : Nat) (high low : Bool) : HbShown d (d.hbRead n boot high low) n boot high low := by
  have hne := (hbKeys_ne hn hn).symm
  refine ⟨?_, ?_, ?_, ?_, ?_, fun b => ?_⟩
  · simp [Dev.hbRead, Dev.o_setBit, hne.symm]
  all_goals simp only [Dev.hbRead, Dev.o_setBit, Dev.o_setO, if_true, hne, if_false]
  · rw [bitOf_putBit_other _ _ (by decide), bitOf_putBit_other _ _ (by decide), bitOf_putBit_other _ _ (by decide), bitOf_putBit_same]
  · rw [bitOf_putBit_other _ _ (by decide), bitOf_putBit_other _ _ (by decide), bitOf_putBit_same]
  · rw [bitOf_putBit_other _ _ (by decide), bitOf_putBit_same]
  · rw [bitOf_putBit_same]
  · rw [bitOf_putBit_other _ _ (by omega), bitOf_putBit_other _ _ (by omega), bitOf_putBit_other _ _ (by omega), bitOf_putBit_other _ _ (by omega)]

theorem Dev.o_hbRead_other (d : Dev) {n k : Nat} (hb : k ≠ el Obj.BOOT_V n) (hs : k ≠ el Obj.HB_STATUS n) (boot : Nat) (high low : Bool) :
    (d.hbRead n boot high low).o k = d.o k := by
  simp [Dev.hbRead, Dev.o_setBit, Dev.o_setO, hb, hs]

/-- The readings of a list of half-bridges, each with its place in the input. -/
def Dev.hbReads (d : Dev) (l : List (Nat × Nat)) (i : LvIn) : Dev :=
  l.foldl (fun d p => d.hbRead p.1 (i.boots.getD p.2 0) (i.high.getD p.2 false) (i.low.getD p.2 false)) d

theorem Dev.o_hbReads_other (l : List (Nat × Nat)) (i : LvIn) {k : Nat} : ∀ d : Dev, (∀ p ∈ l, k ≠ el Obj.BOOT_V p.1 ∧ k ≠ el Obj.HB_STATUS p.1) → (d.hbReads l i).o k = d.o k := by
  induction l with
  | nil => exact fun _ _ => rfl
  | cons p ps ih =>
    intro d h
    obtain ⟨hb, hs⟩ := h p (by simp)
    exact (ih _ fun q hq => h q (by simp [hq])).trans (d.o_hbRead_other hb hs _ _ _)

/-- Each half-bridge of the list shows its own reading. -/
theorem Dev.hbReads_shown (i : LvIn) (l : List (Nat × Nat)) (hdis : (l.map Prod.fst).Nodup) (hr : ∀ p ∈ l, 1 ≤ p.1 ∧ p.1 ≤ 28) :
    ∀ d : Dev, ∀ p ∈ l, HbShown d (d.hbReads l i) p.1 (i.boots.getD p.2 0) (i.high.getD p.2 false) (i.low.getD p.2 false) := by
  induction l with
  | nil => simp
  | cons q qs ih =>
    intro d p hp
    obtain ⟨hq, hqs⟩ := List.nodup_cons.mp hdis
    have hne {x y : Nat × Nat} (hx : x ∈ qs) (hy : y = q) : x.1 ≠ y.1 := by
      rintro h
      exact hq (List.mem_map.mpr ⟨x, hx, by rw [h, hy]⟩)
    have hother (x y : Nat) (hxy : x ≠ y) : el Obj.BOOT_V x ≠ el Obj.BOOT_V y ∧ el Obj.HB_STATUS x ≠ el Obj.HB_STATUS y :=
      ⟨fun h => hxy ((hbKey_inj (by decide)).mp h), fun h => hxy ((hbKey_inj (by decide)).mp h)⟩
    rcases List.mem_cons.mp hp with rfl | hmem
    · refine (d.hbRead_shown (hr p (by simp)) _ _ _).congr rfl ?_ ?_
      · exact Dev.o_hbReads_other qs i _ fun x hx => ⟨((hother _ _ (hne hx rfl)).1).symm, hbKeys_ne (hr p (by simp)) (hr x (by simp [hx]))⟩
      · exact Dev.o_hbReads_other qs i _ fun x hx => ⟨(hbKeys_ne (hr x (by simp [hx])) (hr p (by simp))).symm, ((hother _ _ (hne hx rfl)).2).symm⟩
    · refine (ih hqs (fun x hx => hr x (by simp [hx])) _ p hmem).congr ?_ rfl rfl
      exact (d.o_hbRead_other (hbKeys_ne (hr q (by simp)) (hr p hp)).symm (hother _ _ (hne hmem rfl)).2 _ _ _).symm

/-! ### The readings of a group -/

/-- What the readings change beside objects: the watch of VLV and the ends of its causes. -/
def Dev.ReadOnly : Dev → Dev → Prop := Dev.Outside fun x => { x.unraised with vlvHigh := false }

theorem frame_read : Frame Dev.ReadOnly := frame_outside _

/-- VLV with its watch (R292). -/
def Dev.vlvWatched (d : Dev) (i : LvIn) : Dev :=
  ((({ d.setO Obj.VLV (min 65535 i.vlv : Nat) with vlvHigh := decide (d.n Obj.VLV_OV < i.vlv) } : Dev).when (decide (d.n Obj.VLV_OV < i.vlv) && !d.vlvHigh) (fun d => d.event 0x98)).when
    (decide (1800 ≤ i.vlv)) (fun d => d.causeGone 0x74C3)).when (decide (i.vlv ≤ 6400)) (fun d => d.causeGone 0x74C4)

theorem Dev.lvReadings_eq (d : Dev) (k : Nat) (i : LvIn) : d.lvReadings k i = (d.vlvWatched i).hbReads (hbsOf k).zipIdx i := rfl

theorem Dev.vlvWatched_facts (d : Dev) (i : LvIn) : (d.vlvWatched i).o Obj.VLV = (min 65535 i.vlv : Nat) ∧ (d.vlvWatched i).vlvHigh = decide (d.n Obj.VLV_OV < i.vlv) ∧
    d.ReadOnly (d.vlvWatched i) ∧ OnlyObjects (fun k => k == Obj.VLV || isTraceCount k) d (d.vlvWatched i) := by
  have hgone (x : Dev) (c : Bool) (code : Nat) : (x.when c fun d => d.causeGone code).obj = x.obj ∧ (x.when c fun d => d.causeGone code).vlvHigh = x.vlvHigh ∧
      x.ReadOnly (x.when c fun d => d.causeGone code) := by
    unfold Dev.when
    split
    · exact ⟨rfl, rfl, Dev.outside_of_eq rfl rfl⟩
    · exact ⟨rfl, rfl, frame_read.refl x⟩
  have hstart : d.ReadOnly { d.setO Obj.VLV (min 65535 i.vlv : Nat) with vlvHigh := decide (d.n Obj.VLV_OV < i.vlv) } := Dev.outside_of_eq rfl rfl
  have hvlv : ({ d.setO Obj.VLV (min 65535 i.vlv : Nat) with vlvHigh := decide (d.n Obj.VLV_OV < i.vlv) } : Dev).o Obj.VLV = (min 65535 i.vlv : Nat) := Dev.o_setO_same _ _ _
  have hobj : OnlyObjects (fun k => k == Obj.VLV || isTraceCount k) d { d.setO Obj.VLV (min 65535 i.vlv : Nat) with vlvHigh := decide (d.n Obj.VLV_OV < i.vlv) } :=
    OnlyObjects.of_obj ((OnlyObjects.refl d).setO Obj.VLV _ (by decide)) rfl
  have hhigh : ({ d.setO Obj.VLV (min 65535 i.vlv : Nat) with vlvHigh := decide (d.n Obj.VLV_OV < i.vlv) } : Dev).vlvHigh = decide (d.n Obj.VLV_OV < i.vlv) := rfl
  unfold Dev.vlvWatched
  generalize ({ d.setO Obj.VLV (min 65535 i.vlv : Nat) with vlvHigh := decide (d.n Obj.VLV_OV < i.vlv) } : Dev) = x at *
  have hevent (c : Bool) : (x.when c fun d => d.event 0x98).o Obj.VLV = x.o Obj.VLV ∧ (x.when c fun d => d.event 0x98).vlvHigh = x.vlvHigh ∧
      x.ReadOnly (x.when c fun d => d.event 0x98) ∧ OnlyObjects (fun k => k == Obj.VLV || isTraceCount k) x (x.when c fun d => d.event 0x98) := by
    unfold Dev.when
    split
    · exact ⟨Dev.o_event _ _ (by decide), by simp, frame_read.event (frame_read.refl x) _, (OnlyObjects.refl x).event _ fun k h => by rw [h, Bool.or_true]⟩
    · exact ⟨rfl, rfl, frame_read.refl x, .refl x⟩
  obtain ⟨hev, hevh, hevr, hevo⟩ := hevent (decide (d.n Obj.VLV_OV < i.vlv) && !d.vlvHigh)
  generalize (x.when (decide (d.n Obj.VLV_OV < i.vlv) && !d.vlvHigh) fun d => d.event 0x98) = y at *
  obtain ⟨ho1, hh1, hr1⟩ := hgone y (decide (1800 ≤ i.vlv)) 0x74C3
  generalize (y.when (decide (1800 ≤ i.vlv)) fun d => d.causeGone 0x74C3) = z at *
  obtain ⟨ho2, hh2, hr2⟩ := hgone z (decide (i.vlv ≤ 6400)) 0x74C4
  generalize (z.when (decide (i.vlv ≤ 6400)) fun d => d.causeGone 0x74C4) = w at *
  refine ⟨?_, ?_, frame_read.trans (frame_read.trans (frame_read.trans hstart hevr) hr1) hr2, OnlyObjects.of_obj (hobj.trans hevo) (ho2.trans ho1)⟩
  · rw [Dev.o_eq, ho2, ho1, ← Dev.o_eq, hev, hvlv]
  · rw [hh2, hh1, hevh, hhigh]

/-- The objects of the readings. -/
def isLvReading (k : Nat) : Bool := k == Obj.VLV || keyIdx k == 0x7000 || keyIdx k == 0x7001 || isTraceCount k

theorem hbKey_idx {n : Nat} (hn : 1 ≤ n ∧ n ≤ 28) : keyIdx (el Obj.HB_STATUS n) = 0x7000 ∧ keyIdx (el Obj.BOOT_V n) = 0x7001 ∧ keyIdx (el Obj.I_MODEL n) = 0x7005 ∧
    keyIdx (el Obj.REFRESHES n) = 0x7002 := by
  simp only [keyIdx, el, Obj.HB_STATUS, Obj.BOOT_V, Obj.I_MODEL, Obj.REFRESHES]
  omega

theorem Dev.onlyObjects_hbRead (d : Dev) {n : Nat} (hn : 1 ≤ n ∧ n ≤ 28) (boot : Nat) (high low : Bool) : OnlyObjects isLvReading d (d.hbRead n boot high low) := by
  obtain ⟨hs, hb, -, -⟩ := hbKey_idx hn
  simp [onlyObjects_iff, Dev.hbRead, isLvReading, hs, hb]

theorem Dev.shows_hbRead (d : Dev) (n boot : Nat) (high low : Bool) : d.ShowsOnly (d.hbRead n boot high low) :=
  frame_shows.setBit (frame_shows.setBit (frame_shows.setBit (frame_shows.setBit (frame_shows.setO (frame_shows.refl d) _ _) _ _ _) _ _ _) _ _ _) _ _ _

/-- The half-bridges of a group with their places. -/
theorem hbsOf_zipIdx {k : Nat} (hk : k < 8) : (((hbsOf k).zipIdx).map Prod.fst).Nodup ∧ ∀ p ∈ (hbsOf k).zipIdx, 1 ≤ p.1 ∧ p.1 ≤ 28 := by
  interval_cases k <;> decide

structure Dev.LvRead (d e : Dev) (k : Nat) (i : LvIn) : Prop where
  vlv : e.o Obj.VLV = (min 65535 i.vlv : Nat)
  high : e.vlvHigh = decide (d.n Obj.VLV_OV < i.vlv)
  rest : d.ReadOnly e
  obj : OnlyObjects isLvReading d e
  shown : ∀ p ∈ (hbsOf k).zipIdx, HbShown d e p.1 (i.boots.getD p.2 0) (i.high.getD p.2 false) (i.low.getD p.2 false)

theorem Dev.lvReadings_read (d : Dev) {k : Nat} (hk : k < 8) (i : LvIn) : d.LvRead (d.lvReadings k i) k i := by
  obtain ⟨hdis, hrange⟩ := hbsOf_zipIdx hk
  obtain ⟨hvlv, hhigh, hrest, hobj⟩ := d.vlvWatched_facts i
  rw [Dev.lvReadings_eq]
  have hshown := Dev.hbReads_shown i _ hdis hrange (d.vlvWatched i)
  have hfold : (d.vlvWatched i).ShowsOnly ((d.vlvWatched i).hbReads (hbsOf k).zipIdx i) := Dev.shows_foldl (fun d p => d.shows_hbRead _ _ _ _) _ _
  have hfoldo : OnlyObjects isLvReading (d.vlvWatched i) ((d.vlvWatched i).hbReads (hbsOf k).zipIdx i) :=
    (OnlyObjects.refl _).foldl _ fun d p hp => d.onlyObjects_hbRead (hrange p hp) _ _ _
  have hv : ((d.vlvWatched i).hbReads (hbsOf k).zipIdx i).o Obj.VLV = (d.vlvWatched i).o Obj.VLV :=
    Dev.o_hbReads_other _ i _ fun p hp => by
      have := hrange p hp
      simp only [el, Obj.VLV, Obj.BOOT_V, Obj.HB_STATUS]
      omega
  refine ⟨hv.trans hvlv, hfold.vlvHigh.trans hhigh, frame_read.trans hrest (frame_read.shows hfold), (hobj.mono fun k h => ?_).trans hfoldo, fun p hp => ?_⟩
  · simp only [Bool.or_eq_true] at h
    simp only [isLvReading, Bool.or_eq_true]
    tauto
  · refine (hshown p hp).congr ?_ rfl rfl
    obtain ⟨hstatus, htrace, -⟩ := hbStatus_quiet (hrange p hp).1 (hrange p hp).2
    have hne : el Obj.HB_STATUS p.1 ≠ Obj.VLV := by
      have := hrange p hp
      simp only [el, Obj.VLV, Obj.HB_STATUS]
      omega
    exact (hobj.same _ (by simp [hne, htrace]) hstatus).symm

/-! ### The rest of a boundary -/

/-- What the thermal models, the refresh pulses and the report of a limit change beside objects. -/
def Dev.HeatOnly : Dev → Dev → Prop := Dev.Outside fun x => { x.unraised with hbs := [], lvLimit := false }

theorem frame_heat : Frame Dev.HeatOnly := frame_outside _

theorem Dev.RaisesOnly.heat {d e : Dev} (h : d.RaisesOnly e) : d.HeatOnly e := by
  obtain ⟨hun, hevq⟩ := Dev.raisesOnly_iff.mp h
  exact ⟨(congrArg (fun x : Dev => ({ x with hbs := [], lvLimit := false } : Dev)) hun :), hevq⟩

theorem Dev.heatOnly_heatHb (d : Dev) (n : Nat) (i : Int) : d.HeatOnly (d.heatHb n i) :=
  frame_heat.setO (d := { d with hbs := _ }) (Dev.outside_of_eq rfl rfl) _ _

theorem Dev.onlyObjects_heatHb (d : Dev) {n : Nat} (hn : 1 ≤ n ∧ n ≤ 28) (i : Int) : OnlyObjects (fun k => keyIdx k == 0x7005) d (d.heatHb n i) := by
  have hidx := (hbKey_idx hn).2.2.1
  unfold Dev.heatHb
  simp only []
  refine OnlyObjects.setO ?_ (el Obj.I_MODEL n) _ (by simp [hidx])
  exact (OnlyObjects.refl d).of_obj rfl

/-- A high side that is not driven needs no pulse (R288). -/
theorem Dev.refresh_idle (d : Dev) (n : Nat) (low : Int) : d.refresh n false low = d.updHb n (fun h => { h with refreshed := false }) := by
  simp [Dev.refresh, Dev.when]

theorem Dev.heatOnly_updHb (d : Dev) (n : Nat) (f : HalfBridge → HalfBridge) : d.HeatOnly (d.updHb n f) := Dev.outside_of_eq rfl rfl

theorem Dev.heatOnly_refresh (d : Dev) (n : Nat) (driven : Bool) (low : Int) : d.HeatOnly (d.refresh n driven low) := by
  unfold Dev.refresh
  exact frame_heat.when (frame_heat.when (d.heatOnly_updHb n _) _ fun d => frame_heat.addSat (frame_heat.refl d) _ _) _ fun d => frame_heat.event (frame_heat.refl d) _

theorem Dev.onlyObjects_refresh (d : Dev) {n : Nat} (hn : 1 ≤ n ∧ n ≤ 28) (driven : Bool) (low : Int) :
    OnlyObjects (fun k => keyIdx k == 0x7002 || isTraceCount k) d (d.refresh n driven low) := by
  have hidx := (hbKey_idx hn).2.2.2
  have hupd (f : HalfBridge → HalfBridge) : OnlyObjects (fun k => keyIdx k == 0x7002 || isTraceCount k) d (d.updHb n f) := (OnlyObjects.refl d).of_obj rfl
  unfold Dev.refresh
  refine OnlyObjects.when (OnlyObjects.when (hupd _) _ fun _ d => (OnlyObjects.refl d).addSat _ _ (by simp [hidx])) _ fun _ d =>
    (OnlyObjects.refl d).event _ fun k h => by rw [h, Bool.or_true]

theorem Dev.showLimit_facts (d : Dev) : d.HeatOnly d.showLimit ∧ OnlyObjects isReaction d d.showLimit := by
  have hlimit (b : Bool) : d.HeatOnly { d with lvLimit := b } := Dev.outside_of_eq rfl rfl
  unfold Dev.showLimit Dev.when
  simp only []
  generalize d.lvBinds = on
  have hobj : OnlyObjects isReaction d { d with lvLimit := on } := (OnlyObjects.refl d).of_obj rfl
  have hstep := hlimit on
  generalize ({ d with lvLimit := on } : Dev) = x at *
  split
  · exact ⟨frame_heat.trans hstep ((frame_raises.raise (frame_raises.event (frame_raises.refl x) 0x9A) _ _ _).heat),
      (hobj.event _ fun _ h => isReaction_trace h).raise _ _ _ fun _ h => h⟩
  · exact ⟨hstep, hobj⟩

/-! ### The boundary of a stepper group at rest (R310) -/

/-- What a stepper group at rest does at its boundary: the currents, the thermal models and no pulse. -/
def Dev.stepperRest (d : Dev) (a : Nat) (i : LvIn) : Dev :=
  [4 * a + 1, 4 * a + 2, 4 * a + 3, 4 * a + 4].foldl (fun d h => d.updHb h (fun x => { x with refreshed := false }))
    ((((((d.setO (at' Obj.I_A a) (satI32 (i.i.getD 0 0))).setO (at' Obj.I_B a) (satI32 (i.i.getD 1 0))).heatHb (4 * a + 1) (i.i.getD 0 0)).heatHb (4 * a + 2)
      (i.i.getD 0 0)).heatHb (4 * a + 3) (i.i.getD 1 0)).heatHb (4 * a + 4) (i.i.getD 1 0))

theorem Dev.stepperBoundary_rest {d : Dev} {a : Nat} (hoff : [1, 2, 3, 4].contains (d.n (at' Obj.STATE_7200 a)) = false) (i : LvIn) :
    d.stepperBoundary a i = d.stepperRest a i := by
  unfold Dev.stepperBoundary
  simp only [hoff, Bool.not_false, if_true, Dev.refresh_idle]
  rfl

/-- The objects of a stepper group at rest. -/
def isStepperRest (a k : Nat) : Bool := k == at' Obj.I_A a || k == at' Obj.I_B a || keyIdx k == 0x7005

theorem Dev.stepperRest_facts (d : Dev) {a : Nat} (ha : a < 4) (i : LvIn) : d.HeatOnly (d.stepperRest a i) ∧ OnlyObjects (isStepperRest a) d (d.stepperRest a i) ∧
    (d.stepperRest a i).o (at' Obj.I_A a) = satI32 (i.i.getD 0 0) ∧ (d.stepperRest a i).o (at' Obj.I_B a) = satI32 (i.i.getD 1 0) := by
  generalize hx : (d.setO (at' Obj.I_A a) (satI32 (i.i.getD 0 0))).setO (at' Obj.I_B a) (satI32 (i.i.getD 1 0)) = x
  have hset : d.HeatOnly x := by
    rw [← hx]
    exact frame_heat.setO (frame_heat.setO (frame_heat.refl d) _ _) _ _
  have hseto : OnlyObjects (isStepperRest a) d x := by
    rw [← hx]
    exact ((OnlyObjects.refl d).setO _ _ (by simp [isStepperRest])).setO _ _ (by simp [isStepperRest])
  have hA : x.o (at' Obj.I_A a) = satI32 (i.i.getD 0 0) := by
    rw [← hx, Dev.o_setO_other _ _ (by simp only [at', Obj.I_A, Obj.I_B]; omega), Dev.o_setO_same]
  have hB : x.o (at' Obj.I_B a) = satI32 (i.i.getD 1 0) := by rw [← hx, Dev.o_setO_same]
  have hheat (d : Dev) (m : Nat) (hm : 1 ≤ m ∧ m ≤ 4) (v : Int) : d.HeatOnly (d.heatHb (4 * a + m) v) ∧ OnlyObjects (fun k => keyIdx k == 0x7005) d (d.heatHb (4 * a + m) v) :=
    ⟨d.heatOnly_heatHb _ _, d.onlyObjects_heatHb (by omega) _⟩
  have hpulse (d : Dev) (l : List Nat) : d.HeatOnly (l.foldl (fun d h => d.updHb h (fun x => { x with refreshed := false })) d) ∧
      OnlyObjects (fun k => keyIdx k == 0x7005) d (l.foldl (fun d h => d.updHb h (fun x => { x with refreshed := false })) d) :=
    ⟨frame_heat.foldl (frame_heat.refl d) l fun d h => d.heatOnly_updHb h _, (OnlyObjects.refl d).foldl l fun d h _ => (OnlyObjects.refl d).of_obj rfl⟩
  have h1 := hheat x 1 (by omega) (i.i.getD 0 0)
  have h2 := hheat (x.heatHb (4 * a + 1) (i.i.getD 0 0)) 2 (by omega) (i.i.getD 0 0)
  have h3 := hheat ((x.heatHb (4 * a + 1) (i.i.getD 0 0)).heatHb (4 * a + 2) (i.i.getD 0 0)) 3 (by omega) (i.i.getD 1 0)
  have h4 := hheat (((x.heatHb (4 * a + 1) (i.i.getD 0 0)).heatHb (4 * a + 2) (i.i.getD 0 0)).heatHb (4 * a + 3) (i.i.getD 1 0)) 4 (by omega) (i.i.getD 1 0)
  have h5 := hpulse ((((x.heatHb (4 * a + 1) (i.i.getD 0 0)).heatHb (4 * a + 2) (i.i.getD 0 0)).heatHb (4 * a + 3) (i.i.getD 1 0)).heatHb (4 * a + 4) (i.i.getD 1 0))
    [4 * a + 1, 4 * a + 2, 4 * a + 3, 4 * a + 4]
  have htail := (((h1.2.trans h2.2).trans h3.2).trans h4.2).trans h5.2
  have hframe := frame_heat.trans (frame_heat.trans (frame_heat.trans (frame_heat.trans h1.1 h2.1) h3.1) h4.1) h5.1
  unfold Dev.stepperRest
  rw [hx]
  refine ⟨frame_heat.trans hset hframe, hseto.trans (htail.mono fun k h => by rw [isStepperRest, h, Bool.or_true]), ?_, ?_⟩
  · rw [htail.same _ (by simp only [keyIdx, at', Obj.I_A, beq_eq_false_iff_ne]; omega) (by interval_cases a <;> decide), hA]
  · rw [htail.same _ (by simp only [keyIdx, at', Obj.I_B, beq_eq_false_iff_ne]; omega) (by interval_cases a <;> decide), hB]

theorem Dev.lvOf_read {d e : Dev} (h : d.ReadOnly e) (k : Nat) : e.lvOf k = d.lvOf k := (congrArg (fun x : Dev => x.lvOf k) h.1 :)

theorem Dev.bootBack_none {d : Dev} {k : Nat} (h : (d.lvOf k).uv = 0) : d.bootBack k = d := by
  unfold Dev.bootBack
  simp only [h]

theorem stepperKeys {a : Nat} (ha : a < 4) : (isStatus (at' Obj.STATE_7200 a) = false ∧ isLvReading (at' Obj.STATE_7200 a) = false) ∧
    (isStatus (at' Obj.I_A a) = false ∧ isReaction (at' Obj.I_A a) = false ∧ isLvReading (at' Obj.I_A a) = false) ∧
    (isStatus (at' Obj.I_B a) = false ∧ isReaction (at' Obj.I_B a) = false ∧ isLvReading (at' Obj.I_B a) = false) := by
  interval_cases a <;> decide

theorem hbsOf_place {j m : Nat} (hj : j < 4) (hm : m < 4) : (4 * j + 1 + m, m) ∈ (hbsOf j).zipIdx := by
  interval_cases j <;> interval_cases m <;> decide

theorem hbKeys_rest (a : Nat) {n : Nat} (hn : 1 ≤ n ∧ n ≤ 28) : (isStatus (el Obj.BOOT_V n) = false ∧ isReaction (el Obj.BOOT_V n) = false) ∧ isStepperRest a (el Obj.BOOT_V n) = false := by
  obtain ⟨h1, h28⟩ := hn
  refine ⟨by interval_cases n <;> decide, ?_⟩
  simp only [isStepperRest, at', el, keyIdx, Obj.BOOT_V, Obj.I_A, Obj.I_B, Bool.or_eq_false_iff, beq_eq_false_iff_ne]
  omega

theorem hbKeys_rest' (a : Nat) {n : Nat} (hn : 1 ≤ n ∧ n ≤ 28) : isStepperRest a (el Obj.HB_STATUS n) = false := by
  simp only [isStepperRest, at', el, keyIdx, Obj.HB_STATUS, Obj.I_A, Obj.I_B, Bool.or_eq_false_iff, beq_eq_false_iff_ne]
  omega

theorem lvBoundary_stepper (s : State) (j : Fin 8) (i : LvIn) (halive : s.dev.alive = true) (hj : j.val < 4)
    (hoff : [1, 2, 3, 4].contains (s.dev.n (at' Obj.STATE_7200 j)) = false) (huv : (s.dev.lvOf j).uv = 0) :
    Completes (.lvBoundary j i) s (fun e => e.o Obj.VLV = (min 65535 i.vlv : Nat) ∧ e.o (at' Obj.I_A j) = satI32 (i.i.getD 0 0) ∧ e.o (at' Obj.I_B j) = satI32 (i.i.getD 1 0) ∧ e.vlvHigh = decide (s.dev.n Obj.VLV_OV < i.vlv) ∧
      (∀ m : Fin 4, e.o (el Obj.BOOT_V (4 * j + 1 + m)) = (min 65535 (i.boots.getD m 0) : Nat) ∧
      bitOf (e.o (el Obj.HB_STATUS (4 * j + 1 + m))) 3 = decide (i.boots.getD m 0 < 900) ∧ bitOf (e.o (el Obj.HB_STATUS (4 * j + 1 + m))) 4 = decide (i.boots.getD m 0 < 750) ∧
      bitOf (e.o (el Obj.HB_STATUS (4 * j + 1 + m))) 5 = i.high.getD m false ∧ bitOf (e.o (el Obj.HB_STATUS (4 * j + 1 + m))) 6 = i.low.getD m false ∧
      (∀ b : Fin 3, bitOf (e.o (el Obj.HB_STATUS (4 * j + 1 + m))) b = bitOf (s.dev.o (el Obj.HB_STATUS (4 * j + 1 + m))) b)) ∧
      ({ s.dev with hbs := e.hbs, vlvHigh := e.vlvHigh, lvLimit := e.lvLimit } : Dev).RaisesOnly e ∧ OnlyObjects (fun k => k == Obj.VLV || k == at' Obj.I_A j || k == at' Obj.I_B j || keyIdx k == 0x7000 || keyIdx k == 0x7001 || keyIdx k == 0x7005 || isReaction k) s.dev e) := by
  have hread := s.dev.lvReadings_read j.isLt i
  obtain ⟨⟨hst, hstr⟩, ⟨hA1, hA2, hA3⟩, hB1, hB2, hB3⟩ := stepperKeys hj
  have hstate : (s.dev.lvReadings j i).n (at' Obj.STATE_7200 j) = s.dev.n (at' Obj.STATE_7200 j) := Dev.n_eq (hread.obj.same _ hstr hst)
  have heq : s.dev.lvBoundary j i = ((s.dev.lvReadings j i).stepperRest j i).showLimit := by
    unfold Dev.lvBoundary
    simp only [Dev.bootBack_none ((congrArg LvGroup.uv (Dev.lvOf_read hread.rest j)).trans huv), if_pos hj, Dev.stepperBoundary_rest (by rw [hstate]; exact hoff)]
  generalize s.dev.lvReadings j i = x at *
  obtain ⟨hrest, hresto, hA, hB⟩ := x.stepperRest_facts hj i
  generalize x.stepperRest j i = y at *
  obtain ⟨hlim, hlimo⟩ := y.showLimit_facts
  generalize y.showLimit = z at *
  refine completes_live_eq z rfl halive heq ?_
  have hkeep (k : Nat) (h1 : isStepperRest j k = false) (h2 : isReaction k = false) (hs : isStatus k = false) : z.settle.o k = x.o k := by
    rw [Dev.o_settle _ hs, hlimo.same _ h2 hs, hresto.same _ h1 hs]
  have hafter (k : Nat) (h2 : isReaction k = false) (hs : isStatus k = false) : z.settle.o k = y.o k := by
    rw [Dev.o_settle _ hs, hlimo.same _ h2 hs]
  have hheat := frame_heat.trans hrest hlim
  have hhigh : z.vlvHigh = x.vlvHigh := (congrArg Dev.vlvHigh hheat.1 :)
  refine ⟨?_, (hafter _ hA2 hA1).trans hA, (hafter _ hB2 hB1).trans hB, (Dev.settle_vlvHigh z).trans (hhigh.trans hread.high), fun m => ?_, ?_, ?_⟩
  · rw [hkeep Obj.VLV (by simp only [isStepperRest, at', keyIdx, Obj.VLV, Obj.I_A, Obj.I_B, Bool.or_eq_false_iff, beq_eq_false_iff_ne]; omega) (by decide) (by decide), hread.vlv]
  · have hmem : (4 * j.val + 1 + m.val, m.val) ∈ (hbsOf j).zipIdx := hbsOf_place hj m.isLt
    have hn : 1 ≤ 4 * j.val + 1 + m.val ∧ 4 * j.val + 1 + m.val ≤ 28 := by omega
    have hshown := (hread.shown _ hmem).congr (d' := s.dev) (e' := z.settle) rfl (hkeep _ (hbKeys_rest j hn).2 (hbKeys_rest j hn).1.2 (hbKeys_rest j hn).1.1)
      (hkeep _ (hbKeys_rest' j hn) (hbStatus_quiet hn.1 hn.2).2.2 (hbStatus_quiet hn.1 hn.2).1)
    exact ⟨hshown.volts, hshown.low9, hshown.low7, hshown.highCmp, hshown.lowCmp, hshown.keep⟩
  · rw [Dev.settle_hbs, Dev.settle_vlvHigh, Dev.settle_lvLimit, hhigh]
    refine frame_raises.settle (Dev.raisesOnly_iff.mpr ⟨?_, fun v hv => hheat.2 v (hread.rest.2 v hv)⟩)
    have h1 := congrArg (fun v : Dev => ({ v with hbs := z.hbs, vlvHigh := x.vlvHigh, lvLimit := z.lvLimit } : Dev)) hread.rest.1
    have h2 := congrArg (fun v : Dev => ({ v with hbs := z.hbs, lvLimit := z.lvLimit } : Dev)) hheat.1
    exact Eq.trans h2 h1
  · refine OnlyObjects.settle (.trans (hread.obj.mono fun k h => ?_) (.trans (hresto.mono fun k h => ?_) (hlimo.mono fun k h => by rw [h, Bool.or_true])))
    · simp only [isLvReading, Bool.or_eq_true] at h
      simp only [isReaction, Bool.or_eq_true]
      tauto
    · simp only [isStepperRest, Bool.or_eq_true] at h
      simp only [Bool.or_eq_true]
      tauto

/-! ### The boundary of a BLDC group in its align (R297, R298, R301) -/

/-- The duty that the current control gives at I_DC `i` (mA) while the rotor is aligned. -/
def Dev.alignNow (d : Dev) (g : Nat) (i : Int) : Int :=
  d.minOn (min 10000 (d.dutyOf (lvPi (d.o (at' Obj.KP_I_7100 g)) (d.o (at' Obj.KI_I_7100 g)) (min (d.bldcLimit g : Int) (100 * d.o (at' Obj.ALIGN_I g)) - i) (d.n Obj.LV_F_PWM)
    (d.bldcOf g).integ 0 (d.n Obj.VLV * 10000000 : Nat)).1)) (d.n Obj.LV_DEAD + d.n (at' Obj.ZC_DELAY g) + d.n (at' Obj.SH_WIN g))

/-- The objects that the align's duty is computed from. -/
theorem alignKeys {g : Nat} (hg : g < 4) : ∀ k ∈ [at' Obj.KP_I_7100 g, at' Obj.KI_I_7100 g, at' Obj.ALIGN_I g, at' Obj.I_LIMIT_7100 g, Obj.LV_F_PWM, Obj.LV_DEAD, at' Obj.ZC_DELAY g,
    at' Obj.SH_WIN g, at' Obj.STATE_7100 g], isLvReading k = false ∧ isStatus k = false := by
  interval_cases g <;> decide

theorem Dev.bldcLimit_read {d e : Dev} (hrest : d.ReadOnly e) (hobj : OnlyObjects isLvReading d e) {g : Nat} (hg : g < 4) : e.bldcLimit g = d.bldcLimit g := by
  have hderated : e.derated .act = d.derated .act := by
    have hsens : e.sensors = d.sensors := (congrArg Dev.sensors hrest.1 :)
    have hntc : e.ntcOf Domain.act.num (fun s => s.hot) = d.ntcOf Domain.act.num (fun s => s.hot) := by
      simp only [Dev.ntcOf, hsens]
      refine List.filter_congr fun n hn => ?_
      have hkey : isLvReading (at' Obj.NTC_DOMAIN (n - 1)) = false ∧ isStatus (at' Obj.NTC_DOMAIN (n - 1)) = false := by
        revert n
        decide
      rw [Dev.n_eq (hobj.same _ hkey.1 hkey.2)]
    simp only [Dev.derated, hntc]
  have hhot : e.lvHot (4 + g) = d.lvHot (4 + g) :=
    Dev.lvHot_congr (fun n h1 h28 => hobj.same _ (by interval_cases n <;> decide) (by interval_cases n <;> decide)) (by omega)
  have hred : e.bldcOf g = d.bldcOf g := (congrArg (fun x : Dev => x.bldcOf g) hrest.1 :)
  obtain ⟨h1, h2⟩ := alignKeys hg (at' Obj.I_LIMIT_7100 g) (by simp)
  simp only [Dev.bldcLimit, hderated, hhot, hred, Dev.n_eq (hobj.same _ h1 h2)]

/-- With its readings taken a group's duty is that of the state before them with the new VLV. -/
theorem Dev.alignNow_read {d e : Dev} (hrest : d.ReadOnly e) (hobj : OnlyObjects isLvReading d e) {g v : Nat} (hg : g < 4) (hv : e.o Obj.VLV = (min 65535 v : Nat)) (i : Int) :
    e.alignNow g i = alignDuty d g v i := by
  have hkeys := alignKeys hg
  simp only [List.forall_mem_cons, List.not_mem_nil, false_implies, implies_true, and_true] at hkeys
  obtain ⟨hkp, hki, hal, -, hf, hdead, hzc, hsh, -⟩ := hkeys
  have hred : e.bldcOf g = d.bldcOf g := (congrArg (fun x : Dev => x.bldcOf g) hrest.1 :)
  have hwv : (d.setO Obj.VLV (min 65535 v : Nat)).n Obj.VLV = e.n Obj.VLV := Dev.n_eq ((Dev.o_setO_same _ _ _).trans hv.symm)
  have hwf : (d.setO Obj.VLV (min 65535 v : Nat)).n Obj.LV_F_PWM = d.n Obj.LV_F_PWM := Dev.n_eq (Dev.o_setO_other _ _ (by decide))
  simp only [Dev.alignNow, alignDuty, Dev.minOn, Dev.dutyOf, Dev.bldcLimit_read hrest hobj hg, hobj.same _ hkp.1 hkp.2, hobj.same _ hki.1 hki.2, hobj.same _ hal.1 hal.2,
    Dev.n_eq (hobj.same _ hf.1 hf.2), Dev.n_eq (hobj.same _ hdead.1 hdead.2), Dev.n_eq (hobj.same _ hzc.1 hzc.2), Dev.n_eq (hobj.same _ hsh.1 hsh.2), hred, hwv, hwf]

/-- The current control and the thermal models of a group that drives sector 0. -/
def Dev.alignHeated (d : Dev) (g : Nat) (i a : Int) (f1 f2 : Bldc → Bldc) : Dev :=
  ((((((d.updBldc g f1).setO (at' Obj.DUTY g) a).setO (at' Obj.I_DC g) (clampI (-32768) 32767 (i / 100))).updBldc g f2).heatHb (17 + 3 * g + 0) i).heatHb
    (17 + 3 * g + 1) i).heatHb (17 + 3 * g + 2) 0

/-- The PWM phase of sector 0 switched by its duty, and the refresh of the three bootstraps. -/
def Dev.alignSwitched (d : Dev) (g : Nat) (a low : Int) : Dev :=
  (((d.setBit (el Obj.HB_STATUS (17 + 3 * g + 0)) 0 (decide (0 < a))).refresh (17 + 3 * g + 0) true low).refresh (17 + 3 * g + 1) false 0).refresh (17 + 3 * g + 2) false 0

theorem Dev.bldcCurrent_align {d : Dev} {g : Nat} (h : d.bldcState g ≠ 3) (i : Int) : ∃ f : Bldc → Bldc, (∀ b, (f b).sector = b.sector) ∧
    d.bldcCurrent g i = ((d.setO (at' Obj.DUTY g) (d.alignNow g i)).setO (at' Obj.I_DC g) (clampI (-32768) 32767 (i / 100))).updBldc g f := by
  have href : d.bldcRef g = min (d.bldcLimit g : Int) (100 * d.o (at' Obj.ALIGN_I g)) := if_neg h
  unfold Dev.bldcCurrent Dev.alignNow
  rw [href]
  simp only []
  generalize lvPi _ _ _ _ _ _ _ = r
  exact ⟨fun b => { b with integ := r.2 }, fun _ => rfl, rfl⟩

theorem Dev.extrapolate_invalid {d : Dev} {n : Nat} (h : d.b (axTrack n).validKey = false) :
    d.extrapolate (axTrack n) = d.updTrack (axTrack n) (fun k => { k with at_ := d.wall }) := by
  unfold Dev.extrapolate axTrack at *
  simp only [h, Bool.not_false, if_true]

/-- The keys of the axis track and of the group's STATE are none of those that a current control writes. -/
theorem alignQuiet {g : Nat} (hg : g < 4) : ∀ k ∈ [at' Obj.STATE_7100 g, (axTrack (4 + g)).validKey], k ≠ at' Obj.DUTY g ∧ k ≠ at' Obj.I_DC g ∧ keyIdx k ≠ 0x7005 ∧ isStatus k = false := by
  interval_cases g <;> decide

theorem Dev.alignHeated_keeps (d : Dev) {g : Nat} (hg : g < 4) (i a : Int) (f1 f2 : Bldc → Bldc) {k : Nat} (hk : k ≠ at' Obj.DUTY g ∧ k ≠ at' Obj.I_DC g ∧ keyIdx k ≠ 0x7005)
    (hs : isStatus k = false) : (d.alignHeated g i a f1 f2).o k = d.o k := by
  unfold Dev.alignHeated
  have hset : ((((d.updBldc g f1).setO (at' Obj.DUTY g) a).setO (at' Obj.I_DC g) (clampI (-32768) 32767 (i / 100))).updBldc g f2).o k = d.o k :=
    (Dev.o_setO_other _ _ hk.2.1).trans (Dev.o_setO_other _ _ hk.1)
  generalize (((d.updBldc g f1).setO (at' Obj.DUTY g) a).setO (at' Obj.I_DC g) (clampI (-32768) 32767 (i / 100))).updBldc g f2 = x at *
  have hheat (x : Dev) (m : Nat) (hm : m ≤ 2) (v : Int) : (x.heatHb (17 + 3 * g + m) v).o k = x.o k :=
    (x.onlyObjects_heatHb (by omega) v).same k (by simpa using hk.2.2) hs
  rw [hheat _ _ (by decide), hheat _ _ (by decide), hheat _ _ (by decide), hset]

theorem Dev.alignHeated_bldc (d : Dev) (g : Nat) (i a : Int) (f1 f2 : Bldc → Bldc) : (d.alignHeated g i a f1 f2).bldcOf g = f2 (f1 (d.bldcOf g)) := by
  have hheat (x : Dev) (n : Nat) (v : Int) : (x.heatHb n v).bldcOf g = x.bldcOf g := rfl
  unfold Dev.alignHeated
  rw [hheat, hheat, hheat, Dev.bldcOf_updBldc]
  exact congrArg f2 (Dev.bldcOf_updBldc d g f1)

theorem Dev.alignHeated_duty (d : Dev) {g : Nat} (hg : g < 4) (i a : Int) (f1 f2 : Bldc → Bldc) : (d.alignHeated g i a f1 f2).o (at' Obj.DUTY g) = a ∧
    (d.alignHeated g i a f1 f2).o (at' Obj.I_DC g) = clampI (-32768) 32767 (i / 100) := by
  have hheat (x : Dev) (m : Nat) (hm : m ≤ 2) (v : Int) {k : Nat} (hk : keyIdx k ≠ 0x7005 ∧ isStatus k = false) : (x.heatHb (17 + 3 * g + m) v).o k = x.o k :=
    (x.onlyObjects_heatHb (by omega) v).same k (by simpa using hk.1) hk.2
  have hd : keyIdx (at' Obj.DUTY g) ≠ 0x7005 ∧ isStatus (at' Obj.DUTY g) = false := by interval_cases g <;> decide
  have hi : keyIdx (at' Obj.I_DC g) ≠ 0x7005 ∧ isStatus (at' Obj.I_DC g) = false := by interval_cases g <;> decide
  have hne : at' Obj.DUTY g ≠ at' Obj.I_DC g := by
    simp only [at', Obj.DUTY, Obj.I_DC]
    omega
  unfold Dev.alignHeated
  rw [hheat _ _ (by decide) _ hd, hheat _ _ (by decide) _ hd, hheat _ _ (by decide) _ hd, hheat _ _ (by decide) _ hi, hheat _ _ (by decide) _ hi, hheat _ _ (by decide) _ hi]
  exact ⟨(Dev.o_setO_other _ _ hne).trans (Dev.o_setO_same _ _ _), Dev.o_setO_same _ _ _⟩

theorem Dev.lossCheck_other {d : Dev} {g : Nat} (h : d.bldcState g ≠ 3) (i : Int) : d.lossCheck g i = d := if_pos h

/-- The boundary of a group whose rotor is aligned: current control, thermal models, and the PWM phase. -/
theorem Dev.bldcBoundary_align {d : Dev} {g : Nat} (hg : g < 4) (hstate : d.bldcState g = 1) (hsector : (d.bldcOf g).sector = 0) (htrip : (d.bldcOf g).tripped = false)
    (hvalid : d.b (axTrack (4 + g)).validKey = false) (i : LvIn) : ∃ f1 f2 ft low,
    d.bldcBoundary g i = ((d.alignHeated g (i.i.getD 0 0) (d.alignNow g (i.i.getD 0 0)) f1 f2).updTrack (axTrack (4 + g)) ft).alignSwitched g (d.alignNow g (i.i.getD 0 0)) low := by
  have hquiet := alignQuiet hg
  simp only [List.forall_mem_cons, List.not_mem_nil, false_implies, implies_true, and_true] at hquiet
  obtain ⟨⟨hs1, hs2, hs3, hs4⟩, hv1, hv2, hv3, hv4⟩ := hquiet
  let f1 : Bldc → Bldc := fun b => { b with emf := i.emf, tripped := false, since := b.since + 1 }
  have hstate0 : (d.updBldc g f1).bldcState g = 1 := hstate
  obtain ⟨f2, hf2, hcur⟩ := Dev.bldcCurrent_align (d := d.updBldc g f1) (g := g) (by rw [hstate0]; decide) (i.i.getD 0 0)
  have halign : (d.updBldc g f1).alignNow g (i.i.getD 0 0) = d.alignNow g (i.i.getD 0 0) := by
    have hof : (d.updBldc g f1).bldcOf g = f1 (d.bldcOf g) := Dev.bldcOf_updBldc d g f1
    unfold Dev.alignNow Dev.bldcLimit
    rw [hof]
    rfl
  rw [halign] at hcur
  have hheated : ((((d.updBldc g f1).bldcCurrent g (i.i.getD 0 0)).heatHb (17 + 3 * g + 0) (i.i.getD 0 0)).heatHb (17 + 3 * g + 1) (i.i.getD 0 0)).heatHb (17 + 3 * g + 2) 0 =
      d.alignHeated g (i.i.getD 0 0) (d.alignNow g (i.i.getD 0 0)) f1 f2 := by
    rw [hcur]
    rfl
  have hkeep (k : Nat) := d.alignHeated_keeps hg (k := k) (i.i.getD 0 0) (d.alignNow g (i.i.getD 0 0)) f1 f2
  have hbl := (d.alignHeated_bldc g (i.i.getD 0 0) (d.alignNow g (i.i.getD 0 0)) f1 f2)
  have hduty := d.alignHeated_duty hg (i.i.getD 0 0) (d.alignNow g (i.i.getD 0 0)) f1 f2
  generalize hx : d.alignHeated g (i.i.getD 0 0) (d.alignNow g (i.i.getD 0 0)) f1 f2 = x at *
  have hxstate : x.bldcState g = 1 := (Dev.n_eq (hkeep _ ⟨hs1, hs2, hs3⟩ hs4)).trans hstate
  have hxsec : (x.bldcOf g).sector = 0 := by rw [hbl, hf2]; exact hsector
  have hxvalid : x.b (axTrack (4 + g)).validKey = false := (Dev.b_eq (hkeep _ ⟨hv1, hv2, hv3⟩ hv4)).trans hvalid
  unfold Dev.bldcBoundary
  simp only [hstate, hsector, htrip, sectorPhases, true_or, if_true, Bool.false_eq_true, if_false, Bool.not_false, Bool.true_and]
  rw [hheated, Dev.extrapolate_invalid hxvalid]
  generalize hy : x.updTrack (axTrack (4 + g)) (fun k => { k with at_ := x.wall }) = y
  have hystate : y.bldcState g = 1 := by rw [← hy]; exact hxstate
  have hysec : (y.bldcOf g).sector = 0 := by rw [← hy]; exact hxsec
  have hyduty : y.o (at' Obj.DUTY g) = d.alignNow g (i.i.getD 0 0) := by rw [← hy]; exact hduty.1
  have hno (f : Dev → Dev) : y.when (decide (2 ≤ 1)) f = y := rfl
  have hloss : y.lossCheck g (i.i.getD 0 0) = y := Dev.lossCheck_other (by rw [hystate]; decide) _
  refine ⟨f1, f2, fun k => { k with at_ := x.wall }, y.lowTime (d.alignNow g (i.i.getD 0 0)), ?_⟩
  rw [hx, hy]
  cases i.float with
  | none =>
    simp only [hloss, hystate, hysec, hyduty]
    rfl
  | some v =>
    simp only [hno, hloss, hystate, hysec, hyduty]
    rfl

/-- What the boundary of an aligned group changes beside objects. -/
def Dev.AlignOnly : Dev → Dev → Prop := Dev.Outside fun x => { x.unraised with hbs := [], bldcs := [], tracks := [], lvLimit := false }

theorem frame_align : Frame Dev.AlignOnly := frame_outside _

theorem Dev.HeatOnly.align {d e : Dev} (h : d.HeatOnly e) : d.AlignOnly e :=
  ⟨(congrArg (fun x : Dev => ({ x with bldcs := [], tracks := [] } : Dev)) h.1 :), h.2⟩

/-- The objects of the boundary of a group whose rotor is aligned. -/
def isAlignKey (g k : Nat) : Bool := k == at' Obj.DUTY g || k == at' Obj.I_DC g || keyIdx k == 0x7000 || keyIdx k == 0x7002 || keyIdx k == 0x7005 || isTraceCount k

theorem Dev.alignHeated_frame (d : Dev) {g : Nat} (hg : g < 4) (i a : Int) (f1 f2 : Bldc → Bldc) :
    d.AlignOnly (d.alignHeated g i a f1 f2) ∧ OnlyObjects (isAlignKey g) d (d.alignHeated g i a f1 f2) := by
  have hupd (x : Dev) (f : Bldc → Bldc) : x.AlignOnly (x.updBldc g f) ∧ OnlyObjects (isAlignKey g) x (x.updBldc g f) :=
    ⟨Dev.outside_of_eq rfl rfl, (OnlyObjects.refl x).of_obj rfl⟩
  have hheat (x : Dev) (m : Nat) (hm : m ≤ 2) (v : Int) : x.AlignOnly (x.heatHb (17 + 3 * g + m) v) ∧ OnlyObjects (isAlignKey g) x (x.heatHb (17 + 3 * g + m) v) :=
    ⟨(x.heatOnly_heatHb _ v).align, (x.onlyObjects_heatHb (by omega) v).mono fun k h => by simp only [isAlignKey, h, Bool.or_true, Bool.true_or]⟩
  unfold Dev.alignHeated
  obtain ⟨h1, o1⟩ := hupd d f1
  generalize d.updBldc g f1 = x1 at *
  have h2 : d.AlignOnly ((x1.setO (at' Obj.DUTY g) a).setO (at' Obj.I_DC g) (clampI (-32768) 32767 (i / 100))) := frame_align.setO (frame_align.setO h1 _ _) _ _
  have o2 : OnlyObjects (isAlignKey g) d ((x1.setO (at' Obj.DUTY g) a).setO (at' Obj.I_DC g) (clampI (-32768) 32767 (i / 100))) :=
    (o1.setO _ _ (by simp [isAlignKey])).setO _ _ (by simp [isAlignKey])
  generalize (x1.setO (at' Obj.DUTY g) a).setO (at' Obj.I_DC g) (clampI (-32768) 32767 (i / 100)) = x2 at *
  obtain ⟨h3, o3⟩ := hupd x2 f2
  generalize x2.updBldc g f2 = x3 at *
  obtain ⟨h4, o4⟩ := hheat x3 0 (by decide) i
  generalize x3.heatHb (17 + 3 * g + 0) i = x4 at *
  obtain ⟨h5, o5⟩ := hheat x4 1 (by decide) i
  generalize x4.heatHb (17 + 3 * g + 1) i = x5 at *
  obtain ⟨h6, o6⟩ := hheat x5 2 (by decide) 0
  exact ⟨frame_align.trans (frame_align.trans (frame_align.trans (frame_align.trans h2 h3) h4) h5) h6, (((o2.trans o3).trans o4).trans o5).trans o6⟩

/-- The objects of a phase's switch and of the refresh pulses. -/
def isSwitchKey (k : Nat) : Bool := keyIdx k == 0x7000 || keyIdx k == 0x7002 || isTraceCount k

/-- The switch of sector 0's PWM phase; the other bits and half-bridges stay. -/
theorem Dev.alignSwitched_facts (d : Dev) {g : Nat} (hg : g < 4) (a low : Int) : d.HeatOnly (d.alignSwitched g a low) ∧ OnlyObjects (isSwitchKey) d (d.alignSwitched g a low) ∧
    bitOf ((d.alignSwitched g a low).o (el Obj.HB_STATUS (17 + 3 * g))) 0 = decide (0 < a) ∧
    (d.alignSwitched g a low).o (el Obj.HB_STATUS (18 + 3 * g)) = d.o (el Obj.HB_STATUS (18 + 3 * g)) := by
  have href (x : Dev) (m : Nat) (hm : m ≤ 2) (driven : Bool) (v : Int) : x.HeatOnly (x.refresh (17 + 3 * g + m) driven v) ∧
      OnlyObjects (fun k => keyIdx k == 0x7002 || isTraceCount k) x (x.refresh (17 + 3 * g + m) driven v) :=
    ⟨x.heatOnly_refresh _ _ _, x.onlyObjects_refresh (by omega) _ _⟩
  have hidx := (hbKey_idx (n := 17 + 3 * g) (by omega)).1
  have hbit : bitOf ((d.setBit (el Obj.HB_STATUS (17 + 3 * g)) 0 (decide (0 < a))).o (el Obj.HB_STATUS (17 + 3 * g))) 0 = decide (0 < a) := by
    rw [Dev.o_setBit, if_pos rfl, bitOf_putBit_same]
  have hother : (d.setBit (el Obj.HB_STATUS (17 + 3 * g)) 0 (decide (0 < a))).o (el Obj.HB_STATUS (18 + 3 * g)) = d.o (el Obj.HB_STATUS (18 + 3 * g)) := by
    rw [Dev.o_setBit, if_neg (by simp only [el, Obj.HB_STATUS]; omega)]
  have hset : d.HeatOnly (d.setBit (el Obj.HB_STATUS (17 + 3 * g)) 0 (decide (0 < a))) := frame_heat.setBit (frame_heat.refl d) _ _ _
  have hseto : OnlyObjects (isSwitchKey) d (d.setBit (el Obj.HB_STATUS (17 + 3 * g)) 0 (decide (0 < a))) := (OnlyObjects.refl d).setBit _ _ _ (by simp [isSwitchKey, hidx])
  unfold Dev.alignSwitched
  rw [show 17 + 3 * g + 0 = 17 + 3 * g from rfl]
  generalize d.setBit (el Obj.HB_STATUS (17 + 3 * g)) 0 (decide (0 < a)) = x at *
  obtain ⟨h1, o1⟩ := href x 0 (by decide) true low
  rw [show 17 + 3 * g + 0 = 17 + 3 * g from rfl] at h1 o1
  generalize x.refresh (17 + 3 * g) true low = y at *
  obtain ⟨h2, o2⟩ := href y 1 (by decide) false 0
  generalize y.refresh (17 + 3 * g + 1) false 0 = z at *
  obtain ⟨h3, o3⟩ := href z 2 (by decide) false 0
  have htail := (o1.trans o2).trans o3
  generalize z.refresh (17 + 3 * g + 2) false 0 = w at *
  have hkeep (n : Nat) (hn : 1 ≤ n ∧ n ≤ 28) : w.o (el Obj.HB_STATUS n) = x.o (el Obj.HB_STATUS n) :=
    htail.same _ (by simp [(hbKey_idx hn).1, (hbStatus_quiet hn.1 hn.2).2.1]) (hbStatus_quiet hn.1 hn.2).1
  refine ⟨frame_heat.trans (frame_heat.trans (frame_heat.trans hset h1) h2) h3, hseto.trans (htail.mono fun k h => ?_), ?_, ?_⟩
  · simp only [Bool.or_eq_true] at h
    simp only [isSwitchKey, Bool.or_eq_true]
    tauto
  · rw [hkeep _ (by omega), hbit]
  · rw [hkeep _ (by omega), hother]

theorem hbsOf_bldc {g m : Nat} (hg : g < 4) (hm : m < 3) : (17 + 3 * g + m, m) ∈ (hbsOf (4 + g)).zipIdx := by
  interval_cases g <;> interval_cases m <;> decide

/-- The objects that the readings and a BLDC group's boundary both leave alone or report by the former. -/
theorem bldcKeys {g : Nat} (hg : g < 4) : (∀ k ∈ [at' Obj.DUTY g, at' Obj.I_DC g], isStatus k = false) ∧
    isAlignKey g Obj.VLV = false ∧ ∀ m : Fin 3, isAlignKey g (el Obj.BOOT_V (17 + 3 * g + m)) = false ∧ isReaction (el Obj.BOOT_V (17 + 3 * g + m)) = false ∧ isStatus (el Obj.BOOT_V (17 + 3 * g + m)) = false := by
  interval_cases g <;> decide

theorem Dev.ReadOnly.align_raises {d x w : Dev} (hr : d.ReadOnly x) (ha : x.AlignOnly w) :
    ({ d with hbs := w.hbs, bldcs := w.bldcs, tracks := w.tracks, vlvHigh := x.vlvHigh, lvLimit := w.lvLimit } : Dev).RaisesOnly w := by
  refine Dev.raisesOnly_iff.mpr ⟨?_, fun v hv => ha.2 v (hr.2 v hv)⟩
  have h1 := congrArg (fun v : Dev => ({ v with hbs := w.hbs, bldcs := w.bldcs, tracks := w.tracks, vlvHigh := x.vlvHigh, lvLimit := w.lvLimit } : Dev)) hr.1
  have h2 := congrArg (fun v : Dev => ({ v with hbs := w.hbs, bldcs := w.bldcs, tracks := w.tracks, lvLimit := w.lvLimit } : Dev)) ha.1
  exact Eq.trans h2 h1

/-- The group's duty, current and switch after its boundary in the align, and what the boundary leaves. -/
structure Dev.Aligned (d e : Dev) (g : Nat) (i a : Int) : Prop where
  duty : e.o (at' Obj.DUTY g) = a
  idc : e.o (at' Obj.I_DC g) = clampI (-32768) 32767 (i / 100)
  pwm : bitOf (e.o (el Obj.HB_STATUS (17 + 3 * g))) 0 = decide (0 < a)
  low : e.o (el Obj.HB_STATUS (18 + 3 * g)) = d.o (el Obj.HB_STATUS (18 + 3 * g))
  rest : d.AlignOnly e
  obj : OnlyObjects (fun k => isAlignKey g k || isReaction k) d e

theorem Dev.bldcBoundary_aligned {d : Dev} {g : Nat} (hg : g < 4) (hstate : d.bldcState g = 1) (hsector : (d.bldcOf g).sector = 0) (htrip : (d.bldcOf g).tripped = false)
    (hvalid : d.b (axTrack (4 + g)).validKey = false) (i : LvIn) : d.Aligned (d.bldcBoundary g i).showLimit g (i.i.getD 0 0) (d.alignNow g (i.i.getD 0 0)) := by
  obtain ⟨f1, f2, ft, low, hbound⟩ := Dev.bldcBoundary_align hg hstate hsector htrip hvalid i
  rw [hbound]
  generalize d.alignNow g (i.i.getD 0 0) = a at *
  obtain ⟨⟨hd1, hd2, hd3⟩, hi1, hi2, hi3⟩ : (isReaction (at' Obj.DUTY g) = false ∧ isStatus (at' Obj.DUTY g) = false ∧ isSwitchKey (at' Obj.DUTY g) = false) ∧
      isReaction (at' Obj.I_DC g) = false ∧ isStatus (at' Obj.I_DC g) = false ∧ isSwitchKey (at' Obj.I_DC g) = false := by interval_cases g <;> decide
  obtain ⟨hheat, hheato⟩ := d.alignHeated_frame hg (i.i.getD 0 0) a f1 f2
  obtain ⟨hset1, hset2⟩ := d.alignHeated_duty hg (i.i.getD 0 0) a f1 f2
  have hkeep (k : Nat) := d.alignHeated_keeps hg (i.i.getD 0 0) a f1 f2 (k := k)
  generalize d.alignHeated g (i.i.getD 0 0) a f1 f2 = y at *
  have htrack : y.AlignOnly (y.updTrack (axTrack (4 + g)) ft) := Dev.outside_of_eq rfl rfl
  have htracko : (y.updTrack (axTrack (4 + g)) ft).obj = y.obj := rfl
  generalize y.updTrack (axTrack (4 + g)) ft = y' at *
  have hobj' (k : Nat) : y'.o k = y.o k := by rw [Dev.o_eq, Dev.o_eq, htracko]
  obtain ⟨hsw, hswo, hbit, hother⟩ := y'.alignSwitched_facts hg a low
  generalize y'.alignSwitched g a low = z at *
  obtain ⟨hlim, hlimo⟩ := z.showLimit_facts
  generalize z.showLimit = w at *
  have hst17 := hbStatus_quiet (n := 17 + 3 * g) (by omega) (by omega)
  have hst18 := hbStatus_quiet (n := 18 + 3 * g) (by omega) (by omega)
  have hidx18 := (hbKey_idx (n := 18 + 3 * g) (by omega)).1
  have hne18 : el Obj.HB_STATUS (18 + 3 * g) ≠ at' Obj.DUTY g ∧ el Obj.HB_STATUS (18 + 3 * g) ≠ at' Obj.I_DC g := by
    simp only [el, at', Obj.HB_STATUS, Obj.DUTY, Obj.I_DC]
    omega
  refine ⟨?_, ?_, ?_, ?_, frame_align.trans (frame_align.trans (frame_align.trans hheat htrack) hsw.align) hlim.align, ?_⟩
  · rw [hlimo.same _ hd1 hd2, hswo.same _ hd3 hd2, hobj', hset1]
  · rw [hlimo.same _ hi1 hi2, hswo.same _ hi3 hi2, hobj', hset2]
  · rw [hlimo.same _ hst17.2.2 hst17.1, hbit]
  · rw [hlimo.same _ hst18.2.2 hst18.1, hother, hobj', hkeep _ ⟨hne18.1, hne18.2, by rw [hidx18]; decide⟩ hst18.1]
  · refine .trans ((hheato.of_obj htracko).mono fun k h => by rw [h, Bool.true_or]) (.trans (hswo.mono fun k h => ?_) (hlimo.mono fun k h => by rw [h, Bool.or_true]))
    simp only [isSwitchKey, Bool.or_eq_true] at h
    simp only [isAlignKey, Bool.or_eq_true]
    tauto

/-- The objects of a BLDC group's boundary in the align: its readings, its own and those of a reaction. -/
theorem alignShown_iff {g k : Nat} : (k == Obj.VLV || k == at' Obj.DUTY g || k == at' Obj.I_DC g || keyIdx k == 0x7000 || keyIdx k == 0x7001 || keyIdx k == 0x7002 || keyIdx k == 0x7005 || isReaction k) = true ↔
    isLvReading k = true ∨ isAlignKey g k = true ∨ isReaction k = true := by
  have htrace := @isReaction_trace k
  simp only [isLvReading, isAlignKey, Bool.or_eq_true]
  generalize isReaction k = r at *
  generalize isTraceCount k = t at *
  tauto

theorem lvBoundary_bldc (s : State) (j : Fin 8) (i : LvIn) (halive : s.dev.alive = true) (hj : 4 ≤ j.val) (hstate : s.dev.bldcState (j - 4) = 1)
    (hsector : (s.dev.bldcOf (j - 4)).sector = 0) (htrip : (s.dev.bldcOf (j - 4)).tripped = false) (hvalid : s.dev.b (axTrack j).validKey = false) (huv : (s.dev.lvOf j).uv = 0) :
    Completes (.lvBoundary j i) s (fun e => e.o Obj.VLV = (min 65535 i.vlv : Nat) ∧ e.o (at' Obj.DUTY (j - 4)) = alignDuty s.dev (j - 4) i.vlv (i.i.getD 0 0) ∧ e.o (at' Obj.I_DC (j - 4)) = clampI (-32768) 32767 (i.i.getD 0 0 / 100) ∧
      bitOf (e.o (el Obj.HB_STATUS (17 + 3 * (j - 4)))) 0 = decide (0 < alignDuty s.dev (j - 4) i.vlv (i.i.getD 0 0)) ∧
      bitOf (e.o (el Obj.HB_STATUS (18 + 3 * (j - 4)))) 1 = bitOf (s.dev.o (el Obj.HB_STATUS (18 + 3 * (j - 4)))) 1 ∧
      (∀ m : Fin 3, e.o (el Obj.BOOT_V (17 + 3 * (j - 4) + m)) = (min 65535 (i.boots.getD m 0) : Nat)) ∧
      ({ s.dev with hbs := e.hbs, bldcs := e.bldcs, tracks := e.tracks, vlvHigh := e.vlvHigh, lvLimit := e.lvLimit } : Dev).RaisesOnly e ∧ OnlyObjects (fun k => k == Obj.VLV || k == at' Obj.DUTY (j.val - 4) || k == at' Obj.I_DC (j.val - 4) || keyIdx k == 0x7000 || keyIdx k == 0x7001 || keyIdx k == 0x7002 || keyIdx k == 0x7005 || isReaction k) s.dev e) := by
  obtain ⟨g, hg, hjg⟩ : ∃ g, g < 4 ∧ j.val = 4 + g := ⟨j.val - 4, by omega, by omega⟩
  have hread := s.dev.lvReadings_read j.isLt i
  have hgone : j.val - 4 = g := by omega
  rw [hgone] at hstate hsector htrip ⊢
  have hst := alignKeys hg (at' Obj.STATE_7100 g) (by simp)
  have hof : (s.dev.lvReadings j i).bldcOf g = s.dev.bldcOf g := (congrArg (fun x : Dev => x.bldcOf g) hread.rest.1 :)
  have hval : isLvReading (axTrack (4 + g)).validKey = false ∧ isStatus (axTrack (4 + g)).validKey = false := by interval_cases g <;> decide
  have hdone := Dev.bldcBoundary_aligned hg ((Dev.n_eq (hread.obj.same _ hst.1 hst.2)).trans hstate) ((congrArg Bldc.sector hof).trans hsector)
    ((congrArg Bldc.tripped hof).trans htrip) ((Dev.b_eq (hread.obj.same _ hval.1 hval.2)).trans (hjg ▸ hvalid)) i
  have heq : s.dev.lvBoundary j i = ((s.dev.lvReadings j i).bldcBoundary g i).showLimit := by
    unfold Dev.lvBoundary
    simp only [Dev.bootBack_none ((congrArg LvGroup.uv (Dev.lvOf_read hread.rest j)).trans huv), if_neg (show ¬ j.val < 4 by omega), hgone]
  rw [Dev.alignNow_read hread.rest hread.obj hg hread.vlv] at hdone
  generalize alignDuty s.dev g i.vlv (i.i.getD 0 0) = a at *
  generalize s.dev.lvReadings j i = x at *
  generalize (x.bldcBoundary g i).showLimit = w at *
  refine completes_live_eq w rfl halive heq ?_
  obtain ⟨hkeys, hvlv, hboot⟩ := bldcKeys hg
  simp only [List.forall_mem_cons, List.not_mem_nil, false_implies, implies_true, and_true] at hkeys
  have hst17 := (hbStatus_quiet (n := 17 + 3 * g) (by omega) (by omega)).1
  have hst18 := (hbStatus_quiet (n := 18 + 3 * g) (by omega) (by omega)).1
  have h18 : (18 + 3 * g, 1) ∈ (hbsOf j).zipIdx := by
    rw [hjg, show 18 + 3 * g = 17 + 3 * g + 1 by omega]
    exact hbsOf_bldc hg (by decide)
  refine ⟨?_, ?_, ?_, ?_, ?_, fun m => ?_, ?_, ?_⟩
  · rw [Dev.o_settle _ (by decide), hdone.obj.same _ (by rw [hvlv]; rfl) (by decide), hread.vlv]
  · rw [Dev.o_settle _ hkeys.1, hdone.duty]
  · rw [Dev.o_settle _ hkeys.2, hdone.idc]
  · rw [Dev.o_settle _ hst17, hdone.pwm]
  · rw [Dev.o_settle _ hst18, hdone.low]
    exact (hread.shown _ h18).keep 1
  · obtain ⟨hb1, hb2, hb3⟩ := hboot m
    rw [Dev.o_settle _ hb3, hdone.obj.same _ (by rw [hb1, hb2]; rfl) hb3]
    exact (hread.shown _ (hjg ▸ hbsOf_bldc hg m.isLt)).volts
  · have hhigh : w.vlvHigh = x.vlvHigh := (congrArg Dev.vlvHigh hdone.rest.1 :)
    rw [Dev.settle_hbs, Dev.settle_bldcs, Dev.settle_tracks, Dev.settle_vlvHigh, Dev.settle_lvLimit, hhigh]
    exact frame_raises.settle (hread.rest.align_raises hdone.rest)
  · exact OnlyObjects.settle (.trans (hread.obj.mono fun k h => alignShown_iff.mpr (.inl h)) (hdone.obj.mono fun k h => alignShown_iff.mpr (.inr (Bool.or_eq_true _ _ ▸ h))))

/-- Settles O29: the readings, the align's current control, the budget, the comparators and a slot's sample, clause by clause. -/
theorem lvBoundaries : Obligations.LvBoundaries :=
  ⟨lvBoundary_stepper, lvBoundary_bldc, vlvBudget_within, vlvBudget_beyond, cycleTrip_bldc, cycleTrip_stepper, loopSample_computes⟩

end Sys2Proof.Machine
end

section
/-! The motions and switches of a BLDC group: source updates of its track, sectors, and coasting (R296, R301 to R304). -/

namespace Sys2Proof.Machine

/-! ### A source update of a plain track while no slot is armed and no write waits -/

/-- The objects of a track's motion with its count of jumps. -/
def isMotion (t : TrackId) (k : Nat) : Bool := (motionKeys t).contains k || k == at' Obj.JUMPS t.code || isTraceCount k

/-- `z` is `d` with a source's rate stamped on track `t`. -/
structure Dev.Sourced (d z : Dev) (t : TrackId) (rate : Int) : Prop where
  rest : d.TracksOnly z
  obj : OnlyObjects (isMotion t) d z
  rate : z.o t.rateKey = rate
  valid : z.b t.validKey = true

section
variable {t : TrackId} (hp : plainTrack t) {d z : Dev} {rate : Int}

theorem isMotion_trace (t : TrackId) (k : Nat) (h : isTraceCount k = true) : isMotion t k = true := by rw [isMotion, h, Bool.or_true]

theorem isMotion_motion {t : TrackId} {k : Nat} (h : k ∈ motionKeys t) : isMotion t k = true := by
  simp [isMotion, h]

theorem isMotion_keys (t : TrackId) : isMotion t t.valueKey = true ∧ isMotion t t.rateKey = true ∧ isMotion t t.dirKey = true ∧ isMotion t t.validKey = true :=
  ⟨isMotion_motion (by simp [motionKeys]), isMotion_motion (by simp [motionKeys]), isMotion_motion (by simp [motionKeys]), isMotion_motion (by simp [motionKeys])⟩

theorem Dev.sourced_first (d : Dev) (t : TrackId) (rate : Int) : d.Sourced (((d.stamped t rate).setB t.validKey true).event 0xF5) t rate := by
  obtain ⟨-, hr, -, hv⟩ := isMotion_keys t
  refine ⟨frame_tracks.event (frame_tracks.setB (frame_tracks.trans (frame_tracks.setO (frame_tracks.refl d) _ _) (Dev.tracksOnly_updTrack _ _ _)) _ _) _, ?_, ?_, ?_⟩
  · exact ((((OnlyObjects.refl d).setO t.rateKey rate (by simp [hr])).of_obj (Dev.updTrack_obj _ _ _)).setB t.validKey true (by simp [hv])).event _ (isMotion_trace t)
  · simp [Dev.o_eq, Dev.stamped]
  · simp [Dev.b, Dev.o_eq, Dev.stamped]
    decide

include hp

theorem Dev.sourced_next (hslots : d.slots = []) (hvalid : d.b t.validKey = true) : d.Sourced ((d.extrapolate t).stamped t rate) t rate := by
  obtain ⟨hv, hr, hd, hvalidKey⟩ := isMotion_keys t
  have hkeep : (d.extrapolate t).o t.validKey = d.o t.validKey :=
    (Dev.onlyObjects_extrapolate (ks := fun k => k == t.valueKey || k == t.dirKey || isTraceCount k) hp hslots (by simp) (by simp) (by simp +contextual)).same _ (by simp) (by simp)
  refine ⟨frame_tracks.trans (Dev.tracksOnly_extrapolate hp hslots) (frame_tracks.trans (frame_tracks.setO (frame_tracks.refl _) _ _) (Dev.tracksOnly_updTrack _ _ _)), ?_, ?_, ?_⟩
  · exact ((Dev.onlyObjects_extrapolate hp hslots hv hd (isMotion_trace t)).setO t.rateKey rate (by simp [hr])).of_obj (Dev.updTrack_obj _ _ _)
  · simp [Dev.o_eq, Dev.stamped]
  · rw [← hvalid]
    refine Dev.b_eq ((Dev.o_setO_other _ _ (by simp)).trans hkeep)

omit hp in
theorem Dev.Sourced.upd (h : d.Sourced z t rate) (f : Track → Track) : d.Sourced (z.updTrack t f) t rate :=
  ⟨frame_tracks.trans h.rest (Dev.tracksOnly_updTrack _ _ _), h.obj.of_obj rfl, h.rate, h.valid⟩

theorem Dev.Sourced.setValue (h : d.Sourced z t rate) (v : Int) : d.Sourced (z.setValue t v) t rate := by
  rw [Dev.setValue_of_ne_wall hp.ne_wall]
  obtain ⟨hv, -⟩ := isMotion_keys t
  exact ⟨frame_tracks.setO h.rest _ _, h.obj.setO _ _ (by simp [hv]), (Dev.o_setO_other _ _ (by simp)).trans h.rate, (Dev.b_eq (Dev.o_setO_other _ _ (by simp))).trans h.valid⟩

theorem Dev.Sourced.moveTo (h : d.Sourced z t rate) (hslots : d.slots = []) (v : Int) (j : Bool) : d.Sourced (z.moveTo t v j) t rate := by
  obtain ⟨hv, -, hd, -⟩ := isMotion_keys t
  have hs : z.slots = [] := h.rest.slots.trans hslots
  exact ⟨frame_tracks.trans h.rest (Dev.tracksOnly_moveTo hp hs v j), h.obj.trans (Dev.onlyObjects_moveTo hp hs hv hd (isMotion_trace t) v j),
    (Dev.o_moveTo hp hs (by simp) (by simp) (by simp) v j).trans h.rate, (Dev.b_eq (Dev.o_moveTo hp hs (by simp) (by simp) (by simp) v j)).trans h.valid⟩

omit hp in
theorem Dev.Sourced.jumped (h : d.Sourced z t rate) : d.Sourced (z.jumped t) t rate :=
  ⟨frame_tracks.trans h.rest (z.tracksOnly_jumped t), h.obj.trans (Dev.onlyObjects_jumped (fun _ => by simp [isMotion]) (isMotion_trace t) z),
    (z.o_jumped (by simp [motionKeys])).trans h.rate, (Dev.b_eq (z.o_jumped (by simp [motionKeys]))).trans h.valid⟩

/-- A jump takes the value and raises its event (R53). -/
theorem Dev.Sourced.jumpTo (h : d.Sourced z t rate) (hslots : d.slots = []) (v : Int) :
    d.Sourced (z.jumpTo t v) t rate ∧ (z.jumpTo t v).o t.valueKey = t.wrap v ∧ (z.jumpTo t v).raised 0xF2 := by
  rw [Dev.jumpTo_eq]
  have hs : (z.jumped t).slots = [] := h.jumped.rest.slots.trans hslots
  exact ⟨h.jumped.moveTo hp hslots v true, Dev.o_moveTo_value hp hs v true, (Dev.tracksOnly_moveTo hp hs v true).raised (d := { z.jumped t with tracks := _ }) z.raised_jumped⟩

/-- A source update stamps its rate and makes the track valid; one that a chapter names a jump takes the value (R51 to R53). -/
theorem Dev.sourceUpdate_sourced (hslots : d.slots = []) (hwrites : d.writes = []) (v : Int) (jump : Bool) : d.Sourced (d.sourceUpdate t v rate jump) t rate ∧
    (jump = true → (d.sourceUpdate t v rate jump).o t.valueKey = t.wrap v ∧ (d.sourceUpdate t v rate jump).raised 0xF2) := by
  have hdone {z : Dev} (h : d.Sourced z t rate) : z.runWaiting t = z ∧ z.trackWrites t = z :=
    ⟨Dev.runWaiting_nil (h.rest.slots.trans hslots) t, Dev.trackWrites_nil (h.rest.writes.trans hwrites) t⟩
  suffices h : ∃ z, d.Sourced z t rate ∧ (jump = true → z.o t.valueKey = t.wrap v ∧ z.raised 0xF2) ∧ d.sourceUpdate t v rate jump = z by
    obtain ⟨z, hz, hj, heq⟩ := h
    rw [heq]
    exact ⟨hz, hj⟩
  have hwall := hp.ne_wall
  have hfirst := d.sourced_first t rate
  have hnext (h : d.b t.validKey = true) := Dev.sourced_next hp hslots h (rate := rate)
  have hbegun := hfirst.upd (fun k => { k with started := true, holding := false, rem := 0, extreme := t.wrap v })
  have hheld (h : d.b t.validKey = true) := (hnext h).upd (fun k => { k with holding := true, src := t.wrap v, rem := 0 })
  have hfree (h : d.b t.validKey = true) := (hnext h).upd (fun k => { k with holding := false, rem := 0 })
  have hdec (h : ¬(!(d.b t.validKey) || !(d.trk t).started) = true) : d.b t.validKey = true := by simp_all
  unfold Dev.sourceUpdate
  cases t with
  | wall => exact absurd rfl hwall
  | angA | angB | mains | gnd | ax | row =>
    simp only []
    split
    · split
      · obtain ⟨hz, hj⟩ := hfirst.jumpTo hp hslots v
        exact ⟨_, hz, fun _ => hj, (congrArg (fun x : Dev => x.trackWrites _) (hdone hz).1).trans (hdone hz).2⟩
      · split
        · obtain ⟨hz, hj⟩ := hbegun.jumpTo hp hslots v
          exact ⟨_, hz, fun _ => hj, (congrArg (fun x : Dev => x.trackWrites _) (hdone hz).1).trans (hdone hz).2⟩
        · have hz := hbegun.setValue hp v
          exact ⟨_, hz, by simp_all, (congrArg (fun x : Dev => x.trackWrites _) (hdone hz).1).trans (hdone hz).2⟩
    · rename_i hold
      have hvalid := hdec hold
      have hx := hnext hvalid
      split
      · obtain ⟨hz, hj⟩ := hx.jumpTo hp hslots v
        exact ⟨_, hz, fun _ => hj, (hdone hz).2⟩
      · rename_i hjump
        have hno : jump = false := by simp_all
        split
        all_goals
          split
          · have hz := hheld hvalid
            exact ⟨_, hz, by simp [hno], (hdone hz).2⟩
          · have hz := (hfree hvalid).moveTo hp hslots v false
            exact ⟨_, hz, by simp [hno], (hdone hz).2⟩

end

/-! ### The switches of half-bridges (R296, R304) -/

/-- The two switches of a half-bridge. -/
def Dev.switches (d : Dev) (n : Nat) : Bool × Bool := (bitOf (d.o (el Obj.HB_STATUS n)) 0, bitOf (d.o (el Obj.HB_STATUS n)) 1)

theorem Dev.switches_congr {d e : Dev} {n : Nat} (h : e.o (el Obj.HB_STATUS n) = d.o (el Obj.HB_STATUS n)) : e.switches n = d.switches n := by
  rw [Dev.switches, Dev.switches, h]

theorem Dev.switches_setHb_same (d : Dev) (n : Nat) (hs ls : Bool) : (d.setHb n hs ls).switches n = (hs, ls) := by
  simp only [Dev.switches, Dev.setHb, Dev.o_setBit, if_true, bitOf_putBit_same, bitOf_putBit_other _ _ (show 0 ≠ 1 by decide)]

theorem Dev.o_setHb_other (d : Dev) {n k : Nat} (h : k ≠ el Obj.HB_STATUS n) (hs ls : Bool) : (d.setHb n hs ls).o k = d.o k := by
  simp only [Dev.setHb, Dev.o_setBit, h, if_false]

theorem Dev.switches_setHb_other (d : Dev) {n m : Nat} (h : m ≠ n) (hs ls : Bool) : (d.setHb n hs ls).switches m = d.switches m :=
  Dev.switches_congr (d.o_setHb_other (fun he => h ((hbKey_inj (by decide)).mp he)) hs ls)

theorem Dev.shows_setHb (d : Dev) (n : Nat) (hs ls : Bool) : d.ShowsOnly (d.setHb n hs ls) := frame_shows.setBit (frame_shows.setBit (frame_shows.refl d) _ _ _) _ _ _

theorem Dev.onlyObjects_setHb (d : Dev) {n : Nat} (hn : 1 ≤ n ∧ n ≤ 28) (hs ls : Bool) : OnlyObjects (fun k => keyIdx k == 0x7000) d (d.setHb n hs ls) := by
  have h := (hbKey_idx hn).1
  exact ((OnlyObjects.refl d).setBit _ _ _ (by simp [h])).setBit _ _ _ (by simp [h])

/-- A list of half-bridges switched alike. -/
theorem Dev.switches_foldl_setHb (hs ls : Bool) (l : List Nat) : ∀ (d : Dev) (n : Nat), n ∈ l → (l.foldl (fun d n => d.setHb n hs ls) d).switches n = (hs, ls) := by
  have hother (l : List Nat) : ∀ (d : Dev) (n : Nat), n ∉ l → (l.foldl (fun d n => d.setHb n hs ls) d).switches n = d.switches n := by
    induction l with
    | nil => exact fun _ _ _ => rfl
    | cons m ms ih =>
      intro d n h
      exact (ih _ n fun hn => h (by simp [hn])).trans (d.switches_setHb_other (fun he => h (by simp [he])) hs ls)
  induction l with
  | nil => simp
  | cons m ms ih =>
    intro d n h
    by_cases hn : n ∈ ms
    · exact ih _ n hn
    · obtain rfl : n = m := by simpa [hn] using h
      exact (hother ms _ n hn).trans (d.switches_setHb_same n hs ls)

/-- The half-bridges of BLDC group `g` switched alike. -/
theorem Dev.foldl_setHb_frame {g : Nat} (hg : g < 4) (d : Dev) (hs ls : Bool) : d.ShowsOnly ((hbsOf (4 + g)).foldl (fun d n => d.setHb n hs ls) d) ∧
    OnlyObjects (fun k => keyIdx k == 0x7000) d ((hbsOf (4 + g)).foldl (fun d n => d.setHb n hs ls) d) :=
  ⟨Dev.shows_foldl (fun d n => d.shows_setHb n hs ls) _ _, (OnlyObjects.refl d).foldl _ fun d n hn => d.onlyObjects_setHb (mem_hbsOf (by omega) hn) hs ls⟩

/-! ### The hidden state of the BLDC groups -/

/-- `e` is `d` but for the groups' hidden state, objects, events and the trace. -/
def Dev.BldcOnly : Dev → Dev → Prop := Dev.Outside fun x => { x with bldcs := [] }

theorem frame_bldc : Frame Dev.BldcOnly := frame_outside _

theorem Dev.bldcOnly_upd (d : Dev) (g : Nat) (f : Bldc → Bldc) : d.BldcOnly (d.updBldc g f) := Dev.outside_of_eq rfl rfl

theorem Dev.BldcOnly.shows {d e : Dev} (h : d.BldcOnly e) : ({ d with bldcs := e.bldcs } : Dev).ShowsOnly e :=
  Dev.showsOnly_iff.mpr ⟨(congrArg (fun x : Dev => ({ x with bldcs := e.bldcs } : Dev)) h.1 :), h.2⟩

theorem Dev.ShowsOnly.bldcOf {d e : Dev} (h : d.ShowsOnly e) (g : Nat) : e.bldcOf g = d.bldcOf g := by
  unfold Dev.bldcOf
  rw [h.bldcs]

/-! ### Sectors (R296) -/

theorem sectorPhases_distinct (x : Nat) : ((sectorPhases x).1 < 3 ∧ (sectorPhases x).2.1 < 3 ∧ (sectorPhases x).2.2 < 3) ∧
    (sectorPhases x).1 ≠ (sectorPhases x).2.1 ∧ (sectorPhases x).1 ≠ (sectorPhases x).2.2 ∧ (sectorPhases x).2.1 ≠ (sectorPhases x).2.2 := by
  unfold sectorPhases
  split <;> decide

/-- The switches of `drives`, phase by phase. -/
theorem drives_iff {e : Dev} {g x : Nat} : drives e g x ↔ e.switches (17 + 3 * g + (sectorPhases x).1) = (true, false) ∧
    e.switches (17 + 3 * g + (sectorPhases x).2.1) = (false, true) ∧ e.switches (17 + 3 * g + (sectorPhases x).2.2) = (false, false) ∧ (e.bldcOf g).sector = x := by
  simp only [drives, Dev.switches, Prod.mk.injEq]
  tauto

theorem drives_congr {d e : Dev} {g x : Nat} (hg : g < 4) {ks : Nat → Bool} (hobj : OnlyObjects ks d e) (hks : ∀ k, keyIdx k = 0x7000 → ks k = false)
    (hb : (e.bldcOf g).sector = (d.bldcOf g).sector) (h : drives d g x) : drives e g x := by
  have hsame {m : Nat} (hm : m < 3) : e.switches (17 + 3 * g + m) = d.switches (17 + 3 * g + m) := by
    have hn : 1 ≤ 17 + 3 * g + m ∧ 17 + 3 * g + m ≤ 28 := by omega
    exact Dev.switches_congr (hobj.same _ (hks _ (hbKey_idx hn).1) (hbStatus_quiet hn.1 hn.2).1)
  obtain ⟨⟨h1, h2, h3⟩, -⟩ := sectorPhases_distinct x
  obtain ⟨hp, hl, hf, hs⟩ := drives_iff.mp h
  exact drives_iff.mpr ⟨(hsame h1).trans hp, (hsame h2).trans hl, (hsame h3).trans hf, hb.trans hs⟩

@[simp] theorem Dev.bldcOf_settle (d : Dev) (g : Nat) : d.settle.bldcOf g = d.bldcOf g := by
  unfold Dev.bldcOf
  rw [Dev.settle_bldcs]

theorem drives_settle {d : Dev} {g x : Nat} (hg : g < 4) (h : drives d g x) : drives d.settle g x :=
  drives_congr hg (OnlyObjects.settle (OnlyObjects.refl d) (ks := fun _ => false)) (fun _ _ => rfl) (by rw [Dev.bldcOf_settle]) h

/-- What the start of a sector clears. -/
def sectorBegun (x : Nat) (b : Bldc) : Bldc := { b with sector := x, since := 0, left := false, crossed := false, lastX := none, place := none }

/-- Three half-bridges with the first one's high side, the second one's low side and nothing of the third on. -/
def Dev.sectorHbs (d : Dev) (p l f : Nat) : Dev := ((d.setHb p true false).setHb l false true).setHb f false false

theorem Dev.sectorHbs_facts (d : Dev) {p l f : Nat} (hp : 1 ≤ p ∧ p ≤ 28) (hl : 1 ≤ l ∧ l ≤ 28) (hf : 1 ≤ f ∧ f ≤ 28) (hpl : p ≠ l) (hpf : p ≠ f) (hlf : l ≠ f) :
    ((d.sectorHbs p l f).switches p = (true, false) ∧ (d.sectorHbs p l f).switches l = (false, true) ∧ (d.sectorHbs p l f).switches f = (false, false)) ∧
    d.ShowsOnly (d.sectorHbs p l f) ∧ OnlyObjects (fun k => keyIdx k == 0x7000) d (d.sectorHbs p l f) := by
  have ho1 := d.onlyObjects_setHb hp true false
  have hs1 := d.shows_setHb p true false
  have hw1 := d.switches_setHb_same p true false
  unfold Dev.sectorHbs
  generalize d.setHb p true false = x at *
  have ho2 := x.onlyObjects_setHb hl false true
  have hs2 := x.shows_setHb l false true
  have hw2 := x.switches_setHb_same l false true
  have hw2p := x.switches_setHb_other hpl false true
  generalize x.setHb l false true = y at *
  refine ⟨⟨?_, ?_, y.switches_setHb_same f false false⟩, frame_shows.trans (frame_shows.trans hs1 hs2) (y.shows_setHb f false false), (ho1.trans ho2).trans (y.onlyObjects_setHb hf false false)⟩
  · rw [y.switches_setHb_other hpf, hw2p, hw1]
  · rw [y.switches_setHb_other hlf, hw2]

theorem Dev.driveSector_facts (d : Dev) {g : Nat} (hg : g < 4) (x : Nat) : drives (d.driveSector g x) g x ∧ d.BldcOnly (d.driveSector g x) ∧
    OnlyObjects (fun k => keyIdx k == 0x7000) d (d.driveSector g x) ∧ (d.driveSector g x).bldcOf g = sectorBegun x (d.bldcOf g) := by
  obtain ⟨⟨h1, h2, h3⟩, hpl, hpf, hlf⟩ := sectorPhases_distinct x
  have heq : d.driveSector g x = (d.sectorHbs (17 + 3 * g + (sectorPhases x).1) (17 + 3 * g + (sectorPhases x).2.1) (17 + 3 * g + (sectorPhases x).2.2)).updBldc g (sectorBegun x) := rfl
  obtain ⟨⟨hp, hl, hf⟩, hs, ho⟩ := d.sectorHbs_facts (p := 17 + 3 * g + (sectorPhases x).1) (l := 17 + 3 * g + (sectorPhases x).2.1) (f := 17 + 3 * g + (sectorPhases x).2.2)
    (by omega) (by omega) (by omega) (by omega) (by omega) (by omega)
  have hb : (d.sectorHbs (17 + 3 * g + (sectorPhases x).1) (17 + 3 * g + (sectorPhases x).2.1) (17 + 3 * g + (sectorPhases x).2.2)).bldcOf g = d.bldcOf g := hs.bldcOf g
  rw [drives_iff, heq]
  generalize d.sectorHbs _ _ _ = y at *
  exact ⟨⟨hp, hl, hf, by rw [Dev.bldcOf_updBldc, sectorBegun]⟩, frame_bldc.trans (frame_bldc.shows hs) (y.bldcOnly_upd _ _), ho.of_obj rfl, by rw [Dev.bldcOf_updBldc, hb]⟩

/-! ### A group that coasts (R302, R304) -/

/-- `e` is `d` but for the hidden state of the groups and of the loops, objects, events and the trace. -/
def Dev.CoastOnly : Dev → Dev → Prop := Dev.Outside fun x => { x with bldcs := [], loops := [] }

theorem frame_coast : Frame Dev.CoastOnly := frame_outside _

/-- The objects that a group's turning off writes. -/
def isCoastKey (g k : Nat) : Bool := keyIdx k == 0x7000 || [at' Obj.DUTY g, at' Obj.STATE_7100 g, at' Obj.SPEED_7100 g, at' Obj.I_DC g, at' Obj.ADVANCE_NOW g, (axTrack (4 + g)).validKey,
  (axTrack (4 + g)).rateKey, at' Obj.ENABLE_A100 (bldcLoop g)].contains k || isTraceCount k

theorem isCoastKey_bldcKey {g k : Nat} (hg : g < 4) (h : isCoastKey g k = true) : bldcKey g k = true := by
  have hown : ∀ k ∈ [at' Obj.DUTY g, at' Obj.STATE_7100 g, at' Obj.SPEED_7100 g, at' Obj.I_DC g, at' Obj.ADVANCE_NOW g, (axTrack (4 + g)).validKey,
      (axTrack (4 + g)).rateKey, at' Obj.ENABLE_A100 (bldcLoop g)], bldcKey g k = true := by
    interval_cases g <;> decide
  simp only [isCoastKey, Bool.or_eq_true, List.contains_iff_mem] at h
  rcases h with (h | h) | h
  · simp only [bldcKey, h, Bool.true_or]
  · exact hown k h
  · simp only [bldcKey, h, Bool.or_true]

theorem coasts_iff {e : Dev} {g : Nat} : coasts e g ↔ (∀ n ∈ hbsOf (4 + g), e.switches n = (false, false)) ∧ e.o (at' Obj.DUTY g) = 0 ∧ e.o (at' Obj.SPEED_7100 g) = 0 ∧
    e.b (lk Obj.ENABLE_A100 (bldcLoop g)) = false ∧ e.b (axTrack (4 + g)).validKey = false := by
  simp only [coasts, Dev.switches, Prod.mk.injEq]

/-- A group that coasts goes on so while nothing writes its objects. -/
theorem coasts_congr {d e : Dev} {g : Nat} (hg : g < 4) {ks : Nat → Bool} (hobj : OnlyObjects ks d e) (hks : ∀ k, keyIdx k = 0x7000 → ks k = false)
    (hown : ∀ k ∈ [at' Obj.DUTY g, at' Obj.SPEED_7100 g, at' Obj.ENABLE_A100 (bldcLoop g), (axTrack (4 + g)).validKey], ks k = false) (h : coasts d g) : coasts e g := by
  obtain ⟨hsw, hd, hs, hl, hv⟩ := coasts_iff.mp h
  have hst : ∀ k ∈ [at' Obj.DUTY g, at' Obj.SPEED_7100 g, at' Obj.ENABLE_A100 (bldcLoop g), (axTrack (4 + g)).validKey], isStatus k = false := by
    interval_cases g <;> decide
  have hsame {k : Nat} (hk : k ∈ [at' Obj.DUTY g, at' Obj.SPEED_7100 g, at' Obj.ENABLE_A100 (bldcLoop g), (axTrack (4 + g)).validKey]) : e.o k = d.o k := hobj.same k (hown k hk) (hst k hk)
  refine coasts_iff.mpr ⟨fun n hn => ?_, (hsame (by simp)).trans hd, (hsame (by simp)).trans hs, (Dev.b_eq (hsame (k := at' Obj.ENABLE_A100 (bldcLoop g)) (by simp))).trans hl, (Dev.b_eq (hsame (by simp))).trans hv⟩
  have hr := mem_hbsOf (show 4 + g < 8 by omega) hn
  exact (Dev.switches_congr (hobj.same _ (hks _ (hbKey_idx hr).1) (hbStatus_quiet hr.1 hr.2).1)).trans (hsw n hn)

theorem coasts_settle {d : Dev} {g : Nat} (hg : g < 4) (h : coasts d g) : coasts d.settle g :=
  coasts_congr hg (ks := fun _ => false) (OnlyObjects.settle (OnlyObjects.refl d)) (fun _ _ => rfl) (fun _ _ => rfl) h

/-- A lost axis track: not valid, and what its loss writes. -/
theorem Dev.loseTrack_axis (d : Dev) (n : Nat) : (d.loseTrack (axTrack n)).b (axTrack n).validKey = false ∧
    OnlyObjects (fun k => [(axTrack n).validKey, (axTrack n).rateKey].contains k || isTraceCount k) d (d.loseTrack (axTrack n)) := by
  unfold Dev.loseTrack
  split
  · rename_i h
    exact ⟨by simpa using h, .refl d⟩
  · have hrow : (axTrack n).isRow = false := rfl
    simp only [hrow, Bool.false_eq_true, if_false, List.foldl_cons, List.foldl_nil]
    refine ⟨?_, ?_⟩
    · simp [Dev.b, Dev.o_eq]
      decide
    · exact (((OnlyObjects.refl d).setB _ _ (by simp)).event _ fun k h => by rw [h, Bool.or_true]).setO _ _ (by simp)

/-- `e` is `d` with group `g` turned off and its STATE at `st`. -/
structure Dev.Coasting (d e : Dev) (g st : Nat) : Prop where
  coasts : coasts e g
  state : e.o (at' Obj.STATE_7100 g) = st
  rest : d.CoastOnly e
  obj : OnlyObjects (isCoastKey g) d e

/-- The keys of a group that turns off, by the step that writes them. -/
theorem coastKeys {g : Nat} (hg : g < 4) :
    (∀ k ∈ [at' Obj.DUTY g, at' Obj.STATE_7100 g], ([(axTrack (4 + g)).validKey, (axTrack (4 + g)).rateKey].contains k || isTraceCount k) = false ∧
      [at' Obj.ENABLE_A100 (bldcLoop g), at' Obj.SPEED_7100 g, at' Obj.I_DC g, at' Obj.ADVANCE_NOW g].contains k = false ∧ isStatus k = false) ∧
    (∀ n ∈ hbsOf (4 + g), isStatus (el Obj.HB_STATUS n) = false ∧ ([at' Obj.DUTY g, at' Obj.STATE_7100 g, (axTrack (4 + g)).validKey, (axTrack (4 + g)).rateKey,
      at' Obj.ENABLE_A100 (bldcLoop g), at' Obj.SPEED_7100 g, at' Obj.I_DC g, at' Obj.ADVANCE_NOW g].contains (el Obj.HB_STATUS n) || isTraceCount (el Obj.HB_STATUS n)) = false) ∧
    at' Obj.DUTY g ≠ at' Obj.STATE_7100 g ∧ (∀ k ∈ [at' Obj.ENABLE_A100 (bldcLoop g), (axTrack (4 + g)).validKey], k ≠ at' Obj.SPEED_7100 g ∧ k ≠ at' Obj.I_DC g ∧ k ≠ at' Obj.ADVANCE_NOW g) ∧
    at' Obj.SPEED_7100 g ≠ at' Obj.I_DC g ∧ at' Obj.SPEED_7100 g ≠ at' Obj.ADVANCE_NOW g ∧ (axTrack (4 + g)).validKey ≠ at' Obj.ENABLE_A100 (bldcLoop g) := by
  interval_cases g <;> decide

theorem Dev.enableLoop_off (d : Dev) (L : Nat) : (d.enableLoops [L] false).b (at' Obj.ENABLE_A100 L) = false ∧ d.CoastOnly (d.enableLoops [L] false) ∧
    OnlyObjects (fun k => k == at' Obj.ENABLE_A100 L) d (d.enableLoops [L] false) := by
  refine ⟨?_, ?_, onlyObjects_enableLoops (.refl d) _ _ (by simp)⟩
  · unfold Dev.enableLoops
    simp [Dev.b, Dev.o_eq]
    decide
  · unfold Dev.enableLoops
    exact frame_coast.setB (d := { d with loops := _ }) (Dev.outside_of_eq rfl rfl) _ _

theorem Dev.bldcOff_coasting (d : Dev) {g : Nat} (hg : g < 4) (st : Nat) : d.Coasting (d.bldcOff g st) g st := by
  obtain ⟨hkeep, hhb, hds, hlast, hsi, hsa, hve⟩ := coastKeys hg
  have hswitch := Dev.switches_foldl_setHb false false (hbsOf (4 + g)) d
  obtain ⟨hs0, ho0⟩ := Dev.foldl_setHb_frame hg d false false
  unfold Dev.bldcOff Dev.hbsOff
  generalize (hbsOf (4 + g)).foldl (fun d n => d.setHb n false false) d = x0 at *
  have hs1 : d.ShowsOnly ((x0.setO (at' Obj.DUTY g) 0).setO (at' Obj.STATE_7100 g) st) := frame_shows.setO (frame_shows.setO hs0 _ _) _ _
  have ho1 : OnlyObjects (fun k => [at' Obj.DUTY g, at' Obj.STATE_7100 g].contains k) x0 ((x0.setO (at' Obj.DUTY g) 0).setO (at' Obj.STATE_7100 g) st) :=
    ((OnlyObjects.refl x0).setO _ _ (by simp)).setO _ _ (by simp)
  have hst1 : ((x0.setO (at' Obj.DUTY g) 0).setO (at' Obj.STATE_7100 g) st).o (at' Obj.STATE_7100 g) = st := Dev.o_setO_same _ _ _
  have hd1 : ((x0.setO (at' Obj.DUTY g) 0).setO (at' Obj.STATE_7100 g) st).o (at' Obj.DUTY g) = 0 := (Dev.o_setO_other _ _ hds).trans (Dev.o_setO_same _ _ _)
  generalize (x0.setO (at' Obj.DUTY g) 0).setO (at' Obj.STATE_7100 g) (st : Int) = x1 at *
  have hs2 := x1.showsOnly_loseTrack (axTrack (4 + g))
  obtain ⟨hv2, ho2⟩ := x1.loseTrack_axis (4 + g)
  simp only []
  generalize x1.loseTrack (axTrack (4 + g)) = x2 at *
  obtain ⟨he3, hf3, ho3⟩ := x2.enableLoop_off (bldcLoop g)
  generalize x2.enableLoops [bldcLoop g] false = x3 at *
  have hf4 : x3.CoastOnly (((x3.setO (at' Obj.SPEED_7100 g) 0).setO (at' Obj.I_DC g) 0).setO (at' Obj.ADVANCE_NOW g) 0) :=
    frame_coast.setO (frame_coast.setO (frame_coast.setO (frame_coast.refl x3) _ _) _ _) _ _
  have ho4 : OnlyObjects (fun k => [at' Obj.SPEED_7100 g, at' Obj.I_DC g, at' Obj.ADVANCE_NOW g].contains k) x3
      (((x3.setO (at' Obj.SPEED_7100 g) 0).setO (at' Obj.I_DC g) 0).setO (at' Obj.ADVANCE_NOW g) 0) :=
    (((OnlyObjects.refl x3).setO _ _ (by simp)).setO _ _ (by simp)).setO _ _ (by simp)
  have hsp : (((x3.setO (at' Obj.SPEED_7100 g) 0).setO (at' Obj.I_DC g) 0).setO (at' Obj.ADVANCE_NOW g) 0).o (at' Obj.SPEED_7100 g) = 0 := by
    rw [Dev.o_setO_other _ _ hsa, Dev.o_setO_other _ _ hsi, Dev.o_setO_same]
  generalize ((x3.setO (at' Obj.SPEED_7100 g) 0).setO (at' Obj.I_DC g) 0).setO (at' Obj.ADVANCE_NOW g) 0 = x4 at *
  have hlate : OnlyObjects (fun k => [at' Obj.ENABLE_A100 (bldcLoop g), at' Obj.SPEED_7100 g, at' Obj.I_DC g, at' Obj.ADVANCE_NOW g].contains k) x2 x4 :=
    (ho3.mono fun k h => by simp_all).trans (ho4.mono fun k h => by simp_all)
  have hall : OnlyObjects (fun k => [at' Obj.DUTY g, at' Obj.STATE_7100 g, (axTrack (4 + g)).validKey, (axTrack (4 + g)).rateKey,
      at' Obj.ENABLE_A100 (bldcLoop g), at' Obj.SPEED_7100 g, at' Obj.I_DC g, at' Obj.ADVANCE_NOW g].contains k || isTraceCount k) x0 x4 := by
    refine (ho1.mono fun k h => ?_).trans ((ho2.mono fun k h => ?_).trans (hlate.mono fun k h => ?_))
    all_goals
      simp only [List.contains_iff_mem, List.mem_cons, List.not_mem_nil, or_false, Bool.or_eq_true] at h ⊢
      tauto
  have hsame (k : Nat) (hk : k ∈ [at' Obj.DUTY g, at' Obj.STATE_7100 g]) : x4.o k = x1.o k := by
    obtain ⟨h1, h2, h3⟩ := hkeep k hk
    rw [hlate.same _ h2 h3, ho2.same _ h1 h3]
  have hafter (k : Nat) (hk : k ∈ [at' Obj.ENABLE_A100 (bldcLoop g), (axTrack (4 + g)).validKey]) (hs : isStatus k = false) : x4.o k = x3.o k := by
    obtain ⟨h1, h2, h3⟩ := hlast k hk
    exact ho4.same _ (by simp [h1, h2, h3]) hs
  have hsv : isStatus (at' Obj.ENABLE_A100 (bldcLoop g)) = false ∧ isStatus (axTrack (4 + g)).validKey = false := by interval_cases g <;> decide
  refine ⟨coasts_iff.mpr ⟨fun n hn => ?_, (hsame _ (by simp)).trans hd1, hsp, (Dev.b_eq (hafter _ (by simp) hsv.1)).trans he3, ?_⟩, (hsame _ (by simp)).trans hst1, ?_, ?_⟩
  · exact (Dev.switches_congr ((hall.same _ (hhb n hn).2 (hhb n hn).1 : x4.o _ = x0.o _))).trans (hswitch n hn)
  · refine (Dev.b_eq ((hafter (axTrack (4 + g)).validKey (by simp) hsv.2).trans (ho3.same _ (by simpa using hve) hsv.2))).trans hv2
  · exact frame_coast.trans (frame_coast.trans (frame_coast.trans (frame_coast.shows (frame_shows.trans hs1 hs2)) hf3) hf4) (Dev.outside_of_eq rfl rfl)
  · refine OnlyObjects.of_obj ((ho0.mono fun k h => ?_).trans (hall.mono fun k h => ?_)) rfl
    · rw [isCoastKey, h, Bool.true_or, Bool.true_or]
    · simp only [isCoastKey, List.contains_iff_mem, List.mem_cons, List.not_mem_nil, or_false, Bool.or_eq_true] at h ⊢
      tauto

end Sys2Proof.Machine
end

section
/-! The start of a BLDC group, its align, ramp and commutation, O31 (R296, R300, R301, R304). -/

namespace Sys2Proof.Machine

/-! ### RUN (R301, R304) -/

theorem bldcRun_free (s : State) (g : Fin 4) (hserve : s.dev.phase = .service) (hfuse : s.dev.fuseBars [9] = false) (hfree : s.dev.bldcFree g = true) :
    Completes (.bldcRun g) s (fun e => e.result = 0 ∧ e.writes = s.dev.writes ++ [{ key := at' Obj.RUN_7100 g, val := 1 }] ∧ ({ s.dev with writes := e.writes, result := e.result } : Dev).ShowsOnly e ∧ OnlyObjects (fun _ => false) s.dev e) := by
  refine completes_serve_delivered (at' Obj.RUN_7100 g) 1 rfl hserve ?_ fun e hr hw hs ho => ⟨hr, hw, hs, ho⟩
  rw [Dev.allowed_eq hfuse, Dev.bldcRunWrite, if_neg (by decide), if_neg (by simp [hfree])]

theorem bldcRun_barred (s : State) (g : Fin 4) (hserve : s.dev.phase = .service) (hfuse : s.dev.fuseBars [9] = false) (hfree : s.dev.bldcFree g = false) :
    Completes (.bldcRun g) s (fun e => e.result = resState ∧ ({ s.dev with result := e.result } : Dev).ShowsOnly e ∧ OnlyObjects (fun _ => false) s.dev e) := by
  refine completes_serve_result resState rfl hserve ?_ fun e hr hs ho => ⟨hr, hs, ho⟩
  rw [Dev.allowed_eq hfuse, Dev.bldcRunWrite, if_neg (by decide), if_pos (by simp [hfree])]

theorem bldcStop_kept (s : State) (g : Fin 4) (hserve : s.dev.phase = .service) :
    Completes (.bldcStop g) s (fun e => e.result = 0 ∧ e.writes = s.dev.writes ++ [{ key := at' Obj.RUN_7100 g, val := 0 }] ∧ ({ s.dev with writes := e.writes, result := e.result } : Dev).ShowsOnly e ∧ OnlyObjects (fun _ => false) s.dev e) := by
  refine completes_serve_delivered (at' Obj.RUN_7100 g) 0 rfl hserve ?_ fun e hr hw hs ho => ⟨hr, hw, hs, ho⟩
  rw [Dev.bldcRunWrite, if_neg (by decide), if_neg (by simp)]

/-! ### The align's end and the ramp (R301) -/

/-- What a source update of an axis track and a new sector change beside objects. -/
def Dev.TurnOnly : Dev → Dev → Prop := Dev.Outside fun x => { x with bldcs := [], tracks := [] }

theorem frame_turn : Frame Dev.TurnOnly := frame_outside _

theorem Dev.TracksOnly.turn {d e : Dev} (h : d.TracksOnly e) : d.TurnOnly e := by
  obtain ⟨h1, h2⟩ := Dev.tracksOnly_iff.mp h
  exact ⟨(congrArg (fun x : Dev => ({ x with bldcs := [] } : Dev)) h1 :), h2⟩

theorem Dev.BldcOnly.turn {d e : Dev} (h : d.BldcOnly e) : d.TurnOnly e := ⟨(congrArg (fun x : Dev => ({ x with tracks := [] } : Dev)) h.1 :), h.2⟩

theorem Dev.TurnOnly.shows {d e : Dev} (h : d.TurnOnly e) : ({ d with bldcs := e.bldcs, tracks := e.tracks } : Dev).ShowsOnly e :=
  Dev.showsOnly_iff.mpr ⟨(congrArg (fun x : Dev => ({ x with bldcs := e.bldcs, tracks := e.tracks } : Dev)) h.1 :), h.2⟩

theorem plainTrack_axis (n : Nat) : plainTrack (axTrack n) := .inr (.inl ⟨_, rfl⟩)

/-- The objects of a turning group: its own and its track's jumps. -/
def isTurnKey (g k : Nat) : Bool := bldcKey g k || k == at' Obj.JUMPS (axTrack (4 + g)).code

theorem isMotion_turn {g k : Nat} (h : isMotion (axTrack (4 + g)) k = true) : isTurnKey g k = true := by
  simp only [isMotion, motionKeys, List.contains_iff_mem, List.mem_cons, List.not_mem_nil, or_false, Bool.or_eq_true, beq_iff_eq] at h
  simp only [isTurnKey, bldcKey, Bool.or_eq_true, beq_iff_eq]
  tauto

theorem hb_turn {g k : Nat} (h : (keyIdx k == 0x7000) = true) : isTurnKey g k = true := by simp only [isTurnKey, bldcKey, h, Bool.true_or]

/-- A source update of the group's track and the drive of a sector. -/
structure Dev.Turned (d e : Dev) (g x : Nat) (rate : Int) : Prop where
  drives : drives e g x
  rate : e.o (axTrack (4 + g)).rateKey = rate
  valid : e.b (axTrack (4 + g)).validKey = true
  rest : d.TurnOnly e
  obj : OnlyObjects (isTurnKey g) d e

theorem motion_quiet {g : Nat} (hg : g < 4) : (∀ k ∈ motionKeys (axTrack (4 + g)), keyIdx k ≠ 0x7000 ∧ isStatus k = false ∧ k ≠ at' Obj.STATE_7100 g ∧ k ≠ at' Obj.SPEED_7100 g) ∧
    (∀ k ∈ [at' Obj.STATE_7100 g, at' Obj.SPEED_7100 g], isMotion (axTrack (4 + g)) k = false ∧ keyIdx k ≠ 0x7000 ∧ isStatus k = false) := by
  interval_cases g <;> decide

theorem turnKeys {g : Nat} (hg : g < 4) : (∀ k ∈ [at' Obj.STATE_7100 g, at' Obj.SPEED_7100 g], bldcKey g k = true ∧ isStatus k = false ∧ keyIdx k ≠ 0x7000 ∧
    k ≠ (axTrack (4 + g)).valueKey ∧ k ≠ (axTrack (4 + g)).rateKey ∧ k ≠ (axTrack (4 + g)).validKey) ∧ at' Obj.STATE_7100 g ≠ at' Obj.SPEED_7100 g := by
  interval_cases g <;> decide

theorem Dev.turned {d : Dev} {g : Nat} (hg : g < 4) (hslots : d.slots = []) (hwrites : d.writes = []) (v rate : Int) (jump : Bool) (x : Nat) :
    d.Turned ((d.sourceUpdate (axTrack (4 + g)) v rate jump).driveSector g x) g x rate ∧ (∀ k ∈ [at' Obj.STATE_7100 g, at' Obj.SPEED_7100 g], (d.sourceUpdate (axTrack (4 + g)) v rate jump |>.driveSector g x).o k = d.o k) ∧
      ((d.sourceUpdate (axTrack (4 + g)) v rate jump).driveSector g x).bldcOf g = sectorBegun x (d.bldcOf g) ∧ (jump = true →
      ((d.sourceUpdate (axTrack (4 + g)) v rate jump).driveSector g x).o (axTrack (4 + g)).valueKey = (axTrack (4 + g)).wrap v ∧
      ((d.sourceUpdate (axTrack (4 + g)) v rate jump).driveSector g x).raised 0xF2) := by
  obtain ⟨hsrc, hjump⟩ := Dev.sourceUpdate_sourced (plainTrack_axis (4 + g)) hslots hwrites (rate := rate) v jump
  generalize d.sourceUpdate (axTrack (4 + g)) v rate jump = y at *
  obtain ⟨hdr, hf, ho, hb⟩ := y.driveSector_facts hg x
  generalize y.driveSector g x = z at *
  obtain ⟨hmot, hown⟩ := motion_quiet hg
  have hkeep (k : Nat) (hk : k ∈ motionKeys (axTrack (4 + g))) : z.o k = y.o k := ho.same k (by simpa using (hmot k hk).1) (hmot k hk).2.1
  have hbl : y.bldcOf g = d.bldcOf g := (congrArg (fun x : Dev => x.bldcOf g) (Dev.tracksOnly_iff.mp hsrc.rest).1 :)
  refine ⟨⟨hdr, (hkeep _ (by simp [motionKeys])).trans hsrc.rate, (Dev.b_eq (hkeep _ (by simp [motionKeys]))).trans hsrc.valid, frame_turn.trans hsrc.rest.turn hf.turn,
    (hsrc.obj.mono fun k h => isMotion_turn h).trans (ho.mono fun k h => hb_turn h)⟩, fun k hk => ?_, by rw [hb, hbl], fun hj => ?_⟩
  · obtain ⟨h1, h2, h3⟩ := hown k hk
    rw [ho.same k (by simpa using h2) h3, hsrc.obj.same k h1 h3]
  · obtain ⟨hval, hev⟩ := hjump hj
    exact ⟨(hkeep _ (by simp [motionKeys])).trans hval, hf.shows.raised (d := { y with bldcs := _ }) hev⟩

theorem Dev.Turned.setO {d e : Dev} {g x : Nat} {rate : Int} (hg : g < 4) (h : d.Turned e g x rate) {k : Nat} (hk : k ∈ [at' Obj.STATE_7100 g, at' Obj.SPEED_7100 g]) (v : Int) :
    d.Turned (e.setO k v) g x rate := by
  obtain ⟨hkey, -, hidx, -, hk2, hk3⟩ := (turnKeys hg).1 k hk
  have hset : OnlyObjects (fun i => i == k) e (e.setO k v) := (OnlyObjects.refl e).setO _ _ (by simp)
  refine ⟨drives_congr hg hset (fun i hi => ?_) rfl h.drives, (Dev.o_setO_other e v hk2.symm).trans h.rate, (Dev.b_eq (Dev.o_setO_other e v hk3.symm)).trans h.valid,
    frame_turn.setO h.rest _ _, h.obj.trans (hset.mono fun i hi => by rw [isTurnKey, beq_iff_eq.mp hi, hkey, Bool.true_or])⟩
  simp only [beq_eq_false_iff_ne]
  rintro rfl
  exact hidx hi

theorem Dev.Turned.upd {d e : Dev} {g x : Nat} {rate : Int} (h : d.Turned e g x rate) {f : Bldc → Bldc} (hf : ∀ b, (f b).sector = b.sector) : d.Turned (e.updBldc g f) g x rate := by
  refine ⟨?_, h.rate, h.valid, frame_turn.trans h.rest (e.bldcOnly_upd g f).turn, h.obj.of_obj rfl⟩
  obtain ⟨h1, h2, h3, h4⟩ := drives_iff.mp h.drives
  exact drives_iff.mpr ⟨h1, h2, h3, by rw [Dev.bldcOf_updBldc, hf, h4]⟩

/-- What a turned group shows once its status objects are settled. -/
theorem Dev.Turned.settle {d e : Dev} {g x : Nat} {rate : Int} (hg : g < 4) (h : d.Turned e g x rate) : d.Turned e.settle g x rate := by
  obtain ⟨hmot, -⟩ := motion_quiet hg
  exact ⟨drives_settle hg h.drives, (Dev.o_settle _ (hmot _ (by simp [motionKeys])).2.1).trans h.rate, (Dev.b_eq (Dev.o_settle _ (hmot _ (by simp [motionKeys])).2.1)).trans h.valid,
    frame_turn.settle h.rest, h.obj.settle⟩

/-- The ramp begins: STATE 2 and its instant (R301). -/
def Dev.rampBegun (d : Dev) (g : Nat) : Dev :=
  let d1 := d.setO (at' Obj.STATE_7100 g) 2
  d1.updBldc g (fun b => { b with rampAt := d1.wall, zcAt := d1.wall, good := 0, handover := false })

theorem bldcAlignEnd_ramp (s : State) (g : Fin 4) (halive : s.dev.alive = true) (hstate : s.dev.bldcState g = 1) (hslots : s.dev.slots = []) (hwrites : s.dev.writes = []) :
    Completes (.bldcAlignEnd g) s (fun e => e.o (at' Obj.STATE_7100 g) = 2 ∧ e.value (axTrack (4 + g)) = (axTrack (4 + g)).wrap (nearAngle (s.dev.value (axTrack (4 + g))) 21845) ∧ e.o (axTrack (4 + g)).rateKey = 0 ∧
      e.b (axTrack (4 + g)).validKey = true ∧ drives e g 2 ∧ (e.bldcOf g).rampAt = s.dev.wall ∧ (e.bldcOf g).zcAt = s.dev.wall ∧ e.raised 0xF2 ∧ ({ s.dev with bldcs := e.bldcs, tracks := e.tracks } : Dev).ShowsOnly e ∧ OnlyObjects (fun k => bldcKey g k || k == at' Obj.JUMPS (axTrack (4 + g)).code) s.dev e) := by
  obtain ⟨ht, -, -, hj⟩ := Dev.turned g.isLt hslots hwrites (nearAngle (s.dev.value (axTrack (4 + g))) 21845) 0 true 2
  obtain ⟨hval, hev⟩ := hj rfl
  have heq : s.dev.alignEnd g = ((s.dev.sourceUpdate (axTrack (4 + g)) (nearAngle (s.dev.value (axTrack (4 + g))) 21845) 0 true).driveSector g 2).rampBegun g :=
    (if_neg (by rw [hstate]; decide) : s.dev.alignEnd g = _)
  refine completes_live_eq _ rfl halive heq ?_
  clear heq
  generalize (s.dev.sourceUpdate (axTrack (4 + g)) (nearAngle (s.dev.value (axTrack (4 + g))) 21845) 0 true).driveSector g 2 = x at *
  obtain ⟨-, hst, -, hk1, -, -⟩ := (turnKeys g.isLt).1 (at' Obj.STATE_7100 g) (by simp)
  have ht1 := (ht.setO g.isLt (k := at' Obj.STATE_7100 g) (by simp) 2).upd (f := fun b => { b with rampAt := x.wall, zcAt := x.wall, good := 0, handover := false }) fun _ => rfl
  have hstate1 : (x.rampBegun g).o (at' Obj.STATE_7100 g) = 2 := Dev.o_setO_same _ _ _
  have hval1 : (x.rampBegun g).o (axTrack (4 + g)).valueKey = _ := (Dev.o_setO_other x 2 hk1.symm).trans hval
  have hev1 : (x.rampBegun g).raised 0xF2 := hev
  have hwall : x.wall = s.dev.wall := (congrArg Dev.wall ht.rest.1 :)
  have hof : ((x.rampBegun g).bldcOf g).rampAt = x.wall ∧ ((x.rampBegun g).bldcOf g).zcAt = x.wall := by
    rw [Dev.rampBegun, Dev.bldcOf_updBldc]
    exact ⟨rfl, rfl⟩
  change s.dev.Turned (x.rampBegun g) g 2 0 at ht1
  generalize x.rampBegun g = z at *
  have hz := ht1.settle g.isLt
  refine ⟨(Dev.o_settle _ hst).trans hstate1, ?_, hz.rate, hz.valid, hz.drives, ?_, ?_, (Dev.raised_settle_iff _ _).mpr hev1, hz.rest.shows, hz.obj⟩
  · rw [Dev.value_of_ne_wall (plainTrack_axis _).ne_wall, Dev.o_settle _ (by simp), hval1]
  · rw [Dev.bldcOf_settle, hof.1, hwall]
  · rw [Dev.bldcOf_settle, hof.2, hwall]

theorem bldcRampStep_next (s : State) (g : Fin 4) (halive : s.dev.alive = true) (hstate : s.dev.bldcState g = 2) (hslots : s.dev.slots = []) (hwrites : s.dev.writes = []) :
    Completes (.bldcRampStep g) s (fun e => drives e g (nextSector (s.dev.bldcOf g).sector (s.dev.bldcOf g).dir) ∧ e.o (axTrack (4 + g)).rateKey = rampRate s.dev g ∧ e.o (at' Obj.SPEED_7100 g) = s.dev.bldcSpeed g (rampRate s.dev g) ∧
      e.bldcState g = 2 ∧ ({ s.dev with bldcs := e.bldcs, tracks := e.tracks } : Dev).ShowsOnly e ∧ OnlyObjects (fun k => bldcKey g k || k == at' Obj.JUMPS (axTrack (4 + g)).code) s.dev e) := by
  have heq : s.dev.rampStep g = ((s.dev.sourceUpdate (axTrack (4 + g)) (nearAngle (s.dev.value (axTrack (4 + g))) (sectorEnd (s.dev.bldcOf g).sector (s.dev.bldcOf g).dir)) (rampRate s.dev g) false).driveSector g
      (nextSector (s.dev.bldcOf g).sector (s.dev.bldcOf g).dir)).setO (at' Obj.SPEED_7100 g) (s.dev.bldcSpeed g (rampRate s.dev g)) := if_neg (by rw [hstate]; decide)
  refine completes_live_eq _ rfl halive heq ?_
  obtain ⟨ht, hown, -, -⟩ := Dev.turned g.isLt hslots hwrites (nearAngle (s.dev.value (axTrack (4 + g))) (sectorEnd (s.dev.bldcOf g).sector (s.dev.bldcOf g).dir)) (rampRate s.dev g) false
    (nextSector (s.dev.bldcOf g).sector (s.dev.bldcOf g).dir)
  generalize (s.dev.sourceUpdate _ _ _ _).driveSector g _ = x at *
  obtain ⟨hkeys, hne⟩ := turnKeys g.isLt
  have hz := (ht.setO g.isLt (k := at' Obj.SPEED_7100 g) (by simp) (s.dev.bldcSpeed g (rampRate s.dev g))).settle g.isLt
  refine ⟨hz.drives, hz.rate, ?_, ?_, hz.rest.shows, hz.obj⟩
  · rw [Dev.o_settle _ (hkeys _ (by simp)).2.1, Dev.o_setO_same]
  · refine (Dev.n_eq ?_).trans hstate
    rw [Dev.o_settle _ (hkeys _ (by simp)).2.1, Dev.o_setO_other _ _ hne, hown _ (by simp)]

/-! ### The loss of a rotor (R302) -/

/-- What the loss of a rotor changes beside objects while tries are left. -/
def Dev.LostOnly : Dev → Dev → Prop := Dev.Outside fun x => { x with bldcs := [], loops := [], pauses := [] }

theorem frame_lost : Frame Dev.LostOnly := frame_outside _

theorem Dev.CoastOnly.lost {d e : Dev} (h : d.CoastOnly e) : d.LostOnly e := ⟨(congrArg (fun x : Dev => ({ x with pauses := [] } : Dev)) h.1 :), h.2⟩

theorem Dev.LostOnly.shows {d e : Dev} (h : d.LostOnly e) : ({ d with bldcs := e.bldcs, loops := e.loops, pauses := e.pauses } : Dev).ShowsOnly e :=
  Dev.showsOnly_iff.mpr ⟨(congrArg (fun x : Dev => ({ x with bldcs := e.bldcs, loops := e.loops, pauses := e.pauses } : Dev)) h.1 :), h.2⟩

theorem Dev.pauseStart_obj (d : Dev) (op k : Nat) : (d.pauseStart op k).obj = d.obj ∧ (d.pauseStart op k).evq = d.evq ∧ d.LostOnly (d.pauseStart op k) ∧
    (d.pauseStart op k).bldcs = d.bldcs ∧ (d.pauseStart op k).wall = d.wall := by
  unfold Dev.pauseStart
  split
  · exact ⟨rfl, rfl, frame_lost.refl d, rfl, rfl⟩
  · exact ⟨rfl, rfl, Dev.outside_of_eq rfl rfl, rfl, rfl⟩

/-- The counts of a group and the keys that a group's turning off, its counts and its coasting name. -/
theorem lostKeys {g : Nat} (hg : g < 4) : (∀ k ∈ [at' Obj.LOSSES_7100 g, at' Obj.TRIES g, at' Obj.RUN_7100 g], isCoastKey g k = false ∧ isStatus k = false ∧ isTraceCount k = false) ∧
    (∀ k ∈ [at' Obj.LOSSES_7100 g, at' Obj.TRIES g, at' Obj.STATE_7100 g], bldcKey g k = true ∧ keyIdx k ≠ 0x7000 ∧ isReport k = false ∧ isStatus k = false ∧ isTraceCount k = false ∧
      k ∉ [at' Obj.DUTY g, at' Obj.SPEED_7100 g, at' Obj.ENABLE_A100 (bldcLoop g), (axTrack (4 + g)).validKey]) ∧
    (∀ k ∈ [at' Obj.DUTY g, at' Obj.SPEED_7100 g, at' Obj.ENABLE_A100 (bldcLoop g), (axTrack (4 + g)).validKey], isReport k = false ∧ isTraceCount k = false) ∧
    at' Obj.LOSSES_7100 g ≠ at' Obj.TRIES g ∧ at' Obj.RUN_7100 g ≠ at' Obj.LOSSES_7100 g ∧ at' Obj.RUN_7100 g ≠ at' Obj.TRIES g ∧ at' Obj.STATE_7100 g ≠ at' Obj.LOSSES_7100 g ∧
    at' Obj.STATE_7100 g ≠ at' Obj.TRIES g := by
  interval_cases g <;> decide

theorem hb_report {k : Nat} (h : keyIdx k = 0x7000) : isTraceCount k = false ∧ isReport k = false := by
  have htrace : isTraceCount k = false := isTraceCount_false (by unfold keyIdx at h; omega)
  refine ⟨htrace, ?_⟩
  have hne : k ≠ Obj.LOG_TOTAL := by
    rintro rfl
    exact absurd h (by decide)
  simp only [isReport, htrace, h, Bool.false_or, beq_eq_false_iff_ne.mpr hne]
  decide

/-- A group that coasts after a loss counted in LOSSES. -/
def Dev.lostCounted (d : Dev) (g : Nat) : Dev := ((d.bldcOff g 4).addSat (at' Obj.LOSSES_7100 g)).event 0x94

/-- `e` is `d` with the rotor of group `g` lost and counted. -/
structure Dev.Lost (d e : Dev) (g : Nat) : Prop where
  coasts : coasts e g
  state : e.o (at' Obj.STATE_7100 g) = 4
  losses : e.o (at' Obj.LOSSES_7100 g) = satU32 (d.o (at' Obj.LOSSES_7100 g) + 1)
  tries : e.o (at' Obj.TRIES g) = d.o (at' Obj.TRIES g)
  run : e.o (at' Obj.RUN_7100 g) = d.o (at' Obj.RUN_7100 g)
  event : e.raised 0x94
  rest : d.CoastOnly e
  obj : OnlyObjects (bldcKey g) d e

theorem Dev.lostCounted_lost (d : Dev) {g : Nat} (hg : g < 4) : d.Lost (d.lostCounted g) g := by
  have hoff := d.bldcOff_coasting hg 4
  obtain ⟨hk1, hk2, hk3, hlt, hrl, hrt, hsl, hst⟩ := lostKeys hg
  unfold Dev.lostCounted
  generalize d.bldcOff g 4 = x at *
  have hobj : OnlyObjects (fun k => k == at' Obj.LOSSES_7100 g || isTraceCount k) x ((x.addSat (at' Obj.LOSSES_7100 g)).event 0x94) :=
    ((OnlyObjects.refl x).addSat _ _ (by simp)).event _ fun k h => by rw [h, Bool.or_true]
  have hl : ((x.addSat (at' Obj.LOSSES_7100 g)).event 0x94).o (at' Obj.LOSSES_7100 g) = satU32 (x.o (at' Obj.LOSSES_7100 g) + 1) := by
    rw [Dev.o_event _ _ (hk1 _ (by simp)).2.2, Dev.o_addSat, if_pos rfl]
    rfl
  have hev : ((x.addSat (at' Obj.LOSSES_7100 g)).event 0x94).raised 0x94 := by simp
  have hrest : x.CoastOnly ((x.addSat (at' Obj.LOSSES_7100 g)).event 0x94) := frame_coast.event (frame_coast.addSat (frame_coast.refl x) _ _) _
  generalize (x.addSat (at' Obj.LOSSES_7100 g)).event 0x94 = y at *
  have hcoast (k : Nat) (hk : k ∈ [at' Obj.LOSSES_7100 g, at' Obj.TRIES g, at' Obj.RUN_7100 g]) : x.o k = d.o k := hoff.obj.same k (hk1 k hk).1 (hk1 k hk).2.1
  refine ⟨coasts_congr hg hobj (fun k hk => ?_) (fun k hk => ?_) hoff.coasts, ?_, ?_, ?_, ?_, hev, frame_coast.trans hoff.rest hrest,
    (hoff.obj.mono fun k h => isCoastKey_bldcKey hg h).trans (hobj.mono fun k h => ?_)⟩
  · have hne : k ≠ at' Obj.LOSSES_7100 g := by rintro rfl; exact (hk2 _ (by simp)).2.1 hk
    simp [hne, (hb_report hk).1]
  · have hne : k ≠ at' Obj.LOSSES_7100 g := by rintro rfl; exact (hk2 _ (by simp)).2.2.2.2.2 hk
    simp [hne, (hk3 k hk).2]
  · rw [hobj.same _ (by simp [hsl, (hk2 (at' Obj.STATE_7100 g) (by simp)).2.2.2.2.1]) (hk2 _ (by simp)).2.2.2.1, hoff.state]
    rfl
  · rw [hl, hcoast _ (by simp)]
  · rw [hobj.same _ (by simp [hlt.symm, (hk1 (at' Obj.TRIES g) (by simp)).2.2]) (hk1 _ (by simp)).2.1, hcoast _ (by simp)]
  · rw [hobj.same _ (by simp [hrl, (hk1 (at' Obj.RUN_7100 g) (by simp)).2.2]) (hk1 _ (by simp)).2.1, hcoast _ (by simp)]
  · rcases Bool.or_eq_true _ _ ▸ h with h | h
    · rw [beq_iff_eq.mp h, (hk2 _ (by simp)).1]
    · simp only [bldcKey, h, Bool.or_true]

/-- What the loss of a rotor shows while tries are left (R302). -/
structure Dev.Retries (d e : Dev) (g : Nat) : Prop where
  state : e.o (at' Obj.STATE_7100 g) = 4
  coasts : coasts e g
  tries : e.o (at' Obj.TRIES g) = d.o (at' Obj.TRIES g) + 1
  losses : e.o (at' Obj.LOSSES_7100 g) = satU32 (d.o (at' Obj.LOSSES_7100 g) + 1)
  run : e.o (at' Obj.RUN_7100 g) = d.o (at' Obj.RUN_7100 g)
  event : e.raised 0x94
  rest : ({ d with bldcs := e.bldcs, loops := e.loops, pauses := e.pauses } : Dev).ShowsOnly e
  obj : OnlyObjects (bldcKey g) d e

theorem Dev.bldcLost_retries (d : Dev) {g : Nat} (hg : g < 4) (htries : d.n (at' Obj.TRIES g) ≠ 3) : d.Retries (d.bldcLost g).settle g := by
  have hlost := d.lostCounted_lost hg
  obtain ⟨hk1, hk2, hk3, hlt, hrl, hrt, hsl, hst⟩ := lostKeys hg
  have heq : d.bldcLost g = ((d.lostCounted g).setO (at' Obj.TRIES g) ((d.lostCounted g).o (at' Obj.TRIES g) + 1)).pauseStart (15 + g) Obj.PAUSE_RETRY_TB2 :=
    if_neg (by
      change ¬ (d.lostCounted g).n (at' Obj.TRIES g) = 3
      rw [Dev.n_eq hlost.tries]
      exact htries)
  rw [heq]
  generalize d.lostCounted g = x at *
  have hobj : OnlyObjects (fun k => k == at' Obj.TRIES g) x (x.setO (at' Obj.TRIES g) (x.o (at' Obj.TRIES g) + 1)) := (OnlyObjects.refl x).setO _ _ (by simp)
  have hval : (x.setO (at' Obj.TRIES g) (x.o (at' Obj.TRIES g) + 1)).o (at' Obj.TRIES g) = x.o (at' Obj.TRIES g) + 1 := Dev.o_setO_same _ _ _
  have hrest : x.CoastOnly (x.setO (at' Obj.TRIES g) (x.o (at' Obj.TRIES g) + 1)) := frame_coast.setO (frame_coast.refl x) _ _
  have hev : (x.setO (at' Obj.TRIES g) (x.o (at' Obj.TRIES g) + 1)).raised 0x94 := hlost.event
  generalize x.setO (at' Obj.TRIES g) (x.o (at' Obj.TRIES g) + 1) = y at *
  obtain ⟨hpo, hpe, hpr, hpb, hpw⟩ := y.pauseStart_obj (15 + g) Obj.PAUSE_RETRY_TB2
  generalize y.pauseStart (15 + g) Obj.PAUSE_RETRY_TB2 = z at *
  have hsame : OnlyObjects (fun k => k == at' Obj.TRIES g) x z.settle := (hobj.of_obj hpo).settle
  refine ⟨?_, ?_, ?_, ?_, ?_, ?_, ?_, hlost.obj.trans (hsame.mono fun k h => ?_)⟩
  · rw [hsame.same _ (by simp [hst]) (hk2 _ (by simp)).2.2.2.1, hlost.state]
  · refine coasts_congr hg hsame (fun k hk => ?_) (fun k hk => ?_) hlost.coasts
    · have hne : k ≠ at' Obj.TRIES g := by rintro rfl; exact (hk2 _ (by simp)).2.1 hk
      simp [hne]
    · have hne : k ≠ at' Obj.TRIES g := by rintro rfl; exact (hk2 _ (by simp)).2.2.2.2.2 hk
      simp [hne]
  · rw [Dev.o_settle _ (hk2 _ (by simp)).2.2.2.1, Dev.o_eq, hpo, ← Dev.o_eq, hval, hlost.tries]
  · rw [hsame.same _ (by simp [hlt]) (hk2 _ (by simp)).2.2.2.1, hlost.losses]
  · rw [hsame.same _ (by simp [hrt]) (hk1 _ (by simp)).2.1, hlost.run]
  · rw [Dev.raised_settle_iff]
    unfold Dev.raised at hev ⊢
    rw [hpe, hpw]
    exact hev
  · have hall := frame_lost.settle (frame_lost.trans (frame_lost.trans hlost.rest.lost hrest.lost) hpr)
    exact hall.shows
  · rw [beq_iff_eq.mp h, (hk2 _ (by simp)).1]

theorem bldcRampTimeout_lost (s : State) (g : Fin 4) (halive : s.dev.alive = true) (hstate : s.dev.bldcState g = 2) (htries : s.dev.n (at' Obj.TRIES g) ≠ 3) :
    Completes (.bldcRampTimeout g) s (fun e => e.o (at' Obj.STATE_7100 g) = 4 ∧ coasts e g ∧ e.o (at' Obj.TRIES g) = s.dev.o (at' Obj.TRIES g) + 1 ∧ e.o (at' Obj.LOSSES_7100 g) = satU32 (s.dev.o (at' Obj.LOSSES_7100 g) + 1) ∧
      e.o (at' Obj.RUN_7100 g) = s.dev.o (at' Obj.RUN_7100 g) ∧ e.raised 0x94 ∧ ({ s.dev with bldcs := e.bldcs, loops := e.loops, pauses := e.pauses } : Dev).ShowsOnly e ∧ OnlyObjects (fun k => bldcKey g k) s.dev e) := by
  have hr := s.dev.bldcLost_retries g.isLt htries
  refine completes_live_eq (s.dev.bldcLost g) rfl halive (by simp [Dev.when, hstate]) ?_
  exact ⟨hr.state, hr.coasts, hr.tries, hr.losses, hr.run, hr.event, hr.rest, hr.obj⟩

/-! ### Commutation (R300) -/

theorem bldcCommutation_next (s : State) (g : Fin 4) (halive : s.dev.alive = true) (hstate : s.dev.bldcState g = 3) (hplace : (s.dev.bldcOf g).place.isSome = true) :
    Completes (.bldcCommutation g) s (fun e => drives e g (nextSector (s.dev.bldcOf g).sector (s.dev.bldcOf g).dir) ∧ (e.bldcOf g).place = none ∧ (e.bldcOf g).since = 0 ∧ (e.bldcOf g).crossed = false ∧ ({ s.dev with bldcs := e.bldcs } : Dev).ShowsOnly e ∧ OnlyObjects (fun k => keyIdx k == 0x7000) s.dev e) := by
  obtain ⟨hdr, hf, ho, hb⟩ := s.dev.driveSector_facts g.isLt (nextSector (s.dev.bldcOf g).sector (s.dev.bldcOf g).dir)
  refine completes_live_eq (s.dev.driveSector g (nextSector (s.dev.bldcOf g).sector (s.dev.bldcOf g).dir)) rfl halive (by simp [Dev.when, hstate, hplace, Dev.commutate]) ?_
  generalize s.dev.driveSector g _ = x at *
  refine ⟨drives_settle g.isLt hdr, ?_, ?_, ?_, (frame_bldc.settle hf).shows, ho.settle⟩ <;> rw [Dev.bldcOf_settle, hb, sectorBegun]

/-- Settles O31: RUN and its refusal, the align's end, the ramp with its timeout, and the commutation, clause by clause. -/
theorem bldcStart : Obligations.BldcStart :=
  ⟨bldcRun_free, bldcRun_barred, bldcStop_kept, bldcAlignEnd_ramp, bldcRampStep_next, bldcRampTimeout_lost, bldcCommutation_next⟩

end Sys2Proof.Machine
end

section
/-! The loss of a BLDC rotor and its re-catch, O32 (R302 to R304). -/

namespace Sys2Proof.Machine

theorem actBlLost_retries (s : State) (g : Fin 4) (halive : s.dev.alive = true) (hstate : s.dev.bldcState g = 3) (htries : s.dev.n (at' Obj.TRIES g) ≠ 3) :
    Completes (.actBlLost g) s (fun e => e.o (at' Obj.STATE_7100 g) = 4 ∧ coasts e g ∧ e.o (at' Obj.TRIES g) = s.dev.o (at' Obj.TRIES g) + 1 ∧ e.o (at' Obj.LOSSES_7100 g) = satU32 (s.dev.o (at' Obj.LOSSES_7100 g) + 1) ∧
      e.raised 0x94 ∧ ({ s.dev with bldcs := e.bldcs, loops := e.loops, pauses := e.pauses } : Dev).ShowsOnly e ∧ OnlyObjects (fun k => bldcKey g k) s.dev e) := by
  have hr := s.dev.bldcLost_retries g.isLt htries
  refine completes_live_eq (s.dev.bldcLost g) rfl halive (by simp [Dev.when, hstate]) ?_
  exact ⟨hr.state, hr.coasts, hr.tries, hr.losses, hr.event, hr.rest, hr.obj⟩

theorem lowSideBrakeEnd_lost (s : State) (g : Fin 4) (halive : s.dev.alive = true) (hstate : s.dev.bldcState g = 6) (hbrake : (s.dev.bldcOf g).braking = true) (htries : s.dev.n (at' Obj.TRIES g) ≠ 3) :
    Completes (.lowSideBrakeEnd g true) s (fun e => e.o (at' Obj.STATE_7100 g) = 4 ∧ coasts e g ∧ e.o (at' Obj.TRIES g) = s.dev.o (at' Obj.TRIES g) + 1 ∧ e.raised 0x94 ∧ ({ s.dev with bldcs := e.bldcs, loops := e.loops, pauses := e.pauses } : Dev).ShowsOnly e ∧ OnlyObjects (fun k => bldcKey g k) s.dev e) := by
  have hr := s.dev.bldcLost_retries g.isLt htries
  refine completes_live_eq (s.dev.bldcLost g) rfl halive (by simp [Dev.when, hstate, hbrake]) ?_
  exact ⟨hr.state, hr.coasts, hr.tries, hr.event, hr.rest, hr.obj⟩

/-- After three tries the group stops: STATE 7 and its mark (R302). -/
def Dev.lostMarked (d : Dev) (g : Nat) : Dev := ((d.setO (at' Obj.STATE_7100 g) 7).updBldc g (fun b => { b with lost := true })).event 0x96

theorem Dev.lostMarked_facts (d : Dev) {g : Nat} (hg : g < 4) : (d.lostMarked g).o (at' Obj.STATE_7100 g) = 7 ∧ ((d.lostMarked g).bldcOf g).lost = true ∧ (d.lostMarked g).raised 0x96 ∧
    d.BldcOnly (d.lostMarked g) ∧ OnlyObjects (fun k => k == at' Obj.STATE_7100 g || isTraceCount k) d (d.lostMarked g) := by
  obtain ⟨-, hk2, -⟩ := lostKeys hg
  refine ⟨?_, ?_, ?_, frame_bldc.event (frame_bldc.trans (frame_bldc.setO (frame_bldc.refl d) _ _) (Dev.bldcOnly_upd _ g _)) _, ?_⟩
  · rw [Dev.lostMarked, Dev.o_event _ _ (hk2 _ (by simp)).2.2.2.2.1]
    exact Dev.o_setO_same _ _ _
  · rw [Dev.lostMarked, (Dev.showsOnly_event _ _).bldcOf g, Dev.bldcOf_updBldc]
  · simp [Dev.lostMarked]
  · have hset : OnlyObjects (fun k => k == at' Obj.STATE_7100 g || isTraceCount k) d (d.setO (at' Obj.STATE_7100 g) 7) := (OnlyObjects.refl d).setO _ _ (by simp)
    exact (hset.of_obj (Eq.refl ((d.setO (at' Obj.STATE_7100 g) 7).updBldc g (fun b => { b with lost := true })).obj)).event _ fun k h => by rw [h, Bool.or_true]

theorem actBlLost_stops (s : State) (g : Fin 4) (halive : s.dev.alive = true) (hstate : s.dev.bldcState g = 3) (htries : s.dev.n (at' Obj.TRIES g) = 3) :
    Completes (.actBlLost g) s (fun e => e.o (at' Obj.STATE_7100 g) = 7 ∧ coasts e g ∧ e.n (at' Obj.TRIES g) = 3 ∧ (e.bldcOf g).lost = true ∧ e.raised 0x94 ∧ e.raised 0x96 ∧ e.inForce 0x72C2 .act ∧ ({ s.dev with bldcs := e.bldcs } : Dev).RaisesOnly e ∧ OnlyObjects (fun k => bldcKey g k || isReaction k) s.dev e) := by
  have hlost := s.dev.lostCounted_lost g.isLt
  obtain ⟨hk1, hk2, hk3, hlt, hrl, hrt, hsl, hst⟩ := lostKeys g.isLt
  have heq : s.dev.bldcLost g = ((s.dev.lostCounted g).lostMarked g).raise 0x72C2 false { addr := 17 + 3 * g.val, ini := 0x23, acc := 5 } :=
    if_pos (by
      change (s.dev.lostCounted g).n (at' Obj.TRIES g) = 3
      rw [Dev.n_eq hlost.tries]
      exact htries)
  refine completes_live_eq _ rfl halive (Eq.trans (by simp [Dev.when, hstate]) heq) ?_
  clear heq
  generalize s.dev.lostCounted g = x at *
  obtain ⟨hst1, hlost1, hev1, hf1, ho1⟩ := x.lostMarked_facts g.isLt
  generalize x.lostMarked g = y at *
  have hrep := y.raise_degrade (code := 0x72C2) false { addr := 17 + 3 * g.val, ini := 0x23, acc := 5 } (by decide)
  have hforce : (y.raise 0x72C2 false { addr := 17 + 3 * g.val, ini := 0x23, acc := 5 }).inForce 0x72C2 .act := Dev.inForce_raise_on _ _ _ (by decide) (by decide)
  generalize y.raise 0x72C2 false _ = z at *
  have hsame : OnlyObjects (fun k => k == at' Obj.STATE_7100 g || isReport k) x z.settle := by
    refine ((ho1.mono fun k h => ?_).trans (hrep.obj.mono fun k h => by rw [h, Bool.or_true])).settle
    rcases Bool.or_eq_true _ _ ▸ h with h | h
    · rw [h, Bool.true_or]
    · simp only [isReport, h, Bool.true_or, Bool.or_true]
  have hbl : z.bldcOf g = y.bldcOf g := by
    unfold Dev.bldcOf
    rw [hrep.rest.bldcs]
  refine ⟨?_, ?_, ?_, by rw [Dev.bldcOf_settle, hbl, hlost1], ?_, ?_, Dev.inForce_settle hforce, ?_, ?_⟩
  · rw [Dev.o_settle _ (hk2 _ (by simp)).2.2.2.1, hrep.obj.same _ (hk2 _ (by simp)).2.2.1 (hk2 _ (by simp)).2.2.2.1, hst1]
  · refine coasts_congr g.isLt hsame (fun k hk => ?_) (fun k hk => ?_) hlost.coasts
    · have hne : k ≠ at' Obj.STATE_7100 g := by rintro rfl; exact (hk2 _ (by simp)).2.1 hk
      simp [hne, (hb_report hk).2]
    · have hne : k ≠ at' Obj.STATE_7100 g := by rintro rfl; exact (hk2 _ (by simp)).2.2.2.2.2 hk
      simp [hne, (hk3 k hk).1]
  · rw [← htries]
    exact Dev.n_eq ((hsame.same _ (by simp [hst.symm, (hk2 (at' Obj.TRIES g) (by simp)).2.2.1]) (hk1 _ (by simp)).2.1).trans hlost.tries)
  · exact (Dev.raised_settle_iff _ _).mpr (hrep.rest.raised (d := { y with coll := _ }) (hf1.shows.raised (d := { x with bldcs := _ }) hlost.event))
  · exact (Dev.raised_settle_iff _ _).mpr (hrep.rest.raised (d := { y with coll := _ }) hev1)
  · rw [Dev.settle_bldcs]
    refine frame_raises.settle (Dev.raisesOnly_iff.mpr ⟨?_, fun v hv => hrep.rest.2 v (hf1.2 v (hlost.rest.2 v hv))⟩)
    have h1 := congrArg (fun v : Dev => ({ v.unraised with bldcs := z.bldcs } : Dev)) hlost.rest.1
    have h2 := congrArg (fun v : Dev => ({ v.unraised with bldcs := z.bldcs } : Dev)) hf1.1
    have h3 := congrArg (fun v : Dev => ({ v.unraised with bldcs := z.bldcs } : Dev)) hrep.rest.unshown
    exact (h3.trans h2).trans h1
  · refine (hlost.obj.mono fun k h => by rw [h, Bool.true_or]).trans (hsame.mono fun k h => ?_)
    rcases Bool.or_eq_true _ _ ▸ h with h | h
    · rw [beq_iff_eq.mp h, (hk2 _ (by simp)).1, Bool.true_or]
    · rw [isReport_reaction h, Bool.or_true]

/-! ### Re-catch (R303) -/

theorem Dev.CoastOnly.shows {d e : Dev} (h : d.CoastOnly e) : ({ d with bldcs := e.bldcs, loops := e.loops } : Dev).ShowsOnly e :=
  Dev.showsOnly_iff.mpr ⟨(congrArg (fun x : Dev => ({ x with bldcs := e.bldcs, loops := e.loops } : Dev)) h.1 :), h.2⟩

theorem recatchStart_measures (s : State) (g : Fin 4) (halive : s.dev.alive = true) (hstate : s.dev.bldcState g = 4) (hpause : s.dev.pauses.contains (15 + g.val) = false) :
    Completes (.recatchStart g) s (fun e => e.o (at' Obj.STATE_7100 g) = 5 ∧ coasts e g ∧ ({ s.dev with bldcs := e.bldcs, loops := e.loops } : Dev).ShowsOnly e ∧ OnlyObjects (fun k => bldcKey g k) s.dev e) := by
  have hoff := s.dev.bldcOff_coasting g.isLt 5
  refine completes_live_eq (s.dev.bldcOff g 5) rfl halive (by simp only [Dev.when, hstate, hpause]; rfl) ?_
  generalize s.dev.bldcOff g 5 = x at *
  obtain ⟨-, hk2, -⟩ := lostKeys g.isLt
  refine ⟨(Dev.o_settle _ (hk2 _ (by simp)).2.2.2.1).trans hoff.state, coasts_settle g.isLt hoff.coasts, ?_, (hoff.obj.mono fun k h => isCoastKey_bldcKey g.isLt h).settle⟩
  exact (frame_coast.settle hoff.rest).shows

/-- The align of a start (R301). -/
theorem Dev.bldcAlign_facts (d : Dev) {g : Nat} (hg : g < 4) : (d.bldcAlign g).o (at' Obj.STATE_7100 g) = 1 ∧ drives (d.bldcAlign g) g 0 ∧ ((d.bldcAlign g).bldcOf g).emf = (d.bldcOf g).emf ∧
    ((d.bldcAlign g).bldcOf g).braking = false ∧ d.BldcOnly (d.bldcAlign g) ∧ OnlyObjects (bldcKey g) d (d.bldcAlign g) := by
  obtain ⟨hdr, hf, ho, hb⟩ := d.driveSector_facts hg 0
  obtain ⟨-, hk2, -⟩ := lostKeys hg
  unfold Dev.bldcAlign
  generalize d.driveSector g 0 = x at *
  have hset : OnlyObjects (fun k => k == at' Obj.STATE_7100 g) x (x.setO (at' Obj.STATE_7100 g) 1) := (OnlyObjects.refl x).setO _ _ (by simp)
  obtain ⟨h1, h2, h3, h4⟩ := drives_iff.mp (drives_congr (e := x.setO (at' Obj.STATE_7100 g) 1) hg hset (fun k hk => by
    simp only [beq_eq_false_iff_ne]
    rintro rfl
    exact (hk2 _ (by simp)).2.1 hk) rfl hdr)
  have hb' : (x.setO (at' Obj.STATE_7100 g) 1).bldcOf g = sectorBegun 0 (d.bldcOf g) := hb
  have hst : (x.setO (at' Obj.STATE_7100 g) 1).o (at' Obj.STATE_7100 g) = 1 := Dev.o_setO_same _ _ _
  have hframe : d.BldcOnly (x.setO (at' Obj.STATE_7100 g) 1) := frame_bldc.setO hf _ _
  generalize x.setO (at' Obj.STATE_7100 g) 1 = y at *
  refine ⟨hst, drives_iff.mpr ⟨h1, h2, h3, by rw [Dev.bldcOf_updBldc, h4]⟩, by rw [Dev.bldcOf_updBldc, hb', sectorBegun], by rw [Dev.bldcOf_updBldc],
    frame_bldc.trans hframe (y.bldcOnly_upd _ _), ((ho.mono fun k h => ?_).trans (hset.mono fun k h => ?_)).of_obj rfl⟩
  · simp only [bldcKey, h, Bool.true_or]
  · rw [beq_iff_eq.mp h, (hk2 _ (by simp)).1]

theorem actBlRecatch_still (s : State) (g : Fin 4) (angle : Nat) (rate : Int) (amp : Nat) (halive : s.dev.alive = true) (hstate : s.dev.bldcState g = 5) (hslow : 100 * amp < 2 * s.dev.n Obj.VLV) :
    Completes (.actBlRecatch g angle rate amp) s (fun e => e.o (at' Obj.STATE_7100 g) = 1 ∧ drives e g 0 ∧ (e.bldcOf g).emf = amp ∧ ({ s.dev with bldcs := e.bldcs } : Dev).ShowsOnly e ∧ OnlyObjects (fun k => bldcKey g k) s.dev e) := by
  have heq : s.dev.recatchEnd g angle rate amp = (s.dev.updBldc g (fun b => { b with emf := amp })).bldcAlign g := by
    unfold Dev.recatchEnd
    rw [if_neg (by rw [hstate]; decide)]
    simp only []
    rw [if_pos (by simpa using hslow)]
  obtain ⟨-, hk2, -⟩ := lostKeys g.isLt
  have hupd := s.dev.bldcOnly_upd g (fun b => { b with emf := amp })
  have hobj : (s.dev.updBldc g (fun b => { b with emf := amp })).obj = s.dev.obj := rfl
  have hemf : ((s.dev.updBldc g (fun b => { b with emf := amp })).bldcOf g).emf = amp := by rw [Dev.bldcOf_updBldc]
  refine completes_live_eq _ rfl halive heq ?_
  clear heq
  generalize s.dev.updBldc g (fun b => { b with emf := amp }) = x at *
  obtain ⟨hst, hdr, he, -, hf, ho⟩ := x.bldcAlign_facts g.isLt
  generalize x.bldcAlign g = y at *
  have hall : s.dev.BldcOnly y := frame_bldc.trans hupd hf
  have hallo : OnlyObjects (bldcKey g) s.dev y := ((OnlyObjects.refl s.dev).of_obj hobj).trans ho
  refine ⟨(Dev.o_settle _ (hk2 _ (by simp)).2.2.2.1).trans hst, drives_settle g.isLt hdr, ?_, (frame_bldc.settle hall).shows, hallo.settle⟩
  rw [Dev.bldcOf_settle, he]
  exact hemf

theorem lowSideBrakeEnd_aligns (s : State) (g : Fin 4) (halive : s.dev.alive = true) (hstate : s.dev.bldcState g = 6) (hbrake : (s.dev.bldcOf g).braking = true) :
    Completes (.lowSideBrakeEnd g false) s (fun e => e.o (at' Obj.STATE_7100 g) = 1 ∧ drives e g 0 ∧ (e.bldcOf g).braking = false ∧ ({ s.dev with bldcs := e.bldcs } : Dev).ShowsOnly e ∧ OnlyObjects (fun k => bldcKey g k) s.dev e) := by
  obtain ⟨hst, hdr, -, hb, hf, ho⟩ := s.dev.bldcAlign_facts g.isLt
  obtain ⟨-, hk2, -⟩ := lostKeys g.isLt
  refine completes_live_eq (s.dev.bldcAlign g) rfl halive (by simp [Dev.when, hstate, hbrake]) ?_
  generalize s.dev.bldcAlign g = y at *
  exact ⟨(Dev.o_settle _ (hk2 _ (by simp)).2.2.2.1).trans hst, drives_settle g.isLt hdr, by rw [Dev.bldcOf_settle, hb], (frame_bldc.settle hf).shows, ho.settle⟩

theorem triesReset_clears (s : State) (g : Fin 4) (halive : s.dev.alive = true) (hstate : s.dev.bldcState g = 3) :
    Completes (.triesReset g) s (fun e => e.o (at' Obj.TRIES g) = 0 ∧ s.dev.ShowsOnly e ∧ OnlyObjects (fun k => k == at' Obj.TRIES g) s.dev e) := by
  refine completes_live_eq (s.dev.setO (at' Obj.TRIES g) 0) rfl halive (by simp [Dev.when, hstate]) ?_
  obtain ⟨hk1, -⟩ := lostKeys g.isLt
  exact ⟨(Dev.o_settle _ (hk1 _ (by simp)).2.1).trans (Dev.o_setO_same _ _ _), frame_shows.settle (frame_shows.setO (frame_shows.refl _) _ _), ((OnlyObjects.refl s.dev).setO _ _ (by simp)).settle⟩

theorem actBlRecatch_brakes (s : State) (g : Fin 4) (angle : Nat) (rate : Int) (amp : Nat) (halive : s.dev.alive = true) (hstate : s.dev.bldcState g = 5) (hturns : 2 * s.dev.n Obj.VLV ≤ 100 * amp) (hback : rate * (s.dev.bldcOf g).dir ≤ 0) :
    Completes (.actBlRecatch g angle rate amp) s (fun e => e.o (at' Obj.STATE_7100 g) = 6 ∧ (∀ n ∈ hbsOf (4 + g), bitOf (e.o (el Obj.HB_STATUS n)) 0 = false ∧ bitOf (e.o (el Obj.HB_STATUS n)) 1 = true) ∧ (e.bldcOf g).braking = true ∧ ({ s.dev with bldcs := e.bldcs } : Dev).ShowsOnly e ∧ OnlyObjects (fun k => bldcKey g k) s.dev e) := by
  have heq : s.dev.recatchEnd g angle rate amp = ((s.dev.updBldc g (fun b => { b with emf := amp })).lowSides g).updBldc g (fun b => { b with braking := true }) := by
    unfold Dev.recatchEnd
    rw [if_neg (by rw [hstate]; decide)]
    exact (if_neg (by simpa using hturns)).trans (if_neg (by omega))
  obtain ⟨-, hk2, -⟩ := lostKeys g.isLt
  obtain ⟨hkey, hidx, -, hs, -⟩ := hk2 (at' Obj.STATE_7100 g) (by simp)
  have hupd := s.dev.bldcOnly_upd g (fun b => { b with emf := amp })
  have hobj : (s.dev.updBldc g (fun b => { b with emf := amp })).obj = s.dev.obj := rfl
  refine completes_live_eq _ rfl halive heq ?_
  clear heq
  generalize s.dev.updBldc g (fun b => { b with emf := amp }) = x at *
  have hsw := Dev.switches_foldl_setHb false true (hbsOf (4 + g)) x
  obtain ⟨hf, ho⟩ := Dev.foldl_setHb_frame g.isLt x false true
  unfold Dev.lowSides
  generalize (hbsOf (4 + g)).foldl (fun d n => d.setHb n false true) x = y at *
  have hstate1 : (y.setO (at' Obj.STATE_7100 g) 6).o (at' Obj.STATE_7100 g) = 6 := Dev.o_setO_same _ _ _
  have hset : OnlyObjects (fun k => k == at' Obj.STATE_7100 g) y (y.setO (at' Obj.STATE_7100 g) 6) := (OnlyObjects.refl y).setO _ _ (by simp)
  have hf1 : x.BldcOnly (y.setO (at' Obj.STATE_7100 g) 6) := frame_bldc.setO (frame_bldc.shows hf) _ _
  generalize y.setO (at' Obj.STATE_7100 g) 6 = z at *
  have hz := z.bldcOnly_upd g (fun b => { b with braking := true })
  have hzo : (z.updBldc g (fun b => { b with braking := true })).obj = z.obj := rfl
  have hbr : ((z.updBldc g (fun b => { b with braking := true })).bldcOf g).braking = true := by rw [Dev.bldcOf_updBldc]
  generalize z.updBldc g (fun b => { b with braking := true }) = w at *
  refine ⟨?_, fun n hn => ?_, by rw [Dev.bldcOf_settle, hbr], (frame_bldc.settle (frame_bldc.trans (frame_bldc.trans hupd hf1) hz)).shows, ?_⟩
  · rw [Dev.o_settle _ hs, Dev.o_eq, hzo, ← Dev.o_eq, hstate1]
  · have hr := mem_hbsOf (show 4 + g.val < 8 by omega) hn
    have hq := hbStatus_quiet hr.1 hr.2
    have hne : el Obj.HB_STATUS n ≠ at' Obj.STATE_7100 g := fun h => hidx (h ▸ (hbKey_idx hr).1)
    have hw : w.settle.switches n = (false, true) := (Dev.switches_congr (((hset.of_obj hzo).settle).same _ (by simpa using hne) hq.1)).trans (hsw n hn)
    simpa only [Dev.switches, Prod.mk.injEq] using hw
  · refine ((((OnlyObjects.refl s.dev).of_obj hobj).trans (ho.mono fun k h => ?_)).trans ((hset.of_obj hzo).mono fun k h => ?_)).settle
    · simp only [bldcKey, h, Bool.true_or]
    · rw [beq_iff_eq.mp h, hkey]

/-! ### The catch of a rotor that turns in the commanded direction (R303) -/

/-- What a catch changes beside objects. -/
def Dev.CatchOnly : Dev → Dev → Prop := Dev.Outside fun x => { x with bldcs := [], tracks := [], loops := [] }

theorem frame_catch : Frame Dev.CatchOnly := frame_outside _

theorem Dev.TurnOnly.catches {d e : Dev} (h : d.TurnOnly e) : d.CatchOnly e := ⟨(congrArg (fun x : Dev => ({ x with loops := [] } : Dev)) h.1 :), h.2⟩

theorem Dev.CatchOnly.shows {d e : Dev} (h : d.CatchOnly e) : ({ d with bldcs := e.bldcs, tracks := e.tracks, loops := e.loops } : Dev).ShowsOnly e :=
  Dev.showsOnly_iff.mpr ⟨(congrArg (fun x : Dev => ({ x with bldcs := e.bldcs, tracks := e.tracks, loops := e.loops } : Dev)) h.1 :), h.2⟩

theorem Dev.updBldc_obj (d : Dev) (g : Nat) (f : Bldc → Bldc) : (d.updBldc g f).obj = d.obj := rfl

/-- A loop enabled alone starts with its next sample as its first. -/
theorem Dev.enableLoop_on (d : Dev) (L : Nat) : (d.enableLoops [L] true).b (at' Obj.ENABLE_A100 L) = true ∧ ((d.enableLoops [L] true).loopOf L).first = true ∧ d.CatchOnly (d.enableLoops [L] true) ∧
    OnlyObjects (fun k => k == at' Obj.ENABLE_A100 L) d (d.enableLoops [L] true) ∧ (d.enableLoops [L] true).bldcs = d.bldcs := by
  refine ⟨?_, ?_, ?_, onlyObjects_enableLoops (.refl d) _ _ (by simp), rfl⟩
  · unfold Dev.enableLoops
    simp [Dev.b, Dev.o_eq]
    decide
  · have hloops : (d.enableLoops [L] true).loops = Tab.upd {} d.loops L fun l => { l with first := true } := rfl
    rw [Dev.loopOf, hloops, Tab.get_upd_same]
  · unfold Dev.enableLoops
    exact frame_catch.setB (d := { d with loops := _ }) (Dev.outside_of_eq rfl rfl) _ _

/-- The end of a catch: the duty, the current controller and the event. -/
def Dev.caught (d : Dev) (g : Nat) (f1 f2 : Bldc → Bldc) (v : Int) : Dev := (((d.updBldc g f1).setO (at' Obj.DUTY g) v).updBldc g f2).event 0x95

theorem Dev.caught_facts (d : Dev) (g : Nat) (f1 f2 : Bldc → Bldc) (v : Int) : (d.caught g f1 f2 v).bldcOf g = f2 (f1 (d.bldcOf g)) ∧ (d.caught g f1 f2 v).raised 0x95 ∧ d.BldcOnly (d.caught g f1 f2 v) ∧
    OnlyObjects (fun k => k == at' Obj.DUTY g || isTraceCount k) d (d.caught g f1 f2 v) := by
  have hset : OnlyObjects (fun k => k == at' Obj.DUTY g || isTraceCount k) (d.updBldc g f1) ((d.updBldc g f1).setO (at' Obj.DUTY g) v) := (OnlyObjects.refl _).setO _ _ (by simp)
  have h1 : d.BldcOnly ((d.updBldc g f1).setO (at' Obj.DUTY g) v) := frame_bldc.setO (d.bldcOnly_upd g f1) _ _
  have hof : ((d.updBldc g f1).setO (at' Obj.DUTY g) v).bldcOf g = f1 (d.bldcOf g) := Dev.bldcOf_updBldc d g f1
  have hobj : OnlyObjects (fun k => k == at' Obj.DUTY g || isTraceCount k) d ((d.updBldc g f1).setO (at' Obj.DUTY g) v) := ((OnlyObjects.refl d).of_obj (Dev.updBldc_obj d g f1)).trans hset
  unfold Dev.caught
  generalize (d.updBldc g f1).setO (at' Obj.DUTY g) v = x at *
  refine ⟨?_, by simp, frame_bldc.event (frame_bldc.trans h1 (x.bldcOnly_upd g f2)) _, (hobj.of_obj (Dev.updBldc_obj x g f2)).event _ fun k h => by rw [h, Bool.or_true]⟩
  rw [(Dev.showsOnly_event _ _).bldcOf g, Dev.bldcOf_updBldc, hof]

theorem catchKeys {g : Nat} (hg : g < 4) : (∀ k ∈ [at' Obj.STATE_7100 g, at' Obj.SPEED_7100 g, (axTrack (4 + g)).rateKey, at' Obj.ENABLE_A100 (bldcLoop g)],
      k ≠ at' Obj.DUTY g ∧ isTraceCount k = false ∧ isStatus k = false) ∧
    (∀ k ∈ [at' Obj.STATE_7100 g, at' Obj.SPEED_7100 g, (axTrack (4 + g)).rateKey], k ≠ at' Obj.ENABLE_A100 (bldcLoop g)) ∧
    ∀ k ∈ [at' Obj.DUTY g, at' Obj.ENABLE_A100 (bldcLoop g)], bldcKey g k = true ∧ keyIdx k ≠ 0x7000 := by
  interval_cases g <;> decide

theorem actBlRecatch_catches (s : State) (g : Fin 4) (angle : Nat) (rate : Int) (amp : Nat) (halive : s.dev.alive = true) (hstate : s.dev.bldcState g = 5) (hslots : s.dev.slots = []) (hwrites : s.dev.writes = [])
    (hturns : 2 * s.dev.n Obj.VLV ≤ 100 * amp) (hforth : 0 < rate * (s.dev.bldcOf g).dir) (hslow : 10 * (s.dev.bldcSpeed g rate).natAbs ≤ 11 * s.dev.n (at' Obj.MAX_SPEED_7100 g)) :
    Completes (.actBlRecatch g angle rate amp) s (fun e => e.o (at' Obj.STATE_7100 g) = 3 ∧ drives e g (sectorOf angle) ∧ e.o (at' Obj.SPEED_7100 g) = s.dev.bldcSpeed g rate ∧ e.o (axTrack (4 + g)).rateKey = rate ∧
      e.b (lk Obj.ENABLE_A100 (bldcLoop g)) = true ∧ (e.loopOf (bldcLoop g)).first = true ∧ (e.bldcOf g).integ = (amp * 10000000 : Nat) ∧ e.raised 0x95 ∧ ({ s.dev with bldcs := e.bldcs, tracks := e.tracks, loops := e.loops } : Dev).ShowsOnly e ∧
      OnlyObjects (fun k => bldcKey g k || k == at' Obj.JUMPS (axTrack (4 + g)).code) s.dev e) := by
  have hupd := s.dev.bldcOnly_upd g (fun b => { b with emf := amp })
  have hobj := s.dev.updBldc_obj g (fun b => { b with emf := amp })
  obtain ⟨ht, -, -, -⟩ := Dev.turned (d := s.dev.updBldc g (fun b => { b with emf := amp })) g.isLt hslots hwrites
    (nearAngle ((s.dev.updBldc g (fun b => { b with emf := amp })).value (axTrack (4 + g))) angle) rate true (sectorOf angle)
  have heq : ∃ f1 f2 v, (∀ b, (f1 b).sector = b.sector) ∧ (∀ b, (f2 b).sector = b.sector ∧ (f2 b).integ = ((amp * 10000000 : Nat) : Int)) ∧ s.dev.recatchEnd g angle rate amp =
      ((((((s.dev.updBldc g (fun b => { b with emf := amp })).sourceUpdate (axTrack (4 + g)) (nearAngle ((s.dev.updBldc g (fun b => { b with emf := amp })).value (axTrack (4 + g))) angle) rate true).driveSector g
        (sectorOf angle)).setO (at' Obj.SPEED_7100 g) (s.dev.bldcSpeed g rate)).setO (at' Obj.STATE_7100 g) 3).enableLoops [bldcLoop g] true).caught g f1 f2 v := by
    unfold Dev.recatchEnd
    rw [if_neg (by rw [hstate]; decide)]
    simp only []
    rw [if_neg (by simpa using hturns), if_pos (by simpa using ⟨hforth, hslow⟩)]
    refine ⟨_, _, _, ?_, ?_, rfl⟩
    · exact fun _ => rfl
    · exact fun _ => ⟨rfl, rfl⟩
  obtain ⟨f1, f2, v, hf1, hf2, heq⟩ := heq
  refine completes_live_eq _ rfl halive heq ?_
  clear heq
  generalize s.dev.updBldc g (fun b => { b with emf := amp }) = w at *
  generalize (w.sourceUpdate (axTrack (4 + g)) _ rate true).driveSector g (sectorOf angle) = x at *
  obtain ⟨hkeep, hother, hin⟩ := catchKeys g.isLt
  obtain ⟨-, hne⟩ := turnKeys g.isLt
  have ht2 := (ht.setO g.isLt (k := at' Obj.SPEED_7100 g) (by simp) (s.dev.bldcSpeed g rate)).setO g.isLt (k := at' Obj.STATE_7100 g) (by simp) 3
  have hspeed : ((x.setO (at' Obj.SPEED_7100 g) (s.dev.bldcSpeed g rate)).setO (at' Obj.STATE_7100 g) 3).o (at' Obj.SPEED_7100 g) = s.dev.bldcSpeed g rate :=
    (Dev.o_setO_other _ _ hne.symm).trans (Dev.o_setO_same _ _ _)
  have hst : ((x.setO (at' Obj.SPEED_7100 g) (s.dev.bldcSpeed g rate)).setO (at' Obj.STATE_7100 g) 3).o (at' Obj.STATE_7100 g) = 3 := Dev.o_setO_same _ _ _
  generalize (x.setO (at' Obj.SPEED_7100 g) (s.dev.bldcSpeed g rate)).setO (at' Obj.STATE_7100 g) 3 = y at *
  obtain ⟨hen, hfirst, hcl, hol, hbl⟩ := y.enableLoop_on (bldcLoop g)
  generalize y.enableLoops [bldcLoop g] true = z at *
  obtain ⟨hof, hev, hcb, hoc⟩ := z.caught_facts g f1 f2 v
  generalize z.caught g f1 f2 v = e at *
  have hzof : z.bldcOf g = y.bldcOf g := by
    unfold Dev.bldcOf
    rw [hbl]
  have hlate : OnlyObjects (fun k => [at' Obj.DUTY g, at' Obj.ENABLE_A100 (bldcLoop g)].contains k || isTraceCount k) y e.settle := by
    refine ((hol.mono fun k h => ?_).trans (hoc.mono fun k h => ?_)).settle
    · simp [beq_iff_eq.mp h]
    · rcases Bool.or_eq_true _ _ ▸ h with h | h
      · simp [beq_iff_eq.mp h]
      · rw [h, Bool.or_true]
  have hsame (k : Nat) (hk : k ∈ [at' Obj.STATE_7100 g, at' Obj.SPEED_7100 g, (axTrack (4 + g)).rateKey]) : e.settle.o k = y.o k := by
    obtain ⟨h1, h2, h3⟩ := hkeep k (by simp only [List.mem_cons] at hk ⊢; tauto)
    exact hlate.same _ (by simp [h1, h2, hother k hk]) h3
  refine ⟨(hsame _ (by simp)).trans hst, ?_, (hsame _ (by simp)).trans hspeed, (hsame _ (by simp)).trans ht2.rate, ?_, ?_, ?_, (Dev.raised_settle_iff _ _).mpr hev, ?_, ?_⟩
  · refine drives_congr g.isLt hlate (fun k hk => ?_) ?_ ht2.drives
    · have hk1 : k ≠ at' Obj.DUTY g := by rintro rfl; exact (hin _ (by simp)).2 hk
      have hk2 : k ≠ at' Obj.ENABLE_A100 (bldcLoop g) := by rintro rfl; exact (hin _ (by simp)).2 hk
      simp [hk1, hk2, (hb_report hk).1]
    · rw [Dev.bldcOf_settle, hof, (hf2 _).1, hf1, hzof]
  · obtain ⟨h1, h2, h3⟩ := hkeep (at' Obj.ENABLE_A100 (bldcLoop g)) (by simp)
    exact (Dev.b_eq ((Dev.o_settle _ h3).trans (hoc.same _ (by simp [h1, h2]) h3))).trans hen
  · have hloops : e.loops = z.loops := hcb.shows.loops (d := { z with bldcs := _ })
    have hsettle : e.settle.loopOf (bldcLoop g) = z.loopOf (bldcLoop g) := by
      unfold Dev.loopOf
      rw [Dev.settle_loops, hloops]
    rw [hsettle, hfirst]
  · rw [Dev.bldcOf_settle, hof]
    exact (hf2 _).2
  · have hc1 : s.dev.CatchOnly y := frame_catch.trans hupd.turn.catches ht2.rest.catches
    have hall : s.dev.CatchOnly e := frame_catch.trans (frame_catch.trans hc1 hcl) hcb.turn.catches
    exact (frame_catch.settle hall).shows
  · refine (((OnlyObjects.refl s.dev).of_obj hobj).trans ht2.obj).trans (hlate.mono fun k h => ?_)
    simp only [List.contains_iff_mem, Bool.or_eq_true] at h
    rcases h with h | h
    · rw [isTurnKey, (hin k h).1, Bool.true_or]
    · simp only [isTurnKey, bldcKey, h, Bool.or_true, Bool.true_or]

/-- Settles O32: the loss with and without tries left, the measurement, and its three ends, clause by clause. -/
theorem bldcLossAndRecatch : Obligations.BldcLossAndRecatch :=
  ⟨actBlLost_retries, actBlLost_stops, recatchStart_measures, actBlRecatch_still, actBlRecatch_catches, actBlRecatch_brakes, lowSideBrakeEnd_aligns, lowSideBrakeEnd_lost, triesReset_clears⟩

end Sys2Proof.Machine
end

section
/-! The interlocks and the servo period, O34 (R302 to R305, R315). -/

namespace Sys2Proof.Machine

/-- Axis 0 moves, and BLDC group 0 is in its align although RUN reads 0, with its speed loop's slot enabled. -/
def movingBeside : State := { pending := [], dev := { State.reset.dev with
  phase := .service, axes := [(0, { doing := 1, target := 1 })],
  obj := [(at' Obj.STATE_7200 0, 2), (at' Obj.HOMED 0, 1), (at' Obj.DECEL_7200 0, 0), (at' Obj.JERK 0, 0), (at' Obj.HOMED 1, 1), (Obj.GEAR_NOW, 0), (at' Obj.STATE_7100 0, 1),
    (at' Obj.ENABLE_A100 92, 1)] } }

set_option maxRecDepth 8000 in
/-- The servo period of `movingBeside` turns BLDC group 0 off, whose loop is thereby disabled (R302, R304). -/
theorem servo_disablesLoop : (movingBeside.dev.servo []).o (at' Obj.ENABLE_A100 92) = 0 := by
  decide

/-- Refutes O34: the clause on a move under way lists the actuators' objects only, and a servo period that stops a BLDC group also disables its slot in chapter A100. -/
theorem not_interlocksAndServo : ¬ Obligations.InterlocksAndServo := by
  unfold Obligations.InterlocksAndServo
  intro h
  obtain ⟨-, -, -, -, -, -, -, -, -, -, hmove, -⟩ := h
  obtain ⟨t, hexec, -, -, -, -, -, -, -, -, hobj, -⟩ := hmove movingBeside [] 0 rfl rfl rfl (by decide) rfl (by decide) (by decide) (by decide) rfl (by decide) (by decide)
  have hrun : exec (.servoPeriod []) movingBeside = .next { movingBeside with dev := (movingBeside.dev.servo []).settle } := rfl
  rw [hrun] at hexec
  cases hexec
  have hsettle := (Dev.o_settle (movingBeside.dev.servo []) (k := at' Obj.ENABLE_A100 92) (by decide)).trans servo_disablesLoop
  exact absurd (hsettle.symm.trans (hobj.same (at' Obj.ENABLE_A100 92) (by decide) (by decide))) (by decide)

end Sys2Proof.Machine
end

section
/-! The commands and timers of a stepper axis, O33 (R314, R318 to R322). -/

namespace Sys2Proof.Machine

/-! ### Commands of an axis and of a group (R314, R319, R321, R322) -/

theorem Dev.ahead_nil {d : Dev} (h : d.writes = []) : d.ahead = d := by
  unfold Dev.ahead
  rw [h]
  rfl

/-- An accepted command of an axis is delivered. -/
theorem Dev.moveCtrl_accepted {d : Dev} {a : Nat} {v : Int} (h : d.moveCheck a v = 0) : d.moveCtrl a v = (d.deliver (at' Obj.MOVE_CTRL a) v).res 0 := by
  unfold Dev.moveCtrl
  simp only [h, if_true]

theorem Dev.moveCtrl_refused {d : Dev} {a : Nat} {v : Int} {c : Nat} (h : d.moveCheck a v = c) (hc : c ≠ 0) : d.moveCtrl a v = d.res c := by
  unfold Dev.moveCtrl
  simp only [h, hc, if_false]

section
variable {d : Dev} {a : Nat} (hwrites : d.writes = []) (hrole : d.o (at' Obj.ROLE_7200 a) = 0) (hdec : d.axisState a ≠ 3) (hfail : d.axisState a ≠ 6) (hstop : d.actStopped = false)
include hwrites hrole hdec hfail hstop

/-- The check of a move (1 absolute, 2 relative) of an axis that may move goes by its target (R314). -/
theorem Dev.moveCheck_move (hgroup : d.o (at' Obj.GROUP_7200 a) = 0) (hhomed : d.homed a = true) {v : Int} (hv : v = 1 ∨ v = 2) :
    d.moveCheck a v = if (if v = 2 then (d.axisOf a).target + d.o (at' Obj.TARGET_7200 a) else d.o (at' Obj.TARGET_7200 a)) < d.o (at' Obj.POS_MIN a) ∨
      d.o (at' Obj.POS_MAX a) < (if v = 2 then (d.axisOf a).target + d.o (at' Obj.TARGET_7200 a) else d.o (at' Obj.TARGET_7200 a)) then resCombination else 0 := by
  unfold Dev.moveCheck
  simp only [Dev.ahead_nil hwrites, hrole, hgroup, hhomed, hstop]
  rcases hv with rfl | rfl <;> simp [hdec, hfail]

theorem Dev.moveCheck_home : d.moveCheck a 4 = 0 := by
  unfold Dev.moveCheck
  simp only [Dev.ahead_nil hwrites, hrole, hstop]
  simp [hdec, hfail]

end

theorem Dev.moveCheck_unhomed {d : Dev} {a : Nat} (hhomed : d.homed a = false) : d.moveCheck a 1 = resState := by
  unfold Dev.moveCheck
  simp [hhomed]

theorem moveToTarget_kept (s : State) (a : Fin 4) (hserve : s.dev.phase = .service) (hfuse : s.dev.fuseBars [9] = false) (hwrites : s.dev.writes = []) (hrole : s.dev.o (at' Obj.ROLE_7200 a) = 0) (hgroup : s.dev.o (at' Obj.GROUP_7200 a) = 0)
    (hhomed : s.dev.homed a = true) (hdec : s.dev.axisState a ≠ 3) (hfail : s.dev.axisState a ≠ 6) (hstop : s.dev.actStopped = false) (hmin : s.dev.o (at' Obj.POS_MIN a) ≤ s.dev.o (at' Obj.TARGET_7200 a)) (hmax : s.dev.o (at' Obj.TARGET_7200 a) ≤ s.dev.o (at' Obj.POS_MAX a)) :
    Completes (.moveToTarget a) s (fun e => e.result = 0 ∧ e.writes = [{ key := at' Obj.MOVE_CTRL a, val := 1 }] ∧ ({ s.dev with writes := e.writes, result := e.result } : Dev).ShowsOnly e ∧ OnlyObjects (fun _ => false) s.dev e) := by
  refine completes_serve_delivered (at' Obj.MOVE_CTRL a) 1 rfl hserve ?_ fun e hr hw hs ho => ⟨hr, by rw [hw, hwrites]; rfl, hs, ho⟩
  rw [Dev.allowed_eq hfuse, Dev.moveCtrl_accepted]
  rw [Dev.moveCheck_move hwrites hrole hdec hfail hstop hgroup hhomed (.inl rfl)]
  exact if_neg (by simp only [show ¬ (1 : Int) = 2 by decide, if_false]; omega)

theorem moveToTarget_unhomed (s : State) (a : Fin 4) (hserve : s.dev.phase = .service) (hfuse : s.dev.fuseBars [9] = false) (hhomed : s.dev.homed a = false) :
    Completes (.moveToTarget a) s (fun e => e.result = resState ∧ ({ s.dev with result := e.result } : Dev).ShowsOnly e ∧ OnlyObjects (fun _ => false) s.dev e) := by
  refine completes_serve_result resState rfl hserve ?_ fun e hr hs ho => ⟨hr, hs, ho⟩
  rw [Dev.allowed_eq hfuse, Dev.moveCtrl_refused (Dev.moveCheck_unhomed hhomed) (by decide)]

theorem moveByTarget_kept (s : State) (a : Fin 4) (hserve : s.dev.phase = .service) (hfuse : s.dev.fuseBars [9] = false) (hwrites : s.dev.writes = []) (hrole : s.dev.o (at' Obj.ROLE_7200 a) = 0) (hgroup : s.dev.o (at' Obj.GROUP_7200 a) = 0)
    (hhomed : s.dev.homed a = true) (hdec : s.dev.axisState a ≠ 3) (hfail : s.dev.axisState a ≠ 6) (hstop : s.dev.actStopped = false) (hmin : s.dev.o (at' Obj.POS_MIN a) ≤ (s.dev.axisOf a).target + s.dev.o (at' Obj.TARGET_7200 a)) (hmax : (s.dev.axisOf a).target + s.dev.o (at' Obj.TARGET_7200 a) ≤ s.dev.o (at' Obj.POS_MAX a)) :
    Completes (.moveByTarget a) s (fun e => e.result = 0 ∧ e.writes = [{ key := at' Obj.MOVE_CTRL a, val := 2 }] ∧ ({ s.dev with writes := e.writes, result := e.result } : Dev).ShowsOnly e ∧ OnlyObjects (fun _ => false) s.dev e) := by
  refine completes_serve_delivered (at' Obj.MOVE_CTRL a) 2 rfl hserve ?_ fun e hr hw hs ho => ⟨hr, by rw [hw, hwrites]; rfl, hs, ho⟩
  rw [Dev.allowed_eq hfuse, Dev.moveCtrl_accepted]
  rw [Dev.moveCheck_move hwrites hrole hdec hfail hstop hgroup hhomed (.inr rfl)]
  exact if_neg (by simp only [if_true]; omega)

theorem moveByTarget_beyond (s : State) (a : Fin 4) (hserve : s.dev.phase = .service) (hfuse : s.dev.fuseBars [9] = false) (hwrites : s.dev.writes = []) (hrole : s.dev.o (at' Obj.ROLE_7200 a) = 0) (hgroup : s.dev.o (at' Obj.GROUP_7200 a) = 0)
    (hhomed : s.dev.homed a = true) (hdec : s.dev.axisState a ≠ 3) (hfail : s.dev.axisState a ≠ 6) (hstop : s.dev.actStopped = false) (hmax : s.dev.o (at' Obj.POS_MAX a) < (s.dev.axisOf a).target + s.dev.o (at' Obj.TARGET_7200 a)) :
    Completes (.moveByTarget a) s (fun e => e.result = resCombination ∧ ({ s.dev with result := e.result } : Dev).ShowsOnly e ∧ OnlyObjects (fun _ => false) s.dev e) := by
  refine completes_serve_result resCombination rfl hserve ?_ fun e hr hs ho => ⟨hr, hs, ho⟩
  have hcheck := Dev.moveCheck_move hwrites hrole hdec hfail hstop hgroup hhomed (.inr rfl)
  rw [if_pos (by simp only [if_true]; exact .inr hmax)] at hcheck
  rw [Dev.allowed_eq hfuse, Dev.moveCtrl_refused hcheck (by decide)]

theorem moveStop_kept (s : State) (a : Fin 4) (hserve : s.dev.phase = .service) :
    Completes (.moveStop a) s (fun e => e.result = 0 ∧ e.writes = s.dev.writes ++ [{ key := at' Obj.MOVE_CTRL a, val := 3 }] ∧ ({ s.dev with writes := e.writes, result := e.result } : Dev).ShowsOnly e ∧ OnlyObjects (fun _ => false) s.dev e) :=
  completes_serve_delivered (at' Obj.MOVE_CTRL a) 3 rfl hserve (Dev.moveCtrl_accepted rfl) fun _ hr hw hs ho => ⟨hr, hw, hs, ho⟩

theorem moveHome_kept (s : State) (a : Fin 4) (hserve : s.dev.phase = .service) (hfuse : s.dev.fuseBars [9] = false) (hwrites : s.dev.writes = []) (hrole : s.dev.o (at' Obj.ROLE_7200 a) = 0) (hdec : s.dev.axisState a ≠ 3)
    (hfail : s.dev.axisState a ≠ 6) (hstop : s.dev.actStopped = false) :
    Completes (.moveHome a) s (fun e => e.result = 0 ∧ e.writes = [{ key := at' Obj.MOVE_CTRL a, val := 4 }] ∧ ({ s.dev with writes := e.writes, result := e.result } : Dev).ShowsOnly e ∧ OnlyObjects (fun _ => false) s.dev e) := by
  refine completes_serve_delivered (at' Obj.MOVE_CTRL a) 4 rfl hserve ?_ fun e hr hw hs ho => ⟨hr, by rw [hw, hwrites]; rfl, hs, ho⟩
  rw [Dev.allowed_eq hfuse, Dev.moveCtrl_accepted (Dev.moveCheck_home hwrites hrole hdec hfail hstop)]

theorem moveRelease_kept (s : State) (a : Fin 4) (hserve : s.dev.phase = .service) :
    Completes (.moveRelease a) s (fun e => e.result = 0 ∧ e.writes = s.dev.writes ++ [{ key := at' Obj.MOVE_CTRL a, val := 5 }] ∧ ({ s.dev with writes := e.writes, result := e.result } : Dev).ShowsOnly e ∧ OnlyObjects (fun _ => false) s.dev e) :=
  completes_serve_delivered (at' Obj.MOVE_CTRL a) 5 rfl hserve (Dev.moveCtrl_accepted rfl) fun _ hr hw hs ho => ⟨hr, hw, hs, ho⟩

theorem groupMoveStart_kept (s : State) (w : Fin 2) (hserve : s.dev.phase = .service) (hfuse : s.dev.fuseBars [9] = false) (hcheck : s.dev.groupCheck w 1 = 0) :
    Completes (.groupMoveStart w) s (fun e => e.result = 0 ∧ e.writes = s.dev.writes ++ [{ key := at' Obj.GROUP_CTRL w, val := 1 }] ∧ ({ s.dev with writes := e.writes, result := e.result } : Dev).ShowsOnly e ∧ OnlyObjects (fun _ => false) s.dev e) := by
  refine completes_serve_delivered (at' Obj.GROUP_CTRL w) 1 rfl hserve ?_ fun e hr hw hs ho => ⟨hr, hw, hs, ho⟩
  rw [Dev.allowed_eq hfuse, Dev.groupCtrl]
  simp only [hcheck, if_true]

theorem groupMoveStart_unhomed (s : State) (w : Fin 2) (hserve : s.dev.phase = .service) (hfuse : s.dev.fuseBars [9] = false) (hwrites : s.dev.writes = [])
    (hany : [0, 1, 2, 3].any (fun a => s.dev.n (at' Obj.GROUP_7200 a) == w + 1 && !(s.dev.homed a)) = true) :
    Completes (.groupMoveStart w) s (fun e => e.result = resState ∧ ({ s.dev with result := e.result } : Dev).ShowsOnly e ∧ OnlyObjects (fun _ => false) s.dev e) := by
  refine completes_serve_result resState rfl hserve ?_ fun e hr hs ho => ⟨hr, hs, ho⟩
  have hmember : (s.dev.membersOf w).any (fun a => s.dev.o (at' Obj.ROLE_7200 a) != 0 || !(s.dev.homed a) || [2, 3, 4, 6].contains (s.dev.axisState a) || (s.dev.axisOf a).doing == 5) = true := by
    obtain ⟨a, ha, hg⟩ := List.any_eq_true.mp hany
    obtain ⟨hin, hnot⟩ := Bool.and_eq_true _ _ ▸ hg
    exact List.any_eq_true.mpr ⟨a, List.mem_filter.mpr ⟨ha, hin⟩, by simp [hnot]⟩
  have hcheck : s.dev.groupCheck w 1 = resState := by
    unfold Dev.groupCheck
    simp only [Dev.ahead_nil hwrites]
    rw [if_neg (by decide), if_neg (by decide), if_pos (.inr hmember)]
  rw [Dev.allowed_eq hfuse, Dev.groupCtrl]
  simp only [hcheck]
  exact if_neg (by decide)

theorem groupMoveStop_kept (s : State) (w : Fin 2) (hserve : s.dev.phase = .service) :
    Completes (.groupMoveStop w) s (fun e => e.result = 0 ∧ e.writes = s.dev.writes ++ [{ key := at' Obj.GROUP_CTRL w, val := 2 }] ∧ ({ s.dev with writes := e.writes, result := e.result } : Dev).ShowsOnly e ∧ OnlyObjects (fun _ => false) s.dev e) :=
  completes_serve_delivered (at' Obj.GROUP_CTRL w) 2 rfl hserve rfl fun _ hr hw hs ho => ⟨hr, hw, hs, ho⟩

/-! ### The timers of an axis (R314, R318, R320) -/

/-- `e` is `d` but for the axes' hidden state, objects, events and the trace. -/
def Dev.AxesOnly : Dev → Dev → Prop := Dev.Outside fun x => { x with axes := [] }

theorem frame_axes : Frame Dev.AxesOnly := frame_outside _

theorem Dev.axesOnly_upd (d : Dev) (a : Nat) (f : Axis → Axis) : d.AxesOnly (d.updAxis a f) := Dev.outside_of_eq rfl rfl

theorem Dev.AxesOnly.shows {d e : Dev} (h : d.AxesOnly e) : ({ d with axes := e.axes } : Dev).ShowsOnly e :=
  Dev.showsOnly_iff.mpr ⟨(congrArg (fun x : Dev => ({ x with axes := e.axes } : Dev)) h.1 :), h.2⟩

theorem Dev.axisOf_updAxis (d : Dev) (a : Nat) (f : Axis → Axis) : (d.updAxis a f).axisOf a = f (d.axisOf a) := by
  simp [Dev.axisOf, Dev.updAxis]

theorem Dev.updAxis_obj (d : Dev) (a : Nat) (f : Axis → Axis) : (d.updAxis a f).obj = d.obj := rfl

theorem Dev.axisOf_settle (d : Dev) (a : Nat) : d.settle.axisOf a = d.axisOf a := by
  unfold Dev.axisOf
  rw [Dev.settle_axes]

theorem Dev.ShowsOnly.axisOf {d e : Dev} (h : d.ShowsOnly e) (a : Nat) : e.axisOf a = d.axisOf a := by
  unfold Dev.axisOf
  rw [h.axes]

/-- The half-bridges of a list switched alike, and what that writes. -/
theorem Dev.foldl_setHb_objects (l : List Nat) (hs ls : Bool) (d : Dev) : OnlyObjects (fun k => l.any (fun n => k == el Obj.HB_STATUS n)) d (l.foldl (fun d n => d.setHb n hs ls) d) :=
  (OnlyObjects.refl d).foldl _ fun d n hn => by
    have hin : l.any (fun m => el Obj.HB_STATUS n == el Obj.HB_STATUS m) = true := List.any_eq_true.mpr ⟨n, hn, by simp⟩
    exact ((OnlyObjects.refl d).setBit _ _ _ (by simp only [hin, Bool.true_or])).setBit _ _ _ (by simp only [hin, Bool.true_or])

/-- What a release does to an axis: no profile, no increment, no amplitude (R314). -/
def released (x : Axis) : Axis :=
  { x with p := x.acc, v := 0, a := 0, inc := 0, doing := 0, next := 0, ready := false, stall := 0, amp := 0, integA := 0, integB := 0, dutyA := 0, dutyB := 0 }

theorem axisKeys {a : Nat} (ha : a < 4) : isStatus (at' Obj.STATE_7200 a) = false ∧ at' Obj.STATE_7200 a ≠ at' Obj.I_HOLD a ∧
    ∀ n ∈ hbsOf a, isStatus (el Obj.HB_STATUS n) = false ∧ el Obj.HB_STATUS n ≠ at' Obj.STATE_7200 a := by
  interval_cases a <;> decide

/-- The objects of a release and of a standstill. -/
def isReleaseKey (a k : Nat) : Bool := k == at' Obj.STATE_7200 a || (hbsOf a).any (fun n => k == el Obj.HB_STATUS n)

structure Dev.Released (d e : Dev) (a : Nat) (st : Int) (low : Bool) : Prop where
  state : e.o (at' Obj.STATE_7200 a) = st
  switches : ∀ n ∈ hbsOf a, e.switches n = (false, low)
  axis : e.axisOf a = released (d.axisOf a)
  rest : d.AxesOnly e
  obj : OnlyObjects (isReleaseKey a) d e

theorem Dev.axisRelease_released (d : Dev) {a : Nat} (ha : a < 4) (hstate : d.axisState a = 1) : d.Released (d.axisRelease a) a 0 false := by
  obtain ⟨hst, -, hhb⟩ := axisKeys ha
  have hsw := Dev.switches_foldl_setHb false false (hbsOf a) d
  have hs : d.ShowsOnly ((hbsOf a).foldl (fun d n => d.setHb n false false) d) := Dev.shows_foldl (fun d n => d.shows_setHb n _ _) _ _
  have ho := Dev.foldl_setHb_objects (hbsOf a) false false d
  unfold Dev.axisRelease Dev.hbsOff
  rw [show decide (d.axisState a ≠ 6) = true by rw [hstate]; rfl]
  generalize (hbsOf a).foldl (fun d n => d.setHb n false false) d = x at *
  change d.Released ((x.setO (at' Obj.STATE_7200 a) 0).updAxis a released) a 0 false
  have hx : (x.setO (at' Obj.STATE_7200 a) 0).axisOf a = d.axisOf a := hs.axisOf a
  have hset : OnlyObjects (fun k => k == at' Obj.STATE_7200 a) x (x.setO (at' Obj.STATE_7200 a) 0) := (OnlyObjects.refl x).setO _ _ (by simp)
  refine ⟨Dev.o_setO_same _ _ _, fun n hn => ?_, by rw [Dev.axisOf_updAxis, hx], frame_axes.trans (frame_axes.setO (frame_axes.shows hs) _ _) (Dev.axesOnly_upd _ _ _),
    ((ho.mono fun k h => by rw [isReleaseKey, h, Bool.or_true]).trans (hset.mono fun k h => by rw [isReleaseKey, h, Bool.true_or])).of_obj (Dev.updAxis_obj _ _ _)⟩
  exact (Dev.switches_congr ((hset.of_obj (Dev.updAxis_obj _ a released)).same _ (by simpa using (hhb n hn).2) (hhb n hn).1)).trans (hsw n hn)

theorem holdDelayEnd_released (s : State) (a : Fin 4) (halive : s.dev.alive = true) (hstate : s.dev.axisState a = 1) (hidle : (s.dev.axisOf a).doing = 0) (hdelay : s.dev.n (at' Obj.HOLD_DELAY a) ≠ 65535) (hstand : s.dev.b (at' Obj.STANDSTILL_7200 a) = false) :
    Completes (.holdDelayEnd a) s (fun e => e.o (at' Obj.STATE_7200 a) = 0 ∧ (∀ n ∈ hbsOf a, bitOf (e.o (el Obj.HB_STATUS n)) 0 = false ∧ bitOf (e.o (el Obj.HB_STATUS n)) 1 = false) ∧ (e.axisOf a).amp = 0 ∧ (e.axisOf a).p = (s.dev.axisOf a).acc ∧ ({ s.dev with axes := e.axes } : Dev).ShowsOnly e ∧
      OnlyObjects (fun k => k == at' Obj.STATE_7200 a || (hbsOf a).any (fun n => k == el Obj.HB_STATUS n)) s.dev e) := by
  have hrel := s.dev.axisRelease_released a.isLt hstate
  have heq : s.dev.holdEnd a = s.dev.axisRelease a := by
    unfold Dev.holdEnd
    rw [if_neg (by simp [hstate, hidle, hdelay]), if_neg (by simp [hstand])]
  refine completes_live_eq _ rfl halive heq ?_
  clear heq
  generalize s.dev.axisRelease a = x at *
  obtain ⟨hst, -, hhb⟩ := axisKeys a.isLt
  refine ⟨(Dev.o_settle _ hst).trans hrel.state, fun n hn => ?_, by rw [Dev.axisOf_settle, hrel.axis, released], by rw [Dev.axisOf_settle, hrel.axis, released], (frame_axes.settle hrel.rest).shows, hrel.obj.settle⟩
  have hsw := (Dev.switches_congr (Dev.o_settle x (hhb n hn).1)).trans (hrel.switches n hn)
  simpa only [Dev.switches, Prod.mk.injEq] using hsw

theorem holdDelayEnd_shorted (s : State) (a : Fin 4) (halive : s.dev.alive = true) (hstate : s.dev.axisState a = 1) (hidle : (s.dev.axisOf a).doing = 0) (hdelay : s.dev.n (at' Obj.HOLD_DELAY a) ≠ 65535) (hstand : s.dev.b (at' Obj.STANDSTILL_7200 a) = true) :
    Completes (.holdDelayEnd a) s (fun e => e.o (at' Obj.STATE_7200 a) = 5 ∧ (∀ n ∈ hbsOf a, bitOf (e.o (el Obj.HB_STATUS n)) 0 = false ∧ bitOf (e.o (el Obj.HB_STATUS n)) 1 = true) ∧ (e.axisOf a).amp = 0 ∧ ({ s.dev with axes := e.axes } : Dev).ShowsOnly e ∧
      OnlyObjects (fun k => k == at' Obj.STATE_7200 a || (hbsOf a).any (fun n => k == el Obj.HB_STATUS n)) s.dev e) := by
  have hrel := s.dev.axisRelease_released a.isLt hstate
  have heq : s.dev.holdEnd a = ((hbsOf a).foldl (fun d n => d.setHb n false true) (s.dev.axisRelease a)).setO (at' Obj.STATE_7200 a) 5 := by
    unfold Dev.holdEnd
    rw [if_neg (by simp [hstate, hidle, hdelay]), if_pos (by simp [hstand])]
  refine completes_live_eq _ rfl halive heq ?_
  clear heq
  generalize s.dev.axisRelease a = x at *
  have hsw := Dev.switches_foldl_setHb false true (hbsOf a) x
  have hs : x.ShowsOnly ((hbsOf a).foldl (fun d n => d.setHb n false true) x) := Dev.shows_foldl (fun d n => d.shows_setHb n _ _) _ _
  have ho := Dev.foldl_setHb_objects (hbsOf a) false true x
  generalize (hbsOf a).foldl (fun d n => d.setHb n false true) x = y at *
  obtain ⟨hst, -, hhb⟩ := axisKeys a.isLt
  have hset : OnlyObjects (fun k => k == at' Obj.STATE_7200 a) y (y.setO (at' Obj.STATE_7200 a) 5).settle := ((OnlyObjects.refl y).setO _ _ (by simp)).settle
  have hax : (y.setO (at' Obj.STATE_7200 a) 5).axisOf a = released (s.dev.axisOf a) := (hs.axisOf a).trans hrel.axis
  refine ⟨(Dev.o_settle _ hst).trans (Dev.o_setO_same _ _ _), fun n hn => ?_, by rw [Dev.axisOf_settle, hax, released],
    (frame_axes.settle (frame_axes.setO (frame_axes.trans hrel.rest (frame_axes.shows hs)) _ _)).shows, hrel.obj.trans ((ho.mono fun k h => ?_).trans (hset.mono fun k h => ?_))⟩
  · have hw := (Dev.switches_congr (hset.same _ (by simpa using (hhb n hn).2) (hhb n hn).1)).trans (hsw n hn)
    simpa only [Dev.switches, Prod.mk.injEq] using hw
  · rw [isReleaseKey, h, Bool.or_true]
  · rw [isReleaseKey, h, Bool.true_or]

theorem energiseEnd_ready (s : State) (a : Fin 4) (halive : s.dev.alive = true) (hdoing : (s.dev.axisOf a).doing = 5) (hstate : s.dev.axisState a = 1) :
    Completes (.energiseEnd a) s (fun e => e.axisOf a = { s.dev.axisOf a with ready := true } ∧ ({ s.dev with axes := e.axes } : Dev).ShowsOnly e ∧ OnlyObjects (fun _ => false) s.dev e) := by
  refine completes_live_eq (s.dev.updAxis a (fun x => { x with ready := true })) rfl halive (by simp [Dev.when, hdoing, hstate]) ?_
  have hof := s.dev.axisOf_updAxis a (fun x => { x with ready := true })
  have hf := s.dev.axesOnly_upd a (fun x => { x with ready := true })
  have ho := s.dev.updAxis_obj a (fun x => { x with ready := true })
  generalize s.dev.updAxis a (fun x => { x with ready := true }) = x at *
  exact ⟨by rw [Dev.axisOf_settle, hof], (frame_axes.settle hf).shows, ((OnlyObjects.refl s.dev).of_obj ho).settle⟩

/-- An axis holds: STATE 1 with I_HOLD and no profile (R320). -/
theorem Dev.axisHold_facts (d : Dev) {a : Nat} (ha : a < 4) : (d.axisHold a).o (at' Obj.STATE_7200 a) = 1 ∧
    (d.axisHold a).axisOf a = { d.axisOf a with amp := 100 * d.n (at' Obj.I_HOLD a), doing := 0, next := 0, ready := false, v := 0, a := 0, stall := 0, atSpeed := false } ∧
    d.AxesOnly (d.axisHold a) ∧ OnlyObjects (fun k => k == at' Obj.STATE_7200 a) d (d.axisHold a) := by
  obtain ⟨-, hne, -⟩ := axisKeys ha
  have hamp : (d.setO (at' Obj.STATE_7200 a) 1).n (at' Obj.I_HOLD a) = d.n (at' Obj.I_HOLD a) := Dev.n_eq (Dev.o_setO_other _ _ hne.symm)
  have hset : OnlyObjects (fun k => k == at' Obj.STATE_7200 a) d (d.setO (at' Obj.STATE_7200 a) 1) := (OnlyObjects.refl d).setO _ _ (by simp)
  have hof : (d.setO (at' Obj.STATE_7200 a) 1).axisOf a = d.axisOf a := rfl
  have hst : (d.setO (at' Obj.STATE_7200 a) 1).o (at' Obj.STATE_7200 a) = 1 := Dev.o_setO_same _ _ _
  have hf : d.AxesOnly (d.setO (at' Obj.STATE_7200 a) 1) := frame_axes.setO (frame_axes.refl d) _ _
  unfold Dev.axisHold Dev.setAmp
  generalize d.setO (at' Obj.STATE_7200 a) 1 = x at *
  rw [Dev.axisOf_updAxis, Dev.axisOf_updAxis, hamp, hof]
  have h1 := x.axesOnly_upd a (fun v => { v with amp := 100 * d.n (at' Obj.I_HOLD a) })
  have o1 := x.updAxis_obj a (fun v => { v with amp := 100 * d.n (at' Obj.I_HOLD a) })
  generalize x.updAxis a (fun v => { v with amp := 100 * d.n (at' Obj.I_HOLD a) }) = y at *
  exact ⟨((Dev.o_eq _ _).trans (congrArg (fun t => Tab.get (dflt (at' Obj.STATE_7200 a)) t (at' Obj.STATE_7200 a)) o1)).trans hst, rfl,
    frame_axes.trans (frame_axes.trans hf h1) (y.axesOnly_upd a _), (hset.of_obj o1).of_obj (y.updAxis_obj a _)⟩

theorem stallHoldEnd_holds (s : State) (a : Fin 4) (halive : s.dev.alive = true) (hdoing : (s.dev.axisOf a).doing = 6) :
    Completes (.stallHoldEnd a) s (fun e => e.o (at' Obj.STATE_7200 a) = 1 ∧ (e.axisOf a).doing = 0 ∧ (e.axisOf a).amp = 100 * s.dev.n (at' Obj.I_HOLD a) ∧ (e.axisOf a).p = (s.dev.axisOf a).p ∧ ({ s.dev with axes := e.axes } : Dev).ShowsOnly e ∧ OnlyObjects (fun k => k == at' Obj.STATE_7200 a) s.dev e) := by
  obtain ⟨hst, hof, hf, ho⟩ := s.dev.axisHold_facts a.isLt
  refine completes_live_eq (s.dev.axisHold a) rfl halive (by simp [Dev.when, hdoing]) ?_
  generalize s.dev.axisHold a = x at *
  exact ⟨(Dev.o_settle _ (axisKeys a.isLt).1).trans hst, by rw [Dev.axisOf_settle, hof], by rw [Dev.axisOf_settle, hof], by rw [Dev.axisOf_settle, hof], (frame_axes.settle hf).shows, ho.settle⟩

/-! ### The end of homing (R319) -/

/-- What the end of homing changes beside objects. -/
def Dev.HomeOnly : Dev → Dev → Prop := Dev.Outside fun x => { x with axes := [], tracks := [] }

theorem frame_home : Frame Dev.HomeOnly := frame_outside _

theorem Dev.TracksOnly.home {d e : Dev} (h : d.TracksOnly e) : d.HomeOnly e := by
  obtain ⟨h1, h2⟩ := Dev.tracksOnly_iff.mp h
  exact ⟨(congrArg (fun x : Dev => ({ x with axes := [] } : Dev)) h1 :), h2⟩

theorem Dev.AxesOnly.home {d e : Dev} (h : d.AxesOnly e) : d.HomeOnly e := ⟨(congrArg (fun x : Dev => ({ x with tracks := [] } : Dev)) h.1 :), h.2⟩

theorem Dev.HomeOnly.shows {d e : Dev} (h : d.HomeOnly e) : ({ d with axes := e.axes, tracks := e.tracks } : Dev).ShowsOnly e :=
  Dev.showsOnly_iff.mpr ⟨(congrArg (fun x : Dev => ({ x with axes := e.axes, tracks := e.tracks } : Dev)) h.1 :), h.2⟩

/-- The axis stands at HOME_POS and is homed (R319 step 3). -/
def Dev.homeSet (d : Dev) (a : Nat) : Dev :=
  (d.setB (at' Obj.HOMED a) true).updAxis a (fun x => { x with
    p := d.o (at' Obj.HOME_POS a) * ustep, acc := d.o (at' Obj.HOME_POS a) * ustep, inc := 0, target := d.o (at' Obj.HOME_POS a), at_ := d.wall })

theorem Dev.homeSet_facts (d : Dev) (a : Nat) : (d.homeSet a).o (at' Obj.HOMED a) = 1 ∧ (d.homeSet a).axisOf a = { d.axisOf a with
      p := d.o (at' Obj.HOME_POS a) * ustep, acc := d.o (at' Obj.HOME_POS a) * ustep, inc := 0, target := d.o (at' Obj.HOME_POS a), at_ := d.wall } ∧
    d.AxesOnly (d.homeSet a) ∧ OnlyObjects (fun k => k == at' Obj.HOMED a) d (d.homeSet a) := by
  refine ⟨?_, ?_, frame_axes.trans (frame_axes.setB (frame_axes.refl d) _ _) (Dev.axesOnly_upd _ _ _), ((OnlyObjects.refl d).setB _ _ (by simp)).of_obj (Dev.updAxis_obj _ _ _)⟩
  · exact (Dev.o_setB _ _ _ _).trans (if_pos rfl)
  · rw [Dev.homeSet, Dev.axisOf_updAxis]
    rfl

theorem homeKeys {a : Nat} (ha : a < 4) : (∀ k ∈ [at' Obj.HOMED a, at' Obj.STATE_7200 a], isMotion (axTrack a) k = false ∧ isStatus k = false ∧ isTraceCount k = false) ∧
    (∀ k ∈ motionKeys (axTrack a), k ≠ at' Obj.STATE_7200 a ∧ isStatus k = false ∧ isTraceCount k = false) ∧ at' Obj.HOMED a ≠ at' Obj.STATE_7200 a := by
  interval_cases a <;> decide

theorem actHomed_homes (s : State) (a : Fin 4) (halive : s.dev.alive = true) (hdoing : (s.dev.axisOf a).doing = 4) (hslots : s.dev.slots = []) (hwrites : s.dev.writes = []) :
    Completes (.actHomed a) s (fun e => e.o (at' Obj.HOMED a) = 1 ∧ e.o (at' Obj.STATE_7200 a) = 1 ∧ e.value (axTrack a) = (axTrack a).wrap (s.dev.o (at' Obj.HOME_POS a)) ∧ e.b (axTrack a).validKey = true ∧ e.o (axTrack a).rateKey = 0 ∧
      (e.axisOf a).p = s.dev.o (at' Obj.HOME_POS a) * ustep ∧ (e.axisOf a).acc = s.dev.o (at' Obj.HOME_POS a) * ustep ∧ (e.axisOf a).inc = 0 ∧ (e.axisOf a).doing = 0 ∧ e.raised 0x9C ∧ e.raised 0xF2 ∧
      ({ s.dev with axes := e.axes, tracks := e.tracks } : Dev).ShowsOnly e ∧ OnlyObjects (fun k => k == at' Obj.HOMED a || k == at' Obj.STATE_7200 a || k == (axTrack a).validKey || k == (axTrack a).rateKey || k == (axTrack a).valueKey || k == (axTrack a).dirKey || k == at' Obj.JUMPS (axTrack a).code || isTraceCount k) s.dev e) := by
  have heq : s.dev.axisHomed a = (((s.dev.homeSet a).sourceUpdate (axTrack a) (s.dev.o (at' Obj.HOME_POS a)) 0 true).axisHold a).event 0x9C := if_neg (by rw [hdoing]; decide)
  refine completes_live_eq _ rfl halive heq ?_
  clear heq
  obtain ⟨hh, hx, hxf, hxo⟩ := s.dev.homeSet_facts a
  have hslots1 : (s.dev.homeSet a).slots = [] := hslots
  have hwrites1 : (s.dev.homeSet a).writes = [] := hwrites
  generalize s.dev.homeSet a = x at *
  generalize s.dev.o (at' Obj.HOME_POS a) = home at *
  obtain ⟨hsrc, hjump⟩ := Dev.sourceUpdate_sourced (plainTrack_axis a) hslots1 hwrites1 (rate := 0) home true
  obtain ⟨hval, hev⟩ := hjump rfl
  generalize x.sourceUpdate (axTrack a) home 0 true = y at *
  have hyaxis : y.axisOf a = x.axisOf a := by
    unfold Dev.axisOf
    rw [Dev.ShowsOnly.axes (d := { x with tracks := _ }) hsrc.rest]
  obtain ⟨hst, hz, hzf, hzo⟩ := y.axisHold_facts a.isLt
  generalize y.axisHold a = z at *
  obtain ⟨hown, hmot, hne⟩ := homeKeys a.isLt
  have hlast (k : Nat) (hs : isStatus k = false) (ht : isTraceCount k = false) : (z.event 0x9C).settle.o k = z.o k := (Dev.o_settle _ hs).trans (Dev.o_event _ _ ht)
  have hmotion (k : Nat) (hk : k ∈ motionKeys (axTrack a)) : (z.event 0x9C).settle.o k = y.o k := by
    obtain ⟨h1, h2, h3⟩ := hmot k hk
    rw [hlast k h2 h3, hzo.same k (by simpa using h1) h2]
  have haxis : (z.event 0x9C).settle.axisOf a = z.axisOf a := (Dev.axisOf_settle _ _).trans ((Dev.showsOnly_event _ _).axisOf a)
  refine ⟨?_, ?_, ?_, (Dev.b_eq (hmotion _ (by simp [motionKeys]))).trans hsrc.valid, (hmotion _ (by simp [motionKeys])).trans hsrc.rate, ?_, ?_, ?_, ?_, by simp, ?_, ?_, ?_⟩
  · obtain ⟨h1, h2, h3⟩ := hown (at' Obj.HOMED a) (by simp)
    rw [hlast _ h2 h3, hzo.same _ (by simpa using hne) h2, hsrc.obj.same _ h1 h2, hh]
  · obtain ⟨-, h2, h3⟩ := hown (at' Obj.STATE_7200 a) (by simp)
    rw [hlast _ h2 h3, hst]
  · rw [Dev.value_of_ne_wall (plainTrack_axis _).ne_wall, hmotion _ (by simp [motionKeys]), hval]
  · rw [haxis, hz, hyaxis, hx]
  · rw [haxis, hz, hyaxis, hx]
  · rw [haxis, hz, hyaxis, hx]
  · rw [haxis, hz]
  · exact (Dev.raised_settle_iff _ _).mpr (Dev.raised_of_event (hzf.shows.raised (d := { y with axes := _ }) hev))
  · have hall : s.dev.HomeOnly z := frame_home.trans (frame_home.trans hxf.home hsrc.rest.home) hzf.home
    exact (frame_home.settle (frame_home.event hall _)).shows
  · refine (((hxo.mono fun k h => ?_).trans ((hsrc.obj.mono fun k h => ?_).trans (hzo.mono fun k h => ?_))).event 0x9C fun k h => ?_).settle
    · simp only [h, Bool.true_or]
    · simp only [isMotion, motionKeys, List.contains_iff_mem, List.mem_cons, List.not_mem_nil, or_false, Bool.or_eq_true, beq_iff_eq] at h
      simp only [Bool.or_eq_true, beq_iff_eq]
      tauto
    · simp only [h, Bool.true_or, Bool.or_true]
    · simp only [h, Bool.or_true]

/-- Settles O33: the commands of an axis and of a group, and the ends of its timers, clause by clause. -/
theorem stepperCommands : Obligations.StepperCommands :=
  ⟨moveToTarget_kept, moveToTarget_unhomed, moveByTarget_kept, moveByTarget_beyond, moveStop_kept, moveHome_kept, moveRelease_kept, groupMoveStart_kept, groupMoveStart_unhomed, groupMoveStop_kept,
    holdDelayEnd_released, holdDelayEnd_shorted, energiseEnd_ready, stallHoldEnd_holds, actHomed_homes⟩

end Sys2Proof.Machine
end

section
/-! The updates of the ground engine, O35 (R349, R351, R466). -/

namespace Sys2Proof.Machine

/-- Row 1 decides over a cell of the rate grid whose word is poisoned, with MASTER 0. -/
def markedGrid : State := { pending := [], dev := { State.reset.dev with
  phase := .service, mems := [(1, { words := [(gridBase + 4, { poison := true })] })],
  blk := [(Obj.RX_GRID, [1, 1, 1, 0, 1, 0])],
  obj := [(Obj.ROWS, 1), (Obj.ROW_VALID, 1), (Obj.ROW_V_MIN, 0), (Obj.RATE_SOURCE, 0), (at' Obj.NODES_CFG 0, 32), (at' Obj.NODES_CFG 1, 32), (at' Obj.NODES_CFG 2, 32),
    (at' Obj.NODES_CFG 3, 32)] } }

/-- The update of `markedGrid` consumes the marked word at each of its five points, whatever MASTER says (R349, R466). -/
theorem geUpdate_consumes : markedGrid.dev.geUpdate.o Obj.POISON_CONSUMED = 5 := by
  decide +kernel

/-- Refutes O35: the clause on MASTER 0 lists no POISON_CONSUMED, and a row that decides over a poisoned cell of the grid counts it there. -/
theorem not_groundUpdates : ¬ Obligations.GroundUpdates := by
  unfold Obligations.GroundUpdates
  intro h
  obtain ⟨-, -, hmaster, -⟩ := h
  obtain ⟨t, hexec, -, -, hobj, -⟩ := hmaster markedGrid rfl rfl rfl rfl (by decide)
  have hrun : exec .geUpdate markedGrid = .next { markedGrid with dev := markedGrid.dev.geUpdate.settle } := rfl
  rw [hrun] at hexec
  cases hexec
  have hsettle := (Dev.o_settle markedGrid.dev.geUpdate (k := Obj.POISON_CONSUMED) (by decide)).trans geUpdate_consumes
  exact absurd (hsettle.symm.trans (hobj.same Obj.POISON_CONSUMED (by decide) (by decide))) (by decide)

end Sys2Proof.Machine
end

section
/-! The coverage map, the job, the blocks of the field, MASTER and ROW_ENABLE, O36 (R343 to R348, R352, R356). -/

namespace Sys2Proof.Machine

/-! ### The coverage map (R344) -/

theorem mem_foldl_insertOnce {c : Nat} {α : Type} (f : α → Nat) (l : List α) (map : List Nat) :
    c ∈ l.foldl (fun m a => insertOnce (f a) m) map ↔ c ∈ map ∨ ∃ a ∈ l, f a = c := by
  induction l generalizing map with
  | nil => simp
  | cons a l ih => grind [mem_insertOnce]

/-- The map and the marks after a commit (R344). -/
def Dev.committed (d : Dev) : Ge := { d.ge with
  map := (d.ge.marks.filter fun m => decide (m.2 + 10 * d.n Obj.COMMIT_DIST ≤ d.ge.travel) && !(d.marked 1 (m.1 / 32))).foldl (fun l m => insertOnce m.1 l) d.ge.map
  marks := d.ge.marks.filter fun m => !(decide (m.2 + 10 * d.n Obj.COMMIT_DIST ≤ d.ge.travel)) }

theorem Dev.mem_committed (d : Dev) (c : Nat) : c ∈ d.committed.map ↔
    c ∈ d.ge.map ∨ ∃ m ∈ d.ge.marks, (m.2 + 10 * d.n Obj.COMMIT_DIST ≤ d.ge.travel ∧ d.marked 1 (m.1 / 32) = false) ∧ m.1 = c := by
  simp only [Dev.committed, mem_foldl_insertOnce, List.mem_filter, Bool.and_eq_true, decide_eq_true_eq, Bool.not_eq_true', and_assoc]

theorem Dev.committed_marks (d : Dev) : d.committed.marks = d.ge.marks.filter fun m => decide (d.ge.travel < m.2 + 10 * d.n Obj.COMMIT_DIST) := by
  refine List.filter_congr fun m _ => ?_
  simp only [← decide_not, not_le]

/-- The area that `n` cells stand for (R344). -/
def Dev.areaOf (d : Dev) (n : Nat) : Int := satU32 ((n : Int) * d.o Obj.CELL_SIZE * d.o Obj.CELL_SIZE / 1000000)

theorem Dev.ShowsOnly.ofGe {d e : Dev} {f : Ge → Ge} (h : (d.updGe f).ShowsOnly e) : ({ d with ge := e.ge } : Dev).ShowsOnly e := by
  rw [h.ge]
  exact h

theorem Dev.onlyObjects_updGe (d : Dev) (f : Ge → Ge) (ks : Nat → Bool) : OnlyObjects ks d (d.updGe f) := ⟨fun _ _ _ => rfl⟩

theorem coverageMarkCommit_writes (s : State) (halive : s.dev.alive = true) :
    Completes (.coverageMarkCommit) s (fun e => (∀ c ∈ s.dev.ge.map, c ∈ e.ge.map) ∧ (∀ m ∈ s.dev.ge.marks, m.2 + 10 * s.dev.n Obj.COMMIT_DIST ≤ s.dev.ge.travel → s.dev.marked 1 (m.1 / 32) = false → m.1 ∈ e.ge.map) ∧
      e.ge.marks = s.dev.ge.marks.filter (fun m => decide (s.dev.ge.travel < m.2 + 10 * s.dev.n Obj.COMMIT_DIST)) ∧
      e.o Obj.APPLIED_AREA = satU32 ((e.ge.map.length : Int) * s.dev.o Obj.CELL_SIZE * s.dev.o Obj.CELL_SIZE / 1000000) ∧ ({ s.dev with ge := e.ge } : Dev).ShowsOnly e ∧ OnlyObjects (fun k => k == Obj.APPLIED_AREA) s.dev e) := by
  have heq : s.dev.commitMarks = (s.dev.updGe fun _ => s.dev.committed).setO Obj.APPLIED_AREA (s.dev.areaOf s.dev.committed.map.length) := rfl
  refine completes_live_eq _ rfl halive heq ?_
  clear heq
  have hge : ((s.dev.updGe fun _ => s.dev.committed).setO Obj.APPLIED_AREA (s.dev.areaOf s.dev.committed.map.length)).settle.ge = s.dev.committed := by simp [Dev.updGe]
  refine ⟨fun c hc => ?_, fun m hm hdue hmark => ?_, ?_, ?_, ?_, ?_⟩
  · rw [hge]
    exact (s.dev.mem_committed c).mpr (Or.inl hc)
  · rw [hge]
    exact (s.dev.mem_committed m.1).mpr (Or.inr ⟨m, hm, ⟨hdue, hmark⟩, rfl⟩)
  · rw [hge, Dev.committed_marks]
  · rw [hge, Dev.o_settle _ (by decide), Dev.o_setO, if_pos rfl, Dev.areaOf]
  · exact Dev.ShowsOnly.ofGe (frame_shows.settle (Dev.showsOnly_setO _ _ _))
  · exact ((Dev.onlyObjects_updGe _ _ _).setO _ _ (by simp)).settle

/-! ### The job (R343, R356) -/

/-- What a command of the job changes beside objects. -/
def Dev.JobOnly : Dev → Dev → Prop := Dev.Outside fun x => { x with ge := {}, mems := [], result := 0 }

theorem frame_job : Frame Dev.JobOnly := frame_outside _

theorem Dev.jobOnly_updGe (d : Dev) (f : Ge → Ge) : d.JobOnly (d.updGe f) := ⟨rfl, fun _ h => h⟩

theorem Dev.jobOnly_clearMarks (d : Dev) (i lo n : Nat) : d.JobOnly (d.clearMarks i lo n) := ⟨rfl, fun _ h => h⟩

theorem Dev.jobOnly_res (d : Dev) (code : Nat) : d.JobOnly (d.res code) := ⟨rfl, fun _ h => h⟩

theorem Dev.JobOnly.shows {d e : Dev} (h : d.JobOnly e) : ({ d with ge := e.ge, mems := e.mems, result := e.result } : Dev).ShowsOnly e :=
  Dev.showsOnly_iff.mpr ⟨(congrArg (fun x : Dev => ({ x with ge := e.ge, mems := e.mems, result := e.result } : Dev)) h.1 :), h.2⟩

theorem Dev.JobOnly.showsGe {d e : Dev} (h : d.JobOnly e) (hm : e.mems = d.mems) : ({ d with ge := e.ge, result := e.result } : Dev).ShowsOnly e := by
  have := h.shows
  rw [hm] at this
  exact this

/-- A step of the job completes: the hidden state of the ground engine, then JOB_STATE and the result. -/
theorem Dev.jobStep_facts (d : Dev) (f : Ge → Ge) (st : Int) : (((d.updGe f).setO Obj.JOB_STATE st).res 0).settle.result = 0 ∧
    (((d.updGe f).setO Obj.JOB_STATE st).res 0).settle.o Obj.JOB_STATE = st ∧ (((d.updGe f).setO Obj.JOB_STATE st).res 0).settle.ge = f d.ge ∧
    ({ d with ge := (((d.updGe f).setO Obj.JOB_STATE st).res 0).settle.ge, result := (((d.updGe f).setO Obj.JOB_STATE st).res 0).settle.result } : Dev).ShowsOnly
      (((d.updGe f).setO Obj.JOB_STATE st).res 0).settle ∧
    OnlyObjects (fun k => k == Obj.JOB_STATE) d (((d.updGe f).setO Obj.JOB_STATE st).res 0).settle := by
  refine ⟨by simp [Dev.res], ?_, by simp [Dev.updGe], ?_, ?_⟩
  · exact (Dev.o_settle _ (by decide)).trans (Dev.o_setO_same _ _ _)
  · refine Dev.JobOnly.showsGe ?_ (by simp [Dev.updGe])
    exact frame_job.settle (frame_job.trans (frame_job.setO (Dev.jobOnly_updGe _ _) _ _) (Dev.jobOnly_res _ _))
  · exact (((Dev.onlyObjects_updGe _ _ _).setO _ _ (by simp)).of_obj (Dev.res_obj _ _)).settle

theorem jobOpenKeep_opens (s : State) (hserve : s.dev.phase = .service) (hjob : s.dev.o Obj.JOB_STATE = 0) (hstart : s.dev.startBlocked .bom = false) :
    Completes (.jobOpenKeep) s (fun e => e.result = 0 ∧ e.o Obj.JOB_STATE = 3 ∧ e.ge.map = s.dev.ge.map ∧ e.ge.closing = false ∧ ({ s.dev with ge := e.ge, result := e.result } : Dev).ShowsOnly e ∧ OnlyObjects (fun k => k == Obj.JOB_STATE) s.dev e) := by
  have heq : s.dev.jobCtrl 1 = (s.dev.jobOpen.setO Obj.JOB_STATE 3).res 0 := if_neg (by simp [Dev.n, hjob, hstart])
  refine completes_serve_eq _ rfl hserve heq ?_
  obtain ⟨hres, hst, hge, hshow, hobj⟩ := s.dev.jobStep_facts
    (fun g => { g with outsideShown := false, baseShown := false, closing := false, originWaits := s.dev.o Obj.FIELD_LAT == 0 && s.dev.o Obj.FIELD_LON == 0 }) 3
  exact ⟨hres, hst, (congrArg Ge.map hge :), (congrArg Ge.closing hge :), hshow, hobj⟩

/-- The job opened over an empty map (R356). -/
def Dev.jobCleared (d : Dev) : Dev :=
  ((((d.jobOpen.updGe (fun g => { g with map := [], marks := [] })).clearMarks 1 0 gridBase).setO Obj.APPLIED_AREA 0).setO Obj.JOB_STATE 1).res 0

theorem Dev.jobOnly_jobCleared (d : Dev) : d.JobOnly d.jobCleared :=
  frame_job.trans (frame_job.setO (frame_job.setO (frame_job.trans (frame_job.trans (Dev.jobOnly_updGe _ _) (Dev.jobOnly_updGe _ _)) (Dev.jobOnly_clearMarks _ _ _ _)) _ _) _ _) (Dev.jobOnly_res _ _)

theorem Dev.onlyObjects_clearMarks (d : Dev) (i lo n : Nat) (ks : Nat → Bool) : OnlyObjects ks d (d.clearMarks i lo n) := ⟨fun _ _ _ => rfl⟩

theorem Dev.jobCleared_obj (d : Dev) : d.jobCleared.o Obj.JOB_STATE = 1 ∧ d.jobCleared.o Obj.APPLIED_AREA = 0 ∧ OnlyObjects (fun k => k == Obj.JOB_STATE || k == Obj.APPLIED_AREA) d d.jobCleared := by
  unfold Dev.jobCleared
  have hopen : OnlyObjects (fun k => k == Obj.JOB_STATE || k == Obj.APPLIED_AREA) d ((d.jobOpen.updGe (fun g => { g with map := [], marks := [] })).clearMarks 1 0 gridBase) :=
    (Dev.onlyObjects_updGe _ _ _).trans ((Dev.onlyObjects_updGe _ _ _).trans (Dev.onlyObjects_clearMarks _ _ _ _ _))
  generalize (d.jobOpen.updGe _).clearMarks 1 0 gridBase = x at *
  refine ⟨?_, ?_, ((hopen.setO _ _ (by simp)).setO _ _ (by simp)).of_obj (Dev.res_obj _ _)⟩
  · rw [Dev.o_res, Dev.o_setO_same]
  · rw [Dev.o_res, Dev.o_setO_other _ _ (by decide), Dev.o_setO_same]

theorem jobOpenClear_opens (s : State) (hserve : s.dev.phase = .service) (hjob : s.dev.o Obj.JOB_STATE = 0) (hstart : s.dev.startBlocked .bom = false) :
    Completes (.jobOpenClear) s (fun e => e.result = 0 ∧ e.o Obj.JOB_STATE = 1 ∧ e.ge.map = [] ∧ e.ge.marks = [] ∧ e.o Obj.APPLIED_AREA = 0 ∧ ({ s.dev with ge := e.ge, mems := e.mems, result := e.result } : Dev).ShowsOnly e ∧ OnlyObjects (fun k => k == Obj.JOB_STATE || k == Obj.APPLIED_AREA) s.dev e) := by
  have heq : s.dev.jobCtrl 2 = s.dev.jobCleared := if_neg (by simp [Dev.n, hjob, hstart])
  obtain ⟨hst, harea, hobj⟩ := s.dev.jobCleared_obj
  refine completes_serve_eq _ rfl hserve heq ⟨?_, ?_, ?_, ?_, ?_, (frame_job.settle s.dev.jobOnly_jobCleared).shows, hobj.settle⟩
  · simp [Dev.jobCleared, Dev.res]
  · rw [Dev.o_settle _ (by decide), hst]
  · rw [Dev.settle_ge]
    rfl
  · rw [Dev.settle_ge]
    rfl
  · rw [Dev.o_settle _ (by decide), harea]

theorem jobOpenClear_state (s : State) (hserve : s.dev.phase = .service) (hjob : 0 < s.dev.n Obj.JOB_STATE) :
    Completes (.jobOpenClear) s (fun e => e.result = resState ∧ ({ s.dev with result := e.result } : Dev).ShowsOnly e ∧ OnlyObjects (fun _ => false) s.dev e) :=
  completes_serve_result resState rfl hserve (if_pos (Or.inl hjob.ne')) fun _ hr hf ho => ⟨hr, hf, ho⟩

/-- What a save of the job writes to the log (R356). -/
def Dev.saving (d : Dev) : List Nat := ((d.markedIn 1 0 gridBase).flatMap fun w => (List.range 32).map fun i => 32 * w + i).foldl (fun l c => insertOnce c l) d.ge.map

theorem Dev.mem_saving {d : Dev} {c : Nat} (h : c ∈ d.ge.map) : c ∈ d.saving := (mem_foldl_insertOnce _ _ _).mpr (Or.inl h)

theorem Dev.jobSave_eq (d : Dev) (closing : Bool) : d.jobSave closing = (d.updGe fun g => { g with saving := d.saving, closing := closing }).setO Obj.JOB_STATE 2 := rfl

/-- A save of the open job completes (R343, R356). -/
theorem jobSave_starts {c : Instr} {s : State} {f : Dev → Dev} (closing : Bool) (h : exec c s = s.serve f) (hf : f s.dev = (s.dev.jobSave closing).res 0) (hserve : s.dev.phase = .service) :
    Completes c s (fun e => e.result = 0 ∧ e.o Obj.JOB_STATE = 2 ∧ (∀ c ∈ s.dev.ge.map, c ∈ e.ge.saving) ∧ e.ge.closing = closing ∧ ({ s.dev with ge := e.ge, result := e.result } : Dev).ShowsOnly e ∧ OnlyObjects (fun k => k == Obj.JOB_STATE) s.dev e) := by
  refine completes_serve_eq _ h hserve (hf.trans (congrArg (fun d => Dev.res d 0) (Dev.jobSave_eq _ _))) ?_
  obtain ⟨hres, hst, hge, hshow, hobj⟩ := s.dev.jobStep_facts (fun g => { g with saving := s.dev.saving, closing := closing }) 2
  exact ⟨hres, hst, fun c hc => by rw [hge]; exact Dev.mem_saving hc, congrArg Ge.closing hge, hshow, hobj⟩

theorem Dev.jobOpen_state {d : Dev} (h : d.o Obj.JOB_STATE = 1) : d.n Obj.JOB_STATE = 1 := by simp [Dev.n, h]

theorem jobCloseSave_starts (s : State) (hserve : s.dev.phase = .service) (hjob : s.dev.o Obj.JOB_STATE = 1) :
    Completes (.jobCloseSave) s (fun e => e.result = 0 ∧ e.o Obj.JOB_STATE = 2 ∧ (∀ c ∈ s.dev.ge.map, c ∈ e.ge.saving) ∧ e.ge.closing = true ∧ ({ s.dev with ge := e.ge, result := e.result } : Dev).ShowsOnly e ∧ OnlyObjects (fun k => k == Obj.JOB_STATE) s.dev e) :=
  jobSave_starts true rfl (if_neg (not_not.mpr (Dev.jobOpen_state hjob))) hserve

theorem jobSaveNow_starts (s : State) (hserve : s.dev.phase = .service) (hjob : s.dev.o Obj.JOB_STATE = 1) :
    Completes (.jobSaveNow) s (fun e => e.result = 0 ∧ e.o Obj.JOB_STATE = 2 ∧ (∀ c ∈ s.dev.ge.map, c ∈ e.ge.saving) ∧ e.ge.closing = false ∧ ({ s.dev with ge := e.ge, result := e.result } : Dev).ShowsOnly e ∧ OnlyObjects (fun k => k == Obj.JOB_STATE) s.dev e) :=
  jobSave_starts false rfl (if_neg (not_not.mpr (Dev.jobOpen_state hjob))) hserve

theorem jobSavePeriodic_starts (s : State) (hserve : s.dev.phase = .service) (hjob : s.dev.o Obj.JOB_STATE = 1) :
    Completes (.jobSavePeriodic) s (fun e => e.o Obj.JOB_STATE = 2 ∧ (∀ c ∈ s.dev.ge.map, c ∈ e.ge.saving) ∧ e.ge.closing = false ∧ ({ s.dev with ge := e.ge } : Dev).ShowsOnly e ∧ OnlyObjects (fun k => k == Obj.JOB_STATE) s.dev e) := by
  have heq : s.dev.when (s.dev.o Obj.JOB_STATE == 1) (fun d => d.jobSave false) = (s.dev.updGe fun g => { g with saving := s.dev.saving, closing := false }).setO Obj.JOB_STATE 2 := if_pos (by simp [hjob])
  refine completes_serve_eq _ rfl hserve heq ⟨?_, ?_, ?_, ?_, ?_⟩
  · exact (Dev.o_settle _ (by decide)).trans (Dev.o_setO_same _ _ _)
  · rw [Dev.settle_ge]
    exact fun c hc => Dev.mem_saving hc
  · rw [Dev.settle_ge]
    rfl
  · exact Dev.ShowsOnly.ofGe (frame_shows.settle (Dev.showsOnly_setO _ _ _))
  · exact ((Dev.onlyObjects_updGe _ _ _).setO _ _ (by simp)).settle

/-! ### The end of a save and of a rebuild (R356) -/

/-- What a committed save changes beside objects (R356, R451). -/
def Dev.SavedOnly : Dev → Dev → Prop := Dev.Outside fun x => { x with ge := {}, flashJobs := [] }

theorem frame_saved : Frame Dev.SavedOnly := frame_outside _

theorem Dev.SavedOnly.shows {d e : Dev} (h : d.SavedOnly e) : ({ d with ge := e.ge, flashJobs := e.flashJobs } : Dev).ShowsOnly e :=
  Dev.showsOnly_iff.mpr ⟨(congrArg (fun x : Dev => ({ x with ge := e.ge, flashJobs := e.flashJobs } : Dev)) h.1 :), h.2⟩

theorem Dev.savedOnly_updGe (d : Dev) (f : Ge → Ge) : d.SavedOnly (d.updGe f) := ⟨rfl, fun _ h => h⟩

theorem Dev.savedOnly_flash (d : Dev) : d.SavedOnly { d with flashJobs := d.flashJobs ++ [1] } := ⟨rfl, fun _ h => h⟩

/-- The copy of a save to the expansion device shows nothing (R451). -/
theorem Dev.copied_facts (d : Dev) (c : Bool) : (d.when c fun d => { d with flashJobs := d.flashJobs ++ [1] }).obj = d.obj ∧
    (d.when c fun d => { d with flashJobs := d.flashJobs ++ [1] }).ge = d.ge ∧ ∀ x, d.raised x → (d.when c fun d => { d with flashJobs := d.flashJobs ++ [1] }).raised x := by
  cases c <;> exact ⟨rfl, rfl, fun _ h => h⟩

theorem Dev.RaisesOnly.ge {d e : Dev} (h : d.RaisesOnly e) : e.ge = d.ge := by
  obtain ⟨c, hc⟩ := h
  exact hc.ge

theorem bomJobSaved_committed (s : State) (halive : s.dev.alive = true) (hjob : s.dev.o Obj.JOB_STATE = 2) :
    Completes (.bomJobSaved true) s (fun e => e.o Obj.JOB_STATE = (if s.dev.ge.closing then 0 else 1) ∧ e.ge = { s.dev.ge with stored := s.dev.ge.saving, saving := [], closing := false } ∧ e.raised 0xB8 ∧ ({ s.dev with ge := e.ge, flashJobs := e.flashJobs } : Dev).ShowsOnly e ∧ OnlyObjects (fun k => k == Obj.JOB_STATE || isTraceCount k) s.dev e) := by
  have heq : s.dev.jobSaved true = (((s.dev.updGe fun g => { g with stored := g.saving, saving := [], closing := false }).setO Obj.JOB_STATE (if s.dev.ge.closing then 0 else 1)).event 0xB8).when
      (s.dev.b Obj.XP_ENABLE && [1, 3].contains (s.dev.n Obj.XP_STATE)) (fun d => { d with flashJobs := d.flashJobs ++ [1] }) := (if_neg (not_not.mpr hjob)).trans (if_pos rfl)
  refine completes_live_eq _ rfl halive heq ?_
  clear heq
  generalize (if s.dev.ge.closing then (0 : Int) else 1) = st
  have hge : (s.dev.updGe fun g => { g with stored := g.saving, saving := [], closing := false }).ge = { s.dev.ge with stored := s.dev.ge.saving, saving := [], closing := false } := rfl
  have hframe := s.dev.savedOnly_updGe fun g => { g with stored := g.saving, saving := [], closing := false }
  have hobj := s.dev.onlyObjects_updGe (fun g => { g with stored := g.saving, saving := [], closing := false }) fun k => k == Obj.JOB_STATE || isTraceCount k
  generalize (s.dev.updGe _) = x at *
  obtain ⟨hcobj, hcge, hraised⟩ := ((x.setO Obj.JOB_STATE st).event 0xB8).copied_facts (s.dev.b Obj.XP_ENABLE && [1, 3].contains (s.dev.n Obj.XP_STATE))
  refine ⟨?_, ?_, ?_, (frame_saved.settle (frame_saved.when (frame_saved.event (frame_saved.setO hframe _ _) _) _ Dev.savedOnly_flash)).shows, ?_⟩
  · rw [Dev.o_settle _ (by decide), Dev.o, hcobj]
    exact (Dev.o_event _ _ (by decide)).trans (Dev.o_setO_same _ _ _)
  · rw [Dev.settle_ge, hcge]
    simpa using hge
  · exact (Dev.raised_settle_iff _ _).mpr (hraised _ (by simp))
  · exact (((hobj.setO _ _ (by simp)).event _ (by simp +contextual)).of_obj hcobj).settle

theorem bomJobSaved_failed (s : State) (halive : s.dev.alive = true) (hjob : s.dev.o Obj.JOB_STATE = 2) :
    Completes (.bomJobSaved false) s (fun e => e.o Obj.JOB_STATE = 1 ∧ e.ge = { s.dev.ge with saving := [], closing := false } ∧ e.raised 0xB9 ∧ e.coll.log.getLast?.map LogRec.code = some 0x8037 ∧ ({ s.dev with ge := e.ge } : Dev).RaisesOnly e ∧ OnlyObjects (fun k => k == Obj.JOB_STATE || isReaction k) s.dev e) := by
  have heq : s.dev.jobSaved false = (((s.dev.updGe fun g => { g with saving := [], closing := false }).setO Obj.JOB_STATE 1).event 0xB9).raise 0x8037 false { ini := 0x02, acc := 2 } :=
    (if_neg (not_not.mpr hjob)).trans (if_neg (by decide))
  refine completes_live_eq _ rfl halive heq ?_
  clear heq
  have hrest := frame_raises.settle (frame_raises.raise (frame_raises.event (frame_raises.setO (frame_raises.refl (s.dev.updGe fun g => { g with saving := [], closing := false })) Obj.JOB_STATE 1) 0xB9) 0x8037 false { ini := 0x02, acc := 2 })
  have hge : (s.dev.updGe fun g => { g with saving := [], closing := false }).ge = { s.dev.ge with saving := [], closing := false } := rfl
  have hobj := s.dev.onlyObjects_updGe (fun g => { g with saving := [], closing := false }) fun k => k == Obj.JOB_STATE || isReaction k
  have hx : ({ s.dev with ge := (s.dev.updGe fun g => { g with saving := [], closing := false }).ge } : Dev) = s.dev.updGe fun g => { g with saving := [], closing := false } := rfl
  generalize (s.dev.updGe _) = x at *
  have hlater : OnlyObjects isReaction (x.setO Obj.JOB_STATE 1) (((x.setO Obj.JOB_STATE 1).event 0xB9).raise 0x8037 false { ini := 0x02, acc := 2 }).settle :=
    (((OnlyObjects.refl _).event _ fun _ => isReaction_trace).raise _ _ _ fun _ h => h).settle
  refine ⟨?_, ?_, ?_, ?_, ?_, ?_⟩
  · rw [hlater.same _ (by decide) (by decide), Dev.o_setO_same]
  · rw [hrest.ge, hge]
  · exact (Dev.raised_settle_iff _ _).mpr (Dev.raised_raise (by simp) _ _ _)
  · simpa using Dev.lastCode_raise _ _ _ (by decide)
  · rw [hrest.ge, hx]
    exact hrest
  · exact (hobj.setO _ _ (by simp)).trans (hlater.mono fun k h => by simp [h])

theorem mapRebuildDone_rebuilt (s : State) (halive : s.dev.alive = true) (hjob : s.dev.o Obj.JOB_STATE = 3) :
    Completes (.mapRebuildDone) s (fun e => e.o Obj.JOB_STATE = 1 ∧ e.ge = { s.dev.ge with map := s.dev.ge.stored } ∧ e.o Obj.APPLIED_AREA = satU32 ((s.dev.ge.stored.length : Int) * s.dev.o Obj.CELL_SIZE * s.dev.o Obj.CELL_SIZE / 1000000) ∧
      ({ s.dev with ge := e.ge } : Dev).ShowsOnly e ∧ OnlyObjects (fun k => k == Obj.JOB_STATE || k == Obj.APPLIED_AREA) s.dev e) := by
  have heq : s.dev.when (s.dev.o Obj.JOB_STATE == 3) (fun d => ((d.updGe (fun g => { g with map := g.stored })).setO Obj.JOB_STATE 1).setO Obj.APPLIED_AREA
      (satU32 ((d.ge.stored.length : Int) * d.o Obj.CELL_SIZE * d.o Obj.CELL_SIZE / 1000000))) =
      ((s.dev.updGe (fun g => { g with map := g.stored })).setO Obj.JOB_STATE 1).setO Obj.APPLIED_AREA (s.dev.areaOf s.dev.ge.stored.length) := if_pos (by simp [hjob])
  refine completes_live_eq _ rfl halive heq ⟨?_, ?_, ?_, ?_, ?_⟩
  · rw [Dev.o_settle _ (by decide), Dev.o_setO_other _ _ (by decide), Dev.o_setO_same]
  · rw [Dev.settle_ge]
    rfl
  · rw [Dev.o_settle _ (by decide), Dev.o_setO_same, Dev.areaOf]
  · exact Dev.ShowsOnly.ofGe (frame_shows.settle (frame_shows.setO (Dev.showsOnly_setO _ _ _) _ _))
  · exact (((Dev.onlyObjects_updGe _ _ _).setO _ _ (by simp)).setO _ _ (by simp)).settle

/-! ### The blocks of the field (R346 to R348) -/

/-- What a write of a block changes beside objects. -/
def Dev.BlockOnly : Dev → Dev → Prop := Dev.Outside fun x => { x with blk := [], mems := [], result := 0 }

theorem frame_block : Frame Dev.BlockOnly := frame_outside _

theorem Dev.BlockOnly.shows {d e : Dev} (h : d.BlockOnly e) : ({ d with blk := e.blk, mems := e.mems, result := e.result } : Dev).ShowsOnly e :=
  Dev.showsOnly_iff.mpr ⟨(congrArg (fun x : Dev => ({ x with blk := e.blk, mems := e.mems, result := e.result } : Dev)) h.1 :), h.2⟩

theorem Dev.blockOnly_res (d : Dev) (code : Nat) : d.BlockOnly (d.res code) := ⟨rfl, fun _ h => h⟩

/-- A block stored with the marks of its words gone and its status shown (R347). -/
def Dev.blockStored (d : Dev) (key status : Nat) (b : Bytes) (base : Nat) : Dev :=
  ((d.setBlk key b).clearMarks 1 base (wordsOf b.length)).setO status (if b.isEmpty then 0 else 1)

theorem Dev.blockStored_facts (d : Dev) (key status : Nat) (b : Bytes) (base : Nat) : (d.blockStored key status b base).block key = b ∧
    (d.blockStored key status b base).o status = (if b.isEmpty then 0 else 1) ∧ d.BlockOnly (d.blockStored key status b base) ∧
    OnlyObjects (fun k => k == status) d (d.blockStored key status b base) := by
  refine ⟨Tab.get_set_same _ _ _ _, Dev.o_setO_same _ _ _, ?_, ?_⟩
  · exact frame_block.setO (show d.BlockOnly ((d.setBlk key b).clearMarks 1 base (wordsOf b.length)) from ⟨rfl, fun _ h => h⟩) _ _
  · exact OnlyObjects.setO (⟨fun _ _ _ => rfl⟩ : OnlyObjects _ d ((d.setBlk key b).clearMarks 1 base (wordsOf b.length))) _ _ (by simp)

theorem Dev.block_settle (d : Dev) (k : Nat) : d.settle.block k = d.block k := by simp [Dev.block]

theorem rxGridWrite_stored (s : State) (b : Bytes) (hserve : s.dev.phase = .service) (hok : gridOk b = true) :
    Completes (.rxGridWrite b) s (fun e => e.result = 0 ∧ e.block Obj.RX_GRID = b ∧ e.o Obj.RX_STATUS = (if b.isEmpty then 0 else 1) ∧ ({ s.dev with blk := e.blk, mems := e.mems, result := e.result } : Dev).ShowsOnly e ∧ OnlyObjects (fun k => k == Obj.RX_STATUS) s.dev e) := by
  have heq : s.dev.gridWrite b = (s.dev.blockStored Obj.RX_GRID Obj.RX_STATUS b gridBase).res 0 := if_neg (by simp [hok])
  refine completes_serve_eq _ rfl hserve heq ?_
  clear heq
  obtain ⟨hblk, hst, hframe, hobj⟩ := s.dev.blockStored_facts Obj.RX_GRID Obj.RX_STATUS b gridBase
  generalize s.dev.blockStored Obj.RX_GRID Obj.RX_STATUS b gridBase = x at *
  refine ⟨by simp [Dev.res], ?_, ?_, (frame_block.settle (frame_block.trans hframe (x.blockOnly_res 0))).shows, (hobj.of_obj (Dev.res_obj _ _)).settle⟩
  · rw [Dev.block_settle]
    exact hblk
  · rw [Dev.o_settle _ (by decide), Dev.o_res, hst]

theorem Dev.raises_causeGone (d : Dev) (code : Nat) : d.RaisesOnly (d.causeGone code) := Dev.raisesOnly_iff.mpr ⟨rfl, fun _ h => h⟩

theorem boundariesWrite_stored (s : State) (b : Bytes) (hserve : s.dev.phase = .service) (hok : boundariesOk b = true) :
    Completes (.boundariesWrite b) s (fun e => e.result = 0 ∧ e.block Obj.BOUNDARIES = b ∧ e.o Obj.BOUNDARY_STATUS = (if b.isEmpty then 0 else 1) ∧ ({ s.dev with blk := e.blk, mems := e.mems, result := e.result } : Dev).RaisesOnly e ∧ OnlyObjects (fun k => k == Obj.BOUNDARY_STATUS) s.dev e) := by
  have heq : s.dev.boundariesWrite b = ((s.dev.blockStored Obj.BOUNDARIES Obj.BOUNDARY_STATUS b boundaryBase).causeGone 0x8236).res 0 := if_neg (by simp [hok])
  refine completes_serve_eq _ rfl hserve heq ?_
  clear heq
  obtain ⟨hblk, hst, hframe, hobj⟩ := s.dev.blockStored_facts Obj.BOUNDARIES Obj.BOUNDARY_STATUS b boundaryBase
  generalize s.dev.blockStored Obj.BOUNDARIES Obj.BOUNDARY_STATUS b boundaryBase = x at *
  have hends : ({ s.dev with blk := x.blk, mems := x.mems, result := 0 } : Dev).RaisesOnly ((x.res 0).causeGone 0x8236).settle :=
    frame_raises.settle (frame_raises.trans (Dev.BlockOnly.shows (frame_block.trans hframe (x.blockOnly_res 0))).raises (Dev.raises_causeGone _ _))
  refine ⟨by simp [Dev.res], ?_, ?_, ?_, ((hobj.of_obj (Dev.causeGone_obj _ _)).of_obj (Dev.res_obj _ _)).settle⟩
  · rw [Dev.block_settle]
    exact hblk
  · rw [Dev.o_settle _ (by decide), Dev.o_res]
    exact hst
  · simp only [Dev.settle_blk, Dev.settle_mems, Dev.settle_result]
    exact hends

theorem rxGridWrite_refused (s : State) (b : Bytes) (hserve : s.dev.phase = .service) (hbad : gridOk b = false) :
    Completes (.rxGridWrite b) s (fun e => (e.result = 0x30000003 ∨ e.result = 0x30000001) ∧ ({ s.dev with result := e.result } : Dev).ShowsOnly e ∧ OnlyObjects (fun _ => false) s.dev e) :=
  completes_serve_result _ rfl hserve (if_pos (by simp [hbad])) fun _ hr hf ho => ⟨hr ▸ (ite_eq_or_eq _ _ _), hf, ho⟩

theorem boundariesWrite_refused (s : State) (b : Bytes) (hserve : s.dev.phase = .service) (hbad : boundariesOk b = false) :
    Completes (.boundariesWrite b) s (fun e => (e.result = 0x30000003 ∨ e.result = 0x30000001) ∧ ({ s.dev with result := e.result } : Dev).ShowsOnly e ∧ OnlyObjects (fun _ => false) s.dev e) :=
  completes_serve_result _ rfl hserve (if_pos (by simp [hbad])) fun _ hr hf ho => ⟨hr ▸ (ite_eq_or_eq _ _ _), hf, ho⟩

/-! ### MASTER and ROW_ENABLE (R352) -/

theorem masterWrite_kept (s : State) (v : Int) (hserve : s.dev.phase = .service) (hv : v = 0 ∨ (v = 1 ∧ s.dev.fuseBars [] = false ∧ s.dev.startBlocked .bom = false)) :
    Completes (.masterWrite v) s (fun e => e.result = 0 ∧ e.writes = s.dev.writes ++ [{ key := Obj.MASTER, val := v }] ∧ ({ s.dev with writes := e.writes, result := e.result } : Dev).ShowsOnly e ∧ OnlyObjects (fun _ => false) s.dev e) := by
  refine completes_serve_delivered Obj.MASTER v rfl hserve ?_ fun _ hr hw hf ho => ⟨hr, hw, hf, ho⟩
  obtain rfl | ⟨rfl, hfuse, hstart⟩ := hv
  · exact (if_neg (by decide)).trans ((if_neg (by decide)).trans (if_neg fun h => absurd h.1 (by decide)))
  · exact (if_pos rfl).trans ((Dev.allowed_eq hfuse _).trans ((if_neg (by decide)).trans (if_neg (by rw [hstart]; decide))))

theorem rowEnableWrite_kept (s : State) (n : Fin 128) (v : Bool) (hserve : s.dev.phase = .service) :
    Completes (.rowEnableWrite n v) s (fun e => e.result = 0 ∧ e.writes = s.dev.writes ++ [{ key := el Obj.ROW_ENABLE (n.val + 1), val := b2i v }] ∧ ({ s.dev with writes := e.writes, result := e.result } : Dev).ShowsOnly e ∧ OnlyObjects (fun _ => false) s.dev e) :=
  completes_serve_delivered (el Obj.ROW_ENABLE (n.val + 1)) (b2i v) rfl hserve rfl fun _ hr hw hf ho => ⟨hr, hw, hf, ho⟩

/-- Settles O36: the map, the job, the blocks of the field and the writes of MASTER and ROW_ENABLE, clause by clause. -/
theorem jobsAndRows : Obligations.JobsAndRows :=
  ⟨coverageMarkCommit_writes, jobOpenKeep_opens, jobOpenClear_opens, jobOpenClear_state, jobCloseSave_starts, jobSaveNow_starts, jobSavePeriodic_starts,
    bomJobSaved_committed, bomJobSaved_failed, mapRebuildDone_rebuilt, boundariesWrite_stored, boundariesWrite_refused, rxGridWrite_stored, rxGridWrite_refused,
    masterWrite_kept, rowEnableWrite_kept⟩

end Sys2Proof.Machine
end

section
/-! The boom chains, O37 (R354, R374, R375). -/

namespace Sys2Proof.Machine

/-- Chain 0 runs with one node, whose ROW holds a number far beyond the rows and to which one dose has been sent. -/
def strayRow : State := { pending := [], dev := { State.reset.dev with
  phase := .service, chains := [(0, { up := true })], nodes := [(1, { out := [(0, 0, 0)] })],
  obj := [(at' Obj.NODES_CFG 0, 1), (at' Obj.STATE_9000 0, 2), (at' Obj.LOSS_CYCLES 0, 1), (el Obj.NODE_STATE 1, 3), (el Obj.ROW 1, 0xD00001 - Obj.MISSED_8082 + 1)] } }

/-- The loss of the chain writes the dose off at the element that ROW names, outside the dictionary's rows (R374). -/
theorem returnMissing_stray : (strayRow.dev.returnMissing 0).o 0xD00001 = 1 := by
  decide +kernel

/-- Refutes O37: the clause on the loss of a chain allows objects of the chapters 8000 and 9000 only, and no premise bounds ROW of a lost node,
at whose element of MISSED its open doses are counted. -/
theorem not_boomChains : ¬ Obligations.BoomChains := by
  unfold Obligations.BoomChains
  intro h
  obtain ⟨-, -, -, -, hloss, -⟩ := h
  obtain ⟨t, hexec, -, -, -, -, -, -, hobj⟩ := hloss strayRow 0 (by decide) (by decide) (by decide) (by decide) (by decide)
  have hrun : exec (.chainReturnTimeout 0) strayRow = .next { strayRow with dev := (strayRow.dev.returnMissing 0).settle } := rfl
  rw [hrun] at hexec
  cases hexec
  have hsettle := (Dev.o_settle (strayRow.dev.returnMissing 0) (k := 0xD00001) (by decide)).trans returnMissing_stray
  exact absurd (hsettle.symm.trans (hobj.same 0xD00001 (by decide) (by decide))) (by decide)

end Sys2Proof.Machine
end

section
/-! Bus-off, the Ethernet link, discarded units, ARP and echo, O38 (R385, R387). -/

namespace Sys2Proof.Machine

/-- What a bus-off leaves beside objects, faults and events: the port is out of use (R387). -/
def Dev.busOffNow (d : Dev) (port : Nat) : Dev :=
  let at_ := (port, d.wall) :: d.busOffAt.filter (fun e => decide (d.wall < e.2 + 10000000000))
  let third := decide (3 ≤ (at_.filter (fun e => e.1 == port)).length)
  { d with busOff := insertOnce port d.busOff, busOffAt := at_, busSlow := if third then insertOnce port d.busSlow else d.busSlow }

theorem canBusOff_out (s : State) (port : Fin 2) (hserve : s.dev.phase = .service) :
    Completes (.canBusOff port) s (fun e => port.val ∈ e.busOff ∧ e.raised 0xDB ∧
      ({ s.dev with busOff := e.busOff, busOffAt := e.busOffAt, busSlow := e.busSlow } : Dev).RaisesOnly e) := by
  have heq : s.dev.busOffNow port = ({ s.dev with busOff := (s.dev.busOffNow port).busOff, busOffAt := (s.dev.busOffNow port).busOffAt, busSlow := (s.dev.busOffNow port).busSlow } : Dev) := rfl
  have hmem : port.val ∈ (s.dev.busOffNow port).busOff := mem_insertOnce.mpr (Or.inl rfl)
  refine completes_serve_eq ((((s.dev.busOffNow port).addSat (if port.val = 0 then Obj.CANA_BUSOFF else Obj.CANB_BUSOFF)).event 0xDB).raiseOn 0x90D1 .sys false { ini := 0x02, acc := 6 }) rfl hserve rfl ?_
  generalize (if port.val = 0 then Obj.CANA_BUSOFF else Obj.CANB_BUSOFF) = key
  generalize s.dev.busOffNow port = x at *
  have hrest := frame_raises.settle (frame_raises.raiseOn (frame_raises.event (frame_raises.addSat (frame_raises.refl x) key 1) 0xDB) 0x90D1 .sys false { ini := 0x02, acc := 6 })
  have hall := hrest
  obtain ⟨c, hc⟩ := hrest
  refine ⟨by rw [hc.busOff]; exact hmem, ?_, ?_⟩
  · exact (Dev.raised_settle_iff _ _).mpr (Dev.raised_raiseOn (by simp) _ _ _ _)
  · rw [hc.busOff, hc.busOffAt, hc.busSlow, ← heq]
    exact hall

theorem busOffRecovery_back (s : State) (port : Fin 2) (hserve : s.dev.phase = .service) :
    Completes (.busOffRecovery port) s (fun e => port.val ∉ e.busOff ∧
      ({ s.dev with busOff := e.busOff } : Dev).ShowsOnly e ∧ OnlyObjects (fun _ => false) s.dev e) := by
  refine completes_serve_eq { s.dev with busOff := s.dev.busOff.filter (· != port.val) } rfl hserve rfl ⟨by simp, ?_, ?_⟩
  · rw [Dev.settle_busOff]
    exact frame_shows.settle (frame_shows.refl _)
  · exact OnlyObjects.settle ⟨fun _ _ _ => rfl⟩

theorem netEthLink_up (s : State) (hserve : s.dev.phase = .service) (hdown : s.dev.b Obj.ETH_LINK = false) :
    Completes (.netEthLink true) s (fun e => e.o Obj.ETH_LINK = 1 ∧ e.raised 0xDC ∧ s.dev.ShowsOnly e ∧
      OnlyObjects (fun k => k == Obj.ETH_LINK || isTraceCount k) s.dev e) := by
  refine completes_serve_eq ((s.dev.setB Obj.ETH_LINK true).event 0xDC) rfl hserve ?_ ⟨?_, by simp, ?_, ?_⟩
  · exact if_neg (by rw [hdown]; decide)
  · rw [Dev.o_settle _ (by decide), Dev.o_event _ _ (by decide)]
    exact Dev.o_setO_same _ _ _
  · exact frame_shows.settle (frame_shows.event (frame_shows.setB (frame_shows.refl _) _ _) _)
  · exact (((OnlyObjects.refl _).setB _ _ (by simp)).event _ (by simp +contextual)).settle

theorem netEthLink_down (s : State) (hserve : s.dev.phase = .service) (hup : s.dev.b Obj.ETH_LINK = true) :
    Completes (.netEthLink false) s (fun e => e.raised 0xDC ∧ s.dev.RaisesOnly e) := by
  refine completes_serve_eq (((s.dev.setB Obj.ETH_LINK false).event 0xDC).raiseOn 0x90D5 .sys false { ini := 0x02, acc := 6 }) rfl hserve ?_ ⟨?_, ?_⟩
  · exact if_neg (by rw [hup]; decide)
  · exact (Dev.raised_settle_iff _ _).mpr (Dev.raised_raiseOn (by simp) _ _ _ _)
  · exact frame_raises.settle (frame_raises.raiseOn (frame_raises.event (frame_raises.setB (frame_raises.refl _) _ _) _) _ _ _ _)

theorem unitDiscard_counted (s : State) (hserve : s.dev.phase = .service) :
    Completes .unitDiscard s (fun e => e.o Obj.UNIT_DISCARDS = satU32 (s.dev.o Obj.UNIT_DISCARDS + 1) ∧ s.dev.ShowsOnly e ∧
      OnlyObjects (fun k => k == Obj.UNIT_DISCARDS) s.dev e) := by
  refine completes_serve_eq (s.dev.addSat Obj.UNIT_DISCARDS) rfl hserve rfl ⟨?_, ?_, ?_⟩
  · rw [Dev.o_settle _ (by decide)]
    exact Dev.o_setO_same _ _ _
  · exact frame_shows.settle (frame_shows.addSat (frame_shows.refl _) _ _)
  · exact ((OnlyObjects.refl _).addSat _ _ (by simp)).settle

/-- A frame sent over Ethernet is all that an answer changes (R385). -/
theorem ethSent_answers {c : Instr} {s : State} {f : Dev → Dev} (m : Nat × Bytes) (h : exec c s = s.serve f) (hserve : s.dev.phase = .service) (hf : f s.dev = { s.dev with ethSent := some m }) :
    Completes c s (fun e => e.ethSent = some m ∧ ({ s.dev with ethSent := e.ethSent } : Dev).ShowsOnly e ∧ OnlyObjects (fun _ => false) s.dev e) := by
  refine completes_serve_eq _ h hserve hf ⟨by simp, ?_, ?_⟩
  · rw [Dev.settle_ethSent]
    exact frame_shows.settle (frame_shows.refl _)
  · exact OnlyObjects.settle ⟨fun _ _ _ => rfl⟩

theorem requests_answered (s : State) (ip : Nat) (hserve : s.dev.phase = .service) (hlink : s.dev.b Obj.ETH_LINK = true) (hport : s.dev.portOff .eth = false) (hip : ip = s.dev.n Obj.IP_ADDR) :
    Completes (.arpRequest ip) s (fun e => e.ethSent = some (1, leBytes 4 ip) ∧ ({ s.dev with ethSent := e.ethSent } : Dev).ShowsOnly e ∧
      OnlyObjects (fun _ => false) s.dev e) ∧
    ∀ payload, Completes (.icmpEchoRequest ip payload) s (fun e => e.ethSent = some (2, payload) ∧
      ({ s.dev with ethSent := e.ethSent } : Dev).ShowsOnly e ∧ OnlyObjects (fun _ => false) s.dev e) := by
  have hown : (s.dev.b Obj.ETH_LINK && !(s.dev.portOff .eth) && ip == s.dev.n Obj.IP_ADDR) = true := by simp [hlink, hport, hip]
  exact ⟨ethSent_answers _ rfl hserve (if_pos hown), fun _ => ethSent_answers _ rfl hserve (if_pos hown)⟩

/-- Settles O38: bus-off and its recovery, the Ethernet link, discards, and the answers to ARP and echo requests. -/
theorem portConditions : Obligations.PortConditions :=
  ⟨canBusOff_out, busOffRecovery_back, netEthLink_up, netEthLink_down, unitDiscard_counted, requests_answered⟩

end Sys2Proof.Machine
end

section
/-! Timers and ends of sessions, and the sending of notifications, O39 (R391, R394 to R396, R408, R409). -/

namespace Sys2Proof.Machine

/-! ### The timers (R391, R394, R395) -/

theorem stagingTimeout_dropped (s : State) (n : Fin 8) (hserve : s.dev.phase = .service) :
    Completes (.stagingTimeout n) s (fun e => e.sess (n + 1) = { s.dev.sess (n + 1) with staging := none } ∧ ({ s.dev with sessions := e.sessions } : Dev).ShowsOnly e ∧ OnlyObjects (fun _ => false) s.dev e) := by
  refine completes_serve_eq (s.dev.updSess (n.val + 1) (fun x => { x with staging := none })) rfl hserve rfl ⟨?_, ?_, ?_⟩
  · simp [Dev.sess, Dev.updSess]
  · rw [Dev.settle_sessions]
    exact frame_shows.settle (frame_shows.refl _)
  · exact OnlyObjects.settle ⟨fun _ _ _ => rfl⟩

theorem sourceBarExpiry_gone (s : State) (path : Path) (source : Nat) (hserve : s.dev.phase = .service) :
    Completes (.sourceBarExpiry path source) s (fun e => e.barred.contains (pathNum path, source) = false ∧ (∀ x ∈ s.dev.barred, x ≠ (pathNum path, source) → x ∈ e.barred) ∧ ({ s.dev with barred := e.barred } : Dev).ShowsOnly e ∧ OnlyObjects (fun _ => false) s.dev e) := by
  refine completes_serve_eq { s.dev with barred := s.dev.barred.filter (· != (pathNum path, source)) } rfl hserve rfl ⟨?_, ?_, ?_, ?_⟩
  · simp
  · simp +contextual [List.mem_filter]
  · rw [Dev.settle_barred]
    exact frame_shows.settle (frame_shows.refl _)
  · exact OnlyObjects.settle ⟨fun _ _ _ => rfl⟩

theorem notifyTransmit_leaves (s : State) (eth : Bool) (m : NoteMsg) (r : List NoteMsg) (hserve : s.dev.phase = .service) (hpool : s.dev.pool = m :: r) (hpath : m.path = (if eth then 2 else 1)) :
    Completes (.notifyTransmit eth) s (fun e => e.pool = r ∧ ({ s.dev with pool := e.pool } : Dev).ShowsOnly e ∧ OnlyObjects (fun _ => false) s.dev e) := by
  have hdrop : dropFirst (fun x => x.path == (if eth then 2 else 1)) s.dev.pool = r := by
    rw [hpool]
    exact if_pos (by simp [hpath])
  refine completes_serve_eq { s.dev with pool := r } rfl hserve (by rw [hdrop]) ⟨by simp, ?_, ?_⟩
  · rw [Dev.settle_pool]
    exact frame_shows.settle (frame_shows.refl _)
  · exact OnlyObjects.settle ⟨fun _ _ _ => rfl⟩

/-! ### The ends of sessions (R394, R396) -/

theorem el_role_mem (n : Nat) : el Obj.SESSION_STATE n ∈ sessKeys n ∧ el Obj.SESSION_ROLE n ∈ sessKeys n := by simp [sessKeys]

theorem sessState_keeps {n : Nat} (h : n < 8) : isStatus (el Obj.SESSION_STATE (n + 1)) = false ∧ isStatus (el Obj.SESSION_ROLE (n + 1)) = false ∧ el Obj.SESSION_STATE (n + 1) ≠ Obj.IMG_STATE ∧
    el Obj.SESSION_ROLE (n + 1) ≠ Obj.IMG_STATE := by
  interval_cases n <;> decide

theorem authTimeout_freed (s : State) (n : Fin 8) (hserve : s.dev.phase = .service) (hopening : s.dev.sessState (n + 1) = 1) :
    Completes (.authTimeout n) s (fun e => e.o (el Obj.SESSION_STATE (n + 1)) = 0 ∧ e.o (el Obj.SESSION_ROLE (n + 1)) = 0 ∧ e.sess (n + 1) = {} ∧ (∀ x ∈ e.evq, x ∈ s.dev.evq) ∧ s.dev.SessEnd e ∧ OnlyObjects (fun k => isSession k || isTraceCount k) s.dev e) := by
  obtain ⟨hs1, hs2, hi1, hi2⟩ := sessState_keeps n.isLt
  obtain ⟨hm1, hm2⟩ := el_role_mem (n + 1)
  refine completes_serve_eq (s.dev.freeSession (n + 1)) rfl hserve (if_pos (by simp [hopening])) ⟨?_, ?_, ?_, ?_, ?_, ?_⟩
  · rw [Dev.o_settle _ hs1, Dev.o_freeSession_of_mem _ hm1 hi1]
  · rw [Dev.o_settle _ hs2, Dev.o_freeSession_of_mem _ hm2 hi2]
  · rw [Dev.sess, Dev.settle_sessions]
    exact (s.dev.freeSession_sess _ _).trans (if_pos rfl)
  · simp
  · exact frame_sessEnd.settle (Dev.sessEnd_freeSession _ _)
  · exact (Dev.onlyObjects_freeSession (by simp +contextual) _ (by omega) (by omega)).settle

/-- The end of a session's maps clears the ENABLE of each (R396). -/
theorem Dev.o_disableMaps_of (d : Dev) {n i : Nat} (hi : i < 64) (h : d.n (at' Obj.SESSION i) = n) : (d.disableMaps n).o (at' Obj.ENABLE_1800 i) = 0 := by
  have key (l : List Nat) (d : Dev) (h : d.n (at' Obj.SESSION i) = n) (hm : i ∈ l ∨ d.o (at' Obj.ENABLE_1800 i) = 0) :
      (l.foldl (fun d i => d.when (d.n (at' Obj.SESSION i) == n) (fun d => d.setO (at' Obj.ENABLE_1800 i) 0)) d).o (at' Obj.ENABLE_1800 i) = 0 := by
    induction l generalizing d with
    | nil => exact hm.resolve_left (by simp)
    | cons j l ih =>
      have hkeep : (d.when (d.n (at' Obj.SESSION j) == n) (fun d => d.setO (at' Obj.ENABLE_1800 j) 0)).n (at' Obj.SESSION i) = n := by
        refine (Dev.n_eq ?_).trans h
        unfold Dev.when
        split
        · exact Dev.o_setO_other _ _ (by simp only [at', Obj.SESSION, Obj.ENABLE_1800]; omega)
        · rfl
      refine ih _ hkeep ?_
      by_cases hij : i ∈ l
      · exact Or.inl hij
      · refine Or.inr ?_
        have hz : i = j ∨ d.o (at' Obj.ENABLE_1800 i) = 0 := hm.imp_left fun hmem => (List.mem_cons.mp hmem).resolve_right hij
        change (d.when (d.n (at' Obj.SESSION j) == n) (fun d => d.setO (at' Obj.ENABLE_1800 j) 0)).o (at' Obj.ENABLE_1800 i) = 0
        rcases hz with rfl | hz
        · simp [Dev.when, h]
        · unfold Dev.when
          split
          · rw [Dev.o_setO]
            split
            · rfl
            · exact hz
          · exact hz
  exact key _ d h (Or.inl (List.mem_range.mpr hi))

/-- An open session closed (R396). -/
theorem closeSession_facts (d : Dev) {n : Nat} (hn : 1 ≤ n ∧ n ≤ 8) (hopen : d.sessState n = 2) : (d.closeSession n).o (el Obj.SESSION_STATE n) = 0 ∧ (d.closeSession n).sess n = {} ∧
    (∀ k : Fin 64, d.n (at' Obj.SESSION k) = n → (d.closeSession n).o (at' Obj.ENABLE_1800 k) = 0) ∧ (d.closeSession n).raised 0xD7 := by
  obtain ⟨hsess, hst⟩ := d.closed_closeSession hn.2
  have heq : d.closeSession n = ((d.freeSession n).disableMaps n).event 0xD7 := if_pos hopen
  refine ⟨hst, hsess, fun k hk => ?_, ?_⟩
  · have hmap : (d.freeSession n).n (at' Obj.SESSION k) = n := by
      refine (Dev.n_eq (Dev.o_freeSession_other _ _ (fun hmem => ?_) ?_)).trans hk
      · rcases sessKeys_index hn.1 hn.2 hmem with h | h | h | h <;> revert h <;> generalize k = j <;> revert j <;> decide
      · generalize k = j
        revert j
        decide
    rw [heq, Dev.o_event _ _ ?_, Dev.o_disableMaps_of _ k.isLt hmap]
    generalize k = j
    revert j
    decide
  · rw [heq]
    simp

theorem sessionIdleTimeout_closed (s : State) (n : Fin 8) (hserve : s.dev.phase = .service) (hopen : s.dev.sessState (n + 1) = 2) :
    Completes (.sessionIdleTimeout n) s (fun e => e.o (el Obj.SESSION_STATE (n + 1)) = 0 ∧ e.sess (n + 1) = {} ∧ (∀ k : Fin 64, s.dev.n (at' Obj.SESSION k) = n + 1 → e.o (at' Obj.ENABLE_1800 k) = 0) ∧ e.raised 0xD7 ∧ s.dev.SessEnd e ∧ OnlyObjects (fun k => isSession k || isTraceCount k) s.dev e) := by
  have hn : 1 ≤ n.val + 1 ∧ n.val + 1 ≤ 8 := by omega
  obtain ⟨hst, hsess, hmaps, hev⟩ := closeSession_facts s.dev hn hopen
  refine completes_serve_eq (s.dev.closeSession (n + 1)) rfl hserve (if_pos (by simp [hopen])) ⟨?_, ?_, fun k hk => ?_, ?_, ?_, ?_⟩
  · rw [Dev.o_settle _ (sessState_keeps n.isLt).1, hst]
  · rw [Dev.sess, Dev.settle_sessions]
    exact hsess
  · rw [Dev.o_settle _ ?_, hmaps k hk]
    generalize k = j
    revert j
    decide
  · exact (Dev.raised_settle_iff _ _).mpr hev
  · exact frame_sessEnd.settle (Dev.sessEnd_closeSession _ _)
  · exact (Dev.onlyObjects_closeSession (by simp +contextual) (by simp +contextual) _ hn.1 hn.2).settle

theorem Dev.SessEnd.res {d e : Dev} (h : d.SessEnd e) (code : Nat) : ({ d with result := code } : Dev).SessEnd (e.res code) := by
  obtain ⟨h1, h2⟩ := Dev.sessEnd_iff.mp h
  exact Dev.sessEnd_iff.mpr ⟨congrArg (fun x : Dev => ({ x with result := code } : Dev)) h1, h2⟩

theorem closeSession_closed (s : State) (v : Nat) (hserve : s.dev.phase = .service) (hv : 1 ≤ v ∧ v ≤ 8) (hopen : s.dev.sessState v = 2) :
    Completes (.closeSession v) s (fun e => e.result = 0 ∧ e.o (el Obj.SESSION_STATE v) = 0 ∧ e.sess v = {} ∧ e.raised 0xD7 ∧ ({ s.dev with result := 0 } : Dev).SessEnd e ∧ OnlyObjects (fun k => isSession k || isTraceCount k) s.dev e) := by
  obtain ⟨hst, hsess, -, hev⟩ := closeSession_facts s.dev hv hopen
  have hclose : s.dev.when (s.dev.sessState v == 2) (fun d => d.closeSession v) = s.dev.closeSession v := if_pos (by simp [hopen])
  have hend := (Dev.sessEnd_closeSession s.dev v).res 0
  have hobj : OnlyObjects (fun k => isSession k || isTraceCount k) s.dev (s.dev.closeSession v) := Dev.onlyObjects_closeSession (by simp +contextual) (by simp +contextual) _ hv.1 hv.2
  refine completes_serve_eq ((s.dev.closeSession v).res 0) rfl hserve ?_ ⟨by simp [Dev.res], ?_, ?_, ?_, frame_sessEnd.settle hend, (hobj.of_obj (Dev.res_obj _ _)).settle⟩
  · exact (if_neg (by omega)).trans (congrArg (fun d => Dev.res d 0) hclose)
  · have hne : isStatus (el Obj.SESSION_STATE v) = false := by
      obtain ⟨n, rfl⟩ : ∃ n, v = n + 1 := ⟨v - 1, by omega⟩
      exact (sessState_keeps (by omega)).1
    rw [Dev.o_settle _ hne, Dev.o_res, hst]
  · rw [Dev.sess, Dev.settle_sessions]
    exact hsess
  · exact (Dev.raised_settle_iff _ _).mpr hev

theorem closeSession_range (s : State) (v : Int) (hserve : s.dev.phase = .service) (hv : v < 1 ∨ 8 < v) :
    Completes (.closeSession v) s (fun e => e.result = resRange ∧ ({ s.dev with result := e.result } : Dev).ShowsOnly e ∧ OnlyObjects (fun _ => false) s.dev e) :=
  completes_serve_result resRange rfl hserve (if_pos hv) fun _ hr hf ho => ⟨hr, hf, ho⟩

/-! ### The scan of the maps (R408, R409) -/

/-- A fold over a range whose steps change nothing but at `m`. -/
theorem foldl_range_once {α : Type} {f : α → Nat → α} {d e : α} {m n : Nat} (h : ∀ j < n, j ≠ m → f d j = d) (hm : f d m = e) (he : ∀ j < n, j ≠ m → f e j = e) :
    (List.range n).foldl f d = if m < n then e else d := by
  induction n with
  | zero => rfl
  | succ n ih =>
    rw [List.range_succ, List.foldl_append, ih (fun j hj => h j (by omega)) (fun j hj => he j (by omega)), List.foldl_cons, List.foldl_nil]
    rcases lt_trichotomy m n with hlt | rfl | hgt
    · rw [if_pos hlt, if_pos (by omega), he n (by omega) (by omega)]
    · rw [if_neg (by omega), if_pos (by omega), hm]
    · rw [if_neg (by omega), if_neg (by omega), h n (by omega) (by omega)]

/-- A disabled map whose note stands at its default is left as it is (R408). -/
theorem Dev.noteScan_disabled {d : Dev} {j : Nat} (hoff : d.b (at' Obj.ENABLE_1800 j) = false) (hnote : Tab.upd {} d.notes j (fun x => { x with force := false }) = d.notes) : d.noteScan j = d := by
  unfold Dev.noteScan
  rw [if_pos (by simp [hoff]), hnote]

/-- The notification of map `m` put for the first time into a free slot (R409). -/
def Dev.noteQueued (d : Dev) (m : Nat) : Dev := { d with
  pool := d.pool ++ [{ map := m, path := d.n (at' Obj.PATH m), counter := 0, bytes := d.noteBytes m ((d.noteEntries m).flatMap d.valueBytes) 0 }]
  notes := [(m, { sent := some ((d.noteEntries m).flatMap d.valueBytes), at_ := some d.wall, counter := 1 })] }

/-- The notification of map `m` sent for the first time (R409). -/
def Dev.noteFirst (d : Dev) (m : Nat) : Dev := (d.noteQueued m).addWrap (at' Obj.SENT m)

theorem Dev.onlyObjects_noteQueued (d : Dev) (m : Nat) (ks : Nat → Bool) : OnlyObjects ks d (d.noteQueued m) := ⟨fun _ _ _ => rfl⟩

theorem Dev.noteFirst_shows (d : Dev) (m : Nat) : (d.noteQueued m).ShowsOnly (d.noteFirst m) := frame_shows.addWrap (frame_shows.refl _) _ _

theorem Dev.noteScan_first {d : Dev} {m : Nat} (hnotes : d.notes = []) (hon : d.b (at' Obj.ENABLE_1800 m) = true) (hmode : d.n (at' Obj.MODE_1800 m) ≠ 2)
    (hmark : (d.noteEntries m).any (fun x => d.poison.contains x) = false) (hpool : d.pool.length < 128) : d.noteScan m = d.noteFirst m := by
  have hdue : d.noteDue m ((d.noteEntries m).flatMap d.valueBytes) = true := by
    simp [Dev.noteDue, hnotes, Tab.get, hmode]
  unfold Dev.noteScan
  rw [if_neg (by simp [hon])]
  simp only []
  rw [if_neg (by simp [hdue]), if_neg (by rw [hmark]; decide)]
  unfold Dev.noteSend
  simp only []
  rw [if_pos hpool, hnotes]
  rfl

theorem noteKeys {m : Nat} (hm : m < 64) (j : Nat) : at' Obj.ENABLE_1800 j ≠ at' Obj.SENT m ∧ isStatus (at' Obj.SENT m) = false := by
  refine ⟨by simp only [at', Obj.ENABLE_1800, Obj.SENT]; omega, ?_⟩
  interval_cases m <;> decide

theorem notifyScan_sends (s : State) (m : Fin 64) (hserve : s.dev.phase = .service) (hnotes : s.dev.notes = []) (hmaps : (List.range 64).all (fun j => s.dev.b (at' Obj.ENABLE_1800 j) == (j == m.val)) = true)
    (hmode : s.dev.n (at' Obj.MODE_1800 m) ≠ 2) (hmark : (s.dev.noteEntries m).any (fun x => s.dev.poison.contains x) = false) (hpool : s.dev.pool.length < 128) :
    Completes (.notifyScan) s (fun e => e.pool = s.dev.pool ++ [{ map := m, path := s.dev.n (at' Obj.PATH m), counter := 0, bytes := s.dev.noteBytes m ((s.dev.noteEntries m).flatMap s.dev.valueBytes) 0 }] ∧
      e.notes = [(m.val, { sent := some ((s.dev.noteEntries m).flatMap s.dev.valueBytes), at_ := some s.dev.wall, counter := 1 })] ∧ e.o (at' Obj.SENT m) = wrapU32 (s.dev.o (at' Obj.SENT m) + 1) ∧ ({ s.dev with pool := e.pool, notes := e.notes } : Dev).ShowsOnly e ∧ OnlyObjects (fun k => k == at' Obj.SENT m) s.dev e) := by
  have hon (j : Nat) (hj : j < 64) : s.dev.b (at' Obj.ENABLE_1800 j) = (j == m.val) := by
    simpa using List.all_eq_true.mp hmaps j (List.mem_range.mpr hj)
  have hoff (d : Dev) (hb : ∀ j, d.b (at' Obj.ENABLE_1800 j) = s.dev.b (at' Obj.ENABLE_1800 j)) (hn : ∀ j, j ≠ m.val → Tab.upd {} d.notes j (fun x => { x with force := false }) = d.notes)
      (j : Nat) (hj : j < 64) (hne : j ≠ m.val) : d.noteScan j = d :=
    Dev.noteScan_disabled (by rw [hb, hon j hj]; simpa using hne) (hn j hne)
  have hscan : (List.range 64).foldl (fun d k => d.noteScan k) s.dev = s.dev.noteFirst m := by
    refine (foldl_range_once (hoff _ (fun _ => rfl) fun j _ => ?_) (Dev.noteScan_first hnotes ?_ hmode hmark hpool) (hoff _ (fun j => ?_) fun j hne => ?_)).trans (if_pos m.isLt)
    · simp [hnotes, Tab.upd, Tab.set, Tab.get, Tab.del]
    · simp [hon m m.isLt]
    · exact Dev.b_eq (Dev.o_setO_other _ _ (noteKeys m.isLt j).1)
    · simp [Dev.noteFirst, Dev.noteQueued, Dev.addWrap, Tab.upd, Tab.set, Tab.get, Tab.del, Ne.symm hne]
  have hst := (noteKeys m.isLt 0).2
  refine completes_serve_eq _ rfl hserve hscan ⟨by simp [Dev.noteFirst, Dev.noteQueued, Dev.addWrap], by simp [Dev.noteFirst, Dev.noteQueued, Dev.addWrap], ?_, ?_, ?_⟩
  · rw [Dev.o_settle _ hst]
    exact Dev.o_setO_same _ _ _
  · have hshow := frame_shows.settle (s.dev.noteFirst_shows m)
    rw [hshow.pool, hshow.notes]
    exact hshow
  · exact ((Dev.onlyObjects_noteQueued _ _ _).addWrap _ _ (by simp)).settle

/-- Settles O39: the timers and ends of sessions, and the notifications that a scan sends, clause by clause. -/
theorem sessionsAndNotifications : Obligations.SessionsAndNotifications :=
  ⟨stagingTimeout_dropped, authTimeout_freed, sessionIdleTimeout_closed, sourceBarExpiry_gone, closeSession_closed, closeSession_range, notifyScan_sends, notifyTransmit_leaves⟩

end Sys2Proof.Machine
end

section
/-! The address claim, peers and the Task Controller, O40 (R398, R399, R403, R404). -/

namespace Sys2Proof.Machine

/-! ### The address claim (R398) -/

/-- What the address claim changes beside objects. -/
def Dev.ClaimOnly : Dev → Dev → Prop := Dev.Outside fun x => { x with claim := 0, claimAddr := 0, claimLast := false }

theorem frame_claim : Frame Dev.ClaimOnly := frame_outside _

theorem Dev.ClaimOnly.shows {d e : Dev} (h : d.ClaimOnly e) : ({ d with claim := e.claim, claimAddr := e.claimAddr, claimLast := e.claimLast } : Dev).ShowsOnly e :=
  Dev.showsOnly_iff.mpr ⟨(congrArg (fun x : Dev => ({ x with claim := e.claim, claimAddr := e.claimAddr, claimLast := e.claimLast } : Dev)) h.1 :), h.2⟩

theorem Dev.claimNow_facts (d : Dev) (a : Nat) (last : Bool) : (d.claimNow a last).settle.claim = 1 ∧ (d.claimNow a last).settle.claimAddr = a ∧ (d.claimNow a last).settle.claimLast = last ∧
    (d.claimNow a last).settle.o Obj.OWN_ADDR = 254 ∧ d.ClaimOnly (d.claimNow a last).settle ∧ OnlyObjects (fun k => k == Obj.OWN_ADDR) d (d.claimNow a last).settle := by
  refine ⟨by simp [Dev.claimNow], by simp [Dev.claimNow], by simp [Dev.claimNow], ?_, ?_, ?_⟩
  · rw [Dev.o_settle _ (by decide)]
    exact Dev.o_setO_same _ _ _
  · exact frame_claim.settle (frame_claim.setO (d := { d with claim := 1, claimAddr := a, claimLast := last }) ⟨rfl, fun _ h => h⟩ _ _)
  · have hobj : OnlyObjects (fun k => k == Obj.OWN_ADDR) d ({ d with claim := 1, claimAddr := a, claimLast := last } : Dev) := ⟨fun _ _ _ => rfl⟩
    exact (hobj.setO Obj.OWN_ADDR 254 (by simp)).settle

theorem addressClaimStart_claims (s : State) (hserve : s.dev.phase = .service) (hclaim : s.dev.claim = 0) :
    Completes (.addressClaimStart) s (fun e => e.claim = 1 ∧ e.claimAddr = s.dev.n Obj.PREF_ADDR ∧ e.claimLast = false ∧ e.o Obj.OWN_ADDR = 254 ∧ ({ s.dev with claim := e.claim, claimAddr := e.claimAddr, claimLast := e.claimLast } : Dev).ShowsOnly e ∧ OnlyObjects (fun k => k == Obj.OWN_ADDR) s.dev e) := by
  obtain ⟨h1, h2, h3, h4, h5, h6⟩ := s.dev.claimNow_facts (s.dev.n Obj.PREF_ADDR) false
  exact completes_serve_eq (s.dev.claimNow (s.dev.n Obj.PREF_ADDR) false) rfl hserve (if_pos (by simp [hclaim])) ⟨h1, h2, h3, h4, h5.shows, h6⟩

/-- The claim in its stage `c` at address `a`. -/
def Dev.withClaim (d : Dev) (c a : Nat) : Dev := { d with claim := c, claimAddr := a }

theorem Dev.withClaim_facts (d : Dev) (c a : Nat) (ks : Nat → Bool) : (d.withClaim c a).claim = c ∧ OnlyObjects ks d (d.withClaim c a) ∧
    ({ d with claim := (d.withClaim c a).claim, claimAddr := (d.withClaim c a).claimAddr } : Dev) = d.withClaim c a := ⟨rfl, ⟨fun _ _ _ => rfl⟩, rfl⟩

/-- The guard of a contention lost (R398). -/
theorem contention_lost {d : Dev} {name : Nat} (hclaim : d.claim = 1 ∨ d.claim = 2) (hname : name < d.n Obj.NAME) (f : Dev → Dev) :
    d.when ((d.claim == 1 || d.claim == 2) && decide (name < d.n Obj.NAME)) f = f d := if_pos (by simpa [hname] using hclaim)

theorem addressContention_next (s : State) (name : Nat) (hserve : s.dev.phase = .service) (hclaim : s.dev.claim = 1 ∨ s.dev.claim = 2) (hname : name < s.dev.n Obj.NAME) (hlast : s.dev.claimLast = false) :
    Completes (.addressContention name) s (fun e => e.claim = 1 ∧ e.claimAddr = (if 247 ≤ s.dev.claimAddr then 128 else s.dev.claimAddr + 1) ∧ e.claimLast = (e.claimAddr == s.dev.n Obj.PREF_ADDR) ∧ e.o Obj.OWN_ADDR = 254 ∧
      ({ s.dev with claim := e.claim, claimAddr := e.claimAddr, claimLast := e.claimLast } : Dev).ShowsOnly e ∧ OnlyObjects (fun k => k == Obj.OWN_ADDR) s.dev e) := by
  have hnext : s.dev.claimNext = s.dev.claimNow (if 247 ≤ s.dev.claimAddr then 128 else s.dev.claimAddr + 1) ((if 247 ≤ s.dev.claimAddr then 128 else s.dev.claimAddr + 1) == s.dev.n Obj.PREF_ADDR) := if_neg (by simp [hlast])
  refine completes_serve_eq _ rfl hserve ((contention_lost hclaim hname _).trans hnext) ?_
  clear hnext
  generalize (if 247 ≤ s.dev.claimAddr then 128 else s.dev.claimAddr + 1) = a
  obtain ⟨h1, h2, h3, h4, h5, h6⟩ := s.dev.claimNow_facts a (a == s.dev.n Obj.PREF_ADDR)
  exact ⟨h1, h2, h3.trans (by rw [h2]), h4, h5.shows, h6⟩

theorem addressContention_none (s : State) (name : Nat) (hserve : s.dev.phase = .service) (hclaim : s.dev.claim = 1 ∨ s.dev.claim = 2) (hname : name < s.dev.n Obj.NAME) (hlast : s.dev.claimLast = true) :
    Completes (.addressContention name) s (fun e => e.claim = 3 ∧ e.o Obj.OWN_ADDR = 254 ∧ e.raised 0xD1 ∧ e.inForce 0x92D0 .sys ∧ ({ s.dev with claim := e.claim, claimAddr := e.claimAddr } : Dev).RaisesOnly e ∧ OnlyObjects (fun k => k == Obj.OWN_ADDR || isReaction k) s.dev e) := by
  have hnext : s.dev.claimNext = (((s.dev.withClaim 3 254).setO Obj.OWN_ADDR 254).event 0xD1).raiseOn 0x92D0 .sys true { ini := 0x02, acc := 6 } := if_pos hlast
  refine completes_serve_eq _ rfl hserve ((contention_lost hclaim hname _).trans hnext) ?_
  clear hnext
  obtain ⟨hc, hobj, hx⟩ := s.dev.withClaim_facts 3 254 fun k => k == Obj.OWN_ADDR || isReaction k
  generalize s.dev.withClaim 3 254 = x at *
  have hlater : OnlyObjects isReaction (x.setO Obj.OWN_ADDR 254) (((x.setO Obj.OWN_ADDR 254).event 0xD1).raiseOn 0x92D0 .sys true { ini := 0x02, acc := 6 }).settle :=
    (((OnlyObjects.refl _).event _ fun _ => isReaction_trace).raiseOn _ _ _ _ fun _ h => h).settle
  have hrest := frame_raises.settle (frame_raises.raiseOn (frame_raises.event (frame_raises.setO (frame_raises.refl x) Obj.OWN_ADDR 254) 0xD1) 0x92D0 .sys true { ini := 0x02, acc := 6 })
  have hall := hrest
  obtain ⟨c, hrest⟩ := hrest
  refine ⟨by rw [hrest.claim]; exact hc, ?_, ?_, ?_, ?_, ?_⟩
  · rw [hlater.same _ (by decide) (by decide), Dev.o_setO_same]
  · exact (Dev.raised_settle_iff _ _).mpr (Dev.raised_raiseOn (by simp) _ _ _ _)
  · exact (Dev.inForce_settle_iff _ _ _).mpr (Dev.inForce_raiseOn _ _ _ _ (by decide))
  · rw [hrest.claim, hrest.claimAddr]
    change ({ s.dev with claim := x.claim, claimAddr := x.claimAddr } : Dev).RaisesOnly _
    rw [hx]
    exact hall
  · exact (hobj.setO _ _ (by simp)).trans (hlater.mono fun k h => by simp [h])

theorem addressContention_higher (s : State) (name : Nat) (hserve : s.dev.phase = .service) (hname : s.dev.n Obj.NAME ≤ name) :
    Completes (.addressContention name) s (fun e => s.dev.ShowsOnly e ∧ OnlyObjects (fun _ => false) s.dev e) :=
  completes_serve_eq s.dev rfl hserve (if_neg (by simp [hname])) ⟨frame_shows.settle (frame_shows.refl _), (OnlyObjects.refl _).settle⟩

theorem Dev.tcRestart_facts (d : Dev) : d.ShowsOnly d.tcRestart ∧ OnlyObjects (fun k => k == Obj.TC_STATE) d d.tcRestart :=
  ⟨frame_shows.when (frame_shows.refl _) _ fun d => Dev.showsOnly_setO _ _ _,
    (OnlyObjects.refl d).when _ fun _ d => OnlyObjects.setO (ks := fun k => k == Obj.TC_STATE) (OnlyObjects.refl d) Obj.TC_STATE 1 (by simp)⟩

theorem netAddrClaimed_claimed (s : State) (hserve : s.dev.phase = .service) (hclaim : s.dev.claim = 1) :
    Completes (.netAddrClaimed) s (fun e => e.claim = 2 ∧ e.o Obj.OWN_ADDR = s.dev.claimAddr ∧ e.raised 0xD0 ∧ ({ s.dev with claim := e.claim } : Dev).RaisesOnly e ∧ OnlyObjects (fun k => k == Obj.OWN_ADDR || k == Obj.TC_STATE || isTraceCount k) s.dev e) := by
  have hguard : s.dev.when (s.dev.claim == 1) (fun d => ((({ d with claim := 2 }).setO Obj.OWN_ADDR (d.claimAddr : Nat)).event 0xD0).tcRestart.causeGone 0x92D0) =
      (((s.dev.withClaim 2 s.dev.claimAddr).setO Obj.OWN_ADDR (s.dev.claimAddr : Nat)).event 0xD0).tcRestart.causeGone 0x92D0 := if_pos (by simp [hclaim])
  refine completes_serve_eq _ rfl hserve hguard ?_
  clear hguard
  obtain ⟨hc, hobj, -⟩ := s.dev.withClaim_facts 2 s.dev.claimAddr fun k => k == Obj.OWN_ADDR || k == Obj.TC_STATE || isTraceCount k
  have hx : ({ s.dev with claim := (s.dev.withClaim 2 s.dev.claimAddr).claim } : Dev) = s.dev.withClaim 2 s.dev.claimAddr := rfl
  generalize s.dev.withClaim 2 s.dev.claimAddr = x at *
  have hev : ((x.setO Obj.OWN_ADDR (s.dev.claimAddr : Nat)).event 0xD0).raised 0xD0 := by simp
  have hown : ((x.setO Obj.OWN_ADDR (s.dev.claimAddr : Nat)).event 0xD0).o Obj.OWN_ADDR = s.dev.claimAddr := (Dev.o_event _ _ (by decide)).trans (Dev.o_setO_same _ _ _)
  have hyobj := (hobj.setO Obj.OWN_ADDR (s.dev.claimAddr : Nat) (by simp)).event 0xD0 (by simp +contextual)
  have hyshow : x.ShowsOnly ((x.setO Obj.OWN_ADDR (s.dev.claimAddr : Nat)).event 0xD0) := frame_shows.event (Dev.showsOnly_setO _ _ _) _
  generalize (x.setO Obj.OWN_ADDR (s.dev.claimAddr : Nat)).event 0xD0 = y at *
  obtain ⟨hrshow, hrobj⟩ := y.tcRestart_facts
  generalize y.tcRestart = z at *
  have hall := frame_raises.settle (frame_raises.trans (hyshow.trans hrshow).raises (z.raises_causeGone 0x92D0))
  have hkeep := hall
  obtain ⟨c, hrest⟩ := hkeep
  refine ⟨by rw [hrest.claim]; exact hc, ?_, ?_, ?_, ?_⟩
  · rw [Dev.o_settle _ (by decide)]
    exact (hrobj.same _ (by decide) (by decide)).trans hown
  · exact (Dev.raised_settle_iff _ _).mpr (hrshow.raised hev)
  · rw [hrest.claim]
    change ({ s.dev with claim := x.claim } : Dev).RaisesOnly _
    rw [hx]
    exact hall
  · exact (((hyobj.trans (hrobj.mono fun k h => by simp only [h, Bool.true_or, Bool.or_true])).of_obj (Dev.causeGone_obj _ _))).settle

/-! ### Peers (R399) -/

theorem peerKeys (i : Nat) (hi : i < 254) : keyIdx (el Obj.PEER_NAME (i + 1)) = keyIdx Obj.PEER_NAME ∧ isStatus (el Obj.PEER_NAME (i + 1)) = false ∧ isTraceCount (el Obj.PEER_NAME (i + 1)) = false ∧
    el Obj.PEER_NAME (i + 1) ≠ Obj.PEERS := by
  have hidx : keyIdx (el Obj.PEER_NAME (i + 1)) = keyIdx Obj.PEER_NAME := by
    simp only [keyIdx, el, Obj.PEER_NAME]
    omega
  have hne (k : Nat) (hk : keyIdx k ≠ keyIdx Obj.PEER_NAME) : (el Obj.PEER_NAME (i + 1) == k) = false := by
    rw [beq_eq_false_iff_ne]
    rintro rfl
    exact hk hidx
  have hout (a b : Nat) (hb : b ≤ Obj.PEER_NAME ∨ Obj.PEER_NAME + 254 ≤ a) : (decide (a ≤ el Obj.PEER_NAME (i + 1)) && decide (el Obj.PEER_NAME (i + 1) < b)) = false := by
    rw [Bool.and_eq_false_iff, decide_eq_false_iff_not, decide_eq_false_iff_not, el]
    simp only [Obj.PEER_NAME] at hb ⊢
    omega
  refine ⟨hidx, ?_, ?_, ?_⟩
  · simp only [isStatus, hout Obj.DOMAIN_STATE (Obj.DOMAIN_STATE + 9) (by decide), hout Obj.ACTIVE (Obj.ACTIVE + 64) (by decide)]
    iterate 15 rw [hne _ (by decide)]
    rfl
  · rw [isTraceCount, hne _ (by decide), hne _ (by decide), Bool.or_false]
  · simp only [el, Obj.PEER_NAME, Obj.PEERS]
    omega

theorem Dev.countPeers_facts (d : Dev) : d.countPeers.o Obj.PEERS = (((List.range 254).filter (fun i => d.b (el Obj.PEER_NAME (i + 1)))).length : Nat) ∧
    d.ShowsOnly d.countPeers ∧ OnlyObjects (fun k => k == Obj.PEERS) d d.countPeers :=
  ⟨Dev.o_setO_same _ _ _, Dev.showsOnly_setO _ _ _, (OnlyObjects.refl d).setO _ _ (by simp)⟩

/-- The addresses with a NAME, where `e` reads every PEER_NAME as `d`. -/
theorem peers_congr {d e : Dev} (h : ∀ i < 254, e.o (el Obj.PEER_NAME (i + 1)) = d.o (el Obj.PEER_NAME (i + 1))) :
    (List.range 254).filter (fun i => e.b (el Obj.PEER_NAME (i + 1))) = (List.range 254).filter (fun i => d.b (el Obj.PEER_NAME (i + 1))) :=
  List.filter_congr fun i hi => Dev.b_eq (h i (List.mem_range.mp hi))

theorem peerAddressClaim_new (s : State) (addr name : Nat) (hserve : s.dev.phase = .service) (haddr : addr < 254) (hname : name ≠ 0) (hnew : (List.range 254).all (fun i => s.dev.n (el Obj.PEER_NAME (i + 1)) != name) = true)
    (hfree : s.dev.o (el Obj.PEER_NAME (addr + 1)) = 0) :
    Completes (.peerAddressClaim addr name) s (fun e => e.o (el Obj.PEER_NAME (addr + 1)) = name ∧ e.raised 0xD2 ∧ e.o Obj.PEERS = (((List.range 254).filter (fun i => e.b (el Obj.PEER_NAME (i + 1)))).length : Nat) ∧ s.dev.ShowsOnly e ∧ OnlyObjects (fun k => k == el Obj.PEER_NAME (addr + 1) || k == Obj.PEERS || isTraceCount k) s.dev e) := by
  have hold : (List.range 254).filter (fun i => s.dev.n (el Obj.PEER_NAME (i + 1)) == name && name != 0) = [] := by
    refine List.filter_eq_nil_iff.mpr fun i hi => ?_
    have := List.all_eq_true.mp hnew i hi
    simp only [bne_iff_ne] at this
    simp [this]
  obtain ⟨-, hst, htr, hpeers⟩ := peerKeys addr haddr
  refine completes_serve_eq (((s.dev.setO (el Obj.PEER_NAME (addr + 1)) name).event 0xD2).countPeers) rfl hserve ?_ ?_
  · simp only [hold, List.foldl_nil, if_neg (show ¬ 254 ≤ addr by omega)]
    have hthere : s.dev.n (el Obj.PEER_NAME (addr + 1)) = 0 := by simp [Dev.n, hfree]
    simp [hthere, hname, Dev.when]
  · have hown : ((s.dev.setO (el Obj.PEER_NAME (addr + 1)) name).event 0xD2).o (el Obj.PEER_NAME (addr + 1)) = name := (Dev.o_event _ _ htr).trans (Dev.o_setO_same _ _ _)
    have hev : ((s.dev.setO (el Obj.PEER_NAME (addr + 1)) name).event 0xD2).raised 0xD2 := by simp
    have hshow : s.dev.ShowsOnly ((s.dev.setO (el Obj.PEER_NAME (addr + 1)) name).event 0xD2) := frame_shows.event (Dev.showsOnly_setO _ _ _) _
    have hobj : OnlyObjects (fun k => k == el Obj.PEER_NAME (addr + 1) || k == Obj.PEERS || isTraceCount k) s.dev ((s.dev.setO (el Obj.PEER_NAME (addr + 1)) name).event 0xD2) :=
      ((OnlyObjects.refl _).setO _ _ (by simp)).event _ (by simp +contextual)
    generalize (s.dev.setO (el Obj.PEER_NAME (addr + 1)) name).event 0xD2 = x at *
    obtain ⟨hcount, hcshow, hcobj⟩ := x.countPeers_facts
    refine ⟨?_, (Dev.raised_settle_iff _ _).mpr (hcshow.raised hev), ?_, frame_shows.settle (hshow.trans hcshow), ?_⟩
    · rw [Dev.o_settle _ hst, hcobj.same _ (by simpa using hpeers) hst, hown]
    · rw [Dev.o_settle _ (by decide), hcount, peers_congr fun i hi => ?_]
      obtain ⟨-, hsi, -, hpi⟩ := peerKeys i hi
      rw [Dev.o_settle _ hsi, hcobj.same _ (by simpa using hpi) hsi]
    · exact (hobj.trans (hcobj.mono fun k h => by simp only [h, Bool.true_or, Bool.or_true])).settle

/-- The addresses that a NAME leaves are free (R399). -/
theorem Dev.o_freedPeers (l : List Nat) (d : Dev) {j : Nat} (hj : j < 254) (h : j ∈ l ∨ d.o (el Obj.PEER_NAME (j + 1)) = 0) :
    (l.foldl (fun d i => d.when (decide (i ≠ 254)) (fun d => d.setO (el Obj.PEER_NAME (i + 1)) 0)) d).o (el Obj.PEER_NAME (j + 1)) = 0 := by
  induction l generalizing d with
  | nil => exact h.resolve_left (by simp)
  | cons i l ih =>
    refine ih _ ?_
    by_cases hmem : j ∈ l
    · exact Or.inl hmem
    · refine Or.inr ?_
      have hz : j = i ∨ d.o (el Obj.PEER_NAME (j + 1)) = 0 := h.imp_left fun hm => (List.mem_cons.mp hm).resolve_right hmem
      change (d.when (decide (i ≠ 254)) (fun d => d.setO (el Obj.PEER_NAME (i + 1)) 0)).o (el Obj.PEER_NAME (j + 1)) = 0
      rcases hz with rfl | hz
      · rw [Dev.when, if_pos (by simpa using hj.ne), Dev.o_setO_same]
      · unfold Dev.when
        split
        · rw [Dev.o_setO]
          split
          · rfl
          · exact hz
        · exact hz

theorem peerAddressClaim_gone (s : State) (i : Fin 254) (name : Nat) (hserve : s.dev.phase = .service) (hname : name ≠ 0) (hpeer : s.dev.n (el Obj.PEER_NAME (i + 1)) = name) :
    Completes (.peerAddressClaim 254 name) s (fun e => e.o (el Obj.PEER_NAME (i + 1)) = 0 ∧ e.raised 0xD3 ∧ s.dev.ShowsOnly e ∧ OnlyObjects (fun k => keyIdx k == keyIdx Obj.PEER_NAME || k == Obj.PEERS || isTraceCount k) s.dev e) := by
  have hmem : i.val ∈ (List.range 254).filter (fun i => s.dev.n (el Obj.PEER_NAME (i + 1)) == name && name != 0) := List.mem_filter.mpr ⟨List.mem_range.mpr i.isLt, by simp [hpeer, hname]⟩
  have hrange : ∀ j ∈ (List.range 254).filter (fun i => s.dev.n (el Obj.PEER_NAME (i + 1)) == name && name != 0), j < 254 := fun j hj => List.mem_range.mp (List.mem_filter.mp hj).1
  have hrun : ∀ old : List Nat, i.val ∈ old → (old.foldl (fun d i => d.when (decide (i ≠ 254)) (fun d => d.setO (el Obj.PEER_NAME (i + 1)) 0)) s.dev).when (!old.isEmpty) (fun d => d.event 0xD3) =
      (old.foldl (fun d i => d.when (decide (i ≠ 254)) (fun d => d.setO (el Obj.PEER_NAME (i + 1)) 0)) s.dev).event 0xD3 := fun old h => if_pos (by
    cases old with
    | nil => simp at h
    | cons _ _ => rfl)
  have hrun' := congrArg Dev.countPeers (hrun _ hmem)
  clear hrun
  refine completes_serve_eq _ rfl hserve hrun' ?_
  clear hrun'
  generalize (List.range 254).filter (fun i => s.dev.n (el Obj.PEER_NAME (i + 1)) == name && name != 0) = old at *
  have hzero := Dev.o_freedPeers old s.dev i.isLt (Or.inl hmem)
  have hshow : s.dev.ShowsOnly (old.foldl (fun d i => d.when (decide (i ≠ 254)) (fun d => d.setO (el Obj.PEER_NAME (i + 1)) 0)) s.dev) :=
    Dev.shows_foldl (fun d j => frame_shows.when (.refl d) _ fun d => Dev.showsOnly_setO _ _ _) _ _
  have hobj : OnlyObjects (fun k => keyIdx k == keyIdx Obj.PEER_NAME || k == Obj.PEERS || isTraceCount k) s.dev (old.foldl (fun d i => d.when (decide (i ≠ 254)) (fun d => d.setO (el Obj.PEER_NAME (i + 1)) 0)) s.dev) := by
    refine (OnlyObjects.refl _).foldl _ fun d j hj => (OnlyObjects.refl d).when _ fun _ d => (OnlyObjects.refl d).setO _ _ ?_
    simp only [(peerKeys j (hrange j hj)).1, beq_self_eq_true, Bool.true_or]
  generalize old.foldl _ s.dev = x at *
  obtain ⟨-, hst, htr, hpeers⟩ := peerKeys i i.isLt
  obtain ⟨-, hcshow, hcobj⟩ := (x.event 0xD3).countPeers_facts
  refine ⟨?_, (Dev.raised_settle_iff _ _).mpr (hcshow.raised (by simp)), frame_shows.settle ((frame_shows.event hshow _).trans hcshow), ?_⟩
  · rw [Dev.o_settle _ hst, hcobj.same _ (by simpa using hpeers) hst, Dev.o_event _ _ htr, hzero]
  · exact ((hobj.event _ (by simp +contextual)).trans (hcobj.mono fun k h => by simp only [h, Bool.true_or, Bool.or_true])).settle

/-! ### The Task Controller (R403, R404) -/

/-- A message of the named Task Controller is taken (R399): its peer is held, and nothing else changes. -/
theorem Dev.peerTakes_tc {d : Dev} {name : Nat} (hname : name ≠ 0) (htc : d.n Obj.TC_NAME = name) : ∃ peers, d.peerTakes 5 Obj.TC_NAME name = ({ d with peers := peers }, true) := by
  unfold Dev.peerTakes
  simp only [htc, if_pos hname, if_true]
  split
  · exact ⟨d.peers, rfl⟩
  · exact ⟨_, rfl⟩

/-- What the Task Controller changes beside objects. -/
def Dev.TcOnly : Dev → Dev → Prop := Dev.Outside fun x => { x with ge := {}, peers := [] }

theorem frame_tc : Frame Dev.TcOnly := frame_outside _

theorem Dev.TcOnly.shows {d e : Dev} (h : d.TcOnly e) : ({ d with ge := e.ge, peers := e.peers } : Dev).ShowsOnly e :=
  Dev.showsOnly_iff.mpr ⟨(congrArg (fun x : Dev => ({ x with ge := e.ge, peers := e.peers } : Dev)) h.1 :), h.2⟩

theorem tcStatusMessage_opens (s : State) (name : Nat) (hserve : s.dev.phase = .service) (hname : name ≠ 0) (htc : s.dev.n Obj.TC_NAME = name) (hst : s.dev.o Obj.TC_STATE = 0) (hclaim : s.dev.claim = 2) :
    Completes (.tcStatusMessage name) s (fun e => e.o Obj.TC_STATE = 1 ∧ ({ s.dev with peers := e.peers } : Dev).ShowsOnly e ∧ OnlyObjects (fun k => k == Obj.TC_STATE) s.dev e) := by
  obtain ⟨peers, htakes⟩ := Dev.peerTakes_tc hname htc
  refine completes_serve_eq (({ s.dev with peers := peers } : Dev).setO Obj.TC_STATE 1) rfl hserve ?_ ⟨?_, ?_, ?_⟩
  · simp only [htakes]
    exact if_pos (show (true && s.dev.o Obj.TC_STATE == 0 && s.dev.claim == 2) = true by simp [hst, hclaim])
  · rw [Dev.o_settle _ (by decide), Dev.o_setO_same]
  · have hshow := frame_shows.settle (Dev.showsOnly_setO ({ s.dev with peers := peers } : Dev) Obj.TC_STATE 1)
    rw [hshow.peers]
    exact hshow
  · have hobj : OnlyObjects (fun k => k == Obj.TC_STATE) s.dev ({ s.dev with peers := peers } : Dev) := ⟨fun _ _ _ => rfl⟩
    exact (hobj.setO _ _ (by simp)).settle

theorem tcDdopUploadDone_complete (s : State) (hserve : s.dev.phase = .service) (hst : s.dev.o Obj.TC_STATE = 1) :
    Completes (.tcDdopUploadDone) s (fun e => e.o Obj.TC_STATE = 2 ∧ e.raised 0xD4 ∧ s.dev.RaisesOnly e ∧ OnlyObjects (fun k => k == Obj.TC_STATE || isTraceCount k) s.dev e) := by
  refine completes_serve_eq (((s.dev.setO Obj.TC_STATE 2).event 0xD4).causeGone 0x92D2) rfl hserve (if_pos (by simp [hst])) ⟨?_, ?_, ?_, ?_⟩
  · rw [Dev.o_settle _ (by decide)]
    exact (Dev.o_event _ _ (by decide)).trans (Dev.o_setO_same _ _ _)
  · have hev : ((s.dev.setO Obj.TC_STATE 2).event 0xD4).raised 0xD4 := by simp
    exact (Dev.raised_settle_iff _ _).mpr hev
  · exact frame_raises.settle (frame_raises.trans (frame_raises.event (frame_raises.setO (frame_raises.refl _) _ _) _) (Dev.raises_causeGone _ _))
  · exact ((((OnlyObjects.refl _).setO _ _ (by simp)).event _ (by simp +contextual)).of_obj (Dev.causeGone_obj _ _)).settle

/-- The Task Controller's setpoints dropped and its peer released (R404). -/
def Dev.tcDropped (d : Dev) : Dev := { (d.updGe (fun g => { g with tcRows := [], tcRate := none })) with peers := Tab.set {} d.peers 5 {} }

theorem Dev.tcDropped_facts (d : Dev) (ks : Nat → Bool) : d.tcDropped.ge = { d.ge with tcRows := [], tcRate := none } ∧ OnlyObjects ks d d.tcDropped ∧
    ({ d with ge := d.tcDropped.ge, peers := d.tcDropped.peers } : Dev) = d.tcDropped ∧ d.tcDropped.tcUsed = d.tcUsed := ⟨rfl, ⟨fun _ _ _ => rfl⟩, rfl, rfl⟩

theorem Dev.tcUsed_congr {d e : Dev} (h : OnlyObjects (fun k => k == Obj.TC_STATE || isReaction k) d e) : e.tcUsed = d.tcUsed := by
  unfold Dev.tcUsed
  rw [h.same Obj.SECTION_SOURCE (by decide) (by decide), h.same Obj.RATE_SOURCE (by decide) (by decide)]

theorem netTcLost_lost (s : State) (hserve : s.dev.phase = .service) (hst : s.dev.o Obj.TC_STATE ≠ 0) :
    Completes (.netTcLost) s (fun e => e.o Obj.TC_STATE = 0 ∧ e.raised 0xD5 ∧ e.ge = { s.dev.ge with tcRows := [], tcRate := none } ∧ (s.dev.tcUsed = true → e.inForce 0x92D2 .sys) ∧ ({ s.dev with ge := e.ge, peers := e.peers } : Dev).RaisesOnly e ∧ OnlyObjects (fun k => k == Obj.TC_STATE || isReaction k) s.dev e) := by
  have heq : (if s.dev.o Obj.TC_STATE = 0 then s.dev
      else ((({ (s.dev.updGe (fun g => { g with tcRows := [], tcRate := none })) with peers := Tab.set {} s.dev.peers 5 {} }).setO Obj.TC_STATE 0).event 0xD5).when s.dev.tcUsed (fun d => d.raiseOn 0x92D2 .sys true { ini := 0x02, acc := 6 })) =
      ((s.dev.tcDropped.setO Obj.TC_STATE 0).event 0xD5).when s.dev.tcUsed (fun d => d.raiseOn 0x92D2 .sys true { ini := 0x02, acc := 6 }) := if_neg hst
  refine completes_serve_eq _ rfl hserve heq ?_
  clear heq
  obtain ⟨hge, hobj, hx, hused⟩ := s.dev.tcDropped_facts fun k => k == Obj.TC_STATE || isReaction k
  generalize s.dev.tcDropped = x at *
  have hst0 : ((x.setO Obj.TC_STATE 0).event 0xD5).o Obj.TC_STATE = 0 := (Dev.o_event _ _ (by decide)).trans (Dev.o_setO_same _ _ _)
  have hev : ((x.setO Obj.TC_STATE 0).event 0xD5).raised 0xD5 := by simp
  have hyobj := (hobj.setO Obj.TC_STATE 0 (by simp)).event 0xD5 (fun k h => by simp [isReaction_trace h])
  have hyshow : x.RaisesOnly ((x.setO Obj.TC_STATE 0).event 0xD5) := frame_raises.event (Dev.raises_setO _ _ _) _
  generalize (x.setO Obj.TC_STATE 0).event 0xD5 = y at *
  have hlater : OnlyObjects isReaction y (y.when s.dev.tcUsed (fun d => d.raiseOn 0x92D2 .sys true { ini := 0x02, acc := 6 })) := (OnlyObjects.refl _).when _ fun _ d => (OnlyObjects.refl d).raiseOn _ _ _ _ fun _ h => h
  have hrest : y.RaisesOnly (y.when s.dev.tcUsed (fun d => d.raiseOn 0x92D2 .sys true { ini := 0x02, acc := 6 })) := frame_raises.when (frame_raises.refl _) _ fun d => frame_raises.raiseOn (frame_raises.refl d) _ _ _ _
  have hforce : s.dev.tcUsed = true → (y.when s.dev.tcUsed (fun d => d.raiseOn 0x92D2 .sys true { ini := 0x02, acc := 6 })).inForce 0x92D2 .sys := fun h => by
    rw [h]
    exact Dev.inForce_raiseOn (code := 0x92D2) y .sys true _ (by decide)
  generalize y.when s.dev.tcUsed _ = z at *
  have hall := frame_raises.settle (frame_raises.trans hyshow hrest)
  have hkeep := hall
  obtain ⟨c, hk⟩ := hkeep
  have hkge : z.settle.ge = x.ge := hk.ge
  have hkpeers : z.settle.peers = x.peers := hk.peers
  refine ⟨?_, (Dev.raised_settle_iff _ _).mpr (hrest.raised hev), hkge.trans hge, fun h => (Dev.inForce_settle_iff _ _ _).mpr (hforce h), ?_, ?_⟩
  · rw [Dev.o_settle _ (by decide), hlater.same _ (by decide) (by decide), hst0]
  · rw [hkge, hkpeers, hx]
    exact hall
  · exact (hyobj.trans (hlater.mono fun k h => by simp [h])).settle

/-- Process data of the named Task Controller under a connection are taken into the ground engine (R403). -/
theorem tcProcessData_taken {s : State} {name : Nat} {rate : Option Nat} {first : Nat} {states : List Nat} (rows : List Nat) (hserve : s.dev.phase = .service) (hname : name ≠ 0) (htc : s.dev.n Obj.TC_NAME = name) (hst : s.dev.o Obj.TC_STATE = 2)
    (hrows : (List.range states.length).foldl (fun l i => if 1 ≤ first + i ∧ first + i ≤ 128 then tcSection l (first + i) (states.getD i 3) else l) s.dev.ge.tcRows = rows) :
    Completes (.tcProcessData name rate first states) s (fun e => e.ge = { s.dev.ge with tcRows := rows, tcRate := if rate.isSome then rate.map s.dev.tcCounts else s.dev.ge.tcRate } ∧
      ({ s.dev with ge := e.ge, peers := e.peers } : Dev).ShowsOnly e ∧ OnlyObjects (fun _ => false) s.dev e) := by
  obtain ⟨peers, htakes⟩ := Dev.peerTakes_tc hname htc
  refine completes_serve_eq ({ s.dev with peers := peers, ge := { s.dev.ge with tcRows := rows, tcRate := if rate.isSome then rate.map s.dev.tcCounts else s.dev.ge.tcRate } } : Dev) rfl hserve ?_ ⟨?_, ?_, ?_⟩
  · simp only [htakes]
    refine (if_pos (show (true && s.dev.o Obj.TC_STATE == 2) = true by simp [hst])).trans ?_
    rw [← hrows]
    rfl
  · simp
  · have hshow := frame_shows.settle (frame_shows.refl ({ s.dev with peers := peers, ge := { s.dev.ge with tcRows := rows, tcRate := if rate.isSome then rate.map s.dev.tcCounts else s.dev.ge.tcRate } } : Dev))
    rw [hshow.ge, hshow.peers]
    exact hshow
  · exact OnlyObjects.settle ⟨fun _ _ _ => rfl⟩

theorem tcProcessData_rate (s : State) (name rate : Nat) (hserve : s.dev.phase = .service) (hname : name ≠ 0) (htc : s.dev.n Obj.TC_NAME = name) (hst : s.dev.o Obj.TC_STATE = 2) :
    Completes (.tcProcessData name (some rate) 0 []) s (fun e => e.ge = { s.dev.ge with tcRate := some (s.dev.tcCounts rate) } ∧ ({ s.dev with ge := e.ge, peers := e.peers } : Dev).ShowsOnly e ∧ OnlyObjects (fun _ => false) s.dev e) :=
  tcProcessData_taken s.dev.ge.tcRows hserve hname htc hst rfl

theorem Completes.mono {c : Instr} {s : State} {p q : Dev → Prop} (h : Completes c s p) (hpq : ∀ e, p e → q e) : Completes c s q := by
  obtain ⟨t, hexec, hpend, hp⟩ := h
  exact ⟨t, hexec, hpend, hpq _ hp⟩

theorem tcProcessData_sections (s : State) (name : Nat) (first : Fin 127) (hserve : s.dev.phase = .service) (hname : name ≠ 0) (htc : s.dev.n Obj.TC_NAME = name) (hst : s.dev.o Obj.TC_STATE = 2) (hfirst : 1 ≤ first.val) :
    Completes (.tcProcessData name none first [1, 0]) s (fun e => first.val ∈ e.ge.tcRows ∧ first.val + 1 ∉ e.ge.tcRows ∧ (∀ n ∈ s.dev.ge.tcRows, n ≠ first.val + 1 → n ∈ e.ge.tcRows) ∧ e.ge.tcRate = s.dev.ge.tcRate ∧ ({ s.dev with ge := e.ge, peers := e.peers } : Dev).ShowsOnly e ∧ OnlyObjects (fun _ => false) s.dev e) := by
  have hrows : (List.range [1, 0].length).foldl (fun l i => if 1 ≤ first.val + i ∧ first.val + i ≤ 128 then tcSection l (first.val + i) ([1, 0].getD i 3) else l) s.dev.ge.tcRows =
      (insertOnce first.val s.dev.ge.tcRows).filter (· != first.val + 1) := by
    have h1 : first.val ≤ 128 := by omega
    have h2 : first.val < 128 := by omega
    simp [List.range_succ, tcSection, hfirst, h1, h2]
  refine (tcProcessData_taken _ hserve hname htc hst hrows).mono fun e ⟨hge, hshow, hobj⟩ => ⟨?_, ?_, fun n hn hne => ?_, by rw [hge]; rfl, hshow, hobj⟩
  · simp [hge, mem_insertOnce]
  · simp [hge]
  · simp [hge, mem_insertOnce, hn, hne]

/-- Settles O40: the address claim, the peers and the Task Controller's connection, clause by clause. -/
theorem addressesAndTaskController : Obligations.AddressesAndTaskController :=
  ⟨addressClaimStart_claims, netAddrClaimed_claimed, addressContention_next, addressContention_none, addressContention_higher, peerAddressClaim_new, peerAddressClaim_gone,
    tcStatusMessage_opens, tcDdopUploadDone_complete, netTcLost_lost, tcProcessData_rate, tcProcessData_sections⟩

end Sys2Proof.Machine
end

section
/-! The sensor ports, O41 (R445 to R447). -/

namespace Sys2Proof.Machine

/-! ### What a command of a sensor port changes -/

/-- What a command of a sensor port changes beside objects. -/
def Dev.PortOnly : Dev → Dev → Prop := Dev.Outside fun x => { x with sps := [], blk := [], result := 0 }

theorem frame_port : Frame Dev.PortOnly := frame_outside _

theorem Dev.PortOnly.shows {d e : Dev} (h : d.PortOnly e) : ({ d with sps := e.sps, blk := e.blk, result := e.result } : Dev).ShowsOnly e :=
  Dev.showsOnly_iff.mpr ⟨(congrArg (fun x : Dev => ({ x with sps := e.sps, blk := e.blk, result := e.result } : Dev)) h.1 :), h.2⟩

theorem Dev.PortOnly.showsResult {d e : Dev} (h : d.PortOnly e) (hb : e.blk = d.blk) : ({ d with sps := e.sps, result := e.result } : Dev).ShowsOnly e := by
  have := h.shows
  rw [hb] at this
  exact this

theorem Dev.PortOnly.showsPort {d e : Dev} (h : d.PortOnly e) (hb : e.blk = d.blk) (hr : e.result = d.result) : ({ d with sps := e.sps } : Dev).ShowsOnly e := by
  have := h.shows
  rw [hb, hr] at this
  exact this

theorem Dev.portOnly_updSp (d : Dev) (p : Nat) (f : SpPort → SpPort) : d.PortOnly (d.updSp p f) := ⟨rfl, fun _ h => h⟩

theorem Dev.portOnly_setBlk (d : Dev) (k : Nat) (b : Bytes) : d.PortOnly (d.setBlk k b) := ⟨rfl, fun _ h => h⟩

theorem Dev.portOnly_res (d : Dev) (code : Nat) : d.PortOnly (d.res code) := ⟨rfl, fun _ h => h⟩

theorem Dev.onlyObjects_updSp (d : Dev) (p : Nat) (f : SpPort → SpPort) (ks : Nat → Bool) : OnlyObjects ks d (d.updSp p f) := ⟨fun _ _ _ => rfl⟩

theorem Dev.spOf_updSp (d : Dev) (p : Nat) (f : SpPort → SpPort) : (d.updSp p f).spOf p = f (d.spOf p) := Tab.get_upd_same _ _ _ _

theorem Dev.spOf_settle (d : Dev) (p : Nat) : d.settle.spOf p = d.spOf p := by simp [Dev.spOf]

/-! ### A queue's block (R445) -/

theorem find_put (t : Tab Bytes) (q : Nat) (b : Bytes) : (Tab.put t q b).find? (fun e => e.1 == q) = some (q, b) := by
  induction t with
  | nil => simp [Tab.put]
  | cons e t ih =>
    unfold Tab.put
    split
    · simp
    · next hne =>
      split
      · simp
      · rw [List.find?_cons_of_neg (by simpa using hne), ih]

theorem portKeys (p : Fin 3) (q : Fin 4) : isStatus (at' Obj.QUEUE_NEXT p + q) = false ∧ at' Obj.QUEUE_NEXT p + q ≠ at' Obj.STARTS p ∧ at' Obj.QUEUE_NEXT p + q ≠ at' Obj.STATE_3480 p ∧
    isStatus (at' Obj.STARTS p) = false ∧ isStatus (at' Obj.STATE_3480 p) = false ∧ at' Obj.STARTS p ≠ at' Obj.STATE_3480 p ∧ at' Obj.SEL_MODE p ≠ at' Obj.STARTS p ∧ at' Obj.SEL_SETUP p ≠ at' Obj.STARTS p ∧
    isStatus (at' Obj.DROPPED_3480 p) = false ∧ isTraceCount (at' Obj.DROPPED_3480 p) = false := by
  revert q p
  decide

theorem selKeys (p : Fin 3) : isStatus (at' Obj.SEL_MODE p) = false ∧ isStatus (at' Obj.SEL_SETUP p) = false := by
  revert p
  decide

theorem Dev.spOf_setO (d : Dev) (p k : Nat) (v : Int) : (d.setO k v).spOf p = d.spOf p := rfl

/-- A written object and a result leave the ports as they are. -/
theorem Dev.spOf_shown (d : Dev) (p k : Nat) (v : Int) (code : Nat) : ((d.setO k v).res code).spOf p = d.spOf p := rfl

theorem spQueueWrite_stored (s : State) (p : Fin 3) (q : Fin 4) (b : Bytes) (hserve : s.dev.phase = .service) (hok : spBlockOk b = true) (hidle : (s.dev.spOf p).run = none) :
    Completes (.spQueueWrite p q b) s (fun e => e.result = 0 ∧ e.spQueue p q = b ∧ e.o (at' Obj.QUEUE_NEXT p + q) = 0 ∧ ({ s.dev with sps := e.sps, blk := e.blk, result := e.result } : Dev).ShowsOnly e ∧ OnlyObjects (fun k => k == at' Obj.QUEUE_NEXT p + q) s.dev e) := by
  have hwait := s.dev.spOf_updSp p fun x => { x with wait := Tab.put x.wait q b }
  have hframe := s.dev.portOnly_updSp p fun x => { x with wait := Tab.put x.wait q b }
  have hobj := s.dev.onlyObjects_updSp p (fun x => { x with wait := Tab.put x.wait q b }) fun k => k == at' Obj.QUEUE_NEXT p + q
  have heq : s.dev.spQueueWrite p q b = ((s.dev.updSp p (fun s => { s with wait := Tab.put s.wait q.val b })).when
      (((s.dev.updSp p (fun s => { s with wait := Tab.put s.wait q.val b })).spOf p).run.all (fun r => r.1 != q.val)) (fun d => d.spRenew p q)).res 0 := if_neg (by simp [hok])
  generalize s.dev.updSp p (fun s => { s with wait := Tab.put s.wait q.val b }) = x at *
  have hrenew : x.when ((x.spOf p).run.all (fun r => r.1 != q.val)) (fun d => d.spRenew p q) = ((x.updSp p (fun s => { s with wait := Tab.del s.wait q })).setBlk (at' Obj.QUEUE p + q) b).setO (at' Obj.QUEUE_NEXT p + q) 0 := by
    rw [Dev.when, if_pos (by simp [hwait, hidle]), Dev.spRenew, hwait]
    simp only [find_put]
  refine completes_serve_eq _ rfl hserve (heq.trans (congrArg (fun d => Dev.res d 0) hrenew)) ⟨by simp [Dev.res], ?_, ?_, ?_, ?_⟩
  · rw [Dev.spQueue, Dev.block_settle]
    exact Tab.get_set_same _ _ _ _
  · rw [Dev.o_settle _ (portKeys p q).1, Dev.o_res, Dev.o_setO_same]
  · exact (frame_port.settle (frame_port.trans (frame_port.setO (frame_port.trans (frame_port.trans hframe (Dev.portOnly_updSp _ _ _)) (Dev.portOnly_setBlk _ _ _)) _ _) (Dev.portOnly_res _ _))).shows
  · have hblk : OnlyObjects (fun k => k == at' Obj.QUEUE_NEXT p + q) s.dev ((x.updSp p (fun s => { s with wait := Tab.del s.wait q })).setBlk (at' Obj.QUEUE p + q) b) := hobj.trans ⟨fun _ _ _ => rfl⟩
    exact ((hblk.setO _ _ (by simp)).of_obj (Dev.res_obj _ _)).settle

theorem spQueueWrite_refused (s : State) (p : Fin 3) (q : Fin 4) (b : Bytes) (hserve : s.dev.phase = .service) (hbad : spBlockOk b = false) :
    Completes (.spQueueWrite p q b) s (fun e => e.result = 0x30000003 ∧ ({ s.dev with result := e.result } : Dev).ShowsOnly e ∧ OnlyObjects (fun _ => false) s.dev e) :=
  completes_serve_result _ rfl hserve (if_pos (by simp [hbad])) fun _ hr hf ho => ⟨hr, hf, ho⟩

/-! ### A start (R446) -/

/-- A START of one of the four queues starts it (R446). -/
theorem Dev.spStartWrite_eq (d : Dev) (p : Nat) (q : Fin 4) : d.spStartWrite p (q : Nat) = (d.spStart p q none).res 0 := if_neg (by omega)

theorem Dev.applyWrites_none {d : Dev} (h : d.writes = []) (own : Nat → Bool) : d.applyWrites own = d := by
  rw [Dev.applyWrites, h]
  change ({ d with writes := [] } : Dev) = d
  rw [← h]

theorem spStart_runs (s : State) (p : Fin 3) (q : Fin 4) (hserve : s.dev.phase = .service) (hwrites : s.dev.writes = []) (hqueue : s.dev.spQueue p q ≠ []) (hidle : (s.dev.spOf p).run = none) (hmode : s.dev.o (at' Obj.SEL_MODE p) = 0) :
    Completes (.spStart p q) s (fun e => e.result = 0 ∧ e.o (at' Obj.STARTS p) = wrapU32 (s.dev.o (at' Obj.STARTS p) + 1) ∧ e.o (at' Obj.STATE_3480 p) = (q.val + 1 : Nat) ∧ (e.spOf p).run = some (q.val, s.dev.n (at' Obj.QUEUE_NEXT p + q)) ∧
      (e.spOf p).wall = s.dev.wall + 50 + s.dev.n (at' Obj.SEL_SETUP p) ∧ ({ s.dev with sps := e.sps, result := e.result } : Dev).ShowsOnly e ∧ OnlyObjects (fun k => k == at' Obj.STARTS p || k == at' Obj.STATE_3480 p) s.dev e) := by
  obtain ⟨-, hn1, hn2, hs1, hs2, hne, hm, hset, -, -⟩ := portKeys p q
  have hstart : s.dev.spStart p q none = (s.dev.addWrap (at' Obj.STARTS p)).spRun p q 0 := by
    rw [Dev.spStart]
    rw [if_neg hqueue, if_pos (by simp [hidle])]
    rfl
  have hcount : (s.dev.addWrap (at' Obj.STARTS p)).o (at' Obj.STARTS p) = wrapU32 (s.dev.o (at' Obj.STARTS p) + 1) := Dev.o_setO_same _ _ _
  have hcobj : OnlyObjects (fun k => k == at' Obj.STARTS p) s.dev (s.dev.addWrap (at' Obj.STARTS p)) := (OnlyObjects.refl _).addWrap _ _ (by simp)
  have hcshow : s.dev.ShowsOnly (s.dev.addWrap (at' Obj.STARTS p)) := frame_shows.addWrap (frame_shows.refl _) _ _
  generalize s.dev.addWrap (at' Obj.STARTS p) = x at *
  have hrun : x.spRun p q 0 = ((x.updSp p (fun s => { s with wall := x.wall + 50 + x.n (at' Obj.SEL_SETUP p), track := 0 })).updSp p (fun s => { s with run := some (q.val, x.n (at' Obj.QUEUE_NEXT p + q)) })).setO (at' Obj.STATE_3480 p) (q + 1 : Nat) := by
    rw [Dev.spRun, Dev.applyWrites_none (hcshow.writes.trans hwrites)]
    have hsel : (x.updSp p (fun s => { s with wall := x.wall + 50 + x.n (at' Obj.SEL_SETUP p), track := 0 })).o (at' Obj.SEL_MODE p) = 0 :=
      (hcobj.same (at' Obj.SEL_MODE p) (by simpa using hm) (selKeys p).1).trans hmode
    rw [Dev.spBegin]
    simp only []
    rw [if_neg fun h => by rw [hsel] at h; exact absurd h.1 (by decide)]
    rfl
  have hset' : x.n (at' Obj.SEL_SETUP p) = s.dev.n (at' Obj.SEL_SETUP p) := Dev.n_eq (hcobj.same _ (by simpa using hset) (selKeys p).2)
  have hnext : x.n (at' Obj.QUEUE_NEXT p + q) = s.dev.n (at' Obj.QUEUE_NEXT p + q) := Dev.n_eq (hcobj.same _ (by simpa using hn1) (portKeys p q).1)
  refine completes_serve_eq _ rfl hserve ((s.dev.spStartWrite_eq p q).trans (congrArg (fun d => Dev.res d 0) (hstart.trans hrun))) ?_
  rw [hset', hnext, hcshow.wall]
  generalize s.dev.wall + 50 + s.dev.n (at' Obj.SEL_SETUP p) = w
  refine ⟨by simp [Dev.res], ?_, ?_, ?_, ?_, ?_, ?_⟩
  · rw [Dev.o_settle _ hs1, Dev.o_res, Dev.o_setO_other _ _ hne]
    exact hcount
  · rw [Dev.o_settle _ hs2, Dev.o_res, Dev.o_setO_same]
  · rw [Dev.spOf_settle, Dev.spOf_shown, Dev.spOf_updSp]
  · rw [Dev.spOf_settle, Dev.spOf_shown, Dev.spOf_updSp, Dev.spOf_updSp]
  · refine Dev.PortOnly.showsResult ?_ ?_
    · exact frame_port.settle (frame_port.trans (frame_port.setO (frame_port.trans (frame_port.trans (frame_port.shows hcshow) (Dev.portOnly_updSp _ _ _)) (Dev.portOnly_updSp _ _ _)) _ _) (Dev.portOnly_res _ _))
    · rw [Dev.settle_blk]
      exact hcshow.blk
  · refine (((((hcobj.mono fun k h => ?_).trans (Dev.onlyObjects_updSp _ _ _ _)).trans (Dev.onlyObjects_updSp _ _ _ _)).setO _ _ ?_).of_obj (Dev.res_obj _ _)).settle
    · simp only [h, Bool.true_or]
    · simp

theorem spStart_empty (s : State) (p : Fin 3) (q : Fin 4) (hserve : s.dev.phase = .service) (hqueue : s.dev.spQueue p q = []) :
    Completes (.spStart p q) s (fun e => e.result = 0 ∧ ({ s.dev with result := e.result } : Dev).ShowsOnly e ∧ OnlyObjects (fun _ => false) s.dev e) :=
  completes_serve_result 0 rfl hserve ((s.dev.spStartWrite_eq p q).trans (congrArg (fun d => Dev.res d 0) (if_pos hqueue))) fun _ hr hf ho => ⟨hr, hf, ho⟩

theorem spStart_dropped (s : State) (p : Fin 3) (q : Fin 4) (hserve : s.dev.phase = .service) (hqueue : s.dev.spQueue p q ≠ []) (hbusy : (s.dev.spOf p).run.isSome = true) (hpend : (s.dev.spOf p).pend.any (fun x => x.1 == q.val) = true) :
    Completes (.spStart p q) s (fun e => e.result = 0 ∧ e.o (at' Obj.DROPPED_3480 p) = satU32 (s.dev.o (at' Obj.DROPPED_3480 p) + 1) ∧ e.raised 0x19 ∧ ({ s.dev with result := e.result } : Dev).ShowsOnly e ∧ OnlyObjects (fun k => k == at' Obj.DROPPED_3480 p || isTraceCount k) s.dev e) := by
  obtain ⟨-, -, -, -, -, -, -, -, hst, htr⟩ := portKeys p q
  have hnone : (s.dev.spOf p).run.isNone = false := by
    rw [← Option.not_isSome, hbusy]
    rfl
  have hstart : s.dev.spStart p q none = (s.dev.addSat (at' Obj.DROPPED_3480 p)).event 0x19 := by
    rw [Dev.spStart]
    rw [if_neg hqueue, if_neg (by simp [hnone]), if_pos hpend]
  refine completes_serve_eq _ rfl hserve ((s.dev.spStartWrite_eq p q).trans (congrArg (fun d => Dev.res d 0) hstart)) ⟨by simp [Dev.res], ?_, ?_, ?_, ?_⟩
  · rw [Dev.o_settle _ hst, Dev.o_res, Dev.o_event _ _ htr]
    exact Dev.o_setO_same _ _ _
  · have hev : ((s.dev.addSat (at' Obj.DROPPED_3480 p)).event 0x19).raised 0x19 := by simp
    exact (Dev.raised_settle_iff _ _).mpr hev
  · have hframe : s.dev.PortOnly ((s.dev.addSat (at' Obj.DROPPED_3480 p)).event 0x19) := frame_port.event (frame_port.addSat (frame_port.refl _) _ _) _
    have hshow : s.dev.ShowsOnly ((s.dev.addSat (at' Obj.DROPPED_3480 p)).event 0x19) := frame_shows.event (frame_shows.addSat (frame_shows.refl _) _ _) _
    generalize (s.dev.addSat (at' Obj.DROPPED_3480 p)).event 0x19 = x at *
    have hall := (frame_port.settle (frame_port.trans hframe (x.portOnly_res 0))).showsResult (by rw [Dev.settle_blk]; exact hshow.blk)
    rw [Dev.settle_sps] at hall
    rw [show (x.res 0).sps = s.dev.sps from hshow.sps] at hall
    exact hall
  · exact ((((OnlyObjects.refl _).addSat _ _ (by simp)).event _ (by simp +contextual)).of_obj (Dev.res_obj _ _)).settle

/-! ### The end of a descriptor (R447) -/

/-- The units of a descriptor written from key `base` on (R447). -/
def Dev.received (d : Dev) (base units width : Nat) (rx : List Nat) : Dev :=
  (List.range units).foldl (fun d u => d.setO (base + u) ((rx.getD u 0 % 2 ^ width : Nat) : Int)) d

theorem Dev.o_received (d : Dev) (base units width : Nat) (rx : List Nat) (k : Nat) :
    (d.received base units width rx).o k = if base ≤ k ∧ k < base + units then ((rx.getD (k - base) 0 % 2 ^ width : Nat) : Int) else d.o k := by
  unfold Dev.received
  induction units with
  | zero => rw [if_neg (by omega)]; rfl
  | succ n ih =>
    rw [List.range_succ, List.foldl_append, List.foldl_cons, List.foldl_nil, Dev.o_setO, ih]
    by_cases hk : k = base + n
    · subst hk
      rw [if_pos rfl, if_pos (by omega), Nat.add_sub_cancel_left]
    · rw [if_neg hk]
      exact if_congr (by omega) rfl rfl

theorem Dev.showsOnly_received (d : Dev) (base units width : Nat) (rx : List Nat) : d.ShowsOnly (d.received base units width rx) :=
  Dev.shows_foldl (fun _ _ => Dev.showsOnly_setO _ _ _) _ _

/-- The keys of a descriptor's units, and those of the queue's end (R447). -/
theorem rxKeys (p : Fin 3) (q : Fin 4) (i : Fin 8) {k : Nat} (h1 : at' Obj.RX p + 32 * q + 4 * i ≤ k) (h2 : k < at' Obj.RX p + 32 * q + 4 * i + 4) : keyIdx k = keyIdx Obj.RX + p ∧ isStatus k = false ∧
    k ≠ at' Obj.CHAIN_WALL p + q ∧ k ≠ at' Obj.CHAIN_TRACK p + q ∧ k ≠ at' Obj.CHAINS_DONE p + q ∧ k ≠ at' Obj.QUEUE_NEXT p + q ∧ k ≠ at' Obj.STATE_3480 p := by
  simp only [at', Obj.RX, Obj.CHAIN_WALL, Obj.CHAIN_TRACK, Obj.CHAINS_DONE, Obj.QUEUE_NEXT, Obj.STATE_3480, keyIdx] at *
  refine ⟨by omega, isStatus_false ?_, ?_⟩
  · simp only [List.mem_cons, List.not_mem_nil, or_false, forall_eq_or_imp, forall_eq]
    omega
  · omega

theorem endKeys (p : Fin 3) (q : Fin 4) : (∀ k ∈ [at' Obj.CHAIN_WALL p + q, at' Obj.CHAIN_TRACK p + q, at' Obj.CHAINS_DONE p + q, at' Obj.QUEUE_NEXT p + q, at' Obj.STATE_3480 p], isStatus k = false) ∧
    [at' Obj.CHAIN_WALL p + q, at' Obj.CHAIN_TRACK p + q, at' Obj.CHAINS_DONE p + q, at' Obj.QUEUE_NEXT p + q, at' Obj.STATE_3480 p].Nodup := by
  revert q p
  decide

/-- The end of a chain of queue `q` that leaves the port idle (R447). -/
def Dev.chainEnded (d : Dev) (p q : Nat) : Dev :=
  (((((d.setO (at' Obj.CHAIN_WALL p + q) ((d.spOf p).wall : Int)).setO (at' Obj.CHAIN_TRACK p + q) (d.spOf p).track).addWrap (at' Obj.CHAINS_DONE p + q)).updSp p (fun s => { s with run := none })).setO (at' Obj.STATE_3480 p) 0)

/-- A chain that ends with no content waiting and no queue pending (R447). -/
theorem Dev.spChainEnd_plain {d : Dev} {p q : Nat} (hwait : (d.spOf p).wait = []) (hpend : (d.spOf p).pend = []) : d.spChainEnd p q = d.chainEnded p q := by
  rw [Dev.chainEnded]
  rw [Dev.spChainEnd]
  generalize hx : (((d.setO (at' Obj.CHAIN_WALL p + q) ((d.spOf p).wall : Int)).setO (at' Obj.CHAIN_TRACK p + q) (d.spOf p).track).addWrap (at' Obj.CHAINS_DONE p + q)) = x
  have hsp : x.spOf p = d.spOf p := by rw [← hx]; rfl
  have hsp' : ((x.updSp p (fun s => { s with run := none })).setO (at' Obj.STATE_3480 p) 0).spOf p = { d.spOf p with run := none } := by rw [Dev.spOf_setO, Dev.spOf_updSp, hsp]
  generalize (x.updSp p (fun s => { s with run := none })).setO (at' Obj.STATE_3480 p) 0 = y at *
  have hrenew : y.spRenew p q = y := by
    rw [Dev.spRenew, hsp']
    simp [hwait]
  simp only [hrenew, hsp', hpend]

theorem Dev.chainEnded_facts (d : Dev) (p : Fin 3) (q : Fin 4) : (d.chainEnded p q).o (at' Obj.CHAIN_WALL p + q) = (d.spOf p).wall ∧ (d.chainEnded p q).o (at' Obj.CHAIN_TRACK p + q) = (d.spOf p).track ∧
    (d.chainEnded p q).o (at' Obj.CHAINS_DONE p + q) = wrapU32 (d.o (at' Obj.CHAINS_DONE p + q) + 1) ∧ (d.chainEnded p q).o (at' Obj.STATE_3480 p) = 0 ∧ (d.chainEnded p q).spOf p = { d.spOf p with run := none } ∧
    d.PortOnly (d.chainEnded p q) ∧ (d.chainEnded p q).blk = d.blk ∧ (d.chainEnded p q).result = d.result ∧
    OnlyObjects (fun k => k == at' Obj.CHAIN_WALL p + q || k == at' Obj.CHAIN_TRACK p + q || k == at' Obj.CHAINS_DONE p + q || k == at' Obj.STATE_3480 p) d (d.chainEnded p q) := by
  obtain ⟨-, hnodup⟩ := endKeys p q
  simp only [List.nodup_cons, List.mem_cons, List.not_mem_nil, or_false, not_or, not_false_eq_true, List.nodup_nil, and_true] at hnodup
  obtain ⟨⟨hwt, hwd, hwn, hws⟩, ⟨htd, htn, hts⟩, ⟨hdn, hds⟩, hns⟩ := hnodup
  unfold Dev.chainEnded
  generalize at' Obj.CHAIN_WALL p + q = kw at *
  generalize at' Obj.CHAIN_TRACK p + q = kt at *
  generalize at' Obj.CHAINS_DONE p + q = kd at *
  generalize at' Obj.STATE_3480 p = ks at *
  generalize hx : ((d.setO kw ((d.spOf p).wall : Int)).setO kt (d.spOf p).track).addWrap kd = x
  have hshow : d.ShowsOnly x := by
    rw [← hx]
    exact frame_shows.addWrap (frame_shows.setO (Dev.showsOnly_setO _ _ _) _ _) _ _
  have hobj : OnlyObjects (fun k => k == kw || k == kt || k == kd || k == ks) d x := by
    rw [← hx]
    exact (((OnlyObjects.refl _).setO _ _ (by simp)).setO _ _ (by simp)).addWrap _ _ (by simp)
  have hsp : x.spOf p = d.spOf p := by
    rw [← hx]
    rfl
  have hsee (k : Nat) (h : k ≠ ks) : ((x.updSp p (fun s => { s with run := none })).setO ks 0).o k = x.o k := Dev.o_setO_other _ _ h
  refine ⟨?_, ?_, ?_, Dev.o_setO_same _ _ _, by rw [Dev.spOf_setO, Dev.spOf_updSp, hsp], ?_, hshow.blk, hshow.result, (hobj.trans (Dev.onlyObjects_updSp _ _ _ _)).setO _ _ (by simp)⟩
  · rw [hsee _ hws, ← hx, Dev.addWrap, Dev.o_setO_other _ _ hwd, Dev.o_setO_other _ _ hwt, Dev.o_setO_same]
  · rw [hsee _ hts, ← hx, Dev.addWrap, Dev.o_setO_other _ _ htd, Dev.o_setO_same]
  · rw [hsee _ hds, ← hx, Dev.addWrap, Dev.o_setO_same, Dev.o_setO_other _ _ (Ne.symm htd), Dev.o_setO_other _ _ (Ne.symm hwd)]
    rfl
  · exact frame_port.setO (frame_port.trans (frame_port.shows hshow) (Dev.portOnly_updSp _ _ _)) _ _

theorem spDescriptorEnd_ends (s : State) (p : Fin 3) (rx : List Nat) (q : Fin 4) (i : Fin 8) (halive : s.dev.alive = true) (hrun : (s.dev.spOf p).run = some (q.val, i.val)) (hchain : spChains (s.dev.spQueue p q) i = false)
    (hunits : byteAt (s.dev.spQueue p q) (7 + 20 * i) ≤ 4) (hpend : (s.dev.spOf p).pend = []) (hwait : (s.dev.spOf p).wait = []) :
    Completes (.spDescriptorEnd p rx) s (fun e => (∀ u : Fin 4, u.val < byteAt (s.dev.spQueue p q) (7 + 20 * i) → e.o (at' Obj.RX p + 32 * q + 4 * i + u) = (rx.getD u 0 % 2 ^ byteAt (s.dev.spQueue p q) (6 + 20 * i) : Nat)) ∧
      e.o (at' Obj.CHAIN_WALL p + q) = (s.dev.spOf p).wall ∧ e.o (at' Obj.CHAIN_TRACK p + q) = (s.dev.spOf p).track ∧ e.o (at' Obj.CHAINS_DONE p + q) = wrapU32 (s.dev.o (at' Obj.CHAINS_DONE p + q) + 1) ∧
      e.o (at' Obj.QUEUE_NEXT p + q) = spNext (s.dev.spQueue p q) i ∧ e.o (at' Obj.STATE_3480 p) = 0 ∧ (e.spOf p).run = none ∧ ({ s.dev with sps := e.sps } : Dev).ShowsOnly e ∧
      OnlyObjects (fun k => keyIdx k == keyIdx Obj.RX + p || k == at' Obj.CHAIN_WALL p + q || k == at' Obj.CHAIN_TRACK p + q || k == at' Obj.CHAINS_DONE p + q || k == at' Obj.QUEUE_NEXT p + q || k == at' Obj.STATE_3480 p) s.dev e) := by
  have heq : s.dev.spEnd p rx = ((s.dev.received (at' Obj.RX p + 32 * q + 4 * i) (byteAt (s.dev.spQueue p q) (7 + 20 * i)) (byteAt (s.dev.spQueue p q) (6 + 20 * i)) rx).setO (at' Obj.QUEUE_NEXT p + q) (spNext (s.dev.spQueue p q) i : Nat)).spChainEnd p q := by
    rw [Dev.spEnd, hrun]
    exact if_neg (by simp [hchain])
  have ho := s.dev.o_received (at' Obj.RX p + 32 * q + 4 * i) (byteAt (s.dev.spQueue p q) (7 + 20 * i)) (byteAt (s.dev.spQueue p q) (6 + 20 * i)) rx
  have hshow := s.dev.showsOnly_received (at' Obj.RX p + 32 * q + 4 * i) (byteAt (s.dev.spQueue p q) (7 + 20 * i)) (byteAt (s.dev.spQueue p q) (6 + 20 * i)) rx
  generalize byteAt (s.dev.spQueue p q) (7 + 20 * i) = units at *
  generalize byteAt (s.dev.spQueue p q) (6 + 20 * i) = width at *
  generalize spNext (s.dev.spQueue p q) i = next at *
  generalize s.dev.received _ units width rx = x at *
  have hsp : (x.setO (at' Obj.QUEUE_NEXT p + q) (next : Nat)).spOf p = s.dev.spOf p := by rw [Dev.spOf_setO, Dev.spOf, hshow.sps]; rfl
  have hyshow : s.dev.ShowsOnly (x.setO (at' Obj.QUEUE_NEXT p + q) (next : Nat)) := frame_shows.setO hshow _ _
  obtain ⟨hstatus, hnodup⟩ := endKeys p q
  have hy (k : Nat) : (x.setO (at' Obj.QUEUE_NEXT p + q) (next : Nat)).o k = if k = at' Obj.QUEUE_NEXT p + q then (next : Int) else x.o k := Dev.o_setO _ _ _ _
  generalize x.setO (at' Obj.QUEUE_NEXT p + q) (next : Nat) = y at *
  have hend := Dev.spChainEnd_plain (q := q.val) (hsp ▸ hwait) (hsp ▸ hpend)
  refine completes_live_eq _ rfl halive (heq.trans hend) ?_
  clear heq hend
  simp only [List.nodup_cons, List.mem_cons, List.not_mem_nil, or_false, not_or, not_false_eq_true, List.nodup_nil, and_true] at hnodup
  obtain ⟨⟨-, -, hwn, -⟩, ⟨-, htn, -⟩, ⟨hdn, -⟩, hns⟩ := hnodup
  have hrx (k : Nat) (h1 : at' Obj.RX p + 32 * q + 4 * i ≤ k) (h2 : k < at' Obj.RX p + 32 * q + 4 * i + 4) := rxKeys p q i h1 h2
  generalize at' Obj.RX p + 32 * q + 4 * i = base at *
  have hrxne (k : Nat) (hk : k ∈ [at' Obj.CHAIN_WALL p + q, at' Obj.CHAIN_TRACK p + q, at' Obj.CHAINS_DONE p + q, at' Obj.QUEUE_NEXT p + q, at' Obj.STATE_3480 p]) : x.o k = s.dev.o k := (ho k).trans (if_neg fun h => by
    obtain ⟨-, -, g1, g2, g3, g4, g5⟩ := hrx k h.1 (by omega)
    simp only [List.mem_cons, List.not_mem_nil, or_false] at hk
    tauto)
  have hdone := hrxne (at' Obj.CHAINS_DONE p + q) (by simp)
  have hyobj : OnlyObjects (fun k => keyIdx k == keyIdx Obj.RX + p || k == at' Obj.QUEUE_NEXT p + q) s.dev y := ⟨fun k hk _ => by
    simp only [Bool.or_eq_false_iff, beq_eq_false_iff_ne] at hk
    rw [hy, if_neg hk.2, ho, if_neg fun h => hk.1 (hrx k h.1 (by omega)).1]⟩
  obtain ⟨hzw, hzt, hzd, hzs, hzsp, hzf, hzb, hzr, hzobj⟩ := y.chainEnded_facts p q
  generalize y.chainEnded p q = z at *
  have hlast (k : Nat) (hk : isStatus k = false) (h : k ≠ at' Obj.CHAIN_WALL p + q ∧ k ≠ at' Obj.CHAIN_TRACK p + q ∧ k ≠ at' Obj.CHAINS_DONE p + q ∧ k ≠ at' Obj.STATE_3480 p) : z.settle.o k = y.o k := by
    rw [Dev.o_settle _ hk, hzobj.same k (by simp [h]) hk]
  refine ⟨fun u hu => ?_, ?_, ?_, ?_, ?_, ?_, ?_, ?_, ?_⟩
  · obtain ⟨-, g0, g1, g2, g3, g4, g5⟩ := hrx (base + u) (by omega) (by omega)
    rw [hlast _ g0 ⟨g1, g2, g3, g5⟩, hy, if_neg g4, ho, if_pos (by omega), Nat.add_sub_cancel_left]
  · rw [Dev.o_settle _ (hstatus _ (by simp)), hzw, hsp]
  · rw [Dev.o_settle _ (hstatus _ (by simp)), hzt, hsp]
  · rw [Dev.o_settle _ (hstatus _ (by simp)), hzd, hy, if_neg hdn, hdone]
  · rw [hlast _ (hstatus _ (by simp)) ⟨Ne.symm hwn, Ne.symm htn, Ne.symm hdn, hns⟩, hy, if_pos rfl]
  · rw [Dev.o_settle _ (hstatus _ (by simp)), hzs]
  · rw [Dev.spOf_settle, hzsp]
  · refine Dev.PortOnly.showsPort (frame_port.settle (frame_port.trans (frame_port.shows hyshow) hzf)) ?_ ?_
    · rw [Dev.settle_blk, hzb, hyshow.blk]
    · rw [Dev.settle_result, hzr, hyshow.result]
  · refine ((hyobj.mono fun k h => ?_).trans (hzobj.mono fun k h => ?_)).settle
    · simp only [Bool.or_eq_true, beq_iff_eq] at h ⊢
      tauto
    · simp only [Bool.or_eq_true, beq_iff_eq] at h ⊢
      tauto

end Sys2Proof.Machine
end

section
/-! Errors and scrubbing of the protected memories, O41 (R454, R456, R458, R459). -/

namespace Sys2Proof.Machine

/-! ### What a step of a memory changes -/

/-- What a step of a memory changes beside objects. -/
def Dev.MemOnly : Dev → Dev → Prop := Dev.Outside fun x => { x with mems := [], pauses := [] }

theorem frame_mem : Frame Dev.MemOnly := frame_outside _

theorem Dev.MemOnly.shows {d e : Dev} (h : d.MemOnly e) : ({ d with mems := e.mems, pauses := e.pauses } : Dev).ShowsOnly e :=
  Dev.showsOnly_iff.mpr ⟨(congrArg (fun x : Dev => ({ x with mems := e.mems, pauses := e.pauses } : Dev)) h.1 :), h.2⟩

theorem Dev.memOnly_updMem (d : Dev) (i : Nat) (f : MemInst → MemInst) : d.MemOnly (d.updMem i f) := ⟨rfl, fun _ h => h⟩

theorem Dev.onlyObjects_updMem (d : Dev) (i : Nat) (f : MemInst → MemInst) (ks : Nat → Bool) : OnlyObjects ks d (d.updMem i f) := ⟨fun _ _ _ => rfl⟩

theorem Dev.memOf_updMem (d : Dev) (i : Nat) (f : MemInst → MemInst) : (d.updMem i f).memOf i = f (d.memOf i) := Tab.get_upd_same _ _ _ _

theorem Dev.memOf_settle (d : Dev) (i : Nat) : d.settle.memOf i = d.memOf i := by simp [Dev.memOf]

theorem Dev.pauseStart_mem (d : Dev) (op k : Nat) : (d.pauseStart op k).mems = d.mems ∧ d.MemOnly (d.pauseStart op k) ∧ (d.pauseStart op k).obj = d.obj := by
  unfold Dev.pauseStart
  split <;> exact ⟨rfl, ⟨rfl, fun _ h => h⟩, rfl⟩

theorem memHoles_pos (i : Nat) : 0 < memHoles i := by
  unfold memHoles
  split_ifs <;> decide

/-- A step of the scrubber that does not end its round (R458). -/
theorem Dev.scrubStep_on {d : Dev} {i err : Nat} (h : (d.memOf i).next + 1 < memWords i + memHoles i) : d.scrubStep i err =
    (match (if (d.memOf i).next < memWords i then some (d.memOf i).next else (d.memOf i).holes.getD ((d.memOf i).next - memWords i) none) with
      | some w => if err = 1 then d.correctable i w else if err = 2 then d.uncorrectable i w else d
      | none => d).updMem i (fun m => { m with next := m.next + 1 }) := if_neg (by omega)

/-- SCRUB_STEP without a pause in force (R458, R542). -/
theorem scrub_unpaused {d : Dev} {i : Nat} (h : d.pauses.contains i = false) (f : Dev → Dev) : d.when (!(d.pauses.contains i)) f = f d := if_pos (by rw [h]; rfl)

/-! ### Steps without and with a correctable error (R454, R458 to R460) -/

theorem scrubStep_good (s : State) (i : Fin 11) (halive : s.dev.alive = true) (hpause : s.dev.pauses.contains (i.val + 1) = false) (hnext : (s.dev.memOf (i + 1)).next + 1 < memWords (i + 1) + memHoles (i + 1)) :
    Completes (.scrubStep i 0) s (fun e => e.memOf (i + 1) = { s.dev.memOf (i + 1) with next := (s.dev.memOf (i + 1)).next + 1 } ∧ ({ s.dev with mems := e.mems, pauses := e.pauses } : Dev).ShowsOnly e ∧ OnlyObjects (fun _ => false) s.dev e) := by
  have hstep : s.dev.scrubStep (i.val + 1) 0 = s.dev.updMem (i.val + 1) (fun m => { m with next := m.next + 1 }) := by
    rw [Dev.scrubStep_on hnext]
    split <;> rfl
  have hmem := s.dev.memOf_updMem (i.val + 1) fun m => { m with next := m.next + 1 }
  have hframe := s.dev.memOnly_updMem (i.val + 1) fun m => { m with next := m.next + 1 }
  have hobj := s.dev.onlyObjects_updMem (i.val + 1) (fun m => { m with next := m.next + 1 }) fun _ => false
  refine completes_live_eq _ rfl halive ((scrub_unpaused hpause _).trans (congrArg (fun d => Dev.pauseStart d (i.val + 1) Obj.PAUSE_SCRUB_TB2) hstep)) ?_
  generalize s.dev.updMem (i.val + 1) _ = x at *
  obtain ⟨hpm, hpf, hpo⟩ := x.pauseStart_mem (i.val + 1) Obj.PAUSE_SCRUB_TB2
  generalize x.pauseStart (i.val + 1) Obj.PAUSE_SCRUB_TB2 = y at *
  refine ⟨?_, (frame_mem.settle (frame_mem.trans hframe hpf)).shows, (hobj.of_obj hpo).settle⟩
  rw [Dev.memOf_settle, Dev.memOf, hpm]
  exact hmem

theorem memKeys (i : Fin 11) : isStatus (el Obj.CE_COUNT (i + 1)) = false ∧ isStatus (el Obj.LEVEL (i + 1)) = false ∧ el Obj.CE_COUNT (i + 1) ≠ el Obj.LEVEL (i + 1) ∧ el Obj.BUCKET_DEPTH (i + 1) ≠ el Obj.CE_COUNT (i + 1) ∧
    isStatus (el Obj.UE_COUNT (i + 1)) = false ∧ isReaction (el Obj.UE_COUNT (i + 1)) = false ∧ el Obj.UE_COUNT (i + 1) ≠ Obj.LAST_UE_INSTANCE ∧ el Obj.UE_COUNT (i + 1) ≠ Obj.LAST_UE_OFFSET := by
  revert i
  decide

theorem scrubStep_correctable (s : State) (i : Fin 11) (halive : s.dev.alive = true) (hpause : s.dev.pauses.contains (i.val + 1) = false) (hnext : (s.dev.memOf (i + 1)).next < memWords (i + 1)) (hseen : (s.dev.memOf (i + 1)).seen = [])
    (hlevel : s.dev.n (el Obj.LEVEL (i + 1)) < s.dev.n (el Obj.BUCKET_DEPTH (i + 1))) :
    Completes (.scrubStep i 1) s (fun e => e.o (el Obj.CE_COUNT (i + 1)) = satU32 (s.dev.o (el Obj.CE_COUNT (i + 1)) + 1) ∧ e.o (el Obj.LEVEL (i + 1)) = s.dev.o (el Obj.LEVEL (i + 1)) + 1 ∧
      (s.dev.memOf (i + 1)).next ∈ (e.memOf (i + 1)).back ∧ (e.memOf (i + 1)).seen = [((s.dev.memOf (i + 1)).next, 1)] ∧ (e.memOf (i + 1)).next = (s.dev.memOf (i + 1)).next + 1 ∧ ({ s.dev with mems := e.mems, pauses := e.pauses } : Dev).ShowsOnly e ∧
      OnlyObjects (fun k => k == el Obj.CE_COUNT (i + 1) || k == el Obj.LEVEL (i + 1)) s.dev e) := by
  obtain ⟨hsc, hsl, hne, hdepth, -, -, -, -⟩ := memKeys i
  have hbucket : (s.dev.addSat (el Obj.CE_COUNT (i + 1))).bucket (i.val + 1) (s.dev.memOf (i + 1)).next =
      (s.dev.addSat (el Obj.CE_COUNT (i + 1))).setO (el Obj.LEVEL (i + 1)) (s.dev.o (el Obj.LEVEL (i + 1)) + 1) := by
    have hl : (s.dev.addSat (el Obj.CE_COUNT (i + 1))).o (el Obj.LEVEL (i + 1)) = s.dev.o (el Obj.LEVEL (i + 1)) := Dev.o_setO_other _ _ (Ne.symm hne)
    have hd : (s.dev.addSat (el Obj.CE_COUNT (i + 1))).n (el Obj.BUCKET_DEPTH (i + 1)) = s.dev.n (el Obj.BUCKET_DEPTH (i + 1)) := Dev.n_eq (Dev.o_setO_other _ _ hdepth)
    rw [Dev.bucket]
    refine (if_pos ?_).trans (by rw [hl])
    rw [Dev.n_eq hl, hd]
    exact hlevel
  have hce : ((s.dev.addSat (el Obj.CE_COUNT (i + 1))).setO (el Obj.LEVEL (i + 1)) (s.dev.o (el Obj.LEVEL (i + 1)) + 1)).o (el Obj.CE_COUNT (i + 1)) = satU32 (s.dev.o (el Obj.CE_COUNT (i + 1)) + 1) :=
    (Dev.o_setO_other _ _ hne).trans (Dev.o_setO_same _ _ _)
  have hle : ((s.dev.addSat (el Obj.CE_COUNT (i + 1))).setO (el Obj.LEVEL (i + 1)) (s.dev.o (el Obj.LEVEL (i + 1)) + 1)).o (el Obj.LEVEL (i + 1)) = s.dev.o (el Obj.LEVEL (i + 1)) + 1 := Dev.o_setO_same _ _ _
  have hxshow : s.dev.ShowsOnly ((s.dev.addSat (el Obj.CE_COUNT (i + 1))).setO (el Obj.LEVEL (i + 1)) (s.dev.o (el Obj.LEVEL (i + 1)) + 1)) := frame_shows.setO (frame_shows.addSat (frame_shows.refl _) _ _) _ _
  have hxobj : OnlyObjects (fun k => k == el Obj.CE_COUNT (i + 1) || k == el Obj.LEVEL (i + 1)) s.dev ((s.dev.addSat (el Obj.CE_COUNT (i + 1))).setO (el Obj.LEVEL (i + 1)) (s.dev.o (el Obj.LEVEL (i + 1)) + 1)) :=
    ((OnlyObjects.refl _).addSat _ _ (by simp)).setO _ _ (by simp)
  have hcorr : s.dev.correctable (i.val + 1) (s.dev.memOf (i + 1)).next = ((s.dev.addSat (el Obj.CE_COUNT (i + 1))).setO (el Obj.LEVEL (i + 1)) (s.dev.o (el Obj.LEVEL (i + 1)) + 1)).updMem (i.val + 1)
      (fun m => { m with seen := trackError m.seen (s.dev.memOf (i + 1)).next, back := insertOnce (s.dev.memOf (i + 1)).next m.back }) := by
    rw [Dev.correctable, hbucket]
    refine if_neg ?_
    rw [Dev.memOf_updMem, Dev.memOf, hxshow.mems]
    change ¬ ((trackError (s.dev.memOf (i.val + 1)).seen (s.dev.memOf (i + 1)).next).any _ = true)
    rw [hseen]
    simp [trackError]
  generalize (s.dev.addSat (el Obj.CE_COUNT (i + 1))).setO (el Obj.LEVEL (i + 1)) (s.dev.o (el Obj.LEVEL (i + 1)) + 1) = x at *
  have hxmem : x.memOf (i.val + 1) = s.dev.memOf (i.val + 1) := by rw [Dev.memOf, hxshow.mems]; rfl
  have hstep : s.dev.scrubStep (i.val + 1) 1 = (x.updMem (i.val + 1) (fun m => { m with seen := trackError m.seen (s.dev.memOf (i + 1)).next, back := insertOnce (s.dev.memOf (i + 1)).next m.back })).updMem (i.val + 1)
      (fun m => { m with next := m.next + 1 }) := by
    have := memHoles_pos (i.val + 1)
    rw [Dev.scrubStep_on (by omega), if_pos hnext]
    exact congrArg (fun d => Dev.updMem d (i.val + 1) fun m => { m with next := m.next + 1 }) ((if_pos rfl).trans hcorr)
  refine completes_live_eq _ rfl halive ((scrub_unpaused hpause _).trans (congrArg (fun d => Dev.pauseStart d (i.val + 1) Obj.PAUSE_SCRUB_TB2) hstep)) ?_
  have hframe : s.dev.MemOnly ((x.updMem (i.val + 1) (fun m => { m with seen := trackError m.seen (s.dev.memOf (i + 1)).next, back := insertOnce (s.dev.memOf (i + 1)).next m.back })).updMem (i.val + 1)
      (fun m => { m with next := m.next + 1 })) := frame_mem.trans (frame_mem.trans (frame_mem.shows hxshow) (Dev.memOnly_updMem _ _ _)) (Dev.memOnly_updMem _ _ _)
  have hmem : ((x.updMem (i.val + 1) (fun m => { m with seen := trackError m.seen (s.dev.memOf (i + 1)).next, back := insertOnce (s.dev.memOf (i + 1)).next m.back })).updMem (i.val + 1)
      (fun m => { m with next := m.next + 1 })).memOf (i.val + 1) = { s.dev.memOf (i + 1) with
        seen := [((s.dev.memOf (i + 1)).next, 1)], back := insertOnce (s.dev.memOf (i + 1)).next (s.dev.memOf (i + 1)).back, next := (s.dev.memOf (i + 1)).next + 1 } := by
    rw [Dev.memOf_updMem, Dev.memOf_updMem, hxmem, hseen]
    rfl
  have hyobj := (hxobj.trans (Dev.onlyObjects_updMem x (i.val + 1) (fun m => { m with seen := trackError m.seen (s.dev.memOf (i + 1)).next, back := insertOnce (s.dev.memOf (i + 1)).next m.back }) _)).trans
    (Dev.onlyObjects_updMem _ (i.val + 1) (fun m => { m with next := m.next + 1 }) _)
  have hy (k : Nat) : ((x.updMem (i.val + 1) (fun m => { m with seen := trackError m.seen (s.dev.memOf (i + 1)).next, back := insertOnce (s.dev.memOf (i + 1)).next m.back })).updMem (i.val + 1)
      (fun m => { m with next := m.next + 1 })).o k = x.o k := rfl
  generalize (x.updMem (i.val + 1) _).updMem (i.val + 1) _ = y at *
  obtain ⟨hpm, hpf, hpo⟩ := y.pauseStart_mem (i.val + 1) Obj.PAUSE_SCRUB_TB2
  generalize y.pauseStart (i.val + 1) Obj.PAUSE_SCRUB_TB2 = z at *
  have hzmem : z.settle.memOf (i.val + 1) = { s.dev.memOf (i + 1) with
        seen := [((s.dev.memOf (i + 1)).next, 1)], back := insertOnce (s.dev.memOf (i + 1)).next (s.dev.memOf (i + 1)).back, next := (s.dev.memOf (i + 1)).next + 1 } := by
    rw [Dev.memOf_settle, Dev.memOf, hpm]
    exact hmem
  have hzo (k : Nat) (hk : isStatus k = false) : z.settle.o k = x.o k := by
    rw [Dev.o_settle _ hk, Dev.o, hpo]
    exact hy k
  refine ⟨(hzo _ hsc).trans hce, (hzo _ hsl).trans hle, ?_, ?_, ?_, (frame_mem.settle (frame_mem.trans hframe hpf)).shows, (hyobj.of_obj hpo).settle⟩
  · rw [hzmem]
    exact mem_insertOnce.mpr (Or.inl rfl)
  · rw [hzmem]
  · rw [hzmem]

/-! ### Write-backs and leaks (R454, R456, R459) -/

theorem memWriteBack_done (s : State) (i : Fin 11) (w : Nat) (halive : s.dev.alive = true) (hw : w < memWords (i + 1)) (hback : (s.dev.memOf (i + 1)).back.contains w = true) :
    Completes (.memWriteBack i w false 0) s (fun e => e.memOf (i + 1) = { s.dev.memOf (i + 1) with back := (s.dev.memOf (i + 1)).back.filter (· != w) } ∧ ({ s.dev with mems := e.mems } : Dev).ShowsOnly e ∧ OnlyObjects (fun _ => false) s.dev e) := by
  have hstep : s.dev.writeBack (i.val + 1) w false 0 = s.dev.updMem (i.val + 1) (fun m => { m with back := m.back.filter (· != w) }) := by
    rw [Dev.writeBack, if_neg (by omega)]
    refine (if_pos rfl).trans ?_
    rw [if_pos (by rw [hback]; rfl)]
  refine completes_live_eq _ rfl halive hstep ⟨?_, ?_, ?_⟩
  · rw [Dev.memOf_settle, Dev.memOf_updMem]
  · rw [Dev.settle_mems]
    exact frame_shows.settle (frame_shows.refl _)
  · exact (Dev.onlyObjects_updMem _ _ _ _).settle

theorem memWriteBack_overwritten (s : State) (i : Fin 11) (w : Nat) (halive : s.dev.alive = true) (hw : w < memWords (i + 1)) (hmark : s.dev.marked (i + 1) w = true) (hperm : (Tab.get {} (s.dev.memOf (i + 1)).words w).perm = false) :
    Completes (.memWriteBack i w true 0) s (fun e => e.marked (i + 1) w = false ∧ ({ s.dev with mems := e.mems } : Dev).ShowsOnly e ∧ OnlyObjects (fun _ => false) s.dev e) := by
  have hstep : s.dev.writeBack (i.val + 1) w true 0 = (s.dev.updMem (i.val + 1) (fun m => { m with back := m.back.filter (· != w) })).updMem (i.val + 1) (fun m => { m with words := Tab.del m.words w }) := by
    rw [Dev.writeBack, if_neg (by omega)]
    refine (if_neg (by simp [hperm])).trans ((if_pos (by simp)).trans ?_)
    rw [if_pos (by rw [show (Tab.get {} (s.dev.memOf (i.val + 1)).words w).poison = true from hmark]; simp)]
  refine completes_live_eq _ rfl halive hstep ⟨?_, ?_, ?_⟩
  · rw [Dev.marked, Dev.memOf_settle, Dev.memOf_updMem, Tab.get_del_same]
  · rw [Dev.settle_mems]
    exact frame_shows.settle (frame_shows.refl _)
  · exact ((Dev.onlyObjects_updMem _ _ _ _).trans (Dev.onlyObjects_updMem _ _ _ _)).settle

theorem bucketLeak_leaks (s : State) (i : Fin 11) (halive : s.dev.alive = true) (hlevel : 0 < s.dev.n (el Obj.LEVEL (i + 1))) :
    Completes (.bucketLeak i) s (fun e => e.o (el Obj.LEVEL (i + 1)) = s.dev.o (el Obj.LEVEL (i + 1)) - 1 ∧ s.dev.ShowsOnly e ∧ OnlyObjects (fun k => k == el Obj.LEVEL (i + 1)) s.dev e) := by
  refine completes_live_eq (s.dev.setO (el Obj.LEVEL (i + 1)) (s.dev.o (el Obj.LEVEL (i + 1)) - 1)) rfl halive (if_pos (by simpa using hlevel)) ⟨?_, ?_, ?_⟩
  · rw [Dev.o_settle _ (memKeys i).2.1, Dev.o_setO_same]
  · exact frame_shows.settle (Dev.showsOnly_setO _ _ _)
  · exact ((OnlyObjects.refl _).setO _ _ (by simp)).settle

/-! ### A step with an uncorrectable error (R454) -/

/-- What an uncorrectable error changes beside objects, events, the trace and what raising a fault changes. -/
def Dev.MarkRaises (d e : Dev) : Prop :=
  ({ e.unraised with mems := [], poison := [], pauses := [] } : Dev) = { d.unraised with mems := [], poison := [], pauses := [] } ∧ ∀ x ∈ d.evq, x ∈ e.evq

theorem Dev.MarkRaises.trans {a b c : Dev} (h : a.MarkRaises b) (g : b.MarkRaises c) : a.MarkRaises c := ⟨g.1.trans h.1, fun x hx => g.2 x (h.2 x hx)⟩

theorem Dev.RaisesOnly.marks {d e : Dev} (h : d.RaisesOnly e) : d.MarkRaises e := by
  obtain ⟨h1, h2⟩ := Dev.raisesOnly_iff.mp h
  exact ⟨congrArg (fun x : Dev => ({ x with mems := [], poison := [], pauses := [] } : Dev)) h1, h2⟩

theorem Dev.MemOnly.marks {d e : Dev} (h : d.MemOnly e) : d.MarkRaises e := ⟨(congrArg (fun x : Dev => ({ x.unraised with mems := [], poison := [], pauses := [] } : Dev)) h.1 :), h.2⟩

theorem Dev.MarkRaises.raises {d e : Dev} (h : d.MarkRaises e) : ({ d with mems := e.mems, poison := e.poison, pauses := e.pauses } : Dev).RaisesOnly e :=
  Dev.raisesOnly_iff.mpr ⟨(congrArg (fun x : Dev => ({ x with mems := e.mems, poison := e.poison, pauses := e.pauses } : Dev)) h.1 :), h.2⟩

/-- Word `w` marked with its object (R454). -/
def Dev.wordMarked (d : Dev) (i w : Nat) : Dev := (d.updWord i w (fun x => { x with poison := true, ue := true })).markObject i w

theorem Dev.wordMarked_facts (d : Dev) (i w : Nat) (ks : Nat → Bool) : (d.wordMarked i w).marked i w = true ∧ ((d.wordMarked i w).memOf i).next = (d.memOf i).next ∧ d.MarkRaises (d.wordMarked i w) ∧ OnlyObjects ks d (d.wordMarked i w) := by
  have hmem : (d.wordMarked i w).memOf i = { d.memOf i with words := Tab.upd {} (d.memOf i).words w (fun x => { x with poison := true, ue := true }) } := by
    rw [← Dev.memOf_updMem d i fun m => { m with words := Tab.upd {} m.words w (fun x => { x with poison := true, ue := true }) }]
    unfold Dev.wordMarked Dev.markObject
    split <;> rfl
  refine ⟨?_, (congrArg MemInst.next hmem :), ?_, ?_⟩
  · rw [Dev.marked, hmem, Tab.get_upd_same]
  · unfold Dev.wordMarked Dev.markObject
    split <;> exact ⟨rfl, fun _ h => h⟩
  · unfold Dev.wordMarked Dev.markObject
    split <;> exact ⟨fun _ _ _ => rfl⟩

/-- An uncorrectable error of word `w` (R454, R455). -/
theorem Dev.uncorrectable_facts (d : Dev) (i : Fin 11) (w : Nat) : (d.uncorrectable (i + 1) w).marked (i + 1) w = true ∧ ((d.uncorrectable (i + 1) w).memOf (i + 1)).next = (d.memOf (i + 1)).next ∧
    (d.uncorrectable (i + 1) w).o (el Obj.UE_COUNT (i + 1)) = satU32 (d.o (el Obj.UE_COUNT (i + 1)) + 1) ∧ (d.uncorrectable (i + 1) w).o Obj.LAST_UE_INSTANCE = (i.val + 1 : Nat) ∧
    (d.uncorrectable (i + 1) w).o Obj.LAST_UE_OFFSET = (4 * w : Nat) ∧ (d.uncorrectable (i + 1) w).raised 0xE0 ∧ (d.uncorrectable (i + 1) w).coll.log.getLast?.map LogRec.code = some 0xA0E0 ∧
    d.MarkRaises (d.uncorrectable (i + 1) w) ∧ OnlyObjects (fun k => k == el Obj.UE_COUNT (i + 1) || k == Obj.LAST_UE_INSTANCE || k == Obj.LAST_UE_OFFSET || isReaction k) d (d.uncorrectable (i + 1) w) := by
  obtain ⟨-, -, -, -, hs, hr, hi, ho⟩ := memKeys i
  obtain ⟨hmark, hnext, hframe, hobj⟩ := d.wordMarked_facts (i + 1) w fun k => k == el Obj.UE_COUNT (i + 1) || k == Obj.LAST_UE_INSTANCE || k == Obj.LAST_UE_OFFSET || isReaction k
  have hcount : (d.wordMarked (i + 1) w).o (el Obj.UE_COUNT (i + 1)) = d.o (el Obj.UE_COUNT (i + 1)) := ((d.wordMarked_facts (i + 1) w fun _ => false).2.2.2).same _ rfl hs
  have heq : d.uncorrectable (i + 1) w = (((((d.wordMarked (i + 1) w).addSat (el Obj.UE_COUNT (i + 1))).setO Obj.LAST_UE_INSTANCE ((i.val + 1 : Nat) : Int)).setO Obj.LAST_UE_OFFSET (4 * w : Nat)).event 0xE0).raise 0xA0E0 false (memSrc (i + 1) w) := rfl
  rw [heq]
  clear heq
  generalize d.wordMarked (i + 1) w = x at *
  generalize hy : ((x.addSat (el Obj.UE_COUNT (i + 1))).setO Obj.LAST_UE_INSTANCE ((i.val + 1 : Nat) : Int)).setO Obj.LAST_UE_OFFSET (4 * w : Nat) = y
  have hyshow : x.ShowsOnly y := by
    rw [← hy]
    exact frame_shows.setO (frame_shows.setO (frame_shows.addSat (frame_shows.refl _) _ _) _ _) _ _
  have hyobj : OnlyObjects (fun k => k == el Obj.UE_COUNT (i + 1) || k == Obj.LAST_UE_INSTANCE || k == Obj.LAST_UE_OFFSET || isReaction k) d y := by
    rw [← hy]
    exact ((hobj.addSat _ _ (by simp)).setO _ _ (by simp)).setO _ _ (by simp)
  have h1 : y.o (el Obj.UE_COUNT (i + 1)) = satU32 (d.o (el Obj.UE_COUNT (i + 1)) + 1) := by
    rw [← hy, Dev.o_setO_other _ _ ho, Dev.o_setO_other _ _ hi, Dev.addSat, Dev.o_setO_same, hcount]
    rfl
  have h2 : y.o Obj.LAST_UE_INSTANCE = (i.val + 1 : Nat) := by rw [← hy, Dev.o_setO_other _ _ (by decide), Dev.o_setO_same]
  have h3 : y.o Obj.LAST_UE_OFFSET = (4 * w : Nat) := by rw [← hy, Dev.o_setO_same]
  have hrest : x.RaisesOnly ((y.event 0xE0).raise 0xA0E0 false (memSrc (i + 1) w)) := frame_raises.raise (frame_raises.event hyshow.raises _) _ _ _
  have hlater : OnlyObjects isReaction y ((y.event 0xE0).raise 0xA0E0 false (memSrc (i + 1) w)) := ((OnlyObjects.refl _).event _ fun _ => isReaction_trace).raise _ _ _ fun _ h => h
  have hev : ((y.event 0xE0).raise 0xA0E0 false (memSrc (i + 1) w)).raised 0xE0 := Dev.raised_raise (by simp) _ _ _
  have hlog := (y.event 0xE0).lastCode_raise (code := 0xA0E0) false (memSrc (i + 1) w) (by decide)
  generalize (y.event 0xE0).raise 0xA0E0 false (memSrc (i + 1) w) = z at *
  have hmem : z.memOf (i + 1) = x.memOf (i + 1) := by
    obtain ⟨c, hc⟩ := hrest
    rw [Dev.memOf, hc.mems]
    rfl
  refine ⟨?_, by rw [hmem, hnext], ?_, ?_, ?_, hev, hlog, hframe.trans hrest.marks, hyobj.trans (hlater.mono fun k h => by simp [h])⟩
  · rw [Dev.marked, hmem]
    exact hmark
  · rw [hlater.same _ hr hs, h1]
  · rw [hlater.same _ (by decide) (by decide), h2]
  · rw [hlater.same _ (by decide) (by decide), h3]

theorem scrubStep_uncorrectable (s : State) (i : Fin 11) (halive : s.dev.alive = true) (hpause : s.dev.pauses.contains (i.val + 1) = false) (hnext : (s.dev.memOf (i + 1)).next < memWords (i + 1)) :
    Completes (.scrubStep i 2) s (fun e => e.marked (i + 1) (s.dev.memOf (i + 1)).next = true ∧ e.o (el Obj.UE_COUNT (i + 1)) = satU32 (s.dev.o (el Obj.UE_COUNT (i + 1)) + 1) ∧ e.o Obj.LAST_UE_INSTANCE = (i.val + 1 : Nat) ∧
      e.o Obj.LAST_UE_OFFSET = (4 * (s.dev.memOf (i + 1)).next : Nat) ∧ e.raised 0xE0 ∧ e.coll.log.getLast?.map LogRec.code = some 0xA0E0 ∧ ({ s.dev with mems := e.mems, poison := e.poison, pauses := e.pauses } : Dev).RaisesOnly e ∧
      OnlyObjects (fun k => k == el Obj.UE_COUNT (i + 1) || k == Obj.LAST_UE_INSTANCE || k == Obj.LAST_UE_OFFSET || isReaction k) s.dev e) := by
  obtain ⟨-, -, -, -, hs, -⟩ := memKeys i
  have hstep : s.dev.scrubStep (i.val + 1) 2 = (s.dev.uncorrectable (i + 1) (s.dev.memOf (i + 1)).next).updMem (i.val + 1) (fun m => { m with next := m.next + 1 }) := by
    have := memHoles_pos (i.val + 1)
    rw [Dev.scrubStep_on (by omega), if_pos hnext]
    rfl
  refine completes_live_eq _ rfl halive ((scrub_unpaused hpause _).trans (congrArg (fun d => Dev.pauseStart d (i.val + 1) Obj.PAUSE_SCRUB_TB2) hstep)) ?_
  obtain ⟨hmark, -, hcount, hinst, hoff, hev, hlog, hframe, hobj⟩ := s.dev.uncorrectable_facts i (s.dev.memOf (i + 1)).next
  generalize (s.dev.memOf (i + 1)).next = w at *
  generalize s.dev.uncorrectable (i + 1) w = x at *
  have hymem := x.memOf_updMem (i.val + 1) fun m => { m with next := m.next + 1 }
  have hyframe := x.memOnly_updMem (i.val + 1) fun m => { m with next := m.next + 1 }
  have hyobj : (x.updMem (i.val + 1) fun m => { m with next := m.next + 1 }).obj = x.obj := rfl
  generalize x.updMem (i.val + 1) _ = y at *
  obtain ⟨hpm, hpf, hpo⟩ := y.pauseStart_mem (i.val + 1) Obj.PAUSE_SCRUB_TB2
  generalize y.pauseStart (i.val + 1) Obj.PAUSE_SCRUB_TB2 = z at *
  have hzframe := frame_mem.settle (frame_mem.trans hyframe hpf)
  have hz (k : Nat) (hk : isStatus k = false) : z.settle.o k = x.o k := by
    rw [Dev.o_settle _ hk, Dev.o, hpo, hyobj]
    rfl
  refine ⟨?_, (hz _ hs).trans hcount, (hz _ (by decide)).trans hinst, (hz _ (by decide)).trans hoff, ?_, ?_, (hframe.trans hzframe.marks).raises, ((hobj.of_obj hyobj).of_obj hpo).settle⟩
  · rw [Dev.marked, Dev.memOf_settle, Dev.memOf, hpm]
    exact (congrArg (fun m : MemInst => (Tab.get {} m.words w).poison) hymem :).trans hmark
  · exact hzframe.shows.raised (d := { x with mems := _, pauses := _ }) hev
  · rw [hzframe.shows.coll (d := { x with mems := _, pauses := _ })]
    exact hlog

/-- Settles O41: the sensor ports' queues, starts and ends, and the errors, steps, write-backs and leaks of the protected memories, clause by clause. -/
theorem portsAndMemories : Obligations.PortsAndMemories :=
  ⟨spQueueWrite_stored, spQueueWrite_refused, spStart_runs, spStart_empty, spStart_dropped, spDescriptorEnd_ends, scrubStep_good, scrubStep_correctable, scrubStep_uncorrectable,
    memWriteBack_done, memWriteBack_overwritten, bucketLeak_leaks⟩

end Sys2Proof.Machine
end

section
/-! How a session opens, lives and closes by units, O42 (R389, R390, R394 to R396). -/

namespace Sys2Proof.Machine

/-! ### Responses (R389, R390) -/

/-- What the answer to a unit changes beside objects. -/
def Dev.AnswerOnly : Dev → Dev → Prop := Dev.Outside fun x => { x with sessions := [], result := 0, data := [], reply := [] }

theorem frame_answer : Frame Dev.AnswerOnly := frame_outside _

theorem Dev.AnswerOnly.shows {d e : Dev} (h : d.AnswerOnly e) : ({ d with sessions := e.sessions, result := e.result, data := e.data, reply := e.reply } : Dev).ShowsOnly e :=
  Dev.showsOnly_iff.mpr ⟨(congrArg (fun x : Dev => ({ x with sessions := e.sessions, result := e.result, data := e.data, reply := e.reply } : Dev)) h.1 :), h.2⟩

theorem Dev.AnswerOnly.showsReply {d e : Dev} (h : d.AnswerOnly e) (hs : e.sessions = d.sessions) : ({ d with result := e.result, data := e.data, reply := e.reply } : Dev).ShowsOnly e := by
  have := h.shows
  rw [hs] at this
  exact this

theorem Dev.answerOnly_updSess (d : Dev) (n : Nat) (f : Session → Session) : d.AnswerOnly (d.updSess n f) := ⟨rfl, fun _ h => h⟩

theorem Dev.answerOnly_res (d : Dev) (code : Nat) : d.AnswerOnly (d.res code) := ⟨rfl, fun _ h => h⟩

theorem Dev.answerOnly_respond (d : Dev) (r : Req) (n : Nat) (key : Option Bytes) (data : Bytes) (last : Bool) : d.AnswerOnly (d.respond r n key data last) := ⟨rfl, fun _ h => h⟩

theorem Dev.respond_fields (d : Dev) (r : Req) (n : Nat) (key : Option Bytes) (data : Bytes) (last : Bool) : (d.respond r n key data last).obj = d.obj ∧ (d.respond r n key data last).result = d.result ∧
    (d.respond r n key data last).sessions = d.sessions ∧ (d.respond r n key data last).data = data := ⟨rfl, rfl, rfl, rfl⟩

theorem Dev.reply_respond_plain (d : Dev) (r : Req) (n : Nat) (data : Bytes) (last : Bool) : (d.respond r n none data last).reply = replyBytes r.op n r.seq r.index r.sub d.result data last := by
  simp [Dev.respond, replyBytes]

theorem Dev.reply_respond_mac (d : Dev) (r : Req) (n : Nat) (key data : Bytes) (last : Bool) : (d.respond r n (some key) data last).reply = replyMac key r.op n r.seq r.index r.sub d.result data last := by
  simp [Dev.respond, replyMac, replyBytes]

theorem Dev.settle_sess (d : Dev) (n : Nat) : d.settle.sess n = d.sess n := by simp [Dev.sess]

/-- A unit on a port that answers is taken by its OP (R387, R390). -/
theorem Dev.accept_challenge {d : Dev} {r : Req} {u : UnitIn} (hport : d.portOff r.path = false) (hop : r.op = 0x10) : d.accept r u = d.challenge r u := by
  rw [Dev.accept, if_neg (by simp [hport]), if_pos hop]

theorem Dev.accept_auth {d : Dev} {r : Req} {u : UnitIn} (hport : d.portOff r.path = false) (hop : r.op = 0x11) : d.accept r u = d.auth r := by
  rw [Dev.accept, if_neg (by simp [hport]), if_neg (by omega), if_pos hop]

theorem Dev.accept_session {d : Dev} {r : Req} {u : UnitIn} (hport : d.portOff r.path = false) (hop : r.op ∈ [1, 2, 3, 0x12, 0x13]) (hs : r.session ≠ 0) : d.accept r u = d.acceptIn r u := by
  have h10 : r.op ≠ 0x10 := by rintro h; rw [h] at hop; exact absurd hop (by decide)
  have h11 : r.op ≠ 0x11 := by rintro h; rw [h] at hop; exact absurd hop (by decide)
  rw [Dev.accept, if_neg (by simp [hport]), if_neg h10, if_neg h11, if_neg, if_neg hs]
  have hc : [1, 2, 3, 0x12, 0x13].contains r.op = true := List.contains_iff_mem.mpr hop
  simp only [hc, Bool.not_true, Bool.false_or, Bool.and_eq_true, beq_iff_eq, decide_eq_true_eq, not_and]
  exact fun h => absurd h hs

/-! ### CHALLENGE (R394, R397) -/

theorem freeSlot_bounds {d : Dev} {n : Nat} (h : d.freeSlot = some n) : 1 ≤ n ∧ n ≤ 8 := by
  have := List.mem_of_find?_eq_some h
  simp at this
  omega

/-- The objects of an opening session are four. -/
theorem sessKeys_nodup {n : Nat} (h : 1 ≤ n ∧ n ≤ 8) : (sessKeys n).Nodup ∧ ∀ k ∈ sessKeys n, isStatus k = false ∧ isTraceCount k = false := by
  obtain ⟨h1, h8⟩ := h
  interval_cases n <;> decide

/-- A session opened by a CHALLENGE (R394). -/
def Dev.opened (d : Dev) (n role path source : Nat) (x : Session) : Dev :=
  (((({ d with sessions := Tab.put d.sessions n x } : Dev).setO (el Obj.SESSION_STATE n) 1).setO (el Obj.SESSION_ROLE n) (role : Int)).setO (el Obj.SESSION_PATH n) (path : Int)).setO (el Obj.SESSION_PEER n) (source : Int)

theorem Dev.opened_facts (d : Dev) {n : Nat} (hn : 1 ≤ n ∧ n ≤ 8) (role path source : Nat) (x : Session) : (d.opened n role path source x).sess n = x ∧ (d.opened n role path source x).o (el Obj.SESSION_STATE n) = 1 ∧
    (d.opened n role path source x).o (el Obj.SESSION_ROLE n) = role ∧ (d.opened n role path source x).o (el Obj.SESSION_PATH n) = path ∧ (d.opened n role path source x).o (el Obj.SESSION_PEER n) = source ∧
    d.AnswerOnly (d.opened n role path source x) ∧
    OnlyObjects (fun k => k == el Obj.SESSION_STATE n || k == el Obj.SESSION_ROLE n || k == el Obj.SESSION_PATH n || k == el Obj.SESSION_PEER n) d (d.opened n role path source x) := by
  obtain ⟨hnodup, -⟩ := sessKeys_nodup hn
  simp only [sessKeys, List.nodup_cons, List.mem_cons, List.not_mem_nil, or_false, not_or, not_false_eq_true, List.nodup_nil, and_true] at hnodup
  obtain ⟨⟨h1, h2, h3⟩, ⟨h4, h5⟩, h6⟩ := hnodup
  have hsess : ({ d with sessions := Tab.put d.sessions n x } : Dev).sess n = x := Tab.get_put_same _ _ _ _
  have hframe : d.AnswerOnly ({ d with sessions := Tab.put d.sessions n x } : Dev) := ⟨rfl, fun _ h => h⟩
  have hobj (ks : Nat → Bool) : OnlyObjects ks d ({ d with sessions := Tab.put d.sessions n x } : Dev) := ⟨fun _ _ _ => rfl⟩
  unfold Dev.opened
  generalize ({ d with sessions := Tab.put d.sessions n x } : Dev) = y at *
  refine ⟨hsess, ?_, ?_, ?_, ?_, ?_, ?_⟩
  · rw [Dev.o_setO_other _ _ h3, Dev.o_setO_other _ _ h2, Dev.o_setO_other _ _ h1, Dev.o_setO_same]
  · rw [Dev.o_setO_other _ _ h5, Dev.o_setO_other _ _ h4, Dev.o_setO_same]
  · rw [Dev.o_setO_other _ _ h6, Dev.o_setO_same]
  · rw [Dev.o_setO_same]
  · exact frame_answer.setO (frame_answer.setO (frame_answer.setO (frame_answer.setO hframe _ _) _ _) _ _) _ _
  · exact ((((hobj _).setO _ _ (by simp)).setO _ _ (by simp)).setO _ _ (by simp)).setO _ _ (by simp)

theorem challenge_opens (s : State) (path : Path) (source seq role : Nat) (nc nd : Bytes) (n : Nat) (hserve : s.dev.phase = .service) (hport : s.dev.portOff path = false) (hnc : nc.length = 8) (hrole : 1 ≤ role ∧ role ≤ 4)
    (hbar : s.dev.barred.contains (pathNum path, source) = false) (havail : s.dev.roleAvailable role = true) (hfree : s.dev.freeSlot = some n) :
    Completes (.challenge path source seq role nc nd) s (fun e => e.result = 0 ∧ e.sessState n = 1 ∧ e.o (el Obj.SESSION_ROLE n) = role ∧ e.o (el Obj.SESSION_PATH n) = pathNum path ∧ e.o (el Obj.SESSION_PEER n) = source ∧
      (e.sess n).nc = nc ∧ (e.sess n).nd = nd ∧ e.reply = replyBytes 0x10 n seq 0 0 0 nd false ∧ ({ s.dev with sessions := e.sessions, result := e.result, data := e.data, reply := e.reply } : Dev).ShowsOnly e ∧
      OnlyObjects (fun k => k == el Obj.SESSION_STATE n || k == el Obj.SESSION_ROLE n || k == el Obj.SESSION_PATH n || k == el Obj.SESSION_PEER n) s.dev e) := by
  have hn := freeSlot_bounds hfree
  have heq : s.dev.accept (request path source 0x10 0 false seq 0 0 (role :: nc) []) { nd := nd, ok := true, bad := [] } =
      ((s.dev.opened n role (pathNum path) source { nc := nc, nd := nd, at_ := s.dev.wall }).res 0).respond (request path source 0x10 0 false seq 0 0 (role :: nc) []) n none nd false := by
    rw [Dev.accept_challenge hport rfl, Dev.challenge]
    refine (if_neg (by simp [request])).trans ((if_neg (by simp [request, hnc])).trans ((if_neg (show ¬ (role = 0 ∨ 4 < role) by omega)).trans ((if_neg (by simpa [request] using hbar)).trans
      ((if_neg (show ¬ (!(s.dev.roleAvailable role)) = true by simp [havail])).trans ?_))))
    rw [hfree]
    rfl
  obtain ⟨hsess, hst, hro, hpa, hpe, hframe, hobj⟩ := s.dev.opened_facts hn role (pathNum path) source { nc := nc, nd := nd, at_ := s.dev.wall }
  obtain ⟨-, hkeys⟩ := sessKeys_nodup hn
  refine completes_serve_eq _ rfl hserve heq ?_
  clear heq
  generalize s.dev.opened n role (pathNum path) source _ = x at *
  generalize hr : request path source 0x10 0 false seq 0 0 (role :: nc) [] = r
  obtain ⟨hyo, hyr, hys, -⟩ := (x.res 0).respond_fields r n none nd false
  have hreply := (x.res 0).reply_respond_plain r n nd false
  have hyframe := frame_answer.trans (frame_answer.trans hframe (x.answerOnly_res 0)) ((x.res 0).answerOnly_respond r n none nd false)
  generalize (x.res 0).respond r n none nd false = y at *
  have hy (k : Nat) (hk : k ∈ sessKeys n) : y.settle.o k = x.o k := by
    rw [Dev.o_settle _ (hkeys k hk).1, Dev.o, hyo]
    rfl
  have hysess : y.settle.sess n = { nc := nc, nd := nd, at_ := s.dev.wall } := by
    rw [Dev.settle_sess, Dev.sess, hys]
    exact hsess
  refine ⟨by rw [Dev.settle_result, hyr]; rfl, ?_, ?_, ?_, ?_, by rw [hysess], by rw [hysess], ?_, (frame_answer.settle hyframe).shows, ((hobj.of_obj (Dev.res_obj x 0)).of_obj hyo).settle⟩
  · rw [Dev.sessState, Dev.n, hy _ (by simp [sessKeys]), hst]
    rfl
  · rw [hy _ (by simp [sessKeys]), hro]
  · rw [hy _ (by simp [sessKeys]), hpa]
  · rw [hy _ (by simp [sessKeys]), hpe]
  · rw [Dev.settle_reply, hreply, ← hr]
    rfl

/-- A response to a unit without further effect (R390). -/
theorem respond_refuses {c : Instr} {s : State} {f : Dev → Dev} (r : Req) (n code : Nat) (h : exec c s = s.serve f) (hserve : s.dev.phase = .service) (hf : f s.dev = (s.dev.res code).respond r n none [] false) :
    Completes c s (fun e => e.result = code ∧ e.reply = replyBytes r.op n r.seq r.index r.sub code [] false ∧ ({ s.dev with result := e.result, data := e.data, reply := e.reply } : Dev).ShowsOnly e ∧ OnlyObjects (fun _ => false) s.dev e) := by
  refine completes_serve_eq _ h hserve hf ?_
  obtain ⟨hyo, hyr, hys, -⟩ := (s.dev.res code).respond_fields r n none [] false
  have hreply := (s.dev.res code).reply_respond_plain r n [] false
  have hyframe := frame_answer.trans (s.dev.answerOnly_res code) ((s.dev.res code).answerOnly_respond r n none [] false)
  generalize (s.dev.res code).respond r n none [] false = y at *
  refine ⟨by rw [Dev.settle_result, hyr]; rfl, by rw [Dev.settle_reply, hreply]; rfl, ?_, (((OnlyObjects.refl _).of_obj (Dev.res_obj s.dev code)).of_obj hyo).settle⟩
  exact (frame_answer.settle hyframe).showsReply (by rw [Dev.settle_sessions, hys]; rfl)

theorem challenge_refused (s : State) (path : Path) (source seq role : Nat) (nc nd : Bytes) (hserve : s.dev.phase = .service) (hport : s.dev.portOff path = false) (hnc : nc.length = 8)
    (hwhy : role = 0 ∨ 4 < role ∨ s.dev.barred.contains (pathNum path, source) = true ∨ s.dev.roleAvailable role = false) :
    Completes (.challenge path source seq role nc nd) s (fun e => e.result = (if role = 0 ∨ 4 < role then resRange else if s.dev.barred.contains (pathNum path, source) = true then 0x60000003 else 0x60000002) ∧
      e.reply = replyBytes 0x10 0 seq 0 0 e.result [] false ∧ ({ s.dev with result := e.result, data := e.data, reply := e.reply } : Dev).ShowsOnly e ∧ OnlyObjects (fun _ => false) s.dev e) := by
  refine (respond_refuses (request path source 0x10 0 false seq 0 0 (role :: nc) []) 0 (if role = 0 ∨ 4 < role then resRange else if s.dev.barred.contains (pathNum path, source) = true then 0x60000003 else 0x60000002) rfl hserve ?_).mono
    fun e ⟨h1, h2, h3, h4⟩ => ⟨h1, h2.trans (by rw [h1]; rfl), h3, h4⟩
  rw [Dev.accept_challenge hport rfl, Dev.challenge]
  refine (if_neg (by simp [request])).trans ((if_neg (by simp [request, hnc])).trans ?_)
  by_cases hrange : role = 0 ∨ 4 < role
  · rw [if_pos hrange]
    exact if_pos hrange
  · rw [if_neg hrange]
    refine (if_neg hrange).trans ?_
    by_cases hbar : s.dev.barred.contains (pathNum path, source) = true
    · rw [if_pos hbar]
      exact if_pos hbar
    · rw [if_neg hbar]
      have hnone : s.dev.roleAvailable role = false := by
        rcases hwhy with h | h | h | h
        · exact absurd (Or.inl h) hrange
        · exact absurd (Or.inr h) hrange
        · exact absurd h hbar
        · exact h
      exact (if_neg hbar).trans (if_pos (show (!(s.dev.roleAvailable role)) = true by rw [hnone]; rfl))

end Sys2Proof.Machine
end

section
/-! AUTH, CLOSE and KEEPALIVE by units, O42 (R392, R394 to R396). -/

namespace Sys2Proof.Machine

/-! ### AUTH (R394, R395) -/

/-- The guard of an AUTH that names an opening session of its peer (R394). -/
theorem auth_guard {d : Dev} {path : Path} {source n seq : Nat} {tag : Bytes} (hn : 1 ≤ n ∧ n ≤ 8) (hst : d.sessState n = 1) (hpath : d.n (el Obj.SESSION_PATH n) = pathNum path) (hpeer : d.n (el Obj.SESSION_PEER n) = source) :
    ¬ (!(decide (1 ≤ n) && decide (n ≤ 8) && d.sessState n == 1 && d.samePeer (request path source 0x11 n false seq 0 0 tag []))) = true := by
  simp [hn.1, hn.2, hst, Dev.samePeer, request, hpath, hpeer]

theorem Dev.sess_updSess (d : Dev) (n : Nat) (f : Session → Session) : (d.updSess n f).sess n = f (d.sess n) := Tab.get_upd_same _ _ _ _

theorem auth_opens (s : State) (path : Path) (source n seq : Nat) (hserve : s.dev.phase = .service) (hport : s.dev.portOff path = false) (hn : 1 ≤ n ∧ n ≤ 8) (hst : s.dev.sessState n = 1)
    (hpath : s.dev.n (el Obj.SESSION_PATH n) = pathNum path) (hpeer : s.dev.n (el Obj.SESSION_PEER n) = source) :
    Completes (.auth path source n seq (Config.aesCmac (s.dev.roleKey (s.dev.roleOf n)) (tagMessage (s.dev.roleOf n) n (s.dev.sess n)))) s (fun e => e.result = 0 ∧ e.sessState n = 2 ∧ e.raised 0xD6 ∧ (e.sess n).key = Config.aesCmac (s.dev.roleKey (s.dev.roleOf n)) (keyMessage n (s.dev.sess n)) ∧
      e.reply = replyMac (e.sess n).key 0x11 n seq 0 0 0 [] false ∧ ({ s.dev with sessions := e.sessions, result := e.result, data := e.data, reply := e.reply } : Dev).ShowsOnly e ∧ OnlyObjects (fun k => k == el Obj.SESSION_STATE n || isTraceCount k) s.dev e) := by
  generalize htag : Config.aesCmac (s.dev.roleKey (s.dev.roleOf n)) (tagMessage (s.dev.roleOf n) n (s.dev.sess n)) = tag
  generalize hkey : Config.aesCmac (s.dev.roleKey (s.dev.roleOf n)) (keyMessage n (s.dev.sess n)) = key
  generalize hr : request path source 0x11 n false seq 0 0 tag [] = r
  have heq : s.dev.accept r noInput = ((((s.dev.updSess n (fun x => { x with key := key, at_ := s.dev.wall })).setO (el Obj.SESSION_STATE n) 2).event 0xD6).res 0).respond r n (some key) [] false := by
    rw [← hr, Dev.accept_auth hport rfl, Dev.auth]
    refine (if_neg (auth_guard hn hst hpath hpeer)).trans ((if_neg ?_).trans ?_)
    · exact not_not.mpr htag.symm
    · rw [← hkey]
      rfl
  obtain ⟨-, hkeys⟩ := sessKeys_nodup hn
  obtain ⟨hk1, hk2⟩ := hkeys (el Obj.SESSION_STATE n) (by simp [sessKeys])
  have hxsess : (s.dev.updSess n (fun x => { x with key := key, at_ := s.dev.wall })).sess n = { s.dev.sess n with key := key, at_ := s.dev.wall } := Dev.sess_updSess _ _ _
  have hxframe := s.dev.answerOnly_updSess n (fun x => { x with key := key, at_ := s.dev.wall })
  have hxobj : OnlyObjects (fun k => k == el Obj.SESSION_STATE n || isTraceCount k) s.dev (s.dev.updSess n (fun x => { x with key := key, at_ := s.dev.wall })) := ⟨fun _ _ _ => rfl⟩
  refine completes_serve_eq _ (show exec (.auth path source n seq tag) s = s.serve (fun d => d.accept r noInput) from hr ▸ rfl) hserve heq ?_
  clear heq
  generalize s.dev.updSess n _ = x at *
  have hzst : ((x.setO (el Obj.SESSION_STATE n) 2).event 0xD6).o (el Obj.SESSION_STATE n) = 2 := (Dev.o_event _ _ hk2).trans (Dev.o_setO_same _ _ _)
  have hzev : ((x.setO (el Obj.SESSION_STATE n) 2).event 0xD6).raised 0xD6 := by simp
  have hzshow : x.ShowsOnly ((x.setO (el Obj.SESSION_STATE n) 2).event 0xD6) := frame_shows.event (Dev.showsOnly_setO _ _ _) _
  have hzobj := (hxobj.setO (el Obj.SESSION_STATE n) 2 (by simp)).event 0xD6 (by simp +contextual)
  generalize (x.setO (el Obj.SESSION_STATE n) 2).event 0xD6 = z at *
  obtain ⟨hyo, hyr, hys, -⟩ := (z.res 0).respond_fields r n (some key) [] false
  have hreply := (z.res 0).reply_respond_mac r n key [] false
  have hyframe := (z.res 0).answerOnly_respond r n (some key) [] false
  have hyev : ((z.res 0).respond r n (some key) [] false).raised 0xD6 := hzev
  generalize (z.res 0).respond r n (some key) [] false = y at *
  have hysess : y.settle.sess n = { s.dev.sess n with key := key, at_ := s.dev.wall } := by
    rw [Dev.settle_sess, Dev.sess, hys, ← hxsess, Dev.sess]
    exact congrArg (fun t => Tab.get {} t n) hzshow.sessions
  refine ⟨by rw [Dev.settle_result, hyr]; rfl, ?_, (Dev.raised_settle_iff _ _).mpr hyev, by rw [hysess], ?_, ?_, ((hzobj.of_obj (Dev.res_obj z 0)).of_obj hyo).settle⟩
  · have ho : y.settle.o (el Obj.SESSION_STATE n) = 2 := by
      rw [Dev.o_settle _ hk1, Dev.o, hyo]
      exact hzst
    simp [Dev.sessState, Dev.n, ho]
  · rw [Dev.settle_reply, hreply, hysess, ← hr]
    rfl
  · exact (frame_answer.settle (frame_answer.trans (frame_answer.trans (frame_answer.trans hxframe (frame_answer.shows hzshow)) (z.answerOnly_res 0)) hyframe)).shows

/-- What a wrong TAG and a CLOSE change beside objects. -/
def Dev.TagOnly : Dev → Dev → Prop := Dev.Outside fun x => { x with sessions := [], couriers := [], update := {}, wrongTags := [], result := 0, data := [], reply := [] }

theorem frame_tag : Frame Dev.TagOnly := frame_outside _

theorem Dev.TagOnly.shows {d e : Dev} (h : d.TagOnly e) :
    ({ d with sessions := e.sessions, couriers := e.couriers, update := e.update, wrongTags := e.wrongTags, result := e.result, data := e.data, reply := e.reply } : Dev).ShowsOnly e :=
  Dev.showsOnly_iff.mpr ⟨(congrArg (fun x : Dev => ({ x with sessions := e.sessions, couriers := e.couriers, update := e.update, wrongTags := e.wrongTags, result := e.result, data := e.data, reply := e.reply } : Dev)) h.1 :), h.2⟩

theorem Dev.TagOnly.showsClose {d e : Dev} (h : d.TagOnly e) (hw : e.wrongTags = d.wrongTags) :
    ({ d with sessions := e.sessions, couriers := e.couriers, update := e.update, result := e.result, data := e.data, reply := e.reply } : Dev).ShowsOnly e := by
  have := h.shows
  rw [hw] at this
  exact this

theorem Dev.AnswerOnly.tag {d e : Dev} (h : d.AnswerOnly e) : d.TagOnly e :=
  ⟨(congrArg (fun x : Dev => ({ x with sessions := [], couriers := [], update := {}, wrongTags := [], result := 0, data := [], reply := [] } : Dev)) h.1 :), h.2⟩

theorem Dev.SessEnd.tag {d e : Dev} (h : d.SessEnd e) : d.TagOnly e := by
  obtain ⟨h1, h2⟩ := Dev.sessEnd_iff.mp h
  exact ⟨(congrArg (fun x : Dev => ({ x with wrongTags := [], result := 0, data := [], reply := [] } : Dev)) h1 :), h2⟩

/-- A freed session with the wrong TAG counted (R394, R395). -/
def Dev.tagFailed (d : Dev) (n path source : Nat) : Dev := ({ d.freeSession n with wrongTags := [(path, source, d.wall)] }.addSat Obj.AUTH_FAILS).event 0xD8

theorem Dev.tagFailed_facts (d : Dev) {n : Nat} (hn : 1 ≤ n ∧ n ≤ 8) (path source : Nat) : (d.tagFailed n path source).o (el Obj.SESSION_STATE n) = 0 ∧ (d.tagFailed n path source).raised 0xD8 ∧
    (d.tagFailed n path source).o Obj.AUTH_FAILS = satU32 (d.o Obj.AUTH_FAILS + 1) ∧ (d.tagFailed n path source).wrongTags = [(path, source, d.wall)] ∧ d.TagOnly (d.tagFailed n path source) ∧
    OnlyObjects (fun k => k == Obj.AUTH_FAILS || isSession k || isTraceCount k) d (d.tagFailed n path source) := by
  obtain ⟨-, hkeys⟩ := sessKeys_nodup hn
  obtain ⟨hk1, hk2⟩ := hkeys (el Obj.SESSION_STATE n) (by simp [sessKeys])
  have hst : (d.freeSession n).o (el Obj.SESSION_STATE n) = 0 := (d.closed_freeSession hn.2).2
  have hcount : (d.freeSession n).o Obj.AUTH_FAILS = d.o Obj.AUTH_FAILS := (Dev.onlyObjects_freeSession (ks := isSession) (fun _ h => h) d hn.1 hn.2).same _ (by decide) (by decide)
  have hobj : OnlyObjects (fun k => k == Obj.AUTH_FAILS || isSession k || isTraceCount k) d (d.freeSession n) := Dev.onlyObjects_freeSession (by simp +contextual) d hn.1 hn.2
  have hframe := (d.sessEnd_freeSession n).tag
  unfold Dev.tagFailed
  generalize d.freeSession n = x at *
  have hne : el Obj.SESSION_STATE n ≠ Obj.AUTH_FAILS := by
    obtain ⟨h1, h8⟩ := hn
    interval_cases n <;> decide
  have hyframe : d.TagOnly ({ x with wrongTags := [(path, source, d.wall)] } : Dev) := frame_tag.trans hframe ⟨rfl, fun _ h => h⟩
  have hyobj : OnlyObjects (fun k => k == Obj.AUTH_FAILS || isSession k || isTraceCount k) d ({ x with wrongTags := [(path, source, d.wall)] } : Dev) := hobj.trans ⟨fun _ _ _ => rfl⟩
  have hyo (k : Nat) : ({ x with wrongTags := [(path, source, d.wall)] } : Dev).o k = x.o k := rfl
  have hytags : ({ x with wrongTags := [(path, source, d.wall)] } : Dev).wrongTags = [(path, source, d.wall)] := rfl
  generalize ({ x with wrongTags := [(path, source, d.wall)] } : Dev) = y at *
  refine ⟨?_, by simp, ?_, ?_, frame_tag.event (frame_tag.addSat hyframe _ _) _, (hyobj.addSat _ _ (by simp)).event _ (by simp +contextual)⟩
  · rw [Dev.o_event _ _ hk2, Dev.addSat, Dev.o_setO_other _ _ hne, hyo, hst]
  · rw [Dev.o_event _ _ (by decide), Dev.addSat, Dev.o_setO_same, hyo, hcount]
    rfl
  · exact ((frame_shows.event (frame_shows.addSat (frame_shows.refl y) _ _) _).wrongTags).trans hytags

theorem auth_wrongTag (s : State) (path : Path) (source n seq : Nat) (tag : Bytes) (hserve : s.dev.phase = .service) (hport : s.dev.portOff path = false) (hn : 1 ≤ n ∧ n ≤ 8) (hst : s.dev.sessState n = 1)
    (hpath : s.dev.n (el Obj.SESSION_PATH n) = pathNum path) (hpeer : s.dev.n (el Obj.SESSION_PEER n) = source) (htag : tag ≠ Config.aesCmac (s.dev.roleKey (s.dev.roleOf n)) (tagMessage (s.dev.roleOf n) n (s.dev.sess n))) (hnone : s.dev.wrongTags = []) :
    Completes (.auth path source n seq tag) s (fun e => e.result = 0x60000001 ∧ e.sessState n = 0 ∧ e.raised 0xD8 ∧ e.o Obj.AUTH_FAILS = satU32 (s.dev.o Obj.AUTH_FAILS + 1) ∧ e.wrongTags = [(pathNum path, source, s.dev.wall)] ∧
      e.reply = replyBytes 0x11 n seq 0 0 0x60000001 [] false ∧ ({ s.dev with sessions := e.sessions, couriers := e.couriers, update := e.update, wrongTags := e.wrongTags, result := e.result, data := e.data, reply := e.reply } : Dev).ShowsOnly e ∧ OnlyObjects (fun k => k == Obj.AUTH_FAILS || isSession k || isTraceCount k) s.dev e) := by
  generalize hr : request path source 0x11 n false seq 0 0 tag [] = r
  have heq : s.dev.accept r noInput = ((s.dev.tagFailed n (pathNum path) source).res resAuth).respond r n none [] false := by
    rw [← hr, Dev.accept_auth hport rfl, Dev.auth]
    refine (if_neg (auth_guard hn hst hpath hpeer)).trans ((if_pos htag).trans ?_)
    unfold Dev.wrongTag
    rw [hnone, List.filter_nil]
    refine congrArg (fun d => (Dev.res d resAuth).respond (request path source 0x11 n false seq 0 0 tag []) n none [] false) (if_neg ?_)
    simp only [List.filter_cons, List.filter_nil]
    split <;> simp
  obtain ⟨-, hkeys⟩ := sessKeys_nodup hn
  obtain ⟨hk1, hk2⟩ := hkeys (el Obj.SESSION_STATE n) (by simp [sessKeys])
  obtain ⟨hxst, hxev, hxcount, hxtags, hxframe, hxobj⟩ := s.dev.tagFailed_facts hn (pathNum path) source
  refine completes_serve_eq _ (show exec (.auth path source n seq tag) s = s.serve (fun d => d.accept r noInput) from hr ▸ rfl) hserve heq ?_
  clear heq
  generalize s.dev.tagFailed n (pathNum path) source = x at *
  obtain ⟨hyo, hyr, -, -⟩ := (x.res resAuth).respond_fields r n none [] false
  have hreply := (x.res resAuth).reply_respond_plain r n [] false
  have hyframe := frame_tag.trans (frame_tag.trans hxframe (x.answerOnly_res resAuth).tag) ((x.res resAuth).answerOnly_respond r n none [] false).tag
  have hyev : ((x.res resAuth).respond r n none [] false).raised 0xD8 := hxev
  have hytags : ((x.res resAuth).respond r n none [] false).wrongTags = [(pathNum path, source, s.dev.wall)] := hxtags
  generalize (x.res resAuth).respond r n none [] false = y at *
  have hy (k : Nat) (hk : isStatus k = false) : y.settle.o k = x.o k := by
    rw [Dev.o_settle _ hk, Dev.o, hyo]
    rfl
  refine ⟨by rw [Dev.settle_result, hyr]; rfl, ?_, (Dev.raised_settle_iff _ _).mpr hyev, (hy _ (by decide)).trans hxcount, by rw [Dev.settle_wrongTags, hytags], ?_, (frame_tag.settle hyframe).shows, ((hxobj.of_obj (Dev.res_obj x resAuth)).of_obj hyo).settle⟩
  · rw [Dev.sessState, Dev.n, hy _ hk1, hxst]
    rfl
  · rw [Dev.settle_reply, hreply, ← hr]
    rfl

theorem auth_discarded (s : State) (path : Path) (source n seq : Nat) (tag : Bytes) (hserve : s.dev.phase = .service) (hport : s.dev.portOff path = false) (hwhy : n = 0 ∨ 8 < n ∨ s.dev.sessState n = 0) :
    Completes (.auth path source n seq tag) s (fun e => e.reply = [] ∧ e.raised 0xD9 ∧ e.o Obj.UNIT_DISCARDS = satU32 (s.dev.o Obj.UNIT_DISCARDS + 1) ∧ e.sessions = s.dev.sessions ∧ ({ s.dev with reply := e.reply } : Dev).ShowsOnly e ∧ OnlyObjects (fun k => k == Obj.UNIT_DISCARDS || isTraceCount k) s.dev e) := by
  have hguard : (!(decide (1 ≤ n) && decide (n ≤ 8) && s.dev.sessState n == 1 && s.dev.samePeer (request path source 0x11 n false seq 0 0 tag []))) = true := by
    rcases hwhy with h | h | h
    · simp [h]
    · simp [show ¬ n ≤ 8 by omega]
    · simp [h]
  have hshow : ({ s.dev with reply := [] } : Dev).ShowsOnly (s.dev.drop.event 0xD9) := frame_shows.event (frame_shows.addSat (frame_shows.refl ({ s.dev with reply := [] } : Dev)) Obj.UNIT_DISCARDS 1) _
  have hst : ∀ m, 1 ≤ m → m ≤ 8 → (s.dev.drop.event 0xD9).sessState m = s.dev.sessState m := fun m h1 h8 => by
    refine Dev.n_eq ((Dev.o_event _ _ ?_).trans (Dev.o_setO_other _ _ ?_)) <;> interval_cases m <;> decide
  have heq : s.dev.accept (request path source 0x11 n false seq 0 0 tag []) noInput = s.dev.drop.event 0xD9 := by
    rw [Dev.accept_auth hport rfl, Dev.auth]
    refine (if_pos hguard).trans (if_neg ?_)
    rintro ⟨h1, h8, h2⟩
    rw [hst _ h1 h8] at h2
    change 1 ≤ n at h1
    change n ≤ 8 at h8
    change s.dev.sessState n = 2 at h2
    omega
  refine completes_serve_eq _ rfl hserve heq ⟨?_, ?_, ?_, ?_, ?_, ?_⟩
  · rw [Dev.settle_reply, hshow.reply]
  · simp
  · rw [Dev.o_settle _ (by decide), Dev.o_event _ _ (by decide)]
    exact Dev.o_setO_same _ _ _
  · rw [Dev.settle_sessions, hshow.sessions]
  · rw [Dev.settle_reply, hshow.reply]
    exact frame_shows.settle hshow
  · exact ((((OnlyObjects.refl s.dev).addSat Obj.UNIT_DISCARDS 1 (by simp)).of_obj (e := s.dev.drop) rfl).event _ (by simp +contextual)).settle

/-! ### CLOSE and KEEPALIVE (R392, R396) -/

theorem openFor_iff {d : Dev} {path : Path} {source n seq : Nat} : openFor d path source n seq = true ↔ (1 ≤ n ∧ n ≤ 8) ∧ d.sessState n = 2 ∧ d.n (el Obj.SESSION_PATH n) = pathNum path ∧ d.n (el Obj.SESSION_PEER n) = source ∧
    (d.sess n).seq.all (fun q => decide (q < seq)) = true ∧ d.outstanding n = false ∧ seq < 4294967295 ∧ d.portOff path = false := by
  simp only [openFor, Bool.and_eq_true, decide_eq_true_eq, beq_iff_eq, Bool.not_eq_true', and_assoc]

/-- A unit of an open session with its MAC and a new SEQ is accepted (R395). -/
theorem unitOk_of_openFor {d : Dev} {r : Req} (h : openFor d r.path r.source r.session r.seq = true) (hmac : r.mac = unitMac (d.sess r.session).key 0 r.header r.data) : d.unitOk r = true := by
  obtain ⟨⟨h1, h8⟩, hst, hpath, hpeer, hseq, -, -, -⟩ := openFor_iff.mp h
  unfold Dev.unitOk
  cases hs : (d.sess r.session).seq with
  | none =>
    simp only [h1, h8, hst, Dev.samePeer, hpath, hpeer, hmac, decide_true, beq_self_eq_true, Bool.and_true, Bool.true_and]
    rw [hs]
  | some q =>
    rw [hs] at hseq
    have hq : q < r.seq := by simpa using hseq
    simp only [h1, h8, hst, Dev.samePeer, hpath, hpeer, hmac, decide_true, beq_self_eq_true, Bool.and_true, Bool.true_and]
    rw [hs]
    simp [hq]

/-- The session of an accepted unit, with its SEQ (R392). -/
def Dev.heard (d : Dev) (r : Req) : Dev := d.updSess r.session (fun x => { x with seq := some r.seq, asked := r.header ++ r.data, at_ := d.wall })

/-- An accepted unit of an open session without outstanding courier is performed and answered (R392). -/
theorem Dev.acceptIn_performs {d : Dev} {r : Req} {u : UnitIn} (h : openFor d r.path r.source r.session r.seq = true) (hmac : r.mac = unitMac (d.sess r.session).key 0 r.header r.data) {e : Dev} {data : Bytes} {last : Bool}
    (hperf : (d.heard r).perform r ((d.heard r).roleOf r.session) u = (e, data, last)) (hout : e.outstanding r.session = false) :
    d.acceptIn r u = (e.answer r (d.sess r.session).key data last).when (r.op == 0x12) (fun d => d.closeSession r.session) := by
  obtain ⟨-, -, -, -, hseq, hbusy, hmax, -⟩ := openFor_iff.mp h
  have hnew : (d.sess r.session).seq ≠ some r.seq := by
    intro hs
    rw [hs] at hseq
    simp at hseq
  unfold Dev.acceptIn
  refine (if_neg (by simp [unitOk_of_openFor h hmac])).trans ?_
  simp only []
  rw [if_neg (by simp [hbusy]), if_neg hnew, hbusy]
  change Dev.when _ _ (if ((d.heard r).perform r ((d.heard r).roleOf r.session) u).1.outstanding r.session = true then { ((d.heard r).perform r ((d.heard r).roleOf r.session) u).1 with reply := [] } else
    ((d.heard r).perform r ((d.heard r).roleOf r.session) u).1.answer r (d.sess r.session).key ((d.heard r).perform r ((d.heard r).roleOf r.session) u).2.1 ((d.heard r).perform r ((d.heard r).roleOf r.session) u).2.2) = _
  rw [hperf, if_neg (by simp [hout])]
  have hne : (r.seq == 0xFFFFFFFF) = false := by simpa using hmax.ne
  rw [hne, Bool.not_false, Bool.and_true, Bool.or_false]

/-- An answered unit of a session: its response, kept with its session (R392). -/
theorem Dev.answer_facts (d : Dev) (r : Req) (key data : Bytes) (last : Bool) : (d.answer r key data last).result = d.result ∧
    (d.answer r key data last).sess r.session = { d.sess r.session with answer := d.result, data := data, last := last } ∧ (d.answer r key data last).obj = d.obj ∧
    (d.answer r key data last).reply = replyMac key r.op r.session r.seq r.index r.sub d.result data last ∧ d.AnswerOnly (d.answer r key data last) := by
  unfold Dev.answer
  have hx := d.sess_updSess r.session fun x => { x with answer := d.result, data := data, last := last }
  have hframe := d.answerOnly_updSess r.session fun x => { x with answer := d.result, data := data, last := last }
  have hres : (d.updSess r.session fun x => { x with answer := d.result, data := data, last := last }).result = d.result := rfl
  have hobj : (d.updSess r.session fun x => { x with answer := d.result, data := data, last := last }).obj = d.obj := rfl
  generalize d.updSess r.session _ = x at *
  obtain ⟨hyo, hyr, hys, -⟩ := x.respond_fields r r.session (some key) data last
  refine ⟨hyr.trans hres, ?_, hyo.trans hobj, ?_, frame_answer.trans hframe (x.answerOnly_respond _ _ _ _ _)⟩
  · rw [Dev.sess, hys]
    exact hx
  · rw [Dev.reply_respond_mac, hres]

theorem Dev.heard_facts (d : Dev) (r : Req) : (d.heard r).sess r.session = { d.sess r.session with seq := some r.seq, asked := r.header ++ r.data, at_ := d.wall } ∧ (d.heard r).obj = d.obj ∧ d.AnswerOnly (d.heard r) ∧
    ∀ n, (d.heard r).outstanding n = d.outstanding n := ⟨d.sess_updSess _ _, rfl, d.answerOnly_updSess _ _, fun _ => rfl⟩

/-- CLOSE or KEEPALIVE: the session is heard and answered by result 0 (R392, R396). -/
theorem Dev.acceptIn_plain {d : Dev} {r : Req} (h : openFor d r.path r.source r.session r.seq = true) (hmac : r.mac = unitMac (d.sess r.session).key 0 r.header r.data) (hop : r.op = 0x12 ∨ r.op = 0x13) :
    d.accept r noInput = (((d.heard r).res 0).answer r (d.sess r.session).key [] false).when (r.op == 0x12) (fun d => d.closeSession r.session) := by
  obtain ⟨⟨h1, -⟩, -, -, -, -, hout, -, hport⟩ := openFor_iff.mp h
  rw [Dev.accept_session hport (by rcases hop with h | h <;> simp [h]) (by omega)]
  refine Dev.acceptIn_performs h hmac ?_ hout
  unfold Dev.perform
  rw [if_neg (by omega), if_neg (by omega), if_neg (by omega)]

theorem keepalive_kept (s : State) (path : Path) (source n seq : Nat) (hserve : s.dev.phase = .service) (hopen : openFor s.dev path source n seq = true) :
    Completes (.keepalive path source n seq (macOf s.dev 0x13 n false seq 0 0 [])) s (fun e => e.result = 0 ∧ (e.sess n).seq = some seq ∧ (e.sess n).at_ = s.dev.wall ∧ e.reply = replyMac (s.dev.sess n).key 0x13 n seq 0 0 0 [] false ∧
      ({ s.dev with sessions := e.sessions, result := e.result, data := e.data, reply := e.reply } : Dev).ShowsOnly e ∧ OnlyObjects (fun _ => false) s.dev e) := by
  generalize hm : macOf s.dev 0x13 n false seq 0 0 [] = mac
  generalize hr : request path source 0x13 n false seq 0 0 [] mac = r
  have hplain := Dev.acceptIn_plain (d := s.dev) (r := r) (by rw [← hr]; exact hopen) (by rw [← hr, ← hm]; rfl) (by rw [← hr]; exact Or.inr rfl)
  have hop : (r.op == 0x12) = false := by rw [← hr]; rfl
  rw [hop] at hplain
  replace hplain := hplain.trans (if_neg Bool.false_ne_true)
  have hsession : r.session = n := by rw [← hr]; rfl
  have hseq : r.seq = seq := by rw [← hr]; rfl
  refine completes_serve_eq _ (show exec (.keepalive path source n seq mac) s = s.serve (fun d => d.accept r noInput) from hr ▸ rfl) hserve hplain ?_
  clear hplain
  obtain ⟨hhs, hho, hhf, -⟩ := s.dev.heard_facts r
  generalize s.dev.heard r = x at *
  obtain ⟨hyr, hys, hyo, hreply, hyf⟩ := (x.res 0).answer_facts r (s.dev.sess r.session).key [] false
  have hkey := hhs
  generalize (x.res 0).answer r (s.dev.sess r.session).key [] false = y at *
  have hysess : y.settle.sess n = { s.dev.sess n with seq := some seq, asked := r.header ++ r.data, at_ := s.dev.wall, answer := 0, data := [], last := false } := by
    rw [Dev.settle_sess, ← hsession, hys, ← hseq]
    exact congrArg (fun x : Session => ({ x with answer := 0, data := [], last := false } : Session)) hhs
  refine ⟨by rw [Dev.settle_result, hyr]; rfl, by rw [hysess], by rw [hysess], ?_, (frame_answer.settle (frame_answer.trans (frame_answer.trans hhf (x.answerOnly_res 0)) hyf)).shows, ?_⟩
  · rw [Dev.settle_reply, hreply, hsession, ← hr]
    rfl
  · exact ((((OnlyObjects.refl s.dev).of_obj hho).of_obj (Dev.res_obj x 0)).of_obj hyo).settle

theorem close_closed (s : State) (path : Path) (source n seq : Nat) (hserve : s.dev.phase = .service) (hopen : openFor s.dev path source n seq = true) :
    Completes (.close path source n seq (macOf s.dev 0x12 n false seq 0 0 [])) s (fun e => e.result = 0 ∧ e.sessState n = 0 ∧ e.raised 0xD7 ∧ Tab.get {} e.sessions n = {} ∧ e.reply = replyMac (s.dev.sess n).key 0x12 n seq 0 0 0 [] false ∧
      ({ s.dev with sessions := e.sessions, couriers := e.couriers, update := e.update, result := e.result, data := e.data, reply := e.reply } : Dev).ShowsOnly e ∧ OnlyObjects (fun k => isSession k || isTraceCount k) s.dev e) := by
  generalize hm : macOf s.dev 0x12 n false seq 0 0 [] = mac
  generalize hr : request path source 0x12 n false seq 0 0 [] mac = r
  have hplain := Dev.acceptIn_plain (d := s.dev) (r := r) (by rw [← hr]; exact hopen) (by rw [← hr, ← hm]; rfl) (by rw [← hr]; exact Or.inl rfl)
  have hop : (r.op == 0x12) = true := by rw [← hr]; rfl
  rw [hop] at hplain
  have hsession : r.session = n := by rw [← hr]; rfl
  replace hplain : s.dev.accept r noInput = (((s.dev.heard r).res 0).answer r (s.dev.sess r.session).key [] false).closeSession n := hsession ▸ hplain.trans (if_pos rfl)
  obtain ⟨hn, hst, -⟩ := openFor_iff.mp hopen
  refine completes_serve_eq _ (show exec (.close path source n seq mac) s = s.serve (fun d => d.accept r noInput) from hr ▸ rfl) hserve hplain ?_
  clear hplain
  obtain ⟨-, hho, hhf, -⟩ := s.dev.heard_facts r
  generalize s.dev.heard r = x at *
  obtain ⟨hyr, -, hyo, hreply, hyf⟩ := (x.res 0).answer_facts r (s.dev.sess r.session).key [] false
  generalize (x.res 0).answer r (s.dev.sess r.session).key [] false = y at *
  rw [hsession] at hreply
  have hyst : y.sessState n = 2 := (Dev.n_eq (by rw [Dev.o, hyo, Dev.res_obj, hho]; rfl)).trans hst
  obtain ⟨hzst, hzsess, -, hzev⟩ := closeSession_facts y hn hyst
  have hend := y.sessEnd_closeSession n
  have hzobj := (((OnlyObjects.refl (ks := fun k => isSession k || isTraceCount k) s.dev).of_obj hho).of_obj (Dev.res_obj x 0)).of_obj hyo |>.trans (Dev.onlyObjects_closeSession (ks := fun k => isSession k || isTraceCount k) (by simp +contextual) (by simp +contextual) y hn.1 hn.2)
  have hframe : s.dev.TagOnly (y.closeSession n) := frame_tag.trans (frame_answer.trans (frame_answer.trans hhf (x.answerOnly_res 0)) hyf).tag hend.tag
  have hyw : y.wrongTags = s.dev.wrongTags := (frame_answer.trans (frame_answer.trans hhf (x.answerOnly_res 0)) hyf).shows.wrongTags (d := { s.dev with sessions := _, result := _, data := _, reply := _ })
  generalize y.closeSession n = z at *
  have hzw : z.wrongTags = y.wrongTags := hend.wrongTags (d := { y with sessions := _, couriers := _, update := _ })
  have hzres : z.result = y.result := hend.result (d := { y with sessions := _, couriers := _, update := _ })
  have hzreply : z.reply = y.reply := hend.reply (d := { y with sessions := _, couriers := _, update := _ })
  refine ⟨by rw [Dev.settle_result, hzres, hyr]; rfl, ?_, (Dev.raised_settle_iff _ _).mpr hzev, ?_, ?_, ?_, hzobj.settle⟩
  · obtain ⟨-, hkeys⟩ := sessKeys_nodup hn
    rw [Dev.sessState, Dev.n, Dev.o_settle _ (hkeys _ (by simp [sessKeys])).1, hzst]
    rfl
  · rw [Dev.settle_sessions]
    exact hzsess
  · rw [Dev.settle_reply, hzreply, hreply, ← hr]
    rfl
  · exact (frame_tag.settle hframe).showsClose ((Dev.settle_wrongTags z).trans (hzw.trans hyw))

/-- Settles O42: CHALLENGE, AUTH, CLOSE and KEEPALIVE, clause by clause. -/
theorem sessionsByUnit : Obligations.SessionsByUnit :=
  ⟨challenge_opens, challenge_refused, auth_opens, auth_wrongTag, auth_discarded, close_closed, keepalive_kept⟩

end Sys2Proof.Machine
end

section
/-! READ of an object by a unit without session, O43 (R390, R414, R417, R418, R466). -/

namespace Sys2Proof.Machine

/-- The low bytes of a number read back (R413). -/
theorem ofLe_leBytes (n v : Nat) : ofLe (leBytes n (v : Int)) = v % 256 ^ n := by
  induction n generalizing v with
  | zero => simp [leBytes, ofLe, Nat.mod_one]
  | succ n ih =>
    have hdiv : ((v : Int) / 256) = ((v / 256 : Nat) : Int) := by omega
    rw [leBytes, ofLe, hdiv, ih]
    have hhead : ((v : Int) % 256).toNat % 256 = v % 256 := by omega
    rw [hhead, pow_succ', Nat.mod_mul]

/-- A READ without session is performed by Observer (R390, R393). -/
theorem accept_read {d : Dev} {path : Path} {source seq index sub off : Nat} {mac : Bytes} {u : UnitIn} (hport : d.portOff path = false) (x : Nat × Bytes × Bool)
    (hx : d.readObj 0 (index * 256 + sub) (off % 256 ^ 4) (readLimit (request path source 1 0 false seq index sub (leBytes 4 (off : Int)) mac)) = x) :
    d.accept (request path source 1 0 false seq index sub (leBytes 4 (off : Int)) mac) u =
      ((d.when (x.1 == resPoisoned) (fun d => d.consumed)).res x.1).respond (request path source 1 0 false seq index sub (leBytes 4 (off : Int)) mac) 0 none x.2.1 x.2.2 := by
  refine Dev.accept_of_no_session hport rfl (Or.inl rfl) ?_
  unfold Dev.perform
  refine (if_pos rfl).trans ((if_neg (not_not.mpr (leBytes_length _ _))).trans ?_)
  have hoff : ofLe (request path source 1 0 false seq index sub (leBytes 4 (off : Int)) mac).data = off % 256 ^ 4 := ofLe_leBytes 4 off
  simp only [hoff]
  rw [← hx]
  rfl

/-- The answer to a read that leaves the E960 as it is (R390). -/
theorem respond_reads {c : Instr} {s : State} {f : Dev → Dev} (r : Req) (code : Nat) (data : Bytes) (last : Bool) (h : exec c s = s.serve f) (hserve : s.dev.phase = .service)
    (hf : f s.dev = (s.dev.res code).respond r 0 none data last) :
    Completes c s (fun e => e.result = code ∧ e.data = data ∧ e.reply = replyBytes r.op 0 r.seq r.index r.sub code data last ∧ ({ s.dev with result := e.result, data := e.data, reply := e.reply } : Dev).ShowsOnly e ∧ OnlyObjects (fun _ => false) s.dev e) := by
  refine completes_serve_eq _ h hserve hf ?_
  obtain ⟨hyo, hyr, hys, hyd⟩ := (s.dev.res code).respond_fields r 0 none data last
  have hreply := (s.dev.res code).reply_respond_plain r 0 data last
  have hyframe := frame_answer.trans (s.dev.answerOnly_res code) ((s.dev.res code).answerOnly_respond r 0 none data last)
  generalize (s.dev.res code).respond r 0 none data last = y at *
  refine ⟨by rw [Dev.settle_result, hyr]; rfl, by rw [Dev.settle_data, hyd], by rw [Dev.settle_reply, hreply]; rfl, ?_, (((OnlyObjects.refl _).of_obj (Dev.res_obj s.dev code)).of_obj hyo).settle⟩
  exact (frame_answer.settle hyframe).showsReply (by rw [Dev.settle_sessions, hys]; rfl)

theorem typeWidth_number {ty : ObjTy} (h : ty ≠ .domain ∧ ty ≠ .str) : 1 ≤ typeWidth ty ∧ typeWidth ty ≤ 8 := by
  obtain ⟨h1, h2⟩ := h
  cases ty <;> simp [typeWidth] at *

theorem eight_le_readLimit (r : Req) : 8 ≤ readLimit r := by
  unfold readLimit
  split_ifs <;> decide

/-- A number read from offset 0 by a role that may read it (R414, R418). -/
theorem Dev.readObj_number {d : Dev} {role k limit : Nat} {ty : ObjTy} (hcheck : readCheck role k = 0) (hty : objType k = some ty) (hnum : ty ≠ .domain ∧ ty ≠ .str) (hlimit : 8 ≤ limit) :
    d.readObj role k 0 limit = if d.poison.contains k then (resPoisoned, [], false) else (0, leBytes (typeWidth ty) (d.readValue k), true) := by
  have hpart (b : Bytes) (marked : Bool) (h1 : 1 ≤ b.length) (h8 : b.length ≤ 8) : (if b.isEmpty && (0 : Nat) == 0 then ((0 : Nat), ([] : Bytes), true)
      else if b.length ≤ 0 then (resOffset, [], false) else if marked then (resPoisoned, [], false) else let x := (b.drop 0).take limit; (0, x, decide (b.length ≤ 0 + x.length))) =
      if marked then (resPoisoned, [], false) else (0, b, true) := by
    have hne : b.isEmpty = false := by
      cases b with
      | nil => simp at h1
      | cons _ _ => rfl
    rw [hne, if_neg (by simp), if_neg (by omega)]
    simp only [List.drop_zero, List.take_of_length_le (show b.length ≤ limit by omega), Nat.zero_add, le_refl, decide_true]
  unfold Dev.readObj
  simp only [hcheck, hty]
  obtain ⟨hd, hs⟩ := hnum
  have hnumber (t : ObjTy) (h1 : t ≠ .domain) (h2 : t ≠ .str) := hpart (leBytes (typeWidth t) (d.readValue k)) (d.poison.contains k)
    (by rw [leBytes_length]; exact (typeWidth_number ⟨h1, h2⟩).1) (by rw [leBytes_length]; exact (typeWidth_number ⟨h1, h2⟩).2)
  cases ty with
  | domain => exact absurd rfl hd
  | str => exact absurd rfl hs
  | bool | u8 | u16 | i16 | u32 | i32 | u64 | i64 => exact hnumber _ hd hs

theorem read_value (s : State) (path : Path) (source seq index sub : Nat) (mac : Bytes) (ty : ObjTy) (hserve : s.dev.phase = .service) (hport : s.dev.portOff path = false) (hcheck : readCheck 0 (index * 256 + sub) = 0)
    (hty : objType (index * 256 + sub) = some ty) (hnum : ty ≠ .domain ∧ ty ≠ .str) (hmark : s.dev.poison.contains (index * 256 + sub) = false) :
    Completes (.read path source 0 seq index sub 0 mac) s (fun e => e.result = 0 ∧ e.data = leBytes (typeWidth ty) (s.dev.readValue (index * 256 + sub)) ∧
      e.reply = replyBytes 1 0 seq index sub 0 (leBytes (typeWidth ty) (s.dev.readValue (index * 256 + sub))) true ∧ ({ s.dev with result := e.result, data := e.data, reply := e.reply } : Dev).ShowsOnly e ∧ OnlyObjects (fun _ => false) s.dev e) := by
  have hread := (Dev.readObj_number (d := s.dev) hcheck hty hnum (eight_le_readLimit (request path source 1 0 false seq index sub (leBytes 4 ((0 : Nat) : Int)) mac))).trans (if_neg (by rw [hmark]; decide))
  exact respond_reads (f := fun d => d.accept (request path source 1 0 false seq index sub (leBytes 4 ((0 : Nat) : Int)) mac) noInput) _ 0 (leBytes (typeWidth ty) (s.dev.readValue (index * 256 + sub))) true rfl hserve
    (accept_read (off := 0) hport _ hread)

theorem read_poisoned (s : State) (path : Path) (source seq index sub : Nat) (mac : Bytes) (ty : ObjTy) (hserve : s.dev.phase = .service) (hport : s.dev.portOff path = false) (hcheck : readCheck 0 (index * 256 + sub) = 0)
    (hty : objType (index * 256 + sub) = some ty) (hnum : ty ≠ .domain ∧ ty ≠ .str) (hmark : s.dev.poison.contains (index * 256 + sub) = true) :
    Completes (.read path source 0 seq index sub 0 mac) s (fun e => e.result = 0x70000001 ∧ e.data = [] ∧ e.raised 0xE3 ∧ e.o Obj.POISON_CONSUMED = satU32 (s.dev.o Obj.POISON_CONSUMED + 1) ∧ e.poison = s.dev.poison ∧
      e.reply = replyBytes 1 0 seq index sub 0x70000001 [] false ∧ ({ s.dev with result := e.result, data := e.data, reply := e.reply } : Dev).ShowsOnly e ∧ OnlyObjects (fun k => k == Obj.POISON_CONSUMED || isTraceCount k) s.dev e) := by
  have hread := (Dev.readObj_number (d := s.dev) hcheck hty hnum (eight_le_readLimit (request path source 1 0 false seq index sub (leBytes 4 ((0 : Nat) : Int)) mac))).trans (if_pos hmark)
  have haccept := accept_read (off := 0) (u := noInput) hport _ hread
  generalize hr : request path source 1 0 false seq index sub (leBytes 4 ((0 : Nat) : Int)) mac = r at *
  have hcount : s.dev.consumed = (s.dev.addSat Obj.POISON_CONSUMED).event 0xE3 := rfl
  replace haccept : s.dev.accept r noInput = (((s.dev.addSat Obj.POISON_CONSUMED).event 0xE3).res resPoisoned).respond r 0 none [] false := haccept
  refine completes_serve_eq _ (show exec (.read path source 0 seq index sub 0 mac) s = s.serve (fun d => d.accept r noInput) from hr ▸ rfl) hserve haccept ?_
  have hev : ((s.dev.addSat Obj.POISON_CONSUMED).event 0xE3).raised 0xE3 := by simp
  have hcons : ((s.dev.addSat Obj.POISON_CONSUMED).event 0xE3).o Obj.POISON_CONSUMED = satU32 (s.dev.o Obj.POISON_CONSUMED + 1) := (Dev.o_event _ _ (by decide)).trans (Dev.o_setO_same _ _ _)
  have hshow : s.dev.ShowsOnly ((s.dev.addSat Obj.POISON_CONSUMED).event 0xE3) := frame_shows.event (frame_shows.addSat (frame_shows.refl _) _ _) _
  have hobj : OnlyObjects (fun k => k == Obj.POISON_CONSUMED || isTraceCount k) s.dev ((s.dev.addSat Obj.POISON_CONSUMED).event 0xE3) := ((OnlyObjects.refl _).addSat _ _ (by simp)).event _ (by simp +contextual)
  generalize (s.dev.addSat Obj.POISON_CONSUMED).event 0xE3 = x at *
  obtain ⟨hyo, hyr, hys, hyd⟩ := (x.res resPoisoned).respond_fields r 0 none [] false
  have hreply := (x.res resPoisoned).reply_respond_plain r 0 [] false
  have hyframe := frame_answer.trans (frame_answer.trans (frame_answer.shows hshow) (x.answerOnly_res resPoisoned)) ((x.res resPoisoned).answerOnly_respond r 0 none [] false)
  have hyev : ((x.res resPoisoned).respond r 0 none [] false).raised 0xE3 := hev
  generalize (x.res resPoisoned).respond r 0 none [] false = y at *
  have hshows := (frame_answer.settle hyframe).showsReply (by rw [Dev.settle_sessions, hys]; exact hshow.sessions)
  refine ⟨by rw [Dev.settle_result, hyr]; rfl, by rw [Dev.settle_data, hyd], (Dev.raised_settle_iff _ _).mpr hyev, ?_, hshows.poison (d := { s.dev with result := _, data := _, reply := _ }), ?_, hshows, ((hobj.of_obj (Dev.res_obj x resPoisoned)).of_obj hyo).settle⟩
  · rw [Dev.o_settle _ (by decide), Dev.o, hyo]
    exact hcons
  · rw [Dev.settle_reply, hreply, ← hr]
    rfl

theorem readCheck_ne_poisoned (role k : Nat) : readCheck role k ≠ resPoisoned := by
  unfold readCheck
  split
  · decide
  · split
    · split <;> decide
    · split
      · decide
      · split <;> decide

theorem read_refused (s : State) (path : Path) (source seq index sub off : Nat) (mac : Bytes) (hserve : s.dev.phase = .service) (hport : s.dev.portOff path = false) (hcheck : readCheck 0 (index * 256 + sub) ≠ 0) :
    Completes (.read path source 0 seq index sub off mac) s (fun e => e.result = readCheck 0 (index * 256 + sub) ∧ e.data = [] ∧ e.reply = replyBytes 1 0 seq index sub (readCheck 0 (index * 256 + sub)) [] false ∧ ({ s.dev with result := e.result, data := e.data, reply := e.reply } : Dev).ShowsOnly e ∧ OnlyObjects (fun _ => false) s.dev e) := by
  have hread : s.dev.readObj 0 (index * 256 + sub) (off % 256 ^ 4) (readLimit (request path source 1 0 false seq index sub (leBytes 4 (off : Int)) mac)) = (readCheck 0 (index * 256 + sub), [], false) := if_pos hcheck
  refine respond_reads (f := fun d => d.accept (request path source 1 0 false seq index sub (leBytes 4 (off : Int)) mac) noInput)
    (request path source 1 0 false seq index sub (leBytes 4 (off : Int)) mac) (readCheck 0 (index * 256 + sub)) [] false rfl hserve ((accept_read hport _ hread).trans ?_)
  have hplain : s.dev.when (readCheck 0 (index * 256 + sub) == resPoisoned) (fun d => d.consumed) = s.dev := if_neg (by simpa using readCheck_ne_poisoned 0 (index * 256 + sub))
  simp only [hplain]

end Sys2Proof.Machine
end

section
/-! WRITE and WRITE_SEG of objects by units, O43 (R390 to R392, R395, R413, R417). -/

namespace Sys2Proof.Machine

/-! ### Units of a session (R392, R395) -/

/-- A unit of a closed or unknown session is discarded (R394). -/
theorem unit_discarded {c : Instr} {s : State} {u : UnitIn} (r : Req) (h : exec c s = s.serve (fun d => d.accept r u)) (hserve : s.dev.phase = .service) (hport : s.dev.portOff r.path = false) (hop : r.op ∈ [1, 2, 3, 0x12, 0x13])
    (hwhy : 8 < r.session ∨ (1 ≤ r.session ∧ s.dev.sessState r.session ≠ 2)) :
    Completes c s (fun e => e.reply = [] ∧ e.raised 0xD9 ∧ e.o Obj.UNIT_DISCARDS = satU32 (s.dev.o Obj.UNIT_DISCARDS + 1) ∧ e.writes = s.dev.writes ∧ ({ s.dev with reply := e.reply } : Dev).ShowsOnly e ∧ OnlyObjects (fun k => k == Obj.UNIT_DISCARDS || isTraceCount k) s.dev e) := by
  have hshow : ({ s.dev with reply := [] } : Dev).ShowsOnly (s.dev.drop.event 0xD9) := frame_shows.event (frame_shows.addSat (frame_shows.refl ({ s.dev with reply := [] } : Dev)) Obj.UNIT_DISCARDS 1) _
  have hst : ∀ m, 1 ≤ m → m ≤ 8 → (s.dev.drop.event 0xD9).sessState m = s.dev.sessState m := fun m h1 h8 => by
    refine Dev.n_eq ((Dev.o_event _ _ ?_).trans (Dev.o_setO_other _ _ ?_)) <;> interval_cases m <;> decide
  have hbad : s.dev.unitOk r = false := by
    unfold Dev.unitOk
    rcases hwhy with h8 | ⟨-, h2⟩
    · simp [show ¬ r.session ≤ 8 by omega]
    · simp [h2]
  have heq : s.dev.accept r u = s.dev.drop.event 0xD9 := by
    rw [Dev.accept_session hport hop (by omega), Dev.acceptIn]
    refine (if_pos (by rw [hbad]; rfl)).trans (if_neg ?_)
    rintro ⟨h1, h8, h2⟩
    rw [hst _ h1 h8] at h2
    rcases hwhy with h | ⟨-, h⟩
    · omega
    · exact h h2
  refine completes_serve_eq _ h hserve heq ⟨?_, by simp, ?_, ?_, ?_, ?_⟩
  · rw [Dev.settle_reply, hshow.reply]
  · rw [Dev.o_settle _ (by decide), Dev.o_event _ _ (by decide)]
    exact Dev.o_setO_same _ _ _
  · rw [Dev.settle_writes, hshow.writes]
  · rw [Dev.settle_reply, hshow.reply]
    exact frame_shows.settle hshow
  · exact ((((OnlyObjects.refl s.dev).addSat Obj.UNIT_DISCARDS 1 (by simp)).of_obj (e := s.dev.drop) rfl).event _ (by simp +contextual)).settle

theorem write_discarded (s : State) (path : Path) (source n seq index sub : Nat) (b mac : Bytes) (u : UnitIn) (hserve : s.dev.phase = .service) (hport : s.dev.portOff path = false) (hwhy : 8 < n ∨ (1 ≤ n ∧ s.dev.sessState n ≠ 2)) :
    Completes (.write path source n seq index sub b mac u) s (fun e => e.reply = [] ∧ e.raised 0xD9 ∧ e.o Obj.UNIT_DISCARDS = satU32 (s.dev.o Obj.UNIT_DISCARDS + 1) ∧ e.writes = s.dev.writes ∧ ({ s.dev with reply := e.reply } : Dev).ShowsOnly e ∧ OnlyObjects (fun k => k == Obj.UNIT_DISCARDS || isTraceCount k) s.dev e) :=
  unit_discarded (request path source 2 n false seq index sub b mac) rfl hserve hport (by simp [request]) hwhy

/-- A repeated unit is answered again and not applied (R392). -/
theorem write_repeated (s : State) (path : Path) (source n seq index sub : Nat) (b : Bytes) (u : UnitIn) (hserve : s.dev.phase = .service) (hport : s.dev.portOff path = false) (hn : 1 ≤ n ∧ n ≤ 8) (hst : s.dev.sessState n = 2)
    (hpath : s.dev.n (el Obj.SESSION_PATH n) = pathNum path) (hpeer : s.dev.n (el Obj.SESSION_PEER n) = source) (hout : s.dev.outstanding n = false) (hmax : seq < 4294967295) (hseq : (s.dev.sess n).seq = some seq)
    (hasked : (s.dev.sess n).asked = unitHeader 2 n b.length 0 seq index sub ++ b) :
    Completes (.write path source n seq index sub b (macOf s.dev 2 n false seq index sub b) u) s (fun e => e.result = (s.dev.sess n).answer ∧ e.writes = s.dev.writes ∧
      e.reply = replyMac (s.dev.sess n).key 2 n seq index sub (s.dev.sess n).answer (s.dev.sess n).data (s.dev.sess n).last ∧ ({ s.dev with sessions := e.sessions, result := e.result, data := e.data, reply := e.reply } : Dev).ShowsOnly e ∧ OnlyObjects (fun _ => false) s.dev e) := by
  generalize hr : request path source 2 n false seq index sub b (macOf s.dev 2 n false seq index sub b) = r
  have hsession : r.session = n := by rw [← hr]; rfl
  have hrseq : r.seq = seq := by rw [← hr]; rfl
  have hrop : r.op = 2 := by rw [← hr]; rfl
  have hok : s.dev.unitOk r = true := by
    have hmac : r.mac = unitMac (s.dev.sess r.session).key 0 r.header r.data := by rw [← hr]; rfl
    have hpeers : s.dev.samePeer r = true := by rw [← hr]; simp [Dev.samePeer, request, hpath, hpeer]
    have hsame : (s.dev.sess n).asked = r.header ++ r.data := by rw [hasked, ← hr]; rfl
    unfold Dev.unitOk
    simp only [hsession, hn.1, hn.2, hst, hpeers, hmac, decide_true, beq_self_eq_true, Bool.and_true, hseq, hrseq, hsame, Bool.or_true]
  have heq : s.dev.accept r u = ((s.dev.heard r).res (s.dev.sess n).answer).answer r (s.dev.sess n).key (s.dev.sess n).data (s.dev.sess n).last := by
    rw [Dev.accept_session (by rw [← hr]; exact hport) (by rw [hrop]; decide) (by omega), Dev.acceptIn]
    refine (if_neg (by rw [hok]; decide)).trans ?_
    simp only [hsession, hout, hseq, hrseq, hrop]
    rw [if_pos trivial, Dev.when, if_neg (by simp; omega)]
    unfold Dev.heard
    rw [hsession, hrseq]
    exact if_neg Bool.false_ne_true
  refine completes_serve_eq _ (show exec (.write path source n seq index sub b (macOf s.dev 2 n false seq index sub b) u) s = s.serve (fun d => d.accept r u) from hr ▸ rfl) hserve heq ?_
  clear heq
  obtain ⟨-, hho, hhf, -⟩ := s.dev.heard_facts r
  generalize s.dev.heard r = x at *
  obtain ⟨hyr, -, hyo, hreply, hyf⟩ := (x.res (s.dev.sess n).answer).answer_facts r (s.dev.sess n).key (s.dev.sess n).data (s.dev.sess n).last
  generalize (x.res (s.dev.sess n).answer).answer r (s.dev.sess n).key (s.dev.sess n).data (s.dev.sess n).last = y at *
  have hshows := (frame_answer.settle (frame_answer.trans (frame_answer.trans hhf (x.answerOnly_res (s.dev.sess n).answer)) hyf)).shows
  refine ⟨by rw [Dev.settle_result, hyr]; rfl, hshows.writes (d := { s.dev with sessions := _, result := _, data := _, reply := _ }), ?_, hshows, ?_⟩
  · rw [Dev.settle_reply, hreply, ← hr]
    rfl
  · exact ((((OnlyObjects.refl s.dev).of_obj hho).of_obj (Dev.res_obj x _)).of_obj hyo).settle

/-- A unit of an open session that is performed and answered without data (R392). -/
theorem unit_performed {c : Instr} {s : State} {u : UnitIn} {q : Dev → Prop} (r : Req) (p : Dev) (h : exec c s = s.serve (fun d => d.accept r u)) (hserve : s.dev.phase = .service) (hopen : openFor s.dev r.path r.source r.session r.seq = true)
    (hmac : r.mac = unitMac (s.dev.sess r.session).key 0 r.header r.data) (hop : r.op = 2 ∨ r.op = 3) (hperf : (s.dev.heard r).perform r (s.dev.roleOf r.session) u = (p, [], false)) (hout : p.outstanding r.session = false)
    (hq : ∀ y : Dev, y.result = p.result → y.sess r.session = { p.sess r.session with answer := p.result, data := [], last := false } → y.obj = p.obj → y.reply = replyMac (s.dev.sess r.session).key r.op r.session r.seq r.index r.sub p.result [] false →
      p.AnswerOnly y → q y.settle) : Completes c s q := by
  obtain ⟨⟨h1, -⟩, -, -, -, -, -, -, hport⟩ := openFor_iff.mp hopen
  have heq : s.dev.accept r u = p.answer r (s.dev.sess r.session).key [] false := by
    rw [Dev.accept_session hport (by rcases hop with h | h <;> simp [h]) (by omega), Dev.acceptIn_performs hopen hmac hperf hout]
    exact if_neg (by rcases hop with h | h <;> simp [h])
  obtain ⟨hyr, hys, hyo, hreply, hyf⟩ := p.answer_facts r (s.dev.sess r.session).key [] false
  exact completes_serve_eq _ h hserve heq (hq _ hyr hys hyo hreply hyf)

/-- The same where the unit changed no more than its session and the result. -/
theorem unit_answered {c : Instr} {s : State} {u : UnitIn} (r : Req) (p : Dev) (h : exec c s = s.serve (fun d => d.accept r u)) (hserve : s.dev.phase = .service) (hopen : openFor s.dev r.path r.source r.session r.seq = true)
    (hmac : r.mac = unitMac (s.dev.sess r.session).key 0 r.header r.data) (hop : r.op = 2 ∨ r.op = 3) (hperf : (s.dev.heard r).perform r (s.dev.roleOf r.session) u = (p, [], false)) (hframe : (s.dev.heard r).AnswerOnly p) (hobj : p.obj = (s.dev.heard r).obj) :
    Completes c s (fun e => e.result = p.result ∧ e.sess r.session = { p.sess r.session with answer := p.result, data := [], last := false } ∧ e.writes = s.dev.writes ∧
      ({ s.dev with sessions := e.sessions, result := e.result, data := e.data, reply := e.reply } : Dev).ShowsOnly e ∧ OnlyObjects (fun _ => false) s.dev e) := by
  obtain ⟨-, -, -, -, -, hout, -, -⟩ := openFor_iff.mp hopen
  obtain ⟨-, hho, hhf, -⟩ := s.dev.heard_facts r
  have hall := frame_answer.trans hhf hframe
  have hcour : p.couriers = s.dev.couriers := hall.shows.couriers (d := { s.dev with sessions := _, result := _, data := _, reply := _ })
  refine unit_performed r p h hserve hopen hmac hop hperf (by rw [Dev.outstanding, hcour]; exact hout) fun y hyr hys hyo _ hyf => ?_
  have hshows := (frame_answer.settle (frame_answer.trans hall hyf)).shows
  refine ⟨by rw [Dev.settle_result, hyr], by rw [Dev.settle_sess, hys], hshows.writes (d := { s.dev with sessions := _, result := _, data := _, reply := _ }), hshows, ?_⟩
  exact (((OnlyObjects.refl s.dev).of_obj hho).of_obj (hyo.trans hobj)).settle

/-! ### WRITE of QUIET (R390, R417) -/

/-- The row of QUIET (R519). -/
def quietRow : ObjDef := { base := 0x230001, n := 1, stride := 1, m := 9, ty := .u32, acc := .rw, rd := 0, wr := 2, dflt := 1000, lo := 100, hi := 60000, step := 0, choices := [], mfg := false }

theorem quiet_row {sub : Nat} (h : 1 ≤ sub ∧ sub ≤ 9) : (rowsOf (keyIdx (0x2300 * 256 + sub))).isEmpty = false ∧ findDef (0x2300 * 256 + sub) = some quietRow ∧ fixedKey (0x2300 * 256 + sub) = false ∧ keyIdx (0x2300 * 256 + sub) = 0x2300 := by
  obtain ⟨h1, h9⟩ := h
  interval_cases sub <;> decide

/-- The checks of a WRITE of QUIET but for its value (R417). -/
theorem writeCheck_quiet (d : Dev) (a : Asker) {sub : Nat} (h : 1 ≤ sub ∧ sub ≤ 9) : d.writeCheck a (0x2300 * 256 + sub) = if a.role < 2 then resRole else 0 := by
  obtain ⟨hrows, hdef, hfixed, hidx⟩ := quiet_row h
  unfold Dev.writeCheck
  rw [if_neg (by rw [hrows]; decide), hdef]
  simp only [hfixed, hidx, Dev.writeRole, quietRow]
  by_cases hrole : a.role < 2
  · simp [hrole]
  · simp [hrole]

/-- The value's checks (R417). -/
theorem plainCheck_quiet (d : Dev) {sub : Nat} (h : 1 ≤ sub ∧ sub ≤ 9) (v : Nat) (hceil : d.fuse.ceilings = [] ∨ v < 100 ∨ 60000 < v) : d.plainCheck (0x2300 * 256 + sub) v = if v < 100 ∨ 60000 < v then resRange else 0 := by
  obtain ⟨-, hdef, -, hidx⟩ := quiet_row h
  have hextra (x : Int) : extraRange (0x2300 * 256 + sub) x = true := by
    obtain ⟨h1, h9⟩ := h
    interval_cases sub <;> rfl
  have hrange : inRange (0x2300 * 256 + sub) v = decide (100 ≤ v ∧ v ≤ 60000) := by
    unfold inRange
    rw [hdef]
    simp only [inRow, quietRow, hextra]
    simp
  have hblocked : d.rwsBlocked (0x2300 * 256 + sub) = false := by
    unfold Dev.rwsBlocked
    rw [hdef]
    rfl
  have hcode : codeOk (0x2300 * 256 + sub) v = true := by
    obtain ⟨h1, h9⟩ := h
    interval_cases sub <;> rfl
  have hrel (x : Dev) : x.relationsHold (0x2300 * 256 + sub) = true := by
    obtain ⟨h1, h9⟩ := h
    interval_cases sub <;> rfl
  unfold Dev.plainCheck
  by_cases hv : v < 100 ∨ 60000 < v
  · rw [if_pos hv, if_pos (by rw [hrange, decide_eq_false (by omega)]; simp)]
  · have hunder : d.underCeiling (0x2300 * 256 + sub) v = true := by
      unfold Dev.underCeiling
      rw [hceil.resolve_right hv]
      rfl
    rw [if_neg hv, if_neg (by rw [hrange, hunder, hcode, decide_eq_true (by omega)]; decide), if_neg (by rw [hblocked]; decide), if_neg (by rw [hrel]; decide)]

/-- A number written to QUIET (R417, R519). -/
theorem writeNumber_quiet (d : Dev) (a : Asker) {sub : Nat} (h : 1 ≤ sub ∧ sub ≤ 9) (v : Nat) : d.writeNumber a (0x2300 * 256 + sub) v =
    if d.plainCheck (0x2300 * 256 + sub) v ≠ 0 then d.res (d.plainCheck (0x2300 * 256 + sub) v) else (d.deliver (0x2300 * 256 + sub) v).res 0 := by
  obtain ⟨h1, h9⟩ := h
  interval_cases sub <;> rfl

theorem writeObj_quiet (d : Dev) (a : Asker) {sub : Nat} (h : 1 ≤ sub ∧ sub ≤ 9) (b : Bytes)
    (hceil : a.role < 2 ∨ b.length ≠ 4 ∨ d.fuse.ceilings = [] ∨ ofLe b < 100 ∨ 60000 < ofLe b) : d.writeObj a (0x2300 * 256 + sub) b =
    if a.role < 2 then d.res resRole else if b.length ≠ 4 then d.res resLength else if ofLe b < 100 ∨ 60000 < ofLe b then d.res resRange else (d.deliver (0x2300 * 256 + sub) (ofLe b)).res 0 := by
  obtain ⟨-, hdef, -, hidx⟩ := quiet_row h
  unfold Dev.writeObj
  rw [writeCheck_quiet d a h]
  by_cases hrole : a.role < 2
  · rw [if_pos hrole, if_pos hrole]
    exact if_pos (by decide)
  · rw [if_neg hrole, if_neg hrole]
    refine (if_neg (by decide)).trans ?_
    rw [hdef]
    have hty : d.writeType (0x2300 * 256 + sub) quietRow = .u32 := by
      unfold Dev.writeType
      rw [hidx]
      rfl
    simp only [hty]
    by_cases hlen : b.length ≠ 4
    · rw [if_pos hlen]
      exact if_pos (Or.inr (Or.inr hlen))
    · rw [if_neg hlen, if_neg (by simpa [typeWidth] using hlen), if_neg (by simp)]
      change d.writeNumber a (0x2300 * 256 + sub) (ofLe b : Int) = _
      rw [writeNumber_quiet d a h, plainCheck_quiet d h _ ((hceil.resolve_left hrole).resolve_left hlen)]
      by_cases hv : ofLe b < 100 ∨ 60000 < ofLe b
      · rw [if_pos hv, if_pos hv, if_pos (by decide)]
      · rw [if_neg hv, if_neg hv, if_neg (by decide)]

/-- What a delivered write by a unit changes beside objects. -/
def Dev.DeliverOnly : Dev → Dev → Prop := Dev.Outside fun x => { x with sessions := [], result := 0, data := [], reply := [], writes := [] }

theorem frame_deliver : Frame Dev.DeliverOnly := frame_outside _

theorem Dev.DeliverOnly.shows {d e : Dev} (h : d.DeliverOnly e) : ({ d with sessions := e.sessions, result := e.result, data := e.data, reply := e.reply, writes := e.writes } : Dev).ShowsOnly e :=
  Dev.showsOnly_iff.mpr ⟨(congrArg (fun x : Dev => ({ x with sessions := e.sessions, result := e.result, data := e.data, reply := e.reply, writes := e.writes } : Dev)) h.1 :), h.2⟩

theorem Dev.AnswerOnly.delivered {d e : Dev} (h : d.AnswerOnly e) : d.DeliverOnly e := ⟨(congrArg (fun x : Dev => ({ x with writes := [] } : Dev)) h.1 :), h.2⟩

theorem Dev.deliverOnly_deliver (d : Dev) (key : Nat) (val : Int) (code : Nat) : d.DeliverOnly ((d.deliver key val).res code) := ⟨rfl, fun _ h => h⟩

/-- A WRITE is performed by its object (R390). -/
theorem perform_write (d : Dev) {r : Req} (hop : r.op = 2) (role : Nat) (u : UnitIn) :
    d.perform r role u = (d.writeObj { session := r.session, role := role, head := unitHeader (r.op + 128) r.session 4 0 r.seq r.index r.sub } (r.index * 256 + r.sub) r.data, [], false) :=
  (if_neg (by omega)).trans (if_pos hop)

theorem write_quiet (s : State) (path : Path) (source n seq sub v : Nat) (u : UnitIn) (hserve : s.dev.phase = .service) (hopen : openFor s.dev path source n seq = true) (hsub : 1 ≤ sub ∧ sub ≤ 9) (hv : 100 ≤ v ∧ v ≤ 60000) (hrole : 2 ≤ s.dev.roleOf n)
    (hceil : s.dev.fuse.ceilings = []) :
    Completes (.write path source n seq 0x2300 sub (leBytes 4 (v : Int)) (macOf s.dev 2 n false seq 0x2300 sub (leBytes 4 (v : Int))) u) s (fun e => e.result = 0 ∧ e.writes = s.dev.writes ++ [{ key := 0x230000 + sub, val := v, block := none }] ∧ (e.sess n).seq = some seq ∧
      e.reply = replyMac (s.dev.sess n).key 2 n seq 0x2300 sub 0 [] false ∧ ({ s.dev with sessions := e.sessions, result := e.result, data := e.data, reply := e.reply, writes := e.writes } : Dev).ShowsOnly e ∧ OnlyObjects (fun _ => false) s.dev e) := by
  generalize hr : request path source 2 n false seq 0x2300 sub (leBytes 4 (v : Int)) (macOf s.dev 2 n false seq 0x2300 sub (leBytes 4 (v : Int))) = r
  have hsession : r.session = n := by rw [← hr]; rfl
  obtain ⟨hhs, hho, hhf, hhout⟩ := s.dev.heard_facts r
  obtain ⟨-, -, -, -, -, hout, -, -⟩ := openFor_iff.mp hopen
  have hvalue : ofLe (leBytes 4 (v : Int)) = v := (ofLe_leBytes 4 v).trans (Nat.mod_eq_of_lt (by omega))
  have hperf : (s.dev.heard r).perform r (s.dev.roleOf r.session) u = (((s.dev.heard r).deliver (0x2300 * 256 + sub) v).res 0, [], false) := by
    rw [perform_write _ (by rw [← hr]; rfl), hsession, show r.index * 256 + r.sub = 0x2300 * 256 + sub by rw [← hr]; rfl, show r.data = leBytes 4 (v : Int) by rw [← hr]; rfl,
      writeObj_quiet _ _ hsub _ (Or.inr (Or.inr (Or.inl (by rw [← hceil]; rfl)))), if_neg (show ¬ s.dev.roleOf n < 2 by omega), if_neg (by simp), hvalue, if_neg (by omega)]
  refine unit_performed r _ (show exec (.write path source n seq 0x2300 sub (leBytes 4 (v : Int)) (macOf s.dev 2 n false seq 0x2300 sub (leBytes 4 (v : Int))) u) s = s.serve (fun d => d.accept r u) from hr ▸ rfl) hserve
    (by rw [← hr]; exact hopen) (by rw [← hr]; rfl) (Or.inl (by rw [← hr]; rfl)) hperf (by rw [hsession]; exact hout) fun y hyr hys hyo hreply hyf => ?_
  have hframe := frame_deliver.trans (frame_deliver.trans hhf.delivered ((s.dev.heard r).deliverOnly_deliver (0x2300 * 256 + sub) v 0)) hyf.delivered
  have hwrites : y.writes = s.dev.writes ++ [{ key := 0x230000 + sub, val := v, block := none }] := hyf.shows.writes (d := { ((s.dev.heard r).deliver (0x2300 * 256 + sub) v).res 0 with sessions := _, result := _, data := _, reply := _ })
  refine ⟨by rw [Dev.settle_result, hyr]; rfl, by rw [Dev.settle_writes, hwrites], ?_, ?_, ?_, ?_⟩
  · rw [Dev.settle_sess, ← hsession, hys]
    refine (congrArg Session.seq hhs :).trans ?_
    rw [← hr]
    rfl
  · rw [Dev.settle_reply, hreply, hsession, ← hr]
    rfl
  · exact (frame_deliver.settle hframe).shows
  · exact (((OnlyObjects.refl s.dev).of_obj hho).of_obj hyo).settle

theorem write_quiet_refused (s : State) (path : Path) (source n seq sub : Nat) (b : Bytes) (u : UnitIn) (hserve : s.dev.phase = .service) (hopen : openFor s.dev path source n seq = true) (hsub : 1 ≤ sub ∧ sub ≤ 9)
    (hwhy : s.dev.roleOf n < 2 ∨ b.length ≠ 4 ∨ ofLe b < 100 ∨ 60000 < ofLe b) :
    Completes (.write path source n seq 0x2300 sub b (macOf s.dev 2 n false seq 0x2300 sub b) u) s (fun e => e.result = (if s.dev.roleOf n < 2 then resRole else if b.length ≠ 4 then 0x30000001 else resRange) ∧ e.writes = s.dev.writes ∧ ({ s.dev with sessions := e.sessions, result := e.result, data := e.data, reply := e.reply } : Dev).ShowsOnly e ∧ OnlyObjects (fun _ => false) s.dev e) := by
  generalize hr : request path source 2 n false seq 0x2300 sub b (macOf s.dev 2 n false seq 0x2300 sub b) = r
  have hsession : r.session = n := by rw [← hr]; rfl
  have hobj (d : Dev) (a : Asker) (ha : a.role = s.dev.roleOf n) : d.writeObj a (0x2300 * 256 + sub) b = d.res (if s.dev.roleOf n < 2 then resRole else if b.length ≠ 4 then 0x30000001 else resRange) := by
    rw [writeObj_quiet d a hsub b (by rw [ha]; tauto), ha]
    by_cases hrole : s.dev.roleOf n < 2
    · rw [if_pos hrole, if_pos hrole]
    · rw [if_neg hrole, if_neg hrole]
      by_cases hlen : b.length ≠ 4
      · rw [if_pos hlen, if_pos hlen]
        rfl
      · rw [if_neg hlen, if_neg hlen, if_pos ((hwhy.resolve_left hrole).resolve_left hlen)]
  have hperf : (s.dev.heard r).perform r (s.dev.roleOf r.session) u = ((s.dev.heard r).res (if s.dev.roleOf n < 2 then resRole else if b.length ≠ 4 then 0x30000001 else resRange), [], false) := by
    rw [perform_write _ (by rw [← hr]; rfl), hsession, show r.index * 256 + r.sub = 0x2300 * 256 + sub by rw [← hr]; rfl, show r.data = b by rw [← hr]; rfl, hobj _ _ rfl]
  exact (unit_answered r _ (show exec (.write path source n seq 0x2300 sub b (macOf s.dev 2 n false seq 0x2300 sub b) u) s = s.serve (fun d => d.accept r u) from hr ▸ rfl) hserve (by rw [← hr]; exact hopen) (by rw [← hr]; rfl)
    (Or.inl (by rw [← hr]; rfl)) hperf ((s.dev.heard r).answerOnly_res _) (Dev.res_obj _ _)).mono fun e ⟨h1, _, h3, h4, h5⟩ => ⟨h1, h3, h4, h5⟩

/-! ### WRITE_SEG of EVENT_MASK (R391, R570) -/

/-- A change of key `n` is not seen by a filter that leaves the key out. -/
theorem filter_upd {α : Type} [DecidableEq α] (dflt : α) (t : Tab α) {n : Nat} (f : α → α) {p : Nat × α → Bool} (hp : ∀ v, p (n, v) = false) : (Tab.upd dflt t n f).filter p = t.filter p := by
  have hdel (t : Tab α) : (Tab.del t n).filter p = t.filter p := by
    induction t with
    | nil => rfl
    | cons e t ih =>
      obtain ⟨k, v⟩ := e
      by_cases h : k = n
      · rw [Tab.del, if_pos h, ih, List.filter_cons, if_neg (by rw [h, hp]; decide)]
      · rw [Tab.del, if_neg h, List.filter_cons, List.filter_cons, ih]
  have hput (v : α) (t : Tab α) : (Tab.put t n v).filter p = t.filter p := by
    induction t with
    | nil => simp [Tab.put, hp]
    | cons e t ih =>
      obtain ⟨k, x⟩ := e
      unfold Tab.put
      split
      · next h => simp [h, hp]
      · split
        · simp [List.filter_cons, hp]
        · rw [List.filter_cons, List.filter_cons, ih]
  unfold Tab.upd Tab.set
  split
  · exact hdel t
  · exact hput _ t

theorem Dev.stagingOthers_updSess (d : Dev) (n : Nat) (f : Session → Session) : (d.updSess n f).stagingOthers n = d.stagingOthers n :=
  congrArg List.length (filter_upd ({} : Session) d.sessions f (p := fun e => decide (e.1 ≠ n) && e.2.staging.isSome) fun _ => by simp)

/-- The row of EVENT_MASK (R570). -/
def maskRow : ObjDef := { base := 0xC00100, n := 1, stride := 1, m := 1, ty := .domain, acc := .rw, rd := 0, wr := 2, dflt := 32, lo := 0, hi := 0, step := 0, choices := [], mfg := false }

theorem mask_row : (rowsOf (keyIdx Obj.EVENT_MASK)).isEmpty = false ∧ findDef Obj.EVENT_MASK = some maskRow ∧ fixedKey Obj.EVENT_MASK = false := by decide

theorem writeCheck_mask (d : Dev) {a : Asker} (h : 2 ≤ a.role) : d.writeCheck a Obj.EVENT_MASK = 0 := by
  obtain ⟨hrows, hdef, hfixed⟩ := mask_row
  unfold Dev.writeCheck
  rw [if_neg (by rw [hrows]; decide), hdef]
  simp only [hfixed]
  rw [if_neg (by simp [maskRow]), if_neg (by decide), if_neg, if_neg fun h => absurd h.1 (by decide)]
  rintro ⟨hrole, -⟩
  have : d.writeRole Obj.EVENT_MASK maskRow = 2 := rfl
  omega

/-- The first segment of EVENT_MASK (R391). -/
theorem Dev.writeSeg_first (d : Dev) {a : Asker} (h : 2 ≤ a.role) (hothers : d.stagingOthers a.session < 2) (last : Bool) {b : Bytes} (hlen : b.length ≤ 1048576) (u : UnitIn) : d.writeSeg a Obj.EVENT_MASK 0 last b u =
    if last then (d.updSess a.session fun x => { x with staging := none }).writeBlock a Obj.EVENT_MASK b u else (d.updSess a.session fun x => { x with staging := some (Obj.EVENT_MASK, b, d.wall) }).res 0 := by
  obtain ⟨-, hdef, -⟩ := mask_row
  unfold Dev.writeSeg
  simp only [writeCheck_mask d h, hdef, ne_eq, not_true_eq_false, if_false]
  refine (if_neg (by simp [maskRow])).trans ((if_neg (by rintro ⟨-, h2⟩; omega)).trans ?_)
  simp only [if_true, List.nil_append, List.length_nil, not_true_eq_false, if_false, Nat.zero_add]
  exact if_neg (by omega)

/-- A segment of EVENT_MASK out of its order (R391). -/
theorem Dev.writeSeg_disordered (d : Dev) {a : Asker} (h : 2 ≤ a.role) {off : Nat} (hoff : 0 < off) (hnone : (d.sess a.session).staging = none) (last : Bool) (b : Bytes) (u : UnitIn) : d.writeSeg a Obj.EVENT_MASK off last b u =
    (d.updSess a.session fun x => { x with staging := none }).res resSequence := by
  obtain ⟨-, hdef, -⟩ := mask_row
  unfold Dev.writeSeg
  simp only [writeCheck_mask d h, hdef, ne_eq, not_true_eq_false, if_false, hnone]
  refine (if_neg (by simp [maskRow])).trans ((if_neg (by rintro ⟨h2, -⟩; omega)).trans ?_)
  rw [if_neg (by omega)]

/-- A whole block of EVENT_MASK (R391, R570). -/
theorem Dev.writeBlock_mask (d : Dev) (a : Asker) {b : Bytes} (hlen : b.length = 32) (htrace : d.o Obj.TRACE_STATE = 0) (u : UnitIn) : d.writeBlock a Obj.EVENT_MASK b u =
    ({ d.setBlk Obj.EVENT_MASK b with poison := d.poison.filter (· != Obj.EVENT_MASK) } : Dev).res 0 := by
  have hcheck : d.traceCheck Obj.EVENT_MASK 0 = 0 := by
    unfold Dev.traceCheck
    rw [if_neg (by rw [htrace]; decide)]
    exact if_neg (by rintro ⟨h, -⟩; exact absurd h (by decide))
  have hblock : d.writeBlock a Obj.EVENT_MASK b u = d.takeBlock Obj.EVENT_MASK b (if b.length = 32 then 0 else resLength) (d.traceCheck Obj.EVENT_MASK 0) := rfl
  have hblocked : d.rwsBlocked Obj.EVENT_MASK = false := by
    unfold Dev.rwsBlocked
    rw [mask_row.2.1]
    rfl
  have hderived (x : Dev) : x.derived Obj.EVENT_MASK = x := rfl
  have hwrite : d.takeWrite Obj.EVENT_MASK 0 (some b) = ({ d.setBlk Obj.EVENT_MASK b with poison := d.poison.filter (· != Obj.EVENT_MASK) } : Dev) := by
    rw [Dev.takeWrite, if_pos (show d.atOnce (keyIdx Obj.EVENT_MASK) = true from rfl), Dev.applyWrite]
    exact hderived _
  rw [hblock, if_pos hlen, hcheck, Dev.takeBlock, if_neg (by decide), if_neg (by rw [hblocked]; decide), if_neg (by decide), hwrite]

/-- A WRITE_SEG is performed by its object (R391). -/
theorem perform_writeSeg (d : Dev) {r : Req} (hop : r.op = 3) {off : Nat} {b : Bytes} (hdata : r.data = leBytes 4 (off : Int) ++ b) (hoff : off < 4294967296) (role : Nat) (u : UnitIn) :
    d.perform r role u = (d.writeSeg { session := r.session, role := role, head := unitHeader (r.op + 128) r.session 4 0 r.seq r.index r.sub } (r.index * 256 + r.sub) off r.last b u, [], false) := by
  have htake : ofLe (r.data.take 4) = off := by
    rw [hdata, List.take_left' (leBytes_length _ _), ofLe_leBytes]
    exact Nat.mod_eq_of_lt hoff
  have hdrop : r.data.drop 4 = b := by rw [hdata, List.drop_left' (leBytes_length _ _)]
  unfold Dev.perform
  rw [if_neg (by omega), if_neg (by omega), if_pos hop, if_neg (by rw [hdata]; simp), htake, hdrop]

/-- What a stored block changes beside objects. -/
def Dev.StoreOnly : Dev → Dev → Prop := Dev.Outside fun x => { x with sessions := [], result := 0, data := [], reply := [], blk := [], poison := [] }

theorem frame_store : Frame Dev.StoreOnly := frame_outside _

theorem Dev.StoreOnly.shows {d e : Dev} (h : d.StoreOnly e) : ({ d with sessions := e.sessions, result := e.result, data := e.data, reply := e.reply, blk := e.blk, poison := e.poison } : Dev).ShowsOnly e :=
  Dev.showsOnly_iff.mpr ⟨(congrArg (fun x : Dev => ({ x with sessions := e.sessions, result := e.result, data := e.data, reply := e.reply, blk := e.blk, poison := e.poison } : Dev)) h.1 :), h.2⟩

theorem Dev.AnswerOnly.stored {d e : Dev} (h : d.AnswerOnly e) : d.StoreOnly e := ⟨(congrArg (fun x : Dev => ({ x with blk := [], poison := [] } : Dev)) h.1 :), h.2⟩

/-- EVENT_MASK written whole and its mark cleared. -/
def Dev.storeMask (d : Dev) (b : Bytes) : Dev := { d.setBlk Obj.EVENT_MASK b with poison := d.poison.filter (· != Obj.EVENT_MASK) }

theorem Dev.storeOnly_storeMask (d : Dev) (b : Bytes) : d.StoreOnly (d.storeMask b) := ⟨rfl, fun _ h => h⟩

/-- The session's staging ends. -/
def Dev.unstaged (d : Dev) (n : Nat) : Dev := d.updSess n fun x => { x with staging := none }

theorem Dev.writeSeg_whole (d : Dev) {a : Asker} (h : 2 ≤ a.role) (hothers : d.stagingOthers a.session < 2) {b : Bytes} (hlen : b.length = 32) (htrace : d.o Obj.TRACE_STATE = 0) (u : UnitIn) :
    d.writeSeg a Obj.EVENT_MASK 0 true b u = ((d.unstaged a.session).storeMask b).res 0 := by
  rw [Dev.writeSeg_first d h hothers true (by omega) u, if_pos rfl]
  exact Dev.writeBlock_mask (d.unstaged a.session) a hlen htrace u

theorem Dev.storeMask_facts (d : Dev) (n : Nat) (b : Bytes) : d.StoreOnly (((d.unstaged n).storeMask b).res 0) ∧ (((d.unstaged n).storeMask b).res 0).obj = d.obj ∧ (((d.unstaged n).storeMask b).res 0).result = 0 ∧
    (((d.unstaged n).storeMask b).res 0).block Obj.EVENT_MASK = b ∧ ((((d.unstaged n).storeMask b).res 0).sess n).staging = none ∧ (((d.unstaged n).storeMask b).res 0).outstanding n = d.outstanding n := by
  have hstage := (d.answerOnly_updSess n fun x => { x with staging := none }).stored
  have hstore := (d.unstaged n).storeOnly_storeMask b
  exact ⟨frame_store.trans (frame_store.trans hstage hstore) (((d.unstaged n).storeMask b).answerOnly_res 0).stored, rfl, rfl, Tab.get_set_same _ _ _ _, congrArg Session.staging (d.sess_updSess n fun x => { x with staging := none }), rfl⟩

theorem writeSeg_mask_whole (s : State) (path : Path) (source n seq : Nat) (b : Bytes) (u : UnitIn) (hserve : s.dev.phase = .service) (hopen : openFor s.dev path source n seq = true) (hlen : b.length = 32) (hrole : 2 ≤ s.dev.roleOf n)
    (htrace : s.dev.o Obj.TRACE_STATE = 0) (hothers : s.dev.stagingOthers n < 2) :
    Completes (.writeSeg path source n seq 0xC001 0 0 true b (macOf s.dev 3 n true seq 0xC001 0 ([0, 0, 0, 0] ++ b)) u) s (fun e => e.result = 0 ∧ e.block Obj.EVENT_MASK = b ∧ (e.sess n).staging = none ∧ e.writes = s.dev.writes ∧ ({ s.dev with sessions := e.sessions, result := e.result, data := e.data, reply := e.reply, blk := e.blk, poison := e.poison } : Dev).ShowsOnly e ∧ OnlyObjects (fun _ => false) s.dev e) := by
  generalize hr : request path source 3 n true seq 0xC001 0 ([0, 0, 0, 0] ++ b) (macOf s.dev 3 n true seq 0xC001 0 ([0, 0, 0, 0] ++ b)) = r
  have hsession : r.session = n := by rw [← hr]; rfl
  obtain ⟨hhs, hho, hhf, hhout⟩ := s.dev.heard_facts r
  obtain ⟨-, -, -, -, -, hout, -, -⟩ := openFor_iff.mp hopen
  have hoth : (s.dev.heard r).stagingOthers n < 2 := by rw [Dev.heard, hsession, Dev.stagingOthers_updSess]; exact hothers
  have hindex : r.index = 0xC001 := by rw [← hr]; rfl
  have hsub : r.sub = 0 := by rw [← hr]; rfl
  have hmask : r.index * 256 + r.sub = Obj.EVENT_MASK := by rw [hindex, hsub]
  have hdata : r.data = leBytes 4 ((0 : Nat) : Int) ++ b := by rw [← hr]; rfl
  have hop : r.op = 3 := by rw [← hr]; rfl
  have hlast : r.last = true := by rw [← hr]; rfl
  have hperf : (s.dev.heard r).perform r (s.dev.roleOf r.session) u = ((((s.dev.heard r).unstaged n).storeMask b).res 0, [], false) := by
    rw [perform_writeSeg (s.dev.heard r) hop hdata (by decide), hsession, hmask, hlast,
      Dev.writeSeg_whole (s.dev.heard r) (a := { session := n, role := s.dev.roleOf n, head := unitHeader (r.op + 128) n 4 0 r.seq r.index r.sub }) hrole hoth hlen htrace u]
  obtain ⟨hzf, hzo, hzr, hzb, hzs, hzout⟩ := (s.dev.heard r).storeMask_facts n b
  generalize (((s.dev.heard r).unstaged n).storeMask b).res 0 = z at *
  refine unit_performed r z (show exec (.writeSeg path source n seq 0xC001 0 0 true b (macOf s.dev 3 n true seq 0xC001 0 ([0, 0, 0, 0] ++ b)) u) s = s.serve (fun d => d.accept r u) from hr ▸ rfl) hserve
    (by rw [← hr]; exact hopen) (by rw [← hr]; rfl) (Or.inr hop) hperf (by rw [hsession, hzout, hhout]; exact hout) fun y hyr hys hyo _ hyf => ?_
  have hshows := (frame_store.settle (frame_store.trans (frame_store.trans hhf.stored hzf) hyf.stored)).shows
  have hblk : y.blk = z.blk := hyf.shows.blk (d := { z with sessions := _, result := _, data := _, reply := _ })
  refine ⟨by rw [Dev.settle_result, hyr, hzr], ?_, ?_, hshows.writes (d := { s.dev with sessions := _, result := _, data := _, reply := _, blk := _, poison := _ }), hshows, (((OnlyObjects.refl s.dev).of_obj hho).of_obj (hyo.trans hzo)).settle⟩
  · rw [Dev.block, Dev.settle_blk, hblk]
    exact hzb
  · rw [Dev.settle_sess, ← hsession, hys, hsession]
    exact hzs

/-- A segment of EVENT_MASK that changes no more than the session's staging and the result (R391). -/
theorem segment_answered (s : State) (path : Path) (source n seq off : Nat) (last : Bool) (b : Bytes) (u : UnitIn) (f : Session → Session) (code : Nat) (hserve : s.dev.phase = .service) (hopen : openFor s.dev path source n seq = true)
    (hoff : off < 4294967296) (hseg : ∀ a : Asker, a.session = n → a.role = s.dev.roleOf n → ∀ d : Dev, s.dev.AnswerOnly d → (d.sess n).staging = (s.dev.sess n).staging → d.stagingOthers n = s.dev.stagingOthers n →
      d.writeSeg a Obj.EVENT_MASK off last b u = (d.updSess n f).res code) :
    Completes (.writeSeg path source n seq 0xC001 0 off last b (macOf s.dev 3 n last seq 0xC001 0 (leBytes 4 (off : Int) ++ b)) u) s (fun e => e.result = code ∧ (∃ x, e.sess n = { f x with answer := code, data := [], last := false }) ∧
      ({ s.dev with sessions := e.sessions, result := e.result, data := e.data, reply := e.reply } : Dev).ShowsOnly e ∧ OnlyObjects (fun _ => false) s.dev e) := by
  generalize hr : request path source 3 n last seq 0xC001 0 (leBytes 4 (off : Int) ++ b) (macOf s.dev 3 n last seq 0xC001 0 (leBytes 4 (off : Int) ++ b)) = r
  have hsession : r.session = n := by rw [← hr]; rfl
  obtain ⟨hhs, -, hhf, -⟩ := s.dev.heard_facts r
  have hindex : r.index = 0xC001 := by rw [← hr]; rfl
  have hsub : r.sub = 0 := by rw [← hr]; rfl
  have hmask : r.index * 256 + r.sub = Obj.EVENT_MASK := by rw [hindex, hsub]
  have hdata : r.data = leBytes 4 (off : Int) ++ b := by rw [← hr]; rfl
  have hop : r.op = 3 := by rw [← hr]; rfl
  have hlast : r.last = last := by rw [← hr]; rfl
  have hperf : (s.dev.heard r).perform r (s.dev.roleOf r.session) u = (((s.dev.heard r).updSess n f).res code, [], false) := by
    rw [perform_writeSeg (s.dev.heard r) hop hdata hoff, hmask, hlast, hseg { session := r.session, role := s.dev.roleOf r.session, head := unitHeader (r.op + 128) r.session 4 0 r.seq r.index r.sub } hsession (congrArg s.dev.roleOf hsession) (s.dev.heard r) hhf ?_ ?_]
    · rw [← hsession, hhs]
    · rw [Dev.heard, hsession, Dev.stagingOthers_updSess]
  have hstage := (s.dev.heard r).answerOnly_updSess n f
  have hsess := (s.dev.heard r).sess_updSess n f
  refine (unit_answered r _ (show exec (.writeSeg path source n seq 0xC001 0 off last b (macOf s.dev 3 n last seq 0xC001 0 (leBytes 4 (off : Int) ++ b)) u) s = s.serve (fun d => d.accept r u) from hr ▸ rfl) hserve (by rw [← hr]; exact hopen) (by rw [← hr]; rfl)
    (Or.inr hop) hperf (frame_answer.trans hstage (((s.dev.heard r).updSess n f).answerOnly_res code)) rfl).mono fun e ⟨h1, h2, _, h4, h5⟩ => ⟨h1, ⟨(s.dev.heard r).sess n, ?_⟩, h4, h5⟩
  rw [hsession] at h2
  rw [h2]
  exact congrArg (fun x : Session => { x with answer := code, data := [], last := false }) hsess

theorem writeSeg_mask_disordered (s : State) (path : Path) (source n seq off : Nat) (last : Bool) (b : Bytes) (u : UnitIn) (hserve : s.dev.phase = .service) (hopen : openFor s.dev path source n seq = true) (hrole : 2 ≤ s.dev.roleOf n)
    (hoff : 0 < off ∧ off < 4294967296) (hnone : (s.dev.sess n).staging = none) :
    Completes (.writeSeg path source n seq 0xC001 0 off last b (macOf s.dev 3 n last seq 0xC001 0 (leBytes 4 (off : Int) ++ b)) u) s (fun e => e.result = 0x40000003 ∧ (e.sess n).staging = none ∧ ({ s.dev with sessions := e.sessions, result := e.result, data := e.data, reply := e.reply } : Dev).ShowsOnly e ∧ OnlyObjects (fun _ => false) s.dev e) := by
  refine (segment_answered s path source n seq off last b u (fun x => { x with staging := none }) resSequence hserve hopen hoff.2 fun a ha hr d _ hd _ => ?_).mono fun e ⟨h1, ⟨x, hx⟩, h3, h4⟩ => ⟨h1, by rw [hx], h3, h4⟩
  rw [Dev.writeSeg_disordered d (by omega) hoff.1 (by rw [ha, hd, hnone]) last b u, ha]

theorem writeSeg_mask_first (s : State) (path : Path) (source n seq : Nat) (b : Bytes) (u : UnitIn) (hserve : s.dev.phase = .service) (hopen : openFor s.dev path source n seq = true) (hrole : 2 ≤ s.dev.roleOf n) (hothers : s.dev.stagingOthers n < 2)
    (hlen : b.length ≤ 1024) :
    Completes (.writeSeg path source n seq 0xC001 0 0 false b (macOf s.dev 3 n false seq 0xC001 0 ([0, 0, 0, 0] ++ b)) u) s (fun e => e.result = 0 ∧ (e.sess n).staging = some (Obj.EVENT_MASK, b, s.dev.wall) ∧ ({ s.dev with sessions := e.sessions, result := e.result, data := e.data, reply := e.reply } : Dev).ShowsOnly e ∧ OnlyObjects (fun _ => false) s.dev e) := by
  refine (segment_answered s path source n seq 0 false b u (fun x => { x with staging := some (Obj.EVENT_MASK, b, s.dev.wall) }) 0 hserve hopen (by decide) fun a ha hr d hd _ hoth => ?_).mono fun e ⟨h1, ⟨x, hx⟩, h3, h4⟩ => ⟨h1, by rw [hx], h3, h4⟩
  have hwall : d.wall = s.dev.wall := hd.shows.wall (d := { s.dev with sessions := _, result := _, data := _, reply := _ })
  rw [Dev.writeSeg_first d (by omega) (by rw [ha, hoth]; exact hothers) false (by omega) u, if_neg (by decide), ha, hwall]

/-- Settles O43: reads without session, writes of QUIET and segments of EVENT_MASK, clause by clause. -/
theorem readsAndWrites : Obligations.ReadsAndWrites :=
  ⟨read_value, read_poisoned, read_refused, write_quiet, write_quiet_refused, write_discarded, write_repeated, writeSeg_mask_whole, writeSeg_mask_disordered, writeSeg_mask_first⟩

end Sys2Proof.Machine
end

section
/-! The couriers at a ledger period, O44 (R206, R424). -/

namespace Sys2Proof.Machine

/-- The link voltage of a ledger period without current. -/
def noLink : LinkIn := { vdc := 0, iTractor := 0, iBattery := 0, chopEnergy := 0, measured := [] }

/-- Group 0 has a pending courier under TIMING 0, and over-voltage tier 3 stands whose link has been low for 20 ms. -/
def tierThreeEnding : State := { pending := [], dev := { State.reset.dev with
  phase := .service, wall := 20000000, tier3 := true, link := { State.reset.dev.link with below := some 0 },
  couriers := [(0, { pending := true, slot := none, owed := false, session := 0, head := [], keys := [], value := 0, node := none })] } }

/-- The ledger period ends tier 3, whatever couriers it serves (R206). -/
theorem ledgerPeriod_ends_tierThree : (tierThreeEnding.dev.ledgerPeriod noLink).tier3 = false := by
  decide +kernel

/-- Refutes O44: the clause on the ledger period keeps every hidden field that a reaction does not change, and no premise on the link excludes
that the same period ends over-voltage tier 3. -/
theorem not_couriers : ¬ Obligations.Couriers := by
  unfold Obligations.Couriers
  intro h
  obtain ⟨-, -, -, -, hperiod⟩ := h
  obtain ⟨t, hexec, -, -, -, -, -, -, ⟨c, hrest⟩, -⟩ := hperiod tierThreeEnding noLink 0 [] 0 (by decide) rfl rfl rfl
  have hrun : exec (.ledgerPeriod noLink) tierThreeEnding = tierThreeEnding.run (fun d => d.ledgerPeriod noLink) := congrArg tierThreeEnding.run (funext fun d => if_pos (by decide))
  rw [hrun] at hexec
  cases hexec
  have hkept := hrest.tier3
  rw [Dev.settle_tier3, ledgerPeriod_ends_tierThree] at hkept
  exact Bool.false_ne_true hkept

end Sys2Proof.Machine
end

section
/-! The daisy chain, O46 (R442). -/

namespace Sys2Proof.Machine

/-- A daisy chain whose DC_FRAME_BITS holds a negative number, which the latch reads as 0. -/
def negativeFrame : State := { pending := [], dev := { State.reset.dev with phase := .service, obj := [(Obj.HSP_MODE, 1), (Obj.DC_FRAME_BITS, -1)] } }

/-- A frame of 0 bits is then no frame of another length: its command runs (R442). -/
theorem daisyLatch_negative : (negativeFrame.dev.daisyLatch 0 []).hsp.aborted = false := by decide +kernel

/-- Refutes O46: the clause on a frame of another length compares the object's number, but the latch compares its value as a length, and no premise
excludes a negative number. -/
theorem not_hostPortAbortsAndDaisy : ¬ Obligations.HostPortAbortsAndDaisy := by
  unfold Obligations.HostPortAbortsAndDaisy
  intro h
  obtain ⟨-, -, -, -, -, hlength, -⟩ := h
  obtain ⟨t, hexec, -, hhsp, -⟩ := hlength negativeFrame 0 [] (by decide) (by decide)
  have hrun : exec (.daisyFrameLatch 0 []) negativeFrame = .next { negativeFrame with dev := (negativeFrame.dev.daisyLatch 0 []).settle } := rfl
  rw [hrun] at hexec
  cases hexec
  have hmark := congrArg Hsp.aborted hhsp
  rw [Dev.settle_hsp, daisyLatch_negative] at hmark
  exact Bool.false_ne_true hmark

end Sys2Proof.Machine
end

section
/-! The host SPI port in single-slave mode, O45 (R434 to R438). -/

namespace Sys2Proof.Machine

/-! ### What a command of the port leaves of the E960 -/

theorem hspOn_iff {d : Dev} {mode : Int} : hspOn d mode = true ↔ d.phase = .service ∧ d.portOff .hsp = false ∧ d.o Obj.HSP_MODE = mode := by
  simp [hspOn, and_assoc]

/-- A command that changes the port alone. -/
theorem completes_port {c : Instr} {s : State} {n : Nat} {f : Dev → Dev} {q : Hsp → Prop} (h : exec c s = s.hspSingle n f) (hon : hspOn s.dev 0 = true) (p : Hsp) (heq : f s.dev = { s.dev with hsp := p }) (hq : q p) :
    Completes c s (fun e => q e.hsp ∧ ({ s.dev with hsp := e.hsp } : Dev).ShowsOnly e ∧ OnlyObjects (fun _ => false) s.dev e) := by
  obtain ⟨hserve, hport, hmode⟩ := hspOn_iff.mp hon
  refine completes_hspSingle h hserve hport hmode ?_
  rw [heq]
  exact ⟨by rw [Dev.settle_hsp]; exact hq, s.dev.settle_hsp_frame p⟩

/-- The port `p` of `d` with a count. -/
def Dev.portCounted (d : Dev) (p : Hsp) (k : Nat) (v : Int) : Dev := ({ d with hsp := p } : Dev).setO k v

theorem Dev.portCounted_settle (d : Dev) (p : Hsp) {k : Nat} (v : Int) (hk : isStatus k = false) : (d.portCounted p k v).settle.hsp = p ∧ (d.portCounted p k v).settle.o k = v ∧
    ({ d with hsp := (d.portCounted p k v).settle.hsp } : Dev).ShowsOnly (d.portCounted p k v).settle ∧ OnlyObjects (fun x => x == k) d (d.portCounted p k v).settle := by
  have hhsp : (d.portCounted p k v).settle.hsp = p := by rw [Dev.settle_hsp]; rfl
  refine ⟨hhsp, (Dev.o_settle _ hk).trans (Dev.o_setO_same _ _ _), ?_, ?_⟩
  · rw [hhsp]
    exact frame_shows.settle (frame_shows.setO (frame_shows.refl _) _ _)
  · exact (((OnlyObjects.refl d).of_obj (e := { d with hsp := p }) rfl).setO k v (by simp)).settle

/-- A command that changes the port and one count. -/
theorem completes_port_counted {c : Instr} {s : State} {n : Nat} {f : Dev → Dev} {q : Hsp → Prop} (h : exec c s = s.hspSingle n f) (hon : hspOn s.dev 0 = true) (p : Hsp) {k : Nat} (v : Int) (hk : isStatus k = false)
    (heq : f s.dev = s.dev.portCounted p k v) (hq : q p) : Completes c s (fun e => q e.hsp ∧ e.o k = v ∧ ({ s.dev with hsp := e.hsp } : Dev).ShowsOnly e ∧ OnlyObjects (fun x => x == k) s.dev e) := by
  obtain ⟨hserve, hport, hmode⟩ := hspOn_iff.mp hon
  refine completes_hspSingle h hserve hport hmode ?_
  rw [heq]
  obtain ⟨hhsp, hrest⟩ := s.dev.portCounted_settle p v hk
  exact ⟨by rw [hhsp]; exact hq, hrest⟩

theorem Dev.hspOut_eq (d : Dev) (body : Bytes) : d.hspOut body = { d with hsp := hspAfter d (d.hspWord ++ body) } := rfl

theorem Dev.updHsp_port (d : Dev) (p : Hsp) (f : Hsp → Hsp) : ({ d with hsp := p } : Dev).updHsp f = { d with hsp := f p } := rfl

/-- The port changed after the transaction's words are out. -/
theorem Dev.updHsp_hspOut (d : Dev) (body : Bytes) (f : Hsp → Hsp) : (d.hspOut body).updHsp f = { d with hsp := f (hspAfter d (d.hspWord ++ body)) } :=
  (congrArg (fun x : Dev => x.updHsp f) (d.hspOut_eq body)).trans (d.updHsp_port _ f)

/-- The port changed and a count advanced after the transaction's words are out. -/
theorem Dev.counted_hspOut (d : Dev) (body : Bytes) (f : Hsp → Hsp) (k : Nat) (g : Int → Int) : ((d.hspOut body).updHsp f).setO k (g (((d.hspOut body).updHsp f).o k)) = d.portCounted (f (hspAfter d (d.hspWord ++ body))) k (g (d.o k)) := by
  rw [Dev.updHsp_hspOut]
  rfl

theorem Dev.drop_hspWord (d : Dev) (body : Bytes) : (d.hspWord ++ body).drop 4 = body := List.drop_left' d.hspWord_length

/-! ### The first word (R434) -/

theorem statusBits_lt (d : Dev) : statusBits d < 256 := by
  unfold statusBits
  split_ifs <;> decide

theorem statusBits_even (d : Dev) : statusBits d % 2 = 0 := by
  unfold statusBits
  split_ifs <;> rfl

/-- The status byte is the bits with the parity that makes its ones odd. -/
theorem Dev.hspStatus_eq (d : Dev) : d.hspStatus = if onesOf (statusBits d) % 2 = 0 then statusBits d + 1 else statusBits d := by
  have hbits : (if (!d.hsp.resp.isEmpty) = true then 2 ^ 7 else 0) + (if d.hsp.free = true then 2 ^ 6 else 0) + (if d.hsp.ready = true then 2 ^ 5 else 0) + (if d.hsp.end_ = true then 2 ^ 4 else 0) + (if d.hsp.poison = true then 2 ^ 3 else 0) +
      (if d.hsp.aborted = true then 2 ^ 2 else 0) + (if (d.o Obj.SAFE_STATE == 1 || d.o Obj.SAFE_STATE == 2) = true then 2 ^ 1 else 0) = statusBits d := by
    unfold statusBits
    cases d.hsp.resp <;> simp
  rw [← hbits]
  rfl

theorem status_parity : ∀ x : Fin 256, x.val % 2 = 0 → (if onesOf x.val % 2 = 0 then x.val + 1 else x.val) / 2 * 2 = x.val ∧ onesOf (if onesOf x.val % 2 = 0 then x.val + 1 else x.val) % 2 = 1 := by
  decide +kernel

theorem nop_polls (s : State) (hon : hspOn s.dev 0 = true) :
    Completes (.nop) s (fun e => e.hsp = hspAfter s.dev e.hsp.out ∧ byteAt e.hsp.out 0 / 2 * 2 = statusBits s.dev ∧ onesOf (byteAt e.hsp.out 0) % 2 = 1 ∧
      ofLe (e.hsp.out.drop 1) = (s.dev.hsp.resp.headD []).length % 8192 * 2048 ∧ e.hsp.out.length = 4 ∧ ({ s.dev with hsp := e.hsp } : Dev).ShowsOnly e ∧ OnlyObjects (fun _ => false) s.dev e) := by
  obtain ⟨hbits, hones⟩ := status_parity ⟨statusBits s.dev, statusBits_lt s.dev⟩ (statusBits_even s.dev)
  rw [← s.dev.hspStatus_eq] at hbits hones
  have hbyte : byteAt (s.dev.hspWord ++ []) 0 = s.dev.hspStatus := rfl
  have hlen : ofLe ((s.dev.hspWord ++ []).drop 1) = (s.dev.hsp.resp.headD []).length % 8192 * 2048 := by
    rw [List.append_nil]
    refine (ofLe_leBytes 3 (s.dev.respLen % 8192 * 2048)).trans (Nat.mod_eq_of_lt ?_)
    omega
  exact (completes_port (q := fun p => p = hspAfter s.dev p.out ∧ byteAt p.out 0 / 2 * 2 = statusBits s.dev ∧ onesOf (byteAt p.out 0) % 2 = 1 ∧ ofLe (p.out.drop 1) = (s.dev.hsp.resp.headD []).length % 8192 * 2048 ∧ p.out.length = 4)
    (f := fun d => d.hspOut []) rfl hon _ (s.dev.hspOut_eq []) ⟨rfl, hbyte ▸ hbits, hbyte ▸ hones, hlen, by simp [hspAfter]⟩).mono fun e ⟨⟨h1, h2, h3, h4, h5⟩, h6, h7⟩ => ⟨h1, h2, h3, h4, h5, h6, h7⟩

/-! ### Units over the port (R436) -/

theorem writeUnit_taken (s : State) (b : Bytes) (hon : hspOn s.dev 0 = true) (hfree : s.dev.hsp.free = true) :
    Completes (.writeUnit b) s (fun e => e.hsp = { hspAfter s.dev e.hsp.out with req := some b, free := false } ∧ e.hsp.out.drop 4 = zeroWords (wordsOf b.length) ∧ ({ s.dev with hsp := e.hsp } : Dev).ShowsOnly e ∧ OnlyObjects (fun _ => false) s.dev e) :=
  (completes_port (q := fun p => p = { hspAfter s.dev p.out with req := some b, free := false } ∧ p.out.drop 4 = zeroWords (wordsOf b.length))
    (f := fun d => (d.hspOut (zeroWords (wordsOf b.length))).hspWriteUnit b) rfl hon { hspAfter s.dev (s.dev.hspWord ++ zeroWords (wordsOf b.length)) with req := some b, free := false } ((if_pos hfree).trans (s.dev.updHsp_hspOut _ _))
    ⟨rfl, s.dev.drop_hspWord _⟩).mono fun _ ⟨⟨h1, h2⟩, h3, h4⟩ => ⟨h1, h2, h3, h4⟩

theorem writeUnit_discarded (s : State) (b : Bytes) (hon : hspOn s.dev 0 = true) (hfree : s.dev.hsp.free = false) :
    Completes (.writeUnit b) s (fun e => e.hsp = { hspAfter s.dev e.hsp.out with aborted := true } ∧ e.o Obj.OVERRUNS = satU32 (s.dev.o Obj.OVERRUNS + 1) ∧ ({ s.dev with hsp := e.hsp } : Dev).ShowsOnly e ∧ OnlyObjects (fun k => k == Obj.OVERRUNS) s.dev e) :=
  completes_port_counted (q := fun p => p = { hspAfter s.dev p.out with aborted := true }) (f := fun d => (d.hspOut (zeroWords (wordsOf b.length))).hspWriteUnit b) rfl hon
    { hspAfter s.dev (s.dev.hspWord ++ zeroWords (wordsOf b.length)) with aborted := true } _ (by decide) ((if_neg (fun h => Bool.false_ne_true (hfree.symm.trans h))).trans (s.dev.counted_hspOut _ _ Obj.OVERRUNS fun x => satU32 (x + 1))) rfl

/-- Words that hold all of `b`. -/
theorem padWords_of_le {n : Nat} {b : Bytes} (h : (b.length + 3) / 4 ≤ n) : padWords n b = b ++ List.replicate (4 * n - b.length) 0 := by
  rw [padWords, List.take_of_length_le (by omega)]

/-- Words that hold a part of `b`. -/
theorem padWords_of_lt {n : Nat} {b : Bytes} (h : n < (b.length + 3) / 4) : padWords n b = b.take (4 * n) := by
  rw [padWords, show 4 * n - b.length = 0 by omega]
  simp

theorem readUnit_consumed (s : State) (n : Nat) (r : Bytes) (t : List Bytes) (hon : hspOn s.dev 0 = true) (hresp : s.dev.hsp.resp = r :: t) (hn : (r.length + 3) / 4 ≤ n) (ht : t.length ≤ 1) :
    Completes (.readUnit n) s (fun e => e.hsp = { hspAfter s.dev e.hsp.out with resp := t, free := s.dev.hsp.req.isNone } ∧ e.hsp.out.drop 4 = r ++ List.replicate (4 * n - r.length) 0 ∧
      e.o Obj.UNITS_OUT = wrapU32 (s.dev.o Obj.UNITS_OUT + 1) ∧ ({ s.dev with hsp := e.hsp } : Dev).ShowsOnly e ∧ OnlyObjects (fun k => k == Obj.UNITS_OUT) s.dev e) := by
  have hhead : s.dev.hsp.resp.headD [] = r := by rw [hresp]; rfl
  have hconsume : (s.dev.hspOut (padWords n r)).hspConsume = s.dev.portCounted { hspAfter s.dev (s.dev.hspWord ++ padWords n r) with resp := t, free := s.dev.hsp.req.isNone } Obj.UNITS_OUT (wrapU32 (s.dev.o Obj.UNITS_OUT + 1)) := by
    have hfew : decide ((r :: t).length ≤ 2) = true := decide_eq_true (by simpa using ht)
    unfold Dev.hspConsume
    rw [if_neg (by rw [show (s.dev.hspOut (padWords n r)).hsp.resp = s.dev.hsp.resp from rfl, hresp]; exact Bool.false_ne_true)]
    refine (s.dev.counted_hspOut (padWords n r) _ Obj.UNITS_OUT fun x => wrapU32 (x + 1)).trans ?_
    simp only [hspAfter, hresp, hfew, Bool.and_true, List.drop_one, List.tail_cons]
  have heq : s.dev.hspReadUnit n = s.dev.portCounted { hspAfter s.dev (s.dev.hspWord ++ padWords n r) with resp := t, free := s.dev.hsp.req.isNone } Obj.UNITS_OUT (wrapU32 (s.dev.o Obj.UNITS_OUT + 1)) := by
    unfold Dev.hspReadUnit
    rw [hhead, Dev.when, if_pos (by rw [Dev.respLen, hhead]; exact decide_eq_true hn), hconsume]
  exact (completes_port_counted (q := fun p => p = { hspAfter s.dev p.out with resp := t, free := s.dev.hsp.req.isNone } ∧ p.out.drop 4 = r ++ List.replicate (4 * n - r.length) 0) (f := fun d => d.hspReadUnit n) rfl hon _ _ (by decide) heq
    ⟨rfl, (s.dev.drop_hspWord _).trans (padWords_of_le hn)⟩).mono fun e ⟨⟨h1, h2⟩, h3, h4, h5⟩ => ⟨h1, h2, h3, h4, h5⟩

theorem readUnit_kept (s : State) (n : Nat) (r : Bytes) (t : List Bytes) (hon : hspOn s.dev 0 = true) (hresp : s.dev.hsp.resp = r :: t) (hn : n < (r.length + 3) / 4) :
    Completes (.readUnit n) s (fun e => e.hsp = hspAfter s.dev e.hsp.out ∧ e.hsp.out.drop 4 = r.take (4 * n) ∧ ({ s.dev with hsp := e.hsp } : Dev).ShowsOnly e ∧ OnlyObjects (fun _ => false) s.dev e) := by
  have hhead : s.dev.hsp.resp.headD [] = r := by rw [hresp]; rfl
  have heq : s.dev.hspReadUnit n = { s.dev with hsp := hspAfter s.dev (s.dev.hspWord ++ padWords n r) } := by
    unfold Dev.hspReadUnit
    rw [hhead, Dev.when, if_neg (by rw [Dev.respLen, hhead]; exact fun h => absurd (of_decide_eq_true h) (Nat.not_le.mpr hn))]
    rfl
  exact (completes_port (q := fun p => p = hspAfter s.dev p.out ∧ p.out.drop 4 = r.take (4 * n)) (f := fun d => d.hspReadUnit n) rfl hon _ heq ⟨rfl, (s.dev.drop_hspWord _).trans (padWords_of_lt hn)⟩).mono fun e ⟨⟨h1, h2⟩, h3, h4⟩ => ⟨h1, h2, h3, h4⟩

theorem hspBadCmd_counted (s : State) (cmd : Nat) (hon : hspOn s.dev 0 = true) (hcmd : 4 < cmd) :
    Completes (.hspBadCmd cmd) s (fun e => e.hsp = { hspAfter s.dev e.hsp.out with aborted := true } ∧ e.o Obj.BAD_CMD = satU32 (s.dev.o Obj.BAD_CMD + 1) ∧ ({ s.dev with hsp := e.hsp } : Dev).ShowsOnly e ∧ OnlyObjects (fun k => k == Obj.BAD_CMD) s.dev e) :=
  completes_port_counted (q := fun p => p = { hspAfter s.dev p.out with aborted := true }) (f := fun d => (d.hspOut []).when (decide (4 < cmd)) (fun d => (d.updHsp (fun h => { h with aborted := true })).addSat Obj.BAD_CMD)) rfl hon
    { hspAfter s.dev (s.dev.hspWord ++ []) with aborted := true } _ (by decide) ((if_pos (decide_eq_true hcmd)).trans (s.dev.counted_hspOut _ _ Obj.BAD_CMD fun x => satU32 (x + 1))) rfl

/-! ### Direct reads (R437, R438) -/

theorem directRead_empties (s : State) (ref : Nat) (hon : hspOn s.dev 0 = true) :
    Completes (.directRead ref) s (fun e => e.hsp = { hspAfter s.dev e.hsp.out with buf := [], ptr := 0, ready := false, want := some (ref % 16777216) } ∧ ({ s.dev with hsp := e.hsp } : Dev).ShowsOnly e ∧ OnlyObjects (fun _ => false) s.dev e) :=
  completes_port (q := fun p => p = { hspAfter s.dev p.out with buf := [], ptr := 0, ready := false, want := some (ref % 16777216) }) (f := fun d => (d.hspOut []).hspDirect ref) rfl hon
    { hspAfter s.dev (s.dev.hspWord ++ []) with buf := [], ptr := 0, ready := false, want := some (ref % 16777216) } (s.dev.updHsp_hspOut _ _) rfl

theorem readData_ready (s : State) (n : Nat) (hon : hspOn s.dev 0 = true) (hr : s.dev.hsp.ready = true) :
    Completes (.readData n) s (fun e => e.hsp.out.drop 4 = (s.dev.hsp.buf.drop (4 * s.dev.hsp.ptr)).take (4 * n) ++ List.replicate (4 * n - (s.dev.hsp.buf.drop (4 * s.dev.hsp.ptr)).length) 0 ∧
      e.hsp = (if (s.dev.hsp.buf.length + 3) / 4 - s.dev.hsp.ptr < n
      then { hspAfter s.dev e.hsp.out with ptr := s.dev.hsp.ptr + ((s.dev.hsp.buf.length + 3) / 4 - s.dev.hsp.ptr), ready := false, end_ := true }
      else { hspAfter s.dev e.hsp.out with ptr := s.dev.hsp.ptr + n }) ∧ ({ s.dev with hsp := e.hsp } : Dev).ShowsOnly e ∧ OnlyObjects (fun _ => false) s.dev e) := by
  have hwords : s.dev.readDataWords n = padWords n (s.dev.hsp.buf.drop (4 * s.dev.hsp.ptr)) := if_pos hr
  have heq : s.dev.hspReadData n = { s.dev with hsp := (s.dev.hspReadData n).hsp } := by rw [Dev.hspReadData, Dev.readDataDone, Dev.updHsp_hspOut]
  have hhsp : (s.dev.hspReadData n).hsp = if (s.dev.hsp.buf.length + 3) / 4 - s.dev.hsp.ptr < n
      then { hspAfter s.dev (s.dev.hspWord ++ s.dev.readDataWords n) with ptr := s.dev.hsp.ptr + ((s.dev.hsp.buf.length + 3) / 4 - s.dev.hsp.ptr), ready := false, end_ := true }
      else { hspAfter s.dev (s.dev.hspWord ++ s.dev.readDataWords n) with ptr := s.dev.hsp.ptr + n } :=
    if_neg (by rw [show (s.dev.hspOut _).hsp.ready = s.dev.hsp.ready from rfl, hr]; decide)
  have hout : (s.dev.hspReadData n).hsp.out = s.dev.hspWord ++ s.dev.readDataWords n := by
    rw [hhsp]
    split <;> rfl
  refine (completes_port (q := fun p => p = (s.dev.hspReadData n).hsp) (f := fun d => d.hspReadData n) rfl hon _ heq rfl).mono fun e ⟨h1, h2, h3⟩ => ⟨?_, ?_, h2, h3⟩
  · rw [h1, hout, Dev.drop_hspWord, hwords]
    rfl
  · rw [h1, hout]
    exact hhsp

theorem readData_empty (s : State) (n : Nat) (hon : hspOn s.dev 0 = true) (hr : s.dev.hsp.ready = false) :
    Completes (.readData n) s (fun e => e.hsp = { hspAfter s.dev e.hsp.out with end_ := true } ∧ e.hsp.out.drop 4 = List.replicate (4 * n) 0 ∧ ({ s.dev with hsp := e.hsp } : Dev).ShowsOnly e ∧ OnlyObjects (fun _ => false) s.dev e) := by
  have heq : s.dev.hspReadData n = { s.dev with hsp := (s.dev.hspReadData n).hsp } := by rw [Dev.hspReadData, Dev.readDataDone, Dev.updHsp_hspOut]
  refine (completes_port (q := fun p => p = { hspAfter s.dev p.out with end_ := true } ∧ p.out.drop 4 = List.replicate (4 * n) 0) (f := fun d => d.hspReadData n) rfl hon _ heq ?_).mono fun e ⟨⟨h1, h2⟩, h3, h4⟩ => ⟨h1, h2, h3, h4⟩
  rw [Dev.hspReadData_hsp_of_not_ready n hr]
  exact ⟨rfl, s.dev.drop_hspWord _⟩

/-- The buffer filled for `k`: what is read (R437). -/
theorem completes_filled {s : State} {r : Nat} {q : Dev → Prop} (hserve : s.dev.phase = .service) (hwant : s.dev.hsp.want = some r) (hq : q (s.dev.hspFill r).settle) : Completes (.hspBufferFilled) s q := by
  refine completes_serve_eq (f := fun d => match d.hsp.want with | some k => d.hspFill k | none => d) (s.dev.hspFill r) rfl hserve ?_ hq
  simp only [hwant]

theorem Dev.hspFill_refused {d : Dev} {r : Nat} (h : readCheck 0 r ≠ 0) : d.hspFill r = { d with hsp := { d.hsp with buf := leBytes 4 (readCheck 0 r : Int), ptr := 0, ready := true, want := none } } := by
  unfold Dev.hspFill
  simp [h, readCheck_ne_poisoned, Dev.consumed, Dev.updHsp, List.take_of_length_le]

theorem bufferFilled_refused (s : State) (r : Nat) (hserve : s.dev.phase = .service) (hwant : s.dev.hsp.want = some r) (hcheck : readCheck 0 r ≠ 0) :
    Completes (.hspBufferFilled) s (fun e => e.hsp = { s.dev.hsp with buf := leBytes 4 (readCheck 0 r : Int), ptr := 0, ready := true, want := none } ∧ ({ s.dev with hsp := e.hsp } : Dev).ShowsOnly e ∧ OnlyObjects (fun _ => false) s.dev e) := by
  refine completes_filled hserve hwant ?_
  rw [Dev.hspFill_refused hcheck]
  exact ⟨by rw [Dev.settle_hsp], s.dev.settle_hsp_frame _⟩

theorem Dev.hspFill_number {d : Dev} {r : Nat} (hcheck : readCheck 0 r = 0) (hhigh : highestSub (keyIdx r) = keySub r) (hty : objType r = some .u16 ∨ objType r = some .u8 ∨ objType r = some .u32) (hmark : d.poison.contains r = false) :
    d.hspFill r = { d with hsp := { d.hsp with buf := [0, 0, 0, 0] ++ leBytes 4 (d.readValue r), ptr := 0, ready := true, want := none } } := by
  have hmarked : d.directMarked r = false := by simp only [Dev.directMarked, hmark, Bool.and_false]
  have hword : d.directWords r false = leBytes 4 (d.readValue r) := by
    unfold Dev.directWords
    rcases hty with h | h | h <;> rw [h] <;> rfl
  unfold Dev.hspFill
  have hgood : ¬ 0 = resPoisoned := by decide
  have hzero : leBytes 4 0 = [0, 0, 0, 0] := rfl
  simp [hcheck, hmarked, hhigh, hword, hgood, hzero, Dev.consumed, Dev.updHsp, List.take_of_length_le]

theorem bufferFilled_number (s : State) (r : Nat) (hserve : s.dev.phase = .service) (hwant : s.dev.hsp.want = some r) (hcheck : readCheck 0 r = 0) (hhigh : highestSub (keyIdx r) = keySub r)
    (hty : objType r = some .u16 ∨ objType r = some .u8 ∨ objType r = some .u32) (hmark : s.dev.poison.contains r = false) :
    Completes (.hspBufferFilled) s (fun e => e.hsp = { s.dev.hsp with buf := [0, 0, 0, 0] ++ leBytes 4 (s.dev.readValue r), ptr := 0, ready := true, want := none } ∧ ({ s.dev with hsp := e.hsp } : Dev).ShowsOnly e ∧ OnlyObjects (fun _ => false) s.dev e) := by
  refine completes_filled hserve hwant ?_
  rw [Dev.hspFill_number hcheck hhigh hty hmark]
  exact ⟨by rw [Dev.settle_hsp], s.dev.settle_hsp_frame _⟩

theorem Dev.hspFill_marked {d : Dev} {r : Nat} (hcheck : readCheck 0 r = 0) (hty : objType r ≠ some .domain) (hmark : d.poison.contains r = true) :
    d.hspFill r = ((d.addSat Obj.POISON_CONSUMED).event 0xE3).updHsp fun h => { h with buf := leBytes 4 (0x70000001 : Int), ptr := 0, ready := true, want := none, poison := true } := by
  have hmarked : d.directMarked r = true := by
    unfold Dev.directMarked
    rw [hcheck, hmark, bne_iff_ne.mpr hty]
    rfl
  unfold Dev.hspFill
  simp [hcheck, hmarked, Dev.consumed, resPoisoned, List.take_of_length_le]

/-- What a filled buffer changes beside objects. -/
def Dev.FillOnly : Dev → Dev → Prop := Dev.Outside fun x => { x with hsp := {} }

theorem frame_fill : Frame Dev.FillOnly := frame_outside _

theorem Dev.FillOnly.shows {d e : Dev} (h : d.FillOnly e) : ({ d with hsp := e.hsp } : Dev).ShowsOnly e :=
  Dev.showsOnly_iff.mpr ⟨(congrArg (fun x : Dev => ({ x with hsp := e.hsp } : Dev)) h.1 :), h.2⟩

theorem Dev.fillOnly_updHsp (d : Dev) (f : Hsp → Hsp) : d.FillOnly (d.updHsp f) := ⟨rfl, fun _ h => h⟩

theorem bufferFilled_marked (s : State) (r : Nat) (hserve : s.dev.phase = .service) (hwant : s.dev.hsp.want = some r) (hcheck : readCheck 0 r = 0) (hty : objType r ≠ some .domain) (hmark : s.dev.poison.contains r = true) :
    Completes (.hspBufferFilled) s (fun e => e.hsp = { s.dev.hsp with buf := leBytes 4 (0x70000001 : Int), ptr := 0, ready := true, want := none, poison := true } ∧ e.raised 0xE3 ∧
      e.o Obj.POISON_CONSUMED = satU32 (s.dev.o Obj.POISON_CONSUMED + 1) ∧ ({ s.dev with hsp := e.hsp } : Dev).ShowsOnly e ∧ OnlyObjects (fun k => k == Obj.POISON_CONSUMED || isTraceCount k) s.dev e) := by
  refine completes_filled hserve hwant ?_
  rw [Dev.hspFill_marked hcheck hty hmark]
  have hev : ((s.dev.addSat Obj.POISON_CONSUMED).event 0xE3).raised 0xE3 := by simp
  have hcons : ((s.dev.addSat Obj.POISON_CONSUMED).event 0xE3).o Obj.POISON_CONSUMED = satU32 (s.dev.o Obj.POISON_CONSUMED + 1) := (Dev.o_event _ _ (by decide)).trans (Dev.o_setO_same _ _ _)
  have hshow : s.dev.FillOnly ((s.dev.addSat Obj.POISON_CONSUMED).event 0xE3) := frame_fill.event (frame_fill.addSat (frame_fill.refl _) _ _) _
  have hkept : ((s.dev.addSat Obj.POISON_CONSUMED).event 0xE3).hsp = s.dev.hsp := (frame_shows.event (frame_shows.addSat (frame_shows.refl s.dev) Obj.POISON_CONSUMED 1) 0xE3).hsp
  have hobj : OnlyObjects (fun k => k == Obj.POISON_CONSUMED || isTraceCount k) s.dev ((s.dev.addSat Obj.POISON_CONSUMED).event 0xE3) := ((OnlyObjects.refl _).addSat _ _ (by simp)).event _ (by simp +contextual)
  generalize (s.dev.addSat Obj.POISON_CONSUMED).event 0xE3 = x at *
  refine ⟨by rw [Dev.settle_hsp, ← hkept]; rfl, (Dev.raised_settle_iff _ _).mpr hev, (Dev.o_settle _ (by decide)).trans hcons, ?_, (hobj.of_obj (e := x.updHsp _) rfl).settle⟩
  exact (frame_fill.settle (frame_fill.trans hshow (x.fillOnly_updHsp _))).shows

/-! ### A unit taken (R436) -/

/-- What a unit taken from the port changes beside objects. -/
def Dev.TakenOnly : Dev → Dev → Prop := Dev.Outside fun x => { x with hsp := {}, result := 0, data := [], reply := [] }

theorem frame_taken : Frame Dev.TakenOnly := frame_outside _

theorem Dev.TakenOnly.shows {d e : Dev} (h : d.TakenOnly e) : ({ d with hsp := e.hsp, result := e.result, data := e.data, reply := e.reply } : Dev).ShowsOnly e :=
  Dev.showsOnly_iff.mpr ⟨(congrArg (fun x : Dev => ({ x with hsp := e.hsp, result := e.result, data := e.data, reply := e.reply } : Dev)) h.1 :), h.2⟩

theorem Dev.TakenOnly.showsDropped {d e : Dev} (h : d.TakenOnly e) (hr : e.result = d.result) (hd : e.data = d.data) : ({ d with hsp := e.hsp, reply := e.reply } : Dev).ShowsOnly e := by
  have hshows := h.shows
  rw [hr, hd] at hshows
  exact hshows

theorem Dev.FillOnly.taken {d e : Dev} (h : d.FillOnly e) : d.TakenOnly e := ⟨(congrArg (fun x : Dev => ({ x with result := 0, data := [], reply := [] } : Dev)) h.1 :), h.2⟩

/-- REQ_FREE as the responses that wait allow (R436). -/
def Dev.showFree (d : Dev) : Dev := d.updHsp fun h => { h with free := decide (h.resp.length < 2) }

theorem Dev.showFree_facts (d : Dev) : d.showFree.hsp = { d.hsp with free := decide (d.hsp.resp.length < 2) } ∧ d.showFree.obj = d.obj ∧ d.showFree.result = d.result ∧ d.showFree.data = d.data ∧ d.showFree.reply = d.reply ∧ d.FillOnly d.showFree :=
  ⟨rfl, rfl, rfl, rfl, rfl, d.fillOnly_updHsp _⟩

theorem Dev.drop_facts (d : Dev) : d.drop.hsp = d.hsp ∧ d.drop.obj = (d.addSat Obj.UNIT_DISCARDS).obj ∧ d.drop.result = d.result ∧ d.drop.data = d.data ∧ d.drop.reply = [] ∧ d.TakenOnly d.drop := ⟨rfl, rfl, rfl, rfl, rfl, rfl, fun _ h => h⟩

/-- The E960 once the unit has left the request buffer. -/
def Dev.unitLeft (d : Dev) : Dev := (d.updHsp (fun h => { h with req := none })).addWrap Obj.UNITS_IN

theorem Dev.unitLeft_facts (d : Dev) : d.unitLeft.hsp = { d.hsp with req := none } ∧ d.unitLeft.o Obj.UNITS_IN = wrapU32 (d.o Obj.UNITS_IN + 1) ∧ OnlyObjects (fun k => k == Obj.UNITS_IN) d d.unitLeft ∧ d.FillOnly d.unitLeft ∧ d.unitLeft.result = d.result ∧ d.unitLeft.data = d.data := by
  refine ⟨rfl, Dev.o_setO_same _ _ _, ?_, ?_, rfl, rfl⟩
  · exact ((OnlyObjects.refl d).of_obj (e := d.updHsp fun h => { h with req := none }) rfl).addWrap Obj.UNITS_IN 1 (by simp)
  · exact frame_fill.addWrap (d.fillOnly_updHsp _) Obj.UNITS_IN 1

theorem completes_taken {s : State} {u : UnitIn} {q : Dev → Prop} (p : Dev) (hserve : s.dev.phase = .service) (heq : s.dev.hspTake u = p) (hq : q p.settle) : Completes (.hspUnitTaken u) s q :=
  completes_serve_eq (f := fun d => d.hspTake u) p rfl hserve heq hq

theorem unitTaken_short (s : State) (u : UnitIn) (b : Bytes) (hserve : s.dev.phase = .service) (hreq : s.dev.hsp.req = some b) (hshort : b.length < 12) :
    Completes (.hspUnitTaken u) s (fun e => e.hsp = { s.dev.hsp with req := none, free := decide (s.dev.hsp.resp.length < 2) } ∧ e.reply = [] ∧ e.o Obj.UNITS_IN = wrapU32 (s.dev.o Obj.UNITS_IN + 1) ∧
      e.o Obj.UNIT_DISCARDS = satU32 (s.dev.o Obj.UNIT_DISCARDS + 1) ∧ ({ s.dev with hsp := e.hsp, reply := e.reply } : Dev).ShowsOnly e ∧ OnlyObjects (fun k => k == Obj.UNITS_IN || k == Obj.UNIT_DISCARDS) s.dev e) := by
  have hnone : hspRequest b = none := if_pos (by omega)
  have heq : s.dev.hspTake u = s.dev.unitLeft.drop.showFree := by
    unfold Dev.hspTake
    simp only [hreq, hnone]
    rfl
  refine completes_taken _ hserve heq ?_
  obtain ⟨hxh, hxo, hxobj, hxf, hxr, hxd⟩ := s.dev.unitLeft_facts
  have hdiscards : s.dev.unitLeft.o Obj.UNIT_DISCARDS = s.dev.o Obj.UNIT_DISCARDS := hxobj.same _ (by decide) (by decide)
  generalize s.dev.unitLeft = x at *
  obtain ⟨hyh, hyo, hyr, hyd, hyreply, hyf⟩ := x.drop_facts
  have hyobj : OnlyObjects (fun k => k == Obj.UNITS_IN || k == Obj.UNIT_DISCARDS) s.dev x.drop := ((hxobj.mono (by simp +contextual)).addSat Obj.UNIT_DISCARDS 1 (by simp)).of_obj hyo
  have hin : x.drop.o Obj.UNITS_IN = x.o Obj.UNITS_IN := Dev.o_setO_other x _ (by decide)
  have hdisc : x.drop.o Obj.UNIT_DISCARDS = satU32 (x.o Obj.UNIT_DISCARDS + 1) := Dev.o_setO_same x _ _
  generalize x.drop = y at *
  obtain ⟨hzh, hzo, hzr, hzd, hzreply, hzf⟩ := y.showFree_facts
  generalize y.showFree = z at *
  have hframe := frame_taken.settle (frame_taken.trans (frame_taken.trans hxf.taken hyf) hzf.taken)
  refine ⟨by rw [Dev.settle_hsp, hzh, hyh, hxh], by rw [Dev.settle_reply, hzreply, hyreply], ?_, ?_, hframe.showsDropped ?_ ?_, (hyobj.of_obj hzo).settle⟩
  · rw [Dev.o_settle _ (by decide), Dev.o, hzo]
    exact hin.trans hxo
  · rw [Dev.o_settle _ (by decide), Dev.o, hzo]
    exact hdisc.trans (by rw [hdiscards])
  · rw [Dev.settle_result, hzr, hyr, hxr]
  · rw [Dev.settle_data, hzd, hyd, hxd]

/-- The READ of VSUP that the host port carries. -/
def vsupRead : Req := request .hsp 0 1 0 false 7 0x2600 7 (leBytes 4 ((0 : Nat) : Int)) []

theorem hspRequest_vsup : hspRequest [1, 0, 4, 0, 7, 0, 0, 0, 0, 0x26, 7, 0, 0, 0, 0, 0] = some vsupRead := by decide

theorem accept_vsup (d : Dev) (u : UnitIn) (hport : d.portOff .hsp = false) (hmark : d.poison.contains Obj.VSUP = false) : d.accept vsupRead u = (d.res 0).respond vsupRead 0 none (leBytes 2 (d.o Obj.VSUP)) true := by
  have hvalue : d.readValue (0x2600 * 256 + 7) = d.o Obj.VSUP := rfl
  have hread := (Dev.readObj_number (d := d) (role := 0) (k := 0x2600 * 256 + 7) (ty := .u16) (by decide) (by decide) (by decide) (eight_le_readLimit vsupRead)).trans (if_neg (by rw [hmark]; decide))
  rw [hvalue] at hread
  exact accept_read (off := 0) hport _ hread

/-- The reply in the response queue (R436). -/
def Dev.queueReply (d : Dev) : Dev := { d with hsp := { d.hsp with resp := d.hsp.resp ++ [d.reply], poison := d.hsp.poison || d.result == resPoisoned } }

theorem Dev.queueReply_facts (d : Dev) : d.queueReply.hsp = { d.hsp with resp := d.hsp.resp ++ [d.reply], poison := d.hsp.poison || d.result == resPoisoned } ∧ d.queueReply.obj = d.obj ∧ d.queueReply.result = d.result ∧ d.FillOnly d.queueReply :=
  ⟨rfl, rfl, rfl, rfl, fun _ h => h⟩

/-- A unit whose answer fits the port (R436, R441). -/
theorem Dev.hspTake_answered {d : Dev} {u : UnitIn} {b : Bytes} {r : Req} (y : Dev) (hreq : d.hsp.req = some b) (hr : hspRequest b = some r) (hy : d.unitLeft.accept r u = y) (hmode : y.o Obj.HSP_MODE = 0) (hreply : y.reply.isEmpty = false) :
    d.hspTake u = y.queueReply.showFree := by
  have hfit (key : Bytes) : y.hspFit key y.reply = y.reply := if_neg (by rw [hmode]; simp)
  have hleft : ({ d with hsp := { d.hsp with req := none } } : Dev).addWrap Obj.UNITS_IN = d.unitLeft := rfl
  unfold Dev.hspTake
  simp only [hreq, hr, Dev.updHsp, hleft, hy, hfit, hreply]
  rfl

theorem unitTaken_read (s : State) (u : UnitIn) (b : Bytes) (hserve : s.dev.phase = .service) (hport : s.dev.portOff .hsp = false) (hmode : s.dev.o Obj.HSP_MODE = 0) (hreq : s.dev.hsp.req = some b)
    (hb : b = [1, 0, 4, 0, 7, 0, 0, 0, 0, 0x26, 7, 0, 0, 0, 0, 0]) (hmark : s.dev.poison.contains Obj.VSUP = false) (hresp : s.dev.hsp.resp = []) :
    Completes (.hspUnitTaken u) s (fun e => e.hsp = { s.dev.hsp with req := none, resp := [[0x81, 0, 6, 64, 7, 0, 0, 0, 0, 0x26, 7, 0, 0, 0, 0, 0] ++ leBytes 2 (s.dev.o Obj.VSUP)], free := true } ∧
      e.result = 0 ∧ e.o Obj.UNITS_IN = wrapU32 (s.dev.o Obj.UNITS_IN + 1) ∧ ({ s.dev with hsp := e.hsp, result := e.result, data := e.data, reply := e.reply } : Dev).ShowsOnly e ∧ OnlyObjects (fun k => k == Obj.UNITS_IN) s.dev e) := by
  subst hb
  obtain ⟨hxh, hxo, hxobj, hxf, -, -⟩ := s.dev.unitLeft_facts
  have hxmode : s.dev.unitLeft.o Obj.HSP_MODE = 0 := (hxobj.same _ (by decide) (by decide)).trans hmode
  have haccept := accept_vsup s.dev.unitLeft u hport hmark
  rw [hxobj.same Obj.VSUP (by decide) (by decide)] at haccept
  obtain ⟨hyo, hyr, -, -⟩ := (s.dev.unitLeft.res 0).respond_fields vsupRead 0 none (leBytes 2 (s.dev.o Obj.VSUP)) true
  have hreply : ((s.dev.unitLeft.res 0).respond vsupRead 0 none (leBytes 2 (s.dev.o Obj.VSUP)) true).reply = [0x81, 0, 6, 64, 7, 0, 0, 0, 0, 0x26, 7, 0, 0, 0, 0, 0] ++ leBytes 2 (s.dev.o Obj.VSUP) := by
    have hcode : (s.dev.unitLeft.res 0).result = 0 := rfl
    have hhead : unitHeader (vsupRead.op + 128) 0 (4 + 2) 1 vsupRead.seq vsupRead.index vsupRead.sub ++ leBytes 4 ((0 : Nat) : Int) = [0x81, 0, 6, 64, 7, 0, 0, 0, 0, 0x26, 7, 0, 0, 0, 0, 0] := by decide
    rw [Dev.reply_respond_plain, replyBytes, leBytes_length, if_pos rfl, hcode, hhead]
  have hyh : ((s.dev.unitLeft.res 0).respond vsupRead 0 none (leBytes 2 (s.dev.o Obj.VSUP)) true).hsp = s.dev.unitLeft.hsp := rfl
  have hyf : s.dev.unitLeft.TakenOnly ((s.dev.unitLeft.res 0).respond vsupRead 0 none (leBytes 2 (s.dev.o Obj.VSUP)) true) := ⟨rfl, fun _ h => h⟩
  generalize (s.dev.unitLeft.res 0).respond vsupRead 0 none (leBytes 2 (s.dev.o Obj.VSUP)) true = y at *
  have htake := Dev.hspTake_answered y hreq hspRequest_vsup haccept (by rw [Dev.o, hyo]; exact hxmode) (by rw [hreply]; rfl)
  refine completes_taken _ hserve htake ?_
  clear htake haccept
  generalize s.dev.unitLeft = x at *
  obtain ⟨hzh, hzo, hzr, hzf⟩ := y.queueReply_facts
  generalize y.queueReply = z at *
  obtain ⟨hwh, hwo, hwr, -, -, hwf⟩ := z.showFree_facts
  generalize z.showFree = w at *
  have hframe := frame_taken.settle (frame_taken.trans (frame_taken.trans (frame_taken.trans hxf.taken hyf) hzf.taken) hwf.taken)
  have hyr0 : y.result = 0 := hyr
  refine ⟨?_, by rw [Dev.settle_result, hwr, hzr, hyr0], ?_, hframe.shows, ((((hxobj.of_obj (Dev.res_obj x 0)).of_obj hyo).of_obj hzo).of_obj hwo).settle⟩
  · rw [Dev.settle_hsp, hwh, hzh, hyh, hxh, hreply, hresp, hyr0]
    have hgood : (0 == resPoisoned) = false := by decide
    simp [hgood]
  · rw [Dev.o_settle _ (by decide), Dev.o, hwo, hzo, hyo]
    exact hxo

/-- Settles O45: the transactions of the host port, its direct reads and its units, clause by clause. -/
theorem hostPortWord : Obligations.HostPortWord :=
  ⟨nop_polls, writeUnit_taken, writeUnit_discarded, readUnit_consumed, readUnit_kept, directRead_empties, bufferFilled_number, bufferFilled_refused, bufferFilled_marked, readData_ready, readData_empty, hspBadCmd_counted, unitTaken_read, unitTaken_short⟩

end Sys2Proof.Machine
end

section
/-! Commands of the fuse array, O47 (R476 to R483, R491, R493). -/

namespace Sys2Proof.Machine

/-- What a fuse command changes beside objects. -/
def Dev.FuseOnly : Dev → Dev → Prop := Dev.Outside fun x => { x with fuse := State.reset.dev.fuse, result := 0 }

theorem frame_fuse : Frame Dev.FuseOnly := frame_outside _

theorem Dev.FuseOnly.shows {d e : Dev} (h : d.FuseOnly e) : ({ d with fuse := e.fuse, result := e.result } : Dev).ShowsOnly e :=
  Dev.showsOnly_iff.mpr ⟨(congrArg (fun x : Dev => ({ x with fuse := e.fuse, result := e.result } : Dev)) h.1 :), h.2⟩

theorem Dev.FuseOnly.showsFuse {d e : Dev} (h : d.FuseOnly e) (hr : e.result = d.result) : ({ d with fuse := e.fuse } : Dev).ShowsOnly e := by
  have hshows := h.shows
  rw [hr] at hshows
  exact hshows

theorem Dev.fuseOnly_updFuse (d : Dev) (f : Fuse → Fuse) : d.FuseOnly (d.updFuse f) := ⟨rfl, fun _ h => h⟩

theorem Dev.fuseOnly_res (d : Dev) (code : Nat) : d.FuseOnly (d.res code) := ⟨rfl, fun _ h => h⟩

theorem Dev.onlyObjects_updFuse (d : Dev) (f : Fuse → Fuse) : OnlyObjects (fun _ => false) d (d.updFuse f) := (OnlyObjects.refl d).of_obj rfl

/-! ### Commands that start (R479) -/

/-- A command that is accepted runs, with its word in OTP_STATUS. -/
theorem completes_otpStart {c : Instr} {s : State} {f : Dev → Dev} (g : Fuse → Fuse) (j : OtpJob) (h : exec c s = s.serve f) (hserve : s.dev.phase = .service) (heq : f s.dev = (s.dev.updFuse g).otpStart j) :
    Completes c s (fun e => e.result = 0 ∧ e.o Obj.OTP_STATUS = otpStatus true 0 0 j.word 0 ∧ e.fuse = { g s.dev.fuse with job := some j } ∧ ({ s.dev with fuse := e.fuse, result := e.result } : Dev).ShowsOnly e ∧ OnlyObjects (fun k => k == Obj.OTP_STATUS) s.dev e) := by
  refine completes_serve_eq _ h hserve heq ?_
  have hrun := (s.dev.updFuse g).fuseOnly_updFuse fun f => { f with job := some j }
  have hfuse : (((s.dev.updFuse g).updFuse fun f => { f with job := some j }).setO Obj.OTP_STATUS (otpStatus true 0 0 j.word 0)).fuse = { g s.dev.fuse with job := some j } := rfl
  have hobj := ((((s.dev.onlyObjects_updFuse g).trans ((s.dev.updFuse g).onlyObjects_updFuse fun f => { f with job := some j })).mono fun _ h => absurd h (by decide)).setO (ks := fun k => k == Obj.OTP_STATUS) Obj.OTP_STATUS (otpStatus true 0 0 j.word 0) (by simp))
  have hframe := frame_fuse.setO (frame_fuse.trans (s.dev.fuseOnly_updFuse g) hrun) Obj.OTP_STATUS (otpStatus true 0 0 j.word 0)
  have hstatus : (((s.dev.updFuse g).updFuse fun f => { f with job := some j }).setO Obj.OTP_STATUS (otpStatus true 0 0 j.word 0)).o Obj.OTP_STATUS = otpStatus true 0 0 j.word 0 := Dev.o_setO_same _ _ _
  unfold Dev.otpStart
  generalize ((s.dev.updFuse g).updFuse fun f => { f with job := some j }).setO Obj.OTP_STATUS (otpStatus true 0 0 j.word 0) = x at *
  refine ⟨Dev.settle_result _, (Dev.o_settle _ (by decide)).trans hstatus, ?_, (frame_fuse.settle (frame_fuse.trans hframe (x.fuseOnly_res 0))).shows, (hobj.of_obj (Dev.res_obj x 0)).settle⟩
  rw [Dev.settle_fuse, Dev.res_fuse, hfuse]

theorem completes_otpStart_plain {c : Instr} {s : State} {f : Dev → Dev} (j : OtpJob) (h : exec c s = s.serve f) (hserve : s.dev.phase = .service) (heq : f s.dev = s.dev.otpStart j) :
    Completes c s (fun e => e.result = 0 ∧ e.o Obj.OTP_STATUS = otpStatus true 0 0 j.word 0 ∧ e.fuse = { s.dev.fuse with job := some j } ∧ ({ s.dev with fuse := e.fuse, result := e.result } : Dev).ShowsOnly e ∧ OnlyObjects (fun k => k == Obj.OTP_STATUS) s.dev e) :=
  completes_otpStart (fun f => f) j h hserve heq

theorem otpProgram_starts (s : State) (n : Fin 8) (w : Fin 1024) (hserve : s.dev.phase = .service) (hrole : s.dev.roleOf (n + 1) = 2 ∨ s.dev.roleOf (n + 1) = 3) (hlc : s.dev.o Obj.LIFE_CYCLE = 2)
    (hw : 256 + 128 * s.dev.bankNow ≤ w.val ∧ w.val < 384 + 128 * s.dev.bankNow) (hlock : s.dev.cSet (s.dev.bankLock s.dev.bankNow) = false) (hjob : s.dev.fuse.job = none) :
    Completes (.otpProgram n w) s (fun e => e.result = 0 ∧ e.o Obj.OTP_STATUS = otpStatus true 0 0 (s.dev.bankAddr s.dev.bankNow (w - 256 - 128 * s.dev.bankNow)) 0 ∧
      e.fuse = { s.dev.fuse with job := some { kind := 1, word := s.dev.bankAddr s.dev.bankNow (w - 256 - 128 * s.dev.bankNow), value := Tab.get 0 s.dev.fuse.data (n + 1) } } ∧ ({ s.dev with fuse := e.fuse, result := e.result } : Dev).ShowsOnly e ∧ OnlyObjects (fun k => k == Obj.OTP_STATUS) s.dev e) := by
  refine completes_otpStart_plain (f := fun d => d.otpProgram (n.val + 1) w) { kind := 1, word := s.dev.bankAddr s.dev.bankNow (w - 256 - 128 * s.dev.bankNow), value := Tab.get 0 s.dev.fuse.data (n + 1) } rfl hserve ?_
  have hlow : s.dev.roleOf (n + 1) < 4 ∧ 2 ≤ s.dev.roleOf (n + 1) := by omega
  have hmine : (decide (256 + 128 * s.dev.bankNow ≤ w.val) && decide (w.val < 384 + 128 * s.dev.bankNow)) = true := by simp [hw]
  unfold Dev.otpProgram
  simp only [hmine, hlock, hjob, hlc, if_neg (Nat.not_le.mpr hlow.1), decide_eq_true hlow.2, if_pos hlow.1]
  exact (if_neg (by decide)).trans ((if_neg fun h => Bool.false_ne_true h.2).trans (if_neg (by decide)))

theorem otpProgram_range (s : State) (n : Fin 8) (w : Fin 1024) (hserve : s.dev.phase = .service) (hrole : s.dev.roleOf (n + 1) < 4) (hw : w.val < 256 + 128 * s.dev.bankNow ∨ 384 + 128 * s.dev.bankNow ≤ w.val) :
    Completes (.otpProgram n w) s (fun e => e.result = resRange ∧ ({ s.dev with result := e.result } : Dev).ShowsOnly e ∧ OnlyObjects (fun _ => false) s.dev e) := by
  refine completes_serve_result (f := fun d => d.otpProgram (n.val + 1) w) resRange rfl hserve ?_ fun _ h1 h2 h3 => ⟨h1, h2, h3⟩
  have hmine : (decide (256 + 128 * s.dev.bankNow ≤ w.val) && decide (w.val < 384 + 128 * s.dev.bankNow)) = false := by
    rw [Bool.and_eq_false_iff, decide_eq_false_iff_not, decide_eq_false_iff_not]
    omega
  unfold Dev.otpProgram
  simp only [hmine, if_neg (Nat.not_le.mpr hrole), Bool.and_false, Bool.false_and]
  rfl

theorem otpLock_starts (s : State) (n : Fin 8) (hserve : s.dev.phase = .service) (hlock : s.dev.cSet (s.dev.bankLock 0) = false) (hok : s.dev.regionOk 2 = true) (hfailed : s.dev.fuse.failed = []) (hjob : s.dev.fuse.job = none) :
    Completes (.otpLock n 0) s (fun e => e.result = 0 ∧ e.o Obj.OTP_STATUS = otpStatus true 0 0 (s.dev.bankLock 0) 0 ∧
      e.fuse = { s.dev.fuse with job := some { kind := 2, word := s.dev.bankLock 0, value := record1 5 ((s.dev.bankLock 0 - 512) * 2 ^ 16) 0, bank := 1 } } ∧ ({ s.dev with fuse := e.fuse, result := e.result } : Dev).ShowsOnly e ∧ OnlyObjects (fun k => k == Obj.OTP_STATUS) s.dev e) := by
  refine completes_otpStart_plain (f := fun d => d.otpLock (n.val + 1) 1) { kind := 2, word := s.dev.bankLock 0, value := record1 5 ((s.dev.bankLock 0 - 512) * 2 ^ 16) 0, bank := 1 } rfl hserve ?_
  have hregion : s.dev.regionLock 2 = s.dev.bankLock 0 := rfl
  unfold Dev.otpLock
  simp [bankRegion, hregion, hlock, hok, hfailed, hjob]

theorem otpLock_bad (s : State) (n : Fin 8) (hserve : s.dev.phase = .service) (hlock : s.dev.cSet (s.dev.bankLock 0) = false) (hok : s.dev.regionOk 2 = false) :
    Completes (.otpLock n 0) s (fun e => e.result = resCombination ∧ ({ s.dev with result := e.result } : Dev).ShowsOnly e ∧ OnlyObjects (fun _ => false) s.dev e) := by
  refine completes_serve_result (f := fun d => d.otpLock (n.val + 1) 1) resCombination rfl hserve ?_ fun _ h1 h2 h3 => ⟨h1, h2, h3⟩
  have hregion : s.dev.regionLock 2 = s.dev.bankLock 0 := rfl
  unfold Dev.otpLock
  simp [bankRegion, hregion, hlock, hok]

theorem otpReissue_starts (s : State) (n : Fin 8) (bank : Fin 2) (t : Nat) (hserve : s.dev.phase = .service) (hlc : s.dev.o Obj.LIFE_CYCLE = 2) (hbank : bank.val = s.dev.bankNow) (hlen : Tab.get 0 s.dev.fuse.data (n + 1) % 128 ≠ 0)
    (hfirst : s.dev.reissued bank = false) (hrun : s.dev.spareRun (Tab.get 0 s.dev.fuse.data (n + 1) % 128 + 1) = some t) (hjob : s.dev.fuse.job = none) :
    Completes (.otpReissue n bank) s (fun e => e.result = 0 ∧ e.o Obj.OTP_STATUS = otpStatus true 0 0 (523 + 3 * bank) 0 ∧
      e.fuse.job = some { kind := 3, word := 523 + 3 * bank, value := record1 3 ((256 + 128 * bank) * 2 ^ 14 + t * 2 ^ 4 + 1) 0, bank := bank + 1 } ∧
      (∀ i ∈ List.range (Tab.get 0 s.dev.fuse.data (n + 1) % 128 + 1), t + i ∈ e.fuse.spares) ∧ ({ s.dev with fuse := e.fuse, result := e.result } : Dev).ShowsOnly e ∧ OnlyObjects (fun k => k == Obj.OTP_STATUS) s.dev e) := by
  refine (completes_otpStart (f := fun d => d.otpReissue (n.val + 1) (bank.val + 1)) (fun f => { f with spares := (List.range (Tab.get 0 s.dev.fuse.data (n + 1) % 128 + 1)).foldl (fun l i => insertOnce (t + i) l) f.spares })
    { kind := 3, word := 523 + 3 * bank, value := record1 3 ((256 + 128 * bank) * 2 ^ 14 + t * 2 ^ 4 + 1) 0, bank := bank + 1 } rfl hserve ?_).mono fun _ ⟨h1, h2, h3, h4, h5⟩ => ⟨h1, h2, by rw [h3], fun i hi => ?_, h4, h5⟩
  · have hstart : 128 + 128 * (bank.val + 1) = 256 + 128 * bank.val := by omega
    have hnow : ¬ (bank.val + 1 ≠ s.dev.bankNow + 1 ∨ Tab.get 0 s.dev.fuse.data (n.val + 1) % 128 = 0) := by omega
    unfold Dev.otpReissue
    simp only [hlc, ne_eq, not_true_eq_false, if_false, if_neg hnow, Nat.add_sub_cancel, hfirst, hrun, hjob, hstart, Option.isSome_none, Bool.false_eq_true]
  · rw [h3]
    exact mem_foldl_insertOnce _ _ _ |>.mpr (Or.inr ⟨i, hi, rfl⟩)

theorem otpReissue_lifecycle (s : State) (n : Fin 8) (bank : Fin 2) (hserve : s.dev.phase = .service) (hlc : s.dev.o Obj.LIFE_CYCLE ≠ 2) :
    Completes (.otpReissue n bank) s (fun e => e.result = 0x20000004 ∧ ({ s.dev with result := e.result } : Dev).ShowsOnly e ∧ OnlyObjects (fun _ => false) s.dev e) :=
  completes_serve_result (f := fun d => d.otpReissue (n.val + 1) (bank.val + 1)) 0x20000004 rfl hserve (if_pos hlc) fun _ h1 h2 h3 => ⟨h1, h2, h3⟩

/-! ### The key block's length and the life cycle (R491, R493) -/

theorem kintWrite_length (s : State) (b : Bytes) (bad : List Nat) (hserve : s.dev.phase = .service) (hlc : s.dev.o Obj.LIFE_CYCLE = 2) (hlen : b.length ≠ 20) :
    Completes (.kintWrite b bad) s (fun e => e.result = 0x30000001 ∧ ({ s.dev with result := e.result } : Dev).ShowsOnly e ∧ OnlyObjects (fun _ => false) s.dev e) :=
  completes_serve_result (f := fun d => d.kintWrite b bad) 0x30000001 rfl hserve ((if_neg (by rw [hlc]; decide)).trans (if_pos hlen)) fun _ h1 h2 h3 => ⟨h1, h2, h3⟩

theorem lcCtrl_accepted (s : State) (n : Fin 8) (v step role : Nat) (hserve : s.dev.phase = .service) (hv : 1 ≤ v ∧ v ≤ 5) (hlc : lcTransition (s.dev.n Obj.LC_STEP) v s.dev.isD1 = some (step, role)) (hrole : role ≤ s.dev.roleOf (n + 1))
    (hcond : s.dev.lcConditions (s.dev.n Obj.LC_STEP) v = true) (hpower : s.dev.powerStopped = true) (hjob : s.dev.fuse.job = none) (hstep : s.dev.fuse.step = none) (himg : [1, 2, 3].contains (s.dev.n Obj.IMG_STATE) = false) :
    Completes (.lcCtrl n v) s (fun e => e.result = 0 ∧ e.fuse = { s.dev.fuse with step := some step } ∧ ({ s.dev with fuse := e.fuse, result := e.result } : Dev).ShowsOnly e ∧ OnlyObjects (fun _ => false) s.dev e) := by
  have heq : s.dev.lcCtrl (n.val + 1) (v : Int) = (s.dev.updFuse fun f => { f with step := some step }).res 0 := by
    unfold Dev.lcCtrl
    simp only [if_neg (show ¬ ((v : Int) < 1 ∨ 5 < (v : Int)) by omega), Int.toNat_natCast, hlc, if_neg (Nat.not_lt.mpr hrole), hcond, hpower, hjob, hstep, himg]
    rfl
  refine completes_serve_eq (f := fun d => d.lcCtrl (n.val + 1) v) _ rfl hserve heq ⟨Dev.settle_result _, Dev.settle_fuse _, ?_, ?_⟩
  · exact (frame_fuse.settle (frame_fuse.trans (s.dev.fuseOnly_updFuse fun f => { f with step := some step }) (Dev.fuseOnly_res _ 0))).shows
  · exact ((s.dev.onlyObjects_updFuse fun f => { f with step := some step }).of_obj (Dev.res_obj _ 0)).settle

theorem lcCtrl_role (s : State) (n : Fin 8) (v step role : Nat) (hserve : s.dev.phase = .service) (hv : 1 ≤ v ∧ v ≤ 5) (hlc : lcTransition (s.dev.n Obj.LC_STEP) v s.dev.isD1 = some (step, role)) (hrole : s.dev.roleOf (n + 1) < role) :
    Completes (.lcCtrl n v) s (fun e => e.result = resRole ∧ ({ s.dev with result := e.result } : Dev).ShowsOnly e ∧ OnlyObjects (fun _ => false) s.dev e) := by
  refine completes_serve_result (f := fun d => d.lcCtrl (n.val + 1) v) resRole rfl hserve ?_ fun _ h1 h2 h3 => ⟨h1, h2, h3⟩
  unfold Dev.lcCtrl
  simp only [if_neg (show ¬ ((v : Int) < 1 ∨ 5 < (v : Int)) by omega), Int.toNat_natCast, hlc, if_pos hrole]

end Sys2Proof.Machine
end

section
/-! What programming does to the array, O47 (R471 to R475, R479). -/

namespace Sys2Proof.Machine

/-! ### Where the next record goes (R475) -/

/-- One entry's step in the search for the next word. -/
def nextStep (base n m : Nat) (e : Nat × Nat) : Nat := if base ≤ e.1 ∧ e.1 < base + n ∧ m ≤ e.1 then e.1 + 1 else m

theorem le_nextStep (base n m : Nat) (e : Nat × Nat) : m ≤ nextStep base n m e := by
  unfold nextStep
  split <;> omega

theorem le_foldl_nextStep (base n : Nat) (l : List (Nat × Nat)) (m : Nat) : m ≤ l.foldl (nextStep base n) m := by
  induction l generalizing m with
  | nil => exact Nat.le_refl m
  | cons e l ih => exact Nat.le_trans (le_nextStep base n m e) (ih _)

theorem lt_foldl_nextStep {base n : Nat} {l : List (Nat × Nat)} {e : Nat × Nat} (he : e ∈ l) (hrange : base ≤ e.1 ∧ e.1 < base + n) (m : Nat) : e.1 < l.foldl (nextStep base n) m := by
  induction l generalizing m with
  | nil => simp at he
  | cons x l ih =>
    rw [List.foldl_cons]
    rcases List.mem_cons.mp he with rfl | he
    · refine Nat.lt_of_lt_of_le ?_ (le_foldl_nextStep base n l _)
      unfold nextStep
      split <;> omega
    · exact ih he _

theorem Dev.nextWord_eq (d : Dev) (base n : Nat) : d.nextWord base n = d.fuse.array.foldl (nextStep base n) base := rfl

theorem Dev.le_nextWord (d : Dev) (base n : Nat) : base ≤ d.nextWord base n := le_foldl_nextStep base n _ base

theorem Tab.get_of_not_mem {α : Type} (d : α) (t : Tab α) {k : Nat} (h : ∀ e ∈ t, e.1 ≠ k) : Tab.get d t k = d := by
  induction t with
  | nil => rfl
  | cons e t ih =>
    obtain ⟨k', v⟩ := e
    rw [Tab.get, if_neg (h _ (List.mem_cons_self ..)), ih fun e he => h e (List.mem_cons_of_mem _ he)]

/-- The next word has not been programmed. -/
theorem Dev.get_nextWord (d : Dev) {base n : Nat} (h : d.nextWord base n < base + n) : Tab.get 0 d.fuse.array (d.nextWord base n) = 0 := by
  refine Tab.get_of_not_mem 0 _ fun e he heq => ?_
  have hlt := lt_foldl_nextStep (base := base) (n := n) he ⟨by rw [heq]; exact d.le_nextWord base n, by rw [heq]; exact h⟩ base
  rw [heq] at hlt
  exact Nat.lt_irrefl _ hlt

/-- Entries outside the region do not count. -/
theorem foldl_nextStep_filter (base n : Nat) (l : List (Nat × Nat)) (m : Nat) : l.foldl (nextStep base n) m = (l.filter fun e => decide (base ≤ e.1 ∧ e.1 < base + n)).foldl (nextStep base n) m := by
  rw [List.foldl_filter]
  refine List.foldl_ext _ _ _ fun m e _ => ?_
  unfold nextStep
  grind

theorem Dev.nextWord_burn (d : Dev) (base n : Nat) {w : Nat} (v : Nat) (h : ¬ (base ≤ w ∧ w < base + n)) : (d.burn w v).nextWord base n = d.nextWord base n := by
  have hfilter : ((d.burn w v).fuse.array.filter fun e => decide (base ≤ e.1 ∧ e.1 < base + n)) = d.fuse.array.filter fun e => decide (base ≤ e.1 ∧ e.1 < base + n) :=
    filter_upd 0 d.fuse.array (Nat.lor v) fun _ => decide_eq_false h
  rw [Dev.nextWord_eq, Dev.nextWord_eq, foldl_nextStep_filter, hfilter, ← foldl_nextStep_filter]

/-! ### Bits programmed into a word (R471, R488) -/

theorem Dev.burn_facts (d : Dev) (w v : Nat) : (d.burn w v).fuseRaw w = Nat.lor v (d.fuseRaw w) ∧ (∀ x, x ≠ w → (d.burn w v).fuseRaw x = d.fuseRaw x) ∧ Tab.get 0 (d.burn w v).fuse.array w = Nat.lor v (Tab.get 0 d.fuse.array w) ∧
    (d.burn w v).fuse.job = d.fuse.job ∧ (d.burn w v).fuse.spares = d.fuse.spares ∧ (d.burn w v).result = d.result ∧ d.FuseOnly (d.burn w v) ∧ OnlyObjects (fun _ => false) d (d.burn w v) :=
  ⟨Tab.get_upd_same _ _ _ _, fun _ hx => Tab.get_upd_other _ _ _ hx, Tab.get_upd_same _ _ _ _, rfl, rfl, rfl, d.fuseOnly_updFuse _, d.onlyObjects_updFuse _⟩

/-- A word outside region J leaves the redirects as they are. -/
theorem Dev.redirects_burn (d : Dev) {w : Nat} (v : Nat) (h : ¬ (640 ≤ w ∧ w < 768)) : (d.burn w v).redirects = d.redirects := by
  have hsplit (d : Dev) : d.redirects = (d.fuse.shadow.filter fun e => decide (640 ≤ e.1 ∧ e.1 < 768)).filterMap (fun e =>
      if 640 ≤ e.1 ∧ e.1 < 768 ∧ recKind e.2 = 3 ∧ e.2 / 2 ^ 32 % 16 = 0 then some (e.2 / 2 ^ 46 % 1024, e.2 / 2 ^ 36 % 1024) else none) := by
    rw [List.filterMap_filter]
    refine List.filterMap_congr fun e _ => ?_
    grind
  have hfilter : ((d.burn w v).fuse.shadow.filter fun e => decide (640 ≤ e.1 ∧ e.1 < 768)) = d.fuse.shadow.filter fun e => decide (640 ≤ e.1 ∧ e.1 < 768) :=
    filter_upd 0 d.fuse.shadow (Nat.lor v) fun _ => decide_eq_false h
  rw [hsplit (d.burn w v), hfilter, ← hsplit d]

theorem Dev.fuseAddr_of_no_redirects {d : Dev} (h : d.redirects = []) (w : Nat) : d.fuseAddr w = w := by
  unfold Dev.fuseAddr
  rw [h]
  rfl

/-- A record appended at the next word (R475). -/
theorem Dev.append_first {d : Dev} {base n : Nat} (v : Nat) {bad : List Nat} (h : d.nextWord base n < base + n) (hbad : bad.contains (d.nextWord base n) = false) : d.append base n v bad = (d.burn (d.nextWord base n) v, true) := by
  have hrange : (List.range (base + n - d.nextWord base n)).map (· + d.nextWord base n) = d.nextWord base n :: ((List.range (base + n - d.nextWord base n - 1)).map fun i => i + 1 + d.nextWord base n) := by
    obtain ⟨k, hk⟩ : ∃ k, base + n - d.nextWord base n = k + 1 := ⟨base + n - d.nextWord base n - 1, by omega⟩
    rw [hk, List.range_succ_eq_map]
    simp
  unfold Dev.append
  simp only [hrange, List.find?_cons, hbad, Bool.not_false]

/-- A full region takes no record (R475). -/
theorem Dev.append_full {d : Dev} {base n : Nat} (v : Nat) (bad : List Nat) (h : base + n ≤ d.nextWord base n) : d.append base n v bad = (d, false) := by
  unfold Dev.append
  simp only [Nat.sub_eq_zero_of_le h, List.range_zero, List.map_nil, List.find?_nil]

/-! ### One word programmed (R479) -/

theorem Dev.programWord_blank {d : Dev} {w v : Nat} {bad : List Nat} (h : d.fuseWord w = 0) (hv : v ≠ 0) (hbad : bad.contains (d.fuseAddr w) = false) : d.programWord w v bad = (d.burn (d.fuseAddr w) v, 1, 0) := by
  unfold Dev.programWord
  simp only [h]
  rw [if_neg (Ne.symm hv), if_neg (by rw [hbad]; simp)]

theorem Dev.programWord_failing {d : Dev} {w v : Nat} {bad : List Nat} (h : d.fuseWord w = 0) (hv : v ≠ 0) (hbad : bad.contains (d.fuseAddr w) = true) : d.programWord w v bad = d.redirect w v bad := by
  unfold Dev.programWord
  simp only [h]
  rw [if_neg (Ne.symm hv), if_pos (Or.inr hbad)]

/-! ### The ends of a PROGRAM (R477, R479) -/

/-- The E960 with its command over. -/
def Dev.jobOver (d : Dev) : Dev := d.updFuse fun f => { f with job := none }

theorem Dev.otpEnd_program {d : Dev} {j : OtpJob} {bad : List Nat} {retries : Nat} (hjob : d.fuse.job = some j) (hkind : j.kind = 1) (p : Dev × Nat × Nat) (hp : d.jobOver.programWord j.word j.value bad = p) :
    d.otpEnd bad retries = p.1.setO Obj.OTP_STATUS (otpStatus false p.2.1 retries j.word p.2.2) := by
  obtain ⟨d1, r, spare⟩ := p
  change (d.updFuse fun f => { f with job := none }).programWord j.word j.value bad = _ at hp
  unfold Dev.otpEnd
  simp only [hjob, hp, hkind]
  split <;> rfl

theorem otpCommandEnd_programs (s : State) (retries : Fin 5) (j : OtpJob) (ha : s.dev.alive = true) (hjob : s.dev.fuse.job = some j) (hkind : j.kind = 1) (hblank : s.dev.fuseWord j.word = 0) (hvalue : j.value ≠ 0) :
    Completes (.otpCommandEnd [] retries) s (fun e => e.o Obj.OTP_STATUS = otpStatus false 1 retries j.word 0 ∧ e.fuseRaw (s.dev.fuseAddr j.word) = j.value ∧ e.fuse.job = none ∧
      Tab.get 0 e.fuse.array (s.dev.fuseAddr j.word) = Nat.lor j.value (Tab.get 0 s.dev.fuse.array (s.dev.fuseAddr j.word)) ∧ ({ s.dev with fuse := e.fuse } : Dev).ShowsOnly e ∧ OnlyObjects (fun k => k == Obj.OTP_STATUS) s.dev e) := by
  have heq := Dev.otpEnd_program (bad := []) (retries := retries) hjob hkind _ (Dev.programWord_blank (d := s.dev.jobOver) hblank hvalue rfl)
  refine completes_live_eq _ rfl ha heq ?_
  obtain ⟨hraw, -, harray, hj, -, hres, hframe, hobj⟩ := s.dev.jobOver.burn_facts (s.dev.fuseAddr j.word) j.value
  have hzero : s.dev.jobOver.fuseRaw (s.dev.fuseAddr j.word) = 0 := hblank
  have hall := frame_fuse.trans (s.dev.fuseOnly_updFuse fun f => { f with job := none }) hframe
  have hobjs := (s.dev.onlyObjects_updFuse fun f => { f with job := none }).trans hobj
  have haddr : s.dev.jobOver.fuseAddr j.word = s.dev.fuseAddr j.word := rfl
  rw [haddr]
  generalize s.dev.jobOver.burn (s.dev.fuseAddr j.word) j.value = x at *
  have hfuse : (x.setO Obj.OTP_STATUS (otpStatus false 1 retries j.word 0)).settle.fuse = x.fuse := by rw [Dev.settle_fuse, Dev.setO_fuse]
  refine ⟨(Dev.o_settle _ (by decide)).trans (Dev.o_setO_same _ _ _), ?_, by rw [hfuse, hj]; rfl, ?_, ?_, ((hobjs.mono fun _ h => absurd h (by decide)).setO _ _ (by simp)).settle⟩
  · rw [Dev.fuseRaw, hfuse]
    rw [hzero] at hraw
    exact hraw.trans (Nat.or_zero _)
  · rw [hfuse]
    exact harray
  · exact (frame_fuse.settle (frame_fuse.setO hall Obj.OTP_STATUS _)).showsFuse (by rw [Dev.settle_result, Dev.setO_result, hres]; rfl)

/-! ### Records in region M (R463, R464) -/

theorem mRecordStore_stores (s : State) (r : Nat) (t : List Nat) (ha : s.dev.alive = true) (hrec : s.dev.mRecords = r :: t) (hroom : s.dev.nextWord 576 64 < 640) :
    Completes (.mRecordStore []) s (fun e => e.mRecords = t ∧ Tab.get 0 e.fuse.array (s.dev.nextWord 576 64) = r ∧ ({ s.dev with mRecords := e.mRecords, fuse := e.fuse } : Dev).ShowsOnly e ∧ OnlyObjects (fun k => k == Obj.M_RECORDS_USED || k == Obj.M_RECORDS_FREE) s.dev e) := by
  generalize hd : ({ s.dev with mRecords := t } : Dev) = d
  have hdt : d.mRecords = t := by rw [← hd]
  have hdn : d.nextWord 576 64 = s.dev.nextWord 576 64 := by rw [← hd]; rfl
  have hdo : d.obj = s.dev.obj := by rw [← hd]
  have happend : d.append 576 64 r [] = (d.burn (s.dev.nextWord 576 64) r, true) := by
    rw [← hdn] at hroom ⊢
    exact Dev.append_first r hroom rfl
  have heq : s.dev.storeM [] = (d.burn (s.dev.nextWord 576 64) r).showM := by
    unfold Dev.storeM
    rw [hrec]
    simp only [hd, happend, if_true]
  refine completes_live_eq (f := fun d => d.storeM []) _ rfl ha heq ?_
  obtain ⟨-, -, harray, -, -, hres, hframe, hobj⟩ := d.burn_facts (s.dev.nextWord 576 64) r
  have hzero : Tab.get 0 d.fuse.array (s.dev.nextWord 576 64) = 0 := by
    rw [← hdn]
    exact d.get_nextWord (by rw [hdn]; exact hroom)
  rw [hzero] at harray
  have hkept : (d.burn (s.dev.nextWord 576 64) r).mRecords = t := hdt
  generalize d.burn (s.dev.nextWord 576 64) r = x at *
  have hshowM : x.ShowsOnly x.showM := frame_shows.setO (frame_shows.setO (frame_shows.refl x) _ _) _ _
  have hobjM : OnlyObjects (fun k => k == Obj.M_RECORDS_USED || k == Obj.M_RECORDS_FREE) x x.showM := ((OnlyObjects.refl x).setO _ _ (by simp)).setO _ _ (by simp)
  generalize x.showM = y at *
  have hall := frame_fuse.settle (frame_fuse.trans hframe (frame_fuse.shows hshowM))
  have hrecs : y.settle.mRecords = t := by rw [Dev.settle_mRecords, hshowM.mRecords, hkept]
  refine ⟨hrecs, ?_, ?_, ((((OnlyObjects.refl s.dev).of_obj hdo).trans (hobj.mono fun _ h => absurd h (by decide))).trans hobjM).settle⟩
  · rw [Dev.settle_fuse, hshowM.fuse, harray]
    exact Nat.or_zero _
  · rw [hrecs]
    have hshows := hall.showsFuse (by rw [Dev.settle_result, hshowM.result, hres])
    rw [← hd] at hshows
    exact hshows

theorem mRecordStore_full (s : State) (r : Nat) (t : List Nat) (ha : s.dev.alive = true) (hrec : s.dev.mRecords = r :: t) (hfull : 640 ≤ s.dev.nextWord 576 64) :
    Completes (.mRecordStore []) s (fun e => e.mRecords = t ∧ e.fuse = s.dev.fuse ∧ e.raised 0xE6 ∧ e.coll.log.getLast?.map LogRec.code = some 0xA0E4 ∧ ({ s.dev with mRecords := e.mRecords } : Dev).RaisesOnly e ∧ OnlyObjects (fun k => isReaction k) s.dev e) := by
  generalize hd : ({ s.dev with mRecords := t } : Dev) = d
  have hdt : d.mRecords = t := by rw [← hd]
  have hdf : d.fuse = s.dev.fuse := by rw [← hd]
  have hdo : d.obj = s.dev.obj := by rw [← hd]
  have happend : d.append 576 64 r [] = (d, false) := Dev.append_full r [] (by rw [← hd]; exact hfull)
  have heq : s.dev.storeM [] = (d.event 0xE6).raise 0xA0E4 false (memSrc (r / 2 ^ 52 % 16 + 1) (r / 2 ^ 24 % 2 ^ 24)) := by
    unfold Dev.storeM
    rw [hrec]
    simp only [hd, happend]
    rfl
  refine completes_live_eq (f := fun d => d.storeM []) _ rfl ha heq ?_
  have hev : (d.event 0xE6).raised 0xE6 := by simp
  have hlast := (d.event 0xE6).lastCode_raise (code := 0xA0E4) false (memSrc (r / 2 ^ 52 % 16 + 1) (r / 2 ^ 24 % 2 ^ 24)) rfl
  have hraise : d.RaisesOnly ((d.event 0xE6).raise 0xA0E4 false (memSrc (r / 2 ^ 52 % 16 + 1) (r / 2 ^ 24 % 2 ^ 24))) := frame_raises.raise (frame_raises.event (frame_raises.refl d) _) _ _ _
  have hobj : OnlyObjects (fun k => isReaction k) d ((d.event 0xE6).raise 0xA0E4 false (memSrc (r / 2 ^ 52 % 16 + 1) (r / 2 ^ 24 % 2 ^ 24))) := ((OnlyObjects.refl d).event _ fun _ => isReaction_trace).raise _ _ _ fun _ h => h
  have hraised := Dev.raised_raise hev 0xA0E4 false (memSrc (r / 2 ^ 52 % 16 + 1) (r / 2 ^ 24 % 2 ^ 24))
  generalize (d.event 0xE6).raise 0xA0E4 false (memSrc (r / 2 ^ 52 % 16 + 1) (r / 2 ^ 24 % 2 ^ 24)) = x at *
  have hall := frame_raises.settle hraise
  obtain ⟨c, hc⟩ := hraise
  have hrecs : x.settle.mRecords = t := by rw [Dev.settle_mRecords, hc.mRecords]; exact hdt
  refine ⟨hrecs, ?_, (Dev.raised_settle_iff _ _).mpr hraised, by rw [Dev.settle_coll]; exact hlast, ?_, (((OnlyObjects.refl s.dev).of_obj hdo).trans hobj).settle⟩
  · rw [Dev.settle_fuse, hc.fuse]
    exact hdf
  · rw [hrecs, hd]
    exact hall

end Sys2Proof.Machine
end

section
/-! A failing word and its spare, the integrator key and the shadow comparison, O47 (R479, R489, R491). -/

namespace Sys2Proof.Machine

/-- What a fuse command with its reports changes beside objects, events, the trace and what raising a fault changes. -/
def Dev.FuseRaises (d e : Dev) : Prop :=
  ({ e.unraised with fuse := State.reset.dev.fuse, result := 0 } : Dev) = { d.unraised with fuse := State.reset.dev.fuse, result := 0 } ∧ ∀ x ∈ d.evq, x ∈ e.evq

theorem Dev.FuseRaises.trans {a b c : Dev} (h : a.FuseRaises b) (g : b.FuseRaises c) : a.FuseRaises c := ⟨g.1.trans h.1, fun x hx => g.2 x (h.2 x hx)⟩

theorem Dev.RaisesOnly.fused {d e : Dev} (h : d.RaisesOnly e) : d.FuseRaises e := by
  obtain ⟨h1, h2⟩ := Dev.raisesOnly_iff.mp h
  exact ⟨congrArg (fun x : Dev => ({ x with fuse := State.reset.dev.fuse, result := 0 } : Dev)) h1, h2⟩

theorem Dev.FuseOnly.fused {d e : Dev} (h : d.FuseOnly e) : d.FuseRaises e := ⟨(congrArg (fun x : Dev => ({ x.unraised with fuse := State.reset.dev.fuse, result := 0 } : Dev)) h.1 :), h.2⟩

theorem Dev.FuseRaises.raises {d e : Dev} (h : d.FuseRaises e) : ({ d with fuse := e.fuse, result := e.result } : Dev).RaisesOnly e :=
  Dev.raisesOnly_iff.mpr ⟨(congrArg (fun x : Dev => ({ x with fuse := e.fuse, result := e.result } : Dev)) h.1 :), h.2⟩

theorem Dev.FuseRaises.raisesFuse {d e : Dev} (h : d.FuseRaises e) (hr : e.result = d.result) : ({ d with fuse := e.fuse } : Dev).RaisesOnly e := by
  have hraises := h.raises
  rw [hr] at hraises
  exact hraises

/-- The objects of the spare pool, of region J and of a reaction. -/
def isSpare (k : Nat) : Bool := k == Obj.SPARE_USED || k == Obj.SPARE_FREE || k == Obj.SPARE_FAILED || k == Obj.J_FREE || isReaction k

theorem Dev.showSpares_facts (d : Dev) : d.RaisesOnly d.showSpares ∧ OnlyObjects isSpare d d.showSpares := by
  have hnotice (x : Dev) : x.RaisesOnly ((x.event 0xEA).raiseOn 0xB0EA .sys false { ini := 0x61 }) := frame_raises.raiseOn (frame_raises.event (frame_raises.refl x) _) _ _ _ _
  have hnoticed (x : Dev) : OnlyObjects isSpare x ((x.event 0xEA).raiseOn 0xB0EA .sys false { ini := 0x61 }) :=
    ((OnlyObjects.refl x).event _ fun _ h => by simp [isSpare, isReaction_trace h]).raiseOn _ _ _ _ fun _ h => by simp [isSpare, h]
  unfold Dev.showSpares
  constructor
  · exact frame_raises.when (frame_raises.setO (frame_raises.setO (frame_raises.setO (frame_raises.setO (frame_raises.refl d) _ _) _ _) _ _) _ _) _ hnotice
  · exact OnlyObjects.when (((((OnlyObjects.refl d).setO _ _ (by decide)).setO _ _ (by decide)).setO _ _ (by decide)).setO _ _ (by decide)) _ fun _ => hnoticed

/-! ### A failing word (R479 step 6) -/

/-- The report of a redirected word. -/
def Dev.reportSpare (d : Dev) (w : Nat) : Dev := (d.showSpares.event 0xE9).raise 0xB0E9 false { addr := w, ini := 0x61, acc := 2 }

theorem Dev.reportSpare_facts (d : Dev) (w : Nat) : (d.reportSpare w).raised 0xE9 ∧ (d.reportSpare w).coll.log.getLast?.map LogRec.code = some 0xB0E9 ∧ d.RaisesOnly (d.reportSpare w) ∧ OnlyObjects isSpare d (d.reportSpare w) := by
  obtain ⟨hraises, hobj⟩ := d.showSpares_facts
  have hev : (d.showSpares.event 0xE9).raised 0xE9 := by simp
  exact ⟨Dev.raised_raise hev _ _ _, Dev.lastCode_raise _ _ _ rfl, frame_raises.raise (frame_raises.event hraises _) _ _ _,
    (hobj.event _ fun _ h => by simp [isSpare, isReaction_trace h]).raise _ _ _ fun _ h => by simp [isSpare, h]⟩

/-- The spare `t` programmed and taken. -/
def Dev.takeSpare (d : Dev) (t v : Nat) : Dev := (d.burn t v).updFuse fun f => { f with spares := insertOnce t f.spares }

theorem Dev.takeSpare_facts (d : Dev) (t v : Nat) : (d.takeSpare t v).fuse.job = d.fuse.job ∧ t ∈ (d.takeSpare t v).fuse.spares ∧ (d.takeSpare t v).result = d.result ∧ d.FuseOnly (d.takeSpare t v) ∧ OnlyObjects (fun _ => false) d (d.takeSpare t v) := by
  obtain ⟨-, -, -, -, -, -, hframe, hobj⟩ := d.burn_facts t v
  exact ⟨rfl, mem_insertOnce.mpr (Or.inl rfl), rfl, frame_fuse.trans hframe ((d.burn t v).fuseOnly_updFuse fun f => { f with spares := insertOnce t f.spares }),
    hobj.trans ((d.burn t v).onlyObjects_updFuse fun f => { f with spares := insertOnce t f.spares })⟩

theorem Dev.jobOver_facts (d : Dev) : d.jobOver.fuse.job = none ∧ d.jobOver.result = d.result ∧ d.FuseOnly d.jobOver ∧ OnlyObjects (fun _ => false) d d.jobOver := ⟨rfl, rfl, d.fuseOnly_updFuse _, d.onlyObjects_updFuse _⟩

/-- The end of the command leaves the words, the redirects and the spares as they are. -/
theorem Dev.jobOver_reads (d : Dev) : d.jobOver.freeSpares = d.freeSpares ∧ d.jobOver.nextWord 640 128 = d.nextWord 640 128 ∧ (∀ w, d.jobOver.fuseWord w = d.fuseWord w) ∧ ∀ w, d.jobOver.fuseAddr w = d.fuseAddr w := by
  unfold Dev.jobOver
  exact ⟨rfl, rfl, fun _ => rfl, fun _ => rfl⟩

theorem Dev.redirect_spare {d : Dev} {w v t a : Nat} (hfree : d.freeSpares.head? = some t) (hroom : d.nextWord 640 128 < 768) (ha : a < 640) :
    d.redirect w v [a] = ((((d.takeSpare t v).burn (d.nextWord 640 128) (record1 3 (w * 2 ^ 14 + t * 2 ^ 4) 0)).reportSpare w), 2, t) := by
  obtain ⟨l, hl⟩ : ∃ l, d.freeSpares = t :: l := by
    cases h : d.freeSpares with
    | nil => simp [h] at hfree
    | cons x l => exact ⟨l, by simpa [h] using hfree⟩
  have hge : 768 ≤ t := by
    have hmem : t ∈ d.freeSpares := by simp [hl]
    unfold Dev.freeSpares at hmem
    simp only [List.mem_filter, List.mem_map, List.mem_range] at hmem
    obtain ⟨⟨i, -, rfl⟩, -⟩ := hmem
    omega
  have hgood : [a].contains t = false := by simp; omega
  have hnext : (d.takeSpare t v).nextWord 640 128 = d.nextWord 640 128 := d.nextWord_burn 640 128 v (by omega)
  have hlow := d.le_nextWord 640 128
  have happend := Dev.append_first (d := d.takeSpare t v) (base := 640) (n := 128) (bad := [a]) (record1 3 (w * 2 ^ 14 + t * 2 ^ 4) 0) (by rw [hnext]; exact hroom) (by rw [hnext]; simp; omega)
  rw [hnext] at happend
  unfold Dev.redirect
  simp only [hl, List.takeWhile_cons, List.find?_cons, hgood, Bool.not_false, Bool.false_eq_true, if_false, List.foldl_nil]
  have hsame : (d.updFuse fun f => { f with badSpares := f.badSpares }) = d := rfl
  rw [hsame]
  change (match (d.takeSpare t v).append 640 128 (record1 3 (w * 2 ^ 14 + t * 2 ^ 4) 0) [a] with
    | (d3, ok) => if ok = true then ((d3.showSpares.event 0xE9).raiseOn 0xB0E9 .sys false { addr := w, ini := 0x61, acc := 2 }, 2, t) else _) = _
  rw [happend]
  rfl

theorem otp_of_isSpare (k : Nat) (h : isSpare k = true) : (k == Obj.OTP_STATUS || k == Obj.SPARE_USED || k == Obj.SPARE_FREE || k == Obj.SPARE_FAILED || k == Obj.J_FREE || isReaction k) = true := by
  simp only [isSpare, Bool.or_eq_true] at h ⊢
  tauto

/-- A failing word of the array at the end of its PROGRAM. -/
theorem Dev.otpEnd_redirects {d : Dev} {j : OtpJob} {t retries : Nat} (hjob : d.fuse.job = some j) (hkind : j.kind = 1) (hblank : d.fuseWord j.word = 0) (hvalue : j.value ≠ 0) (haddr : d.fuseAddr j.word < 640) (hfree : d.freeSpares.head? = some t)
    (hroom : d.nextWord 640 128 < 768) : d.otpEnd [d.fuseAddr j.word] retries =
      (((d.jobOver.takeSpare t j.value).burn (d.jobOver.nextWord 640 128) (record1 3 (j.word * 2 ^ 14 + t * 2 ^ 4) 0)).reportSpare j.word).setO Obj.OTP_STATUS (otpStatus false 2 retries j.word t) := by
  obtain ⟨hfrees, hnext, hwords, haddrs⟩ := d.jobOver_reads
  have hfails := Dev.programWord_failing (w := j.word) (bad := [d.fuseAddr j.word]) ((hwords _).trans hblank) hvalue (by rw [haddrs]; simp)
  have hspare := Dev.redirect_spare (d := d.jobOver) (w := j.word) (v := j.value) (by rw [hfrees]; exact hfree) (by rw [hnext]; exact hroom) haddr
  exact Dev.otpEnd_program hjob hkind _ (hfails.trans hspare)

theorem otpCommandEnd_redirects (s : State) (retries : Fin 5) (j : OtpJob) (t : Nat) (ha : s.dev.alive = true) (hjob : s.dev.fuse.job = some j) (hkind : j.kind = 1) (hblank : s.dev.fuseWord j.word = 0) (hvalue : j.value ≠ 0)
    (haddr : s.dev.fuseAddr j.word < 640) (hfree : s.dev.freeSpares.head? = some t) (hroom : s.dev.nextWord 640 128 < 768) :
    Completes (.otpCommandEnd [s.dev.fuseAddr j.word] retries) s (fun e => e.o Obj.OTP_STATUS = otpStatus false 2 retries j.word t ∧ t ∈ e.fuse.spares ∧ e.fuse.job = none ∧ e.raised 0xE9 ∧ e.coll.log.getLast?.map LogRec.code = some 0xB0E9 ∧ ({ s.dev with fuse := e.fuse } : Dev).RaisesOnly e ∧
      OnlyObjects (fun k => k == Obj.OTP_STATUS || k == Obj.SPARE_USED || k == Obj.SPARE_FREE || k == Obj.SPARE_FAILED || k == Obj.J_FREE || isReaction k) s.dev e) := by
  refine completes_live_eq (f := fun d => d.otpEnd [s.dev.fuseAddr j.word] retries) _ rfl ha (Dev.otpEnd_redirects hjob hkind hblank hvalue haddr hfree hroom) ?_
  obtain ⟨hoj, hores, hof, hoo⟩ := s.dev.jobOver_facts
  obtain ⟨hxj, hxt, hxres, hxf, hxo⟩ := s.dev.jobOver.takeSpare_facts t j.value
  generalize s.dev.jobOver.takeSpare t j.value = x at *
  generalize s.dev.jobOver.nextWord 640 128 = w at *
  generalize s.dev.jobOver = o at *
  obtain ⟨-, -, -, hyj, hyt, hyres, hyf, hyo⟩ := x.burn_facts w (record1 3 (j.word * 2 ^ 14 + t * 2 ^ 4) 0)
  generalize x.burn w (record1 3 (j.word * 2 ^ 14 + t * 2 ^ 4) 0) = y at *
  obtain ⟨hzev, hzlog, hzr, hzo⟩ := y.reportSpare_facts j.word
  generalize y.reportSpare j.word = z at *
  have hall : s.dev.FuseRaises z := ((hof.fused.trans hxf.fused).trans hyf.fused).trans hzr.fused
  have hsettle : z.RaisesOnly (z.setO Obj.OTP_STATUS (otpStatus false 2 retries j.word t)).settle := frame_raises.settle (frame_raises.setO (frame_raises.refl z) _ _)
  have hzfuse : z.fuse = y.fuse := by
    obtain ⟨c, hc⟩ := hzr
    exact hc.fuse
  have hzres : z.result = y.result := by
    obtain ⟨c, hc⟩ := hzr
    exact hc.result
  refine ⟨(Dev.o_settle _ (by decide)).trans (Dev.o_setO_same _ _ _), ?_, ?_, ?_, ?_, (hall.trans hsettle.fused).raisesFuse ?_, ?_⟩
  · rw [Dev.settle_fuse, Dev.setO_fuse, hzfuse, hyt]
    exact hxt
  · rw [Dev.settle_fuse, Dev.setO_fuse, hzfuse, hyj, hxj, hoj]
  · rw [Dev.raised_settle_iff]
    exact (frame_shows.setO (frame_shows.refl z) Obj.OTP_STATUS _).raised hzev
  · rw [Dev.settle_coll, Dev.setO_coll, hzlog]
  · rw [Dev.settle_result, Dev.setO_result, hzres, hyres, hxres, hores]
  · have hspare := ((((hoo.trans hxo).trans hyo).mono fun _ h => absurd h (by decide)).trans hzo).mono otp_of_isSpare
    exact (hspare.setO Obj.OTP_STATUS _ (by decide)).settle

/-! ### The shadow comparison (R489) -/

/-- A comparison with one word that does not read strongly and no injection. -/
theorem Dev.shadowCompare_one {d : Dev} {r : FuseRead} {y : Dev} (hinject : d.fuse.inject = none) (hy : d.compareWord r false = y) (hframe : d.RaisesOnly y) : d.shadowCompare [r] = y := by
  have hnone : y.fuse.inject = none := by
    obtain ⟨c, hc⟩ := hframe
    rw [hc.fuse]
    exact hinject
  unfold Dev.shadowCompare
  simp only [List.foldl_cons, List.foldl_nil, hy, hnone]

theorem shadowCompare_weak (s : State) (r : FuseRead) (ha : s.dev.alive = true) (hinject : s.dev.fuse.inject = none) (hread : r.value = some (s.dev.fuseRaw r.word)) :
    Completes (.shadowCompare [r]) s (fun e => e.o Obj.WEAK_WORDS = min 65535 (s.dev.o Obj.WEAK_WORDS + 1) ∧ e.o Obj.LAST_WEAK = r.word ∧ e.raised 0xE8 ∧ e.coll.log.getLast?.map LogRec.code = some 0xB0E8 ∧ s.dev.RaisesOnly e ∧ OnlyObjects (fun k => k == Obj.WEAK_WORDS || k == Obj.LAST_WEAK || isReaction k) s.dev e) := by
  generalize hx : (s.dev.setO Obj.WEAK_WORDS (min 65535 (s.dev.o Obj.WEAK_WORDS + 1))).setO Obj.LAST_WEAK (r.word : Int) = x
  have hxw : x.o Obj.WEAK_WORDS = min 65535 (s.dev.o Obj.WEAK_WORDS + 1) := by
    rw [← hx]
    exact (Dev.o_setO_other _ _ (by decide)).trans (Dev.o_setO_same _ _ _)
  have hxl : x.o Obj.LAST_WEAK = r.word := by
    rw [← hx]
    exact Dev.o_setO_same _ _ _
  have hxs : s.dev.RaisesOnly x := by
    rw [← hx]
    exact frame_raises.setO (frame_raises.setO (frame_raises.refl _) _ _) _ _
  have hxo : OnlyObjects (fun k => k == Obj.WEAK_WORDS || k == Obj.LAST_WEAK || isReaction k) s.dev x := by
    rw [← hx]
    exact ((OnlyObjects.refl _).setO _ _ (by decide)).setO _ _ (by decide)
  have hweak : s.dev.compareWord r false = (x.event 0xE8).raise 0xB0E8 false { addr := r.word, ini := 0x61, acc := 1 } := by
    unfold Dev.compareWord Dev.weakNotice
    rw [if_pos hread, hx]
    rfl
  have hraises : x.RaisesOnly ((x.event 0xE8).raise 0xB0E8 false { addr := r.word, ini := 0x61, acc := 1 }) := frame_raises.raise (frame_raises.event (frame_raises.refl _) _) _ _ _
  refine completes_live_eq _ rfl ha (Dev.shadowCompare_one hinject hweak (frame_raises.trans hxs hraises)) ?_
  have hlast := (x.event 0xE8).lastCode_raise (code := 0xB0E8) false { addr := r.word, ini := 0x61, acc := 1 } rfl
  have hev : ((x.event 0xE8).raise 0xB0E8 false { addr := r.word, ini := 0x61, acc := 1 }).raised 0xE8 := Dev.raised_raise (by simp) _ _ _
  have hobj : OnlyObjects (fun k => isReaction k) x ((x.event 0xE8).raise 0xB0E8 false { addr := r.word, ini := 0x61, acc := 1 }) := ((OnlyObjects.refl _).event _ fun _ => isReaction_trace).raise _ _ _ fun _ h => h
  generalize (x.event 0xE8).raise 0xB0E8 false { addr := r.word, ini := 0x61, acc := 1 } = y at *
  refine ⟨?_, ?_, (Dev.raised_settle_iff _ _).mpr hev, by rw [Dev.settle_coll]; exact hlast, frame_raises.settle (frame_raises.trans hxs hraises), (hxo.trans (hobj.mono fun _ h => by simp [h])).settle⟩
  · rw [Dev.o_settle _ (by decide), hobj.same _ (by decide) (by decide), hxw]
  · rw [Dev.o_settle _ (by decide), hobj.same _ (by decide) (by decide), hxl]

theorem shadowCompare_failed (s : State) (r : FuseRead) (ha : s.dev.alive = true) (hinject : s.dev.fuse.inject = none) (hread : r.value ≠ some (s.dev.fuseRaw r.word)) (hsec : s.dev.secretOrSecurity r.word = true) :
    Completes (.shadowCompare [r]) s (fun e => e.raised 0xEC ∧ e.inForce 0xB8ED .sys ∧ e.o Obj.SAFE_STATE = 2 ∧ s.dev.RaisesOnly e ∧ OnlyObjects (fun k => isReaction k) s.dev e) := by
  have heq : s.dev.shadowCompare [r] = (s.dev.event 0xEC).raise 0xB8ED false { addr := r.word, ini := 0x61, acc := 1 } := by
    have hstrong : s.dev.compareWord r false = (s.dev.event 0xEC).raise 0xB8ED false { addr := r.word, ini := 0x61, acc := 1 } := by
      unfold Dev.compareWord
      rw [if_neg hread, hsec]
      rfl
    exact Dev.shadowCompare_one hinject hstrong (frame_raises.raise (frame_raises.event (frame_raises.refl _) _) _ _ _)
  refine completes_live_eq _ rfl ha heq ?_
  have hforce : ((s.dev.event 0xEC).raise 0xB8ED false { addr := r.word, ini := 0x61, acc := 1 }).inForce 0xB8ED .sys := (s.dev.event 0xEC).inForce_raise_on false _ (by decide) rfl
  have hev : ((s.dev.event 0xEC).raise 0xB8ED false { addr := r.word, ini := 0x61, acc := 1 }).raised 0xEC := Dev.raised_raise (by simp) _ _ _
  have hraises : s.dev.RaisesOnly ((s.dev.event 0xEC).raise 0xB8ED false { addr := r.word, ini := 0x61, acc := 1 }) := frame_raises.raise (frame_raises.event (frame_raises.refl _) _) _ _ _
  have hobj : OnlyObjects (fun k => isReaction k) s.dev ((s.dev.event 0xEC).raise 0xB8ED false { addr := r.word, ini := 0x61, acc := 1 }) := ((OnlyObjects.refl _).event _ fun _ => isReaction_trace).raise _ _ _ fun _ h => h
  generalize (s.dev.event 0xEC).raise 0xB8ED false { addr := r.word, ini := 0x61, acc := 1 } = x at *
  refine ⟨(Dev.raised_settle_iff _ _).mpr hev, (Dev.inForce_settle_iff _ _ _).mpr hforce, ?_, frame_raises.settle hraises, hobj.settle⟩
  obtain ⟨f, hf, hcode, -⟩ := hforce
  have hlock : x.classInForce 4 = true := by
    unfold Dev.classInForce
    rw [Bool.or_eq_true]
    exact Or.inl (List.any_eq_true.mpr ⟨f, hf, by rw [hcode]; decide⟩)
  rw [Dev.o_settle_safeState, Dev.safeState, if_pos hlock]
  rfl

end Sys2Proof.Machine
end

section
/-! The integrator key's block, O47 (R491). -/

namespace Sys2Proof.Machine

/-- A word without redirect that reads 0 takes any value. -/
theorem Dev.programWord_plain (d : Dev) {w : Nat} (v : Nat) (hred : d.redirects = []) (hw : w < 640) (hblank : d.fuseRaw w = 0) :
    ∃ y, d.programWord w v [] = (y, 1, 0) ∧ y.fuseRaw w = v ∧ (∀ x, x ≠ w → y.fuseRaw x = d.fuseRaw x) ∧ y.redirects = [] ∧ d.FuseOnly y ∧ OnlyObjects (fun _ => false) d y := by
  have haddr := Dev.fuseAddr_of_no_redirects hred w
  have hword : d.fuseWord w = 0 := by rw [Dev.fuseWord, haddr, hblank]
  by_cases hv : v = 0
  · refine ⟨d, ?_, by rw [hblank, hv], fun _ _ => rfl, hred, frame_fuse.refl d, OnlyObjects.refl d⟩
    unfold Dev.programWord
    simp only [hword, hv, if_true]
  · obtain ⟨hraw, hother, -, -, -, -, hframe, hobj⟩ := d.burn_facts w v
    rw [hblank] at hraw
    refine ⟨d.burn w v, ?_, hraw.trans (Nat.or_zero v), hother, (d.redirects_burn v (by omega)).trans hred, hframe, hobj⟩
    rw [Dev.programWord_blank hword hv rfl, haddr]

/-- A journal record changes region J and its counts (R474, R475). -/
theorem Dev.journal_facts (d : Dev) (ev info : Nat) : (∀ x, x < 640 → (d.journal ev info []).fuseRaw x = d.fuseRaw x) ∧ d.FuseRaises (d.journal ev info []) ∧ OnlyObjects isSpare d (d.journal ev info []) := by
  generalize hv : record1 7 (ev * 2 ^ 16 + info * 2 ^ 8) (d.n Obj.OP_HOURS % 2 ^ 32) = v
  have hlow := d.le_nextWord 640 128
  by_cases hroom : d.nextWord 640 128 < 640 + 128
  · have heq : d.journal ev info [] = (d.burn (d.nextWord 640 128) v).showSpares := by
      unfold Dev.journal
      rw [hv, Dev.append_first v hroom rfl]
      rfl
    rw [heq]
    obtain ⟨-, hother, -, -, -, -, hframe, hobj⟩ := d.burn_facts (d.nextWord 640 128) v
    generalize d.burn (d.nextWord 640 128) v = x at *
    obtain ⟨hraises, hspare⟩ := x.showSpares_facts
    refine ⟨fun w hw => ?_, hframe.fused.trans hraises.fused, (hobj.mono fun _ h => absurd h (by decide)).trans hspare⟩
    obtain ⟨c, hc⟩ := hraises
    rw [← hother w (by omega), Dev.fuseRaw, hc.fuse]
    rfl
  · have heq : d.journal ev info [] = d.raiseOn 0xB0EB .sys false { ini := 0x61, acc := 2 } := by
      unfold Dev.journal
      rw [hv, Dev.append_full v [] (by omega)]
      rfl
    rw [heq]
    have hraises : d.RaisesOnly (d.raiseOn 0xB0EB .sys false { ini := 0x61, acc := 2 }) := Dev.raises_raiseOn ..
    refine ⟨fun w _ => ?_, hraises.fused, (OnlyObjects.refl d).raiseOn _ _ _ _ fun _ h => by simp [isSpare, h]⟩
    obtain ⟨c, hc⟩ := hraises
    rw [Dev.fuseRaw, hc.fuse]
    rfl

/-- The header of a key record (R474, R491). -/
def keyHeader (w1 w2 : Nat) : Nat := 6 * 2 ^ 60 + 3 * 2 ^ 56 + 2 ^ 48 + crc32 (wordBytes [w1, w2])

/-- A key block that is accepted: its three words, the journal record and KEY_STATE. -/
theorem Dev.kintWrite_accepted {d : Dev} {b : Bytes} {m : Nat} (hlc : d.o Obj.LIFE_CYCLE = 2) (hlen : b.length = 20) (hcrc : crcOk b = true) (hnone : d.keyRecord d.bankNow = none) (hm : d.nextWord (kintBase d.bankNow) 32 = m)
    (hroom : m + 3 ≤ kintBase d.bankNow + 32) {d1 d2 d3 : Dev} (h1 : d.programWord m (ofLe (b.take 8)) [] = (d1, 1, 0)) (h2 : d1.programWord (m + 1) (ofLe ((b.drop 8).take 8)) [] = (d2, 1, 0))
    (h3 : d2.programWord (m + 2) (keyHeader (ofLe (b.take 8)) (ofLe ((b.drop 8).take 8))) [] = (d3, 1, 0)) : d.kintWrite b [] = ((d3.journal 4 d.bankNow []).setO Obj.KEY_STATE 1).res 0 := by
  unfold keyHeader at h3
  unfold Dev.kintWrite
  simp only [hlc, hlen, hcrc, hnone, hm, h1, h2, h3, Nat.not_lt.mpr hroom, ne_eq, not_true_eq_false, if_false, Bool.not_true, Bool.false_eq_true, Option.isSome_none]
  rfl

theorem kintWrite_accepts (s : State) (b : Bytes) (m : Nat) (hserve : s.dev.phase = .service) (hlc : s.dev.o Obj.LIFE_CYCLE = 2) (hlen : b.length = 20) (hcrc : crcOk b = true) (hnone : s.dev.keyRecord s.dev.bankNow = none) (hred : s.dev.redirects = [])
    (hm : s.dev.nextWord (kintBase s.dev.bankNow) 32 = m) (hroom : m + 3 ≤ kintBase s.dev.bankNow + 32) (hbank : s.dev.bankNow ≤ 1) (hblank : s.dev.fuseRaw m = 0 ∧ s.dev.fuseRaw (m + 1) = 0 ∧ s.dev.fuseRaw (m + 2) = 0) :
    Completes (.kintWrite b []) s (fun e => e.result = 0 ∧ e.o Obj.KEY_STATE = 1 ∧ e.fuseRaw m = ofLe (b.take 8) ∧ e.fuseRaw (m + 1) = ofLe ((b.drop 8).take 8) ∧ ({ s.dev with fuse := e.fuse, result := e.result } : Dev).RaisesOnly e ∧ OnlyObjects (fun k => k == Obj.KEY_STATE || k == Obj.SPARE_USED || k == Obj.SPARE_FREE || k == Obj.SPARE_FAILED || k == Obj.J_FREE || isReaction k) s.dev e) := by
  obtain ⟨hb0, hb1, hb2⟩ := hblank
  have hlow : m + 2 < 640 := by
    unfold kintBase at hroom
    omega
  obtain ⟨d1, h1, hw1, hx1, hr1, hf1, ho1⟩ := s.dev.programWord_plain (ofLe (b.take 8)) hred (by omega) hb0
  obtain ⟨d2, h2, hw2, hx2, hr2, hf2, ho2⟩ := d1.programWord_plain (ofLe ((b.drop 8).take 8)) hr1 (w := m + 1) (by omega) ((hx1 _ (by omega)).trans hb1)
  obtain ⟨d3, h3, -, hx3, -, hf3, ho3⟩ := d2.programWord_plain (keyHeader (ofLe (b.take 8)) (ofLe ((b.drop 8).take 8))) hr2 (w := m + 2) hlow (((hx2 _ (by omega)).trans (hx1 _ (by omega))).trans hb2)
  refine completes_serve_eq (f := fun d => d.kintWrite b []) _ rfl hserve (Dev.kintWrite_accepted hlc hlen hcrc hnone hm hroom h1 h2 h3) ?_
  obtain ⟨hraw, hjf, hjo⟩ := d3.journal_facts 4 s.dev.bankNow
  generalize d3.journal 4 s.dev.bankNow [] = y at *
  have hyf : s.dev.FuseRaises y := ((hf1.fused.trans hf2.fused).trans hf3.fused).trans hjf
  have hyo : OnlyObjects isSpare s.dev y := (((ho1.trans ho2).trans ho3).mono fun _ h => absurd h (by decide)).trans hjo
  have hlater : y.FuseOnly ((y.setO Obj.KEY_STATE 1).res 0).settle := frame_fuse.settle (frame_fuse.trans (frame_fuse.setO (frame_fuse.refl y) _ _) (Dev.fuseOnly_res _ 0))
  have hword (w : Nat) : ((y.setO Obj.KEY_STATE 1).res 0).settle.fuseRaw w = y.fuseRaw w := by rw [Dev.fuseRaw, Dev.settle_fuse, Dev.res_fuse, Dev.setO_fuse, Dev.fuseRaw]
  refine ⟨Dev.settle_result _, ?_, ?_, ?_, (hyf.trans hlater.fused).raises, ?_⟩
  · rw [Dev.o_settle _ (by decide), Dev.o_res]
    exact Dev.o_setO_same _ _ _
  · rw [hword, hraw m (by omega), hx3 m (by omega), hx2 m (by omega), hw1]
  · rw [hword, hraw (m + 1) (by omega), hx3 (m + 1) (by omega), hw2]
  · have hspare : OnlyObjects (fun k => k == Obj.KEY_STATE || k == Obj.SPARE_USED || k == Obj.SPARE_FREE || k == Obj.SPARE_FAILED || k == Obj.J_FREE || isReaction k) s.dev y := hyo.mono fun k h => by
      simp only [isSpare, Bool.or_eq_true] at h ⊢
      tauto
    exact ((hspare.setO Obj.KEY_STATE 1 (by decide)).of_obj (Dev.res_obj _ 0)).settle

/-- Settles O47: the commands of the fuse array, their ends, the key block, the life cycle and the shadow comparison, clause by clause. -/
theorem fuseCommands : Obligations.FuseCommands :=
  ⟨otpProgram_starts, otpProgram_range, otpLock_starts, otpLock_bad, otpReissue_starts, otpReissue_lifecycle, otpCommandEnd_programs, otpCommandEnd_redirects, mRecordStore_stores, mRecordStore_full, kintWrite_accepts, kintWrite_length,
    lcCtrl_accepted, lcCtrl_role, shadowCompare_weak, shadowCompare_failed⟩

end Sys2Proof.Machine
end

section
/-! Image update, confirmation and the memory port's flash, O48 (R449 to R451, R499 to R502). -/

namespace Sys2Proof.Machine

/-- What an image command changes beside objects. -/
def Dev.ImgOnly : Dev → Dev → Prop := Dev.Outside fun x => { x with slotsAB := [], update := {}, free := 0, result := 0 }

theorem frame_img : Frame Dev.ImgOnly := frame_outside _

theorem Dev.ImgOnly.shows {d e : Dev} (h : d.ImgOnly e) : ({ d with slotsAB := e.slotsAB, update := e.update, free := e.free, result := e.result } : Dev).ShowsOnly e :=
  Dev.showsOnly_iff.mpr ⟨(congrArg (fun x : Dev => ({ x with slotsAB := e.slotsAB, update := e.update, free := e.free, result := e.result } : Dev)) h.1 :), h.2⟩

theorem Dev.ImgOnly.showsUpdate {d e : Dev} (h : d.ImgOnly e) (hfree : e.free = d.free) : ({ d with slotsAB := e.slotsAB, update := e.update, result := e.result } : Dev).ShowsOnly e := by
  have hshows := h.shows
  rw [hfree] at hshows
  exact hshows

theorem Dev.ImgOnly.showsAbort {d e : Dev} (h : d.ImgOnly e) (hfree : e.free = d.free) (hslots : e.slotsAB = d.slotsAB) : ({ d with update := e.update, result := e.result } : Dev).ShowsOnly e := by
  have hshows := h.showsUpdate hfree
  rw [hslots] at hshows
  exact hshows

theorem Dev.ImgOnly.showsSlots {d e : Dev} (h : d.ImgOnly e) (hfree : e.free = d.free) (hupdate : e.update = d.update) (hresult : e.result = d.result) : ({ d with slotsAB := e.slotsAB } : Dev).ShowsOnly e := by
  have hshows := h.showsUpdate hfree
  rw [hupdate, hresult] at hshows
  exact hshows

theorem Dev.imgOnly_res (d : Dev) (code : Nat) : d.ImgOnly (d.res code) := ⟨rfl, fun _ h => h⟩

theorem Dev.img_updImg (d : Dev) (i : Nat) (f : ImgSlot → ImgSlot) : (d.updImg i f).img i = f (d.img i) := Tab.get_upd_same _ _ _ _

/-- The objects that show the slots (R500). -/
def isSlotShow (k : Nat) : Bool := k == Obj.SLOT_A_STATE || k == Obj.SLOT_B_STATE || k == Obj.SLOT_A_SEC || k == Obj.SLOT_B_SEC

theorem Dev.showImages_facts (d : Dev) : d.ShowsOnly d.showImages ∧ OnlyObjects isSlotShow d d.showImages :=
  ⟨frame_shows.setO (frame_shows.setO (frame_shows.setO (frame_shows.setO (frame_shows.refl d) _ _) _ _) _ _) _ _,
    ((((OnlyObjects.refl d).setO _ _ (by decide)).setO _ _ (by decide)).setO _ _ (by decide)).setO _ _ (by decide)⟩

/-- The slots shown and the command answered. -/
theorem Dev.showImages_res (x : Dev) (code : Nat) : (x.showImages.res code).settle.result = code ∧ (∀ i, (x.showImages.res code).settle.img i = x.img i) ∧ (x.showImages.res code).settle.update = x.update ∧ (x.showImages.res code).settle.free = x.free ∧
    x.ImgOnly (x.showImages.res code).settle ∧ OnlyObjects isSlotShow x (x.showImages.res code).settle := by
  obtain ⟨hshow, hobj⟩ := x.showImages_facts
  generalize x.showImages = y at *
  refine ⟨Dev.settle_result _, fun i => ?_, ?_, ?_, frame_img.settle (frame_img.trans (frame_img.shows hshow) (y.imgOnly_res code)), (hobj.of_obj (Dev.res_obj y code)).settle⟩
  · rw [Dev.img, Dev.settle_slotsAB, Dev.res_slotsAB, hshow.slotsAB, Dev.img]
  · rw [Dev.settle_update, Dev.res_update, hshow.update]
  · rw [Dev.settle_free, Dev.res_free, hshow.free]

/-! ### Who may update (R502) -/

theorem Dev.updateRefused_idle {d : Dev} (s : Nat) (hlc : d.o Obj.LIFE_CYCLE ≠ 5) (hstep : d.fuse.step = none) (hidle : d.o Obj.IMG_STATE = 0) : d.updateRefused s = 0 := by
  have hn : d.n Obj.IMG_STATE = 0 := by rw [Dev.n, hidle]; rfl
  unfold Dev.updateRefused
  simp [hlc, hstep, hn]

theorem Dev.updateRefused_owner {d : Dev} {s : Nat} (hlc : d.o Obj.LIFE_CYCLE ≠ 5) (hstep : d.fuse.step = none) (howner : d.update.owner = s) : d.updateRefused s = 0 := by
  unfold Dev.updateRefused
  simp [hlc, hstep, howner]

/-! ### The start and the end of an update (R501) -/

theorem imgBegin_erases (s : State) (n : Fin 9) (hserve : s.dev.phase = .service) (hlc : s.dev.o Obj.LIFE_CYCLE ≠ 5) (hstep : s.dev.fuse.step = none) (hidle : s.dev.o Obj.IMG_STATE = 0) :
    Completes (.imgBegin n) s (fun e => e.result = 0 ∧ e.o Obj.IMG_STATE = 1 ∧ e.o Obj.IMG_RESULT = 0 ∧ e.img (1 - s.dev.activeImg) = { nonce := Config.freeValue s.dev.free } ∧ e.update = { owner := n } ∧ ({ s.dev with slotsAB := e.slotsAB, update := e.update, free := e.free, result := e.result } : Dev).ShowsOnly e ∧
      OnlyObjects (fun k => k == Obj.IMG_STATE || k == Obj.IMG_RESULT || k == Obj.SLOT_A_STATE || k == Obj.SLOT_B_STATE || k == Obj.SLOT_A_SEC || k == Obj.SLOT_B_SEC) s.dev e) := by
  generalize hx : (({ (s.dev.updImg (1 - s.dev.activeImg) (fun _ => { nonce := Config.freeValue s.dev.free })) with update := { owner := n } } : Dev).tickFree.setO Obj.IMG_STATE 1).setO Obj.IMG_RESULT 0 = x
  have hximg : x.img (1 - s.dev.activeImg) = { nonce := Config.freeValue s.dev.free } := by
    rw [← hx]
    exact s.dev.img_updImg (1 - s.dev.activeImg) fun _ => { nonce := Config.freeValue s.dev.free }
  have hxupdate : x.update = { owner := n } := by rw [← hx]; rfl
  have hxstate : x.o Obj.IMG_STATE = 1 := by
    rw [← hx]
    exact (Dev.o_setO_other _ _ (by decide)).trans (Dev.o_setO_same _ _ _)
  have hxresult : x.o Obj.IMG_RESULT = 0 := by
    rw [← hx]
    exact Dev.o_setO_same _ _ _
  have hxf : s.dev.ImgOnly x := by
    rw [← hx]
    exact frame_img.setO (frame_img.setO ⟨rfl, fun _ h => h⟩ _ _) _ _
  have hxo : OnlyObjects (fun k => k == Obj.IMG_STATE || k == Obj.IMG_RESULT || k == Obj.SLOT_A_STATE || k == Obj.SLOT_B_STATE || k == Obj.SLOT_A_SEC || k == Obj.SLOT_B_SEC) s.dev x := by
    rw [← hx]
    exact (((OnlyObjects.refl s.dev).of_obj (e := ({ (s.dev.updImg (1 - s.dev.activeImg) (fun _ => { nonce := Config.freeValue s.dev.free })) with update := { owner := n } } : Dev).tickFree) rfl).setO _ _ (by decide)).setO _ _ (by decide)
  have hn : s.dev.n Obj.IMG_STATE = 0 := by rw [Dev.n, hidle]; rfl
  have heq : s.dev.imgBegin n = x.showImages.res 0 := by
    unfold Dev.imgBegin
    simp only [Dev.updateRefused_idle n hlc hstep hidle, hn, hx]
    rfl
  refine completes_serve_eq (f := fun d => d.imgBegin n) _ rfl hserve heq ?_
  obtain ⟨hres, himg, hupd, -, hf, ho⟩ := x.showImages_res 0
  refine ⟨hres, (ho.same _ (by decide) (by decide)).trans hxstate, (ho.same _ (by decide) (by decide)).trans hxresult, (himg _).trans hximg, hupd.trans hxupdate, (frame_img.trans hxf hf).shows, hxo.trans (ho.mono fun k h => ?_)⟩
  simp only [isSlotShow, Bool.or_eq_true] at h ⊢
  tauto

theorem imgBegin_retired (s : State) (n : Fin 9) (hserve : s.dev.phase = .service) (hlc : s.dev.o Obj.LIFE_CYCLE = 5) :
    Completes (.imgBegin n) s (fun e => e.result = 0x20000004 ∧ ({ s.dev with result := e.result } : Dev).ShowsOnly e ∧ OnlyObjects (fun _ => false) s.dev e) := by
  refine completes_serve_result (f := fun d => d.imgBegin n) 0x20000004 rfl hserve ?_ fun _ h1 h2 h3 => ⟨h1, h2, h3⟩
  unfold Dev.imgBegin Dev.updateRefused
  rw [if_pos hlc]
  rfl

theorem imgEraseEnd_receives (s : State) (hserve : s.dev.phase = .service) (herase : s.dev.o Obj.IMG_STATE = 1) :
    Completes (.imgEraseEnd) s (fun e => e.o Obj.IMG_STATE = 2 ∧ s.dev.ShowsOnly e ∧ OnlyObjects (fun k => k == Obj.IMG_STATE) s.dev e) :=
  completes_serve_eq (f := fun d => d.when (d.o Obj.IMG_STATE == 1) (fun d => d.setO Obj.IMG_STATE 2)) _ rfl hserve (if_pos (by rw [herase]; rfl))
    ⟨(Dev.o_settle _ (by decide)).trans (Dev.o_setO_same _ _ _), frame_shows.settle (frame_shows.setO (frame_shows.refl _) _ _), ((OnlyObjects.refl s.dev).setO Obj.IMG_STATE 2 (by simp)).settle⟩

theorem imgAbort_ends (s : State) (n : Fin 9) (hserve : s.dev.phase = .service) (hlc : s.dev.o Obj.LIFE_CYCLE ≠ 5) (hstep : s.dev.fuse.step = none) (hrun : [1, 2, 3].contains (s.dev.n Obj.IMG_STATE) = true) (howner : s.dev.update.owner = n.val) :
    Completes (.imgAbort n) s (fun e => e.result = 0 ∧ e.o Obj.IMG_STATE = 0 ∧ e.update = {} ∧ ({ s.dev with update := e.update, result := e.result } : Dev).ShowsOnly e ∧ OnlyObjects (fun k => k == Obj.IMG_STATE) s.dev e) := by
  generalize hx : ({ s.dev with update := {} } : Dev).setO Obj.IMG_STATE 0 = x
  have hxs : x.slotsAB = s.dev.slotsAB ∧ x.free = s.dev.free ∧ x.update = {} := by rw [← hx]; exact ⟨rfl, rfl, rfl⟩
  have hxstate : x.o Obj.IMG_STATE = 0 := by rw [← hx]; exact Dev.o_setO_same _ _ _
  have hxf : s.dev.ImgOnly x := by rw [← hx]; exact frame_img.setO ⟨rfl, fun _ h => h⟩ _ _
  have hxo : OnlyObjects (fun k => k == Obj.IMG_STATE) s.dev x := by rw [← hx]; exact ((OnlyObjects.refl s.dev).of_obj (e := { s.dev with update := {} }) rfl).setO _ _ (by simp)
  obtain ⟨hslots, hfree, hupdate⟩ := hxs
  have heq : s.dev.imgAbort n = x.res 0 := by
    unfold Dev.imgAbort Dev.endUpdate Dev.when
    simp only [Dev.updateRefused_owner hlc hstep howner, howner, hrun, beq_self_eq_true, Bool.and_self, if_true, hx, ne_eq, not_true_eq_false, if_false]
  refine completes_serve_eq (f := fun d => d.imgAbort n) _ rfl hserve heq ⟨Dev.settle_result _, ?_, ?_, ?_, (hxo.of_obj (Dev.res_obj x 0)).settle⟩
  · rw [Dev.o_settle _ (by decide), Dev.o_res, hxstate]
  · rw [Dev.settle_update, Dev.res_update, hupdate]
  · exact (frame_img.settle (frame_img.trans hxf (x.imgOnly_res 0))).showsAbort (by rw [Dev.settle_free, Dev.res_free, hfree]) (by rw [Dev.settle_slotsAB, Dev.res_slotsAB, hslots])

/-! ### The blocks (R501) -/

theorem imgBlock_appends (s : State) (n : Fin 9) (b : Bytes) (hserve : s.dev.phase = .service) (hlc : s.dev.o Obj.LIFE_CYCLE ≠ 5) (hstep : s.dev.fuse.step = none) (hstate : s.dev.o Obj.IMG_STATE = 2) (howner : s.dev.update.owner = n.val)
    (hb : b ≠ [] ∧ b.length ≤ 32768) (hno : s.dev.n Obj.IMG_BLOCK_NO = s.dev.update.next) (hended : s.dev.update.ended = false) (hnext : s.dev.update.next ≠ 0) :
    Completes (.imgBlock n b true) s (fun e => e.result = 0 ∧ (e.img (1 - s.dev.activeImg)).body = (s.dev.img (1 - s.dev.activeImg)).body ++ b ∧ (e.img (1 - s.dev.activeImg)).head = (s.dev.img (1 - s.dev.activeImg)).head ∧
      e.update = { s.dev.update with next := s.dev.update.next + 1, ended := decide (b.length < 32768) } ∧ ({ s.dev with slotsAB := e.slotsAB, update := e.update, result := e.result } : Dev).ShowsOnly e ∧ OnlyObjects (fun k => k == Obj.SLOT_A_STATE || k == Obj.SLOT_B_STATE || k == Obj.SLOT_A_SEC || k == Obj.SLOT_B_SEC) s.dev e) := by
  generalize hx : ({ (s.dev.updImg (1 - s.dev.activeImg) (fun x => { x with written := true, head := x.head ++ [], body := x.body ++ b })) with
      update := { s.dev.update with next := s.dev.update.next + 1, ended := decide (b.length < 32768) } } : Dev) = x
  have hximg : x.img (1 - s.dev.activeImg) = { s.dev.img (1 - s.dev.activeImg) with written := true, head := (s.dev.img (1 - s.dev.activeImg)).head ++ [], body := (s.dev.img (1 - s.dev.activeImg)).body ++ b } := by
    rw [← hx]
    exact s.dev.img_updImg (1 - s.dev.activeImg) fun x => { x with written := true, head := x.head ++ [], body := x.body ++ b }
  have hxs : x.free = s.dev.free ∧ x.obj = s.dev.obj ∧ x.update = { s.dev.update with next := s.dev.update.next + 1, ended := decide (b.length < 32768) } := by rw [← hx]; exact ⟨rfl, rfl, rfl⟩
  have hxf : s.dev.ImgOnly x := by rw [← hx]; exact ⟨rfl, fun _ h => h⟩
  obtain ⟨hfree, hxobj, hupdate⟩ := hxs
  have heq : s.dev.imgBlock n b true = x.showImages.res 0 := by
    unfold Dev.imgBlock
    have hblock : ¬ (b.isEmpty = true ∨ 32768 < b.length) := by simp; omega
    simp only [Dev.updateRefused_owner hlc hstep howner, if_neg hblock, hstate, hno, hended, if_neg hnext, ne_eq, not_true_eq_false, if_false, Bool.false_eq_true, or_self, Bool.not_true, hx]
  refine completes_serve_eq (f := fun d => d.imgBlock n b true) _ rfl hserve heq ?_
  obtain ⟨hres, himg, hupd, hfr, hf, ho⟩ := x.showImages_res 0
  exact ⟨hres, by rw [himg, hximg], by rw [himg, hximg]; exact List.append_nil _, hupd.trans hupdate, (frame_img.trans hxf hf).showsUpdate (hfr.trans hfree), ((OnlyObjects.refl s.dev).of_obj hxobj).trans ho⟩

theorem imgBlock_disordered (s : State) (n : Fin 9) (b : Bytes) (ok : Bool) (hserve : s.dev.phase = .service) (hlc : s.dev.o Obj.LIFE_CYCLE ≠ 5) (hstep : s.dev.fuse.step = none) (hstate : s.dev.o Obj.IMG_STATE = 2) (howner : s.dev.update.owner = n.val)
    (hb : b ≠ [] ∧ b.length ≤ 32768) (hno : s.dev.n Obj.IMG_BLOCK_NO ≠ s.dev.update.next) :
    Completes (.imgBlock n b ok) s (fun e => e.result = 0x40000003 ∧ ({ s.dev with result := e.result } : Dev).ShowsOnly e ∧ OnlyObjects (fun _ => false) s.dev e) := by
  refine completes_serve_result (f := fun d => d.imgBlock n b ok) 0x40000003 rfl hserve ?_ fun _ h1 h2 h3 => ⟨h1, h2, h3⟩
  have hblock : ¬ (b.isEmpty = true ∨ 32768 < b.length) := by simp; omega
  unfold Dev.imgBlock
  simp only [Dev.updateRefused_owner hlc hstep howner, if_neg hblock, hstate, ne_eq, not_true_eq_false, if_false, not_false_eq_true, hno, true_or, if_true]

/-! ### The verdict (R501) -/

theorem imgFinish_verdict (s : State) (n : Fin 9) (hserve : s.dev.phase = .service) (hlc : s.dev.o Obj.LIFE_CYCLE ≠ 5) (hstep : s.dev.fuse.step = none) (hstate : s.dev.o Obj.IMG_STATE = 2) (howner : s.dev.update.owner = n.val) :
    Completes (.imgFinish n) s (fun e => e.result = s.dev.imgVerdict (s.dev.verifyImg (s.dev.img (1 - s.dev.activeImg))) ∧ e.o Obj.IMG_RESULT = s.dev.imgVerdict (s.dev.verifyImg (s.dev.img (1 - s.dev.activeImg))) ∧
      (e.result = 0 → e.o Obj.IMG_STATE = 4 ∧ (e.img (1 - s.dev.activeImg)).commit = true ∧ (e.img (1 - s.dev.activeImg)).seq = (s.dev.img (1 - (1 - s.dev.activeImg))).seq + 1) ∧
      (e.result ≠ 0 → e.o Obj.IMG_STATE = 5 ∧ (e.img (1 - s.dev.activeImg)).rejected = true) ∧ e.update = {} ∧ ({ s.dev with slotsAB := e.slotsAB, update := e.update, result := e.result } : Dev).ShowsOnly e ∧
      OnlyObjects (fun k => k == Obj.IMG_STATE || k == Obj.IMG_RESULT || k == Obj.SLOT_A_STATE || k == Obj.SLOT_B_STATE || k == Obj.SLOT_A_SEC || k == Obj.SLOT_B_SEC) s.dev e) := by
  generalize hv : s.dev.imgVerdict (s.dev.verifyImg (s.dev.img (1 - s.dev.activeImg))) = v
  generalize hi : 1 - s.dev.activeImg = i at *
  generalize hy : ({ ((s.dev.updImg i (fun _ => s.dev.verifyImg (s.dev.img i))).setO Obj.IMG_RESULT (v : Int)) with update := {} } : Dev) = y
  have hyresult : y.o Obj.IMG_RESULT = v := by rw [← hy]; exact Dev.o_setO_same (s.dev.updImg i _) _ _
  have hys : y.free = s.dev.free ∧ y.update = {} := by rw [← hy]; exact ⟨rfl, rfl⟩
  have hyf : s.dev.ImgOnly y := by rw [← hy]; exact ⟨rfl, fun _ h => h⟩
  have hyo : OnlyObjects (fun k => k == Obj.IMG_STATE || k == Obj.IMG_RESULT || k == Obj.SLOT_A_STATE || k == Obj.SLOT_B_STATE || k == Obj.SLOT_A_SEC || k == Obj.SLOT_B_SEC) s.dev y := by
    rw [← hy]
    exact ((((OnlyObjects.refl s.dev).of_obj (e := s.dev.updImg i fun _ => s.dev.verifyImg (s.dev.img i)) rfl).setO Obj.IMG_RESULT (v : Int) (by decide))).of_obj rfl
  obtain ⟨hyfree, hyupdate⟩ := hys
  have hend (f : ImgSlot → ImgSlot) (st : Int) (heq : s.dev.imgFinish n = (((y.updImg i f).setO Obj.IMG_STATE st).showImages).res v) (q : ImgSlot → Int → Prop) (hq : q (f (y.img i)) st) :
      Completes (.imgFinish n) s (fun e => e.result = v ∧ e.o Obj.IMG_RESULT = v ∧ q (e.img i) (e.o Obj.IMG_STATE) ∧ e.update = {} ∧ ({ s.dev with slotsAB := e.slotsAB, update := e.update, result := e.result } : Dev).ShowsOnly e ∧
        OnlyObjects (fun k => k == Obj.IMG_STATE || k == Obj.IMG_RESULT || k == Obj.SLOT_A_STATE || k == Obj.SLOT_B_STATE || k == Obj.SLOT_A_SEC || k == Obj.SLOT_B_SEC) s.dev e) := by
    refine completes_serve_eq (f := fun d => d.imgFinish n) _ rfl hserve heq ?_
    have hximg : ((y.updImg i f).setO Obj.IMG_STATE st).img i = f (y.img i) := y.img_updImg i f
    have hxo : OnlyObjects (fun k => k == Obj.IMG_STATE || k == Obj.IMG_RESULT || k == Obj.SLOT_A_STATE || k == Obj.SLOT_B_STATE || k == Obj.SLOT_A_SEC || k == Obj.SLOT_B_SEC) s.dev ((y.updImg i f).setO Obj.IMG_STATE st) :=
      (hyo.of_obj (e := y.updImg i f) rfl).setO _ _ (by decide)
    have hxf : y.ImgOnly ((y.updImg i f).setO Obj.IMG_STATE st) := frame_img.setO ⟨rfl, fun _ h => h⟩ _ _
    have hxstate : ((y.updImg i f).setO Obj.IMG_STATE st).o Obj.IMG_STATE = st := Dev.o_setO_same _ _ _
    have hxresult : ((y.updImg i f).setO Obj.IMG_STATE st).o Obj.IMG_RESULT = y.o Obj.IMG_RESULT := Dev.o_setO_other _ _ (by decide)
    have hxs : ((y.updImg i f).setO Obj.IMG_STATE st).free = y.free ∧ ((y.updImg i f).setO Obj.IMG_STATE st).update = y.update := ⟨rfl, rfl⟩
    generalize (y.updImg i f).setO Obj.IMG_STATE st = x at *
    obtain ⟨hxfree, hxupdate⟩ := hxs
    obtain ⟨hres, himg, hupd, hfr, hf, ho⟩ := x.showImages_res v
    refine ⟨hres, ?_, ?_, hupd.trans (hxupdate.trans hyupdate), (frame_img.trans (frame_img.trans hyf hxf) hf).showsUpdate (hfr.trans (hxfree.trans hyfree)), hxo.trans (ho.mono fun k h => ?_)⟩
    · rw [ho.same _ (by decide) (by decide), hxresult, hyresult]
    · rw [himg, hximg, ho.same _ (by decide) (by decide), hxstate]
      exact hq
    · simp only [isSlotShow, Bool.or_eq_true] at h ⊢
      tauto
  have hrun : s.dev.imgFinish n = if v = 0 then (((y.updImg i (fun x => { x with seq := (s.dev.img (1 - i)).seq + 1, commit := true })).setO Obj.IMG_STATE 4).showImages).res 0
      else (((y.updImg i (fun x => { x with rejected := true })).setO Obj.IMG_STATE 5).showImages).res v := by
    unfold Dev.imgFinish
    simp only [Dev.updateRefused_owner hlc hstep howner, hstate, hi, hv, hy, ne_eq, not_true_eq_false, if_false]
  by_cases hzero : v = 0
  · rw [if_pos hzero] at hrun
    refine (hend _ _ (by rw [hrun, hzero]) (fun x st => st = 4 ∧ x.commit = true ∧ x.seq = (s.dev.img (1 - i)).seq + 1) ⟨rfl, rfl, rfl⟩).mono fun e ⟨h1, h2, h3, h4⟩ => ⟨h1, h2, fun _ => h3, fun h => absurd (h1.trans hzero) h, h4⟩
  · rw [if_neg hzero] at hrun
    exact (hend _ _ hrun (fun x st => st = 5 ∧ x.rejected = true) ⟨rfl, rfl⟩).mono fun e ⟨h1, h2, h3, h4⟩ => ⟨h1, h2, fun h => absurd (h1.symm.trans h) hzero, fun _ => h3, h4⟩

theorem imageConfirm_marks (s : State) (hserve : s.dev.phase = .service) :
    Completes (.imageConfirm) s (fun e => e.img s.dev.activeImg = { s.dev.img s.dev.activeImg with confirmed := true } ∧ ({ s.dev with slotsAB := e.slotsAB } : Dev).ShowsOnly e ∧ OnlyObjects (fun k => k == Obj.SLOT_A_STATE || k == Obj.SLOT_B_STATE || k == Obj.SLOT_A_SEC || k == Obj.SLOT_B_SEC) s.dev e) := by
  refine completes_serve_eq (f := fun d => (d.updImg d.activeImg (fun x => { x with confirmed := true })).showImages) _ rfl hserve rfl ?_
  have hximg := s.dev.img_updImg s.dev.activeImg fun x => { x with confirmed := true }
  have hxf : s.dev.ImgOnly (s.dev.updImg s.dev.activeImg fun x => { x with confirmed := true }) := ⟨rfl, fun _ h => h⟩
  have hxs : (s.dev.updImg s.dev.activeImg fun x => { x with confirmed := true }).free = s.dev.free ∧ (s.dev.updImg s.dev.activeImg fun x => { x with confirmed := true }).update = s.dev.update ∧
    (s.dev.updImg s.dev.activeImg fun x => { x with confirmed := true }).result = s.dev.result ∧ (s.dev.updImg s.dev.activeImg fun x => { x with confirmed := true }).obj = s.dev.obj := ⟨rfl, rfl, rfl, rfl⟩
  generalize (s.dev.updImg s.dev.activeImg fun x => { x with confirmed := true }) = x at *
  obtain ⟨hfree, hupdate, hresult, hxobj⟩ := hxs
  obtain ⟨hshow, hobj⟩ := x.showImages_facts
  generalize x.showImages = y at *
  refine ⟨?_, (frame_img.settle (frame_img.trans hxf (frame_img.shows hshow))).showsSlots ?_ ?_ ?_, (((OnlyObjects.refl s.dev).of_obj hxobj).trans hobj).settle⟩
  · rw [Dev.img, Dev.settle_slotsAB, hshow.slotsAB]
    exact hximg
  · rw [Dev.settle_free, hshow.free, hfree]
  · rw [Dev.settle_update, hshow.update, hupdate]
  · rw [Dev.settle_result, hshow.result, hresult]

/-! ### Flash (R449 to R451) -/

theorem flashLineFill_deciphers (s : State) (a : Nat) (cipher : Bytes) (hserve : s.dev.phase = .service) :
    Completes (.flashLineFill a cipher) s (fun e => e.line = some (a / 32 * 32, decryptLine (wordBytes [s.dev.fuseWord 139, s.dev.fuseWord 140]) (s.dev.nonceAt a) a cipher) ∧ ({ s.dev with line := e.line } : Dev).ShowsOnly e ∧ OnlyObjects (fun _ => false) s.dev e) := by
  generalize hline : some (a / 32 * 32, decryptLine (wordBytes [s.dev.fuseWord 139, s.dev.fuseWord 140]) (s.dev.nonceAt a) a cipher) = line
  refine completes_serve_eq { s.dev with line := line } rfl hserve (by rw [← hline]) ⟨Dev.settle_line _, ?_, ((OnlyObjects.refl s.dev).of_obj (e := { s.dev with line := line }) rfl).settle⟩
  rw [Dev.settle_line]
  exact Dev.shows_settle _

/-- What the end of a flash command changes beside objects. -/
def Dev.FlashOnly : Dev → Dev → Prop := Dev.Outside fun x => { x with flashJobs := [], pauses := [], result := 0 }

theorem frame_flash : Frame Dev.FlashOnly := frame_outside _

theorem Dev.FlashOnly.shows {d e : Dev} (h : d.FlashOnly e) : ({ d with flashJobs := e.flashJobs, pauses := e.pauses, result := e.result } : Dev).ShowsOnly e :=
  Dev.showsOnly_iff.mpr ⟨(congrArg (fun x : Dev => ({ x with flashJobs := e.flashJobs, pauses := e.pauses, result := e.result } : Dev)) h.1 :), h.2⟩

theorem Dev.FlashOnly.showsJobs {d e : Dev} (h : d.FlashOnly e) (hr : e.result = d.result) : ({ d with flashJobs := e.flashJobs, pauses := e.pauses } : Dev).ShowsOnly e := by
  have hshows := h.shows
  rw [hr] at hshows
  exact hshows

theorem Dev.pauseStart_flash (d : Dev) (op k : Nat) : (d.pauseStart op k).flashJobs = d.flashJobs ∧ (d.pauseStart op k).result = d.result ∧ (d.pauseStart op k).obj = d.obj ∧ d.FlashOnly (d.pauseStart op k) := by
  unfold Dev.pauseStart
  split
  · exact ⟨rfl, rfl, rfl, frame_flash.refl d⟩
  · exact ⟨rfl, rfl, rfl, rfl, fun _ h => h⟩

/-- What the end of a flash command does before the pause (R450, R451). -/
def Dev.flashEnd (d : Dev) (ok : Bool) : Dev :=
  match d.flashJobs with
  | 1 :: t => if ok then (({ d with flashJobs := t } : Dev).addWrap Obj.XP_COPIES).setO Obj.XP_STATE 1 else ({ d with flashJobs := t } : Dev).setO Obj.XP_STATE 3
  | l => ({ d with flashJobs := l.drop 1 } : Dev).when (!ok) (fun d => d.res 0x70000002)

theorem Dev.flashEnd_copy {d : Dev} {t : List Nat} (h : d.flashJobs = 1 :: t) (ok : Bool) : d.flashEnd ok = if ok then (({ d with flashJobs := t } : Dev).addWrap Obj.XP_COPIES).setO Obj.XP_STATE 1 else ({ d with flashJobs := t } : Dev).setO Obj.XP_STATE 3 := by
  unfold Dev.flashEnd
  simp only [h]

theorem Dev.flashEnd_other {d : Dev} (h : d.flashJobs.head? ≠ some 1) (ok : Bool) : d.flashEnd ok = ({ d with flashJobs := d.flashJobs.drop 1 } : Dev).when (!ok) (fun d => d.res 0x70000002) := by
  unfold Dev.flashEnd
  split
  · next t hjobs => simp [hjobs] at h
  · rfl

/-- The end of a flash command: what it did, and the pause. -/
theorem completes_flash {s : State} {ok : Bool} (x : Dev) (hserve : s.dev.phase = .service) (hpause : s.dev.pauses.contains 13 = false) (hx : s.dev.flashEnd ok = x) (ks : Nat → Bool) (hf : s.dev.FlashOnly x) (ho : OnlyObjects ks s.dev x) :
    Completes (.flashCommandEnd ok) s (fun e => e.flashJobs = x.flashJobs ∧ e.result = x.result ∧ (∀ k, isStatus k = false → e.o k = x.o k) ∧ s.dev.FlashOnly e ∧ OnlyObjects ks s.dev e) := by
  have hrun : exec (.flashCommandEnd ok) s = s.serve (fun d => d.when (!(d.pauses.contains 13)) (fun d => (d.flashEnd ok).pauseStart 13 Obj.PAUSE_FLASH_TB2)) := rfl
  have heq : (s.dev.when (!(s.dev.pauses.contains 13)) (fun d => (d.flashEnd ok).pauseStart 13 Obj.PAUSE_FLASH_TB2)) = x.pauseStart 13 Obj.PAUSE_FLASH_TB2 := by
    rw [Dev.when, hpause, if_pos (by decide), hx]
  refine completes_serve_eq _ hrun hserve heq ?_
  obtain ⟨hjobs, hres, hobj, hpf⟩ := x.pauseStart_flash 13 Obj.PAUSE_FLASH_TB2
  generalize x.pauseStart 13 Obj.PAUSE_FLASH_TB2 = y at *
  refine ⟨by rw [Dev.settle_flashJobs, hjobs], by rw [Dev.settle_result, hres], fun k hk => ?_, frame_flash.settle (frame_flash.trans hf hpf), (ho.of_obj hobj).settle⟩
  rw [Dev.o_settle _ hk, Dev.o, hobj, Dev.o]

theorem flashCommandEnd_copied (s : State) (t : List Nat) (hserve : s.dev.phase = .service) (hpause : s.dev.pauses.contains 13 = false) (hjobs : s.dev.flashJobs = 1 :: t) :
    Completes (.flashCommandEnd true) s (fun e => e.flashJobs = t ∧ e.o Obj.XP_COPIES = wrapU32 (s.dev.o Obj.XP_COPIES + 1) ∧ e.o Obj.XP_STATE = 1 ∧ ({ s.dev with flashJobs := e.flashJobs, pauses := e.pauses } : Dev).ShowsOnly e ∧ OnlyObjects (fun k => k == Obj.XP_COPIES || k == Obj.XP_STATE) s.dev e) := by
  refine (completes_flash ((({ s.dev with flashJobs := t } : Dev).addWrap Obj.XP_COPIES).setO Obj.XP_STATE 1) hserve hpause (Dev.flashEnd_copy hjobs _) (fun k => k == Obj.XP_COPIES || k == Obj.XP_STATE) (frame_flash.setO (frame_flash.addWrap ⟨rfl, fun _ h => h⟩ _ _) _ _)
    ((((OnlyObjects.refl s.dev).of_obj (e := { s.dev with flashJobs := t }) rfl).addWrap _ _ (by decide)).setO _ _ (by decide))).mono fun e ⟨h1, h2, h3, h4, h5⟩ => ⟨h1, ?_, ?_, h4.showsJobs h2, h5⟩
  · exact (h3 _ (by decide)).trans ((Dev.o_setO_other _ _ (by decide)).trans (Dev.o_setO_same _ _ _))
  · exact (h3 _ (by decide)).trans (Dev.o_setO_same _ _ _)

theorem flashCommandEnd_uncopied (s : State) (t : List Nat) (hserve : s.dev.phase = .service) (hpause : s.dev.pauses.contains 13 = false) (hjobs : s.dev.flashJobs = 1 :: t) :
    Completes (.flashCommandEnd false) s (fun e => e.flashJobs = t ∧ e.o Obj.XP_STATE = 3 ∧ ({ s.dev with flashJobs := e.flashJobs, pauses := e.pauses } : Dev).ShowsOnly e ∧ OnlyObjects (fun k => k == Obj.XP_STATE) s.dev e) :=
  (completes_flash (({ s.dev with flashJobs := t } : Dev).setO Obj.XP_STATE 3) hserve hpause (Dev.flashEnd_copy hjobs _) (fun k => k == Obj.XP_STATE) (frame_flash.setO ⟨rfl, fun _ h => h⟩ _ _)
    (((OnlyObjects.refl s.dev).of_obj (e := { s.dev with flashJobs := t }) rfl).setO _ _ (by simp))).mono fun _ ⟨h1, h2, h3, h4, h5⟩ => ⟨h1, (h3 _ (by decide)).trans (Dev.o_setO_same _ _ _), h4.showsJobs h2, h5⟩

theorem flashCommandEnd_failed (s : State) (hserve : s.dev.phase = .service) (hpause : s.dev.pauses.contains 13 = false) (hjobs : s.dev.flashJobs.head? ≠ some 1) :
    Completes (.flashCommandEnd false) s (fun e => e.flashJobs = s.dev.flashJobs.drop 1 ∧ e.result = 0x70000002 ∧ ({ s.dev with flashJobs := e.flashJobs, pauses := e.pauses, result := e.result } : Dev).ShowsOnly e ∧ OnlyObjects (fun _ => false) s.dev e) := by
  refine (completes_flash (({ s.dev with flashJobs := s.dev.flashJobs.drop 1 } : Dev).res 0x70000002) hserve hpause (Dev.flashEnd_other hjobs false) (fun _ => false) ⟨rfl, fun _ h => h⟩
    (((OnlyObjects.refl s.dev).of_obj (e := { s.dev with flashJobs := s.dev.flashJobs.drop 1 }) rfl).of_obj (Dev.res_obj _ _))).mono fun _ ⟨h1, h2, _, h4, h5⟩ => ⟨h1, h2, h4.shows, h5⟩

/-- Settles O48: the update commands, the confirmation and the flash of the memory port, clause by clause. -/
theorem imageCommands : Obligations.ImageCommands :=
  ⟨imgBegin_erases, imgBegin_retired, imgEraseEnd_receives, imgBlock_appends, imgBlock_disordered, imgFinish_verdict, imgAbort_ends, imageConfirm_marks, flashLineFill_deciphers, flashCommandEnd_copied, flashCommandEnd_uncopied, flashCommandEnd_failed⟩

end Sys2Proof.Machine
end

section
/-! The trace buffer and the frames on J9, O49 (R565 to R575). -/

namespace Sys2Proof.Machine

/-- What a frame or a capture command changes beside objects. -/
def Dev.TraceOnly : Dev → Dev → Prop := Dev.Outside fun x => { x with j9 := [], pauses := [], result := 0 }

theorem frame_trace : Frame Dev.TraceOnly := frame_outside _

theorem Dev.TraceOnly.shows {d e : Dev} (h : d.TraceOnly e) : ({ d with j9 := e.j9, pauses := e.pauses, result := e.result } : Dev).ShowsOnly e :=
  Dev.showsOnly_iff.mpr ⟨(congrArg (fun x : Dev => ({ x with j9 := e.j9, pauses := e.pauses, result := e.result } : Dev)) h.1 :), h.2⟩

theorem Dev.TraceOnly.showsPaused {d e : Dev} (h : d.TraceOnly e) (hr : e.result = d.result) : ({ d with j9 := e.j9, pauses := e.pauses } : Dev).ShowsOnly e := by
  have hshows := h.shows
  rw [hr] at hshows
  exact hshows

theorem Dev.TraceOnly.showsFrame {d e : Dev} (h : d.TraceOnly e) (hr : e.result = d.result) (hp : e.pauses = d.pauses) : ({ d with j9 := e.j9 } : Dev).ShowsOnly e := by
  have hshows := h.showsPaused hr
  rw [hp] at hshows
  exact hshows

/-- A number whose object holds a natural number. -/
theorem Dev.n_of_o {d : Dev} {k m : Nat} (h : d.o k = (m : Int)) : d.n k = m := by rw [Dev.n, h, Int.toNat_natCast]

/-! ### Frames (R565 to R569) -/

theorem Dev.sendFrame_facts (d : Dev) (lost : Nat) (status : Bool) (rs : List TraceRec) : (d.sendFrame lost status rs).j9 = frameBytes (d.n Obj.FRAMES_SENT) lost (d.o Obj.SERVICE_LEVEL == 0) status rs ∧
    (d.sendFrame lost status rs).o Obj.FRAMES_SENT = wrapU32 (d.o Obj.FRAMES_SENT + 1) ∧ (d.sendFrame lost status rs).trace = d.trace ∧ (d.sendFrame lost status rs).traceLost = d.traceLost ∧ (d.sendFrame lost status rs).pauses = d.pauses ∧
    (d.sendFrame lost status rs).result = d.result ∧ d.TraceOnly (d.sendFrame lost status rs) ∧ OnlyObjects (fun k => k == Obj.FRAMES_SENT) d (d.sendFrame lost status rs) := by
  generalize hf : frameBytes (d.n Obj.FRAMES_SENT) lost (d.o Obj.SERVICE_LEVEL == 0) status rs = f
  have heq : d.sendFrame lost status rs = ({ d with j9 := f } : Dev).addWrap Obj.FRAMES_SENT := by rw [← hf]; rfl
  rw [heq]
  exact ⟨rfl, Dev.o_setO_same _ _ _, rfl, rfl, rfl, rfl, frame_trace.addWrap ⟨rfl, fun _ h => h⟩ _ _, ((OnlyObjects.refl d).of_obj (e := { d with j9 := f }) rfl).addWrap _ _ (by simp)⟩

theorem recordBytes_length (r : TraceRec) : (recordBytes r).length = 16 := by simp [recordBytes]

theorem frameBytes_one (seq lost : Nat) (hold status : Bool) (r : TraceRec) : (frameBytes seq lost hold status [r]).length = 26 := by
  simp [frameBytes, recordBytes_length]

theorem statusFrame_sent (s : State) (hphase : s.dev.phase = .starting ∨ s.dev.phase = .engines ∨ s.dev.phase = .service) :
    Completes (.statusFrame) s (fun e => e.j9 = frameBytes (s.dev.n Obj.FRAMES_SENT) 0 (s.dev.o Obj.SERVICE_LEVEL == 0) true
      [{ wall := s.dev.wall, source := 1, poison := false, kind := 5, tag := s.dev.n Obj.ACTIVE, value := ((s.dev.n Obj.SERVICE_LEVEL + s.dev.n Obj.SAFE_STATE * 2 ^ 8 + s.dev.n Obj.LIFE_CYCLE * 2 ^ 16 + s.dev.n Obj.PIN * 2 ^ 24 + s.dev.n Obj.FUSE_DEFAULTS * 2 ^ 25 + s.dev.n Obj.SAFE_IN * 2 ^ 26 + s.dev.n Obj.DRIVE_EN * 2 ^ 27 + s.dev.n Obj.BAND * 2 ^ 28 : Nat) : Int) }] ∧
      e.j9.length = 26 ∧ e.o Obj.FRAMES_SENT = wrapU32 (s.dev.o Obj.FRAMES_SENT + 1) ∧ e.trace = s.dev.trace ∧ ({ s.dev with j9 := e.j9 } : Dev).ShowsOnly e ∧ OnlyObjects (fun k => k == Obj.FRAMES_SENT) s.dev e) := by
  have hon : (s.dev.phase == .starting || s.dev.alive) = true := by
    unfold Dev.alive
    rcases hphase with h | h | h <;> rw [h] <;> rfl
  refine completes_run_eq (s.dev.sendFrame 0 true [s.dev.statusRecord]) rfl (if_pos hon) ?_
  obtain ⟨hj9, hcount, htrace, -, hpause, hres, hf, ho⟩ := s.dev.sendFrame_facts 0 true [s.dev.statusRecord]
  generalize s.dev.sendFrame 0 true [s.dev.statusRecord] = x at *
  refine ⟨by rw [Dev.settle_j9, hj9]; rfl, by rw [Dev.settle_j9, hj9, frameBytes_one], by rw [Dev.o_settle _ (by decide), hcount], by rw [Dev.settle_trace, htrace], (frame_trace.settle hf).showsFrame ?_ ?_, ho.settle⟩
  · rw [Dev.settle_result, hres]
  · rw [Dev.settle_pauses, hpause]

/-- Without marks in the buffer's memory the records go out as they stand. -/
theorem Dev.frameRecords_unmarked {d : Dev} (h : (d.memOf 11).words = []) : (d.trace.take 64).zipIdx.map (fun p =>
    { p.1 with poison := p.1.poison || !((d.markedIn 11 (4 * ((d.traceHead + p.2) % 32768)) 4).isEmpty) }) = d.trace.take 64 := by
  have hmark (lo n : Nat) : d.markedIn 11 lo n = [] := by
    unfold Dev.markedIn
    rw [h]
    rfl
  simp only [hmark, List.isEmpty_nil, Bool.not_true, Bool.or_false]
  exact List.zipIdx_map_fst ..

/-- The frame that the buffer sends, before the pause. -/
def Dev.bufferSent (d : Dev) : Dev := ((({ d with trace := d.trace.drop 64, traceLost := 0 } : Dev).sendFrame d.traceLost false (d.trace.take 64)).addWrap Obj.RECORDS_EXPORTED (d.trace.take 64).length)

theorem Dev.traceFrame_sends {d : Dev} (hstate : d.o Obj.TRACE_STATE = 4 ∨ (d.o Obj.TRACE_STATE = 1 ∧ d.o Obj.MODE_C000 = 0)) (hne : d.trace ≠ []) (hpause : d.pauses.contains 12 = false) (hwords : (d.memOf 11).words = []) :
    d.traceFrame = d.bufferSent.when ((d.trace.take 64).length == 64) (fun d => d.pauseStart 12 Obj.PAUSE_TRACE_TB2) := by
  have hgo : (d.n Obj.TRACE_STATE == 4 || (d.n Obj.TRACE_STATE == 1 && d.o Obj.MODE_C000 == 0)) = true := by
    rcases hstate with h | ⟨h, hm⟩
    · rw [Dev.n_of_o (m := 4) h]
      rfl
    · rw [Dev.n_of_o (m := 1) h, hm]
      rfl
  have hsome : (d.trace.take 64).isEmpty = false := by simpa using hne
  unfold Dev.traceFrame
  simp only [Dev.frameRecords_unmarked hwords, hgo, hsome, hpause, Bool.not_true, Bool.or_self, Bool.false_eq_true, if_false]
  rfl

theorem Dev.bufferSent_facts (d : Dev) : d.bufferSent.j9 = frameBytes (d.n Obj.FRAMES_SENT) d.traceLost (d.o Obj.SERVICE_LEVEL == 0) false (d.trace.take 64) ∧ d.bufferSent.trace = d.trace.drop 64 ∧ d.bufferSent.traceLost = 0 ∧
    d.bufferSent.o Obj.FRAMES_SENT = wrapU32 (d.o Obj.FRAMES_SENT + 1) ∧ d.bufferSent.o Obj.RECORDS_EXPORTED = wrapU32 (d.o Obj.RECORDS_EXPORTED + (min 64 d.trace.length : Nat)) ∧ d.bufferSent.pauses = d.pauses ∧ d.bufferSent.result = d.result ∧
    d.TraceOnly d.bufferSent ∧ OnlyObjects (fun k => k == Obj.FRAMES_SENT || k == Obj.RECORDS_EXPORTED) d d.bufferSent := by
  have hx : d.TraceOnly ({ d with trace := d.trace.drop 64, traceLost := 0 } : Dev) := ⟨rfl, fun _ h => h⟩
  have hxo : ({ d with trace := d.trace.drop 64, traceLost := 0 } : Dev).obj = d.obj := rfl
  have hxs : ({ d with trace := d.trace.drop 64, traceLost := 0 } : Dev).trace = d.trace.drop 64 ∧ ({ d with trace := d.trace.drop 64, traceLost := 0 } : Dev).traceLost = 0 ∧ ({ d with trace := d.trace.drop 64, traceLost := 0 } : Dev).pauses = d.pauses ∧
    ({ d with trace := d.trace.drop 64, traceLost := 0 } : Dev).result = d.result := ⟨rfl, rfl, rfl, rfl⟩
  unfold Dev.bufferSent
  generalize ({ d with trace := d.trace.drop 64, traceLost := 0 } : Dev) = x at *
  obtain ⟨hxt, hxl, hxp, hxr⟩ := hxs
  have hxn (k : Nat) : x.o k = d.o k := by rw [Dev.o, hxo, Dev.o]
  obtain ⟨hj9, hcount, htrace, hlost, hpause, hres, hf, ho⟩ := x.sendFrame_facts d.traceLost false (d.trace.take 64)
  rw [Dev.n_eq (hxn _), hxn] at hj9
  rw [hxn] at hcount
  have hexp : (x.sendFrame d.traceLost false (d.trace.take 64)).o Obj.RECORDS_EXPORTED = d.o Obj.RECORDS_EXPORTED := (ho.same _ (by decide) (by decide)).trans (hxn _)
  generalize x.sendFrame d.traceLost false (d.trace.take 64) = y at *
  refine ⟨hj9, htrace.trans hxt, hlost.trans hxl, (Dev.o_setO_other _ _ (by decide)).trans hcount, ?_, hpause.trans hxp, hres.trans hxr, frame_trace.addWrap (frame_trace.trans hx hf) _ _, ?_⟩
  · rw [List.length_take]
    exact (Dev.o_setO_same _ _ _).trans (by rw [hexp])
  · exact ((((OnlyObjects.refl d).of_obj hxo).trans (ho.mono fun _ h => by simp [h])).addWrap _ _ (by decide))

theorem traceFrameSend_sends (s : State) (ha : s.dev.alive = true) (hstate : s.dev.o Obj.TRACE_STATE = 4 ∨ (s.dev.o Obj.TRACE_STATE = 1 ∧ s.dev.o Obj.MODE_C000 = 0)) (hne : s.dev.trace ≠ []) (hfew : s.dev.trace.length < 64 ∨ s.dev.n Obj.BAND ≤ 1)
    (hpause : s.dev.pauses.contains 12 = false) (hwords : (s.dev.memOf 11).words = []) :
    Completes (.traceFrameSend) s (fun e => e.j9 = frameBytes (s.dev.n Obj.FRAMES_SENT) s.dev.traceLost (s.dev.o Obj.SERVICE_LEVEL == 0) false (s.dev.trace.take 64) ∧
      e.trace = s.dev.trace.drop 64 ∧ e.traceLost = 0 ∧ e.o Obj.FRAMES_SENT = wrapU32 (s.dev.o Obj.FRAMES_SENT + 1) ∧
      e.o Obj.RECORDS_EXPORTED = wrapU32 (s.dev.o Obj.RECORDS_EXPORTED + (min 64 s.dev.trace.length : Nat)) ∧ ({ s.dev with j9 := e.j9 } : Dev).ShowsOnly e ∧ OnlyObjects (fun k => k == Obj.FRAMES_SENT || k == Obj.RECORDS_EXPORTED) s.dev e) := by
  obtain ⟨hj9, htrace, hlost, hcount, hexp, hpauses, hres, hf, ho⟩ := s.dev.bufferSent_facts
  have hnone : s.dev.bufferSent.when ((s.dev.trace.take 64).length == 64) (fun d => d.pauseStart 12 Obj.PAUSE_TRACE_TB2) = s.dev.bufferSent := by
    unfold Dev.when
    split
    · next h =>
      have hband : s.dev.n Obj.BAND ≤ 1 := hfew.resolve_left (by simp at h; omega)
      have hn : s.dev.bufferSent.n Obj.BAND = s.dev.n Obj.BAND := Dev.n_eq (ho.same _ (by decide) (by decide))
      refine if_pos (Or.inl ?_)
      unfold Dev.pauseLen
      rw [hn, if_neg (by omega), if_neg (by omega)]
    · rfl
  refine completes_live_eq _ rfl ha ((Dev.traceFrame_sends hstate hne hpause hwords).trans hnone) ?_
  generalize s.dev.bufferSent = x at *
  refine ⟨by rw [Dev.settle_j9, hj9], by rw [Dev.settle_trace, htrace], by rw [Dev.settle_traceLost, hlost], by rw [Dev.o_settle _ (by decide), hcount], by rw [Dev.o_settle _ (by decide), hexp], (frame_trace.settle hf).showsFrame ?_ ?_, ho.settle⟩
  · rw [Dev.settle_result, hres]
  · rw [Dev.settle_pauses, hpauses]

theorem traceFrameSend_pauses (s : State) (ha : s.dev.alive = true) (hstate : s.dev.o Obj.TRACE_STATE = 4) (hfull : 64 ≤ s.dev.trace.length) (hband : s.dev.o Obj.BAND = 2) (hlen : s.dev.o Obj.PAUSE_TRACE_TB2 = 100)
    (hpause : s.dev.pauses.contains 12 = false) (hwords : (s.dev.memOf 11).words = []) :
    Completes (.traceFrameSend) s (fun e => e.trace = s.dev.trace.drop 64 ∧ e.pauses = 12 :: s.dev.pauses ∧ ({ s.dev with j9 := e.j9, pauses := e.pauses } : Dev).ShowsOnly e ∧ OnlyObjects (fun k => k == Obj.FRAMES_SENT || k == Obj.RECORDS_EXPORTED) s.dev e) := by
  obtain ⟨-, htrace, -, -, -, hpauses, hres, hf, ho⟩ := s.dev.bufferSent_facts
  have hne : s.dev.trace ≠ [] := fun h => by simp [h] at hfull
  have hstart : s.dev.bufferSent.when ((s.dev.trace.take 64).length == 64) (fun d => d.pauseStart 12 Obj.PAUSE_TRACE_TB2) = { s.dev.bufferSent with pauses := 12 :: s.dev.bufferSent.pauses } := by
    have hb : s.dev.bufferSent.n Obj.BAND = 2 := Dev.n_of_o (m := 2) ((ho.same _ (by decide) (by decide)).trans hband)
    have hl : s.dev.bufferSent.n Obj.PAUSE_TRACE_TB2 = 100 := Dev.n_of_o (m := 100) ((ho.same _ (by decide) (by decide)).trans hlen)
    rw [Dev.when, if_pos (by simp; omega)]
    refine if_neg ?_
    rw [Dev.pauseLen, hb, if_pos rfl, hl, hpauses, hpause]
    decide
  refine completes_live_eq _ rfl ha ((Dev.traceFrame_sends (Or.inl hstate) hne hpause hwords).trans hstart) ?_
  generalize s.dev.bufferSent = x at *
  have hy : x.TraceOnly { x with pauses := 12 :: x.pauses } := ⟨rfl, fun _ h => h⟩
  refine ⟨by rw [Dev.settle_trace, htrace], by rw [Dev.settle_pauses, hpauses], (frame_trace.settle (frame_trace.trans hf hy)).showsPaused (by rw [Dev.settle_result, hres]), (ho.of_obj (e := { x with pauses := 12 :: x.pauses }) rfl).settle⟩

theorem traceFrameSend_idle (s : State) (ha : s.dev.alive = true) (hwhy : (s.dev.o Obj.TRACE_STATE = 1 ∧ s.dev.o Obj.MODE_C000 = 1) ∨ s.dev.o Obj.TRACE_STATE = 2 ∨ s.dev.trace = [] ∨ s.dev.pauses.contains 12 = true) :
    Completes (.traceFrameSend) s (fun e => e.trace = s.dev.trace ∧ e.j9 = s.dev.j9 ∧ e.traceLost = s.dev.traceLost ∧ s.dev.ShowsOnly e ∧ OnlyObjects (fun _ => false) s.dev e) := by
  have heq : s.dev.traceFrame = s.dev := by
    refine if_pos ?_
    rcases hwhy with ⟨h, hm⟩ | h | h | h
    · rw [Dev.n_of_o (m := 1) h, hm]
      rfl
    · rw [Dev.n_of_o (m := 2) h]
      rfl
    · rw [h]
      simp
    · rw [h]
      simp
  refine completes_live_eq (f := fun d => d.traceFrame) _ rfl ha heq ⟨Dev.settle_trace _, Dev.settle_j9 _, Dev.settle_traceLost _, Dev.shows_settle _, (OnlyObjects.refl _).settle⟩

/-! ### Arm, stop and clear (R573, R575) -/

theorem Dev.traceOnly_res (d : Dev) (code : Nat) : d.TraceOnly (d.res code) := ⟨rfl, fun _ h => h⟩

/-- A capture command that leaves no more than objects and the buffer changed. -/
theorem Dev.traceAnswered {d x : Dev} {ks : Nat → Bool} (code : Nat) (hf : d.ShowsOnly x) (ho : OnlyObjects ks d x) : (x.res code).settle.result = code ∧ (x.res code).settle.trace = x.trace ∧ (x.res code).settle.tracePost = x.tracePost ∧
    (x.res code).settle.traceLost = x.traceLost ∧ (∀ k, isStatus k = false → (x.res code).settle.o k = x.o k) ∧ ({ d with result := (x.res code).settle.result } : Dev).ShowsOnly (x.res code).settle ∧ OnlyObjects ks d (x.res code).settle := by
  refine ⟨Dev.settle_result _, Dev.settle_trace _, Dev.settle_tracePost _, Dev.settle_traceLost _, fun k hk => by rw [Dev.o_settle _ hk, Dev.o_res], ?_, (ho.of_obj (Dev.res_obj x code)).settle⟩
  have hshows := (frame_trace.settle (frame_trace.trans (frame_trace.shows hf) (x.traceOnly_res code))).shows
  rw [show (x.res code).settle.j9 = d.j9 by rw [Dev.settle_j9, Dev.res_j9, hf.j9], show (x.res code).settle.pauses = d.pauses by rw [Dev.settle_pauses, Dev.res_pauses, hf.pauses]] at hshows
  exact hshows

theorem Dev.traceCtrl_arm (d : Dev) : d.traceCtrl 1 = if d.n Obj.TRACE_STATE = 0 ∨ d.n Obj.TRACE_STATE = 3 then (((d.traceEmpty.setO Obj.TRACE_STATE 1).setO Obj.TRIGGER_NO 0xFF).setO Obj.TRIGGER_WALL 0).res 0 else d.res resState := by
  unfold Dev.traceCtrl
  rw [if_pos rfl]

theorem Dev.traceCtrl_stop (d : Dev) : d.traceCtrl 2 = (d.when (d.n Obj.TRACE_STATE == 1 || d.n Obj.TRACE_STATE == 2) (fun d => d.setO Obj.TRACE_STATE (if d.o Obj.MODE_C000 = 1 then 4 else 0))).res 0 := by
  unfold Dev.traceCtrl
  rw [if_neg (by decide), if_pos rfl]

theorem Dev.traceCtrl_clear (d : Dev) : d.traceCtrl 3 = if d.n Obj.TRACE_STATE = 0 ∨ d.n Obj.TRACE_STATE = 3 then (d.traceEmpty.setO Obj.TRACE_STATE 0).res 0 else d.res resState := by
  unfold Dev.traceCtrl
  rw [if_neg (by decide), if_neg (by decide), if_pos rfl]

/-- A capture command that is refused. -/
theorem traceCtrl_refused {c : Instr} {s : State} {v : Int} (h : exec c s = s.serve (fun d => d.traceCtrl v)) (hserve : s.dev.phase = .service) (heq : s.dev.traceCtrl v = s.dev.res resState) :
    Completes c s (fun e => e.result = resState ∧ e.trace = s.dev.trace ∧ e.tracePost = s.dev.tracePost ∧ e.traceLost = s.dev.traceLost ∧ ({ s.dev with result := e.result } : Dev).ShowsOnly e ∧ OnlyObjects (fun _ => false) s.dev e) := by
  obtain ⟨h1, h2, h3, h4, -, h5, h6⟩ := Dev.traceAnswered resState (frame_shows.refl s.dev) (OnlyObjects.refl (ks := fun _ => false) s.dev)
  exact completes_serve_eq _ h hserve heq ⟨h1, h2, h3, h4, h5, h6⟩

theorem traceArm_arms (s : State) (hserve : s.dev.phase = .service) (hstate : s.dev.o Obj.TRACE_STATE = 0 ∨ s.dev.o Obj.TRACE_STATE = 3) :
    Completes (.traceArm) s (fun e => e.result = 0 ∧ e.o Obj.TRACE_STATE = 1 ∧ e.o Obj.TRIGGER_NO = 255 ∧ e.o Obj.TRIGGER_WALL = 0 ∧ e.trace = [] ∧ e.tracePost = 0 ∧ e.traceLost = 0 ∧ ({ s.dev with result := e.result } : Dev).ShowsOnly e ∧
      OnlyObjects (fun k => k == Obj.TRACE_STATE || k == Obj.TRIGGER_NO || k == Obj.TRIGGER_WALL) s.dev e) := by
  have hn : s.dev.n Obj.TRACE_STATE = 0 ∨ s.dev.n Obj.TRACE_STATE = 3 := hstate.imp (Dev.n_of_o (m := 0)) (Dev.n_of_o (m := 3))
  generalize hx : ((s.dev.traceEmpty.setO Obj.TRACE_STATE 1).setO Obj.TRIGGER_NO 0xFF).setO Obj.TRIGGER_WALL 0 = x
  have heq : s.dev.traceCtrl 1 = x.res 0 := by
    rw [Dev.traceCtrl_arm, if_pos hn, hx]
  have hxo : x.o Obj.TRACE_STATE = 1 ∧ x.o Obj.TRIGGER_NO = 255 ∧ x.o Obj.TRIGGER_WALL = 0 := by
    rw [← hx]
    exact ⟨(Dev.o_setO_other _ _ (by decide)).trans ((Dev.o_setO_other _ _ (by decide)).trans (Dev.o_setO_same _ _ _)), (Dev.o_setO_other _ _ (by decide)).trans (Dev.o_setO_same _ _ _), Dev.o_setO_same _ _ _⟩
  have hxt : x.trace = [] ∧ x.tracePost = 0 ∧ x.traceLost = 0 := by rw [← hx]; exact ⟨rfl, rfl, rfl⟩
  have hxf : s.dev.ShowsOnly x := by
    rw [← hx]
    exact frame_shows.setO (frame_shows.setO (frame_shows.setO (Dev.showsOnly_iff.mpr ⟨rfl, fun _ h => h⟩) _ _) _ _) _ _
  have hxobj : OnlyObjects (fun k => k == Obj.TRACE_STATE || k == Obj.TRIGGER_NO || k == Obj.TRIGGER_WALL) s.dev x := by
    rw [← hx]
    exact ((((OnlyObjects.refl s.dev).of_obj (e := s.dev.traceEmpty) rfl).setO _ _ (by decide)).setO _ _ (by decide)).setO _ _ (by decide)
  obtain ⟨hx1, hx2, hx3⟩ := hxo
  obtain ⟨ht1, ht2, ht3⟩ := hxt
  obtain ⟨h1, h2, h3, h4, h5, h6, h7⟩ := Dev.traceAnswered 0 hxf hxobj
  exact completes_serve_eq (f := fun d => d.traceCtrl 1) _ rfl hserve heq ⟨h1, (h5 _ (by decide)).trans hx1, (h5 _ (by decide)).trans hx2, (h5 _ (by decide)).trans hx3, h2.trans ht1, h3.trans ht2, h4.trans ht3, h6, h7⟩

theorem traceArm_refused (s : State) (hserve : s.dev.phase = .service) (hstate : s.dev.o Obj.TRACE_STATE = 1 ∨ s.dev.o Obj.TRACE_STATE = 2 ∨ s.dev.o Obj.TRACE_STATE = 4) :
    Completes (.traceArm) s (fun e => e.result = resState ∧ e.trace = s.dev.trace ∧ e.tracePost = s.dev.tracePost ∧ e.traceLost = s.dev.traceLost ∧ ({ s.dev with result := e.result } : Dev).ShowsOnly e ∧ OnlyObjects (fun _ => false) s.dev e) := by
  have hn : s.dev.n Obj.TRACE_STATE = 1 ∨ s.dev.n Obj.TRACE_STATE = 2 ∨ s.dev.n Obj.TRACE_STATE = 4 := hstate.imp (Dev.n_of_o (m := 1)) (Or.imp (Dev.n_of_o (m := 2)) (Dev.n_of_o (m := 4)))
  exact traceCtrl_refused rfl hserve ((Dev.traceCtrl_arm _).trans (if_neg (by omega)))

theorem traceStop_stops (s : State) (hserve : s.dev.phase = .service) (hstate : s.dev.o Obj.TRACE_STATE = 1 ∨ s.dev.o Obj.TRACE_STATE = 2) :
    Completes (.traceStop) s (fun e => e.result = 0 ∧ e.o Obj.TRACE_STATE = (if s.dev.o Obj.MODE_C000 = 1 then 4 else 0) ∧ e.trace = s.dev.trace ∧ ({ s.dev with result := e.result } : Dev).ShowsOnly e ∧ OnlyObjects (fun k => k == Obj.TRACE_STATE) s.dev e) := by
  have hn : (s.dev.n Obj.TRACE_STATE == 1 || s.dev.n Obj.TRACE_STATE == 2) = true := by
    rcases hstate with h | h
    · rw [Dev.n_of_o (m := 1) h]
      rfl
    · rw [Dev.n_of_o (m := 2) h]
      rfl
  have heq : s.dev.traceCtrl 2 = (s.dev.setO Obj.TRACE_STATE (if s.dev.o Obj.MODE_C000 = 1 then 4 else 0)).res 0 := (Dev.traceCtrl_stop _).trans (congrArg (fun d : Dev => d.res 0) (if_pos hn))
  obtain ⟨h1, h2, -, -, h5, h6, h7⟩ := Dev.traceAnswered 0 (frame_shows.setO (frame_shows.refl s.dev) Obj.TRACE_STATE (if s.dev.o Obj.MODE_C000 = 1 then 4 else 0))
    ((OnlyObjects.refl (ks := fun k => k == Obj.TRACE_STATE) s.dev).setO Obj.TRACE_STATE (if s.dev.o Obj.MODE_C000 = 1 then 4 else 0) (by simp))
  exact completes_serve_eq (f := fun d => d.traceCtrl 2) _ rfl hserve heq ⟨h1, (h5 _ (by decide)).trans (Dev.o_setO_same _ _ _), h2, h6, h7⟩

theorem traceStop_idle (s : State) (hserve : s.dev.phase = .service) (hstate : s.dev.o Obj.TRACE_STATE = 0 ∨ s.dev.o Obj.TRACE_STATE = 3 ∨ s.dev.o Obj.TRACE_STATE = 4) :
    Completes (.traceStop) s (fun e => e.result = 0 ∧ e.trace = s.dev.trace ∧ ({ s.dev with result := e.result } : Dev).ShowsOnly e ∧ OnlyObjects (fun _ => false) s.dev e) := by
  have hn : ¬ (s.dev.n Obj.TRACE_STATE == 1 || s.dev.n Obj.TRACE_STATE == 2) = true := by
    rcases hstate with h | h | h
    · rw [Dev.n_of_o (m := 0) h]
      decide
    · rw [Dev.n_of_o (m := 3) h]
      decide
    · rw [Dev.n_of_o (m := 4) h]
      decide
  have heq : s.dev.traceCtrl 2 = s.dev.res 0 := (Dev.traceCtrl_stop _).trans (congrArg (fun d : Dev => d.res 0) (if_neg hn))
  obtain ⟨h1, h2, -, -, -, h6, h7⟩ := Dev.traceAnswered 0 (frame_shows.refl s.dev) (OnlyObjects.refl (ks := fun _ => false) s.dev)
  exact completes_serve_eq (f := fun d => d.traceCtrl 2) _ rfl hserve heq ⟨h1, h2, h6, h7⟩

theorem traceClear_clears (s : State) (hserve : s.dev.phase = .service) (hstate : s.dev.o Obj.TRACE_STATE = 0 ∨ s.dev.o Obj.TRACE_STATE = 3) :
    Completes (.traceClear) s (fun e => e.result = 0 ∧ e.o Obj.TRACE_STATE = 0 ∧ e.trace = [] ∧ e.traceLost = 0 ∧ ({ s.dev with result := e.result } : Dev).ShowsOnly e ∧ OnlyObjects (fun k => k == Obj.TRACE_STATE) s.dev e) := by
  have hn : s.dev.n Obj.TRACE_STATE = 0 ∨ s.dev.n Obj.TRACE_STATE = 3 := hstate.imp (Dev.n_of_o (m := 0)) (Dev.n_of_o (m := 3))
  have heq : s.dev.traceCtrl 3 = (s.dev.traceEmpty.setO Obj.TRACE_STATE 0).res 0 := (Dev.traceCtrl_clear _).trans (if_pos hn)
  have hxf : s.dev.ShowsOnly (s.dev.traceEmpty.setO Obj.TRACE_STATE 0) := frame_shows.setO (Dev.showsOnly_iff.mpr ⟨rfl, fun _ h => h⟩) _ _
  have hxobj : OnlyObjects (fun k => k == Obj.TRACE_STATE) s.dev (s.dev.traceEmpty.setO Obj.TRACE_STATE 0) := ((OnlyObjects.refl s.dev).of_obj (e := s.dev.traceEmpty) rfl).setO _ _ (by simp)
  obtain ⟨h1, h2, -, h4, h5, h6, h7⟩ := Dev.traceAnswered 0 hxf hxobj
  exact completes_serve_eq (f := fun d => d.traceCtrl 3) _ rfl hserve heq ⟨h1, (h5 _ (by decide)).trans (Dev.o_setO_same _ _ _), h2, h4, h6, h7⟩

theorem traceClear_refused (s : State) (hserve : s.dev.phase = .service) (hstate : s.dev.o Obj.TRACE_STATE = 1 ∨ s.dev.o Obj.TRACE_STATE = 2) :
    Completes (.traceClear) s (fun e => e.result = resState ∧ e.trace = s.dev.trace ∧ ({ s.dev with result := e.result } : Dev).ShowsOnly e ∧ OnlyObjects (fun _ => false) s.dev e) := by
  have hn : s.dev.n Obj.TRACE_STATE = 1 ∨ s.dev.n Obj.TRACE_STATE = 2 := hstate.imp (Dev.n_of_o (m := 1)) (Dev.n_of_o (m := 2))
  exact (traceCtrl_refused (v := 3) rfl hserve ((Dev.traceCtrl_clear _).trans (if_neg (by omega)))).mono fun _ ⟨h1, h2, _, _, h3, h4⟩ => ⟨h1, h2, h3, h4⟩

/-! ### The ends of a capture and of what it sends (R574) -/

/-- TRACE_STATE moved on where `b` holds. -/
theorem completes_traceState {c : Instr} {s : State} {f : Dev → Dev} (b : Bool) (v : Int) (h : exec c s = s.live f) (ha : s.dev.alive = true) (heq : f s.dev = s.dev.when b (fun d => d.setO Obj.TRACE_STATE v)) :
    Completes c s (fun e => e.o Obj.TRACE_STATE = (if b = true then v else s.dev.o Obj.TRACE_STATE) ∧ e.trace = s.dev.trace ∧ s.dev.ShowsOnly e ∧ OnlyObjects (fun k => k == Obj.TRACE_STATE) s.dev e) := by
  refine completes_live_eq _ h ha heq ?_
  cases b
  · exact ⟨Dev.o_settle _ (by decide), Dev.settle_trace _, Dev.shows_settle _, (OnlyObjects.refl _).settle⟩
  · exact ⟨(Dev.o_settle _ (by decide)).trans (Dev.o_setO_same _ _ _), Dev.settle_trace _, frame_shows.settle (frame_shows.setO (frame_shows.refl _) _ _), ((OnlyObjects.refl s.dev).setO Obj.TRACE_STATE v (by simp)).settle⟩

theorem tracePostDone_exports (s : State) (ha : s.dev.alive = true) (hstate : s.dev.o Obj.TRACE_STATE = 2) :
    Completes (.tracePostDone) s (fun e => e.o Obj.TRACE_STATE = (if s.dev.n Obj.POST_RECORDS ≤ s.dev.tracePost then 4 else 2) ∧ e.trace = s.dev.trace ∧ s.dev.ShowsOnly e ∧ OnlyObjects (fun k => k == Obj.TRACE_STATE) s.dev e) := by
  refine (completes_traceState (f := fun d => d.when (d.o Obj.TRACE_STATE == 2 && decide (d.n Obj.POST_RECORDS ≤ d.tracePost)) (fun d => d.setO Obj.TRACE_STATE 4)) _ 4 rfl ha rfl).mono fun e ⟨h1, h2⟩ => ⟨h1.trans ?_, h2⟩
  simp [hstate]

theorem traceExportDone_holds (s : State) (ha : s.dev.alive = true) (hstate : s.dev.o Obj.TRACE_STATE = 4) :
    Completes (.traceExportDone) s (fun e => e.o Obj.TRACE_STATE = (if s.dev.trace = [] then 3 else 4) ∧ e.trace = s.dev.trace ∧ s.dev.ShowsOnly e ∧ OnlyObjects (fun k => k == Obj.TRACE_STATE) s.dev e) := by
  refine (completes_traceState (f := fun d => d.when (d.o Obj.TRACE_STATE == 4 && d.trace.isEmpty) (fun d => d.setO Obj.TRACE_STATE 3)) _ 3 rfl ha rfl).mono fun e ⟨h1, h2⟩ => ⟨h1.trans ?_, h2⟩
  simp [hstate]

/-! ### Object channels (R571) -/

/-- A record joins a buffer that is not full before its trigger (R572). -/
theorem Dev.traceAdd_armed {d : Dev} (a b c : Nat) (v : Int) (p : Bool) (hstate : d.o Obj.TRACE_STATE = 1) (hroom : d.trace.length < d.traceCap) :
    d.traceAdd a b c v p = ({ d with trace := d.trace ++ [{ wall := d.wall, source := a, poison := p, kind := b, tag := c, value := v }] } : Dev).addWrap Obj.RECORDS_WRITTEN := by
  have hn : d.n Obj.TRACE_STATE = 1 := Dev.n_of_o (m := 1) hstate
  have hfull : decide (d.traceCap ≤ d.trace.length) = false := decide_eq_false (by omega)
  unfold Dev.traceAdd
  simp only [hn, hfull]
  rfl

/-- A channel sampled. -/
def Dev.sampleChannel (d : Dev) (k : Fin 16) : Dev :=
  let ref := d.n (at' Obj.CH_SOURCE k)
  if ref = 0 then d
  else let (v, p) := d.channelValue ref; d.traceAdd 0x02 3 k v p

theorem exec_sampleChannel (s : State) (j : Fin 16) : exec (.traceChannelSample j) s = s.live (fun d => d.sampleChannel j) := rfl

theorem traceChannelSample_records (s : State) (j : Fin 16) (r : Nat) (ha : s.dev.alive = true) (hsource : s.dev.o (at' Obj.CH_SOURCE j) = r) (hr : r ≠ 0) (hstate : s.dev.o Obj.TRACE_STATE = 1) (hroom : s.dev.trace.length < s.dev.traceCap) :
    Completes (.traceChannelSample j) s (fun e => e.trace = s.dev.trace ++ [{ wall := s.dev.wall, source := 2, poison := s.dev.poison.contains r, kind := 3, tag := j, value := (if s.dev.poison.contains r = true then 0 else signedMod 32 (s.dev.shown r)) }] ∧
      e.o Obj.RECORDS_WRITTEN = wrapU32 (s.dev.o Obj.RECORDS_WRITTEN + 1) ∧ s.dev.ShowsOnly e ∧ OnlyObjects (fun k => k == Obj.RECORDS_WRITTEN) s.dev e) := by
  have hvalue : s.dev.channelValue r = ((if s.dev.poison.contains r = true then 0 else signedMod 32 (s.dev.shown r)), s.dev.poison.contains r) := by
    unfold Dev.channelValue
    split
    · next h => rw [h]
    · next h => rw [Bool.not_eq_true _ |>.mp h]
  generalize hrec : (({ wall := s.dev.wall, source := 2, poison := s.dev.poison.contains r, kind := 3, tag := j, value := (if s.dev.poison.contains r = true then 0 else signedMod 32 (s.dev.shown r)) } : TraceRec)) = rec
  have heq : s.dev.sampleChannel j = ({ s.dev with trace := s.dev.trace ++ [rec] } : Dev).addWrap Obj.RECORDS_WRITTEN := by
    unfold Dev.sampleChannel
    simp only [Dev.n_of_o hsource, if_neg hr, hvalue]
    rw [Dev.traceAdd_armed _ _ _ _ _ hstate hroom, hrec]
  refine completes_live_eq _ (exec_sampleChannel s j) ha heq ⟨Dev.settle_trace _, (Dev.o_settle _ (by decide)).trans (Dev.o_setO_same _ _ _), ?_, ?_⟩
  · exact frame_shows.settle (frame_shows.addWrap (Dev.showsOnly_iff.mpr ⟨rfl, fun _ h => h⟩) _ _)
  · exact (((OnlyObjects.refl s.dev).of_obj (e := { s.dev with trace := s.dev.trace ++ [rec] }) rfl).addWrap _ _ (by simp)).settle

theorem traceChannelSample_idle (s : State) (j : Fin 16) (ha : s.dev.alive = true) (hwhy : s.dev.o (at' Obj.CH_SOURCE j) = 0 ∨ s.dev.o Obj.TRACE_STATE = 4) :
    Completes (.traceChannelSample j) s (fun e => e.trace = s.dev.trace ∧ s.dev.ShowsOnly e ∧ OnlyObjects (fun _ => false) s.dev e) := by
  have heq : s.dev.sampleChannel j = s.dev := by
    unfold Dev.sampleChannel
    rcases hwhy with h | h
    · exact if_pos (Dev.n_of_o (m := 0) h)
    · by_cases href : s.dev.n (at' Obj.CH_SOURCE j) = 0
      · exact if_pos href
      · refine (if_neg href).trans (if_pos ?_)
        rw [Dev.n_of_o (m := 4) h]
        rfl
  exact completes_live_eq _ (exec_sampleChannel s j) ha heq ⟨Dev.settle_trace _, Dev.shows_settle _, (OnlyObjects.refl _).settle⟩

/-- Settles O49: the frames, the capture and the object channels, clause by clause. -/
theorem traceAndFrames : Obligations.TraceAndFrames :=
  ⟨statusFrame_sent, traceFrameSend_sends, traceFrameSend_pauses, traceFrameSend_idle, traceArm_arms, traceArm_refused, traceStop_stops, traceStop_idle, traceClear_clears, traceClear_refused, tracePostDone_exports, traceExportDone_holds, traceChannelSample_records, traceChannelSample_idle⟩

end Sys2Proof.Machine
end

section
/-! The sorting office, O50 (R505, R507). -/

namespace Sys2Proof.Machine

/-! ### nFAULT's pin (R430) -/

/-- While the engines run NFAULT_LEVEL is a level, and PIN is that level or the pulse. -/
theorem Dev.o_settle_pin {d : Dev} (ha : d.alive = true) : ∃ level : Bool, d.settle.o Obj.NFAULT_LEVEL = b2i level ∧ d.settle.o Obj.PIN = b2i (level || d.nfPulse) := by
  have hphase : (d.settlePool.settleCounts.phase != .engines && d.settlePool.settleCounts.phase != .service) = false := by
    have hkeep : d.settlePool.settleCounts.phase = d.phase := by rw [(Dev.settleCounts_rest _), Dev.settlePool_rest d]
    rw [hkeep]
    unfold Dev.alive at ha
    rw [Bool.or_eq_true, beq_iff_eq, beq_iff_eq] at ha
    rcases ha with h | h <;> rw [h] <;> rfl
  have hpulse : d.settlePool.settleCounts.nfPulse = d.nfPulse := by rw [(Dev.settleCounts_rest _), Dev.settlePool_rest d]
  have hlast (k : Nat) (hk : k = Obj.NFAULT_LEVEL ∨ k = Obj.PIN) : d.settle.o k = d.settlePool.settleCounts.settlePin.o k := by
    rw [d.o_settle_beforeStates (by rcases hk with rfl | rfl <;> decide) (by rcases hk with rfl | rfl <;> decide)]
    unfold Dev.beforeStates Dev.settleActive
    rw [Dev.o_setList, if_neg (by rcases hk with rfl | rfl <;> decide)]
  refine ⟨d.settlePool.settleCounts.nfLevel || d.settlePool.settleCounts.nfForced, ?_, ?_⟩
  · rw [hlast _ (Or.inl rfl), Dev.settlePin, if_neg (by rw [hphase]; decide)]
    exact (Dev.o_setO_other _ _ (by decide)).trans (Dev.o_setO_same _ _ _)
  · rw [hlast _ (Or.inr rfl), Dev.settlePin, if_neg (by rw [hphase]; decide), ← hpulse]
    exact Dev.o_setO_same _ _ _

/-! ### The routes of an event -/

/-- One event at its routes, by the bits of its route and the fields of its argument (R505, R506). -/
theorem Dev.routeEvent_eq (d : Dev) (e : Nat) : d.routeEvent e = (((((d.when (bitOf (routeOf d e) 0) (fun d => d.logEvent e)).when (bitOf (routeOf d e) 1) (fun d' =>
    { d' with notes := Tab.upd {} d'.notes (routeArg d e % 64) (fun x => { x with force := true }) })).when (bitOf (routeOf d e) 2) (fun d' =>
    d'.traceTrigger (routeArg d e / 2 ^ 20 % 8) e)).when (bitOf (routeOf d e) 3) (fun d' => { d'.armSlot (416 + routeArg d e / 2 ^ 8 % 2 ^ 7) with result := d'.result })).when (bitOf (routeOf d e) 4) (fun d' =>
    d'.spStart (routeArg d e / 2 ^ 16 % 4) (routeArg d e / 2 ^ 18 % 4) none)).when (bitOf (routeOf d e) 5) (fun d' => d'.nfaultPulse) := by
  have hroute : d.o (if e < 128 then el Obj.ROUTE (e + 1) else el Obj.ROUTE_HI (e - 127)) = routeOf d e := apply_ite d.o ..
  have harg : d.n (if e < 128 then el Obj.ROUTE_ARG (e + 1) else el Obj.ROUTE_ARG_HI (e - 127)) = routeArg d e := apply_ite d.n ..
  unfold Dev.routeEvent
  simp only [hroute, harg, pow_zero, Nat.div_one]
  rfl

/-- The first waiting event reaches its routes. -/
theorem completes_event {s : State} {x : Nat} {t : List Nat} {q : Dev → Prop} (ha : s.dev.alive = true) (hq : s.dev.evq = x :: t) (y : Dev) (hy : ({ s.dev with evq := t } : Dev).routeEvent (x % 256) = y) (h : q y.settle) : Completes (.eventDelivery) s q := by
  refine completes_live_eq (f := fun d => match d.evq with | [] => d | x :: t => ({ d with evq := t } : Dev).routeEvent (x % 256)) y rfl ha ?_ h
  simp only [hq, hy]

theorem eventDelivery_empty (s : State) (ha : s.dev.alive = true) (hq : s.dev.evq = []) :
    Completes (.eventDelivery) s (fun e => e.evq = [] ∧ e.trace = s.dev.trace ∧ s.dev.ShowsOnly e ∧ OnlyObjects (fun _ => false) s.dev e) := by
  refine completes_live_eq (f := fun d => match d.evq with | [] => d | x :: t => ({ d with evq := t } : Dev).routeEvent (x % 256)) s.dev rfl ha ?_ ⟨by rw [Dev.settle_evq, hq], Dev.settle_trace _, Dev.shows_settle _, (OnlyObjects.refl _).settle⟩
  simp only [hq]

/-- The E960 once the event has left the queue. -/
theorem onlyObjects_dequeue (d : Dev) (t : List Nat) (ks : Nat → Bool) : OnlyObjects ks d ({ d with evq := t } : Dev) := (OnlyObjects.refl d).of_obj rfl

theorem eventDelivery_unrouted (s : State) (x : Nat) (t : List Nat) (ha : s.dev.alive = true) (hq : s.dev.evq = x :: t) (hroute : routeOf s.dev (x % 256) = 0) :
    Completes (.eventDelivery) s (fun e => e.evq = t ∧ e.trace = s.dev.trace ∧ e.coll = s.dev.coll ∧ ({ s.dev with evq := t } : Dev).ShowsOnly e ∧ OnlyObjects (fun _ => false) s.dev e) := by
  refine completes_event ha hq { s.dev with evq := t } ?_ ⟨Dev.settle_evq _, Dev.settle_trace _, Dev.settle_coll _, Dev.shows_settle _, (onlyObjects_dequeue _ _ _).settle⟩
  rw [Dev.routeEvent_eq, show routeOf { s.dev with evq := t } (x % 256) = 0 from hroute]
  rfl

/-! ### The log route (R505 bit 0) -/

theorem eventDelivery_logs (s : State) (x : Nat) (t : List Nat) (ha : s.dev.alive = true) (hq : s.dev.evq = x :: t) (hroute : routeOf s.dev (x % 256) = 1) (hnew : s.dev.coll.log.any (fun r => r.kind == 1 && r.event == x % 256) = false) :
    Completes (.eventDelivery) s (fun e => e.evq = t ∧ e.coll.log.getLast? = some { wall := s.dev.wall, code := 0, event := x % 256, kind := 1, rep := 0, cls := s.dev.classNow } ∧
      e.coll.active = s.dev.coll.active ∧ e.o Obj.LOG_TOTAL = wrapU32 (s.dev.o Obj.LOG_TOTAL + 1) ∧ e.trace = s.dev.trace ∧
      ({ s.dev with evq := t, coll := { s.dev.coll with log := e.coll.log } } : Dev).ShowsOnly e ∧ OnlyObjects (fun k => k == Obj.LOG_TOTAL) s.dev e) := by
  generalize hrec : ({ wall := s.dev.wall, code := 0, event := x % 256, kind := 1, rep := 0, cls := s.dev.classNow } : LogRec) = rec
  generalize hL : (if 256 < (s.dev.coll.log ++ [rec]).length then (s.dev.coll.log ++ [rec]).drop 1 else s.dev.coll.log ++ [rec]) = log
  have hadd : ({ s.dev with evq := t } : Dev).logAdd 0 (x % 256) 1 = ({ s.dev with evq := t, coll := { s.dev.coll with log := log } } : Dev).addWrap Obj.LOG_TOTAL := by rw [← hL, ← hrec]; rfl
  have hlast : log.getLast? = some rec := by
    have h := ({ s.dev with evq := t } : Dev).logAdd_last 0 (x % 256) 1
    rw [hadd] at h
    exact h.trans (congrArg some hrec)
  have hevent : ({ s.dev with evq := t } : Dev).logEvent (x % 256) = ({ s.dev with evq := t } : Dev).logAdd 0 (x % 256) 1 := by
    have hnone : s.dev.coll.log.filter (fun r => r.kind == 1 && r.event == x % 256) = [] := List.filter_eq_nil_iff.mpr fun r hr h => by
      rw [List.any_eq_false] at hnew
      exact hnew r hr h
    unfold Dev.logEvent
    simp only [hnone, List.getLast?_nil]
  refine completes_event ha hq (({ s.dev with evq := t, coll := { s.dev.coll with log := log } } : Dev).addWrap Obj.LOG_TOTAL) ?_ ⟨Dev.settle_evq _, by rw [Dev.settle_coll]; exact hlast, by rw [Dev.settle_coll]; rfl, (Dev.o_settle _ (by decide)).trans (Dev.o_setO_same _ _ _), Dev.settle_trace _, ?_, ?_⟩
  · rw [Dev.routeEvent_eq, show routeOf { s.dev with evq := t } (x % 256) = 1 from hroute, ← hadd, ← hevent]
    rfl
  · rw [Dev.settle_coll]
    exact frame_shows.settle (frame_shows.addWrap (frame_shows.refl _) _ _)
  · exact (((OnlyObjects.refl s.dev).of_obj (e := { s.dev with evq := t, coll := { s.dev.coll with log := log } }) rfl).addWrap _ _ (by simp)).settle

theorem bumpLast_concat {p : LogRec → Bool} (l : List LogRec) {r : LogRec} (h : p r = true) : bumpLast p (l ++ [r]) = l ++ [{ r with rep := min 65535 (r.rep + 1) }] := by
  induction l with
  | nil => simp [bumpLast, h]
  | cons x l ih =>
    have hany : (l ++ [r]).any p = true := by simp [h]
    rw [List.cons_append, bumpLast, hany, ih]
    simp

theorem eventDelivery_repeats (s : State) (x : Nat) (t : List Nat) (r : LogRec) (l : List LogRec) (ha : s.dev.alive = true) (hq : s.dev.evq = x :: t) (hroute : routeOf s.dev (x % 256) = 1) (hlog : s.dev.coll.log = l ++ [r]) (hkind : r.kind = 1)
    (hevent : r.event = x % 256) (hwall : s.dev.wall < r.wall + 1000000) :
    Completes (.eventDelivery) s (fun e => e.evq = t ∧ e.coll.log = l ++ [{ r with rep := min 65535 (r.rep + 1) }] ∧ e.trace = s.dev.trace ∧
      ({ s.dev with evq := t, coll := { s.dev.coll with log := e.coll.log } } : Dev).ShowsOnly e ∧ OnlyObjects (fun _ => false) s.dev e) := by
  have hmine : (r.kind == 1 && r.event == x % 256) = true := by simp [hkind, hevent]
  have hbump : ({ s.dev with evq := t } : Dev).logEvent (x % 256) = { s.dev with evq := t, coll := { s.dev.coll with log := l ++ [{ r with rep := min 65535 (r.rep + 1) }] } } := by
    have hfilter : ((l ++ [r]).filter (fun r => r.kind == 1 && r.event == x % 256)).getLast? = some r := by
      rw [List.filter_append, List.filter_cons, if_pos hmine, List.filter_nil, List.getLast?_concat]
    unfold Dev.logEvent
    simp only [hlog, hfilter, if_pos hwall, bumpLast_concat (p := fun r => r.kind == 1 && r.event == x % 256) l hmine]
  refine completes_event ha hq { s.dev with evq := t, coll := { s.dev.coll with log := l ++ [{ r with rep := min 65535 (r.rep + 1) }] } } ?_ ⟨Dev.settle_evq _, by rw [Dev.settle_coll], Dev.settle_trace _, ?_, ?_⟩
  · rw [Dev.routeEvent_eq, show routeOf { s.dev with evq := t } (x % 256) = 1 from hroute, ← hbump]
    rfl
  · rw [Dev.settle_coll]
    exact Dev.shows_settle _
  · exact ((OnlyObjects.refl s.dev).of_obj (e := { s.dev with evq := t, coll := { s.dev.coll with log := l ++ [{ r with rep := min 65535 (r.rep + 1) }] } }) rfl).settle

/-! ### The other routes (R505 bits 1, 2, 4 and 5) -/

theorem eventDelivery_notifies (s : State) (x : Nat) (t : List Nat) (ha : s.dev.alive = true) (hq : s.dev.evq = x :: t) (hroute : routeOf s.dev (x % 256) = 2) :
    Completes (.eventDelivery) s (fun e => e.evq = t ∧ (Tab.get {} e.notes (routeArg s.dev (x % 256) % 64)).force = true ∧ e.trace = s.dev.trace ∧
      ({ s.dev with evq := t, notes := e.notes } : Dev).ShowsOnly e ∧ OnlyObjects (fun _ => false) s.dev e) := by
  generalize hn : Tab.upd {} s.dev.notes (routeArg s.dev (x % 256) % 64) (fun x => { x with force := true }) = notes
  have hforce : (Tab.get {} notes (routeArg s.dev (x % 256) % 64)).force = true := by rw [← hn, Tab.get_upd_same]
  refine completes_event ha hq { s.dev with evq := t, notes := notes } ?_ ⟨Dev.settle_evq _, by rw [Dev.settle_notes]; exact hforce, Dev.settle_trace _, ?_, ((OnlyObjects.refl s.dev).of_obj (e := { s.dev with evq := t, notes := notes }) rfl).settle⟩
  · rw [Dev.routeEvent_eq, show routeOf { s.dev with evq := t } (x % 256) = 2 from hroute, ← hn]
    rfl
  · rw [Dev.settle_notes]
    exact Dev.shows_settle _

/-- A record before the trigger in MODE 1 (R572, R574). -/
theorem Dev.traceAdd_first {d : Dev} (a b c : Nat) (v : Int) (p : Bool) (hstate : d.o Obj.TRACE_STATE = 1) (hmode : d.o Obj.MODE_C000 = 1) :
    ∃ trace : List TraceRec, trace.getLast? = some { wall := d.wall, source := a, poison := p, kind := b, tag := c, value := v } ∧ d.traceAdd a b c v p = ({ d with trace := trace } : Dev).addWrap Obj.RECORDS_WRITTEN := by
  have hn : d.n Obj.TRACE_STATE = 1 := Dev.n_of_o (m := 1) hstate
  refine ⟨(if decide (d.traceCap ≤ d.trace.length) = true then d.trace.drop 1 else d.trace) ++ [{ wall := d.wall, source := a, poison := p, kind := b, tag := c, value := v }], List.getLast?_concat .., ?_⟩
  have hheld : (d.o Obj.MODE_C000 == 0) = false := by rw [hmode]; rfl
  unfold Dev.traceAdd
  simp only [hn, hheld, Bool.and_false]
  rfl

theorem eventDelivery_triggers (s : State) (x : Nat) (t : List Nat) (ha : s.dev.alive = true) (hq : s.dev.evq = x :: t) (hroute : routeOf s.dev (x % 256) = 4) (hstate : s.dev.o Obj.TRACE_STATE = 1) (hmode : s.dev.o Obj.MODE_C000 = 1)
    (hmask : bitOf (s.dev.o Obj.TRIGGER_MASK) (routeArg s.dev (x % 256) / 2 ^ 20 % 8) = true) :
    Completes (.eventDelivery) s (fun e => e.evq = t ∧ e.o Obj.TRACE_STATE = 2 ∧ e.o Obj.TRIGGER_NO = (routeArg s.dev (x % 256) / 2 ^ 20 % 8 : Nat) ∧ e.o Obj.TRIGGER_WALL = s.dev.wall ∧
      e.o Obj.TRIGGERS = satU32 (s.dev.o Obj.TRIGGERS + 1) ∧ e.tracePost = 0 ∧
      e.trace.getLast? = some { wall := s.dev.wall, source := 1, poison := false, kind := 4, tag := routeArg s.dev (x % 256) / 2 ^ 20 % 8, value := (x % 256 : Nat) } ∧
      ({ s.dev with evq := t } : Dev).ShowsOnly e ∧ OnlyObjects (fun k => k == Obj.TRACE_STATE || k == Obj.TRIGGER_NO || k == Obj.TRIGGER_WALL || k == Obj.TRIGGERS || k == Obj.RECORDS_WRITTEN) s.dev e) := by
  generalize hk : routeArg s.dev (x % 256) / 2 ^ 20 % 8 = k at *
  have hn : ({ s.dev with evq := t } : Dev).n Obj.TRACE_STATE = 1 := Dev.n_of_o (m := 1) hstate
  obtain ⟨trace, hlast, hadd⟩ := Dev.traceAdd_first (d := { s.dev with evq := t }) 1 4 k ((x % 256 : Nat) : Int) false hstate hmode
  generalize hz : ({ s.dev with evq := t, trace := trace } : Dev).addWrap Obj.RECORDS_WRITTEN = z at *
  have hzf : ({ s.dev with evq := t } : Dev).ShowsOnly z := by
    rw [← hz]
    exact frame_shows.addWrap (Dev.showsOnly_iff.mpr ⟨rfl, fun _ h => h⟩) _ _
  have hzo : OnlyObjects (fun k => k == Obj.TRACE_STATE || k == Obj.TRIGGER_NO || k == Obj.TRIGGER_WALL || k == Obj.TRIGGERS || k == Obj.RECORDS_WRITTEN) s.dev z := by
    rw [← hz]
    exact ((OnlyObjects.refl s.dev).of_obj (e := { s.dev with evq := t, trace := trace }) rfl).addWrap _ _ (by decide)
  have hzt : z.trace = trace ∧ z.evq = t := by rw [← hz]; exact ⟨rfl, rfl⟩
  have hcount : z.o Obj.TRIGGERS = s.dev.o Obj.TRIGGERS := by
    rw [← hz]
    exact Dev.o_setO_other _ _ (by decide)
  obtain ⟨hztrace, hzevq⟩ := hzt
  generalize hy : ((({ z with tracePost := 0 } : Dev).setO Obj.TRIGGER_NO (k : Int)).setO Obj.TRIGGER_WALL (s.dev.wall : Int)).setO Obj.TRACE_STATE 2 = y
  have hyf : z.ShowsOnly y := by
    rw [← hy]
    exact frame_shows.setO (frame_shows.setO (frame_shows.setO (Dev.showsOnly_iff.mpr ⟨rfl, fun _ h => h⟩) _ _) _ _) _ _
  have hyo : OnlyObjects (fun k => k == Obj.TRACE_STATE || k == Obj.TRIGGER_NO || k == Obj.TRIGGER_WALL || k == Obj.TRIGGERS || k == Obj.RECORDS_WRITTEN) s.dev y := by
    rw [← hy]
    exact (((hzo.of_obj (e := { z with tracePost := 0 }) rfl).setO _ _ (by decide)).setO _ _ (by decide)).setO _ _ (by decide)
  have hyvals : y.o Obj.TRACE_STATE = 2 ∧ y.o Obj.TRIGGER_NO = (k : Int) ∧ y.o Obj.TRIGGER_WALL = s.dev.wall ∧ y.o Obj.TRIGGERS = z.o Obj.TRIGGERS := by
    rw [← hy]
    exact ⟨Dev.o_setO_same _ _ _, (Dev.o_setO_other _ _ (by decide)).trans ((Dev.o_setO_other _ _ (by decide)).trans (Dev.o_setO_same _ _ _)), (Dev.o_setO_other _ _ (by decide)).trans (Dev.o_setO_same _ _ _),
      (Dev.o_setO_other _ _ (by decide)).trans ((Dev.o_setO_other _ _ (by decide)).trans (Dev.o_setO_other _ _ (by decide)))⟩
  have hyt : y.trace = z.trace ∧ y.evq = z.evq ∧ y.tracePost = 0 := by rw [← hy]; exact ⟨rfl, rfl, rfl⟩
  obtain ⟨hy1, hy2, hy3, hy4⟩ := hyvals
  obtain ⟨hytrace, hyevq, hypost⟩ := hyt
  have hfield (k : Nat) (hk : k ≠ Obj.TRIGGERS) (hs : isStatus k = false) : (y.addSat Obj.TRIGGERS).settle.o k = y.o k := (Dev.o_settle _ hs).trans (Dev.o_setO_other _ _ hk)
  refine completes_event ha hq (y.addSat Obj.TRIGGERS) ?_ ⟨?_, (hfield _ (by decide) (by decide)).trans hy1, (hfield _ (by decide) (by decide)).trans hy2, (hfield _ (by decide) (by decide)).trans hy3, ?_, ?_, ?_, frame_shows.settle (frame_shows.addSat (frame_shows.trans hzf hyf) _ _), (hyo.addSat _ _ (by decide)).settle⟩
  · rw [Dev.routeEvent_eq, show routeOf { s.dev with evq := t } (x % 256) = 4 from hroute, show routeArg { s.dev with evq := t } (x % 256) = routeArg s.dev (x % 256) from rfl, hk]
    change ({ s.dev with evq := t } : Dev).traceTrigger k (x % 256) = _
    unfold Dev.traceTrigger
    rw [if_pos ⟨hn, hmode, hmask⟩, hadd, ← hy]
  · rw [Dev.settle_evq]
    exact hyevq.trans hzevq
  · rw [Dev.o_settle _ (by decide), ← hcount, ← hy4]
    exact Dev.o_setO_same _ _ _
  · rw [Dev.settle_tracePost]
    exact hypost
  · rw [Dev.settle_trace, ← hlast, ← hztrace, ← hytrace]
    rfl

theorem eventDelivery_queueEmpty (s : State) (x : Nat) (t : List Nat) (ha : s.dev.alive = true) (hq : s.dev.evq = x :: t) (hroute : routeOf s.dev (x % 256) = 16)
    (hempty : s.dev.spQueue (routeArg s.dev (x % 256) / 2 ^ 16 % 4) (routeArg s.dev (x % 256) / 2 ^ 18 % 4) = []) :
    Completes (.eventDelivery) s (fun e => e.evq = t ∧ e.sps = s.dev.sps ∧ ({ s.dev with evq := t } : Dev).ShowsOnly e ∧ OnlyObjects (fun _ => false) s.dev e) := by
  refine completes_event ha hq { s.dev with evq := t } ?_ ⟨Dev.settle_evq _, Dev.settle_sps _, Dev.shows_settle _, (onlyObjects_dequeue _ _ _).settle⟩
  rw [Dev.routeEvent_eq, show routeOf { s.dev with evq := t } (x % 256) = 16 from hroute]
  exact if_pos hempty

theorem eventDelivery_pulses (s : State) (x : Nat) (t : List Nat) (ha : s.dev.alive = true) (hq : s.dev.evq = x :: t) (hroute : routeOf s.dev (x % 256) = 32) :
    Completes (.eventDelivery) s (fun e => e.evq = t ∧ e.nfPulse = true ∧ e.o Obj.PIN = 1 ∧ e.o Obj.PULSES_2310 = satU32 (s.dev.o Obj.PULSES_2310 + 1) ∧ e.trace = s.dev.trace ∧
      ({ s.dev with evq := t, nfPulse := true } : Dev).ShowsOnly e ∧ OnlyObjects (fun k => k == Obj.PULSES_2310) s.dev e) := by
  generalize hy : ({ s.dev with evq := t, nfPulse := true } : Dev).addSat Obj.PULSES_2310 = y
  have hyp : y.nfPulse = true ∧ y.evq = t ∧ y.trace = s.dev.trace ∧ y.alive = true := by rw [← hy]; exact ⟨rfl, rfl, rfl, ha⟩
  have hyc : y.o Obj.PULSES_2310 = satU32 (s.dev.o Obj.PULSES_2310 + 1) := by rw [← hy]; exact Dev.o_setO_same _ _ _
  have hyf : ({ s.dev with evq := t, nfPulse := true } : Dev).ShowsOnly y := by rw [← hy]; exact frame_shows.addSat (frame_shows.refl _) _ _
  have hyo : OnlyObjects (fun k => k == Obj.PULSES_2310) s.dev y := by rw [← hy]; exact ((OnlyObjects.refl s.dev).of_obj (e := { s.dev with evq := t, nfPulse := true }) rfl).addSat _ _ (by simp)
  obtain ⟨hpulse, hevq, htrace, hya⟩ := hyp
  obtain ⟨level, -, hpin⟩ := Dev.o_settle_pin hya
  refine completes_event ha hq y ?_ ⟨by rw [Dev.settle_evq, hevq], by rw [Dev.settle_nfPulse, hpulse], ?_, by rw [Dev.o_settle _ (by decide), hyc], by rw [Dev.settle_trace, htrace], frame_shows.settle hyf, hyo.settle⟩
  · rw [Dev.routeEvent_eq, show routeOf { s.dev with evq := t } (x % 256) = 32 from hroute, ← hy]
    rfl
  · rw [hpin, hpulse, Bool.or_true]
    rfl

/-- Settles O50: the first waiting event at each of its routes, clause by clause. -/
theorem eventRoutes : Obligations.EventRoutes :=
  ⟨eventDelivery_unrouted, eventDelivery_empty, eventDelivery_logs, eventDelivery_repeats, eventDelivery_notifies, eventDelivery_triggers, eventDelivery_queueEmpty, eventDelivery_pulses⟩

end Sys2Proof.Machine
end

section
/-! KEY_ON rising in sleep, O54 (R552). -/

namespace Sys2Proof.Machine

/-- An E960 asleep whose memory lists KEY_ON twice, both times low. -/
def strayKey : State := { pending := [], dev := { State.reset.dev with phase := .asleep, obj := [(Obj.KEY_ON, 0), (Obj.KEY_ON, 0)] } }

theorem keyOn_keyRise_strayKey : strayKey.dev.keyRise.o Obj.KEY_ON = 0 := by decide +kernel

/-- Refutes O54: KEY_ON rises in sleep in a memory that lists it twice. The rise writes the first entry, the reset keeps both in their order, and
the second one, still low, is written last, so that KEY_ON reads 0. -/
theorem not_supplyAndKey : ¬ Obligations.SupplyAndKey := by
  unfold Obligations.SupplyAndKey
  intro h
  obtain ⟨-, -, -, -, -, -, -, -, hrise, -⟩ := h
  obtain ⟨t, hexec, -, -, -, hkey, -⟩ := hrise strayKey rfl rfl
  have hrun : exec .keyOnRise strayKey = .next { strayKey with dev := strayKey.dev.keyRise.settle } := rfl
  rw [hrun] at hexec
  cases hexec
  have hsettle := (Dev.o_settle strayKey.dev.keyRise (k := Obj.KEY_ON) (by decide)).trans keyOn_keyRise_strayKey
  exact absurd (hsettle.symm.trans hkey) (by decide)

end Sys2Proof.Machine
end

section
/-! The end of faults, recovery, Lockout, SAFE_IN and fault injection, O51 (R512, R515, R516, R519 to R523, R525, R529). -/

namespace Sys2Proof.Machine

/-! ### Faults end -/

/-- The records of the end of these faults (R515). -/
def Dev.logEnds (d : Dev) (gone : List FaultRec) (kind : Nat) : Dev := gone.foldl (fun d f => d.logAdd f.code 0 kind) d

/-- The faults that satisfy `p` out of the collector, before their records. -/
def Dev.without (d : Dev) (p : FaultRec → Bool) : Dev := { d with coll := { d.coll with active := d.coll.active.filter (fun f => !(p f)) } }.retainNow

theorem Dev.endFaults_eq (d : Dev) (p : FaultRec → Bool) (kind : Nat) :
    d.endFaults p kind = ((d.without p).logEnds (d.coll.active.filter p) kind).exitEvent d.safeState := rfl

theorem Dev.logEnds_eq (gone : List FaultRec) (kind : Nat) (d : Dev) :
    d.logEnds gone kind = { d with obj := (d.logEnds gone kind).obj, coll := { d.coll with log := (d.logEnds gone kind).coll.log } } := by
  induction gone generalizing d with
  | nil => rfl
  | cons f fs ih => exact ih _

theorem onlyObjects_logEnds (gone : List FaultRec) (kind : Nat) (d : Dev) : OnlyObjects (fun k => k == Obj.LOG_TOTAL) d (d.logEnds gone kind) := by
  refine OnlyObjects.foldl (OnlyObjects.refl d) _ fun d f _ => ?_
  unfold Dev.logAdd
  refine OnlyObjects.addWrap ?_ _ _ (by decide)
  exact OnlyObjects.of_obj (OnlyObjects.refl d) rfl

theorem Dev.logEnds_last {gone : List FaultRec} {code : Nat} (kind : Nat) (d : Dev) (hne : gone ≠ []) (hcode : ∀ f ∈ gone, f.code = code) :
    (d.logEnds gone kind).coll.log.getLast?.map (fun r => (r.code, r.kind)) = some (code, kind) := by
  obtain rfl | ⟨fs, f, rfl⟩ := List.eq_nil_or_concat gone
  · exact absurd rfl hne
  · simp [Dev.logEnds, hcode f (by simp)]

theorem Dev.shows_exitEvent (d : Dev) (n : Nat) : d.ShowsOnly (d.exitEvent n) := frame_shows.when (frame_shows.refl _) _ fun d => frame_shows.event (frame_shows.refl d) _

theorem onlyObjects_exitEvent (d : Dev) (n : Nat) : OnlyObjects isTraceCount d (d.exitEvent n) :=
  OnlyObjects.when (OnlyObjects.refl d) _ fun _ d => OnlyObjects.event (OnlyObjects.refl d) _ fun _ h => h

@[simp] theorem Dev.exitEvent_coll (d : Dev) (n : Nat) : (d.exitEvent n).coll = d.coll := by
  obtain ⟨⟨p, h⟩, -⟩ := d.shows_exitEvent n
  rw [h]

theorem Dev.endFaults_coll (d : Dev) (p : FaultRec → Bool) (kind : Nat) : (d.endFaults p kind).coll =
    { (d.without p).coll with log := ((d.without p).logEnds (d.coll.active.filter p) kind).coll.log } := by
  rw [Dev.endFaults_eq, Dev.exitEvent_coll, Dev.logEnds_eq]

@[simp] theorem Dev.endFaults_active (d : Dev) (p : FaultRec → Bool) (kind : Nat) : (d.endFaults p kind).coll.active = d.coll.active.filter (fun f => !(p f)) := by
  rw [Dev.endFaults_coll]
  rfl

@[simp] theorem Dev.endFaults_exits (d : Dev) (p : FaultRec → Bool) (kind : Nat) : (d.endFaults p kind).coll.exits = d.coll.exits := by
  rw [Dev.endFaults_coll]
  rfl

theorem Dev.endFaults_last (d : Dev) {p : FaultRec → Bool} (kind : Nat) {code : Nat} (hany : d.coll.active.any p = true) (hcode : ∀ f, p f = true → f.code = code) :
    (d.endFaults p kind).coll.log.getLast?.map (fun r => (r.code, r.kind)) = some (code, kind) := by
  rw [Dev.endFaults_coll]
  refine Dev.logEnds_last kind _ (fun hnil => ?_) fun f hf => hcode f (List.mem_filter.mp hf).2
  obtain ⟨f, hf, hp⟩ := List.any_eq_true.mp hany
  exact List.not_mem_nil (hnil ▸ List.mem_filter.mpr ⟨hf, hp⟩)

theorem Dev.raises_endFaults (d : Dev) (p : FaultRec → Bool) (kind : Nat) : d.RaisesOnly (d.endFaults p kind) := by
  have hlog : d.RaisesOnly ((d.without p).logEnds (d.coll.active.filter p) kind) := by
    rw [Dev.logEnds_eq]
    exact Dev.raisesOnly_iff.mpr ⟨rfl, fun _ h => h⟩
  exact hlog.trans (frame_raises.when (frame_raises.refl _) _ fun d => frame_raises.event (frame_raises.refl d) _)

theorem onlyObjects_endFaults (d : Dev) (p : FaultRec → Bool) (kind : Nat) : OnlyObjects (fun k => k == Obj.LOG_TOTAL || isTraceCount k) d (d.endFaults p kind) := by
  have hout : OnlyObjects (fun k => k == Obj.LOG_TOTAL || isTraceCount k) d (d.without p) := OnlyObjects.of_obj (OnlyObjects.refl d) rfl
  exact (hout.trans ((onlyObjects_logEnds _ kind _).mono fun _ h => by simp [h])).trans ((onlyObjects_exitEvent _ _).mono fun _ h => by simp [h])

/-! ### The quiet period (R519 to R522) -/

/-- The faults of this code on this domain. -/
def ofFault (code : Nat) (acts : Domain) (f : FaultRec) : Bool := f.code == code && f.acts == acts

theorem ofFault_iff {code : Nat} {acts : Domain} {f : FaultRec} : ofFault code acts f = true ↔ f.code = code ∧ f.acts = acts := by simp [ofFault]

theorem Dev.quietEnd_of_find {d : Dev} {code : Nat} {acts : Domain} {f : FaultRec} (hfind : d.coll.active.find? (ofFault code acts) = some f)
    (hcause : f.cause = false) (hends : neverEnds code = false) (hroom : (decide (2 ≤ faultClass code) && !f.injected && decide (8 ≤ d.coll.exits.length)) = false) :
    d.quietEnd code acts = (d.endFaults (ofFault code acts) 3).when (decide (2 ≤ faultClass code) && !f.injected) (fun d => d.countExit) := by
  unfold Dev.quietEnd
  rw [show (d.coll.active.find? fun f => f.code == code && f.acts == acts) = some f from hfind]
  simp only [hcause, hends, hroom, Bool.or_self, Bool.false_eq_true, if_false]
  rfl

theorem exists_find_of_any {l : List FaultRec} {code : Nat} {acts : Domain} {q : FaultRec → Bool}
    (hany : l.any (fun f => f.code == code && f.acts == acts) = true) (hnone : l.any (fun f => f.code == code && f.acts == acts && q f) = false) :
    ∃ f, l.find? (ofFault code acts) = some f ∧ q f = false ∧ f.code = code ∧ f.acts = acts := by
  obtain ⟨f, hf⟩ := Option.isSome_iff_exists.mp ((List.find?_isSome.trans List.any_eq_true.symm).mpr (show l.any (ofFault code acts) = true from hany))
  have hp : ofFault code acts f = true := List.find?_some hf
  obtain ⟨hcode, hacts⟩ := ofFault_iff.mp hp
  have hno := List.any_eq_false.mp hnone f (List.mem_of_find?_eq_some hf)
  exact ⟨f, hf, by simpa [hcode, hacts] using hno, hcode, hacts⟩

theorem quietPeriodEnd_degrade (s : State) (code : Nat) (acts : Domain) (ha : s.dev.alive = true) (hclass : code / 512 % 8 = 1)
    (hcause : s.dev.coll.active.any (fun f => f.code == code && f.acts == acts && f.cause) = false) (hany : s.dev.coll.active.any (fun f => f.code == code && f.acts == acts) = true) (hends : neverEnds code = false) :
    Completes (.quietPeriodEnd code acts) s (fun e => e.coll.active = s.dev.coll.active.filter (fun f => !(f.code == code && f.acts == acts)) ∧ e.coll.exits = s.dev.coll.exits ∧
      e.coll.log.getLast?.map (fun r => (r.code, r.kind)) = some (code, 3) ∧ s.dev.RaisesOnly e ∧ OnlyObjects (fun k => k == Obj.LOG_TOTAL || isTraceCount k) s.dev e) := by
  obtain ⟨f, hfind, hf, -, -⟩ := exists_find_of_any hany hcause
  have hlow : decide (2 ≤ faultClass code) = false := by simp [faultClass, hclass]
  have heq := Dev.quietEnd_of_find hfind hf hends (by simp [hlow])
  rw [hlow] at heq
  refine completes_live_eq _ rfl ha heq ?_
  have hactive := s.dev.endFaults_active (ofFault code acts) 3
  have hexits := s.dev.endFaults_exits (ofFault code acts) 3
  have hlast := s.dev.endFaults_last (p := ofFault code acts) 3 hany fun f h => (ofFault_iff.mp h).1
  have hraises := s.dev.raises_endFaults (ofFault code acts) 3
  have hobj := onlyObjects_endFaults s.dev (ofFault code acts) 3
  simp only [Bool.false_and, Dev.when, Bool.false_eq_true, if_false]
  generalize s.dev.endFaults (ofFault code acts) 3 = e at *
  rw [Dev.settle_coll]
  exact ⟨hactive, hexits, hlast, frame_raises.settle hraises, hobj.settle⟩

/-- The memory of an exit that counts (R519). -/
def Dev.exitNow (d : Dev) : Dev := { d with coll := { d.coll with exits := d.coll.exits ++ [d.wall] } }

theorem Dev.countExit_eq (d : Dev) : d.countExit = (((d.exitNow).addSat Obj.RECOVERIES).event 0x09).setO Obj.RECENT (min 8 (d.coll.exits.length + 1) : Nat) := by
  unfold Dev.countExit Dev.showRecent
  simp [Dev.exitNow, Dev.addSat]

@[simp] theorem Dev.countExit_coll (d : Dev) : d.countExit.coll = { d.coll with exits := d.coll.exits ++ [d.wall] } := by
  rw [Dev.countExit_eq]
  simp [Dev.exitNow, Dev.addSat]

theorem Dev.recoveries_countExit (d : Dev) : d.countExit.o Obj.RECOVERIES = satU32 (d.o Obj.RECOVERIES + 1) := by
  rw [Dev.countExit_eq]
  simp +decide [Dev.exitNow, Dev.o_eq]

theorem Dev.recent_countExit (d : Dev) : d.countExit.o Obj.RECENT = (min 8 (d.coll.exits.length + 1) : Nat) := by
  rw [Dev.countExit_eq, Dev.o_setO_same]

theorem Dev.raised_countExit (d : Dev) : d.countExit.raised 9 := by
  rw [Dev.countExit_eq]
  exact (frame_shows.setO (frame_shows.refl _) _ _).raised (by simp)

theorem Dev.raises_countExit (d : Dev) : d.RaisesOnly d.countExit := by
  have hexit : d.RaisesOnly d.exitNow := Dev.raisesOnly_iff.mpr ⟨rfl, fun _ h => h⟩
  rw [Dev.countExit_eq]
  exact frame_raises.setO (frame_raises.event (frame_raises.addSat hexit _ _) _) _ _

theorem onlyObjects_countExit (d : Dev) : OnlyObjects (fun k => k == Obj.RECOVERIES || k == Obj.RECENT || isTraceCount k) d d.countExit := by
  have hexit : OnlyObjects (fun k => k == Obj.RECOVERIES || k == Obj.RECENT || isTraceCount k) d d.exitNow := OnlyObjects.of_obj (OnlyObjects.refl d) rfl
  rw [Dev.countExit_eq]
  exact ((hexit.addSat _ _ (by decide)).event _ fun _ h => by simp [h]).setO _ _ (by decide)

theorem quietPeriodEnd_recovery (s : State) (code : Nat) (acts : Domain) (ha : s.dev.alive = true) (hclass : code / 512 % 8 = 2 ∨ code / 512 % 8 = 3) (hends : neverEnds code = false)
    (hgone : s.dev.coll.active.any (fun f => f.code == code && f.acts == acts && (f.cause || f.injected)) = false) (hany : s.dev.coll.active.any (fun f => f.code == code && f.acts == acts) = true)
    (hroom : s.dev.coll.exits.length < 8) :
    Completes (.quietPeriodEnd code acts) s (fun e => e.coll.active = s.dev.coll.active.filter (fun f => !(f.code == code && f.acts == acts)) ∧ e.coll.exits = s.dev.coll.exits ++ [s.dev.wall] ∧
      e.coll.log.getLast?.map (fun r => (r.code, r.kind)) = some (code, 3) ∧ e.o Obj.RECOVERIES = satU32 (s.dev.o Obj.RECOVERIES + 1) ∧ e.o Obj.RECENT = (s.dev.coll.exits.length + 1 : Nat) ∧
      e.raised 9 ∧ s.dev.RaisesOnly e ∧ OnlyObjects (fun k => k == Obj.LOG_TOTAL || k == Obj.RECOVERIES || k == Obj.RECENT || isTraceCount k) s.dev e) := by
  obtain ⟨f, hfind, hf, -, -⟩ := exists_find_of_any hany hgone
  obtain ⟨hcause, hinj⟩ := Bool.or_eq_false_iff.mp hf
  have hhigh : decide (2 ≤ faultClass code) = true := decide_eq_true (by unfold faultClass; omega)
  have heq := Dev.quietEnd_of_find hfind hcause hends (by simp [hinj]; omega)
  rw [hhigh, hinj] at heq
  refine completes_live_eq _ rfl ha heq ?_
  have hactive := s.dev.endFaults_active (ofFault code acts) 3
  have hexits := s.dev.endFaults_exits (ofFault code acts) 3
  have hlast := s.dev.endFaults_last (p := ofFault code acts) 3 hany fun f h => (ofFault_iff.mp h).1
  have hraises := s.dev.raises_endFaults (ofFault code acts) 3
  have hobj := onlyObjects_endFaults s.dev (ofFault code acts) 3
  have hwall : (s.dev.endFaults (ofFault code acts) 3).wall = s.dev.wall := by
    obtain ⟨c, hc⟩ := hraises
    rw [hc.wall]
  have hcount := hobj.same Obj.RECOVERIES (by decide) (by decide)
  simp only [Bool.not_false, Bool.and_self, Dev.when, if_true]
  generalize s.dev.endFaults (ofFault code acts) 3 = e at *
  have hlen : e.countExit.coll.exits.length = s.dev.coll.exits.length + 1 := by simp [hexits]
  refine ⟨by simpa [ofFault] using hactive, by simp [hexits, hwall], by simpa using hlast, ?_, ?_, (Dev.raised_settle_iff _ _).mpr e.raised_countExit, frame_raises.settle (hraises.trans e.raises_countExit), ?_⟩
  · rw [Dev.o_settle _ (by decide), Dev.recoveries_countExit, hcount]
  · rw [Dev.o_settle _ (by decide), Dev.recent_countExit, hexits, min_eq_right (by omega)]
  · exact ((hobj.mono fun k h => by simp only [Bool.or_eq_true] at h ⊢; tauto).trans ((onlyObjects_countExit e).mono fun k h => by simp only [Bool.or_eq_true] at h ⊢; tauto)).settle

/-! ### The re-issue as a Lockout (R522) -/

/-- The Lockout in which the fault `f` is re-issued. -/
def Dev.lockoutRec (d : Dev) (f : FaultRec) : FaultRec :=
  { code := asLockout f.code, acts := f.acts, since := d.wall, cause := false, quiet := d.wall, injected := f.injected }

/-- The collector with the Lockout in the place of its fault. -/
def Dev.lockoutEntry (d : Dev) (f : FaultRec) : Dev :=
  { d with coll := { d.coll with
    active := d.coll.active.filter (fun (x : FaultRec) => !((x.code == f.code || x.code == asLockout f.code) && x.acts == f.acts)) ++ [d.lockoutRec f] } }.retainNow

/-- The Lockout reported by log, postmark and event, before its reaction. -/
def Dev.lockoutReport (d : Dev) (f : FaultRec) : Dev :=
  (((d.lockoutEntry f).logAdd (asLockout f.code) 0 5).postmark (asLockout f.code) f.acts {} f.injected).event 0x08

theorem Dev.toLockout_eq (d : Dev) (f : FaultRec) : d.toLockout f = (d.lockoutReport f).react (asLockout f.code) f.acts (decide (d.safeState = 0)) := rfl

theorem Dev.toLockout_coll (d : Dev) (f : FaultRec) : (d.toLockout f).coll = ((d.lockoutEntry f).logAdd (asLockout f.code) 0 5).coll := by
  rw [Dev.toLockout_eq, (Dev.stops_react ..).coll, Dev.lockoutReport, Dev.event_coll, (Dev.stops_postmark ..).coll]

theorem Dev.toLockout_active (d : Dev) (f : FaultRec) : (d.toLockout f).coll.active =
    d.coll.active.filter (fun (x : FaultRec) => !((x.code == f.code || x.code == asLockout f.code) && x.acts == f.acts)) ++ [d.lockoutRec f] := by
  rw [Dev.toLockout_coll, Dev.logAdd, Dev.addWrap, Dev.setO_coll]
  rfl

theorem Dev.toLockout_exits (d : Dev) (f : FaultRec) : (d.toLockout f).coll.exits = d.coll.exits := by
  rw [Dev.toLockout_coll, Dev.logAdd, Dev.addWrap, Dev.setO_coll]
  rfl

theorem Dev.inForce_toLockout (d : Dev) (f : FaultRec) : (d.toLockout f).inForce (asLockout f.code) f.acts := by
  refine ⟨d.lockoutRec f, ?_, rfl, rfl⟩
  rw [Dev.toLockout_active]
  exact List.mem_append_right _ (List.mem_singleton.mpr rfl)

theorem Dev.toLockout_gone (d : Dev) (f : FaultRec) (hne : asLockout f.code ≠ f.code) : (d.toLockout f).coll.active.any (fun x => x.code == f.code && x.acts == f.acts) = false := by
  rw [Dev.toLockout_active, List.any_append, Bool.or_eq_false_iff, List.any_eq_false]
  refine ⟨fun x hx => ?_, by simp [Dev.lockoutRec, hne]⟩
  have hkeep := (List.mem_filter.mp hx).2
  simp only [Bool.not_eq_true', Bool.and_eq_false_iff, Bool.or_eq_false_iff] at hkeep
  simp only [Bool.and_eq_true]
  rintro ⟨hcode, hacts⟩
  rcases hkeep with hkeep | hkeep
  · exact absurd (hcode.symm.trans hkeep.1) (by decide)
  · exact absurd (hacts.symm.trans hkeep) (by decide)

theorem Dev.raised_toLockout (d : Dev) (f : FaultRec) : (d.toLockout f).raised 8 := by
  rw [Dev.toLockout_eq]
  exact (Dev.stops_react (d.lockoutReport f) (asLockout f.code) f.acts _).raises.raised (by simp [Dev.lockoutReport])

theorem Dev.raises_toLockout (d : Dev) (f : FaultRec) : d.RaisesOnly (d.toLockout f) := by
  have hentry : d.RaisesOnly (d.lockoutEntry f) := Dev.raisesOnly_iff.mpr ⟨rfl, fun _ h => h⟩
  obtain ⟨l, hlog⟩ := (d.lockoutEntry f).raises_logAdd (asLockout f.code) 0 5
  rw [Dev.toLockout_eq]
  exact hentry.trans ⟨_, ((hlog.trans (Dev.stops_postmark ..)).trans (Dev.stops_event _ 0x08)).trans (Dev.stops_react ..)⟩

theorem onlyObjects_toLockout (d : Dev) (f : FaultRec) : OnlyObjects (fun k => isReaction k) d (d.toLockout f) := by
  have hentry : OnlyObjects (fun k => isReaction k) d (d.lockoutEntry f) := OnlyObjects.of_obj (OnlyObjects.refl d) rfl
  rw [Dev.toLockout_eq]
  exact (((hentry.trans (quiet_logAdd ..)).trans (quiet_postmark ..)).trans (quiet_event _ 0x08)).trans (quiet_react ..)

/-- A Lockout in force shows in SAFE_STATE (R510, R513). -/
theorem Dev.o_settle_of_lockout {d : Dev} {code : Nat} {dom : Domain} (h : d.inForce code dom) (hclass : faultClass code = 4) : d.settle.o Obj.SAFE_STATE = 2 := by
  obtain ⟨f, hf, hcode, -⟩ := h
  have hlock : d.classInForce 4 = true := by
    unfold Dev.classInForce
    rw [Bool.or_eq_true]
    exact Or.inl (List.any_eq_true.mpr ⟨f, hf, by rw [hcode, hclass]; decide⟩)
  rw [Dev.o_settle_safeState, Dev.safeState, if_pos hlock]
  rfl

theorem asLockout_eq {code : Nat} (h : code < 65536) : asLockout code = code / 4096 * 4096 + 2048 + code % 512 := by
  unfold asLockout faultDomain faultCause
  omega

theorem Dev.quietEnd_ninth {d : Dev} {code : Nat} {acts : Domain} {f : FaultRec} (hfind : d.coll.active.find? (ofFault code acts) = some f)
    (hcause : f.cause = false) (hinj : f.injected = false) (hends : neverEnds code = false) (hclass : 2 ≤ faultClass code) (hfull : 8 ≤ d.coll.exits.length) :
    d.quietEnd code acts = d.toLockout f := by
  unfold Dev.quietEnd
  rw [show (d.coll.active.find? fun f => f.code == code && f.acts == acts) = some f from hfind]
  simp [hcause, hends, hinj, hclass, hfull]

theorem quietPeriodEnd_lockout (s : State) (code : Nat) (acts : Domain) (ha : s.dev.alive = true) (hclass : code / 512 % 8 = 2 ∨ code / 512 % 8 = 3) (hends : neverEnds code = false) (hcode : code < 65536)
    (hgone : s.dev.coll.active.any (fun f => f.code == code && f.acts == acts && (f.cause || f.injected)) = false) (hany : s.dev.coll.active.any (fun f => f.code == code && f.acts == acts) = true)
    (hfull : 8 ≤ s.dev.coll.exits.length) :
    Completes (.quietPeriodEnd code acts) s (fun e => e.inForce (code / 4096 * 4096 + 2048 + code % 512) acts ∧ (e.coll.active.any (fun f => f.code == code && f.acts == acts)) = false ∧
      e.coll.exits = s.dev.coll.exits ∧ e.o Obj.SAFE_STATE = 2 ∧ e.raised 8 ∧ e.coll.log.getLast?.map (fun r => (r.code, r.kind)) = some (code / 4096 * 4096 + 2048 + code % 512, 5) ∧ s.dev.RaisesOnly e ∧ OnlyObjects (fun k => isReaction k) s.dev e) := by
  obtain ⟨f, hfind, hf, rfl, rfl⟩ := exists_find_of_any hany hgone
  obtain ⟨hcause, hinj⟩ := Bool.or_eq_false_iff.mp hf
  refine completes_live_eq _ rfl ha (Dev.quietEnd_ninth hfind hcause hinj hends (by unfold faultClass; omega) hfull) ?_
  have hforce := s.dev.inForce_toLockout f
  have hlast : (s.dev.toLockout f).coll.log.getLast?.map (fun r => (r.code, r.kind)) = some (asLockout f.code, 5) := by simp [Dev.toLockout_coll]
  have hout := s.dev.toLockout_gone f (by rw [asLockout_eq hcode]; omega)
  have hexits := s.dev.toLockout_exits f
  have hev := s.dev.raised_toLockout f
  have hraises := s.dev.raises_toLockout f
  have hobj := onlyObjects_toLockout s.dev f
  rw [asLockout_eq hcode] at hforce hlast
  have hsafe := Dev.o_settle_of_lockout hforce (by unfold faultClass; omega)
  generalize s.dev.toLockout f = e at *
  refine ⟨(Dev.inForce_settle_iff _ _ _).mpr hforce, ?_, ?_, hsafe, (Dev.raised_settle_iff _ _).mpr hev, ?_, frame_raises.settle hraises, hobj.settle⟩ <;> rw [Dev.settle_coll]
  · exact hout
  · exact hexits
  · exact hlast

end Sys2Proof.Machine
end

section
/-! The other commands of recovery, SAFE_IN, postmarks, the fault log and fault injection, O51 (R512, R515, R516, R519, R523, R525, R529). -/

namespace Sys2Proof.Machine

theorem Dev.quietEnd_stays {d : Dev} {code : Nat} {acts : Domain} (h : neverEnds code = true ∨ d.coll.active.all (fun f => !(f.code == code && f.acts == acts) || f.cause) = true) :
    d.quietEnd code acts = d := by
  unfold Dev.quietEnd
  split
  · rfl
  next f hfind =>
    have hend : (f.cause || neverEnds code) = true := by
      rcases h with h | h
      · simp [h]
      · have hf := List.all_eq_true.mp h f (List.mem_of_find?_eq_some hfind)
        have hp : ofFault code acts f = true := List.find?_some (p := ofFault code acts) hfind
        obtain ⟨hcode, hacts⟩ := ofFault_iff.mp hp
        rw [hcode, hacts] at hf
        simpa using Or.inl hf
    rw [if_pos hend]

theorem quietPeriodEnd_stays (s : State) (code : Nat) (acts : Domain) (ha : s.dev.alive = true) (h : neverEnds code = true ∨ s.dev.coll.active.all (fun f => !(f.code == code && f.acts == acts) || f.cause) = true) :
    Completes (.quietPeriodEnd code acts) s (fun e => e.coll = s.dev.coll ∧ s.dev.ShowsOnly e ∧ OnlyObjects (fun _ => false) s.dev e) :=
  completes_live_eq _ rfl ha (Dev.quietEnd_stays h) ⟨Dev.settle_coll _, Dev.shows_settle _, (OnlyObjects.refl _).settle⟩

/-- The memory without its oldest exit (R519). -/
def Dev.exitExpired (d : Dev) : Dev := { d with coll := { d.coll with exits := d.coll.exits.drop 1 } }

theorem recentWindowExpiry_completes (s : State) (ha : s.dev.alive = true) :
    Completes (.recentWindowExpiry) s (fun e => e.coll = { s.dev.coll with exits := s.dev.coll.exits.drop 1 } ∧ e.o Obj.RECENT = (min 8 (s.dev.coll.exits.length - 1) : Nat) ∧
      ({ s.dev with coll := e.coll } : Dev).ShowsOnly e ∧ OnlyObjects (fun k => k == Obj.RECENT) s.dev e) := by
  have heq : s.dev.exitExpired.showRecent = s.dev.exitExpired.setO Obj.RECENT (min 8 (s.dev.coll.exits.length - 1) : Nat) := by
    simp [Dev.showRecent, Dev.exitExpired]
  refine completes_live_eq (f := fun d => d.exitExpired.showRecent) _ rfl ha heq ?_
  have hcoll : (s.dev.exitExpired.setO Obj.RECENT (min 8 (s.dev.coll.exits.length - 1) : Nat)).settle.coll = s.dev.exitExpired.coll := by simp
  refine ⟨hcoll, (Dev.o_settle _ (by decide)).trans (Dev.o_setO_same _ _ _), ?_, ?_⟩
  · rw [hcoll]
    exact frame_shows.settle (frame_shows.setO (frame_shows.refl s.dev.exitExpired) _ _)
  · exact ((show OnlyObjects (fun k => k == Obj.RECENT) s.dev s.dev.exitExpired from OnlyObjects.of_obj (OnlyObjects.refl _) rfl).setO Obj.RECENT _ (by decide)).settle

/-! ### LOCKOUT_CLEAR and the acknowledgement of a postmark (R516, R523) -/

theorem lockoutClear_delivered (s : State) (hp : s.dev.phase = .service)
    (h : s.dev.coll.active.any (fun f => f.code / 512 % 8 == 4 && (!f.cause || f.code == 0x6879) && f.code != 0xB8ED && f.code != 0xB8EE && f.code != 0xE8F2) = true) :
    Completes (.lockoutClear) s (fun e => e.result = 0 ∧ e.writes = s.dev.writes ++ [{ key := Obj.LOCKOUT_CLEAR, val := 1, block := none }] ∧ ({ s.dev with result := e.result, writes := e.writes } : Dev).ShowsOnly e ∧ OnlyObjects (fun _ => false) s.dev e) := by
  have hclear : s.dev.coll.active.any clearable = true := by
    rw [← h]
    refine List.any_congr rfl fun f => ?_
    simp [clearable, faultClass, Bool.and_assoc, bne, Bool.beq_eq_decide_eq]
  refine completes_serve_delivered Obj.LOCKOUT_CLEAR 1 rfl hp ?_ fun e h1 h2 h3 h4 => ⟨h1, h2, h3, h4⟩
  unfold Dev.lockoutClear
  rw [if_pos hclear]

theorem lockoutClear_refused (s : State) (hp : s.dev.phase = .service) (h : s.dev.coll.active.all (fun f => f.code / 512 % 8 != 4 || (f.cause && f.code != 0x6879)) = true) :
    Completes (.lockoutClear) s (fun e => e.result = resState ∧ ({ s.dev with result := e.result } : Dev).ShowsOnly e ∧ OnlyObjects (fun _ => false) s.dev e) := by
  have hclear : ¬ s.dev.coll.active.any clearable = true := by
    rw [Bool.not_eq_true, List.any_eq_false]
    intro f hf
    have hstay := List.all_eq_true.mp h f hf
    simp only [clearable, faultClass]
    revert hstay
    cases f.cause <;> cases hc : (f.code == 0x6879) <;> cases hk : (f.code / 512 % 8 == 4) <;> simp [bne, hc, hk]
  refine completes_serve_result resState rfl hp ?_ fun e h1 h2 h3 => ⟨h1, h2, h3⟩
  unfold Dev.lockoutClear
  rw [if_neg hclear]

theorem postmarkAck_delivered (s : State) (c : Fin 5) (hp : s.dev.phase = .service) :
    Completes (.postmarkAck c) s (fun e => e.result = 0 ∧ e.writes = s.dev.writes ++ [{ key := at' Obj.ACK c, val := 1, block := none }] ∧ ({ s.dev with result := e.result, writes := e.writes } : Dev).ShowsOnly e ∧ OnlyObjects (fun _ => false) s.dev e) :=
  completes_serve_delivered (at' Obj.ACK c) 1 rfl hp rfl fun _ h1 h2 h3 h4 => ⟨h1, h2, h3, h4⟩

/-! ### SAFE_IN (R512, R525) -/

theorem safeInAssert_alive (s : State) (ha : s.dev.alive = true) (hpin : s.dev.o Obj.SAFE_IN = 0) :
    Completes (.safeInAssert) s (fun e => e.o Obj.SAFE_IN = 1 ∧ e.raised 5 ∧ e.inForce 0x0606 .sys ∧ 1 ≤ e.o Obj.SAFE_STATE ∧ s.dev.RaisesOnly e ∧ OnlyObjects (fun k => k == Obj.SAFE_IN || isReaction k) s.dev e) := by
  refine completes_run (safeInAssert_eq s ha hpin) ⟨?_, ?_, (Dev.inForce_settle_iff _ _ _).mpr s.dev.inForce_safeInFault, ?_, s.dev.raises_safeInFault, onlyObjects_safeInFault _⟩
  · rw [Dev.o_settle _ (by decide)]
    have hkeep : OnlyObjects isReaction s.dev.safeInLow s.dev.safeInFault := (OnlyObjects.refl _).raise _ _ _ fun _ h => h
    rw [hkeep.same Obj.SAFE_IN (by decide) (by decide), Dev.safeInLow, Dev.o_event _ _ (by decide), Dev.o_setO_same]
  · exact (Dev.raised_settle_iff _ _).mpr (Dev.raised_raise (by simp [Dev.safeInLow]) _ _ _)
  · rw [Dev.o_settle_safeState]
    have hstop : s.dev.safeInFault.safeState ≠ 0 := (Dev.domainState_safe s.dev.inForce_safeInFault (by decide)).1
    omega

theorem Dev.hold_any (d : Dev) (code : Nat) (dom : Domain) : (d.hold code dom).coll.held.any (fun f => f.code == code && f.acts == dom) = true := by
  unfold Dev.hold
  split
  case isTrue h => exact h
  case isFalse => simp [Dev.retainNow]

theorem Dev.hold_active (d : Dev) (code : Nat) (dom : Domain) : (d.hold code dom).coll.active = d.coll.active := by
  unfold Dev.hold
  split <;> rfl

theorem safeInAssert_held (s : State) (hp : s.dev.phase = .inReset ∨ s.dev.phase = .starting) (hpin : s.dev.o Obj.SAFE_IN = 0) :
    Completes (.safeInAssert) s (fun e => e.o Obj.SAFE_IN = 1 ∧ (e.coll.held.any (fun f => f.code == 0x0606 && f.acts == .sys)) = true ∧ e.coll.active = s.dev.coll.active ∧ s.dev.RaisesOnly e ∧ OnlyObjects (fun k => k == Obj.SAFE_IN) s.dev e) := by
  have hrun : execSafeInAssert s = s.run (fun _ => (s.dev.setO Obj.SAFE_IN 1).hold 0x0606 .sys) := by
    have hoff : s.dev.b Obj.SAFE_IN = false := by simp [Dev.b, hpin]
    have hdead : s.dev.alive = false := by rcases hp with hp | hp <;> simp [Dev.alive, hp]
    have hheld : (s.dev.phase == .inReset || s.dev.phase == .starting) = true := by rcases hp with hp | hp <;> simp [hp]
    unfold execSafeInAssert State.run
    simp only [hoff, hdead, hheld, Bool.false_eq_true, if_false]
    rfl
  have hraises : s.dev.RaisesOnly ((s.dev.setO Obj.SAFE_IN 1).hold 0x0606 .sys) := (frame_raises.setO (frame_raises.refl _) _ _).trans (Dev.raises_hold _ _ _)
  have hkeys := (s.dev.setO Obj.SAFE_IN 1).hold_obj 0x0606 .sys
  have hobj : OnlyObjects (fun k => k == Obj.SAFE_IN) s.dev ((s.dev.setO Obj.SAFE_IN 1).hold 0x0606 .sys) := ((OnlyObjects.refl s.dev).setO Obj.SAFE_IN 1 (by decide)).of_obj hkeys
  refine completes_run hrun ⟨?_, ?_, ?_, frame_raises.settle hraises, hobj.settle⟩
  · rw [Dev.o_settle _ (by decide), show ((s.dev.setO Obj.SAFE_IN 1).hold 0x0606 .sys).o Obj.SAFE_IN = (s.dev.setO Obj.SAFE_IN 1).o Obj.SAFE_IN by rw [Dev.o, Dev.o, hkeys], Dev.o_setO_same]
  · rw [Dev.settle_coll]
    exact Dev.hold_any _ _ _
  · rw [Dev.settle_coll, Dev.hold_active, Dev.setO_coll]

theorem safeInRelease_ends (s : State) (hany : s.dev.coll.active.any (fun f => f.code == 0x0606) = true) :
    Completes (.safeInRelease) s (fun e => e.o Obj.SAFE_IN = 0 ∧ e.coll.active = s.dev.coll.active.filter (fun f => !(f.code == 0x0606)) ∧ e.coll.exits = s.dev.coll.exits ∧
      e.coll.log.getLast?.map (fun r => (r.code, r.kind)) = some (0x0606, 4) ∧ s.dev.RaisesOnly e ∧ OnlyObjects (fun k => k == Obj.SAFE_IN || k == Obj.LOG_TOTAL || isTraceCount k) s.dev e) := by
  have hrun : exec .safeInRelease s = s.run (fun _ => (s.dev.setO Obj.SAFE_IN 0).endFaults (fun f => f.code == 0x0606) 4) := by
    refine congrArg (fun e => Host.Outcome.next { s with dev := Dev.settle e }) (if_pos ?_)
    simpa [Dev.faultOn] using hany
  have hlow := (frame_raises.setO (frame_raises.refl s.dev) Obj.SAFE_IN 0)
  have hpin : (s.dev.setO Obj.SAFE_IN 0).o Obj.SAFE_IN = 0 := Dev.o_setO_same _ _ _
  have hset : OnlyObjects (fun k => k == Obj.SAFE_IN) s.dev (s.dev.setO Obj.SAFE_IN 0) := (OnlyObjects.refl s.dev).setO Obj.SAFE_IN 0 (by decide)
  have hcoll : (s.dev.setO Obj.SAFE_IN 0).coll = s.dev.coll := Dev.setO_coll _ _ _
  refine completes_run hrun ?_
  generalize s.dev.setO Obj.SAFE_IN 0 = d at *
  have hends := onlyObjects_endFaults d (fun f => f.code == 0x0606) 4
  refine ⟨?_, ?_, ?_, ?_, frame_raises.settle (hlow.trans (d.raises_endFaults _ _)), ?_⟩
  · rw [Dev.o_settle _ (by decide), hends.same Obj.SAFE_IN (by decide) (by decide), hpin]
  · rw [Dev.settle_coll, Dev.endFaults_active, hcoll]
  · rw [Dev.settle_coll, Dev.endFaults_exits, hcoll]
  · rw [Dev.settle_coll]
    exact d.endFaults_last 4 (hcoll ▸ hany) fun f hf => by simpa using hf
  · exact ((hset.mono fun k h => by simp [h]).trans (hends.mono fun k h => by simp only [Bool.or_eq_true] at h ⊢; tauto)).settle

/-! ### The fault log and fault injection (R515, R529) -/

theorem faultLogCopy_completes (s : State) (hp : s.dev.phase = .service) :
    Completes (.faultLogCopy) s (fun e => e.coll = { s.dev.coll with logCopy := s.dev.coll.log } ∧ e.kept = { s.dev.kept with counts := e.kept.counts } ∧
      (e.kept.counts.all (fun x => s.dev.obj.any (fun y => y.1 == x.1 && y.2 == x.2))) = true ∧ ({ s.dev with coll := e.coll, kept := e.kept } : Dev).ShowsOnly e ∧ OnlyObjects (fun _ => false) s.dev e) := by
  refine completes_serve_eq _ rfl hp rfl ?_
  have hcoll : s.dev.logCopyNow.settle.coll = s.dev.logCopyNow.coll := Dev.settle_coll _
  have hkept : s.dev.logCopyNow.settle.kept = s.dev.logCopyNow.kept := Dev.settle_kept _
  refine ⟨hcoll, by rw [hkept]; rfl, ?_, ?_, ?_⟩
  · rw [hkept, List.all_eq_true]
    intro x hx
    exact List.any_eq_true.mpr ⟨x, (List.mem_filter.mp hx).1, by simp⟩
  · rw [hcoll, hkept]
    exact frame_shows.settle (frame_shows.refl s.dev.logCopyNow)
  · exact (show OnlyObjects (fun _ => false) s.dev s.dev.logCopyNow from OnlyObjects.of_obj (OnlyObjects.refl _) rfl).settle

theorem faultInject_delivered (s : State) (hp : s.dev.phase = .service) (hw : s.dev.writes = []) (hlc : s.dev.o Obj.LIFE_CYCLE = 2 ∨ s.dev.o Obj.LIFE_CYCLE = 3 ∨ s.dev.o Obj.LIFE_CYCLE = 4)
    (ht : s.dev.o Obj.TARGET_2320 = 1) (hsel : 1 ≤ s.dev.o Obj.SELECT ∧ s.dev.o Obj.SELECT ≤ 11) :
    Completes (.faultInject) s (fun e => e.result = 0 ∧ e.writes = [{ key := Obj.CTRL_2320, val := 1, block := none }] ∧ ({ s.dev with result := e.result, writes := e.writes } : Dev).ShowsOnly e ∧ OnlyObjects (fun _ => false) s.dev e) := by
  have htarget : s.dev.n Obj.TARGET_2320 = 1 := Dev.n_of_o ht
  have hlife : [2, 3, 4].contains (s.dev.n Obj.LIFE_CYCLE) = true := by
    rcases hlc with h | h | h <;> rw [Dev.n, h] <;> decide
  have hselect : s.dev.injectSelects = true := by
    unfold Dev.injectSelects
    rw [Dev.ahead_nil hw, htarget]
    have hlow : 1 ≤ s.dev.n Obj.SELECT := by unfold Dev.n; omega
    have hhigh : s.dev.n Obj.SELECT ≤ 11 := by unfold Dev.n; omega
    simp [hlow, hhigh]
  refine completes_serve_delivered Obj.CTRL_2320 1 rfl hp ?_ fun e h1 h2 h3 h4 => ⟨h1, by rw [h2, hw]; rfl, h3, h4⟩
  unfold Dev.faultInject
  simp only [Dev.ahead_nil hw, htarget, hlife, hselect]
  rfl

theorem faultInject_refused (s : State) (hp : s.dev.phase = .service) (hw : s.dev.writes = [])
    (h : s.dev.o Obj.LIFE_CYCLE = 1 ∨ (s.dev.o Obj.TARGET_2320 = 3 ∧ s.dev.o Obj.MASTER = 1) ∨ (s.dev.o Obj.TARGET_2320 = 5 ∧ s.dev.domainState .lnk ≠ 0)) :
    Completes (.faultInject) s (fun e => e.result = resState ∧ ({ s.dev with result := e.result } : Dev).ShowsOnly e ∧ OnlyObjects (fun _ => false) s.dev e) := by
  have hbar : (!([2, 3, 4].contains (s.dev.n Obj.LIFE_CYCLE)) || (decide (4 ≤ s.dev.n Obj.TARGET_2320) && !s.dev.powerStopped) || (s.dev.n Obj.TARGET_2320 == 3 && s.dev.b Obj.MASTER)) = true := by
    rcases h with hlife | ⟨ht, hmaster⟩ | ⟨ht, hlnk⟩
    · rw [Dev.n_of_o (m := 1) hlife]
      rfl
    · rw [Dev.n_of_o (m := 3) ht, show s.dev.b Obj.MASTER = true by simp [Dev.b, hmaster]]
      simp
    · rw [Dev.n_of_o (m := 5) ht, show s.dev.powerStopped = false by simp [Dev.powerStopped, hlnk]]
      simp
  refine completes_serve_result resState rfl hp ?_ fun e h1 h2 h3 => ⟨h1, h2, h3⟩
  unfold Dev.faultInject
  rw [Dev.ahead_nil hw]
  exact if_pos hbar

theorem injectionTimeout_completes (s : State) (ha : s.dev.alive = true) :
    Completes (.injectionTimeout) s (fun e => e.o Obj.STATE_2320 = (if s.dev.o Obj.STATE_2320 = 1 then 3 else s.dev.o Obj.STATE_2320) ∧ s.dev.ShowsOnly e ∧ OnlyObjects (fun k => k == Obj.STATE_2320) s.dev e) := by
  refine completes_live_eq (f := fun d => d.when (d.o Obj.STATE_2320 == 1) (fun d => d.setO Obj.STATE_2320 3)) _ rfl ha rfl ⟨?_, ?_, ?_⟩
  · rw [Dev.o_settle _ (by decide)]
    by_cases h : s.dev.o Obj.STATE_2320 = 1 <;> simp [Dev.when, h]
  · exact frame_shows.settle (frame_shows.when (frame_shows.refl _) _ fun d => frame_shows.setO (frame_shows.refl d) _ _)
  · exact (OnlyObjects.when (OnlyObjects.refl s.dev) _ fun _ d => (OnlyObjects.refl d).setO Obj.STATE_2320 3 (by simp)).settle

/-- Settles O51: what ends a fault, what it counts as, and the commands of SAFE_IN, the postmarks, the log copy and fault injection. -/
theorem recoveryAndLockout : Obligations.RecoveryAndLockout :=
  ⟨quietPeriodEnd_degrade, quietPeriodEnd_recovery, quietPeriodEnd_lockout, quietPeriodEnd_stays, recentWindowExpiry_completes, lockoutClear_delivered, lockoutClear_refused, safeInAssert_alive,
    safeInAssert_held, safeInRelease_ends, postmarkAck_delivered, faultLogCopy_completes, faultInject_delivered, faultInject_refused, injectionTimeout_completes⟩

end Sys2Proof.Machine
end

section
/-! Layer: the temperature sensors. What a reading writes, and what a row of sensors leaves when each is read in turn (R535 to R537). -/

namespace Sys2Proof.Machine

/-! ### The objects of a sensor -/

/-- TEMP and SENSOR_STATE, of any sensor (R536). -/
def isSensor (k : Nat) : Bool := keyIdx k == keyIdx Obj.TEMP || keyIdx k == keyIdx Obj.SENSOR_STATE

/-- TEMP and SENSOR_STATE of sensor `n`. -/
def sensorKey (n k : Nat) : Bool := k == el Obj.SENSOR_STATE n || k == el Obj.TEMP n

theorem isSensor_iff {k : Nat} : isSensor k = true ↔ k / 256 = 0x2500 ∨ k / 256 = 0x2501 := by simp [isSensor, keyIdx, Obj.TEMP, Obj.SENSOR_STATE]

theorem isSensor_of_sensorKey {n k : Nat} (hn : 1 ≤ n ∧ n ≤ 255) (h : sensorKey n k = true) : isSensor k = true := by
  simp only [sensorKey, Bool.or_eq_true, beq_iff_eq, el, Obj.TEMP, Obj.SENSOR_STATE] at h
  rw [isSensor_iff]
  omega

theorem isStatus_sensor {k : Nat} (h : isSensor k = true) : isStatus k = false := by
  have hidx := isSensor_iff.mp h
  exact isStatus_false (by simp; omega)

theorem isReaction_sensor {k : Nat} (h : isSensor k = true) : isReaction k = false := by
  have hstop : stopKeys.contains k = false := by
    have hall : stopKeys.all (fun k => !isSensor k) = true := by decide
    rw [Bool.eq_false_iff]
    intro hc
    simpa [h] using List.all_eq_true.mp hall k (List.contains_iff_mem.mp hc)
  have hidx := isSensor_iff.mp h
  simp only [isReaction, isTraceCount, hstop, keyIdx, Bool.or_eq_false_iff, Bool.and_eq_false_iff, beq_eq_false_iff_ne, Obj.RECORDS_WRITTEN, Obj.RECORDS_LOST, Obj.LOG_TOTAL]
  refine ⟨⟨⟨⟨⟨⟨⟨by omega, by omega⟩, ?_⟩, trivial⟩, ?_⟩, ?_⟩, by omega⟩, by omega⟩
  all_goals rcases hidx with h | h <;> simp [h]

theorem isReport_sensor {k : Nat} (h : isSensor k = true) : isReport k = false := by
  rw [Bool.eq_false_iff]
  intro hr
  exact absurd ((isReaction_sensor h).symm.trans (isReport_reaction hr)) (by decide)

/-- A Notice is reported, and nothing reacts (R510, R515). -/
theorem onlyObjects_notice (d : Dev) (code : Nat) (dom : Domain) (lasting : Bool) (src : FaultSrc) (h : faultClass code = 0) : OnlyObjects (fun k => isReport k) d (d.raiseOn code dom lasting src) := by
  have hlog : OnlyObjects (fun k => isReport k) d (d.logAdd code 0 2) := by
    unfold Dev.logAdd
    refine OnlyObjects.addWrap ?_ _ _ (by decide)
    exact OnlyObjects.of_obj (OnlyObjects.refl d) rfl
  unfold Dev.raiseOn Dev.raiseWith
  rw [if_pos h]
  exact hlog.trans (onlyObjects_postmark _ _ _ _ _)

theorem el_sensor {n : Nat} (hn : 1 ≤ n ∧ n ≤ 255) : isSensor (el Obj.SENSOR_STATE n) = true ∧ isSensor (el Obj.TEMP n) = true :=
  ⟨isSensor_of_sensorKey hn (by simp [sensorKey]), isSensor_of_sensorKey hn (by simp [sensorKey])⟩

theorem sensorKey_other {n m : Nat} (hn : 1 ≤ n ∧ n ≤ 255) (hm : 1 ≤ m ∧ m ≤ 255) (h : m ≠ n) : sensorKey n (el Obj.SENSOR_STATE m) = false ∧ sensorKey n (el Obj.TEMP m) = false := by
  simp only [sensorKey, el, Bool.or_eq_false_iff, beq_eq_false_iff_ne, Obj.TEMP, Obj.SENSOR_STATE]
  omega

/-! ### Frames -/

/-- What a sensor's reaction changes beside objects: what raising a fault changes, and the sensors' hidden state. -/
def Dev.SenseRaises (d e : Dev) : Prop := ({ e.unraised with sensors := [] } : Dev) = { d.unraised with sensors := [] } ∧ ∀ x ∈ d.evq, x ∈ e.evq

theorem Dev.RaisesOnly.sense {d e : Dev} (h : d.RaisesOnly e) : d.SenseRaises e := by
  obtain ⟨h1, h2⟩ := Dev.raisesOnly_iff.mp h
  exact ⟨congrArg (fun x : Dev => ({ x with sensors := [] } : Dev)) h1, h2⟩

theorem frame_sense : FrameR Dev.SenseRaises where
  refl _ := ⟨rfl, fun _ h => h⟩
  trans h g := ⟨g.1.trans h.1, fun x hx => g.2 x (h.2 x hx)⟩
  shows h := (Dev.ShowsOnly.raises h).sense
  raises h := h.sense

theorem Dev.SenseRaises.raises {d e : Dev} (h : d.SenseRaises e) : ({ d with sensors := e.sensors } : Dev).RaisesOnly e :=
  Dev.raisesOnly_iff.mpr ⟨(congrArg (fun x : Dev => ({ x with sensors := e.sensors } : Dev)) h.1 :), h.2⟩

theorem Dev.senses_updSensor (d : Dev) (n : Nat) (f : Sensor → Sensor) : d.SenseRaises (d.updSensor n f) := ⟨rfl, fun _ h => h⟩

@[simp] theorem Dev.o_updSensor (d : Dev) (n : Nat) (f : Sensor → Sensor) (k : Nat) : (d.updSensor n f).o k = d.o k := rfl

@[simp] theorem Dev.sensorOf_updSensor_same (d : Dev) (n : Nat) (f : Sensor → Sensor) : (d.updSensor n f).sensorOf n = f (d.sensorOf n) := Tab.get_upd_same ..

theorem Dev.sensorOf_updSensor_other (d : Dev) {n m : Nat} (f : Sensor → Sensor) (h : m ≠ n) : (d.updSensor n f).sensorOf m = d.sensorOf m := Tab.get_upd_other _ _ _ h

/-! ### One reading -/

/-- Sensor `n` reads this state and temperature. -/
def Dev.Reads (d : Dev) (n : Nat) (state : Nat) (t : Int) : Prop := d.o (el Obj.SENSOR_STATE n) = state ∧ d.o (el Obj.TEMP n) = t

/-- `e` is `d` after a reading of sensor `n`, whose reaction writes objects of `r` only. -/
structure Dev.SensorStep (r : Nat → Bool) (n : Nat) (d e : Dev) : Prop where
  frame : d.SenseRaises e
  objs : OnlyObjects (fun k => sensorKey n k || r k) d e
  heat : ∀ m, (e.sensorOf m).hot = (d.sensorOf m).hot ∧ (e.sensorOf m).trip = (d.sensorOf m).trip

theorem Dev.heat_of_sensors {d e : Dev} (h : e.sensors = d.sensors) (m : Nat) : (e.sensorOf m).hot = (d.sensorOf m).hot ∧ (e.sensorOf m).trip = (d.sensorOf m).trip := by
  simp only [Dev.sensorOf, h, and_self]

theorem sensorShow_step (r : Nat → Bool) (d : Dev) {n st : Nat} (t : Int) (hn : 1 ≤ n ∧ n ≤ 255) (hr : st ≠ 1 ∨ r = fun k => isReport k) :
    d.SensorStep r n (d.sensorShow n st t) ∧ (d.sensorShow n st t).Reads n st (if st = 0 then t else -32768) := by
  generalize hx : (d.setO (el Obj.SENSOR_STATE n) (st : Int)).setO (el Obj.TEMP n) (if st = 0 then t else -32768) = x
  have hshow : d.sensorShow n st t = x.when (st == 1 && d.n (el Obj.SENSOR_STATE n) != 1) (fun d => d.raiseOn 0xD100 .sys false (thmSrc n)) := by rw [← hx]; rfl
  have hreads : x.Reads n st (if st = 0 then t else -32768) := by
    have hne : el Obj.SENSOR_STATE n ≠ el Obj.TEMP n := by simp only [el, Obj.TEMP, Obj.SENSOR_STATE]; omega
    rw [← hx]
    exact ⟨by rw [Dev.o_setO_other _ _ hne, Dev.o_setO_same], Dev.o_setO_same _ _ _⟩
  have hshows : d.ShowsOnly x := hx ▸ frame_shows.setO (frame_shows.setO (frame_shows.refl d) _ _) _ _
  have hobj : OnlyObjects (fun k => sensorKey n k || r k) d x := by
    rw [← hx]
    exact ((OnlyObjects.refl d).setO _ _ (by simp [sensorKey])).setO _ _ (by simp [sensorKey])
  rw [hshow]
  rcases hr with hst | rfl
  · rw [show (st == 1 && d.n (el Obj.SENSOR_STATE n) != 1) = false by simp [hst]]
    exact ⟨⟨(Dev.ShowsOnly.raises hshows).sense, hobj, Dev.heat_of_sensors hshows.sensors⟩, hreads⟩
  · have hraise : OnlyObjects (fun k => isReport k) x (x.when (st == 1 && d.n (el Obj.SENSOR_STATE n) != 1) (fun d => d.raiseOn 0xD100 .sys false (thmSrc n))) :=
      OnlyObjects.when (OnlyObjects.refl x) _ fun _ d => onlyObjects_notice d _ _ _ _ (by decide)
    have hframe : x.RaisesOnly (x.when (st == 1 && d.n (el Obj.SENSOR_STATE n) != 1) (fun d => d.raiseOn 0xD100 .sys false (thmSrc n))) :=
      frame_raises.when (frame_raises.refl x) _ fun d => frame_raises.raiseOn (frame_raises.refl d) _ _ _ _
    generalize x.when (st == 1 && d.n (el Obj.SENSOR_STATE n) != 1) (fun d => d.raiseOn 0xD100 .sys false (thmSrc n)) = y at *
    obtain ⟨hs, ht⟩ := el_sensor hn
    have hsens : y.sensors = d.sensors := by
      obtain ⟨c, hc⟩ := hframe
      exact hc.sensors.trans hshows.sensors
    refine ⟨⟨((Dev.ShowsOnly.raises hshows).trans hframe).sense, hobj.trans (hraise.mono fun k h => by simp [h]), Dev.heat_of_sensors hsens⟩, ?_, ?_⟩
    · exact (hraise.same _ (isReport_sensor hs) (isStatus_sensor hs)).trans hreads.1
    · exact (hraise.same _ (isReport_sensor ht) (isStatus_sensor ht)).trans hreads.2

/-- A reading of a driver or HN die. -/
theorem linkSensor_step (r : Nat → Bool) (d : Dev) {n : Nat} {lost : Bool} (t : Int) (hn : 1 ≤ n ∧ n ≤ 255) (hr : lost = false ∨ r = fun k => isReport k) :
    d.SensorStep r n (d.linkSensor n lost t) ∧ (d.linkSensor n lost t).Reads n (if lost = true then 1 else 0) (if lost = true then -32768 else t) := by
  unfold Dev.linkSensor
  cases lost
  · exact sensorShow_step r d t hn (.inl (by decide))
  · exact sensorShow_step r d t hn (hr.imp_left fun h => absurd h (by decide))

theorem Dev.SensorStep.afterUpd {r : Nat → Bool} {n : Nat} {d e : Dev} {f : Sensor → Sensor} (h : (d.updSensor n f).SensorStep r n e) (hf : ∀ x, (f x).hot = x.hot ∧ (f x).trip = x.trip) : d.SensorStep r n e :=
  ⟨frame_sense.trans (d.senses_updSensor n f) h.frame, (show OnlyObjects (fun k => sensorKey n k || r k) d (d.updSensor n f) from OnlyObjects.of_obj (OnlyObjects.refl d) rfl).trans h.objs,
    fun m => by
      have hupd : ((d.updSensor n f).sensorOf m).hot = (d.sensorOf m).hot ∧ ((d.updSensor n f).sensorOf m).trip = (d.sensorOf m).trip := by
        by_cases hm : m = n
        · rw [hm, Dev.sensorOf_updSensor_same]
          exact hf _
        · rw [Dev.sensorOf_updSensor_other _ _ hm]
          exact ⟨rfl, rfl⟩
      exact ⟨(h.heat m).1.trans hupd.1, (h.heat m).2.trans hupd.2⟩⟩

/-- A reading of an NTC within its range, of an input not excluded. -/
theorem ntcSensor_step (r : Nat → Bool) (d : Dev) {n : Nat} {t : Int} (hn : 1 ≤ n ∧ n ≤ 255) (hin : -500 ≤ t ∧ t ≤ 2000) (hstate : d.o (el Obj.SENSOR_STATE n) = 0) :
    d.SensorStep r n (d.ntcSensor n t) ∧ (d.ntcSensor n t).Reads n 0 t := by
  have heq : d.ntcSensor n t = (d.updSensor n (fun x => { x with run := 0 })).sensorShow n 0 t := by
    unfold Dev.ntcSensor
    simp [hin, hstate]
  rw [heq]
  obtain ⟨hstep, hreads⟩ := sensorShow_step r (d.updSensor n (fun x => { x with run := 0 })) (st := 0) t hn (.inl (by decide))
  exact ⟨hstep.afterUpd fun _ => ⟨rfl, rfl⟩, hreads⟩

/-- A reading of a main-die sensor that agrees with the median. -/
theorem dieSensor_step (r : Nat → Bool) (d : Dev) {n : Nat} (t : Int) (hn : 1 ≤ n ∧ n ≤ 255) (hstate : d.o (el Obj.SENSOR_STATE n) = 0) :
    d.SensorStep r n (d.dieSensor (2 * t) n t) ∧ (d.dieSensor (2 * t) n t).Reads n 0 t := by
  have heq : d.dieSensor (2 * t) n t = (d.updSensor n (fun x => { x with run := 0, good := none })).sensorShow n 0 t := by
    unfold Dev.dieSensor
    simp [hstate]
  rw [heq]
  obtain ⟨hstep, hreads⟩ := sensorShow_step r (d.updSensor n (fun x => { x with run := 0, good := none })) (st := 0) t hn (.inl (by decide))
  exact ⟨hstep.afterUpd fun _ => ⟨rfl, rfl⟩, hreads⟩

/-! ### A row of sensors -/

/-- `e` is `d` after the readings of the sensors `num x` of a row `l`, whose states and temperatures are as `p` says and whose reactions write
objects of `r` only. -/
structure Dev.SensorRow (r : Nat → Bool) (num : Nat → Nat) (l : List Nat) (p : Nat → Int → Int → Prop) (d e : Dev) : Prop where
  frame : d.SenseRaises e
  objs : OnlyObjects (fun k => isSensor k || r k) d e
  reads : ∀ x ∈ l, p x (e.o (el Obj.SENSOR_STATE (num x))) (e.o (el Obj.TEMP (num x)))
  rest : ∀ m, 1 ≤ m ∧ m ≤ 255 → m ∉ l.map num → e.o (el Obj.SENSOR_STATE m) = d.o (el Obj.SENSOR_STATE m) ∧ e.o (el Obj.TEMP m) = d.o (el Obj.TEMP m)
  heat : ∀ m, (e.sensorOf m).hot = (d.sensorOf m).hot ∧ (e.sensorOf m).trip = (d.sensorOf m).trip

theorem Dev.SensorStep.rest {r : Nat → Bool} {n m : Nat} {d e : Dev} (h : d.SensorStep r n e) (hr : ∀ k, isSensor k = true → r k = false) (hn : 1 ≤ n ∧ n ≤ 255) (hm : 1 ≤ m ∧ m ≤ 255) (hne : m ≠ n) :
    e.o (el Obj.SENSOR_STATE m) = d.o (el Obj.SENSOR_STATE m) ∧ e.o (el Obj.TEMP m) = d.o (el Obj.TEMP m) := by
  obtain ⟨hs, ht⟩ := el_sensor hm
  obtain ⟨hks, hkt⟩ := sensorKey_other hn hm hne
  exact ⟨h.objs.same _ (by simp [hks, hr _ hs]) (isStatus_sensor hs), h.objs.same _ (by simp [hkt, hr _ ht]) (isStatus_sensor ht)⟩

theorem foldl_sensorRow {r : Nat → Bool} (hr : ∀ k, isSensor k = true → r k = false) {f : Dev → Nat → Dev} {num : Nat → Nat} {p : Nat → Int → Int → Prop} (d0 : Dev) :
    ∀ {l : List Nat}, (l.map num).Nodup → (∀ x ∈ l, 1 ≤ num x ∧ num x ≤ 255) →
    (∀ d, ∀ x ∈ l, OnlyObjects (fun k => isSensor k || r k) d0 d → d0.SenseRaises d → d.o (el Obj.SENSOR_STATE (num x)) = d0.o (el Obj.SENSOR_STATE (num x)) →
      d.SensorStep r (num x) (f d x) ∧ p x ((f d x).o (el Obj.SENSOR_STATE (num x))) ((f d x).o (el Obj.TEMP (num x)))) →
    ∀ d, OnlyObjects (fun k => isSensor k || r k) d0 d → d0.SenseRaises d → (∀ x ∈ l, d.o (el Obj.SENSOR_STATE (num x)) = d0.o (el Obj.SENSOR_STATE (num x))) →
      d.SensorRow r num l p (l.foldl f d)
  | [], _, _, _, d, _, _, _ => ⟨frame_sense.refl d, OnlyObjects.refl d, fun x hx => absurd hx List.not_mem_nil, fun _ _ _ => ⟨rfl, rfl⟩, fun _ => ⟨rfl, rfl⟩⟩
  | x :: xs, hnodup, hbound, hstep, d, hobj, hframe, hsame => by
    obtain ⟨hnew, hnodup'⟩ := List.nodup_cons.mp hnodup
    have hx := hbound x List.mem_cons_self
    have hother (y : Nat) (hy : y ∈ xs) : num y ≠ num x := fun h => hnew (h ▸ List.mem_map_of_mem hy)
    obtain ⟨hone, hread⟩ := hstep d x List.mem_cons_self hobj hframe (hsame x List.mem_cons_self)
    have hone' : OnlyObjects (fun k => isSensor k || r k) d (f d x) := hone.objs.mono fun k h => by
      rw [Bool.or_eq_true] at h ⊢
      exact h.imp_left (isSensor_of_sensorKey hx)
    have hrow := foldl_sensorRow hr d0 hnodup' (fun y hy => hbound y (List.mem_cons_of_mem _ hy)) (fun d y hy => hstep d y (List.mem_cons_of_mem _ hy)) (f d x) (hobj.trans hone') (frame_sense.trans hframe hone.frame)
      fun y hy => (hone.rest hr hx (hbound y (List.mem_cons_of_mem _ hy)) (hother y hy)).1.trans (hsame y (List.mem_cons_of_mem _ hy))
    rw [List.foldl_cons]
    generalize xs.foldl f (f d x) = e at *
    refine ⟨frame_sense.trans hone.frame hrow.frame, hone'.trans hrow.objs, fun y hy => ?_, fun m hm hout => ?_, fun m => ⟨(hrow.heat m).1.trans (hone.heat m).1, (hrow.heat m).2.trans (hone.heat m).2⟩⟩
    · rcases List.mem_cons.mp hy with rfl | hy
      · obtain ⟨hs, ht⟩ := hrow.rest (num y) hx hnew
        rw [hs, ht]
        exact hread
      · exact hrow.reads y hy
    · obtain ⟨hne, hout'⟩ := not_or.mp (mt List.mem_cons.mpr hout)
      obtain ⟨h1, h2⟩ := hrow.rest m hm hout'
      obtain ⟨g1, g2⟩ := hone.rest hr hx hm hne
      exact ⟨h1.trans g1, h2.trans g2⟩

end Sys2Proof.Machine
end

section
/-! Layer: the rows of a die sample and the reactions of sensors that stay cool (R535, R537, R544, R546). -/

namespace Sys2Proof.Machine

/-! ### Frames -/

/-- What a die sample changes beside objects: what raising a fault changes, the sensors, the die and the hours. -/
def Dev.ThermRaises (d e : Dev) : Prop :=
  ({ e.unraised with sensors := [], die := {}, power := {} } : Dev) = { d.unraised with sensors := [], die := {}, power := {} } ∧ ∀ x ∈ d.evq, x ∈ e.evq

theorem Dev.RaisesOnly.therm {d e : Dev} (h : d.RaisesOnly e) : d.ThermRaises e := by
  obtain ⟨h1, h2⟩ := Dev.raisesOnly_iff.mp h
  exact ⟨congrArg (fun x : Dev => ({ x with sensors := [], die := {}, power := {} } : Dev)) h1, h2⟩

theorem frame_therm : FrameR Dev.ThermRaises where
  refl _ := ⟨rfl, fun _ h => h⟩
  trans h g := ⟨g.1.trans h.1, fun x hx => g.2 x (h.2 x hx)⟩
  shows h := (Dev.ShowsOnly.raises h).therm
  raises h := h.therm

theorem Dev.SenseRaises.therm {d e : Dev} (h : d.SenseRaises e) : d.ThermRaises e :=
  ⟨(congrArg (fun x : Dev => ({ x with die := {}, power := {} } : Dev)) h.1 :), h.2⟩

theorem Dev.ThermRaises.raises {d e : Dev} (h : d.ThermRaises e) : ({ d with sensors := e.sensors, die := e.die, power := e.power } : Dev).RaisesOnly e :=
  Dev.raisesOnly_iff.mpr ⟨(congrArg (fun x : Dev => ({ x with sensors := e.sensors, die := e.die, power := e.power } : Dev)) h.1 :), h.2⟩

theorem Dev.ThermRaises.gates {d e : Dev} (h : d.ThermRaises e) : e.gates = d.gates := (congrArg Dev.gates h.1 :)

theorem Dev.ThermRaises.servesDomain {d e : Dev} (h : d.ThermRaises e) (n : Nat) : e.servesDomain n = d.servesDomain n := by
  simp only [Dev.servesDomain, Dev.groupOf, Dev.assignment, h.gates]

/-! ### The hours -/

/-- The objects that the hours write in band 1. -/
def isHours (k : Nat) : Bool := k == Obj.OP_HOURS || k == Obj.BAND_HOURS + 1

theorem hours_facts (d : Dev) (hband : d.o Obj.BAND = 1) : d.ThermRaises d.hours ∧ OnlyObjects isHours d d.hours ∧ d.hours.sensors = d.sensors ∧ d.hours.coll = d.coll ∧ d.hours.die = d.die := by
  have hn : d.n Obj.BAND = 1 := Dev.n_of_o hband
  unfold Dev.hours
  rw [hn]
  refine ⟨⟨rfl, fun _ h => h⟩, ?_, rfl, rfl, rfl⟩
  refine OnlyObjects.addSat (OnlyObjects.addSat ?_ _ _ (by decide)) _ _ (by decide)
  exact OnlyObjects.of_obj (OnlyObjects.refl d) rfl

/-! ### The rows of a die sample -/

/-- The die sample up to its reactions. -/
def Dev.dieRow (d : Dev) (med : Int) (die : Vector Int 16) : Dev :=
  ((List.range 16).map (· + 1)).foldl (fun d n => d.dieSensor med n (die.toList.getD (n - 1) 0)) d

def Dev.driverRow (d : Dev) (drv : Vector Int 40) : Dev :=
  allChannels.foldl (fun d n => d.linkSensor (16 + n) (bitOf (d.o (el Obj.STATUS_6020 n)) 4) (drv.toList.getD (n - 1) 0)) d

def Dev.tsRow (d : Dev) : Dev :=
  allChannels.foldl (fun d n =>
    if d.groupOf n = 0 ∨ d.o (at' Obj.TS_TYPE (d.groupOf n - 1)) = 0 then d.sensorShow (74 + n) 2 0
    else d.ntcSensor (74 + n) (d.o (el Obj.TS_TEMP n))) d

/-- Twice the median that a die sample goes by. -/
def Dev.dieMed (d : Dev) (die : Vector Int 16) : Int := if d.dieIn.isEmpty then 1000000 else median2 (d.dieIn.map (fun n => die.toList.getD (n - 1) 0))

theorem dieSample_eq (d : Dev) (die : Vector Int 16) (drv : Vector Int 40) : d.dieSample die drv =
    (allChannels.foldl (fun d n => d.driverHot (16 + n)) (((d.hours.dieRow (d.dieMed die) die).driverRow drv).tsRow)).driversCool.bandEval.shutEval.cycles.showMaxima := rfl

theorem dieMed_same {d : Dev} (t : Int) (hin : (List.range 16).all (fun n => d.o (Obj.SENSOR_STATE + n) == 0) = true) : d.dieMed (Vector.replicate 16 t) = 2 * t := by
  have hall : d.dieIn = (List.range 16).map (· + 1) := by
    unfold Dev.dieIn
    refine List.filter_eq_self.mpr fun n hn => ?_
    obtain ⟨m, hm, rfl⟩ := List.mem_map.mp hn
    exact List.all_eq_true.mp hin m hm
  unfold Dev.dieMed
  rw [hall]
  simp [List.range, List.range.loop, median2, nth, sortBy, insertBy]
  omega

section
variable {r : Nat → Bool} (hr : ∀ k, isSensor k = true → r k = false)
include hr

theorem dieRow_row (d : Dev) (t : Int) (hin : ∀ n ∈ List.range 16, d.o (Obj.SENSOR_STATE + n) = 0) :
    d.SensorRow r (fun n => n) ((List.range 16).map (· + 1)) (fun _ st x => st = 0 ∧ x = t) (d.dieRow (2 * t) (Vector.replicate 16 t)) := by
  have hstart (n : Nat) (hn : n ∈ (List.range 16).map (· + 1)) : d.o (el Obj.SENSOR_STATE n) = 0 := by
    obtain ⟨m, hm, rfl⟩ := List.mem_map.mp hn
    exact hin m hm
  refine foldl_sensorRow hr d (by decide) (by decide) (fun x n hn _ _ hsame => ?_) d (OnlyObjects.refl d) (frame_sense.refl d) fun _ _ => rfl
  have hread : (Vector.replicate 16 t).toList.getD (n - 1) 0 = t := by
    obtain ⟨m, hm, rfl⟩ := List.mem_map.mp hn
    have hlt := List.mem_range.mp hm
    rw [Vector.toList_replicate, List.getD, List.getElem?_replicate, if_pos (by simpa using hlt), Option.getD_some]
  rw [hread]
  exact dieSensor_step r x t ((by decide : ∀ n ∈ (List.range 16).map (· + 1), 1 ≤ n ∧ n ≤ 255) n hn) (hsame.trans (hstart n hn))

/-- A row of drivers of which sensor `16 + n` is linked where STATUS says so. -/
theorem driverRow_row (d : Dev) (drv : Vector Int 40) (hlost : (∀ n ∈ List.range 40, bitOf (d.o (Obj.STATUS_6020 + n)) 4 = false) ∨ r = fun k => isReport k)
    (hkey : ∀ n ∈ List.range 40, r (Obj.STATUS_6020 + n) = false) :
    d.SensorRow r (16 + ·) allChannels (fun n st x => bitOf (d.o (el Obj.STATUS_6020 n)) 4 = false → st = 0 ∧ x = drv.toList.getD (n - 1) 0) (d.driverRow drv) := by
  refine foldl_sensorRow hr d (by decide) (by decide) (fun x n hn hobj _ _ => ?_) d (OnlyObjects.refl d) (frame_sense.refl d) fun _ _ => rfl
  obtain ⟨m, hm, rfl⟩ := List.mem_map.mp hn
  have hsens : isSensor (Obj.STATUS_6020 + m) = false ∧ isStatus (Obj.STATUS_6020 + m) = false := (by decide : ∀ m ∈ List.range 40, isSensor (Obj.STATUS_6020 + m) = false ∧ isStatus (Obj.STATUS_6020 + m) = false) m hm
  have hbit : x.o (el Obj.STATUS_6020 (m + 1)) = d.o (el Obj.STATUS_6020 (m + 1)) := hobj.same (Obj.STATUS_6020 + m) (by simp [hsens.1, hkey m hm]) hsens.2
  rw [hbit]
  have hlt := List.mem_range.mp hm
  obtain ⟨hstep, hst, ht⟩ := linkSensor_step r x (n := 16 + (m + 1)) (lost := bitOf (d.o (el Obj.STATUS_6020 (m + 1))) 4) (drv.toList.getD (m + 1 - 1) 0) (by omega) (hlost.imp_left fun h => h m hm)
  refine ⟨hstep, fun hbit0 => ?_⟩
  rw [hst, ht, hbit0]
  exact ⟨rfl, rfl⟩

end

/-- No TS input: its sensor is not fitted. -/
theorem tsRow_row (d : Dev) (hts : noTs d = true) : d.SensorRow (fun _ => false) (74 + ·) allChannels (fun _ _ _ => True) d.tsRow := by
  refine foldl_sensorRow (fun _ _ => rfl) d (by decide) (by decide) (fun x n hn hobj hframe _ => ?_) d (OnlyObjects.refl d) (frame_sense.refl d) fun _ _ => rfl
  obtain ⟨m, hm, rfl⟩ := List.mem_map.mp hn
  have hlt := List.mem_range.mp hm
  have hgroup : x.groupOf (m + 1) = d.groupOf (m + 1) := by simp only [Dev.groupOf, Dev.assignment, hframe.therm.gates]
  have htype : x.o (at' Obj.TS_TYPE (d.groupOf (m + 1) - 1)) = d.o (at' Obj.TS_TYPE (d.groupOf (m + 1) - 1)) := by
    refine hobj.same _ ?_ (isStatus_false ?_)
    · simp only [isSensor, keyIdx, at', Bool.or_false, Bool.or_eq_false_iff, beq_eq_false_iff_ne, Obj.TS_TYPE, Obj.TEMP, Obj.SENSOR_STATE]
      omega
    · simp only [at', Obj.TS_TYPE]
      simp
      omega
  have hnone : x.groupOf (m + 1) = 0 ∨ x.o (at' Obj.TS_TYPE (x.groupOf (m + 1) - 1)) = 0 := by
    rw [hgroup, htype]
    simpa using List.all_eq_true.mp hts m hm
  rw [if_pos hnone]
  exact ⟨(sensorShow_step (fun _ => false) x (n := 74 + (m + 1)) (st := 2) 0 (by omega) (.inl (by decide))).1, trivial⟩

/-- Any TS input. -/
theorem tsRow_any (d : Dev) : d.SensorRow (fun k => isReport k) (74 + ·) allChannels (fun _ _ _ => True) d.tsRow := by
  refine foldl_sensorRow (fun _ h => isReport_sensor h) d (by decide) (by decide) (fun x n hn hobj hframe _ => ⟨?_, trivial⟩) d (OnlyObjects.refl d) (frame_sense.refl d) fun _ _ => rfl
  obtain ⟨m, hm, rfl⟩ := List.mem_map.mp hn
  have hlt := List.mem_range.mp hm
  split
  · exact (sensorShow_step _ x _ (by omega) (.inr rfl)).1
  · exact ((sensorShow_step _ _ _ (by omega) (.inr rfl)).1).afterUpd fun _ => ⟨rfl, rfl⟩

end Sys2Proof.Machine
end

section
/-! Layer: cool drivers, the maxima, the band and the shutdown of a die sample (R538, R539, R541, R544, R546). -/

namespace Sys2Proof.Machine

/-! ### The sampled rows together -/

/-- The die sample after its rows. -/
def Dev.sampled (d : Dev) (t : Int) (drv : Vector Int 40) : Dev := ((d.hours.dieRow (2 * t) (Vector.replicate 16 t)).driverRow drv).tsRow

/-- What the rows of a die sample leave: every main die reads `t`, every linked driver its own reading. -/
structure Dev.SampledAs (r : Nat → Bool) (t : Int) (drv : Vector Int 40) (d e : Dev) : Prop where
  frame : d.SenseRaises e
  objs : OnlyObjects (fun k => isSensor k || r k) d e
  die : ∀ n ∈ (List.range 16).map (· + 1), e.Reads n 0 t
  driver : ∀ n ∈ List.range 40, bitOf (d.o (Obj.STATUS_6020 + n)) 4 = false → e.Reads (17 + n) 0 (drv.toList.getD n 0)
  heat : ∀ m, (e.sensorOf m).hot = (d.sensorOf m).hot

theorem sampledAs_of_rows {r : Nat → Bool} (hkey : ∀ n ∈ List.range 40, r (Obj.STATUS_6020 + n) = false) {t : Int} {drv : Vector Int 40} {a b c e : Dev}
    (h1 : a.SensorRow r (fun n => n) ((List.range 16).map (· + 1)) (fun _ st x => st = 0 ∧ x = t) b)
    (h2 : b.SensorRow r (16 + ·) allChannels (fun n st x => bitOf (b.o (el Obj.STATUS_6020 n)) 4 = false → st = 0 ∧ x = drv.toList.getD (n - 1) 0) c)
    (h3 : c.SensorRow r (74 + ·) allChannels (fun _ _ _ => True) e) : a.SampledAs r t drv e := by
  refine ⟨frame_sense.trans (frame_sense.trans h1.frame h2.frame) h3.frame, (h1.objs.trans h2.objs).trans h3.objs, fun n hn => ?_, fun n hn hbit => ?_, fun m => ((h3.heat m).1.trans (h2.heat m).1).trans (h1.heat m).1⟩
  · obtain ⟨hb, hd, ht⟩ := (by decide : ∀ n ∈ (List.range 16).map (· + 1), (1 ≤ n ∧ n ≤ 255) ∧ n ∉ allChannels.map (16 + ·) ∧ n ∉ allChannels.map (74 + ·)) n hn
    obtain ⟨hs2, ht2⟩ := h2.rest n hb hd
    obtain ⟨hs3, ht3⟩ := h3.rest n hb ht
    obtain ⟨hs, hx⟩ := h1.reads n hn
    exact ⟨hs3.trans (hs2.trans hs), ht3.trans (ht2.trans hx)⟩
  · obtain ⟨hb, hin, ht, hsens, hstat⟩ := (by decide : ∀ n ∈ List.range 40, (1 ≤ 17 + n ∧ 17 + n ≤ 255) ∧ n + 1 ∈ allChannels ∧ 17 + n ∉ allChannels.map (74 + ·) ∧
      isSensor (Obj.STATUS_6020 + n) = false ∧ isStatus (Obj.STATUS_6020 + n) = false) n hn
    have hbit' : bitOf (b.o (el Obj.STATUS_6020 (n + 1))) 4 = false := by
      rw [show el Obj.STATUS_6020 (n + 1) = Obj.STATUS_6020 + n from rfl, h1.objs.same _ (by simp [hsens, hkey n hn]) hstat]
      exact hbit
    obtain ⟨hs, hx⟩ := h2.reads (n + 1) hin hbit'
    obtain ⟨hs3, ht3⟩ := h3.rest (17 + n) hb ht
    rw [show 16 + (n + 1) = 17 + n by omega] at hs hx
    exact ⟨hs3.trans hs, ht3.trans hx⟩

/-! ### Cool sensors (R544) -/

/-- `e` is `d` but for the hidden state of the sensors. -/
def Dev.SensorsOnly (d e : Dev) : Prop := e = { d with sensors := e.sensors }

theorem Dev.SensorsOnly.trans {a b c : Dev} (h : a.SensorsOnly b) (g : b.SensorsOnly c) : a.SensorsOnly c := by
  have hb : b = { a with sensors := b.sensors } := h
  have hc : c = { b with sensors := c.sensors } := g
  rw [hb] at hc
  exact hc

theorem Dev.SensorsOnly.o {d e : Dev} (h : d.SensorsOnly e) (k : Nat) : e.o k = d.o k := by rw [h]; rfl

theorem Dev.SensorsOnly.sense {d e : Dev} (h : d.SensorsOnly e) : d.SenseRaises e := by
  rw [h]
  exact ⟨rfl, fun _ h => h⟩

theorem Dev.SensorsOnly.objs {d e : Dev} (h : d.SensorsOnly e) (ks : Nat → Bool) : OnlyObjects ks d e := ⟨fun k _ _ => h.o k⟩

/-- Sensors that change nothing but their own hidden state, in turn. -/
theorem foldl_sensorsOnly {f : Dev → Nat → Dev} {num : Nat → Nat} (d0 : Dev) : ∀ {l : List Nat}, (∀ d, d0.SensorsOnly d → ∀ x ∈ l, ∃ g, f d x = d.updSensor (num x) g) → ∀ d, d0.SensorsOnly d →
    d.SensorsOnly (l.foldl f d) ∧ ∀ m, m ∉ l.map num → (l.foldl f d).sensorOf m = d.sensorOf m
  | [], _, _, _ => ⟨rfl, fun _ _ => rfl⟩
  | x :: xs, hstep, d, hd => by
    obtain ⟨g, hg⟩ := hstep d hd x List.mem_cons_self
    have hone : d.SensorsOnly (f d x) := by
      rw [hg]
      rfl
    obtain ⟨h1, h2⟩ := foldl_sensorsOnly d0 (fun d hd y hy => hstep d hd y (List.mem_cons_of_mem _ hy)) (f d x) (hd.trans hone)
    refine ⟨hone.trans h1, fun m hm => ?_⟩
    obtain ⟨hne, hout⟩ := not_or.mp (mt List.mem_cons.mpr hm)
    rw [List.foldl_cons, h2 m hout, hg, Dev.sensorOf_updSensor_other _ _ hne]

theorem Dev.Reads.valid {d : Dev} {n : Nat} {t : Int} (h : d.Reads n 0 t) (ht : t ≠ -32768) : d.sensorValid n = true := by
  obtain ⟨hs, hx⟩ := h
  simp [Dev.sensorValid, hs, hx, ht]

theorem hotSensor_cool {d : Dev} {n : Nat} {hi lo t : Int} (h : d.Reads n 0 t) (ht : t ≠ -32768) (hcool : t < lo) (hlo : lo ≤ hi) : ∃ g, d.hotSensor n hi lo = (d.updSensor n g, false) := by
  unfold Dev.hotSensor
  simp only [h.valid ht, h.2]
  have h1 : decide (hi ≤ t) = false := by simp; omega
  have h2 : decide (lo ≤ t) = false := by simp; omega
  simp only [h1, h2, Bool.and_false, Bool.or_self, Bool.not_true, Bool.false_eq_true, if_false, Bool.false_and]
  exact ⟨_, rfl⟩

/-- A driver or HN die below 130.0 °C stops nothing. -/
theorem driverHot_cool {d : Dev} {n : Nat} {t : Int} (h : d.Reads n 0 t) (ht : t ≠ -32768) (hcool : t < 1300) : ∃ g, d.driverHot n = d.updSensor n g := by
  unfold Dev.driverHot
  split
  · exact ⟨_, rfl⟩
  · obtain ⟨g, hg⟩ := hotSensor_cool h ht hcool (hi := 1400) (by decide)
    rw [hg]
    exact ⟨g, rfl⟩

theorem Dev.ends_causeGoneOn (d : Dev) (code : Nat) (dom : Domain) : d.EndsOnly (d.causeGoneOn code dom) := ⟨_, rfl⟩

theorem ends_foldl {α : Type} {f : Dev → α → Dev} (h : ∀ (d : Dev) (x : α), d.EndsOnly (f d x)) : ∀ (l : List α) (d : Dev), d.EndsOnly (l.foldl f d)
  | [], d => .refl d
  | x :: xs, d => (h d x).trans (ends_foldl h xs (f d x))

theorem Dev.ends_driversCool (d : Dev) : d.EndsOnly d.driversCool := by
  refine ends_foldl (fun d dom => ?_) _ d
  split
  · exact .refl d
  · exact d.ends_causeGoneOn _ _

theorem Dev.EndsOnly.o {d e : Dev} (h : d.EndsOnly e) (k : Nat) : e.o k = d.o k := by
  obtain ⟨a, rfl⟩ := h
  rfl

theorem Dev.EndsOnly.raises {d e : Dev} (h : d.EndsOnly e) : d.RaisesOnly e := by
  obtain ⟨a, rfl⟩ := h
  exact Dev.raisesOnly_iff.mpr ⟨rfl, fun _ h => h⟩

theorem Dev.EndsOnly.objs {d e : Dev} (h : d.EndsOnly e) (ks : Nat → Bool) : OnlyObjects ks d e := ⟨fun k _ _ => h.o k⟩

/-! ### The die maximum (R536, R538) -/

/-- Every main die reads `t`. -/
def Dev.DieAt (d : Dev) (t : Int) : Prop := ∀ n ∈ (List.range 16).map (· + 1), d.Reads n 0 t

theorem Dev.DieAt.of_o {d e : Dev} {t : Int} (h : d.DieAt t) (ho : ∀ k, isSensor k = true → e.o k = d.o k) : e.DieAt t := fun n hn => by
  obtain ⟨hs, ht⟩ := el_sensor ((by decide : ∀ n ∈ (List.range 16).map (· + 1), 1 ≤ n ∧ n ≤ 255) n hn)
  exact ⟨(ho _ hs).trans (h n hn).1, (ho _ ht).trans (h n hn).2⟩

theorem maxTemp_same {d : Dev} {l : List Nat} {t : Int} (hne : l ≠ []) (h : ∀ n ∈ l, d.Reads n 0 t) (ht : -32768 < t) : d.maxTemp l = t := by
  unfold Dev.maxTemp
  rw [List.filter_eq_self.mpr fun n hn => (h n hn).valid (by omega)]
  have hmax : ∀ (l : List Nat) (m : Int), (∀ n ∈ l, d.Reads n 0 t) → m ≤ t → l ≠ [] → l.foldl (fun m n => max m (d.o (el Obj.TEMP n))) m = t := by
    intro l
    induction l with
    | nil => exact fun _ _ _ h => absurd rfl h
    | cons x xs ih =>
      intro m hx hm _
      have hstep : max m (d.o (el Obj.TEMP x)) = t := by
        rw [(hx x List.mem_cons_self).2]
        exact max_eq_right hm
      rw [List.foldl_cons, hstep]
      cases xs with
      | nil => rfl
      | cons y ys => exact ih t (fun n hn => hx n (List.mem_cons_of_mem _ hn)) le_rfl (List.cons_ne_nil _ _)
  exact hmax l _ h ht.le hne

theorem Dev.DieAt.valid {d : Dev} {t : Int} (h : d.DieAt t) (ht : -32768 < t) : d.dieValid = 16 := by
  unfold Dev.dieValid
  rw [List.filter_eq_self.mpr fun n hn => (h n hn).valid (by omega)]
  rfl

theorem Dev.DieAt.max {d : Dev} {t : Int} (h : d.DieAt t) (ht : -32768 < t) : d.dieMax = some t := by
  unfold Dev.dieMax
  rw [h.valid ht, if_neg (by decide), maxTemp_same (by decide) h ht]

/-- The objects of the maxima. -/
def isMaximum (k : Nat) : Bool := keyIdx k == keyIdx Obj.DOMAIN_MAX || k == Obj.DEVICE_MAX

theorem showMaxima_facts (d : Dev) : d.ShowsOnly d.showMaxima ∧ OnlyObjects isMaximum d d.showMaxima := by
  unfold Dev.showMaxima
  refine ⟨frame_shows.setO (frame_shows.foldl (frame_shows.refl d) _ fun d _ => frame_shows.setO (frame_shows.refl d) _ _) _ _, ?_⟩
  refine OnlyObjects.setO (OnlyObjects.foldl (OnlyObjects.refl d) _ fun d dom _ => OnlyObjects.setO (OnlyObjects.refl d) _ _ ?_) _ _ (by decide)
  cases dom <;> decide

theorem showMaxima_bom {d : Dev} {t : Int} (h : d.DieAt t) (ht : -32768 < t) : d.showMaxima.o (el Obj.DOMAIN_MAX 9) = t := by
  generalize hw : [Domain.sys, .tra, .trb, .grd, .dca, .dcb, .lnk, .act].foldl (fun d dom => d.setO (el Obj.DOMAIN_MAX dom.num) (d.maxTemp (d.domainSensors dom))) d = w
  have hobj : OnlyObjects isMaximum d w := by
    rw [← hw]
    refine OnlyObjects.foldl (OnlyObjects.refl d) _ fun d dom _ => OnlyObjects.setO (OnlyObjects.refl d) _ _ ?_
    cases dom <;> decide
  have hdie : w.DieAt t := h.of_o fun k hk => hobj.same k (by
    have hidx := isSensor_iff.mp hk
    simp only [isMaximum, keyIdx, Obj.DOMAIN_MAX, Obj.DEVICE_MAX, Bool.or_eq_false_iff, beq_eq_false_iff_ne]
    omega) (isStatus_sensor hk)
  have heq : d.showMaxima = (w.setO (el Obj.DOMAIN_MAX 9) (w.maxTemp ((List.range 12).map (· + 1)))).setO Obj.DEVICE_MAX (d.maxTemp ((List.range 66).map (· + 1))) := by
    rw [← hw]
    rfl
  rw [heq, Dev.o_setO_other _ _ (by decide), Dev.o_setO_same]
  exact maxTemp_same (by decide) (fun n hn => hdie n ((by decide : ∀ n ∈ (List.range 12).map (· + 1), n ∈ (List.range 16).map (· + 1)) n hn)) ht

end Sys2Proof.Machine
end

section
/-! The samples of the die sensors, O53 (R535 to R539, R541, R544). -/

namespace Sys2Proof.Machine

/-! ### The band and the shutdown (R539, R541) -/

theorem bandEval_eq {d : Dev} {t : Int} (h : d.DieAt t) (ht : -32768 < t) : d.bandEval = (d.bandTo (bandFrom (d.n Obj.BAND) t)).causeGone 0xD304 := by
  unfold Dev.bandEval
  rw [h.valid ht, if_neg (by decide), h.max ht]

theorem bandFrom_middle {t : Int} (ht : -190 ≤ t ∧ t < 910) : bandFrom 1 t = 1 := by
  unfold bandFrom
  simp only []
  split_ifs <;> omega

theorem bandFrom_hot {t : Int} (ht : 1350 ≤ t) : bandFrom 1 t = 3 := by
  unfold bandFrom
  simp only []
  split_ifs <;> omega

theorem bandEval_middle {d : Dev} {t : Int} (h : d.DieAt t) (ht : -190 ≤ t ∧ t < 910) (hband : d.o Obj.BAND = 1) : d.bandEval = d.causeGone 0xD304 := by
  rw [bandEval_eq h (by omega), Dev.n_of_o (m := 1) hband, bandFrom_middle ht, Dev.bandTo, if_pos (Dev.n_of_o (m := 1) hband)]

/-- The die with its shutdown released or asserted. -/
def Dev.shutTo (d : Dev) (b : Bool) : Dev := { d with die := { d.die with shut := b } }

theorem shutEval_cool {d : Dev} {t : Int} (h : d.DieAt t) (ht : -32768 < t ∧ t < 1250) : d.shutEval = (d.shutTo false).causeGone 0xD703 := by
  have h1 : decide (1350 ≤ t) = false := by simp; omega
  have h2 : decide (t < 1250) = true := by simp; omega
  unfold Dev.shutEval
  rw [h.valid ht.1, h.max ht.1]
  simp [h1, h2, Dev.shutTo]

theorem shutEval_hot {d : Dev} {t : Int} (h : d.DieAt t) (ht : 1350 ≤ t) (hshut : d.die.shut = false) : ∃ src, d.shutEval = (d.shutTo true).raiseOn 0xD703 .sys true src := by
  have h1 : decide (1350 ≤ t) = true := by simp; omega
  unfold Dev.shutEval
  rw [h.valid (by omega), h.max (by omega)]
  simp only [h1, hshut, Bool.or_true, if_true, Bool.not_false, Bool.true_or, Dev.when]
  exact ⟨_, rfl⟩

theorem Dev.therm_shutTo (d : Dev) (b : Bool) : d.ThermRaises (d.shutTo b) := ⟨rfl, fun _ h => h⟩

/-- `e` is `d` with the turning points of its die counted (R546). -/
structure Dev.Cycled (d e : Dev) : Prop where
  frame : d.ThermRaises e
  objs : OnlyObjects (fun k => k == Obj.THERMAL_CYCLES) d e
  shut : e.die.shut = d.die.shut
  coll : e.coll = d.coll

theorem cycles_facts (d : Dev) : d.Cycled d.cycles := by
  have hturn (x : Die) (hx : x.shut = d.die.shut) : d.Cycled { d with die := x } := ⟨⟨rfl, fun _ h => h⟩, OnlyObjects.of_obj (OnlyObjects.refl d) rfl, hx, rfl⟩
  unfold Dev.cycles
  split
  · exact ⟨frame_therm.refl d, OnlyObjects.refl d, rfl, rfl⟩
  · exact hturn _ rfl
  · split
    · exact hturn _ rfl
    · obtain ⟨hframe, hobj, hshut, hcoll⟩ := hturn { d.die with turn := some d.die.peak, peak := _, up := !d.die.up } rfl
      refine ⟨frame_therm.when hframe _ fun d => frame_therm.addSat (frame_therm.refl d) _ _, OnlyObjects.when hobj _ fun _ d => (OnlyObjects.refl d).addSat _ _ (by decide), ?_, ?_⟩
      · exact Eq.trans (by unfold Dev.when; split <;> rfl) hshut
      · exact Eq.trans (by unfold Dev.when; split <;> rfl) hcoll

theorem inForce_map {d e : Dev} {g : FaultRec → FaultRec} (he : e.coll.active = d.coll.active.map g) (hg : ∀ f, (g f).code = f.code ∧ (g f).acts = f.acts) {c : Nat} {m : Domain} (h : d.inForce c m) :
    e.inForce c m := by
  obtain ⟨f, hf, rfl, rfl⟩ := h
  exact ⟨g f, he ▸ List.mem_map_of_mem hf, (hg f).1, (hg f).2⟩

theorem inForce_causeGone (d : Dev) (code : Nat) {c : Nat} {m : Domain} (h : d.inForce c m) : (d.causeGone code).inForce c m :=
  inForce_map rfl (fun f => by split <;> exact ⟨rfl, rfl⟩) h

theorem inForce_causeGoneOn (d : Dev) (code : Nat) (dom : Domain) {c : Nat} {m : Domain} (h : d.inForce c m) : (d.causeGoneOn code dom).inForce c m :=
  inForce_map rfl (fun f => by split <;> exact ⟨rfl, rfl⟩) h

theorem Dev.inForce_of_coll {d e : Dev} (he : e.coll = d.coll) {c : Nat} {m : Domain} (h : d.inForce c m) : e.inForce c m := by
  unfold Dev.inForce
  rw [he]
  exact h

/-- The evaluation of a die sample between its bands (R539, R541). -/
theorem evaluate_middle {d : Dev} {t : Int} (h : d.DieAt t) (ht : -190 ≤ t ∧ t < 910) (hband : d.o Obj.BAND = 1) :
    d.ThermRaises d.bandEval.shutEval.cycles.showMaxima ∧ OnlyObjects (fun k => isMaximum k || k == Obj.THERMAL_CYCLES) d d.bandEval.shutEval.cycles.showMaxima ∧
      d.bandEval.shutEval.cycles.showMaxima.o (el Obj.DOMAIN_MAX 9) = t ∧ d.bandEval.shutEval.cycles.showMaxima.die.shut = false ∧
      ∀ c m, d.inForce c m → d.bandEval.shutEval.cycles.showMaxima.inForce c m := by
  rw [bandEval_middle h ht hband]
  have hforce1 (c : Nat) (m : Domain) (hf : d.inForce c m) : (d.causeGone 0xD304).inForce c m := inForce_causeGone d _ hf
  have hends : d.EndsOnly (d.causeGone 0xD304) := d.ends_causeGone _
  generalize d.causeGone 0xD304 = x at *
  have hxdie : x.DieAt t := h.of_o fun k _ => hends.o k
  rw [shutEval_cool hxdie (by omega)]
  have hforce2 (c : Nat) (m : Domain) (hf : x.inForce c m) : ((x.shutTo false).causeGone 0xD703).inForce c m := inForce_causeGone _ _ hf
  have hytherm : x.ThermRaises ((x.shutTo false).causeGone 0xD703) := frame_therm.trans (x.therm_shutTo false) (Dev.ends_causeGone _ _).raises.therm
  have hyo (k : Nat) : ((x.shutTo false).causeGone 0xD703).o k = x.o k := rfl
  have hyshut : ((x.shutTo false).causeGone 0xD703).die.shut = false := rfl
  generalize (x.shutTo false).causeGone 0xD703 = y at *
  have hydie : y.DieAt t := hxdie.of_o fun k _ => hyo k
  have hcyc := cycles_facts y
  generalize y.cycles = z at *
  have hzdie : z.DieAt t := hydie.of_o fun k hk => hcyc.objs.same k (beq_eq_false_iff_ne.mpr fun h => by
    rw [h] at hk
    exact absurd hk (by decide)) (isStatus_sensor hk)
  obtain ⟨hshow, hobj⟩ := showMaxima_facts z
  refine ⟨frame_therm.trans hends.raises.therm (frame_therm.trans hytherm (frame_therm.trans hcyc.frame (frame_therm.shows hshow))), ?_, showMaxima_bom hzdie (by omega), ?_, fun c m hf => ?_⟩
  · have hyobj : OnlyObjects (fun k => isMaximum k || k == Obj.THERMAL_CYCLES) d y := ⟨fun k _ _ => (hyo k).trans (hends.o k)⟩
    exact (hyobj.trans (hcyc.objs.mono fun k h => by simp [h])).trans (hobj.mono fun k h => by simp [h])
  · rw [hshow.die, hcyc.shut, hyshut]
  · exact Dev.inForce_of_coll hshow.coll (Dev.inForce_of_coll hcyc.coll (hforce2 c m (hforce1 c m hf)))

/-! ### A sample with cool drivers -/

theorem Dev.SensorsOnly.reads {d e : Dev} (h : d.SensorsOnly e) {n st : Nat} {t : Int} (hr : d.Reads n st t) : e.Reads n st t := ⟨(h.o _).trans hr.1, (h.o _).trans hr.2⟩

/-- The reactions of the drivers. -/
def Dev.driversHot (d : Dev) : Dev := allChannels.foldl (fun d n => d.driverHot (16 + n)) d

theorem driversHot_cool {d : Dev} {u : Int} (hu : -1000 ≤ u ∧ u < 1300) (h : ∀ n ∈ List.range 40, d.Reads (17 + n) 0 u) : d.SensorsOnly d.driversHot := by
  refine (foldl_sensorsOnly (num := (16 + ·)) d (fun y hy n hn => ?_) d rfl).1
  obtain ⟨m, hm, rfl⟩ := List.mem_map.mp hn
  have hread : y.Reads (16 + (m + 1)) 0 u := by
    rw [show 16 + (m + 1) = 17 + m by omega]
    exact hy.reads (h m hm)
  exact driverHot_cool hread (by omega) hu.2

/-- What a die sample has sampled before its evaluation, of objects it writes: sensors and hours. -/
def isSampled (r : Nat → Bool) (k : Nat) : Bool := isSensor k || r k || isHours k

theorem isHours_keys {k : Nat} (h : isHours k = true) : isSensor k = false ∧ isStatus k = false ∧ k ≠ Obj.BAND ∧ ∀ n, k ≠ Obj.STATUS_6020 + n := by
  simp only [isHours, Bool.or_eq_true, beq_iff_eq] at h
  rcases h with rfl | rfl <;> exact ⟨by decide, by decide, by decide, fun n => by simp only [Obj.OP_HOURS, Obj.BAND_HOURS, Obj.STATUS_6020]; omega⟩

theorem hours_start {d : Dev} (hband : d.o Obj.BAND = 1) (hstate : (List.range 16).all (fun n => d.o (Obj.SENSOR_STATE + n) == 0) = true) :
    (∀ n ∈ List.range 16, d.hours.o (Obj.SENSOR_STATE + n) = 0) ∧ (∀ n ∈ List.range 40, d.hours.o (Obj.STATUS_6020 + n) = d.o (Obj.STATUS_6020 + n)) := by
  obtain ⟨-, hobj, -, -, -⟩ := hours_facts d hband
  refine ⟨fun n hn => ?_, fun n hn => ?_⟩
  · have hkey := (by decide : ∀ n ∈ List.range 16, isHours (Obj.SENSOR_STATE + n) = false ∧ isStatus (Obj.SENSOR_STATE + n) = false) n hn
    rw [hobj.same _ hkey.1 hkey.2]
    simpa using List.all_eq_true.mp hstate n hn
  · have hkey := (by decide : ∀ n ∈ List.range 40, isHours (Obj.STATUS_6020 + n) = false ∧ isStatus (Obj.STATUS_6020 + n) = false) n hn
    exact hobj.same _ hkey.1 hkey.2

theorem noTs_congr {d e : Dev} (hgates : e.gates = d.gates) (ho : ∀ g, e.o (at' Obj.TS_TYPE g) = d.o (at' Obj.TS_TYPE g)) : noTs e = noTs d := by
  simp only [noTs, Dev.groupOf, Dev.assignment, hgates, ho]

theorem tsType_keys (g : Nat) : isSensor (at' Obj.TS_TYPE g) = false ∧ isHours (at' Obj.TS_TYPE g) = false ∧ isStatus (at' Obj.TS_TYPE g) = false := by
  refine ⟨?_, ?_, isStatus_false ?_⟩
  · simp only [isSensor, keyIdx, at', Bool.or_eq_false_iff, beq_eq_false_iff_ne, Obj.TS_TYPE, Obj.TEMP, Obj.SENSOR_STATE]
    omega
  · simp only [isHours, at', Bool.or_eq_false_iff, beq_eq_false_iff_ne, Obj.TS_TYPE, Obj.OP_HOURS, Obj.BAND_HOURS]
    omega
  · simp [at', Obj.TS_TYPE]
    omega

/-- The rows of a sample whose drivers are all linked. -/
theorem sampled_linked {d : Dev} (t : Int) (drv : Vector Int 40) (hstate : (List.range 16).all (fun n => d.o (Obj.SENSOR_STATE + n) == 0) = true)
    (hlink : (List.range 40).all (fun n => !(bitOf (d.o (Obj.STATUS_6020 + n)) 4)) = true) (hts : noTs d = true) (hband : d.o Obj.BAND = 1) :
    d.hours.SampledAs (fun _ => false) t drv (d.sampled t drv) := by
  obtain ⟨hdie, hbits⟩ := hours_start hband hstate
  obtain ⟨hframe, hobj, -, -, -⟩ := hours_facts d hband
  have h1 := dieRow_row (r := fun _ => false) (fun _ _ => rfl) d.hours t hdie
  have hbit (n : Nat) (hn : n ∈ List.range 40) : bitOf ((d.hours.dieRow (2 * t) (Vector.replicate 16 t)).o (Obj.STATUS_6020 + n)) 4 = false := by
    have hkey := (by decide : ∀ n ∈ List.range 40, isSensor (Obj.STATUS_6020 + n) = false ∧ isStatus (Obj.STATUS_6020 + n) = false) n hn
    rw [h1.objs.same _ (by simp [hkey.1]) hkey.2, hbits n hn]
    simpa using List.all_eq_true.mp hlink n hn
  have h2 := driverRow_row (r := fun _ => false) (fun _ _ => rfl) (d.hours.dieRow (2 * t) (Vector.replicate 16 t)) drv (.inl hbit) fun _ _ => rfl
  refine sampledAs_of_rows (fun _ _ => rfl) h1 h2 (tsRow_row _ ?_)
  refine (noTs_congr ?_ fun g => ?_).trans hts
  · exact h2.frame.therm.gates.trans (h1.frame.therm.gates.trans hframe.gates)
  · obtain ⟨hs, hh, hst⟩ := tsType_keys g
    exact (h2.objs.same _ (by simp [hs]) hst).trans ((h1.objs.same _ (by simp [hs]) hst).trans (hobj.same _ hh hst))

/-- The state before the evaluation of a die sample whose drivers are all linked and cool. -/
structure Dev.SampledCool (t u : Int) (d e : Dev) : Prop where
  frame : d.ThermRaises e
  objs : OnlyObjects (fun k => isSensor k || isHours k) d e
  dies : e.DieAt t
  drivers : ∀ n ∈ List.range 40, e.Reads (17 + n) 0 u
  shut : e.die.shut = d.die.shut

theorem sampledCool {d : Dev} (t u : Int) (hstate : (List.range 16).all (fun n => d.o (Obj.SENSOR_STATE + n) == 0) = true)
    (hlink : (List.range 40).all (fun n => !(bitOf (d.o (Obj.STATUS_6020 + n)) 4)) = true) (hts : noTs d = true) (hband : d.o Obj.BAND = 1) (hu : -1000 ≤ u ∧ u < 1300) :
    d.SampledCool t u (d.sampled t (Vector.replicate 40 u)).driversHot.driversCool := by
  obtain ⟨hframe, hobj, -, -, hdie⟩ := hours_facts d hband
  obtain ⟨-, hbits⟩ := hours_start hband hstate
  have hs := sampled_linked t (Vector.replicate 40 u) hstate hlink hts hband
  have hread (n : Nat) (hn : n ∈ List.range 40) : (d.sampled t (Vector.replicate 40 u)).Reads (17 + n) 0 u := by
    have hlt := List.mem_range.mp hn
    have h := hs.driver n hn (by rw [hbits n hn]; simpa using List.all_eq_true.mp hlink n hn)
    rwa [Vector.toList_replicate, List.getD, List.getElem?_replicate, if_pos hlt, Option.getD_some] at h
  have hcool := driversHot_cool hu hread
  generalize d.sampled t (Vector.replicate 40 u) = x at *
  generalize x.driversHot = y at *
  have hends := y.ends_driversCool
  generalize y.driversCool = z at *
  have ho (k : Nat) : z.o k = x.o k := (hends.o k).trans (hcool.o k)
  refine ⟨frame_therm.trans hframe (frame_therm.trans hs.frame.therm (frame_therm.trans hcool.sense.therm hends.raises.therm)), ?_, ?_, ?_, ?_⟩
  · have hzobj : OnlyObjects (fun k => isSensor k || isHours k) x z := ⟨fun k _ _ => ho k⟩
    exact ((hobj.mono fun k h => by simp [h]).trans (hs.objs.mono fun k h => by simpa using Or.inl (by simpa using h))).trans hzobj
  · exact Dev.DieAt.of_o (fun n hn => hs.die n hn) fun k _ => ho k
  · exact fun n hn => ⟨(ho _).trans (hread n hn).1, (ho _).trans (hread n hn).2⟩
  · obtain ⟨a, rfl⟩ := hends
    have hy : y.die = x.die := by rw [show y = { x with sensors := y.sensors } from hcool]
    have hx : x.die = d.hours.die := (congrArg Dev.die hs.frame.1 :)
    exact congrArg Die.shut (hy.trans (hx.trans hdie))

theorem dieSample_same {d : Dev} (t : Int) (drv : Vector Int 40) (hstate : (List.range 16).all (fun n => d.o (Obj.SENSOR_STATE + n) == 0) = true) :
    d.dieSample (Vector.replicate 16 t) drv = (d.sampled t drv).driversHot.driversCool.bandEval.shutEval.cycles.showMaxima := by
  rw [dieSample_eq, dieMed_same t hstate]
  rfl

theorem isMaximum_sensor {k : Nat} (h : isSensor k = true) : isMaximum k = false ∧ k ≠ Obj.THERMAL_CYCLES := by
  have hidx := isSensor_iff.mp h
  simp only [isMaximum, keyIdx, Obj.DOMAIN_MAX, Obj.DEVICE_MAX, Obj.THERMAL_CYCLES, Bool.or_eq_false_iff, beq_eq_false_iff_ne]
  omega

/-- The readings of a sample, where its evaluation writes no sensor. -/
theorem SampledCool.values {t u : Int} {d x e : Dev} {ks : Nat → Bool} (h : d.SampledCool t u x) (hobj : OnlyObjects ks x e) (hks : ∀ k, isSensor k = true → ks k = false) :
    (∀ n ∈ List.range 16, e.settle.o (Obj.TEMP + n) = t ∧ e.settle.o (Obj.SENSOR_STATE + n) = 0) ∧ (∀ n ∈ List.range 40, e.settle.o (Obj.TEMP + 16 + n) = u) := by
  have hkeep (k : Nat) (hk : isSensor k = true) : e.settle.o k = x.o k := (Dev.o_settle _ (isStatus_sensor hk)).trans (hobj.same k (hks k hk) (isStatus_sensor hk))
  refine ⟨fun n hn => ?_, fun n hn => ?_⟩
  · obtain ⟨hin, hb⟩ := (by decide : ∀ n ∈ List.range 16, n + 1 ∈ (List.range 16).map (· + 1) ∧ (1 ≤ n + 1 ∧ n + 1 ≤ 255)) n hn
    obtain ⟨hs, ht⟩ := el_sensor hb
    obtain ⟨hst, htemp⟩ := h.dies (n + 1) hin
    exact ⟨(hkeep _ ht).trans htemp, (hkeep _ hs).trans hst⟩
  · have hlt := List.mem_range.mp hn
    obtain ⟨-, ht⟩ := el_sensor (n := 17 + n) (by omega)
    have hkey : Obj.TEMP + 16 + n = el Obj.TEMP (17 + n) := by
      simp only [el]
      omega
    rw [hkey, hkeep _ ht]
    exact (h.drivers n hn).2

theorem dieTempSample_middle (s : State) (t u : Int) (ha : s.dev.alive = true) (hstate : ((List.range 16).all (fun n => s.dev.o (Obj.SENSOR_STATE + n) == 0) = true))
    (hlink : ((List.range 40).all (fun n => !(bitOf (s.dev.o (Obj.STATUS_6020 + n)) 4)) = true)) (hts : noTs s.dev = true) (ht : -190 ≤ t ∧ t < 910) (hband : s.dev.o Obj.BAND = 1) (hu : -1000 ≤ u ∧ u < 1300) :
    Completes (.dieTempSample (Vector.replicate 16 t) (Vector.replicate 40 u)) s (fun e => (∀ n ∈ List.range 16, e.o (Obj.TEMP + n) = t ∧ e.o (Obj.SENSOR_STATE + n) = 0) ∧ (∀ n ∈ List.range 40, e.o (Obj.TEMP + 16 + n) = u) ∧
      e.o (el Obj.DOMAIN_MAX 9) = t ∧ e.o Obj.BAND = 1 ∧ e.die.shut = false ∧ ({ s.dev with sensors := e.sensors, die := e.die, power := e.power } : Dev).RaisesOnly e ∧
      OnlyObjects (fun k => keyIdx k == keyIdx Obj.TEMP || keyIdx k == keyIdx Obj.SENSOR_STATE || keyIdx k == keyIdx Obj.DOMAIN_MAX || k == Obj.DEVICE_MAX || k == Obj.OP_HOURS || k == Obj.BAND_HOURS + 1 || k == Obj.THERMAL_CYCLES) s.dev e) := by
  refine completes_live_eq _ rfl ha (dieSample_same t (Vector.replicate 40 u) hstate) ?_
  have hx := sampledCool t u hstate hlink hts hband hu
  generalize (s.dev.sampled t (Vector.replicate 40 u)).driversHot.driversCool = x at *
  have hxband : x.o Obj.BAND = 1 := (hx.objs.same _ (by decide) (by decide)).trans hband
  obtain ⟨hframe, hobj, hmax, hshut, -⟩ := evaluate_middle hx.dies ht hxband
  generalize x.bandEval.shutEval.cycles.showMaxima = e at *
  obtain ⟨hdie, hdrv⟩ := SampledCool.values hx hobj fun k hk => by simp [isMaximum_sensor hk]
  refine ⟨hdie, hdrv, (Dev.o_settle _ (by decide)).trans hmax, ?_, ?_, (frame_therm.settle (frame_therm.trans hx.frame hframe)).raises, ?_⟩
  · rw [Dev.o_settle _ (by decide), hobj.same _ (by decide) (by decide), hxband]
  · rw [Dev.settle_die, hshut]
  · refine ((hx.objs.mono fun k h => ?_).trans (hobj.mono fun k h => ?_)).settle
    · simp only [isSensor, isHours, Bool.or_eq_true] at h ⊢
      tauto
    · simp only [isMaximum, Bool.or_eq_true] at h ⊢
      tauto

end Sys2Proof.Machine
end

section
/-! The hot die, the hot driver and the end of a pause, O53 (R539, R541, R542, R544). -/

namespace Sys2Proof.Machine

/-! ### The shutdown at 135.0 °C (R541, R544) -/

theorem Dev.ThermRaises.raised {d e : Dev} (h : d.ThermRaises e) {x : Nat} (hx : d.raised x) : e.raised x := by
  have hwall : e.wall = d.wall := (congrArg Dev.wall h.1 :)
  unfold Dev.raised at hx ⊢
  rw [hwall]
  exact h.2 _ hx

/-- The die at its shutdown, with the band's change. -/
structure Dev.Shut (d e : Dev) : Prop where
  frame : d.ThermRaises e
  objs : OnlyObjects (fun k => isMaximum k || k == Obj.THERMAL_CYCLES || k == Obj.BAND || k == Obj.THROTTLING || k == Obj.BAND_CHANGES || isReaction k) d e
  band : e.o Obj.BAND = 3
  throttling : e.o Obj.THROTTLING = 1
  changes : e.o Obj.BAND_CHANGES = satU32 (d.o Obj.BAND_CHANGES + 1)
  raised : e.raised 0x0C
  force : e.inForce 0xD703 .sys
  shut : e.die.shut = true

/-- The band at TB3, with its count and event (R539). -/
theorem bandTo_hot {d : Dev} (hband : d.o Obj.BAND = 1) : d.bandTo 3 = (((d.setO Obj.BAND 3).setO Obj.THROTTLING 1).addSat Obj.BAND_CHANGES).event 0x0C := by
  unfold Dev.bandTo
  rw [Dev.n_of_o (m := 1) hband, if_neg (by decide)]
  rfl

theorem evaluate_hot {d : Dev} {t : Int} (h : d.DieAt t) (ht : 1350 ≤ t) (hband : d.o Obj.BAND = 1) (hshut : d.die.shut = false) : d.Shut d.bandEval.shutEval.cycles.showMaxima := by
  have hband3 : d.bandEval = ((((d.setO Obj.BAND 3).setO Obj.THROTTLING 1).addSat Obj.BAND_CHANGES).event 0x0C).causeGone 0xD304 := by
    rw [bandEval_eq h (by omega), Dev.n_of_o (m := 1) hband, bandFrom_hot ht, bandTo_hot hband]
  rw [hband3]
  have hshow : d.ShowsOnly ((((d.setO Obj.BAND 3).setO Obj.THROTTLING 1).addSat Obj.BAND_CHANGES).event 0x0C) :=
    frame_shows.event (frame_shows.addSat (frame_shows.setO (frame_shows.setO (frame_shows.refl d) _ _) _ _) _ _) _
  have hobj : OnlyObjects (fun k => k == Obj.BAND || k == Obj.THROTTLING || k == Obj.BAND_CHANGES || isTraceCount k) d ((((d.setO Obj.BAND 3).setO Obj.THROTTLING 1).addSat Obj.BAND_CHANGES).event 0x0C) :=
    ((((OnlyObjects.refl d).setO _ _ (by decide)).setO _ _ (by decide)).addSat _ _ (by decide)).event _ fun _ h => by simp [h]
  have hv1 : ((((d.setO Obj.BAND 3).setO Obj.THROTTLING 1).addSat Obj.BAND_CHANGES).event 0x0C).o Obj.BAND = 3 := by simp +decide [Dev.o_eq]
  have hv2 : ((((d.setO Obj.BAND 3).setO Obj.THROTTLING 1).addSat Obj.BAND_CHANGES).event 0x0C).o Obj.THROTTLING = 1 := by simp +decide [Dev.o_eq]
  have hv3 : ((((d.setO Obj.BAND 3).setO Obj.THROTTLING 1).addSat Obj.BAND_CHANGES).event 0x0C).o Obj.BAND_CHANGES = satU32 (d.o Obj.BAND_CHANGES + 1) := by simp +decide [Dev.o_eq]
  have hev : ((((d.setO Obj.BAND 3).setO Obj.THROTTLING 1).addSat Obj.BAND_CHANGES).event 0x0C).raised 0x0C := by simp
  generalize (((d.setO Obj.BAND 3).setO Obj.THROTTLING 1).addSat Obj.BAND_CHANGES).event 0x0C = w at *
  have hends := w.ends_causeGone 0xD304
  have hxdie : (w.causeGone 0xD304).DieAt t := h.of_o fun k hk => (hends.o k).trans (hobj.same k (by
    have hidx := isSensor_iff.mp hk
    simp only [isTraceCount, Bool.or_eq_false_iff, beq_eq_false_iff_ne, Obj.BAND, Obj.THROTTLING, Obj.BAND_CHANGES, Obj.RECORDS_WRITTEN, Obj.RECORDS_LOST]
    omega) (isStatus_sensor hk))
  have hxshut : (w.causeGone 0xD304).die.shut = false := by rw [← hshut, ← hshow.die]; rfl
  generalize w.causeGone 0xD304 = x at *
  obtain ⟨src, hsrc⟩ := shutEval_hot hxdie ht hxshut
  rw [hsrc]
  have hraise : (x.shutTo true).RaisesOnly ((x.shutTo true).raiseOn 0xD703 .sys true src) := Dev.raises_raiseOn _ _ _ _ _
  have hyobj : OnlyObjects (fun k => isReaction k) (x.shutTo true) ((x.shutTo true).raiseOn 0xD703 .sys true src) := (OnlyObjects.refl _).raiseOn _ _ _ _ fun _ h => h
  have hforce : ((x.shutTo true).raiseOn 0xD703 .sys true src).inForce 0xD703 .sys := Dev.inForce_raiseOn _ _ _ _ (by decide)
  have hydie : ((x.shutTo true).raiseOn 0xD703 .sys true src).die.shut = true := by
    obtain ⟨c, hc⟩ := hraise
    rw [hc.die]
    rfl
  generalize (x.shutTo true).raiseOn 0xD703 .sys true src = y at *
  have hcyc := cycles_facts y
  generalize y.cycles = z at *
  obtain ⟨hmshow, hmobj⟩ := showMaxima_facts z
  generalize z.showMaxima = e at *
  have hwx : OnlyObjects (fun k => isReaction k) w (x.shutTo true) := ⟨fun k _ _ => hends.o k⟩
  have hwe : OnlyObjects (fun k => isMaximum k || k == Obj.THERMAL_CYCLES || isReaction k) w e :=
    (((hwx.trans hyobj).mono fun k h => by simp [h]).trans (hcyc.objs.mono fun k h => by simp [h])).trans (hmobj.mono fun k h => by simp [h])
  have hframe : w.ThermRaises e :=
    frame_therm.trans hends.raises.therm (frame_therm.trans (x.therm_shutTo true) (frame_therm.trans hraise.therm (frame_therm.trans hcyc.frame (frame_therm.shows hmshow))))
  refine ⟨frame_therm.trans (frame_therm.shows hshow) hframe, ?_, ?_, ?_, ?_, hframe.raised hev, ?_, ?_⟩
  · refine (hobj.mono fun k h => ?_).trans (hwe.mono fun k h => ?_)
    · simp only [Bool.or_eq_true] at h ⊢
      rcases h with ((h | h) | h) | h
      · tauto
      · tauto
      · tauto
      · exact .inr (isReaction_trace h)
    · simp only [Bool.or_eq_true] at h ⊢
      tauto
  · rw [hwe.same _ (by decide) (by decide), hv1]
  · rw [hwe.same _ (by decide) (by decide), hv2]
  · rw [hwe.same _ (by decide) (by decide), hv3]
  · exact Dev.inForce_of_coll hmshow.coll (Dev.inForce_of_coll hcyc.coll hforce)
  · rw [hmshow.die, hcyc.shut, hydie]

theorem dieTempSample_hot (s : State) (t u : Int) (ha : s.dev.alive = true) (hstate : ((List.range 16).all (fun n => s.dev.o (Obj.SENSOR_STATE + n) == 0) = true))
    (hlink : ((List.range 40).all (fun n => !(bitOf (s.dev.o (Obj.STATUS_6020 + n)) 4)) = true)) (hts : noTs s.dev = true) (ht : 1350 ≤ t) (hshut : s.dev.die.shut = false) (hband : s.dev.o Obj.BAND = 1) (hu : -1000 ≤ u ∧ u < 1300) :
    Completes (.dieTempSample (Vector.replicate 16 t) (Vector.replicate 40 u)) s (fun e => e.o Obj.BAND = 3 ∧ e.o Obj.THROTTLING = 1 ∧ e.o Obj.BAND_CHANGES = satU32 (s.dev.o Obj.BAND_CHANGES + 1) ∧ e.raised 0x0C ∧ e.inForce 0xD703 .sys ∧ 1 ≤ e.o Obj.SAFE_STATE ∧ e.die.shut = true ∧
      ({ s.dev with sensors := e.sensors, die := e.die, power := e.power } : Dev).RaisesOnly e ∧ OnlyObjects (fun k => keyIdx k == keyIdx Obj.TEMP || keyIdx k == keyIdx Obj.SENSOR_STATE || keyIdx k == keyIdx Obj.DOMAIN_MAX || k == Obj.DEVICE_MAX || k == Obj.OP_HOURS || k == Obj.BAND_HOURS + 1 || k == Obj.THERMAL_CYCLES || k == Obj.BAND || k == Obj.THROTTLING || k == Obj.BAND_CHANGES || isReaction k) s.dev e) := by
  refine completes_live_eq _ rfl ha (dieSample_same t (Vector.replicate 40 u) hstate) ?_
  have hx := sampledCool t u hstate hlink hts hband hu
  generalize (s.dev.sampled t (Vector.replicate 40 u)).driversHot.driversCool = x at *
  have hxband : x.o Obj.BAND = 1 := (hx.objs.same _ (by decide) (by decide)).trans hband
  have hxcount : x.o Obj.BAND_CHANGES = s.dev.o Obj.BAND_CHANGES := hx.objs.same _ (by decide) (by decide)
  have he := evaluate_hot hx.dies ht hxband (hx.shut.trans hshut)
  generalize x.bandEval.shutEval.cycles.showMaxima = e at *
  refine ⟨(Dev.o_settle _ (by decide)).trans he.band, (Dev.o_settle _ (by decide)).trans he.throttling, ?_, (Dev.raised_settle_iff _ _).mpr he.raised, (Dev.inForce_settle_iff _ _ _).mpr he.force, ?_, ?_,
    (frame_therm.settle (frame_therm.trans hx.frame he.frame)).raises, ?_⟩
  · rw [Dev.o_settle _ (by decide), he.changes, hxcount]
  · have hstop : e.safeState ≠ 0 := (Dev.domainState_safe he.force (by decide)).1
    rw [Dev.o_settle_safeState]
    omega
  · rw [Dev.settle_die, he.shut]
  · refine ((hx.objs.mono fun k h => ?_).trans (he.objs.mono fun k h => ?_)).settle
    · simp only [isSensor, isHours, Bool.or_eq_true] at h ⊢
      tauto
    · simp only [isMaximum, Bool.or_eq_true] at h ⊢
      tauto

/-! ### A driver at 140.0 °C (R544) -/

/-- A fold that reaches `Q` at one element of its list, before which it keeps `P` and from which on it keeps `Q`. -/
theorem foldl_reaches {α β : Type} {f : β → α → β} {P Q : β → Prop} {x : α} (hpre : ∀ d y, y ≠ x → P d → P (f d y)) (hx : ∀ d, P d → Q (f d x)) (hpost : ∀ d y, y ≠ x → Q d → Q (f d y)) :
    ∀ {l : List α}, x ∈ l → l.Nodup → ∀ d, P d → Q (l.foldl f d)
  | [], hmem, _, _, _ => absurd hmem List.not_mem_nil
  | y :: ys, hmem, hnodup, d, hd => by
    obtain ⟨hnew, hrest⟩ := List.nodup_cons.mp hnodup
    by_cases hyx : y = x
    · subst hyx
      exact List.foldlRecOn ys f (motive := Q) (hx d hd) fun b hb a ha => hpost b a (fun h => hnew (h ▸ ha)) hb
    · exact foldl_reaches hpre hx hpost ((List.mem_cons.mp hmem).resolve_left fun h => hyx h.symm) hrest (f d y) (hpre d y hyx hd)

/-- What a driver or HN die that may stop its domain leaves. -/
structure Dev.DriverStep (n : Nat) (d e : Dev) : Prop where
  frame : d.SenseRaises e
  objs : OnlyObjects (fun k => isReaction k) d e
  keeps : ∀ c m, d.inForce c m → e.inForce c m
  others : ∀ m, m ≠ n → e.sensorOf m = d.sensorOf m

theorem updSensor_driverStep (d : Dev) (n : Nat) (g : Sensor → Sensor) : d.DriverStep n (d.updSensor n g) :=
  ⟨d.senses_updSensor n g, OnlyObjects.of_obj (OnlyObjects.refl d) rfl, fun _ _ h => h, fun _ hm => d.sensorOf_updSensor_other g hm⟩

theorem Dev.DriverStep.thenRaise {n : Nat} {d e : Dev} (h : d.DriverStep n e) (b : Bool) (code : Nat) (dom : Domain) (lasting : Bool) (src : FaultSrc) :
    d.DriverStep n (e.when b (fun d => d.raiseOn code dom lasting src)) := by
  cases b
  · exact h
  · have hraise : e.RaisesOnly (e.raiseOn code dom lasting src) := Dev.raises_raiseOn _ _ _ _ _
    have hobj : OnlyObjects (fun k => isReaction k) e (e.raiseOn code dom lasting src) := (OnlyObjects.refl e).raiseOn _ _ _ _ fun _ h => h
    refine ⟨frame_sense.trans h.frame hraise.sense, h.objs.trans hobj, fun c m hf => Dev.inForce_keeps_raiseOn (h.keeps c m hf) code dom lasting src, fun m hm => ?_⟩
    obtain ⟨c, hc⟩ := hraise
    have hsens : (e.raiseOn code dom lasting src).sensors = e.sensors := hc.sensors
    exact (congrArg (fun s : Tab Sensor => Tab.get ({} : Sensor) s m) hsens).trans (h.others m hm)

theorem driverHot_step (d : Dev) (n : Nat) : d.DriverStep n (d.driverHot n) := by
  unfold Dev.driverHot
  split
  · exact updSensor_driverStep d n _
  · exact (updSensor_driverStep d n _).thenRaise _ _ _ _ _

/-- A driver that newly stands at 140.0 °C stops its domain. -/
theorem driverHot_sets {d : Dev} {n : Nat} {t : Int} {dom : Domain} (h : d.Reads n 0 t) (ht : 1400 ≤ t) (hserve : d.servesDomain n = some dom) (hnew : (d.sensorOf n).hot = false) : (d.driverHot n).inForce 0xD507 dom := by
  have hset : (d.hotSensor n 1400 1300).2 = true := by
    unfold Dev.hotSensor
    simp [h.valid (by omega), h.2, ht, hnew]
  unfold Dev.driverHot
  rw [hserve]
  simp only [hset, Dev.when, if_true]
  exact Dev.inForce_raiseOn _ _ _ _ (by decide)

theorem driversCool_keeps {d : Dev} {c : Nat} {m : Domain} (h : d.inForce c m) : d.driversCool.inForce c m := by
  refine List.foldlRecOn _ _ (motive := fun d : Dev => d.inForce c m) h fun b hb dom _ => ?_
  split
  · exact hb
  · exact inForce_causeGoneOn b _ _ hb

theorem driversHot_sets {d : Dev} {n : Nat} {t : Int} {dom : Domain} (hn : n < 40) (h : d.Reads (17 + n) 0 t) (ht : 1400 ≤ t) (hserve : d.servesDomain (17 + n) = some dom) (hnew : (d.sensorOf (17 + n)).hot = false) :
    d.driversHot.inForce 0xD507 dom := by
  have hkey : 16 + (n + 1) = 17 + n := by omega
  refine foldl_reaches (f := fun d n => d.driverHot (16 + n)) (P := fun e => e.Reads (17 + n) 0 t ∧ e.servesDomain (17 + n) = some dom ∧ (e.sensorOf (17 + n)).hot = false) (Q := fun e => e.inForce 0xD507 dom)
    (x := n + 1) (l := allChannels) (fun e y hy he => ?_) (fun e he => ?_) (fun e y _ he => ?_)
    (List.mem_map.mpr ⟨n, List.mem_range.mpr hn, rfl⟩) (by decide) d ⟨h, hserve, hnew⟩
  · obtain ⟨⟨hs, hx⟩, hserve, hnew⟩ := he
    have hstep := driverHot_step e (16 + y)
    obtain ⟨hks, hkt⟩ := el_sensor (n := 17 + n) (by omega)
    refine ⟨⟨?_, ?_⟩, ?_, ?_⟩
    · rw [hstep.objs.same _ (isReaction_sensor hks) (isStatus_sensor hks), hs]
    · rw [hstep.objs.same _ (isReaction_sensor hkt) (isStatus_sensor hkt), hx]
    · rw [hstep.frame.therm.servesDomain, hserve]
    · rw [hstep.others _ (by omega), hnew]
  · rw [hkey]
    exact driverHot_sets he.1 ht he.2.1 he.2.2
  · exact (driverHot_step e (16 + y)).keeps _ _ he

theorem driversHot_facts (d : Dev) : d.SenseRaises d.driversHot ∧ OnlyObjects (fun k => isReaction k) d d.driversHot :=
  ⟨frame_sense.foldl (frame_sense.refl d) _ fun d n => (driverHot_step d (16 + n)).frame, OnlyObjects.foldl (OnlyObjects.refl d) _ fun d n _ => (driverHot_step d (16 + n)).objs⟩

/-- A fault of class Domain-stop in force shows in its domain (R427, R510). -/
theorem Dev.domainState_stop {d : Dev} {code : Nat} {dom : Domain} (h : d.inForce code dom) (hdom : dom ≠ .sys) (hclass : faultClass code = 2) : 3 ≤ d.domainState dom := by
  obtain ⟨f, hf, rfl, rfl⟩ := h
  have hon : d.faultOnDomain f.acts 2 = true := by
    unfold Dev.faultOnDomain
    rw [Bool.and_eq_true, List.any_eq_true]
    exact ⟨by simpa using hdom, f, hf, by simp [hclass]⟩
  have h3 := d.three_le_domainState f.acts
  rw [hon, Bool.or_true, decide_eq_true_eq] at h3
  exact h3

/-- The rows of a sample of any drivers, whose sensors may be reported as excluded. -/
theorem sampled_any {d : Dev} (t : Int) (drv : Vector Int 40) (hstate : (List.range 16).all (fun n => d.o (Obj.SENSOR_STATE + n) == 0) = true) (hband : d.o Obj.BAND = 1) :
    d.hours.SampledAs (fun k => isReport k) t drv (d.sampled t drv) := by
  obtain ⟨hdie, -⟩ := hours_start hband hstate
  have hr (k : Nat) (h : isSensor k = true) : isReport k = false := isReport_sensor h
  have hkey : ∀ n ∈ List.range 40, isReport (Obj.STATUS_6020 + n) = false := by decide
  exact sampledAs_of_rows hkey (dieRow_row hr d.hours t hdie) (driverRow_row hr _ drv (.inr rfl) hkey) (tsRow_any _)

theorem groupDomain_ne_sys (g : Nat) : groupDomain g ≠ some .sys := by
  unfold groupDomain
  split <;> decide

theorem dieTempSample_driverHot (s : State) (t : Int) (drv : Vector Int 40) (n : Fin 40) (dom : Domain) (ha : s.dev.alive = true) (hstate : ((List.range 16).all (fun n => s.dev.o (Obj.SENSOR_STATE + n) == 0) = true))
    (_hts : noTs s.dev = true) (_hshut : s.dev.die.shut = false) (hlink : bitOf (s.dev.o (Obj.STATUS_6020 + n)) 4 = false) (ht : -190 ≤ t ∧ t < 910) (hband : s.dev.o Obj.BAND = 1) (hdrv : 1400 ≤ drv[n])
    (hserve : s.dev.servesDomain (17 + n) = some dom) (hnew : (s.dev.sensorOf (17 + n)).hot = false) :
    Completes (.dieTempSample (Vector.replicate 16 t) drv) s (fun e => e.o (Obj.TEMP + 16 + n) = drv[n] ∧ e.inForce 0xD507 dom ∧ 3 ≤ e.o (el Obj.DOMAIN_STATE dom.num) ∧
      ({ s.dev with sensors := e.sensors, die := e.die, power := e.power } : Dev).RaisesOnly e ∧ OnlyObjects (fun k => keyIdx k == keyIdx Obj.TEMP || keyIdx k == keyIdx Obj.SENSOR_STATE || keyIdx k == keyIdx Obj.DOMAIN_MAX || k == Obj.DEVICE_MAX || k == Obj.OP_HOURS || k == Obj.BAND_HOURS + 1 || k == Obj.THERMAL_CYCLES || isReaction k) s.dev e) := by
  refine completes_live_eq _ rfl ha (dieSample_same t drv hstate) ?_
  obtain ⟨hframe, hhours, hsens, -, -⟩ := hours_facts s.dev hband
  obtain ⟨-, hbits⟩ := hours_start hband hstate
  have hs := sampled_any t drv hstate hband
  have hread := hs.driver n (List.mem_range.mpr n.isLt) (by rw [hbits n (List.mem_range.mpr n.isLt), hlink])
  rw [show drv.toList.getD n 0 = drv[n] by simp [List.getD]] at hread
  have hxserve : (s.dev.sampled t drv).servesDomain (17 + n) = some dom := by rw [(frame_therm.trans hframe hs.frame.therm).servesDomain, hserve]
  have hxnew : ((s.dev.sampled t drv).sensorOf (17 + n)).hot = false := by
    rw [hs.heat, ← hnew]
    exact congrArg (fun x : Tab Sensor => (Tab.get ({} : Sensor) x (17 + n)).hot) hsens
  generalize s.dev.sampled t drv = x at *
  have hforce := driversHot_sets n.isLt hread hdrv hxserve hxnew
  obtain ⟨hyframe, hyobj⟩ := driversHot_facts x
  generalize x.driversHot = y at *
  have hforce' := driversCool_keeps hforce
  have hends := y.ends_driversCool
  generalize y.driversCool = z at *
  have hxz : OnlyObjects (fun k => isReaction k) x z := ⟨fun k h1 h2 => (hends.o k).trans (hyobj.same k h1 h2)⟩
  have hkeep (k : Nat) (hk : isSensor k = true) : z.o k = x.o k := hxz.same k (isReaction_sensor hk) (isStatus_sensor hk)
  have hzdie : z.DieAt t := Dev.DieAt.of_o (fun n hn => hs.die n hn) hkeep
  have hzband : z.o Obj.BAND = 1 := by
    rw [hxz.same _ (by decide) (by decide), hs.objs.same _ (by decide) (by decide), hhours.same _ (by decide) (by decide), hband]
  obtain ⟨heframe, heobj, -, -, heforce⟩ := evaluate_middle hzdie ht hzband
  generalize z.bandEval.shutEval.cycles.showMaxima = e at *
  have hlast := heforce _ _ hforce'
  refine ⟨?_, (Dev.inForce_settle_iff _ _ _).mpr hlast, ?_, ?_, ?_⟩
  · obtain ⟨-, hkt⟩ := el_sensor (n := 17 + n) (by omega)
    have hkey : Obj.TEMP + 16 + n = el Obj.TEMP (17 + n) := by
      simp only [el]
      omega
    rw [hkey, Dev.o_settle _ (isStatus_sensor hkt), heobj.same _ (by simp [isMaximum_sensor hkt]) (isStatus_sensor hkt), hkeep _ hkt, hread.2]
  · have hdom : dom ≠ .sys := by
      rintro rfl
      refine groupDomain_ne_sys (s.dev.groupOf (17 + n - 16)) ?_
      rw [← hserve, Dev.servesDomain, if_pos (by omega)]
    rw [Dev.o_settle_domain]
    exact_mod_cast Dev.domainState_stop hlast hdom (by decide)
  · exact (frame_therm.settle (frame_therm.trans hframe (frame_therm.trans hs.frame.therm (frame_therm.trans hyframe.therm (frame_therm.trans hends.raises.therm heframe))))).raises
  · refine ((((hhours.mono fun k h => ?_).trans (hs.objs.mono fun k h => ?_)).trans (hxz.mono fun k h => ?_)).trans (heobj.mono fun k h => ?_)).settle
    · simp only [isHours, Bool.or_eq_true] at h ⊢
      tauto
    · simp only [isSensor, Bool.or_eq_true] at h ⊢
      exact h.elim (by tauto) fun h => .inr (isReport_reaction h)
    · simp [h]
    · simp only [isMaximum, Bool.or_eq_true] at h ⊢
      tauto

/-- The memory without the pause of operation `op` (R542). -/
def Dev.pauseEnded (d : Dev) (op : Nat) : Dev := { d with pauses := d.pauses.filter (· != op) }

theorem onlyObjects_pauseEnded (d : Dev) (op : Nat) : OnlyObjects (fun _ => false) d (d.pauseEnded op) := ⟨fun _ _ _ => rfl⟩

theorem throttlePauseEnd_completes (s : State) (op : Fin 19) (ha : s.dev.alive = true) :
    Completes (.throttlePauseEnd op) s (fun e => e.pauses = s.dev.pauses.filter (fun x => x != op.val) ∧ e.trace = s.dev.trace ∧ ({ s.dev with pauses := e.pauses } : Dev).ShowsOnly e ∧ OnlyObjects (fun _ => false) s.dev e) := by
  refine completes_live_eq (f := fun d => d.pauseEnded op.val) (s.dev.pauseEnded op.val) rfl ha rfl ?_
  have hpauses : (s.dev.pauseEnded op.val).settle.pauses = s.dev.pauses.filter (fun x => x != op.val) := Dev.settle_pauses _
  have htrace : (s.dev.pauseEnded op.val).settle.trace = s.dev.trace := Dev.settle_trace _
  refine ⟨hpauses, htrace, ?_, (onlyObjects_pauseEnded s.dev op.val).settle⟩
  rw [hpauses]
  exact Dev.shows_settle (s.dev.pauseEnded op.val)

end Sys2Proof.Machine
end

section
/-! The samples of the HN dies, the module sensors and the NTC inputs, O53 (R535 to R537, R544, R545). -/

namespace Sys2Proof.Machine

/-! ### The rows of a slow sample -/

def Dev.hnRow (d : Dev) (hn : Vector Int 6) : Dev := (List.range 6).foldl (fun d h => d.linkSensor (57 + h) (d.hnLost.contains h) (hn.toList.getD h 0)) d

def Dev.moduleRow (d : Dev) (module : Vector Int 4) : Dev := (List.range 4).foldl (fun d i => d.ntcSensor (63 + i) (module.toList.getD i 0)) d

def Dev.ntcRow (d : Dev) (ntc : Vector Int 8) : Dev :=
  (List.range 8).foldl (fun d i => if d.n (at' Obj.NTC_DOMAIN i) = 0 then d.sensorShow (67 + i) 2 0 else d.ntcSensor (67 + i) (ntc.toList.getD i 0)) d

def Dev.hnHot (d : Dev) : Dev := (List.range 6).foldl (fun d h => d.driverHot (57 + h)) d

def Dev.modulesHot (d : Dev) : Dev := (List.range 4).foldl (fun d i => d.moduleHot (63 + i)) d

def Dev.ntcsReact (d : Dev) : Dev := (List.range 8).foldl (fun d i => d.ntcReact (i + 1)) d

theorem slowSample_eq (d : Dev) (hn : Vector Int 6) (module : Vector Int 4) (ntc : Vector Int 8) : d.slowSample hn module ntc =
    ((((((d.hnRow hn).moduleRow module).ntcRow ntc).hnHot.driversCool).modulesHot.ntcsReact).ntcsCool.driveChopper).showMaxima := rfl

theorem getD_replicate {n m : Nat} (h : m < n) (t : Int) : (Vector.replicate n t).toList.getD m 0 = t := by
  rw [Vector.toList_replicate, List.getD, List.getElem?_replicate, if_pos h, Option.getD_some]

theorem hnRow_row (d : Dev) (t : Int) (hlost : d.hnLost = []) : d.SensorRow (fun _ => false) (57 + ·) (List.range 6) (fun _ st x => st = 0 ∧ x = t) (d.hnRow (Vector.replicate 6 t)) := by
  refine foldl_sensorRow (fun _ _ => rfl) d (by decide) (by decide) (fun x n hn _ hframe _ => ?_) d (OnlyObjects.refl d) (frame_sense.refl d) fun _ _ => rfl
  have hlt := List.mem_range.mp hn
  have hx : x.hnLost.contains n = false := by
    have hsame : x.hnLost = d.hnLost := (congrArg Dev.hnLost hframe.1 :)
    rw [hsame, hlost]
    rfl
  rw [hx, getD_replicate hlt]
  exact linkSensor_step _ x t (by omega) (.inl rfl)

theorem moduleRow_row (d : Dev) (u : Int) (hu : -500 ≤ u ∧ u < 1000) (hstate : ∀ n ∈ List.range 4, d.o (el Obj.SENSOR_STATE (63 + n)) = 0) :
    d.SensorRow (fun _ => false) (63 + ·) (List.range 4) (fun _ st x => st = 0 ∧ x = u) (d.moduleRow (Vector.replicate 4 u)) := by
  refine foldl_sensorRow (fun _ _ => rfl) d (by decide) (by decide) (fun x n hn _ _ hsame => ?_) d (OnlyObjects.refl d) (frame_sense.refl d) fun _ _ => rfl
  have hlt := List.mem_range.mp hn
  rw [getD_replicate hlt]
  exact ntcSensor_step _ x (by omega) (by omega) (hsame.trans (hstate n hn))

/-- What NTC input `j` reads by its domain. -/
def Dev.ntcReading (d : Dev) (ntc : Vector Int 8) (j : Nat) (st x : Int) : Prop :=
  (d.n (at' Obj.NTC_DOMAIN j) = 0 → st = 2 ∧ x = -32768) ∧ (d.n (at' Obj.NTC_DOMAIN j) ≠ 0 → st = 0 ∧ x = ntc.toList.getD j 0)

theorem ntcKeys : ∀ j ∈ List.range 8, ∀ k ∈ [at' Obj.NTC_DOMAIN j, at' Obj.NTC_HOT j, at' Obj.NTC_TRIP j],
    isSensor k = false ∧ isStatus k = false ∧ isReaction k = false ∧ isChopKey k = false ∧ isMaximum k = false := by decide

theorem ntcRow_row (d : Dev) (ntc : Vector Int 8) (hin : ∀ j ∈ List.range 8, d.n (at' Obj.NTC_DOMAIN j) ≠ 0 → d.o (el Obj.SENSOR_STATE (67 + j)) = 0 ∧ -500 ≤ ntc.toList.getD j 0 ∧ ntc.toList.getD j 0 ≤ 2000) :
    d.SensorRow (fun _ => false) (67 + ·) (List.range 8) (d.ntcReading ntc) (d.ntcRow ntc) := by
  refine foldl_sensorRow (fun _ _ => rfl) d (by decide) (by decide) (fun x n hn hobj _ hsame => ?_) d (OnlyObjects.refl d) (frame_sense.refl d) fun _ _ => rfl
  have hlt := List.mem_range.mp hn
  obtain ⟨hs, hst, -⟩ := ntcKeys n hn (at' Obj.NTC_DOMAIN n) (by simp)
  have hdom : x.n (at' Obj.NTC_DOMAIN n) = d.n (at' Obj.NTC_DOMAIN n) := Dev.n_eq (hobj.same _ (by simp [hs]) hst)
  rw [hdom]
  by_cases h0 : d.n (at' Obj.NTC_DOMAIN n) = 0
  · rw [if_pos h0]
    obtain ⟨hstep, hread⟩ := sensorShow_step (fun _ => false) x (n := 67 + n) (st := 2) 0 (by omega) (.inl (by decide))
    exact ⟨hstep, fun _ => hread, fun h => absurd h0 h⟩
  · rw [if_neg h0]
    obtain ⟨hstate, hlow, hhigh⟩ := hin n hn h0
    obtain ⟨hstep, hread⟩ := ntcSensor_step (fun _ => false) x (n := 67 + n) (by omega) ⟨hlow, hhigh⟩ (hsame.trans hstate)
    exact ⟨hstep, fun h => absurd h h0, fun _ => hread⟩

/-! ### Before the NTC inputs react -/

/-- The slow sample of cool HN dies and modules, before the NTC inputs react. -/
def Dev.slowRows (d : Dev) (t u : Int) (ntc : Vector Int 8) : Dev :=
  ((((d.hnRow (Vector.replicate 6 t)).moduleRow (Vector.replicate 4 u)).ntcRow ntc).hnHot.driversCool).modulesHot

/-- What a slow sample of cool HN dies and modules leaves before the NTC inputs react. -/
structure Dev.SlowAs (t u : Int) (ntc : Vector Int 8) (d e : Dev) : Prop where
  frame : d.SenseRaises e
  objs : OnlyObjects isSensor d e
  hn : ∀ n ∈ List.range 6, e.Reads (57 + n) 0 t
  modules : ∀ n ∈ List.range 4, e.Reads (63 + n) 0 u
  ntcs : ∀ j ∈ List.range 8, d.ntcReading ntc j (e.o (el Obj.SENSOR_STATE (67 + j))) (e.o (el Obj.TEMP (67 + j)))
  heat : ∀ j ∈ List.range 8, (e.sensorOf (67 + j)).hot = (d.sensorOf (67 + j)).hot ∧ (e.sensorOf (67 + j)).trip = (d.sensorOf (67 + j)).trip

theorem moduleHot_cool {d : Dev} {n : Nat} {u : Int} (h : d.Reads n 0 u) (hu : -500 ≤ u ∧ u < 1000) : ∃ g, d.moduleHot n = d.updSensor n g := by
  obtain ⟨g, hg⟩ := hotSensor_cool h (by omega) hu.2 (hi := 1051) (by decide)
  unfold Dev.moduleHot
  rw [hg]
  exact ⟨g, rfl⟩

theorem Dev.EndsOnly.sensorOf {d e : Dev} (h : d.EndsOnly e) (n : Nat) : e.sensorOf n = d.sensorOf n := by
  obtain ⟨a, rfl⟩ := h
  rfl

/-- The rows of a slow sample. -/
theorem slowRows_facts {d : Dev} {t u : Int} {ntc : Vector Int 8} (hlost : d.hnLost = []) (hstate : (List.range 4).all (fun n => d.o (Obj.SENSOR_STATE + 62 + n) == 0) = true) (ht : -1000 ≤ t ∧ t < 1300)
    (hu : -500 ≤ u ∧ u < 1000) (hin : ∀ j ∈ List.range 8, d.n (at' Obj.NTC_DOMAIN j) ≠ 0 → d.o (el Obj.SENSOR_STATE (67 + j)) = 0 ∧ -500 ≤ ntc.toList.getD j 0 ∧ ntc.toList.getD j 0 ≤ 2000) :
    d.SlowAs t u ntc (d.slowRows t u ntc) := by
  have h1 := hnRow_row d t hlost
  have hkeep1 (m : Nat) (hm : 1 ≤ m ∧ m ≤ 255) (hout : m ∉ (List.range 6).map (57 + ·)) := h1.rest m hm hout
  have hmod : ∀ n ∈ List.range 4, (d.hnRow (Vector.replicate 6 t)).o (el Obj.SENSOR_STATE (63 + n)) = 0 := fun n hn => by
    obtain ⟨hb, hout⟩ := (by decide : ∀ n ∈ List.range 4, (1 ≤ 63 + n ∧ 63 + n ≤ 255) ∧ 63 + n ∉ (List.range 6).map (57 + ·)) n hn
    have hkey : el Obj.SENSOR_STATE (63 + n) = Obj.SENSOR_STATE + 62 + n := by simp only [el]; omega
    rw [(hkeep1 _ hb hout).1, hkey]
    simpa using List.all_eq_true.mp hstate n hn
  have h2 := moduleRow_row (d.hnRow (Vector.replicate 6 t)) u hu hmod
  have hbo : OnlyObjects isSensor d ((d.hnRow (Vector.replicate 6 t)).moduleRow (Vector.replicate 4 u)) :=
    (h1.objs.mono fun k h => by simpa using h).trans (h2.objs.mono fun k h => by simpa using h)
  have hdom (j : Nat) (hj : j ∈ List.range 8) : ((d.hnRow (Vector.replicate 6 t)).moduleRow (Vector.replicate 4 u)).n (at' Obj.NTC_DOMAIN j) = d.n (at' Obj.NTC_DOMAIN j) := by
    obtain ⟨hs, hst, -⟩ := ntcKeys j hj (at' Obj.NTC_DOMAIN j) (by simp)
    exact Dev.n_eq (hbo.same _ hs hst)
  have h3 := ntcRow_row ((d.hnRow (Vector.replicate 6 t)).moduleRow (Vector.replicate 4 u)) ntc fun j hj h0 => by
    obtain ⟨hb, hout1, hout2⟩ := (by decide : ∀ j ∈ List.range 8, (1 ≤ 67 + j ∧ 67 + j ≤ 255) ∧ 67 + j ∉ (List.range 6).map (57 + ·) ∧ 67 + j ∉ (List.range 4).map (63 + ·)) j hj
    rw [hdom j hj] at h0
    rw [(h2.rest _ hb hout2).1, (h1.rest _ hb hout1).1]
    exact hin j hj h0
  unfold Dev.slowRows
  generalize d.hnRow (Vector.replicate 6 t) = a at *
  generalize a.moduleRow (Vector.replicate 4 u) = b at *
  generalize b.ntcRow ntc = c at *
  have hhn (n : Nat) (hn : n ∈ List.range 6) : c.Reads (57 + n) 0 t := by
    obtain ⟨hb, hout2, hout3⟩ := (by decide : ∀ n ∈ List.range 6, (1 ≤ 57 + n ∧ 57 + n ≤ 255) ∧ 57 + n ∉ (List.range 4).map (63 + ·) ∧ 57 + n ∉ (List.range 8).map (67 + ·)) n hn
    obtain ⟨hs2, ht2⟩ := h2.rest _ hb hout2
    obtain ⟨hs3, ht3⟩ := h3.rest _ hb hout3
    obtain ⟨hs, hx⟩ := h1.reads n hn
    exact ⟨hs3.trans (hs2.trans hs), ht3.trans (ht2.trans hx)⟩
  have hmodules (n : Nat) (hn : n ∈ List.range 4) : c.Reads (63 + n) 0 u := by
    obtain ⟨hb, hout3⟩ := (by decide : ∀ n ∈ List.range 4, (1 ≤ 63 + n ∧ 63 + n ≤ 255) ∧ 63 + n ∉ (List.range 8).map (67 + ·)) n hn
    obtain ⟨hs3, ht3⟩ := h3.rest _ hb hout3
    obtain ⟨hs, hx⟩ := h2.reads n hn
    exact ⟨hs3.trans hs, ht3.trans hx⟩
  obtain ⟨hhot, hhotRest⟩ := foldl_sensorsOnly (f := fun d h => d.driverHot (57 + h)) (num := (57 + ·)) c (l := List.range 6) (fun y hy n hn => driverHot_cool (hy.reads (hhn n hn)) (by omega) ht.2) c rfl
  rw [show (List.range 6).foldl (fun d h => d.driverHot (57 + h)) c = c.hnHot from rfl] at hhot hhotRest
  generalize c.hnHot = x at *
  have hends := x.ends_driversCool
  generalize x.driversCool = y at *
  have hyo (k : Nat) : y.o k = c.o k := (hends.o k).trans (hhot.o k)
  obtain ⟨hmhot, hmrest⟩ := foldl_sensorsOnly (f := fun d i => d.moduleHot (63 + i)) (num := (63 + ·)) y (l := List.range 4)
    (fun z hz n hn => moduleHot_cool (hz.reads ⟨(hyo _).trans (hmodules n hn).1, (hyo _).trans (hmodules n hn).2⟩) hu) y rfl
  rw [show (List.range 4).foldl (fun d i => d.moduleHot (63 + i)) y = y.modulesHot from rfl] at hmhot hmrest
  generalize y.modulesHot = e at *
  have heo (k : Nat) : e.o k = c.o k := (hmhot.o k).trans (hyo k)
  refine ⟨?_, ?_, fun n hn => ⟨(heo _).trans (hhn n hn).1, (heo _).trans (hhn n hn).2⟩, fun n hn => ⟨(heo _).trans (hmodules n hn).1, (heo _).trans (hmodules n hn).2⟩, fun j hj => ?_, fun j hj => ?_⟩
  · exact frame_sense.trans (frame_sense.trans (frame_sense.trans h1.frame h2.frame) h3.frame) (frame_sense.trans hhot.sense (frame_sense.trans hends.raises.sense hmhot.sense))
  · exact (hbo.trans (h3.objs.mono fun k h => by simpa using h)).trans ⟨fun k _ _ => heo k⟩
  · have hread := h3.reads j hj
    rw [heo, heo]
    unfold Dev.ntcReading at hread ⊢
    rwa [hdom j hj] at hread
  · obtain ⟨hout1, hout2⟩ := (by decide : ∀ j ∈ List.range 8, 67 + j ∉ (List.range 6).map (57 + ·) ∧ 67 + j ∉ (List.range 4).map (63 + ·)) j hj
    rw [hmrest _ hout2, hends.sensorOf, hhotRest _ hout1, (h3.heat _).1, (h2.heat _).1, (h1.heat _).1, (h3.heat _).2, (h2.heat _).2, (h1.heat _).2]
    exact ⟨rfl, rfl⟩

end Sys2Proof.Machine
end

section
/-! The reactions to the NTC inputs, O53 (R544, R545). -/

namespace Sys2Proof.Machine

theorem ntcReact_unset {d : Dev} {i : Nat} (h : d.n (at' Obj.NTC_DOMAIN i) = 0) : ∃ g, d.ntcReact (i + 1) = d.updSensor (67 + i) g := by
  have hkey : 66 + (i + 1) = 67 + i := by omega
  unfold Dev.ntcReact
  simp only [Nat.add_sub_cancel, h, if_true, hkey]
  exact ⟨_, rfl⟩

theorem ntcReact_step (d : Dev) (i : Nat) : d.DriverStep (66 + i) (d.ntcReact i) := by
  unfold Dev.ntcReact
  simp only []
  split
  · exact updSensor_driverStep d _ _
  · exact ((updSensor_driverStep d _ _).thenRaise _ _ _ _ _).thenRaise _ _ _ _ _

/-- NTC input `i` of domain `dom` reads `t`, at NTC_HOT and below NTC_TRIP, and has neither set before. -/
structure Dev.NtcHot (i : Nat) (dom : Domain) (t : Int) (d : Dev) : Prop where
  reads : d.Reads (67 + i) 0 t
  own : d.o (at' Obj.NTC_DOMAIN i) = dom.num
  hot : d.o (at' Obj.NTC_HOT i) ≤ t
  trip : t < d.o (at' Obj.NTC_TRIP i)
  newHot : (d.sensorOf (67 + i)).hot = false
  newTrip : (d.sensorOf (67 + i)).trip = false

theorem numDomain_num (dom : Domain) : numDomain dom.num = dom := by cases dom <;> rfl

theorem ntcReact_sets {d : Dev} {i : Nat} {dom : Domain} {t : Int} (h : d.NtcHot i dom t) (ht : -500 ≤ t) : (d.ntcReact (i + 1)).inForce 0xD301 dom ∧ ((d.ntcReact (i + 1)).sensorOf (67 + i)).hot = true := by
  have hkey : 66 + (i + 1) = 67 + i := by omega
  have hnum : d.n (at' Obj.NTC_DOMAIN i) = dom.num := Dev.n_of_o h.own
  have hne : dom.num ≠ 0 := by cases dom <;> decide
  have hcool : decide (d.o (at' Obj.NTC_TRIP i) ≤ t) = false := decide_eq_false (by have := h.trip; omega)
  generalize hx : d.updSensor (67 + i) (fun x => { x with hot := true, trips := 0, trip := false }) = x
  have hxhot : (x.sensorOf (67 + i)).hot = true := by rw [← hx, Dev.sensorOf_updSensor_same]
  have heq : d.ntcReact (i + 1) = x.raiseOn 0xD301 dom true (thmSrc (67 + i)) := by
    unfold Dev.ntcReact
    simp only [Nat.add_sub_cancel, hnum, hne, if_false, hkey, h.reads.valid (by omega), h.reads.2, decide_eq_true h.hot, hcool, h.newHot, h.newTrip, numDomain_num, ← hx, Bool.true_and, Bool.and_true, Bool.and_false,
      Bool.false_and, Bool.false_or, Bool.true_or, Bool.not_false, Bool.false_eq_true, if_true, Dev.when, show ((0 : Nat) == 3) = false from rfl]
  rw [heq]
  refine ⟨Dev.inForce_raiseOn _ _ _ _ (by decide), ?_⟩
  obtain ⟨c, hc⟩ := Dev.raises_raiseOn x 0xD301 dom true (thmSrc (67 + i))
  have hsens : (x.raiseOn 0xD301 dom true (thmSrc (67 + i))).sensors = x.sensors := hc.sensors
  rw [Dev.sensorOf, hsens]
  exact hxhot

theorem ntcsReact_unset {d : Dev} (h : ∀ i ∈ List.range 8, d.n (at' Obj.NTC_DOMAIN i) = 0) : d.SensorsOnly d.ntcsReact :=
  (foldl_sensorsOnly (f := fun d i => d.ntcReact (i + 1)) (num := (67 + ·)) d (l := List.range 8) (fun _ hy i hi => ntcReact_unset ((Dev.n_eq (hy.o _)).trans (h i hi))) d rfl).1

theorem ntcsReact_facts (d : Dev) : d.SenseRaises d.ntcsReact ∧ OnlyObjects (fun k => isReaction k) d d.ntcsReact :=
  ⟨frame_sense.foldl (frame_sense.refl d) _ fun d i => (ntcReact_step d (i + 1)).frame, OnlyObjects.foldl (OnlyObjects.refl d) _ fun d i _ => (ntcReact_step d (i + 1)).objs⟩

theorem ntcsReact_sets {d : Dev} {i : Nat} {dom : Domain} {t : Int} (hi : i < 8) (h : d.NtcHot i dom t) (ht : -500 ≤ t) : d.ntcsReact.inForce 0xD301 dom ∧ (d.ntcsReact.sensorOf (67 + i)).hot = true := by
  refine foldl_reaches (f := fun d i => d.ntcReact (i + 1)) (P := fun e => e.NtcHot i dom t) (Q := fun e => e.inForce 0xD301 dom ∧ (e.sensorOf (67 + i)).hot = true) (x := i) (l := List.range 8)
    (fun e y hy he => ?_) (fun e he => ntcReact_sets he ht) (fun e y hy he => ?_) (List.mem_range.mpr hi) (by decide) d h
  · have hstep := ntcReact_step e (y + 1)
    have hsame := hstep.others (67 + i) (by omega)
    have hkeep (k : Nat) (hk : k ∈ [at' Obj.NTC_DOMAIN i, at' Obj.NTC_HOT i, at' Obj.NTC_TRIP i]) : (e.ntcReact (y + 1)).o k = e.o k := by
      obtain ⟨-, hst, hre, -⟩ := ntcKeys i (List.mem_range.mpr hi) k hk
      exact hstep.objs.same k hre hst
    obtain ⟨hs, hx⟩ := el_sensor (n := 67 + i) (by omega)
    refine ⟨⟨?_, ?_⟩, ?_, ?_, ?_, ?_, ?_⟩
    · rw [hstep.objs.same _ (isReaction_sensor hs) (isStatus_sensor hs), he.reads.1]
    · rw [hstep.objs.same _ (isReaction_sensor hx) (isStatus_sensor hx), he.reads.2]
    · rw [hkeep _ (by simp), he.own]
    · rw [hkeep _ (by simp)]
      exact he.hot
    · rw [hkeep _ (by simp)]
      exact he.trip
    · rw [hsame, he.newHot]
    · rw [hsame, he.newTrip]
  · have hstep := ntcReact_step e (y + 1)
    exact ⟨hstep.keeps _ _ he.1, by rw [hstep.others _ (by omega), he.2]⟩

/-! ### The end of a slow sample -/

theorem Dev.ends_ntcsCool (d : Dev) : d.EndsOnly d.ntcsCool := by
  refine ends_foldl (fun d dom => ?_) _ d
  have hwhen (x : Dev) (b : Bool) (code : Nat) : x.EndsOnly (x.when b (fun d => d.causeGoneOn code dom)) := by
    cases b
    · exact .refl x
    · exact x.ends_causeGoneOn _ _
  exact (hwhen _ _ _).trans (hwhen _ _ _)

theorem ntcsCool_keeps {d : Dev} {c : Nat} {m : Domain} (h : d.inForce c m) : d.ntcsCool.inForce c m := by
  have hwhen (x : Dev) (b : Bool) (code : Nat) (dom : Domain) (hx : x.inForce c m) : (x.when b (fun d => d.causeGoneOn code dom)).inForce c m := by
    cases b
    · exact hx
    · exact inForce_causeGoneOn x _ _ hx
  exact List.foldlRecOn _ _ (motive := fun d : Dev => d.inForce c m) h fun b hb dom _ => hwhen _ _ _ _ (hwhen _ _ _ _ hb)

theorem Dev.LinkOnly.raises {d e : Dev} (h : d.LinkOnly e) : d.RaisesOnly e := Dev.raisesOnly_iff.mpr ⟨(congrArg Dev.unraised h.1 :), h.2⟩

/-- The end of a slow sample. -/
def Dev.slowEnd (d : Dev) : Dev := d.ntcsCool.driveChopper.showMaxima

theorem slowEnd_facts (d : Dev) : d.RaisesOnly d.slowEnd ∧ OnlyObjects (fun k => isChopKey k || isMaximum k) d d.slowEnd ∧ d.slowEnd.sensors = d.sensors ∧ ∀ c m, d.inForce c m → d.slowEnd.inForce c m := by
  unfold Dev.slowEnd
  have hends := d.ends_ntcsCool
  have hkeeps (c : Nat) (m : Domain) (h : d.inForce c m) := ntcsCool_keeps h
  generalize d.ntcsCool = x at *
  obtain ⟨hlink, -, hobj⟩ := x.driveChopper_frame
  generalize x.driveChopper = y at *
  obtain ⟨hshow, hmax⟩ := showMaxima_facts y
  generalize y.showMaxima = e at *
  have hysens : y.sensors = x.sensors := (Dev.linkOnly_iff.mp hlink).sensors
  have hycoll : y.coll = x.coll := (Dev.linkOnly_iff.mp hlink).coll
  refine ⟨hends.raises.trans (hlink.raises.trans (Dev.ShowsOnly.raises hshow)), ?_, ?_, fun c m h => Dev.inForce_of_coll (hshow.coll.trans hycoll) (hkeeps c m h)⟩
  · exact ((hends.objs _).trans (hobj.mono fun k h => by simp [h])).trans (hmax.mono fun k h => by simp [h])
  · obtain ⟨a, rfl⟩ := hends
    exact hshow.sensors.trans hysens

theorem slowSample_same (d : Dev) (t u : Int) (ntc : Vector Int 8) : d.slowSample (Vector.replicate 6 t) (Vector.replicate 4 u) ntc = (d.slowRows t u ntc).ntcsReact.slowEnd := rfl

theorem slowEnd_sensor {k : Nat} (h : isSensor k = true) : isChopKey k = false ∧ isMaximum k = false := by
  have hidx := isSensor_iff.mp h
  refine ⟨?_, (isMaximum_sensor h).1⟩
  simp only [isChopKey, keyIdx, Obj.CHOP_STATE, Bool.or_eq_false_iff, beq_eq_false_iff_ne]
  omega

theorem slowTempSample_unset (s : State) (t u v : Int) (ha : s.dev.alive = true) (hlost : s.dev.hnLost = []) (hdom : ((List.range 8).all (fun i => s.dev.o (at' Obj.NTC_DOMAIN i) == 0) = true))
    (hstate : ((List.range 4).all (fun n => s.dev.o (Obj.SENSOR_STATE + 62 + n) == 0) = true)) (ht : -1000 ≤ t ∧ t < 1300) (hu : -500 ≤ u ∧ u < 1000) (_hchop : s.dev.link.changed = none) :
    Completes (.slowTempSample (Vector.replicate 6 t) (Vector.replicate 4 u) (Vector.replicate 8 v)) s (fun e => (∀ n ∈ List.range 6, e.o (Obj.TEMP + 56 + n) = t) ∧ (∀ n ∈ List.range 4, e.o (Obj.TEMP + 62 + n) = u) ∧
      (∀ n ∈ List.range 8, e.o (Obj.SENSOR_STATE + 66 + n) = 2 ∧ e.o (Obj.TEMP + 66 + n) = -32768) ∧
      ({ s.dev with sensors := e.sensors } : Dev).RaisesOnly e ∧ OnlyObjects (fun k => keyIdx k == keyIdx Obj.TEMP || keyIdx k == keyIdx Obj.SENSOR_STATE || keyIdx k == keyIdx Obj.DOMAIN_MAX || k == Obj.DEVICE_MAX || k == Obj.CHOP_STATE || keyIdx k == keyIdx Obj.STATUS_6020) s.dev e) := by
  refine completes_live_eq _ rfl ha (slowSample_same s.dev t u (Vector.replicate 8 v)) ?_
  have hzero (j : Nat) (hj : j ∈ List.range 8) : s.dev.n (at' Obj.NTC_DOMAIN j) = 0 := Dev.n_of_o (m := 0) (by simpa using List.all_eq_true.mp hdom j hj)
  have hx := slowRows_facts (ntc := Vector.replicate 8 v) hlost hstate ht hu fun j hj h0 => absurd (hzero j hj) h0
  generalize s.dev.slowRows t u (Vector.replicate 8 v) = x at *
  have hreact := ntcsReact_unset (d := x) fun i hi => by
    obtain ⟨hs, hst, -⟩ := ntcKeys i hi (at' Obj.NTC_DOMAIN i) (by simp)
    rw [Dev.n_eq (hx.objs.same _ hs hst), hzero i hi]
  generalize x.ntcsReact = y at *
  obtain ⟨hraises, hobj, -, -⟩ := slowEnd_facts y
  generalize y.slowEnd = e at *
  have hkeep (k : Nat) (hk : isSensor k = true) : e.settle.o k = x.o k := by
    rw [Dev.o_settle _ (isStatus_sensor hk), hobj.same _ (by simp [slowEnd_sensor hk]) (isStatus_sensor hk), hreact.o]
  refine ⟨fun n hn => ?_, fun n hn => ?_, fun n hn => ?_, (frame_sense.settle (frame_sense.trans hx.frame (frame_sense.trans hreact.sense hraises.sense))).raises, ?_⟩
  · have hlt := List.mem_range.mp hn
    obtain ⟨-, hkt⟩ := el_sensor (n := 57 + n) (by omega)
    rw [show Obj.TEMP + 56 + n = el Obj.TEMP (57 + n) by simp only [el]; omega, hkeep _ hkt]
    exact (hx.hn n hn).2
  · have hlt := List.mem_range.mp hn
    obtain ⟨-, hkt⟩ := el_sensor (n := 63 + n) (by omega)
    rw [show Obj.TEMP + 62 + n = el Obj.TEMP (63 + n) by simp only [el]; omega, hkeep _ hkt]
    exact (hx.modules n hn).2
  · have hlt := List.mem_range.mp hn
    obtain ⟨hks, hkt⟩ := el_sensor (n := 67 + n) (by omega)
    rw [show Obj.SENSOR_STATE + 66 + n = el Obj.SENSOR_STATE (67 + n) by simp only [el]; omega, show Obj.TEMP + 66 + n = el Obj.TEMP (67 + n) by simp only [el]; omega, hkeep _ hks, hkeep _ hkt]
    exact (hx.ntcs n hn).1 (hzero n hn)
  · refine (((hx.objs.mono fun k h => ?_).trans (hreact.objs _)).trans (hobj.mono fun k h => ?_)).settle
    · simp only [isSensor, Bool.or_eq_true] at h ⊢
      tauto
    · simp only [isChopKey, isMaximum, Bool.or_eq_true] at h ⊢
      rcases h with (h | h) | h
      · tauto
      · exact .inr h
      · tauto

theorem slowTempSample_ntcHot (s : State) (t u : Int) (ntc : Vector Int 8) (i : Fin 8) (dom : Domain) (ha : s.dev.alive = true) (hlost : s.dev.hnLost = [])
    (hdom : ((List.range 8).all (fun j => s.dev.o (at' Obj.NTC_DOMAIN j) == if j = i.val then dom.num else 0) = true)) (hstate : ((List.range 4).all (fun n => s.dev.o (Obj.SENSOR_STATE + 62 + n) == 0) = true))
    (hown : s.dev.o (Obj.SENSOR_STATE + 66 + i) = 0) (_hd : dom = .tra ∨ dom = .grd ∨ dom = .act) (ht : -1000 ≤ t ∧ t < 1300) (hu : -500 ≤ u ∧ u < 1000) (hhot : s.dev.o (at' Obj.NTC_HOT i) ≤ ntc[i] ∧ ntc[i] ≤ 2000 ∧ -500 ≤ ntc[i])
    (htrip : ntc[i] < s.dev.o (at' Obj.NTC_TRIP i)) (hnewHot : (s.dev.sensorOf (67 + i)).hot = false) (hnewTrip : (s.dev.sensorOf (67 + i)).trip = false) (_hchop : s.dev.link.changed = none) :
    Completes (.slowTempSample (Vector.replicate 6 t) (Vector.replicate 4 u) ntc) s (fun e => e.o (Obj.TEMP + 66 + i) = ntc[i] ∧ e.inForce 0xD301 dom ∧ e.derated dom = true ∧
      ({ s.dev with sensors := e.sensors } : Dev).RaisesOnly e ∧ OnlyObjects (fun k => keyIdx k == keyIdx Obj.TEMP || keyIdx k == keyIdx Obj.SENSOR_STATE || keyIdx k == keyIdx Obj.DOMAIN_MAX || k == Obj.DEVICE_MAX || k == Obj.CHOP_STATE || keyIdx k == keyIdx Obj.STATUS_6020 || isReaction k) s.dev e) := by
  refine completes_live_eq _ rfl ha (slowSample_same s.dev t u ntc) ?_
  have hi := List.mem_range.mpr i.isLt
  have hget : ntc.toList.getD i 0 = ntc[i] := by simp [List.getD]
  have howner (j : Nat) (hj : j ∈ List.range 8) : s.dev.o (at' Obj.NTC_DOMAIN j) = ((if j = i.val then dom.num else 0 : Nat) : Int) := by simpa using List.all_eq_true.mp hdom j hj
  have hiown : s.dev.o (at' Obj.NTC_DOMAIN i) = dom.num := by simpa using howner i hi
  have hx := slowRows_facts (ntc := ntc) hlost hstate ht hu fun j hj h0 => by
    have hji : j = i := by
      by_contra hne
      exact h0 (Dev.n_of_o (m := 0) (by simpa [hne] using howner j hj))
    subst hji
    rw [hget, show el Obj.SENSOR_STATE (67 + i) = Obj.SENSOR_STATE + 66 + i by simp only [el]; omega]
    exact ⟨hown, hhot.2.2, hhot.2.1⟩
  generalize s.dev.slowRows t u ntc = x at *
  have hkey (k : Nat) (hk : k ∈ [at' Obj.NTC_DOMAIN i, at' Obj.NTC_HOT i, at' Obj.NTC_TRIP i]) : x.o k = s.dev.o k := by
    obtain ⟨hs, hst, -⟩ := ntcKeys i hi k hk
    exact hx.objs.same k hs hst
  have hnum : dom.num ≠ 0 := by cases dom <;> decide
  have hread : x.Reads (67 + i) 0 ntc[i] := by
    obtain ⟨-, hset⟩ := hx.ntcs i hi
    rw [← hget]
    exact hset (by rw [Dev.n_of_o hiown]; exact hnum)
  have hready : x.NtcHot i dom ntc[i] := ⟨hread, by rw [hkey _ (by simp), hiown], by rw [hkey _ (by simp)]; exact hhot.1, by rw [hkey _ (by simp)]; exact htrip, by rw [(hx.heat i hi).1, hnewHot], by rw [(hx.heat i hi).2, hnewTrip]⟩
  obtain ⟨hforce, hset⟩ := ntcsReact_sets i.isLt hready hhot.2.2
  obtain ⟨hyframe, hyobj⟩ := ntcsReact_facts x
  generalize x.ntcsReact = y at *
  obtain ⟨hraises, hobj, hsens, hkeeps⟩ := slowEnd_facts y
  generalize y.slowEnd = e at *
  refine ⟨?_, (Dev.inForce_settle_iff _ _ _).mpr (hkeeps _ _ hforce), ?_, (frame_sense.settle (frame_sense.trans hx.frame (frame_sense.trans hyframe hraises.sense))).raises, ?_⟩
  · obtain ⟨-, hkt⟩ := el_sensor (n := 67 + i) (by omega)
    rw [show Obj.TEMP + 66 + i = el Obj.TEMP (67 + i) by simp only [el]; omega, Dev.o_settle _ (isStatus_sensor hkt), hobj.same _ (by simp [slowEnd_sensor hkt]) (isStatus_sensor hkt),
      hyobj.same _ (isReaction_sensor hkt) (isStatus_sensor hkt), hread.2]
  · obtain ⟨-, hst, hre, hch, hmx⟩ := ntcKeys i hi (at' Obj.NTC_DOMAIN i) (by simp)
    have hedom : e.settle.n (at' Obj.NTC_DOMAIN i) = dom.num := by
      refine Dev.n_of_o ?_
      rw [Dev.o_settle _ hst, hobj.same _ (by simp [hch, hmx]) hst, hyobj.same _ hre hst, hkey _ (by simp), hiown]
    have hehot : (Tab.get ({} : Sensor) e.sensors (66 + (i.val + 1))).hot = true := by
      rw [hsens, ← hset]
      exact congrArg (fun m => (Tab.get ({} : Sensor) y.sensors m).hot) (by omega)
    have hmem : i.val + 1 ∈ e.settle.ntcOf dom.num (fun s => s.hot) := by
      refine List.mem_filter.mpr ⟨(by decide : ∀ j ∈ List.range 8, j + 1 ∈ [1, 2, 3, 4, 5, 6, 7, 8]) i hi, ?_⟩
      simp [hedom, hehot]
    unfold Dev.derated
    rw [Bool.not_eq_true', List.isEmpty_eq_false_iff]
    exact List.ne_nil_of_mem hmem
  · refine (((hx.objs.mono fun k h => ?_).trans (hyobj.mono fun k h => ?_)).trans (hobj.mono fun k h => ?_)).settle
    · simp only [isSensor, Bool.or_eq_true] at h ⊢
      tauto
    · simp [h]
    · simp only [isChopKey, isMaximum, Bool.or_eq_true] at h ⊢
      rcases h with (h | h) | h
      · tauto
      · exact .inl (.inr h)
      · tauto

/-- Settles O53: the samples of the die, of the drivers and of the slow sensors, and the end of a pause. -/
theorem temperatures : Obligations.Temperatures :=
  ⟨dieTempSample_middle, dieTempSample_hot, dieTempSample_driverHot, slowTempSample_unset, slowTempSample_ntcHot, throttlePauseEnd_completes⟩

end Sys2Proof.Machine
end

section
/-! nFAULT, O52 (R430). -/

namespace Sys2Proof.Machine

theorem nfaultLevelWrite_delivered (s : State) (v : Bool) (hp : s.dev.phase = .service) (hw : s.dev.writes = []) (hpol : s.dev.o Obj.NFAULT_POLICY = 0) (hsafe : s.dev.safeState ≠ 2) (hfuse : s.dev.o Obj.FUSE_DEFAULTS = 0) :
    Completes (.nfaultLevelWrite v) s (fun e => e.result = 0 ∧ e.writes = [{ key := Obj.NFAULT_LEVEL, val := b2i v, block := none }] ∧ ({ s.dev with result := e.result, writes := e.writes } : Dev).ShowsOnly e ∧ OnlyObjects (fun _ => false) s.dev e) := by
  have hfree : s.dev.nfForced = false := by simp [Dev.nfForced, Dev.b, hsafe, hfuse]
  refine completes_serve_delivered (f := fun d => d.nfaultLevelWrite (b2i v)) Obj.NFAULT_LEVEL (b2i v) rfl hp ?_ fun e h1 h2 h3 h4 => ⟨h1, by rw [h2, hw]; rfl, h3, h4⟩
  unfold Dev.nfaultLevelWrite
  rw [if_neg (by cases v <;> decide), Dev.ahead_nil hw, if_neg (by simp [hpol, hfree])]

theorem nfaultLevelWrite_refused (s : State) (v : Bool) (hp : s.dev.phase = .service) (hw : s.dev.writes = []) (h : s.dev.o Obj.NFAULT_POLICY = 1 ∨ s.dev.safeState = 2) :
    Completes (.nfaultLevelWrite v) s (fun e => e.result = resState ∧ ({ s.dev with result := e.result } : Dev).ShowsOnly e ∧ OnlyObjects (fun _ => false) s.dev e) := by
  have hbar : s.dev.o Obj.NFAULT_POLICY = 1 ∨ s.dev.nfForced = true := h.imp_right fun h => by simp [Dev.nfForced, h]
  refine completes_serve_result (f := fun d => d.nfaultLevelWrite (b2i v)) resState rfl hp ?_ fun e h1 h2 h3 => ⟨h1, h2, h3⟩
  unfold Dev.nfaultLevelWrite
  rw [if_neg (by cases v <;> decide), Dev.ahead_nil hw, if_pos hbar]

/-- The memory with nFAULT's pulse over. -/
def Dev.pulseEnded (d : Dev) : Dev := { d with nfPulse := false }

theorem nfaultPulseEnd_completes (s : State) (ha : s.dev.alive = true) :
    Completes (.nfaultPulseEnd) s (fun e => e.nfPulse = false ∧ e.o Obj.PIN = e.o Obj.NFAULT_LEVEL ∧ e.trace = s.dev.trace ∧ ({ s.dev with nfPulse := e.nfPulse } : Dev).ShowsOnly e ∧ OnlyObjects (fun _ => false) s.dev e) := by
  refine completes_run_eq (f := fun d => d.pulseEnded) s.dev.pulseEnded rfl rfl ?_
  have hpulse : s.dev.pulseEnded.settle.nfPulse = false := Dev.settle_nfPulse _
  obtain ⟨level, hlevel, hpin⟩ := Dev.o_settle_pin (d := s.dev.pulseEnded) ha
  refine ⟨hpulse, ?_, Dev.settle_trace _, ?_, (show OnlyObjects (fun _ => false) s.dev s.dev.pulseEnded from ⟨fun _ _ _ => rfl⟩).settle⟩
  · rw [hpin, hlevel]
    exact congrArg b2i (Bool.or_false level)
  · rw [hpulse]
    exact Dev.shows_settle s.dev.pulseEnded

end Sys2Proof.Machine
end

section
/-! Layer: what the steps of a ledger period keep, whatever the link does: the phase, the delivered writes, the exits that count and RECENT (R186). -/

namespace Sys2Proof.Machine

/-- A step that keeps the phase, the delivered writes, the exits and RECENT. -/
structure Dev.PeriodStep (d e : Dev) : Prop where
  phase : e.phase = d.phase
  writes : e.writes = d.writes
  exits : e.coll.exits = d.coll.exits
  objs : OnlyObjects (fun k => k != Obj.RECENT) d e

theorem Dev.PeriodStep.refl (d : Dev) : d.PeriodStep d := ⟨rfl, rfl, rfl, .refl d⟩

theorem Dev.PeriodStep.trans {a b c : Dev} (h : a.PeriodStep b) (g : b.PeriodStep c) : a.PeriodStep c :=
  ⟨g.phase.trans h.phase, g.writes.trans h.writes, g.exits.trans h.exits, h.objs.trans g.objs⟩

theorem reaction_ne_recent (k : Nat) (h : isReaction k = true) : (k != Obj.RECENT) = true := by
  rw [bne_iff_ne]
  rintro rfl
  exact absurd h (by decide)

theorem Dev.PeriodStep.of_stops {d e : Dev} (h : d.StopsOnly e) (ho : d.Quiet e) : d.PeriodStep e :=
  ⟨h.phase, h.writes, congrArg Collector.exits h.coll, ho.mono reaction_ne_recent⟩

section
variable {a d : Dev} (h : a.PeriodStep d)
include h

theorem Dev.PeriodStep.setO (k : Nat) (v : Int) (hk : k ≠ Obj.RECENT) : a.PeriodStep (d.setO k v) :=
  h.trans ⟨rfl, rfl, rfl, (OnlyObjects.refl d).setO k v (by simp [hk])⟩

theorem Dev.PeriodStep.event (x : Nat) : a.PeriodStep (d.event x) := h.trans (.of_stops (d.stops_event x) (quiet_event d x))

theorem Dev.PeriodStep.when (b : Bool) {f : Dev → Dev} (hf : ∀ d : Dev, d.PeriodStep (f d)) : a.PeriodStep (d.when b f) := by
  cases b
  · exact h
  · exact h.trans (hf d)

theorem Dev.PeriodStep.foldl {α : Type} (l : List α) {f : Dev → α → Dev} (hf : ∀ (d : Dev) (x : α), x ∈ l → d.PeriodStep (f d x)) : a.PeriodStep (l.foldl f d) := by
  induction l generalizing d with
  | nil => exact h
  | cons x xs ih => exact ih (h.trans (hf d x List.mem_cons_self)) fun d y hy => hf d y (List.mem_cons_of_mem _ hy)

theorem Dev.PeriodStep.causeGone (code : Nat) : a.PeriodStep (d.causeGone code) := h.trans ⟨rfl, rfl, rfl, ⟨fun _ _ _ => rfl⟩⟩

theorem Dev.PeriodStep.updLink (f : Link → Link) : a.PeriodStep (d.updLink f) := h.trans ⟨rfl, rfl, rfl, ⟨fun _ _ _ => rfl⟩⟩

end

theorem Dev.exits_raiseWith (d : Dev) (code : Nat) (dom : Domain) (src : FaultSrc) (lasting inj : Bool) : (d.raiseWith code dom src lasting inj).coll.exits = d.coll.exits := by
  have hlog (x : Dev) : (x.logAdd code 0 2).coll.exits = x.coll.exits := by
    simp only [Dev.logAdd, Dev.addWrap, Dev.setO_coll]
  unfold Dev.raiseWith
  split
  · rw [(Dev.stops_postmark ..).coll, hlog]
  · split
    · rfl
    · simp only []
      rw [(Dev.stops_react ..).coll, (Dev.stops_postmark ..).coll, hlog]
      rfl

theorem Dev.PeriodStep.raise {a d : Dev} (h : a.PeriodStep d) (code : Nat) (lasting : Bool) (src : FaultSrc) : a.PeriodStep (d.raise code lasting src) := by
  refine h.trans ⟨?_, ?_, Dev.exits_raiseWith _ _ _ _ _ _, (OnlyObjects.refl d).raise code lasting src reaction_ne_recent⟩
  · simp
  · simp

/-! ### The link's steps -/

theorem driveChopper_periodStep (d : Dev) : d.PeriodStep d.driveChopper := .of_stops d.stops_driveChopper (quiet_driveChopper d)

theorem showTier_periodStep (d : Dev) : d.PeriodStep d.showTier := (Dev.PeriodStep.refl d).setO _ _ (by decide)

theorem gateSet_periodStep (d : Dev) (g : Nat) : d.PeriodStep (d.gateSet g) := by
  have hkey (k : Nat) (hk : Obj.RECENT < k) : at' k (g - 1) ≠ Obj.RECENT := by simp only [at']; omega
  unfold Dev.gateSet
  exact ((Dev.PeriodStep.refl d).setO _ _ (hkey _ (by decide))).setO _ _ (hkey _ (by decide))

theorem openSource_periodStep (d : Dev) (src : Nat) : d.PeriodStep (d.openSource src) := .of_stops (d.stops_openSource src) (quiet_openSource d src)

theorem serveOpenRequest_periodStep (d : Dev) : d.PeriodStep d.serveOpenRequest := by
  unfold Dev.serveOpenRequest
  split
  · exact .refl d
  · split
    · exact ⟨rfl, rfl, rfl, ⟨fun _ _ _ => rfl⟩⟩
    · exact (openSource_periodStep d 0).trans (openSource_periodStep _ 1)

theorem chopHeat_periodStep (d : Dev) (uj : Nat) : d.PeriodStep (d.chopHeat uj) := by
  unfold Dev.chopHeat
  exact ((((Dev.PeriodStep.refl d).updLink _).setO Obj.CHOP_ENERGY _ (by decide)).when _ fun d => ((Dev.PeriodStep.refl d).event _).raise _ _ _).setO Obj.CHOP_STATE _ (by decide)

theorem chopRefresh_periodStep (d : Dev) : d.PeriodStep d.chopRefresh := by
  have hreport : d.PeriodStep d.chopReported := by
    unfold Dev.chopReported
    split
    · exact (((Dev.PeriodStep.refl d).updLink _).event _).raise _ _ _
    · split
      · exact ((Dev.PeriodStep.refl d).updLink _).causeGone _
      · exact (Dev.PeriodStep.refl d).updLink _
  rw [Dev.chopRefresh_eq]
  exact hreport.trans ((driveChopper_periodStep _).trans (showTier_periodStep _))

theorem sourceReturns_periodStep (d : Dev) (src i : Nat) : d.PeriodStep (d.sourceReturns src i) := by
  unfold Dev.sourceReturns
  simp only []
  refine (Dev.PeriodStep.refl d).when _ fun d => ?_
  have hfeed : d.PeriodStep (d.updFeed src (fun f => { f with lost := false, closed := false })) := ⟨rfl, rfl, rfl, ⟨fun _ _ _ => rfl⟩⟩
  exact hfeed.when _ fun d => (Dev.PeriodStep.refl d).causeGone _

theorem tierTwo_periodStep (d : Dev) (v : Nat) : d.PeriodStep (d.tierTwo v) := by
  unfold Dev.tierTwo
  simp only []
  split
  · exact (((Dev.PeriodStep.refl d).updLink _).event _).raise _ _ _
  · split
    · exact ((Dev.PeriodStep.refl d).updLink _).causeGone _
    · exact .refl d

theorem tierThreeEnds_periodStep (d : Dev) (v : Nat) : d.PeriodStep (d.tierThreeEnds v) := by
  unfold Dev.tierThreeEnds
  split
  · exact (Dev.PeriodStep.refl d).updLink _
  · split
    · exact (Dev.PeriodStep.refl d).updLink _
    · split
      · exact (Dev.PeriodStep.refl d).updLink _
      · split
        · exact .refl d
        · have hend : d.PeriodStep { d with tier3 := false } := ⟨rfl, rfl, rfl, ⟨fun _ _ _ => rfl⟩⟩
          exact ((hend.updLink _).causeGone _).causeGone _

theorem underVoltage_periodStep (d : Dev) (v : Nat) : d.PeriodStep (d.underVoltage v) := by
  unfold Dev.underVoltage
  simp only []
  split
  · exact (((Dev.PeriodStep.refl d).updLink _).event _).raise _ _ _
  · split
    · exact ((Dev.PeriodStep.refl d).updLink _).causeGone _
    · unfold Dev.causeBack
      split
      · exact (Dev.PeriodStep.refl d).raise _ _ _
      · exact .refl d

theorem coilOff?_periodStep (d : Dev) (n : Option Nat) : d.PeriodStep (d.coilOff? n) := by
  cases n with
  | none => exact .refl d
  | some n =>
    show d.PeriodStep (d.coilOff n)
    unfold Dev.coilOff
    split
    · have hctr : d.PeriodStep (d.updCtr n (fun c => { c with on := false, duty := 0 })) := ⟨rfl, rfl, rfl, ⟨fun _ _ _ => rfl⟩⟩
      exact hctr.setO _ _ (by simp only [at', Obj.STATE_5810, Obj.RECENT]; omega)
    · exact .refl d

theorem preFail_periodStep (d : Dev) : d.PeriodStep d.preFail := by
  unfold Dev.preFail
  split
  · exact .refl d
  · have habort : d.PeriodStep d.abortPrecharge := .of_stops d.stops_abortPrecharge (quiet_abortPrecharge d)
    exact (((habort.trans (coilOff?_periodStep _ _)).setO _ _ (by decide)).event _).raise _ _ _

theorem preVoltage_periodStep (d : Dev) (v : Nat) : d.PeriodStep (d.preVoltage v (fun _ d => d)) := by
  unfold Dev.preVoltage
  split
  · split
    · exact .refl d
    · split
      · exact ((Dev.PeriodStep.refl d).setO _ _ (by decide)).trans (preFail_periodStep _)
      · exact (Dev.PeriodStep.refl d).setO _ _ (by decide)
  · exact .refl d

theorem set5_periodStep (d : Dev) {k : Nat} (hk : Obj.RECENT < k) (a b c e f : Int) : d.PeriodStep (d.set5 k a b c e f) := by
  unfold Dev.set5
  exact (((((Dev.PeriodStep.refl d).setO _ _ (by omega)).setO _ _ (by omega)).setO _ _ (by omega)).setO _ _ (by omega)).setO _ _ (by omega)

theorem ledgerBooks_periodStep (d : Dev) (v : Nat) (meas : List Int) : d.PeriodStep (d.ledgerBooks v meas) := by
  unfold Dev.ledgerBooks
  simp only []
  refine Dev.PeriodStep.when ?_ _ fun d => ((Dev.PeriodStep.refl d).event _).raise _ _ _
  iterate 5 refine Dev.PeriodStep.trans ?_ (set5_periodStep _ (by decide) _ _ _ _ _)
  refine Dev.PeriodStep.updLink ?_ _
  iterate 7 refine Dev.PeriodStep.setO ?_ _ _ (by decide)
  exact .refl d

theorem loopPoisonGone_periodStep (d : Dev) : d.PeriodStep d.loopPoisonGone :=
  (Dev.PeriodStep.refl d).foldl _ fun d _ _ => (Dev.PeriodStep.refl d).when _ fun d => (Dev.PeriodStep.refl d).causeGone _

/-- The link's part of a period after its delivered writes. -/
def Dev.linkPeriod (d : Dev) (i : LinkIn) : Dev :=
  let d1 := ((d.setO Obj.VDC i.vdc).addWrap Obj.PERIODS).serveOpenRequest
  let d2 := ((((((d1.gateSet 8).gateSet 9).chopHeat i.chopEnergy).chopRefresh).sourceReturns 0 i.iTractor).sourceReturns 1
    i.iBattery).tierTwo i.vdc
  let d3 := ((d2.tierThreeEnds i.vdc).underVoltage i.vdc).preVoltage i.vdc (fun _ d => d)
  ((d3.ledgerBooks i.vdc i.measured).showTier).loopPoisonGone

theorem ledgerLink_eq (d : Dev) (i : LinkIn) : d.ledgerLink i = d.ledgerWrites.linkPeriod i := rfl

theorem linkPeriod_periodStep (d : Dev) (i : LinkIn) : d.PeriodStep (d.linkPeriod i) := by
  unfold Dev.linkPeriod
  have hstart : d.PeriodStep ((d.setO Obj.VDC i.vdc).addWrap Obj.PERIODS) := ((Dev.PeriodStep.refl d).setO _ _ (by decide)).setO _ _ (by decide)
  have h1 := hstart.trans (serveOpenRequest_periodStep _)
  have h2 := ((((((h1.trans (gateSet_periodStep _ 8)).trans (gateSet_periodStep _ 9)).trans (chopHeat_periodStep _ i.chopEnergy)).trans (chopRefresh_periodStep _)).trans
    (sourceReturns_periodStep _ 0 i.iTractor)).trans (sourceReturns_periodStep _ 1 i.iBattery)).trans (tierTwo_periodStep _ i.vdc)
  have h3 := ((h2.trans (tierThreeEnds_periodStep _ i.vdc)).trans (underVoltage_periodStep _ i.vdc)).trans (preVoltage_periodStep _ i.vdc)
  exact ((h3.trans (ledgerBooks_periodStep _ i.vdc i.measured)).trans (showTier_periodStep _)).trans (loopPoisonGone_periodStep _)

/-! ### The interlocks, the gates and the supplies -/

theorem setWindow_periodStep (d : Dev) (w : Option Nat) : d.PeriodStep (d.setWindow w) := (Dev.PeriodStep.refl d).foldl _ fun _ _ _ => ⟨rfl, rfl, rfl, ⟨fun _ _ _ => rfl⟩⟩

theorem updShift_periodStep (d : Dev) (f : Shift → Shift) : d.PeriodStep (d.updShift f) := ⟨rfl, rfl, rfl, ⟨fun _ _ _ => rfl⟩⟩

theorem showShift_periodStep (d : Dev) : d.PeriodStep d.showShift := (Dev.PeriodStep.refl d).setO _ _ (by decide)

theorem shiftLedger_periodStep (d : Dev) : d.PeriodStep d.shiftLedger := by
  unfold Dev.shiftLedger
  simp only []
  split
  · exact (updShift_periodStep d _).trans (setWindow_periodStep _ _)
  · split
    · exact ((updShift_periodStep d _).trans (setWindow_periodStep _ _)).trans (showShift_periodStep _)
    · split
      · split
        · exact (updShift_periodStep d _).trans (setWindow_periodStep _ _)
        · exact ((updShift_periodStep d _).trans (setWindow_periodStep _ _)).trans (showShift_periodStep _)
      · exact setWindow_periodStep d _

theorem creepCap_periodStep (d : Dev) : d.PeriodStep d.creepCap := by
  unfold Dev.creepCap
  split
  · exact .refl d
  · refine (Dev.PeriodStep.refl d).foldl _ fun d m _ => (Dev.PeriodStep.refl d).when _ fun d => ?_
    exact ((Dev.PeriodStep.refl d).setO _ _ (by cases m <;> decide)).setO _ _ (by cases m <;> decide)

theorem showSupplies_periodStep (d : Dev) : d.PeriodStep d.showSupplies := (Dev.PeriodStep.refl d).foldl _ fun d _ _ => (Dev.PeriodStep.refl d).setO _ _ (by decide)

theorem idleGates_periodStep (d : Dev) : d.PeriodStep d.idleGates := by
  have hset (d : Dev) (b : Bool) (g : Nat) : d.PeriodStep (d.when b fun d => d.gateSet g) := (Dev.PeriodStep.refl d).when b fun d => gateSet_periodStep d g
  exact ((((hset d _ 3).trans (hset _ _ 4)).trans (hset _ _ 5)).trans (hset _ _ 6)).trans (hset _ _ 7)

theorem refGone_periodStep (d : Dev) : d.PeriodStep d.refGone := (Dev.PeriodStep.refl d).when _ fun _ => ⟨rfl, rfl, rfl, ⟨fun _ _ _ => rfl⟩⟩

/-- The end of a ledger period, before nFAULT. -/
def Dev.periodEnd (d : Dev) : Dev := ((d.shiftLedger.creepCap).showSupplies.idleGates).refGone

theorem ledgerPeriod_eq (d : Dev) (i : LinkIn) : d.ledgerPeriod i = ((d.courierPeriod.periodCommands.ledgerWrites.linkPeriod i).periodEnd).nfEvaluate := rfl

theorem periodEnd_periodStep (d : Dev) : d.PeriodStep d.periodEnd :=
  ((((shiftLedger_periodStep d).trans (creepCap_periodStep _)).trans (showSupplies_periodStep _)).trans (idleGates_periodStep _)).trans (refGone_periodStep _)

theorem nfEvaluate_periodStep (d : Dev) : d.PeriodStep d.nfEvaluate := by
  unfold Dev.nfEvaluate
  split
  · exact .refl d
  · split
    · exact ⟨rfl, rfl, rfl, ⟨fun _ _ _ => rfl⟩⟩
    · split
      · exact .refl d
      · exact ⟨rfl, rfl, rfl, ⟨fun _ _ _ => rfl⟩⟩

end Sys2Proof.Machine
end

section
/-! The commands of a ledger period, O52 (R41, R430, R523). -/

namespace Sys2Proof.Machine

/-! ### LOCKOUT_CLEAR at the period (R523) -/

theorem courierPeriod_none {d : Dev} (h : d.couriers = []) : d.courierPeriod = d := by
  unfold Dev.courierPeriod
  rw [h]
  rfl

theorem ledgerWrites_none {d : Dev} (h : d.writes = []) : d.ledgerWrites = d := by
  unfold Dev.ledgerWrites
  rw [Dev.applyWrites_none h, h]
  rfl

/-- The memory with its delivered writes taken. -/
def Dev.written (d : Dev) : Dev := { d with writes := [] }

theorem periodCommands_lockoutClear {d : Dev} (h : d.writes = [{ key := Obj.LOCKOUT_CLEAR, val := 1, block := none }]) : d.periodCommands = d.written.lockoutsEnd := by
  have hcmd : periodCommand Obj.LOCKOUT_CLEAR = true := by decide
  unfold Dev.periodCommands
  rw [h]
  simp only [List.filter_cons, List.filter_nil, hcmd, if_true, Bool.not_true, Bool.false_eq_true, if_false]
  rfl

theorem lockoutsEnd_facts (d : Dev) : d.lockoutsEnd.o Obj.RECENT = 0 ∧ d.lockoutsEnd.coll.exits = [] ∧ d.lockoutsEnd.writes = d.writes := by
  have hraises := d.raises_endFaults clearable 4
  unfold Dev.lockoutsEnd Dev.showRecent
  refine ⟨?_, ?_, ?_⟩
  · rw [Dev.o_setO_same]
    rfl
  · rw [Dev.setO_coll]
  · obtain ⟨c, hc⟩ := hraises
    exact hc.writes

theorem ledgerPeriod_lockoutClear (s : State) (i : LinkIn) (ha : s.dev.alive = true) (hcour : s.dev.couriers = []) (hw : s.dev.writes = [{ key := Obj.LOCKOUT_CLEAR, val := 1, block := none }]) :
    Completes (.ledgerPeriod i) s (fun e => e.o Obj.RECENT = 0 ∧ e.coll.exits = [] ∧ e.writes = []) := by
  obtain ⟨hrecent, hexits, hwrites⟩ := lockoutsEnd_facts s.dev.written
  have hnone : s.dev.written.lockoutsEnd.writes = [] := hwrites
  have heq : s.dev.ledgerPeriod i = ((s.dev.written.lockoutsEnd.linkPeriod i).periodEnd).nfEvaluate := by
    rw [ledgerPeriod_eq, courierPeriod_none hcour, periodCommands_lockoutClear hw, ledgerWrites_none hnone]
  refine completes_live_eq _ rfl ha heq ?_
  generalize s.dev.written.lockoutsEnd = x at *
  have hstep := ((linkPeriod_periodStep x i).trans (periodEnd_periodStep _)).trans (nfEvaluate_periodStep _)
  generalize ((x.linkPeriod i).periodEnd).nfEvaluate = e at *
  refine ⟨?_, ?_, ?_⟩
  · rw [Dev.o_settle _ (by decide), hstep.objs.same _ (by decide) (by decide), hrecent]
  · rw [Dev.settle_coll, hstep.exits, hexits]
  · rw [Dev.settle_writes, hstep.writes, hnone]

/-! ### The phase through a whole period -/

def Dev.SamePhase (d e : Dev) : Prop := e.phase = d.phase

theorem frame_phase : FrameR Dev.SamePhase where
  refl _ := rfl
  trans h g := Eq.trans g h
  shows h := h.phase
  raises h := by
    obtain ⟨c, hc⟩ := h
    exact hc.phase

theorem phase_foldl {α : Type} {f : Dev → α → Dev} (h : ∀ (d : Dev) (x : α), d.SamePhase (f d x)) (l : List α) (d : Dev) : d.SamePhase (l.foldl f d) := frame_phase.foldl rfl l h

theorem phase_courierApply (d : Dev) (g : Nat) : d.SamePhase (d.courierApply g) := by
  have hanswer (d : Dev) (c : Nat) : d.SamePhase (d.courierAnswer g c) := by
    unfold Dev.courierAnswer
    simp only []
    split <;> exact rfl
  have hdone (d : Dev) (c : Nat) : d.SamePhase (d.courierDone g c) := rfl
  unfold Dev.courierApply
  simp only []
  refine frame_phase.event (frame_phase.setO (frame_phase.setO (frame_phase.setO (frame_phase.setO (frame_phase.trans ?_ (frame_phase.trans (hanswer _ 0) (hdone _ 2))) _ _) _ _) _ _) _ _) _
  split <;> exact rfl

theorem phase_applyWrites (d : Dev) (own : Nat → Bool) : d.SamePhase (d.applyWrites own) := by
  have hderived (d : Dev) (k : Nat) : d.SamePhase (d.derived k) := by
    unfold Dev.derived
    simp only []
    split
    · exact rfl
    · split
      · exact rfl
      · split
        · exact rfl
        · split
          · exact frame_phase.when (frame_phase.refl d) _ fun _ => rfl
          · split <;> exact rfl
  have hone (d : Dev) (w : PWrite) : d.SamePhase (d.applyWrite w) := by
    unfold Dev.applyWrite
    refine frame_phase.trans ?_ (hderived _ _)
    cases w.block <;> exact rfl
  exact frame_phase.trans (show d.SamePhase { d with writes := d.writes.filter (fun w => !(own w.key)) } from rfl) (phase_foldl hone _ _)

theorem phase_injectMemory (d : Dev) (i bits : Nat) : d.SamePhase (d.injectMemory i bits) := by
  unfold Dev.injectMemory
  simp only []
  split
  · exact frame_phase.addSat (frame_phase.refl d) _ _
  · exact frame_phase.raiseWith (frame_phase.event (frame_phase.setO (frame_phase.setO (frame_phase.addSat (frame_phase.refl d) _ _) _ _) _ _) _) _ _ _ _ _

theorem phase_supLockstep (d : Dev) (inj : Bool) : d.SamePhase (d.supLockstep inj) :=
  frame_phase.raiseWith (frame_phase.event (show d.SamePhase { d with power := { d.power with due := true } } from rfl) _) _ _ _ _ _

theorem phase_closeSession (d : Dev) (n : Nat) : d.SamePhase (d.closeSession n) := (congrArg Dev.phase (Dev.sessEnd_iff.mp (d.sessEnd_closeSession n)).1 :)

theorem phase_svcLockstep (d : Dev) (inj : Bool) : d.SamePhase (d.svcLockstep inj) := by
  have hclosed : d.SamePhase ([1, 2, 3, 4, 5, 6, 7, 8].foldl (fun d s => d.closeSession s) (d.event 0x01)) := frame_phase.foldl (frame_phase.event (frame_phase.refl d) 0x01) _ phase_closeSession
  unfold Dev.svcLockstep
  exact frame_phase.raiseWith hclosed _ _ _ _ _

theorem phase_badFrame (d : Dev) (h : Nat) (inj : Bool) : d.SamePhase (d.badFrame h inj) := by
  refine frame_phase.when (show d.SamePhase { d with hnBad := Tab.upd 0 d.hnBad h (· + 1), hnCount := Tab.upd 0 d.hnCount h (· + 1) } from rfl) _ fun d => ?_
  unfold Dev.linkLost
  split
  · exact frame_phase.refl d
  · exact frame_phase.raiseWith (show d.SamePhase { d with hnLost := insertOnce h d.hnLost } from rfl) _ _ _ _ _

theorem phase_injectApply (d : Dev) : d.SamePhase d.injectApply := by
  have hstart : d.SamePhase (((d.addSat Obj.INJECTIONS).event 0x0B).setO Obj.STATE_2320 1) := frame_phase.setO (frame_phase.event (frame_phase.addSat (frame_phase.refl d) _ _) _) _ _
  unfold Dev.injectApply
  simp only []
  generalize ((d.addSat Obj.INJECTIONS).event 0x0B).setO Obj.STATE_2320 1 = x at *
  split
  · exact frame_phase.setO (frame_phase.trans hstart (phase_injectMemory _ _ _)) _ _
  · exact hstart
  · exact hstart
  · exact frame_phase.setO (frame_phase.trans hstart (phase_supLockstep _ _)) _ _
  · exact frame_phase.setO (frame_phase.trans hstart (phase_svcLockstep _ _)) _ _
  · exact frame_phase.setO (frame_phase.foldl hstart _ fun d _ => phase_badFrame d _ _) _ _
  · exact hstart

theorem phase_periodCommands (d : Dev) : d.SamePhase d.periodCommands := by
  have hone (d : Dev) (w : PWrite) : d.SamePhase (d.periodWrite w) := by
    unfold Dev.periodWrite
    split_ifs
    · exact (frame_phase.raises (d.raises_endFaults clearable 4) :)
    · exact phase_injectApply d
    · exact rfl
    · exact frame_phase.foldl (frame_phase.refl d) _ fun d _ => frame_phase.setO (frame_phase.refl d) _ _
  unfold Dev.periodCommands
  exact frame_phase.trans (frame_phase.trans (show d.SamePhase { d with writes := d.writes.filter (fun w => !(periodCommand w.key)) } from rfl) (phase_applyWrites _ _)) (phase_foldl hone _ _)

theorem phase_takeAssign (d : Dev) (dom : Domain) : d.SamePhase (d.takeAssign dom) := by
  obtain ⟨g, hg⟩ := d.takeAssign_eq dom
  rw [hg]
  exact rfl

theorem phase_groupDiag (d : Dev) (g : Nat) (v : Int) : d.SamePhase (d.groupDiag g v) := frame_phase.foldl (frame_phase.refl d) _ fun d _ => frame_phase.setO (frame_phase.refl d) _ _

theorem phase_startTest (d : Dev) (g : Nat) (ok rise : Bool) : d.SamePhase (d.startTest g ok rise) := by
  unfold Dev.startTest
  split
  · exact phase_groupDiag d g _
  · split
    · exact phase_groupDiag d g _
    · exact frame_phase.setO (show d.SamePhase { d with testing := insertOnce g d.testing, riseTests := if rise then insertOnce g d.riseTests else d.riseTests } from rfl) _ _

theorem phase_startReady (d : Dev) (dom : Domain) : d.SamePhase (d.startReady dom).1 := by
  have htake := phase_takeAssign d dom
  unfold Dev.startReady
  generalize d.takeAssign dom = x at *
  split
  · exact frame_phase.refl d
  · simp only []
    split
    · exact htake
    · have hdone : d.SamePhase { x with tested := insertOnce dom.num x.tested } := htake
      exact frame_phase.foldl hdone _ fun d _ => phase_startTest d _ _ _

theorem phase_coilOn (d : Dev) (n : Nat) : d.SamePhase (d.coilOn n) := rfl

theorem phase_preStart (d : Dev) (src : Nat) (second : Option Nat) : d.SamePhase (d.preStart src second) := by
  unfold Dev.preStart
  have hready := phase_startReady d .lnk
  generalize (d.startReady .lnk).1 = x at *
  simp only []
  generalize hj : ({ src := src, second := second, vs := (x.feedOf src).volts, mode := x.n Obj.PRE_MODE } : Precharge) = j
  have hjob : x.SamePhase ((x.updLink (fun l => { l with job := some j, starts := (l.starts.filter (fun t => decide (x.wall < t + 60000000000))) ++ [x.wall] })).when (decide (x.n Obj.PRE_MODE ≠ 1)) (fun d => d.setO Obj.PRE_STATE 1)) :=
    frame_phase.when (show x.SamePhase (x.updLink _) from rfl) _ fun d => frame_phase.setO (frame_phase.refl d) _ _
  generalize (x.updLink (fun l => { l with job := some j, starts := (l.starts.filter (fun t => decide (x.wall < t + 60000000000))) ++ [x.wall] })).when (decide (x.n Obj.PRE_MODE ≠ 1)) (fun d => d.setO Obj.PRE_STATE 1) = y at *
  have hy := frame_phase.trans hready hjob
  have hfail (z : Dev) : z.SamePhase z.preFail := (preFail_periodStep z).phase
  split
  · exact frame_phase.trans hy (hfail _)
  · split
    · exact frame_phase.trans hy (frame_phase.trans (frame_phase.raise (frame_phase.event (frame_phase.refl y) _) _ _ _) (hfail _))
    · split
      · split
        · exact frame_phase.trans hy (phase_coilOn _ _)
        · exact frame_phase.trans hy (hfail _)
      · split
        · exact frame_phase.trans hy (hfail _)
        · split
          · exact frame_phase.trans hy (frame_phase.trans (frame_phase.stops (y.stops_setPreSwitch true)) rfl)
          · split
            · exact frame_phase.trans hy (hfail _)
            · exact hy

theorem samePhase_updLink (d : Dev) (f : Link → Link) : d.SamePhase (d.updLink f) := rfl

/-- The sources named by a LINK_CTRL write go on with a precharge that serves one of them (R194). -/
def Dev.linkJob (d : Dev) (names : List Nat) : Dev :=
  match d.link.job with
  | some j => if names.contains j.src then d.updLink (fun l => { l with job := some { j with second := names.find? (· != j.src) } }) else d.abortPrecharge
  | none => d

/-- The sources that are to be precharged. -/
def Dev.linkTodo (d : Dev) (names : List Nat) : List Nat :=
  if d.link.job.isSome then [] else names.filter (fun s => match d.mainOf s with
    | some n => !(d.ctrOf n).on
    | none => false)

/-- The sources not named open, at once or after the close of another. -/
def Dev.linkOpens (d : Dev) (names : List Nat) (direct : Bool) : Dev :=
  [0, 1].foldl (fun d s =>
    if names.contains s then d.updLink (fun l => { l with opening := l.opening.filter (· != s) })
    else if direct && d.mainClosed s then d.updLink (fun l => { l with deferred := insertOnce s l.deferred })
    else d.openSource s) (d.updLink (fun l => { l with deferred := [], second := none }))

/-- The precharge of a named source starts, or waits. -/
def Dev.linkCloses (d : Dev) (todo : List Nat) (direct : Bool) : Dev :=
  let d3 := d.when (decide (d.link.discharge ≠ 0)) (fun d => ((d.updLink (fun l => { l with discharge := 0 })).setO Obj.PRE_STATE 0).driveChopper)
  if d3.link.job.isSome then d3
  else if direct then d3.updLink (fun l => { l with second := todo.head? })
  else match todo with
    | [] => d3
    | s :: t => d3.preStart s t.head?

/-- What follows the openings of a LINK_CTRL write. -/
def Dev.linkGoes (d : Dev) (names todo : List Nat) (direct : Bool) : Dev :=
  if names.isEmpty then ((d.setO Obj.PRE_STATE (if d.link.discharge = 0 then 0 else 6)).updLink (fun l => { l with after := 0 })).dischargeStart
  else if d.startBlocked .lnk then d
  else d.linkCloses todo direct

theorem linkApply_eq (d : Dev) (v : Nat) : ∃ todo direct, d.linkApply v = (((d.linkJob (linkSources v)).linkOpens (linkSources v) direct).linkGoes (linkSources v) todo direct) :=
  ⟨(d.linkJob (linkSources v)).linkTodo (linkSources v), _, rfl⟩

theorem phase_linkJob (d : Dev) (names : List Nat) : d.SamePhase (d.linkJob names) := by
  unfold Dev.linkJob
  split
  · split
    · exact samePhase_updLink d _
    · exact frame_phase.stops d.stops_abortPrecharge
  · exact frame_phase.refl d

theorem phase_linkOpens (d : Dev) (names : List Nat) (direct : Bool) : d.SamePhase (d.linkOpens names direct) := by
  refine frame_phase.foldl (samePhase_updLink d _) _ fun d s => ?_
  split
  · exact samePhase_updLink d _
  · split
    · exact samePhase_updLink d _
    · exact frame_phase.stops (d.stops_openSource s)

theorem phase_linkCloses (d : Dev) (todo : List Nat) (direct : Bool) : d.SamePhase (d.linkCloses todo direct) := by
  unfold Dev.linkCloses
  have hstop : d.SamePhase (d.when (decide (d.link.discharge ≠ 0)) (fun d => ((d.updLink (fun l => { l with discharge := 0 })).setO Obj.PRE_STATE 0).driveChopper)) :=
    frame_phase.when (frame_phase.refl d) _ fun d => frame_phase.trans (frame_phase.setO (samePhase_updLink d _) _ _) (frame_phase.stops (Dev.stops_driveChopper _))
  simp only []
  generalize d.when (decide (d.link.discharge ≠ 0)) (fun d => ((d.updLink (fun l => { l with discharge := 0 })).setO Obj.PRE_STATE 0).driveChopper) = x at *
  split
  · exact hstop
  · split
    · exact frame_phase.trans hstop (samePhase_updLink x _)
    · split
      · exact hstop
      · exact frame_phase.trans hstop (phase_preStart x _ _)

theorem phase_linkGoes (d : Dev) (names todo : List Nat) (direct : Bool) : d.SamePhase (d.linkGoes names todo direct) := by
  unfold Dev.linkGoes
  split
  · exact frame_phase.trans (frame_phase.trans (frame_phase.setO (frame_phase.refl d) _ _) (samePhase_updLink _ _)) (frame_phase.stops (Dev.stops_dischargeStart _))
  · split
    · exact frame_phase.refl d
    · exact phase_linkCloses d todo direct

theorem phase_linkApply (d : Dev) (v : Nat) : d.SamePhase (d.linkApply v) := by
  obtain ⟨todo, direct, h⟩ := linkApply_eq d v
  rw [h]
  exact frame_phase.trans (frame_phase.trans (phase_linkJob d _) (phase_linkOpens _ _ _)) (phase_linkGoes _ _ _ _)

theorem phase_ledgerWrites (d : Dev) : d.SamePhase d.ledgerWrites := by
  unfold Dev.ledgerWrites
  simp only []
  split
  · exact frame_phase.trans (phase_applyWrites d _) (phase_linkApply _ _)
  · exact phase_applyWrites d _

/-- nFAULT under policy 1, at the last step of a period (R430). -/
theorem nfEvaluate_policy {d : Dev} (hp : d.phase = .service) (hpol : d.nfEvaluate.o Obj.NFAULT_POLICY = 1) : d.nfEvaluate.nfLevel = d.nfEvaluate.classInForce (d.nfEvaluate.n Obj.NFAULT_CLASS) := by
  have hserves : d.nfServes = true := by simp [Dev.nfServes, hp]
  have ho : d.nfEvaluate.obj = d.obj := by
    unfold Dev.nfEvaluate
    split
    · rfl
    · split
      · rfl
      · split <;> rfl
  have hpol' : d.o Obj.NFAULT_POLICY = 1 := by rwa [Dev.o, ho] at hpol
  have heq : d.nfEvaluate = { d with nfSeen := true, nfLevel := d.classInForce (d.n Obj.NFAULT_CLASS) } := by
    unfold Dev.nfEvaluate
    rw [hserves, hpol']
    rfl
  rw [heq]
  rfl

theorem ledgerPeriod_policy (s : State) (i : LinkIn) (hp : s.dev.phase = .service) (_hw : s.dev.writes = []) :
    Completes (.ledgerPeriod i) s (fun e => e.o Obj.NFAULT_POLICY = 1 → e.nfLevel = e.classInForce (e.n Obj.NFAULT_CLASS)) := by
  have halive : s.dev.alive = true := by simp [Dev.alive, hp]
  have hcour : s.dev.SamePhase s.dev.courierPeriod := frame_phase.foldl (frame_phase.refl _) _ fun d e => phase_courierApply d e.1
  have hphase : ((s.dev.courierPeriod.periodCommands.ledgerWrites.linkPeriod i).periodEnd).phase = .service := by
    refine (frame_phase.trans (frame_phase.trans (frame_phase.trans (frame_phase.trans hcour (phase_periodCommands _)) (phase_ledgerWrites _)) (linkPeriod_periodStep _ i).phase) (periodEnd_periodStep _).phase :).trans hp
  refine completes_live_eq _ rfl halive (ledgerPeriod_eq s.dev i) fun hpol => ?_
  generalize (s.dev.courierPeriod.periodCommands.ledgerWrites.linkPeriod i).periodEnd = x at *
  have hlevel := nfEvaluate_policy hphase (Eq.trans (Dev.o_settle _ (by decide)).symm hpol)
  generalize x.nfEvaluate = e at *
  rw [Dev.settle_nfLevel, hlevel, Dev.n_eq (Dev.o_settle e (k := Obj.NFAULT_CLASS) (by decide))]
  simp [Dev.classInForce]

end Sys2Proof.Machine
end

section
/-! Layer: a quiet ledger period up to its books (R186, R192, R193, R204, R205, R207). -/

namespace Sys2Proof.Machine

/-- The link at rest at voltage `v`: no fault, request, precharge, discharge or tier, the chopper cold and off, no source lost. -/
structure Dev.AtRest (v : Nat) (d : Dev) : Prop where
  active : d.coll.active = []
  tier3 : d.tier3 = false
  openRequest : d.openRequest = false
  job : d.link.job = none
  discharge : d.link.discharge = 0
  tier2 : d.link.tier2 = false
  energy : d.link.energy = 0
  hot : d.link.hot = false
  on : d.link.on = false
  reg : d.link.reg = false
  faulty : d.chopFaulty = false
  shown : d.link.faultShown = false
  steer : 16384 * v < d.n Obj.STEER * d.n Obj.VDC_MAX * 10
  tractor : (d.feedOf 0).lost = false
  battery : (d.feedOf 1).lost = false
  shift : d.o Obj.SHIFT_DOMAINS = 0
  under : 10 * d.n Obj.V_UV < v ∨ d.link.underVolt = true

theorem atRest_of_linkQuiet {d : Dev} {i : LinkIn} (h : linkQuiet d i = true) : d.AtRest i.vdc ∧ d.writes = [] ∧ d.couriers = [] ∧ i.chopEnergy = 0 := by
  simp only [linkQuiet, Bool.and_eq_true, Bool.not_eq_true', beq_iff_eq, decide_eq_true_eq, List.isEmpty_iff, Option.isNone_iff_eq_none, Bool.or_eq_true] at h
  obtain ⟨⟨⟨⟨⟨⟨⟨⟨⟨⟨⟨⟨⟨⟨⟨⟨⟨⟨⟨⟨hw, hc⟩, ha⟩, h3⟩, -⟩, ho⟩, hj⟩, hd⟩, h2⟩, he⟩, hce⟩, hh⟩, hon⟩, hreg⟩, hf⟩, hs⟩, hst⟩, hl0⟩, hl1⟩, hsh⟩, hu⟩ := h
  exact ⟨⟨ha, h3, ho, hj, hd, h2, he, hh, hon, hreg, hf, hs, hst, hl0, hl1, hsh, hu⟩, hw, hc, hce⟩

/-- The objects that the steps of a quiet period write before its books. -/
def isStillKey (k : Nat) : Bool :=
  k == Obj.CHOP_ENERGY || k == Obj.CHOP_STATE || k == Obj.OV_TIER ||
    (keyIdx Obj.DT_NOW ≤ keyIdx k && keyIdx k < keyIdx Obj.DT_NOW + 9 && (keySub k == keySub Obj.DT_NOW || keySub k == keySub Obj.BLANK_NOW))

/-- The objects that a quiet period writes before its books. -/
def isRestKey (k : Nat) : Bool := k == Obj.VDC || k == Obj.PERIODS || isStillKey k

/-- `e` is `d` but for objects of `ks` and the time below Vdc_max (R207). -/
structure Dev.Rests (ks : Nat → Bool) (d e : Dev) : Prop where
  rest : ∃ b, e = { d with obj := e.obj, link := { d.link with below := b } }
  objs : OnlyObjects ks d e

theorem Dev.Rests.refl (ks : Nat → Bool) (d : Dev) : d.Rests ks d := ⟨⟨d.link.below, rfl⟩, .refl d⟩

theorem Dev.Rests.trans {ks : Nat → Bool} {a b c : Dev} (h : a.Rests ks b) (g : b.Rests ks c) : a.Rests ks c := by
  obtain ⟨x, hx⟩ := h.rest
  obtain ⟨y, hy⟩ := g.rest
  refine ⟨⟨y, ?_⟩, h.objs.trans g.objs⟩
  rw [hx] at hy
  exact hy

theorem Dev.Rests.mono {ks ls : Nat → Bool} {d e : Dev} (h : d.Rests ks e) (m : ∀ k, ks k = true → ls k = true) : d.Rests ls e := ⟨h.rest, h.objs.mono m⟩

theorem Dev.Rests.setO {ks : Nat → Bool} {a d : Dev} (h : a.Rests ks d) (k : Nat) (v : Int) (hk : ks k = true) : a.Rests ks (d.setO k v) :=
  h.trans ⟨⟨d.link.below, rfl⟩, (OnlyObjects.refl d).setO k v (by simp [hk])⟩

theorem Dev.AtRest.of_rests {v : Nat} {d e : Dev} (h : d.AtRest v) (g : d.Rests isRestKey e) : e.AtRest v := by
  obtain ⟨b, hb⟩ := g.rest
  have hlink : e.link = { d.link with below := b } := congrArg Dev.link hb
  have hcoll : e.coll = d.coll := (congrArg Dev.coll hb :)
  have hfeed (n : Nat) : e.feedOf n = d.feedOf n := by rw [Dev.feedOf, show e.feeds = d.feeds from (congrArg Dev.feeds hb :), Dev.feedOf]
  have hn (k : Nat) (h1 : isRestKey k = false) (h2 : isStatus k = false) : e.n k = d.n k := Dev.n_eq (g.objs.same k h1 h2)
  have hfaulty : e.chopFaulty = d.chopFaulty := by
    refine Dev.chopFaulty_congr (by rw [hlink]) (congrArg Dev.sensors hb :) (congrArg Dev.ocTrips hb :) (congrArg Dev.gates hb :) (fun n hn => ?_) fun n hn => ?_
    · interval_cases n <;> exact g.objs.same _ (by decide) (by decide)
    · have hbound := mem_group hn
      have hkey : isRestKey (el Obj.STATUS_6020 n) = false ∧ isStatus (el Obj.STATUS_6020 n) = false := by
        have hall : ∀ n ∈ List.range 41, isRestKey (el Obj.STATUS_6020 n) = false ∧ isStatus (el Obj.STATUS_6020 n) = false := by decide
        exact hall n (List.mem_range.mpr (by omega))
      simp only [Dev.latched, g.objs.same _ hkey.1 hkey.2]
  constructor
  case active => rw [hcoll, h.active]
  case tier3 => rw [← h.tier3]; exact (congrArg Dev.tier3 hb :)
  case openRequest => rw [← h.openRequest]; exact (congrArg Dev.openRequest hb :)
  case job => rw [hlink, ← h.job]
  case discharge => rw [hlink, ← h.discharge]
  case tier2 => rw [hlink, ← h.tier2]
  case energy => rw [hlink, ← h.energy]
  case hot => rw [hlink, ← h.hot]
  case on => rw [hlink, ← h.on]
  case reg => rw [hlink, ← h.reg]
  case faulty => rw [hfaulty, h.faulty]
  case shown => rw [hlink, ← h.shown]
  case steer => rw [hn _ (by decide) (by decide), hn _ (by decide) (by decide)]; exact h.steer
  case tractor => rw [hfeed, h.tractor]
  case battery => rw [hfeed, h.battery]
  case shift => rw [g.objs.same _ (by decide) (by decide), h.shift]
  case under => rw [hn _ (by decide) (by decide), hlink]; exact h.under

/-! ### Each step at rest -/

section
variable {v : Nat} {d : Dev} (h : d.AtRest v)
include h

theorem Dev.AtRest.serveOpenRequest : d.serveOpenRequest = d := by
  unfold Dev.serveOpenRequest
  rw [h.openRequest]
  rfl

theorem Dev.AtRest.chopHeat : d.Rests isStillKey (d.chopHeat 0) := by
  have hlink : ({ d.link with energy := 0, hot := false } : Link) = d.link := by
    have heta : ({ d.link with energy := d.link.energy, hot := d.link.hot } : Link) = d.link := rfl
    rwa [h.energy, h.hot] at heta
  have heq : d.chopHeat 0 = (d.setO Obj.CHOP_ENERGY (satU32 0)).showChopper := by
    unfold Dev.chopHeat Dev.updLink
    simp [h.energy, h.hot, Dev.when, hlink]
  rw [heq]
  exact ((Dev.Rests.refl _ d).setO _ _ (by decide)).setO _ _ (by decide)

theorem Dev.AtRest.chopRefresh : d.Rests isStillKey d.chopRefresh := by
  have hlink : ({ d.link with faultShown := false } : Link) = d.link := by
    have heta : ({ d.link with faultShown := d.link.faultShown } : Link) = d.link := rfl
    rwa [h.shown] at heta
  have hreport : d.chopReported = d := by
    unfold Dev.chopReported Dev.updLink
    simp [h.faulty, h.shown, hlink]
  have hdrive : d.driveChopper = d.showChopper := by
    unfold Dev.driveChopper
    simp [h.reg, h.discharge, h.on]
  rw [Dev.chopRefresh_eq, hreport, hdrive]
  exact ((Dev.Rests.refl _ d).setO _ _ (by decide)).setO _ _ (by decide)

omit h in
theorem Dev.sourceReturns_kept {src : Nat} (hsrc : (d.feedOf src).lost = false) (i : Nat) : d.sourceReturns src i = d := by
  unfold Dev.sourceReturns
  simp [hsrc, Dev.when]

theorem Dev.AtRest.tierTwo : d.tierTwo v = d := by
  have hsteer : decide (d.n Obj.STEER * d.n Obj.VDC_MAX * 10 ≤ 16384 * v) = false := decide_eq_false (by have := h.steer; omega)
  unfold Dev.tierTwo
  simp [hsteer, h.tier2]

theorem Dev.AtRest.tierThreeEnds : d.Rests isStillKey (d.tierThreeEnds v) := by
  unfold Dev.tierThreeEnds
  rw [h.tier3]
  exact ⟨⟨none, rfl⟩, OnlyObjects.of_obj (OnlyObjects.refl d) rfl⟩

theorem Dev.AtRest.underVoltage : ∃ b, d.underVoltage v = d.updLink (fun l => { l with underVolt := b }) := by
  have hnot : ¬ (v ≤ 10 * d.n Obj.V_UV ∧ (!d.link.underVolt) = true) := by
    rintro ⟨hlow, hfirst⟩
    rcases h.under with hu | hu
    · omega
    · simp [hu] at hfirst
  have hgone (x : Dev) (hx : x.coll.active = []) : x.causeGone 0x6276 = x := by
    unfold Dev.causeGone
    rw [hx, List.map_nil, ← hx]
  unfold Dev.underVoltage
  simp only []
  rw [if_neg hnot]
  split
  · exact ⟨false, hgone _ h.active⟩
  · refine ⟨d.link.underVolt, ?_⟩
    unfold Dev.causeBack
    rw [h.active]
    rfl

end

/-- The state of a quiet period at its books. -/
def Dev.atBooks (d : Dev) (i : LinkIn) : Dev :=
  let d1 := ((d.setO Obj.VDC i.vdc).addWrap Obj.PERIODS).serveOpenRequest
  let d2 := ((((((d1.gateSet 8).gateSet 9).chopHeat i.chopEnergy).chopRefresh).sourceReturns 0 i.iTractor).sourceReturns 1
    i.iBattery).tierTwo i.vdc
  ((d2.tierThreeEnds i.vdc).underVoltage i.vdc).preVoltage i.vdc (fun _ d => d)

theorem linkPeriod_eq (d : Dev) (i : LinkIn) : d.linkPeriod i = (((d.atBooks i).ledgerBooks i.vdc i.measured).showTier).loopPoisonGone := rfl

/-- What stands at the books of a quiet period. -/
structure Dev.AtBooks (i : LinkIn) (d e : Dev) : Prop where
  rest : ∃ b u, e = { d with obj := e.obj, link := { d.link with below := b, underVolt := u } }
  objs : OnlyObjects isRestKey d e
  vdc : e.o Obj.VDC = i.vdc
  periods : e.o Obj.PERIODS = wrapU32 (d.o Obj.PERIODS + 1)

theorem gateSet_rests (d : Dev) {g : Nat} (hg : g = 8 ∨ g = 9) : d.Rests isStillKey (d.gateSet g) := by
  unfold Dev.gateSet
  rcases hg with rfl | rfl <;> exact ((Dev.Rests.refl _ d).setO _ _ (by decide)).setO _ _ (by decide)

theorem atBooks_of_under {d z : Dev} {i : LinkIn} (h : d.Rests isRestKey z) (hv : z.o Obj.VDC = i.vdc) (hp : z.o Obj.PERIODS = wrapU32 (d.o Obj.PERIODS + 1)) (u : Bool) :
    d.AtBooks i (z.updLink (fun l => { l with underVolt := u })) := by
  obtain ⟨b, hb⟩ := h.rest
  refine ⟨⟨b, u, ?_⟩, h.objs.trans ⟨fun _ _ _ => rfl⟩, hv, hp⟩
  exact (congrArg (fun x : Dev => x.updLink (fun l => { l with underVolt := u })) hb :)

theorem preVoltage_none {d : Dev} (h : d.link.job = none) (v : Nat) : d.preVoltage v (fun _ d => d) = d := by
  unfold Dev.preVoltage Dev.preIn
  rw [h]

theorem Dev.AtRest.of_still {v : Nat} {d e : Dev} (h : d.AtRest v) (g : d.Rests isStillKey e) : e.AtRest v := h.of_rests (g.mono fun k hk => by simp [isRestKey, hk])

/-- The steps of a period from the gates to V_UV. -/
def Dev.stillSteps (d : Dev) (i : LinkIn) : Dev :=
  ((((((((d.gateSet 8).gateSet 9).chopHeat i.chopEnergy).chopRefresh).sourceReturns 0 i.iTractor).sourceReturns 1 i.iBattery).tierTwo i.vdc).tierThreeEnds i.vdc).underVoltage i.vdc

theorem stillSteps_rest {d : Dev} {i : LinkIn} (h : d.AtRest i.vdc) (hchop : i.chopEnergy = 0) : ∃ z u, d.stillSteps i = z.updLink (fun l => { l with underVolt := u }) ∧ d.Rests isStillKey z ∧ z.link.job = none := by
  have h2 := (gateSet_rests d (.inl rfl)).trans (gateSet_rests _ (.inr rfl))
  have h3 := h2.trans (h.of_still h2).chopHeat
  have h4 := h3.trans (h.of_still h3).chopRefresh
  have hy := h.of_still h4
  unfold Dev.stillSteps
  rw [hchop]
  generalize (((d.gateSet 8).gateSet 9).chopHeat 0).chopRefresh = y at *
  rw [Dev.sourceReturns_kept hy.tractor, Dev.sourceReturns_kept hy.battery, hy.tierTwo]
  have h5 := h4.trans hy.tierThreeEnds
  have hz := h.of_still h5
  generalize y.tierThreeEnds i.vdc = z at *
  obtain ⟨u, hu⟩ := hz.underVoltage
  exact ⟨z, u, hu, h5, hz.job⟩

theorem atBooks_eq (d : Dev) (i : LinkIn) : d.atBooks i = ((((d.setO Obj.VDC i.vdc).addWrap Obj.PERIODS).serveOpenRequest).stillSteps i).preVoltage i.vdc (fun _ d => d) := rfl

theorem atBooks_of_rest {d : Dev} {i : LinkIn} (h : d.AtRest i.vdc) (hchop : i.chopEnergy = 0) : d.AtBooks i (d.atBooks i) := by
  have h1 : d.Rests isRestKey ((d.setO Obj.VDC i.vdc).addWrap Obj.PERIODS) := ((Dev.Rests.refl _ d).setO _ _ (by decide)).setO _ _ (by decide)
  have hv : ((d.setO Obj.VDC i.vdc).addWrap Obj.PERIODS).o Obj.VDC = i.vdc := by simp +decide [Dev.addWrap, Dev.o_eq]
  have hp : ((d.setO Obj.VDC i.vdc).addWrap Obj.PERIODS).o Obj.PERIODS = wrapU32 (d.o Obj.PERIODS + 1) := by simp +decide [Dev.addWrap, Dev.o_eq]
  rw [atBooks_eq]
  generalize (d.setO Obj.VDC i.vdc).addWrap Obj.PERIODS = x at *
  have hx := h.of_rests h1
  obtain ⟨z, u, hz, hrest, hjob⟩ := stillSteps_rest hx hchop
  rw [hx.serveOpenRequest, hz, preVoltage_none (d := z.updLink (fun l => { l with underVolt := u })) hjob]
  exact atBooks_of_under (h1.trans (hrest.mono fun k hk => by simp [isRestKey, hk])) ((hrest.objs.same _ (by decide) (by decide)).trans hv) ((hrest.objs.same _ (by decide) (by decide)).trans hp) u

end Sys2Proof.Machine
end

section
/-! Layer: the books of a ledger period and what follows them (R189, R191, R207, R268, R324, R430). -/

namespace Sys2Proof.Machine

/-! ### Five values in an array -/

theorem o_set5 (d : Dev) (k : Nat) (a b c e f : Int) : ∀ n ∈ List.range 5, (d.set5 k a b c e f).o (k + n) = [a, b, c, e, f].getD n 0 := by
  intro n hn
  have hne (x y : Nat) (h : x ≠ y) : k + x ≠ k + y := by omega
  have hlt := List.mem_range.mp hn
  unfold Dev.set5
  interval_cases n
  · rw [Dev.o_setO_other _ _ (hne 0 4 (by decide)), Dev.o_setO_other _ _ (hne 0 3 (by decide)), Dev.o_setO_other _ _ (hne 0 2 (by decide)), Dev.o_setO_other _ _ (hne 0 1 (by decide))]
    exact Dev.o_setO_same _ _ _
  · rw [Dev.o_setO_other _ _ (hne 1 4 (by decide)), Dev.o_setO_other _ _ (hne 1 3 (by decide)), Dev.o_setO_other _ _ (hne 1 2 (by decide))]
    exact Dev.o_setO_same _ _ _
  · rw [Dev.o_setO_other _ _ (hne 2 4 (by decide)), Dev.o_setO_other _ _ (hne 2 3 (by decide))]
    exact Dev.o_setO_same _ _ _
  · rw [Dev.o_setO_other _ _ (hne 3 4 (by decide))]
    exact Dev.o_setO_same _ _ _
  · exact Dev.o_setO_same _ _ _

/-- Whether `j` is one of the five elements from `k`. -/
def isFive (k j : Nat) : Bool := decide (k ≤ j) && decide (j < k + 5)

theorem onlyObjects_set5 (d : Dev) (k : Nat) (a b c e f : Int) : OnlyObjects (isFive k) d (d.set5 k a b c e f) := by
  unfold Dev.set5
  exact (((((OnlyObjects.refl d).setO _ _ (by simp [isFive])).setO _ _ (by simp [isFive])).setO _ _ (by simp [isFive])).setO _ _ (by simp [isFive])).setO _ _ (by simp [isFive])

theorem shows_set5 (d : Dev) (k : Nat) (a b c e f : Int) : d.ShowsOnly (d.set5 k a b c e f) :=
  frame_shows.setO (frame_shows.setO (frame_shows.setO (frame_shows.setO (frame_shows.setO (frame_shows.refl d) _ _) _ _) _ _) _ _) _ _

/-! ### The books -/

/-- The objects that the books show. -/
def isBookKey (k : Nat) : Bool :=
  k == Obj.IMP || k == Obj.SINK || k == Obj.CHOP_CAP || k == Obj.L_DN || k == Obj.L_UP || k == Obj.V_REF || k == Obj.SOURCES || (decide (0x2410 ≤ keyIdx k) && decide (keyIdx k ≤ 0x2414))

/-- The grants of a period. -/
def Dev.bookGrants (d : Dev) (v : Nat) (meas : List Int) : Grants := if d.grantsBarred then { short := (grants (d.books v meas)).short } else grants (d.books v meas)

/-- The totals of the books `b` shown. -/
def Dev.bookObjects (d : Dev) (b : Books) : Dev :=
  ((((((d.setO Obj.IMP b.imp).setO Obj.SINK b.sink).setO Obj.CHOP_CAP (satU32 (b.chopNum / b.chopDen))).setO Obj.L_DN
    b.lDn).setO Obj.L_UP b.lUp).setO Obj.V_REF (((d.vRef.getD 0) / 10 : Nat) : Int)).setO Obj.SOURCES ((d.capacity.2.2 : Nat) : Int)

/-- The totals of the books shown, with what the link keeps of them. -/
def Dev.bookTotals (d : Dev) (v : Nat) (meas : List Int) : Dev :=
  (d.bookObjects (d.books v meas)).updLink (fun l => { l with floorShort := (d.bookGrants v meas).short, vref := d.vRef.getD 0 })

/-- The requests of the books shown. -/
def Dev.bookRequests (x : Dev) (b : Books) : Dev := (x.set5 Obj.REQ_DRAW b.dTra b.dTrb b.dGrd b.dDca b.dDcb).set5 Obj.REQ_FEED b.fTra b.fTrb b.fGrd 0 0

/-- The grants and the measured powers shown. -/
def Dev.bookShares (x : Dev) (g : Grants) (meas : List Int) : Dev :=
  ((x.set5 Obj.GRANT_DRAW g.tra g.trb g.grd g.dca g.dcb).set5 Obj.GRANT_FEED g.fTra g.fTrb g.fGrd 0 0).set5 Obj.MEASURED
    (meas.getD 0 0) (meas.getD 1 0) (meas.getD 2 0) (meas.getD 3 0) (meas.getD 4 0)

theorem ledgerBooks_eq (d : Dev) (v : Nat) (meas : List Int) : ∃ b : Bool, d.ledgerBooks v meas =
    (((d.bookTotals v meas).bookRequests (d.books v meas)).bookShares (d.bookGrants v meas) meas).when b (fun d => (d.event 0x8E).raise 0x607B false { ini := 0x01, acc := 5 }) :=
  ⟨_, rfl⟩

/-- What the books of a period leave. -/
structure Dev.Booked (v : Nat) (meas : List Int) (d e : Dev) : Prop where
  frame : d.RaisesOnly e
  objs : OnlyObjects (fun k => isBookKey k || isReport k) d e
  imp : e.o Obj.IMP = d.capacity.1
  draw : ∀ n ∈ List.range 5, e.o (Obj.GRANT_DRAW + n) =
    [(d.bookGrants v meas).tra, (d.bookGrants v meas).trb, (d.bookGrants v meas).grd, (d.bookGrants v meas).dca, (d.bookGrants v meas).dcb].getD n 0
  feed : ∀ n ∈ List.range 5, e.o (Obj.GRANT_FEED + n) = [(d.bookGrants v meas).fTra, (d.bookGrants v meas).fTrb, (d.bookGrants v meas).fGrd, 0, 0].getD n 0
  measured : ∀ n ∈ List.range 5, e.o (Obj.MEASURED + n) = meas.getD n 0
  active : e.coll.active = d.coll.active

theorem getD_five (meas : List Int) : ∀ n ∈ List.range 5, [meas.getD 0 0, meas.getD 1 0, meas.getD 2 0, meas.getD 3 0, meas.getD 4 0].getD n 0 = meas.getD n 0 := by
  intro n hn
  have hlt := List.mem_range.mp hn
  interval_cases n <;> rfl

theorem bookShares_facts (x : Dev) (g : Grants) (meas : List Int) : x.ShowsOnly (x.bookShares g meas) ∧ OnlyObjects isBookKey x (x.bookShares g meas) ∧ (x.bookShares g meas).o Obj.IMP = x.o Obj.IMP ∧
    (∀ n ∈ List.range 5, (x.bookShares g meas).o (Obj.GRANT_DRAW + n) = [g.tra, g.trb, g.grd, g.dca, g.dcb].getD n 0) ∧
    (∀ n ∈ List.range 5, (x.bookShares g meas).o (Obj.GRANT_FEED + n) = [g.fTra, g.fTrb, g.fGrd, 0, 0].getD n 0) ∧
    (∀ n ∈ List.range 5, (x.bookShares g meas).o (Obj.MEASURED + n) = meas.getD n 0) := by
  have hkey (k : Nat) (hk : k = Obj.GRANT_DRAW ∨ k = Obj.GRANT_FEED ∨ k = Obj.MEASURED) (j : Nat) (h : isFive k j = true) : isBookKey j = true := by
    simp only [isFive, Bool.and_eq_true, decide_eq_true_eq] at h
    have hidx : 0x2410 ≤ keyIdx j ∧ keyIdx j ≤ 0x2414 := by
      rcases hk with rfl | rfl | rfl <;> simp only [keyIdx, Obj.GRANT_DRAW, Obj.GRANT_FEED, Obj.MEASURED] at h ⊢ <;> omega
    simp [isBookKey, hidx]
  have hdraw := o_set5 x Obj.GRANT_DRAW g.tra g.trb g.grd g.dca g.dcb
  have h1 := onlyObjects_set5 x Obj.GRANT_DRAW g.tra g.trb g.grd g.dca g.dcb
  have s1 := shows_set5 x Obj.GRANT_DRAW g.tra g.trb g.grd g.dca g.dcb
  unfold Dev.bookShares
  generalize x.set5 Obj.GRANT_DRAW g.tra g.trb g.grd g.dca g.dcb = y at *
  have hfeed := o_set5 y Obj.GRANT_FEED g.fTra g.fTrb g.fGrd 0 0
  have h2 := onlyObjects_set5 y Obj.GRANT_FEED g.fTra g.fTrb g.fGrd 0 0
  have s2 := shows_set5 y Obj.GRANT_FEED g.fTra g.fTrb g.fGrd 0 0
  generalize y.set5 Obj.GRANT_FEED g.fTra g.fTrb g.fGrd 0 0 = z at *
  have hmeas := o_set5 z Obj.MEASURED (meas.getD 0 0) (meas.getD 1 0) (meas.getD 2 0) (meas.getD 3 0) (meas.getD 4 0)
  have h3 := onlyObjects_set5 z Obj.MEASURED (meas.getD 0 0) (meas.getD 1 0) (meas.getD 2 0) (meas.getD 3 0) (meas.getD 4 0)
  have s3 := shows_set5 z Obj.MEASURED (meas.getD 0 0) (meas.getD 1 0) (meas.getD 2 0) (meas.getD 3 0) (meas.getD 4 0)
  generalize z.set5 Obj.MEASURED (meas.getD 0 0) (meas.getD 1 0) (meas.getD 2 0) (meas.getD 3 0) (meas.getD 4 0) = e at *
  have hout : ∀ n ∈ List.range 5, (isFive Obj.MEASURED (Obj.GRANT_DRAW + n) = false ∧ isFive Obj.GRANT_FEED (Obj.GRANT_DRAW + n) = false ∧ isFive Obj.MEASURED (Obj.GRANT_FEED + n) = false) ∧
      isStatus (Obj.GRANT_DRAW + n) = false ∧ isStatus (Obj.GRANT_FEED + n) = false := by decide
  refine ⟨frame_shows.trans s1 (frame_shows.trans s2 s3), ((h1.mono (hkey _ (by simp))).trans (h2.mono (hkey _ (by simp)))).trans (h3.mono (hkey _ (by simp))), ?_, fun n hn => ?_, fun n hn => ?_, fun n hn => ?_⟩
  · exact (h3.same _ (by decide) (by decide)).trans ((h2.same _ (by decide) (by decide)).trans (h1.same _ (by decide) (by decide)))
  · obtain ⟨⟨hm, hf, -⟩, hs, -⟩ := hout n hn
    exact (h3.same _ hm hs).trans ((h2.same _ hf hs).trans (hdraw n hn))
  · obtain ⟨⟨-, -, hm⟩, -, hs⟩ := hout n hn
    exact (h3.same _ hm hs).trans (hfeed n hn)
  · rw [hmeas n hn, getD_five meas n hn]

theorem bookRequests_facts (x : Dev) (b : Books) : x.ShowsOnly (x.bookRequests b) ∧ OnlyObjects isBookKey x (x.bookRequests b) ∧ (x.bookRequests b).o Obj.IMP = x.o Obj.IMP := by
  have hkey (k : Nat) (hk : k = Obj.REQ_DRAW ∨ k = Obj.REQ_FEED) (j : Nat) (h : isFive k j = true) : isBookKey j = true := by
    simp only [isFive, Bool.and_eq_true, decide_eq_true_eq] at h
    have hidx : 0x2410 ≤ keyIdx j ∧ keyIdx j ≤ 0x2414 := by
      rcases hk with rfl | rfl <;> simp only [keyIdx, Obj.REQ_DRAW, Obj.REQ_FEED] at h ⊢ <;> omega
    simp [isBookKey, hidx]
  have h1 := onlyObjects_set5 x Obj.REQ_DRAW b.dTra b.dTrb b.dGrd b.dDca b.dDcb
  have s1 := shows_set5 x Obj.REQ_DRAW b.dTra b.dTrb b.dGrd b.dDca b.dDcb
  unfold Dev.bookRequests
  generalize x.set5 Obj.REQ_DRAW b.dTra b.dTrb b.dGrd b.dDca b.dDcb = y at *
  have h2 := onlyObjects_set5 y Obj.REQ_FEED b.fTra b.fTrb b.fGrd 0 0
  have s2 := shows_set5 y Obj.REQ_FEED b.fTra b.fTrb b.fGrd 0 0
  exact ⟨frame_shows.trans s1 s2, (h1.mono (hkey _ (by simp))).trans (h2.mono (hkey _ (by simp))), (h2.same _ (by decide) (by decide)).trans (h1.same _ (by decide) (by decide))⟩

theorem bookTotals_facts (d : Dev) (v : Nat) (meas : List Int) : d.RaisesOnly (d.bookTotals v meas) ∧ OnlyObjects isBookKey d (d.bookTotals v meas) ∧ (d.bookTotals v meas).o Obj.IMP = d.capacity.1 ∧
    (d.bookTotals v meas).coll = d.coll := by
  have himp : (d.books v meas).imp = d.capacity.1 := rfl
  have hshow : d.ShowsOnly (d.bookObjects (d.books v meas)) := by
    unfold Dev.bookObjects
    iterate 7 refine frame_shows.setO ?_ _ _
    exact frame_shows.refl d
  have hobj : OnlyObjects isBookKey d (d.bookObjects (d.books v meas)) := by
    unfold Dev.bookObjects
    iterate 7 refine OnlyObjects.setO ?_ _ _ (by decide)
    exact OnlyObjects.refl d
  have hval : (d.bookObjects (d.books v meas)).o Obj.IMP = d.capacity.1 := by
    rw [← himp]
    unfold Dev.bookObjects
    iterate 6 rw [Dev.o_setO_other _ _ (by decide)]
    exact Dev.o_setO_same _ _ _
  unfold Dev.bookTotals
  generalize d.bookObjects (d.books v meas) = x at *
  exact ⟨(Dev.ShowsOnly.raises hshow).trans (frame_raises.stops (Dev.stops_updLink _ _)), hobj.trans ⟨fun _ _ _ => rfl⟩, hval, hshow.coll⟩

/-- A Notice leaves the faults in force as they are (R510). -/
theorem Dev.active_notice (d : Dev) (code : Nat) (lasting : Bool) (src : FaultSrc) (h : faultClass code = 0) : (d.raise code lasting src).coll.active = d.coll.active := by
  unfold Dev.raise Dev.raiseWith
  rw [if_pos h, (Dev.stops_postmark ..).coll, Dev.logAdd, Dev.addWrap, Dev.setO_coll]

theorem booked (d : Dev) (v : Nat) (meas : List Int) : d.Booked v meas (d.ledgerBooks v meas) := by
  obtain ⟨b, heq⟩ := ledgerBooks_eq d v meas
  obtain ⟨r1, o1, i1, c1⟩ := bookTotals_facts d v meas
  rw [heq]
  generalize d.bookTotals v meas = x at *
  obtain ⟨s2, o2, i2⟩ := bookRequests_facts x (d.books v meas)
  generalize x.bookRequests (d.books v meas) = y at *
  obtain ⟨s3, o3, i3, hdraw, hfeed, hmeas⟩ := bookShares_facts y (d.bookGrants v meas) meas
  generalize y.bookShares (d.bookGrants v meas) meas = z at *
  have hraise : z.RaisesOnly (z.when b (fun d => (d.event 0x8E).raise 0x607B false { ini := 0x01, acc := 5 })) :=
    frame_raises.when (frame_raises.refl z) _ fun d => frame_raises.raise (frame_raises.event (frame_raises.refl d) _) _ _ _
  have hobj : OnlyObjects (fun k => isReport k) z (z.when b (fun d => (d.event 0x8E).raise 0x607B false { ini := 0x01, acc := 5 })) :=
    OnlyObjects.when (OnlyObjects.refl z) _ fun _ d => ((OnlyObjects.refl d).event _ fun k h => by simp [isReport, h]).trans (onlyObjects_notice _ 0x607B _ false _ (by decide))
  have hactive : (z.when b (fun d => (d.event 0x8E).raise 0x607B false { ini := 0x01, acc := 5 })).coll.active = z.coll.active := by
    cases b
    · rfl
    · exact (Dev.active_notice (z.event 0x8E) 0x607B false { ini := 0x01, acc := 5 } (by decide)).trans (congrArg Collector.active (Dev.event_coll z 0x8E))
  generalize z.when b (fun d => (d.event 0x8E).raise 0x607B false { ini := 0x01, acc := 5 }) = e at *
  have hrep : ∀ n ∈ List.range 5, (isReport (Obj.GRANT_DRAW + n) = false ∧ isStatus (Obj.GRANT_DRAW + n) = false) ∧ (isReport (Obj.GRANT_FEED + n) = false ∧ isStatus (Obj.GRANT_FEED + n) = false) ∧
      isReport (Obj.MEASURED + n) = false ∧ isStatus (Obj.MEASURED + n) = false := by decide
  refine ⟨r1.trans ((Dev.ShowsOnly.raises s2).trans ((Dev.ShowsOnly.raises s3).trans hraise)), ?_, ?_, fun n hn => ?_, fun n hn => ?_, fun n hn => ?_, ?_⟩
  · exact (((o1.trans o2).trans o3).mono fun k h => by simp [h]).trans (hobj.mono fun k h => by simp [h])
  · rw [hobj.same _ (by decide) (by decide), i3, i2, i1]
  · obtain ⟨⟨hr, hs⟩, -⟩ := hrep n hn
    rw [hobj.same _ hr hs, hdraw n hn]
  · obtain ⟨-, ⟨hr, hs⟩, -⟩ := hrep n hn
    rw [hobj.same _ hr hs, hfeed n hn]
  · obtain ⟨-, -, hr, hs⟩ := hrep n hn
    rw [hobj.same _ hr hs, hmeas n hn]
  · rw [hactive, s3.coll, s2.coll, c1]

end Sys2Proof.Machine
end

section
/-! Layer: a ledger period after its books: the tiers, the interlocks, the gates, the supplies and nFAULT (R268, R324, R430). -/

namespace Sys2Proof.Machine

/-- What a ledger period changes beside objects: what raising a fault changes, the interlocks' window and nFAULT. -/
def Dev.LedgerRaises (d e : Dev) : Prop :=
  ({ e.unraised with nfLevel := false, nfSeen := false, shift := {} } : Dev) = { d.unraised with nfLevel := false, nfSeen := false, shift := {} } ∧ ∀ x ∈ d.evq, x ∈ e.evq

theorem Dev.RaisesOnly.ledger {d e : Dev} (h : d.RaisesOnly e) : d.LedgerRaises e := by
  obtain ⟨h1, h2⟩ := Dev.raisesOnly_iff.mp h
  exact ⟨congrArg (fun x : Dev => ({ x with nfLevel := false, nfSeen := false, shift := {} } : Dev)) h1, h2⟩

theorem Dev.LedgerRaises.trans {a b c : Dev} (h : a.LedgerRaises b) (g : b.LedgerRaises c) : a.LedgerRaises c :=
  ⟨g.1.trans h.1, fun x hx => g.2 x (h.2 x hx)⟩

theorem Dev.LedgerRaises.raises {d e : Dev} (h : d.LedgerRaises e) : ({ d with nfLevel := e.nfLevel, nfSeen := e.nfSeen, shift := e.shift } : Dev).RaisesOnly e :=
  Dev.raisesOnly_iff.mpr ⟨(congrArg (fun x : Dev => ({ x with nfLevel := e.nfLevel, nfSeen := e.nfSeen, shift := e.shift } : Dev)) h.1 :), h.2⟩

/-- The objects that a period writes after its books. -/
def isTailKey (k : Nat) : Bool :=
  k == Obj.OV_TIER || k == Obj.SUPPLY_STATE || k == Obj.SHIFT_STATE ||
    (keyIdx Obj.DT_NOW ≤ keyIdx k && keyIdx k < keyIdx Obj.DT_NOW + 9 && (keySub k == keySub Obj.DT_NOW || keySub k == keySub Obj.BLANK_NOW))

/-- A step that changes the trace of no fault: objects of `isTailKey`, the window, the bus converters' reference and nFAULT. -/
structure Dev.Tail (d e : Dev) : Prop where
  frame : d.LedgerRaises e
  objs : OnlyObjects isTailKey d e
  coll : e.coll = d.coll

theorem Dev.Tail.refl (d : Dev) : d.Tail d := ⟨⟨rfl, fun _ h => h⟩, .refl d, rfl⟩

theorem Dev.Tail.trans {a b c : Dev} (h : a.Tail b) (g : b.Tail c) : a.Tail c := ⟨h.frame.trans g.frame, h.objs.trans g.objs, g.coll.trans h.coll⟩

section
variable {a d : Dev} (h : a.Tail d)
include h

theorem Dev.Tail.setO (k : Nat) (v : Int) (hk : isTailKey k = true) : a.Tail (d.setO k v) :=
  h.trans ⟨⟨rfl, fun _ h => h⟩, (OnlyObjects.refl d).setO k v (by simp [hk]), Dev.setO_coll d k v⟩

theorem Dev.Tail.when (b : Bool) {f : Dev → Dev} (hf : ∀ d : Dev, d.Tail (f d)) : a.Tail (d.when b f) := by
  cases b
  · exact h
  · exact h.trans (hf d)

theorem Dev.Tail.foldl {α : Type} (l : List α) {f : Dev → α → Dev} (hf : ∀ (d : Dev) (x : α), d.Tail (f d x)) : a.Tail (l.foldl f d) := by
  induction l generalizing d with
  | nil => exact h
  | cons x xs ih => exact ih (h.trans (hf d x))

end

theorem causeGone_none {d : Dev} (h : d.coll.active = []) (code : Nat) : d.causeGone code = d := by
  unfold Dev.causeGone
  rw [h, List.map_nil, ← h]

theorem loopPoisonGone_none {d : Dev} (h : d.coll.active = []) : d.loopPoisonGone = d := by
  unfold Dev.loopPoisonGone
  refine List.foldlRecOn (motive := (· = d)) _ _ rfl ?_
  rintro _ rfl dom -
  simp only [Dev.when]
  split
  · exact causeGone_none h _
  · rfl

theorem showTier_tail (d : Dev) : d.Tail d.showTier := (Dev.Tail.refl d).setO _ _ (by decide)

theorem setWindow_tail (d : Dev) (w : Option Nat) : d.Tail (d.setWindow w) := (Dev.Tail.refl d).foldl _ fun _ _ => ⟨⟨rfl, fun _ h => h⟩, ⟨fun _ _ _ => rfl⟩, rfl⟩

theorem updShift_tail (d : Dev) (f : Shift → Shift) : d.Tail (d.updShift f) := ⟨⟨rfl, fun _ h => h⟩, ⟨fun _ _ _ => rfl⟩, rfl⟩

theorem showShift_tail (d : Dev) : d.Tail d.showShift := (Dev.Tail.refl d).setO _ _ (by decide)

theorem shiftLedger_tail (d : Dev) : d.Tail d.shiftLedger := by
  unfold Dev.shiftLedger
  simp only []
  split
  · exact (updShift_tail d _).trans (setWindow_tail _ _)
  · split
    · exact ((updShift_tail d _).trans (setWindow_tail _ _)).trans (showShift_tail _)
    · split
      · split
        · exact (updShift_tail d _).trans (setWindow_tail _ _)
        · exact ((updShift_tail d _).trans (setWindow_tail _ _)).trans (showShift_tail _)
      · exact setWindow_tail d _

/-- Without a machine whose shifts are watched nothing is capped (R324). -/
theorem creepCap_none {d : Dev} (h : d.o Obj.SHIFT_DOMAINS = 0) : d.creepCap = d := by
  have hnone (m : Mach) : d.shiftsDomain m = false := by
    unfold Dev.shiftsDomain
    rw [h]
    cases m <;> decide
  unfold Dev.creepCap
  split
  · rfl
  · refine List.foldlRecOn (motive := (· = d)) _ _ rfl ?_
    rintro _ rfl m -
    rw [hnone m]
    rfl

theorem showSupplies_tail (d : Dev) : d.Tail d.showSupplies := (Dev.Tail.refl d).foldl _ fun d _ => (Dev.Tail.refl d).setO _ _ (by decide)

theorem gateSet_tail (d : Dev) {g : Nat} (hg : g ∈ [3, 4, 5, 6, 7]) : d.Tail (d.gateSet g) := by
  have hkey : ∀ g ∈ [3, 4, 5, 6, 7], isTailKey (at' Obj.DT_NOW (g - 1)) = true ∧ isTailKey (at' Obj.BLANK_NOW (g - 1)) = true := by decide
  unfold Dev.gateSet
  exact ((Dev.Tail.refl d).setO _ _ (hkey g hg).1).setO _ _ (hkey g hg).2

theorem idleGates_tail (d : Dev) : d.Tail d.idleGates := by
  have hset (d : Dev) (b : Bool) {g : Nat} (hg : g ∈ [3, 4, 5, 6, 7]) : d.Tail (d.when b fun d => d.gateSet g) := (Dev.Tail.refl d).when b fun d => gateSet_tail d hg
  exact ((((hset d _ (g := 3) (by decide)).trans (hset _ _ (g := 4) (by decide))).trans (hset _ _ (g := 5) (by decide))).trans (hset _ _ (g := 6) (by decide))).trans (hset _ _ (g := 7) (by decide))

theorem refGone_tail (d : Dev) : d.Tail d.refGone := by
  have hdab (d : Dev) (x : Conv) (f : Dab → Dab) : d.Tail (d.updDab x f) := ⟨⟨rfl, fun _ h => h⟩, ⟨fun _ _ _ => rfl⟩, rfl⟩
  unfold Dev.refGone
  exact (Dev.Tail.refl d).when _ fun d => (hdab d _ _).trans (hdab _ _ _)

theorem nfEvaluate_tail (d : Dev) : d.Tail d.nfEvaluate := by
  have hset (b : Bool) : d.Tail { d with nfSeen := true, nfLevel := b } := ⟨⟨rfl, fun _ h => h⟩, ⟨fun _ _ _ => rfl⟩, rfl⟩
  unfold Dev.nfEvaluate
  split
  · exact .refl d
  · split
    · exact hset _
    · split
      · exact .refl d
      · exact hset _

theorem periodEnd_tail {d : Dev} (h : d.o Obj.SHIFT_DOMAINS = 0) : d.Tail d.periodEnd := by
  have h1 := shiftLedger_tail d
  unfold Dev.periodEnd
  generalize d.shiftLedger = x at *
  rw [creepCap_none ((h1.objs.same _ (by decide) (by decide)).trans h)]
  exact ((h1.trans (showSupplies_tail x)).trans (idleGates_tail _)).trans (refGone_tail _)

/-! ### A whole quiet period -/

/-- What a quiet period shows: the books of the state `x` it comes to. -/
structure Dev.QuietPeriod (i : LinkIn) (d x e : Dev) : Prop where
  books : d.AtBooks i x
  frame : d.LedgerRaises e
  objs : OnlyObjects (fun k => ledgerShows k || isReaction k) d e
  active : e.coll.active = []
  vdc : e.o Obj.VDC = i.vdc
  periods : e.o Obj.PERIODS = wrapU32 (d.o Obj.PERIODS + 1)
  imp : e.o Obj.IMP = x.capacity.1
  draw : ∀ n ∈ List.range 5, e.o (Obj.GRANT_DRAW + n) =
    [(x.bookGrants i.vdc i.measured).tra, (x.bookGrants i.vdc i.measured).trb, (x.bookGrants i.vdc i.measured).grd, (x.bookGrants i.vdc i.measured).dca, (x.bookGrants i.vdc i.measured).dcb].getD n 0
  feed : ∀ n ∈ List.range 5, e.o (Obj.GRANT_FEED + n) = [(x.bookGrants i.vdc i.measured).fTra, (x.bookGrants i.vdc i.measured).fTrb, (x.bookGrants i.vdc i.measured).fGrd, 0, 0].getD n 0
  measured : ∀ n ∈ List.range 5, e.o (Obj.MEASURED + n) = i.measured.getD n 0

theorem ledgerShows_of_rest (k : Nat) (h : isRestKey k = true) : (ledgerShows k || isReaction k) = true := by
  simp only [isRestKey, isStillKey, Bool.or_eq_true] at h
  rcases h with (h | h) | ((h | h) | h) | h <;> simp only [ledgerShows, h, Bool.or_true, Bool.true_or]

theorem ledgerShows_of_book (k : Nat) (h : (isBookKey k || isReport k) = true) : (ledgerShows k || isReaction k) = true := by
  rw [Bool.or_eq_true] at h ⊢
  refine h.imp (fun h => ?_) isReport_reaction
  simp only [isBookKey, Bool.or_eq_true] at h
  rcases h with ((((((h | h) | h) | h) | h) | h) | h) | h <;> simp [ledgerShows, h]

theorem ledgerShows_of_tail (k : Nat) (h : isTailKey k = true) : (ledgerShows k || isReaction k) = true := by
  simp only [isTailKey, Bool.or_eq_true] at h
  rcases h with ((h | h) | h) | h <;> simp only [ledgerShows, h, Bool.or_true, Bool.true_or]

theorem Dev.AtBooks.raises {i : LinkIn} {d e : Dev} (h : d.AtBooks i e) : d.RaisesOnly e := by
  obtain ⟨b, u, hrest⟩ := h.rest
  rw [hrest]
  exact Dev.raisesOnly_iff.mpr ⟨rfl, fun _ h => h⟩

/-- The books, the tier and what follows them at a state `x` of a quiet period. -/
theorem quietPeriod_of_books {d x : Dev} {i : LinkIn} (hact : d.coll.active = []) (hshift : d.o Obj.SHIFT_DOMAINS = 0) (hx : d.AtBooks i x) :
    d.QuietPeriod i x ((((x.ledgerBooks i.vdc i.measured).showTier).loopPoisonGone).periodEnd).nfEvaluate := by
  have hb := booked x i.vdc i.measured
  have hxact : x.coll.active = [] := by
    obtain ⟨b, u, hrest⟩ := hx.rest
    exact (congrArg (fun y : Dev => y.coll.active) hrest :).trans hact
  generalize x.ledgerBooks i.vdc i.measured = y at *
  have ht := showTier_tail y
  have hyact : y.showTier.coll.active = [] := by rw [ht.coll, hb.active, hxact]
  rw [loopPoisonGone_none hyact]
  generalize y.showTier = z at *
  have hzshift : z.o Obj.SHIFT_DOMAINS = 0 := by
    rw [ht.objs.same _ (by decide) (by decide), hb.objs.same _ (by decide) (by decide), hx.objs.same _ (by decide) (by decide), hshift]
  have htail := (ht.trans (periodEnd_tail hzshift)).trans (nfEvaluate_tail _)
  generalize z.periodEnd.nfEvaluate = e at *
  have hval (k : Nat) (h1 : isTailKey k = false) (h2 : (isBookKey k || isReport k) = false) (h3 : isStatus k = false) : e.o k = x.o k :=
    (htail.objs.same k h1 h3).trans (hb.objs.same k h2 h3)
  have hout : ∀ n ∈ List.range 5, (isTailKey (Obj.GRANT_DRAW + n) = false ∧ isStatus (Obj.GRANT_DRAW + n) = false) ∧ (isTailKey (Obj.GRANT_FEED + n) = false ∧ isStatus (Obj.GRANT_FEED + n) = false) ∧
      isTailKey (Obj.MEASURED + n) = false ∧ isStatus (Obj.MEASURED + n) = false := by decide
  exact
    { books := hx
      frame := ((hx.raises.trans hb.frame).ledger).trans htail.frame
      objs := ((hx.objs.mono ledgerShows_of_rest).trans (hb.objs.mono ledgerShows_of_book)).trans (htail.objs.mono ledgerShows_of_tail)
      active := by rw [htail.coll, hb.active, hxact]
      vdc := (hval _ (by decide) (by decide) (by decide)).trans hx.vdc
      periods := (hval _ (by decide) (by decide) (by decide)).trans hx.periods
      imp := (htail.objs.same _ (by decide) (by decide)).trans hb.imp
      draw := fun n hn => (htail.objs.same _ (hout n hn).1.1 (hout n hn).1.2).trans (hb.draw n hn)
      feed := fun n hn => (htail.objs.same _ (hout n hn).2.1.1 (hout n hn).2.1.2).trans (hb.feed n hn)
      measured := fun n hn => (htail.objs.same _ (hout n hn).2.2.1 (hout n hn).2.2.2).trans (hb.measured n hn) }

theorem periodCommands_none {d : Dev} (h : d.writes = []) : d.periodCommands = d := by
  have heta : ({ d with writes := [] } : Dev) = d := by rw [← h]
  unfold Dev.periodCommands Dev.applyWrites
  simp [h, heta]

/-- A quiet period of the link (R186). -/
theorem ledgerPeriod_quiet {d : Dev} {i : LinkIn} (h : linkQuiet d i = true) : d.QuietPeriod i (d.atBooks i) (d.ledgerPeriod i) := by
  obtain ⟨hrest, hw, hc, hchop⟩ := atRest_of_linkQuiet h
  rw [ledgerPeriod_eq, courierPeriod_none hc, periodCommands_none hw, ledgerWrites_none hw, linkPeriod_eq]
  exact quietPeriod_of_books hrest.active hrest.shift (atBooks_of_rest hrest hchop)

end Sys2Proof.Machine
end

section
/-! Settles O52 (LedgerPeriods): ledger periods and nFAULT (R186 to R191, R197, R430, R523). -/

namespace Sys2Proof.Machine

/-! ### No grants while a main waits to open (R197) -/

theorem ledgerPeriod_opening (s : State) (i : LinkIn) (ha : s.dev.alive = true) (hq : linkQuiet s.dev i = true) (ho : s.dev.link.opening ≠ []) :
    Completes (.ledgerPeriod i) s (fun e => e.o Obj.VDC = i.vdc ∧ e.o Obj.PERIODS = wrapU32 (s.dev.o Obj.PERIODS + 1) ∧
      (∀ n ∈ List.range 5, e.o (Obj.GRANT_DRAW + n) = 0 ∧ e.o (Obj.GRANT_FEED + n) = 0 ∧ e.o (Obj.MEASURED + n) = i.measured.getD n 0) ∧
      e.coll.active = [] ∧ ({ s.dev with nfLevel := e.nfLevel, nfSeen := e.nfSeen, shift := e.shift } : Dev).RaisesOnly e ∧ OnlyObjects (fun k => ledgerShows k || isReaction k) s.dev e) := by
  refine completes_live_eq _ rfl ha rfl ?_
  have hperiod := ledgerPeriod_quiet hq
  generalize s.dev.ledgerPeriod i = e at *
  obtain ⟨b, u, hrest⟩ := hperiod.books.rest
  have hbarred : (s.dev.atBooks i).grantsBarred = true := by
    have hopen : (s.dev.atBooks i).link.opening = s.dev.link.opening := (congrArg (fun x : Dev => x.link.opening) hrest :)
    have hne : (s.dev.atBooks i).link.opening.isEmpty = false := by rw [hopen, List.isEmpty_eq_false_iff]; exact ho
    simp only [Dev.grantsBarred, hne, Bool.not_false, Bool.or_true, Bool.true_or]
  have hgrants : (s.dev.atBooks i).bookGrants i.vdc i.measured = { short := (grants ((s.dev.atBooks i).books i.vdc i.measured)).short } := if_pos hbarred
  have hdraw := hperiod.draw
  have hfeed := hperiod.feed
  rw [hgrants] at hdraw hfeed
  have hstatus : ∀ n ∈ List.range 5, isStatus (Obj.GRANT_DRAW + n) = false ∧ isStatus (Obj.GRANT_FEED + n) = false ∧ isStatus (Obj.MEASURED + n) = false := by decide
  have hzero : ∀ n ∈ List.range 5, ([0, 0, 0, 0, 0] : List Int).getD n 0 = 0 := by decide
  refine ⟨(Dev.o_settle _ (by decide)).trans hperiod.vdc, (Dev.o_settle _ (by decide)).trans hperiod.periods, fun n hn => ?_, ?_,
    (hperiod.frame.trans (Dev.raises_settle e).ledger).raises, hperiod.objs.settle⟩
  · obtain ⟨h1, h2, h3⟩ := hstatus n hn
    exact ⟨(Dev.o_settle _ h1).trans ((hdraw n hn).trans (hzero n hn)), (Dev.o_settle _ h2).trans ((hfeed n hn).trans (hzero n hn)), (Dev.o_settle _ h3).trans (hperiod.measured n hn)⟩
  · rw [Dev.settle_coll, hperiod.active]

/-! ### A traction request alone (R189) -/

/-- The procedure of R189 grants the one request that IMP carries, on a link above V_LOW. -/
theorem grants_alone {b : Books} (hothers : b.dTrb = 0 ∧ b.dGrd = 0 ∧ b.dDca = 0 ∧ b.dDcb = 0) (hfloors : 0 ≤ b.floorA ∧ 0 ≤ b.floorB) (hlow : b.low ≤ b.v) (hdn : 0 ≤ b.lDn) (hcred : 0 ≤ b.credFd)
    (hpos : 0 ≤ b.dTra) (himp : b.dTra ≤ b.imp) : (grants b).tra = b.dTra ∧ (grants b).trb = 0 ∧ (grants b).grd = 0 ∧ (grants b).dca = 0 ∧ (grants b).dcb = 0 := by
  obtain ⟨htrb, hgrd, hdca, hdcb⟩ := hothers
  have hfloor : floors b = (0, 0, b.imp + b.lDn + b.credFd, false) := by
    have hB : min b.dDcb b.floorB = 0 := by omega
    have hA : min b.dDca b.floorA = 0 := by omega
    have hbudget : min 0 (b.imp + b.credFd) = 0 ∧ max 0 (b.imp + b.lDn + b.credFd) = b.imp + b.lDn + b.credFd ∧ ¬ b.imp + b.lDn + b.credFd < 0 := by omega
    simp [floors, hA, hB, hbudget]
  have hfading : fading b = (1, 1) := if_pos hlow
  have hrest : b.imp + b.lDn + b.credFd ≥ b.dTra := by omega
  have hshare : share (1 * (b.imp + b.lDn + b.credFd)) 1 b.dTra 0 = (b.dTra, 0) := if_pos (by omega)
  have hnone : min 0 (b.imp + b.lDn + b.credFd) = 0 := by omega
  refine ⟨?_, ?_, ?_, ?_, ?_⟩ <;> simp only [grants, hfloor, hfading, htrb, hgrd, hdca, hdcb, hnone, Int.sub_zero, hshare, Int.add_zero]

/-- An allowance for a link above its target is a draw (log entry 5). -/
theorem allowance_nonneg {d : Dev} {v : Nat} {dv : Int} (hcap : 0 ≤ d.o Obj.STORE_CAP) (hlink : 0 ≤ d.o Obj.C_LINK) (hdv : 0 ≤ dv) : 0 ≤ d.allowance v dv := by
  have hround (a : Int) (b : Nat) (ha : 0 ≤ a) : 0 ≤ roundDiv a b := by
    rw [roundDiv, if_pos ha]
    exact Int.ediv_nonneg (by omega) (by omega)
  have hpos := hround (d.o Obj.C_LINK * v * dv) (100000 * max 1 (d.n Obj.T_RESTORE)) (Int.mul_nonneg (Int.mul_nonneg hlink (by omega)) hdv)
  simp only [Dev.allowance, clampI]
  omega

/-- The credit of at most five participants whose grants are not negative (R189). -/
theorem credit_nonneg {d : Dev} {key : Nat} {meas : List Int} (hlen : meas.length ≤ 5) (hgrant : ∀ n ∈ List.range 5, 0 ≤ d.o (key + n)) (sign : Int) : 0 ≤ d.credit key meas sign := by
  unfold Dev.credit
  refine List.foldlRecOn (motive := (0 ≤ ·)) _ _ (Int.le_refl 0) fun a ha p hp => ?_
  have hidx : p.2 < meas.length := by
    have := List.snd_lt_of_mem_zipIdx hp
    omega
  have := hgrant p.2 (List.mem_range.mpr (by omega))
  omega

/-! ### The books read what a quiet period leaves as it is -/

section
variable {i : LinkIn} {d x : Dev} (h : d.AtBooks i x)
include h

theorem Dev.AtBooks.o {k : Nat} (h1 : isRestKey k = false) (h2 : isStatus k = false) : x.o k = d.o k := h.objs.same k h1 h2

theorem Dev.AtBooks.n {k : Nat} (h1 : isRestKey k = false) (h2 : isStatus k = false) : x.n k = d.n k := Dev.n_eq (h.o h1 h2)

theorem Dev.AtBooks.b {k : Nat} (h1 : isRestKey k = false) (h2 : isStatus k = false) : x.b k = d.b k := by rw [Dev.b, h.o h1 h2, Dev.b]

theorem Dev.AtBooks.feedOf (src : Nat) : x.feedOf src = d.feedOf src := by
  obtain ⟨b, u, hrest⟩ := h.rest
  exact (congrArg (fun y : Dev => y.feedOf src) hrest :)

theorem Dev.AtBooks.mainClosed (src : Nat) : x.mainClosed src = d.mainClosed src := by
  have hkeys : ∀ n ∈ List.range 4, (isRestKey (at' Obj.ROLE_5810 n) = false ∧ isStatus (at' Obj.ROLE_5810 n) = false) ∧ isRestKey (at' Obj.STATE_5810 n) = false ∧ isStatus (at' Obj.STATE_5810 n) = false := by decide
  have hmain : x.mainOf src = d.mainOf src := Dev.driver_congr (fun n hn => h.o (hkeys n (List.mem_range.mpr hn)).1.1 (hkeys n (List.mem_range.mpr hn)).1.2) _
  unfold Dev.mainClosed
  rw [hmain]
  cases hd : d.mainOf src with
  | none => rfl
  | some n =>
    obtain ⟨-, h1, h2⟩ := hkeys n (List.mem_range.mpr (mem_of_mainOf hd))
    simp only [h.n h1 h2]

theorem Dev.AtBooks.fitted (src : Nat) : x.fitted src = d.fitted src := by rw [Dev.fitted, h.b (by decide) (by decide), Dev.fitted]

theorem Dev.AtBooks.gridStep : x.grid.step = d.grid.step := by
  obtain ⟨b, u, hrest⟩ := h.rest
  exact (congrArg (fun y : Dev => y.grid.step) hrest :)

theorem Dev.AtBooks.vRef : x.vRef = d.vRef := by
  have hholds : x.grdHolds = d.grdHolds := by
    rw [Dev.grdHolds, h.o (by decide) (by decide), h.mainClosed, h.mainClosed, h.gridStep, Dev.grdHolds]
  simp only [Dev.vRef, h.fitted, h.mainClosed, h.feedOf, hholds, h.n (k := Obj.VDC_SET) (by decide) (by decide)]

theorem Dev.AtBooks.imp : x.capacity.1 = d.capacity.1 := by
  have hcounts (src : Nat) : x.sourceCounts src = d.sourceCounts src := by simp only [Dev.sourceCounts, h.fitted, h.mainClosed, h.feedOf]
  simp only [Dev.capacity, hcounts, h.feedOf]

theorem Dev.AtBooks.domainState {dom : Domain} (hdom : dom ∈ [Domain.tra, .trb, .grd, .dca, .dcb, .lnk]) : x.domainState dom = d.domainState dom := by
  obtain ⟨b, u, hrest⟩ := h.rest
  have hclass (c : Nat) : x.classInForce c = d.classInForce c := (congrArg (fun y : Dev => y.classInForce c) hrest :)
  have hfault (c : Nat) : x.faultOnDomain dom c = d.faultOnDomain dom c := (congrArg (fun y : Dev => y.faultOnDomain dom c) hrest :)
  have hrun : x.running dom = d.running dom := by
    fin_cases hdom
    · simp only [Dev.running, h.b (k := Obj.BRIDGE_STATE) (by decide) (by decide), h.b (k := Obj.RUN_4240) (by decide) (by decide)]
    · simp only [Dev.running, h.b (k := tk .B Obj.BRIDGE_STATE) (by decide) (by decide), h.b (k := tk .B Obj.RUN_4240) (by decide) (by decide)]
    · simp only [Dev.running, h.b (k := Obj.GRD_MODE) (by decide) (by decide), h.b (k := Obj.STATE_5000) (by decide) (by decide)]
    · simp only [Dev.running, h.n (k := Obj.STATE_5400) (by decide) (by decide)]
    · simp only [Dev.running, h.n (k := ck .dcb Obj.STATE_5400) (by decide) (by decide)]
    · simp only [Dev.running, h.b (k := Obj.LINK_CTRL) (by decide) (by decide), h.n (k := Obj.PRE_STATE) (by decide) (by decide)]
  simp only [Dev.domainState, hclass, hfault, hrun]

theorem Dev.AtBooks.derate (dom : Domain) (p : Nat) : x.derate dom p = d.derate dom p := by
  obtain ⟨b, u, hrest⟩ := h.rest
  have hsens : x.sensors = d.sensors := (congrArg Dev.sensors hrest :)
  have hkeys : ∀ n ∈ List.range 8, (isRestKey (at' Obj.NTC_DOMAIN n) = false ∧ isStatus (at' Obj.NTC_DOMAIN n) = false) ∧ isRestKey (at' Obj.DERATE_CAP n) = false ∧ isStatus (at' Obj.DERATE_CAP n) = false := by decide
  have hntc : x.ntcOf dom.num (fun s => s.hot) = d.ntcOf dom.num (fun s => s.hot) := by
    simp only [Dev.ntcOf, hsens]
    refine List.filter_congr fun n hn => ?_
    have hlt : n - 1 < 8 := by
      simp only [List.mem_cons, List.not_mem_nil, or_false] at hn
      omega
    rw [h.n (hkeys _ (List.mem_range.mpr hlt)).1.1 (hkeys _ (List.mem_range.mpr hlt)).1.2]
  unfold Dev.derate
  rw [hntc]
  refine List.foldl_ext _ _ _ fun a n hn => ?_
  have hlt : n - 1 < 8 := by
    have hmem := (List.mem_filter.mp hn).1
    simp only [List.mem_cons, List.not_mem_nil, or_false] at hmem
    omega
  rw [h.n (hkeys _ (List.mem_range.mpr hlt)).2.1 (hkeys _ (List.mem_range.mpr hlt)).2.2]

theorem Dev.AtBooks.request (n : Nat) : x.request n = d.request n := by
  obtain ⟨b, u, hrest⟩ := h.rest
  have hposted : x.posted n = d.posted n := (congrArg (fun y : Dev => y.posted n) hrest :)
  have hwall : x.wall = d.wall := (congrArg Dev.wall hrest :)
  have hdom : participant n ∈ [Domain.tra, .trb, .grd, .dca, .dcb, .lnk] := by
    unfold participant
    split <;> decide
  have hstopped : x.stopped (participant n) = d.stopped (participant n) := by rw [Dev.stopped, h.domainState hdom, Dev.stopped]
  simp only [Dev.request, hposted, hwall, hstopped, h.n (k := Obj.BRIDGE_STATE) (by decide) (by decide), h.n (k := tk .B Obj.BRIDGE_STATE) (by decide) (by decide), h.derate]

end

/-- The entries of the books under a known V_REF (R188, R189). -/
theorem books_entries {x : Dev} {r : Nat} {q : Nat → Nat × Nat} (hr : x.vRef = some r) (hq : x.request = q) (v : Nat) (meas : List Int) :
    ((x.books v meas).v = v ∧ (x.books v meas).low = 10 * x.o Obj.V_LOW) ∧ (x.books v meas).imp = (x.capacity.1 : Nat) ∧
      (x.books v meas).lDn = x.allowance v ((v : Int) - (r - 10 * x.o Obj.V_DIP)) ∧ (x.books v meas).credFd = x.credit Obj.GRANT_FEED meas (-1) ∧
      ((x.books v meas).floorA = x.o Obj.DCA_FLOOR ∧ (x.books v meas).floorB = x.o Obj.DCB_FLOOR) ∧
      (x.books v meas).dTra = ((q 1).1 : Nat) ∧ (x.books v meas).dTrb = ((q 2).1 : Nat) ∧ (x.books v meas).dGrd = ((q 3).1 : Nat) ∧
      (x.books v meas).dDca = ((q 4).1 : Nat) ∧ (x.books v meas).dDcb = ((q 5).1 : Nat) := by
  rcases hc : x.capacity with ⟨imp, sink, sources⟩
  unfold Dev.books
  rw [hc, hr, hq]
  exact ⟨⟨rfl, rfl⟩, rfl, rfl, rfl, ⟨rfl, rfl⟩, rfl, rfl, rfl, rfl, rfl⟩

/-- The books of a quiet period that read a traction request alone (R189). -/
theorem books_alone {d x : Dev} {i : LinkIn} (h : d.AtBooks i x) (hopen : x.grantsBarred = false) (hlen : i.measured.length ≤ 5) (hlow : d.n Obj.V_LOW * 10 < i.vdc)
    (hreq : (d.request 2).1 = 0 ∧ (d.request 3).1 = 0 ∧ (d.request 4).1 = 0 ∧ (d.request 5).1 = 0) (hfloors : 0 ≤ d.o Obj.DCA_FLOOR ∧ 0 ≤ d.o Obj.DCB_FLOOR)
    (href : d.vRef.any (fun r => decide (r ≤ i.vdc)) = true) (hstore : 0 ≤ d.o Obj.V_DIP ∧ 0 ≤ d.o Obj.STORE_CAP ∧ 0 ≤ d.o Obj.C_LINK)
    (hfeeds : (List.range 5).all (fun n => decide (0 ≤ d.o (Obj.GRANT_FEED + n))) = true) (himp : (d.request 1).1 ≤ d.capacity.1) :
    (x.bookGrants i.vdc i.measured).tra = ((d.request 1).1 : Nat) ∧ (x.bookGrants i.vdc i.measured).trb = 0 ∧ (x.bookGrants i.vdc i.measured).grd = 0 ∧ (x.bookGrants i.vdc i.measured).dca = 0 ∧
      (x.bookGrants i.vdc i.measured).dcb = 0 := by
  obtain ⟨hdip, hcap, hlink⟩ := hstore
  obtain ⟨r, hr, hle⟩ := (Option.any_eq_true _ _).mp href
  have hle := of_decide_eq_true hle
  have hkeys : ∀ n ∈ List.range 5, isRestKey (Obj.GRANT_FEED + n) = false ∧ isStatus (Obj.GRANT_FEED + n) = false := by decide
  have hgrant : ∀ n ∈ List.range 5, 0 ≤ x.o (Obj.GRANT_FEED + n) := fun n hn => by
    rw [h.o (hkeys n hn).1 (hkeys n hn).2]
    exact of_decide_eq_true (List.all_eq_true.mp hfeeds n hn)
  have hbooks : x.bookGrants i.vdc i.measured = grants (x.books i.vdc i.measured) := by simp only [Dev.bookGrants, hopen, Bool.false_eq_true, if_false]
  have hcred := credit_nonneg hlen hgrant (-1)
  have hallow : 0 ≤ x.allowance i.vdc ((i.vdc : Int) - (r - 10 * x.o Obj.V_DIP)) := by
    refine allowance_nonneg ?_ ?_ ?_
    · rwa [h.o (by decide) (by decide)]
    · rwa [h.o (by decide) (by decide)]
    · rw [h.o (by decide) (by decide)]
      omega
  obtain ⟨⟨ev, elow⟩, eimp, edn, ecred, ⟨ea, eb⟩, etra, etrb, egrd, edca, edcb⟩ := books_entries (h.vRef.trans hr) (funext h.request) i.vdc i.measured
  rw [hbooks]
  generalize x.books i.vdc i.measured = b at *
  simp only [h.imp, hreq, Nat.cast_zero, h.o (k := Obj.DCA_FLOOR) (by decide) (by decide), h.o (k := Obj.DCB_FLOOR) (by decide) (by decide), h.o (k := Obj.V_LOW) (by decide) (by decide)] at *
  have hvlow : b.low ≤ b.v := by
    rw [ev, elow]
    simp only [Dev.n] at hlow
    omega
  obtain ⟨gtra, hrest⟩ := grants_alone ⟨etrb, egrd, edca, edcb⟩ ⟨ea ▸ hfloors.1, eb ▸ hfloors.2⟩ hvlow (edn ▸ hallow) (ecred ▸ hcred) (by omega) (by omega)
  exact ⟨gtra.trans etra, hrest⟩

theorem ledgerPeriod_alone (s : State) (i : LinkIn) (ha : s.dev.alive = true) (hq : linkQuiet s.dev i = true) (ho : s.dev.link.opening = []) (hlnk : s.dev.domainState .lnk < 3)
    (hlen : i.measured.length ≤ 5) (hlow : s.dev.n Obj.V_LOW * 10 < i.vdc)
    (hreq : (s.dev.request 2).1 = 0 ∧ (s.dev.request 3).1 = 0 ∧ (s.dev.request 4).1 = 0 ∧ (s.dev.request 5).1 = 0) (hfloors : 0 ≤ s.dev.o Obj.DCA_FLOOR ∧ 0 ≤ s.dev.o Obj.DCB_FLOOR)
    (href : s.dev.vRef.any (fun r => decide (r ≤ i.vdc)) = true) (hstore : 0 ≤ s.dev.o Obj.V_DIP ∧ 0 ≤ s.dev.o Obj.STORE_CAP ∧ 0 ≤ s.dev.o Obj.C_LINK)
    (hfeeds : (List.range 5).all (fun n => decide (0 ≤ s.dev.o (Obj.GRANT_FEED + n))) = true) (himp : (s.dev.request 1).1 ≤ s.dev.capacity.1) :
    Completes (.ledgerPeriod i) s (fun e => e.o (Obj.GRANT_DRAW) = ((s.dev.request 1).1 : Nat) ∧ (∀ n ∈ List.range 4, e.o (Obj.GRANT_DRAW + n + 1) = 0) ∧ e.o Obj.IMP = (s.dev.capacity.1 : Nat) ∧
      e.o Obj.VDC = i.vdc ∧ e.o Obj.PERIODS = wrapU32 (s.dev.o Obj.PERIODS + 1) ∧ ({ s.dev with nfLevel := e.nfLevel, nfSeen := e.nfSeen, shift := e.shift } : Dev).RaisesOnly e ∧
      OnlyObjects (fun k => ledgerShows k || isReaction k) s.dev e) := by
  refine completes_live_eq _ rfl ha rfl ?_
  have hperiod := ledgerPeriod_quiet hq
  generalize s.dev.ledgerPeriod i = e at *
  have hbooks := hperiod.books
  obtain ⟨b, u, hrest⟩ := hbooks.rest
  have hbarred : (s.dev.atBooks i).grantsBarred = false := by
    have hopen : (s.dev.atBooks i).link.opening = [] := (congrArg (fun x : Dev => x.link.opening) hrest :).trans ho
    have hreqopen : (s.dev.atBooks i).openRequest = false := (congrArg Dev.openRequest hrest :).trans (atRest_of_linkQuiet hq).1.openRequest
    simp only [Dev.grantsBarred, hbooks.domainState (dom := .lnk) (by decide), hopen, hreqopen, List.isEmpty_nil, Bool.not_true, Bool.or_false, decide_eq_false_iff_not]
    omega
  obtain ⟨htra, htrb, hgrd, hdca, hdcb⟩ := books_alone hbooks hbarred hlen hlow hreq hfloors href hstore hfeeds himp
  have hdraw := hperiod.draw
  rw [htra, htrb, hgrd, hdca, hdcb] at hdraw
  have hstatus : ∀ n ∈ List.range 4, n + 1 ∈ List.range 5 ∧ isStatus (Obj.GRANT_DRAW + n + 1) = false := by decide
  have hzero : ∀ n ∈ List.range 4, ([0, 0, 0, 0] : List Int).getD n 0 = 0 := by decide
  refine ⟨(Dev.o_settle _ (by decide)).trans (hdraw 0 (by decide)), fun n hn => ?_, ?_, (Dev.o_settle _ (by decide)).trans hperiod.vdc, (Dev.o_settle _ (by decide)).trans hperiod.periods,
    (hperiod.frame.trans (Dev.raises_settle e).ledger).raises, hperiod.objs.settle⟩
  · obtain ⟨hn5, hs⟩ := hstatus n hn
    exact (Dev.o_settle _ hs).trans ((hdraw (n + 1) hn5).trans (hzero n hn))
  · rw [Dev.o_settle _ (by decide), hperiod.imp, hbooks.imp]

/-! ### O52 -/

/-- Settles O52: a quiet period comes to its books with nothing changed that they read, and nFAULT is evaluated last. -/
theorem ledgerPeriods : Obligations.LedgerPeriods :=
  ⟨ledgerPeriod_opening, ledgerPeriod_alone, ledgerPeriod_policy, ledgerPeriod_lockoutClear, nfaultLevelWrite_delivered, nfaultLevelWrite_refused, nfaultPulseEnd_completes⟩

end Sys2Proof.Machine
end
